-- ==== Sys2Proof/Word.lean ====
section
/-! DEFINITION. The word types of the HD9612 model and the sparse table type. -/

namespace Sys2Proof

/-- A byte. -/
abbrev Byte := BitVec 8
/-- A 64-bit register or descriptor word (R6, R8). -/
abbrev Word := BitVec 64
/-- A coherence line, or a 64 B descriptor, of 64 bytes in little-endian order (R6). -/
abbrev Line := BitVec 512
/-- A partition key (R62). -/
abbrev Key := BitVec 16
/-- An endpoint ID (R340). -/
abbrev Endpoint := BitVec 16
/-- A pool offset: a position in the 256 TiB pool space of one device (R56). -/
abbrev PoolOff := BitVec 48
/-- A fabric address: home switch [59:48], pool offset [47:0] (R56). -/
abbrev FabAddr := BitVec 60
/-- A port number, 0 to 127 (R13). -/
abbrev PortId := Fin 128
/-- A home agent partition, 0 to 15 (R88). -/
abbrev PartId := Fin 16
/-- A slice, 0 to 16; slice 16 is the spare (R13). -/
abbrev SliceId := Fin 17
/-- A memory stack, 0 to 11. -/
abbrev StackId := Fin 12
/-- A BAU bank of a stack, 0 to 255. -/
abbrev BankId := Fin 256
/-- A ring pair, 0 to 4,095 (R26). -/
abbrev RingId := Fin 4096
/-- A handle as a command names it. Bits [63:0] are the handle: ring [63:52], ring generation [51:48], sequence [47:0] (R40). Bits [79:64] are 0 for
a ring of this device, 1 + the switch ID for a descriptor forwarded here (R165), and 0x8000 + n for policy module n's queue (R466). -/
abbrev Handle := BitVec 80
/-- The same. -/
abbrev HRef := Handle

/-- Sparse data by number, kept with strictly rising keys. -/
abbrev Tbl (α : Type) := List (Nat × α)

end Sys2Proof
end

