-- ==== Sys2Proof/Types.lean ====
section
/-! DEFINITION. The types that commands and the state share: statuses, requests, atomics, snoop answers, packets. -/

namespace Sys2Proof

/-- Traffic classes TC0 to TC7 as numbers. -/
abbrev Tc := BitVec 3

/-- Completion statuses (02, R47). -/
inductive Status where
  | ok | aborted | alreadyDone | baseMoved | revoked | overQuota | fenced | inTransitTimeout | sizeMismatch | tableBusy
  | noSpare | keyReject | badDescriptor | poisoned | interrupted | busy | staleEpoch | notOwner
  deriving DecidableEq, Repr, Inhabited

/-- Memory tiers (08, R190). -/
inductive Tier where
  | t0 | t1 | t2
  deriving DecidableEq, Repr, Inhabited

/-- Requests to a home (04, R92; 06, R153). -/
inductive ReqKind where
  | rdNC | rdShared | rdOwn | atomNear | wrLine | wrPtl | atomFar | atomComb
  deriving DecidableEq, Repr, Inhabited

/-- Completions (Cmp subtypes of 04, 05 and 06). -/
inductive CmpKind where
  | cmpWr | cmpWb | cmpI | cmpS | cmpE | cmpM | cmpAtom | gntAck | cmpFence | cmpFar | cmpComb | cmpErr
  deriving DecidableEq, Repr, Inhabited

/-- Snoops (04, R92). -/
inductive SnpKind where
  | inv | shr | cur
  deriving DecidableEq, Repr, Inhabited

/-- Who may hold a line: an endpoint, or the ring of the privileged few (04, R94, R106). -/
inductive Holder where
  | ep (e : Endpoint)
  | ring
  deriving DecidableEq, Repr, Inhabited

/-- Fields of an atomic request (06, R140); operands in the low bits of 128. -/
structure AtomF where
  op : BitVec 5 := 0
  size : BitVec 2 := 0
  fmt : BitVec 2 := 0
  comb : Bool := false
  exact : Bool := false
  noret : Bool := false
  aseq : BitVec 16 := 0
  a : BitVec 128 := 0
  b : BitVec 128 := 0
  deriving DecidableEq, Repr, Inhabited

/-- One result of a CmpComb (R153, R424): the contributor's endpoint and ATAG, and its result. -/
structure CombRes where
  ep : Endpoint
  tag : BitVec 14
  val : BitVec 128
  deriving DecidableEq, Repr, Inhabited

/-- A contributor record of an AtomComb (06, R153). -/
structure CombRec where
  ep : Endpoint
  tag : BitVec 14
  aseq : BitVec 16
  opnd : BitVec 128
  noret : Bool := false
  deriving DecidableEq, Repr, Inhabited

/-- Where a request comes from: a Bromet host, a CXL host, a ring member (Trestle unit or Settle core), a Winch
engine or Nimpa (R66, R106, R112). -/
inductive Origin where
  | bromet | cxl | ring | winch
  deriving DecidableEq, Repr, Inhabited

end Sys2Proof

namespace Sys2Proof.Machine

/-- An extent (R63): `grants` are the other grantees with RW (true) or RO; `tiers` bit i allows tier i. -/
structure Extent where
  id : Nat
  base : Nat
  len : Nat
  owner : Key
  grants : List (Key × Bool) := []
  tiers : BitVec 3 := 0
  initTier : Tier := .t0
  deriving DecidableEq, Repr, Inhabited

end Sys2Proof.Machine

namespace Sys2Proof

/-- A request of TC6 or TC5 on its way to its home (04, R92; 05, ordering fields; 06, R140). `ro` and `gen` are the
marks the ingress port island adds (R65), and `ext` the extent that its check found, under whose setting the request is then
handled (R14, R69); `num` is its arrival number there (R126); `at_` and `hseq` are the time and number of its arrival at the
ordering point of its home (R89). -/
structure Req where
  kind : ReqKind
  src : Endpoint
  tag : BitVec 14
  port : PortId
  addr : FabAddr
  key : Key
  checked : Option Key := none
  origin : Origin := .bromet
  tc : Tc := 6
  otag : BitVec 4 := 0
  rel : Bool := false
  acq : Bool := false
  data : Line := 0
  mask : BitVec 64 := 0
  poison : Bool := false
  atom : AtomF := {}
  recs : List CombRec := []
  rseq : Option (BitVec 16) := none
  mark : Bool := false
  ro : Bool := false
  gen : Nat := 0
  num : Nat := 0
  ext : Option Machine.Extent := none
  at_ : Nat := 0
  hseq : Nat := 0
  badSlots : Bool := false
  deriving DecidableEq, Repr, Inhabited

/-- Whether the source marked a request as bulk: it travels in TC5 (R92). -/
def Req.bulk (r : Req) : Bool := r.tc == 5

/-- What the data code found in data read from memory (20, R475). -/
inductive Ecc where
  | clean | corrected | uncorrectable
  deriving DecidableEq, Repr, Inhabited

/-- The two checks of a codeword of a line that is read (R244): by the base die, and by the stack-interface island on arrival. -/
structure CwCheck where
  die : Ecc := .clean
  island : Ecc := .clean
  deriving DecidableEq, Repr, Inhabited

/-- The four codewords of a line (R244). -/
structure LineChecks where
  c0 : CwCheck := {}
  c1 : CwCheck := {}
  c2 : CwCheck := {}
  c3 : CwCheck := {}
  deriving DecidableEq, Repr, Inhabited

/-- The outcomes of a line's eight checks. -/
def LineChecks.all (l : LineChecks) : List Ecc := [l.c0, l.c1, l.c2, l.c3].flatMap (fun c => [c.die, c.island])

/-- What a read of host memory returned (R38, R80): data, poisoned data, or another failure. -/
inductive HostRead where
  | data (bytes : List Byte)
  | poisoned
  | failed
  deriving DecidableEq, Repr, Inhabited

/-- Strongest state the ring keeps after a broadcast snoop (04, R107). -/
inductive Kept where
  | none | shared | same
  deriving DecidableEq, Repr, Inhabited

/-- What the fetch of a descriptor returned (R38). -/
inductive Fetched where
  | data (d : Line)
  | poisoned
  | failed
  deriving DecidableEq, Repr, Inhabited

/-- A WbDirty, snoop response or GntAck as it enters a port (04, R103): only its key is checked there. `wb`: it came on the
writeback sub-channel of TC7 (R92); `stag`: the snoop tag of a snoop response (R422); `away`: the home switch of its line where that is
another (R56). -/
structure TcMsg where
  port : PortId
  src : Endpoint
  key : Key
  off : PoolOff
  tc : Tc := 7
  wb : Bool := false
  stag : BitVec 14 := 0
  away : Option (BitVec 12) := none
  deriving DecidableEq, Repr, Inhabited

/-- A CXL.mem request at a CXL host port, with its host physical address (04, R112). -/
structure CxlReq where
  port : PortId
  tag : BitVec 14
  hpa : Word
  deriving DecidableEq, Repr, Inhabited

/-- MetaField and MetaValue of a CXL MemRd (04, R112). -/
inductive CxlMeta where
  | noOp | i | s | a
  deriving DecidableEq, Repr, Inhabited

/-- What a Winch unit met (R71, R199): its host read, or the outcome of its remote part. -/
inductive UnitResult where
  | done
  | hostData (bytes : List Byte)
  | remoteData (bytes : List Byte) (poison : Bool)
  | remoteRefused (s : Status)
  | hostPoison
  deriving DecidableEq, Repr, Inhabited

/-- A logical Trestle unit, 0 to 63 (12). -/
abbrev TUnit := Fin 64
/-- A resident gang of a Trestle unit, 0 to 511 (12, R294). -/
abbrev GangId := Fin 512

/-- What came back for a waiting gang (12, R299): values per thread, or a status. -/
inductive GangData where
  | lines (d : List (Line × Bool))
  | refused (s : Status)
  deriving DecidableEq, Repr, Inhabited

/-- What the receiver found of a flit (R410, R421, R422, R433): good, or why it rejects it; for uncorrectable codewords
the logical lane that carried at least half of the bad symbols, if one did. -/
inductive FlitCheck where
  | good
  | fec (lane : Option (Fin 8))
  | crc
  | format
  | tag
  deriving DecidableEq, Repr, Inhabited

/-- A received flit's link header (R421), and the Ctl counter of an encrypted Ctl flit (R434). `corr`: outer-code symbols that the
decoder corrected, by physical lane of the group (R419); `msgs`: the credit channel of each message in its slots (R426). -/
structure Flit where
  ctl : Bool
  fseq : BitVec 12
  check : FlitCheck := .good
  ack : Option (BitVec 12) := none
  credit : Option (Fin 9 × BitVec 12) := none
  enc : Bool := false
  phase : Bool := false
  ctlCount : Nat := 0
  bytes : Nat := 240
  corr : List (Fin 9 × Nat) := []
  msgs : List (Fin 9) := []
  deriving DecidableEq, Repr, Inhabited

/-- A superframe marker (R411). -/
structure Marker17 where
  sync : BitVec 16
  sfCount : BitVec 8
  laneState : BitVec 8
  deriving DecidableEq, Repr, Inhabited

/-- A training block of a lane (17). -/
structure TrainBlock where
  lane : Fin 9
  crcOk : Bool
  widthCap : BitVec 4
  spareCap : Bool
  encReq : Bool
  encCap : Bool
  eqDone : Bool
  locked : Bool
  switchId : BitVec 12
  port : BitVec 7
  epoch : BitVec 8
  deriving DecidableEq, Repr, Inhabited

/-- A CONFIG Ctl message (R414, R422). -/
structure ConfigMsg where
  widthCap : BitVec 4
  spareCap : Bool
  encReq : Bool
  encCap : Bool
  switchId : BitVec 12
  epoch : BitVec 8
  deriving DecidableEq, Repr, Inhabited

/-- LANE_REQ operations (R422). -/
inductive LaneOp where
  | start | done | abandon
  deriving DecidableEq, Repr, Inhabited

/-- An HDM decoder of a CXL host port (R445): base and size in host physical addresses, interleave ways, granularity and
this port's position, and the DPA base it starts at. -/
structure Hdm where
  base : Nat
  size : Nat
  ways : Nat
  gran : Nat
  pos : Nat
  dpa : Nat
  deriving DecidableEq, Repr, Inhabited

/-- What the host of a CXL port sets in the port's component registers (R441, R446). -/
structure CxlCap where
  bi : Bool
  memEn : Bool
  decoders : List Hdm
  deriving DecidableEq, Repr, Inhabited

/-- What Nimpa finds of a tray (R452). -/
structure TrayInfo where
  type3 : Bool
  mediaReady : Bool
  capacity : Nat
  deriving DecidableEq, Repr, Inhabited

/-- A tray's response (R453, R454): good data or Poison, and its DevLoad. -/
structure TrayResp where
  poison : Bool
  devLoad : BitVec 2
  deriving DecidableEq, Repr, Inhabited

/-- Kinds of a cell descriptor (15). -/
inductive CellKind where
  | data | notice | marker
  deriving DecidableEq, Repr, Inhabited

/-- Colours (16). -/
inductive Colour where
  | green | yellow | red
  deriving DecidableEq, Repr, Inhabited

/-- A completion on its way to the endpoint of its source (R92, R149, R153, R424). -/
structure CmpMsg where
  dst : Endpoint
  tag : BitVec 14
  kind : CmpKind
  status : Status := .ok
  data : Option Line := none
  poison : Bool := false
  echo : Bool := false
  deriving DecidableEq, Repr, Inhabited

/-- What a packet in the core carries: a request with its bridle, a completion, or a message by kind and fields. -/
inductive Body where
  | req (r : Req) (bridle : Word)
  | cmp (m : CmpMsg)
  | msg (what : String) (fields : List Nat)
  deriving DecidableEq, Repr, Inhabited

/-- A cell (15): its source island and egress port, class, key, packet marks, kind, colour and marks. `tether` is the ID of
the ACTIVE tether that its packet matches. -/
structure Cell where
  src : Fin 165
  port : PortId
  tc : Tc
  key : Key
  start : Bool
  fin : Bool
  bytes : Fin 257
  kind : CellKind := .data
  tether : Option (BitVec 32) := none
  train : Option (BitVec 32) := none
  colour : Colour := .green
  mark : Bool := false
  poison : Bool := false
  body : Option Body := none
  deriving DecidableEq, Repr, Inhabited

/-- A packet that arrives on a trunk (R342): its bridle, class, key, source and destination, and content. -/
structure Packet where
  bridle : Word
  tc : Tc
  key : Key
  src : Endpoint
  dst : Option Endpoint
  ckey : Option Key := none
  colour : Colour := .green
  badSlots : Bool := false
  body : Body
  deriving DecidableEq, Repr, Inhabited

/-- A member of a train as its edge switch knows it (R316, R317): index, endpoint, landing kind (0 none, 1 pool, 2 host), landing
address and flag address. -/
structure TrainMember where
  idx : Nat
  ep : Endpoint
  kind : Nat := 0
  land : Word := 0
  flagAt : Word := 0
  deriving DecidableEq, Repr, Inhabited

/-- A train entry of a switch (R316, R317): the member count of the image, parent port, child ports, local members, and for each child
port the lowest member index beneath it (R328); the smallest landing length of the image's members (R322). `root` is set on the root switch. -/
structure TrainEnt where
  id : BitVec 32
  gen : BitVec 16
  owner : Key
  count : Nat
  root : Bool
  parent : Option PortId
  children : BitVec 128
  locals : List TrainMember
  lowest : List (PortId × Nat)
  minLand : Option Nat := none
  deriving DecidableEq, Repr, Inhabited

/-- A switch's answer to a train entry (R320). -/
inductive TrainReply where
  | accepted | noRole | noRoom | noKey
  deriving DecidableEq, Repr, Inhabited

/-- Messages of trains between switches (R320, R321, R333): an entry to check, an answer, the adoption of a generation, its report, the removal of
entries, and a generation raised by a fence with the members that it pruned. -/
inductive TrainMsg where
  | entry (e : TrainEnt)
  | reply (id : BitVec 32) (gen : BitVec 16) (sw : BitVec 12) (r : TrainReply)
  | adopt (id : BitVec 32) (gen : BitVec 16)
  | adopted (id : BitVec 32) (gen : BitVec 16) (sw : BitVec 12)
  | withdraw (id : BitVec 32) (gen : BitVec 16)
  | raise (id : BitVec 32) (gen : BitVec 16) (cut : List Nat)
  | remove (id : BitVec 32)
  deriving DecidableEq, Repr, Inhabited

/-- The parameters of a collective instance (R324, R327). -/
structure CollParams where
  kind : Nat
  fmt : Nat := 0
  red : Nat := 0
  root : Nat := 0
  len : Nat := 0
  deriving DecidableEq, Repr, Inhabited

/-- Where a segment comes from (R325): the send buffer of a local member, a child switch, the parent (or the root's own result), the completion at
another switch of a local member's writes, the acknowledgement of MCAST members, the record of a REDUCE's root, or a switch that found unequal
parameters; the last two with the port that brings them. -/
inductive SegFrom where
  | member (idx : Nat)
  | child (p : PortId)
  | down
  | wrote (idx : Nat)
  | ack (members : List Nat)
  | rootDone (p : PortId)
  | mismatch (p : PortId)
  deriving DecidableEq, Repr, Inhabited

/-- A segment at a switch (R325): train, generation, sequence, the poster of an MCAST, parameters, segment number; its data by member (one
entry, of index 0xFFFF, for a combination) with poison per line; members included; how the reading of a send buffer ended; for a released
instance its index code and first uncertain segment; the MCAST count; with an acknowledgement, the members whose landings were refused. -/
structure SegMsg where
  train : BitVec 32
  gen : BitVec 16
  seq : Nat
  poster : Option Nat := none
  par : CollParams
  src : SegFrom
  seg : Nat
  data : List (Nat × List (Line × Bool)) := []
  count : Nat := 0
  status : Status := .ok
  rel : Option (Nat × Nat) := none
  mcount : Nat := 0
  failed : List (Nat × Status) := []
  deriving DecidableEq, Repr, Inhabited

/-- A tether entry as a switch of the route receives it (R355, R356): ID, its index in the plan, ports (`outPort` none for the HOME entry), class,
units, owner, flow fields and bridle. -/
structure TetherEnt where
  id : BitVec 32
  idx : Nat
  inPort : PortId
  outPort : Option PortId
  tc : Tc
  units : Nat
  owner : Key
  src : Endpoint
  dst : Endpoint
  dsw : BitVec 12
  home : Bool
  bridle : Word
  deriving DecidableEq, Repr, Inhabited

/-- A switch's answer to its tether entry (R356, R357). -/
inductive TetherReply where
  | accepted | noRole | noKey | noRoom | fenced
  deriving DecidableEq, Repr, Inhabited

/-- Messages of tethers between switches (R357, R359, R360): an entry to check, an answer, the removal of an entry, and its report. -/
inductive TetherMsg where
  | entry (e : TetherEnt)
  | reply (id : BitVec 32) (sw : BitVec 12) (r : TetherReply)
  | remove (id : BitVec 32)
  | removed (id : BitVec 32) (sw : BitVec 12)
  deriving DecidableEq, Repr, Inhabited

/-- A fence or unfence notice from another switch (R490): domain, origin and its fence generation. -/
structure NoticeMsg where
  domain : BitVec 32
  unfence : Bool
  origin : BitVec 12
  gen : BitVec 32
  deriving DecidableEq, Repr, Inhabited

/-- A reference clock (R500): that of a quadrant, of the management endpoint, or the crystal. -/
inductive RefId where
  | quadrant (q : Fin 4)
  | mgmt
  | xtal
  deriving DecidableEq, Repr, Inhabited

/-- What the start-up test found (R517): units that failed, and repairs of rows and data lines. Rows are named by stack, BAU bank and DRAM bank,
lines by stack and line, buffer rows by slice. -/
structure TestResult where
  slices : List (Fin 17) := []
  banks : List (StackId × BankId) := []
  spareUnits : List (StackId × Fin 16) := []
  stackRecs : List StackId := []
  units : List (Fin 72) := []
  cores : List (Fin 36) := []
  winch : List (Fin 20) := []
  compr : List StackId := []
  rows : List (StackId × BankId × Fin 64) := []
  lines : List (StackId × Nat) := []
  bufRows : List (Fin 17) := []
  deriving DecidableEq, Repr, Inhabited

/-- A frame other than IEEE 1588 at the management Ethernet port (R553): an ARP request with its target address, or another. -/
structure EthFrame where
  arp : Option (BitVec 32)
  tagged : Bool := false
  fcsOk : Bool := true
  deriving DecidableEq, Repr, Inhabited

/-- A boundary-scan instruction (22, R538): the three that act at any time, or another by its code. -/
inductive TapInstr where
  | bypass | idcode | sample
  | other (code : Nat)
  deriving DecidableEq, Repr, Inhabited

end Sys2Proof
end

