-- ==== Sys2Proof/Syntax.lean ====
section
/-! DEFINITION. The commands of the HD9612: one constructor for each row of the table of operations and events. -/

namespace Sys2Proof

/-- A command: an operation or an event of the device, whole and indivisible. -/
inductive Instr where
  -- Management (23)
  /-- REGISTER_WRITE (R8). A BAR0 write to a register that has no row of its own sets, clears or ignores each field by its access type. -/
  | registerWrite (off : BitVec 32) (bytes : Nat) (data : Word)
  /-- LOW_WORD_READ (R556). A 4 B read of the low word of a 64-bit register latches the high word for the same requester. -/
  | lowWordRead (requester : BitVec 16) (off : BitVec 32)
  /-- SETUP_OPEN_CLOSE (R548). A write of 1 to a block's SETUP_OPEN closes set-up after the write's own RWL fields are applied; PORT_CFG settings then take effect and the port trains. -/
  | setupOpenClose (off : BitVec 32) (data : Word)
  /-- SERVE (R518). A SERVE write is accepted only in SETUP with every required SETUP_OPEN closed and a valid SWITCH_ID; it enables DOM_ALERT_N and starts serving. -/
  | serve
  /-- TENANT_CTL_WRITE (R62). A write of VALID in GLOBAL_TENANT_CTL creates or removes a tenant, or is refused and sets ERR. -/
  | tenantCtlWrite (t : Fin 4096) (data : Word)
  /-- PORT_KEY_WRITE (R348). A write of a port key table entry takes effect at the port island within 2 µs, at one point in its event order. -/
  | portKeyWrite (p : PortId) (e : Fin 64) (data : Word)
  /-- POLICER_WRITE (R394). A write of a port policer takes effect within 2 µs with both buckets full. -/
  | policerWrite (p : PortId) (i : Fin 64) (w0 w1 : Word)
  /-- WRED_PROFILE_WRITE (R396). A write of a WRED profile or map takes effect at each ingress slice within 2 µs, or is ignored when the thresholds are inconsistent. -/
  | wredProfileWrite (map : Option PortId) (i : Fin 16) (data : Word)
  /-- BOARD_READ (R550). A board controller transfer reads one permitted 8 B register as one access, or returns zero and counts BOARD_DENIED. -/
  | boardRead (off : BitVec 32)
  /-- BOARD_WRITE (R551). A board controller write clears permitted RW1C alert bits, or is ignored and counts BOARD_DENIED. -/
  | boardWrite (off : BitVec 32) (data : Word)
  /-- MSIX_UNMASK (R546). Unmasking an MSI-X vector delivers a pending event once. -/
  | msixUnmask (v : Fin 2048)
  /-- JTAG_INSTRUCTION (R538). A boundary-scan instruction loaded into the TAP acts, or BYPASS is loaded in its place outside TEST, FIRMWARE and STOPPED. -/
  | jtagInstruction (i : TapInstr)
  -- Rings and handles (02)
  /-- RING_ENABLE (R30). ENABLE set to 1 on a DISABLED ring either activates it with a new generation and writes held records first, or is refused and sets CFG_ERR. -/
  | ringEnable (n : RingId)
  /-- RING_DISABLE (R30). ENABLE set to 0 stops fetching and moves an ACTIVE ring to DRAINING or a HALTED ring toward DISABLED. -/
  | ringDisable (n : RingId)
  /-- RESUME (R30). RESUME returns a HALTED ring to ACTIVE, writes its held records in commit order and restarts fetching. -/
  | resume (n : RingId)
  /-- RING_DRAINED (R30). A DRAINING or disabling HALTED ring becomes DISABLED once its live count is 0 and its records are written or dropped. -/
  | ringDrained (n : RingId)
  /-- DOORBELL (R32). A doorbell word, as a Dbl flit or BAR2 page write, updates the ring's accepted SQ_TAIL and CQ_HEAD or halts the ring. -/
  | doorbell (via : Option PortId) (key : Key) (word : Word)
  /-- DESCRIPTOR_FETCH (R35). The device fetches a descriptor of a ring in rotation once a completion slot can be reserved and the global limits allow. -/
  | descriptorFetch (ok : Bool)
  /-- DESCRIPTOR_ARRIVE (R38). Fetched descriptor data arrives and is checked in order, completing POISONED, KEY_REJECT or BAD_DESCRIPTOR or starting the operation. -/
  | descriptorArrive (h : Handle) (d : Fetched)
  /-- HOST_IMAGE_READ_DONE (R80). The host read of an image named by a descriptor returns and the image is validated before any change. -/
  | hostImageReadDone (h : HRef) (r : HostRead)
  /-- LATCH_SET (R49). An engine's completion reaches a handle's commit latch first and commits the operation. -/
  | latchSet (h : HRef) (ret : Option (Status × Word × Word))
  /-- COMPLETION_RECORD_WRITE (R44). The device writes a committed handle's 32 B record in commit order, with SPLIT_PHASE handling. -/
  | completionRecordWrite (n : RingId) (ok : Bool)
  /-- NOTIFICATION (R45). A notification for visible NOTIFY records is sent once HOLDOFF_US has passed since the ring's last notification. -/
  | notification (n : RingId)
  /-- ABORT_STOP_POINT (R52). After an abort wins, the owning engine reaches its next stop point and the target's ABORTED record is written. -/
  | abortStopPoint (h : HRef)
  /-- HELD_RECORD_DROP (R55). Records held across a warm reset for a ring not enabled within 10 s are dropped and counted in REC_DROP. -/
  | heldRecordDrop (n : RingId)
  /-- NOP (R46). NOP does nothing and completes OK. -/
  | nop (h : Handle)
  /-- ABORT (R50). ABORT names a handle and its request races the target's completion to the latch. -/
  | abort (h : HRef)
  /-- QUERY_HANDLE (R48). QUERY_HANDLE returns the state, opcode, progress and tag of a handle of the same key. -/
  | queryHandle (h : Handle)
  -- Composition and request ingress (03)
  /-- EXTENT_CREATE (R72). EXTENT_GRANT with CREATE creates an extent owned by the grantee key as a composition change. -/
  | extentCreate (h : Handle)
  /-- EXTENT_GRANT (R72). EXTENT_GRANT without CREATE adds a grantee or changes its access as a composition change. -/
  | extentGrant (h : Handle)
  /-- EXTENT_REVOKE (R74). EXTENT_REVOKE removes a grantee key, or deletes the extent when it names the owner. -/
  | extentRevoke (h : Handle)
  /-- EXTENT_RESIZE (R74). EXTENT_RESIZE moves the end of an extent, revoking a cut tail or growing it. -/
  | extentResize (h : Handle)
  /-- QUOTA_SET (R85). QUOTA_SET sets a tenant's quotas per tier and starts demotion of any excess. -/
  | quotaSet (h : Handle)
  /-- QUOTA_DEMOTION_END (R87). Quota demotion reaches quota or can remove no further excess, and QUOTA_SET completes OK or OVER_QUOTA. -/
  | quotaDemotionEnd (h : Handle)
  /-- MAP_COMMIT (R80). MAP_COMMIT validates a whole composition image and applies it as one generation. -/
  | mapCommit (h : Handle)
  /-- MAP_GEN_PUBLISH (R70). A validated composition change is published as a new map generation once fewer than 16 generations would be undrained. -/
  | mapGenPublish
  /-- GENERATION_DRAINED (R70). The last request stamped under an old generation in affected ranges completes and the generation is drained. -/
  | generationDrained (gen : BitVec 32)
  /-- COMPOSITION_COMPLETE (R77). A revoke, shrink or committed MAP_COMMIT completes once drain counters reach zero and every recall is answered. -/
  | compositionComplete (gen : BitVec 32)
  /-- PAGE_FREE_SCRUB (R79). A freed page finishes scrubbing to zero and returns to free capacity. -/
  | pageFreeScrub (back : BitVec 48)
  /-- XLATE_CACHE_FILL (R59). A page or extent entry missing from a port island cache is fetched and the waiting request proceeds. -/
  | xlateCacheFill (p : PortId) (src : Endpoint) (tag : BitVec 14)
  /-- PAGE_AGE_TICK (R61). Each ageing period adds 1 to every page age up to 255. -/
  | pageAgeTick
  /-- REQUEST_INGRESS (R65). A request entering its home device's port island is key-checked, stamped, extent- and object-checked, or refused. -/
  | requestIngress (r : Req)
  -- Coherence (04)
  /-- RDNC (R101). An RdNC ordered at the home is answered CmpI, snooping an owner with SnpCur when needed. -/
  | rdnc (src : Endpoint) (tag : BitVec 14)
  /-- RDSHARED (R101). A RdShared ordered at the home is granted S or E, snooping an owner with SnpShr when needed. -/
  | rdshared (src : Endpoint) (tag : BitVec 14)
  /-- RDOWN (R101). A RdOwn ordered at the home invalidates holders and grants M with data. -/
  | rdown (src : Endpoint) (tag : BitVec 14)
  /-- ATOMNEAR (R143). An AtomNear is handled as RdOwn, or applied at the home as AtomFar when the line is in Far mode. -/
  | atomnear (src : Endpoint) (tag : BitVec 14)
  /-- WRLINE (R101). A WrLine ordered at the home invalidates every holder and writes the full line in memory. -/
  | wrline (src : Endpoint) (tag : BitVec 14)
  /-- WRPTL (R101). A WrPtl ordered at the home invalidates holders and writes the masked bytes, merging dirty data. -/
  | wrptl (src : Endpoint) (tag : BitVec 14)
  /-- ATOMFAR (R144). An AtomFar ordered at the home invalidates holders and applies the atomic in memory or in the Far buffer. -/
  | atomfar (src : Endpoint) (tag : BitVec 14)
  /-- WBDIRTY (R91). A WbDirty is taken into the writeback buffer on its own credit and either written or discarded as stray. -/
  | wbdirty (m : TcMsg) (tag : BitVec 14) (data : Line) (poison : Bool)
  /-- RSPI (R101). A RspI answer closes a snoop with no copy held, counted as stale where applicable. -/
  | rspi (m : TcMsg)
  /-- RSPIWB (R101). A RspIWb answer makes the home wait for the announced WbDirty. -/
  | rspiwb (m : TcMsg)
  /-- RSPIDATA (R101). A RspIData answer supplies dirty data of an invalidated copy. -/
  | rspidata (m : TcMsg) (data : Line) (poison : Bool)
  /-- RSPS (R101). A RspS answer records the holder as a clean sharer. -/
  | rsps (m : TcMsg)
  /-- RSPSDATA (R101). A RspSData answer supplies dirty data and keeps the holder as sharer. -/
  | rspsdata (m : TcMsg) (data : Line) (poison : Bool)
  /-- RSPCUR (R101). A RspCur answer keeps the holder's state and supplies no data. -/
  | rspcur (m : TcMsg)
  /-- RSPCURDATA (R101). A RspCurData answer keeps the holder's state and supplies dirty data without a memory write. -/
  | rspcurdata (m : TcMsg) (data : Line) (poison : Bool)
  /-- GNTACK (R98). A GntAck for a CmpE or CmpM grant arrives and lets the line leave Blocked. -/
  | gntack (m : TcMsg)
  /-- TRACKER_FREE (R90). A tracker frees and the oldest request waiting for one is ordered under the state it then finds. -/
  | trackerFree (part : PartId)
  /-- WAIT_QUEUE_TAKE_UP (R99). A request waiting on a Blocked line is taken up in order once the line leaves Blocked. -/
  | waitQueueTakeUp (off : PoolOff)
  /-- RECALL_SNOOP_ISSUE (R104). A partition's recall engine issues a recall snoop within its rate of 256 per µs. -/
  | recallSnoopIssue (part : PartId)
  /-- MEMORY_READ_DONE (R244). A line read from a stack, tray or donor returns to the home with its data code checked. -/
  | memoryReadDone (off : PoolOff) (c : LineChecks)
  /-- MEMORY_WRITE_DONE (R98). A home's memory write completes and the line may leave Blocked. -/
  | memoryWriteDone (off : PoolOff)
  /-- RING_BROADCAST_RESPONSE (R107). The ring stop collects answers of a ring broadcast and gives the home one combined response. -/
  | ringBroadcastResponse (off : PoolOff) (kept : Kept) (dirty : Option (Line × Bool))
  /-- SNOOP_RETRY (R108). A snoop still unanswered at half the timeout is sent once more and counted. -/
  | snoopRetry (off : PoolOff) (dst : Endpoint)
  /-- SNOOP_TIMEOUT (R109). A snoop unanswered at the full timeout fences the endpoint, counts RspI and poisons its E and M lines. -/
  | snoopTimeout (off : PoolOff) (dst : Endpoint)
  /-- FILTER_SWEEP_END (R110). The background sweep removing a fenced endpoint from filter entries ends. -/
  | filterSweepEnd (dst : Endpoint)
  -- CXL.mem (04, 18)
  /-- CXL_MEMRD (R112). A CXL MemRd is mapped by MetaValue to RdNC, RdShared or RdOwn and handled as that request. -/
  | cxlMemrd (m : CxlReq) (value : CxlMeta)
  /-- CXL_MEMRDDATA (R112). A CXL MemRdData is handled as RdShared, granted S only. -/
  | cxlMemrddata (m : CxlReq)
  /-- CXL_MEMWR (R112). A CXL full-line MemWr is handled as WbDirty from a recorded owner, otherwise as WrLine. -/
  | cxlMemwr (m : CxlReq) (data : Line) (poison : Bool)
  /-- CXL_MEMWRPTL (R112). A CXL MemWrPtl is handled as WrPtl. -/
  | cxlMemwrptl (m : CxlReq) (data : Line) (mask : BitVec 64) (poison : Bool)
  /-- MEMCLNEVCT (R113). A MemClnEvct removes the host from the filter entry without data. -/
  | memclnevct (m : CxlReq)
  /-- MEMSPECRD (R442). A MemSpecRd is accepted and ignored. -/
  | memspecrd (m : CxlReq)
  /-- MEMINV (R442). MemInv or MemInvNT is completed with Cmp, has no effect and is counted. -/
  | meminv (m : CxlReq)
  /-- BIRSPI (R113). A BIRspI answers a back-invalidate snoop with no copy kept. -/
  | birspi (p : PortId) (off : PoolOff) (stag : BitVec 14)
  /-- BIRSPS (R113). A BIRspS answers a back-invalidate snoop with a shared copy kept. -/
  | birsps (p : PortId) (off : PoolOff) (stag : BitVec 14)
  /-- BIRSPE (R113). A BIRspE answers a BISnpCur with the state kept. -/
  | birspe (p : PortId) (off : PoolOff) (stag : BitVec 14)
  /-- BICONFLICT (R113). A BIConflict from a host is answered BIConflictAck after the conflicting completion and the host request is ordered after the open transaction. -/
  | biconflict (p : PortId) (off : PoolOff)
  -- Ordering (05)
  /-- FENCEALL (R126). A FenceAll flit holds later requests of the source until every earlier request has retired. -/
  | fenceall (p : PortId) (src : Endpoint)
  /-- FENCEWR (R126). A FenceWr flit holds later requests until earlier writes, atomics and ownership reads have retired. -/
  | fencewr (p : PortId) (src : Endpoint)
  /-- FENCESYNC (R126). A FenceSync flit holds later requests until all earlier requests retire and WbDirty are acknowledged, then sends CmpFence. -/
  | fencesync (p : PortId) (src : Endpoint)
  /-- REQUEST_RETIRE (R118). A completion entering the source's egress port island retires its request and may release held requests. -/
  | requestRetire (src : Endpoint) (tag : BitVec 14)
  /-- HELD_REQUEST_RELEASE (R125). A request held under REL, ACQ or Fence is released within 20 ns of the retirement that frees it. -/
  | heldRequestRelease (src : Endpoint) (tag : BitVec 14)
  -- Atomics and Far mode (06)
  /-- ATOMCOMB (R153). An AtomComb arrives at the home and its records are applied as one group, or refused on a host port. -/
  | atomcomb (r : Req)
  /-- CMPCOMB (R153). A CmpComb reaches the combining trunk port island, which sends each contributor its CmpAtom. -/
  | cmpcomb (p : PortId) (tag : BitVec 14) (results : List CombRes) (poison : Bool)
  /-- ATOMRETIRE (R157). An AtomRetire Msg carries a source's RSEQ to the home switch. -/
  | atomretire (p : PortId) (src : Endpoint) (key : Key) (home : BitVec 12) (rseq : BitVec 16)
  /-- ATOMIC_WINDOW_RELEASE (R159). An atomic waiting for the 256-atomic limit toward a home switch is released when retirements make room. -/
  | atomicWindowRelease (src : Endpoint) (tag : BitVec 14)
  /-- REPLAY_ENTRY_FREE (R155). A replay entry frees and an atomic held for a full replay table passes to ordering. -/
  | replayEntryFree (part : PartId)
  /-- FAR_ENTER (R148). The recall of an ENTERING line ends and its value is read into the Far buffer; the line becomes FAR. -/
  | farEnter (off : PoolOff)
  /-- FAR_LINE_OP (R149). The home serves the next request or combined group of a Far line from its Far buffer. -/
  | farLineOp (off : PoolOff)
  /-- FAR_QUIET_EXPIRE (R148). A Far line with no request for QUIET_US goes to LEAVING and its value is written back. -/
  | farQuietExpire (off : PoolOff)
  /-- FAR_EXIT_DONE (R148). The exit write of a LEAVING line completes and the line becomes NEAR in state I. -/
  | farExitDone (off : PoolOff)
  -- Shelves and drawers (07)
  /-- FORWARDED_DESCRIPTOR (R165). A descriptor forwarded over TC4 arrives at the object's home device, which checks and runs it. -/
  | forwardedDescriptor (sw : BitVec 12) (h : Handle) (key : Key) (desc : Line)
  /-- SHELF_CREATE (R178). SHELF_CREATE makes a shelf region with version 1 of ZERO pages. -/
  | shelfCreate (h : HRef)
  /-- SHELF_OPEN (R178). SHELF_OPEN pins a version in a VIEW slot and returns the slot's offset. -/
  | shelfOpen (h : HRef)
  /-- SHELF_CLOSE (R179). SHELF_CLOSE removes one open; a count of 0 moves the slot to CLOSING with a recall. -/
  | shelfClose (h : HRef)
  /-- DRAFT_BEGIN (R178). DRAFT_BEGIN takes a FREE slot as a draft on a base version with the ring's key as writer. -/
  | draftBegin (h : HRef)
  /-- DRAFT_PUBLISH (R175). DRAFT_PUBLISH freezes the draft, queues the publish and starts its downgrade recall. -/
  | draftPublish (h : HRef)
  /-- DRAFT_DISCARD (R179). DRAFT_DISCARD frees the draft's private pages and closes the slot. -/
  | draftDiscard (h : HRef)
  /-- PUBLISH_RECALL_END (R175). Requests checked before the freeze complete and the publish's downgrade recall ends. -/
  | publishRecallEnd (h : HRef)
  /-- PUBLISH_DECIDE (R174). Once every earlier publish of the shelf is done, the publish is decided as new version, merge, BUSY or BASE_MOVED. -/
  | publishDecide (h : HRef)
  /-- PUBLISH_COMMIT (R175). After any merge recall, the page list is written and the head replaced, committing the publish. -/
  | publishCommit (h : HRef)
  /-- SLOT_FREE (R169). A CLOSING slot becomes FREE once its recall has ended and old requests have completed. -/
  | slotFree (shelf : BitVec 16) (slot : BitVec 8)
  /-- COW_COPY_DONE (R172). The copy of a shared backing page into a draft's new page ends and the waiting write is applied. -/
  | cowCopyDone (page : BitVec 32)
  /-- VERSION_RECLAIM (R171). A version that stops being retained is reclaimed and its unused backing pages are freed. -/
  | versionReclaim (shelf : BitVec 16) (version : BitVec 32)
  /-- DRAWER_CREATE (R184). DRAWER_CREATE makes a drawer OWNED by the ring's key at epoch 0. -/
  | drawerCreate (h : HRef)
  /-- DRAWER_OFFER (R182). DRAWER_OFFER sets the drawer IN_TRANSIT at epoch E + 1 with a deadline and a downgrade recall. -/
  | drawerOffer (h : HRef)
  /-- DRAWER_ACCEPT (R184). DRAWER_ACCEPT by the target wins the drawer entry and makes the target its owner. -/
  | drawerAccept (h : HRef)
  /-- DRAWER_RELEASE (R186). DRAWER_RELEASE sets the drawer RELEASING with a discard recall. -/
  | drawerRelease (h : HRef)
  /-- DRAWER_LEASE (R185). DRAWER_LEASE without QUERY sets the drawer's lease. -/
  | drawerLease (h : HRef)
  /-- DRAWER_LEASE_QUERY (R185). DRAWER_LEASE with QUERY reports the drawer's owner, state, epoch and lease. -/
  | drawerLeaseQuery (h : HRef)
  /-- DRAWER_RECALL_END (R183). The downgrade recall of an offer ends and a waiting ACCEPT proceeds. -/
  | drawerRecallEnd (d : BitVec 24)
  /-- DRAWER_OFFER_DEADLINE (R182). An IN_TRANSIT drawer's deadline passes and it returns to the offerer with IN_TRANSIT_TIMEOUT. -/
  | drawerOfferDeadline (d : BitVec 24)
  /-- DRAWER_LEASE_EXPIRY (R185). A drawer's lease expires and a release starts with no record. -/
  | drawerLeaseExpiry (d : BitVec 24)
  /-- DRAWER_RELEASE_DONE (R182). A RELEASING drawer's recall ends, old requests drain, pages are freed and the drawer becomes FREE. -/
  | drawerReleaseDone (d : BitVec 24)
  -- Tiers and the Winch (08)
  /-- PLACE (R197). PLACE sets placement attributes of a range and, with MOVE, moves its pages. -/
  | place (h : Handle)
  /-- WINCH_WINDOW (R205). WINCH_WINDOW allocates and pins a T0 window and preloads layers. -/
  | winchWindow (h : Handle)
  /-- WINCH_WINDOW_CLOSE (R205). WINCH_WINDOW with CLOSE removes the pin once live ADVANCEs of the window end. -/
  | winchWindowClose (h : Handle)
  /-- WINCH_ADVANCE (R206). WINCH_ADVANCE loads named layers into their slots after a discard recall of each slot. -/
  | winchAdvance (h : Handle)
  /-- MIGRATE (R213). MIGRATE moves every allocated page of a range to a target tier within quota. -/
  | migrate (h : Handle)
  /-- FLUSH (R212). FLUSH writes back dirty sectors of a range to their backing copies. -/
  | flush (h : Handle)
  /-- STACK_EVACUATE (R215). STACK_EVACUATE moves every allocated page of named banks at level 1 in the given destination order. -/
  | stackEvacuate (h : Handle)
  /-- COPY (R214). COPY reads a source range and writes a destination range in units. -/
  | copy (h : Handle)
  /-- FILL (R209). FILL without LAZY writes a range from a pattern, host memory or pool source. -/
  | fill (h : Handle)
  /-- FILL_LAZY (R209). FILL with LAZY marks pages as awaiting fill and fills them in the background. -/
  | fillLazy (h : Handle)
  /-- LAZY_FILL_PAGE_DONE (R209). A page awaiting fill is filled and requests waiting on it proceed. -/
  | lazyFillPageDone (page : BitVec 32) (r : HostRead)
  /-- WINCH_UNIT_ISSUE (R199). A Winch engine issues the next unit of an operation by priority level and rotation. -/
  | winchUnitIssue (e : Fin 16)
  /-- WINCH_UNIT_DONE (R71). A Winch unit completes, or is refused and stops its operation. -/
  | winchUnitDone (op : BitVec 32) (r : UnitResult)
  /-- CHUNK_COPIED (R200). Every line of a moving chunk has been copied; cached entries are dropped and the map and journal are switched. -/
  | chunkCopied (op : BitVec 32) (range : BitVec 32)
  /-- CHUNK_DRAINED (R200). Requests carrying a chunk's old location drain; Moving is cleared and old locations freed. -/
  | chunkDrained (op : BitVec 32) (range : BitVec 32)
  /-- WRITEBACK_AGE_EXPIRE (R211). A dirty sector of a backed T0 page that stayed dirty for WB_AGE_MS is queued for write-back. -/
  | writebackAgeExpire (page : BitVec 32)
  /-- JOURNAL_PROGRESS (R204). COPY, FILL and FLUSH journal their progress each 64 MiB or each millisecond. -/
  | journalProgress (op : BitVec 32)
  -- Compression (09)
  /-- CTABLE_LOAD (R231). CTABLE_LOAD checks a code table image and installs it as a new generation of its slot. -/
  | ctableLoad (h : Handle)
  /-- BUILD (R232). CTABLE_BUILD mode BUILD counts the source and creates a new CX-A generation. -/
  | build (h : Handle)
  /-- BUILD_ENCODE (R233). CTABLE_BUILD mode BUILD_ENCODE builds a generation and encodes the source into a registered object. -/
  | buildEncode (h : Handle)
  /-- ENCODE (R233). CTABLE_BUILD mode ENCODE encodes the source with the current generation into a registered object. -/
  | encode (h : Handle)
  /-- EXPAND (R234). CTABLE_BUILD mode EXPAND decodes a registered object into a destination. -/
  | expand (h : Handle)
  /-- RELEASE (R234). CTABLE_BUILD mode RELEASE drops an object's registration and its reference. -/
  | release (h : Handle)
  /-- CTABLE_RETIRE (R235). CTABLE_RETIRE without RECODE drops unreferenced generations or completes BUSY. -/
  | ctableRetire (h : Handle)
  /-- CTABLE_RETIRE_RECODE (R236). CTABLE_RETIRE with RECODE re-encodes referencing objects, waits for units and drops the generations. -/
  | ctableRetireRecode (h : Handle)
  /-- BLOCK_REFETCH (R237). A refetched block decodes again; success is transient, a second mismatch delivers it poisoned. -/
  | blockRefetch (off : PoolOff) (good : Bool)
  -- Memory stacks (10)
  /-- REFRESH_DUE (R249). A BAU-bank refresh falls due and is served, or postponed to the running sequence's next preemption point. -/
  | refreshDue (st : StackId) (b : BankId)
  /-- PREEMPTION_POINT (R247). At a BAU quantum boundary the bank drains its write buffer, serves refresh and waiting accesses, and then stops or waits for a grant. -/
  | preemptionPoint (st : StackId) (b : BankId)
  /-- TEMP_SAMPLE (R251). A stack's hottest core die temperature updates and may change its refresh range or HOT state. -/
  | tempSample (st : StackId) (t : BitVec 8)
  /-- DRAM_REREAD (R253). An uncorrectable stack read is re-read once; a failure spares the row and delivers the line poisoned or from backing. -/
  | dramReread (off : PoolOff) (good : Bool)
  /-- ROW_SPARE_COPY_DONE (R254). The copy of a faulty row into a spare row ends and the row is remapped. -/
  | rowSpareCopyDone (st : StackId) (b : BankId) (d : Fin 64)
  /-- BANK_REPLACE_COPY_DONE (R255). The copy of a BAU bank to a spare bank unit ends; the bank is remapped and the journal set SWITCHED. -/
  | bankReplaceCopyDone (st : StackId) (b : BankId) (good : Bool)
  /-- PATROL_SCRUB (R257). The patrol scrub reads codewords in idle bank time and writes back corrected copies. -/
  | patrolScrub (st : StackId) (b : BankId) (d : Fin 64) (ecc : Ecc)
  /-- STACK_UNREADABLE (R263). A stack that can no longer be read goes OFFLINE and its pages are served from backing copies or poisoned. -/
  | stackUnreadable (st : StackId)
  -- Bank Arithmetic Units (11)
  /-- BAU_PLACE (R284). BAU_PLACE converts a range to bank-local pages in one BAU bank and pins them. -/
  | bauPlace (h : Handle)
  /-- BAU_PLACE_RELEASE (R286). BAU_PLACE with RELEASE removes a placement once its sequences end. -/
  | bauPlaceRelease (h : Handle)
  /-- BAU_LAUNCH (R283). BAU_LAUNCH checks a sequence image and its sets, stamps it and queues it for its bank. -/
  | bauLaunch (h : Handle)
  /-- BAU_HOLDS_INSTALLED (R280). Holds on a sequence's set pages are installed and their recalls answered. -/
  | bauHoldsInstalled (st : StackId) (b : BankId)
  /-- BAU_SEQUENCE_START (R278). A queued sequence takes a tBAW slot with HOT clear, loads its image and starts. -/
  | bauSequenceStart (st : StackId) (b : BankId)
  /-- BAU_QUANTUM_GRANT (R279). The stack's meter grants a quantum of busy-cycles to a waiting BAU. -/
  | bauQuantumGrant (st : StackId) (b : BankId)
  /-- BAU_QUANTUM_FAULT (R289). A BAU logic fault discards the quantum and re-executes it once; a second failure replaces the bank. -/
  | bauQuantumFault (st : StackId) (b : BankId) (good : Bool)
  /-- BAU_SEQUENCE_END (R282). A committed sequence releases every hold and its record is written. -/
  | bauSequenceEnd (st : StackId) (b : BankId)
  /-- BAU_LI (R271). LI loads an immediate into an address register. -/
  | bauLi (st : StackId) (b : BankId)
  /-- BAU_ADDI (R271). ADDI adds an immediate to an address register. -/
  | bauAddi (st : StackId) (b : BankId)
  /-- BAU_SETC (R271). SETC sets a loop counter. -/
  | bauSetc (st : StackId) (b : BankId)
  /-- BAU_LOOP (R271). LOOP decrements a counter and branches back while it is not 0. -/
  | bauLoop (st : StackId) (b : BankId)
  /-- BAU_SETF (R271). SETF sets a scalar FP32 register. -/
  | bauSetf (st : StackId) (b : BankId)
  /-- BAU_END (R282). END drains the write buffer and commits the sequence. -/
  | bauEnd (st : StackId) (b : BankId)
  /-- BAU_LDS (R271). LDS loads the 32 stationary buffer columns. -/
  | bauLds (st : StackId) (b : BankId)
  /-- BAU_MV (R273). MV streams weights against the stationary buffer into ACC, decoding CX-W with DEC. -/
  | bauMv (st : StackId) (b : BankId)
  /-- BAU_SCORE (R271). SCORE computes scaled key scores into PB. -/
  | bauScore (st : StackId) (b : BankId)
  /-- BAU_SMX (R272). SMX applies the online softmax update of a tile. -/
  | bauSmx (st : StackId) (b : BankId)
  /-- BAU_MVT (R271). MVT accumulates probabilities times values into ACC. -/
  | bauMvt (st : StackId) (b : BankId)
  /-- BAU_ATTN (R272). ATTN runs fused attention over tiles of 128 tokens. -/
  | bauAttn (st : StackId) (b : BankId)
  /-- BAU_ZACC (R271). ZACC zeroes and types ACC rows and may reset softmax state. -/
  | bauZacc (st : StackId) (b : BankId)
  /-- BAU_MULF (R271). MULF multiplies FP32 rows by a scalar register. -/
  | bauMulf (st : StackId) (b : BankId)
  /-- BAU_MULV (R271). MULV multiplies rows by a vector from the bank. -/
  | bauMulv (st : StackId) (b : BankId)
  /-- BAU_NORM (R271). NORM divides ACC columns by the softmax running sum. -/
  | bauNorm (st : StackId) (b : BankId)
  /-- BAU_ST (R270). ST converts and stores ACC rows into the lock set. -/
  | bauSt (st : StackId) (b : BankId)
  /-- BAU_STS (R271). STS stores the softmax state m and l. -/
  | bauSts (st : StackId) (b : BankId)
  -- Trestle (12)
  /-- KERNEL_LOAD (R310). KERNEL_LOAD checks a kernel image and installs it in a tenant slot. -/
  | kernelLoad (h : Handle)
  /-- KERNEL_UNLOAD (R310). KERNEL_LOAD with UNLOAD frees a tenant slot. -/
  | kernelUnload (h : Handle)
  /-- KERNEL_LAUNCH (R311). KERNEL_LAUNCH starts the gangs of a loaded tenant kernel on chosen units. -/
  | kernelLaunch (h : Handle)
  /-- TR_REDUCE (R313). A launch of standard slot 0 reduces sources element-wise into a destination. -/
  | trReduce (h : Handle)
  /-- TR_GATHER (R313). A launch of standard slot 1 gathers table rows by index. -/
  | trGather (h : Handle)
  /-- TR_SCATTER (R313). A launch of standard slot 2 scatters rows by index, optionally adding by atomics. -/
  | trScatter (h : Handle)
  /-- TR_FILTER (R313). A launch of standard slot 3 writes the elements that meet a relation and then their count. -/
  | trFilter (h : Handle)
  /-- GANG_DISPATCH (R294). A unit takes a new gang of a live launch when a context and scratch area are free. -/
  | gangDispatch (u : TUnit)
  /-- GANG_RESULT_ARRIVE (R299). A load, atomic or D-class result arrives and the waiting gang may issue again. -/
  | gangResultArrive (u : TUnit) (g : GangId) (r : GangData)
  /-- CHUNK_TIME_LIMIT (R303). CHUNK_US passes since a gang's last boundary and a chunk boundary is taken. -/
  | chunkTimeLimit (u : TUnit) (g : GangId)
  /-- TRESTLE_FAULT (R305). A unit logic or data fault re-runs the affected chunks once; a second failure replaces the unit. -/
  | trestleFault (u : TUnit) (lost : List GangId)
  /-- LAUNCH_COMMIT (R312). A launch commits once every gang has ended and every write is visible. -/
  | launchCommit (h : Handle)
  /-- TRESTLE_LI (R297). LI loads a sign-extended immediate into a scalar register. -/
  | trestleLi (u : TUnit) (g : GangId)
  /-- TRESTLE_LIH (R297). LIH loads the high bits of a scalar register. -/
  | trestleLih (u : TUnit) (g : GangId)
  /-- TRESTLE_ADD (R297). ADD adds scalars modulo 2^64. -/
  | trestleAdd (u : TUnit) (g : GangId)
  /-- TRESTLE_SUB (R297). SUB subtracts scalars modulo 2^64. -/
  | trestleSub (u : TUnit) (g : GangId)
  /-- TRESTLE_MUL (R297). MUL multiplies scalars, keeping the low 64 bits. -/
  | trestleMul (u : TUnit) (g : GangId)
  /-- TRESTLE_DIVU (R297). DIVU divides unsigned scalars, a zero divisor setting INVALID. -/
  | trestleDivu (u : TUnit) (g : GangId)
  /-- TRESTLE_AND (R297). AND of two scalars. -/
  | trestleAnd (u : TUnit) (g : GangId)
  /-- TRESTLE_OR (R297). OR of two scalars. -/
  | trestleOr (u : TUnit) (g : GangId)
  /-- TRESTLE_XOR (R297). XOR of two scalars. -/
  | trestleXor (u : TUnit) (g : GangId)
  /-- TRESTLE_SHL (R297). SHL shifts a scalar left. -/
  | trestleShl (u : TUnit) (g : GangId)
  /-- TRESTLE_SHR (R297). SHR shifts a scalar right, logically or arithmetically. -/
  | trestleShr (u : TUnit) (g : GangId)
  /-- TRESTLE_MINMAX (R297). MINMAX selects the smaller or larger scalar. -/
  | trestleMinmax (u : TUnit) (g : GangId)
  /-- TRESTLE_CMP (R297). CMP sets p from an integer relation. -/
  | trestleCmp (u : TUnit) (g : GangId)
  /-- TRESTLE_SEL (R297). SEL selects a scalar by p. -/
  | trestleSel (u : TUnit) (g : GangId)
  /-- TRESTLE_POPC (R297). POPC counts 1 bits. -/
  | trestlePopc (u : TUnit) (g : GangId)
  /-- TRESTLE_SPECIAL (R297). SPECIAL reads lane, gang, thread, unit or device time. -/
  | trestleSpecial (u : TUnit) (g : GangId)
  /-- TRESTLE_FADD (R297). FADD adds scalar floats. -/
  | trestleFadd (u : TUnit) (g : GangId)
  /-- TRESTLE_FMUL (R297). FMUL multiplies scalar floats. -/
  | trestleFmul (u : TUnit) (g : GangId)
  /-- TRESTLE_FFMA (R297). FFMA fused multiply-add of scalar floats. -/
  | trestleFfma (u : TUnit) (g : GangId)
  /-- TRESTLE_FMINMAX (R297). FMINMAX selects the smaller or larger float. -/
  | trestleFminmax (u : TUnit) (g : GangId)
  /-- TRESTLE_FCMP (R297). FCMP sets p from a floating-point relation. -/
  | trestleFcmp (u : TUnit) (g : GangId)
  /-- TRESTLE_CVT (R297). CVT converts a scalar between formats. -/
  | trestleCvt (u : TUnit) (g : GangId)
  /-- TRESTLE_BR (R293). BR branches the active threads on a condition over p. -/
  | trestleBr (u : TUnit) (g : GangId)
  /-- TRESTLE_IF (R293). IF pushes the active mask and narrows it by p. -/
  | trestleIf (u : TUnit) (g : GangId)
  /-- TRESTLE_ELSE (R293). ELSE inverts the active mask against the stack top. -/
  | trestleElse (u : TUnit) (g : GangId)
  /-- TRESTLE_ENDIF (R293). ENDIF pops the mask stack. -/
  | trestleEndif (u : TUnit) (g : GangId)
  /-- TRESTLE_CHUNK (R303). CHUNK marks a chunk boundary. -/
  | trestleChunk (u : TUnit) (g : GangId)
  /-- TRESTLE_FENCE (R302). FENCE takes a boundary and holds later memory instructions until earlier pool accesses retire. -/
  | trestleFence (u : TUnit) (g : GangId)
  /-- TRESTLE_END (R303). END ends the gang after a chunk boundary. -/
  | trestleEnd (u : TUnit) (g : GangId)
  /-- TRESTLE_LD (R300). LD loads from pool or scratch, sending RdShared or RdNC for the pool. -/
  | trestleLd (u : TUnit) (g : GangId)
  /-- TRESTLE_ST (R300). ST buffers a store, sent at the chunk commit as WrLine or WrPtl. -/
  | trestleSt (u : TUnit) (g : GangId)
  /-- TRESTLE_ATOM (R304). ATOM sends an AtomFar with an ATAG and ASEQ recorded against the chunk. -/
  | trestleAtom (u : TUnit) (g : GangId)
  /-- TRESTLE_VLD (R300). VLD loads 64 B into a vector register. -/
  | trestleVld (u : TUnit) (g : GangId)
  /-- TRESTLE_VST (R300). VST stores a vector register as 64 B. -/
  | trestleVst (u : TUnit) (g : GangId)
  /-- TRESTLE_VADD (R296). VADD adds vector elements. -/
  | trestleVadd (u : TUnit) (g : GangId)
  /-- TRESTLE_VMUL (R296). VMUL multiplies vector elements. -/
  | trestleVmul (u : TUnit) (g : GangId)
  /-- TRESTLE_VFMA (R296). VFMA fused multiply-add of vector elements. -/
  | trestleVfma (u : TUnit) (g : GangId)
  /-- TRESTLE_VMINMAX (R296). VMINMAX selects smaller or larger vector elements. -/
  | trestleVminmax (u : TUnit) (g : GangId)
  /-- TRESTLE_VDOT (R297). VDOT accumulates dot products into 32-bit elements. -/
  | trestleVdot (u : TUnit) (g : GangId)
  /-- TRESTLE_VCVT (R296). VCVT converts vector elements. -/
  | trestleVcvt (u : TUnit) (g : GangId)
  /-- TRESTLE_VRED (R297). VRED reduces a vector into every active thread's scalar. -/
  | trestleVred (u : TUnit) (g : GangId)
  /-- TRESTLE_VCMP (R296). VCMP writes a comparison mask into every active thread. -/
  | trestleVcmp (u : TUnit) (g : GangId)
  /-- TRESTLE_VCMPRS (R296). VCMPRS packs selected vector elements. -/
  | trestleVcmprs (u : TUnit) (g : GangId)
  /-- TRESTLE_VBCAST (R296). VBCAST broadcasts a scalar into every element. -/
  | trestleVbcast (u : TUnit) (g : GangId)
  /-- TRESTLE_VPACK (R296). VPACK writes each thread's scalar into a vector element. -/
  | trestleVpack (u : TUnit) (g : GangId)
  /-- TRESTLE_VUNPACK (R296). VUNPACK reads a vector element into each thread's scalar. -/
  | trestleVunpack (u : TUnit) (g : GangId)
  -- Trains and collectives (13)
  /-- TRAIN_CREATE (R320). TRAIN_CREATE checks a train image and installs its entries on every switch of the tree. -/
  | trainCreate (h : Handle)
  /-- TRAIN_EDIT (R321). TRAIN_EDIT REPLACE installs a new image as a new generation, releasing older instances. -/
  | trainEdit (h : Handle)
  /-- TRAIN_DELETE (R321). TRAIN_EDIT DELETE removes every entry of a train. -/
  | trainDelete (h : Handle)
  /-- TRAIN_ENTRY_DISTRIBUTE (R320). A switch receives its train entry over TC4, checks it and accepts or refuses it. -/
  | trainEntryDistribute (e : TrainMsg)
  /-- BARRIER (R330). COLLECTIVE BARRIER completes at every member once all have posted. -/
  | barrier (h : Handle)
  /-- BCAST (R325). COLLECTIVE BCAST sends the root's data to every other member. -/
  | bcast (h : Handle)
  /-- REDUCE (R325). COLLECTIVE REDUCE combines every member's data at the root. -/
  | reduce (h : Handle)
  /-- ALLREDUCE (R325). COLLECTIVE ALLREDUCE combines every member's data and delivers it to all. -/
  | allreduce (h : Handle)
  /-- ALLGATHER (R325). COLLECTIVE ALLGATHER concatenates every member's data for all. -/
  | allgather (h : Handle)
  /-- REDUCE_SCATTER (R325). COLLECTIVE REDUCE_SCATTER delivers each member its part of the combination. -/
  | reduceScatter (h : Handle)
  /-- MCAST (R330). COLLECTIVE MCAST delivers the poster's data to every member's landing, then its flag. -/
  | mcast (h : Handle)
  /-- SEGMENT_ARRIVE (R325). A contribution or partial segment reaches a switch of the train, which combines and forwards it. -/
  | segmentArrive (g : SegMsg)
  -- Paths and tethers (14)
  /-- TRANSIT_HOP (R342). A packet arriving on a trunk is delivered to the agents or sent on the next hop of its bridle. -/
  | transitHop (p : PortId) (k : Packet)
  /-- PATH_UPDATE (R351). PATH_UPDATE checks a path image and publishes it as a new path generation. -/
  | pathUpdate (h : HRef)
  /-- PATHMARK (R353). A path marker is delivered at its destination and a marker acknowledgement is returned. -/
  | pathmark (p : PortId) (bridle : Word) (tc : Tc) (src : BitVec 12)
  /-- MARKACK (R353). A marker acknowledgement releases a moved stream's waiting packets onto the new bridle. -/
  | markack (bridle : Word) (tc : Tc)
  /-- TETHER_OPEN (R357). TETHER_OPEN checks a tether plan and admission at every switch of the route. -/
  | tetherOpen (h : Handle)
  /-- TETHER_CLOSE (R360). TETHER_CLOSE returns the flow to the path table and removes every tether entry. -/
  | tetherClose (h : HRef)
  /-- TETHER_ENTRY_INSTALL (R356). A switch receives its tether entry, checks ports, keys and room, and accepts or refuses it. -/
  | tetherEntryInstall (e : TetherMsg)
  /-- PORT_DOWN_FENCE_TIMEOUT (R344). A trunk port down for DOWN_FENCE_MS makes Nimpa request a fence of the trunk. -/
  | portDownFenceTimeout (p : PortId)
  /-- TRUNK_ACTIVE_REPORT (R490). A report of a trunk becoming ACTIVE updates every switch's adjacency table. -/
  | trunkActiveReport (sw : BitVec 12) (p : PortId) (peer : BitVec 12) (peerPort : PortId)
  -- Switch core (15)
  /-- CELL_INGRESS (R366). A cell enters the ingress slice, takes a sequence number and a stage credit, and is spread to a middle position. -/
  | cellIngress (k : SliceId) (c : Cell)
  /-- STAGE_CREDIT_RETURN (R366). A cell leaves the egress slice and returns its stage credit to the ingress slice. -/
  | stageCreditReturn (i : SliceId) (m : Fin 16) (e : SliceId) (tc : Tc)
  /-- MIDDLE_PULL (R371). An egress slice pulls the head of a chosen middle list or tether list over a free mesh link. -/
  | middlePull (k : SliceId) (e : SliceId)
  /-- RESEQUENCE_CELL (R375). A cell or notice reaches its port's reorder context and is released or held in sequence order. -/
  | resequenceCell (p : PortId) (src : Fin 165) (tc : Tc) (seq : BitVec 16)
  /-- BUFFER_ROW_FAULT (R381). A lasting buffer row fault is copied to a spare row or the row is retired. -/
  | bufferRowFault (k : SliceId) (bad : Bool)
  /-- SLICE_FAULT (R382). A lasting slice fault takes its position out of every rotation and starts the spare slice's takeover. -/
  | sliceFault (k : SliceId)
  /-- SLICE_TAKEOVER_DONE (R382). The spare slice finishes copying the failed slice's state, takes its links and position, and credits are restored. -/
  | sliceTakeoverDone
  -- Congestion and scheduling (16)
  /-- THROTTLE_INCREASE_TICK (R391). Every INC_US each quiet throttle context's rate rises, freeing it at the port rate. -/
  | throttleIncreaseTick
  /-- THROTTLE_RELEASE (R392). A request waiting for throttle tokens is released when its bucket refills. -/
  | throttleRelease (src : Endpoint) (tag : BitVec 14)
  /-- WRED_DEPTH_PUBLISH (R395). Every 64 ns the egress slice publishes aggregate depths and each ingress slice updates its average. -/
  | wredDepthPublish (k : SliceId)
  /-- EGRESS_SCHEDULE (R400). A port's scheduler chooses the next packet by strict rank, ballast and finish tags. -/
  | egressSchedule (p : PortId)
  /-- TELEMETRY_SAMPLE (R404). Each 1 µs the egress slice samples depth and sojourn of each class and watch slot into histograms. -/
  | telemetrySample (p : PortId)
  /-- PORT_TEL_SNAP (R405). A write of PORT_TEL_CTL.SNAP copies a port's histograms between two samples and sets SNAP_DONE. -/
  | portTelSnap (p : PortId)
  -- Bromet link (17)
  /-- FLIT_RECEIVE (R430). A received flit is decoded, CRC- and tag-checked, and accepted in FSEQ order or rejected with a NAK. -/
  | flitReceive (p : PortId) (f : Flit)
  /-- SUPERFRAME_MARKER (R413). A superframe marker is checked for lock and applies a change of LANE_STATE. -/
  | superframeMarker (p : PortId) (m : Marker17)
  /-- IDLE (R412). An IDLE Ctl message fills a slot and carries acknowledgements and credits. -/
  | idle (p : PortId)
  /-- NAK (R430). A NAK makes the transmitter resend from the named FSEQ in order. -/
  | nak (p : PortId) (fseq : BitVec 12)
  /-- CREDIT (R427). A cumulative credit report adds new credit per channel, or sets CREDIT_ERR and retrains. -/
  | credit (p : PortId) (ch : Fin 9) (value : BitVec 12)
  /-- CONFIG (R414). A CONFIG exchange sets width, peer checks, epoch and encryption and makes the link ACTIVE or returns it to DETECT. -/
  | config (p : PortId) (c : ConfigMsg)
  /-- LANE_REQ (R419). A LANE_REQ starts, completes or abandons the moving of a logical lane to the spare. -/
  | laneReq (p : PortId) (lane : Fin 8) (op : LaneOp)
  /-- LANE_ACK (R419). A LANE_ACK confirms that the partner drives a copy of the lane on its spare. -/
  | laneAck (p : PortId) (lane : Fin 8)
  /-- RETRAIN_REQ (R413). A partner's RETRAIN_REQ moves the link to RETRAIN. -/
  | retrainReq (p : PortId)
  /-- TS1 (R414). A TS1 training block drives detection and equalisation of a lane. -/
  | ts1 (p : PortId) (b : TrainBlock)
  /-- TS2 (R414). A TS2 training block reports lock and moves the link toward CONFIG. -/
  | ts2 (p : PortId) (b : TrainBlock)
  /-- TRAINING_TIMEOUT (R414). A training state exceeds its bound and the link returns to DETECT. -/
  | trainingTimeout (p : PortId)
  /-- TRAIN_RETRY_TIMER (R416). After 3 failed trainings the port retries from DETECT every 100 ms. -/
  | trainRetryTimer (p : PortId)
  /-- REPLAY_TIMEOUT (R430). The oldest unacknowledged flit waits REPLAY_TO and the transmitter resends from it. -/
  | replayTimeout (p : PortId)
  /-- NAK_REPEAT (R430). The receiver repeats its NAK every 500 ns while the expected flit does not arrive. -/
  | nakRepeat (p : PortId)
  /-- ACK_TIMER (R429). An acknowledgement is sent after ACK_MAX flits or 500 ns, in an IDLE flit if needed. -/
  | ackTimer (p : PortId)
  /-- SPARE_RX_ADAPTED (R419). The spare receiver adapts on the lane copy and the switch is announced in a marker. -/
  | spareRxAdapted (p : PortId)
  /-- LANE_REPLACE_TIMEOUT (R419). A lane replacement not adapted within its bound is abandoned and the port retrains. -/
  | laneReplaceTimeout (p : PortId)
  /-- LINK_EN (R414). A write of LINK_EN takes the link DOWN or lets it start training. -/
  | linkEn (p : PortId) (on : Bool)
  /-- RETRAIN (R415). A RETRAIN write starts a retrain keeping replay, sequence, credit and encryption state. -/
  | retrain (p : PortId)
  /-- FULL_RETRAIN (R420). A FULL_RETRAIN write retrains the link from DETECT at its configured width. -/
  | fullRetrain (p : PortId)
  /-- ROLL (R435). A ROLL write switches the transmitter to its other key phase from the next new flit. -/
  | roll (p : PortId)
  /-- PORT_RESET (R508). A PORT_RESET write takes the port down, clears link state and keys, halts its rings and reopens its set-up. -/
  | portReset (p : PortId)
  /-- EPMSG (R424). An endpoint message is carried to its destination endpoint. -/
  | epmsg (p : PortId) (dst : Endpoint) (tc : Tc) (flow : BitVec 16) (key : Key) (colour : Colour) (data : Line)
  -- CXL ports and trays (18)
  /-- CXL_LINK_TRAINED (R440). A CXL port trains in 256B Flit mode or stays down with NO_256B. -/
  | cxlLinkTrained (p : PortId) (flit256 : Bool) (rate : BitVec 2) (lopt : Bool) (width : Fin 4)
  /-- CXL_LINK_DOWN (R450). A hot reset or link-down of a CXL host port acts as a port reset of the port. -/
  | cxlLinkDown (p : PortId)
  /-- FUNCTION_LEVEL_RESET (R450). A Function Level Reset of a CXL host port acts as a port reset. -/
  | functionLevelReset (p : PortId)
  /-- BI_ENABLE (R446). The host sets BI Enable and the port starts serving CXL.mem requests. -/
  | biEnable (p : PortId) (cap : CxlCap)
  /-- IDE_ESTABLISHED (R449). CXL.cachemem and CXL.io IDE are established and service under IDE_REQ may start. -/
  | ideEstablished (p : PortId)
  /-- IDE_FAIL (R449). A loss of IDE sets IDE_FAIL and stops service until IDE is re-established. -/
  | ideFail (p : PortId)
  /-- TRAY_BRINGUP (R452). Nimpa enumerates a tray, awaits media ready, programs its decoder and adds its capacity to T1. -/
  | trayBringup (p : PortId) (t : TrayInfo)
  /-- TRAY_RESPONSE (R453). A tray response returns data, poison or DevLoad for a device request. -/
  | trayResponse (p : PortId) (off : PoolOff) (r : TrayResp)
  /-- TRAY_RESPONSE_TIMEOUT (R454). A tray request without response within TRAY_RSP_TO_US is resent once, and a second timeout fences the tray. -/
  | trayResponseTimeout (p : PortId) (off : PoolOff)
  /-- TRAY_EVENT_LOG_POLL (R454). Every 100 ms Nimpa reads the tray's event logs. -/
  | trayEventLogPoll (p : PortId) (events : List Word)
  -- Settle complex (19)
  /-- GET_INFO (R469). Mailbox GET_INFO returns boot state, versions and core counts. -/
  | getInfo
  /-- IMAGE_LOAD (R462). Mailbox IMAGE_LOAD reads and checks a Nimpa image and starts it, or stages it while Nimpa runs. -/
  | imageLoad (r : HostRead)
  /-- IMAGE_ACTIVATE (R464). Mailbox IMAGE_ACTIVATE makes the staged image the one used at the next warm reset. -/
  | imageActivate
  /-- SVN_COMMIT (R461). Mailbox SVN_COMMIT raises the fused SVN within the running image's SVN. -/
  | svnCommit
  /-- PM_KEY_SET (R461). Mailbox PM_KEY_SET writes a policy module key hash. -/
  | pmKeySet
  /-- PM_LOAD (R465). Mailbox PM_LOAD checks and starts a tenant policy module. -/
  | pmLoad (r : HostRead)
  /-- PM_UNLOAD (R469). Mailbox PM_UNLOAD removes a module once its fetched operations complete. -/
  | pmUnload
  /-- PM_STATUS (R469). Mailbox PM_STATUS reports a module's state, fault cause and dropped events. -/
  | pmStatus
  /-- PM_QUANTUM_TICK (R465). A 1 ms quantum ends and the policy-duty core runs the next module. -/
  | pmQuantumTick (core : Fin 36)
  /-- PM_QUEUE_SUBMIT (R466). Nimpa takes a descriptor from a module queue and runs it as on a non-ADMIN ring. -/
  | pmQueueSubmit (key : Key) (desc : Line)
  /-- SETTLE_CORE_FAULT (R470). A Settle core fault redoes the step once; a second failure replaces or retires the core. -/
  | settleCoreFault (core : Fin 36) (l2 : Bool)
  /-- WATCHDOG_REPORT (R472). A RAS-duty core reports to the always-on watchdog. -/
  | watchdogReport
  /-- WATCHDOG_EXPIRE (R472). No report within WDOG_MS makes the always-on island reset the Settle complex. -/
  | watchdogExpire
  -- Fences and engine faults (20)
  /-- FENCE_DOMAIN (R493). FENCE_DOMAIN applies a fence step to a domain and completes after its map generation is adopted. -/
  | fenceDomain (h : Handle)
  /-- UNFENCE_DOMAIN (R494). UNFENCE_DOMAIN removes a domain's fence table entry, restoring permission only. -/
  | unfenceDomain (h : Handle)
  /-- SPARE_QUERY (R497). SPARE_QUERY reports free spares and fence counts, device-wide or for one stack. -/
  | spareQuery (h : Handle)
  /-- FENCE_NOTICE (R490). A fence or unfence notice from a peer is forwarded once and applied in this switch's own step. -/
  | fenceNotice (n : NoticeMsg)
  /-- DOM_ALERT (R495). A DOM_ALERT_N input low for ALERT_FILT_US triggers a fence of its mapped domain, or is counted as ignored. -/
  | domAlert (i : Fin 16)
  /-- WINCH_ENGINE_FAULT (R481). A Winch engine logic fault reissues its units once; a lasting fault moves its control to a spare or retires it. -/
  | winchEngineFault (e : Fin 16)
  /-- COMPRESSION_ENGINE_FAULT (R481). A compression engine fault recodes the block once; a lasting fault moves its work to the partner engine. -/
  | compressionEngineFault (i : StackId)
  -- Resets and time (21)
  /-- PORST_N (R516). PORST_N asserted resets the whole package as a power-on; its release starts bring-up. -/
  | porstN (level : Bool)
  /-- COLD (R516). A GLOBAL_RESET_CTL COLD write runs bring-up from step 2 without a power cycle. -/
  | cold
  /-- WARM_RST_N (R513). WARM_RST_N low for 1 µs starts the quiesce of a warm reset. -/
  | warmRstN (level : Bool)
  /-- WARM (R513). A GLOBAL_RESET_CTL WARM write starts the quiesce of a warm reset. -/
  | warm
  /-- TENANT (R510). A GLOBAL_RESET_CTL TENANT write resets the rings and policy module of one key. -/
  | tenant (key : Key)
  /-- ISLAND (R509). A GLOBAL_RESET_CTL ISLAND write resets one island, or is refused and sets RESET_REFUSED. -/
  | island (kind : BitVec 4) (index : BitVec 8)
  /-- QUIESCE_END (R512). The warm-reset quiesce ends with home requests completed, state saved and stacks in self-refresh. -/
  | quiesceEnd
  /-- WARM_RESTART (R513). WARM_RST_N release after the quiesce restarts the islands, checks Nimpa and replays journals. -/
  | warmRestart
  /-- DEVICE_OPEN (R515). Once ports that were ACTIVE are ACTIVE again and recalls done, host ports admit requests and background work resumes. -/
  | deviceOpen
  /-- PERST_N (R535). PERST_N resets the management endpoint alone and halts rings bound to it. -/
  | perstN (level : Bool)
  /-- STARTUP_TEST_DONE (R517). The start-up test ends, assigns units and spares, and stops the device when a minimum is not met. -/
  | startupTestDone (t : TestResult)
  /-- REFCLK_LOST (R501). A lost reference downs its ports, relocks the core reference or sets a status bit. -/
  | refclkLost (r : RefId)
  /-- REFCLK_RESTORED (R501). A reference that has run steadily for 10 ms is used again and its ports train. -/
  | refclkRestored (r : RefId)
  /-- TIME_DISTRIBUTE (R503). The always-on island sends device time to every island at least every 1 µs. -/
  | timeDistribute (elapsed : BitVec 32)
  /-- PPS_IN_EDGE (R504). A PPS_IN rising edge marks a whole second and steers device time. -/
  | ppsInEdge
  /-- PTP_MESSAGE (R504). An IEEE 1588 message is accepted and steers device time as a slave-only clock. -/
  | ptpMessage (domain : BitVec 8) (udp : Bool) (tagged : Bool) (secs : Word) (offset : Int)
  /-- GLOBAL_TIME_SET (R505). A GLOBAL_TIME_SET write sets the seconds of device time, or is ignored and sets TIME_SET_LOW. -/
  | globalTimeSet (secs : Word)
  /-- PPS_OUT_SECOND (R506). PPS_OUT rises at each whole second of device time. -/
  | ppsOutSecond
  -- Power and management Ethernet (22, 23)
  /-- RAIL_EXCURSION (R528). A rail leaves tolerance; IN_TOL clears, RAIL_PEND is set and the event is counted. -/
  | railExcursion (rail : Fin 9)
  /-- RAIL_EXCURSION_LIMIT (R528). A rail excursion lasting beyond 20 µs stops the device with a DEVICE_STOP record. -/
  | railExcursionLimit (rail : Fin 9)
  /-- VDD_AON_LOSS (R528). VDD_AON below tolerance for more than 1 µs resets the device as a power-on. -/
  | vddAonLoss
  /-- SW_THERMAL_ALERT (R531). A switch die sensor reaching SW_ALERT_C sets THERM_PEND. -/
  | swThermalAlert (sensor : Fin 64) (t : BitVec 8)
  /-- THERMTRIP (R532). A sensor at its trip temperature drives THERMTRIP_N low and stops every island. -/
  | thermtrip
  /-- AVS_POLL (R523). Every 1 ms the device reads each AVS regulator's current and adds the energy. -/
  | avsPoll (ma : List Nat)
  /-- AVS_TARGET_STEP (R523). The device writes an AVS target change of at most 10 mV per 100 µs. -/
  | avsTargetStep (rail : Fin 3) (mv : BitVec 16) (ok : Bool)
  /-- DEVICE_SNAPSHOT (R558). A write of TELEMETRY_SNAP_CTL.SNAP records device time and every island copies its counters into shadows. -/
  | deviceSnapshot
  /-- ARP_REQUEST (R553). An ARP request for the device's address is answered; other non-PTP frames are discarded. -/
  | arpRequest (f : EthFrame)
  /-- PHY_POLL (R553). Every 10 ms the device reads the PHY's link status over MDIO. -/
  | phyPoll (up sync : Bool)
  -- Releases, clears and lasting faults
  /-- DOM_ALERT_RELEASE (R495). A DOM_ALERT_N input that counted as asserted goes high again; its ASSERTED bit clears and UNFENCE_DOMAIN of its domain is no longer refused BUSY. -/
  | domAlertRelease (i : Fin 16)
  /-- SW_ALERT_CLEAR (R531). Every switch die sensor falls 3 °C below SW_ALERT_C and SW_ALERT clears. -/
  | swAlertClear
  /-- RAIL_RETURN (R528). A rail that left tolerance returns within 20 µs, and its IN_TOL bit is set again. -/
  | railReturn (rail : Fin 9)
  /-- ISLAND_RESET_DONE (R509). An island reset of a port, stack-interface, Trestle cluster or Settle island, or of an idle spare slice, completes within its bound and ISLAND_BUSY clears. -/
  | islandResetDone
  /-- PORT_ISLAND_FAULT (R482). A lasting fault of port island logic, which has no spare, fences the port as its own domain. -/
  | portIslandFault (p : PortId)
  /-- MGMT_ISLAND_FAULT (R482). A lasting fault of the management and always-on island stops the device from serving as R383 lays down. -/
  | mgmtIslandFault
  /-- STACK_BASE_LOGIC_FAULT (R258). A lasting fault of base die logic shared by a whole stack that can still be read starts RAS evacuation of all 256 banks, or sets STACK_ERR while AUTO_EVAC is 0. -/
  | stackBaseLogicFault (st : StackId)
  /-- LANE_ADAPTATION_LOSS (R419). A lane's receiver loses adaptation in ACTIVE, which is a lasting lane fault that starts spare replacement or narrows the port. -/
  | laneAdaptationLoss (p : PortId) (lane : Fin 8)
  deriving DecidableEq, Repr

end Sys2Proof
end

