-- ==== Sys2Proof/Decode.lean ====
section
/-! DEFINITION. Reading a command from a table word: no row of the table of operations and events gives bits. -/

namespace Sys2Proof

/-- The command that a word of `nbits` bits spells. The table gives no row any bits, so no word spells a command. -/
def decodeTableWord (_nbits _w : Nat) : Option Instr := none

end Sys2Proof
end

