-- ==== Sys2Proof/Machine/Float.lean ====
section
/-! DEFINITION. Binary floating point: exact values, and rounding to nearest, ties to even, into FP64, FP32, FP16 and BF16,
with the canonical NaNs of R141; used by the atomics (06), the BAUs (11), Trestle (12) and the collectives (13). -/

namespace Sys2Proof.Machine

/-- A binary format: exponent and fraction bits. -/
structure Fmt where
  eb : Nat
  mb : Nat
  deriving DecidableEq, Repr

def fp64 : Fmt := ⟨11, 52⟩
def fp32 : Fmt := ⟨8, 23⟩
def fp16 : Fmt := ⟨5, 10⟩
def bf16 : Fmt := ⟨8, 7⟩

/-- An exact value: NaN, an infinity, or (-1)^neg × m × 2^e. -/
inductive FVal where
  | nan
  | inf (neg : Bool)
  | fin (neg : Bool) (m : Nat) (e : Int)
  deriving DecidableEq, Repr, Inhabited

def Fmt.bias (f : Fmt) : Int := 2 ^ (f.eb - 1) - 1
def Fmt.top (f : Fmt) : Nat := 2 ^ f.eb - 1
def Fmt.width (f : Fmt) : Nat := 1 + f.eb + f.mb

/-- The canonical quiet NaN (R141). -/
def Fmt.nanBits (f : Fmt) : Nat := f.top * 2 ^ f.mb + 2 ^ (f.mb - 1)

/-- The value that bits stand for. -/
def fDecode (f : Fmt) (b : Nat) : FVal :=
  let neg := b / 2 ^ (f.eb + f.mb) % 2 == 1
  let ex := b / 2 ^ f.mb % 2 ^ f.eb
  let fr := b % 2 ^ f.mb
  if ex = f.top then (if fr = 0 then .inf neg else .nan)
  else if ex = 0 then .fin neg fr (1 - f.bias - f.mb)
  else .fin neg (2 ^ f.mb + fr) ((ex : Int) - f.bias - f.mb)

/-- `m / 2^r`, rounded to nearest, ties to even. -/
def rneShift (m r : Nat) : Nat :=
  let q := m / 2 ^ r
  let rest := m % 2 ^ r
  if 2 * rest > 2 ^ r ∨ (2 * rest = 2 ^ r ∧ q % 2 = 1) then q + 1 else q

/-- The mantissa of `m × 2^e` at the exponent of a format's last place, and that exponent. -/
def fScale (f : Fmt) (m : Nat) (e : Int) : Nat × Int :=
  let lead : Int := e + Nat.log2 m
  let q : Int := max lead (1 - f.bias) - f.mb
  if q ≤ e then (m * 2 ^ (e - q).toNat, q) else (rneShift m (q - e).toNat, q)

/-- The bits of a value rounded into a format; an overflow becomes an infinity. -/
def fEncode (f : Fmt) : FVal → Nat
  | .nan => f.nanBits
  | .inf neg => (if neg then 2 ^ (f.eb + f.mb) else 0) + f.top * 2 ^ f.mb
  | .fin neg m e =>
    let sign := if neg then 2 ^ (f.eb + f.mb) else 0
    if m = 0 then sign
    else
      let (k, q) := fScale f m e
      let mag := if k < 2 ^ f.mb then k else ((q + f.mb + f.bias).toNat) * 2 ^ f.mb + (k - 2 ^ f.mb)
      sign + (if f.top * 2 ^ f.mb ≤ mag then f.top * 2 ^ f.mb else mag)

def FVal.negate : FVal → FVal
  | .nan => .nan
  | .inf n => .inf (!n)
  | .fin n m e => .fin (!n) m e

/-- The exact sum of two signed mantissas at a common exponent; a zero sum of unlike signs is +0. -/
def fAddFin (n1 : Bool) (m1 : Nat) (e1 : Int) (n2 : Bool) (m2 : Nat) (e2 : Int) : FVal :=
  let e := min e1 e2
  let a := m1 * 2 ^ (e1 - e).toNat
  let b := m2 * 2 ^ (e2 - e).toNat
  if n1 = n2 then .fin n1 (a + b) e
  else if a = b then .fin false 0 e
  else if b < a then .fin n1 (a - b) e
  else .fin n2 (b - a) e

/-- Exact sum (R141). -/
def fAdd : FVal → FVal → FVal
  | .nan, _ => .nan
  | _, .nan => .nan
  | .inf a, .inf b => if a = b then .inf a else .nan
  | .inf a, .fin _ _ _ => .inf a
  | .fin _ _ _, .inf b => .inf b
  | .fin n1 m1 e1, .fin n2 m2 e2 => fAddFin n1 m1 e1 n2 m2 e2

/-- Exact product; infinity times zero is NaN. -/
def fMul : FVal → FVal → FVal
  | .nan, _ => .nan
  | _, .nan => .nan
  | .inf a, .inf b => .inf (a != b)
  | .inf a, .fin n m _ => if m = 0 then .nan else .inf (a != n)
  | .fin n m _, .inf b => if m = 0 then .nan else .inf (b != n)
  | .fin n1 m1 e1, .fin n2 m2 e2 => .fin (n1 != n2) (m1 * m2) (e1 + e2)

/-- Order of two values: `none` for a NaN. Zeros are equal. -/
def fCmp : FVal → FVal → Option Ordering
  | .nan, _ => none
  | _, .nan => none
  | .inf a, .inf b => some (if a = b then .eq else if a then .lt else .gt)
  | .inf a, .fin _ _ _ => some (if a then .lt else .gt)
  | .fin _ _ _, .inf b => some (if b then .gt else .lt)
  | .fin n1 m1 e1, .fin n2 m2 e2 =>
    let e := min e1 e2
    let a : Int := (if n1 then -1 else 1) * ((m1 * 2 ^ (e1 - e).toNat : Nat) : Int)
    let b : Int := (if n2 then -1 else 1) * ((m2 * 2 ^ (e2 - e).toNat : Nat) : Int)
    some (compare a b)

/-- Sum and product of bits in a format, rounded once. -/
def fAddBits (f : Fmt) (a b : Nat) : Nat := fEncode f (fAdd (fDecode f a) (fDecode f b))
def fMulBits (f : Fmt) (a b : Nat) : Nat := fEncode f (fMul (fDecode f a) (fDecode f b))
/-- Fused multiply-add of bits, rounded once. -/
def fmaBits (f : Fmt) (a b c : Nat) : Nat := fEncode f (fAdd (fMul (fDecode f a) (fDecode f b)) (fDecode f c))

/-- An exact signed integer as a value. -/
def fOfInt (i : Int) : FVal := .fin (decide (i < 0)) i.natAbs 0

/-- Convert bits between formats. -/
def fConv (src dst : Fmt) (b : Nat) : Nat := fEncode dst (fDecode src b)

/-- `log2` of the lane count is given by widths: apply an operation lane by lane to numbers of `n` lanes of `w` bits. -/
def lanes (n w : Nat) (g : Nat → Nat → Nat) (a b : Nat) : Nat :=
  (List.range n).foldl (fun r i => r + (g (a / 2 ^ (w * i) % 2 ^ w) (b / 2 ^ (w * i) % 2 ^ w) % 2 ^ w) * 2 ^ (w * i)) 0

/-- A two's-complement number of `w` bits as an integer. -/
def sInt (w x : Nat) : Int := if 2 ^ (w - 1) ≤ x % 2 ^ w then ((x % 2 ^ w : Nat) : Int) - 2 ^ w else ((x % 2 ^ w : Nat) : Int)

/-- The `w` bits of an integer. -/
def sBits (w : Nat) (i : Int) : Nat := (i % 2 ^ w).toNat

end Sys2Proof.Machine
end

