-- ==== Sys2Proof/Config.lean ====
section
/-! DEFINITION. What one part or one implementation fixes (fused values), and the free values: constants
without a body, so that no proof can rest on a value the specification leaves open. -/

namespace Sys2Proof.Config

/-- A value the specification leaves open, the `n`-th time one is drawn (assumption log, entry 2). -/
opaque freeValue : Nat → Word

/-- GLOBAL_DEVICE_ID.STEPPING, fused (23, R547). -/
opaque stepping : BitVec 8
/-- GLOBAL_DEVICE_ID.PCI_VENDOR, fused (23, R542). -/
opaque pciVendor : BitVec 16
/-- GLOBAL_DEVICE_SERIAL, fused (23, R547). -/
opaque serial : Word
/-- MGMT_ETH_CFG.MAC, fused (23, R553). -/
opaque mac : BitVec 48
/-- SETTLE_ROOT_HASH word `k`, fused (19, R461). -/
opaque rootHash : Nat → Word
/-- SETTLE_ROOT_SVN as fused before any SVN_COMMIT (19, R461). -/
opaque rootSvn : BitVec 8
/-- The DRAM bank (modulo 64) and row in which a line of a BAU bank lies, by its position in the bank (10; no geometry is laid down). -/
opaque dramBank : Nat → Nat
opaque dramRow : Nat → Nat
/-- Which of the FP32 values within the 2 ulp of R272 is the `exp` of FP32 bits, counted up from the least of them. -/
opaque bauExp : BitVec 32 → Nat
/-- The CX-A code lengths that pass 1 gives symbol counts (09, R232). -/
opaque cxaLengths : List Nat → List Nat
/-- The CX-P tokens with which the device encodes a block: `none` a literal of the next byte, else length and distance of a match (09; the
choice among the token sequences of a block is not laid down). -/
opaque cxpTokens : List (BitVec 8) → List (Option (Nat × Nat))
/-- Speed code less one and log2 of the width that the management link trained to, over device time (23, R542). -/
opaque mgmtSpeed : Nat → Fin 5
opaque mgmtWidth : Nat → Fin 4
/-- Temperature of the hottest switch die sensor and its index over device time, while none is at its alert threshold (22). -/
opaque dieTemp : Nat → BitVec 8
opaque dieSensor : Nat → Fin 64
/-- Fused targets of the AVS rails, in mV above the least of each rail's range (22, R523). -/
opaque avsFused : Nat → Fin 61
/-- Instruction counts of the standard kernels (12, TRESTLE_SLOT). -/
opaque stdInstr : Nat → BitVec 13
/-- The slots that Nimpa proposes for a port's reservation groups, by port, units of each group and slot (R372, SLICE_SLOT_MAP): 0 unreserved, 1 to 4
group 0 to 3. The model takes the proposal where it keeps the rule's bounds. -/
opaque slotMap : Nat → List Nat → Nat → Fin 5

end Sys2Proof.Config
end

