-- ==== Sys2Proof/Machine/RegMap.lean ====
section
/-! DEFINITION. The BAR0 register map (R543, R547): for each register its width, its fields with access type,
reset value and range, and the register that holds the SETUP_OPEN bit of its block. -/

namespace Sys2Proof.Machine

/-- Access type of a register field (R8). `own` marks a field whose write has a row of its own in the table of
commands; REGISTER_WRITE leaves such a field alone. -/
inductive Acc where
  | rw | ro | rw1c | wo | rwo | rwl | own
  deriving DecidableEq, Repr

/-- A register field: low bit, width, access type, reset value, and the range a write must lie in. -/
structure Field where
  lo : Nat
  len : Nat
  acc : Acc
  reset : Nat
  least : Nat
  most : Nat
  unit : Nat := 1
  deriving DecidableEq, Repr

/-- A register: bytes (4 or 8), fields, whether it is a counter register (R558), and the offset and bit of its block's
SETUP_OPEN. -/
structure RegInfo where
  bytes : Nat
  fields : List Field
  counter : Bool
  setupAt : Option (Nat × Nat)
  deriving DecidableEq, Repr

def fRW (lo len reset : Nat) : Field := ⟨lo, len, .rw, reset, 0, 2 ^ len - 1, 1⟩
def fRWr (lo len reset least most : Nat) : Field := ⟨lo, len, .rw, reset, least, most, 1⟩
def fRO (lo len reset : Nat) : Field := ⟨lo, len, .ro, reset, 0, 2 ^ len - 1, 1⟩
def fW1C (lo len : Nat) : Field := ⟨lo, len, .rw1c, 0, 0, 2 ^ len - 1, 1⟩
def fWO (lo len : Nat) : Field := ⟨lo, len, .wo, 0, 0, 2 ^ len - 1, 1⟩
def fRWL (lo len reset : Nat) : Field := ⟨lo, len, .rwl, reset, 0, 2 ^ len - 1, 1⟩
def fRWLr (lo len reset least most : Nat) : Field := ⟨lo, len, .rwl, reset, least, most, 1⟩
def fRWLu (lo len unit : Nat) : Field := ⟨lo, len, .rwl, 0, 0, 2 ^ len - 1, unit⟩
def fOwn (lo len reset : Nat) : Field := ⟨lo, len, .own, reset, 0, 2 ^ len - 1, 1⟩

/-- A register with the given fields, its SETUP_OPEN to be filled in by the block. -/
def reg8 (fs : List Field) : RegInfo := ⟨8, fs, false, none⟩
def reg4 (fs : List Field) : RegInfo := ⟨4, fs, false, none⟩
/-- A read-only 64-bit counter (R557). -/
def regCnt : RegInfo := ⟨8, [fRO 0 64 0], true, none⟩

/-- Bases of the blocks (R547). -/
def portBase (p : Nat) : Nat := 0x100000 + p * 0x1000
def sliceBase (k : Nat) : Nat := if k = 16 then 0x3F0000 else 0x200000 + k * 0x10000
def stackBase (s : Nat) : Nat := 0x300000 + s * 0x10000
def trestleBase : Nat := 0x400000
def settleBase : Nat := 0x500000
def ringBase (n : Nat) : Nat := 0x600000 + n * 0x80
def ringGlobal : Nat := 0x680000
def rasBase : Nat := 0x700000
def telemetryBase : Nat := 0x800000
def mgmtBase : Nat := 0x900000
def msixBase : Nat := 0x3FF0000

/-- `lo ≤ o < lo + n*step` and `o` on a step boundary. -/
def inRow (o lo n step : Nat) : Bool := decide (lo ≤ o ∧ o < lo + n * step ∧ (o - lo) % step = 0)

/-- Reset values of the WRED profiles (16, R395): MIN_TH, MAX_TH, MAX_P. -/
def wredReset (i : Nat) : Nat × Nat × Nat :=
  if i = 0 then (4096, 12288, 25) else if i = 1 then (1024, 4096, 64) else if i = 2 then (0, 1024, 255) else (0, 0, 0)

/-- Reset weight of class node `c` (16, PORT_CLASS_CFG); entry 4 is reserved. -/
def classWeightReset (c : Nat) : Nat :=
  [2, 4, 8, 16, 0, 64, 128].getD c 0

/-- Registers of GLOBAL (03, 07, 08, 09, 13, 14, 16, 21, 23). -/
def globalReg (o : Nat) : Option RegInfo :=
  if o = 0x0 then some (reg8 [fRO 0 16 0x9612, fRO 16 8 Config.stepping.toNat, fRO 32 16 Config.pciVendor.toNat])
  else if o = 0x8 then some (reg8 [fRO 0 64 Config.serial.toNat])
  else if o = 0x7F00 then some (reg8 [fRO 0 32 1, fRO 32 4 0])
  else if o = 0x7F08 then some (reg4 [fRWLr 0 16 10 1 65535])
  else if o = 0x7F10 then some (reg8 [fRO 0 17 0, fRO 32 25 0])
  else if o = 0x7F18 then some (reg8 [fRO 0 25 0])
  else if inRow o 0x7F80 8 8 then some regCnt
  else if decide (0x8000 ≤ o ∧ o < 0x8000 + 4096 * 0x20) then
    match (o - 0x8000) % 0x20 with
    | 0 => some (reg8 [fOwn 0 16 0, fOwn 16 1 0, fW1C 17 1])
    | 8 => some (reg8 [fRO 0 40 0])
    | 16 => some (reg8 [fRO 0 40 0])
    | 24 => some (reg8 [fRO 0 40 0])
    | _ => none
  else if o = 0x30000 then
    some (reg8 [fRWLr 0 16 100 1 65535, fRWLr 16 8 16 1 255, fRWLr 24 8 32 1 255, fRWLr 32 8 16 1 255,
      fRWLr 40 7 10 0 50])
  else if o = 0x30008 then some (reg8 [fRO 0 24 0, fRO 24 40 0])
  else if inRow o 0x30100 16 0x10 then some (reg8 [fRWLu 0 60 65536, fRWL 63 1 0])
  else if inRow o 0x30108 16 0x10 then some (reg8 [fRWLu 0 48 65536])
  else if inRow o 0x30200 16 8 then some (reg8 [fRO 0 7 0, fRO 7 11 0, fRO 18 1 0])
  else if inRow o 0x30400 12 8 then some regCnt
  else if o = 0x30800 then some (reg8 [fRO 0 17 0, fRO 32 12 0])
  else if inRow o 0x30900 256 8 then some (reg8 [fRO 0 16 0, fRO 16 8 0, fRO 24 4 0, fRO 28 1 0, fRO 32 32 0])
  else if inRow o 0x31200 16 8 then some regCnt
  else if o = 0x32000 then some (reg8 [fRO 0 15 0, fRO 16 13 0])
  else if inRow o 0x32100 8 8 then some regCnt
  else if o = 0x33000 then some (reg8 [fRWL 0 12 0xFFF, fRWL 16 16 0, fRWL 32 32 0])
  else if o = 0x33008 then some (reg8 [fRO 0 32 0, fRO 32 14 0])
  else if inRow o 0x33100 8 8 then some regCnt
  else if o = 0x34000 then some (reg8 [fRWL 0 12 0, fRWL 12 12 4095, fRWL 24 4 4])
  else if o = 0x34008 then
    some (reg8 [fRWLr 0 4 2 1 4, fRWLr 4 12 20 1 4095, fRWLr 16 8 25 1 255, fRWLr 24 8 5 1 255, fRWLr 32 8 1 1 255,
      fRWL 40 1 1])
  else if inRow o 0x34100 16 8 then
    let r := wredReset ((o - 0x34100) / 8)
    some (reg8 [fOwn 0 16 r.1, fOwn 16 16 r.2.1, fOwn 32 8 r.2.2])
  else if inRow o 0x34200 64 8 then some (reg8 [fRWr 0 8 1 1 255, fRW 8 10 0, fRWr 18 14 64 1 16383])
  else if inRow o 0x34400 4 8 then some regCnt
  else if inRow o 0x38000 4096 8 then
    some (reg8 [fRW 0 6 0, fRW 6 6 0, fRW 12 6 0, fRW 18 6 0, fRW 24 6 0, fRW 30 6 0])
  else if o = 0x40000 then some (reg4 [fOwn 0 1 1, fOwn 1 1 0])
  else if o = 0x40008 then
    some (reg8 [fRO 0 3 0, fRO 3 2 0, fW1C 5 1, fW1C 6 1, fRO 7 1 0, fRO 8 1 0, fRO 16 8 0, fRO 32 32 0])
  else if o = 0x40010 then some (reg8 [fOwn 0 64 0])
  else if o = 0x40100 then some (reg8 [fRW 0 2 0, fRW 2 1 0, fRW 8 8 0, fRWr 16 16 1000 1 65535])
  else if o = 0x40108 then some (reg8 [fRO 0 64 0])
  else if o = 0x40110 then some (reg8 [fOwn 0 64 0])
  else if o = 0x40118 then
    some (reg8 [fRO 0 1 0, fRO 1 1 0, fRO 2 1 0, fW1C 3 1, fRO 4 1 0, fRO 5 4 0, fRO 9 1 0, fRO 10 2 0, fRO 32 32 0])
  else if inRow o 0x40200 4 8 then some regCnt
  else none

/-- Registers of PORT block `p` at block offset `o` (06, 14, 15, 16, 17, 18, 23). -/
def portReg (p o : Nat) : Option RegInfo :=
  if o = 0x0 then some (reg8 [fRWL 0 2 3, fRWL 2 1 0, fRWL 3 2 2, fRWL 5 1 0, fOwn 8 1 1])
  else if o = 0x8 then
    let b := if p % 2 = 0 then 0 else 4
    some (reg8 ((List.range 8).map (fun j => fRWL (4 * j) 4 (b + j)) ++
      [fRWL 32 1 0, fRO 33 1 0, fRO 34 3 0, fRWL 37 8 0]))
  else if o = 0x10 then
    some (reg8 [fRWLr 0 2 0 0 1, fRWL 2 1 1, fRWL 3 1 1, fRWLr 4 10 256 16 1023, fRWLr 14 8 64 8 255,
      fRWLr 22 10 20 5 1000, fRWLr 32 16 1024 1 65535, fRWLr 48 8 64 8 255])
  else if o = 0x18 then some (reg4 [fOwn 0 1 1, fOwn 1 1 0, fOwn 2 1 0, fOwn 3 1 0, fOwn 4 1 0])
  else if o = 0x20 then
    some (reg8 [fRO 0 3 0, fRO 3 2 0, fRO 5 1 0, fRO 6 1 0, fRO 7 1 0, fRO 8 1 0, fRO 9 1 0, fRO 10 12 0xFFF,
      fRO 22 8 0, fRO 30 11 0])
  else if o = 0x28 then some (reg4 ((List.range 10).map (fun b => fW1C b 1)))
  else if decide (0x40 ≤ o ∧ o < 0x40 + 4 * 0x30 ∧ (o - 0x40) % 8 = 0 ∧ (o - 0x40) % 0x30 < 0x28) then
    some (reg8 [fWO 0 64])
  else if o = 0x100 then some (reg8 [fRWL 0 16 0, fRWL 16 1 0, fRWL 17 12 0xFFF, fRWLr 32 16 10 1 60000])
  else if inRow o 0x200 64 8 then some (reg8 [fOwn 0 16 0, fOwn 16 16 0xFFFF, fOwn 32 1 0])
  else if o = 0x400 then some (reg8 [fRWLr 0 8 75 0 90, fRO 8 8 0, fRO 16 8 0])
  else if inRow o 0x480 8 8 then some regCnt
  else if o = 0x500 then some (reg8 [fRO 0 11 0, fRO 16 17 0])
  else if inRow o 0x580 8 8 then some regCnt
  else if o = 0x600 then some (reg8 [fRWL 0 8 16, fRWL 8 8 0, fRWLr 16 16 256 1 65535])
  else if o = 0x608 then some (reg8 [fRWr 0 16 256 1 4096, fRWr 16 16 1024 1 4096, fRWr 32 16 512 1 4096])
  else if o = 0x610 then
    some (reg8 ((List.range 12).map (fun i => fOwn (4 * i) 4 (0x210210210210 >>> (4 * i) % 16))))
  else if inRow o 0x620 7 8 ∧ o ≠ 0x640 then
    some (reg8 [fRWr 0 8 (classWeightReset ((o - 0x620) / 8)) 1 255, fRW 8 10 0])
  else if o = 0x660 then some (reg4 [fOwn 0 1 0, fW1C 1 1])
  else if inRow o 0x680 16 8 then some (reg8 [fRW 0 3 0, fRW 3 12 0, fRW 15 1 0])
  else if inRow o 0x700 12 8 then some regCnt
  else if inRow o 0x800 16 8 then some regCnt
  else if inRow o 0x880 9 8 then some regCnt
  else if o = 0x900 then some (reg8 [fRWL 0 16 0, fRWL 16 1 0, fRWL 17 1 1, fRWLr 18 2 0 0 2, fRWLr 32 8 100 10 255])
  else if o = 0x908 then
    some (reg8 [fRO 0 3 0, fRO 3 2 0, fRO 5 1 0, fRO 6 1 0, fRO 7 1 0, fRO 8 1 0, fRO 10 26 0])
  else if o = 0x910 then some (reg4 ((List.range 8).map (fun b => fW1C b 1)))
  else if inRow o 0x940 8 0x10 then some (reg8 [fRWLu 0 48 65536, fRWL 63 1 0])
  else if inRow o 0x948 8 0x10 then some (reg8 [fRWLu 0 48 65536])
  else if o = 0xA00 then some (reg4 [fRWL 0 1 1])
  else if inRow o 0xA80 16 8 then some regCnt
  else if inRow o 0xB00 64 0x10 then some (reg8 [fOwn 0 16 0, fOwn 16 4 0, fOwn 20 1 0, fOwn 21 1 0])
  else if inRow o 0xB08 64 0x10 then some (reg8 [fOwn 0 16 0, fOwn 16 16 0, fOwn 32 16 0, fOwn 48 16 0])
  else if inRow o 0xF00 12 8 then some regCnt
  else none

/-- Registers of a SLICE block at block offset `o` (04, 06, 15, 16). -/
def sliceReg (o : Nat) : Option RegInfo :=
  if o = 0x0 then some (reg8 [fRO 0 2 0, fRO 2 4 0, fRO 6 1 0, fRO 8 5 16, fRO 13 6 0])
  else if o = 0x8 then some (reg8 [fRWLr 0 10 512 64 512, fRWLr 10 5 16 4 16, fRWLr 16 11 1024 64 1024, fRWLr 32 7 16 1 64])
  else if o = 0x10 then some (reg8 [fRO 0 17 65536, fRO 17 17 0, fRO 34 17 0])
  else if o = 0x18 then some (reg4 ((List.range 4).map (fun b => fW1C b 1)))
  else if inRow o 0x100 12 8 then some regCnt
  else if inRow o 0x1000 64 8 then some (reg8 [fRO 0 64 0])
  else if o = 0x8000 then some (reg4 [fRWLr 0 20 1000 10 100000, fRWL 20 1 1])
  else if o = 0x8008 then some (reg8 [fRO 0 13 0, fRO 16 23 0, fRO 39 10 0])
  else if o = 0x8010 then some (reg4 ((List.range 5).map (fun b => fW1C b 1)))
  else if o = 0x8018 then some (reg8 [fRO 0 16 0, fRO 16 42 0])
  else if o = 0x8020 then some (reg4 [fRWLr 0 12 256 1 4095, fRWLr 12 12 1024 1 4095])
  else if inRow o 0x8100 16 8 then some regCnt
  else if o = 0x8200 then
    some (reg8 [fRWLr 0 8 16 2 255, fRWLr 8 16 1000 100 10000, fRWLr 24 6 4 2 63, fRWL 30 1 1, fRWL 31 1 1,
      fRWLr 32 10 10 1 1000])
  else if o = 0x8208 then some (reg8 [fRO 0 13 0, fRO 13 13 0, fRO 26 15 0])
  else if inRow o 0x8300 16 8 then some regCnt
  else if o = 0xFF00 then some (reg4 [fOwn 0 1 1])
  else none

/-- Registers of a STACK block at block offset `o` (10, 11). -/
def stackReg (o : Nat) : Option RegInfo :=
  if o = 0x0 then
    some (reg8 [fRWLr 0 8 85 70 90, fRWL 8 8 82, fRWLr 16 8 95 90 100, fRWLr 24 16 64 1 65535, fRWLr 40 8 24 1 255,
      fRWL 48 1 1])
  else if o = 0x8 then some (reg8 [fRO 0 8 0, fRO 8 1 0, fRO 9 1 0, fRO 10 2 0, fRO 12 5 16, fRO 17 1 0, fRO 32 20 0])
  else if o = 0x10 then some (reg4 ((List.range 8).map (fun b => fW1C b 1)))
  else if inRow o 0x100 16 8 then some regCnt
  else if inRow o 0x200 16 8 then some (reg4 [fRO 0 8 0, fRO 8 1 0, fRO 9 1 0])
  else if o = 0x400 then some (reg8 [fRWLr 0 21 1638400 65536 1638400, fRWLr 21 7 64 1 64, fRWL 28 1 1])
  else if o = 0x408 then some (reg8 [fRO 0 9 0, fRO 9 13 0, fRO 22 21 0, fRO 43 1 0])
  else if inRow o 0x500 8 8 then some regCnt
  else if o = 0xFF00 then some (reg4 [fOwn 0 1 1])
  else none

/-- Registers of TRESTLE (12). -/
def trestleReg (o : Nat) : Option RegInfo :=
  if o = 0x0 then some (reg8 [fRWLr 0 16 0 0 65472, fRWLr 16 4 8 1 8, fRWL 20 1 1])
  else if o = 0x8 then some (reg8 [fRO 0 7 0, fRO 7 4 0, fRO 11 11 0])
  else if inRow o 0x100 72 8 then some (reg8 [fRO 0 2 0, fRO 2 6 0, fRO 8 10 0, fRO 18 11 0])
  else if inRow o 0x400 256 8 then some (reg8 [fRO 0 16 0, fRO 16 13 0, fRO 29 1 0, fRO 30 1 0, fRO 32 11 0])
  else if inRow o 0xC00 12 8 then some regCnt
  else if o = 0xFFF00 then some (reg4 [fOwn 0 1 1])
  else none

/-- Registers of SETTLE (19). -/
def settleReg (o : Nat) : Option RegInfo :=
  if o = 0x0 then some (reg8 [fRWLr 0 4 4 0 8, fRWLr 8 10 100 10 1000])
  else if o = 0x8 then some (reg8 [fRO 0 3 0, fRO 3 1 0, fRO 4 1 0, fRO 5 6 0, fRO 11 3 0, fRO 16 8 0, fRO 32 32 0])
  else if o = 0x10 then some (reg4 ((List.range 7).map (fun b => fW1C b 1)))
  else if inRow o 0x100 36 8 then some (reg8 [fRO 0 2 0, fRO 2 5 0, fRO 7 2 0])
  else if o = 0x400 then some (reg4 [fOwn 0 1 0, fRO 1 1 0, fW1C 2 1, fRW 3 1 0])
  else if inRow o 0x600 6 8 then some (reg8 [fRO 0 64 (Config.rootHash ((o - 0x600) / 8)).toNat])
  else if o = 0x630 then some (reg8 [fRO 0 8 Config.rootSvn.toNat])
  else if inRow o 0x800 8 8 then some regCnt
  else if inRow o 0x1000 512 8 then some (reg8 [fRW 0 64 0])
  else if inRow o 0x2000 512 8 then some (reg8 [fRO 0 64 0])
  else if o = 0xFFF00 then some (reg4 [fOwn 0 1 1])
  else none

/-- Registers of RINGSETUP (02). -/
def ringReg (o : Nat) : Option RegInfo :=
  if o = 0x80000 then some (reg4 [fOwn 0 1 1])
  else if o = 0x80008 then some (reg4 [fRWL 0 16 4])
  else if o = 0x80010 then some (reg4 [fW1C 0 32])
  else if o = 0x80018 then some (reg4 [fW1C 0 32])
  else if o < 0x80000 then
    match o % 0x80 with
    | 0x00 => some (reg8 [fRW 12 52 0])
    | 0x08 => some (reg8 [fRW 12 52 0])
    | 0x10 => some (reg8 [fRW 6 58 0])
    | 0x18 => some (reg8 [fRW 0 5 0, fRW 8 5 0, fRW 16 16 0, fRW 32 7 0, fRW 39 1 0, fRW 40 1 0, fRW 41 1 0, fRW 42 1 0])
    | 0x20 => some (reg4 [fOwn 0 1 0, fOwn 1 1 0])
    | 0x28 => some (reg8 [fRO 0 3 0, fW1C 3 1, fRO 4 4 0, fRO 8 8 0, fRO 16 17 0])
    | 0x30 => some (reg4 [fRO 0 17 0])
    | 0x38 => some (reg4 [fRO 0 17 0])
    | _ => none
  else none

/-- Registers of RAS (20). -/
def rasReg (o : Nat) : Option RegInfo :=
  if o = 0x0 then some (reg8 [fRWLr 0 4 3 1 8, fRWLr 4 12 16 1 4095, fRWLr 16 8 2 1 100])
  else if o = 0x8 then some (reg8 [fW1C 0 1, fRO 16 14 0, fRO 32 32 0])
  else if o = 0x10 then some (reg8 [fRWL 0 5 0, fRWL 5 1 0])
  else if o = 0x18 then some (reg8 [fRWL 12 52 0])
  else if o = 0x20 then some (reg4 [fRO 0 17 0])
  else if o = 0x28 then some (reg4 [fRW 0 17 0])
  else if inRow o 0x100 16 8 then some (reg8 [fRWL 0 32 0, fRWL 32 1 0, fRO 33 1 0])
  else if inRow o 0x800 12 8 then some regCnt
  else if inRow o 0x2000 512 8 then
    match (o - 0x2000) % 0x20 with
    | 0 => some (reg8 [fRWL 0 64 0])
    | 8 => some (reg8 [fRWL 0 64 0])
    | 16 => some (reg8 [fRWL 0 12 0xFFF, fRWL 16 12 0xFFF, fRWL 32 12 0xFFF, fRWL 48 12 0xFFF, fRWL 63 1 0])
    | _ => some (reg8 [])
  else if inRow o 0x40000 32768 8 then some (reg8 [fRO 0 64 0])
  else if o = 0xFFF00 then some (reg4 [fOwn 0 1 1])
  else none

/-- Registers of TELEMETRY (16, 23). -/
def telemetryReg (o : Nat) : Option RegInfo :=
  if decide (o < 128 * 0x1800 ∧ o % 8 = 0) then some regCnt
  else if o = 0xF0000 then some (reg4 [fOwn 0 1 0, fRW 1 1 0, fRO 2 1 0, fW1C 3 1, fRO 4 1 0, fRW 5 1 0])
  else if o = 0xF0008 then some (reg8 [fRO 0 64 0])
  else if o = 0xFFF00 then some (reg4 [fOwn 0 1 1])
  else none

/-- Registers of MGMT (22, 23). -/
def mgmtReg (o : Nat) : Option RegInfo :=
  if o = 0x0 then some (reg4 [fRO 0 3 0, fRO 3 4 0])
  else if o = 0x8 then some (reg4 [fW1C 0 1, fW1C 1 1])
  else if o = 0x10 then some (reg4 [fRO 0 26 0, fRO 26 1 0])
  else if o = 0x100 then some (reg4 [fRWLr 0 8 105 90 110])
  else if o = 0x108 then some (reg8 [fRO 0 8 0, fRO 8 6 0, fRO 16 8 0, fRO 24 4 0, fRO 28 1 0, fRO 29 1 0])
  else if o = 0x110 then some (reg4 [fW1C 0 1, fW1C 1 1, fW1C 2 1, fRO 3 1 0])
  else if o = 0x118 then some (reg8 [fRO 0 9 0, fRO 16 16 750, fRO 32 16 750, fRO 48 16 800])
  else if o = 0x120 then some (reg4 [fRWL 0 1 1])
  else if inRow o 0x180 4 8 then some regCnt
  else if o = 0x200 then some (reg8 [fRWL 0 48 Config.mac.toNat, fRWL 48 12 0, fRWL 60 1 0, fRWL 61 1 1])
  else if o = 0x208 then some (reg8 [fRWL 0 32 0, fRWL 32 5 0])
  else if o = 0x210 then some (reg4 [fRO 0 1 0, fRO 1 1 0])
  else if inRow o 0x280 6 8 then some regCnt
  else if inRow o 0x300 2 8 then some regCnt
  else if o = 0xFFF00 then some (reg4 [fOwn 0 1 1])
  else none

/-- The MSI-X table (two words a vector: address; data and vector control) and pending bit array (R546). The mask bit
is bit 0 of the vector control, set at reset (PRESUMED, assumption log, entry 5). -/
def msixReg (o : Nat) : Option RegInfo :=
  if inRow o 0 2048 16 then some (reg8 [fRW 0 64 0])
  else if inRow o 8 2048 16 then some (reg8 [fRW 0 32 0, fRW 32 1 1])
  else if inRow o 0x8000 32 8 then some (reg8 [fRO 0 64 0])
  else none

/-- The register at BAR0 offset `a` (8 B aligned), with its block's SETUP_OPEN (R547); `none` where no register is. -/
def regInfo (a : Nat) : Option RegInfo :=
  let withSetup (r : Option RegInfo) (at_ bit : Nat) : Option RegInfo :=
    r.map (fun i => { i with setupAt := some (at_, bit) })
  if a < 0x100000 then withSetup (globalReg a) 0x40000 0
  else if a < 0x180000 then
    let p := (a - 0x100000) / 0x1000
    withSetup (portReg p ((a - 0x100000) % 0x1000)) (portBase p) 8
  else if a < 0x200000 then none
  else if a < 0x300000 then
    let k := (a - 0x200000) / 0x10000
    withSetup (sliceReg ((a - 0x200000) % 0x10000)) (sliceBase k + 0xFF00) 0
  else if a < 0x3C0000 then
    let s := (a - 0x300000) / 0x10000
    withSetup (stackReg ((a - 0x300000) % 0x10000)) (stackBase s + 0xFF00) 0
  else if a < 0x3F0000 then none
  else if a < 0x400000 then withSetup (sliceReg (a - 0x3F0000)) (sliceBase 16 + 0xFF00) 0
  else if a < 0x500000 then withSetup (trestleReg (a - 0x400000)) (trestleBase + 0xFFF00) 0
  else if a < 0x600000 then withSetup (settleReg (a - 0x500000)) (settleBase + 0xFFF00) 0
  else if a < 0x700000 then withSetup (ringReg (a - 0x600000)) ringGlobal 0
  else if a < 0x800000 then withSetup (rasReg (a - 0x700000)) (rasBase + 0xFFF00) 0
  else if a < 0x900000 then withSetup (telemetryReg (a - 0x800000)) (telemetryBase + 0xFFF00) 0
  else if a < 0xA00000 then withSetup (mgmtReg (a - 0x900000)) (mgmtBase + 0xFFF00) 0
  else if a < 0x3FF0000 then none
  else if a < 0x4000000 then msixReg (a - 0x3FF0000)
  else none

/-- The bits of fields `fs` at reset. -/
def fieldsReset : List Field → Nat
  | [] => 0
  | f :: fs => (f.reset % 2 ^ f.len) <<< f.lo ||| fieldsReset fs

/-- The reset value of the register at `a`; 0 where none is. -/
def regReset (a : Nat) : BitVec 64 :=
  match regInfo a with
  | some i => BitVec.ofNat 64 (fieldsReset i.fields)
  | none => 0

end Sys2Proof.Machine
end

