-- ==== Sys2Proof/Machine/StBau.lean ====
section
/-! DEFINITION. State of the Bank Arithmetic Units (11): placements, sequences with their registers, timing meters. -/

namespace Sys2Proof.Machine

/-- A row of PB or ACC (R267, R268): 32 entries of 32 bits, their poison bits, and whether the row is typed INT32. -/
structure Row32 where
  int : Bool := false
  v : List (BitVec 32) := []
  p : BitVec 32 := 0
  deriving DecidableEq, Repr, Inhabited

/-- The registers of one BAU (R267). SB is kept by 64 B lines, keyed column × 64 + line, with the poisoned ones listed. -/
structure BauRegs where
  a : List Word := []
  c : List (BitVec 32) := []
  f : List (BitVec 32) := []
  sb : Tbl Line := []
  sbBad : List Nat := []
  sbFmt : Nat := 0
  pb : Tbl Row32 := []
  acc : Tbl Row32 := []
  m : Row32 := {}
  l : Row32 := {}
  deriving DecidableEq, Repr, Inhabited

/-- Where a launch stands (R282): queued, holds being installed, ready to start, running, committed, stopped. -/
inductive SeqStage where
  | queued | holding | ready | running | committed | stopped
  deriving DecidableEq, Repr, Inhabited

/-- A launched sequence (R271, R282). `num`: its order of launch; `tag`: its recalls; `wbuf`: the write buffer of the quantum;
`used`: busy-cycles executed and not yet taken from a granted quantum; `granted`, `grantAt`, `quanta`: a quantum is granted, since when, quanta done; `ckRegs` and what follows: the
checkpoint (R289); `window`: switch-die line accesses that the preemption point still serves; `seen`: accesses that waited for it (R247);
`waited`: its start was delayed by tBAW; `waitFrom`: since when it waits for a grant; `faulted`: the quantum failed
once; `bad`: lines written poisoned; `mismatch`: raw offset of the first block that did not decode. -/
structure Seq where
  num : Nat
  handle : Nat
  key : Key
  stack : Nat
  bank : Nat
  gen : Nat
  tag : Nat := 0
  image : Nat := 0
  reads : List (Nat × Nat) := []
  locks : List (Nat × Nat) := []
  prog : List Word := []
  pc : Nat := 0
  regs : BauRegs := {}
  wbuf : List (Nat × Line × Bool) := []
  flags : Nat := 0
  cycles : Nat := 0
  used : Nat := 0
  granted : Bool := false
  grantAt : Nat := 0
  quanta : Nat := 0
  stage : SeqStage := .queued
  ckRegs : BauRegs := {}
  ckPc : Nat := 0
  ckFlags : Nat := 0
  ckCycles : Nat := 0
  ckUsed : Nat := 0
  window : Nat := 32
  seen : List Nat := []
  waited : Bool := false
  waitFrom : Option Nat := none
  faulted : Bool := false
  bad : Nat := 0
  mismatch : Option Nat := none
  deriving DecidableEq, Repr, Inhabited

/-- A BAU placement (R284 to R286). `made`: BAU_PLACE has completed; `closing`: its pages are to be freed; `closeH`: the RELEASEs that wait for it;
`moveTo`: the stack and bank it moves to under an evacuation (R260); `cxw`: slot and generation of its object; `failed`: its
failed blocks. -/
structure Placement where
  base : Nat
  len : Nat
  stack : Nat
  bank : Nat
  owner : Key
  made : Bool := false
  closing : Bool := false
  closeH : List Nat := []
  moveTo : Option (Nat × Nat) := none
  cxw : Option (Nat × Nat) := none
  failed : List Nat := []
  deriving DecidableEq, Repr, Inhabited

/-- The BAUs (11). `starts`, `grants`: times of recent starts and of recent grants with their cycles, per stack (R278);
`limited`: when a BAU of the stack last waited for a grant; `reading`: the recall under which a launch reads its image, by handle. -/
structure BauSt where
  places : Tbl Placement := []
  seqs : List Seq := []
  nextSeq : Nat := 0
  starts : Tbl (List Nat) := []
  grants : Tbl (List (Nat × Nat)) := []
  limited : Tbl Nat := []
  rotation : Tbl Nat := []
  reading : Tbl Nat := []
  deriving DecidableEq, Repr, Inhabited

end Sys2Proof.Machine
end

