-- ==== Sys2Proof/Machine/StCoh.lean ====
section
/-! DEFINITION. State of the home agent partitions (04), of ordering at the ports (05) and of atomics and Far mode
(06). Lines are named by their number, the pool offset divided by 64. -/

namespace Sys2Proof.Machine

/-- Directory states of a filter entry (R94). -/
inductive DirState where
  | s | e | m
  deriving DecidableEq, Repr, Inhabited

/-- A snoop filter entry (R94): precise holders, or a coarse group vector once a fifth sharer is recorded. -/
structure DirEntry where
  st : DirState
  precise : List Endpoint := []
  coarse : Option (BitVec 64) := none
  ring : Bool := false
  age : Nat := 0
  deriving DecidableEq, Repr, Inhabited

/-- A snoop of a transaction: to whom, of what kind, when it was sent (none: not yet), sent twice, and its snoop tag (R422). -/
structure Snoop where
  dest : Holder
  kind : SnpKind
  sentAt : Option Nat := none
  retried : Bool := false
  recalls : Bool := false
  coarse : Bool := false
  stag : Nat := 0
  deriving DecidableEq, Repr, Inhabited

/-- Recall kinds (04, Recall); `current` fetches dirty data and keeps the holder's state, for reads by engines. -/
inductive RecallKind where
  | exclusive | downgrade | discard | current
  deriving DecidableEq, Repr, Inhabited

/-- A recall waiting for the recall engine (R104), and on whose behalf (`tag`). -/
structure RecallItem where
  line : Nat
  kind : RecallKind
  tag : Nat
  deriving DecidableEq, Repr, Inhabited

/-- What a line's transaction is for. -/
inductive TKind where
  | req (r : Req)
  | recalls (kind : RecallKind) (tag : Nat)
  deriving DecidableEq, Repr, Inhabited

/-- A completion on its way to its source's egress port island. -/
structure Done where
  port : Nat
  src : Endpoint
  tag : Nat
  cmp : CmpKind
  status : Status := .ok
  data : Option Line := none
  poison : Bool := false
  echo : Bool := false
  results : List (BitVec 128) := []
  part : Nat := 0
  comb : List CombRes := []
  deriving DecidableEq, Repr, Inhabited

/-- A replay entry (R155): result of an atomic applied for a source and ASEQ. -/
structure Replay where
  part : Nat
  src : Endpoint
  aseq : BitVec 16
  tag : BitVec 14
  result : BitVec 128
  poison : Bool
  deriving DecidableEq, Repr, Inhabited

/-- An open home transaction, which keeps its line Blocked (R98). `wbFrom`: WbDirty announced and awaited; `wbGot`: WbDirty
arrived; `dirty`: newest dirty data returned, with poison; `memWait`, `mem`: the memory copy asked for, once read;
`writing`: a memory write issued with that value; `issued`: the request's own write issued; `poisoned`: a fenced owner's
line (R109); `outs`, `made`: the completions to send and the replay entries to make once the write is done; `hits`, `stales`: records of
an AtomComb answered from the replay table, and discarded as stale (R156). -/
structure Trans where
  kind : TKind
  tracker : Bool := false
  snoops : List Snoop := []
  wbFrom : List Endpoint := []
  wbGot : List Endpoint := []
  kept : List Holder := []
  dirty : Option (Line × Bool) := none
  memWait : Bool := false
  mem : Option (Line × Bool) := none
  writing : Option (Line × Bool) := none
  issued : Bool := false
  replied : Bool := false
  ackFrom : Option Endpoint := none
  poisoned : Bool := false
  outs : List Done := []
  made : List Replay := []
  hits : Nat := 0
  stales : Nat := 0
  deriving DecidableEq, Repr, Inhabited

/-- A read that does not block its line, on its way back from memory with the value it found when ordered. -/
structure PendRead where
  line : Nat
  req : Req
  cmp : CmpKind
  data : Line
  poison : Bool
  deriving DecidableEq, Repr, Inhabited

/-- Lines that a BAU sequence holds (11, R280): bytes `lo` to `hi`, lock set or read set, for the sequence at a bank. -/
structure Hold where
  stack : Nat
  bank : Nat
  lo : Nat
  hi : Nat
  lock : Bool
  deriving DecidableEq, Repr, Inhabited

/-- A line in the writeback buffer (R91). -/
structure WbEntry where
  line : Nat
  src : Endpoint
  data : Line
  poison : Bool
  deriving DecidableEq, Repr, Inhabited

/-- What the recalls of one tag have come to (R77): snoops sent, dirty lines written back, the hosts fenced, and the data
that `current` recalls returned. -/
structure RecallStat where
  snoops : Nat := 0
  dirtyWb : Nat := 0
  fenced : List Endpoint := []
  data : Tbl (Line × Bool) := []
  deriving DecidableEq, Repr, Inhabited

/-- The home agent partitions (04). `inbox`: requests at the ordering points, oldest first; `waitQ`: requests waiting
on Blocked lines; `starved`: numbers of inbox requests counted as waiting for a tracker. Registry entries are keyed
partition × 65,536 + endpoint, `true` registered, `false` fenced (R95, R109). `arrived` counts arrivals at the ordering points; `arbPtr`
is the rotating pointer of each partition, `arbTied` the partitions in whose present turn it breaks a tie (R89); `owed`: second answers to
snoops that another answer closed, by line, endpoint and snoop tag (R108). -/
structure CohSt where
  dir : Tbl DirEntry := []
  trans : Tbl Trans := []
  inbox : List Req := []
  starved : List Nat := []
  waitQ : List Req := []
  wbBuf : List WbEntry := []
  registry : Tbl Bool := []
  reads : List PendRead := []
  rereads : List Nat := []
  refetch : List Nat := []
  recallQ : List RecallItem := []
  recallTimes : Tbl (List Nat) := []
  stats : Tbl RecallStat := []
  sweeps : List Nat := []
  nextTag : Nat := 1
  ageCtr : Nat := 0
  toRetire : List Done := []
  holds : List Hold := []
  biAcks : List (Nat × Endpoint) := []
  arrived : Nat := 0
  arbPtr : Tbl Nat := []
  arbTied : List Nat := []
  owed : List (Nat × Endpoint × Nat) := []
  deriving DecidableEq, Repr, Inhabited

/-- A request of a source not yet retired (R118), released to the core or held (R124, R125); `checked`: its checks are done, it no longer
waits for its translation (R59); `refused`: the refusal it met, which it takes in its stream's place (R138); `cut`: a fence completed it
(R137). -/
structure Out where
  req : Req
  released : Bool
  cut : Bool := false
  throttled : Bool := false
  checked : Bool := true
  refused : Option Status := none
  deriving DecidableEq, Repr, Inhabited

/-- Fence flits (05). -/
inductive FenceKind where
  | all | wr | sync
  deriving DecidableEq, Repr, Inhabited

/-- A Fence in force at a port: it holds the source's requests that arrived after it (R126). -/
structure FenceHold where
  port : Nat
  src : Endpoint
  kind : FenceKind
  num : Nat
  deriving DecidableEq, Repr, Inhabited

/-- Ordering state of the ingress port islands (05): outstanding requests in arrival order, Fences in force,
unacknowledged WbDirty as (port, source, tag, arrival number), the arrival count. -/
structure OrdSt where
  outs : List Out := []
  fences : List FenceHold := []
  wbs : List (Nat × Endpoint × Nat × Nat) := []
  arrivals : Nat := 0
  deriving DecidableEq, Repr, Inhabited

/-- Modes of a line in the hot-line table (R147). -/
inductive FarMode where
  | near | entering | far | leaving
  deriving DecidableEq, Repr, Inhabited

/-- A hot-line entry (R147), with the line's Far buffer while it is not NEAR. -/
structure Hot where
  mode : FarMode := .near
  xfers : List Nat := []
  lastReq : Nat := 0
  updated : Nat := 0
  buf : Line := 0
  poison : Bool := false
  prevOwner : Option Holder := none
  tag : Nat := 0
  deriving DecidableEq, Repr, Inhabited

/-- A group combined at a trunk port, waiting for its CmpComb (R153). -/
structure Split where
  port : Nat
  tag : BitVec 14
  recs : List CombRec
  deriving DecidableEq, Repr, Inhabited

/-- Atomics and Far mode (06). `rseqs`: RSEQ per source at this home; `windows`: ASEQs not retired per source and home
switch (key source × 4,096 + home) at the source's ingress island. -/
structure AtmSt where
  hot : Tbl Hot := []
  replay : List Replay := []
  replayWait : List Nat := []
  rseqs : Tbl (BitVec 16) := []
  windows : Tbl (List (BitVec 16)) := []
  splits : List Split := []
  deriving DecidableEq, Repr, Inhabited

end Sys2Proof.Machine
end

