-- ==== Sys2Proof/Machine/StNet.lean ====
section
/-! DEFINITION. State of the switch core (15), congestion and egress scheduling (16), the Bromet links (17) and the CXL
ports and trays (18). -/

namespace Sys2Proof.Machine

/-- A throttle context (R391) of an injecting port island: home switch and class, rate and tokens. Rates are kept in
Mb/s and tokens in thousandths of a bit. -/
structure Throttle where
  island : Nat
  home : Nat
  bulk : Bool
  rate : Nat
  lastDec : Option Nat := none
  lastNotice : Nat := 0
  tokens : Nat := 0
  filled : Nat := 0
  deriving DecidableEq, Repr, Inhabited

/-- Buckets of a policer (R394), in thousandths of a bit, and when they were last filled. -/
structure Policer where
  c : Nat := 0
  p : Nat := 0
  at_ : Nat := 0
  deriving DecidableEq, Repr, Inhabited

/-- A packet in the egress queues of a port (R376, R397 to R401). `tq`: its tenant queue, none in the overflow queue; `grp`:
the tether group of a conforming packet; `tuples`: the stage credits its cells hold; `stalled`:
counted as waiting for a link credit; `marker`: a path marker, which follows every earlier packet of its class (R353); `num`: its order of
entry; `copyOf`: the train that it is a copy of, and the member it is for, none for a child switch; `shares`: the shared cells of its copies
(R379). -/
structure EPkt where
  num : Nat
  port : Nat
  tc : Nat
  tq : Option Nat
  len : Nat
  tuples : List Nat := []
  grp : Option Nat := none
  colour : Colour := .green
  mark : Bool := false
  poison : Bool := false
  stalled : Bool := false
  entered : Nat := 0
  marker : Bool := false
  copyOf : Option (Nat × Option Nat) := none
  shares : List Nat := []
  body : Body
  deriving DecidableEq, Repr, Inhabited

/-- A child of a scheduler node (R400): its tags, and its ballast in units of 1/8,192,000 B with the time it last accrued. -/
structure SChild where
  s : Word := 0
  f : Word := 0
  b : Int := 0
  at_ : Nat := 0
  backlogged : Bool := false
  deriving DecidableEq, Repr, Inhabited

/-- Congestion and scheduling (16). `children`: class nodes and tenant queues, keyed port × 2^20 + class × 2^17 + queue + 1
(0 for the class node); `sentAt`: when a port has sent all that it was given at rate R, in ps; `sentLog`: times and bytes of what it was given in its
last frame (R397); `vtime`: node virtual times, keyed port × 16 + class (8 for the port); `wred`: average depths in
2^-16 cells, keyed port × 8 + class; `hist`: live histogram bins by their offset in the TELEMETRY block. -/
structure CongSt where
  ctxs : List Throttle := []
  lastInc : Nat := 0
  policers : Tbl Policer := []
  egress : List EPkt := []
  nextPkt : Nat := 0
  children : Tbl SChild := []
  vtime : Tbl Word := []
  sentAt : Tbl Nat := []
  sentLog : Tbl (List (Nat × Nat)) := []
  wred : Tbl Nat := []
  lastPublish : Tbl Nat := []
  hist : Tbl Nat := []
  lastSample : Tbl Nat := []
  deriving DecidableEq, Repr, Inhabited

/-- A cell in the core (R364, R368): the command's cell, with its sequence, ingress position, middle position and tenant queue;
`conform`: a conforming tether cell of a group; `copyOf`, `share`: a multicast copy's train and member, and the cell that the copies share
(R379). -/
structure CoreCell where
  cell : Cell
  seq : Nat
  islice : Nat
  middle : Nat := 0
  tq : Nat := 0
  conform : Option Nat := none
  copyOf : Option (Nat × Option Nat) := none
  share : Option Nat := none
  deriving DecidableEq, Repr, Inhabited

/-- A reorder context (R375), keyed port × 2,048 + source × 8 + class: the expected sequence, cells held ahead, and the cells
of the packet being gathered. -/
structure Reorder where
  expect : Nat := 0
  held : List CoreCell := []
  gather : List CoreCell := []
  deriving DecidableEq, Repr, Inhabited

/-- Buffer rows of a slice (R381). -/
structure Rows where
  used : Nat := 0
  retired : Nat := 0
  deriving DecidableEq, Repr, Inhabited

/-- The switch core (15). `seqs`: next sequence of each stream, keyed as reorder contexts; `dropping`: streams whose packet met a WRED
discard and has not ended; `spread`: rotation pointers; `credits`: stage credits in use per tuple of positions; `leaving`: stage
credits of cells that have left for their port island; `meters`: tether token buckets, in thousandths of a bit with the time of their
filling; `holder`: the slice that serves a position; `failed`: failed slices; `takeover`: the position being taken over, by slice
`takeTo`; `rows`: buffer rows per slice; `shares`: position and copies left of each cell that multicast copies share (R364); `portPtr`, `classPtr`,
`groupPtr`: rotation pointers of the central scheduler, keyed egress position × 16 + middle, port, and port × 4 + group; `lastSlot`: the last
tether slot that each port has used (R371, R372). -/
structure CoreSt where
  seqs : Tbl Nat := []
  dropping : List Nat := []
  spread : Tbl Nat := []
  credits : Tbl Nat := []
  waiting : List CoreCell := []
  middle : List CoreCell := []
  pulled : List CoreCell := []
  reorder : Tbl Reorder := []
  meters : Tbl (Nat × Nat) := []
  holder : Tbl Nat := []
  spare : Option Nat := some 16
  failed : List Nat := []
  takeover : Option Nat := none
  takeTo : Nat := 16
  rows : Tbl Rows := []
  leaving : List Nat := []
  shares : Tbl (Nat × Nat) := []
  nextShare : Nat := 0
  portPtr : Tbl Nat := []
  classPtr : Tbl Nat := []
  groupPtr : Tbl Nat := []
  lastSlot : Tbl Nat := []
  deriving DecidableEq, Repr, Inhabited

/-- Link states (17), coded 0 to 6. -/
inductive LinkState where
  | down | detect | eq | lock | config | active | retrain
  deriving DecidableEq, Repr, Inhabited

/-- Stages of a lane replacement (R419): LANE_REQ sent, copy driven, adapted, announced in a marker. -/
inductive SpareStage where
  | asked | copied | adapted | marked
  deriving DecidableEq, Repr, Inhabited

/-- A Bromet link of a port (17). `replay`: FSEQ and last sending time of the flits not acknowledged, oldest first; `rejects`:
times each expected FSEQ was rejected; `credTx`: credits held per channel; `lastReport`: last cumulative report; `grant`: the
first report; `granted`: credits granted as receiver; `owe`: messages accepted, by channel, whose credits have not been returned (R426); `counters`: flit counters per transmit phase;
`badLanes`: physical lanes with a lasting fault; `spareWhy`: cause and details of the fault that the spare is to cure; `ser`: time, physical lane and number of corrected symbols (R419). -/
structure Link where
  st : LinkState := .down
  since : Nat := 0
  width : Nat := 0
  degraded : Bool := false
  encOn : Bool := false
  txPhase : Bool := false
  rxPhase : Bool := false
  rolling : Option Nat := none
  peerSwitch : Nat := 0xFFF
  epoch : Nat := 0
  peerEpoch : Option Nat := none
  txNext : Nat := 0
  rxNext : Nat := 0
  replay : List (Nat × Nat) := []
  rejects : Nat := 0
  rejLane : Option Nat := none
  discarding : Bool := false
  nakAt : Nat := 0
  owed : Nat := 0
  ackAt : Nat := 0
  credTx : Tbl Nat := []
  lastReport : Tbl Nat := []
  grant : Tbl Nat := []
  granted : Tbl Nat := []
  owe : Tbl Nat := []
  counters : Tbl Nat := []
  ctlSeen : Nat := 0
  ctlFails : List Nat := []
  tagFails : Nat := 0
  authDown : Bool := false
  keyDropped : List Nat := []
  sfCount : Option Nat := none
  goodMarkers : Nat := 0
  badMarkers : Nat := 0
  locked : Bool := false
  laneState : Nat := 0
  eqLanes : List Nat := []
  lockLanes : List Nat := []
  partner : Option TrainBlock := none
  spareLane : Option Nat := none
  spareStage : Option SpareStage := none
  spareSince : Nat := 0
  spareWhy : Nat × Nat × Nat := (4, 0, 0)
  partnerLane : Option Nat := none
  spareUsed : Bool := false
  badLanes : List Nat := []
  reduced : Option Nat := none
  trainings : Nat := 0
  retryAt : Nat := 0
  wasActive : Bool := false
  downSince : Option Nat := none
  ser : List (Nat × Nat × Nat) := []
  deriving DecidableEq, Repr, Inhabited

/-- States of a CXL port (18), coded 0 to 4. -/
inductive CxlState where
  | down | training | linkUp | memReady | failed
  deriving DecidableEq, Repr, Inhabited

/-- A CXL port (18): state, rate, lanes in use (0 until it has trained), and whether latency-optimised flits and IDE are in use. -/
structure CxlPort where
  st : CxlState := .down
  rate : Nat := 0
  width : Nat := 0
  lopt : Bool := false
  ideOn : Bool := false
  biEn : Bool := false
  memEn : Bool := false
  decoders : List Hdm := []
  trayCap : Nat := 0
  devLoad : Nat := 0
  lastPoll : Nat := 0
  deriving DecidableEq, Repr, Inhabited

/-- Links and CXL ports (17, 18), by port. `keys`: words written of each PORT_LINK_KEY set, as a mask keyed port × 4 + set;
`trayAgain`: lines re-read under R454; `traySent`: when the open request of a line was sent to its tray, and whether it was sent again. -/
structure LinkSt where
  links : Tbl Link := []
  keys : Tbl Nat := []
  cxl : Tbl CxlPort := []
  trayAgain : List Nat := []
  traySent : Tbl (Nat × Bool) := []
  deriving DecidableEq, Repr, Inhabited

end Sys2Proof.Machine
end

