-- ==== Sys2Proof/Machine/StBase.lean ====
section
/-! DEFINITION. State of rings and handles (02), of the pool and its composition (03), of management access (23), and
what the device sends out. -/

namespace Sys2Proof.Machine

/-- Ring states (R30), coded 0 to 3. -/
inductive RingState where
  | disabled | active | draining | halted
  deriving DecidableEq, Repr, Inhabited

/-- A ring pair (R26 to R37, R54, R55). Its base, shadow and configuration registers and CFG_ERR lie in the register
file. `closing`: ENABLE := 0 was written while the ring was HALTED. -/
structure Ring where
  st : RingState := .disabled
  enable : Bool := false
  closing : Bool := false
  gen : Nat := 0
  cause : Nat := 0
  /-- sequence of the next descriptor; SQ_HEAD is this modulo 2^17 (R40) -/
  seq : Nat := 0
  /-- T and C of R32 -/
  tail : Nat := 0
  cons : Nat := 0
  /-- W: records written since the enable -/
  written : Nat := 0
  lastShadow : Nat := 0
  /-- handles committed and not yet written, in commit order (R44) -/
  commits : List Nat := []
  /-- records held from before a warm reset (R54), and when they are dropped (R55) -/
  old : List Nat := []
  oldDue : Option Nat := none
  notifyPend : Bool := false
  lastNotify : Option Nat := none
  deriving DecidableEq, Repr, Inhabited

/-- Where a handle stands: its descriptor being fetched, live, or committed (R40). -/
inductive HPhase where
  | fetching | live | committed
  deriving DecidableEq, Repr, Inhabited

/-- A handle and its record (R40 to R52). `ready`: the record may be written. `fin`: the owning engine's completion,
on its way to the commit latch. `waitFor`: the target whose record comes first (R51). `image`: what the read of the
image that the descriptor names returned. `viaModule`: the policy module it was submitted for (R466). `remote`: the
switch it was forwarded from; `sentTo`: the switch it was forwarded to (R165). -/
structure HandleRec where
  ring : Nat
  gen : Nat
  seq : Nat
  phase : HPhase := .fetching
  opcode : Nat := 0
  flags : BitVec 8 := 0
  key : Key := 0
  tag : BitVec 32 := 0
  desc : Line := 0
  started : Bool := false
  prog : Nat := 0
  image : Option (List Byte) := none
  imagePoison : Bool := false
  fin : Option (Status × Word × Word) := none
  abortWon : Bool := false
  ready : Bool := false
  status : Status := .ok
  r0 : Word := 0
  r1 : Word := 0
  errLogged : Bool := false
  incomplete : Bool := false
  stamp : BitVec 32 := 0
  waitFor : Option Nat := none
  viaModule : Option Nat := none
  remote : Option Nat := none
  sentTo : Option Nat := none
  deriving DecidableEq, Repr, Inhabited

/-- Rings, handles, the fetch rotation (R36), and doorbells held as if they carried REL (R127): port, arrival
number, key and word. -/
structure RingsSt where
  rings : Tbl Ring := []
  handles : Tbl HandleRec := []
  rotRing : Nat := 0
  rotUsed : Nat := 0
  dbHeld : List (Nat × Nat × Key × Word) := []
  deriving DecidableEq, Repr, Inhabited

/-- A location of a page in a tier (R58): T0 stack, BAU bank (first bank when interleaved), frame, layout; T1 tray port
and unit address; T2 donor and page within it. -/
inductive Loc where
  | t0 (stack bank frame : Nat) (bankLocal : Bool)
  | t1 (tray unit units : Nat)
  | t2 (donor page : Nat)
  deriving DecidableEq, Repr, Inhabited

/-- What pins a page (R58). -/
inductive Pin where
  | none | bau (id : Nat) | window (id : Nat)
  deriving DecidableEq, Repr, Inhabited

/-- A backing page: what the Pool Map holds for an allocated page (R58), with its backing copy (R194) and the key it is
charged to (R63). Pages of a shelf share backing pages (R171). `dirtySince` gives per dirty sector since when (R211). A
lost page (R489) keeps its last location's tier for its charge. `copyUnits`: the units of each block of a backing copy in T1 (R224). -/
structure Back where
  loc : Loc
  copy : Option Loc := none
  sectors : BitVec 16 := 0
  dirty : BitVec 16 := 0
  dirtySince : Tbl Nat := []
  pin : Pin := .none
  moving : Bool := false
  age : Nat := 0
  charge : Key := 0
  lost : Bool := false
  copyUnits : List Nat := []
  deriving DecidableEq, Repr, Inhabited

/-- A tenant table entry (R62), with its quotas in bytes per tier, `none` for no limit (R83). -/
structure Tenant where
  key : Key := 0
  valid : Bool := false
  err : Bool := false
  q0 : Option Nat := some 0
  q1 : Option Nat := some 0
  q2 : Option Nat := some 0
  deriving DecidableEq, Repr, Inhabited

/-- One event of the composition's history: a key gained or lost a range (R67). -/
structure KeyEvent where
  key : Key
  lo : Nat
  hi : Nat
  granted : Bool
  gen : Nat
  time : Nat
  deriving DecidableEq, Repr, Inhabited

/-- A composition change (R68 to R82): the handle it serves (none for a fence step), the extents it installs, the ranges
it affects, those it removes with the keys that lose them, those it grants, the ranges it deletes or cuts, those it newly
covers, the extents to reserve with the index of the entry that asks, and result1 where it completes with its publication. -/
structure Change where
  handle : Option Nat
  extents : List Extent := []
  affected : List (Nat × Nat) := []
  removed : List (Nat × Nat × List Key) := []
  granted : List (Nat × Nat × Key) := []
  freeRanges : List (Nat × Nat) := []
  newRanges : List (Nat × Nat) := []
  reserve : List (Nat × Nat) := []
  discard : Bool := false
  whole : Bool := false
  r1 : Word := 0
  gen : Nat := 0
  tag : Nat := 0
  deriving DecidableEq, Repr, Inhabited

/-- A home request admitted, or an engine's unit issued (source 2^17), and not yet completed: what drains of generations (R70) and waits for requests checked
against an earlier object state (R167) look at. `chk` is the object-state count at its check. -/
structure Flight where
  src : Nat
  tag : Nat
  off : Nat
  len : Nat := 64
  gen : Nat
  chk : Nat
  deriving DecidableEq, Repr, Inhabited

/-- A live QUOTA_SET (R85 to R87). -/
structure QuotaOp where
  handle : Nat
  key : Key
  rate : Nat
  demoted : Nat := 0
  deriving DecidableEq, Repr, Inhabited

/-- Pool space, tenancy and composition (03). `pages` maps a page number to its backing page; `cells` holds backing
page contents in canonical form, by backing page × 65,536 + byte (an unlisted byte reads 0: R58, R79, R517);
`poisonLines` their poisoned lines, by backing page × 1,024 + line. `freeing`: pages freed that stay in their owner's usage until the record of
the handle is written (R79). -/
structure PoolSt where
  tenants : Tbl Tenant := []
  extents : List Extent := []
  gen : Nat := 1
  undrained : List Nat := []
  affected : List (Nat × Nat × Nat) := []
  history : List KeyEvent := []
  compOrder : List Nat := []
  ready : Option Change := none
  open_ : List Change := []
  pages : Tbl Nat := []
  backs : Tbl Back := []
  nextBack : Nat := 0
  cells : List Host.Cell := []
  poisonLines : List Nat := []
  toFree : List Nat := []
  freeing : List (Nat × Key × Tier) := []
  scrub : List Nat := []
  flights : List Flight := []
  quotaOps : List QuotaOp := []
  xlate : Tbl (List Nat) := []
  extCache : Tbl (List Nat) := []
  xlateWait : List Req := []
  lastAgeTick : Nat := 0
  deriving DecidableEq, Repr, Inhabited

/-- Management access state (23): the high word latched per requester (R556), the RWO fields already written by register and low bit (R8), shadow copies (R558), and the instruction in the test port (R538). -/
structure MgmtSt where
  latch : Tbl (Nat × BitVec 32) := []
  once : List (Nat × Nat) := []
  shadow : Tbl Word := []
  phyUp : Bool := false
  sgmiiSync : Bool := false
  lastPhyPoll : Option Nat := none
  tapInstr : TapInstr := .idcode
  deriving DecidableEq, Repr, Inhabited

end Sys2Proof.Machine
end

