-- ==== Sys2Proof/Machine/StRas.lean ====
section
/-! DEFINITION. State of error reporting and fencing (20), and of resets, clocks and device time (21). -/

namespace Sys2Proof.Machine

/-- An error record (R484); its CRC follows from the other fields. -/
structure ErrRec where
  time : Nat := 0
  seq : Nat := 0
  kind : Nat
  cls : Nat
  idx : Nat := 0
  cause : Nat
  key : Key := 0
  handle : Nat := 0
  tag : BitVec 32 := 0
  addr : Nat := 0
  d0 : Nat := 0
  d1 : Nat := 0
  spareKind : Nat := 0
  spareIdx : Nat := 0
  deriving DecidableEq, Repr, Inhabited

/-- A fence notice (R490): domain, whether it unfences, origin switch and its fence generation. -/
structure Notice where
  domain : Nat
  unfence : Bool
  origin : Nat
  gen : Nat
  deriving DecidableEq, Repr, Inhabited

/-- Errors, records and fences (20). `transients`: second and events recorded in it, keyed unit kind × 65,536 + index
(R486). `adj`: peer switch and port of a switch's trunk, keyed switch × 128 + port (R490). `inputs`: DOM_ALERT_N inputs
that count as asserted. `fenceWait`: FENCE_DOMAIN handles waiting for their map generation (R493). -/
structure RasSt where
  log : List ErrRec := []
  seq : Nat := 0
  transients : Tbl (Nat × Nat) := []
  ringHead : Nat := 0
  fences : List Nat := []
  fenceGen : Nat := 0
  seen : List Notice := []
  adj : Tbl (Nat × Nat) := []
  inputs : List Nat := []
  fenceWait : List (Nat × Nat × Nat × Nat) := []
  deriving DecidableEq, Repr, Inhabited

/-- GLOBAL_RESET_STATUS.STATE (21), coded 0 to 6. -/
inductive DevState where
  | test | firmware | setup | serving | quiesce | restart | stopped
  deriving DecidableEq, Repr, Inhabited

/-- GLOBAL_RESET_STATUS.LAST_RESET (21), coded 0 to 2. -/
inductive LastReset where
  | powerOn | cold | warm
  deriving DecidableEq, Repr, Inhabited

/-- An island reset in progress (R509): kind and index. -/
structure IslandJob where
  kind : Nat
  index : Nat
  deriving DecidableEq, Repr, Inhabited

/-- Resets, clocks and time (21). `wasActive`: ports that were ACTIVE when a warm reset began (R514). `deferred`: port,
tenant and island resets asked for during a warm reset (R511). `quiesceAt`, `quiesced`: when the warm reset's quiesce
began, and whether it has ended; `openAt`: when restart step 5 began; `tenantBusy`: the key of the tenant reset in progress; `refOk`: REFCLK of each quadrant present; `timeLocked`,
`offsetNs`: the lock and the last measured offset; `lastPps`, `lastPtp`: last edge and message; `pendingSecs`: seconds of GLOBAL_TIME_SET for the next
edge; `edgeSecs`: the second that the last edge marked; `ptpSecs`: seconds learnt from IEEE 1588; `slew`: offset still to be removed by slewing;
`slewAcc`: time not yet used for slewing; `lastPpsOut`: the last whole second signalled; `ppsOutUntil`: when PPS_OUT falls; `deferred`: kind (5 port
reset by PORT_RESET, 6 alert, 7 tenant reset, 8 island reset as kind × 256 + index) and operand. -/
structure SysSt where
  quiesceAt : Nat := 0
  quiesced : Bool := false
  st : DevState := .test
  lastReset : LastReset := .powerOn
  warmCount : Nat := 0
  startupFail : Nat := 0
  wasActive : List Nat := []
  warmHeld : Bool := false
  deferred : List (Nat × Nat) := []
  tenantBusy : Option Key := none
  islands : List IslandJob := []
  openAt : Option Nat := none
  refOk : BitVec 4 := 0
  mgmtRefOk : Bool := false
  xtalLost : Bool := false
  coreRef : Nat := 0
  timeLocked : Bool := false
  offsetNs : Int := 0
  lastPps : Option Nat := none
  lastPtp : Option Nat := none
  pendingSecs : Option Nat := none
  edgeSecs : Option Nat := none
  ptpSecs : Option Nat := none
  slew : Int := 0
  slewAcc : Nat := 0
  lastPpsOut : Option Nat := none
  porst : Bool := true
  ppsOutUntil : Nat := 0
  deriving DecidableEq, Repr, Inhabited

end Sys2Proof.Machine
end

