-- ==== Sys2Proof/Machine/StOut.lean ====
section
/-! DEFINITION. What the device sends out, as a trace (the model's own field, assumption log, entry 3). -/

namespace Sys2Proof.Machine

/-- The way to the memory of a ring pair's requester (R27): PCIe memory requests of the management endpoint, CXL.io requests of a CXL host port, or
MemRd and MemWr flits of a Bromet port; that of a descriptor from another switch or from a policy module's queue is asked for there (R165, R466). -/
inductive HostPath where
  | mgmt
  | cxlIo (port : Nat)
  | flits (port : Nat)
  | relay (switch : Nat)
  | queue (module : Nat)
  deriving DecidableEq, Repr, Inhabited

/-- One thing the device sends or drives. -/
inductive Emit where
  /-- a completion at the pins of `port` -/
  | cmp (port : Nat) (dst : Endpoint) (tag : Nat) (k : CmpKind) (status : Status) (data : Option Line) (poison echo : Bool)
  /-- results of an AtomComb -/
  | cmpComb (port : Nat) (tag : Nat) (results : List CombRes) (poison : Bool)
  /-- a snoop to an endpoint with its snoop tag; `bi` as a CXL back-invalidate snoop (R112) -/
  | snp (dst : Endpoint) (line : Nat) (k : SnpKind) (bi : Bool) (stag : Nat)
  | ringBcast (line : Nat) (k : SnpKind)
  | biConflictAck (dst : Endpoint) (line : Nat)
  /-- a read of host memory for a descriptor, an image or a buffer -/
  | hostRead (via : HostPath) (handle addr len : Nat)
  /-- a completion record at slot `slot` of the ring's completion ring (R43, R44) -/
  | record (via : HostPath) (ring slot : Nat) (bytes : BitVec 256) (split : Bool)
  | shadow (via : HostPath) (ring : Nat) (value : Word)
  /-- a NOTIFY message to the host of a Bromet port: ring, generation, records written modulo 2^17 (R45, R424) -/
  | notify (port ring gen written : Nat)
  | msix (vector : Nat)
  /-- an MSI-X message of a CXL host port (R443) -/
  | cxlMsix (port vector : Nat)
  | regData (requester off : Nat) (value : Word)
  | boardData (off : Nat) (value : Word)
  /-- a request sent toward its home on a bridle, with its flit type and subtype (R92, R349) -/
  | forward (port : Nat) (bridle : Word) (code : Nat × Nat) (req : Req)
  /-- a descriptor forwarded to a switch over TC4 (R165), and a record returned for one; switches from 0x7FFF on stand for the
  queues of policy modules (R466) -/
  | forwardDesc (switch : Nat) (handle : Nat) (desc : Line)
  /-- a tenant reset asks the home of a forwarded operation to abort it (R53, R165) -/
  | forwardAbort (switch : Nat) (handle : Nat)
  | returnRecord (switch : Nat) (handle : Nat) (status : Status) (r0 r1 : Word)
  | logRing (slot : Nat) (r : ErrRec)
  | pmEvent (key : Key) (kind : Nat) (value : Word)
  | gmEvent (port : Nat) (r : ErrRec)
  | fenceNotice (switch : Nat) (n : Notice)
  /-- a cell, packet or message to a port, by kind and fields -/
  | send (port : Nat) (what : String) (fields : List Nat)
  /-- a pin driven -/
  | pin (name : String) (level : Bool)
  deriving DecidableEq, Repr, Inhabited

end Sys2Proof.Machine
end

