-- ==== Sys2Proof/Machine/StObj.lean ====
section
/-! DEFINITION. State of shelves and drawers (07), of tiers and the Winch (08), of compression (09), of the memory
stacks (10), and of addressing, paths and tethers (14). -/

namespace Sys2Proof.Machine

/-- Slot states (R169). -/
inductive SlotState where
  | free | view | draft | publishing | closing
  deriving DecidableEq, Repr, Inhabited

/-- A shelf slot (R168, R169): opens per key, the draft's writer key, base and private pages (page index to backing
page), and the recall and object-state number its CLOSING waits for. -/
structure Slot where
  st : SlotState := .free
  version : Nat := 0
  opens : List (Key × Nat) := []
  writer : Key := 0
  base : Nat := 0
  privs : Tbl Nat := []
  tag : Nat := 0
  chk : Nat := 0
  discard : Option Nat := none
  disc : Bool := false
  deriving DecidableEq, Repr, Inhabited

/-- Stages of a publish (R175). -/
inductive PubStage where
  | recalling | recalled | merging | deciding
  deriving DecidableEq, Repr, Inhabited

/-- A publish in its shelf's queue (R173). `tag`: its recall; `newPages`: the page list it will install. -/
structure Publish where
  handle : Nat
  slot : Nat
  merge : Bool
  tag : Nat
  chk : Nat
  stage : PubStage := .recalling
  merged : Bool := false
  fenced : Bool := false
  newPages : Tbl Nat := []
  deriving DecidableEq, Repr, Inhabited

/-- A shelf (R166 to R175): page lists of retained versions, change sets of recent versions, slots, publish queue. -/
structure Shelf where
  extent : Nat
  base : Nat
  size : Nat
  slotCount : Nat
  head : Nat := 1
  versions : Tbl (Tbl Nat) := []
  changes : Tbl (List Nat) := []
  slots : Tbl Slot := []
  queue : List Publish := []
  deriving DecidableEq, Repr, Inhabited

/-- Drawer states (R182), coded 0 to 3. -/
inductive DrawerState where
  | free | owned | inTransit | releasing
  deriving DecidableEq, Repr, Inhabited

/-- A drawer table entry (07). A FREE entry keeps its reuse count. -/
structure Drawer where
  reuse : Nat := 0
  extent : Nat := 0
  base : Nat := 0
  len : Nat := 0
  owner : Key := 0
  st : DrawerState := .free
  epoch : Nat := 0
  offerer : Option Key := none
  target : Option Key := none
  deadline : Nat := 0
  lease : Option Nat := none
  offerH : Option Nat := none
  accepts : List Nat := []
  releaseH : Option Nat := none
  tag : Nat := 0
  chk : Nat := 0
  recalled : Bool := true
  deriving DecidableEq, Repr, Inhabited

/-- A page copy under R172: page number, shelf, slot, page index, the new backing page. -/
structure CowCopy where
  page : Nat
  shelf : Nat
  slot : Nat
  idx : Nat
  src : Option Nat
  dst : Nat
  deriving DecidableEq, Repr, Inhabited

/-- Shelves and drawers of this device (07). `objSeq` counts changes of object state (R167). -/
structure ObjSt where
  shelves : Tbl Shelf := []
  drawers : Tbl Drawer := []
  cows : List CowCopy := []
  objSeq : Nat := 0
  deriving DecidableEq, Repr, Inhabited

/-- Placement policies (08). -/
inductive Policy where
  | fixed | preferT0 | coldDemote
  deriving DecidableEq, Repr, Inhabited

/-- A placement record (R197). -/
structure PlaceRec where
  base : Nat
  len : Nat
  policy : Policy := .fixed
  age : Nat := 0
  backing : Option Tier := none
  stackMask : Nat := 0
  trayMask : Nat := 0
  deriving DecidableEq, Repr, Inhabited

/-- The work of one Winch unit (R199): at most one page of its operation. -/
inductive WWork where
  /-- move the backing page of `page` -/
  | move (page : Nat)
  /-- copy bytes between fabric addresses -/
  | copy (src dst len : Nat)
  /-- write a repeated 8 B value -/
  | pattern (dst len : Nat) (v : Word)
  /-- write bytes read from host memory at `addr` -/
  | host (dst len addr : Nat)
  /-- write back the dirty sectors of `page` that lie in the byte range -/
  | writeback (page lo hi : Nat)
  /-- load raw bytes `off` to `off + len` of window layer `layer` into its slot -/
  | layer (win layer off len : Nat)
  /-- create the backing copy of `page` -/
  | backup (page : Nat)
  /-- read part of a compression source: pass 1, or pass 2 from block `blk` on -/
  | count (src len : Nat)
  | encode (src len blk : Nat)
  /-- write the header and directory of the object that pass 2 made -/
  | directory
  /-- decode raw bytes `off` to `off + len` of an object to `dst` -/
  | expand (obj off len dst : Nat)
  /-- re-encode an object whole (R236) -/
  | recode (obj : Nat)
  /-- convert a page to bank-local layout, or back -/
  | bank (page stack bank : Nat)
  | unbank (page : Nat)
  deriving DecidableEq, Repr, Inhabited

/-- What a Winch operation is (R199 levels follow from it). -/
inductive WKind where
  | place (move : Bool) (target : Tier) (stackMask trayMask : Nat)
  | migrate (target : Tier) (stackMask trayMask : Nat) (keep : Bool)
  | evacuate (stack order : Nat) (banks : List Nat) (ras : Bool)
  | copy | fill | lazy (page0 pages : Nat)
  | flush
  | window (win : Nat)
  | advance (win : Nat)
  | build (mode slot : Nat) | expand (obj : Nat) | recode (slot : Nat)
  | bauPlace (id : Nat) | bauUnplace (id : Nat)
  | promote | coldDemote | quotaDemote (key : Key) | writeback | backup
  deriving DecidableEq, Repr, Inhabited

/-- A unit issued and not yet done: its work, its generation stamp (R71), the recall its reads and writes wait for, which also
names its flights, the refusal it met when it was checked, and the extents that its writes were checked under; `sent`: its writes to another switch
are sent and wait for their completions, and `count` is the bytes they count for. -/
structure WIssued where
  work : WWork
  gen : Nat
  tag : Nat
  bad : Option Status := none
  exts : List Extent := []
  sent : Bool := false
  count : Nat := 0
  deriving DecidableEq, Repr, Inhabited

/-- A Winch operation (R199). -/
structure WOp where
  kind : WKind
  handle : Option Nat := none
  key : Key := 0xFFFF
  level : Nat := 4
  engine : Option Nat := none
  engMask : Nat := 0
  todo : List WWork := []
  issued : List WIssued := []
  bytes : Nat := 0
  count : Nat := 0
  skipped : Nat := 0
  refused : Option Status := none
  poisoned : Bool := false
  mismatch : Option (Nat × Nat) := none
  sizeBad : Bool := false
  r0 : Word := 0
  tag : Nat := 0
  journalled : Nat := 0
  journalAt : Nat := 0
  deriving DecidableEq, Repr, Inhabited

/-- Stages of a chunk move (R200): COPYING, copied, SWITCHED. -/
inductive ChunkStage where
  | copying | copied | switched
  deriving DecidableEq, Repr, Inhabited

/-- A page under move: page number (2^40 + its backing page for one that no offset shows), backing page, old and new
location. -/
structure MPage where
  page : Nat
  id : Nat
  old : Loc
  new : Loc
  deriving DecidableEq, Repr, Inhabited

/-- A chunk under move (R200); `left`: its pages whose copies are still to be issued; `carried`: source and tag of the requests that carry an
old location. -/
structure Chunk where
  op : Nat
  range : Nat
  pages : List MPage
  stage : ChunkStage := .copying
  left : List Nat := []
  carried : List (Nat × Nat) := []
  deriving DecidableEq, Repr, Inhabited

/-- A layer of a streaming window (R205, R208); `failed`: the operation that met a lasting mismatch in it (R237). -/
structure Layer where
  src : Nat
  stored : Nat
  raw : Nat
  cxw : Bool
  failed : Option Nat := none
  deriving DecidableEq, Repr, Inhabited

/-- A streaming window (R205). `refs`: the generation that each CX-W layer holds, by layer (slot, generation). -/
structure Window where
  base : Nat
  slotPages : Nat
  slots : Nat
  engMask : Nat
  key : Key
  layers : List Layer := []
  live : Nat := 0
  closing : Option Nat := none
  refs : Tbl (Nat × Nat) := []
  deriving DecidableEq, Repr, Inhabited

/-- Tiers and the Winch (08). T0 and T2 locations in use are listed, so that both layouts of T0 draw on the same free sectors (R243); T1 room
is kept per tray (units, units used, next unit). -/
structure TierSt where
  t0used : List Loc := []
  t0rot : Nat := 0
  grpRot : Tbl Nat := []
  t1cap : Tbl Nat := []
  t1used : Tbl Nat := []
  t1next : Tbl Nat := []
  t1rot : Nat := 0
  t2used : List Loc := []
  places : List PlaceRec := []
  ops : Tbl WOp := []
  nextOp : Nat := 1
  chunks : List Chunk := []
  windows : Tbl Window := []
  awaiting : Tbl (Nat × Bool) := []
  deadEngines : List Nat := []
  sparedEngines : List Nat := []
  rot : Tbl Nat := []
  share : Tbl Nat := []
  engRedo : List Nat := []
  deadCompr : List Nat := []
  comprRedo : List Nat := []
  deriving DecidableEq, Repr, Inhabited

/-- A generation of a table slot (R227 to R230): code lengths per symbol. -/
structure CGen where
  num : Nat
  cxa : Bool
  width : Nat
  lengths : List Nat
  refs : Nat := 0
  deriving DecidableEq, Repr, Inhabited

/-- A table slot (R226, R227). `live` is the handle of the LOAD, BUILD or RETIRE live on it (R238). -/
structure CSlot where
  owner : Key := 0
  cur : Nat := 0
  gens : List CGen := []
  retiring : Bool := false
  live : Option Nat := none
  deriving DecidableEq, Repr, Inhabited

/-- A registered object (R233). `gone`: released while an EXPAND of it still runs. -/
structure CObj where
  owner : Key
  dst : Nat
  cap : Nat
  raw : Nat
  stored : Nat
  slot : Nat
  gen : Nat
  failed : List Nat := []
  gone : Bool := false
  deriving DecidableEq, Repr, Inhabited

/-- A CTABLE_BUILD or CTABLE_RETIRE in progress: symbol counts of pass 1, the new generation, encoded blocks. -/
structure CBuild where
  handle : Nat
  op : Nat
  mode : Nat
  slot : Nat
  gen : Nat := 0
  src : Nat := 0
  len : Nat := 0
  dst : Nat := 0
  cap : Nat := 0
  counts : List Nat := []
  lengths : List Nat := []
  headers : List Nat := []
  stored : Nat := 0
  objs : List Nat := []
  recoded : Nat := 0
  recodeSlot : Nat := 0
  recodeGen : Nat := 0
  gens : List Nat := []
  deriving DecidableEq, Repr, Inhabited

/-- Compression (09). -/
structure CmpSt where
  slots : Tbl CSlot := []
  objs : Tbl CObj := []
  builds : List CBuild := []
  deriving DecidableEq, Repr, Inhabited

/-- Stack states (10), coded 0 to 2. -/
inductive StackMode where
  | online | evacuating | offline
  deriving DecidableEq, Repr, Inhabited

/-- A spare bank unit (R255). -/
structure SpareUnit where
  bank : Nat := 0
  used : Bool := false
  failed : Bool := false
  deriving DecidableEq, Repr, Inhabited

/-- A BAU bank replacement in progress (R255): bank and spare unit, and the pages that it takes over for an evacuation (R215). -/
structure BankJob where
  bank : Nat
  unit : Nat
  pages : Nat := 0
  deriving DecidableEq, Repr, Inhabited

/-- A memory stack (10). Row spares used are kept per DRAM bank (bank × 64 + DRAM bank), rows being copied into spares as DRAM
bank and row, corrected codewords as times per BAU bank and per row, refreshes postponed per bank. -/
structure StackRec where
  mode : StackMode := .online
  temp : Nat := 0
  ext : Bool := false
  hot : Bool := false
  spares : Tbl SpareUnit := []
  closed : List Nat := []
  mirrorLost : Bool := false
  rowUsed : Tbl Nat := []
  rowJobs : List (Nat × Nat) := []
  corrected : Tbl (List Nat) := []
  rowCorrected : Tbl (List Nat) := []
  refDue : Tbl Nat := []
  jobs : List BankJob := []
  lineSpares : Tbl Nat := []
  sampledAt : Nat := 0
  deriving DecidableEq, Repr, Inhabited

/-- The stacks (10). -/
structure StkSt where
  stackRecs : Tbl StackRec := []
  deriving DecidableEq, Repr, Inhabited

/-- A path table entry (R349): 8 bridles and their valid mask. -/
structure PathEntry where
  mask : BitVec 8 := 0
  bridles : List Word := []
  deriving DecidableEq, Repr, Inhabited

/-- An endpoint directory entry (R340). -/
structure EpEntry where
  switch : Nat
  deriving DecidableEq, Repr, Inhabited

/-- A path marker outstanding on an old bridle (R353): bridle, class, whose switch-over it serves: 0 for PATH_UPDATE, 1 + ID for a tether; and the
injecting island that sent it: a port island, 128 + a home partition, 144 for the device's agents, 145 for the Trestle units. -/
structure Marker where
  bridle : Word
  tc : Nat
  own : Nat
  isl : Nat
  deriving DecidableEq, Repr, Inhabited

/-- Tether states (14). -/
inductive TetherState where
  | opening | active | closing | broken
  deriving DecidableEq, Repr, Inhabited

/-- A tether entry of this device (R355 to R360); at the source switch the master record with its plan. `inPort` and `outPort` are 255
where the entry reserves none; `accepted`: switches that answered; `moving`: its switch-over is under way (R359). -/
structure Tether where
  id : Nat
  st : TetherState := .opening
  tc : Nat
  units : Nat
  home : Bool
  owner : Key
  src : Endpoint
  dst : Endpoint
  dsw : Nat
  bridle : Word
  inPort : Nat
  outPort : Nat
  master : Bool := false
  route : List (Nat × Nat × Nat) := []
  accepted : List Nat := []
  handle : Option Nat := none
  moving : Bool := false
  deriving DecidableEq, Repr, Inhabited

/-- Addressing, paths and tethers (14). `moved`, `heldOut`: requests and other packets held until a marker acknowledgement
(R353); `oldPaths`: the table before the live PATH_UPDATE. -/
structure RouteSt where
  eps : Tbl EpEntry := []
  paths : Tbl PathEntry := []
  gen : Nat := 1
  markers : List Marker := []
  pathOp : Option Nat := none
  pathLoad : Option Nat := none
  oldPaths : Tbl PathEntry := []
  pathApplied : Nat := 0
  moved : List (Marker × Req) := []
  heldOut : List (Marker × Emit) := []
  tethers : List Tether := []
  rxUnits : Tbl Nat := []
  txUnits : Tbl Nat := []
  deriving DecidableEq, Repr, Inhabited

end Sys2Proof.Machine
end

