-- ==== Sys2Proof/Machine/StSettle.lean ====
section
/-! DEFINITION. State of the Settle complex, its firmware and policy modules (19), and of power, sensors and pins (22). -/

namespace Sys2Proof.Machine

/-- SETTLE_STATUS.BOOT_STATE (19), coded 0 to 4. -/
inductive BootState where
  | romWait | loading | checking | running | failed
  deriving DecidableEq, Repr, Inhabited

/-- An accepted Nimpa image: its version and security version (R461). -/
structure FwImage where
  version : Nat
  svn : Nat
  deriving DecidableEq, Repr, Inhabited

/-- A policy module (R465 to R468). `slot`: which of the 64 modules; `mem`: memory in 16 MiB units; `fault`: 0 none, 1 a guest-stage access outside
its memory or an illegal instruction, 2 quanta without yielding; `seq`: next sequence of its queue; `events`: events it has not taken; `ages`: it asked for
page-age summaries (R467). -/
structure PModule where
  key : Key
  slot : Nat
  mem : Nat
  running : Bool := true
  fault : Nat := 0
  noYield : Nat := 0
  seq : Nat := 0
  events : Nat := 0
  dropped : Nat := 0
  ages : Bool := false
  unloading : Bool := false
  deriving DecidableEq, Repr, Inhabited

/-- The Settle complex (19). `svn`: the fused SVN after SVN_COMMIT; `keys`: policy key hashes by slot, as numbers of 48 bytes, least significant
first; `cores`: role (0 active, 1 spare, 2 failed) and logical number of each physical core; `redo`: cores that redo a step; `onCore`: the
module that a policy-duty core runs; `mbox`: the mailbox command in progress; `lastReport`: the last report of the RAS-duty cores. -/
structure SettleSt where
  boot : BootState := .romWait
  image : Option FwImage := none
  staged : Option FwImage := none
  activate : Bool := false
  svn : Option Nat := none
  keys : Tbl Nat := []
  cores : Tbl (Nat × Nat) := []
  redo : List Nat := []
  modules : List PModule := []
  onCore : Tbl Nat := []
  mbox : Option Nat := none
  lastReport : Nat := 0
  deriving DecidableEq, Repr, Inhabited

/-- Power, sensors and pins (22). `out`: rails out of tolerance; `hot`: switch die sensors at or above their threshold, with
their temperatures; `tripped`: THERMTRIP_N is low; `mv`: AVS targets changed from nominal, by rail; `stepped`: when each was last changed; `lastAvs`: the last reading of the regulators;
`energy`: energy in nJ not yet in AVS_ENERGY_MJ; `perst`: PERST_N is low. -/
structure PwrSt where
  rails : BitVec 9 := 0
  hot : Tbl Nat := []
  tripped : Bool := false
  mv : Tbl Nat := []
  stepped : Tbl Nat := []
  lastAvs : Option Nat := none
  energy : Nat := 0
  perst : Bool := false
  porHigh : Bool := false
  deriving DecidableEq, Repr, Inhabited

end Sys2Proof.Machine
end

