-- ==== Sys2Proof/Machine/StTrain.lean ====
section
/-! DEFINITION. State of multicast trains and collectives (13). -/

namespace Sys2Proof.Machine

/-- A train entry held here, with what fences have pruned (R316, R333). -/
structure TrainRec where
  ent : TrainEnt
  prunedM : List Nat := []
  prunedP : List Nat := []
  deriving DecidableEq, Repr, Inhabited

/-- The master record of a train at its root (R316, R331): switches, members with their edge switches, and MCAST counts per member. -/
structure TrainMaster where
  gen : Nat
  switches : List Nat
  members : List (Nat × Endpoint × Nat)
  counts : Tbl Nat := []
  deriving DecidableEq, Repr, Inhabited

/-- A TRAIN_CREATE or TRAIN_EDIT in progress at the root (R320, R321): 0 create, 1 REPLACE, 2 DELETE; the entries by switch; the
switches whose answer or adoption is awaited. -/
structure TrainOp where
  handle : Nat
  mode : Nat
  id : Nat
  gen : Nat
  owner : Key
  entries : List (Nat × TrainEnt) := []
  members : List (Nat × Endpoint × Nat) := []
  asking : List Nat := []
  adopting : List Nat := []
  installed : Bool := false
  refused : Option (Status × Nat) := none
  deriving DecidableEq, Repr, Inhabited

/-- A member's descriptor in an instance (R323 to R325). `seg`: the next segment of its send buffer; `tag`: the recall for reading it;
`wtag`: the recall for writing its receive buffer; `bytes`, `got`: bytes and segments written there; `away`: writes of the next segment are awaited
from the home at another switch. -/
structure Post where
  member : Nat
  handle : Nat
  port : Nat
  key : Key
  sendHost : Bool
  recvHost : Bool
  send : Nat
  recv : Nat
  seg : Nat := 0
  tag : Option Nat := none
  wtag : Option Nat := none
  bytes : Nat := 0
  got : Nat := 0
  away : Bool := false
  poisoned : Bool := false
  ended : Bool := false
  deriving DecidableEq, Repr, Inhabited

/-- A contribution held at a switch (R325): segment, whether it comes from a child, member or port, data and members included. -/
structure Contrib where
  seg : Nat
  child : Bool
  idx : Nat
  data : List (Nat × List (Line × Bool))
  count : Nat
  deriving DecidableEq, Repr, Inhabited

/-- The landing of a member here in an MCAST (R330). `got`: segments landed, the flag included; `tag`: the recall for what is written next;
`lines`: the lines of the next segment are visible and the flag remains; `away`: writes are awaited from the home at another switch. -/
structure Landing where
  idx : Nat
  got : Nat := 0
  tag : Option Nat := none
  lines : Bool := false
  away : Bool := false
  deriving DecidableEq, Repr, Inhabited

/-- A collective instance on this switch (R324), under the entry it was opened with. `combined`: segments combined; `results`: those that
came down and are not yet written; `down`: segments written; `count`: members included; `rel`: how it was released (R334): index code and
first uncertain segment; `landings`: those of local members in an MCAST; `acked`, `failed`: members whose flags are acknowledged, and refused. -/
structure Inst where
  rcd : TrainRec
  seq : Nat
  poster : Option Nat := none
  par : CollParams
  posts : List Post := []
  contribs : List Contrib := []
  combined : Nat := 0
  results : Tbl (List (Nat × List (Line × Bool))) := []
  down : Nat := 0
  sent : Nat := 0
  count : Nat := 0
  mcount : Nat := 0
  acked : List Nat := []
  landings : List Landing := []
  failed : List (Nat × Status) := []
  rel : Option (Nat × Nat) := none
  deriving DecidableEq, Repr, Inhabited

/-- Trains and collectives (13). `offered`: entries accepted and not yet adopted; `nextMcast`: the number of the next MCAST posted here; `claims`: the
TRAIN_EDIT that is live on a train while its image is read; `owing`: generations adopted here whose report waits for the release of older instances
(R321); `dead`: train, generation and sequence of the instances that R327 ended. -/
structure TrainSt where
  trains : Tbl TrainRec := []
  offered : List TrainEnt := []
  masters : Tbl TrainMaster := []
  ops : List TrainOp := []
  insts : List Inst := []
  nextMcast : Nat := 1
  claims : Tbl Nat := []
  owing : List (Nat × Nat) := []
  dead : List (Nat × Nat × Nat) := []
  deriving DecidableEq, Repr, Inhabited

end Sys2Proof.Machine
end

