-- ==== Sys2Proof/Machine/StTrestle.lean ====
section
/-! DEFINITION. State of the Trestle units (12): kernel slots, launches, resident gangs with their registers and store buffers. -/

namespace Sys2Proof.Machine

/-- A kernel slot (R309): owner, instruction words, scratch per gang in lines. Slots 0 to 15 are Ulidel's (assumption log, entry 60). -/
structure KSlot where
  owner : Key
  prog : List Word := []
  scratch : Nat := 0
  deriving DecidableEq, Repr, Inhabited

/-- Registers of a gang (R293, R298). `s`: scalar registers with poison, keyed lane × 16 + register; `v`: vector registers with a
poison bit per 64-bit part; `p`, `pp`: condition bits and their poison; `stack`: the mask stack, top first; `part`: the first thread whose
store of the current instruction has not been made yet (R303). -/
structure TRegs where
  s : Tbl (Word × Bool) := []
  v : Tbl (Line × BitVec 8) := []
  p : BitVec 32 := 0
  pp : BitVec 32 := 0
  active : BitVec 32 := BitVec.allOnes 32
  stack : List (BitVec 32) := []
  pc : Nat := 0
  part : Nat := 0
  deriving DecidableEq, Repr, Inhabited

/-- A line of a gang's store buffer (R303): scratch or pool, line number (of the fabric address), bytes, poison, and the
instruction that stored to it last. -/
structure TStore where
  scratch : Bool
  line : Nat
  mask : BitVec 64 := 0
  data : Line := 0
  poison : Bool := false
  idx : Nat := 0
  deriving DecidableEq, Repr, Inhabited

/-- What an operation does with its data: a load of `size` bytes, a vector load, an atomic, a division. -/
inductive TOpKind where
  | ld (size : Nat) (sext : Bool)
  | vld
  | atom (size : Nat) (noret : Bool)
  | div
  deriving DecidableEq, Repr, Inhabited

/-- The part of a thread in an operation: the line or tag that brings its data, the byte offset, what the gang's store buffer held of
the line; for a division its value. -/
structure TItem where
  thread : Nat
  key : Nat := 0
  off : Nat := 0
  bmask : BitVec 64 := 0
  bdata : Line := 0
  bpoison : Bool := false
  value : Word := 0
  poison : Bool := false
  deriving DecidableEq, Repr, Inhabited

/-- An instruction whose result has not arrived (R299). `got`: data arrived, by line or tag; `live`, `ckLive`: the threads whose
register it still writes, now and in the checkpoint; `chunk`: the chunk that issued it. -/
structure TOp where
  id : Nat
  kind : TOpKind
  d : Nat
  items : List TItem
  got : List (Nat × Line × Bool) := []
  live : BitVec 32
  ckLive : BitVec 32 := 0
  chunk : Nat
  ord : Bool := false
  idx : Nat
  deriving DecidableEq, Repr, Inhabited

/-- What a pool request of a gang is: a read that may be cached or not, a write, an atomic with its ASEQ. -/
inductive TReqKind where
  | rd (cached : Bool)
  | wr
  | atom (aseq : BitVec 16)
  deriving DecidableEq, Repr, Inhabited

/-- A pool request outstanding: the logical unit whose endpoint sent it, tag, home switch, line, the operation that waits for it,
whether its chunk was discarded, and the instruction it comes from. -/
structure TReq where
  src : Nat
  tag : Nat
  home : Nat
  line : Nat
  kind : TReqKind
  op : Option Nat := none
  dead : Bool := false
  idx : Nat := 0
  deriving DecidableEq, Repr, Inhabited

/-- An atomic recorded against a chunk (R304). -/
structure TAtom where
  src : Nat
  home : Nat
  tag : Nat
  aseq : BitVec 16
  deriving DecidableEq, Repr, Inhabited

/-- Where a gang of a standard kernel stands (R313): its item, the step within it, the lines still to request, and those read. -/
structure StdGang where
  item : Nat
  step : Nat := 0
  todo : List Nat := []
  got : List (Nat × Line × Bool) := []
  writes : List TStore := []
  atoms : List (Nat × AtomF × Bool) := []
  deriving DecidableEq, Repr, Inhabited

/-- A resident gang (R294, R303 to R305). `ck`: its checkpoint; `issued`, `since`: instructions and time since the last boundary;
`atoms`: those of the chunk, of which a re-run has repeated `atomNext`; `late`: committed atomics whose results are still out;
`rerun`: the chunk runs a second time; `flags`: events of the chunk; `ended`: it issues no more and waits for its writes;
`seed`: the first of the free values that its scratch area reads as before it is written. -/
structure Gang where
  launch : Nat
  index : Nat
  r : TRegs := {}
  ck : TRegs := {}
  buf : List TStore := []
  scratch : Tbl (Line × Bool) := []
  seed : Nat := 0
  ops : List TOp := []
  nextOp : Nat := 0
  reqs : List TReq := []
  atoms : List TAtom := []
  atomNext : Nat := 0
  late : List TAtom := []
  fence : Bool := false
  issued : Nat := 0
  since : Nat := 0
  chunk : Nat := 0
  rerun : Bool := false
  flags : Nat := 0
  ended : Bool := false
  std : Option StdGang := none
  deriving DecidableEq, Repr, Inhabited

/-- A logical unit: its gangs, its cached lines (newest first: line, key it was read with, data, poison), and per home switch the next ASEQ with
those not retired (R301, R304). -/
structure TUnitSt where
  gangs : Tbl Gang := []
  cache : List (Nat × Key × Line × Bool) := []
  asq : Tbl (Nat × List (BitVec 16)) := []
  rot : Nat := 0
  deriving DecidableEq, Repr, Inhabited

/-- A live launch (R311, R312). `stop`: how a fault stops it; `count`, `carry`, `itemsDone`: elements kept by TR_FILTER,
the last of them where it fills half a byte, and blocks done. -/
structure TLaunch where
  slot : Nat
  key : Key
  gangs : Nat
  next : Nat := 0
  ended : Nat := 0
  units : List Nat
  args : List Word
  flags : Nat := 0
  stop : Option (Status × Word) := none
  count : Nat := 0
  carry : Nat := 0
  itemsDone : Nat := 0
  deriving DecidableEq, Repr, Inhabited

/-- The Trestle units (12). `phys`: role (0 active, 1 spare, 2 failed) and logical number of each physical unit. `launches` are kept by
handle; `loads`: the KERNEL_LOAD that is live on a slot while its image is read (R310). -/
structure TrsSt where
  phys : Tbl (Nat × Nat) := []
  units : Tbl TUnitSt := []
  slots : Tbl KSlot := []
  launches : Tbl TLaunch := []
  loads : Tbl Nat := []
  deriving DecidableEq, Repr, Inhabited

end Sys2Proof.Machine
end

