-- ==== Sys2Proof/Machine/State.lean ====
section
/-! DEFINITION. The state of the HD9612 as plain data, its faults and refusals, and the state after a power-on reset. -/

namespace Sys2Proof.Machine

/-- Reasons a command stops the model. -/
inductive Fault where
  /-- Raised by REGISTER_WRITE, LOW_WORD_READ and SETUP_OPEN_CLOSE for an offset beyond BAR0's 64 MiB, which is no address
  of the map (R542, R547). Safe: the spec gives no such access. -/
  | outsideBar0
  deriving DecidableEq, Repr

/-- Reasons a command has no meaning. -/
inductive Refusal where
  /-- Raised by exec's arms of commands that have no meaning yet. Safe: nothing is claimed of them. -/
  | notModelled (mnemonic : String)
  deriving DecidableEq, Repr

/-- The state of the device. `now` is device time in ns (R502); `draws` counts the free values drawn; `regs` holds the
registers that differ from their reset values, by BAR0 offset; `out` is what was sent; `pending` the waiting commands. -/
structure State where
  now : Nat := 0
  draws : Nat := 0
  regs : Tbl Word := []
  out : List Emit := []
  pending : List Instr := []
  rings : RingsSt := {}
  pool : PoolSt := {}
  mgmt : MgmtSt := {}
  coh : CohSt := {}
  ord : OrdSt := {}
  atm : AtmSt := {}
  obj : ObjSt := {}
  tier : TierSt := {}
  cmp : CmpSt := {}
  stk : StkSt := {}
  bau : BauSt := {}
  trs : TrsSt := {}
  train : TrainSt := {}
  route : RouteSt := {}
  core : CoreSt := {}
  cong : CongSt := {}
  link : LinkSt := {}
  ras : RasSt := {}
  sys : SysSt := {}
  settle : SettleSt := {}
  pwr : PwrSt := {}
  deriving DecidableEq, Repr

/-- The device right after power-on: PORST_N asserted until now, STATE TEST (R516, R519); every register at its reset
value; no tenant, extent, ring, link or object; map and path generations 1 (R68, PATH_UPDATE). -/
def State.reset : State := {}

end Sys2Proof.Machine
end

