-- ==== Sys2Proof/Machine/Ops.lean ====
section
/-! DEFINITION. The named operations on tables, registers, handles, rings and the error log that every meaning uses. -/

namespace Sys2Proof.Machine

/-- What a meaning answers. -/
abbrev Out3 := Host.Outcome State Fault Refusal

/-! ## Tables -/

/-- The entry of key `k`. -/
def tblFind {α : Type} : Tbl α → Nat → Option α
  | [], _ => none
  | (j, v) :: r, k => if j = k then some v else tblFind r k

/-- The entry of key `k`, or `d`. -/
def tblGet {α : Type} (t : Tbl α) (k : Nat) (d : α) : α := (tblFind t k).getD d

/-- Set the entry of key `k`, keeping the keys rising. -/
def tblPut {α : Type} : Tbl α → Nat → α → Tbl α
  | [], k, v => [(k, v)]
  | (j, w) :: r, k, v => if k < j then (k, v) :: (j, w) :: r else if j = k then (k, v) :: r else (j, w) :: tblPut r k v

/-- Remove the entry of key `k`. -/
def tblErase {α : Type} (t : Tbl α) (k : Nat) : Tbl α := t.filter (fun e => e.1 != k)

/-- Change the entry of key `k`, taking `d` where there is none. -/
def tblMod {α : Type} (t : Tbl α) (k : Nat) (d : α) (f : α → α) : Tbl α := tblPut t k (f (tblGet t k d))

/-- Change the entry of key `k` where there is one. -/
def tblUpd {α : Type} (t : Tbl α) (k : Nat) (f : α → α) : Tbl α :=
  match tblFind t k with
  | some v => tblPut t k (f v)
  | none => t

/-- Whether the table has an entry of key `k`. -/
def tblHas {α : Type} (t : Tbl α) (k : Nat) : Bool := (tblFind t k).isSome

/-- The keys of a table rise strictly. -/
def tblSorted {α : Type} : Tbl α → Bool
  | [] => true
  | [_] => true
  | (j, _) :: (k, w) :: r => decide (j < k) && tblSorted ((k, w) :: r)

/-! ## Bits and bytes -/

/-- Bits [lo + len - 1 : lo] of a number. -/
def bitsOf (x lo len : Nat) : Nat := (x >>> lo) % 2 ^ len

/-- `x` with bits [lo + len - 1 : lo] set to `v`. -/
def withBits (x lo len v : Nat) : Nat :=
  (x >>> (lo + len)) <<< (lo + len) ||| (v % 2 ^ len) <<< lo ||| x % 2 ^ lo

/-- Byte `k` of a line (R6). -/
def lineByte (d : Line) (k : Nat) : Byte := d.extractLsb' (8 * k) 8

/-- `n` bytes of a line from byte `k` on, as a number (R6). -/
def lineNat (d : Line) (k n : Nat) : Nat := bitsOf d.toNat (8 * k) (8 * n)

/-- The number that `n` bytes spell, least significant first (R6). -/
def bytesNat : List Byte → Nat
  | [] => 0
  | b :: r => b.toNat + 256 * bytesNat r

/-- `n` bytes of an image from byte `k` on, as a number. -/
def imgNat (b : List Byte) (k n : Nat) : Nat := bytesNat ((b.drop k).take n)

/-- The `n` bytes of a number, least significant first. -/
def natBytes : Nat → Nat → List Byte
  | 0, _ => []
  | n + 1, x => BitVec.ofNat 8 x :: natBytes n (x / 256)

/-- The line that 64 bytes spell. -/
def bytesLine (b : List Byte) : Line := BitVec.ofNat 512 (bytesNat (b.take 64))

/-- The 64 bytes of a line. -/
def lineBytes (d : Line) : List Byte := natBytes 64 d.toNat

/-- `old` with the bytes that `mask` selects taken from `new` (WrPtl, R92). -/
def mergeBytes (old new : Line) (mask : BitVec 64) : Line :=
  bytesLine ((List.range 64).map (fun k => if mask.getLsbD k then lineByte new k else lineByte old k))

def crcBits : Nat → Nat → Nat
  | 0, c => c
  | n + 1, c => crcBits n (if c % 2 = 1 then (c / 2) ^^^ 0x82F63B78 else c / 2)

def crcBytes : List Byte → Nat → Nat
  | [], c => c
  | b :: r, c => crcBytes r (crcBits 8 (c ^^^ b.toNat))

/-- CRC-32C, of images and of the flow hash (R80, R349). -/
def crc32c (b : List Byte) : Nat := crcBytes b 0xFFFFFFFF ^^^ 0xFFFFFFFF

/-! ## Registers and counters -/

/-- The stored value of a register. -/
def regGet (s : State) (a : Nat) : Word := (tblFind s.regs a).getD (regReset a)

/-- Set a register, keeping only values that differ from reset. -/
def regSet (s : State) (a : Nat) (v : Word) : State :=
  { s with regs := if v = regReset a then tblErase s.regs a else tblPut s.regs a v }

/-- A field of a register. -/
def fld (s : State) (a lo len : Nat) : Nat := bitsOf (regGet s a).toNat lo len

/-- A one-bit field. -/
def flag (s : State) (a bit : Nat) : Bool := fld s a bit 1 == 1

/-- Set a field of a register. -/
def setFld (s : State) (a lo len v : Nat) : State :=
  regSet s a (BitVec.ofNat 64 (withBits (regGet s a).toNat lo len v))

/-- Set a sticky bit. -/
def setBit (s : State) (a bit : Nat) : State := setFld s a bit 1 1

/-- Add to a counter, modulo 2^64 (R557). -/
def bumpBy (s : State) (a n : Nat) : State := regSet s a (regGet s a + BitVec.ofNat 64 n)

/-- Count one event (R557). -/
def bump (s : State) (a : Nat) : State := bumpBy s a 1

def homeCnt (p k : Nat) : Nat := sliceBase p + 0x8100 + 8 * k
def farCnt (p k : Nat) : Nat := sliceBase p + 0x8300 + 8 * k
def coreCnt (k c : Nat) : Nat := sliceBase k + 0x100 + 8 * c
def objCnt (k : Nat) : Nat := 0x7F80 + 8 * k
def winchCnt (k : Nat) : Nat := 0x30400 + 8 * k
def cmpCnt (k : Nat) : Nat := 0x31200 + 8 * k
def trainCnt (k : Nat) : Nat := 0x32100 + 8 * k
def routeCnt (k : Nat) : Nat := 0x33100 + 8 * k
def congCnt (k : Nat) : Nat := 0x34400 + 8 * k
def resetCnt (k : Nat) : Nat := 0x40200 + 8 * k
def stackCnt (st k : Nat) : Nat := stackBase st + 0x100 + 8 * k
def bauCnt (st k : Nat) : Nat := stackBase st + 0x500 + 8 * k
def trestleCnt (k : Nat) : Nat := trestleBase + 0xC00 + 8 * k
def settleCnt (k : Nat) : Nat := settleBase + 0x800 + 8 * k
def rasCnt (k : Nat) : Nat := rasBase + 0x800 + 8 * k
def pwrCnt (k : Nat) : Nat := mgmtBase + 0x180 + 8 * k
def ethCnt (k : Nat) : Nat := mgmtBase + 0x280 + 8 * k
def boardCnt (k : Nat) : Nat := mgmtBase + 0x300 + 8 * k
def portTelCnt (p k : Nat) : Nat := portBase p + 0xA80 + 8 * k
def portRouteCnt (p k : Nat) : Nat := portBase p + 0x480 + 8 * k
def portCoreCnt (p k : Nat) : Nat := portBase p + 0x580 + 8 * k
def portCongCnt (p k : Nat) : Nat := portBase p + 0x700 + 8 * k
def linkCnt (p k : Nat) : Nat := portBase p + 0x800 + 8 * k
def cxlCnt (p k : Nat) : Nat := portBase p + 0xF00 + 8 * k

/-! ## Outputs and free values -/

/-- Add to the trace of what was sent. -/
def emit (s : State) (e : Emit) : State := { s with out := s.out ++ [e] }

/-- Draw a free value (assumption log, entry 2). -/
def draw (s : State) : Word × State := (Config.freeValue s.draws, { s with draws := s.draws + 1 })

/-- Raise an MSI-X vector, or make it pending while it is masked (R546). -/
def msix (s : State) (v : Nat) : State :=
  if flag s (msixBase + 16 * v + 8) 32 then setBit s (msixBase + 0x8000 + 8 * (v / 64)) (v % 64)
  else emit s (.msix v)

/-! ## Port roles (R15, R16) -/

/-- Roles of a port; `off` while set-up is open or the configuration is rejected. -/
inductive Role where
  | host | tray | trunk | off
  deriving DecidableEq, Repr

def setupOpen (s : State) (p : Nat) : Bool := flag s (portBase p) 8

/-- Role and protocol as written to PORT_CFG. -/
def cfgRole (s : State) (p : Nat) : Nat := fld s (portBase p) 0 2
def cfgProto (s : State) (p : Nat) : Nat := fld s (portBase p) 2 1

/-- Whether port `p` is the odd member of an x8 bond in force (R16). DESIGN CHOICE (assumption log, entry 97): a bond comes into force once set-up
is closed at both of its ports, since the spec is silent on the odd port's own SETUP_OPEN. -/
def bondOdd (s : State) (p : Nat) : Bool :=
  p % 2 == 1 && flag s (portBase (p - 1)) 5 && !setupOpen s (p - 1) && !setupOpen s p

/-- Whether port `p` carries an x8 bond. -/
def bonded (s : State) (p : Nat) : Bool := p % 2 == 0 && flag s (portBase p) 5

/-- Whether R15 and R16 accept the port's role, protocol, width and bond; a bond waits for the set-up of its odd port to be closed (entry 97). -/
def cfgLegal (s : State) (p : Nat) : Bool :=
  (cfgRole s p != 1 || cfgProto s p == 1) && (cfgRole s p != 2 || cfgProto s p == 0) &&
  (fld s (portBase p) 3 2 != 3 || bonded s p) &&
  (!bonded s p || (!setupOpen s (p + 1) && cfgRole s p == cfgRole s (p + 1) && cfgProto s p == cfgProto s (p + 1)))

/-- The role in force. -/
def portRole (s : State) (p : Nat) : Role :=
  if setupOpen s p || !cfgLegal s p then .off
  else match cfgRole s p with
    | 0 => .host
    | 1 => .tray
    | 2 => .trunk
    | _ => .off

/-- A host port that exists: role host and not the odd member of a bond. -/
def isHostPort (s : State) (p : Nat) : Bool := decide (portRole s p = .host) && !bondOdd s p
def isTrunk (s : State) (p : Nat) : Bool := decide (portRole s p = .trunk) && !bondOdd s p
def isTray (s : State) (p : Nat) : Bool := decide (portRole s p = .tray) && !bondOdd s p
def isCxl (s : State) (p : Nat) : Bool := cfgProto s p == 1

/-- Whether a port's link carries traffic (17, 18). -/
def portUp (s : State) (p : Nat) : Bool :=
  if isCxl s p then (tblFind s.link.cxl p).any (fun c => c.st == .linkUp || c.st == .memReady)
  else (tblFind s.link.links p).any (fun l => l.st == .active)

/-- EP_ID of a port, and the host port of an endpoint (R339, R340). -/
def portEp (s : State) (p : Nat) : Endpoint := BitVec.ofNat 16 (fld s (portBase p + 0x100) 0 16)
def epPort (s : State) (e : Endpoint) : Option Nat :=
  (List.range 128).find? (fun p => isHostPort s p && portEp s p == e)

/-- This device's switch ID and the endpoint of its own agents (R338, R339). -/
def switchId (s : State) : Nat := fld s 0x33000 0 12
def devEp (s : State) : Endpoint := BitVec.ofNat 16 (fld s 0x33000 16 16)

/-- Whether a port's key table has a matching entry (R346, R348). -/
def keyMatch (s : State) (p : Nat) (k : Key) : Bool :=
  k != 0 && (List.range 64).any (fun e =>
    let a := portBase p + 0x200 + 8 * e
    let mask := BitVec.ofNat 16 (fld s a 16 16)
    flag s a 32 && (!isHostPort s p || mask == 0xFFFF) && ((k ^^^ BitVec.ofNat 16 (fld s a 0 16)) &&& mask) == 0)

/-- The ingress key check (R346). -/
def ingressKey (s : State) (p : Nat) (k : Key) : Bool :=
  if isHostPort s p then keyMatch s p k && k != 0xFFFF
  else if isTrunk s p then keyMatch s p k || k == 0xFFFF
  else isTray s p

/-! ## Link credits returned (R426, R427) -/

/-- A message of a port and channel has left the ingress role, or entered the writeback buffer: its credit is returned and reported. -/
def creditBack (s : State) (p ch : Nat) : State :=
  match tblFind s.link.links p with
  | none => s
  | some l =>
    if tblGet l.owe ch 0 = 0 then s
    else
      let g := tblMod l.granted ch 0 (· + 1)
      emit { s with link := { s.link with links := tblPut s.link.links p { l with owe := tblMod l.owe ch 0 (· - 1), granted := g } } } (.send p "Credit" (g.map (·.2 % 4096)))

/-! ## Failure domains (R487, R492) -/

/-- Fields of a domain ID: kind 1 PORT, 2 SWITCH, 3 GROUP; switch; index. -/
def domKind (d : Nat) : Nat := d / 2 ^ 28
def domSwitch (d : Nat) : Nat := d / 2 ^ 16 % 4096
def domIndex (d : Nat) : Nat := d % 65536
def portDom (sw p : Nat) : Nat := 2 ^ 28 + sw * 2 ^ 16 + p
def switchDom (sw : Nat) : Nat := 2 * 2 ^ 28 + sw * 2 ^ 16

/-- The local ports and peer switches that a RAS_DOMAIN entry names. -/
def groupBase (g : Nat) : Nat := rasBase + 0x2000 + 0x20 * g
def groupPorts (s : State) (g : Nat) : List Nat :=
  (List.range 128).filter (fun p => flag s (groupBase g + 8 * (p / 64)) (p % 64))
def groupSwitches (s : State) (g : Nat) : List Nat :=
  ((List.range 4).map (fun i => fld s (groupBase g + 16) (16 * i) 12)).filter (fun w => w != 0xFFF && w != switchId s)

/-- Whether a fence in force covers a switch. -/
def switchFenced (s : State) (sw : Nat) : Bool :=
  s.ras.fences.any (fun d => d == switchDom sw || (domKind d == 3 && (groupSwitches s (domIndex d)).contains sw))

/-- Whether a fence in force covers a port of a switch. -/
def portFenced (s : State) (sw p : Nat) : Bool :=
  switchFenced s sw || s.ras.fences.any (fun d => d == portDom sw p ||
    (domKind d == 3 && sw == switchId s && (groupPorts s (domIndex d)).contains p))

/-- Whether a port of this device is fenced. -/
def localFenced (s : State) (p : Nat) : Bool := portFenced s (switchId s) p

/-! ## Tenants and policy events -/

/-- The tenant entry of a key. -/
def tenantOf (s : State) (k : Key) : Option Tenant :=
  (s.pool.tenants.map (·.2)).find? (fun t => t.valid && t.key == k)

def isTenant (s : State) (k : Key) : Bool := (tenantOf s k).isSome

/-- An event for the policy module of a key (R467): 0 a completed operation, 1 an error record, 2 a lease expiry, 3 a page-age summary. A full queue drops it. -/
def pmEvent (s : State) (key : Key) (kind : Nat) (value : Word) : State :=
  match s.settle.modules.find? (fun m => m.key == key && m.running) with
  | none => s
  | some m =>
    let put (m : PModule) : State := { s with settle := { s.settle with modules := s.settle.modules.map (fun x => if x.slot = m.slot then m else x) } }
    if 1024 ≤ m.events then bump (put { m with dropped := m.dropped + 1 }) (settleCnt 5)
    else emit (put { m with events := m.events + 1 }) (.pmEvent key kind value)

/-! ## ALERT_N (R533, R537) -/

/-- Whether a cause drives ALERT_N low (R485, R533). -/
def alertLow (s : State) : Bool := flag s (rasBase + 0x8) 0 || fld s (mgmtBase + 0x110) 0 4 != 0

/-- ALERT_N falls where a cause has become set and none was before; the board controller's target raises an in-band interrupt with it. -/
def driveAlert (before s : State) : State :=
  if alertLow before then s else emit (emit s (.pin "ALERT_N" false)) (.send 130 "InBandInterrupt" [])

/-! ## Error records (R484 to R486) -/

/-- Deliver a record: log ring, interrupt, alert, tenant, CXL event, and its handle's ERR_LOGGED (R485). -/
def deliverRecord (s : State) (r : ErrRec) : State :=
  let depth := 2 ^ fld s (rasBase + 0x10) 0 5
  let s := if flag s (rasBase + 0x10) 5 && !s.pwr.perst && s.sys.mgmtRefOk then
      if (s.ras.ringHead + 2 ^ 17 - fld s (rasBase + 0x28) 0 17) % 2 ^ 17 < depth then
        let s := emit s (.logRing (s.ras.ringHead % depth) r)
        { s with ras := { s.ras with ringHead := (s.ras.ringHead + 1) % 2 ^ 17 } }
      else bump s (rasCnt 2)
    else s
  let s := if fld s rasBase 0 4 ≤ r.cls then msix s 1 else s
  let s := if r.cls = 4 ∨ r.cls = 5 ∨ r.cls = 8 then driveAlert s (setBit s (rasBase + 0x8) 0) else s
  let s := if r.key ≠ 0 then pmEvent s r.key 1 (BitVec.ofNat 64 r.seq) else s
  let s := if r.key ≠ 0 then
      (List.range 128).foldl (fun s p =>
        if isHostPort s p && isCxl s p && fld s (portBase p + 0x900) 0 16 == r.key.toNat then emit s (.gmEvent p r) else s) s
    else s
  if r.handle ≠ 0 then
    { s with rings := { s.rings with handles := tblUpd s.rings.handles r.handle (fun h => { h with errLogged := true }) } }
  else s

/-- Write an error record: stamp it, limit transient ones (R486), enter it in the log, count it and deliver it. -/
def errorRecord (s : State) (r : ErrRec) : State :=
  let s := match r.cls with
    | 1 => bump s (rasCnt 3)
    | 2 => bump s (rasCnt 4)
    | 3 => bump s (rasCnt 5)
    | 4 => bump s (rasCnt 6)
    | _ => s
  let unit := r.kind * 65536 + r.idx
  let sec := s.now / 1000000000
  let (sec0, n0) := tblGet s.ras.transients unit (sec, 0)
  let n := if sec0 = sec then n0 else 0
  if r.cls = 1 ∧ fld s rasBase 4 12 ≤ n then bump s (rasCnt 1)
  else
    let h := tblGet s.rings.handles r.handle { ring := 0, gen := 0, seq := 0 }
    let r := { r with time := s.now / 1000, seq := s.ras.seq, tag := if r.handle = 0 then 0 else h.tag }
    let s := { s with ras := { s.ras with
      log := (r :: s.ras.log).take 4096
      seq := (s.ras.seq + 1) % 2 ^ 32
      transients := if r.cls = 1 then tblPut s.ras.transients unit (sec, n + 1) else s.ras.transients } }
    deliverRecord (bump s (rasCnt 0)) r

/-- Write an error record of a unit (R484): unit kind, class, index, cause. -/
def logEvent (s : State) (kind cls idx cause : Nat) (key : Key) (handle addr d0 d1 : Nat) : State :=
  errorRecord s { kind := kind, cls := cls, idx := idx, cause := cause, key := key, handle := handle, addr := addr, d0 := d0, d1 := d1 }

/-- Set a bit of MGMT_ALERT_STATUS; a bit becoming set raises vector 3 (R546) and drives ALERT_N (22). -/
def raiseAlert (s : State) (bit : Nat) : State :=
  if flag s (mgmtBase + 0x110) bit then s
  else driveAlert s (msix (setBit s (mgmtBase + 0x110) bit) 3)

/-! ## Rings and handles (02) -/

def ringOf (s : State) (n : Nat) : Ring := tblGet s.rings.rings n {}
def setRing (s : State) (n : Nat) (r : Ring) : State :=
  { s with rings := { s.rings with rings := tblPut s.rings.rings n r } }
def handleOf (s : State) (h : Nat) : Option HandleRec := tblFind s.rings.handles h
def setHandle (s : State) (h : Nat) (r : HandleRec) : State :=
  { s with rings := { s.rings with handles := tblPut s.rings.handles h r } }
def dropHandle (s : State) (h : Nat) : State :=
  { s with rings := { s.rings with handles := tblErase s.rings.handles h } }

/-- RING_CFG fields of ring `n`. -/
def ringKey (s : State) (n : Nat) : Key := BitVec.ofNat 16 (fld s (ringBase n + 0x18) 16 16)
def ringSqDepth (s : State) (n : Nat) : Nat := 2 ^ fld s (ringBase n + 0x18) 0 5
def ringCqDepth (s : State) (n : Nat) : Nat := 2 ^ fld s (ringBase n + 0x18) 8 5
def ringMgmt (s : State) (n : Nat) : Bool := flag s (ringBase n + 0x18) 39
def ringPort (s : State) (n : Nat) : Nat := fld s (ringBase n + 0x18) 32 7
def ringAdmin (s : State) (n : Nat) : Bool := flag s (ringBase n + 0x18) 40

/-- The handle of a sequence of a ring (R40). -/
def handleId (n gen seq : Nat) : Nat := n * 2 ^ 52 + gen * 2 ^ 48 + seq

/-- The way to the requester of ring `n` (R27). -/
def ringPath (s : State) (n : Nat) : HostPath :=
  if ringMgmt s n then .mgmt else if isCxl s (ringPort s n) then .cxlIo (ringPort s n) else .flits (ringPort s n)

/-- The way to the memory that a handle's descriptor names. -/
def pathOf (s : State) (r : HandleRec) : HostPath :=
  match r.viaModule, r.remote with
  | some m, _ => .queue m
  | none, some sw => .relay sw
  | none, none => ringPath s r.ring

/-- Ask for host memory on behalf of a handle. -/
def readHost (s : State) (h addr len : Nat) : State :=
  match handleOf s h with
  | some r => emit s (.hostRead (pathOf s r) h addr len)
  | none => s

/-- Live handles of a ring: fetched and not yet retired, records held from before a warm reset and handles that outlived a tenant reset apart. -/
def liveCount (s : State) (n : Nat) : Nat :=
  (s.rings.handles.filter (fun e => e.2.ring == n && e.2.gen == (ringOf s n).gen && e.2.remote.isNone && !(ringOf s n).old.contains e.1)).length

/-- Status codes (R47). -/
def statusCode : Status → Nat
  | .ok => 0x0 | .aborted => 0x1 | .alreadyDone => 0x2 | .baseMoved => 0x3 | .revoked => 0x4 | .overQuota => 0x5
  | .fenced => 0x6 | .inTransitTimeout => 0x7 | .sizeMismatch => 0x8 | .tableBusy => 0x9 | .noSpare => 0xA
  | .keyReject => 0xB | .badDescriptor => 0xC | .poisoned => 0xD | .interrupted => 0xE | .busy => 0xF
  | .staleEpoch => 0x10 | .notOwner => 0x11

/-- Device time in µs modulo 2^32, the timestamp of a record (R43, R502). -/
def stampNow (s : State) : BitVec 32 := BitVec.ofNat 32 (s.now / 1000)

/-- Count a record dropped (R53, R55; RINGSETUP_REC_DROP is 32 bits wide and wraps). -/
def recDrop (s : State) : State := setFld s (ringGlobal + 0x18) 0 32 (fld s (ringGlobal + 0x18) 0 32 + 1)

/-- Whether the record of a handle of this ring and generation can still be delivered: the ring is neither DISABLED nor
on its way there from HALTED, and no later enable came (R30, R53). -/
def recordKept (s : State) (ring gen : Nat) : Bool :=
  let g := ringOf s ring
  g.gen == gen && g.st != .disabled && !(g.st == .halted && g.closing)

/-- Return the ready records of forwarded descriptors to their switches, each once the record it waits for is gone
(R51, R165). -/
def returnRemote (s : State) : State :=
  s.rings.handles.foldl (fun s e =>
    match handleOf s e.1 with
    | some r =>
      match r.remote with
      | some sw =>
        if r.phase = .committed ∧ r.ready ∧ (r.waitFor.all (fun w => (handleOf s w).isNone)) then
          emit (dropHandle s e.1) (.returnRecord sw (e.1 % 2 ^ 64) r.status r.r0 r.r1)
        else s
      | none => s
    | none => s) s

/-- Whether a warm reset runs: nothing is fetched, started or issued until device open (R511, file 21). -/
def warming (s : State) : Bool := s.sys.st == .quiesce || s.sys.st == .restart

/-- Whether a live descriptor may start, outside a warm reset: no earlier one of its ring waits to start (R34), and under ORDERED every earlier one
has committed. -/
def mayStart (s : State) (r : HandleRec) : Bool :=
  let earlier := s.rings.handles.filter (fun e => e.2.ring == r.ring && e.2.gen == r.gen && e.2.seq < r.seq &&
    e.2.remote == r.remote)
  !warming s && decide (r.phase = .live) && !r.started && earlier.all (fun e => e.2.started) &&
  (!r.flags.getLsbD 0 || earlier.all (fun e => decide (e.2.phase = .committed)))

/-- The operation that a row names by handle and opcode, if it may start here. -/
def startable (s : State) (h opcode : Nat) : Option HandleRec :=
  match handleOf s h with
  | none => none
  | some r => if r.opcode = opcode ∧ r.sentTo = none ∧ mayStart s r = true then some r else none

/-- Forward the descriptors that belong to other switches and may now start (R34, R165). -/
def forwardReady (s : State) : State :=
  s.rings.handles.foldl (fun s e =>
    match handleOf s e.1 with
    | some r =>
      match r.sentTo with
      | some sw =>
        if mayStart s r then emit (setHandle s e.1 { r with started := true }) (.forwardDesc sw e.1 r.desc) else s
      | none => s
    | none => s) s

/-- Count a completed COLLECTIVE (R337) or KERNEL_LAUNCH (R314), whatever its status. -/
def countDone (s : State) (r : HandleRec) : State :=
  if r.opcode = 0x4A then
    let s := bump s (trainCnt 4)
    if lineNat r.desc 14 1 = 6 then bump s (trainCnt 7) else s
  else if r.opcode = 0x49 then bump s (trestleCnt 0)
  else s

/-- Set the commit latch of a live handle (R49): its record joins its ring's commit order, ready to be written or
still waiting for the rest of its work; a forwarded descriptor's record returns to its switch (R165). -/
def commitWith (s : State) (h : Nat) (ready : Bool) (st : Status) (r0 r1 : Word) : State :=
  match handleOf s h with
  | some r =>
    if r.phase = .live then
      let s := setHandle (countDone s r) h { r with
        phase := .committed, ready := ready, status := st, r0 := r0, r1 := r1, stamp := stampNow s, started := true
        prog := if ready ∧ (st = .aborted ∨ st = .interrupted) then r1.toNat else r.prog }
      if r.remote.isSome then returnRemote s
      else if recordKept s r.ring r.gen then
        let g := ringOf s r.ring
        forwardReady (setRing s r.ring { g with commits := g.commits ++ [h] })
      else recDrop (dropHandle s h)
    else s
  | none => s

/-- Commit with a record ready to be written. -/
def commit (s : State) (h : Nat) (st : Status) (r0 r1 : Word) : State := commitWith s h true st r0 r1

/-- Fill in the record of a handle whose latch is already set. Where its ring can no longer deliver it, the record is dropped and counted (R30, R53). -/
def fillRecord (s : State) (h : Nat) (st : Status) (r0 r1 : Word) : State :=
  match handleOf s h with
  | some r =>
    if r.ready then s
    else if r.remote.isSome || recordKept s r.ring r.gen || (ringOf s r.ring).old.contains h then
      returnRemote (setHandle s h { r with ready := true, status := st, r0 := r0, r1 := r1
                                           prog := if st = .aborted ∨ st = .interrupted then r1.toNat else r.prog })
    else returnRemote (recDrop (dropHandle s h))
  | none => s

/-- The owning engine is done: its completion goes to the latch (LATCH_SET). -/
def engineDone (s : State) (h : Nat) (st : Status) (r0 r1 : Word) : State :=
  { s with rings := { s.rings with handles := tblUpd s.rings.handles h (fun r =>
      if r.fin.isSome then r else { r with fin := some (st, r0, r1) }) } }

/-- Add to the progress of a long operation that several engine operations share (R48). -/
def addProgress (s : State) (h : Nat) (n : Nat) : State :=
  { s with rings := { s.rings with handles := tblUpd s.rings.handles h (fun r => { r with prog := r.prog + n }) } }

/-- Note the progress of a long operation (R48, R51). -/
def setProgress (s : State) (h : Nat) (n : Nat) : State :=
  { s with rings := { s.rings with handles := tblUpd s.rings.handles h (fun r => { r with prog := n }) } }

/-- Halt a ring with a cause (R30). -/
def haltRing (s : State) (n cause : Nat) : State :=
  let r := ringOf s n
  if r.st = .active ∨ r.st = .draining then setRing s n { r with st := .halted, cause := cause } else s

/-- Halt every ring bound to a port, or to the management endpoint when `port` is none (R53, R488, R535). -/
def haltBound (s : State) (port : Option Nat) (cause : Nat) : State :=
  (s.rings.rings.map (·.1)).foldl (fun s n =>
    let bound := match port with
      | some p => !ringMgmt s n && ringPort s n == p
      | none => ringMgmt s n
    if bound then haltRing s n cause else s) s

/-- Mark an operation started. -/
def markStarted (s : State) (h : Nat) : State :=
  forwardReady { s with rings := { s.rings with handles := tblUpd s.rings.handles h (fun r => { r with started := true }) } }

/-- BAD_DESCRIPTOR with the offset of the first byte found wrong (R38). -/
def badDesc (s : State) (h off : Nat) : State := commit s h .badDescriptor (BitVec.ofNat 64 off) 0

/-- Owner and range questions on extents (R63). -/
def extentAt (s : State) (off : Nat) : Option Extent :=
  s.pool.extents.find? (fun x => x.base ≤ off && off < x.base + x.len)
def extentById (s : State) (id : Nat) : Option Extent := s.pool.extents.find? (fun x => x.id == id)

/-- The access a key holds on an extent: `some true` RW, `some false` RO (R72, R73). -/
def accessOf (x : Extent) (k : Key) : Option Bool :=
  if x.owner = k then some true else (x.grants.find? (fun g => g.1 == k)).map (·.2)

/-- The extent that holds the whole range. -/
def extentOver (s : State) (lo len : Nat) : Option Extent :=
  s.pool.extents.find? (fun x => x.base ≤ lo && lo + len ≤ x.base + x.len)

/-- The range of an extent, and whether two ranges meet. -/
def rangeOf (x : Extent) : Nat × Nat := (x.base, x.base + x.len)
def meets (a b : Nat × Nat) : Bool := decide (a.1 < b.2 ∧ b.1 < a.2)

/-- The extent of a composition that covers a page's lowest covered byte. -/
def coverOf (xs : List Extent) (page : Nat) : Option Extent :=
  let cover := xs.filter (fun x => meets (rangeOf x) (page * 65536, page * 65536 + 65536))
  match cover with
  | [] => none
  | x :: r => some (r.foldl (fun a b => if b.base < a.base then b else a) x)

/-- The extent that covers a page's lowest covered byte: its tiers and owner stand for the page where its first byte lies in none. -/
def pageExtent (s : State) (page : Nat) : Option Extent := coverOf s.pool.extents page

end Sys2Proof.Machine
end

