-- ==== Sys2Proof/Machine/Codec.lean ====
section
/-! DEFINITION. The compressed block formats (09, R217 to R223): headers, prefix codes, decoding under the declared size, and
the CX-A encoder. -/

namespace Sys2Proof.Machine

/-! ## CX-P tokens (R220, R221, R224) -/

/-- A CX-P token: a byte, or a match of a length and a distance. -/
inductive CxpTok where
  | lit (b : Byte)
  | copy (len dist : Nat)
  deriving DecidableEq, Repr

/-- A fixed-width field, least significant bit first (R220). -/
def fieldBits (n v : Nat) : List Bool := (List.range n).map (fun i => bitsOf v i 1 == 1)

/-- The bits of a token. -/
def tokBits : CxpTok → List Bool
  | .lit b => false :: fieldBits 8 b.toNat
  | .copy len dist => true :: (fieldBits 8 (len - 3) ++ fieldBits 12 (dist - 1))

/-- The value of bits, least significant first. -/
def bitsVal : List Bool → Nat
  | [] => 0
  | b :: r => (if b then 1 else 0) + 2 * bitsVal r

/-- Copy `n` bytes from a distance: `rev` is the output so far, last byte first; copies may overlap the output. -/
def copyBytes : Nat → Nat → List Byte → List Byte
  | 0, _, rev => rev
  | n + 1, dist, rev => copyBytes n dist (rev.getD (dist - 1) 0 :: rev)

/-- Decode CX-P tokens until exactly `need` more bytes are made and the bits are used up (R221); `rev` is the output so far, last byte first. -/
def takeToks : Nat → Nat → List Bool → List Byte → Option (List Byte)
  | 0, _, _, _ => none
  | fuel + 1, need, bs, rev =>
    if need = 0 then (if bs.isEmpty then some rev.reverse else none)
    else match bs with
      | [] => none
      | false :: r =>
        if r.length < 8 then none else takeToks fuel (need - 1) (r.drop 8) (BitVec.ofNat 8 (bitsVal (r.take 8)) :: rev)
      | true :: r =>
        if r.length < 20 then none
        else
          let len := bitsVal (r.take 8) + 3
          let dist := bitsVal ((r.drop 8).take 12) + 1
          if need < len ∨ rev.length < dist then none else takeToks fuel (need - len) (r.drop 20) (copyBytes len dist rev)

/-- The raw bytes of a CX-P bit stream. -/
def cxpDecode (raw : Nat) (bs : List Bool) : Option (List Byte) := takeToks (raw + 1) raw bs []

/-- Tokens from the device's choice of literals and matches: each literal is the next byte. -/
def cxpChoice : List (Option (Nat × Nat)) → List Byte → List CxpTok
  | [], _ => []
  | none :: r, b => .lit (b.headD 0) :: cxpChoice r (b.drop 1)
  | some (len, dist) :: r, b => .copy len dist :: cxpChoice r (b.drop len)

/-- The CX-P bits of a block: those of the tokens that the device chooses, where they decode to the block; literals otherwise (log entry 102). -/
def cxpBits (raw : List Byte) : List Bool :=
  let bs := (cxpChoice (Config.cxpTokens raw) raw).flatMap tokBits
  if cxpDecode raw.length bs = some raw then bs else raw.flatMap (fun b => tokBits (.lit b))

/-! ## Block headers (R217, R218) -/

/-- A block header. -/
structure BHdr where
  slot : Nat := 0
  gen : Nat := 0
  fmt : Nat := 0
  esc : Bool := false
  zero : Bool := false
  units : Nat := 0
  pbits : Nat := 0
  raw : Nat := 0
  rsvd : Nat := 0
  poison : BitVec 64 := 0
  deriving DecidableEq, Repr

/-- A header as it is stored. -/
def parseHdr (b : List Byte) : BHdr :=
  let w := imgNat b 0 8
  { slot := bitsOf w 0 8, gen := bitsOf w 8 8, fmt := bitsOf w 16 2, esc := bitsOf w 18 1 == 1, zero := bitsOf w 19 1 == 1,
    units := bitsOf w 20 5, pbits := bitsOf w 25 16, raw := bitsOf w 41 12 + 1, rsvd := bitsOf w 53 11,
    poison := BitVec.ofNat 64 (imgNat b 8 8) }

/-- The 16 bytes of a header. -/
def hdrBytes (h : BHdr) : List Byte :=
  natBytes 8 (h.slot + h.gen * 2 ^ 8 + h.fmt * 2 ^ 16 + (if h.esc then 2 ^ 18 else 0) + (if h.zero then 2 ^ 19 else 0) +
    h.units * 2 ^ 20 + h.pbits * 2 ^ 25 + (h.raw - 1) * 2 ^ 41) ++ natBytes 8 h.poison.toNat

/-- Stored units of 256 B that a number of bytes takes. -/
def units256 (n : Nat) : Nat := (n + 255) / 256

/-- Whether a header is consistent (R218), for the format that its context expects. -/
def hdrOk (h : BHdr) (fmt : Nat) : Bool :=
  h.rsvd == 0 && h.fmt == fmt && h.poison.toNat >>> ((h.raw + 63) / 64) == 0 &&
  (if h.zero then !h.esc && h.units == 0 && h.pbits == 0
   else if h.esc then h.units == units256 h.raw && h.pbits == 8 * h.raw
   else h.units == (h.pbits + 2047) / 2048 && decide (h.units < units256 h.raw))

/-! ## Prefix codes (R220) -/

/-- Codewords of one length: each symbol of that length, with its codeword, and the code after them. -/
def codesOfLen (len : Nat) : List Nat → Nat → Nat → List (Nat × Nat × Nat) × Nat
  | [], _, code => ([], code)
  | l :: ls, sym, code =>
    if l = len then
      let (r, c) := codesOfLen len ls (sym + 1) (code + 1)
      ((sym, len, code) :: r, c)
    else codesOfLen len ls (sym + 1) code

/-- The canonical code of a list of code lengths: symbol, length and codeword, for lengths 1 to 15. -/
def canonical (lengths : List Nat) : List (Nat × Nat × Nat) :=
  ((List.range 15).foldl (fun (acc : List (Nat × Nat × Nat) × Nat) i =>
    let (r, c) := codesOfLen (i + 1) lengths 0 acc.2
    (acc.1 ++ r, 2 * c)) ([], 0)).1

/-- The bits of a payload, from bit 0 of its first byte upward. -/
def payloadBits (b : List Byte) : List Bool := b.flatMap (fun x => (List.range 8).map (fun i => x.getLsbD i))

/-- One symbol from the front of a bit stream: its codeword comes most significant bit first. -/
def takeSym (code : List (Nat × Nat × Nat)) : Nat → Nat → Nat → List Bool → Option (Nat × List Bool)
  | 0, _, _, _ => none
  | _ + 1, _, _, [] => none
  | fuel + 1, len, c, b :: bs =>
    let c := 2 * c + (if b then 1 else 0)
    match code.find? (fun e => e.2.1 == len + 1 && e.2.2 == c) with
    | some e => some (e.1, bs)
    | none => takeSym code fuel (len + 1) c bs

/-- What a symbol produces: a literal of the alphabet, or a run of zero bytes (CX-A). -/
def symOut (sym : Nat) : List Nat := if sym < 256 then [sym] else List.replicate (2 ^ (sym - 255)) 0

/-- Decode symbols until exactly `need` values are made and the bits are used up (R221). -/
def takeSyms (code : List (Nat × Nat × Nat)) : Nat → Nat → List Bool → Option (List Nat)
  | 0, _, _ => none
  | fuel + 1, need, bs =>
    if need = 0 then (if bs.isEmpty then some [] else none)
    else match takeSym code 15 0 0 bs with
      | none => none
      | some (sym, rest) =>
        let out := symOut sym
        if need < out.length then none
        else (takeSyms code fuel (need - out.length) rest).map (fun r => out ++ r)

/-- Bytes from nibbles, the low nibble of each byte first. -/
def joinNibbles : List Nat → List Byte
  | a :: b :: r => BitVec.ofNat 8 (a + 16 * b) :: joinNibbles r
  | _ => []

/-- A code table as a generation holds it. -/
structure CodeTab where
  cxa : Bool
  width : Nat
  lengths : List Nat
  deriving DecidableEq, Repr

/-- What decoding a block comes to. -/
inductive BlockOut where
  | good (bytes : List Byte)
  | mismatch
  | missing
  deriving DecidableEq, Repr

/-- Decode a CX-W (0), CX-A (1) or CX-P (2) block from its header and payload (R221); `find` gives the table of a slot and generation
that the key may use (R229). A coded CX-P block names slot 255 and generation 0. -/
def decodeBlock (fmt : Nat) (find : Nat → Nat → Option CodeTab) (h : BHdr) (payload : List Byte) : BlockOut :=
  if !hdrOk h fmt then .mismatch
  else if h.zero then .good (List.replicate h.raw 0)
  else if h.esc then .good (payload.take h.raw)
  else if fmt = 2 then
    if h.slot = 255 ∧ h.gen = 0 then
      match cxpDecode h.raw ((payloadBits payload).take h.pbits) with
      | some b => .good b
      | none => .mismatch
    else .mismatch
  else match find h.slot h.gen with
    | none => .missing
    | some t =>
      if t.cxa != (fmt == 1) then .missing
      else
        let bits := (payloadBits payload).take h.pbits
        let wide := t.width == 4
        match takeSyms (canonical t.lengths) (2 * h.raw + 1) (if wide then 2 * h.raw else h.raw) bits with
        | none => .mismatch
        | some vs => .good (if wide then joinNibbles vs else vs.map (BitVec.ofNat 8))

/-! ## Encoding CX-A (R219, R222) -/

/-- The symbols of a run of `r` zero bytes: powers of two, largest first, and literal 0 for one that is left. -/
def runSyms (r : Nat) : List Nat :=
  ((List.range 12).reverse.filter (fun j => bitsOf r (j + 1) 1 == 1)).map (fun j => 256 + j) ++
  (if r % 2 = 1 then [0] else [])

/-- The CX-A symbols of raw bytes; `z` zero bytes are pending. -/
def cxaSyms : List Byte → Nat → List Nat
  | [], z => runSyms z
  | b :: r, z => if b = 0 then cxaSyms r (z + 1) else runSyms z ++ b.toNat :: cxaSyms r 0

/-- The bits of a codeword, most significant first. -/
def codeBits (len code : Nat) : List Bool := (List.range len).map (fun i => bitsOf code (len - 1 - i) 1 == 1)

/-- The bits of a list of symbols; none where one has no code. -/
def symBits (code : List (Nat × Nat × Nat)) : List Nat → Option (List Bool)
  | [] => some []
  | s :: r =>
    match code.find? (fun e => e.1 == s) with
    | none => none
    | some e => (symBits code r).map (fun b => codeBits e.2.1 e.2.2 ++ b)

/-- Pack bits into `n` bytes, padding with zeros. -/
def packBits : Nat → List Bool → List Byte
  | 0, _ => []
  | n + 1, bs =>
    BitVec.ofNat 8 (((bs.take 8).zipIdx.map (fun e => if e.1 then 2 ^ e.2 else 0)).sum) :: packBits n (bs.drop 8)

/-- Encode raw bytes as a CX-A block: header and payload (R219). -/
def encodeBlock (lengths : List Nat) (slot gen : Nat) (raw : List Byte) (poison : BitVec 64) : BHdr × List Byte :=
  let n := raw.length
  if raw.all (· == 0) then ({ fmt := 1, zero := true, raw := n, poison := poison }, [])
  else
    let plain : BHdr × List Byte :=
      ({ fmt := 1, esc := true, units := units256 n, pbits := 8 * n, raw := n, poison := poison },
       raw ++ List.replicate (256 * units256 n - n) 0)
    match symBits (canonical lengths) (cxaSyms raw 0) with
    | none => plain
    | some bs =>
      let u := (bs.length + 2047) / 2048
      if u < units256 n then
        ({ slot := slot, gen := gen, fmt := 1, units := u, pbits := bs.length, raw := n, poison := poison }, packBits (256 * u) bs)
      else plain

/-- Encode raw bytes as a CX-P block: header and payload (R219, R224). -/
def encodeCxp (raw : List Byte) (poison : BitVec 64) : BHdr × List Byte :=
  let n := raw.length
  if raw.all (· == 0) then ({ fmt := 2, zero := true, raw := n, poison := poison }, [])
  else
    let bs := cxpBits raw
    let u := (bs.length + 2047) / 2048
    if u < units256 n then ({ slot := 255, fmt := 2, units := u, pbits := bs.length, raw := n, poison := poison }, packBits (256 * u) bs)
    else
      ({ fmt := 2, esc := true, units := units256 n, pbits := 8 * n, raw := n, poison := poison },
       raw ++ List.replicate (256 * units256 n - n) 0)

/-- The CX-P block of the lines of a sector. -/
def cxpBlock (ls : List (Line × Bool)) : BHdr × List Byte :=
  let poison := ls.zipIdx.foldl (fun m e => if e.1.2 then m ||| (1 : BitVec 64) <<< e.2 else m) 0
  if ls.all (fun l => l.1 == 0) then ({ fmt := 2, zero := true, raw := 64 * ls.length, poison := poison }, [])
  else encodeCxp (ls.flatMap (fun l => lineBytes l.1)) poison

/-- Add the symbols of raw bytes to the counts of pass 1 (R232). -/
def countSyms (counts : List Nat) (raw : List Byte) : List Nat :=
  (cxaSyms raw 0).foldl (fun c s => c.modify s (· + 1)) counts

/-- Whether code lengths make a valid table (R230): each at most 15, one at least, and no more codes than fit. -/
def lengthsOk (lengths : List Nat) : Bool :=
  lengths.all (fun l => decide (l ≤ 15)) && lengths.any (· != 0) &&
  decide ((lengths.map (fun l => if l = 0 then 0 else 2 ^ (15 - l))).sum ≤ 2 ^ 15)

/-- The lengths that pass 1 gives its counts: a function of the counts alone that codes every symbol, not otherwise laid down
(R232; assumption log, entry 2). -/
def builtLengths (counts : List Nat) : List Nat :=
  let l := Config.cxaLengths counts
  if l.length = 268 ∧ l.all (· != 0) = true ∧ lengthsOk l = true then l else List.replicate 268 9

/-! ## Objects (R223) -/

/-- Bytes of an object's header and directory, rounded up to units. -/
def objHead (n : Nat) : Nat := 256 * units256 (64 + 16 * n)

/-- An object header as it is stored. -/
structure OHdr where
  raw : Nat
  n : Nat
  fmt : Nat
  slot : Nat
  gen : Nat
  stored : Nat
  deriving DecidableEq, Repr

def parseObj (b : List Byte) : OHdr :=
  ⟨imgNat b 0 8, imgNat b 8 4, imgNat b 12 1, imgNat b 13 1, imgNat b 14 1, imgNat b 16 8⟩

/-- Block headers of an object's header and directory. -/
def objBlocks (b : List Byte) (n : Nat) : List BHdr := (List.range n).map (fun i => parseHdr ((b.drop (64 + 16 * i)).take 16))

/-- Whether an object keeps the rules of R223 with the lengths declared for it. -/
def objOk (b : List Byte) (fmt raw stored : Nat) : Bool :=
  let o := parseObj b
  let hs := objBlocks b o.n
  o.fmt == fmt && o.raw == raw && o.stored == stored && o.n == (o.raw + 4095) / 4096 && b.getD 15 0 == 0 &&
  (b.drop 24).take 40 == List.replicate 40 0 &&
  o.stored == objHead o.n + 256 * (hs.map (·.units)).sum && o.raw == (hs.map (·.raw)).sum &&
  hs.dropLast.all (fun h => h.raw == 4096) &&
  hs.all (fun h => h.esc || h.zero || (h.slot == o.slot && h.gen == o.gen))

/-- Where the payload of block `i` lies in its object. -/
def payloadAt (n : Nat) (hs : List BHdr) (i : Nat) : Nat := objHead n + 256 * ((hs.take i).map (·.units)).sum

/-- The header and directory of an object. -/
def objDirectory (raw slot gen : Nat) (hs : List BHdr) : List Byte :=
  let n := hs.length
  let stored := objHead n + 256 * (hs.map (·.units)).sum
  let b := natBytes 8 raw ++ natBytes 4 n ++ [1, BitVec.ofNat 8 slot, BitVec.ofNat 8 gen, 0] ++ natBytes 8 stored ++
    List.replicate 40 0 ++ hs.flatMap hdrBytes
  b ++ List.replicate (objHead n - b.length) 0

end Sys2Proof.Machine
end

