-- ==== Sys2Proof/Machine/Memory.lean ====
section
/-! DEFINITION. The pool's memory: bytes of backing pages in canonical form, lines, poison, and the memory copy of a pool
line through the Pool Map (03, R58). -/

namespace Sys2Proof.Machine

/-- The canonical form of memory: addresses rise strictly and no entry holds what an unlisted address reads as. -/
def memWf : List Host.Cell → Bool
  | [] => true
  | [(_, v)] => v != 0
  | (a, v) :: (b, w) :: r => v != 0 && decide (a < b) && memWf ((b, w) :: r)

/-- One byte of memory; an unlisted byte reads 0. -/
def memRead (m : List Host.Cell) (a : Nat) : Byte := tblGet m a 0

/-- Write one byte, keeping the canonical form. -/
def memWrite (m : List Host.Cell) (a : Nat) (v : Byte) : List Host.Cell := if v = 0 then tblErase m a else tblPut m a v

/-- Read `n` bytes. -/
def memReads (m : List Host.Cell) (a n : Nat) : List Byte := (List.range n).map (fun i => memRead m (a + i))

/-- Write bytes at rising addresses. -/
def memWrites : List Host.Cell → Nat → List Byte → List Host.Cell
  | m, _, [] => m
  | m, a, b :: r => memWrites (memWrite m a b) (a + 1) r

/-- Clear the bytes from `lo` up to but not including `hi`. -/
def memClear (m : List Host.Cell) (lo hi : Nat) : List Host.Cell := m.filter (fun c => c.1 < lo || hi ≤ c.1)

/-- Page, sector and line of an offset. -/
def pageOf (off : Nat) : Nat := off / 65536
def sectorOf (off : Nat) : Nat := off / 4096 % 16
def lineOf (off : Nat) : Nat := off / 64

/-- The backing page of a pool page. -/
def backIdOf (s : State) (page : Nat) : Option Nat := tblFind s.pool.pages page
def backById (s : State) (id : Nat) : Option Back := tblFind s.pool.backs id
def backAt (s : State) (page : Nat) : Option Back := (backIdOf s page).bind (backById s)

def setBack (s : State) (id : Nat) (b : Back) : State :=
  { s with pool := { s.pool with backs := tblPut s.pool.backs id b } }

/-- Mark or unmark a line of a backing page as poisoned. -/
def setPoison (s : State) (id line : Nat) (p : Bool) : State :=
  let k := id * 1024 + line
  let rest := s.pool.poisonLines.filter (· != k)
  { s with pool := { s.pool with poisonLines := if p then (k :: rest) else rest } }

/-- A line of a backing page, with its poison mark: zeros in a ZERO sector (R58), poisoned when the page is lost (R489). -/
def backLine (s : State) (id line : Nat) : Line × Bool :=
  match backById s id with
  | none => (0, false)
  | some b =>
    let data := bytesLine (memReads s.pool.cells (id * 65536 + line * 64) 64)
    if b.lost then (data, true)
    else if b.sectors.getLsbD (line / 64) then (data, s.pool.poisonLines.contains (id * 1024 + line))
    else (0, false)

/-- The bank of a location in bank-local layout (R243). -/
def localBank : Loc → Option (Nat × Nat)
  | .t0 st bank _ true => some (st, bank)
  | _ => none

/-- The tier of a location. -/
def locTier : Loc → Tier
  | .t0 .. => .t0
  | .t1 .. => .t1
  | .t2 .. => .t2

/-- Set the dirty bit of a sector of a backed T0 page, noting since when (R194, R211). -/
def dirtySector (s : State) (b : Back) (sec : Nat) : Back :=
  if b.copy.isSome && decide (locTier b.loc = .t0) && !b.dirty.getLsbD sec then
    { b with dirty := b.dirty ||| (1 : BitVec 16) <<< sec, dirtySince := tblPut b.dirtySince sec s.now }
  else b

/-- Write a line of a backing page with its poison mark: its sector becomes VALID (R58). The dirty bit was set where the write was ordered
(R194). A write to a Moving page is applied at both locations (R200). -/
def writeBackLine (s : State) (id line : Nat) (d : Line) (poison : Bool) : State :=
  match backById s id with
  | none => s
  | some b =>
    let sec := line / 64
    let b := { b with sectors := b.sectors ||| (1 : BitVec 16) <<< sec }
    let s := setBack s id b
    let s := setPoison s id line poison
    let s := { s with pool := { s.pool with cells := memWrites s.pool.cells (id * 65536 + line * 64) (lineBytes d) } }
    if b.moving then bump s (winchCnt 5) else s

/-- The memory copy of a pool line. -/
def memLine (s : State) (line : Nat) : Line × Bool :=
  match backIdOf s (line / 1024) with
  | some id => backLine s id (line % 1024)
  | none => (0, false)

/-- Write the memory copy of a pool line; a page that is not allocated takes nothing. -/
def memLineWrite (s : State) (line : Nat) (d : Line) (poison : Bool) : State :=
  match backIdOf s (line / 1024) with
  | some id => writeBackLine s id (line % 1024) d poison
  | none => s

def transAt (s : State) (line : Nat) : Option Trans := tblFind s.coh.trans line
def hotAt (s : State) (line : Nat) : Option Hot := tblFind s.atm.hot line

/-- The newest value of a line at its home: Far buffer, writeback buffer, or memory. -/
def currentLine (s : State) (line : Nat) : Line × Bool :=
  match hotAt s line with
  | some h =>
    if h.mode = .far ∨ h.mode = .leaving then (h.buf, h.poison)
    else match (s.coh.wbBuf.filter (fun w => w.line == line)).getLast? with
      | some w => (w.data, w.poison)
      | none => memLine s line
  | none =>
    match (s.coh.wbBuf.filter (fun w => w.line == line)).getLast? with
    | some w => (w.data, w.poison)
    | none => memLine s line

/-- The value of a line that the last ordered write leaves: one on its way to memory, or the newest at the home. -/
def newestLine (s : State) (line : Nat) : Line × Bool := ((transAt s line).bind (·.writing)).getD (currentLine s line)

/-- A line of a backing page as `newestLine` has it, where a pool page shows it. -/
def backNow (s : State) (id line : Nat) : Line × Bool :=
  match s.pool.pages.find? (fun e => e.2 == id) with
  | some e => newestLine s (e.1 * 1024 + line)
  | none => backLine s id line

/-- The lines of a sector of a backing page. -/
def sectorNow (s : State) (id sec : Nat) : List (Line × Bool) := (List.range 64).map (fun i => backNow s id (64 * sec + i))

/-- Clear a backing page: every byte zero, no poison, no sector VALID (R79). -/
def clearBack (s : State) (id : Nat) : State :=
  let s := { s with pool := { s.pool with
    cells := memClear s.pool.cells (id * 65536) (id * 65536 + 65536)
    poisonLines := s.pool.poisonLines.filter (fun k => k / 1024 != id) } }
  match backById s id with
  | some b => setBack s id { b with sectors := 0, dirty := 0, dirtySince := [] }
  | none => s

/-- Copy a backing page's bytes, sector states and poison to another: every line of a lost page is read poisoned (R489). -/
def copyBack (s : State) (src dst : Nat) : State :=
  match backById s src, backById s dst with
  | some a, some b =>
    let s := clearBack s dst
    let bytes := (s.pool.cells.filter (fun c => c.1 / 65536 == src)).map (fun c => (c.1 % 65536, c.2))
    let cells := bytes.foldl (fun m c => memWrite m (dst * 65536 + c.1) c.2) s.pool.cells
    let pois := if a.lost then (List.range 1024).map (fun i => dst * 1024 + i)
      else (s.pool.poisonLines.filter (fun k => k / 1024 == src)).map (fun k => dst * 1024 + k % 1024)
    let s := { s with pool := { s.pool with cells := cells, poisonLines := s.pool.poisonLines ++ pois } }
    setBack s dst { b with sectors := if a.lost then 0xFFFF else a.sectors }
  | _, _ => s

/-- Whether a backing page has a poisoned line. -/
def backPoisoned (s : State) (id : Nat) : Bool := s.pool.poisonLines.any (fun k => k / 1024 == id)

end Sys2Proof.Machine
end

