-- ==== Sys2Proof/Machine/Pages.lean ====
section
/-! DEFINITION. Locations in the tiers, allocation, charging and freeing of pages (03, R83, R84; 08, R190 to R193; 09,
R224; 10, R241 to R243). -/

namespace Sys2Proof.Machine

/-! ## Usage and quota -/

/-- Pages charged to a key in a tier: pages, backing copies in their own tier (R83, R194), and pages freed by an operation whose record is
not yet written (R79). -/
def usage (s : State) (k : Key) (t : Tier) : Nat :=
  (s.pool.backs.filter (fun e => e.2.charge == k && decide (locTier e.2.loc = t))).length +
  (s.pool.backs.filter (fun e => e.2.charge == k && (e.2.copy.map locTier == some t))).length +
  (s.pool.freeing.filter (fun e => e.2.1 == k && decide (e.2.2 = t) && (handleOf s e.1).isSome)).length

/-- Pages of a key that moves under way will add to a tier (R200). -/
def pendingIn (s : State) (k : Key) (t : Tier) : Nat :=
  ((s.tier.chunks.filter (fun c => c.stage != .switched)).flatMap (fun c => c.pages)).countP (fun p =>
    decide (locTier p.new = t) && decide (locTier p.old ≠ t) &&
    (backById s p.id).any (fun b => b.charge == k && b.copy != some p.new))

/-- A tenant's quota in a tier. A key that is no tenant has none to spend. -/
def quotaOf (s : State) (k : Key) (t : Tier) : Option Nat :=
  match tenantOf s k with
  | none => some 0
  | some e => match t with
    | .t0 => e.q0
    | .t1 => e.q1
    | .t2 => e.q2

/-- Whether usage plus `n` pages is within quota (R84). -/
def quotaRoom (s : State) (k : Key) (t : Tier) (n : Nat) : Bool :=
  match quotaOf s k t with
  | none => true
  | some q => decide ((usage s k t + pendingIn s k t + n) * 65536 ≤ q)

/-- The placement record of a page; the default attributes where none was placed (08). -/
def placeOf (s : State) (page : Nat) : PlaceRec :=
  (s.tier.places.find? (fun r => r.base ≤ page * 65536 && page * 65536 < r.base + r.len)).getD { base := 0, len := 0 }

def maskHas (mask i : Nat) : Bool := mask == 0 || bitsOf mask i 1 == 1

/-! ## T0 (R242, R243) -/

def stackOf (s : State) (st : Nat) : StackRec := tblGet s.stk.stackRecs st {}
def setStack (s : State) (st : Nat) (r : StackRec) : State :=
  { s with stk := { s.stk with stackRecs := tblPut s.stk.stackRecs st r } }

def bankClosed (s : State) (st bank : Nat) : Bool := (stackOf s st).closed.contains bank
def stackOnline (s : State) (st : Nat) : Bool := decide ((stackOf s st).mode = .online)

/-- Whether a stack is under evacuation: a live evacuation names banks of it. No move chooses it as its destination (R202). -/
def underEvac (s : State) (st : Nat) : Bool :=
  s.tier.ops.any (fun o => match o.2.kind with
    | .evacuate a _ _ _ => a == st
    | _ => false)

/-- Sectors per bank that can be allocated, and pages per stack. -/
def bankSectors : Nat := 63488
def stackPages : Nat := 1015808

/-- The sector positions that a location in use takes in a bank: first and number (R242, R243). -/
def locSectors (st bank : Nat) : Loc → Option (Nat × Nat)
  | .t0 a b f true => if a = st ∧ b = bank then some (f, 16) else none
  | .t0 a b f false => if a = st ∧ b = bank / 16 * 16 then some (f, 1) else none
  | _ => none

/-- The sector positions in use in a bank. -/
def bankUsed (s : State) (st bank : Nat) : List (Nat × Nat) := s.tier.t0used.filterMap (locSectors st bank)

/-- The frames that are not free in all 16 banks of a group: those of its interleaved pages and of bank-local pages in its banks. -/
def groupUsed (s : State) (st g : Nat) : List (Nat × Nat) :=
  s.tier.t0used.filterMap (fun l => match l with
    | .t0 a b f true => if a = st ∧ b / 16 = g then some (f, 16) else none
    | .t0 a b f false => if a = st ∧ b = 16 * g then some (f, 1) else none
    | _ => none)

/-- The lowest `n`-aligned position from `at_` on at which `n` positions are free of all those in use. -/
def lowestRoom (used : List (Nat × Nat)) (n : Nat) : Nat → Nat → Nat
  | 0, at_ => at_
  | fuel + 1, at_ =>
    if used.any (fun u => u.1 < at_ + n && at_ < u.1 + u.2) then lowestRoom used n fuel (at_ + n) else at_

/-- The lowest frame that is free in all 16 banks of a group (DESIGN CHOICE, log entry 103). -/
def freeFrame (s : State) (st g : Nat) : Option Nat :=
  let used := groupUsed s st g
  let f := lowestRoom used 1 (16 * used.length) 0
  if f < bankSectors then some f else none

/-- The highest run of 16 free sectors of a bank on a 64 KiB boundary (DESIGN CHOICE, log entry 103). -/
def freeRun (s : State) (st bank : Nat) : Option Nat :=
  let used := (bankUsed s st bank).map (fun u => (bankSectors - u.1 - u.2, u.2))
  let f := lowestRoom used 16 used.length 0
  if f < bankSectors then some (bankSectors - 16 - f) else none

/-- Whether a group has a free sector in all of its 16 banks, none of them closed. -/
def groupFree (s : State) (st g : Nat) : Bool :=
  (List.range 16).all (fun i => !bankClosed s st (16 * g + i)) && (freeFrame s st g).isSome

/-- Free pages of a stack (STACK_STATUS.FREE_PAGES). -/
def stackFree (s : State) (st : Nat) : Nat :=
  stackPages - (s.tier.t0used.filter (fun l => match l with
    | .t0 a _ _ _ => a == st
    | _ => false)).length

/-- The next of `xs` after `last` in rotation. -/
def rotate (xs : List Nat) (last : Nat) : Option Nat :=
  match xs.find? (fun x => last < x) with
  | some x => some x
  | none => xs.head?

/-- Stacks of a mask that can take an interleaved page. -/
def t0Stacks (s : State) (mask : Nat) : List Nat :=
  (List.range 12).filter (fun st => maskHas mask st && stackOnline s st && (List.range 16).any (groupFree s st))

/-- Put a T0 location in use. -/
def useT0 (s : State) (l : Loc) : State := { s with tier := { s.tier with t0used := l :: s.tier.t0used } }

/-- Take an interleaved frame in a stack, its group by rotation (R242). -/
def takeFrame (s : State) (st : Nat) : Option (Loc × State) :=
  match rotate ((List.range 16).filter (groupFree s st)) (tblGet s.tier.grpRot st 15) with
  | none => none
  | some g =>
    match freeFrame s st g with
    | none => none
    | some f =>
      let l : Loc := .t0 st (16 * g) f false
      some (l, useT0 { s with tier := { s.tier with grpRot := tblPut s.tier.grpRot st g } } l)

/-- Take an interleaved page in one of some stacks, by rotation (R191). -/
def takeOn (s : State) (among : List Nat) : Option (Loc × State) :=
  match rotate among s.tier.t0rot with
  | none => none
  | some st =>
    match takeFrame s st with
    | some (l, s) => some (l, { s with tier := { s.tier with t0rot := st } })
    | none => none

/-- Take an interleaved page in T0, its stack by rotation over the mask (R191). -/
def takeT0 (s : State) (mask : Nat) : Option (Loc × State) := takeOn s (t0Stacks s mask)

/-- Take the destination of a move in T0: no stack under evacuation (R202). -/
def moveT0 (s : State) (mask : Nat) : Option (Loc × State) := takeOn s ((t0Stacks s mask).filter (fun st => !underEvac s st))

/-- Pages that a bank can still take in bank-local layout (R243): aligned runs of 16 sectors free of both layouts. -/
def bankRoom (s : State) (st bank : Nat) : Nat :=
  3968 - (((bankUsed s st bank).map (fun u => u.1 / 16)).eraseDups).length

/-- Take a bank-local page in a bank. -/
def takeBank (s : State) (st bank : Nat) : Option (Loc × State) :=
  match freeRun s st bank with
  | none => none
  | some f =>
    let l : Loc := .t0 st bank f true
    some (l, useT0 s l)

/-! ## T1 (R192, R224) -/

/-- Trays in use, by tray port. -/
def trays (s : State) : List Nat := s.tier.t1cap.map (·.1)
/-- Tray ports by number: bit `i` of a tray mask stands for the `i`-th (assumption log, entry 9). -/
def trayPorts (s : State) : List Nat := (List.range 128).filter (isTray s)
def trayIndex (s : State) (p : Nat) : Nat := (trayPorts s).idxOf p
def trayFree (s : State) (p : Nat) : Nat := tblGet s.tier.t1cap p 0 - tblGet s.tier.t1used p 0

/-- Trays of a mask with room for a page: its raw size and its header, 257 units. -/
def t1Trays (s : State) (mask : Nat) : List Nat :=
  (trays s).filter (fun p => maskHas mask (trayIndex s p) && decide (257 ≤ trayFree s p))

/-- Take units in a tray. -/
def takeUnits (s : State) (p n : Nat) : Loc × State :=
  let at_ := tblGet s.tier.t1next p 0
  (.t1 p at_ n, { s with tier := { s.tier with
    t1used := tblPut s.tier.t1used p (tblGet s.tier.t1used p 0 + n)
    t1next := tblPut s.tier.t1next p (at_ + n) } })

/-- Take room for a page in T1, its tray by rotation over the mask (R191): 257 units, of which those that its blocks do not need go back
once it is encoded (`fitPage`). -/
def takeT1 (s : State) (mask : Nat) : Option (Loc × State) :=
  match rotate (t1Trays s mask) s.tier.t1rot with
  | none => none
  | some p =>
    let (l, s) := takeUnits s p 257
    some (l, { s with tier := { s.tier with t1rot := p } })

/-! ## T2 (R193) -/

def donorValid (s : State) (d : Nat) : Bool := flag s (0x30100 + 16 * d) 63
def donorBase (s : State) (d : Nat) : Nat := fld s (0x30100 + 16 * d) 0 60
def donorPages (s : State) (d : Nat) : Nat := fld s (0x30108 + 16 * d) 0 48 / 65536

/-- Whether the switch of a donor is fenced (R489). -/
def donorFenced (s : State) (d : Nat) : Bool := switchFenced s (donorBase s d / 2 ^ 48)

/-- The lowest of `n` pages of a donor that is not in use. -/
def freeDonorPage (s : State) (d : Nat) : Nat → Nat → Option Nat
  | 0, _ => none
  | n + 1, i => if s.tier.t2used.contains (.t2 d i) then freeDonorPage s d n (i + 1) else some i

/-- The first free page of a donor in use. -/
def donorRoom (s : State) (d : Nat) : Option Nat :=
  if donorValid s d && !donorFenced s d then freeDonorPage s d (Nat.min (donorPages s d) (s.tier.t2used.length + 1)) 0 else none

/-- Take a donor page: the lowest free page of the lowest donor that is valid, not fenced and has one. The spec gives no order (DESIGN CHOICE,
log entry 103). -/
def takeT2 (s : State) : Option (Loc × State) :=
  match (List.range 16).findSome? (fun d => (donorRoom s d).map (Loc.t2 d)) with
  | some l => some (l, { s with tier := { s.tier with t2used := l :: s.tier.t2used } })
  | none => none

/-- Take a location in a tier. -/
def takeLoc (s : State) (t : Tier) (stackMask trayMask : Nat) : Option (Loc × State) :=
  match t with
  | .t0 => takeT0 s stackMask
  | .t1 => takeT1 s trayMask
  | .t2 => takeT2 s

/-- Take the destination of a move in a tier (R202). -/
def moveLoc (s : State) (t : Tier) (stackMask trayMask : Nat) : Option (Loc × State) :=
  match t with
  | .t0 => moveT0 s stackMask
  | .t1 => takeT1 s trayMask
  | .t2 => takeT2 s

/-- Give a location back. -/
def freeLoc (s : State) (l : Loc) : State :=
  match l with
  | .t0 .. => { s with tier := { s.tier with t0used := s.tier.t0used.erase l } }
  | .t1 p _ n => { s with tier := { s.tier with t1used := tblPut s.tier.t1used p (tblGet s.tier.t1used p 0 - n) } }
  | .t2 .. => { s with tier := { s.tier with t2used := s.tier.t2used.erase l } }

/-! ## Pages stored in CX-P (R192, R219, R224, R225) -/

/-- A block of a backing page as T1 stores it: header and payload. -/
def t1Block (s : State) (id blk : Nat) : BHdr × List Byte := cxpBlock (sectorNow s id blk)

/-- The units of each block of a page. -/
def pageUnits (s : State) (id : Nat) : List Nat := (List.range 16).map (fun b => (t1Block s id b).1.units)

/-- A page as its tray stores it: the unit of the 16 block headers, then the payloads in order (R224). -/
def t1Image (s : State) (id : Nat) : List Byte :=
  let bs := (List.range 16).map (t1Block s id)
  bs.flatMap (fun b => hdrBytes b.1) ++ bs.flatMap (·.2)

/-- Count encoded blocks (counters 1 to 3). -/
def noteEncoded (s : State) (hs : List BHdr) : State :=
  let s := bumpBy s (cmpCnt 1) (hs.filter (fun h => !h.zero)).length
  let s := bumpBy s (cmpCnt 2) (hs.filter (·.esc)).length
  bumpBy s (cmpCnt 3) (hs.filter (·.zero)).length

/-- A block is decoded without its payload once every line of it is marked poisoned (R237). -/
def blockDead (ls : List (Line × Bool)) : Bool := ls.all (·.2)

/-- Count the blocks of a page that a move out of T1 decodes (counter 0). -/
def noteDecoded (s : State) (id : Nat) (blks : List Nat) : State :=
  bumpBy s (cmpCnt 0) (blks.filter (fun b => !blockDead (sectorNow s id b))).length

/-- A location in T1 cut down to the units that its blocks need. -/
def fitUnits (s : State) (l : Loc) (n : Nat) : Loc × State :=
  match l with
  | .t1 p at_ m => (.t1 p at_ n, { s with tier := { s.tier with t1used := tblPut s.tier.t1used p (tblGet s.tier.t1used p 0 - m + n) } })
  | _ => (l, s)

/-- Cut a page in T1 down to the units that its blocks need (R192, R224). -/
def trimPage (s : State) (id : Nat) : State :=
  match backById s id with
  | none => s
  | some b =>
    if locTier b.loc = .t1 then
      let (l, s) := fitUnits s b.loc (1 + (pageUnits s id).sum)
      setBack s id { b with loc := l }
    else s

/-- Encode a page that has been put into T1, and give back the units that it does not need. -/
def fitPage (s : State) (id : Nat) : State :=
  if (backById s id).any (fun b => locTier b.loc == .t1) then
    trimPage (noteEncoded s ((List.range 16).map (fun k => (t1Block s id k).1))) id
  else s

/-- Encode blocks of a backing copy in T1 (R211, R224). A changed number of units moves the copy to new units of a tray with room; `none` where
none has any. -/
def fitCopy (s : State) (page id : Nat) (blks : List Nat) : Option State :=
  match backById s id with
  | none => some s
  | some b =>
    match b.copy with
    | some (.t1 p at_ n) =>
      let old := if b.copyUnits.length = 16 then b.copyUnits else List.replicate 16 0
      let hs := blks.map (fun k => (k, (t1Block s id k).1))
      let new := hs.foldl (fun us h => us.set h.1 h.2.units) old
      let s := noteEncoded s (hs.map (·.2))
      let m := 1 + new.sum
      if m = n ∨ b.copyUnits.length ≠ 16 then
        let (l, s) := fitUnits s (.t1 p at_ n) m
        some (setBack s id { b with copy := some l, copyUnits := new })
      else
        let tray := if 257 ≤ trayFree s p then some p else rotate (t1Trays s (placeOf s page).trayMask) p
        match tray with
        | none => none
        | some q =>
          let (l, s) := takeUnits s q m
          some (bump (freeLoc (setBack s id { b with copy := some l, copyUnits := new }) (.t1 p at_ n)) (cmpCnt 7))
    | _ => some s

/-- Write a line of a T1 page: its block is decoded, the line merged, and the block encoded again. When its units change, the page is
rewritten to new units, on its tray or another of its mask, and the old ones are freed after. `none`: no tray has room (R225). -/
def t1Fit (s : State) (line : Nat) (d : Line) (poison : Bool) : Option State :=
  match backIdOf s (line / 1024) with
  | none => some s
  | some id =>
    match backById s id with
    | none => some s
    | some b =>
      match b.loc with
      | .t1 p at_ n =>
        if b.lost then some s
        else
          let old := sectorNow s id (line % 1024 / 64)
          let was := (cxpBlock old).1
          let h := (cxpBlock (old.set (line % 64) (d, poison))).1
          let m := n - was.units + h.units
          let note (s : State) : State := noteEncoded (if blockDead old then s else bump s (cmpCnt 0)) [h]
          if h.units = was.units then some (note s)
          else
            let tray := if 257 ≤ trayFree s p then some p else rotate (t1Trays s (placeOf s (line / 1024)).trayMask) p
            match tray with
            | none => none
            | some q =>
              let (l, s) := takeUnits s q m
              some (bump (note (freeLoc (setBack s id { b with loc := l }) (.t1 p at_ n))) (cmpCnt 7))
      | _ => some s

/-- Write a line of a T1 page whose data can no longer be refused: a WbDirty, a snoop's data, the exit write of a Far line. Where no tray has
room, the page keeps its old content and the line is marked poisoned (DESIGN CHOICE, log entry 102). The line and the mark to store. -/
def t1Keep (s : State) (line : Nat) (d : Line) (poison : Bool) : (Line × Bool) × State :=
  match t1Fit s line d poison with
  | some s => ((d, poison), s)
  | none => (((newestLine s line).1, true), bump s (cmpCnt 8))

/-! ## Allocation (R84) -/

def tierNo : Tier → Nat
  | .t0 => 0 | .t1 => 1 | .t2 => 2

def tierOfNo (n : Nat) : Tier := if n = 0 then .t0 else if n = 1 then .t1 else .t2

def tierAllowed (x : Extent) (t : Tier) : Bool := x.tiers.getLsbD (tierNo t)

/-- The tiers an allocation tries: the initial tier, then each lower allowed tier. -/
def tierOrder (x : Extent) : List Tier :=
  x.initTier :: [Tier.t0, Tier.t1, Tier.t2].filter (fun t => tierNo x.initTier < tierNo t && tierAllowed x t)

/-- Find quota and a location for a page of an extent. -/
def findLoc (s : State) (x : Extent) (page : Nat) : List Tier → Option (Loc × State)
  | [] => none
  | t :: ts =>
    let pr := placeOf s page
    if quotaRoom s x.owner t 1 then
      match takeLoc s t pr.stackMask pr.trayMask with
      | some r => some r
      | none => findLoc s x page ts
    else findLoc s x page ts

/-- Make a new backing page for a pool page's content. -/
def newBack (s : State) (loc : Loc) (charge : Key) (sectors : BitVec 16) : Nat × State :=
  let id := s.pool.nextBack
  (id, { s with pool := { s.pool with
    backs := tblPut s.pool.backs id { loc := loc, charge := charge, sectors := sectors }, nextBack := id + 1 } })

def setPage (s : State) (page id : Nat) : State := { s with pool := { s.pool with pages := tblPut s.pool.pages page id } }
def dropPage (s : State) (page : Nat) : State := { s with pool := { s.pool with pages := tblErase s.pool.pages page } }

/-- Allocate a page under R84: all sectors ZERO. `none` when no tier passes. -/
def allocPage (s : State) (page : Nat) (x : Extent) : Option State :=
  match findLoc s x page (tierOrder x) with
  | none => none
  | some (l, s) =>
    let (id, s) := newBack s l x.owner 0
    some (fitPage (setPage s page id) id)

/-- Whether a write to this page of the extent finds a location (R65 step 4): it is allocated, or can be. -/
def writable (s : State) (page : Nat) (x : Extent) : Bool :=
  match backAt s page with
  | some b => !b.lost || (findLoc s x page (tierOrder x)).isSome
  | none => (findLoc s x page (tierOrder x)).isSome

/-- Give a lost page a new location: every line of it is stored poisoned (R489). -/
def revivePage (s : State) (page id : Nat) (b : Back) (x : Extent) : Option State :=
  match findLoc s x page (tierOrder x) with
  | none => none
  | some (l, s) =>
    let s := setBack s id { b with loc := l, lost := false, sectors := 0xFFFF, charge := x.owner }
    let all := (List.range 1024).map (fun i => id * 1024 + i)
    some (fitPage { s with pool := { s.pool with poisonLines := all ++ s.pool.poisonLines.filter (fun k => k / 1024 != id) } } id)

/-- The extent whose setting governs a write to an offset: the one that its check found (R14, R69), else the one in force. -/
def settingAt (s : State) (xs : List Extent) (off : Nat) : Option Extent :=
  (xs.find? (fun x => x.base ≤ off && off < x.base + x.len)).or (extentAt s off)

/-- Make sure the page of a written offset has a location (R58, R489), under the extents `xs` that the write was checked under; the owner of
the extent whose write allocates it is charged (R63). `none`: OVER_QUOTA. -/
def ensureFor (s : State) (xs : List Extent) (off : Nat) : Option State :=
  match backAt s (pageOf off), settingAt s xs off with
  | some b, some x =>
    if b.lost then (backIdOf s (pageOf off)).bind (fun id => revivePage s (pageOf off) id b x) else some s
  | some _, none => some s
  | none, some x => allocPage s (pageOf off) x
  | none, none => none

/-- An access of any kind sets its page's age to 0 (R61). -/
def touchAge (s : State) (off : Nat) : State :=
  match backIdOf s (pageOf off) with
  | none => s
  | some id =>
    match backById s id with
    | some b => setBack s id { b with age := 0 }
    | none => s

/-! ## Freeing (R79) -/

/-- Whether some page, version, draft or copy still names a backing page (R171). -/
def backUsed (s : State) (id : Nat) : Bool :=
  s.pool.pages.any (fun e => e.2 == id) ||
  s.obj.shelves.any (fun e => e.2.versions.any (fun v => v.2.any (fun p => p.2 == id)) ||
    e.2.slots.any (fun l => l.2.privs.any (fun p => p.2 == id)) ||
    e.2.queue.any (fun q => q.newPages.any (fun p => p.2 == id))) ||
  s.obj.cows.any (fun c => c.dst == id || c.src == some id)

/-- Put a backing page that nothing names any more on the scrub list; its charge ends. -/
def releaseBack (s : State) (id : Nat) : State :=
  if backUsed s id || s.pool.scrub.contains id then s
  else match backById s id with
    | some b =>
      let s := setBack s id { b with charge := 0 }
      { s with pool := { s.pool with scrub := s.pool.scrub ++ [id] } }
    | none => s

/-- Drop the backing copy of a page. -/
def dropCopy (s : State) (id : Nat) : State :=
  match backById s id with
  | some b =>
    match b.copy with
    | some l => freeLoc (setBack s id { b with copy := none, copyUnits := [], dirty := 0, dirtySince := [] }) l
    | none => s
  | none => s

/-- Mark a page lost (R489), or let its clean backing copy become the page; dirty sectors then read poisoned (R195). -/
def loseBack (s : State) (id : Nat) : State :=
  match backById s id with
  | none => s
  | some b =>
    match b.copy with
    | some l =>
      let bad : List Nat := (List.range 1024).filter (fun i => b.dirty.getLsbD (i / 64))
      let s := setBack s id { b with loc := l, copy := none, copyUnits := [], dirty := 0, dirtySince := [], pin := b.pin, moving := false }
      let keys := bad.map (fun i => id * 1024 + i)
      { s with pool := { s.pool with poisonLines := keys ++ s.pool.poisonLines.filter (fun k => !keys.contains k) } }
    | none => setBack s id { b with lost := true, moving := false }

end Sys2Proof.Machine
end

