-- ==== Sys2Proof/Machine/ObjOps.lean ====
section
/-! DEFINITION. What shelves and drawers mean for requests: the object check (07, R167, R168, R181), lines granted S only,
and the page copy of a draft's first write (R172); and which lines an engine holds. -/

namespace Sys2Proof.Machine

/-- The shelf and slot index of an offset. -/
def shelfAt (s : State) (off : Nat) : Option (Nat × Shelf × Nat) :=
  (s.obj.shelves.find? (fun e => e.2.base ≤ off && off < e.2.base + e.2.size * e.2.slotCount)).map
    (fun e => (e.1, e.2, (off - e.2.base) / e.2.size))

def slotOf (x : Shelf) (k : Nat) : Slot := tblGet x.slots k {}

def setShelf (s : State) (i : Nat) (x : Shelf) : State :=
  { s with obj := { s.obj with shelves := tblPut s.obj.shelves i x } }

def setSlot (s : State) (i k : Nat) (l : Slot) : State :=
  { s with obj := { s.obj with shelves := tblUpd s.obj.shelves i (fun x => { x with slots := tblPut x.slots k l }) } }

/-- The drawer of an offset. -/
def drawerAt (s : State) (off : Nat) : Option (Nat × Drawer) :=
  s.obj.drawers.find? (fun e => e.2.st != .free && e.2.base ≤ off && off < e.2.base + e.2.len)

/-- Requests that count as writes (R58). -/
def isWriteKind : ReqKind → Bool
  | .rdNC => false
  | .rdShared => false
  | _ => true

/-- The object check: the refusal status, if any (R168, R181). -/
def objectCheck (s : State) (key : Key) (write : Bool) (off : Nat) : Option Status :=
  match shelfAt s off with
  | some (_, x, k) =>
    let l := slotOf x k
    match l.st with
    | .free => some .busy
    | .closing => some .busy
    | .view => if write then some .keyReject else none
    | .draft => if write && l.writer != key then some .notOwner else none
    | .publishing => if write then (if l.writer = key then some .busy else some .notOwner) else none
  | none =>
    match drawerAt s off with
    | none => none
    | some (_, d) =>
      match d.st with
      | .owned => if d.owner = key then none else some .notOwner
      | .inTransit =>
        if d.offerer = some key ∨ d.target = some key then (if write then some .busy else none) else some .notOwner
      | .releasing => some .busy
      | .free => none

/-- Whether a RdShared to the offset may be granted S only (R168, R183). DEDUCED: a page of a draft that has no backing page
is the draft's base's, not its own. -/
def sharedOnly (s : State) (off : Nat) : Bool :=
  match shelfAt s off with
  | some (_, x, k) =>
    let l := slotOf x k
    let idx := (off - x.base) % x.size / 65536
    match l.st with
    | .view => true
    | .draft => !tblHas l.privs idx
    | .publishing => !tblHas l.privs idx
    | _ => false
  | none =>
    match drawerAt s off with
    | some (_, d) => d.st == .inTransit
    | none => false

/-- What a write to a line needs of its page: the page is there, the write must wait for a page copy, or no tier can take
the page. -/
inductive PageReady where
  | ok (s : State)
  | wait (s : State)
  | quota

/-- Start the copy of a shared backing page into a page of the draft's own (R172). -/
def cowStart (s : State) (xs : List Extent) (off i k idx : Nat) (src : Nat) : PageReady :=
  if s.obj.cows.any (fun c => c.page == pageOf off) then .wait s
  else match backById s src, settingAt s xs off with
    | some _, some x =>
      match findLoc s x (pageOf off) (tierOrder x) with
      | none => .quota
      | some (l, s) =>
        let (dst, s) := newBack s l x.owner 0
        .wait { s with obj := { s.obj with cows := s.obj.cows ++ [⟨pageOf off, i, k, idx, some src, dst⟩] } }
    | _, _ => .quota

/-- Make the page of an offset ready for a write checked under the extents `xs` (R58, R69, R172, R489). -/
def readyForWrite (s : State) (xs : List Extent) (off : Nat) : PageReady :=
  match shelfAt s off with
  | some (i, x, k) =>
    let l := slotOf x k
    let idx := (off - x.base) % x.size / 65536
    match backIdOf s (pageOf off) with
    | some src =>
      if tblHas l.privs idx then
        match ensureFor s xs off with
        | some s => .ok s
        | none => .quota
      else cowStart s xs off i k idx src
    | none =>
      match ensureFor s xs off with
      | some s =>
        match backIdOf s (pageOf off) with
        | some id => .ok (setSlot s i k { l with privs := tblPut l.privs idx id })
        | none => .ok s
      | none => .quota
  | none =>
    match ensureFor s xs off with
    | some s => .ok s
    | none => .quota

/-- Whether a request to a line must wait for an engine: its page awaits a lazy fill (R209), is being copied (R172), or
the line lies in the sets of a BAU sequence (R281). -/
def lineHeld (s : State) (line : Nat) (write : Bool) : Bool :=
  let page := line / 1024
  tblHas s.tier.awaiting page || s.obj.cows.any (fun c => c.page == page) ||
  s.coh.holds.any (fun h => h.lo ≤ line * 64 && line * 64 < h.hi && (h.lock || write))

/-- A touched page that awaits a lazy fill moves to level 2 (R209). -/
def touchLazy (s : State) (page : Nat) : State :=
  match tblFind s.tier.awaiting page with
  | some (op, false) => bump { s with tier := { s.tier with awaiting := tblPut s.tier.awaiting page (op, true) } } (winchCnt 6)
  | some (_, true) => bump s (winchCnt 6)
  | none => s

end Sys2Proof.Machine
end

