-- ==== Sys2Proof/Machine/Routes.lean ====
section
/-! DEFINITION. Bridles, path tables, tethers and the route of what this device injects (14, R341 to R358). -/

namespace Sys2Proof.Machine

/-! ## Bridles (R341, R349, R353, R358) -/

/-- Fields of a bridle. -/
def bPort (b : Word) (i : Nat) : Nat := bitsOf b.toNat (8 * i) 7
def bLast (b : Word) (i : Nat) : Bool := bitsOf b.toNat (8 * i + 7) 1 == 1
def bNext (b : Word) : Nat := bitsOf b.toNat 56 3
def bCount (b : Word) : Nat := bitsOf b.toNat 59 3
def bDesc (b : Word) : Bool := bitsOf b.toNat 62 1 == 1
def bTether (b : Word) : Bool := bitsOf b.toNat 63 1 == 1

/-- A bridle is well formed but for NEXT and DESC, which switches advance (R341). -/
def bridleShape (b : Word) : Bool :=
  decide (1 ≤ bCount b) &&
  (List.range 7).all (fun i => (bLast b i == decide (i + 1 = bCount b)) &&
    (decide (i < bCount b) || bitsOf b.toNat (8 * i) 8 == 0))

/-- A bridle is well formed as an ingress edge switch writes it (R341). -/
def bridleWf (b : Word) : Bool := bridleShape b && bNext b == 0 && !bDesc b

/-- The slot of a flow (R349). -/
def flowSlot (seed src dsw part tc otag : Nat) (mask : BitVec 8) : Nat :=
  let w := src ||| dsw <<< 16 ||| part <<< 28 ||| tc <<< 32 ||| otag <<< 35
  let h := (crc32c (natBytes 8 w) ^^^ seed) % 8
  ((List.range 8).map (fun i => (h + i) % 8)).find? (fun i => mask.getLsbD i) |>.getD h

/-- The bridle that a path table gives a flow; none where it has no path. -/
def tableBridle (seed : Nat) (paths : Tbl PathEntry) (src dsw part tc otag : Nat) : Option Word :=
  match tblFind paths dsw with
  | none => none
  | some e => if e.mask = 0 then none else e.bridles[flowSlot seed src dsw part tc otag e.mask]?

def hashSeed (s : State) : Nat := fld s 0x33000 32 32

/-- Whether a tether carries a flow by its fields (R358). -/
def tetherFits (t : Tether) (src : Endpoint) (tc dsw : Nat) (dst : Option Endpoint) : Bool :=
  t.master && t.src == src && t.tc == tc && (if t.home then t.dsw == dsw && dst.isNone else dst == some t.dst)

/-- The bridle of a tether's packets (R358). -/
def tetherBridle (t : Tether) : Word := t.bridle ||| (1 : Word) <<< 63

/-- The tether that a packet rides: an ACTIVE one that it matches, or one whose opening has begun its switch-over (R358, R359). -/
def tetherFor (s : State) (src : Endpoint) (tc : Nat) (dsw : Nat) (dst : Option Endpoint) : Option Tether :=
  s.route.tethers.find? (fun t => tetherFits t src tc dsw dst && (t.st == .active || (t.st == .opening && t.moving)))

/-- The bridle of a packet at its injection: its tether's, or that of the path table (R349, R358). -/
def bridleFor (s : State) (src : Endpoint) (dsw part tc otag : Nat) (dst : Option Endpoint) : Option Word :=
  match tetherFor s src tc dsw dst with
  | some t => some (tetherBridle t)
  | none => tableBridle (hashSeed s) s.route.paths src.toNat dsw part tc otag

/-- The bridle that a moved stream rode before a switch-over still under way, with the owner of that switch-over's markers: 0 for
PATH_UPDATE, 1 + ID for a tether (R352, R353, R359). -/
def oldBridle (s : State) (src : Endpoint) (dsw part tc otag : Nat) (dst : Option Endpoint) : Option (Word × Nat) :=
  let table := tableBridle (hashSeed s) s.route.paths src.toNat dsw part tc otag
  match s.route.tethers.find? (fun t => tetherFits t src tc dsw dst && t.moving) with
  | some t => if t.st = .closing then some (tetherBridle t, t.id + 1) else table.map (fun b => (b, t.id + 1))
  | none =>
    if (tetherFor s src tc dsw dst).isSome || s.route.pathOp.isNone then none
    else match tableBridle (hashSeed s) s.route.oldPaths src.toNat dsw part tc otag with
      | none => none
      | some b => if table = some b then none else some (b, 0)

/-- Whether an endpoint is one of the 64 logical Trestle units of this device (R301, R339). -/
def isUnitEp (s : State) (e : Endpoint) : Bool :=
  let base := fld s trestleBase 0 16
  decide (base ≤ e.toNat ∧ e.toNat < base + 64)

/-- The island that injects a flow (R349): the port of a host, the device's agents, the Trestle units, else the home partition that sends to a remote
endpoint. -/
def islandOf (s : State) (src : Endpoint) (part : Nat) : Nat :=
  match epPort s src with
  | some p => p
  | none => if src == devEp s then 144 else if isUnitEp s src then 145 else 128 + part

/-- The marker that holds back a moved stream's new packets, for the lossless classes (R353). -/
def heldMarker (s : State) (src : Endpoint) (dsw part tc otag : Nat) (dst : Option Endpoint) : Option Marker :=
  if tc < 4 then none
  else match oldBridle s src dsw part tc otag dst with
    | none => none
    | some (b, own) => s.route.markers.find? (fun m => m == ⟨b, tc, own, islandOf s src part⟩)

/-- Send something of a flow other than a request: held behind a marker, out of the first port of its bridle, or discarded and
counted where it has no path (R349, R353). -/
def sendFlow (s : State) (src : Endpoint) (dsw part tc otag : Nat) (dst : Option Endpoint) (e : Nat → Emit) : State :=
  match bridleFor s src dsw part tc otag dst with
  | none => bump s (routeCnt 3)
  | some b =>
    match heldMarker s src dsw part tc otag dst with
    | some m => bump { s with route := { s.route with heldOut := s.route.heldOut ++ [(m, e (bPort b 0))] } } (routeCnt 2)
    | none => emit s (e (bPort b 0))

/-- Where an endpoint lies, as the endpoint directory has it (R340): this device, another switch, or unknown. -/
inductive EpWhere where
  | here
  | on (sw : Nat)
  | nowhere
  deriving DecidableEq, Repr

/-- Look an endpoint up: the device's own endpoints are its host ports, its own agents and its 64 logical Trestle units. -/
def epWhere (s : State) (e : Endpoint) : EpWhere :=
  if (epPort s e).isSome || e == devEp s || isUnitEp s e then .here
  else match tblFind s.route.eps e.toNat with
    | some x => .on x.switch
    | none => .nowhere

/-- Send a TC7 message of a home partition to an endpoint (R339, R340, R349): to its port here, or on a bridle. -/
def sendTc7 (s : State) (part : Nat) (dst : Endpoint) (here : Nat) (e : Nat → Emit) : State :=
  match epWhere s dst with
  | .here => emit s (e here)
  | .on sw => sendFlow s dst sw part 7 0 (some dst) e
  | .nowhere => bump s (routeCnt 3)

/-- Send a message to the agents of another switch in TC4, on this switch's own path. -/
def sendSwitch (s : State) (sw : Nat) (what : String) (fields : List Nat) : State :=
  sendFlow s (devEp s) sw 0 4 0 none (fun p => .send p what (sw :: fields))

/-- Whether this device can reach a switch: it is not fenced and has a path (R349). -/
def reachable (s : State) (sw : Nat) : Bool :=
  !switchFenced s sw && (bridleFor s (devEp s) sw 0 4 0 none).isSome

end Sys2Proof.Machine
end

