-- ==== Sys2Proof/Machine/Coh.lean ====
section
/-! DEFINITION. Operations of the home agent partitions (04): partition and filter set of a line, holders, blocking,
snoops, completions and the progress of a transaction. -/

namespace Sys2Proof.Machine

/-! ## Lines, partitions, sets -/

/-- The home agent partition of a pool offset (R88). -/
def partOf (off : Nat) : Nat :=
  (List.range 10).foldl (fun h i => h ^^^ bitsOf off (6 + 4 * i) 4) 0 ^^^ bitsOf off 46 2

def linePart (line : Nat) : Nat := partOf (line * 64)

/-- The filter set of a line (R94). -/
def filterSet (line : Nat) : Nat := (line ^^^ (line * 64 / 2 ^ 24)) % 2 ^ 18

/-- The pool line that a request names. -/
def reqLine (r : Req) : Nat := r.addr.toNat % 2 ^ 48 / 64
def reqPart (r : Req) : Nat := linePart (reqLine r)

def dirAt (s : State) (line : Nat) : Option DirEntry := tblFind s.coh.dir line
def setDir (s : State) (line : Nat) (e : DirEntry) : State := { s with coh := { s.coh with dir := tblPut s.coh.dir line e } }
def dropDir (s : State) (line : Nat) : State := { s with coh := { s.coh with dir := tblErase s.coh.dir line } }
def setTrans (s : State) (line : Nat) (t : Trans) : State :=
  { s with coh := { s.coh with trans := tblPut s.coh.trans line t } }
def dropTrans (s : State) (line : Nat) : State := { s with coh := { s.coh with trans := tblErase s.coh.trans line } }
def setHot (s : State) (line : Nat) (h : Hot) : State := { s with atm := { s.atm with hot := tblPut s.atm.hot line h } }

/-- The mode of a line (R147). -/
def farMode (s : State) (line : Nat) : FarMode := ((hotAt s line).map (·.mode)).getD .near

/-- Whether a line is Blocked (R98, R148): a transaction holds it, or it is ENTERING or LEAVING. -/
def lineBlocked (s : State) (line : Nat) : Bool :=
  (transAt s line).isSome || farMode s line == .entering || farMode s line == .leaving

/-- Trackers in use in a partition (R90). -/
def trackersBusy (s : State) (part : Nat) : Nat :=
  (s.coh.trans.filter (fun e => e.2.tracker && linePart e.1 == part)).length
def trackerFree (s : State) (part : Nat) : Bool := decide (trackersBusy s part < 4096)

/-! ## Holders and the registry (R94, R95) -/

def registered (s : State) (part ep : Nat) : Bool := tblGet s.coh.registry (part * 65536 + ep) false
/-- Whether a partition has marked an endpoint fenced (R109). -/
def epFenced (s : State) (part : Nat) (e : Endpoint) : Bool :=
  tblFind s.coh.registry (part * 65536 + e.toNat) == some false
def register (s : State) (part : Nat) (e : Endpoint) : State :=
  if epFenced s part e then s
  else { s with coh := { s.coh with registry := tblPut s.coh.registry (part * 65536 + e.toNat) true } }

/-- Registered endpoints of a partition. -/
def registry (s : State) (part : Nat) : List Endpoint :=
  (s.coh.registry.filter (fun e => e.2 && e.1 / 65536 == part)).map (fun e => BitVec.ofNat 16 (e.1 % 65536))

/-- Recorded holders: precise ones, or every registered endpoint of the coarse groups; the ring as one. -/
def holders (s : State) (line : Nat) (e : DirEntry) : List Holder :=
  let eps := match e.coarse with
    | some v => (registry s (linePart line)).filter (fun (x : Endpoint) => v.getLsbD (x.toNat / 1024))
    | none => e.precise.filter (fun x => !epFenced s (linePart line) x)
  eps.map .ep ++ (if e.ring then [.ring] else [])

/-- The owner of an E or M entry. -/
def ownerOf (e : DirEntry) : Option Holder :=
  if e.st = .s then none else if e.ring then some .ring else e.precise.head?.map .ep

/-- Whether an endpoint is that of a ring member: a logical Trestle unit, or the device's own agents (R106, R339). -/
def ringEp (s : State) (e : Endpoint) : Bool :=
  let base := fld s trestleBase 0 16
  (epPort s e).isNone && (e == devEp s || decide (base ≤ e.toNat ∧ e.toNat < base + 64))

/-- An endpoint as a holder: the ring counts as one (R106). -/
def epHolder (s : State) (e : Endpoint) : Holder := if ringEp s e then .ring else .ep e

/-- The requester as a holder (R106). -/
def asHolder (r : Req) : Holder := if r.origin = .ring then .ring else .ep r.src

/-- An entry with one holder. -/
def oneHolder (s : State) (st : DirState) (h : Holder) : DirEntry :=
  match h with
  | .ep e => { st := st, precise := [e], age := s.coh.ageCtr }
  | .ring => { st := st, ring := true, age := s.coh.ageCtr }

/-- Add a sharer (R94): a fifth moves the entry to coarse holders. -/
def addSharer (e : DirEntry) (h : Holder) : DirEntry :=
  match h with
  | .ring => { e with st := .s, ring := true }
  | .ep x =>
    match e.coarse with
    | some v => { e with st := .s, coarse := some (v ||| (1 : BitVec 64) <<< (x.toNat / 1024)) }
    | none =>
      if e.precise.contains x then { e with st := .s }
      else if e.precise.length < 4 then { e with st := .s, precise := e.precise ++ [x] }
      else
        let v := (x :: e.precise).foldl (fun v y => v ||| (1 : BitVec 64) <<< (y.toNat / 1024)) (0 : BitVec 64)
        { e with st := .s, precise := [], coarse := some v }

/-- Remove one endpoint from an entry; `none` when no holder is left. -/
def removeHolder (e : DirEntry) (x : Endpoint) : Option DirEntry :=
  match e.coarse with
  | some _ => some e
  | none =>
    let p := e.precise.filter (· != x)
    if p.isEmpty && !e.ring then none else some { e with precise := p }

/-- Put a new entry, stamping its allocation order. -/
def newDir (s : State) (line : Nat) (e : DirEntry) : State :=
  let age := match dirAt s line with
    | some o => o.age
    | none => s.coh.ageCtr
  let s := setDir s line { e with age := age }
  { s with coh := { s.coh with ageCtr := s.coh.ageCtr + 1 } }

/-- Requests whose completion makes a filter entry. -/
def grantKind : ReqKind → Bool
  | .rdShared => true
  | .rdOwn => true
  | .atomNear => true
  | _ => false

/-- Whether two lines share a filter set (R94). -/
def sameSet (a b : Nat) : Bool := linePart a == linePart b && filterSet a == filterSet b

/-- Entries of a line's set in use: those made, and those that open grants will make (R94). -/
def setUsed (s : State) (line : Nat) : Nat :=
  (s.coh.dir.filter (fun e => sameSet e.1 line)).length +
  (s.coh.trans.filter (fun e => sameSet e.1 line && (dirAt s e.1).isNone && (match e.2.kind with
    | .req r => grantKind r.kind && !e.2.replied
    | .recalls _ _ => false))).length

/-- Whether an earlier request of the line's set waits for an entry (R97). -/
def entryWaiter (s : State) (line : Nat) (r : Req) : Bool :=
  s.coh.waitQ.any (fun x => decide (x.hseq < r.hseq) && reqLine x != line && sameSet (reqLine x) line && grantKind x.kind &&
    (dirAt s (reqLine x)).isNone && !lineBlocked s (reqLine x) && farMode s (reqLine x) == .near)

/-- Whether the filter has an entry for the line, or room for one in its set that no earlier request waits for (R94, R97). -/
def entryRoom (s : State) (line : Nat) (r : Req) : Bool :=
  (dirAt s line).isSome || (decide (setUsed s line < 16) && !entryWaiter s line r)

/-- Whether a request may take a tracker of its partition: one is free and no earlier request waits for one (R90). -/
def trackerFor (s : State) (line : Nat) (r : Req) : Bool :=
  trackerFree s (linePart line) &&
  !(s.coh.inbox ++ s.coh.waitQ).any (fun x => s.coh.starved.contains x.num && linePart (reqLine x) == linePart line && decide (x.hseq < r.hseq))

/-! ## Subtypes (R92, R149, R153) -/

/-- Flit type and subtype of a request. -/
def reqCode : ReqKind → Nat × Nat
  | .rdNC => (1, 0)
  | .rdShared => (1, 1)
  | .rdOwn => (1, 2)
  | .atomNear => (1, 3)
  | .wrLine => (2, 0)
  | .wrPtl => (3, 0)
  | .atomFar => (4, 0)
  | .atomComb => (4, 1)

/-- Subtype of a completion. -/
def cmpCode : CmpKind → Nat
  | .cmpWr => 0
  | .cmpWb => 1
  | .cmpI => 2
  | .cmpS => 3
  | .cmpE => 4
  | .cmpM => 5
  | .cmpAtom => 6
  | .gntAck => 7
  | .cmpFence => 8
  | .cmpFar => 9
  | .cmpComb => 0xA
  | .cmpErr => 0xF

/-- Subtype of a snoop. -/
def snpCode : SnpKind → Nat
  | .inv => 1
  | .shr => 2
  | .cur => 3

/-! ## Data -/

/-- Set a sticky bit of SLICE_HOME_ERR (R114). -/
def homeErr (s : State) (part bit : Nat) : State := setBit s (sliceBase part + 0x8010) bit

/-- Set the dirty bit of a backed sector at the point where the home orders a write (R194). -/
def markDirty (s : State) (line : Nat) : State :=
  match backIdOf s (line / 1024) with
  | none => s
  | some id =>
    match backById s id with
    | some b => setBack s id (dirtySector s b (line / 64 % 16))
    | none => s

/-- Write the memory copy of a line, noting poison stored (R93). -/
def storeLine (s : State) (line : Nat) (d : Line) (poison : Bool) : State :=
  let s := memLineWrite s line d poison
  if poison then homeErr s (linePart line) 3 else s

/-! ## Recalls (R104) -/

def newTag (s : State) : Nat × State := (s.coh.nextTag, { s with coh := { s.coh with nextTag := s.coh.nextTag + 1 } })

/-- Ask the recall engine for a line. -/
def queueRecall (s : State) (line : Nat) (kind : RecallKind) (tag : Nat) : State :=
  { s with coh := { s.coh with recallQ := s.coh.recallQ ++ [⟨line, kind, tag⟩] } }

/-- Queue recalls of the lines of a byte range whose filter entries satisfy `want`. -/
def queueRecalls (s : State) (lo hi : Nat) (kind : RecallKind) (tag : Nat) (want : Nat → DirEntry → Bool) : State :=
  let lines := (s.coh.dir.filter (fun e => lo ≤ e.1 * 64 && e.1 * 64 < hi && want e.1 e.2)).map (·.1)
  lines.foldl (fun s l => queueRecall s l kind tag) s

/-- Whether no recall of a tag is left. -/
def recallDone (s : State) (tag : Nat) : Bool :=
  !s.coh.recallQ.any (fun i => i.tag == tag) &&
  !s.coh.trans.any (fun e => match e.2.kind with
    | .recalls _ t => t == tag
    | .req _ => false)

def statOf (s : State) (tag : Nat) : RecallStat := tblGet s.coh.stats tag {}
def modStat (s : State) (tag : Nat) (f : RecallStat → RecallStat) : State :=
  { s with coh := { s.coh with stats := tblPut s.coh.stats tag (f (statOf s tag)) } }
def dropStat (s : State) (tag : Nat) : State := { s with coh := { s.coh with stats := tblErase s.coh.stats tag } }

/-! ## Snoops -/

/-- Whether a completion for the line to this holder is still to be issued, or one of the partition's stream to the endpoint is still to be
sent: a snoop follows it (R93). -/
def completionPending (s : State) (line : Nat) (h : Holder) : Bool :=
  s.coh.reads.any (fun p => p.line == line && asHolder p.req == h) ||
  (match h with
    | .ep e => s.coh.toRetire.any (fun d => d.src == e && d.part == linePart line)
    | .ring => false)

/-- The snoop tag of a new snoop (R422): the lowest that no second answer still due from the endpoint bears. The spec leaves the choice of the
tag open (log entry 100). -/
def freshStag (s : State) (line : Nat) (h : Holder) : Nat :=
  match h with
  | .ep e => ((List.range (s.coh.owed.length + 1)).find? (fun n => !s.coh.owed.contains (line, e, n))).getD 0
  | .ring => 0

/-- Whether an endpoint is on a CXL host port of this device. -/
def epCxl (s : State) (e : Endpoint) : Bool := (epPort s e).any (isCxl s)

/-- Send one snoop message and count it (R115). -/
def emitSnoop (s : State) (line : Nat) (n : Snoop) : State :=
  let p := linePart line
  let s := match n.dest with
    | .ring => bump (emit s (.ringBcast line n.kind)) (homeCnt p 5)
    | .ep e =>
      let s := match epPort s e with
        | some q => if isCxl s q then bump s (cxlCnt q 2) else s
        | none => s
      bump (sendTc7 s p e 0 (fun _ => .snp e line n.kind (epCxl s e) n.stag)) (homeCnt p 1)
  let s := if n.coarse then bump s (homeCnt p 11) else s
  if n.recalls then bump s (homeCnt p 7) else s

/-- A request of this device to a donor page, with PKEY and checked key 0xFFFF (R66, R193). The spec names no traffic class for it: TC5, as for
the device's other own requests (DESIGN CHOICE, log entry 103). -/
def askDonor (s : State) (addr : Nat) (d : List (Line × Bool)) : State :=
  let write : List Nat := d.flatMap (fun x => [x.1.toNat, if x.2 then 1 else 0])
  sendFlow s (devEp s) (addr / 2 ^ 48) (partOf (addr % 2 ^ 48)) 5 0 none (fun p =>
    .send p (if d.isEmpty then "DonorRead" else "DonorWrite") (addr :: 0xFFFF :: 0xFFFF :: write))

/-- The fabric address of a donor page. -/
def donorAddr (s : State) (d n : Nat) : Nat := donorBase s d + n * 65536

/-- A read (7) or write (8) of a line asked of one location. -/
def askLoc (s : State) (line k : Nat) (d : List (Line × Bool)) : Loc → State
  | .t1 p _ _ => bump { s with link := { s.link with traySent := tblPut s.link.traySent line (s.now, false) } } (cxlCnt p k)
  | .t2 x n => askDonor s (donorAddr s x n + line % 1024 * 64) d
  | .t0 .. => s

/-- A read (7) or write (8) of a line asked of its memory: counted and timed where that lies on a tray (R453, R454, R456), asked of the peer
where it is a donor page (R193). A write to a Moving page goes to its new location too (R200). -/
def askMem (s : State) (line k : Nat) (d : Option (Line × Bool)) : State :=
  match backAt s (line / 1024) with
  | none => s
  | some b =>
    let new := if b.moving && d.isSome then (s.tier.chunks.flatMap (·.pages)).filter (fun m => some m.id == backIdOf s (line / 1024)) else []
    new.foldl (fun s m => if m.new = b.loc then s else askLoc s line k d.toList m.new) (askLoc s line k d.toList b.loc)

/-- Send the snoops of a transaction that may go out now: not those of recalls, which the recall engine sends. -/
def sendSnoops (s : State) (line : Nat) : State :=
  match transAt s line with
  | none => s
  | some t =>
    let ready (n : Snoop) : Bool := n.sentAt.isNone && !n.recalls && !completionPending s line n.dest
    let tagged (n : Snoop) : Snoop := { n with sentAt := some s.now, stag := freshStag s line n.dest }
    let out := (t.snoops.filter ready).foldl (fun s n => emitSnoop s line (tagged n)) s
    setTrans out line { t with snoops := t.snoops.map (fun n => if ready n then tagged n else n) }

/-- The snoops to a list of holders. -/
def snoopsTo (e : DirEntry) (k : SnpKind) (recalls : Bool) (hs : List Holder) : List Snoop :=
  hs.map (fun h => { dest := h, kind := k, recalls := recalls, coarse := e.coarse.isSome && h != .ring })

/-! ## Completions -/

/-- Completions that carry data (R390). -/
def dataCmp : CmpKind → Bool
  | .cmpI => true
  | .cmpS => true
  | .cmpE => true
  | .cmpM => true
  | .cmpAtom => true
  | .cmpFar => true
  | .cmpComb => true
  | _ => false

/-- Cells of TC7 queued at a port: packets on their way through it, and completions for its own host. -/
def tc7Cells (s : State) (p : Nat) : Nat :=
  ((s.cong.egress.filter (fun e => e.port == p && e.tc == 7)).map (fun e => (e.len + 255) / 256)).sum +
  s.coh.toRetire.countP (fun d => d.port == p && epPort s d.src == some p)

/-- Whether a completion that enters a port's TC7 queue sets ECHO there; the state counts it (R390). -/
def echoAt (s : State) (p : Nat) (c : CmpKind) : Bool × State :=
  if dataCmp c && decide (fld s (portBase p + 0x608) 32 16 ≤ tc7Cells s p) then (true, bump s (portCongCnt p 1)) else (false, s)

/-- Hand a completion to the source's egress port island (R118). -/
def completePort (s : State) (r : Req) (c : CmpKind) (st : Status) (data : Option Line) (poison : Bool)
    (results : List (BitVec 128)) : State :=
  let p := r.port.val
  let (deep, s) := if epPort s r.src = some p then echoAt s p c else (false, s)
  { s with coh := { s.coh with toRetire := s.coh.toRetire ++
    [{ port := p, src := r.src, tag := r.tag.toNat, cmp := c, status := st, data := data, poison := poison, echo := r.mark || deep, results := results, part := reqPart r }] } }

/-- Window `w` of a CXL host port (R445): pool base and length, when valid. -/
def cxlWindow (s : State) (p w : Nat) : Option (Nat × Nat) :=
  let a := portBase p + 0x940 + 0x10 * w
  if flag s a 63 then some (fld s a 0 48, fld s (a + 8) 0 48) else none

/-- The valid windows of a port in index order. -/
def cxlWindows (s : State) (p : Nat) : List (Nat × Nat) := (List.range 8).filterMap (cxlWindow s p)

/-- The pool offset of a DPA: the windows lie end to end from DPA 0 (R445). -/
def dpaToPool : List (Nat × Nat) → Nat → Option Nat
  | [], _ => none
  | (base, len) :: r, d => if d < len then some (base + d) else dpaToPool r (d - len)

/-- The DPA of a pool offset in the windows. -/
def poolToDpa : List (Nat × Nat) → Nat → Nat → Option Nat
  | [], _, _ => none
  | (base, len) :: r, at_, off => if base ≤ off ∧ off < base + len then some (at_ + off - base) else poolToDpa r (at_ + len) off

/-- A refusal to a CXL host is counted and adds a General Media event record with the status and the DPA (R446). -/
def cxlRefusalAt (s : State) (r : Req) (st : Status) (dpa : Nat) : State :=
  let s := bump s (cxlCnt r.port.val (if r.kind = .wrLine ∨ r.kind = .wrPtl then 4 else 3))
  emit s (.send r.port.val "GeneralMediaEvent" [statusCode st, dpa])

/-- The same with the DPA of the request's pool offset. -/
def cxlRefusal (s : State) (r : Req) (st : Status) : State :=
  if r.origin = .cxl then cxlRefusalAt s r st ((poolToDpa (cxlWindows s r.port.val) 0 (r.addr.toNat % 2 ^ 48)).getD 0) else s

/-- A line that a CXL host receives poisoned adds a DRAM event record with its DPA (R441). -/
def cxlPoison (s : State) (r : Req) : State :=
  if r.origin = .cxl then emit s (.send r.port.val "DramEvent" [(poolToDpa (cxlWindows s r.port.val) 0 (r.addr.toNat % 2 ^ 48)).getD 0]) else s

/-- A completion that the home sends: lines sent poisoned are counted (R115), and recorded for a CXL host (R441). -/
def completeReq (s : State) (r : Req) (c : CmpKind) (st : Status) (data : Option Line) (poison : Bool)
    (results : List (BitVec 128)) : State :=
  completePort (if poison && data.isSome then cxlPoison (bump s (homeCnt (reqPart r) 14)) r else s) r c st data poison results

/-- Requests that are answered with a line of data. -/
def readKind : ReqKind → Bool
  | .rdNC => true
  | .rdShared => true
  | .rdOwn => true
  | .atomNear => true
  | _ => false

/-- The completion of a refusal (R65): reads and ownership requests get poisoned data with the status. -/
def refusePort (s : State) (r : Req) (st : Status) : State :=
  completePort s r .cmpErr st (if readKind r.kind then some 0 else none) (readKind r.kind) []

/-- Refuse a request (R65, R446). -/
def refuseReq (s : State) (r : Req) (st : Status) : State := refusePort (cxlRefusal s r st) r st

/-- Refuse a request at its home, which counts the line it sends poisoned (R115). -/
def refuseHome (s : State) (r : Req) (st : Status) : State :=
  refuseReq (if readKind r.kind then bump s (homeCnt (reqPart r) 14) else s) r st

/-! ## Atomics (06) -/

/-- Operand size in bytes. -/
def atomSize (f : AtomF) : Nat := if f.size = 0 then 4 else if f.size = 1 then 8 else 16

/-- Whether an atomic is malformed (R142). -/
def atomMalformed (f : AtomF) (off : Nat) : Bool :=
  decide (f.op.toNat > 0xA) || f.size == 3 || (f.size == 2 && f.op != 9 && f.op != 0xA) || f.fmt == 3 ||
  (f.fmt != 0 && f.op != 8) || off % atomSize f != 0

/-- The value an atomic leaves at its target (R139, R141). -/
def atomValue (f : AtomF) (v a b : Nat) : Nat :=
  let w := 8 * atomSize f
  let add (x y : Nat) : Nat :=
    if f.fmt = 0 then fAddBits (if w = 32 then fp32 else fp64) x y
    else if f.fmt = 1 then lanes (w / 16) 16 (fAddBits bf16) x y
    else lanes (w / 16) 16 (fAddBits fp16) x y
  match f.op.toNat with
  | 0 => (v + a) % 2 ^ w
  | 1 => if sInt w v ≤ sInt w a then v else a
  | 2 => if sInt w a ≤ sInt w v then v else a
  | 3 => Nat.min v a
  | 4 => Nat.max v a
  | 5 => v &&& a
  | 6 => v ||| a
  | 7 => v ^^^ a
  | 8 => add v a
  | 9 => a
  | _ => if v = a then b else v

/-- The records of an atomic: those of an AtomComb, or the one of an AtomFar or AtomNear. -/
def atomRecs (r : Req) : List CombRec :=
  if r.kind = .atomComb then r.recs
  else [⟨r.src, r.tag, r.atom.aseq, r.atom.a, r.atom.noret⟩]

def replayFind (s : State) (part : Nat) (x : CombRec) : Option Replay :=
  s.atm.replay.find? (fun e => e.part == part && e.src == x.ep && e.aseq == x.aseq)

/-- Whether an ASEQ lies in the window of its source (R156 step 4). A source whose RSEQ this home has never been given has no window, and any
ASEQ of it passes (DESIGN CHOICE, log entry 101: the spec is silent). -/
def inWindow (s : State) (x : CombRec) : Bool :=
  match tblFind s.atm.rseqs x.ep.toNat with
  | some q => decide ((x.aseq - q).toNat ≤ 255)
  | none => true

/-- What one record comes to (R156): the value to return, a refusal, or no reply. -/
inductive RecOut where
  | val (v : BitVec 128) (poison : Bool)
  | bad
  | stale
  deriving DecidableEq, Repr

/-- The state of applying a group: target value, group sum of an FADD so far, records applied, outcomes. -/
structure GroupAcc where
  v : Nat
  sum : Option Nat := none
  made : List Replay := []
  outs : List (Nat × CombRec × RecOut) := []

/-- Apply one record of request number `i` (R154, R156). -/
def applyRec (s : State) (part : Nat) (f : AtomF) (poison : Bool) (old : Nat) (g : GroupAcc) (i : Nat) (x : CombRec) :
    GroupAcc :=
  let out (o : RecOut) : List (Nat × CombRec × RecOut) := g.outs ++ [(i, x, o)]
  match replayFind s part x with
  | some e => if e.tag = x.tag then { g with outs := out (.val e.result e.poison) } else { g with outs := out .bad }
  | none =>
    if inWindow s x then
      let a := x.opnd.toNat % 2 ^ (8 * atomSize f)
      let b := f.b.toNat % 2 ^ (8 * atomSize f)
      let before := if f.op = 8 then (match g.sum with
          | none => old
          | some q => atomValue f old q 0) else g.v
      let res := BitVec.ofNat 128 before
      let g1 : GroupAcc := { g with outs := out (.val res poison), made := g.made ++ [(⟨part, x.ep, x.aseq, x.tag, res, poison⟩ : Replay)] }
      if f.op = 8 then
        let q := match g.sum with
          | none => a
          | some q => atomValue f q a 0
        { g1 with sum := some q, v := atomValue f old q 0 }
      else { g1 with v := atomValue f g.v a b }
    else { g with outs := out .stale }

/-- Apply a group of atomics to a line (R154): new line, replay entries made, outcomes by request. -/
def applyGroup (s : State) (line : Nat) (rs : List Req) (base : Line) (poison : Bool) : Line × GroupAcc :=
  match rs with
  | [] => (base, { v := 0 })
  | r :: _ =>
    let f := r.atom
    let k := r.addr.toNat % 64
    let old := lineNat base k (atomSize f)
    let recs := (rs.zipIdx).flatMap (fun e => (atomRecs e.1).map (fun x => (e.2, x)))
    let g := recs.foldl (fun g e => applyRec s (linePart line) f poison old g e.1 e.2) { v := old }
    (BitVec.ofNat 512 (withBits base.toNat (8 * k) (8 * atomSize f) g.v), g)

/-- Results of records (R424): those without NORET, each with its contributor. -/
def combResults (vals : List (CombRec × BitVec 128 × Bool)) : List CombRes :=
  (vals.filter (fun v => !v.1.noret)).map (fun v => ⟨v.1.ep, v.1.tag, v.2.1⟩)

/-- The completions of a group (R153, R156): one CmpAtom for an AtomFar or AtomNear, one CmpComb for an AtomComb; a record that repeats a pair
under another tag is answered CmpErr, a stale one not at all. Such records of an AtomComb have no result in its CmpComb, and the home sends the
CmpErr to the contributor itself (DESIGN CHOICE, log entry 101: the spec says nothing of records that a CmpComb leaves out). -/
def groupDones (rs : List Req) (g : GroupAcc) : List Done :=
  (rs.zipIdx).flatMap (fun e =>
    let r := e.1
    let mine := g.outs.filter (fun o => o.1 == e.2)
    let d : Done := { port := r.port.val, src := r.src, tag := r.tag.toNat, cmp := .cmpErr, echo := r.mark, part := reqPart r }
    let bads := (mine.filter (fun o => o.2.2 == .bad)).map (fun o =>
      { d with src := o.2.1.ep, tag := o.2.1.tag.toNat, status := .badDescriptor })
    let vals := mine.filterMap (fun o => match o.2.2 with
      | .val v p => some (o.2.1, v, p)
      | _ => none)
    let pois := vals.any (fun v => v.2.2)
    let main : List Done :=
      if vals.isEmpty then []
      else if r.kind = .atomComb then [{ d with cmp := .cmpComb, poison := pois, comb := combResults vals }]
      else [{ d with cmp := .cmpAtom, poison := pois, results := (combResults vals).map (·.val) }]
    bads ++ main)

/-- Replay hits, and records discarded as stale, of a group that was applied (R156). -/
def groupHits (g : GroupAcc) : Nat :=
  (g.outs.filter (fun o => match o.2.2 with
    | .val _ _ => true
    | _ => false)).length - g.made.length
def groupStales (g : GroupAcc) : Nat := (g.outs.filter (fun o => o.2.2 == .stale)).length

/-- Count what applying atomics came to (R163): applied, answered from the replay table, stale. -/
def countAtoms (s : State) (part applied hits stales : Nat) : State :=
  bumpBy (bumpBy (bumpBy s (farCnt part 4) applied) (farCnt part 6) hits) (farCnt part 8) stales

/-- Note what applying a group changed: replay entries and counters (R155, R163). -/
def groupNote (s : State) (part : Nat) (g : GroupAcc) : State :=
  countAtoms { s with atm := { s.atm with replay := s.atm.replay ++ g.made } } part g.made.length (groupHits g) (groupStales g)

end Sys2Proof.Machine
end

