-- ==== Sys2Proof/Machine/Home.lean ====
section
/-! DEFINITION. Requests at their home: ordering under the directory (04, R97 to R101), transactions and their progress, the
contention predictor (06, R146 to R148), snoop answers, WbDirty and memory completions. -/

namespace Sys2Proof.Machine

/-! ## The contention predictor (R146, R147) -/

def farCfg (s : State) (part lo len : Nat) : Nat := fld s (sliceBase part + 0x8200) lo len

/-- Hot-line entries of a partition. -/
def hotLines (s : State) (part : Nat) : List (Nat × Hot) := s.atm.hot.filter (fun e => linePart e.1 == part)

/-- Find or make room for a hot-line entry (R147): when full, the near entry updated least recently goes. -/
def hotRoom (s : State) (line : Nat) : Option State :=
  let mine := hotLines s (linePart line)
  if mine.length < 4096 then some s
  else
    let near := mine.filter (fun e => e.2.mode == .near)
    match near with
    | [] => none
    | e :: r =>
      let old := r.foldl (fun (a : Nat × Hot) b => if b.2.updated < a.2.updated then b else a) e
      some { s with atm := { s.atm with hot := tblErase s.atm.hot old.1 } }

/-- Waiting RdOwn, AtomNear and AtomFar requests of a line. -/
def pendCount (s : State) (line : Nat) : Nat :=
  (s.coh.waitQ.filter (fun r => reqLine r == line &&
    (r.kind == .rdOwn || r.kind == .atomNear || r.kind == .atomFar))).length

/-- Whether a line is contended (R146). -/
def contended (s : State) (line : Nat) (h : Hot) : Bool :=
  let p := linePart line
  decide (farCfg s p 0 8 ≤ (h.xfers.filter (fun t => s.now ≤ t + farCfg s p 8 16)).length) ||
  decide (farCfg s p 24 6 ≤ pendCount s line)

/-- A contended near line goes to ENTERING with an exclusive recall of its holders (R148). -/
def checkEnter (s : State) (line : Nat) : State :=
  match hotAt s line with
  | none => s
  | some h =>
    let p := linePart line
    if h.mode = .near ∧ farCfg s p 30 1 = 1 ∧ contended s line h = true then
      let (tag, s) := newTag s
      let s := bump (setHot s line { h with mode := .entering, tag := tag }) (farCnt p 0)
      if (dirAt s line).isSome || (transAt s line).isSome then queueRecall s line .exclusive tag else s
    else s

/-- A line's previous owner (R146): its recorded owner, or the one that its hot-line entry remembers. -/
def prevOwner (s : State) (line : Nat) : Option Holder :=
  ((dirAt s line).bind ownerOf).or ((hotAt s line).bind (·.prevOwner))

/-- Record a transfer (R146). -/
def noteTransfer (s : State) (line : Nat) : State :=
  match hotAt s line with
  | some h => checkEnter (setHot s line { h with xfers := (s.now :: h.xfers).take 255, updated := s.now }) line
  | none =>
    match hotRoom s line with
    | some s => checkEnter (setHot s line { xfers := [s.now], updated := s.now }) line
    | none => bump s (farCnt (linePart line) 9)

/-- Note who was granted a line, in its hot-line entry (R146). -/
def notePrev (s : State) (line : Nat) (h : Holder) : State :=
  match hotAt s line with
  | some x => setHot s line { x with prevOwner := some h }
  | none => s

/-- A request joined a line's wait queue (R146, R147). -/
def noteWait (s : State) (line : Nat) : State :=
  if farCfg s (linePart line) 24 6 ≤ pendCount s line then
    match hotAt s line with
    | some _ => checkEnter s line
    | none =>
      match hotRoom s line with
      | some s => checkEnter (setHot s line { updated := s.now }) line
      | none => bump s (farCnt (linePart line) 9)
  else s

/-- Send a Far line to LEAVING (R148): its exit write is then due. -/
def leaveFar (s : State) (line cnt : Nat) : State :=
  match hotAt s line with
  | some h => if h.mode = .far then bump (setHot s line { h with mode := .leaving }) (farCnt (linePart line) cnt) else s
  | none => s

/-- Send the Far lines of a byte range to LEAVING because their pages are to be freed (R148). -/
def leaveRange (s : State) (lo hi : Nat) : State :=
  { s with atm := { s.atm with hot := s.atm.hot.map (fun e =>
    if lo ≤ e.1 * 64 ∧ e.1 * 64 < hi ∧ e.2.mode = .far then (e.1, { e.2 with mode := .leaving }) else e) } }

/-- Send the Far lines of a byte range to LEAVING for a BAU launch, counted as forced exits (R148, R163). -/
def leaveForced (s : State) (lo hi : Nat) : State :=
  ((s.atm.hot.filter (fun e => lo ≤ e.1 * 64 && e.1 * 64 < hi)).map (·.1)).foldl (fun s l => leaveFar s l 2) s

/-- Whether a line that has just entered Far mode must leave it at once (R148): FAR_EN is 0 or a BAU launch names it (`some true`, a forced
exit), or its page is to be freed (`some false`). -/
def farBarred (s : State) (line : Nat) : Option Bool :=
  let off := line * 64
  if farCfg s (linePart line) 30 1 = 0 || s.coh.holds.any (fun h => h.lo ≤ off && off < h.hi) then some true
  else if s.pool.toFree.contains (line / 1024) || (shelfAt s off).any (fun x => (slotOf x.2.1 x.2.2).st == .closing) ||
      (drawerAt s off).any (fun d => d.2.st == .releasing) then some false
  else none

/-- Whether every line of a byte range is near. -/
def rangeNear (s : State) (lo hi : Nat) : Bool :=
  s.atm.hot.all (fun e => e.1 * 64 < lo || hi ≤ e.1 * 64 || e.2.mode == .near)

/-! ## Progress of a transaction (R98, R100, R101) -/

/-- Requests that the home applies itself. -/
def isHomeWrite : ReqKind → Bool
  | .wrLine => true
  | .wrPtl => true
  | .atomFar => true
  | .atomComb => true
  | _ => false

/-- What a home write comes to: the line it leaves, with its poison, completions, replay entries, and the records of an AtomComb answered from
the replay table or discarded as stale. -/
structure HomeWrote where
  data : Line
  poison : Bool
  outs : List Done
  made : List Replay := []
  hits : Nat := 0
  stales : Nat := 0

/-- Carry out a home write on the line's newest value (R92, R101, R144, R156). -/
def homeWriteResult (s : State) (line : Nat) (r : Req) (base : Line × Bool) : HomeWrote :=
  let done : List Done := [{ port := r.port.val, src := r.src, tag := r.tag.toNat, cmp := .cmpWr, echo := r.mark, part := reqPart r }]
  match r.kind with
  | .wrLine => { data := r.data, poison := r.poison, outs := done }
  | .wrPtl =>
    { data := mergeBytes base.1 r.data r.mask, poison := base.2 || r.poison, outs := done }
  | _ =>
    let (d, g) := applyGroup s line [r] base.1 base.2
    { data := d, poison := base.2 || r.poison, outs := groupDones [r] g, made := g.made, hits := groupHits g, stales := groupStales g }

/-- End a transaction once every event of R98 has happened. -/
def endTrans (s : State) (line : Nat) : State :=
  match transAt s line with
  | none => s
  | some t =>
    if t.snoops.isEmpty && t.wbFrom.isEmpty && t.writing.isNone && t.replied && t.ackFrom.isNone &&
        !s.coh.wbBuf.any (fun w => w.line == line) then dropTrans s line
    else s

/-- An owner whose WbDirty came under a transaction's snoop, and that did not keep a copy, leaves the filter (R101, R113). -/
def settleOwner (s : State) (line : Nat) (t : Trans) : State :=
  match (dirAt s line).bind ownerOf with
  | some y => if t.wbGot.any (fun x => epHolder s x == y) && !t.kept.contains y then dropDir s line else s
  | none => s

/-- What a recall leaves in the filter. -/
def recallDir (s : State) (line : Nat) (k : RecallKind) (t : Trans) : State :=
  match k with
  | .exclusive => dropDir s line
  | .discard => dropDir s line
  | .current => settleOwner s line t
  | .downgrade =>
    match dirAt s line with
    | none => s
    | some e =>
      if e.st = .s then s
      else match t.kept with
        | [] => dropDir s line
        | h :: _ => newDir s line (oneHolder s .s h)

/-- Whether a request comes from inside the device: a ring member or a Winch engine. -/
def internal (r : Req) : Bool := r.origin == .ring || r.origin == .winch

/-- Count at the port island that checked a request (R555). -/
def telCount (s : State) (r : Req) (k : Nat) : State := if internal r then s else bump s (portTelCnt r.port.val k)

/-- Refuse a write at its home for which no tier has room (R84, R225). -/
def refuseQuota (s : State) (r : Req) : State := refuseHome (telCount s r 3) r .overQuota

/-- Refuse a write that no tray has room for (R225): the page keeps its old content. Dirty data that a snoop brought is still written. -/
def refuseGrow (s : State) (line : Nat) (t : Trans) (r : Req) : State :=
  let s := refuseQuota (bump s (cmpCnt 8)) r
  let t := { t with issued := true, replied := true, outs := [], made := [], hits := 0, stales := 0 }
  match t.dirty with
  | none => endTrans (setTrans s line t) line
  | some d =>
    let (k, s) := t1Keep s line d.1 d.2
    setTrans (askMem s line 8 (some k)) line { t with writing := some k }

/-- Start the memory write of a home write (R100, R101): its T1 block is encoded again (R225). -/
def startWrite (s : State) (line : Nat) (t : Trans) (r : Req) (w : HomeWrote) : State :=
  let s := dropDir s line
  match t1Fit s line w.data w.poison with
  | none => refuseGrow s line t r
  | some s =>
    setTrans (askMem s line 8 (some (w.data, w.poison))) line
      { t with writing := some (w.data, w.poison), issued := true, outs := w.outs, made := w.made, hits := w.hits, stales := w.stales }

/-- Answer the requester of a read or ownership request (R101) and set the next directory state. -/
def replyRead (s : State) (line : Nat) (t : Trans) (r : Req) (d : Line) (poison : Bool) : State :=
  let x := asHolder r
  let finish (s : State) (c : CmpKind) (ack : Bool) : State :=
    let s := setTrans s line { t with replied := true, ackFrom := if ack then some r.src else none }
    endTrans (completeReq s r c .ok (some d) poison []) line
  if r.kind = .rdNC then finish (settleOwner s line t) .cmpI false
  else if epFenced s (linePart line) r.src && !internal r then
    match t.kept with
    | [] => finish (dropDir s line) .cmpI false
    | y :: ys => finish (newDir s line (ys.foldl addSharer (oneHolder s .s y))) .cmpI false
  else match r.kind with
  | .rdShared =>
    match dirAt s line with
    | some e =>
      if ownerOf e = some x ∨ ownerOf e = none then finish (newDir s line (oneHolder s .e x)) .cmpE true
      else
        let base := oneHolder s .s x
        finish (newDir s line (t.kept.foldl addSharer base)) .cmpS false
    | none =>
      if t.issued then finish (newDir s line (t.kept.foldl addSharer (oneHolder s .s x))) .cmpS false
      else finish (newDir s line (oneHolder s .e x)) .cmpE true
  | _ => finish (newDir s line (oneHolder s .m x)) .cmpM true

/-- Move a transaction on: once every snoop is answered and every announced WbDirty is here, reply, or write. -/
def progress (s : State) (line : Nat) : State :=
  match transAt s line with
  | none => s
  | some t =>
    if !t.snoops.isEmpty || !t.wbFrom.isEmpty then s
    else match t.kind with
      | .recalls k _ =>
        if t.replied then endTrans s line
        else endTrans (setTrans (recallDir s line k t) line { t with replied := true }) line
      | .req r =>
        if isHomeWrite r.kind then
          if t.issued then endTrans s line
          else
            let base := t.dirty.getD (currentLine s line)
            startWrite s line t r (homeWriteResult s line r (base.1, base.2 || t.poisoned))
        else if t.replied then endTrans s line
        else match (match t.dirty with
            | some d => some d
            | none => t.mem) with
          | some (d, p) => replyRead s line t r d (p || t.poisoned)
          | none => s

/-! ## Ordering a request (R89, R90, R97, R101) -/

/-- What taking up a request comes to: ordered; left waiting where it is; or waiting for a tracker. -/
inductive Taken where
  | done (s : State)
  | wait (s : State)
  | starved (s : State)

/-- Recall the oldest entry of a full set that no tracker holds, unless one of the set is being recalled (R97). -/
def victimRecall (s : State) (line : Nat) : State :=
  let set := s.coh.dir.filter (fun e => linePart e.1 == linePart line && filterSet e.1 == filterSet line)
  if set.any (fun e => s.coh.recallQ.any (fun i => i.line == e.1) ||
      ((transAt s e.1).any (fun t => match t.kind with
        | .recalls _ _ => true
        | .req _ => false))) then s
  else match set.filter (fun e => (transAt s e.1).isNone) with
    | [] => s
    | e :: r =>
      let v := r.foldl (fun (a : Nat × DirEntry) b => if b.2.age < a.2.age then b else a) e
      bump (queueRecall s v.1 .exclusive 0) (homeCnt (linePart line) 6)

/-- Open the transaction of a request with its snoops. -/
def openTrans (s : State) (line : Nat) (r : Req) (tracker mem : Bool) (ns : List Snoop) : State :=
  let t : Trans := { kind := .req r, tracker := tracker, memWait := mem, snoops := ns, issued := !ns.isEmpty && !isHomeWrite r.kind }
  progress (sendSnoops (setTrans (if mem then askMem s line 7 none else s) line t) line) line

/-- A read that does not block its line goes to memory with the value it finds. -/
def pendRead (s : State) (line : Nat) (r : Req) (c : CmpKind) : State :=
  let v := currentLine s line
  let s := askMem s line 7 none
  { s with coh := { s.coh with reads := s.coh.reads ++ [⟨line, r, c, v.1, v.2⟩] } }

/-- Order an RdNC (R101). -/
def orderRdNC (s : State) (line : Nat) (r : Req) : Taken :=
  match dirAt s line with
  | some e =>
    match ownerOf e with
    | some y =>
      if y = asHolder r ∨ !(holders s line e).contains y then .done (pendRead s line r .cmpI)
      else if trackerFor s line r then .done (openTrans s line r true true (snoopsTo e .cur false [y]))
      else .starved s
    | none => .done (pendRead s line r .cmpI)
  | none => .done (pendRead s line r .cmpI)

/-- Whether a RdShared of this request may only be granted S (R65, R101, R113, R168, R183). -/
def grantsShared (s : State) (line : Nat) (r : Req) : Bool :=
  r.ro || r.origin == .cxl || !flag s (sliceBase (linePart line) + 0x8000) 20 || sharedOnly s (line * 64) ||
  s.coh.holds.any (fun h => h.lo ≤ line * 64 && line * 64 < h.hi)

/-- Register the endpoint of a cacheable request (R95); the ring is known by its bit (R106). -/
def registerFor (s : State) (r : Req) : State := if internal r then s else register s (reqPart r) r.src

/-- Order a RdShared in state I, or owned by its requester. -/
def orderSharedIdle (s : State) (line : Nat) (r : Req) : Taken :=
  let s := registerFor s r
  if !entryRoom s line r then .wait (victimRecall s line)
  else if grantsShared s line r then .done (pendRead (newDir s line (oneHolder s .s (asHolder r))) line r .cmpS)
  else if !trackerFor s line r then .starved s
  else
    let moved := prevOwner s line != some (asHolder r)
    let s := openTrans s line r true true []
    .done (notePrev (if moved then noteTransfer s line else s) line (asHolder r))

/-- Order a RdShared (R101). -/
def orderRdShared (s : State) (line : Nat) (r : Req) : Taken :=
  match dirAt s line with
  | none => orderSharedIdle s line r
  | some e =>
    match ownerOf e with
    | none =>
      let s := registerFor s r
      .done (pendRead (setDir s line (addSharer e (asHolder r))) line r .cmpS)
    | some y =>
      if y = asHolder r ∨ !(holders s line e).contains y then orderSharedIdle s line r
      else if trackerFor s line r then
        .done (openTrans (registerFor s r) line r true true (snoopsTo e .shr false [y]))
      else .starved s

/-- Order a RdOwn or AtomNear (R101, R143). -/
def orderRdOwn (s : State) (line : Nat) (r : Req) : Taken :=
  let s := registerFor s r
  if !entryRoom s line r then .wait (victimRecall s line)
  else if !trackerFor s line r then .starved s
  else
    let others := match dirAt s line with
      | none => []
      | some e => snoopsTo e .inv false ((holders s line e).filter (· != asHolder r))
    let moved := prevOwner s line != some (asHolder r)
    let s := openTrans s line r true true others
    .done (notePrev (if moved then noteTransfer s line else s) line (asHolder r))

/-- Order a WrLine, WrPtl, AtomFar or AtomComb outside Far mode (R101, R144). The snoops go to every recorded holder, the requester included:
R101 says so of these requests, while R95 leaves the requester out of a snoop to a coarse group; the model follows R101 there too (DESIGN
CHOICE, log entry 100). An AtomComb counts as one transfer, whatever its records: R146 names WrLine, WrPtl and AtomFar only (DESIGN CHOICE,
log entry 101). -/
def orderHomeWrite (s : State) (line : Nat) (r : Req) : Taken :=
  let ns := match dirAt s line with
    | none => []
    | some e => snoopsTo e .inv false (holders s line e)
  if !ns.isEmpty && !trackerFor s line r then .starved s
  else .done (noteTransfer (openTrans (markDirty s line) line r (!ns.isEmpty) false ns) line)

/-- A request is no longer in flight. -/
def dropFlight (s : State) (src tag : Nat) : State :=
  { s with pool := { s.pool with flights := s.pool.flights.filter (fun f => !(f.src == src && f.tag == tag)) } }

/-- Atomics that name their pair in the request itself. -/
def loneAtom : ReqKind → Bool
  | .atomFar => true
  | .atomNear => true
  | _ => false

/-- What an atomic meets before it is ordered (R142, R156): `some` when it ends here. -/
def atomAnswer (s : State) (line : Nat) (r : Req) : Option State :=
  if atomMalformed r.atom (r.addr.toNat % 64) then some (refuseHome s r .badDescriptor)
  else if loneAtom r.kind then
    match atomRecs r with
    | x :: _ =>
      match replayFind s (linePart line) x with
      | some _ =>
        let (_, g) := applyGroup s line [r] 0 false
        let s := groupNote s (linePart line) g
        some { s with coh := { s.coh with toRetire := s.coh.toRetire ++ groupDones [r] g } }
      | none => if inWindow s x then none else some (dropFlight (bump s (farCnt (linePart line) 8)) r.src.toNat r.tag.toNat)
    | [] => none
  else none

/-- Make the page of a write ready, under the extent that its check found (R69). -/
def writeReady (s : State) (line : Nat) (r : Req) : PageReady := readyForWrite s r.ext.toList (line * 64)

/-- Order a request to a line that is neither Blocked nor Far (R101). -/
def orderLine (s : State) (r : Req) : Taken :=
  let line := reqLine r
  if (r.kind == .rdShared || r.kind == .rdOwn || r.kind == .atomNear) && epFenced s (linePart line) r.src && !internal r then .done (refuseHome s r .fenced)
  else match r.kind with
  | .rdNC => orderRdNC s line r
  | .rdShared => orderRdShared s line r
  | k =>
    match (if loneAtom k || k == .atomComb then atomAnswer s line r else none) with
    | some s => .done s
    | none =>
      match writeReady s line r with
      | .quota => .done (refuseQuota s r)
      | .wait s => .wait s
      | .ok s => if isHomeWrite k then orderHomeWrite s line r else orderRdOwn s line r

/-! ## The ordering point's queues (R89, R90, R99) -/

/-- Whether two requests belong to one ordered stream (R121); a CXL host has only the order of each line (R128). -/
def sameStream (a b : Req) : Bool :=
  a.src == b.src && reqPart a == reqPart b && a.bulk == b.bulk &&
  (if a.origin = .cxl then reqLine a == reqLine b else a.otag == b.otag)

/-- The input of a partition on which a request arrives: its port, the ring, or the engines. The spec does not number the inputs (DESIGN CHOICE,
log entry 100). -/
def reqInput (r : Req) : Nat :=
  match r.origin with
  | .ring => 128
  | .winch => 129
  | _ => r.port.val

/-- Whether a request at the ordering point waits there: for a tracker or a replay entry (R90, R155). -/
def waitsThere (s : State) (r : Req) : Bool := s.coh.starved.contains r.num || s.atm.replayWait.contains r.num

/-- Requests that arrived in one turn: at one device time (R89). -/
def turnMates (s : State) (r : Req) : List Req :=
  s.coh.inbox.filter (fun x => reqPart x == reqPart r && x.at_ == r.at_ && x.num != r.num && !waitsThere s x)

/-- End the part of a request in its turn: the pointer advances by one input after a turn in which it broke a tie (R89). -/
def turnStep (s : State) (r : Req) : State :=
  let p := reqPart r
  let mates := turnMates s r
  let tied := if mates.any (fun x => reqInput x != reqInput r) && !s.coh.arbTied.contains p then p :: s.coh.arbTied else s.coh.arbTied
  if mates.isEmpty && tied.contains p then
    { s with coh := { s.coh with arbTied := tied.filter (· != p), arbPtr := tblMod s.coh.arbPtr p 0 (fun n => (n + 1) % 130) } }
  else { s with coh := { s.coh with arbTied := tied } }

/-- A request leaves the ordering point: it is ordered (R89), and counted. -/
def dropInbox (s : State) (r : Req) : State :=
  let s := turnStep (bump s (homeCnt (reqPart r) 0)) r
  let inbox := s.coh.inbox.filter (fun x => x.num != r.num)
  let starved := s.coh.starved.filter (· != r.num)
  let rw := s.atm.replayWait.filter (· != r.num)
  { s with coh := { s.coh with inbox := inbox, starved := starved }, atm := { s.atm with replayWait := rw } }

/-- Note the time of a request to a hot line (R148). -/
def touchHot (s : State) (line : Nat) : State :=
  match hotAt s line with
  | some h => setHot s line { h with lastReq := s.now }
  | none => s

/-- Put a request into its line's wait queue (R99, R149). -/
def joinWait (s : State) (r : Req) (blocked : Bool) : State :=
  let line := reqLine r
  let s := { s with coh := { s.coh with waitQ := s.coh.waitQ ++ [r] } }
  if blocked then noteWait (bump s (homeCnt (linePart line) 12)) line else s

/-- Free replay entries of a partition (R155), those apart that open transactions will create. -/
def replayRoom (s : State) (part : Nat) : Nat :=
  16384 - (s.atm.replay.filter (fun e => e.part == part)).length -
    (s.coh.trans.flatMap (fun e => if linePart e.1 = part then e.2.made else [])).length

/-- Whether the records of an atomic that is ordered find too few free entries to be applied (R155). -/
def replayShort (s : State) (r : Req) : Bool :=
  (r.kind == .atomFar || r.kind == .atomComb || r.kind == .atomNear) &&
  decide (replayRoom s (reqPart r) < ((atomRecs r).filter (fun x => (replayFind s (reqPart r) x).isNone)).length)

/-- Whether an atomic will be applied at the home: an AtomNear only where its line is in Far mode or entering it (R143). -/
def appliedHome (s : State) (r : Req) : Bool :=
  r.kind == .atomFar || r.kind == .atomComb ||
  (r.kind == .atomNear && (farMode s (reqLine r) == .far || farMode s (reqLine r) == .entering))

/-- Whether an atomic's record needs a new replay entry: it is neither HELD nor ordered and not yet applied. -/
def needsEntry (s : State) (part : Nat) (x : CombRec) : Bool :=
  (replayFind s part x).isNone &&
  !s.coh.waitQ.any (fun r => appliedHome s r &&
    (atomRecs r).any (fun y => y.ep == x.ep && y.aseq == x.aseq)) &&
  !s.coh.trans.any (fun e => e.2.made.any (fun y => y.src == x.ep && y.aseq == x.aseq))

/-- Whether an atomic must wait for a replay entry (R155). -/
def replayHeld (s : State) (r : Req) : Bool :=
  appliedHome s r &&
  decide (replayRoom s (reqPart r) < ((atomRecs r).filter (needsEntry s (reqPart r))).length)

/-- Whether the same atomic is ordered and not yet applied (R156 step 3). -/
def atomPending (s : State) (r : Req) : Bool :=
  loneAtom r.kind && (atomRecs r).any (fun x =>
    s.coh.waitQ.any (fun w => appliedHome s w && reqPart w == reqPart r &&
      (atomRecs w).any (fun y => y.ep == x.ep && y.aseq == x.aseq)) ||
    s.coh.trans.any (fun e => linePart e.1 == reqPart r && e.2.made.any (fun y => y.src == x.ep && y.aseq == x.aseq)))

/-- Count a request that is held for want of a tracker, once (R115). -/
def noteStarved (s : State) (r : Req) : State :=
  if s.coh.starved.contains r.num then s
  else bump { s with coh := { s.coh with starved := s.coh.starved ++ [r.num] } } (homeCnt (reqPart r) 13)

/-- Take a request at the ordering point. -/
def takeInbox (s : State) (r : Req) : State :=
  let line := reqLine r
  if replayHeld s r then
    if s.atm.replayWait.contains r.num then s
    else bump { s with atm := { s.atm with replayWait := s.atm.replayWait ++ [r.num] } } (farCnt (linePart line) 7)
  else if atomPending s r && !lineBlocked s line then s
  else
    let s := touchHot s line
    if farMode s line = .far then
      let s := joinWait (dropInbox s r) r false
      if r.origin = .cxl ∧ (r.kind = .rdShared ∨ r.kind = .rdOwn) then leaveFar s line 2 else s
    else if lineBlocked s line || s.coh.waitQ.any (fun w => reqLine w == line) then joinWait (dropInbox (touchLazy s (line / 1024)) r) r true
    else if lineHeld s line (isWriteKind r.kind) then joinWait (dropInbox (touchLazy s (line / 1024)) r) r false
    else match orderLine s r with
      | .done s => dropInbox s r
      | .wait s => joinWait (dropInbox s r) r false
      | .starved s => noteStarved s r

/-- Whether a request may be ordered: it is at the head of its ordered stream at its partition, and waits there for nothing (R90, R155, R156
step 3). -/
def mayOrder (s : State) (r : Req) : Bool :=
  !waitsThere s r && (s.coh.inbox.find? (sameStream r)).any (fun q => q.num == r.num) &&
  !(atomPending s r && !lineBlocked s (reqLine r))

/-- Whether request `a` comes before `b` at the ordering point (R89): it arrived earlier, or in the same turn on an input that the rotating
pointer reaches first. -/
def ordersBefore (s : State) (a b : Req) : Bool :=
  let dist (x : Req) : Nat := (reqInput x + 130 - tblGet s.coh.arbPtr (reqPart x) 0) % 130
  decide (a.at_ < b.at_) || (a.at_ == b.at_ && decide (dist a < dist b))

/-- The request that a partition orders next (R89). -/
def arbPick (s : State) (part : Nat) : Option Req :=
  match s.coh.inbox.filter (fun r => reqPart r == part && mayOrder s r) with
  | [] => none
  | r :: rest => some (rest.foldl (fun a b => if ordersBefore s b a then b else a) r)

/-- The request that an ordering row names: of one of the kinds, and the next that its partition orders. -/
def inboxReq (s : State) (kinds : List ReqKind) (src : Endpoint) (tag : BitVec 14) : Option Req :=
  match s.coh.inbox.find? (fun r => r.src == src && r.tag == tag && kinds.contains r.kind) with
  | none => none
  | some r => (arbPick s (reqPart r)).filter (fun q => q.num == r.num)

/-- An ordering row: order the request it names at its home. -/
def orderRow (kinds : List ReqKind) (src : Endpoint) (tag : BitVec 14) (s : State) : State :=
  match inboxReq s kinds src tag with
  | some r => takeInbox s r
  | none => s

/-- RDNC (R101). -/
def execRdnc (src : Endpoint) (tag : BitVec 14) (s : State) : Out3 := .next (orderRow [.rdNC] src tag s)
/-- RDSHARED (R101). -/
def execRdshared (src : Endpoint) (tag : BitVec 14) (s : State) : Out3 := .next (orderRow [.rdShared] src tag s)
/-- RDOWN (R101). -/
def execRdown (src : Endpoint) (tag : BitVec 14) (s : State) : Out3 := .next (orderRow [.rdOwn] src tag s)
/-- ATOMNEAR (R143). -/
def execAtomnear (src : Endpoint) (tag : BitVec 14) (s : State) : Out3 := .next (orderRow [.atomNear] src tag s)
/-- WRLINE (R101). -/
def execWrline (src : Endpoint) (tag : BitVec 14) (s : State) : Out3 := .next (orderRow [.wrLine] src tag s)
/-- WRPTL (R101). -/
def execWrptl (src : Endpoint) (tag : BitVec 14) (s : State) : Out3 := .next (orderRow [.wrPtl] src tag s)
/-- ATOMFAR (R144). -/
def execAtomfar (src : Endpoint) (tag : BitVec 14) (s : State) : Out3 := .next (orderRow [.atomFar] src tag s)

/-- Remove the first request of a line from the wait queue. -/
def dropWait (s : State) (r : Req) : State :=
  { s with coh := { s.coh with waitQ := s.coh.waitQ.filter (fun x => x.num != r.num), starved := s.coh.starved.filter (· != r.num) } }

/-- Take up the first request that waits on a line which is no longer Blocked (R99). -/
def takeUp (s : State) (line : Nat) : State :=
  match s.coh.waitQ.find? (fun r => reqLine r == line) with
  | none => s
  | some r =>
    if lineBlocked s line || farMode s line == .far || lineHeld s line (isWriteKind r.kind) ||
        (r.kind != .atomNear && replayShort s r) then s
    else match orderLine s r with
      | .done s => dropWait s r
      | .wait s => s
      | .starved s => noteStarved s r

/-- The oldest request of a partition that waits for a tracker (R90). -/
def oldestStarved (s : State) (part : Nat) : Option Req :=
  match (s.coh.inbox ++ s.coh.waitQ).filter (fun r => reqPart r == part && s.coh.starved.contains r.num) with
  | [] => none
  | r :: rest => some (rest.foldl (fun a b => if b.hseq < a.hseq then b else a) r)

/-- TRACKER_FREE (R90): the oldest request waiting for a tracker of the partition is ordered. -/
def execTrackerFree (part : PartId) (s : State) : Out3 :=
  if trackerFree s part.val then
    match oldestStarved s part.val with
    | none => .next s
    | some r =>
      if s.coh.inbox.any (fun x => x.num == r.num) then
        .next (takeInbox { s with coh := { s.coh with starved := s.coh.starved.filter (· != r.num) } } r)
      else .next (takeUp s (reqLine r))
  else .next s

/-- WAIT_QUEUE_TAKE_UP (R99). -/
def execWaitQueueTakeUp (off : PoolOff) (s : State) : Out3 := .next (takeUp s (off.toNat / 64))

/-! ## Snoop answers (R96, R101, R108) -/

/-- Answers to a snoop: I, I with a WbDirty announced, S kept, state kept. -/
inductive Ans where
  | i | iWb | sh | cur
  deriving DecidableEq, Repr

/-- Answers that fit a snoop (R92). -/
def ansFits (k : SnpKind) (a : Ans) : Bool :=
  match k, a with
  | .inv, .sh => false
  | .inv, .cur => false
  | .shr, .cur => false
  | _, _ => true

/-- A second answer that was still due has come. -/
def dropOwed (s : State) (line : Nat) (h : Holder) (tag : Nat) : State :=
  match h with
  | .ep e => { s with coh := { s.coh with owed := s.coh.owed.erase (line, e, tag) } }
  | .ring => s

/-- Write the data of a snoop answer to memory within its transaction (R101). -/
def storeSnoop (s : State) (line : Nat) (t : Trans) (d : Line × Bool) : State :=
  let (k, s) := t1Keep s line d.1 d.2
  let s := askMem s line 8 (some k)
  progress (markDirty (setTrans s line { t with writing := some k }) line) line

/-- Take in the answer of a holder to an open snoop: it closes the snoop, a transient event where it was sent twice (R108); data
supplies the transaction. RspI of a precisely recorded holder that wrote nothing back is a stale response (R96). A second answer, to a snoop
that another answer has closed, is discarded: its snoop tag tells (R108, R422). -/
def answerSnoop (s : State) (line : Nat) (h : Holder) (tag : Nat) (a : Ans) (data : Option (Line × Bool)) : State :=
  match transAt s line with
  | none => dropOwed s line h tag
  | some t =>
    match t.snoops.find? (fun n => n.dest == h && n.sentAt.isSome && n.stag == tag) with
    | none => dropOwed s line h tag
    | some n =>
      if !ansFits n.kind a then s
      else
        let p := linePart line
        let wrote := match h with
          | .ep e => t.wbGot.contains e
          | .ring => true
        let s := if a = .i && data.isNone && !wrote && !n.coarse then bump s (homeCnt p 2) else s
        let s := match n.retried, h with
          | true, .ep e =>
            let s := { s with coh := { s.coh with owed := s.coh.owed ++ [(line, e, tag)] } }
            logEvent s 3 1 p 5 0 0 (switchId s * 2 ^ 48 + line * 64) e.toNat 0
          | _, _ => s
        let t := { t with snoops := t.snoops.filter (fun m => m.dest != h) }
        let t := match a, h with
          | .iWb, .ep e => if t.wbGot.contains e then t else { t with wbFrom := t.wbFrom ++ [e] }
          | .sh, _ => { t with kept := t.kept ++ [h] }
          | .cur, _ => { t with kept := t.kept ++ [h] }
          | _, _ => t
        match data with
        | none => progress (setTrans s line t) line
        | some d =>
          let t := { t with dirty := some d }
          match t.kind with
          | .req r =>
            if isHomeWrite r.kind || a == .cur then progress (setTrans s line t) line
            else storeSnoop s line t d
          | .recalls k tag =>
            match k with
            | .discard => progress (setTrans s line t) line
            | .current =>
              let s := modStat s tag (fun x => { x with data := tblPut x.data line d })
              if a = .cur then progress (setTrans s line t) line
              else storeSnoop s line t d
            | _ =>
              let s := modStat s tag (fun x => { x with dirtyWb := x.dirtyWb + 1 })
              storeSnoop s line t d

/-- The credit channel of a message (R426). -/
def tcChannel (m : TcMsg) : Nat := if m.wb then 8 else m.tc.toNat

/-- Whether a WbDirty, snoop answer or GntAck passes its only check, the key (R103); a refused one is discarded (R347). -/
def tcKeyOk (s : State) (m : TcMsg) : Bool := ingressKey s m.port.val m.key

/-- Whether the message came in TC7, off the writeback sub-channel (R92); one in another class is discarded and counted (R388). -/
def tcClassOk (m : TcMsg) : Bool := m.tc == 7 && !m.wb
def classDrop (s : State) (p : Nat) : State := bump s (portCongCnt p 9)

/-- Discard a message with a wrong key (R347). -/
def keyDrop (s : State) (p : Nat) : State := bump s (portRouteCnt p 0)

/-- The home of a message's line, where that is another switch (R56). -/
def awayOf (s : State) (m : TcMsg) : Option Nat := m.away.bind (fun h => if h.toNat = switchId s then none else some h.toNat)

/-- Send a TC7 message of a source here on toward the home of its line (R56, R349). -/
def sendHome (s : State) (m : TcMsg) (home : Nat) (what : String) (fields : List Nat) : State :=
  sendFlow s m.src home (linePart (m.off.toNat / 64)) 7 0 none (fun p => .send p what (m.src.toNat :: m.off.toNat :: fields))

/-- Subtype of a snoop answer (R92). -/
def ansCode (a : Ans) (data : Bool) : Nat :=
  match a, data with
  | .i, false => 0
  | .iWb, _ => 1
  | .i, true => 2
  | .sh, false => 3
  | .sh, true => 4
  | .cur, false => 5
  | .cur, true => 6

/-- A snoop answer from a Bromet port. -/
def snoopRow (m : TcMsg) (a : Ans) (data : Option (Line × Bool)) (s : State) : State :=
  let s := creditBack s m.port.val (tcChannel m)
  if !tcClassOk m then classDrop s m.port.val
  else if tcKeyOk s m then
    match awayOf s m with
    | some h => sendHome s m h "SnpRsp" (ansCode a data.isSome :: m.stag.toNat :: (data.map (fun d => [d.1.toNat, if d.2 then 1 else 0])).getD [])
    | none => answerSnoop s (m.off.toNat / 64) (.ep m.src) m.stag.toNat a data
  else keyDrop s m.port.val

/-- RSPI (R101). -/
def execRspi (m : TcMsg) (s : State) : Out3 := .next (snoopRow m .i none s)
/-- RSPIWB (R101). -/
def execRspiwb (m : TcMsg) (s : State) : Out3 := .next (snoopRow m .iWb none s)
/-- RSPIDATA (R101). -/
def execRspidata (m : TcMsg) (data : Line) (poison : Bool) (s : State) : Out3 :=
  .next (snoopRow m .i (some (data, poison)) s)
/-- RSPS (R101). -/
def execRsps (m : TcMsg) (s : State) : Out3 := .next (snoopRow m .sh none s)
/-- RSPSDATA (R101). -/
def execRspsdata (m : TcMsg) (data : Line) (poison : Bool) (s : State) : Out3 :=
  .next (snoopRow m .sh (some (data, poison)) s)
/-- RSPCUR (R101). -/
def execRspcur (m : TcMsg) (s : State) : Out3 := .next (snoopRow m .cur none s)
/-- RSPCURDATA (R101): no memory write. -/
def execRspcurdata (m : TcMsg) (data : Line) (poison : Bool) (s : State) : Out3 :=
  .next (snoopRow m .cur (some (data, poison)) s)

/-- GNTACK (R98). -/
def execGntack (m : TcMsg) (s : State) : Out3 :=
  let s := creditBack s m.port.val (tcChannel m)
  if !tcClassOk m then .next (classDrop s m.port.val)
  else if tcKeyOk s m || ringEp s m.src then
    let line := m.off.toNat / 64
    match awayOf s m with
    | some h => .next (sendHome s m h "GntAck" [cmpCode .gntAck])
    | none =>
      match transAt s line with
      | some t =>
        if t.ackFrom = some m.src then .next (endTrans (setTrans s line { t with ackFrom := none }) line) else .next s
      | none => .next s
  else .next (keyDrop s m.port.val)

/-! ## WbDirty (R91, R101) -/

/-- Acknowledge a WbDirty. -/
def ackWb (s : State) (part port : Nat) (src : Endpoint) (tag : Nat) : State :=
  { s with coh := { s.coh with toRetire := s.coh.toRetire ++ [{ port := port, src := src, tag := tag, cmp := .cmpWb, part := part }] } }

/-- Whether a snoop to an endpoint, or the WbDirty it announced, is awaited. -/
def wbAwaited (s : State) (t : Trans) (src : Endpoint) : Bool :=
  t.snoops.any (fun n => n.dest == epHolder s src) || t.wbFrom.contains src

/-- Whether a key holds only RO access to a line (R65). -/
def roOnly (s : State) (key : Key) (line : Nat) : Bool := (extentAt s (line * 64)).any (fun x => accessOf x key == some false)

/-- Whether a WbDirty comes from the recorded owner, or from a holder with an open snoop; a key that holds only RO access never owns a line, and
what it writes back is stray (R65, R101). -/
def wbExpected (s : State) (line : Nat) (src : Endpoint) (key : Key) : Bool :=
  !epFenced s (linePart line) src &&
  (((dirAt s line).bind ownerOf) == some (epHolder s src) ||
   (!roOnly s key line && (transAt s line).any (fun t => wbAwaited s t src)))

/-- Take in a WbDirty that is expected. Under a snoop to its sender the entry stays for the open transaction to decide (R101). -/
def acceptWb (s : State) (line : Nat) (src : Endpoint) (data : Line) (poison : Bool) : State :=
  let s := touchAge (bump s (homeCnt (linePart line) 8)) (line * 64)
  let opened := (transAt s line).any (fun t => wbAwaited s t src)
  let s := if ((dirAt s line).bind ownerOf) = some (epHolder s src) ∧ opened = false then dropDir s line else s
  let keep (s : State) : State :=
    let (k, s) := t1Keep s line data poison
    let s := askMem s line 8 (some k)
    markDirty { s with coh := { s.coh with wbBuf := s.coh.wbBuf ++ [⟨line, src, k.1, k.2⟩] } } line
  match transAt s line with
  | none => keep s
  | some t =>
    let t := { t with dirty := some (data, poison), wbFrom := t.wbFrom.filter (· != src), wbGot := t.wbGot ++ [src] }
    match t.kind with
    | .recalls .discard _ => progress (setTrans s line t) line
    | .recalls .current tag =>
      let s := modStat s tag (fun x => { x with data := tblPut x.data line (data, poison) })
      progress (keep (setTrans s line t)) line
    | .recalls _ tag =>
      let s := modStat s tag (fun x => { x with dirtyWb := x.dirtyWb + 1 })
      progress (keep (setTrans s line t)) line
    | .req _ => progress (keep (setTrans s line t)) line

/-- A stray WbDirty has arrived all the same: a transaction that awaited it waits no longer. -/
def strayWb (s : State) (line : Nat) (src : Endpoint) : State :=
  match transAt s line with
  | none => s
  | some t =>
    if wbAwaited s t src then
      progress (setTrans s line { t with wbFrom := t.wbFrom.filter (· != src), wbGot := t.wbGot ++ [src] }) line
    else s

/-- A WbDirty at its home: written, or discarded as stray (R101, R110, R149). -/
def takeWb (s : State) (line port : Nat) (src : Endpoint) (key : Key) (tag : Nat) (data : Line) (poison : Bool) : State :=
  let p := linePart line
  if wbExpected s line src key then ackWb (acceptWb s line src data poison) p port src tag
  else ackWb (strayWb (bump (homeErr s p 2) (homeCnt p 9)) line src) p port src tag

/-- Note a WbDirty of a source at its port, for FenceSync (R126). -/
def noteWb (s : State) (port : Nat) (src : Endpoint) (tag : Nat) : State :=
  { s with ord := { s.ord with wbs := s.ord.wbs ++ [(port, src, tag, s.ord.arrivals)], arrivals := s.ord.arrivals + 1 } }

/-- Whether a partition's writeback buffer of 512 lines has room: its free lines are the credits of the writeback sub-channel (R91). -/
def wbRoom (s : State) (part : Nat) : Bool := decide ((s.coh.wbBuf.filter (fun w => linePart w.line == part)).length < 512)

/-- WBDIRTY (R91, R92): on the writeback sub-channel of TC7. Without a free line of the writeback buffer its sender has no credit, and the
message waits there. -/
def execWbdirty (m : TcMsg) (tag : BitVec 14) (data : Line) (poison : Bool) (s : State) : Out3 :=
  let line := m.off.toNat / 64
  let back := creditBack s m.port.val (tcChannel m)
  if m.tc ≠ 7 ∨ m.wb = false then .next (classDrop back m.port.val)
  else if tcKeyOk s m || ringEp s m.src then
    match awayOf s m with
    | some h => .next (sendHome (noteWb back m.port.val m.src tag.toNat) m h "WbDirty" [tag.toNat, data.toNat, if poison then 1 else 0])
    | none =>
      if wbRoom s (linePart line) then .next (takeWb (noteWb back m.port.val m.src tag.toNat) line m.port.val m.src m.key tag.toNat data poison)
      else .next s
  else .next (keyDrop back m.port.val)

/-! ## Memory -/

/-- Deliver a line read from memory to the oldest read that waits for it. -/
def deliverRead (s : State) (line : Nat) (poison : Bool) : State :=
  match s.coh.reads.find? (fun p => p.line == line) with
  | some p =>
    let s := { s with coh := { s.coh with reads := s.coh.reads.erase p } }
    sendSnoops (completeReq s p.req p.cmp .ok (some p.data) (p.poison || poison) []) line
  | none =>
    match transAt s line with
    | some t =>
      if t.memWait then
        let v := currentLine s line
        progress (setTrans s line { t with memWait := false, mem := some (v.1, v.2 || poison) }) line
      else s
    | none => s

/-- Whether something waits for a line from memory. -/
def readAwaited (s : State) (line : Nat) : Bool :=
  s.coh.reads.any (fun p => p.line == line) || (transAt s line).any (·.memWait)

/-- The stack and BAU bank of a line in T0 (R242, R243). -/
def bankOfLine (s : State) (line : Nat) : Option (Nat × Nat) :=
  match backAt s (line / 1024) with
  | none => none
  | some x => match x.loc with
    | .t0 st b _ true => some (st, b)
    | .t0 st b _ false => some (st, b + line / 64 % 16)
    | _ => none

/-- The oldest write of a line reaches memory (R98, R100). -/
def writeReached (s : State) (line : Nat) : Out3 :=
  match s.coh.wbBuf.find? (fun w => w.line == line) with
  | some w =>
    let s := { s with coh := { s.coh with wbBuf := s.coh.wbBuf.erase w } }
    .next (endTrans (storeLine s line w.data w.poison) line)
  | none =>
    match transAt s line with
    | none => .next s
    | some t =>
      match t.writing with
      | none => .next s
      | some (d, p) =>
        let s := storeLine s line d p
        match t.kind with
        | .req r =>
          if isHomeWrite r.kind then
            let s := { s with coh := { s.coh with toRetire := s.coh.toRetire ++ t.outs },
                              atm := { s.atm with replay := s.atm.replay ++ t.made } }
            let s := countAtoms s (linePart line) t.made.length t.hits t.stales
            .next (endTrans (setTrans s line { t with writing := none, replied := true }) line)
          else .next (endTrans (setTrans s line { t with writing := none }) line)
        | .recalls _ _ => .next (endTrans (setTrans s line { t with writing := none }) line)

/-! ## Recall engine and snoop retry (R104, R108) -/

/-- Whether a recall snoop may be sent now: after a completion still to be sent, and during a restart once the host's port is ACTIVE (R93, R514). -/
def recallReady (s : State) (line : Nat) (n : Snoop) : Bool :=
  n.sentAt.isNone && !completionPending s line n.dest &&
  (s.sys.st != .restart || (match n.dest with
    | .ep e => (epPort s e).all (portUp s)
    | .ring => true))

/-- Send the first unsent snoop of an open recall. -/
def sendRecallSnoop (s : State) (line : Nat) (t : Trans) : Option State :=
  match t.snoops.find? (recallReady s line) with
  | none => none
  | some n =>
    let g := freshStag s line n.dest
    let s := emitSnoop s line { n with stag := g }
    let tag := match t.kind with
      | .recalls _ g => g
      | .req _ => 0
    let s := modStat s tag (fun x => { x with snoops := x.snoops + 1 })
    some (setTrans s line { t with snoops := t.snoops.map (fun m => if m.dest = n.dest then { m with sentAt := some s.now, stag := g } else m) })

/-- Start the recall of a queued item: its snoops wait to be sent one by one. -/
def startRecall (s : State) (i : RecallItem) : State :=
  let s := { s with coh := { s.coh with recallQ := s.coh.recallQ.erase i } }
  match dirAt s i.line with
  | none => s
  | some e =>
    let hs := holders s i.line e
    let own := match ownerOf e with
      | some y => if hs.contains y then [y] else []
      | none => []
    let ns := match i.kind with
      | .exclusive => snoopsTo e .inv true hs
      | .discard => snoopsTo e .inv true hs
      | .downgrade => snoopsTo e .shr true own
      | .current => snoopsTo e .cur true own
    if ns.isEmpty then (if i.kind = .exclusive ∨ i.kind = .discard then dropDir s i.line else s)
    else setTrans s i.line { kind := .recalls i.kind i.tag, tracker := true, snoops := ns }

/-- Whether a transaction of a partition is a recall with a snoop that can be sent now. -/
def recallOpen (s : State) (part : Nat) (e : Nat × Trans) : Bool :=
  linePart e.1 == part && (match e.2.kind with
    | .recalls _ _ => true
    | .req _ => false) && e.2.snoops.any (recallReady s e.1)

/-- RECALL_SNOOP_ISSUE (R104): at most 256 recall snoops of a partition in any µs. -/
def execRecallSnoopIssue (part : PartId) (s : State) : Out3 :=
  let recent := (tblGet s.coh.recallTimes part.val []).filter (fun t => s.now < t + 1000)
  if 256 ≤ recent.length then .next s
  else
    let note (s : State) : State :=
      { s with coh := { s.coh with recallTimes := tblPut s.coh.recallTimes part.val (s.now :: recent) } }
    let opened := s.coh.trans.find? (recallOpen s part.val)
    match opened with
    | some (line, t) =>
      match sendRecallSnoop s line t with
      | some s => .next (note s)
      | none => .next s
    | none =>
      match s.coh.recallQ.find? (fun i => linePart i.line == part.val && (transAt s i.line).isNone) with
      | none => .next s
      | some i =>
        if trackerFree s part.val && (oldestStarved s part.val).isNone then
          let s := startRecall s i
          match transAt s i.line with
          | none => .next s
          | some t =>
            match sendRecallSnoop s i.line t with
            | some s => .next (note s)
            | none => .next s
        else .next s

/-- Snoop timeout of a partition in ns (R108). -/
def snpTimeout (s : State) (part : Nat) : Nat := 1000 * fld s (sliceBase part + 0x8000) 0 20

/-- SNOOP_RETRY (R108): at half the timeout the snoop is sent once more. -/
def execSnoopRetry (off : PoolOff) (dst : Endpoint) (s : State) : Out3 :=
  let line := off.toNat / 64
  let p := linePart line
  match transAt s line with
  | none => .next s
  | some t =>
    match t.snoops.find? (fun n => n.dest == .ep dst) with
    | none => .next s
    | some n =>
      match n.sentAt with
      | none => .next s
      | some t0 =>
        if n.retried = false ∧ t0 + snpTimeout s p / 2 ≤ s.now then
          let s := bump (bump (homeErr s p 1) (homeCnt p 3)) (homeCnt p 1)
          let s := sendTc7 s p dst 0 (fun _ => .snp dst line n.kind (epCxl s dst) n.stag)
          .next (setTrans s line { t with snoops := t.snoops.map (fun m => if m.dest = n.dest then { m with retried := true } else m) })
        else .next s

end Sys2Proof.Machine
end

