-- ==== Sys2Proof/Machine/Egress.lean ====
section
/-! DEFINITION. Egress queues and the egress scheduler of a port (16, R389, R390, R397 to R403), and the combining of atomics
that wait at a trunk port (06, R152, R153). -/

namespace Sys2Proof.Machine

/-! ## Queues -/

/-- Lanes of a port in use: those of its link, else as configured (R15, R420, R440). -/
def portLanes (s : State) (p : Nat) : Nat :=
  let w := if isCxl s p then (tblGet s.link.cxl p {}).width else (tblGet s.link.links p {}).width
  if w = 0 then 2 ^ fld s (portBase p) 3 2 else w

/-- A port's link data rate in Mb/s: of a Bromet lane (R412), of a CXL lane 64, 32 or 16 GT/s (R440). -/
def portRate (s : State) (p : Nat) : Nat :=
  portLanes s p * (if isCxl s p then 64000 / 2 ^ (tblGet s.link.cxl p {}).rate else 400000)

/-- Units of a port at the width in use (R355, R420). -/
def portUnits (s : State) (p : Nat) : Nat := 16 * portLanes s p

/-- The rate R of R397, in Mb/s. -/
def egressRate (s : State) (p : Nat) : Nat :=
  let u := fld s (portBase p + 0x600) 8 8
  if u = 0 then portRate s p else Nat.min (portRate s p) (25000 * u)

/-- The tenant queue of a key (R398). -/
def tenantQueue (s : State) (k : Key) : Nat :=
  match s.pool.tenants.find? (fun t => t.2.valid && t.2.key == k) with
  | some t => t.1
  | none => if k = 0xFFFF then fld s 0x34000 12 12 else fld s 0x34000 0 12

/-- Packets of a port and class in its egress queues. -/
def queued (s : State) (p tc : Nat) : List EPkt := s.cong.egress.filter (fun e => e.port == p && e.tc == tc)

/-- Cells that a packet takes. -/
def pktCells (e : EPkt) : Nat := (e.len + 255) / 256

/-- Cells of a class queued at a port. -/
def queuedCells (s : State) (p tc : Nat) : Nat := ((queued s p tc).map pktCells).sum

/-- Whether a class has tenant queues below it: the weighted classes. -/
def weighted (tc : Nat) : Bool := tc != 7 && tc != 4

/-- Tenant queue contexts taken at the egress slice of a port (R399). -/
def tqContexts (s : State) (p : Nat) : List (Nat × Nat × Nat) :=
  (s.cong.egress.filterMap (fun e => if e.port / 8 = p / 8 then e.tq.map (fun q => (e.port, e.tc, q)) else none)).eraseDups

/-! ## Scheduler nodes (R400, R401) -/

/-- Keys of a class node and of a tenant queue; the overflow queue counts as queue 65,536. -/
def classKey (p tc : Nat) : Nat := p * 2 ^ 20 + tc * 2 ^ 17
def queueKey (p tc : Nat) (q : Option Nat) : Nat := classKey p tc + 1 + q.getD 65536
def childOf (s : State) (k : Nat) : SChild := tblGet s.cong.children k {}
def setChild (s : State) (k : Nat) (c : SChild) : State :=
  { s with cong := { s.cong with children := tblPut s.cong.children k c } }
def vtimeOf (s : State) (k : Nat) : Word := tblGet s.cong.vtime k 0

/-- The scheduling profile of a tenant queue in a class (R398). -/
def profOf (s : State) (tc q : Nat) : Nat :=
  let i := if tc = 5 then 4 else if tc = 6 then 5 else tc
  fld s (0x38000 + 8 * q) (6 * i) 6

/-- Weight, share and ballast cap in bytes of a child; the overflow queue has weight 1 and no share (R399). -/
def classParams (s : State) (p tc : Nat) : Nat × Nat × Nat :=
  let a := portBase p + 0x620 + 8 * tc
  (fld s a 0 8, fld s a 8 10, 1024 * fld s (portBase p + 0x600) 16 16)
def queueParams (s : State) (tc : Nat) (q : Option Nat) : Nat × Nat × Nat :=
  match q with
  | none => (1, 0, 0)
  | some t =>
    let a := 0x34200 + 8 * profOf s tc t
    (fld s a 0 8, fld s a 8 10, 1024 * fld s a 18 14)

/-- One byte of ballast in the units it is kept in. -/
def ballastUnit : Nat := 8192000

/-- Accrue ballast of a backlogged child up to now (R400). -/
def accrue (s : State) (p : Nat) (k : Nat) (share cap : Nat) : SChild :=
  let c := childOf s k
  if c.backlogged then
    let b := c.b + (share * egressRate s p * (s.now - c.at_) : Nat)
    { c with b := min ((cap * ballastUnit : Nat) : Int) b, at_ := s.now }
  else { c with at_ := s.now }

/-- A child that becomes backlogged wakes (R401). -/
def wake (s : State) (node k : Nat) : State :=
  let c := childOf s k
  if c.backlogged then s
  else setChild s k { c with s := vtimeOf s node, b := min c.b 0, at_ := s.now, backlogged := true }

/-! ## Sending on a link (R426, R429, R433) -/

/-- Flits that a packet takes: 240 B of slots each. -/
def pktFlits (e : EPkt) : Nat := Nat.max 1 ((e.len + 239) / 240)

/-- Whether a packet finds the link credits of its messages, one for each cell, up to the channel's grant (R426, R428). -/
def creditReady (s : State) (e : EPkt) : Bool :=
  isCxl s e.port || (tblFind s.link.links e.port).any (fun l =>
    decide (Nat.max 1 (Nat.min (pktCells e) (tblGet l.grant e.tc 0)) ≤ tblGet l.credTx e.tc 0))

/-- Whether every earlier packet of a path marker's class has left the port (R353). -/
def markerClear (s : State) (e : EPkt) : Bool := !e.marker || !(queued s e.port e.tc).any (fun x => x.num < e.num)

/-- Whether a packet may be sent now: credits, room in the replay buffer, and a key phase that has not ended (R426, R429, R436); a marker once
nothing of its class is ahead of it. -/
def txReady (s : State) (e : EPkt) : Bool :=
  markerClear s e && creditReady s e && (isCxl s e.port || (tblFind s.link.links e.port).any (fun l =>
    decide (l.replay.length + pktFlits e ≤ 1024) &&
    (!l.encOn || decide (tblGet l.counters (if l.txPhase then 1 else 0) 0 + pktFlits e ≤ 2 ^ 48))))

/-- Send a packet's flits: sequence numbers, replay buffer, credits, the acknowledgement that they carry, and flit counters (R422, R426, R429, R433). -/
def sendFlits (s : State) (e : EPkt) : State :=
  match (if isCxl s e.port then none else tblFind s.link.links e.port) with
  | none => s
  | some l =>
    let n := pktFlits e
    let ph := if l.txPhase then 1 else 0
    let c := tblGet l.counters ph 0 + n
    let s := bumpBy s (linkCnt e.port 0) n
    let s := if l.encOn && decide (2 ^ 47 ≤ c) then setBit s (portBase e.port + 0x28) 7 else s
    { s with link := { s.link with links := tblPut s.link.links e.port { l with
      txNext := (l.txNext + n) % 4096
      replay := l.replay ++ (List.range n).map (fun i => ((l.txNext + i) % 4096, s.now))
      credTx := tblMod l.credTx e.tc 0 (fun x => x - Nat.max 1 (pktCells e))
      owed := 0
      ackAt := s.now
      counters := if l.encOn then tblPut l.counters ph c else l.counters } } }

/-- Count the messages at the heads of a port's queues that wait for a credit, each once (R439). -/
def noteStalls (s : State) (p : Nat) : State :=
  let late := s.cong.egress.filter (fun e => e.port == p && !e.stalled && !creditReady s e)
  let s := bumpBy s (linkCnt p 14) late.length
  { s with cong := { s.cong with egress := s.cong.egress.map (fun e => if late.any (fun x => x.num == e.num) then { e with stalled := true } else e) } }

/-- Put a packet into its egress queue, the tenant queue that its cells carry or that of its key (R398): its class node and tenant queue wake; marks
are set where the queue is deep (R389, R390, R399, R401). -/
def pushEgress (s : State) (e : EPkt) (key : Key) (dataCmp : Bool) : State :=
  let p := e.port
  let depth := queuedCells s p e.tc
  let cfg := portBase p + 0x608
  let marks := e.grp.isNone && ((e.tc == 6 && decide (fld s cfg 0 16 ≤ depth)) || (e.tc == 5 && decide (fld s cfg 16 16 ≤ depth)))
  let echo := dataCmp && e.tc == 7 && decide (fld s cfg 32 16 ≤ depth)
  let s := if marks && !e.mark then bump s (portCongCnt p 0) else s
  let s := if echo then bump s (portCongCnt p 1) else s
  let body := match e.body with
    | .req r b => .req { r with mark := r.mark || marks } b
    | x => x
  let want := e.tq.getD (tenantQueue s key)
  let taken := tqContexts s p
  let beyond := weighted e.tc && !taken.contains (p, e.tc, want) && decide (16384 ≤ taken.length)
  let s := if beyond then bump s (portCongCnt p 8) else s
  let tq := if weighted e.tc && !beyond then some want else none
  let s := if weighted e.tc && e.grp.isNone then wake (wake s (p * 16 + 8) (classKey p e.tc)) (p * 16 + e.tc) (queueKey p e.tc tq) else s
  let e := { e with num := s.cong.nextPkt, tq := tq, mark := e.mark || marks || echo, entered := s.now, body := body }
  { s with cong := { s.cong with egress := s.cong.egress ++ [e], nextPkt := s.cong.nextPkt + 1 } }

/-- The charged length of a packet (R400). -/
def charged (s : State) (e : EPkt) : Nat := e.len + fld s (portBase e.port + 0x600) 0 8

/-- Tags are compared by their signed difference modulo 2^64 (R400). -/
def tagLt (a b : Word) : Bool := decide ((a - b).toInt < 0)

/-- A candidate of a choice: its key, weight, child state after accrual, and the charged length of its head packet. -/
structure Cand where
  key : Nat
  weight : Nat
  child : SChild
  len : Nat
  finish : Word

/-- Make a candidate; F is computed from S and the head packet. -/
def candOf (s : State) (p k : Nat) (params : Nat × Nat × Nat) (head : EPkt) : Cand :=
  let c := accrue s p k params.2.1 params.2.2
  let len := charged s head
  ⟨k, params.1, c, len, c.s + BitVec.ofNat 64 (len * 65536 / Nat.max 1 params.1)⟩

/-- The child with the smallest F, first among those in guarantee, ties to the first (R400). -/
def chooseCand (cs : List Cand) : Option Cand :=
  let pool := match cs.filter (fun c => decide (0 < c.child.b)) with
    | [] => cs
    | g => g
  match pool with
  | [] => none
  | c :: r => some (r.foldl (fun a b => if tagLt b.finish a.finish then b else a) c)

/-- Charge the chosen child and advance the tags of it and of its node (R400). -/
def chargeCand (s : State) (node : Nat) (cap : Nat) (c : Cand) : State :=
  let low : Int := -((cap * ballastUnit : Nat) : Int)
  let b := max low (c.child.b - (c.len * ballastUnit : Nat))
  let s := setChild s c.key { c.child with b := b, s := c.finish, f := c.finish }
  { s with cong := { s.cong with vtime := tblPut s.cong.vtime node c.finish } }

/-- Store the accrued ballast of every candidate that was not chosen. -/
def keepAccrued (s : State) (cs : List Cand) : State :=
  cs.foldl (fun s c => setChild s c.key { c.child with f := c.finish }) s

/-- The tenant queues of a class that hold a packet, lowest first, each with its head. -/
def queueHeads (s : State) (p tc : Nat) : List (Option Nat × EPkt) :=
  let q := (queued s p tc).filter (fun e => e.grp.isNone)
  let names := (q.map (fun e => e.tq)).eraseDups
  (names.filterMap (fun n => ((q.find? (fun e => e.tq == n)).filter (txReady s)).map (fun e => (n, e)))).mergeSort
    (fun a b => a.1.getD 65536 ≤ b.1.getD 65536)

/-- Choose in a class node: the queue's candidates and the head packet chosen. -/
def chooseQueue (s : State) (p tc : Nat) : Option (List Cand × Cand × EPkt) :=
  let hs := queueHeads s p tc
  let cs := hs.map (fun h => candOf s p (queueKey p tc h.1) (queueParams s tc h.1) h.2)
  match chooseCand cs with
  | none => none
  | some c => (hs.find? (fun h => queueKey p tc h.1 == c.key)).map (fun h => (cs, c, h.2))

/-- The packet that the port sends next by strict rank, among heads that may be sent: TC7, tether groups 0 to 3, TC4 (R397). -/
def strictHead (s : State) (p : Nat) : Option EPkt :=
  let group (g : Nat) : Option EPkt := s.cong.egress.find? (fun e => e.port == p && e.grp == some g)
  let heads := (queued s p 7).head? :: ((List.range 4).map group ++ [(queued s p 4).head?])
  heads.findSome? (fun h => h.filter (txReady s))

/-- What a port was given to send in its last 81.92 ns frame. -/
def frameLog (s : State) (p : Nat) : List (Nat × Nat) := (tblGet s.cong.sentLog p []).filter (fun x => decide (s.now * 1000 < x.1 * 1000 + 81920))

/-- Whether a port may send a packet now: it does not exceed R over its last 81.92 ns frame, or everything before it has been sent at rate R (R397). -/
def shapeOk (s : State) (e : EPkt) : Bool :=
  decide (tblGet s.cong.sentAt e.port 0 ≤ s.now * 1000) ||
  decide (((frameLog s e.port).map (·.2)).sum + e.len ≤ egressRate s e.port * 32 / 3125)

/-- A copy of a shared cell has left for its port island: the last one frees the cell (R364, R379). -/
def dropShare (t : Tbl (Nat × Nat)) (k : Nat) : Tbl (Nat × Nat) :=
  match tblFind t k with
  | some (pos, n) => if n ≤ 1 then tblErase t k else tblPut t k (pos, n - 1)
  | none => t

/-- Cells leave the core: their stage credits return (R366), and their shared cells lose a copy. -/
def leaveCore (s : State) (tuples shares : List Nat) : State :=
  { s with core := { s.core with leaving := s.core.leaving ++ tuples, shares := shares.foldl dropShare s.core.shares } }

/-- Take a packet out of its queue: its stage credits return as its cells leave (R366), and children that hold no packet any more
are idle. -/
def takePkt (s : State) (e : EPkt) : State :=
  let rest := s.cong.egress.filter (fun x => x.num != e.num)
  let s := leaveCore { s with cong := { s.cong with egress := rest } } e.tuples e.shares
  let idleQ := !rest.any (fun x => x.port == e.port && x.tc == e.tc && x.tq == e.tq && x.grp.isNone)
  let idleC := !rest.any (fun x => x.port == e.port && x.tc == e.tc && x.grp.isNone)
  let rested (s : State) (k : Nat) : State := setChild s k { childOf s k with backlogged := false }
  let s := if weighted e.tc && idleQ then rested s (queueKey e.port e.tc e.tq) else s
  if weighted e.tc && idleC then rested s (classKey e.port e.tc) else s

/-- Whether a fence has pruned the member or port that a multicast copy is for (R333). -/
def copyGone (s : State) (p : Nat) (c : Option (Nat × Option Nat)) : Bool :=
  c.any (fun x => (tblFind s.train.trains x.1).any (fun t => match x.2 with
    | some m => t.prunedM.contains m
    | none => t.prunedP.contains p))

/-- Count cells that a port island drops: copies of a train under R333, others under R344. -/
def countDropped (s : State) (p : Nat) (c : Option (Nat × Option Nat)) (n : Nat) : State :=
  bumpBy s (if c.isSome then trainCnt 3 else portRouteCnt p 4) n

/-- Drop a packet of an egress queue in the port island. -/
def dropPkt (s : State) (e : EPkt) : State := countDropped (takePkt s e) e.port e.copyOf (pktCells e)

/-- Send a packet on its port. -/
def transmitPkt (s : State) (e : EPkt) : State :=
  let busy := e.len * 8000 * 1000 / Nat.max 1 (egressRate s e.port)
  let free := Nat.max (tblGet s.cong.sentAt e.port 0) (s.now * 1000)
  let log := frameLog s e.port ++ [(s.now, e.len)]
  let s := sendFlits s e
  let s := takePkt { s with cong := { s.cong with sentAt := tblPut s.cong.sentAt e.port (free + busy), sentLog := tblPut s.cong.sentLog e.port log } } e
  let s := bumpBy s (coreCnt (e.port / 8) 2) (pktCells e)
  match e.body with
  | .req r b => emit s (.forward e.port b (reqCode r.kind) r)
  | .cmp m => emit s (.cmp e.port m.dst m.tag.toNat m.kind m.status m.data m.poison (m.echo || e.mark))
  | .msg w f => emit s (.send e.port w f)

/-- Hand a packet to its port island, which drops a copy whose member or port has been pruned (R379). -/
def sendPkt (s : State) (e : EPkt) : State := if copyGone s e.port e.copyOf then dropPkt s e else transmitPkt s e

/-- Choose and send the next packet of a port; one that would exceed the port's rate is held back (R397, R400). -/
def scheduleNext (s : State) (p : Nat) : State :=
  match strictHead s p with
  | some e => if shapeOk s e then sendPkt s e else s
  | none =>
    let picks := [0, 1, 2, 3, 5, 6].filterMap (fun tc => (chooseQueue s p tc).map (fun q => (tc, q)))
    let cs := picks.map (fun x => candOf s p (classKey p x.1) (classParams s p x.1) x.2.2.2)
    match chooseCand cs with
    | none => s
    | some c =>
      match picks.find? (fun x => classKey p x.1 == c.key) with
      | none => s
      | some (tc, qs, q, e) =>
        if !shapeOk s e then s
        else
        let s := chargeCand (keepAccrued s cs) (p * 16 + 8) (classParams s p tc).2.2 c
        sendPkt (chargeCand (keepAccrued s qs) (p * 16 + tc) (queueParams s tc e.tq).2.2 q) e

/-- EGRESS_SCHEDULE (R397 to R403). -/
def execEgressSchedule (p : PortId) (s : State) : Out3 :=
  if portUp s p.val then .next (scheduleNext (noteStalls s p.val) p.val) else .next s

/-! ## Combining at trunk ports (R152, R153) -/

/-- Whether the fields of an atomic let it be merged (R139, R152). -/
def combFields (r : Req) : Bool :=
  r.atom.comb && !r.atom.exact && !r.rel && !r.acq && decide (r.atom.op.toNat < 9)

/-- Whether an atomic may be merged on its way. -/
def combinable (r : Req) : Bool := (r.kind == .atomFar || r.kind == .atomComb) && combFields r

/-- Whether an atomic may be merged in a Far line's queue, where an AtomNear is applied as an AtomFar (R143, R152). -/
def farCombinable (r : Req) : Bool := (r.kind == .atomFar || r.kind == .atomComb || r.kind == .atomNear) && combFields r

/-- Whether two atomics have the same target, operation, size and format. -/
def sameAtom (a b : Req) : Bool :=
  a.addr == b.addr && a.atom.op == b.atom.op && a.atom.size == b.atom.size && a.atom.fmt == b.atom.fmt

/-- The request of a packet, with its bridle. -/
def pktReq (e : EPkt) : Option (Req × Word) :=
  match e.body with
  | .req r b => some (r, b)
  | _ => none

/-- Whether a waiting request holds one of the ordered stream of another (R121). A contributor record of a group names no OTAG, so it counts as
one of every stream of its endpoint. -/
def holdsStream (x r : Req) : Bool :=
  x.addr.toNat / 2 ^ 48 == r.addr.toNat / 2 ^ 48 && reqPart x == reqPart r && x.tc == r.tc &&
  (if x.kind = .atomComb then (atomRecs r).any (fun y => (atomRecs x).any (fun z => z.ep == y.ep))
    else (atomRecs r).any (fun y => y.ep == x.src) && (x.otag == r.otag || r.kind == .atomComb))

/-- The packet waiting at a trunk port that an atomic may join: on the same bridle, with no request of its own stream waiting behind it. -/
def joinTarget (s : State) (p : Nat) (b : Word) (r : Req) : Option EPkt :=
  let q := s.cong.egress.filter (fun e => e.port == p)
  q.find? (fun e => (pktReq e).any (fun x => x.2 == b && combinable x.1 && sameAtom x.1 r && x.1.tc == r.tc &&
      decide ((atomRecs x.1).length + (atomRecs r).length ≤ 14)) &&
    !q.any (fun y => e.num < y.num && (pktReq y).any (fun z => holdsStream z.1 r)))

/-- Free tags of the 64-entry combining buffer of a port. -/
def splitTag (s : State) (p : Nat) : Option Nat :=
  (List.range 64).find? (fun t => !s.atm.splits.any (fun x => x.port == p && x.tag.toNat == t))

/-- Bytes that a request takes on a trunk: header and route slot, and its data slots (R422, R424, R425). -/
def reqLen (r : Req) : Nat :=
  match r.kind with
  | .wrLine => 96
  | .wrPtl => 112
  | .atomNear => if r.atom.op = 0xA then 80 else 64
  | .atomFar => if r.atom.op = 0xA then 80 else 64
  | .atomComb => 48 + 16 * r.recs.length
  | _ => 32

/-- The records of an AtomComb carry no RSEQ (R424): the switch that merges a request sends its RSEQ on by itself, ahead of the group (DESIGN
CHOICE, log entry 101: the spec does not say what becomes of it). -/
def passRseq (s : State) (r : Req) : State :=
  match r.rseq with
  | some q =>
    let home := r.addr.toNat / 2 ^ 48
    sendFlow s r.src home 0 6 0 none (fun p => .send p "AtomRetire" [r.src.toNat, home, q.toNat])
  | none => s

/-- Merge an atomic into a waiting packet, which becomes an AtomComb with a split record (R153). -/
def mergeInto (s : State) (p : Nat) (e : EPkt) (x r : Req) (b : Word) : Option State :=
  let recs := atomRecs x ++ atomRecs r
  let put (s : State) (q : Req) : State :=
    { s with cong := { s.cong with egress := s.cong.egress.map (fun y => if y.num = e.num then { y with body := .req q b, len := reqLen q } else y) } }
  match s.atm.splits.find? (fun t => t.port == p && t.tag == x.tag && x.kind == .atomComb && x.src == devEp s) with
  | some t =>
    let s := { s with atm := { s.atm with splits := s.atm.splits.map (fun y => if y = t then { y with recs := recs } else y) } }
    some (bumpBy (put (passRseq s r) { x with recs := recs, poison := x.poison || r.poison }) (portTelCnt p 7) (atomRecs r).length)
  | none =>
    match splitTag s p with
    | none => none
    | some t =>
      let tag := BitVec.ofNat 14 t
      let s := { s with atm := { s.atm with splits := s.atm.splits ++ [⟨p, tag, recs⟩] } }
      let q := { x with kind := .atomComb, src := devEp s, tag := tag, recs := recs, rseq := none, poison := x.poison || r.poison }
      some (bumpBy (put (passRseq (passRseq s x) r) q) (portTelCnt p 7) recs.length)

/-- Put a request on its bridle into the egress queue of its first hop, merging it where it may be (R152, R349). -/
def queueReq (s : State) (p : Nat) (b : Word) (r : Req) : State :=
  let e : EPkt := { num := 0, port := p, tc := r.tc.toNat, tq := none, len := reqLen r, body := .req r b }
  if isTrunk s p && flag s (portBase p + 0xA00) 0 && combinable r then
    match (joinTarget s p b r).bind (fun w => (pktReq w).map (fun x => (w, x.1))) with
    | some (w, x) => (mergeInto s p w x r b).getD (bump (pushEgress s e r.key false) (portTelCnt p 8))
    | none => pushEgress s e r.key false
  else pushEgress s e r.key false

end Sys2Proof.Machine
end

