-- ==== Sys2Proof/Machine/Access.lean ====
section
/-! DEFINITION. The checks of a request at its home device (03, R65 to R67, R71, R73), the choice of a bridle (14, R349,
R353, R358), and the reads and writes that the device's own engines make in the pool (04, 08). -/

namespace Sys2Proof.Machine

/-! ## Checks (R65) -/

/-- The status of a refusal at step 3 (R67): the newest event of the key at the offset is a removal within 1,000 ms. -/
def refusalOf (s : State) (key : Key) (off : Nat) : Status :=
  match s.pool.history.find? (fun e => e.key == key && e.lo ≤ off && off < e.hi) with
  | some e => if !e.granted && s.now ≤ e.time + 1000000000 then .revoked else .keyReject
  | none => .keyReject

/-- Step 3 of R65: a refusal, or whether the request passes only through an RO grant. Key 0xFFFF may make three kinds of
request (R73). -/
def extentCheck (s : State) (key : Key) (k : ReqKind) (off : Nat) : Status ⊕ Bool :=
  match extentAt s off with
  | none => .inl (refusalOf s key off)
  | some x =>
    match accessOf x key with
    | none => .inl (refusalOf s key off)
    | some rw =>
      if key == 0xFFFF && k != .rdNC && k != .wrLine && k != .wrPtl then .inl .keyReject
      else if !rw && isWriteKind k then .inl (refusalOf s key off)
      else .inr (!rw)

/-- Step 4 of R65: whether a write finds its page allocated or can allocate it. -/
def allocCheck (s : State) (k : ReqKind) (off : Nat) : Bool :=
  !isWriteKind k || (match extentAt s off with
    | some x => writable s (pageOf off) x
    | none => false)

/-- The positions of a byte range at which its extent, object or page may change: its start and each 4 KiB boundary. -/
def checkPoints (lo len : Nat) : List Nat :=
  lo :: (List.range ((lo % 4096 + len + 4095) / 4096 - 1)).map (fun i => (lo / 4096 + 1 + i) * 4096)

/-- The checks of an engine's unit with its checked key (R66, R71): the object check stands between steps 3 and 4 (R167). The first
refusal. -/
def unitCheck (s : State) (key : Key) (write : Bool) (lo len : Nat) : Option Status :=
  (checkPoints lo len).findSome? (fun off =>
    match extentCheck s key (if write then .wrLine else .rdNC) off with
    | .inl st => some st
    | .inr _ =>
      match objectCheck s key write off with
      | some st => some st
      | none => if allocCheck s (if write then .wrLine else .rdNC) off then none else some .overQuota)

/-! ## Requests into the fabric (R56, R349, R353) -/

/-- Send a request toward its home (R56, R349): held behind a marker, on its bridle, or answered where it has no path. -/
def forwardReq (s : State) (r : Req) : State :=
  let dsw := r.addr.toNat / 2 ^ 48
  let part := reqPart r
  match heldMarker s r.src dsw part r.tc.toNat r.otag.toNat none with
  | some m => bump { s with route := { s.route with moved := s.route.moved ++ [(m, r)] } } (routeCnt 2)
  | none =>
    match bridleFor s r.src dsw part r.tc.toNat r.otag.toNat none with
    | some b => queueReq s (bPort b 0) b r
    | none => refuseReq (bump s (routeCnt 3)) r .fenced

/-! ## Reads and writes by engines -/

/-- Send a request of a device engine toward the home of its first line, in TC5 (R198, R318, R349). -/
def sendEngine (s : State) (a : Nat) (what : String) (fields : List Nat) : State :=
  sendFlow s (devEp s) (a / 2 ^ 48) (partOf (a % 2 ^ 48)) 5 0 none (fun p => .send p what (a :: fields))

/-- Lines with their marks, as the fields of a message. -/
def lineFields (ls : List (Line × Bool)) : List Nat := ls.flatMap (fun l => [l.1.toNat, if l.2 then 1 else 0])

/-- The lines of a byte range. -/
def linesIn (lo len : Nat) : List Nat := (List.range ((lo % 64 + len + 63) / 64)).map (fun i => lo / 64 + i)

/-- Ask for the newest data of a range: owned lines are snooped for their current value, as by RdNC (R101, R194). -/
def askRead (s : State) (lo len tag : Nat) : State :=
  queueRecalls s lo (lo + len) .current tag (fun _ e => (ownerOf e).isSome)

/-- Ask that no copy of a range is left, as WrLine does (R101). -/
def askWrite (s : State) (lo len tag : Nat) : State := queueRecalls s lo (lo + len) .exclusive tag (fun _ _ => true)

/-- Whether no Blocked line (R98, R148), writeback or hold stands in the way of an engine's access to a range. -/
def rangeQuiet (s : State) (lo len : Nat) (write : Bool) : Bool :=
  let inside (line : Nat) : Bool := lo < line * 64 + 64 && line * 64 < lo + len
  !s.coh.trans.any (fun e => inside e.1) &&
  !s.atm.hot.any (fun e => inside e.1 && (e.2.mode == .entering || e.2.mode == .leaving)) &&
  !s.coh.holds.any (fun h => h.lo < lo + len && lo < h.hi && (h.lock || write)) &&
  !s.coh.wbBuf.any (fun w => inside w.line) && !(write && s.coh.dir.any (fun e => inside e.1))

/-- A line as an engine reads it: what its recall returned, or the home's newest value. -/
def engineLine (s : State) (tag line : Nat) : Line × Bool :=
  match tblFind (statOf s tag).data line with
  | some d => d
  | none => currentLine s line

/-- Lines of the pool, as an engine reads them. -/
def engineLines (s : State) (tag line n : Nat) : List (Line × Bool) :=
  (List.range n).map (fun i => engineLine s tag (line + i))

/-- Bytes of the pool as an engine reads them, and whether any line of them is poisoned. -/
def engineBytes (s : State) (tag lo len : Nat) : List Byte × Bool :=
  let ls := (linesIn lo len).map (engineLine s tag)
  (((ls.flatMap (fun l => lineBytes l.1)).drop (lo % 64)).take len, ls.any (·.2))

/-- Put a line's new value where its value is kept: the Far buffer of a Far line, counted as a line operation there, else memory (R149,
R151). -/
def placeLine (s : State) (line : Nat) (d : Line) (poison : Bool) : State :=
  let s := markDirty s line
  match hotAt s line with
  | some h =>
    if h.mode = .far then bump (setHot s line { h with buf := d, poison := poison, lastReq := s.now }) (farCnt (linePart line) 3)
    else storeLine s line d poison
  | none => storeLine s line d poison

/-- Write one line as the home does for an engine, on a T1 page with room for its block (`t1Fit`): a WrLine, which is a transfer outside Far mode
(R101, R146, R149). -/
def engineWriteLine (s : State) (line : Nat) (d : Line) (poison : Bool) : State :=
  let far := farMode s line == .far
  let s := placeLine s line d poison
  if far then s else noteTransfer s line

/-- Count what an engine's read of a range does: line operations of Far lines (R149, R163), T1 blocks decoded (R225), requests to donor pages
(R193); the ages of its pages become 0 (R61). -/
def noteEngineRead (s : State) (lo len : Nat) : State :=
  let lines := linesIn lo len
  let s := (lines.filter (fun l => farMode s l == .far)).foldl (fun s l => bump s (farCnt (linePart l) 3)) s
  let s := ((lines.map (· / 64)).eraseDups).foldl (fun s blk =>
    match backAt s (blk / 16), backIdOf s (blk / 16) with
    | some b, some id => if locTier b.loc = .t1 ∧ b.lost = false then noteDecoded s id [blk % 16] else s
    | _, _ => s) s
  ((lines.map (· / 1024)).eraseDups).foldl (fun s page =>
    let s := touchAge s (page * 65536)
    match (backAt s page).map (fun (b : Back) => b.loc) with
    | some (Loc.t2 d n) => askDonor s (donorAddr s d n) []
    | _ => s) s

/-- Make the pages of a byte range ready to be written under the extents its check found (R58, R69, R172). -/
def rangeReady (xs : List Extent) : List Nat → State → PageReady
  | [], s => .ok s
  | off :: r, s =>
    match readyForWrite s xs off with
    | .ok s => rangeReady xs r (touchAge s off)
    | .wait s => .wait s
    | .quota => .quota

/-- A byte of each page of a range. -/
def pagePoints (lo len : Nat) : List Nat :=
  lo :: (List.range ((lo % 65536 + len + 65535) / 65536 - 1)).map (fun i => (lo / 65536 + 1 + i) * 65536)

/-- Write whole lines from `line` on, up to the first whose T1 block has outgrown its trays (R225); whether all were written. -/
def writeLines : State → Nat → List (Line × Bool) → State × Bool
  | s, _, [] => (s, true)
  | s, line, d :: r =>
    match t1Fit s line d.1 d.2 with
    | none => (bump s (cmpCnt 8), false)
    | some s => writeLines (engineWriteLine s line d.1 d.2) (line + 1) r

/-- What an engine's write comes to: done; waiting for a page copy; refused OVER_QUOTA, with the state that it leaves. -/
inductive EngineWrote where
  | done (s : State)
  | wait (s : State)
  | quota (s : State)

/-- Write whole lines of the pool as an engine, allocating pages under the extents its check found. -/
def engineWrite (s : State) (xs : List Extent) (line : Nat) (ds : List (Line × Bool)) : EngineWrote :=
  let pts := pagePoints (line * 64) (64 * ds.length)
  match rangeReady xs pts s with
  | .quota => .quota s
  | .wait s => .wait s
  | .ok s =>
    let (s, all) := writeLines s line ds
    if all then .done s else .quota s

/-- The lines that bytes at `lo` make with what is there already (partial lines keep their other bytes). -/
def overlay (s : State) (lo : Nat) (bytes : List Byte) (poison : Bool) : List (Line × Bool) :=
  (linesIn lo bytes.length).map (fun line =>
    let old := currentLine s line
    let base := line * 64
    let d := bytesLine ((List.range 64).map (fun i =>
      if lo ≤ base + i ∧ base + i < lo + bytes.length then bytes.getD (base + i - lo) 0 else lineByte old.1 i))
    let whole := decide (lo ≤ base ∧ base + 64 ≤ lo + bytes.length)
    (d, poison || (old.2 && !whole)))

/-- Write bytes of the pool as an engine. -/
def engineWriteBytes (s : State) (lo : Nat) (bytes : List Byte) (poison : Bool) : EngineWrote :=
  if bytes.isEmpty then .done s else engineWrite s [] (lo / 64) (overlay s lo bytes poison)

/-- Drop the filter entries of a byte range: every copy has been recalled. -/
def dropDirs (s : State) (lo hi : Nat) : State :=
  { s with coh := { s.coh with dir := s.coh.dir.filter (fun e => e.1 * 64 < lo || hi ≤ e.1 * 64) } }

/-- Drop the port islands' cached entries of a page (R60). -/
def dropCached (s : State) (page : Nat) : State :=
  { s with pool := { s.pool with xlate := s.pool.xlate.map (fun e => (e.1, e.2.filter (· != page))) } }

end Sys2Proof.Machine
end

