-- ==== Sys2Proof/Machine/CmpOps.lean ====
section
/-! DEFINITION. Table slots, generations and their references (09, R226 to R229), and error records by unit and cause (20). -/

namespace Sys2Proof.Machine

/-- The fabric address of a pool offset of this device. -/
def fabAddr (s : State) (off : Nat) : Nat := switchId s * 2 ^ 48 + off

def cslotOf (s : State) (i : Nat) : CSlot := tblGet s.cmp.slots i {}
def setCslot (s : State) (i : Nat) (c : CSlot) : State := { s with cmp := { s.cmp with slots := tblPut s.cmp.slots i c } }
def cgenOf (s : State) (i g : Nat) : Option CGen := (cslotOf s i).gens.find? (fun x => x.num == g)

/-- The table of a generation that a key may decode with (R229). -/
def findTab (s : State) (k : Key) (slot gen : Nat) : Option CodeTab :=
  if (cslotOf s slot).owner = k then (cgenOf s slot gen).map (fun g => ⟨g.cxa, g.width, g.lengths⟩) else none

/-- Whether a work decodes, or re-encodes, an object. -/
def isExpand (obj : Nat) : WWork → Bool
  | .expand o _ _ _ => o == obj
  | _ => false
def isRecode (obj : Nat) : WWork → Bool
  | .recode o => o == obj
  | _ => false

/-- Works of an operation, queued and issued. -/
def opWorks (o : WOp) : List WWork := o.todo ++ o.issued.map (·.work)

/-- The generations that a unit of an operation encodes or decodes with (R228), by slot and number. -/
def workGens (s : State) (op : Nat) (w : WWork) : List (Nat × Nat) :=
  let build := s.cmp.builds.find? (fun b => b.op == op)
  let object (i : Nat) : List (Nat × Nat) := ((tblFind s.cmp.objs i).map (fun x => (x.slot, x.gen))).toList
  match w with
  | .encode _ _ _ => (build.map (fun b => (b.slot, b.gen))).toList
  | .directory => (build.map (fun b => (b.slot, b.gen))).toList
  | .expand obj _ _ _ => object obj
  | .recode obj => object obj ++ (build.map (fun b => (b.recodeSlot, b.recodeGen))).toList
  | .layer win i _ _ => ((tblFind s.tier.windows win).bind (fun x => tblFind x.refs i)).toList
  | _ => []

/-- References of queued and running units to a generation (R228). -/
def unitRefs (s : State) (slot gen : Nat) : Nat :=
  (s.tier.ops.map (fun e => ((opWorks e.2).flatMap (workGens s e.1)).countP (· == (slot, gen)))).sum

/-- All references to a generation. -/
def genRefs (s : State) (slot gen : Nat) : Nat := ((cgenOf s slot gen).map (·.refs)).getD 0 + unitRefs s slot gen

/-- The CTABLE_LOAD, BUILD or RETIRE that is live on a slot: its handle has not committed, or its engine has not yet stopped after an abort
(R52, R238). -/
def slotLiveOf (s : State) (slot : Nat) : Option Nat :=
  (cslotOf s slot).live.filter (fun h => (handleOf s h).any (fun r => r.phase == .live || (r.abortWon && !r.ready)))

def slotLive (s : State) (slot : Nat) : Bool := (slotLiveOf s slot).isSome

/-- Whether a CTABLE_RETIRE is live on a slot. -/
def slotRetiring (s : State) (slot : Nat) : Bool := (cslotOf s slot).retiring && slotLive s slot

/-- Drop the generations of a slot that are neither current nor referenced (R227); a slot with none has no owner (R226). -/
def pruneGens (s : State) (slot : Nat) : State :=
  let c := cslotOf s slot
  let gens := c.gens.filter (fun g => g.num == c.cur || decide (0 < genRefs s slot g.num))
  if gens.isEmpty && !slotLive s slot then { s with cmp := { s.cmp with slots := tblErase s.cmp.slots slot } }
  else setCslot s slot { c with gens := gens }

/-- Take a reference on a generation. -/
def addRef (s : State) (slot gen : Nat) : State :=
  let c := cslotOf s slot
  setCslot s slot { c with gens := c.gens.map (fun g => if g.num = gen then { g with refs := g.refs + 1 } else g) }

/-- Release a reference on a generation. -/
def dropRef (s : State) (slot gen : Nat) : State :=
  let c := cslotOf s slot
  pruneGens (setCslot s slot { c with gens := c.gens.map (fun g => if g.num = gen then { g with refs := g.refs - 1 } else g) }) slot

/-- The number of the next generation of a slot: the newest plus 1 modulo 256, skipping 0 (R227). -/
def nextGen (c : CSlot) : Nat :=
  let n := (c.cur + 1) % 256
  if n = 0 then 1 else n

/-- Whether a new generation cannot be made: a ninth, or its number still held. -/
def genFull (s : State) (slot : Nat) : Bool :=
  let c := cslotOf s slot
  let left := c.gens.filter (fun g => g.num == c.cur || decide (0 < genRefs s slot g.num))
  decide (8 ≤ left.length) || left.any (fun g => g.num == nextGen c)

/-- Install a new generation as the current one. -/
def installGen (s : State) (slot : Nat) (k : Key) (cxa : Bool) (width : Nat) (lengths : List Nat) : State :=
  let c := cslotOf s slot
  let g := nextGen c
  pruneGens (setCslot s slot { c with
    owner := if c.gens.isEmpty then k else c.owner
    cur := g
    gens := c.gens ++ [({ num := g, cxa := cxa, width := width, lengths := lengths } : CGen)] }) slot

end Sys2Proof.Machine
end

