-- ==== Sys2Proof/Machine/WinchOps.lean ====
section
/-! DEFINITION. Operations of the Winch as the engines hold them (08, R196, R199, R211): engine choice, background work. -/

namespace Sys2Proof.Machine

/-- Operations that an engine holds. -/
def engineOps (s : State) (e : Nat) : Nat := (s.tier.ops.filter (fun o => o.2.engine == some e)).length

/-- The engine for an operation: of those it allows, that work and hold fewer than 64, the one with the fewest (R199). -/
def pickEngine (s : State) (mask : Nat) : Option Nat :=
  let es := (List.range 16).filter (fun e =>
    maskHas mask e && !s.tier.deadEngines.contains e && decide (engineOps s e < 64))
  match es with
  | [] => none
  | e :: r => some (r.foldl (fun a b => if engineOps s b < engineOps s a then b else a) e)

/-- Give every operation that waits for an engine one, in order of arrival. -/
def assignEngines (s : State) : State :=
  s.tier.ops.foldl (fun s o =>
    match tblFind s.tier.ops o.1 with
    | some w =>
      if w.engine.isNone then
        match pickEngine s w.engMask with
        | some e => { s with tier := { s.tier with ops := tblPut s.tier.ops o.1 { w with engine := some e } } }
        | none => s
      else s
    | none => s) s

/-- Start an operation: its number, and the state that holds it. -/
def addOp (s : State) (w : WOp) : Nat × State :=
  let id := s.tier.nextOp
  (id, assignEngines { s with tier := { s.tier with ops := tblPut s.tier.ops id w, nextOp := id + 1 } })

def opOf (s : State) (id : Nat) : Option WOp := tblFind s.tier.ops id
def setOp (s : State) (id : Nat) (w : WOp) : State := { s with tier := { s.tier with ops := tblPut s.tier.ops id w } }
def dropOp (s : State) (id : Nat) : State :=
  assignEngines { s with tier := { s.tier with ops := tblErase s.tier.ops id } }

/-- The operation that a handle runs. -/
def opOfHandle (s : State) (h : Nat) : Option (Nat × WOp) := s.tier.ops.find? (fun o => o.2.handle == some h)

/-- Whether some operation already has, or has issued, this work. -/
def workQueued (s : State) (w : WWork) : Bool :=
  s.tier.ops.any (fun o => o.2.todo.contains w || o.2.issued.any (fun i => i.work == w))

/-- Whether a page is pinned or Moving. -/
def pageFixed (s : State) (page : Nat) : Bool :=
  match backAt s page with
  | some b => b.pin != .none || b.moving
  | none => false

/-- A touch of a T1 or T2 page under PREFER_T0 queues its promotion (R196). -/
def touchPromote (s : State) (off : Nat) : State :=
  let page := pageOf off
  match backAt s page, extentAt s off with
  | some b, some x =>
    if (placeOf s page).policy = .preferT0 ∧ locTier b.loc ≠ .t0 ∧ b.lost = false ∧ pageFixed s page = false ∧
        tierAllowed x .t0 = true ∧ quotaRoom s x.owner .t0 1 = true ∧
        t0Stacks s (placeOf s page).stackMask ≠ [] ∧ workQueued s (.move page) = false then
      (addOp s { kind := .promote, level := 5, todo := [.move page] }).2
    else s
  | _, _ => s

/-- The next lower tier that an extent allows. -/
def lowerTier (x : Extent) (t : Tier) : Option Tier :=
  [Tier.t0, Tier.t1, Tier.t2].find? (fun u => tierNo t < tierNo u && tierAllowed x u)

/-- Pages whose age has reached their demotion age under COLD_DEMOTE are queued to go one allowed tier down (R196). -/
def coldDemotes (s : State) : State :=
  s.pool.pages.foldl (fun s e =>
    let pr := placeOf s e.1
    match backById s e.2, pageExtent s e.1 with
    | some b, some x =>
      if pr.policy = .coldDemote ∧ locTier b.loc ≠ .t2 ∧ pr.age ≤ b.age ∧ b.lost = false ∧ pageFixed s e.1 = false ∧
          (lowerTier x (locTier b.loc)).isSome = true ∧ workQueued s (.move e.1) = false then
        (addOp s { kind := .coldDemote, level := 5, todo := [.move e.1] }).2
      else s
    | _, _ => s) s

/-! ## BAU placements and the freeing of their pages (11, R286) -/

/-- Whether a sequence holds pages: its holds are being installed, or it has not ended. -/
def seqHolds (q : Seq) : Bool := q.stage != .queued

/-- Whether a sequence names pages of a byte range. -/
def seqMeets (q : Seq) (lo hi : Nat) : Bool := (q.reads ++ q.locks).any (fun r => r.1 < hi && lo < r.2)

/-- Whether a placement has a sequence that has not ended. -/
def placeBusy (s : State) (x : Placement) : Bool := s.bau.seqs.any (fun q => seqHolds q && seqMeets q x.base (x.base + x.len))

/-- Whether a placement is being released: by a RELEASE, or because its pages are to be freed (R286). -/
def placeClosing (x : Placement) : Bool := x.closing || !x.closeH.isEmpty

def setPlacement (s : State) (i : Nat) (x : Placement) : State := { s with bau := { s.bau with places := tblPut s.bau.places i x } }

/-- Set or clear the pins of the allocated pages of a byte range that satisfy `want`. -/
def pinRange (s : State) (lo hi : Nat) (want : Pin → Bool) (p : Pin) : State :=
  (s.pool.pages.filter (fun e => lo ≤ e.1 * 65536 && e.1 * 65536 < hi)).foldl (fun s e =>
    match backById s e.2 with
    | some b => if want b.pin then setBack s e.2 { b with pin := p } else s
    | none => s) s

/-- The bank-local pages of a byte range go back to interleaved layout in the background (R286, R287). -/
def unplaceRange (s : State) (lo hi : Nat) : State :=
  let ps := (s.pool.pages.filter (fun e => lo ≤ e.1 * 65536 && e.1 * 65536 < hi &&
    (backById s e.2).any (fun b => (localBank b.loc).isSome))).map (·.1)
  if ps.isEmpty then s else (addOp s { kind := .bauUnplace 0, level := 5, todo := ps.map .unbank }).2

/-- Take a placement away: its pins, its reference; its pages go back to interleaved layout (R286, R287). -/
def erasePlacement (s : State) (i : Nat) (x : Placement) : State :=
  let s := { s with bau := { s.bau with places := tblErase s.bau.places i } }
  let s := pinRange s x.base (x.base + x.len) (fun p => p == .bau i) .none
  let s := match x.cxw with
    | some (slot, gen) => dropRef s slot gen
    | none => s
  unplaceRange s x.base (x.base + x.len)

/-- Remove a placement that is released: its RELEASEs complete. -/
def dropPlacement (s : State) (i : Nat) (x : Placement) : State :=
  x.closeH.foldl (fun s h => engineDone s h .ok 0 0) (erasePlacement s i x)

/-- Remove the placements being released that have been made and whose sequences have all ended. -/
def settlePlaces (s : State) : State :=
  s.bau.places.foldl (fun s e => if placeClosing e.2 && e.2.made && !placeBusy s e.2 then dropPlacement s e.1 e.2 else s) s

/-- Release the placements that meet a byte range, because its pages are to be freed (R286). -/
def releasePlaces (s : State) (lo hi : Nat) : State :=
  settlePlaces { s with bau := { s.bau with places := s.bau.places.map (fun e =>
    if e.2.base < hi ∧ lo < e.2.base + e.2.len then (e.1, { e.2 with closing := true }) else e) } }

/-- Whether no placement meets a byte range. -/
def placesGone (s : State) (lo hi : Nat) : Bool := s.bau.places.all (fun e => e.2.base + e.2.len ≤ lo || hi ≤ e.2.base)

end Sys2Proof.Machine
end

