-- ==== Sys2Proof/Machine/Ingress.lean ====
section
/-! DEFINITION. Requests at their ingress port island (03, R59, R61, R65; 05, R121 to R127; 06, R157, R159; 16, R388, R391,
R392): checks, throttling, ordering holds and release to the home or the fabric. -/

namespace Sys2Proof.Machine

/-! ## Streams and holds -/

/-- Whether two requests of a source belong to one ordered stream (R121). -/
def oneStream (a b : Req) : Bool :=
  a.src == b.src && a.addr.toNat / 2 ^ 48 == b.addr.toNat / 2 ^ 48 && reqPart a == reqPart b && a.tc == b.tc && a.otag == b.otag

/-- Earlier requests of the same source through the same port that have not retired. -/
def earlierOuts (s : State) (port : Nat) (src : Endpoint) (num : Nat) : List Out :=
  s.ord.outs.filter (fun o => o.req.port.val == port && o.req.src == src && o.req.num < num)

/-- Requests that FenceWr waits for (R126). -/
def fenceWrKind : ReqKind → Bool
  | .rdNC => false
  | .rdShared => false
  | _ => true

/-- Whether a Fence's condition is met (R126). -/
def fenceMet (s : State) (f : FenceHold) : Bool :=
  let before := earlierOuts s f.port f.src f.num
  match f.kind with
  | .all => before.isEmpty
  | .wr => !before.any (fun o => fenceWrKind o.req.kind)
  | .sync => before.isEmpty && !s.ord.wbs.any (fun w => w.1 == f.port && w.2.1 == f.src && w.2.2.2 < f.num)

/-- Whether a Fence in force holds a later request; reads may pass a FenceWr. -/
def fenceHolds (s : State) (r : Req) : Bool :=
  s.ord.fences.any (fun f => f.port == r.port.val && f.src == r.src && f.num < r.num && !fenceMet s f &&
    !(f.kind == .wr && !fenceWrKind r.kind))

/-- ASEQs toward a home switch not yet retired (R159). -/
def windowOf (s : State) (r : Req) : List (BitVec 16) := tblGet s.atm.windows (r.src.toNat * 4096 + r.addr.toNat / 2 ^ 48) []

def isAtomic : ReqKind → Bool
  | .atomFar => true
  | .atomNear => true
  | _ => false

/-- Whether an atomic finds room in its source's window of 256 (R159). -/
def windowRoom (s : State) (r : Req) : Bool :=
  !isAtomic r.kind || (windowOf s r).contains r.atom.aseq || decide ((windowOf s r).length < 256)

/-- Whether REL, ACQ, a Fence, its own stream or the atomic window holds a request (R124 to R126, R159). Of a CXL host, only an earlier request
to the same line holds one (R128). -/
def heldBack (s : State) (r : Req) : Bool :=
  let before := earlierOuts s r.port.val r.src r.num
  let waits (o : Out) : Bool := !o.released || o.cut
  isHostPort s r.port.val &&
  (match r.origin with
    | .bromet => (r.rel && !before.isEmpty) || before.any (fun o => o.req.acq) || before.any (fun o => waits o && oneStream o.req r) ||
        fenceHolds s r || !windowRoom s r
    | .cxl => before.any (fun o => waits o && reqLine o.req == reqLine r)
    | _ => false)

/-! ## Throttling (R391, R392) -/

/-- The Trestle cluster island of a unit's endpoint, numbered after the ports, partitions and stack interfaces. -/
def clusterIsland (s : State) (src : Endpoint) : Nat :=
  let u := src.toNat - fld s trestleBase 0 16
  160 + ((s.trs.phys.find? (fun e => e.2.1 == 0 && e.2.2 == u)).map (·.1 / 9)).getD 0

/-- The island that injects a request: its host port, or a Trestle unit's cluster. -/
def throttleIsland (s : State) (r : Req) : Nat := if r.origin = .ring then clusterIsland s r.src else r.port.val

def throttleFor (s : State) (r : Req) : Option Throttle :=
  s.cong.ctxs.find? (fun c => c.island == throttleIsland s r && c.home == r.addr.toNat / 2 ^ 48 && c.bulk == r.bulk)

def setThrottle (s : State) (c : Throttle) : State :=
  { s with cong := { s.cong with ctxs := s.cong.ctxs.map (fun d =>
    if d.island = c.island ∧ d.home = c.home ∧ d.bulk = c.bulk then c else d) } }

/-- Bytes charged: the larger of the request's own and its completion's data (R392, R422, R424). -/
def reqBytes : ReqKind → Nat
  | .wrLine => 80
  | .wrPtl => 96
  | .atomFar => 48
  | .atomComb => 256
  | _ => 64

/-- Tokens of a context now, in thousandths of a bit, at most 4 KiB. -/
def tokensNow (s : State) (c : Throttle) : Nat := Nat.min 32768000 (c.tokens + (s.now - c.filled) * c.rate)

/-- Take tokens for a request: `none` when it must wait. -/
def meter (s : State) (r : Req) : Option State :=
  if !flag s 0x34008 40 then some s
  else match throttleFor s r with
    | none => some s
    | some c =>
      let need := reqBytes r.kind * 8000
      if need ≤ tokensNow s c then some (setThrottle s { c with tokens := tokensNow s c - need, filled := s.now })
      else none

/-! ## RSEQ (R157) -/

/-- Take in a source's RSEQ at this home: its replay entries below it are freed. -/
def advanceRseq (s : State) (src : Endpoint) (q : BitVec 16) : State :=
  let old := tblGet s.atm.rseqs src.toNat q
  if (q - old).toNat < 32768 then
    { s with atm := { s.atm with
      rseqs := tblPut s.atm.rseqs src.toNat q
      replay := s.atm.replay.filter (fun e => e.src != src || decide ((e.aseq - q).toNat ≤ 255)) } }
  else s

/-- Take in a source's RSEQ toward a home switch at the source's edge (R159). -/
def retireWindow (s : State) (src : Endpoint) (home : Nat) (q : BitVec 16) : State :=
  { s with atm := { s.atm with
    windows := tblMod s.atm.windows (src.toNat * 4096 + home) [] (fun l => l.filter (fun a => (a - q).toNat < 32768)) } }

/-! ## Release (R125) -/

/-- Mark a request at the home's input where its class already queues to the threshold (R389). -/
def homeMark (s : State) (r : Req) : State × Req :=
  let p := reqPart r
  let depth := (s.coh.inbox.filter (fun x => reqPart x == p && x.bulk == r.bulk)).length
  let th := if r.bulk then fld s (sliceBase p + 0x8020) 12 12 else fld s (sliceBase p + 0x8020) 0 12
  if th ≤ depth then (bump s (congCnt 3), { r with mark := true }) else (s, r)

/-- Send a request on: to its home partition here, or into the fabric. -/
def releaseReq (s : State) (r : Req) : State :=
  let s := if isAtomic r.kind && isHostPort s r.port.val && !internal r then
      let add (l : List (BitVec 16)) : List (BitVec 16) := if l.contains r.atom.aseq then l else l ++ [r.atom.aseq]
      { s with atm := { s.atm with windows := tblMod s.atm.windows (r.src.toNat * 4096 + r.addr.toNat / 2 ^ 48) [] add } }
    else s
  if r.addr.toNat / 2 ^ 48 = switchId s then
    let (s, r) := homeMark s r
    { s with coh := { s.coh with inbox := s.coh.inbox ++ [{ r with at_ := s.now, hseq := s.coh.arrived }], arrived := s.coh.arrived + 1 } }
  else forwardReq s r

/-- Mark the entry of a request as released, or no longer throttled. -/
def setOut (s : State) (num : Nat) (f : Out → Out) : State :=
  { s with ord := { s.ord with outs := s.ord.outs.map (fun o => if o.req.num = num then f o else o) } }

/-- Whether a request is a host's own at its port, which orders and meters it. -/
def hostReq (s : State) (r : Req) : Bool := isHostPort s r.port.val && !internal r

/-- Let a request go on that nothing holds: into the core, or back with its refusal (R125, R138). -/
def tryRelease (s : State) (o : Out) : State :=
  if heldBack s o.req then s
  else
    let s := if hostReq s o.req then setOut s o.req.num (fun x => { x with released := true })
      else { s with ord := { s.ord with outs := s.ord.outs.filter (fun x => x.req.num != o.req.num) } }
    match o.refused with
    | some st => refuseReq s o.req st
    | none => releaseReq s o.req

/-- Note a host's request as it arrives: it stands in its source's order from then on (R124, R126). -/
def noteOut (s : State) (r : Req) : State :=
  if hostReq s r then { s with ord := { s.ord with outs := s.ord.outs ++ [{ req := r, released := false, checked := false }] } } else s

/-- Take a request on after its checks: a host's metered, held or released; a Trestle unit's metered by its cluster's island (R391, R392). -/
def takeIn (s : State) (r : Req) : State :=
  if hostReq s r then
    let o : Out := { req := r, released := false }
    match meter s r with
    | some s => tryRelease (setOut s r.num (fun _ => o)) o
    | none =>
      let s := if isCxl s r.port.val then bump s (cxlCnt r.port.val 6) else s
      bump (setOut s r.num (fun _ => { o with throttled := true })) (portCongCnt r.port.val 10)
  else if r.origin = .ring then
    match meter s r with
    | some s => releaseReq s r
    | none => { s with ord := { s.ord with outs := s.ord.outs ++ [{ req := r, released := false, throttled := true }] } }
  else releaseReq s r

/-- Refuse a request at its port island: a host's retires with its CmpErr in its stream's place (R138). -/
def refuseIn (s : State) (r : Req) (st : Status) : State :=
  if hostReq s r then
    let o : Out := { req := r, released := false, refused := some st }
    tryRelease (setOut s r.num (fun _ => o)) o
  else refuseReq s r st

/-! ## The checks at ingress (R65) -/

/-- The key that steps 3 and 4 and the object check use (R66). -/
def checkedKey (r : Req) : Key := r.checked.getD r.key

/-- Note a request admitted to its home: its flight, and its access to the page (R61, R70, R196). -/
def noteFlight (s : State) (r : Req) : State :=
  let off := r.addr.toNat % 2 ^ 48
  let s := touchPromote (touchAge s off) off
  { s with pool := { s.pool with flights := s.pool.flights ++
    [{ src := r.src.toNat, tag := r.tag.toNat, off := off, gen := s.pool.gen, chk := s.obj.objSeq }] } }

/-- Steps 2 to 4 of R65, with the object check between steps 3 and 4 (R167), for a request to this home with its translation at hand. The
request keeps the extent that it was checked under (R14, R69). -/
def homeChecks (s : State) (r : Req) : State :=
  let off := r.addr.toNat % 2 ^ 48
  let r := { r with gen := s.pool.gen, ext := extentAt s off }
  match extentCheck s (checkedKey r) r.kind off with
  | .inl st => refuseIn (telCount s r (if st = .revoked then 2 else 1)) r st
  | .inr ro =>
    match objectCheck s (checkedKey r) (isWriteKind r.kind) off with
    | some st => refuseIn (telCount s r 4) r st
    | none =>
      if !allocCheck s r.kind off then refuseIn (telCount s r 3) r .overQuota
      else takeIn (noteFlight (telCount s r 0) r) { r with ro := ro }

/-- Whether the port island has the request's page and extent cached (R59). -/
def xlateHit (s : State) (r : Req) : Bool :=
  let off := r.addr.toNat % 2 ^ 48
  let p := r.port.val
  (tblGet s.pool.xlate p []).contains (pageOf off) &&
  (match extentAt s off with
    | some x => (tblGet s.pool.extCache p []).contains x.id
    | none => true)

/-- After the key check: a home request waits for its translation or is checked; any other is forwarded. -/
def pastKey (s : State) (r : Req) : State :=
  let home := r.addr.toNat / 2 ^ 48
  let s := match r.rseq with
    | some q =>
      let s := if isHostPort s r.port.val && !internal r then retireWindow s r.src home q else s
      if home = switchId s then advanceRseq s r.src q else s
    | none => s
  if home ≠ switchId s then takeIn s r
  else if internal r then homeChecks s r
  else if xlateHit s r && !s.pool.xlateWait.any (oneStream r) then homeChecks s r
  else { s with pool := { s.pool with xlateWait := s.pool.xlateWait ++ [r] } }

/-- Whether a port takes in requests: a host or trunk port that exists, of a device that serves. -/
def takesRequests (s : State) (p : Nat) : Bool := s.sys.st == .serving && (isHostPort s p || isTrunk s p)

/-- Whether a packet carries a checked key though its PKEY is not 0xFFFF (R425). -/
def ckeyBad (key : Key) (ckey : Option Key) : Bool := ckey.isSome && key != 0xFFFF

/-- REQUEST_INGRESS (R65, R66, R346, R347, R388, R424, R425); its message has left the ingress role (R426). A request from a host port has no checked key. -/
def execRequestIngress (r : Req) (s : State) : Out3 :=
  let s := if internal r then s else creditBack s r.port.val r.tc.toNat
  let r := { r with num := s.ord.arrivals, ro := false, ext := none, checked := if hostReq s r then none else r.checked }
  let s0 := { s with ord := { s.ord with arrivals := s.ord.arrivals + 1 } }
  let p := r.port.val
  if !takesRequests s p && !internal r then .next s
  else if internal r then .next (pastKey s0 r)
  else if r.badSlots then .next (refuseReq s0 r .badDescriptor)
  else if r.tc ≠ 6 ∧ r.tc ≠ 5 then .next (refuseReq (classDrop s0 p) r .badDescriptor)
  else if !ingressKey s p r.key || ckeyBad r.key r.checked then .next (refuseIn (bump (keyDrop (noteOut s0 r) p) (portTelCnt p 1)) r .keyReject)
  else .next (pastKey (noteOut s0 r) r)

/-- XLATE_CACHE_FILL (R59): the page and extent entries of the first waiting request of a stream arrive in its port
island's caches, of 16,384 pages and 256 extents, and it proceeds. -/
def execXlateCacheFill (p : PortId) (src : Endpoint) (tag : BitVec 14) (s : State) : Out3 :=
  match s.pool.xlateWait.find? (fun r => r.port == p && r.src == src && r.tag == tag) with
  | none => .next s
  | some r =>
    match s.pool.xlateWait.find? (oneStream r) with
    | none => .next s
    | some q =>
      if q.num ≠ r.num then .next s
      else
        let off := r.addr.toNat % 2 ^ 48
        let pages := pageOf off :: (tblGet s.pool.xlate p.val []).filter (· != pageOf off)
        let exts := match extentAt s off with
          | some x => x.id :: (tblGet s.pool.extCache p.val []).filter (· != x.id)
          | none => tblGet s.pool.extCache p.val []
        let s := if (tblGet s.pool.xlate p.val []).contains (pageOf off) then s else bump s (portTelCnt p.val 10)
        let miss := (extentAt s off).any (fun x => !(tblGet s.pool.extCache p.val []).contains x.id)
        let s := if miss then bump s (portTelCnt p.val 11) else s
        let s := { s with pool := { s.pool with
          xlateWait := s.pool.xlateWait.filter (fun x => x.num != r.num)
          xlate := tblPut s.pool.xlate p.val (pages.take 16384)
          extCache := tblPut s.pool.extCache p.val (exts.take 256) } }
        .next (homeChecks s r)

/-- A page-age summary to every running module that asked for one (R467); what it holds is open. -/
def ageSummaries (s : State) : State :=
  (s.settle.modules.filter (fun m => m.ages && m.running)).foldl (fun s m =>
    let (v, s) := draw s
    pmEvent s m.key 3 v) s

/-- PAGE_AGE_TICK (R61, R196, R467): due once a period has passed. -/
def execPageAgeTick (s : State) : Out3 :=
  if s.now < s.pool.lastAgeTick + 1000000 * fld s 0x7F08 0 16 then .next s
  else
    let backs := s.pool.backs.map (fun e => (e.1, { e.2 with age := Nat.min 255 (e.2.age + 1) }))
    .next (ageSummaries (coldDemotes { s with pool := { s.pool with backs := backs, lastAgeTick := s.now } }))

end Sys2Proof.Machine
end

