-- ==== Sys2Proof/Machine/Operands.lean ====
section
/-! DEFINITION. Operand forms: the opcode table of descriptors (R46), the flags and reserved bytes of each opcode (R7,
R38 step 4), and the images that descriptors name. -/

namespace Sys2Proof.Machine

/-- A row of the opcode table (R46): long operation, abortable, all-or-nothing, admin, and the flag bits it defines. -/
structure OpRow where
  code : Nat
  long : Bool
  abort : Bool
  whole : Bool
  admin : Bool
  flags : Nat
  deriving DecidableEq, Repr

/-- The opcode table (R46). Flag bits 0 and 1 are ORDERED and NOTIFY; the others follow each owning chapter. -/
def opTable : List OpRow := [
  ⟨0x01, false, false, false, false, 3⟩, ⟨0x02, false, false, false, false, 3⟩, ⟨0x03, false, false, false, false, 3⟩,
  ⟨0x10, true, false, false, true, 15⟩, ⟨0x11, true, false, false, true, 7⟩, ⟨0x12, true, false, false, true, 7⟩,
  ⟨0x13, true, true, false, true, 3⟩, ⟨0x14, true, true, true, true, 7⟩,
  ⟨0x20, false, false, false, false, 3⟩, ⟨0x21, false, false, false, false, 3⟩, ⟨0x22, false, false, false, false, 3⟩,
  ⟨0x23, false, false, false, false, 3⟩, ⟨0x24, true, true, true, false, 7⟩, ⟨0x25, true, false, false, false, 3⟩,
  ⟨0x28, false, false, false, false, 3⟩, ⟨0x29, true, true, false, false, 3⟩, ⟨0x2A, true, true, true, false, 3⟩,
  ⟨0x2B, true, false, false, false, 3⟩, ⟨0x2C, false, false, false, false, 7⟩,
  ⟨0x30, true, true, false, false, 3⟩, ⟨0x31, true, true, false, false, 7⟩, ⟨0x32, true, true, false, false, 3⟩,
  ⟨0x33, true, true, false, false, 7⟩, ⟨0x34, true, true, false, false, 3⟩, ⟨0x35, true, true, false, true, 3⟩,
  ⟨0x38, true, false, false, false, 3⟩, ⟨0x39, true, false, false, false, 3⟩, ⟨0x3A, true, true, false, false, 7⟩,
  ⟨0x40, true, true, false, false, 3⟩, ⟨0x41, true, true, false, false, 31⟩,
  ⟨0x48, true, false, false, false, 7⟩, ⟨0x49, true, true, false, false, 3⟩,
  ⟨0x4A, true, false, false, false, 3⟩, ⟨0x4B, true, false, false, true, 3⟩, ⟨0x4C, true, false, false, true, 3⟩,
  ⟨0x50, true, false, false, true, 3⟩, ⟨0x51, true, false, false, true, 3⟩, ⟨0x52, true, false, false, true, 3⟩,
  ⟨0x53, true, false, false, true, 3⟩, ⟨0x54, true, false, false, true, 3⟩,
  ⟨0x58, true, true, false, false, 3⟩, ⟨0x59, true, true, false, false, 7⟩, ⟨0x60, false, false, false, true, 3⟩]

def opRow (code : Nat) : Option OpRow := opTable.find? (fun r => r.code == code)

/-- Fields of a descriptor: opcode, flags, key, tag, a flag bit, and operands of 1, 2, 4 and 8 bytes. -/
def dOp (d : Line) : Nat := lineNat d 0 1
def dFlags (d : Line) : BitVec 8 := lineByte d 1
def dKey (d : Line) : Key := BitVec.ofNat 16 (lineNat d 2 2)
def dTag (d : Line) : BitVec 32 := BitVec.ofNat 32 (lineNat d 4 4)
def dFlag (d : Line) (i : Nat) : Bool := (dFlags d).getLsbD i
def d8 (d : Line) (k : Nat) : Nat := lineNat d k 1
def d16 (d : Line) (k : Nat) : Nat := lineNat d k 2
def d32 (d : Line) (k : Nat) : Nat := lineNat d k 4
def d64 (d : Line) (k : Nat) : Nat := lineNat d k 8
def dKeyAt (d : Line) (k : Nat) : Key := BitVec.ofNat 16 (d16 d k)

/-- Bytes `lo` to `hi`, all their bits. -/
def allBits (lo hi : Nat) : List (Nat × Nat) := (List.range (hi + 1 - lo)).map (fun i => (lo + i, 0xFF))

/-- The reserved bits of an opcode's operands, by byte, in byte order (R7), and the fields that must be zero in the
form that the flags select. -/
def reservedBits (d : Line) : List (Nat × Nat) :=
  match dOp d with
  | 0x01 => allBits 8 63
  | 0x02 | 0x03 => allBits 16 63
  | 0x10 => (if dFlag d 2 then [(15, 0xF8)] else allBits 15 32) ++ allBits 33 63
  | 0x11 => allBits 14 63
  | 0x12 => allBits 12 15 ++ allBits 24 63
  | 0x13 => allBits 11 15 ++ allBits 40 63
  | 0x14 => allBits 28 63
  | 0x20 => allBits 32 63
  | 0x21 | 0x23 => (11, 0xF0) :: allBits 16 63
  | 0x22 | 0x25 => (11, 0xF0) :: allBits 13 63
  | 0x24 => (11, 0xF0) :: allBits 13 15 ++ allBits 20 63
  | 0x28 => allBits 32 63
  | 0x29 => allBits 24 63
  | 0x2A => allBits 20 63
  | 0x2B => allBits 16 63
  | 0x2C => allBits 20 63
  | 0x30 => (25, 0x7C) :: (if d8 d 24 = 2 then [] else [(27, 0xFF)]) ++ (29, 0xF0) :: allBits 30 31 ++ allBits 36 63
  | 0x31 => (21, 0xFF) :: (if dFlag d 2 then [] else allBits 40 41) ++ allBits 42 63
  | 0x32 => allBits 10 11 ++ allBits 20 63
  | 0x33 => (25, 0xFF) :: (27, 0xF0) :: allBits 32 63
  | 0x34 => allBits 24 63
  | 0x35 => allBits 14 63
  | 0x38 => allBits 21 23 ++ allBits 28 63
  | 0x39 => allBits 44 63
  | 0x3A => (if dFlag d 2 then [] else [(10, 0xFF)]) ++ allBits 11 63
  | 0x40 => allBits 48 63
  | 0x41 => allBits 26 27 ++ allBits 32 63
  | 0x48 => (if dFlag d 2 then allBits 8 19 else []) ++ allBits 21 23 ++ (if dFlag d 2 then allBits 24 27 else []) ++
      allBits 28 63
  | 0x49 => [(9, 0xFF), (11, 0xFF)]
  | 0x4A => [(15, 0xC0), (22, 0xF0), (23, 0xFF)] ++ allBits 26 31 ++ allBits 56 63
  | 0x4B => allBits 8 11 ++ allBits 14 15 ++ allBits 32 63
  | 0x4C => allBits 12 13 ++ [(15, 0xFF)] ++ (if d8 d 14 = 1 then allBits 16 31 else []) ++ allBits 32 63
  | 0x50 => allBits 24 63
  | 0x51 => allBits 12 63
  | 0x52 => allBits 30 63
  | 0x53 | 0x54 => allBits 12 63
  | 0x58 => allBits 32 63
  | 0x59 => allBits 25 31 ++ allBits 40 63
  | 0x60 => (if d8 d 8 = 1 then [] else [(9, 0xFF)]) ++ allBits 10 63
  | _ => []

/-- The first byte found wrong under R38 step 4: byte 1 for reserved flags, else the first reserved byte not zero. -/
def reservedFault (d : Line) (row : OpRow) : Option Nat :=
  if (dFlags d).toNat &&& (255 - row.flags) ≠ 0 then some 1
  else ((reservedBits d).find? (fun e => d8 d e.1 &&& e.2 != 0)).map (·.1)

/-- The image of host memory that a descriptor names: address, length, and the offsets of the operand bytes that give
them (03, 09, 12, 13, 14; the layer table of a window, 08). -/
def imageOf (d : Line) : Option (Nat × Nat) :=
  match dOp d with
  | 0x14 => some (d64 d 8, d32 d 16)
  | 0x31 => if dFlag d 2 then none else some (d64 d 24, 32 * d32 d 32)
  | 0x38 => some (d64 d 8, d32 d 16)
  | 0x48 => if dFlag d 2 then none else some (d64 d 8, d32 d 16)
  | 0x4B => some (d64 d 16, d32 d 24)
  | 0x4C => if d8 d 14 = 1 then none else some (d64 d 16, d32 d 24)
  | 0x50 => some (d64 d 8, d32 d 16)
  | 0x52 => some (d64 d 8, d32 d 16)
  | _ => none

/-- The CRC-32C that a descriptor gives for its image, where it gives one. -/
def imageCrc (d : Line) : Option Nat :=
  match dOp d with
  | 0x14 | 0x38 | 0x48 | 0x52 => some (d32 d 24)
  | 0x4B | 0x4C => some (d32 d 28)
  | 0x50 => some (d32 d 20)
  | _ => none

end Sys2Proof.Machine
end

