-- ==== Sys2Proof/Machine/TrainBase.lean ====
section
/-! DEFINITION. Entries and collective instances on a switch (13): their ports, the release of instances, the end of an edit, and what the record of a
REDUCE's root completes. -/

namespace Sys2Proof.Machine

/-! ## Entries -/

/-- Bits of a child port mask. -/
def maskPorts (m : Nat) : List Nat := (List.range 128).filter (fun p => m.testBit p)

/-- Child ports of an entry. -/
def entPorts (e : TrainEnt) : List Nat := maskPorts e.children.toNat

/-! ## Release of instances (R334) -/

/-- Whether an instance is of a train. -/
def instOf (id : Nat) (i : Inst) : Bool := i.rcd.ent.id.toNat == id

/-- Mark an instance released, with an index code: 0xFFFF for an edit, 0xFFFE for a lost root, else the lowest fenced member. -/
def releaseInst (code : Nat) (i : Inst) : Inst :=
  match i.rel with
  | some _ => i
  | none => { i with rel := some (code, if i.rcd.ent.root then i.combined else i.down + i.results.length) }

/-- Release the instances of a train. -/
def releaseTrain (s : State) (id code : Nat) : State :=
  let n := (s.train.insts.filter (fun i => instOf id i && i.rel.isNone)).length
  let s := { s with train := { s.train with insts := s.train.insts.map (fun i => if instOf id i then releaseInst code i else i) } }
  bumpBy s (trainCnt 5) n

/-! ## Progress of an edit (R320, R321) -/

def setTrainOp (s : State) (o : TrainOp) : State :=
  { s with train := { s.train with ops := s.train.ops.map (fun x => if x.handle = o.handle then o else x) } }
def dropTrainOp (s : State) (o : TrainOp) : State :=
  { s with train := { s.train with ops := s.train.ops.filter (fun x => x.handle != o.handle) } }

/-- Whether an older instance of an operation's train is still open here. -/
def olderOpen (s : State) (o : TrainOp) : Bool := s.train.insts.any (fun i => instOf o.id i && i.rel.isSome)

/-- Complete an installed operation once every switch has adopted it and every older instance has been released (R321). -/
def trainFinish (s : State) (o : TrainOp) : State :=
  if o.installed && o.asking.isEmpty && o.refused.isNone && o.adopting.isEmpty && !olderOpen s o then
    let r0 := BitVec.ofNat 64 (o.id + o.gen * 2 ^ 32)
    let n := if o.mode = 2 then ((tblFind s.train.masters o.id).map (·.members.length)).getD 0 else o.members.length
    let s := if o.mode = 2 then { s with train := { s.train with masters := tblErase s.train.masters o.id } } else s
    engineDone (dropTrainOp s o) o.handle .ok r0 (BitVec.ofNat 64 n)
  else s

/-- Report to the root the generations of a train adopted here, once no older instance is left (R321). -/
def reportAdopted (s : State) (id : Nat) : State :=
  if s.train.insts.any (fun i => instOf id i && i.rel.isSome) then s
  else
    let mine := s.train.owing.filter (fun e => e.1 == id)
    mine.foldl (fun s e => sendSwitch s (id / 2 ^ 14 % 4096) "TrainAdopted" [e.1, e.2])
      { s with train := { s.train with owing := s.train.owing.filter (fun e => e.1 != id) } }

/-- Look again at the operations of a train. -/
def trainLook (s : State) (id : Nat) : State :=
  reportAdopted ((s.train.ops.filter (fun o => o.id == id)).foldl trainFinish s) id

/-! ## Instances -/

/-- Two instances are the same (R324, R335). -/
def sameInst (a b : Inst) : Bool := a.rcd.ent.id == b.rcd.ent.id && a.rcd.ent.gen == b.rcd.ent.gen && a.seq == b.seq && a.poster == b.poster

def findInst (s : State) (id gen : Nat) (seq : Nat) (poster : Option Nat) : Option Inst :=
  s.train.insts.find? (fun i => i.rcd.ent.id.toNat == id && i.rcd.ent.gen.toNat == gen && i.seq == seq && i.poster == poster)
def putInst (s : State) (i : Inst) : State :=
  { s with train := { s.train with insts := if s.train.insts.any (sameInst i) then s.train.insts.map (fun x => if sameInst i x then i else x) else s.train.insts ++ [i] } }
def dropInst (s : State) (i : Inst) : State :=
  trainLook { s with train := { s.train with insts := s.train.insts.filter (fun x => !sameInst i x) } } i.rcd.ent.id.toNat

/-- The current record of an instance's train, so that later pruning counts; a train that is gone leaves the one it was opened with. -/
def instRec (s : State) (i : Inst) : TrainRec :=
  match tblFind s.train.trains i.rcd.ent.id.toNat with
  | some t => if t.ent.gen = i.rcd.ent.gen then t else i.rcd
  | none => i.rcd

/-- Local members not pruned, and child trunks not pruned. -/
def liveLocals (s : State) (i : Inst) : List TrainMember := (instRec s i).ent.locals.filter (fun m => !(instRec s i).prunedM.contains m.idx)
def childTrunks (s : State) (i : Inst) : List Nat :=
  let t := instRec s i
  (entPorts t.ent).filter (fun p => !t.prunedP.contains p && !t.ent.locals.any (fun m => epPort s m.ep == some p))

/-- Ports of an instance's tree at this switch: to its children that are not pruned, and to its parent. -/
def treePorts (s : State) (i : Inst) : List Nat := childTrunks s i ++ ((instRec s i).ent.parent.map (·.val)).toList

/-- Complete a member's descriptor. -/
def endPost (s : State) (q : Post) (st : Status) (r0 r1 : Word) : State := engineDone s q.handle st r0 r1

/-- result0 of a completion: an index code and the members included. -/
def collR0 (code count : Nat) : Word := BitVec.ofNat 64 (code + count * 2 ^ 32)

/-- The record of a REDUCE's root is written: its other members complete, here and, by messages along the tree, at the other switches (R330). -/
def rootReduced (s : State) (i : Inst) (came : Option Nat) : State :=
  let s := ((treePorts s i).filter (fun p => came != some p)).foldl (fun s p =>
    emit s (.send p "ReduceDone" [i.rcd.ent.id.toNat, i.rcd.ent.gen.toNat, i.seq])) s
  dropInst ((i.posts.filter (fun q => !q.ended)).foldl (fun s q => endPost s q .ok (collR0 0xFFFF i.count) 0) s) i

/-- What the record of a handle completes when it is written or dropped: the other members of a REDUCE whose root it belongs to. -/
def reduceDone (s : State) (h : Nat) : State :=
  match s.train.insts.find? (fun i => i.par.kind == 2 && i.rel.isNone && i.posts.any (fun q => q.handle == h && q.member == i.par.root && q.ended)) with
  | none => s
  | some i => rootReduced s i none

end Sys2Proof.Machine
end

