-- ==== Sys2Proof/Machine/Rings.lean ====
section
/-! DEFINITION. Rings, doorbells, descriptor fetch, handles, completion records, ABORT and QUERY_HANDLE (02). -/

namespace Sys2Proof.Machine

/-- Modulus of ring indices (R32, R40). -/
def ix (n : Nat) : Nat := n % 2 ^ 17

/-- Difference of two ring indices modulo 2^17. -/
def ixDiff (a b : Nat) : Nat := (ix a + 2 ^ 17 - ix b) % 2 ^ 17

/-- Ring state codes of RING_STATE and the head shadow. -/
def ringStateCode : RingState → Nat
  | .disabled => 0 | .active => 1 | .draining => 2 | .halted => 3

/-- Records written and not yet consumed. -/
def unconsumed (r : Ring) : Nat := ixDiff r.written r.cons

/-- Whether a completion slot can be reserved (R35). -/
def slotFree (s : State) (n : Nat) : Bool := decide (liveCount s n + unconsumed (ringOf s n) < ringCqDepth s n)

/-- Write the head shadow (R37). -/
def writeShadow (s : State) (n : Nat) : State :=
  let r := ringOf s n
  emit (setRing s n { r with lastShadow := r.seq })
    (.shadow (ringPath s n) n (BitVec.ofNat 64 (ix r.seq + r.gen * 2 ^ 32 + ringStateCode r.st * 2 ^ 36)))

/-- The areas of a ring pair (R30): first and last byte. -/
def ringAreas (s : State) (n : Nat) : List (Nat × Nat) :=
  let sq := (regGet s (ringBase n)).toNat
  let cq := (regGet s (ringBase n + 8)).toNat
  let sh := (regGet s (ringBase n + 0x10)).toNat
  [(sq, sq + 64 * ringSqDepth s n), (cq, cq + 32 * ringCqDepth s n), (sh, sh + 8)]

def overlaps (a b : Nat × Nat) : Bool := decide (a.1 < b.2 ∧ b.1 < a.2)

/-- Whether two rings have the same bound requester (R27). -/
def sameRequester (s : State) (m n : Nat) : Bool :=
  ringMgmt s m == ringMgmt s n && (ringMgmt s m || ringPort s m == ringPort s n)

/-- Whether areas of ring `n` overlap each other, or those of a ring that is not DISABLED and has its requester. -/
def areasOverlap (s : State) (n : Nat) : Bool :=
  let mine := ringAreas s n
  let own := match mine with
    | [a, b, c] => overlaps a b || overlaps a c || overlaps b c
    | _ => false
  own || s.rings.rings.any (fun e => e.1 != n && e.2.st != .disabled && sameRequester s e.1 n &&
    (ringAreas s e.1).any (fun a => mine.any (overlaps a)))

/-- Whether R30 accepts an enable of ring `n`. -/
def enableValid (s : State) (n : Nat) : Bool :=
  let sqLog := fld s (ringBase n + 0x18) 0 5
  let cqLog := fld s (ringBase n + 0x18) 8 5
  decide (6 ≤ sqLog ∧ sqLog ≤ 16) && decide (6 ≤ cqLog ∧ cqLog ≤ 16) && isTenant s (ringKey s n) &&
  (ringMgmt s n || isHostPort s (ringPort s n)) && !areasOverlap s n &&
  decide ((ringOf s n).old.length ≤ ringCqDepth s n)

/-- The bytes of a completion record (R43) at position `w` of the ring since its enable. -/
def recordBits (s : State) (n w h : Nat) (r : HandleRec) : BitVec 256 :=
  let phase := (w / ringCqDepth s n + 1) % 2
  let flags := phase + (if r.errLogged then 2 else 0) + (if r.incomplete then 4 else 0)
  BitVec.ofNat 256 (bytesNat (natBytes 8 h ++ natBytes 2 (statusCode r.status) ++ [BitVec.ofNat 8 r.opcode] ++
    [BitVec.ofNat 8 flags] ++ natBytes 4 r.stamp.toNat ++ natBytes 8 r.r0.toNat ++ natBytes 8 r.r1.toNat))

/-- Write the record of a committed handle at the ring's next slot; the handle is then RETIRED (R43, R44). -/
def writeRecord (s : State) (n h : Nat) : State :=
  match handleOf s h with
  | none => s
  | some r =>
    let g := ringOf s n
    let s := emit s (.record (ringPath s n) n (g.written % ringCqDepth s n) (recordBits s n g.written h r) (flag s (ringBase n + 0x18) 41))
    let s := setRing s n { g with
      written := g.written + 1
      commits := g.commits.filter (· != h)
      old := g.old.filter (· != h)
      notifyPend := g.notifyPend || (r.flags.getLsbD 1 && flag s (ringBase n + 0x18) 42) }
    let s := returnRemote (pmEvent (dropHandle s h) r.key 0 (BitVec.ofNat 64 h))
    if r.opcode = 0x4A then reduceDone s h else s

/-- Whether a committed handle's record may be written now: complete, and the record it waits for written (R51). -/
def recordDue (s : State) (h : Nat) : Bool :=
  match handleOf s h with
  | some r => r.phase == .committed && r.ready && r.waitFor.all (fun w => (handleOf s w).isNone)
  | none => false

/-- Write due records in commit order, at most `fuel` of them, stopping at the first that is not due. -/
def writeDue : Nat → State → Nat → State
  | 0, s, _ => s
  | fuel + 1, s, n =>
    match (ringOf s n).commits with
    | h :: _ => if recordDue s h then writeDue fuel (writeRecord s n h) n else s
    | [] => s

/-- Write the records held from before a warm reset, in their order (R54), up to the first whose target's record must come first (R51). -/
def writeOld : Nat → State → Nat → State
  | 0, s, _ => s
  | fuel + 1, s, n =>
    match (ringOf s n).old with
    | h :: _ => if recordDue s h then writeOld fuel (writeRecord s n h) n else s
    | [] => s

/-- RING_ENABLE: ENABLE := 1 (R30, R53 to R55). A ring that is not DISABLED keeps its state. -/
def execRingEnable (n : RingId) (s : State) : Out3 :=
  let r := ringOf s n.val
  if r.st ≠ .disabled then .next s
  else if enableValid s n.val then
    let s := setRing s n.val { r with
      st := .active, enable := true, closing := false, gen := (r.gen + 1) % 16, cause := 0, seq := 0, tail := 0, cons := 0, written := 0,
      lastShadow := 0, commits := [], oldDue := none, notifyPend := false, lastNotify := none }
    .next (writeOld r.old.length s n.val)
  else .next (setBit s (ringBase n.val + 0x28) 3)

/-- RING_DISABLE: ENABLE := 0 (R30). The records that a HALTED ring holds are dropped; an operation whose abort has won and which has not stopped yet, or
whose record waits for its end, runs on to it (R52), and its record is dropped then. -/
def execRingDisable (n : RingId) (s : State) : Out3 :=
  let r := ringOf s n.val
  match r.st with
  | .active => .next (writeShadow (setRing s n.val { r with st := .draining, enable := false }) n.val)
  | .halted =>
    let s := setRing s n.val { r with enable := false, closing := true, commits := [] }
    .next (returnRemote (r.commits.foldl (fun s h => if (handleOf s h).any (fun x => !x.ready) then s else recDrop (dropHandle s h)) s))
  | _ => .next s

/-- RESUME (R30): a HALTED ring becomes ACTIVE and its held records are written. No effect once ENABLE := 0 was written to the HALTED ring
(assumption log, entry 98). -/
def execResume (n : RingId) (s : State) : Out3 :=
  let r := ringOf s n.val
  if r.st = .halted ∧ r.closing = false then
    .next (writeDue r.commits.length (setRing s n.val { r with st := .active, cause := 0 }) n.val)
  else .next s

/-- RING_DRAINED (R30). -/
def execRingDrained (n : RingId) (s : State) : Out3 :=
  let r := ringOf s n.val
  if liveCount s n.val = 0 ∧ r.commits = [] ∧ (r.st = .draining ∨ (r.st = .halted ∧ r.closing = true)) then
    .next (setRing s n.val { r with st := .disabled, enable := false, closing := false, cause := 0 })
  else .next s

/-- Count a discarded doorbell (R31). -/
def dbDrop (s : State) : State := setFld s (ringGlobal + 0x10) 0 32 (fld s (ringGlobal + 0x10) 0 32 + 1)

/-- Accept a doorbell word (R32), each field on its own. -/
def doorbellAccept (s : State) (n : Nat) (tail head : Nat) : State :=
  let r := ringOf s n
  let a := ixDiff tail r.tail
  let s := if a = 0 ∨ 2 ^ 16 ≤ a then s
    else if ringSqDepth s n < ixDiff tail r.seq then writeShadow (haltRing s n 1) n
    else setRing s n { r with tail := tail }
  let r := ringOf s n
  let b := ixDiff head r.cons
  if b = 0 ∨ 2 ^ 16 ≤ b then s
  else if unconsumed r < b then
    (if r.st = .active then writeShadow (haltRing s n 1) n else s)
  else setRing s n { r with cons := head }

/-- Whether R31 takes a doorbell word: arrived through the ring's bound requester with its key, for an ACTIVE ring of
that generation, reserved fields zero. -/
def doorbellValid (s : State) (via : Option Nat) (key : Key) (word : Word) : Bool :=
  let w := word.toNat
  let n := bitsOf w 36 12
  let r := ringOf s n
  (match via with
    | some p => !ringMgmt s n && ringPort s n == p && (isCxl s p || ringKey s n == key)
    | none => ringMgmt s n) &&
  r.st == .active && r.gen == bitsOf w 48 4 && bitsOf w 34 2 == 0 && bitsOf w 52 12 == 0

/-- Take in one doorbell word. -/
def doorbell (s : State) (via : Option Nat) (key : Key) (word : Word) : State :=
  if doorbellValid s via key word then
    let w := word.toNat
    let s := match via with
      | some p => bump s (portTelCnt p 9)
      | none => s
    doorbellAccept s (bitsOf w 36 12) (bitsOf w 0 17) (bitsOf w 17 17)
  else dbDrop s

/-- Whether ring `n` has a fetchable descriptor (R35, R41, R55). -/
def fetchable (s : State) (n : Nat) : Bool :=
  let r := ringOf s n
  r.st == .active && ixDiff r.tail r.seq != 0 && slotFree s n && r.old.isEmpty && decide (r.seq < 2 ^ 48)

/-- The ring to serve next (R36): the one being served while its turn lasts, else the next in rotation. -/
def nextRing (s : State) : Option Nat :=
  if fetchable s s.rings.rotRing && decide (s.rings.rotUsed < 8) then some s.rings.rotRing
  else
    let ns := (s.rings.rings.map (·.1)).filter (fetchable s)
    match ns.find? (fun n => s.rings.rotRing < n) with
    | some n => some n
    | none => ns.head?

/-- Handles live on the device (R36). DESIGN CHOICE (assumption log, entry 98): a committed handle whose record is not yet written no longer counts toward
the 262,144, although R35 and LIVE_COUNT count it. -/
def liveTotal (s : State) : Nat :=
  (s.rings.handles.filter (fun e => (e.2.remote.isNone || e.2.viaModule.isSome) && e.2.phase != .committed)).length

/-- Fetching pauses at the limit of R36: the rings that had more to fetch show their heads (R37). -/
def pauseAll (s : State) : State :=
  s.rings.rings.foldl (fun s e => if fetchable s e.1 && (ringOf s e.1).lastShadow != (ringOf s e.1).seq then writeShadow s e.1 else s) s

/-- The shadow write that a fetch makes due; where host memory fails it, the ring halts with cause 2 (R30, R37). -/
def shadowAfter (s : State) (n : Nat) (ok : Bool) : State := if ok then writeShadow s n else haltRing (writeShadow s n) n 2

/-- DESCRIPTOR_FETCH (R35 to R37, R40, R41): while the device serves and Nimpa runs. `ok`: host memory takes the shadow write that the fetch may make
due. -/
def execDescriptorFetch (ok : Bool) (s : State) : Out3 :=
  if s.sys.st ≠ .serving ∨ s.settle.boot ≠ .running then .next s
  else if 262144 ≤ liveTotal s then .next (pauseAll s)
  else match nextRing s with
    | none => .next s
    | some n =>
      let r := ringOf s n
      let h := handleId n r.gen r.seq
      let used := if n = s.rings.rotRing ∧ s.rings.rotUsed < 8 then s.rings.rotUsed + 1 else 1
      let s := emit s (.hostRead (ringPath s n) h ((regGet s (ringBase n)).toNat + 64 * (r.seq % ringSqDepth s n)) 64)
      let s := setHandle s h { ring := n, gen := r.gen, seq := r.seq }
      let s := setRing s n { r with seq := r.seq + 1 }
      let s := { s with rings := { s.rings with rotRing := n, rotUsed := used } }
      let s := if 32 ≤ r.seq + 1 - r.lastShadow ∨ fetchable s n = false then shadowAfter s n ok else s
      .next (if 262144 ≤ liveTotal s then pauseAll s else s)

/-- Drop the handles of ring `n` from sequence `q` on and set the head back to it. -/
def unfetch (s : State) (n q : Nat) : State :=
  let hs := s.rings.handles.filter (fun e => !(e.2.ring == n && e.2.phase == .fetching && decide (q ≤ e.2.seq)))
  let r := ringOf s n
  setRing { s with rings := { s.rings with handles := hs } } n { r with seq := q }

/-- Whether the opcode changes composition (R68). -/
def composes (op : Nat) : Bool := op == 0x10 || op == 0x11 || op == 0x12 || op == 0x14

/-- Whether an opcode names a shelf or drawer whose ID carries its home switch (R164, R165), and that switch. -/
def objectHome (d : Line) : Option Nat :=
  match dOp d with
  | 0x21 | 0x22 | 0x23 | 0x24 | 0x25 => some (bitsOf (d32 d 8) 16 12)
  | 0x29 | 0x2A | 0x2B | 0x2C => some (bitsOf (d64 d 8) 52 12)
  | 0x4C => some (bitsOf (d32 d 8) 14 12)
  | 0x51 => some (bitsOf (d32 d 8) 13 12)
  | 0x52 => if d16 d 28 = 0xFFFF then none else some (d16 d 28)
  | _ => none

/-- Take in a descriptor under the checks of R38, steps 1 to 4, as on a ring of a key with or without ADMIN, and leave it ready to start. DESIGN CHOICE
(assumption log, entry 98): reserved flags and bytes are found wrong before malformed operands, whatever their offsets; the latter are the owning
chapters' checks. -/
def descriptorChecks (s : State) (own : Key) (admin : Bool) (h : Nat) (r : HandleRec) (d : Line) : State :=
  let r := { r with phase := .live, opcode := dOp d, flags := dFlags d, key := dKey d, tag := dTag d, desc := d }
  let s := setHandle s h r
  if dKey d ≠ own then commit s h .keyReject 0 0
  else match opRow (dOp d) with
    | none => badDesc s h 0
    | some row =>
      if row.admin && !admin then commit s h .keyReject 0 0
      else match reservedFault d row with
        | some off => badDesc s h off
        | none =>
          let away := (objectHome d).filter (· != switchId s)
          match away with
          | some sw =>
            if reachable s sw then forwardReady (setHandle s h { r with sentTo := some sw, started := false })
            else commit (bump s (routeCnt 3)) h .fenced 0 0
          | none =>
            let s := if composes (dOp d) then { s with pool := { s.pool with compOrder := s.pool.compOrder ++ [h] } } else s
            match imageOf d with
            | some (addr, len) => readHost s h addr len
            | none => s

/-- DESCRIPTOR_ARRIVE (R38): the data of a fetched descriptor arrives, in ring order. -/
def execDescriptorArrive (h : Handle) (d : Fetched) (s : State) : Out3 :=
  match handleOf s h.toNat with
  | none => .next s
  | some r =>
    let earlier := s.rings.handles.any (fun e => e.2.ring == r.ring && e.2.phase == .fetching && decide (e.2.seq < r.seq))
    if r.phase ≠ .fetching ∨ earlier = true then .next s
    else match d with
      | .failed => .next (writeShadow (haltRing (unfetch s r.ring r.seq) r.ring 2) r.ring)
      | .poisoned => .next (commit (setHandle s h.toNat { r with phase := .live }) h.toNat .poisoned 0 0)
      | .data line => .next (descriptorChecks s (ringKey s r.ring) (ringAdmin s r.ring) h.toNat r line)

/-- HOST_IMAGE_READ_DONE (R80 and the image rules of 08, 09, 12, 13, 14): the image is kept for its operation. A read
that fails without data counts as poisoned. -/
def execHostImageReadDone (h : HRef) (d : HostRead) (s : State) : Out3 :=
  match handleOf s h.toNat with
  | none => .next s
  | some r =>
    if r.phase ≠ .live ∨ r.image.isSome = true ∨ r.imagePoison = true then .next s
    else match d with
      | .data b => .next (setHandle s h.toNat { r with image := some b })
      | .poisoned => .next (setHandle s h.toNat { r with imagePoison := true })
      | .failed => .next (setHandle s h.toNat { r with imagePoison := true })

/-- What a handle names (R42, R48, R50): its state code. One of another switch (R165) that is no longer here has returned there. -/
def handleState (s : State) (t : Nat) : Nat :=
  let n := t / 2 ^ 52 % 4096
  let gen := t / 2 ^ 48 % 16
  let seq := t % 2 ^ 48
  match handleOf s t with
  | some r => match r.phase with
    | .committed => 2
    | _ => 1
  | none =>
    let g := ringOf s n
    if 2 ^ 64 ≤ t ∧ t < 2 ^ 79 then 3
    else if 2 ^ 79 ≤ t then
      if (s.settle.modules.find? (fun m => m.slot == t / 2 ^ 64 - 2 ^ 15)).all (fun m => decide (m.seq ≤ seq)) then 0 else 3
    else if g.gen ≠ gen then 4 else if g.seq ≤ seq then 0 else 3

/-- Whether a handle runs a sequence whose END has drained (R282). -/
def bauEnding (s : State) (h : Nat) : Bool := s.bau.seqs.any (fun q => q.handle == h && q.stage == .committed)

/-- A sequence commits (R132, R282): its record waits for the end, reads of its lock set are released. -/
def bauCommit (s : State) (h : Nat) (st : Status) (r0 r1 : Word) : State :=
  let mine := s.bau.seqs.filter (fun q => q.handle == h)
  let s := mine.foldl (fun s q => bump s (bauCnt q.stack 1)) s
  let s := { s with coh := { s.coh with holds := s.coh.holds.map (fun x =>
    if mine.any (fun q => q.stack == x.stack && q.bank == x.bank) then { x with lock := false } else x) } }
  commitWith s h false st r0 r1

/-- The progress of a handle in its opcode's unit (R48): objects re-encoded for a CTABLE_RETIRE with RECODE, else what its engine has counted. -/
def progressOf (s : State) (t : Nat) (x : HandleRec) : Nat :=
  match s.tier.ops.find? (fun o => o.2.handle == some t), s.cmp.builds.find? (fun b => b.handle == t) with
  | some (_, { kind := .recode _, .. }), some b => b.recoded
  | _, _ => x.prog

/-- What QUERY_HANDLE reports of a target as this device holds it (R48). -/
def queryResults (s : State) (t code : Nat) : Word × Word :=
  match handleOf s t with
  | some x => (BitVec.ofNat 64 (progressOf s t x), BitVec.ofNat 64 (x.opcode + code * 2 ^ 8 + x.tag.toNat * 2 ^ 32))
  | none => (0, BitVec.ofNat 64 (code * 2 ^ 8))

/-- The record of a forwarded ABORT or QUERY_HANDLE comes back behind that of its target (R51, R165): the order of the switches' messages holds an ABORT
until the target's latch is set; what the home no longer knew is filled in here. -/
def latchNaming (s : State) (h : Nat) (r : HandleRec) (st : Status) (r0 r1 : Word) : State :=
  let t := d64 r.desc 8
  match handleOf s t with
  | some x =>
    if x.phase = .live then (if r.opcode = 0x02 ∧ (st = .ok ∨ st = .alreadyDone) then s else commit s h st r0 r1)
    else if r.opcode = 0x02 then commit s h st r0 (if st = .alreadyDone ∧ r1 = 0 then BitVec.ofNat 64 (statusCode x.status) else r1)
    else let q := queryResults s t (handleState s t)
      commit s h st q.1 q.2
  | none =>
    if r.opcode = 0x02 then commit s h st r0 r1
    else let q := queryResults s t (handleState s t)
      commit s h st q.1 q.2

/-- LATCH_SET (R49): the engine's completion, or for a forwarded descriptor the record that came back (R165), reaches the latch. That of one which a
tenant reset had aborted ends it (R53). -/
def execLatchSet (h : HRef) (ret : Option (Status × Word × Word)) (s : State) : Out3 :=
  match handleOf s h.toNat with
  | none => .next s
  | some r =>
    match (if r.sentTo.isSome then ret else r.fin) with
    | some (st, r0, r1) =>
      if r.sentTo.isSome && r.phase == .committed then .next (fillRecord s h.toNat st r0 r1)
      else if r.sentTo.isSome && (r.opcode == 0x02 || r.opcode == 0x03) && r.phase == .live then .next (latchNaming s h.toNat r st r0 r1)
      else if bauEnding s h.toNat then .next (bauCommit s h.toNat st r0 r1)
      else
        let s := commit s h.toNat st r0 r1
        .next (if r.opcode = 0x4A ∧ (handleOf s h.toNat).isNone = true then reduceDone s h.toNat else s)
    | none => .next s

/-- COMPLETION_RECORD_WRITE (R43, R44, R51, R54): the next record of a ring is written, one held from before a warm reset first. A HALTED ring holds its
records; a record that host memory does not take (`ok` false) is held, and the ring halts with cause 2 (R30). -/
def execCompletionRecordWrite (n : RingId) (ok : Bool) (s : State) : Out3 :=
  let r := ringOf s n.val
  if r.st ≠ .active ∧ r.st ≠ .draining then .next s
  else
    let next := if r.old.isEmpty then r.commits.head? else r.old.head?
    if !next.any (recordDue s) then .next s
    else if !ok then .next (haltRing s n.val 2)
    else if r.old.isEmpty then .next (writeDue 1 s n.val)
    else .next (writeOld 1 s n.val)

/-- NOTIFICATION (R45, R443, R546): at least HOLDOFF_US after the last one; a message to the host of a Bromet port, an MSI-X message of a CXL host port or
of the management endpoint. -/
def execNotification (n : RingId) (s : State) : Out3 :=
  let r := ringOf s n.val
  let due := match r.lastNotify with
    | none => true
    | some t => decide (t + 1000 * fld s (ringGlobal + 8) 0 16 ≤ s.now)
  if r.notifyPend = true ∧ due = true then
    let s := setRing s n.val { r with notifyPend := false, lastNotify := some s.now }
    if ringMgmt s n.val then .next (msix s (16 + n.val % 2032))
    else if isCxl s (ringPort s n.val) then .next (emit s (.cxlMsix (ringPort s n.val) (n.val % 2048)))
    else .next (emit s (.notify (ringPort s n.val) n.val r.gen (ix r.written)))
  else .next s

/-- HELD_RECORD_DROP (R55): 10 s after the end of the warm reset. -/
def execHeldRecordDrop (n : RingId) (s : State) : Out3 :=
  let r := ringOf s n.val
  match r.oldDue with
  | none => .next s
  | some t =>
    if r.st = .disabled ∧ t ≤ s.now then
      let s := setRing s n.val { r with old := [], oldDue := none }
      .next (returnRemote (r.old.foldl (fun s h => recDrop (dropHandle s h)) s))
    else .next s

/-- NOP (R46). -/
def execNop (h : Handle) (s : State) : Out3 :=
  match startable s h.toNat 0x01 with
  | some _ => .next (commit s h.toNat .ok 0 0)
  | none => .next s

/-- Whether a descriptor of a key may name a handle: the handle's ring pair has that key (R48); a policy module names handles of its own
queue only (R466). -/
def handleKeyOk (s : State) (own : Key) (t : Nat) : Bool :=
  if 2 ^ 79 ≤ t then t / 2 ^ 52 % 4096 == 0xFFF
  else match handleOf s t with
  | some r => if r.remote.isSome then r.key == own else ringKey s r.ring == own
  | none => decide (2 ^ 64 ≤ t) || ringKey s (t / 2 ^ 52 % 4096) == own

/-- The handle that a descriptor names in bytes 8 to 15, among those of the switch or queue that it came from (R165, R466). -/
def namedHandle (r : HandleRec) : Nat := match r.remote with
  | some sw => (1 + sw) * 2 ^ 64 + d64 r.desc 8
  | none => d64 r.desc 8

/-- The switch at which a named target runs: one that was forwarded, started there and has not returned (R165). -/
def targetAway (s : State) (t : Nat) : Option Nat :=
  (handleOf s t).bind (fun x => if x.started && x.phase == .live then x.sentTo else none)

/-- Send a started ABORT or QUERY_HANDLE on to the switch at which its target runs. -/
def sendNaming (s : State) (h : Nat) (r : HandleRec) (sw : Nat) (wait : Option Nat) : State :=
  emit (setHandle s h { r with sentTo := some sw, started := true, waitFor := wait }) (.forwardDesc sw h r.desc)

/-- QUERY_HANDLE (R48). The home of a forwarded target knows its progress. -/
def execQueryHandle (h : Handle) (s : State) : Out3 :=
  match startable s h.toNat 0x03 with
  | none => .next s
  | some r =>
    let t := namedHandle r
    if handleKeyOk s r.key t then
      match targetAway s t with
      | some sw => .next (sendNaming s h.toNat r sw none)
      | none =>
        let q := queryResults s t (handleState s t)
        .next (commit s h.toNat .ok q.1 q.2)
    else .next (commit s h.toNat .notOwner 0 0)

/-- Let an abort win the latch of a live handle (R49, R52): its record waits for the stop point. An operation that has
not started stops at once, with progress 0; the record of a DRAWER_OFFER carries its drawer's epoch (R182). -/
def abortWins (s : State) (t : Nat) : State :=
  match handleOf s t with
  | none => s
  | some x =>
    let wait := x.started || x.opcode == 0x29
    let s := setHandle s t { x with abortWon := true }
    commitWith s t (!wait) .aborted 0 0

/-- ABORT (R50, R51). The target of a forwarded ABORT is a handle of the switch that forwarded it (R165). DESIGN CHOICE (assumption log, entry 98): a target
whose descriptor is still on its way has no opcode yet, and the ABORT waits until it has arrived. -/
def execAbort (h : HRef) (s : State) : Out3 :=
  match startable s h.toNat 0x02 with
  | none => .next s
  | some r =>
    let name := d64 r.desc 8
    let t := namedHandle r
    let done (st : Status) (target : Option Nat) (code : Nat) (s : State) : Out3 :=
      .next (commit (setHandle s h.toNat { r with waitFor := target }) h.toNat st (BitVec.ofNat 64 name)
        (BitVec.ofNat 64 code))
    if handleKeyOk s r.key t = false then done .notOwner none 0 s
    else match handleOf s t with
      | none => if handleState s t = 0 then done .busy none 0 s else done .alreadyDone none 0 s
      | some x =>
        match x.phase with
        | .fetching => .next s
        | .committed => done .alreadyDone (some t) (statusCode x.status) s
        | .live =>
          match targetAway s t with
          | some sw => .next (sendNaming s h.toNat r sw (some t))
          | none =>
            if ((opRow x.opcode).map (·.abort)).getD false = false then done .busy none 0 s
            else match x.fin with
              | some (st, r0, r1) => done .alreadyDone (some t) (statusCode st) (commit s t st r0 r1)
              | none => done .ok (some t) 0 (abortWins s t)

end Sys2Proof.Machine
end

