-- ==== Sys2Proof/Machine/Order.lean ====
section
/-! DEFINITION. Retirement, Fences, held requests and doorbells (05), throttle contexts (16, R391, R392), and the source side
of the atomic sequences (06, R157, R159). -/

namespace Sys2Proof.Machine

/-! ## Throttle contexts (R391) -/

/-- The rate at which an island's contexts start and end: that of its port, or for a Trestle cluster that of a port island of 8 lanes (DESIGN CHOICE,
log entry 110: the spec gives a cluster island no port rate). -/
def islandRate (s : State) (isl : Nat) : Nat := if isl < 128 then portRate s isl else 3200000

/-- The context of a notice, allocated at the port rate; of 256, the one with the highest rate is replaced. -/
def noticeCtx (s : State) (p home : Nat) (bulk : Bool) : State × Throttle :=
  match s.cong.ctxs.find? (fun c => c.island == p && c.home == home && c.bulk == bulk) with
  | some c => (s, c)
  | none =>
    let c : Throttle := { island := p, home := home, bulk := bulk, rate := islandRate s p, tokens := 32768000, filled := s.now }
    let mine := s.cong.ctxs.filter (fun d => d.island == p)
    match mine with
    | [] => ({ s with cong := { s.cong with ctxs := s.cong.ctxs ++ [c] } }, c)
    | d :: r =>
      if mine.length < 256 then ({ s with cong := { s.cong with ctxs := s.cong.ctxs ++ [c] } }, c)
      else
        let top := r.foldl (fun (a : Throttle) b => if a.rate < b.rate then b else a) d
        (bump { s with cong := { s.cong with ctxs := s.cong.ctxs.erase top ++ [c] } } (congCnt 2), c)

/-- on_notice (R391). -/
def notice (s : State) (p home : Nat) (bulk : Bool) : State :=
  let (s, c) := noticeCtx s p home bulk
  let s := bump s (congCnt 0)
  let due := match c.lastDec with
    | none => true
    | some t => decide (t + 100 * fld s 0x34008 4 12 ≤ s.now)
  let c := { c with tokens := tokensNow s c, filled := s.now, lastNotice := s.now }
  if due then
    let rate := Nat.max (1000 * fld s 0x34008 32 8) (c.rate - c.rate / 2 ^ fld s 0x34008 0 4)
    bump (setThrottle s { c with rate := rate, lastDec := some s.now }) (congCnt 1)
  else setThrottle s c

/-- THROTTLE_INCREASE_TICK (R391): due every INC_US. -/
def execThrottleIncreaseTick (s : State) : Out3 :=
  let step := 1000 * fld s 0x34008 24 8
  if s.now < s.cong.lastInc + step then .next s
  else
    let ctxs := s.cong.ctxs.filterMap (fun c =>
      if c.lastNotice + step ≤ s.now then
        let rate := c.rate + 1000 * fld s 0x34008 16 8
        if islandRate s c.island ≤ rate then none
        else some { c with rate := rate, tokens := tokensNow s c, filled := s.now }
      else some c)
    .next { s with cong := { s.cong with ctxs := ctxs, lastInc := s.now } }

/-- The entry of a request of a source and tag that has not retired. -/
def outOf (s : State) (src : Endpoint) (tag : Nat) : Option Out :=
  s.ord.outs.find? (fun o => o.req.src == src && o.req.tag.toNat == tag)

/-- THROTTLE_RELEASE (R392): a metered request finds its tokens. -/
def execThrottleRelease (src : Endpoint) (tag : BitVec 14) (s : State) : Out3 :=
  match outOf s src tag.toNat with
  | none => .next s
  | some o =>
    if o.throttled = true ∧ o.released = false then
      match meter s o.req with
      | some s => .next (tryRelease (setOut s o.req.num (fun x => { x with throttled := false })) { o with throttled := false })
      | none => .next s
    else .next s

/-! ## Held requests (R124 to R126, R159) -/

/-- Release a held request of a source and tag if nothing holds it any more. -/
def releaseHeld (s : State) (src : Endpoint) (tag : Nat) : State :=
  match outOf s src tag with
  | some o => if o.released || o.throttled || !o.checked then s else tryRelease s o
  | none => s

/-- HELD_REQUEST_RELEASE (R125). -/
def execHeldRequestRelease (src : Endpoint) (tag : BitVec 14) (s : State) : Out3 := .next (releaseHeld s src tag.toNat)

/-- ATOMIC_WINDOW_RELEASE (R159). -/
def execAtomicWindowRelease (src : Endpoint) (tag : BitVec 14) (s : State) : Out3 := .next (releaseHeld s src tag.toNat)

/-- Whether requests that arrived at a port before a doorbell have not retired (R127). -/
def dblWaits (s : State) (p num : Nat) : Bool := s.ord.outs.any (fun o => !internal o.req && o.req.port.val == p && o.req.num < num)

/-- Take in held doorbells whose earlier requests have all retired, in order. -/
def releaseDoorbells (s : State) : State :=
  s.rings.dbHeld.foldl (fun s d =>
    if dblWaits s d.1 d.2.1 then s
    else doorbell { s with rings := { s.rings with dbHeld := s.rings.dbHeld.erase d } } (some d.1) d.2.2.1 d.2.2.2) s

/-- Drop the Fences whose condition is met, sending CmpFence for a FenceSync (R126). -/
def releaseFences (s : State) : State :=
  s.ord.fences.foldl (fun s f =>
    if fenceMet s f then
      let s := { s with ord := { s.ord with fences := s.ord.fences.erase f } }
      if f.kind = .sync then emit s (.cmp f.port f.src 0 .cmpFence .ok none false false) else s
    else s) s

/-- Take in a Fence at a Bromet host port. -/
def fenceArrive (s : State) (p : Nat) (src : Endpoint) (k : FenceKind) : State :=
  if isHostPort s p && !isCxl s p && portEp s p == src then
    let f : FenceHold := ⟨p, src, k, s.ord.arrivals⟩
    releaseFences { s with ord := { s.ord with fences := s.ord.fences ++ [f], arrivals := s.ord.arrivals + 1 } }
  else s

/-- FENCEALL (R126). -/
def execFenceall (p : PortId) (src : Endpoint) (s : State) : Out3 := .next (fenceArrive s p.val src .all)
/-- FENCEWR (R126). -/
def execFencewr (p : PortId) (src : Endpoint) (s : State) : Out3 := .next (fenceArrive s p.val src .wr)
/-- FENCESYNC (R126). -/
def execFencesync (p : PortId) (src : Endpoint) (s : State) : Out3 := .next (fenceArrive s p.val src .sync)

/-- DOORBELL (R31, R127, R128): through a host port, held there as if it carried REL, or from the management host;
a CXL port that requires IDE serves none while IDE is not established (R449). -/
def execDoorbell (via : Option PortId) (key : Key) (word : Word) (s : State) : Out3 :=
  match via with
  | none => .next (doorbell s none key word)
  | some p =>
    let s := creditBack s p.val 4
    if !isHostPort s p.val || (!isCxl s p.val && !ingressKey s p.val key) then .next (dbDrop s)
    else if isCxl s p.val then
      if flag s (portBase p.val + 0x900) 16 && !(tblGet s.link.cxl p.val {}).ideOn then .next (dbDrop s)
      else .next (doorbell s (some p.val) key word)
    else
      let num := s.ord.arrivals
      let s := { s with ord := { s.ord with arrivals := num + 1 } }
      if dblWaits s p.val num then .next { s with rings := { s.rings with dbHeld := s.rings.dbHeld ++ [(p.val, num, key, word)] } }
      else .next (doorbell s (some p.val) key word)

/-! ## Retirement (R118) -/

/-- The port at which a completion for another switch leaves the device. -/
def donePort (s : State) (d : Done) : Option Nat :=
  match epWhere s d.src with
  | .on sw => (bridleFor s d.src sw d.part 7 0 (some d.src)).map (fun b => bPort b 0)
  | _ => none

/-- A completion that leaves through a trunk enters that port's TC7 queue (R390). -/
def echoOut (s : State) (d : Done) : Done × State :=
  match (if isTrunk s d.port then donePort s d else none) with
  | some p =>
    let (deep, s) := echoAt s p d.cmp
    ({ d with echo := d.echo || deep }, s)
  | none => (d, s)

/-- A completion as a CXL host receives it: no status and no ECHO; a refused read returns poison, a refused write Cmp (R393, R446). -/
def cxlDone (s : State) (d : Done) : Done :=
  if isCxl s d.port && isHostPort s d.port then
    { d with echo := false, status := .ok, cmp := if d.cmp = .cmpErr then (if d.data.isSome then .cmpI else .cmpWr) else d.cmp }
  else d

/-- Send a completion out at its port. -/
def sendDone (s : State) (d : Done) : State :=
  let (d, s) := echoOut s d
  let d := cxlDone s d
  match d.cmp with
  | .cmpComb => sendTc7 s d.part d.src d.port (fun p => .cmpComb p d.tag d.comb d.poison)
  | _ =>
    let data := match d.data with
      | some l => some l
      | none => d.results.head?.map (fun v => v.setWidth 512)
    let e (p : Nat) : Emit := .cmp p d.src d.tag d.cmp d.status data d.poison d.echo
    if isTrunk s d.port then sendTc7 s d.part d.src ((epPort s d.src).getD d.port) e else emit s (e d.port)

/-- A grant to a CXL host is installed once its completion is sent (R113). -/
def cxlInstalled (s : State) (d : Done) : State :=
  if isCxl s d.port then
    match s.coh.trans.find? (fun e => e.2.ackFrom == some d.src && (match e.2.kind with
        | .req r => r.tag.toNat == d.tag
        | .recalls _ _ => false)) with
    | some (line, t) => endTrans (setTrans s line { t with ackFrom := none }) line
    | none => s
  else s

/-- Whether a completion to an endpoint for a line is still to be sent on its link (R113). -/
def grantComing (s : State) (line : Nat) (e : Endpoint) : Bool :=
  completionPending s line (.ep e) || (transAt s line).any (fun t => t.ackFrom == some e) || s.coh.toRetire.any (fun d => d.src == e)

/-- Send the BIConflictAcks whose completions have been sent (R113). -/
def releaseBiAcks (s : State) : State :=
  s.coh.biAcks.foldl (fun s a =>
    if grantComing s a.1 a.2 then s
    else emit { s with coh := { s.coh with biAcks := s.coh.biAcks.erase a } } (.biConflictAck a.2 a.1)) s

/-- The request of a source's port that a completion retires. A request that a fence cut takes only the FENCED completion of the fence; any
other that comes for it is discarded (R137). -/
def retires (s : State) (port : Nat) (src : Endpoint) (tag : Nat) (fenced : Bool) : Option Out :=
  s.ord.outs.find? (fun o => o.req.port.val == port && o.req.src == src && o.req.tag.toNat == tag && (!o.cut || fenced))

/-- Whether a completion at a port is one for the port's own host. -/
def ownHost (s : State) (port : Nat) (src : Endpoint) : Bool := isHostPort s port && portEp s port == src

/-- A request leaves its source's order (R118): its entry goes, and an ECHO is a notice to its throttle context (R391). -/
def dropOut (s : State) (o : Out) (echo : Bool) : State :=
  let s := { s with ord := { s.ord with outs := s.ord.outs.filter (fun x => x.req.num != o.req.num) } }
  if echo then notice s o.req.port.val (o.req.addr.toNat / 2 ^ 48) o.req.bulk else s

/-- A CmpWb of a source at its port (R126). -/
def dropWbs (s : State) (port : Nat) (src : Endpoint) (tag : Nat) : State :=
  { s with ord := { s.ord with wbs := s.ord.wbs.filter (fun w => !(w.1 == port && w.2.1 == src && w.2.2.1 == tag)) } }

/-- Send the snoops that waited for a completion of their partition's stream to the endpoint (R93). -/
def snoopsAfter (s : State) (d : Done) : State :=
  ((s.coh.trans.filter (fun e => linePart e.1 == d.part && e.2.snoops.any (fun n => n.dest == .ep d.src && n.sentAt.isNone && !n.recalls))).map
    (·.1)).foldl sendSnoops s

/-- Retire one completion at its egress port island (R118): one for a host's request that no longer stands there is discarded (R137). -/
def retire (s : State) (d : Done) : State :=
  let s := { s with coh := { s.coh with toRetire := s.coh.toRetire.erase d } }
  let s :=
    if d.cmp = .cmpWb then sendDone (dropWbs s d.port d.src d.tag) d
    else
      let s := dropFlight s d.src.toNat d.tag
      match retires s d.port d.src d.tag (d.status == .fenced) with
      | some o => sendDone (dropOut s o d.echo) d
      | none => if ownHost s d.port d.src then s else sendDone s d
  releaseBiAcks (releaseDoorbells (releaseFences (cxlInstalled (snoopsAfter s d) d)))

/-- A completion from another switch enters the egress port island of its source's port (R118, R137): whether it goes on to the host. -/
def retireAway (s : State) (port : Nat) (m : CmpMsg) : State × Bool :=
  if m.kind = .cmpWb then (releaseFences (dropWbs s port m.dst m.tag.toNat), true)
  else match retires s port m.dst m.tag.toNat false with
    | some o => (releaseDoorbells (releaseFences (dropOut s o m.echo)), true)
    | none => (s, false)

/-- Whether a source is a Trestle unit's endpoint with a request of that tag outstanding: its completions reach its gangs (R299). -/
def unitWaits (s : State) (src : Endpoint) (tag : Nat) : Bool :=
  s.trs.units.any (fun e => BitVec.ofNat 16 (fld s trestleBase 0 16 + e.1) == src && e.2.gangs.any (fun g => g.2.reqs.any (fun q => q.src == e.1 && q.tag == tag)))

/-- REQUEST_RETIRE (R118): the oldest completion for a source and tag enters the egress port island. -/
def execRequestRetire (src : Endpoint) (tag : BitVec 14) (s : State) : Out3 :=
  if unitWaits s src tag.toNat then .next s
  else match s.coh.toRetire.find? (fun d => d.src == src && d.tag == tag.toNat) with
  | some d => .next (retire s d)
  | none => .next s

/-- ATOMRETIRE (R157): RSEQ on its own; for another home it travels on. -/
def execAtomretire (p : PortId) (src : Endpoint) (key : Key) (home : BitVec 12) (rseq : BitVec 16) (s : State) : Out3 :=
  let s := creditBack s p.val 6
  if !ingressKey s p.val key then .next (keyDrop s p.val)
  else
    let s := if isHostPort s p.val then retireWindow s src home.toNat rseq else s
    if home.toNat = switchId s then .next (advanceRseq s src rseq)
    else .next (sendFlow s src home.toNat 0 6 0 none (fun q => .send q "AtomRetire" [src.toNat, home.toNat, rseq.toNat]))

end Sys2Proof.Machine
end

