-- ==== Sys2Proof/Machine/Far.lean ====
section
/-! DEFINITION. Far mode, combined atomics and the replay table (06, R147 to R160). -/

namespace Sys2Proof.Machine

/-- ATOMCOMB (R153, R156): refused from a host port; else checked as a request, and ordered at its home. -/
def execAtomcomb (r : Req) (s : State) : Out3 :=
  if r.kind ≠ .atomComb then .next s
  else if isHostPort s r.port.val then .next (refuseReq s r .badDescriptor)
  else
    let known (x : Req) : Bool := x.src == r.src && x.tag == r.tag && x.kind == .atomComb
    let s1 :=
      if s.coh.inbox.any known || s.coh.waitQ.any known || s.pool.xlateWait.any known then s
      else match execRequestIngress r s with
        | .next t => t
        | _ => s
    .next (orderRow [.atomComb] r.src r.tag s1)

/-- The CmpAtom of a contributor of a group, sent along its own return path (R153): without data for a NORET record; none where the CmpComb
has no result for the record (R156, log entry 101). -/
def contributorDone (s : State) (p : Nat) (poison : Bool) (results : List CombRes) (x : CombRec) : Option Done :=
  let d : Done := { port := (epPort s x.ep).getD p, src := x.ep, tag := x.tag.toNat, cmp := .cmpAtom }
  if x.noret then some d
  else (results.find? (fun v => v.ep == x.ep && v.tag == x.tag)).map (fun v => { d with results := [v.val], poison := poison })

/-- CMPCOMB (R153): the port island that combined sends each contributor its result. -/
def execCmpcomb (p : PortId) (tag : BitVec 14) (results : List CombRes) (poison : Bool) (s : State) : Out3 :=
  match s.atm.splits.find? (fun x => x.port == p.val && x.tag == tag) with
  | none => .next s
  | some x =>
    let out := x.recs.filterMap (contributorDone s p.val poison results)
    .next { s with atm := { s.atm with splits := s.atm.splits.erase x }, coh := { s.coh with toRetire := s.coh.toRetire ++ out } }

/-- REPLAY_ENTRY_FREE (R155): the oldest atomic held for a replay entry that now finds one passes to ordering. -/
def execReplayEntryFree (part : PartId) (s : State) : Out3 :=
  match s.coh.inbox.find? (fun r => reqPart r == part.val && s.atm.replayWait.contains r.num) with
  | none => .next s
  | some r =>
    if replayHeld s r then .next s
    else .next (takeInbox { s with atm := { s.atm with replayWait := s.atm.replayWait.filter (· != r.num) } } r)

/-- A line that has just entered Far mode leaves it again where something sends it to LEAVING (R148). -/
def leaveBarred (s : State) (line : Nat) : State :=
  match farBarred s line with
  | some true => leaveFar s line 2
  | some false => leaveRange s (line * 64) (line * 64 + 64)
  | none => s

/-- FAR_ENTER (R148): the recall has ended and no write of the line is on its way; its value goes into the Far buffer. -/
def execFarEnter (off : PoolOff) (s : State) : Out3 :=
  let line := off.toNat / 64
  match hotAt s line with
  | none => .next s
  | some h =>
    if h.mode = .entering ∧ recallDone s h.tag = true ∧ (transAt s line).isNone = true ∧
        s.coh.wbBuf.any (fun w => w.line == line) = false then
      let v := memLine s line
      .next (leaveBarred (dropStat (setHot (dropDir s line) line { h with mode := .far, buf := v.1, poison := v.2, lastReq := s.now }) h.tag) line)
    else .next s

/-- The run of atomics at the head of a Far line's queue that may merge with its first, of at most 14 records (R152). -/
def headRun (r : Req) : Nat → List Req → List Req
  | _, [] => []
  | n, x :: q =>
    let k := (atomRecs x).length
    if farCombinable x && sameAtom r x && decide (n + k ≤ 14) then x :: headRun r (n + k) q else []

/-- Count a line operation (R163). -/
def farOp (s : State) (line : Nat) : State := bump s (farCnt (linePart line) 3)

/-- Serve a group of atomics from the Far buffer (R149, R154, R155). -/
def farAtoms (s : State) (line : Nat) (h : Hot) (rs : List Req) : State :=
  let p := linePart line
  let (d, g) := applyGroup s line rs h.buf h.poison
  let poison := h.poison || rs.any (·.poison)
  match t1Fit s line d poison with
  | none => rs.foldl (fun s r => refuseQuota (dropWait s r) r) (bump s (cmpCnt 8))
  | some s =>
    let s := groupNote (markDirty (setHot (farOp s line) line { h with buf := d, poison := poison, lastReq := s.now }) line) p g
    let s := if 1 < rs.length then bumpBy s (farCnt p 5) rs.length else s
    let s := rs.foldl dropWait s
    { s with coh := { s.coh with toRetire := s.coh.toRetire ++ groupDones rs g } }

/-- Answer a read of a Far line from its buffer (R149). -/
def farRead (s : State) (line : Nat) (h : Hot) (r : Req) (c : CmpKind) : State :=
  completeReq (farOp (dropWait s r) line) r c .ok (some h.buf) h.poison []

/-- Write a request's data into the Far buffer (R149, R151); its T1 block is encoded with the new value (R225). -/
def farWrite (s : State) (line : Nat) (h : Hot) (r : Req) (d : Line) (poison : Bool) : State :=
  match t1Fit s line d poison with
  | none => refuseQuota (bump (dropWait s r) (cmpCnt 8)) r
  | some s =>
    completeReq (markDirty (setHot (farOp (dropWait s r) line) line { h with buf := d, poison := poison, lastReq := s.now }) line)
      r .cmpWr .ok none false []

/-- Serve a read or ownership request of a Far line (R149): to a CXL host's the line leaves Far mode, and the request waits (R148). -/
def farGrant (s : State) (line : Nat) (h : Hot) (r : Req) : State :=
  if r.origin = .cxl then leaveFar s line 2 else farRead s line h r .cmpFar

/-- Serve a write or a group of atomics of a Far line, `r` first, on a page that is ready for it: a draft's shared page is copied first
(R172), a page not yet there is allocated (R58). -/
def farChange (s : State) (line : Nat) (r : Req) (f : State → Hot → State) : State :=
  match writeReady s line r with
  | .quota => refuseQuota (dropWait s r) r
  | .wait s => s
  | .ok s =>
    match hotAt s line with
    | some h => f s h
    | none => s

/-- Serve one request of a Far line (R149, R151). -/
def farServe (s : State) (line : Nat) (h : Hot) (r : Req) : State :=
  match r.kind with
  | .rdNC => farRead s line h r .cmpI
  | .rdShared => farGrant s line h r
  | .rdOwn => farGrant s line h r
  | .wrLine => farChange s line r (fun s h => farWrite s line h r r.data r.poison)
  | .wrPtl => farChange s line r (fun s h => farWrite s line h r (mergeBytes h.buf r.data r.mask) (h.poison || r.poison))
  | _ =>
    match atomAnswer s line r with
    | some s => dropWait s r
    | none => farChange s line r (fun s h => farAtoms s line h [r])

/-- FAR_LINE_OP (R149, R152): the next request or combined group of a Far line. -/
def execFarLineOp (off : PoolOff) (s : State) : Out3 :=
  let line := off.toNat / 64
  match hotAt s line with
  | none => .next s
  | some h =>
    let q := s.coh.waitQ.filter (fun r => reqLine r == line)
    match q with
    | [] => .next s
    | r :: rest =>
      if h.mode ≠ .far ∨ lineHeld s line (isWriteKind r.kind) = true ∨ replayShort s r = true then .next s
      else
        let run := r :: headRun r (atomRecs r).length rest
        if farCfg s (linePart line) 31 1 = 1 ∧ farCombinable r = true ∧ atomMalformed r.atom (r.addr.toNat % 64) = false ∧
            1 < run.length ∧ (run.flatMap atomRecs).length ≤ replayRoom s (linePart line) then
          .next (farChange s line r (fun s h => farAtoms s line h run))
        else .next (farServe s line h r)

/-- FAR_QUIET_EXPIRE (R148): no request for QUIET_US. -/
def execFarQuietExpire (off : PoolOff) (s : State) : Out3 :=
  let line := off.toNat / 64
  match hotAt s line with
  | none => .next s
  | some h =>
    if h.mode = .far ∧ h.lastReq + 1000 * farCfg s (linePart line) 32 10 ≤ s.now ∧
        s.coh.waitQ.any (fun r => reqLine r == line) = false then .next (leaveFar s line 1)
    else .next s

/-- FAR_EXIT_DONE (R148): the exit write is in memory; the line is near, in state I. -/
def execFarExitDone (off : PoolOff) (s : State) : Out3 :=
  let line := off.toNat / 64
  match hotAt s line with
  | none => .next s
  | some h =>
    if h.mode = .leaving then
      .next (setHot (storeLine s line h.buf h.poison) line { h with mode := .near, xfers := [], buf := 0, poison := false })
    else .next s

end Sys2Proof.Machine
end

