-- ==== Sys2Proof/Machine/CxlMem.lean ====
section
/-! DEFINITION. Requests and back-invalidate responses of CXL hosts (04, R112, R113; 18, R441 to R449). -/

namespace Sys2Proof.Machine

def cxlOf (s : State) (p : Nat) : CxlPort := tblGet s.link.cxl p {}
def setCxl (s : State) (p : Nat) (c : CxlPort) : State := { s with link := { s.link with cxl := tblPut s.link.cxl p c } }

/-- PORT_CXL_CFG.PKEY, and whether the port may serve with it (R444). -/
def cxlKey (s : State) (p : Nat) : Key := BitVec.ofNat 16 (fld s (portBase p + 0x900) 0 16)
def cxlKeyOk (s : State) (p : Nat) : Bool := isTenant s (cxlKey s p) && ingressKey s p (cxlKey s p)

/-- Interleave ways and granularities that a decoder takes (R441). -/
def hdmOk (d : Hdm) : Bool := [1, 2, 4, 8, 16].contains d.ways && [256, 512, 1024, 2048, 4096, 8192, 16384].contains d.gran

/-- A host physical address through one decoder: its DPA, where the granule falls to this port (R445). -/
def hdmDecode (d : Hdm) (hpa : Nat) : Option Nat :=
  if hdmOk d = true ∧ d.base ≤ hpa ∧ hpa < d.base + d.size ∧ (hpa - d.base) / d.gran % d.ways = d.pos then
    some (d.dpa + (hpa - d.base) / d.gran / d.ways * d.gran + (hpa - d.base) % d.gran)
  else none

/-- The device physical address of a host physical address at a port, and its pool offset (R57, R445). -/
def hpaToDpa (s : State) (p hpa : Nat) : Option Nat := (cxlOf s p).decoders.findSome? (fun d => hdmDecode d hpa)
def hpaToPool (s : State) (p hpa : Nat) : Option Nat := (hpaToDpa s p hpa).bind (dpaToPool (cxlWindows s p))

/-- The coherence request of a CXL request (R112). -/
def cxlReq (s : State) (m : CxlReq) (k : ReqKind) (off : Nat) : Req :=
  { kind := k, src := portEp s m.port.val, tag := m.tag, port := m.port,
    addr := BitVec.ofNat 60 (switchId s * 2 ^ 48 + off), key := cxlKey s m.port.val, origin := .cxl }

/-- Count a CXL message (R456). -/
def cxlCount (s : State) (p k : Nat) : State := bump s (cxlCnt p k)

/-- Whether the port is a CXL host port whose link is up and, where required, protected (R449). -/
def cxlServes (s : State) (p : Nat) : Bool :=
  s.sys.st == .serving && isHostPort s p && isCxl s p && (cxlOf s p).memEn &&
  (!flag s (portBase p + 0x900) 16 || (cxlOf s p).ideOn)

/-- Run a mapped request (R112), refused while back-invalidate is off, the key does not hold, or its address lies in no
window (R444 to R446). -/
def cxlRequest (s : State) (m : CxlReq) (k : ReqKind) (f : Req → Req) : State :=
  let p := m.port.val
  if !cxlServes s p then s
  else match hpaToPool s p m.hpa.toNat with
    | none =>
      let r := f (cxlReq s m k 0)
      refusePort (cxlRefusalAt s r .keyReject ((hpaToDpa s p m.hpa.toNat).getD 0)) r .keyReject
    | some off =>
      let r := f (cxlReq s m k off)
      if !(cxlOf s p).biEn then refuseReq (setBit s (portBase p + 0x910) 6) r .keyReject
      else if !cxlKeyOk s p then refuseReq (setBit s (portBase p + 0x910) 2) r .keyReject
      else match execRequestIngress r s with
        | .next t => t
        | _ => s

/-- CXL_MEMRD (R112). -/
def execCxlMemrd (m : CxlReq) (value : CxlMeta) (s : State) : Out3 :=
  let k : ReqKind := match value with
    | .noOp => .rdNC
    | .i => .rdNC
    | .s => .rdShared
    | .a => .rdOwn
  .next (cxlRequest (cxlCount s m.port.val 0) m k id)

/-- CXL_MEMRDDATA (R112). -/
def execCxlMemrddata (m : CxlReq) (s : State) : Out3 := .next (cxlRequest (cxlCount s m.port.val 0) m .rdShared id)

/-- CXL_MEMWR (R112, R113): a WbDirty from a recorded owner or under an open snoop, which waits at the port for a free line of the
writeback buffer (R91); otherwise a WrLine. -/
def execCxlMemwr (m : CxlReq) (data : Line) (poison : Bool) (s : State) : Out3 :=
  let p := m.port.val
  let s := cxlCount s p 1
  match (if cxlServes s p && (cxlOf s p).biEn && cxlKeyOk s p then hpaToPool s p m.hpa.toNat else none) with
  | some off =>
    let e := portEp s p
    if wbExpected s (off / 64) e (cxlKey s p) then
      if wbRoom s (linePart (off / 64)) then
        .next (takeWb (noteWb s p e m.tag.toNat) (off / 64) p e (cxlKey s p) m.tag.toNat data poison)
      else .next s
    else .next (cxlRequest s m .wrLine (fun r => { r with data := data, poison := poison }))
  | none => .next (cxlRequest s m .wrLine (fun r => { r with data := data, poison := poison }))

/-- CXL_MEMWRPTL (R112). -/
def execCxlMemwrptl (m : CxlReq) (data : Line) (mask : BitVec 64) (poison : Bool) (s : State) : Out3 :=
  .next (cxlRequest (cxlCount s m.port.val 1) m .wrPtl (fun r => { r with data := data, mask := mask, poison := poison }))

/-- MEMCLNEVCT (R112, R113): the host leaves the filter entry; refused while back-invalidate is off (R446). -/
def execMemclnevct (m : CxlReq) (s : State) : Out3 :=
  let p := m.port.val
  let s := cxlCount s p 0
  match (if cxlServes s p then hpaToPool s p m.hpa.toNat else none) with
  | none => .next s
  | some off =>
    if !(cxlOf s p).biEn then .next (setBit s (portBase p + 0x910) 6)
    else match dirAt s (off / 64) with
    | none => .next s
    | some e =>
      match removeHolder e (portEp s p) with
      | some e => .next (setDir s (off / 64) e)
      | none => .next (dropDir s (off / 64))

/-- MEMSPECRD (R442): accepted and ignored. -/
def execMemspecrd (m : CxlReq) (s : State) : Out3 := .next (cxlCount s m.port.val 0)

/-- MEMINV (R442): completed with Cmp, without effect, and counted. -/
def execMeminv (m : CxlReq) (s : State) : Out3 :=
  let p := m.port.val
  let s := setBit (cxlCount (cxlCount s p 0) p 5) (portBase p + 0x910) 5
  .next (emit s (.send p "Cmp" [m.tag.toNat]))

/-- An answer to a back-invalidate snoop (R112), with the tag of the snoop; it carries the port's key and passes its check (R103, R444). -/
def biRow (p : Nat) (off : Nat) (stag : Nat) (a : Ans) (s : State) : State :=
  if isHostPort s p && isCxl s p && !ingressKey s p (cxlKey s p) then keyDrop s p
  else if isHostPort s p && isCxl s p then answerSnoop s (off / 64) (.ep (portEp s p)) stag a none else s

/-- BIRSPI (R113). -/
def execBirspi (p : PortId) (off : PoolOff) (stag : BitVec 14) (s : State) : Out3 := .next (biRow p.val off.toNat stag.toNat .i s)
/-- BIRSPS (R113). -/
def execBirsps (p : PortId) (off : PoolOff) (stag : BitVec 14) (s : State) : Out3 := .next (biRow p.val off.toNat stag.toNat .sh s)
/-- BIRSPE (R113). -/
def execBirspe (p : PortId) (off : PoolOff) (stag : BitVec 14) (s : State) : Out3 := .next (biRow p.val off.toNat stag.toNat .cur s)

/-- BICONFLICT (R113): acknowledged after the conflicting completion. -/
def execBiconflict (p : PortId) (off : PoolOff) (s : State) : Out3 :=
  if isHostPort s p.val && isCxl s p.val then
    let s := bump s (homeCnt (linePart (off.toNat / 64)) 10)
    .next (releaseBiAcks { s with coh := { s.coh with biAcks := s.coh.biAcks ++ [(off.toNat / 64, portEp s p.val)] } })
  else .next s

end Sys2Proof.Machine
end

