-- ==== Sys2Proof/Machine/Composition.lean ====
section
/-! DEFINITION. Composition changes and map generations, freeing of pages, and quotas (03, R63, R68 to R87). -/

namespace Sys2Proof.Machine

/-! ## Entries (R72 to R74, R80) -/

/-- One change of composition: an image entry of MAP_COMMIT, or a single operation (key ignored by a single RESIZE), with
its index. -/
structure MapEntry where
  kind : Nat
  access : Nat
  key : Key
  id : Nat
  base : Nat
  len : Nat
  tiers : Nat
  init : Nat
  reserve : Bool
  anyKey : Bool := false
  idx : Nat := 0

/-- Why an entry fails: malformed at a byte of the single operation's descriptor, or a status. -/
inductive EntryErr where
  | bad (off : Nat)
  | st (s : Status)

/-- The change so far: the composition that the entries leave, and what they do to ranges. -/
def emptyChange (s : State) (h : Option Nat) : Change := { handle := h, extents := s.pool.extents }

/-- The extent of an ID in a change's composition. -/
def inChange (c : Change) (id : Nat) : Option Extent := c.extents.find? (fun x => x.id == id)

/-- The keys with access to an extent. -/
def keysOf (x : Extent) : List Key := x.owner :: x.grants.map (·.1)

/-- Replace or remove an extent of a composition. -/
def putExtent (xs : List Extent) (x : Extent) : List Extent := xs.map (fun y => if y.id = x.id then x else y)

/-- CREATE: the rules of R63 and R72. -/
def entryCreate (s : State) (c : Change) (e : MapEntry) : Except EntryErr Change :=
  if e.access ≠ 1 then .error (.bad 14)
  else if e.tiers = 0 ∨ 7 < e.tiers then .error (.bad 15)
  else if e.base % 4096 ≠ 0 then .error (.bad 16)
  else if e.len = 0 ∨ e.len % 4096 ≠ 0 ∨ 2 ^ 48 < e.base + e.len then .error (.bad 24)
  else if 2 < e.init ∨ bitsOf e.tiers e.init 1 = 0 then .error (.bad 32)
  else if !isTenant s e.key then .error (.st .keyReject)
  else
    let x : Extent := { id := e.id, base := e.base, len := e.len, owner := e.key, tiers := BitVec.ofNat 3 e.tiers, initTier := tierOfNo e.init }
    if (inChange c e.id).isSome ∨ c.extents.any (fun y => meets (rangeOf y) (rangeOf x)) ∨
        262144 ≤ c.extents.length ∨ 16384 ≤ (c.extents.filter (fun y => y.owner == e.key)).length then .error (.st .busy)
    else .ok { c with
      extents := c.extents ++ [x]
      affected := c.affected ++ [rangeOf x]
      granted := c.granted ++ [(x.base, x.base + x.len, e.key)]
      newRanges := c.newRanges ++ [rangeOf x]
      reserve := if e.reserve then c.reserve ++ [(x.id, e.idx)] else c.reserve
      r1 := BitVec.ofNat 64 x.id }

/-- ADD_GRANTEE; `none` where it changes nothing (R72, R73). -/
def entryGrant (s : State) (c : Change) (e : MapEntry) : Except EntryErr (Option Change) :=
  if 1 < e.access then .error (.bad 14)
  else if (inChange c e.id).any (fun x => x.owner == e.key) && e.access == 0 then .error (.bad 14)
  else if !isTenant s e.key && e.key != 0xFFFF then .error (.st .keyReject)
  else match inChange c e.id with
    | none => .error (.st .busy)
    | some x =>
      if x.owner = e.key then .ok none
      else
        let has := x.grants.any (fun g => g.1 == e.key)
        if !has && decide (7 ≤ x.grants.length) then .error (.st .busy)
        else
          let g := if has then x.grants.map (fun g => if g.1 = e.key then (e.key, e.access == 1) else g)
            else x.grants ++ [(e.key, e.access == 1)]
          .ok (some { c with
            extents := putExtent c.extents { x with grants := g }
            affected := c.affected ++ [rangeOf x]
            granted := c.granted ++ [(x.base, x.base + x.len, e.key)]
            r1 := BitVec.ofNat 64 x.id })

/-- Delete an extent: every key loses its range, and its pages are freed (R74, R79). -/
def entryDelete (c : Change) (x : Extent) : Change :=
  let lo := x.base / 65536 * 65536
  let hi := (x.base + x.len + 65535) / 65536 * 65536
  { c with
    extents := c.extents.filter (fun y => y.id != x.id)
    affected := c.affected ++ [rangeOf x]
    removed := c.removed ++ [(x.base, x.base + x.len, keysOf x)]
    freeRanges := c.freeRanges ++ [(lo, hi)] }

/-- REMOVE_GRANTEE; `none` where it changes nothing. A single EXTENT_REVOKE of the owner key deletes the extent. -/
def entryRemove (s : State) (c : Change) (e : MapEntry) : Except EntryErr (Option Change) :=
  if !isTenant s e.key && e.key != 0xFFFF then .error (.st .keyReject)
  else match inChange c e.id with
    | none => .error (.st .busy)
    | some x =>
      if x.owner = e.key then .ok (some (entryDelete c x))
      else if x.grants.any (fun g => g.1 == e.key) then
        .ok (some { c with
          extents := putExtent c.extents { x with grants := x.grants.filter (fun g => g.1 != e.key) }
          affected := c.affected ++ [rangeOf x]
          removed := c.removed ++ [(x.base, x.base + x.len, [e.key])] })
      else .ok none

/-- RESIZE; `none` where the length stays (R74). -/
def entryResize (s : State) (c : Change) (e : MapEntry) : Except EntryErr (Option Change) :=
  if e.len = 0 ∨ e.len % 4096 ≠ 0 ∨ (inChange c e.id).any (fun x => 2 ^ 48 < x.base + e.len) = true then .error (.bad 16)
  else if !e.anyKey && !isTenant s e.key then .error (.st .keyReject)
  else match inChange c e.id with
    | none => .error (.st .busy)
    | some x =>
      if !e.anyKey && x.owner != e.key then .error (.st .busy)
      else if e.len = x.len then .ok none
      else
        let y := { x with len := e.len }
        if e.len < x.len then
          .ok (some { c with
            extents := putExtent c.extents y
            affected := c.affected ++ [(x.base + e.len, x.base + x.len)]
            removed := c.removed ++ [(x.base + e.len, x.base + x.len, keysOf x)]
            freeRanges := c.freeRanges ++ [(x.base + e.len, x.base + x.len)] })
        else
          let tail := (x.base + x.len, x.base + e.len)
          if c.extents.any (fun z => z.id != x.id && meets (rangeOf z) tail) then .error (.st .busy)
          else .ok (some { c with
            extents := putExtent c.extents y
            affected := c.affected ++ [tail]
            granted := c.granted ++ (keysOf x).map (fun k => (tail.1, tail.2, k))
            newRanges := c.newRanges ++ [tail] })

/-- One entry against the composition as the earlier entries leave it; `none` where it changes nothing. No extent has ID 0 (R63): creating it is
malformed, and elsewhere it is an unknown ID. -/
def entryApply (s : State) (c : Change) (e : MapEntry) : Except EntryErr (Option Change) :=
  match e.kind with
  | 1 => if e.id = 0 then .error (.bad 8) else match entryCreate s c e with
    | .ok c => .ok (some c)
    | .error x => .error x
  | 2 => entryGrant s c e
  | 3 => entryRemove s c e
  | 4 =>
    if !isTenant s e.key then .error (.st .keyReject)
    else match inChange c e.id with
      | none => .error (.st .busy)
      | some x => if x.owner = e.key then .ok (some (entryDelete c x)) else .error (.st .busy)
  | 5 => entryResize s c e
  | _ => .error (.bad 8)

/-! ## Reservation (R72) -/

/-- Allocate `n` pages of an extent from `page` on, those already there apart. -/
def reserveFrom (x : Extent) : Nat → State → Nat → Option State
  | 0, s, _ => some s
  | n + 1, s, page =>
    if (backIdOf s page).isSome then reserveFrom x n s (page + 1)
    else match allocPage s page x with
      | some s => reserveFrom x n s (page + 1)
      | none => none

/-- Allocate every page of an extent, or nothing. -/
def reserveExtent (s : State) (x : Extent) : Option State :=
  reserveFrom x ((x.base + x.len + 65535) / 65536 - x.base / 65536) s (x.base / 65536)

/-- Allocate the pages of every extent that a change reserves; else the index of the first entry whose pages find no place. -/
def reserveAll (c : Change) : List (Nat × Nat) → State → Except Nat State
  | [], s => .ok s
  | e :: r, s =>
    match inChange c e.1 with
    | none => reserveAll c r s
    | some x =>
      match reserveExtent s x with
      | some s => reserveAll c r s
      | none => .error e.2

/-! ## The order of changes (R68) -/

/-- Whether an element of the composition order is a fence step's place. -/
def isFenceMark (h : Nat) : Bool := decide (2 ^ 100 ≤ h)

/-- The change whose turn it is: aborted descriptors have lost theirs. -/
def compHead (s : State) : Option Nat :=
  s.pool.compOrder.find? (fun h => isFenceMark h || (handleOf s h).any (fun r => r.phase == .live && r.fin.isNone))

/-- The descriptor of a composition operation whose turn has come. It may have been started before, and waited for its turn. -/
def compTurn (s : State) (h opcode : Nat) : Option HandleRec :=
  if compHead s = some h ∧ s.pool.ready = none then
    (handleOf s h).filter (fun r => r.opcode == opcode && r.sentTo.isNone && r.phase == .live && (r.started || mayStart s r))
  else none

/-- A composition operation that may start while earlier changes are still to be applied is started, and waits for its turn (R34, R68). -/
def waitTurn (s : State) (h opcode : Nat) : Out3 :=
  match startable s h opcode with
  | some _ => .next (markStarted s h)
  | none => .next s

def dropOrder (s : State) (h : Nat) : State :=
  { s with pool := { s.pool with compOrder := s.pool.compOrder.filter (· != h) } }

/-- End a composition operation without a change. -/
def compEnd (s : State) (h : Nat) (st : Status) (r0 r1 : Word) : Out3 :=
  .next (engineDone (markStarted (dropOrder s h) h) h st r0 r1)

/-- A generation as software sees it, in 32 bits: past the last it shows 0 again (R68; DESIGN CHOICE, log entry 99: the spec does not say what
follows generation 2^32 - 1). -/
def gen32 (g : Nat) : Nat := g % 2 ^ 32

/-- The current generation as a result. -/
def genWord (s : State) : Word := BitVec.ofNat 64 (gen32 s.pool.gen)

/-- Run a single composition operation whose turn has come (R72 to R74). -/
def runSingle (s : State) (h : Nat) (e : MapEntry) (discard : Bool) (same : Word) : Out3 :=
  match entryApply s (emptyChange s (some h)) e with
  | .error (.bad off) => compEnd s h .badDescriptor (BitVec.ofNat 64 off) 0
  | .error (.st st) => compEnd s h st 0 0
  | .ok none => compEnd s h .ok (genWord s) same
  | .ok (some c) =>
    match reserveAll c c.reserve s with
    | .error _ => compEnd s h .overQuota 0 0
    | .ok _ => .next (markStarted { s with pool := { s.pool with ready := some { c with discard := discard } } } h)

/-- EXTENT_CREATE (R72): EXTENT_GRANT with CREATE. -/
def execExtentCreate (h : Handle) (s : State) : Out3 :=
  match compTurn s h.toNat 0x10 with
  | none => waitTurn s h.toNat 0x10
  | some r =>
    let d := r.desc
    if !dFlag d 2 then .next s
    else runSingle s h.toNat { kind := 1, access := d8 d 14, key := dKeyAt d 12, id := d32 d 8, base := d64 d 16, len := d64 d 24, tiers := d8 d 15, init := d8 d 32, reserve := dFlag d 3 } false 0

/-- EXTENT_GRANT without CREATE (R72, R73). -/
def execExtentGrant (h : Handle) (s : State) : Out3 :=
  match compTurn s h.toNat 0x10 with
  | none => waitTurn s h.toNat 0x10
  | some r =>
    let d := r.desc
    if dFlag d 2 then .next s
    else if dFlag d 3 then compEnd s h.toNat .badDescriptor 1 0
    else runSingle s h.toNat { kind := 2, access := d8 d 14, key := dKeyAt d 12, id := d32 d 8, base := 0, len := 0, tiers := 0, init := 0, reserve := false } false (BitVec.ofNat 64 (d32 d 8))

/-- EXTENT_REVOKE (R74 to R78). -/
def execExtentRevoke (h : Handle) (s : State) : Out3 :=
  match compTurn s h.toNat 0x11 with
  | none => waitTurn s h.toNat 0x11
  | some r =>
    let d := r.desc
    runSingle s h.toNat { kind := 3, access := 0, key := dKeyAt d 12, id := d32 d 8, base := 0, len := 0, tiers := 0, init := 0, reserve := false } (dFlag d 2) 0

/-- EXTENT_RESIZE (R74 to R78). -/
def execExtentResize (h : Handle) (s : State) : Out3 :=
  match compTurn s h.toNat 0x12 with
  | none => waitTurn s h.toNat 0x12
  | some r =>
    let d := r.desc
    runSingle s h.toNat { kind := 5, access := 0, key := 0, id := d32 d 8, base := 0, len := d64 d 16, tiers := 0, init := 0, reserve := false, anyKey := true } (dFlag d 2) 0

/-! ## MAP_COMMIT (R80, R81) -/

/-- Entry `i` of an image. -/
def imageEntry (b : List Byte) (i : Nat) : MapEntry :=
  let k := 32 * i
  { kind := imgNat b k 1, access := imgNat b (k + 1) 1, key := BitVec.ofNat 16 (imgNat b (k + 2) 2), id := imgNat b (k + 4) 4,
    base := imgNat b (k + 8) 8, len := imgNat b (k + 16) 8, tiers := imgNat b (k + 24) 1, init := imgNat b (k + 25) 1,
    reserve := bitsOf (imgNat b (k + 26) 1) 0 1 == 1, idx := i }

/-- Whether the fields that an entry's kind leaves zero, and its reserved bytes, are zero. -/
def entryZeros (b : List Byte) (i : Nat) : Bool :=
  let e := imageEntry b i
  let flags := imgNat b (32 * i + 26) 1
  imgNat b (32 * i + 27) 5 == 0 && decide (flags ≤ 1) &&
  (e.kind == 1 || (e.base == 0 && e.tiers == 0 && e.init == 0 && flags == 0)) &&
  (e.kind == 1 || e.kind == 5 || e.len == 0) && (e.kind == 1 || e.kind == 2 || e.access == 0)

/-- Check the entries of an image in order: the change they make, or the status, result0 and index of the first that fails. -/
def imageApply (s : State) (b : List Byte) : List Nat → Change → Status × Nat × Nat ⊕ Change
  | [], c => .inr c
  | i :: r, c =>
    if !entryZeros b i then .inl (.badDescriptor, 8, i)
    else match entryApply s c (imageEntry b i) with
      | .error (.bad _) => .inl (.badDescriptor, 8, i)
      | .error (.st st) => .inl (st, 0, i)
      | .ok none => imageApply s b r c
      | .ok (some c') =>
        if c'.reserve.length = c.reserve.length then imageApply s b r c'
        else match reserveAll c' c'.reserve s with
          | .error j => .inl (.overQuota, 0, j)
          | .ok _ => imageApply s b r c'

/-- MAP_COMMIT (R80). -/
def execMapCommit (h : Handle) (s : State) : Out3 :=
  match compTurn s h.toNat 0x14 with
  | none => waitTurn s h.toNat 0x14
  | some r =>
    let d := r.desc
    let len := d32 d 16
    if d64 d 8 % 64 ≠ 0 then compEnd s h.toNat .badDescriptor 8 0
    else if len % 32 ≠ 0 ∨ len < 32 ∨ 131072 < len then compEnd s h.toNat .badDescriptor 16 0
    else if r.imagePoison then compEnd s h.toNat .poisoned 0 0
    else match r.image with
      | none => .next s
      | some b =>
        if crc32c (b.take len) ≠ d32 d 24 then compEnd s h.toNat .badDescriptor 24 0
        else if d32 d 20 ≠ 0 ∧ d32 d 20 ≠ gen32 s.pool.gen then compEnd s h.toNat .staleEpoch (genWord s) 0
        else match imageApply s b (List.range (len / 32)) (emptyChange s (some h.toNat)) with
          | .inl (st, r0, i) => compEnd s h.toNat st (BitVec.ofNat 64 r0) (BitVec.ofNat 64 i)
          | .inr c =>
            .next (markStarted { s with pool := { s.pool with ready := some { c with discard := dFlag d 2, whole := true } } } h.toNat)

/-! ## Publication (R68 to R70, R75, R76, R79) -/

/-- Whether a flight lies in a range. -/
def flightIn (f : Flight) (a : Nat × Nat) : Bool := meets (f.off, f.off + f.len) a

/-- Whether generation `g` is undrained: something stamped under it or earlier is in flight in a range that a later change
affected (R70). -/
def undrainedGen (s : State) (affected : List (Nat × Nat × Nat)) (g : Nat) : Bool :=
  s.pool.flights.any (fun f => f.gen ≤ g && affected.any (fun a => g < a.1 && flightIn f a.2))

/-- The generations that publishing a change over these ranges would leave undrained, its own apart: a flight in a range holds its own and
every later one (R70). -/
def undrainedAfter (s : State) (ranges : List (Nat × Nat)) : List Nat :=
  let aff := s.pool.affected ++ ranges.map (fun r => (s.pool.gen + 1, r.1, r.2))
  let low := s.pool.flights.foldl (fun m f => Nat.min m f.gen) s.pool.gen
  let new := ((List.range (s.pool.gen + 1 - low)).map (fun i => low + i)).filter (fun g => !s.pool.undrained.contains g && undrainedGen s aff g)
  s.pool.undrained ++ new

/-- Pages that an earlier change has still to free. -/
def freeingPage (s : State) (page : Nat) : Bool :=
  s.pool.toFree.contains page ||
  s.pool.open_.any (fun c => c.freeRanges.any (fun r => r.1 ≤ page * 65536 && page * 65536 + 65536 ≤ r.2))

/-- Whether a new range meets a page still to be freed (R79). -/
def meetsFreeing (s : State) (r : Nat × Nat) : Bool :=
  s.pool.pages.any (fun e => freeingPage s e.1 && meets (e.1 * 65536, e.1 * 65536 + 65536) r)

/-- Charge the pages of a change's freed ranges that its composition still covers to their new owners (R79). -/
def recharge (s : State) (c : Change) : State :=
  s.pool.pages.foldl (fun s e =>
    if c.freeRanges.any (fun r => meets r (e.1 * 65536, e.1 * 65536 + 65536)) then
      match coverOf c.extents e.1, backById s e.2 with
      | some x, some b => setBack s e.2 { b with charge := x.owner }
      | _, _ => s
    else s) s

/-- Whether an endpoint is an affected host (R76): its port holds a removed key and no key that keeps access; key 0xFFFF
sends no recall (R73). The port of a host elsewhere is not seen, so such a host counts as affected. -/
def affectedHost (s : State) (c : Change) (lo hi : Nat) (keys : List Key) (e : Endpoint) : Bool :=
  let gone := keys.filter (fun k => k != 0xFFFF)
  let kept := (c.extents.filter (fun x => meets (rangeOf x) (lo, hi))).flatMap keysOf
  match epPort s e with
  | some p => gone.any (keyMatch s p) && !kept.any (keyMatch s p)
  | none => !gone.isEmpty

/-- Ask for the recalls of a change (R76). -/
def changeRecalls (s : State) (c : Change) : State :=
  c.removed.foldl (fun s r =>
    queueRecalls s r.1 r.2.1 (if c.discard then .discard else .exclusive) c.tag (fun line e =>
      (holders s line e).any (fun h => match h with
        | .ep x => affectedHost s c r.1 r.2.1 r.2.2 x
        | .ring => false))) s

/-- The events that a change adds to the history (R67). -/
def changeEvents (s : State) (c : Change) (gen : Nat) : List KeyEvent :=
  c.granted.map (fun g => ⟨g.2.2, g.1, g.2.1, true, gen, s.now⟩) ++
  c.removed.flatMap (fun r => r.2.2.map (fun k => ⟨k, r.1, r.2.1, false, gen, s.now⟩))

/-- Publish a new generation over some ranges. -/
def newGeneration (s : State) (ranges : List (Nat × Nat)) : State :=
  let g := s.pool.gen + 1
  let und := undrainedAfter s ranges
  { s with pool := { s.pool with
    gen := g
    undrained := und
    affected := s.pool.affected ++ ranges.map (fun r => (g, r.1, r.2)) } }

/-- Publish a change, noted as progress 1 of a single operation (R82): composition, history, charges, recalls; grants are done, and removals drain. -/
def publishChange (s : State) (c : Change) : State :=
  let s := newGeneration s c.affected
  let gen := s.pool.gen
  let (tag, s) := newTag s
  let c := { c with gen := gen, tag := tag }
  let recent := s.pool.history.filter (fun e => s.now ≤ e.time + 1000000000)
  let s := { s with pool := { s.pool with extents := c.extents, history := changeEvents s c gen ++ recent, ready := none } }
  let s := recharge s c
  match c.handle with
  | none => s
  | some h =>
    let s := dropOrder s h
    if c.removed.isEmpty && !c.whole then engineDone (setProgress s h 1) h .ok (BitVec.ofNat 64 (gen32 gen)) c.r1
    else
      let s := if c.whole then commitWith s h false .ok 0 0 else setProgress s h 1
      changeRecalls { s with pool := { s.pool with open_ := s.pool.open_ ++ [c] } } c

/-- A fence step's generation is published: the FENCE_DOMAIN that waits for it completes (R493). -/
def fencePublished (s : State) (mark : Nat) : State :=
  let mine := s.ras.fenceWait.filter (fun f => f.2.1 == mark)
  let s := { s with ras := { s.ras with fenceWait := s.ras.fenceWait.filter (fun f => f.2.1 != mark) } }
  mine.foldl (fun s f => fillRecord s f.1 .ok (BitVec.ofNat 64 (f.2.2.1 + gen32 s.pool.gen * 2 ^ 32)) (BitVec.ofNat 64 f.2.2.2)) s

/-- MAP_GEN_PUBLISH (R69, R70): once fewer than 16 generations would be undrained and no page of a new range is still to be
freed. -/
def execMapGenPublish (s : State) : Out3 :=
  match s.pool.ready with
  | some c =>
    if (c.handle.bind (handleOf s)).any (fun r => r.phase == .live) = false then
      .next { s with pool := { s.pool with ready := none } }
    else if 16 ≤ (undrainedAfter s c.affected).length + 1 ∨ c.newRanges.any (meetsFreeing s) = true then .next s
    else match reserveAll c c.reserve s with
      | .ok s => .next (publishChange s c)
      | .error i =>
        match c.handle with
        | some h => .next (engineDone { dropOrder s h with pool := { (dropOrder s h).pool with ready := none } } h .overQuota 0
            (if c.whole then BitVec.ofNat 64 i else 0))
        | none => .next s
  | none =>
    match compHead s with
    | some m =>
      if isFenceMark m = true ∧ (undrainedAfter s []).length + 1 < 16 then
        .next (fencePublished (newGeneration (dropOrder s m) []) m)
      else .next s
    | none => .next s

/-- GENERATION_DRAINED (R70). -/
def execGenerationDrained (gen : BitVec 32) (s : State) : Out3 :=
  match s.pool.undrained.find? (fun g => gen32 g == gen.toNat) with
  | none => .next s
  | some g =>
    if undrainedGen s s.pool.affected g then .next s
    else
      let und := s.pool.undrained.filter (· != g)
      .next { s with pool := { s.pool with undrained := und, affected := if und.isEmpty then [] else s.pool.affected } }

/-- The results of a removal (R77). -/
def removalResult (s : State) (tag : Nat) : Word :=
  let x := statOf s tag
  BitVec.ofNat 64 (x.snoops % 2 ^ 32 + Nat.min x.dirtyWb 0xFFFFFF * 2 ^ 32 + Nat.min x.fenced.length 255 * 2 ^ 56)

/-- Sectors of a page read as zeros. -/
def clearSectors (s : State) (id : Nat) (gone : List Nat) : State :=
  gone.foldl (fun (s : State) i => { s with pool := { s.pool with
    cells := memClear s.pool.cells (id * 65536 + i * 4096) (id * 65536 + i * 4096 + 4096)
    poisonLines := s.pool.poisonLines.filter (fun k => !(k / 1024 == id && k % 1024 / 64 == i)) } }) s

/-- Set the sectors of a page from the new end `lo` on to ZERO, unless an extent of the composition covers them (R79): in memory, and in what the
home still holds of their lines. -/
def zeroSectors (s : State) (xs : List Extent) (page lo : Nat) : State :=
  match backIdOf s page with
  | none => s
  | some id =>
    match backById s id with
    | none => s
    | some b =>
      let gone := (List.range 16).filter (fun i =>
        let a := page * 65536 + i * 4096
        lo ≤ a && !xs.any (fun x => meets (rangeOf x) (a, a + 4096)))
      let secs := gone.foldl (fun m i => m &&& ~~~((1 : BitVec 16) <<< i)) b.sectors
      let s := clearSectors s id gone
      let cut (line : Nat) : Bool := line / 1024 == page && gone.contains (line / 64 % 16)
      let s : State := { s with
        atm := { s.atm with hot := s.atm.hot.map (fun (e : Nat × Hot) => if cut e.1 then (e.1, { e.2 with mode := .near, xfers := [], buf := 0, poison := false }) else e) }
        coh := { s.coh with wbBuf := s.coh.wbBuf.filter (fun (w : WbEntry) => !cut w.line) } }
      let s := ((s.coh.trans.map (·.1)).filter cut).foldl endTrans s
      trimPage (setBack s id { b with sectors := secs }) id

/-- The pages at either end of a cut that lie in it only in part keep their allocation; their sectors beyond the new end become
ZERO (R79). -/
def zeroCut (s : State) (c : Change) : State :=
  c.freeRanges.foldl (fun s r =>
    let s := if r.1 % 65536 = 0 then s else zeroSectors s c.extents (r.1 / 65536) r.1
    if r.2 % 65536 = 0 ∨ r.2 / 65536 = r.1 / 65536 then s else zeroSectors s c.extents (r.2 / 65536) r.1) s

/-- The pages that a change frees: of its freed ranges, those that no extent of its composition covers (R79). -/
def freedPages (s : State) (c : Change) : List Nat :=
  (s.pool.pages.map (·.1)).filter (fun p =>
    c.freeRanges.any (fun r => r.1 ≤ p * 65536 && p * 65536 + 65536 ≤ r.2) && (coverOf c.extents p).isNone)

/-- What a backing page is charged with: its key, in the tier of the page and in that of its copy. -/
def chargesOf (b : Back) : List (Key × Tier) :=
  if b.charge = 0 then [] else (b.charge, locTier b.loc) :: (b.copy.map (fun l => (b.charge, locTier l))).toList

/-- Start freeing pages: they leave their owner's usage when the record of the operation is written, and their Far lines leave Far mode (R79,
R148). -/
def startFree (s : State) (h : Option Nat) (pages : List Nat) : State :=
  pages.foldl (fun s p =>
    match backIdOf s p with
    | none => s
    | some id =>
      let s := match backById s id with
        | some b =>
          let due := match h with
            | some h => (chargesOf b).map (fun c => (h, c.1, c.2))
            | none => []
          let s := setBack s id { b with charge := 0 }
          { s with pool := { s.pool with freeing := s.pool.freeing.filter (fun e => (handleOf s e.1).isSome) ++ due } }
        | none => s
      let s := releasePlaces s (p * 65536) (p * 65536 + 65536)
      leaveRange { s with pool := { s.pool with toFree := s.pool.toFree ++ [p] } } (p * 65536) (p * 65536 + 65536)) s

/-- A change whose recalls are done, with those of lines granted since to affected hosts by requests still in flight then (R76). -/
def moreRecalls (s : State) (c : Change) : State := changeRecalls s { c with extents := s.pool.extents }

/-- End a change whose drain counters are zero and whose recalls are answered (R77 to R79). -/
def completeChange (s : State) (c : Change) : State :=
  let st := if (statOf s c.tag).fenced.isEmpty then Status.ok else .fenced
  let r1 := removalResult s c.tag
  let s := { s with pool := { s.pool with open_ := s.pool.open_.erase c } }
  let s := startFree (recharge (zeroCut s c) c) c.handle (freedPages s c)
  let s := dropStat s c.tag
  match c.handle with
  | none => s
  | some h =>
    if c.whole then fillRecord s h st (BitVec.ofNat 64 (gen32 c.gen)) r1
    else engineDone s h st (BitVec.ofNat 64 (gen32 c.gen)) r1

/-- COMPOSITION_COMPLETE (R76 to R78, R81). -/
def execCompositionComplete (gen : BitVec 32) (s : State) : Out3 :=
  match s.pool.open_.find? (fun c => gen32 c.gen == gen.toNat) with
  | none => .next s
  | some c =>
    let busy := s.pool.flights.any (fun f => f.gen < c.gen && c.removed.any (fun r => flightIn f (r.1, r.2.1)))
    if busy || !recallDone s c.tag then .next s
    else
      let more := moreRecalls s c
      if recallDone more c.tag then .next (completeChange s c) else .next more

/-- PAGE_FREE_SCRUB (R79, R148, R171): a page to be freed whose lines are all near leaves the map; once nothing names its
backing page, that is scrubbed to zero and its locations return to free capacity. -/
def execPageFreeScrub (back : BitVec 48) (s : State) : Out3 :=
  let id := back.toNat
  let mine := s.pool.toFree.filter (fun p => backIdOf s p == some id)
  if mine.any (fun p => !rangeNear s (p * 65536) (p * 65536 + 65536) || !placesGone s (p * 65536) (p * 65536 + 65536)) then .next s
  else
    let s := mine.foldl (fun s p => releaseBack { dropPage s p with pool := { (dropPage s p).pool with
      toFree := s.pool.toFree.filter (· != p) } } id) s
    if s.pool.scrub.contains id then
      match backById s id with
      | none => .next { s with pool := { s.pool with scrub := s.pool.scrub.filter (· != id) } }
      | some b =>
        if b.moving then .next s
        else
          let s := clearBack s id
          let s := if b.lost then s else freeLoc s b.loc
          let s := match b.copy with
            | some l => freeLoc s l
            | none => s
          .next { s with pool := { s.pool with
            backs := tblErase s.pool.backs id
            scrub := s.pool.scrub.filter (· != id) } }
    else .next s

/-! ## Quotas (R83 to R87) -/

/-- A quota operand: bytes, or no limit (R83). -/
def quotaVal (v : Nat) : Option Nat := if v = 0xFFFFFFFFFFFFFFFF then none else some v

/-- Whether a tenant's usage in a tier is above its quota. -/
def overQuota (s : State) (k : Key) (t : Tier) : Bool := !quotaRoom s k t 0

/-- Results of QUOTA_SET: pages charged in T0 and T1, and in T2 (R87). -/
def quotaR0 (s : State) (k : Key) : Word := BitVec.ofNat 64 (usage s k .t0 % 2 ^ 32 + usage s k .t1 % 2 ^ 32 * 2 ^ 32)
def quotaR1 (s : State) (k : Key) : Word := BitVec.ofNat 64 (usage s k .t2)

/-- Whether an earlier QUOTA_SET of a key is still live (R85). -/
def quotaLive (s : State) (h : Nat) (k : Key) : Bool :=
  s.rings.handles.any (fun e => e.1 != h && e.2.opcode == 0x13 && e.2.phase == .live && e.2.started && dKeyAt e.2.desc 8 == k)

/-- QUOTA_SET (R85, R86). -/
def execQuotaSet (h : Handle) (s : State) : Out3 :=
  match startable s h.toNat 0x13 with
  | none => .next s
  | some r =>
    let d := r.desc
    let k := dKeyAt d 8
    let bad := [16, 24, 32].find? (fun o => d64 d o != 0xFFFFFFFFFFFFFFFF && d64 d o % 65536 != 0)
    match bad with
    | some o => .next (badDesc s h.toNat o)
    | none =>
      if !isTenant s k then .next (commit s h.toNat .keyReject 0 0)
      else if quotaLive s h.toNat k then .next (commit s h.toNat .busy 0 0)
      else
        let tenants := s.pool.tenants.map (fun t => if t.2.valid ∧ t.2.key = k then
          (t.1, { t.2 with q0 := quotaVal (d64 d 16), q1 := quotaVal (d64 d 24), q2 := quotaVal (d64 d 32) }) else t)
        let s := markStarted { s with pool := { s.pool with tenants := tenants } } h.toNat
        if [Tier.t0, .t1, .t2].any (overQuota s k) then
          let q : QuotaOp := { handle := h.toNat, key := k, rate := if d8 d 10 = 0 then 16 else d8 d 10 }
          let s := { s with pool := { s.pool with quotaOps := s.pool.quotaOps ++ [q] } }
          .next (addOp s { kind := .quotaDemote k, handle := some h.toNat, level := 5 }).2
        else .next (engineDone s h.toNat .ok (quotaR0 s k) (quotaR1 s k))

/-- Backing pages that no pool page shows (retained versions of shelves). -/
def hiddenBacks (s : State) : List Nat :=
  (s.pool.backs.map (·.1)).filter (fun id => !s.pool.pages.any (fun e => e.2 == id) && !s.pool.scrub.contains id)

/-- The page number by which moves name such a page. -/
def hiddenPage (id : Nat) : Nat := 2 ^ 40 + id

/-- The extent of a page that moves name: for a page that stands in no slot, the extent of the shelf whose version holds it (R171). -/
def workExtent (s : State) (page : Nat) : Option Extent :=
  if page < 2 ^ 40 then pageExtent s page
  else (s.obj.shelves.find? (fun e => e.2.versions.any (fun v => v.2.any (fun p => hiddenPage p.2 == page)))).bind (fun e => extentAt s e.2.base)

/-- The page that quota demotion takes next (R86): T0 excess first, then T1; coldest first, then lowest offset, pages that stand in no slot
last (DESIGN CHOICE, log entry 104); not pinned, not Moving, and with an allowed lower tier that can take it. -/
def quotaVictim (s : State) (k : Key) : Option Nat :=
  let pagesIn (t : Tier) : List (Nat × Back × Extent) := (s.pool.pages ++ (hiddenBacks s).map (fun id => (hiddenPage id, id))).filterMap (fun e =>
    match backById s e.2, workExtent s e.1 with
    | some b, some x =>
      if b.charge = k ∧ locTier b.loc = t ∧ b.lost = false ∧ b.pin = .none ∧ b.moving = false ∧ workQueued s (.move e.1) = false ∧
          ([Tier.t1, .t2].any (fun u => tierNo t < tierNo u && tierAllowed x u && quotaRoom s k u 1 &&
            (moveLoc s u (placeOf s e.1).stackMask (placeOf s e.1).trayMask).isSome)) = true
      then some (e.1, b, x) else none
    | _, _ => none)
  let pick (t : Tier) : Option Nat :=
    match pagesIn t with
    | [] => none
    | e :: r => some (r.foldl (fun a b => if a.2.1.age < b.2.1.age then b else a) e).1
  match (if overQuota s k .t0 then pick .t0 else none) with
  | some p => some p
  | none => if overQuota s k .t1 then pick .t1 else none

/-- QUOTA_DEMOTION_END (R87). -/
def execQuotaDemotionEnd (h : Handle) (s : State) : Out3 :=
  match s.pool.quotaOps.find? (fun q => q.handle == h.toNat) with
  | none => .next s
  | some q =>
    let mine := s.tier.ops.filter (fun o => o.2.handle == some h.toNat)
    let idle := mine.all (fun o => o.2.todo.isEmpty && o.2.issued.isEmpty) &&
      !s.tier.chunks.any (fun c => mine.any (fun o => o.1 == c.op))
    let beyond := [Tier.t0, .t1, .t2].any (overQuota s q.key)
    if !idle || (beyond && (quotaVictim s q.key).isSome) then .next s
    else
      let s := { s with pool := { s.pool with quotaOps := s.pool.quotaOps.erase q } }
      let s := mine.foldl (fun s o => dropOp s o.1) s
      .next (engineDone s h.toNat (if beyond then .overQuota else .ok) (quotaR0 s q.key) (quotaR1 s q.key))

end Sys2Proof.Machine
end

