-- ==== Sys2Proof/Machine/Objects.lean ====
section
/-! DEFINITION. Shelves and drawers (07): forwarded descriptors, versions, drafts, publishing, and the handoff of drawers. -/

namespace Sys2Proof.Machine

/-! ## Identifiers and forwarding (R164, R165) -/

/-- The reference of a handle of another switch. -/
def remoteRef (sw : Nat) (h : Nat) : Nat := (1 + sw) * 2 ^ 64 + h

/-- FORWARDED_DESCRIPTOR (R165): the home switch takes in a descriptor and checks it again. An ABORT that comes under its target's own handle is a tenant
reset's (R53). -/
def execForwardedDescriptor (sw : BitVec 12) (h : Handle) (key : Key) (desc : Line) (s : State) : Out3 :=
  let ref := remoteRef sw.toNat h.toNat
  match handleOf s ref with
  | some x => .next (if dOp desc = 0x02 ∧ d64 desc 8 = h.toNat ∧ x.phase = .live ∧ ((opRow x.opcode).map (·.abort)).getD false = true ∧ x.fin.isNone = true
      then abortWins s ref else s)
  | none =>
    let r : HandleRec := { ring := h.toNat / 2 ^ 52, gen := h.toNat / 2 ^ 48 % 16, seq := h.toNat % 2 ^ 48, phase := .live, opcode := dOp desc, flags := dFlags desc, key := key, tag := dTag desc, desc := desc, remote := some sw.toNat }
    let s := setHandle s ref r
    match opRow (dOp desc) with
    | none => .next (badDesc s ref 0)
    | some row =>
      match reservedFault desc row with
      | some off => .next (badDesc s ref off)
      | none =>
        match imageOf desc with
        | some (addr, len) => .next (readHost s ref addr len)
        | none => .next s

/-- The shelf ID of a shelf of this switch. -/
def shelfId (s : State) (i : Nat) : Nat := i + switchId s * 65536

/-- The drawer ID of a drawer of this switch. -/
def drawerId (s : State) (i : Nat) (d : Drawer) : Nat := i + d.reuse * 2 ^ 24 + switchId s * 2 ^ 52

/-- Note a change of object state (R167). -/
def objChanged (s : State) : State := { s with obj := { s.obj with objSeq := s.obj.objSeq + 1 } }

/-- Whether no request checked before object state `chk` is left in a range (R167). -/
def drainedBefore (s : State) (chk lo hi : Nat) : Bool :=
  !s.pool.flights.any (fun f => f.chk < chk && flightIn f (lo, hi))

/-- Drop the port islands' cached entries of the pages of a range. -/
def dropCachedRange (s : State) (lo hi : Nat) : State :=
  { s with pool := { s.pool with xlate := s.pool.xlate.map (fun e => (e.1, e.2.filter (fun p => p * 65536 < lo || hi ≤ p * 65536))) } }

/-- Recall again what requests checked before an object's change have been granted in a range since its recall began (R169, R175, R183, R186);
`none` where nothing is left to recall. -/
def recallLeft (s : State) (lo hi : Nat) (kind : RecallKind) (tag : Nat) : Option State :=
  let want (line : Nat) (e : DirEntry) : Bool :=
    kind != .downgrade || (ownerOf e).any (fun y => (holders s line e).contains y)
  if s.coh.dir.any (fun e => lo ≤ e.1 * 64 && e.1 * 64 < hi && want e.1 e.2) then some (queueRecalls s lo hi kind tag want) else none

/-- The lowest number not below `i` that is not in use, at most `n` further. -/
def lowestFree (used : Nat → Bool) : Nat → Nat → Nat
  | 0, i => i
  | n + 1, i => if used i then lowestFree used n (i + 1) else i

/-! ## Slots and versions (R166 to R172) -/

/-- Byte range of a slot. -/
def slotLo (x : Shelf) (k : Nat) : Nat := x.base + k * x.size
def slotHi (x : Shelf) (k : Nat) : Nat := x.base + (k + 1) * x.size

/-- Whether two ranges of pool offsets meet a shelf region or a drawer. -/
def objectOverlap (s : State) (r : Nat × Nat) : Bool :=
  s.obj.shelves.any (fun e => meets (e.2.base, e.2.base + e.2.size * e.2.slotCount) r) ||
  s.obj.drawers.any (fun e => e.2.st != .free && meets (e.2.base, e.2.base + e.2.len) r)

/-- Whether a version is shown in a slot. -/
def versionShown (x : Shelf) (v : Nat) : Bool :=
  x.slots.any (fun e => (e.2.st == .view || e.2.st == .closing) && e.2.version == v)

/-- Whether a version is the base of a draft, that of slot `but` apart. -/
def versionBase (x : Shelf) (but : Option Nat) (v : Nat) : Bool :=
  x.slots.any (fun e => (e.2.st == .draft || e.2.st == .publishing) && e.2.base == v && some e.1 != but)

/-- Whether a version is pinned (R170). -/
def pinned (x : Shelf) (but : Option Nat) (v : Nat) : Bool := versionShown x v || versionBase x but v

/-- Pinned versions, the head apart. -/
def pinCount (x : Shelf) (but : Option Nat) : Nat :=
  (x.versions.filter (fun e => e.1 != x.head && pinned x but e.1)).length

/-- Whether a version may be pinned (R170). -/
def canPin (x : Shelf) (v : Nat) : Bool := v == x.head || pinned x none v || decide (pinCount x none < 64)

/-- Show a page list in a slot. -/
def mapSlot (s : State) (x : Shelf) (k : Nat) (list : Tbl Nat) : State :=
  let s := list.foldl (fun s e => setPage s (slotLo x k / 65536 + e.1) e.2) s
  dropCachedRange s (slotLo x k) (slotHi x k)

/-- Take the pages of a slot out of the map; the backing pages that were there. -/
def unmapSlot (s : State) (x : Shelf) (k : Nat) : List Nat × State :=
  let inSlot (p : Nat) : Bool := slotLo x k ≤ p * 65536 && p * 65536 < slotHi x k
  let gone := (s.pool.pages.filter (fun e => inSlot e.1)).map (·.2)
  (gone, dropCachedRange { s with pool := { s.pool with pages := s.pool.pages.filter (fun e => !inSlot e.1) } } (slotLo x k) (slotHi x k))

/-- Free the backing pages that nothing uses any more (R171). -/
def releaseBacks (s : State) (ids : List Nat) : State := ids.foldl releaseBack s

/-- Whether a range of pages has an allocated page. -/
def anyAllocated (s : State) (lo hi : Nat) : Bool := s.pool.pages.any (fun e => lo ≤ e.1 * 65536 && e.1 * 65536 < hi)

/-- SHELF_CREATE (R166, R170, R178). -/
def execShelfCreate (h : HRef) (s : State) : Out3 :=
  match startable s h.toNat 0x20 with
  | none => .next s
  | some r =>
    let d := r.desc
    let n := d32 d 12
    let base := d64 d 16
    let size := d64 d 24
    let hi := base + n * size
    let i := lowestFree (tblHas s.obj.shelves) 65536 0
    if n < 2 ∨ 256 < n then .next (badDesc s h.toNat 12)
    else if base % 65536 ≠ 0 then .next (badDesc s h.toNat 16)
    else if size % 65536 ≠ 0 ∨ size < 65536 ∨ 2 ^ 40 < size then .next (badDesc s h.toNat 24)
    else match extentById s (d32 d 8) with
      | none => .next (commit s h.toNat .notOwner 0 0)
      | some x =>
        if x.owner ≠ r.key then .next (commit s h.toNat .notOwner 0 0)
        else if base < x.base ∨ x.base + x.len < hi then .next (badDesc s h.toNat 16)
        else if objectOverlap s (base, hi) = true ∨ 65536 ≤ i ∨ anyAllocated s base hi = true then .next (commit s h.toNat .busy 0 0)
        else
          let sh : Shelf := { extent := x.id, base := base, size := size, slotCount := n, versions := [(1, [])], changes := [(1, [])] }
          .next (commit (objChanged (setShelf s i sh)) h.toNat .ok (BitVec.ofNat 64 (shelfId s i)) 1)

/-- The shelf that a descriptor names: NOT_OWNER where it is unknown (R165, R179). -/
def shelfOf (s : State) (d : Line) : Option (Nat × Shelf) :=
  (tblFind s.obj.shelves (d16 d 8)).map (fun x => (d16 d 8, x))

/-- The access of a key to the extent of a shelf. -/
def shelfAccess (s : State) (x : Shelf) (k : Key) : Option Bool := (extentById s x.extent).bind (fun e => accessOf e k)

/-- What a version operand comes to (R170, R179): a version held, BUSY above the head, STALE_EPOCH when reclaimed. -/
def versionOf (x : Shelf) (v : Nat) : Status ⊕ Nat :=
  let v := if v = 0xFFFFFFFF then x.head else v
  if x.head < v then .inl .busy else if tblHas x.versions v then .inr v else .inl .staleEpoch

/-- Fail an open with a status; STALE_EPOCH carries the head. -/
def openFail (s : State) (h : Nat) (x : Shelf) (st : Status) : Out3 :=
  .next (commit s h st (if st = .staleEpoch then BitVec.ofNat 64 x.head else 0) 0)

/-- The results of SHELF_OPEN and DRAFT_BEGIN (R178). -/
def openDone (s : State) (h : Nat) (x : Shelf) (k v : Nat) : Out3 :=
  .next (commit s h .ok (BitVec.ofNat 64 (slotLo x k)) (BitVec.ofNat 64 (v + k * 2 ^ 32)))

/-- The first FREE slot of a shelf. -/
def freeSlot (x : Shelf) : Option Nat := (List.range x.slotCount).find? (fun k => (slotOf x k).st == .free)

/-- Opens of a slot. -/
def openCount (l : Slot) : Nat := (l.opens.map (·.2)).sum

/-- Add an open by a key; `none` for a seventeenth key (R169). -/
def addOpen (l : Slot) (k : Key) : Option Slot :=
  if l.opens.any (fun o => o.1 == k) then
    some { l with opens := l.opens.map (fun o => if o.1 = k then (o.1, o.2 + 1) else o) }
  else if 16 ≤ l.opens.length then none
  else some { l with opens := l.opens ++ [(k, 1)] }

/-- SHELF_OPEN (R169, R170, R178). -/
def execShelfOpen (h : HRef) (s : State) : Out3 :=
  match startable s h.toNat 0x21 with
  | none => .next s
  | some r =>
    if d32 r.desc 12 = 0 then .next (badDesc s h.toNat 12)
    else match shelfOf s r.desc with
      | none => .next (commit s h.toNat .notOwner 0 0)
      | some (i, x) =>
        if (shelfAccess s x r.key).isNone then .next (commit s h.toNat .keyReject 0 0)
        else match versionOf x (d32 r.desc 12) with
          | .inl st => openFail s h.toNat x st
          | .inr v =>
            match x.slots.find? (fun e => e.2.st == .view && e.2.version == v) with
            | some (k, l) =>
              match addOpen l r.key with
              | none => openFail s h.toNat x .busy
              | some l => openDone (setSlot s i k l) h.toNat x k v
            | none =>
              match freeSlot x with
              | none => openFail s h.toNat x .busy
              | some k =>
                if canPin x v then
                  let l : Slot := { st := .view, version := v, opens := [(r.key, 1)] }
                  openDone (mapSlot (objChanged (setSlot s i k l)) x k (tblGet x.versions v [])) h.toNat x k v
                else openFail s h.toNat x .busy

/-- Send a slot to CLOSING with a recall of its lines (R169). -/
def closeSlot (s : State) (i k : Nat) (x : Shelf) (l : Slot) (kind : RecallKind) : State :=
  let s := objChanged s
  let (tag, s) := newTag s
  let s := setSlot s i k { l with st := .closing, tag := tag, chk := s.obj.objSeq, disc := kind == .discard }
  let s := queueRecalls s (slotLo x k) (slotHi x k) kind tag (fun _ _ => true)
  releasePlaces (leaveRange s (slotLo x k) (slotHi x k)) (slotLo x k) (slotHi x k)

/-- SHELF_CLOSE (R169, R179). -/
def execShelfClose (h : HRef) (s : State) : Out3 :=
  match startable s h.toNat 0x22 with
  | none => .next s
  | some r =>
    match shelfOf s r.desc with
    | none => .next (commit s h.toNat .notOwner 0 0)
    | some (i, x) =>
      let k := d8 r.desc 12
      if x.slotCount ≤ k then .next (badDesc s h.toNat 12)
      else
        let l := slotOf x k
        if l.st = .view ∧ l.opens.any (fun o => o.1 == r.key) = true then
          let opens := (l.opens.map (fun o => if o.1 = r.key then (o.1, o.2 - 1) else o)).filter (fun o => o.2 != 0)
          let l := { l with opens := opens }
          let s := if openCount l = 0 then closeSlot s i k x l .exclusive else setSlot s i k l
          .next (commit s h.toNat .ok (BitVec.ofNat 64 (openCount l)) 0)
        else .next (commit s h.toNat .notOwner 0 0)

/-- DRAFT_BEGIN (R169, R170, R178). -/
def execDraftBegin (h : HRef) (s : State) : Out3 :=
  match startable s h.toNat 0x23 with
  | none => .next s
  | some r =>
    if d32 r.desc 12 = 0 then .next (badDesc s h.toNat 12)
    else match shelfOf s r.desc with
      | none => .next (commit s h.toNat .notOwner 0 0)
      | some (i, x) =>
        if shelfAccess s x r.key ≠ some true then .next (commit s h.toNat .keyReject 0 0)
        else match versionOf x (d32 r.desc 12) with
          | .inl st => openFail s h.toNat x st
          | .inr v =>
            match freeSlot x with
            | none => openFail s h.toNat x .busy
            | some k =>
              if canPin x v then
                let l : Slot := { st := .draft, base := v, writer := r.key }
                openDone (mapSlot (objChanged (setSlot s i k l)) x k (tblGet x.versions v [])) h.toNat x k v
              else openFail s h.toNat x .busy

/-- The draft that a descriptor names, or why it fails (R179). -/
def draftOf (s : State) (r : HandleRec) : Except EntryErr (Nat × Shelf × Nat × Slot) :=
  match shelfOf s r.desc with
  | none => .error (.st .notOwner)
  | some (i, x) =>
    let k := d8 r.desc 12
    let l := slotOf x k
    if x.slotCount ≤ k then .error (.bad 12)
    else if l.st ≠ .draft ∧ l.st ≠ .publishing then .error (.st .busy)
    else if l.writer ≠ r.key then .error (.st .notOwner)
    else if l.st = .publishing then .error (.st .busy)
    else .ok (i, x, k, l)

/-- Complete a descriptor with the reason it fails. -/
def failWith (s : State) (h : Nat) (e : EntryErr) : Out3 :=
  match e with
  | .bad off => .next (badDesc s h off)
  | .st st => .next (commit s h st 0 0)

/-! ## Publishing (R173 to R177) -/

/-- The base that DRAFT_PUBLISH names; 0xFFFF_FFFF names the head (R170). -/
def publishBase (x : Shelf) (v : Nat) : Nat := if v = 0xFFFFFFFF then x.head else v

/-- DRAFT_PUBLISH (R170, R173, R175 step 1). -/
def execDraftPublish (h : HRef) (s : State) : Out3 :=
  match startable s h.toNat 0x24 with
  | none => .next s
  | some r =>
    if d32 r.desc 16 = 0 then .next (badDesc s h.toNat 12)
    else match draftOf s r with
    | .error e => failWith s h.toNat e
    | .ok (i, x, k, l) =>
      if publishBase x (d32 r.desc 16) ≠ l.base then .next (badDesc s h.toNat 16)
      else if x.head = 0xFFFFFFFE then .next (commit s h.toNat .busy 0 0)
      else
        let s := objChanged s
        let (tag, s) := newTag s
        let q : Publish := { handle := h.toNat, slot := k, merge := dFlag r.desc 2, tag := tag, chk := s.obj.objSeq }
        let x := { x with slots := tblPut x.slots k { l with st := .publishing }, queue := x.queue ++ [q] }
        let s := queueRecalls (setShelf s i x) (slotLo x k) (slotHi x k) .downgrade tag (fun _ e => (ownerOf e).isSome)
        .next (markStarted s h.toNat)

/-- DRAFT_DISCARD (R169, R179). -/
def execDraftDiscard (h : HRef) (s : State) : Out3 :=
  match startable s h.toNat 0x25 with
  | none => .next s
  | some r =>
    match draftOf s r with
    | .error e => failWith s h.toNat e
    | .ok (i, x, k, l) =>
      .next (markStarted (closeSlot s i k x { l with discard := some h.toNat } .discard) h.toNat)

/-- The publish of a handle, with its shelf. -/
def publishOf (s : State) (h : Nat) : Option (Nat × Shelf × Publish) :=
  s.obj.shelves.findSome? (fun e => (e.2.queue.find? (fun q => q.handle == h)).map (fun q => (e.1, e.2, q)))

/-- Whether the publish of a handle is still to be decided by its engine: no abort has won. -/
def publishLive (s : State) (h : Nat) : Bool := (handleOf s h).any (fun r => r.phase == .live)

def setPublish (s : State) (i : Nat) (x : Shelf) (q : Publish) : State :=
  setShelf s i { x with queue := x.queue.map (fun y => if y.handle = q.handle then q else y) }

/-- Write the values of Far lines of a range to memory, so that every slot that shares a page reads them (R175). -/
def syncFar (s : State) (lo hi : Nat) : State :=
  s.atm.hot.foldl (fun s e =>
    if lo ≤ e.1 * 64 ∧ e.1 * 64 < hi ∧ (e.2.mode = .far ∨ e.2.mode = .leaving) then storeLine s e.1 e.2.buf e.2.poison
    else s) s

/-- PUBLISH_RECALL_END (R175 step 2, R176). -/
def execPublishRecallEnd (h : HRef) (s : State) : Out3 :=
  match publishOf s h.toNat with
  | none => .next s
  | some (i, x, q) =>
    let lo := slotLo x q.slot
    let hi := slotHi x q.slot
    if q.stage = .recalling ∧ recallDone s q.tag = true ∧ drainedBefore s q.chk lo hi = true ∧
        s.obj.cows.any (fun c => c.shelf == i && c.slot == q.slot) = false then
      match recallLeft s lo hi .downgrade q.tag with
      | some s => .next s
      | none =>
        let fenced := !(statOf s q.tag).fenced.isEmpty
        .next (dropStat (syncFar (setPublish s i x { q with stage := .recalled, fenced := fenced }) lo hi) q.tag)
    else .next s

/-- Return a publishing slot to DRAFT and take its publish out of the queue. -/
def unpublish (s : State) (i : Nat) (x : Shelf) (q : Publish) : State :=
  objChanged (setShelf s i { x with
    queue := x.queue.filter (fun y => y.handle != q.handle)
    slots := tblUpd x.slots q.slot (fun l => { l with st := .draft }) })

/-- Change sets of versions above `b`, up to `h`. -/
def changedSince (x : Shelf) (b h : Nat) : List Nat :=
  (x.changes.filter (fun e => b < e.1 && e.1 ≤ h)).flatMap (·.2)

/-- A page list with private pages in place. -/
def withPrivs (list privs : Tbl Nat) : Tbl Nat := privs.foldl (fun t e => tblPut t e.1 e.2) list

/-- PUBLISH_DECIDE (R174, R175 steps 3 and 4). -/
def execPublishDecide (h : HRef) (s : State) : Out3 :=
  match publishOf s h.toNat with
  | none => .next s
  | some (i, x, q) =>
    if q.stage ≠ .recalled ∨ x.queue.head? ≠ some q ∨ publishLive s h.toNat = false then .next s
    else
      let l := slotOf x q.slot
      let fail (st : Status) (r0 r1 : Word) (s : State) : Out3 := .next (engineDone (unpublish s i x q) h.toNat st r0 r1)
      let touched := (changedSince x l.base x.head).eraseDups
      let met := (touched.filter (tblHas l.privs)).length
      if x.head = 0xFFFFFFFE then fail .busy 0 0 s
      else if pinned x (some q.slot) x.head = true ∧ 64 ≤ pinCount x (some q.slot) then fail .busy 0 0 s
      else if l.base = x.head then
        .next (setPublish s i x { q with stage := .deciding, newPages := withPrivs (tblGet x.versions l.base []) l.privs })
      else if q.merge = false ∨ 64 < x.head - l.base then
        fail .baseMoved (BitVec.ofNat 64 x.head) 0xFFFFFFFFFFFFFFFF (bump s (objCnt 2))
      else if met ≠ 0 then fail .baseMoved (BitVec.ofNat 64 x.head) (BitVec.ofNat 64 met) (bump s (objCnt 2))
      else
        let (tag, s) := newTag s
        let s := setPublish s i x { q with stage := .merging, merged := true, tag := tag, newPages := withPrivs (tblGet x.versions x.head []) l.privs }
        .next (touched.foldl (fun s p =>
          queueRecalls s (slotLo x q.slot + p * 65536) (slotLo x q.slot + p * 65536 + 65536) .exclusive tag (fun _ _ => true)) s)

/-- The pages in which two page lists differ. -/
def listDiff (a b : Tbl Nat) : List Nat :=
  ((a.map (·.1)) ++ (b.map (·.1))).eraseDups.filter (fun p => tblFind a p != tblFind b p)

/-- Recall again the lines of a merge's changed pages that the slot's readers have been given since (R175 step 4). -/
def mergeLeft (s : State) (x : Shelf) (q : Publish) : Option State :=
  if q.stage ≠ .merging then none
  else
    let lo := slotLo x q.slot
    ((changedSince x (slotOf x q.slot).base x.head).eraseDups).findSome? (fun p =>
      recallLeft s (lo + p * 65536) (lo + p * 65536 + 65536) .exclusive q.tag)

/-- Replace the head of a shelf by a publish: its commit point (R175). -/
def commitPublish (s : State) (h i : Nat) (x : Shelf) (q : Publish) : State :=
  let l := slotOf x q.slot
  let v := x.head + 1
  let old := tblGet x.versions x.head []
  let fenced := q.fenced || !(statOf s q.tag).fenced.isEmpty
  let x' := { x with
    head := v
    versions := tblPut x.versions v q.newPages
    changes := (tblPut x.changes v (listDiff old q.newPages)).filter (fun e => v < e.1 + 64)
    slots := tblPut x.slots q.slot ({ st := .view, version := v, opens := [(l.writer, 1)] } : Slot)
    queue := x.queue.filter (fun y => y.handle != q.handle) }
  let s := mapSlot (objChanged (setShelf s i x')) x' q.slot q.newPages
  let s := bump (dropStat s q.tag) (objCnt 0)
  let s := if q.merged then bump s (objCnt 1) else s
  commit s h (if fenced then .fenced else .ok) (BitVec.ofNat 64 (v + (if q.merged then 2 ^ 32 else 0))) (BitVec.ofNat 64 l.privs.length)

/-- PUBLISH_COMMIT (R175 steps 4 to 6). -/
def execPublishCommit (h : HRef) (s : State) : Out3 :=
  match publishOf s h.toNat with
  | none => .next s
  | some (i, x, q) =>
    let ready := q.stage == .deciding || (q.stage == .merging && recallDone s q.tag)
    if ready = false ∨ publishLive s h.toNat = false then .next s
    else match mergeLeft s x q with
      | some s => .next s
      | none => .next (commitPublish s h.toNat i x q)

/-- SLOT_FREE (R169, R170). -/
def execSlotFree (shelf : BitVec 16) (slot : BitVec 8) (s : State) : Out3 :=
  match tblFind s.obj.shelves shelf.toNat with
  | none => .next s
  | some x =>
    let k := slot.toNat
    let l := slotOf x k
    let lo := slotLo x k
    let hi := slotHi x k
    if l.st = .closing ∧ recallDone s l.tag = true ∧ drainedBefore s l.chk lo hi = true ∧ rangeNear s lo hi = true ∧
        placesGone s lo hi = true ∧ s.obj.cows.any (fun c => c.shelf == shelf.toNat && c.slot == k) = false then
      match recallLeft s lo hi (if l.disc then .discard else .exclusive) l.tag with
      | some s => .next s
      | none =>
      let s := setSlot (dropStat s l.tag) shelf.toNat k {}
      let (gone, s) := unmapSlot (objChanged s) x k
      let s := releaseBacks s (gone ++ l.privs.map (·.2)).eraseDups
      match l.discard with
      | none => .next s
      | some h => .next (engineDone s h .ok (BitVec.ofNat 64 l.privs.length) 0)
    else .next s

/-- A copy made for a BAU placement takes its source's pin with it (R284). -/
def passPin (s : State) (src dst : Nat) : State :=
  match backById s src, backById s dst with
  | some a, some b => if a.pin ≠ .none ∧ a.pin = b.pin then setBack s src { a with pin := .none } else s
  | _, _ => s

/-- COW_COPY_DONE (R172): the draft gets its own page, and the requests that waited for it go on. -/
def execCowCopyDone (page : BitVec 32) (s : State) : Out3 :=
  match s.obj.cows.find? (fun c => c.page == page.toNat) with
  | none => .next s
  | some c =>
    let s := match c.src with
      | some a => copyBack s a c.dst
      | none => s
    let s := { s with obj := { s.obj with cows := s.obj.cows.erase c } }
    let s := { s with obj := { s.obj with shelves := tblUpd s.obj.shelves c.shelf (fun x =>
      { x with slots := tblUpd x.slots c.slot (fun l => { l with privs := tblPut l.privs c.idx c.dst }) }) } }
    let s := fitPage (dropCached (setPage (bump s (objCnt 3)) c.page c.dst) c.page) c.dst
    let s := match c.src with
      | some a => passPin s a c.dst
      | none => s
    let lines := ((s.coh.waitQ.filter (fun r => reqLine r / 1024 == c.page)).map reqLine).eraseDups
    .next (lines.foldl takeUp s)

/-- VERSION_RECLAIM (R171). -/
def execVersionReclaim (shelf : BitVec 16) (version : BitVec 32) (s : State) : Out3 :=
  match tblFind s.obj.shelves shelf.toNat with
  | none => .next s
  | some x =>
    let v := version.toNat
    match tblFind x.versions v with
    | none => .next s
    | some list =>
      if v = x.head ∨ pinned x none v = true then .next s
      else .next (releaseBacks (setShelf s shelf.toNat { x with versions := tblErase x.versions v }) (list.map (·.2)))

/-! ## Drawers (R180 to R186) -/

def drawerOf (s : State) (i : Nat) : Drawer := tblGet s.obj.drawers i {}
def setDrawer (s : State) (i : Nat) (d : Drawer) : State :=
  { s with obj := { s.obj with drawers := tblPut s.obj.drawers i d } }

/-- Milliseconds to ns. -/
def msNs (ms : Nat) : Nat := ms * 1000000

/-- DRAWER_CREATE (R180, R184). -/
def execDrawerCreate (h : HRef) (s : State) : Out3 :=
  match startable s h.toNat 0x28 with
  | none => .next s
  | some r =>
    let d := r.desc
    let base := d64 d 16
    let len := d64 d 24
    if base % 65536 ≠ 0 then .next (badDesc s h.toNat 16)
    else if len % 65536 ≠ 0 ∨ len < 65536 ∨ 2 ^ 40 < len then .next (badDesc s h.toNat 24)
    else match extentById s (d32 d 8) with
      | none => .next (commit s h.toNat .notOwner 0 0)
      | some x =>
        let i := lowestFree (fun i => (drawerOf s i).st != .free) s.obj.drawers.length 0
        if accessOf x r.key ≠ some true then .next (commit s h.toNat .keyReject 0 0)
        else if base < x.base ∨ x.base + x.len < base + len then .next (badDesc s h.toNat 16)
        else if objectOverlap s (base, base + len) = true ∨ 16777216 ≤ i then .next (commit s h.toNat .busy 0 0)
        else
          let reuse := if tblHas s.obj.drawers i then ((drawerOf s i).reuse + 1) % 2 ^ 28 else 0
          let w : Drawer := { reuse := reuse, extent := x.id, base := base, len := len, owner := r.key, st := .owned, lease := if d32 d 12 = 0 then none else some (s.now + msNs (d32 d 12)) }
          .next (commit (objChanged (setDrawer s i w)) h.toNat .ok (BitVec.ofNat 64 (drawerId s i w)) 0)

/-- The drawer that a descriptor names, unless its ID is unknown or stale (R165). -/
def drawerNamed (s : State) (d : Line) : Option (Nat × Drawer) :=
  let id := d64 d 8
  match tblFind s.obj.drawers (id % 2 ^ 24) with
  | some w => if w.st ≠ .free ∧ w.reuse = bitsOf id 24 28 then some (id % 2 ^ 24, w) else none
  | none => none

/-- Results of an offer's record: an owner and an epoch (R184). -/
def offerR0 (owner : Key) (epoch : Nat) : Word := BitVec.ofNat 64 (owner.toNat + epoch * 2 ^ 32)

/-- End the ACCEPTs that wait for a drawer whose transit has ended: STALE_EPOCH (R184). -/
def staleAccepts (s : State) (i : Nat) : State :=
  let d := drawerOf s i
  d.accepts.foldl (fun s h =>
    if publishLive s h then commit (bump s (objCnt 6)) h .staleEpoch (BitVec.ofNat 64 d.epoch) 0 else s)
    (setDrawer s i { d with accepts := [] })

/-- Return a drawer in transit to its offerer (R182). -/
def drawerReturn (s : State) (i : Nat) : State :=
  let d := drawerOf s i
  staleAccepts (objChanged (setDrawer s i { d with st := .owned, offerH := none })) i

/-- An offer whose ABORT won returns its drawer before anything else reaches it (R182). -/
def settleAbort (s : State) (i : Nat) : State :=
  let d := drawerOf s i
  match d.st, d.offerH with
  | .inTransit, some h =>
    if (handleOf s h).any (fun r => r.abortWon) then
      fillRecord (drawerReturn s i) h .aborted (offerR0 d.owner d.epoch) 0
    else s
  | _, _ => s

/-- Pass a drawer to its target for an ACCEPT (R182, R183). -/
def acceptDone (s : State) (i h : Nat) : State :=
  let d := drawerOf s i
  match d.target with
  | none => s
  | some k =>
    let s := objChanged (setDrawer s i { d with st := .owned, owner := k, offerH := none, accepts := d.accepts.filter (· != h) })
    let s := bump s (objCnt 4)
    let s := commit s h .ok (BitVec.ofNat 64 d.epoch) (BitVec.ofNat 64 d.len)
    let s := match d.offerH with
      | some o => commit s o .ok (offerR0 k d.epoch) 0
      | none => s
    staleAccepts s i

/-- DRAWER_OFFER (R182 to R184). -/
def execDrawerOffer (h : HRef) (s : State) : Out3 :=
  match startable s h.toNat 0x29 with
  | none => .next s
  | some r =>
    let d := r.desc
    let k := dKeyAt d 16
    if k = r.key then .next (badDesc s h.toNat 16)
    else if 1000 < d16 d 18 then .next (badDesc s h.toNat 18)
    else match drawerNamed s d with
      | none => .next (commit s h.toNat .notOwner 0 0)
      | some (i, _) =>
        let s := settleAbort s i
        let w := drawerOf s i
        let rw := (extentById s w.extent).bind (fun x => accessOf x k) == some true
        if w.owner ≠ r.key then .next (commit s h.toNat .notOwner 0 0)
        else if w.st ≠ .owned then .next (commit s h.toNat .busy 0 0)
        else if d32 d 20 ≠ w.epoch then .next (commit s h.toNat .staleEpoch (BitVec.ofNat 64 w.epoch) 0)
        else if !isTenant s k || !rw then .next (commit s h.toNat .keyReject 0 0)
        else
          let s := objChanged s
          let (tag, s) := newTag s
          let ms := if d16 d 18 = 0 then 20 else d16 d 18
          let s := setDrawer s i { w with st := .inTransit, epoch := (w.epoch + 1) % 2 ^ 32, offerer := some r.key, target := some k, deadline := s.now + msNs ms, offerH := some h.toNat, tag := tag, chk := s.obj.objSeq, recalled := false }
          let s := queueRecalls s w.base (w.base + w.len) .downgrade tag (fun _ e => (ownerOf e).isSome)
          .next (markStarted s h.toNat)

/-- DRAWER_ACCEPT (R182 to R184). -/
def execDrawerAccept (h : HRef) (s : State) : Out3 :=
  match startable s h.toNat 0x2A with
  | none => .next s
  | some r =>
    match drawerNamed s r.desc with
    | none => .next (commit s h.toNat .notOwner 0 0)
    | some (i, _) =>
      let s := settleAbort s i
      let w := drawerOf s i
      let e := d32 r.desc 16
      if w.target ≠ some r.key then .next (commit s h.toNat .notOwner 0 0)
      else if e < w.epoch ∨ (e = w.epoch ∧ w.st ≠ .inTransit) then
        .next (commit (bump s (objCnt 6)) h.toNat .staleEpoch (BitVec.ofNat 64 w.epoch) 0)
      else if w.epoch < e then .next (commit s h.toNat .busy 0 0)
      else if w.recalled then .next (acceptDone s i h.toNat)
      else .next (markStarted (setDrawer s i { w with accepts := w.accepts ++ [h.toNat] }) h.toNat)

/-- Start the release of a drawer: a discard recall of its range (R182, R186). -/
def releaseStart (s : State) (i : Nat) (h : Option Nat) : State :=
  let s := objChanged s
  let (tag, s) := newTag s
  let w := drawerOf s i
  let s := setDrawer s i { w with st := .releasing, releaseH := h, tag := tag, chk := s.obj.objSeq, recalled := false }
  let s := leaveRange (queueRecalls s w.base (w.base + w.len) .discard tag (fun _ _ => true)) w.base (w.base + w.len)
  releasePlaces s w.base (w.base + w.len)

/-- A drawer that its owner may release or lease: the reason why not (R184 steps 2 to 4). -/
def ownedDrawer (s : State) (r : HandleRec) : Status ⊕ (Nat × State) :=
  match drawerNamed s r.desc with
  | none => .inl .notOwner
  | some (i, _) =>
    let s := settleAbort s i
    let w := drawerOf s i
    if w.owner ≠ r.key then .inl .notOwner else if w.st ≠ .owned then .inl .busy else .inr (i, s)

/-- DRAWER_RELEASE (R182, R186). -/
def execDrawerRelease (h : HRef) (s : State) : Out3 :=
  match startable s h.toNat 0x2B with
  | none => .next s
  | some r =>
    match ownedDrawer s r with
    | .inl st => .next (commit s h.toNat st 0 0)
    | .inr (i, s) => .next (markStarted (releaseStart s i (some h.toNat)) h.toNat)

/-- Code of a drawer state (R185). -/
def drawerCode : DrawerState → Nat
  | .free => 0 | .owned => 1 | .inTransit => 2 | .releasing => 3

/-- The results of DRAWER_LEASE (R185). -/
def leaseDone (s : State) (h i : Nat) : Out3 :=
  let w := drawerOf s i
  let left := match w.lease with
    | none => 0xFFFFFFFFFFFFFFFF
    | some t => (t - s.now) / 1000000
  .next (commit s h .ok (BitVec.ofNat 64 (w.owner.toNat + drawerCode w.st * 2 ^ 16 + w.epoch * 2 ^ 32)) (BitVec.ofNat 64 left))

/-- DRAWER_LEASE without QUERY (R185). -/
def execDrawerLease (h : HRef) (s : State) : Out3 :=
  match startable s h.toNat 0x2C with
  | none => .next s
  | some r =>
    if dFlag r.desc 2 then .next s
    else match ownedDrawer s r with
      | .inl st => .next (commit s h.toNat st 0 0)
      | .inr (i, s) =>
        let ms := d32 r.desc 16
        leaseDone (setDrawer s i { drawerOf s i with lease := if ms = 0 then none else some (s.now + msNs ms) }) h.toNat i

/-- DRAWER_LEASE with QUERY (R185). -/
def execDrawerLeaseQuery (h : HRef) (s : State) : Out3 :=
  match startable s h.toNat 0x2C with
  | none => .next s
  | some r =>
    if !dFlag r.desc 2 then .next s
    else match drawerNamed s r.desc with
      | none => .next (commit s h.toNat .notOwner 0 0)
      | some (i, w) =>
        if ((extentById s w.extent).bind (fun x => accessOf x r.key)).isNone then .next (commit s h.toNat .keyReject 0 0)
        else leaseDone (settleAbort s i) h.toNat i

/-- DRAWER_RECALL_END (R183). -/
def execDrawerRecallEnd (d : BitVec 24) (s : State) : Out3 :=
  let i := d.toNat
  let s := settleAbort s i
  let w := drawerOf s i
  if w.st = .inTransit ∧ w.recalled = false ∧ recallDone s w.tag = true ∧
      drainedBefore s w.chk w.base (w.base + w.len) = true then
    match recallLeft s w.base (w.base + w.len) .downgrade w.tag with
    | some s => .next s
    | none =>
    let s := dropStat (setDrawer s i { w with recalled := true }) w.tag
    match w.accepts.find? (publishLive s) with
    | some h => .next (acceptDone s i h)
    | none => .next s
  else .next s

/-- DRAWER_OFFER_DEADLINE (R182, R183). -/
def execDrawerOfferDeadline (d : BitVec 24) (s : State) : Out3 :=
  let i := d.toNat
  let s := settleAbort s i
  let w := drawerOf s i
  if w.st = .inTransit ∧ w.deadline ≤ s.now then
    let s := drawerReturn (bump s (objCnt 5)) i
    match w.offerH with
    | some h => .next (commit s h .inTransitTimeout (offerR0 w.owner w.epoch) 0)
    | none => .next s
  else .next s

/-- DRAWER_LEASE_EXPIRY (R185): after a transit has ended, for whichever key owns the drawer. -/
def execDrawerLeaseExpiry (d : BitVec 24) (s : State) : Out3 :=
  let i := d.toNat
  let s := settleAbort s i
  let w := drawerOf s i
  match w.lease with
  | none => .next s
  | some t =>
    if w.st = .owned ∧ t ≤ s.now then .next (pmEvent (bump (releaseStart s i none) (objCnt 7)) w.owner 2 (BitVec.ofNat 64 i)) else .next s

/-- DRAWER_RELEASE_DONE (R182, R186): the pages are freed, and the index may be reused. -/
def execDrawerReleaseDone (d : BitVec 24) (s : State) : Out3 :=
  let i := d.toNat
  let w := drawerOf s i
  let lo := w.base
  let hi := w.base + w.len
  if w.st = .releasing ∧ recallDone s w.tag = true ∧ drainedBefore s w.chk lo hi = true ∧ rangeNear s lo hi = true ∧
      placesGone s lo hi = true then
    match recallLeft s lo hi .discard w.tag with
    | some s => .next s
    | none =>
    let mine := s.pool.pages.filter (fun e => lo ≤ e.1 * 65536 && e.1 * 65536 < hi)
    let s := { s with pool := { s.pool with pages := s.pool.pages.filter (fun e => !(lo ≤ e.1 * 65536 && e.1 * 65536 < hi)) } }
    let s := releaseBacks (dropCachedRange s lo hi) (mine.map (·.2))
    let s := objChanged (setDrawer (dropStat s w.tag) i { reuse := w.reuse })
    match w.releaseH with
    | some h => .next (engineDone s h .ok (BitVec.ofNat 64 mine.length) 0)
    | none => .next s
  else .next s

end Sys2Proof.Machine
end

