-- ==== Sys2Proof/Machine/Moves.lean ====
section
/-! DEFINITION. Moves of pages by the Winch (08, R190 to R202; 10, R259 to R261; 11, R284): where a page goes, and the
chunks that carry it. -/

namespace Sys2Proof.Machine

/-! ## Works -/

/-- The backing page that a work's page number names. -/
def backOfWork (s : State) (page : Nat) : Option Nat := if 2 ^ 40 ≤ page then some (page - 2 ^ 40) else backIdOf s page

/-- The page that a work moves. -/
def workPage : WWork → Option Nat
  | .move p => some p
  | .bank p _ _ => some p
  | .unbank p => some p
  | _ => none

/-- Allocated pages of a byte range, by page number. -/
def pagesIn (s : State) (lo hi : Nat) : List Nat :=
  (s.pool.pages.filter (fun e => lo ≤ e.1 * 65536 && e.1 * 65536 < hi)).map (·.1)

/-- Whether an operation issues no more units: refused, or its abort has won (R52). -/
def opStopped (s : State) (o : WOp) : Bool :=
  o.refused.isSome || (o.handle.bind (handleOf s)).any (fun r => r.abortWon)

/-! ## Destinations -/

/-- What becomes of a page that an operation takes up: it stays in place, is skipped, is no longer there, or goes. -/
inductive Dest where
  | stay
  | skip
  | gone
  | go (l : Loc) (s : State)

/-- Whether a location lies within stack and tray masks. -/
def inMasks (s : State) (l : Loc) (stackMask trayMask : Nat) : Bool :=
  match l with
  | .t0 st _ _ _ => maskHas stackMask st
  | .t1 p _ _ => maskHas trayMask (trayIndex s p)
  | .t2 _ _ => true

/-- Move to a tier (R201, R213): into its backing copy, or to a new location within the owner's quota. -/
def tierMove (s : State) (b : Back) (t : Tier) (stackMask trayMask : Nat) : Dest :=
  if locTier b.loc = t ∧ inMasks s b.loc stackMask trayMask = true then .stay
  else if b.copy.map locTier = some t then
    match b.copy with
    | some l => .go l s
    | none => .skip
  else if locTier b.loc ≠ t ∧ quotaRoom s b.charge t 1 = false then .skip
  else match moveLoc s t stackMask trayMask with
    | some (l, s) => .go l s
    | none => .skip

/-- The first of some tiers that takes a page. -/
def firstTier (s : State) (b : Back) (stackMask trayMask : Nat) : List Tier → Dest
  | [] => .skip
  | t :: ts =>
    match tierMove s b t stackMask trayMask with
    | .go l s => .go l s
    | _ => firstTier s b stackMask trayMask ts

/-- A stack mask without one stack; `none` when nothing is left. -/
def maskWithout (mask st : Nat) : Option Nat :=
  let m := (if mask = 0 then 0xFFF else mask) &&& (0xFFF ^^^ 2 ^ st)
  if m = 0 then none else some m

/-- The banks that a location uses (R242, R243). -/
def locBanks : Loc → Option (Nat × List Nat)
  | .t0 st b _ true => some (st, [b])
  | .t0 st b _ false => some (st, (List.range 16).map (fun i => b + i))
  | _ => none

/-- The bank of another stack with most room for `n` bank-local pages (R260). -/
def placeTarget (s : State) (st n : Nat) : Option (Nat × Nat) :=
  let cands := ((List.range 12).filter (fun x => x != st && stackOnline s x && !underEvac s x)).flatMap (fun x =>
    ((List.range 256).filter (fun b => !bankClosed s x b && decide (n ≤ bankRoom s x b))).map (fun b => (x, b)))
  match cands with
  | [] => none
  | c :: r => some (r.foldl (fun a b => if bankRoom s a.1 a.2 < bankRoom s b.1 b.2 then b else a) c)

/-- An evacuated page's destination (R215, R260). -/
def evacDest (s : State) (page : Nat) (b : Back) (st order : Nat) : Dest :=
  let pr := placeOf s page
  match b.pin with
  | .bau i =>
    match tblFind s.bau.places i with
    | none => .skip
    | some x =>
      let target := match x.moveTo with
        | some t => some t
        | none => placeTarget s st (pagesIn s x.base (x.base + x.len)).length
      match target with
      | none => .skip
      | some t =>
        match takeBank (setPlacement s i { x with moveTo := some t }) t.1 t.2 with
        | some (l, s) => .go l s
        | none => .skip
  | .window _ =>
    match moveT0 s (0xFFF ^^^ 2 ^ st) with
    | some (l, s) => .go l s
    | none => .skip
  | .none =>
    let others := match (if order = 2 then none else maskWithout pr.stackMask st) with
      | some m => moveT0 s m
      | none => none
    match others with
    | some (l, s) => .go l s
    | none =>
      if ((workExtent s page).any (fun x => tierAllowed x .t1)) then tierMove s b .t1 pr.stackMask pr.trayMask else .skip

/-- Where an operation takes a page (R196, R201, R202, R213, R284). -/
def destOf (s : State) (o : WOp) (w : WWork) (page : Nat) (b : Back) : Dest :=
  let pr := placeOf s page
  if s.pool.toFree.contains page then .gone
  else if b.lost then .skip
  else match o.kind, w with
    | .evacuate st order banks _, _ =>
      match locBanks b.loc with
      | some (x, bs) => if x = st ∧ bs.any banks.contains = true then evacDest s page b st order else .stay
      | none => .stay
    | _, .bank _ st bk =>
      if localBank b.loc = some (st, bk) then .stay
      else if b.pin ≠ .none ∨ (locTier b.loc ≠ .t0 ∧ quotaRoom s b.charge .t0 1 = false) then .skip
      else match (if underEvac s st then none else takeBank s st bk) with
        | some (l, s) => .go l s
        | none => .skip
    | _, .unbank _ =>
      match localBank b.loc with
      | none => .gone
      | some (st, _) =>
        if b.pin ≠ .none then .gone
        else match (if underEvac s st then none else takeFrame s st) with
          | some (l, s) => .go l s
          | none =>
            match moveT0 s 0 with
            | some (l, s) => .go l s
            | none => .skip
    | k, _ =>
      if b.pin ≠ .none then .skip
      else match k with
        | .place _ t _ _ => tierMove s b t pr.stackMask pr.trayMask
        | .migrate t sm tm _ => tierMove s b t sm tm
        | .promote =>
          if pr.policy = .preferT0 ∧ locTier b.loc ≠ .t0 then tierMove s b .t0 pr.stackMask pr.trayMask else .gone
        | .coldDemote =>
          match workExtent s page with
          | some x =>
            if pr.policy = .coldDemote ∧ pr.age ≤ b.age then
              match lowerTier x (locTier b.loc) with
              | some t => tierMove s b t pr.stackMask pr.trayMask
              | none => .gone
            else .gone
          | none => .gone
        | .quotaDemote _ =>
          match workExtent s page with
          | some x => firstTier s b pr.stackMask pr.trayMask ([Tier.t1, .t2].filter (fun u => tierNo (locTier b.loc) < tierNo u && tierAllowed x u))
          | none => .skip
        | _ => .gone

/-! ## Chunks (R200 to R202) -/

/-- Whether the units that copy an operation's pages are checked with its key at the home (R71): not those of evacuations, of background work, nor
of work below the map that BAU_PLACE does within its own range. -/
def movesChecked (o : WOp) : Bool :=
  match o.kind with
  | .place .. => true
  | .migrate .. => true
  | _ => false

/-- Count a page as skipped (counter 8). -/
def skipPage (s : State) (o : WOp) : State × WOp := (bump s (winchCnt 8), { o with skipped := o.skipped + 1 })

/-- Pin a page of a placement that is in place. -/
def pinPlaced (s : State) (o : WOp) (id : Nat) (b : Back) : State :=
  match o.kind with
  | .bauPlace i => setBack s id { b with pin := .bau i }
  | _ => s

/-- Take up one page of a chunk: its destination is allocated and it becomes Moving (R200 step 1). -/
def chunkStep (acc : State × WOp × List MPage) (w : WWork) : State × WOp × List MPage :=
  let (s, o, ps) := acc
  match workPage w with
  | none => acc
  | some page =>
    match backOfWork s page with
    | none => acc
    | some id =>
      match backById s id with
      | none => acc
      | some b =>
        if b.moving then (s, { o with todo := o.todo ++ [w] }, ps)
        else match destOf s o w page b with
          | .stay => (pinPlaced s o id b, o, ps)
          | .gone => (s, o, ps)
          | .skip =>
            let (s, o) := skipPage s o
            (s, o, ps)
          | .go l s => (setBack s id { b with moving := true }, o, ps ++ [⟨page, id, b.loc, l⟩])

/-- Whether a move may be taken up now: its page is not Moving, and no sequence runs on a placement it belongs to (R202,
R260). -/
def movable (s : State) (w : WWork) : Bool :=
  match (workPage w).bind (backOfWork s) with
  | none => true
  | some id =>
    match backById s id with
    | none => true
    | some b =>
      !b.moving && (match b.pin with
        | .bau i => (tblFind s.bau.places i).all (fun x => !placeBusy s x)
        | _ => true)

/-- Start the move of an operation's pages that lie in one 2 MiB range, as a chunk whose pages are then copied unit by unit (R199, R200 step 1). -/
def issueChunk (s : State) (id : Nat) (o : WOp) (range : Nat) : State :=
  let mine := o.todo.filter (fun w => (workPage w).any (fun p => p / 32 == range) && movable s w)
  let rest := o.todo.filter (fun w => !((workPage w).any (fun p => p / 32 == range) && movable s w))
  let (s, o, ps) := mine.foldl chunkStep (s, { o with todo := rest }, [])
  let s := setOp s id o
  if ps.isEmpty then s
  else { s with tier := { s.tier with chunks := s.tier.chunks ++ [{ op := id, range := range, pages := ps, left := ps.map (·.page) }] } }

/-- Whether a move into T0 keeps its source as the backing copy (R201). -/
def keepsOld (s : State) (o : WOp) (m : MPage) : Bool :=
  decide (locTier m.new = .t0) && decide (locTier m.old ≠ .t0) &&
  ((placeOf s m.page).backing == some (locTier m.old) || (match o.kind with
    | .migrate _ _ _ keep => keep
    | _ => false))

/-- Switch a page to its new location (R200 step 4, R201). What goes into T1 is encoded: the dirty sectors of a page that goes into its backing
copy, else every block. -/
def switchPage (s : State) (o : WOp) (m : MPage) : State :=
  match backById s m.id with
  | none => s
  | some b =>
    let inT0 := decide (locTier m.new = .t0) && decide (locTier m.old = .t0)
    let keep := keepsOld s o m
    let copy := if inT0 then b.copy else if keep then some m.old else none
    let units := if inT0 then b.copyUnits else if keep && decide (locTier m.old = .t1) then pageUnits s m.id else []
    let s := match b.copy with
      | some l => if inT0 || l == m.new then s else freeLoc s l
      | none => s
    let pin := match o.kind with
      | .bauPlace i => Pin.bau i
      | _ => b.pin
    let s := setBack s m.id { b with loc := m.new, copy := copy, copyUnits := units, dirty := if inT0 then b.dirty else 0, dirtySince := if inT0 then b.dirtySince else [], pin := pin }
    let s := if b.copy = some m.new then
        trimPage (if locTier m.new = .t1 then noteEncoded s (((List.range 16).filter (fun i => b.dirty.getLsbD i)).map (fun k => (t1Block s m.id k).1)) else s) m.id
      else fitPage s m.id
    let pages := (s.pool.pages.filter (fun e => e.2 == m.id)).map (·.1)
    let s := pages.foldl dropCached s
    match o.kind with
    | .promote => bump s (winchCnt 1)
    | .coldDemote => bump s (winchCnt 2)
    | .quotaDemote k =>
      let s := { s with pool := { s.pool with quotaOps := s.pool.quotaOps.map (fun q =>
        if q.key = k then { q with demoted := q.demoted + 65536 } else q) } }
      let s := match o.handle with
        | some h => addProgress s h 65536
        | none => s
      bump s (winchCnt 3)
    | .evacuate st _ _ _ => bump (bump s (winchCnt 10)) (stackCnt st 11)
    | _ => s

/-- A placement all of whose pages have left its stack has moved (R260). -/
def placeMoved (s : State) : State :=
  { s with bau := { s.bau with places := s.bau.places.map (fun e =>
    match e.2.moveTo with
    | some (st, bk) =>
      if (pagesIn s e.2.base (e.2.base + e.2.len)).all (fun p => (backAt s p).all (fun b => localBank b.loc == some (st, bk))) then
        (e.1, { e.2 with stack := st, bank := bk, moveTo := none })
      else e
    | none => e) } }

/-- Give up a chunk that was not switched: new locations are freed (R52, R203). -/
def undoChunk (s : State) (c : Chunk) : State :=
  let s := { s with tier := { s.tier with chunks := s.tier.chunks.erase c } }
  c.pages.foldl (fun s m =>
    match backById s m.id with
    | none => freeLoc s m.new
    | some b =>
      let s := setBack s m.id { b with moving := false }
      if b.copy = some m.new then s else freeLoc s m.new) s

/-- Give up the chunks of a Winch operation that are not switched (R52, R203). -/
def undoChunks (s : State) (id : Nat) : State :=
  (s.tier.chunks.filter (fun c => c.op == id && c.stage != .switched)).foldl undoChunk s

/-- Give up the chunks of a stopped operation that have pages which no unit will copy, and the chunk of a refused page. -/
def undoRefused (s : State) (id : Nat) (w : WWork) : State :=
  (s.tier.chunks.filter (fun c => c.op == id && c.stage != .switched &&
    (!c.left.isEmpty || (workPage w).any (fun p => c.pages.any (fun m => m.page == p))))).foldl undoChunk s

/-- Finish a switched chunk: old locations that are no backing copy are freed, Moving is cleared (R200 step 5). -/
def endChunk (s : State) (c : Chunk) : State :=
  let s := { s with tier := { s.tier with chunks := s.tier.chunks.erase c } }
  c.pages.foldl (fun s m =>
    match backById s m.id with
    | none => freeLoc s m.old
    | some b =>
      let s := setBack s m.id { b with moving := false }
      if b.copy = some m.old then s else freeLoc s m.old) s

end Sys2Proof.Machine
end

