-- ==== Sys2Proof/Machine/WinchWork.lean ====
section
/-! DEFINITION. What a Winch unit reads, computes and writes (08, R199, R206 to R214; 09, R232 to R237). -/

namespace Sys2Proof.Machine

/-! ## Reading and shaping data -/

/-- Whether a fabric address lies on this device. -/
def isLocal (s : State) (a : Nat) : Bool := a / 2 ^ 48 == switchId s

/-- Data that arrived for the remote or host part of a unit. -/
structure Supply where
  bytes : List Byte := []
  poison : Bool := false

/-- The bytes of lines. -/
def linesBytes (ls : List (Line × Bool)) : List Byte := ls.flatMap (fun l => lineBytes l.1)

/-- Lines from bytes, padded with zeros; `bad i` tells whether line `i` is poisoned. -/
def toLines (b : List Byte) (bad : Nat → Bool) : List (Line × Bool) :=
  (List.range ((b.length + 63) / 64)).map (fun i => (bytesLine ((b.drop (64 * i)).take 64), bad i))

/-- The lines of `len` bytes at a fabric address: from this pool, or the next of the data that arrived. -/
def fetchLines (s : State) (tag a len : Nat) (sup : Supply) : List (Line × Bool) × Supply :=
  let off := a % 2 ^ 48
  if isLocal s a then
    if off % 64 = 0 then (engineLines s tag (off / 64) ((len + 63) / 64), sup)
    else
      let (b, p) := engineBytes s tag off len
      (toLines b (fun _ => p), sup)
  else (toLines (sup.bytes.take len) (fun _ => sup.poison), { sup with bytes := sup.bytes.drop len })

/-- Zero lines. -/
def zeroLines (n : Nat) : List (Line × Bool) := List.replicate n (0, false)

/-- What a unit comes to: state and operation after it, pool ranges read, the fabric address and lines written, and the bytes
it counts. -/
structure Comp where
  s : State
  o : WOp
  reads : List (Nat × Nat) := []
  write : Option (Nat × List (Line × Bool)) := none
  count : Nat := 0

/-- A read range as a pool range, where it is local. -/
def localRange (s : State) (a len : Nat) : List (Nat × Nat) := if isLocal s a then [(a % 2 ^ 48, len)] else []

def anyBad (ls : List (Line × Bool)) : Bool := ls.any (·.2)

/-- Note the first mismatch of an operation. -/
def noteMismatch (o : WOp) (r0 r1 : Nat) : WOp := { o with mismatch := some (o.mismatch.getD (r0, r1)), sizeBad := true }
def notePoison (o : WOp) (r0 r1 : Nat) : WOp := { o with mismatch := some (o.mismatch.getD (r0, r1)), poisoned := true }

/-! ## Decoding parts of an object -/

/-- The result of decoding blocks: lines, the indices of the blocks that failed, blocks decoded and blocks missing. -/
structure Decoded where
  lines : List (Line × Bool)
  failed : List Nat
  decoded : Nat
  missing : Nat

/-- Lines of block `b` of an object of `size` raw bytes, all poisoned. -/
def deadBlock (size b : Nat) : List (Line × Bool) := List.replicate ((Nat.min 4096 (size - 4096 * b) + 63) / 64) (0, true)

/-- Decode blocks `i` to `i + n` of an object: a block that fails is delivered poisoned (R237); one whose stored lines are poisoned, or all of
them where the directory is (`head`), is delivered poisoned and does not count as failed (R208); blocks listed in `known` are not decoded
again; `whole` says that the object itself breaks R223; `size` is the raw length declared for it. -/
def decodeBlocks (fmt : Nat) (find : Nat → Nat → Option CodeTab) (hs : List BHdr) (payload : Nat → Nat → List Byte × Bool)
    (head : Bool) (known : List Nat) (whole : Bool) (size i n : Nat) : Decoded :=
  (List.range n).foldl (fun (d : Decoded) k =>
    let b := i + k
    let h := hs.getD b {}
    let bad (miss : Nat) : Decoded :=
      { d with lines := d.lines ++ deadBlock size b, failed := d.failed ++ [b], missing := d.missing + miss }
    let p := payload b (256 * h.units)
    if head || p.2 then { d with lines := d.lines ++ deadBlock size b }
    else if whole || known.contains b then bad 0
    else match decodeBlock fmt find h p.1 with
      | .good bytes =>
        { d with lines := d.lines ++ toLines bytes (fun j => h.poison.getLsbD j), decoded := d.decoded + 1 }
      | .mismatch => bad 0
      | .missing => bad 1) ⟨[], [], 0, 0⟩

/-- Count decoded, lasting and missing blocks (counters 0, 5 and 6), with one error record for each block that failed (R237), of the compression engine in the island of the operation's engine (R239). -/
def noteBlocks (s : State) (o : WOp) (d : Decoded) (fresh : List Nat) (obj addr : Nat) : State :=
  let s := bumpBy s (cmpCnt 0) d.decoded
  let s := bumpBy s (cmpCnt 6) d.missing
  fresh.foldl (fun s b => logEvent (bump s (cmpCnt 5)) 0x0A 4 (o.engine.getD 0 % 12) 0x0006 o.key (o.handle.getD 0) addr obj b) s

/-- The object at a fabric address: its header and directory, whether any line of them is poisoned, and a reader of its payloads. -/
def readObject (s : State) (tag a n : Nat) (sup : Supply) : List Byte × Bool × List BHdr × Supply :=
  let (ls, sup) := fetchLines s tag a (objHead n) sup
  let b := linesBytes ls
  (b, ls.any (·.2), objBlocks b n, sup)

/-- Payload of a block and whether any line of it is poisoned, from the pool or from what arrived: there the payloads of the unit's blocks
follow in order. -/
def payloadOf (s : State) (tag a n : Nat) (hs : List BHdr) (first : Nat) (sup : Supply) (b len : Nat) : List Byte × Bool :=
  if isLocal s a then
    let ls := (fetchLines s tag (a + payloadAt n hs b) len {}).1
    (linesBytes ls, ls.any (·.2))
  else ((sup.bytes.drop (payloadAt n hs b - payloadAt n hs first)).take len, sup.poison)

/-- The pool ranges that reading some blocks of an object touches. -/
def objRanges (s : State) (a n : Nat) (hs : List BHdr) (i k : Nat) : List (Nat × Nat) :=
  localRange s a (objHead n) ++ localRange s (a + payloadAt n hs i) (payloadAt n hs (i + k) - payloadAt n hs i)

/-! ## Units -/

def windowOf? (s : State) (i : Nat) : Option Window := tblFind s.tier.windows i
def layerOf (s : State) (win layer : Nat) : Option (Window × Layer) :=
  (windowOf? s win).bind (fun w => (w.layers[layer]?).map (fun l => (w, l)))
def setLayer (s : State) (win layer : Nat) (l : Layer) : State :=
  { s with tier := { s.tier with windows := tblUpd s.tier.windows win (fun w => { w with layers := w.layers.set layer l }) } }

/-- Where part of a layer lies in its window (R206). -/
def layerDst (w : Window) (layer off : Nat) : Nat := w.base + layer % w.slots * (w.slotPages * 65536) + off

/-- A CX-W layer of a window takes its reference on the generation that its object's header names, where the slot holds it (R228). -/
def takeLayerRef (s : State) (k : Key) (win layer : Nat) (w : Window) (head : List Byte) : State :=
  let o := parseObj head
  if tblHas w.refs layer || (findTab s k o.slot o.gen).isNone then s
  else addRef { s with tier := { s.tier with windows := tblPut s.tier.windows win { w with refs := tblPut w.refs layer (o.slot, o.gen) } } } o.slot o.gen

/-- Load part of a window layer (R206, R208, R229, R237). A layer that met a lasting mismatch under an earlier load is loaded poisoned; the
reference of a layer from another switch is taken when its header first arrives (DESIGN CHOICE, log entry 105). -/
def compLayer (s : State) (o : WOp) (op tag win layer off len : Nat) (sup : Supply) : Comp :=
  match layerOf s win layer with
  | none => { s := s, o := o }
  | some (w, l) =>
    let raw := Nat.min len (l.raw - off)
    let dst := fabAddr s (layerDst w layer off)
    let fill (ls : List (Line × Bool)) : List (Line × Bool) := ls ++ zeroLines (len / 64 - ls.length)
    let last := decide (((opWorks o).filter (fun x => match x with
      | .layer a b _ _ => a == win && b == layer
      | _ => false)).length ≤ 1)
    let s := if last then bump s (winchCnt 7) else s
    if raw = 0 then { s := s, o := o, write := some (dst, zeroLines (len / 64)) }
    else if l.failed.any (· != op) then
      { s := s, o := notePoison o layer l.src, write := some (dst, fill (List.replicate ((raw + 63) / 64) (0, true))), count := raw }
    else if !l.cxw then
      let (ls, _) := fetchLines s tag (l.src + off) raw sup
      let b := (linesBytes ls).take raw
      let out := toLines b (fun i => (ls.getD i (0, false)).2)
      { s := s, o := if anyBad ls then notePoison o layer (l.src + off) else o,
        reads := localRange s (l.src + off) raw, write := some (dst, fill out), count := raw }
    else
      let n := (l.raw + 4095) / 4096
      let (b, head, hs, sup) := readObject s tag l.src n sup
      let s := if head then s else takeLayerRef s o.key win layer w b
      let whole := !objOk b 0 l.raw l.stored || l.src % 256 != 0
      let i := off / 4096
      let k := (raw + 4095) / 4096
      let d := decodeBlocks 0 (findTab s o.key) hs (payloadOf s tag l.src n hs i sup) head [] whole l.raw i k
      let s := noteBlocks s o d d.failed layer l.src
      let s := if d.failed.isEmpty then s else setLayer s win layer { l with failed := some op }
      let o := match d.failed with
        | [] => o
        | f :: _ => noteMismatch o layer (l.src + payloadAt n hs f)
      let o := if anyBad d.lines && d.failed.isEmpty then notePoison o layer l.src else o
      { s := s, o := o, reads := objRanges s l.src n hs i k, write := some (dst, fill (d.lines.take (len / 64))), count := raw }

/-- The build of an operation. -/
def buildOf (s : State) (op : Nat) : Option CBuild := s.cmp.builds.find? (fun b => b.op == op)
def setBuild (s : State) (b : CBuild) : State :=
  { s with cmp := { s.cmp with builds := s.cmp.builds.map (fun x => if x.op = b.op then b else x) } }

/-- Split lines into blocks of 4 KiB with their poison masks. -/
def rawBlocks : Nat → List (Line × Bool) → List (List Byte × BitVec 64)
  | 0, _ => []
  | fuel + 1, ls =>
    if ls.isEmpty then []
    else
      let part := ls.take 64
      (linesBytes part, part.zipIdx.foldl (fun m e => if e.1.2 then m ||| (1 : BitVec 64) <<< e.2 else m) 0) ::
        rawBlocks fuel (ls.drop 64)

/-- Pass 2 over part of a source (R232, R233): its blocks are encoded and their payloads written in order. -/
def compEncode (s : State) (o : WOp) (op tag src len : Nat) (sup : Supply) : Comp :=
  match buildOf s op with
  | none => { s := s, o := o }
  | some b =>
    let (ls, _) := fetchLines s tag src len sup
    let enc := (rawBlocks 17 ls).map (fun x => encodeBlock b.lengths b.slot b.gen x.1 x.2)
    let pay := enc.flatMap (·.2)
    let at_ := b.dst + objHead (b.len / 4096) + b.stored
    let b := { b with headers := b.headers ++ enc.map (fun e => bytesNat (hdrBytes e.1)), stored := b.stored + pay.length }
    { s := setBuild (noteEncoded s (enc.map (·.1))) b, o := { o with poisoned := o.poisoned || anyBad ls },
      reads := localRange s src len, write := if pay.isEmpty then none else some (at_, toLines pay (fun _ => false)), count := len }

/-- Decode part of a registered object (R234, R237). -/
def compExpand (s : State) (o : WOp) (tag obj off len dst : Nat) (sup : Supply) : Comp :=
  match tblFind s.cmp.objs obj with
  | none => { s := s, o := o }
  | some x =>
    let n := (x.raw + 4095) / 4096
    let (b, head, hs, sup) := readObject s tag x.dst n sup
    let whole := !objOk b 1 x.raw x.stored
    let i := off / 4096
    let k := (len + 4095) / 4096
    let d := decodeBlocks 1 (findTab s o.key) hs (payloadOf s tag x.dst n hs i sup) head x.failed whole x.raw i k
    let s := noteBlocks s o d (d.failed.filter (fun f => !x.failed.contains f)) obj x.dst
    let s := { s with cmp := { s.cmp with objs := tblPut s.cmp.objs obj { x with failed := (x.failed ++ d.failed).eraseDups } } }
    let o := match d.failed with
      | [] => { o with poisoned := o.poisoned || anyBad d.lines }
      | f :: _ => noteMismatch o 0 f
    { s := s, o := o, reads := objRanges s x.dst n hs i k, write := some (dst, d.lines), count := len }

/-- Re-encode a registered object whole with the generation of the recode slot that was current when its unit was queued (R236, R238). An
object that has been released since is left alone. -/
def compRecode (s : State) (o : WOp) (op tag obj : Nat) (sup : Supply) : Comp :=
  match tblFind s.cmp.objs obj, buildOf s op with
  | some x, some b =>
    match (if x.gone then none else cgenOf s b.recodeSlot b.recodeGen) with
    | none => { s := s, o := o }
    | some g =>
      let n := (x.raw + 4095) / 4096
      let (hb, head, hs, sup) := readObject s tag x.dst n sup
      let whole := !objOk hb 1 x.raw x.stored
      let d := decodeBlocks 1 (findTab s o.key) hs (payloadOf s tag x.dst n hs 0 sup) head x.failed whole x.raw 0 n
      let s := noteBlocks s o d (d.failed.filter (fun f => !x.failed.contains f)) obj x.dst
      let enc := (rawBlocks (n + 1) d.lines).map (fun y => encodeBlock g.lengths b.recodeSlot g.num y.1 y.2)
      let img := objDirectory x.raw b.recodeSlot g.num (enc.map (·.1)) ++ enc.flatMap (·.2)
      let s := addRef s b.recodeSlot g.num
      let y := { x with stored := img.length, slot := b.recodeSlot, gen := g.num, failed := (x.failed ++ d.failed).eraseDups }
      let s := { s with cmp := { s.cmp with objs := tblPut s.cmp.objs obj y } }
      let s := dropRef (bump (noteEncoded s (enc.map (·.1))) (cmpCnt 9)) x.slot x.gen
      { s := setBuild s { b with recoded := b.recoded + 1 }, o := o, reads := objRanges s x.dst n hs 0 n,
        write := some (x.dst, toLines img (fun _ => false)), count := x.raw }
  | _, _ => { s := s, o := o }

/-- The dirty sectors of a page that lie in a byte range, and under `age` have stayed dirty long enough (R211, R212). -/
def dirtyIn (s : State) (b : Back) (page lo hi : Nat) (aged : Bool) : List Nat :=
  (List.range 16).filter (fun i => b.dirty.getLsbD i && decide (lo ≤ page * 65536 + i * 4096) && decide (page * 65536 + i * 4096 < hi) &&
    (!aged || decide (tblGet b.dirtySince i s.now + msNs (fld s 0x30000 0 16) ≤ s.now)))

/-- Clear the dirty bits of sectors (R194). -/
def cleanSectors (b : Back) (secs : List Nat) : Back :=
  { b with dirty := secs.foldl (fun m i => m &&& ~~~((1 : BitVec 16) <<< i)) b.dirty, dirtySince := b.dirtySince.filter (fun e => !secs.contains e.1) }

/-- Send sectors of a page to a donor page (R193). -/
def sendDonor (s : State) (id : Nat) (secs : List Nat) : Loc → State
  | .t2 x n => secs.foldl (fun s i => askDonor s (donorAddr s x n + 4096 * i) (sectorNow s id i)) s
  | _ => s

/-- Sectors of a page go into its backing copy, where that lies at a donor switch (R193). -/
def sendCopy (s : State) (id : Nat) (b : Back) (secs : List Nat) : State :=
  match b.copy with
  | some l => sendDonor s id secs l
  | none => s

/-- Write back the dirty sectors of a page (R194, R211, R212): in CX-P on T1, raw on T2. Sectors whose copy finds no room on any tray stay dirty
(DESIGN CHOICE, log entry 102). -/
def compWriteback (s : State) (o : WOp) (page lo hi : Nat) : Comp :=
  match backIdOf s page with
  | none => { s := s, o := o }
  | some id =>
    match backById s id with
    | none => { s := s, o := o }
    | some b =>
      let secs := if b.copy.isSome then dirtyIn s b page lo hi (o.kind == .writeback) else []
      match fitCopy (setBack s id (cleanSectors b secs)) page id secs with
      | none => { s := s, o := o }
      | some s =>
        { s := bumpBy (sendCopy s id b secs) (winchCnt 4) secs.length, o := { o with count := o.count + secs.length },
          reads := secs.map (fun i => (page * 65536 + i * 4096, 4096)), count := 4096 * secs.length }

/-- Fill the backing copy of a page (R194, R197). -/
def compBackup (s : State) (o : WOp) (page : Nat) : Comp :=
  match backIdOf s page with
  | none => { s := s, o := o }
  | some id =>
    match backById s id with
    | none => { s := s, o := o }
    | some b =>
      let s := (fitCopy (setBack s id { b with dirty := 0, dirtySince := [] }) page id (List.range 16)).getD s
      { s := sendCopy s id b (List.range 16), o := o, reads := [(page * 65536, 65536)], count := 65536 }

/-- Copy a page of a chunk (R200 step 2): each line copy is a read ordered at the line's home, with poison carried; a page that leaves T1 is
decoded, one that goes into T2 is sent to the donor. -/
def compMove (s : State) (o : WOp) (op page : Nat) : Comp :=
  match (s.tier.chunks.filter (fun c => c.op == op && c.stage == .copying)).findSome? (fun c => c.pages.find? (fun m => m.page == page)) with
  | none => { s := s, o := o }
  | some m =>
    let src := (backById s m.id).map (·.loc)
    let s := if src.map locTier = some .t1 then noteDecoded s m.id (List.range 16) else s
    { s := sendDonor s m.id (List.range 16) m.new, o := { o with poisoned := o.poisoned || backPoisoned s m.id },
      reads := if page < 2 ^ 40 then [(page * 65536, 65536)] else [] }

/-- What a unit of an operation does with the data that arrived for it. -/
def compUnit (s : State) (o : WOp) (op tag : Nat) (w : WWork) (sup : Supply) : Comp :=
  match w with
  | .copy src dst len =>
    let (ls, _) := fetchLines s tag src len sup
    { s := s, o := { o with poisoned := o.poisoned || anyBad ls }, reads := localRange s src len, write := some (dst, ls), count := len }
  | .pattern dst len v =>
    { s := s, o := o, write := some (dst, toLines ((List.range (len / 8)).flatMap (fun _ => natBytes 8 v.toNat)) (fun _ => false)), count := len }
  | .host dst len _ =>
    let b := sup.bytes.take len
    { s := s, o := { o with poisoned := o.poisoned || sup.poison },
      write := some (dst, toLines (b ++ List.replicate (len - b.length) 0) (fun _ => sup.poison)), count := len }
  | .writeback page lo hi => compWriteback s o page lo hi
  | .backup page => compBackup s o page
  | .layer win layer off len => compLayer s o op tag win layer off len sup
  | .count src len =>
    match buildOf s op with
    | none => { s := s, o := o }
    | some b =>
      let (ls, _) := fetchLines s tag src len sup
      { s := setBuild s { b with counts := (rawBlocks 17 ls).foldl (fun c x => countSyms c x.1) b.counts },
        o := { o with poisoned := o.poisoned || anyBad ls }, reads := localRange s src len, count := len }
  | .encode src len _ => compEncode s o op tag src len sup
  | .directory =>
    match buildOf s op with
    | none => { s := s, o := o }
    | some b =>
      let hs := b.headers.map (fun x => parseHdr (natBytes 16 x))
      { s := s, o := o, write := some (b.dst, toLines (objDirectory b.len b.slot b.gen hs) (fun _ => false)) }
  | .expand obj off len dst => compExpand s o tag obj off len dst sup
  | .recode obj => compRecode s o op tag obj sup
  | .move page => compMove s o op page
  | .bank _ _ _ => { s := s, o := o }
  | .unbank _ => { s := s, o := o }

/-! ## Ranges known at issue -/

/-- The fabric ranges that a work reads, as far as they are known before it is done. -/
def workReads (s : State) (w : WWork) : List (Nat × Nat) :=
  match w with
  | .copy src _ len => [(src, len)]
  | .count src len => [(src, len)]
  | .encode src len _ => [(src, len)]
  | .layer win layer off len =>
    match layerOf s win layer with
    | some (_, l) => if l.raw ≤ off then [] else if l.cxw then [(l.src, l.stored)] else [(l.src + off, Nat.min len (l.raw - off))]
    | none => []
  | .expand obj _ _ _ => ((tblFind s.cmp.objs obj).map (fun x => [(x.dst, x.stored)])).getD []
  | .recode obj => ((tblFind s.cmp.objs obj).map (fun x => [(x.dst, x.stored)])).getD []
  | .writeback page lo hi => [(fabAddr s (Nat.max lo (page * 65536)), Nat.min hi (page * 65536 + 65536) - Nat.max lo (page * 65536))]
  | .backup page => [(fabAddr s (page * 65536), 65536)]
  | .move page => if page < 2 ^ 40 then [(fabAddr s (page * 65536), 65536)] else []
  | _ => []

/-- The fabric ranges that a work writes. -/
def workWrites (s : State) (op : Nat) (w : WWork) : List (Nat × Nat) :=
  match w with
  | .copy _ dst len => [(dst, len)]
  | .pattern dst len _ => [(dst, len)]
  | .host dst len _ => [(dst, len)]
  | .layer win layer off len => ((layerOf s win layer).map (fun x => [(fabAddr s (layerDst x.1 layer off), len)])).getD []
  | .encode _ _ _ => ((buildOf s op).map (fun b => [(b.dst, b.cap)])).getD []
  | .directory => ((buildOf s op).map (fun b => [(b.dst, objHead (b.len / 4096))])).getD []
  | .expand _ _ len dst => [(dst, len)]
  | .recode obj => ((tblFind s.cmp.objs obj).map (fun x => [(x.dst, x.cap)])).getD []
  | _ => []

/-- Whether a unit of this operation is checked at the home with its key (R71): background work is below the map. -/
def unitsChecked (o : WOp) (w : WWork) : Bool :=
  match o.kind with
  | .writeback => false
  | .backup => false
  | _ => (workPage w).isNone || movesChecked o

/-- The refusal of a unit at its issue, if any (R65, R71, R167). -/
def unitRefusal (s : State) (op : Nat) (o : WOp) (w : WWork) : Option Status :=
  if !unitsChecked o w then none
  else
    let one (write : Bool) (r : Nat × Nat) : Option Status :=
      if r.2 = 0 then none
      else if isLocal s r.1 then unitCheck s o.key write (r.1 % 2 ^ 48) r.2
      else if (bridleFor s (devEp s) (r.1 / 2 ^ 48) 0 5 0 none).isNone then some .fenced else none
    match (workReads s w).findSome? (one false) with
    | some st => some st
    | none => (workWrites s op w).findSome? (one true)

/-! ## Outstanding requests (R198) -/

/-- Memory requests of 256 B for some ranges. -/
def requests256 (xs : List (Nat × Nat)) : Nat := (xs.map (fun x => (x.2 + 255) / 256)).sum

/-- The memory requests that a unit has outstanding: its reads, then in their place its writes, never more than an engine has (R198). -/
def unitReqs (s : State) (op : Nat) (w : WWork) : Nat :=
  match w with
  | .layer _ _ _ len => requests256 [(0, len)]
  | .expand _ _ len _ => requests256 [(0, len)]
  | _ => Nat.min 1024 (Nat.max (requests256 (workReads s w)) (requests256 (workWrites s op w)))

/-- The memory requests that an engine has outstanding. -/
def engineReqs (s : State) (e : Nat) : Nat :=
  (s.tier.ops.map (fun o => if o.2.engine == some e then (o.2.issued.map (fun u => unitReqs s o.1 u.work)).sum else 0)).sum

end Sys2Proof.Machine
end

