-- ==== Sys2Proof/Machine/Winch.lean ====
section
/-! DEFINITION. The operations of the Winch (08): placement, windows, migration, copies, fills, write-back, evacuation, and
the issue and completion of their units. -/

namespace Sys2Proof.Machine

/-! ## The end of an operation -/

/-- Chunks of an operation that are not switched yet. -/
def chunksOpen (s : State) (id : Nat) : Bool := s.tier.chunks.any (fun c => c.op == id && c.stage != .switched)

/-- Status of an operation that ends, from what its units met. -/
def opStatus (o : WOp) : Status :=
  match o.refused with
  | some st => st
  | none => if o.sizeBad then .sizeMismatch else if o.poisoned then .poisoned else .ok

def word (n : Nat) : Word := BitVec.ofNat 64 n

/-- Close a window: its pins and references go (R205, R228). -/
def dropWindow (s : State) (i : Nat) : State :=
  match windowOf? s i with
  | none => s
  | some w =>
    let s := pinRange s w.base (w.base + w.slots * w.slotPages * 65536) (fun p => p == .window i) .none
    let s := w.refs.foldl (fun s r => dropRef s r.2.1 r.2.2) s
    let s := { s with tier := { s.tier with windows := tblErase s.tier.windows i } }
    match w.closing with
    | some h => engineDone s h .ok 0 0
    | none => s

/-- A live ADVANCE of a window ends; a window being closed goes when none is left (R205). -/
def advanceEnd (s : State) (i : Nat) : State :=
  match windowOf? s i with
  | none => s
  | some w =>
    let s := { s with tier := { s.tier with windows := tblPut s.tier.windows i { w with live := w.live - 1 } } }
    if w.live ≤ 1 ∧ w.closing.isSome = true then dropWindow s i else s

/-- The end of an evacuation (10, stack states; R215, R261). -/
def evacEnd (s : State) (st : Nat) (banks : List Nat) : State :=
  let r := stackOf s st
  if banks.length = 256 ∧ r.mode = .evacuating then
    let left := s.pool.backs.any (fun e => match e.2.loc with
      | .t0 x _ _ _ => x == st && !e.2.lost
      | _ => false)
    if left then s
    else
      let s := setStack s st { r with mode := .offline }
      let p := (st + 6) % 12
      setStack s p { stackOf s p with mirrorLost := true }
  else s

/-- Banks of a stack that are being replaced. -/
def jobsOpen (s : State) (st : Nat) (banks : List Nat) : Bool := (stackOf s st).jobs.any (fun j => banks.contains j.bank)

/-- End one of the four operations of an evacuation: the last gives the record (R215, R259). -/
def finishEvac (s : State) (id : Nat) (o : WOp) (st : Nat) (banks : List Nat) : State :=
  let twin := s.tier.ops.find? (fun e => e.1 != id && e.2.handle == o.handle && (match e.2.kind, o.kind with
    | .evacuate a _ b r, .evacuate a' _ b' r' => a == a' && b == b' && r == r'
    | _, _ => false))
  match twin with
  | some (j, t) =>
    dropOp (setOp s j { t with bytes := t.bytes + o.bytes, skipped := t.skipped + o.skipped, poisoned := t.poisoned || o.poisoned }) id
  | none =>
    if jobsOpen s st banks then s
    else
      let s := evacEnd (dropOp s id) st banks
      match o.handle with
      | some h => engineDone s h (if o.skipped = 0 then .ok else .noSpare) (word o.bytes) (word o.skipped)
      | none => s

/-- Register the object that pass 2 made (R233), and end its build. -/
def registerObject (s : State) (b : CBuild) (o : WOp) : State :=
  let i := lowestFree (tblHas s.cmp.objs) 65536 0
  let stored := objHead (b.len / 4096) + b.stored
  let s := addRef s b.slot b.gen
  let s := { s with cmp := { s.cmp with objs := tblPut s.cmp.objs i ({ owner := o.key, dst := b.dst, cap := b.cap, raw := b.len, stored := stored, slot := b.slot, gen := b.gen } : CObj) } }
  match o.handle with
  | some h => engineDone s h (opStatus o) (word (i + b.slot * 2 ^ 16 + b.gen * 2 ^ 24)) (word stored)
  | none => s

/-- Split a fabric range at page boundaries into units (R199): offset and length of each. -/
def unitsOf (a len : Nat) : List (Nat × Nat) :=
  (List.range ((a % 65536 + len + 65535) / 65536)).filterMap (fun i =>
    let lo := if i = 0 then 0 else i * 65536 - a % 65536
    let hi := Nat.min len ((i + 1) * 65536 - a % 65536)
    if lo < hi then some (lo, hi - lo) else none)

/-- The units of pass 2. -/
def encodeWorks (src len : Nat) : List WWork :=
  (unitsOf src len).map (fun u => .encode (src + u.1) u.2 (u.1 / 4096)) ++ [.directory]

def dropBuild (s : State) (op : Nat) : State := { s with cmp := { s.cmp with builds := s.cmp.builds.filter (fun b => b.op != op) } }

/-- Results of a refused compression operation: progress in source bytes. -/
def buildFail (s : State) (b : CBuild) (id : Nat) (o : WOp) : State :=
  pruneGens (engineDone (dropOp (dropBuild s id) id) b.handle (opStatus o) 0 (word o.bytes)) b.slot

/-- The next step of a CTABLE_BUILD whose units are done (R232, R233): the new generation, pass 2, the registered object. -/
def buildNext (s : State) (b : CBuild) (id : Nat) (o : WOp) : State :=
  if b.mode = 2 ∨ (b.mode = 1 ∧ b.gen ≠ 0) then
    let s := registerObject s b o
    pruneGens (dropOp (dropBuild s id) id) b.slot
  else
    let lens := builtLengths b.counts
    let s := installGen s b.slot o.key true 8 lens
    let g := (cslotOf s b.slot).cur
    if b.mode = 0 then
      let s := engineDone s b.handle (opStatus o) (word (b.slot + g * 2 ^ 8)) (word o.bytes)
      dropOp (dropBuild s id) id
    else
      setOp (setBuild s { b with gen := g, lengths := lens }) id { o with todo := encodeWorks b.src b.len, bytes := 0 }

/-- Generations that a retirement names and that still stand. -/
def retireGens (s : State) (b : CBuild) : List Nat := (cslotOf s b.slot).gens.map (·.num) |>.filter b.gens.contains

/-- Drop the named generations of a slot (R235, R236). -/
def dropGens (s : State) (slot : Nat) (gens : List Nat) : State :=
  let c := cslotOf s slot
  let left := c.gens.filter (fun g => !gens.contains g.num)
  let cur := if gens.contains c.cur then ((left.getLast?).map (·.num)).getD 0 else c.cur
  if left.isEmpty then { s with cmp := { s.cmp with slots := tblErase s.cmp.slots slot } }
  else setCslot s slot { c with gens := left, cur := cur, retiring := false, live := none }

/-- Step 4 of a retirement with RECODE: BUSY while references remain, else the generations are dropped (R236). -/
def retireEnd (s : State) (b : CBuild) (id : Nat) (o : WOp) : State :=
  let gens := retireGens s b
  let units := (gens.map (unitRefs s b.slot)).sum
  if units ≠ 0 then s
  else
    let refs := (gens.map (genRefs s b.slot)).sum
    let s := dropOp (dropBuild s id) id
    let r0 := word b.recoded
    match o.refused with
    | some st => pruneGens (engineDone s b.handle st r0 (word o.bytes)) b.slot
    | none =>
      if refs ≠ 0 then pruneGens (engineDone s b.handle .busy r0 (word refs)) b.slot
      else engineDone (dropGens s b.slot gens) b.handle .ok r0 (word gens.length)

/-- End an operation that has no unit left (R197 to R215, 09, 11). An operation whose abort has won ends at its stop point. -/
def finishOp (s : State) (id : Nat) : State :=
  match opOf s id with
  | none => s
  | some o =>
    let s := if o.refused.isSome && o.issued.isEmpty then undoRefused s id .directory else s
    if !o.todo.isEmpty || !o.issued.isEmpty || chunksOpen s id || (o.handle.bind (handleOf s)).any (·.abortWon) then s
    else
      let h := o.handle.getD 0
      let done (r0 r1 : Word) : State :=
        match o.refused with
        | some st => engineDone (dropOp s id) h st 0 (word o.bytes)
        | none => engineDone (dropOp s id) h (opStatus o) r0 r1
      match o.kind with
      | .place _ _ _ _ => done (word (o.bytes / 65536)) (word o.skipped)
      | .migrate _ _ _ _ => done (word o.bytes) (word o.skipped)
      | .evacuate st _ banks _ => finishEvac s id o st banks
      | .copy => done (word o.bytes) (word ((o.mismatch.map (·.2)).getD 0))
      | .fill => done (word o.bytes) (word ((o.mismatch.map (·.2)).getD 0))
      | .lazy _ _ =>
        if s.tier.awaiting.any (fun e => e.2.1 == id) then s
        else done (word o.bytes) (word ((o.mismatch.map (·.2)).getD 0))
      | .flush => done (word o.count) (word o.skipped)
      | .window i =>
        match o.refused with
        | some st => engineDone (dropWindow (dropOp s id) i) h st 0 (word o.bytes)
        | none => engineDone (dropOp s id) h .ok (word i) (word o.bytes)
      | .advance i =>
        let s1 := match o.mismatch with
          | some (a, b) => done (word a) (word b)
          | none => done o.r0 (word o.bytes)
        advanceEnd s1 i
      | .build _ _ =>
        match buildOf s id with
        | none => dropOp s id
        | some b => if o.refused.isSome then buildFail s b id o else buildNext s b id o
      | .expand _ =>
        match o.mismatch with
        | some (_, b) => done (word o.bytes) (word b)
        | none => done (word o.bytes) 0
      | .recode _ =>
        match buildOf s id with
        | none => dropOp s id
        | some b => retireEnd s b id o
      | .bauPlace i =>
        match tblFind s.bau.places i with
        | none => dropOp s id
        | some x =>
          if o.refused.isSome || o.skipped != 0 then
            erasePlacement (engineDone (dropOp s id) h (o.refused.getD .overQuota) 0 (word o.bytes)) i x
          else
            let s := setPlacement s i { x with made := true }
            settlePlaces (engineDone (dropOp s id) h (opStatus o) (word (i + x.stack * 2 ^ 32 + x.bank * 2 ^ 40)) (word o.bytes))
      | .quotaDemote _ => s
      | _ => dropOp s id

/-- Drop the records of released objects that no unit works on any more. -/
def pruneObjs (s : State) : State :=
  s.cmp.objs.foldl (fun s e =>
    if e.2.gone && !s.tier.ops.any (fun o => (opWorks o.2).any (fun w => isExpand e.1 w || isRecode e.1 w)) then
      pruneGens { s with cmp := { s.cmp with objs := tblErase s.cmp.objs e.1 } } e.2.slot
    else s) s

/-- End the retirements that waited for units (R236 step 3). -/
def settleRetires (s : State) : State :=
  let s := pruneObjs s
  s.cmp.builds.foldl (fun s b => if b.mode = 5 then finishOp s b.op else s) s

/-- Start an operation and end it at once if it has no unit. -/
def startOp (s : State) (o : WOp) : State :=
  let (id, s) := addOp s o
  finishOp s id

/-! ## PLACE (R197) and MIGRATE (R213) -/

/-- The parts of a placement record outside a byte range. -/
def cutPlace (r : PlaceRec) (lo hi : Nat) : List PlaceRec :=
  (if r.base < lo then [{ r with len := Nat.min (r.base + r.len) lo - r.base }] else []) ++
  (if hi < r.base + r.len then [{ r with base := Nat.max r.base hi, len := r.base + r.len - Nat.max r.base hi }] else [])

/-- Records after a PLACE of a range. -/
def putPlace (s : State) (n : PlaceRec) : List PlaceRec :=
  (n :: s.tier.places.flatMap (fun r => cutPlace r n.base (n.base + n.len))).mergeSort (fun a b => a.base ≤ b.base)

/-- The gaps that records leave in a range, each a default record. -/
def gapCount (hi : Nat) : Nat → List PlaceRec → Nat
  | at_, [] => if at_ < hi then 1 else 0
  | at_, r :: rs => (if at_ < r.base then 1 else 0) + gapCount hi (Nat.max at_ (r.base + r.len)) rs

/-- Placement records of the device: those placed and the default ones of the rest of each extent. -/
def placeCount (s : State) (ps : List PlaceRec) : Nat :=
  (s.pool.extents.map (fun x =>
    let mine := ps.filter (fun r => r.base < x.base + x.len && x.base < r.base + r.len)
    mine.length + gapCount (x.base + x.len) x.base mine)).sum

def tierOpt (n : Nat) : Option Tier := if n = 1 then some .t1 else if n = 2 then some .t2 else none

/-- The extent of a range that a key owns. -/
def ownedRange (s : State) (k : Key) (lo len : Nat) : Option Extent :=
  match extentOver s lo len with
  | some x => if x.owner = k then some x else none
  | none => none

/-- PLACE (R197). A copy in another backing tier than the one that the PLACE names is dropped at once: the spec speaks of clearing and setting
backing only (DESIGN CHOICE, log entry 86). -/
def execPlace (h : Handle) (s : State) : Out3 :=
  match startable s h.toNat 0x30 with
  | none => .next s
  | some r =>
    let d := r.desc
    let base := d64 d 8
    let len := d64 d 16
    let move := bitsOf (d8 d 25) 7 1 == 1
    let t := bitsOf (d8 d 25) 0 2
    if base % 65536 ≠ 0 then .next (badDesc s h.toNat 8)
    else if len % 65536 ≠ 0 then .next (badDesc s h.toNat 16)
    else if 2 < d8 d 24 then .next (badDesc s h.toNat 24)
    else if t = 3 then .next (badDesc s h.toNat 25)
    else if 2 < d8 d 26 then .next (badDesc s h.toNat 26)
    else if d8 d 24 = 2 ∧ d8 d 27 = 0 then .next (badDesc s h.toNat 27)
    else match ownedRange s r.key base len with
      | none => .next (commit s h.toNat .keyReject 0 0)
      | some x =>
        let backing := tierOpt (d8 d 26)
        if !tierAllowed x (tierOfNo t) then .next (badDesc s h.toNat 25)
        else if backing.any (fun b => !tierAllowed x b) then .next (badDesc s h.toNat 26)
        else
          let n : PlaceRec := { base := base, len := len, policy := if d8 d 24 = 0 then .fixed else if d8 d 24 = 1 then .preferT0 else .coldDemote, age := d8 d 27, backing := backing, stackMask := bitsOf (d16 d 28) 0 12, trayMask := d32 d 32 }
          let ps := if len = 0 then s.tier.places else putPlace s n
          if 65536 < placeCount s ps then .next (commit s h.toNat .busy 0 0)
          else
            let s := { s with tier := { s.tier with places := ps } }
            let mine := pagesIn s base (base + len)
            let s := mine.foldl (fun s p =>
              match backIdOf s p with
              | some id => if (backById s id).any (fun b => b.copy.any (fun l => some (locTier l) != backing)) then dropCopy s id else s
              | none => s) s
            let s := markStarted s h.toNat
            if move then
              .next (startOp s { kind := .place true (tierOfNo t) n.stackMask n.trayMask, handle := some h.toNat, key := r.key, todo := mine.map .move })
            else .next (engineDone s h.toNat .ok 0 0)

/-- MIGRATE (R213). -/
def execMigrate (h : Handle) (s : State) : Out3 :=
  match startable s h.toNat 0x33 with
  | none => .next s
  | some r =>
    let d := r.desc
    let base := d64 d 8
    let len := d64 d 16
    if base % 65536 ≠ 0 then .next (badDesc s h.toNat 8)
    else if len % 65536 ≠ 0 then .next (badDesc s h.toNat 16)
    else if 2 < d8 d 24 then .next (badDesc s h.toNat 24)
    else match ownedRange s r.key base len with
      | none => .next (commit s h.toNat .keyReject 0 0)
      | some x =>
        let t := tierOfNo (d8 d 24)
        if !tierAllowed x t then .next (badDesc s h.toNat 24)
        else
          .next (startOp (markStarted s h.toNat) { kind := .migrate t (bitsOf (d16 d 26) 0 12) (d32 d 28) (dFlag d 2), handle := some h.toNat, key := r.key, todo := (pagesIn s base (base + len)).map .move })

/-! ## Streaming windows (R205 to R208) -/

/-- An entry of the layer table, where it is well formed. -/
def layerEntry (b : List Byte) (i slotBytes : Nat) : Option Layer :=
  let k := 32 * i
  let f := imgNat b (k + 24) 1
  if imgNat b k 8 % 64 = 0 ∧ imgNat b k 8 < 2 ^ 60 ∧ imgNat b (k + 16) 8 ≤ slotBytes ∧ f ≤ 1 ∧ imgNat b (k + 25) 7 = 0 then
    some { src := imgNat b k 8, stored := imgNat b (k + 8) 8, raw := imgNat b (k + 16) 8, cxw := f == 1 }
  else none

/-- All entries of a layer table, or none where one is malformed. -/
def layerTable (b : List Byte) (slotBytes : Nat) : Nat → Option (List Layer)
  | 0 => some []
  | n + 1 =>
    match layerTable b slotBytes n, layerEntry b n slotBytes with
    | some ls, some l => some (ls ++ [l])
    | _, _ => none

/-- Put one page of a window into T0 and pin it (R205): a page elsewhere gets a T0 location, an unallocated one is made. -/
def windowPage (s : State) (x : Extent) (win page : Nat) : Option State :=
  match backIdOf s page with
  | none =>
    if quotaRoom s x.owner .t0 1 then
      match takeT0 s (placeOf s page).stackMask with
      | none => none
      | some (l, s) =>
        let (id, s) := newBack s l x.owner 0
        match backById s id with
        | some b => some (setPage (setBack s id { b with pin := .window win }) page id)
        | none => none
    else none
  | some id =>
    match backById s id with
    | none => none
    | some b =>
      if locTier b.loc = .t0 ∧ b.lost = false then some (setBack s id { b with pin := .window win })
      else if quotaRoom s x.owner .t0 1 then
        match takeT0 s (placeOf s page).stackMask with
        | none => none
        | some (l, s) =>
          let s := if b.lost then s else freeLoc s b.loc
          some (dropCached (setBack s id { b with loc := l, lost := false, pin := .window win, copy := none, dirty := 0, dirtySince := [] }) page)
      else none

/-- Allocate and pin every page of a window, or nothing. -/
def windowPages (x : Extent) (win : Nat) : List Nat → State → Option State
  | [], s => some s
  | p :: r, s =>
    match windowPage s x win p with
    | some s => windowPages x win r s
    | none => none

/-- The references that the CX-W layers of a window take, by layer: the generation that the header of a local object names, where its
slot holds it (R228). -/
def layerRefs (s : State) (k : Key) (ls : List Layer) : Tbl (Nat × Nat) :=
  ls.zipIdx.filterMap (fun l =>
    let o := parseObj (linesBytes [currentLine s (l.1.src % 2 ^ 48 / 64)])
    if l.1.cxw && isLocal s l.1.src && (findTab s k o.slot o.gen).isSome then some (l.2, o.slot, o.gen) else none)

/-- The units that load a layer into its slot. -/
def layerWorks (win layer slotPages : Nat) : List WWork :=
  (List.range slotPages).map (fun i => .layer win layer (i * 65536) 65536)

/-- The four engines that the device chooses for a window (R205): those with the fewest operations, lowest numbers first among equals. The spec
leaves the choice to the device (DESIGN CHOICE, log entry 106). -/
def fourEngines (s : State) : Nat :=
  let es := ((List.range 16).filter (fun e => !s.tier.deadEngines.contains e)).mergeSort (fun a b => engineOps s a ≤ engineOps s b)
  ((es.take 4).map (fun e => 2 ^ e)).sum

/-- WINCH_WINDOW (R205). A preload count above the layer count gives BAD_DESCRIPTOR at offset 36, a window in an extent that does not allow T0
BAD_DESCRIPTOR at offset 8: the spec names no status for either (DESIGN CHOICE, log entry 106). -/
def execWinchWindow (h : Handle) (s : State) : Out3 :=
  match startable s h.toNat 0x31 with
  | none => .next s
  | some r =>
    let d := r.desc
    let base := d64 d 8
    let pages := d32 d 16
    let k := d8 d 20
    let n := d32 d 32
    let len := k * pages * 65536
    if dFlag d 2 then .next s
    else if base % 65536 ≠ 0 then .next (badDesc s h.toNat 8)
    else if pages = 0 ∨ 262144 < pages then .next (badDesc s h.toNat 16)
    else if k < 2 ∨ 64 < k then .next (badDesc s h.toNat 20)
    else if d64 d 24 % 64 ≠ 0 then .next (badDesc s h.toNat 24)
    else if n = 0 ∨ 65536 < n then .next (badDesc s h.toNat 32)
    else if k < d32 d 36 ∨ n < d32 d 36 then .next (badDesc s h.toNat 36)
    else match ownedRange s r.key base len with
      | none => .next (commit s h.toNat .keyReject 0 0)
      | some x =>
        let i := lowestFree (tblHas s.tier.windows) 256 0
        if !tierAllowed x .t0 then .next (badDesc s h.toNat 8)
        else if 256 ≤ i ∨ (pagesIn s base (base + len)).any (pageFixed s) = true then .next (commit s h.toNat .busy 0 0)
        else if r.imagePoison then .next (commit s h.toNat .poisoned 0 0)
        else match r.image with
          | none => .next s
          | some img =>
            match layerTable img (pages * 65536) n with
            | none => .next (badDesc s h.toNat 24)
            | some ls =>
              match windowPages x i ((List.range (k * pages)).map (fun j => base / 65536 + j)) s with
              | none => .next (commit s h.toNat .overQuota 0 0)
              | some s =>
                let refs := layerRefs s r.key ls
                let s := refs.foldl (fun s e => addRef s e.2.1 e.2.2) s
                let mask := if d16 d 22 = 0 then fourEngines s else d16 d 22
                let w : Window := { base := base, slotPages := pages, slots := k, engMask := mask, key := r.key, layers := ls, refs := refs }
                let s := { s with tier := { s.tier with windows := tblPut s.tier.windows i w } }
                let works := (List.range (d32 d 36)).flatMap (fun l => layerWorks i l pages)
                .next (startOp (markStarted s h.toNat) { kind := .window i, handle := some h.toNat, key := r.key, level := 3, engMask := mask, todo := works })

/-- WINCH_WINDOW with CLOSE (R205). -/
def execWinchWindowClose (h : Handle) (s : State) : Out3 :=
  match startable s h.toNat 0x31 with
  | none => .next s
  | some r =>
    if !dFlag r.desc 2 then .next s
    else
      let i := d16 r.desc 40
      match windowOf? s i with
      | none => .next (commit s h.toNat .busy 0 0)
      | some w =>
        if w.closing.isSome then .next (commit s h.toNat .busy 0 0)
        else if w.key ≠ r.key then .next (commit s h.toNat .keyReject 0 0)
        else
          let s := markStarted { s with tier := { s.tier with windows := tblPut s.tier.windows i { w with closing := some h.toNat } } } h.toNat
          if w.live = 0 then .next (dropWindow s i) else .next s

/-- WINCH_ADVANCE (R206). Layer indices beyond the window's layer table give BAD_DESCRIPTOR at offset 12 or 16: the spec names no status for them
(DESIGN CHOICE, log entry 106). -/
def execWinchAdvance (h : Handle) (s : State) : Out3 :=
  match startable s h.toNat 0x32 with
  | none => .next s
  | some r =>
    let d := r.desc
    let i := d16 d 8
    let first := d32 d 12
    let n := d32 d 16
    match windowOf? s i with
    | none => .next (commit s h.toNat .busy 0 0)
    | some w =>
      if w.closing.isSome then .next (commit s h.toNat .busy 0 0)
      else if w.key ≠ r.key then .next (commit s h.toNat .keyReject 0 0)
      else if w.layers.length ≤ first then .next (badDesc s h.toNat 12)
      else if n = 0 ∨ w.slots < n ∨ w.layers.length < first + n then .next (badDesc s h.toNat 16)
      else
        let s := { s with tier := { s.tier with windows := tblPut s.tier.windows i { w with live := w.live + 1 } } }
        let works := (List.range n).flatMap (fun j => layerWorks i (first + j) w.slotPages)
        .next (startOp (markStarted s h.toNat) { kind := .advance i, handle := some h.toNat, key := r.key, level := 3, engMask := w.engMask, todo := works, r0 := word (first + n - 1) })

/-! ## FLUSH, COPY, FILL (R209, R212, R214) -/

/-- Whether a key holds RW on every byte of a range. -/
def coveredRW (s : State) (k : Key) : Nat → Nat → Nat → Bool
  | 0, lo, hi => decide (hi ≤ lo)
  | n + 1, lo, hi =>
    if hi ≤ lo then true
    else match extentAt s lo with
      | some x => accessOf x k == some true && coveredRW s k n (x.base + x.len) hi
      | none => false

/-- FLUSH (R212). -/
def execFlush (h : Handle) (s : State) : Out3 :=
  match startable s h.toNat 0x34 with
  | none => .next s
  | some r =>
    let base := d64 r.desc 8
    let hi := base + d64 r.desc 16
    if base % 4096 ≠ 0 then .next (badDesc s h.toNat 8)
    else if hi % 4096 ≠ 0 then .next (badDesc s h.toNat 16)
    else if coveredRW s r.key s.pool.extents.length base hi then
      let mine := pagesIn s (base / 65536 * 65536) hi
      let backed := mine.filter (fun p => (backAt s p).any (fun b => b.copy.isSome))
      .next (startOp (markStarted s h.toNat) { kind := .flush, handle := some h.toNat, key := r.key, todo := backed.map (fun p => .writeback p base hi), skipped := mine.length - backed.length })
    else .next (commit s h.toNat .keyReject 0 0)

/-- COPY (R214). -/
def execCopy (h : Handle) (s : State) : Out3 :=
  match startable s h.toNat 0x58 with
  | none => .next s
  | some r =>
    let d := r.desc
    let src := d64 d 8
    let dst := d64 d 16
    let len := d64 d 24
    if src % 64 ≠ 0 ∨ 2 ^ 60 ≤ src then .next (badDesc s h.toNat 8)
    else if dst % 64 ≠ 0 ∨ 2 ^ 60 ≤ dst then .next (badDesc s h.toNat 16)
    else if len % 64 ≠ 0 ∨ 2 ^ 48 < len then .next (badDesc s h.toNat 24)
    else if src / 2 ^ 48 = dst / 2 ^ 48 ∧ meets (src, src + len) (dst, dst + len) = true then .next (badDesc s h.toNat 16)
    else
      .next (startOp (markStarted s h.toNat) { kind := .copy, handle := some h.toNat, key := r.key, todo := (unitsOf dst len).map (fun u => .copy (src + u.1) (dst + u.1) u.2) })

/-- The units of a FILL. -/
def fillWorks (d : Line) : List WWork :=
  let dst := d64 d 8
  let v := d64 d 32
  (unitsOf dst (d64 d 16)).map (fun u =>
    match d8 d 24 with
    | 0 => .pattern (dst + u.1) u.2 (BitVec.ofNat 64 v)
    | 1 => .host (dst + u.1) u.2 (v + u.1)
    | _ => .copy (v + u.1) (dst + u.1) u.2)

/-- The operand byte of a FILL found wrong. A pool source is 64 B aligned as that of COPY is (DEDUCED, log entry 106). -/
def fillBad (d : Line) : Option Nat :=
  if d64 d 8 % 64 ≠ 0 ∨ 2 ^ 60 ≤ d64 d 8 then some 8
  else if d64 d 16 % 64 ≠ 0 ∨ 2 ^ 48 < d64 d 16 then some 16
  else if 2 < d8 d 24 then some 24
  else if d8 d 24 = 2 ∧ (d64 d 32 % 64 ≠ 0 ∨ 2 ^ 60 ≤ d64 d 32) then some 32
  else none

/-- FILL without LAZY (R209). -/
def execFill (h : Handle) (s : State) : Out3 :=
  match startable s h.toNat 0x59 with
  | none => .next s
  | some r =>
    if dFlag r.desc 2 then .next s
    else match fillBad r.desc with
      | some off => .next (badDesc s h.toNat off)
      | none =>
        .next (startOp (markStarted s h.toNat) { kind := .fill, handle := some h.toNat, key := r.key, todo := fillWorks r.desc })

/-- FILL with LAZY (R209). -/
def execFillLazy (h : Handle) (s : State) : Out3 :=
  match startable s h.toNat 0x59 with
  | none => .next s
  | some r =>
    let d := r.desc
    let off := d64 d 8 % 2 ^ 48
    let len := d64 d 16
    if !dFlag d 2 then .next s
    else match fillBad d with
      | some b => .next (badDesc s h.toNat b)
      | none =>
        if off % 65536 ≠ 0 ∨ isLocal s (d64 d 8) = false then .next (badDesc s h.toNat 8)
        else if len % 65536 ≠ 0 then .next (badDesc s h.toNat 16)
        else match extentOver s off len with
          | none => .next (badDesc s h.toNat 16)
          | some x =>
            let live := (s.tier.ops.filter (fun o => match o.2.kind with
              | .lazy _ _ => true
              | _ => false)).length
            if accessOf x r.key ≠ some true then .next (commit s h.toNat .keyReject 0 0)
            else if 16 ≤ live then .next (commit s h.toNat .busy 0 0)
            else
              let (id, s) := addOp (markStarted s h.toNat) { kind := .lazy (off / 65536) (len / 65536), handle := some h.toNat, key := r.key, todo := fillWorks d }
              let s := (List.range (len / 65536)).foldl (fun s i =>
                { s with tier := { s.tier with awaiting := tblPut s.tier.awaiting (off / 65536 + i) (id, false) } }) s
              .next (finishOp s id)

/-! ## Completing a unit -/

/-- Whether the lines of a pool range that an owner holds have been recalled under a tag. -/
def readReady (s : State) (tag lo len : Nat) : Bool :=
  (linesIn lo len).all (fun l => match dirAt s l with
    | some e => (ownerOf e).isNone || tblHas (statOf s tag).data l
    | none => true)

/-- Whether no other page fill stands in the way of a range (R209). -/
def notAwaiting (s : State) (own lo len : Nat) : Bool :=
  (pagePoints lo len).all (fun off => match tblFind s.tier.awaiting (off / 65536) with
    | some (op, _) => op == own
    | none => true)

/-- What the completion of a unit comes to: it waits; it is refused; its writes have gone to another switch, whose completions it awaits; or it
is done. -/
inductive UnitEnd where
  | wait (s : State)
  | refuse (s : State) (st : Status)
  | away (s : State) (o : WOp) (count : Nat)
  | done (s : State) (o : WOp) (count : Nat)

/-- Send a unit's writes to another switch (R22, R198): requests of up to 256 B in TC5 with PKEY 0xFFFF and the operation's key as their checked
key, with the mark of each poisoned line. -/
def sendWrites (s : State) (k : Key) (a : Nat) (ls : List (Line × Bool)) : State :=
  (List.range ((ls.length + 3) / 4)).foldl (fun s i =>
    let part := (ls.drop (4 * i)).take 4
    sendEngine s (a + 256 * i) "EngineWrite" ([64 * part.length, 0xFFFF, k.toNat] ++ lineFields part)) s

/-- Carry out a unit with the data that arrived for it: its reads and writes are ordered at their homes here. Where a host still
owns a line that it reads, or holds one that it writes, the recall is asked for again. -/
def runUnit (s : State) (op : Nat) (o : WOp) (u : WIssued) (sup : Supply) : UnitEnd :=
  let tag := u.tag
  let c := compUnit s o op tag u.work sup
  let local? := c.write.bind (fun x => if isLocal s x.1 then some (x.1 % 2 ^ 48, 64 * x.2.length) else none)
  let unread := c.reads.filter (fun r => !readReady s tag r.1 r.2)
  let busy := c.reads.any (fun r => !rangeQuiet s r.1 r.2 false || !notAwaiting s op r.1 r.2) ||
    local?.any (fun r => !rangeQuiet s r.1 r.2 true || !notAwaiting s op r.1 r.2)
  let waits := local?.bind (fun r => match rangeReady u.exts (pagePoints r.1 r.2) s with
    | .wait s => some s
    | _ => none)
  if !recallDone s tag then .wait s
  else if !unread.isEmpty then .wait (unread.foldl (fun s r => askRead s r.1 r.2 tag) s)
  else if busy then
    .wait (match local? with
      | some r => askWrite s r.1 r.2 tag
      | none => s)
  else if let some s := waits then .wait s
  else
    let noted := c.reads.foldl (fun s r => noteEngineRead s r.1 r.2) c.s
    match c.write with
    | none => .done noted c.o c.count
    | some (a, ls) =>
      if isLocal s a then
        match engineWrite noted u.exts (a % 2 ^ 48 / 64) ls with
        | .done s => .done s c.o c.count
        | .wait _ => .wait s
        | .quota s => .refuse s .overQuota
      else if ls.isEmpty then .done noted c.o c.count
      else .away (sendWrites noted o.key a ls) c.o c.count

/-- The data that a unit's result brings, or its refusal; `none` where the result does not fit the work. -/
def supplyOf (w : WWork) (remote : Bool) (r : UnitResult) : Option (Status ⊕ Supply) :=
  match w, r with
  | _, .remoteRefused st => if remote then some (.inl st) else none
  | .host _ _ _, .hostData b => some (.inr { bytes := b })
  | .host _ _ _, .hostPoison => some (.inr { poison := true })
  | .host _ _ _, _ => none
  | _, .remoteData b p => if remote then some (.inr { bytes := b, poison := p }) else none
  | _, .done => some (.inr {})
  | _, _ => none

/-- Set pages that await a lazy fill to ZERO in every sector (R58, R210): cached copies are discarded, and requests that wait on the pages are taken
up. -/
def zeroAwaiting (s : State) (ps : List Nat) : State :=
  ps.foldl (fun s p =>
    let s := queueRecalls { s with tier := { s.tier with awaiting := tblErase s.tier.awaiting p } } (p * 65536) (p * 65536 + 65536) .discard 0 (fun _ _ => true)
    let s := zeroSectors s [] p (p * 65536)
    (((s.coh.waitQ.filter (fun q => reqLine q / 1024 == p)).map reqLine).eraseDups).foldl takeUp s) s

/-- The pages of a lazy FILL that await their fill and of which no unit is issued. -/
def idleAwaiting (s : State) (id : Nat) (o : WOp) : List Nat :=
  (s.tier.awaiting.filter (fun e => e.2.1 == id && !o.issued.any (fun u => (workWrites s id u.work).any (fun x => x.1 % 2 ^ 48 / 65536 == e.1)))).map (·.1)

/-- Stop an operation at a refused unit: what was not issued is dropped (R71). The pages that a lazy FILL leaves become ZERO, as an ABORT leaves
them (DESIGN CHOICE, log entry 106). -/
def refuseOp (s : State) (id : Nat) (o : WOp) (st : Status) : State :=
  let o := { o with refused := some (o.refused.getD st), todo := [] }
  let s := setOp s id o
  match o.kind with
  | .lazy _ _ => zeroAwaiting s (idleAwaiting s id o)
  | _ => s

/-- The end of a unit: its recalls, flights and requests are gone. -/
def endUnit (s : State) (u : WIssued) : State := dropStat (dropFlight s (2 ^ 17) u.tag) u.tag

/-- Whether a unit codes or decodes blocks. -/
def compressionWork : WWork → Bool
  | .layer .. | .count .. | .encode .. | .directory | .expand .. | .recode _ => true
  | _ => false

/-- The retry of an engine's units has succeeded: each fault that was retried was transient (R477, R481). -/
def redone (s : State) (o : WOp) (w : WWork) : State :=
  let mine := s.tier.engRedo.filter (fun e => o.engine == some e)
  let s := mine.foldl (fun s e => logEvent s 9 1 e 3 0 0 0 0 0) { s with tier := { s.tier with engRedo := s.tier.engRedo.filter (fun e => o.engine != some e) } }
  if compressionWork w then
    s.tier.comprRedo.foldl (fun s e => logEvent s 10 1 e 3 0 0 0 0 0) { s with tier := { s.tier with comprRedo := [] } }
  else s

/-- A refused unit stops its operation; the chunk of a refused page keeps its old locations. -/
def refuseUnit (s : State) (id : Nat) (o : WOp) (rest : List WIssued) (u : WIssued) (st : Status) : State :=
  settleRetires (finishOp (undoRefused (refuseOp (endUnit (redone s o u.work) u) id { o with issued := rest } st) id u.work) id)

/-- A unit is done: its bytes count. -/
def unitDone (s : State) (id : Nat) (o : WOp) (rest : List WIssued) (u : WIssued) (n : Nat) : State :=
  let s := setOp (endUnit (redone s o u.work) u) id { o with issued := rest, bytes := o.bytes + n }
  let s := match o.handle with
    | some h => addProgress s h n
    | none => s
  settleRetires (finishOp s id)

/-- Whether an operation is a lazy FILL. -/
def isLazy (o : WOp) : Bool :=
  match o.kind with
  | .lazy _ _ => true
  | _ => false

/-- WINCH_UNIT_DONE (R22, R71, R199): the oldest unit of an operation completes, or is refused and stops it. A unit that writes to another switch
is done once its writes have completed there, at a second event. Pages of a lazy FILL end at LAZY_FILL_PAGE_DONE. -/
def execWinchUnitDone (op : BitVec 32) (r : UnitResult) (s : State) : Out3 :=
  let id := op.toNat
  match opOf s id with
  | none => .next s
  | some o =>
    match o.issued with
    | [] => .next s
    | u :: rest =>
      if isLazy o then .next s
      else
        let remote := (workReads s u.work ++ workWrites s id u.work).any (fun x => !isLocal s x.1)
        match u.bad with
        | some st => .next (refuseUnit s id o rest u st)
        | none =>
          if u.sent then
            match r with
            | .remoteRefused st => .next (refuseUnit s id o rest u st)
            | .done => .next (unitDone s id o rest u u.count)
            | _ => .next s
          else match supplyOf u.work remote r with
            | none => .next s
            | some (.inl st) => .next (refuseUnit s id o rest u st)
            | some (.inr sup) =>
              match runUnit s id o u sup with
              | .wait s => .next s
              | .refuse s st => .next (refuseUnit s id o rest u st)
              | .away s o n => .next (setOp s id { o with issued := { u with sent := true, count := n } :: rest })
              | .done s o n => .next (unitDone s id o rest u n)

/-- A page of a lazy FILL is filled: the requests that wait on it proceed (R209). -/
def pageFilled (s : State) (id p : Nat) (o : WOp) (u : WIssued) (n : Nat) : State :=
  let s := setOp (endUnit s u) id { o with issued := o.issued.filter (fun x => x.tag != u.tag), bytes := o.bytes + n }
  let s := match o.handle with
    | some h => addProgress s h n
    | none => s
  let s := { s with tier := { s.tier with awaiting := tblErase s.tier.awaiting p } }
  let lines := ((s.coh.waitQ.filter (fun q => reqLine q / 1024 == p)).map reqLine).eraseDups
  finishOp (lines.foldl takeUp s) id

/-- LAZY_FILL_PAGE_DONE (R209): the issued fill of a page ends; `r` is what a host or another switch returned for it. -/
def execLazyFillPageDone (page : BitVec 32) (r : HostRead) (s : State) : Out3 :=
  let p := page.toNat
  match tblFind s.tier.awaiting p with
  | none => .next s
  | some (id, _) =>
    match opOf s id with
    | none => .next s
    | some o =>
      match o.issued.find? (fun u => (workWrites s id u.work).any (fun x => x.1 % 2 ^ 48 / 65536 == p)) with
      | none => .next s
      | some u =>
        let rest := o.issued.filter (fun x => x.tag != u.tag)
        let sup : Supply := match r with
          | .data b => { bytes := b }
          | .poisoned => { poison := true }
          | .failed => { poison := true }
        match u.bad with
        | some st => .next (refuseUnit s id o rest u st)
        | none =>
          match runUnit s id o u sup with
          | .wait s => .next s
          | .refuse s st => .next (refuseUnit s id o rest u st)
          | .away s o n => .next (pageFilled s id p o u n)
          | .done s o n => .next (pageFilled s id p o u n)

/-! ## Issue (R198, R199) -/

/-- Whether an earlier operation has units left for a slot of a window (R206). -/
def slotTaken (s : State) (id win layer : Nat) : Bool :=
  match windowOf? s win with
  | none => false
  | some w => s.tier.ops.any (fun e => decide (e.1 < id) && (opWorks e.2).any (fun x => match x with
      | .layer a b _ _ => a == win && b % w.slots == layer % w.slots
      | _ => false))

/-- Whether an operation is an EXPAND of an object that has begun: a re-encoding waits for its end (R236). -/
def expandRuns (obj : Nat) (e : Nat × WOp) : Bool := e.2.kind == .expand obj && (e.2.bytes != 0 || !e.2.issued.isEmpty)

/-- Whether a work may be issued now. -/
def workReady (s : State) (id : Nat) (o : WOp) (w : WWork) : Bool :=
  match w with
  | .layer win layer _ _ => !slotTaken s id win layer
  | .directory => o.issued.isEmpty && o.todo.head? == some w
  | .encode _ _ _ => o.todo.head? == some w
  | .expand obj _ _ _ =>
    !s.tier.ops.any (fun e => e.2.issued.any (fun u => isRecode obj u.work) || (!expandRuns obj (id, o) && e.2.todo.any (isRecode obj)))
  | .recode obj => !s.tier.ops.any (expandRuns obj)
  | .move _ => movable s w
  | .bank _ _ _ => movable s w
  | .unbank _ => movable s w
  | _ => true

/-- The page of an operation's open chunk whose copy is issued next. -/
def chunkPage (s : State) (id : Nat) : Option Nat :=
  (s.tier.chunks.filter (fun c => c.op == id && c.stage == .copying)).findSome? (fun c => c.left.head?)

/-- The work that an operation issues next, with its level (R199, R209): the next page of its chunk; a touched page of a lazy FILL, at level 2, or
its lowest page; the page that quota demotion picks now (R86); else its next work that is ready. -/
def nextWork (s : State) (id : Nat) (o : WOp) : Option (Nat × WWork) :=
  if opStopped s o then none
  else match chunkPage s id with
    | some p => some (o.level, .move p)
    | none =>
      match o.kind with
      | .lazy _ _ =>
        let touched (w : WWork) : Bool := (workWrites s id w).any (fun x => (tblFind s.tier.awaiting (x.1 % 2 ^ 48 / 65536)).any (·.2))
        match o.todo.find? touched with
        | some w => some (2, w)
        | none => o.todo.head?.map (fun w => (o.level, w))
      | .quotaDemote k => if chunksOpen s id then none else (quotaVictim s k).map (fun p => (o.level, .move p))
      | _ => (o.todo.find? (workReady s id o)).map (fun w => (o.level, w))

/-- Extents that the writes of a unit meet at its issue (R69). -/
def issueExtents (s : State) (wr : List (Nat × Nat)) : List Extent :=
  s.pool.extents.filter (fun x => wr.any (fun r => meets (rangeOf x) (r.1, r.1 + r.2)))

/-- Give a page the location of the backing copy that its range asks for (R197). -/
def placeBackup (s : State) (p : Nat) : State :=
  match (placeOf s p).backing, backIdOf s p with
  | some t, some b =>
    match backById s b, takeLoc s t 0 (placeOf s p).trayMask with
    | some x, some (l, s) => setBack s b { x with copy := some l, copyUnits := [], dirty := x.sectors }
    | _, _ => s
  | _, _ => s

/-- Issue one unit (R71, R198): it is stamped and checked, its flights are noted, and its reads are asked for. -/
def issueUnit (s : State) (id : Nat) (o : WOp) (w : WWork) : State :=
  let (tag, s) := newTag s
  let bad := unitRefusal s id o w
  let rd := workReads s w
  let wr := workWrites s id w
  let here (xs : List (Nat × Nat)) : List (Nat × Nat) := (xs.filter (fun x => isLocal s x.1 && x.2 != 0)).map (fun x => (x.1 % 2 ^ 48, x.2))
  let u : WIssued := { work := w, gen := s.pool.gen, tag := tag, bad := bad, exts := issueExtents s (here wr) }
  let s := setOp s id { o with todo := o.todo.erase w, issued := o.issued ++ [u] }
  if bad.isSome then s
  else
    let s := { s with pool := { s.pool with flights := s.pool.flights ++ (here rd ++ here wr).map (fun x =>
      { src := 2 ^ 17, tag := tag, off := x.1, len := x.2, gen := s.pool.gen, chk := s.obj.objSeq }) } }
    let s := (here rd).foldl (fun s x => askRead s x.1 x.2 tag) s
    let s := (here wr).foldl (fun s x =>
      match w with
      | .layer _ _ _ _ => queueRecalls s x.1 (x.1 + x.2) .discard tag (fun _ _ => true)
      | .encode _ _ _ => s
      | _ => askWrite s x.1 x.2 tag) s
    let s := (rd.filter (fun x => !isLocal s x.1 && x.2 != 0)).foldl (fun s x =>
      sendEngine s x.1 "EngineRead" [x.2, 0xFFFF, o.key.toNat]) s
    match w with
    | .host _ len a => readHost s (o.handle.getD 0) a len
    | .backup p => placeBackup s p
    | _ => s

/-- Issue the copy of the next page of an operation's chunk. -/
def issuePage (s : State) (id : Nat) : State :=
  match opOf s id, chunkPage s id with
  | some o, some p =>
    issueUnit { s with tier := { s.tier with chunks := s.tier.chunks.map (fun c =>
      if c.op = id ∧ c.stage = .copying ∧ c.left.head? = some p then { c with left := c.left.drop 1 } else c) } } id o (.move p)
  | _, _ => s

/-- Issue one unit of an operation; a page that is to move starts its chunk first. -/
def issueWork (s : State) (id : Nat) (o : WOp) (w : WWork) : State :=
  match workPage w with
  | none => issueUnit s id o w
  | some p =>
    if (chunkPage s id).isSome then issuePage s id
    else
      let o := match o.kind with
        | .quotaDemote _ => { o with todo := [w] }
        | _ => o
      settleRetires (finishOp (issuePage (issueChunk s id o (p / 32)) id) id)

/-- T0 pages whose range asks for a backing copy that they lack, and that can get one (R197). -/
def backupDue (s : State) : List Nat :=
  (s.pool.pages.filter (fun e =>
    match (placeOf s e.1).backing, backById s e.2 with
    | some t, some b =>
      b.copy.isNone && decide (locTier b.loc = .t0) && !b.lost && !b.moving && quotaRoom s b.charge t 1 &&
      !workQueued s (.backup e.1) && (takeLoc s t 0 (placeOf s e.1).trayMask).isSome
    | _, _ => false)).map (·.1)

/-- Queue the backing copies that are due. -/
def seedBackups (s : State) : State :=
  (backupDue s).foldl (fun s p => (addOp s { kind := .backup, level := 5, todo := [.backup p] }).2) s

/-- The operations of an engine that can issue at a level, within the requests that it may have outstanding (R198). -/
def readyAt (s : State) (e : Nat) (want : Nat → Bool) : List (Nat × WOp × WWork) :=
  s.tier.ops.filterMap (fun o =>
    if o.2.engine == some e then
      match nextWork s o.1 o.2 with
      | some (l, w) =>
        let n := if (workPage w).isSome then 256 else unitReqs s o.1 w
        if want l && decide (engineReqs s e + n ≤ 1024) then some (o.1, o.2, w) else none
      | none => none
    else none)

/-- The next in rotation after the operation served last. -/
def nextOpAfter (xs : List (Nat × WOp × WWork)) (last : Nat) : Option (Nat × WOp × WWork) :=
  match xs.find? (fun x => last < x.1) with
  | some x => some x
  | none => xs.head?

/-- Issue for one operation of a level. -/
def issueAt (s : State) (e level : Nat) : State :=
  match nextOpAfter (readyAt s e (· == level)) (tblGet s.tier.rot (e * 8 + level) 0) with
  | none => s
  | some (id, o, w) =>
    issueWork { s with tier := { s.tier with rot := tblPut s.tier.rot (e * 8 + level) id } } id o w

/-- WINCH_UNIT_ISSUE (R199): the highest level that can use the slot, but for the share of level 5. -/
def execWinchUnitIssue (e : Fin 16) (s : State) : Out3 :=
  let s := assignEngines (seedBackups s)
  let n := e.val
  if s.tier.deadEngines.contains n || warming s then .next s
  else
    let top := [1, 2, 3, 4].find? (fun l => !(readyAt s n (· == l)).isEmpty)
    let bg := !(readyAt s n (· == 5)).isEmpty
    match top with
    | none => .next (issueAt s n 5)
    | some l =>
      if bg then
        let c := tblGet s.tier.share n 0 + fld s 0x30000 40 7
        if 100 ≤ c then .next (issueAt { s with tier := { s.tier with share := tblPut s.tier.share n (c - 100) } } n 5)
        else .next (issueAt { s with tier := { s.tier with share := tblPut s.tier.share n c } } n l)
      else .next (issueAt s n l)

/-! ## Chunks, write-back, journals -/

/-- Whether every page of a chunk has been copied. -/
def chunkDone (s : State) (c : Chunk) : Bool :=
  c.left.isEmpty && !(opOf s c.op).any (fun o => o.issued.any (fun u => c.pages.any (fun m => u.work == .move m.page)))

/-- CHUNK_COPIED (R200 steps 2 to 4). A chunk of an operation whose abort has won keeps its old locations (R52). -/
def execChunkCopied (op range : BitVec 32) (s : State) : Out3 :=
  match s.tier.chunks.find? (fun c => c.op == op.toNat && c.range == range.toNat && c.stage == .copying) with
  | none => .next s
  | some c =>
    match opOf s op.toNat with
    | none => .next (undoChunk s c)
    | some o =>
      if (o.handle.bind (handleOf s)).any (·.abortWon) || !chunkDone s c then .next s
      else
        let pages := c.pages.map (fun m => { m with old := ((backById s m.id).map (·.loc)).getD m.old })
        let s := pages.foldl (fun s m => switchPage s o m) s
        let shown := s.pool.pages.filter (fun e => c.pages.any (fun m => m.id == e.2))
        let carried := (s.pool.flights.filter (fun f => shown.any (fun e => e.1 == f.off / 65536))).map (fun f => (f.src, f.tag))
        let c' := { c with stage := .switched, pages := pages, carried := carried }
        let n := 65536 * c.pages.length
        let s := placeMoved { s with tier := { s.tier with chunks := s.tier.chunks.map (fun x => if x = c then c' else x) } }
        let s := setOp (bump s (winchCnt 0)) op.toNat { o with bytes := o.bytes + n }
        let s := match o.handle with
          | some h => addProgress s h n
          | none => s
        .next (finishOp s op.toNat)

/-- CHUNK_DRAINED (R200 step 5). -/
def execChunkDrained (op range : BitVec 32) (s : State) : Out3 :=
  match s.tier.chunks.find? (fun c => c.op == op.toNat && c.range == range.toNat && c.stage == .switched) with
  | none => .next s
  | some c =>
    if s.pool.flights.any (fun f => c.carried.contains (f.src, f.tag)) then .next s else .next (endChunk s c)

/-- WRITEBACK_AGE_EXPIRE (R211). -/
def execWritebackAgeExpire (page : BitVec 32) (s : State) : Out3 :=
  let p := page.toNat
  match backAt s p with
  | none => .next s
  | some b =>
    let w : WWork := .writeback p (p * 65536) (p * 65536 + 65536)
    if b.copy.isSome && !(dirtyIn s b p (p * 65536) (p * 65536 + 65536) true).isEmpty && !workQueued s w then
      .next (addOp s { kind := .writeback, level := 5, todo := [w] }).2
    else .next s

/-- Whether an operation journals its progress (R204). -/
def journals (o : WOp) : Bool :=
  match o.kind with
  | .copy => true
  | .fill => true
  | .lazy _ _ => true
  | .flush => true
  | _ => false

/-- JOURNAL_PROGRESS (R204): each 64 MiB and each millisecond. -/
def execJournalProgress (op : BitVec 32) (s : State) : Out3 :=
  match opOf s op.toNat with
  | none => .next s
  | some o =>
    if journals o = true ∧ (67108864 ≤ o.bytes - o.journalled ∨ msNs 1 ≤ s.now - o.journalAt) then
      .next (setOp s op.toNat { o with journalled := o.bytes, journalAt := s.now })
    else .next s

/-! ## Evacuation (R215, R258 to R261) -/

/-- The evacuation operation of a page: the engine of its lowest named bank (R259). -/
def evacShare (l : Loc) (st : Nat) (banks : List Nat) : Option Nat :=
  match locBanks l with
  | some (x, bs) => if x = st then (bs.find? banks.contains).map (· % 4) else none
  | none => none

/-- The page that stands for a backing page in a move. -/
def pageFor (s : State) (id : Nat) : Nat :=
  match s.pool.pages.find? (fun e => e.2 == id) with
  | some e => e.1
  | none => 2 ^ 40 + id

/-- A free spare bank unit of a stack (R255). -/
def freeSpare (s : State) (st : Nat) : Option Nat :=
  (List.range 16).find? (fun u =>
    let x := tblGet (stackOf s st).spares u {}
    !x.used && !x.failed && !(stackOf s st).jobs.any (fun j => j.unit == u))

/-- Start the replacement of a bank by a spare unit (R255 steps 1 and 2); none where no spare is free. -/
def startReplace (s : State) (st bank : Nat) : Option State :=
  let r := stackOf s st
  if r.jobs.any (fun j => j.bank == bank) then some s
  else match freeSpare s st with
    | none => none
    | some u => some (setBit (setStack s st { r with jobs := r.jobs ++ [{ bank := bank, unit := u }] }) (stackBase st + 0x10) 2)

/-- Replace named banks by spare units as long as any is free (destination order 0). -/
def spareBanks (st : Nat) : List Nat → State → State
  | [], s => s
  | b :: r, s =>
    match startReplace s st b with
    | some s => spareBanks st r s
    | none => s

/-- The pages that spare bank units take over from an evacuation: of its banks, they lie only in those being replaced (R215). Each is counted with
the last of them. -/
def pagesOver (s : State) (st : Nat) (banks : List Nat) : State :=
  let r := stackOf s st
  let pagesOn (bank : Nat) : Nat := (s.pool.backs.filter (fun x =>
    let named := match locBanks x.2.loc with
      | some (y, bs) => if y = st then bs.filter banks.contains else []
      | none => []
    !x.2.lost && !s.pool.scrub.contains x.1 && named.all (fun b => r.jobs.any (fun j => j.bank == b)) && named.getLast? == some bank)).length
  setStack s st { r with jobs := r.jobs.map (fun j => if banks.contains j.bank then { j with pages := pagesOn j.bank } else j) }

/-- Start an evacuation of banks (R215, R259, R261). -/
def startEvac (s : State) (h : Option Nat) (key : Key) (st order : Nat) (banks : List Nat) : State :=
  let r := stackOf s st
  let all := decide (banks.length = 256)
  let mode := if all ∧ r.mode = .online then StackMode.evacuating else r.mode
  let s := setStack s st { r with closed := (r.closed ++ banks).eraseDups, mode := mode }
  let s := setBit s (stackBase st + 0x10) 7
  let s := if order = 0 then pagesOver (spareBanks st banks s) st banks else s
  let left := banks.filter (fun b => !(stackOf s st).jobs.any (fun j => j.bank == b))
  let works (e : Nat) : List WWork := (s.pool.backs.filter (fun x =>
    !x.2.lost && !s.pool.scrub.contains x.1 && evacShare x.2.loc st left == some e)).map (fun x => .move (pageFor s x.1))
  let ids := (List.range 4).map (fun e => works e)
  let (s, made) := ids.foldl (fun (acc : State × List Nat) w =>
    let (id, s) := addOp acc.1 { kind := .evacuate st order banks h.isNone, handle := h, key := key, level := 1, todo := w }
    (s, acc.2 ++ [id])) (s, [])
  made.foldl finishOp s

/-- STACK_EVACUATE (R215). -/
def execStackEvacuate (h : Handle) (s : State) : Out3 :=
  match startable s h.toNat 0x35 with
  | none => .next s
  | some r =>
    let d := r.desc
    let first := d16 d 10
    let n := d16 d 12
    if 11 < d8 d 8 then .next (badDesc s h.toNat 8)
    else if 2 < d8 d 9 then .next (badDesc s h.toNat 9)
    else if 255 < first then .next (badDesc s h.toNat 10)
    else if n = 0 ∨ 256 < first + n then .next (badDesc s h.toNat 12)
    else .next (startEvac (markStarted s h.toNat) (some h.toNat) r.key (d8 d 8) (d8 d 9) ((List.range n).map (fun i => first + i)))

end Sys2Proof.Machine
end

