-- ==== Sys2Proof/Machine/Compression.lean ====
section
/-! DEFINITION. Code tables and the CTABLE opcodes (09, R226 to R238), and the refetch of a mismatched block. -/

namespace Sys2Proof.Machine

/-! ## Table images (R230) -/

/-- Symbol count of a format and width. -/
def symCount (fmt width : Nat) : Option Nat :=
  if fmt = 0 ∧ width = 4 then some 16 else if fmt = 0 ∧ width = 8 then some 256 else if fmt = 1 ∧ width = 8 then some 268 else none

/-- Bytes of a table image of a symbol count. -/
def imageLen (count : Nat) : Nat := if count = 16 then 128 else if count = 256 then 192 else 256

/-- The code lengths of a table image. -/
def imageLengths (b : List Byte) (count : Nat) : List Nat :=
  (List.range count).map (fun i => bitsOf (b.getD (64 + i / 2) 0).toNat (4 * (i % 2)) 4)

/-- The table that an image holds, where it is valid. -/
def tableOf (b : List Byte) : Option CodeTab :=
  let width := imgNat b 1 1
  match symCount (imgNat b 0 1) width with
  | none => none
  | some n =>
    let ls := imageLengths b n
    if imgNat b 2 2 = n ∧ b.length = imageLen n ∧ lengthsOk ls = true then some ⟨imgNat b 0 1 == 1, width, ls⟩ else none

/-- Whether a slot belongs to another key (R226). -/
def slotForeign (s : State) (slot : Nat) (k : Key) : Bool :=
  let c := cslotOf s slot
  !c.gens.isEmpty && c.owner != k

/-- The checks of R226, R227 and R238 on an operation that will create a generation. -/
def slotRefusal (s : State) (slot h : Nat) (k : Key) : Option Status :=
  if slotForeign s slot k then some .notOwner
  else if genFull s slot then some .busy
  else if (slotLiveOf s slot).any (· != h) then some .tableBusy
  else none

/-- An operation goes live on a slot (R238). -/
def claimSlot (s : State) (slot h : Nat) (retiring : Bool) : State :=
  setCslot s slot { cslotOf s slot with live := some h, retiring := retiring }

/-- CTABLE_LOAD (R231). It is live on its slot from the read of its image until its commit (R238). -/
def execCtableLoad (h : Handle) (s : State) : Out3 :=
  match startable s h.toNat 0x38 with
  | none => .next s
  | some r =>
    let d := r.desc
    let slot := d8 d 20
    if d64 d 8 % 64 ≠ 0 then .next (badDesc s h.toNat 8)
    else if slot = 255 then .next (badDesc s h.toNat 20)
    else if r.imagePoison then .next (commit s h.toNat .poisoned 0 0)
    else match r.image with
      | none => .next (if slotForeign s slot r.key || slotLive s slot then s else claimSlot s slot h.toNat false)
      | some img =>
        if crc32c img ≠ d32 d 24 then .next (badDesc s h.toNat 24)
        else match tableOf img with
          | none => .next (badDesc s h.toNat 16)
          | some t =>
            match slotRefusal s slot h.toNat r.key with
            | some st => .next (commit s h.toNat st 0 0)
            | none =>
              let s := installGen s slot r.key t.cxa t.width t.lengths
              let c := cslotOf s slot
              .next (commit s h.toNat .ok (word (slot + c.cur * 2 ^ 8)) (word c.gens.length))

/-! ## CTABLE_BUILD (R232 to R234) -/

/-- The first offset of a list of tests that fails. -/
def firstBad : List (Nat × Bool) → Option Nat
  | [] => none
  | (k, b) :: r => if b then some k else firstBad r

/-- Smallest capacity of a destination for an object of `len` raw bytes (R233). -/
def objCapacity (len : Nat) : Nat := objHead (len / 4096) + len

/-- The first field of a CTABLE_BUILD descriptor found wrong for its mode: unused fields are zero. -/
def buildBad (d : Line) : Option Nat :=
  let m := d8 d 41
  let useSrc := decide (m ≤ 2)
  let useDst := decide (1 ≤ m ∧ m ≤ 3)
  let len := d64 d 16
  let srcBad := if useSrc then d64 d 8 % 4096 != 0 || decide (2 ^ 60 ≤ d64 d 8) else d64 d 8 != 0
  let lenBad := if useSrc then len % 4096 != 0 || len == 0 || decide (2 ^ 34 < len) else len != 0
  let dstBad := if useDst then d64 d 24 % (if m = 3 then 64 else 256) != 0 || decide (2 ^ 60 ≤ d64 d 24) else d64 d 24 != 0
  let capBad := if useDst then m != 3 && decide (d64 d 32 < objCapacity len) else d64 d 32 != 0
  let slotBad := if useSrc then d8 d 40 == 255 else d8 d 40 != 0
  if 4 < m then some 41
  else firstBad [(8, srcBad), (16, lenBad), (24, dstBad), (32, capBad), (40, slotBad), (42, useSrc && d16 d 42 != 0)]

/-- Builds that will register an object. -/
def objectsDue (s : State) : Nat := (s.cmp.builds.filter (fun b => b.mode == 1 || b.mode == 2)).length

/-- Whether the object table has no room for one more. -/
def objectsFull (s : State) : Bool := decide (65536 ≤ s.cmp.objs.length + objectsDue s)

/-- The units of pass 1. -/
def countWorks (src len : Nat) : List WWork := (unitsOf src len).map (fun u => .count (src + u.1) u.2)

/-- Start a build: its operation and what it keeps. -/
def startBuild (s : State) (h : Nat) (k : Key) (d : Line) (mode : Nat) (b : CBuild) (works : List WWork) : State :=
  let (id, s) := addOp (markStarted s h) { kind := .build mode (d8 d 40), handle := some h, key := k, todo := works }
  let b := { b with handle := h, op := id, mode := mode, slot := d8 d 40, src := d64 d 8, len := d64 d 16, dst := d64 d 24, cap := d64 d 32 }
  finishOp { s with cmp := { s.cmp with builds := s.cmp.builds ++ [b] } } id

/-- Start pass 1 of modes BUILD and BUILD_ENCODE. -/
def startCount (s : State) (h : Nat) (k : Key) (d : Line) (mode : Nat) : State :=
  let slot := d8 d 40
  match slotRefusal s slot h k with
  | some st => commit s h st 0 0
  | none =>
    if mode = 1 ∧ objectsFull s = true then commit s h .busy 0 0
    else
      let s := claimSlot s slot h false
      startBuild s h k d mode { handle := h, op := 0, mode := mode, slot := slot, counts := List.replicate 268 0 } (countWorks (d64 d 8) (d64 d 16))

/-- A CTABLE_BUILD descriptor of a mode that may start, with BAD_DESCRIPTOR where a field of it is wrong. -/
def buildRow (h : Handle) (mode : Nat) (s : State) (run : HandleRec → State) : Out3 :=
  match startable s h.toNat 0x39 with
  | none => .next s
  | some r =>
    match buildBad r.desc with
    | some off => .next (badDesc s h.toNat off)
    | none => if d8 r.desc 41 = mode then .next (run r) else .next s

/-- BUILD (R232). -/
def execBuild (h : Handle) (s : State) : Out3 := buildRow h 0 s (fun r => startCount s h.toNat r.key r.desc 0)

/-- BUILD_ENCODE (R232, R233). -/
def execBuildEncode (h : Handle) (s : State) : Out3 := buildRow h 1 s (fun r => startCount s h.toNat r.key r.desc 1)

/-- ENCODE (R232, R233, R238). -/
def execEncode (h : Handle) (s : State) : Out3 :=
  buildRow h 2 s (fun r =>
    let d := r.desc
    let slot := d8 d 40
    let c := cslotOf s slot
    if slotForeign s slot r.key then commit s h.toNat .notOwner 0 0
    else if slotRetiring s slot then commit s h.toNat .tableBusy 0 0
    else match cgenOf s slot c.cur with
      | none => commit s h.toNat .busy 0 0
      | some g =>
        if !g.cxa || objectsFull s then commit s h.toNat .busy 0 0
        else
          let b : CBuild := { handle := h.toNat, op := 0, mode := 2, slot := slot, gen := g.num, lengths := g.lengths }
          startBuild s h.toNat r.key d 2 b (encodeWorks (d64 d 8) (d64 d 16)))

/-- The registered object of an ID that a key owns. -/
def objectOf (s : State) (k : Key) (i : Nat) : Option CObj :=
  match tblFind s.cmp.objs i with
  | some x => if x.owner = k ∧ x.gone = false then some x else none
  | none => none

/-- EXPAND (R234). -/
def execExpand (h : Handle) (s : State) : Out3 :=
  buildRow h 3 s (fun r =>
    let d := r.desc
    let obj := d16 d 42
    match objectOf s r.key obj with
    | none => commit s h.toNat .notOwner 0 0
    | some x =>
      if d64 d 32 < x.raw then badDesc s h.toNat 32
      else
        let works := (List.range ((x.raw + 65535) / 65536)).map (fun i =>
          WWork.expand obj (i * 65536) (Nat.min 65536 (x.raw - i * 65536)) (d64 d 24 + i * 65536))
        startOp (markStarted s h.toNat) { kind := .expand obj, handle := some h.toNat, key := r.key, todo := works })

/-- RELEASE (R228, R234). -/
def execRelease (h : Handle) (s : State) : Out3 :=
  buildRow h 4 s (fun r =>
    let obj := d16 r.desc 42
    match objectOf s r.key obj with
    | none => commit s h.toNat .notOwner 0 0
    | some x =>
      let s := { s with cmp := { s.cmp with objs := tblPut s.cmp.objs obj { x with gone := true } } }
      engineDone (pruneObjs (dropRef (markStarted s h.toNat) x.slot x.gen)) h.toNat .ok 0 0)

/-! ## CTABLE_RETIRE (R235, R236) -/

/-- The generations that a CTABLE_RETIRE names, of those the slot holds. -/
def namedGens (s : State) (slot gen : Nat) : List Nat :=
  ((cslotOf s slot).gens.map (·.num)).filter (fun g => gen == 0 || g == gen)

/-- CTABLE_RETIRE without RECODE (R235). -/
def execCtableRetire (h : Handle) (s : State) : Out3 :=
  match startable s h.toNat 0x3A with
  | none => .next s
  | some r =>
    let slot := d8 r.desc 8
    if dFlag r.desc 2 then .next s
    else if slot = 255 then .next (badDesc s h.toNat 8)
    else if slotForeign s slot r.key then .next (commit s h.toNat .notOwner 0 0)
    else if slotLive s slot then .next (commit s h.toNat .tableBusy 0 0)
    else
      let gens := namedGens s slot (d8 r.desc 9)
      let refs := (gens.map (genRefs s slot)).sum
      if refs ≠ 0 then .next (commit s h.toNat .busy 0 (word refs))
      else .next (engineDone (dropGens (markStarted s h.toNat) slot gens) h.toNat .ok 0 (word gens.length))

/-- Whether a recode slot meets R236: owned by the key, with a current CX-A generation that is not among those retired. -/
def recodeOk (s : State) (k : Key) (slot dest : Nat) (gens : List Nat) : Bool :=
  let c := cslotOf s dest
  c.owner == k && (cgenOf s dest c.cur).any (·.cxa) && !(dest == slot && gens.contains c.cur)

/-- CTABLE_RETIRE with RECODE (R236). -/
def execCtableRetireRecode (h : Handle) (s : State) : Out3 :=
  match startable s h.toNat 0x3A with
  | none => .next s
  | some r =>
    let d := r.desc
    let slot := d8 d 8
    let gens := namedGens s slot (d8 d 9)
    if !dFlag d 2 then .next s
    else if slot = 255 then .next (badDesc s h.toNat 8)
    else if slotForeign s slot r.key then .next (commit s h.toNat .notOwner 0 0)
    else if slotLive s slot then .next (commit s h.toNat .tableBusy 0 0)
    else if !recodeOk s r.key slot (d8 d 10) gens then .next (badDesc s h.toNat 10)
    else
      let s := claimSlot s slot h.toNat true
      let objs := (s.cmp.objs.filter (fun e => e.2.slot == slot && gens.contains e.2.gen && !e.2.gone)).map (·.1)
      let (id, s) := addOp (markStarted s h.toNat) { kind := .recode slot, handle := some h.toNat, key := r.key, todo := objs.map .recode }
      let b : CBuild := { handle := h.toNat, op := id, mode := 5, slot := slot, objs := objs, recodeSlot := d8 d 10, recodeGen := (cslotOf s (d8 d 10)).cur, gens := gens }
      .next (finishOp { s with cmp := { s.cmp with builds := s.cmp.builds ++ [b] } } id)

/-! ## Refetch of a mismatched block (R237) -/

/-- Operations whose issued units read a byte range. -/
def unitMeets (s : State) (lo len : Nat) (u : WIssued) : Bool :=
  (workReads s u.work).any (fun x => isLocal s x.1 && decide (x.1 % 2 ^ 48 < lo + len) && decide (lo < x.1 % 2 ^ 48 + x.2))

/-- A lasting mismatch of a T1 block for the consumers that are reading it: COPY and FILL end SIZE_MISMATCH, moves and others carry
the poison. -/
def noteConsumers (s : State) (lo : Nat) : State :=
  { s with tier := { s.tier with ops := s.tier.ops.map (fun e =>
    let o := e.2
    if o.issued.any (unitMeets s lo 4096) then
      match o.kind with
      | .copy => (e.1, noteMismatch o 0 (fabAddr s lo))
      | .fill => (e.1, noteMismatch o 0 (fabAddr s lo))
      | .lazy _ _ => (e.1, noteMismatch o 0 (fabAddr s lo))
      | _ => (e.1, { o with poisoned := true })
    else e) } }

/-- Whether a line waits for the second read of its block, or a unit that is issued reads the block. -/
def refetchDue (s : State) (blk : Nat) : Bool :=
  s.coh.refetch.any (fun l => l / 64 == blk) || s.tier.ops.any (fun e => e.2.issued.any (unitMeets s (blk * 4096) 4096))

/-- The second read of a T1 block has come: the lines that wait for it are read again (R225). -/
def endRefetch (s : State) (blk : Nat) : State := { s with coh := { s.coh with refetch := s.coh.refetch.filter (fun l => l / 64 != blk) } }

/-- Whether the tray of a location is fenced. -/
def trayFenced (s : State) : Loc → Bool
  | .t1 p _ _ => localFenced s p
  | _ => false

/-- Every POISON bit of a T1 block is set (R237), and the lines of it that are on their way are delivered poisoned. -/
def poisonBlock (s : State) (id blk : Nat) : State :=
  let keys := (List.range 64).map (fun i => id * 1024 + blk % 16 * 64 + i)
  let s := { s with pool := { s.pool with poisonLines := keys ++ s.pool.poisonLines.filter (fun k => !keys.contains k) } }
  { s with coh := { s.coh with reads := s.coh.reads.map (fun p => if p.line / 64 = blk then { p with poison := true } else p) } }

/-- The block of a CX-W object of a placement that the sequence running there reads at a pool offset: stack, address and index (R285). -/
def bauRefetch (s : State) (o : Nat) : Option (Nat × Nat × Nat) :=
  match s.bau.places.find? (fun e => e.2.cxw.isSome && e.2.base ≤ o && o < e.2.base + e.2.len) with
  | none => none
  | some (_, p) =>
    let n := (parseObj (lineBytes (currentLine s (p.base / 64)).1)).n
    let hs := objBlocks (linesBytes ((List.range (objHead n / 64)).map (fun i => currentLine s (p.base / 64 + i)))) n
    if s.bau.seqs.any (fun q => q.stage == .running && seqMeets q o (o + 1)) then
      ((List.range n).find? (fun b => p.base + payloadAt n hs b ≤ o && o < p.base + payloadAt n hs (b + 1))).map (fun b => (p.stack, p.base, b))
    else none

/-- The block of an object that an issued unit decodes at a pool offset: the object or layer, its address and the block's index. -/
def objectBlock (s : State) (o : Nat) (u : WIssued) : Option (Nat × Nat × Nat) :=
  let at_ (i src raw : Nat) : Option (Nat × Nat × Nat) :=
    let n := (raw + 4095) / 4096
    let hs := objBlocks (linesBytes (fetchLines s u.tag src (objHead n) {}).1) n
    if isLocal s src then
      ((List.range n).find? (fun b => src % 2 ^ 48 + payloadAt n hs b ≤ o && o < src % 2 ^ 48 + payloadAt n hs (b + 1))).map (fun b => (i, src, b))
    else none
  match u.work with
  | .layer win layer _ _ => (layerOf s win layer).bind (fun x => if x.2.cxw then at_ layer x.2.src x.2.raw else none)
  | .expand obj _ _ _ => (tblFind s.cmp.objs obj).bind (fun x => at_ obj x.dst x.raw)
  | .recode obj => (tblFind s.cmp.objs obj).bind (fun x => at_ obj x.dst x.raw)
  | _ => none

/-- The block of an object that some issued unit decodes at a pool offset. -/
def objectRefetch (s : State) (o : Nat) : Option (Nat × Nat × Nat) :=
  s.tier.ops.findSome? (fun e => e.2.issued.findSome? (objectBlock s o))

/-- BLOCK_REFETCH (R237, R238): a mismatched block is read and decoded a second time. For a T1 block a success is a transient event and a second
mismatch a lasting one, or no mismatch at all where its tray has been fenced since. For a block of an object a success is a transient event; a second
mismatch is what the stored bytes give, which its unit finds when it decodes them. -/
def execBlockRefetch (off : PoolOff) (good : Bool) (s : State) : Out3 :=
  let o := off.toNat
  let blk := o / 4096
  let lo := blk * 4096
  match backIdOf s (pageOf o) with
  | none => .next s
  | some id =>
    match backById s id with
    | none => .next s
    | some b =>
      if locTier b.loc = .t1 then
        if !refetchDue s blk then .next s
        else
          let s := endRefetch s blk
          if trayFenced s b.loc || b.lost then .next (poisonBlock s id blk)
          else if good then .next (logEvent (bump s (cmpCnt 4)) 0x0A 1 0 0x0006 0 0 (fabAddr s lo) 0 0)
          else
            let key := ((extentAt s o).map (·.owner)).getD 0
            .next (noteConsumers (logEvent (bump (poisonBlock s id blk) (cmpCnt 5)) 0x0A 4 0 0x0006 key 0 (fabAddr s lo) 0 0) lo)
      else match objectRefetch s o with
        | some (i, src, n) => .next (if good then logEvent (bump s (cmpCnt 4)) 0x0A 1 0 0x0006 0 0 src i n else s)
        | none =>
          match bauRefetch s o with
          | some (st, base, n) => .next (if good then logEvent (bump s (cmpCnt 4)) 6 1 st 0x0006 0 0 (fabAddr s base) 0 n else s)
          | none => .next s

end Sys2Proof.Machine
end

