-- ==== Sys2Proof/Machine/BauNum.lean ====
section
/-! DEFINITION. Arithmetic of the Bank Arithmetic Units (11, R267 to R272): formats, streams, accumulation, softmax, stores. -/

namespace Sys2Proof.Machine

/-! ## Flags and formats (R269, R270) -/

def fInvalid : Nat := 1
def fOverflow : Nat := 2
def fSatHit : Nat := 4
def fIntSat : Nat := 8
def fPoisonIn : Nat := 16

/-- Bit width of a format code. -/
def fmtBits (f : Nat) : Nat := [4, 4, 8, 8, 8, 16, 16, 32, 32].getD f 0
/-- Integer formats. -/
def fmtInt (f : Nat) : Bool := f == 0 || f == 2 || f == 8

/-- The value of bits in a format whose every exponent is finite. -/
def fDecodeAll (f : Fmt) (b : Nat) : FVal :=
  let neg := b / 2 ^ (f.eb + f.mb) % 2 == 1
  let ex := b / 2 ^ f.mb % 2 ^ f.eb
  let fr := b % 2 ^ f.mb
  if ex = 0 then .fin neg fr (1 - f.bias - f.mb) else .fin neg (2 ^ f.mb + fr) ((ex : Int) - f.bias - f.mb)

/-- The floating layout of a format code. -/
def fmtOf (f : Nat) : Fmt :=
  if f = 1 then ⟨2, 1⟩ else if f = 3 then ⟨4, 3⟩ else if f = 4 then ⟨5, 2⟩ else if f = 5 then bf16 else if f = 6 then fp16 else fp32

/-- The value of an element. -/
def elemVal (f b : Nat) : FVal :=
  if fmtInt f then fOfInt (sInt (fmtBits f) b)
  else if f = 1 then fDecodeAll (fmtOf 1) b
  else if f = 3 then (if b % 128 = 127 then .nan else fDecodeAll (fmtOf 3) b)
  else fDecode (fmtOf f) b

/-- Magnitude bits of a value rounded into a layout, without a limit. -/
def fMag (f : Fmt) (m : Nat) (e : Int) : Nat :=
  if m = 0 then 0
  else
    let (k, q) := fScale f m e
    if k < 2 ^ f.mb then k else ((q + f.mb + f.bias).toNat) * 2 ^ f.mb + (k - 2 ^ f.mb)

/-- Magnitude bits of the largest finite value of a floating format. -/
def fmtMax (f : Nat) : Nat := [0, 7, 0, 0x7E, 0x7B, 0x7F7F, 0x7BFF, 0x7F7FFFFF].getD f 0

/-- A value rounded to an integer, ties to even. -/
def roundInt (neg : Bool) (m : Nat) (e : Int) : Int :=
  let k : Nat := if 0 ≤ e then m * 2 ^ e.toNat else rneShift m (-e).toNat
  if neg then -(k : Int) else (k : Int)

/-- Convert a value into a format under R270, with the flags it sets. -/
def storeVal (f : Nat) (sat : Bool) (v : FVal) : Nat × Nat :=
  let w := fmtBits f
  if fmtInt f then
    let lo : Int := -(2 ^ (w - 1))
    let hi : Int := 2 ^ (w - 1) - 1
    match v with
    | .nan => (0, fInvalid)
    | .inf neg => (sBits w (if neg then lo else hi), fSatHit)
    | .fin neg m e =>
      let i := roundInt neg m e
      if i < lo then (sBits w lo, fSatHit) else if hi < i then (sBits w hi, fSatHit) else (sBits w i, 0)
  else
    let l := fmtOf f
    let sign (neg : Bool) : Nat := if neg then 2 ^ (w - 1) else 0
    let top := fmtMax f
    let hasInf := decide (4 ≤ f)
    let beyond (neg : Bool) : Nat × Nat := if hasInf && !sat then (sign neg + l.top * 2 ^ l.mb, 0) else (sign neg + top, fSatHit)
    match v with
    | .nan => if f = 1 then (0, fInvalid) else if f = 3 then (0x7F, 0) else (l.nanBits, 0)
    | .inf neg => beyond neg
    | .fin neg m e => if top < fMag l m e then beyond neg else (sign neg + fMag l m e, 0)

/-- A value rounded to FP32, with the flags that arithmetic sets. -/
def rnd32 (v : FVal) : BitVec 32 × Nat :=
  let b := BitVec.ofNat 32 (fEncode fp32 v)
  match v with
  | .nan => (b, fInvalid)
  | .inf _ => (b, 0)
  | .fin _ _ _ => (b, if b.toNat % 2 ^ 31 = 0x7F800000 then fOverflow else 0)

def v32 (b : BitVec 32) : FVal := fDecode fp32 b.toNat
def negInf32 : BitVec 32 := 0xFF800000

/-- FP32 product and sum, rounded once. -/
def mul32 (a b : BitVec 32) : BitVec 32 × Nat := rnd32 (fMul (v32 a) (v32 b))
def sub32 (a b : BitVec 32) : BitVec 32 × Nat := rnd32 (fAdd (v32 a) (v32 b).negate)

/-- FP32 quotient, rounded once: the exact quotient with a sticky bit. -/
def div32 (a b : BitVec 32) : BitVec 32 × Nat :=
  match v32 a, v32 b with
  | .nan, _ => rnd32 .nan
  | _, .nan => rnd32 .nan
  | .inf _, .inf _ => rnd32 .nan
  | .inf x, .fin y _ _ => rnd32 (.inf (x != y))
  | .fin x _ _, .inf y => rnd32 (.fin (x != y) 0 0)
  | .fin x m e, .fin y n f =>
    if n = 0 then (if m = 0 then rnd32 .nan else rnd32 (.inf (x != y)))
    else
      let k := 64 + Nat.log2 n
      let q := m * 2 ^ k / n
      let r := if m * 2 ^ k % n = 0 then 0 else 1
      rnd32 (.fin (x != y) (2 * q + r) (e - f - k - 1))

/-- ln 2 in units of 2^-160. -/
def ln2Fix : Nat := 1013035739299659071135698605846798551586536899366

/-- The power series of exp by Horner's rule, from its term `i` down, in units of 2^-160. -/
def expSum (r : Nat) : Nat → Nat → Nat
  | 0, acc => acc
  | i + 1, acc => expSum r i (2 ^ 160 + r * acc / ((i + 1) * 2 ^ 160))

/-- The bits of the largest FP32 value that is not above exp of a finite value, found with 160 fractional bits. -/
def expFloor (neg : Bool) (m : Nat) (e : Int) : Nat :=
  let n : Int := (if neg then -1 else 1) * (m * 2 ^ (e + 160).toNat : Nat)
  if 89 * 2 ^ 160 ≤ n then 0x7F800000
  else if n ≤ -(105 * 2 ^ 160) then 0
  else
    let k := n / ln2Fix
    let y := expSum (n - k * ln2Fix).toNat 60 (2 ^ 160)
    if -126 ≤ k then Nat.min 0x7F800000 ((k + 127).toNat * 2 ^ 23 + y / 2 ^ 137 - 2 ^ 23) else y / 2 ^ (11 - k).toNat

/-- exp in FP32 (R272): at an infinity exact; else one of the values within 2 ulp of the exact one, which are the floor, one below it and
two above it, and at 1 a second one below it. Which one is open. -/
def exp32 (a : BitVec 32) : BitVec 32 × Nat :=
  match v32 a with
  | .nan => rnd32 .nan
  | .inf true => (0, 0)
  | .inf false => (a, 0)
  | .fin neg m e =>
    let f := expFloor neg m e
    let x := if m = 0 then f + Config.bauExp a % 5 - 2 else f + Config.bauExp a % 4 - 1
    (BitVec.ofNat 32 (Nat.min 0x7F800000 x), if 0x7F800000 ≤ x then fOverflow else 0)

/-- The larger of two FP32 values; a NaN gives the canonical NaN. -/
def max32 (a b : BitVec 32) : BitVec 32 × Nat :=
  match fCmp (v32 a) (v32 b) with
  | none => rnd32 .nan
  | some .lt => (b, 0)
  | some _ => (a, 0)

/-! ## Accumulation (R269) -/

/-- The exact integer of a value that is one. -/
def fInt (v : FVal) : Int :=
  match v with
  | .fin neg m e => if neg then -((m * 2 ^ e.toNat : Nat) : Int) else ((m * 2 ^ e.toNat : Nat) : Int)
  | _ => 0

/-- Add a cycle's exact sum to an entry: one rounding in FP32, saturation in INT32. -/
def addEntry (int : Bool) (e : BitVec 32) (v : FVal) : BitVec 32 × Nat :=
  if int then
    let i := e.toInt + fInt v
    if i < -2147483648 then (0x80000000, fIntSat) else if 2147483647 < i then (0x7FFFFFFF, fIntSat) else (BitVec.ofInt 32 i, 0)
  else rnd32 (fAdd (v32 e) v)

/-- Add products to an entry in stream order, those of one cycle summed exactly first: each comes with the number of its cycle. -/
def addCycles (int : Bool) : BitVec 32 × Nat → Option (Nat × FVal) → List (Nat × FVal) → BitVec 32 × Nat
  | (e, f), none, [] => (e, f)
  | (e, f), some (_, v), [] =>
    let (e', g) := addEntry int e v
    (e', f ||| g)
  | a, none, x :: r => addCycles int a (some x) r
  | (e, f), some (k, v), (j, w) :: r =>
    if j = k then addCycles int (e, f) (some (k, fAdd v w)) r
    else
      let (e', g) := addEntry int e v
      addCycles int (e', f ||| g) (some (j, w)) r

/-! ## Streams and rows -/

/-- Bytes streamed from the bank: their value as a number, and the poisoned 64 B lines among them, by byte. -/
structure Stream where
  data : Nat
  bad : Nat → Bool

/-- Element `i` of a stream in a format, and whether it is poisoned. -/
def Stream.elem (x : Stream) (f i : Nat) : FVal := elemVal f (bitsOf x.data (i * fmtBits f) (fmtBits f))
def Stream.poison (x : Stream) (f i : Nat) : Bool := x.bad (i * fmtBits f / 8)

def rowAt (t : Tbl Row32) (i : Nat) : Row32 := tblGet t i {}
def entryAt (r : Row32) (c : Nat) : BitVec 32 := r.v.getD c 0
def cols : List Nat := List.range 32

/-- A row from what a function gives each column, with the flags of all. -/
def mkRow (int : Bool) (f : Nat → BitVec 32 × Bool × Nat) : Row32 × Nat :=
  cols.foldl (fun (acc : Row32 × Nat) c =>
    let (b, p, g) := f c
    ({ acc.1 with v := acc.1.v ++ [b], p := if p then acc.1.p ||| (1 : BitVec 32) <<< c else acc.1.p }, acc.2 ||| g)) ({ int := int }, 0)

/-- Element `k` of column `c` of the stationary buffer. -/
def sbElem (r : BauRegs) (c k : Nat) : FVal :=
  let w := fmtBits r.sbFmt
  elemVal r.sbFmt (bitsOf (tblGet r.sb (c * 64 + k * w / 512) 0).toNat (k * w % 512) w)
def sbPoison (r : BauRegs) (c k : Nat) : Bool := r.sbBad.contains (c * 64 + k * fmtBits r.sbFmt / 512)

/-- Elements of a format that one cycle streams. -/
def perCycle (f : Nat) : Nat := 512 / fmtBits f

/-- The dot product of `n` streamed elements from `g0` on with column `c` of SB, added to an entry. -/
def dotCol (r : BauRegs) (x : Stream) (f g0 n : Nat) (int : Bool) (e : BitVec 32) (c : Nat) : BitVec 32 × Bool × Nat :=
  let (b, g) := addCycles int (e, 0) none ((List.range n).map (fun k => ((g0 + k) / perCycle f, fMul (x.elem f (g0 + k)) (sbElem r c k))))
  let p := (List.range n).any (fun k => x.poison f (g0 + k) || sbPoison r c k)
  (b, p, if p then g ||| fPoisonIn else g)

/-- Registers and the flags set so far. -/
abbrev RF := BauRegs × Nat

/-- What an operation that the chapter lays down for FP32 rows alone makes of an INT32 row: values that it leaves open. -/
def openRow (free row : Nat) (old : Row32) : Row32 :=
  { old with v := cols.map (fun c => (Config.freeValue (free + row * 32 + c)).truncate 32) }

/-- MV: rows `row0` to `row0 + n` gain W × SB (R267, R269). What an INT32 row gains from operands that are not both integers, which R274
refuses in instruction order but a loop can still reach, is left open. -/
def doMV (r : BauRegs) (free : Nat) (x : Stream) (f n row0 k : Nat) : RF :=
  (List.range n).foldl (fun (acc : RF) i =>
    let old := rowAt r.acc (row0 + i)
    let (row, g) := if old.int && !(fmtInt f && fmtInt r.sbFmt) then (openRow free (row0 + i) old, 0) else mkRow old.int (fun c =>
      let (b, p, g) := dotCol r x f (i * k) k old.int (entryAt old c) c
      (b, p || old.p.getLsbD c, g))
    ({ acc.1 with acc := tblPut acc.1.acc (row0 + i) row }, acc.2 ||| g)) (r, 0)

/-- SCORE: scores of `t` keys of `d` elements, the other entries minus infinity. -/
def doScore (r : BauRegs) (x : Stream) (f t d : Nat) : RF :=
  (List.range 128).foldl (fun (acc : RF) i =>
    if i < t then
      let (row, g) := mkRow false (fun c =>
        let (b, p, g) := dotCol r x f (i * d) d false 0 c
        let (m, h) := mul32 (r.f.getD 0 0) b
        (m, p, g ||| h))
      ({ acc.1 with pb := tblPut acc.1.pb i row }, acc.2 ||| g)
    else ({ acc.1 with pb := tblPut acc.1.pb i { v := List.replicate 32 negInf32 } }, acc.2)) (r, 0)

/-- Change rows `row0` to `row0 + n` entry by entry; INT32 rows as `onInt` says. -/
def mapRows (r : BauRegs) (row0 n : Nat) (onInt : Nat → Row32 → Row32) (f : Nat → Nat → BitVec 32 → BitVec 32 × Bool × Nat) : RF :=
  (List.range n).foldl (fun (acc : RF) i =>
    let old := rowAt r.acc (row0 + i)
    if old.int then ({ acc.1 with acc := tblPut acc.1.acc (row0 + i) (onInt (row0 + i) old) }, acc.2)
    else
      let (row, g) := mkRow false (fun c =>
        let (b, p, g) := f i c (entryAt old c)
        (b, p || old.p.getLsbD c, g))
      ({ acc.1 with acc := tblPut acc.1.acc (row0 + i) row }, acc.2 ||| g)) (r, 0)

/-- What one column of a softmax tile comes to: scale, new scores, sum, maximum, poison, flags. -/
structure SmxCol where
  s : BitVec 32
  ps : List (BitVec 32)
  l : BitVec 32
  m : BitVec 32
  p : Bool
  g : Nat

/-- The online softmax of a column over `t` scores (R272). The new sum is formed exactly and rounded once. -/
def smxCol (r : BauRegs) (t c : Nat) : SmxCol :=
  let xs := (List.range t).map (fun i => entryAt (rowAt r.pb i) c)
  let m0 := entryAt r.m c
  let (m1, g0) := xs.foldl (fun (a : BitVec 32 × Nat) x =>
    let (b, g) := max32 a.1 x
    (b, a.2 ||| g)) (m0, 0)
  let (d, g1) := sub32 m0 m1
  let (s, g2) := exp32 d
  let es := xs.map (fun x =>
    let (d, g) := sub32 x m1
    let (e, h) := exp32 d
    (e, g ||| h))
  let sum := es.foldl (fun v e => fAdd v (v32 e.1)) (fMul (v32 (entryAt r.l c)) (v32 s))
  let (l, g3) := rnd32 sum
  let p := r.m.p.getLsbD c || r.l.p.getLsbD c || (List.range t).any (fun i => (rowAt r.pb i).p.getLsbD c)
  { s := s, ps := es.map (·.1), l := l, m := m1, p := p, g := g0 ||| g1 ||| g2 ||| g3 ||| es.foldl (fun a e => a ||| e.2) 0 ||| (if p then fPoisonIn else 0) }

/-- SMX (R272). -/
def doSMX (r : BauRegs) (free t row0 n : Nat) : RF :=
  let cs := cols.map (smxCol r t)
  let at_ (c : Nat) : SmxCol := cs.getD c ⟨0, [], 0, 0, false, 0⟩
  let (r1, g1) := mapRows r row0 n (openRow free) (fun _ c e =>
    let (b, g) := mul32 e (at_ c).s
    (b, (at_ c).p, g))
  let pb := (List.range t).foldl (fun pb i => tblPut pb i (mkRow false (fun c => ((at_ c).ps.getD i 0, (at_ c).p, 0))).1) r1.pb
  let (m, _) := mkRow false (fun c => ((at_ c).m, (at_ c).p, 0))
  let (l, _) := mkRow false (fun c => ((at_ c).l, (at_ c).p, 0))
  ({ r1 with pb := pb, m := m, l := l }, g1 ||| cs.foldl (fun a c => a ||| c.g) 0)

/-- MVT: rows `row0` to `row0 + d` gain probabilities times values; what an INT32 row gains is left open. -/
def doMVT (r : BauRegs) (free : Nat) (x : Stream) (f t d row0 : Nat) : RF :=
  (List.range d).foldl (fun (acc : RF) j =>
    let old := rowAt r.acc (row0 + j)
    let (row, g) := if old.int then (openRow free (row0 + j) old, 0) else mkRow old.int (fun c =>
      let (b, g) := addCycles false (entryAt old c, 0) none ((List.range t).map (fun i =>
        ((i * d + j) / perCycle f, fMul (v32 (entryAt (rowAt r.pb i) c)) (x.elem f (i * d + j)))))
      let p := (List.range t).any (fun i => (rowAt r.pb i).p.getLsbD c || x.poison f (i * d + j))
      (b, p || old.p.getLsbD c, if p then g ||| fPoisonIn else g))
    ({ acc.1 with acc := tblPut acc.1.acc (row0 + j) row }, acc.2 ||| g)) (r, 0)

/-- ZACC: rows zeroed and typed; with SMR the softmax state starts again. -/
def doZACC (r : BauRegs) (row0 n : Nat) (int smr : Bool) : BauRegs :=
  let acc := (List.range n).foldl (fun a i => tblPut a (row0 + i) { int := int, v := List.replicate 32 0 }) r.acc
  if smr then { r with acc := acc, m := { v := List.replicate 32 negInf32 }, l := { v := List.replicate 32 0 } } else { r with acc := acc }

/-- MULF, MULV and NORM. -/
def doMULF (r : BauRegs) (row0 n fb : Nat) : RF :=
  mapRows r row0 n (fun _ x => x) (fun _ _ e =>
    let (b, g) := mul32 e (r.f.getD fb 0)
    (b, false, g))
def doMULV (r : BauRegs) (free : Nat) (x : Stream) (row0 n : Nat) : RF :=
  mapRows r row0 n (openRow free) (fun i _ e =>
    let (b, g) := mul32 e (BitVec.ofNat 32 (bitsOf x.data (32 * i) 32))
    let p := x.poison 7 i
    (b, p, if p then g ||| fPoisonIn else g))
def doNORM (r : BauRegs) (free row0 n : Nat) : RF :=
  mapRows r row0 n (openRow free) (fun _ c e =>
    let l := entryAt r.l c
    let p := r.l.p.getLsbD c
    if l.toNat % 2 ^ 31 = 0 then (0, p, fInvalid)
    else
      let (b, g) := div32 e l
      (b, p, if p then g ||| fPoisonIn else g))

/-- The value of an entry of a row (R269). -/
def entryVal (r : Row32) (c : Nat) : FVal := if r.int then fOfInt (entryAt r c).toInt else v32 (entryAt r c)

/-- ST: the bits that `n` rows store in a format, the poison of each element, and flags (R268, R270). -/
def doST (r : BauRegs) (f row0 n : Nat) (sat : Bool) : Nat × List Bool × Nat :=
  let w := fmtBits f
  (List.range (32 * n)).foldl (fun (acc : Nat × List Bool × Nat) i =>
    let row := rowAt r.acc (row0 + i / 32)
    let (b, g) := storeVal f sat (entryVal row (i % 32))
    (acc.1 + b * 2 ^ (i * w), acc.2.1 ++ [row.p.getLsbD (i % 32)], acc.2.2 ||| g)) (0, [], 0)

end Sys2Proof.Machine
end

