-- ==== Sys2Proof/Machine/BauImage.lean ====
section
/-! DEFINITION. Sequence images (11, R271, R274): layout, fields of instructions, the check of a whole image, and costs (R275). -/

namespace Sys2Proof.Machine

/-- Fields of an instruction. -/
def iOp (w : Word) : Nat := bitsOf w.toNat 0 8
def iA (w : Word) : Nat := bitsOf w.toNat 8 4
def iB (w : Word) : Nat := bitsOf w.toNat 12 4
def iC (w : Word) : Nat := bitsOf w.toNat 16 4
def iFmt (w : Word) : Nat := bitsOf w.toNat 20 4
def iAt (w : Word) (lo len : Nat) : Nat := bitsOf w.toNat lo len
def iInc (w : Word) : Bool := iAt w 63 1 == 1
def iDec (w : Word) : Bool := iAt w 62 1 == 1

/-- A mask of bits `lo` to `hi`. -/
def mask64 (lo hi : Nat) : Nat := 2 ^ (hi + 1) - 2 ^ lo

/-- The bits that an instruction uses; none for a reserved OP. -/
def usedBits (w : Word) : Option Nat :=
  let a := mask64 8 11
  let f := mask64 20 23
  let inc := 2 ^ 63
  match iOp w with
  | 0x01 => some (a ||| mask64 24 63)
  | 0x02 => some (a ||| mask64 12 15 ||| mask64 24 63)
  | 0x03 => some (mask64 8 9 ||| mask64 24 55)
  | 0x04 => some (mask64 8 9 ||| mask64 24 32)
  | 0x05 => some (mask64 8 9 ||| mask64 24 55)
  | 0x06 => some 0
  | 0x10 => some (a ||| f ||| mask64 24 30 ||| inc)
  | 0x11 => some (a ||| (if iDec w then mask64 12 15 else 0) ||| f ||| mask64 24 51 ||| mask64 62 63)
  | 0x12 => some (a ||| f ||| mask64 24 36 ||| inc)
  | 0x13 => some (mask64 24 50)
  | 0x14 => some (a ||| f ||| mask64 24 45 ||| inc)
  | 0x15 => some (mask64 8 19 ||| f ||| mask64 24 37)
  | 0x16 => some (mask64 24 44)
  | 0x17 => some (mask64 12 13 ||| mask64 24 42)
  | 0x18 => some (a ||| mask64 24 42)
  | 0x19 => some (mask64 24 42)
  | 0x1A => some (a ||| f ||| mask64 24 42 ||| 2 ^ 44 ||| inc)
  | 0x1B => some a
  | _ => none

/-- Element counts of an instruction. -/
def mvN (w : Word) : Nat := iAt w 24 10
def mvRow (w : Word) : Nat := iAt w 34 9
def mvK (w : Word) : Nat := 32 * iAt w 43 9
def scT (w : Word) : Nat := iAt w 24 8
def scD (w : Word) : Nat := 32 * iAt w 32 5
def smxRow (w : Word) : Nat := iAt w 32 9
def smxN (w : Word) : Nat := iAt w 41 10
def mvtRow (w : Word) : Nat := iAt w 37 9
def atD (w : Word) : Nat := 32 * iAt w 24 5
def atRow (w : Word) : Nat := iAt w 29 9
def rowOfI (w : Word) : Nat := iAt w 24 9
def rowsOfI (w : Word) : Nat := iAt w 33 10

/-- Bytes that `n` elements of an instruction's format take. -/
def elemBytes (w : Word) (n : Nat) : Nat := n * fmtBits (iFmt w) / 8
/-- Whether `n` elements fill whole 64 B units. -/
def whole64 (w : Word) (n : Nat) : Bool := n * fmtBits (iFmt w) % 512 == 0

def inRange (x lo hi : Nat) : Bool := decide (lo ≤ x ∧ x ≤ hi)

/-- The fields of an instruction keep their ranges, formats and reserved bits (R274); `sb` is the format of the last LDS, `i` the
instruction's index. -/
def insOk (w : Word) (sb i : Nat) : Bool :=
  let f := decide (iFmt w ≤ 7)
  let n := inRange (rowsOfI w) 1 512 && decide (rowOfI w + rowsOfI w ≤ 512)
  let col (k : Nat) : Bool := decide (k * fmtBits sb ≤ 32768)
  match usedBits w with
  | none => false
  | some m =>
    (w.toNat &&& (2 ^ 64 - 256 - m)) == 0 &&
    (match iOp w with
    | 0x04 => decide (iAt w 24 9 < i)
    | 0x10 => f && inRange (iAt w 24 7) 1 64
    | 0x11 => f && inRange (mvN w) 1 512 && inRange (iAt w 43 9) 1 256 && decide (mvRow w + mvN w ≤ 512) && whole64 w (mvN w * mvK w) && col (mvK w)
    | 0x12 => f && inRange (scT w) 1 128 && inRange (iAt w 32 5) 1 16 && whole64 w (scT w * scD w) && col (scD w)
    | 0x13 => inRange (scT w) 1 128 && decide (smxN w ≤ 512) && decide (smxRow w + smxN w ≤ 512)
    | 0x14 => f && inRange (scT w) 1 128 && inRange (iAt w 32 5) 1 16 && decide (mvtRow w + scD w ≤ 512) && whole64 w (scT w * scD w)
    | 0x15 => f && inRange (iAt w 24 5) 1 16 && decide (atRow w + atD w ≤ 512) && col (atD w)
    | 0x16 => n
    | 0x17 => n
    | 0x18 => n && rowsOfI w % 16 == 0
    | 0x19 => n
    | 0x1A => n && decide (iFmt w ≤ 8) && whole64 w (32 * rowsOfI w)
    | _ => true)

/-- Rows typed so far, newest ZACC first: first row, number of rows, INT32. -/
abbrev RowTypes := List (Nat × Nat × Bool)

/-- The type that the last preceding ZACC gave a row, if one did. -/
def rowType (z : RowTypes) (i : Nat) : Option Bool := (z.find? (fun e => e.1 ≤ i && i < e.1 + e.2.1)).map (·.2.2)

/-- Whether some row of a range has a type. -/
def anyRow (z : RowTypes) (row0 n : Nat) (int : Bool) : Bool := (List.range n).any (fun i => rowType z (row0 + i) == some int)

/-- The rows that an instruction adds to keep their type (R274). -/
def typesOk (w : Word) (sb : Nat) (z : RowTypes) : Bool :=
  match iOp w with
  | 0x11 =>
    if fmtInt (iFmt w) && fmtInt sb then !anyRow z (mvRow w) (mvN w) false else !anyRow z (mvRow w) (mvN w) true
  | 0x14 => !anyRow z (mvtRow w) (scD w) true
  | 0x15 => !anyRow z (atRow w) (atD w) true
  | 0x1A => iFmt w != 8 || (List.range (rowsOfI w)).all (fun i => rowType z (rowOfI w + i) == some true)
  | _ => true

/-- The first instruction of a program found wrong, in instruction order. -/
def walkOk : List Word → Nat → Nat → RowTypes → Option Nat
  | [], _, _, _ => none
  | w :: r, i, sb, z =>
    if !insOk w sb i || !typesOk w sb z then some i
    else walkOk r (i + 1) (if iOp w = 0x10 then iFmt w else sb)
      (if iOp w = 0x16 then (rowOfI w, rowsOfI w, iAt w 43 1 == 1) :: z else z)

/-- The loops of a program: target and index. -/
def loopsOf (p : List Word) : List (Nat × Nat) :=
  p.zipIdx.filterMap (fun e => if iOp e.1 = 0x04 then some (iAt e.1 24 9, e.2) else none)

/-- The index of the first instruction that breaks R274, the length of the program where it has no END. -/
def programFault (p : List Word) : Option Nat :=
  match walkOk p 0 0 [] with
  | some i => some i
  | none =>
    match (loopsOf p).find? (fun l => decide (4 < ((loopsOf p).filter (fun m => m.1 ≤ l.1 && l.2 ≤ m.2)).length)) with
    | some l => some l.2
    | none => if p.any (fun w => iOp w == 0x06) then none else some p.length

/-- An image: read ranges, lock ranges (first byte, first byte after) and instructions. -/
structure SeqImage where
  reads : List (Nat × Nat)
  locks : List (Nat × Nat)
  prog : List Word
  bytes : Nat

/-- The 16 bytes of range `i` of an image, where they are well formed. -/
def imageRange (b : List Byte) (i : Nat) : Option (Nat × Nat) :=
  let k := 64 + 16 * i
  let lo := imgNat b k 8
  let n := imgNat b (k + 8) 4
  if lo % 65536 = 0 ∧ lo < 2 ^ 48 ∧ n ≠ 0 ∧ lo + n * 65536 ≤ 2 ^ 48 ∧ imgNat b (k + 12) 4 = 0 then some (lo, lo + n * 65536) else none

def imageRanges (b : List Byte) (from_ : Nat) : Nat → Option (List (Nat × Nat))
  | 0 => some []
  | n + 1 =>
    match imageRanges b from_ n, imageRange b (from_ + n) with
    | some rs, some r => some (rs ++ [r])
    | _, _ => none

/-- Bytes of an image by its first bytes. -/
def imageBytes (b : List Byte) : Nat := 64 + 16 * (imgNat b 2 1 + imgNat b 3 1) + 8 * imgNat b 0 2

/-- Parse an image (R271). -/
def parseImage (b : List Byte) : Option SeqImage :=
  let n := imgNat b 0 2
  let nr := imgNat b 2 1
  let nl := imgNat b 3 1
  if n = 0 ∨ 512 < n ∨ 16 < nr ∨ 16 < nl ∨ (b.drop 4).take 60 ≠ List.replicate 60 0 then none
  else match imageRanges b 0 nr, imageRanges b nr nl with
    | some rs, some ls =>
      some ⟨rs, ls, (List.range n).map (fun i => BitVec.ofNat 64 (imgNat b (64 + 16 * (nr + nl) + 8 * i) 8)), imageBytes b⟩
    | _, _ => none

/-- Busy-cycles of an instruction (R275); `tokens` is a[C] of an ATTN. -/
def insCost (w : Word) (tokens : Nat) : Nat :=
  match iOp w with
  | 0x10 => 32 * iAt w 24 7
  | 0x11 => elemBytes w (mvN w * mvK w) / 64
  | 0x12 => elemBytes w (scT w * scD w) / 64
  | 0x13 => (smxN w + 7) / 8 + 4
  | 0x14 => elemBytes w (scT w * scD w) / 64
  | 0x15 => (tokens + 127) / 128 * (2 * 128 * atD w * fmtBits (iFmt w) / 512)
  | 0x16 => (rowsOfI w + 7) / 8
  | 0x17 => (rowsOfI w + 7) / 8
  | 0x18 => (rowsOfI w + 7) / 8 + 4 * rowsOfI w / 64
  | 0x19 => (rowsOfI w + 7) / 8
  | 0x1A => elemBytes w (32 * rowsOfI w) / 64
  | 0x1B => 4
  | _ => 1

end Sys2Proof.Machine
end

