-- ==== Sys2Proof/Machine/StackOps.lean ====
section
/-! DEFINITION. Operations of the stacks (10): replacement of BAU banks, RAS evacuation, row sparing, corrected codewords. -/

namespace Sys2Proof.Machine

/-- Set a bit of STACK_ERR (R265). -/
def stackErr (s : State) (st bit : Nat) : State := setBit s (stackBase st + 0x10) bit

/-- Whether a bank is being replaced. -/
def bankJob (s : State) (st bank : Nat) : Bool := (stackOf s st).jobs.any (fun j => j.bank == bank)

/-- Whether an evacuation of a bank is live. -/
def evacLive (s : State) (st bank : Nat) : Bool :=
  s.tier.ops.any (fun e => match e.2.kind with
    | .evacuate a _ banks _ => a == st && banks.contains bank
    | _ => false)

/-- Start a RAS evacuation of banks, or only record its cause while AUTO_EVAC is 0 (R258). -/
def rasEvac (s : State) (st : Nat) (banks : List Nat) : State :=
  let fresh := banks.filter (fun b => !bankClosed s st b)
  if flag s (stackBase st) 48 && !fresh.isEmpty then startEvac s none 0xFFFF st 1 banks else s

/-- Replace a BAU bank (R255), or evacuate it where no spare bank unit is free (R258), with one error record (R478). -/
def replaceBank (s : State) (st bank kind cause d0 d1 : Nat) : State :=
  if bankJob s st bank || bankClosed s st bank then s
  else match startReplace s st bank with
    | some s' =>
      let u := ((stackOf s' st).jobs.find? (fun j => j.bank == bank)).map (·.unit)
      errorRecord s' { kind := kind, cls := 2, idx := st, cause := cause, d0 := d0, d1 := d1, spareKind := 4, spareIdx := u.getD 0 }
    | none =>
      let s := logEvent (stackErr s st 3) kind 3 st 0x0012 0 0 0 4 0
      rasEvac s st [bank]

/-- Position of a line in its BAU bank, for the geometry that the chapter leaves open. -/
def bankLine (s : State) (line : Nat) : Nat :=
  match backAt s (line / 1024) with
  | none => 0
  | some b => match b.loc with
    | .t0 _ _ f true => f * 64 + line % 1024
    | .t0 _ _ f false => f * 64 + line % 64
    | _ => 0

/-- DRAM bank and row of a line. -/
def dramOf (s : State) (line : Nat) : Nat × Nat := (Config.dramBank (bankLine s line) % 64, Config.dramRow (bankLine s line))

/-- Spare rows of a DRAM bank that are used or being filled. -/
def rowsTaken (s : State) (st bank d : Nat) : Nat :=
  tblGet (stackOf s st).rowUsed (bank * 64 + d) 0 + ((stackOf s st).rowJobs.filter (fun j => j.1 == bank * 64 + d)).length

/-- Replace a row by a spare row of its DRAM bank (R254); a DRAM bank without one has its BAU bank replaced (R255). Whether a spare
row was found. -/
def spareRow (s : State) (st bank d row : Nat) : Bool × State :=
  let r := stackOf s st
  if r.rowJobs.contains (bank * 64 + d, row) then (true, s)
  else if rowsTaken s st bank d < 16 then (true, setStack s st { r with rowJobs := r.rowJobs ++ [(bank * 64 + d, row)] })
  else (false, replaceBank s st bank 4 0x0001 bank 1)

/-- Count a corrected codeword of a row and a bank (R253 to R255): more than 8 of a row within a scrub period bring in a spare row, more
than CE_THRESH of a bank within 1 s a spare bank unit. -/
def corrected (s : State) (st bank d row : Nat) : State :=
  let r := stackOf s st
  let key := (bank * 64 + d) * 2 ^ 32 + row
  let hours := fld s (stackBase st) 40 8
  let inBank := (s.now :: tblGet r.corrected bank []).filter (fun t => s.now < t + 1000000000)
  let inRow := (s.now :: tblGet r.rowCorrected key []).filter (fun t => s.now < t + hours * 3600000000000)
  let s := setStack s st { r with corrected := tblPut r.corrected bank inBank, rowCorrected := tblPut r.rowCorrected key inRow }
  let s := bump s (stackCnt st 0)
  let s := if 8 < inRow.length then
      let (ok, s) := spareRow s st bank d row
      let s := setStack s st { stackOf s st with rowCorrected := tblErase (stackOf s st).rowCorrected key }
      if ok then logEvent s 4 2 st 0x0002 0 0 0 bank inRow.length else s
    else s
  if fld s (stackBase st) 24 16 < inBank.length then
    let s := setStack s st { stackOf s st with corrected := tblErase (stackOf s st).corrected bank }
    replaceBank (stackErr s st 0) st bank 4 0x0002 bank inBank.length
  else s

/-- Count a corrected codeword of a line. -/
def noteCorrected (s : State) (line : Nat) : State :=
  match bankOfLine s line with
  | none => s
  | some (st, b) => corrected s st b (dramOf s line).1 (dramOf s line).2

end Sys2Proof.Machine
end

