-- ==== Sys2Proof/Machine/Bau.lean ====
section
/-! DEFINITION. Bank Arithmetic Units (11): placements, launches, holds, quanta and preemption points, and the instructions. -/

namespace Sys2Proof.Machine

/-! ## Sequences -/

/-- The bank of a sequence: where its image lies now (a placement may have moved before the start, R260). -/
def seqBank (s : State) (q : Seq) : Nat × Nat :=
  match (backAt s (q.image / 65536)).bind (fun b => localBank b.loc) with
  | some x => if q.stage = .queued then x else (q.stack, q.bank)
  | none => (q.stack, q.bank)

/-- Sequences of a bank, in order of launch. -/
def bankSeqs (s : State) (st b : Nat) : List Seq := s.bau.seqs.filter (fun q => seqBank s q == (st, b))

def setSeq (s : State) (q : Seq) : State :=
  { s with bau := { s.bau with seqs := s.bau.seqs.map (fun x => if x.num = q.num then q else x) } }

/-- The sequence of a bank in a stage. -/
def seqAt (s : State) (st b : Nat) (g : SeqStage) : Option Seq := (bankSeqs s st b).find? (fun q => q.stage == g)

/-- Page numbers of byte ranges. -/
def rangePages (rs : List (Nat × Nat)) : List Nat :=
  rs.flatMap (fun r => (List.range ((r.2 - r.1) / 65536)).map (fun i => r.1 / 65536 + i))

/-- Whether a page is a bank-local page of a bank that belongs to a placement there (R271). -/
def pagePlaced (s : State) (st b page : Nat) : Bool :=
  match backAt s page with
  | none => false
  | some x => localBank x.loc == some (st, b) && (match x.pin with
      | .bau i => (tblFind s.bau.places i).any (fun p => p.made && !placeClosing p && p.stack == st && p.bank == b)
      | _ => false)

/-- Whether a page of some ranges is being moved by an evacuation. -/
def setMoving (s : State) (rs : List (Nat × Nat)) : Bool :=
  (rangePages rs).any (fun p => (backAt s p).any (fun x => x.moving || (match x.pin with
    | .bau i => (tblFind s.bau.places i).any (fun y => y.moveTo.isSome)
    | _ => false)))

/-- Remove a sequence: its holds, its stamp, its recalls. -/
def dropSeq (s : State) (q : Seq) : State :=
  let s := { s with bau := { s.bau with seqs := s.bau.seqs.filter (fun x => x.num != q.num) } }
  let s := if q.stage = .queued then s else
    { s with coh := { s.coh with holds := s.coh.holds.filter (fun h => !(h.stack == q.stack && h.bank == q.bank)) } }
  settlePlaces (dropStat (dropFlight s (2 ^ 18) q.num) q.tag)

/-- Install the holds of a sequence and ask for its recalls (R280, R148). -/
def installHolds (s : State) (q : Seq) : State :=
  let (st, b) := seqBank s q
  let (tag, s) := newTag s
  let hs := q.reads.map (fun r => Hold.mk st b r.1 r.2 false) ++ q.locks.map (fun r => Hold.mk st b r.1 r.2 true)
  let s := { s with coh := { s.coh with holds := s.coh.holds ++ hs } }
  let s := (q.reads ++ q.locks).foldl (fun s r => leaveForced s r.1 r.2) s
  let s := q.reads.foldl (fun s r => queueRecalls s r.1 r.2 .downgrade tag (fun _ e => (ownerOf e).isSome)) s
  let s := q.locks.foldl (fun s r => queueRecalls s r.1 r.2 .exclusive tag (fun _ _ => true)) s
  setSeq s { q with stack := st, bank := b, tag := tag, stage := .holding }

/-- Step 3 of a launch (R280, R286): the first launch of a bank, once none runs there, gets its holds; pages that have left their
placement end it NOT_OWNER, a closed bank that nothing evacuates NO_SPARE. -/
def startHolds : Nat → State → Nat → Nat → State
  | 0, s, _, _ => s
  | fuel + 1, s, st, b =>
    match bankSeqs s st b with
    | [] => s
    | q :: _ =>
      let rs := q.reads ++ q.locks
      if q.stage ≠ .queued then s
      else if setMoving s rs then s
      else if !(rangePages rs).all (pagePlaced s st b) then
        startHolds fuel (engineDone (dropSeq s q) q.handle .notOwner 0 0) st b
      else if bankClosed s st b then
        if evacLive s st b then s else startHolds fuel (engineDone (dropSeq s q) q.handle .noSpare 0 0) st b
      else installHolds s q

/-- Let the next launch of a bank begin. -/
def nextLaunch (s : State) (st b : Nat) : State := startHolds s.bau.seqs.length s st b

/-- Stop a sequence that has begun (R282): every hold goes at once; completed quanta stay. -/
def stopSeq (s : State) (q : Seq) (status : Status) (r0 r1 : Word) : State :=
  let s := bump (dropSeq s q) (bauCnt q.stack 2)
  nextLaunch (engineDone s q.handle status r0 r1) q.stack q.bank

/-! ## BAU_PLACE (R284 to R287) -/

/-- Pages of a range that are not yet bank-local in a bank. -/
def pagesToPlace (s : State) (lo n st b : Nat) : Nat :=
  ((List.range n).filter (fun i => !(backAt s (lo / 65536 + i)).any (fun x => localBank x.loc == some (st, b)))).length

/-- Whether a bank can take a placement. -/
def bankTakes (s : State) (lo n st b : Nat) : Bool :=
  stackOnline s st && !underEvac s st && !bankClosed s st b && decide (pagesToPlace s lo n st b ≤ bankRoom s st b)

/-- The bank with the most free sectors among candidates. -/
def mostRoom (s : State) (cands : List (Nat × Nat)) : Option (Nat × Nat) :=
  match cands with
  | [] => none
  | c :: r => some (r.foldl (fun a b => if bankRoom s a.1 a.2 < bankRoom s b.1 b.2 then b else a) c)

/-- The bank of a placement (R284). -/
def chooseBank (s : State) (lo n : Nat) (mate : Option Placement) (st b : Nat) : Option (Nat × Nat) :=
  match mate with
  | some p => if bankTakes s lo n p.stack p.bank then some (p.stack, p.bank) else none
  | none =>
    if st ≠ 255 ∧ b ≠ 255 then (if bankTakes s lo n st b then some (st, b) else none)
    else
      let sts := if st = 255 then List.range 12 else [st]
      mostRoom s (sts.flatMap (fun x => ((List.range 256).filter (bankTakes s lo n x)).map (fun y => (x, y))))

/-- Allocate the unallocated pages of a placement ZERO in its bank, pinned. -/
def placeNew (s : State) (k : Key) (id st b : Nat) (pages : List Nat) : State :=
  pages.foldl (fun s p =>
    if (backIdOf s p).isSome then s
    else match takeBank s st b with
      | none => s
      | some (l, s) =>
        let (i, s) := newBack s l k 0
        match backById s i with
        | some x => setPage (setBack s i { x with pin := .bau id }) p i
        | none => s) s

/-- The object that begins a CXW range, where its header is valid and it fits (R285): slot and generation. -/
def cxwObject (s : State) (base len : Nat) : Option (Nat × Nat) :=
  let o := parseObj (lineBytes (currentLine s (base / 64)).1)
  let b := linesBytes ((List.range (objHead o.n / 64)).map (fun i => currentLine s (base / 64 + i)))
  if o.stored ≤ len ∧ objHead o.n ≤ len ∧ objOk b 0 o.raw o.stored = true then some (o.slot, o.gen) else none

/-- BAU_PLACE (R284, R285). -/
def execBauPlace (h : Handle) (s : State) : Out3 :=
  match startable s h.toNat 0x41 with
  | none => .next s
  | some r =>
    let d := r.desc
    let base := d64 d 8
    let len := d64 d 16
    let n := len / 65536
    let mate := tblFind s.bau.places (d32 d 28)
    if dFlag d 2 then .next s
    else if base % 65536 ≠ 0 then .next (badDesc s h.toNat 8)
    else if len % 65536 ≠ 0 ∨ len = 0 ∨ 248 * 2 ^ 20 < len then .next (badDesc s h.toNat 16)
    else if 11 < d8 d 24 ∧ d8 d 24 ≠ 255 then .next (badDesc s h.toNat 24)
    else match ownedRange s r.key base len with
      | none => .next (commit s h.toNat .keyReject 0 0)
      | some x =>
        if !tierAllowed x .t0 then .next (commit s h.toNat .keyReject 0 0)
        else if dFlag d 3 && !mate.any (fun p => p.owner == r.key && p.made && !placeClosing p) then .next (commit s h.toNat .notOwner 0 0)
        else
          let pages := (List.range n).map (fun i => base / 65536 + i)
          let more := (pages.filter (fun p => !(backAt s p).any (fun b => decide (locTier b.loc = .t0) && !b.lost))).length
          let i := lowestFree (tblHas s.bau.places) 65536 0
          let obj := cxwObject s base len
          if dFlag d 4 && obj.isNone then .next (badDesc s h.toNat 8)
          else if more ≠ 0 ∧ quotaRoom s x.owner .t0 more = false then .next (commit s h.toNat .overQuota 0 0)
          else if 65536 ≤ i ∨ pages.any (fun p => (backAt s p).any (fun b => b.pin != .none)) = true then .next (commit s h.toNat .busy 0 0)
          else match chooseBank s base n (if dFlag d 3 then mate else none) (d8 d 24) (d8 d 25) with
            | none => .next (commit s h.toNat (if ((List.range 12).map (stackFree s)).sum < more then .overQuota else .busy) 0 0)
            | some (st, b) =>
              let ref := if dFlag d 4 then obj.bind (fun o => if (findTab s r.key o.1 o.2).isSome then some o else none) else none
              let s := match ref with
                | some o => addRef s o.1 o.2
                | none => s
              let p : Placement := { base := base, len := len, stack := st, bank := b, owner := r.key, cxw := ref }
              let old := pages.filter (fun g => (backIdOf s g).isSome)
              let s := placeNew (setPlacement (markStarted s h.toNat) i p) x.owner i st b pages
              .next (startOp s { kind := .bauPlace i, handle := some h.toNat, key := r.key, todo := old.map (fun g => .bank g st b) })

/-- BAU_PLACE with RELEASE (R286). -/
def execBauPlaceRelease (h : Handle) (s : State) : Out3 :=
  match startable s h.toNat 0x41 with
  | none => .next s
  | some r =>
    let i := d32 r.desc 28
    if !dFlag r.desc 2 then .next s
    else match tblFind s.bau.places i with
      | none => .next (commit s h.toNat .notOwner 0 0)
      | some p =>
        if p.owner ≠ r.key ∨ p.made = false ∨ placeClosing p = true then .next (commit s h.toNat .notOwner 0 0)
        else .next (settlePlaces (setPlacement (markStarted s h.toNat) i { p with closeH := p.closeH ++ [h.toNat] }))

/-! ## BAU_LAUNCH (R271, R274, R283) -/

/-- Whether byte ranges cover a page. -/
def covers (rs : List (Nat × Nat)) (page : Nat) : Bool := rs.any (fun r => r.1 ≤ page * 65536 && page * 65536 < r.2)

/-- Whether the sets of an image keep R271 in a bank. -/
def setsOk (s : State) (st b off : Nat) (im : SeqImage) : Bool :=
  !(rangePages im.reads).any (covers im.locks) &&
  (rangePages (im.reads ++ im.locks)).all (pagePlaced s st b) &&
  (pagePoints off im.bytes).all (fun o => covers im.reads (o / 65536))

/-- The refusal of a set page under R65 or R167, if any. -/
def setsRefusal (s : State) (k : Key) (im : SeqImage) : Option Status :=
  match im.reads.findSome? (fun r => unitCheck s k false r.1 (r.2 - r.1)) with
  | some st => some st
  | none => im.locks.findSome? (fun r => unitCheck s k true r.1 (r.2 - r.1))

/-- Step 1 of a launch, once the image has been read. -/
def launchWith (s : State) (h : Nat) (r : HandleRec) (off : Nat) (bytes : List Byte) : State :=
  match parseImage bytes, (backAt s (off / 65536)).bind (fun b => localBank b.loc) with
  | some im, some (st, b) =>
    if !setsOk s st b off im then badDesc s h 8
    else match setsRefusal s r.key im with
      | some no => commit s h no 0 0
      | none =>
        match programFault im.prog with
        | some i => badDesc (logEvent s 6 7 st 0x0010 r.key h (fabAddr s off) 0x40 i) h 8
        | none =>
          let n := s.bau.nextSeq
          let q : Seq := { num := n, handle := h, key := r.key, stack := st, bank := b, gen := s.pool.gen, image := off, reads := im.reads, locks := im.locks }
          let s := { markStarted s h with bau := { (markStarted s h).bau with seqs := s.bau.seqs ++ [q], nextSeq := n + 1 } }
          let fs := (im.reads ++ im.locks).map (fun x => ({ src := 2 ^ 18, tag := n, off := x.1, len := x.2 - x.1, gen := s.pool.gen, chk := s.obj.objSeq } : Flight))
          nextLaunch { s with pool := { s.pool with flights := s.pool.flights ++ fs } } st b
  | _, _ => badDesc s h 8

/-- BAU_LAUNCH (R283): the image is read as an engine reads, with owners' lines fetched by recalls first. -/
def execBauLaunch (h : Handle) (s : State) : Out3 :=
  match startable s h.toNat 0x40 with
  | none => .next s
  | some r =>
    let off := d64 r.desc 8
    let len := imageBytes (lineBytes (currentLine s (off / 64)).1)
    if off % 64 ≠ 0 ∨ 2 ^ 48 ≤ off then .next (badDesc s h.toNat 8)
    else match tblFind s.bau.reading h.toNat with
      | none =>
        if readReady s 0 off len && rangeQuiet s off len false then
          .next (launchWith (noteEngineRead s off len) h.toNat r off (engineBytes s 0 off len).1)
        else
          let (tag, s) := newTag s
          .next (askRead { s with bau := { s.bau with reading := tblPut s.bau.reading h.toNat tag } } off 4672 tag)
      | some tag =>
        if recallDone s tag && readReady s tag off 4672 && rangeQuiet s off len false then
          let b := (engineBytes s tag off 4672).1
          let s := dropStat { s with bau := { s.bau with reading := tblErase s.bau.reading h.toNat } } tag
          .next (launchWith (noteEngineRead s off (imageBytes b)) h.toNat r off (b.take (imageBytes b)))
        else if recallDone s tag && !readReady s tag off 4672 then .next (askRead s off 4672 tag)
        else .next s

/-! ## Start, quanta, end -/

/-- Whether nothing of the home stands in the way of a sequence's sets: recalls answered, no transaction, no owner left in the read
set and no holder in the lock set, no Far line. -/
def holdsReady (s : State) (q : Seq) : Bool :=
  recallDone s q.tag &&
  (q.reads ++ q.locks).all (fun r => rangeNear s r.1 r.2 &&
    !s.coh.trans.any (fun e => r.1 ≤ e.1 * 64 && e.1 * 64 < r.2) && !s.coh.wbBuf.any (fun w => r.1 ≤ w.line * 64 && w.line * 64 < r.2)) &&
  !s.coh.dir.any (fun e => q.locks.any (fun r => r.1 ≤ e.1 * 64 && e.1 * 64 < r.2) ||
    ((ownerOf e.2).isSome && q.reads.any (fun r => r.1 ≤ e.1 * 64 && e.1 * 64 < r.2)))

/-- The lock set pages of a sequence that their draft still shares with its base, as the copies that would end the sharing (R172). -/
def sharedLocks (s : State) (q : Seq) : List CowCopy :=
  (rangePages q.locks).filterMap (fun p =>
    match shelfAt s (p * 65536), backIdOf s p with
    | some (i, x, k), some src =>
      let idx := (p * 65536 - x.base) % x.size / 65536
      if tblHas (slotOf x k).privs idx then none else some ⟨p, i, k, idx, some src, 0⟩
    | _, _ => none)

/-- Start the copies of shared lock set pages into the sequence's own bank, pinned as their sources are; the refusal where quota or bank have no
room (R172, R284; DESIGN CHOICE, log entry 107). -/
def copyLocks (q : Seq) : List CowCopy → State → State × Option Status
  | [], s => (s, none)
  | c :: r, s =>
    if s.obj.cows.any (fun x => x.page == c.page) then copyLocks q r s
    else match c.src.bind (backById s) with
      | none => copyLocks q r s
      | some b =>
        if quotaRoom s b.charge .t0 1 = false then (s, some .overQuota)
        else match takeBank s q.stack q.bank with
          | none => (s, some .busy)
          | some (l, s) =>
            let (dst, s) := newBack s l b.charge 0
            let s := match backById s dst with
              | some x => setBack s dst { x with pin := b.pin }
              | none => s
            copyLocks q r { s with obj := { s.obj with cows := s.obj.cows ++ [{ c with dst := dst }] } }

/-- BAU_HOLDS_INSTALLED (R280): the recalls are answered and no page of the lock set is shared any more (R172). -/
def execBauHoldsInstalled (st : StackId) (b : BankId) (s : State) : Out3 :=
  let s := nextLaunch s st.val b.val
  match seqAt s st.val b.val .holding with
  | none => .next s
  | some q =>
    if holdsReady s q then
      match sharedLocks s q with
      | [] => .next (setSeq s { q with stage := .ready })
      | cs =>
        match copyLocks q cs s with
        | (s, none) => .next s
        | (s, some no) => .next (stopSeq s q no 0 0)
    else if recallDone s q.tag then
      let s := q.reads.foldl (fun s r => queueRecalls s r.1 r.2 .downgrade q.tag (fun _ e => (ownerOf e).isSome)) s
      .next (q.locks.foldl (fun s r => queueRecalls s r.1 r.2 .exclusive q.tag (fun _ _ => true)) s)
    else .next s

/-- Whether a stack lets sequences start: BAU_EN set, HOT clear (R252, R291). -/
def stackStarts (s : State) (st : Nat) : Bool :=
  flag s (stackBase st + 0x400) 28 && !(stackOf s st).hot && decide ((stackOf s st).mode ≠ .offline)

/-- Starts of a stack in the last 200 ns (R278). -/
def recentStarts (s : State) (st : Nat) : List Nat := (tblGet s.bau.starts st []).filter (fun t => s.now < t + 200)

/-- Registers at the start of a sequence. -/
def startRegs (d : Line) : BauRegs :=
  { a := [16, 24, 32, 40].map (fun k => BitVec.ofNat 64 (d64 d k)) ++ List.replicate 12 0, c := List.replicate 4 0, f := List.replicate 4 0, m := { v := List.replicate 32 negInf32 }, l := { v := List.replicate 32 0 } }


/-- BAU_SEQUENCE_START (R274, R278): the image is loaded and a0 to a3 are set. -/
def execBauSequenceStart (st : StackId) (b : BankId) (s : State) : Out3 :=
  let st := st.val
  let b := b.val
  match seqAt s st b .ready with
  | none => .next s
  | some q =>
    if warming s || !stackStarts s st || bankJob s st b || setMoving s (q.reads ++ q.locks) then .next s
    else if bankClosed s st b then
      if evacLive s st b then .next s else .next (stopSeq s q .noSpare 0 0)
    else
      let limit := fld s (stackBase st + 0x400) 21 7
      let before := s.bau.seqs.any (fun x => x.stack == st && x.stage == .ready && x.waited && decide (x.num < q.num))
      if limit ≤ (recentStarts s st).length ∨ before = true then
        if q.waited then .next s else .next (bump (setSeq s { q with waited := true }) (bauCnt st 5))
      else
        let len := imageBytes (lineBytes (currentLine s (q.image / 64)).1)
        let bytes := linesBytes ((linesIn q.image len).map (currentLine s))
        let s := noteEngineRead s q.image len
        let bad (i : Nat) : Out3 := .next (stopSeq (logEvent s 6 7 st 0x0010 q.key q.handle (fabAddr s q.image) 0x40 i) q .badDescriptor 8 0)
        match parseImage bytes with
        | none => bad 0
        | some im =>
          match programFault im.prog with
          | some i => bad i
          | none =>
            let d := ((handleOf s q.handle).map (·.desc)).getD 0
            let regs := startRegs d
            let s := { s with bau := { s.bau with starts := tblPut s.bau.starts st (s.now :: recentStarts s st) } }
            .next (bump (setSeq s { q with prog := im.prog, regs := regs, ckRegs := regs, stage := .running }) (bauCnt st 0))

/-- Grants of a stack in the last 10 µs, and the cycles they hold (R278). -/
def recentGrants (s : State) (st : Nat) : List (Nat × Nat) := (tblGet s.bau.grants st []).filter (fun g => s.now < g.1 + 10000)
def meterOf (s : State) (st : Nat) : Nat := ((recentGrants s st).map (·.2)).sum

/-- The bank whose turn it is among those of a stack that wait for a grant (R278). -/
def grantTurn (s : State) (st : Nat) : Option Nat :=
  let ws := ((s.bau.seqs.filter (fun q => q.stack == st && q.stage == .running && q.waitFrom.isSome)).map (·.bank)).mergeSort (· ≤ ·)
  rotate ws (tblGet s.bau.rotation st 256)

/-- Whether the abort of a handle has won. -/
def abortedH (s : State) (h : Nat) : Bool := (handleOf s h).any (·.abortWon)

/-- BAU_QUANTUM_GRANT (R278, R279): 256 busy-cycles of the stack's meter, or the BAU waits its turn. -/
def execBauQuantumGrant (st : StackId) (b : BankId) (s : State) : Out3 :=
  let st := st.val
  let b := b.val
  match seqAt s st b .running with
  | none => .next s
  | some q =>
    if warming s || q.granted || bankJob s st b || abortedH s q.handle then .next s
    else if meterOf s st + 256 ≤ fld s (stackBase st + 0x400) 0 21 ∧ (grantTurn s st).all (fun x => x == b) = true then
      let waited := (s.now - q.waitFrom.getD s.now) * 4 / 5
      let s := bumpBy s (bauCnt st 4) waited
      let s := { s with bau := { s.bau with
        grants := tblPut s.bau.grants st ((s.now, 256) :: recentGrants s st), rotation := tblPut s.bau.rotation st b } }
      .next (setSeq s { q with granted := true, grantAt := s.now, waitFrom := none })
    else
      let s := { s with bau := { s.bau with limited := tblPut s.bau.limited st s.now } }
      .next (setSeq s { q with waitFrom := some (q.waitFrom.getD s.now) })

/-- Lines written in a quantum reach the bank (R277). -/
def drainWrites (s : State) (ws : List (Nat × Line × Bool)) : State :=
  ws.foldl (fun s w => engineWriteLine s w.1 w.2.1 w.2.2) s

/-- Take a quantum's busy-cycles from its grant; those it did not use return to the meter (R279). -/
def chargeGrant (s : State) (q : Seq) : State :=
  let c := Nat.min q.used 256
  let gs := recentGrants s q.stack
  let gs := match gs.idxOf? (q.grantAt, 256) with
    | some i => gs.set i (q.grantAt, c)
    | none => gs
  { s with bau := { s.bau with grants := tblPut s.bau.grants q.stack gs } }

/-- The end of a quantum: its writes reach the bank, it is charged, and the BAU is at a preemption point. -/
def quantumEnd (s : State) (q : Seq) : State × Seq :=
  let s := chargeGrant (drainWrites s q.wbuf) q
  let bad := q.bad + (q.wbuf.filter (fun w => w.2.2)).length
  let used := q.used - Nat.min q.used 256
  (s, { q with wbuf := [], bad := bad, used := used, granted := false, quanta := q.quanta + 1 })

/-- Serve the refreshes postponed at a bank (R250). -/
def serveRefresh (s : State) (st b : Nat) : State :=
  let r := stackOf s st
  let n := tblGet r.refDue b 0
  if n = 0 then s else bumpBy (setStack s st { r with refDue := tblErase r.refDue b }) (stackCnt st 6) n

/-- The lines whose switch-die accesses wait for a bank (R247). -/
def bankWaits (s : State) (st b : Nat) : List Nat :=
  (s.coh.reads.map (·.line) ++ (s.coh.trans.filter (fun t => t.2.memWait || t.2.writing.isSome)).map (·.1) ++ s.coh.wbBuf.map (·.line)).filter
    (fun line => bankOfLine s line == some (st, b))

/-- Serve a switch-die access at the preemption point where its bank's sequence stands, if one runs there: up to 32 at each, and any number while
the BAU waits for a grant (R247, R248, R279). -/
def takeWindow (s : State) (line : Nat) : State :=
  match (bankOfLine s line).bind (fun x => seqAt s x.1 x.2 .running) with
  | none => s
  | some q => setSeq s { q with window := if q.waitFrom.isSome then q.window else q.window - 1, seen := q.seen.erase line }

/-- PREEMPTION_POINT (R247, R250, R256, R276, R277, R289): the write buffer drains, a postponed refresh is served, a window opens for up to 32
waiting accesses, a checkpoint is kept, and the BAU waits for its next grant. -/
def execPreemptionPoint (st : StackId) (b : BankId) (s : State) : Out3 :=
  match seqAt s st.val b.val .running with
  | none => .next s
  | some q =>
    if !q.granted then .next s
    else
      let s := if q.faulted then logEvent s 6 1 st.val 0x0003 q.key 0 0 q.quanta 0 else s
      let (s, q) := quantumEnd s q
      let s := serveRefresh s st.val b.val
      let ws := bankWaits s st.val b.val
      let s := bumpBy s (stackCnt st.val 7) (ws.filter (fun l => !q.seen.contains l)).length
      .next (setSeq s { q with window := 32, seen := ws, faulted := false, ckRegs := q.regs, ckPc := q.pc, ckFlags := q.flags, ckCycles := q.cycles, ckUsed := q.used })

/-- Poison every line of a sequence's lock set. -/
def poisonLocks (s : State) (q : Seq) : State :=
  (rangePages q.locks).foldl (fun s p =>
    match backIdOf s p with
    | some id => (List.range 1024).foldl (fun s i => setPoison s id i true) s
    | none => s) s

/-- A sequence whose checkpoint is uncorrectable completes POISONED, with every line of its lock set poisoned (R290). -/
def loseCheckpoint (s : State) (q : Seq) : State :=
  stopSeq (poisonLocks s q) q .poisoned (word (bitsOf q.flags 0 5 + 1024 * (rangePages q.locks).length * 2 ^ 32)) (word q.cycles)

/-- BAU_QUANTUM_FAULT (R289, R290); `good` tells whether the checkpoint that is read for the re-execution is correctable. -/
def execBauQuantumFault (st : StackId) (b : BankId) (good : Bool) (s : State) : Out3 :=
  match seqAt s st.val b.val .running with
  | none => .next s
  | some q =>
    if !q.granted then .next s
    else
      let back := { q with wbuf := [], regs := q.ckRegs, pc := q.ckPc, flags := q.ckFlags, cycles := q.ckCycles, used := q.ckUsed }
      let s := setProgress s q.handle q.ckCycles
      if !q.faulted && !good then .next (loseCheckpoint s back)
      else if !q.faulted then .next (bump (setSeq s { back with faulted := true }) (bauCnt st.val 6))
      else
        let s := replaceBank (setSeq s { back with faulted := false, granted := false }) st.val b.val 6 0x0003 q.quanta 0
        if bankJob s st.val b.val then .next s
        else .next (stopSeq s { back with granted := false } .noSpare 0 (word back.cycles))

/-- Status and results of a sequence that has ended. -/
def seqResult (q : Seq) : Status × Word × Word :=
  match q.mismatch with
  | some o => (.sizeMismatch, word o, word q.cycles)
  | none =>
    if bitsOf q.flags 4 1 = 1 then (.poisoned, word (q.flags + q.bad * 2 ^ 32), word q.cycles) else (.ok, word q.flags, word q.cycles)

/-- BAU_SEQUENCE_END (R282): every hold is released and the record may be written. -/
def execBauSequenceEnd (st : StackId) (b : BankId) (s : State) : Out3 :=
  match seqAt s st.val b.val .committed with
  | none => .next s
  | some q =>
    match handleOf s q.handle with
    | none => .next (nextLaunch (dropSeq s q) st.val b.val)
    | some r =>
      if r.phase ≠ .committed ∨ r.abortWon = true then .next s
      else
        let s := nextLaunch (dropSeq s q) st.val b.val
        .next (fillRecord s q.handle r.status r.r0 r.r1)

/-! ## Instructions (R271 to R273) -/

/-- A line as a sequence reads it: from the write buffer, or the bank (R277). -/
def seqLine (s : State) (q : Seq) (line : Nat) : Line × Bool :=
  match q.wbuf.find? (fun w => w.1 == line) with
  | some w => w.2
  | none => currentLine s line

/-- The first offset of a byte range outside some sets (R288). -/
def outsideAt (rs : List (Nat × Nat)) (a n : Nat) : Option Nat :=
  if n = 0 then none else (pagePoints a n).find? (fun o => !covers rs (o / 65536))

/-- A stream of lines whose first byte is byte `skip` of the first. -/
def lineStream (ls : List (Line × Bool)) (skip n : Nat) : Stream :=
  let data := ls.zipIdx.foldl (fun d x => d + x.1.1.toNat * 2 ^ (512 * x.2)) 0
  { data := bitsOf data (8 * skip) (8 * n), bad := fun i => (ls.getD ((skip + i) / 64) (0, false)).2 }

/-- What an instruction comes to: registers, flags and lines written; or the offset at which it faults, the cycle, and the lines
written before. -/
inductive Ran where
  | ok (s : State) (r : BauRegs) (g : Nat) (ws : List (Nat × Line × Bool)) (mism : Option Nat)
  | fault (off cycle : Nat) (ws : List (Nat × Line × Bool))

/-- The ages of the pages that an instruction streams or stores become 0 (R61). -/
def touchRange (s : State) (a n : Nat) : State := if n = 0 then s else (pagePoints a n).foldl touchAge s

/-- Run with a stream that an instruction reads at pool offset `a`. -/
def withStream (s : State) (q : Seq) (a n at_ : Nat) (f : Stream → Ran) : Ran :=
  match outsideAt (q.reads ++ q.locks) a n with
  | some o => .fault o (at_ + (o - a) / 64) []
  | none =>
    match f (lineStream ((linesIn a n).map (seqLine s q)) (a % 64) n) with
    | .ok s r g ws m => .ok (touchRange s a n) r g ws m
    | x => x

def aReg (r : BauRegs) (i : Nat) : Nat := (r.a.getD i 0).toNat
def setA (r : BauRegs) (i v : Nat) : BauRegs := { r with a := r.a.set i (BitVec.ofNat 64 v) }
def incA (w : Word) (r : BauRegs) (n : Nat) : BauRegs := if iInc w then setA r (iA w) (aReg r (iA w) + n) else r

/-- A register and flag pair as a result. -/
def ranRF (s : State) (x : RF) : Ran := .ok s x.1 x.2 [] none

/-- LDS: 32 columns of `l` lines. -/
def doLDS (r : BauRegs) (x : Stream) (l f : Nat) : BauRegs :=
  let cells := (List.range (32 * l)).map (fun i => (i / l * 64 + i % l, i))
  let sb := cells.foldl (fun t e => tblPut t e.1 (BitVec.ofNat 512 (bitsOf x.data (512 * e.2) 512))) r.sb
  let fresh := cells.map (·.1)
  let bad := (cells.filter (fun e => x.bad (64 * e.2) || x.bad (64 * e.2 + 63))).map (·.1)
  { r with sb := sb, sbBad := r.sbBad.filter (fun k => !fresh.contains k) ++ bad, sbFmt := f }

/-- Store `n` bytes at `a`: the lines written, up to the first outside the lock set. `bad` tells which bytes are poisoned. -/
def storeBytes (s : State) (q : Seq) (r : BauRegs) (g a n data : Nat) (bad : Nat → Bool) : Ran :=
  let lines := (linesIn a n).map (fun line =>
    let old := seqLine s q line
    let base := line * 64
    let mine (i : Nat) : Bool := decide (a ≤ base + i ∧ base + i < a + n)
    let d := bytesLine ((List.range 64).map (fun i => if mine i then BitVec.ofNat 8 (bitsOf data (8 * (base + i - a)) 8) else lineByte old.1 i))
    let p := (List.range 64).any (fun i => mine i && bad (base + i - a))
    (line, d, p || (old.2 && !(List.range 64).all mine)))
  match outsideAt q.locks a n with
  | some o => .fault o ((o - a) / 64) (lines.filter (fun x => decide (x.1 * 64 + 64 ≤ o)))
  | none => .ok (touchRange s a n) r g lines none

/-- The placement in which an offset lies. -/
def placementAt (s : State) (off : Nat) : Option (Nat × Placement) :=
  s.bau.places.find? (fun e => e.2.base ≤ off && off < e.2.base + e.2.len)

/-- MV with DEC (R273, R285): whole blocks of the CX-W object at `a` are decoded; a block that fails is delivered poisoned and flagged. -/
def mvDec (s : State) (q : Seq) (w : Word) : Ran :=
  let r := q.regs
  let a := aReg r (iA w)
  let raw := aReg r (iB w)
  let n := elemBytes w (mvN w * mvK w)
  let sets := q.reads ++ q.locks
  match outsideAt sets a 64 with
  | some o => .fault o 0 []
  | none =>
    let bytes (x len : Nat) : List Byte × Bool :=
      let ls := (linesIn x len).map (seqLine s q)
      (((linesBytes ls).drop (x % 64)).take len, anyBad ls)
    let o := parseObj (bytes a 64).1
    match outsideAt sets a (objHead o.n) with
    | some x => .fault x 0 []
    | none =>
      let (hb, head) := bytes a (objHead o.n)
      let hs := objBlocks hb o.n
      let i := raw / 4096
      let k := (raw % 4096 + n + 4095) / 4096
      match outsideAt sets (a + payloadAt o.n hs i) (payloadAt o.n hs (i + k) - payloadAt o.n hs i) with
      | some x => .fault x 0 []
      | none =>
        let known := ((placementAt s a).map (·.2.failed)).getD []
        let d := decodeBlocks 0 (findTab s q.key) hs (fun b len => bytes (a + payloadAt o.n hs b) len) head known
          (!objOk hb 0 o.raw o.stored || a % 256 != 0) o.raw i k
        let x := lineStream d.lines (raw % 4096) n
        let (r, g) := doMV r s.draws x (iFmt w) (mvN w) (mvRow w) (mvK w)
        let s := bumpBy (bumpBy s (bauCnt q.stack 7) d.decoded) (cmpCnt 6) d.missing
        let fresh := d.failed.filter (fun f => !known.contains f)
        let s := fresh.foldl (fun s b => logEvent (bump s (cmpCnt 5)) 6 4 q.stack 0x0006 q.key q.handle (fabAddr s a) 0 b) s
        let s := match placementAt s a with
          | some (j, p) => if fresh.isEmpty then s else setPlacement s j { p with failed := p.failed ++ fresh }
          | none => s
        .ok (touchRange (touchRange s a (objHead o.n)) (a + payloadAt o.n hs i) (payloadAt o.n hs (i + k) - payloadAt o.n hs i)) (incA w r n) g [] (fresh.head?.map (· * 4096))

/-- One tile of ATTN (R272): `t` tokens with keys at `ka` and values at `va`. -/
def attnTile (s : State) (q : Seq) (w : Word) (ka va t cycle : Nat) (acc : RF) : Ran :=
  let n := elemBytes w (t * atD w)
  withStream s q ka n cycle (fun kx =>
    withStream s q va n cycle (fun vx =>
      let (r, g1) := doScore acc.1 kx (iFmt w) t (atD w)
      let (r, g2) := doSMX r s.draws 128 (atRow w) (atD w)
      let (r, g3) := doMVT r (s.draws + 512 * 32) vx (iFmt w) t (atD w) (atRow w)
      .ok s r (acc.2 ||| g1 ||| g2 ||| g3) [] none))

/-- The tiles of ATTN, `left` tokens remaining; each draws its own free values. -/
def attnTiles (s : State) (q : Seq) (w : Word) : Nat → Nat → Nat → Nat → Nat → RF → Ran
  | 0, _, _, _, _, acc => ranRF s acc
  | fuel + 1, ka, va, left, cycle, acc =>
    if left = 0 then ranRF s acc
    else
      let t := Nat.min 128 left
      let n := elemBytes w (t * atD w)
      match attnTile s q w ka va t cycle acc with
      | .ok _ r g _ _ => attnTiles { s with draws := s.draws + 2 * 512 * 32 } q w fuel (ka + n) (va + n) (left - t) (cycle + 2 * 128 * atD w * fmtBits (iFmt w) / 512) (r, g)
      | x => x

/-- Run one instruction. -/
def insRun (s : State) (q : Seq) (w : Word) : Ran :=
  let r := q.regs
  let a := aReg r (iA w)
  let plain (r : BauRegs) : Ran := .ok s r 0 [] none
  match iOp w with
  | 0x01 => plain (setA r (iA w) (sBits 64 (sInt 40 (iAt w 24 40))))
  | 0x02 => plain (setA r (iA w) (sBits 64 ((aReg r (iB w) : Int) + sInt 40 (iAt w 24 40))))
  | 0x03 => plain { r with c := r.c.set (iAt w 8 2) (BitVec.ofNat 32 (iAt w 24 32)) }
  | 0x04 => plain { r with c := r.c.set (iAt w 8 2) (r.c.getD (iAt w 8 2) 0 - 1) }
  | 0x05 => plain { r with f := r.f.set (iAt w 8 2) (BitVec.ofNat 32 (iAt w 24 32)) }
  | 0x10 =>
    let n := 2048 * iAt w 24 7
    withStream s q a n 0 (fun x => plain (incA w (doLDS r x (iAt w 24 7) (iFmt w)) n))
  | 0x11 =>
    if iDec w then mvDec s q w
    else
      let n := elemBytes w (mvN w * mvK w)
      withStream s q a n 0 (fun x =>
        let (r, g) := doMV r s.draws x (iFmt w) (mvN w) (mvRow w) (mvK w)
        .ok s (incA w r n) g [] none)
  | 0x12 =>
    let n := elemBytes w (scT w * scD w)
    withStream s q a n 0 (fun x =>
      let (r, g) := doScore r x (iFmt w) (scT w) (scD w)
      .ok s (incA w r n) g [] none)
  | 0x13 => ranRF s (doSMX r s.draws (scT w) (smxRow w) (smxN w))
  | 0x14 =>
    let n := elemBytes w (scT w * scD w)
    withStream s q a n 0 (fun x =>
      let (r, g) := doMVT r s.draws x (iFmt w) (scT w) (scD w) (mvtRow w)
      .ok s (incA w r n) g [] none)
  | 0x15 =>
    let tokens := aReg r (iC w)
    let n := elemBytes w (tokens * atD w)
    match attnTiles s q w ((tokens + 127) / 128) a (aReg r (iB w)) tokens 0 (r, 0) with
    | .ok s z g _ _ => .ok (touchRange (touchRange s a n) (aReg r (iB w)) n) (setA (setA z (iA w) (a + n)) (iB w) (aReg r (iB w) + n)) g [] none
    | x => x
  | 0x16 => plain (doZACC r (rowOfI w) (rowsOfI w) (iAt w 43 1 == 1) (iAt w 44 1 == 1))
  | 0x17 => ranRF s (doMULF r (rowOfI w) (rowsOfI w) (iAt w 12 2))
  | 0x18 => withStream s q a (4 * rowsOfI w) ((rowsOfI w + 7) / 8) (fun x => ranRF s (doMULV r s.draws x (rowOfI w) (rowsOfI w)))
  | 0x19 => ranRF s (doNORM r s.draws (rowOfI w) (rowsOfI w))
  | 0x1A =>
    let n := elemBytes w (32 * rowsOfI w)
    let (data, ps, g) := doST r (iFmt w) (rowOfI w) (rowsOfI w) (iAt w 44 1 == 1)
    let wd := fmtBits (iFmt w)
    storeBytes s q (incA w r n) g a n data (fun i => (List.range (Nat.max 1 (8 / wd))).any (fun j => ps.getD (8 * i / wd + j) false))
  | 0x1B =>
    let data := (cols.map (fun c => (entryAt r.m c).toNat * 2 ^ (32 * c) + (entryAt r.l c).toNat * 2 ^ (1024 + 32 * c))).sum
    storeBytes s q r 0 a 256 data (fun i => if i < 128 then r.m.p.getLsbD (i / 4) else r.l.p.getLsbD (i / 4 - 32))
  | _ => plain r

/-- Where execution goes on: LOOP goes back while its counter is not 0. -/
def nextPc (q : Seq) (w : Word) (r : BauRegs) : Nat :=
  if iOp w = 0x04 ∧ r.c.getD (iAt w 8 2) 0 ≠ 0 then iAt w 24 9 else q.pc + 1

/-- Lines put into the write buffer. -/
def bufferLines (b ws : List (Nat × Line × Bool)) : List (Nat × Line × Bool) :=
  ws.foldl (fun b w => b.filter (fun x => x.1 != w.1) ++ [w]) b

/-- The lines of an instruction that belong to quanta before the one in which it faults: line `i` is stored in its cycle `i`. -/
def keptWrites (q : Seq) (cycle : Nat) (ws : List (Nat × Line × Bool)) : List (Nat × Line × Bool) :=
  if (q.used + cycle) / 256 = 0 then []
  else bufferLines q.wbuf ((ws.zipIdx.filter (fun e => (q.used + e.2) / 256 < (q.used + cycle) / 256)).map (·.1))

/-- The instruction that a bank's BAU executes next, where a quantum is granted and not used up. -/
def nextIns (s : State) (st b op : Nat) : Option (Seq × Word) :=
  match seqAt s st b .running with
  | none => none
  | some q =>
    match q.prog[q.pc]? with
    | none => none
    | some w => if q.granted && decide (q.used < 256) && iOp w == op then some (q, w) else none

/-- Execute an instruction other than END. -/
def insRow (op : Nat) (st : StackId) (b : BankId) (s : State) : State :=
  match nextIns s st.val b.val op with
  | none => s
  | some (q, w) =>
    let cost := insCost w (aReg q.regs (iC w))
    match insRun s q w with
    | .ok s r g ws mism =>
      let q := { q with regs := r, flags := q.flags ||| g, wbuf := bufferLines q.wbuf ws, pc := nextPc q w r, cycles := q.cycles + cost, used := q.used + cost, mismatch := match q.mismatch with
          | some m => some m
          | none => mism }
      let s := if op = 0x11 ∨ op = 0x13 ∨ op = 0x14 ∨ op = 0x15 ∨ op = 0x18 ∨ op = 0x19 then { s with draws := s.draws + 512 * 32 } else s
      bumpBy (setProgress (setSeq s q) q.handle q.cycles) (bauCnt st.val 3) cost
    | .fault off cycle ws =>
      let s := bumpBy (drainWrites s (keptWrites q cycle ws)) (bauCnt st.val 3) cycle
      stopSeq (chargeGrant s { q with used := q.used + cycle }) q .notOwner (word off) (word (q.cycles + cycle))

/-- LI, ADDI, SETC, LOOP, SETF (R271). -/
def execBauLi (st : StackId) (b : BankId) (s : State) : Out3 := .next (insRow 0x01 st b s)
def execBauAddi (st : StackId) (b : BankId) (s : State) : Out3 := .next (insRow 0x02 st b s)
def execBauSetc (st : StackId) (b : BankId) (s : State) : Out3 := .next (insRow 0x03 st b s)
def execBauLoop (st : StackId) (b : BankId) (s : State) : Out3 := .next (insRow 0x04 st b s)
def execBauSetf (st : StackId) (b : BankId) (s : State) : Out3 := .next (insRow 0x05 st b s)

/-- END (R282): the write buffer drains and the completion goes to the latch. -/
def execBauEnd (st : StackId) (b : BankId) (s : State) : Out3 :=
  match nextIns s st.val b.val 0x06 with
  | none => .next s
  | some (q, _) =>
    let (s, q) := quantumEnd (bump s (bauCnt st.val 3)) { q with cycles := q.cycles + 1, used := q.used + 1 }
    let (x, r0, r1) := seqResult q
    .next (engineDone (serveRefresh (setSeq s { q with stage := .committed }) st.val b.val) q.handle x r0 r1)

/-- LDS, MV, SCORE, SMX, MVT, ATTN, ZACC, MULF, MULV, NORM, ST, STS (R271 to R273). -/
def execBauLds (st : StackId) (b : BankId) (s : State) : Out3 := .next (insRow 0x10 st b s)
def execBauMv (st : StackId) (b : BankId) (s : State) : Out3 := .next (insRow 0x11 st b s)
def execBauScore (st : StackId) (b : BankId) (s : State) : Out3 := .next (insRow 0x12 st b s)
def execBauSmx (st : StackId) (b : BankId) (s : State) : Out3 := .next (insRow 0x13 st b s)
def execBauMvt (st : StackId) (b : BankId) (s : State) : Out3 := .next (insRow 0x14 st b s)
def execBauAttn (st : StackId) (b : BankId) (s : State) : Out3 := .next (insRow 0x15 st b s)
def execBauZacc (st : StackId) (b : BankId) (s : State) : Out3 := .next (insRow 0x16 st b s)
def execBauMulf (st : StackId) (b : BankId) (s : State) : Out3 := .next (insRow 0x17 st b s)
def execBauMulv (st : StackId) (b : BankId) (s : State) : Out3 := .next (insRow 0x18 st b s)
def execBauNorm (st : StackId) (b : BankId) (s : State) : Out3 := .next (insRow 0x19 st b s)
def execBauSt (st : StackId) (b : BankId) (s : State) : Out3 := .next (insRow 0x1A st b s)
def execBauSts (st : StackId) (b : BankId) (s : State) : Out3 := .next (insRow 0x1B st b s)

end Sys2Proof.Machine
end

