-- ==== Sys2Proof/Machine/Paths.lean ====
section
/-! DEFINITION. Transit hops, path tables and their markers, and tethers (14, R342 to R360). -/

namespace Sys2Proof.Machine

/-! ## Transit (R342 to R347) -/

/-- What is wrong with a hop (R343): `some true` climbs after descent, `some false` is invalid otherwise. -/
def hopFault (s : State) (b : Word) : Option Bool :=
  let e := bPort b (bNext b)
  if !bridleShape b || decide (bCount b < bNext b) then some false
  else if bNext b = bCount b then none
  else if bondOdd s e || isTray s e || portRole s e == .off then some false
  else if isTrunk s e && !flag s (portBase e + 0x100) 16 && bDesc b then some true
  else none

/-- The bridle after a hop: NEXT one higher, DESC set where the port is a DOWN trunk or a host port (R342). -/
def hopOn (s : State) (b : Word) : Word :=
  let e := bPort b (bNext b)
  let desc := bDesc b || isHostPort s e || flag s (portBase e + 0x100) 16
  BitVec.ofNat 64 (withBits (withBits b.toNat 56 3 (bNext b + 1)) 62 1 (if desc then 1 else 0))

/-- Answer a packet that is discarded where it is a request of TC6 or TC5 (R343, R347). -/
def answerDrop (s : State) (k : Packet) (st : Status) : State :=
  match k.body with
  | .req r _ => if k.tc = 6 ∨ k.tc = 5 then refuseReq s r st else s
  | .cmp _ => s
  | .msg _ _ => s

/-- Discard a packet with an invalid hop, with its count, record and answer (R343). -/
def hopDrop (s : State) (p : Nat) (k : Packet) (climb : Bool) : State :=
  let s := bump s (portRouteCnt p (if climb then 3 else 2))
  let s := logEvent s 1 7 p 0x11 k.key 0 0 k.bridle.toNat p
  answerDrop s k .fenced

/-- Bytes that a packet takes on its port. -/
def packetBytes (k : Packet) : Nat :=
  match k.body with
  | .req r _ => reqBytes r.kind
  | .cmp m => if m.data.isSome then 80 else 16
  | .msg w f => if w == "PathMarker" then 0 else Nat.max 16 (8 * f.length)

/-- Put a packet that is no request into the egress queue of a port; a path marker follows the earlier packets of its class (R353). -/
def queueOther (s : State) (k : Packet) (e : Nat) (body : Body) (marker data : Bool) : State :=
  pushEgress s { num := 0, port := e, tc := k.tc.toNat, tq := none, len := packetBytes k, colour := k.colour, marker := marker, body := body } k.key data

/-- Put a completion into the egress queue of a port. One for the host of the port enters the egress port island of its source there: it retires
the request, and is discarded where that was completed before (R118, R137). -/
def queueCmp (s : State) (k : Packet) (e : Nat) (m : CmpMsg) : State :=
  if ownHost s e m.dst then
    let (s, goes) := retireAway s e m
    if goes then queueOther s k e (.cmp m) false m.data.isSome else s
  else queueOther s k e (.cmp m) false m.data.isSome

/-- Put a packet into the egress queue of its next port: keys are checked at host ports (R346); nothing enters a fenced port, and no lossy
packet a port whose link is down (R344). -/
def hopOut (s : State) (k : Packet) (e : Nat) (b : Word) : State :=
  let cells := (packetBytes k + 255) / 256
  if isHostPort s e && k.tc != 7 && !keyMatch s e k.key then bump s (portRouteCnt e 1)
  else if localFenced s e then bumpBy s (portRouteCnt e 4) cells
  else if !portUp s e && decide (k.tc.toNat < 4) then bumpBy s (portRouteCnt e 4) cells
  else match k.body with
    | .req r _ => queueReq s e b r
    | .cmp m => queueCmp s k e m
    | .msg w f => queueOther s k e (.msg w (b.toNat :: f)) (w == "PathMarker") false

/-- An ECHO in a completion for a Trestle unit is a notice to its cluster's island, for the home of the request (R391). -/
def unitNotice (s : State) (m : CmpMsg) : State :=
  let u := m.dst.toNat - fld s trestleBase 0 16
  match (s.trs.units.flatMap (fun e => e.2.gangs.flatMap (fun g => g.2.reqs))).find? (fun q => q.src == u && q.tag == m.tag.toNat) with
  | some q => notice s (clusterIsland s m.dst) q.home true
  | none => s

/-- Deliver a packet to the switch's own agents (R342): a request goes to the checks of R65, an RSEQ to its home (R157); what other messages do
at their agent is the effect of the commands that bring them. -/
def hopDeliver (s : State) (p : PortId) (k : Packet) : State :=
  match k.body with
  | .req r _ => pastKey { s with ord := { s.ord with arrivals := s.ord.arrivals + 1 } } { r with port := p, key := k.key, checked := k.ckey, tc := k.tc, num := s.ord.arrivals, ro := false, ext := none }
  | .cmp m => if m.echo && isUnitEp s m.dst then unitNotice s m else s
  | .msg w f =>
    match f with
    | [src, _, q] => if w == "AtomRetire" then advanceRseq s (BitVec.ofNat 16 src) (BitVec.ofNat 16 q) else s
    | _ => s

/-- TRANSIT_HOP (R342 to R347): key check, hop read, checked and advanced. A packet that arrives with a bridle at a host port has
an invalid hop where NEXT equals COUNT. -/
def execTransitHop (p : PortId) (k : Packet) (s : State) : Out3 :=
  let s := creditBack s p.val k.tc.toNat
  if s.sys.st ≠ .serving then .next s
  else if isHostPort s p.val then .next (if bNext k.bridle = bCount k.bridle then hopDrop s p.val k false else s)
  else if !isTrunk s p.val then .next s
  else if !ingressKey s p.val k.key || ckeyBad k.key k.ckey then .next (answerDrop (bump s (portRouteCnt p.val 0)) k .keyReject)
  else if k.badSlots then .next (answerDrop s k .badDescriptor)
  else match hopFault s k.bridle with
    | some climb => .next (hopDrop s p.val k climb)
    | none =>
      if bNext k.bridle = bCount k.bridle then .next (hopDeliver s p k)
      else .next (hopOut s k (bPort k.bridle (bNext k.bridle)) (hopOn s k.bridle))

/-! ## Markers (R353, R359) -/

/-- Send an island's marker on an old bridle, behind everything of its class that still waits for the bridle's first port (R353). -/
def sendMarker (s : State) (b : Word) (tc own isl : Nat) : State :=
  let s := pushEgress s { num := 0, port := bPort b 0, tc := tc, tq := none, len := 0, marker := true, body := .msg "PathMarker" [b.toNat, tc, switchId s] } 0xFFFF false
  bump { s with route := { s.route with markers := s.route.markers ++ [⟨b, tc, own, isl⟩] } } (routeCnt 1)

/-- Let go of what waited on markers that are no longer out, in order, on the new bridles (R353). -/
def releaseMoved (s : State) : State :=
  let out (m : Marker) : Bool := s.route.markers.contains m
  let reqs := s.route.moved.filter (fun x => !out x.1)
  let rest := s.route.heldOut.filter (fun x => !out x.1)
  let s := { s with route := { s.route with moved := s.route.moved.filter (fun x => out x.1), heldOut := s.route.heldOut.filter (fun x => out x.1) } }
  let s := reqs.foldl (fun s x => forwardReq s x.2) s
  rest.foldl (fun s x => emit s x.2) s

/-- The islands that inject packets (R349): the host ports, the home partitions, the device's agents and the Trestle units. -/
def injectors (s : State) : List Nat := (List.range 128).filter (isHostPort s) ++ (List.range 18).map (· + 128)

/-- The lossless classes that an island sends in. -/
def islandTcs (isl : Nat) : List Nat := if isl < 128 then [7, 6, 5, 4] else if isl < 144 then [7] else [6, 5, 4]

/-- The flows of an island toward a switch: source field, partition and OTAG of R349. -/
def islandFlows (s : State) (isl dsw : Nat) : List (Nat × Nat × Nat) :=
  let streams (src parts tags : Nat) : List (Nat × Nat × Nat) := (List.range parts).flatMap (fun p => (List.range tags).map (fun o => (src, p, o)))
  if isl < 128 then streams (portEp s isl).toNat 16 16
  else if isl < 144 then (s.route.eps.filter (fun e => e.2.switch == dsw)).map (fun e => (e.1, isl - 128, 0))
  else if isl = 144 then streams (devEp s).toNat 16 1
  else (List.range 64).flatMap (fun u => streams (fld s trestleBase 0 16 + u) 16 1)

/-- The old bridles that moved streams of an island and class leave (R352, R353). -/
def movedBridles (s : State) (old : Tbl PathEntry) (isl tc : Nat) : List Word :=
  (old.flatMap (fun e => (islandFlows s isl e.1).filterMap (fun f =>
    let was := tableBridle (hashSeed s) old f.1 e.1 f.2.1 tc f.2.2
    if was = tableBridle (hashSeed s) s.route.paths f.1 e.1 f.2.1 tc f.2.2 then none else was))).eraseDups

/-! ## PATH_UPDATE (R351, R352, R354) -/

/-- Entries of a path image. -/
def pathKind (b : List Byte) (i : Nat) : Nat := imgNat b (64 + 80 * i) 1
def pathDest (b : List Byte) (i : Nat) : Nat := imgNat b (64 + 80 * i + 2) 2
def pathEp (b : List Byte) (i : Nat) : Nat := imgNat b (64 + 80 * i + 4) 2
def pathMask (b : List Byte) (i : Nat) : Nat := imgNat b (64 + 80 * i + 7) 1
def pathBridle (b : List Byte) (i j : Nat) : Word := BitVec.ofNat 64 (imgNat b (64 + 80 * i + 8 + 8 * j) 8)

/-- Whether an entry passes R351. Fields that its kind does not use count as reserved. -/
def pathEntryOk (s : State) (b : List Byte) (i : Nat) : Bool :=
  let a := 64 + 80 * i
  let k := pathKind b i
  imgNat b (a + 1) 1 == 0 && imgNat b (a + 6) 1 == 0 && imgNat b (a + 72) 8 == 0 &&
  (match k with
    | 1 => imgNat b (a + 4) 2 == 0 && decide (pathDest b i < 0xFFF) && pathDest b i != switchId s &&
      (List.range 8).all (fun j =>
        let w := pathBridle b i j
        if (pathMask b i).testBit j then bridleWf w && isTrunk s (bPort w 0) else w == 0)
    | 2 => imgNat b (a + 7) 65 == 0 && decide (pathDest b i < 4096) && pathDest b i != switchId s &&
      epWhere s (BitVec.ofNat 16 (pathEp b i)) != .here
    | 3 => imgNat b (a + 7) 65 == 0 && pathDest b i == 0
    | _ => false)

/-- Apply one entry. -/
def applyPath (b : List Byte) (r : RouteSt) (i : Nat) : RouteSt :=
  match pathKind b i with
  | 1 => { r with paths := tblPut r.paths (pathDest b i) { mask := BitVec.ofNat 8 (pathMask b i), bridles := (List.range 8).map (pathBridle b i) } }
  | 2 => { r with eps := tblPut r.eps (pathEp b i) { switch := pathDest b i } }
  | _ => { r with eps := tblErase r.eps (pathEp b i) }

/-- Complete the live PATH_UPDATE once its markers are gone. -/
def pathDone (s : State) : State :=
  match s.route.pathOp with
  | none => s
  | some h =>
    if s.route.markers.any (fun m => m.own == 0) then s
    else
      let n := s.route.pathApplied
      let g := s.route.gen
      engineDone { s with route := { s.route with pathOp := none, oldPaths := [] } } h .ok (BitVec.ofNat 64 g) (BitVec.ofNat 64 n)

/-- Publish a checked image: generation G + 1 is adopted, and every island sends markers for its moved streams of each lossless class. Whether a stream
has ever sent is not looked at (DESIGN CHOICE, log entry 54). -/
def publishPaths (s : State) (h : Nat) (b : List Byte) : State :=
  let n := imgNat b 0 4
  let old := s.route.paths
  let r := (List.range n).foldl (applyPath b) s.route
  let s := { s with route := { r with gen := (r.gen + 1) % 2 ^ 32, oldPaths := old, pathOp := some h, pathApplied := n } }
  let s := bump (markStarted s h) (routeCnt 0)
  pathDone ((injectors s).foldl (fun s isl => (islandTcs isl).foldl (fun s tc =>
    (movedBridles s old isl tc).foldl (fun s w => sendMarker s w tc 0 isl) s) s) s)

/-- Whether another PATH_UPDATE is live here, one whose image is being read included (R354). -/
def pathBusy (s : State) (h : Nat) : Bool :=
  s.route.pathOp.isSome || s.route.pathLoad.any (fun k => k != h && (handleOf s k).any (fun y => decide (y.phase = .live)))

/-- PATH_UPDATE (R351 to R354). It is live here from the read of its image on. -/
def execPathUpdate (h : HRef) (s : State) : Out3 :=
  let h := h.toNat
  match startable s h 0x52 with
  | none => .next s
  | some r =>
    let d := r.desc
    let len := d32 d 16
    if d64 d 8 % 64 ≠ 0 then .next (badDesc s h 8)
    else if len < 144 ∨ 64 + 80 * 8192 < len ∨ (len - 64) % 80 ≠ 0 then .next (badDesc s h 16)
    else if pathBusy s h then .next (commit s h .tableBusy 0 0)
    else if r.imagePoison then .next (commit s h .poisoned 0 0)
    else match r.image with
      | none => .next { s with route := { s.route with pathLoad := some h } }
      | some b =>
        if crc32c b ≠ d32 d 24 then .next (badDesc s h 24)
        else if d32 d 20 ≠ 0 ∧ d32 d 20 ≠ s.route.gen then .next (commit s h .staleEpoch (BitVec.ofNat 64 s.route.gen) 0)
        else if b.length ≠ len ∨ imgNat b 0 4 ≠ (len - 64) / 80 ∨ imgNat b 4 60 ≠ 0 then
          .next (badDesc (logEvent s 0xE 7 0 0x10 r.key h 0 0x52 0) h 16)
        else match (List.range (imgNat b 0 4)).find? (fun i => !pathEntryOk s b i) with
          | some i => .next (badDesc (logEvent s 0xE 7 0 0x10 r.key h 0 0x52 i) h 16)
          | none => .next (publishPaths s h b)

/-- PATHMARK (R353, R377): a marker is delivered at a host port, or taken by this switch's partitions, and is acknowledged in TC4. -/
def execPathmark (p : PortId) (bridle : Word) (tc : Tc) (src : BitVec 12) (s : State) : Out3 :=
  if isHostPort s p.val || isTrunk s p.val then
    .next (sendSwitch (bump s (portRouteCnt p.val 5)) src.toNat "MarkAck" [bridle.toNat, tc.toNat])
  else .next s

/-! ## Tethers (R355 to R360) -/

def tetherAt (s : State) (id : Nat) : Option Tether := s.route.tethers.find? (fun t => t.id == id)
def putTether (s : State) (t : Tether) : State :=
  { s with route := { s.route with tethers := s.route.tethers.map (fun x => if x.id = t.id then t else x) } }


/-- Whether a port takes `k` more units (R357). -/
def unitsFit (s : State) (t : Tbl Nat) (p k : Nat) : Bool :=
  decide (tblGet t p 0 + k ≤ fld s (portBase p + 0x400) 0 8 * portUnits s p / 100)

/-- Reserve or release the units of an entry at its ports. -/
def reserveUnits (s : State) (t : Tether) (add : Bool) : State :=
  let upd (x : Tbl Nat) (p : Nat) : Tbl Nat := if p = 255 then x else tblMod x p 0 (fun n => if add then n + t.units else n - t.units)
  { s with route := { s.route with rxUnits := upd s.route.rxUnits t.inPort, txUnits := upd s.route.txUnits t.outPort } }

/-- What a switch finds of its entry (R356, R357): roles, fences, keys, room and admission. -/
def tetherCheck (s : State) (t : Tether) (first : Bool) : TetherReply :=
  let inOk := if first then isHostPort s t.inPort && portEp s t.inPort == t.src else isTrunk s t.inPort
  let outOk := if t.outPort = 255 then t.home && t.dsw == switchId s
    else if t.dsw == switchId s then isHostPort s t.outPort && portEp s t.outPort == t.dst && !t.home
    else isTrunk s t.outPort
  let ports := t.inPort :: (if t.outPort = 255 then [] else [t.outPort])
  if !inOk || !outOk then .noRole
  else if ports.any (localFenced s) then .fenced
  else if !ports.all (fun p => keyMatch s p t.owner) then .noKey
  else if decide (8192 ≤ s.route.tethers.length) || !unitsFit s s.route.rxUnits t.inPort t.units ||
      (t.outPort != 255 && !unitsFit s s.route.txUnits t.outPort t.units) then .noRoom
  else .accepted

/-- Install an entry. -/
def addTether (s : State) (t : Tether) : State :=
  reserveUnits { s with route := { s.route with tethers := s.route.tethers ++ [t] } } t true

/-- Remove an entry and release its units; those of a BROKEN one are released already (R359). -/
def dropTether (s : State) (id : Nat) : State :=
  match tetherAt s id with
  | none => s
  | some t =>
    let s := if t.st = .broken then s else reserveUnits s t false
    { s with route := { s.route with tethers := s.route.tethers.filter (fun x => x.id != id) } }

/-- The other switches of a master's route. -/
def routeOthers (s : State) (t : Tether) : List Nat := (t.route.map (·.1)).filter (· != switchId s)

/-- The streams of a tether's flow: partition and OTAG, or one flow to an endpoint. -/
def tetherFlows (t : Tether) : List (Nat × Nat) :=
  if t.home then (List.range 16).flatMap (fun p => (List.range 16).map (fun o => (p, o))) else [(0, 0)]

/-- Finish a switch-over whose markers are gone: an opening becomes ACTIVE, a closing removes every entry (R359). -/
def tetherStep (s : State) (id : Nat) : State :=
  match tetherAt s id with
  | none => s
  | some t =>
    if !t.moving || s.route.markers.any (fun m => m.own == id + 1) then s
    else if t.st = .opening then
      let s := bump (putTether s { t with moving := false, st := .active }) (routeCnt 4)
      match t.handle with
      | some h => engineDone s h .ok (BitVec.ofNat 64 id) (BitVec.ofNat 64 t.units)
      | none => s
    else
      let others := routeOthers s t
      let s := putTether s { t with moving := false, accepted := [] }
      let s := others.foldl (fun s sw => sendSwitch s sw "TetherRemove" [id]) s
      if others.isEmpty then
        let s := bump (dropTether s id) (routeCnt 6)
        match t.handle with
        | some h => engineDone s h .ok 0 0
        | none => s
      else s

/-- Begin the switch-over of a tether (R359): markers on the old bridles of its lossless streams. -/
def switchTether (s : State) (t : Tether) : State :=
  let table := (tetherFlows t).filterMap (fun f => tableBridle (hashSeed s) s.route.paths t.src.toNat t.dsw f.1 t.tc f.2)
  let olds := if t.tc < 4 then [] else if t.st = .closing then [tetherBridle t] else table.eraseDups
  let s := putTether s { t with moving := true }
  tetherStep (olds.foldl (fun s b => sendMarker s b t.tc (t.id + 1) t.inPort) s) t.id

/-- Give up an opening: nothing is kept (R357). -/
def refuseTether (s : State) (t : Tether) (st : Status) (idx : Nat) : State :=
  let s := (routeOthers s t).foldl (fun s sw => sendSwitch s sw "TetherRemove" [t.id]) (dropTether s t.id)
  match t.handle with
  | some h => engineDone s h st 0 (BitVec.ofNat 64 idx)
  | none => s

/-- Whether another tether of the same source, class and destination is ACTIVE, or on its way there past the point where it can be refused (R358). -/
def tetherMatched (s : State) (t : Tether) : Bool :=
  s.route.tethers.any (fun x => x.master && x.id != t.id && (x.st == .active || (x.st == .opening && x.moving)) &&
    x.src == t.src && x.tc == t.tc && x.home == t.home && x.dst == t.dst && (!t.home || x.dsw == t.dsw))

/-- Every switch has accepted: the switch-over begins, unless a matching tether has come first meanwhile (DESIGN CHOICE, log entry 54). -/
def startTether (s : State) (t : Tether) : State := if tetherMatched s t then refuseTether s t .busy 0xFF else switchTether s t

/-- Fields of a plan image: its tether as the source switch would hold it. -/
def planTether (s : State) (b : List Byte) (id h : Nat) : Tether :=
  let n := imgNat b 0 1
  let route := (List.range n).map (fun i => (imgNat b (64 + 16 * i) 2, imgNat b (64 + 16 * i + 2) 1, imgNat b (64 + 16 * i + 3) 1))
  let first := route.headD (0, 0, 0)
  { id := id, tc := imgNat b 1 1, units := imgNat b 2 1, home := imgNat b 3 1 == 1, owner := BitVec.ofNat 16 (imgNat b 4 2),
    src := BitVec.ofNat 16 (imgNat b 6 2), dst := BitVec.ofNat 16 (imgNat b 8 2), dsw := imgNat b 10 2, bridle := BitVec.ofNat 64 (imgNat b 16 8),
    inPort := first.2.1, outPort := first.2.2, master := true, route := route, accepted := [switchId s], handle := some h }

/-- R356, but for what each switch checks of its own entry. -/
def planOk (s : State) (b : List Byte) (len : Nat) : Bool :=
  let n := imgNat b 0 1
  let t := planTether s b 0 0
  let outs := t.route.map (·.2.2)
  let hops := (List.range (bCount t.bridle)).map (bPort t.bridle)
  decide (1 ≤ n ∧ n ≤ 7 ∧ len = 64 + 16 * n ∧ b.length = len) && (t.tc == 5 || decide (t.tc < 4)) && decide (1 ≤ t.units ∧ t.units ≤ 128) &&
  decide (imgNat b 3 1 < 2) && imgNat b 12 4 == 0 && imgNat b 24 40 == 0 && decide (t.dsw < 4096) && (!t.home || t.dst == 0) &&
  (List.range n).all (fun i => imgNat b (64 + 16 * i + 4) 12 == 0 && decide (imgNat b (64 + 16 * i) 2 < 4096)) &&
  ((t.route.map (·.1)).headD 4096) == switchId s && (t.route.map (·.1)).getLastD 4096 == t.dsw &&
  t.route.all (fun e => decide (e.2.1 < 128)) && isHostPort s t.inPort && portEp s t.inPort == t.src && bridleWf t.bridle &&
  (hopFault s t.bridle).isNone && (if t.home then outs == hops ++ [0xFF] else outs == hops)

/-- The first entry of a route with a fenced switch or port (R360). -/
def fencedHop (s : State) (t : Tether) : Option Nat :=
  (t.route.zipIdx.find? (fun e => portFenced s e.1.1 e.1.2.1 || (e.1.2.2 != 255 && portFenced s e.1.1 e.1.2.2))).map (·.2)

/-- The lowest free tether index of this device. -/
def freeTether (s : State) : Option Nat :=
  let base := switchId s * 2 ^ 13
  (List.range 8192).find? (fun i => !s.route.tethers.any (fun t => t.id == base + i))

/-- Open a tether whose plan passed R356: its own entry is checked, the others are asked for (R357). -/
def openTether (s : State) (h : Nat) (t : Tether) : State :=
  match fencedHop s t with
  | some i => commit s h .fenced 0 (BitVec.ofNat 64 i)
  | none =>
    if tetherMatched s t then commit s h .busy 0 0xFF
    else match tetherCheck s t true with
      | .noRole => badDesc s h 16
      | .fenced => commit s h .fenced 0 0
      | .noKey => commit s h .keyReject 0 0
      | .noRoom => commit s h .busy 0 0
      | .accepted =>
        let s := addTether (markStarted s h) t
        let s := t.route.foldl (fun s e => if e.1 = switchId s then s else sendSwitch s e.1 "TetherEntry" [t.id, e.2.1, e.2.2, t.tc, t.units, t.owner.toNat]) s
        if (routeOthers s t).isEmpty then startTether s t else s

/-- TETHER_OPEN (R355 to R360). -/
def execTetherOpen (h : Handle) (s : State) : Out3 :=
  let h := h.toNat
  match startable s h 0x50 with
  | none => .next s
  | some r =>
    let d := r.desc
    if d64 d 8 % 64 ≠ 0 then .next (badDesc s h 8)
    else if r.imagePoison then .next (commit s h .poisoned 0 0)
    else match r.image with
      | none => .next s
      | some b =>
        if crc32c b ≠ d32 d 20 then .next (badDesc s h 20)
        else if !planOk s b (d32 d 16) then .next (badDesc s h 16)
        else if !isTenant s (BitVec.ofNat 16 (imgNat b 4 2)) then .next (commit s h .keyReject 0 0)
        else match freeTether s with
          | none => .next (commit s h .busy 0 0xFF)
          | some i => .next (openTether s h (planTether s b (switchId s * 2 ^ 13 + i) h))

/-- TETHER_CLOSE (R359, R360). -/
def execTetherClose (h : HRef) (s : State) : Out3 :=
  let h := h.toNat
  match startable s h 0x51 with
  | none => .next s
  | some r =>
    match s.route.tethers.find? (fun t => t.master && t.id == d32 r.desc 8) with
    | none => .next (commit s h .notOwner 0 0)
    | some t =>
      match t.st with
      | .opening => .next (commit s h .tableBusy 0 0)
      | .closing => .next (commit s h .tableBusy 0 0)
      | .broken => .next (commit (bump (dropTether s t.id) (routeCnt 6)) h .ok 0 0)
      | .active =>
        if (t.handle.bind (handleOf s)).any (fun y => decide (y.phase = .live)) then .next (commit s h .tableBusy 0 0)
        else
        let t := { t with st := .closing, handle := some h }
        .next (switchTether (putTether (markStarted s h) t) t)

/-- A switch's answer reaches the source switch (R357). -/
def tetherReply (s : State) (id sw : Nat) (r : TetherReply) : State :=
  match tetherAt s id with
  | none => s
  | some t =>
    let idx := (t.route.map (·.1)).idxOf sw
    if t.st ≠ .opening ∨ t.moving = true ∨ idx = t.route.length ∨ t.master = false then s
    else match r with
      | .accepted =>
        let t := { t with accepted := if t.accepted.contains sw then t.accepted else t.accepted ++ [sw] }
        let s := putTether s t
        if (t.route.map (·.1)).all (fun x => t.accepted.contains x) then startTether s t else s
      | .noRole => match t.handle with
        | some h => engineDone ((routeOthers s t).foldl (fun s x => sendSwitch s x "TetherRemove" [id]) (dropTether s id)) h .badDescriptor 16 0
        | none => s
      | .noKey => refuseTether s t .keyReject idx
      | .noRoom => refuseTether s t .busy idx
      | .fenced => refuseTether s t .fenced idx

/-- A switch reports that it removed its entry. -/
def tetherRemoved (s : State) (id sw : Nat) : State :=
  match tetherAt s id with
  | none => s
  | some t =>
    if t.st ≠ .closing ∨ t.moving = true ∨ t.master = false then s
    else
      let t := { t with accepted := if t.accepted.contains sw then t.accepted else t.accepted ++ [sw] }
      if (routeOthers s t).all (fun x => t.accepted.contains x || switchFenced s x) then
        let s := bump (dropTether s id) (routeCnt 6)
        match t.handle with
        | some h => engineDone s h .ok 0 0
        | none => s
      else putTether s t

/-- Codes of a switch's answer. -/
def tetherCode : TetherReply → Nat
  | .accepted => 0
  | .noRole => 1
  | .noKey => 2
  | .noRoom => 3
  | .fenced => 4

/-- TETHER_ENTRY_INSTALL (R356, R357, R360): a switch of the route takes or refuses its entry, or removes it; the source switch takes the
answers. -/
def execTetherEntryInstall (e : TetherMsg) (s : State) : Out3 :=
  match e with
  | .entry x =>
    let t : Tether := { id := x.id.toNat, st := .active, tc := x.tc.toNat, units := x.units, home := x.home, owner := x.owner, src := x.src, dst := x.dst, dsw := x.dsw.toNat, bridle := x.bridle, inPort := x.inPort.val, outPort := (x.outPort.map (·.val)).getD 255 }
    if (tetherAt s t.id).isSome then .next s
    else
      let r := tetherCheck s t false
      let s := if r = .accepted then addTether s t else s
      .next (sendSwitch s (t.id / 2 ^ 13 % 4096) "TetherReply" [t.id, tetherCode r])
  | .reply id sw r => .next (tetherReply s id.toNat sw.toNat r)
  | .remove id =>
    match tetherAt s id.toNat with
    | some t => if t.master then .next s else .next (sendSwitch (dropTether s id.toNat) (id.toNat / 2 ^ 13 % 4096) "TetherRemoved" [id.toNat])
    | none => .next (sendSwitch s (id.toNat / 2 ^ 13 % 4096) "TetherRemoved" [id.toNat])
  | .removed id sw => .next (tetherRemoved s id.toNat sw.toNat)

/-- What follows when markers are no longer out: streams go on, and switch-overs without a marker left end (R353, R354, R359). -/
def afterMarkers (s : State) : State :=
  (s.route.tethers.map (·.id)).foldl tetherStep (pathDone (releaseMoved s))

/-- MARKACK (R353): the first marker of the bridle and class is acknowledged. -/
def execMarkack (bridle : Word) (tc : Tc) (s : State) : Out3 :=
  match s.route.markers.find? (fun m => m.bridle == bridle && m.tc == tc.toNat) with
  | none => .next s
  | some m => .next (afterMarkers { s with route := { s.route with markers := s.route.markers.erase m } })

/-- TRUNK_ACTIVE_REPORT (R490). -/
def execTrunkActiveReport (sw : BitVec 12) (p : PortId) (peer : BitVec 12) (peerPort : PortId) (s : State) : Out3 :=
  .next { s with ras := { s.ras with adj := tblPut s.ras.adj (sw.toNat * 128 + p.val) (peer.toNat, peerPort.val) } }

end Sys2Proof.Machine
end

