-- ==== Sys2Proof/Machine/Crypto.lean ====
section
/-! DEFINITION. SHA-384 and ECDSA P-384, which images are checked with (19, R461). The algorithms are those of the published standards
(PRESUMED, assumption log, entry 65). -/

namespace Sys2Proof.Machine

/-! ## SHA-384 -/

abbrev W64 := BitVec 64

/-- The greatest number of `n` bits above `r`, in place of the bits below, whose `k`-th power is at most `x`: `r` has no bit below `n`. -/
def rootFrom (k x : Nat) : Nat → Nat → Nat
  | 0, r => r
  | n + 1, r => rootFrom k x n (if (r + 2 ^ n) ^ k ≤ x then r + 2 ^ n else r)

/-- The first 64 bits of the fractional part of the `k`-th root of a number below 2 ^ 10. -/
def rootBits (k p : Nat) : W64 := BitVec.ofNat 64 (rootFrom k (p * 2 ^ (64 * k)) 70 0)

/-- The first 80 primes, which are those below 410. -/
def shaPrimes : List Nat := (List.range 410).filter (fun n => decide (2 ≤ n) && (List.range 21).all (fun d => decide (d < 2 ∨ d = n) || n % d != 0))

/-- The round constants, from the cube roots of the first 80 primes. -/
def shaK : List W64 := shaPrimes.map (rootBits 3)

/-- The initial hash value of SHA-384, from the square roots of the 9th to the 16th prime. -/
def shaInit : List W64 := ((shaPrimes.drop 8).take 8).map (rootBits 2)

/-- The number that bytes spell, most significant first. -/
def beNat : List Byte → Nat := List.foldl (fun n b => n * 256 + b.toNat) 0

/-- The `n` bytes of a number, most significant first. -/
def beBytes (n x : Nat) : List Byte := (natBytes n x).reverse

/-- The words of a block, first word first. -/
def shaWords : Nat → List Byte → List W64
  | 0, _ => []
  | n + 1, b => BitVec.ofNat 64 (beNat (b.take 8)) :: shaWords n (b.drop 8)

/-- Extend the message schedule, newest word first, by `n` words. -/
def shaExtend : Nat → List W64 → List W64
  | 0, w => w
  | n + 1, w =>
    let at_ (i : Nat) : W64 := w[i]?.getD 0
    let s0 (x : W64) : W64 := x.rotateRight 1 ^^^ x.rotateRight 8 ^^^ x >>> 7
    let s1 (x : W64) : W64 := x.rotateRight 19 ^^^ x.rotateRight 61 ^^^ x >>> 6
    shaExtend n ((s1 (at_ 1) + at_ 6 + s0 (at_ 14) + at_ 15) :: w)

/-- One round on the eight working words. -/
def shaRound (v : List W64) (kw : W64 × W64) : List W64 :=
  match v with
  | [a, b, c, d, e, f, g, h] =>
    let big1 : W64 := e.rotateRight 14 ^^^ e.rotateRight 18 ^^^ e.rotateRight 41
    let ch : W64 := (e &&& f) ^^^ (~~~e &&& g)
    let t1 : W64 := h + big1 + ch + kw.1 + kw.2
    let big0 : W64 := a.rotateRight 28 ^^^ a.rotateRight 34 ^^^ a.rotateRight 39
    let maj : W64 := (a &&& b) ^^^ (a &&& c) ^^^ (b &&& c)
    [t1 + (big0 + maj), a, b, c, d + t1, e, f, g]
  | _ => v

/-- Hash the blocks of a padded message. -/
def shaBlocks : Nat → List Byte → List W64 → List W64
  | 0, _, v => v
  | n + 1, b, v =>
    let w := (shaExtend 64 (shaWords 16 b).reverse).reverse
    let r := (shaK.zip w).foldl shaRound v
    shaBlocks n (b.drop 128) ((v.zip r).map (fun e => e.1 + e.2))

/-- SHA-384 of a message: 48 bytes. -/
def sha384 (m : List Byte) : List Byte :=
  let pad := (239 - m.length % 128) % 128
  let b := m ++ [0x80] ++ List.replicate pad 0 ++ beBytes 16 (8 * m.length)
  ((shaBlocks (b.length / 128) b shaInit).flatMap (fun (x : W64) => beBytes 8 x.toNat)).take 48

/-! ## ECDSA on P-384 -/

/-- The field prime, the order, the coefficient b and the base point of the curve. -/
def ecP : Nat := 2 ^ 384 - 2 ^ 128 - 2 ^ 96 + 2 ^ 32 - 1
def ecN : Nat := 0xffffffffffffffffffffffffffffffffffffffffffffffffc7634d81f4372ddf581a0db248b0a77aecec196accc52973
def ecB : Nat := 0xb3312fa7e23ee7e4988e056be3f82d19181d9c6efe8141120314088f5013875ac656398d8a2ed19d2a85c8edd3ec2aef
def ecG : Nat × Nat := (0xaa87ca22be8b05378eb1c71ef320ad746e1d3b628ba79b9859f741e082542a385502f25dbf55296c3a545e3872760ab7, 0x3617de4a96262c6f5d9e98bf9292dc29f8f41dbd289a147ce9da3113b5f0b8c00a60b1ce1d7e819d7a431d7c90ea0e5f)

/-- `x ^ e` modulo `m`, with `n` bits of `e`. -/
def powMod (m : Nat) : Nat → Nat → Nat → Nat
  | 0, _, _ => 1
  | n + 1, x, e => let h := powMod m n (x * x % m) (e / 2); if e % 2 = 1 then h * x % m else h

/-- The inverse modulo a prime. -/
def invMod (m x : Nat) : Nat := powMod m 384 (x % m) (m - 2)

/-- A difference modulo the field prime. -/
def ecSub (a b : Nat) : Nat := (a + ecP - b) % ecP

/-- A point (X, Y, Z) stands for (X/Z², Y/Z³); Z = 0 is the point at infinity. Twice a point. -/
def ecDbl : Nat × Nat × Nat → Nat × Nat × Nat
  | (x, y, z) =>
    let yy := y * y % ecP
    let zz := z * z % ecP
    let s := 4 * x * yy % ecP
    let m := 3 * ecSub x zz * (x + zz) % ecP
    let x' := ecSub (m * m % ecP) (2 * s % ecP)
    (x', ecSub (m * ecSub s x' % ecP) (8 * yy * yy % ecP), 2 * y * z % ecP)

/-- The sum of two points. -/
def ecAdd : Nat × Nat × Nat → Nat × Nat × Nat → Nat × Nat × Nat
  | (x1, y1, z1), (x2, y2, z2) =>
    let w1 := z1 * z1 % ecP
    let w2 := z2 * z2 % ecP
    let u1 := x1 * w2 % ecP
    let u2 := x2 * w1 % ecP
    let s1 := y1 * z2 * w2 % ecP
    let s2 := y2 * z1 * w1 % ecP
    if z1 = 0 then (x2, y2, z2)
    else if z2 = 0 then (x1, y1, z1)
    else if u1 = u2 then (if s1 = s2 then ecDbl (x1, y1, z1) else (1, 1, 0))
    else
      let h := ecSub u2 u1
      let r := ecSub s2 s1
      let hh := h * h % ecP
      let v := u1 * hh % ecP
      let x3 := ecSub (ecSub (r * r % ecP) (h * hh % ecP)) (2 * v % ecP)
      (x3, ecSub (r * ecSub v x3 % ecP) (s1 * h * hh % ecP), h * z1 * z2 % ecP)

/-- `k` times a point, with `n` bits of `k`. -/
def ecMul : Nat → Nat → Nat × Nat × Nat → Nat × Nat × Nat
  | 0, _, _ => (1, 1, 0)
  | n + 1, k, p =>
    let h := ecMul n (k / 2) (ecDbl p)
    if k % 2 = 1 then ecAdd h p else h

/-- Whether a signature (r, s) of a hash verifies under a public key. -/
def ecdsaOk (hash : Nat) (key sig : Nat × Nat) : Bool :=
  let (x, y) := key
  let (r, s) := sig
  if ecP ≤ x ∨ ecP ≤ y ∨ y * y % ecP ≠ (x * x * x + 3 * (ecP - x) + ecB) % ecP then false
  else if r = 0 ∨ s = 0 ∨ ecN ≤ r ∨ ecN ≤ s then false
  else
    let w := invMod ecN s
    let (a, _, z) := ecAdd (ecMul 384 (hash * w % ecN) (ecG.1, ecG.2, 1)) (ecMul 384 (r * w % ecN) (x, y, 1))
    let i := invMod ecP z
    z != 0 && a * (i * i % ecP) % ecP % ecN == r

end Sys2Proof.Machine
end

