-- ==== Sys2Proof/Machine/SwitchCore.lean ====
section
/-! DEFINITION. The switch core (15, R362 to R383): ingress, spreading, pulls, resequencing, stage credits, buffer rows and the replacement of
a slice; and the published depths of R395. -/

namespace Sys2Proof.Machine

/-! ## Positions (R362, R382) -/

/-- The slice that serves a position, and the position of a slice. -/
def holderOf (s : State) (pos : Nat) : Nat := tblGet s.core.holder pos pos
def posOf (s : State) (k : Nat) : Option Nat := (List.range 16).find? (fun i => holderOf s i == k)
/-- Positions in the pattern of R369: all but one being taken over. -/
def posLive (s : State) (pos : Nat) : Bool := decide (pos < 16) && s.core.takeover != some pos
/-- The position of a slice that serves now. -/
def livePos (s : State) (k : Nat) : Option Nat := (posOf s k).filter (posLive s)
/-- The position through which a source injects: that of its port or partition; the other agents inject anywhere. -/
def srcPos (src : Nat) : Option Nat := if src < 128 then some (src / 8) else if src < 144 then some (src - 128) else none
/-- The key of a stream (R368). -/
def streamKey (p src tc : Nat) : Nat := p * 2048 + src * 8 + tc
/-- A stage credit tuple of positions and class (R366). -/
def tupleKey (i m e tc : Nat) : Nat := ((i * 32 + m) * 32 + e) * 8 + tc

/-! ## Occupancy and push-out (R364, R365, R373, R374) -/

def isData (c : CoreCell) : Bool := c.cell.kind == .data
def reorderCells (r : Tbl Reorder) (pos : Nat) (f : CoreCell → Bool) : Nat :=
  ((r.filter (fun e => e.1 / 16384 == pos)).map (fun e => (e.2.held ++ e.2.gather).countP f)).sum

/-- Buffer cells that a position holds, of the classes that `want` selects. A cell of a train that copies share counts once where it is buffered, until
the last copy has left, and each copy that has been pulled at its egress position (R364, R379; log entry 54). -/
def cellsAt (s : State) (pos : Nat) (want : Nat → Bool) : Nat :=
  let f (c : CoreCell) : Bool := isData c && want c.cell.tc.toNat
  let own (c : CoreCell) : Bool := f c && c.share.isNone
  s.core.waiting.countP (fun c => own c && c.islice == pos) + s.core.middle.countP (fun c => own c && c.middle == pos) +
  (if want 5 then s.core.shares.countP (fun e => e.2.1 == pos) else 0) +
  s.core.pulled.countP (fun c => f c && c.cell.port.val / 8 == pos) + reorderCells s.core.reorder pos f +
  ((s.cong.egress.filter (fun e => e.port / 8 == pos && want e.tc)).map pktCells).sum

/-- Buffer rows of the slice that holds a position. -/
def rowsOf (s : State) (k : Nat) : Rows := tblGet s.core.rows k {}
def bufferSize (s : State) (pos : Nat) : Nat := 65536 - 64 * (rowsOf s (holderOf s pos)).retired
def freeCells (s : State) (pos : Nat) : Nat := bufferSize s pos - cellsAt s pos (fun _ => true)

/-- A cell turned into its notice (R374). -/
def asNotice (c : CoreCell) : CoreCell := { c with cell := { c.cell with kind := .notice, bytes := 0, body := none } }
def countNotice (s : State) (pos : Nat) : State := bump s (coreCnt pos 6)

/-- The longest of some lists, by key; ties to the first. -/
def longest (ks : List Nat) (len : Nat → Nat) : Option Nat :=
  match ks with
  | [] => none
  | k :: r => some (r.foldl (fun a b => if len a < len b then b else a) k)

/-- Push out the tail cell of the longest middle list of a class at a position. -/
def pushMiddle (s : State) (pos tc : Nat) : Option State :=
  let f (c : CoreCell) : Bool := isData c && c.middle == pos && c.cell.tc.toNat == tc && c.conform.isNone
  let ports := ((s.core.middle.filter f).map (fun c => c.cell.port.val)).eraseDups
  match longest ports (fun p => s.core.middle.countP (fun c => f c && c.cell.port.val == p)) with
  | none => none
  | some p =>
    match (s.core.middle.filter (fun c => f c && c.cell.port.val == p)).getLast? with
    | none => none
    | some v => some (countNotice { s with core := { s.core with middle := s.core.middle.map (fun c => if c = v then asNotice c else c) } } pos)

/-- Push out the tail packet of a port's egress queue of a class, which is then discarded whole. -/
def pushOutQueue (s : State) (pos tc p : Nat) : Option State :=
  match (s.cong.egress.filter (fun e => e.port == p && e.tc == tc && e.grp.isNone)).getLast? with
  | none => none
  | some v => some (bump (countNotice (takePkt s v) pos) (portCoreCnt p 2))

/-- Whether a held cell of a class may be pushed out. -/
def heldVictim (tc : Nat) (c : CoreCell) : Bool := isData c && c.cell.tc.toNat == tc && c.conform.isNone

/-- Push out the tail cell that a reorder context holds. -/
def pushOutHeld (s : State) (pos tc k : Nat) : Option State :=
  let r := tblGet s.core.reorder k {}
  match (r.held.filter (heldVictim tc)).getLast? with
  | none => none
  | some v => some (countNotice { s with core := { s.core with reorder := tblPut s.core.reorder k { r with held := r.held.map (fun c => if c = v then asNotice c else c) } } } pos)

/-- Push out of the egress role: the tail of the longest of the egress queues and the resequencer's lists of a class, ties to the queues. -/
def pushOutEgress (s : State) (pos tc : Nat) : Option State :=
  let f (e : EPkt) : Bool := e.port / 8 == pos && e.tc == tc && e.grp.isNone
  let held (k : Nat) : Nat := (tblGet s.core.reorder k {}).held.countP (heldVictim tc)
  let queue := longest ((s.cong.egress.filter f).map (·.port)).eraseDups (fun p => queuedCells s p tc)
  let ctx := longest ((s.core.reorder.filter (fun e => e.1 / 16384 == pos && e.2.held.any (heldVictim tc))).map (·.1)) held
  match queue, ctx with
  | some p, some k => if held k ≤ queuedCells s p tc then pushOutQueue s pos tc p else pushOutHeld s pos tc k
  | some p, none => pushOutQueue s pos tc p
  | none, some k => pushOutHeld s pos tc k
  | none, none => none

/-- Push out a victim of the lowest of some classes (R373): from the middle lists, else from the egress role. -/
def pushOut (s : State) (pos : Nat) (classes : List Nat) : Option State :=
  match classes.findSome? (pushMiddle s pos) with
  | some s => some s
  | none => classes.findSome? (pushOutEgress s pos)

/-- Admit a cell to a role at a position (R365, R373): in a free cell, or in that of a victim; a lossless cell always finds one. -/
def admitCell (s : State) (pos : Nat) (c : CoreCell) : Option State :=
  let tc := c.cell.tc.toNat
  if !isData c || decide (0 < freeCells s pos) then some s
  else if 4 ≤ tc then some (match pushOut s pos [0, 1, 2, 3] with
    | some s => bump s (coreCnt pos 4)
    | none => s)
  else (pushOut s pos (List.range tc)).map (fun s => bump s (coreCnt pos 3))

/-! ## Ingress (R366 to R369, R372, R395) -/

/-- The average depth decision of R395 for a packet's first cell. -/
def wredDrops (s : State) (c : Cell) : Bool × State :=
  let k := match c.colour with
    | .green => 0
    | .yellow => 1
    | .red => 2
  let prof := 0x34100 + 8 * fld s (portBase c.port.val + 0x610) (4 * (3 * c.tc.toNat + k)) 4
  let lo := fld s prof 0 16
  let hi := fld s prof 16 16
  let a := tblGet s.cong.wred (c.port.val * 8 + c.tc.toNat) 0
  let count (s : State) : State := bump s (portCongCnt c.port.val (5 + k))
  if hi = 0 ∨ a < lo * 65536 then (false, s)
  else if hi * 65536 ≤ a then (true, count s)
  else
    let (v, s) := draw s
    if v.toNat % 2 ^ 32 * (256 * 65536 * (hi - lo)) < 2 ^ 32 * (fld s prof 32 8 * (a - lo * 65536)) then (true, count s) else (false, s)

/-- Meter a cell of a tether (R372): the state after, and its group where it conforms. -/
def meterTether (s : State) (pos : Nat) (t : Tether) : State × Option Nat :=
  let depth := 2048000 * fld s (sliceBase pos + 8) 32 7
  let (tok, at_) := tblGet s.core.meters t.id (depth, s.now)
  let tok := Nat.min depth (tok + (s.now - at_) * 25000 * t.units)
  if 2048000 ≤ tok then ({ s with core := { s.core with meters := tblPut s.core.meters t.id (tok - 2048000, s.now) } }, some (t.id % 4))
  else (bump { s with core := { s.core with meters := tblPut s.core.meters t.id (tok, s.now) } } (coreCnt pos 9), none)

/-- The next position of a rotation over the pattern (R369). -/
def nextPos (s : State) (key : Nat) : Nat × State :=
  let p := tblGet s.core.spread key 0
  let m := (((List.range 16).map (fun i => (p + i) % 16)).find? (posLive s)).getD p
  (m, { s with core := { s.core with spread := tblPut s.core.spread key ((m + 1) % 16) } })

/-- Put a cell at the tail of its list. -/
def putMiddle (s : State) (c : CoreCell) : State := bump { s with core := { s.core with middle := s.core.middle ++ [c] } } (coreCnt c.middle 1)

/-- Link a cell into the list of its middle position; a lossy cell that finds no room leaves its notice (R370, R373, R374). -/
def enterMiddle (s : State) (c : CoreCell) : State :=
  let m := c.middle
  let tc := c.cell.tc.toNat
  let long := decide (tc < 4) && isData c && c.conform.isNone &&
    decide (fld s (sliceBase m + 8) 16 11 ≤ s.core.middle.countP (fun x => x.middle == m && x.cell.port == c.cell.port && x.cell.tc == c.cell.tc && x.conform.isNone && isData x))
  match (if long then none else admitCell s m c) with
  | some s => putMiddle s c
  | none => putMiddle (countNotice (bump s (coreCnt m 5)) m) (asNotice c)

/-- Link the copies of a train's cell, which is buffered once (R379). -/
def enterShared (s : State) (c : CoreCell) (copies : List CoreCell) : State :=
  let s := (admitCell s c.middle c).getD s
  let at_ (t : Tbl (Nat × Nat)) (k : Nat) : Tbl (Nat × Nat) := tblMod t k (c.middle, copies.length) (fun x => (c.middle, x.2))
  copies.foldl putMiddle { s with core := { s.core with shares := c.share.toList.foldl at_ s.core.shares } }

/-- The tuple of a cell (R366). -/
def tupleOf (c : CoreCell) : Nat := tupleKey c.islice c.middle (c.cell.port.val / 8) c.cell.tc.toNat

/-- Whether a cell and the copies that share it all find a stage credit, and both ends serve (R366, R379, R382). -/
def creditsFree (s : State) (cs : List CoreCell) : Bool :=
  cs.all (fun c => posLive s c.middle && posLive s (c.cell.port.val / 8) &&
    decide (tblGet s.core.credits (tupleOf c) 0 + cs.countP (fun x => tupleOf x == tupleOf c) ≤ fld s (sliceBase c.islice + 8) 10 5))

/-- A cell has left the ingress role: the message's link credit returns to its port's partner (R426). -/
def leftIngress (s : State) (c : Cell) : State := if c.src.val < 128 then creditBack s c.src.val c.tc.toNat else s

/-- Send a cell, and the copies that share it, to its middle position where every copy has a stage credit (R366, R379). -/
def trySpread (s : State) (c : CoreCell) (copies : List CoreCell) : Option State :=
  if c.cell.tc.toNat < 4 then some (enterMiddle (leftIngress s c.cell) c)
  else if creditsFree s (c :: copies) then
    let s := { s with core := { s.core with credits := (c :: copies).foldl (fun t x => tblMod t (tupleOf x) 0 (· + 1)) s.core.credits } }
    let s := leftIngress s c.cell
    some (if c.share.isSome then enterShared s c (c :: copies) else enterMiddle s c)
  else none

/-- A cell with its sequence goes to its middle position, or waits in the ingress role for its stage credits. -/
def spreadCell (s : State) (c : CoreCell) (copies : List CoreCell) : State :=
  match trySpread s c copies with
  | some s => s
  | none => bump { s with core := { s.core with waiting := s.core.waiting ++ c :: copies } } (coreCnt c.islice 7)

/-- Whether a port takes cells: it exists and has a role with an egress. -/
def egressPort (s : State) (p : Nat) : Bool := isHostPort s p || isTrunk s p

/-- The next sequence number of a stream (R368). -/
def takeSeq (s : State) (key : Nat) : Nat × State :=
  let seq := tblGet s.core.seqs key 0
  (seq, { s with core := { s.core with seqs := tblPut s.core.seqs key ((seq + 1) % 65536) } })

/-- The copies of a train's cell: a port for each child switch and each local member that is not pruned (R379). -/
def copyPorts (s : State) (t : TrainRec) : List (Nat × Option Nat) :=
  let home (m : TrainMember) : Option Nat := epPort s m.ep
  let kids := (entPorts t.ent).filter (fun p => !t.prunedP.contains p && !t.ent.locals.any (fun m => home m == some p))
  kids.map (fun p => (p, none)) ++ (t.ent.locals.filter (fun m => !t.prunedM.contains m.idx)).filterMap (fun m => (home m).map (fun p => (p, some m.idx)))

/-- A train's cell enters: one copy for each port, each with the next sequence number of its own stream; the cell is sent once (R379). -/
def trainIngress (s : State) (pos : Nat) (c : Cell) (id : Nat) : State :=
  match (tblFind s.train.trains id).map (copyPorts s) with
  | none => s
  | some [] => s
  | some ps =>
    let (m, s) := nextPos (bump s (coreCnt pos 0)) (c.src.val * 8 + c.tc.toNat)
    let share := s.core.nextShare
    let tq := tenantQueue s c.key
    let make (a : List CoreCell × State) (x : Nat × Option Nat) : List CoreCell × State :=
      let (seq, s) := takeSeq a.2 (streamKey x.1 c.src.val c.tc.toNat)
      (a.1 ++ [{ cell := { c with port := Fin.ofNat 128 x.1 }, seq := seq, islice := pos, middle := m, tq := tq, copyOf := some (id, x.2), share := some share }], s)
    let (cs, s) := ps.foldl make ([], s)
    let s := bumpBy { s with core := { s.core with nextShare := share + 1 } } (trainCnt 2) ps.length
    match cs with
    | [] => s
    | x :: copies =>
      let s := (admitCell s pos x).getD s
      spreadCell { s with core := { s.core with shares := tblPut s.core.shares share (pos, ps.length) } } x copies

/-- CELL_INGRESS (R366 to R374, R379, R395). -/
def execCellIngress (k : SliceId) (c : Cell) (s : State) : Out3 :=
  match livePos s k.val with
  | none => .next s
  | some pos =>
    if s.sys.st ≠ .serving ∨ (srcPos c.src.val).any (· != pos) = true then .next s
    else if c.train.isSome = true then (if c.tc = 5 ∧ c.kind = .data then .next (trainIngress s pos c ((c.train.getD 0).toNat)) else .next s)
    else if egressPort s c.port.val = false then .next s
    else
      let key := streamKey c.port.val c.src.val c.tc.toNat
      let (seq, s) := takeSeq (bump s (coreCnt pos 0)) key
      let (s, group) := match (c.tether.bind (fun id => s.route.tethers.find? (fun t => t.id == id.toNat && t.st == .active))) with
        | some t => meterTether s pos t
        | none => (s, none)
      let (drops, s) := if c.tc.toNat < 4 ∧ group.isNone = true ∧ c.kind = .data then
          (if c.start then wredDrops s c else (s.core.dropping.contains key, s))
        else (false, s)
      let rest := s.core.dropping.filter (· != key)
      let s := { s with core := { s.core with dropping := if drops && !c.fin then rest ++ [key] else rest } }
      let (m, s) := match group with
        | some g => nextPos s (2 ^ 20 + c.port.val * 4 + g)
        | none => nextPos s (c.src.val * 8 + c.tc.toNat)
      let cc : CoreCell := { cell := c, seq := seq, islice := pos, middle := m, tq := tenantQueue s c.key, conform := group }
      if drops then .next (spreadCell (countNotice (bump s (coreCnt pos 5)) pos) (asNotice cc) [])
      else match admitCell s pos cc with
        | some s => .next (spreadCell s cc [])
        | none => .next (spreadCell (countNotice (bump s (coreCnt pos 5)) pos) (asNotice cc) [])

/-- Let a waiting cell go, with the copies that share it, once all hold a credit. -/
def retryCell (s : State) (c : CoreCell) : State :=
  if !s.core.waiting.contains c then s
  else
    let copies := if c.share.isNone then [] else (s.core.waiting.filter (fun x => x.share == c.share)).erase c
    match trySpread { s with core := { s.core with waiting := s.core.waiting.filter (fun x => x != c && !copies.contains x) } } c copies with
    | some s => s
    | none => s

/-- Let waiting cells go that now hold a credit, oldest first, conforming tether cells ahead of unreserved ones (R372). -/
def retryWaiting (s : State) : State :=
  (s.core.waiting.filter (·.conform.isSome) ++ s.core.waiting.filter (·.conform.isNone)).foldl retryCell s

/-- STAGE_CREDIT_RETURN (R366): a cell that left egress slice `e` for its port island returns its credit to ingress slice `i`. -/
def execStageCreditReturn (i : SliceId) (m : Fin 16) (e : SliceId) (tc : Tc) (s : State) : Out3 :=
  match posOf s i.val, posOf s e.val with
  | some a, some b =>
    let key := tupleKey a m.val b tc.toNat
    if s.core.leaving.contains key then
      .next (retryWaiting { s with core := { s.core with leaving := s.core.leaving.erase key, credits := tblMod s.core.credits key 0 (· - 1) } })
    else .next s
  | _, _ => .next s

/-! ## Pulls (R371, R372) -/

/-- Queued and held cells of a class at a port. -/
def heldCells (s : State) (p tc : Nat) : Nat :=
  queuedCells s p tc + s.core.pulled.countP (fun c => c.cell.port.val == p && c.cell.tc.toNat == tc && isData c) +
  ((s.core.reorder.filter (fun e => e.1 / 2048 == p && e.1 % 8 == tc)).map (fun e => (e.2.held ++ e.2.gather).countP isData)).sum

/-- Units of a reservation group at a port: those of its tethers there (R372). -/
def groupUnits (s : State) (p g : Nat) : Nat :=
  ((s.route.tethers.filter (fun t => t.outPort == p && t.id % 4 == g && t.st != .broken)).map (·.units)).sum

/-- Whether a table of `n` slots gives each group as many slots as it has units, with consecutive slots at most 2n / units apart (R372). -/
def slotsFit (n : Nat) (us : List Nat) (f : Nat → Nat) : Bool :=
  (List.range 4).all (fun g =>
    let u := us.getD g 0
    let xs := (List.range n).filter (fun i => f i == g + 1)
    xs.length == u && (xs.zip (xs.drop 1 ++ (xs.take 1).map (· + n))).all (fun e => decide ((e.2 - e.1) * u ≤ 2 * n)))

/-- A table that spreads each group evenly: the j-th slot of a group of u units falls at slot ⌊jn/u⌋ or later, earliest deadline first. -/
def evenSlots (n : Nat) (us : List Nat) : List Nat :=
  ((List.range n).foldl (fun (a : List Nat × List Nat) i =>
    let ready := (List.range 4).filter (fun g => decide (a.2.getD g 0 < us.getD g 0) && decide (a.2.getD g 0 * n / us.getD g 0 ≤ i))
    let due (g : Nat) : Nat := ((a.2.getD g 0 + 1) * n + us.getD g 0 - 1) / us.getD g 0
    match ready with
    | [] => (a.1 ++ [0], a.2)
    | g :: r =>
      let g := r.foldl (fun a b => if due b < due a then b else a) g
      (a.1 ++ [g + 1], a.2.set g (a.2.getD g 0 + 1))) ([], [0, 0, 0, 0])).1

/-- The slot table of a port (R372, SLICE_SLOT_MAP): what Nimpa proposes where it keeps the rule's bounds, else an even table. -/
def slotTable (s : State) (p : Nat) : List Nat :=
  let us := (List.range 4).map (groupUnits s p)
  let n := portUnits s p
  if us.sum = 0 then List.replicate n 0
  else if slotsFit n us (fun i => (Config.slotMap p us i).val) then (List.range n).map (fun i => (Config.slotMap p us i).val)
  else evenSlots n us

/-- The slot of a port at present, counted from time 0: a frame of its N slots lasts 81.92 ns (R372). -/
def slotNow (s : State) (p : Nat) : Nat := s.now * 100 * portUnits s p / 8192

/-- The reservation group of the port's present slot, if the slot is reserved and not used yet. -/
def slotDue (s : State) (p : Nat) : Option Nat :=
  let k := slotNow s p
  if tblFind s.core.lastSlot p = some k then none
  else match (slotTable s p).getD (k % portUnits s p) 0 with
    | 0 => none
    | g + 1 => some g

/-- The head of a port's class list, and of its tether list of a group, at a middle position (R370). -/
def classHead (s : State) (m p tc : Nat) : Option CoreCell :=
  s.core.middle.find? (fun c => c.middle == m && c.cell.port.val == p && c.conform.isNone && c.cell.tc.toNat == tc)
def groupHead (s : State) (m p g : Nat) : Option CoreCell :=
  s.core.middle.find? (fun c => c.middle == m && c.cell.port.val == p && c.conform == some g)

/-- The transfers of a port from a middle: a cell of its tether slot's group, if this middle is the next that holds one (R372). -/
def slotPull (s : State) (m p : Nat) : Option (Nat × CoreCell) :=
  match slotDue s p with
  | none => none
  | some g =>
    let from_ := tblGet s.core.groupPtr (p * 4 + g) 0
    match ((List.range 16).map (fun i => (from_ + i) % 16)).find? (fun x => (groupHead s x p g).isSome) with
    | none => none
    | some x => if x = m then (groupHead s m p g).map (fun c => (g, c)) else none

/-- Whether the egress room of a port allows a pull of a class (R371). -/
def eligible (s : State) (p tc : Nat) : Bool := decide (4 ≤ tc) || decide (heldCells s p tc < 512)

/-- The cell of the next class, in the rotation of the port's class pointer, that is eligible and has a cell in a middle. -/
def classPull (s : State) (m p : Nat) : Option CoreCell :=
  let from_ := tblGet s.core.classPtr p 0
  ((List.range 8).map (fun i => (from_ + i) % 8)).findSome? (fun tc => if eligible s p tc then classHead s m p tc else none)

/-- A cell moves to its egress slice (R371, R373). -/
def pullCell (s : State) (c : CoreCell) : State :=
  let dst := c.cell.port.val / 8
  let s := { s with core := { s.core with middle := s.core.middle.erase c } }
  match admitCell s dst c with
  | some s => { s with core := { s.core with pulled := s.core.pulled ++ [c] } }
  | none =>
    let s := countNotice (bump s (coreCnt dst 5)) dst
    { s with core := { s.core with pulled := s.core.pulled ++ [asNotice c] } }

/-- A port takes a transfer from a middle: in its own tether slot, else by its class pointer (R371, R372). -/
def portPull (s : State) (m p : Nat) : Option State :=
  match slotPull s m p with
  | some (g, c) =>
    let s := bump (bump s (coreCnt (p / 8) 8)) (portRouteCnt p 6)
    some (pullCell { s with core := { s.core with lastSlot := tblPut s.core.lastSlot p (slotNow s p), groupPtr := tblPut s.core.groupPtr (p * 4 + g) ((m + 1) % 16) } } c)
  | none => (classPull s m p).map (fun c =>
    pullCell { s with core := { s.core with classPtr := tblPut s.core.classPtr p ((c.cell.tc.toNat + 1) % 8) } } c)

/-- MIDDLE_PULL (R370 to R372): the mesh link from the middle that slice `k` holds to the egress slice `e` can carry a cell; the egress slice offers it
to its ports in the rotation of the link's port pointer. -/
def execMiddlePull (k e : SliceId) (s : State) : Out3 :=
  match livePos s k.val, livePos s e.val with
  | some m, some dst =>
    let link := dst * 16 + m
    let from_ := tblGet s.core.portPtr link 0
    match ((List.range 8).map (fun i => (from_ + i) % 8)).find? (fun j => (portPull s m (8 * dst + j)).isSome) with
    | none => .next s
    | some j =>
      match portPull s m (8 * dst + j) with
      | none => .next s
      | some s => .next { s with core := { s.core with portPtr := tblPut s.core.portPtr link ((j + 1) % 8) } }
  | _, _ => .next s

/-! ## The resequencer (R375 to R378) -/

/-- Whether a message is a completion with data (R390). -/
def dataCompletion (w : String) : Bool := ["CmpI", "CmpS", "CmpE", "CmpM", "CmpAtom", "CmpFar", "CmpComb"].contains w

/-- The stage credits that cells hold. -/
def tuplesOf (cs : List CoreCell) : List Nat :=
  (cs.filter (fun c => decide (4 ≤ c.cell.tc.toNat) && c.cell.kind != .notice)).map tupleOf

/-- Cells leave the core after resequencing without entering an egress queue (R366, R378). -/
def cellsLeave (s : State) (cs : List CoreCell) : State := leaveCore s (tuplesOf cs) (cs.filterMap (·.share))

/-- A gathered packet enters the egress queues; a lossy one with a notice is discarded whole; a fenced port takes none, a port whose link is
down no lossy one (R344, R376, R378). -/
def finishPacket (s : State) (p tc : Nat) (cs : List CoreCell) : State :=
  let key := (cs.head?.map (fun c => c.cell.key)).getD 0
  let bytes := (cs.map (fun c => c.cell.bytes.val)).sum
  let copyOf := cs.findSome? (·.copyOf)
  if cs.any (fun c => c.cell.kind == .notice) then bump s (portCoreCnt p 2)
  else if localFenced s p || copyGone s p copyOf then countDropped (cellsLeave s cs) p copyOf cs.length
  else if !portUp s p && decide (tc < 4) then bumpBy s (portRouteCnt p 4) cs.length
  else
    let body := (cs.findSome? (fun c => c.cell.body)).getD (.msg "packet" [])
    let data := match body with
      | .msg w _ => dataCompletion w
      | .cmp m => m.data.isSome || m.kind == .cmpAtom
      | .req _ _ => false
    pushEgress s { num := 0, port := p, tc := tc, tq := cs.head?.map (·.tq), len := bytes, tuples := tuplesOf cs, copyOf := copyOf, shares := cs.filterMap (·.share), grp := (cs.head?.bind (fun c => c.conform)), colour := (cs.head?.map (fun c => c.cell.colour)).getD .green, mark := cs.any (fun c => c.cell.mark), poison := cs.any (fun c => c.cell.poison), body := body } key data

/-- Release one cell in sequence: data and notices gather into packets, a marker is delivered (R376, R377). -/
def releaseCell (s : State) (ctx : Nat) (c : CoreCell) : State :=
  let p := c.cell.port.val
  match c.cell.kind with
  | .marker => cellsLeave (emit s (.send p "PathMarker" [c.cell.src.val, c.cell.tc.toNat])) [c]
  | _ =>
    let s := if c.cell.kind = .notice then bump s (portCoreCnt p 1) else bump s (portCoreCnt p 3)
    let r := tblGet s.core.reorder ctx {}
    let g := r.gather ++ [c]
    if c.cell.fin then
      finishPacket { s with core := { s.core with reorder := tblPut s.core.reorder ctx { r with gather := [] } } } p c.cell.tc.toNat g
    else { s with core := { s.core with reorder := tblPut s.core.reorder ctx { r with gather := g } } }

/-- Release held cells that have become next, at most `fuel`. -/
def releaseNext : Nat → State → Nat → State
  | 0, s, _ => s
  | fuel + 1, s, ctx =>
    let r := tblGet s.core.reorder ctx {}
    match r.held.find? (fun c => c.seq == r.expect) with
    | none => s
    | some c =>
      let r := { r with held := r.held.erase c, expect := (r.expect + 1) % 65536 }
      releaseNext fuel (releaseCell { s with core := { s.core with reorder := tblPut s.core.reorder ctx r } } ctx c) ctx

/-- RESEQUENCE_CELL (R375, R376). -/
def execResequenceCell (p : PortId) (src : Fin 165) (tc : Tc) (seq : BitVec 16) (s : State) : Out3 :=
  match s.core.pulled.find? (fun c => c.cell.port == p && c.cell.src == src && c.cell.tc == tc && c.seq == seq.toNat) with
  | none => .next s
  | some c =>
    let ctx := streamKey p.val src.val tc.toNat
    let r := tblGet s.core.reorder ctx {}
    let ahead := c.seq ≠ r.expect
    let s := { s with core := { s.core with pulled := s.core.pulled.erase c, reorder := tblPut s.core.reorder ctx { r with held := r.held ++ [c] } } }
    let s := if ahead then bump s (portCoreCnt p.val 0) else s
    .next (releaseNext (r.held.length + 1) s ctx)

/-! ## Faults of rows and slices (R381 to R383) -/

/-- The device stops serving (R383): a record, and every host port and trunk port goes down. -/
def deviceStop (s : State) (kind idx cause : Nat) : State :=
  let s := logEvent s kind 8 idx cause 0 0 0 0 0
  let links := s.link.links.map (fun e => (e.1, { e.2 with st := LinkState.down }))
  let cxl := s.link.cxl.map (fun e => if isTray s e.1 then e else (e.1, { e.2 with st := CxlState.down }))
  let s := (List.range 128).foldl (fun s p =>
    if isHostPort s p then haltBound (if isCxl s p then emit s (.send p "Viral" []) else s) (some p) 3 else s) s
  raiseAlert { s with sys := { s.sys with st := .stopped }, link := { s.link with links := links, cxl := cxl } } 3

/-- Whether a slice is part of the device that works: not failed, and not being taken over; the spare works while it takes over. -/
def sliceWorks (s : State) (k : Nat) : Bool :=
  !s.core.failed.contains k && (s.core.spare == some k || (livePos s k).isSome || (s.core.takeover.isSome && s.core.takeTo == k))

/-- A lasting fault of a slice (R382, R383). -/
def failSlice (s : State) (k cause : Nat) : State :=
  let s1 := { s with core := { s.core with failed := s.core.failed ++ [k] } }
  if s.core.spare = some k then logEvent { s1 with core := { s1.core with spare := none } } 2 3 k cause 0 0 0 0 0
  else match s.core.spare, posOf s k with
    | some sp, some pos =>
      let s := errorRecord s1 { kind := 2, cls := 2, idx := k, cause := cause, spareKind := 2, spareIdx := sp }
      { s with core := { s.core with spare := none, takeover := some pos, takeTo := sp } }
    | _, _ => deviceStop s1 2 k cause

/-- SLICE_FAULT (R382, R383). -/
def execSliceFault (k : SliceId) (s : State) : Out3 :=
  if sliceWorks s k.val then .next (failSlice s k.val 3) else .next s

/-- SLICE_TAKEOVER_DONE (R382, steps 3 to 5): the spare holds the position, with its state, registers and links. A slice that was
only reset becomes the spare (R509). -/
def execSliceTakeoverDone (s : State) : Out3 :=
  match s.core.takeover with
  | none => .next s
  | some pos =>
    let s := setBit (setBit s (sliceBase pos + 0x18) 2) (sliceBase 16 + 0x18) 2
    let old := holderOf s pos
    let spare := if s.core.failed.contains old then none else some old
    .next (retryWaiting { s with core := { s.core with holder := tblPut s.core.holder pos s.core.takeTo, takeover := none, spare := spare } })

/-- Poison one buffered data cell of a position, and every copy that shares it; which one, the specification leaves open. -/
def poisonCell (s : State) (pos : Nat) : State :=
  let (v, s) := draw s
  let mine := (s.core.waiting ++ s.core.middle ++ s.core.pulled).filter (fun c => isData c &&
    (c.islice == pos || c.middle == pos || c.cell.port.val / 8 == pos))
  match mine[v.toNat % Nat.max 1 mine.length]? with
  | none => s
  | some x =>
    let f (c : CoreCell) : CoreCell := if c = x ∨ (c.share.isSome ∧ c.share = x.share) then { c with cell := { c.cell with poison := true } } else c
    { s with core := { s.core with waiting := s.core.waiting.map f, middle := s.core.middle.map f, pulled := s.core.pulled.map f } }

/-- BUFFER_ROW_FAULT (R381): a spare row takes the row's cells, or the row is retired, or the slice has failed. `bad`: a cell of the row
could not be corrected. -/
def execBufferRowFault (k : SliceId) (bad : Bool) (s : State) : Out3 :=
  if sliceWorks s k.val = false then .next s
  else
    let reg := sliceBase ((posOf s k.val).getD 16)
    let r := rowsOf s k.val
    let put (r : Rows) (s : State) : State := { s with core := { s.core with rows := tblPut s.core.rows k.val r } }
    let s := if bad then
        let s := setBit (bump s (reg + 0x100 + 80)) (reg + 0x18) 3
        match posOf s k.val with
        | some pos => poisonCell s pos
        | none => s
      else s
    if r.used < 16 then .next (setBit (logEvent (put { r with used := r.used + 1 } s) 2 2 k.val 1 0 0 0 0 0) (reg + 0x18) 0)
    else if r.retired < 32 then .next (setBit (logEvent (put { r with retired := r.retired + 1 } s) 2 3 k.val 1 0 0 0 0 0) (reg + 0x18) 1)
    else .next (failSlice s k.val 1)

/-! ## Depths for random early detection (R395) -/

/-- The depth of an aggregate: its cells in the middle lists, the resequencer and the egress queues. -/
def aggregateDepth (s : State) (p tc : Nat) : Nat :=
  s.core.middle.countP (fun c => c.cell.port.val == p && c.cell.tc.toNat == tc && isData c) + heldCells s p tc

/-- WRED_DEPTH_PUBLISH (R395): the egress slice `k` publishes, due every 64 ns; every ingress slice updates its average. -/
def execWredDepthPublish (k : SliceId) (s : State) : Out3 :=
  match posOf s k.val with
  | none => .next s
  | some pos =>
    let due := match tblFind s.cong.lastPublish pos with
      | none => true
      | some t => decide (t + 64 ≤ s.now)
    if !due then .next s
    else
      let w := fld s 0x34000 24 4
      let keys := (List.range 8).flatMap (fun j => (List.range 4).map (fun tc => (pos * 8 + j, tc)))
      let next (t : Tbl Nat) (x : Nat × Nat) : Tbl Nat :=
        let a : Int := Int.ofNat (tblGet s.cong.wred (x.1 * 8 + x.2) 0)
        let d : Int := Int.ofNat (aggregateDepth s x.1 x.2 * 65536)
        tblPut t (x.1 * 8 + x.2) (a + (d - a) / (2 ^ w : Int)).toNat
      .next { s with cong := { s.cong with wred := keys.foldl next s.cong.wred, lastPublish := tblPut s.cong.lastPublish pos s.now } }

end Sys2Proof.Machine
end

