-- ==== Sys2Proof/Machine/Link.lean ====
section
/-! DEFINITION. The Bromet link of a port (17): training, configuration, flits and replay, credits, lanes and sparing, encryption phases;
port resets (21, R508); telemetry histograms (16, R404, R405) and endpoint messages (16, R394). -/

namespace Sys2Proof.Machine

def linkOf (s : State) (p : Nat) : Link := tblGet s.link.links p {}
def setLink (s : State) (p : Nat) (l : Link) : State := { s with link := { s.link with links := tblPut s.link.links p l } }
/-- The link that a port number has: none while it is the odd number of a bond in force, which does not exist (R16). -/
def portLink (s : State) (p : Nat) : Link := if bondOdd s p then {} else linkOf s p
def modLink (s : State) (p : Nat) (f : Link → Link) : State := setLink s p (f (linkOf s p))
def linkErr (s : State) (p bit : Nat) : State := setBit s (portBase p + 0x28) bit
def linkCfg (s : State) (p lo len : Nat) : Nat := fld s (portBase p + 0x10) lo len

/-! ## States (R413 to R416) -/

/-- The width of PORT_CFG, and the width that training aims at (R414, R420). -/
def cfgWidth (s : State) (p : Nat) : Nat := 2 ^ fld s (portBase p) 3 2
def wantWidth (s : State) (p : Nat) : Nat := Nat.min (cfgWidth s p) ((linkOf s p).reduced.getD 8)

/-- Whether a port is a Bromet port with a role. -/
def brometPort (s : State) (p : Nat) : Bool := (isHostPort s p || isTrunk s p) && !isCxl s p

/-- Whether a port's link may leave DOWN: LINK_EN, its role, SWITCH_ID, no fence, no authentication failure, and a device that has been told to
serve (R338, R414, R436, R516). -/
def canTrain (s : State) (p : Nat) : Bool :=
  brometPort s p && flag s (portBase p + 0x18) 0 && s.sys.refOk.getLsbD (p / 32) && switchId s != 0xFFF && !localFenced s p && !(linkOf s p).authDown &&
  (s.sys.st == .serving || s.sys.st == .restart)

/-- Transmit keys of both phases are written (R436). -/
def txKeys (s : State) (p : Nat) : Bool := tblGet s.link.keys (4 * p) 0 == 31 && tblGet s.link.keys (4 * p + 1) 0 == 31

/-- Send a Ctl message. -/
def sendCtl (s : State) (p : Nat) (what : String) (fields : List Nat) : State := emit s (.send p what fields)

/-- What this end says of itself in training blocks and in CONFIG (R414, R422): WIDTH_CAP, SPARE_CAP, ENC_REQ, ENC_CAP, switch ID and link epoch. -/
def selfCaps (s : State) (p : Nat) : List Nat :=
  [2 ^ (fld s (portBase p) 3 2 + 1) - 1, fld s (portBase p + 0x10) 3 1, if linkCfg s p 0 2 = 1 then 1 else 0, (txKeys s p).toNat, switchId s, (linkOf s p).epoch]

/-- The training blocks or the CONFIG message that a state sends (R414). -/
def sendTraining (s : State) (p : Nat) : State :=
  match (linkOf s p).st with
  | .detect => sendCtl s p "Ts1" (selfCaps s p ++ [p, 0])
  | .eq => sendCtl s p "Ts1" (selfCaps s p ++ [p, 1])
  | .lock => sendCtl s p "Ts2" (selfCaps s p ++ [p, 1])
  | .config => sendCtl s p "Config" (selfCaps s p)
  | _ => s

/-- Leave whatever state the link is in for DOWN, DETECT or RETRAIN; a training from DETECT tries the configured width again (R420); a bound port that is
down halts its rings (R30, R53). -/
def linkTo (s : State) (p : Nat) (st : LinkState) : State :=
  let l := linkOf s p
  let s := setLink s p { l with
    st := st, since := s.now, reduced := (if st = .detect then none else l.reduced), badLanes := (if st = .detect then [] else l.badLanes), goodMarkers := 0, badMarkers := 0, sfCount := none, locked := false, lockLanes := [],
    eqLanes := (if st = .retrain then l.eqLanes else []), spareStage := none, partnerLane := none, spareLane := if l.spareUsed then l.spareLane else none,
    downSince := if l.st = .active then some s.now else l.downSince }
  sendTraining (if st ≠ .retrain ∧ isHostPort s p = true then haltBound s (some p) 3 else s) p

/-- Enter DETECT where the port may train, else DOWN. -/
def detectLink (s : State) (p : Nat) : State := if canTrain s p then linkTo s p .detect else linkTo s p .down

/-- Take a link DOWN. -/
def dropLink (s : State) (p : Nat) : State := linkTo s p .down

/-- Start training of a link that is DOWN. -/
def startLink (s : State) (p : Nat) : State := if (linkOf s p).st = .down ∧ canTrain s p = true then linkTo s p .detect else s

/-- A port of CXL protocol that exists, and whether it may train (18, R501, R516). -/
def cxlPort (s : State) (p : Nat) : Bool := (isHostPort s p || isTray s p) && isCxl s p
def cxlTrains (s : State) (p : Nat) : Bool :=
  cxlPort s p && flag s (portBase p + 0x18) 0 && s.sys.refOk.getLsbD (p / 32) && !localFenced s p && (s.sys.st == .serving || s.sys.st == .restart)

/-- Start the training of a port that is down, by its protocol (R15, R508). -/
def startPort (s : State) (p : Nat) : State :=
  if cxlTrains s p && (tblGet s.link.cxl p {}).st == .down then
    { s with link := { s.link with cxl := tblPut s.link.cxl p { tblGet s.link.cxl p {} with st := .training } } }
  else startLink s p

/-- An ACTIVE link retrains (R413, R415): by LOCK and CONFIG while FAST_RETRAIN is 1, else from DETECT. -/
def leaveActive (s : State) (p : Nat) : State :=
  let s := linkErr s p 3
  if flag s (portBase p + 0x10) 2 then linkTo s p .retrain else bump (detectLink s p) (linkCnt p 12)

/-- Start a retrain of an ACTIVE link, and ask the partner for it (R414, R422). -/
def retrainLink (s : State) (p : Nat) : State :=
  if (linkOf s p).st = .active then leaveActive (sendCtl s p "RetrainReq" []) p else s

/-- Take a link DOWN, from where it trains again where it may (R414). -/
def cycleLink (s : State) (p : Nat) : State := startLink (dropLink s p) p

/-- A training that failed returns to DETECT; after three, TRAIN_FAIL is set and 100 ms pass between attempts (R416). -/
def trainFailed (s : State) (p : Nat) : State :=
  let n := (linkOf s p).trainings + 1
  let s := detectLink (modLink s p (fun l => { l with trainings := n })) p
  if 3 ≤ n then linkErr (modLink s p (fun l => { l with retryAt := s.now + 100000000 })) p 4 else s

/-- Resend every flit from `k` places into the replay buffer on (R430). -/
def resendFrom (s : State) (p k : Nat) : State :=
  let l := linkOf s p
  let late := l.replay.drop k
  let s := setLink s p { l with replay := l.replay.take k ++ late.map (fun e => (e.1, s.now)) }
  sendCtl (bumpBy s (linkCnt p 0) late.length) p "Resend" (late.map (·.1))

/-- What a link that has become new gives up, with a fresh first FSEQ, credits and flit counters (R417). -/
def freshLink (l : Link) : Link :=
  { l with txNext := 0, rxNext := 0, replay := [], rejects := 0, rejLane := none, discarding := false, owed := 0,
           credTx := [], lastReport := [], grant := [], granted := [], owe := [], counters := [], ctlSeen := 0, ctlFails := [], tagFails := 0,
           rolling := none, txPhase := false, rxPhase := false, keyDropped := [] }

/-! ## Training blocks (R413, R414) -/

/-- The number of lanes from 0 on that a list of lanes covers in full. -/
def allLanes (w : Nat) (ls : List Nat) : Bool := (List.range w).all (fun i => ls.contains i)
def addLane (ls : List Nat) (i : Nat) : List Nat := if ls.contains i then ls else ls ++ [i]

/-- TS1 (R414): seen on every lane, DETECT goes to EQ; adapted both ways on every lane, EQ goes to LOCK. -/
def execTs1 (p : PortId) (b : TrainBlock) (s : State) : Out3 :=
  let l := portLink s p.val
  if b.crcOk = false ∨ 8 ≤ b.lane.val then .next s
  else match l.st with
    | .detect =>
      if l.retryAt ≠ 0 then .next s
      else
        let lanes := addLane l.eqLanes b.lane.val
        if allLanes (wantWidth s p.val) lanes then .next (sendTraining (setLink s p.val { l with st := .eq, since := s.now, eqLanes := [], partner := some b }) p.val)
        else .next (setLink s p.val { l with eqLanes := lanes, partner := some b })
    | .eq =>
      if !b.eqDone then .next s
      else
        let lanes := addLane l.eqLanes b.lane.val
        if allLanes (wantWidth s p.val) lanes then
          .next (sendTraining (setLink s p.val { l with st := .lock, since := s.now, eqLanes := lanes, partner := some b, goodMarkers := 0, sfCount := none, locked := false }) p.val)
        else .next (setLink s p.val { l with eqLanes := lanes, partner := some b })
    | _ => .next s

/-- TS2 (R414): in lock both ways on every lane, LOCK goes to CONFIG. -/
def execTs2 (p : PortId) (b : TrainBlock) (s : State) : Out3 :=
  let l := portLink s p.val
  if b.crcOk = false ∨ 8 ≤ b.lane.val ∨ l.st ≠ .lock ∨ b.locked = false then .next s
  else
    let lanes := addLane l.lockLanes b.lane.val
    if allLanes (wantWidth s p.val) lanes && l.locked then .next (sendTraining (setLink s p.val { l with st := .config, since := s.now, lockLanes := lanes }) p.val)
    else .next (setLink s p.val { l with lockLanes := lanes })

/-- TRAINING_TIMEOUT (R414): bounds of 10 ms for EQ, 1 ms for LOCK, 100 µs for CONFIG and 50 µs for RETRAIN. A training whose EQ leaves lanes out
is tried at the widest width whose lanes passed (R420). -/
def execTrainingTimeout (p : PortId) (s : State) : Out3 :=
  let l := portLink s p.val
  let bound := match l.st with
    | .eq => some 10000000
    | .lock => some 1000000
    | .config => some 100000
    | .retrain => some 50000
    | _ => none
  match bound with
  | none => .next s
  | some b =>
    if s.now < l.since + b then .next s
    else if l.st = .retrain then .next (bump (detectLink s p.val) (linkCnt p.val 12))
    else
      let narrower := [4, 2, 1].find? (fun w => w < wantWidth s p.val && allLanes w l.eqLanes)
      let s := trainFailed s p.val
      .next (if l.st = .eq ∧ narrower.isSome then modLink s p.val (fun l => { l with reduced := narrower }) else s)

/-- TRAIN_RETRY_TIMER (R416). -/
def execTrainRetryTimer (p : PortId) (s : State) : Out3 :=
  let l := portLink s p.val
  if l.st = .detect ∧ l.retryAt ≠ 0 ∧ l.retryAt ≤ s.now then .next (setLink s p.val { l with retryAt := 0, eqLanes := [] }) else .next s

/-- Bit j newly set in LANE_STATE. -/
def newLane (old new : Nat) : Option Nat := (List.range 8).find? (fun j => new.testBit j && !old.testBit j)

/-- The physical lanes that carry the logical lanes of the configured width (PORT_LANE_MAP, R418). -/
def mappedLanes (s : State) (p : Nat) : List Nat :=
  let l := linkOf s p
  (List.range (cfgWidth s p)).map (fun j => if l.spareUsed && l.spareLane == some j then 8 else fld s (portBase p + 8) (4 * j) 4)

/-- The physical lanes in use, by logical lane: a degraded port takes the remaining good ones (R420). -/
def lanesInUse (s : State) (p : Nat) : List Nat :=
  let l := linkOf s p
  ((mappedLanes s p).filter (fun q => !l.degraded || !l.badLanes.contains q)).take l.width

/-- The logical lane that a physical lane of the group carries. -/
def logicalOf (s : State) (p q : Nat) : Option Nat := (lanesInUse s p).findIdx? (· == q)

/-- A physical lane of a port has a lasting fault. -/
def markBad (s : State) (p j : Nat) (l : Link) : Link := { l with badLanes := ((lanesInUse s p)[j]?).toList.foldl addLane l.badLanes }

/-- Logical lane j is carried on the spare from the next superframe (R419). -/
def takeSpare (s : State) (p j : Nat) : State :=
  let l := linkOf s p
  if l.spareUsed then s
  else
    let s := linkErr (bump s (linkCnt p 10)) p 1
    setFld (setFld (setLink s p { l with spareUsed := true, spareLane := some j })
      (portBase p + 8) 33 1 1) (portBase p + 8) 34 3 j

/-- SUPERFRAME_MARKER (R411, R413, R419): three good markers make lock, three bad ones lose it. -/
def execSuperframeMarker (p : PortId) (m : Marker17) (s : State) : Out3 :=
  let l := portLink s p.val
  if l.st ≠ .lock ∧ l.st ≠ .config ∧ l.st ≠ .active ∧ l.st ≠ .retrain then .next s
  else
    let syncOk := m.sync == 0x6C2D
    let good := syncOk && l.sfCount.all (fun c => (c + 1) % 256 == m.sfCount.toNat)
    let l := { l with
      sfCount := some (match l.sfCount with
        | some c => if syncOk then m.sfCount.toNat else (c + 1) % 256
        | none => m.sfCount.toNat)
      goodMarkers := if syncOk then l.goodMarkers + 1 else 0
      badMarkers := if good then 0 else l.badMarkers + 1 }
    let l := { l with locked := l.locked || decide (3 ≤ l.goodMarkers) }
    let s1 := setLink s p.val l
    let s1 := if l.st = .retrain ∧ l.goodMarkers = 3 then sendCtl s1 p.val "Config" (selfCaps s1 p.val) else s1
    if 3 ≤ l.badMarkers then
      .next (if l.st = .active then retrainLink s1 p.val else setLink s p.val { l with locked := false, goodMarkers := 0, badMarkers := 0 })
    else if good && l.st == .active then
      let t := setLink s p.val { l with laneState := m.laneState.toNat }
      match newLane l.laneState m.laneState.toNat with
      | some j => .next (if l.partnerLane = some j ∨ l.spareLane = some j then takeSpare t p.val j else t)
      | none => .next t
    else .next s1

/-! ## Configuration (R414, R415, R417) -/

/-- Width as a WIDTH_CAP bit. -/
def widthBit (w : Nat) : Nat := if w = 1 then 0 else if w = 2 then 1 else if w = 4 then 2 else 3

/-- The widest width that both ends and the lanes that passed EQ allow. -/
def agreedWidth (s : State) (p : Nat) (cap : BitVec 4) : Option Nat :=
  [8, 4, 2, 1].find? (fun w => w ≤ wantWidth s p && cap.getLsbD (widthBit w) && allLanes w (linkOf s p).eqLanes)

/-- Credits this end grants on a channel (R426). -/
def grantOf (s : State) (p ch : Nat) : Nat :=
  if ch = 8 then linkCfg s p 14 8 else if 4 ≤ ch then fld s (sliceBase (p / 8) + 8) 0 10 else linkCfg s p 4 10

/-- Tell every known switch that a trunk became ACTIVE (R490). -/
def reportTrunk (s : State) (p peer peerPort : Nat) : State :=
  let known := (s.route.paths.map (·.1) ++ (s.route.eps.map (·.2.switch))).eraseDups
  let s := { s with ras := { s.ras with adj := tblPut s.ras.adj (switchId s * 128 + p) (peer, peerPort) } }
  known.foldl (fun s sw => sendSwitch s sw "TrunkActive" [p, peer, peerPort]) s

/-- The packets that lie in a port island, which a port reset loses (21): held requests and doorbells, Fences, unacknowledged
writebacks. -/
def dropIsland (s : State) (p : Nat) : State :=
  let lost := s.ord.outs.filter (fun o => !internal o.req && o.req.port.val == p && !o.released)
  let s := lost.foldl (fun s o => dropFlight s o.req.src.toNat o.req.tag.toNat) s
  { s with
    ord := { s.ord with outs := s.ord.outs.filter (fun o => internal o.req || !(o.req.port.val == p && !o.released)), fences := s.ord.fences.filter (fun f => f.port != p), wbs := s.ord.wbs.filter (fun w => w.1 != p) }
    rings := { s.rings with dbHeld := s.rings.dbHeld.filter (fun d => d.1 != p) }
    pool := { s.pool with xlateWait := s.pool.xlateWait.filter (fun r => r.port.val != p) } }

/-- The link becomes ACTIVE with a width, encryption and the partner's identity. -/
def linkActive (s : State) (p w : Nat) (enc : Bool) (c : ConfigMsg) : State :=
  let l := linkOf s p
  let fast := decide (l.st = .retrain)
  let new := l.peerEpoch.any (· != c.epoch.toNat)
  let l := { l with st := .active, since := s.now, width := w, degraded := decide (w < cfgWidth s p), encOn := enc, peerSwitch := c.switchId.toNat, peerEpoch := some c.epoch.toNat, trainings := 0, retryAt := 0, wasActive := true, downSince := none, ackAt := s.now }
  let l := if new || l.granted.isEmpty then { freshLink l with granted := (List.range 9).map (fun ch => (ch, grantOf s p ch)) } else l
  let s := setLink s p l
  let s := if fast then bump s (linkCnt p 11) else s
  let s := if new then
      let s := dropIsland (linkErr s p 8) p
      if isHostPort s p then haltBound s (some p) 3 else s
    else s
  let s := sendCtl s p "Credit" (l.granted.map (·.2 % 4096))
  let s := if isTrunk s p then reportTrunk s p c.switchId.toNat ((l.partner.map (·.port.toNat)).getD 127) else s
  if l.replay.isEmpty then s else resendFrom s p 0

/-- CONFIG (R414, R415, R417). -/
def execConfig (p : PortId) (c : ConfigMsg) (s : State) : Out3 :=
  let l := portLink s p.val
  if l.st ≠ .config ∧ ¬(l.st = .retrain ∧ l.locked = true) then .next s
  else
    let want := fld s (portBase p.val + 0x100) 17 12
    let peerOk := if isTrunk s p.val then c.switchId.toNat == want && c.switchId != 0xFFF else c.switchId == 0xFFF
    let mine := linkCfg s p.val 0 2 == 1
    let need := mine || c.encReq
    let can := txKeys s p.val && c.encCap
    if !peerOk then .next (trainFailed (linkErr s p.val 5) p.val)
    else match agreedWidth s p.val c.widthCap with
      | none => .next (trainFailed (linkErr s p.val 4) p.val)
      | some w =>
        if need && !can then .next (trainFailed (linkErr s p.val 4) p.val)
        else .next (linkActive s p.val w need c)

/-- RETRAIN_REQ (R413, R414). -/
def execRetrainReq (p : PortId) (s : State) : Out3 := if (portLink s p.val).st = .active then .next (leaveActive s p.val) else .next s

/-- RETRAIN (R415, R436): a write of PORT_LINK_CTL.RETRAIN; it also ends the DOWN of an authentication failure. -/
def execRetrain (p : PortId) (s : State) : Out3 :=
  let l := portLink s p.val
  if l.authDown then .next (startLink (setLink s p.val { l with authDown := false }) p.val) else .next (retrainLink s p.val)

/-- FULL_RETRAIN (R420, R436): from DETECT, at the configured width. -/
def execFullRetrain (p : PortId) (s : State) : Out3 :=
  let l := portLink s p.val
  if l.authDown then .next (startLink (setLink s p.val { l with authDown := false, reduced := none, badLanes := [] }) p.val)
  else if l.st = .active then .next (bump (detectLink (setLink (linkErr s p.val 3) p.val { l with reduced := none, badLanes := [] }) p.val) (linkCnt p.val 12))
  else .next s

/-! ## Lanes and sparing (R418 to R420) -/

/-- Whether the spare lane of the group can take a lane of the port now: no lane of the group is on it, or being moved to it. -/
def spareFree (s : State) (p : Nat) : Bool :=
  let l := linkOf s p
  let other := linkOf s (if p % 2 = 0 then p + 1 else p - 1)
  flag s (portBase p + 8) 32 && flag s (portBase p + 0x10) 3 && l.partner.any (·.spareCap) && !l.spareUsed && l.spareStage.isNone &&
  l.partnerLane.isNone && !other.spareUsed && other.spareStage.isNone && other.partnerLane.isNone

/-- A lasting lane fault that no spare cures: half the width, or DOWN from one lane (R420). -/
def narrowLink (s : State) (p j : Nat) (why : Nat × Nat × Nat) : State :=
  let l := linkOf s p
  let s := logEvent (linkErr s p 2) 1 3 p why.1 0 0 0 why.2.1 why.2.2
  if l.width ≤ 1 then cycleLink s p
  else retrainLink (modLink s p (fun l => { markBad s p j l with reduced := some (l.width / 2), degraded := true })) p

/-- A lasting fault of logical lane j (R419), with its cause and details (R484): its replacement starts, or the port narrows. -/
def laneFault (s : State) (p j : Nat) (why : Nat × Nat × Nat) : State :=
  if spareFree s p then
    sendCtl (modLink s p (fun l => { markBad s p j l with spareLane := some j, spareStage := some .asked, spareSince := s.now, spareWhy := why })) p "LaneReq" [j, 1]
  else narrowLink s p j why

/-- Whether this end may put logical lane `j` on the spare for its partner (R17, R418): the spare is wired, enabled and free, or is already being taken
for that lane. -/
def spareServes (s : State) (p j : Nat) : Bool :=
  let l := linkOf s p
  decide (j < l.width) && (spareFree s p || (l.spareStage.isSome && l.spareLane == some j && !l.spareUsed && l.partnerLane.all (· == j)))

/-- LANE_REQ from the partner (R419); a request that the spare cannot serve gets no answer, and the partner abandons it. -/
def execLaneReq (p : PortId) (lane : Fin 8) (op : LaneOp) (s : State) : Out3 :=
  let l := portLink s p.val
  if l.st ≠ .active then .next s
  else match op with
    | .start =>
      if spareServes s p.val lane.val then .next (sendCtl (setLink s p.val { l with partnerLane := some lane.val }) p.val "LaneAck" [lane.val])
      else .next s
    | .done => .next (setLink s p.val { l with partnerLane := none })
    | .abandon => .next (retrainLink (setLink s p.val { l with partnerLane := none }) p.val)

/-- LANE_ACK (R419, step 2). -/
def execLaneAck (p : PortId) (lane : Fin 8) (s : State) : Out3 :=
  let l := portLink s p.val
  if l.st = .active ∧ l.spareStage = some .asked ∧ l.spareLane = some lane.val then
    .next (setLink s p.val { l with spareStage := some .copied, spareSince := s.now })
  else .next s

/-- SPARE_RX_ADAPTED (R419, steps 3 to 5): the switch is announced in a marker, and LANE_REQ(j, DONE) follows. -/
def execSpareRxAdapted (p : PortId) (s : State) : Out3 :=
  let l := portLink s p.val
  match l.spareLane with
  | none => .next s
  | some j =>
    if l.st ≠ .active ∨ l.spareStage ≠ some .copied ∨ s.now > l.spareSince + 50000 then .next s
    else
      let st := l.laneState ||| 2 ^ j
      let s := setLink s p.val { l with spareStage := none, laneState := st }
      let s := sendCtl s p.val "Marker" [st]
      let s := errorRecord (takeSpare s p.val j) { kind := 1, cls := 2, idx := p.val, cause := l.spareWhy.1, d0 := l.spareWhy.2.1, d1 := l.spareWhy.2.2, spareKind := 1, spareIdx := p.val / 2 }
      .next (sendCtl s p.val "LaneReq" [j, 2])

/-- LANE_REPLACE_TIMEOUT (R419): not acknowledged within 3 µs, or not adapted within 50 µs: abandoned, and the port retrains. -/
def execLaneReplaceTimeout (p : PortId) (s : State) : Out3 :=
  let l := portLink s p.val
  let due := match l.spareStage with
    | some .asked => decide (l.spareSince + 3000 ≤ s.now)
    | some .copied => decide (l.spareSince + 50000 < s.now)
    | _ => false
  if due then
    let s := sendCtl (setLink s p.val { l with spareStage := none, spareLane := none }) p.val "LaneReq" [l.spareLane.getD 0, 3]
    .next (retrainLink s p.val)
  else .next s

/-! ## Flits, acknowledgements and replay (R421 to R432, R434, R436) -/

/-- Take in an ACKSEQ (R429), which also ends a key rollover (R435). -/
def takeAck (s : State) (p : Nat) (a : Nat) : State :=
  let l := linkOf s p
  match l.replay.findIdx? (fun e => e.1 == a) with
  | none => s
  | some i =>
    let gone := (l.replay.take (i + 1)).map (·.1)
    setLink s p { l with replay := l.replay.drop (i + 1), rolling := l.rolling.filter (fun f => !gone.contains f) }

/-- Take in a cumulative credit report of a channel (R427): the first is the grant. -/
def takeCredit (s : State) (p ch v : Nat) : State :=
  let l := linkOf s p
  match tblFind l.lastReport ch with
  | none => setLink s p { l with lastReport := tblPut l.lastReport ch v, grant := tblPut l.grant ch v, credTx := tblPut l.credTx ch v }
  | some last =>
    let have_ := tblGet l.credTx ch 0 + (v + 4096 - last) % 4096
    if tblGet l.grant ch 0 < have_ then retrainLink (linkErr s p 9) p
    else setLink s p { l with lastReport := tblPut l.lastReport ch v, credTx := tblPut l.credTx ch have_ }

/-- Acknowledgement and credit fields of a good flit's header. -/
def takeHeader (s : State) (p : Nat) (f : Flit) : State :=
  let s := match f.ack with
    | some a => takeAck s p a.toNat
    | none => s
  match f.credit with
  | some (ch, v) => takeCredit s p ch.val v.toNat
  | none => s

/-- Send a NAK naming the expected FSEQ (R430). -/
def sendNak (s : State) (p : Nat) : State :=
  let l := linkOf s p
  sendCtl (bump (setLink s p { l with discarding := true, nakAt := s.now }) (linkCnt p 6)) p "Nak" [l.rxNext]

/-- Take the port DOWN for an authentication failure (R436). -/
def authFail (s : State) (p : Nat) : State :=
  dropLink (modLink (logEvent (linkErr s p 6) 1 3 p 0xD 0 0 0 (linkOf s p).rxNext 0) p (fun l => { l with authDown := true })) p

/-- A rejected Ctl flit is lost; sixteen failed tags within 1 ms take the port DOWN (R423, R436). -/
def rejectCtl (s : State) (p : Nat) (tag : Bool) : State :=
  if tag then
    let s := modLink s p (fun l => { l with ctlFails := l.ctlFails.filter (fun t => s.now < t + 1000000) ++ [s.now] })
    if 16 ≤ (linkOf s p).ctlFails.length then authFail s p else s
  else s

/-- A rejection of the expected flit (R430, R432, R436): a NAK; the second is lasting and is diagnosed; the eighth takes the port DOWN. -/
def rejectFlit (s : State) (p : Nat) (lane : Option Nat) (tag : Bool) : State :=
  let l := linkOf s p
  let n := l.rejects + 1
  let same := if n = 1 then lane else if l.rejLane = lane then lane else none
  let t := l.tagFails + (if tag then 1 else 0)
  let s := sendNak (setLink s p { l with rejects := n, rejLane := same, tagFails := t }) p
  if tag && decide (2 ≤ t) then authFail s p
  else if n = 8 then cycleLink (logEvent s 1 3 p 4 0 0 0 l.rxNext (lane.getD 0xFF)) p
  else if n = 2 then
    let s := linkErr (bump s (linkCnt p 9)) p 0
    match same with
    | some j => laneFault s p j (4, l.rxNext, j)
    | none => retrainLink (logEvent s 1 3 p 4 0 0 0 l.rxNext 0xFF) p
  else s

/-- Accept the expected flit (R430, R432, R435): a flit of a new key phase drops the old phase's key. Its messages pass on; each one's credit is returned as
it leaves the ingress role (R426). -/
def acceptFlit (s : State) (p : Nat) (f : Flit) : State :=
  let l := linkOf s p
  let turned := f.enc && f.phase != l.rxPhase
  let old := if l.rxPhase then 3 else 2
  let s := setLink s p { l with
    rxNext := (l.rxNext + 1) % 4096, rejects := 0, rejLane := none, tagFails := 0, discarding := false, owed := l.owed + 1,
    rxPhase := (if f.enc then f.phase else l.rxPhase), keyDropped := (if turned then [old] else l.keyDropped),
    owe := f.msgs.foldl (fun g ch => tblMod g ch.val 0 (· + 1)) l.owe }
  let s := if turned then { s with link := { s.link with keys := tblErase s.link.keys (4 * p + old) } } else s
  let s := bump s (linkCnt p 1)
  if l.rejects = 1 then logEvent (bump s (linkCnt p 8)) 1 1 p 4 0 0 0 l.rxNext 0xFF else s

/-- Corrected symbols of a flit, by physical lane: counted, and kept for 1 ms (R419, R439). -/
def countCorr (s : State) (p : Nat) (corr : List (Fin 9 × Nat)) : State :=
  if corr.isEmpty then s
  else
    let s := corr.foldl (fun s c => bumpBy (bumpBy s (linkCnt p 5) c.2) (portBase p + 0x880 + 8 * c.1.val) c.2) s
    modLink s p (fun l => { l with ser := l.ser.filter (fun e => s.now < e.1 + 1000000) ++ corr.map (fun c => (s.now, c.1.val, c.2)) })

/-- Symbols corrected on a physical lane within the last 1 ms. -/
def serSum (s : State) (p q : Nat) : Nat :=
  ((linkOf s p).ser.filter (fun e => s.now < e.1 + 1000000 && e.2.1 == q)).foldl (fun n e => n + e.2.2) 0

/-- A lane whose corrected symbols exceed SER_THRESH within 1 ms has a lasting fault, but for one that is being replaced (R419). -/
def serCheck (s : State) (p : Nat) : State :=
  let l := linkOf s p
  let lanes := (List.range 9).filterMap (fun q => (logicalOf s p q).map (fun j => (q, j)))
  match lanes.find? (fun e => decide (linkCfg s p 32 16 < serSum s p e.1) && !(l.spareStage.isSome && l.spareLane == some e.2)) with
  | some (q, j) =>
    if l.st = .active then laneFault (modLink s p (fun l => { l with ser := l.ser.filter (fun e => e.2.1 != q) })) p j (2, j, serSum s p q) else s
  | none => s

/-- Whether a flit of an encrypted link is encrypted under a phase whose receive key is held (R433, R435). -/
def rxOpens (s : State) (p : Nat) (f : Flit) : Bool := f.enc && tblGet s.link.keys (4 * p + (if f.phase then 3 else 2)) 0 == 31

/-- A flit of an ACTIVE link (R410, R421 to R436). A rejected flit that comes while none is being discarded stands at the expected place; every later
one is discarded until the expected one arrives. -/
def takeFlit (s : State) (q : Nat) (f : Flit) : State :=
  let l := linkOf s q
  let check := if f.check = .good ∧ l.encOn = true ∧ rxOpens s q f = false then FlitCheck.tag else f.check
  let bad (s : State) (lane : Option Nat) (tag : Bool) : State :=
    if f.ctl then rejectCtl s q tag
    else if f.fseq.toNat = l.rxNext ∨ l.discarding = false then rejectFlit s q lane tag
    else s
  match check with
  | .fec lane => bad (bump s (linkCnt q 4)) (lane.map (·.val)) false
  | .crc => bad (bump s (linkCnt q 3)) none false
  | .format => bad (bump s (linkCnt q 3)) none false
  | .tag => bad (linkErr (bump s (linkCnt q 13)) q 6) none true
  | .good =>
    if f.ctl then
      if f.enc && decide (f.ctlCount ≤ l.ctlSeen) then s
      else takeHeader (setLink s q { l with ctlSeen := if f.enc then f.ctlCount else l.ctlSeen }) q f
    else if f.fseq.toNat = l.rxNext then takeHeader (acceptFlit s q f) q f
    else s

/-- FLIT_RECEIVE (R410, R419, R421 to R436). -/
def execFlitReceive (p : PortId) (f : Flit) (s : State) : Out3 :=
  if (portLink s p.val).st ≠ .active then .next s
  else .next (serCheck (takeFlit (countCorr s p.val f.corr) p.val f) p.val)

/-- Send an IDLE flit with the acknowledgement (R412, R429). -/
def sendIdle (s : State) (p : Nat) : State :=
  let l := linkOf s p
  sendCtl (bump (setLink s p { l with owed := 0, ackAt := s.now }) (linkCnt p 2)) p "Idle" [(l.rxNext + 4095) % 4096]

/-- IDLE (R412): a slot without a flit carries an IDLE Ctl flit. -/
def execIdle (p : PortId) (s : State) : Out3 := if (portLink s p.val).st = .active then .next (sendIdle s p.val) else .next s

/-- NAK (R430): resend from the named FSEQ in order. -/
def execNak (p : PortId) (fseq : BitVec 12) (s : State) : Out3 :=
  let l := portLink s p.val
  if l.st ≠ .active then .next s
  else match l.replay.findIdx? (fun e => e.1 == fseq.toNat) with
    | some i => .next (resendFrom s p.val i)
    | none => .next s

/-- CREDIT (R427). -/
def execCredit (p : PortId) (ch : Fin 9) (value : BitVec 12) (s : State) : Out3 :=
  if (portLink s p.val).st = .active then .next (takeCredit s p.val ch.val value.toNat) else .next s

/-- REPLAY_TIMEOUT (R430): due when the oldest unacknowledged flit has waited REPLAY_TO. -/
def execReplayTimeout (p : PortId) (s : State) : Out3 :=
  let l := portLink s p.val
  match l.replay with
  | [] => .next s
  | e :: _ =>
    if l.st = .active ∧ e.2 + 100 * linkCfg s p.val 22 10 ≤ s.now then .next (bump (resendFrom s p.val 0) (linkCnt p.val 7)) else .next s

/-- NAK_REPEAT (R430). -/
def execNakRepeat (p : PortId) (s : State) : Out3 :=
  let l := portLink s p.val
  if l.st = .active ∧ l.discarding = true ∧ l.nakAt + 500 ≤ s.now then .next (sendNak s p.val) else .next s

/-- ACK_TIMER (R429): after ACK_MAX flits, or 500 ns after the last acknowledgement. -/
def execAckTimer (p : PortId) (s : State) : Out3 :=
  let l := portLink s p.val
  if l.st = .active ∧ 0 < l.owed ∧ (linkCfg s p.val 48 8 ≤ l.owed ∨ l.ackAt + 500 ≤ s.now) then .next (sendIdle s p.val) else .next s

/-- ROLL (R435): the transmitter changes phase from the next new flit; ignored while a rollover is pending. -/
def execRoll (p : PortId) (s : State) : Out3 :=
  let l := portLink s p.val
  if l.rolling.isSome then .next s
  else
    let ph := if l.txPhase then 0 else 1
    .next (setLink s p.val { l with txPhase := !l.txPhase, rolling := some l.txNext, counters := tblPut l.counters ph 0 })

/-! ## Port reset (R508) -/

/-- The bits of a value that a reset of set-up fields leaves, the rest at their reset values (R507). -/
def keepRw (fs : List Field) (v : Nat) : Nat :=
  fs.foldl (fun v f => if f.acc = .rwl ∨ f.acc = .rwo then withBits v f.lo f.len f.reset else v) v

/-- Return every RWL and RWO field of a block to its reset value; its RWO fields may be written again (R10). -/
def resetSetup (s : State) (lo hi : Nat) : State :=
  s.regs.foldl (fun s e =>
    if lo ≤ e.1 ∧ e.1 < hi then
      match regInfo e.1 with
      | some i => regSet s e.1 (BitVec.ofNat 64 (keepRw i.fields e.2.toNat))
      | none => s
    else s) { s with mgmt := { s.mgmt with once := s.mgmt.once.filter (fun e => e.1 < lo || hi ≤ e.1) } }

/-- Clear the link keys of a port. -/
def clearKeys (s : State) (p : Nat) : State :=
  { s with regs := s.regs.filter (fun e => !(decide (portBase p + 0x40 ≤ e.1 ∧ e.1 < portBase p + 0x100))), link := { s.link with keys := s.link.keys.filter (fun e => e.1 / 4 != p) } }

/-- What a link keeps when all else of it is lost: a spare lane that has replaced another stays in its place (R480). -/
def keptSpare (l : Link) : Link :=
  { spareUsed := l.spareUsed, spareLane := if l.spareUsed then l.spareLane else none, laneState := if l.spareUsed then l.laneState else 0 }

/-- A port reset: link state, replay, credits, flit counters and keys are lost, the epoch rises, bound rings halt (R508). A tray keeps its pages, which
are served again once it is brought up. -/
def portReset (s : State) (p : Nat) (byCtl : Bool) : State :=
  let host := isHostPort s p
  let l := linkOf s p
  let fresh : Link := { keptSpare l with epoch := (l.epoch + 1) % 256, peerEpoch := l.peerEpoch, peerSwitch := l.peerSwitch, since := s.now, wasActive := l.wasActive, downSince := if l.st = .active then some s.now else l.downSince }
  let s := clearKeys (setLink s p fresh) p
  let s := { s with link := { s.link with cxl := tblErase s.link.cxl p } }
  let s := dropIsland s p
  let s := if host then haltBound s (some p) 3 else s
  if byCtl then setBit (resetSetup s (portBase p) (portBase p + 0x1000)) (portBase p) 8
  else startPort s p

/-- A port number that does not exist while its bond is in force gives up its link, its packets and its rings (R16). -/
def retireOdd (s : State) (p : Nat) : State :=
  if bondOdd s p then
    haltBound (dropIsland { s with link := { s.link with
      links := tblUpd s.link.links p (fun l => { keptSpare l with epoch := l.epoch, peerEpoch := l.peerEpoch, peerSwitch := l.peerSwitch }), cxl := tblErase s.link.cxl p } } p) (some p) 3
  else s

/-- A port reset started by PORT_RESET. That of the odd port of a bond in force ends the bond, and takes the bonded port down with it (assumption log,
entry 97). -/
def resetByCtl (s : State) (p : Nat) : State :=
  if bondOdd s p then portReset (portReset s p true) (p - 1) false else portReset s p true

/-- PORT_RESET (R508): during a warm reset it is applied after "device open" (R511). -/
def execPortReset (p : PortId) (s : State) : Out3 :=
  if s.sys.st = .quiesce ∨ s.sys.st = .restart then .next { s with sys := { s.sys with deferred := s.sys.deferred ++ [(5, p.val)] } }
  else .next (resetByCtl s p.val)

/-! ## Telemetry (R404, R405) -/

/-- The bin of a depth in bytes, and of a sojourn in ns. -/
def depthBin (n : Nat) : Nat := if n = 0 then 0 else if n < 512 then 1 else Nat.min 15 (Nat.log2 (n / 256) + 1)
def sojournBin (n : Nat) : Nat := if n < 20 then 1 else Nat.min 15 (Nat.log2 (n / 10) + 1)

/-- Add a sample of some queues to histogram set `set` of a port. -/
def sampleSet (s : State) (p set : Nat) (q : List EPkt) : State :=
  let a := p * 0x1800 + set * 0x100
  let d := depthBin (q.map (·.len)).sum
  let b := match q with
    | [] => 0
    | e :: r => sojournBin (s.now - r.foldl (fun t x => Nat.min t x.entered) e.entered)
  { s with cong := { s.cong with hist := tblMod (tblMod s.cong.hist (a + 8 * d) 0 (fun n => (n + 1) % 2 ^ 64)) (a + 0x80 + 8 * b) 0 (fun n => (n + 1) % 2 ^ 64) } }

/-- TELEMETRY_SAMPLE (R404): due once every 1 µs. -/
def execTelemetrySample (p : PortId) (s : State) : Out3 :=
  let due := match tblFind s.cong.lastSample p.val with
    | none => true
    | some t => decide (t + 1000 ≤ s.now)
  if !due then .next s
  else
    let s := { s with cong := { s.cong with lastSample := tblPut s.cong.lastSample p.val s.now } }
    let s := (List.range 8).foldl (fun s c => sampleSet s p.val c (queued s p.val c)) s
    .next ((List.range 16).foldl (fun s w =>
      let a := portBase p.val + 0x680 + 8 * w
      if flag s a 15 then sampleSet s p.val (8 + w) ((queued s p.val (fld s a 0 3)).filter (fun e => e.tq == some (fld s a 3 12))) else s) s)

/-- Copy every live histogram of a port into its array (R405). -/
def snapPort (s : State) (p : Nat) : State :=
  let lo := p * 0x1800
  (s.cong.hist.filter (fun e => decide (lo ≤ e.1 ∧ e.1 < lo + 0x1800))).foldl (fun s e => regSet s (telemetryBase + e.1) (BitVec.ofNat 64 e.2)) s

/-- PORT_TEL_SNAP (R405): every histogram of the port is copied into the array; SNAP_DONE is set. -/
def execPortTelSnap (p : PortId) (s : State) : Out3 := .next (setBit (snapPort s p.val) (portBase p.val + 0x660) 1)

/-! ## Endpoint messages (R387, R394, R424) -/

/-- Whether policer `i` of a port is valid and polices a key in a class. -/
def policerTakes (s : State) (p i : Nat) (key : Key) (tc : Nat) : Bool :=
  let a := portBase p + 0xB00 + 16 * i
  flag s a 20 && fld s a 0 16 == key.toNat && flag s a (16 + tc) && decide (fld s (a + 8) 0 16 ≤ fld s (a + 8) 16 16) &&
  fld s (a + 8) 32 16 != 0 && fld s (a + 8) 48 16 != 0

/-- The two-rate three-colour marker of RFC 2698, for a packet of `len` bytes: buckets in thousandths of a bit. -/
def police (s : State) (p i : Nat) (pre : Colour) (len : Nat) : Colour × State :=
  let a := portBase p + 0xB00 + 16 * i
  let cbs := 8192000 * fld s (a + 8) 32 16
  let pbs := 8192000 * fld s (a + 8) 48 16
  let b := tblGet s.cong.policers (p * 64 + i) { c := cbs, p := pbs, at_ := s.now }
  let dt := s.now - b.at_
  let c := Nat.min cbs (b.c + dt * 100 * fld s (a + 8) 0 16)
  let q := Nat.min pbs (b.p + dt * 100 * fld s (a + 8) 16 16)
  let need := 8000 * len
  let pre := if flag s a 21 then pre else .green
  let put (b : Policer) : State := { s with cong := { s.cong with policers := tblPut s.cong.policers (p * 64 + i) b } }
  if pre = .red ∨ q < need then (.red, put ⟨c, q, s.now⟩)
  else if pre = .yellow ∨ c < need then (.yellow, put ⟨c, q - need, s.now⟩)
  else (.green, put ⟨c - need, q - need, s.now⟩)

/-- Colour a message at a host port's ingress (R394). -/
def colourOf (s : State) (p : Nat) (key : Key) (tc : Nat) (pre : Colour) (len : Nat) (tethered : Bool) : Colour × State :=
  if 4 ≤ tc then (.green, s)
  else if !isHostPort s p then (pre, s)
  else if tethered then (.green, s)
  else match (List.range 64).find? (fun i => policerTakes s p i key tc) with
    | none => (.green, s)
    | some i =>
      let (c, s) := police s p i pre len
      (c, bump s (portCongCnt p (match c with
        | .green => 2
        | .yellow => 3
        | .red => 4)))

/-- EPMSG (R386, R394, R424): an endpoint message of a host port in TC3 to TC0 goes to its destination's port here, or on a bridle. -/
def execEpmsg (p : PortId) (dst : Endpoint) (tc : Tc) (flow : BitVec 16) (key : Key) (colour : Colour) (data : Line) (s : State) : Out3 :=
  let s := creditBack s p.val tc.toNat
  if s.sys.st ≠ .serving ∨ isHostPort s p.val = false ∨ 4 ≤ tc.toNat then .next s
  else if !ingressKey s p.val key then .next (bump s (portRouteCnt p.val 0))
  else
    let src := portEp s p.val
    let place := epWhere s dst
    let dsw := match place with
      | .on sw => sw
      | _ => switchId s
    let (c, s) := colourOf s p.val key tc.toNat colour 80 (tetherFor s src tc.toNat dsw (some dst)).isSome
    let body (b : Word) : Body := .msg "EpMsg" [b.toNat, dst.toNat, src.toNat, flow.toNat, key.toNat, data.toNat]
    let push (s : State) (q : Nat) (b : Word) : State :=
      if isHostPort s q && !keyMatch s q key then bump s (portRouteCnt q 1)
      else if localFenced s q || !portUp s q then bump s (portRouteCnt q 4)
      else pushEgress s { num := 0, port := q, tc := tc.toNat, tq := none, len := 80, colour := c, body := body b } key false
    match place with
    | .nowhere => .next (bump s (routeCnt 3))
    | .here =>
      match epPort s dst with
      | some q => .next (push s q 0)
      | none => .next s
    | .on sw =>
      match bridleFor s src sw 0 tc.toNat flow.toNat (some dst) with
      | some b => .next (push s (bPort b 0) b)
      | none => .next (bump s (routeCnt 3))

end Sys2Proof.Machine
end

