-- ==== Sys2Proof/Machine/Stacks.lean ====
section
/-! DEFINITION. Events of the memory stacks (10): reads and writes that return from memory, refresh, temperature, re-reads, spare rows
and banks, scrubbing, lost stacks. -/

namespace Sys2Proof.Machine

/-! ## Accesses (R102, R244, R246, R253) -/

/-- Whether a bank yields to switch-die accesses: no sequence is between two preemption points there (R246). -/
def bankYields (s : State) (st b : Nat) : Bool := !s.bau.seqs.any (fun q => q.stack == st && q.bank == b && q.stage == .running && q.granted)

/-- Whether an access to a line can be served by its bank now: a preemption point serves 32 of them, and more while the BAU waits for a grant
(R247, R248, R279). -/
def lineServed (s : State) (line : Nat) : Bool :=
  (bankOfLine s line).all (fun x => bankYields s x.1 x.2 &&
    (seqAt s x.1 x.2 .running).all (fun q => q.waitFrom.isSome || decide (0 < q.window)))

/-- What the checks of a line's codewords come to: whether any is beyond correction, and how many were corrected. -/
def checksBad (c : LineChecks) : Bool := c.all.contains .uncorrectable
def checksFixed (c : LineChecks) : Nat := c.all.count .corrected

/-- Count the corrected codewords of a line. -/
def noteFixed (s : State) (line n : Nat) : State := (List.range n).foldl (fun s _ => noteCorrected s line) s

/-- MEMORY_READ_DONE (R102, R218, R225, R244, R253, R475): a line returns from memory, each of its four codewords checked by the base die and again
by the island. A line with an uncorrectable codeword is re-read once; a T1 block that does not decode is fetched once more; a donor page's line comes
poisoned. -/
def execMemoryReadDone (off : PoolOff) (c : LineChecks) (s : State) : Out3 :=
  let line := off.toNat / 64
  if !readAwaited s line || s.coh.rereads.contains line || s.coh.refetch.contains line || !lineServed s line then .next s
  else
    let s := takeWindow s line
    match (backAt s (line / 1024)).map (fun b => locTier b.loc) with
    | some .t1 =>
      if checksBad c then .next { s with coh := { s.coh with refetch := s.coh.refetch ++ [line] } }
      else
        let s := match backIdOf s (line / 1024) with
          | some id => noteDecoded s id [line % 1024 / 64]
          | none => s
        .next (deliverRead s line false)
    | some .t2 => .next (deliverRead s line (checksBad c))
    | _ =>
      let s := noteFixed s line (checksFixed c)
      if checksBad c then .next { s with coh := { s.coh with rereads := s.coh.rereads ++ [line] } } else .next (deliverRead s line false)

/-- MEMORY_WRITE_DONE (R98, R100, R246). -/
def execMemoryWriteDone (off : PoolOff) (s : State) : Out3 :=
  if lineServed s (off.toNat / 64) then writeReached (takeWindow s (off.toNat / 64)) (off.toNat / 64) else .next s

/-! ## Refresh and temperature (R249 to R252) -/

/-- REFRESH_DUE (R249, R250): served at once, or postponed while a sequence runs between preemption points. A refresh that four later
ones overtake is late. -/
def execRefreshDue (st : StackId) (b : BankId) (s : State) : Out3 :=
  if bankYields s st.val b.val then .next (serveRefresh s st.val b.val)
  else
    let r := stackOf s st.val
    let n := tblGet r.refDue b.val 0
    let s := setStack s st.val { r with refDue := tblPut r.refDue b.val (n + 1) }
    .next (if 4 ≤ n then stackErr s st.val 5 else s)

/-- A thermal event (R252, R531). -/
def thermalEvent (s : State) : State := bump (raiseAlert s 0) (pwrCnt 1)

/-- Whether a sensor, as last seen, holds THERMTRIP_N low: a switch die sensor above 120 °C less 10 °C, or a stack above 105 °C less 10 °C (R532). -/
def stillHot (s : State) : Bool := s.pwr.hot.any (fun e => decide (110 < e.2)) || s.stk.stackRecs.any (fun e => decide (95 < e.2.temp))

/-- Least target of an AVS rail, in mV (R521); its range is 60 mV. -/
def avsLow (r : Nat) : Nat := if r = 2 then 770 else 720

/-- The bring-up starts (R516, R523): every rail and reference is good, and the fused targets of the AVS rails are written. -/
def startBringUp (s : State) : State :=
  { s with
    sys := { s.sys with porst := false, refOk := 0xF, mgmtRefOk := true }
    pwr := { s.pwr with rails := 0x1FF, porHigh := false, mv := (List.range 3).map (fun r => (r, avsLow r + (Config.avsFused r).val)) } }

/-- THERMTRIP_N rises once PORST_N has been asserted and no sensor holds it; a release of PORST_N that waited for that starts the bring-up
(R532, R540). -/
def releaseTrip (s : State) : State :=
  if s.pwr.tripped && s.sys.porst && !stillHot s then
    let s := emit { s with pwr := { s.pwr with tripped := false } } (.pin "THERMTRIP_N" true)
    if s.pwr.porHigh then startBringUp s else s
  else s

/-- TEMP_SAMPLE (R251, R252, R531). -/
def execTempSample (st : StackId) (t : BitVec 8) (s : State) : Out3 :=
  let st := st.val
  let r := stackOf s st
  let c (lo : Nat) : Nat := fld s (stackBase st) lo 8
  let ms := s.now / 1000000 - r.sampledAt / 1000000
  let s := if r.ext then bumpBy s (stackCnt st 9) ms else s
  let s := if r.hot then bumpBy s (stackCnt st 10) ms else s
  let cool := decide (t.toNat ≤ c 8)
  let ext := if c 0 ≤ t.toNat then true else if cool then false else r.ext
  let hot := if c 16 ≤ t.toNat then true else if cool then false else r.hot
  let s := setStack s st { r with temp := t.toNat, ext := ext, hot := hot, sampledAt := s.now }
  .next (releaseTrip (if hot && !r.hot then thermalEvent (stackErr s st 6) else s))

/-! ## Errors and sparing (R253 to R257) -/

/-- DRAM_REREAD (R253, R254, R195, R483): the second read of an uncorrectable line. -/
def execDramReread (off : PoolOff) (good : Bool) (s : State) : Out3 :=
  let line := off.toNat / 64
  if !s.coh.rereads.contains line then .next s
  else
    let s := { s with coh := { s.coh with rereads := s.coh.rereads.erase line } }
    match bankOfLine s line, backIdOf s (line / 1024) with
    | some (st, b), some id =>
      if good then .next (deliverRead (logEvent (bump s (stackCnt st 1)) 4 1 st 0x0001 0 0 (fabAddr s (line * 64)) b 1) line false)
      else
        let kept := (backById s id).any (fun x => x.copy.isSome && x.dirty == 0)
        let key := ((extentAt s (line * 64)).map (·.owner)).getD 0
        let s := bump s (stackCnt st 2)
        let (ok, s) := spareRow s st b (dramOf s line).1 (dramOf s line).2
        if kept then .next (deliverRead (if ok then logEvent s 4 2 st 0x0001 0 0 (fabAddr s (line * 64)) b 1 else s) line false)
        else
          let s := setPoison (stackErr s st 4) id (line % 1024) true
          .next (deliverRead (logEvent s 4 4 st 0x0001 key 0 (fabAddr s (line * 64)) b 1) line true)
    | _, _ => .next (deliverRead s line (!good))

/-- ROW_SPARE_COPY_DONE (R254): the row is remapped. -/
def execRowSpareCopyDone (st : StackId) (b : BankId) (d : Fin 64) (s : State) : Out3 :=
  let st := st.val
  let k := b.val * 64 + d.val
  let r := stackOf s st
  match r.rowJobs.find? (fun j => j.1 == k) with
  | none => .next s
  | some j =>
    let s := setStack s st { r with rowJobs := r.rowJobs.erase j, rowUsed := tblPut r.rowUsed k (tblGet r.rowUsed k 0 + 1) }
    .next (bump (stackErr s st 1) (stackCnt st 3))

/-- End the evacuations that waited for a stack's replacements. -/
def endEvacs (s : State) (st : Nat) : State :=
  s.tier.ops.foldl (fun s e => match e.2.kind with
    | .evacuate a _ _ _ => if a = st then finishOp s e.1 else s
    | _ => s) s

/-- The pages that a spare bank unit takes over for an evacuation count as moved (R215, R259). -/
def creditSpare (s : State) (st : Nat) (j : BankJob) : State :=
  match s.tier.ops.find? (fun e => match e.2.kind with
    | .evacuate a _ banks _ => a == st && banks.contains j.bank
    | _ => false) with
  | none => s
  | some (id, o) =>
    let s := setOp (bumpBy (bumpBy s (winchCnt 10) j.pages) (stackCnt st 11) j.pages) id { o with bytes := o.bytes + 65536 * j.pages }
    match o.handle with
    | some h => addProgress s h (65536 * j.pages)
    | none => s

/-- BANK_REPLACE_COPY_DONE (R255 steps 4 and 5, R290): the spare takes the bank's number; a unit it replaces is marked failed. A sequence stopped on
the bank goes on from its checkpoint, where that can be read (`good`). -/
def execBankReplaceCopyDone (st : StackId) (b : BankId) (good : Bool) (s : State) : Out3 :=
  let st := st.val
  let r := stackOf s st
  match r.jobs.find? (fun j => j.bank == b.val) with
  | none => .next s
  | some j =>
    let old := r.spares.map (fun e => if e.2.used && e.2.bank == b.val then (e.1, { e.2 with used := false, failed := true }) else e)
    let used := r.rowUsed.filter (fun e => e.1 / 64 != b.val)
    let s := setStack s st { r with jobs := r.jobs.erase j, spares := tblPut old j.unit { bank := b.val, used := true }, rowUsed := used, rowJobs := r.rowJobs.filter (fun x => x.1 / 64 != b.val), corrected := tblErase r.corrected b.val, rowCorrected := r.rowCorrected.filter (fun x => x.1 / 2 ^ 32 / 64 != b.val) }
    let s := endEvacs (creditSpare (bump s (stackCnt st 4)) st j) st
    .next (nextLaunch (match seqAt s st b.val .running with
      | some q => if good then s else loseCheckpoint s q
      | none => s) st b.val)

/-- The lines of allocated pages that rest in a DRAM bank: backing page and line within it. -/
def linesOfBank (s : State) (st b d : Nat) : List (Nat × Nat) :=
  s.pool.backs.flatMap (fun e =>
    match e.2.loc with
    | .t0 x y f loc =>
      if x = st ∧ e.2.lost = false then
        ((List.range 1024).filter (fun i => (if loc then y == b else y + i / 64 == b) &&
          Config.dramBank (if loc then f * 64 + i else f * 64 + i % 64) % 64 == d)).map (fun i => (e.1, i))
      else []
    | _ => [])

/-- PATROL_SCRUB (R257): corrected copies are written back; an uncorrectable row is replaced, and one of its lines, which the
specification leaves open, is lost. -/
def execPatrolScrub (st : StackId) (b : BankId) (d : Fin 64) (ecc : Ecc) (s : State) : Out3 :=
  let st := st.val
  let b := b.val
  if !bankYields s st b || !(bankWaits s st b).isEmpty then .next s
  else
    let s := bump s (stackCnt st 8)
    match ecc with
    | .clean => .next s
    | .corrected =>
      let (v, s) := draw s
      .next (corrected s st b d.val (v.toNat % 2 ^ 32))
    | .uncorrectable =>
      let (v, s) := draw s
      let (ok, s) := spareRow (bump s (stackCnt st 2)) st b d.val (v.toNat % 2 ^ 32)
      let ls := linesOfBank s st b d.val
      match ls[v.toNat % Nat.max 1 ls.length]? with
      | none => .next (if ok then logEvent s 4 2 st 0x0001 0 0 0 b 1 else s)
      | some (id, line) => .next (setPoison (logEvent s 4 (if ok then 2 else 4) st 0x0001 0 0 0 b 1) id line true)

/-! ## A stack that can no longer be read (R263) -/

/-- Backing pages with a location on a stack. -/
def backsOn (s : State) (st : Nat) : List Nat :=
  (s.pool.backs.filter (fun e => !e.2.lost && (match e.2.loc with
    | .t0 x _ _ _ => x == st
    | _ => false))).map (·.1)

/-- Give up the chunks that move pages to or from a stack. -/
def dropChunksOf (s : State) (st : Nat) : State :=
  let on (l : Loc) : Bool := match l with
    | .t0 x _ _ _ => x == st
    | _ => false
  (s.tier.chunks.filter (fun c => c.stage != .switched && c.pages.any (fun m => on m.old || on m.new))).foldl (fun s c =>
    let s := undoChunk s c
    match opOf s c.op with
    | some o => setOp s c.op { o with skipped := o.skipped + c.pages.length }
    | none => s) s

/-- Take a stack out of service: OFFLINE, its pages served under R195, its sequences POISONED. -/
def loseStack (s : State) (st : Nat) : State :=
  let r := stackOf s st
  if r.mode = .offline then s
  else
    let s := setStack s st { r with mode := .offline, jobs := [], rowJobs := [] }
    let p := (st + 6) % 12
    let s := setStack s p { stackOf s p with mirrorLost := true }
    let s := dropChunksOf s st
    let ids := backsOn s st
    let s := ids.foldl loseBack s
    let lost := (ids.filter (fun i => (backById s i).any (·.lost))).length
    let s := logEvent s 5 4 st 0x0003 0 0 0 0 lost
    (s.bau.seqs.filter (fun q => q.stack == st && q.stage != .committed)).foldl (fun s q =>
      stopSeq s q .poisoned (word (bitsOf q.flags 0 5)) (word q.cycles)) s

/-- STACK_UNREADABLE (R263, R482). -/
def execStackUnreadable (st : StackId) (s : State) : Out3 := .next (endEvacs (loseStack s st.val) st.val)

/-- STACK_BASE_LOGIC_FAULT (R258): all 256 banks are evacuated, or the cause is only recorded while AUTO_EVAC is 0. -/
def execStackBaseLogicFault (st : StackId) (s : State) : Out3 :=
  if (stackOf s st.val).mode = .offline then .next s
  else
    let s := if flag s (stackBase st.val) 48 then s else stackErr s st.val 3
    .next (rasEvac (logEvent s 4 3 st.val 0x0003 0 0 0 0 0) st.val (List.range 256))

end Sys2Proof.Machine
end

