-- ==== Sys2Proof/Machine/TrNum.lean ====
section
/-! DEFINITION. Arithmetic of the Trestle instructions (12, R295 to R298): formats, relations, scalar and vector operations with their
event flags and poison. -/

namespace Sys2Proof.Machine

/-! ## Formats (R295) -/

/-- Width of a format code; 9 is INT64 and 10 FP64. -/
def tBits (f : Nat) : Nat := if f = 9 ∨ f = 10 then 64 else fmtBits f
def tInt (f : Nat) : Bool := f == 9 || fmtInt f
def tLay (f : Nat) : Fmt := if f = 10 then fp64 else fmtOf f

/-- The value of an element. -/
def tVal (f b : Nat) : FVal :=
  if f = 9 then fOfInt (sInt 64 b) else if f = 10 then fDecode fp64 (b % 2 ^ 64) else elemVal f (b % 2 ^ tBits f)

/-- The largest finite magnitude of a floating format. -/
def tMax (f : Nat) : Nat := if f = 10 then 0x7FEFFFFFFFFFFFFF else fmtMax f

/-- The result of floating-point arithmetic in a format with infinities (R297, R269): rounded once. -/
def tRound (f : Nat) (sat : Bool) (v : FVal) : Nat × Nat :=
  let b := fEncode (tLay f) v
  match v with
  | .nan => (b, fInvalid)
  | .inf _ => (b, 0)
  | .fin neg _ _ =>
    let sign := if neg then 2 ^ (tBits f - 1) else 0
    if tMax f < b % 2 ^ (tBits f - 1) then (if sat then (sign + tMax f, fSatHit) else (b, fOverflow)) else (b, 0)

/-- An integer result of `w` bits: wrapped, or saturated (R297). -/
def tWrap (w : Nat) (sat : Bool) (i : Int) : Nat × Nat :=
  let lo : Int := -(2 ^ (w - 1))
  let hi : Int := 2 ^ (w - 1) - 1
  if sat && decide (i < lo) then (sBits w lo, fIntSat) else if sat && decide (hi < i) then (sBits w hi, fIntSat) else (sBits w i, 0)

/-- Arithmetic on two values of a format: exact, then into the format. -/
def tArith (f : Nat) (sat : Bool) (g : FVal → FVal → FVal) (a b : Nat) : Nat × Nat :=
  let v := g (tVal f a) (tVal f b)
  if tInt f then tWrap (tBits f) sat (fInt v)
  else if 5 ≤ f then tRound f sat v else storeVal f sat v

/-- Multiply-add with one rounding. -/
def tFma (f a b c : Nat) : Nat × Nat :=
  let v := fAdd (fMul (tVal f a) (tVal f b)) (tVal f c)
  if tInt f then tWrap (tBits f) false (fInt v) else tRound f false v

/-- Smaller or larger of two elements; a NaN gives the canonical NaN (R141); of two equal values the first. -/
def tMinMax (f : Nat) (max : Bool) (a b : Nat) : Nat × Nat :=
  match fCmp (tVal f a) (tVal f b) with
  | none => if tInt f then (a, 0) else if 5 ≤ f then tRound f false .nan else storeVal f false .nan
  | some .lt => (if max then b else a, 0)
  | some .eq => (a, 0)
  | some .gt => (if max then a else b, 0)

/-- Conversion under R270. -/
def tConv (dst : Nat) (sat : Bool) (v : FVal) : Nat × Nat :=
  if dst = 9 then
    match v with
    | .nan => (0, fInvalid)
    | .inf neg => (if neg then 2 ^ 63 else 2 ^ 63 - 1, fSatHit)
    | .fin neg m e =>
      let i := roundInt neg m e
      if i < -(2 ^ 63) then (2 ^ 63, fSatHit) else if 2 ^ 63 - 1 < i then (2 ^ 63 - 1, fSatHit) else (sBits 64 i, 0)
  else if dst = 10 then
    match v with
    | .inf neg => if sat then ((if neg then 2 ^ 63 else 0) + tMax 10, fSatHit) else (fEncode fp64 v, 0)
    | _ => (fEncode fp64 v, 0)
  else storeVal dst sat v

/-- Relations of integers of `w` bits. -/
def relInt (w code a b : Nat) : Bool :=
  match code with
  | 0 => a == b
  | 1 => a != b
  | 2 => decide (sInt w a < sInt w b)
  | 3 => decide (sInt w a ≤ sInt w b)
  | 4 => decide (sInt w b < sInt w a)
  | 5 => decide (sInt w b ≤ sInt w a)
  | 6 => decide (a < b)
  | _ => decide (b ≤ a)

/-- Relations of floating-point values; with a NaN only NE holds. -/
def relFloat (code : Nat) (a b : FVal) : Bool :=
  match fCmp a b with
  | none => code == 1
  | some o =>
    match code with
    | 0 => o == .eq
    | 1 => o != .eq
    | 2 => o == .lt
    | 3 => o != .gt
    | 4 => o == .gt
    | _ => o != .lt

/-- Whether a relation holds between two elements. -/
def tRel (f code a b : Nat) : Bool := if tInt f then relInt (tBits f) code a b else relFloat code (tVal f a) (tVal f b)

/-! ## Vector registers -/

/-- A vector register: 512 bits and the poison of its 64-bit parts. -/
abbrev VReg := Line × BitVec 8

def vCount (w : Nat) : Nat := 512 / w
def vElem (x : VReg) (w i : Nat) : Nat := bitsOf x.1.toNat (w * i) w
def vBad (x : VReg) (w i : Nat) : Bool := x.2.getLsbD (w * i / 64)

/-- Make a vector register from its elements, each with its poison and flags. -/
def vMake (w : Nat) (g : Nat → Nat × Bool × Nat) : VReg × Nat :=
  let es := (List.range (vCount w)).map g
  let d := es.zipIdx.foldl (fun r e => r + (e.1.1 % 2 ^ w) * 2 ^ (w * e.2)) 0
  let p := (List.range 8).foldl (fun r j => if (es.zipIdx).any (fun e => e.1.2.1 && w * e.2 / 64 == j) then r + 2 ^ j else r) 0
  ((BitVec.ofNat 512 d, BitVec.ofNat 8 p), es.foldl (fun r e => r ||| e.2.2) 0)

/-- An element-wise operation on two registers. -/
def vMap2 (w : Nat) (g : Nat → Nat → Nat × Nat) (a b : VReg) : VReg × Nat :=
  vMake w (fun i =>
    let (x, fl) := g (vElem a w i) (vElem b w i)
    (x, vBad a w i || vBad b w i, fl))

/-- VFMA. -/
def vFma (f : Nat) (a b d : VReg) : VReg × Nat :=
  let w := tBits f
  vMake w (fun i =>
    let (x, fl) := tFma f (vElem a w i) (vElem b w i) (vElem d w i)
    (x, vBad a w i || vBad b w i || vBad d w i, fl))

/-- VDOT (R296, R297): the exact sum of the products that share 32 bits, added to the accumulator once. -/
def vDot (f : Nat) (a b d : VReg) : VReg × Nat :=
  let w := tBits f
  let k := 32 / w
  vMake 32 (fun j =>
    let terms := (List.range k).map (fun t => fMul (tVal f (vElem a w (k * j + t))) (tVal f (vElem b w (k * j + t))))
    let sum := match terms with
      | [] => fOfInt 0
      | x :: r => r.foldl fAdd x
    let (x, fl) := addEntry (tInt f) (BitVec.ofNat 32 (vElem d 32 j)) sum
    (x.toNat, vBad a 32 j || vBad b 32 j || vBad d 32 j, fl))

/-- VCVT (R270): widening reads part `part` of the source, narrowing writes part `part` of the destination. -/
def vCvt (src dst part : Nat) (sat : Bool) (a d : VReg) : VReg × Nat :=
  let ws := tBits src
  let wd := tBits dst
  let n := Nat.min (vCount ws) (vCount wd)
  let from_ := if ws < wd then part * n else 0
  let dest := if wd < ws then part * n else 0
  vMake wd (fun i =>
    if dest ≤ i ∧ i < dest + n then
      let (x, fl) := tConv dst sat (tVal src (vElem a ws (from_ + i - dest)))
      (x, vBad a ws (from_ + i - dest), fl)
    else (vElem d wd i, vBad d wd i, 0))

/-- The pairwise tree of element index: neighbours are combined, level by level. -/
def pairUp {α : Type} (g : α → α → α) : List α → List α
  | a :: b :: r => g a b :: pairUp g r
  | l => l
def pairTree {α : Type} (g : α → α → α) : Nat → List α → List α
  | 0, l => l
  | n + 1, l => pairTree g n (pairUp g l)

/-- VRED (R296, R297): INT64 for integer formats, FP32 in the low half for the others. -/
def vRed (f mode : Nat) (a : VReg) : Nat × Bool × Nat :=
  let w := tBits f
  let es := (List.range (vCount w)).map (vElem a w)
  let bad := a.2 != 0
  if tInt f then
    let g (x y : Int) : Int := if mode = 0 then x + y else if mode = 1 then max x y else min x y
    let r := pairTree g 7 (es.map (fun e => sInt w e))
    (sBits 64 (r.headD 0), bad, 0)
  else
    let g (x y : Nat × Nat) : Nat × Nat :=
      let (z, fl) := if mode = 0 then tArith 7 false fAdd x.1 y.1 else tMinMax 7 (mode == 1) x.1 y.1
      (z, x.2 ||| y.2 ||| fl)
    let r := pairTree g 7 (es.map (fun e => (fEncode fp32 (tVal f e), 0)))
    let x := r.headD (0, 0)
    (x.1, bad, x.2)

/-- VCMP: a mask of the elements, those from 64 on left out. -/
def vCmp (f code : Nat) (a b : VReg) : Nat × Bool :=
  let w := tBits f
  let n := Nat.min 64 (vCount w)
  ((List.range n).foldl (fun r i => if tRel f code (vElem a w i) (vElem b w i) then r + 2 ^ i else r) 0, a.2 != 0 || b.2 != 0)

/-- VCMPRS: the selected elements packed from element 0, zeros after them. -/
def vCmprs (w : Nat) (a : VReg) (m : Nat) (mbad : Bool) : VReg × Nat :=
  let sel := (List.range (vCount w)).filter (fun i => m.testBit i)
  vMake w (fun i => match sel[i]? with
    | some j => (vElem a w j, mbad || vBad a w j, 0)
    | none => (0, mbad, 0))

/-- VBCAST. -/
def vBcast (w x : Nat) (bad : Bool) : VReg × Nat := vMake w (fun _ => (x % 2 ^ w, bad, 0))

end Sys2Proof.Machine
end

