-- ==== Sys2Proof/Machine/TrImage.lean ====
section
/-! DEFINITION. Trestle instructions and kernel images (12): fields, the forms that R295 and R296 allow, and the checks of R308. -/

namespace Sys2Proof.Machine

/-! ## Fields (R295) -/

def kAt (w : Word) (lo n : Nat) : Nat := bitsOf w.toNat lo n
def kOp (w : Word) : Nat := kAt w 0 8
def kD (w : Word) : Nat := kAt w 8 4
def kA (w : Word) : Nat := kAt w 12 4
def kB (w : Word) : Nat := kAt w 16 4
def kFmt (w : Word) : Nat := kAt w 20 4
def kMod (w : Word) : Nat := kAt w 24 4
def kModBit (w : Word) (i : Nat) : Bool := kAt w (24 + i) 1 == 1
def kImm (w : Word) : Nat := kAt w 28 36

/-- Use of a register field: none, scalar or vector. -/
inductive RegUse where
  | no | s | v
  deriving DecidableEq, Repr

/-- What an instruction's form allows: its register fields, formats, modifier bits and immediate bits. -/
structure KForm where
  d : RegUse := .no
  a : RegUse := .no
  b : RegUse := .no
  fmt : Nat → Bool := fun f => f == 0
  mods : Nat := 0
  imm : Nat → Bool := fun i => i == 0

def anyImm : Nat → Bool := fun _ => true
def floatFmt (f : Nat) : Bool := f == 7 || f == 10
def vecFmt (f : Nat) : Bool := f == 2 || f == 8 || f == 5 || f == 6 || f == 7
def anyVecFmt (f : Nat) : Bool := decide (f ≤ 8)
def anyFmt (f : Nat) : Bool := decide (f ≤ 10)
def spaceFmt (f : Nat) : Bool := decide (f ≤ 1)

/-- A two-operand scalar integer instruction (R295): with I the immediate replaces s[B]. -/
def intForm (w : Word) (mods : Nat) (d : RegUse) (fmt : Nat → Bool) : KForm :=
  if kModBit w 0 then { d := d, a := .s, fmt := fmt, mods := mods, imm := anyImm }
  else { d := d, a := .s, b := .s, fmt := fmt, mods := mods }

/-- The relation codes that a format allows. -/
def relOk (f c : Nat) : Bool := if tInt f then decide (c ≤ 7) else decide (c ≤ 5)

/-- Parts of a vector conversion (R295): as many as the ratio of the widths, at most four. -/
def partOk (src dst p : Nat) : Bool :=
  let r := if tBits src < tBits dst then tBits dst / tBits src else tBits src / tBits dst
  decide (p < Nat.min 4 r)

/-- The form of an instruction; none for a reserved OP. -/
def kForm (w : Word) : Option KForm :=
  match kOp w with
  | 0x01 => some { d := .s, imm := anyImm }
  | 0x02 => some { d := .s, imm := anyImm }
  | 0x03 => some (intForm w 1 .s (· == 0))
  | 0x04 => some (intForm w 1 .s (· == 0))
  | 0x05 => some (intForm w 1 .s (· == 0))
  | 0x06 => some (intForm w 1 .s (· == 0))
  | 0x07 => some (intForm w 1 .s (· == 0))
  | 0x08 => some (intForm w 1 .s (· == 0))
  | 0x09 => some (intForm w 1 .s (· == 0))
  | 0x0A => some (intForm w 1 .s (· == 0))
  | 0x0B => some (intForm w 3 .s (· == 0))
  | 0x0C => some (intForm w 7 .s (· == 0))
  | 0x0D => some (intForm w 1 .no (fun f => decide (f ≤ 7)))
  | 0x0E => some { d := .s, a := .s, b := .s }
  | 0x0F => some { d := .s, a := .s }
  | 0x10 => some { d := .s, imm := fun i => decide (i ≤ 5) }
  | 0x11 => some { d := .s, a := .s, b := .s, fmt := floatFmt }
  | 0x12 => some { d := .s, a := .s, b := .s, fmt := floatFmt }
  | 0x13 => some { d := .s, a := .s, b := .s, fmt := floatFmt }
  | 0x14 => some { d := .s, a := .s, b := .s, fmt := floatFmt, mods := 4 }
  | 0x15 => some { a := .s, b := .s, fmt := floatFmt, imm := fun i => decide (i ≤ 5) }
  | 0x16 => some { d := .s, a := .s, fmt := anyFmt, mods := 2, imm := fun i => decide (i ≤ 10) }
  | 0x20 => some { mods := 3, imm := fun i => decide (i < 8192) }
  | 0x21 => some {}
  | 0x22 => some {}
  | 0x23 => some {}
  | 0x24 => some {}
  | 0x25 => some {}
  | 0x26 => some {}
  | 0x30 => some { d := .s, a := .s, fmt := spaceFmt, mods := 7, imm := fun i => decide (i < 2 ^ 34) }
  | 0x31 => some { a := .s, b := .s, fmt := spaceFmt, mods := 3, imm := fun i => decide (i < 2 ^ 33) }
  | 0x32 => some { d := .s, a := .s, b := .s, mods := 15, imm := fun i => i / 128 % 2 ^ 25 == 0 && decide (i < 2 ^ 33) }
  | 0x33 => some { d := .v, a := .s, fmt := spaceFmt, imm := fun i => decide (i < 2 ^ 32) }
  | 0x34 => some { a := .v, b := .s, fmt := spaceFmt, imm := fun i => decide (i < 2 ^ 32) }
  | 0x40 => some { d := .v, a := .v, b := .v, fmt := vecFmt, mods := 2 }
  | 0x41 => some { d := .v, a := .v, b := .v, fmt := vecFmt, mods := 2 }
  | 0x42 => some { d := .v, a := .v, b := .v, fmt := vecFmt }
  | 0x43 => some { d := .v, a := .v, b := .v, fmt := vecFmt, mods := 4 }
  | 0x44 => some { d := .v, a := .v, b := .v, fmt := fun f => decide (f ≤ 6) }
  | 0x45 => some { d := .v, a := .v, fmt := anyVecFmt, mods := 2, imm := fun i => decide (i < 64) && anyVecFmt (i % 16) && partOk (kFmt w) (i % 16) (i / 16) }
  | 0x46 => some { d := .s, a := .v, fmt := anyVecFmt, mods := if kMod w = 6 then 0 else 6 }
  | 0x47 => some { d := .s, a := .v, b := .v, fmt := anyVecFmt, imm := relOk (kFmt w) }
  | 0x48 => some { d := .v, a := .v, b := .s, fmt := anyVecFmt }
  | 0x49 => some { d := .v, a := .s, fmt := anyVecFmt }
  | 0x4A => some { d := .v, a := .s, fmt := anyVecFmt, imm := fun i => decide (i < 64) }
  | 0x4B => some { d := .s, a := .v, fmt := anyVecFmt, imm := fun i => decide (i < 64) }
  | _ => none

def regOk (u : RegUse) (x : Nat) : Bool :=
  match u with
  | .no => x == 0
  | .s => true
  | .v => decide (x < 8)

/-- No reserved OP, field, format or relation is used (R308). -/
def kInsOk (w : Word) : Bool :=
  match kForm w with
  | none => false
  | some k => regOk k.d (kD w) && regOk k.a (kA w) && regOk k.b (kB w) && k.fmt (kFmt w) && kMod w &&& (15 - k.mods) == 0 && k.imm (kImm w)

/-! ## Images (R308) -/

/-- The IF blocks around each instruction, innermost first, each with whether its ELSE has come; ELSE and ENDIF lie inside theirs.
Ends at the first instruction that does not nest properly. -/
def nestings : List Word → Nat → List (Nat × Bool) → List (List Nat) → List (List Nat) × Option Nat
  | [], _, _, acc => (acc.reverse, none)
  | w :: r, i, st, acc =>
    let here := st.map (·.1)
    match kOp w, st with
    | 0x21, _ => if 8 ≤ st.length then (acc.reverse, some i) else nestings r (i + 1) ((i, false) :: st) (here :: acc)
    | 0x22, (j, false) :: t => nestings r (i + 1) ((j, true) :: t) (here :: acc)
    | 0x22, _ => (acc.reverse, some i)
    | 0x23, _ :: t => nestings r (i + 1) t (here :: acc)
    | 0x23, [] => (acc.reverse, some i)
    | 0x26, _ :: _ => (acc.reverse, some i)
    | _, _ => nestings r (i + 1) st (here :: acc)

/-- The IF blocks left open at the end. -/
def openIfs (prog : List Word) : Nat :=
  prog.foldl (fun n w => if kOp w = 0x21 then n + 1 else if kOp w = 0x23 then n - 1 else n) 0

/-- The first instruction at which a program breaks R308. -/
def kernelFault (prog : List Word) : Option Nat :=
  let (lv, bad) := nestings prog 0 [] []
  match bad with
  | some i => some i
  | none =>
    let badAt := (prog.zipIdx).find? (fun e =>
      !kInsOk e.1 || (kOp e.1 == 0x20 && (decide (prog.length ≤ kImm e.1 % 8192) || lv.getD (kImm e.1 % 8192) [] != lv.getD e.2 [])))
    match badAt with
    | some e => some e.2
    | none =>
      let last := prog.getLastD 0
      let ends := kOp last == 0x26 || (kOp last == 0x20 && kMod last == 0)
      if openIfs prog ≠ 0 ∨ ends = false then some (prog.length - 1) else none

/-- The instructions of an image. -/
def imageProg (b : List Byte) : List Word := (List.range (imgNat b 0 4)).map (fun i => BitVec.ofNat 64 (imgNat b (64 + 8 * i) 8))

/-- The instruction at which an image or its length breaks R308: 0 where its header does. -/
def imageFault (b : List Byte) (len : Nat) : Option Nat :=
  let n := imgNat b 0 4
  if n = 0 ∨ 8184 < n ∨ len ≠ 64 + 8 * n ∨ 256 < imgNat b 4 2 ∨ imgNat b 6 58 ≠ 0 then some 0
  else kernelFault (imageProg b)

end Sys2Proof.Machine
end

