-- ==== Sys2Proof/Machine/Trestle.lean ====
section
/-! DEFINITION. Trestle units, gangs and chunks (12): pool requests of a unit, store buffers, chunk boundaries, results, gang faults. -/

namespace Sys2Proof.Machine

/-! ## Units, gangs, launches -/

/-- Whether a logical unit is active (R292). -/
def unitActive (s : State) (u : Nat) : Bool := s.trs.phys.any (fun e => e.2.1 == 0 && e.2.2 == u)
/-- The physical unit of a logical one. -/
def physOf (s : State) (u : Nat) : Option Nat := (s.trs.phys.find? (fun e => e.2.1 == 0 && e.2.2 == u)).map (·.1)
def unitOf (s : State) (u : Nat) : TUnitSt := tblGet s.trs.units u {}
def setUnit (s : State) (u : Nat) (x : TUnitSt) : State := { s with trs := { s.trs with units := tblPut s.trs.units u x } }
def gangOf (s : State) (u g : Nat) : Option Gang := tblFind (unitOf s u).gangs g
def setGang (s : State) (u g : Nat) (x : Gang) : State :=
  setUnit s u { unitOf s u with gangs := tblPut (unitOf s u).gangs g x }
def launchOf (s : State) (h : Nat) : Option TLaunch := tblFind s.trs.launches h
def setLaunch (s : State) (h : Nat) (l : TLaunch) : State :=
  { s with trs := { s.trs with launches := tblPut s.trs.launches h l } }
def modLaunch (s : State) (h : Nat) (f : TLaunch → TLaunch) : State :=
  { s with trs := { s.trs with launches := tblUpd s.trs.launches h f } }
def kslotOf (s : State) (i : Nat) : Option KSlot := tblFind s.trs.slots i

/-- The endpoint of a logical unit (R301). -/
def unitEp (s : State) (u : Nat) : Endpoint := BitVec.ofNat 16 (fld s trestleBase 0 16 + u)

/-- The program of a gang's kernel, and its scratch bytes. -/
def gangSlot (s : State) (x : Gang) : KSlot := ((launchOf s x.launch).bind (fun l => kslotOf s l.slot)).getD { owner := 0 }
def scratchBytes (s : State) (x : Gang) : Nat := 64 * (gangSlot s x).scratch

/-- Whether a launch stops its gangs at their next boundary: a fault, or an ABORT that won (R307, R312). -/
def launchStops (s : State) (h : Nat) : Bool :=
  (launchOf s h).any (fun l => l.stop.isSome) || (handleOf s h).any (fun r => r.abortWon)

/-- Drop a gang that has stopped and has nothing outstanding. -/
def settleGang (s : State) (u g : Nat) : State :=
  match gangOf s u g with
  | some x =>
    if x.ended && x.reqs.isEmpty then setUnit s u { unitOf s u with gangs := tblErase (unitOf s u).gangs g } else s
  | none => s

/-- Put a gang back, dropping it if it is done. -/
def keepGang (s : State) (u g : Nat) (x : Gang) : State := settleGang (setGang s u g x) u g

/-! ## Registers (R293, R298) -/

def lanesOf (m : BitVec 32) : List Nat := (List.range 32).filter (fun t => m.getLsbD t)
def laneMask (ts : List Nat) : BitVec 32 := BitVec.ofNat 32 ((ts.map (2 ^ ·)).sum)
def sGet (r : TRegs) (t i : Nat) : Word × Bool := tblGet r.s (t * 16 + i) (0, false)
def sPut (r : TRegs) (t i : Nat) (v : Word × Bool) : TRegs :=
  { r with s := if v = (0, false) then tblErase r.s (t * 16 + i) else tblPut r.s (t * 16 + i) v }
def vGet (r : TRegs) (i : Nat) : VReg := tblGet r.v i (0, 0)
def vPut (r : TRegs) (i : Nat) (v : VReg) : TRegs := { r with v := if v = (0, 0) then tblErase r.v i else tblPut r.v i v }

/-- Write a scalar register of some threads. -/
def sPuts (r : TRegs) (ts : List Nat) (i : Nat) (f : Nat → Word × Bool) : TRegs := ts.foldl (fun r t => sPut r t i (f t)) r

def isVld : TOpKind → Bool
  | .vld => true
  | _ => false

/-- A register is written again: results still on their way to it are dropped. -/
def overwrite (x : Gang) (v : Bool) (d : Nat) (m : BitVec 32) : Gang :=
  { x with ops := x.ops.map (fun o => if o.d = d ∧ isVld o.kind = v then { o with live := if v then 0 else o.live &&& ~~~m } else o) }

/-! ## Pool requests (R300, R301) -/

/-- Tags of a unit's endpoint in use. -/
def tagsUsed (s : State) (u g : Nat) (x : Gang) : List Nat :=
  let of (y : Gang) : List Nat := (y.reqs.filter (fun q => q.src == u)).map (·.tag) ++ ((y.atoms ++ y.late).filter (fun a => a.src == u)).map (·.tag)
  s.trs.units.flatMap (fun e => e.2.gangs.flatMap (fun y => if e.1 = u ∧ y.1 = g then [] else of y.2)) ++ of x

/-- The `n` lowest free tags of a unit, if it has as many. -/
def freeTags (s : State) (u g : Nat) (x : Gang) (n : Nat) : Option (List Nat) :=
  let used := tagsUsed s u g x
  let free := ((List.range 1024).filter (fun t => !used.contains t)).take n
  if free.length = n then some free else none

/-- The next ASEQ and the ASEQs not retired of a unit toward a home switch. -/
def asqOf (s : State) (u home : Nat) : Nat × List (BitVec 16) := tblGet (unitOf s u).asq home (0, [])

/-- RSEQ of a unit toward a home switch (R157). -/
def rseqOf (s : State) (u home : Nat) : BitVec 16 :=
  let q := asqOf s u home
  q.2.headD (BitVec.ofNat 16 q.1)

/-- Send a pool request of a unit. -/
def unitSend (s : State) (u : Nat) (key : Key) (q : Req) : State :=
  let home := q.addr.toNat / 2 ^ 48
  let q := { q with
    src := unitEp s u, key := 0xFFFF, checked := some key, origin := .ring, tc := 5, rseq := some (rseqOf s u home),
    num := s.ord.arrivals, ro := false }
  let s := bump s (trestleCnt 4)
  pastKey { s with ord := { s.ord with arrivals := s.ord.arrivals + 1 } } q

/-- The address of a line of the fabric address space. -/
def lineAddr (line : Nat) : FabAddr := BitVec.ofNat 60 (line * 64)
def lineHome (line : Nat) : Nat := line / 2 ^ 42

/-- A request with nothing but its kind, tag and line. -/
def lineReq (k : ReqKind) (tag line : Nat) : Req :=
  { kind := k, src := 0, tag := BitVec.ofNat 14 tag, port := 0, addr := lineAddr line, key := 0 }

def launchKey (s : State) (x : Gang) : Key := ((launchOf s x.launch).map (·.key)).getD 0

/-- Send a read of each line under the given tags. -/
def sendReads (s : State) (u : Nat) (x : Gang) (cached : Bool) (op : Option Nat) : List (Nat × Nat) → State × Gang
  | [] => (s, x)
  | (line, tag) :: r =>
    let s := unitSend s u (launchKey s x) (lineReq (if cached then .rdShared else .rdNC) tag line)
    let q : TReq := { src := u, tag := tag, home := lineHome line, line := line, kind := .rd cached, op := op, idx := x.r.pc }
    sendReads s u { x with reqs := x.reqs ++ [q] } cached op r

/-- Send the store of one line: WrLine when it is full, else WrPtl. -/
def sendStore (s : State) (u : Nat) (x : Gang) (e : TStore) (tag : Nat) : State × Gang :=
  let q := lineReq (if e.mask = BitVec.allOnes 64 then .wrLine else .wrPtl) tag e.line
  let s := unitSend s u (launchKey s x) { q with data := e.data, mask := e.mask, poison := e.poison }
  let s := setUnit s u { unitOf s u with cache := (unitOf s u).cache.filter (fun c => c.1 != e.line) }
  (s, { x with reqs := x.reqs ++ [{ src := u, tag := tag, home := lineHome e.line, line := e.line, kind := .wr, idx := e.idx }] })

def sendStores (s : State) (u : Nat) (x : Gang) : List (TStore × Nat) → State × Gang
  | [] => (s, x)
  | (e, tag) :: r =>
    let (s, x) := sendStore s u x e tag
    sendStores s u x r

/-- A unit retires an ASEQ (R157, R304). -/
def retireAseq (s : State) (a : TAtom) : State :=
  let y := unitOf s a.src
  let q := asqOf s a.src a.home
  setUnit s a.src { y with asq := tblPut y.asq a.home (q.1, q.2.filter (· != a.aseq)) }

/-! ## Scratch and store buffer (R302, R303) -/

/-- A scratch line before it is written: free values (assumption log, entry 61). -/
def freshLine (seed line : Nat) : Line :=
  BitVec.ofNat 512 (((List.range 8).map (fun i => (Config.freeValue (seed + 8 * line + i)).toNat * 2 ^ (64 * i))).sum)
def scratchLine (x : Gang) (line : Nat) : Line × Bool := tblGet x.scratch line (freshLine x.seed line, false)

/-- What the store buffer holds of a line. -/
def buffered (x : Gang) (scratch : Bool) (line : Nat) : TStore :=
  (x.buf.find? (fun e => e.scratch == scratch && e.line == line)).getD { scratch := scratch, line := line }

/-- Put bytes into a store buffer. -/
def bufferStore (b : List TStore) (e : TStore) : List TStore :=
  match b.find? (fun y => y.scratch == e.scratch && y.line == e.line) with
  | none => b ++ [e]
  | some y =>
    let z := { y with mask := y.mask ||| e.mask, data := mergeBytes y.data e.data e.mask, idx := e.idx, poison := e.poison || (y.poison && e.mask != BitVec.allOnes 64) }
    b.map (fun t => if t.scratch = e.scratch ∧ t.line = e.line then z else t)

/-- Apply the buffered scratch stores. -/
def commitScratch (x : Gang) : Gang :=
  (x.buf.filter (·.scratch)).foldl (fun x e =>
    let old := scratchLine x e.line
    { x with scratch := tblPut x.scratch e.line (mergeBytes old.1 e.data e.mask, e.poison || (old.2 && e.mask != BitVec.allOnes 64)) }) x

/-! ## Chunk boundaries (R303, R304) -/

/-- The re-runs of a unit have all completed: the event was transient (R305). -/
def rerunDone (s : State) (u : Nat) : State :=
  if (unitOf s u).gangs.any (fun e => e.2.rerun && !e.2.ended) then s else logEvent s 7 1 ((physOf s u).getD 0) 3 0 0 0 0 0

/-- Take a boundary: stores leave in order, the checkpoint is saved, the chunk commits; a gang of a stopping launch stops. None
where the unit lacks tags for the stores. -/
def boundary (s : State) (u g : Nat) (x : Gang) : Option (State × Gang) :=
  let stores := x.buf.filter (fun e => !e.scratch)
  match freeTags s u g x stores.length with
  | none => none
  | some tags =>
    let (s, x) := sendStores s u x (stores.zip tags)
    let x := commitScratch x
    let held := x.atoms.filter (fun a => !x.reqs.any (fun q => q.src == a.src && q.tag == a.tag))
    let s := held.foldl retireAseq s
    let s := modLaunch (bump s (trestleCnt 5)) x.launch (fun l => { l with flags := l.flags ||| x.flags })
    let again := x.rerun
    let x := { x with
      buf := [], atoms := [], atomNext := 0, late := x.late ++ x.atoms.filter (fun a => !held.contains a)
      ck := x.r, ops := x.ops.map (fun o => { o with ckLive := o.live }), chunk := x.chunk + 1
      issued := 0, since := s.now, rerun := false, flags := 0, ended := x.ended || launchStops s x.launch }
    let s := if again then rerunDone (setGang s u g x) u else s
    some (s, x)

/-- Discard a gang's open chunk: it has its checkpoint's registers, its requests' results go nowhere (R304). -/
def discardChunk (x : Gang) : Gang :=
  let kept := x.ops.filter (fun o => decide (o.chunk < x.chunk))
  { x with
    r := x.ck, buf := [], ops := kept.map (fun o => { o with live := o.ckLive }), atomNext := 0, issued := 0, flags := 0, fence := false
    reqs := x.reqs.map (fun q => match q.op with
      | some i => if kept.any (fun o => o.id == i) then q else { q with dead := true }
      | none => if q.kind = .wr then q else { q with dead := true }) }

/-- Stop a gang for good: what it has outstanding drains. -/
def stopGang (s : State) (x : Gang) : State × Gang :=
  let x := discardChunk x
  let held := x.atoms.filter (fun a => !x.reqs.any (fun q => q.src == a.src && q.tag == a.tag))
  (held.foldl retireAseq s, { x with
    ended := true, ops := [], atoms := [], late := x.late ++ x.atoms.filter (fun a => !held.contains a)
    reqs := x.reqs.map (fun q => { q with dead := true }), std := none })

/-- A gang fault (R307). -/
def gangFault (s : State) (u g : Nat) (x : Gang) (st : Status) (idx : Nat) : State :=
  let (s, y) := stopGang s x
  let s := bump s (trestleCnt 9)
  let s := modLaunch s x.launch (fun l => { l with
    stop := match l.stop with
      | some z => some z
      | none => some (st, BitVec.ofNat 64 (idx + x.index * 2 ^ 32)) })
  keepGang s u g y

/-- END (R303): the gang ends after its boundary. -/
def endGang (s : State) (u g : Nat) (x : Gang) : State :=
  let s := modLaunch (bump s (trestleCnt 1)) x.launch (fun l => { l with ended := l.ended + 1 })
  let s := setProgress s x.launch (((launchOf s x.launch).map (·.ended)).getD 0)
  keepGang s u g { x with ended := true, ops := [], reqs := x.reqs.map (fun q => if q.kind = .wr then q else { q with dead := true }) }

/-! ## Results (R299, R302) -/

/-- What came back for a request: data, poison, status, and whether the copy may be cached. -/
structure TResp where
  data : Line := 0
  poison : Bool := false
  status : Status := .ok
  shared : Bool := false

/-- The bytes of an item, over what the store buffer held, and whether they are poisoned. -/
def itemLine (i : TItem) (d : Line × Bool) (n : Nat) : Line × Bool :=
  let mine := (List.range n).map (fun k => i.bmask.getLsbD (i.off + k))
  let p := if mine.all id then i.bpoison else d.2 || (mine.any id && i.bpoison)
  (mergeBytes d.1 i.bdata i.bmask, p)

/-- A loaded value: `n` bytes at an offset, sign-extended or not. -/
def loadValue (d : Line) (off n : Nat) (sext : Bool) : Word :=
  let v := lineNat d off n
  if sext then BitVec.ofInt 64 (sInt (8 * n) v) else BitVec.ofNat 64 v

/-- The register values that an operation delivers into a register set for the threads of a mask, and whether any is poisoned. -/
def deliverOp (o : TOp) (m : BitVec 32) (r : TRegs) : TRegs :=
  let dataOf (i : TItem) : Line × Bool := ((o.got.find? (fun x => x.1 == i.key)).map (·.2)).getD (0, false)
  match o.kind with
  | .vld =>
    match o.items with
    | i :: _ =>
      let d := itemLine i (dataOf i) 64
      if m = 0 then r else vPut r o.d (d.1, if d.2 then 0xFF else 0)
    | [] => r
  | .ld n sext =>
    o.items.foldl (fun r i =>
      let d := itemLine i (dataOf i) n
      if m.getLsbD i.thread then sPut r i.thread o.d (loadValue d.1 i.off n sext, d.2) else r) r
  | .atom n noret =>
    if noret then r else o.items.foldl (fun r i =>
      let d := dataOf i
      if m.getLsbD i.thread then sPut r i.thread o.d (loadValue d.1 0 n false, d.2) else r) r
  | .div => o.items.foldl (fun r i => if m.getLsbD i.thread then sPut r i.thread o.d (i.value, i.poison) else r) r

/-- Whether an operation of loads brings poisoned data. -/
def opPoison (o : TOp) : Bool :=
  match o.kind with
  | .ld n _ => o.items.any (fun i => (itemLine i (((o.got.find? (fun x => x.1 == i.key)).map (·.2)).getD (0, false)) n).2)
  | .vld => o.items.any (fun i => (itemLine i (((o.got.find? (fun x => x.1 == i.key)).map (·.2)).getD (0, false)) 64).2)
  | .atom _ _ => o.got.any (·.2.2)
  | .div => false

/-- Whether all of an operation has arrived. -/
def opReady (x : Gang) (divs : Bool) (o : TOp) : Bool :=
  !x.reqs.any (fun q => q.op == some o.id && !q.dead) && (divs || !(match o.kind with
    | .div => true
    | _ => false))

/-- Deliver the operations that have all arrived, in program order. -/
def finishOps (x : Gang) (divs : Bool) : Gang :=
  let ready := x.ops.filter (opReady x divs)
  let x := ready.foldl (fun x o => { x with
    r := deliverOp o o.live x.r
    ck := if o.chunk < x.chunk then deliverOp o o.ckLive x.ck else x.ck
    flags := if opPoison o then x.flags ||| fPoisonIn else x.flags }) x
  { x with ops := x.ops.filter (fun o => !opReady x divs o) }

/-- Enter a line into a unit's cache of 4,096 lines, oldest out; copies of other switches' lines are not kept (assumption log,
entry 62). -/
def cacheLine (s : State) (u : Nat) (key : Key) (line : Nat) (d : Line × Bool) : State :=
  if lineHome line = switchId s then
    setUnit s u { unitOf s u with cache := ((line, key, d.1, d.2) :: (unitOf s u).cache.filter (fun c => !(c.1 == line && c.2.1 == key))).take 4096 }
  else s

/-- Take in one response: a refusal faults the gang. -/
def takeResp (s : State) (u : Nat) (x : Gang) (q : TReq) (v : TResp) : State × Gang × Option (Status × Nat) :=
  let x := { x with reqs := x.reqs.erase q }
  let (s, x) := match x.late.find? (fun a => a.src == q.src && a.tag == q.tag) with
    | some a => (retireAseq s a, { x with late := x.late.erase a })
    | none => (s, x)
  if q.dead then (s, x, none)
  else if v.status ≠ .ok then (s, x, some (v.status, q.idx))
  else
    let s := if q.kind = .rd true ∧ v.shared = true then cacheLine s u (launchKey s x) q.line (v.data, v.poison) else s
    let key := match q.kind with
      | .rd _ => q.line
      | _ => q.tag
    let x := match x.std with
      | some z => if q.kind = .wr then x else { x with std := some { z with got := z.got ++ [(key, v.data, v.poison)] } }
      | none => { x with ops := x.ops.map (fun o => if q.op = some o.id then { o with got := o.got ++ [(key, v.data, v.poison)] } else o) }
    (s, x, none)

/-- The response of a completion from this device. -/
def respOf (d : Done) : TResp :=
  let data := match d.data with
    | some l => l
    | none => (d.results.head?.map (fun v => v.setWidth 512)).getD 0
  { data := data, poison := d.poison, status := if d.cmp = .cmpErr then d.status else if d.status = .ok then .ok else d.status, shared := d.cmp == .cmpS || d.cmp == .cmpE }

/-- Acknowledge a grant that waits for the unit (R98). -/
def unitAck (s : State) (src : Endpoint) (line : Nat) : State :=
  match transAt s line with
  | some t => if t.ackFrom = some src then endTrans (setTrans s line { t with ackFrom := none }) line else s
  | none => s

/-- Take the completions of a gang's requests to this device. -/
def takeLocal (s : State) (u : Nat) (x : Gang) : List TReq → Option (Status × Nat) → State × Gang × Option (Status × Nat)
  | [], f => (s, x, f)
  | q :: r, f =>
    let ep := unitEp s q.src
    match s.coh.toRetire.find? (fun d => d.src == ep && d.tag == q.tag) with
    | none => takeLocal s u x r f
    | some d =>
      let s := dropFlight { s with coh := { s.coh with toRetire := s.coh.toRetire.erase d } } ep.toNat q.tag
      let s := if d.echo then notice s (clusterIsland s ep) q.home true else s
      let s := unitAck s ep (q.line % 2 ^ 42)
      let (s, x, g) := takeResp s u x q (respOf d)
      takeLocal s u x r (match f with
        | some y => some y
        | none => g)

/-- Take what came back from other switches, in the order of the requests. -/
def takeRemote (s : State) (u : Nat) (x : Gang) : List (TReq × TResp) → Option (Status × Nat) → State × Gang × Option (Status × Nat)
  | [], f => (s, x, f)
  | (q, v) :: r, f =>
    let (s, x, g) := takeResp s u x q v
    takeRemote s u x r (match f with
      | some y => some y
      | none => g)

/-- The responses that an operand brings. -/
def remoteResps : GangData → List TResp
  | .lines ds => ds.map (fun d => ({ data := d.1, poison := d.2 } : TResp))
  | .refused st => [{ status := st }]

/-- Everything that has come back for a gang: its requests' responses, and division results. -/
def arrive (s : State) (u : Nat) (x : Gang) (r : GangData) : State × Gang × Option (Status × Nat) :=
  let (s, x, f) := takeLocal s u x x.reqs none
  let remote := x.reqs.filter (fun q => q.home != switchId s)
  let (s, x, f) := takeRemote s u x (remote.zip (remoteResps r)) f
  (s, finishOps x true, f)

/-- Drop the cached copies of a line when a ring broadcast leaves none (R107, R300). -/
def dropUnitCopies (s : State) (line : Nat) : State :=
  let key := switchId s * 2 ^ 42 + line
  { s with trs := { s.trs with units := s.trs.units.map (fun e => (e.1, { e.2 with cache := e.2.cache.filter (fun c => c.1 != key) })) } }

/-- The tag of the broadcast snoop of a line that is open. -/
def ringTag (s : State) (line : Nat) : Nat :=
  (((transAt s line).bind (fun t => t.snoops.find? (fun n => n.dest == .ring && n.sentAt.isSome))).map (·.stag)).getD 0

/-- RING_BROADCAST_RESPONSE (R107): the ring's one answer to a broadcast snoop. -/
def execRingBroadcastResponse (off : PoolOff) (kept : Kept) (dirty : Option (Line × Bool)) (s : State) : Out3 :=
  let line := off.toNat / 64
  let t := ringTag s line
  match kept with
  | .none => .next (dropUnitCopies (answerSnoop s line .ring t .i dirty) line)
  | .shared => .next (answerSnoop s line .ring t .sh dirty)
  | .same => .next (answerSnoop s line .ring t .cur dirty)

end Sys2Proof.Machine
end

