-- ==== Sys2Proof/Machine/TrInstr.lean ====
section
/-! DEFINITION. The Trestle instructions (12, R293 to R304): what each one reads, issues and writes. -/

namespace Sys2Proof.Machine

/-! ## Issue -/

/-- Scalar and vector registers that an instruction reads (R299). -/
def readsS (w : Word) : List Nat :=
  let two := if kModBit w 0 then [kA w] else [kA w, kB w]
  match kOp w with
  | 0x02 => [kD w]
  | 0x03 => two
  | 0x04 => two
  | 0x05 => two
  | 0x06 => two
  | 0x07 => two
  | 0x08 => two
  | 0x09 => two
  | 0x0A => two
  | 0x0B => two
  | 0x0C => two
  | 0x0D => two
  | 0x0E => [kA w, kB w]
  | 0x0F => [kA w]
  | 0x11 => [kA w, kB w]
  | 0x12 => [kA w, kB w]
  | 0x13 => [kA w, kB w, kD w]
  | 0x14 => [kA w, kB w]
  | 0x15 => [kA w, kB w]
  | 0x16 => [kA w]
  | 0x30 => [kA w]
  | 0x31 => [kA w, kB w]
  | 0x32 => if kImm w % 32 = 0xA then [kA w, kB w, kD w] else [kA w, kB w]
  | 0x33 => [kA w]
  | 0x34 => [kB w]
  | 0x48 => [kB w]
  | 0x49 => [kA w]
  | 0x4A => [kA w]
  | _ => []
def readsV (w : Word) : List Nat :=
  match kOp w with
  | 0x34 => [kA w]
  | 0x40 => [kA w, kB w]
  | 0x41 => [kA w, kB w]
  | 0x42 => [kA w, kB w, kD w]
  | 0x43 => [kA w, kB w]
  | 0x44 => [kA w, kB w, kD w]
  | 0x45 => [kA w, kD w]
  | 0x46 => [kA w]
  | 0x47 => [kA w, kB w]
  | 0x48 => [kA w]
  | 0x4A => [kD w]
  | 0x4B => [kA w]
  | _ => []

/-- Whether an instruction reads a register whose result has not arrived. -/
def waitsOn (x : Gang) (w : Word) : Bool :=
  x.ops.any (fun o => o.live != 0 && (if isVld o.kind then (readsV w).contains o.d else (readsS w).contains o.d))

/-- Whether an instruction is a memory instruction, and whether an earlier FENCE or ORD load holds it (R302). -/
def isMem (op : Nat) : Bool := decide (0x30 ≤ op ∧ op ≤ 0x34)
def memHeld (x : Gang) : Bool := (x.fence && !x.reqs.isEmpty) || x.ops.any (·.ord)

/-- The instruction that a gang issues next, where it is the one of the row and may issue. -/
def nextInsn (s : State) (u g op : Nat) : Option (Gang × Word) :=
  match gangOf s u g with
  | none => none
  | some x =>
    if !unitActive s u || x.ended || x.std.isSome then none
    else match (gangSlot s x).prog[x.r.pc]? with
      | none => none
      | some w =>
        if kOp w ≠ op || waitsOn x w || (isMem op && memHeld x) then none
        else some ({ x with fence := x.fence && !isMem op }, w)

/-- An instruction has issued: it is counted, and the 4,096th since the last boundary is followed by one (R303). -/
def issued (s : State) (u g : Nat) (x : Gang) (vec : Bool) : State :=
  let s := bump s (trestleCnt 2)
  let s := if vec then bump s (trestleCnt 3) else s
  let x := { x with issued := x.issued + 1 }
  if 4096 ≤ x.issued then
    match boundary s u g x with
    | some (s, x) => keepGang s u g x
    | none => setGang s u g x
  else setGang s u g x

/-! ## Scalar instructions -/

/-- A second operand: s[B], or the immediate with I. -/
def second (r : TRegs) (w : Word) (t : Nat) : Word × Bool :=
  if kModBit w 0 then (BitVec.ofInt 64 (sInt 36 (kImm w)), false) else sGet r t (kB w)

/-- The scalar result of an integer instruction from two operands, with its flags. -/
def intResult (w : Word) (a b : Word) : Word × Nat :=
  match kOp w with
  | 0x03 => (a + b, 0)
  | 0x04 => (a - b, 0)
  | 0x05 => (a * b, 0)
  | 0x06 => if b = 0 then (BitVec.allOnes 64, fInvalid) else (a / b, 0)
  | 0x07 => (a &&& b, 0)
  | 0x08 => (a ||| b, 0)
  | 0x09 => (a ^^^ b, 0)
  | 0x0A => (a <<< (b.toNat % 64), 0)
  | 0x0B => (if kModBit w 1 then a.sshiftRight (b.toNat % 64) else a >>> (b.toNat % 64), 0)
  | _ =>
    let lt := if kModBit w 1 then BitVec.slt b a else BitVec.ult b a
    (if lt == kModBit w 2 then a else b, 0)

/-- The result of FADD, FMUL, FFMA and FMINMAX. -/
def floatResult (w : Word) (a b d : Word) : Word × Nat :=
  let f := kFmt w
  let n (x : Word) : Nat := x.toNat % 2 ^ tBits f
  let r := match kOp w with
    | 0x11 => tArith f false fAdd (n a) (n b)
    | 0x12 => tArith f false fMul (n a) (n b)
    | 0x13 => tFma f (n a) (n b) (n d)
    | _ => tMinMax f (kModBit w 2) (n a) (n b)
  (BitVec.ofNat 64 r.1, r.2)

/-- The value of SPECIAL (R295). -/
def specialValue (s : State) (u : Nat) (x : Gang) (t : Nat) (w : Word) : Word :=
  BitVec.ofNat 64 (match kImm w with
    | 0 => t
    | 1 => x.index
    | 2 => 32 * x.index + t
    | 3 => 32 * ((launchOf s x.launch).map (·.gangs)).getD 0
    | 4 => u
    | _ => s.now / 1000)

/-- CVT (R270): into FP32, INT64 and FP64 whole registers are written; the bits above a narrower integer or small float are left
open and come from `high` (assumption log, entry 63). -/
def cvtValue (w : Word) (a high : Word) : Word × Nat :=
  let dst := kImm w
  let r := tConv dst (kModBit w 1) (tVal (kFmt w) (a.toNat % 2 ^ tBits (kFmt w)))
  let open_ := dst != 7 && dst != 9 && dst != 10
  let top := if open_ then high.toNat / 2 ^ tBits dst * 2 ^ tBits dst else 0
  (BitVec.ofNat 64 (top + r.1), r.2)

/-- What a scalar instruction gives a thread: value, poison and flags. -/
def scalarValue (s : State) (u : Nat) (x : Gang) (w : Word) (t : Nat) : Word × Bool × Nat :=
  let r := x.r
  let a := sGet r t (kA w)
  let b := second r w t
  let d := sGet r t (kD w)
  match kOp w with
  | 0x01 => (BitVec.ofInt 64 (sInt 36 (kImm w)), false, 0)
  | 0x02 => (BitVec.ofNat 64 (kImm w * 2 ^ 28 + d.1.toNat % 2 ^ 28), d.2, 0)
  | 0x0E => if r.p.getLsbD t then (a.1, a.2 || r.pp.getLsbD t, 0) else ((sGet r t (kB w)).1, (sGet r t (kB w)).2 || r.pp.getLsbD t, 0)
  | 0x0F => (BitVec.ofNat 64 ((List.range 64).filter (fun i => a.1.getLsbD i)).length, a.2, 0)
  | 0x10 => (specialValue s u x t w, false, 0)
  | 0x16 =>
    let v := cvtValue w a.1 (Config.freeValue (s.draws + t))
    (v.1, a.2, v.2)
  | op =>
    if 0x11 ≤ op then
      let c := sGet r t (kB w)
      let v := floatResult w a.1 c.1 d.1
      (v.1, a.2 || c.2 || (op == 0x13 && d.2), v.2)
    else
      let v := intResult w a.1 b.1
      (v.1, a.2 || b.2, v.2)

/-- A scalar instruction that writes s[D] of every active thread. -/
def scalarRow (op : Nat) (u : TUnit) (g : GangId) (s : State) : State :=
  match nextInsn s u.val g.val op with
  | none => s
  | some (x, w) =>
    let ts := lanesOf x.r.active
    let vs := ts.map (fun t => (t, scalarValue s u.val x w t))
    let r := vs.foldl (fun r e => sPut r e.1 (kD w) (e.2.1, e.2.2.1)) x.r
    let fl := vs.foldl (fun f e => f ||| e.2.2.2) x.flags
    let x := overwrite x false (kD w) x.r.active
    let s := if op = 0x16 then { s with draws := s.draws + 32 } else s
    issued s u.val g.val { x with r := { r with pc := x.r.pc + 1 }, flags := fl } false

/-- LI (R297). -/
def execTrestleLi (u : TUnit) (g : GangId) (s : State) : Out3 := .next (scalarRow 0x01 u g s)
/-- LIH (R297). -/
def execTrestleLih (u : TUnit) (g : GangId) (s : State) : Out3 := .next (scalarRow 0x02 u g s)
/-- ADD (R297). -/
def execTrestleAdd (u : TUnit) (g : GangId) (s : State) : Out3 := .next (scalarRow 0x03 u g s)
/-- SUB (R297). -/
def execTrestleSub (u : TUnit) (g : GangId) (s : State) : Out3 := .next (scalarRow 0x04 u g s)
/-- MUL (R297). -/
def execTrestleMul (u : TUnit) (g : GangId) (s : State) : Out3 := .next (scalarRow 0x05 u g s)
/-- AND (R297). -/
def execTrestleAnd (u : TUnit) (g : GangId) (s : State) : Out3 := .next (scalarRow 0x07 u g s)
/-- OR (R297). -/
def execTrestleOr (u : TUnit) (g : GangId) (s : State) : Out3 := .next (scalarRow 0x08 u g s)
/-- XOR (R297). -/
def execTrestleXor (u : TUnit) (g : GangId) (s : State) : Out3 := .next (scalarRow 0x09 u g s)
/-- SHL (R297). -/
def execTrestleShl (u : TUnit) (g : GangId) (s : State) : Out3 := .next (scalarRow 0x0A u g s)
/-- SHR (R297). -/
def execTrestleShr (u : TUnit) (g : GangId) (s : State) : Out3 := .next (scalarRow 0x0B u g s)
/-- MINMAX (R297). -/
def execTrestleMinmax (u : TUnit) (g : GangId) (s : State) : Out3 := .next (scalarRow 0x0C u g s)
/-- SEL (R297, R298). -/
def execTrestleSel (u : TUnit) (g : GangId) (s : State) : Out3 := .next (scalarRow 0x0E u g s)
/-- POPC (R297). -/
def execTrestlePopc (u : TUnit) (g : GangId) (s : State) : Out3 := .next (scalarRow 0x0F u g s)
/-- SPECIAL (R297). -/
def execTrestleSpecial (u : TUnit) (g : GangId) (s : State) : Out3 := .next (scalarRow 0x10 u g s)
/-- FADD (R297). -/
def execTrestleFadd (u : TUnit) (g : GangId) (s : State) : Out3 := .next (scalarRow 0x11 u g s)
/-- FMUL (R297). -/
def execTrestleFmul (u : TUnit) (g : GangId) (s : State) : Out3 := .next (scalarRow 0x12 u g s)
/-- FFMA (R297). -/
def execTrestleFfma (u : TUnit) (g : GangId) (s : State) : Out3 := .next (scalarRow 0x13 u g s)
/-- FMINMAX (R297). -/
def execTrestleFminmax (u : TUnit) (g : GangId) (s : State) : Out3 := .next (scalarRow 0x14 u g s)
/-- CVT (R297, R270). -/
def execTrestleCvt (u : TUnit) (g : GangId) (s : State) : Out3 := .next (scalarRow 0x16 u g s)

/-- DIVU (R299): a D-class result, which arrives later. -/
def execTrestleDivu (u : TUnit) (g : GangId) (s : State) : Out3 :=
  match nextInsn s u.val g.val 0x06 with
  | none => .next s
  | some (x, w) =>
    let ts := lanesOf x.r.active
    let vs := ts.map (fun t => (t, scalarValue s u.val x w t))
    let items := vs.map (fun e => ({ thread := e.1, value := e.2.1, poison := e.2.2.1 } : TItem))
    let y := overwrite x false (kD w) x.r.active
    let o : TOp := { id := x.nextOp, kind := .div, d := kD w, items := items, live := x.r.active, chunk := x.chunk, idx := x.r.pc }
    .next (issued s u.val g.val { y with
      ops := y.ops ++ [o], nextOp := x.nextOp + 1, r := { x.r with pc := x.r.pc + 1 }, flags := vs.foldl (fun f e => f ||| e.2.2.2) x.flags } false)

/-- CMP and FCMP write p of every active thread. -/
def compareRow (op : Nat) (u : TUnit) (g : GangId) (s : State) : State :=
  match nextInsn s u.val g.val op with
  | none => s
  | some (x, w) =>
    let ts := lanesOf x.r.active
    let res (t : Nat) : Bool × Bool :=
      let a := sGet x.r t (kA w)
      if op = 0x0D then
        let b := second x.r w t
        (relInt 64 (kFmt w) a.1.toNat b.1.toNat, a.2 || b.2)
      else
        let b := sGet x.r t (kB w)
        (tRel (kFmt w) (kImm w) (a.1.toNat % 2 ^ tBits (kFmt w)) (b.1.toNat % 2 ^ tBits (kFmt w)), a.2 || b.2)
    let p := laneMask (ts.filter (fun t => (res t).1))
    let pp := laneMask (ts.filter (fun t => (res t).2))
    let keep := ~~~x.r.active
    issued s u.val g.val { x with r := { x.r with p := (x.r.p &&& keep) ||| p, pp := (x.r.pp &&& keep) ||| pp, pc := x.r.pc + 1 } } false

/-- CMP (R297). -/
def execTrestleCmp (u : TUnit) (g : GangId) (s : State) : Out3 := .next (compareRow 0x0D u g s)
/-- FCMP (R297). -/
def execTrestleFcmp (u : TUnit) (g : GangId) (s : State) : Out3 := .next (compareRow 0x15 u g s)

/-! ## Control -/

/-- A control instruction of one form: a new register set, or the fault it meets (R307). -/
def controlRow (op : Nat) (f : TRegs → Word → TRegs ⊕ Status) (u : TUnit) (g : GangId) (s : State) : State :=
  match nextInsn s u.val g.val op with
  | none => s
  | some (x, w) =>
    match f x.r w with
    | .inl r => issued s u.val g.val { x with r := r } false
    | .inr st => gangFault s u.val g.val x st x.r.pc

/-- Whether p is poisoned in an active thread. -/
def pPoisoned (r : TRegs) : Bool := r.pp &&& r.active != 0

/-- The registers after BR. -/
def brRegs (r : TRegs) (w : Word) : TRegs ⊕ Status :=
  let c := kMod w % 4
  if c ≠ 0 ∧ pPoisoned r = true then .inr .poisoned
  else
    let on := r.p &&& r.active
    let taken := if c = 0 then true else if c = 1 then on != 0 else if c = 2 then on == r.active else on == 0
    .inl { r with pc := if taken then kImm w % 8192 else r.pc + 1 }

/-- The registers after IF, ELSE and ENDIF. -/
def ifRegs (r : TRegs) : TRegs ⊕ Status :=
  if pPoisoned r then .inr .poisoned
  else if 8 ≤ r.stack.length then .inr .badDescriptor
  else .inl { r with stack := r.active :: r.stack, active := r.active &&& r.p, pc := r.pc + 1 }
def elseRegs (r : TRegs) : TRegs ⊕ Status :=
  match r.stack with
  | [] => .inr .badDescriptor
  | m :: _ => if pPoisoned r then .inr .poisoned else .inl { r with active := m &&& ~~~r.active, pc := r.pc + 1 }
def endifRegs (r : TRegs) : TRegs ⊕ Status :=
  match r.stack with
  | [] => .inr .badDescriptor
  | m :: st => .inl { r with active := m, stack := st, pc := r.pc + 1 }

/-- BR (R295, R307). -/
def execTrestleBr (u : TUnit) (g : GangId) (s : State) : Out3 := .next (controlRow 0x20 brRegs u g s)
/-- IF (R295, R307). -/
def execTrestleIf (u : TUnit) (g : GangId) (s : State) : Out3 := .next (controlRow 0x21 (fun r _ => ifRegs r) u g s)
/-- ELSE (R295, R307). -/
def execTrestleElse (u : TUnit) (g : GangId) (s : State) : Out3 := .next (controlRow 0x22 (fun r _ => elseRegs r) u g s)
/-- ENDIF (R295, R307). -/
def execTrestleEndif (u : TUnit) (g : GangId) (s : State) : Out3 := .next (controlRow 0x23 (fun r _ => endifRegs r) u g s)

/-- CHUNK, FENCE and END take a boundary after they issue (R303); they wait while the unit lacks tags for the stores. -/
def boundaryRow (op : Nat) (after : State → Gang → State) (u : TUnit) (g : GangId) (s : State) : State :=
  match nextInsn s u.val g.val op with
  | none => s
  | some (x, _) =>
    match boundary (bump s (trestleCnt 2)) u.val g.val { x with r := { x.r with pc := x.r.pc + 1 } } with
    | none => s
    | some (s, x) => after s x

/-- CHUNK (R303). -/
def execTrestleChunk (u : TUnit) (g : GangId) (s : State) : Out3 := .next (boundaryRow 0x24 (fun s x => keepGang s u.val g.val x) u g s)
/-- FENCE (R302, R303). -/
def execTrestleFence (u : TUnit) (g : GangId) (s : State) : Out3 :=
  .next (boundaryRow 0x25 (fun s x => keepGang s u.val g.val { x with fence := true }) u g s)
/-- END (R303). -/
def execTrestleEnd (u : TUnit) (g : GangId) (s : State) : Out3 := .next (boundaryRow 0x26 (fun s x => endGang s u.val g.val x) u g s)

/-! ## Memory instructions (R300 to R304) -/

/-- The address of a memory instruction in a thread: s[base] + offset. -/
def memAddr (r : TRegs) (t base off : Nat) : Word × Bool :=
  let a := sGet r t base
  (a.1 + BitVec.ofNat 64 off, a.2)

/-- The fault that an access of `n` bytes meets before it is made (R307). -/
def accessFault (s : State) (x : Gang) (pool : Bool) (as : List (Word × Bool)) (n : Nat) : Option Status :=
  if as.any (·.2) then some .poisoned
  else if as.any (fun a => a.1.toNat % n != 0 || (if pool then decide (2 ^ 60 ≤ a.1.toNat) else decide (scratchBytes s x < a.1.toNat + n))) then some .badDescriptor
  else none

/-- The lines of some addresses, each once. -/
def linesOf (as : List Nat) : List Nat := (as.map (· / 64)).eraseDups

/-- A read of the lines of some addresses into an operation. None where the unit lacks tags. -/
def issueRead (s : State) (u g : Nat) (x : Gang) (o : TOp) (as : List Nat) (cached : Bool) : Option (State × Gang) :=
  let key := launchKey s x
  let lines := linesOf as
  let hit (l : Nat) : Option (Nat × Line × Bool) :=
    if cached then ((unitOf s u).cache.find? (fun c => c.1 == l && c.2.1 == key)).map (fun c => (l, c.2.2)) else none
  let miss := lines.filter (fun l => (hit l).isNone)
  match freeTags s u g x miss.length with
  | none => none
  | some tags =>
    let x := overwrite x (isVld o.kind) o.d o.live
    let x := { x with ops := x.ops ++ [{ o with got := lines.filterMap hit }], nextOp := x.nextOp + 1 }
    let (s, x) := sendReads s u x cached (some o.id) (miss.zip tags)
    some (s, finishOps { x with r := { x.r with pc := x.r.pc + 1 } } false)

/-- Deliver an operation on scratch at once. -/
def scratchRead (x : Gang) (o : TOp) (as : List Nat) : Gang :=
  let o := { o with got := (linesOf as).map (fun l => (l, scratchLine x l)) }
  let y := overwrite x (isVld o.kind) o.d o.live
  { y with r := { deliverOp o o.live x.r with pc := x.r.pc + 1 }, flags := if opPoison o then x.flags ||| fPoisonIn else x.flags }

/-- The item of a thread that reads at an address. -/
def readItem (x : Gang) (scratch : Bool) (t a : Nat) : TItem :=
  let b := buffered x scratch (a / 64)
  { thread := t, key := a / 64, off := a % 64, bmask := b.mask, bdata := b.data, bpoison := b.poison }

/-- LD (R300, R302). -/
def execTrestleLd (u : TUnit) (g : GangId) (s : State) : Out3 :=
  match nextInsn s u.val g.val 0x30 with
  | none => .next s
  | some (x, w) =>
    let ts := lanesOf x.r.active
    let n := 2 ^ (kMod w % 4)
    let pool := kFmt w == 0
    let as := ts.map (fun t => memAddr x.r t (kA w) (kImm w % 2 ^ 32))
    match accessFault s x pool as n with
    | some st => .next (gangFault s u.val g.val x st x.r.pc)
    | none =>
      let ad := as.map (·.1.toNat)
      let o : TOp := { id := x.nextOp, kind := .ld n (kModBit w 2), d := kD w, items := (ts.zip ad).map (fun e => readItem x (!pool) e.1 e.2), live := x.r.active, chunk := x.chunk, ord := pool && (kImm w).testBit 32, idx := x.r.pc }
      if !pool then .next (issued s u.val g.val (scratchRead x o ad) false)
      else match issueRead s u.val g.val x o ad (!(kImm w).testBit 33) with
        | some (s, x) => .next (issued s u.val g.val x false)
        | none => .next s

/-- VLD (R300): the address of the lowest-numbered active thread. -/
def execTrestleVld (u : TUnit) (g : GangId) (s : State) : Out3 :=
  match nextInsn s u.val g.val 0x33 with
  | none => .next s
  | some (x, w) =>
    match lanesOf x.r.active with
    | [] =>
      let y := overwrite x true (kD w) 0
      let v : VReg := (freshLine s.draws 0, 0)
      .next (issued { s with draws := s.draws + 8 } u.val g.val { y with r := { vPut x.r (kD w) v with pc := x.r.pc + 1 } } false)
    | t :: _ =>
      let pool := kFmt w == 0
      let a := memAddr x.r t (kA w) (kImm w)
      match accessFault s x pool [a] 64 with
      | some st => .next (gangFault s u.val g.val x st x.r.pc)
      | none =>
        let o : TOp := { id := x.nextOp, kind := .vld, d := kD w, items := [readItem x (!pool) t a.1.toNat], live := 1, chunk := x.chunk, idx := x.r.pc }
        if !pool then .next (issued s u.val g.val (scratchRead x o [a.1.toNat]) false)
        else match issueRead s u.val g.val x o [a.1.toNat] true with
          | some (s, x) => .next (issued s u.val g.val x false)
          | none => .next s

/-- Before a store or atomic with ORD: a boundary, then every earlier pool access has retired (R302, R303). `inl`: not yet. -/
def ordReady (s : State) (u g : Nat) (x : Gang) (ord : Bool) : State ⊕ (State × Gang) :=
  if !ord then .inr (s, x)
  else
    let first := if x.issued = 0 ∧ x.buf = [] then some (s, x) else boundary s u g x
    match first with
    | none => .inl s
    | some (s, x) => if x.ended || !x.reqs.isEmpty then .inl (keepGang s u g x) else .inr (setGang s u g x, x)

/-- Buffer the stores of an instruction's threads in thread order, with a boundary before each that would need a seventeenth line (R303). A gang
that the boundary stops, or that waits for tags there, goes on from that thread (DESIGN CHOICE, log entry 108). -/
def storeInto (u g : Nat) : List (Nat × TStore) → State → Gang → State
  | [], s, x => issued s u g { x with r := { x.r with pc := x.r.pc + 1, part := 0 } } false
  | (t, e) :: rest, s, x =>
    let put (s : State) (x : Gang) : State := storeInto u g rest s { x with buf := bufferStore x.buf e, r := { x.r with part := t + 1 } }
    if (bufferStore x.buf e).length ≤ 16 then put s x
    else match boundary s u g { x with r := { x.r with part := t } } with
      | none => keepGang s u g { x with r := { x.r with part := t } }
      | some (s, x) => if x.ended then keepGang s u g x else put s x

/-- The buffered store of `n` bytes at an address. -/
def storeEntry (scratch : Bool) (a n : Nat) (v : Nat) (poison : Bool) (idx : Nat) : TStore :=
  { scratch := scratch, line := a / 64, mask := BitVec.ofNat 64 ((2 ^ n - 1) * 2 ^ (a % 64)), data := BitVec.ofNat 512 (v % 2 ^ (8 * n) * 2 ^ (8 * (a % 64))), poison := poison, idx := idx }

/-- ST (R300, R303). -/
def execTrestleSt (u : TUnit) (g : GangId) (s : State) : Out3 :=
  match nextInsn s u.val g.val 0x31 with
  | none => .next s
  | some (x, w) =>
    match ordReady s u.val g.val x ((kImm w).testBit 32) with
    | .inl s => .next s
    | .inr (s, x) =>
      let ts := lanesOf x.r.active
      let n := 2 ^ (kMod w % 4)
      let pool := kFmt w == 0
      let as := ts.map (fun t => memAddr x.r t (kA w) (kImm w % 2 ^ 32))
      match accessFault s x pool as n with
      | some st => .next (gangFault s u.val g.val x st x.r.pc)
      | none =>
        let es := ((ts.zip as).filter (fun e => decide (x.r.part ≤ e.1))).map (fun e =>
          let v := sGet x.r e.1 (kB w)
          (e.1, storeEntry (!pool) e.2.1.toNat n v.1.toNat v.2 x.r.pc))
        .next (storeInto u.val g.val es s x)

/-- VST (R300, R303): v[A] at s[B] + offset of the lowest-numbered active thread. -/
def execTrestleVst (u : TUnit) (g : GangId) (s : State) : Out3 :=
  match nextInsn s u.val g.val 0x34 with
  | none => .next s
  | some (x, w) =>
    match lanesOf x.r.active with
    | [] => .next (issued s u.val g.val { x with r := { x.r with pc := x.r.pc + 1 } } false)
    | t :: _ =>
      let pool := kFmt w == 0
      let a := memAddr x.r t (kB w) (kImm w)
      match accessFault s x pool [a] 64 with
      | some st => .next (gangFault s u.val g.val x st x.r.pc)
      | none =>
        let v := vGet x.r (kA w)
        .next (storeInto u.val g.val [(t, storeEntry (!pool) a.1.toNat 64 v.1.toNat (v.2 != 0) x.r.pc)] s x)

/-- A new atomic of a chunk, or the one that the chunk issued at this place before (R304). -/
def chunkAtom (s : State) (u : Nat) (x : Gang) (home tag : Nat) : State × Gang × TAtom × Bool :=
  match x.atoms[x.atomNext]? with
  | some a => (s, { x with atomNext := x.atomNext + 1 }, a, false)
  | none =>
    let q := asqOf s u home
    let a : TAtom := { src := u, home := home, tag := tag, aseq := BitVec.ofNat 16 q.1 }
    let s := setUnit s u { unitOf s u with asq := tblPut (unitOf s u).asq home ((q.1 + 1) % 65536, q.2 ++ [a.aseq]) }
    (s, { x with atoms := x.atoms ++ [a], atomNext := x.atomNext + 1 }, a, true)

/-- Send the atomics of some threads: address, operand fields, poison of the operands, and a tag for each. Gives the tags used. -/
def sendAtoms (s : State) (u : Nat) (x : Gang) (op : Option Nat) : List (Nat × AtomF × Bool × Nat) → List Nat → State × Gang × List Nat
  | [], used => (s, x, used)
  | (a, f, poison, tag) :: r, used =>
    let home := a / 2 ^ 48
    let (s, x, at_, fresh) := chunkAtom s u x home tag
    let s := if fresh then bump s (trestleCnt 8) else s
    let q := lineReq .atomFar at_.tag (a / 64)
    let s := unitSend s u (launchKey s x) { q with addr := BitVec.ofNat 60 a, src := unitEp s at_.src, atom := { f with aseq := at_.aseq }, poison := poison }
    let s := setUnit s u { unitOf s u with cache := (unitOf s u).cache.filter (fun c => c.1 != a / 64) }
    let q : TReq := { src := at_.src, tag := at_.tag, home := home, line := a / 64, kind := .atom at_.aseq, op := op, idx := x.r.pc }
    sendAtoms s u { x with reqs := x.reqs ++ [q] } op r (used ++ [at_.tag])

/-- Whether a unit may have `n` more atomics toward each home switch of some addresses (R301). -/
def atomRoom (s : State) (u : Nat) (as : List Nat) : Bool :=
  (as.map (· / 2 ^ 48)).eraseDups.all (fun h => decide ((asqOf s u h).2.length + (as.filter (fun a => a / 2 ^ 48 == h)).length ≤ 256))

/-- Before an atomic on lines that the gang's store buffer holds: a boundary, so that the home orders its stores first (R302; DESIGN CHOICE, log
entry 108). `inl`: not yet. -/
def storesFirst (s : State) (u g : Nat) (x : Gang) (lines : List Nat) : State ⊕ (State × Gang) :=
  if !x.buf.any (fun e => !e.scratch && lines.contains e.line) then .inr (s, x)
  else match boundary s u g x with
    | none => .inl s
    | some (s, x) => if x.ended then .inl (keepGang s u g x) else .inr (setGang s u g x, x)

/-- ATOM (R302, R304): one AtomFar for each active thread, in thread order. -/
def execTrestleAtom (u : TUnit) (g : GangId) (s : State) : Out3 :=
  match nextInsn s u.val g.val 0x32 with
  | none => .next s
  | some (x, w) =>
    match ordReady s u.val g.val x ((kImm w).testBit 32) with
    | .inl s => .next s
    | .inr (s, x) =>
      let ts := lanesOf x.r.active
      let n := if kModBit w 0 then 8 else 4
      let as := ts.map (fun t => memAddr x.r t (kA w) 0)
      let f (t : Nat) : AtomF :=
        { op := BitVec.ofNat 5 (kImm w), size := if kModBit w 0 then 1 else 0, fmt := BitVec.ofNat 2 (kImm w / 32), comb := kModBit w 1, exact := kModBit w 2, noret := kModBit w 3, a := (sGet x.r t (kB w)).1.setWidth 128, b := (sGet x.r t (kD w)).1.setWidth 128 }
      let bad := ts.any (fun t => atomMalformed (f t) 0)
      match accessFault s x true as n with
      | some st => .next (gangFault s u.val g.val x st x.r.pc)
      | none =>
        if bad then .next (gangFault s u.val g.val x .badDescriptor x.r.pc)
        else
          let ad := as.map (·.1.toNat)
          match storesFirst s u.val g.val x (linesOf ad) with
          | .inl s => .next s
          | .inr (s, x) =>
            let left := x.atoms.length - x.atomNext
            match freeTags s u.val g.val x (ts.length - left) with
            | none => .next s
            | some tags =>
              if !atomRoom s u.val (ad.drop left) then .next s
              else
                let cas := kImm w % 32 == 0xA
                let todo := ((ts.zip ad).zip (List.replicate left 0 ++ tags)).map (fun e =>
                  (e.1.2, f e.1.1, (sGet x.r e.1.1 (kB w)).2 || (cas && (sGet x.r e.1.1 (kD w)).2), e.2))
                let id := x.nextOp
                let (s, x, used) := sendAtoms s u.val x (some id) todo []
                let items := (ts.zip used).map (fun e => ({ thread := e.1, key := e.2 } : TItem))
                let y := if kModBit w 3 then x else overwrite x false (kD w) x.r.active
                let o : TOp := { id := id, kind := .atom n (kModBit w 3), d := kD w, items := items, live := if kModBit w 3 then 0 else x.r.active, chunk := x.chunk, idx := x.r.pc }
                .next (issued s u.val g.val { y with ops := y.ops ++ [o], nextOp := id + 1, r := { x.r with pc := x.r.pc + 1 } } false)

/-! ## Vector instructions -/

/-- A vector instruction that writes v[D]. -/
def vectorRow (op : Nat) (f : State → Gang → Word → VReg × Nat) (u : TUnit) (g : GangId) (s : State) : State :=
  match nextInsn s u.val g.val op with
  | none => s
  | some (x, w) =>
    let (v, fl) := f s x w
    let s := { s with draws := s.draws + 1 }
    let y := overwrite x true (kD w) 0
    issued s u.val g.val { y with r := { vPut x.r (kD w) v with pc := x.r.pc + 1 }, flags := x.flags ||| fl } true

/-- A vector instruction that writes s[D] of every active thread. -/
def vectorToScalar (op : Nat) (f : Gang → Word → Nat → (Word × Bool) × Nat) (u : TUnit) (g : GangId) (s : State) : State :=
  match nextInsn s u.val g.val op with
  | none => s
  | some (x, w) =>
    let ts := lanesOf x.r.active
    let r := sPuts x.r ts (kD w) (fun t => (f x w t).1)
    let y := overwrite x false (kD w) x.r.active
    issued s u.val g.val { y with r := { r with pc := x.r.pc + 1 }, flags := ts.foldl (fun a t => a ||| (f x w t).2) x.flags } true

def vA (x : Gang) (w : Word) : VReg := vGet x.r (kA w)
def vB (x : Gang) (w : Word) : VReg := vGet x.r (kB w)
def vD (x : Gang) (w : Word) : VReg := vGet x.r (kD w)

/-- VADD (R296, R297). -/
def execTrestleVadd (u : TUnit) (g : GangId) (s : State) : Out3 :=
  .next (vectorRow 0x40 (fun _ x w => vMap2 (tBits (kFmt w)) (tArith (kFmt w) (kModBit w 1) fAdd) (vA x w) (vB x w)) u g s)
/-- VMUL (R296, R297). -/
def execTrestleVmul (u : TUnit) (g : GangId) (s : State) : Out3 :=
  .next (vectorRow 0x41 (fun _ x w => vMap2 (tBits (kFmt w)) (tArith (kFmt w) (kModBit w 1) fMul) (vA x w) (vB x w)) u g s)
/-- VFMA (R296, R297). -/
def execTrestleVfma (u : TUnit) (g : GangId) (s : State) : Out3 :=
  .next (vectorRow 0x42 (fun _ x w => vFma (kFmt w) (vA x w) (vB x w) (vD x w)) u g s)
/-- VMINMAX (R296, R297). -/
def execTrestleVminmax (u : TUnit) (g : GangId) (s : State) : Out3 :=
  .next (vectorRow 0x43 (fun _ x w => vMap2 (tBits (kFmt w)) (tMinMax (kFmt w) (kModBit w 2)) (vA x w) (vB x w)) u g s)
/-- VDOT (R296, R297). -/
def execTrestleVdot (u : TUnit) (g : GangId) (s : State) : Out3 :=
  .next (vectorRow 0x44 (fun _ x w => vDot (kFmt w) (vA x w) (vB x w) (vD x w)) u g s)
/-- VCVT (R297). -/
def execTrestleVcvt (u : TUnit) (g : GangId) (s : State) : Out3 :=
  .next (vectorRow 0x45 (fun _ x w => vCvt (kFmt w) (kImm w % 16) (kImm w / 16) (kModBit w 1) (vA x w) (vD x w)) u g s)
/-- VRED (R296, R297). -/
def execTrestleVred (u : TUnit) (g : GangId) (s : State) : Out3 :=
  .next (vectorToScalar 0x46 (fun x w _ =>
    let r := vRed (kFmt w) (kMod w / 2) (vA x w)
    ((BitVec.ofNat 64 r.1, r.2.1), r.2.2)) u g s)
/-- VCMP (R297). -/
def execTrestleVcmp (u : TUnit) (g : GangId) (s : State) : Out3 :=
  .next (vectorToScalar 0x47 (fun x w _ =>
    let r := vCmp (kFmt w) (kImm w) (vA x w) (vB x w)
    ((BitVec.ofNat 64 r.1, r.2), 0)) u g s)

/-- s[i] of the lowest-numbered active thread; a free value where no thread is active (assumption log, entry 64). -/
def firstLane (s : State) (x : Gang) (i : Nat) : Word × Bool :=
  match lanesOf x.r.active with
  | t :: _ => sGet x.r t i
  | [] => (Config.freeValue s.draws, false)

/-- VCMPRS (R297). -/
def execTrestleVcmprs (u : TUnit) (g : GangId) (s : State) : Out3 :=
  .next (vectorRow 0x48 (fun s x w =>
    let m := firstLane s x (kB w)
    vCmprs (tBits (kFmt w)) (vA x w) m.1.toNat m.2) u g s)
/-- VBCAST (R297). -/
def execTrestleVbcast (u : TUnit) (g : GangId) (s : State) : Out3 :=
  .next (vectorRow 0x49 (fun s x w =>
    let m := firstLane s x (kA w)
    vBcast (tBits (kFmt w)) m.1.toNat m.2) u g s)
/-- VPACK (R297): thread t writes element t + e0, where it exists. -/
def execTrestleVpack (u : TUnit) (g : GangId) (s : State) : Out3 :=
  .next (vectorRow 0x4A (fun _ x w =>
    let n := tBits (kFmt w)
    let old := vD x w
    vMake n (fun i =>
      let t : Int := (i : Int) - sInt 6 (kImm w)
      if 0 ≤ t ∧ t < 32 ∧ x.r.active.getLsbD t.toNat = true then
        let v := sGet x.r t.toNat (kA w)
        (v.1.toNat % 2 ^ n, v.2, 0)
      else (vElem old n i, vBad old n i, 0))) u g s)
/-- VUNPACK (R297): s[D] of thread t is element t + e0, or 0. -/
def execTrestleVunpack (u : TUnit) (g : GangId) (s : State) : Out3 :=
  .next (vectorToScalar 0x4B (fun x w t =>
    let n := tBits (kFmt w)
    let i : Int := (t : Int) + sInt 6 (kImm w)
    if 0 ≤ i ∧ i < vCount n then ((BitVec.ofNat 64 (vElem (vA x w) n i.toNat), vBad (vA x w) n i.toNat), 0) else ((0, false), 0)) u g s)

end Sys2Proof.Machine
end

