-- ==== Sys2Proof/Machine/StdKernels.lean ====
section
/-! DEFINITION. The standard kernels TR_REDUCE, TR_GATHER, TR_SCATTER and TR_FILTER (12, R313): their items of work, and the steps of a
gang that works on them. Ulidel's images are not laid down; the work is (assumption log, entry 60). -/

namespace Sys2Proof.Machine

/-- What a gang does next with its item. -/
inductive StdAct where
  | read (lines : List Nat)
  | write (es : List TStore) (atoms : List (Nat × AtomF × Bool)) (f : TLaunch → TLaunch) (flags : Nat)
  | finish
  | hold
  | fault (st : Status)

def argOf (l : TLaunch) (i : Nat) : Nat := (l.args.getD i 0).toNat

/-- Format and mode fields of the arguments (R313). -/
def redFmt (l : TLaunch) : Nat := argOf l 4 % 16
def redMode (l : TLaunch) : Nat := argOf l 4 / 16 % 4
def filFmt (l : TLaunch) : Nat := argOf l 2 % 16
def filRel (l : TLaunch) : Nat := argOf l 2 / 16 % 16
def scAdd (l : TLaunch) : Bool := argOf l 5 % 2 == 1
def scFmt (l : TLaunch) : Nat := argOf l 5 / 2 % 16

/-- Bytes of `n` elements of a format. -/
def elemsBytes (f n : Nat) : Nat := (n * tBits f + 7) / 8

/-- Arguments that no kernel can work with: formats, counts and row lengths outside the table, misaligned addresses (R307). -/
def stdBad (l : TLaunch) : Bool :=
  let rows := argOf l 3 == 0 || argOf l 3 % 64 != 0 || decide (4096 < argOf l 3) || argOf l 0 % 4 != 0 || argOf l 2 % 64 != 0 || argOf l 4 % 64 != 0
  match l.slot with
  | 0 => decide (10 < redFmt l ∨ redMode l = 3 ∨ argOf l 1 < 2 ∨ 64 < argOf l 1) || argOf l 0 % 8 != 0 || argOf l 2 % Nat.max 1 (tBits (redFmt l) / 8) != 0
  | 1 => rows
  | 2 => rows || (scAdd l && scFmt l != 7 && scFmt l != 8 && scFmt l != 9)
  | _ => decide (10 < filFmt l) || !relOk (filFmt l) (filRel l) || argOf l 0 % Nat.max 1 (tBits (filFmt l) / 8) != 0 || argOf l 4 % Nat.max 1 (tBits (filFmt l) / 8) != 0 || argOf l 5 % 8 != 0

/-- Items of a launch: 64 B of the destination, a row, or a source block of 4,096 elements and then the count. -/
def stdItems (l : TLaunch) : Nat :=
  match l.slot with
  | 0 => (elemsBytes (redFmt l) (argOf l 3) + 63) / 64
  | 1 => argOf l 1
  | 2 => argOf l 1
  | _ => (argOf l 1 + 4095) / 4096 + 1

/-- Bytes at an address in the lines read, each with its poison. -/
def gotBytes (got : List (Nat × Line × Bool)) (a n : Nat) : List (Byte × Bool) :=
  (List.range n).map (fun i =>
    match got.find? (fun g => g.1 == (a + i) / 64) with
    | some g => (lineByte g.2.1 ((a + i) % 64), g.2.2)
    | none => (0, false))
def gotNat (got : List (Nat × Line × Bool)) (a n : Nat) : Nat := bytesNat ((gotBytes got a n).map (·.1))
def gotBad (got : List (Nat × Line × Bool)) (a n : Nat) : Bool := (gotBytes got a n).any (·.2)

/-- The stores of bytes at an address. -/
def storesFor (a : Nat) (bs : List (Byte × Bool)) : List TStore :=
  (linesIn a bs.length).map (fun line =>
    let mine := (List.range 64).filter (fun i => decide (a ≤ line * 64 + i ∧ line * 64 + i < a + bs.length))
    let at_ (i : Nat) : Byte × Bool := bs.getD (line * 64 + i - a) (0, false)
    { scratch := false, line := line, mask := BitVec.ofNat 64 ((mine.map (2 ^ ·)).sum), data := BitVec.ofNat 512 ((mine.map (fun i => (at_ i).1.toNat * 2 ^ (8 * i))).sum), poison := mine.any (fun i => (at_ i).2) })

/-- Combine the elements of some byte strings in order (R313, R297): bytes with poison, and flags. -/
def reduceBytes (f mode : Nat) (srcs : List (List (Byte × Bool))) : List (Byte × Bool) × Nat :=
  let n := (srcs.headD []).length
  let w := tBits f
  let k := n * 8 / w
  let val (b : List (Byte × Bool)) : Nat := bytesNat (b.map (·.1))
  let one (i : Nat) : Nat × Nat :=
    match srcs.map (fun b => bitsOf (val b) (w * i) w) with
    | [] => (0, 0)
    | x :: r => r.foldl (fun a y =>
        let z := if mode = 0 then tArith f false (fAdd) a.1 y else tMinMax f (mode == 1) a.1 y
        (z.1, a.2 ||| z.2)) (x, 0)
  let es := (List.range k).map one
  let total := es.zipIdx.foldl (fun t e => t + e.1.1 % 2 ^ w * 2 ^ (w * e.2)) 0
  let bad (j : Nat) : Bool :=
    let lo := j * 8 / w * w / 8
    let hi := (j * 8 / w * w + Nat.max w 8 + 7) / 8
    srcs.any (fun b => ((b.drop lo).take (hi - lo)).any (·.2))
  ((natBytes n total).zipIdx.map (fun e => (e.1, bad e.2)), es.foldl (fun a e => a ||| e.2) 0)

/-- TR_REDUCE on item `j`. -/
def reducePlan (l : TLaunch) (j step : Nat) (got : List (Nat × Line × Bool)) : StdAct :=
  let total := elemsBytes (redFmt l) (argOf l 3)
  let n := Nat.min 64 (total - 64 * j)
  let list := argOf l 0
  let src (i : Nat) : Nat := gotNat got (list + 8 * i) 8
  let srcs := List.range (argOf l 1)
  match step with
  | 0 => .read (linesIn list (8 * argOf l 1))
  | 1 =>
    if gotBad got list (8 * argOf l 1) then .fault .poisoned
    else if srcs.any (fun i => decide (2 ^ 60 ≤ src i) || src i % Nat.max 1 (tBits (redFmt l) / 8) != 0) then .fault .badDescriptor
    else .read ((srcs.flatMap (fun i => linesIn (src i + 64 * j) n)).eraseDups)
  | _ =>
    let (bs, fl) := reduceBytes (redFmt l) (redMode l) (srcs.map (fun i => gotBytes got (src i + 64 * j) n))
    .write (storesFor (argOf l 2 + 64 * j) bs) [] id fl

/-- TR_GATHER on row `j`. -/
def gatherPlan (l : TLaunch) (j step : Nat) (got : List (Nat × Line × Bool)) : StdAct :=
  let rb := argOf l 3
  let a := argOf l 0 + 4 * j
  let row := argOf l 2 + gotNat got a 4 * rb
  match step with
  | 0 => .read (linesIn a 4)
  | 1 => if gotBad got a 4 then .fault .poisoned else if 2 ^ 60 ≤ row then .fault .badDescriptor else .read (linesIn row rb)
  | _ => .write (storesFor (argOf l 4 + j * rb) (gotBytes got row rb)) [] id 0

/-- The atomics that add a row's elements: FADD for FP32, ADD for INT32 and INT64, all combinable. -/
def addAtoms (f row : Nat) (bs : List (Byte × Bool)) : List (Nat × AtomF × Bool) :=
  let n := tBits f / 8
  (List.range (bs.length / n)).map (fun i =>
    let v := bytesNat (((bs.drop (n * i)).take n).map (·.1))
    (row + n * i, ({ op := if f = 7 then 8 else 0, size := if n = 8 then 1 else 0, comb := true, a := BitVec.ofNat 128 v } : AtomF), ((bs.drop (n * i)).take n).any (·.2)))

/-- TR_SCATTER on source row `j`. -/
def scatterPlan (l : TLaunch) (j step : Nat) (got : List (Nat × Line × Bool)) : StdAct :=
  let rb := argOf l 3
  let a := argOf l 0 + 4 * j
  let src := argOf l 4 + j * rb
  let row := argOf l 2 + gotNat got a 4 * rb
  match step with
  | 0 => .read ((linesIn a 4 ++ linesIn src rb).eraseDups)
  | _ =>
    if gotBad got a 4 then .fault .poisoned
    else if 2 ^ 60 ≤ row then .fault .badDescriptor
    else if scAdd l then .write [] (addAtoms (scFmt l) row (gotBytes got src rb)) id 0
    else .write (storesFor row (gotBytes got src rb)) [] id 0

/-- TR_FILTER on block `j`; after the last block, once every element is written, the count. -/
def filterPlan (s : State) (h : Nat) (l : TLaunch) (j step : Nat) (got : List (Nat × Line × Bool)) : StdAct :=
  let f := filFmt l
  let w := tBits f
  let blocks := (argOf l 1 + 4095) / 4096
  let n := Nat.min 4096 (argOf l 1 - 4096 * j)
  let src := argOf l 0 + 512 * w * j
  if j < blocks then
    match step with
    | 0 => .read (linesIn src (elemsBytes f n))
    | _ =>
      let bs := gotBytes got src (elemsBytes f n)
      if bs.any (·.2) then .fault .poisoned
      else
        let v := bytesNat (bs.map (·.1))
        let th := argOf l 3 % 2 ^ w
        let kept := ((List.range n).map (fun i => bitsOf v (w * i) w)).filter (fun e => tRel f (filRel l) e th)
        let half := decide (w = 4 ∧ l.count % 2 = 1)
        let all := if half then l.carry :: kept else kept
        let bits := all.zipIdx.foldl (fun t e => t + e.1 * 2 ^ (w * e.2)) 0
        let out := (natBytes (elemsBytes f all.length) bits).map (fun b => (b, false))
        let next (l : TLaunch) : TLaunch := { l with count := l.count + kept.length, carry := all.getLastD 0, itemsDone := l.itemsDone + 1 }
        .write (if kept.isEmpty then [] else storesFor (argOf l 4 + l.count * w / 8) out) [] next 0
  else
    let busy := s.trs.units.any (fun e => e.2.gangs.any (fun y => y.2.launch == h && !y.2.reqs.isEmpty))
    if l.itemsDone < blocks ∨ busy = true then .hold
    else .write (storesFor (argOf l 5) ((natBytes 8 l.count).map (fun b => (b, false)))) [] id 0

/-- What a gang does next. -/
def stdPlan (s : State) (h : Nat) (l : TLaunch) (z : StdGang) : StdAct :=
  if stdBad l then .fault .badDescriptor
  else if stdItems l ≤ z.item then .finish
  else match l.slot with
    | 0 => reducePlan l z.item z.step z.got
    | 1 => gatherPlan l z.item z.step z.got
    | 2 => scatterPlan l z.item z.step z.got
    | _ => filterPlan s h l z.item z.step z.got

/-- Send what a gang still has to send, as far as tags and the atomic window allow: reads, then stores, then atomics in batches. -/
def stdSend (s : State) (u g : Nat) (x : Gang) (z : StdGang) : State × Gang :=
  let k := 1024 - Nat.min 1024 (tagsUsed s u g x).length
  match freeTags s u g x (Nat.min k z.todo.length) with
  | none => (s, x)
  | some tags =>
    let (s, x) := sendReads s u { x with std := some { z with todo := z.todo.drop tags.length } } false none (z.todo.zip tags)
    let k := 1024 - Nat.min 1024 (tagsUsed s u g x).length
    match freeTags s u g x (Nat.min k z.writes.length) with
    | none => (s, x)
    | some tags =>
      let (s, x) := sendStores s u x (z.writes.zip tags)
      let x := { x with std := x.std.map (fun y => { y with writes := z.writes.drop tags.length }) }
      let batch := z.atoms.take 64
      if batch.isEmpty || x.atomNext != 0 || !atomRoom s u ((batch.drop x.atoms.length).map (·.1)) then (s, x)
      else match freeTags s u g x (batch.length - x.atoms.length) with
        | none => (s, x)
        | some tags =>
          let todo := (batch.zip (List.replicate x.atoms.length 0 ++ tags)).map (fun e => (e.1.1, e.1.2.1, e.1.2.2, e.2))
          let (s, x, _) := sendAtoms s u x none todo []
          (s, x)

/-- Whether reads or atomics of a gang are still out. -/
def stdWaits (x : Gang) : Bool := x.reqs.any (fun q => !q.dead && q.kind != .wr)

/-- Move a gang of a standard kernel on, at most `fuel` steps. -/
def stdRun : Nat → State → Nat → Nat → Gang → State
  | 0, s, u, g, x => keepGang s u g x
  | fuel + 1, s, u, g, x =>
    match x.std, launchOf s x.launch with
    | some z, some l =>
      if stdWaits x then
        let (s, x) := stdSend s u g x z
        keepGang s u g x
      else if !z.todo.isEmpty || !z.writes.isEmpty || (!z.atoms.isEmpty && x.atomNext == 0) then
        let (s, y) := stdSend s u g x z
        if y.reqs.length = x.reqs.length then keepGang s u g y else stdRun fuel s u g y
      else if !z.atoms.isEmpty then
        let s := x.atoms.foldl retireAseq s
        let y := { x with atoms := [], atomNext := 0, std := some { z with atoms := z.atoms.drop x.atomNext } }
        stdRun fuel (bump s (trestleCnt 5)) u g y
      else if z.step = 100 then
        let s := bump s (trestleCnt 5)
        if launchStops s x.launch then keepGang s u g { x with ended := true, std := none }
        else stdRun fuel s u g { x with rerun := false, since := s.now, std := some { item := z.item + l.gangs } }
      else match stdPlan s x.launch l z with
        | .read lines => stdRun fuel s u g { x with std := some { z with step := z.step + 1, todo := lines } }
        | .write es as f fl =>
          let s := modLaunch s x.launch (fun l => { f l with flags := l.flags ||| fl ||| (if z.got.any (·.2.2) then fPoisonIn else 0) })
          stdRun fuel s u g { x with std := some { z with step := 100, writes := es, atoms := as } }
        | .finish => endGang s u g { x with std := none }
        | .hold => keepGang s u g x
        | .fault st =>
          let v := Config.freeValue s.draws
          gangFault { s with draws := s.draws + 1 } u g x st (v.toNat % 2 ^ 32)
    | _, _ => keepGang s u g x

end Sys2Proof.Machine
end

