-- ==== Sys2Proof/Machine/Kernels.lean ====
section
/-! DEFINITION. Kernel slots, launches, the dispatch of gangs, and faults of Trestle units (12, R292 to R314). -/

namespace Sys2Proof.Machine

def modHandle (s : State) (h : Nat) (f : HandleRec → HandleRec) : State :=
  { s with rings := { s.rings with handles := tblUpd s.rings.handles h f } }

/-! ## KERNEL_LOAD (R309, R310) -/

/-- Live handles of an opcode other than one, whose descriptor names a slot in byte `k`. -/
def liveOn (s : State) (h op k slot : Nat) : Bool :=
  s.rings.handles.any (fun e => e.1 != h && e.2.opcode == op && decide (e.2.phase = .live) && d8 e.2.desc k == slot)

/-- The first three checks of R310, common to a load and an unload. -/
def kernelRefusal (s : State) (h : Nat) (r : HandleRec) : Option Status :=
  let slot := d8 r.desc 20
  if !flag s trestleBase 20 then some .keyReject
  else if slot < 16 ∨ (kslotOf s slot).any (fun k => k.owner != r.key) = true then some .notOwner
  else if (tblFind s.trs.loads slot).any (fun k => k != h && (handleOf s k).any (fun y => decide (y.phase = .live))) then some .tableBusy
  else if liveOn s h 0x49 8 slot then some .busy
  else none

/-- KERNEL_LOAD (R308 to R310). It is live on its slot from the read of its image until its commit. -/
def execKernelLoad (h : Handle) (s : State) : Out3 :=
  match startable s h.toNat 0x48 with
  | none => .next s
  | some r =>
    let d := r.desc
    let slot := d8 d 20
    if dFlag d 2 then .next s
    else if d64 d 8 % 64 ≠ 0 then .next (badDesc s h.toNat 8)
    else if d32 d 16 < 72 ∨ 65536 < d32 d 16 then .next (badDesc s h.toNat 16)
    else match kernelRefusal s h.toNat r with
      | some st => .next (commit s h.toNat st 0 0)
      | none =>
        if r.imagePoison then .next (commit s h.toNat .poisoned 0 0)
        else match r.image with
          | none => .next { s with trs := { s.trs with loads := tblPut s.trs.loads slot h.toNat } }
          | some img =>
            let s := { s with trs := { s.trs with loads := tblErase s.trs.loads slot } }
            if crc32c img ≠ d32 d 24 then .next (badDesc s h.toNat 24)
            else match imageFault img (d32 d 16) with
              | some i => .next (badDesc (logEvent s 7 7 0 0x10 r.key h.toNat 0 0x48 i) h.toNat 8)
              | none =>
                let k : KSlot := { owner := r.key, prog := imageProg img, scratch := imgNat img 4 2 }
                let s := { s with trs := { s.trs with slots := tblPut s.trs.slots slot k } }
                .next (commit s h.toNat .ok (word slot) (word k.prog.length))

/-- KERNEL_LOAD with UNLOAD (R310). -/
def execKernelUnload (h : Handle) (s : State) : Out3 :=
  match startable s h.toNat 0x48 with
  | none => .next s
  | some r =>
    let slot := d8 r.desc 20
    if !dFlag r.desc 2 then .next s
    else match kernelRefusal s h.toNat r with
      | some st => .next (commit s h.toNat st 0 0)
      | none =>
        let s := { s with trs := { s.trs with slots := tblErase s.trs.slots slot } }
        .next (commit s h.toNat .ok (word slot) 0)

/-! ## Launches (R311, R312, R314) -/

/-- Resident gangs of a logical unit. -/
def gangsOn (s : State) (u : Nat) : Nat := (unitOf s u).gangs.length

/-- The active units, those with the fewest resident gangs first. -/
def unitsByLoad (s : State) : List Nat :=
  ((List.range 64).filter (unitActive s)).mergeSort (fun a b => gangsOn s a ≤ gangsOn s b)

/-- Start a launch: its units are chosen. -/
def startLaunch (s : State) (h : Nat) (r : HandleRec) : State :=
  let d := r.desc
  let n := d8 d 10
  let us := unitsByLoad s
  let l : TLaunch := { slot := d8 d 8, key := r.key, gangs := d32 d 12, units := if n = 0 then us else us.take n, args := (List.range 6).map (fun i => BitVec.ofNat 64 (d64 d (16 + 8 * i))) }
  setLaunch (markStarted s h) h l

/-- KERNEL_LAUNCH of the slots that a row covers (R311). A launch waits while 1,024 are live, or no unit is active. -/
def launchRow (mine : Nat → Bool) (h : Nat) (s : State) : State :=
  match startable s h 0x49 with
  | none => s
  | some r =>
    let d := r.desc
    let slot := d8 d 8
    if !mine slot then s
    else if 64 < d8 d 10 then badDesc s h 10
    else if d32 d 12 = 0 ∨ 16777216 < d32 d 12 then badDesc s h 12
    else if 4 ≤ slot ∧ (slot < 16 ∨ (kslotOf s slot).all (fun k => k.owner != r.key) = true) then commit s h .notOwner 0 0
    else if 1024 ≤ s.trs.launches.length ∨ unitsByLoad s = [] then s
    else startLaunch s h r

/-- KERNEL_LAUNCH of a slot from 4 on (R311, R314). -/
def execKernelLaunch (h : Handle) (s : State) : Out3 := .next (launchRow (fun i => decide (4 ≤ i)) h.toNat s)
/-- TR_REDUCE (R313, R314). -/
def execTrReduce (h : Handle) (s : State) : Out3 := .next (launchRow (· == 0) h.toNat s)
/-- TR_GATHER (R313, R314). -/
def execTrGather (h : Handle) (s : State) : Out3 := .next (launchRow (· == 1) h.toNat s)
/-- TR_SCATTER (R313, R314). -/
def execTrScatter (h : Handle) (s : State) : Out3 := .next (launchRow (· == 2) h.toNat s)
/-- TR_FILTER (R313, R314). -/
def execTrFilter (h : Handle) (s : State) : Out3 := .next (launchRow (· == 3) h.toNat s)

/-! ## Dispatch (R294, R306) -/

/-- Whether a unit may take gangs of a launch: one of its units, or any where all of those are gone. -/
def unitServes (s : State) (u : Nat) (l : TLaunch) : Bool := l.units.contains u || !l.units.any (unitActive s)

/-- Scratch bytes of the gangs on a unit. -/
def scratchUsed (s : State) (u : Nat) : Nat := ((unitOf s u).gangs.map (fun e => scratchBytes s e.2)).sum

/-- A gang left on a retired unit, of a launch that the unit serves: its unit and context. -/
def strayGang (s : State) (u h : Nat) : Option (Nat × Nat × Gang) :=
  s.trs.units.findSome? (fun e =>
    if unitActive s e.1 ∨ e.1 = u then none
    else (e.2.gangs.find? (fun y => y.2.launch == h && !y.2.ended)).map (fun y => (e.1, y.1, y.2)))

/-- Whether a launch has a gang for a unit. -/
def hasGang (s : State) (u : Nat) (e : Nat × TLaunch) : Bool :=
  unitServes s u e.2 && ((strayGang s u e.1).isSome || (decide (e.2.next < e.2.gangs) && !launchStops s e.1)) &&
  decide (scratchUsed s u + 64 * ((kslotOf s e.2.slot).map (·.scratch)).getD 0 ≤ 2 ^ 20)

/-- The launch that a unit serves next, in rotation. -/
def nextServed (s : State) (u : Nat) : Option (Nat × TLaunch) :=
  let ls := s.trs.launches.filter (hasGang s u)
  match ls.find? (fun e => (unitOf s u).rot < e.1) with
  | some e => some e
  | none => ls.head?

/-- A new gang (R311): s0 to s5 hold the arguments in every thread; its scratch reads as free values. -/
def newGang (s : State) (h : Nat) (l : TLaunch) : Gang :=
  let regs := (List.range 32).foldl (fun r t => (List.range 6).foldl (fun r i => sPut r t i (l.args.getD i 0, false)) r) ({} : TRegs)
  { launch := h, index := l.next, r := regs, ck := regs, seed := s.draws, since := s.now, std := if l.slot < 4 then some { item := l.next } else none }

/-- GANG_DISPATCH (R294). -/
def execGangDispatch (u : TUnit) (s : State) : Out3 :=
  let u := u.val
  if warming s || !unitActive s u || decide (512 ≤ gangsOn s u) then .next s
  else match nextServed s u, (List.range 512).find? (fun g => (gangOf s u g).isNone) with
    | some (h, l), some g =>
      let s := setUnit s u { unitOf s u with rot := h }
      match strayGang s u h with
      | some (v, k, x) =>
        let s := setUnit s v { unitOf s v with gangs := tblErase (unitOf s v).gangs k }
        .next (setGang s u g x)
      | none =>
        let x := newGang s h l
        let s := setLaunch { s with draws := s.draws + 2048 } h { l with next := l.next + 1 }
        .next (if x.std.isSome then stdRun 8 s u g x else setGang s u g x)
    | _, _ => .next s

/-- GANG_RESULT_ARRIVE (R299): what has come back for a gang reaches it. -/
def execGangResultArrive (u : TUnit) (g : GangId) (r : GangData) (s : State) : Out3 :=
  match gangOf s u.val g.val with
  | none => .next s
  | some x =>
    let (s, x, f) := arrive s u.val x r
    match f with
    | some (st, idx) => if x.ended then .next (keepGang s u.val g.val x) else .next (gangFault s u.val g.val x st idx)
    | none => if x.std.isSome && unitActive s u.val then .next (stdRun 8 s u.val g.val x) else .next (keepGang s u.val g.val x)

/-- CHUNK_TIME_LIMIT (R303). -/
def execChunkTimeLimit (u : TUnit) (g : GangId) (s : State) : Out3 :=
  match gangOf s u.val g.val with
  | none => .next s
  | some x =>
    if x.ended || x.std.isSome || !unitActive s u.val || decide (s.now < x.since + 1000 * fld s trestleBase 16 4) then .next s
    else match boundary s u.val g.val x with
      | some (s, x) => .next (keepGang s u.val g.val x)
      | none => .next s

/-- LAUNCH_COMMIT (R312): every gang has ended, or stopped under a fault, and nothing of the launch is outstanding. -/
def execLaunchCommit (h : Handle) (s : State) : Out3 :=
  let h := h.toNat
  match launchOf s h with
  | none => .next s
  | some l =>
    let resident := s.trs.units.any (fun e => e.2.gangs.any (fun y => y.2.launch == h))
    if resident || (decide (l.next < l.gangs) && !launchStops s h) then .next s
    else
      let s := { s with trs := { s.trs with launches := tblErase s.trs.launches h } }
      if (handleOf s h).any (·.abortWon) then .next (fillRecord s h .aborted 0 (word l.ended))
      else match l.stop with
        | some (st, r0) => .next (engineDone s h st r0 (word l.ended))
        | none => .next (engineDone s h .ok (word l.flags) (word l.ended))

/-! ## Faults of a unit (R305, R306) -/

/-- A gang of a faulty unit runs its chunk again. -/
def rerunGang (s : State) (x : Gang) : Gang :=
  if x.ended then x
  else
    let y := discardChunk x
    { y with rerun := true, since := s.now, std := y.std.map (fun z => if z.step = 100 then z else { z with step := 0, todo := [], got := [] }) }

/-- The free spare that replaces a unit: in the same cluster if one is free, else the first. -/
def spareUnit (s : State) (p : Nat) : Option Nat :=
  let free := (s.trs.phys.filter (fun e => e.2.1 == 1)).map (·.1)
  match free.find? (fun q => q / 9 == p / 9) with
  | some q => some q
  | none => free.head?

/-- Replace a unit by a spare, or retire it (R305, R306); its gangs go back to their checkpoints. -/
def replaceUnit (s : State) (u p : Nat) : State :=
  let x := unitOf s u
  let gangs := x.gangs.map (fun e => (e.1, { rerunGang s e.2 with rerun := false }))
  let s := setUnit s u { x with gangs := gangs, cache := [] }
  match spareUnit s p with
  | some q =>
    let s := { s with trs := { s.trs with phys := tblPut (tblPut s.trs.phys p (2, u)) q (0, u) } }
    bump (errorRecord s { kind := 7, cls := 2, idx := p, cause := 3, spareKind := 7, spareIdx := q }) (trestleCnt 7)
  | none =>
    let s := { s with trs := { s.trs with phys := tblPut s.trs.phys p (2, u) } }
    let s := errorRecord s { kind := 7, cls := 3, idx := p, cause := 0x12, d0 := 7 }
    (x.gangs.map (·.2.launch)).eraseDups.foldl (fun s h => modHandle s h (fun r => { r with errLogged := true })) s

/-- A gang whose checkpoint cannot be corrected stops, and its launch completes POISONED (R306). -/
def loseGang (u : Nat) (s : State) (g : Nat) : State :=
  match gangOf s u g with
  | some x => if x.ended then s else gangFault s u g x .poisoned x.ck.pc
  | none => s

/-- TRESTLE_FAULT (R305, R306): the chunks of the unit's gangs run again; when one of them fails again the unit is replaced. `lost`: the gangs
whose checkpoint cannot be corrected. -/
def execTrestleFault (u : TUnit) (lost : List GangId) (s : State) : Out3 :=
  let u := u.val
  let s := if (physOf s u).isNone then s else lost.foldl (fun s g => loseGang u s g.val) s
  match physOf s u with
  | none => .next s
  | some p =>
    let x := unitOf s u
    if x.gangs.any (fun e => e.2.rerun && !e.2.ended) then .next (replaceUnit s u p)
    else
      let live := (x.gangs.filter (fun e => !e.2.ended)).length
      let s := setUnit s u { x with gangs := x.gangs.map (fun e => (e.1, rerunGang s e.2)) }
      if live = 0 then .next (logEvent s 7 1 p 3 0 0 0 0 0) else .next (bumpBy s (trestleCnt 6) live)

end Sys2Proof.Machine
end

