-- ==== Sys2Proof/Machine/Trains.lean ====
section
/-! DEFINITION. Multicast trains (13): images, and the entries of the switches of a tree. -/

namespace Sys2Proof.Machine

/-! ## Images (R319) -/

/-- A member entry and a switch entry of an image. -/
structure ImgMember where
  ep : Nat
  edge : Nat
  kind : Nat
  land : Nat
  len : Nat
  flagAt : Nat
  deriving DecidableEq, Repr, Inhabited

structure ImgSwitch where
  sw : Nat
  parent : Nat
  pport : Nat
  mask : Nat
  deriving DecidableEq, Repr, Inhabited

def imgMembers (b : List Byte) : List ImgMember :=
  (List.range (imgNat b 0 2)).map (fun i =>
    let a := 64 + 32 * i
    ⟨imgNat b a 2, imgNat b (a + 2) 2, imgNat b (a + 4) 1, imgNat b (a + 8) 8, imgNat b (a + 16) 8, imgNat b (a + 24) 8⟩)
def imgSwitches (b : List Byte) : List ImgSwitch :=
  (List.range (imgNat b 2 2)).map (fun i =>
    let a := 64 + 32 * imgNat b 0 2 + 32 * i
    ⟨imgNat b a 2, imgNat b (a + 2) 2, imgNat b (a + 4) 1, imgNat b (a + 8) 16⟩)

/-- Reserved bytes of an image are zero. -/
def imgReserved (b : List Byte) : Bool :=
  let m := imgNat b 0 2
  imgNat b 4 60 == 0 &&
  (List.range m).all (fun i => imgNat b (64 + 32 * i + 5) 3 == 0 && decide (imgNat b (64 + 32 * i + 2) 2 < 4096)) &&
  (List.range (imgNat b 2 2)).all (fun i =>
    let a := 64 + 32 * m + 32 * i
    imgNat b (a + 5) 3 == 0 && imgNat b (a + 24) 8 == 0 && decide (imgNat b a 2 < 4096) && (i == 0 || decide (imgNat b (a + 2) 2 < 4096)))

/-- The switch and port at the far end of a trunk, where known (R490). -/
def peerOf (s : State) (sw p : Nat) : Option Nat :=
  if sw = switchId s then
    (if isTrunk s p then ((tblFind s.link.links p).map (·.peerSwitch)).filter (· != 0xFFF) else none)
  else (tblFind s.ras.adj (sw * 128 + p)).map (·.1)

/-- The chain of switches from one to the root, itself first, at most `fuel` long. -/
def upChain (ks : List ImgSwitch) : Nat → Nat → List Nat
  | 0, _ => []
  | fuel + 1, sw =>
    match ks.find? (fun k => k.sw == sw) with
    | none => []
    | some k => sw :: (if k.parent = 0xFFFF then [] else upChain ks fuel k.parent)

/-- The members of a switch with their indices. -/
def membersOf (ms : List ImgMember) (sw : Nat) : List (Nat × ImgMember) := (ms.zipIdx.filter (fun e => e.1.edge == sw)).map (fun e => (e.2, e.1))

/-- Whether a child port of an entry leads to a child switch or to a member (R319), as far as this switch knows. -/
def childOk (s : State) (ms : List ImgMember) (ks : List ImgSwitch) (k : ImgSwitch) (p : Nat) : Bool :=
  let isChild (c : Nat) : Bool := ks.any (fun x => x.sw == c && x.parent == k.sw)
  if k.sw = switchId s then
    (isTrunk s p && (match peerOf s k.sw p with
      | some c => isChild c
      | none => true)) ||
    (isHostPort s p && ms.any (fun m => m.edge == k.sw && m.ep == (portEp s p).toNat))
  else match peerOf s k.sw p with
    | some c => isChild c
    | none => true

/-- R319. -/
def trainImageOk (s : State) (b : List Byte) (len : Nat) : Bool :=
  let m := imgNat b 0 2
  let k := imgNat b 2 2
  let ms := imgMembers b
  let ks := imgSwitches b
  decide (1 ≤ m ∧ m ≤ 4096 ∧ 1 ≤ k ∧ k ≤ 1024 ∧ len = 64 + 32 * m + 32 * k ∧ b.length = len) && imgReserved b &&
  decide ((ms.map (·.ep)).Nodup) && decide ((ks.map (·.sw)).Nodup) &&
  (match ks with
    | r :: rest => r.sw == switchId s && r.parent == 0xFFFF && r.pport == 0xFF &&
      rest.all (fun x => x.parent != 0xFFFF && decide (x.pport < 128) && (upChain ks (k + 1) x.sw).getLastD 0 == r.sw &&
        (match peerOf s x.sw x.pport with
          | some c => c == x.parent
          | none => true))
    | [] => false) &&
  ks.all (fun x => (maskPorts x.mask).all (childOk s ms ks x)) &&
  ms.all (fun x => ks.any (fun y => y.sw == x.edge) && decide ((upChain ks (k + 1) x.edge).length ≤ 4) &&
    decide (x.kind ≤ 2) && x.land % 64 == 0 && x.len % 64 == 0 && x.flagAt % 8 == 0)

/-- The port of a switch that leads to a child switch. -/
def portTo (s : State) (k c : ImgSwitch) : Option Nat :=
  if k.sw = switchId s then (maskPorts k.mask).find? (fun p => peerOf s k.sw p == some c.sw)
  else match tblFind s.ras.adj (c.sw * 128 + c.pport) with
    | some (sw, p) => if sw = k.sw then some p else none
    | none => none

/-- The entry of each switch. -/
def makeEntry (s : State) (ms : List ImgMember) (ks : List ImgSwitch) (id gen : Nat) (owner : Key) (k : ImgSwitch) : TrainEnt :=
  let below (c : Nat) : Nat := ((ms.zipIdx.filter (fun e => (upChain ks (ks.length + 1) e.1.edge).contains c)).map (·.2)).foldl Nat.min 4096
  let kids := ks.filter (fun c => c.parent == k.sw)
  { id := BitVec.ofNat 32 id, gen := BitVec.ofNat 16 gen, owner := owner, count := ms.length, root := k.parent == 0xFFFF,
    parent := if h : k.pport < 128 then some ⟨k.pport, h⟩ else none, children := BitVec.ofNat 128 k.mask,
    locals := (membersOf ms k.sw).map (fun e => { idx := e.1, ep := BitVec.ofNat 16 e.2.ep, kind := e.2.kind, land := BitVec.ofNat 64 e.2.land, flagAt := BitVec.ofNat 64 e.2.flagAt })
    lowest := kids.filterMap (fun c => (portTo s k c).bind (fun p => if h : p < 128 then some (⟨p, h⟩, below c.sw) else none))
    minLand := (ms.filter (fun m => m.kind != 0)).foldl (fun x m => some (Nat.min m.len (x.getD m.len))) none }

/-! ## Entries on a switch (R320) -/

/-- What this switch's Nimpa finds of its entry: port roles, room, keys. -/
def entryCheck (s : State) (e : TrainEnt) : TrainReply :=
  let roleOk (p : Nat) : Bool := isTrunk s p || (isHostPort s p && e.locals.any (fun m => m.ep == portEp s p))
  let ports := entPorts e ++ (e.parent.map (·.val)).toList
  let parentOk := match e.parent with
    | some p => !e.root && isTrunk s p.val
    | none => e.root
  if !(entPorts e).all roleOk || !parentOk then .noRole
  else if !tblHas s.train.trains e.id.toNat && decide (16384 ≤ s.train.trains.length + (s.train.offered.filter (fun x => x.id != e.id && !tblHas s.train.trains x.id.toNat)).length) then .noRoom
  else if !ports.all (fun p => keyMatch s p e.owner) then .noKey
  else .accepted

end Sys2Proof.Machine
end

