-- ==== Sys2Proof/Machine/Collect.lean ====
section
/-! DEFINITION. COLLECTIVE (13, R322 to R335): posting, contributions, combining in order, delivery, completion. -/

namespace Sys2Proof.Machine

/-! ## Arithmetic (R328) -/

/-- The sign of the bits of a floating-point value. -/
def fNegBits (f b : Nat) : Bool := b.testBit (tBits f - 1)

/-- Smaller or larger of two elements: −0 lies below +0, a NaN gives the canonical NaN, integers are signed. -/
def collMinMax (f : Nat) (max : Bool) (a b : Nat) : Nat :=
  match fCmp (tVal f a) (tVal f b) with
  | none => (tLay f).nanBits
  | some .lt => if max then b else a
  | some .gt => if max then a else b
  | some .eq => if tInt f then a else if fNegBits f a == max then b else a

/-- Combine one element in order: BF16 and FP16 in FP32, rounded once at the end. -/
def combineElem (f red : Nat) (xs : List Nat) : Nat :=
  let g := if f = 5 ∨ f = 6 then 7 else f
  let up (x : Nat) : Nat := if f = 5 ∨ f = 6 then fConv (tLay f) fp32 x else x
  let op (a b : Nat) : Nat := if red = 0 then (tArith g false fAdd a b).1 else collMinMax g (red == 1) a b
  match xs.map up with
  | [] => 0
  | x :: r =>
    let y := r.foldl op x
    if f = 5 ∨ f = 6 then fConv fp32 (tLay f) y else y

/-- Combine lines in order; poison spreads by line (R329). -/
def combineLine (f red : Nat) (xs : List (Line × Bool)) : Line × Bool :=
  let w := tBits f
  let d := (List.range (512 / w)).foldl (fun d i => d + combineElem f red (xs.map (fun x => bitsOf x.1.toNat (w * i) w)) * 2 ^ (w * i)) 0
  (BitVec.ofNat 512 d, xs.any (·.2))

/-- Combine segments of equal length in order. -/
def combineSegs (f red : Nat) (ss : List (List (Line × Bool))) : List (Line × Bool) :=
  let n := (ss.map (·.length)).foldl Nat.max 0
  (List.range n).map (fun i => combineLine f red (ss.filterMap (fun s => s[i]?)))

/-- The kinds that combine (R322). -/
def reduces (k : Nat) : Bool := k == 2 || k == 3 || k == 5

/-- Combine contributions in order (R325, R328): one combination, or the members' data side by side. -/
def combineParts (p : CollParams) (ps : List (List (Nat × List (Line × Bool)))) : List (Nat × List (Line × Bool)) :=
  if reduces p.kind then
    match ps.filterMap (fun x => x.head?.map (·.2)) with
    | [] => []
    | ds => [(0xFFFF, combineSegs p.fmt p.red ds)]
  else ps.flatten

/-! ## Segments (R325) -/

def segBytes : Nat := 262144
/-- Segments of an instance; at least one, so that every member's parameters are seen (R327). -/
def segCount (p : CollParams) : Nat := Nat.max 1 ((p.len + segBytes - 1) / segBytes)
/-- Bytes of a segment. -/
def segLen (p : CollParams) (k : Nat) : Nat := Nat.min segBytes (p.len - segBytes * k)

/-- Whether a member's send buffer is read in an instance. -/
def sends (p : CollParams) (poster : Option Nat) (m : Nat) : Bool :=
  match p.kind with
  | 0 => false
  | 1 => m == p.root
  | 6 => poster == some m
  | _ => true

/-- Whether a member receives, and the bytes that segment `k` of the results gives it: offset in its buffer and lines. -/
def gives (p : CollParams) (n m k : Nat) (data : List (Nat × List (Line × Bool))) : List (Nat × List (Line × Bool)) :=
  let base := segBytes * k
  match p.kind with
  | 1 => if m = p.root then [] else data.map (fun d => (base, d.2))
  | 2 => if m = p.root then data.map (fun d => (base, d.2)) else []
  | 3 => data.map (fun d => (base, d.2))
  | 4 => data.map (fun d => (d.1 * p.len + base, d.2))
  | 5 =>
    let part := p.len / n
    let lo := Nat.max base (m * part)
    let hi := Nat.min (base + segLen p k) ((m + 1) * part)
    if hi ≤ lo then [] else data.map (fun d => (lo - m * part, (d.2.drop ((lo - base) / 64)).take ((hi - lo) / 64)))
  | _ => []

/-! ## Instances -/

/-- Whether an instance may be opened (R324). -/
def instRoom (s : State) (id : Nat) : Bool :=
  decide ((s.train.insts.filter (instOf id)).length < 16 ∧ s.train.insts.length < 4096)

/-- The first operand byte that R322 finds wrong: `n` members; `land` the smallest landing of the train. -/
def collBad (r : HandleRec) (n : Nat) (land : Option Nat) : Option Nat :=
  let d := r.desc
  let kind := d8 d 14
  let fmt := d8 d 15 % 16
  let red := d8 d 15 / 16
  let len := d64 d 48
  let usesSend := kind != 0
  let usesRecv := kind != 0 && kind != 6
  if 6 < kind then some 14
  else if reduces kind && (decide (fmt < 5 ∨ 10 < fmt) || red == 3) then some 15
  else if !reduces kind && d8 d 15 != 0 then some 15
  else if kind == 6 && d32 d 16 != 0 then some 16
  else if !usesSend && d8 d 22 % 4 != 0 then some 22
  else if decide (1 < d8 d 22 % 4) || decide (1 < d8 d 22 / 4) || (!usesRecv && d8 d 22 / 4 != 0) then some 22
  else if (kind == 1 || kind == 2) && decide (n ≤ d16 d 24) then some 24
  else if !(kind == 1 || kind == 2) && d16 d 24 != 0 then some 24
  else if (if usesSend then d64 d 32 % 64 != 0 else d64 d 32 != 0) then some 32
  else if (if usesRecv then d64 d 40 % 64 != 0 else d64 d 40 != 0) then some 40
  else if kind == 0 && len != 0 then some 48
  else if kind != 0 && (len == 0 || len % 64 != 0 || decide (2 ^ 34 / (if kind = 4 then n else 1) < len) || (kind == 5 && len % (64 * n) != 0) || (kind == 6 && land.any (fun x => decide (x < len)))) then some 48
  else none

/-- The member entry of a poster (R322): bound to the host port of its ring. -/
def posterEntry (s : State) (r : HandleRec) (t : TrainRec) : Option TrainMember :=
  if decide (4096 ≤ r.ring) || ringMgmt s r.ring then none
  else t.ent.locals.find? (fun m => m.idx == d16 r.desc 12 && m.ep == portEp s (ringPort s r.ring))

/-- Whether R327 ended an instance here. -/
def isDead (s : State) (id gen seq : Nat) : Bool := s.train.dead.contains (id, gen, seq)

/-- An instance whose contributions disagree ends: every member's descriptor completes BAD_DESCRIPTOR (R327), and the other switches of the tree hear
of it, away from the port that brought the news. What is posted to it later ends so too (DESIGN CHOICE, log entry 109). -/
def mismatch (s : State) (i : Inst) (came : Option Nat) : State :=
  let e := i.rcd.ent
  let s := if s.train.insts.any (sameInst i) then bump s (trainCnt 6) else s
  let s := (i.posts.filter (fun q => !q.ended)).foldl (fun s q => endPost s q .badDescriptor 14 0) s
  let s := ((treePorts s i).filter (fun p => came != some p)).foldl (fun s p =>
    emit s (.send p "CollectiveMismatch" [e.id.toNat, e.gen.toNat, i.seq])) s
  dropInst { s with train := { s.train with dead := s.train.dead ++ [(e.id.toNat, e.gen.toNat, i.seq)] } } i

/-- Ask for a member's next segment (R323): a host buffer through its port, a pool buffer at another switch from its home. -/
def askSegment (s : State) (i : Inst) (q : Post) : State :=
  let a := q.send + segBytes * q.seg
  let n := segLen i.par q.seg
  if !sends i.par i.poster q.member || decide (segCount i.par ≤ q.seg) then s
  else if q.sendHost then readHost s q.handle a n
  else if a / 2 ^ 48 = switchId s then s
  else sendEngine s a "EngineRead" [n, 0xFFFF, q.key.toNat]

/-- Post a descriptor into its instance. -/
def postInto (s : State) (h : Nat) (r : HandleRec) (i : Inst) : State :=
  let d := r.desc
  let q : Post := { member := d16 d 12, handle := h, port := ringPort s r.ring, key := r.key, sendHost := d8 d 22 % 4 == 1, recvHost := d8 d 22 / 4 == 1, send := d64 d 32, recv := d64 d 40 }
  let s := putInst (markStarted s h) { i with posts := i.posts ++ [q] }
  askSegment s i q

/-- A COLLECTIVE row of one kind (R322, R324, R327). A descriptor beyond the limits on instances waits. -/
def collRow (kind h : Nat) (s : State) : State :=
  match startable s h 0x4A with
  | none => s
  | some r =>
    let d := r.desc
    if d8 d 14 ≠ kind ∧ ¬(kind = 0 ∧ 6 < d8 d 14) then s
    else
      let id := d32 d 8
      let t := tblFind s.train.trains id
      match collBad r (Nat.max 1 ((t.map (·.ent.count)).getD 1)) (t.bind (·.ent.minLand)) with
      | some off => badDesc s h off
      | none =>
        let fail (st : Status) (r0 : Word) : State := commit s h st r0 0
        match t with
        | none => fail .notOwner 0
        | some t =>
          if t.ent.owner ≠ r.key then fail .keyReject 0xFFFF
          else if d16 d 20 ≠ 0 ∧ d16 d 20 ≠ t.ent.gen.toNat then fail .staleEpoch (word t.ent.gen.toNat)
          else if t.prunedM.contains (d16 d 12) then fail .fenced (word (d16 d 12))
          else match posterEntry s r t with
            | none => fail .notOwner 0
            | some _ =>
              let par : CollParams := { kind := kind, fmt := d8 d 15 % 16, red := d8 d 15 / 16, root := d16 d 24, len := d64 d 48 }
              if kind = 6 then
                if !instRoom s id then s
                else
                  let n := s.train.nextMcast
                  let s := { s with train := { s.train with nextMcast := n + 1 } }
                  postInto s h r { rcd := t, seq := n, poster := some (d16 d 12), par := par }
              else match findInst s id t.ent.gen.toNat (d32 d 16) none with
                | some i =>
                  if i.posts.any (fun q => q.member == d16 d 12) then fail .busy 0
                  else if i.par ≠ par then
                    mismatch (postInto s h r i) ((findInst (postInto s h r i) id t.ent.gen.toNat (d32 d 16) none).getD i) none
                  else postInto s h r i
                | none =>
                  if isDead s id t.ent.gen.toNat (d32 d 16) then badDesc s h 14
                  else if instRoom s id then postInto s h r { rcd := t, seq := d32 d 16, par := par } else s

/-- BARRIER (R330). -/
def execBarrier (h : Handle) (s : State) : Out3 := .next (collRow 0 h.toNat s)
/-- BCAST (R325). -/
def execBcast (h : Handle) (s : State) : Out3 := .next (collRow 1 h.toNat s)
/-- REDUCE (R325). -/
def execReduce (h : Handle) (s : State) : Out3 := .next (collRow 2 h.toNat s)
/-- ALLREDUCE (R325). -/
def execAllreduce (h : Handle) (s : State) : Out3 := .next (collRow 3 h.toNat s)
/-- ALLGATHER (R325). -/
def execAllgather (h : Handle) (s : State) : Out3 := .next (collRow 4 h.toNat s)
/-- REDUCE_SCATTER (R325). -/
def execReduceScatter (h : Handle) (s : State) : Out3 := .next (collRow 5 h.toNat s)
/-- MCAST (R330, R331). -/
def execMcast (h : Handle) (s : State) : Out3 := .next (collRow 6 h.toNat s)

/-! ## Messages between switches -/

/-- The fields of a segment on a trunk. -/
def segFields (i : Inst) (k count : Nat) (data : List (Nat × List (Line × Bool))) : List Nat :=
  [i.rcd.ent.id.toNat, i.rcd.ent.gen.toNat, i.seq, i.par.kind, i.par.fmt, i.par.red, i.par.root, i.par.len, k, count, i.mcount] ++
  data.flatMap (fun d => d.1 :: d.2.length :: d.2.map (fun l => l.1.toNat + (if l.2 then 2 ^ 512 else 0)))

/-- A segment goes down to every child switch (R318). Its cells cross the core and are counted as copies at CELL_INGRESS (R379, log entry 54). -/
def sendDown (s : State) (i : Inst) (k count : Nat) (data : List (Nat × List (Line × Bool))) : State :=
  (childTrunks s i).foldl (fun s p => emit s (.send p "SegmentDown" (segFields i k count data ++ (match i.rel with
    | some (c, f) => [c, f]
    | none => [])))) s

/-! ## Combining (R325, R328, R334) -/

/-- What segment `k` still waits for at this switch: unpruned members and child switches without a contribution. A released instance waits
only for those that have contributed before. -/
def segWaits (s : State) (i : Inst) (k : Nat) : Bool :=
  let has (child : Bool) (x : Nat) : Bool := i.contribs.any (fun c => c.seg == k && c.child == child && c.idx == x)
  let ever (child : Bool) (x : Nat) : Bool := i.contribs.any (fun c => c.child == child && c.idx == x)
  let members := ((liveLocals s i).map (·.idx)).filter (fun m => k == 0 || sends i.par none m)
  let members := if i.rel.isSome then members.filter (fun m => i.posts.any (fun q => q.member == m && !q.ended)) else members
  let kids := childTrunks s i
  let kids := if i.rel.isSome then kids.filter (ever true) else kids
  members.any (fun m => !has false m) || kids.any (fun p => !has true p)

/-- The contributions to a segment in the order of R328. -/
def inOrder (i : Inst) (k : Nat) : List Contrib :=
  let low (p : Nat) : Nat := ((i.rcd.ent.lowest.find? (fun e => e.1.val == p)).map (·.2)).getD p
  let mine := i.contribs.filter (fun c => c.seg == k)
  (mine.filter (fun c => !c.child)).mergeSort (fun a b => a.idx ≤ b.idx) ++
  (mine.filter (fun c => c.child)).mergeSort (fun a b => low a.idx ≤ low b.idx)

/-- Combine the next segment if all its contributions are here: the root forms its result and sends it down, another switch sends its
partial to its parent. -/
def combineNext : Nat → State → Inst → State × Inst
  | 0, s, i => (s, i)
  | fuel + 1, s, i =>
    let k := i.combined
    if segCount i.par ≤ k || segWaits s i k then (s, i)
    else
      let cs := inOrder i k
      let data := combineParts i.par (cs.map (·.data))
      let count := (cs.map (·.count)).sum
      let s := bump s (trainCnt 1)
      let i := { i with combined := k + 1, contribs := i.contribs.map (fun c => if c.seg = k then { c with data := [] } else c), count := if k = 0 then count else Nat.min i.count count }
      match (instRec s i).ent.parent with
      | none =>
        let s := sendDown s i k count data
        combineNext fuel s { i with results := tblPut i.results k data }
      | some p => combineNext fuel (emit s (.send p.val "SegmentUp" (segFields i k count data))) i

/-- The MCAST count of a poster, assigned by the root as its first segment passes (R331). -/
def assignCount (s : State) (i : Inst) : State × Inst :=
  let id := i.rcd.ent.id.toNat
  match i.poster, tblFind s.train.masters id with
  | some m, some mm =>
    if i.mcount ≠ 0 then (s, i)
    else
      let n := (tblGet mm.counts m 0 + 1) % 2 ^ 48
      let s := { s with train := { s.train with masters := tblPut s.train.masters id { mm with counts := tblPut mm.counts m n } } }
      (s, { i with mcount := n + m * 2 ^ 48 })
  | _, _ => (s, i)

/-! ## Delivery (R330) -/

/-- What a write into a buffer or landing comes to: it is visible; it waits; it has gone to the home at another switch, whose answer is awaited; or
it is refused. -/
inductive Wrote where
  | done (s : State)
  | wait (s : State)
  | away (s : State)
  | refused (st : Status)

/-- Write at a fabric address with a checked key (R323): here once every copy is recalled, `w` being the write itself; at another switch by `send`. -/
def writeAt (s : State) (key : Key) (addr n tag : Nat) (send : State → State) (w : State → Nat → EngineWrote) : Wrote :=
  if n = 0 then .done s
  else if addr / 2 ^ 48 ≠ switchId s then
    if reachable s (addr / 2 ^ 48) then .away (send s) else .refused .fenced
  else
    let lo := addr % 2 ^ 48
    match unitCheck s key true lo n with
    | some st => .refused st
    | none =>
      if !recallDone s tag then .wait s
      else if !rangeQuiet s lo n true then .wait (askWrite s lo n tag)
      else match w s lo with
        | .done s => .done (dropDirs s lo (lo + n))
        | .wait s => .wait s
        | .quota _ => .refused .overQuota

/-- Write lines into a buffer. -/
def bufWrite (s : State) (key : Key) (addr tag : Nat) (ls : List (Line × Bool)) : Wrote :=
  writeAt s key addr (64 * ls.length) tag (fun s => sendWrites s key addr ls) (fun s lo => engineWrite s [] (lo / 64) ls)

/-- Write lines to the host of a port. -/
def hostLines (s : State) (p addr : Nat) (ls : List (Line × Bool)) : State :=
  if ls.isEmpty then s else emit s (.send p "HostWrite" ([addr, 64 * ls.length] ++ lineFields ls))

/-- Write a member's part of a result; `sent`: some of it has gone to another switch. -/
def deliverParts (s : State) (q : Post) (tag : Nat) (sent : Bool) : List (Nat × List (Line × Bool)) → Wrote
  | [] => if sent then .away s else .done s
  | (off, ls) :: r =>
    if q.recvHost then deliverParts (hostLines s q.port (q.recv + off) ls) q tag sent r
    else match bufWrite s q.key (q.recv + off) tag ls with
      | .done s => deliverParts s q tag sent r
      | .away s => deliverParts s q tag true r
      | x => x

/-- A member's part of segment `k` is visible: its bytes count, and its progress (R48). -/
def postWritten (s : State) (i : Inst) (k : Nat) (data : List (Nat × List (Line × Bool))) (q : Post) : State × Post :=
  let parts := gives i.par i.rcd.ent.count q.member k data
  let n := (parts.map (fun p => 64 * p.2.length)).sum
  let q := { q with wtag := none, away := false, got := k + 1, bytes := q.bytes + n, poisoned := q.poisoned || parts.any (fun p => p.2.any (·.2)) }
  (setProgress s q.handle q.bytes, q)

/-- A refused write ends a member's descriptor; the instance goes on for the others. -/
def postRefused (s : State) (i : Inst) (st : Status) (q : Post) : State × Post :=
  (endPost s q st (collR0 0xFFFF i.count) (word q.bytes), { q with ended := true, wtag := none, away := false })

/-- Deliver the results of segment `k` to one member, as far as can be done now. -/
def deliverPost (s : State) (i : Inst) (k : Nat) (data : List (Nat × List (Line × Bool))) (q : Post) : State × Post :=
  if q.ended || q.away || decide (k < q.got) then (s, q)
  else
    let (tag, s) := match q.wtag with
      | some t => (t, s)
      | none => newTag s
    match deliverParts s q tag false (gives i.par i.rcd.ent.count q.member k data) with
    | .wait s => (s, { q with wtag := some tag })
    | .away s => (dropStat s tag, { q with wtag := none, away := true })
    | .done s => postWritten (dropStat s tag) i k data q
    | .refused st => postRefused (dropStat s tag) i st q

def setPost (i : Inst) (q : Post) : Inst := { i with posts := i.posts.map (fun x => if x.member = q.member then q else x) }

/-- Deliver to every member what can be delivered now; whether all are served. -/
def deliverAll (k : Nat) (data : List (Nat × List (Line × Bool))) (s : State) (i : Inst) : State × Inst × Bool :=
  let (s, i) := i.posts.foldl (fun (a : State × Inst) q =>
    let (s, q) := deliverPost a.1 a.2 k data q
    (s, setPost a.2 q)) (s, i)
  (s, i, i.posts.all (fun q => q.ended || decide (k < q.got)))

/-! ## Landings of MCAST (R323, R330, R331) -/

/-- What the writing of a landing comes to: its record, and a refusal. -/
abbrev Landed := State × Landing × Option Status

/-- A segment has landed, its flag included. -/
def landed (s : State) (k tag : Nat) (l : Landing) : Landed :=
  (dropStat s tag, { l with got := k + 1, tag := none, lines := false, away := false }, none)

/-- What a write comes to for a landing: `k` goes on where it is visible. -/
def landStep (w : Wrote) (s0 : State) (tag : Nat) (l : Landing) (k : State → Landed) : Landed :=
  match w with
  | .wait s => (s, { l with tag := some tag, away := false }, none)
  | .away s => (dropStat s tag, { l with tag := none, away := true }, none)
  | .refused st => (dropStat s0 tag, { l with tag := none, away := false }, some st)
  | .done s => k s

/-- Write the flag after the last segment's lines (R330, R331). -/
def landFlag (s : State) (i : Inst) (k : Nat) (m : TrainMember) (tag : Nat) (l : Landing) : Landed :=
  let a := m.flagAt.toNat
  if k + 1 ≠ segCount i.par ∨ a = 0 ∨ m.kind = 0 then landed s k tag l
  else if m.kind = 2 then landed (emit s (.send ((epPort s m.ep).getD 0) "HostWrite" [a, 8, i.mcount])) k tag l
  else
    landStep (writeAt s i.rcd.ent.owner a 8 tag (fun s => sendEngine s a "EngineWrite" [8, 0xFFFF, i.rcd.ent.owner.toNat, i.mcount])
      (fun s lo => engineWriteBytes s lo (natBytes 8 i.mcount) false)) s tag { l with lines := true } (fun s => landed s k tag l)

/-- Write an MCAST's segment into one landing, then the flag after the last (R330). -/
def landOne (s : State) (i : Inst) (k : Nat) (ls : List (Line × Bool)) (m : TrainMember) (l : Landing) : Landed :=
  let (tag, s) := match l.tag with
    | some t => (t, s)
    | none => newTag s
  let a := m.land.toNat + segBytes * k
  if l.away then (s, l, none)
  else if l.lines then landFlag s i k m tag l
  else if m.kind = 1 then landStep (bufWrite s i.rcd.ent.owner a tag ls) s tag l (fun s => landFlag s i k m tag l)
  else if m.kind = 2 then landFlag (hostLines s ((epPort s m.ep).getD 0) a ls) i k m tag l
  else landFlag s i k m tag l

def landingOf (i : Inst) (m : Nat) : Landing := (i.landings.find? (fun l => l.idx == m)).getD { idx := m }

/-- Take in what the writing of a landing came to. -/
def setLanding (i : Inst) (l : Landing) (bad : Option Status) : Inst :=
  let i := { i with landings := i.landings.filter (fun x => x.idx != l.idx) ++ [l] }
  match bad with
  | some st => { i with failed := i.failed ++ [(l.idx, st)] }
  | none => if segCount i.par ≤ l.got ∧ i.acked.contains l.idx = false then { i with acked := i.acked ++ [l.idx] } else i

/-- Whether segment `k` of an MCAST is done with at a member: written, refused, or its own. -/
def landDone (i : Inst) (k : Nat) (m : TrainMember) : Bool :=
  i.poster == some m.idx || decide (k < (landingOf i m.idx).got) || i.failed.any (fun f => f.1 == m.idx)

/-- Write an MCAST's segment into the landings of the local members, as far as can be done now; whether all are served. -/
def landAll (k : Nat) (ls : List (Line × Bool)) (s : State) (i : Inst) : State × Inst × Bool :=
  let (s, i) := (liveLocals s i).foldl (fun (a : State × Inst) m =>
    if landDone a.2 k m then a
    else
      let (s, l, bad) := landOne a.1 a.2 k ls m (landingOf a.2 m.idx)
      (s, setLanding a.2 l bad)) (s, i)
  (s, i, (liveLocals s i).all (landDone i k))

/-! ## Completion -/

/-- The members of an MCAST whose flags count: all but the poster and the pruned. -/
def mcastTargets (s : State) (i : Inst) : Nat :=
  let id := i.rcd.ent.id.toNat
  let all := match tblFind s.train.masters id with
    | some m => m.members.length
    | none => i.rcd.ent.count
  all - 1 - ((instRec s i).prunedM.filter (fun m => i.poster != some m)).length

/-- Report the landings written and refused here toward the poster's edge switch (R330). -/
def sendAck (s : State) (i : Inst) (ms : List Nat) (failed : List (Nat × Status)) : State :=
  let fields := [i.rcd.ent.id.toNat, i.rcd.ent.gen.toNat, i.seq, i.poster.getD 0, ms.length] ++ ms ++ failed.flatMap (fun f => [f.1, statusCode f.2])
  match (instRec s i).ent.parent with
  | some p => emit s (.send p.val "McastAck" fields)
  | none =>
    match (tblFind s.train.masters i.rcd.ent.id.toNat).bind (fun m => m.members.find? (fun e => i.poster == some e.1)) with
    | some e => sendSwitch s e.2.2 "McastAck" fields
    | none => s

/-- Complete what a finished or released instance leaves. A REDUCE ends its root's descriptor, and the others with the root's record (R330). -/
def finishInst (s : State) (i : Inst) : State :=
  if i.par.kind = 6 then
    let ended := segCount i.par ≤ i.down
    let acks := i.acked.length
    match i.posts with
    | q :: _ =>
      let r1 := word acks
      let s := setProgress s q.handle acks
      if q.ended then (if i.rel.isSome then dropInst s i else putInst s i) else
      match i.rel with
      | some (code, _) => dropInst (endPost (modHandle s q.handle (fun h => { h with incomplete := true })) q .fenced (collR0 code acks) r1) i
      | none =>
        if ended && decide (mcastTargets s i ≤ acks + i.failed.length) then
          let st := match i.failed with
            | f :: _ => f.2
            | [] => if q.poisoned then .poisoned else .ok
          dropInst (endPost s q st (collR0 0xFFFF acks) r1) i
        else putInst s i
    | [] => if ended || i.rel.isSome then dropInst (sendAck s i i.acked i.failed) i else putInst s i
  else if segCount i.par ≤ i.down ∧ i.par.kind = 2 ∧ i.rel = none then
    let mine (q : Post) : Bool := q.member == i.par.root && !q.ended
    let s := (i.posts.filter mine).foldl (fun s q => endPost s q (if q.poisoned then .poisoned else .ok) (collR0 0xFFFF i.count) (word q.bytes)) s
    putInst s { i with posts := i.posts.map (fun q => if mine q then { q with ended := true } else q) }
  else if segCount i.par ≤ i.down then
    let s := (i.posts.filter (fun q => !q.ended)).foldl (fun s q =>
      match i.rel with
      | some (code, seg) =>
        endPost (modHandle s q.handle (fun h => { h with incomplete := true })) q .fenced (collR0 code i.count) (word (seg * segBytes))
      | none => endPost s q (if q.poisoned then .poisoned else .ok) (collR0 0xFFFF i.count) (word q.bytes)) s
    dropInst s i
  else putInst s i

/-- An instance whose root is lost ends: its members complete FENCED, with INCOMPLETE, and nothing more is delivered (R333, R334). -/
def loseInst (s : State) (i : Inst) : State :=
  let (code, seg) := i.rel.getD (0xFFFE, i.down)
  dropInst ((i.posts.filter (fun q => !q.ended)).foldl (fun s q =>
    let s := modHandle s q.handle (fun h => { h with incomplete := true })
    if i.par.kind = 6 then endPost s q .fenced (collR0 code i.acked.length) (word i.acked.length)
    else endPost s q .fenced (collR0 code i.count) (word (seg * segBytes))) s) i

/-- Write the next results that are here, in order. -/
def deliverNext : Nat → State → Inst → State × Inst
  | 0, s, i => (s, i)
  | fuel + 1, s, i =>
    match tblFind i.results i.down with
    | none => (s, i)
    | some data =>
      let (s, i, ok) :=
        if i.par.kind = 6 then landAll i.down ((data.head?.map (·.2)).getD []) s i else deliverAll i.down data s i
      if ok then deliverNext fuel s { i with results := tblErase i.results i.down, down := i.down + 1 } else (s, i)

/-- Combine, deliver and complete what can be. -/
def instRun (s : State) (i : Inst) : State :=
  let (s, i) := if i.par.kind = 6 then (s, i) else combineNext 32 s i
  let (s, i) := deliverNext 32 s i
  finishInst s i

/-! ## SEGMENT_ARRIVE (R325) -/

/-- The data of a member's next segment: a local pool buffer is read under its checks once its owned lines are recalled; otherwise the
operand brings it. `inl`: a refusal; `none`: not yet. -/
def memberData (s : State) (i : Inst) (q : Post) (g : SegMsg) : State × Post × Option (Status ⊕ List (Nat × List (Line × Bool))) :=
  let key := if reduces i.par.kind then 0xFFFF else q.member
  if !sends i.par i.poster q.member then (s, q, some (.inr []))
  else
    let addr := q.send + segBytes * q.seg
    let n := segLen i.par q.seg
    if q.sendHost || addr / 2 ^ 48 != switchId s then
      if g.status ≠ .ok then (s, q, some (.inl g.status)) else (s, q, some (.inr (g.data.map (fun d => (key, d.2)))))
    else
      let lo := addr % 2 ^ 48
      match unitCheck s q.key false lo n with
      | some st => (s, q, some (.inl st))
      | none =>
        let (tag, s) := match q.tag with
          | some t => (t, s)
          | none =>
            let (t, s) := newTag s
            (t, askRead s lo n t)
        if !recallDone s tag || !rangeQuiet s lo n false then (s, { q with tag := some tag }, none)
        else (dropStat (noteEngineRead s lo n) tag, { q with tag := none }, some (.inr [(key, engineLines s tag (lo / 64) (n / 64))]))

/-- A local member's segment. -/
def memberSegment (s : State) (i : Inst) (m : Nat) (g : SegMsg) : State :=
  match i.posts.find? (fun q => q.member == m && !q.ended) with
  | none => s
  | some q =>
    let k := q.seg
    if segCount i.par ≤ k ∨ i.combined + 32 ≤ k then s
    else
      match memberData s i q g with
      | (s, q, none) => putInst s (setPost i q)
      | (s, q, some (.inl st)) => putInst (endPost s q st (collR0 0xFFFF i.count) (word q.bytes)) (setPost i { q with ended := true })
      | (s, q, some (.inr data)) =>
        let q := { q with seg := k + 1, poisoned := q.poisoned || (i.par.kind == 6 && data.any (fun d => d.2.any (·.2))) }
        let i := setPost i q
        let s := askSegment s i q
        if i.par.kind = 6 then
          let (s, i) := if i.rcd.ent.root && k == 0 then assignCount s i else (s, i)
          match (instRec s i).ent.parent with
          | some p => instRun (emit s (.send p.val "SegmentUp" (segFields i k 1 data))) { i with combined := k + 1 }
          | none => instRun (sendDown s i k 1 data) { i with combined := k + 1, results := tblPut i.results k data }
        else instRun s { i with contribs := i.contribs ++ [{ seg := k, child := false, idx := m, data := data, count := 1 }] }

/-- The instance that a message from another switch belongs to, opened if it is new (R325, R335). -/
def msgInst (s : State) (g : SegMsg) : Option Inst :=
  match findInst s g.train.toNat g.gen.toNat g.seq g.poster with
  | some i => some i
  | none =>
    match tblFind s.train.trains g.train.toNat with
    | some t => if t.ent.gen = g.gen then some { rcd := t, seq := g.seq, poster := g.poster, par := g.par } else none
    | none => none

/-- A child's partial, or an MCAST on its way up. -/
def childSegment (s : State) (i : Inst) (p : Nat) (g : SegMsg) : State :=
  if !(childTrunks s i).contains p then s
  else if i.par.kind = 6 then
    let (s, i) := if i.rcd.ent.root && g.seg == 0 then assignCount s i else (s, i)
    match (instRec s i).ent.parent with
    | some q => instRun (emit s (.send q.val "SegmentUp" (segFields i g.seg g.count g.data))) i
    | none => instRun (sendDown s i g.seg g.count g.data) { i with results := tblPut i.results g.seg g.data }
  else if i.combined + 32 ≤ g.seg ∨ i.contribs.any (fun c => c.child && c.idx == p && c.seg == g.seg) = true then s
  else instRun s { i with contribs := i.contribs ++ [{ seg := g.seg, child := true, idx := p, data := g.data, count := g.count }] }

/-- The writes of a member's segment have completed at another switch, or were refused there. -/
def segmentWrote (s : State) (i : Inst) (m : Nat) (st : Status) : State :=
  if i.par.kind = 6 then
    let l := landingOf i m
    match (instRec s i).ent.locals.find? (fun x => x.idx == m) with
    | none => s
    | some x =>
      if !l.away then s
      else
        let (tag, s) := newTag s
        let (s, l, bad) := if st ≠ .ok then (s, { l with away := false }, some st)
          else if l.lines then landed s i.down tag l else landFlag s i i.down x tag { l with away := false }
        instRun s (setLanding i l bad)
  else match i.posts.find? (fun q => q.member == m && q.away && !q.ended), tblFind i.results i.down with
    | some q, some data =>
      let (s, q) := if st = .ok then postWritten s i i.down data q else postRefused s i st q
      instRun s (setPost i q)
    | _, _ => s

/-- The port on which a segment arrives, where it comes from another switch. -/
def segPort (i : Inst) : SegFrom → Option Nat
  | .child p => some p.val
  | .down => i.rcd.ent.parent.map (·.val)
  | .rootDone p => some p.val
  | .mismatch p => some p.val
  | _ => none

/-- SEGMENT_ARRIVE (R318, R325 to R330, R334). The port that a segment arrives on checks the owner key; unequal parameters end the instance (R327). -/
def execSegmentArrive (g : SegMsg) (s : State) : Out3 :=
  match msgInst s g with
  | none => .next s
  | some i =>
    let port := segPort i g.src
    let s := port.toList.foldl (fun s p => creditBack s p 5) s
    if port.any (fun p => !ingressKey s p i.rcd.ent.owner) then .next (bump s (portRouteCnt (port.getD 0) 0))
    else if isDead s g.train.toNat g.gen.toNat g.seq ∧ g.poster = none then .next s
    else if i.par ≠ g.par then .next (mismatch s i none)
    else match g.src with
      | .member m => .next (memberSegment s i m g)
      | .child p => .next (childSegment s i p.val g)
      | .down =>
        if i.rcd.ent.root then .next (instRun s i)
        else
          let rel := match i.rel with
            | some r => some (g.rel.getD r)
            | none => g.rel
          let i := { i with rel := rel, count := g.count, mcount := g.mcount }
          if g.seg = i.sent then .next (instRun (sendDown s i g.seg g.count g.data) { i with sent := g.seg + 1, results := tblPut i.results g.seg g.data })
          else .next (instRun s i)
      | .ack ms =>
        if i.posts.isEmpty then .next (sendAck s i ms g.failed)
        else .next (instRun s { i with
          acked := i.acked ++ ms.filter (fun m => !i.acked.contains m)
          failed := i.failed ++ g.failed.filter (fun f => !i.failed.any (fun x => x.1 == f.1)) })
      | .wrote m => .next (segmentWrote s i m g.status)
      | .rootDone p => .next (if s.train.insts.any (sameInst i) then rootReduced s i (some p.val) else s)
      | .mismatch p => .next (mismatch s i (some p.val))

end Sys2Proof.Machine
end

