-- ==== Sys2Proof/Machine/TrainOps.lean ====
section
/-! DEFINITION. TRAIN_CREATE and TRAIN_EDIT (13, R320, R321): the check, adoption, pruning and removal of train entries, and the progress of an edit. -/

namespace Sys2Proof.Machine

/-! ## Adoption (R317, R334) -/

/-- Go on with the released instances of a train: what their surviving contributors allow is combined and delivered (R334). -/
def runReleased (s : State) (id : Nat) : State := (s.train.insts.filter (fun i => instOf id i && i.rel.isSome)).foldl instRun s

/-- Install an entry as its train's current generation (R317). -/
def adoptEntry (s : State) (e : TrainEnt) : State :=
  let s := releaseTrain s e.id.toNat 0xFFFF
  let offered := s.train.offered.filter (fun x => !(x.id == e.id && x.gen == e.gen))
  let dead := s.train.dead.filter (fun x => x.1 != e.id.toNat)
  runReleased (bump { s with train := { s.train with trains := tblPut s.train.trains e.id.toNat { ent := e }, offered := offered, dead := dead } } (trainCnt 0)) e.id.toNat

/-- Drop a train's entry. -/
def dropTrain (s : State) (id : Nat) : State :=
  let s := releaseTrain s id 0xFFFF
  runReleased { s with train := { s.train with trains := tblErase s.train.trains id, dead := s.train.dead.filter (fun x => x.1 != id) } } id

/-- Owe the root the report of a generation adopted here (R321). -/
def oweReport (s : State) (id gen : Nat) : State :=
  reportAdopted { s with train := { s.train with owing := s.train.owing ++ [(id, gen)] } } id

/-- The next generation of a train (R317). -/
def nextTrainGen (g : Nat) : Nat := if g % 65536 = 65535 then 1 else g + 1

/-! ## Pruning (R333, R334) -/

/-- Complete the descriptors of pruned members (R334). -/
def endPruned (s : State) (id code : Nat) (cut : List Nat) : State :=
  (s.train.insts.filter (instOf id)).foldl (fun s i =>
    let gone := i.posts.filter (fun q => !q.ended && cut.contains q.member)
    let s := gone.foldl (fun s q => endPost s q .fenced (collR0 code 0) 0) s
    { s with train := { s.train with insts := s.train.insts.map (fun x =>
      if sameInst i x then { x with posts := x.posts.map (fun q => if cut.contains q.member then { q with ended := true } else q) } else x) } }) s

/-- Prune members and child ports of a train here under a raised generation: its instances are released and go on with what survives. -/
def pruneEntry (s : State) (t : TrainRec) (gen : Nat) (cut ports : List Nat) : State :=
  let id := t.ent.id.toNat
  let code := cut.foldl Nat.min 0xFFFD
  let add (x : TrainRec) : TrainRec := { x with prunedM := (x.prunedM ++ cut).eraseDups, prunedP := (x.prunedP ++ ports).eraseDups }
  let s := endPruned (releaseTrain s id code) id code cut
  let t := add { t with ent := { t.ent with gen := BitVec.ofNat 16 gen } }
  let s := { s with train := { s.train with
    trains := tblPut s.train.trains id t
    masters := tblUpd s.train.masters id (fun m => { m with gen := gen })
    insts := s.train.insts.map (fun i => if instOf id i then { i with rcd := add i.rcd } else i) } }
  (s.train.insts.filter (instOf id)).foldl instRun s

/-- Tell the root of a train what was pruned here, and from the root every other switch of the train (R317, R333). -/
def tellRaise (s : State) (t : TrainRec) (gen : Nat) (cut : List Nat) : State :=
  let id := t.ent.id.toNat
  let told := if t.ent.root then (((tblFind s.train.masters id).map (·.switches)).getD []).filter (· != switchId s) else [id / 2 ^ 14 % 4096]
  told.foldl (fun s sw => sendSwitch s sw "TrainRaise" ([id, gen] ++ cut)) s

/-- A fence elsewhere pruned members of a train (R333): the root raises the generation once for what it did not know, and every other switch takes the
generation that the root gives. -/
def raiseTrain (s : State) (id gen : Nat) (cut : List Nat) : State :=
  match tblFind s.train.trains id with
  | none => s
  | some t =>
    let known := cut.all t.prunedM.contains
    if t.ent.root then
      if known then s
      else
        let g := nextTrainGen t.ent.gen.toNat
        tellRaise (pruneEntry s t g cut []) t g (t.prunedM ++ cut).eraseDups
    else if known && t.ent.gen.toNat == gen then s
    else pruneEntry s t gen cut []

/-! ## Progress of an edit (R320, R321) -/

/-- The switches of an operation's entries other than this one. -/
def othersOf (s : State) (o : TrainOp) : List Nat := (o.entries.map (·.1)).filter (· != switchId s)

/-- Every switch has accepted: the generation is adopted here and at the others. -/
def installTrain (s : State) (o : TrainOp) : State :=
  let counts := ((tblFind s.train.masters o.id).map (·.counts)).getD []
  let old := ((tblFind s.train.masters o.id).map (·.switches)).getD []
  let now := o.entries.map (·.1)
  let s := (o.entries.filter (fun e => e.1 == switchId s)).foldl (fun s e => adoptEntry s e.2) s
  let s := { s with train := { s.train with masters := tblPut s.train.masters o.id { gen := o.gen, switches := now, members := o.members, counts := counts } } }
  let s := (othersOf s o).foldl (fun s sw => sendSwitch s sw "TrainAdopt" [o.id, o.gen]) s
  let gone := old.filter (fun sw => !now.contains sw)
  let s := gone.foldl (fun s sw => sendSwitch s sw "TrainRemove" [o.id]) s
  setTrainOp s { o with installed := true, adopting := othersOf s o ++ gone }

/-- Move an operation on as its switches answer: refused, it is withdrawn; accepted by all, it is installed. -/
def trainProgress (s : State) (o : TrainOp) : State :=
  if !o.asking.isEmpty then s
  else match o.refused with
    | some (st, idx) =>
      let s := (othersOf s o).foldl (fun s sw => sendSwitch s sw "TrainWithdraw" [o.id, o.gen]) s
      let s := { s with train := { s.train with offered := s.train.offered.filter (fun x => !(x.id.toNat == o.id && x.gen.toNat == o.gen)) } }
      let r0 : Word := if st = .badDescriptor then 16 else 0
      engineDone (dropTrainOp s o) o.handle st r0 (if st = .badDescriptor then 0 else word idx)
    | none =>
      let s := if o.installed then s else installTrain s o
      match s.train.ops.find? (fun x => x.handle == o.handle) with
      | some o => trainFinish s o
      | none => s

/-! ## TRAIN_CREATE and TRAIN_EDIT -/

/-- The first entry of an image that lies in a fenced domain (R320): a switch, else a member behind a fenced port or switch. -/
def fencedEntry (s : State) (ms : List ImgMember) (ks : List ImgSwitch) : Option Nat :=
  let epF (m : ImgMember) : Bool := switchFenced s m.edge || (List.range 128).any (fun p =>
    localFenced s p && m.edge == switchId s && (portEp s p).toNat == m.ep)
  match ks.zipIdx.find? (fun e => switchFenced s e.1.sw) with
  | some e => some e.2
  | none => (ms.zipIdx.find? (fun e => epF e.1)).map (·.2)

/-- Ask every switch of an image for its acceptance. -/
def startTrain (s : State) (h mode id gen : Nat) (owner : Key) (img : List Byte) : State :=
  let ms := imgMembers img
  let ks := imgSwitches img
  let entries := ks.map (fun k => (k.sw, makeEntry s ms ks id gen owner k))
  let own := (entries.filter (fun e => e.1 == switchId s)).map (·.2)
  let refused := own.findSome? (fun e => match entryCheck s e with
    | .accepted => none
    | .noRole => some (Status.badDescriptor, 0)
    | .noRoom => some (.busy, 0)
    | .noKey => some (.keyReject, 0))
  let o : TrainOp := { handle := h, mode := mode, id := id, gen := gen, owner := owner, entries := entries, members := ms.zipIdx.map (fun e => (e.2, BitVec.ofNat 16 e.1.ep, e.1.edge)), refused := refused }
  let o := if refused.isSome then { o with entries := entries.filter (fun e => e.1 == switchId s) } else { o with asking := othersOf s o }
  let s := markStarted { s with train := { s.train with ops := s.train.ops ++ [o] } } h
  let s := if refused.isSome then s else
    (o.entries.filter (fun e => e.1 != switchId s)).foldl (fun s e =>
      sendSwitch s e.1 "TrainEntry" [id, gen, owner.toNat, e.2.count, (e.2.parent.map (·.val)).getD 255, e.2.children.toNat]) s
  trainProgress s o

/-- The checks of an image that both opcodes share: its address, length, poison, CRC, R319, fences. -/
def withTrainImage (s : State) (h : Nat) (r : HandleRec) (f : List Byte → State) : State :=
  let d := r.desc
  if d64 d 16 % 64 ≠ 0 then badDesc s h 16
  else if d32 d 24 < 128 ∨ 163904 < d32 d 24 then badDesc s h 24
  else if r.imagePoison then commit s h .poisoned 0 0
  else match r.image with
    | none => s
    | some img =>
      if crc32c img ≠ d32 d 28 then badDesc s h 28
      else if !trainImageOk s img (d32 d 24) then badDesc s h 16
      else match fencedEntry s (imgMembers img) (imgSwitches img) with
        | some i => commit s h .fenced 0 (word i)
        | none => f img

/-- TRAIN_CREATE (R320). -/
def execTrainCreate (h : Handle) (s : State) : Out3 :=
  match startable s h.toNat 0x4B with
  | none => .next s
  | some r =>
    let owner := dKeyAt r.desc 12
    if !isTenant s owner then .next (commit s h.toNat .keyReject 0 0)
    else .next (withTrainImage s h.toNat r (fun img =>
      let base := switchId s * 2 ^ 14
      let used (i : Nat) : Bool := tblHas s.train.masters (base + i) || s.train.ops.any (fun o => o.id == base + i)
      match (List.range 16384).find? (fun i => !used i) with
      | none => commit s h.toNat .busy 0 0
      | some i => startTrain s h.toNat 0 (base + i) 1 owner img))

/-- What TRAIN_EDIT finds first: an unknown train, or another edit of it that is live. -/
def editRefusal (s : State) (h : Nat) (r : HandleRec) : Option Status :=
  let id := d32 r.desc 8
  if !tblHas s.train.masters id then some .notOwner
  else if s.train.ops.any (fun o => o.id == id) then some .tableBusy
  else if (tblFind s.train.claims id).any (fun k => k != h && (handleOf s k).any (fun y => decide (y.phase = .live))) then some .tableBusy
  else none

/-- TRAIN_EDIT with REPLACE (R321). -/
def execTrainEdit (h : Handle) (s : State) : Out3 :=
  match startable s h.toNat 0x4C with
  | none => .next s
  | some r =>
    if d8 r.desc 14 = 1 then .next s
    else if d8 r.desc 14 ≠ 0 then .next (badDesc s h.toNat 14)
    else match editRefusal s h.toNat r with
      | some st => .next (commit s h.toNat st 0 0)
      | none =>
        let id := d32 r.desc 8
        match tblFind s.train.masters id, tblFind s.train.trains id with
        | some m, some t =>
          let s := { s with train := { s.train with claims := tblPut s.train.claims id h.toNat } }
          .next (withTrainImage s h.toNat r (fun img => startTrain s h.toNat 1 id (nextTrainGen m.gen) t.ent.owner img))
        | _, _ => .next s

/-- TRAIN_EDIT with DELETE (R321). -/
def execTrainDelete (h : Handle) (s : State) : Out3 :=
  match startable s h.toNat 0x4C with
  | none => .next s
  | some r =>
    if d8 r.desc 14 ≠ 1 then .next s
    else match editRefusal s h.toNat r with
      | some st => .next (commit s h.toNat st 0 0)
      | none =>
        let id := d32 r.desc 8
        match tblFind s.train.masters id with
        | none => .next s
        | some m =>
          let others := m.switches.filter (· != switchId s)
          let o : TrainOp := { handle := h.toNat, mode := 2, id := id, gen := nextTrainGen m.gen, owner := 0, adopting := others, installed := true }
          let s := dropTrain (markStarted { s with train := { s.train with claims := tblPut s.train.claims id h.toNat, ops := s.train.ops ++ [o] } } h.toNat) id
          let s := others.foldl (fun s sw => sendSwitch s sw "TrainRemove" [id]) s
          .next (trainProgress s o)

/-- An answer reaches the root (R320). -/
def trainReply (s : State) (id gen sw : Nat) (r : TrainReply) : State :=
  match s.train.ops.find? (fun o => o.id == id && o.gen == gen && o.asking.contains sw) with
  | none => s
  | some o =>
    let idx := ((o.entries.map (·.1)).zipIdx.find? (fun e => e.1 == sw)).map (·.2)
    let bad (st : Status) : Option (Status × Nat) := match o.refused with
      | some x => some x
      | none => some (st, idx.getD 0)
    let refused := match r with
      | .accepted => o.refused
      | .noRole => bad .badDescriptor
      | .noRoom => bad .busy
      | .noKey => bad .keyReject
    let o := { o with asking := o.asking.filter (· != sw), refused := refused }
    trainProgress (setTrainOp s o) o

/-- TRAIN_ENTRY_DISTRIBUTE (R320, R321, R333): a switch of the tree takes its entry, its adoption, its removal or a raised generation; the root the
answers. -/
def execTrainEntryDistribute (e : TrainMsg) (s : State) : Out3 :=
  match e with
  | .entry t =>
    let r := entryCheck s t
    let root := t.id.toNat / 2 ^ 14 % 4096
    let code := match r with
      | .accepted => 0
      | .noRole => 1
      | .noRoom => 2
      | .noKey => 3
    let s := if r = .accepted then { s with train := { s.train with offered := s.train.offered.filter (fun x => x.id != t.id) ++ [t] } } else s
    .next (sendSwitch s root "TrainReply" [t.id.toNat, t.gen.toNat, code])
  | .reply id gen sw r => .next (trainReply s id.toNat gen.toNat sw.toNat r)
  | .adopt id gen =>
    match s.train.offered.find? (fun x => x.id == id && x.gen == gen) with
    | some t => .next (oweReport (adoptEntry s t) id.toNat gen.toNat)
    | none => .next s
  | .adopted id gen sw =>
    match s.train.ops.find? (fun o => o.id == id.toNat && o.gen == gen.toNat && o.adopting.contains sw.toNat) with
    | some o =>
      let o := { o with adopting := o.adopting.filter (· != sw.toNat) }
      .next (trainProgress (setTrainOp s o) o)
    | none => .next s
  | .withdraw id gen => .next { s with train := { s.train with offered := s.train.offered.filter (fun x => !(x.id == id && x.gen == gen)) } }
  | .remove id => .next (oweReport (dropTrain s id.toNat) id.toNat (((tblFind s.train.trains id.toNat).map (fun t => nextTrainGen t.ent.gen.toNat)).getD 0))
  | .raise id gen cut => .next (raiseTrain s id.toNat gen.toNat cut)

end Sys2Proof.Machine
end

