-- ==== Sys2Proof/Machine/Fences.lean ====
section
/-! DEFINITION. Failure domains, fence steps, notices, unresponsive endpoints and engine faults (20; R109, R110, R137, R333, R344, R359). -/

namespace Sys2Proof.Machine

/-! ## Domains (R487, R492) -/

/-- What a domain covers: ports of this device, ports of other switches, and switches. -/
structure Cover where
  ports : List Nat := []
  remote : List (Nat × Nat) := []
  switches : List Nat := []

/-- What a domain ID covers. -/
def domCover (s : State) (d : Nat) : Cover :=
  match domKind d with
  | 1 => if domSwitch d = switchId s then { ports := [domIndex d] } else { remote := [(domSwitch d, domIndex d)] }
  | 2 => { switches := [domSwitch d] }
  | _ => { ports := groupPorts s (domIndex d), switches := groupSwitches s (domIndex d) }

/-- Whether a domain ID may be fenced (R487). -/
def domOk (s : State) (d : Nat) : Bool :=
  match domKind d with
  | 1 => decide (domIndex d < 128) && (domSwitch d != switchId s || !bondOdd s (domIndex d))
  | 2 => domIndex d == 0 && domSwitch d != switchId s
  | 3 => domSwitch d == switchId s && decide (domIndex d < 128) && flag s (groupBase (domIndex d) + 16) 63
  | _ => false

/-- Whether a domain is in force: by its own entry, or through a covering SWITCH or GROUP. -/
def domFenced (s : State) (d : Nat) : Bool :=
  s.ras.fences.contains d ||
  (match domKind d with
    | 1 => portFenced s (domSwitch d) (domIndex d)
    | 2 => switchFenced s (domSwitch d)
    | _ => false)

/-- The PORT and SWITCH domains that a domain names. -/
def domParts (s : State) (d : Nat) : List Nat :=
  if domKind d = 3 then (groupPorts s (domIndex d)).map (portDom (switchId s)) ++ (groupSwitches s (domIndex d)).map switchDom else [d]

/-- The domain that a fence step takes (R492): with the fence table full, a remote PORT is fenced as its switch. -/
def fenceAs (s : State) (d : Nat) : Nat :=
  if 8192 ≤ s.ras.fences.length ∧ domKind d = 1 ∧ domSwitch d ≠ switchId s then switchDom (domSwitch d) else d

/-- Enter a domain in the fence table (R492): a SWITCH replaces the PORTs it covers where the table is full. -/
def enterFence (s : State) (d : Nat) : State :=
  let full := decide (8192 ≤ s.ras.fences.length)
  let keep := if full && domKind d == 2 then s.ras.fences.filter (fun x => !(domKind x == 1 && domSwitch x == domSwitch d)) else s.ras.fences
  { s with ras := { s.ras with fences := if keep.contains d then keep else keep ++ [d] } }

/-! ## Routes across a domain (R350, R490) -/

/-- The far end of a trunk, where known. -/
def trunkEnd (s : State) (sw p : Nat) : Option (Nat × Option Nat) :=
  match tblFind s.ras.adj (sw * 128 + p) with
  | some (a, b) => some (a, some b)
  | none => (peerOf s sw p).map (fun a => (a, none))

/-- Whether a cover holds a port of a switch. -/
def Cover.port (s : State) (c : Cover) (sw p : Nat) : Bool :=
  c.switches.contains sw || (if sw = switchId s then c.ports.contains p else c.remote.contains (sw, p))

/-- Walk the ports of a bridle from a switch on, as far as trunks are known. -/
def walkCrosses (s : State) (c : Cover) : Nat → List Nat → Bool
  | _, [] => false
  | sw, p :: ps =>
    c.port s sw p ||
    (match trunkEnd s sw p with
      | some (a, b) => c.switches.contains a || b.any (c.port s a) || walkCrosses s c a ps
      | none => false)

/-- Whether a bridle from this switch crosses a domain. -/
def bridleCrosses (s : State) (c : Cover) (b : Word) : Bool :=
  walkCrosses s c (switchId s) ((List.range (bCount b)).map (bPort b))

/-- Clear the slots of a path table that cross a domain, or lead to a fenced switch. -/
def clearSlots (s : State) (c : Cover) (t : Tbl PathEntry) : Tbl PathEntry :=
  t.map (fun e => (e.1, { e.2 with mask := (List.range 8).foldl (fun (m : BitVec 8) i =>
    if m.getLsbD i && (c.switches.contains e.1 || (e.2.bridles[i]?).any (bridleCrosses s c)) then m &&& ~~~((1 : BitVec 8) <<< i) else m) e.2.mask }))

/-- Whether the request of a released entry rides a bridle that crosses a domain. -/
def rideCut (s : State) (c : Cover) (r : Req) : Bool :=
  let dsw := r.addr.toNat / 2 ^ 48
  let part := reqPart r
  dsw != switchId s && !s.route.moved.any (fun m => m.2 == r) &&
  (c.switches.contains dsw ||
   (match heldMarker s r.src dsw part r.tc.toNat r.otag.toNat none with
    | some m => bridleCrosses s c m.bridle
    | none => (bridleFor s r.src dsw part r.tc.toNat r.otag.toNat none).any (bridleCrosses s c)))

/-- Complete the requests in flight on routes that a fence removed (R137): later requests of their streams wait for them. -/
def cutStreams (s : State) (c : Cover) : State :=
  let mine := s.ord.outs.filter (fun o => o.released && !o.cut && rideCut s c o.req)
  mine.foldl (fun s o => refuseReq (setOut s o.req.num (fun x => { x with cut := true })) o.req .fenced) s

/-- Packets that wait behind a fenced port leave its egress queues, counted by cells (R344, R378). -/
def dropEgress (s : State) (p : Nat) : State :=
  (s.cong.egress.filter (fun e => e.port == p)).foldl dropPkt s

/-- Take fenced ports out of service: rings of host ports halt with cause 4, links go DOWN, what waits for them is dropped. -/
def downPort (s : State) (p : Nat) : State :=
  let s := if isHostPort s p then haltBound s (some p) 4 else s
  let s := if isCxl s p then { s with link := { s.link with cxl := tblErase s.link.cxl p } } else dropLink s p
  dropEgress s p

/-! ## Tethers (R359, R360) -/

def tetherCut (s : State) (c : Cover) (t : Tether) : Bool :=
  if t.master then t.route.any (fun e => c.port s e.1 e.2.1 || c.port s e.1 e.2.2)
  else c.switches.contains (t.id / 2 ^ 13 % 4096) || c.switches.contains t.dsw || c.ports.contains t.inPort || c.ports.contains t.outPort

/-- A closing whose removals have all been reported, or belong to fenced switches, is complete. -/
def closedTether (s : State) (t : Tether) : State :=
  if t.st = .closing ∧ t.moving = false ∧ (routeOthers s t).all (fun x => t.accepted.contains x || switchFenced s x) = true then
    let s := bump (dropTether s t.id) (routeCnt 6)
    match t.handle with
    | some h => engineDone s h .ok 0 0
    | none => s
  else s

/-- One tether in a fence step; whether it became BROKEN. -/
def fenceTether (s : State) (cause : Nat) (t : Tether) : State × Bool :=
  if !t.master then (dropTether s t.id, false)
  else match t.st with
    | .active =>
      let s := reserveUnits s t false
      let s := putTether s { t with st := .broken, moving := false, handle := none }
      let s := ((routeOthers s t).filter (fun x => !switchFenced s x)).foldl (fun s sw => sendSwitch s sw "TetherRemove" [t.id]) s
      (logEvent (bump s (routeCnt 5)) 1 3 t.inPort cause t.owner 0 0 t.id 0, true)
    | .opening => (refuseTether s t .fenced ((fencedHop s t).getD 0), false)
    | .closing => (closedTether s t, false)
    | .broken => (s, false)

def fenceTethers (s : State) (c : Cover) (cause : Nat) : State × Nat :=
  (s.route.tethers.filter (tetherCut s c)).foldl (fun a t =>
    let (s, b) := fenceTether a.1 cause t
    (s, if b then a.2 + 1 else a.2)) (s, 0)

/-! ## Trains (R333, R334) -/

/-- Child ports, members here, and the lowest member index, that a fence cuts off from a train entry. -/
def trainCutPorts (s : State) (c : Cover) (e : TrainEnt) : List Nat :=
  (entPorts e).filter (fun p => c.ports.contains p || (match trunkEnd s (switchId s) p with
    | some (a, b) => c.switches.contains a || b.any (c.port s a)
    | none => false))
def trainCutMembers (s : State) (c : Cover) (e : TrainEnt) : List Nat :=
  (e.locals.filter (fun m => (epPort s m.ep).any c.ports.contains)).map (·.idx)

/-- Members that the root knows behind the domain: here, at a fenced edge, or beneath a pruned port. -/
def masterCut (s : State) (c : Cover) (id : Nat) : List Nat :=
  ((tblFind s.train.masters id).map (fun m => (m.members.filter (fun x => c.switches.contains x.2.2)).map (·.1))).getD []

/-- Whether a train is lost here: its root switch is fenced, or this switch lies beneath the fenced domain. -/
def trainLost (s : State) (c : Cover) (e : TrainEnt) : Bool :=
  c.switches.contains (e.id.toNat / 2 ^ 14 % 4096) ||
  e.parent.any (fun p => c.ports.contains p.val || (match trunkEnd s (switchId s) p.val with
    | some (a, b) => c.switches.contains a || b.any (c.port s a)
    | none => false))

/-- Prune one train (R333): cut parts, a higher generation, and the release of its instances. -/
def pruneTrain (s : State) (c : Cover) (t : TrainRec) : State × Bool :=
  let e := t.ent
  let id := e.id.toNat
  let ports := trainCutPorts s c e
  let low := ports.filterMap (fun p => (e.lowest.find? (fun x => x.1.val == p)).map (·.2))
  let mem := trainCutMembers s c e ++ masterCut s c id
  if trainLost s c e then
    let s := releaseTrain s id 0xFFFE
    let s := (s.train.insts.filter (instOf id)).foldl loseInst s
    ({ s with train := { s.train with trains := tblErase s.train.trains id, masters := tblErase s.train.masters id } }, true)
  else if ports.isEmpty && mem.isEmpty then (s, false)
  else
    let cut := (mem ++ low).eraseDups
    let gen := nextTrainGen e.gen.toNat
    (tellRaise (pruneEntry s t gen cut ports) t gen cut, true)

def fenceTrains (s : State) (c : Cover) : State × Nat :=
  s.train.trains.foldl (fun a e =>
    let (s, b) := pruneTrain a.1 c e.2
    (s, if b then a.2 + 1 else a.2)) (s, 0)

/-! ## Endpoints (R109, R110, R160) -/

/-- Poison in place the lines that a fenced endpoint owns; returns how many. -/
def poisonOwned (s : State) (e : Endpoint) : State × Nat :=
  let mine := (s.coh.dir.filter (fun x => ownerOf x.2 == some (.ep e))).map (·.1)
  let s := mine.foldl (fun s l =>
    let s := homeErr (dropDir (storeLine s l (memLine s l).1 true) l) (linePart l) 4
    { s with coh := { s.coh with
      wbBuf := s.coh.wbBuf.map (fun w => if w.line = l then { w with poison := true } else w)
      trans := tblUpd s.coh.trans l (fun t => { t with poisoned := true, mem := t.mem.map (fun d => (d.1, true)) }) } }) (mine.foldl markDirty s)
  (s, mine.length)

/-- Close what a transaction waits for from a fenced endpoint: its snoop counts as answered RspI. -/
def closeFor (s : State) (e : Endpoint) (line : Nat) : State :=
  match transAt s line with
  | none => s
  | some t =>
    let open_ := t.snoops.any (fun n => n.dest == .ep e)
    let waits := open_ || t.wbFrom.contains e || t.ackFrom == some e
    if !waits then s
    else
      let s := match t.kind with
        | .recalls _ tag => if open_ then modStat s tag (fun x => { x with fenced := if x.fenced.contains e then x.fenced else x.fenced ++ [e] }) else s
        | .req _ => s
      let t := { t with snoops := t.snoops.filter (fun n => n.dest != .ep e), wbFrom := t.wbFrom.filter (· != e), ackFrom := if t.ackFrom = some e then none else t.ackFrom }
      progress (setTrans s line t) line

/-- Answers to snoops still due from an endpoint will not come (R108). -/
def dropOweds (s : State) (e : Endpoint) : State :=
  { s with coh := { s.coh with owed := s.coh.owed.filter (fun o => o.2.1 != e) } }

/-- Mark an endpoint fenced in every partition, poison what it owns, close its snoops, free its replay entries and windows; lines poisoned. -/
def fenceEndpoint (s : State) (e : Endpoint) : State × Nat :=
  let (s, n) := poisonOwned (dropOweds s e) e
  let s := { s with coh := { s.coh with registry := (List.range 16).foldl (fun t p => tblPut t (p * 65536 + e.toNat) false) s.coh.registry, sweeps := if s.coh.sweeps.contains e.toNat then s.coh.sweeps else s.coh.sweeps ++ [e.toNat] } }
  let s := { s with atm := { s.atm with replay := s.atm.replay.filter (fun x => x.src != e), rseqs := tblErase s.atm.rseqs e.toNat, windows := s.atm.windows.filter (fun x => x.1 / 4096 != e.toNat) } }
  ((s.coh.trans.map (·.1)).foldl (fun s l => closeFor s e l) s, n)

/-- The endpoints behind a domain: those of its host ports, and of its switches. -/
def coverEps (s : State) (c : Cover) : List Endpoint :=
  (c.ports.filter (isHostPort s)).map (portEp s) ++
  (s.route.eps.filter (fun e => c.switches.contains e.2.switch)).map (fun e => BitVec.ofNat 16 e.1)

/-! ## Pages (R193, R195, R454, R489) -/

/-- Whether a location lies in the domain. -/
def locFenced (s : State) (c : Cover) : Loc → Bool
  | .t0 .. => false
  | .t1 p _ _ => c.ports.contains p
  | .t2 d _ => c.switches.contains (donorBase s d / 2 ^ 48)

/-- Chunks not yet switched with a location in the domain keep their old locations; their pages count as skipped (R496). -/
def fenceChunks (s : State) (c : Cover) : State :=
  (s.tier.chunks.filter (fun k => k.stage != .switched && k.pages.any (fun m => locFenced s c m.old || locFenced s c m.new))).foldl (fun s k =>
    let s := undoChunk s k
    match opOf s k.op with
    | some o => bumpBy (setOp s k.op { o with skipped := o.skipped + k.pages.length }) (winchCnt 8) k.pages.length
    | none => s) s

/-- Lose the pages in the domain and drop the backing copies there; how many pages were lost. -/
def losePages (s : State) (c : Cover) : State × Nat :=
  let s := fenceChunks s c
  let gone := s.pool.backs.filter (fun e => !e.2.lost && locFenced s c e.2.loc)
  let s := gone.foldl (fun s e =>
    let s := loseBack s e.1
    match e.2.loc with
    | .t2 .. => freeLoc s e.2.loc
    | _ => s) s
  let s := (s.pool.backs.filter (fun e => e.2.copy.any (locFenced s c))).foldl (fun s e => dropCopy s e.1) s
  let s := { s with coh := { s.coh with reads := s.coh.reads.map (fun (r : PendRead) => if gone.any (fun e => backIdOf s (r.line / 1024) == some e.1) then { r with poison := true } else r) } }
  let lost (t : Tbl Nat) : Tbl Nat := t.filter (fun e => !c.ports.contains e.1)
  let s := { s with tier := { s.tier with t1cap := lost s.tier.t1cap, t1used := lost s.tier.t1used, t1next := lost s.tier.t1next } }
  (bumpBy s (rasCnt 9) gone.length, gone.length)

/-! ## The fence step (R488 to R491) -/

/-- The switches that a path table or endpoint directory names. -/
def knownSwitches (s : State) : List Nat := (s.route.paths.map (·.1) ++ s.route.eps.map (·.2.switch)).eraseDups

/-- Send notices for the parts of a domain. -/
def sendNotices (s : State) (d : Nat) (unfence : Bool) : State :=
  (domParts s d).foldl (fun s x =>
    let n : Notice := ⟨x, unfence, switchId s, s.ras.fenceGen⟩
    let s := { s with ras := { s.ras with seen := s.ras.seen ++ [n] } }
    (knownSwitches s).foldl (fun s sw => emit s (.fenceNotice sw n)) s) s

/-- Markers on bridles that cross the domain count as delivered (R353). -/
def cutMarkers (s : State) (c : Cover) : State :=
  { s with route := { s.route with markers := s.route.markers.filter (fun m => !bridleCrosses s c m.bridle) } }

/-- What a fence step lost and pruned. -/
structure FenceCount where
  pages : Nat
  trains : Nat
  tethers : Nat
  lines : Nat

/-- One fence step. `tell`: notices are sent, for a domain fenced here and not by a notice. -/
def fenceStep (s : State) (d0 : Nat) (cause : Nat) (tell : Bool) : State × FenceCount :=
  let d := fenceAs s d0
  let c := domCover s d
  let s := bump { s with ras := { s.ras with fenceGen := (s.ras.fenceGen + 1) % 2 ^ 32 } } (rasCnt 7)
  let s := enterFence (if tell then sendNotices s d false else s) d
  let s := c.ports.foldl downPort s
  let s := cutStreams s c
  let s := { s with route := { s.route with paths := clearSlots s c s.route.paths, oldPaths := clearSlots s c s.route.oldPaths } }
  let (s, tethers) := fenceTethers (cutMarkers s c) c cause
  let s := afterMarkers s
  let (s, trains) := fenceTrains s c
  let (s, lines) := (coverEps s c).foldl (fun a e =>
    let (s, n) := fenceEndpoint a.1 e
    (s, a.2 + n)) (s, 0)
  let (s, pages) := losePages s c
  ({ s with pool := { s.pool with compOrder := s.pool.compOrder ++ [2 ^ 100 + s.ras.fenceGen] } }, ⟨pages, trains, tethers, lines⟩)

/-- A fence step that holds no handle: its record (R493, R495). -/
def fenceFor (s : State) (d cause d0 : Nat) (d1 : FenceCount → Nat) : State :=
  let (s, n) := fenceStep s d cause (cause != 0xC)
  logEvent s 0xF 5 (d % 65536) cause 0 0 0 d0 (d1 n)

/-- FENCE_DOMAIN (R493). -/
def execFenceDomain (h : Handle) (s : State) : Out3 :=
  let h := h.toNat
  match startable s h 0x53 with
  | none => .next s
  | some r =>
    let d := d32 r.desc 8
    if !domOk s d then .next (badDesc s h 8)
    else if domFenced s d then .next (commit s h .busy 1 0)
    else
      let (s, n) := fenceStep (markStarted s h) d 0xB true
      let g := s.ras.fenceGen
      let s := logEvent s 0xF 5 (d % 65536) 0xB r.key h 0 g n.pages
      let r1 := Nat.min n.pages (2 ^ 32 - 1) + n.trains % 65536 * 2 ^ 32 + n.tethers % 65536 * 2 ^ 48
      let s := { s with ras := { s.ras with fenceWait := s.ras.fenceWait ++ [(h, 2 ^ 100 + g, g, r1)] } }
      .next (commitWith s h false .ok 0 0)

/-! ## Unfencing (R494) -/

/-- The sweep of the filter for a fenced endpoint ends: no entry names it (R110). -/
def sweepEnd (s : State) (e : Endpoint) : State :=
  if s.coh.sweeps.contains e.toNat then
    { s with coh := { s.coh with
      sweeps := s.coh.sweeps.filter (· != e.toNat)
      dir := s.coh.dir.filterMap (fun x => (removeHolder x.2 e).map (fun y => (x.1, y))) } }
  else s

/-- Permission returns to what no other entry holds fenced: endpoints may register, once the filter no longer names them, and links may train
(R110, R494). -/
def restorePart (s : State) (c : Cover) : State :=
  let free := c.ports.filter (fun p => !localFenced s p)
  let eps := (coverEps s c).filter (fun e => match epPort s e with
    | some p => !localFenced s p
    | none => !(tblFind s.route.eps e.toNat).any (fun x => switchFenced s x.switch))
  let s := eps.foldl sweepEnd s
  let s := { s with coh := { s.coh with registry := s.coh.registry.filter (fun x => x.2 || !eps.any (fun e => e.toNat == x.1 % 65536)) } }
  free.foldl startPort s

/-- Remove a domain's own entry, in a step of its own. -/
def unfenceStep (s : State) (d : Nat) (tell : Bool) : State :=
  let c := domCover s d
  let s := bump { s with ras := { s.ras with fences := s.ras.fences.filter (· != d), fenceGen := (s.ras.fenceGen + 1) % 2 ^ 32 } } (rasCnt 7)
  restorePart (if tell then sendNotices s d true else s) c

/-- Inputs that are asserted and mapped to a domain. -/
def inputHolds (s : State) (d : Nat) : Bool :=
  s.ras.inputs.any (fun i => flag s (rasBase + 0x100 + 8 * i) 32 && fld s (rasBase + 0x100 + 8 * i) 0 32 == d)

/-- UNFENCE_DOMAIN (R494). -/
def execUnfenceDomain (h : Handle) (s : State) : Out3 :=
  let h := h.toNat
  match startable s h 0x54 with
  | none => .next s
  | some r =>
    let d := d32 r.desc 8
    if !domOk s d then .next (badDesc s h 8)
    else if !s.ras.fences.contains d then .next (commit s h .busy 1 0)
    else if inputHolds s d then .next (commit s h .busy 2 0)
    else
      let s := unfenceStep (markStarted s h) d true
      let s := logEvent s 0xF 6 (d % 65536) 0xB r.key h 0 s.ras.fenceGen 0
      .next (commit s h .ok (BitVec.ofNat 64 s.ras.fenceGen) 0)

/-! ## Notices and alerts (R490, R495) -/

/-- A notice is kept as seen and goes on to every switch known here (R490). -/
def forwardNotice (s : State) (m : Notice) : State :=
  let s := { s with ras := { s.ras with seen := s.ras.seen ++ [m] } }
  (knownSwitches s).foldl (fun s sw => emit s (.fenceNotice sw m)) s

/-- What a notice does here (R490, R494). -/
def applyNotice (s : State) (m : Notice) : State :=
  if domKind m.domain = 3 ∨ domOk s m.domain = false then s
  else if m.unfence then
    if s.ras.fences.contains m.domain then logEvent (unfenceStep s m.domain false) 0xF 6 (m.domain % 65536) 0xC 0 0 0 m.origin m.gen else s
  else if domFenced s m.domain then logEvent s 0xF 5 (m.domain % 65536) 0xC 0 0 0 m.origin m.gen
  else fenceFor s m.domain 0xC m.origin (fun _ => m.gen)

/-- FENCE_NOTICE (R490): forwarded once to the switches known here, then applied. -/
def execFenceNotice (n : NoticeMsg) (s : State) : Out3 :=
  let m : Notice := ⟨n.domain.toNat, n.unfence, n.origin.toNat, n.gen.toNat⟩
  let s := bump s (rasCnt 8)
  if s.ras.seen.contains m then .next s else .next (applyNotice (forwardNotice s m) m)

/-- An asserted input takes effect: the fence of its domain, or a refusal. -/
def alertFence (s : State) (i : Nat) : State :=
  let a := rasBase + 0x100 + 8 * i
  let d := fld s a 0 32
  if !flag s a 32 then bump s (rasCnt 10)
  else if !domOk s d then logEvent (bump s (rasCnt 10)) 0xF 7 (d % 65536) 0xA 0 0 0 i 0
  else if domFenced s d then logEvent s 0xF 5 (d % 65536) 0xA 0 0 0 i 0
  else fenceFor s d 0xA i (fun n => n.pages)

/-- DOM_ALERT (R495): an input has passed its filter. During a warm reset its fence waits for the RAS-duty cores (R496). -/
def execDomAlert (i : Fin 16) (s : State) : Out3 :=
  if s.ras.inputs.contains i.val then .next s
  else
    let s := { s with ras := { s.ras with inputs := s.ras.inputs ++ [i.val] } }
    if s.sys.st = .quiesce ∨ s.sys.st = .restart then .next { s with sys := { s.sys with deferred := s.sys.deferred ++ [(6, i.val)] } }
    else if s.sys.st = .serving then .next (alertFence s i.val)
    else .next s

/-- DOM_ALERT_RELEASE (R495): releasing an input unfences nothing. -/
def execDomAlertRelease (i : Fin 16) (s : State) : Out3 :=
  .next { s with ras := { s.ras with inputs := s.ras.inputs.filter (· != i.val) } }

/-! ## Unresponsive endpoints and trunks (R109, R110, R344) -/

/-- A snoop of a line to an endpoint has timed out (R109): the endpoint's host port is fenced, here or by its edge switch. -/
def snoopExpired (s : State) (dst : Endpoint) (line : Nat) : State :=
  let p := linePart line
  let s := bump (homeErr s p 0) (homeCnt p 4)
  let s := regSet s (sliceBase p + 0x8018) (BitVec.ofNat 64 (dst.toNat + line % 2 ^ 42 * 2 ^ 16))
  match epPort s dst with
  | some q =>
    if localFenced s q then (fenceEndpoint s dst).1
    else fenceFor s (portDom (switchId s) q) 5 dst.toNat (fun c => c.lines)
  | none =>
    let s := match epWhere s dst with
      | .on sw => sendSwitch s sw "FenceRequest" [dst.toNat]
      | _ => s
    let (s, k) := fenceEndpoint s dst
    logEvent s 3 4 p 5 0 0 (switchId s * 2 ^ 48 + line * 64) dst.toNat k

/-- SNOOP_TIMEOUT (R109): a snoop is unanswered for the partition's SNP_TMO. -/
def execSnoopTimeout (off : PoolOff) (dst : Endpoint) (s : State) : Out3 :=
  let line := off.toNat / 64
  let p := linePart line
  match (transAt s line).bind (fun t => t.snoops.find? (fun n => n.dest == .ep dst)) with
  | none => .next s
  | some n =>
    match n.sentAt with
    | none => .next s
    | some t0 =>
      if s.now < t0 + snpTimeout s p then .next s else .next (snoopExpired s dst line)

/-- FILTER_SWEEP_END (R110): the filter no longer names a fenced endpoint. -/
def execFilterSweepEnd (dst : Endpoint) (s : State) : Out3 := .next (sweepEnd s dst)

/-- PORT_DOWN_FENCE_TIMEOUT (R344): a trunk down for DOWN_FENCE_MS is fenced. -/
def execPortDownFenceTimeout (p : PortId) (s : State) : Out3 :=
  if !isTrunk s p.val || localFenced s p.val || portUp s p.val then .next s
  else match (linkOf s p.val).downSince with
    | none => .next s
    | some t =>
      if s.now < t + 1000000 * fld s (portBase p.val + 0x100) 32 16 then .next s
      else .next (fenceFor s (portDom (switchId s) p.val) 9 p.val (fun _ => 0))

/-! ## Engine faults (R481) -/

/-- WINCH_ENGINE_FAULT (R477, R481): the engine's units are issued again, and the event is transient once they complete; a second failure of one of
them moves its control to a spare, or retires the engine. -/
def execWinchEngineFault (e : Fin 16) (s : State) : Out3 :=
  if s.tier.deadEngines.contains e.val then .next s
  else if !s.tier.engRedo.contains e.val then
    .next { s with tier := { s.tier with engRedo := s.tier.engRedo ++ [e.val] } }
  else
    let s := { s with tier := { s.tier with engRedo := s.tier.engRedo.filter (· != e.val) } }
    if s.tier.sparedEngines.length < 4 then
      .next (errorRecord { s with tier := { s.tier with sparedEngines := s.tier.sparedEngines ++ [e.val] } } { kind := 9, cls := 2, idx := e.val, cause := 3, spareKind := 9, spareIdx := s.tier.sparedEngines.length })
    else
      let s := { s with tier := { s.tier with deadEngines := s.tier.deadEngines ++ [e.val], ops := s.tier.ops.map (fun o => if o.2.engine = some e.val then (o.1, { o.2 with engine := none }) else o) } }
      .next (assignEngines (logEvent s 9 3 e.val 3 0 0 0 0 0))

/-- COMPRESSION_ENGINE_FAULT (R477, R481): the block is coded or decoded again, and the event is transient once the next unit of compression work
completes; a fault before that is lasting and retires the engine. -/
def execCompressionEngineFault (i : StackId) (s : State) : Out3 :=
  if s.tier.deadCompr.contains i.val then .next s
  else if s.tier.comprRedo.contains i.val then
    .next (logEvent { s with tier := { s.tier with deadCompr := i.val :: s.tier.deadCompr, comprRedo := s.tier.comprRedo.filter (· != i.val) } } 10 3 i.val 3 0 0 0 0 0)
  else .next { s with tier := { s.tier with comprRedo := s.tier.comprRedo ++ [i.val] } }

/-! ## SPARE_QUERY (R497) -/

/-- Spare bank units free, data lines free, and fewest spare rows free of a stack. -/
def unitsFree (s : State) (st : Nat) : Nat := 16 - ((stackOf s st).spares.filter (fun u => u.2.used || u.2.failed)).length
def linesFree (s : State) (st : Nat) : Nat := 128 - ((stackOf s st).lineSpares.map (·.2)).sum
def fewestRows (s : State) (st : Nat) : Nat :=
  16 - ((stackOf s st).rowUsed.map (fun e => rowsTaken s st (e.1 / 64) (e.1 % 64)) ++ (stackOf s st).rowJobs.map (fun j => rowsTaken s st (j.1 / 64) (j.1 % 64))).foldl Nat.max 0

/-- Settle spares that are free (R457). -/
def settleFree (s : State) : Nat := (s.settle.cores.filter (fun c => c.2.1 == 1)).length

/-- SPARE_QUERY (R497). -/
def execSpareQuery (h : Handle) (s : State) : Out3 :=
  let h := h.toNat
  match startable s h 0x60 with
  | none => .next s
  | some r =>
    let d := r.desc
    if 1 < d8 d 8 then .next (badDesc s h 8)
    else if d8 d 8 = 1 then
      let st := d8 d 9
      if 11 < st then .next (badDesc s h 9)
      else
        let mode := match (stackOf s st).mode with
          | .online => 0
          | .evacuating => 1
          | .offline => 2
        .next (commit s h .ok (BitVec.ofNat 64 (unitsFree s st + linesFree s st * 32 + fewestRows s st * 8192 + mode * 2 ^ 18))
          (BitVec.ofNat 64 (stackOf s st).closed.length))
    else
      let lanes := 64 - ((List.range 128).filter (fun p => (linkOf s p).spareUsed)).length
      let lines := ((List.range 12).map (linesFree s)).sum
      let banks := ((List.range 12).map (unitsFree s)).sum
      let rows := ((List.range 17).map (fun k => 16 - (tblGet s.core.rows k {}).used)).sum
      let slice := if s.core.spare.isSome then 1 else 0
      let units := (s.trs.phys.filter (fun u => u.2.1 == 1)).length
      let cores := settleFree s
      let winch := 4 - s.tier.sparedEngines.length
      let r0 := lanes + lines * 2 ^ 7 + banks * 2 ^ 18 + rows * 2 ^ 26 + slice * 2 ^ 35 + units * 2 ^ 36 + cores * 2 ^ 40 + winch * 2 ^ 43
      let r1 := Nat.min (regGet s (rasCnt 6)).toNat (2 ^ 32 - 1) + s.ras.fences.length % 65536 * 2 ^ 32
      .next (commit s h .ok (BitVec.ofNat 64 r0) (BitVec.ofNat 64 r1))

end Sys2Proof.Machine
end

