-- ==== Sys2Proof/Machine/Ports.lean ====
section
/-! DEFINITION. CXL host ports and trays (18, R440 to R454), and lasting faults of port islands (R482). -/

namespace Sys2Proof.Machine

def cxlErr (s : State) (p bit : Nat) : State := setBit s (portBase p + 0x910) bit

/-- CXL_LINK_TRAINED (R440): the port comes up in 256B Flit mode, at a rate no higher than MAX_RATE and a width no greater than that of PORT_CFG; a
partner with only 68B flits leaves it down. -/
def execCxlLinkTrained (p : PortId) (flit256 : Bool) (rate : BitVec 2) (lopt : Bool) (width : Fin 4) (s : State) : Out3 :=
  let c := cxlOf s p.val
  if !cxlTrains s p.val || c.st == .linkUp || c.st == .memReady then .next s
  else if !flit256 then .next (cxlErr (setCxl s p.val { c with st := .down }) p.val 0)
  else if rate = 3 ∨ rate.toNat < fld s (portBase p.val + 0x900) 18 2 ∨ fld s (portBase p.val) 3 2 < width.val then .next s
  else
    let s := setCxl s p.val { c with st := .linkUp, rate := rate.toNat, width := 2 ^ width.val, lopt := lopt && flag s (portBase p.val + 0x900) 17 }
    .next (if isHostPort s p.val && !cxlKeyOk s p.val then cxlErr s p.val 2 else s)

/-- Whether a back-invalidate snoop to the endpoint of a port is open. -/
def openBi (s : State) (p : Nat) : Bool :=
  s.coh.trans.any (fun e => e.2.snoops.any (fun n => n.dest == .ep (portEp s p) && n.sentAt.isSome))

/-- A port reset of a CXL host port (R450): an open BISnp lost with the link fences its endpoint, other filter entries become stale. -/
def cxlReset (s : State) (p : Nat) : State :=
  let s := portReset s p false
  if openBi s p then (fenceEndpoint s (portEp s p)).1 else s

/-- The DPA of a pool line on a tray. -/
def trayDpa (s : State) (line : Nat) : Nat :=
  match (backAt s (line / 1024)).map (fun (b : Back) => b.loc) with
  | some (Loc.t1 _ u _) => u * 256
  | _ => 0

/-- LINK_EN (R414): a write of PORT_LINK_CTL.LINK_EN. At a CXL port 0 takes the link down as its own act: a port reset of a host port, and no surprise
link-down of a tray port (assumption log, entry 97). -/
def execLinkEn (p : PortId) (on : Bool) (s : State) : Out3 :=
  let s := setFld s (portBase p.val + 0x18) 0 1 (if on then 1 else 0)
  if on then .next (startPort s p.val)
  else if cxlPort s p.val then
    .next (if (cxlOf s p.val).st = .down then s else if isHostPort s p.val then cxlReset s p.val else setCxl s p.val {})
  else .next (if (linkOf s p.val).st = .down then s else dropLink s p.val)

/-- CXL_LINK_DOWN (R450, R454): of a host port a port reset, of a tray port the fence of the tray. -/
def execCxlLinkDown (p : PortId) (s : State) : Out3 :=
  let c := cxlOf s p.val
  if c.st = .down ∨ c.st = .training ∨ cxlPort s p.val = false then .next s
  else if isHostPort s p.val then .next (cxlReset s p.val)
  else if localFenced s p.val then .next (setCxl s p.val {})
  else .next (fenceFor (setCxl s p.val {}) (portDom (switchId s) p.val) 8 0 (fun _ => 0))

/-- FUNCTION_LEVEL_RESET (R441, R450). -/
def execFunctionLevelReset (p : PortId) (s : State) : Out3 :=
  if isHostPort s p.val && isCxl s p.val && portUp s p.val then .next (cxlReset s p.val) else .next s

/-- BI_ENABLE (R441, R446): the host sets its port's capability: BI Enable, Memory Enable, up to four HDM decoders. -/
def execBiEnable (p : PortId) (cap : CxlCap) (s : State) : Out3 :=
  let c := cxlOf s p.val
  if isHostPort s p.val && isCxl s p.val && portUp s p.val then
    .next (setCxl s p.val { c with biEn := cap.bi, memEn := cap.memEn, decoders := cap.decoders.take 4, st := if cap.memEn then .memReady else .linkUp })
  else .next s

/-- IDE_ESTABLISHED (R449). -/
def execIdeEstablished (p : PortId) (s : State) : Out3 :=
  if isHostPort s p.val && isCxl s p.val && portUp s p.val then .next (setCxl s p.val { cxlOf s p.val with ideOn := true }) else .next s

/-- IDE_FAIL (R449): service ends until IDE is established again. -/
def execIdeFail (p : PortId) (s : State) : Out3 :=
  let c := cxlOf s p.val
  if c.ideOn then .next (cxlErr (setCxl s p.val { c with ideOn := false }) p.val 1) else .next s

/-! ## Trays (R451 to R454) -/

/-- A tray that fails its bring-up stays out of use, with a record. -/
def trayOut (s : State) (p : Nat) : State := logEvent s 0xB 3 p 8 0 0 0 0 0

/-- TRAY_BRINGUP (R452). Capacity is kept in units of 256 B. -/
def execTrayBringup (p : PortId) (t : TrayInfo) (s : State) : Out3 :=
  let c := cxlOf s p.val
  if !isTray s p.val || !isCxl s p.val || c.st != .linkUp || (decide (32 ≤ (trays s).length) && !(trays s).contains p.val) then .next s
  else if !t.type3 then .next (trayOut (cxlErr (setCxl s p.val { c with st := .failed }) p.val 3) p.val)
  else if !t.mediaReady then .next (trayOut (setCxl s p.val { c with st := .failed }) p.val)
  else
    let bytes := Nat.min t.capacity (2 ^ 41)
    let s := if 2 ^ 41 < t.capacity then cxlErr s p.val 7 else s
    let s := setCxl s p.val { c with st := .memReady, memEn := true, trayCap := bytes / 65536, lastPoll := s.now }
    .next { s with tier := { s.tier with t1cap := tblPut s.tier.t1cap p.val (bytes / 256) } }

/-- Whether a line lies on the tray of a port. -/
def onTray (s : State) (p line : Nat) : Bool :=
  match (backAt s (line / 1024)).map (fun (b : Back) => b.loc) with
  | some (Loc.t1 q _ _) => q == p
  | _ => false

/-- A tray's read response reaches the home: good, poisoned once, or poisoned for good (R454). -/
def trayRead (s : State) (p line : Nat) (poison : Bool) : State :=
  let again := s.link.trayAgain.contains line
  let addr := switchId s * 2 ^ 48 + line * 64
  let dpa := trayDpa s line
  let done (s : State) : State := { s with link := { s.link with trayAgain := s.link.trayAgain.filter (· != line), traySent := tblErase s.link.traySent line } }
  if !poison then
    let s := if again then logEvent s 0xB 1 p 7 0 0 addr dpa 0 else s
    deliverRead (done s) line false
  else
    let s := bump s (cxlCnt p 10)
    if again then
      let s := logEvent (done s) 0xB 4 p 7 (((extentAt s (line * 64)).map (·.owner)).getD 0) 0 addr dpa 0
      let s := match backIdOf s (line / 1024) with
        | some id => setPoison s id (line % 1024) true
        | none => s
      deliverRead s line true
    else bump { s with link := { s.link with trayAgain := s.link.trayAgain ++ [line], traySent := tblPut s.link.traySent line (s.now, false) } } (cxlCnt p 7)

/-- TRAY_RESPONSE (R453, R454). -/
def execTrayResponse (p : PortId) (off : PoolOff) (r : TrayResp) (s : State) : Out3 :=
  let line := off.toNat / 64
  if !isTray s p.val || (cxlOf s p.val).st != .memReady || !onTray s p.val line then .next s
  else
    let s := setCxl s p.val { cxlOf s p.val with devLoad := r.devLoad.toNat }
    if readAwaited s line then .next (trayRead s p.val line r.poison)
    else if s.coh.wbBuf.any (fun w => w.line == line) || (transAt s line).any (fun t => t.writing.isSome) then
      writeReached { s with link := { s.link with traySent := tblErase s.link.traySent line } } line
    else .next s

/-- TRAY_RESPONSE_TIMEOUT (R454): after TRAY_RSP_TO_US the request is sent once more; a second timeout fences the tray. -/
def execTrayResponseTimeout (p : PortId) (off : PoolOff) (s : State) : Out3 :=
  let line := off.toNat / 64
  let waits := readAwaited s line || s.coh.wbBuf.any (fun w => w.line == line) || (transAt s line).any (fun t => t.writing.isSome)
  let sent := tblGet s.link.traySent line (0, false)
  if !isTray s p.val || (cxlOf s p.val).st != .memReady || !onTray s p.val line || !waits then .next s
  else if s.now < sent.1 + 1000 * fld s (portBase p.val + 0x900) 32 8 then .next s
  else if !sent.2 then
    .next (bump { s with link := { s.link with traySent := tblPut s.link.traySent line (s.now, true) } } (cxlCnt p.val 9))
  else if localFenced s p.val then .next s
  else
    let s := cxlErr { s with link := { s.link with traySent := tblErase s.link.traySent line } } p.val 4
    .next (fenceFor s (portDom (switchId s) p.val) 8 (trayDpa s line) (fun _ => 0))

/-- TRAY_EVENT_LOG_POLL (R454): every 100 ms; each record of the tray is logged. -/
def execTrayEventLogPoll (p : PortId) (events : List Word) (s : State) : Out3 :=
  let c := cxlOf s p.val
  if !isTray s p.val || c.st != .memReady || decide (s.now < c.lastPoll + 100000000) then .next s
  else .next (events.foldl (fun s e => logEvent s 0xB 1 p.val 7 0 0 0 e.toNat 0) (setCxl s p.val { c with lastPoll := s.now }))

/-- PORT_ISLAND_FAULT (R482): port island logic has no spare; the port is fenced as its own domain. -/
def execPortIslandFault (p : PortId) (s : State) : Out3 :=
  if bondOdd s p.val || localFenced s p.val then .next s
  else .next (fenceFor s (portDom (switchId s) p.val) 3 0 (fun _ => 0))

/-- MGMT_ISLAND_FAULT (R482): the device stops serving (R383). -/
def execMgmtIslandFault (s : State) : Out3 :=
  if s.sys.st = .stopped then .next s else .next (deviceStop s 0xD 0 3)

/-- LANE_ADAPTATION_LOSS (R419): a lasting lane fault of an ACTIVE link. -/
def execLaneAdaptationLoss (p : PortId) (lane : Fin 8) (s : State) : Out3 :=
  if (linkOf s p.val).st = .active ∧ lane.val < (linkOf s p.val).width then .next (laneFault s p.val lane.val (3, 0, 0)) else .next s

end Sys2Proof.Machine
end

