-- ==== Sys2Proof/Machine/Settle.lean ====
section
/-! DEFINITION. The Settle complex (19): images and their checks, the mailbox, policy modules, core faults, the watchdog. -/

namespace Sys2Proof.Machine

def setSettle (s : State) (x : SettleSt) : State := { s with settle := x }
def settleErr (s : State) (bit : Nat) : State := setBit s (settleBase + 0x10) bit

/-! ## Cores and duties (R457, R459, R471) -/

/-- Logical numbers of the active cores, lowest first. -/
def activeCores (s : State) : List Nat :=
  (List.range 32).filter (fun n => s.settle.cores.any (fun c => c.2.1 == 0 && c.2.2 == n))

/-- Cores of policy duty: PM_CORES, fewer by the cores that were retired. -/
def policyCount (s : State) : Nat := fld s settleBase 0 4 - (32 - (activeCores s).length)

/-- Duty of a logical core: 0 ring, 1 RAS, 2 policy. -/
def dutyOf (s : State) (n : Nat) : Nat :=
  let above := ((activeCores s).filter (fun m => n < m)).length
  if above < 4 then 1 else if above < 4 + policyCount s then 2 else 0

/-- Role and logical number of a physical core. -/
def coreRole (s : State) (p : Nat) : Option (Nat × Nat) := tblFind s.settle.cores p

/-! ## Images (R461) -/

/-- A byte of an image. -/
def imgByte (b : List Byte) (k : Nat) : Nat := (b[k]?.getD 0).toNat

/-- Whether magic, kind, lengths and reserved bytes of an image are right. -/
def imageForm (b : List Byte) (kind len : Nat) : Bool :=
  let body := imgNat b 16 8
  decide (512 ≤ b.length) && b.length == len && imgNat b 0 4 == 0x41504D4E && imgByte b 4 == kind &&
  imgNat b 5 3 == 0 && imgNat b 13 3 == 0 && ((b.drop 264).take 248).all (· == 0) && len == 512 + body &&
  decide (body ≤ (if kind = 1 then 64 else 16) * 2 ^ 20)

/-- SETTLE_ROOT_HASH as a number of 48 bytes, least significant first. -/
def rootHashNat (s : State) : Nat := ((List.range 6).map (fun k => (regGet s (settleBase + 0x600 + 8 * k)).toNat * 2 ^ (64 * k))).sum

/-- The fused SVN as SVN_COMMIT has raised it. -/
def fusedSvn (s : State) : Nat := s.settle.svn.getD Config.rootSvn.toNat

/-- Whether an image's key, signature and body hash verify against one of the trusted hashes. -/
def imageSigned (b : List Byte) (trusted : List Nat) : Bool :=
  let key := (b.drop 72).take 96
  trusted.contains (bytesNat (sha384 key)) &&
  ecdsaOk (beNat (sha384 (b.take 168))) (beNat (key.take 48), beNat (key.drop 48)) (beNat ((b.drop 168).take 48), beNat ((b.drop 216).take 48)) &&
  sha384 (b.drop 512) == (b.drop 24).take 48

/-- The status and the SETTLE_ERR bit with which an image fails, if it does. -/
def imageFails (s : State) (b : List Byte) (kind len : Nat) : Option (Status × Nat) :=
  if !imageForm b kind len then some (.badDescriptor, 0)
  else if !imageSigned b (if kind = 1 then [rootHashNat s] else s.settle.keys.map (·.2)) then some (.keyReject, 1)
  else if kind = 1 ∧ imgByte b 12 < fusedSvn s then some (.staleEpoch, 2)
  else none

/-- Record a failed image: its SETTLE_ERR bits and an error record. -/
def imageRecord (s : State) (kind bit : Nat) (atStart : Bool) : State :=
  let s := if bit = 0 then s else settleErr s bit
  let s := if atStart then settleErr { s with settle := { s.settle with boot := .failed } } 0 else s
  let bits := (if bit = 0 then 0 else 2 ^ bit) + (if atStart then 1 else 0)
  logEvent s 0xE 7 0 0xE 0 0 0 kind bits

/-- Alerts that came during a warm reset act once the RAS-duty cores run again (R496). -/
def lateAlerts (s : State) : State :=
  let mine := (s.sys.deferred.filter (fun d => d.1 == 6)).map (·.2)
  mine.foldl alertFence { s with sys := { s.sys with deferred := s.sys.deferred.filter (fun d => d.1 != 6) } }

/-- Nimpa runs: standard kernels in slots 0 to 15 (R309), the RAS-duty cores report, bring-up goes on to set-up (R462, R516). -/
def startNimpa (s : State) (img : FwImage) : State :=
  let slots := (List.range 16).foldl (fun t i => tblPut t i ({ owner := 0xFFFF } : KSlot)) s.trs.slots
  let s := { s with settle := { s.settle with boot := .running, image := some img, lastReport := s.now }, trs := { s.trs with slots := slots } }
  if s.sys.st = .firmware then { s with sys := { s.sys with st := .setup } } else lateAlerts s

/-! ## The mailbox (R469) -/

/-- A word, and bytes, of the request buffer. -/
def mboxWord (s : State) (k : Nat) : Word := regGet s (settleBase + 0x1000 + 8 * k)
def mboxBits (s : State) (byte n : Nat) : Nat := bitsOf (mboxWord s (byte / 8)).toNat (8 * (byte % 8)) (8 * n)

/-- Write words into the response buffer from word `k` on. -/
def putWords (s : State) : Nat → List Word → State
  | _, [] => s
  | k, w :: ws => putWords (regSet s (settleBase + 0x2000 + 8 * k) w) (k + 1) ws

/-- Answer the mailbox command in progress. -/
def answer (s : State) (st : Status) (data : List Word) : State :=
  let cmd := s.settle.mbox.getD 0
  let head := statusCode st + cmd % 65536 * 2 ^ 16 + 8 * data.length * 2 ^ 32
  let s := putWords s 0 (BitVec.ofNat 64 head :: data)
  let s := bump (setBit { s with settle := { s.settle with mbox := none } } (settleBase + 0x400) 2) (settleCnt 0)
  if flag s (settleBase + 0x400) 3 then msix s 0 else s

/-- GO: the command in the request buffer starts, unless one is in progress. The image that it names is read over the management endpoint. An
unknown command, and one that the boot ROM does not serve, is answered at once. -/
def goMailbox (s : State) : State :=
  if s.settle.mbox.isSome then s
  else
    let cmd := mboxBits s 0 2
    let run := s.settle.boot == .running
    let s := { s with settle := { s.settle with mbox := some cmd } }
    if !([1, 2, 3, 4, 0x10, 0x11, 0x12, 0x13] : List Nat).contains cmd then answer s .badDescriptor []
    else if !run && cmd != 1 && cmd != 2 then answer s .busy []
    else if cmd = 2 then
      let s := if run then s else { s with settle := { s.settle with boot := .loading } }
      emit s (.hostRead .mgmt 0 (mboxWord s 1).toNat (mboxBits s 16 4))
    else if cmd = 0x11 then emit s (.hostRead .mgmt 0 (mboxWord s 2).toNat (mboxBits s 24 4))
    else s

/-- Run a mailbox command's meaning when it is the one in progress. -/
def mailbox (cmd : Nat) (s : State) (f : State → State) : Out3 := .next (if s.settle.mbox = some cmd then f s else s)

def bootCode : BootState → Nat
  | .romWait => 0 | .loading => 1 | .checking => 2 | .running => 3 | .failed => 4

/-- GET_INFO: boot state, image version, SVN, active cores and free spares, 8 bytes each. -/
def execGetInfo (s : State) : Out3 :=
  mailbox 1 s (fun s =>
    let i := s.settle.image.getD { version := 0, svn := 0 }
    answer s .ok ([bootCode s.settle.boot, i.version, i.svn, (activeCores s).length, settleFree s].map (BitVec.ofNat 64)))

/-- IMAGE_LOAD (R461, R462, R464): at start the image is run, later it is staged. -/
def execImageLoad (r : HostRead) (s : State) : Out3 :=
  mailbox 2 s (fun s =>
    let run := s.settle.boot == .running
    if s.sys.st = .test then s
    else if run && s.settle.activate then answer s .busy []
    else match r with
      | .data b =>
        match imageFails s b 1 (mboxBits s 16 4) with
        | some (st, bit) => answer (imageRecord s 1 bit (!run)) st []
        | none =>
          let img : FwImage := { version := imgNat b 8 4, svn := imgByte b 12 }
          if run then answer { s with settle := { s.settle with staged := some img } } .ok [] else answer (startNimpa s img) .ok []
      | _ => answer (if run then s else settleErr { s with settle := { s.settle with boot := .failed } } 0) .poisoned [])

/-- IMAGE_ACTIVATE (R464). -/
def execImageActivate (s : State) : Out3 :=
  mailbox 3 s (fun s =>
    if s.settle.staged.isNone then answer s .busy []
    else answer { s with settle := { s.settle with activate := true } } .ok [])

/-- SVN_COMMIT (R461). -/
def execSvnCommit (s : State) : Out3 :=
  mailbox 4 s (fun s =>
    let n := mboxBits s 8 1
    if fusedSvn s < n ∧ n ≤ (s.settle.image.map (·.svn)).getD 0 then answer { s with settle := { s.settle with svn := some n } } .ok []
    else answer s .badDescriptor [])

/-- PM_KEY_SET: the hash of a policy key. -/
def execPmKeySet (s : State) : Out3 :=
  mailbox 0x10 s (fun s =>
    let slot := mboxBits s 8 1
    let hash := ((List.range 6).map (fun k => (mboxWord s (2 + k)).toNat * 2 ^ (64 * k))).sum
    if 7 < slot then answer s .badDescriptor []
    else answer { s with settle := { s.settle with keys := tblPut s.settle.keys slot hash } } .ok [])

/-! ## Policy modules (R465 to R468) -/

def moduleOf (s : State) (k : Key) : Option PModule := s.settle.modules.find? (fun m => m.key == k)
def putModule (s : State) (m : PModule) : State :=
  { s with settle := { s.settle with modules := if s.settle.modules.any (fun x => x.slot == m.slot) then s.settle.modules.map (fun x => if x.slot = m.slot then m else x) else s.settle.modules ++ [m] } }

/-- Live handles of a module's queue. -/
def moduleLive (s : State) (slot : Nat) : Nat := (s.rings.handles.filter (fun e => e.2.viaModule == some slot)).length

/-- Why PM_LOAD refuses before it looks at the image. -/
def pmRefusal (s : State) (key : Key) (units : Nat) : Option Status :=
  let others := s.settle.modules.filter (fun m => m.key != key)
  if units = 0 ∨ 16 < units then some .badDescriptor
  else if isTenant s key = false then some .keyReject
  else if (moduleOf s key).any (fun m => m.running || m.unloading) then some .busy
  else if 64 ≤ others.length ∨ 128 < (others.map (·.mem)).sum + units then some .overQuota
  else none

/-- PM_LOAD (R461, R465, R468). A module loaded again keeps its queue's sequence. -/
def execPmLoad (r : HostRead) (s : State) : Out3 :=
  mailbox 0x11 s (fun s =>
    let key := BitVec.ofNat 16 (mboxBits s 8 2)
    let units := mboxBits s 10 1
    match pmRefusal s key units with
    | some st => answer s st []
    | none =>
      match r with
      | .data b =>
        match imageFails s b 2 (mboxBits s 24 4) with
        | some (st, bit) => answer (imageRecord s 2 bit false) st []
        | none =>
          let slot := match moduleOf s key with
            | some m => m.slot
            | none => ((List.range 64).find? (fun i => !s.settle.modules.any (fun m => m.slot == i))).getD 0
          let m : PModule := { key := key, slot := slot, mem := units, seq := ((moduleOf s key).map (·.seq)).getD 0 }
          answer (putModule s m) .ok []
      | _ => answer s .poisoned [])

/-- PM_UNLOAD: answered once the module's fetched operations have completed. -/
def execPmUnload (s : State) : Out3 :=
  mailbox 0x12 s (fun s =>
    let key := BitVec.ofNat 16 (mboxBits s 8 2)
    match moduleOf s key with
    | none => answer s .notOwner []
    | some m =>
      if moduleLive s m.slot = 0 then
        answer { s with settle := { s.settle with modules := s.settle.modules.filter (fun x => x.slot != m.slot), onCore := s.settle.onCore.filter (fun e => e.2 != m.slot) } } .ok []
      else putModule s { m with running := false, unloading := true })

/-- PM_STATUS: state (0 stopped, 1 running, 2 unloading), fault cause, events dropped, 8 bytes each. -/
def execPmStatus (s : State) : Out3 :=
  mailbox 0x13 s (fun s =>
    match moduleOf s (BitVec.ofNat 16 (mboxBits s 8 2)) with
    | none => answer s .notOwner []
    | some m => answer s .ok ([if m.unloading then 2 else if m.running then 1 else 0, m.fault, m.dropped].map (BitVec.ofNat 64)))

/-- Stop a module that faulted (R468). -/
def stopModule (s : State) (m : PModule) (fault : Nat) : State :=
  bump (settleErr (putModule s { m with running := false, fault := fault, noYield := 0 }) 6) (settleCnt 6)

/-- The end of a module's quantum. What the module did in it is the tenant's code: a free value says whether it yielded (bit 0), whether it
made an access outside its memory or met an illegal instruction (bit 1), whether it wants page-age summaries (bit 2, R467), and how many events it took (from bit 8 on). -/
def endQuantum (s : State) (slot : Nat) : State :=
  match s.settle.modules.find? (fun m => m.slot == slot) with
  | none => s
  | some m =>
    let (v, s) := draw s
    let m := { m with events := m.events - bitsOf v.toNat 8 11, ages := v.getLsbD 2, noYield := if v.getLsbD 0 then 0 else m.noYield + 1 }
    if !m.running then s
    else if v.getLsbD 1 then stopModule s m 1
    else if 4 ≤ m.noYield then stopModule s m 2
    else putModule s m

/-- The module that a core runs next, in rotation: none that another core runs. -/
def nextModule (s : State) (core : Nat) : Option Nat :=
  let busy := (s.settle.onCore.filter (fun e => e.1 != core)).map (·.2)
  let free := (List.range 64).filter (fun i => s.settle.modules.any (fun m => m.slot == i && m.running) && !busy.contains i)
  match tblFind s.settle.onCore core with
  | some c => match free.find? (fun i => decide (c < i)) with
    | some i => some i
    | none => free.head?
  | none => free.head?

/-- PM_QUANTUM_TICK (R465, R468): a policy-duty core ends a quantum of 1 ms and takes the next module. -/
def execPmQuantumTick (core : Fin 36) (s : State) : Out3 :=
  match coreRole s core.val with
  | some (0, n) =>
    if dutyOf s n ≠ 2 ∨ s.settle.boot ≠ .running then .next s
    else
      let s := match tblFind s.settle.onCore core.val with
        | some slot => endQuantum s slot
        | none => s
      match nextModule s core.val with
      | some i => .next { s with settle := { s.settle with onCore := tblPut s.settle.onCore core.val i } }
      | none => .next { s with settle := { s.settle with onCore := tblErase s.settle.onCore core.val } }
  | _ => .next s

/-- PM_QUEUE_SUBMIT (R466): Nimpa takes a descriptor from the queue of a key's module. -/
def execPmQueueSubmit (key : Key) (desc : Line) (s : State) : Out3 :=
  match moduleOf s key with
  | none => .next s
  | some m =>
    if !m.running || s.sys.st != .serving || s.settle.boot != .running || decide (262144 ≤ liveTotal s) || decide (256 ≤ moduleLive s m.slot) then .next s
    else
      let h := (2 ^ 15 + m.slot) * 2 ^ 64 + 0xFFF * 2 ^ 52 + m.seq
      let s := bump (putModule s { m with seq := m.seq + 1 }) (settleCnt 4)
      let r : HandleRec := { ring := 4096 + m.slot, gen := 0, seq := m.seq, remote := some (2 ^ 15 - 1 + m.slot), viaModule := some m.slot }
      .next (descriptorChecks s m.key false h r desc)

/-! ## Core faults and the watchdog (R470 to R472) -/

/-- A lasting fault of a core: a spare takes its logical number and duty, or the core is retired. -/
def replaceCore (s : State) (p n : Nat) : State :=
  let x := s.settle
  let s := setSettle s { x with redo := x.redo.filter (· != p), onCore := tblErase x.onCore p }
  match (x.cores.filter (fun c => c.2.1 == 1)).map (·.1) with
  | q :: _ =>
    let s := setSettle s { s.settle with cores := tblPut (tblPut x.cores p (2, n)) q (0, n) }
    errorRecord (bump (settleErr s 3) (settleCnt 2)) { kind := 8, cls := 2, idx := p, cause := 3, spareKind := 8, spareIdx := q }
  | [] =>
    let s := settleErr (setSettle s { s.settle with cores := tblPut x.cores p (2, n) }) 4
    let s := errorRecord s { kind := 8, cls := 3, idx := p, cause := 0x12, d0 := 8 }
    if (activeCores s).length < 12 ∧ s.sys.st ≠ .stopped then deviceStop s 8 p 3 else s

/-- A lasting fault of the L2 of cluster `k` retires every core of the cluster (R471). -/
def retireCluster (s : State) (k : Nat) : State :=
  let x := s.settle
  let lost := x.cores.filter (fun c => c.1 / 4 == k && c.2.1 != 2)
  if lost.isEmpty then s
  else
    let s := setSettle s { x with
      cores := x.cores.map (fun c => if c.1 / 4 == k then (c.1, 2, c.2.2) else c)
      redo := x.redo.filter (fun p => p / 4 != k)
      onCore := x.onCore.filter (fun e => e.1 / 4 != k) }
    let s := lost.foldl (fun s c => errorRecord s { kind := 8, cls := 3, idx := c.1, cause := 3 }) (settleErr s 4)
    if (activeCores s).length < 12 ∧ s.sys.st ≠ .stopped then deviceStop s 8 (4 * k) 3 else s

/-- SETTLE_CORE_FAULT (R470, R471): the step is redone; when it fails again the core is replaced. With `l2` the lasting fault is that of the L2
of the core's cluster. -/
def execSettleCoreFault (core : Fin 36) (l2 : Bool) (s : State) : Out3 :=
  if l2 then .next (retireCluster s (core.val / 4))
  else match coreRole s core.val with
  | some (0, n) =>
    if s.settle.redo.contains core.val then .next (replaceCore s core.val n)
    else .next (bump (setSettle s { s.settle with redo := s.settle.redo ++ [core.val] }) (settleCnt 1))
  | _ => .next s

/-- WATCHDOG_REPORT (R472): the RAS-duty cores report; steps redone since the last report have succeeded, as transient events (R470). -/
def execWatchdogReport (s : State) : Out3 :=
  if s.settle.boot ≠ .running then .next s
  else
    let s := s.settle.redo.foldl (fun s p => logEvent s 8 1 p 3 0 0 0 0 0) s
    .next (setSettle s { s.settle with redo := [], lastReport := s.now })

/-- The island reset of the Settle complex (R472): Nimpa, where it runs, restarts from its image. -/
def resetSettle (s : State) : State :=
  let s := if s.settle.boot = .running then setSettle s { s.settle with boot := .checking, redo := [], onCore := [] } else s
  { s with sys := { s.sys with islands := s.sys.islands ++ [⟨4, 0⟩] } }

/-- WATCHDOG_EXPIRE (R472). -/
def execWatchdogExpire (s : State) : Out3 :=
  if s.settle.boot ≠ .running ∨ s.sys.islands.contains ⟨4, 0⟩ = true ∨ s.now < s.settle.lastReport + 1000000 * fld s settleBase 8 10 then .next s
  else
    let s := bump (settleErr s 5) (settleCnt 3)
    .next (resetSettle (logEvent s 8 1 0 0xF 0 0 0 0 0))

end Sys2Proof.Machine
end

