-- ==== Sys2Proof/Machine/Stops.lean ====
section
/-! DEFINITION. Stop points of operations whose abort has won, or which a warm reset interrupts (02, R52, R54): what stays done, what is given back,
and the progress that the record reports. -/

namespace Sys2Proof.Machine

/-- What stopping an operation leaves: the state, result0 and result1. -/
structure Stopped where
  s : State
  r0 : Word := 0
  r1 : Word := 0

/-- Drop a Winch operation with what its kind holds. -/
def dropWinch (s : State) (id : Nat) (o : WOp) : State :=
  let s := undoChunks s id
  let s := zeroAwaiting s ((s.tier.awaiting.filter (fun e => e.2.1 == id)).map (·.1))
  let s := match buildOf s id with
    | some b => pruneGens (dropBuild s id) b.slot
    | none => s
  let s := dropOp s id
  match o.kind with
  | .window i => dropWindow s i
  | .advance i => advanceEnd s i
  | .bauPlace i =>
    match tblFind s.bau.places i with
    | some x => erasePlacement s i x
    | none => s
  | _ => s

/-- Progress of a Winch operation: objects re-encoded, or bytes. -/
def winchProgress (s : State) (id : Nat) (o : WOp) : Nat :=
  match o.kind, buildOf s id with
  | .recode _, some b => b.recoded
  | _, _ => o.bytes

/-- The Winch operations of a handle. -/
def winchOf (s : State) (h : Nat) : List (Nat × WOp) := s.tier.ops.filter (fun e => e.2.handle == some h)

/-- Stop the Winch operations of a handle. -/
def stopWinch (s : State) (h : Nat) : Stopped :=
  let os := winchOf s h
  let n := (os.map (fun e => winchProgress s e.1 e.2)).sum
  { s := os.foldl (fun s e => dropWinch s e.1 e.2) s, r1 := word n }

/-- Stop a WINCH_WINDOW: one with CLOSE leaves its window open (R52, R205). -/
def stopWindow (s : State) (h : Nat) : Stopped :=
  stopWinch { s with tier := { s.tier with windows := s.tier.windows.map (fun e =>
    if e.2.closing = some h then (e.1, { e.2 with closing := none }) else e) } } h

/-- Stop a BAU_PLACE: one with RELEASE leaves its placement in force (R52, R286), another makes none (R287). -/
def stopPlacement (s : State) (h : Nat) : Stopped :=
  stopWinch { s with bau := { s.bau with places := s.bau.places.map (fun e =>
    (e.1, { e.2 with closeH := e.2.closeH.filter (· != h) })) } } h

/-- Stop a QUOTA_SET: the bytes demoted. The new quotas stay (R87). -/
def stopQuota (s : State) (h : Nat) : Stopped :=
  let n := ((s.pool.quotaOps.filter (fun q => q.handle == h)).map (·.demoted)).sum
  let x := stopWinch s h
  { s := { x.s with pool := { x.s.pool with quotaOps := x.s.pool.quotaOps.filter (fun q => q.handle != h) } }, r1 := word n }

/-- Stop a change of composition: one not published is given up, one published stays in force (R81, R82). -/
def stopComposition (s : State) (h : Nat) : Stopped :=
  let published := s.pool.open_.any (fun c => c.handle == some h)
  let s := { s with pool := { s.pool with
    compOrder := s.pool.compOrder.filter (· != h)
    ready := s.pool.ready.filter (fun (c : Change) => c.handle != some h)
    open_ := s.pool.open_.map (fun (c : Change) => if c.handle = some h then { c with handle := none } else c) } }
  { s := s, r1 := if published || (handleOf s h).any (fun r => r.prog == 1) then 1 else 0 }

/-- Stop a DRAFT_PUBLISH: its slot is a DRAFT again (R175, R177). -/
def stopPublish (s : State) (h : Nat) : Stopped :=
  match publishOf s h with
  | some (i, x, q) => { s := unpublish s i x q }
  | none => { s := s }

/-- Stop an offer, or an accept that waits (R182). An offer that has not set IN_TRANSIT leaves its drawer as it is, and reports its epoch. -/
def stopOffer (s : State) (h : Nat) : Stopped :=
  match s.obj.drawers.find? (fun e => e.2.offerH == some h) with
  | some (i, d) => { s := drawerReturn s i, r0 := offerR0 d.owner d.epoch }
  | none =>
    match (handleOf s h).bind (fun r => (drawerNamed s r.desc).map (fun w => (r, w.2))) with
    | some (r, w) => { s := s, r0 := offerR0 r.key w.epoch }
    | none => { s := s }
def stopAccept (s : State) (h : Nat) : Stopped :=
  { s := { s with obj := { s.obj with drawers := s.obj.drawers.map (fun e => (e.1, { e.2 with accepts := e.2.accepts.filter (· != h) })) } } }

/-- Stop a sequence: its holds go at once, completed quanta stay (R52, R282). -/
def stopLaunch (s : State) (h : Nat) (warm : Bool) : Stopped :=
  match s.bau.seqs.find? (fun q => q.handle == h) with
  | none => { s := s }
  | some q =>
    let s := bump (dropSeq s q) (bauCnt q.stack 2)
    { s := if warm then s else nextLaunch s q.stack q.bank, r1 := if warm then 0 else word q.cycles }

/-- Stop a kernel launch: the gangs that have ended (R312). -/
def stopKernel (s : State) (h : Nat) : Stopped :=
  let n := ((launchOf s h).map (·.ended)).getD 0
  { s := { s with trs := { s.trs with launches := tblErase s.trs.launches h } }, r1 := word n }

/-- Whether the target of an ABORT has reached its stop point (R52): Winch units issued are finished, no quantum is granted, and a launch
stops through LAUNCH_COMMIT. -/
def atStop (s : State) (h : Nat) (r : HandleRec) : Bool :=
  (winchOf s h).all (fun e => e.2.issued.isEmpty) &&
  s.bau.seqs.all (fun q => q.handle != h || !q.granted) &&
  (r.opcode != 0x49 || (launchOf s h).isNone)

/-- Stop the operation of a handle by its opcode. -/
def stopWork (s : State) (h : Nat) (r : HandleRec) (warm : Bool) : Stopped :=
  match r.opcode with
  | 0x10 => stopComposition s h
  | 0x11 => stopComposition s h
  | 0x12 => stopComposition s h
  | 0x13 => stopQuota s h
  | 0x14 => stopComposition s h
  | 0x24 => stopPublish s h
  | 0x29 => stopOffer s h
  | 0x2A => stopAccept s h
  | 0x31 => stopWindow s h
  | 0x40 => stopLaunch s h warm
  | 0x41 => stopPlacement s h
  | 0x49 => stopKernel s h
  | _ => stopWinch s h

/-- ABORT_STOP_POINT (R52): the owning engine has stopped, and the target's ABORTED record may be written. -/
def execAbortStopPoint (h : HRef) (s : State) : Out3 :=
  match handleOf s h.toNat with
  | none => .next s
  | some r =>
    if !r.abortWon || r.phase != .committed || r.ready || !atStop s h.toNat r then .next s
    else
      let x := stopWork s h.toNat r false
      .next (fillRecord x.s h.toNat .aborted x.r0 x.r1)

end Sys2Proof.Machine
end

