-- ==== Sys2Proof/Machine/Warm.lean ====
section
/-! DEFINITION. Warm reset (21): quiesce, restart and device open, with what each part of the device keeps (R53, R54, R511 to R515). -/

namespace Sys2Proof.Machine

/-! ## Trigger and quiesce (R511, R512) -/

/-- A warm reset begins: while the device serves, when what waits in its port islands is lost (R512); in the restart of an earlier one, which begins again with nothing left to quiesce (R511). -/
def warmTrigger (s : State) : State :=
  match s.sys.st with
  | .serving =>
    let s := (List.range 128).foldl dropIsland s
    { s with sys := { s.sys with st := .quiesce, lastReset := .warm, quiesceAt := s.now, quiesced := false, wasActive := (List.range 128).filter (portUp s) } }
  | .restart => { s with sys := { s.sys with st := .quiesce, quiesceAt := s.now, quiesced := true } }
  | _ => s

/-- WARM (R507, R511). -/
def execWarm (s : State) : Out3 := .next (warmTrigger s)

/-- WARM_RST_N (R511, R513): low triggers, and holds the restart back. -/
def execWarmRstN (level : Bool) (s : State) : Out3 :=
  let s := { s with sys := { s.sys with warmHeld := !level } }
  .next (if level then s else warmTrigger s)

/-- Endpoints that open transactions wait for, with a line of each. -/
def awaited (s : State) : List (Endpoint × Nat) :=
  (s.coh.trans.flatMap (fun e => (e.2.snoops.filterMap (fun n => match n.dest with
    | .ep x => some x
    | .ring => none) ++ e.2.wbFrom).map (fun x => (x, e.1)))).foldl (fun l x => if l.any (fun y => y.1 == x.1) then l else l ++ [x]) []

/-- A snoop answer that is missing at the end of the quiesce closes as a snoop timeout, and is counted (R109, R512). -/
def quiesceFence (s : State) (x : Endpoint × Nat) : State := snoopExpired (bump s (resetCnt 1)) x.1 x.2

/-- Transactions that wait only for a GntAck end. -/
def dropAcks (s : State) : State :=
  s.coh.trans.foldl (fun s e =>
    match transAt s e.1 with
    | some t => if t.ackFrom.isSome then progress (setTrans s e.1 { t with ackFrom := none }) e.1 else s
    | none => s) s

/-- Whether everything that the home partitions had taken in is done, Winch units are finished, and sequences have stopped at a preemption
point. Completions for Trestle units are lost with their chunks. -/
def quiet (s : State) : Bool :=
  s.coh.inbox.isEmpty && s.coh.waitQ.isEmpty && s.coh.trans.isEmpty && s.coh.reads.isEmpty && s.coh.rereads.isEmpty &&
  s.coh.refetch.isEmpty && s.coh.wbBuf.isEmpty && s.coh.toRetire.all (fun d => unitWaits s d.src d.tag) &&
  s.tier.ops.all (fun o => o.2.issued.isEmpty) && s.bau.seqs.all (fun q => !q.granted)

/-- result1 of an INTERRUPTED Winch operation: the bytes last journalled (R204), or those of its switched chunks. -/
def winchJournal (s : State) (h : Nat) : Nat :=
  ((winchOf s h).map (fun e => if journals e.2 then e.2.journalled else winchProgress s e.1 e.2)).sum

/-- A PATH_UPDATE is interrupted (R354): 1 where its generation was adopted. -/
def interruptPath (s : State) (h : Nat) (done : Bool) : Stopped :=
  let on := s.route.pathOp == some h
  { s := if on then { s with route := { s.route with pathOp := none, oldPaths := [] } } else s, r1 := if on || done then 1 else 0 }

/-- A TRAIN_CREATE or TRAIN_EDIT is interrupted (R336): 1 where every entry was installed, or removed; else no switch keeps an entry of it. -/
def interruptTrain (s : State) (h : Nat) (done : Bool) : Stopped :=
  match s.train.ops.find? (fun o => o.handle == h) with
  | none => { s := s, r1 := if done then 1 else 0 }
  | some o =>
    let s := dropTrainOp s o
    if o.installed then
      { s := if o.mode = 2 then { s with train := { s.train with masters := tblErase s.train.masters o.id } } else s, r1 := 1 }
    else { s := (othersOf s o).foldl (fun s sw => sendSwitch s sw "TrainWithdraw" [o.id, o.gen]) s }

/-- A TETHER_OPEN or TETHER_CLOSE is interrupted (R360): 1 where its state change was installed at every switch. -/
def interruptTether (s : State) (h : Nat) (done : Bool) : Stopped :=
  { s := { s with route := { s.route with tethers := s.route.tethers.map (fun (t : Tether) => if t.handle = some h then { t with handle := none } else t) } }
    r1 := if done then 1 else 0 }

/-- A collective's descriptor: bytes written to its receive buffer (R336). -/
def interruptPost (s : State) (h : Nat) : Stopped :=
  match s.train.insts.findSome? (fun i => (i.posts.find? (fun q => q.handle == h)).map (fun q => (i, q))) with
  | some (i, q) => { s := s, r0 := collR0 0xFFFF (if i.par.kind = 6 then i.acked.length else i.count), r1 := word q.bytes }
  | none => { s := s }

/-- Interrupt the live operation of a handle. -/
def interruptWork (s : State) (h : Nat) (r : HandleRec) : Stopped :=
  let done := r.fin.any (fun f => f.1 == .ok)
  match r.opcode with
  | 0x25 =>
    { s := { s with obj := { s.obj with shelves := s.obj.shelves.map (fun e => (e.1, { e.2 with slots := e.2.slots.map (fun l => (l.1, if l.2.discard = some h then { l.2 with discard := none } else l.2)) })) } } }
  | 0x2B =>
    { s := { s with obj := { s.obj with drawers := s.obj.drawers.map (fun e => (e.1, if e.2.releaseH = some h then { e.2 with releaseH := none } else e.2)) } } }
  | 0x4A => interruptPost s h
  | 0x4B => interruptTrain s h done
  | 0x4C => interruptTrain s h done
  | 0x50 => interruptTether s h done
  | 0x51 => interruptTether s h done
  | 0x52 => interruptPath s h done
  | _ =>
    let n := winchJournal s h
    let x := stopWork s h r true
    if (winchOf s h).isEmpty || r.opcode = 0x13 then x else { x with r1 := word n }

/-- Save one handle (R54): a committed one keeps its status, a live one becomes INTERRUPTED with its progress, even where its engine was done and had not
set the latch. A record for another switch or a policy module is returned at once. -/
def saveHandle (s : State) (h : Nat) : State :=
  match handleOf s h with
  | none => s
  | some r =>
    match r.phase with
    | .committed =>
      if r.ready then s
      else if r.abortWon then
        let x := stopWork s h r true
        fillRecord x.s h .aborted x.r0 x.r1
      else if r.opcode = 0x53 then fillRecord s h .interrupted 0 1
      else match s.pool.open_.find? (fun c => c.handle == some h) with
        | some c => fillRecord s h .ok (word (gen32 c.gen)) 0
        | none => fillRecord s h r.status r.r0 r.r1
    | _ =>
      let x := interruptWork s h r
      let x := if r.fin.isSome ∧ x.r1 = 0 then { x with r1 := word r.prog } else x
      returnRemote (setHandle (countDone x.s r) h { r with
        phase := .committed, ready := true, status := .interrupted, r0 := x.r0, r1 := x.r1, prog := x.r1.toNat, stamp := stampNow s, started := true, waitFor := none })

/-- The handles of a ring that its next enable delivers: those held before, the committed ones in their order, then the live ones. -/
def heldRecords (s : State) (n : Nat) (before : List (Nat × HandleRec)) : List Nat :=
  let g := ringOf s n
  let live := (before.filter (fun e => e.2.ring == n && e.2.remote.isNone && e.2.phase != .committed)).map (·.1)
  (g.old ++ g.commits.filter (fun h => !g.old.contains h) ++ live).filter (fun h => (handleOf s h).isSome)

/-- Accepts that wait no longer do: a warm reset interrupts them (R182). -/
def dropAccepts (s : State) : State :=
  { s with obj := { s.obj with drawers := s.obj.drawers.map (fun e => (e.1, { e.2 with accepts := [] })) } }

/-- Save rings and handles (R53, R54): every ring is DISABLED and holds its records. -/
def saveRings (s : State) : State :=
  let before := s.rings.handles
  let s := dropAccepts s
  let s := (before.map (·.1)).foldl saveHandle s
  let rings := s.rings.rings.map (fun e => (e.1, ({ gen := e.2.gen, old := heldRecords s e.1 before } : Ring)))
  let kept := rings.flatMap (fun e => e.2.old)
  { s with rings := { s.rings with rings := rings, handles := s.rings.handles.filter (fun e => kept.contains e.1), dbHeld := [], rotUsed := 0 } }

/-- The chunks of a journal that were not switched: those of host operations are given up with them, and each counts as resolved (R203). -/
def unswitched (s : State) : Nat := (s.tier.chunks.filter (fun c => c.stage != .switched)).length

/-- A page of a background operation's chunk, as the work that moves it again. -/
def moveAgain (o : WOp) (p : Nat) : WWork :=
  match o.kind with
  | .bauUnplace _ => .unbank p
  | _ => .move p

/-- Chunks of background work that were not switched keep their old locations, and their pages are moved again later (R203, R204). -/
def requeueChunks (s : State) : State :=
  (s.tier.chunks.filter (fun c => c.stage != .switched)).foldl (fun s c =>
    let s := undoChunk s c
    match opOf s c.op with
    | some o => setOp s c.op { o with todo := c.pages.map (fun m => moveAgain o m.page) ++ o.todo }
    | none => s) s

/-- Step 5: Far lines are written to memory and their lines are near. -/
def writeFar (s : State) : State :=
  let s := syncFar s 0 (2 ^ 48)
  { s with atm := { s.atm with hot := [] } }

/-- Save what survives and drop live engine work (R512 to R515, steps 3 to 6). -/
def quiesce (s : State) : State :=
  let s := requeueChunks (saveRings (bumpBy s (winchCnt 9) (unswitched s)))
  let s := writeFar s
  { s with
    sys := { s.sys with quiesced := true, islands := [] }
    bau := { s.bau with seqs := [], starts := [], grants := [], limited := [], reading := [] }
    trs := { s.trs with units := [], launches := [], loads := [] }
    train := { s.train with insts := [], ops := [], claims := [], dead := [] }
    route := { s.route with pathLoad := none }
    cmp := { s.cmp with builds := [], slots := s.cmp.slots.map (fun e => (e.1, { e.2 with live := none, retiring := false })) }
    coh := { s.coh with holds := [], toRetire := [], starved := [], biAcks := [] }
    pool := { s.pool with flights := [], quotaOps := [], xlate := [], extCache := [], xlateWait := [] } }

/-- QUIESCE_END (R512): once every home request is complete. Snoop answers missing 30 µs after the trigger close first, as snoop timeouts. -/
def execQuiesceEnd (s : State) : Out3 :=
  if s.sys.st ≠ .quiesce ∨ s.sys.quiesced = true then .next s
  else if quiet s then .next (quiesce s)
  else if s.now < s.sys.quiesceAt + 30000 then .next s
  else .next (dropAcks ((awaited s).foldl quiesceFence s))

/-! ## Restart (R463, R513, R514) -/

/-- Reset values of the RINGSETUP block, its counters of drops apart (R53, R515). -/
def clearRingRegs (s : State) : State :=
  { s with regs := s.regs.filter (fun e => !(decide (0x600000 ≤ e.1 ∧ e.1 < 0x680010))) }

/-- Recalls of CLOSING slots and of drawers being released are issued again once host ports reopen (R187). -/
def recallSlots (s : State) : State :=
  s.obj.shelves.foldl (fun s e => e.2.slots.foldl (fun s l =>
    if l.2.st = .closing then
      let (tag, s) := newTag s
      queueRecalls (setSlot s e.1 l.1 { l.2 with tag := tag }) (slotLo e.2 l.1) (slotHi e.2 l.1) (if l.2.disc then .discard else .exclusive) tag (fun _ _ => true)
    else s) s) s
def recallDrawers (s : State) : State :=
  s.obj.drawers.foldl (fun s e =>
    if e.2.st = .releasing then
      let (tag, s) := newTag s
      queueRecalls (setDrawer s e.1 { e.2 with tag := tag, recalled := false }) e.2.base (e.2.base + e.2.len) .discard tag (fun _ _ => true)
    else s) s

/-- Drawers in transit go back to their offerers (R182, R187). -/
def returnDrawers (s : State) : State :=
  s.obj.drawers.foldl (fun s e => if e.2.st = .inTransit then drawerReturn s e.1 else s) s

/-- OPENING tethers are FREE, here and at the other switches of their routes; CLOSING ones go on closing (R360). -/
def settleTethers (s : State) : State :=
  let s := (s.route.tethers.filter (fun t => t.master && t.st == .opening)).foldl (fun s t => refuseTether s { t with handle := none } .interrupted 0) s
  (s.route.tethers.filter (fun t => t.master && t.st == .closing)).foldl (fun s t => tetherStep (putTether s { t with moving := true }) t.id) s

/-- Journals are replayed: switched chunks keep their new locations, tethers settle, drawers in transit go back (step 4); the reports of train
generations that waited for instances are sent. -/
def replayJournals (s : State) : State :=
  let s := s.tier.chunks.foldl (fun s c => bump (endChunk s c) (winchCnt 9)) s
  let s := settleTethers { s with route := { s.route with markers := [], moved := [], heldOut := [] } }
  returnDrawers ((s.train.owing.map (·.1)).foldl reportAdopted s)

/-- Nimpa starts from the staged image, if it was activated, or from the kept one, after the checks of R461 (R463). -/
def restartNimpa (s : State) : State :=
  let x := s.settle
  let pass (i : FwImage) : Bool := decide (fusedSvn s ≤ i.svn)
  let cands := (if x.activate then x.staged.toList else []) ++ x.image.toList
  let s := { s with settle := { x with staged := if x.activate then none else x.staged, activate := false, mbox := none, redo := [], onCore := [] } }
  match cands.find? pass with
  | some i => startNimpa s i
  | none => imageRecord s 1 (if cands.isEmpty then 0 else 2) true

/-- The switch core, egress scheduling and congestion start empty; slice roles, rows, histograms are kept (R382, R406, R515). -/
def emptyCore (s : State) : State :=
  { s with
    core := { holder := s.core.holder, spare := s.core.spare, failed := s.core.failed, takeover := s.core.takeover, takeTo := s.core.takeTo, rows := s.core.rows }
    cong := { hist := s.cong.hist, lastSample := s.cong.lastSample, nextPkt := s.cong.nextPkt, lastInc := s.cong.lastInc }
    ord := { arrivals := s.ord.arrivals }
    atm := { s.atm with hot := [], replayWait := [], splits := [] }
    mgmt := { s.mgmt with shadow := [] } }

/-- Every port is reset, and trains as a new link (R508, R514). -/
def resetPorts (s : State) : State :=
  ((List.range 128).filter (fun p => portRole s p != .off && !bondOdd s p)).foldl (fun s p => portReset s p false) s

/-- WARM_RESTART (R513): once WARM_RST_N is released and the quiesce has ended. -/
def execWarmRestart (s : State) : Out3 :=
  if s.sys.st ≠ .quiesce ∨ s.sys.quiesced = false ∨ s.sys.warmHeld = true then .next s
  else
    let s := setFld (setFld (emptyCore (clearRingRegs s)) (telemetryBase + 0xF0000) 2 1 0) (telemetryBase + 0xF0000) 4 1 0
    let s := resetPorts { s with sys := { s.sys with st := .restart, openAt := some s.now } }
    .next (restartNimpa (replayJournals s))

/-! ## Island and tenant resets (R509, R510) -/

/-- Whether a tenant reset still waits for an abort to reach its stop point. -/
def tenantBusyNow (s : State) : Bool :=
  s.sys.tenantBusy.any (fun k => s.rings.handles.any (fun e => e.2.key == k && e.2.abortWon && !e.2.ready && e.2.remote.isNone &&
    !recordKept s e.2.ring e.2.gen))

/-- One live handle under a tenant reset: not started, it never starts; abortable, an abort wins, at the home of a forwarded one too; another runs on. -/
def tenantHandle (s : State) (h : Nat) : State :=
  match handleOf s h with
  | none => s
  | some r =>
    match r.phase with
    | .committed => if r.ready then recDrop (dropHandle s h) else s
    | _ =>
      if !r.started then
        let s := { s with pool := { s.pool with compOrder := s.pool.compOrder.filter (· != h) } }
        recDrop (dropHandle (countDone s r) h)
      else if ((opRow r.opcode).map (·.abort)).getD false && r.fin.isNone then
        let s := setHandle s h { r with abortWon := true, phase := .committed, status := .aborted }
        match r.sentTo with
        | some sw => emit s (.forwardAbort sw h)
        | none => s
      else s

/-- A tenant reset of one ring (R53): its registers go to their reset values, except GEN. -/
def tenantRing (s : State) (n : Nat) : State :=
  let hs := (s.rings.handles.filter (fun e => e.2.ring == n && e.2.remote.isNone)).map (·.1)
  let g := ringOf s n
  let s := setRing s n { gen := g.gen }
  let s := { s with regs := s.regs.filter (fun e => !(decide (ringBase n ≤ e.1 ∧ e.1 < ringBase n + 0x80))) }
  hs.foldl tenantHandle s

/-- The rings that are in use or configured. -/
def knownRings (s : State) : List Nat :=
  let cfg := s.regs.filter (fun e => decide (0x600000 ≤ e.1 ∧ e.1 < 0x680000))
  let ns : List Nat := s.rings.rings.map (fun e => e.1) ++ cfg.map (fun e => (e.1 - 0x600000) / 0x80)
  ns.eraseDups

/-- A tenant reset (R510): rings of the key, and its policy module. -/
def tenantReset (s : State) (key : Key) : State :=
  if tenantBusyNow s then s
  else
    let rs := (knownRings s).filter (fun n => ringKey s n == key)
    let s := rs.foldl tenantRing { s with sys := { s.sys with tenantBusy := some key } }
    match moduleOf s key with
    | some m => putModule s { m with running := false }
    | none => s

/-- TENANT (R510); during a warm reset it waits for device open (R511). -/
def execTenant (key : Key) (s : State) : Out3 :=
  if s.sys.st = .quiesce ∨ s.sys.st = .restart then .next { s with sys := { s.sys with deferred := s.sys.deferred ++ [(7, key.toNat)] } }
  else .next (tenantReset s key)

def addIsland (s : State) (kind index : Nat) : State := { s with sys := { s.sys with islands := s.sys.islands ++ [⟨kind, index⟩] } }
def resetRefused (s : State) : State := setBit s 0x40008 6

/-- A slice island is reset through the spare, or in place where it holds no position. -/
def resetSlice (s : State) (k : Nat) : State :=
  match posOf s k with
  | none => addIsland s 1 k
  | some pos =>
    match s.core.spare, s.core.takeover with
    | some sp, none => { s with core := { s.core with spare := none, takeover := some pos, takeTo := sp } }
    | _, _ => resetRefused s

/-- A Trestle cluster is reset: the gangs of its units resume from their checkpoints. -/
def resetCluster (s : State) (c : Nat) : State :=
  (s.trs.phys.filter (fun e => e.1 / 9 == c && e.2.1 == 0)).foldl (fun s e =>
    let x := unitOf s e.2.2
    setUnit s e.2.2 { x with gangs := x.gangs.map (fun g => (g.1, { rerunGang s g.2 with rerun := false })), cache := [] }) s

/-- An island reset by kind and index (R509). -/
def islandReset (s : State) (kind index : Nat) : State :=
  match kind with
  | 0 => if index < 128 then addIsland (portReset s index false) 0 index else resetRefused s
  | 1 => if index ≤ 16 then resetSlice s index else resetRefused s
  | 2 => if index < 12 then addIsland s 2 index else resetRefused s
  | 3 => if index < 8 then addIsland (resetCluster s index) 3 index else resetRefused s
  | 4 => if index = 0 then resetSettle s else resetRefused s
  | _ => resetRefused s

/-- ISLAND (R509, R511). -/
def execIsland (kind : BitVec 4) (index : BitVec 8) (s : State) : Out3 :=
  if s.sys.st = .quiesce ∨ s.sys.st = .restart then .next { s with sys := { s.sys with deferred := s.sys.deferred ++ [(8, kind.toNat * 256 + index.toNat)] } }
  else .next (islandReset s kind.toNat index.toNat)

/-- ISLAND_RESET_DONE (R472, R509): the oldest island reset completes; the Settle complex restarts Nimpa from its image. -/
def execIslandResetDone (s : State) : Out3 :=
  match s.sys.islands with
  | [] => .next s
  | j :: rest =>
    let s := { s with sys := { s.sys with islands := rest } }
    if j.kind ≠ 4 ∨ s.settle.boot ≠ .checking then .next s
    else match s.settle.image with
      | some i => if fusedSvn s ≤ i.svn then .next (startNimpa s i) else .next (imageRecord s 1 2 true)
      | none => .next (imageRecord s 1 0 true)

/-! ## Device open (R513 to R515) -/

/-- Ports that were ACTIVE before the reset, are not fenced, and are not up again. -/
def lateComers (s : State) : List Nat := s.sys.wasActive.filter (fun p => !portUp s p && !localFenced s p)

/-- Resets asked for during the warm reset are applied after device open (R511). -/
def lateReset (s : State) (d : Nat × Nat) : State :=
  if d.1 = 5 then resetByCtl s d.2
  else if d.1 = 7 then tenantReset s (BitVec.ofNat 16 d.2)
  else if d.1 = 8 then islandReset s (d.2 / 256) (d.2 % 256)
  else s

/-- Endpoints whose ports did not return, with snoops open: they count as unanswered (R514). -/
def unreturned (s : State) : List (Endpoint × Nat) := (awaited s).filter (fun x => ((lateComers s).map (portEp s)).contains x.1)

/-- DEVICE_OPEN (R513 to R515): once the ports that were ACTIVE are ACTIVE again, or 1 s has passed, and recalls of committed MAP_COMMITs are done. -/
def execDeviceOpen (s : State) : Out3 :=
  match s.sys.st, s.sys.openAt with
  | .restart, some t =>
    if s.settle.boot ≠ .running then .next s
    else if !(lateComers s).isEmpty && decide (s.now < t + 1000000000) then .next s
    else
      let s := (unreturned s).foldl (fun s x => snoopExpired s x.1 x.2) s
      if s.pool.open_.any (fun c => c.whole && !recallDone s c.tag) then .next s
      else
        let due := s.now + 10000000000
        let rings := s.rings.rings.map (fun e => (e.1, if e.2.old.isEmpty then e.2 else { e.2 with oldDue := some due }))
        let late := s.sys.deferred
        let s := { s with rings := { s.rings with rings := rings }, sys := { s.sys with st := .serving, warmCount := (s.sys.warmCount + 1) % 2 ^ 32, openAt := none, wasActive := [], deferred := [], quiesced := false } }
        .next (late.foldl lateReset (recallDrawers (recallSlots (bump s (resetCnt 0)))))
  | _, _ => .next s

end Sys2Proof.Machine
end

