-- ==== Sys2Proof/Machine/Bringup.lean ====
section
/-! DEFINITION. Power-on and cold reset, the start-up test (21, R507, R516, R517), PERST_N (22, R535), reference clocks (R501) and
device time (R502 to R506). -/

namespace Sys2Proof.Machine

/-! ## Power-on and cold reset -/

/-- What a power-on keeps: fuses and the row and data line repairs that start-up applies again (R254, R517), the levels of pins; and the
model's queue, trace and count of free values. -/
def repairsOf (s : State) : StkSt :=
  { stackRecs := s.stk.stackRecs.map (fun e => (e.1, { rowUsed := e.2.rowUsed, lineSpares := e.2.lineSpares, temp := if s.pwr.tripped then e.2.temp else 0 })) }

/-- Everything but fuses is lost, device time included; a trip stays, with the temperatures that hold it (R532). -/
def powerOn (s : State) : State :=
  { State.reset with
    draws := s.draws, out := s.out, pending := s.pending, stk := repairsOf s
    settle := { svn := s.settle.svn }
    ras := { inputs := s.ras.inputs }
    pwr := { perst := s.pwr.perst, tripped := s.pwr.tripped, hot := s.pwr.hot } }

/-- PORST_N (R507, R516, R511, R540): low, a power-on, which releases THERMTRIP_N unless a sensor is too hot; its release starts the bring-up, once
THERMTRIP_N is high, with every rail and reference good. -/
def execPorstN (level : Bool) (s : State) : Out3 :=
  if !level then .next (releaseTrip (powerOn s))
  else if !s.sys.porst then .next s
  else if s.pwr.tripped then .next { s with pwr := { s.pwr with porHigh := true } }
  else .next (startBringUp s)

/-- Target of an AVS rail in mV: nominal while AVS_EN is 0 (R523). -/
def railMv (s : State) (r : Nat) : Nat :=
  let nominal := if r = 2 then 800 else 750
  if flag s (mgmtBase + 0x120) 0 then tblGet s.pwr.mv r nominal else nominal

/-- COLD (R507): as a power-on, but device time and its settings stay; references, rails and their targets are as they were. -/
def execCold (s : State) : Out3 :=
  if s.sys.porst || s.pwr.tripped then .next s
  else
    let t := s.sys
    let p := powerOn s
    let cfg := s.regs.filter (fun e => e.1 == 0x40100)
    .next { p with
      now := s.now, regs := cfg
      sys := { lastReset := .cold, porst := false, refOk := t.refOk, mgmtRefOk := t.mgmtRefOk, xtalLost := t.xtalLost, coreRef := t.coreRef, timeLocked := t.timeLocked, offsetNs := t.offsetNs, lastPps := t.lastPps, lastPtp := t.lastPtp, pendingSecs := t.pendingSecs, edgeSecs := t.edgeSecs, ptpSecs := t.ptpSecs, slew := t.slew, slewAcc := t.slewAcc, lastPpsOut := t.lastPpsOut, ppsOutUntil := t.ppsOutUntil, warmHeld := t.warmHeld }
      pwr := { rails := s.pwr.rails, hot := s.pwr.hot, perst := s.pwr.perst, mv := (List.range 3).map (fun r => (r, railMv s r)), stepped := s.pwr.stepped } }

/-! ## The start-up test (R517) -/

/-- A minimum is not met: the device stops. -/
def startupFails (s : State) (kind : Nat) : State :=
  let s := logEvent s kind 8 0 0x12 0 0 0 kind 0
  raiseAlert { s with sys := { s.sys with st := .stopped, startupFail := kind } } 3

/-- Slices: a failed slice's position goes to slice 16; none where two have failed. -/
def testSlices (s : State) (t : TestResult) : Option State :=
  let bad := (t.slices.map (·.val)).eraseDups
  let rows := t.bufRows.foldl (fun tb k => tblMod tb k.val ({} : Rows) (fun r => if r.used < 16 then { r with used := r.used + 1 } else { r with retired := r.retired + 1 })) ([] : Tbl Rows)
  match bad with
  | [] => some { s with core := { s.core with rows := rows } }
  | [k] => some { s with core := { s.core with rows := rows, failed := [k], spare := none, holder := if k = 16 then [] else [(k, 16)] } }
  | _ => none

/-- One failed bank: the lowest free spare unit of its stack, or closed. -/
def testBank (s : State) (st bank : Nat) : State :=
  let r := stackOf s st
  match (List.range 16).find? (fun u => !(tblFind r.spares u).any (fun x => x.used || x.failed)) with
  | some u => bump (setStack s st { r with spares := tblPut r.spares u { bank := bank, used := true } }) (stackCnt st 4)
  | none => setStack s st { r with closed := r.closed ++ [bank] }

/-- One failed data line of a pseudo-channel link: one of the two spares of its link, or its four banks are done without (R245, R258). -/
def testLine (s : State) (st link : Nat) : State :=
  let r := stackOf s st
  if tblGet r.lineSpares link 0 < 2 then
    bump (setStack s st { r with lineSpares := tblMod r.lineSpares link 0 (· + 1) }) (stackCnt st 5)
  else [link, link + 64, link + 128, link + 192].foldl (fun s b => if b < 256 then testBank s st b else s) s

/-- Stacks and banks; none where no stack is ONLINE. -/
def testStacks (s : State) (t : TestResult) : Option State :=
  let s := t.spareUnits.foldl (fun s u => setStack s u.1.val { stackOf s u.1.val with spares := tblPut (stackOf s u.1.val).spares u.2.val { failed := true } }) s
  let s := t.rows.foldl (fun s x => setStack (bump s (stackCnt x.1.val 3)) x.1.val { stackOf s x.1.val with rowUsed := tblMod (stackOf s x.1.val).rowUsed (x.2.1.val * 64 + x.2.2.val) 0 (· + 1) }) s
  let s := t.lines.foldl (fun s x => testLine s x.1.val x.2) s
  let s := t.banks.foldl (fun s x => testBank s x.1.val x.2.val) s
  let s := t.stackRecs.foldl (fun s x =>
    let p := (x.val + 6) % 12
    let s := setStack s x.val { stackOf s x.val with mode := .offline }
    setStack s p { stackOf s p with mirrorLost := true }) s
  if (List.range 12).any (stackOnline s) then some s else none

/-- Good units of a Trestle cluster. -/
def goodUnits (t : TestResult) (c : Nat) : List Nat := (List.range 9).map (9 * c + ·) |>.filter (fun p => !t.units.any (fun u => u.val == p))

/-- Roles of the Trestle units: the 8 lowest good ones of a cluster are active; what a cluster lacks comes from the spares of others. -/
def testTrestle (t : TestResult) : Tbl (Nat × Nat) :=
  let cs := List.range 8
  let own := cs.flatMap (fun c => ((goodUnits t c).take 8).zipIdx.map (fun e => (e.1, 8 * c + e.2)))
  let spare := cs.flatMap (fun c => (goodUnits t c).drop 8)
  let lack := (List.range 64).filter (fun n => !own.any (fun e => e.2 == n))
  let lent := spare.zip lack
  let rest := spare.drop lack.length
  (List.range 72).foldl (fun tb p =>
    match (own ++ lent).find? (fun e => e.1 == p) with
    | some e => tblPut tb p (0, e.2)
    | none => if rest.contains p then tblPut tb p (1, 0) else tblPut tb p (2, 0)) []

/-- Roles of the Settle cores: good cores of clusters 0 to 7 are active, a failed one is replaced by the lowest good core of cluster 8. -/
def testCores (t : TestResult) : Tbl (Nat × Nat) :=
  let good (p : Nat) : Bool := !t.cores.any (fun u => u.val == p)
  let spare := [32, 33, 34, 35].filter good
  let lack := (List.range 32).filter (fun p => !good p)
  let lent := spare.zip lack
  (List.range 36).foldl (fun tb p =>
    if !good p then tblPut tb p (2, p % 32)
    else if p < 32 then tblPut tb p (0, p)
    else match lent.find? (fun e => e.1 == p) with
      | some e => tblPut tb p (0, e.2)
      | none => tblPut tb p (1, 0)) []

/-- Winch controls: the 16 lowest good ones are active, spares take the place of failed ones. -/
def testWinch (s : State) (t : TestResult) : State :=
  let n := (t.winch.map (·.val)).eraseDups.length
  let dead := (List.range 16).drop (Nat.min 16 (20 - n))
  { s with tier := { s.tier with sparedEngines := List.replicate (Nat.min 4 n) 16, deadEngines := dead, deadCompr := t.compr.map (·.val) } }

/-- STARTUP_TEST_DONE (R517): units and spares are assigned; where a minimum is not met the device stops. -/
def execStartupTestDone (t : TestResult) (s : State) : Out3 :=
  if s.sys.st ≠ .test ∨ s.sys.porst = true then .next s
  else match testSlices s t with
    | none => .next (startupFails s 2)
    | some s =>
      match testStacks s t with
      | none => .next (startupFails s 4)
      | some s =>
        let s := testWinch { s with trs := { s.trs with phys := testTrestle t }, settle := { s.settle with cores := testCores t } } t
        if (s.trs.phys.filter (fun e => e.2.1 == 0)).length < 8 then .next (startupFails s 7)
        else if (activeCores s).length < 12 then .next (startupFails s 8)
        else if 8 < s.tier.deadEngines.length then .next (startupFails s 9)
        else .next { s with sys := { s.sys with st := .firmware } }

/-! ## PERST_N (R535) -/

/-- PERST_N: low halts the rings of the management endpoint; at its release MSI-X and the endpoint's configuration are at their reset values. -/
def execPerstN (level : Bool) (s : State) : Out3 :=
  if level then
    if !s.pwr.perst then .next s
    else .next { s with pwr := { s.pwr with perst := false }, regs := s.regs.filter (fun e => decide (e.1 < msixBase)), mgmt := { s.mgmt with latch := [] } }
  else .next (haltBound { s with pwr := { s.pwr with perst := true } } none 3)

/-! ## Reference clocks (R501) -/

/-- The quadrant that the core reference locks to next: q + 1, q + 2, q + 3 whose REFCLK is present. -/
def nextRef (ok : BitVec 4) (q : Nat) : Option Nat := ([1, 2, 3].map (fun i => (q + i) % 4)).find? (fun r => ok.getLsbD r)

/-- Ports that exist in a quadrant. -/
def quadPorts (s : State) (q : Nat) : List Nat := ((List.range 32).map (32 * q + ·)).filter (fun p => portRole s p != .off && !bondOdd s p)

/-- A port loses its reference: its link goes down. -/
def portLosesRef (s : State) (p : Nat) : State :=
  if isTray s p then
    if (cxlOf s p).st = .down ∨ localFenced s p = true then s
    else if (cxlOf s p).st = .training then { s with link := { s.link with cxl := tblErase s.link.cxl p } }
    else fenceFor { s with link := { s.link with cxl := tblErase s.link.cxl p } } (portDom (switchId s) p) 8 0 (fun _ => 0)
  else if isCxl s p then
    match (cxlOf s p).st with
    | .down => s
    | .training => { s with link := { s.link with cxl := tblErase s.link.cxl p } }
    | _ => cxlReset s p
  else if (linkOf s p).st = .down then s else dropLink s p

/-- REFCLK_LOST (R501). -/
def execRefclkLost (r : RefId) (s : State) : Out3 :=
  match r with
  | .mgmt => .next { s with sys := { s.sys with mgmtRefOk := false } }
  | .xtal => .next { s with sys := { s.sys with xtalLost := true } }
  | .quadrant q =>
    if !s.sys.refOk.getLsbD q.val then .next s
    else
      let ok := s.sys.refOk &&& ~~~((1 : BitVec 4) <<< q.val)
      let s := { s with sys := { s.sys with refOk := ok } }
      let s := (quadPorts s q.val).foldl portLosesRef s
      if ok = 0 then .next (raiseAlert s 2)
      else if s.sys.coreRef ≠ q.val then .next s
      else match nextRef ok q.val with
        | some n => .next (bump { s with sys := { s.sys with coreRef := n } } (resetCnt 3))
        | none => .next s

/-- REFCLK_RESTORED (R501): a reference is used again; the Bromet ports of its quadrant train. -/
def execRefclkRestored (r : RefId) (s : State) : Out3 :=
  match r with
  | .mgmt => .next { s with sys := { s.sys with mgmtRefOk := true } }
  | .xtal => .next { s with sys := { s.sys with xtalLost := false } }
  | .quadrant q =>
    if s.sys.refOk.getLsbD q.val then .next s
    else
      let none_ := s.sys.refOk == 0
      let s := { s with sys := { s.sys with refOk := s.sys.refOk ||| (1 : BitVec 4) <<< q.val } }
      let s := if none_ && s.sys.coreRef != q.val then bump { s with sys := { s.sys with coreRef := q.val } } (resetCnt 3) else s
      .next ((quadPorts s q.val).foldl startPort s)

/-! ## Device time (R502 to R506) -/

def timeSrc (s : State) : Nat := fld s 0x40100 0 2
def stepNs (s : State) : Nat := 1000 * fld s 0x40100 16 16

/-- Steer device time by a measured offset, device minus source (R505): small offsets and backward ones are slewed, a forward one of STEP_US or more
is stepped. -/
def steer (s : State) (off : Int) : State :=
  let s := { s with sys := { s.sys with offsetNs := off } }
  if off.natAbs < stepNs s then { s with sys := { s.sys with slew := -off, timeLocked := true } }
  else if off < 0 then
    bump { s with now := s.now + off.natAbs, sys := { s.sys with slew := 0, slewAcc := 0, timeLocked := true } } (resetCnt 2)
  else { s with sys := { s.sys with slew := -off, timeLocked := false } }

/-- TIME_DISTRIBUTE (R503, R505): `elapsed` nanoseconds pass, slewed by at most 500 ppm; PPS_OUT falls 1 ms after it rose. -/
def execTimeDistribute (elapsed : BitVec 32) (s : State) : Out3 :=
  let acc := s.sys.slewAcc + elapsed.toNat
  let n := Nat.min s.sys.slew.natAbs (acc / 2000)
  let fwd := decide (0 < s.sys.slew)
  let now := if fwd then s.now + elapsed.toNat + n else s.now + (elapsed.toNat - n)
  let slew := if fwd then s.sys.slew - Int.ofNat n else s.sys.slew + Int.ofNat n
  let s := { s with now := now, sys := { s.sys with slew := slew, slewAcc := if slew = 0 then 0 else acc - 2000 * n } }
  if s.sys.ppsOutUntil ≠ 0 ∧ s.sys.ppsOutUntil ≤ s.now then
    .next (emit { s with sys := { s.sys with ppsOutUntil := 0 } } (.pin "PPS_OUT" false))
  else .next s

/-- The second that an edge marks: under SRC 2 from GLOBAL_TIME_SET, then one more per edge; under SRC 3 from IEEE 1588; else the nearest. -/
def edgeSecond (s : State) : Nat :=
  let near := (s.now + 500000000) / 1000000000
  if timeSrc s = 3 then (s.sys.ptpSecs.map (· + 1)).getD near
  else match s.sys.pendingSecs with
    | some n => n
    | none => (s.sys.edgeSecs.map (· + 1)).getD near

/-- PPS_IN_EDGE (R504). -/
def execPpsInEdge (s : State) : Out3 :=
  let s1 := { s with sys := { s.sys with lastPps := some s.now } }
  if timeSrc s < 2 then .next s1
  else
    let n := edgeSecond s
    let s1 := { s1 with sys := { s1.sys with pendingSecs := none, edgeSecs := some n, ptpSecs := s.sys.ptpSecs.map (· + 1) } }
    .next (steer s1 (Int.ofNat s.now - Int.ofNat (n * 1000000000)))

/-- GLOBAL_TIME_SET (R504, R505): at once under SRC 0, at the next edge under SRC 2; a value earlier than device time is ignored. -/
def execGlobalTimeSet (secs : Word) (s : State) : Out3 :=
  let t := secs.toNat * 1000000000
  if t < s.now then .next (setBit s 0x40118 3)
  else if timeSrc s = 1 ∨ timeSrc s = 3 then .next s
  else if timeSrc s = 0 then
    .next { (if stepNs s ≤ t - s.now then bump s (resetCnt 2) else s) with now := t }
  else .next { s with sys := { s.sys with pendingSecs := some secs.toNat } }

/-- PPS_OUT_SECOND (R506): PPS_OUT rises at a whole second of device time and stays high for 1 ms. -/
def execPpsOutSecond (s : State) : Out3 :=
  let n := s.now / 1000000000
  if !flag s 0x40100 2 || s.sys.lastPpsOut.any (fun m => decide (n ≤ m)) then .next s
  else .next (emit { s with sys := { s.sys with lastPpsOut := some n, ppsOutUntil := s.now + 1000000 } } (.pin "PPS_OUT" true))

end Sys2Proof.Machine
end

