-- ==== Sys2Proof/Machine/Power.lean ====
section
/-! DEFINITION. Rails, temperatures and AVSBus (22), the device snapshot and the management Ethernet port (23, R553, R558). -/

namespace Sys2Proof.Machine

/-! ## Rails (R528) -/

/-- RAIL_EXCURSION (R528). -/
def execRailExcursion (rail : Fin 9) (s : State) : Out3 :=
  if s.sys.porst || !s.pwr.rails.getLsbD rail.val then .next s
  else
    let s := { s with pwr := { s.pwr with rails := s.pwr.rails &&& ~~~((1 : BitVec 9) <<< rail.val) } }
    .next (raiseAlert (bump s (pwrCnt 0)) 1)

/-- RAIL_RETURN (R528): within 20 µs. -/
def execRailReturn (rail : Fin 9) (s : State) : Out3 :=
  .next { s with pwr := { s.pwr with rails := s.pwr.rails ||| (1 : BitVec 9) <<< rail.val } }

/-- RAIL_EXCURSION_LIMIT (R528): an excursion longer than 20 µs stops the device. -/
def execRailExcursionLimit (rail : Fin 9) (s : State) : Out3 :=
  if s.pwr.rails.getLsbD rail.val || s.sys.porst || s.sys.st == .stopped then .next s else .next (deviceStop s 0xD 0 3)

/-- VDD_AON_LOSS (R528, R532): the device is reset as by a power-on, until PORST_N is released again. -/
def execVddAonLoss (s : State) : Out3 := .next (releaseTrip (powerOn s))

/-! ## Temperatures (R531, R532) -/

/-- SW_THERMAL_ALERT (R531): a switch die sensor reaches SW_ALERT_C. -/
def execSwThermalAlert (sensor : Fin 64) (t : BitVec 8) (s : State) : Out3 :=
  if t.toNat < fld s (mgmtBase + 0x100) 0 8 then .next s
  else
    let s1 := { s with pwr := { s.pwr with hot := tblPut s.pwr.hot sensor.val t.toNat } }
    .next (if tblHas s.pwr.hot sensor.val then s1 else thermalEvent s1)

/-- SW_ALERT_CLEAR (R531): every switch die sensor is 3 °C below SW_ALERT_C. -/
def execSwAlertClear (s : State) : Out3 := .next (releaseTrip { s with pwr := { s.pwr with hot := [] } })

/-- THERMTRIP (R532): every island but the trip latch stops; nothing is kept. -/
def execThermtrip (s : State) : Out3 :=
  if s.pwr.tripped then .next s
  else
    let p := powerOn (emit { s with pwr := { s.pwr with tripped := true } } (.pin "THERMTRIP_N" false))
    .next { p with sys := { p.sys with st := .stopped, porst := false } }

/-! ## AVSBus (R523) -/

/-- AVS_POLL (R523): every 1 ms the device reads the current of each AVS regulator in mA and adds the energy; a transaction that fails twice gives
no reading and is counted. -/
def execAvsPoll (ma : List Nat) (s : State) : Out3 :=
  if s.pwr.lastAvs.any (fun t => decide (s.now < t + 1000000)) then .next s
  else
    let nj := s.pwr.energy + ((List.range 3).map (fun r => railMv s r * ma.getD r 0)).sum
    let s := bumpBy s (pwrCnt 2) (3 - Nat.min 3 ma.length)
    .next (bumpBy { s with pwr := { s.pwr with energy := nj % 1000000, lastAvs := some s.now } } (pwrCnt 3) (nj / 1000000))

/-- AVS_TARGET_STEP (R523): within the rail's AVS range, by at most 10 mV, at most once per 100 µs; `ok`: the AVSBus transaction did not fail twice. -/
def execAvsTargetStep (rail : Fin 3) (mv : BitVec 16) (ok : Bool) (s : State) : Out3 :=
  let r := rail.val
  let v := mv.toNat
  let lo := avsLow r
  let old := railMv s r
  let soon := (tblFind s.pwr.stepped r).any (fun t => decide (s.now < t + 100000))
  if !flag s (mgmtBase + 0x120) 0 || decide (v < lo) || decide (lo + 60 < v) || decide (10 < v - old) || decide (10 < old - v) || soon then .next s
  else if !ok then .next (bump s (pwrCnt 2))
  else .next { s with pwr := { s.pwr with mv := tblPut s.pwr.mv r v, stepped := tblPut s.pwr.stepped r s.now } }

/-! ## Device snapshot (R558, R559) -/

/-- The counter registers of the device and their values. Histogram arrays have their own snapshot. -/
def liveCounters (s : State) : Tbl Word :=
  s.regs.filter (fun e => (regInfo e.1).any (·.counter) && !(decide (telemetryBase ≤ e.1 ∧ e.1 < mgmtBase)))

/-- DEVICE_SNAPSHOT (R558): every counter is copied into its shadow, and every histogram into its array, at one device time. -/
def execDeviceSnapshot (s : State) : Out3 :=
  let s := { regSet s (telemetryBase + 0xF0008) (BitVec.ofNat 64 s.now) with mgmt := { s.mgmt with shadow := liveCounters s } }
  let s := (List.range 128).foldl snapPort s
  let s := setBit (setBit s (telemetryBase + 0xF0000) 3) (telemetryBase + 0xF0000) 4
  .next (if flag s (telemetryBase + 0xF0000) 5 then msix s 2 else s)

/-! ## Management Ethernet (R553) -/

/-- ETH_EN, and the tag that VLAN_EN asks for. -/
def ethOn (s : State) : Bool := flag s (mgmtBase + 0x200) 61
def ethTagOk (s : State) (tagged : Bool) : Bool := tagged || !flag s (mgmtBase + 0x200) 60
def ethIp (s : State) : Nat := fld s (mgmtBase + 0x208) 0 32
/-- Send a frame, with its VLAN tag while VLAN_EN is set. -/
def ethSend (s : State) (what : String) (body : List Nat) : State :=
  emit s (.send 128 what (if flag s (mgmtBase + 0x200) 60 then fld s (mgmtBase + 0x200) 48 12 :: body else body))

/-- ARP_REQUEST (R553): an ARP request for the device's address is answered; every other frame is discarded. -/
def execArpRequest (f : EthFrame) (s : State) : Out3 :=
  if !ethOn s then .next s
  else if !f.fcsOk then .next (bump s (ethCnt 5))
  else if ethTagOk s f.tagged && f.arp.any (fun a => a.toNat == ethIp s && a != 0) then
    .next (ethSend (bump (bump s (ethCnt 0)) (ethCnt 1)) "ArpReply" [ethIp s])
  else .next (bump s (ethCnt 4))

/-- PTP_MESSAGE (R504, R553): a message of a master, with its seconds and the offset (device minus master) that the clock servo finds. Whether the
device sends a delay request with it, the specification leaves open. -/
def execPtpMessage (domain : BitVec 8) (udp : Bool) (tagged : Bool) (secs : Word) (offset : Int) (s : State) : Out3 :=
  if !ethOn s then .next s
  else if !ethTagOk s tagged || (udp && ethIp s == 0) then .next (bump s (ethCnt 4))
  else
    let s := bump (bump s (ethCnt 0)) (ethCnt 2)
    if domain.toNat ≠ fld s 0x40100 8 8 then .next s
    else
      let s := { s with sys := { s.sys with lastPtp := some s.now } }
      let src := timeSrc s
      if src = 0 ∨ src = 2 then .next s
      else
        let (v, s) := draw s
        let s := if v.getLsbD 0 then ethSend (bump (bump s (ethCnt 1)) (ethCnt 3)) "DelayReq" [] else s
        if src = 1 then .next (steer s offset) else .next { s with sys := { s.sys with ptpSecs := some secs.toNat } }

/-- PHY_POLL (R553): every 10 ms the PHY's link status is read over MDIO. -/
def execPhyPoll (up sync : Bool) (s : State) : Out3 :=
  if s.mgmt.lastPhyPoll.any (fun t => decide (s.now < t + 10000000)) then .next s
  else .next { s with mgmt := { s.mgmt with phyUp := up, sgmiiSync := sync, lastPhyPoll := some s.now } }

end Sys2Proof.Machine
end

