-- ==== Sys2Proof/Machine/Flags.lean ====
section
/-! DEFINITION. Reads of registers: the status fields that follow from the state, laid over the stored registers (02 to 23). -/

namespace Sys2Proof.Machine

/-- Fields laid over a stored register: low bit, width, value. -/
abbrev Overlay := List (Nat × Nat × Nat)

def overlaid (v : Word) (fs : Overlay) : Word := BitVec.ofNat 64 (fs.foldl (fun v f => withBits v f.1 f.2.1 f.2.2) v.toNat)

/-! ## GLOBAL -/

def devStateCode : DevState → Nat
  | .test => 0 | .firmware => 1 | .setup => 2 | .serving => 3 | .quiesce => 4 | .restart => 5 | .stopped => 6

def lastResetCode : LastReset → Nat
  | .powerOn => 0 | .cold => 1 | .warm => 2

/-- An offset in ns as a signed 32-bit field, saturating (GLOBAL_TIME_STATUS.OFFSET_NS). -/
def satOffset (x : Int) : Nat := (max (-2147483648) (min 2147483647 x) % 4294967296).toNat

/-- Whether an event of the last 2 s was seen. -/
def seenLately (s : State) (t : Option Nat) : Bool := t.any (fun t => decide (s.now ≤ t + 2000000000))

/-- Whether the selected time source has been seen in the last 2 s; the crystal alone is no source that locks (R504, R506). -/
def sourceSeen (s : State) : Bool :=
  let pps := seenLately s s.sys.lastPps
  let ptp := seenLately s s.sys.lastPtp
  match timeSrc s with
  | 0 => false
  | 1 => ptp
  | 2 => pps
  | _ => pps && ptp

/-- An island reset is in progress, a slice's being taken over included (R509). -/
def islandBusy (s : State) : Bool := !s.sys.islands.isEmpty || s.core.takeover.any (fun p => !s.core.failed.contains (holderOf s p))

/-- GLOBAL_TENANT_CTL and the usage registers of entry `t` (03). -/
def tenantLive (s : State) (t off : Nat) : Overlay :=
  let e := tblGet s.pool.tenants t {}
  match off with
  | 0 => [(0, 16, e.key.toNat), (16, 1, e.valid.toNat), (17, 1, e.err.toNat)]
  | 8 => [(0, 40, if e.valid then usage s e.key .t0 else 0)]
  | 16 => [(0, 40, if e.valid then usage s e.key .t1 else 0)]
  | _ => [(0, 40, if e.valid then usage s e.key .t2 else 0)]

/-- GLOBAL_WINCH_STATUS of engine `n` (08). -/
def winchStatus (s : State) (n : Nat) : Overlay :=
  let ops := s.tier.ops.filter (fun o => o.2.engine == some n)
  [(0, 7, ops.length), (7, 11, engineReqs s n), (18, 1, (s.tier.sparedEngines.contains n).toNat)]

/-- GLOBAL_CMP_SLOT of slot `i` (09). -/
def cmpSlotLive (s : State) (i : Nat) : Overlay :=
  let c := cslotOf s i
  [(0, 16, if i = 255 then 0xFFFF else if c.gens.isEmpty then 0 else c.owner.toNat), (16, 8, c.cur), (24, 4, c.gens.length), (28, 1, (slotRetiring s i).toNat),
   (32, 32, (c.gens.map (fun g => genRefs s i g.num)).sum)]

/-- Live fields of GLOBAL. -/
def globalLive (s : State) (o : Nat) : Overlay :=
  if o = 0x7F00 then [(0, 32, s.pool.gen), (32, 4, s.pool.undrained.length)]
  else if o = 0x7F10 then [(0, 17, s.obj.shelves.length), (32, 25, s.obj.drawers.countP (fun d => d.2.st != .free))]
  else if o = 0x7F18 then [(0, 25, s.obj.drawers.countP (fun d => d.2.st == .inTransit))]
  else if 0x8000 ≤ o ∧ o < 0x28000 then tenantLive s ((o - 0x8000) / 0x20) ((o - 0x8000) % 0x20)
  else if o = 0x30008 then [(0, 24, ((List.range 12).map (stackFree s)).sum), (24, 40, ((trays s).map (trayFree s)).sum)]
  else if inRow o 0x30200 16 8 then winchStatus s ((o - 0x30200) / 8)
  else if o = 0x30800 then
    [(0, 17, s.cmp.objs.countP (fun x => !x.2.gone)), (32, 12, (s.cmp.slots.map (fun c => c.2.gens.length)).sum)]
  else if inRow o 0x30900 256 8 then cmpSlotLive s ((o - 0x30900) / 8)
  else if o = 0x32000 then [(0, 15, s.train.trains.length), (16, 13, s.train.insts.length)]
  else if o = 0x33008 then [(0, 32, s.route.gen), (32, 14, s.route.tethers.length)]
  else if o = 0x40008 then
    [(0, 3, devStateCode s.sys.st), (3, 2, lastResetCode s.sys.lastReset), (7, 1, (tenantBusyNow s).toNat), (8, 1, (islandBusy s).toNat),
     (16, 8, s.sys.startupFail), (32, 32, s.sys.warmCount)]
  else if o = 0x40108 then [(0, 64, s.now)]
  else if o = 0x40118 then
    [(0, 1, (s.sys.timeLocked && sourceSeen s).toNat), (1, 1, (seenLately s s.sys.lastPps).toNat), (2, 1, (seenLately s s.sys.lastPtp).toNat),
     (4, 1, s.sys.xtalLost.toNat), (5, 4, s.sys.refOk.toNat), (9, 1, s.sys.mgmtRefOk.toNat), (10, 2, s.sys.coreRef),
     (32, 32, satOffset s.sys.offsetNs)]
  else []

/-! ## PORT -/

def linkCode : LinkState → Nat
  | .down => 0 | .detect => 1 | .eq => 2 | .lock => 3 | .config => 4 | .active => 5 | .retrain => 6

def cxlCode : CxlState → Nat
  | .down => 0 | .training => 1 | .linkUp => 2 | .memReady => 3 | .failed => 4

/-- Live fields of PORT block `p`. Link keys read as zero (17). -/
def portLive (s : State) (p o : Nat) : Overlay :=
  if o = 0x20 then
    let l := linkOf s p
    [(0, 3, linkCode l.st), (3, 2, Nat.log2 l.width), (5, 1, l.degraded.toNat), (6, 1, l.encOn.toNat), (7, 1, l.txPhase.toNat),
     (8, 1, l.rxPhase.toNat), (9, 1, l.rolling.isSome.toNat), (10, 12, l.peerSwitch), (22, 8, l.epoch), (30, 11, l.replay.length)]
  else if 0x40 ≤ o ∧ o < 0x100 then [(0, 64, 0)]
  else if o = 0x400 then [(8, 8, tblGet s.route.rxUnits p 0), (16, 8, tblGet s.route.txUnits p 0)]
  else if o = 0x500 then
    let mine := s.core.reorder.filter (fun e => e.1 / 2048 == p)
    [(0, 11, mine.countP (fun e => !e.2.held.isEmpty)), (16, 17, (mine.map (fun e => e.2.held.length)).sum)]
  else if o = 0x908 then
    let c := tblGet s.link.cxl p {}
    [(0, 3, cxlCode c.st), (3, 2, c.rate), (5, 1, c.lopt.toNat), (6, 1, c.ideOn.toNat), (7, 1, c.biEn.toNat), (8, 1, c.memEn.toNat),
     (10, 26, c.trayCap)]
  else []

/-! ## SLICE -/

/-- Live fields of the block of physical slice `k`, which holds position `pos` or none. -/
def sliceLive (s : State) (k : Nat) (pos : Option Nat) (o : Nat) : Overlay :=
  let rows := rowsOf s k
  if o = 0x0 then
    [(0, 2, if pos.isSome then 0 else if s.core.failed.contains k then 2 else 1), (2, 4, pos.getD 0),
     (6, 1, (s.core.takeover.isSome && s.core.takeTo == k).toNat), (8, 5, 16 - rows.used), (13, 6, rows.retired)]
  else match pos with
    | none => []
    | some q =>
      if o = 0x10 then
        [(0, 17, freeCells s q), (17, 17, cellsAt s q (fun c => decide (4 ≤ c))), (34, 17, cellsAt s q (fun c => decide (c < 4)))]
      else if inRow o 0x1000 64 8 then
        let port := 8 * q + (o - 0x1000) / 0x40
        let first := (o - 0x1000) % 0x40 / 8 * 16
        (List.range 16).map (fun j => (4 * j, 4,
          (slotTable s port).getD (first + j) 0))
      else if o = 0x8008 then
        [(0, 13, trackersBusy s q), (16, 23, s.coh.dir.countP (fun e => linePart e.1 == q)), (39, 10, s.coh.wbBuf.countP (fun e => linePart e.line == q))]
      else if o = 0x8208 then
        [(0, 13, (hotLines s q).countP (fun e => e.2.mode != .near)), (13, 13, (hotLines s q).length), (26, 15, s.atm.replay.countP (fun e => e.part == q))]
      else []

/-! ## STACK, TRESTLE, SETTLE -/

def stackCode : StackMode → Nat
  | .online => 0 | .evacuating => 1 | .offline => 2

def seqQueued (q : Seq) : Bool := q.stage == .queued || q.stage == .holding || q.stage == .ready

/-- Live fields of STACK block `st`. -/
def stackLive (s : State) (st o : Nat) : Overlay :=
  let r := stackOf s st
  if o = 0x8 then
    [(0, 8, r.temp), (8, 1, r.ext.toNat), (9, 1, r.hot.toNat), (10, 2, stackCode r.mode), (12, 5, unitsFree s st), (17, 1, r.mirrorLost.toNat),
     (32, 20, stackFree s st)]
  else if inRow o 0x200 16 8 then
    let u := tblGet r.spares ((o - 0x200) / 8) {}
    [(0, 8, u.bank), (8, 1, u.used.toNat), (9, 1, u.failed.toNat)]
  else if o = 0x408 then
    [(0, 9, s.bau.seqs.countP (fun q => q.stack == st && q.stage == .running)), (9, 13, s.bau.seqs.countP (fun q => q.stack == st && seqQueued q)),
     (22, 21, meterOf s st), (43, 1, ((tblFind s.bau.limited st).any (fun t => decide (s.now < t + 10000))).toNat)]
  else []

/-- TRESTLE_UNIT_STATUS of physical unit `p`. -/
def unitStatus (s : State) (p : Nat) : Overlay :=
  let (role, u) := tblGet s.trs.phys p (0, 0)
  if role = 0 ∧ tblHas s.trs.phys p then
    let reqs := (s.trs.units.flatMap (fun x => x.2.gangs.flatMap (fun g => g.2.reqs))).countP (fun q => q.src == u)
    [(0, 2, role), (2, 6, u), (8, 10, (unitOf s u).gangs.length), (18, 11, reqs)]
  else [(0, 2, role)]

/-- TRESTLE_SLOT of slot `i`. -/
def kslotStatus (s : State) (i : Nat) : Overlay :=
  match kslotOf s i with
  | none => []
  | some k =>
    [(0, 16, k.owner.toNat), (16, 13, if i < 16 then (Config.stdInstr i).toNat % 8185 else k.prog.length), (29, 1, 1),
     (30, 1, (decide (i < 16)).toNat), (32, 11, s.trs.launches.countP (fun l => l.2.slot == i))]

/-- Live fields of TRESTLE. -/
def trestleLive (s : State) (o : Nat) : Overlay :=
  if o = 0x8 then
    [(0, 7, s.trs.phys.countP (fun e => e.2.1 == 0)), (7, 4, s.trs.phys.countP (fun e => e.2.1 == 1)), (11, 11, s.trs.launches.length)]
  else if inRow o 0x100 72 8 then unitStatus s ((o - 0x100) / 8)
  else if inRow o 0x400 256 8 then kslotStatus s ((o - 0x400) / 8)
  else []

/-- Live fields of SETTLE. -/
def settleLive (s : State) (o : Nat) : Overlay :=
  if o = 0x8 then
    let i := s.settle.image.getD { version := 0, svn := 0 }
    [(0, 3, bootCode s.settle.boot), (3, 1, s.settle.staged.isSome.toNat), (4, 1, s.settle.activate.toNat), (5, 6, (activeCores s).length),
     (11, 3, settleFree s), (16, 8, i.svn), (32, 32, i.version)]
  else if inRow o 0x100 36 8 then
    match coreRole s ((o - 0x100) / 8) with
    | none => []
    | some (role, n) => if role = 0 then [(0, 2, 0), (2, 5, n), (7, 2, dutyOf s n)] else [(0, 2, role)]
  else if o = 0x400 then [(1, 1, s.settle.mbox.isSome.toNat)]
  else if o = 0x630 then [(0, 8, fusedSvn s)]
  else []

/-! ## Rings, RAS, MGMT -/

/-- Live fields of RINGSETUP. -/
def ringLive (s : State) (o : Nat) : Overlay :=
  if 0x80000 ≤ o then []
  else
    let n := o / 0x80
    let r := ringOf s n
    match o % 0x80 with
    | 0x20 => [(0, 1, r.enable.toNat)]
    | 0x28 => [(0, 3, ringStateCode r.st), (4, 4, r.gen), (8, 8, r.cause), (16, 17, r.old.length)]
    | 0x30 => [(0, 17, ix r.seq)]
    | 0x38 => [(0, 17, liveCount s n)]
    | _ => []

/-- The 64 bytes of an error record (R484). -/
def errBytes (r : ErrRec) : List Byte :=
  let b := natBytes 8 r.time ++ natBytes 4 r.seq ++ natBytes 1 r.kind ++ natBytes 1 r.cls ++ natBytes 2 r.idx ++ natBytes 2 r.cause ++
    natBytes 2 r.key.toNat ++ natBytes 8 r.handle ++ natBytes 4 r.tag.toNat ++ natBytes 8 r.addr ++ natBytes 8 r.d0 ++ natBytes 8 r.d1 ++
    natBytes 2 r.spareKind ++ natBytes 2 r.spareIdx
  b ++ natBytes 4 (crc32c b)

/-- Word `k` of slot `i` of the log window (R485). -/
def logWord (s : State) (i k : Nat) : Nat :=
  match s.ras.log.find? (fun r => r.seq % 4096 == i) with
  | some r => imgNat (errBytes r) (8 * k) 8
  | none => 0

/-- Live fields of RAS. -/
def rasLive (s : State) (o : Nat) : Overlay :=
  if o = 0x8 then [(16, 14, s.ras.fences.length), (32, 32, s.ras.fenceGen)]
  else if o = 0x20 then [(0, 17, s.ras.ringHead)]
  else if inRow o 0x100 16 8 then [(33, 1, (s.ras.inputs.contains ((o - 0x100) / 8)).toNat)]
  else if inRow o 0x40000 32768 8 then [(0, 64, logWord s ((o - 0x40000) / 64) ((o - 0x40000) % 64 / 8))]
  else []

/-- The hottest of some sensors, the lowest-numbered where equal. -/
def hottest (t : List (Nat × Nat)) : Nat × Nat := t.foldl (fun m e => if m.2 < e.2 then e else m) (0, 0)

/-- MGMT_THERM_STATUS (22). -/
def thermStatus (s : State) : Overlay :=
  let (i, t) := if s.pwr.hot.isEmpty
    then ((Config.dieSensor s.now).val, Nat.min (Config.dieTemp s.now).toNat (fld s (mgmtBase + 0x100) 0 8 - 1))
    else hottest s.pwr.hot
  let (j, u) := hottest ((List.range 12).map (fun k => (k, (stackOf s k).temp)))
  [(0, 8, t), (8, 6, i), (16, 8, u), (24, 4, j), (28, 1, (!s.pwr.hot.isEmpty).toNat), (29, 1, ((List.range 12).any (fun k => (stackOf s k).hot)).toNat)]

/-- Live fields of MGMT. -/
def mgmtLive (s : State) (o : Nat) : Overlay :=
  if o = 0x0 then
    if s.pwr.perst || !s.sys.mgmtRefOk then [] else [(0, 3, (Config.mgmtSpeed s.now).val + 1), (3, 4, 2 ^ (Config.mgmtWidth s.now).val)]
  else if o = 0x108 then thermStatus s
  else if o = 0x118 then [(0, 9, s.pwr.rails.toNat), (16, 16, railMv s 0), (32, 16, railMv s 1), (48, 16, railMv s 2)]
  else if o = 0x210 then [(0, 1, s.mgmt.phyUp.toNat), (1, 1, s.mgmt.sgmiiSync.toNat)]
  else []

/-! ## Reading -/

/-- The physical slice and block offset that a BAR0 offset of a SLICE block names. -/
def sliceAt (a : Nat) : Option (Nat × Nat) :=
  if 0x200000 ≤ a ∧ a < 0x300000 then some ((a - 0x200000) / 0x10000, (a - 0x200000) % 0x10000)
  else if 0x3F0000 ≤ a ∧ a < 0x400000 then some (16, a - 0x3F0000)
  else none

/-- Where a register is kept: those of a slice go with the position that it holds (R382). -/
def regHome (s : State) (a : Nat) : Nat :=
  match sliceAt a with
  | some (k, o) => sliceBase ((posOf s k).getD 16) + o
  | none => a

/-- The fields laid over the register at a BAR0 offset. -/
def liveFields (s : State) (a : Nat) : Overlay :=
  match sliceAt a with
  | some (k, o) => sliceLive s k (posOf s k) o
  | none =>
    if a < 0x100000 then globalLive s a
    else if a < 0x180000 then portLive s ((a - 0x100000) / 0x1000) ((a - 0x100000) % 0x1000)
    else if a < 0x300000 then []
    else if a < 0x3C0000 then stackLive s ((a - 0x300000) / 0x10000) ((a - 0x300000) % 0x10000)
    else if a < 0x400000 then []
    else if a < 0x500000 then trestleLive s (a - 0x400000)
    else if a < 0x600000 then settleLive s (a - 0x500000)
    else if a < 0x700000 then ringLive s (a - 0x600000)
    else if a < 0x800000 then rasLive s (a - 0x700000)
    else if a < 0x900000 then []
    else if a < 0xA00000 then mgmtLive s (a - 0x900000)
    else []

/-- Whether a register is a counter that VIEW turns to its shadow copy (R558). -/
def viewed (a : Nat) : Bool := (regInfo a).any (·.counter) && !(decide (telemetryBase ≤ a ∧ a < mgmtBase))

/-- CXL registers of a port whose role, once set-up is closed, does not use them: they read as zero and ignore writes (R455). -/
def cxlUnused (s : State) (a : Nat) : Bool :=
  let p := (a - 0x100000) / 0x1000
  let o := (a - 0x100000) % 0x1000
  decide (0x100000 ≤ a ∧ a < 0x180000) && !setupOpen s p &&
  ((decide (0x940 ≤ o ∧ o < 0x9C0) && !(isHostPort s p && isCxl s p)) ||
   ((decide (0x900 ≤ o ∧ o < 0x918) || decide (0xF00 ≤ o ∧ o < 0xF60)) && !((isHostPort s p || isTray s p) && isCxl s p)))

/-- What a read of the 8 B aligned register at a BAR0 offset returns; zero where none is (R543). -/
def readReg (s : State) (a : Nat) : Word :=
  let h := regHome s a
  if cxlUnused s a then 0
  else if viewed h && flag s (telemetryBase + 0xF0000) 1 then tblGet s.mgmt.shadow h 0
  else overlaid (regGet s h) (liveFields s a)

end Sys2Proof.Machine
end

