-- ==== Sys2Proof/Machine/Management.lean ====
section
/-! DEFINITION. Management access (23): register writes and reads over BAR0, set-up and SERVE (21), tenants (03), port keys (14), policers and WRED
(16), the board controller, MSI-X and the test port (22). -/

namespace Sys2Proof.Machine

/-- Whether the management endpoint takes accesses: it is out of reset, its reference runs, and the device has not tripped (R501,
R532, R535). -/
def bar0Open (s : State) : Bool := !s.sys.porst && !s.pwr.perst && !s.pwr.tripped && s.sys.mgmtRefOk

/-- Record an access error (R543, R549). -/
def accessError (s : State) (bit a : Nat) (write : Bool) : State :=
  regSet (setBit s (mgmtBase + 0x8) bit) (mgmtBase + 0x10) (BitVec.ofNat 64 (a + (if write then 2 ^ 26 else 0)))

/-- A naturally aligned access of 4 or 8 bytes (R543). -/
def alignedAccess (a n : Nat) : Bool := (n == 4 || n == 8) && a % n == 0

/-! ## Alerts and MSI-X -/

/-- ALERT_N rises once its last cause is cleared (R540). -/
def alertAfter (before s : State) : State := if alertLow before && !alertLow s then emit s (.pin "ALERT_N" true) else s

/-- Unmask a vector: a pending event is delivered, once (R546). -/
def unmask (s : State) (v : Nat) : State :=
  let s := setFld s (msixBase + 16 * v + 8) 32 1 0
  let a := msixBase + 0x8000 + 8 * (v / 64)
  if flag s a (v % 64) then emit (setFld s a (v % 64) 1 0) (.msix v) else s

/-- MSIX_UNMASK (R546). -/
def execMsixUnmask (v : Fin 2048) (s : State) : Out3 :=
  if flag s (msixBase + 16 * v.val + 8) 32 then .next (unmask s v.val) else .next s

/-! ## Writing a register (R8, R549) -/

/-- Bits of a write, and which of them it carries. -/
structure WData where
  data : Nat
  lo : Nat
  len : Nat

/-- Whether a write carries bits of a field. -/
def WData.meets (w : WData) (f : Field) : Bool := decide (f.lo < w.lo + w.len ∧ w.lo < f.lo + f.len)

/-- A register's bits with those of the write in place. -/
def WData.placed (w : WData) (v : Nat) : Nat := withBits v w.lo w.len w.data

/-- A field's bits with those that the write carries, if they are in its range. -/
def setField (f : Field) (w : WData) (v : Nat) : Nat :=
  let x := bitsOf (w.placed v) f.lo f.len
  if f.least ≤ x ∧ x ≤ f.most ∧ x % f.unit = 0 then withBits v f.lo f.len x else v

/-- One field under a write; `open_`: SETUP_OPEN of its block; `once`: the RWO fields of the register already written, by low bit. -/
def writeField (open_ : Bool) (once : List Nat) (w : WData) (v : Nat) (f : Field) : Nat :=
  if !w.meets f then v
  else match f.acc with
    | .rw => setField f w v
    | .wo => setField f w v
    | .rw1c => withBits v f.lo f.len (bitsOf v f.lo f.len &&& (2 ^ f.len - 1 - bitsOf (withBits 0 w.lo w.len w.data) f.lo f.len))
    | .rwl => if open_ then setField f w v else v
    | .rwo => if once.contains f.lo then v else setField f w v
    | .ro => v
    | .own => v

/-- Whether the RWL fields of a register take writes (R548). -/
def unlocked (s : State) (i : RegInfo) : Bool := i.setupAt.all (fun x => flag s x.1 x.2)

/-- EXT_EXIT_C must lie at least 2 below EXT_ENTER_C, or it stays (10). -/
def stackCfgRule (old new : Nat) : Nat := if bitsOf new 8 8 + 2 ≤ bitsOf new 0 8 then new else withBits new 8 8 (bitsOf old 8 8)

/-- SHAPE_UNITS is at most the port's units, or it stays (R407). -/
def shapeRule (units old new : Nat) : Nat := if bitsOf new 8 8 ≤ units then new else withBits new 8 8 (bitsOf old 8 8)

/-- A ring's base, shadow and configuration registers take writes only while it is DISABLED (R29). -/
def ringHeld (s : State) (a : Nat) : Bool :=
  decide (0x600000 ≤ a ∧ a < 0x680000 ∧ a % 0x80 < 0x20) && (ringOf s ((a - 0x600000) / 0x80)).st != .disabled

/-- Link keys written during a quiesce are discarded (R514). -/
def keyHeld (s : State) (a : Nat) : Bool :=
  decide (0x100000 ≤ a ∧ a < 0x180000 ∧ 0x40 ≤ a % 0x1000 ∧ a % 0x1000 < 0x100) && s.sys.st == .quiesce

/-- The RWO fields of a register that have been written since their reset, by low bit (R8, R10). -/
def onceOf (s : State) (a : Nat) : List Nat := (s.mgmt.once.filter (fun e => e.1 == a)).map (·.2)

/-- The RWO fields that a write carries are written from now on. -/
def noteOnce (s : State) (a : Nat) (i : RegInfo) (w : WData) : State :=
  let new := (i.fields.filter (fun f => f.acc == .rwo && w.meets f && !(onceOf s a).contains f.lo)).map (fun f => (a, f.lo))
  { s with mgmt := { s.mgmt with once := s.mgmt.once ++ new } }

/-- The value that a write leaves in the register at `a`. -/
def writtenValue (s : State) (a : Nat) (i : RegInfo) (w : WData) : Nat :=
  let v := (regGet s a).toNat
  let x := i.fields.foldl (writeField (unlocked s i) (onceOf s a) w) v
  if decide (0x300000 ≤ a ∧ a < 0x3C0000) && a % 0x10000 == 0 then stackCfgRule v x
  else if decide (0x100000 ≤ a ∧ a < 0x180000) && a % 0x1000 == 0x600 then shapeRule (portUnits s ((a - 0x100000) / 0x1000)) v x
  else x

/-- A write of 0 to FAR_EN sends every Far line of the partition to LEAVING (06). -/
def farDisabled (s : State) (a : Nat) : State :=
  match sliceAt a with
  | some (k, o) =>
    if o = 0x8200 ∧ flag s a 30 = false then (hotLines s k).foldl (fun s e => leaveFar s e.1 2) s else s
  | none => s

/-- A word of a link key has been written (17): once its five words are, the set holds a key. -/
def keyWritten (s : State) (a : Nat) : State :=
  let p := (a - 0x100000) / 0x1000
  let o := (a - 0x100000) % 0x1000
  if decide (0x100000 ≤ a ∧ a < 0x180000 ∧ 0x40 ≤ o ∧ o < 0x100) then
    let set := (o - 0x40) / 0x30
    { s with link := { s.link with keys := tblMod s.link.keys (4 * p + set) 0 (fun m => m ||| 2 ^ ((o - 0x40) % 0x30 / 8)) } }
  else s

/-- A change of a watch slot clears its histograms (16). -/
def watchChanged (before s : State) (a : Nat) : State :=
  let p := (a - 0x100000) / 0x1000
  let o := (a - 0x100000) % 0x1000
  if decide (0x100000 ≤ a ∧ a < 0x180000) && inRow o 0x680 16 8 && regGet before a != regGet s a then
    let lo := p * 0x1800 + (8 + (o - 0x680) / 8) * 0x100
    { s with cong := { s.cong with hist := s.cong.hist.map (fun e => if e.1 < lo ∨ lo + 0x100 ≤ e.1 then e else (e.1, 0)) } }
  else s

/-- A change of GLOBAL_TIME_CFG.SRC: the new source does not steer device time yet (R504). -/
def sourceChanged (before s : State) (a : Nat) : State :=
  if a = 0x40100 ∧ timeSrc before ≠ timeSrc s then { s with sys := { s.sys with timeLocked := false, slew := 0, slewAcc := 0 } } else s

/-- Clearing the mask bit of a vector delivers its pending event (R546). -/
def maskCleared (before s : State) (a : Nat) : State :=
  if decide (msixBase ≤ a ∧ a < msixBase + 0x8000) && a % 16 == 8 && flag before a 32 && !flag s a 32 then unmask s ((a - msixBase) / 16) else s

/-- Apply a write at BAR0 offset `off` to the register kept at `a`. -/
def writeReg (s : State) (a off : Nat) (w : WData) : State :=
  match regInfo a with
  | none => s
  | some i =>
    if ringHeld s a || keyHeld s a || cxlUnused s a || i.counter then s
    else
      let t := noteOnce (regSet s a (BitVec.ofNat 64 (writtenValue s a i w))) a i w
      let t := alertAfter s (maskCleared s (sourceChanged s (watchChanged s (keyWritten (farDisabled t a) a) a) a) a)
      if !unlocked s i && i.fields.any (fun f => f.acc == .rwl && w.meets f) then accessError t 1 off true else t

/-- The mailbox's GO (R469), set together with the other fields of its register. -/
def goWritten (a : Nat) (w : WData) : Bool := a == settleBase + 0x400 && w.lo == 0 && w.data % 2 == 1

/-- REGISTER_WRITE (R8, R29, R543, R549): fields that have a row of their own keep their values, the mailbox's GO apart. -/
def execRegisterWrite (off : BitVec 32) (bytes : Nat) (data : Word) (s : State) : Out3 :=
  let a := off.toNat
  if 2 ^ 26 ≤ a then .fault .outsideBar0
  else if !bar0Open s then .next s
  else if !alignedAccess a bytes then .next (accessError s 0 a true)
  else
    let w : WData := { data := data.toNat, lo := 8 * (a % 8), len := 8 * bytes }
    let s := writeReg s (regHome s (a / 8 * 8)) a w
    .next (if goWritten (a / 8 * 8) w then goMailbox s else s)

/-! ## Reads (R543, R556) -/

/-- LOW_WORD_READ (R543, R556): a 4 B read; of the low word, it latches the high word for its requester, whose next read of that high word returns
it. -/
def execLowWordRead (requester : BitVec 16) (off : BitVec 32) (s : State) : Out3 :=
  let a := off.toNat
  let q := requester.toNat
  let r := a / 8 * 8
  if 2 ^ 26 ≤ a then .fault .outsideBar0
  else if !bar0Open s then .next s
  else if a % 4 ≠ 0 then .next (emit (accessError s 0 a false) (.regData q a 0))
  else if a % 8 = 0 then
    let v := readReg s r
    let s := { s with mgmt := { s.mgmt with latch := tblPut s.mgmt.latch q (r, v.extractLsb' 32 32) } }
    .next (emit s (.regData q a (v &&& 0xFFFFFFFF)))
  else
    match (tblFind s.mgmt.latch q).filter (fun x => x.1 == r) with
    | some (_, h) => .next (emit { s with mgmt := { s.mgmt with latch := tblErase s.mgmt.latch q } } (.regData q a (h.setWidth 64)))
    | none => .next (emit s (.regData q a (((readReg s r).extractLsb' 32 32).setWidth 64)))

/-! ## Set-up and SERVE (R15, R548, R549, R518) -/

/-- SETUP_OPEN_CLOSE (R15, R548, R549): the RWL fields of the same write are applied first; a port's settings then take effect and it trains. -/
def execSetupOpenClose (off : BitVec 32) (data : Word) (s : State) : Out3 :=
  let a := off.toNat
  if 2 ^ 26 ≤ a then .fault .outsideBar0
  else
    let h := regHome s a
    match (regInfo h).bind (·.setupAt) with
    | none => .next s
    | some (at_, bit) =>
      if !bar0Open s || at_ != h || !data.getLsbD bit then .next s
      else
        let s := setFld (writeReg s h a { data := data.toNat, lo := 0, len := 64 }) h bit 1 0
        if 0x100000 ≤ a ∧ a < 0x180000 then
          let p := (a - 0x100000) / 0x1000
          .next (startPort (startPort (retireOdd s (p - p % 2 + 1)) (p - p % 2)) p)
        else .next s

/-- The SETUP_OPEN bits that SERVE asks to be closed (R518). -/
def serveLocks : List Nat :=
  [0x40000, trestleBase + 0xFFF00, settleBase + 0xFFF00, rasBase + 0xFFF00] ++ (List.range 17).map (fun k => sliceBase k + 0xFF00) ++
  (List.range 12).map (fun k => stackBase k + 0xFF00)

/-- Whether SERVE is accepted (R518). -/
def canServe (s : State) : Bool := s.sys.st == .setup && serveLocks.all (fun a => !flag s a 0) && switchId s != 0xFFF

/-- SERVE (R516, R518): the fences of asserted inputs are applied before any port trains. -/
def execServe (s : State) : Out3 :=
  if !bar0Open s then .next s
  else if canServe s then
    let s := s.ras.inputs.foldl alertFence { s with sys := { s.sys with st := .serving } }
    .next ((List.range 128).foldl startPort s)
  else .next (setBit s 0x40008 5)

/-! ## Tenants (R62) -/

/-- Whether VALID may be set for a key. -/
def tenantAllowed (s : State) (t : Nat) (k : Key) : Bool :=
  k != 0 && k != 0xFFFF && s.pool.tenants.all (fun e => e.1 == t || !e.2.valid || e.2.key != k)

/-- Whether some ring pair's configuration names a key. -/
def ringNames (s : State) (k : Key) : Bool :=
  s.regs.any (fun e => decide (0x600000 ≤ e.1 ∧ e.1 < 0x680000 ∧ e.1 % 0x80 = 0x18) && bitsOf e.2.toNat 16 16 == k.toNat)

/-- Whether a tenant may not be removed yet. -/
def tenantHeld (s : State) (k : Key) : Bool :=
  s.pool.extents.any (fun x => (accessOf x k).isSome) || ringNames s k || usage s k .t0 != 0 || usage s k .t1 != 0 || usage s k .t2 != 0

/-- The tenant entry that a write leaves. -/
def tenantWrite (s : State) (t : Nat) (data : Word) : Tenant :=
  let e := tblGet s.pool.tenants t {}
  let e := if data.getLsbD 17 then { e with err := false } else e
  if e.valid then
    if data.getLsbD 16 then e
    else if tenantHeld s e.key then { e with err := true }
    else { key := e.key, err := e.err }
  else
    let e := { e with key := data.extractLsb' 0 16 }
    if !data.getLsbD 16 then e
    else if tenantAllowed s t e.key then { key := e.key, valid := true, err := e.err }
    else { e with err := true }

/-- TENANT_CTL_WRITE (R62). -/
def execTenantCtlWrite (t : Fin 4096) (data : Word) (s : State) : Out3 :=
  if !bar0Open s then .next s
  else .next { s with pool := { s.pool with tenants := tblPut s.pool.tenants t.val (tenantWrite s t.val data) } }

/-! ## Port keys, policers, WRED (R348, R394, R396) -/

/-- PORT_KEY_WRITE (R348). -/
def execPortKeyWrite (p : PortId) (e : Fin 64) (data : Word) (s : State) : Out3 :=
  if !bar0Open s then .next s else .next (regSet s (portBase p.val + 0x200 + 8 * e.val) (data &&& 0x1FFFFFFFF))

/-- POLICER_WRITE (R394): both buckets start full. -/
def execPolicerWrite (p : PortId) (i : Fin 64) (w0 w1 : Word) (s : State) : Out3 :=
  if !bar0Open s then .next s
  else
    let a := portBase p.val + 0xB00 + 16 * i.val
    let s := regSet (regSet s a (w0 &&& 0x3FFFFF)) (a + 8) w1
    .next { s with cong := { s.cong with policers := tblErase s.cong.policers (p.val * 64 + i.val) } }

/-- WRED_PROFILE_WRITE (R396): a profile `i`, unless its thresholds are inconsistent, or the map of a port. -/
def execWredProfileWrite (map : Option PortId) (i : Fin 16) (data : Word) (s : State) : Out3 :=
  if !bar0Open s then .next s
  else match map with
    | some p => .next (regSet s (portBase p.val + 0x610) (data &&& 0xFFFFFFFFFFFF))
    | none =>
      let lo := bitsOf data.toNat 0 16
      let hi := bitsOf data.toNat 16 16
      if lo < hi ∨ hi = 0 then .next (regSet s (0x34100 + 8 * i.val) (data &&& 0xFFFFFFFFFF)) else .next s

/-! ## The board controller (R550 to R552) -/

/-- Whether the board controller path answers. -/
def boardAnswers (s : State) : Bool := !s.sys.porst && !s.pwr.tripped

/-- The registers that the board controller may read (R551). -/
def boardReadable (a : Nat) : Bool :=
  a % 8 == 0 && ([0x0, 0x8, 0x40008, 0x40108, 0x40118, 0x700008, 0x900108, 0x900110, 0x900118].contains a || inRow a 0x300008 12 0x10000 ||
  inRow a 0x740000 32768 8 || inRow a 0x900180 4 8)

/-- Whether the island of a STACK_STATUS is in reset (R552). -/
def stackInReset (s : State) (a : Nat) : Bool :=
  decide (0x300000 ≤ a ∧ a < 0x3C0000) && ((s.sys.st == .quiesce && s.sys.quiesced) || s.sys.islands.contains ⟨2, (a - 0x300000) / 0x10000⟩)

/-- BOARD_READ (R550 to R552). -/
def execBoardRead (off : BitVec 32) (s : State) : Out3 :=
  let a := off.toNat
  if !boardAnswers s then .next s
  else if boardReadable a then .next (emit (bump s (boardCnt 0)) (.boardData a (if stackInReset s a then 0 else readReg s a)))
  else .next (emit (bump (bump s (boardCnt 0)) (boardCnt 1)) (.boardData a 0))

/-- BOARD_WRITE (R551, R552): only RW1C bits of MGMT_ALERT_STATUS, and RAS_STATUS.ALERT_PEND. -/
def execBoardWrite (off : BitVec 32) (data : Word) (s : State) : Out3 :=
  let a := off.toNat
  if !boardAnswers s then .next s
  else
    let s := bump s (boardCnt 0)
    if a = mgmtBase + 0x110 ∧ data.toNat % 8 ≠ 0 then .next (writeReg s a a { data := bitsOf data.toNat 0 3, lo := 0, len := 64 })
    else if a = rasBase + 0x8 ∧ data.getLsbD 0 = true then .next (writeReg s a a { data := 1, lo := 0, len := 64 })
    else .next (bump s (boardCnt 1))

/-! ## The test port (R538) -/

/-- JTAG_INSTRUCTION (R538): outside TEST, FIRMWARE and STOPPED, an instruction other than BYPASS, IDCODE and SAMPLE loads BYPASS. -/
def execJtagInstruction (i : TapInstr) (s : State) : Out3 :=
  let free := s.sys.st == .test || s.sys.st == .firmware || s.sys.st == .stopped
  let i := match i with
    | .other c => if free then .other c else .bypass
    | x => x
  let s := { s with mgmt := { s.mgmt with tapInstr := i } }
  .next (if i = .idcode then emit s (.send 129 "IDCODE" [0x19612AF5]) else s)

end Sys2Proof.Machine
end

