-- ==== Sys2Proof/Machine/Dispatch.lean ====
section
/-! DEFINITION. The meaning of each command: one arm per constructor of Instr, each one direct call. -/

namespace Sys2Proof.Machine

/-- The effect of a command on everything but the queue. -/
def exec (i : Instr) (s : State) : Host.Outcome State Fault Refusal :=
  match i with
  | .registerWrite off bytes data => Sys2Proof.Machine.execRegisterWrite off bytes data s
  | .lowWordRead requester off => Sys2Proof.Machine.execLowWordRead requester off s
  | .setupOpenClose off data => Sys2Proof.Machine.execSetupOpenClose off data s
  | .serve => Sys2Proof.Machine.execServe s
  | .tenantCtlWrite t data => Sys2Proof.Machine.execTenantCtlWrite t data s
  | .portKeyWrite p e data => Sys2Proof.Machine.execPortKeyWrite p e data s
  | .policerWrite p i1 w0 w1 => Sys2Proof.Machine.execPolicerWrite p i1 w0 w1 s
  | .wredProfileWrite map i1 data => Sys2Proof.Machine.execWredProfileWrite map i1 data s
  | .boardRead off => Sys2Proof.Machine.execBoardRead off s
  | .boardWrite off data => Sys2Proof.Machine.execBoardWrite off data s
  | .msixUnmask v => Sys2Proof.Machine.execMsixUnmask v s
  | .jtagInstruction i1 => Sys2Proof.Machine.execJtagInstruction i1 s
  | .ringEnable n => Sys2Proof.Machine.execRingEnable n s
  | .ringDisable n => Sys2Proof.Machine.execRingDisable n s
  | .resume n => Sys2Proof.Machine.execResume n s
  | .ringDrained n => Sys2Proof.Machine.execRingDrained n s
  | .doorbell via key word => Sys2Proof.Machine.execDoorbell via key word s
  | .descriptorFetch ok => Sys2Proof.Machine.execDescriptorFetch ok s
  | .descriptorArrive h d => Sys2Proof.Machine.execDescriptorArrive h d s
  | .hostImageReadDone h r => Sys2Proof.Machine.execHostImageReadDone h r s
  | .latchSet h ret => Sys2Proof.Machine.execLatchSet h ret s
  | .completionRecordWrite n ok => Sys2Proof.Machine.execCompletionRecordWrite n ok s
  | .notification n => Sys2Proof.Machine.execNotification n s
  | .abortStopPoint h => Sys2Proof.Machine.execAbortStopPoint h s
  | .heldRecordDrop n => Sys2Proof.Machine.execHeldRecordDrop n s
  | .nop h => Sys2Proof.Machine.execNop h s
  | .abort h => Sys2Proof.Machine.execAbort h s
  | .queryHandle h => Sys2Proof.Machine.execQueryHandle h s
  | .extentCreate h => Sys2Proof.Machine.execExtentCreate h s
  | .extentGrant h => Sys2Proof.Machine.execExtentGrant h s
  | .extentRevoke h => Sys2Proof.Machine.execExtentRevoke h s
  | .extentResize h => Sys2Proof.Machine.execExtentResize h s
  | .quotaSet h => Sys2Proof.Machine.execQuotaSet h s
  | .quotaDemotionEnd h => Sys2Proof.Machine.execQuotaDemotionEnd h s
  | .mapCommit h => Sys2Proof.Machine.execMapCommit h s
  | .mapGenPublish => Sys2Proof.Machine.execMapGenPublish s
  | .generationDrained gen => Sys2Proof.Machine.execGenerationDrained gen s
  | .compositionComplete gen => Sys2Proof.Machine.execCompositionComplete gen s
  | .pageFreeScrub back => Sys2Proof.Machine.execPageFreeScrub back s
  | .xlateCacheFill p src tag => Sys2Proof.Machine.execXlateCacheFill p src tag s
  | .pageAgeTick => Sys2Proof.Machine.execPageAgeTick s
  | .requestIngress r => Sys2Proof.Machine.execRequestIngress r s
  | .rdnc src tag => Sys2Proof.Machine.execRdnc src tag s
  | .rdshared src tag => Sys2Proof.Machine.execRdshared src tag s
  | .rdown src tag => Sys2Proof.Machine.execRdown src tag s
  | .atomnear src tag => Sys2Proof.Machine.execAtomnear src tag s
  | .wrline src tag => Sys2Proof.Machine.execWrline src tag s
  | .wrptl src tag => Sys2Proof.Machine.execWrptl src tag s
  | .atomfar src tag => Sys2Proof.Machine.execAtomfar src tag s
  | .wbdirty m tag data poison => Sys2Proof.Machine.execWbdirty m tag data poison s
  | .rspi m => Sys2Proof.Machine.execRspi m s
  | .rspiwb m => Sys2Proof.Machine.execRspiwb m s
  | .rspidata m data poison => Sys2Proof.Machine.execRspidata m data poison s
  | .rsps m => Sys2Proof.Machine.execRsps m s
  | .rspsdata m data poison => Sys2Proof.Machine.execRspsdata m data poison s
  | .rspcur m => Sys2Proof.Machine.execRspcur m s
  | .rspcurdata m data poison => Sys2Proof.Machine.execRspcurdata m data poison s
  | .gntack m => Sys2Proof.Machine.execGntack m s
  | .trackerFree part => Sys2Proof.Machine.execTrackerFree part s
  | .waitQueueTakeUp off => Sys2Proof.Machine.execWaitQueueTakeUp off s
  | .recallSnoopIssue part => Sys2Proof.Machine.execRecallSnoopIssue part s
  | .memoryReadDone off c => Sys2Proof.Machine.execMemoryReadDone off c s
  | .memoryWriteDone off => Sys2Proof.Machine.execMemoryWriteDone off s
  | .ringBroadcastResponse off kept dirty => Sys2Proof.Machine.execRingBroadcastResponse off kept dirty s
  | .snoopRetry off dst => Sys2Proof.Machine.execSnoopRetry off dst s
  | .snoopTimeout off dst => Sys2Proof.Machine.execSnoopTimeout off dst s
  | .filterSweepEnd dst => Sys2Proof.Machine.execFilterSweepEnd dst s
  | .cxlMemrd m value => Sys2Proof.Machine.execCxlMemrd m value s
  | .cxlMemrddata m => Sys2Proof.Machine.execCxlMemrddata m s
  | .cxlMemwr m data poison => Sys2Proof.Machine.execCxlMemwr m data poison s
  | .cxlMemwrptl m data mask poison => Sys2Proof.Machine.execCxlMemwrptl m data mask poison s
  | .memclnevct m => Sys2Proof.Machine.execMemclnevct m s
  | .memspecrd m => Sys2Proof.Machine.execMemspecrd m s
  | .meminv m => Sys2Proof.Machine.execMeminv m s
  | .birspi p off stag => Sys2Proof.Machine.execBirspi p off stag s
  | .birsps p off stag => Sys2Proof.Machine.execBirsps p off stag s
  | .birspe p off stag => Sys2Proof.Machine.execBirspe p off stag s
  | .biconflict p off => Sys2Proof.Machine.execBiconflict p off s
  | .fenceall p src => Sys2Proof.Machine.execFenceall p src s
  | .fencewr p src => Sys2Proof.Machine.execFencewr p src s
  | .fencesync p src => Sys2Proof.Machine.execFencesync p src s
  | .requestRetire src tag => Sys2Proof.Machine.execRequestRetire src tag s
  | .heldRequestRelease src tag => Sys2Proof.Machine.execHeldRequestRelease src tag s
  | .atomcomb r => Sys2Proof.Machine.execAtomcomb r s
  | .cmpcomb p tag results poison => Sys2Proof.Machine.execCmpcomb p tag results poison s
  | .atomretire p src key home rseq => Sys2Proof.Machine.execAtomretire p src key home rseq s
  | .atomicWindowRelease src tag => Sys2Proof.Machine.execAtomicWindowRelease src tag s
  | .replayEntryFree part => Sys2Proof.Machine.execReplayEntryFree part s
  | .farEnter off => Sys2Proof.Machine.execFarEnter off s
  | .farLineOp off => Sys2Proof.Machine.execFarLineOp off s
  | .farQuietExpire off => Sys2Proof.Machine.execFarQuietExpire off s
  | .farExitDone off => Sys2Proof.Machine.execFarExitDone off s
  | .forwardedDescriptor sw h key desc => Sys2Proof.Machine.execForwardedDescriptor sw h key desc s
  | .shelfCreate h => Sys2Proof.Machine.execShelfCreate h s
  | .shelfOpen h => Sys2Proof.Machine.execShelfOpen h s
  | .shelfClose h => Sys2Proof.Machine.execShelfClose h s
  | .draftBegin h => Sys2Proof.Machine.execDraftBegin h s
  | .draftPublish h => Sys2Proof.Machine.execDraftPublish h s
  | .draftDiscard h => Sys2Proof.Machine.execDraftDiscard h s
  | .publishRecallEnd h => Sys2Proof.Machine.execPublishRecallEnd h s
  | .publishDecide h => Sys2Proof.Machine.execPublishDecide h s
  | .publishCommit h => Sys2Proof.Machine.execPublishCommit h s
  | .slotFree shelf slot => Sys2Proof.Machine.execSlotFree shelf slot s
  | .cowCopyDone page => Sys2Proof.Machine.execCowCopyDone page s
  | .versionReclaim shelf version => Sys2Proof.Machine.execVersionReclaim shelf version s
  | .drawerCreate h => Sys2Proof.Machine.execDrawerCreate h s
  | .drawerOffer h => Sys2Proof.Machine.execDrawerOffer h s
  | .drawerAccept h => Sys2Proof.Machine.execDrawerAccept h s
  | .drawerRelease h => Sys2Proof.Machine.execDrawerRelease h s
  | .drawerLease h => Sys2Proof.Machine.execDrawerLease h s
  | .drawerLeaseQuery h => Sys2Proof.Machine.execDrawerLeaseQuery h s
  | .drawerRecallEnd d => Sys2Proof.Machine.execDrawerRecallEnd d s
  | .drawerOfferDeadline d => Sys2Proof.Machine.execDrawerOfferDeadline d s
  | .drawerLeaseExpiry d => Sys2Proof.Machine.execDrawerLeaseExpiry d s
  | .drawerReleaseDone d => Sys2Proof.Machine.execDrawerReleaseDone d s
  | .place h => Sys2Proof.Machine.execPlace h s
  | .winchWindow h => Sys2Proof.Machine.execWinchWindow h s
  | .winchWindowClose h => Sys2Proof.Machine.execWinchWindowClose h s
  | .winchAdvance h => Sys2Proof.Machine.execWinchAdvance h s
  | .migrate h => Sys2Proof.Machine.execMigrate h s
  | .flush h => Sys2Proof.Machine.execFlush h s
  | .stackEvacuate h => Sys2Proof.Machine.execStackEvacuate h s
  | .copy h => Sys2Proof.Machine.execCopy h s
  | .fill h => Sys2Proof.Machine.execFill h s
  | .fillLazy h => Sys2Proof.Machine.execFillLazy h s
  | .lazyFillPageDone page r => Sys2Proof.Machine.execLazyFillPageDone page r s
  | .winchUnitIssue e => Sys2Proof.Machine.execWinchUnitIssue e s
  | .winchUnitDone op r => Sys2Proof.Machine.execWinchUnitDone op r s
  | .chunkCopied op range => Sys2Proof.Machine.execChunkCopied op range s
  | .chunkDrained op range => Sys2Proof.Machine.execChunkDrained op range s
  | .writebackAgeExpire page => Sys2Proof.Machine.execWritebackAgeExpire page s
  | .journalProgress op => Sys2Proof.Machine.execJournalProgress op s
  | .ctableLoad h => Sys2Proof.Machine.execCtableLoad h s
  | .build h => Sys2Proof.Machine.execBuild h s
  | .buildEncode h => Sys2Proof.Machine.execBuildEncode h s
  | .encode h => Sys2Proof.Machine.execEncode h s
  | .expand h => Sys2Proof.Machine.execExpand h s
  | .release h => Sys2Proof.Machine.execRelease h s
  | .ctableRetire h => Sys2Proof.Machine.execCtableRetire h s
  | .ctableRetireRecode h => Sys2Proof.Machine.execCtableRetireRecode h s
  | .blockRefetch off good => Sys2Proof.Machine.execBlockRefetch off good s
  | .refreshDue st b => Sys2Proof.Machine.execRefreshDue st b s
  | .preemptionPoint st b => Sys2Proof.Machine.execPreemptionPoint st b s
  | .tempSample st t => Sys2Proof.Machine.execTempSample st t s
  | .dramReread off good => Sys2Proof.Machine.execDramReread off good s
  | .rowSpareCopyDone st b d => Sys2Proof.Machine.execRowSpareCopyDone st b d s
  | .bankReplaceCopyDone st b good => Sys2Proof.Machine.execBankReplaceCopyDone st b good s
  | .patrolScrub st b d ecc => Sys2Proof.Machine.execPatrolScrub st b d ecc s
  | .stackUnreadable st => Sys2Proof.Machine.execStackUnreadable st s
  | .bauPlace h => Sys2Proof.Machine.execBauPlace h s
  | .bauPlaceRelease h => Sys2Proof.Machine.execBauPlaceRelease h s
  | .bauLaunch h => Sys2Proof.Machine.execBauLaunch h s
  | .bauHoldsInstalled st b => Sys2Proof.Machine.execBauHoldsInstalled st b s
  | .bauSequenceStart st b => Sys2Proof.Machine.execBauSequenceStart st b s
  | .bauQuantumGrant st b => Sys2Proof.Machine.execBauQuantumGrant st b s
  | .bauQuantumFault st b good => Sys2Proof.Machine.execBauQuantumFault st b good s
  | .bauSequenceEnd st b => Sys2Proof.Machine.execBauSequenceEnd st b s
  | .bauLi st b => Sys2Proof.Machine.execBauLi st b s
  | .bauAddi st b => Sys2Proof.Machine.execBauAddi st b s
  | .bauSetc st b => Sys2Proof.Machine.execBauSetc st b s
  | .bauLoop st b => Sys2Proof.Machine.execBauLoop st b s
  | .bauSetf st b => Sys2Proof.Machine.execBauSetf st b s
  | .bauEnd st b => Sys2Proof.Machine.execBauEnd st b s
  | .bauLds st b => Sys2Proof.Machine.execBauLds st b s
  | .bauMv st b => Sys2Proof.Machine.execBauMv st b s
  | .bauScore st b => Sys2Proof.Machine.execBauScore st b s
  | .bauSmx st b => Sys2Proof.Machine.execBauSmx st b s
  | .bauMvt st b => Sys2Proof.Machine.execBauMvt st b s
  | .bauAttn st b => Sys2Proof.Machine.execBauAttn st b s
  | .bauZacc st b => Sys2Proof.Machine.execBauZacc st b s
  | .bauMulf st b => Sys2Proof.Machine.execBauMulf st b s
  | .bauMulv st b => Sys2Proof.Machine.execBauMulv st b s
  | .bauNorm st b => Sys2Proof.Machine.execBauNorm st b s
  | .bauSt st b => Sys2Proof.Machine.execBauSt st b s
  | .bauSts st b => Sys2Proof.Machine.execBauSts st b s
  | .kernelLoad h => Sys2Proof.Machine.execKernelLoad h s
  | .kernelUnload h => Sys2Proof.Machine.execKernelUnload h s
  | .kernelLaunch h => Sys2Proof.Machine.execKernelLaunch h s
  | .trReduce h => Sys2Proof.Machine.execTrReduce h s
  | .trGather h => Sys2Proof.Machine.execTrGather h s
  | .trScatter h => Sys2Proof.Machine.execTrScatter h s
  | .trFilter h => Sys2Proof.Machine.execTrFilter h s
  | .gangDispatch u => Sys2Proof.Machine.execGangDispatch u s
  | .gangResultArrive u g r => Sys2Proof.Machine.execGangResultArrive u g r s
  | .chunkTimeLimit u g => Sys2Proof.Machine.execChunkTimeLimit u g s
  | .trestleFault u lost => Sys2Proof.Machine.execTrestleFault u lost s
  | .launchCommit h => Sys2Proof.Machine.execLaunchCommit h s
  | .trestleLi u g => Sys2Proof.Machine.execTrestleLi u g s
  | .trestleLih u g => Sys2Proof.Machine.execTrestleLih u g s
  | .trestleAdd u g => Sys2Proof.Machine.execTrestleAdd u g s
  | .trestleSub u g => Sys2Proof.Machine.execTrestleSub u g s
  | .trestleMul u g => Sys2Proof.Machine.execTrestleMul u g s
  | .trestleDivu u g => Sys2Proof.Machine.execTrestleDivu u g s
  | .trestleAnd u g => Sys2Proof.Machine.execTrestleAnd u g s
  | .trestleOr u g => Sys2Proof.Machine.execTrestleOr u g s
  | .trestleXor u g => Sys2Proof.Machine.execTrestleXor u g s
  | .trestleShl u g => Sys2Proof.Machine.execTrestleShl u g s
  | .trestleShr u g => Sys2Proof.Machine.execTrestleShr u g s
  | .trestleMinmax u g => Sys2Proof.Machine.execTrestleMinmax u g s
  | .trestleCmp u g => Sys2Proof.Machine.execTrestleCmp u g s
  | .trestleSel u g => Sys2Proof.Machine.execTrestleSel u g s
  | .trestlePopc u g => Sys2Proof.Machine.execTrestlePopc u g s
  | .trestleSpecial u g => Sys2Proof.Machine.execTrestleSpecial u g s
  | .trestleFadd u g => Sys2Proof.Machine.execTrestleFadd u g s
  | .trestleFmul u g => Sys2Proof.Machine.execTrestleFmul u g s
  | .trestleFfma u g => Sys2Proof.Machine.execTrestleFfma u g s
  | .trestleFminmax u g => Sys2Proof.Machine.execTrestleFminmax u g s
  | .trestleFcmp u g => Sys2Proof.Machine.execTrestleFcmp u g s
  | .trestleCvt u g => Sys2Proof.Machine.execTrestleCvt u g s
  | .trestleBr u g => Sys2Proof.Machine.execTrestleBr u g s
  | .trestleIf u g => Sys2Proof.Machine.execTrestleIf u g s
  | .trestleElse u g => Sys2Proof.Machine.execTrestleElse u g s
  | .trestleEndif u g => Sys2Proof.Machine.execTrestleEndif u g s
  | .trestleChunk u g => Sys2Proof.Machine.execTrestleChunk u g s
  | .trestleFence u g => Sys2Proof.Machine.execTrestleFence u g s
  | .trestleEnd u g => Sys2Proof.Machine.execTrestleEnd u g s
  | .trestleLd u g => Sys2Proof.Machine.execTrestleLd u g s
  | .trestleSt u g => Sys2Proof.Machine.execTrestleSt u g s
  | .trestleAtom u g => Sys2Proof.Machine.execTrestleAtom u g s
  | .trestleVld u g => Sys2Proof.Machine.execTrestleVld u g s
  | .trestleVst u g => Sys2Proof.Machine.execTrestleVst u g s
  | .trestleVadd u g => Sys2Proof.Machine.execTrestleVadd u g s
  | .trestleVmul u g => Sys2Proof.Machine.execTrestleVmul u g s
  | .trestleVfma u g => Sys2Proof.Machine.execTrestleVfma u g s
  | .trestleVminmax u g => Sys2Proof.Machine.execTrestleVminmax u g s
  | .trestleVdot u g => Sys2Proof.Machine.execTrestleVdot u g s
  | .trestleVcvt u g => Sys2Proof.Machine.execTrestleVcvt u g s
  | .trestleVred u g => Sys2Proof.Machine.execTrestleVred u g s
  | .trestleVcmp u g => Sys2Proof.Machine.execTrestleVcmp u g s
  | .trestleVcmprs u g => Sys2Proof.Machine.execTrestleVcmprs u g s
  | .trestleVbcast u g => Sys2Proof.Machine.execTrestleVbcast u g s
  | .trestleVpack u g => Sys2Proof.Machine.execTrestleVpack u g s
  | .trestleVunpack u g => Sys2Proof.Machine.execTrestleVunpack u g s
  | .trainCreate h => Sys2Proof.Machine.execTrainCreate h s
  | .trainEdit h => Sys2Proof.Machine.execTrainEdit h s
  | .trainDelete h => Sys2Proof.Machine.execTrainDelete h s
  | .trainEntryDistribute e => Sys2Proof.Machine.execTrainEntryDistribute e s
  | .barrier h => Sys2Proof.Machine.execBarrier h s
  | .bcast h => Sys2Proof.Machine.execBcast h s
  | .reduce h => Sys2Proof.Machine.execReduce h s
  | .allreduce h => Sys2Proof.Machine.execAllreduce h s
  | .allgather h => Sys2Proof.Machine.execAllgather h s
  | .reduceScatter h => Sys2Proof.Machine.execReduceScatter h s
  | .mcast h => Sys2Proof.Machine.execMcast h s
  | .segmentArrive g => Sys2Proof.Machine.execSegmentArrive g s
  | .transitHop p k => Sys2Proof.Machine.execTransitHop p k s
  | .pathUpdate h => Sys2Proof.Machine.execPathUpdate h s
  | .pathmark p bridle tc src => Sys2Proof.Machine.execPathmark p bridle tc src s
  | .markack bridle tc => Sys2Proof.Machine.execMarkack bridle tc s
  | .tetherOpen h => Sys2Proof.Machine.execTetherOpen h s
  | .tetherClose h => Sys2Proof.Machine.execTetherClose h s
  | .tetherEntryInstall e => Sys2Proof.Machine.execTetherEntryInstall e s
  | .portDownFenceTimeout p => Sys2Proof.Machine.execPortDownFenceTimeout p s
  | .trunkActiveReport sw p peer peerPort => Sys2Proof.Machine.execTrunkActiveReport sw p peer peerPort s
  | .cellIngress k c => Sys2Proof.Machine.execCellIngress k c s
  | .stageCreditReturn i1 m e tc => Sys2Proof.Machine.execStageCreditReturn i1 m e tc s
  | .middlePull k e => Sys2Proof.Machine.execMiddlePull k e s
  | .resequenceCell p src tc seq => Sys2Proof.Machine.execResequenceCell p src tc seq s
  | .bufferRowFault k bad => Sys2Proof.Machine.execBufferRowFault k bad s
  | .sliceFault k => Sys2Proof.Machine.execSliceFault k s
  | .sliceTakeoverDone => Sys2Proof.Machine.execSliceTakeoverDone s
  | .throttleIncreaseTick => Sys2Proof.Machine.execThrottleIncreaseTick s
  | .throttleRelease src tag => Sys2Proof.Machine.execThrottleRelease src tag s
  | .wredDepthPublish k => Sys2Proof.Machine.execWredDepthPublish k s
  | .egressSchedule p => Sys2Proof.Machine.execEgressSchedule p s
  | .telemetrySample p => Sys2Proof.Machine.execTelemetrySample p s
  | .portTelSnap p => Sys2Proof.Machine.execPortTelSnap p s
  | .flitReceive p f => Sys2Proof.Machine.execFlitReceive p f s
  | .superframeMarker p m => Sys2Proof.Machine.execSuperframeMarker p m s
  | .idle p => Sys2Proof.Machine.execIdle p s
  | .nak p fseq => Sys2Proof.Machine.execNak p fseq s
  | .credit p ch value => Sys2Proof.Machine.execCredit p ch value s
  | .config p c => Sys2Proof.Machine.execConfig p c s
  | .laneReq p lane op => Sys2Proof.Machine.execLaneReq p lane op s
  | .laneAck p lane => Sys2Proof.Machine.execLaneAck p lane s
  | .retrainReq p => Sys2Proof.Machine.execRetrainReq p s
  | .ts1 p b => Sys2Proof.Machine.execTs1 p b s
  | .ts2 p b => Sys2Proof.Machine.execTs2 p b s
  | .trainingTimeout p => Sys2Proof.Machine.execTrainingTimeout p s
  | .trainRetryTimer p => Sys2Proof.Machine.execTrainRetryTimer p s
  | .replayTimeout p => Sys2Proof.Machine.execReplayTimeout p s
  | .nakRepeat p => Sys2Proof.Machine.execNakRepeat p s
  | .ackTimer p => Sys2Proof.Machine.execAckTimer p s
  | .spareRxAdapted p => Sys2Proof.Machine.execSpareRxAdapted p s
  | .laneReplaceTimeout p => Sys2Proof.Machine.execLaneReplaceTimeout p s
  | .linkEn p on => Sys2Proof.Machine.execLinkEn p on s
  | .retrain p => Sys2Proof.Machine.execRetrain p s
  | .fullRetrain p => Sys2Proof.Machine.execFullRetrain p s
  | .roll p => Sys2Proof.Machine.execRoll p s
  | .portReset p => Sys2Proof.Machine.execPortReset p s
  | .epmsg p dst tc flow key colour data => Sys2Proof.Machine.execEpmsg p dst tc flow key colour data s
  | .cxlLinkTrained p flit256 rate lopt width => Sys2Proof.Machine.execCxlLinkTrained p flit256 rate lopt width s
  | .cxlLinkDown p => Sys2Proof.Machine.execCxlLinkDown p s
  | .functionLevelReset p => Sys2Proof.Machine.execFunctionLevelReset p s
  | .biEnable p cap => Sys2Proof.Machine.execBiEnable p cap s
  | .ideEstablished p => Sys2Proof.Machine.execIdeEstablished p s
  | .ideFail p => Sys2Proof.Machine.execIdeFail p s
  | .trayBringup p t => Sys2Proof.Machine.execTrayBringup p t s
  | .trayResponse p off r => Sys2Proof.Machine.execTrayResponse p off r s
  | .trayResponseTimeout p off => Sys2Proof.Machine.execTrayResponseTimeout p off s
  | .trayEventLogPoll p events => Sys2Proof.Machine.execTrayEventLogPoll p events s
  | .getInfo => Sys2Proof.Machine.execGetInfo s
  | .imageLoad r => Sys2Proof.Machine.execImageLoad r s
  | .imageActivate => Sys2Proof.Machine.execImageActivate s
  | .svnCommit => Sys2Proof.Machine.execSvnCommit s
  | .pmKeySet => Sys2Proof.Machine.execPmKeySet s
  | .pmLoad r => Sys2Proof.Machine.execPmLoad r s
  | .pmUnload => Sys2Proof.Machine.execPmUnload s
  | .pmStatus => Sys2Proof.Machine.execPmStatus s
  | .pmQuantumTick core => Sys2Proof.Machine.execPmQuantumTick core s
  | .pmQueueSubmit key desc => Sys2Proof.Machine.execPmQueueSubmit key desc s
  | .settleCoreFault core l2 => Sys2Proof.Machine.execSettleCoreFault core l2 s
  | .watchdogReport => Sys2Proof.Machine.execWatchdogReport s
  | .watchdogExpire => Sys2Proof.Machine.execWatchdogExpire s
  | .fenceDomain h => Sys2Proof.Machine.execFenceDomain h s
  | .unfenceDomain h => Sys2Proof.Machine.execUnfenceDomain h s
  | .spareQuery h => Sys2Proof.Machine.execSpareQuery h s
  | .fenceNotice n => Sys2Proof.Machine.execFenceNotice n s
  | .domAlert i1 => Sys2Proof.Machine.execDomAlert i1 s
  | .winchEngineFault e => Sys2Proof.Machine.execWinchEngineFault e s
  | .compressionEngineFault i1 => Sys2Proof.Machine.execCompressionEngineFault i1 s
  | .porstN level => Sys2Proof.Machine.execPorstN level s
  | .cold => Sys2Proof.Machine.execCold s
  | .warmRstN level => Sys2Proof.Machine.execWarmRstN level s
  | .warm => Sys2Proof.Machine.execWarm s
  | .tenant key => Sys2Proof.Machine.execTenant key s
  | .island kind index => Sys2Proof.Machine.execIsland kind index s
  | .quiesceEnd => Sys2Proof.Machine.execQuiesceEnd s
  | .warmRestart => Sys2Proof.Machine.execWarmRestart s
  | .deviceOpen => Sys2Proof.Machine.execDeviceOpen s
  | .perstN level => Sys2Proof.Machine.execPerstN level s
  | .startupTestDone t => Sys2Proof.Machine.execStartupTestDone t s
  | .refclkLost r => Sys2Proof.Machine.execRefclkLost r s
  | .refclkRestored r => Sys2Proof.Machine.execRefclkRestored r s
  | .timeDistribute elapsed => Sys2Proof.Machine.execTimeDistribute elapsed s
  | .ppsInEdge => Sys2Proof.Machine.execPpsInEdge s
  | .ptpMessage domain udp tagged secs offset => Sys2Proof.Machine.execPtpMessage domain udp tagged secs offset s
  | .globalTimeSet secs => Sys2Proof.Machine.execGlobalTimeSet secs s
  | .ppsOutSecond => Sys2Proof.Machine.execPpsOutSecond s
  | .railExcursion rail => Sys2Proof.Machine.execRailExcursion rail s
  | .railExcursionLimit rail => Sys2Proof.Machine.execRailExcursionLimit rail s
  | .vddAonLoss => Sys2Proof.Machine.execVddAonLoss s
  | .swThermalAlert sensor t => Sys2Proof.Machine.execSwThermalAlert sensor t s
  | .thermtrip => Sys2Proof.Machine.execThermtrip s
  | .avsPoll ma => Sys2Proof.Machine.execAvsPoll ma s
  | .avsTargetStep rail mv ok => Sys2Proof.Machine.execAvsTargetStep rail mv ok s
  | .deviceSnapshot => Sys2Proof.Machine.execDeviceSnapshot s
  | .arpRequest f => Sys2Proof.Machine.execArpRequest f s
  | .phyPoll up sync => Sys2Proof.Machine.execPhyPoll up sync s
  | .domAlertRelease i1 => Sys2Proof.Machine.execDomAlertRelease i1 s
  | .swAlertClear => Sys2Proof.Machine.execSwAlertClear s
  | .railReturn rail => Sys2Proof.Machine.execRailReturn rail s
  | .islandResetDone => Sys2Proof.Machine.execIslandResetDone s
  | .portIslandFault p => Sys2Proof.Machine.execPortIslandFault p s
  | .mgmtIslandFault => Sys2Proof.Machine.execMgmtIslandFault s
  | .stackBaseLogicFault st => Sys2Proof.Machine.execStackBaseLogicFault st s
  | .laneAdaptationLoss p lane => Sys2Proof.Machine.execLaneAdaptationLoss p lane s

end Sys2Proof.Machine
end

