-- ==== Sys2Proof/Safety.lean ====
section
/-! DEFINITION. What a sound state is, the parts of a state, and what it is for a command to run, in the terms that statements use. -/

namespace Sys2Proof.Machine

/-- Pool memory is in its canonical form: addresses strictly rising, no byte listed that equals what an unlisted one reads as. -/
def State.Inv (s : State) : Prop := memWf s.pool.cells = true

/-- `s` answers a next state to a command, and that state has `P`. -/
def Runs (c : Instr) (s : State) (P : State → Prop) : Prop := ∃ t, exec c s = .next t ∧ P t

/-- The state after a request that its port admits has come in (R60, R65): its credit is returned, it takes its place in the order of arrivals,
and it goes on past the key check. -/
def Entered (s : State) (r : Req) : State :=
  let t := creditBack s r.port.val r.tc.toNat
  let q := { r with num := s.ord.arrivals, ro := false, ext := none, checked := if isHostPort s r.port.val then none else r.checked }
  pastKey (noteOut { t with ord := { t.ord with arrivals := s.ord.arrivals + 1 } } q) q

/-- A CXL port takes a CXL.mem request to a mapped address: it serves, it coordinates by BI, and its key is a tenant's in its table (R112, R440, R441). -/
def CxlTakes (s : State) (m : CxlReq) (off : Nat) : Prop :=
  cxlServes s m.port.val = true ∧ (cxlOf s m.port.val).biEn = true ∧ cxlKeyOk s m.port.val = true ∧ hpaToPool s m.port.val m.hpa.toNat = some off

/-- The parts of a state: every field of State, the pool's fields one by one. -/
inductive Part where
  | now | draws | regs | out | pending | rings | mgmt | coh | ord | atm | obj | tier
  | cmp | stk | bau | trs | train | route | core | cong | link | ras | sys | settle
  | pwr | tenants | extents | mapGen | undrained | affected | history | compOrder | ready | openGen | pages | backs
  | nextBack | cells | poisonLines | toFree | scrub | flights | quotaOps | xlate | extCache | xlateWait | lastAgeTick | freeing
  deriving DecidableEq, Repr

/-- A part has in `t` what it has in `s`. -/
def Part.Kept : Part → State → State → Prop
  | .now, s, t => t.now = s.now
  | .draws, s, t => t.draws = s.draws
  | .regs, s, t => t.regs = s.regs
  | .out, s, t => t.out = s.out
  | .pending, s, t => t.pending = s.pending
  | .rings, s, t => t.rings = s.rings
  | .mgmt, s, t => t.mgmt = s.mgmt
  | .coh, s, t => t.coh = s.coh
  | .ord, s, t => t.ord = s.ord
  | .atm, s, t => t.atm = s.atm
  | .obj, s, t => t.obj = s.obj
  | .tier, s, t => t.tier = s.tier
  | .cmp, s, t => t.cmp = s.cmp
  | .stk, s, t => t.stk = s.stk
  | .bau, s, t => t.bau = s.bau
  | .trs, s, t => t.trs = s.trs
  | .train, s, t => t.train = s.train
  | .route, s, t => t.route = s.route
  | .core, s, t => t.core = s.core
  | .cong, s, t => t.cong = s.cong
  | .link, s, t => t.link = s.link
  | .ras, s, t => t.ras = s.ras
  | .sys, s, t => t.sys = s.sys
  | .settle, s, t => t.settle = s.settle
  | .pwr, s, t => t.pwr = s.pwr
  | .tenants, s, t => t.pool.tenants = s.pool.tenants
  | .extents, s, t => t.pool.extents = s.pool.extents
  | .mapGen, s, t => t.pool.gen = s.pool.gen
  | .undrained, s, t => t.pool.undrained = s.pool.undrained
  | .affected, s, t => t.pool.affected = s.pool.affected
  | .history, s, t => t.pool.history = s.pool.history
  | .compOrder, s, t => t.pool.compOrder = s.pool.compOrder
  | .ready, s, t => t.pool.ready = s.pool.ready
  | .openGen, s, t => t.pool.open_ = s.pool.open_
  | .pages, s, t => t.pool.pages = s.pool.pages
  | .backs, s, t => t.pool.backs = s.pool.backs
  | .nextBack, s, t => t.pool.nextBack = s.pool.nextBack
  | .cells, s, t => t.pool.cells = s.pool.cells
  | .poisonLines, s, t => t.pool.poisonLines = s.pool.poisonLines
  | .toFree, s, t => t.pool.toFree = s.pool.toFree
  | .scrub, s, t => t.pool.scrub = s.pool.scrub
  | .flights, s, t => t.pool.flights = s.pool.flights
  | .quotaOps, s, t => t.pool.quotaOps = s.pool.quotaOps
  | .xlate, s, t => t.pool.xlate = s.pool.xlate
  | .extCache, s, t => t.pool.extCache = s.pool.extCache
  | .xlateWait, s, t => t.pool.xlateWait = s.pool.xlateWait
  | .lastAgeTick, s, t => t.pool.lastAgeTick = s.pool.lastAgeTick
  | .freeing, s, t => t.pool.freeing = s.pool.freeing

/-- Every part that `ps` does not list is unchanged from `s` to `t`. -/
def OnlyParts (ps : List Part) (s t : State) : Prop := ∀ p : Part, p ∉ ps → p.Kept s t

/-- The parts that a command may change. -/
def touches : Instr → List Part
  | .registerWrite _ _ _ =>
    [.regs, .out, .mgmt, .atm, .cong, .link, .sys, .settle]
  | .lowWordRead _ _ | .deviceSnapshot =>
    [.regs, .out, .mgmt]
  | .setupOpenClose _ _ =>
    [.regs, .out, .rings, .mgmt, .ord, .atm, .cong, .link, .sys, .flights, .xlateWait]
  | .serve | .domAlert _ =>
    [.regs, .out, .rings, .coh, .ord, .atm, .obj, .tier, .train, .route, .core, .cong, .link, .ras, .sys, .settle, .compOrder, .pages, .backs,
     .nextBack, .cells, .poisonLines]
  | .tenantCtlWrite _ _ =>
    [.tenants]
  | .portKeyWrite _ _ _ | .wredProfileWrite _ _ _ | .memspecrd _ | .portTelSnap _ =>
    [.regs]
  | .policerWrite _ _ _ _ =>
    [.regs, .cong]
  | .boardRead _ | .msixUnmask _ | .meminv _ | .arpRequest _ =>
    [.regs, .out]
  | .boardWrite _ _ =>
    [.regs, .out, .mgmt, .atm, .cong, .link, .sys]
  | .jtagInstruction _ =>
    [.out, .mgmt]
  | .ringEnable _ | .resume _ | .completionRecordWrite _ _ =>
    [.regs, .out, .rings, .train, .route, .settle]
  | .ringDisable _ | .notification _ | .heldRecordDrop _ | .nop _ | .abort _ | .queryHandle _ | .forwardedDescriptor _ _ _ _ | .spareQuery _ =>
    [.regs, .out, .rings]
  | .ringDrained _ | .hostImageReadDone _ _ =>
    [.rings]
  | .doorbell _ _ _ =>
    [.regs, .out, .rings, .ord, .link]
  | .descriptorFetch _ =>
    [.out, .rings]
  | .descriptorArrive _ _ =>
    [.regs, .out, .rings, .compOrder]
  | .latchSet _ _ =>
    [.regs, .out, .rings, .coh, .train, .route]
  | .abortStopPoint _ =>
    [.regs, .out, .rings, .coh, .atm, .obj, .tier, .cmp, .bau, .trs, .route, .link, .compOrder, .ready, .openGen, .pages, .backs, .nextBack, .cells,
     .poisonLines, .flights, .quotaOps]
  | .extentCreate _ | .extentGrant _ | .extentRevoke _ | .extentResize _ | .mapCommit _ =>
    [.regs, .out, .rings, .tier, .compOrder, .ready, .pages, .backs, .nextBack]
  | .quotaSet _ =>
    [.regs, .out, .rings, .tier, .tenants, .quotaOps]
  | .quotaDemotionEnd _ =>
    [.rings, .tier, .quotaOps]
  | .mapGenPublish =>
    [.regs, .out, .rings, .coh, .tier, .ras, .extents, .mapGen, .undrained, .affected, .history, .compOrder, .ready, .openGen, .pages, .backs,
     .nextBack]
  | .generationDrained _ =>
    [.undrained, .affected]
  | .compositionComplete _ =>
    [.regs, .out, .rings, .coh, .atm, .tier, .cmp, .bau, .openGen, .backs, .cells, .poisonLines, .toFree, .freeing]
  | .pageFreeScrub _ =>
    [.tier, .pages, .backs, .cells, .poisonLines, .toFree, .scrub]
  | .xlateCacheFill _ _ _ =>
    [.regs, .out, .coh, .ord, .atm, .tier, .route, .cong, .backs, .flights, .xlate, .extCache, .xlateWait]
  | .pageAgeTick =>
    [.draws, .regs, .out, .tier, .settle, .backs, .lastAgeTick]
  | .requestIngress _ | .cxlMemrd _ _ | .cxlMemrddata _ | .cxlMemwr _ _ _ | .cxlMemwrptl _ _ _ _ =>
    [.regs, .out, .coh, .ord, .atm, .tier, .route, .cong, .link, .backs, .flights, .xlateWait]
  | .rdnc _ _ | .rdshared _ _ | .rdown _ _ | .atomnear _ _ | .wrline _ _ | .wrptl _ _ | .atomfar _ _ | .trackerFree _ | .waitQueueTakeUp _ |
    .replayEntryFree _ =>
    [.regs, .out, .coh, .atm, .obj, .tier, .route, .link, .pages, .backs, .nextBack, .poisonLines, .flights]
  | .wbdirty _ _ _ _ =>
    [.regs, .out, .coh, .ord, .tier, .route, .link, .backs]
  | .rspi _ | .rspiwb _ | .rspidata _ _ _ | .rsps _ | .rspsdata _ _ _ | .rspcur _ | .rspcurdata _ _ _ | .birspi _ _ _ | .birsps _ _ _ | .birspe _ _ _ =>
    [.regs, .out, .rings, .coh, .tier, .route, .link, .ras, .settle, .backs]
  | .gntack _ =>
    [.regs, .out, .coh, .route, .link]
  | .recallSnoopIssue _ | .snoopRetry _ _ =>
    [.regs, .out, .coh, .route]
  | .memoryReadDone _ _ =>
    [.regs, .out, .rings, .coh, .tier, .cmp, .stk, .bau, .route, .link, .ras, .settle, .backs]
  | .memoryWriteDone _ =>
    [.regs, .coh, .atm, .bau, .backs, .cells, .poisonLines]
  | .ringBroadcastResponse _ _ _ =>
    [.regs, .out, .rings, .coh, .tier, .trs, .route, .link, .ras, .settle, .backs]
  | .snoopTimeout _ _ | .portDownFenceTimeout _ | .trayResponseTimeout _ _ | .fenceDomain _ | .fenceNotice _ | .portIslandFault _ =>
    [.regs, .out, .rings, .coh, .ord, .atm, .obj, .tier, .train, .route, .core, .cong, .link, .ras, .settle, .compOrder, .pages, .backs, .nextBack,
     .cells, .poisonLines]
  | .filterSweepEnd _ =>
    [.coh]
  | .memclnevct _ =>
    [.regs, .coh]
  | .biconflict _ _ =>
    [.regs, .out, .coh]
  | .fenceall _ _ | .fencewr _ _ | .fencesync _ _ =>
    [.out, .ord]
  | .requestRetire _ _ =>
    [.regs, .out, .rings, .coh, .ord, .route, .cong, .flights]
  | .heldRequestRelease _ _ | .atomicWindowRelease _ _ | .throttleRelease _ _ =>
    [.regs, .out, .coh, .ord, .atm, .route, .cong]
  | .atomcomb _ =>
    [.regs, .out, .coh, .ord, .atm, .obj, .tier, .route, .cong, .link, .pages, .backs, .nextBack, .poisonLines, .flights, .xlateWait]
  | .cmpcomb _ _ _ _ =>
    [.coh, .atm]
  | .atomretire _ _ _ _ _ =>
    [.regs, .out, .atm, .route, .link]
  | .farEnter _ =>
    [.regs, .coh, .atm]
  | .farLineOp _ =>
    [.regs, .out, .coh, .atm, .obj, .tier, .pages, .backs, .nextBack, .poisonLines, .flights]
  | .farQuietExpire _ =>
    [.regs, .atm]
  | .farExitDone _ =>
    [.regs, .atm, .backs, .cells, .poisonLines]
  | .shelfCreate _ | .drawerCreate _ | .drawerAccept _ | .drawerLease _ | .drawerLeaseQuery _ | .drawerOfferDeadline _ =>
    [.regs, .out, .rings, .obj]
  | .shelfOpen _ | .draftBegin _ =>
    [.regs, .out, .rings, .obj, .pages, .xlate]
  | .shelfClose _ | .draftDiscard _ | .drawerRelease _ =>
    [.regs, .out, .rings, .coh, .atm, .obj, .tier, .cmp, .bau, .backs]
  | .draftPublish _ | .drawerOffer _ | .drawerRecallEnd _ =>
    [.regs, .out, .rings, .coh, .obj]
  | .publishRecallEnd _ =>
    [.regs, .coh, .obj, .backs, .cells, .poisonLines]
  | .publishDecide _ =>
    [.regs, .rings, .coh, .obj]
  | .publishCommit _ =>
    [.regs, .out, .rings, .coh, .obj, .pages, .xlate]
  | .slotFree _ _ | .drawerReleaseDone _ =>
    [.rings, .coh, .obj, .pages, .backs, .scrub, .xlate]
  | .cowCopyDone _ =>
    [.regs, .out, .coh, .atm, .obj, .tier, .route, .link, .pages, .backs, .nextBack, .cells, .poisonLines, .flights, .xlate]
  | .versionReclaim _ _ =>
    [.obj, .backs, .scrub]
  | .drawerLeaseExpiry _ =>
    [.regs, .out, .rings, .coh, .atm, .obj, .tier, .cmp, .bau, .settle, .backs]
  | .place _ | .winchAdvance _ | .migrate _ | .flush _ | .stackEvacuate _ | .copy _ | .fill _ | .fillLazy _ | .build _ | .buildEncode _ | .encode _ |
    .expand _ | .ctableRetireRecode _ =>
    [.regs, .out, .rings, .tier, .cmp, .stk, .bau, .backs]
  | .winchWindow _ =>
    [.regs, .out, .rings, .tier, .cmp, .stk, .bau, .pages, .backs, .nextBack, .xlate]
  | .winchWindowClose _ =>
    [.regs, .out, .rings, .tier, .cmp, .backs]
  | .lazyFillPageDone _ _ | .winchUnitDone _ _ =>
    [.regs, .out, .rings, .coh, .atm, .obj, .tier, .cmp, .stk, .bau, .route, .link, .ras, .settle, .pages, .backs, .nextBack, .cells, .poisonLines,
     .flights]
  | .winchUnitIssue _ =>
    [.regs, .out, .rings, .coh, .tier, .cmp, .stk, .bau, .route, .backs, .flights]
  | .chunkCopied _ _ =>
    [.regs, .rings, .tier, .cmp, .stk, .bau, .backs, .quotaOps, .xlate]
  | .chunkDrained _ _ =>
    [.tier, .backs]
  | .writebackAgeExpire _ | .journalProgress _ =>
    [.tier]
  | .ctableLoad _ | .release _ | .ctableRetire _ =>
    [.regs, .out, .rings, .cmp]
  | .blockRefetch _ _ =>
    [.regs, .out, .rings, .coh, .tier, .ras, .settle, .poisonLines]
  | .refreshDue _ _ | .rowSpareCopyDone _ _ _ =>
    [.regs, .stk]
  | .preemptionPoint _ _ =>
    [.regs, .out, .rings, .coh, .atm, .stk, .bau, .ras, .settle, .backs, .cells, .poisonLines]
  | .tempSample _ _ =>
    [.regs, .out, .stk, .sys, .pwr]
  | .dramReread _ _ =>
    [.regs, .out, .rings, .coh, .tier, .cmp, .stk, .bau, .route, .link, .ras, .settle, .backs, .poisonLines]
  | .bankReplaceCopyDone _ _ _ =>
    [.regs, .rings, .coh, .atm, .tier, .cmp, .stk, .bau, .backs, .poisonLines, .flights]
  | .patrolScrub _ _ _ _ =>
    [.draws, .regs, .out, .rings, .tier, .cmp, .stk, .bau, .ras, .settle, .backs, .poisonLines]
  | .stackUnreadable _ | .bauQuantumFault _ _ _ =>
    [.regs, .out, .rings, .coh, .atm, .tier, .cmp, .stk, .bau, .ras, .settle, .backs, .poisonLines, .flights]
  | .bauPlace _ =>
    [.regs, .out, .rings, .tier, .cmp, .stk, .bau, .pages, .backs, .nextBack]
  | .bauPlaceRelease _ =>
    [.regs, .out, .rings, .tier, .cmp, .bau, .backs]
  | .bauLaunch _ | .bauSequenceStart _ _ =>
    [.regs, .out, .rings, .coh, .atm, .tier, .cmp, .bau, .route, .ras, .settle, .backs, .flights]
  | .bauHoldsInstalled _ _ =>
    [.regs, .rings, .coh, .atm, .obj, .tier, .cmp, .bau, .backs, .nextBack, .flights]
  | .bauQuantumGrant _ _ =>
    [.regs, .bau]
  | .bauSequenceEnd _ _ =>
    [.regs, .out, .rings, .coh, .atm, .tier, .cmp, .bau, .backs, .flights]
  | .bauLi _ _ | .bauAddi _ _ | .bauSetc _ _ | .bauLoop _ _ | .bauSetf _ _ | .bauLds _ _ | .bauMv _ _ | .bauScore _ _ | .bauSmx _ _ | .bauMvt _ _ |
    .bauAttn _ _ | .bauZacc _ _ | .bauMulf _ _ | .bauMulv _ _ | .bauNorm _ _ | .bauSt _ _ | .bauSts _ _ =>
    [.draws, .regs, .out, .rings, .coh, .atm, .tier, .cmp, .bau, .ras, .settle, .backs, .cells, .poisonLines, .flights]
  | .bauEnd _ _ =>
    [.regs, .rings, .coh, .atm, .stk, .bau, .backs, .cells, .poisonLines]
  | .kernelLoad _ | .trestleFault _ _ =>
    [.regs, .out, .rings, .trs, .ras, .settle]
  | .kernelUnload _ | .kernelLaunch _ | .trReduce _ | .trGather _ | .trScatter _ | .trFilter _ | .launchCommit _ =>
    [.regs, .out, .rings, .trs]
  | .gangDispatch _ | .gangResultArrive _ _ _ =>
    [.draws, .regs, .out, .rings, .coh, .ord, .atm, .tier, .trs, .route, .cong, .backs, .flights, .xlateWait]
  | .chunkTimeLimit _ _ | .trestleDivu _ _ | .trestleCmp _ _ | .trestleFcmp _ _ | .trestleBr _ _ | .trestleIf _ _ | .trestleElse _ _ |
    .trestleEndif _ _ | .trestleChunk _ _ | .trestleFence _ _ | .trestleEnd _ _ | .trestleLd _ _ | .trestleSt _ _ | .trestleAtom _ _ |
    .trestleVst _ _ | .trestleVred _ _ | .trestleVcmp _ _ | .trestleVunpack _ _ =>
    [.regs, .out, .rings, .coh, .ord, .atm, .tier, .trs, .route, .cong, .ras, .settle, .backs, .flights, .xlateWait]
  | .trestleLi _ _ | .trestleLih _ _ | .trestleAdd _ _ | .trestleSub _ _ | .trestleMul _ _ | .trestleAnd _ _ | .trestleOr _ _ | .trestleXor _ _ |
    .trestleShl _ _ | .trestleShr _ _ | .trestleMinmax _ _ | .trestleSel _ _ | .trestlePopc _ _ | .trestleSpecial _ _ | .trestleFadd _ _ |
    .trestleFmul _ _ | .trestleFfma _ _ | .trestleFminmax _ _ | .trestleCvt _ _ | .trestleVld _ _ | .trestleVadd _ _ | .trestleVmul _ _ |
    .trestleVfma _ _ | .trestleVminmax _ _ | .trestleVdot _ _ | .trestleVcvt _ _ | .trestleVcmprs _ _ | .trestleVbcast _ _ | .trestleVpack _ _ =>
    [.draws, .regs, .out, .rings, .coh, .ord, .atm, .tier, .trs, .route, .cong, .ras, .settle, .backs, .flights, .xlateWait]
  | .trainCreate _ | .trainEdit _ | .trainDelete _ | .trainEntryDistribute _ =>
    [.regs, .out, .rings, .coh, .atm, .obj, .tier, .train, .route, .pages, .backs, .nextBack, .cells, .poisonLines]
  | .barrier _ | .bcast _ | .reduce _ | .allreduce _ | .allgather _ | .reduceScatter _ | .mcast _ =>
    [.regs, .out, .rings, .train, .route]
  | .segmentArrive _ =>
    [.regs, .out, .rings, .coh, .atm, .obj, .tier, .train, .route, .link, .pages, .backs, .nextBack, .cells, .poisonLines]
  | .transitHop _ _ =>
    [.regs, .out, .rings, .coh, .ord, .atm, .tier, .route, .cong, .link, .ras, .settle, .backs, .flights, .xlateWait]
  | .pathUpdate _ =>
    [.regs, .out, .rings, .route, .cong, .ras, .settle]
  | .pathmark _ _ _ _ =>
    [.regs, .out, .route]
  | .markack _ _ =>
    [.regs, .out, .rings, .coh, .atm, .route, .cong]
  | .tetherOpen _ | .tetherClose _ | .tetherEntryInstall _ =>
    [.regs, .out, .rings, .route, .cong]
  | .trunkActiveReport _ _ _ _ | .domAlertRelease _ =>
    [.ras]
  | .cellIngress _ _ =>
    [.draws, .regs, .out, .core, .cong, .link]
  | .stageCreditReturn _ _ _ _ | .sliceTakeoverDone | .egressSchedule _ =>
    [.regs, .out, .core, .cong, .link]
  | .middlePull _ _ =>
    [.regs, .core, .cong]
  | .resequenceCell _ _ _ _ =>
    [.regs, .out, .core, .cong]
  | .bufferRowFault _ _ =>
    [.draws, .regs, .out, .rings, .core, .link, .ras, .sys, .settle]
  | .sliceFault _ =>
    [.regs, .out, .rings, .core, .link, .ras, .sys, .settle]
  | .throttleIncreaseTick | .wredDepthPublish _ | .telemetrySample _ =>
    [.cong]
  | .flitReceive _ _ | .spareRxAdapted _ | .trayEventLogPoll _ _ | .laneAdaptationLoss _ _ =>
    [.regs, .out, .rings, .link, .ras, .settle]
  | .superframeMarker _ _ | .credit _ _ _ | .laneReq _ _ _ | .retrainReq _ | .trainingTimeout _ | .laneReplaceTimeout _ | .retrain _ | .fullRetrain _ =>
    [.regs, .out, .rings, .link]
  | .idle _ | .nak _ _ | .replayTimeout _ | .nakRepeat _ | .ackTimer _ =>
    [.regs, .out, .link]
  | .config _ _ =>
    [.regs, .out, .rings, .ord, .route, .link, .ras, .flights, .xlateWait]
  | .laneAck _ _ | .trainRetryTimer _ | .roll _ | .biEnable _ _ | .ideEstablished _ =>
    [.link]
  | .ts1 _ _ | .ts2 _ _ =>
    [.out, .link]
  | .linkEn _ _ | .functionLevelReset _ =>
    [.regs, .out, .rings, .mgmt, .coh, .ord, .atm, .tier, .route, .link, .backs, .cells, .poisonLines, .flights, .xlateWait]
  | .portReset _ =>
    [.regs, .out, .rings, .mgmt, .ord, .link, .sys, .flights, .xlateWait]
  | .epmsg _ _ _ _ _ _ _ =>
    [.regs, .out, .cong, .link]
  | .cxlLinkTrained _ _ _ _ _ | .ideFail _ =>
    [.regs, .link]
  | .cxlLinkDown _ =>
    [.regs, .out, .rings, .mgmt, .coh, .ord, .atm, .obj, .tier, .train, .route, .core, .cong, .link, .ras, .settle, .compOrder, .pages, .backs,
     .nextBack, .cells, .poisonLines, .flights, .xlateWait]
  | .trayBringup _ _ =>
    [.regs, .out, .rings, .tier, .link, .ras, .settle]
  | .trayResponse _ _ _ =>
    [.regs, .out, .rings, .coh, .atm, .tier, .route, .link, .ras, .settle, .backs, .cells, .poisonLines]
  | .getInfo | .imageActivate | .svnCommit | .pmKeySet | .pmUnload | .pmStatus =>
    [.regs, .out, .settle]
  | .imageLoad _ | .islandResetDone =>
    [.regs, .out, .rings, .coh, .ord, .atm, .obj, .tier, .trs, .train, .route, .core, .cong, .link, .ras, .sys, .settle, .compOrder, .pages, .backs,
     .nextBack, .cells, .poisonLines]
  | .pmLoad _ | .watchdogReport =>
    [.regs, .out, .rings, .ras, .settle]
  | .pmQuantumTick _ =>
    [.draws, .regs, .settle]
  | .pmQueueSubmit _ _ =>
    [.regs, .out, .rings, .settle, .compOrder]
  | .settleCoreFault _ _ | .railExcursionLimit _ | .mgmtIslandFault =>
    [.regs, .out, .rings, .link, .ras, .sys, .settle]
  | .watchdogExpire =>
    [.regs, .out, .rings, .ras, .sys, .settle]
  | .unfenceDomain _ =>
    [.regs, .out, .rings, .coh, .link, .ras, .settle]
  | .winchEngineFault _ | .compressionEngineFault _ =>
    [.regs, .out, .rings, .tier, .ras, .settle]
  | .porstN _ | .vddAonLoss | .thermtrip =>
    [.now, .regs, .out, .rings, .mgmt, .coh, .ord, .atm, .obj, .tier, .cmp, .stk, .bau, .trs, .train, .route, .core, .cong, .link, .ras, .sys,
     .settle, .pwr, .tenants, .extents, .mapGen, .undrained, .affected, .history, .compOrder, .ready, .openGen, .pages, .backs, .nextBack, .cells,
     .poisonLines, .toFree, .scrub, .flights, .quotaOps, .xlate, .extCache, .xlateWait, .lastAgeTick, .freeing]
  | .cold =>
    [.now, .regs, .rings, .mgmt, .coh, .ord, .atm, .obj, .tier, .cmp, .stk, .bau, .trs, .train, .route, .core, .cong, .link, .ras, .sys, .settle,
     .pwr, .tenants, .extents, .mapGen, .undrained, .affected, .history, .compOrder, .ready, .openGen, .pages, .backs, .nextBack, .cells,
     .poisonLines, .toFree, .scrub, .flights, .quotaOps, .xlate, .extCache, .xlateWait, .lastAgeTick, .freeing]
  | .warmRstN _ | .warm =>
    [.rings, .ord, .sys, .flights, .xlateWait]
  | .tenant _ =>
    [.regs, .out, .rings, .sys, .settle, .compOrder]
  | .island _ _ =>
    [.regs, .out, .rings, .mgmt, .ord, .trs, .core, .link, .sys, .settle, .flights, .xlateWait]
  | .quiesceEnd =>
    [.regs, .out, .rings, .coh, .ord, .atm, .obj, .tier, .cmp, .bau, .trs, .train, .route, .core, .cong, .link, .ras, .sys, .settle, .compOrder,
     .ready, .openGen, .pages, .backs, .nextBack, .cells, .poisonLines, .flights, .quotaOps, .xlate, .extCache, .xlateWait]
  | .warmRestart | .deviceOpen =>
    [.regs, .out, .rings, .mgmt, .coh, .ord, .atm, .obj, .tier, .trs, .train, .route, .core, .cong, .link, .ras, .sys, .settle, .compOrder, .pages,
     .backs, .nextBack, .cells, .poisonLines, .flights, .xlateWait]
  | .perstN _ =>
    [.regs, .rings, .mgmt, .pwr]
  | .startupTestDone _ =>
    [.regs, .out, .rings, .tier, .stk, .trs, .core, .ras, .sys, .settle]
  | .refclkLost _ =>
    [.regs, .out, .rings, .mgmt, .coh, .ord, .atm, .obj, .tier, .train, .route, .core, .cong, .link, .ras, .sys, .settle, .compOrder, .pages, .backs,
     .nextBack, .cells, .poisonLines, .flights, .xlateWait]
  | .refclkRestored _ =>
    [.regs, .out, .rings, .link, .sys]
  | .timeDistribute _ =>
    [.now, .out, .sys]
  | .ppsInEdge | .globalTimeSet _ =>
    [.now, .regs, .sys]
  | .ptpMessage _ _ _ _ _ =>
    [.now, .draws, .regs, .out, .sys]
  | .ppsOutSecond =>
    [.out, .sys]
  | .railExcursion _ | .swThermalAlert _ _ =>
    [.regs, .out, .pwr]
  | .avsPoll _ | .avsTargetStep _ _ _ =>
    [.regs, .pwr]
  | .phyPoll _ _ =>
    [.mgmt]
  | .swAlertClear =>
    [.out, .sys, .pwr]
  | .railReturn _ =>
    [.pwr]
  | .stackBaseLogicFault _ =>
    [.regs, .out, .rings, .tier, .cmp, .stk, .bau, .ras, .settle, .backs]

end Sys2Proof.Machine
end

