-- ==== Sys2Proof/WellFormed.lean ====
section
/-! DEFINITION. What a command's operands must satisfy beyond their types. The meanings are total all the same. -/

namespace Sys2Proof

/-- BAR0 is 64 MiB (R542). -/
def inBar0 (off : BitVec 32) : Bool := decide (off.toNat < 2 ^ 26)

/-- An AtomComb carries 2 to 14 contributors (R152, R153); no other request carries any. -/
def recsOk (r : Req) : Bool := if r.kind = .atomComb then decide (2 ≤ r.recs.length ∧ r.recs.length ≤ 14) else r.recs.isEmpty

/-- A CXL host port has 4 HDM decoders, with 1, 2, 4, 8 or 16 ways and a granularity of 256 B to 16 KiB (18). -/
def decodersOk (ds : List Hdm) : Bool :=
  decide (ds.length ≤ 4) && ds.all (fun d => [1, 2, 4, 8, 16].contains d.ways && [256, 512, 1024, 2048, 4096, 8192, 16384].contains d.gran)

/-- Whether a command's operands are well formed. -/
def Instr.wf : Instr → Bool
  | .registerWrite off _ _ => inBar0 off
  | .lowWordRead _ off => inBar0 off
  | .setupOpenClose off _ => inBar0 off
  | .requestIngress r => recsOk r && r.kind != .atomComb
  | .atomcomb r => recsOk r && r.kind == .atomComb
  | .cmpcomb _ _ rs _ => decide (rs.length ≤ 14)
  | .biEnable _ c => decodersOk c.decoders
  | .flitReceive _ f => decide (f.bytes ≤ 240)
  | .avsPoll ma => decide (ma.length ≤ 3)
  | _ => true

end Sys2Proof
end

