-- ==== Sys2Proof/Certificates/Slice0/Obligations.lean ====
section
/-! DEFINITION. The statements for the provers. Claims.<command> says what one command does where it takes effect; a statement joins
the claims of one family, or says what holds of every command. -/

open Sys2Proof Sys2Proof.Machine

/-! ## Management (23) and rings (02): what each command does where it takes effect -/

/-- A BAR0 write of 8 B to a register of its own block is applied to it field by field (R8, R543). -/
def Claims.registerWrite : Prop := ∀ (s : State) (off : BitVec 32) (data : Word),
  bar0Open s = true → off.toNat < 67108864 → off.toNat % 8 = 0 → off.toNat ≠ settleBase + 0x400 →
  exec (.registerWrite off 8 data) s = .next (writeReg s (regHome s off.toNat) off.toNat ⟨data.toNat, 0, 64⟩)

/-- A 4 B read of a low word answers it and latches the high word for its requester (R556). -/
def Claims.lowWordRead : Prop := ∀ (s : State) (q : BitVec 16) (off : BitVec 32),
  bar0Open s = true → off.toNat < 67108864 → off.toNat % 8 = 0 →
  Runs (.lowWordRead q off) s (fun t => t.out = s.out ++ [.regData q.toNat off.toNat (readReg s off.toNat &&& 0xFFFFFFFF)] ∧
    tblFind t.mgmt.latch q.toNat = some (off.toNat, (readReg s off.toNat).extractLsb' 32 32))

/-- A write of 1 to the SETUP_OPEN bit of a block that is not a port's closes it, after the RWL fields of the same write (R548, R549). -/
def Claims.setupOpenClose : Prop := ∀ (s : State) (off : BitVec 32) (data : Word) (bit : Nat),
  bar0Open s = true → off.toNat < 0x4000000 → (off.toNat < 0x100000 ∨ 0x180000 ≤ off.toNat) →
  (regInfo (regHome s off.toNat)).bind (·.setupAt) = some (regHome s off.toNat, bit) → data.getLsbD bit = true →
  Runs (.setupOpenClose off data) s (fun t => t = setFld (writeReg s (regHome s off.toNat) off.toNat ⟨data.toNat, 0, 64⟩) (regHome s off.toNat) bit 1 0 ∧
    flag t (regHome s off.toNat) bit = false)

/-- SERVE in SETUP with every lock closed and a SWITCH_ID starts serving: fences of asserted inputs come before any training (R516, R518). -/
def Claims.serve : Prop := ∀ s : State, bar0Open s = true → canServe s = true →
  exec .serve s = .next ((List.range 128).foldl startPort (s.ras.inputs.foldl alertFence { s with sys := { s.sys with st := .serving } }))

/-- Setting VALID creates a tenant with quota 0 in every tier (R62). -/
def Claims.tenantCtlWrite : Prop := ∀ (s : State) (t : Fin 4096) (data : Word) (k : Key),
  bar0Open s = true → (tblGet s.pool.tenants t.val {}).valid = false → data.getLsbD 16 = true → data.extractLsb' 0 16 = k →
  tenantAllowed s t.val k = true →
  Runs (.tenantCtlWrite t data) s (fun u => ∃ e, tblFind u.pool.tenants t.val = some e ∧ e.key = k ∧ e.valid = true ∧
    e.q0 = some 0 ∧ e.q1 = some 0 ∧ e.q2 = some 0)

/-- A port key entry takes the written key, mask and VALID (R348). -/
def Claims.portKeyWrite : Prop := ∀ (s : State) (p : PortId) (e : Fin 64) (data : Word), bar0Open s = true →
  Runs (.portKeyWrite p e data) s (fun t => regGet t (portBase p.val + 0x200 + 8 * e.val) = data &&& 0x1FFFFFFFF)

/-- A policer's buckets start full after a write (R394): nothing is kept of them. -/
def Claims.policerWrite : Prop := ∀ (s : State) (p : PortId) (i : Fin 64) (w0 w1 : Word), bar0Open s = true →
  Runs (.policerWrite p i w0 w1) s (fun t => tblFind t.cong.policers (p.val * 64 + i.val) = none ∧
    regGet t (portBase p.val + 0xB00 + 16 * i.val + 8) = w1)

/-- A WRED profile takes thresholds that are consistent (R396). -/
def Claims.wredProfileWrite : Prop := ∀ (s : State) (i : Fin 16) (data : Word), bar0Open s = true →
  bitsOf data.toNat 0 16 < bitsOf data.toNat 16 16 →
  Runs (.wredProfileWrite none i data) s (fun t => regGet t (0x34100 + 8 * i.val) = data &&& 0xFFFFFFFFFF)

/-- The board controller reads a permitted register as one access (R550, R551). -/
def Claims.boardRead : Prop := ∀ (s : State) (off : BitVec 32), boardAnswers s = true → boardReadable off.toNat = true →
  stackInReset s off.toNat = false →
  exec (.boardRead off) s = .next (emit (bump s (boardCnt 0)) (.boardData off.toNat (readReg s off.toNat)))

/-- The board controller clears the MGMT_ALERT_STATUS bits that it writes as 1, and its write of 1 to RAS_STATUS.ALERT_PEND clears that bit; any
other write of it is ignored and counted (R551). -/
def Claims.boardWrite : Prop := ∀ (s : State) (data : Word), boardAnswers s = true →
  (data.toNat % 8 ≠ 0 → exec (.boardWrite (BitVec.ofNat 32 (mgmtBase + 0x110)) data) s =
    .next (writeReg (bump s (boardCnt 0)) (mgmtBase + 0x110) (mgmtBase + 0x110) ⟨data.toNat % 8, 0, 64⟩)) ∧
  (data.getLsbD 0 = true → exec (.boardWrite (BitVec.ofNat 32 (rasBase + 8)) data) s =
    .next (writeReg (bump s (boardCnt 0)) (rasBase + 8) (rasBase + 8) ⟨1, 0, 64⟩)) ∧
  (∀ off : BitVec 32, off.toNat ≠ mgmtBase + 0x110 → off.toNat ≠ rasBase + 8 →
    exec (.boardWrite off data) s = .next (bump (bump s (boardCnt 0)) (boardCnt 1)))

/-- Unmasking a vector with an event pending delivers it, once (R546). -/
def Claims.msixUnmask : Prop := ∀ (s : State) (v : Fin 2048), flag s (msixBase + 16 * v.val + 8) 32 = true →
  exec (.msixUnmask v) s = .next (unmask s v.val)

/-- IDCODE acts at any time (R538). -/
def Claims.jtagInstruction : Prop := ∀ s : State,
  Runs (.jtagInstruction .idcode) s (fun t => t.mgmt.tapInstr = .idcode ∧ t.out = s.out ++ [.send 129 "IDCODE" [0x19612AF5]])

/-- ENABLE := 1 on a DISABLED ring with a valid configuration makes it ACTIVE under the next generation (R30). -/
def Claims.ringEnable : Prop := ∀ (s : State) (n : RingId), (ringOf s n.val).st = .disabled → enableValid s n.val = true →
  (ringOf s n.val).old = [] →
  Runs (.ringEnable n) s (fun t => (ringOf t n.val).st = .active ∧ (ringOf t n.val).gen = ((ringOf s n.val).gen + 1) % 16 ∧
    (ringOf t n.val).seq = 0)

/-- ENABLE := 0 makes an ACTIVE ring drain, and its head shadow says so (R30, R37). -/
def Claims.ringDisable : Prop := ∀ (s : State) (n : RingId), (ringOf s n.val).st = .active →
  exec (.ringDisable n) s = .next (writeShadow (setRing s n.val { ringOf s n.val with st := .draining, enable := false }) n.val)

/-- RESUME makes a HALTED ring that no DISABLE is closing ACTIVE again; records held meanwhile are written in commit order (R30). -/
def Claims.resume : Prop := ∀ (s : State) (n : RingId), (ringOf s n.val).st = .halted → (ringOf s n.val).closing = false →
  exec (.resume n) s = .next (writeDue (ringOf s n.val).commits.length (setRing s n.val { ringOf s n.val with st := .active, cause := 0 }) n.val)

/-- A DRAINING ring with nothing live becomes DISABLED (R30). -/
def Claims.ringDrained : Prop := ∀ (s : State) (n : RingId), (ringOf s n.val).st = .draining → liveCount s n.val = 0 →
  (ringOf s n.val).commits = [] → Runs (.ringDrained n) s (fun t => (ringOf t n.val).st = .disabled ∧ (ringOf t n.val).gen = (ringOf s n.val).gen)

/-- A doorbell of the management host that R31 takes is applied to its ring (R32). -/
def Claims.doorbell : Prop := ∀ (s : State) (key : Key) (w : Word), doorbellValid s none key w = true →
  exec (.doorbell none key w) s = .next (doorbellAccept s (bitsOf w.toNat 36 12) (bitsOf w.toNat 0 17) (bitsOf w.toNat 17 17))

/-- The next ring's next descriptor is fetched through the ring's requester: its handle is being fetched, the sequence advances (R36, R40). -/
def Claims.descriptorFetch : Prop := ∀ (s : State) (n : Nat), s.sys.st = .serving → s.settle.boot = .running → liveTotal s < 262144 →
  nextRing s = some n →
  Runs (.descriptorFetch true) s (fun t => (∃ r, handleOf t (handleId n (ringOf s n).gen (ringOf s n).seq) = some r ∧ r.phase = .fetching) ∧
    .hostRead (ringPath s n) (handleId n (ringOf s n).gen (ringOf s n).seq)
      ((regGet s (ringBase n)).toNat + 64 * ((ringOf s n).seq % ringSqDepth s n)) 64 ∈ t.out ∧
    (ringOf t n).seq = (ringOf s n).seq + 1)

/-- A descriptor's data passes the checks of R38 for its ring's key. -/
def Claims.descriptorArrive : Prop := ∀ (s : State) (h : Handle) (r : HandleRec) (d : Line), handleOf s h.toNat = some r → r.phase = .fetching →
  s.rings.handles.any (fun e => e.2.ring == r.ring && e.2.phase == .fetching && decide (e.2.seq < r.seq)) = false →
  exec (.descriptorArrive h (.data d)) s = .next (descriptorChecks s (ringKey s r.ring) (ringAdmin s r.ring) h.toNat r d)

/-- The image that a descriptor names is kept with its handle (R80). -/
def Claims.hostImageReadDone : Prop := ∀ (s : State) (h : HRef) (r : HandleRec) (b : List Byte), handleOf s h.toNat = some r → r.phase = .live →
  r.image = none → r.imagePoison = false →
  exec (.hostImageReadDone h (.data b)) s = .next (setHandle s h.toNat { r with image := some b })

/-- An engine's completion sets the commit latch (R49). -/
def Claims.latchSet : Prop := ∀ (s : State) (h : HRef) (r : HandleRec) (st : Status) (a b : Word), handleOf s h.toNat = some r →
  r.sentTo = none → r.fin = some (st, a, b) → bauEnding s h.toNat = false → r.opcode ≠ 0x4A →
  exec (.latchSet h none) s = .next (commit s h.toNat st a b)

/-- The oldest committed record that is due is written, and its handle retires (R43, R44). -/
def Claims.completionRecordWrite : Prop := ∀ (s : State) (n : RingId) (h : Nat) (hs : List Nat), (ringOf s n.val).st = .active →
  (ringOf s n.val).old = [] → (ringOf s n.val).commits = h :: hs → recordDue s h = true →
  exec (.completionRecordWrite n true) s = .next (writeRecord s n.val h)

/-- A pending notification of a ring bound to the management endpoint raises its vector (R45, R546). -/
def Claims.notification : Prop := ∀ (s : State) (n : RingId), (ringOf s n.val).notifyPend = true → (ringOf s n.val).lastNotify = none →
  ringMgmt s n.val = true →
  exec (.notification n) s = .next (msix (setRing s n.val { ringOf s n.val with notifyPend := false, lastNotify := some s.now }) (16 + n.val % 2032))

/-- The stop point of a target whose abort has won fills in its ABORTED record (R52). -/
def Claims.abortStopPoint : Prop := ∀ (s : State) (h : HRef) (r : HandleRec), handleOf s h.toNat = some r → r.abortWon = true →
  r.phase = .committed → r.ready = false → atStop s h.toNat r = true →
  exec (.abortStopPoint h) s = .next (fillRecord (stopWork s h.toNat r false).s h.toNat .aborted (stopWork s h.toNat r false).r0 (stopWork s h.toNat r false).r1)

/-- Held records of a ring not enabled within 10 s are dropped (R55). -/
def Claims.heldRecordDrop : Prop := ∀ (s : State) (n : RingId) (t : Nat), (ringOf s n.val).oldDue = some t → (ringOf s n.val).st = .disabled →
  t ≤ s.now →
  exec (.heldRecordDrop n) s = .next (returnRemote ((ringOf s n.val).old.foldl (fun s h => recDrop (dropHandle s h))
    (setRing s n.val { ringOf s n.val with old := [], oldDue := none })))

/-- NOP completes OK (R46). -/
def Claims.nop : Prop := ∀ (s : State) (h : Handle) (r : HandleRec), startable s h.toNat 0x01 = some r →
  exec (.nop h) s = .next (commit s h.toNat .ok 0 0)

/-- ABORT of a live abortable target of this switch that is not done wins its latch and completes OK with the target's handle (R50, R51). -/
def Claims.abort : Prop := ∀ (s : State) (h : HRef) (r x : HandleRec) (row : OpRow), startable s h.toNat 0x02 = some r →
  handleKeyOk s r.key (namedHandle r) = true → handleOf s (namedHandle r) = some x → x.phase = .live → x.sentTo = none →
  opRow x.opcode = some row → row.abort = true → x.fin = none →
  exec (.abort h) s = .next (commit (setHandle (abortWins s (namedHandle r)) h.toNat { r with waitFor := some (namedHandle r) }) h.toNat .ok
    (BitVec.ofNat 64 (d64 r.desc 8)) 0)

/-- QUERY_HANDLE of a target of this switch answers its progress, opcode, state code and tag (R48). -/
def Claims.queryHandle : Prop := ∀ (s : State) (h : Handle) (r x : HandleRec), startable s h.toNat 0x03 = some r →
  handleKeyOk s r.key (namedHandle r) = true → handleOf s (namedHandle r) = some x → x.sentTo = none →
  exec (.queryHandle h) s = .next (commit s h.toNat .ok (BitVec.ofNat 64 (progressOf s (namedHandle r) x))
    (BitVec.ofNat 64 (x.opcode + handleState s (namedHandle r) * 2 ^ 8 + x.tag.toNat * 2 ^ 32)))

/-! ## Composition and ingress (03) -/

/-- EXTENT_GRANT with CREATE: when its turn comes and the entry of its operands can be applied, the change waits for publication (R68, R72). -/
def Claims.extentCreate : Prop := ∀ (s u : State) (h : Handle) (r : HandleRec) (e : MapEntry) (c : Change),
  compTurn s h.toNat 0x10 = some r → dFlag r.desc 2 = true →
  e = { kind := 1, access := d8 r.desc 14, key := dKeyAt r.desc 12, id := d32 r.desc 8, base := d64 r.desc 16, len := d64 r.desc 24, tiers := d8 r.desc 15, init := d8 r.desc 32, reserve := dFlag r.desc 3 } →
  entryApply s (emptyChange s (some h.toNat)) e = .ok (some c) → reserveAll c c.reserve s = .ok u →
  exec (.extentCreate h) s = .next (markStarted { s with pool := { s.pool with ready := some { c with discard := false } } } h.toNat)

/-- EXTENT_GRANT without CREATE adds a grantee (R72, R73). -/
def Claims.extentGrant : Prop := ∀ (s u : State) (h : Handle) (r : HandleRec) (e : MapEntry) (c : Change),
  compTurn s h.toNat 0x10 = some r → dFlag r.desc 2 = false → dFlag r.desc 3 = false →
  e = { kind := 2, access := d8 r.desc 14, key := dKeyAt r.desc 12, id := d32 r.desc 8, base := 0, len := 0, tiers := 0, init := 0, reserve := false } →
  entryApply s (emptyChange s (some h.toNat)) e = .ok (some c) → reserveAll c c.reserve s = .ok u →
  exec (.extentGrant h) s = .next (markStarted { s with pool := { s.pool with ready := some { c with discard := false } } } h.toNat)

/-- EXTENT_REVOKE removes a key, with DISCARD as its flag says (R74 to R78). -/
def Claims.extentRevoke : Prop := ∀ (s u : State) (h : Handle) (r : HandleRec) (e : MapEntry) (c : Change),
  compTurn s h.toNat 0x11 = some r →
  e = { kind := 3, access := 0, key := dKeyAt r.desc 12, id := d32 r.desc 8, base := 0, len := 0, tiers := 0, init := 0, reserve := false } →
  entryApply s (emptyChange s (some h.toNat)) e = .ok (some c) → reserveAll c c.reserve s = .ok u →
  exec (.extentRevoke h) s = .next (markStarted { s with pool := { s.pool with ready := some { c with discard := dFlag r.desc 2 } } } h.toNat)

/-- EXTENT_RESIZE changes an extent's length (R74 to R78). -/
def Claims.extentResize : Prop := ∀ (s u : State) (h : Handle) (r : HandleRec) (e : MapEntry) (c : Change),
  compTurn s h.toNat 0x12 = some r →
  e = { kind := 5, access := 0, key := 0, id := d32 r.desc 8, base := 0, len := d64 r.desc 16, tiers := 0, init := 0, reserve := false, anyKey := true } →
  entryApply s (emptyChange s (some h.toNat)) e = .ok (some c) → reserveAll c c.reserve s = .ok u →
  exec (.extentResize h) s = .next (markStarted { s with pool := { s.pool with ready := some { c with discard := dFlag r.desc 2 } } } h.toNat)

/-- QUOTA_SET of a tenant within its new quotas is done at once, with the pages charged as its results (R85, R87). -/
def Claims.quotaSet : Prop := ∀ (s t : State) (h : Handle) (r : HandleRec), startable s h.toNat 0x13 = some r →
  [16, 24, 32].find? (fun o => d64 r.desc o != 0xFFFFFFFFFFFFFFFF && d64 r.desc o % 65536 != 0) = none →
  isTenant s (dKeyAt r.desc 8) = true → quotaLive s h.toNat (dKeyAt r.desc 8) = false →
  t = markStarted { s with pool := { s.pool with tenants := s.pool.tenants.map (fun e => if e.2.valid ∧ e.2.key = dKeyAt r.desc 8 then
    (e.1, { e.2 with q0 := quotaVal (d64 r.desc 16), q1 := quotaVal (d64 r.desc 24), q2 := quotaVal (d64 r.desc 32) }) else e) } } h.toNat →
  [Tier.t0, .t1, .t2].any (overQuota t (dKeyAt r.desc 8)) = false →
  exec (.quotaSet h) s = .next (engineDone t h.toNat .ok (quotaR0 t (dKeyAt r.desc 8)) (quotaR1 t (dKeyAt r.desc 8)))

/-- Demotion under a quota ends when no tier is above its quota and no move is left (R87). -/
def Claims.quotaDemotionEnd : Prop := ∀ (s t : State) (h : Handle) (q : QuotaOp), s.pool.quotaOps.find? (fun q => q.handle == h.toNat) = some q →
  s.tier.ops = [] → [Tier.t0, .t1, .t2].any (overQuota s q.key) = false → t = { s with pool := { s.pool with quotaOps := s.pool.quotaOps.erase q } } →
  s.tier.chunks = [] →
  exec (.quotaDemotionEnd h) s = .next (engineDone t h.toNat .ok (quotaR0 t q.key) (quotaR1 t q.key))

/-- MAP_COMMIT of an image whose entries all apply makes one change, all or nothing (R80). -/
def Claims.mapCommit : Prop := ∀ (s : State) (h : Handle) (r : HandleRec) (b : List Byte) (c : Change), compTurn s h.toNat 0x14 = some r →
  d64 r.desc 8 % 64 = 0 → d32 r.desc 16 % 32 = 0 → 32 ≤ d32 r.desc 16 → d32 r.desc 16 ≤ 131072 → r.imagePoison = false → r.image = some b →
  crc32c (b.take (d32 r.desc 16)) = d32 r.desc 24 → (d32 r.desc 20 = 0 ∨ d32 r.desc 20 = gen32 s.pool.gen) →
  imageApply s b (List.range (d32 r.desc 16 / 32)) (emptyChange s (some h.toNat)) = .inr c →
  exec (.mapCommit h) s = .next (markStarted { s with pool := { s.pool with ready := some { c with discard := dFlag r.desc 2, whole := true } } } h.toNat)

/-- A change that is ready is published once its generation has room (R69, R70). -/
def Claims.mapGenPublish : Prop := ∀ (s t : State) (c : Change) (h : Nat) (r : HandleRec), s.pool.ready = some c → c.handle = some h →
  handleOf s h = some r → r.phase = .live → (undrainedAfter s c.affected).length < 15 → c.newRanges.any (meetsFreeing s) = false →
  reserveAll c c.reserve s = .ok t →
  exec .mapGenPublish s = .next (publishChange t c)

/-- A generation with nothing in flight under it or an earlier one is drained (R70). -/
def Claims.generationDrained : Prop := ∀ (s : State) (g : BitVec 32) (n : Nat), s.pool.undrained.find? (fun n => gen32 n == g.toNat) = some n →
  undrainedGen s s.pool.affected n = false →
  Runs (.generationDrained g) s (fun t => t.pool.undrained = s.pool.undrained.filter (· != n) ∧ t.pool.gen = s.pool.gen)

/-- A removal completes once older requests have drained, its recalls are done and nothing more is to be recalled (R76 to R79). -/
def Claims.compositionComplete : Prop := ∀ (s : State) (g : BitVec 32) (c : Change), s.pool.open_.find? (fun c => gen32 c.gen == g.toNat) = some c →
  s.pool.flights.any (fun f => f.gen < c.gen && c.removed.any (fun r => flightIn f (r.1, r.2.1))) = false → recallDone s c.tag = true →
  recallDone (moreRecalls s c) c.tag = true →
  exec (.compositionComplete g) s = .next (completeChange s c)

/-- A backing page that nothing names is scrubbed to zero, and its location returns to free capacity (R79). -/
def Claims.pageFreeScrub : Prop := ∀ (s : State) (back : BitVec 48) (b : Back), s.pool.toFree = [] → s.pool.scrub.contains back.toNat = true →
  backById s back.toNat = some b → b.moving = false → b.lost = false → b.copy = none →
  exec (.pageFreeScrub back) s = .next (let t := freeLoc (clearBack s back.toNat) b.loc
    { t with pool := { t.pool with backs := tblErase t.pool.backs back.toNat, scrub := t.pool.scrub.filter (· != back.toNat) } })

/-- The first request of a stream that waits for its translation proceeds to the checks of R65 once its page and extent entries have come (R59). -/
def Claims.xlateCacheFill : Prop := ∀ (s : State) (p : PortId) (src : Endpoint) (tag : BitVec 14) (r : Req),
  s.pool.xlateWait.find? (fun r => r.port == p && r.src == src && r.tag == tag) = some r → s.pool.xlateWait.find? (oneStream r) = some r →
  Runs (.xlateCacheFill p src tag) s (fun t => ∃ u : State, u.pool.xlateWait = s.pool.xlateWait.filter (fun x => x.num != r.num) ∧
    (tblGet u.pool.xlate p.val []).head? = some (pageOf (r.addr.toNat % 2 ^ 48)) ∧ t = homeChecks u r)

/-- Every allocated page grows older by one period, up to 255, and the modules that asked for summaries get them (R61, R467). -/
def Claims.pageAgeTick : Prop := ∀ s : State, s.pool.lastAgeTick + 1000000 * fld s 0x7F08 0 16 ≤ s.now →
  exec .pageAgeTick s = .next (ageSummaries (coldDemotes { s with pool := { s.pool with
    backs := s.pool.backs.map (fun e => (e.1, { e.2 with age := Nat.min 255 (e.2.age + 1) })), lastAgeTick := s.now } }))

/-- A request that arrives at a port, of a key that the port's table holds, returns its credit and passes the key check of R65 step 1. -/
def Claims.requestIngress : Prop := ∀ (s : State) (r : Req), takesRequests s r.port.val = true → internal r = false → r.badSlots = false → (r.tc = 6 ∨ r.tc = 5) →
  ingressKey s r.port.val r.key = true → (isHostPort s r.port.val = true ∨ ckeyBad r.key r.checked = false) →
  exec (.requestIngress r) s = .next (Entered s r)

/-- A Fence holds the requests of its source that arrive after it (R126). -/
def Claims.fenceall : Prop := ∀ (s : State) (p : PortId) (src : Endpoint), isHostPort s p.val = true → isCxl s p.val = false → portEp s p.val = src →
  exec (.fenceall p src) s = .next (releaseFences { s with ord := { s.ord with fences := s.ord.fences ++ [⟨p.val, src, .all, s.ord.arrivals⟩], arrivals := s.ord.arrivals + 1 } })
/-- A FenceWr takes its place in its source's order: later requests wait for earlier writes, atomics and ownership reads (R126). -/
def Claims.fencewr : Prop := ∀ (s : State) (p : PortId) (src : Endpoint), isHostPort s p.val = true → isCxl s p.val = false → portEp s p.val = src →
  exec (.fencewr p src) s = .next (releaseFences { s with ord := { s.ord with fences := s.ord.fences ++ [⟨p.val, src, .wr, s.ord.arrivals⟩], arrivals := s.ord.arrivals + 1 } })
/-- A FenceSync takes its place in its source's order: later requests wait for all earlier requests and for WbDirty (R126). -/
def Claims.fencesync : Prop := ∀ (s : State) (p : PortId) (src : Endpoint), isHostPort s p.val = true → isCxl s p.val = false → portEp s p.val = src →
  exec (.fencesync p src) s = .next (releaseFences { s with ord := { s.ord with fences := s.ord.fences ++ [⟨p.val, src, .sync, s.ord.arrivals⟩], arrivals := s.ord.arrivals + 1 } })

/-- The oldest completion of a source and tag retires (R118). -/
def Claims.requestRetire : Prop := ∀ (s : State) (src : Endpoint) (tag : BitVec 14) (d : Done), unitWaits s src tag.toNat = false →
  s.coh.toRetire.find? (fun d => d.src == src && d.tag == tag.toNat) = some d →
  exec (.requestRetire src tag) s = .next (retire s d)

/-- A checked request that nothing holds any more is released, in its stream's order: to its home, or to its refusal (R124, R125, R138). -/
def Claims.heldRequestRelease : Prop := ∀ (s : State) (src : Endpoint) (tag : BitVec 14) (o : Out), outOf s src tag.toNat = some o → o.released = false →
  o.throttled = false → o.checked = true → o.refused = none → hostReq s o.req = true → heldBack s o.req = false →
  exec (.heldRequestRelease src tag) s = .next (releaseReq (setOut s o.req.num (fun o => { o with released := true })) o.req)

/-- An atomic held for its source's window is released once the window has room (R159). -/
def Claims.atomicWindowRelease : Prop := ∀ (s : State) (src : Endpoint) (tag : BitVec 14) (o : Out), outOf s src tag.toNat = some o → o.released = false →
  o.throttled = false → o.checked = true → o.refused = none → hostReq s o.req = true → heldBack s o.req = false →
  exec (.atomicWindowRelease src tag) s = .next (releaseReq (setOut s o.req.num (fun o => { o with released := true })) o.req)

/-- RSEQ sent on its own to this home returns its credit and frees the replay entries before it (R157). -/
def Claims.atomretire : Prop := ∀ (s : State) (p : PortId) (src : Endpoint) (key : Key) (home : BitVec 12) (rseq : BitVec 16),
  ingressKey s p.val key = true → isHostPort s p.val = false → home.toNat = switchId s →
  exec (.atomretire p src key home rseq) s = .next (advanceRseq (creditBack s p.val 6) src rseq)

/-- A due increase tick raises every throttle context that had no notice within INC_US, and drops those back at the port rate (R391). -/
def Claims.throttleIncreaseTick : Prop := ∀ s : State, s.cong.lastInc + 1000 * fld s 0x34008 24 8 ≤ s.now →
  Runs .throttleIncreaseTick s (fun t => t.cong.lastInc = s.now ∧ ∀ c ∈ t.cong.ctxs, ∃ d ∈ s.cong.ctxs, d.island = c.island ∧ d.home = c.home ∧
    (c.rate = d.rate ∨ c.rate = d.rate + 1000 * fld s 0x34008 16 8))

/-- A metered request that finds its tokens goes on (R392). -/
def Claims.throttleRelease : Prop := ∀ (s u : State) (src : Endpoint) (tag : BitVec 14) (o : Out), outOf s src tag.toNat = some o → o.throttled = true →
  o.released = false → meter s o.req = some u →
  exec (.throttleRelease src tag) s = .next (tryRelease (setOut u o.req.num (fun x => { x with throttled := false })) { o with throttled := false })

/-! ## The home agent (04), CXL hosts (04, 18), atomics and Far mode (06) -/

/-- Nothing holds the line of a request back at its home: it has no hot-line entry and no transaction, nothing waits on it, no engine holds it,
and an atomic finds its replay entry. -/
def Claims.Clear (s : State) (r : Req) : Prop :=
  hotAt s (reqLine r) = none ∧ transAt s (reqLine r) = none ∧ s.coh.waitQ.any (fun w => reqLine w == reqLine r) = false ∧
  lineHeld s (reqLine r) (isWriteKind r.kind) = false ∧ replayHeld s r = false ∧ atomPending s r = false

/-- A page that a write finds ready: it is no page of an open slot, and it is backed and not lost (R83, R172). -/
def Claims.Backed (s : State) (r : Req) : Prop :=
  shelfAt s (reqLine r * 64) = none ∧ ∃ b x, backAt s (pageOf (reqLine r * 64)) = some b ∧ b.lost = false ∧ settingAt s r.ext.toList (reqLine r * 64) = some x

/-- A well-formed atomic of one record that its home has not applied and that lies in its source's window (R142, R156). -/
def Claims.FreshAtom (s : State) (r : Req) : Prop :=
  atomMalformed r.atom (r.addr.toNat % 64) = false ∧ replayFind s (linePart (reqLine r)) ⟨r.src, r.tag, r.atom.aseq, r.atom.a, r.atom.noret⟩ = none ∧
  inWindow s ⟨r.src, r.tag, r.atom.aseq, r.atom.a, r.atom.noret⟩ = true

/-- A RdNC in state I or S is answered from memory without an entry; the value it carries is the line's (R101). -/
def Claims.rdnc : Prop := ∀ (s : State) (src : Endpoint) (tag : BitVec 14) (r : Req), inboxReq s [.rdNC] src tag = some r → Claims.Clear s r →
  r.kind = .rdNC → (dirAt s (reqLine r) = none ∨ ∃ e, dirAt s (reqLine r) = some e ∧ ownerOf e = none) →
  Runs (.rdnc src tag) s (fun t => t.coh.dir = s.coh.dir ∧
    t.coh.reads = s.coh.reads ++ [⟨reqLine r, r, .cmpI, (currentLine s (reqLine r)).1,
      (currentLine s (reqLine r)).2⟩])

/-- A RdShared of a line in state S adds its requester as a sharer and is granted S (R101, R94). -/
def Claims.rdshared : Prop := ∀ (s : State) (src : Endpoint) (tag : BitVec 14) (r : Req) (e : DirEntry), inboxReq s [.rdShared] src tag = some r →
  Claims.Clear s r → r.kind = .rdShared → (epFenced s (linePart (reqLine r)) r.src = false ∨ internal r = true) → dirAt s (reqLine r) = some e → ownerOf e = none →
  Runs (.rdshared src tag) s (fun t => dirAt t (reqLine r) = some (addSharer e (asHolder r)) ∧
    (internal r = false → registered t (linePart (reqLine r)) r.src.toNat = true) ∧ (∃ x, t.coh.reads = s.coh.reads ++ [x] ∧ x.req = r ∧ x.cmp = .cmpS))

/-- A RdOwn of a line that nobody holds opens a transaction under a tracker, with no snoop, that waits for memory (R101). -/
def Claims.rdown : Prop := ∀ (s : State) (src : Endpoint) (tag : BitVec 14) (r : Req), inboxReq s [.rdOwn] src tag = some r → Claims.Clear s r →
  r.kind = .rdOwn → (epFenced s (linePart (reqLine r)) r.src = false ∨ internal r = true) → Claims.Backed s r →
  dirAt s (reqLine r) = none → entryRoom (registerFor s r) (reqLine r) r = true → trackerFor (registerFor s r) (reqLine r) r = true →
  exec (.rdown src tag) s = .next (dropInbox (notePrev (noteTransfer (openTrans (registerFor s r) (reqLine r) r true true [])
    (reqLine r)) (reqLine r) (asHolder r)) r)

/-- A well-formed AtomNear that its home has not applied is ordered as a RdOwn is (R143, R142). -/
def Claims.atomnear : Prop := ∀ (s : State) (src : Endpoint) (tag : BitVec 14) (r : Req), inboxReq s [.atomNear] src tag = some r → Claims.Clear s r →
  r.kind = .atomNear → (epFenced s (linePart (reqLine r)) r.src = false ∨ internal r = true) → Claims.FreshAtom s r → Claims.Backed s r →
  dirAt s (reqLine r) = none → entryRoom (registerFor s r) (reqLine r) r = true → trackerFor (registerFor s r) (reqLine r) r = true →
  exec (.atomnear src tag) s = .next (dropInbox (notePrev (noteTransfer (openTrans (registerFor s r) (reqLine r) r true true [])
    (reqLine r)) (reqLine r) (asHolder r)) r)

/-- A WrLine of a line that nobody holds issues its write at once, with no snoop and no tracker (R101). -/
def Claims.wrline : Prop := ∀ (s : State) (src : Endpoint) (tag : BitVec 14) (r : Req), inboxReq s [.wrLine] src tag = some r → Claims.Clear s r →
  r.kind = .wrLine → Claims.Backed s r → dirAt s (reqLine r) = none →
  exec (.wrline src tag) s = .next (dropInbox (noteTransfer (openTrans (markDirty s (reqLine r)) (reqLine r) r false false []) (reqLine r)) r)

/-- A WrPtl is ordered as a WrLine is (R101). -/
def Claims.wrptl : Prop := ∀ (s : State) (src : Endpoint) (tag : BitVec 14) (r : Req), inboxReq s [.wrPtl] src tag = some r → Claims.Clear s r →
  r.kind = .wrPtl → Claims.Backed s r → dirAt s (reqLine r) = none →
  exec (.wrptl src tag) s = .next (dropInbox (noteTransfer (openTrans (markDirty s (reqLine r)) (reqLine r) r false false []) (reqLine r)) r)

/-- An AtomFar of a near line that is well formed and neither held nor stale is applied by the home as a write of the line (R144, R156). -/
def Claims.atomfar : Prop := ∀ (s : State) (src : Endpoint) (tag : BitVec 14) (r : Req), inboxReq s [.atomFar] src tag = some r → Claims.Clear s r →
  r.kind = .atomFar → Claims.FreshAtom s r → Claims.Backed s r → dirAt s (reqLine r) = none →
  exec (.atomfar src tag) s = .next (dropInbox (noteTransfer (openTrans (markDirty s (reqLine r)) (reqLine r) r false false []) (reqLine r)) r)

/-- A WbDirty of its line's owner, in its own channel and with room in the writeback buffer, is taken in and acknowledged (R91, R101). -/
def Claims.wbdirty : Prop := ∀ (s : State) (m : TcMsg) (tag : BitVec 14) (d : Line) (p : Bool), m.tc = 7 → m.wb = true → m.away = none →
  tcKeyOk s m = true → wbRoom s (linePart (m.off.toNat / 64)) = true →
  wbExpected (noteWb (creditBack s m.port.val (tcChannel m)) m.port.val m.src tag.toNat) (m.off.toNat / 64) m.src m.key = true →
  exec (.wbdirty m tag d p) s = .next (ackWb (acceptWb (noteWb (creditBack s m.port.val (tcChannel m)) m.port.val m.src tag.toNat)
    (m.off.toNat / 64) m.src d p) (linePart (m.off.toNat / 64)) m.port.val m.src tag.toNat)

/-- A snoop answer of its class and key, at its line's home, closes the snoop `n` of its tag that waits for it (R96, R101). -/
def Claims.Answered (s : State) (m : TcMsg) (n : Snoop) (t : Trans) : Prop :=
  tcClassOk m = true ∧ m.away = none ∧ tcKeyOk s m = true ∧ transAt s (m.off.toNat / 64) = some t ∧
  t.snoops.find? (fun n => n.dest == .ep m.src && n.sentAt.isSome && n.stag == m.stag.toNat) = some n

/-- The answer returns its credit; that of a snoop that was sent twice is recorded as a transient event, and the second copy's answer is owed (R108). -/
def Claims.Noted (s : State) (m : TcMsg) (n : Snoop) : State :=
  if n.retried then logEvent { s with coh := { s.coh with owed := s.coh.owed ++ [(m.off.toNat / 64, m.src, m.stag.toNat)] } } 3 1 (linePart (m.off.toNat / 64)) 5 0 0 (switchId s * 2 ^ 48 + m.off.toNat / 64 * 64) m.src.toNat 0 else s

/-- RspI closes its snoop; of a holder recorded precisely that wrote nothing back it counts as stale (R96, R101). -/
def Claims.rspi : Prop := ∀ (s u : State) (m : TcMsg) (t : Trans) (n : Snoop), Claims.Answered s m n t → u = creditBack s m.port.val 7 →
  exec (.rspi m) s = .next (progress (setTrans
    (Claims.Noted (if t.wbGot.contains m.src = false ∧ n.coarse = false then bump u (homeCnt (linePart (m.off.toNat / 64)) 2) else u) m n) (m.off.toNat / 64)
    { t with snoops := t.snoops.filter (fun n => n.dest != .ep m.src) }) (m.off.toNat / 64))
/-- RspIWb closes its snoop, and the transaction awaits the announced WbDirty (R101). -/
def Claims.rspiwb : Prop := ∀ (s u : State) (m : TcMsg) (t : Trans) (n : Snoop), Claims.Answered s m n t → u = creditBack s m.port.val 7 →
  t.wbGot.contains m.src = false →
  exec (.rspiwb m) s = .next (progress (setTrans (Claims.Noted u m n) (m.off.toNat / 64)
    { t with snoops := t.snoops.filter (fun n => n.dest != .ep m.src), wbFrom := t.wbFrom ++ [m.src] }) (m.off.toNat / 64))
/-- Dirty data with no copy kept answers a read: the home writes it to memory as well (R101). -/
def Claims.rspidata : Prop := ∀ (s u : State) (m : TcMsg) (d : Line) (p : Bool) (t : Trans) (n : Snoop) (r : Req), Claims.Answered s m n t →
  u = creditBack s m.port.val 7 → t.kind = .req r → isHomeWrite r.kind = false →
  exec (.rspidata m d p) s = .next (storeSnoop (Claims.Noted u m n) (m.off.toNat / 64)
    { t with snoops := t.snoops.filter (fun n => n.dest != .ep m.src), dirty := some (d, p) } (d, p))
/-- RspS closes a snoop that is no SnpInv, and its sender stays a sharer (R101). -/
def Claims.rsps : Prop := ∀ (s u : State) (m : TcMsg) (t : Trans) (n : Snoop), Claims.Answered s m n t → u = creditBack s m.port.val 7 → n.kind ≠ .inv →
  exec (.rsps m) s = .next (progress (setTrans (Claims.Noted u m n) (m.off.toNat / 64)
    { t with snoops := t.snoops.filter (fun n => n.dest != .ep m.src), kept := t.kept ++ [.ep m.src] }) (m.off.toNat / 64))
/-- Dirty data with S kept answers a read: its sender stays a sharer and the home writes the data to memory (R101). -/
def Claims.rspsdata : Prop := ∀ (s u : State) (m : TcMsg) (d : Line) (p : Bool) (t : Trans) (n : Snoop) (r : Req), Claims.Answered s m n t →
  u = creditBack s m.port.val 7 → n.kind ≠ .inv → t.kind = .req r → isHomeWrite r.kind = false →
  exec (.rspsdata m d p) s = .next (storeSnoop (Claims.Noted u m n) (m.off.toNat / 64)
    { t with snoops := t.snoops.filter (fun n => n.dest != .ep m.src), kept := t.kept ++ [.ep m.src], dirty := some (d, p) } (d, p))
/-- RspCur closes a SnpCur; its sender keeps its state (R101). -/
def Claims.rspcur : Prop := ∀ (s u : State) (m : TcMsg) (t : Trans) (n : Snoop), Claims.Answered s m n t → u = creditBack s m.port.val 7 → n.kind = .cur →
  exec (.rspcur m) s = .next (progress (setTrans (Claims.Noted u m n) (m.off.toNat / 64)
    { t with snoops := t.snoops.filter (fun n => n.dest != .ep m.src), kept := t.kept ++ [.ep m.src] }) (m.off.toNat / 64))
/-- Current data supplies the read and is not written to memory (R101). -/
def Claims.rspcurdata : Prop := ∀ (s u : State) (m : TcMsg) (d : Line) (p : Bool) (t : Trans) (n : Snoop) (r : Req), Claims.Answered s m n t →
  u = creditBack s m.port.val 7 → n.kind = .cur → t.kind = .req r →
  exec (.rspcurdata m d p) s = .next (progress (setTrans (Claims.Noted u m n) (m.off.toNat / 64)
    { t with snoops := t.snoops.filter (fun n => n.dest != .ep m.src), kept := t.kept ++ [.ep m.src], dirty := some (d, p) }) (m.off.toNat / 64))

/-- A GntAck of the endpoint that a transaction awaits ends the wait (R98). -/
def Claims.gntack : Prop := ∀ (s u : State) (m : TcMsg) (t : Trans), tcClassOk m = true → m.away = none → tcKeyOk s m = true →
  u = creditBack s m.port.val 7 → transAt s (m.off.toNat / 64) = some t → t.ackFrom = some m.src →
  exec (.gntack m) s = .next (endTrans (setTrans u (m.off.toNat / 64) { t with ackFrom := none }) (m.off.toNat / 64))

/-- A free tracker goes to the oldest request that waits for one (R90). -/
def Claims.trackerFree : Prop := ∀ (s : State) (p : PartId) (r : Req), Machine.trackerFree s p.val = true → oldestStarved s p.val = some r →
  (s.coh.inbox.any (fun x => x.num == r.num) = true →
    exec (.trackerFree p) s = .next (takeInbox { s with coh := { s.coh with starved := s.coh.starved.filter (· != r.num) } } r)) ∧
  (s.coh.inbox.any (fun x => x.num == r.num) = false → exec (.trackerFree p) s = .next (takeUp s (reqLine r)))

/-- The first request that waits on a line no longer Blocked is ordered and leaves the queue (R99): a RdNC of a line that nobody holds has
its answer pending, a write of such a line is issued. -/
def Claims.waitQueueTakeUp : Prop := ∀ (s : State) (off : PoolOff) (r : Req), s.coh.waitQ.find? (fun r => reqLine r == off.toNat / 64) = some r →
  lineBlocked s (off.toNat / 64) = false → farMode s (off.toNat / 64) ≠ .far → lineHeld s (off.toNat / 64) (isWriteKind r.kind) = false →
  dirAt s (off.toNat / 64) = none →
  (r.kind = .rdNC → exec (.waitQueueTakeUp off) s = .next (dropWait (pendRead s (off.toNat / 64) r .cmpI) r)) ∧
  (r.kind = .wrLine → Claims.Backed s r →
    exec (.waitQueueTakeUp off) s = .next (dropWait (noteTransfer (openTrans (markDirty s (off.toNat / 64)) (off.toNat / 64) r false false []) (off.toNat / 64)) r))

/-- A recall of a partition with fewer than 256 recall snoops in the last µs sends its next snoop, counted for its work (R104). -/
def Claims.recallSnoopIssue : Prop := ∀ (s u : State) (p : PartId) (line k : Nat) (t : Trans) (n : Snoop) (rk : RecallKind),
  ((tblGet s.coh.recallTimes p.val []).filter (fun t => s.now < t + 1000)).length < 256 →
  s.coh.trans.find? (recallOpen s p.val) = some (line, t) → t.kind = .recalls rk k → t.snoops.find? (recallReady s line) = some n →
  u = setTrans (modStat (emitSnoop s line { n with stag := freshStag s line n.dest }) k (fun x => { x with snoops := x.snoops + 1 })) line
    { t with snoops := t.snoops.map (fun m => if m.dest = n.dest then { m with sentAt := some s.now, stag := freshStag s line n.dest } else m) } →
  exec (.recallSnoopIssue p) s = .next { u with coh := { u.coh with
    recallTimes := tblPut u.coh.recallTimes p.val (u.now :: (tblGet s.coh.recallTimes p.val []).filter (fun t => s.now < t + 1000)) } }

/-- A line of an HBM stack that comes back clean supplies the oldest read that waits for it (R102). -/
def Claims.memoryReadDone : Prop := ∀ (s : State) (off : PoolOff) (b : Back) (c : LineChecks), readAwaited s (off.toNat / 64) = true →
  s.coh.rereads.contains (off.toNat / 64) = false → s.coh.refetch.contains (off.toNat / 64) = false → lineServed s (off.toNat / 64) = true →
  backAt s (off.toNat / 64 / 1024) = some b → locTier b.loc = .t0 → checksBad c = false →
  exec (.memoryReadDone off c) s = .next (deliverRead (noteFixed (takeWindow s (off.toNat / 64)) (off.toNat / 64) (checksFixed c)) (off.toNat / 64) false)

/-- The oldest buffered write of a line reaches memory: the memory copy then holds its data (R91, R98). -/
def Claims.memoryWriteDone : Prop := ∀ (s u : State) (off : PoolOff) (w : WbEntry), lineServed s (off.toNat / 64) = true →
  s.coh.wbBuf.find? (fun w => w.line == off.toNat / 64) = some w → u = takeWindow s (off.toNat / 64) →
  exec (.memoryWriteDone off) s = .next (endTrans (storeLine { u with coh := { u.coh with wbBuf := u.coh.wbBuf.erase w } } (off.toNat / 64) w.data w.poison)
    (off.toNat / 64))

/-- The ring answers the broadcast snoop `n` once for all its members; where it keeps nothing, no member keeps a copy (R107). -/
def Claims.ringBroadcastResponse : Prop := ∀ (s : State) (off : PoolOff) (t : Trans) (n : Snoop), transAt s (off.toNat / 64) = some t →
  t.snoops.find? (fun n => n.dest == .ring && n.sentAt.isSome) = some n →
  exec (.ringBroadcastResponse off .none none) s = .next (dropUnitCopies (progress (setTrans s (off.toNat / 64)
    { t with snoops := t.snoops.filter (fun n => n.dest != .ring) }) (off.toNat / 64)) (off.toNat / 64)) ∧
  (n.kind ≠ .inv → exec (.ringBroadcastResponse off .shared none) s = .next (progress (setTrans s (off.toNat / 64)
    { t with snoops := t.snoops.filter (fun n => n.dest != .ring), kept := t.kept ++ [.ring] }) (off.toNat / 64))) ∧
  (n.kind = .cur → exec (.ringBroadcastResponse off .same none) s = .next (progress (setTrans s (off.toNat / 64)
    { t with snoops := t.snoops.filter (fun n => n.dest != .ring), kept := t.kept ++ [.ring] }) (off.toNat / 64)))

/-- A snoop unanswered for half the timeout is sent once more (R108). -/
def Claims.snoopRetry : Prop := ∀ (s : State) (off : PoolOff) (dst : Endpoint) (t : Trans) (n : Snoop) (t0 : Nat), transAt s (off.toNat / 64) = some t →
  t.snoops.find? (fun n => n.dest == .ep dst) = some n → n.sentAt = some t0 → n.retried = false →
  t0 + snpTimeout s (linePart (off.toNat / 64)) / 2 ≤ s.now →
  Runs (.snoopRetry off dst) s (fun u => transAt u (off.toNat / 64) =
    some { t with snoops := t.snoops.map (fun m => if m.dest = n.dest then { m with retried := true } else m) })

/-- A snoop unanswered for the whole timeout fences its endpoint's host port and is recorded (R109). -/
def Claims.snoopTimeout : Prop := ∀ (s u : State) (off : PoolOff) (dst : Endpoint) (t : Trans) (n : Snoop) (t0 q : Nat),
  transAt s (off.toNat / 64) = some t → t.snoops.find? (fun n => n.dest == .ep dst) = some n → n.sentAt = some t0 →
  t0 + snpTimeout s (linePart (off.toNat / 64)) ≤ s.now →
  u = regSet (bump (homeErr s (linePart (off.toNat / 64)) 0) (homeCnt (linePart (off.toNat / 64)) 4)) (sliceBase (linePart (off.toNat / 64)) + 0x8018)
    (BitVec.ofNat 64 (dst.toNat + off.toNat / 64 % 2 ^ 42 * 2 ^ 16)) → epPort u dst = some q → localFenced u q = false →
  exec (.snoopTimeout off dst) s = .next (fenceFor u (portDom (switchId u) q) 5 dst.toNat (fun c => c.lines))

/-- Once the sweep for a fenced endpoint is done, no entry with precise holders names it (R110). -/
def Claims.filterSweepEnd : Prop := ∀ (s : State) (dst : Endpoint), s.coh.sweeps.contains dst.toNat = true →
  Runs (.filterSweepEnd dst) s (fun t => ∀ e ∈ t.coh.dir, e.2.coarse = none → dst ∉ e.2.precise)

/-- Each kind of CXL.mem read that its port takes comes in as the coherence request that R112 maps it to. -/
def Claims.cxlMemrd : Prop := ∀ (s u : State) (m : CxlReq) (off : Nat), u = cxlCount s m.port.val 0 → CxlTakes u m off →
  exec (.cxlMemrd m .noOp) s = .next (Entered u (cxlReq u m .rdNC off)) ∧
  exec (.cxlMemrd m .i) s = .next (Entered u (cxlReq u m .rdNC off)) ∧
  exec (.cxlMemrd m .s) s = .next (Entered u (cxlReq u m .rdShared off)) ∧
  exec (.cxlMemrd m .a) s = .next (Entered u (cxlReq u m .rdOwn off))
/-- CXL MemRdData comes in as RdShared (R112). -/
def Claims.cxlMemrddata : Prop := ∀ (s u : State) (m : CxlReq) (off : Nat), u = cxlCount s m.port.val 0 → CxlTakes u m off →
  exec (.cxlMemrddata m) s = .next (Entered u (cxlReq u m .rdShared off))
/-- A CXL write while its host owns the line is a WbDirty, taken in where the writeback buffer has room; any other is a WrLine (R112, R113). -/
def Claims.cxlMemwr : Prop := ∀ (s u : State) (m : CxlReq) (d : Line) (p : Bool) (off : Nat), u = cxlCount s m.port.val 1 → CxlTakes u m off →
  (wbExpected u (off / 64) (portEp u m.port.val) (cxlKey u m.port.val) = false →
    exec (.cxlMemwr m d p) s = .next (Entered u { cxlReq u m .wrLine off with data := d, poison := p })) ∧
  (wbExpected u (off / 64) (portEp u m.port.val) (cxlKey u m.port.val) = true → wbRoom u (linePart (off / 64)) = true →
    exec (.cxlMemwr m d p) s = .next (takeWb (noteWb u m.port.val (portEp u m.port.val) m.tag.toNat) (off / 64) m.port.val (portEp u m.port.val)
      (cxlKey u m.port.val) m.tag.toNat d p))
/-- CXL MemWrPtl comes in as WrPtl with its byte mask (R112). -/
def Claims.cxlMemwrptl : Prop := ∀ (s u : State) (m : CxlReq) (d : Line) (k : BitVec 64) (p : Bool) (off : Nat), u = cxlCount s m.port.val 1 → CxlTakes u m off →
  exec (.cxlMemwrptl m d k p) s = .next (Entered u { cxlReq u m .wrPtl off with data := d, mask := k, poison := p })
/-- MemClnEvct takes its host off the line's entry (R112). -/
def Claims.memclnevct : Prop := ∀ (s u : State) (m : CxlReq) (off : Nat) (e : DirEntry), u = cxlCount s m.port.val 0 → CxlTakes u m off →
  dirAt u (off / 64) = some e →
  (removeHolder e (portEp u m.port.val) = none → exec (.memclnevct m) s = .next (dropDir u (off / 64))) ∧
  (∀ x, removeHolder e (portEp u m.port.val) = some x → exec (.memclnevct m) s = .next (setDir u (off / 64) x))
/-- MemSpecRd is accepted and ignored; only its counter moves (R442). -/
def Claims.memspecrd : Prop := ∀ (s : State) (m : CxlReq), exec (.memspecrd m) s = .next (bump s (cxlCnt m.port.val 0))
/-- MemInv completes with Cmp and changes no line (R442). -/
def Claims.meminv : Prop := ∀ (s : State) (m : CxlReq), Runs (.meminv m) s (fun t => t.out = s.out ++ [.send m.port.val "Cmp" [m.tag.toNat]] ∧
  t.coh = s.coh ∧ t.pool = s.pool ∧ flag t (portBase m.port.val + 0x910) 5 = true)
/-- A BI response of a CXL host comes with the key of its port's table and answers the snoop `n` of its tag that waits for it (R113, R441). -/
def Claims.BiAnswered (s : State) (p : PortId) (line tag : Nat) (n : Snoop) (t : Trans) : Prop :=
  isHostPort s p.val = true ∧ isCxl s p.val = true ∧ ingressKey s p.val (cxlKey s p.val) = true ∧ transAt s line = some t ∧
  t.snoops.find? (fun n => n.dest == .ep (portEp s p.val) && n.sentAt.isSome && n.stag == tag) = some n ∧ n.retried = false

/-- BIRspI answers the snoop of its host: no copy is kept (R113). -/
def Claims.birspi : Prop := ∀ (s : State) (p : PortId) (off : PoolOff) (g : BitVec 14) (t : Trans) (n : Snoop),
  Claims.BiAnswered s p (off.toNat / 64) g.toNat n t → t.wbGot.contains (portEp s p.val) = true →
  exec (.birspi p off g) s = .next (progress (setTrans s (off.toNat / 64) { t with snoops := t.snoops.filter (fun n => n.dest != .ep (portEp s p.val)) }) (off.toNat / 64))
/-- BIRspS answers the snoop of its host: a shared copy is kept (R113). -/
def Claims.birsps : Prop := ∀ (s : State) (p : PortId) (off : PoolOff) (g : BitVec 14) (t : Trans) (n : Snoop),
  Claims.BiAnswered s p (off.toNat / 64) g.toNat n t → n.kind ≠ .inv →
  exec (.birsps p off g) s = .next (progress (setTrans s (off.toNat / 64) { t with
    snoops := t.snoops.filter (fun n => n.dest != .ep (portEp s p.val)), kept := t.kept ++ [.ep (portEp s p.val)] }) (off.toNat / 64))
/-- BIRspE answers a SnpCur of its host: its state is kept (R113). -/
def Claims.birspe : Prop := ∀ (s : State) (p : PortId) (off : PoolOff) (g : BitVec 14) (t : Trans) (n : Snoop),
  Claims.BiAnswered s p (off.toNat / 64) g.toNat n t → n.kind = .cur →
  exec (.birspe p off g) s = .next (progress (setTrans s (off.toNat / 64) { t with
    snoops := t.snoops.filter (fun n => n.dest != .ep (portEp s p.val)), kept := t.kept ++ [.ep (portEp s p.val)] }) (off.toNat / 64))
/-- A BIConflict is acknowledged after the completion it conflicts with (R113). -/
def Claims.biconflict : Prop := ∀ (s u : State) (p : PortId) (off : PoolOff), isHostPort s p.val = true → isCxl s p.val = true →
  u = bump s (homeCnt (linePart (off.toNat / 64)) 10) →
  exec (.biconflict p off) s = .next (releaseBiAcks { u with coh := { u.coh with biAcks := u.coh.biAcks ++ [(off.toNat / 64, portEp u p.val)] } })

/-- An AtomComb that waits at its home, whose turn has come, is applied as one write of a line that nobody holds (R153, R144). -/
def Claims.atomcomb : Prop := ∀ (s : State) (r q : Req), r.kind = .atomComb → isHostPort s r.port.val = false →
  s.coh.inbox.any (fun x => x.src == r.src && x.tag == r.tag && x.kind == .atomComb) = true →
  inboxReq s [.atomComb] r.src r.tag = some q → Claims.Clear s q → q.kind = .atomComb → atomMalformed q.atom (q.addr.toNat % 64) = false →
  Claims.Backed s q → dirAt s (reqLine q) = none →
  exec (.atomcomb r) s = .next (dropInbox (noteTransfer (openTrans (markDirty s (reqLine q)) (reqLine q) q false false []) (reqLine q)) q)
/-- Each contributor of a combined group takes the result whose endpoint and tag are its own; one without a return takes none (R153, R424). -/
def Claims.cmpcomb : Prop := ∀ (s : State) (p : PortId) (tag : BitVec 14) (vs : List CombRes) (b : Bool) (x : Split),
  s.atm.splits.find? (fun x => x.port == p.val && x.tag == tag) = some x →
  Runs (.cmpcomb p tag vs b) s (fun t => t.atm.splits = s.atm.splits.erase x ∧
    t.coh.toRetire = s.coh.toRetire ++ x.recs.filterMap (contributorDone s p.val b vs))
/-- A free replay entry goes to the oldest atomic held for one (R155). -/
def Claims.replayEntryFree : Prop := ∀ (s : State) (p : PartId) (r : Req),
  s.coh.inbox.find? (fun r => reqPart r == p.val && s.atm.replayWait.contains r.num) = some r → replayHeld s r = false →
  exec (.replayEntryFree p) s = .next (takeInbox { s with atm := { s.atm with replayWait := s.atm.replayWait.filter (· != r.num) } } r)
/-- A line whose recall has ended goes Far with its memory copy in its buffer and no filter entry (R148). -/
def Claims.farEnter : Prop := ∀ (s : State) (off : PoolOff) (h : Hot), hotAt s (off.toNat / 64) = some h → h.mode = .entering → recallDone s h.tag = true →
  transAt s (off.toNat / 64) = none → s.coh.wbBuf.any (fun w => w.line == off.toNat / 64) = false → farBarred s (off.toNat / 64) = none →
  Runs (.farEnter off) s (fun t => dirAt t (off.toNat / 64) = none ∧ t.pool = s.pool ∧ hotAt t (off.toNat / 64) =
    some { h with mode := .far, buf := (memLine s (off.toNat / 64)).1, poison := (memLine s (off.toNat / 64)).2, lastReq := s.now })
/-- A read of a Far line is answered from its buffer without a copy being granted (R149). -/
def Claims.farLineOp : Prop := ∀ (s : State) (off : PoolOff) (h : Hot) (r : Req) (q : List Req), hotAt s (off.toNat / 64) = some h → h.mode = .far →
  s.coh.waitQ.filter (fun r => reqLine r == off.toNat / 64) = r :: q → r.kind = .rdShared → r.origin ≠ .cxl →
  lineHeld s (off.toNat / 64) false = false →
  exec (.farLineOp off) s = .next (completeReq (bump (dropWait s r) (farCnt (linePart (off.toNat / 64)) 3)) r .cmpFar .ok (some h.buf) h.poison [])
/-- A Far line with no request for QUIET_US leaves Far mode (R148). -/
def Claims.farQuietExpire : Prop := ∀ (s : State) (off : PoolOff) (h : Hot), hotAt s (off.toNat / 64) = some h → h.mode = .far →
  h.lastReq + 1000 * farCfg s (linePart (off.toNat / 64)) 32 10 ≤ s.now → s.coh.waitQ.any (fun r => reqLine r == off.toNat / 64) = false →
  Runs (.farQuietExpire off) s (fun t => hotAt t (off.toNat / 64) = some { h with mode := .leaving } ∧ t.pool = s.pool)
/-- The exit write done, the line is near with its buffer in memory (R148). -/
def Claims.farExitDone : Prop := ∀ (s : State) (off : PoolOff) (h : Hot), hotAt s (off.toNat / 64) = some h → h.mode = .leaving →
  exec (.farExitDone off) s = .next (setHot (storeLine s (off.toNat / 64) h.buf h.poison) (off.toNat / 64)
    { h with mode := .near, xfers := [], buf := 0, poison := false })

/-! ## Shelves, drafts and drawers (07) -/

/-- A descriptor forwarded to its home passes the checks that are the home's and waits there under its switch's handle (R165). -/
def Claims.forwardedDescriptor : Prop := ∀ (s : State) (sw : BitVec 12) (h : Handle) (key : Key) (d : Line) (row : OpRow),
  handleOf s (remoteRef sw.toNat h.toNat) = none → opRow (dOp d) = some row → reservedFault d row = none → imageOf d = none →
  Runs (.forwardedDescriptor sw h key d) s (fun t => ∃ r, handleOf t (remoteRef sw.toNat h.toNat) = some r ∧ r.key = key ∧ r.phase = .live ∧ r.remote = some sw.toNat ∧ r.desc = d ∧
    r.opcode = dOp d)

/-- SHELF_CREATE by the owner of an extent that holds the region, which meets no shelf, no drawer and no allocated page, takes the lowest free
index; version 1 is its head and is empty (R166, R170, R178). -/
def Claims.shelfCreate : Prop := ∀ (s : State) (h : HRef) (r : HandleRec) (x : Extent) (i : Nat), startable s h.toNat 0x20 = some r →
  2 ≤ d32 r.desc 12 → d32 r.desc 12 ≤ 256 → d64 r.desc 16 % 65536 = 0 → d64 r.desc 24 % 65536 = 0 → 65536 ≤ d64 r.desc 24 → d64 r.desc 24 ≤ 1099511627776 →
  extentById s (d32 r.desc 8) = some x → x.owner = r.key → x.base ≤ d64 r.desc 16 →
  d64 r.desc 16 + d32 r.desc 12 * d64 r.desc 24 ≤ x.base + x.len →
  objectOverlap s (d64 r.desc 16, d64 r.desc 16 + d32 r.desc 12 * d64 r.desc 24) = false →
  anyAllocated s (d64 r.desc 16) (d64 r.desc 16 + d32 r.desc 12 * d64 r.desc 24) = false →
  i = lowestFree (tblHas s.obj.shelves) 65536 0 → i < 65536 →
  exec (.shelfCreate h) s = .next (commit (objChanged (setShelf s i { extent := x.id, base := d64 r.desc 16, size := d64 r.desc 24, slotCount := d32 r.desc 12, versions := [(1, [])], changes := [(1, [])] })) h.toNat .ok (BitVec.ofNat 64 (shelfId s i)) 1)

/-- SHELF_OPEN of a version that no slot shows takes the first free slot and shows the version's pages there (R169, R170, R178). -/
def Claims.shelfOpen : Prop := ∀ (s : State) (h : HRef) (r : HandleRec) (i v k : Nat) (x : Shelf), startable s h.toNat 0x21 = some r → d32 r.desc 12 ≠ 0 →
  shelfOf s r.desc = some (i, x) → (shelfAccess s x r.key).isSome = true → versionOf x (d32 r.desc 12) = .inr v →
  x.slots.find? (fun e => e.2.st == .view && e.2.version == v) = none → freeSlot x = some k → canPin x v = true →
  exec (.shelfOpen h) s = .next (commit (mapSlot (objChanged (setSlot s i k { st := .view, version := v, opens := [(r.key, 1)] })) x k (tblGet x.versions v []))
    h.toNat .ok (BitVec.ofNat 64 (slotLo x k)) (BitVec.ofNat 64 (v + k * 2 ^ 32)))

/-- The last SHELF_CLOSE of a view sends its slot to CLOSING with a recall, and answers 0 opens left (R169). -/
def Claims.shelfClose : Prop := ∀ (s : State) (h : HRef) (r : HandleRec) (i : Nat) (x : Shelf) (l : Slot), startable s h.toNat 0x22 = some r →
  shelfOf s r.desc = some (i, x) → d8 r.desc 12 < x.slotCount → slotOf x (d8 r.desc 12) = l → l.st = .view → l.opens = [(r.key, 1)] →
  exec (.shelfClose h) s = .next (commit (closeSlot s i (d8 r.desc 12) x { l with opens := [] } .exclusive) h.toNat .ok 0 0)

/-- DRAFT_BEGIN of a version by a key with RW shows its pages in a free slot, writable by that key alone (R169, R170). -/
def Claims.draftBegin : Prop := ∀ (s : State) (h : HRef) (r : HandleRec) (i v k : Nat) (x : Shelf), startable s h.toNat 0x23 = some r → d32 r.desc 12 ≠ 0 →
  shelfOf s r.desc = some (i, x) → shelfAccess s x r.key = some true → versionOf x (d32 r.desc 12) = .inr v → freeSlot x = some k → canPin x v = true →
  exec (.draftBegin h) s = .next (commit (mapSlot (objChanged (setSlot s i k { st := .draft, base := v, writer := r.key })) x k (tblGet x.versions v []))
    h.toNat .ok (BitVec.ofNat 64 (slotLo x k)) (BitVec.ofNat 64 (v + k * 2 ^ 32)))

/-- DRAFT_PUBLISH of a draft at the base its descriptor names (0xFFFFFFFF is the head) joins its shelf's queue; the slot is read-only from then on (R173, R175). -/
def Claims.draftPublish : Prop := ∀ (s : State) (h : HRef) (r : HandleRec) (i k : Nat) (x : Shelf) (l : Slot), startable s h.toNat 0x24 = some r →
  d32 r.desc 16 ≠ 0 → draftOf s r = .ok (i, x, k, l) → (d32 r.desc 16 = l.base ∧ l.base ≠ 0xFFFFFFFF ∨ d32 r.desc 16 = 0xFFFFFFFF ∧ x.head = l.base) → x.head ≠ 0xFFFFFFFE →
  exec (.draftPublish h) s = .next (markStarted (queueRecalls (setShelf (newTag (objChanged s)).2 i { x with slots := tblPut x.slots k { l with st := .publishing }, queue := x.queue ++ [{ handle := h.toNat, slot := k, merge := dFlag r.desc 2, tag := (newTag (objChanged s)).1, chk := (newTag (objChanged s)).2.obj.objSeq }] })
    (slotLo x k) (slotHi x k) .downgrade (newTag (objChanged s)).1 (fun _ e => (ownerOf e).isSome)) h.toNat)

/-- DRAFT_DISCARD closes the draft's slot with a discarding recall; its private pages are counted (R169). -/
def Claims.draftDiscard : Prop := ∀ (s : State) (h : HRef) (r : HandleRec) (i k : Nat) (x : Shelf) (l : Slot), startable s h.toNat 0x25 = some r →
  draftOf s r = .ok (i, x, k, l) →
  exec (.draftDiscard h) s = .next (markStarted (closeSlot s i k x { l with discard := some h.toNat } .discard) h.toNat)

/-- A publish whose recall and copies have ended, with nothing left to recall, writes back its Far lines and waits to be decided (R175). -/
def Claims.publishRecallEnd : Prop := ∀ (s : State) (h : HRef) (i : Nat) (x : Shelf) (q : Publish), publishOf s h.toNat = some (i, x, q) → q.stage = .recalling →
  recallDone s q.tag = true → drainedBefore s q.chk (slotLo x q.slot) (slotHi x q.slot) = true →
  s.obj.cows.any (fun c => c.shelf == i && c.slot == q.slot) = false → recallLeft s (slotLo x q.slot) (slotHi x q.slot) .downgrade q.tag = none →
  exec (.publishRecallEnd h) s = .next (dropStat (syncFar (setPublish s i x { q with stage := .recalled, fenced := !(statOf s q.tag).fenced.isEmpty })
    (slotLo x q.slot) (slotHi x q.slot)) q.tag)

/-- A publish whose base is still the head goes on to its commit with its private pages over the base's (R175). -/
def Claims.publishDecide : Prop := ∀ (s : State) (h : HRef) (i : Nat) (x : Shelf) (q : Publish), publishOf s h.toNat = some (i, x, q) → q.stage = .recalled →
  x.head ≠ 0xFFFFFFFE → x.queue.head? = some q → publishLive s h.toNat = true → pinned x (some q.slot) x.head = false → (slotOf x q.slot).base = x.head →
  exec (.publishDecide h) s = .next (setPublish s i x { q with stage := .deciding, newPages := withPrivs (tblGet x.versions x.head []) (slotOf x q.slot).privs })

/-- PUBLISH_COMMIT makes the next version the head, in one step, shows it in the publisher's slot and completes OK with its number (R175, R176). -/
def Claims.publishCommit : Prop := ∀ (s : State) (h : HRef) (i : Nat) (x x' : Shelf) (q : Publish), publishOf s h.toNat = some (i, x, q) → q.stage = .deciding →
  publishLive s h.toNat = true → q.fenced = false → q.merged = false → (statOf s q.tag).fenced = [] →
  x' = { x with head := x.head + 1, versions := tblPut x.versions (x.head + 1) q.newPages, changes := (tblPut x.changes (x.head + 1) (listDiff (tblGet x.versions x.head []) q.newPages)).filter (fun e => x.head + 1 < e.1 + 64), slots := tblPut x.slots q.slot { st := .view, version := x.head + 1, opens := [((slotOf x q.slot).writer, 1)] }, queue := x.queue.filter (fun y => y.handle != q.handle) } →
  exec (.publishCommit h) s = .next (commit (bump (dropStat (mapSlot (objChanged (setShelf s i x')) x' q.slot q.newPages) q.tag) (objCnt 0)) h.toNat .ok
    (BitVec.ofNat 64 (x.head + 1)) (BitVec.ofNat 64 (slotOf x q.slot).privs.length))

/-- A slot whose recall has ended is free again, and the pages that nothing uses any more are freed (R169, R171). -/
def Claims.slotFree : Prop := ∀ (s u : State) (i : BitVec 16) (k : BitVec 8) (x : Shelf) (l : Slot), tblFind s.obj.shelves i.toNat = some x →
  slotOf x k.toNat = l → l.st = .closing → l.discard = none → recallDone s l.tag = true →
  drainedBefore s l.chk (slotLo x k.toNat) (slotHi x k.toNat) = true → rangeNear s (slotLo x k.toNat) (slotHi x k.toNat) = true →
  placesGone s (slotLo x k.toNat) (slotHi x k.toNat) = true → s.obj.cows.any (fun c => c.shelf == i.toNat && c.slot == k.toNat) = false →
  recallLeft s (slotLo x k.toNat) (slotHi x k.toNat) (if l.disc then .discard else .exclusive) l.tag = none →
  u = objChanged (setSlot (dropStat s l.tag) i.toNat k.toNat {}) →
  exec (.slotFree i k) s = .next (releaseBacks (unmapSlot u x k.toNat).2 ((unmapSlot u x k.toNat).1 ++ l.privs.map (·.2)).eraseDups)

/-- A copied page becomes its draft's own, and its waiting requests go on (R172). -/
def Claims.cowCopyDone : Prop := ∀ (s : State) (p : BitVec 32) (c : CowCopy), s.obj.cows.find? (fun c => c.page == p.toNat) = some c →
  Runs (.cowCopyDone p) s (fun t => ∃ v : State, t = (((v.coh.waitQ.filter (fun r => reqLine r / 1024 == c.page)).map reqLine).eraseDups).foldl takeUp v ∧
    v.obj.cows = s.obj.cows.erase c ∧ backIdOf v c.page = some c.dst)

/-- A version that is not the head and that nothing pins is reclaimed with the pages that only it used (R171). -/
def Claims.versionReclaim : Prop := ∀ (s : State) (i : BitVec 16) (v : BitVec 32) (x : Shelf) (l : Tbl Nat), tblFind s.obj.shelves i.toNat = some x →
  tblFind x.versions v.toNat = some l → v.toNat ≠ x.head → pinned x none v.toNat = false →
  exec (.versionReclaim i v) s = .next (releaseBacks (setShelf s i.toNat { x with versions := tblErase x.versions v.toNat }) (l.map (·.2)))

/-- DRAWER_CREATE by a key with RW on the extent, over a range that meets no object, gives it an owned drawer with its lease (R180, R184, R185). -/
def Claims.drawerCreate : Prop := ∀ (s : State) (h : HRef) (r : HandleRec) (x : Extent) (i : Nat) (w : Drawer), startable s h.toNat 0x28 = some r →
  d64 r.desc 16 % 65536 = 0 → d64 r.desc 24 % 65536 = 0 → 65536 ≤ d64 r.desc 24 → d64 r.desc 24 ≤ 1099511627776 → extentById s (d32 r.desc 8) = some x →
  accessOf x r.key = some true → x.base ≤ d64 r.desc 16 → d64 r.desc 16 + d64 r.desc 24 ≤ x.base + x.len →
  objectOverlap s (d64 r.desc 16, d64 r.desc 16 + d64 r.desc 24) = false →
  i = lowestFree (fun i => (drawerOf s i).st != .free) s.obj.drawers.length 0 → i < 16777216 →
  w = { reuse := if tblHas s.obj.drawers i then ((drawerOf s i).reuse + 1) % 2 ^ 28 else 0, extent := x.id, base := d64 r.desc 16, len := d64 r.desc 24, owner := r.key, st := .owned, lease := if d32 r.desc 12 = 0 then none else some (s.now + msNs (d32 r.desc 12)) } →
  exec (.drawerCreate h) s = .next (commit (objChanged (setDrawer s i w)) h.toNat .ok (BitVec.ofNat 64 (drawerId s i w)) 0)

/-- DRAWER_OFFER by the owner at the current epoch to a tenant with RW puts the drawer in transit under the next epoch, with a downgrading
recall of its range (R182 to R184). -/
def Claims.drawerOffer : Prop := ∀ (s : State) (h : HRef) (r : HandleRec) (i : Nat) (z : Drawer), startable s h.toNat 0x29 = some r →
  dKeyAt r.desc 16 ≠ r.key → d16 r.desc 18 ≤ 1000 → drawerNamed s r.desc = some (i, z) →
  (drawerOf s i).owner = r.key → (drawerOf s i).st = .owned → d32 r.desc 20 = (drawerOf s i).epoch → isTenant s (dKeyAt r.desc 16) = true →
  (extentById s (drawerOf s i).extent).bind (fun x => accessOf x (dKeyAt r.desc 16)) = some true →
  Runs (.drawerOffer h) s (fun t => (drawerOf t i).st = .inTransit ∧ (drawerOf t i).epoch = ((drawerOf s i).epoch + 1) % 2 ^ 32 ∧
    (drawerOf t i).owner = r.key ∧ (drawerOf t i).target = some (dKeyAt r.desc 16) ∧ (drawerOf t i).recalled = false ∧
    (drawerOf t i).deadline = s.now + msNs (if d16 r.desc 18 = 0 then 20 else d16 r.desc 18))

/-- DRAWER_ACCEPT by the target at the offer's epoch, once the recall has ended, makes the target the owner (R182, R183). -/
def Claims.drawerAccept : Prop := ∀ (s : State) (h : HRef) (r : HandleRec) (i : Nat) (z : Drawer), startable s h.toNat 0x2A = some r →
  drawerNamed s r.desc = some (i, z) → (drawerOf s i).st = .inTransit → (drawerOf s i).offerH = none → (drawerOf s i).target = some r.key →
  d32 r.desc 16 = (drawerOf s i).epoch → (drawerOf s i).recalled = true →
  exec (.drawerAccept h) s = .next (acceptDone s i h.toNat)

/-- DRAWER_RELEASE by the owner starts the release (R182, R186). -/
def Claims.drawerRelease : Prop := ∀ (s : State) (h : HRef) (r : HandleRec) (i : Nat) (z : Drawer), startable s h.toNat 0x2B = some r →
  drawerNamed s r.desc = some (i, z) → (drawerOf s i).owner = r.key → (drawerOf s i).st = .owned →
  exec (.drawerRelease h) s = .next (markStarted (releaseStart s i (some h.toNat)) h.toNat)

/-- DRAWER_LEASE by the owner sets the lease anew from now (R185). -/
def Claims.drawerLease : Prop := ∀ (s u : State) (h : HRef) (r : HandleRec) (i : Nat) (z : Drawer), startable s h.toNat 0x2C = some r → dFlag r.desc 2 = false →
  drawerNamed s r.desc = some (i, z) → (drawerOf s i).owner = r.key → (drawerOf s i).st = .owned →
  u = setDrawer s i { drawerOf s i with lease := if d32 r.desc 16 = 0 then none else some (s.now + msNs (d32 r.desc 16)) } →
  exec (.drawerLease h) s = .next (commit u h.toNat .ok (BitVec.ofNat 64 ((drawerOf u i).owner.toNat + drawerCode (drawerOf u i).st * 2 ^ 16 + (drawerOf u i).epoch * 2 ^ 32))
    (BitVec.ofNat 64 (match (drawerOf u i).lease with
      | none => 0xFFFFFFFFFFFFFFFF
      | some e => (e - u.now) / 1000000)))

/-- DRAWER_LEASE with QUERY, by any key with access to the extent, changes nothing but its own record (R185). -/
def Claims.drawerLeaseQuery : Prop := ∀ (s : State) (h : HRef) (r : HandleRec) (i : Nat) (z : Drawer), startable s h.toNat 0x2C = some r → dFlag r.desc 2 = true →
  drawerNamed s r.desc = some (i, z) → drawerOf s i = z → z.st = .owned → ((extentById s z.extent).bind (fun x => accessOf x r.key)).isSome = true →
  exec (.drawerLeaseQuery h) s = .next (commit s h.toNat .ok (BitVec.ofNat 64 (z.owner.toNat + drawerCode z.st * 2 ^ 16 + z.epoch * 2 ^ 32))
    (BitVec.ofNat 64 (match z.lease with
      | none => 0xFFFFFFFFFFFFFFFF
      | some e => (e - s.now) / 1000000)))

/-- The end of an offer's recall lets a waiting ACCEPT through (R183). -/
def Claims.drawerRecallEnd : Prop := ∀ (s u : State) (d : BitVec 24) (w : Drawer), drawerOf s d.toNat = w → w.st = .inTransit → w.offerH = none → w.recalled = false →
  recallDone s w.tag = true → drainedBefore s w.chk w.base (w.base + w.len) = true → recallLeft s w.base (w.base + w.len) .downgrade w.tag = none →
  u = dropStat (setDrawer s d.toNat { w with recalled := true }) w.tag →
  (w.accepts.find? (publishLive u) = none → exec (.drawerRecallEnd d) s = .next u) ∧
  (∀ h, w.accepts.find? (publishLive u) = some h → exec (.drawerRecallEnd d) s = .next (acceptDone u d.toNat h))

/-- At an offer's deadline the drawer is its offerer's again, under the offer's epoch (R182, R183). -/
def Claims.drawerOfferDeadline : Prop := ∀ (s : State) (d : BitVec 24) (w : Drawer), drawerOf s d.toNat = w → w.st = .inTransit → w.offerH = none → w.deadline ≤ s.now →
  exec (.drawerOfferDeadline d) s = .next (drawerReturn (bump s (objCnt 5)) d.toNat)

/-- The end of a lease starts the drawer's release and tells its owner's policy module (R185). -/
def Claims.drawerLeaseExpiry : Prop := ∀ (s : State) (d : BitVec 24) (w : Drawer) (t : Nat), drawerOf s d.toNat = w → w.st = .owned → w.lease = some t → t ≤ s.now →
  exec (.drawerLeaseExpiry d) s = .next (pmEvent (bump (releaseStart s d.toNat none) (objCnt 7)) w.owner 2 (BitVec.ofNat 64 d.toNat))

/-- A released drawer's pages leave the map and its index is free for reuse (R182, R186). -/
def Claims.drawerReleaseDone : Prop := ∀ (s : State) (d : BitVec 24) (w : Drawer), drawerOf s d.toNat = w → w.st = .releasing → recallDone s w.tag = true →
  drainedBefore s w.chk w.base (w.base + w.len) = true → rangeNear s w.base (w.base + w.len) = true → placesGone s w.base (w.base + w.len) = true →
  recallLeft s w.base (w.base + w.len) .discard w.tag = none →
  Runs (.drawerReleaseDone d) s (fun t => drawerOf t d.toNat = { reuse := w.reuse })

/-! ## Tiering, movement and evacuation (08), code tables (09) -/

/-- An operation of the Winch starts: it is numbered, an engine takes it, and its handle is marked started (R199). -/
def Claims.Begins (s : State) (h : Nat) (o : WOp) : State := startOp (markStarted s h) o

/-- PLACE of a range that its key owns, without MOVE, puts its placement record in force and completes OK (R197). -/
def Claims.place : Prop := ∀ (s : State) (h : Handle) (r : HandleRec) (x : Extent) (n : PlaceRec), startable s h.toNat 0x30 = some r →
  d64 r.desc 8 % 65536 = 0 → d64 r.desc 16 % 65536 = 0 → d8 r.desc 24 = 1 → bitsOf (d8 r.desc 25) 0 2 ≠ 3 → d8 r.desc 26 = 0 → bitsOf (d8 r.desc 25) 7 1 = 0 →
  d64 r.desc 16 ≠ 0 → ownedRange s r.key (d64 r.desc 8) (d64 r.desc 16) = some x → tierAllowed x (tierOfNo (bitsOf (d8 r.desc 25) 0 2)) = true →
  n = { base := d64 r.desc 8, len := d64 r.desc 16, policy := .preferT0, age := d8 r.desc 27, backing := none, stackMask := bitsOf (d16 r.desc 28) 0 12, trayMask := d32 r.desc 32 } →
  placeCount s (putPlace s n) ≤ 65536 → pagesIn s (d64 r.desc 8) (d64 r.desc 8 + d64 r.desc 16) = [] →
  exec (.place h) s = .next (engineDone (markStarted { s with tier := { s.tier with places := putPlace s n } } h.toNat) h.toNat .ok 0 0)

/-- MIGRATE of a range that its key owns starts the moves of its allocated pages (R213). -/
def Claims.migrate : Prop := ∀ (s : State) (h : Handle) (r : HandleRec) (x : Extent), startable s h.toNat 0x33 = some r →
  d64 r.desc 8 % 65536 = 0 → d64 r.desc 16 % 65536 = 0 → d8 r.desc 24 ≤ 2 → ownedRange s r.key (d64 r.desc 8) (d64 r.desc 16) = some x →
  tierAllowed x (tierOfNo (d8 r.desc 24)) = true →
  exec (.migrate h) s = .next (Claims.Begins s h.toNat { kind := .migrate (tierOfNo (d8 r.desc 24)) (bitsOf (d16 r.desc 26) 0 12) (d32 r.desc 28) (dFlag r.desc 2), handle := some h.toNat, key := r.key, todo := (pagesIn s (d64 r.desc 8) (d64 r.desc 8 + d64 r.desc 16)).map .move })

/-- WINCH_WINDOW with its layer table read allocates and pins its slots in T0, takes the references of its CX-W layers and loads the first
layers (R205, R228). -/
def Claims.winchWindow : Prop := ∀ (s t u : State) (h : Handle) (r : HandleRec) (x : Extent) (b : List Byte) (ls : List Layer) (i : Nat), startable s h.toNat 0x31 = some r →
  dFlag r.desc 2 = false → d64 r.desc 8 % 65536 = 0 → 0 < d32 r.desc 16 → d32 r.desc 16 ≤ 262144 → 2 ≤ d8 r.desc 20 → d8 r.desc 20 ≤ 64 → d64 r.desc 24 % 64 = 0 →
  0 < d32 r.desc 32 → d32 r.desc 32 ≤ 65536 → d32 r.desc 36 ≤ d8 r.desc 20 → d32 r.desc 36 ≤ d32 r.desc 32 →
  ownedRange s r.key (d64 r.desc 8) (d8 r.desc 20 * d32 r.desc 16 * 65536) = some x → tierAllowed x .t0 = true → i = lowestFree (tblHas s.tier.windows) 256 0 → i < 256 →
  (pagesIn s (d64 r.desc 8) (d64 r.desc 8 + d8 r.desc 20 * d32 r.desc 16 * 65536)).any (pageFixed s) = false → r.imagePoison = false → r.image = some b →
  layerTable b (d32 r.desc 16 * 65536) (d32 r.desc 32) = some ls →
  windowPages x i ((List.range (d8 r.desc 20 * d32 r.desc 16)).map (fun j => d64 r.desc 8 / 65536 + j)) s = some t →
  u = (layerRefs t r.key ls).foldl (fun s e => addRef s e.2.1 e.2.2) t → d16 r.desc 22 ≠ 0 →
  exec (.winchWindow h) s = .next (Claims.Begins { u with tier := { u.tier with windows := tblPut u.tier.windows i { base := d64 r.desc 8, slotPages := d32 r.desc 16, slots := d8 r.desc 20, engMask := d16 r.desc 22, key := r.key, layers := ls, refs := layerRefs t r.key ls } } } h.toNat
    { kind := .window i, handle := some h.toNat, key := r.key, level := 3, engMask := d16 r.desc 22, todo := (List.range (d32 r.desc 36)).flatMap (fun l => layerWorks i l (d32 r.desc 16)) })

/-- Closing a window with no live ADVANCE drops it, its pins and its references (R205). -/
def Claims.winchWindowClose : Prop := ∀ (s : State) (h : Handle) (r : HandleRec) (w : Window), startable s h.toNat 0x31 = some r → dFlag r.desc 2 = true →
  windowOf? s (d16 r.desc 40) = some w → w.closing = none → w.key = r.key → w.live = 0 →
  exec (.winchWindowClose h) s = .next (dropWindow (markStarted { s with tier := { s.tier with windows := tblPut s.tier.windows (d16 r.desc 40) { w with closing := some h.toNat } } } h.toNat) (d16 r.desc 40))

/-- WINCH_ADVANCE loads the next layers of a window into their slots (R206). -/
def Claims.winchAdvance : Prop := ∀ (s : State) (h : Handle) (r : HandleRec) (w : Window), startable s h.toNat 0x32 = some r →
  windowOf? s (d16 r.desc 8) = some w → w.closing = none → w.key = r.key → d32 r.desc 12 < w.layers.length → 0 < d32 r.desc 16 → d32 r.desc 16 ≤ w.slots →
  d32 r.desc 12 + d32 r.desc 16 ≤ w.layers.length →
  exec (.winchAdvance h) s = .next (Claims.Begins { s with tier := { s.tier with windows := tblPut s.tier.windows (d16 r.desc 8) { w with live := w.live + 1 } } } h.toNat
    { kind := .advance (d16 r.desc 8), handle := some h.toNat, key := r.key, level := 3, engMask := w.engMask, todo := (List.range (d32 r.desc 16)).flatMap (fun j => layerWorks (d16 r.desc 8) (d32 r.desc 12 + j) w.slotPages), r0 := word (d32 r.desc 12 + d32 r.desc 16 - 1) })

/-- FLUSH of a range that its key may write writes back its backed pages; pages without a copy are counted as skipped (R212). -/
def Claims.flush : Prop := ∀ (s : State) (h : Handle) (r : HandleRec) (m b : List Nat), startable s h.toNat 0x34 = some r → d64 r.desc 8 % 4096 = 0 →
  (d64 r.desc 8 + d64 r.desc 16) % 4096 = 0 → coveredRW s r.key s.pool.extents.length (d64 r.desc 8) (d64 r.desc 8 + d64 r.desc 16) = true →
  m = pagesIn s (d64 r.desc 8 / 65536 * 65536) (d64 r.desc 8 + d64 r.desc 16) → b = m.filter (fun p => (backAt s p).any (fun b => b.copy.isSome)) →
  exec (.flush h) s = .next (Claims.Begins s h.toNat { kind := .flush, handle := some h.toNat, key := r.key, todo := b.map (fun p => .writeback p (d64 r.desc 8) (d64 r.desc 8 + d64 r.desc 16)), skipped := m.length - b.length })

/-- COPY of two ranges that do not meet starts one unit for each page part of the destination (R199, R214). -/
def Claims.copy : Prop := ∀ (s : State) (h : Handle) (r : HandleRec), startable s h.toNat 0x58 = some r → d64 r.desc 8 % 64 = 0 → d64 r.desc 8 < 2 ^ 60 →
  d64 r.desc 16 % 64 = 0 → d64 r.desc 16 < 2 ^ 60 → d64 r.desc 24 % 64 = 0 → d64 r.desc 24 ≤ 2 ^ 48 →
  meets (d64 r.desc 8, d64 r.desc 8 + d64 r.desc 24) (d64 r.desc 16, d64 r.desc 16 + d64 r.desc 24) = false →
  exec (.copy h) s = .next (Claims.Begins s h.toNat { kind := .copy, handle := some h.toNat, key := r.key, todo := (unitsOf (d64 r.desc 16) (d64 r.desc 24)).map (fun u => .copy (d64 r.desc 8 + u.1) (d64 r.desc 16 + u.1) u.2) })

/-- FILL starts its units (R209). -/
def Claims.fill : Prop := ∀ (s : State) (h : Handle) (r : HandleRec), startable s h.toNat 0x59 = some r → dFlag r.desc 2 = false → fillBad r.desc = none →
  exec (.fill h) s = .next (Claims.Begins s h.toNat { kind := .fill, handle := some h.toNat, key := r.key, todo := fillWorks r.desc })

/-- FILL with LAZY notes every page of its range as awaiting its fill (R209). -/
def Claims.fillLazy : Prop := ∀ (s : State) (h : Handle) (r : HandleRec) (x : Extent) (off n : Nat), startable s h.toNat 0x59 = some r → dFlag r.desc 2 = true → fillBad r.desc = none →
  off = d64 r.desc 8 % 281474976710656 → off % 65536 = 0 → isLocal s (d64 r.desc 8) = true → d64 r.desc 16 = n * 65536 → extentOver s off (n * 65536) = some x →
  accessOf x r.key = some true → s.tier.ops.length < 16 →
  Runs (.fillLazy h) s (fun t => ∃ a : Nat × State, a = addOp (markStarted s h.toNat) { kind := .lazy (off / 65536) n, handle := some h.toNat, key := r.key, todo := fillWorks r.desc } ∧
    t = finishOp ((List.range n).foldl (fun s i => { s with tier := { s.tier with awaiting := tblPut s.tier.awaiting (off / 65536 + i) (a.1, false) } }) a.2) a.1)

/-- A unit that could be carried out leaves its operation's issued units, and its bytes are counted (R71, R199); one whose writes went to another
switch does so once they are acknowledged. -/
def Claims.winchUnitDone : Prop := ∀ (s : State) (n : BitVec 32) (o : WOp) (u : WIssued) (us : List WIssued), opOf s n.toNat = some o → o.issued = u :: us →
  u.bad = none → isLazy o = false →
  (u.sent = true → exec (.winchUnitDone n .done) s = .next (unitDone s n.toNat o us u u.count)) ∧
  (∀ (r : UnitResult) (sup : Supply) (v : State) (q : WOp) (c : Nat), u.sent = false →
    supplyOf u.work ((workReads s u.work ++ workWrites s n.toNat u.work).any (fun x => !isLocal s x.1)) r = some (.inr sup) →
    runUnit s n.toNat o u sup = .done v q c → exec (.winchUnitDone n r) s = .next (unitDone v n.toNat q us u c))

/-- A page of a lazy fill that was carried out no longer awaits, and its waiting requests go on (R209). -/
def Claims.lazyFillPageDone : Prop := ∀ (s v : State) (p : BitVec 32) (i c : Nat) (w : Bool) (o q : WOp) (u : WIssued) (b : List Byte), tblFind s.tier.awaiting p.toNat = some (i, w) →
  opOf s i = some o → o.issued.find? (fun u => (workWrites s i u.work).any (fun x => x.1 % 2 ^ 48 / 65536 == p.toNat)) = some u → u.bad = none →
  (runUnit s i o u { bytes := b } = .done v q c ∨ runUnit s i o u { bytes := b } = .away v q c) →
  exec (.lazyFillPageDone p (.data b)) s = .next (pageFilled v i p.toNat q u c)

/-- An engine with work of a level above 5, and none of level 5, issues for that level (R198, R199). -/
def Claims.winchUnitIssue : Prop := ∀ (s u : State) (e : Fin 16), u = assignEngines (seedBackups s) → u.tier.deadEngines.contains e.val = false → warming u = false →
  (readyAt u e.val (· == 1)).isEmpty = false → (readyAt u e.val (· == 5)).isEmpty = true →
  exec (.winchUnitIssue e) s = .next (issueAt u e.val 1)

/-- A copied chunk switches its pages to their new places and notes the requests that may still use the old ones (R200). -/
def Claims.chunkCopied : Prop := ∀ (s : State) (n g : BitVec 32) (c : Chunk) (o : WOp) (ms : List MPage),
  s.tier.chunks.find? (fun c => c.op == n.toNat && c.range == g.toNat && c.stage == .copying) = some c → opOf s n.toNat = some o → o.handle = none →
  chunkDone s c = true → ms = c.pages.map (fun m => { m with old := ((backById s m.id).map (·.loc)).getD m.old }) →
  Runs (.chunkCopied n g) s (fun t => ∃ u v : State, u = ms.foldl (fun s m => switchPage s o m) s ∧
    v = placeMoved { u with tier := { u.tier with chunks := u.tier.chunks.map (fun x => if x = c then { c with stage := .switched, pages := ms, carried := (u.pool.flights.filter (fun f => (u.pool.pages.filter (fun e => c.pages.any (fun m => m.id == e.2))).any (fun e => e.1 == f.off / 65536))).map (fun f => (f.src, f.tag)) } else x) } } ∧
    t = finishOp (setOp (bump v (winchCnt 0)) n.toNat { o with bytes := o.bytes + 65536 * c.pages.length }) n.toNat)

/-- A switched chunk whose old requests have drained ends (R200). -/
def Claims.chunkDrained : Prop := ∀ (s : State) (n g : BitVec 32) (c : Chunk),
  s.tier.chunks.find? (fun c => c.op == n.toNat && c.range == g.toNat && c.stage == .switched) = some c →
  s.pool.flights.any (fun f => c.carried.contains (f.src, f.tag)) = false → exec (.chunkDrained n g) s = .next (endChunk s c)

/-- A backed page with a dirty sector of age gets a write-back at level 5, once (R211). -/
def Claims.writebackAgeExpire : Prop := ∀ (s : State) (p : BitVec 32) (b : Back), backAt s p.toNat = some b → b.copy.isSome = true →
  (dirtyIn s b p.toNat (p.toNat * 65536) (p.toNat * 65536 + 65536) true).isEmpty = false →
  workQueued s (.writeback p.toNat (p.toNat * 65536) (p.toNat * 65536 + 65536)) = false →
  exec (.writebackAgeExpire p) s = .next (addOp s { kind := .writeback, level := 5, todo := [.writeback p.toNat (p.toNat * 65536) (p.toNat * 65536 + 65536)] }).2

/-- An operation that journals, 1 ms after its last entry, journals its progress (R204). -/
def Claims.journalProgress : Prop := ∀ (s : State) (n : BitVec 32) (o : WOp), opOf s n.toNat = some o → journals o = true → msNs 1 ≤ s.now - o.journalAt →
  exec (.journalProgress n) s = .next (setOp s n.toNat { o with journalled := o.bytes, journalAt := s.now })

/-- STACK_EVACUATE of banks that exist starts their evacuation (R215, R259). -/
def Claims.stackEvacuate : Prop := ∀ (s : State) (h : Handle) (r : HandleRec), startable s h.toNat 0x35 = some r → d8 r.desc 8 ≤ 11 → d8 r.desc 9 ≤ 2 →
  d16 r.desc 10 ≤ 255 → 0 < d16 r.desc 12 → d16 r.desc 10 + d16 r.desc 12 ≤ 256 →
  exec (.stackEvacuate h) s = .next (startEvac (markStarted s h.toNat) (some h.toNat) r.key (d8 r.desc 8) (d8 r.desc 9) ((List.range (d16 r.desc 12)).map (fun i => d16 r.desc 10 + i)))

/-- CTABLE_LOAD of a valid image into a slot that its key may use installs the next generation and completes OK with it (R230, R231). -/
def Claims.ctableLoad : Prop := ∀ (s t : State) (h : Handle) (r : HandleRec) (b : List Byte) (c : CodeTab), startable s h.toNat 0x38 = some r → d64 r.desc 8 % 64 = 0 →
  d8 r.desc 20 ≠ 255 → r.imagePoison = false → r.image = some b → crc32c b = d32 r.desc 24 → tableOf b = some c → slotRefusal s (d8 r.desc 20) h.toNat r.key = none →
  t = installGen s (d8 r.desc 20) r.key c.cxa c.width c.lengths →
  exec (.ctableLoad h) s = .next (commit t h.toNat .ok (word (d8 r.desc 20 + (cslotOf t (d8 r.desc 20)).cur * 2 ^ 8)) (word (cslotOf t (d8 r.desc 20)).gens.length))

/-- BUILD starts to count the symbols of its source; its slot is in use until it ends (R232, R238). -/
def Claims.build : Prop := ∀ (s : State) (h : Handle) (r : HandleRec), startable s h.toNat 0x39 = some r → buildBad r.desc = none → d8 r.desc 41 = 0 →
  slotRefusal s (d8 r.desc 40) h.toNat r.key = none →
  exec (.build h) s = .next (startBuild (claimSlot s (d8 r.desc 40) h.toNat false) h.toNat r.key r.desc 0
    { handle := h.toNat, op := 0, mode := 0, slot := d8 r.desc 40, counts := List.replicate 268 0 } (countWorks (d64 r.desc 8) (d64 r.desc 16)))
/-- BUILD_ENCODE starts likewise, where the object table has room (R233). -/
def Claims.buildEncode : Prop := ∀ (s : State) (h : Handle) (r : HandleRec), startable s h.toNat 0x39 = some r → buildBad r.desc = none → d8 r.desc 41 = 1 →
  slotRefusal s (d8 r.desc 40) h.toNat r.key = none → objectsFull s = false →
  exec (.buildEncode h) s = .next (startBuild (claimSlot s (d8 r.desc 40) h.toNat false) h.toNat r.key r.desc 1
    { handle := h.toNat, op := 0, mode := 1, slot := d8 r.desc 40, counts := List.replicate 268 0 } (countWorks (d64 r.desc 8) (d64 r.desc 16)))
/-- ENCODE uses the current CX-A generation of its slot (R232, R233). -/
def Claims.encode : Prop := ∀ (s : State) (h : Handle) (r : HandleRec) (g : CGen), startable s h.toNat 0x39 = some r → buildBad r.desc = none → d8 r.desc 41 = 2 →
  slotForeign s (d8 r.desc 40) r.key = false → slotRetiring s (d8 r.desc 40) = false → cgenOf s (d8 r.desc 40) (cslotOf s (d8 r.desc 40)).cur = some g →
  g.cxa = true → objectsFull s = false →
  exec (.encode h) s = .next (startBuild s h.toNat r.key r.desc 2 { handle := h.toNat, op := 0, mode := 2, slot := d8 r.desc 40, gen := g.num, lengths := g.lengths }
    (encodeWorks (d64 r.desc 8) (d64 r.desc 16)))
/-- EXPAND of an object of its key starts one unit for each 64 KiB of it (R234). -/
def Claims.expand : Prop := ∀ (s : State) (h : Handle) (r : HandleRec) (x : CObj), startable s h.toNat 0x39 = some r → buildBad r.desc = none → d8 r.desc 41 = 3 →
  objectOf s r.key (d16 r.desc 42) = some x → x.raw ≤ d64 r.desc 32 →
  exec (.expand h) s = .next (Claims.Begins s h.toNat { kind := .expand (d16 r.desc 42), handle := some h.toNat, key := r.key, todo := (List.range ((x.raw + 65535) / 65536)).map (fun i => WWork.expand (d16 r.desc 42) (i * 65536) (Nat.min 65536 (x.raw - i * 65536)) (d64 r.desc 24 + i * 65536)) })
/-- RELEASE gives up an object's reference to its table (R228, R234). -/
def Claims.release : Prop := ∀ (s t : State) (h : Handle) (r : HandleRec) (x : CObj), startable s h.toNat 0x39 = some r → buildBad r.desc = none → d8 r.desc 41 = 4 →
  objectOf s r.key (d16 r.desc 42) = some x → t = { s with cmp := { s.cmp with objs := tblPut s.cmp.objs (d16 r.desc 42) { x with gone := true } } } →
  exec (.release h) s = .next (engineDone (pruneObjs (dropRef (markStarted t h.toNat) x.slot x.gen)) h.toNat .ok 0 0)
/-- CTABLE_RETIRE of generations without references drops them (R235). -/
def Claims.ctableRetire : Prop := ∀ (s : State) (h : Handle) (r : HandleRec) (gs : List Nat), startable s h.toNat 0x3A = some r → dFlag r.desc 2 = false → d8 r.desc 8 ≠ 255 →
  slotForeign s (d8 r.desc 8) r.key = false → slotLive s (d8 r.desc 8) = false → gs = namedGens s (d8 r.desc 8) (d8 r.desc 9) →
  (gs.map (genRefs s (d8 r.desc 8))).sum = 0 →
  exec (.ctableRetire h) s = .next (engineDone (dropGens (markStarted s h.toNat) (d8 r.desc 8) gs) h.toNat .ok 0 (word gs.length))
/-- With RECODE, the objects of the retired generations are encoded anew under another table (R236). -/
def Claims.ctableRetireRecode : Prop := ∀ (s t : State) (h : Handle) (r : HandleRec) (gs os : List Nat), startable s h.toNat 0x3A = some r → dFlag r.desc 2 = true →
  d8 r.desc 8 ≠ 255 → slotForeign s (d8 r.desc 8) r.key = false → slotLive s (d8 r.desc 8) = false → gs = namedGens s (d8 r.desc 8) (d8 r.desc 9) →
  recodeOk s r.key (d8 r.desc 8) (d8 r.desc 10) gs = true → t = claimSlot s (d8 r.desc 8) h.toNat true →
  os = (t.cmp.objs.filter (fun e => e.2.slot == d8 r.desc 8 && gs.contains e.2.gen && !e.2.gone)).map (·.1) →
  Runs (.ctableRetireRecode h) s (fun u => ∃ a : Nat × State, a = addOp (markStarted t h.toNat) { kind := .recode (d8 r.desc 8), handle := some h.toNat, key := r.key, todo := os.map .recode } ∧
    u = finishOp { a.2 with cmp := { a.2.cmp with builds := a.2.cmp.builds ++ [{ handle := h.toNat, op := a.1, mode := 5, slot := d8 r.desc 8, objs := os, recodeSlot := d8 r.desc 10, recodeGen := (cslotOf a.2 (d8 r.desc 10)).cur, gens := gs }] } } a.1)
/-- A T1 block that failed to decode and decodes at the second try is noted as a passing mismatch, and its data stays (R237). -/
def Claims.blockRefetch : Prop := ∀ (s u : State) (off : PoolOff) (i : Nat) (b : Back), backIdOf s (pageOf off.toNat) = some i → backById s i = some b → locTier b.loc = .t1 →
  refetchDue s (off.toNat / 4096) = true → u = endRefetch s (off.toNat / 4096) → trayFenced u b.loc = false → b.lost = false →
  exec (.blockRefetch off true) s = .next (logEvent (bump u (cmpCnt 4)) 0x0A 1 0 0x0006 0 0 (fabAddr u (off.toNat / 4096 * 4096)) 0 0)

/-! ## Memory stacks (10) and Bank Arithmetic Units (11) -/

/-- A refresh due at a bank where no quantum runs is served at once, with those postponed before it (R249, R250). -/
def Claims.refreshDue : Prop := ∀ (s : State) (st : StackId) (b : BankId) (n : Nat), bankYields s st.val b.val = true → n = tblGet (stackOf s st.val).refDue b.val 0 → n ≠ 0 →
  exec (.refreshDue st b) s = .next (bumpBy (setStack s st.val { stackOf s st.val with refDue := tblErase (stackOf s st.val).refDue b.val }) (stackCnt st.val 6) n)

/-- At a preemption point the write buffer has reached the bank, the checkpoint is that of now, the grant is used up, the postponed
refreshes are served, and the requests that wait for the bank and did not wait at the point before count as preemptions (R250, R277, R289). -/
def Claims.preemptionPoint : Prop := ∀ (s u v : State) (st : StackId) (b : BankId) (q p : Seq), seqAt s st.val b.val .running = some q → q.granted = true →
  q.faulted = false → quantumEnd s q = (u, p) → v = serveRefresh u st.val b.val →
  exec (.preemptionPoint st b) s = .next (setSeq (bumpBy v (stackCnt st.val 7) ((bankWaits v st.val b.val).filter (fun l => !p.seen.contains l)).length)
    { p with window := 32, seen := bankWaits v st.val b.val, faulted := false, ckRegs := p.regs, ckPc := p.pc, ckFlags := p.flags, ckCycles := p.cycles, ckUsed := p.used })

/-- A sample below every threshold ends extended refresh and HOT (R251, R252). -/
def Claims.tempSample : Prop := ∀ (s : State) (st : StackId) (t : BitVec 8), t.toNat ≤ fld s (stackBase st.val) 8 8 → t.toNat < fld s (stackBase st.val) 0 8 →
  t.toNat < fld s (stackBase st.val) 16 8 → s.pwr.tripped = false → Runs (.tempSample st t) s (fun u => (stackOf u st.val).temp = t.toNat ∧ (stackOf u st.val).ext = false ∧
    (stackOf u st.val).hot = false ∧ (stackOf u st.val).sampledAt = s.now ∧ u.pool = s.pool)

/-- A line that is good at its second read was a passing error: it is recorded and delivered as read (R253). -/
def Claims.dramReread : Prop := ∀ (s u : State) (off : PoolOff) (st b i : Nat), s.coh.rereads.contains (off.toNat / 64) = true →
  u = { s with coh := { s.coh with rereads := s.coh.rereads.erase (off.toNat / 64) } } → bankOfLine u (off.toNat / 64) = some (st, b) →
  backIdOf u (off.toNat / 64 / 1024) = some i →
  exec (.dramReread off true) s = .next (deliverRead (logEvent (bump u (stackCnt st 1)) 4 1 st 0x0001 0 0 (fabAddr u (off.toNat / 64 * 64)) b 1) (off.toNat / 64) false)

/-- A copied row is remapped: one more of its die's spare rows in the bank is used, and its job is done (R254). -/
def Claims.rowSpareCopyDone : Prop := ∀ (s : State) (st : StackId) (b : BankId) (d : Fin 64) (j : Nat × Nat),
  (stackOf s st.val).rowJobs.find? (fun j => j.1 == b.val * 64 + d.val) = some j →
  exec (.rowSpareCopyDone st b d) s = .next (bump (stackErr (setStack s st.val { stackOf s st.val with rowJobs := (stackOf s st.val).rowJobs.erase j, rowUsed := tblPut (stackOf s st.val).rowUsed (b.val * 64 + d.val) (tblGet (stackOf s st.val).rowUsed (b.val * 64 + d.val) 0 + 1) })
    st.val 1) (stackCnt st.val 3))

/-- A replaced bank is its spare unit from then on, with every spare row of its own; an evacuation of it has moved its pages so (R255, R215). -/
def Claims.bankReplaceCopyDone : Prop := ∀ (s u : State) (st : StackId) (b : BankId) (j : BankJob),
  (stackOf s st.val).jobs.find? (fun j => j.bank == b.val) = some j →
  u = endEvacs (creditSpare (bump (setStack s st.val { stackOf s st.val with jobs := (stackOf s st.val).jobs.erase j, spares := tblPut ((stackOf s st.val).spares.map (fun e => if e.2.used && e.2.bank == b.val then (e.1, { e.2 with used := false, failed := true }) else e)) j.unit { bank := b.val, used := true }, rowUsed := (stackOf s st.val).rowUsed.filter (fun e => e.1 / 64 != b.val), rowJobs := (stackOf s st.val).rowJobs.filter (fun x => x.1 / 64 != b.val), corrected := tblErase (stackOf s st.val).corrected b.val, rowCorrected := (stackOf s st.val).rowCorrected.filter (fun x => x.1 / 2 ^ 32 / 64 != b.val) })
    (stackCnt st.val 4)) st.val j) st.val → seqAt u st.val b.val .running = none →
  exec (.bankReplaceCopyDone st b true) s = .next (nextLaunch u st.val b.val)

/-- A patrol scrub that finds nothing only counts (R257). -/
def Claims.patrolScrub : Prop := ∀ (s : State) (st : StackId) (b : BankId) (d : Fin 64), bankYields s st.val b.val = true → bankWaits s st.val b.val = [] →
  exec (.patrolScrub st b d .clean) s = .next (bump s (stackCnt st.val 8))

/-- A stack that can no longer be read goes OFFLINE: its pages with no other copy are lost, its partner keeps no mirror of it, the loss is
recorded, and its sequences end POISONED (R263). -/
def Claims.stackUnreadable : Prop := ∀ (s u : State) (st : StackId) (ids : List Nat), (stackOf s st.val).mode ≠ .offline → ids = backsOn u st.val →
  u = dropChunksOf (setStack (setStack s st.val { stackOf s st.val with mode := .offline, jobs := [], rowJobs := [] }) ((st.val + 6) % 12)
    { stackOf (setStack s st.val { stackOf s st.val with mode := .offline, jobs := [], rowJobs := [] }) ((st.val + 6) % 12) with mirrorLost := true }) st.val →
  Runs (.stackUnreadable st) s (fun t => ∃ v, v = logEvent (ids.foldl loseBack u) 5 4 st.val 0x0003 0 0 0 0 ((ids.filter (fun i => (backById (ids.foldl loseBack u) i).any (·.lost))).length) ∧
    t = endEvacs ((v.bau.seqs.filter (fun q => q.stack == st.val && q.stage != .committed)).foldl (fun s q =>
      stopSeq s q .poisoned (word (bitsOf q.flags 0 5)) (word q.cycles)) v) st.val)

/-- A fault of a base logic is recorded and evacuates all its banks (R258). -/
def Claims.stackBaseLogicFault : Prop := ∀ (s : State) (st : StackId), (stackOf s st.val).mode = .online → flag s (stackBase st.val) 48 = true →
  exec (.stackBaseLogicFault st) s = .next (rasEvac (logEvent s 4 3 st.val 0x0003 0 0 0 0 0) st.val (List.range 256))

/-- BAU_PLACE of a range of its key that no page of is allocated reserves a placement, allocates its pages ZERO in the bank chosen and
completes once nothing is left to move (R284). -/
def Claims.bauPlace : Prop := ∀ (s : State) (h : Handle) (r : HandleRec) (x : Extent) (i st b : Nat) (ps : List Nat), startable s h.toNat 0x41 = some r →
  dFlag r.desc 2 = false → dFlag r.desc 3 = false → dFlag r.desc 4 = false → d64 r.desc 8 % 65536 = 0 → d64 r.desc 16 % 65536 = 0 → 0 < d64 r.desc 16 →
  d64 r.desc 16 ≤ 260046848 → d8 r.desc 24 ≤ 11 → ownedRange s r.key (d64 r.desc 8) (d64 r.desc 16) = some x → tierAllowed x .t0 = true →
  ps = (List.range (d64 r.desc 16 / 65536)).map (fun i => d64 r.desc 8 / 65536 + i) → ps.filter (fun g => (backIdOf s g).isSome) = [] →
  quotaRoom s x.owner .t0 ps.length = true → i = lowestFree (tblHas s.bau.places) 65536 0 → i < 65536 →
  ps.filter (fun p => !(backAt s p).any (fun b => decide (locTier b.loc = .t0) && !b.lost)) = ps → ps.any (fun p => (backAt s p).any (fun b => b.pin != .none)) = false →
  chooseBank s (d64 r.desc 8) (d64 r.desc 16 / 65536) none (d8 r.desc 24) (d8 r.desc 25) = some (st, b) →
  Runs (.bauPlace h) s (fun t => ∃ u, u = placeNew (setPlacement (markStarted s h.toNat) i { base := d64 r.desc 8, len := d64 r.desc 16, stack := st, bank := b, owner := r.key }) x.owner i st b ps ∧
    t = startOp u { kind := .bauPlace i, handle := some h.toNat, key := r.key, todo := [] })

/-- BAU_PLACE with RELEASE by the owner marks the placement closing and releases it once no launch uses it (R286). -/
def Claims.bauPlaceRelease : Prop := ∀ (s : State) (h : Handle) (r : HandleRec) (p : Placement), startable s h.toNat 0x41 = some r → dFlag r.desc 2 = true →
  tblFind s.bau.places (d32 r.desc 28) = some p → p.owner = r.key → p.made = true → placeClosing p = false →
  exec (.bauPlaceRelease h) s = .next (settlePlaces (setPlacement (markStarted s h.toNat) (d32 r.desc 28) { p with closeH := p.closeH ++ [h.toNat] }))

/-- BAU_LAUNCH of an image that no host owns a line of reads it and begins the launch (R274, R283). -/
def Claims.bauLaunch : Prop := ∀ (s : State) (h : Handle) (r : HandleRec) (n : Nat), startable s h.toNat 0x40 = some r → d64 r.desc 8 % 64 = 0 →
  d64 r.desc 8 < 281474976710656 → tblFind s.bau.reading h.toNat = none → n = imageBytes (lineBytes (currentLine s (d64 r.desc 8 / 64)).1) →
  readReady s 0 (d64 r.desc 8) n = true → rangeQuiet s (d64 r.desc 8) n false = true →
  exec (.bauLaunch h) s = .next (launchWith (noteEngineRead s (d64 r.desc 8) n) h.toNat r (d64 r.desc 8) (engineBytes s 0 (d64 r.desc 8) n).1)

/-- A sequence whose holds are in force, whose recalls have ended and whose lock set shares no page is ready to start (R280). -/
def Claims.bauHoldsInstalled : Prop := ∀ (s u : State) (st : StackId) (b : BankId) (q : Seq), u = nextLaunch s st.val b.val → seqAt u st.val b.val .holding = some q →
  holdsReady u q = true → sharedLocks u q = [] → exec (.bauHoldsInstalled st b) s = .next (setSeq u { q with stage := .ready })

/-- A ready sequence starts, within the stack's limit of starts, with a0 to a3 from its descriptor (R274, R278). -/
def Claims.bauSequenceStart : Prop := ∀ (s u : State) (st : StackId) (b : BankId) (q : Seq) (im : SeqImage) (n : Nat), seqAt s st.val b.val .ready = some q →
  warming s = false → stackStarts s st.val = true → bankJob s st.val b.val = false → setMoving s (q.reads ++ q.locks) = false → bankClosed s st.val b.val = false →
  (recentStarts s st.val).length < fld s (stackBase st.val + 0x400) 21 7 →
  s.bau.seqs.any (fun x => x.stack == st.val && x.stage == .ready && x.waited && decide (x.num < q.num)) = false →
  n = imageBytes (lineBytes (currentLine s (q.image / 64)).1) → parseImage (linesBytes ((linesIn q.image n).map (currentLine s))) = some im →
  programFault im.prog = none → u = noteEngineRead s q.image n →
  exec (.bauSequenceStart st b) s = .next (bump (setSeq { u with bau := { u.bau with starts := tblPut u.bau.starts st.val (u.now :: recentStarts u st.val) } }
    { q with prog := im.prog, regs := startRegs (((handleOf u q.handle).map (·.desc)).getD 0), ckRegs := startRegs (((handleOf u q.handle).map (·.desc)).getD 0), stage := .running })
    (bauCnt st.val 0))

/-- A BAU whose turn it is gets a quantum of 256 busy-cycles while the stack's meter has room (R278). -/
def Claims.bauQuantumGrant : Prop := ∀ (s : State) (st : StackId) (b : BankId) (q : Seq), seqAt s st.val b.val .running = some q → warming s = false → q.granted = false → q.waitFrom = none →
  bankJob s st.val b.val = false → abortedH s q.handle = false → meterOf s st.val + 256 ≤ fld s (stackBase st.val + 0x400) 0 21 →
  (grantTurn s st.val).all (fun x => x == b.val) = true →
  Runs (.bauQuantumGrant st b) s (fun t => t.bau.grants = tblPut s.bau.grants st.val ((s.now, 256) :: recentGrants s st.val) ∧
    t.bau.seqs = s.bau.seqs.map (fun x => if x.num = q.num then { q with granted := true, grantAt := s.now } else x) ∧ t.pool = s.pool)

/-- The first fault of a quantum, its checkpoint good, takes the sequence back to the checkpoint; nothing of the quantum reaches memory (R289). -/
def Claims.bauQuantumFault : Prop := ∀ (s : State) (st : StackId) (b : BankId) (q : Seq), seqAt s st.val b.val .running = some q → q.granted = true → q.faulted = false →
  exec (.bauQuantumFault st b true) s = .next (bump (setSeq (setProgress s q.handle q.ckCycles) { q with wbuf := [], regs := q.ckRegs, pc := q.ckPc, flags := q.ckFlags, cycles := q.ckCycles, used := q.ckUsed, faulted := true }) (bauCnt st.val 6))

/-- A committed sequence whose record has its latch releases every hold, and its record may be written (R282). -/
def Claims.bauSequenceEnd : Prop := ∀ (s : State) (st : StackId) (b : BankId) (q : Seq) (r : HandleRec), seqAt s st.val b.val .committed = some q → handleOf s q.handle = some r →
  r.phase = .committed → r.abortWon = false →
  exec (.bauSequenceEnd st b) s = .next (fillRecord (nextLaunch (dropSeq s q) st.val b.val) q.handle r.status r.r0 r.r1)

/-- The state after an instruction: its sequence with new registers, its flags added, its lines in the write buffer, its cycles counted, and the
next place in the program; its launch's progress is the sequence's cycles. -/
def Claims.BauNext (s : State) (st : StackId) (q : Seq) (w : Word) (r : BauRegs) (g : Nat) (ws : List (Nat × Line × Bool)) (m : Option Nat) : State :=
  bumpBy (setProgress (setSeq s { q with regs := r, flags := q.flags ||| g, wbuf := bufferLines q.wbuf ws, pc := nextPc q w r, cycles := q.cycles + insCost w (aReg q.regs (iC w)), used := q.used + insCost w (aReg q.regs (iC w)), mismatch := match q.mismatch with
      | some o => some o
      | none => m }) q.handle (q.cycles + insCost w (aReg q.regs (iC w)))) (bauCnt st.val 3) (insCost w (aReg q.regs (iC w)))
/-- A state after an instruction whose sums may be infinite or no number has drawn its free values. -/
def Claims.Drawn (s : State) : State := { s with draws := s.draws + 512 * 32 }
/-- The state after an instruction has read its stream: the pages read have age 0 (R61). -/
def Claims.Streamed (s : State) (q : Seq) (w : Word) (n : Nat) : State := touchRange s (aReg q.regs (iA w)) n

/-- The stream of `n` bytes at the address in the instruction's first register. -/
def Claims.BauStream (s : State) (q : Seq) (w : Word) (n : Nat) : Stream :=
  lineStream ((linesIn (aReg q.regs (iA w)) n).map (seqLine s q)) (aReg q.regs (iA w) % 64) n
/-- Every byte of the stream lies in the sequence's sets (R288). -/
def Claims.BauInside (q : Seq) (w : Word) (n : Nat) : Prop := outsideAt (q.reads ++ q.locks) (aReg q.regs (iA w)) n = none

/-- LI sets its register to its sign-extended immediate (R271). -/
def Claims.bauLi : Prop := ∀ (s : State) (st : StackId) (b : BankId) (q : Seq) (w : Word), nextIns s st.val b.val 0x01 = some (q, w) →
  exec (.bauLi st b) s = .next (Claims.BauNext s st q w (setA q.regs (iA w) (sBits 64 (sInt 40 (iAt w 24 40)))) 0 [] none)
/-- ADDI adds an immediate to an address register (R271). -/
def Claims.bauAddi : Prop := ∀ (s : State) (st : StackId) (b : BankId) (q : Seq) (w : Word), nextIns s st.val b.val 0x02 = some (q, w) →
  exec (.bauAddi st b) s = .next (Claims.BauNext s st q w (setA q.regs (iA w) (sBits 64 ((aReg q.regs (iB w) : Int) + sInt 40 (iAt w 24 40)))) 0 [] none)
/-- SETC sets a loop counter (R271). -/
def Claims.bauSetc : Prop := ∀ (s : State) (st : StackId) (b : BankId) (q : Seq) (w : Word), nextIns s st.val b.val 0x03 = some (q, w) →
  exec (.bauSetc st b) s = .next (Claims.BauNext s st q w { q.regs with c := q.regs.c.set (iAt w 8 2) (BitVec.ofNat 32 (iAt w 24 32)) } 0 [] none)
/-- LOOP counts its counter down and goes back while it is not 0 (R271). -/
def Claims.bauLoop : Prop := ∀ (s : State) (st : StackId) (b : BankId) (q : Seq) (w : Word), nextIns s st.val b.val 0x04 = some (q, w) →
  exec (.bauLoop st b) s = .next (Claims.BauNext s st q w { q.regs with c := q.regs.c.set (iAt w 8 2) (q.regs.c.getD (iAt w 8 2) 0 - 1) } 0 [] none)
/-- SETF sets a scalar FP32 register (R271). -/
def Claims.bauSetf : Prop := ∀ (s : State) (st : StackId) (b : BankId) (q : Seq) (w : Word), nextIns s st.val b.val 0x05 = some (q, w) →
  exec (.bauSetf st b) s = .next (Claims.BauNext s st q w { q.regs with f := q.regs.f.set (iAt w 8 2) (BitVec.ofNat 32 (iAt w 24 32)) } 0 [] none)
/-- END drains the write buffer, ends the quantum and gives the sequence's result to the latch (R282). -/
def Claims.bauEnd : Prop := ∀ (s u : State) (st : StackId) (b : BankId) (q p : Seq) (w : Word), nextIns s st.val b.val 0x06 = some (q, w) →
  quantumEnd (bump s (bauCnt st.val 3)) { q with cycles := q.cycles + 1, used := q.used + 1 } = (u, p) →
  exec (.bauEnd st b) s = .next (engineDone (serveRefresh (setSeq u { p with stage := .committed }) st.val b.val) p.handle (seqResult p).1 (seqResult p).2.1 (seqResult p).2.2)
/-- LDS loads the stationary buffer from a stream that lies in the sets (R271, R288). -/
def Claims.bauLds : Prop := ∀ (s : State) (st : StackId) (b : BankId) (q : Seq) (w : Word), nextIns s st.val b.val 0x10 = some (q, w) →
  Claims.BauInside q w (2048 * iAt w 24 7) →
  exec (.bauLds st b) s = .next (Claims.BauNext (Claims.Streamed s q w (2048 * iAt w 24 7)) st q w (incA w (doLDS q.regs (Claims.BauStream s q w (2048 * iAt w 24 7)) (iAt w 24 7) (iFmt w)) (2048 * iAt w 24 7)) 0 [] none)
/-- MV without DEC streams weights against the stationary buffer into ACC (R271, R273). -/
def Claims.bauMv : Prop := ∀ (s : State) (st : StackId) (b : BankId) (q : Seq) (w : Word) (n : Nat), nextIns s st.val b.val 0x11 = some (q, w) → iDec w = false →
  n = elemBytes w (mvN w * mvK w) → Claims.BauInside q w n →
  exec (.bauMv st b) s = .next (Claims.BauNext (Claims.Drawn (Claims.Streamed s q w n)) st q w (incA w (doMV q.regs s.draws (Claims.BauStream s q w n) (iFmt w) (mvN w) (mvRow w) (mvK w)).1 n)
    (doMV q.regs s.draws (Claims.BauStream s q w n) (iFmt w) (mvN w) (mvRow w) (mvK w)).2 [] none)
/-- SCORE computes scaled key scores into PB (R271). -/
def Claims.bauScore : Prop := ∀ (s : State) (st : StackId) (b : BankId) (q : Seq) (w : Word) (n : Nat), nextIns s st.val b.val 0x12 = some (q, w) →
  n = elemBytes w (scT w * scD w) → Claims.BauInside q w n →
  exec (.bauScore st b) s = .next (Claims.BauNext (Claims.Streamed s q w n) st q w (incA w (doScore q.regs (Claims.BauStream s q w n) (iFmt w) (scT w) (scD w)).1 n)
    (doScore q.regs (Claims.BauStream s q w n) (iFmt w) (scT w) (scD w)).2 [] none)
/-- SMX applies the online softmax update of a tile (R272). -/
def Claims.bauSmx : Prop := ∀ (s : State) (st : StackId) (b : BankId) (q : Seq) (w : Word), nextIns s st.val b.val 0x13 = some (q, w) →
  exec (.bauSmx st b) s = .next (Claims.BauNext (Claims.Drawn s) st q w (doSMX q.regs s.draws (scT w) (smxRow w) (smxN w)).1
    (doSMX q.regs s.draws (scT w) (smxRow w) (smxN w)).2 [] none)
/-- MVT accumulates probabilities times values into ACC (R271). -/
def Claims.bauMvt : Prop := ∀ (s : State) (st : StackId) (b : BankId) (q : Seq) (w : Word) (n : Nat), nextIns s st.val b.val 0x14 = some (q, w) →
  n = elemBytes w (scT w * scD w) → Claims.BauInside q w n →
  exec (.bauMvt st b) s = .next (Claims.BauNext (Claims.Drawn (Claims.Streamed s q w n)) st q w (incA w (doMVT q.regs s.draws (Claims.BauStream s q w n) (iFmt w) (scT w) (scD w) (mvtRow w)).1 n)
    (doMVT q.regs s.draws (Claims.BauStream s q w n) (iFmt w) (scT w) (scD w) (mvtRow w)).2 [] none)
/-- ATTN goes through its tiles where the bytes of all its keys and values lie in the sets, and advances both of its addresses by the bytes of
its tokens (R272). -/
def Claims.bauAttn : Prop := ∀ (s : State) (st : StackId) (b : BankId) (q : Seq) (w : Word) (n : Nat), nextIns s st.val b.val 0x15 = some (q, w) →
  n = elemBytes w (aReg q.regs (iC w) * atD w) → Claims.BauInside q w n → outsideAt (q.reads ++ q.locks) (aReg q.regs (iB w)) n = none →
  Runs (.bauAttn st b) s (fun t => ∃ (k g : Nat) (r : BauRegs), t = Claims.BauNext (Claims.Drawn (touchRange (Claims.Streamed { s with draws := s.draws + k } q w n) (aReg q.regs (iB w)) n)) st q w
    (setA (setA r (iA w) (aReg q.regs (iA w) + n)) (iB w) (aReg q.regs (iB w) + n)) g [] none)
/-- ZACC zeroes and types ACC rows and may reset softmax state (R271). -/
def Claims.bauZacc : Prop := ∀ (s : State) (st : StackId) (b : BankId) (q : Seq) (w : Word), nextIns s st.val b.val 0x16 = some (q, w) →
  exec (.bauZacc st b) s = .next (Claims.BauNext s st q w (doZACC q.regs (rowOfI w) (rowsOfI w) (iAt w 43 1 == 1) (iAt w 44 1 == 1)) 0 [] none)
/-- MULF multiplies FP32 rows by a scalar register (R271). -/
def Claims.bauMulf : Prop := ∀ (s : State) (st : StackId) (b : BankId) (q : Seq) (w : Word), nextIns s st.val b.val 0x17 = some (q, w) →
  exec (.bauMulf st b) s = .next (Claims.BauNext s st q w (doMULF q.regs (rowOfI w) (rowsOfI w) (iAt w 12 2)).1 (doMULF q.regs (rowOfI w) (rowsOfI w) (iAt w 12 2)).2 [] none)
/-- MULV multiplies rows by a vector from the bank (R271). -/
def Claims.bauMulv : Prop := ∀ (s : State) (st : StackId) (b : BankId) (q : Seq) (w : Word), nextIns s st.val b.val 0x18 = some (q, w) →
  Claims.BauInside q w (4 * rowsOfI w) →
  exec (.bauMulv st b) s = .next (Claims.BauNext (Claims.Drawn (Claims.Streamed s q w (4 * rowsOfI w))) st q w (doMULV q.regs s.draws (Claims.BauStream s q w (4 * rowsOfI w)) (rowOfI w) (rowsOfI w)).1
    (doMULV q.regs s.draws (Claims.BauStream s q w (4 * rowsOfI w)) (rowOfI w) (rowsOfI w)).2 [] none)
/-- NORM divides ACC columns by the softmax running sum (R271). -/
def Claims.bauNorm : Prop := ∀ (s : State) (st : StackId) (b : BankId) (q : Seq) (w : Word), nextIns s st.val b.val 0x19 = some (q, w) →
  exec (.bauNorm st b) s = .next (Claims.BauNext (Claims.Drawn s) st q w (doNORM q.regs s.draws (rowOfI w) (rowsOfI w)).1
    (doNORM q.regs s.draws (rowOfI w) (rowsOfI w)).2 [] none)
/-- ST and STS put their lines into the write buffer where every byte lies in the lock set; memory waits for the end of the quantum (R273, R277). -/
def Claims.bauSt : Prop := ∀ (s : State) (st : StackId) (b : BankId) (q : Seq) (w : Word), nextIns s st.val b.val 0x1A = some (q, w) →
  outsideAt q.locks (aReg q.regs (iA w)) (elemBytes w (32 * rowsOfI w)) = none →
  Runs (.bauSt st b) s (fun t => ∃ ws : List (Nat × Line × Bool), ws.map (·.1) = linesIn (aReg q.regs (iA w)) (elemBytes w (32 * rowsOfI w)) ∧
    t = Claims.BauNext (Claims.Streamed s q w (elemBytes w (32 * rowsOfI w))) st q w (incA w q.regs (elemBytes w (32 * rowsOfI w))) (doST q.regs (iFmt w) (rowOfI w) (rowsOfI w) (iAt w 44 1 == 1)).2.2 ws none)
/-- STS stores the softmax state m and l (R271). -/
def Claims.bauSts : Prop := ∀ (s : State) (st : StackId) (b : BankId) (q : Seq) (w : Word), nextIns s st.val b.val 0x1B = some (q, w) →
  outsideAt q.locks (aReg q.regs (iA w)) 256 = none →
  Runs (.bauSts st b) s (fun t => ∃ ws : List (Nat × Line × Bool), ws.map (·.1) = linesIn (aReg q.regs (iA w)) 256 ∧ t = Claims.BauNext (Claims.Streamed s q w 256) st q w q.regs 0 ws none)

/-! ## Trestle units (12) -/

/-- KERNEL_LOAD of a valid image that has been read fills its slot and completes with the slot and the number of instructions (R308 to R310). -/
def Claims.kernelLoad : Prop := ∀ (s : State) (h : Handle) (r : HandleRec) (img : List Byte), startable s h.toNat 0x48 = some r → dFlag r.desc 2 = false →
  d64 r.desc 8 % 64 = 0 → 72 ≤ d32 r.desc 16 → d32 r.desc 16 ≤ 65536 → kernelRefusal s h.toNat r = none → r.imagePoison = false → r.image = some img →
  crc32c img = d32 r.desc 24 → imageFault img (d32 r.desc 16) = none →
  exec (.kernelLoad h) s = .next (commit { s with trs := { s.trs with loads := tblErase s.trs.loads (d8 r.desc 20), slots := tblPut s.trs.slots (d8 r.desc 20) { owner := r.key, prog := imageProg img, scratch := imgNat img 4 2 } } }
    h.toNat .ok (word (d8 r.desc 20)) (word (imageProg img).length))

/-- KERNEL_LOAD with UNLOAD empties its slot (R310). -/
def Claims.kernelUnload : Prop := ∀ (s : State) (h : Handle) (r : HandleRec), startable s h.toNat 0x48 = some r → dFlag r.desc 2 = true →
  kernelRefusal s h.toNat r = none →
  exec (.kernelUnload h) s = .next (commit { s with trs := { s.trs with slots := tblErase s.trs.slots (d8 r.desc 20) } } h.toNat .ok (word (d8 r.desc 20)) 0)

/-- A launch that R311 admits, of a kernel that its key owns where the slot is the host's. -/
def Claims.Admitted (s : State) (h : Nat) (r : HandleRec) : Prop :=
  startable s h 0x49 = some r ∧ d8 r.desc 10 ≤ 64 ∧ 0 < d32 r.desc 12 ∧ d32 r.desc 12 ≤ 16777216 ∧ s.trs.launches.length < 1024 ∧ unitsByLoad s ≠ [] ∧
  (4 ≤ d8 r.desc 8 → 16 ≤ d8 r.desc 8 ∧ ∃ k, kslotOf s (d8 r.desc 8) = some k ∧ k.owner = r.key)
/-- The launch then runs on its units, the least loaded first, with its six arguments. -/
def Claims.Launched (s : State) (h : Nat) (r : HandleRec) : State :=
  setLaunch (markStarted s h) h { slot := d8 r.desc 8, key := r.key, gangs := d32 r.desc 12, units := if d8 r.desc 10 = 0 then unitsByLoad s else (unitsByLoad s).take (d8 r.desc 10), args := (List.range 6).map (fun i => BitVec.ofNat 64 (d64 r.desc (16 + 8 * i))) }

/-- KERNEL_LAUNCH starts a launch of a kernel (R311). -/
def Claims.kernelLaunch : Prop := ∀ (s : State) (h : Handle) (r : HandleRec), Claims.Admitted s h.toNat r → 4 ≤ d8 r.desc 8 →
  exec (.kernelLaunch h) s = .next (Claims.Launched s h.toNat r)
/-- The standard kernels are launched alike (R311, R313). -/
def Claims.trReduce : Prop := ∀ (s : State) (h : Handle) (r : HandleRec), Claims.Admitted s h.toNat r → d8 r.desc 8 = 0 → exec (.trReduce h) s = .next (Claims.Launched s h.toNat r)
/-- Standard slot 1 is launched as any slot is (R313). -/
def Claims.trGather : Prop := ∀ (s : State) (h : Handle) (r : HandleRec), Claims.Admitted s h.toNat r → d8 r.desc 8 = 1 → exec (.trGather h) s = .next (Claims.Launched s h.toNat r)
/-- Standard slot 2 is launched as any slot is (R313). -/
def Claims.trScatter : Prop := ∀ (s : State) (h : Handle) (r : HandleRec), Claims.Admitted s h.toNat r → d8 r.desc 8 = 2 → exec (.trScatter h) s = .next (Claims.Launched s h.toNat r)
/-- Standard slot 3 is launched as any slot is (R313). -/
def Claims.trFilter : Prop := ∀ (s : State) (h : Handle) (r : HandleRec), Claims.Admitted s h.toNat r → d8 r.desc 8 = 3 → exec (.trFilter h) s = .next (Claims.Launched s h.toNat r)

/-- A unit takes the next gang of the launch whose turn it is into its first free context; s0 to s5 hold the arguments in every thread
(R294, R311). -/
def Claims.gangDispatch : Prop := ∀ (s : State) (u : TUnit) (h g : Nat) (l : TLaunch), warming s = false → unitActive s u.val = true → gangsOn s u.val < 512 →
  nextServed s u.val = some (h, l) → (List.range 512).find? (fun g => (gangOf s u.val g).isNone) = some g → 4 ≤ l.slot →
  (∀ v : State, v = setUnit s u.val { unitOf s u.val with rot := h } → strayGang v u.val h = none →
    exec (.gangDispatch u) s = .next (setGang (setLaunch { v with draws := v.draws + 2048 } h { l with next := l.next + 1 }) u.val g (newGang v h l)))

/-- What arrives for a gang without a fault is kept with it (R299). -/
def Claims.gangResultArrive : Prop := ∀ (s v : State) (u : TUnit) (g : GangId) (r : GangData) (x y : Gang), gangOf s u.val g.val = some x →
  arrive s u.val x r = (v, y, none) → y.std = none → exec (.gangResultArrive u g r) s = .next (keepGang v u.val g.val y)

/-- A gang whose chunk has lasted the time limit takes a boundary (R303). -/
def Claims.chunkTimeLimit : Prop := ∀ (s v : State) (u : TUnit) (g : GangId) (x y : Gang), gangOf s u.val g.val = some x → x.ended = false → x.std = none →
  unitActive s u.val = true → x.since + 1000 * fld s trestleBase 16 4 ≤ s.now → boundary s u.val g.val x = some (v, y) →
  exec (.chunkTimeLimit u g) s = .next (keepGang v u.val g.val y)

/-- A fault of a unit whose checkpoints are good discards the open chunks of its gangs, which run again from their checkpoints (R305). -/
def Claims.trestleFault : Prop := ∀ (s : State) (u : TUnit) (p : Nat), physOf s u.val = some p →
  (unitOf s u.val).gangs.any (fun e => e.2.rerun && !e.2.ended) = false → (unitOf s u.val).gangs.filter (fun e => !e.2.ended) ≠ [] →
  exec (.trestleFault u []) s = .next (bumpBy (setUnit s u.val { unitOf s u.val with gangs := (unitOf s u.val).gangs.map (fun e => (e.1, rerunGang s e.2)) })
    (trestleCnt 6) ((unitOf s u.val).gangs.filter (fun e => !e.2.ended)).length)

/-- A launch whose gangs have all ended commits with its flags and the gangs that ended (R312). -/
def Claims.launchCommit : Prop := ∀ (s : State) (h : Handle) (l : TLaunch), launchOf s h.toNat = some l →
  s.trs.units.any (fun e => e.2.gangs.any (fun y => y.2.launch == h.toNat)) = false → l.gangs ≤ l.next → l.stop = none →
  (∀ r, handleOf s h.toNat = some r → r.abortWon = false) →
  exec (.launchCommit h) s = .next (engineDone { s with trs := { s.trs with launches := tblErase s.trs.launches h.toNat } } h.toNat .ok (word l.flags) (word l.ended))

/-! ### Instructions (R295 to R304): a gang whose next instruction is of the row, and whose operands have arrived, issues it -/

/-- Registers A, B and D of a thread, with their poison. -/
def Claims.A (x : Gang) (w : Word) (t : Nat) : Word × Bool := sGet x.r t (kA w)
def Claims.B (x : Gang) (w : Word) (t : Nat) : Word × Bool := sGet x.r t (kB w)
def Claims.D (x : Gang) (w : Word) (t : Nat) : Word × Bool := sGet x.r t (kD w)
/-- The second operand of an integer instruction: the sign-extended immediate with modifier I, else register B. -/
def Claims.O (x : Gang) (w : Word) (t : Nat) : Word × Bool := if kModBit w 0 then (BitVec.ofInt 64 (sInt 36 (kImm w)), false) else Claims.B x w t
/-- The state after a scalar instruction: s[D] of every active thread and no other is written, the flags are added, the pc moves on. -/
def Claims.Scalar (s : State) (u : TUnit) (g : GangId) (x : Gang) (w : Word) (f : Nat → Word × Bool × Nat) : State :=
  issued s u.val g.val { overwrite x false (kD w) x.r.active with r := { (lanesOf x.r.active).foldl (fun r t => sPut r t (kD w) ((f t).1, (f t).2.1)) x.r with pc := x.r.pc + 1 }, flags := (lanesOf x.r.active).foldl (fun a t => a ||| (f t).2.2) x.flags } false
/-- A result of two operands: poisoned where one of them is. -/
def Claims.Two (a b : Word × Bool) (f : Word → Word → Word) : Word × Bool × Nat := (f a.1 b.1, a.2 || b.2, 0)

/-- LI loads a sign-extended immediate into a scalar register (R297). -/
def Claims.trestleLi : Prop := ∀ (s : State) (u : TUnit) (g : GangId) (x : Gang) (w : Word), nextInsn s u.val g.val 0x01 = some (x, w) →
  exec (.trestleLi u g) s = .next (Claims.Scalar s u g x w (fun _ => (BitVec.ofInt 64 (sInt 36 (kImm w)), false, 0)))
/-- LIH keeps the low 28 bits of s[D]. -/
def Claims.trestleLih : Prop := ∀ (s : State) (u : TUnit) (g : GangId) (x : Gang) (w : Word), nextInsn s u.val g.val 0x02 = some (x, w) →
  exec (.trestleLih u g) s = .next (Claims.Scalar s u g x w (fun t => (BitVec.ofNat 64 (kImm w * 2 ^ 28 + (Claims.D x w t).1.toNat % 2 ^ 28), (Claims.D x w t).2, 0)))
/-- ADD adds scalars modulo 2^64 (R297). -/
def Claims.trestleAdd : Prop := ∀ (s : State) (u : TUnit) (g : GangId) (x : Gang) (w : Word), nextInsn s u.val g.val 0x03 = some (x, w) →
  exec (.trestleAdd u g) s = .next (Claims.Scalar s u g x w (fun t => Claims.Two (Claims.A x w t) (Claims.O x w t) (fun a b => a + b)))
/-- SUB subtracts scalars modulo 2^64 (R297). -/
def Claims.trestleSub : Prop := ∀ (s : State) (u : TUnit) (g : GangId) (x : Gang) (w : Word), nextInsn s u.val g.val 0x04 = some (x, w) →
  exec (.trestleSub u g) s = .next (Claims.Scalar s u g x w (fun t => Claims.Two (Claims.A x w t) (Claims.O x w t) (fun a b => a - b)))
/-- MUL multiplies scalars, keeping the low 64 bits (R297). -/
def Claims.trestleMul : Prop := ∀ (s : State) (u : TUnit) (g : GangId) (x : Gang) (w : Word), nextInsn s u.val g.val 0x05 = some (x, w) →
  exec (.trestleMul u g) s = .next (Claims.Scalar s u g x w (fun t => Claims.Two (Claims.A x w t) (Claims.O x w t) (fun a b => a * b)))
/-- AND of two scalars (R297). -/
def Claims.trestleAnd : Prop := ∀ (s : State) (u : TUnit) (g : GangId) (x : Gang) (w : Word), nextInsn s u.val g.val 0x07 = some (x, w) →
  exec (.trestleAnd u g) s = .next (Claims.Scalar s u g x w (fun t => Claims.Two (Claims.A x w t) (Claims.O x w t) (fun a b => a &&& b)))
/-- OR of two scalars (R297). -/
def Claims.trestleOr : Prop := ∀ (s : State) (u : TUnit) (g : GangId) (x : Gang) (w : Word), nextInsn s u.val g.val 0x08 = some (x, w) →
  exec (.trestleOr u g) s = .next (Claims.Scalar s u g x w (fun t => Claims.Two (Claims.A x w t) (Claims.O x w t) (fun a b => a ||| b)))
/-- XOR of two scalars (R297). -/
def Claims.trestleXor : Prop := ∀ (s : State) (u : TUnit) (g : GangId) (x : Gang) (w : Word), nextInsn s u.val g.val 0x09 = some (x, w) →
  exec (.trestleXor u g) s = .next (Claims.Scalar s u g x w (fun t => Claims.Two (Claims.A x w t) (Claims.O x w t) (fun a b => a ^^^ b)))
/-- Shifts take their amount modulo 64; SHR is arithmetic with modifier bit 1. -/
def Claims.trestleShl : Prop := ∀ (s : State) (u : TUnit) (g : GangId) (x : Gang) (w : Word), nextInsn s u.val g.val 0x0A = some (x, w) →
  exec (.trestleShl u g) s = .next (Claims.Scalar s u g x w (fun t => Claims.Two (Claims.A x w t) (Claims.O x w t) (fun a b => a <<< (b.toNat % 64))))
/-- SHR shifts a scalar right, logically or arithmetically (R297). -/
def Claims.trestleShr : Prop := ∀ (s : State) (u : TUnit) (g : GangId) (x : Gang) (w : Word), nextInsn s u.val g.val 0x0B = some (x, w) →
  exec (.trestleShr u g) s = .next (Claims.Scalar s u g x w (fun t => Claims.Two (Claims.A x w t) (Claims.O x w t)
    (fun a b => if kModBit w 1 then a.sshiftRight (b.toNat % 64) else a >>> (b.toNat % 64))))
/-- MINMAX: signed with modifier bit 1, the larger with bit 2. -/
def Claims.trestleMinmax : Prop := ∀ (s : State) (u : TUnit) (g : GangId) (x : Gang) (w : Word), nextInsn s u.val g.val 0x0C = some (x, w) →
  exec (.trestleMinmax u g) s = .next (Claims.Scalar s u g x w (fun t => Claims.Two (Claims.A x w t) (Claims.O x w t)
    (fun a b => if (if kModBit w 1 then BitVec.slt b a else BitVec.ult b a) == kModBit w 2 then a else b)))
/-- SEL selects a scalar by p (R297). -/
def Claims.trestleSel : Prop := ∀ (s : State) (u : TUnit) (g : GangId) (x : Gang) (w : Word), nextInsn s u.val g.val 0x0E = some (x, w) →
  exec (.trestleSel u g) s = .next (Claims.Scalar s u g x w (fun t => if x.r.p.getLsbD t then ((Claims.A x w t).1, (Claims.A x w t).2 || x.r.pp.getLsbD t, 0)
    else ((Claims.B x w t).1, (Claims.B x w t).2 || x.r.pp.getLsbD t, 0)))
/-- POPC counts 1 bits (R297). -/
def Claims.trestlePopc : Prop := ∀ (s : State) (u : TUnit) (g : GangId) (x : Gang) (w : Word), nextInsn s u.val g.val 0x0F = some (x, w) →
  exec (.trestlePopc u g) s = .next (Claims.Scalar s u g x w (fun t => (BitVec.ofNat 64 ((List.range 64).filter (fun i => (Claims.A x w t).1.getLsbD i)).length, (Claims.A x w t).2, 0)))
/-- SPECIAL gives a thread its number, its gang's, its number in the launch, the launch's threads, the unit or the time in µs. -/
def Claims.trestleSpecial : Prop := ∀ (s : State) (u : TUnit) (g : GangId) (x : Gang) (w : Word), nextInsn s u.val g.val 0x10 = some (x, w) →
  exec (.trestleSpecial u g) s = .next (Claims.Scalar s u g x w (fun t => (specialValue s u.val x t w, false, 0)))
/-- FADD, FMUL, FFMA and FMINMAX in FP32 or FP64, as R270 rounds and flags. -/
def Claims.trestleFadd : Prop := ∀ (s : State) (u : TUnit) (g : GangId) (x : Gang) (w : Word), nextInsn s u.val g.val 0x11 = some (x, w) →
  exec (.trestleFadd u g) s = .next (Claims.Scalar s u g x w (fun t => (BitVec.ofNat 64 (tArith (kFmt w) false fAdd ((Claims.A x w t).1.toNat % 2 ^ tBits (kFmt w)) ((Claims.B x w t).1.toNat % 2 ^ tBits (kFmt w))).1,
    (Claims.A x w t).2 || (Claims.B x w t).2, (tArith (kFmt w) false fAdd ((Claims.A x w t).1.toNat % 2 ^ tBits (kFmt w)) ((Claims.B x w t).1.toNat % 2 ^ tBits (kFmt w))).2)))
/-- FMUL multiplies scalar floats (R297). -/
def Claims.trestleFmul : Prop := ∀ (s : State) (u : TUnit) (g : GangId) (x : Gang) (w : Word), nextInsn s u.val g.val 0x12 = some (x, w) →
  exec (.trestleFmul u g) s = .next (Claims.Scalar s u g x w (fun t => (BitVec.ofNat 64 (tArith (kFmt w) false fMul ((Claims.A x w t).1.toNat % 2 ^ tBits (kFmt w)) ((Claims.B x w t).1.toNat % 2 ^ tBits (kFmt w))).1,
    (Claims.A x w t).2 || (Claims.B x w t).2, (tArith (kFmt w) false fMul ((Claims.A x w t).1.toNat % 2 ^ tBits (kFmt w)) ((Claims.B x w t).1.toNat % 2 ^ tBits (kFmt w))).2)))
/-- FFMA fused multiply-add of scalar floats (R297). -/
def Claims.trestleFfma : Prop := ∀ (s : State) (u : TUnit) (g : GangId) (x : Gang) (w : Word), nextInsn s u.val g.val 0x13 = some (x, w) →
  exec (.trestleFfma u g) s = .next (Claims.Scalar s u g x w (fun t =>
    (BitVec.ofNat 64 (tFma (kFmt w) ((Claims.A x w t).1.toNat % 2 ^ tBits (kFmt w)) ((Claims.B x w t).1.toNat % 2 ^ tBits (kFmt w)) ((Claims.D x w t).1.toNat % 2 ^ tBits (kFmt w))).1,
    (Claims.A x w t).2 || (Claims.B x w t).2 || (Claims.D x w t).2,
    (tFma (kFmt w) ((Claims.A x w t).1.toNat % 2 ^ tBits (kFmt w)) ((Claims.B x w t).1.toNat % 2 ^ tBits (kFmt w)) ((Claims.D x w t).1.toNat % 2 ^ tBits (kFmt w))).2)))
/-- FMINMAX selects the smaller or larger float (R297). -/
def Claims.trestleFminmax : Prop := ∀ (s : State) (u : TUnit) (g : GangId) (x : Gang) (w : Word), nextInsn s u.val g.val 0x14 = some (x, w) →
  exec (.trestleFminmax u g) s = .next (Claims.Scalar s u g x w (fun t => (BitVec.ofNat 64 (tMinMax (kFmt w) (kModBit w 2) ((Claims.A x w t).1.toNat % 2 ^ tBits (kFmt w)) ((Claims.B x w t).1.toNat % 2 ^ tBits (kFmt w))).1,
    (Claims.A x w t).2 || (Claims.B x w t).2, (tMinMax (kFmt w) (kModBit w 2) ((Claims.A x w t).1.toNat % 2 ^ tBits (kFmt w)) ((Claims.B x w t).1.toNat % 2 ^ tBits (kFmt w))).2)))
/-- CVT, whose upper bits are free values where the destination format is narrower than its register allows (assumption log, entry 63). -/
def Claims.trestleCvt : Prop := ∀ (s : State) (u : TUnit) (g : GangId) (x : Gang) (w : Word), nextInsn s u.val g.val 0x16 = some (x, w) →
  exec (.trestleCvt u g) s = .next (Claims.Scalar { s with draws := s.draws + 32 } u g x w (fun t => ((cvtValue w (Claims.A x w t).1 (Config.freeValue (s.draws + t))).1, (Claims.A x w t).2,
    (cvtValue w (Claims.A x w t).1 (Config.freeValue (s.draws + t))).2)))
/-- DIVU's quotients, all ones and INVALID for a divisor of 0, are on their way to s[D] of every active thread (R297, R299). -/
def Claims.trestleDivu : Prop := ∀ (s : State) (u : TUnit) (g : GangId) (x : Gang) (w : Word), nextInsn s u.val g.val 0x06 = some (x, w) →
  exec (.trestleDivu u g) s = .next (issued s u.val g.val { overwrite x false (kD w) x.r.active with ops := (overwrite x false (kD w) x.r.active).ops ++ [{ id := x.nextOp, kind := .div, d := kD w, items := (lanesOf x.r.active).map (fun t => { thread := t, value := if (Claims.O x w t).1 = 0 then BitVec.allOnes 64 else (Claims.A x w t).1 / (Claims.O x w t).1, poison := (Claims.A x w t).2 || (Claims.O x w t).2 }), live := x.r.active, chunk := x.chunk, idx := x.r.pc }], nextOp := x.nextOp + 1, r := { x.r with pc := x.r.pc + 1 }, flags := (lanesOf x.r.active).foldl (fun a t => a ||| (if (Claims.O x w t).1 = 0 then fInvalid else 0)) x.flags } false)
/-- The state after CMP or FCMP: p and its poison change in the active threads only. -/
def Claims.Compared (s : State) (u : TUnit) (g : GangId) (x : Gang) (f : Nat → Bool × Bool) : State :=
  issued s u.val g.val { x with r := { x.r with p := (x.r.p &&& ~~~x.r.active) ||| laneMask ((lanesOf x.r.active).filter (fun t => (f t).1)), pp := (x.r.pp &&& ~~~x.r.active) ||| laneMask ((lanesOf x.r.active).filter (fun t => (f t).2)), pc := x.r.pc + 1 } } false
/-- CMP sets p from an integer relation (R297). -/
def Claims.trestleCmp : Prop := ∀ (s : State) (u : TUnit) (g : GangId) (x : Gang) (w : Word), nextInsn s u.val g.val 0x0D = some (x, w) →
  exec (.trestleCmp u g) s = .next (Claims.Compared s u g x (fun t => (relInt 64 (kFmt w) (Claims.A x w t).1.toNat (Claims.O x w t).1.toNat, (Claims.A x w t).2 || (Claims.O x w t).2)))
/-- FCMP sets p from a floating-point relation (R297). -/
def Claims.trestleFcmp : Prop := ∀ (s : State) (u : TUnit) (g : GangId) (x : Gang) (w : Word), nextInsn s u.val g.val 0x15 = some (x, w) →
  exec (.trestleFcmp u g) s = .next (Claims.Compared s u g x (fun t =>
    (tRel (kFmt w) (kImm w) ((Claims.A x w t).1.toNat % 2 ^ tBits (kFmt w)) ((Claims.B x w t).1.toNat % 2 ^ tBits (kFmt w)), (Claims.A x w t).2 || (Claims.B x w t).2)))

/-- BR is taken always, or where p is set in some, all or none of the active threads; a condition that reads poison faults the gang
(R295, R307). -/
def Claims.trestleBr : Prop := ∀ (s : State) (u : TUnit) (g : GangId) (x : Gang) (w : Word), nextInsn s u.val g.val 0x20 = some (x, w) →
  (kMod w % 4 = 0 → exec (.trestleBr u g) s = .next (issued s u.val g.val { x with r := { x.r with pc := kImm w % 8192 } } false)) ∧
  (kMod w % 4 ≠ 0 → pPoisoned x.r = true → exec (.trestleBr u g) s = .next (gangFault s u.val g.val x .poisoned x.r.pc)) ∧
  (kMod w % 4 = 1 → pPoisoned x.r = false → exec (.trestleBr u g) s = .next (issued s u.val g.val { x with r := { x.r with pc := if x.r.p &&& x.r.active ≠ 0 then kImm w % 8192 else x.r.pc + 1 } } false)) ∧
  (kMod w % 4 = 2 → pPoisoned x.r = false → exec (.trestleBr u g) s = .next (issued s u.val g.val { x with r := { x.r with pc := if x.r.p &&& x.r.active = x.r.active then kImm w % 8192 else x.r.pc + 1 } } false)) ∧
  (kMod w % 4 = 3 → pPoisoned x.r = false → exec (.trestleBr u g) s = .next (issued s u.val g.val { x with r := { x.r with pc := if x.r.p &&& x.r.active = 0 then kImm w % 8192 else x.r.pc + 1 } } false))
/-- IF pushes the active mask and keeps the threads whose p is set; ELSE turns to the others of the block; ENDIF restores (R295). -/
def Claims.trestleIf : Prop := ∀ (s : State) (u : TUnit) (g : GangId) (x : Gang) (w : Word), nextInsn s u.val g.val 0x21 = some (x, w) →
  (pPoisoned x.r = false → x.r.stack.length < 8 → exec (.trestleIf u g) s = .next (issued s u.val g.val { x with r := { x.r with stack := x.r.active :: x.r.stack, active := x.r.active &&& x.r.p, pc := x.r.pc + 1 } } false)) ∧
  (pPoisoned x.r = true → exec (.trestleIf u g) s = .next (gangFault s u.val g.val x .poisoned x.r.pc))
/-- ELSE inverts the active mask against the stack top (R293). -/
def Claims.trestleElse : Prop := ∀ (s : State) (u : TUnit) (g : GangId) (x : Gang) (w : Word) (m : BitVec 32) (ms : List (BitVec 32)), nextInsn s u.val g.val 0x22 = some (x, w) → x.r.stack = m :: ms →
  (pPoisoned x.r = false → exec (.trestleElse u g) s = .next (issued s u.val g.val { x with r := { x.r with active := m &&& ~~~x.r.active, pc := x.r.pc + 1 } } false)) ∧
  (pPoisoned x.r = true → exec (.trestleElse u g) s = .next (gangFault s u.val g.val x .poisoned x.r.pc))
/-- ENDIF pops the mask stack (R293). -/
def Claims.trestleEndif : Prop := ∀ (s : State) (u : TUnit) (g : GangId) (x : Gang) (w : Word) (m : BitVec 32) (ms : List (BitVec 32)), nextInsn s u.val g.val 0x23 = some (x, w) → x.r.stack = m :: ms →
  exec (.trestleEndif u g) s = .next (issued s u.val g.val { x with r := { x.r with active := m, stack := ms, pc := x.r.pc + 1 } } false)
/-- CHUNK, FENCE and END take a boundary once the unit has tags for the buffered stores; after FENCE the next memory instruction waits for
the gang's requests, after END the gang ends (R302, R303). -/
def Claims.trestleChunk : Prop := ∀ (s v : State) (u : TUnit) (g : GangId) (x y : Gang) (w : Word), nextInsn s u.val g.val 0x24 = some (x, w) →
  boundary (bump s (trestleCnt 2)) u.val g.val { x with r := { x.r with pc := x.r.pc + 1 } } = some (v, y) →
  exec (.trestleChunk u g) s = .next (keepGang v u.val g.val y)
/-- FENCE takes a boundary and holds later memory instructions until earlier pool accesses retire (R302). -/
def Claims.trestleFence : Prop := ∀ (s v : State) (u : TUnit) (g : GangId) (x y : Gang) (w : Word), nextInsn s u.val g.val 0x25 = some (x, w) →
  boundary (bump s (trestleCnt 2)) u.val g.val { x with r := { x.r with pc := x.r.pc + 1 } } = some (v, y) →
  exec (.trestleFence u g) s = .next (keepGang v u.val g.val { y with fence := true })
/-- END ends the gang after a chunk boundary (R303). -/
def Claims.trestleEnd : Prop := ∀ (s v : State) (u : TUnit) (g : GangId) (x y : Gang) (w : Word), nextInsn s u.val g.val 0x26 = some (x, w) →
  boundary (bump s (trestleCnt 2)) u.val g.val { x with r := { x.r with pc := x.r.pc + 1 } } = some (v, y) →
  exec (.trestleEnd u g) s = .next (endGang v u.val g.val y)

/-- The addresses of a load or store in the active threads: s[A] + offset. -/
def Claims.Addrs (x : Gang) (w : Word) : List (Word × Bool) := (lanesOf x.r.active).map (fun t => ((sGet x.r t (kA w)).1 + BitVec.ofNat 64 (kImm w % 2 ^ 32), (sGet x.r t (kA w)).2))
/-- LD in a gang: the load of 1 to 8 bytes that it issues, each thread with what the store buffer holds of its line. -/
def Claims.Load (x : Gang) (w : Word) : TOp :=
  { id := x.nextOp, kind := .ld (2 ^ (kMod w % 4)) (kModBit w 2), d := kD w, items := ((lanesOf x.r.active).zip ((Claims.Addrs x w).map (·.1.toNat))).map (fun e => readItem x (!(kFmt w == 0)) e.1 e.2), live := x.r.active, chunk := x.chunk, ord := (kFmt w == 0) && (kImm w).testBit 32, idx := x.r.pc }
/-- LD reads scratch at once, or requests its lines where the unit has the tags; a poisoned or misaligned address faults the gang
(R300, R302, R307). -/
def Claims.trestleLd : Prop := ∀ (s v : State) (u : TUnit) (g : GangId) (x y : Gang) (w : Word) (st : Status), nextInsn s u.val g.val 0x30 = some (x, w) →
  (accessFault s x (kFmt w == 0) (Claims.Addrs x w) (2 ^ (kMod w % 4)) = none → kFmt w ≠ 0 →
    exec (.trestleLd u g) s = .next (issued s u.val g.val (scratchRead x (Claims.Load x w) ((Claims.Addrs x w).map (·.1.toNat))) false)) ∧
  (accessFault s x true (Claims.Addrs x w) (2 ^ (kMod w % 4)) = none → kFmt w = 0 →
    issueRead s u.val g.val x (Claims.Load x w) ((Claims.Addrs x w).map (·.1.toNat)) (!(kImm w).testBit 33) = some (v, y) →
    exec (.trestleLd u g) s = .next (issued v u.val g.val y false)) ∧
  (accessFault s x (kFmt w == 0) (Claims.Addrs x w) (2 ^ (kMod w % 4)) = some st → exec (.trestleLd u g) s = .next (gangFault s u.val g.val x st x.r.pc))
/-- VLD reads the line at the address of the lowest-numbered active thread. -/
def Claims.trestleVld : Prop := ∀ (s v : State) (u : TUnit) (g : GangId) (x y : Gang) (w : Word) (t : Nat) (ts : List Nat) (o : TOp), nextInsn s u.val g.val 0x33 = some (x, w) →
  lanesOf x.r.active = t :: ts → accessFault s x (kFmt w == 0) [memAddr x.r t (kA w) (kImm w)] 64 = none →
  o = { id := x.nextOp, kind := .vld, d := kD w, items := [readItem x (!(kFmt w == 0)) t (memAddr x.r t (kA w) (kImm w)).1.toNat], live := 1, chunk := x.chunk, idx := x.r.pc } →
  (kFmt w ≠ 0 → exec (.trestleVld u g) s = .next (issued s u.val g.val (scratchRead x o [(memAddr x.r t (kA w) (kImm w)).1.toNat]) false)) ∧
  (kFmt w = 0 → issueRead s u.val g.val x o [(memAddr x.r t (kA w) (kImm w)).1.toNat] true = some (v, y) → exec (.trestleVld u g) s = .next (issued v u.val g.val y false))
/-- The stores of an ST: one for every active thread, with the thread's number. -/
def Claims.Stores (x : Gang) (w : Word) : List (Nat × TStore) :=
  (((lanesOf x.r.active).zip (Claims.Addrs x w)).filter (fun e => decide (x.r.part ≤ e.1))).map (fun e =>
    (e.1, storeEntry (!(kFmt w == 0)) e.2.1.toNat (2 ^ (kMod w % 4)) (Claims.B x w e.1).1.toNat (Claims.B x w e.1).2 x.r.pc))

/-- ST buffers the stores of the active threads (R302, R303); stores that need a seventeenth line take a boundary of their own between them. -/
def Claims.trestleSt : Prop := ∀ (s : State) (u : TUnit) (g : GangId) (x : Gang) (w : Word), nextInsn s u.val g.val 0x31 = some (x, w) → (kImm w).testBit 32 = false →
  accessFault s x (kFmt w == 0) (Claims.Addrs x w) (2 ^ (kMod w % 4)) = none →
  (((Claims.Stores x w).foldl (fun b e => bufferStore b e.2) x.buf).length ≤ 16 → exec (.trestleSt u g) s =
    .next (issued s u.val g.val { x with buf := (Claims.Stores x w).foldl (fun b e => bufferStore b e.2) x.buf, r := { x.r with pc := x.r.pc + 1, part := 0 } } false)) ∧
  exec (.trestleSt u g) s = .next (storeInto u.val g.val (Claims.Stores x w) s x)
/-- VST buffers a vector register as a store of 64 B at the lowest active thread's address (R300, R303). -/
def Claims.trestleVst : Prop := ∀ (s : State) (u : TUnit) (g : GangId) (x : Gang) (w : Word) (t : Nat) (ts : List Nat) (e : TStore), nextInsn s u.val g.val 0x34 = some (x, w) →
  lanesOf x.r.active = t :: ts → accessFault s x (kFmt w == 0) [memAddr x.r t (kB w) (kImm w)] 64 = none →
  e = storeEntry (!(kFmt w == 0)) (memAddr x.r t (kB w) (kImm w)).1.toNat 64 (vGet x.r (kA w)).1.toNat ((vGet x.r (kA w)).2 != 0) x.r.pc →
  ((bufferStore x.buf e).length ≤ 16 → exec (.trestleVst u g) s = .next (issued s u.val g.val { x with buf := bufferStore x.buf e, r := { x.r with pc := x.r.pc + 1, part := 0 } } false)) ∧
  exec (.trestleVst u g) s = .next (storeInto u.val g.val [(t, e)] s x)
/-- What an ATOM asks for in a thread. -/
def Claims.AtomOf (x : Gang) (w : Word) (t : Nat) : AtomF :=
  { op := BitVec.ofNat 5 (kImm w), size := if kModBit w 0 then 1 else 0, fmt := BitVec.ofNat 2 (kImm w / 32), comb := kModBit w 1, exact := kModBit w 2, noret := kModBit w 3, a := (sGet x.r t (kB w)).1.setWidth 128, b := (sGet x.r t (kD w)).1.setWidth 128 }
/-- An ATOM of a chunk that runs for the first time, to lines that the store buffer holds nothing of, sends one new atomic for every active
thread, in thread order (R302, R304). -/
def Claims.trestleAtom : Prop := ∀ (s v : State) (u : TUnit) (g : GangId) (x y : Gang) (w : Word) (tags used : List Nat), nextInsn s u.val g.val 0x32 = some (x, w) → (kImm w).testBit 32 = false →
  accessFault s x true ((lanesOf x.r.active).map (fun t => memAddr x.r t (kA w) 0)) (if kModBit w 0 then 8 else 4) = none →
  (lanesOf x.r.active).any (fun t => atomMalformed (Claims.AtomOf x w t) 0) = false →
  x.buf.any (fun e => !e.scratch && (linesOf ((lanesOf x.r.active).map (fun t => (memAddr x.r t (kA w) 0).1.toNat))).contains e.line) = false → x.atoms.length = x.atomNext →
  freeTags s u.val g.val x (lanesOf x.r.active).length = some tags → atomRoom s u.val ((lanesOf x.r.active).map (fun t => (memAddr x.r t (kA w) 0).1.toNat)) = true →
  sendAtoms s u.val x (some x.nextOp) (((lanesOf x.r.active).zip ((lanesOf x.r.active).map (fun t => (memAddr x.r t (kA w) 0).1.toNat))).zip tags |>.map (fun e =>
    (e.1.2, Claims.AtomOf x w e.1.1, (Claims.B x w e.1.1).2 || (kImm w % 32 == 0xA && (Claims.D x w e.1.1).2), e.2))) [] = (v, y, used) →
  Runs (.trestleAtom u g) s (fun t => ∃ z : Gang, z.reqs = y.reqs ∧ z.atoms = y.atoms ∧ z.r = { y.r with pc := y.r.pc + 1 } ∧ z.nextOp = x.nextOp + 1 ∧ t = issued v u.val g.val z false)

/-- The state after a vector instruction that writes v[D]. -/
def Claims.Vector (s : State) (u : TUnit) (g : GangId) (x : Gang) (w : Word) (v : VReg × Nat) : State :=
  issued { s with draws := s.draws + 1 } u.val g.val { overwrite x true (kD w) 0 with r := { vPut x.r (kD w) v.1 with pc := x.r.pc + 1 }, flags := x.flags ||| v.2 } true
/-- The state after a vector instruction that writes s[D] of every active thread. -/
def Claims.Lanes (s : State) (u : TUnit) (g : GangId) (x : Gang) (w : Word) (f : Nat → (Word × Bool) × Nat) : State :=
  issued s u.val g.val { overwrite x false (kD w) x.r.active with r := { sPuts x.r (lanesOf x.r.active) (kD w) (fun t => (f t).1) with pc := x.r.pc + 1 }, flags := (lanesOf x.r.active).foldl (fun a t => a ||| (f t).2) x.flags } true
/-- VADD adds vector elements (R296). -/
def Claims.trestleVadd : Prop := ∀ (s : State) (u : TUnit) (g : GangId) (x : Gang) (w : Word), nextInsn s u.val g.val 0x40 = some (x, w) →
  exec (.trestleVadd u g) s = .next (Claims.Vector s u g x w (vMap2 (tBits (kFmt w)) (tArith (kFmt w) (kModBit w 1) fAdd) (vGet x.r (kA w)) (vGet x.r (kB w))))
/-- VMUL multiplies vector elements (R296). -/
def Claims.trestleVmul : Prop := ∀ (s : State) (u : TUnit) (g : GangId) (x : Gang) (w : Word), nextInsn s u.val g.val 0x41 = some (x, w) →
  exec (.trestleVmul u g) s = .next (Claims.Vector s u g x w (vMap2 (tBits (kFmt w)) (tArith (kFmt w) (kModBit w 1) fMul) (vGet x.r (kA w)) (vGet x.r (kB w))))
/-- VFMA fused multiply-add of vector elements (R296). -/
def Claims.trestleVfma : Prop := ∀ (s : State) (u : TUnit) (g : GangId) (x : Gang) (w : Word), nextInsn s u.val g.val 0x42 = some (x, w) →
  exec (.trestleVfma u g) s = .next (Claims.Vector s u g x w (vFma (kFmt w) (vGet x.r (kA w)) (vGet x.r (kB w)) (vGet x.r (kD w))))
/-- VMINMAX selects smaller or larger vector elements (R296). -/
def Claims.trestleVminmax : Prop := ∀ (s : State) (u : TUnit) (g : GangId) (x : Gang) (w : Word), nextInsn s u.val g.val 0x43 = some (x, w) →
  exec (.trestleVminmax u g) s = .next (Claims.Vector s u g x w (vMap2 (tBits (kFmt w)) (tMinMax (kFmt w) (kModBit w 2)) (vGet x.r (kA w)) (vGet x.r (kB w))))
/-- VDOT accumulates dot products into 32-bit elements (R297). -/
def Claims.trestleVdot : Prop := ∀ (s : State) (u : TUnit) (g : GangId) (x : Gang) (w : Word), nextInsn s u.val g.val 0x44 = some (x, w) →
  exec (.trestleVdot u g) s = .next (Claims.Vector s u g x w (vDot (kFmt w) (vGet x.r (kA w)) (vGet x.r (kB w)) (vGet x.r (kD w))))
/-- VCVT converts vector elements (R296). -/
def Claims.trestleVcvt : Prop := ∀ (s : State) (u : TUnit) (g : GangId) (x : Gang) (w : Word), nextInsn s u.val g.val 0x45 = some (x, w) →
  exec (.trestleVcvt u g) s = .next (Claims.Vector s u g x w (vCvt (kFmt w) (kImm w % 16) (kImm w / 16) (kModBit w 1) (vGet x.r (kA w)) (vGet x.r (kD w))))
/-- VRED reduces a vector into every active thread's scalar (R297). -/
def Claims.trestleVred : Prop := ∀ (s : State) (u : TUnit) (g : GangId) (x : Gang) (w : Word), nextInsn s u.val g.val 0x46 = some (x, w) →
  exec (.trestleVred u g) s = .next (Claims.Lanes s u g x w (fun _ => ((BitVec.ofNat 64 (vRed (kFmt w) (kMod w / 2) (vGet x.r (kA w))).1, (vRed (kFmt w) (kMod w / 2) (vGet x.r (kA w))).2.1), (vRed (kFmt w) (kMod w / 2) (vGet x.r (kA w))).2.2)))
/-- VCMP writes a comparison mask into every active thread (R296). -/
def Claims.trestleVcmp : Prop := ∀ (s : State) (u : TUnit) (g : GangId) (x : Gang) (w : Word), nextInsn s u.val g.val 0x47 = some (x, w) →
  exec (.trestleVcmp u g) s = .next (Claims.Lanes s u g x w (fun _ => ((BitVec.ofNat 64 (vCmp (kFmt w) (kImm w) (vGet x.r (kA w)) (vGet x.r (kB w))).1, (vCmp (kFmt w) (kImm w) (vGet x.r (kA w)) (vGet x.r (kB w))).2), 0)))
/-- VCMPRS and VBCAST take their scalar from the lowest-numbered active thread. -/
def Claims.trestleVcmprs : Prop := ∀ (s : State) (u : TUnit) (g : GangId) (x : Gang) (w : Word) (t : Nat) (ts : List Nat), nextInsn s u.val g.val 0x48 = some (x, w) → lanesOf x.r.active = t :: ts →
  exec (.trestleVcmprs u g) s = .next (Claims.Vector s u g x w (vCmprs (tBits (kFmt w)) (vGet x.r (kA w)) (sGet x.r t (kB w)).1.toNat (sGet x.r t (kB w)).2))
/-- VBCAST broadcasts a scalar into every element (R296). -/
def Claims.trestleVbcast : Prop := ∀ (s : State) (u : TUnit) (g : GangId) (x : Gang) (w : Word) (t : Nat) (ts : List Nat), nextInsn s u.val g.val 0x49 = some (x, w) → lanesOf x.r.active = t :: ts →
  exec (.trestleVbcast u g) s = .next (Claims.Vector s u g x w (vBcast (tBits (kFmt w)) (sGet x.r t (kA w)).1.toNat (sGet x.r t (kA w)).2))
/-- VPACK: element t + e0 takes s[A] of active thread t; the other elements keep their values. VUNPACK is its reverse, 0 outside. -/
def Claims.trestleVpack : Prop := ∀ (s : State) (u : TUnit) (g : GangId) (x : Gang) (w : Word), nextInsn s u.val g.val 0x4A = some (x, w) →
  exec (.trestleVpack u g) s = .next (Claims.Vector s u g x w (vMake (tBits (kFmt w)) (fun i =>
    if 0 ≤ (i : Int) - sInt 6 (kImm w) ∧ (i : Int) - sInt 6 (kImm w) < 32 ∧ x.r.active.getLsbD ((i : Int) - sInt 6 (kImm w)).toNat = true then
      ((sGet x.r ((i : Int) - sInt 6 (kImm w)).toNat (kA w)).1.toNat % 2 ^ tBits (kFmt w), (sGet x.r ((i : Int) - sInt 6 (kImm w)).toNat (kA w)).2, 0)
    else (vElem (vGet x.r (kD w)) (tBits (kFmt w)) i, vBad (vGet x.r (kD w)) (tBits (kFmt w)) i, 0))))
/-- VUNPACK reads a vector element into each thread's scalar (R296). -/
def Claims.trestleVunpack : Prop := ∀ (s : State) (u : TUnit) (g : GangId) (x : Gang) (w : Word), nextInsn s u.val g.val 0x4B = some (x, w) →
  exec (.trestleVunpack u g) s = .next (Claims.Lanes s u g x w (fun t => if 0 ≤ (t : Int) + sInt 6 (kImm w) ∧ (t : Int) + sInt 6 (kImm w) < vCount (tBits (kFmt w)) then
    ((BitVec.ofNat 64 (vElem (vGet x.r (kA w)) (tBits (kFmt w)) ((t : Int) + sInt 6 (kImm w)).toNat), vBad (vGet x.r (kA w)) (tBits (kFmt w)) ((t : Int) + sInt 6 (kImm w)).toNat), 0) else ((0, false), 0)))

/-! ## Multicast trains and collectives (13) -/

/-- An image that passes every check of TRAIN_CREATE and TRAIN_EDIT (R319, R320). -/
def Claims.TrainImage (s : State) (r : HandleRec) (img : List Byte) : Prop :=
  d64 r.desc 16 % 64 = 0 ∧ 128 ≤ d32 r.desc 24 ∧ d32 r.desc 24 ≤ 163904 ∧ r.imagePoison = false ∧ r.image = some img ∧ crc32c img = d32 r.desc 28 ∧
  trainImageOk s img (d32 r.desc 24) = true ∧ fencedEntry s (imgMembers img) (imgSwitches img) = none

/-- The entries of an image, one for every switch it names. -/
def Claims.Entries (s : State) (id gen : Nat) (owner : Key) (img : List Byte) : List (Nat × TrainEnt) :=
  (imgSwitches img).map (fun k => (k.sw, makeEntry s (imgMembers img) (imgSwitches img) id gen owner k))
/-- The state in which a train's installation has begun: its entries are kept, every other switch has been sent its own, and all are asked
(R320). -/
def Claims.Asked (s : State) (h id gen : Nat) (owner : Key) (o : TrainOp) : State :=
  trainProgress ((o.entries.filter (fun e => e.1 != switchId s)).foldl (fun s e =>
    sendSwitch s e.1 "TrainEntry" [id, gen, owner.toNat, e.2.count, (e.2.parent.map (·.val)).getD 255, e.2.children.toNat])
    (markStarted { s with train := { s.train with ops := s.train.ops ++ [o] } } h)) o
/-- The operation of an installation whose own entry this switch accepts. -/
def Claims.AskOp (s : State) (h mode id gen : Nat) (owner : Key) (img : List Byte) : TrainOp :=
  { handle := h, mode := mode, id := id, gen := gen, owner := owner, entries := Claims.Entries s id gen owner img,
    members := (imgMembers img).zipIdx.map (fun e => (e.2, BitVec.ofNat 16 e.1.ep, e.1.edge)),
    asking := ((Claims.Entries s id gen owner img).map (·.1)).filter (· != switchId s) }

/-- TRAIN_CREATE takes the lowest free train of this device, generation 1, and asks every switch of the image (R317, R320). -/
def Claims.trainCreate : Prop := ∀ (s : State) (h : Handle) (r : HandleRec) (img : List Byte) (i : Nat), startable s h.toNat 0x4B = some r →
  isTenant s (dKeyAt r.desc 12) = true → Claims.TrainImage s r img →
  (List.range 16384).find? (fun i => !(tblHas s.train.masters (switchId s * 2 ^ 14 + i) || s.train.ops.any (fun o => o.id == switchId s * 2 ^ 14 + i))) = some i →
  (∀ e ∈ Claims.Entries s (switchId s * 2 ^ 14 + i) 1 (dKeyAt r.desc 12) img, e.1 = switchId s → entryCheck s e.2 = .accepted) →
  exec (.trainCreate h) s = .next (Claims.Asked s h.toNat (switchId s * 2 ^ 14 + i) 1 (dKeyAt r.desc 12) (Claims.AskOp s h.toNat 0 (switchId s * 2 ^ 14 + i) 1 (dKeyAt r.desc 12) img))

/-- TRAIN_EDIT with REPLACE claims its train and asks for the train's next generation (R321). -/
def Claims.trainEdit : Prop := ∀ (s u : State) (h : Handle) (r : HandleRec) (img : List Byte) (m : TrainMaster) (t : TrainRec), startable s h.toNat 0x4C = some r →
  d8 r.desc 14 = 0 → editRefusal s h.toNat r = none → tblFind s.train.masters (d32 r.desc 8) = some m → tblFind s.train.trains (d32 r.desc 8) = some t →
  u = { s with train := { s.train with claims := tblPut s.train.claims (d32 r.desc 8) h.toNat } } → Claims.TrainImage u r img →
  (∀ e ∈ Claims.Entries u (d32 r.desc 8) (nextTrainGen m.gen) t.ent.owner img, e.1 = switchId u → entryCheck u e.2 = .accepted) →
  exec (.trainEdit h) s = .next (Claims.Asked u h.toNat (d32 r.desc 8) (nextTrainGen m.gen) t.ent.owner (Claims.AskOp u h.toNat 1 (d32 r.desc 8) (nextTrainGen m.gen) t.ent.owner img))

/-- TRAIN_EDIT with DELETE drops this switch's entry, releasing its instances, and tells the other switches to (R321, R334). -/
def Claims.trainDelete : Prop := ∀ (s u : State) (h : Handle) (r : HandleRec) (m : TrainMaster) (o : TrainOp), startable s h.toNat 0x4C = some r → d8 r.desc 14 = 1 →
  editRefusal s h.toNat r = none → tblFind s.train.masters (d32 r.desc 8) = some m →
  o = { handle := h.toNat, mode := 2, id := d32 r.desc 8, gen := nextTrainGen m.gen, owner := 0, adopting := m.switches.filter (· != switchId s), installed := true } →
  u = dropTrain (markStarted { s with train := { s.train with claims := tblPut s.train.claims (d32 r.desc 8) h.toNat, ops := s.train.ops ++ [o] } } h.toNat) (d32 r.desc 8) →
  exec (.trainDelete h) s = .next (trainProgress ((m.switches.filter (· != switchId s)).foldl (fun s sw => sendSwitch s sw "TrainRemove" [d32 r.desc 8]) u) o)

/-- A switch of the tree answers the root for its entry, keeping an entry it accepts; an adoption makes the entry current and is reported up;
a removal drops it; a withdrawal forgets what was offered (R320, R321). -/
def Claims.trainEntryDistribute : Prop := ∀ (s : State) (t : TrainEnt),
  (entryCheck s t = .accepted → exec (.trainEntryDistribute (.entry t)) s = .next (sendSwitch { s with train := { s.train with offered := s.train.offered.filter (fun x => x.id != t.id) ++ [t] } }
    (t.id.toNat / 2 ^ 14 % 4096) "TrainReply" [t.id.toNat, t.gen.toNat, 0])) ∧
  (entryCheck s t = .noRole → exec (.trainEntryDistribute (.entry t)) s = .next (sendSwitch s (t.id.toNat / 2 ^ 14 % 4096) "TrainReply" [t.id.toNat, t.gen.toNat, 1])) ∧
  (entryCheck s t = .noRoom → exec (.trainEntryDistribute (.entry t)) s = .next (sendSwitch s (t.id.toNat / 2 ^ 14 % 4096) "TrainReply" [t.id.toNat, t.gen.toNat, 2])) ∧
  (entryCheck s t = .noKey → exec (.trainEntryDistribute (.entry t)) s = .next (sendSwitch s (t.id.toNat / 2 ^ 14 % 4096) "TrainReply" [t.id.toNat, t.gen.toNat, 3])) ∧
  (∀ id gen, s.train.offered.find? (fun x => x.id == id && x.gen == gen) = some t →
    exec (.trainEntryDistribute (.adopt id gen)) s = .next (oweReport (adoptEntry s t) id.toNat gen.toNat)) ∧
  (∀ id r, tblFind s.train.trains id.toNat = some r → exec (.trainEntryDistribute (.remove id)) s = .next (oweReport (dropTrain s id.toNat) id.toNat (nextTrainGen r.ent.gen.toNat))) ∧
  (∀ id gen, exec (.trainEntryDistribute (.withdraw id gen)) s = .next { s with train := { s.train with offered := s.train.offered.filter (fun x => !(x.id == id && x.gen == gen)) } })

/-- A COLLECTIVE descriptor of a kind that passes R322 and R324: the train, its generation and member are right. -/
def Claims.Collective (s : State) (h : Nat) (r : HandleRec) (t : TrainRec) (m : TrainMember) (kind : Nat) : Prop :=
  startable s h 0x4A = some r ∧ d8 r.desc 14 = kind ∧ tblFind s.train.trains (d32 r.desc 8) = some t ∧ collBad r (Nat.max 1 t.ent.count) t.ent.minLand = none ∧
  t.ent.owner = r.key ∧ (d16 r.desc 20 = 0 ∨ d16 r.desc 20 = t.ent.gen.toNat) ∧ t.prunedM.contains (d16 r.desc 12) = false ∧ posterEntry s r t = some m
/-- The parameters of a collective. -/
def Claims.Par (r : HandleRec) (kind : Nat) : CollParams := { kind := kind, fmt := d8 r.desc 15 % 16, red := d8 r.desc 15 / 16, root := d16 r.desc 24, len := d64 r.desc 48 }
/-- A member's descriptor joins its instance, opening it where it is the first and there is room; a second of the same member is BUSY (R324). -/
def Claims.Joins (kind : Nat) (row : Handle → Instr) : Prop := ∀ (s : State) (h : Handle) (r : HandleRec) (t : TrainRec) (m : TrainMember), Claims.Collective s h.toNat r t m kind →
  (findInst s (d32 r.desc 8) t.ent.gen.toNat (d32 r.desc 16) none = none → isDead s (d32 r.desc 8) t.ent.gen.toNat (d32 r.desc 16) = false → instRoom s (d32 r.desc 8) = true →
    exec (row h) s = .next (postInto s h.toNat r { rcd := t, seq := d32 r.desc 16, par := Claims.Par r kind })) ∧
  (∀ i, findInst s (d32 r.desc 8) t.ent.gen.toNat (d32 r.desc 16) none = some i → i.posts.any (fun q => q.member == d16 r.desc 12) = false → i.par = Claims.Par r kind →
    exec (row h) s = .next (postInto s h.toNat r i)) ∧
  (∀ i, findInst s (d32 r.desc 8) t.ent.gen.toNat (d32 r.desc 16) none = some i → i.posts.any (fun q => q.member == d16 r.desc 12) = true →
    exec (row h) s = .next (commit s h.toNat .busy 0 0))

/-- A member's BARRIER that passes R322 and R324 opens its instance or joins it; a second of the same member is BUSY (R324, R330). -/
def Claims.barrier : Prop := Claims.Joins 0 .barrier
/-- A member's BCAST does likewise (R324, R325). -/
def Claims.bcast : Prop := Claims.Joins 1 .bcast
/-- A member's REDUCE does likewise (R324, R325). -/
def Claims.reduce : Prop := Claims.Joins 2 .reduce
/-- A member's ALLREDUCE does likewise (R324, R325). -/
def Claims.allreduce : Prop := Claims.Joins 3 .allreduce
/-- A member's ALLGATHER does likewise (R324, R325). -/
def Claims.allgather : Prop := Claims.Joins 4 .allgather
/-- A member's REDUCE_SCATTER does likewise (R324, R325). -/
def Claims.reduceScatter : Prop := Claims.Joins 5 .reduceScatter
/-- An MCAST is an instance of its own, of its poster (R330, R335). -/
def Claims.mcast : Prop := ∀ (s : State) (h : Handle) (r : HandleRec) (t : TrainRec) (m : TrainMember), Claims.Collective s h.toNat r t m 6 → instRoom s (d32 r.desc 8) = true →
  exec (.mcast h) s = .next (postInto { s with train := { s.train with nextMcast := s.train.nextMcast + 1 } } h.toNat r { rcd := t, seq := s.train.nextMcast, poster := some (d16 r.desc 12), par := Claims.Par r 6 })

/-- A child's partial joins its instance and what can be combined is; differing parameters end the instance; results that come down go on to
the children and are delivered; a segment of a key that its port does not hold is discarded (R325 to R328). Each returns the sender's credit. -/
def Claims.segmentArrive : Prop := ∀ (s t : State) (g : SegMsg) (i : Inst), msgInst s g = some i → t = (segPort i g.src).toList.foldl (fun s p => creditBack s p 5) s →
  (∀ p, segPort i g.src = some p → ingressKey t p i.rcd.ent.owner = false → exec (.segmentArrive g) s = .next (bump t (portRouteCnt p 0))) ∧
  ((segPort i g.src).all (fun p => ingressKey t p i.rcd.ent.owner) = true → isDead t g.train.toNat g.gen.toNat g.seq = false →
    (i.par ≠ g.par → exec (.segmentArrive g) s = .next (mismatch t i none)) ∧
    (∀ p : PortId, i.par = g.par → g.src = .child p → i.par.kind ≠ 6 → (childTrunks t i).contains p.val = true → g.seg < i.combined + 32 →
      i.contribs.any (fun c => c.child && c.idx == p.val && c.seg == g.seg) = false →
      exec (.segmentArrive g) s = .next (instRun t { i with contribs := i.contribs ++ [{ seg := g.seg, child := true, idx := p.val, data := g.data, count := g.count }] })) ∧
    (i.par = g.par → g.src = .down → i.rcd.ent.root = false → i.rel = none → g.rel = none → g.seg = i.sent →
      exec (.segmentArrive g) s = .next (instRun (sendDown t { i with count := g.count, mcount := g.mcount } g.seg g.count g.data)
        { i with count := g.count, mcount := g.mcount, sent := g.seg + 1, results := tblPut i.results g.seg g.data })))

/-! ## Paths and tethers (14) -/

/-- A packet at a trunk port returns its credit and goes to its bridle's next port with NEXT advanced, or, past its last hop, to this switch; a
wrong key or an invalid hop discards it (R342, R343). -/
def Claims.transitHop : Prop := ∀ (s t : State) (p : PortId) (k : Packet), t = creditBack s p.val k.tc.toNat → t.sys.st = .serving → isHostPort t p.val = false → isTrunk t p.val = true →
  (ingressKey t p.val k.key = true → ckeyBad k.key k.ckey = false → k.badSlots = false →
    (hopFault t k.bridle = none → bNext k.bridle ≠ bCount k.bridle → exec (.transitHop p k) s = .next (hopOut t k (bPort k.bridle (bNext k.bridle)) (hopOn t k.bridle))) ∧
    (hopFault t k.bridle = none → bNext k.bridle = bCount k.bridle → exec (.transitHop p k) s = .next (hopDeliver t p k)) ∧
    (∀ c, hopFault t k.bridle = some c → exec (.transitHop p k) s = .next (hopDrop t p.val k c))) ∧
  (ingressKey t p.val k.key = false → exec (.transitHop p k) s = .next (answerDrop (bump t (portRouteCnt p.val 0)) k .keyReject))

/-- A checked path image is adopted as the next generation, with markers on the bridles that streams leave (R351 to R353). -/
def Claims.pathUpdate : Prop := ∀ (s : State) (h : HRef) (r : HandleRec) (b : List Byte), startable s h.toNat 0x52 = some r → d64 r.desc 8 % 64 = 0 → 144 ≤ d32 r.desc 16 →
  d32 r.desc 16 ≤ 655424 → (d32 r.desc 16 - 64) % 80 = 0 → pathBusy s h.toNat = false → r.imagePoison = false → r.image = some b → crc32c b = d32 r.desc 24 →
  (d32 r.desc 20 = 0 ∨ d32 r.desc 20 = s.route.gen) → b.length = d32 r.desc 16 → imgNat b 0 4 = (d32 r.desc 16 - 64) / 80 → imgNat b 4 60 = 0 →
  (List.range (imgNat b 0 4)).find? (fun i => !pathEntryOk s b i) = none →
  exec (.pathUpdate h) s = .next (publishPaths s h.toNat b)

/-- A PATHMARK that has reached its end is counted there and acknowledged to the switch that sent it (R353). -/
def Claims.pathmark : Prop := ∀ (s : State) (p : PortId) (b : Word) (tc : Tc) (src : BitVec 12), (isHostPort s p.val || isTrunk s p.val) = true →
  exec (.pathmark p b tc src) s = .next (sendSwitch (bump s (portRouteCnt p.val 5)) src.toNat "MarkAck" [b.toNat, tc.toNat])

/-- MARKACK takes its marker back; what waited for it goes on (R353). -/
def Claims.markack : Prop := ∀ (s : State) (b : Word) (tc : Tc) (m : Marker), s.route.markers.find? (fun m => m.bridle == b && m.tc == tc.toNat) = some m →
  exec (.markack b tc) s = .next (afterMarkers { s with route := { s.route with markers := s.route.markers.erase m } })

/-- TETHER_OPEN of a plan that passes R356 opens the lowest free tether of this device, reserves its units here and asks the other switches of
its route; where there are none it starts (R357). -/
def Claims.tetherOpen : Prop := ∀ (s u : State) (h : Handle) (r : HandleRec) (b : List Byte) (i : Nat) (t : Tether), startable s h.toNat 0x50 = some r → d64 r.desc 8 % 64 = 0 →
  r.imagePoison = false → r.image = some b → crc32c b = d32 r.desc 20 → planOk s b (d32 r.desc 16) = true → isTenant s (BitVec.ofNat 16 (imgNat b 4 2)) = true →
  freeTether s = some i → t = planTether s b (switchId s * 8192 + i) h.toNat → fencedHop s t = none → tetherMatched s t = false → tetherCheck s t true = .accepted →
  u = t.route.foldl (fun u e => if e.1 = switchId u then u else sendSwitch u e.1 "TetherEntry" [t.id, e.2.1, e.2.2, t.tc, t.units, t.owner.toNat]) (addTether (markStarted s h.toNat) t) →
  (routeOthers u t ≠ [] → exec (.tetherOpen h) s = .next u) ∧ (routeOthers u t = [] → exec (.tetherOpen h) s = .next (startTether u t))

/-- TETHER_CLOSE of an active tether that no live command has under way begins its switch-over; one that is broken is removed at once; one in
progress is TABLE_BUSY (R359, R360). -/
def Claims.tetherClose : Prop := ∀ (s : State) (h : HRef) (r : HandleRec) (t : Tether), startable s h.toNat 0x51 = some r →
  s.route.tethers.find? (fun t => t.master && t.id == d32 r.desc 8) = some t →
  (t.st = .active → (t.handle.bind (handleOf s)).any (fun y => decide (y.phase = .live)) = false →
    exec (.tetherClose h) s = .next (switchTether (putTether (markStarted s h.toNat) { t with st := .closing, handle := some h.toNat }) { t with st := .closing, handle := some h.toNat })) ∧
  (t.st = .broken → exec (.tetherClose h) s = .next (commit (bump (dropTether s t.id) (routeCnt 6)) h.toNat .ok 0 0)) ∧
  (t.st = .opening ∨ t.st = .closing → exec (.tetherClose h) s = .next (commit s h.toNat .tableBusy 0 0))

/-- A switch of a route installs an entry that it can admit and answers the source switch; it removes one when told (R357, R360). -/
def Claims.tetherEntryInstall : Prop := ∀ (s : State),
  (∀ (x : TetherEnt) (t : Tether), t = { id := x.id.toNat, st := .active, tc := x.tc.toNat, units := x.units, home := x.home, owner := x.owner, src := x.src, dst := x.dst, dsw := x.dsw.toNat, bridle := x.bridle, inPort := x.inPort.val, outPort := (x.outPort.map (·.val)).getD 255 } →
    tetherAt s x.id.toNat = none →
    (tetherCheck s t false = .accepted → exec (.tetherEntryInstall (.entry x)) s = .next (sendSwitch (addTether s t) (x.id.toNat / 8192 % 4096) "TetherReply" [x.id.toNat, 0])) ∧
    (tetherCheck s t false ≠ .accepted → exec (.tetherEntryInstall (.entry x)) s = .next (sendSwitch s (x.id.toNat / 8192 % 4096) "TetherReply" [x.id.toNat, tetherCode (tetherCheck s t false)]))) ∧
  (∀ (id : BitVec 32) (t : Tether), tetherAt s id.toNat = some t → t.master = false →
    exec (.tetherEntryInstall (.remove id)) s = .next (sendSwitch (dropTether s id.toNat) (id.toNat / 8192 % 4096) "TetherRemoved" [id.toNat]))

/-- The peer of a trunk port is known from its report (R490). -/
def Claims.trunkActiveReport : Prop := ∀ (s : State) (sw peer : BitVec 12) (p pp : PortId),
  exec (.trunkActiveReport sw p peer pp) s = .next { s with ras := { s.ras with adj := tblPut s.ras.adj (sw.toNat * 128 + p.val) (peer.toNat, pp.val) } }

/-! ## The switch core, congestion and egress scheduling (15, 16) -/

/-- A cell is counted and takes the next number of its stream. -/
def Claims.Numbered (s : State) (c : Cell) (pos : Nat) : State := (takeSeq (bump s (coreCnt pos 0)) (streamKey c.port.val c.src.val c.tc.toNat)).2
/-- The cell in the core: its number, its ingress and middle positions, its tenant queue. -/
def Claims.InCore (s v : State) (c : Cell) (pos m : Nat) : CoreCell :=
  { cell := c, seq := tblGet s.core.seqs (streamKey c.port.val c.src.val c.tc.toNat) 0, islice := pos, middle := m, tq := tenantQueue v c.key, conform := none }
/-- The mark that a stream's packet met a discard is set or cleared. -/
def Claims.Dropping (s : State) (c : Cell) (d : Bool) : State :=
  { s with core := { s.core with dropping := if d then s.core.dropping.filter (· != streamKey c.port.val c.src.val c.tc.toNat) ++ [streamKey c.port.val c.src.val c.tc.toNat] else s.core.dropping.filter (· != streamKey c.port.val c.src.val c.tc.toNat) } }
/-- A cell goes to the next middle position of its source's rotation. A lossless one with a free cell in its ingress role is spread or waits
for its stage credit; a lossy packet that the average depth discards leaves a notice in sequence; a train's data cell is copied for every child
port and member (R366 to R369, R374, R379, R395). -/
def Claims.cellIngress : Prop := ∀ (s : State) (k : SliceId) (c : Cell) (pos : Nat), livePos s k.val = some pos → s.sys.st = .serving → (srcPos c.src.val).any (· != pos) = false →
  (c.train = none → egressPort s c.port.val = true → c.tether = none →
    (4 ≤ c.tc.toNat → ∀ m v, nextPos (Claims.Dropping (Claims.Numbered s c pos) c false) (c.src.val * 8 + c.tc.toNat) = (m, v) → 0 < freeCells v pos →
      exec (.cellIngress k c) s = .next (spreadCell v (Claims.InCore s v c pos m) [])) ∧
    (c.tc.toNat < 4 → c.kind = .data → c.start = true → ∀ w m v, wredDrops (Claims.Numbered s c pos) c = (true, w) →
      nextPos (Claims.Dropping w c (!c.fin)) (c.src.val * 8 + c.tc.toNat) = (m, v) →
      exec (.cellIngress k c) s = .next (spreadCell (countNotice (bump v (coreCnt pos 5)) pos) (asNotice (Claims.InCore s v c pos m)) [])) ∧
    (c.tc.toNat < 4 → c.kind = .data → c.start = true → ∀ w m v, wredDrops (Claims.Numbered s c pos) c = (false, w) →
      nextPos (Claims.Dropping w c false) (c.src.val * 8 + c.tc.toNat) = (m, v) → 0 < freeCells v pos →
      exec (.cellIngress k c) s = .next (spreadCell v (Claims.InCore s v c pos m) []))) ∧
  (∀ id, c.train = some id → c.tc = 5 → c.kind = .data → exec (.cellIngress k c) s = .next (trainIngress s pos c id.toNat))

/-- A stage credit returns to its tuple, and waiting cells that now hold one go on (R366). -/
def Claims.stageCreditReturn : Prop := ∀ (s : State) (i e : SliceId) (m : Fin 16) (tc : Tc) (a b : Nat), posOf s i.val = some a → posOf s e.val = some b →
  s.core.leaving.contains (tupleKey a m.val b tc.toNat) = true →
  exec (.stageCreditReturn i m e tc) s = .next (retryWaiting { s with core := { s.core with leaving := s.core.leaving.erase (tupleKey a m.val b tc.toNat), credits := tblMod s.core.credits (tupleKey a m.val b tc.toNat) 0 (· - 1) } })

/-- A pull takes, for the first port in the link's rotation with a transfer from the middle, the cell of the port's tether slot, else the head of
its next class, to the egress slice, or its notice where the slice has no cell for it; the rotations move on (R370 to R374). -/
def Claims.middlePull : Prop := ∀ (s u v : State) (k e : SliceId) (m dst j : Nat) (c : CoreCell), livePos s k.val = some m → livePos s e.val = some dst →
  ((List.range 8).map (fun i => (tblGet s.core.portPtr (dst * 16 + m) 0 + i) % 8)).find? (fun j => (portPull s m (8 * dst + j)).isSome) = some j →
  ((∃ g b, slotPull s m (8 * dst + j) = some (g, c) ∧ b = bump (bump s (coreCnt ((8 * dst + j) / 8) 8)) (portRouteCnt (8 * dst + j) 6) ∧
      u = { b with core := { b.core with lastSlot := tblPut b.core.lastSlot (8 * dst + j) (slotNow b (8 * dst + j)), groupPtr := tblPut b.core.groupPtr ((8 * dst + j) * 4 + g) ((m + 1) % 16) } }) ∨
   (slotPull s m (8 * dst + j) = none ∧ classPull s m (8 * dst + j) = some c ∧ u = { s with core := { s.core with classPtr := tblPut s.core.classPtr (8 * dst + j) ((c.cell.tc.toNat + 1) % 8) } })) →
  v = { u with core := { u.core with middle := u.core.middle.erase c } } →
  (∀ w, admitCell v (c.cell.port.val / 8) c = some w →
    exec (.middlePull k e) s = .next { w with core := { w.core with pulled := w.core.pulled ++ [c], portPtr := tblPut w.core.portPtr (dst * 16 + m) ((j + 1) % 8) } }) ∧
  (∀ w, admitCell v (c.cell.port.val / 8) c = none → w = countNotice (bump v (coreCnt (c.cell.port.val / 8) 5)) (c.cell.port.val / 8) →
    exec (.middlePull k e) s = .next { w with core := { w.core with pulled := w.core.pulled ++ [asNotice c], portPtr := tblPut w.core.portPtr (dst * 16 + m) ((j + 1) % 8) } })

/-- A pulled cell enters the reorder context of its stream, and every cell that has become next is released (R375, R376). -/
def Claims.resequenceCell : Prop := ∀ (s : State) (p : PortId) (src : Fin 165) (tc : Tc) (seq : BitVec 16) (c : CoreCell) (r : Reorder),
  s.core.pulled.find? (fun c => c.cell.port == p && c.cell.src == src && c.cell.tc == tc && c.seq == seq.toNat) = some c →
  r = tblGet s.core.reorder (streamKey p.val src.val tc.toNat) {} → c.seq = r.expect →
  exec (.resequenceCell p src tc seq) s = .next (releaseNext (r.held.length + 1) { s with core := { s.core with pulled := s.core.pulled.erase c, reorder := tblPut s.core.reorder (streamKey p.val src.val tc.toNat) { r with held := r.held ++ [c] } } } (streamKey p.val src.val tc.toNat))

/-- A failing buffer row is replaced by a spare row of its slice (R381). -/
def Claims.bufferRowFault : Prop := ∀ (s : State) (k : SliceId), sliceWorks s k.val = true → (rowsOf s k.val).used < 16 →
  exec (.bufferRowFault k false) s = .next (setBit (logEvent { s with core := { s.core with rows := tblPut s.core.rows k.val { rowsOf s k.val with used := (rowsOf s k.val).used + 1 } } } 2 2 k.val 1 0 0 0 0 0) (sliceBase ((posOf s k.val).getD 16) + 0x18) 0)

/-- The spare slice takes over the position of a slice that fails (R382); without one the device stops serving (R383). -/
def Claims.sliceFault : Prop := ∀ (s : State) (k : SliceId) (pos : Nat), sliceWorks s k.val = true → posOf s k.val = some pos →
  (∀ sp u, s.core.spare = some sp → sp ≠ k.val → u = errorRecord { s with core := { s.core with failed := s.core.failed ++ [k.val] } } { kind := 2, cls := 2, idx := k.val, cause := 3, spareKind := 2, spareIdx := sp } →
    exec (.sliceFault k) s = .next { u with core := { u.core with spare := none, takeover := some pos, takeTo := sp } }) ∧
  (s.core.spare = none → exec (.sliceFault k) s = .next (deviceStop { s with core := { s.core with failed := s.core.failed ++ [k.val] } } 2 k.val 3))

/-- When a takeover is done the spare holds the position, and cells that waited for it go on (R382). -/
def Claims.sliceTakeoverDone : Prop := ∀ (s u : State) (pos : Nat), s.core.takeover = some pos → s.core.failed.contains (holderOf s pos) = true →
  u = setBit (setBit s (sliceBase pos + 0x18) 2) (sliceBase 16 + 0x18) 2 →
  exec .sliceTakeoverDone s = .next (retryWaiting { u with core := { u.core with holder := tblPut u.core.holder pos u.core.takeTo, takeover := none, spare := none } })

/-- Published depths move every average of the slice's ports toward them (R395). -/
def Claims.wredDepthPublish : Prop := ∀ (s : State) (k : SliceId) (pos : Nat), posOf s k.val = some pos → (∀ t, tblFind s.cong.lastPublish pos = some t → t + 64 ≤ s.now) →
  Runs (.wredDepthPublish k) s (fun t => t.cong.lastPublish = tblPut s.cong.lastPublish pos s.now ∧
    t.cong.wred = ((List.range 8).flatMap (fun j => (List.range 4).map (fun tc => (pos * 8 + j, tc)))).foldl (fun w x => tblPut w (x.1 * 8 + x.2)
      ((Int.ofNat (tblGet s.cong.wred (x.1 * 8 + x.2) 0)) + (Int.ofNat (aggregateDepth s x.1 x.2 * 65536) - Int.ofNat (tblGet s.cong.wred (x.1 * 8 + x.2) 0)) / (2 ^ fld s 0x34000 24 4 : Int)).toNat) s.cong.wred ∧
    t.core = s.core ∧ t.pool = s.pool)

/-- A port that is up sends the ready head of its strict classes and tether groups where its rate allows; with none ready, the class and the tenant
queue that the weighted schedulers choose send, and are charged (R397 to R400). -/
def Claims.egressSchedule : Prop := ∀ (s u : State) (p : PortId), portUp s p.val = true → u = noteStalls s p.val →
  (∀ e, strictHead u p.val = some e → shapeOk u e = true → exec (.egressSchedule p) s = .next (sendPkt u e)) ∧
  (∀ picks cs c tc qs q e, strictHead u p.val = none → picks = [0, 1, 2, 3, 5, 6].filterMap (fun tc => (chooseQueue u p.val tc).map (fun q => (tc, q))) →
    cs = picks.map (fun x => candOf u p.val (classKey p.val x.1) (classParams u p.val x.1) x.2.2.2) → chooseCand cs = some c →
    picks.find? (fun x => classKey p.val x.1 == c.key) = some (tc, qs, q, e) → shapeOk u e = true →
    exec (.egressSchedule p) s = .next (sendPkt (chargeCand (keepAccrued (chargeCand (keepAccrued u cs) (p.val * 16 + 8) (classParams u p.val tc).2.2 c) qs) (p.val * 16 + tc)
      (queueParams (chargeCand (keepAccrued u cs) (p.val * 16 + 8) (classParams u p.val tc).2.2 c) tc e.tq).2.2 q) e))

/-! ## Bromet links (17), telemetry and endpoint messages (16) -/

/-- The symbols that a flit's codewords had corrected are counted. A good flit that is expected is accepted and its header taken; one that fails
FEC, CRC or format and was expected is rejected, and one whose tag fails is counted as such. Then a lane over SER_THRESH has a lasting fault
(R410, R419, R424, R430, R434). -/
def Claims.flitReceive : Prop := ∀ (s u : State) (p : PortId) (f : Flit), bondOdd s p.val = false → (linkOf s p.val).st = .active → u = countCorr s p.val f.corr → f.ctl = false →
  f.fseq.toNat = (linkOf u p.val).rxNext →
  (f.check = .good → ((linkOf u p.val).encOn = false ∨ rxOpens u p.val f = true) → exec (.flitReceive p f) s = .next (serCheck (takeHeader (acceptFlit u p.val f) p.val f) p.val)) ∧
  (f.check = .good → (linkOf u p.val).encOn = true → rxOpens u p.val f = false → exec (.flitReceive p f) s = .next (serCheck (rejectFlit (linkErr (bump u (linkCnt p.val 13)) p.val 6) p.val none true) p.val)) ∧
  (f.check = .crc → exec (.flitReceive p f) s = .next (serCheck (rejectFlit (bump u (linkCnt p.val 3)) p.val none false) p.val)) ∧
  (∀ lane, f.check = .fec lane → exec (.flitReceive p f) s = .next (serCheck (rejectFlit (bump u (linkCnt p.val 4)) p.val (lane.map (·.val)) false) p.val))

/-- Three markers with the right sync word make lock during training; every marker keeps the superframe count (R411, R413). -/
def Claims.superframeMarker : Prop := ∀ (s : State) (p : PortId) (m : Marker17), bondOdd s p.val = false → (linkOf s p.val).st = .lock → m.sync = 0x6C2D → (linkOf s p.val).sfCount = none →
  exec (.superframeMarker p m) s = .next (setLink s p.val { linkOf s p.val with sfCount := some m.sfCount.toNat, goodMarkers := (linkOf s p.val).goodMarkers + 1, badMarkers := 0, locked := (linkOf s p.val).locked || decide (3 ≤ (linkOf s p.val).goodMarkers + 1) })

/-- An idle slot of an ACTIVE link sends an IDLE flit with the acknowledgement (R412, R429). -/
def Claims.idle : Prop := ∀ (s : State) (p : PortId), bondOdd s p.val = false → (linkOf s p.val).st = .active → exec (.idle p) s = .next (sendIdle s p.val)
/-- A NAK resends every flit from the one it names (R430). -/
def Claims.nak : Prop := ∀ (s : State) (p : PortId) (q : BitVec 12) (i : Nat), bondOdd s p.val = false → (linkOf s p.val).st = .active → (linkOf s p.val).replay.findIdx? (fun e => e.1 == q.toNat) = some i →
  exec (.nak p q) s = .next (resendFrom s p.val i)
/-- The first CREDIT of a channel is its grant; later ones add what the receiver has freed since (R427). -/
def Claims.credit : Prop := ∀ (s : State) (p : PortId) (ch : Fin 9) (v : BitVec 12) (l : Link), bondOdd s p.val = false → linkOf s p.val = l → l.st = .active →
  (tblFind l.lastReport ch.val = none → exec (.credit p ch v) s = .next (setLink s p.val { l with lastReport := tblPut l.lastReport ch.val v.toNat, grant := tblPut l.grant ch.val v.toNat, credTx := tblPut l.credTx ch.val v.toNat })) ∧
  (∀ n h, tblFind l.lastReport ch.val = some n → h = tblGet l.credTx ch.val 0 + (v.toNat + 4096 - n) % 4096 → h ≤ tblGet l.grant ch.val 0 →
    exec (.credit p ch v) s = .next (setLink s p.val { l with lastReport := tblPut l.lastReport ch.val v.toNat, credTx := tblPut l.credTx ch.val h })) ∧
  (∀ n, tblFind l.lastReport ch.val = some n → tblGet l.grant ch.val 0 < tblGet l.credTx ch.val 0 + (v.toNat + 4096 - n) % 4096 →
    exec (.credit p ch v) s = .next (retrainLink (linkErr s p.val 9) p.val))
/-- CONFIG from the right partner, at a width both ends can take and with encryption both can meet, makes the link ACTIVE; a wrong partner fails
the training (R414, R417). -/
def Claims.config : Prop := ∀ (s : State) (p : PortId) (c : ConfigMsg), bondOdd s p.val = false → (linkOf s p.val).st = .config →
  (∀ w, (if isTrunk s p.val then c.switchId.toNat == fld s (portBase p.val + 0x100) 17 12 && c.switchId != 0xFFF else c.switchId == 0xFFF) = true → agreedWidth s p.val c.widthCap = some w →
    (((linkCfg s p.val 0 2 == 1) || c.encReq) && !(txKeys s p.val && c.encCap)) = false →
    exec (.config p c) s = .next (linkActive s p.val w ((linkCfg s p.val 0 2 == 1) || c.encReq) c)) ∧
  ((if isTrunk s p.val then c.switchId.toNat == fld s (portBase p.val + 0x100) 17 12 && c.switchId != 0xFFF else c.switchId == 0xFFF) = false →
    exec (.config p c) s = .next (trainFailed (linkErr s p.val 5) p.val))
/-- A LANE_REQ that asks for a free spare is acknowledged, and forgotten when it ends; one abandoned retrains the port (R419). -/
def Claims.laneReq : Prop := ∀ (s : State) (p : PortId) (j : Fin 8), bondOdd s p.val = false → (linkOf s p.val).st = .active →
  (spareServes s p.val j.val = true → exec (.laneReq p j .start) s = .next (sendCtl (setLink s p.val { linkOf s p.val with partnerLane := some j.val }) p.val "LaneAck" [j.val])) ∧
  exec (.laneReq p j .done) s = .next (setLink s p.val { linkOf s p.val with partnerLane := none }) ∧
  exec (.laneReq p j .abandon) s = .next (retrainLink (setLink s p.val { linkOf s p.val with partnerLane := none }) p.val)
/-- LANE_ACK of the lane asked for lets the copy on the spare begin (R419). -/
def Claims.laneAck : Prop := ∀ (s : State) (p : PortId) (j : Fin 8), bondOdd s p.val = false → (linkOf s p.val).st = .active → (linkOf s p.val).spareStage = some .asked → (linkOf s p.val).spareLane = some j.val →
  exec (.laneAck p j) s = .next (setLink s p.val { linkOf s p.val with spareStage := some .copied, spareSince := s.now })
/-- RETRAIN_REQ from the partner of an ACTIVE link takes it to RETRAIN, or, where fast retraining is off, to DETECT (R413, R415). -/
def Claims.retrainReq : Prop := ∀ (s : State) (p : PortId), bondOdd s p.val = false → (linkOf s p.val).st = .active →
  (flag (linkErr s p.val 3) (portBase p.val + 0x10) 2 = true → exec (.retrainReq p) s = .next (linkTo (linkErr s p.val 3) p.val .retrain)) ∧
  (flag (linkErr s p.val 3) (portBase p.val + 0x10) 2 = false → exec (.retrainReq p) s = .next (bump (detectLink (linkErr s p.val 3) p.val) (linkCnt p.val 12)))
/-- TS1 on every lane takes DETECT to EQ, and adapted both ways on every lane EQ to LOCK; the blocks of the new state are sent (R414). -/
def Claims.ts1 : Prop := ∀ (s : State) (p : PortId) (b : TrainBlock) (l : Link), bondOdd s p.val = false → linkOf s p.val = l → b.crcOk = true → b.lane.val < 8 → allLanes (wantWidth s p.val) (addLane l.eqLanes b.lane.val) = true →
  (l.st = .detect → l.retryAt = 0 → exec (.ts1 p b) s = .next (sendTraining (setLink s p.val { l with st := .eq, since := s.now, eqLanes := [], partner := some b }) p.val)) ∧
  (l.st = .eq → b.eqDone = true → exec (.ts1 p b) s = .next (sendTraining (setLink s p.val { l with st := .lock, since := s.now, eqLanes := addLane l.eqLanes b.lane.val, partner := some b, goodMarkers := 0, sfCount := none, locked := false }) p.val))
/-- TS2 in lock both ways on every lane takes LOCK to CONFIG (R414). -/
def Claims.ts2 : Prop := ∀ (s : State) (p : PortId) (b : TrainBlock) (l : Link), bondOdd s p.val = false → linkOf s p.val = l → b.crcOk = true → b.lane.val < 8 → l.st = .lock → b.locked = true → l.locked = true →
  allLanes (wantWidth s p.val) (addLane l.lockLanes b.lane.val) = true →
  exec (.ts2 p b) s = .next (sendTraining (setLink s p.val { l with st := .config, since := s.now, lockLanes := addLane l.lockLanes b.lane.val }) p.val)
/-- A state past its bound fails the training, at a narrower width where EQ had one adapted; a RETRAIN past it trains from DETECT (R414, R415,
R420). -/
def Claims.trainingTimeout : Prop := ∀ (s : State) (p : PortId) (l : Link), bondOdd s p.val = false → linkOf s p.val = l →
  (l.st = .eq → l.since + 10000000 ≤ s.now → [4, 2, 1].find? (fun w => w < wantWidth s p.val && allLanes w l.eqLanes) = none → exec (.trainingTimeout p) s = .next (trainFailed s p.val)) ∧
  (∀ w, l.st = .eq → l.since + 10000000 ≤ s.now → [4, 2, 1].find? (fun w => w < wantWidth s p.val && allLanes w l.eqLanes) = some w →
    exec (.trainingTimeout p) s = .next (modLink (trainFailed s p.val) p.val (fun l => { l with reduced := some w }))) ∧
  (l.st = .lock → l.since + 1000000 ≤ s.now → exec (.trainingTimeout p) s = .next (trainFailed s p.val)) ∧
  (l.st = .config → l.since + 100000 ≤ s.now → exec (.trainingTimeout p) s = .next (trainFailed s p.val)) ∧
  (l.st = .retrain → l.since + 50000 ≤ s.now → exec (.trainingTimeout p) s = .next (bump (detectLink s p.val) (linkCnt p.val 12)))
/-- After its wait a port whose trainings failed tries again (R416). -/
def Claims.trainRetryTimer : Prop := ∀ (s : State) (p : PortId), bondOdd s p.val = false → (linkOf s p.val).st = .detect → (linkOf s p.val).retryAt ≠ 0 → (linkOf s p.val).retryAt ≤ s.now →
  exec (.trainRetryTimer p) s = .next (setLink s p.val { linkOf s p.val with retryAt := 0, eqLanes := [] })
/-- A replay timeout resends everything that is not acknowledged (R430). -/
def Claims.replayTimeout : Prop := ∀ (s : State) (p : PortId) (e : Nat × Nat) (es : List (Nat × Nat)), bondOdd s p.val = false → (linkOf s p.val).replay = e :: es → (linkOf s p.val).st = .active →
  e.2 + 100 * linkCfg s p.val 22 10 ≤ s.now → exec (.replayTimeout p) s = .next (bump (resendFrom s p.val 0) (linkCnt p.val 7))
/-- While flits are discarded the NAK is repeated every 500 ns (R430). -/
def Claims.nakRepeat : Prop := ∀ (s : State) (p : PortId), bondOdd s p.val = false → (linkOf s p.val).st = .active → (linkOf s p.val).discarding = true → (linkOf s p.val).nakAt + 500 ≤ s.now →
  exec (.nakRepeat p) s = .next (sendNak s p.val)
/-- An acknowledgement is owed after ACK_MAX flits or 500 ns (R429). -/
def Claims.ackTimer : Prop := ∀ (s : State) (p : PortId), bondOdd s p.val = false → (linkOf s p.val).st = .active → 0 < (linkOf s p.val).owed →
  (linkCfg s p.val 48 8 ≤ (linkOf s p.val).owed ∨ (linkOf s p.val).ackAt + 500 ≤ s.now) → exec (.ackTimer p) s = .next (sendIdle s p.val)
/-- A spare lane that has adapted carries the lane from the next superframe, with a record of the sparing (R419). -/
def Claims.spareRxAdapted : Prop := ∀ (s u : State) (p : PortId) (l : Link) (j : Nat), bondOdd s p.val = false → linkOf s p.val = l → l.spareLane = some j → l.st = .active → l.spareStage = some .copied →
  s.now ≤ l.spareSince + 50000 → u = sendCtl (setLink s p.val { l with spareStage := none, laneState := l.laneState ||| 2 ^ j }) p.val "Marker" [l.laneState ||| 2 ^ j] →
  exec (.spareRxAdapted p) s = .next (sendCtl (errorRecord (takeSpare u p.val j) { kind := 1, cls := 2, idx := p.val, cause := l.spareWhy.1, d0 := l.spareWhy.2.1, d1 := l.spareWhy.2.2, spareKind := 1, spareIdx := p.val / 2 }) p.val "LaneReq" [j, 2])
/-- A lane replacement that is not acknowledged in 3 µs is abandoned (R419). -/
def Claims.laneReplaceTimeout : Prop := ∀ (s : State) (p : PortId) (l : Link), bondOdd s p.val = false → linkOf s p.val = l → l.spareStage = some .asked → l.spareSince + 3000 ≤ s.now →
  exec (.laneReplaceTimeout p) s = .next (retrainLink (sendCtl (setLink s p.val { l with spareStage := none, spareLane := none }) p.val "LaneReq" [l.spareLane.getD 0, 3]) p.val)
/-- A lasting fault of a lane of an ACTIVE link starts its replacement where the spare is free, and otherwise the link goes on without the lane
(R419, R420). -/
def Claims.laneAdaptationLoss : Prop := ∀ (s : State) (p : PortId) (j : Fin 8), (linkOf s p.val).st = .active → j.val < (linkOf s p.val).width →
  (spareFree s p.val = true → exec (.laneAdaptationLoss p j) s = .next (sendCtl (setLink s p.val { markBad s p.val j.val (linkOf s p.val) with spareLane := some j.val, spareStage := some .asked, spareSince := s.now, spareWhy := (3, 0, 0) }) p.val "LaneReq" [j.val, 1])) ∧
  (spareFree s p.val = false → exec (.laneAdaptationLoss p j) s = .next (narrowLink s p.val j.val (3, 0, 0)))
/-- LINK_EN set lets a port that may train begin, a CXL port too; cleared, it takes the link DOWN (R414, R440). -/
def Claims.linkEn : Prop := ∀ (s u v : State) (p : PortId), u = setFld s (portBase p.val + 0x18) 0 1 1 → v = setFld s (portBase p.val + 0x18) 0 1 0 →
  (cxlTrains u p.val = false → (linkOf u p.val).st = .down → canTrain u p.val = true → exec (.linkEn p true) s = .next (linkTo u p.val .detect)) ∧
  (cxlTrains u p.val = true → (tblGet u.link.cxl p.val {}).st = .down →
    exec (.linkEn p true) s = .next { u with link := { u.link with cxl := tblPut u.link.cxl p.val { tblGet u.link.cxl p.val {} with st := .training } } }) ∧
  (cxlPort v p.val = false → (linkOf v p.val).st ≠ .down → exec (.linkEn p false) s = .next (linkTo v p.val .down)) ∧
  (cxlPort v p.val = true → isHostPort v p.val = false → (cxlOf v p.val).st ≠ .down → exec (.linkEn p false) s = .next (setCxl v p.val {}))
/-- RETRAIN tells the partner of an ACTIVE link and leaves ACTIVE, or ends the DOWN of an authentication failure (R415, R436). -/
def Claims.retrain : Prop := ∀ (s u : State) (p : PortId), bondOdd s p.val = false → u = setLink s p.val { linkOf s p.val with authDown := false } →
  ((linkOf s p.val).authDown = false → (linkOf s p.val).st = .active → exec (.retrain p) s = .next (leaveActive (sendCtl s p.val "RetrainReq" []) p.val)) ∧
  ((linkOf s p.val).authDown = true → (linkOf u p.val).st = .down → canTrain u p.val = true → exec (.retrain p) s = .next (linkTo u p.val .detect))
/-- FULL_RETRAIN trains an ACTIVE link from DETECT at its configured width (R420). -/
def Claims.fullRetrain : Prop := ∀ (s : State) (p : PortId), bondOdd s p.val = false → (linkOf s p.val).authDown = false → (linkOf s p.val).st = .active →
  exec (.fullRetrain p) s = .next (bump (detectLink (setLink (linkErr s p.val 3) p.val { linkOf s p.val with reduced := none, badLanes := [] }) p.val) (linkCnt p.val 12))
/-- ROLL changes the transmitter's key phase from the next new flit, with its counter back at 0; it is ignored while one is pending (R435). -/
def Claims.roll : Prop := ∀ (s : State) (p : PortId) (l : Link), bondOdd s p.val = false → linkOf s p.val = l →
  (l.rolling = none → exec (.roll p) s = .next (setLink s p.val { l with txPhase := !l.txPhase, rolling := some l.txNext, counters := tblPut l.counters (if l.txPhase then 0 else 1) 0 })) ∧
  (l.rolling ≠ none → exec (.roll p) s = .next s)
/-- PORT_RESET resets its port, and the whole of a bond through either of its numbers; during a warm reset it waits for "device open" (R16, R508,
R511). -/
def Claims.portReset : Prop := ∀ (s : State) (p : PortId),
  (s.sys.st ≠ .quiesce → s.sys.st ≠ .restart → bondOdd s p.val = false → exec (.portReset p) s = .next (Machine.portReset s p.val true)) ∧
  (s.sys.st ≠ .quiesce → s.sys.st ≠ .restart → bondOdd s p.val = true → exec (.portReset p) s = .next (Machine.portReset (Machine.portReset s p.val true) (p.val - 1) false)) ∧
  (s.sys.st = .quiesce ∨ s.sys.st = .restart → exec (.portReset p) s = .next { s with sys := { s.sys with deferred := s.sys.deferred ++ [(5, p.val)] } })

/-- A sample that is due adds one to the histograms of the port's classes and watched tenant queues (R404). -/
def Claims.telemetrySample : Prop := ∀ (s u : State) (p : PortId), (∀ t, tblFind s.cong.lastSample p.val = some t → t + 1000 ≤ s.now) →
  u = (List.range 8).foldl (fun s c => sampleSet s p.val c (queued s p.val c)) { s with cong := { s.cong with lastSample := tblPut s.cong.lastSample p.val s.now } } →
  exec (.telemetrySample p) s = .next ((List.range 16).foldl (fun s w => if flag s (portBase p.val + 0x680 + 8 * w) 15 then
    sampleSet s p.val (8 + w) ((queued s p.val (fld s (portBase p.val + 0x680 + 8 * w) 0 3)).filter (fun e => e.tq == some (fld s (portBase p.val + 0x680 + 8 * w) 3 12))) else s) u)
/-- PORT_TEL_SNAP copies the port's histograms and sets SNAP_DONE (R405). -/
def Claims.portTelSnap : Prop := ∀ (s : State) (p : PortId), exec (.portTelSnap p) s = .next (setBit (snapPort s p.val) (portBase p.val + 0x660) 1)
/-- An endpoint message whose key its host port may not use is counted and dropped; one to an endpoint of this switch enters the queue of its
port; its credit returns to the host (R386, R394). -/
def Claims.epmsg : Prop := ∀ (s t : State) (p q : PortId) (dst : Endpoint) (tc : Tc) (flow : BitVec 16) (key : Key) (c : Colour) (d : Line), t = creditBack s p.val tc.toNat → t.sys.st = .serving →
  isHostPort t p.val = true → tc.toNat < 4 →
  (ingressKey t p.val key = false → exec (.epmsg p dst tc flow key c d) s = .next (bump t (portRouteCnt p.val 0))) ∧
  (∀ (v : State) (k : Colour), ingressKey t p.val key = true → epWhere t dst = .here → tetherFor t (portEp t p.val) tc.toNat (switchId t) (some dst) = none →
    colourOf t p.val key tc.toNat c 80 false = (k, v) → epPort v dst = some q.val → isHostPort v q.val = true → keyMatch v q.val key = true → localFenced v q.val = false → portUp v q.val = true →
    exec (.epmsg p dst tc flow key c d) s = .next (pushEgress v { num := 0, port := q.val, tc := tc.toNat, tq := none, len := 80, colour := k, body := .msg "EpMsg" [0, dst.toNat, (portEp t p.val).toNat, flow.toNat, key.toNat, d.toNat] } key false)) ∧
  (ingressKey t p.val key = true → epWhere t dst = .nowhere → (∀ n v, colourOf t p.val key tc.toNat c 80 (tetherFor t (portEp t p.val) tc.toNat (switchId t) (some dst)).isSome = (n, v) →
    exec (.epmsg p dst tc flow key c d) s = .next (bump v (routeCnt 3))))

/-! ## CXL ports and trays (18) -/

/-- A CXL port that may train comes up at its rate and width in 256B Flit mode, a host port's keys being looked at; without 256B Flit mode it does
not come up, and says so (R440). -/
def Claims.cxlLinkTrained : Prop := ∀ (s u : State) (p : PortId) (rate : BitVec 2) (lo : Bool) (w : Fin 4), cxlTrains s p.val = true → ((cxlOf s p.val).st == .linkUp) = false → ((cxlOf s p.val).st == .memReady) = false →
  (rate ≠ 3 → fld s (portBase p.val + 0x900) 18 2 ≤ rate.toNat → w.val ≤ fld s (portBase p.val) 3 2 →
    u = setCxl s p.val { cxlOf s p.val with st := .linkUp, rate := rate.toNat, width := 2 ^ w.val, lopt := lo && flag s (portBase p.val + 0x900) 17 } →
    ((isHostPort u p.val && !cxlKeyOk u p.val) = false → exec (.cxlLinkTrained p true rate lo w) s = .next u) ∧
    ((isHostPort u p.val && !cxlKeyOk u p.val) = true → exec (.cxlLinkTrained p true rate lo w) s = .next (cxlErr u p.val 2))) ∧
  exec (.cxlLinkTrained p false rate lo w) s = .next (cxlErr (setCxl s p.val { cxlOf s p.val with st := .down }) p.val 0)
/-- The loss of a host port's link that was up is a port reset; that of a tray's fences the tray (R450, R454). -/
def Claims.cxlLinkDown : Prop := ∀ (s : State) (p : PortId), (cxlOf s p.val).st ≠ .down → (cxlOf s p.val).st ≠ .training → cxlPort s p.val = true →
  (isHostPort s p.val = true → exec (.cxlLinkDown p) s = .next (cxlReset s p.val)) ∧
  (isHostPort s p.val = false → localFenced s p.val = false → exec (.cxlLinkDown p) s = .next (fenceFor (setCxl s p.val {}) (portDom (switchId s) p.val) 8 0 (fun _ => 0)))
/-- A function level reset of a host port that is up is a port reset (R450). -/
def Claims.functionLevelReset : Prop := ∀ (s : State) (p : PortId), isHostPort s p.val = true → isCxl s p.val = true → portUp s p.val = true →
  exec (.functionLevelReset p) s = .next (cxlReset s p.val)
/-- The host sets BI Enable, Memory Enable and its decoders (R441, R446). -/
def Claims.biEnable : Prop := ∀ (s : State) (p : PortId) (c : CxlCap), isHostPort s p.val = true → isCxl s p.val = true → portUp s p.val = true →
  exec (.biEnable p c) s = .next (setCxl s p.val { cxlOf s p.val with biEn := c.bi, memEn := c.memEn, decoders := c.decoders.take 4, st := if c.memEn then .memReady else .linkUp })
/-- IDE of a CXL host port whose link is up is on (R449). -/
def Claims.ideEstablished : Prop := ∀ (s : State) (p : PortId), isHostPort s p.val = true → isCxl s p.val = true → portUp s p.val = true →
  exec (.ideEstablished p) s = .next (setCxl s p.val { cxlOf s p.val with ideOn := true })
/-- A failure of IDE ends it and is reported (R449). -/
def Claims.ideFail : Prop := ∀ (s : State) (p : PortId), (cxlOf s p.val).ideOn = true →
  exec (.ideFail p) s = .next (cxlErr (setCxl s p.val { cxlOf s p.val with ideOn := false }) p.val 1)
/-- A Type 3 device whose media is ready becomes a tray, of no more than 2 TiB, which a larger device's error says (R452). -/
def Claims.trayBringup : Prop := ∀ (s u : State) (p : PortId) (t : TrayInfo), isTray s p.val = true → isCxl s p.val = true → (cxlOf s p.val).st = .linkUp → (trays s).length < 32 →
  t.type3 = true → t.mediaReady = true → t.capacity ≤ 2 ^ 41 →
  u = setCxl s p.val { cxlOf s p.val with st := .memReady, memEn := true, trayCap := t.capacity / 65536, lastPoll := s.now } →
  exec (.trayBringup p t) s = .next { u with tier := { u.tier with t1cap := tblPut u.tier.t1cap p.val (t.capacity / 256) } }
/-- A tray's response that a read waits for reaches the home (R453, R454). -/
def Claims.trayResponse : Prop := ∀ (s u : State) (p : PortId) (off : PoolOff) (r : TrayResp), isTray s p.val = true → (cxlOf s p.val).st = .memReady → onTray s p.val (off.toNat / 64) = true →
  u = setCxl s p.val { cxlOf s p.val with devLoad := r.devLoad.toNat } → readAwaited u (off.toNat / 64) = true →
  exec (.trayResponse p off r) s = .next (trayRead u p.val (off.toNat / 64) r.poison)
/-- A request that a tray does not answer is sent once more; at the second timeout the tray is fenced (R454). -/
def Claims.trayResponseTimeout : Prop := ∀ (s : State) (p : PortId) (off : PoolOff), isTray s p.val = true → (cxlOf s p.val).st = .memReady → onTray s p.val (off.toNat / 64) = true →
  readAwaited s (off.toNat / 64) = true → (tblGet s.link.traySent (off.toNat / 64) (0, false)).1 + 1000 * fld s (portBase p.val + 0x900) 32 8 ≤ s.now →
  ((tblGet s.link.traySent (off.toNat / 64) (0, false)).2 = false → exec (.trayResponseTimeout p off) s = .next (bump { s with link := { s.link with traySent := tblPut s.link.traySent (off.toNat / 64) (s.now, true) } } (cxlCnt p.val 9))) ∧
  ((tblGet s.link.traySent (off.toNat / 64) (0, false)).2 = true → localFenced s p.val = false → ∀ u, u = cxlErr { s with link := { s.link with traySent := tblErase s.link.traySent (off.toNat / 64) } } p.val 4 →
    exec (.trayResponseTimeout p off) s = .next (fenceFor u (portDom (switchId u) p.val) 8 (trayDpa u (off.toNat / 64)) (fun _ => 0)))
/-- Every record of a tray's event log is logged, every 100 ms (R454). -/
def Claims.trayEventLogPoll : Prop := ∀ (s : State) (p : PortId) (es : List Word), isTray s p.val = true → (cxlOf s p.val).st = .memReady → (cxlOf s p.val).lastPoll + 100000000 ≤ s.now →
  exec (.trayEventLogPoll p es) s = .next (es.foldl (fun s e => logEvent s 0xB 1 p.val 7 0 0 0 e.toNat 0) (setCxl s p.val { cxlOf s p.val with lastPoll := s.now }))
/-- A lasting fault of a port island fences its port (R482); one of the management island stops the device (R383, R482). -/
def Claims.portIslandFault : Prop := ∀ (s : State) (p : PortId), bondOdd s p.val = false → localFenced s p.val = false →
  exec (.portIslandFault p) s = .next (fenceFor s (portDom (switchId s) p.val) 3 0 (fun _ => 0))
/-- A lasting fault of the management island stops a device that runs (R482). -/
def Claims.mgmtIslandFault : Prop := ∀ (s : State), s.sys.st ≠ .stopped → exec .mgmtIslandFault s = .next (deviceStop s 0xD 0 3)

/-! ## The Settle complex (19) -/

/-- GET_INFO answers five words: boot state, image version, SVN, active cores, free spares (R469). -/
def Claims.getInfo : Prop := ∀ (s : State) (i : FwImage), s.settle.mbox = some 1 → i = s.settle.image.getD { version := 0, svn := 0 } →
  exec .getInfo s = .next (answer s .ok [BitVec.ofNat 64 (bootCode s.settle.boot), BitVec.ofNat 64 i.version, BitVec.ofNat 64 i.svn, BitVec.ofNat 64 (activeCores s).length, BitVec.ofNat 64 (settleFree s)])
/-- IMAGE_LOAD runs a valid image at start and stages it later; a poisoned one is POISONED (R461, R462, R464). -/
def Claims.imageLoad : Prop := ∀ (s : State) (b : List Byte), s.settle.mbox = some 2 → s.sys.st ≠ .test → imageFails s b 1 (mboxBits s 16 4) = none →
  (s.settle.boot ≠ .running → exec (.imageLoad (.data b)) s = .next (answer (startNimpa s { version := imgNat b 8 4, svn := imgByte b 12 }) .ok [])) ∧
  (s.settle.boot = .running → s.settle.activate = false → exec (.imageLoad (.data b)) s = .next (answer { s with settle := { s.settle with staged := some { version := imgNat b 8 4, svn := imgByte b 12 } } } .ok []))
/-- IMAGE_ACTIVATE has the staged image run from the next warm reset (R464). -/
def Claims.imageActivate : Prop := ∀ (s : State), s.settle.mbox = some 3 →
  (s.settle.staged ≠ none → exec .imageActivate s = .next (answer { s with settle := { s.settle with activate := true } } .ok [])) ∧
  (s.settle.staged = none → exec .imageActivate s = .next (answer s .busy []))
/-- SVN_COMMIT raises the fused SVN, to no more than the running image's (R461). -/
def Claims.svnCommit : Prop := ∀ (s : State), s.settle.mbox = some 4 →
  (fusedSvn s < mboxBits s 8 1 → mboxBits s 8 1 ≤ (s.settle.image.map (·.svn)).getD 0 → exec .svnCommit s = .next (answer { s with settle := { s.settle with svn := some (mboxBits s 8 1) } } .ok [])) ∧
  (mboxBits s 8 1 ≤ fusedSvn s → exec .svnCommit s = .next (answer s .badDescriptor []))
/-- PM_KEY_SET stores the hash of a module key slot (R461). -/
def Claims.pmKeySet : Prop := ∀ (s : State), s.settle.mbox = some 0x10 → mboxBits s 8 1 ≤ 7 →
  exec .pmKeySet s = .next (answer { s with settle := { s.settle with keys := tblPut s.settle.keys (mboxBits s 8 1) ((List.range 6).map (fun k => (mboxWord s (2 + k)).toNat * 2 ^ (64 * k))).sum } } .ok [])
/-- PM_LOAD of a new module's valid image gives it the lowest free slot (R465, R468). -/
def Claims.pmLoad : Prop := ∀ (s : State) (b : List Byte) (i : Nat), s.settle.mbox = some 0x11 → pmRefusal s (BitVec.ofNat 16 (mboxBits s 8 2)) (mboxBits s 10 1) = none →
  imageFails s b 2 (mboxBits s 24 4) = none → moduleOf s (BitVec.ofNat 16 (mboxBits s 8 2)) = none → (List.range 64).find? (fun i => !s.settle.modules.any (fun m => m.slot == i)) = some i →
  exec (.pmLoad (.data b)) s = .next (answer (putModule s { key := BitVec.ofNat 16 (mboxBits s 8 2), slot := i, mem := mboxBits s 10 1 }) .ok [])
/-- PM_UNLOAD removes a module with nothing in flight, and waits for one that has (R469). -/
def Claims.pmUnload : Prop := ∀ (s : State) (m : PModule), s.settle.mbox = some 0x12 → moduleOf s (BitVec.ofNat 16 (mboxBits s 8 2)) = some m →
  (moduleLive s m.slot = 0 → exec .pmUnload s = .next (answer { s with settle := { s.settle with modules := s.settle.modules.filter (fun x => x.slot != m.slot), onCore := s.settle.onCore.filter (fun e => e.2 != m.slot) } } .ok [])) ∧
  (moduleLive s m.slot ≠ 0 → exec .pmUnload s = .next (putModule s { m with running := false, unloading := true }))
/-- PM_STATUS answers the module's state, fault cause and dropped events (R469). -/
def Claims.pmStatus : Prop := ∀ (s : State) (m : PModule), s.settle.mbox = some 0x13 → moduleOf s (BitVec.ofNat 16 (mboxBits s 8 2)) = some m →
  exec .pmStatus s = .next (answer s .ok [BitVec.ofNat 64 (if m.unloading then 2 else if m.running then 1 else 0), BitVec.ofNat 64 m.fault, BitVec.ofNat 64 m.dropped])
/-- A policy-duty core that runs nothing takes the next module in rotation (R465). -/
def Claims.pmQuantumTick : Prop := ∀ (s : State) (c : Fin 36) (n i : Nat), coreRole s c.val = some (0, n) → dutyOf s n = 2 → s.settle.boot = .running →
  tblFind s.settle.onCore c.val = none → nextModule s c.val = some i →
  exec (.pmQuantumTick c) s = .next { s with settle := { s.settle with onCore := tblPut s.settle.onCore c.val i } }
/-- A descriptor from a module's queue is taken under the module's key (R466). -/
def Claims.pmQueueSubmit : Prop := ∀ (s : State) (k : Key) (d : Line) (m : PModule), moduleOf s k = some m → m.running = true → s.sys.st = .serving → s.settle.boot = .running →
  liveTotal s < 262144 → moduleLive s m.slot < 256 →
  exec (.pmQueueSubmit k d) s = .next (descriptorChecks (bump (putModule s { m with seq := m.seq + 1 }) (settleCnt 4)) m.key false ((2 ^ 15 + m.slot) * 2 ^ 64 + 0xFFF * 2 ^ 52 + m.seq)
    { ring := 4096 + m.slot, gen := 0, seq := m.seq, remote := some (2 ^ 15 - 1 + m.slot), viaModule := some m.slot } d)
/-- The first fault of an active core is redone; the second replaces the core; a lasting fault of its L2 retires its cluster (R470, R471). -/
def Claims.settleCoreFault : Prop := ∀ (s : State) (c : Fin 36) (n : Nat), coreRole s c.val = some (0, n) →
  exec (.settleCoreFault c true) s = .next (retireCluster s (c.val / 4)) ∧
  (s.settle.redo.contains c.val = false → exec (.settleCoreFault c false) s = .next (bump (setSettle s { s.settle with redo := s.settle.redo ++ [c.val] }) (settleCnt 1))) ∧
  (s.settle.redo.contains c.val = true → exec (.settleCoreFault c false) s = .next (replaceCore s c.val n))
/-- The RAS-duty cores report; steps redone since have succeeded and are logged (R470, R472). -/
def Claims.watchdogReport : Prop := ∀ (s u : State), s.settle.boot = .running → u = s.settle.redo.foldl (fun s p => logEvent s 8 1 p 3 0 0 0 0 0) s →
  exec .watchdogReport s = .next { u with settle := { u.settle with redo := [], lastReport := u.now } }
/-- A watchdog that has expired resets the Settle complex (R472). -/
def Claims.watchdogExpire : Prop := ∀ (s : State), s.settle.boot = .running → s.sys.islands.contains ⟨4, 0⟩ = false → s.settle.lastReport + 1000000 * fld s settleBase 8 10 ≤ s.now →
  exec .watchdogExpire s = .next (resetSettle (logEvent (bump (settleErr s 5) (settleCnt 3)) 8 1 0 0xF 0 0 0 0 0))

/-! ## Fencing and spares (20) -/

/-- FENCE_DOMAIN fences its domain in one step with a record and counts what it lost; its own completion waits for the effects (R493). -/
def Claims.fenceDomain : Prop := ∀ (s u v : State) (h : Handle) (r : HandleRec) (n : FenceCount), startable s h.toNat 0x53 = some r → domOk s (d32 r.desc 8) = true →
  (domFenced s (d32 r.desc 8) = false → fenceStep (markStarted s h.toNat) (d32 r.desc 8) 0xB true = (u, n) →
    v = logEvent u 0xF 5 (d32 r.desc 8 % 65536) 0xB r.key h.toNat 0 u.ras.fenceGen n.pages →
    exec (.fenceDomain h) s = .next (commitWith { v with ras := { v.ras with fenceWait := v.ras.fenceWait ++ [(h.toNat, 2 ^ 100 + u.ras.fenceGen, u.ras.fenceGen, Nat.min n.pages (2 ^ 32 - 1) + n.trains % 65536 * 2 ^ 32 + n.tethers % 65536 * 2 ^ 48)] } } h.toNat false .ok 0 0)) ∧
  (domFenced s (d32 r.desc 8) = true → exec (.fenceDomain h) s = .next (commit s h.toNat .busy 1 0))
/-- UNFENCE_DOMAIN removes a domain's own entry, with a record, unless an input still holds it (R494). -/
def Claims.unfenceDomain : Prop := ∀ (s u : State) (h : Handle) (r : HandleRec), startable s h.toNat 0x54 = some r → domOk s (d32 r.desc 8) = true → s.ras.fences.contains (d32 r.desc 8) = true →
  (inputHolds s (d32 r.desc 8) = false → u = unfenceStep (markStarted s h.toNat) (d32 r.desc 8) true → ∀ v, v = logEvent u 0xF 6 (d32 r.desc 8 % 65536) 0xB r.key h.toNat 0 u.ras.fenceGen 0 →
    exec (.unfenceDomain h) s = .next (commit v h.toNat .ok (BitVec.ofNat 64 v.ras.fenceGen) 0)) ∧
  (inputHolds s (d32 r.desc 8) = true → exec (.unfenceDomain h) s = .next (commit s h.toNat .busy 2 0))
/-- A notice not seen before is forwarded to the switches known here, and then fences its domain (R490). -/
def Claims.fenceNotice : Prop := ∀ (s u : State) (n : NoticeMsg) (m : Notice), m = ⟨n.domain.toNat, n.unfence, n.origin.toNat, n.gen.toNat⟩ →
  (s.ras.seen.contains m = true → exec (.fenceNotice n) s = .next (bump s (rasCnt 8))) ∧
  (s.ras.seen.contains m = false → n.unfence = false → domKind m.domain ≠ 3 → u = forwardNotice (bump s (rasCnt 8)) m →
    domOk u m.domain = true → domFenced u m.domain = false → exec (.fenceNotice n) s = .next (fenceFor u m.domain 0xC m.origin (fun _ => m.gen)))
/-- An alert that has passed its filter takes effect while the device serves (R495). -/
def Claims.domAlert : Prop := ∀ (s : State) (i : Fin 16), s.ras.inputs.contains i.val = false →
  (s.sys.st = .serving → exec (.domAlert i) s = .next (alertFence { s with ras := { s.ras with inputs := s.ras.inputs ++ [i.val] } } i.val)) ∧
  (s.sys.st = .restart → exec (.domAlert i) s = .next { s with ras := { s.ras with inputs := s.ras.inputs ++ [i.val] }, sys := { s.sys with deferred := s.sys.deferred ++ [(6, i.val)] } })
/-- Releasing an input unfences nothing (R495). -/
def Claims.domAlertRelease : Prop := ∀ (s : State) (i : Fin 16), exec (.domAlertRelease i) s = .next { s with ras := { s.ras with inputs := s.ras.inputs.filter (· != i.val) } }
/-- A trunk that has been down for DOWN_FENCE_MS is fenced (R344). -/
def Claims.portDownFenceTimeout : Prop := ∀ (s : State) (p : PortId) (t : Nat), isTrunk s p.val = true → localFenced s p.val = false → portUp s p.val = false → (linkOf s p.val).downSince = some t →
  t + 1000000 * fld s (portBase p.val + 0x100) 32 16 ≤ s.now → exec (.portDownFenceTimeout p) s = .next (fenceFor s (portDom (switchId s) p.val) 9 p.val (fun _ => 0))
/-- The first failure of an engine's control is done again; the second moves it to a spare, with a record (R481). -/
def Claims.winchEngineFault : Prop := ∀ (s : State) (e : Fin 16), s.tier.deadEngines.contains e.val = false →
  (s.tier.engRedo.contains e.val = false → exec (.winchEngineFault e) s = .next { s with tier := { s.tier with engRedo := s.tier.engRedo ++ [e.val] } }) ∧
  (s.tier.engRedo.contains e.val = true → s.tier.sparedEngines.length < 4 →
    exec (.winchEngineFault e) s = .next (errorRecord { s with tier := { s.tier with engRedo := s.tier.engRedo.filter (· != e.val), sparedEngines := s.tier.sparedEngines ++ [e.val] } } { kind := 9, cls := 2, idx := e.val, cause := 3, spareKind := 9, spareIdx := s.tier.sparedEngines.length }))
/-- A first fault of a compression engine is done again, a second one takes the engine out for good (R481). -/
def Claims.compressionEngineFault : Prop := ∀ (s : State) (i : StackId), s.tier.deadCompr.contains i.val = false →
  (s.tier.comprRedo.contains i.val = false → exec (.compressionEngineFault i) s = .next { s with tier := { s.tier with comprRedo := s.tier.comprRedo ++ [i.val] } }) ∧
  (s.tier.comprRedo.contains i.val = true → exec (.compressionEngineFault i) s = .next (logEvent { s with tier := { s.tier with deadCompr := i.val :: s.tier.deadCompr, comprRedo := s.tier.comprRedo.filter (· != i.val) } } 10 3 i.val 3 0 0 0 0 0))
/-- The spares free on the device, each in its field of result0 (R497). -/
def Claims.Spares (s : State) : Nat :=
  64 - ((List.range 128).filter (fun p => (linkOf s p).spareUsed)).length + ((List.range 12).map (linesFree s)).sum * 2 ^ 7 +
  ((List.range 12).map (unitsFree s)).sum * 2 ^ 18 + ((List.range 17).map (fun k => 16 - (tblGet s.core.rows k {}).used)).sum * 2 ^ 26 +
  (if s.core.spare.isSome then 1 else 0) * 2 ^ 35 + (s.trs.phys.filter (fun u => u.2.1 == 1)).length * 2 ^ 36 + settleFree s * 2 ^ 40 +
  (4 - s.tier.sparedEngines.length) * 2 ^ 43
/-- SPARE_QUERY of the device answers its free spares, lost pages and fences (R497); that of a stack answers its spare units, lines and rows, its state and its closed banks (R497). -/
def Claims.spareQuery : Prop := ∀ (s : State) (h : Handle) (r : HandleRec) (m : Nat), startable s h.toNat 0x60 = some r →
  (d8 r.desc 8 = 1 → d8 r.desc 9 ≤ 11 → ((stackOf s (d8 r.desc 9)).mode = .online ∧ m = 0 ∨ (stackOf s (d8 r.desc 9)).mode = .evacuating ∧ m = 1 ∨ (stackOf s (d8 r.desc 9)).mode = .offline ∧ m = 2) →
    exec (.spareQuery h) s = .next (commit s h.toNat .ok (BitVec.ofNat 64 (unitsFree s (d8 r.desc 9) + linesFree s (d8 r.desc 9) * 32 + fewestRows s (d8 r.desc 9) * 8192 + m * 2 ^ 18)) (BitVec.ofNat 64 (stackOf s (d8 r.desc 9)).closed.length))) ∧
  (d8 r.desc 8 = 0 → exec (.spareQuery h) s = .next (commit s h.toNat .ok (BitVec.ofNat 64 (Claims.Spares s))
    (BitVec.ofNat 64 (Nat.min (regGet s (rasCnt 6)).toNat (2 ^ 32 - 1) + s.ras.fences.length % 65536 * 2 ^ 32)))) ∧
  (1 < d8 r.desc 8 → exec (.spareQuery h) s = .next (badDesc s h.toNat 8))

/-! ## Resets and bring-up (21) -/

/-- PORST_N low loses everything but fuses and the repairs that start-up applies again; its release starts the bring-up with every rail and
reference good and the AVS rails at their fused targets (R507, R516, R523, R540). -/
def Claims.porstN : Prop := ∀ (s : State),
  (s.pwr.tripped = false → Runs (.porstN false) s (fun t => t.regs = State.reset.regs ∧ t.pool = State.reset.pool ∧ t.rings = State.reset.rings ∧ t.coh = State.reset.coh ∧ t.route = State.reset.route ∧ t.link = State.reset.link ∧
    t.sys = State.reset.sys ∧ t.now = State.reset.now ∧ t.settle = { svn := s.settle.svn } ∧ t.pending = s.pending)) ∧
  (s.sys.porst = true → s.pwr.tripped = false → exec (.porstN true) s = .next { s with sys := { s.sys with porst := false, refOk := 0xF, mgmtRefOk := true }, pwr := { s.pwr with rails := 0x1FF, porHigh := false, mv := (List.range 3).map (fun r => (r, avsLow r + (Config.avsFused r).val)) } })
/-- A cold reset is a power-on that keeps device time and its settings (R507). -/
def Claims.cold : Prop := ∀ (s : State), s.sys.porst = false → s.pwr.tripped = false →
  Runs .cold s (fun t => t.now = s.now ∧ t.regs = s.regs.filter (fun e => e.1 == 0x40100) ∧ t.sys.lastReset = .cold ∧ t.sys.st = State.reset.sys.st ∧ t.sys.refOk = s.sys.refOk ∧ t.sys.slew = s.sys.slew ∧
    t.pool = State.reset.pool ∧ t.rings = State.reset.rings ∧ t.link = State.reset.link)
/-- A warm reset begins with the quiesce: the port islands drop what they hold (R511, R512). -/
def Claims.warm : Prop := ∀ (s u : State), s.sys.st = .serving → u = (List.range 128).foldl dropIsland s →
  exec .warm s = .next { u with sys := { u.sys with st := .quiesce, lastReset := .warm, quiesceAt := u.now, quiesced := false, wasActive := (List.range 128).filter (portUp u) } }
/-- WARM_RST_N low triggers a warm reset of a device that serves, and holds the restart until it rises (R511, R513). -/
def Claims.warmRstN : Prop := ∀ (s u : State),
  exec (.warmRstN true) s = .next { s with sys := { s.sys with warmHeld := false } } ∧
  (s.sys.st = .serving → u = (List.range 128).foldl dropIsland { s with sys := { s.sys with warmHeld := true } } → exec (.warmRstN false) s =
    .next { u with sys := { u.sys with st := .quiesce, lastReset := .warm, quiesceAt := u.now, quiesced := false, wasActive := (List.range 128).filter (portUp u) } })
/-- The quiesce ends once every home request is complete; answers missing after 30 µs close as snoop timeouts (R512). -/
def Claims.quiesceEnd : Prop := ∀ (s : State), s.sys.st = .quiesce → s.sys.quiesced = false →
  (quiet s = true → exec .quiesceEnd s = .next (quiesce s)) ∧
  (quiet s = false → s.now < s.sys.quiesceAt + 30000 → exec .quiesceEnd s = .next s) ∧
  (quiet s = false → s.sys.quiesceAt + 30000 ≤ s.now → exec .quiesceEnd s = .next (dropAcks ((awaited s).foldl quiesceFence s)))
/-- The restart empties the switch core, resets every port, replays the journals and starts Nimpa (R513, R514). -/
def Claims.warmRestart : Prop := ∀ (s u : State), s.sys.st = .quiesce → s.sys.quiesced = true → s.sys.warmHeld = false →
  u = setFld (setFld (emptyCore (clearRingRegs s)) (telemetryBase + 0xF0000) 2 1 0) (telemetryBase + 0xF0000) 4 1 0 →
  exec .warmRestart s = .next (restartNimpa (replayJournals (resetPorts { u with sys := { u.sys with st := .restart, openAt := some u.now } })))
/-- The device opens once Nimpa runs and the ports that were ACTIVE are up; rings with held records get 10 s; the recalls of slots and drawers go on and
what was asked for meanwhile is done (R511, R513 to R515). -/
def Claims.deviceOpen : Prop := ∀ (s : State) (t : Nat), s.sys.st = .restart → s.sys.openAt = some t → s.settle.boot = .running → lateComers s = [] → s.pool.open_.any (fun c => c.whole && !recallDone s c.tag) = false →
  exec .deviceOpen s = .next (s.sys.deferred.foldl lateReset (recallDrawers (recallSlots (bump { s with rings := { s.rings with rings := s.rings.rings.map (fun e => (e.1, if e.2.old.isEmpty then e.2 else { e.2 with oldDue := some (s.now + 10000000000) })) }, sys := { s.sys with st := .serving, warmCount := (s.sys.warmCount + 1) % 2 ^ 32, openAt := none, wasActive := [], deferred := [], quiesced := false } } (resetCnt 0)))))
/-- A tenant reset acts at once, or after a warm reset in progress (R510, R511). -/
def Claims.tenant : Prop := ∀ (s : State) (k : Key),
  (s.sys.st = .serving → exec (.tenant k) s = .next (tenantReset s k)) ∧
  (s.sys.st = .restart → exec (.tenant k) s = .next { s with sys := { s.sys with deferred := s.sys.deferred ++ [(7, k.toNat)] } })
/-- An island reset acts at once, or after a warm reset in progress (R509, R511). -/
def Claims.island : Prop := ∀ (s : State) (k : BitVec 4) (i : BitVec 8),
  (s.sys.st = .serving → exec (.island k i) s = .next (islandReset s k.toNat i.toNat)) ∧
  (s.sys.st = .restart → exec (.island k i) s = .next { s with sys := { s.sys with deferred := s.sys.deferred ++ [(8, k.toNat * 256 + i.toNat)] } })
/-- The oldest island reset completes; that of the Settle complex restarts Nimpa from its image (R472, R509). -/
def Claims.islandResetDone : Prop := ∀ (s : State) (j : IslandJob) (rest : List IslandJob), s.sys.islands = j :: rest →
  (j.kind ≠ 4 → exec .islandResetDone s = .next { s with sys := { s.sys with islands := rest } }) ∧
  (∀ i, j.kind = 4 → s.settle.boot = .checking → s.settle.image = some i → fusedSvn s ≤ i.svn → exec .islandResetDone s = .next (startNimpa { s with sys := { s.sys with islands := rest } } i))
/-- The start-up test assigns units and spares, and the device goes on to its firmware; with too few slices it stops (R517). -/
def Claims.startupTestDone : Prop := ∀ (s u v w : State) (t : TestResult), s.sys.st = .test → s.sys.porst = false →
  (testSlices s t = none → exec (.startupTestDone t) s = .next (startupFails s 2)) ∧
  (testSlices s t = some u → testStacks u t = none → exec (.startupTestDone t) s = .next (startupFails u 4)) ∧
  (testSlices s t = some u → testStacks u t = some v → w = testWinch { v with trs := { v.trs with phys := testTrestle t }, settle := { v.settle with cores := testCores t } } t →
    8 ≤ (w.trs.phys.filter (fun e => e.2.1 == 0)).length → 12 ≤ (activeCores w).length → w.tier.deadEngines.length ≤ 8 →
    exec (.startupTestDone t) s = .next { w with sys := { w.sys with st := .firmware } })
/-- PERST_N low halts the rings of the management endpoint; its release leaves MSI-X at its reset values (R535). -/
def Claims.perstN : Prop := ∀ (s : State),
  exec (.perstN false) s = .next (haltBound { s with pwr := { s.pwr with perst := true } } none 3) ∧
  (s.pwr.perst = true → exec (.perstN true) s = .next { s with pwr := { s.pwr with perst := false }, regs := s.regs.filter (fun e => decide (e.1 < msixBase)), mgmt := { s.mgmt with latch := [] } }) ∧
  (s.pwr.perst = false → exec (.perstN true) s = .next s)

/-! ## Clocks and time (21) -/

/-- A quadrant that loses its reference takes its ports down; the core reference moves to the next quadrant that has one (R501). -/
def Claims.refclkLost : Prop := ∀ (s u : State) (q : Fin 4), s.sys.refOk.getLsbD q.val = true →
  u = (quadPorts { s with sys := { s.sys with refOk := s.sys.refOk &&& ~~~((1 : BitVec 4) <<< q.val) } } q.val).foldl portLosesRef { s with sys := { s.sys with refOk := s.sys.refOk &&& ~~~((1 : BitVec 4) <<< q.val) } } →
  (s.sys.refOk &&& ~~~((1 : BitVec 4) <<< q.val) = 0 → exec (.refclkLost (.quadrant q)) s = .next (raiseAlert u 2)) ∧
  (∀ n, s.sys.refOk &&& ~~~((1 : BitVec 4) <<< q.val) ≠ 0 → u.sys.coreRef = q.val → nextRef (s.sys.refOk &&& ~~~((1 : BitVec 4) <<< q.val)) q.val = some n →
    exec (.refclkLost (.quadrant q)) s = .next (bump { u with sys := { u.sys with coreRef := n } } (resetCnt 3)))
/-- A reference that returns is used again, and the ports of its quadrant start (R501). -/
def Claims.refclkRestored : Prop := ∀ (s u : State) (q : Fin 4), s.sys.refOk.getLsbD q.val = false → s.sys.refOk ≠ 0 →
  u = { s with sys := { s.sys with refOk := s.sys.refOk ||| (1 : BitVec 4) <<< q.val } } →
  exec (.refclkRestored (.quadrant q)) s = .next ((quadPorts u q.val).foldl startPort u)
/-- Time passes at its own rate while nothing is to be slewed; PPS_OUT falls 1 ms after it rose (R503, R506). -/
def Claims.timeDistribute : Prop := ∀ (s : State) (e : BitVec 32), s.sys.slew = 0 →
  (s.sys.ppsOutUntil = 0 → exec (.timeDistribute e) s = .next { s with now := s.now + e.toNat, sys := { s.sys with slewAcc := 0 } }) ∧
  (s.sys.ppsOutUntil ≠ 0 → s.sys.ppsOutUntil ≤ s.now + e.toNat → exec (.timeDistribute e) s = .next (emit { s with now := s.now + e.toNat, sys := { s.sys with slewAcc := 0, ppsOutUntil := 0 } } (.pin "PPS_OUT" false)))
/-- An edge of PPS_IN steers device time under SRC 2 and 3, and is only noted otherwise (R504, R505). -/
def Claims.ppsInEdge : Prop := ∀ (s : State),
  (timeSrc s < 2 → exec .ppsInEdge s = .next { s with sys := { s.sys with lastPps := some s.now } }) ∧
  (2 ≤ timeSrc s → exec .ppsInEdge s = .next (steer { s with sys := { s.sys with lastPps := some s.now, pendingSecs := none, edgeSecs := some (edgeSecond s), ptpSecs := s.sys.ptpSecs.map (· + 1) } }
    (Int.ofNat s.now - Int.ofNat (edgeSecond s * 1000000000))))
/-- A message of the PTP domain steers device time under SRC 1; whether a delay request follows is a free value (R504, R553). -/
def Claims.ptpMessage : Prop := ∀ (s : State) (d : BitVec 8) (udp tagged : Bool) (secs : Word) (off : Int), ethOn s = true →
  (ethTagOk s tagged = false → exec (.ptpMessage d udp tagged secs off) s = .next (bump s (ethCnt 4))) ∧
  (∀ u, ethTagOk s tagged = true → (udp && ethIp s == 0) = false → u = bump (bump s (ethCnt 0)) (ethCnt 2) → d.toNat ≠ fld u 0x40100 8 8 →
    exec (.ptpMessage d udp tagged secs off) s = .next u) ∧
  (∀ u, ethTagOk s tagged = true → (udp && ethIp s == 0) = false → u = bump (bump s (ethCnt 0)) (ethCnt 2) → d.toNat = fld u 0x40100 8 8 →
    timeSrc { u with sys := { u.sys with lastPtp := some u.now } } = 0 → exec (.ptpMessage d udp tagged secs off) s = .next { u with sys := { u.sys with lastPtp := some u.now } })
/-- GLOBAL_TIME_SET sets device time under SRC 0, never backwards, and names the second of the next edge under SRC 2 (R504, R505). -/
def Claims.globalTimeSet : Prop := ∀ (s : State) (secs : Word),
  (timeSrc s = 0 → s.now ≤ secs.toNat * 1000000000 → exec (.globalTimeSet secs) s = .next { (if stepNs s ≤ secs.toNat * 1000000000 - s.now then bump s (resetCnt 2) else s) with now := secs.toNat * 1000000000 }) ∧
  (timeSrc s = 2 → s.now ≤ secs.toNat * 1000000000 → exec (.globalTimeSet secs) s = .next { s with sys := { s.sys with pendingSecs := some secs.toNat } }) ∧
  (timeSrc s = 0 → secs.toNat * 1000000000 < s.now → exec (.globalTimeSet secs) s = .next (setBit s 0x40118 3))
/-- PPS_OUT rises at a whole second and stays high for 1 ms (R506). -/
def Claims.ppsOutSecond : Prop := ∀ (s : State), flag s 0x40100 2 = true → s.sys.lastPpsOut = none →
  exec .ppsOutSecond s = .next (emit { s with sys := { s.sys with lastPpsOut := some (s.now / 1000000000), ppsOutUntil := s.now + 1000000 } } (.pin "PPS_OUT" true))

/-! ## Power, temperature and management (22, 23) -/

/-- A rail that leaves its band is counted and alerted; back within 20 µs it is good; longer stops the device (R528). -/
def Claims.railExcursion : Prop := ∀ (s : State) (r : Fin 9), s.sys.porst = false → s.pwr.rails.getLsbD r.val = true →
  exec (.railExcursion r) s = .next (raiseAlert (bump { s with pwr := { s.pwr with rails := s.pwr.rails &&& ~~~((1 : BitVec 9) <<< r.val) } } (pwrCnt 0)) 1)
/-- A rail that comes back within its band is good again (R528). -/
def Claims.railReturn : Prop := ∀ (s : State) (r : Fin 9), exec (.railReturn r) s = .next { s with pwr := { s.pwr with rails := s.pwr.rails ||| (1 : BitVec 9) <<< r.val } }
/-- A rail out of its band for 20 µs stops a device that runs (R528). -/
def Claims.railExcursionLimit : Prop := ∀ (s : State) (r : Fin 9), s.pwr.rails.getLsbD r.val = false → s.sys.porst = false → s.sys.st ≠ .stopped →
  exec (.railExcursionLimit r) s = .next (deviceStop s 0xD 0 3)
/-- The loss of VDD_AON resets the device as a power-on does (R528). -/
def Claims.vddAonLoss : Prop := ∀ (s : State), s.pwr.tripped = false → Runs .vddAonLoss s (fun t => t.regs = State.reset.regs ∧ t.pool = State.reset.pool ∧ t.sys = State.reset.sys ∧ t.now = State.reset.now)
/-- The first reading of a switch die sensor at SW_ALERT_C is a thermal event; one below it is none (R531). -/
def Claims.swThermalAlert : Prop := ∀ (s : State) (i : Fin 64) (t : BitVec 8),
  (fld s (mgmtBase + 0x100) 0 8 ≤ t.toNat → tblHas s.pwr.hot i.val = false → exec (.swThermalAlert i t) s = .next (thermalEvent { s with pwr := { s.pwr with hot := tblPut s.pwr.hot i.val t.toNat } })) ∧
  (t.toNat < fld s (mgmtBase + 0x100) 0 8 → exec (.swThermalAlert i t) s = .next s)
/-- Once SW_ALERT clears no sensor counts as hot, and a trip that waited for that ends (R531, R532). -/
def Claims.swAlertClear : Prop := ∀ (s u : State), u = { s with pwr := { s.pwr with hot := [] } } →
  (s.pwr.tripped = false → exec .swAlertClear s = .next u) ∧
  (s.pwr.tripped = true → s.sys.porst = true → stillHot u = false → s.pwr.porHigh = false →
    exec .swAlertClear s = .next (emit { u with pwr := { u.pwr with tripped := false } } (.pin "THERMTRIP_N" true)))
/-- THERMTRIP stops every island but the trip latch (R532). -/
def Claims.thermtrip : Prop := ∀ (s : State), s.pwr.tripped = false →
  Runs .thermtrip s (fun t => t.sys.st = .stopped ∧ t.pwr.tripped = true ∧ t.pool = State.reset.pool ∧ t.regs = State.reset.regs ∧ t.out = s.out ++ [.pin "THERMTRIP_N" false])
/-- Every 1 ms the energy of the AVS rails is added to what was counted; a reading that is missing is counted (R523). -/
def Claims.avsPoll : Prop := ∀ (s u : State) (ma : List Nat) (n : Nat), (∀ t, s.pwr.lastAvs = some t → t + 1000000 ≤ s.now) →
  n = s.pwr.energy + (railMv s 0 * ma.getD 0 0 + (railMv s 1 * ma.getD 1 0 + railMv s 2 * ma.getD 2 0)) → u = bumpBy s (pwrCnt 2) (3 - Nat.min 3 ma.length) →
  exec (.avsPoll ma) s = .next (bumpBy { u with pwr := { u.pwr with energy := n % 1000000, lastAvs := some u.now } } (pwrCnt 3) (n / 1000000))
/-- AVS steps a rail within its range by at most 10 mV, at most once per 100 µs; a step that the regulator does not answer is counted (R523). -/
def Claims.avsTargetStep : Prop := ∀ (s : State) (r : Fin 3) (mv : BitVec 16), flag s (mgmtBase + 0x120) 0 = true → avsLow r.val ≤ mv.toNat → mv.toNat ≤ avsLow r.val + 60 →
  mv.toNat ≤ railMv s r.val + 10 → railMv s r.val ≤ mv.toNat + 10 → (∀ t, tblFind s.pwr.stepped r.val = some t → t + 100000 ≤ s.now) →
  exec (.avsTargetStep r mv true) s = .next { s with pwr := { s.pwr with mv := tblPut s.pwr.mv r.val mv.toNat, stepped := tblPut s.pwr.stepped r.val s.now } } ∧
  exec (.avsTargetStep r mv false) s = .next (bump s (pwrCnt 2))
/-- A device snapshot copies every counter and histogram at one device time and sets its done bits (R558). -/
def Claims.deviceSnapshot : Prop := ∀ (s u v : State), u = { regSet s (telemetryBase + 0xF0008) (BitVec.ofNat 64 s.now) with mgmt := { s.mgmt with shadow := liveCounters s } } →
  v = setBit (setBit ((List.range 128).foldl snapPort u) (telemetryBase + 0xF0000) 3) (telemetryBase + 0xF0000) 4 →
  exec .deviceSnapshot s = .next (if flag v (telemetryBase + 0xF0000) 5 then msix v 2 else v)
/-- An ARP request for the device's address is answered; other frames are discarded and counted (R553). -/
def Claims.arpRequest : Prop := ∀ (s : State) (f : EthFrame), ethOn s = true →
  (f.fcsOk = false → exec (.arpRequest f) s = .next (bump s (ethCnt 5))) ∧
  (∀ a, f.fcsOk = true → ethTagOk s f.tagged = true → f.arp = some a → a.toNat = ethIp s → a ≠ 0 →
    exec (.arpRequest f) s = .next (ethSend (bump (bump s (ethCnt 0)) (ethCnt 1)) "ArpReply" [ethIp s])) ∧
  (f.fcsOk = true → f.arp = none → exec (.arpRequest f) s = .next (bump s (ethCnt 4)))
/-- The PHY's status is taken every 10 ms (R553). -/
def Claims.phyPoll : Prop := ∀ (s : State) (up sync : Bool), (∀ t, s.mgmt.lastPhyPoll = some t → t + 10000000 ≤ s.now) →
  exec (.phyPoll up sync) s = .next { s with mgmt := { s.mgmt with phyUp := up, sgmiiSync := sync, lastPhyPoll := some s.now } }

/-! ## Every command -/

/-- A step runs the command at the front of the queue on the state with the queue's rest. -/
def Obligations.StepRunsFront : Prop :=
  ∀ (c : Instr) (rest : List Instr) (s : State), step { s with pending := c :: rest } = exec c { s with pending := rest }

/-- On an empty queue the device idles: the model's choice (assumption log, entry 1). -/
def Obligations.EmptyQueueIdles : Prop := ∀ s : State, s.pending = [] → step s = .next s

/-- No command touches the queue of waiting commands. -/
def Obligations.CommandsLeaveQueue : Prop := ∀ (c : Instr) (s t : State), exec c s = .next t → t.pending = s.pending

/-- A BAR0 access at or beyond 64 MiB, which is no address of the map. -/
def Claims.BeyondBar0 (c : Instr) : Prop :=
  (∃ off n d, c = .registerWrite off n d ∧ 2 ^ 26 ≤ off.toNat) ∨ (∃ q off, c = .lowWordRead q off ∧ 2 ^ 26 ≤ off.toNat) ∨
  (∃ off d, c = .setupOpenClose off d ∧ 2 ^ 26 ≤ off.toNat)

/-- Every command answers a next state in every state, but for a BAR0 access beyond BAR0, which faults. -/
def Obligations.CommandsAnswer : Prop := ∀ (c : Instr) (s : State),
  (Claims.BeyondBar0 c → exec c s = .fault .outsideBar0) ∧ (¬ Claims.BeyondBar0 c → ∃ t, exec c s = .next t)

/-- The frame of every command: a command changes only the parts that `touches` lists for it. -/
def Obligations.CommandsTouchOnly : Prop := ∀ (c : Instr) (s t : State), exec c s = .next t → OnlyParts (touches c) s t

/-- What power-on leaves, where the spec gives it: device time 0 (R502), state TEST (R519), every register at its reset value, no tenant and no
extent, map generation 1 (R68), every ring DISABLED at generation 0 (R30, R53), no live handle, fence generation 0 and no fence (R488), an empty
log (R485), and memory in its canonical form. -/
def Obligations.ResetState : Prop :=
  State.reset.Inv ∧ State.reset.now = 0 ∧ State.reset.sys.st = .test ∧ State.reset.sys.lastReset = .powerOn ∧
  (∀ a, regGet State.reset a = regReset a) ∧ State.reset.pool.tenants = [] ∧ State.reset.pool.extents = [] ∧ State.reset.pool.gen = 1 ∧
  (∀ n, (ringOf State.reset n).st = .disabled ∧ (ringOf State.reset n).gen = 0) ∧ (∀ h, handleOf State.reset h = none) ∧
  State.reset.ras.fenceGen = 0 ∧ State.reset.ras.fences = [] ∧ State.reset.ras.log = [] ∧ State.reset.pending = []

/-- Every step keeps pool memory in its canonical form. -/
def Obligations.StepKeepsMemoryForm : Prop := ∀ s t : State, s.Inv → step s = .next t → t.Inv

/-! ## Registers, counters, doorbells, records -/

/-- The offsets of the counters of the home agent, Far mode, the stacks, the switch core, congestion, links, CXL ports and MGMT
(R115, R163, R266, R385, R408, R439, R456, R554). -/
def Claims.CounterAt (a : Nat) : Prop := ∃ p k : Nat,
  (p < 17 ∧ k < 16 ∧ a = sliceBase p + 0x8100 + 8 * k) ∨
  (p < 17 ∧ k < 16 ∧ a = sliceBase p + 0x8300 + 8 * k) ∨
  (p < 12 ∧ k < 16 ∧ a = stackBase p + 0x100 + 8 * k) ∨
  (p < 17 ∧ k < 12 ∧ a = sliceBase p + 0x100 + 8 * k) ∨
  (p < 128 ∧ k < 8 ∧ a = portBase p + 0x580 + 8 * k) ∨
  (p < 1 ∧ k < 4 ∧ a = 0x34400 + 8 * k) ∨
  (p < 128 ∧ k < 12 ∧ a = portBase p + 0x700 + 8 * k) ∨
  (p < 128 ∧ k < 16 ∧ a = portBase p + 0x800 + 8 * k) ∨
  (p < 128 ∧ k < 12 ∧ a = portBase p + 0xF00 + 8 * k) ∨
  (p < 1 ∧ k < 6 ∧ a = mgmtBase + 0x280 + 8 * k) ∨
  (p < 1 ∧ k < 2 ∧ a = mgmtBase + 0x300 + 8 * k)

/-- A counter takes 64 bits, adds 1 for an event and wraps to 0, and reads 0 after a cold reset; no BAR0 write changes it. -/
def Obligations.CountersCount : Prop := ∀ (s : State) (a : Nat), Claims.CounterAt a →
  regGet (bump s a) a = regGet s a + 1 ∧ (regGet s a = 0xFFFFFFFFFFFFFFFF → regGet (bump s a) a = 0) ∧
  (∀ w : WData, ∀ off, writeReg s a off w = s) ∧
  (s.sys.porst = false → s.pwr.tripped = false → ∃ t, exec .cold s = .next t ∧ regGet t a = 0)

/-- The fields of SQ_BASE, CQ_BASE, SHADOW_ADDR and RING_CFG, in this order. -/
def Claims.ringBits (i : Nat) : Word := if i = 0 then 0xFFFFFFFFFFFFF000 else if i = 1 then 0xFFFFFFFFFFFFF000 else if i = 2 then 0xFFFFFFFFFFFFFFC0 else 0x7FFFFFF1F1F

/-- SQ_BASE, CQ_BASE, SHADOW_ADDR and RING_CFG take a write while their ring is DISABLED, whatever SETUP_OPEN is, and ignore it in every other
state; SETUP_OPEN governs the global register of the block (R29). -/
def Obligations.RingRegistersHeld : Prop := ∀ (s : State) (off : BitVec 32) (data : Word), bar0Open s = true →
  (∀ n i : Nat, n < 4096 → i < 4 → off.toNat = ringBase n + 8 * i →
    ((ringOf s n).st = .disabled → ∃ t, exec (.registerWrite off 8 data) s = .next t ∧ regGet t off.toNat &&& Claims.ringBits i = data &&& Claims.ringBits i) ∧
    ((ringOf s n).st ≠ .disabled → exec (.registerWrite off 8 data) s = .next s)) ∧
  (∀ n bytes : Nat, n < 4096 → alignedAccess off.toNat bytes = true → ringBase n ≤ off.toNat → off.toNat < ringBase n + 32 → (ringOf s n).st ≠ .disabled →
    exec (.registerWrite off bytes data) s = .next s) ∧
  (off.toNat = ringGlobal + 8 → ∃ t, exec (.registerWrite off 8 data) s = .next t ∧
    fld t (ringGlobal + 8) 0 16 = if flag s ringGlobal 0 then bitsOf data.toNat 0 16 else fld s (ringGlobal + 8) 0 16)

/-- The cases in which R31 discards a doorbell word that came through a port, or from the management host. -/
def Claims.Discards (s : State) (via : Option PortId) (key : Key) (w : Word) : Prop :=
  (via = none ∧ ringMgmt s (w.extractLsb' 36 12).toNat = false) ∨
  (∃ p, via = some p ∧ (ringMgmt s (w.extractLsb' 36 12).toNat = true ∨ ringPort s (w.extractLsb' 36 12).toNat ≠ p.val)) ∨
  (∃ p, via = some p ∧ isCxl s p.val = false ∧ key ≠ ringKey s (w.extractLsb' 36 12).toNat) ∨
  (ringOf s (w.extractLsb' 36 12).toNat).st ≠ .active ∨ (ringOf s (w.extractLsb' 36 12).toNat).gen ≠ (w.extractLsb' 48 4).toNat ∨
  w.extractLsb' 34 2 ≠ 0 ∨ w.extractLsb' 52 12 ≠ 0

/-- A doorbell in one of these cases adds 1 to DB_DROP and has no other effect, whichever way it came (R31). What came through a port gives back
its credit, and one that came on a Bromet port takes the number of its arrival; behind an earlier request it waits first (R127). -/
def Obligations.DoorbellsDiscarded : Prop := ∀ (s : State) (via : Option PortId) (key : Key) (w : Word), Claims.Discards s via key w →
  doorbell s (via.map (·.val)) key w = dbDrop s ∧
  (via = none → exec (.doorbell via key w) s = .next (dbDrop s)) ∧
  (∀ p, via = some p → isCxl s p.val = true → exec (.doorbell via key w) s = .next (dbDrop (creditBack s p.val 4))) ∧
  (∀ p u, via = some p → isCxl s p.val = false → isHostPort s p.val = true → ingressKey s p.val key = true →
    u = { creditBack s p.val 4 with ord := { s.ord with arrivals := s.ord.arrivals + 1 } } → dblWaits u p.val s.ord.arrivals = false →
    exec (.doorbell via key w) s = .next (dbDrop u)) ∧
  (∃ r, dbDrop s = { s with regs := r }) ∧ fld (dbDrop s) 0x680010 0 32 = (fld s 0x680010 0 32 + 1) % 2 ^ 32 ∧
  ∀ a, a ≠ 0x680010 → regGet (dbDrop s) a = regGet s a

/-- The descriptor that a fetch returns meets the checks of R38 in their order, and the first failure decides; poison comes before them all. -/
def Obligations.DescriptorChecksInOrder : Prop := ∀ (s : State) (h : Handle) (r x : HandleRec) (d : Line), handleOf s h.toNat = some r → r.phase = .fetching →
  s.rings.handles.any (fun e => e.2.ring == r.ring && e.2.phase == .fetching && decide (e.2.seq < r.seq)) = false →
  x = { r with phase := .live, opcode := dOp d, flags := dFlags d, key := dKey d, tag := dTag d, desc := d } →
  exec (.descriptorArrive h .poisoned) s = .next (commit (setHandle s h.toNat { r with phase := .live }) h.toNat .poisoned 0 0) ∧
  (dKey d ≠ ringKey s r.ring → exec (.descriptorArrive h (.data d)) s = .next (commit (setHandle s h.toNat x) h.toNat .keyReject 0 0)) ∧
  (dKey d = ringKey s r.ring → opRow (dOp d) = none → exec (.descriptorArrive h (.data d)) s = .next (badDesc (setHandle s h.toNat x) h.toNat 0)) ∧
  (∀ row, dKey d = ringKey s r.ring → opRow (dOp d) = some row → row.admin = true → ringAdmin s r.ring = false →
    exec (.descriptorArrive h (.data d)) s = .next (commit (setHandle s h.toNat x) h.toNat .keyReject 0 0)) ∧
  (∀ row o, dKey d = ringKey s r.ring → opRow (dOp d) = some row → (row.admin = true → ringAdmin s r.ring = true) → reservedFault d row = some o →
    exec (.descriptorArrive h (.data d)) s = .next (badDesc (setHandle s h.toNat x) h.toNat o))

/-- A descriptor that may not start yet, or is of another opcode, is not run: the state stays (R34). A composition operation that may start while
an earlier one is open starts, so that later descriptors of its ring pass it, and has no other effect yet (R68). -/
def Obligations.DescriptorsWait : Prop := ∀ (s : State) (h : Handle),
  (startable s h.toNat 0x01 = none → exec (.nop h) s = .next s) ∧
  (startable s h.toNat 0x02 = none → exec (.abort h) s = .next s) ∧
  (startable s h.toNat 0x03 = none → exec (.queryHandle h) s = .next s) ∧
  (startable s h.toNat 0x13 = none → exec (.quotaSet h) s = .next s) ∧
  (startable s h.toNat 0x20 = none → exec (.shelfCreate h) s = .next s) ∧
  (startable s h.toNat 0x21 = none → exec (.shelfOpen h) s = .next s) ∧
  (startable s h.toNat 0x22 = none → exec (.shelfClose h) s = .next s) ∧
  (startable s h.toNat 0x23 = none → exec (.draftBegin h) s = .next s) ∧
  (startable s h.toNat 0x24 = none → exec (.draftPublish h) s = .next s) ∧
  (startable s h.toNat 0x25 = none → exec (.draftDiscard h) s = .next s) ∧
  (startable s h.toNat 0x28 = none → exec (.drawerCreate h) s = .next s) ∧
  (startable s h.toNat 0x29 = none → exec (.drawerOffer h) s = .next s) ∧
  (startable s h.toNat 0x2A = none → exec (.drawerAccept h) s = .next s) ∧
  (startable s h.toNat 0x2B = none → exec (.drawerRelease h) s = .next s) ∧
  (startable s h.toNat 0x2C = none → exec (.drawerLease h) s = .next s ∧ exec (.drawerLeaseQuery h) s = .next s) ∧
  (startable s h.toNat 0x30 = none → exec (.place h) s = .next s) ∧
  (startable s h.toNat 0x31 = none → exec (.winchWindow h) s = .next s ∧ exec (.winchWindowClose h) s = .next s) ∧
  (startable s h.toNat 0x32 = none → exec (.winchAdvance h) s = .next s) ∧
  (startable s h.toNat 0x33 = none → exec (.migrate h) s = .next s) ∧
  (startable s h.toNat 0x34 = none → exec (.flush h) s = .next s) ∧
  (startable s h.toNat 0x35 = none → exec (.stackEvacuate h) s = .next s) ∧
  (startable s h.toNat 0x38 = none → exec (.ctableLoad h) s = .next s) ∧
  (startable s h.toNat 0x39 = none → exec (.build h) s = .next s ∧ exec (.buildEncode h) s = .next s ∧ exec (.encode h) s = .next s ∧ exec (.expand h) s = .next s ∧ exec (.release h) s = .next s) ∧
  (startable s h.toNat 0x3A = none → exec (.ctableRetire h) s = .next s ∧ exec (.ctableRetireRecode h) s = .next s) ∧
  (startable s h.toNat 0x40 = none → exec (.bauLaunch h) s = .next s) ∧
  (startable s h.toNat 0x41 = none → exec (.bauPlace h) s = .next s ∧ exec (.bauPlaceRelease h) s = .next s) ∧
  (startable s h.toNat 0x48 = none → exec (.kernelLoad h) s = .next s ∧ exec (.kernelUnload h) s = .next s) ∧
  (startable s h.toNat 0x49 = none → exec (.kernelLaunch h) s = .next s ∧ exec (.trReduce h) s = .next s ∧ exec (.trGather h) s = .next s ∧ exec (.trScatter h) s = .next s ∧ exec (.trFilter h) s = .next s) ∧
  (startable s h.toNat 0x4A = none → exec (.barrier h) s = .next s ∧ exec (.bcast h) s = .next s ∧ exec (.reduce h) s = .next s ∧ exec (.allreduce h) s = .next s ∧ exec (.allgather h) s = .next s ∧ exec (.reduceScatter h) s = .next s ∧ exec (.mcast h) s = .next s) ∧
  (startable s h.toNat 0x4B = none → exec (.trainCreate h) s = .next s) ∧
  (startable s h.toNat 0x4C = none → exec (.trainEdit h) s = .next s ∧ exec (.trainDelete h) s = .next s) ∧
  (startable s h.toNat 0x50 = none → exec (.tetherOpen h) s = .next s) ∧
  (startable s h.toNat 0x51 = none → exec (.tetherClose h) s = .next s) ∧
  (startable s h.toNat 0x52 = none → exec (.pathUpdate h) s = .next s) ∧
  (startable s h.toNat 0x53 = none → exec (.fenceDomain h) s = .next s) ∧
  (startable s h.toNat 0x54 = none → exec (.unfenceDomain h) s = .next s) ∧
  (startable s h.toNat 0x58 = none → exec (.copy h) s = .next s) ∧
  (startable s h.toNat 0x59 = none → exec (.fill h) s = .next s ∧ exec (.fillLazy h) s = .next s) ∧
  (startable s h.toNat 0x60 = none → exec (.spareQuery h) s = .next s) ∧
  (compTurn s h.toNat 0x10 = none → startable s h.toNat 0x10 = none → exec (.extentCreate h) s = .next s ∧ exec (.extentGrant h) s = .next s) ∧
  (compTurn s h.toNat 0x11 = none → startable s h.toNat 0x11 = none → exec (.extentRevoke h) s = .next s) ∧
  (compTurn s h.toNat 0x12 = none → startable s h.toNat 0x12 = none → exec (.extentResize h) s = .next s) ∧
  (compTurn s h.toNat 0x14 = none → startable s h.toNat 0x14 = none → exec (.mapCommit h) s = .next s) ∧
  (∀ r, compTurn s h.toNat 0x10 = none → startable s h.toNat 0x10 = some r →
    exec (.extentCreate h) s = .next (markStarted s h.toNat) ∧ exec (.extentGrant h) s = .next (markStarted s h.toNat)) ∧
  (∀ r, compTurn s h.toNat 0x11 = none → startable s h.toNat 0x11 = some r → exec (.extentRevoke h) s = .next (markStarted s h.toNat)) ∧
  (∀ r, compTurn s h.toNat 0x12 = none → startable s h.toNat 0x12 = some r → exec (.extentResize h) s = .next (markStarted s h.toNat)) ∧
  (∀ r, compTurn s h.toNat 0x14 = none → startable s h.toNat 0x14 = some r → exec (.mapCommit h) s = .next (markStarted s h.toNat))

/-- Without RECODE, CTABLE_RETIRE by the owner of an idle slot completes BUSY while a named generation has a reference, and else drops the named
generations and completes OK (R235). -/
def Obligations.RetireWithoutRecode : Prop := ∀ (s : State) (h : Handle) (r : HandleRec) (gs : List Nat), startable s h.toNat 0x3A = some r → dFlag r.desc 2 = false →
  d8 r.desc 8 ≠ 255 → slotForeign s (d8 r.desc 8) r.key = false → slotLive s (d8 r.desc 8) = false → gs = namedGens s (d8 r.desc 8) (d8 r.desc 9) →
  ((∃ g ∈ gs, genRefs s (d8 r.desc 8) g ≠ 0) →
    exec (.ctableRetire h) s = .next (commit s h.toNat .busy 0 (word (gs.map (genRefs s (d8 r.desc 8))).sum)) ∧
    (commit s h.toNat .busy 0 (word (gs.map (genRefs s (d8 r.desc 8))).sum)).cmp = s.cmp) ∧
  ((∀ g ∈ gs, genRefs s (d8 r.desc 8) g = 0) →
    exec (.ctableRetire h) s = .next (engineDone (dropGens (markStarted s h.toNat) (d8 r.desc 8) gs) h.toNat .ok 0 (word gs.length)) ∧
    ∀ g ∈ gs, g ∉ (cslotOf (engineDone (dropGens (markStarted s h.toNat) (d8 r.desc 8) gs) h.toNat .ok 0 (word gs.length)) (d8 r.desc 8)).gens.map (·.num))

/-- The transient records of a unit in the current second. -/
def Claims.TransientsNow (s : State) (u : Nat) : Nat :=
  match tblFind s.ras.transients u with
  | some (sec, n) => if sec = s.now / 1000000000 then n else 0
  | none => 0

/-- Records of class TRANSIENT are limited to RAS_CFG.TRANSIENT_PER_S per unit per second; further ones in that second are counted and not
recorded; a record of any other class always enters the log (R486). -/
def Obligations.TransientsLimited : Prop := ∀ (s : State) (r : ErrRec),
  (r.cls = 1 → fld s rasBase 4 12 ≤ Claims.TransientsNow s (r.kind * 65536 + r.idx) → errorRecord s r = bump (bump s (rasCnt 3)) (rasCnt 1)) ∧
  (r.cls = 1 → Claims.TransientsNow s (r.kind * 65536 + r.idx) < fld s rasBase 4 12 →
    Claims.TransientsNow (errorRecord s r) (r.kind * 65536 + r.idx) = Claims.TransientsNow s (r.kind * 65536 + r.idx) + 1) ∧
  ((r.cls = 1 → Claims.TransientsNow s (r.kind * 65536 + r.idx) < fld s rasBase 4 12) →
    ∃ e : ErrRec, (errorRecord s r).ras.log = (e :: s.ras.log).take 4096 ∧ e.kind = r.kind ∧ e.cls = r.cls ∧ e.idx = r.idx ∧ e.cause = r.cause ∧ e.seq = s.ras.seq ∧
      e.time = s.now / 1000)

/-- A write of a line that reaches memory writes the 64 bytes of that line in its backing page and no other byte; where the line's page is not
backed it writes none (R58, R98). -/
def Obligations.MemoryWriteStoresOneLine : Prop := ∀ (s t : State) (off : PoolOff) (w : WbEntry), lineServed s (off.toNat / 64) = true →
  s.coh.wbBuf.find? (fun w => w.line == off.toNat / 64) = some w → exec (.memoryWriteDone off) s = .next t →
  ((∀ id, backIdOf s (off.toNat / 64 / 1024) = some id → backById s id = none) → ∀ a, memRead t.pool.cells a = memRead s.pool.cells a) ∧
  (∀ id b, backIdOf s (off.toNat / 64 / 1024) = some id → backById s id = some b → ∀ a, memRead t.pool.cells a =
    if id * 65536 + off.toNat / 64 % 1024 * 64 ≤ a ∧ a < id * 65536 + off.toNat / 64 % 1024 * 64 + 64
    then lineByte w.data (a - (id * 65536 + off.toNat / 64 % 1024 * 64)) else memRead s.pool.cells a)

/-- The home answers a malformed AtomFar with CmpErr carrying BAD_DESCRIPTOR and changes no byte of memory (R142). -/
def Obligations.MalformedAtomicRefused : Prop := ∀ (s : State) (src : Endpoint) (tag : BitVec 14) (r : Req), inboxReq s [.atomFar] src tag = some r →
  Claims.Clear s r → r.kind = .atomFar → atomMalformed r.atom (r.addr.toNat % 64) = true →
  Runs (.atomfar src tag) s (fun t => t = dropInbox (refuseReq s r .badDescriptor) r ∧ t.pool.cells = s.pool.cells ∧ t.pool.poisonLines = s.pool.poisonLines)

/-! ## The rows take effect: one statement for each part of the table -/

/-- BAR0 register rows take effect: REGISTER_WRITE, LOW_WORD_READ, SETUP_OPEN_CLOSE, SERVE, TENANT_CTL_WRITE, PORT_KEY_WRITE, POLICER_WRITE, WRED_PROFILE_WRITE. -/
def Obligations.RegisterCommandsComplete : Prop :=
  Claims.registerWrite ∧ Claims.lowWordRead ∧ Claims.setupOpenClose ∧ Claims.serve ∧ Claims.tenantCtlWrite ∧ Claims.portKeyWrite ∧ Claims.policerWrite ∧ Claims.wredProfileWrite

/-- Board, MSI-X, test port, snapshot and Ethernet rows take effect: BOARD_READ, BOARD_WRITE, MSIX_UNMASK, JTAG_INSTRUCTION, DEVICE_SNAPSHOT, ARP_REQUEST, PHY_POLL. -/
def Obligations.ManagementCommandsComplete : Prop :=
  Claims.boardRead ∧ Claims.boardWrite ∧ Claims.msixUnmask ∧ Claims.jtagInstruction ∧ Claims.deviceSnapshot ∧ Claims.arpRequest ∧ Claims.phyPoll

/-- Ring state, doorbell and fetch rows take effect: RING_ENABLE, RING_DISABLE, RESUME, RING_DRAINED, DOORBELL, DESCRIPTOR_FETCH, DESCRIPTOR_ARRIVE, HOST_IMAGE_READ_DONE. -/
def Obligations.RingCommandsComplete : Prop :=
  Claims.ringEnable ∧ Claims.ringDisable ∧ Claims.resume ∧ Claims.ringDrained ∧ Claims.doorbell ∧ Claims.descriptorFetch ∧ Claims.descriptorArrive ∧ Claims.hostImageReadDone

/-- Commit, record, notification and handle rows take effect: LATCH_SET, COMPLETION_RECORD_WRITE, NOTIFICATION, ABORT_STOP_POINT, HELD_RECORD_DROP, NOP, ABORT, QUERY_HANDLE. -/
def Obligations.CompletionCommandsComplete : Prop :=
  Claims.latchSet ∧ Claims.completionRecordWrite ∧ Claims.notification ∧ Claims.abortStopPoint ∧ Claims.heldRecordDrop ∧ Claims.nop ∧ Claims.abort ∧ Claims.queryHandle

/-- Rows that change the composition take effect: EXTENT_CREATE, EXTENT_GRANT, EXTENT_REVOKE, EXTENT_RESIZE, QUOTA_SET, QUOTA_DEMOTION_END, MAP_COMMIT, MAP_GEN_PUBLISH, GENERATION_DRAINED, COMPOSITION_COMPLETE. -/
def Obligations.CompositionCommandsComplete : Prop :=
  Claims.extentCreate ∧ Claims.extentGrant ∧ Claims.extentRevoke ∧ Claims.extentResize ∧ Claims.quotaSet ∧ Claims.quotaDemotionEnd ∧ Claims.mapCommit ∧ Claims.mapGenPublish ∧ Claims.generationDrained ∧ Claims.compositionComplete

/-- Page, translation, ingress, fence and retire rows take effect: PAGE_FREE_SCRUB, XLATE_CACHE_FILL, PAGE_AGE_TICK, REQUEST_INGRESS, FENCEALL, FENCEWR, FENCESYNC, REQUEST_RETIRE, HELD_REQUEST_RELEASE, ATOMIC_WINDOW_RELEASE, ATOMRETIRE. -/
def Obligations.IngressCommandsComplete : Prop :=
  Claims.pageFreeScrub ∧ Claims.xlateCacheFill ∧ Claims.pageAgeTick ∧ Claims.requestIngress ∧ Claims.fenceall ∧ Claims.fencewr ∧ Claims.fencesync ∧ Claims.requestRetire ∧ Claims.heldRequestRelease ∧ Claims.atomicWindowRelease ∧ Claims.atomretire

/-- Home requests are ordered: RDNC, RDSHARED, RDOWN, ATOMNEAR, WRLINE, WRPTL, ATOMFAR, WBDIRTY. -/
def Obligations.HomeRequestsComplete : Prop :=
  Claims.rdnc ∧ Claims.rdshared ∧ Claims.rdown ∧ Claims.atomnear ∧ Claims.wrline ∧ Claims.wrptl ∧ Claims.atomfar ∧ Claims.wbdirty

/-- Snoop answers and grant acknowledgements are taken in: RSPI, RSPIWB, RSPIDATA, RSPS, RSPSDATA, RSPCUR, RSPCURDATA, GNTACK. -/
def Obligations.SnoopAnswersComplete : Prop :=
  Claims.rspi ∧ Claims.rspiwb ∧ Claims.rspidata ∧ Claims.rsps ∧ Claims.rspsdata ∧ Claims.rspcur ∧ Claims.rspcurdata ∧ Claims.gntack

/-- Home waits, memory steps, recalls, retries and time-outs take effect: TRACKER_FREE, WAIT_QUEUE_TAKE_UP, RECALL_SNOOP_ISSUE, MEMORY_READ_DONE, MEMORY_WRITE_DONE, RING_BROADCAST_RESPONSE, SNOOP_RETRY, SNOOP_TIMEOUT, FILTER_SWEEP_END. -/
def Obligations.HomeWorkCompletes : Prop :=
  Claims.trackerFree ∧ Claims.waitQueueTakeUp ∧ Claims.recallSnoopIssue ∧ Claims.memoryReadDone ∧ Claims.memoryWriteDone ∧ Claims.ringBroadcastResponse ∧ Claims.snoopRetry ∧ Claims.snoopTimeout ∧ Claims.filterSweepEnd

/-- CXL memory requests and BI answers take effect: CXL_MEMRD, CXL_MEMRDDATA, CXL_MEMWR, CXL_MEMWRPTL, MEMCLNEVCT, MEMSPECRD, MEMINV, BIRSPI, BIRSPS, BIRSPE, BICONFLICT. -/
def Obligations.CxlMemoryCommandsComplete : Prop :=
  Claims.cxlMemrd ∧ Claims.cxlMemrddata ∧ Claims.cxlMemwr ∧ Claims.cxlMemwrptl ∧ Claims.memclnevct ∧ Claims.memspecrd ∧ Claims.meminv ∧ Claims.birspi ∧ Claims.birsps ∧ Claims.birspe ∧ Claims.biconflict

/-- Combined atomics, replay and Far mode rows take effect: ATOMCOMB, CMPCOMB, REPLAY_ENTRY_FREE, FAR_ENTER, FAR_LINE_OP, FAR_QUIET_EXPIRE, FAR_EXIT_DONE. -/
def Obligations.FarModeCommandsComplete : Prop :=
  Claims.atomcomb ∧ Claims.cmpcomb ∧ Claims.replayEntryFree ∧ Claims.farEnter ∧ Claims.farLineOp ∧ Claims.farQuietExpire ∧ Claims.farExitDone

/-- Forwarded descriptors and shelf and draft operations take effect: FORWARDED_DESCRIPTOR, SHELF_CREATE, SHELF_OPEN, SHELF_CLOSE, DRAFT_BEGIN, DRAFT_PUBLISH, DRAFT_DISCARD. -/
def Obligations.ShelfCommandsComplete : Prop :=
  Claims.forwardedDescriptor ∧ Claims.shelfCreate ∧ Claims.shelfOpen ∧ Claims.shelfClose ∧ Claims.draftBegin ∧ Claims.draftPublish ∧ Claims.draftDiscard

/-- The steps of a publish and of slots and versions take effect: PUBLISH_RECALL_END, PUBLISH_DECIDE, PUBLISH_COMMIT, SLOT_FREE, COW_COPY_DONE, VERSION_RECLAIM. -/
def Obligations.PublishStepsComplete : Prop :=
  Claims.publishRecallEnd ∧ Claims.publishDecide ∧ Claims.publishCommit ∧ Claims.slotFree ∧ Claims.cowCopyDone ∧ Claims.versionReclaim

/-- Drawer operations and events take effect: DRAWER_CREATE, DRAWER_OFFER, DRAWER_ACCEPT, DRAWER_RELEASE, DRAWER_LEASE, DRAWER_LEASE_QUERY, DRAWER_RECALL_END, DRAWER_OFFER_DEADLINE, DRAWER_LEASE_EXPIRY, DRAWER_RELEASE_DONE. -/
def Obligations.DrawerCommandsComplete : Prop :=
  Claims.drawerCreate ∧ Claims.drawerOffer ∧ Claims.drawerAccept ∧ Claims.drawerRelease ∧ Claims.drawerLease ∧ Claims.drawerLeaseQuery ∧ Claims.drawerRecallEnd ∧ Claims.drawerOfferDeadline ∧ Claims.drawerLeaseExpiry ∧ Claims.drawerReleaseDone

/-- Placement, movement and evacuation operations start or complete: PLACE, MIGRATE, WINCH_WINDOW, WINCH_WINDOW_CLOSE, WINCH_ADVANCE, FLUSH, COPY, FILL, FILL_LAZY, STACK_EVACUATE. -/
def Obligations.PlacementCommandsComplete : Prop :=
  Claims.place ∧ Claims.migrate ∧ Claims.winchWindow ∧ Claims.winchWindowClose ∧ Claims.winchAdvance ∧ Claims.flush ∧ Claims.copy ∧ Claims.fill ∧ Claims.fillLazy ∧ Claims.stackEvacuate

/-- The work of the Winch takes effect: WINCH_UNIT_ISSUE, WINCH_UNIT_DONE, LAZY_FILL_PAGE_DONE, CHUNK_COPIED, CHUNK_DRAINED, WRITEBACK_AGE_EXPIRE, JOURNAL_PROGRESS. -/
def Obligations.WinchWorkCompletes : Prop :=
  Claims.winchUnitIssue ∧ Claims.winchUnitDone ∧ Claims.lazyFillPageDone ∧ Claims.chunkCopied ∧ Claims.chunkDrained ∧ Claims.writebackAgeExpire ∧ Claims.journalProgress

/-- Code table and compression operations take effect: CTABLE_LOAD, BUILD, BUILD_ENCODE, ENCODE, EXPAND, RELEASE, CTABLE_RETIRE, CTABLE_RETIRE_RECODE, BLOCK_REFETCH. -/
def Obligations.CodeTableCommandsComplete : Prop :=
  Claims.ctableLoad ∧ Claims.build ∧ Claims.buildEncode ∧ Claims.encode ∧ Claims.expand ∧ Claims.release ∧ Claims.ctableRetire ∧ Claims.ctableRetireRecode ∧ Claims.blockRefetch

/-- Memory stack events take effect: REFRESH_DUE, PREEMPTION_POINT, TEMP_SAMPLE, DRAM_REREAD, ROW_SPARE_COPY_DONE, BANK_REPLACE_COPY_DONE, PATROL_SCRUB, STACK_UNREADABLE, STACK_BASE_LOGIC_FAULT. -/
def Obligations.StackEventsComplete : Prop :=
  Claims.refreshDue ∧ Claims.preemptionPoint ∧ Claims.tempSample ∧ Claims.dramReread ∧ Claims.rowSpareCopyDone ∧ Claims.bankReplaceCopyDone ∧ Claims.patrolScrub ∧ Claims.stackUnreadable ∧ Claims.stackBaseLogicFault

/-- BAU placement, launch and sequence rows take effect: BAU_PLACE, BAU_PLACE_RELEASE, BAU_LAUNCH, BAU_HOLDS_INSTALLED, BAU_SEQUENCE_START, BAU_QUANTUM_GRANT, BAU_QUANTUM_FAULT, BAU_SEQUENCE_END. -/
def Obligations.BauCommandsComplete : Prop :=
  Claims.bauPlace ∧ Claims.bauPlaceRelease ∧ Claims.bauLaunch ∧ Claims.bauHoldsInstalled ∧ Claims.bauSequenceStart ∧ Claims.bauQuantumGrant ∧ Claims.bauQuantumFault ∧ Claims.bauSequenceEnd

/-- BAU register, loop and load instructions take effect: BAU_LI, BAU_ADDI, BAU_SETC, BAU_LOOP, BAU_SETF, BAU_END, BAU_LDS, BAU_ZACC, BAU_MV. -/
def Obligations.BauSetupInstructionsComplete : Prop :=
  Claims.bauLi ∧ Claims.bauAddi ∧ Claims.bauSetc ∧ Claims.bauLoop ∧ Claims.bauSetf ∧ Claims.bauEnd ∧ Claims.bauLds ∧ Claims.bauZacc ∧ Claims.bauMv

/-- BAU arithmetic and store instructions take effect: BAU_SCORE, BAU_SMX, BAU_MVT, BAU_ATTN, BAU_MULF, BAU_MULV, BAU_NORM, BAU_ST, BAU_STS. -/
def Obligations.BauComputeInstructionsComplete : Prop :=
  Claims.bauScore ∧ Claims.bauSmx ∧ Claims.bauMvt ∧ Claims.bauAttn ∧ Claims.bauMulf ∧ Claims.bauMulv ∧ Claims.bauNorm ∧ Claims.bauSt ∧ Claims.bauSts

/-- Kernel load, launch and gang rows take effect: KERNEL_LOAD, KERNEL_UNLOAD, KERNEL_LAUNCH, TR_REDUCE, TR_GATHER, TR_SCATTER, TR_FILTER, GANG_DISPATCH, GANG_RESULT_ARRIVE, CHUNK_TIME_LIMIT, TRESTLE_FAULT, LAUNCH_COMMIT. -/
def Obligations.KernelCommandsComplete : Prop :=
  Claims.kernelLoad ∧ Claims.kernelUnload ∧ Claims.kernelLaunch ∧ Claims.trReduce ∧ Claims.trGather ∧ Claims.trScatter ∧ Claims.trFilter ∧ Claims.gangDispatch ∧ Claims.gangResultArrive ∧ Claims.chunkTimeLimit ∧ Claims.trestleFault ∧ Claims.launchCommit

/-- Trestle integer instructions take effect: TRESTLE_LI, TRESTLE_LIH, TRESTLE_ADD, TRESTLE_SUB, TRESTLE_MUL, TRESTLE_DIVU, TRESTLE_AND, TRESTLE_OR, TRESTLE_XOR, TRESTLE_SHL, TRESTLE_SHR, TRESTLE_MINMAX, TRESTLE_SEL, TRESTLE_POPC. -/
def Obligations.TrestleIntegersComplete : Prop :=
  Claims.trestleLi ∧ Claims.trestleLih ∧ Claims.trestleAdd ∧ Claims.trestleSub ∧ Claims.trestleMul ∧ Claims.trestleDivu ∧ Claims.trestleAnd ∧ Claims.trestleOr ∧ Claims.trestleXor ∧ Claims.trestleShl ∧ Claims.trestleShr ∧ Claims.trestleMinmax ∧ Claims.trestleSel ∧ Claims.trestlePopc

/-- Trestle floating-point, compare and special instructions take effect: TRESTLE_CMP, TRESTLE_SPECIAL, TRESTLE_FADD, TRESTLE_FMUL, TRESTLE_FFMA, TRESTLE_FMINMAX, TRESTLE_FCMP, TRESTLE_CVT. -/
def Obligations.TrestleFloatsComplete : Prop :=
  Claims.trestleCmp ∧ Claims.trestleSpecial ∧ Claims.trestleFadd ∧ Claims.trestleFmul ∧ Claims.trestleFfma ∧ Claims.trestleFminmax ∧ Claims.trestleFcmp ∧ Claims.trestleCvt

/-- Trestle control instructions take effect: TRESTLE_BR, TRESTLE_IF, TRESTLE_ELSE, TRESTLE_ENDIF, TRESTLE_CHUNK, TRESTLE_FENCE, TRESTLE_END. -/
def Obligations.TrestleControlCompletes : Prop :=
  Claims.trestleBr ∧ Claims.trestleIf ∧ Claims.trestleElse ∧ Claims.trestleEndif ∧ Claims.trestleChunk ∧ Claims.trestleFence ∧ Claims.trestleEnd

/-- Trestle memory instructions issue their accesses: TRESTLE_LD, TRESTLE_ST, TRESTLE_ATOM, TRESTLE_VLD, TRESTLE_VST. -/
def Obligations.TrestleMemoryCompletes : Prop :=
  Claims.trestleLd ∧ Claims.trestleSt ∧ Claims.trestleAtom ∧ Claims.trestleVld ∧ Claims.trestleVst

/-- Trestle vector instructions take effect: TRESTLE_VADD, TRESTLE_VMUL, TRESTLE_VFMA, TRESTLE_VMINMAX, TRESTLE_VDOT, TRESTLE_VCVT, TRESTLE_VRED, TRESTLE_VCMP, TRESTLE_VCMPRS, TRESTLE_VBCAST, TRESTLE_VPACK, TRESTLE_VUNPACK. -/
def Obligations.TrestleVectorsComplete : Prop :=
  Claims.trestleVadd ∧ Claims.trestleVmul ∧ Claims.trestleVfma ∧ Claims.trestleVminmax ∧ Claims.trestleVdot ∧ Claims.trestleVcvt ∧ Claims.trestleVred ∧ Claims.trestleVcmp ∧ Claims.trestleVcmprs ∧ Claims.trestleVbcast ∧ Claims.trestleVpack ∧ Claims.trestleVunpack

/-- Train operations and segments take effect: TRAIN_CREATE, TRAIN_EDIT, TRAIN_DELETE, TRAIN_ENTRY_DISTRIBUTE, SEGMENT_ARRIVE. -/
def Obligations.TrainCommandsComplete : Prop :=
  Claims.trainCreate ∧ Claims.trainEdit ∧ Claims.trainDelete ∧ Claims.trainEntryDistribute ∧ Claims.segmentArrive

/-- Collective operations join their instance: BARRIER, BCAST, REDUCE, ALLREDUCE, ALLGATHER, REDUCE_SCATTER, MCAST. -/
def Obligations.CollectivesComplete : Prop :=
  Claims.barrier ∧ Claims.bcast ∧ Claims.reduce ∧ Claims.allreduce ∧ Claims.allgather ∧ Claims.reduceScatter ∧ Claims.mcast

/-- Path, marker and tether rows take effect: TRANSIT_HOP, PATH_UPDATE, PATHMARK, MARKACK, TETHER_OPEN, TETHER_CLOSE, TETHER_ENTRY_INSTALL, TRUNK_ACTIVE_REPORT. -/
def Obligations.PathCommandsComplete : Prop :=
  Claims.transitHop ∧ Claims.pathUpdate ∧ Claims.pathmark ∧ Claims.markack ∧ Claims.tetherOpen ∧ Claims.tetherClose ∧ Claims.tetherEntryInstall ∧ Claims.trunkActiveReport

/-- Switch core cell and fault rows take effect: CELL_INGRESS, STAGE_CREDIT_RETURN, MIDDLE_PULL, RESEQUENCE_CELL, BUFFER_ROW_FAULT, SLICE_FAULT, SLICE_TAKEOVER_DONE. -/
def Obligations.CoreEventsComplete : Prop :=
  Claims.cellIngress ∧ Claims.stageCreditReturn ∧ Claims.middlePull ∧ Claims.resequenceCell ∧ Claims.bufferRowFault ∧ Claims.sliceFault ∧ Claims.sliceTakeoverDone

/-- Congestion, scheduling and telemetry rows take effect: THROTTLE_INCREASE_TICK, THROTTLE_RELEASE, WRED_DEPTH_PUBLISH, EGRESS_SCHEDULE, TELEMETRY_SAMPLE, PORT_TEL_SNAP. -/
def Obligations.CongestionEventsComplete : Prop :=
  Claims.throttleIncreaseTick ∧ Claims.throttleRelease ∧ Claims.wredDepthPublish ∧ Claims.egressSchedule ∧ Claims.telemetrySample ∧ Claims.portTelSnap

/-- Flits and link control messages take effect: FLIT_RECEIVE, SUPERFRAME_MARKER, IDLE, NAK, CREDIT, CONFIG, REPLAY_TIMEOUT, NAK_REPEAT, ACK_TIMER, EPMSG. -/
def Obligations.LinkMessagesComplete : Prop :=
  Claims.flitReceive ∧ Claims.superframeMarker ∧ Claims.idle ∧ Claims.nak ∧ Claims.credit ∧ Claims.config ∧ Claims.replayTimeout ∧ Claims.nakRepeat ∧ Claims.ackTimer ∧ Claims.epmsg

/-- Link training rows take effect: LINK_EN, TS1, TS2, TRAINING_TIMEOUT, TRAIN_RETRY_TIMER, RETRAIN, FULL_RETRAIN, ROLL, PORT_RESET. -/
def Obligations.LinkTrainingCompletes : Prop :=
  Claims.linkEn ∧ Claims.ts1 ∧ Claims.ts2 ∧ Claims.trainingTimeout ∧ Claims.trainRetryTimer ∧ Claims.retrain ∧ Claims.fullRetrain ∧ Claims.roll ∧ Claims.portReset

/-- Lane replacement rows take effect: LANE_REQ, LANE_ACK, RETRAIN_REQ, SPARE_RX_ADAPTED, LANE_REPLACE_TIMEOUT, LANE_ADAPTATION_LOSS. -/
def Obligations.LaneSparingCompletes : Prop :=
  Claims.laneReq ∧ Claims.laneAck ∧ Claims.retrainReq ∧ Claims.spareRxAdapted ∧ Claims.laneReplaceTimeout ∧ Claims.laneAdaptationLoss

/-- CXL port events take effect: CXL_LINK_TRAINED, CXL_LINK_DOWN, FUNCTION_LEVEL_RESET, BI_ENABLE, IDE_ESTABLISHED, IDE_FAIL. -/
def Obligations.CxlPortEventsComplete : Prop :=
  Claims.cxlLinkTrained ∧ Claims.cxlLinkDown ∧ Claims.functionLevelReset ∧ Claims.biEnable ∧ Claims.ideEstablished ∧ Claims.ideFail

/-- Tray and island fault events take effect: TRAY_BRINGUP, TRAY_RESPONSE, TRAY_RESPONSE_TIMEOUT, TRAY_EVENT_LOG_POLL, PORT_ISLAND_FAULT, MGMT_ISLAND_FAULT. -/
def Obligations.TrayEventsComplete : Prop :=
  Claims.trayBringup ∧ Claims.trayResponse ∧ Claims.trayResponseTimeout ∧ Claims.trayEventLogPoll ∧ Claims.portIslandFault ∧ Claims.mgmtIslandFault

/-- Mailbox image and query rows take effect: GET_INFO, IMAGE_LOAD, IMAGE_ACTIVATE, SVN_COMMIT, SETTLE_CORE_FAULT, WATCHDOG_REPORT, WATCHDOG_EXPIRE. -/
def Obligations.MailboxCommandsComplete : Prop :=
  Claims.getInfo ∧ Claims.imageLoad ∧ Claims.imageActivate ∧ Claims.svnCommit ∧ Claims.settleCoreFault ∧ Claims.watchdogReport ∧ Claims.watchdogExpire

/-- Policy module rows take effect: PM_KEY_SET, PM_LOAD, PM_UNLOAD, PM_STATUS, PM_QUANTUM_TICK, PM_QUEUE_SUBMIT. -/
def Obligations.PolicyModuleCommandsComplete : Prop :=
  Claims.pmKeySet ∧ Claims.pmLoad ∧ Claims.pmUnload ∧ Claims.pmStatus ∧ Claims.pmQuantumTick ∧ Claims.pmQueueSubmit

/-- Fence, notice, alert, spare and engine fault rows take effect: FENCE_DOMAIN, UNFENCE_DOMAIN, FENCE_NOTICE, DOM_ALERT, DOM_ALERT_RELEASE, PORT_DOWN_FENCE_TIMEOUT, WINCH_ENGINE_FAULT, COMPRESSION_ENGINE_FAULT, SPARE_QUERY. -/
def Obligations.FenceCommandsComplete : Prop :=
  Claims.fenceDomain ∧ Claims.unfenceDomain ∧ Claims.fenceNotice ∧ Claims.domAlert ∧ Claims.domAlertRelease ∧ Claims.portDownFenceTimeout ∧ Claims.winchEngineFault ∧ Claims.compressionEngineFault ∧ Claims.spareQuery

/-- Power-on, cold and warm reset rows take effect: PORST_N, COLD, WARM_RST_N, WARM, QUIESCE_END, WARM_RESTART, DEVICE_OPEN. -/
def Obligations.ResetCommandsComplete : Prop :=
  Claims.porstN ∧ Claims.cold ∧ Claims.warmRstN ∧ Claims.warm ∧ Claims.quiesceEnd ∧ Claims.warmRestart ∧ Claims.deviceOpen

/-- Tenant, island and start-up rows take effect: TENANT, ISLAND, ISLAND_RESET_DONE, STARTUP_TEST_DONE, PERST_N. -/
def Obligations.PartialResetsComplete : Prop :=
  Claims.tenant ∧ Claims.island ∧ Claims.islandResetDone ∧ Claims.startupTestDone ∧ Claims.perstN

/-- Clock and time rows take effect: REFCLK_LOST, REFCLK_RESTORED, TIME_DISTRIBUTE, PPS_IN_EDGE, PTP_MESSAGE, GLOBAL_TIME_SET, PPS_OUT_SECOND. -/
def Obligations.ClockEventsComplete : Prop :=
  Claims.refclkLost ∧ Claims.refclkRestored ∧ Claims.timeDistribute ∧ Claims.ppsInEdge ∧ Claims.ptpMessage ∧ Claims.globalTimeSet ∧ Claims.ppsOutSecond

/-- Power and temperature rows take effect: RAIL_EXCURSION, RAIL_RETURN, RAIL_EXCURSION_LIMIT, VDD_AON_LOSS, SW_THERMAL_ALERT, SW_ALERT_CLEAR, THERMTRIP, AVS_POLL, AVS_TARGET_STEP. -/
def Obligations.PowerEventsComplete : Prop :=
  Claims.railExcursion ∧ Claims.railReturn ∧ Claims.railExcursionLimit ∧ Claims.vddAonLoss ∧ Claims.swThermalAlert ∧ Claims.swAlertClear ∧ Claims.thermtrip ∧ Claims.avsPoll ∧ Claims.avsTargetStep
end

