-- ==== Sys2Proof/Laws/Keep.lean ====
section
/-! SUPPORT. What an operation leaves alone, as one relation between the state before and after it: the parts outside a set,
and the canonical form of memory. A set of parts is the number whose bits are the parts' places in Part. -/

namespace Sys2Proof.Machine

set_option Elab.async false

/-- The place of a part in a number that stands for a set. -/
def Part.idx : Part → Nat
  | .now => 0
  | .draws => 1
  | .regs => 2
  | .out => 3
  | .pending => 4
  | .rings => 5
  | .mgmt => 6
  | .coh => 7
  | .ord => 8
  | .atm => 9
  | .obj => 10
  | .tier => 11
  | .cmp => 12
  | .stk => 13
  | .bau => 14
  | .trs => 15
  | .train => 16
  | .route => 17
  | .core => 18
  | .cong => 19
  | .link => 20
  | .ras => 21
  | .sys => 22
  | .settle => 23
  | .pwr => 24
  | .tenants => 25
  | .extents => 26
  | .mapGen => 27
  | .undrained => 28
  | .affected => 29
  | .history => 30
  | .compOrder => 31
  | .ready => 32
  | .openGen => 33
  | .pages => 34
  | .backs => 35
  | .nextBack => 36
  | .cells => 37
  | .poisonLines => 38
  | .toFree => 39
  | .scrub => 40
  | .flights => 41
  | .quotaOps => 42
  | .xlate => 43
  | .extCache => 44
  | .xlateWait => 45
  | .lastAgeTick => 46
  | .freeing => 47

/-- Outside the parts in `F`, `t` is `s`; and where `s`'s memory has its canonical form, `t`'s has it. -/
structure Same (F : Nat) (s t : State) : Prop where
  part : ∀ p : Part, F.testBit p.idx = false → p.Kept s t
  mem : memWf s.pool.cells = true → memWf t.pool.cells = true

/-- The state that a result holds, if any, is as Same says. -/
structure SameO (F : Nat) (s : State) (o : Option State) : Prop where
  of' ::
  all : ∀ t, o = some t → Same F s t

theorem Same.refl (F : Nat) (s : State) : Same F s s := ⟨fun p _ => by (cases p <;> rfl), id⟩

theorem Part.Kept.trans {p : Part} {s t u : State} (h : p.Kept s t) (k : p.Kept t u) : p.Kept s u := by
  cases p <;> exact Eq.trans k h

theorem testBit_of_lor {G F n : Nat} (h : Nat.lor G F = F) (hn : F.testBit n = false) : G.testBit n = false := by
  have e : (G ||| F).testBit n = F.testBit n := congrArg (fun x => Nat.testBit x n) h
  rw [Nat.testBit_or, hn] at e
  cases hg : G.testBit n <;> simp_all

/-- What comes after stays in the set. -/
theorem Same.step {G F : Nat} {s t u : State} (k : Same G t u) (h : Same F s t) (e : Nat.lor G F = F := by decide) : Same F s u :=
  ⟨fun p hp => (h.part p hp).trans (k.part p (testBit_of_lor e hp)), fun m => k.mem (h.mem m)⟩

theorem Same.widen {G F : Nat} {s t : State} (k : Same G s t) (e : Nat.lor G F = F) : Same F s t := k.step (Same.refl F s) e

theorem Same.rw {F : Nat} {s t u : State} (e : t = u) (k : Same F s t) : Same F s u := e ▸ k

theorem SameO.of {F : Nat} {s t : State} {o : Option State} (h : SameO F s o) (e : o = some t) : Same F s t := h.all t e
theorem SameO.yes {F : Nat} {s t : State} (h : Same F s t) : SameO F s (some t) := ⟨fun _ e => Option.some.inj e ▸ h⟩
theorem SameO.no {F : Nat} {s : State} : SameO F s none := ⟨fun _ e => nomatch e⟩
theorem SameO.pass {F G : Nat} {s t : State} {o : Option State} (k : SameO G t o) (h : Same F s t) (e : Nat.lor G F = F := by decide) : SameO F s o :=
  ⟨fun u hu => (k.all u hu).step h e⟩
theorem SameO.getD {F : Nat} {s t : State} {o : Option State} (h : SameO F s o) (k : Same F s t) : Same F s (o.getD t) := by
  cases o with
  | none => exact k
  | some u => exact h.all u rfl

theorem Same.ite0 {c : Prop} [Decidable c] {F : Nat} {s a b : State} (ha : Same F s a) (hb : Same F s b) : Same F s (if c then a else b) := by
  split
  · exact ha
  · exact hb
theorem Same.ite {α : Type} {c : Prop} [Decidable c] {F : Nat} {s : State} {a b : α} {f : α → State} (ha : Same F s (f a)) (hb : Same F s (f b)) :
    Same F s (f (if c then a else b)) := by
  split
  · exact ha
  · exact hb
theorem SameO.ite0 {c : Prop} [Decidable c] {F : Nat} {s : State} {a b : Option State} (ha : SameO F s a) (hb : SameO F s b) :
    SameO F s (if c then a else b) := by
  split
  · exact ha
  · exact hb
theorem SameO.ite {α : Type} {c : Prop} [Decidable c] {F : Nat} {s : State} {a b : α} {f : α → Option State} (ha : SameO F s (f a)) (hb : SameO F s (f b)) :
    SameO F s (f (if c then a else b)) := by
  split
  · exact ha
  · exact hb

/-- A fold keeps what its step keeps. -/
theorem foldl_holds {α β : Type} {P : β → Prop} {f : β → α → β} (l : List α) (b : β) (h0 : P b) (h : ∀ b a, P b → P (f b a)) : P (l.foldl f b) := by
  induction l generalizing b with
  | nil => exact h0
  | cons a l ih => exact ih _ (h b a h0)

theorem Same.foldl {α : Type} {F : Nat} {s0 s : State} {f : State → α → State} (l : List α) (h : Same F s0 s)
    (k : ∀ s a, Same F s0 s → Same F s0 (f s a)) : Same F s0 (l.foldl f s) := foldl_holds l s h k
theorem Same.foldl1 {α β : Type} {F : Nat} {s0 : State} {b : State × β} {f : State × β → α → State × β} (l : List α)
    (h : Same F s0 b.1) (k : ∀ b a, Same F s0 b.1 → Same F s0 (f b a).1) : Same F s0 (l.foldl f b).1 :=
  foldl_holds (P := fun b => Same F s0 b.1) l b h k
theorem Same.foldl2 {α β : Type} {F : Nat} {s0 : State} {b : β × State} {f : β × State → α → β × State} (l : List α)
    (h : Same F s0 b.2) (k : ∀ b a, Same F s0 b.2 → Same F s0 (f b a).2) : Same F s0 (l.foldl f b).2 :=
  foldl_holds (P := fun b => Same F s0 b.2) l b h k
theorem SameO.foldlM {α : Type} {F : Nat} {s0 s : State} {f : State → α → Option State} (l : List α) (h : Same F s0 s)
    (k : ∀ s a, Same F s0 s → SameO F s0 (f s a)) : SameO F s0 (l.foldlM f s) := by
  induction l generalizing s with
  | nil => exact SameO.yes h
  | cons a l ih =>
    constructor
    intro t e
    rw [List.foldlM_cons] at e
    cases hf : f s a with
    | none => rw [hf] at e; cases e
    | some u => rw [hf] at e; exact (ih ((k s a h).all u hf)).all t e
theorem SameO.bind {α : Type} {F : Nat} {s0 : State} {o : Option α} {f : α → Option State}
    (k : ∀ a, o = some a → SameO F s0 (f a)) : SameO F s0 (o.bind f) := by
  cases o with
  | none => exact SameO.no
  | some a => exact k a rfl
theorem SameO.map {α : Type} {F : Nat} {s0 : State} {o : Option α} {f : α → State}
    (k : ∀ a, o = some a → Same F s0 (f a)) : SameO F s0 (o.map f) := by
  cases o with
  | none => exact SameO.no
  | some a => exact SameO.yes (k a rfl)

theorem SameO.findSome {α : Type} {F : Nat} {s0 : State} {l : List α} {f : α → Option State} (k : ∀ a, SameO F s0 (f a)) : SameO F s0 (l.findSome? f) := by
  induction l with
  | nil => exact SameO.no
  | cons a l ih =>
    rw [List.findSome?_cons]
    split
    · rename_i u h
      exact h ▸ k a
    · exact ih

theorem Same.pair1 {β : Type} {F : Nat} {s t : State} {b : β} (h : Same F s t) : Same F s (t, b).1 := h
theorem Same.pair2 {β : Type} {F : Nat} {s t : State} {b : β} (h : Same F s t) : Same F s (b, t).2 := h
theorem Same.of1 {β : Type} {F : Nat} {s t : State} {b : β} {r : State × β} (h : Same F s r.1) (e : r = (t, b)) : Same F s t := by
  cases e; exact h
theorem Same.of2 {β : Type} {F : Nat} {s t : State} {b : β} {r : β × State} (h : Same F s r.2) (e : r = (b, t)) : Same F s t := by
  cases e; exact h
theorem Same.stopped {F : Nat} {s t : State} {a b : Word} (h : Same F s t) : Same F s (Stopped.mk t a b).s := h
theorem Same.comp {F : Nat} {s t : State} {o : WOp} {r : List (Nat × Nat)} {w : Option (Nat × List (Line × Bool))} {c : Nat}
    (h : Same F s t) : Same F s (Comp.mk t o r w c).s := h

/-- The state in each kind of result. -/
def outSt : Out3 → Option State
  | .next t => some t
  | _ => none
def sndSt {α : Type} : Option (α × State) → Option State
  | some (_, t) => some t
  | none => none
def fstSt {α : Type} : Option (State × α) → Option State
  | some (t, _) => some t
  | none => none
def ranSt : Ran → Option State
  | .ok t _ _ _ _ => some t
  | .fault .. => none
def takenSt : Taken → Option State
  | .done t | .wait t | .starved t => some t
def exSt : Except Nat State → Option State
  | .ok t => some t
  | .error _ => none
def wroteSt : Wrote → Option State
  | .done t | .wait t | .away t => some t
  | .refused _ => none
def ewSt : EngineWrote → Option State
  | .done t | .wait t | .quota t => some t
def readySt : PageReady → Option State
  | .ok t | .wait t => some t
  | .quota => none
def destSt : Dest → Option State
  | .go _ t => some t
  | _ => none
def unitSt : UnitEnd → Option State
  | .wait t | .refuse t _ => some t
  | .away t _ _ | .done t _ _ => some t
def ordSt : State ⊕ State × Gang → Option State
  | .inl t => some t
  | .inr (t, _) => some t
def odSt : Status ⊕ Nat × State → Option State
  | .inl _ => none
  | .inr (_, t) => some t

theorem SameO.next {F : Nat} {s t : State} {r : Out3} (h : SameO F s (outSt r)) (e : r = .next t) : Same F s t := h.all t (e ▸ rfl)
theorem SameO.some {F : Nat} {s t : State} {r : Option State} (h : SameO F s r) (e : r = Option.some t) : Same F s t := h.all t e

theorem SameO.out_next {F : Nat} {s t : State} (h : Same F s t) : SameO F s (outSt (.next t)) := SameO.yes h
theorem SameO.out_fault {F : Nat} {s : State} {f : Fault} : SameO F s (outSt (.fault f)) := SameO.no
theorem SameO.snd_some {α : Type} {F : Nat} {s t : State} {a : α} (h : Same F s t) : SameO F s (sndSt (Option.some (a, t))) := SameO.yes h
theorem SameO.snd_none {α : Type} {F : Nat} {s : State} : SameO F s (sndSt (none : Option (α × State))) := SameO.no
theorem SameO.fst_some {α : Type} {F : Nat} {s t : State} {a : α} (h : Same F s t) : SameO F s (fstSt (Option.some (t, a))) := SameO.yes h
theorem SameO.fst_none {α : Type} {F : Nat} {s : State} : SameO F s (fstSt (none : Option (State × α))) := SameO.no
theorem SameO.ran_ok {F : Nat} {s t : State} {r : BauRegs} {g : Nat} {w : List (Nat × Line × Bool)} {m : Option Nat} (h : Same F s t) :
    SameO F s (ranSt (.ok t r g w m)) := SameO.yes h
theorem SameO.ran_fault {F : Nat} {s : State} {a b : Nat} {w : List (Nat × Line × Bool)} : SameO F s (ranSt (.fault a b w)) := SameO.no
theorem SameO.taken_done {F : Nat} {s t : State} (h : Same F s t) : SameO F s (takenSt (.done t)) := SameO.yes h
theorem SameO.taken_wait {F : Nat} {s t : State} (h : Same F s t) : SameO F s (takenSt (.wait t)) := SameO.yes h
theorem SameO.taken_starved {F : Nat} {s t : State} (h : Same F s t) : SameO F s (takenSt (.starved t)) := SameO.yes h
theorem SameO.wrote_done {F : Nat} {s t : State} (h : Same F s t) : SameO F s (wroteSt (.done t)) := SameO.yes h
theorem SameO.wrote_wait {F : Nat} {s t : State} (h : Same F s t) : SameO F s (wroteSt (.wait t)) := SameO.yes h
theorem SameO.ex_ok {F : Nat} {s t : State} (h : Same F s t) : SameO F s (exSt (.ok t)) := SameO.yes h
theorem SameO.ex_error {F : Nat} {s : State} {n : Nat} : SameO F s (exSt (.error n)) := SameO.no
theorem SameO.wrote_away {F : Nat} {s t : State} (h : Same F s t) : SameO F s (wroteSt (.away t)) := SameO.yes h
theorem SameO.wrote_refused {F : Nat} {s : State} {x : Status} : SameO F s (wroteSt (.refused x)) := SameO.no
theorem SameO.ew_done {F : Nat} {s t : State} (h : Same F s t) : SameO F s (ewSt (.done t)) := SameO.yes h
theorem SameO.ew_wait {F : Nat} {s t : State} (h : Same F s t) : SameO F s (ewSt (.wait t)) := SameO.yes h
theorem SameO.ew_quota {F : Nat} {s t : State} (h : Same F s t) : SameO F s (ewSt (.quota t)) := SameO.yes h
theorem SameO.ready_ok {F : Nat} {s t : State} (h : Same F s t) : SameO F s (readySt (.ok t)) := SameO.yes h
theorem SameO.ready_wait {F : Nat} {s t : State} (h : Same F s t) : SameO F s (readySt (.wait t)) := SameO.yes h
theorem SameO.ready_quota {F : Nat} {s : State} : SameO F s (readySt .quota) := SameO.no
theorem SameO.dest_go {F : Nat} {s t : State} {l : Loc} (h : Same F s t) : SameO F s (destSt (.go l t)) := SameO.yes h
theorem SameO.dest_stay {F : Nat} {s : State} : SameO F s (destSt .stay) := SameO.no
theorem SameO.dest_skip {F : Nat} {s : State} : SameO F s (destSt .skip) := SameO.no
theorem SameO.dest_gone {F : Nat} {s : State} : SameO F s (destSt .gone) := SameO.no
theorem SameO.unit_wait {F : Nat} {s t : State} (h : Same F s t) : SameO F s (unitSt (.wait t)) := SameO.yes h
theorem SameO.unit_done {F : Nat} {s t : State} {o : WOp} {c : Nat} (h : Same F s t) : SameO F s (unitSt (.done t o c)) := SameO.yes h
theorem SameO.unit_refuse {F : Nat} {s t : State} {x : Status} (h : Same F s t) : SameO F s (unitSt (.refuse t x)) := SameO.yes h
theorem SameO.unit_away {F : Nat} {s t : State} {o : WOp} {c : Nat} (h : Same F s t) : SameO F s (unitSt (.away t o c)) := SameO.yes h
theorem SameO.ord_inl {F : Nat} {s t : State} (h : Same F s t) : SameO F s (ordSt (.inl t)) := SameO.yes h
theorem SameO.ord_inr {F : Nat} {s t : State} {g : Gang} (h : Same F s t) : SameO F s (ordSt (.inr (t, g))) := SameO.yes h
theorem SameO.od_inl {F : Nat} {s : State} {x : Status} : SameO F s (odSt (.inl x)) := SameO.no
theorem SameO.od_inr {F : Nat} {s t : State} {n : Nat} (h : Same F s t) : SameO F s (odSt (.inr (n, t))) := SameO.yes h

/-- Two memories with the canonical form, and parts that are equal. -/
theorem Same.of_mem {F : Nat} {s : State} {c : List Host.Cell} {l : List Nat} (h : memWf s.pool.cells = true → memWf c = true)
    (h1 : F.testBit Part.cells.idx = true) (h2 : F.testBit Part.poisonLines.idx = true) :
    Same F s { s with pool := { s.pool with cells := c, poisonLines := l } } :=
  ⟨fun p hp => by (cases p <;> first | rfl | (rw [h1] at hp; cases hp) | (rw [h2] at hp; cases hp)), h⟩

theorem Same.set_out (s : State) (x1 : List Emit) :
    Same 8 s { s with out := x1 } :=
  ⟨fun p hp => by (cases p <;> first | rfl | cases hp), id⟩

theorem Same.set_rings (s : State) (x1 : RingsSt) :
    Same 32 s { s with rings := x1 } :=
  ⟨fun p hp => by (cases p <;> first | rfl | cases hp), id⟩

theorem Same.set_regs (s : State) (x1 : Tbl Word) :
    Same 4 s { s with regs := x1 } :=
  ⟨fun p hp => by (cases p <;> first | rfl | cases hp), id⟩

theorem Same.set_obj (s : State) (x1 : ObjSt) :
    Same 1024 s { s with obj := x1 } :=
  ⟨fun p hp => by (cases p <;> first | rfl | cases hp), id⟩

theorem Same.set_settle (s : State) (x1 : SettleSt) :
    Same 8388608 s { s with settle := x1 } :=
  ⟨fun p hp => by (cases p <;> first | rfl | cases hp), id⟩

theorem Same.set_ras (s : State) (x1 : RasSt) :
    Same 2097152 s { s with ras := x1 } :=
  ⟨fun p hp => by (cases p <;> first | rfl | cases hp), id⟩

theorem Same.set_link (s : State) (x1 : LinkSt) :
    Same 1048576 s { s with link := x1 } :=
  ⟨fun p hp => by (cases p <;> first | rfl | cases hp), id⟩

theorem Same.set_coh (s : State) (x1 : CohSt) :
    Same 128 s { s with coh := x1 } :=
  ⟨fun p hp => by (cases p <;> first | rfl | cases hp), id⟩

theorem Same.set_pool_backs (s : State) (x1 : Tbl Back) :
    Same 34359738368 s { s with pool := { s.pool with backs := x1 } } :=
  ⟨fun p hp => by (cases p <;> first | rfl | cases hp), id⟩

theorem Same.set_tier (s : State) (x1 : TierSt) :
    Same 2048 s { s with tier := x1 } :=
  ⟨fun p hp => by (cases p <;> first | rfl | cases hp), id⟩

theorem Same.set_route (s : State) (x1 : RouteSt) :
    Same 131072 s { s with route := x1 } :=
  ⟨fun p hp => by (cases p <;> first | rfl | cases hp), id⟩

theorem Same.set_sys (s : State) (x1 : SysSt) :
    Same 4194304 s { s with sys := x1 } :=
  ⟨fun p hp => by (cases p <;> first | rfl | cases hp), id⟩

theorem Same.set_cmp (s : State) (x1 : CmpSt) :
    Same 4096 s { s with cmp := x1 } :=
  ⟨fun p hp => by (cases p <;> first | rfl | cases hp), id⟩

theorem Same.set_core (s : State) (x1 : CoreSt) :
    Same 262144 s { s with core := x1 } :=
  ⟨fun p hp => by (cases p <;> first | rfl | cases hp), id⟩

theorem Same.set_cong (s : State) (x1 : CongSt) :
    Same 524288 s { s with cong := x1 } :=
  ⟨fun p hp => by (cases p <;> first | rfl | cases hp), id⟩

theorem Same.set_train (s : State) (x1 : TrainSt) :
    Same 65536 s { s with train := x1 } :=
  ⟨fun p hp => by (cases p <;> first | rfl | cases hp), id⟩

theorem Same.set_pool_backs_nextBack (s : State) (x1 : Tbl Back) (x2 : Nat) :
    Same 103079215104 s { s with pool := { s.pool with backs := x1, nextBack := x2 } } :=
  ⟨fun p hp => by (cases p <;> first | rfl | cases hp), id⟩

theorem Same.set_pool_pages (s : State) (x1 : Tbl Nat) :
    Same 17179869184 s { s with pool := { s.pool with pages := x1 } } :=
  ⟨fun p hp => by (cases p <;> first | rfl | cases hp), id⟩

theorem Same.set_pool_poisonLines (s : State) (x1 : List Nat) :
    Same 274877906944 s { s with pool := { s.pool with poisonLines := x1 } } :=
  ⟨fun p hp => by (cases p <;> first | rfl | cases hp), id⟩

theorem Same.set_atm (s : State) (x1 : AtmSt) :
    Same 512 s { s with atm := x1 } :=
  ⟨fun p hp => by (cases p <;> first | rfl | cases hp), id⟩

theorem Same.set_draws (s : State) (x1 : Nat) :
    Same 2 s { s with draws := x1 } :=
  ⟨fun p hp => by (cases p <;> first | rfl | cases hp), id⟩

theorem Same.set_ord (s : State) (x1 : OrdSt) :
    Same 256 s { s with ord := x1 } :=
  ⟨fun p hp => by (cases p <;> first | rfl | cases hp), id⟩

theorem Same.set_pool_compOrder (s : State) (x1 : List Nat) :
    Same 2147483648 s { s with pool := { s.pool with compOrder := x1 } } :=
  ⟨fun p hp => by (cases p <;> first | rfl | cases hp), id⟩

theorem Same.set_pool_flights (s : State) (x1 : List Flight) :
    Same 2199023255552 s { s with pool := { s.pool with flights := x1 } } :=
  ⟨fun p hp => by (cases p <;> first | rfl | cases hp), id⟩

theorem Same.set_trs (s : State) (x1 : TrsSt) :
    Same 32768 s { s with trs := x1 } :=
  ⟨fun p hp => by (cases p <;> first | rfl | cases hp), id⟩

theorem Same.set_pool_xlateWait (s : State) (x1 : List Req) :
    Same 35184372088832 s { s with pool := { s.pool with xlateWait := x1 } } :=
  ⟨fun p hp => by (cases p <;> first | rfl | cases hp), id⟩

theorem Same.set_bau (s : State) (x1 : BauSt) :
    Same 16384 s { s with bau := x1 } :=
  ⟨fun p hp => by (cases p <;> first | rfl | cases hp), id⟩

theorem Same.set_regs_link (s : State) (x1 : Tbl Word) (x2 : LinkSt) :
    Same 1048580 s { s with regs := x1, link := x2 } :=
  ⟨fun p hp => by (cases p <;> first | rfl | cases hp), id⟩

theorem Same.set_pool_xlate (s : State) (x1 : Tbl (List Nat)) :
    Same 8796093022208 s { s with pool := { s.pool with xlate := x1 } } :=
  ⟨fun p hp => by (cases p <;> first | rfl | cases hp), id⟩

theorem Same.set_pool_freeing (s : State) (x1 : List (Nat × Key × Tier)) :
    Same 140737488355328 s { s with pool := { s.pool with freeing := x1 } } :=
  ⟨fun p hp => by (cases p <;> first | rfl | cases hp), id⟩

theorem Same.set_pool_toFree (s : State) (x1 : List Nat) :
    Same 549755813888 s { s with pool := { s.pool with toFree := x1 } } :=
  ⟨fun p hp => by (cases p <;> first | rfl | cases hp), id⟩

theorem Same.set_coh_atm (s : State) (x1 : CohSt) (x2 : AtmSt) :
    Same 640 s { s with coh := x1, atm := x2 } :=
  ⟨fun p hp => by (cases p <;> first | rfl | cases hp), id⟩

theorem Same.set_pool_open (s : State) (x1 : List Change) :
    Same 8589934592 s { s with pool := { s.pool with open_ := x1 } } :=
  ⟨fun p hp => by (cases p <;> first | rfl | cases hp), id⟩

theorem Same.set_stk (s : State) (x1 : StkSt) :
    Same 8192 s { s with stk := x1 } :=
  ⟨fun p hp => by (cases p <;> first | rfl | cases hp), id⟩

theorem Same.set_mgmt (s : State) (x1 : MgmtSt) :
    Same 64 s { s with mgmt := x1 } :=
  ⟨fun p hp => by (cases p <;> first | rfl | cases hp), id⟩

theorem Same.set_rings_ord_pool_xlateWait (s : State) (x1 : RingsSt) (x2 : OrdSt) (x3 : List Req) :
    Same 35184372089120 s { s with rings := x1, pool := { s.pool with xlateWait := x3 }, ord := x2 } :=
  ⟨fun p hp => by (cases p <;> first | rfl | cases hp), id⟩

theorem Same.set_link_sys (s : State) (x1 : LinkSt) (x2 : SysSt) :
    Same 5242880 s { s with link := x1, sys := x2 } :=
  ⟨fun p hp => by (cases p <;> first | rfl | cases hp), id⟩

theorem Same.set_mgmt_ord_atm_core_cong (s : State) (x1 : MgmtSt) (x2 : OrdSt) (x3 : AtmSt) (x4 : CoreSt) (x5 : CongSt) :
    Same 787264 s { s with mgmt := x1, ord := x2, atm := x3, core := x4, cong := x5 } :=
  ⟨fun p hp => by (cases p <;> first | rfl | cases hp), id⟩

theorem Same.set_pool_compOrder_ready_open (s : State) (x1 : List Nat) (x2 : Option Change) (x3 : List Change) :
    Same 15032385536 s { s with pool := { s.pool with compOrder := x1, ready := x2, open_ := x3 } } :=
  ⟨fun p hp => by (cases p <;> first | rfl | cases hp), id⟩

theorem Same.set_pool_quotaOps (s : State) (x1 : List QuotaOp) :
    Same 4398046511104 s { s with pool := { s.pool with quotaOps := x1 } } :=
  ⟨fun p hp => by (cases p <;> first | rfl | cases hp), id⟩

theorem Same.set_pwr (s : State) (x1 : PwrSt) :
    Same 16777216 s { s with pwr := x1 } :=
  ⟨fun p hp => by (cases p <;> first | rfl | cases hp), id⟩

theorem Same.set_regs_sys_pwr (s : State) (x1 : Tbl Word) (x2 : SysSt) (x3 : PwrSt) :
    Same 20971524 s { s with regs := x1, sys := x2, pwr := x3 } :=
  ⟨fun p hp => by (cases p <;> first | rfl | cases hp), id⟩

theorem Same.set_rings_sys (s : State) (x1 : RingsSt) (x2 : SysSt) :
    Same 4194336 s { s with rings := x1, sys := x2 } :=
  ⟨fun p hp => by (cases p <;> first | rfl | cases hp), id⟩

theorem Same.set_pool_scrub (s : State) (x1 : List Nat) :
    Same 1099511627776 s { s with pool := { s.pool with scrub := x1 } } :=
  ⟨fun p hp => by (cases p <;> first | rfl | cases hp), id⟩

theorem Same.set_pool_ready (s : State) (x1 : Option Change) :
    Same 4294967296 s { s with pool := { s.pool with ready := x1 } } :=
  ⟨fun p hp => by (cases p <;> first | rfl | cases hp), id⟩

theorem Same.set_pool_undrained_affected (s : State) (x1 : List Nat) (x2 : List (Nat × Nat × Nat)) :
    Same 805306368 s { s with pool := { s.pool with undrained := x1, affected := x2 } } :=
  ⟨fun p hp => by (cases p <;> first | rfl | cases hp), id⟩

theorem Same.set_now (s : State) (x1 : Nat) :
    Same 1 s { s with now := x1 } :=
  ⟨fun p hp => by (cases p <;> first | rfl | cases hp), id⟩

theorem Same.set_trs_settle (s : State) (x1 : TrsSt) (x2 : SettleSt) :
    Same 8421376 s { s with trs := x1, settle := x2 } :=
  ⟨fun p hp => by (cases p <;> first | rfl | cases hp), id⟩

theorem Same.set_pool_gen_undrained_affected (s : State) (x1 : Nat) (x2 : List Nat) (x3 : List (Nat × Nat × Nat)) :
    Same 939524096 s { s with pool := { s.pool with gen := x1, undrained := x2, affected := x3 } } :=
  ⟨fun p hp => by (cases p <;> first | rfl | cases hp), id⟩

theorem Same.set_pool_extents_history_ready (s : State) (x1 : List Extent) (x2 : List KeyEvent) (x3 : Option Change) :
    Same 5435817984 s { s with pool := { s.pool with extents := x1, history := x2, ready := x3 } } :=
  ⟨fun p hp => by (cases p <;> first | rfl | cases hp), id⟩

theorem Same.set_pool_backs_lastAgeTick (s : State) (x1 : Tbl Back) (x2 : Nat) :
    Same 70403103916032 s { s with pool := { s.pool with backs := x1, lastAgeTick := x2 } } :=
  ⟨fun p hp => by (cases p <;> first | rfl | cases hp), id⟩

theorem Same.set_pool_backs_scrub (s : State) (x1 : Tbl Back) (x2 : List Nat) :
    Same 1133871366144 s { s with pool := { s.pool with backs := x1, scrub := x2 } } :=
  ⟨fun p hp => by (cases p <;> first | rfl | cases hp), id⟩

theorem Same.set_regs_mgmt_pwr (s : State) (x1 : Tbl Word) (x2 : MgmtSt) (x3 : PwrSt) :
    Same 16777284 s { s with regs := x1, mgmt := x2, pwr := x3 } :=
  ⟨fun p hp => by (cases p <;> first | rfl | cases hp), id⟩

theorem Same.set_sys_pwr (s : State) (x1 : SysSt) (x2 : PwrSt) :
    Same 20971520 s { s with sys := x1, pwr := x2 } :=
  ⟨fun p hp => by (cases p <;> first | rfl | cases hp), id⟩

theorem Same.set_now_sys (s : State) (x1 : Nat) (x2 : SysSt) :
    Same 4194305 s { s with now := x1, sys := x2 } :=
  ⟨fun p hp => by (cases p <;> first | rfl | cases hp), id⟩

theorem Same.set_coh_cmp_bau_trs_train_route_sys_pool_flights_quotaOps_xlate_extCache_xlateWait (s : State) (x1 : CohSt) (x2 : CmpSt) (x3 : BauSt) (x4 : TrsSt) (x5 : TrainSt) (x6 : RouteSt) (x7 : SysSt) (x8 : List Flight) (x9 : List QuotaOp) (x10 : Tbl (List Nat)) (x11 : Tbl (List Nat)) (x12 : List Req) :
    Same 68169725366400 s { s with pool := { s.pool with flights := x8, quotaOps := x9, xlate := x10, extCache := x11, xlateWait := x12 }, coh := x1, cmp := x2, bau := x3, trs := x4, train := x5, route := x6, sys := x7 } :=
  ⟨fun p hp => by (cases p <;> first | rfl | cases hp), id⟩

theorem Same.set_pool_tenants (s : State) (x1 : Tbl Tenant) :
    Same 33554432 s { s with pool := { s.pool with tenants := x1 } } :=
  ⟨fun p hp => by (cases p <;> first | rfl | cases hp), id⟩

theorem Same.set_pool_xlate_extCache_xlateWait (s : State) (x1 : Tbl (List Nat)) (x2 : Tbl (List Nat)) (x3 : List Req) :
    Same 61572651155456 s { s with pool := { s.pool with xlate := x1, extCache := x2, xlateWait := x3 } } :=
  ⟨fun p hp => by (cases p <;> first | rfl | cases hp), id⟩

end Sys2Proof.Machine
end

