-- ==== Sys2Proof/Laws/State.lean ====
section
/-! SUPPORT. One lemma per group of fields per named update: what each update of the state leaves alone, and what a read finds after it. -/

namespace Sys2Proof.Machine

@[simp] theorem emit_now (s : State) (e : Emit) : (emit s e).now = s.now := rfl
@[simp] theorem emit_draws (s : State) (e : Emit) : (emit s e).draws = s.draws := rfl
@[simp] theorem emit_regs (s : State) (e : Emit) : (emit s e).regs = s.regs := rfl
@[simp] theorem emit_pending (s : State) (e : Emit) : (emit s e).pending = s.pending := rfl
@[simp] theorem emit_rings (s : State) (e : Emit) : (emit s e).rings = s.rings := rfl
@[simp] theorem emit_pool (s : State) (e : Emit) : (emit s e).pool = s.pool := rfl
@[simp] theorem emit_mgmt (s : State) (e : Emit) : (emit s e).mgmt = s.mgmt := rfl
@[simp] theorem emit_coh (s : State) (e : Emit) : (emit s e).coh = s.coh := rfl
@[simp] theorem emit_ord (s : State) (e : Emit) : (emit s e).ord = s.ord := rfl
@[simp] theorem emit_atm (s : State) (e : Emit) : (emit s e).atm = s.atm := rfl
@[simp] theorem emit_obj (s : State) (e : Emit) : (emit s e).obj = s.obj := rfl
@[simp] theorem emit_tier (s : State) (e : Emit) : (emit s e).tier = s.tier := rfl
@[simp] theorem emit_cmp (s : State) (e : Emit) : (emit s e).cmp = s.cmp := rfl
@[simp] theorem emit_stk (s : State) (e : Emit) : (emit s e).stk = s.stk := rfl
@[simp] theorem emit_bau (s : State) (e : Emit) : (emit s e).bau = s.bau := rfl
@[simp] theorem emit_trs (s : State) (e : Emit) : (emit s e).trs = s.trs := rfl
@[simp] theorem emit_train (s : State) (e : Emit) : (emit s e).train = s.train := rfl
@[simp] theorem emit_route (s : State) (e : Emit) : (emit s e).route = s.route := rfl
@[simp] theorem emit_core (s : State) (e : Emit) : (emit s e).core = s.core := rfl
@[simp] theorem emit_cong (s : State) (e : Emit) : (emit s e).cong = s.cong := rfl
@[simp] theorem emit_link (s : State) (e : Emit) : (emit s e).link = s.link := rfl
@[simp] theorem emit_ras (s : State) (e : Emit) : (emit s e).ras = s.ras := rfl
@[simp] theorem emit_sys (s : State) (e : Emit) : (emit s e).sys = s.sys := rfl
@[simp] theorem emit_settle (s : State) (e : Emit) : (emit s e).settle = s.settle := rfl
@[simp] theorem emit_pwr (s : State) (e : Emit) : (emit s e).pwr = s.pwr := rfl

@[simp] theorem regSet_now (s : State) (a : Nat) (v : Word) : (regSet s a v).now = s.now := rfl
@[simp] theorem regSet_draws (s : State) (a : Nat) (v : Word) : (regSet s a v).draws = s.draws := rfl
@[simp] theorem regSet_out (s : State) (a : Nat) (v : Word) : (regSet s a v).out = s.out := rfl
@[simp] theorem regSet_pending (s : State) (a : Nat) (v : Word) : (regSet s a v).pending = s.pending := rfl
@[simp] theorem regSet_rings (s : State) (a : Nat) (v : Word) : (regSet s a v).rings = s.rings := rfl
@[simp] theorem regSet_pool (s : State) (a : Nat) (v : Word) : (regSet s a v).pool = s.pool := rfl
@[simp] theorem regSet_mgmt (s : State) (a : Nat) (v : Word) : (regSet s a v).mgmt = s.mgmt := rfl
@[simp] theorem regSet_coh (s : State) (a : Nat) (v : Word) : (regSet s a v).coh = s.coh := rfl
@[simp] theorem regSet_ord (s : State) (a : Nat) (v : Word) : (regSet s a v).ord = s.ord := rfl
@[simp] theorem regSet_atm (s : State) (a : Nat) (v : Word) : (regSet s a v).atm = s.atm := rfl
@[simp] theorem regSet_obj (s : State) (a : Nat) (v : Word) : (regSet s a v).obj = s.obj := rfl
@[simp] theorem regSet_tier (s : State) (a : Nat) (v : Word) : (regSet s a v).tier = s.tier := rfl
@[simp] theorem regSet_cmp (s : State) (a : Nat) (v : Word) : (regSet s a v).cmp = s.cmp := rfl
@[simp] theorem regSet_stk (s : State) (a : Nat) (v : Word) : (regSet s a v).stk = s.stk := rfl
@[simp] theorem regSet_bau (s : State) (a : Nat) (v : Word) : (regSet s a v).bau = s.bau := rfl
@[simp] theorem regSet_trs (s : State) (a : Nat) (v : Word) : (regSet s a v).trs = s.trs := rfl
@[simp] theorem regSet_train (s : State) (a : Nat) (v : Word) : (regSet s a v).train = s.train := rfl
@[simp] theorem regSet_route (s : State) (a : Nat) (v : Word) : (regSet s a v).route = s.route := rfl
@[simp] theorem regSet_core (s : State) (a : Nat) (v : Word) : (regSet s a v).core = s.core := rfl
@[simp] theorem regSet_cong (s : State) (a : Nat) (v : Word) : (regSet s a v).cong = s.cong := rfl
@[simp] theorem regSet_link (s : State) (a : Nat) (v : Word) : (regSet s a v).link = s.link := rfl
@[simp] theorem regSet_ras (s : State) (a : Nat) (v : Word) : (regSet s a v).ras = s.ras := rfl
@[simp] theorem regSet_sys (s : State) (a : Nat) (v : Word) : (regSet s a v).sys = s.sys := rfl
@[simp] theorem regSet_settle (s : State) (a : Nat) (v : Word) : (regSet s a v).settle = s.settle := rfl
@[simp] theorem regSet_pwr (s : State) (a : Nat) (v : Word) : (regSet s a v).pwr = s.pwr := rfl

@[simp] theorem setFld_now (s : State) (a lo len v : Nat) : (setFld s a lo len v).now = s.now := rfl
@[simp] theorem setFld_draws (s : State) (a lo len v : Nat) : (setFld s a lo len v).draws = s.draws := rfl
@[simp] theorem setFld_out (s : State) (a lo len v : Nat) : (setFld s a lo len v).out = s.out := rfl
@[simp] theorem setFld_pending (s : State) (a lo len v : Nat) : (setFld s a lo len v).pending = s.pending := rfl
@[simp] theorem setFld_rings (s : State) (a lo len v : Nat) : (setFld s a lo len v).rings = s.rings := rfl
@[simp] theorem setFld_pool (s : State) (a lo len v : Nat) : (setFld s a lo len v).pool = s.pool := rfl
@[simp] theorem setFld_mgmt (s : State) (a lo len v : Nat) : (setFld s a lo len v).mgmt = s.mgmt := rfl
@[simp] theorem setFld_coh (s : State) (a lo len v : Nat) : (setFld s a lo len v).coh = s.coh := rfl
@[simp] theorem setFld_ord (s : State) (a lo len v : Nat) : (setFld s a lo len v).ord = s.ord := rfl
@[simp] theorem setFld_atm (s : State) (a lo len v : Nat) : (setFld s a lo len v).atm = s.atm := rfl
@[simp] theorem setFld_obj (s : State) (a lo len v : Nat) : (setFld s a lo len v).obj = s.obj := rfl
@[simp] theorem setFld_tier (s : State) (a lo len v : Nat) : (setFld s a lo len v).tier = s.tier := rfl
@[simp] theorem setFld_cmp (s : State) (a lo len v : Nat) : (setFld s a lo len v).cmp = s.cmp := rfl
@[simp] theorem setFld_stk (s : State) (a lo len v : Nat) : (setFld s a lo len v).stk = s.stk := rfl
@[simp] theorem setFld_bau (s : State) (a lo len v : Nat) : (setFld s a lo len v).bau = s.bau := rfl
@[simp] theorem setFld_trs (s : State) (a lo len v : Nat) : (setFld s a lo len v).trs = s.trs := rfl
@[simp] theorem setFld_train (s : State) (a lo len v : Nat) : (setFld s a lo len v).train = s.train := rfl
@[simp] theorem setFld_route (s : State) (a lo len v : Nat) : (setFld s a lo len v).route = s.route := rfl
@[simp] theorem setFld_core (s : State) (a lo len v : Nat) : (setFld s a lo len v).core = s.core := rfl
@[simp] theorem setFld_cong (s : State) (a lo len v : Nat) : (setFld s a lo len v).cong = s.cong := rfl
@[simp] theorem setFld_link (s : State) (a lo len v : Nat) : (setFld s a lo len v).link = s.link := rfl
@[simp] theorem setFld_ras (s : State) (a lo len v : Nat) : (setFld s a lo len v).ras = s.ras := rfl
@[simp] theorem setFld_sys (s : State) (a lo len v : Nat) : (setFld s a lo len v).sys = s.sys := rfl
@[simp] theorem setFld_settle (s : State) (a lo len v : Nat) : (setFld s a lo len v).settle = s.settle := rfl
@[simp] theorem setFld_pwr (s : State) (a lo len v : Nat) : (setFld s a lo len v).pwr = s.pwr := rfl

@[simp] theorem setBit_now (s : State) (a b : Nat) : (setBit s a b).now = s.now := rfl
@[simp] theorem setBit_draws (s : State) (a b : Nat) : (setBit s a b).draws = s.draws := rfl
@[simp] theorem setBit_out (s : State) (a b : Nat) : (setBit s a b).out = s.out := rfl
@[simp] theorem setBit_pending (s : State) (a b : Nat) : (setBit s a b).pending = s.pending := rfl
@[simp] theorem setBit_rings (s : State) (a b : Nat) : (setBit s a b).rings = s.rings := rfl
@[simp] theorem setBit_pool (s : State) (a b : Nat) : (setBit s a b).pool = s.pool := rfl
@[simp] theorem setBit_mgmt (s : State) (a b : Nat) : (setBit s a b).mgmt = s.mgmt := rfl
@[simp] theorem setBit_coh (s : State) (a b : Nat) : (setBit s a b).coh = s.coh := rfl
@[simp] theorem setBit_ord (s : State) (a b : Nat) : (setBit s a b).ord = s.ord := rfl
@[simp] theorem setBit_atm (s : State) (a b : Nat) : (setBit s a b).atm = s.atm := rfl
@[simp] theorem setBit_obj (s : State) (a b : Nat) : (setBit s a b).obj = s.obj := rfl
@[simp] theorem setBit_tier (s : State) (a b : Nat) : (setBit s a b).tier = s.tier := rfl
@[simp] theorem setBit_cmp (s : State) (a b : Nat) : (setBit s a b).cmp = s.cmp := rfl
@[simp] theorem setBit_stk (s : State) (a b : Nat) : (setBit s a b).stk = s.stk := rfl
@[simp] theorem setBit_bau (s : State) (a b : Nat) : (setBit s a b).bau = s.bau := rfl
@[simp] theorem setBit_trs (s : State) (a b : Nat) : (setBit s a b).trs = s.trs := rfl
@[simp] theorem setBit_train (s : State) (a b : Nat) : (setBit s a b).train = s.train := rfl
@[simp] theorem setBit_route (s : State) (a b : Nat) : (setBit s a b).route = s.route := rfl
@[simp] theorem setBit_core (s : State) (a b : Nat) : (setBit s a b).core = s.core := rfl
@[simp] theorem setBit_cong (s : State) (a b : Nat) : (setBit s a b).cong = s.cong := rfl
@[simp] theorem setBit_link (s : State) (a b : Nat) : (setBit s a b).link = s.link := rfl
@[simp] theorem setBit_ras (s : State) (a b : Nat) : (setBit s a b).ras = s.ras := rfl
@[simp] theorem setBit_sys (s : State) (a b : Nat) : (setBit s a b).sys = s.sys := rfl
@[simp] theorem setBit_settle (s : State) (a b : Nat) : (setBit s a b).settle = s.settle := rfl
@[simp] theorem setBit_pwr (s : State) (a b : Nat) : (setBit s a b).pwr = s.pwr := rfl

@[simp] theorem bumpBy_now (s : State) (a n : Nat) : (bumpBy s a n).now = s.now := rfl
@[simp] theorem bumpBy_draws (s : State) (a n : Nat) : (bumpBy s a n).draws = s.draws := rfl
@[simp] theorem bumpBy_out (s : State) (a n : Nat) : (bumpBy s a n).out = s.out := rfl
@[simp] theorem bumpBy_pending (s : State) (a n : Nat) : (bumpBy s a n).pending = s.pending := rfl
@[simp] theorem bumpBy_rings (s : State) (a n : Nat) : (bumpBy s a n).rings = s.rings := rfl
@[simp] theorem bumpBy_pool (s : State) (a n : Nat) : (bumpBy s a n).pool = s.pool := rfl
@[simp] theorem bumpBy_mgmt (s : State) (a n : Nat) : (bumpBy s a n).mgmt = s.mgmt := rfl
@[simp] theorem bumpBy_coh (s : State) (a n : Nat) : (bumpBy s a n).coh = s.coh := rfl
@[simp] theorem bumpBy_ord (s : State) (a n : Nat) : (bumpBy s a n).ord = s.ord := rfl
@[simp] theorem bumpBy_atm (s : State) (a n : Nat) : (bumpBy s a n).atm = s.atm := rfl
@[simp] theorem bumpBy_obj (s : State) (a n : Nat) : (bumpBy s a n).obj = s.obj := rfl
@[simp] theorem bumpBy_tier (s : State) (a n : Nat) : (bumpBy s a n).tier = s.tier := rfl
@[simp] theorem bumpBy_cmp (s : State) (a n : Nat) : (bumpBy s a n).cmp = s.cmp := rfl
@[simp] theorem bumpBy_stk (s : State) (a n : Nat) : (bumpBy s a n).stk = s.stk := rfl
@[simp] theorem bumpBy_bau (s : State) (a n : Nat) : (bumpBy s a n).bau = s.bau := rfl
@[simp] theorem bumpBy_trs (s : State) (a n : Nat) : (bumpBy s a n).trs = s.trs := rfl
@[simp] theorem bumpBy_train (s : State) (a n : Nat) : (bumpBy s a n).train = s.train := rfl
@[simp] theorem bumpBy_route (s : State) (a n : Nat) : (bumpBy s a n).route = s.route := rfl
@[simp] theorem bumpBy_core (s : State) (a n : Nat) : (bumpBy s a n).core = s.core := rfl
@[simp] theorem bumpBy_cong (s : State) (a n : Nat) : (bumpBy s a n).cong = s.cong := rfl
@[simp] theorem bumpBy_link (s : State) (a n : Nat) : (bumpBy s a n).link = s.link := rfl
@[simp] theorem bumpBy_ras (s : State) (a n : Nat) : (bumpBy s a n).ras = s.ras := rfl
@[simp] theorem bumpBy_sys (s : State) (a n : Nat) : (bumpBy s a n).sys = s.sys := rfl
@[simp] theorem bumpBy_settle (s : State) (a n : Nat) : (bumpBy s a n).settle = s.settle := rfl
@[simp] theorem bumpBy_pwr (s : State) (a n : Nat) : (bumpBy s a n).pwr = s.pwr := rfl

@[simp] theorem bump_now (s : State) (a : Nat) : (bump s a).now = s.now := rfl
@[simp] theorem bump_draws (s : State) (a : Nat) : (bump s a).draws = s.draws := rfl
@[simp] theorem bump_out (s : State) (a : Nat) : (bump s a).out = s.out := rfl
@[simp] theorem bump_pending (s : State) (a : Nat) : (bump s a).pending = s.pending := rfl
@[simp] theorem bump_rings (s : State) (a : Nat) : (bump s a).rings = s.rings := rfl
@[simp] theorem bump_pool (s : State) (a : Nat) : (bump s a).pool = s.pool := rfl
@[simp] theorem bump_mgmt (s : State) (a : Nat) : (bump s a).mgmt = s.mgmt := rfl
@[simp] theorem bump_coh (s : State) (a : Nat) : (bump s a).coh = s.coh := rfl
@[simp] theorem bump_ord (s : State) (a : Nat) : (bump s a).ord = s.ord := rfl
@[simp] theorem bump_atm (s : State) (a : Nat) : (bump s a).atm = s.atm := rfl
@[simp] theorem bump_obj (s : State) (a : Nat) : (bump s a).obj = s.obj := rfl
@[simp] theorem bump_tier (s : State) (a : Nat) : (bump s a).tier = s.tier := rfl
@[simp] theorem bump_cmp (s : State) (a : Nat) : (bump s a).cmp = s.cmp := rfl
@[simp] theorem bump_stk (s : State) (a : Nat) : (bump s a).stk = s.stk := rfl
@[simp] theorem bump_bau (s : State) (a : Nat) : (bump s a).bau = s.bau := rfl
@[simp] theorem bump_trs (s : State) (a : Nat) : (bump s a).trs = s.trs := rfl
@[simp] theorem bump_train (s : State) (a : Nat) : (bump s a).train = s.train := rfl
@[simp] theorem bump_route (s : State) (a : Nat) : (bump s a).route = s.route := rfl
@[simp] theorem bump_core (s : State) (a : Nat) : (bump s a).core = s.core := rfl
@[simp] theorem bump_cong (s : State) (a : Nat) : (bump s a).cong = s.cong := rfl
@[simp] theorem bump_link (s : State) (a : Nat) : (bump s a).link = s.link := rfl
@[simp] theorem bump_ras (s : State) (a : Nat) : (bump s a).ras = s.ras := rfl
@[simp] theorem bump_sys (s : State) (a : Nat) : (bump s a).sys = s.sys := rfl
@[simp] theorem bump_settle (s : State) (a : Nat) : (bump s a).settle = s.settle := rfl
@[simp] theorem bump_pwr (s : State) (a : Nat) : (bump s a).pwr = s.pwr := rfl

@[simp] theorem setRing_now (s : State) (n : Nat) (r : Ring) : (setRing s n r).now = s.now := rfl
@[simp] theorem setRing_draws (s : State) (n : Nat) (r : Ring) : (setRing s n r).draws = s.draws := rfl
@[simp] theorem setRing_regs (s : State) (n : Nat) (r : Ring) : (setRing s n r).regs = s.regs := rfl
@[simp] theorem setRing_out (s : State) (n : Nat) (r : Ring) : (setRing s n r).out = s.out := rfl
@[simp] theorem setRing_pending (s : State) (n : Nat) (r : Ring) : (setRing s n r).pending = s.pending := rfl
@[simp] theorem setRing_pool (s : State) (n : Nat) (r : Ring) : (setRing s n r).pool = s.pool := rfl
@[simp] theorem setRing_mgmt (s : State) (n : Nat) (r : Ring) : (setRing s n r).mgmt = s.mgmt := rfl
@[simp] theorem setRing_coh (s : State) (n : Nat) (r : Ring) : (setRing s n r).coh = s.coh := rfl
@[simp] theorem setRing_ord (s : State) (n : Nat) (r : Ring) : (setRing s n r).ord = s.ord := rfl
@[simp] theorem setRing_atm (s : State) (n : Nat) (r : Ring) : (setRing s n r).atm = s.atm := rfl
@[simp] theorem setRing_obj (s : State) (n : Nat) (r : Ring) : (setRing s n r).obj = s.obj := rfl
@[simp] theorem setRing_tier (s : State) (n : Nat) (r : Ring) : (setRing s n r).tier = s.tier := rfl
@[simp] theorem setRing_cmp (s : State) (n : Nat) (r : Ring) : (setRing s n r).cmp = s.cmp := rfl
@[simp] theorem setRing_stk (s : State) (n : Nat) (r : Ring) : (setRing s n r).stk = s.stk := rfl
@[simp] theorem setRing_bau (s : State) (n : Nat) (r : Ring) : (setRing s n r).bau = s.bau := rfl
@[simp] theorem setRing_trs (s : State) (n : Nat) (r : Ring) : (setRing s n r).trs = s.trs := rfl
@[simp] theorem setRing_train (s : State) (n : Nat) (r : Ring) : (setRing s n r).train = s.train := rfl
@[simp] theorem setRing_route (s : State) (n : Nat) (r : Ring) : (setRing s n r).route = s.route := rfl
@[simp] theorem setRing_core (s : State) (n : Nat) (r : Ring) : (setRing s n r).core = s.core := rfl
@[simp] theorem setRing_cong (s : State) (n : Nat) (r : Ring) : (setRing s n r).cong = s.cong := rfl
@[simp] theorem setRing_link (s : State) (n : Nat) (r : Ring) : (setRing s n r).link = s.link := rfl
@[simp] theorem setRing_ras (s : State) (n : Nat) (r : Ring) : (setRing s n r).ras = s.ras := rfl
@[simp] theorem setRing_sys (s : State) (n : Nat) (r : Ring) : (setRing s n r).sys = s.sys := rfl
@[simp] theorem setRing_settle (s : State) (n : Nat) (r : Ring) : (setRing s n r).settle = s.settle := rfl
@[simp] theorem setRing_pwr (s : State) (n : Nat) (r : Ring) : (setRing s n r).pwr = s.pwr := rfl

@[simp] theorem setHandle_now (s : State) (h : Nat) (r : HandleRec) : (setHandle s h r).now = s.now := rfl
@[simp] theorem setHandle_draws (s : State) (h : Nat) (r : HandleRec) : (setHandle s h r).draws = s.draws := rfl
@[simp] theorem setHandle_regs (s : State) (h : Nat) (r : HandleRec) : (setHandle s h r).regs = s.regs := rfl
@[simp] theorem setHandle_out (s : State) (h : Nat) (r : HandleRec) : (setHandle s h r).out = s.out := rfl
@[simp] theorem setHandle_pending (s : State) (h : Nat) (r : HandleRec) : (setHandle s h r).pending = s.pending := rfl
@[simp] theorem setHandle_pool (s : State) (h : Nat) (r : HandleRec) : (setHandle s h r).pool = s.pool := rfl
@[simp] theorem setHandle_mgmt (s : State) (h : Nat) (r : HandleRec) : (setHandle s h r).mgmt = s.mgmt := rfl
@[simp] theorem setHandle_coh (s : State) (h : Nat) (r : HandleRec) : (setHandle s h r).coh = s.coh := rfl
@[simp] theorem setHandle_ord (s : State) (h : Nat) (r : HandleRec) : (setHandle s h r).ord = s.ord := rfl
@[simp] theorem setHandle_atm (s : State) (h : Nat) (r : HandleRec) : (setHandle s h r).atm = s.atm := rfl
@[simp] theorem setHandle_obj (s : State) (h : Nat) (r : HandleRec) : (setHandle s h r).obj = s.obj := rfl
@[simp] theorem setHandle_tier (s : State) (h : Nat) (r : HandleRec) : (setHandle s h r).tier = s.tier := rfl
@[simp] theorem setHandle_cmp (s : State) (h : Nat) (r : HandleRec) : (setHandle s h r).cmp = s.cmp := rfl
@[simp] theorem setHandle_stk (s : State) (h : Nat) (r : HandleRec) : (setHandle s h r).stk = s.stk := rfl
@[simp] theorem setHandle_bau (s : State) (h : Nat) (r : HandleRec) : (setHandle s h r).bau = s.bau := rfl
@[simp] theorem setHandle_trs (s : State) (h : Nat) (r : HandleRec) : (setHandle s h r).trs = s.trs := rfl
@[simp] theorem setHandle_train (s : State) (h : Nat) (r : HandleRec) : (setHandle s h r).train = s.train := rfl
@[simp] theorem setHandle_route (s : State) (h : Nat) (r : HandleRec) : (setHandle s h r).route = s.route := rfl
@[simp] theorem setHandle_core (s : State) (h : Nat) (r : HandleRec) : (setHandle s h r).core = s.core := rfl
@[simp] theorem setHandle_cong (s : State) (h : Nat) (r : HandleRec) : (setHandle s h r).cong = s.cong := rfl
@[simp] theorem setHandle_link (s : State) (h : Nat) (r : HandleRec) : (setHandle s h r).link = s.link := rfl
@[simp] theorem setHandle_ras (s : State) (h : Nat) (r : HandleRec) : (setHandle s h r).ras = s.ras := rfl
@[simp] theorem setHandle_sys (s : State) (h : Nat) (r : HandleRec) : (setHandle s h r).sys = s.sys := rfl
@[simp] theorem setHandle_settle (s : State) (h : Nat) (r : HandleRec) : (setHandle s h r).settle = s.settle := rfl
@[simp] theorem setHandle_pwr (s : State) (h : Nat) (r : HandleRec) : (setHandle s h r).pwr = s.pwr := rfl

@[simp] theorem dropHandle_now (s : State) (h : Nat) : (dropHandle s h).now = s.now := rfl
@[simp] theorem dropHandle_draws (s : State) (h : Nat) : (dropHandle s h).draws = s.draws := rfl
@[simp] theorem dropHandle_regs (s : State) (h : Nat) : (dropHandle s h).regs = s.regs := rfl
@[simp] theorem dropHandle_out (s : State) (h : Nat) : (dropHandle s h).out = s.out := rfl
@[simp] theorem dropHandle_pending (s : State) (h : Nat) : (dropHandle s h).pending = s.pending := rfl
@[simp] theorem dropHandle_pool (s : State) (h : Nat) : (dropHandle s h).pool = s.pool := rfl
@[simp] theorem dropHandle_mgmt (s : State) (h : Nat) : (dropHandle s h).mgmt = s.mgmt := rfl
@[simp] theorem dropHandle_coh (s : State) (h : Nat) : (dropHandle s h).coh = s.coh := rfl
@[simp] theorem dropHandle_ord (s : State) (h : Nat) : (dropHandle s h).ord = s.ord := rfl
@[simp] theorem dropHandle_atm (s : State) (h : Nat) : (dropHandle s h).atm = s.atm := rfl
@[simp] theorem dropHandle_obj (s : State) (h : Nat) : (dropHandle s h).obj = s.obj := rfl
@[simp] theorem dropHandle_tier (s : State) (h : Nat) : (dropHandle s h).tier = s.tier := rfl
@[simp] theorem dropHandle_cmp (s : State) (h : Nat) : (dropHandle s h).cmp = s.cmp := rfl
@[simp] theorem dropHandle_stk (s : State) (h : Nat) : (dropHandle s h).stk = s.stk := rfl
@[simp] theorem dropHandle_bau (s : State) (h : Nat) : (dropHandle s h).bau = s.bau := rfl
@[simp] theorem dropHandle_trs (s : State) (h : Nat) : (dropHandle s h).trs = s.trs := rfl
@[simp] theorem dropHandle_train (s : State) (h : Nat) : (dropHandle s h).train = s.train := rfl
@[simp] theorem dropHandle_route (s : State) (h : Nat) : (dropHandle s h).route = s.route := rfl
@[simp] theorem dropHandle_core (s : State) (h : Nat) : (dropHandle s h).core = s.core := rfl
@[simp] theorem dropHandle_cong (s : State) (h : Nat) : (dropHandle s h).cong = s.cong := rfl
@[simp] theorem dropHandle_link (s : State) (h : Nat) : (dropHandle s h).link = s.link := rfl
@[simp] theorem dropHandle_ras (s : State) (h : Nat) : (dropHandle s h).ras = s.ras := rfl
@[simp] theorem dropHandle_sys (s : State) (h : Nat) : (dropHandle s h).sys = s.sys := rfl
@[simp] theorem dropHandle_settle (s : State) (h : Nat) : (dropHandle s h).settle = s.settle := rfl
@[simp] theorem dropHandle_pwr (s : State) (h : Nat) : (dropHandle s h).pwr = s.pwr := rfl

@[simp] theorem setProgress_now (s : State) (h n : Nat) : (setProgress s h n).now = s.now := rfl
@[simp] theorem setProgress_draws (s : State) (h n : Nat) : (setProgress s h n).draws = s.draws := rfl
@[simp] theorem setProgress_regs (s : State) (h n : Nat) : (setProgress s h n).regs = s.regs := rfl
@[simp] theorem setProgress_out (s : State) (h n : Nat) : (setProgress s h n).out = s.out := rfl
@[simp] theorem setProgress_pending (s : State) (h n : Nat) : (setProgress s h n).pending = s.pending := rfl
@[simp] theorem setProgress_pool (s : State) (h n : Nat) : (setProgress s h n).pool = s.pool := rfl
@[simp] theorem setProgress_mgmt (s : State) (h n : Nat) : (setProgress s h n).mgmt = s.mgmt := rfl
@[simp] theorem setProgress_coh (s : State) (h n : Nat) : (setProgress s h n).coh = s.coh := rfl
@[simp] theorem setProgress_ord (s : State) (h n : Nat) : (setProgress s h n).ord = s.ord := rfl
@[simp] theorem setProgress_atm (s : State) (h n : Nat) : (setProgress s h n).atm = s.atm := rfl
@[simp] theorem setProgress_obj (s : State) (h n : Nat) : (setProgress s h n).obj = s.obj := rfl
@[simp] theorem setProgress_tier (s : State) (h n : Nat) : (setProgress s h n).tier = s.tier := rfl
@[simp] theorem setProgress_cmp (s : State) (h n : Nat) : (setProgress s h n).cmp = s.cmp := rfl
@[simp] theorem setProgress_stk (s : State) (h n : Nat) : (setProgress s h n).stk = s.stk := rfl
@[simp] theorem setProgress_bau (s : State) (h n : Nat) : (setProgress s h n).bau = s.bau := rfl
@[simp] theorem setProgress_trs (s : State) (h n : Nat) : (setProgress s h n).trs = s.trs := rfl
@[simp] theorem setProgress_train (s : State) (h n : Nat) : (setProgress s h n).train = s.train := rfl
@[simp] theorem setProgress_route (s : State) (h n : Nat) : (setProgress s h n).route = s.route := rfl
@[simp] theorem setProgress_core (s : State) (h n : Nat) : (setProgress s h n).core = s.core := rfl
@[simp] theorem setProgress_cong (s : State) (h n : Nat) : (setProgress s h n).cong = s.cong := rfl
@[simp] theorem setProgress_link (s : State) (h n : Nat) : (setProgress s h n).link = s.link := rfl
@[simp] theorem setProgress_ras (s : State) (h n : Nat) : (setProgress s h n).ras = s.ras := rfl
@[simp] theorem setProgress_sys (s : State) (h n : Nat) : (setProgress s h n).sys = s.sys := rfl
@[simp] theorem setProgress_settle (s : State) (h n : Nat) : (setProgress s h n).settle = s.settle := rfl
@[simp] theorem setProgress_pwr (s : State) (h n : Nat) : (setProgress s h n).pwr = s.pwr := rfl

@[simp] theorem engineDone_now (s : State) (h : Nat) (st : Status) (r0 r1 : Word) : (engineDone s h st r0 r1).now = s.now := rfl
@[simp] theorem engineDone_draws (s : State) (h : Nat) (st : Status) (r0 r1 : Word) : (engineDone s h st r0 r1).draws = s.draws := rfl
@[simp] theorem engineDone_regs (s : State) (h : Nat) (st : Status) (r0 r1 : Word) : (engineDone s h st r0 r1).regs = s.regs := rfl
@[simp] theorem engineDone_out (s : State) (h : Nat) (st : Status) (r0 r1 : Word) : (engineDone s h st r0 r1).out = s.out := rfl
@[simp] theorem engineDone_pending (s : State) (h : Nat) (st : Status) (r0 r1 : Word) : (engineDone s h st r0 r1).pending = s.pending := rfl
@[simp] theorem engineDone_pool (s : State) (h : Nat) (st : Status) (r0 r1 : Word) : (engineDone s h st r0 r1).pool = s.pool := rfl
@[simp] theorem engineDone_mgmt (s : State) (h : Nat) (st : Status) (r0 r1 : Word) : (engineDone s h st r0 r1).mgmt = s.mgmt := rfl
@[simp] theorem engineDone_coh (s : State) (h : Nat) (st : Status) (r0 r1 : Word) : (engineDone s h st r0 r1).coh = s.coh := rfl
@[simp] theorem engineDone_ord (s : State) (h : Nat) (st : Status) (r0 r1 : Word) : (engineDone s h st r0 r1).ord = s.ord := rfl
@[simp] theorem engineDone_atm (s : State) (h : Nat) (st : Status) (r0 r1 : Word) : (engineDone s h st r0 r1).atm = s.atm := rfl
@[simp] theorem engineDone_obj (s : State) (h : Nat) (st : Status) (r0 r1 : Word) : (engineDone s h st r0 r1).obj = s.obj := rfl
@[simp] theorem engineDone_tier (s : State) (h : Nat) (st : Status) (r0 r1 : Word) : (engineDone s h st r0 r1).tier = s.tier := rfl
@[simp] theorem engineDone_cmp (s : State) (h : Nat) (st : Status) (r0 r1 : Word) : (engineDone s h st r0 r1).cmp = s.cmp := rfl
@[simp] theorem engineDone_stk (s : State) (h : Nat) (st : Status) (r0 r1 : Word) : (engineDone s h st r0 r1).stk = s.stk := rfl
@[simp] theorem engineDone_bau (s : State) (h : Nat) (st : Status) (r0 r1 : Word) : (engineDone s h st r0 r1).bau = s.bau := rfl
@[simp] theorem engineDone_trs (s : State) (h : Nat) (st : Status) (r0 r1 : Word) : (engineDone s h st r0 r1).trs = s.trs := rfl
@[simp] theorem engineDone_train (s : State) (h : Nat) (st : Status) (r0 r1 : Word) : (engineDone s h st r0 r1).train = s.train := rfl
@[simp] theorem engineDone_route (s : State) (h : Nat) (st : Status) (r0 r1 : Word) : (engineDone s h st r0 r1).route = s.route := rfl
@[simp] theorem engineDone_core (s : State) (h : Nat) (st : Status) (r0 r1 : Word) : (engineDone s h st r0 r1).core = s.core := rfl
@[simp] theorem engineDone_cong (s : State) (h : Nat) (st : Status) (r0 r1 : Word) : (engineDone s h st r0 r1).cong = s.cong := rfl
@[simp] theorem engineDone_link (s : State) (h : Nat) (st : Status) (r0 r1 : Word) : (engineDone s h st r0 r1).link = s.link := rfl
@[simp] theorem engineDone_ras (s : State) (h : Nat) (st : Status) (r0 r1 : Word) : (engineDone s h st r0 r1).ras = s.ras := rfl
@[simp] theorem engineDone_sys (s : State) (h : Nat) (st : Status) (r0 r1 : Word) : (engineDone s h st r0 r1).sys = s.sys := rfl
@[simp] theorem engineDone_settle (s : State) (h : Nat) (st : Status) (r0 r1 : Word) : (engineDone s h st r0 r1).settle = s.settle := rfl
@[simp] theorem engineDone_pwr (s : State) (h : Nat) (st : Status) (r0 r1 : Word) : (engineDone s h st r0 r1).pwr = s.pwr := rfl

@[simp] theorem recDrop_now (s : State) : (recDrop s).now = s.now := rfl
@[simp] theorem recDrop_draws (s : State) : (recDrop s).draws = s.draws := rfl
@[simp] theorem recDrop_out (s : State) : (recDrop s).out = s.out := rfl
@[simp] theorem recDrop_pending (s : State) : (recDrop s).pending = s.pending := rfl
@[simp] theorem recDrop_rings (s : State) : (recDrop s).rings = s.rings := rfl
@[simp] theorem recDrop_pool (s : State) : (recDrop s).pool = s.pool := rfl
@[simp] theorem recDrop_mgmt (s : State) : (recDrop s).mgmt = s.mgmt := rfl
@[simp] theorem recDrop_coh (s : State) : (recDrop s).coh = s.coh := rfl
@[simp] theorem recDrop_ord (s : State) : (recDrop s).ord = s.ord := rfl
@[simp] theorem recDrop_atm (s : State) : (recDrop s).atm = s.atm := rfl
@[simp] theorem recDrop_obj (s : State) : (recDrop s).obj = s.obj := rfl
@[simp] theorem recDrop_tier (s : State) : (recDrop s).tier = s.tier := rfl
@[simp] theorem recDrop_cmp (s : State) : (recDrop s).cmp = s.cmp := rfl
@[simp] theorem recDrop_stk (s : State) : (recDrop s).stk = s.stk := rfl
@[simp] theorem recDrop_bau (s : State) : (recDrop s).bau = s.bau := rfl
@[simp] theorem recDrop_trs (s : State) : (recDrop s).trs = s.trs := rfl
@[simp] theorem recDrop_train (s : State) : (recDrop s).train = s.train := rfl
@[simp] theorem recDrop_route (s : State) : (recDrop s).route = s.route := rfl
@[simp] theorem recDrop_core (s : State) : (recDrop s).core = s.core := rfl
@[simp] theorem recDrop_cong (s : State) : (recDrop s).cong = s.cong := rfl
@[simp] theorem recDrop_link (s : State) : (recDrop s).link = s.link := rfl
@[simp] theorem recDrop_ras (s : State) : (recDrop s).ras = s.ras := rfl
@[simp] theorem recDrop_sys (s : State) : (recDrop s).sys = s.sys := rfl
@[simp] theorem recDrop_settle (s : State) : (recDrop s).settle = s.settle := rfl
@[simp] theorem recDrop_pwr (s : State) : (recDrop s).pwr = s.pwr := rfl

@[simp] theorem setBack_now (s : State) (i : Nat) (b : Back) : (setBack s i b).now = s.now := rfl
@[simp] theorem setBack_draws (s : State) (i : Nat) (b : Back) : (setBack s i b).draws = s.draws := rfl
@[simp] theorem setBack_regs (s : State) (i : Nat) (b : Back) : (setBack s i b).regs = s.regs := rfl
@[simp] theorem setBack_out (s : State) (i : Nat) (b : Back) : (setBack s i b).out = s.out := rfl
@[simp] theorem setBack_pending (s : State) (i : Nat) (b : Back) : (setBack s i b).pending = s.pending := rfl
@[simp] theorem setBack_rings (s : State) (i : Nat) (b : Back) : (setBack s i b).rings = s.rings := rfl
@[simp] theorem setBack_mgmt (s : State) (i : Nat) (b : Back) : (setBack s i b).mgmt = s.mgmt := rfl
@[simp] theorem setBack_coh (s : State) (i : Nat) (b : Back) : (setBack s i b).coh = s.coh := rfl
@[simp] theorem setBack_ord (s : State) (i : Nat) (b : Back) : (setBack s i b).ord = s.ord := rfl
@[simp] theorem setBack_atm (s : State) (i : Nat) (b : Back) : (setBack s i b).atm = s.atm := rfl
@[simp] theorem setBack_obj (s : State) (i : Nat) (b : Back) : (setBack s i b).obj = s.obj := rfl
@[simp] theorem setBack_tier (s : State) (i : Nat) (b : Back) : (setBack s i b).tier = s.tier := rfl
@[simp] theorem setBack_cmp (s : State) (i : Nat) (b : Back) : (setBack s i b).cmp = s.cmp := rfl
@[simp] theorem setBack_stk (s : State) (i : Nat) (b : Back) : (setBack s i b).stk = s.stk := rfl
@[simp] theorem setBack_bau (s : State) (i : Nat) (b : Back) : (setBack s i b).bau = s.bau := rfl
@[simp] theorem setBack_trs (s : State) (i : Nat) (b : Back) : (setBack s i b).trs = s.trs := rfl
@[simp] theorem setBack_train (s : State) (i : Nat) (b : Back) : (setBack s i b).train = s.train := rfl
@[simp] theorem setBack_route (s : State) (i : Nat) (b : Back) : (setBack s i b).route = s.route := rfl
@[simp] theorem setBack_core (s : State) (i : Nat) (b : Back) : (setBack s i b).core = s.core := rfl
@[simp] theorem setBack_cong (s : State) (i : Nat) (b : Back) : (setBack s i b).cong = s.cong := rfl
@[simp] theorem setBack_link (s : State) (i : Nat) (b : Back) : (setBack s i b).link = s.link := rfl
@[simp] theorem setBack_ras (s : State) (i : Nat) (b : Back) : (setBack s i b).ras = s.ras := rfl
@[simp] theorem setBack_sys (s : State) (i : Nat) (b : Back) : (setBack s i b).sys = s.sys := rfl
@[simp] theorem setBack_settle (s : State) (i : Nat) (b : Back) : (setBack s i b).settle = s.settle := rfl
@[simp] theorem setBack_pwr (s : State) (i : Nat) (b : Back) : (setBack s i b).pwr = s.pwr := rfl

@[simp] theorem setPoison_now (s : State) (i l : Nat) (p : Bool) : (setPoison s i l p).now = s.now := rfl
@[simp] theorem setPoison_draws (s : State) (i l : Nat) (p : Bool) : (setPoison s i l p).draws = s.draws := rfl
@[simp] theorem setPoison_regs (s : State) (i l : Nat) (p : Bool) : (setPoison s i l p).regs = s.regs := rfl
@[simp] theorem setPoison_out (s : State) (i l : Nat) (p : Bool) : (setPoison s i l p).out = s.out := rfl
@[simp] theorem setPoison_pending (s : State) (i l : Nat) (p : Bool) : (setPoison s i l p).pending = s.pending := rfl
@[simp] theorem setPoison_rings (s : State) (i l : Nat) (p : Bool) : (setPoison s i l p).rings = s.rings := rfl
@[simp] theorem setPoison_mgmt (s : State) (i l : Nat) (p : Bool) : (setPoison s i l p).mgmt = s.mgmt := rfl
@[simp] theorem setPoison_coh (s : State) (i l : Nat) (p : Bool) : (setPoison s i l p).coh = s.coh := rfl
@[simp] theorem setPoison_ord (s : State) (i l : Nat) (p : Bool) : (setPoison s i l p).ord = s.ord := rfl
@[simp] theorem setPoison_atm (s : State) (i l : Nat) (p : Bool) : (setPoison s i l p).atm = s.atm := rfl
@[simp] theorem setPoison_obj (s : State) (i l : Nat) (p : Bool) : (setPoison s i l p).obj = s.obj := rfl
@[simp] theorem setPoison_tier (s : State) (i l : Nat) (p : Bool) : (setPoison s i l p).tier = s.tier := rfl
@[simp] theorem setPoison_cmp (s : State) (i l : Nat) (p : Bool) : (setPoison s i l p).cmp = s.cmp := rfl
@[simp] theorem setPoison_stk (s : State) (i l : Nat) (p : Bool) : (setPoison s i l p).stk = s.stk := rfl
@[simp] theorem setPoison_bau (s : State) (i l : Nat) (p : Bool) : (setPoison s i l p).bau = s.bau := rfl
@[simp] theorem setPoison_trs (s : State) (i l : Nat) (p : Bool) : (setPoison s i l p).trs = s.trs := rfl
@[simp] theorem setPoison_train (s : State) (i l : Nat) (p : Bool) : (setPoison s i l p).train = s.train := rfl
@[simp] theorem setPoison_route (s : State) (i l : Nat) (p : Bool) : (setPoison s i l p).route = s.route := rfl
@[simp] theorem setPoison_core (s : State) (i l : Nat) (p : Bool) : (setPoison s i l p).core = s.core := rfl
@[simp] theorem setPoison_cong (s : State) (i l : Nat) (p : Bool) : (setPoison s i l p).cong = s.cong := rfl
@[simp] theorem setPoison_link (s : State) (i l : Nat) (p : Bool) : (setPoison s i l p).link = s.link := rfl
@[simp] theorem setPoison_ras (s : State) (i l : Nat) (p : Bool) : (setPoison s i l p).ras = s.ras := rfl
@[simp] theorem setPoison_sys (s : State) (i l : Nat) (p : Bool) : (setPoison s i l p).sys = s.sys := rfl
@[simp] theorem setPoison_settle (s : State) (i l : Nat) (p : Bool) : (setPoison s i l p).settle = s.settle := rfl
@[simp] theorem setPoison_pwr (s : State) (i l : Nat) (p : Bool) : (setPoison s i l p).pwr = s.pwr := rfl

@[simp] theorem setPage_now (s : State) (p i : Nat) : (setPage s p i).now = s.now := rfl
@[simp] theorem setPage_draws (s : State) (p i : Nat) : (setPage s p i).draws = s.draws := rfl
@[simp] theorem setPage_regs (s : State) (p i : Nat) : (setPage s p i).regs = s.regs := rfl
@[simp] theorem setPage_out (s : State) (p i : Nat) : (setPage s p i).out = s.out := rfl
@[simp] theorem setPage_pending (s : State) (p i : Nat) : (setPage s p i).pending = s.pending := rfl
@[simp] theorem setPage_rings (s : State) (p i : Nat) : (setPage s p i).rings = s.rings := rfl
@[simp] theorem setPage_mgmt (s : State) (p i : Nat) : (setPage s p i).mgmt = s.mgmt := rfl
@[simp] theorem setPage_coh (s : State) (p i : Nat) : (setPage s p i).coh = s.coh := rfl
@[simp] theorem setPage_ord (s : State) (p i : Nat) : (setPage s p i).ord = s.ord := rfl
@[simp] theorem setPage_atm (s : State) (p i : Nat) : (setPage s p i).atm = s.atm := rfl
@[simp] theorem setPage_obj (s : State) (p i : Nat) : (setPage s p i).obj = s.obj := rfl
@[simp] theorem setPage_tier (s : State) (p i : Nat) : (setPage s p i).tier = s.tier := rfl
@[simp] theorem setPage_cmp (s : State) (p i : Nat) : (setPage s p i).cmp = s.cmp := rfl
@[simp] theorem setPage_stk (s : State) (p i : Nat) : (setPage s p i).stk = s.stk := rfl
@[simp] theorem setPage_bau (s : State) (p i : Nat) : (setPage s p i).bau = s.bau := rfl
@[simp] theorem setPage_trs (s : State) (p i : Nat) : (setPage s p i).trs = s.trs := rfl
@[simp] theorem setPage_train (s : State) (p i : Nat) : (setPage s p i).train = s.train := rfl
@[simp] theorem setPage_route (s : State) (p i : Nat) : (setPage s p i).route = s.route := rfl
@[simp] theorem setPage_core (s : State) (p i : Nat) : (setPage s p i).core = s.core := rfl
@[simp] theorem setPage_cong (s : State) (p i : Nat) : (setPage s p i).cong = s.cong := rfl
@[simp] theorem setPage_link (s : State) (p i : Nat) : (setPage s p i).link = s.link := rfl
@[simp] theorem setPage_ras (s : State) (p i : Nat) : (setPage s p i).ras = s.ras := rfl
@[simp] theorem setPage_sys (s : State) (p i : Nat) : (setPage s p i).sys = s.sys := rfl
@[simp] theorem setPage_settle (s : State) (p i : Nat) : (setPage s p i).settle = s.settle := rfl
@[simp] theorem setPage_pwr (s : State) (p i : Nat) : (setPage s p i).pwr = s.pwr := rfl

@[simp] theorem dropPage_now (s : State) (p : Nat) : (dropPage s p).now = s.now := rfl
@[simp] theorem dropPage_draws (s : State) (p : Nat) : (dropPage s p).draws = s.draws := rfl
@[simp] theorem dropPage_regs (s : State) (p : Nat) : (dropPage s p).regs = s.regs := rfl
@[simp] theorem dropPage_out (s : State) (p : Nat) : (dropPage s p).out = s.out := rfl
@[simp] theorem dropPage_pending (s : State) (p : Nat) : (dropPage s p).pending = s.pending := rfl
@[simp] theorem dropPage_rings (s : State) (p : Nat) : (dropPage s p).rings = s.rings := rfl
@[simp] theorem dropPage_mgmt (s : State) (p : Nat) : (dropPage s p).mgmt = s.mgmt := rfl
@[simp] theorem dropPage_coh (s : State) (p : Nat) : (dropPage s p).coh = s.coh := rfl
@[simp] theorem dropPage_ord (s : State) (p : Nat) : (dropPage s p).ord = s.ord := rfl
@[simp] theorem dropPage_atm (s : State) (p : Nat) : (dropPage s p).atm = s.atm := rfl
@[simp] theorem dropPage_obj (s : State) (p : Nat) : (dropPage s p).obj = s.obj := rfl
@[simp] theorem dropPage_tier (s : State) (p : Nat) : (dropPage s p).tier = s.tier := rfl
@[simp] theorem dropPage_cmp (s : State) (p : Nat) : (dropPage s p).cmp = s.cmp := rfl
@[simp] theorem dropPage_stk (s : State) (p : Nat) : (dropPage s p).stk = s.stk := rfl
@[simp] theorem dropPage_bau (s : State) (p : Nat) : (dropPage s p).bau = s.bau := rfl
@[simp] theorem dropPage_trs (s : State) (p : Nat) : (dropPage s p).trs = s.trs := rfl
@[simp] theorem dropPage_train (s : State) (p : Nat) : (dropPage s p).train = s.train := rfl
@[simp] theorem dropPage_route (s : State) (p : Nat) : (dropPage s p).route = s.route := rfl
@[simp] theorem dropPage_core (s : State) (p : Nat) : (dropPage s p).core = s.core := rfl
@[simp] theorem dropPage_cong (s : State) (p : Nat) : (dropPage s p).cong = s.cong := rfl
@[simp] theorem dropPage_link (s : State) (p : Nat) : (dropPage s p).link = s.link := rfl
@[simp] theorem dropPage_ras (s : State) (p : Nat) : (dropPage s p).ras = s.ras := rfl
@[simp] theorem dropPage_sys (s : State) (p : Nat) : (dropPage s p).sys = s.sys := rfl
@[simp] theorem dropPage_settle (s : State) (p : Nat) : (dropPage s p).settle = s.settle := rfl
@[simp] theorem dropPage_pwr (s : State) (p : Nat) : (dropPage s p).pwr = s.pwr := rfl

@[simp] theorem setDir_now (s : State) (l : Nat) (e : DirEntry) : (setDir s l e).now = s.now := rfl
@[simp] theorem setDir_draws (s : State) (l : Nat) (e : DirEntry) : (setDir s l e).draws = s.draws := rfl
@[simp] theorem setDir_regs (s : State) (l : Nat) (e : DirEntry) : (setDir s l e).regs = s.regs := rfl
@[simp] theorem setDir_out (s : State) (l : Nat) (e : DirEntry) : (setDir s l e).out = s.out := rfl
@[simp] theorem setDir_pending (s : State) (l : Nat) (e : DirEntry) : (setDir s l e).pending = s.pending := rfl
@[simp] theorem setDir_rings (s : State) (l : Nat) (e : DirEntry) : (setDir s l e).rings = s.rings := rfl
@[simp] theorem setDir_pool (s : State) (l : Nat) (e : DirEntry) : (setDir s l e).pool = s.pool := rfl
@[simp] theorem setDir_mgmt (s : State) (l : Nat) (e : DirEntry) : (setDir s l e).mgmt = s.mgmt := rfl
@[simp] theorem setDir_ord (s : State) (l : Nat) (e : DirEntry) : (setDir s l e).ord = s.ord := rfl
@[simp] theorem setDir_atm (s : State) (l : Nat) (e : DirEntry) : (setDir s l e).atm = s.atm := rfl
@[simp] theorem setDir_obj (s : State) (l : Nat) (e : DirEntry) : (setDir s l e).obj = s.obj := rfl
@[simp] theorem setDir_tier (s : State) (l : Nat) (e : DirEntry) : (setDir s l e).tier = s.tier := rfl
@[simp] theorem setDir_cmp (s : State) (l : Nat) (e : DirEntry) : (setDir s l e).cmp = s.cmp := rfl
@[simp] theorem setDir_stk (s : State) (l : Nat) (e : DirEntry) : (setDir s l e).stk = s.stk := rfl
@[simp] theorem setDir_bau (s : State) (l : Nat) (e : DirEntry) : (setDir s l e).bau = s.bau := rfl
@[simp] theorem setDir_trs (s : State) (l : Nat) (e : DirEntry) : (setDir s l e).trs = s.trs := rfl
@[simp] theorem setDir_train (s : State) (l : Nat) (e : DirEntry) : (setDir s l e).train = s.train := rfl
@[simp] theorem setDir_route (s : State) (l : Nat) (e : DirEntry) : (setDir s l e).route = s.route := rfl
@[simp] theorem setDir_core (s : State) (l : Nat) (e : DirEntry) : (setDir s l e).core = s.core := rfl
@[simp] theorem setDir_cong (s : State) (l : Nat) (e : DirEntry) : (setDir s l e).cong = s.cong := rfl
@[simp] theorem setDir_link (s : State) (l : Nat) (e : DirEntry) : (setDir s l e).link = s.link := rfl
@[simp] theorem setDir_ras (s : State) (l : Nat) (e : DirEntry) : (setDir s l e).ras = s.ras := rfl
@[simp] theorem setDir_sys (s : State) (l : Nat) (e : DirEntry) : (setDir s l e).sys = s.sys := rfl
@[simp] theorem setDir_settle (s : State) (l : Nat) (e : DirEntry) : (setDir s l e).settle = s.settle := rfl
@[simp] theorem setDir_pwr (s : State) (l : Nat) (e : DirEntry) : (setDir s l e).pwr = s.pwr := rfl

@[simp] theorem dropDir_now (s : State) (l : Nat) : (dropDir s l).now = s.now := rfl
@[simp] theorem dropDir_draws (s : State) (l : Nat) : (dropDir s l).draws = s.draws := rfl
@[simp] theorem dropDir_regs (s : State) (l : Nat) : (dropDir s l).regs = s.regs := rfl
@[simp] theorem dropDir_out (s : State) (l : Nat) : (dropDir s l).out = s.out := rfl
@[simp] theorem dropDir_pending (s : State) (l : Nat) : (dropDir s l).pending = s.pending := rfl
@[simp] theorem dropDir_rings (s : State) (l : Nat) : (dropDir s l).rings = s.rings := rfl
@[simp] theorem dropDir_pool (s : State) (l : Nat) : (dropDir s l).pool = s.pool := rfl
@[simp] theorem dropDir_mgmt (s : State) (l : Nat) : (dropDir s l).mgmt = s.mgmt := rfl
@[simp] theorem dropDir_ord (s : State) (l : Nat) : (dropDir s l).ord = s.ord := rfl
@[simp] theorem dropDir_atm (s : State) (l : Nat) : (dropDir s l).atm = s.atm := rfl
@[simp] theorem dropDir_obj (s : State) (l : Nat) : (dropDir s l).obj = s.obj := rfl
@[simp] theorem dropDir_tier (s : State) (l : Nat) : (dropDir s l).tier = s.tier := rfl
@[simp] theorem dropDir_cmp (s : State) (l : Nat) : (dropDir s l).cmp = s.cmp := rfl
@[simp] theorem dropDir_stk (s : State) (l : Nat) : (dropDir s l).stk = s.stk := rfl
@[simp] theorem dropDir_bau (s : State) (l : Nat) : (dropDir s l).bau = s.bau := rfl
@[simp] theorem dropDir_trs (s : State) (l : Nat) : (dropDir s l).trs = s.trs := rfl
@[simp] theorem dropDir_train (s : State) (l : Nat) : (dropDir s l).train = s.train := rfl
@[simp] theorem dropDir_route (s : State) (l : Nat) : (dropDir s l).route = s.route := rfl
@[simp] theorem dropDir_core (s : State) (l : Nat) : (dropDir s l).core = s.core := rfl
@[simp] theorem dropDir_cong (s : State) (l : Nat) : (dropDir s l).cong = s.cong := rfl
@[simp] theorem dropDir_link (s : State) (l : Nat) : (dropDir s l).link = s.link := rfl
@[simp] theorem dropDir_ras (s : State) (l : Nat) : (dropDir s l).ras = s.ras := rfl
@[simp] theorem dropDir_sys (s : State) (l : Nat) : (dropDir s l).sys = s.sys := rfl
@[simp] theorem dropDir_settle (s : State) (l : Nat) : (dropDir s l).settle = s.settle := rfl
@[simp] theorem dropDir_pwr (s : State) (l : Nat) : (dropDir s l).pwr = s.pwr := rfl

@[simp] theorem setTrans_now (s : State) (l : Nat) (t : Trans) : (setTrans s l t).now = s.now := rfl
@[simp] theorem setTrans_draws (s : State) (l : Nat) (t : Trans) : (setTrans s l t).draws = s.draws := rfl
@[simp] theorem setTrans_regs (s : State) (l : Nat) (t : Trans) : (setTrans s l t).regs = s.regs := rfl
@[simp] theorem setTrans_out (s : State) (l : Nat) (t : Trans) : (setTrans s l t).out = s.out := rfl
@[simp] theorem setTrans_pending (s : State) (l : Nat) (t : Trans) : (setTrans s l t).pending = s.pending := rfl
@[simp] theorem setTrans_rings (s : State) (l : Nat) (t : Trans) : (setTrans s l t).rings = s.rings := rfl
@[simp] theorem setTrans_pool (s : State) (l : Nat) (t : Trans) : (setTrans s l t).pool = s.pool := rfl
@[simp] theorem setTrans_mgmt (s : State) (l : Nat) (t : Trans) : (setTrans s l t).mgmt = s.mgmt := rfl
@[simp] theorem setTrans_ord (s : State) (l : Nat) (t : Trans) : (setTrans s l t).ord = s.ord := rfl
@[simp] theorem setTrans_atm (s : State) (l : Nat) (t : Trans) : (setTrans s l t).atm = s.atm := rfl
@[simp] theorem setTrans_obj (s : State) (l : Nat) (t : Trans) : (setTrans s l t).obj = s.obj := rfl
@[simp] theorem setTrans_tier (s : State) (l : Nat) (t : Trans) : (setTrans s l t).tier = s.tier := rfl
@[simp] theorem setTrans_cmp (s : State) (l : Nat) (t : Trans) : (setTrans s l t).cmp = s.cmp := rfl
@[simp] theorem setTrans_stk (s : State) (l : Nat) (t : Trans) : (setTrans s l t).stk = s.stk := rfl
@[simp] theorem setTrans_bau (s : State) (l : Nat) (t : Trans) : (setTrans s l t).bau = s.bau := rfl
@[simp] theorem setTrans_trs (s : State) (l : Nat) (t : Trans) : (setTrans s l t).trs = s.trs := rfl
@[simp] theorem setTrans_train (s : State) (l : Nat) (t : Trans) : (setTrans s l t).train = s.train := rfl
@[simp] theorem setTrans_route (s : State) (l : Nat) (t : Trans) : (setTrans s l t).route = s.route := rfl
@[simp] theorem setTrans_core (s : State) (l : Nat) (t : Trans) : (setTrans s l t).core = s.core := rfl
@[simp] theorem setTrans_cong (s : State) (l : Nat) (t : Trans) : (setTrans s l t).cong = s.cong := rfl
@[simp] theorem setTrans_link (s : State) (l : Nat) (t : Trans) : (setTrans s l t).link = s.link := rfl
@[simp] theorem setTrans_ras (s : State) (l : Nat) (t : Trans) : (setTrans s l t).ras = s.ras := rfl
@[simp] theorem setTrans_sys (s : State) (l : Nat) (t : Trans) : (setTrans s l t).sys = s.sys := rfl
@[simp] theorem setTrans_settle (s : State) (l : Nat) (t : Trans) : (setTrans s l t).settle = s.settle := rfl
@[simp] theorem setTrans_pwr (s : State) (l : Nat) (t : Trans) : (setTrans s l t).pwr = s.pwr := rfl

@[simp] theorem dropTrans_now (s : State) (l : Nat) : (dropTrans s l).now = s.now := rfl
@[simp] theorem dropTrans_draws (s : State) (l : Nat) : (dropTrans s l).draws = s.draws := rfl
@[simp] theorem dropTrans_regs (s : State) (l : Nat) : (dropTrans s l).regs = s.regs := rfl
@[simp] theorem dropTrans_out (s : State) (l : Nat) : (dropTrans s l).out = s.out := rfl
@[simp] theorem dropTrans_pending (s : State) (l : Nat) : (dropTrans s l).pending = s.pending := rfl
@[simp] theorem dropTrans_rings (s : State) (l : Nat) : (dropTrans s l).rings = s.rings := rfl
@[simp] theorem dropTrans_pool (s : State) (l : Nat) : (dropTrans s l).pool = s.pool := rfl
@[simp] theorem dropTrans_mgmt (s : State) (l : Nat) : (dropTrans s l).mgmt = s.mgmt := rfl
@[simp] theorem dropTrans_ord (s : State) (l : Nat) : (dropTrans s l).ord = s.ord := rfl
@[simp] theorem dropTrans_atm (s : State) (l : Nat) : (dropTrans s l).atm = s.atm := rfl
@[simp] theorem dropTrans_obj (s : State) (l : Nat) : (dropTrans s l).obj = s.obj := rfl
@[simp] theorem dropTrans_tier (s : State) (l : Nat) : (dropTrans s l).tier = s.tier := rfl
@[simp] theorem dropTrans_cmp (s : State) (l : Nat) : (dropTrans s l).cmp = s.cmp := rfl
@[simp] theorem dropTrans_stk (s : State) (l : Nat) : (dropTrans s l).stk = s.stk := rfl
@[simp] theorem dropTrans_bau (s : State) (l : Nat) : (dropTrans s l).bau = s.bau := rfl
@[simp] theorem dropTrans_trs (s : State) (l : Nat) : (dropTrans s l).trs = s.trs := rfl
@[simp] theorem dropTrans_train (s : State) (l : Nat) : (dropTrans s l).train = s.train := rfl
@[simp] theorem dropTrans_route (s : State) (l : Nat) : (dropTrans s l).route = s.route := rfl
@[simp] theorem dropTrans_core (s : State) (l : Nat) : (dropTrans s l).core = s.core := rfl
@[simp] theorem dropTrans_cong (s : State) (l : Nat) : (dropTrans s l).cong = s.cong := rfl
@[simp] theorem dropTrans_link (s : State) (l : Nat) : (dropTrans s l).link = s.link := rfl
@[simp] theorem dropTrans_ras (s : State) (l : Nat) : (dropTrans s l).ras = s.ras := rfl
@[simp] theorem dropTrans_sys (s : State) (l : Nat) : (dropTrans s l).sys = s.sys := rfl
@[simp] theorem dropTrans_settle (s : State) (l : Nat) : (dropTrans s l).settle = s.settle := rfl
@[simp] theorem dropTrans_pwr (s : State) (l : Nat) : (dropTrans s l).pwr = s.pwr := rfl

@[simp] theorem modStat_now (s : State) (t : Nat) (f : RecallStat → RecallStat) : (modStat s t f).now = s.now := rfl
@[simp] theorem modStat_draws (s : State) (t : Nat) (f : RecallStat → RecallStat) : (modStat s t f).draws = s.draws := rfl
@[simp] theorem modStat_regs (s : State) (t : Nat) (f : RecallStat → RecallStat) : (modStat s t f).regs = s.regs := rfl
@[simp] theorem modStat_out (s : State) (t : Nat) (f : RecallStat → RecallStat) : (modStat s t f).out = s.out := rfl
@[simp] theorem modStat_pending (s : State) (t : Nat) (f : RecallStat → RecallStat) : (modStat s t f).pending = s.pending := rfl
@[simp] theorem modStat_rings (s : State) (t : Nat) (f : RecallStat → RecallStat) : (modStat s t f).rings = s.rings := rfl
@[simp] theorem modStat_pool (s : State) (t : Nat) (f : RecallStat → RecallStat) : (modStat s t f).pool = s.pool := rfl
@[simp] theorem modStat_mgmt (s : State) (t : Nat) (f : RecallStat → RecallStat) : (modStat s t f).mgmt = s.mgmt := rfl
@[simp] theorem modStat_ord (s : State) (t : Nat) (f : RecallStat → RecallStat) : (modStat s t f).ord = s.ord := rfl
@[simp] theorem modStat_atm (s : State) (t : Nat) (f : RecallStat → RecallStat) : (modStat s t f).atm = s.atm := rfl
@[simp] theorem modStat_obj (s : State) (t : Nat) (f : RecallStat → RecallStat) : (modStat s t f).obj = s.obj := rfl
@[simp] theorem modStat_tier (s : State) (t : Nat) (f : RecallStat → RecallStat) : (modStat s t f).tier = s.tier := rfl
@[simp] theorem modStat_cmp (s : State) (t : Nat) (f : RecallStat → RecallStat) : (modStat s t f).cmp = s.cmp := rfl
@[simp] theorem modStat_stk (s : State) (t : Nat) (f : RecallStat → RecallStat) : (modStat s t f).stk = s.stk := rfl
@[simp] theorem modStat_bau (s : State) (t : Nat) (f : RecallStat → RecallStat) : (modStat s t f).bau = s.bau := rfl
@[simp] theorem modStat_trs (s : State) (t : Nat) (f : RecallStat → RecallStat) : (modStat s t f).trs = s.trs := rfl
@[simp] theorem modStat_train (s : State) (t : Nat) (f : RecallStat → RecallStat) : (modStat s t f).train = s.train := rfl
@[simp] theorem modStat_route (s : State) (t : Nat) (f : RecallStat → RecallStat) : (modStat s t f).route = s.route := rfl
@[simp] theorem modStat_core (s : State) (t : Nat) (f : RecallStat → RecallStat) : (modStat s t f).core = s.core := rfl
@[simp] theorem modStat_cong (s : State) (t : Nat) (f : RecallStat → RecallStat) : (modStat s t f).cong = s.cong := rfl
@[simp] theorem modStat_link (s : State) (t : Nat) (f : RecallStat → RecallStat) : (modStat s t f).link = s.link := rfl
@[simp] theorem modStat_ras (s : State) (t : Nat) (f : RecallStat → RecallStat) : (modStat s t f).ras = s.ras := rfl
@[simp] theorem modStat_sys (s : State) (t : Nat) (f : RecallStat → RecallStat) : (modStat s t f).sys = s.sys := rfl
@[simp] theorem modStat_settle (s : State) (t : Nat) (f : RecallStat → RecallStat) : (modStat s t f).settle = s.settle := rfl
@[simp] theorem modStat_pwr (s : State) (t : Nat) (f : RecallStat → RecallStat) : (modStat s t f).pwr = s.pwr := rfl

@[simp] theorem dropStat_now (s : State) (t : Nat) : (dropStat s t).now = s.now := rfl
@[simp] theorem dropStat_draws (s : State) (t : Nat) : (dropStat s t).draws = s.draws := rfl
@[simp] theorem dropStat_regs (s : State) (t : Nat) : (dropStat s t).regs = s.regs := rfl
@[simp] theorem dropStat_out (s : State) (t : Nat) : (dropStat s t).out = s.out := rfl
@[simp] theorem dropStat_pending (s : State) (t : Nat) : (dropStat s t).pending = s.pending := rfl
@[simp] theorem dropStat_rings (s : State) (t : Nat) : (dropStat s t).rings = s.rings := rfl
@[simp] theorem dropStat_pool (s : State) (t : Nat) : (dropStat s t).pool = s.pool := rfl
@[simp] theorem dropStat_mgmt (s : State) (t : Nat) : (dropStat s t).mgmt = s.mgmt := rfl
@[simp] theorem dropStat_ord (s : State) (t : Nat) : (dropStat s t).ord = s.ord := rfl
@[simp] theorem dropStat_atm (s : State) (t : Nat) : (dropStat s t).atm = s.atm := rfl
@[simp] theorem dropStat_obj (s : State) (t : Nat) : (dropStat s t).obj = s.obj := rfl
@[simp] theorem dropStat_tier (s : State) (t : Nat) : (dropStat s t).tier = s.tier := rfl
@[simp] theorem dropStat_cmp (s : State) (t : Nat) : (dropStat s t).cmp = s.cmp := rfl
@[simp] theorem dropStat_stk (s : State) (t : Nat) : (dropStat s t).stk = s.stk := rfl
@[simp] theorem dropStat_bau (s : State) (t : Nat) : (dropStat s t).bau = s.bau := rfl
@[simp] theorem dropStat_trs (s : State) (t : Nat) : (dropStat s t).trs = s.trs := rfl
@[simp] theorem dropStat_train (s : State) (t : Nat) : (dropStat s t).train = s.train := rfl
@[simp] theorem dropStat_route (s : State) (t : Nat) : (dropStat s t).route = s.route := rfl
@[simp] theorem dropStat_core (s : State) (t : Nat) : (dropStat s t).core = s.core := rfl
@[simp] theorem dropStat_cong (s : State) (t : Nat) : (dropStat s t).cong = s.cong := rfl
@[simp] theorem dropStat_link (s : State) (t : Nat) : (dropStat s t).link = s.link := rfl
@[simp] theorem dropStat_ras (s : State) (t : Nat) : (dropStat s t).ras = s.ras := rfl
@[simp] theorem dropStat_sys (s : State) (t : Nat) : (dropStat s t).sys = s.sys := rfl
@[simp] theorem dropStat_settle (s : State) (t : Nat) : (dropStat s t).settle = s.settle := rfl
@[simp] theorem dropStat_pwr (s : State) (t : Nat) : (dropStat s t).pwr = s.pwr := rfl

@[simp] theorem setHot_now (s : State) (l : Nat) (h : Hot) : (setHot s l h).now = s.now := rfl
@[simp] theorem setHot_draws (s : State) (l : Nat) (h : Hot) : (setHot s l h).draws = s.draws := rfl
@[simp] theorem setHot_regs (s : State) (l : Nat) (h : Hot) : (setHot s l h).regs = s.regs := rfl
@[simp] theorem setHot_out (s : State) (l : Nat) (h : Hot) : (setHot s l h).out = s.out := rfl
@[simp] theorem setHot_pending (s : State) (l : Nat) (h : Hot) : (setHot s l h).pending = s.pending := rfl
@[simp] theorem setHot_rings (s : State) (l : Nat) (h : Hot) : (setHot s l h).rings = s.rings := rfl
@[simp] theorem setHot_pool (s : State) (l : Nat) (h : Hot) : (setHot s l h).pool = s.pool := rfl
@[simp] theorem setHot_mgmt (s : State) (l : Nat) (h : Hot) : (setHot s l h).mgmt = s.mgmt := rfl
@[simp] theorem setHot_coh (s : State) (l : Nat) (h : Hot) : (setHot s l h).coh = s.coh := rfl
@[simp] theorem setHot_ord (s : State) (l : Nat) (h : Hot) : (setHot s l h).ord = s.ord := rfl
@[simp] theorem setHot_obj (s : State) (l : Nat) (h : Hot) : (setHot s l h).obj = s.obj := rfl
@[simp] theorem setHot_tier (s : State) (l : Nat) (h : Hot) : (setHot s l h).tier = s.tier := rfl
@[simp] theorem setHot_cmp (s : State) (l : Nat) (h : Hot) : (setHot s l h).cmp = s.cmp := rfl
@[simp] theorem setHot_stk (s : State) (l : Nat) (h : Hot) : (setHot s l h).stk = s.stk := rfl
@[simp] theorem setHot_bau (s : State) (l : Nat) (h : Hot) : (setHot s l h).bau = s.bau := rfl
@[simp] theorem setHot_trs (s : State) (l : Nat) (h : Hot) : (setHot s l h).trs = s.trs := rfl
@[simp] theorem setHot_train (s : State) (l : Nat) (h : Hot) : (setHot s l h).train = s.train := rfl
@[simp] theorem setHot_route (s : State) (l : Nat) (h : Hot) : (setHot s l h).route = s.route := rfl
@[simp] theorem setHot_core (s : State) (l : Nat) (h : Hot) : (setHot s l h).core = s.core := rfl
@[simp] theorem setHot_cong (s : State) (l : Nat) (h : Hot) : (setHot s l h).cong = s.cong := rfl
@[simp] theorem setHot_link (s : State) (l : Nat) (h : Hot) : (setHot s l h).link = s.link := rfl
@[simp] theorem setHot_ras (s : State) (l : Nat) (h : Hot) : (setHot s l h).ras = s.ras := rfl
@[simp] theorem setHot_sys (s : State) (l : Nat) (h : Hot) : (setHot s l h).sys = s.sys := rfl
@[simp] theorem setHot_settle (s : State) (l : Nat) (h : Hot) : (setHot s l h).settle = s.settle := rfl
@[simp] theorem setHot_pwr (s : State) (l : Nat) (h : Hot) : (setHot s l h).pwr = s.pwr := rfl

@[simp] theorem setOut_now (s : State) (n : Nat) (f : Out → Out) : (setOut s n f).now = s.now := rfl
@[simp] theorem setOut_draws (s : State) (n : Nat) (f : Out → Out) : (setOut s n f).draws = s.draws := rfl
@[simp] theorem setOut_regs (s : State) (n : Nat) (f : Out → Out) : (setOut s n f).regs = s.regs := rfl
@[simp] theorem setOut_out (s : State) (n : Nat) (f : Out → Out) : (setOut s n f).out = s.out := rfl
@[simp] theorem setOut_pending (s : State) (n : Nat) (f : Out → Out) : (setOut s n f).pending = s.pending := rfl
@[simp] theorem setOut_rings (s : State) (n : Nat) (f : Out → Out) : (setOut s n f).rings = s.rings := rfl
@[simp] theorem setOut_pool (s : State) (n : Nat) (f : Out → Out) : (setOut s n f).pool = s.pool := rfl
@[simp] theorem setOut_mgmt (s : State) (n : Nat) (f : Out → Out) : (setOut s n f).mgmt = s.mgmt := rfl
@[simp] theorem setOut_coh (s : State) (n : Nat) (f : Out → Out) : (setOut s n f).coh = s.coh := rfl
@[simp] theorem setOut_atm (s : State) (n : Nat) (f : Out → Out) : (setOut s n f).atm = s.atm := rfl
@[simp] theorem setOut_obj (s : State) (n : Nat) (f : Out → Out) : (setOut s n f).obj = s.obj := rfl
@[simp] theorem setOut_tier (s : State) (n : Nat) (f : Out → Out) : (setOut s n f).tier = s.tier := rfl
@[simp] theorem setOut_cmp (s : State) (n : Nat) (f : Out → Out) : (setOut s n f).cmp = s.cmp := rfl
@[simp] theorem setOut_stk (s : State) (n : Nat) (f : Out → Out) : (setOut s n f).stk = s.stk := rfl
@[simp] theorem setOut_bau (s : State) (n : Nat) (f : Out → Out) : (setOut s n f).bau = s.bau := rfl
@[simp] theorem setOut_trs (s : State) (n : Nat) (f : Out → Out) : (setOut s n f).trs = s.trs := rfl
@[simp] theorem setOut_train (s : State) (n : Nat) (f : Out → Out) : (setOut s n f).train = s.train := rfl
@[simp] theorem setOut_route (s : State) (n : Nat) (f : Out → Out) : (setOut s n f).route = s.route := rfl
@[simp] theorem setOut_core (s : State) (n : Nat) (f : Out → Out) : (setOut s n f).core = s.core := rfl
@[simp] theorem setOut_cong (s : State) (n : Nat) (f : Out → Out) : (setOut s n f).cong = s.cong := rfl
@[simp] theorem setOut_link (s : State) (n : Nat) (f : Out → Out) : (setOut s n f).link = s.link := rfl
@[simp] theorem setOut_ras (s : State) (n : Nat) (f : Out → Out) : (setOut s n f).ras = s.ras := rfl
@[simp] theorem setOut_sys (s : State) (n : Nat) (f : Out → Out) : (setOut s n f).sys = s.sys := rfl
@[simp] theorem setOut_settle (s : State) (n : Nat) (f : Out → Out) : (setOut s n f).settle = s.settle := rfl
@[simp] theorem setOut_pwr (s : State) (n : Nat) (f : Out → Out) : (setOut s n f).pwr = s.pwr := rfl

@[simp] theorem setShelf_now (s : State) (i : Nat) (x : Shelf) : (setShelf s i x).now = s.now := rfl
@[simp] theorem setShelf_draws (s : State) (i : Nat) (x : Shelf) : (setShelf s i x).draws = s.draws := rfl
@[simp] theorem setShelf_regs (s : State) (i : Nat) (x : Shelf) : (setShelf s i x).regs = s.regs := rfl
@[simp] theorem setShelf_out (s : State) (i : Nat) (x : Shelf) : (setShelf s i x).out = s.out := rfl
@[simp] theorem setShelf_pending (s : State) (i : Nat) (x : Shelf) : (setShelf s i x).pending = s.pending := rfl
@[simp] theorem setShelf_rings (s : State) (i : Nat) (x : Shelf) : (setShelf s i x).rings = s.rings := rfl
@[simp] theorem setShelf_pool (s : State) (i : Nat) (x : Shelf) : (setShelf s i x).pool = s.pool := rfl
@[simp] theorem setShelf_mgmt (s : State) (i : Nat) (x : Shelf) : (setShelf s i x).mgmt = s.mgmt := rfl
@[simp] theorem setShelf_coh (s : State) (i : Nat) (x : Shelf) : (setShelf s i x).coh = s.coh := rfl
@[simp] theorem setShelf_ord (s : State) (i : Nat) (x : Shelf) : (setShelf s i x).ord = s.ord := rfl
@[simp] theorem setShelf_atm (s : State) (i : Nat) (x : Shelf) : (setShelf s i x).atm = s.atm := rfl
@[simp] theorem setShelf_tier (s : State) (i : Nat) (x : Shelf) : (setShelf s i x).tier = s.tier := rfl
@[simp] theorem setShelf_cmp (s : State) (i : Nat) (x : Shelf) : (setShelf s i x).cmp = s.cmp := rfl
@[simp] theorem setShelf_stk (s : State) (i : Nat) (x : Shelf) : (setShelf s i x).stk = s.stk := rfl
@[simp] theorem setShelf_bau (s : State) (i : Nat) (x : Shelf) : (setShelf s i x).bau = s.bau := rfl
@[simp] theorem setShelf_trs (s : State) (i : Nat) (x : Shelf) : (setShelf s i x).trs = s.trs := rfl
@[simp] theorem setShelf_train (s : State) (i : Nat) (x : Shelf) : (setShelf s i x).train = s.train := rfl
@[simp] theorem setShelf_route (s : State) (i : Nat) (x : Shelf) : (setShelf s i x).route = s.route := rfl
@[simp] theorem setShelf_core (s : State) (i : Nat) (x : Shelf) : (setShelf s i x).core = s.core := rfl
@[simp] theorem setShelf_cong (s : State) (i : Nat) (x : Shelf) : (setShelf s i x).cong = s.cong := rfl
@[simp] theorem setShelf_link (s : State) (i : Nat) (x : Shelf) : (setShelf s i x).link = s.link := rfl
@[simp] theorem setShelf_ras (s : State) (i : Nat) (x : Shelf) : (setShelf s i x).ras = s.ras := rfl
@[simp] theorem setShelf_sys (s : State) (i : Nat) (x : Shelf) : (setShelf s i x).sys = s.sys := rfl
@[simp] theorem setShelf_settle (s : State) (i : Nat) (x : Shelf) : (setShelf s i x).settle = s.settle := rfl
@[simp] theorem setShelf_pwr (s : State) (i : Nat) (x : Shelf) : (setShelf s i x).pwr = s.pwr := rfl

@[simp] theorem setSlot_now (s : State) (i k : Nat) (l : Slot) : (setSlot s i k l).now = s.now := rfl
@[simp] theorem setSlot_draws (s : State) (i k : Nat) (l : Slot) : (setSlot s i k l).draws = s.draws := rfl
@[simp] theorem setSlot_regs (s : State) (i k : Nat) (l : Slot) : (setSlot s i k l).regs = s.regs := rfl
@[simp] theorem setSlot_out (s : State) (i k : Nat) (l : Slot) : (setSlot s i k l).out = s.out := rfl
@[simp] theorem setSlot_pending (s : State) (i k : Nat) (l : Slot) : (setSlot s i k l).pending = s.pending := rfl
@[simp] theorem setSlot_rings (s : State) (i k : Nat) (l : Slot) : (setSlot s i k l).rings = s.rings := rfl
@[simp] theorem setSlot_pool (s : State) (i k : Nat) (l : Slot) : (setSlot s i k l).pool = s.pool := rfl
@[simp] theorem setSlot_mgmt (s : State) (i k : Nat) (l : Slot) : (setSlot s i k l).mgmt = s.mgmt := rfl
@[simp] theorem setSlot_coh (s : State) (i k : Nat) (l : Slot) : (setSlot s i k l).coh = s.coh := rfl
@[simp] theorem setSlot_ord (s : State) (i k : Nat) (l : Slot) : (setSlot s i k l).ord = s.ord := rfl
@[simp] theorem setSlot_atm (s : State) (i k : Nat) (l : Slot) : (setSlot s i k l).atm = s.atm := rfl
@[simp] theorem setSlot_tier (s : State) (i k : Nat) (l : Slot) : (setSlot s i k l).tier = s.tier := rfl
@[simp] theorem setSlot_cmp (s : State) (i k : Nat) (l : Slot) : (setSlot s i k l).cmp = s.cmp := rfl
@[simp] theorem setSlot_stk (s : State) (i k : Nat) (l : Slot) : (setSlot s i k l).stk = s.stk := rfl
@[simp] theorem setSlot_bau (s : State) (i k : Nat) (l : Slot) : (setSlot s i k l).bau = s.bau := rfl
@[simp] theorem setSlot_trs (s : State) (i k : Nat) (l : Slot) : (setSlot s i k l).trs = s.trs := rfl
@[simp] theorem setSlot_train (s : State) (i k : Nat) (l : Slot) : (setSlot s i k l).train = s.train := rfl
@[simp] theorem setSlot_route (s : State) (i k : Nat) (l : Slot) : (setSlot s i k l).route = s.route := rfl
@[simp] theorem setSlot_core (s : State) (i k : Nat) (l : Slot) : (setSlot s i k l).core = s.core := rfl
@[simp] theorem setSlot_cong (s : State) (i k : Nat) (l : Slot) : (setSlot s i k l).cong = s.cong := rfl
@[simp] theorem setSlot_link (s : State) (i k : Nat) (l : Slot) : (setSlot s i k l).link = s.link := rfl
@[simp] theorem setSlot_ras (s : State) (i k : Nat) (l : Slot) : (setSlot s i k l).ras = s.ras := rfl
@[simp] theorem setSlot_sys (s : State) (i k : Nat) (l : Slot) : (setSlot s i k l).sys = s.sys := rfl
@[simp] theorem setSlot_settle (s : State) (i k : Nat) (l : Slot) : (setSlot s i k l).settle = s.settle := rfl
@[simp] theorem setSlot_pwr (s : State) (i k : Nat) (l : Slot) : (setSlot s i k l).pwr = s.pwr := rfl

@[simp] theorem setDrawer_now (s : State) (i : Nat) (d : Drawer) : (setDrawer s i d).now = s.now := rfl
@[simp] theorem setDrawer_draws (s : State) (i : Nat) (d : Drawer) : (setDrawer s i d).draws = s.draws := rfl
@[simp] theorem setDrawer_regs (s : State) (i : Nat) (d : Drawer) : (setDrawer s i d).regs = s.regs := rfl
@[simp] theorem setDrawer_out (s : State) (i : Nat) (d : Drawer) : (setDrawer s i d).out = s.out := rfl
@[simp] theorem setDrawer_pending (s : State) (i : Nat) (d : Drawer) : (setDrawer s i d).pending = s.pending := rfl
@[simp] theorem setDrawer_rings (s : State) (i : Nat) (d : Drawer) : (setDrawer s i d).rings = s.rings := rfl
@[simp] theorem setDrawer_pool (s : State) (i : Nat) (d : Drawer) : (setDrawer s i d).pool = s.pool := rfl
@[simp] theorem setDrawer_mgmt (s : State) (i : Nat) (d : Drawer) : (setDrawer s i d).mgmt = s.mgmt := rfl
@[simp] theorem setDrawer_coh (s : State) (i : Nat) (d : Drawer) : (setDrawer s i d).coh = s.coh := rfl
@[simp] theorem setDrawer_ord (s : State) (i : Nat) (d : Drawer) : (setDrawer s i d).ord = s.ord := rfl
@[simp] theorem setDrawer_atm (s : State) (i : Nat) (d : Drawer) : (setDrawer s i d).atm = s.atm := rfl
@[simp] theorem setDrawer_tier (s : State) (i : Nat) (d : Drawer) : (setDrawer s i d).tier = s.tier := rfl
@[simp] theorem setDrawer_cmp (s : State) (i : Nat) (d : Drawer) : (setDrawer s i d).cmp = s.cmp := rfl
@[simp] theorem setDrawer_stk (s : State) (i : Nat) (d : Drawer) : (setDrawer s i d).stk = s.stk := rfl
@[simp] theorem setDrawer_bau (s : State) (i : Nat) (d : Drawer) : (setDrawer s i d).bau = s.bau := rfl
@[simp] theorem setDrawer_trs (s : State) (i : Nat) (d : Drawer) : (setDrawer s i d).trs = s.trs := rfl
@[simp] theorem setDrawer_train (s : State) (i : Nat) (d : Drawer) : (setDrawer s i d).train = s.train := rfl
@[simp] theorem setDrawer_route (s : State) (i : Nat) (d : Drawer) : (setDrawer s i d).route = s.route := rfl
@[simp] theorem setDrawer_core (s : State) (i : Nat) (d : Drawer) : (setDrawer s i d).core = s.core := rfl
@[simp] theorem setDrawer_cong (s : State) (i : Nat) (d : Drawer) : (setDrawer s i d).cong = s.cong := rfl
@[simp] theorem setDrawer_link (s : State) (i : Nat) (d : Drawer) : (setDrawer s i d).link = s.link := rfl
@[simp] theorem setDrawer_ras (s : State) (i : Nat) (d : Drawer) : (setDrawer s i d).ras = s.ras := rfl
@[simp] theorem setDrawer_sys (s : State) (i : Nat) (d : Drawer) : (setDrawer s i d).sys = s.sys := rfl
@[simp] theorem setDrawer_settle (s : State) (i : Nat) (d : Drawer) : (setDrawer s i d).settle = s.settle := rfl
@[simp] theorem setDrawer_pwr (s : State) (i : Nat) (d : Drawer) : (setDrawer s i d).pwr = s.pwr := rfl

@[simp] theorem setOp_now (s : State) (i : Nat) (w : WOp) : (setOp s i w).now = s.now := rfl
@[simp] theorem setOp_draws (s : State) (i : Nat) (w : WOp) : (setOp s i w).draws = s.draws := rfl
@[simp] theorem setOp_regs (s : State) (i : Nat) (w : WOp) : (setOp s i w).regs = s.regs := rfl
@[simp] theorem setOp_out (s : State) (i : Nat) (w : WOp) : (setOp s i w).out = s.out := rfl
@[simp] theorem setOp_pending (s : State) (i : Nat) (w : WOp) : (setOp s i w).pending = s.pending := rfl
@[simp] theorem setOp_rings (s : State) (i : Nat) (w : WOp) : (setOp s i w).rings = s.rings := rfl
@[simp] theorem setOp_pool (s : State) (i : Nat) (w : WOp) : (setOp s i w).pool = s.pool := rfl
@[simp] theorem setOp_mgmt (s : State) (i : Nat) (w : WOp) : (setOp s i w).mgmt = s.mgmt := rfl
@[simp] theorem setOp_coh (s : State) (i : Nat) (w : WOp) : (setOp s i w).coh = s.coh := rfl
@[simp] theorem setOp_ord (s : State) (i : Nat) (w : WOp) : (setOp s i w).ord = s.ord := rfl
@[simp] theorem setOp_atm (s : State) (i : Nat) (w : WOp) : (setOp s i w).atm = s.atm := rfl
@[simp] theorem setOp_obj (s : State) (i : Nat) (w : WOp) : (setOp s i w).obj = s.obj := rfl
@[simp] theorem setOp_cmp (s : State) (i : Nat) (w : WOp) : (setOp s i w).cmp = s.cmp := rfl
@[simp] theorem setOp_stk (s : State) (i : Nat) (w : WOp) : (setOp s i w).stk = s.stk := rfl
@[simp] theorem setOp_bau (s : State) (i : Nat) (w : WOp) : (setOp s i w).bau = s.bau := rfl
@[simp] theorem setOp_trs (s : State) (i : Nat) (w : WOp) : (setOp s i w).trs = s.trs := rfl
@[simp] theorem setOp_train (s : State) (i : Nat) (w : WOp) : (setOp s i w).train = s.train := rfl
@[simp] theorem setOp_route (s : State) (i : Nat) (w : WOp) : (setOp s i w).route = s.route := rfl
@[simp] theorem setOp_core (s : State) (i : Nat) (w : WOp) : (setOp s i w).core = s.core := rfl
@[simp] theorem setOp_cong (s : State) (i : Nat) (w : WOp) : (setOp s i w).cong = s.cong := rfl
@[simp] theorem setOp_link (s : State) (i : Nat) (w : WOp) : (setOp s i w).link = s.link := rfl
@[simp] theorem setOp_ras (s : State) (i : Nat) (w : WOp) : (setOp s i w).ras = s.ras := rfl
@[simp] theorem setOp_sys (s : State) (i : Nat) (w : WOp) : (setOp s i w).sys = s.sys := rfl
@[simp] theorem setOp_settle (s : State) (i : Nat) (w : WOp) : (setOp s i w).settle = s.settle := rfl
@[simp] theorem setOp_pwr (s : State) (i : Nat) (w : WOp) : (setOp s i w).pwr = s.pwr := rfl

@[simp] theorem setPlacement_now (s : State) (i : Nat) (x : Placement) : (setPlacement s i x).now = s.now := rfl
@[simp] theorem setPlacement_draws (s : State) (i : Nat) (x : Placement) : (setPlacement s i x).draws = s.draws := rfl
@[simp] theorem setPlacement_regs (s : State) (i : Nat) (x : Placement) : (setPlacement s i x).regs = s.regs := rfl
@[simp] theorem setPlacement_out (s : State) (i : Nat) (x : Placement) : (setPlacement s i x).out = s.out := rfl
@[simp] theorem setPlacement_pending (s : State) (i : Nat) (x : Placement) : (setPlacement s i x).pending = s.pending := rfl
@[simp] theorem setPlacement_rings (s : State) (i : Nat) (x : Placement) : (setPlacement s i x).rings = s.rings := rfl
@[simp] theorem setPlacement_pool (s : State) (i : Nat) (x : Placement) : (setPlacement s i x).pool = s.pool := rfl
@[simp] theorem setPlacement_mgmt (s : State) (i : Nat) (x : Placement) : (setPlacement s i x).mgmt = s.mgmt := rfl
@[simp] theorem setPlacement_coh (s : State) (i : Nat) (x : Placement) : (setPlacement s i x).coh = s.coh := rfl
@[simp] theorem setPlacement_ord (s : State) (i : Nat) (x : Placement) : (setPlacement s i x).ord = s.ord := rfl
@[simp] theorem setPlacement_atm (s : State) (i : Nat) (x : Placement) : (setPlacement s i x).atm = s.atm := rfl
@[simp] theorem setPlacement_obj (s : State) (i : Nat) (x : Placement) : (setPlacement s i x).obj = s.obj := rfl
@[simp] theorem setPlacement_tier (s : State) (i : Nat) (x : Placement) : (setPlacement s i x).tier = s.tier := rfl
@[simp] theorem setPlacement_cmp (s : State) (i : Nat) (x : Placement) : (setPlacement s i x).cmp = s.cmp := rfl
@[simp] theorem setPlacement_stk (s : State) (i : Nat) (x : Placement) : (setPlacement s i x).stk = s.stk := rfl
@[simp] theorem setPlacement_trs (s : State) (i : Nat) (x : Placement) : (setPlacement s i x).trs = s.trs := rfl
@[simp] theorem setPlacement_train (s : State) (i : Nat) (x : Placement) : (setPlacement s i x).train = s.train := rfl
@[simp] theorem setPlacement_route (s : State) (i : Nat) (x : Placement) : (setPlacement s i x).route = s.route := rfl
@[simp] theorem setPlacement_core (s : State) (i : Nat) (x : Placement) : (setPlacement s i x).core = s.core := rfl
@[simp] theorem setPlacement_cong (s : State) (i : Nat) (x : Placement) : (setPlacement s i x).cong = s.cong := rfl
@[simp] theorem setPlacement_link (s : State) (i : Nat) (x : Placement) : (setPlacement s i x).link = s.link := rfl
@[simp] theorem setPlacement_ras (s : State) (i : Nat) (x : Placement) : (setPlacement s i x).ras = s.ras := rfl
@[simp] theorem setPlacement_sys (s : State) (i : Nat) (x : Placement) : (setPlacement s i x).sys = s.sys := rfl
@[simp] theorem setPlacement_settle (s : State) (i : Nat) (x : Placement) : (setPlacement s i x).settle = s.settle := rfl
@[simp] theorem setPlacement_pwr (s : State) (i : Nat) (x : Placement) : (setPlacement s i x).pwr = s.pwr := rfl

@[simp] theorem setSeq_now (s : State) (q : Seq) : (setSeq s q).now = s.now := rfl
@[simp] theorem setSeq_draws (s : State) (q : Seq) : (setSeq s q).draws = s.draws := rfl
@[simp] theorem setSeq_regs (s : State) (q : Seq) : (setSeq s q).regs = s.regs := rfl
@[simp] theorem setSeq_out (s : State) (q : Seq) : (setSeq s q).out = s.out := rfl
@[simp] theorem setSeq_pending (s : State) (q : Seq) : (setSeq s q).pending = s.pending := rfl
@[simp] theorem setSeq_rings (s : State) (q : Seq) : (setSeq s q).rings = s.rings := rfl
@[simp] theorem setSeq_pool (s : State) (q : Seq) : (setSeq s q).pool = s.pool := rfl
@[simp] theorem setSeq_mgmt (s : State) (q : Seq) : (setSeq s q).mgmt = s.mgmt := rfl
@[simp] theorem setSeq_coh (s : State) (q : Seq) : (setSeq s q).coh = s.coh := rfl
@[simp] theorem setSeq_ord (s : State) (q : Seq) : (setSeq s q).ord = s.ord := rfl
@[simp] theorem setSeq_atm (s : State) (q : Seq) : (setSeq s q).atm = s.atm := rfl
@[simp] theorem setSeq_obj (s : State) (q : Seq) : (setSeq s q).obj = s.obj := rfl
@[simp] theorem setSeq_tier (s : State) (q : Seq) : (setSeq s q).tier = s.tier := rfl
@[simp] theorem setSeq_cmp (s : State) (q : Seq) : (setSeq s q).cmp = s.cmp := rfl
@[simp] theorem setSeq_stk (s : State) (q : Seq) : (setSeq s q).stk = s.stk := rfl
@[simp] theorem setSeq_trs (s : State) (q : Seq) : (setSeq s q).trs = s.trs := rfl
@[simp] theorem setSeq_train (s : State) (q : Seq) : (setSeq s q).train = s.train := rfl
@[simp] theorem setSeq_route (s : State) (q : Seq) : (setSeq s q).route = s.route := rfl
@[simp] theorem setSeq_core (s : State) (q : Seq) : (setSeq s q).core = s.core := rfl
@[simp] theorem setSeq_cong (s : State) (q : Seq) : (setSeq s q).cong = s.cong := rfl
@[simp] theorem setSeq_link (s : State) (q : Seq) : (setSeq s q).link = s.link := rfl
@[simp] theorem setSeq_ras (s : State) (q : Seq) : (setSeq s q).ras = s.ras := rfl
@[simp] theorem setSeq_sys (s : State) (q : Seq) : (setSeq s q).sys = s.sys := rfl
@[simp] theorem setSeq_settle (s : State) (q : Seq) : (setSeq s q).settle = s.settle := rfl
@[simp] theorem setSeq_pwr (s : State) (q : Seq) : (setSeq s q).pwr = s.pwr := rfl

@[simp] theorem setCslot_now (s : State) (i : Nat) (c : CSlot) : (setCslot s i c).now = s.now := rfl
@[simp] theorem setCslot_draws (s : State) (i : Nat) (c : CSlot) : (setCslot s i c).draws = s.draws := rfl
@[simp] theorem setCslot_regs (s : State) (i : Nat) (c : CSlot) : (setCslot s i c).regs = s.regs := rfl
@[simp] theorem setCslot_out (s : State) (i : Nat) (c : CSlot) : (setCslot s i c).out = s.out := rfl
@[simp] theorem setCslot_pending (s : State) (i : Nat) (c : CSlot) : (setCslot s i c).pending = s.pending := rfl
@[simp] theorem setCslot_rings (s : State) (i : Nat) (c : CSlot) : (setCslot s i c).rings = s.rings := rfl
@[simp] theorem setCslot_pool (s : State) (i : Nat) (c : CSlot) : (setCslot s i c).pool = s.pool := rfl
@[simp] theorem setCslot_mgmt (s : State) (i : Nat) (c : CSlot) : (setCslot s i c).mgmt = s.mgmt := rfl
@[simp] theorem setCslot_coh (s : State) (i : Nat) (c : CSlot) : (setCslot s i c).coh = s.coh := rfl
@[simp] theorem setCslot_ord (s : State) (i : Nat) (c : CSlot) : (setCslot s i c).ord = s.ord := rfl
@[simp] theorem setCslot_atm (s : State) (i : Nat) (c : CSlot) : (setCslot s i c).atm = s.atm := rfl
@[simp] theorem setCslot_obj (s : State) (i : Nat) (c : CSlot) : (setCslot s i c).obj = s.obj := rfl
@[simp] theorem setCslot_tier (s : State) (i : Nat) (c : CSlot) : (setCslot s i c).tier = s.tier := rfl
@[simp] theorem setCslot_stk (s : State) (i : Nat) (c : CSlot) : (setCslot s i c).stk = s.stk := rfl
@[simp] theorem setCslot_bau (s : State) (i : Nat) (c : CSlot) : (setCslot s i c).bau = s.bau := rfl
@[simp] theorem setCslot_trs (s : State) (i : Nat) (c : CSlot) : (setCslot s i c).trs = s.trs := rfl
@[simp] theorem setCslot_train (s : State) (i : Nat) (c : CSlot) : (setCslot s i c).train = s.train := rfl
@[simp] theorem setCslot_route (s : State) (i : Nat) (c : CSlot) : (setCslot s i c).route = s.route := rfl
@[simp] theorem setCslot_core (s : State) (i : Nat) (c : CSlot) : (setCslot s i c).core = s.core := rfl
@[simp] theorem setCslot_cong (s : State) (i : Nat) (c : CSlot) : (setCslot s i c).cong = s.cong := rfl
@[simp] theorem setCslot_link (s : State) (i : Nat) (c : CSlot) : (setCslot s i c).link = s.link := rfl
@[simp] theorem setCslot_ras (s : State) (i : Nat) (c : CSlot) : (setCslot s i c).ras = s.ras := rfl
@[simp] theorem setCslot_sys (s : State) (i : Nat) (c : CSlot) : (setCslot s i c).sys = s.sys := rfl
@[simp] theorem setCslot_settle (s : State) (i : Nat) (c : CSlot) : (setCslot s i c).settle = s.settle := rfl
@[simp] theorem setCslot_pwr (s : State) (i : Nat) (c : CSlot) : (setCslot s i c).pwr = s.pwr := rfl

@[simp] theorem setBuild_now (s : State) (b : CBuild) : (setBuild s b).now = s.now := rfl
@[simp] theorem setBuild_draws (s : State) (b : CBuild) : (setBuild s b).draws = s.draws := rfl
@[simp] theorem setBuild_regs (s : State) (b : CBuild) : (setBuild s b).regs = s.regs := rfl
@[simp] theorem setBuild_out (s : State) (b : CBuild) : (setBuild s b).out = s.out := rfl
@[simp] theorem setBuild_pending (s : State) (b : CBuild) : (setBuild s b).pending = s.pending := rfl
@[simp] theorem setBuild_rings (s : State) (b : CBuild) : (setBuild s b).rings = s.rings := rfl
@[simp] theorem setBuild_pool (s : State) (b : CBuild) : (setBuild s b).pool = s.pool := rfl
@[simp] theorem setBuild_mgmt (s : State) (b : CBuild) : (setBuild s b).mgmt = s.mgmt := rfl
@[simp] theorem setBuild_coh (s : State) (b : CBuild) : (setBuild s b).coh = s.coh := rfl
@[simp] theorem setBuild_ord (s : State) (b : CBuild) : (setBuild s b).ord = s.ord := rfl
@[simp] theorem setBuild_atm (s : State) (b : CBuild) : (setBuild s b).atm = s.atm := rfl
@[simp] theorem setBuild_obj (s : State) (b : CBuild) : (setBuild s b).obj = s.obj := rfl
@[simp] theorem setBuild_tier (s : State) (b : CBuild) : (setBuild s b).tier = s.tier := rfl
@[simp] theorem setBuild_stk (s : State) (b : CBuild) : (setBuild s b).stk = s.stk := rfl
@[simp] theorem setBuild_bau (s : State) (b : CBuild) : (setBuild s b).bau = s.bau := rfl
@[simp] theorem setBuild_trs (s : State) (b : CBuild) : (setBuild s b).trs = s.trs := rfl
@[simp] theorem setBuild_train (s : State) (b : CBuild) : (setBuild s b).train = s.train := rfl
@[simp] theorem setBuild_route (s : State) (b : CBuild) : (setBuild s b).route = s.route := rfl
@[simp] theorem setBuild_core (s : State) (b : CBuild) : (setBuild s b).core = s.core := rfl
@[simp] theorem setBuild_cong (s : State) (b : CBuild) : (setBuild s b).cong = s.cong := rfl
@[simp] theorem setBuild_link (s : State) (b : CBuild) : (setBuild s b).link = s.link := rfl
@[simp] theorem setBuild_ras (s : State) (b : CBuild) : (setBuild s b).ras = s.ras := rfl
@[simp] theorem setBuild_sys (s : State) (b : CBuild) : (setBuild s b).sys = s.sys := rfl
@[simp] theorem setBuild_settle (s : State) (b : CBuild) : (setBuild s b).settle = s.settle := rfl
@[simp] theorem setBuild_pwr (s : State) (b : CBuild) : (setBuild s b).pwr = s.pwr := rfl

@[simp] theorem setStack_now (s : State) (i : Nat) (r : StackRec) : (setStack s i r).now = s.now := rfl
@[simp] theorem setStack_draws (s : State) (i : Nat) (r : StackRec) : (setStack s i r).draws = s.draws := rfl
@[simp] theorem setStack_regs (s : State) (i : Nat) (r : StackRec) : (setStack s i r).regs = s.regs := rfl
@[simp] theorem setStack_out (s : State) (i : Nat) (r : StackRec) : (setStack s i r).out = s.out := rfl
@[simp] theorem setStack_pending (s : State) (i : Nat) (r : StackRec) : (setStack s i r).pending = s.pending := rfl
@[simp] theorem setStack_rings (s : State) (i : Nat) (r : StackRec) : (setStack s i r).rings = s.rings := rfl
@[simp] theorem setStack_pool (s : State) (i : Nat) (r : StackRec) : (setStack s i r).pool = s.pool := rfl
@[simp] theorem setStack_mgmt (s : State) (i : Nat) (r : StackRec) : (setStack s i r).mgmt = s.mgmt := rfl
@[simp] theorem setStack_coh (s : State) (i : Nat) (r : StackRec) : (setStack s i r).coh = s.coh := rfl
@[simp] theorem setStack_ord (s : State) (i : Nat) (r : StackRec) : (setStack s i r).ord = s.ord := rfl
@[simp] theorem setStack_atm (s : State) (i : Nat) (r : StackRec) : (setStack s i r).atm = s.atm := rfl
@[simp] theorem setStack_obj (s : State) (i : Nat) (r : StackRec) : (setStack s i r).obj = s.obj := rfl
@[simp] theorem setStack_tier (s : State) (i : Nat) (r : StackRec) : (setStack s i r).tier = s.tier := rfl
@[simp] theorem setStack_cmp (s : State) (i : Nat) (r : StackRec) : (setStack s i r).cmp = s.cmp := rfl
@[simp] theorem setStack_bau (s : State) (i : Nat) (r : StackRec) : (setStack s i r).bau = s.bau := rfl
@[simp] theorem setStack_trs (s : State) (i : Nat) (r : StackRec) : (setStack s i r).trs = s.trs := rfl
@[simp] theorem setStack_train (s : State) (i : Nat) (r : StackRec) : (setStack s i r).train = s.train := rfl
@[simp] theorem setStack_route (s : State) (i : Nat) (r : StackRec) : (setStack s i r).route = s.route := rfl
@[simp] theorem setStack_core (s : State) (i : Nat) (r : StackRec) : (setStack s i r).core = s.core := rfl
@[simp] theorem setStack_cong (s : State) (i : Nat) (r : StackRec) : (setStack s i r).cong = s.cong := rfl
@[simp] theorem setStack_link (s : State) (i : Nat) (r : StackRec) : (setStack s i r).link = s.link := rfl
@[simp] theorem setStack_ras (s : State) (i : Nat) (r : StackRec) : (setStack s i r).ras = s.ras := rfl
@[simp] theorem setStack_sys (s : State) (i : Nat) (r : StackRec) : (setStack s i r).sys = s.sys := rfl
@[simp] theorem setStack_settle (s : State) (i : Nat) (r : StackRec) : (setStack s i r).settle = s.settle := rfl
@[simp] theorem setStack_pwr (s : State) (i : Nat) (r : StackRec) : (setStack s i r).pwr = s.pwr := rfl

@[simp] theorem setUnit_now (s : State) (u : Nat) (x : TUnitSt) : (setUnit s u x).now = s.now := rfl
@[simp] theorem setUnit_draws (s : State) (u : Nat) (x : TUnitSt) : (setUnit s u x).draws = s.draws := rfl
@[simp] theorem setUnit_regs (s : State) (u : Nat) (x : TUnitSt) : (setUnit s u x).regs = s.regs := rfl
@[simp] theorem setUnit_out (s : State) (u : Nat) (x : TUnitSt) : (setUnit s u x).out = s.out := rfl
@[simp] theorem setUnit_pending (s : State) (u : Nat) (x : TUnitSt) : (setUnit s u x).pending = s.pending := rfl
@[simp] theorem setUnit_rings (s : State) (u : Nat) (x : TUnitSt) : (setUnit s u x).rings = s.rings := rfl
@[simp] theorem setUnit_pool (s : State) (u : Nat) (x : TUnitSt) : (setUnit s u x).pool = s.pool := rfl
@[simp] theorem setUnit_mgmt (s : State) (u : Nat) (x : TUnitSt) : (setUnit s u x).mgmt = s.mgmt := rfl
@[simp] theorem setUnit_coh (s : State) (u : Nat) (x : TUnitSt) : (setUnit s u x).coh = s.coh := rfl
@[simp] theorem setUnit_ord (s : State) (u : Nat) (x : TUnitSt) : (setUnit s u x).ord = s.ord := rfl
@[simp] theorem setUnit_atm (s : State) (u : Nat) (x : TUnitSt) : (setUnit s u x).atm = s.atm := rfl
@[simp] theorem setUnit_obj (s : State) (u : Nat) (x : TUnitSt) : (setUnit s u x).obj = s.obj := rfl
@[simp] theorem setUnit_tier (s : State) (u : Nat) (x : TUnitSt) : (setUnit s u x).tier = s.tier := rfl
@[simp] theorem setUnit_cmp (s : State) (u : Nat) (x : TUnitSt) : (setUnit s u x).cmp = s.cmp := rfl
@[simp] theorem setUnit_stk (s : State) (u : Nat) (x : TUnitSt) : (setUnit s u x).stk = s.stk := rfl
@[simp] theorem setUnit_bau (s : State) (u : Nat) (x : TUnitSt) : (setUnit s u x).bau = s.bau := rfl
@[simp] theorem setUnit_train (s : State) (u : Nat) (x : TUnitSt) : (setUnit s u x).train = s.train := rfl
@[simp] theorem setUnit_route (s : State) (u : Nat) (x : TUnitSt) : (setUnit s u x).route = s.route := rfl
@[simp] theorem setUnit_core (s : State) (u : Nat) (x : TUnitSt) : (setUnit s u x).core = s.core := rfl
@[simp] theorem setUnit_cong (s : State) (u : Nat) (x : TUnitSt) : (setUnit s u x).cong = s.cong := rfl
@[simp] theorem setUnit_link (s : State) (u : Nat) (x : TUnitSt) : (setUnit s u x).link = s.link := rfl
@[simp] theorem setUnit_ras (s : State) (u : Nat) (x : TUnitSt) : (setUnit s u x).ras = s.ras := rfl
@[simp] theorem setUnit_sys (s : State) (u : Nat) (x : TUnitSt) : (setUnit s u x).sys = s.sys := rfl
@[simp] theorem setUnit_settle (s : State) (u : Nat) (x : TUnitSt) : (setUnit s u x).settle = s.settle := rfl
@[simp] theorem setUnit_pwr (s : State) (u : Nat) (x : TUnitSt) : (setUnit s u x).pwr = s.pwr := rfl

@[simp] theorem setGang_now (s : State) (u g : Nat) (x : Gang) : (setGang s u g x).now = s.now := rfl
@[simp] theorem setGang_draws (s : State) (u g : Nat) (x : Gang) : (setGang s u g x).draws = s.draws := rfl
@[simp] theorem setGang_regs (s : State) (u g : Nat) (x : Gang) : (setGang s u g x).regs = s.regs := rfl
@[simp] theorem setGang_out (s : State) (u g : Nat) (x : Gang) : (setGang s u g x).out = s.out := rfl
@[simp] theorem setGang_pending (s : State) (u g : Nat) (x : Gang) : (setGang s u g x).pending = s.pending := rfl
@[simp] theorem setGang_rings (s : State) (u g : Nat) (x : Gang) : (setGang s u g x).rings = s.rings := rfl
@[simp] theorem setGang_pool (s : State) (u g : Nat) (x : Gang) : (setGang s u g x).pool = s.pool := rfl
@[simp] theorem setGang_mgmt (s : State) (u g : Nat) (x : Gang) : (setGang s u g x).mgmt = s.mgmt := rfl
@[simp] theorem setGang_coh (s : State) (u g : Nat) (x : Gang) : (setGang s u g x).coh = s.coh := rfl
@[simp] theorem setGang_ord (s : State) (u g : Nat) (x : Gang) : (setGang s u g x).ord = s.ord := rfl
@[simp] theorem setGang_atm (s : State) (u g : Nat) (x : Gang) : (setGang s u g x).atm = s.atm := rfl
@[simp] theorem setGang_obj (s : State) (u g : Nat) (x : Gang) : (setGang s u g x).obj = s.obj := rfl
@[simp] theorem setGang_tier (s : State) (u g : Nat) (x : Gang) : (setGang s u g x).tier = s.tier := rfl
@[simp] theorem setGang_cmp (s : State) (u g : Nat) (x : Gang) : (setGang s u g x).cmp = s.cmp := rfl
@[simp] theorem setGang_stk (s : State) (u g : Nat) (x : Gang) : (setGang s u g x).stk = s.stk := rfl
@[simp] theorem setGang_bau (s : State) (u g : Nat) (x : Gang) : (setGang s u g x).bau = s.bau := rfl
@[simp] theorem setGang_train (s : State) (u g : Nat) (x : Gang) : (setGang s u g x).train = s.train := rfl
@[simp] theorem setGang_route (s : State) (u g : Nat) (x : Gang) : (setGang s u g x).route = s.route := rfl
@[simp] theorem setGang_core (s : State) (u g : Nat) (x : Gang) : (setGang s u g x).core = s.core := rfl
@[simp] theorem setGang_cong (s : State) (u g : Nat) (x : Gang) : (setGang s u g x).cong = s.cong := rfl
@[simp] theorem setGang_link (s : State) (u g : Nat) (x : Gang) : (setGang s u g x).link = s.link := rfl
@[simp] theorem setGang_ras (s : State) (u g : Nat) (x : Gang) : (setGang s u g x).ras = s.ras := rfl
@[simp] theorem setGang_sys (s : State) (u g : Nat) (x : Gang) : (setGang s u g x).sys = s.sys := rfl
@[simp] theorem setGang_settle (s : State) (u g : Nat) (x : Gang) : (setGang s u g x).settle = s.settle := rfl
@[simp] theorem setGang_pwr (s : State) (u g : Nat) (x : Gang) : (setGang s u g x).pwr = s.pwr := rfl

@[simp] theorem setLaunch_now (s : State) (h : Nat) (l : TLaunch) : (setLaunch s h l).now = s.now := rfl
@[simp] theorem setLaunch_draws (s : State) (h : Nat) (l : TLaunch) : (setLaunch s h l).draws = s.draws := rfl
@[simp] theorem setLaunch_regs (s : State) (h : Nat) (l : TLaunch) : (setLaunch s h l).regs = s.regs := rfl
@[simp] theorem setLaunch_out (s : State) (h : Nat) (l : TLaunch) : (setLaunch s h l).out = s.out := rfl
@[simp] theorem setLaunch_pending (s : State) (h : Nat) (l : TLaunch) : (setLaunch s h l).pending = s.pending := rfl
@[simp] theorem setLaunch_rings (s : State) (h : Nat) (l : TLaunch) : (setLaunch s h l).rings = s.rings := rfl
@[simp] theorem setLaunch_pool (s : State) (h : Nat) (l : TLaunch) : (setLaunch s h l).pool = s.pool := rfl
@[simp] theorem setLaunch_mgmt (s : State) (h : Nat) (l : TLaunch) : (setLaunch s h l).mgmt = s.mgmt := rfl
@[simp] theorem setLaunch_coh (s : State) (h : Nat) (l : TLaunch) : (setLaunch s h l).coh = s.coh := rfl
@[simp] theorem setLaunch_ord (s : State) (h : Nat) (l : TLaunch) : (setLaunch s h l).ord = s.ord := rfl
@[simp] theorem setLaunch_atm (s : State) (h : Nat) (l : TLaunch) : (setLaunch s h l).atm = s.atm := rfl
@[simp] theorem setLaunch_obj (s : State) (h : Nat) (l : TLaunch) : (setLaunch s h l).obj = s.obj := rfl
@[simp] theorem setLaunch_tier (s : State) (h : Nat) (l : TLaunch) : (setLaunch s h l).tier = s.tier := rfl
@[simp] theorem setLaunch_cmp (s : State) (h : Nat) (l : TLaunch) : (setLaunch s h l).cmp = s.cmp := rfl
@[simp] theorem setLaunch_stk (s : State) (h : Nat) (l : TLaunch) : (setLaunch s h l).stk = s.stk := rfl
@[simp] theorem setLaunch_bau (s : State) (h : Nat) (l : TLaunch) : (setLaunch s h l).bau = s.bau := rfl
@[simp] theorem setLaunch_train (s : State) (h : Nat) (l : TLaunch) : (setLaunch s h l).train = s.train := rfl
@[simp] theorem setLaunch_route (s : State) (h : Nat) (l : TLaunch) : (setLaunch s h l).route = s.route := rfl
@[simp] theorem setLaunch_core (s : State) (h : Nat) (l : TLaunch) : (setLaunch s h l).core = s.core := rfl
@[simp] theorem setLaunch_cong (s : State) (h : Nat) (l : TLaunch) : (setLaunch s h l).cong = s.cong := rfl
@[simp] theorem setLaunch_link (s : State) (h : Nat) (l : TLaunch) : (setLaunch s h l).link = s.link := rfl
@[simp] theorem setLaunch_ras (s : State) (h : Nat) (l : TLaunch) : (setLaunch s h l).ras = s.ras := rfl
@[simp] theorem setLaunch_sys (s : State) (h : Nat) (l : TLaunch) : (setLaunch s h l).sys = s.sys := rfl
@[simp] theorem setLaunch_settle (s : State) (h : Nat) (l : TLaunch) : (setLaunch s h l).settle = s.settle := rfl
@[simp] theorem setLaunch_pwr (s : State) (h : Nat) (l : TLaunch) : (setLaunch s h l).pwr = s.pwr := rfl

@[simp] theorem modLaunch_now (s : State) (h : Nat) (f : TLaunch → TLaunch) : (modLaunch s h f).now = s.now := rfl
@[simp] theorem modLaunch_draws (s : State) (h : Nat) (f : TLaunch → TLaunch) : (modLaunch s h f).draws = s.draws := rfl
@[simp] theorem modLaunch_regs (s : State) (h : Nat) (f : TLaunch → TLaunch) : (modLaunch s h f).regs = s.regs := rfl
@[simp] theorem modLaunch_out (s : State) (h : Nat) (f : TLaunch → TLaunch) : (modLaunch s h f).out = s.out := rfl
@[simp] theorem modLaunch_pending (s : State) (h : Nat) (f : TLaunch → TLaunch) : (modLaunch s h f).pending = s.pending := rfl
@[simp] theorem modLaunch_rings (s : State) (h : Nat) (f : TLaunch → TLaunch) : (modLaunch s h f).rings = s.rings := rfl
@[simp] theorem modLaunch_pool (s : State) (h : Nat) (f : TLaunch → TLaunch) : (modLaunch s h f).pool = s.pool := rfl
@[simp] theorem modLaunch_mgmt (s : State) (h : Nat) (f : TLaunch → TLaunch) : (modLaunch s h f).mgmt = s.mgmt := rfl
@[simp] theorem modLaunch_coh (s : State) (h : Nat) (f : TLaunch → TLaunch) : (modLaunch s h f).coh = s.coh := rfl
@[simp] theorem modLaunch_ord (s : State) (h : Nat) (f : TLaunch → TLaunch) : (modLaunch s h f).ord = s.ord := rfl
@[simp] theorem modLaunch_atm (s : State) (h : Nat) (f : TLaunch → TLaunch) : (modLaunch s h f).atm = s.atm := rfl
@[simp] theorem modLaunch_obj (s : State) (h : Nat) (f : TLaunch → TLaunch) : (modLaunch s h f).obj = s.obj := rfl
@[simp] theorem modLaunch_tier (s : State) (h : Nat) (f : TLaunch → TLaunch) : (modLaunch s h f).tier = s.tier := rfl
@[simp] theorem modLaunch_cmp (s : State) (h : Nat) (f : TLaunch → TLaunch) : (modLaunch s h f).cmp = s.cmp := rfl
@[simp] theorem modLaunch_stk (s : State) (h : Nat) (f : TLaunch → TLaunch) : (modLaunch s h f).stk = s.stk := rfl
@[simp] theorem modLaunch_bau (s : State) (h : Nat) (f : TLaunch → TLaunch) : (modLaunch s h f).bau = s.bau := rfl
@[simp] theorem modLaunch_train (s : State) (h : Nat) (f : TLaunch → TLaunch) : (modLaunch s h f).train = s.train := rfl
@[simp] theorem modLaunch_route (s : State) (h : Nat) (f : TLaunch → TLaunch) : (modLaunch s h f).route = s.route := rfl
@[simp] theorem modLaunch_core (s : State) (h : Nat) (f : TLaunch → TLaunch) : (modLaunch s h f).core = s.core := rfl
@[simp] theorem modLaunch_cong (s : State) (h : Nat) (f : TLaunch → TLaunch) : (modLaunch s h f).cong = s.cong := rfl
@[simp] theorem modLaunch_link (s : State) (h : Nat) (f : TLaunch → TLaunch) : (modLaunch s h f).link = s.link := rfl
@[simp] theorem modLaunch_ras (s : State) (h : Nat) (f : TLaunch → TLaunch) : (modLaunch s h f).ras = s.ras := rfl
@[simp] theorem modLaunch_sys (s : State) (h : Nat) (f : TLaunch → TLaunch) : (modLaunch s h f).sys = s.sys := rfl
@[simp] theorem modLaunch_settle (s : State) (h : Nat) (f : TLaunch → TLaunch) : (modLaunch s h f).settle = s.settle := rfl
@[simp] theorem modLaunch_pwr (s : State) (h : Nat) (f : TLaunch → TLaunch) : (modLaunch s h f).pwr = s.pwr := rfl

@[simp] theorem setLink_now (s : State) (p : Nat) (l : Link) : (setLink s p l).now = s.now := rfl
@[simp] theorem setLink_draws (s : State) (p : Nat) (l : Link) : (setLink s p l).draws = s.draws := rfl
@[simp] theorem setLink_regs (s : State) (p : Nat) (l : Link) : (setLink s p l).regs = s.regs := rfl
@[simp] theorem setLink_out (s : State) (p : Nat) (l : Link) : (setLink s p l).out = s.out := rfl
@[simp] theorem setLink_pending (s : State) (p : Nat) (l : Link) : (setLink s p l).pending = s.pending := rfl
@[simp] theorem setLink_rings (s : State) (p : Nat) (l : Link) : (setLink s p l).rings = s.rings := rfl
@[simp] theorem setLink_pool (s : State) (p : Nat) (l : Link) : (setLink s p l).pool = s.pool := rfl
@[simp] theorem setLink_mgmt (s : State) (p : Nat) (l : Link) : (setLink s p l).mgmt = s.mgmt := rfl
@[simp] theorem setLink_coh (s : State) (p : Nat) (l : Link) : (setLink s p l).coh = s.coh := rfl
@[simp] theorem setLink_ord (s : State) (p : Nat) (l : Link) : (setLink s p l).ord = s.ord := rfl
@[simp] theorem setLink_atm (s : State) (p : Nat) (l : Link) : (setLink s p l).atm = s.atm := rfl
@[simp] theorem setLink_obj (s : State) (p : Nat) (l : Link) : (setLink s p l).obj = s.obj := rfl
@[simp] theorem setLink_tier (s : State) (p : Nat) (l : Link) : (setLink s p l).tier = s.tier := rfl
@[simp] theorem setLink_cmp (s : State) (p : Nat) (l : Link) : (setLink s p l).cmp = s.cmp := rfl
@[simp] theorem setLink_stk (s : State) (p : Nat) (l : Link) : (setLink s p l).stk = s.stk := rfl
@[simp] theorem setLink_bau (s : State) (p : Nat) (l : Link) : (setLink s p l).bau = s.bau := rfl
@[simp] theorem setLink_trs (s : State) (p : Nat) (l : Link) : (setLink s p l).trs = s.trs := rfl
@[simp] theorem setLink_train (s : State) (p : Nat) (l : Link) : (setLink s p l).train = s.train := rfl
@[simp] theorem setLink_route (s : State) (p : Nat) (l : Link) : (setLink s p l).route = s.route := rfl
@[simp] theorem setLink_core (s : State) (p : Nat) (l : Link) : (setLink s p l).core = s.core := rfl
@[simp] theorem setLink_cong (s : State) (p : Nat) (l : Link) : (setLink s p l).cong = s.cong := rfl
@[simp] theorem setLink_ras (s : State) (p : Nat) (l : Link) : (setLink s p l).ras = s.ras := rfl
@[simp] theorem setLink_sys (s : State) (p : Nat) (l : Link) : (setLink s p l).sys = s.sys := rfl
@[simp] theorem setLink_settle (s : State) (p : Nat) (l : Link) : (setLink s p l).settle = s.settle := rfl
@[simp] theorem setLink_pwr (s : State) (p : Nat) (l : Link) : (setLink s p l).pwr = s.pwr := rfl

@[simp] theorem modLink_now (s : State) (p : Nat) (f : Link → Link) : (modLink s p f).now = s.now := rfl
@[simp] theorem modLink_draws (s : State) (p : Nat) (f : Link → Link) : (modLink s p f).draws = s.draws := rfl
@[simp] theorem modLink_regs (s : State) (p : Nat) (f : Link → Link) : (modLink s p f).regs = s.regs := rfl
@[simp] theorem modLink_out (s : State) (p : Nat) (f : Link → Link) : (modLink s p f).out = s.out := rfl
@[simp] theorem modLink_pending (s : State) (p : Nat) (f : Link → Link) : (modLink s p f).pending = s.pending := rfl
@[simp] theorem modLink_rings (s : State) (p : Nat) (f : Link → Link) : (modLink s p f).rings = s.rings := rfl
@[simp] theorem modLink_pool (s : State) (p : Nat) (f : Link → Link) : (modLink s p f).pool = s.pool := rfl
@[simp] theorem modLink_mgmt (s : State) (p : Nat) (f : Link → Link) : (modLink s p f).mgmt = s.mgmt := rfl
@[simp] theorem modLink_coh (s : State) (p : Nat) (f : Link → Link) : (modLink s p f).coh = s.coh := rfl
@[simp] theorem modLink_ord (s : State) (p : Nat) (f : Link → Link) : (modLink s p f).ord = s.ord := rfl
@[simp] theorem modLink_atm (s : State) (p : Nat) (f : Link → Link) : (modLink s p f).atm = s.atm := rfl
@[simp] theorem modLink_obj (s : State) (p : Nat) (f : Link → Link) : (modLink s p f).obj = s.obj := rfl
@[simp] theorem modLink_tier (s : State) (p : Nat) (f : Link → Link) : (modLink s p f).tier = s.tier := rfl
@[simp] theorem modLink_cmp (s : State) (p : Nat) (f : Link → Link) : (modLink s p f).cmp = s.cmp := rfl
@[simp] theorem modLink_stk (s : State) (p : Nat) (f : Link → Link) : (modLink s p f).stk = s.stk := rfl
@[simp] theorem modLink_bau (s : State) (p : Nat) (f : Link → Link) : (modLink s p f).bau = s.bau := rfl
@[simp] theorem modLink_trs (s : State) (p : Nat) (f : Link → Link) : (modLink s p f).trs = s.trs := rfl
@[simp] theorem modLink_train (s : State) (p : Nat) (f : Link → Link) : (modLink s p f).train = s.train := rfl
@[simp] theorem modLink_route (s : State) (p : Nat) (f : Link → Link) : (modLink s p f).route = s.route := rfl
@[simp] theorem modLink_core (s : State) (p : Nat) (f : Link → Link) : (modLink s p f).core = s.core := rfl
@[simp] theorem modLink_cong (s : State) (p : Nat) (f : Link → Link) : (modLink s p f).cong = s.cong := rfl
@[simp] theorem modLink_ras (s : State) (p : Nat) (f : Link → Link) : (modLink s p f).ras = s.ras := rfl
@[simp] theorem modLink_sys (s : State) (p : Nat) (f : Link → Link) : (modLink s p f).sys = s.sys := rfl
@[simp] theorem modLink_settle (s : State) (p : Nat) (f : Link → Link) : (modLink s p f).settle = s.settle := rfl
@[simp] theorem modLink_pwr (s : State) (p : Nat) (f : Link → Link) : (modLink s p f).pwr = s.pwr := rfl

@[simp] theorem setCxl_now (s : State) (p : Nat) (c : CxlPort) : (setCxl s p c).now = s.now := rfl
@[simp] theorem setCxl_draws (s : State) (p : Nat) (c : CxlPort) : (setCxl s p c).draws = s.draws := rfl
@[simp] theorem setCxl_regs (s : State) (p : Nat) (c : CxlPort) : (setCxl s p c).regs = s.regs := rfl
@[simp] theorem setCxl_out (s : State) (p : Nat) (c : CxlPort) : (setCxl s p c).out = s.out := rfl
@[simp] theorem setCxl_pending (s : State) (p : Nat) (c : CxlPort) : (setCxl s p c).pending = s.pending := rfl
@[simp] theorem setCxl_rings (s : State) (p : Nat) (c : CxlPort) : (setCxl s p c).rings = s.rings := rfl
@[simp] theorem setCxl_pool (s : State) (p : Nat) (c : CxlPort) : (setCxl s p c).pool = s.pool := rfl
@[simp] theorem setCxl_mgmt (s : State) (p : Nat) (c : CxlPort) : (setCxl s p c).mgmt = s.mgmt := rfl
@[simp] theorem setCxl_coh (s : State) (p : Nat) (c : CxlPort) : (setCxl s p c).coh = s.coh := rfl
@[simp] theorem setCxl_ord (s : State) (p : Nat) (c : CxlPort) : (setCxl s p c).ord = s.ord := rfl
@[simp] theorem setCxl_atm (s : State) (p : Nat) (c : CxlPort) : (setCxl s p c).atm = s.atm := rfl
@[simp] theorem setCxl_obj (s : State) (p : Nat) (c : CxlPort) : (setCxl s p c).obj = s.obj := rfl
@[simp] theorem setCxl_tier (s : State) (p : Nat) (c : CxlPort) : (setCxl s p c).tier = s.tier := rfl
@[simp] theorem setCxl_cmp (s : State) (p : Nat) (c : CxlPort) : (setCxl s p c).cmp = s.cmp := rfl
@[simp] theorem setCxl_stk (s : State) (p : Nat) (c : CxlPort) : (setCxl s p c).stk = s.stk := rfl
@[simp] theorem setCxl_bau (s : State) (p : Nat) (c : CxlPort) : (setCxl s p c).bau = s.bau := rfl
@[simp] theorem setCxl_trs (s : State) (p : Nat) (c : CxlPort) : (setCxl s p c).trs = s.trs := rfl
@[simp] theorem setCxl_train (s : State) (p : Nat) (c : CxlPort) : (setCxl s p c).train = s.train := rfl
@[simp] theorem setCxl_route (s : State) (p : Nat) (c : CxlPort) : (setCxl s p c).route = s.route := rfl
@[simp] theorem setCxl_core (s : State) (p : Nat) (c : CxlPort) : (setCxl s p c).core = s.core := rfl
@[simp] theorem setCxl_cong (s : State) (p : Nat) (c : CxlPort) : (setCxl s p c).cong = s.cong := rfl
@[simp] theorem setCxl_ras (s : State) (p : Nat) (c : CxlPort) : (setCxl s p c).ras = s.ras := rfl
@[simp] theorem setCxl_sys (s : State) (p : Nat) (c : CxlPort) : (setCxl s p c).sys = s.sys := rfl
@[simp] theorem setCxl_settle (s : State) (p : Nat) (c : CxlPort) : (setCxl s p c).settle = s.settle := rfl
@[simp] theorem setCxl_pwr (s : State) (p : Nat) (c : CxlPort) : (setCxl s p c).pwr = s.pwr := rfl

@[simp] theorem setSettle_now (s : State) (x : SettleSt) : (setSettle s x).now = s.now := rfl
@[simp] theorem setSettle_draws (s : State) (x : SettleSt) : (setSettle s x).draws = s.draws := rfl
@[simp] theorem setSettle_regs (s : State) (x : SettleSt) : (setSettle s x).regs = s.regs := rfl
@[simp] theorem setSettle_out (s : State) (x : SettleSt) : (setSettle s x).out = s.out := rfl
@[simp] theorem setSettle_pending (s : State) (x : SettleSt) : (setSettle s x).pending = s.pending := rfl
@[simp] theorem setSettle_rings (s : State) (x : SettleSt) : (setSettle s x).rings = s.rings := rfl
@[simp] theorem setSettle_pool (s : State) (x : SettleSt) : (setSettle s x).pool = s.pool := rfl
@[simp] theorem setSettle_mgmt (s : State) (x : SettleSt) : (setSettle s x).mgmt = s.mgmt := rfl
@[simp] theorem setSettle_coh (s : State) (x : SettleSt) : (setSettle s x).coh = s.coh := rfl
@[simp] theorem setSettle_ord (s : State) (x : SettleSt) : (setSettle s x).ord = s.ord := rfl
@[simp] theorem setSettle_atm (s : State) (x : SettleSt) : (setSettle s x).atm = s.atm := rfl
@[simp] theorem setSettle_obj (s : State) (x : SettleSt) : (setSettle s x).obj = s.obj := rfl
@[simp] theorem setSettle_tier (s : State) (x : SettleSt) : (setSettle s x).tier = s.tier := rfl
@[simp] theorem setSettle_cmp (s : State) (x : SettleSt) : (setSettle s x).cmp = s.cmp := rfl
@[simp] theorem setSettle_stk (s : State) (x : SettleSt) : (setSettle s x).stk = s.stk := rfl
@[simp] theorem setSettle_bau (s : State) (x : SettleSt) : (setSettle s x).bau = s.bau := rfl
@[simp] theorem setSettle_trs (s : State) (x : SettleSt) : (setSettle s x).trs = s.trs := rfl
@[simp] theorem setSettle_train (s : State) (x : SettleSt) : (setSettle s x).train = s.train := rfl
@[simp] theorem setSettle_route (s : State) (x : SettleSt) : (setSettle s x).route = s.route := rfl
@[simp] theorem setSettle_core (s : State) (x : SettleSt) : (setSettle s x).core = s.core := rfl
@[simp] theorem setSettle_cong (s : State) (x : SettleSt) : (setSettle s x).cong = s.cong := rfl
@[simp] theorem setSettle_link (s : State) (x : SettleSt) : (setSettle s x).link = s.link := rfl
@[simp] theorem setSettle_ras (s : State) (x : SettleSt) : (setSettle s x).ras = s.ras := rfl
@[simp] theorem setSettle_sys (s : State) (x : SettleSt) : (setSettle s x).sys = s.sys := rfl
@[simp] theorem setSettle_pwr (s : State) (x : SettleSt) : (setSettle s x).pwr = s.pwr := rfl

@[simp] theorem addIsland_now (s : State) (k i : Nat) : (addIsland s k i).now = s.now := rfl
@[simp] theorem addIsland_draws (s : State) (k i : Nat) : (addIsland s k i).draws = s.draws := rfl
@[simp] theorem addIsland_regs (s : State) (k i : Nat) : (addIsland s k i).regs = s.regs := rfl
@[simp] theorem addIsland_out (s : State) (k i : Nat) : (addIsland s k i).out = s.out := rfl
@[simp] theorem addIsland_pending (s : State) (k i : Nat) : (addIsland s k i).pending = s.pending := rfl
@[simp] theorem addIsland_rings (s : State) (k i : Nat) : (addIsland s k i).rings = s.rings := rfl
@[simp] theorem addIsland_pool (s : State) (k i : Nat) : (addIsland s k i).pool = s.pool := rfl
@[simp] theorem addIsland_mgmt (s : State) (k i : Nat) : (addIsland s k i).mgmt = s.mgmt := rfl
@[simp] theorem addIsland_coh (s : State) (k i : Nat) : (addIsland s k i).coh = s.coh := rfl
@[simp] theorem addIsland_ord (s : State) (k i : Nat) : (addIsland s k i).ord = s.ord := rfl
@[simp] theorem addIsland_atm (s : State) (k i : Nat) : (addIsland s k i).atm = s.atm := rfl
@[simp] theorem addIsland_obj (s : State) (k i : Nat) : (addIsland s k i).obj = s.obj := rfl
@[simp] theorem addIsland_tier (s : State) (k i : Nat) : (addIsland s k i).tier = s.tier := rfl
@[simp] theorem addIsland_cmp (s : State) (k i : Nat) : (addIsland s k i).cmp = s.cmp := rfl
@[simp] theorem addIsland_stk (s : State) (k i : Nat) : (addIsland s k i).stk = s.stk := rfl
@[simp] theorem addIsland_bau (s : State) (k i : Nat) : (addIsland s k i).bau = s.bau := rfl
@[simp] theorem addIsland_trs (s : State) (k i : Nat) : (addIsland s k i).trs = s.trs := rfl
@[simp] theorem addIsland_train (s : State) (k i : Nat) : (addIsland s k i).train = s.train := rfl
@[simp] theorem addIsland_route (s : State) (k i : Nat) : (addIsland s k i).route = s.route := rfl
@[simp] theorem addIsland_core (s : State) (k i : Nat) : (addIsland s k i).core = s.core := rfl
@[simp] theorem addIsland_cong (s : State) (k i : Nat) : (addIsland s k i).cong = s.cong := rfl
@[simp] theorem addIsland_link (s : State) (k i : Nat) : (addIsland s k i).link = s.link := rfl
@[simp] theorem addIsland_ras (s : State) (k i : Nat) : (addIsland s k i).ras = s.ras := rfl
@[simp] theorem addIsland_settle (s : State) (k i : Nat) : (addIsland s k i).settle = s.settle := rfl
@[simp] theorem addIsland_pwr (s : State) (k i : Nat) : (addIsland s k i).pwr = s.pwr := rfl

@[simp] theorem draw_now (s : State) : (draw s).2.now = s.now := rfl
@[simp] theorem draw_regs (s : State) : (draw s).2.regs = s.regs := rfl
@[simp] theorem draw_out (s : State) : (draw s).2.out = s.out := rfl
@[simp] theorem draw_pending (s : State) : (draw s).2.pending = s.pending := rfl
@[simp] theorem draw_rings (s : State) : (draw s).2.rings = s.rings := rfl
@[simp] theorem draw_pool (s : State) : (draw s).2.pool = s.pool := rfl
@[simp] theorem draw_mgmt (s : State) : (draw s).2.mgmt = s.mgmt := rfl
@[simp] theorem draw_coh (s : State) : (draw s).2.coh = s.coh := rfl
@[simp] theorem draw_ord (s : State) : (draw s).2.ord = s.ord := rfl
@[simp] theorem draw_atm (s : State) : (draw s).2.atm = s.atm := rfl
@[simp] theorem draw_obj (s : State) : (draw s).2.obj = s.obj := rfl
@[simp] theorem draw_tier (s : State) : (draw s).2.tier = s.tier := rfl
@[simp] theorem draw_cmp (s : State) : (draw s).2.cmp = s.cmp := rfl
@[simp] theorem draw_stk (s : State) : (draw s).2.stk = s.stk := rfl
@[simp] theorem draw_bau (s : State) : (draw s).2.bau = s.bau := rfl
@[simp] theorem draw_trs (s : State) : (draw s).2.trs = s.trs := rfl
@[simp] theorem draw_train (s : State) : (draw s).2.train = s.train := rfl
@[simp] theorem draw_route (s : State) : (draw s).2.route = s.route := rfl
@[simp] theorem draw_core (s : State) : (draw s).2.core = s.core := rfl
@[simp] theorem draw_cong (s : State) : (draw s).2.cong = s.cong := rfl
@[simp] theorem draw_link (s : State) : (draw s).2.link = s.link := rfl
@[simp] theorem draw_ras (s : State) : (draw s).2.ras = s.ras := rfl
@[simp] theorem draw_sys (s : State) : (draw s).2.sys = s.sys := rfl
@[simp] theorem draw_settle (s : State) : (draw s).2.settle = s.settle := rfl
@[simp] theorem draw_pwr (s : State) : (draw s).2.pwr = s.pwr := rfl

@[simp] theorem emit_out (s : State) (e : Emit) : (emit s e).out = s.out ++ [e] := rfl
@[simp] theorem draw_draws (s : State) : (draw s).2.draws = s.draws + 1 := rfl

end Sys2Proof.Machine
end

