-- ==== Sys2Proof/Laws/Ops.lean ====
section
/-! SUPPORT. What the named operations on tables, registers, rings, handles and memory do, said once. -/

namespace Sys2Proof.Machine

/-! ## Tables -/

@[simp] theorem tblFind_nil {α : Type} (k : Nat) : tblFind ([] : Tbl α) k = none := rfl

@[simp] theorem tblFind_put {α : Type} (t : Tbl α) (k : Nat) (v : α) : tblFind (tblPut t k v) k = some v := by
  induction t with
  | nil => simp [tblPut, tblFind]
  | cons e r ih =>
    obtain ⟨j, w⟩ := e
    simp only [tblPut]
    split
    · simp [tblFind]
    · split
      · simp [tblFind]
      · rw [tblFind]; simp [*]

theorem tblFind_put_ne {α : Type} (t : Tbl α) (k j : Nat) (v : α) (h : j ≠ k) : tblFind (tblPut t k v) j = tblFind t j := by
  induction t with
  | nil => simp [tblPut, tblFind]; omega
  | cons e r ih =>
    obtain ⟨i, w⟩ := e
    simp only [tblPut]
    split
    · simp only [tblFind]; (repeat' split) <;> first | rfl | omega
    · split
      · simp only [tblFind]; (repeat' split) <;> first | rfl | omega
      · simp only [tblFind, ih]

theorem tblFind_erase_ne {α : Type} (t : Tbl α) (k j : Nat) (h : j ≠ k) : tblFind (tblErase t k) j = tblFind t j := by
  unfold tblErase
  induction t with
  | nil => rfl
  | cons e r ih =>
    obtain ⟨i, w⟩ := e
    by_cases hi : i = k
    · subst hi; simp [tblFind, ih, Ne.symm h]
    · simp [tblFind, ih, hi]

@[simp] theorem tblGet_put {α : Type} (t : Tbl α) (k : Nat) (v d : α) : tblGet (tblPut t k v) k d = v := by simp [tblGet]

theorem tblGet_put_ne {α : Type} (t : Tbl α) (k j : Nat) (v d : α) (h : j ≠ k) : tblGet (tblPut t k v) j d = tblGet t j d := by
  simp [tblGet, tblFind_put_ne t k j v h]

theorem tblFind_none {α : Type} (t : Tbl α) (k : Nat) (h : ∀ f ∈ t, f.1 ≠ k) : tblFind t k = none := by
  induction t with
  | nil => rfl
  | cons e r ih =>
    obtain ⟨j, w⟩ := e
    have hj : j ≠ k := h (j, w) (by simp)
    simp only [tblFind, hj, if_false]
    exact ih (fun f hf => h f (List.mem_cons_of_mem _ hf))

@[simp] theorem tblFind_erase {α : Type} (t : Tbl α) (k : Nat) : tblFind (tblErase t k) k = none := by
  apply tblFind_none
  intro f hf
  simpa using (List.mem_filter.mp hf).2

/-! ## Rings and handles -/

@[simp] theorem ringOf_setRing (s : State) (n : Nat) (r : Ring) : ringOf (setRing s n r) n = r := by simp [ringOf, setRing]
theorem ringOf_setRing_ne (s : State) (n m : Nat) (r : Ring) (h : m ≠ n) : ringOf (setRing s n r) m = ringOf s m := by
  simp [ringOf, setRing, tblGet_put_ne _ _ _ _ _ h]
@[simp] theorem ringOf_setHandle (s : State) (h n : Nat) (r : HandleRec) : ringOf (setHandle s h r) n = ringOf s n := rfl
@[simp] theorem ringOf_emit (s : State) (e : Emit) (n : Nat) : ringOf (emit s e) n = ringOf s n := rfl
@[simp] theorem ringOf_regSet (s : State) (a : Nat) (v : Word) (n : Nat) : ringOf (regSet s a v) n = ringOf s n := rfl
@[simp] theorem handleOf_setHandle (s : State) (h : Nat) (r : HandleRec) : handleOf (setHandle s h r) h = some r := by
  simp [handleOf, setHandle]
theorem handleOf_setHandle_ne (s : State) (h k : Nat) (r : HandleRec) (n : k ≠ h) : handleOf (setHandle s h r) k = handleOf s k := by
  simp [handleOf, setHandle, tblFind_put_ne _ _ _ _ n]
@[simp] theorem handleOf_setRing (s : State) (n h : Nat) (r : Ring) : handleOf (setRing s n r) h = handleOf s h := rfl
@[simp] theorem handleOf_emit (s : State) (e : Emit) (h : Nat) : handleOf (emit s e) h = handleOf s h := rfl
@[simp] theorem handleOf_regSet (s : State) (a : Nat) (v : Word) (h : Nat) : handleOf (regSet s a v) h = handleOf s h := rfl

/-! ## Registers -/

/-- A register that is set reads as it was set. -/
@[simp] theorem regGet_regSet (s : State) (a : Nat) (v : Word) : regGet (regSet s a v) a = v := by
  simp only [regGet, regSet]
  split
  · rw [tblFind_erase]; simp [*]
  · simp

/-- A write of one register leaves every other as it is. -/
theorem regGet_regSet_ne (s : State) (a b : Nat) (v : Word) (h : b ≠ a) : regGet (regSet s a v) b = regGet s b := by
  unfold regGet regSet
  split
  · simp only [tblFind_erase_ne s.regs a b h]
  · simp only [tblFind_put_ne s.regs a b v h]

/-- Setting a field makes it read the set value. -/
theorem bitsOf_withBits (x lo len v : Nat) : bitsOf (withBits x lo len v) lo len = v % 2 ^ len := by
  apply Nat.eq_of_testBit_eq
  intro i
  simp only [bitsOf, withBits, Nat.testBit_mod_two_pow, Nat.testBit_shiftRight, Nat.testBit_or, Nat.testBit_shiftLeft]
  by_cases h : i < len
  · have h1 : ¬ lo + i ≥ lo + len := by omega
    have h2 : lo + i ≥ lo := by omega
    have h3 : lo + i - lo = i := by omega
    have h4 : ¬ lo + i < lo := by omega
    simp [h, h1, h2, h3, h4]
  · simp [h]

/-- A field within 64 bits that is set reads as it was set. -/
theorem fld_setFld (s : State) (a lo len v : Nat) (h : lo + len ≤ 64) : fld (setFld s a lo len v) a lo len = v % 2 ^ len := by
  simp only [fld, setFld, regGet_regSet, BitVec.toNat_ofNat]
  rw [← bitsOf_withBits (regGet s a).toNat lo len v]
  simp only [bitsOf]
  apply Nat.eq_of_testBit_eq
  intro i
  simp only [Nat.testBit_mod_two_pow, Nat.testBit_shiftRight]
  by_cases hi : i < len
  · have : lo + i < 64 := by omega
    simp [hi, this]
  · simp [hi]

@[simp] theorem flag_setBit (s : State) (a b : Nat) (h : b < 64) : flag (setBit s a b) a b = true := by
  simp [flag, setBit, fld_setFld s a b 1 1 (by omega)]

@[simp] theorem regGet_emit (s : State) (e : Emit) (a : Nat) : regGet (emit s e) a = regGet s a := rfl
@[simp] theorem regGet_setRing (s : State) (n : Nat) (r : Ring) (a : Nat) : regGet (setRing s n r) a = regGet s a := rfl
@[simp] theorem regGet_setHandle (s : State) (h : Nat) (r : HandleRec) (a : Nat) : regGet (setHandle s h r) a = regGet s a := rfl
@[simp] theorem fld_emit (s : State) (e : Emit) (a lo len : Nat) : fld (emit s e) a lo len = fld s a lo len := rfl
@[simp] theorem fld_setRing (s : State) (n : Nat) (r : Ring) (a lo len : Nat) : fld (setRing s n r) a lo len = fld s a lo len := rfl
@[simp] theorem fld_setHandle (s : State) (h : Nat) (r : HandleRec) (a lo len : Nat) : fld (setHandle s h r) a lo len = fld s a lo len := rfl

end Sys2Proof.Machine
end

