-- ==== Sys2Proof/Laws/KeepMem.lean ====
section
/-! SUPPORT. Every operation on memory keeps its canonical form, and what a read of one byte finds after it. -/

namespace Sys2Proof.Machine

set_option Elab.async false

/-- The entries of a memory in its canonical form lie above `lo`. -/
def memAbove (lo : Nat) (m : List Host.Cell) : Prop := ∀ c ∈ m, lo < c.1

theorem memWf_cons (a : Nat) (v : Byte) (m : List Host.Cell) : memWf ((a, v) :: m) = true ↔ v ≠ 0 ∧ memAbove a m ∧ memWf m = true := by
  induction m generalizing a v with
  | nil => simp [memWf, memAbove]
  | cons c r ih =>
    obtain ⟨b, w⟩ := c
    simp only [memWf, Bool.and_eq_true, decide_eq_true_eq, bne_iff_ne]
    constructor
    · rintro ⟨⟨hv, hab⟩, hr⟩
      refine ⟨hv, ?_, hr⟩
      have hb := ((ih b w).mp hr).2.1
      intro d hd
      rcases List.mem_cons.mp hd with rfl | hd
      · exact hab
      · exact Nat.lt_trans hab (hb d hd)
    · rintro ⟨hv, ha, hr⟩
      exact ⟨⟨hv, ha (b, w) (List.mem_cons_self)⟩, hr⟩

theorem memWf_filter (m : List Host.Cell) (p : Host.Cell → Bool) (h : memWf m = true) : memWf (m.filter p) = true := by
  induction m with
  | nil => exact h
  | cons c r ih =>
    obtain ⟨a, v⟩ := c
    have hc := (memWf_cons a v r).mp h
    simp only [List.filter_cons]
    split
    · exact (memWf_cons a v _).mpr ⟨hc.1, fun d hd => hc.2.1 d (List.mem_filter.mp hd).1, ih hc.2.2⟩
    · exact ih hc.2.2

theorem mem_tblPut {m : List Host.Cell} {a : Nat} {v : Byte} {c : Host.Cell} (h : c ∈ tblPut m a v) : c = (a, v) ∨ c ∈ m := by
  induction m with
  | nil => simp [tblPut] at h; exact .inl h
  | cons e r ih =>
    obtain ⟨b, w⟩ := e
    simp only [tblPut] at h
    split at h
    · rcases List.mem_cons.mp h with h | h
      · exact .inl h
      · exact .inr h
    · split at h
      · rcases List.mem_cons.mp h with h | h
        · exact .inl h
        · exact .inr (List.mem_cons_of_mem _ h)
      · rcases List.mem_cons.mp h with h | h
        · exact .inr (h ▸ List.mem_cons_self)
        · rcases ih h with h | h
          · exact .inl h
          · exact .inr (List.mem_cons_of_mem _ h)

theorem memWf_put (m : List Host.Cell) (a : Nat) (v : Byte) (hv : v ≠ 0) (h : memWf m = true) : memWf (tblPut m a v) = true := by
  induction m with
  | nil => exact (memWf_cons a v []).mpr ⟨hv, (fun d hd => by cases hd), rfl⟩
  | cons e r ih =>
    obtain ⟨b, w⟩ := e
    have hc := (memWf_cons b w r).mp h
    simp only [tblPut]
    split
    · rename_i hab
      refine (memWf_cons a v _).mpr ⟨hv, ?_, h⟩
      intro d hd
      rcases List.mem_cons.mp hd with rfl | hd
      · exact hab
      · exact Nat.lt_trans hab (hc.2.1 d hd)
    · split
      · rename_i e
        exact (memWf_cons a v r).mpr ⟨hv, e ▸ hc.2.1, hc.2.2⟩
      · refine (memWf_cons b w _).mpr ⟨hc.1, ?_, ih hc.2.2⟩
        intro d hd
        rcases mem_tblPut hd with rfl | hd
        · simp only; omega
        · exact hc.2.1 d hd

theorem memWf_write (m : List Host.Cell) (a : Nat) (v : Byte) (h : memWf m = true) : memWf (memWrite m a v) = true := by
  unfold memWrite
  split
  · exact memWf_filter m _ h
  · exact memWf_put m a v (by assumption) h

theorem memWf_writes (m : List Host.Cell) (a : Nat) (l : List Byte) (h : memWf m = true) : memWf (memWrites m a l) = true := by
  induction l generalizing m a with
  | nil => exact h
  | cons b r ih => exact ih _ _ (memWf_write m a b h)

theorem memWf_clear (m : List Host.Cell) (lo hi : Nat) (h : memWf m = true) : memWf (memClear m lo hi) = true := memWf_filter m _ h

/-- What a read finds in a memory filtered by address. -/
theorem tblFind_filter (m : List Host.Cell) (q : Nat → Bool) (b : Nat) :
    tblFind (m.filter (fun c => q c.1)) b = if q b then tblFind m b else none := by
  induction m with
  | nil => simp [tblFind]
  | cons e r ih =>
    obtain ⟨a, v⟩ := e
    rw [List.filter_cons]
    by_cases hq : q a = true
    · rw [if_pos hq]
      simp only [tblFind]
      by_cases hab : a = b
      · subst hab; simp [hq]
      · simp only [if_neg hab]; exact ih
    · rw [if_neg hq]
      simp only [tblFind]
      by_cases hab : a = b
      · subst hab
        rw [if_neg hq, ih, if_neg hq]
      · simp only [if_neg hab]; exact ih

/-- A byte after one byte is written. -/
theorem memRead_write (m : List Host.Cell) (a b : Nat) (v : Byte) :
    memRead (memWrite m a v) b = if b = a then v else memRead m b := by
  unfold memRead memWrite tblGet
  split
  · rename_i hv
    have e := tblFind_filter m (fun k => k != a) b
    rw [show tblErase m a = m.filter (fun c => c.1 != a) from rfl, e]
    by_cases hb : b = a
    · simp [hb, hv]
    · simp [hb]
  · by_cases hb : b = a
    · subst hb; simp
    · rw [tblFind_put_ne m a b v hb, if_neg hb]

/-- A byte after a list of bytes is written. -/
theorem memRead_writes (m : List Host.Cell) (a b : Nat) (l : List Byte) :
    memRead (memWrites m a l) b = if a ≤ b ∧ b < a + l.length then l.getD (b - a) 0 else memRead m b := by
  induction l generalizing m a with
  | nil => rw [if_neg (by simp only [List.length_nil]; omega)]; rfl
  | cons x r ih =>
    rw [memWrites, ih, memRead_write m a b x]
    by_cases hb : b = a
    · subst hb
      have h1 : ¬ (b + 1 ≤ b ∧ b < b + 1 + r.length) := by omega
      have h2 : b ≤ b ∧ b < b + (x :: r).length := by simp only [List.length_cons]; omega
      rw [if_neg h1, if_pos h2, if_pos rfl, Nat.sub_self]
      rfl
    · by_cases hc : a + 1 ≤ b ∧ b < a + 1 + r.length
      · have hd : a ≤ b ∧ b < a + (x :: r).length := by simp only [List.length_cons]; omega
        rw [if_pos hc, if_pos hd]
        obtain ⟨k, rfl⟩ : ∃ k, b = a + 1 + k := ⟨b - (a + 1), by omega⟩
        rw [show a + 1 + k - a = k + 1 by omega, show a + 1 + k - (a + 1) = k by omega]
        rfl
      · have hd : ¬ (a ≤ b ∧ b < a + (x :: r).length) := by simp only [List.length_cons]; omega
        rw [if_neg hc, if_neg hd, if_neg hb]

/-- A byte after a range is cleared. -/
theorem memRead_clear (m : List Host.Cell) (lo hi b : Nat) :
    memRead (memClear m lo hi) b = if lo ≤ b ∧ b < hi then 0 else memRead m b := by
  unfold memRead memClear tblGet
  rw [tblFind_filter m (fun k => decide (k < lo) || decide (hi ≤ k)) b]
  by_cases hb : lo ≤ b ∧ b < hi
  · have : (decide (b < lo) || decide (hi ≤ b)) = false := by simp; omega
    simp [this, hb]
  · have : (decide (b < lo) || decide (hi ≤ b)) = true := by simp; omega
    rw [this, if_neg hb]; rfl

theorem memWf_copy (m : List Host.Cell) (d : Nat) (l : List Host.Cell) (h : memWf m = true) :
    memWf (l.foldl (fun m c => memWrite m (d * 65536 + c.1) c.2) m) = true :=
  foldl_holds (P := fun m => memWf m = true) l m h (fun m c hm => memWf_write m _ _ hm)

/-! ## The operations of Machine/Memory.lean and the others that write pool memory -/

theorem setBack_same (s : State) (id : Nat) (b : Back) : Same 34359738368 s (setBack s id b) := Same.set_pool_backs s _

theorem setPoison_same (s : State) (id line : Nat) (p : Bool) : Same 274877906944 s (setPoison s id line p) := Same.set_pool_poisonLines s _

theorem cells_same (s : State) (c : List Host.Cell) (h : memWf s.pool.cells = true → memWf c = true) :
    Same 137438953472 s { s with pool := { s.pool with cells := c } } :=
  ⟨fun p hp => by (cases p <;> first | rfl | cases hp), h⟩

theorem cellsPoison_same (s : State) (c : List Host.Cell) (l : List Nat) (h : memWf s.pool.cells = true → memWf c = true) :
    Same 412316860416 s { s with pool := { s.pool with cells := c, poisonLines := l } } :=
  ⟨fun p hp => by (cases p <;> first | rfl | cases hp), h⟩

theorem bump_keeps (s : State) (a : Nat) : Same 4 s (bump s a) :=
  ⟨fun p hp => by (cases p <;> first | rfl | cases hp), id⟩

theorem writeBackLine_same (s : State) (id : Nat) (line : Nat) (d : Line) (poison : Bool) : Same 446676598788 s (writeBackLine s id line d poison) := by
  unfold writeBackLine
  split
  · exact Same.refl _ _
  · refine Same.ite0 ?_ ?_
    · refine Same.step (bump_keeps ..) ?_
      refine Same.step (cells_same _ _ (memWf_writes _ _ _)) ?_
      exact Same.step (setPoison_same ..) (Same.widen (setBack_same ..) (by decide))
    · refine Same.step (cells_same _ _ (memWf_writes _ _ _)) ?_
      exact Same.step (setPoison_same ..) (Same.widen (setBack_same ..) (by decide))

theorem clearBack_same (s : State) (id : Nat) : Same 446676598784 s (clearBack s id) := by
  unfold clearBack
  extract_lets t
  split
  · exact Same.step (setBack_same ..) (Same.widen (cellsPoison_same _ _ _ (memWf_clear _ _ _)) (by decide))
  · exact Same.widen (cellsPoison_same _ _ _ (memWf_clear _ _ _)) (by decide)

theorem copyBack_same (s : State) (src : Nat) (dst : Nat) : Same 446676598784 s (copyBack s src dst) := by
  unfold copyBack
  split
  · extract_lets
    refine Same.step (setBack_same ..) ?_
    exact Same.step (cellsPoison_same _ _ _ (memWf_copy _ _ _)) (Same.widen (clearBack_same ..) (by decide))
  · exact Same.refl _ _

theorem clearSectors_same (s : State) (id : Nat) (gone : List Nat) : Same 412316860416 s (clearSectors s id gone) :=
  Same.foldl _ (Same.refl _ _) fun u i hu => Same.step (cellsPoison_same _ _ _ (memWf_clear _ _ _)) hu

theorem powerOn_same (s : State) : Same 281474976710629 s (powerOn s) :=
  ⟨fun p hp => by (cases p <;> first | rfl | cases hp), fun _ => rfl⟩



theorem execCold_same (s : State) : SameO 281474976710629 s (outSt (execCold s)) := by
  unfold execCold
  split
  · exact SameO.out_next (Same.refl _ _)
  · exact SameO.out_next ⟨fun p hp => by (cases p <;> first | rfl | cases hp), fun _ => rfl⟩

end Sys2Proof.Machine
end

