-- ==== Sys2Proof/Laws/KeepOps.lean ====
section
/-! SUPPORT. What each operation of Machine/Ops.lean leaves alone: the parts it may write, as a number, and all else kept. -/

set_option linter.unusedVariables false

namespace Sys2Proof.Machine

set_option Elab.async false

theorem emit_same (s : State) (e : Emit) : Same 8 s (emit s e) := by
  have h0 := Same.refl 8 s
  unfold emit
  refine Same.step (Same.set_out ..) ?_
  exact Same.refl _ _

theorem setHandle_same (s : State) (h : Nat) (r : HandleRec) : Same 32 s (setHandle s h r) := by
  have h0 := Same.refl 32 s
  unfold setHandle
  refine Same.step (Same.set_rings ..) ?_
  exact Same.refl _ _

theorem forwardReady_same (s : State) : Same 40 s (forwardReady s) := by
  have h0 := Same.refl 40 s
  unfold forwardReady
  refine Same.foldl _ ?_ ?_
  · exact Same.refl _ _
  · intro a_1 a_2 a_3
    split
    · rename_i a_4 a_5 a_6
      split
      · rename_i a_7 a_8 a_9
        refine Same.ite0 ?_ ?_
        · refine Same.step (emit_same ..) ?_
          refine Same.step (setHandle_same ..) ?_
          exact a_3
        · exact a_3
      · rename_i a_10 a_11
        exact a_3
    · rename_i a_12 a_13
      exact a_3

theorem dropHandle_same (s : State) (h : Nat) : Same 32 s (dropHandle s h) := by
  have h0 := Same.refl 32 s
  unfold dropHandle
  refine Same.step (Same.set_rings ..) ?_
  exact Same.refl _ _

theorem returnRemote_same (s : State) : Same 40 s (returnRemote s) := by
  have h0 := Same.refl 40 s
  unfold returnRemote
  refine Same.foldl _ ?_ ?_
  · exact Same.refl _ _
  · intro a_1 a_2 a_3
    split
    · rename_i a_4 a_5 a_6
      split
      · rename_i a_7 a_8 a_9
        refine Same.ite0 ?_ ?_
        · refine Same.step (emit_same ..) ?_
          refine Same.step (dropHandle_same ..) ?_
          exact a_3
        · exact a_3
      · rename_i a_10 a_11
        exact a_3
    · rename_i a_12 a_13
      exact a_3

theorem regSet_same (s : State) (a : Nat) (v : Word) : Same 4 s (regSet s a v) := by
  have h0 := Same.refl 4 s
  unfold regSet
  refine Same.step (Same.set_regs ..) ?_
  exact Same.refl _ _

theorem bumpBy_same (s : State) (a : Nat) (n : Nat) : Same 4 s (bumpBy s a n) := by
  have h0 := Same.refl 4 s
  unfold bumpBy
  refine Same.step (regSet_same ..) ?_
  exact Same.refl _ _

theorem bump_same (s : State) (a : Nat) : Same 4 s (bump s a) := by
  have h0 := Same.refl 4 s
  unfold bump
  refine Same.step (bumpBy_same ..) ?_
  exact Same.refl _ _

theorem countDone_same (s : State) (r : HandleRec) : Same 4 s (countDone s r) := by
  have h0 := Same.refl 4 s
  unfold countDone
  refine Same.ite0 ?_ ?_
  · extract_lets +onlyGivenNames x_1
    have h_2 : Same 4 s x_1 := by
      subst x_1
      refine Same.step (bump_same ..) ?_
      exact Same.refl _ _
    clear_value x_1
    refine Same.ite0 ?_ ?_
    · refine Same.step (bump_same ..) ?_
      exact h_2
    · exact h_2
  · refine Same.ite0 ?_ ?_
    · refine Same.step (bump_same ..) ?_
      exact Same.refl _ _
    · exact Same.refl _ _

theorem setFld_same (s : State) (a : Nat) (lo : Nat) (len : Nat) (v : Nat) : Same 4 s (setFld s a lo len v) := by
  have h0 := Same.refl 4 s
  unfold setFld
  refine Same.step (regSet_same ..) ?_
  exact Same.refl _ _

theorem recDrop_same (s : State) : Same 4 s (recDrop s) := by
  have h0 := Same.refl 4 s
  unfold recDrop
  refine Same.step (setFld_same ..) ?_
  exact Same.refl _ _

theorem setRing_same (s : State) (n : Nat) (r : Ring) : Same 32 s (setRing s n r) := by
  have h0 := Same.refl 32 s
  unfold setRing
  refine Same.step (Same.set_rings ..) ?_
  exact Same.refl _ _

theorem commitWith_same (s : State) (h : Nat) (ready : Bool) (st : Status) (r0 : Word) (r1 : Word) : Same 44 s (commitWith s h ready st r0 r1) := by
  have h0 := Same.refl 44 s
  unfold commitWith
  split
  · rename_i a_1 a_2 a_3
    refine Same.ite0 ?_ ?_
    · extract_lets +onlyGivenNames x_4
      have h_5 : Same 44 s x_4 := by
        subst x_4
        refine Same.step (setHandle_same ..) ?_
        refine Same.step (countDone_same ..) ?_
        exact Same.refl _ _
      clear_value x_4
      refine Same.ite0 ?_ ?_
      · refine Same.step (returnRemote_same ..) ?_
        exact h_5
      · refine Same.ite0 ?_ ?_
        · extract_lets +onlyGivenNames x_6
          refine Same.step (forwardReady_same ..) ?_
          refine Same.step (setRing_same ..) ?_
          exact h_5
        · refine Same.step (recDrop_same ..) ?_
          refine Same.step (dropHandle_same ..) ?_
          exact h_5
    · exact Same.refl _ _
  · rename_i a_7 a_8
    exact Same.refl _ _

theorem commit_same (s : State) (h : Nat) (st : Status) (r0 : Word) (r1 : Word) : Same 44 s (commit s h st r0 r1) := by
  have h0 := Same.refl 44 s
  unfold commit
  refine Same.step (commitWith_same ..) ?_
  exact Same.refl _ _

theorem setBit_same (s : State) (a : Nat) (bit : Nat) : Same 4 s (setBit s a bit) := by
  have h0 := Same.refl 4 s
  unfold setBit
  refine Same.step (setFld_same ..) ?_
  exact Same.refl _ _

theorem pmEvent_same (s : State) (key : Key) (kind : Nat) (value : Word) : Same 8388620 s (pmEvent s key kind value) := by
  have h0 := Same.refl 8388620 s
  unfold pmEvent
  split
  · rename_i a_1 a_2
    exact Same.refl _ _
  · rename_i a_3 a_4 a_5
    extract_lets +onlyGivenNames x_6
    extract_lets +onlyGivenNames x_7
    subst x_7
    dsimp -zeta -zetaHave only
    refine Same.ite0 ?_ ?_
    · refine Same.step (bump_same ..) ?_
      refine Same.step (Same.set_settle ..) ?_
      exact Same.refl _ _
    · refine Same.step (emit_same ..) ?_
      refine Same.step (Same.set_settle ..) ?_
      exact Same.refl _ _

theorem driveAlert_same (before : State) (s : State) : Same 8 s (driveAlert before s) := by
  have h0 := Same.refl 8 s
  unfold driveAlert
  refine Same.ite0 ?_ ?_
  · exact Same.refl _ _
  · refine Same.step (emit_same ..) ?_
    refine Same.step (emit_same ..) ?_
    exact Same.refl _ _

theorem msix_same (s : State) (v : Nat) : Same 12 s (msix s v) := by
  have h0 := Same.refl 12 s
  unfold msix
  refine Same.ite0 ?_ ?_
  · refine Same.step (setBit_same ..) ?_
    exact Same.refl _ _
  · refine Same.step (emit_same ..) ?_
    exact Same.refl _ _

theorem deliverRecord_same (s : State) (r : ErrRec) : Same 10485804 s (deliverRecord s r) := by
  have h0 := Same.refl 10485804 s
  unfold deliverRecord
  extract_lets +onlyGivenNames x_1
  extract_lets +onlyGivenNames x_2
  have h_3 : Same 10485804 s x_2 := by
    subst x_2
    refine Same.step (emit_same ..) ?_
    exact Same.refl _ _
  clear_value x_2
  extract_lets +onlyGivenNames x_4
  extract_lets +onlyGivenNames x_5
  have h_6 : Same 10485804 s x_5 := by
    subst x_5
    refine Same.ite0 ?_ ?_
    · refine Same.ite0 ?_ ?_
      · refine Same.step (Same.set_ras ..) ?_
        exact h_3
      · refine Same.step (bump_same ..) ?_
        exact Same.refl _ _
    · exact Same.refl _ _
  clear_value x_5
  extract_lets +onlyGivenNames x_7
  have h_8 : Same 10485804 s x_7 := by
    subst x_7
    refine Same.ite0 ?_ ?_
    · refine Same.step (msix_same ..) ?_
      exact h_6
    · exact h_6
  clear_value x_7
  extract_lets +onlyGivenNames x_9
  have h_10 : Same 10485804 s x_9 := by
    subst x_9
    refine Same.ite0 ?_ ?_
    · refine Same.step (driveAlert_same ..) ?_
      refine Same.step (setBit_same ..) ?_
      exact h_8
    · exact h_8
  clear_value x_9
  extract_lets +onlyGivenNames x_11
  have h_12 : Same 10485804 s x_11 := by
    subst x_11
    refine Same.ite0 ?_ ?_
    · refine Same.step (pmEvent_same ..) ?_
      exact h_10
    · exact h_10
  clear_value x_11
  extract_lets +onlyGivenNames x_13
  have h_14 : Same 10485804 s x_13 := by
    subst x_13
    refine Same.ite0 ?_ ?_
    · refine Same.foldl _ ?_ ?_
      · exact h_12
      · intro a_15 a_16 a_17
        refine Same.ite0 ?_ ?_
        · refine Same.step (emit_same ..) ?_
          exact a_17
        · exact a_17
    · exact h_12
  clear_value x_13
  refine Same.ite0 ?_ ?_
  · refine Same.step (Same.set_rings ..) ?_
    exact h_14
  · exact h_14

theorem errorRecord_same (s : State) (r : ErrRec) : Same 10485804 s (errorRecord s r) := by
  have h0 := Same.refl 10485804 s
  unfold errorRecord
  extract_lets +onlyGivenNames x_1
  have h_2 : Same 10485804 s x_1 := by
    subst x_1
    split
    · rename_i a_3 a_4
      refine Same.step (bump_same ..) ?_
      exact Same.refl _ _
    · rename_i a_5 a_6
      refine Same.step (bump_same ..) ?_
      exact Same.refl _ _
    · rename_i a_7 a_8
      refine Same.step (bump_same ..) ?_
      exact Same.refl _ _
    · rename_i a_9 a_10
      refine Same.step (bump_same ..) ?_
      exact Same.refl _ _
    · rename_i a_11 a_12 a_13 a_14 a_15
      exact Same.refl _ _
  clear_value x_1
  extract_lets +onlyGivenNames x_16
  extract_lets +onlyGivenNames x_17
  split
  · rename_i a_18 a_19 a_20 a_21
    extract_lets +onlyGivenNames x_22
    refine Same.ite0 ?_ ?_
    · refine Same.step (bump_same ..) ?_
      exact h_2
    · extract_lets +onlyGivenNames x_23
      extract_lets +onlyGivenNames x_24
      extract_lets +onlyGivenNames x_25
      extract_lets +onlyGivenNames x_26
      have h_27 : Same 10485804 s x_26 := by
        subst x_26
        refine Same.step (Same.set_ras ..) ?_
        exact h_2
      clear_value x_26
      refine Same.step (deliverRecord_same ..) ?_
      refine Same.step (bump_same ..) ?_
      exact h_27

theorem logEvent_same (s : State) (kind : Nat) (cls : Nat) (idx : Nat) (cause : Nat) (key : Key) (handle : Nat) (addr : Nat) (d0 : Nat) (d1 : Nat) : Same 10485804 s (logEvent s kind cls idx cause key handle addr d0 d1) := by
  have h0 := Same.refl 10485804 s
  unfold logEvent
  refine Same.step (errorRecord_same ..) ?_
  exact Same.refl _ _

theorem addProgress_same (s : State) (h : Nat) (n : Nat) : Same 32 s (addProgress s h n) := by
  have h0 := Same.refl 32 s
  unfold addProgress
  refine Same.step (Same.set_rings ..) ?_
  exact Same.refl _ _

theorem setProgress_same (s : State) (h : Nat) (n : Nat) : Same 32 s (setProgress s h n) := by
  have h0 := Same.refl 32 s
  unfold setProgress
  refine Same.step (Same.set_rings ..) ?_
  exact Same.refl _ _

theorem engineDone_same (s : State) (h : Nat) (st : Status) (r0 : Word) (r1 : Word) : Same 32 s (engineDone s h st r0 r1) := by
  have h0 := Same.refl 32 s
  unfold engineDone
  refine Same.step (Same.set_rings ..) ?_
  exact Same.refl _ _

theorem draw_same (s : State) : Same 2 s (draw s).2 := by
  have h0 := Same.refl 2 s
  unfold draw
  refine Same.pair2 ?_
  refine Same.step (Same.set_draws ..) ?_
  exact Same.refl _ _

theorem haltRing_same (s : State) (n : Nat) (cause : Nat) : Same 32 s (haltRing s n cause) := by
  have h0 := Same.refl 32 s
  unfold haltRing
  extract_lets +onlyGivenNames x_1
  refine Same.ite0 ?_ ?_
  · refine Same.step (setRing_same ..) ?_
    exact Same.refl _ _
  · exact Same.refl _ _

theorem haltBound_same (s : State) (port : Option Nat) (cause : Nat) : Same 32 s (haltBound s port cause) := by
  have h0 := Same.refl 32 s
  unfold haltBound
  refine Same.foldl _ ?_ ?_
  · exact Same.refl _ _
  · intro a_1 a_2 a_3
    extract_lets +onlyGivenNames x_4
    refine Same.ite0 ?_ ?_
    · refine Same.step (haltRing_same ..) ?_
      exact a_3
    · exact a_3

theorem readHost_same (s : State) (h : Nat) (addr : Nat) (len : Nat) : Same 8 s (readHost s h addr len) := by
  have h0 := Same.refl 8 s
  unfold readHost
  split
  · rename_i a_1 a_2 a_3
    refine Same.step (emit_same ..) ?_
    exact Same.refl _ _
  · rename_i a_4 a_5
    exact Same.refl _ _

theorem badDesc_same (s : State) (h : Nat) (off : Nat) : Same 44 s (badDesc s h off) := by
  have h0 := Same.refl 44 s
  unfold badDesc
  refine Same.step (commit_same ..) ?_
  exact Same.refl _ _

theorem markStarted_same (s : State) (h : Nat) : Same 40 s (markStarted s h) := by
  have h0 := Same.refl 40 s
  unfold markStarted
  refine Same.step (forwardReady_same ..) ?_
  refine Same.step (Same.set_rings ..) ?_
  exact Same.refl _ _

theorem fillRecord_same (s : State) (h : Nat) (st : Status) (r0 : Word) (r1 : Word) : Same 44 s (fillRecord s h st r0 r1) := by
  have h0 := Same.refl 44 s
  unfold fillRecord
  split
  · rename_i a_1 a_2 a_3
    refine Same.ite0 ?_ ?_
    · exact Same.refl _ _
    · refine Same.ite0 ?_ ?_
      · refine Same.step (returnRemote_same ..) ?_
        refine Same.step (setHandle_same ..) ?_
        exact Same.refl _ _
      · refine Same.step (returnRemote_same ..) ?_
        refine Same.step (recDrop_same ..) ?_
        refine Same.step (dropHandle_same ..) ?_
        exact Same.refl _ _
  · rename_i a_4 a_5
    exact Same.refl _ _

theorem creditBack_same (s : State) (p : Nat) (ch : Nat) : Same 1048584 s (creditBack s p ch) := by
  have h0 := Same.refl 1048584 s
  unfold creditBack
  split
  · rename_i a_1 a_2
    exact Same.refl _ _
  · rename_i a_3 a_4 a_5
    refine Same.ite0 ?_ ?_
    · exact Same.refl _ _
    · extract_lets +onlyGivenNames x_6
      refine Same.step (emit_same ..) ?_
      refine Same.step (Same.set_link ..) ?_
      exact Same.refl _ _

theorem raiseAlert_same (s : State) (bit : Nat) : Same 12 s (raiseAlert s bit) := by
  have h0 := Same.refl 12 s
  unfold raiseAlert
  refine Same.ite0 ?_ ?_
  · exact Same.refl _ _
  · refine Same.step (driveAlert_same ..) ?_
    refine Same.step (msix_same ..) ?_
    refine Same.step (setBit_same ..) ?_
    exact Same.refl _ _

end Sys2Proof.Machine
end

