-- ==== Sys2Proof/Laws/KeepMemory.lean ====
section
/-! SUPPORT. What each operation of Machine/Memory.lean leaves alone: the parts it may write, as a number, and all else kept. -/

set_option linter.unusedVariables false

namespace Sys2Proof.Machine

set_option Elab.async false

theorem memLineWrite_same (s : State) (line : Nat) (d : Line) (poison : Bool) : Same 446676598788 s (memLineWrite s line d poison) := by
  have h0 := Same.refl 446676598788 s
  unfold memLineWrite
  split
  · rename_i a_1 a_2 a_3
    refine Same.step (writeBackLine_same ..) ?_
    exact Same.refl _ _
  · rename_i a_4 a_5
    exact Same.refl _ _

end Sys2Proof.Machine
end

