-- ==== Sys2Proof/Laws/KeepRoutes.lean ====
section
/-! SUPPORT. What each operation of Machine/Routes.lean leaves alone: the parts it may write, as a number, and all else kept. -/

set_option linter.unusedVariables false

namespace Sys2Proof.Machine

set_option Elab.async false

theorem sendFlow_same (s : State) (src : Endpoint) (dsw : Nat) (part : Nat) (tc : Nat) (otag : Nat) (dst : Option Endpoint) (e : Nat → Emit) : Same 131084 s (sendFlow s src dsw part tc otag dst e) := by
  have h0 := Same.refl 131084 s
  unfold sendFlow
  split
  · rename_i a_1 a_2
    refine Same.step (bump_same ..) ?_
    exact Same.refl _ _
  · rename_i a_3 a_4 a_5
    split
    · rename_i a_6 a_7 a_8
      refine Same.step (bump_same ..) ?_
      refine Same.step (Same.set_route ..) ?_
      exact Same.refl _ _
    · rename_i a_9 a_10
      refine Same.step (emit_same ..) ?_
      exact Same.refl _ _

theorem sendSwitch_same (s : State) (sw : Nat) (what : String) (fields : List Nat) : Same 131084 s (sendSwitch s sw what fields) := by
  have h0 := Same.refl 131084 s
  unfold sendSwitch
  refine Same.step (sendFlow_same ..) ?_
  exact Same.refl _ _

theorem sendTc7_same (s : State) (part : Nat) (dst : Endpoint) (here : Nat) (e : Nat → Emit) : Same 131084 s (sendTc7 s part dst here e) := by
  have h0 := Same.refl 131084 s
  unfold sendTc7
  split
  · rename_i a_1 a_2
    refine Same.step (emit_same ..) ?_
    exact Same.refl _ _
  · rename_i a_3 a_4 a_5
    refine Same.step (sendFlow_same ..) ?_
    exact Same.refl _ _
  · rename_i a_6 a_7
    refine Same.step (bump_same ..) ?_
    exact Same.refl _ _

end Sys2Proof.Machine
end

