-- ==== Sys2Proof/Laws/KeepCoh.lean ====
section
/-! SUPPORT. What each operation of Machine/Coh.lean leaves alone: the parts it may write, as a number, and all else kept. -/

set_option linter.unusedVariables false

namespace Sys2Proof.Machine

set_option Elab.async false

theorem modStat_same (s : State) (tag : Nat) (f : RecallStat → RecallStat) : Same 128 s (modStat s tag f) := by
  have h0 := Same.refl 128 s
  unfold modStat
  refine Same.step (Same.set_coh ..) ?_
  exact Same.refl _ _

theorem setTrans_same (s : State) (line : Nat) (t : Trans) : Same 128 s (setTrans s line t) := by
  have h0 := Same.refl 128 s
  unfold setTrans
  refine Same.step (Same.set_coh ..) ?_
  exact Same.refl _ _

theorem markDirty_same (s : State) (line : Nat) : Same 34359738368 s (markDirty s line) := by
  have h0 := Same.refl 34359738368 s
  unfold markDirty
  split
  · rename_i a_1 a_2
    exact Same.refl _ _
  · rename_i a_3 a_4 a_5
    split
    · rename_i a_6 a_7 a_8
      refine Same.step (setBack_same ..) ?_
      exact Same.refl _ _
    · rename_i a_9 a_10
      exact Same.refl _ _

theorem dropDir_same (s : State) (line : Nat) : Same 128 s (dropDir s line) := by
  have h0 := Same.refl 128 s
  unfold dropDir
  refine Same.step (Same.set_coh ..) ?_
  exact Same.refl _ _

theorem askDonor_same (s : State) (addr : Nat) (d : List (Line × Bool)) : Same 131084 s (askDonor s addr d) := by
  have h0 := Same.refl 131084 s
  unfold askDonor
  extract_lets +onlyGivenNames x_1
  refine Same.step (sendFlow_same ..) ?_
  exact Same.refl _ _

theorem askLoc_same (s : State) (line : Nat) (k : Nat) (d : List (Line × Bool)) (b4 : Loc) : Same 1179660 s (askLoc s line k d b4) := by
  have h0 := Same.refl 1179660 s
  unfold askLoc
  split
  · rename_i a_1 a_2 a_3 a_4
    refine Same.step (bump_same ..) ?_
    refine Same.step (Same.set_link ..) ?_
    exact Same.refl _ _
  · rename_i a_5 a_6 a_7
    refine Same.step (askDonor_same ..) ?_
    exact Same.refl _ _
  · rename_i a_8 a_9 a_10 a_11 a_12
    exact Same.refl _ _

theorem askMem_same (s : State) (line : Nat) (k : Nat) (d : Option (Line × Bool)) : Same 1179660 s (askMem s line k d) := by
  have h0 := Same.refl 1179660 s
  unfold askMem
  split
  · rename_i a_1 a_2
    exact Same.refl _ _
  · rename_i a_3 a_4 a_5
    extract_lets +onlyGivenNames x_6
    refine Same.foldl _ ?_ ?_
    · refine Same.step (askLoc_same ..) ?_
      exact Same.refl _ _
    · intro a_7 a_8 a_9
      refine Same.ite0 ?_ ?_
      · exact a_9
      · refine Same.step (askLoc_same ..) ?_
        exact a_9

theorem dropTrans_same (s : State) (line : Nat) : Same 128 s (dropTrans s line) := by
  have h0 := Same.refl 128 s
  unfold dropTrans
  refine Same.step (Same.set_coh ..) ?_
  exact Same.refl _ _

theorem setDir_same (s : State) (line : Nat) (e : DirEntry) : Same 128 s (setDir s line e) := by
  have h0 := Same.refl 128 s
  unfold setDir
  refine Same.step (Same.set_coh ..) ?_
  exact Same.refl _ _

theorem newDir_same (s : State) (line : Nat) (e : DirEntry) : Same 128 s (newDir s line e) := by
  have h0 := Same.refl 128 s
  unfold newDir
  extract_lets +onlyGivenNames x_1
  extract_lets +onlyGivenNames x_2
  have h_3 : Same 128 s x_2 := by
    subst x_2
    refine Same.step (setDir_same ..) ?_
    exact Same.refl _ _
  clear_value x_2
  refine Same.step (Same.set_coh ..) ?_
  exact h_3

theorem cxlPoison_same (s : State) (r : Req) : Same 8 s (cxlPoison s r) := by
  have h0 := Same.refl 8 s
  unfold cxlPoison
  refine Same.ite0 ?_ ?_
  · refine Same.step (emit_same ..) ?_
    exact Same.refl _ _
  · exact Same.refl _ _

theorem echoAt_same (s : State) (p : Nat) (c : CmpKind) : Same 4 s (echoAt s p c).2 := by
  have h0 := Same.refl 4 s
  unfold echoAt
  refine Same.ite (f := Prod.snd) ?_ ?_
  · refine Same.pair2 ?_
    refine Same.step (bump_same ..) ?_
    exact Same.refl _ _
  · refine Same.pair2 ?_
    exact Same.refl _ _

theorem completePort_same (s : State) (r : Req) (c : CmpKind) (st : Status) (data : Option Line) (poison : Bool) (results : List (BitVec 128)) : Same 132 s (completePort s r c st data poison results) := by
  have h0 := Same.refl 132 s
  unfold completePort
  extract_lets +onlyGivenNames x_1
  split
  · rename_i a_2 a_3 a_4 a_5
    have h_6 : Same 132 s a_4 := by
      refine Same.of2 ?_ a_5
      refine Same.ite (f := Prod.snd) ?_ ?_
      · refine Same.step (echoAt_same ..) ?_
        exact Same.refl _ _
      · refine Same.pair2 ?_
        exact Same.refl _ _
    refine Same.step (Same.set_coh ..) ?_
    exact h_6

theorem completeReq_same (s : State) (r : Req) (c : CmpKind) (st : Status) (data : Option Line) (poison : Bool) (results : List (BitVec 128)) : Same 140 s (completeReq s r c st data poison results) := by
  have h0 := Same.refl 140 s
  unfold completeReq
  refine Same.step (completePort_same ..) ?_
  refine Same.ite0 ?_ ?_
  · refine Same.step (cxlPoison_same ..) ?_
    refine Same.step (bump_same ..) ?_
    exact Same.refl _ _
  · exact Same.refl _ _

theorem cxlRefusalAt_same (s : State) (r : Req) (st : Status) (dpa : Nat) : Same 12 s (cxlRefusalAt s r st dpa) := by
  have h0 := Same.refl 12 s
  unfold cxlRefusalAt
  extract_lets +onlyGivenNames x_1
  have h_2 : Same 12 s x_1 := by
    subst x_1
    refine Same.step (bump_same ..) ?_
    exact Same.refl _ _
  clear_value x_1
  refine Same.step (emit_same ..) ?_
  exact h_2

theorem cxlRefusal_same (s : State) (r : Req) (st : Status) : Same 12 s (cxlRefusal s r st) := by
  have h0 := Same.refl 12 s
  unfold cxlRefusal
  refine Same.ite0 ?_ ?_
  · refine Same.step (cxlRefusalAt_same ..) ?_
    exact Same.refl _ _
  · exact Same.refl _ _

theorem refusePort_same (s : State) (r : Req) (st : Status) : Same 132 s (refusePort s r st) := by
  have h0 := Same.refl 132 s
  unfold refusePort
  refine Same.step (completePort_same ..) ?_
  exact Same.refl _ _

theorem refuseReq_same (s : State) (r : Req) (st : Status) : Same 140 s (refuseReq s r st) := by
  have h0 := Same.refl 140 s
  unfold refuseReq
  refine Same.step (refusePort_same ..) ?_
  refine Same.step (cxlRefusal_same ..) ?_
  exact Same.refl _ _

theorem refuseHome_same (s : State) (r : Req) (st : Status) : Same 140 s (refuseHome s r st) := by
  have h0 := Same.refl 140 s
  unfold refuseHome
  refine Same.step (refuseReq_same ..) ?_
  refine Same.ite0 ?_ ?_
  · refine Same.step (bump_same ..) ?_
    exact Same.refl _ _
  · exact Same.refl _ _

theorem newTag_same (s : State) : Same 128 s (newTag s).2 := by
  have h0 := Same.refl 128 s
  unfold newTag
  refine Same.pair2 ?_
  refine Same.step (Same.set_coh ..) ?_
  exact Same.refl _ _

theorem setHot_same (s : State) (line : Nat) (h : Hot) : Same 512 s (setHot s line h) := by
  have h0 := Same.refl 512 s
  unfold setHot
  refine Same.step (Same.set_atm ..) ?_
  exact Same.refl _ _

theorem queueRecall_same (s : State) (line : Nat) (kind : RecallKind) (tag : Nat) : Same 128 s (queueRecall s line kind tag) := by
  have h0 := Same.refl 128 s
  unfold queueRecall
  refine Same.step (Same.set_coh ..) ?_
  exact Same.refl _ _

theorem homeErr_same (s : State) (part : Nat) (bit : Nat) : Same 4 s (homeErr s part bit) := by
  have h0 := Same.refl 4 s
  unfold homeErr
  refine Same.step (setBit_same ..) ?_
  exact Same.refl _ _

theorem storeLine_same (s : State) (line : Nat) (d : Line) (poison : Bool) : Same 446676598788 s (storeLine s line d poison) := by
  have h0 := Same.refl 446676598788 s
  unfold storeLine
  extract_lets +onlyGivenNames x_1
  have h_2 : Same 446676598788 s x_1 := by
    subst x_1
    refine Same.step (memLineWrite_same ..) ?_
    exact Same.refl _ _
  clear_value x_1
  refine Same.ite0 ?_ ?_
  · refine Same.step (homeErr_same ..) ?_
    exact h_2
  · exact h_2

theorem queueRecalls_same (s : State) (lo : Nat) (hi : Nat) (kind : RecallKind) (tag : Nat) (want : Nat → DirEntry → Bool) : Same 128 s (queueRecalls s lo hi kind tag want) := by
  have h0 := Same.refl 128 s
  unfold queueRecalls
  extract_lets +onlyGivenNames x_1
  refine Same.foldl _ ?_ ?_
  · exact Same.refl _ _
  · intro a_2 a_3 a_4
    refine Same.step (queueRecall_same ..) ?_
    exact a_4

theorem dropStat_same (s : State) (tag : Nat) : Same 128 s (dropStat s tag) := by
  have h0 := Same.refl 128 s
  unfold dropStat
  refine Same.step (Same.set_coh ..) ?_
  exact Same.refl _ _

theorem countAtoms_same (s : State) (part : Nat) (applied : Nat) (hits : Nat) (stales : Nat) : Same 4 s (countAtoms s part applied hits stales) := by
  have h0 := Same.refl 4 s
  unfold countAtoms
  refine Same.step (bumpBy_same ..) ?_
  refine Same.step (bumpBy_same ..) ?_
  refine Same.step (bumpBy_same ..) ?_
  exact Same.refl _ _

theorem groupNote_same (s : State) (part : Nat) (g : GroupAcc) : Same 516 s (groupNote s part g) := by
  have h0 := Same.refl 516 s
  unfold groupNote
  refine Same.step (countAtoms_same ..) ?_
  refine Same.step (Same.set_atm ..) ?_
  exact Same.refl _ _

theorem emitSnoop_same (s : State) (line : Nat) (n : Snoop) : Same 131084 s (emitSnoop s line n) := by
  have h0 := Same.refl 131084 s
  unfold emitSnoop
  extract_lets +onlyGivenNames x_1
  extract_lets +onlyGivenNames x_2
  have h_3 : Same 131084 s x_2 := by
    subst x_2
    split
    · rename_i a_4 a_5
      refine Same.step (bump_same ..) ?_
      refine Same.step (emit_same ..) ?_
      exact Same.refl _ _
    · rename_i a_6 a_7 a_8
      extract_lets +onlyGivenNames x_9
      have h_10 : Same 131084 s x_9 := by
        subst x_9
        split
        · rename_i a_11 a_12 a_13
          refine Same.ite0 ?_ ?_
          · refine Same.step (bump_same ..) ?_
            exact Same.refl _ _
          · exact Same.refl _ _
        · rename_i a_14 a_15
          exact Same.refl _ _
      clear_value x_9
      refine Same.step (bump_same ..) ?_
      refine Same.step (sendTc7_same ..) ?_
      exact h_10
  clear_value x_2
  extract_lets +onlyGivenNames x_16
  have h_17 : Same 131084 s x_16 := by
    subst x_16
    refine Same.ite0 ?_ ?_
    · refine Same.step (bump_same ..) ?_
      exact h_3
    · exact h_3
  clear_value x_16
  refine Same.ite0 ?_ ?_
  · refine Same.step (bump_same ..) ?_
    exact h_17
  · exact h_17

theorem sendSnoops_same (s : State) (line : Nat) : Same 131212 s (sendSnoops s line) := by
  have h0 := Same.refl 131212 s
  unfold sendSnoops
  split
  · rename_i a_1 a_2
    exact Same.refl _ _
  · rename_i a_3 a_4 a_5
    extract_lets +onlyGivenNames x_6
    subst x_6
    dsimp -zeta -zetaHave only
    extract_lets +onlyGivenNames x_7
    subst x_7
    dsimp -zeta -zetaHave only
    extract_lets +onlyGivenNames x_8
    have h_9 : Same 131212 s x_8 := by
      subst x_8
      refine Same.foldl _ ?_ ?_
      · exact Same.refl _ _
      · intro a_10 a_11 a_12
        refine Same.step (emitSnoop_same ..) ?_
        exact a_12
    clear_value x_8
    refine Same.step (setTrans_same ..) ?_
    exact h_9

theorem register_same (s : State) (part : Nat) (e : Endpoint) : Same 128 s (register s part e) := by
  have h0 := Same.refl 128 s
  unfold register
  refine Same.ite0 ?_ ?_
  · exact Same.refl _ _
  · refine Same.step (Same.set_coh ..) ?_
    exact Same.refl _ _

end Sys2Proof.Machine
end

