-- ==== Sys2Proof/Laws/Read.lean ====
section
/-! SUPPORT. What each reader of the state finds after a named update. -/

namespace Sys2Proof.Machine

@[simp] theorem ringOf_setFld (s : State) (a lo len v : Nat) (key : Nat) : ringOf (setFld s a lo len v) key = ringOf s key := by simp only [ringOf, setFld_rings]
@[simp] theorem ringOf_setBit (s : State) (a b : Nat) (key : Nat) : ringOf (setBit s a b) key = ringOf s key := by simp only [ringOf, setBit_rings]
@[simp] theorem ringOf_bumpBy (s : State) (a n : Nat) (key : Nat) : ringOf (bumpBy s a n) key = ringOf s key := by simp only [ringOf, bumpBy_rings]
@[simp] theorem ringOf_bump (s : State) (a : Nat) (key : Nat) : ringOf (bump s a) key = ringOf s key := by simp only [ringOf, bump_rings]
@[simp] theorem ringOf_setDir (s : State) (l : Nat) (e : DirEntry) (key : Nat) : ringOf (setDir s l e) key = ringOf s key := by simp only [ringOf, setDir_rings]
@[simp] theorem ringOf_dropDir (s : State) (l : Nat) (key : Nat) : ringOf (dropDir s l) key = ringOf s key := by simp only [ringOf, dropDir_rings]
@[simp] theorem ringOf_setTrans (s : State) (l : Nat) (t : Trans) (key : Nat) : ringOf (setTrans s l t) key = ringOf s key := by simp only [ringOf, setTrans_rings]
@[simp] theorem ringOf_dropTrans (s : State) (l : Nat) (key : Nat) : ringOf (dropTrans s l) key = ringOf s key := by simp only [ringOf, dropTrans_rings]
@[simp] theorem ringOf_setHot (s : State) (l : Nat) (h : Hot) (key : Nat) : ringOf (setHot s l h) key = ringOf s key := by simp only [ringOf, setHot_rings]
@[simp] theorem ringOf_setOut (s : State) (n : Nat) (f : Out → Out) (key : Nat) : ringOf (setOut s n f) key = ringOf s key := by simp only [ringOf, setOut_rings]
@[simp] theorem ringOf_modStat (s : State) (t : Nat) (f : RecallStat → RecallStat) (key : Nat) : ringOf (modStat s t f) key = ringOf s key := by simp only [ringOf, modStat_rings]
@[simp] theorem ringOf_dropStat (s : State) (t : Nat) (key : Nat) : ringOf (dropStat s t) key = ringOf s key := by simp only [ringOf, dropStat_rings]
@[simp] theorem ringOf_setOp (s : State) (i : Nat) (w : WOp) (key : Nat) : ringOf (setOp s i w) key = ringOf s key := by simp only [ringOf, setOp_rings]
@[simp] theorem ringOf_setStack (s : State) (i : Nat) (r : StackRec) (key : Nat) : ringOf (setStack s i r) key = ringOf s key := by simp only [ringOf, setStack_rings]
@[simp] theorem ringOf_setSettle (s : State) (x : SettleSt) (key : Nat) : ringOf (setSettle s x) key = ringOf s key := by simp only [ringOf, setSettle_rings]
@[simp] theorem ringOf_setLink (s : State) (p : Nat) (l : Link) (key : Nat) : ringOf (setLink s p l) key = ringOf s key := by simp only [ringOf, setLink_rings]
@[simp] theorem ringOf_setCxl (s : State) (p : Nat) (c : CxlPort) (key : Nat) : ringOf (setCxl s p c) key = ringOf s key := by simp only [ringOf, setCxl_rings]
@[simp] theorem ringOf_setUnit (s : State) (u : Nat) (x : TUnitSt) (key : Nat) : ringOf (setUnit s u x) key = ringOf s key := by simp only [ringOf, setUnit_rings]
@[simp] theorem ringOf_setBack (s : State) (i : Nat) (b : Back) (key : Nat) : ringOf (setBack s i b) key = ringOf s key := by simp only [ringOf, setBack_rings]
@[simp] theorem ringOf_setShelf (s : State) (i : Nat) (x : Shelf) (key : Nat) : ringOf (setShelf s i x) key = ringOf s key := by simp only [ringOf, setShelf_rings]
@[simp] theorem ringOf_setSlot (s : State) (i k : Nat) (l : Slot) (key : Nat) : ringOf (setSlot s i k l) key = ringOf s key := by simp only [ringOf, setSlot_rings]
@[simp] theorem ringOf_setDrawer (s : State) (i : Nat) (d : Drawer) (key : Nat) : ringOf (setDrawer s i d) key = ringOf s key := by simp only [ringOf, setDrawer_rings]

@[simp] theorem handleOf_setFld (s : State) (a lo len v : Nat) (key : Nat) : handleOf (setFld s a lo len v) key = handleOf s key := by simp only [handleOf, setFld_rings]
@[simp] theorem handleOf_setBit (s : State) (a b : Nat) (key : Nat) : handleOf (setBit s a b) key = handleOf s key := by simp only [handleOf, setBit_rings]
@[simp] theorem handleOf_bumpBy (s : State) (a n : Nat) (key : Nat) : handleOf (bumpBy s a n) key = handleOf s key := by simp only [handleOf, bumpBy_rings]
@[simp] theorem handleOf_bump (s : State) (a : Nat) (key : Nat) : handleOf (bump s a) key = handleOf s key := by simp only [handleOf, bump_rings]
@[simp] theorem handleOf_setDir (s : State) (l : Nat) (e : DirEntry) (key : Nat) : handleOf (setDir s l e) key = handleOf s key := by simp only [handleOf, setDir_rings]
@[simp] theorem handleOf_dropDir (s : State) (l : Nat) (key : Nat) : handleOf (dropDir s l) key = handleOf s key := by simp only [handleOf, dropDir_rings]
@[simp] theorem handleOf_setTrans (s : State) (l : Nat) (t : Trans) (key : Nat) : handleOf (setTrans s l t) key = handleOf s key := by simp only [handleOf, setTrans_rings]
@[simp] theorem handleOf_dropTrans (s : State) (l : Nat) (key : Nat) : handleOf (dropTrans s l) key = handleOf s key := by simp only [handleOf, dropTrans_rings]
@[simp] theorem handleOf_setHot (s : State) (l : Nat) (h : Hot) (key : Nat) : handleOf (setHot s l h) key = handleOf s key := by simp only [handleOf, setHot_rings]
@[simp] theorem handleOf_setOut (s : State) (n : Nat) (f : Out → Out) (key : Nat) : handleOf (setOut s n f) key = handleOf s key := by simp only [handleOf, setOut_rings]
@[simp] theorem handleOf_modStat (s : State) (t : Nat) (f : RecallStat → RecallStat) (key : Nat) : handleOf (modStat s t f) key = handleOf s key := by simp only [handleOf, modStat_rings]
@[simp] theorem handleOf_dropStat (s : State) (t : Nat) (key : Nat) : handleOf (dropStat s t) key = handleOf s key := by simp only [handleOf, dropStat_rings]
@[simp] theorem handleOf_setOp (s : State) (i : Nat) (w : WOp) (key : Nat) : handleOf (setOp s i w) key = handleOf s key := by simp only [handleOf, setOp_rings]
@[simp] theorem handleOf_setStack (s : State) (i : Nat) (r : StackRec) (key : Nat) : handleOf (setStack s i r) key = handleOf s key := by simp only [handleOf, setStack_rings]
@[simp] theorem handleOf_setSettle (s : State) (x : SettleSt) (key : Nat) : handleOf (setSettle s x) key = handleOf s key := by simp only [handleOf, setSettle_rings]
@[simp] theorem handleOf_setLink (s : State) (p : Nat) (l : Link) (key : Nat) : handleOf (setLink s p l) key = handleOf s key := by simp only [handleOf, setLink_rings]
@[simp] theorem handleOf_setCxl (s : State) (p : Nat) (c : CxlPort) (key : Nat) : handleOf (setCxl s p c) key = handleOf s key := by simp only [handleOf, setCxl_rings]
@[simp] theorem handleOf_setUnit (s : State) (u : Nat) (x : TUnitSt) (key : Nat) : handleOf (setUnit s u x) key = handleOf s key := by simp only [handleOf, setUnit_rings]
@[simp] theorem handleOf_setBack (s : State) (i : Nat) (b : Back) (key : Nat) : handleOf (setBack s i b) key = handleOf s key := by simp only [handleOf, setBack_rings]
@[simp] theorem handleOf_setShelf (s : State) (i : Nat) (x : Shelf) (key : Nat) : handleOf (setShelf s i x) key = handleOf s key := by simp only [handleOf, setShelf_rings]
@[simp] theorem handleOf_setSlot (s : State) (i k : Nat) (l : Slot) (key : Nat) : handleOf (setSlot s i k l) key = handleOf s key := by simp only [handleOf, setSlot_rings]
@[simp] theorem handleOf_setDrawer (s : State) (i : Nat) (d : Drawer) (key : Nat) : handleOf (setDrawer s i d) key = handleOf s key := by simp only [handleOf, setDrawer_rings]

@[simp] theorem dirAt_emit (s : State) (e : Emit) (key : Nat) : dirAt (emit s e) key = dirAt s key := by simp only [dirAt, emit_coh]
@[simp] theorem dirAt_regSet (s : State) (a : Nat) (v : Word) (key : Nat) : dirAt (regSet s a v) key = dirAt s key := by simp only [dirAt, regSet_coh]
@[simp] theorem dirAt_setFld (s : State) (a lo len v : Nat) (key : Nat) : dirAt (setFld s a lo len v) key = dirAt s key := by simp only [dirAt, setFld_coh]
@[simp] theorem dirAt_setBit (s : State) (a b : Nat) (key : Nat) : dirAt (setBit s a b) key = dirAt s key := by simp only [dirAt, setBit_coh]
@[simp] theorem dirAt_bumpBy (s : State) (a n : Nat) (key : Nat) : dirAt (bumpBy s a n) key = dirAt s key := by simp only [dirAt, bumpBy_coh]
@[simp] theorem dirAt_bump (s : State) (a : Nat) (key : Nat) : dirAt (bump s a) key = dirAt s key := by simp only [dirAt, bump_coh]
@[simp] theorem dirAt_setRing (s : State) (n : Nat) (r : Ring) (key : Nat) : dirAt (setRing s n r) key = dirAt s key := by simp only [dirAt, setRing_coh]
@[simp] theorem dirAt_setHandle (s : State) (h : Nat) (r : HandleRec) (key : Nat) : dirAt (setHandle s h r) key = dirAt s key := by simp only [dirAt, setHandle_coh]
@[simp] theorem dirAt_dropHandle (s : State) (h : Nat) (key : Nat) : dirAt (dropHandle s h) key = dirAt s key := by simp only [dirAt, dropHandle_coh]
@[simp] theorem dirAt_setProgress (s : State) (h n : Nat) (key : Nat) : dirAt (setProgress s h n) key = dirAt s key := by simp only [dirAt, setProgress_coh]
@[simp] theorem dirAt_engineDone (s : State) (h : Nat) (st : Status) (r0 r1 : Word) (key : Nat) : dirAt (engineDone s h st r0 r1) key = dirAt s key := by simp only [dirAt, engineDone_coh]
@[simp] theorem dirAt_setHot (s : State) (l : Nat) (h : Hot) (key : Nat) : dirAt (setHot s l h) key = dirAt s key := by simp only [dirAt, setHot_coh]
@[simp] theorem dirAt_setOut (s : State) (n : Nat) (f : Out → Out) (key : Nat) : dirAt (setOut s n f) key = dirAt s key := by simp only [dirAt, setOut_coh]
@[simp] theorem dirAt_setOp (s : State) (i : Nat) (w : WOp) (key : Nat) : dirAt (setOp s i w) key = dirAt s key := by simp only [dirAt, setOp_coh]
@[simp] theorem dirAt_setStack (s : State) (i : Nat) (r : StackRec) (key : Nat) : dirAt (setStack s i r) key = dirAt s key := by simp only [dirAt, setStack_coh]
@[simp] theorem dirAt_setSettle (s : State) (x : SettleSt) (key : Nat) : dirAt (setSettle s x) key = dirAt s key := by simp only [dirAt, setSettle_coh]
@[simp] theorem dirAt_setLink (s : State) (p : Nat) (l : Link) (key : Nat) : dirAt (setLink s p l) key = dirAt s key := by simp only [dirAt, setLink_coh]
@[simp] theorem dirAt_setCxl (s : State) (p : Nat) (c : CxlPort) (key : Nat) : dirAt (setCxl s p c) key = dirAt s key := by simp only [dirAt, setCxl_coh]
@[simp] theorem dirAt_setUnit (s : State) (u : Nat) (x : TUnitSt) (key : Nat) : dirAt (setUnit s u x) key = dirAt s key := by simp only [dirAt, setUnit_coh]
@[simp] theorem dirAt_setBack (s : State) (i : Nat) (b : Back) (key : Nat) : dirAt (setBack s i b) key = dirAt s key := by simp only [dirAt, setBack_coh]
@[simp] theorem dirAt_setShelf (s : State) (i : Nat) (x : Shelf) (key : Nat) : dirAt (setShelf s i x) key = dirAt s key := by simp only [dirAt, setShelf_coh]
@[simp] theorem dirAt_setSlot (s : State) (i k : Nat) (l : Slot) (key : Nat) : dirAt (setSlot s i k l) key = dirAt s key := by simp only [dirAt, setSlot_coh]
@[simp] theorem dirAt_setDrawer (s : State) (i : Nat) (d : Drawer) (key : Nat) : dirAt (setDrawer s i d) key = dirAt s key := by simp only [dirAt, setDrawer_coh]
@[simp] theorem dirAt_setDir (s : State) (l : Nat) (e : DirEntry) : dirAt (setDir s l e) l = some e := by simp [dirAt, setDir]

@[simp] theorem transAt_emit (s : State) (e : Emit) (key : Nat) : transAt (emit s e) key = transAt s key := by simp only [transAt, emit_coh]
@[simp] theorem transAt_regSet (s : State) (a : Nat) (v : Word) (key : Nat) : transAt (regSet s a v) key = transAt s key := by simp only [transAt, regSet_coh]
@[simp] theorem transAt_setFld (s : State) (a lo len v : Nat) (key : Nat) : transAt (setFld s a lo len v) key = transAt s key := by simp only [transAt, setFld_coh]
@[simp] theorem transAt_setBit (s : State) (a b : Nat) (key : Nat) : transAt (setBit s a b) key = transAt s key := by simp only [transAt, setBit_coh]
@[simp] theorem transAt_bumpBy (s : State) (a n : Nat) (key : Nat) : transAt (bumpBy s a n) key = transAt s key := by simp only [transAt, bumpBy_coh]
@[simp] theorem transAt_bump (s : State) (a : Nat) (key : Nat) : transAt (bump s a) key = transAt s key := by simp only [transAt, bump_coh]
@[simp] theorem transAt_setRing (s : State) (n : Nat) (r : Ring) (key : Nat) : transAt (setRing s n r) key = transAt s key := by simp only [transAt, setRing_coh]
@[simp] theorem transAt_setHandle (s : State) (h : Nat) (r : HandleRec) (key : Nat) : transAt (setHandle s h r) key = transAt s key := by simp only [transAt, setHandle_coh]
@[simp] theorem transAt_dropHandle (s : State) (h : Nat) (key : Nat) : transAt (dropHandle s h) key = transAt s key := by simp only [transAt, dropHandle_coh]
@[simp] theorem transAt_setProgress (s : State) (h n : Nat) (key : Nat) : transAt (setProgress s h n) key = transAt s key := by simp only [transAt, setProgress_coh]
@[simp] theorem transAt_engineDone (s : State) (h : Nat) (st : Status) (r0 r1 : Word) (key : Nat) : transAt (engineDone s h st r0 r1) key = transAt s key := by simp only [transAt, engineDone_coh]
@[simp] theorem transAt_setHot (s : State) (l : Nat) (h : Hot) (key : Nat) : transAt (setHot s l h) key = transAt s key := by simp only [transAt, setHot_coh]
@[simp] theorem transAt_setOut (s : State) (n : Nat) (f : Out → Out) (key : Nat) : transAt (setOut s n f) key = transAt s key := by simp only [transAt, setOut_coh]
@[simp] theorem transAt_setOp (s : State) (i : Nat) (w : WOp) (key : Nat) : transAt (setOp s i w) key = transAt s key := by simp only [transAt, setOp_coh]
@[simp] theorem transAt_setStack (s : State) (i : Nat) (r : StackRec) (key : Nat) : transAt (setStack s i r) key = transAt s key := by simp only [transAt, setStack_coh]
@[simp] theorem transAt_setSettle (s : State) (x : SettleSt) (key : Nat) : transAt (setSettle s x) key = transAt s key := by simp only [transAt, setSettle_coh]
@[simp] theorem transAt_setLink (s : State) (p : Nat) (l : Link) (key : Nat) : transAt (setLink s p l) key = transAt s key := by simp only [transAt, setLink_coh]
@[simp] theorem transAt_setCxl (s : State) (p : Nat) (c : CxlPort) (key : Nat) : transAt (setCxl s p c) key = transAt s key := by simp only [transAt, setCxl_coh]
@[simp] theorem transAt_setUnit (s : State) (u : Nat) (x : TUnitSt) (key : Nat) : transAt (setUnit s u x) key = transAt s key := by simp only [transAt, setUnit_coh]
@[simp] theorem transAt_setBack (s : State) (i : Nat) (b : Back) (key : Nat) : transAt (setBack s i b) key = transAt s key := by simp only [transAt, setBack_coh]
@[simp] theorem transAt_setShelf (s : State) (i : Nat) (x : Shelf) (key : Nat) : transAt (setShelf s i x) key = transAt s key := by simp only [transAt, setShelf_coh]
@[simp] theorem transAt_setSlot (s : State) (i k : Nat) (l : Slot) (key : Nat) : transAt (setSlot s i k l) key = transAt s key := by simp only [transAt, setSlot_coh]
@[simp] theorem transAt_setDrawer (s : State) (i : Nat) (d : Drawer) (key : Nat) : transAt (setDrawer s i d) key = transAt s key := by simp only [transAt, setDrawer_coh]
@[simp] theorem transAt_setTrans (s : State) (l : Nat) (t : Trans) : transAt (setTrans s l t) l = some t := by simp [transAt, setTrans]

@[simp] theorem hotAt_emit (s : State) (e : Emit) (key : Nat) : hotAt (emit s e) key = hotAt s key := by simp only [hotAt, emit_atm]
@[simp] theorem hotAt_regSet (s : State) (a : Nat) (v : Word) (key : Nat) : hotAt (regSet s a v) key = hotAt s key := by simp only [hotAt, regSet_atm]
@[simp] theorem hotAt_setFld (s : State) (a lo len v : Nat) (key : Nat) : hotAt (setFld s a lo len v) key = hotAt s key := by simp only [hotAt, setFld_atm]
@[simp] theorem hotAt_setBit (s : State) (a b : Nat) (key : Nat) : hotAt (setBit s a b) key = hotAt s key := by simp only [hotAt, setBit_atm]
@[simp] theorem hotAt_bumpBy (s : State) (a n : Nat) (key : Nat) : hotAt (bumpBy s a n) key = hotAt s key := by simp only [hotAt, bumpBy_atm]
@[simp] theorem hotAt_bump (s : State) (a : Nat) (key : Nat) : hotAt (bump s a) key = hotAt s key := by simp only [hotAt, bump_atm]
@[simp] theorem hotAt_setRing (s : State) (n : Nat) (r : Ring) (key : Nat) : hotAt (setRing s n r) key = hotAt s key := by simp only [hotAt, setRing_atm]
@[simp] theorem hotAt_setHandle (s : State) (h : Nat) (r : HandleRec) (key : Nat) : hotAt (setHandle s h r) key = hotAt s key := by simp only [hotAt, setHandle_atm]
@[simp] theorem hotAt_dropHandle (s : State) (h : Nat) (key : Nat) : hotAt (dropHandle s h) key = hotAt s key := by simp only [hotAt, dropHandle_atm]
@[simp] theorem hotAt_setProgress (s : State) (h n : Nat) (key : Nat) : hotAt (setProgress s h n) key = hotAt s key := by simp only [hotAt, setProgress_atm]
@[simp] theorem hotAt_engineDone (s : State) (h : Nat) (st : Status) (r0 r1 : Word) (key : Nat) : hotAt (engineDone s h st r0 r1) key = hotAt s key := by simp only [hotAt, engineDone_atm]
@[simp] theorem hotAt_setDir (s : State) (l : Nat) (e : DirEntry) (key : Nat) : hotAt (setDir s l e) key = hotAt s key := by simp only [hotAt, setDir_atm]
@[simp] theorem hotAt_dropDir (s : State) (l : Nat) (key : Nat) : hotAt (dropDir s l) key = hotAt s key := by simp only [hotAt, dropDir_atm]
@[simp] theorem hotAt_setTrans (s : State) (l : Nat) (t : Trans) (key : Nat) : hotAt (setTrans s l t) key = hotAt s key := by simp only [hotAt, setTrans_atm]
@[simp] theorem hotAt_dropTrans (s : State) (l : Nat) (key : Nat) : hotAt (dropTrans s l) key = hotAt s key := by simp only [hotAt, dropTrans_atm]
@[simp] theorem hotAt_setOut (s : State) (n : Nat) (f : Out → Out) (key : Nat) : hotAt (setOut s n f) key = hotAt s key := by simp only [hotAt, setOut_atm]
@[simp] theorem hotAt_modStat (s : State) (t : Nat) (f : RecallStat → RecallStat) (key : Nat) : hotAt (modStat s t f) key = hotAt s key := by simp only [hotAt, modStat_atm]
@[simp] theorem hotAt_dropStat (s : State) (t : Nat) (key : Nat) : hotAt (dropStat s t) key = hotAt s key := by simp only [hotAt, dropStat_atm]
@[simp] theorem hotAt_setOp (s : State) (i : Nat) (w : WOp) (key : Nat) : hotAt (setOp s i w) key = hotAt s key := by simp only [hotAt, setOp_atm]
@[simp] theorem hotAt_setStack (s : State) (i : Nat) (r : StackRec) (key : Nat) : hotAt (setStack s i r) key = hotAt s key := by simp only [hotAt, setStack_atm]
@[simp] theorem hotAt_setSettle (s : State) (x : SettleSt) (key : Nat) : hotAt (setSettle s x) key = hotAt s key := by simp only [hotAt, setSettle_atm]
@[simp] theorem hotAt_setLink (s : State) (p : Nat) (l : Link) (key : Nat) : hotAt (setLink s p l) key = hotAt s key := by simp only [hotAt, setLink_atm]
@[simp] theorem hotAt_setCxl (s : State) (p : Nat) (c : CxlPort) (key : Nat) : hotAt (setCxl s p c) key = hotAt s key := by simp only [hotAt, setCxl_atm]
@[simp] theorem hotAt_setUnit (s : State) (u : Nat) (x : TUnitSt) (key : Nat) : hotAt (setUnit s u x) key = hotAt s key := by simp only [hotAt, setUnit_atm]
@[simp] theorem hotAt_setBack (s : State) (i : Nat) (b : Back) (key : Nat) : hotAt (setBack s i b) key = hotAt s key := by simp only [hotAt, setBack_atm]
@[simp] theorem hotAt_setShelf (s : State) (i : Nat) (x : Shelf) (key : Nat) : hotAt (setShelf s i x) key = hotAt s key := by simp only [hotAt, setShelf_atm]
@[simp] theorem hotAt_setSlot (s : State) (i k : Nat) (l : Slot) (key : Nat) : hotAt (setSlot s i k l) key = hotAt s key := by simp only [hotAt, setSlot_atm]
@[simp] theorem hotAt_setDrawer (s : State) (i : Nat) (d : Drawer) (key : Nat) : hotAt (setDrawer s i d) key = hotAt s key := by simp only [hotAt, setDrawer_atm]
@[simp] theorem hotAt_setHot (s : State) (l : Nat) (h : Hot) : hotAt (setHot s l h) l = some h := by simp [hotAt, setHot]

@[simp] theorem statOf_emit (s : State) (e : Emit) (key : Nat) : statOf (emit s e) key = statOf s key := by simp only [statOf, emit_coh]
@[simp] theorem statOf_regSet (s : State) (a : Nat) (v : Word) (key : Nat) : statOf (regSet s a v) key = statOf s key := by simp only [statOf, regSet_coh]
@[simp] theorem statOf_setFld (s : State) (a lo len v : Nat) (key : Nat) : statOf (setFld s a lo len v) key = statOf s key := by simp only [statOf, setFld_coh]
@[simp] theorem statOf_setBit (s : State) (a b : Nat) (key : Nat) : statOf (setBit s a b) key = statOf s key := by simp only [statOf, setBit_coh]
@[simp] theorem statOf_bumpBy (s : State) (a n : Nat) (key : Nat) : statOf (bumpBy s a n) key = statOf s key := by simp only [statOf, bumpBy_coh]
@[simp] theorem statOf_bump (s : State) (a : Nat) (key : Nat) : statOf (bump s a) key = statOf s key := by simp only [statOf, bump_coh]
@[simp] theorem statOf_setRing (s : State) (n : Nat) (r : Ring) (key : Nat) : statOf (setRing s n r) key = statOf s key := by simp only [statOf, setRing_coh]
@[simp] theorem statOf_setHandle (s : State) (h : Nat) (r : HandleRec) (key : Nat) : statOf (setHandle s h r) key = statOf s key := by simp only [statOf, setHandle_coh]
@[simp] theorem statOf_dropHandle (s : State) (h : Nat) (key : Nat) : statOf (dropHandle s h) key = statOf s key := by simp only [statOf, dropHandle_coh]
@[simp] theorem statOf_setProgress (s : State) (h n : Nat) (key : Nat) : statOf (setProgress s h n) key = statOf s key := by simp only [statOf, setProgress_coh]
@[simp] theorem statOf_engineDone (s : State) (h : Nat) (st : Status) (r0 r1 : Word) (key : Nat) : statOf (engineDone s h st r0 r1) key = statOf s key := by simp only [statOf, engineDone_coh]
@[simp] theorem statOf_setHot (s : State) (l : Nat) (h : Hot) (key : Nat) : statOf (setHot s l h) key = statOf s key := by simp only [statOf, setHot_coh]
@[simp] theorem statOf_setOut (s : State) (n : Nat) (f : Out → Out) (key : Nat) : statOf (setOut s n f) key = statOf s key := by simp only [statOf, setOut_coh]
@[simp] theorem statOf_setOp (s : State) (i : Nat) (w : WOp) (key : Nat) : statOf (setOp s i w) key = statOf s key := by simp only [statOf, setOp_coh]
@[simp] theorem statOf_setStack (s : State) (i : Nat) (r : StackRec) (key : Nat) : statOf (setStack s i r) key = statOf s key := by simp only [statOf, setStack_coh]
@[simp] theorem statOf_setSettle (s : State) (x : SettleSt) (key : Nat) : statOf (setSettle s x) key = statOf s key := by simp only [statOf, setSettle_coh]
@[simp] theorem statOf_setLink (s : State) (p : Nat) (l : Link) (key : Nat) : statOf (setLink s p l) key = statOf s key := by simp only [statOf, setLink_coh]
@[simp] theorem statOf_setCxl (s : State) (p : Nat) (c : CxlPort) (key : Nat) : statOf (setCxl s p c) key = statOf s key := by simp only [statOf, setCxl_coh]
@[simp] theorem statOf_setUnit (s : State) (u : Nat) (x : TUnitSt) (key : Nat) : statOf (setUnit s u x) key = statOf s key := by simp only [statOf, setUnit_coh]
@[simp] theorem statOf_setBack (s : State) (i : Nat) (b : Back) (key : Nat) : statOf (setBack s i b) key = statOf s key := by simp only [statOf, setBack_coh]
@[simp] theorem statOf_setShelf (s : State) (i : Nat) (x : Shelf) (key : Nat) : statOf (setShelf s i x) key = statOf s key := by simp only [statOf, setShelf_coh]
@[simp] theorem statOf_setSlot (s : State) (i k : Nat) (l : Slot) (key : Nat) : statOf (setSlot s i k l) key = statOf s key := by simp only [statOf, setSlot_coh]
@[simp] theorem statOf_setDrawer (s : State) (i : Nat) (d : Drawer) (key : Nat) : statOf (setDrawer s i d) key = statOf s key := by simp only [statOf, setDrawer_coh]

@[simp] theorem stackOf_emit (s : State) (e : Emit) (key : Nat) : stackOf (emit s e) key = stackOf s key := by simp only [stackOf, emit_stk]
@[simp] theorem stackOf_regSet (s : State) (a : Nat) (v : Word) (key : Nat) : stackOf (regSet s a v) key = stackOf s key := by simp only [stackOf, regSet_stk]
@[simp] theorem stackOf_setFld (s : State) (a lo len v : Nat) (key : Nat) : stackOf (setFld s a lo len v) key = stackOf s key := by simp only [stackOf, setFld_stk]
@[simp] theorem stackOf_setBit (s : State) (a b : Nat) (key : Nat) : stackOf (setBit s a b) key = stackOf s key := by simp only [stackOf, setBit_stk]
@[simp] theorem stackOf_bumpBy (s : State) (a n : Nat) (key : Nat) : stackOf (bumpBy s a n) key = stackOf s key := by simp only [stackOf, bumpBy_stk]
@[simp] theorem stackOf_bump (s : State) (a : Nat) (key : Nat) : stackOf (bump s a) key = stackOf s key := by simp only [stackOf, bump_stk]
@[simp] theorem stackOf_setRing (s : State) (n : Nat) (r : Ring) (key : Nat) : stackOf (setRing s n r) key = stackOf s key := by simp only [stackOf, setRing_stk]
@[simp] theorem stackOf_setHandle (s : State) (h : Nat) (r : HandleRec) (key : Nat) : stackOf (setHandle s h r) key = stackOf s key := by simp only [stackOf, setHandle_stk]
@[simp] theorem stackOf_dropHandle (s : State) (h : Nat) (key : Nat) : stackOf (dropHandle s h) key = stackOf s key := by simp only [stackOf, dropHandle_stk]
@[simp] theorem stackOf_setProgress (s : State) (h n : Nat) (key : Nat) : stackOf (setProgress s h n) key = stackOf s key := by simp only [stackOf, setProgress_stk]
@[simp] theorem stackOf_engineDone (s : State) (h : Nat) (st : Status) (r0 r1 : Word) (key : Nat) : stackOf (engineDone s h st r0 r1) key = stackOf s key := by simp only [stackOf, engineDone_stk]
@[simp] theorem stackOf_setDir (s : State) (l : Nat) (e : DirEntry) (key : Nat) : stackOf (setDir s l e) key = stackOf s key := by simp only [stackOf, setDir_stk]
@[simp] theorem stackOf_dropDir (s : State) (l : Nat) (key : Nat) : stackOf (dropDir s l) key = stackOf s key := by simp only [stackOf, dropDir_stk]
@[simp] theorem stackOf_setTrans (s : State) (l : Nat) (t : Trans) (key : Nat) : stackOf (setTrans s l t) key = stackOf s key := by simp only [stackOf, setTrans_stk]
@[simp] theorem stackOf_dropTrans (s : State) (l : Nat) (key : Nat) : stackOf (dropTrans s l) key = stackOf s key := by simp only [stackOf, dropTrans_stk]
@[simp] theorem stackOf_setHot (s : State) (l : Nat) (h : Hot) (key : Nat) : stackOf (setHot s l h) key = stackOf s key := by simp only [stackOf, setHot_stk]
@[simp] theorem stackOf_setOut (s : State) (n : Nat) (f : Out → Out) (key : Nat) : stackOf (setOut s n f) key = stackOf s key := by simp only [stackOf, setOut_stk]
@[simp] theorem stackOf_modStat (s : State) (t : Nat) (f : RecallStat → RecallStat) (key : Nat) : stackOf (modStat s t f) key = stackOf s key := by simp only [stackOf, modStat_stk]
@[simp] theorem stackOf_dropStat (s : State) (t : Nat) (key : Nat) : stackOf (dropStat s t) key = stackOf s key := by simp only [stackOf, dropStat_stk]
@[simp] theorem stackOf_setOp (s : State) (i : Nat) (w : WOp) (key : Nat) : stackOf (setOp s i w) key = stackOf s key := by simp only [stackOf, setOp_stk]
@[simp] theorem stackOf_setSettle (s : State) (x : SettleSt) (key : Nat) : stackOf (setSettle s x) key = stackOf s key := by simp only [stackOf, setSettle_stk]
@[simp] theorem stackOf_setLink (s : State) (p : Nat) (l : Link) (key : Nat) : stackOf (setLink s p l) key = stackOf s key := by simp only [stackOf, setLink_stk]
@[simp] theorem stackOf_setCxl (s : State) (p : Nat) (c : CxlPort) (key : Nat) : stackOf (setCxl s p c) key = stackOf s key := by simp only [stackOf, setCxl_stk]
@[simp] theorem stackOf_setUnit (s : State) (u : Nat) (x : TUnitSt) (key : Nat) : stackOf (setUnit s u x) key = stackOf s key := by simp only [stackOf, setUnit_stk]
@[simp] theorem stackOf_setBack (s : State) (i : Nat) (b : Back) (key : Nat) : stackOf (setBack s i b) key = stackOf s key := by simp only [stackOf, setBack_stk]
@[simp] theorem stackOf_setShelf (s : State) (i : Nat) (x : Shelf) (key : Nat) : stackOf (setShelf s i x) key = stackOf s key := by simp only [stackOf, setShelf_stk]
@[simp] theorem stackOf_setSlot (s : State) (i k : Nat) (l : Slot) (key : Nat) : stackOf (setSlot s i k l) key = stackOf s key := by simp only [stackOf, setSlot_stk]
@[simp] theorem stackOf_setDrawer (s : State) (i : Nat) (d : Drawer) (key : Nat) : stackOf (setDrawer s i d) key = stackOf s key := by simp only [stackOf, setDrawer_stk]
@[simp] theorem stackOf_setStack (s : State) (i : Nat) (r : StackRec) : stackOf (setStack s i r) i = r := by simp [stackOf, setStack]

@[simp] theorem unitOf_emit (s : State) (e : Emit) (key : Nat) : unitOf (emit s e) key = unitOf s key := by simp only [unitOf, emit_trs]
@[simp] theorem unitOf_regSet (s : State) (a : Nat) (v : Word) (key : Nat) : unitOf (regSet s a v) key = unitOf s key := by simp only [unitOf, regSet_trs]
@[simp] theorem unitOf_setFld (s : State) (a lo len v : Nat) (key : Nat) : unitOf (setFld s a lo len v) key = unitOf s key := by simp only [unitOf, setFld_trs]
@[simp] theorem unitOf_setBit (s : State) (a b : Nat) (key : Nat) : unitOf (setBit s a b) key = unitOf s key := by simp only [unitOf, setBit_trs]
@[simp] theorem unitOf_bumpBy (s : State) (a n : Nat) (key : Nat) : unitOf (bumpBy s a n) key = unitOf s key := by simp only [unitOf, bumpBy_trs]
@[simp] theorem unitOf_bump (s : State) (a : Nat) (key : Nat) : unitOf (bump s a) key = unitOf s key := by simp only [unitOf, bump_trs]
@[simp] theorem unitOf_setRing (s : State) (n : Nat) (r : Ring) (key : Nat) : unitOf (setRing s n r) key = unitOf s key := by simp only [unitOf, setRing_trs]
@[simp] theorem unitOf_setHandle (s : State) (h : Nat) (r : HandleRec) (key : Nat) : unitOf (setHandle s h r) key = unitOf s key := by simp only [unitOf, setHandle_trs]
@[simp] theorem unitOf_dropHandle (s : State) (h : Nat) (key : Nat) : unitOf (dropHandle s h) key = unitOf s key := by simp only [unitOf, dropHandle_trs]
@[simp] theorem unitOf_setProgress (s : State) (h n : Nat) (key : Nat) : unitOf (setProgress s h n) key = unitOf s key := by simp only [unitOf, setProgress_trs]
@[simp] theorem unitOf_engineDone (s : State) (h : Nat) (st : Status) (r0 r1 : Word) (key : Nat) : unitOf (engineDone s h st r0 r1) key = unitOf s key := by simp only [unitOf, engineDone_trs]
@[simp] theorem unitOf_setDir (s : State) (l : Nat) (e : DirEntry) (key : Nat) : unitOf (setDir s l e) key = unitOf s key := by simp only [unitOf, setDir_trs]
@[simp] theorem unitOf_dropDir (s : State) (l : Nat) (key : Nat) : unitOf (dropDir s l) key = unitOf s key := by simp only [unitOf, dropDir_trs]
@[simp] theorem unitOf_setTrans (s : State) (l : Nat) (t : Trans) (key : Nat) : unitOf (setTrans s l t) key = unitOf s key := by simp only [unitOf, setTrans_trs]
@[simp] theorem unitOf_dropTrans (s : State) (l : Nat) (key : Nat) : unitOf (dropTrans s l) key = unitOf s key := by simp only [unitOf, dropTrans_trs]
@[simp] theorem unitOf_setHot (s : State) (l : Nat) (h : Hot) (key : Nat) : unitOf (setHot s l h) key = unitOf s key := by simp only [unitOf, setHot_trs]
@[simp] theorem unitOf_setOut (s : State) (n : Nat) (f : Out → Out) (key : Nat) : unitOf (setOut s n f) key = unitOf s key := by simp only [unitOf, setOut_trs]
@[simp] theorem unitOf_modStat (s : State) (t : Nat) (f : RecallStat → RecallStat) (key : Nat) : unitOf (modStat s t f) key = unitOf s key := by simp only [unitOf, modStat_trs]
@[simp] theorem unitOf_dropStat (s : State) (t : Nat) (key : Nat) : unitOf (dropStat s t) key = unitOf s key := by simp only [unitOf, dropStat_trs]
@[simp] theorem unitOf_setOp (s : State) (i : Nat) (w : WOp) (key : Nat) : unitOf (setOp s i w) key = unitOf s key := by simp only [unitOf, setOp_trs]
@[simp] theorem unitOf_setStack (s : State) (i : Nat) (r : StackRec) (key : Nat) : unitOf (setStack s i r) key = unitOf s key := by simp only [unitOf, setStack_trs]
@[simp] theorem unitOf_setSettle (s : State) (x : SettleSt) (key : Nat) : unitOf (setSettle s x) key = unitOf s key := by simp only [unitOf, setSettle_trs]
@[simp] theorem unitOf_setLink (s : State) (p : Nat) (l : Link) (key : Nat) : unitOf (setLink s p l) key = unitOf s key := by simp only [unitOf, setLink_trs]
@[simp] theorem unitOf_setCxl (s : State) (p : Nat) (c : CxlPort) (key : Nat) : unitOf (setCxl s p c) key = unitOf s key := by simp only [unitOf, setCxl_trs]
@[simp] theorem unitOf_setBack (s : State) (i : Nat) (b : Back) (key : Nat) : unitOf (setBack s i b) key = unitOf s key := by simp only [unitOf, setBack_trs]
@[simp] theorem unitOf_setShelf (s : State) (i : Nat) (x : Shelf) (key : Nat) : unitOf (setShelf s i x) key = unitOf s key := by simp only [unitOf, setShelf_trs]
@[simp] theorem unitOf_setSlot (s : State) (i k : Nat) (l : Slot) (key : Nat) : unitOf (setSlot s i k l) key = unitOf s key := by simp only [unitOf, setSlot_trs]
@[simp] theorem unitOf_setDrawer (s : State) (i : Nat) (d : Drawer) (key : Nat) : unitOf (setDrawer s i d) key = unitOf s key := by simp only [unitOf, setDrawer_trs]
@[simp] theorem unitOf_setUnit (s : State) (u : Nat) (x : TUnitSt) : unitOf (setUnit s u x) u = x := by simp [unitOf, setUnit]

@[simp] theorem launchOf_emit (s : State) (e : Emit) (key : Nat) : launchOf (emit s e) key = launchOf s key := by simp only [launchOf, emit_trs]
@[simp] theorem launchOf_regSet (s : State) (a : Nat) (v : Word) (key : Nat) : launchOf (regSet s a v) key = launchOf s key := by simp only [launchOf, regSet_trs]
@[simp] theorem launchOf_setFld (s : State) (a lo len v : Nat) (key : Nat) : launchOf (setFld s a lo len v) key = launchOf s key := by simp only [launchOf, setFld_trs]
@[simp] theorem launchOf_setBit (s : State) (a b : Nat) (key : Nat) : launchOf (setBit s a b) key = launchOf s key := by simp only [launchOf, setBit_trs]
@[simp] theorem launchOf_bumpBy (s : State) (a n : Nat) (key : Nat) : launchOf (bumpBy s a n) key = launchOf s key := by simp only [launchOf, bumpBy_trs]
@[simp] theorem launchOf_bump (s : State) (a : Nat) (key : Nat) : launchOf (bump s a) key = launchOf s key := by simp only [launchOf, bump_trs]
@[simp] theorem launchOf_setRing (s : State) (n : Nat) (r : Ring) (key : Nat) : launchOf (setRing s n r) key = launchOf s key := by simp only [launchOf, setRing_trs]
@[simp] theorem launchOf_setHandle (s : State) (h : Nat) (r : HandleRec) (key : Nat) : launchOf (setHandle s h r) key = launchOf s key := by simp only [launchOf, setHandle_trs]
@[simp] theorem launchOf_dropHandle (s : State) (h : Nat) (key : Nat) : launchOf (dropHandle s h) key = launchOf s key := by simp only [launchOf, dropHandle_trs]
@[simp] theorem launchOf_setProgress (s : State) (h n : Nat) (key : Nat) : launchOf (setProgress s h n) key = launchOf s key := by simp only [launchOf, setProgress_trs]
@[simp] theorem launchOf_engineDone (s : State) (h : Nat) (st : Status) (r0 r1 : Word) (key : Nat) : launchOf (engineDone s h st r0 r1) key = launchOf s key := by simp only [launchOf, engineDone_trs]
@[simp] theorem launchOf_setDir (s : State) (l : Nat) (e : DirEntry) (key : Nat) : launchOf (setDir s l e) key = launchOf s key := by simp only [launchOf, setDir_trs]
@[simp] theorem launchOf_dropDir (s : State) (l : Nat) (key : Nat) : launchOf (dropDir s l) key = launchOf s key := by simp only [launchOf, dropDir_trs]
@[simp] theorem launchOf_setTrans (s : State) (l : Nat) (t : Trans) (key : Nat) : launchOf (setTrans s l t) key = launchOf s key := by simp only [launchOf, setTrans_trs]
@[simp] theorem launchOf_dropTrans (s : State) (l : Nat) (key : Nat) : launchOf (dropTrans s l) key = launchOf s key := by simp only [launchOf, dropTrans_trs]
@[simp] theorem launchOf_setHot (s : State) (l : Nat) (h : Hot) (key : Nat) : launchOf (setHot s l h) key = launchOf s key := by simp only [launchOf, setHot_trs]
@[simp] theorem launchOf_setOut (s : State) (n : Nat) (f : Out → Out) (key : Nat) : launchOf (setOut s n f) key = launchOf s key := by simp only [launchOf, setOut_trs]
@[simp] theorem launchOf_modStat (s : State) (t : Nat) (f : RecallStat → RecallStat) (key : Nat) : launchOf (modStat s t f) key = launchOf s key := by simp only [launchOf, modStat_trs]
@[simp] theorem launchOf_dropStat (s : State) (t : Nat) (key : Nat) : launchOf (dropStat s t) key = launchOf s key := by simp only [launchOf, dropStat_trs]
@[simp] theorem launchOf_setOp (s : State) (i : Nat) (w : WOp) (key : Nat) : launchOf (setOp s i w) key = launchOf s key := by simp only [launchOf, setOp_trs]
@[simp] theorem launchOf_setStack (s : State) (i : Nat) (r : StackRec) (key : Nat) : launchOf (setStack s i r) key = launchOf s key := by simp only [launchOf, setStack_trs]
@[simp] theorem launchOf_setSettle (s : State) (x : SettleSt) (key : Nat) : launchOf (setSettle s x) key = launchOf s key := by simp only [launchOf, setSettle_trs]
@[simp] theorem launchOf_setLink (s : State) (p : Nat) (l : Link) (key : Nat) : launchOf (setLink s p l) key = launchOf s key := by simp only [launchOf, setLink_trs]
@[simp] theorem launchOf_setCxl (s : State) (p : Nat) (c : CxlPort) (key : Nat) : launchOf (setCxl s p c) key = launchOf s key := by simp only [launchOf, setCxl_trs]
@[simp] theorem launchOf_setBack (s : State) (i : Nat) (b : Back) (key : Nat) : launchOf (setBack s i b) key = launchOf s key := by simp only [launchOf, setBack_trs]
@[simp] theorem launchOf_setShelf (s : State) (i : Nat) (x : Shelf) (key : Nat) : launchOf (setShelf s i x) key = launchOf s key := by simp only [launchOf, setShelf_trs]
@[simp] theorem launchOf_setSlot (s : State) (i k : Nat) (l : Slot) (key : Nat) : launchOf (setSlot s i k l) key = launchOf s key := by simp only [launchOf, setSlot_trs]
@[simp] theorem launchOf_setDrawer (s : State) (i : Nat) (d : Drawer) (key : Nat) : launchOf (setDrawer s i d) key = launchOf s key := by simp only [launchOf, setDrawer_trs]
@[simp] theorem launchOf_setLaunch (s : State) (h : Nat) (l : TLaunch) : launchOf (setLaunch s h l) h = some l := by simp [launchOf, setLaunch]

@[simp] theorem kslotOf_emit (s : State) (e : Emit) (key : Nat) : kslotOf (emit s e) key = kslotOf s key := by simp only [kslotOf, emit_trs]
@[simp] theorem kslotOf_regSet (s : State) (a : Nat) (v : Word) (key : Nat) : kslotOf (regSet s a v) key = kslotOf s key := by simp only [kslotOf, regSet_trs]
@[simp] theorem kslotOf_setFld (s : State) (a lo len v : Nat) (key : Nat) : kslotOf (setFld s a lo len v) key = kslotOf s key := by simp only [kslotOf, setFld_trs]
@[simp] theorem kslotOf_setBit (s : State) (a b : Nat) (key : Nat) : kslotOf (setBit s a b) key = kslotOf s key := by simp only [kslotOf, setBit_trs]
@[simp] theorem kslotOf_bumpBy (s : State) (a n : Nat) (key : Nat) : kslotOf (bumpBy s a n) key = kslotOf s key := by simp only [kslotOf, bumpBy_trs]
@[simp] theorem kslotOf_bump (s : State) (a : Nat) (key : Nat) : kslotOf (bump s a) key = kslotOf s key := by simp only [kslotOf, bump_trs]
@[simp] theorem kslotOf_setRing (s : State) (n : Nat) (r : Ring) (key : Nat) : kslotOf (setRing s n r) key = kslotOf s key := by simp only [kslotOf, setRing_trs]
@[simp] theorem kslotOf_setHandle (s : State) (h : Nat) (r : HandleRec) (key : Nat) : kslotOf (setHandle s h r) key = kslotOf s key := by simp only [kslotOf, setHandle_trs]
@[simp] theorem kslotOf_dropHandle (s : State) (h : Nat) (key : Nat) : kslotOf (dropHandle s h) key = kslotOf s key := by simp only [kslotOf, dropHandle_trs]
@[simp] theorem kslotOf_setProgress (s : State) (h n : Nat) (key : Nat) : kslotOf (setProgress s h n) key = kslotOf s key := by simp only [kslotOf, setProgress_trs]
@[simp] theorem kslotOf_engineDone (s : State) (h : Nat) (st : Status) (r0 r1 : Word) (key : Nat) : kslotOf (engineDone s h st r0 r1) key = kslotOf s key := by simp only [kslotOf, engineDone_trs]
@[simp] theorem kslotOf_setDir (s : State) (l : Nat) (e : DirEntry) (key : Nat) : kslotOf (setDir s l e) key = kslotOf s key := by simp only [kslotOf, setDir_trs]
@[simp] theorem kslotOf_dropDir (s : State) (l : Nat) (key : Nat) : kslotOf (dropDir s l) key = kslotOf s key := by simp only [kslotOf, dropDir_trs]
@[simp] theorem kslotOf_setTrans (s : State) (l : Nat) (t : Trans) (key : Nat) : kslotOf (setTrans s l t) key = kslotOf s key := by simp only [kslotOf, setTrans_trs]
@[simp] theorem kslotOf_dropTrans (s : State) (l : Nat) (key : Nat) : kslotOf (dropTrans s l) key = kslotOf s key := by simp only [kslotOf, dropTrans_trs]
@[simp] theorem kslotOf_setHot (s : State) (l : Nat) (h : Hot) (key : Nat) : kslotOf (setHot s l h) key = kslotOf s key := by simp only [kslotOf, setHot_trs]
@[simp] theorem kslotOf_setOut (s : State) (n : Nat) (f : Out → Out) (key : Nat) : kslotOf (setOut s n f) key = kslotOf s key := by simp only [kslotOf, setOut_trs]
@[simp] theorem kslotOf_modStat (s : State) (t : Nat) (f : RecallStat → RecallStat) (key : Nat) : kslotOf (modStat s t f) key = kslotOf s key := by simp only [kslotOf, modStat_trs]
@[simp] theorem kslotOf_dropStat (s : State) (t : Nat) (key : Nat) : kslotOf (dropStat s t) key = kslotOf s key := by simp only [kslotOf, dropStat_trs]
@[simp] theorem kslotOf_setOp (s : State) (i : Nat) (w : WOp) (key : Nat) : kslotOf (setOp s i w) key = kslotOf s key := by simp only [kslotOf, setOp_trs]
@[simp] theorem kslotOf_setStack (s : State) (i : Nat) (r : StackRec) (key : Nat) : kslotOf (setStack s i r) key = kslotOf s key := by simp only [kslotOf, setStack_trs]
@[simp] theorem kslotOf_setSettle (s : State) (x : SettleSt) (key : Nat) : kslotOf (setSettle s x) key = kslotOf s key := by simp only [kslotOf, setSettle_trs]
@[simp] theorem kslotOf_setLink (s : State) (p : Nat) (l : Link) (key : Nat) : kslotOf (setLink s p l) key = kslotOf s key := by simp only [kslotOf, setLink_trs]
@[simp] theorem kslotOf_setCxl (s : State) (p : Nat) (c : CxlPort) (key : Nat) : kslotOf (setCxl s p c) key = kslotOf s key := by simp only [kslotOf, setCxl_trs]
@[simp] theorem kslotOf_setBack (s : State) (i : Nat) (b : Back) (key : Nat) : kslotOf (setBack s i b) key = kslotOf s key := by simp only [kslotOf, setBack_trs]
@[simp] theorem kslotOf_setShelf (s : State) (i : Nat) (x : Shelf) (key : Nat) : kslotOf (setShelf s i x) key = kslotOf s key := by simp only [kslotOf, setShelf_trs]
@[simp] theorem kslotOf_setSlot (s : State) (i k : Nat) (l : Slot) (key : Nat) : kslotOf (setSlot s i k l) key = kslotOf s key := by simp only [kslotOf, setSlot_trs]
@[simp] theorem kslotOf_setDrawer (s : State) (i : Nat) (d : Drawer) (key : Nat) : kslotOf (setDrawer s i d) key = kslotOf s key := by simp only [kslotOf, setDrawer_trs]

@[simp] theorem linkOf_emit (s : State) (e : Emit) (key : Nat) : linkOf (emit s e) key = linkOf s key := by simp only [linkOf, emit_link]
@[simp] theorem linkOf_regSet (s : State) (a : Nat) (v : Word) (key : Nat) : linkOf (regSet s a v) key = linkOf s key := by simp only [linkOf, regSet_link]
@[simp] theorem linkOf_setFld (s : State) (a lo len v : Nat) (key : Nat) : linkOf (setFld s a lo len v) key = linkOf s key := by simp only [linkOf, setFld_link]
@[simp] theorem linkOf_setBit (s : State) (a b : Nat) (key : Nat) : linkOf (setBit s a b) key = linkOf s key := by simp only [linkOf, setBit_link]
@[simp] theorem linkOf_bumpBy (s : State) (a n : Nat) (key : Nat) : linkOf (bumpBy s a n) key = linkOf s key := by simp only [linkOf, bumpBy_link]
@[simp] theorem linkOf_bump (s : State) (a : Nat) (key : Nat) : linkOf (bump s a) key = linkOf s key := by simp only [linkOf, bump_link]
@[simp] theorem linkOf_setRing (s : State) (n : Nat) (r : Ring) (key : Nat) : linkOf (setRing s n r) key = linkOf s key := by simp only [linkOf, setRing_link]
@[simp] theorem linkOf_setHandle (s : State) (h : Nat) (r : HandleRec) (key : Nat) : linkOf (setHandle s h r) key = linkOf s key := by simp only [linkOf, setHandle_link]
@[simp] theorem linkOf_dropHandle (s : State) (h : Nat) (key : Nat) : linkOf (dropHandle s h) key = linkOf s key := by simp only [linkOf, dropHandle_link]
@[simp] theorem linkOf_setProgress (s : State) (h n : Nat) (key : Nat) : linkOf (setProgress s h n) key = linkOf s key := by simp only [linkOf, setProgress_link]
@[simp] theorem linkOf_engineDone (s : State) (h : Nat) (st : Status) (r0 r1 : Word) (key : Nat) : linkOf (engineDone s h st r0 r1) key = linkOf s key := by simp only [linkOf, engineDone_link]
@[simp] theorem linkOf_setDir (s : State) (l : Nat) (e : DirEntry) (key : Nat) : linkOf (setDir s l e) key = linkOf s key := by simp only [linkOf, setDir_link]
@[simp] theorem linkOf_dropDir (s : State) (l : Nat) (key : Nat) : linkOf (dropDir s l) key = linkOf s key := by simp only [linkOf, dropDir_link]
@[simp] theorem linkOf_setTrans (s : State) (l : Nat) (t : Trans) (key : Nat) : linkOf (setTrans s l t) key = linkOf s key := by simp only [linkOf, setTrans_link]
@[simp] theorem linkOf_dropTrans (s : State) (l : Nat) (key : Nat) : linkOf (dropTrans s l) key = linkOf s key := by simp only [linkOf, dropTrans_link]
@[simp] theorem linkOf_setHot (s : State) (l : Nat) (h : Hot) (key : Nat) : linkOf (setHot s l h) key = linkOf s key := by simp only [linkOf, setHot_link]
@[simp] theorem linkOf_setOut (s : State) (n : Nat) (f : Out → Out) (key : Nat) : linkOf (setOut s n f) key = linkOf s key := by simp only [linkOf, setOut_link]
@[simp] theorem linkOf_modStat (s : State) (t : Nat) (f : RecallStat → RecallStat) (key : Nat) : linkOf (modStat s t f) key = linkOf s key := by simp only [linkOf, modStat_link]
@[simp] theorem linkOf_dropStat (s : State) (t : Nat) (key : Nat) : linkOf (dropStat s t) key = linkOf s key := by simp only [linkOf, dropStat_link]
@[simp] theorem linkOf_setOp (s : State) (i : Nat) (w : WOp) (key : Nat) : linkOf (setOp s i w) key = linkOf s key := by simp only [linkOf, setOp_link]
@[simp] theorem linkOf_setStack (s : State) (i : Nat) (r : StackRec) (key : Nat) : linkOf (setStack s i r) key = linkOf s key := by simp only [linkOf, setStack_link]
@[simp] theorem linkOf_setSettle (s : State) (x : SettleSt) (key : Nat) : linkOf (setSettle s x) key = linkOf s key := by simp only [linkOf, setSettle_link]
@[simp] theorem linkOf_setUnit (s : State) (u : Nat) (x : TUnitSt) (key : Nat) : linkOf (setUnit s u x) key = linkOf s key := by simp only [linkOf, setUnit_link]
@[simp] theorem linkOf_setBack (s : State) (i : Nat) (b : Back) (key : Nat) : linkOf (setBack s i b) key = linkOf s key := by simp only [linkOf, setBack_link]
@[simp] theorem linkOf_setShelf (s : State) (i : Nat) (x : Shelf) (key : Nat) : linkOf (setShelf s i x) key = linkOf s key := by simp only [linkOf, setShelf_link]
@[simp] theorem linkOf_setSlot (s : State) (i k : Nat) (l : Slot) (key : Nat) : linkOf (setSlot s i k l) key = linkOf s key := by simp only [linkOf, setSlot_link]
@[simp] theorem linkOf_setDrawer (s : State) (i : Nat) (d : Drawer) (key : Nat) : linkOf (setDrawer s i d) key = linkOf s key := by simp only [linkOf, setDrawer_link]
@[simp] theorem linkOf_setLink (s : State) (p : Nat) (l : Link) : linkOf (setLink s p l) p = l := by simp [linkOf, setLink]

@[simp] theorem cxlOf_emit (s : State) (e : Emit) (key : Nat) : cxlOf (emit s e) key = cxlOf s key := by simp only [cxlOf, emit_link]
@[simp] theorem cxlOf_regSet (s : State) (a : Nat) (v : Word) (key : Nat) : cxlOf (regSet s a v) key = cxlOf s key := by simp only [cxlOf, regSet_link]
@[simp] theorem cxlOf_setFld (s : State) (a lo len v : Nat) (key : Nat) : cxlOf (setFld s a lo len v) key = cxlOf s key := by simp only [cxlOf, setFld_link]
@[simp] theorem cxlOf_setBit (s : State) (a b : Nat) (key : Nat) : cxlOf (setBit s a b) key = cxlOf s key := by simp only [cxlOf, setBit_link]
@[simp] theorem cxlOf_bumpBy (s : State) (a n : Nat) (key : Nat) : cxlOf (bumpBy s a n) key = cxlOf s key := by simp only [cxlOf, bumpBy_link]
@[simp] theorem cxlOf_bump (s : State) (a : Nat) (key : Nat) : cxlOf (bump s a) key = cxlOf s key := by simp only [cxlOf, bump_link]
@[simp] theorem cxlOf_setRing (s : State) (n : Nat) (r : Ring) (key : Nat) : cxlOf (setRing s n r) key = cxlOf s key := by simp only [cxlOf, setRing_link]
@[simp] theorem cxlOf_setHandle (s : State) (h : Nat) (r : HandleRec) (key : Nat) : cxlOf (setHandle s h r) key = cxlOf s key := by simp only [cxlOf, setHandle_link]
@[simp] theorem cxlOf_dropHandle (s : State) (h : Nat) (key : Nat) : cxlOf (dropHandle s h) key = cxlOf s key := by simp only [cxlOf, dropHandle_link]
@[simp] theorem cxlOf_setProgress (s : State) (h n : Nat) (key : Nat) : cxlOf (setProgress s h n) key = cxlOf s key := by simp only [cxlOf, setProgress_link]
@[simp] theorem cxlOf_engineDone (s : State) (h : Nat) (st : Status) (r0 r1 : Word) (key : Nat) : cxlOf (engineDone s h st r0 r1) key = cxlOf s key := by simp only [cxlOf, engineDone_link]
@[simp] theorem cxlOf_setDir (s : State) (l : Nat) (e : DirEntry) (key : Nat) : cxlOf (setDir s l e) key = cxlOf s key := by simp only [cxlOf, setDir_link]
@[simp] theorem cxlOf_dropDir (s : State) (l : Nat) (key : Nat) : cxlOf (dropDir s l) key = cxlOf s key := by simp only [cxlOf, dropDir_link]
@[simp] theorem cxlOf_setTrans (s : State) (l : Nat) (t : Trans) (key : Nat) : cxlOf (setTrans s l t) key = cxlOf s key := by simp only [cxlOf, setTrans_link]
@[simp] theorem cxlOf_dropTrans (s : State) (l : Nat) (key : Nat) : cxlOf (dropTrans s l) key = cxlOf s key := by simp only [cxlOf, dropTrans_link]
@[simp] theorem cxlOf_setHot (s : State) (l : Nat) (h : Hot) (key : Nat) : cxlOf (setHot s l h) key = cxlOf s key := by simp only [cxlOf, setHot_link]
@[simp] theorem cxlOf_setOut (s : State) (n : Nat) (f : Out → Out) (key : Nat) : cxlOf (setOut s n f) key = cxlOf s key := by simp only [cxlOf, setOut_link]
@[simp] theorem cxlOf_modStat (s : State) (t : Nat) (f : RecallStat → RecallStat) (key : Nat) : cxlOf (modStat s t f) key = cxlOf s key := by simp only [cxlOf, modStat_link]
@[simp] theorem cxlOf_dropStat (s : State) (t : Nat) (key : Nat) : cxlOf (dropStat s t) key = cxlOf s key := by simp only [cxlOf, dropStat_link]
@[simp] theorem cxlOf_setOp (s : State) (i : Nat) (w : WOp) (key : Nat) : cxlOf (setOp s i w) key = cxlOf s key := by simp only [cxlOf, setOp_link]
@[simp] theorem cxlOf_setStack (s : State) (i : Nat) (r : StackRec) (key : Nat) : cxlOf (setStack s i r) key = cxlOf s key := by simp only [cxlOf, setStack_link]
@[simp] theorem cxlOf_setSettle (s : State) (x : SettleSt) (key : Nat) : cxlOf (setSettle s x) key = cxlOf s key := by simp only [cxlOf, setSettle_link]
@[simp] theorem cxlOf_setUnit (s : State) (u : Nat) (x : TUnitSt) (key : Nat) : cxlOf (setUnit s u x) key = cxlOf s key := by simp only [cxlOf, setUnit_link]
@[simp] theorem cxlOf_setBack (s : State) (i : Nat) (b : Back) (key : Nat) : cxlOf (setBack s i b) key = cxlOf s key := by simp only [cxlOf, setBack_link]
@[simp] theorem cxlOf_setShelf (s : State) (i : Nat) (x : Shelf) (key : Nat) : cxlOf (setShelf s i x) key = cxlOf s key := by simp only [cxlOf, setShelf_link]
@[simp] theorem cxlOf_setSlot (s : State) (i k : Nat) (l : Slot) (key : Nat) : cxlOf (setSlot s i k l) key = cxlOf s key := by simp only [cxlOf, setSlot_link]
@[simp] theorem cxlOf_setDrawer (s : State) (i : Nat) (d : Drawer) (key : Nat) : cxlOf (setDrawer s i d) key = cxlOf s key := by simp only [cxlOf, setDrawer_link]
@[simp] theorem cxlOf_setCxl (s : State) (p : Nat) (c : CxlPort) : cxlOf (setCxl s p c) p = c := by simp [cxlOf, setCxl]

@[simp] theorem cslotOf_emit (s : State) (e : Emit) (key : Nat) : cslotOf (emit s e) key = cslotOf s key := by simp only [cslotOf, emit_cmp]
@[simp] theorem cslotOf_regSet (s : State) (a : Nat) (v : Word) (key : Nat) : cslotOf (regSet s a v) key = cslotOf s key := by simp only [cslotOf, regSet_cmp]
@[simp] theorem cslotOf_setFld (s : State) (a lo len v : Nat) (key : Nat) : cslotOf (setFld s a lo len v) key = cslotOf s key := by simp only [cslotOf, setFld_cmp]
@[simp] theorem cslotOf_setBit (s : State) (a b : Nat) (key : Nat) : cslotOf (setBit s a b) key = cslotOf s key := by simp only [cslotOf, setBit_cmp]
@[simp] theorem cslotOf_bumpBy (s : State) (a n : Nat) (key : Nat) : cslotOf (bumpBy s a n) key = cslotOf s key := by simp only [cslotOf, bumpBy_cmp]
@[simp] theorem cslotOf_bump (s : State) (a : Nat) (key : Nat) : cslotOf (bump s a) key = cslotOf s key := by simp only [cslotOf, bump_cmp]
@[simp] theorem cslotOf_setRing (s : State) (n : Nat) (r : Ring) (key : Nat) : cslotOf (setRing s n r) key = cslotOf s key := by simp only [cslotOf, setRing_cmp]
@[simp] theorem cslotOf_setHandle (s : State) (h : Nat) (r : HandleRec) (key : Nat) : cslotOf (setHandle s h r) key = cslotOf s key := by simp only [cslotOf, setHandle_cmp]
@[simp] theorem cslotOf_dropHandle (s : State) (h : Nat) (key : Nat) : cslotOf (dropHandle s h) key = cslotOf s key := by simp only [cslotOf, dropHandle_cmp]
@[simp] theorem cslotOf_setProgress (s : State) (h n : Nat) (key : Nat) : cslotOf (setProgress s h n) key = cslotOf s key := by simp only [cslotOf, setProgress_cmp]
@[simp] theorem cslotOf_engineDone (s : State) (h : Nat) (st : Status) (r0 r1 : Word) (key : Nat) : cslotOf (engineDone s h st r0 r1) key = cslotOf s key := by simp only [cslotOf, engineDone_cmp]
@[simp] theorem cslotOf_setDir (s : State) (l : Nat) (e : DirEntry) (key : Nat) : cslotOf (setDir s l e) key = cslotOf s key := by simp only [cslotOf, setDir_cmp]
@[simp] theorem cslotOf_dropDir (s : State) (l : Nat) (key : Nat) : cslotOf (dropDir s l) key = cslotOf s key := by simp only [cslotOf, dropDir_cmp]
@[simp] theorem cslotOf_setTrans (s : State) (l : Nat) (t : Trans) (key : Nat) : cslotOf (setTrans s l t) key = cslotOf s key := by simp only [cslotOf, setTrans_cmp]
@[simp] theorem cslotOf_dropTrans (s : State) (l : Nat) (key : Nat) : cslotOf (dropTrans s l) key = cslotOf s key := by simp only [cslotOf, dropTrans_cmp]
@[simp] theorem cslotOf_setHot (s : State) (l : Nat) (h : Hot) (key : Nat) : cslotOf (setHot s l h) key = cslotOf s key := by simp only [cslotOf, setHot_cmp]
@[simp] theorem cslotOf_setOut (s : State) (n : Nat) (f : Out → Out) (key : Nat) : cslotOf (setOut s n f) key = cslotOf s key := by simp only [cslotOf, setOut_cmp]
@[simp] theorem cslotOf_modStat (s : State) (t : Nat) (f : RecallStat → RecallStat) (key : Nat) : cslotOf (modStat s t f) key = cslotOf s key := by simp only [cslotOf, modStat_cmp]
@[simp] theorem cslotOf_dropStat (s : State) (t : Nat) (key : Nat) : cslotOf (dropStat s t) key = cslotOf s key := by simp only [cslotOf, dropStat_cmp]
@[simp] theorem cslotOf_setOp (s : State) (i : Nat) (w : WOp) (key : Nat) : cslotOf (setOp s i w) key = cslotOf s key := by simp only [cslotOf, setOp_cmp]
@[simp] theorem cslotOf_setStack (s : State) (i : Nat) (r : StackRec) (key : Nat) : cslotOf (setStack s i r) key = cslotOf s key := by simp only [cslotOf, setStack_cmp]
@[simp] theorem cslotOf_setSettle (s : State) (x : SettleSt) (key : Nat) : cslotOf (setSettle s x) key = cslotOf s key := by simp only [cslotOf, setSettle_cmp]
@[simp] theorem cslotOf_setLink (s : State) (p : Nat) (l : Link) (key : Nat) : cslotOf (setLink s p l) key = cslotOf s key := by simp only [cslotOf, setLink_cmp]
@[simp] theorem cslotOf_setCxl (s : State) (p : Nat) (c : CxlPort) (key : Nat) : cslotOf (setCxl s p c) key = cslotOf s key := by simp only [cslotOf, setCxl_cmp]
@[simp] theorem cslotOf_setUnit (s : State) (u : Nat) (x : TUnitSt) (key : Nat) : cslotOf (setUnit s u x) key = cslotOf s key := by simp only [cslotOf, setUnit_cmp]
@[simp] theorem cslotOf_setBack (s : State) (i : Nat) (b : Back) (key : Nat) : cslotOf (setBack s i b) key = cslotOf s key := by simp only [cslotOf, setBack_cmp]
@[simp] theorem cslotOf_setShelf (s : State) (i : Nat) (x : Shelf) (key : Nat) : cslotOf (setShelf s i x) key = cslotOf s key := by simp only [cslotOf, setShelf_cmp]
@[simp] theorem cslotOf_setSlot (s : State) (i k : Nat) (l : Slot) (key : Nat) : cslotOf (setSlot s i k l) key = cslotOf s key := by simp only [cslotOf, setSlot_cmp]
@[simp] theorem cslotOf_setDrawer (s : State) (i : Nat) (d : Drawer) (key : Nat) : cslotOf (setDrawer s i d) key = cslotOf s key := by simp only [cslotOf, setDrawer_cmp]
@[simp] theorem cslotOf_setCslot (s : State) (i : Nat) (c : CSlot) : cslotOf (setCslot s i c) i = c := by simp [cslotOf, setCslot]

@[simp] theorem opOf_emit (s : State) (e : Emit) (key : Nat) : opOf (emit s e) key = opOf s key := by simp only [opOf, emit_tier]
@[simp] theorem opOf_regSet (s : State) (a : Nat) (v : Word) (key : Nat) : opOf (regSet s a v) key = opOf s key := by simp only [opOf, regSet_tier]
@[simp] theorem opOf_setFld (s : State) (a lo len v : Nat) (key : Nat) : opOf (setFld s a lo len v) key = opOf s key := by simp only [opOf, setFld_tier]
@[simp] theorem opOf_setBit (s : State) (a b : Nat) (key : Nat) : opOf (setBit s a b) key = opOf s key := by simp only [opOf, setBit_tier]
@[simp] theorem opOf_bumpBy (s : State) (a n : Nat) (key : Nat) : opOf (bumpBy s a n) key = opOf s key := by simp only [opOf, bumpBy_tier]
@[simp] theorem opOf_bump (s : State) (a : Nat) (key : Nat) : opOf (bump s a) key = opOf s key := by simp only [opOf, bump_tier]
@[simp] theorem opOf_setRing (s : State) (n : Nat) (r : Ring) (key : Nat) : opOf (setRing s n r) key = opOf s key := by simp only [opOf, setRing_tier]
@[simp] theorem opOf_setHandle (s : State) (h : Nat) (r : HandleRec) (key : Nat) : opOf (setHandle s h r) key = opOf s key := by simp only [opOf, setHandle_tier]
@[simp] theorem opOf_dropHandle (s : State) (h : Nat) (key : Nat) : opOf (dropHandle s h) key = opOf s key := by simp only [opOf, dropHandle_tier]
@[simp] theorem opOf_setProgress (s : State) (h n : Nat) (key : Nat) : opOf (setProgress s h n) key = opOf s key := by simp only [opOf, setProgress_tier]
@[simp] theorem opOf_engineDone (s : State) (h : Nat) (st : Status) (r0 r1 : Word) (key : Nat) : opOf (engineDone s h st r0 r1) key = opOf s key := by simp only [opOf, engineDone_tier]
@[simp] theorem opOf_setDir (s : State) (l : Nat) (e : DirEntry) (key : Nat) : opOf (setDir s l e) key = opOf s key := by simp only [opOf, setDir_tier]
@[simp] theorem opOf_dropDir (s : State) (l : Nat) (key : Nat) : opOf (dropDir s l) key = opOf s key := by simp only [opOf, dropDir_tier]
@[simp] theorem opOf_setTrans (s : State) (l : Nat) (t : Trans) (key : Nat) : opOf (setTrans s l t) key = opOf s key := by simp only [opOf, setTrans_tier]
@[simp] theorem opOf_dropTrans (s : State) (l : Nat) (key : Nat) : opOf (dropTrans s l) key = opOf s key := by simp only [opOf, dropTrans_tier]
@[simp] theorem opOf_setHot (s : State) (l : Nat) (h : Hot) (key : Nat) : opOf (setHot s l h) key = opOf s key := by simp only [opOf, setHot_tier]
@[simp] theorem opOf_setOut (s : State) (n : Nat) (f : Out → Out) (key : Nat) : opOf (setOut s n f) key = opOf s key := by simp only [opOf, setOut_tier]
@[simp] theorem opOf_modStat (s : State) (t : Nat) (f : RecallStat → RecallStat) (key : Nat) : opOf (modStat s t f) key = opOf s key := by simp only [opOf, modStat_tier]
@[simp] theorem opOf_dropStat (s : State) (t : Nat) (key : Nat) : opOf (dropStat s t) key = opOf s key := by simp only [opOf, dropStat_tier]
@[simp] theorem opOf_setStack (s : State) (i : Nat) (r : StackRec) (key : Nat) : opOf (setStack s i r) key = opOf s key := by simp only [opOf, setStack_tier]
@[simp] theorem opOf_setSettle (s : State) (x : SettleSt) (key : Nat) : opOf (setSettle s x) key = opOf s key := by simp only [opOf, setSettle_tier]
@[simp] theorem opOf_setLink (s : State) (p : Nat) (l : Link) (key : Nat) : opOf (setLink s p l) key = opOf s key := by simp only [opOf, setLink_tier]
@[simp] theorem opOf_setCxl (s : State) (p : Nat) (c : CxlPort) (key : Nat) : opOf (setCxl s p c) key = opOf s key := by simp only [opOf, setCxl_tier]
@[simp] theorem opOf_setUnit (s : State) (u : Nat) (x : TUnitSt) (key : Nat) : opOf (setUnit s u x) key = opOf s key := by simp only [opOf, setUnit_tier]
@[simp] theorem opOf_setBack (s : State) (i : Nat) (b : Back) (key : Nat) : opOf (setBack s i b) key = opOf s key := by simp only [opOf, setBack_tier]
@[simp] theorem opOf_setShelf (s : State) (i : Nat) (x : Shelf) (key : Nat) : opOf (setShelf s i x) key = opOf s key := by simp only [opOf, setShelf_tier]
@[simp] theorem opOf_setSlot (s : State) (i k : Nat) (l : Slot) (key : Nat) : opOf (setSlot s i k l) key = opOf s key := by simp only [opOf, setSlot_tier]
@[simp] theorem opOf_setDrawer (s : State) (i : Nat) (d : Drawer) (key : Nat) : opOf (setDrawer s i d) key = opOf s key := by simp only [opOf, setDrawer_tier]
@[simp] theorem opOf_setOp (s : State) (i : Nat) (w : WOp) : opOf (setOp s i w) i = some w := by simp [opOf, setOp]

@[simp] theorem drawerOf_emit (s : State) (e : Emit) (key : Nat) : drawerOf (emit s e) key = drawerOf s key := by simp only [drawerOf, emit_obj]
@[simp] theorem drawerOf_regSet (s : State) (a : Nat) (v : Word) (key : Nat) : drawerOf (regSet s a v) key = drawerOf s key := by simp only [drawerOf, regSet_obj]
@[simp] theorem drawerOf_setFld (s : State) (a lo len v : Nat) (key : Nat) : drawerOf (setFld s a lo len v) key = drawerOf s key := by simp only [drawerOf, setFld_obj]
@[simp] theorem drawerOf_setBit (s : State) (a b : Nat) (key : Nat) : drawerOf (setBit s a b) key = drawerOf s key := by simp only [drawerOf, setBit_obj]
@[simp] theorem drawerOf_bumpBy (s : State) (a n : Nat) (key : Nat) : drawerOf (bumpBy s a n) key = drawerOf s key := by simp only [drawerOf, bumpBy_obj]
@[simp] theorem drawerOf_bump (s : State) (a : Nat) (key : Nat) : drawerOf (bump s a) key = drawerOf s key := by simp only [drawerOf, bump_obj]
@[simp] theorem drawerOf_setRing (s : State) (n : Nat) (r : Ring) (key : Nat) : drawerOf (setRing s n r) key = drawerOf s key := by simp only [drawerOf, setRing_obj]
@[simp] theorem drawerOf_setHandle (s : State) (h : Nat) (r : HandleRec) (key : Nat) : drawerOf (setHandle s h r) key = drawerOf s key := by simp only [drawerOf, setHandle_obj]
@[simp] theorem drawerOf_dropHandle (s : State) (h : Nat) (key : Nat) : drawerOf (dropHandle s h) key = drawerOf s key := by simp only [drawerOf, dropHandle_obj]
@[simp] theorem drawerOf_setProgress (s : State) (h n : Nat) (key : Nat) : drawerOf (setProgress s h n) key = drawerOf s key := by simp only [drawerOf, setProgress_obj]
@[simp] theorem drawerOf_engineDone (s : State) (h : Nat) (st : Status) (r0 r1 : Word) (key : Nat) : drawerOf (engineDone s h st r0 r1) key = drawerOf s key := by simp only [drawerOf, engineDone_obj]
@[simp] theorem drawerOf_setDir (s : State) (l : Nat) (e : DirEntry) (key : Nat) : drawerOf (setDir s l e) key = drawerOf s key := by simp only [drawerOf, setDir_obj]
@[simp] theorem drawerOf_dropDir (s : State) (l : Nat) (key : Nat) : drawerOf (dropDir s l) key = drawerOf s key := by simp only [drawerOf, dropDir_obj]
@[simp] theorem drawerOf_setTrans (s : State) (l : Nat) (t : Trans) (key : Nat) : drawerOf (setTrans s l t) key = drawerOf s key := by simp only [drawerOf, setTrans_obj]
@[simp] theorem drawerOf_dropTrans (s : State) (l : Nat) (key : Nat) : drawerOf (dropTrans s l) key = drawerOf s key := by simp only [drawerOf, dropTrans_obj]
@[simp] theorem drawerOf_setHot (s : State) (l : Nat) (h : Hot) (key : Nat) : drawerOf (setHot s l h) key = drawerOf s key := by simp only [drawerOf, setHot_obj]
@[simp] theorem drawerOf_setOut (s : State) (n : Nat) (f : Out → Out) (key : Nat) : drawerOf (setOut s n f) key = drawerOf s key := by simp only [drawerOf, setOut_obj]
@[simp] theorem drawerOf_modStat (s : State) (t : Nat) (f : RecallStat → RecallStat) (key : Nat) : drawerOf (modStat s t f) key = drawerOf s key := by simp only [drawerOf, modStat_obj]
@[simp] theorem drawerOf_dropStat (s : State) (t : Nat) (key : Nat) : drawerOf (dropStat s t) key = drawerOf s key := by simp only [drawerOf, dropStat_obj]
@[simp] theorem drawerOf_setOp (s : State) (i : Nat) (w : WOp) (key : Nat) : drawerOf (setOp s i w) key = drawerOf s key := by simp only [drawerOf, setOp_obj]
@[simp] theorem drawerOf_setStack (s : State) (i : Nat) (r : StackRec) (key : Nat) : drawerOf (setStack s i r) key = drawerOf s key := by simp only [drawerOf, setStack_obj]
@[simp] theorem drawerOf_setSettle (s : State) (x : SettleSt) (key : Nat) : drawerOf (setSettle s x) key = drawerOf s key := by simp only [drawerOf, setSettle_obj]
@[simp] theorem drawerOf_setLink (s : State) (p : Nat) (l : Link) (key : Nat) : drawerOf (setLink s p l) key = drawerOf s key := by simp only [drawerOf, setLink_obj]
@[simp] theorem drawerOf_setCxl (s : State) (p : Nat) (c : CxlPort) (key : Nat) : drawerOf (setCxl s p c) key = drawerOf s key := by simp only [drawerOf, setCxl_obj]
@[simp] theorem drawerOf_setUnit (s : State) (u : Nat) (x : TUnitSt) (key : Nat) : drawerOf (setUnit s u x) key = drawerOf s key := by simp only [drawerOf, setUnit_obj]
@[simp] theorem drawerOf_setBack (s : State) (i : Nat) (b : Back) (key : Nat) : drawerOf (setBack s i b) key = drawerOf s key := by simp only [drawerOf, setBack_obj]
@[simp] theorem drawerOf_setDrawer (s : State) (i : Nat) (d : Drawer) : drawerOf (setDrawer s i d) i = d := by simp [drawerOf, setDrawer]

@[simp] theorem backIdOf_emit (s : State) (e : Emit) (key : Nat) : backIdOf (emit s e) key = backIdOf s key := by simp only [backIdOf, emit_pool]
@[simp] theorem backIdOf_regSet (s : State) (a : Nat) (v : Word) (key : Nat) : backIdOf (regSet s a v) key = backIdOf s key := by simp only [backIdOf, regSet_pool]
@[simp] theorem backIdOf_setFld (s : State) (a lo len v : Nat) (key : Nat) : backIdOf (setFld s a lo len v) key = backIdOf s key := by simp only [backIdOf, setFld_pool]
@[simp] theorem backIdOf_setBit (s : State) (a b : Nat) (key : Nat) : backIdOf (setBit s a b) key = backIdOf s key := by simp only [backIdOf, setBit_pool]
@[simp] theorem backIdOf_bumpBy (s : State) (a n : Nat) (key : Nat) : backIdOf (bumpBy s a n) key = backIdOf s key := by simp only [backIdOf, bumpBy_pool]
@[simp] theorem backIdOf_bump (s : State) (a : Nat) (key : Nat) : backIdOf (bump s a) key = backIdOf s key := by simp only [backIdOf, bump_pool]
@[simp] theorem backIdOf_setRing (s : State) (n : Nat) (r : Ring) (key : Nat) : backIdOf (setRing s n r) key = backIdOf s key := by simp only [backIdOf, setRing_pool]
@[simp] theorem backIdOf_setHandle (s : State) (h : Nat) (r : HandleRec) (key : Nat) : backIdOf (setHandle s h r) key = backIdOf s key := by simp only [backIdOf, setHandle_pool]
@[simp] theorem backIdOf_dropHandle (s : State) (h : Nat) (key : Nat) : backIdOf (dropHandle s h) key = backIdOf s key := by simp only [backIdOf, dropHandle_pool]
@[simp] theorem backIdOf_setProgress (s : State) (h n : Nat) (key : Nat) : backIdOf (setProgress s h n) key = backIdOf s key := by simp only [backIdOf, setProgress_pool]
@[simp] theorem backIdOf_engineDone (s : State) (h : Nat) (st : Status) (r0 r1 : Word) (key : Nat) : backIdOf (engineDone s h st r0 r1) key = backIdOf s key := by simp only [backIdOf, engineDone_pool]
@[simp] theorem backIdOf_setDir (s : State) (l : Nat) (e : DirEntry) (key : Nat) : backIdOf (setDir s l e) key = backIdOf s key := by simp only [backIdOf, setDir_pool]
@[simp] theorem backIdOf_dropDir (s : State) (l : Nat) (key : Nat) : backIdOf (dropDir s l) key = backIdOf s key := by simp only [backIdOf, dropDir_pool]
@[simp] theorem backIdOf_setTrans (s : State) (l : Nat) (t : Trans) (key : Nat) : backIdOf (setTrans s l t) key = backIdOf s key := by simp only [backIdOf, setTrans_pool]
@[simp] theorem backIdOf_dropTrans (s : State) (l : Nat) (key : Nat) : backIdOf (dropTrans s l) key = backIdOf s key := by simp only [backIdOf, dropTrans_pool]
@[simp] theorem backIdOf_setHot (s : State) (l : Nat) (h : Hot) (key : Nat) : backIdOf (setHot s l h) key = backIdOf s key := by simp only [backIdOf, setHot_pool]
@[simp] theorem backIdOf_setOut (s : State) (n : Nat) (f : Out → Out) (key : Nat) : backIdOf (setOut s n f) key = backIdOf s key := by simp only [backIdOf, setOut_pool]
@[simp] theorem backIdOf_modStat (s : State) (t : Nat) (f : RecallStat → RecallStat) (key : Nat) : backIdOf (modStat s t f) key = backIdOf s key := by simp only [backIdOf, modStat_pool]
@[simp] theorem backIdOf_dropStat (s : State) (t : Nat) (key : Nat) : backIdOf (dropStat s t) key = backIdOf s key := by simp only [backIdOf, dropStat_pool]
@[simp] theorem backIdOf_setOp (s : State) (i : Nat) (w : WOp) (key : Nat) : backIdOf (setOp s i w) key = backIdOf s key := by simp only [backIdOf, setOp_pool]
@[simp] theorem backIdOf_setStack (s : State) (i : Nat) (r : StackRec) (key : Nat) : backIdOf (setStack s i r) key = backIdOf s key := by simp only [backIdOf, setStack_pool]
@[simp] theorem backIdOf_setSettle (s : State) (x : SettleSt) (key : Nat) : backIdOf (setSettle s x) key = backIdOf s key := by simp only [backIdOf, setSettle_pool]
@[simp] theorem backIdOf_setLink (s : State) (p : Nat) (l : Link) (key : Nat) : backIdOf (setLink s p l) key = backIdOf s key := by simp only [backIdOf, setLink_pool]
@[simp] theorem backIdOf_setCxl (s : State) (p : Nat) (c : CxlPort) (key : Nat) : backIdOf (setCxl s p c) key = backIdOf s key := by simp only [backIdOf, setCxl_pool]
@[simp] theorem backIdOf_setUnit (s : State) (u : Nat) (x : TUnitSt) (key : Nat) : backIdOf (setUnit s u x) key = backIdOf s key := by simp only [backIdOf, setUnit_pool]
@[simp] theorem backIdOf_setShelf (s : State) (i : Nat) (x : Shelf) (key : Nat) : backIdOf (setShelf s i x) key = backIdOf s key := by simp only [backIdOf, setShelf_pool]
@[simp] theorem backIdOf_setSlot (s : State) (i k : Nat) (l : Slot) (key : Nat) : backIdOf (setSlot s i k l) key = backIdOf s key := by simp only [backIdOf, setSlot_pool]
@[simp] theorem backIdOf_setDrawer (s : State) (i : Nat) (d : Drawer) (key : Nat) : backIdOf (setDrawer s i d) key = backIdOf s key := by simp only [backIdOf, setDrawer_pool]

@[simp] theorem backById_emit (s : State) (e : Emit) (key : Nat) : backById (emit s e) key = backById s key := by simp only [backById, emit_pool]
@[simp] theorem backById_regSet (s : State) (a : Nat) (v : Word) (key : Nat) : backById (regSet s a v) key = backById s key := by simp only [backById, regSet_pool]
@[simp] theorem backById_setFld (s : State) (a lo len v : Nat) (key : Nat) : backById (setFld s a lo len v) key = backById s key := by simp only [backById, setFld_pool]
@[simp] theorem backById_setBit (s : State) (a b : Nat) (key : Nat) : backById (setBit s a b) key = backById s key := by simp only [backById, setBit_pool]
@[simp] theorem backById_bumpBy (s : State) (a n : Nat) (key : Nat) : backById (bumpBy s a n) key = backById s key := by simp only [backById, bumpBy_pool]
@[simp] theorem backById_bump (s : State) (a : Nat) (key : Nat) : backById (bump s a) key = backById s key := by simp only [backById, bump_pool]
@[simp] theorem backById_setRing (s : State) (n : Nat) (r : Ring) (key : Nat) : backById (setRing s n r) key = backById s key := by simp only [backById, setRing_pool]
@[simp] theorem backById_setHandle (s : State) (h : Nat) (r : HandleRec) (key : Nat) : backById (setHandle s h r) key = backById s key := by simp only [backById, setHandle_pool]
@[simp] theorem backById_dropHandle (s : State) (h : Nat) (key : Nat) : backById (dropHandle s h) key = backById s key := by simp only [backById, dropHandle_pool]
@[simp] theorem backById_setProgress (s : State) (h n : Nat) (key : Nat) : backById (setProgress s h n) key = backById s key := by simp only [backById, setProgress_pool]
@[simp] theorem backById_engineDone (s : State) (h : Nat) (st : Status) (r0 r1 : Word) (key : Nat) : backById (engineDone s h st r0 r1) key = backById s key := by simp only [backById, engineDone_pool]
@[simp] theorem backById_setDir (s : State) (l : Nat) (e : DirEntry) (key : Nat) : backById (setDir s l e) key = backById s key := by simp only [backById, setDir_pool]
@[simp] theorem backById_dropDir (s : State) (l : Nat) (key : Nat) : backById (dropDir s l) key = backById s key := by simp only [backById, dropDir_pool]
@[simp] theorem backById_setTrans (s : State) (l : Nat) (t : Trans) (key : Nat) : backById (setTrans s l t) key = backById s key := by simp only [backById, setTrans_pool]
@[simp] theorem backById_dropTrans (s : State) (l : Nat) (key : Nat) : backById (dropTrans s l) key = backById s key := by simp only [backById, dropTrans_pool]
@[simp] theorem backById_setHot (s : State) (l : Nat) (h : Hot) (key : Nat) : backById (setHot s l h) key = backById s key := by simp only [backById, setHot_pool]
@[simp] theorem backById_setOut (s : State) (n : Nat) (f : Out → Out) (key : Nat) : backById (setOut s n f) key = backById s key := by simp only [backById, setOut_pool]
@[simp] theorem backById_modStat (s : State) (t : Nat) (f : RecallStat → RecallStat) (key : Nat) : backById (modStat s t f) key = backById s key := by simp only [backById, modStat_pool]
@[simp] theorem backById_dropStat (s : State) (t : Nat) (key : Nat) : backById (dropStat s t) key = backById s key := by simp only [backById, dropStat_pool]
@[simp] theorem backById_setOp (s : State) (i : Nat) (w : WOp) (key : Nat) : backById (setOp s i w) key = backById s key := by simp only [backById, setOp_pool]
@[simp] theorem backById_setStack (s : State) (i : Nat) (r : StackRec) (key : Nat) : backById (setStack s i r) key = backById s key := by simp only [backById, setStack_pool]
@[simp] theorem backById_setSettle (s : State) (x : SettleSt) (key : Nat) : backById (setSettle s x) key = backById s key := by simp only [backById, setSettle_pool]
@[simp] theorem backById_setLink (s : State) (p : Nat) (l : Link) (key : Nat) : backById (setLink s p l) key = backById s key := by simp only [backById, setLink_pool]
@[simp] theorem backById_setCxl (s : State) (p : Nat) (c : CxlPort) (key : Nat) : backById (setCxl s p c) key = backById s key := by simp only [backById, setCxl_pool]
@[simp] theorem backById_setUnit (s : State) (u : Nat) (x : TUnitSt) (key : Nat) : backById (setUnit s u x) key = backById s key := by simp only [backById, setUnit_pool]
@[simp] theorem backById_setShelf (s : State) (i : Nat) (x : Shelf) (key : Nat) : backById (setShelf s i x) key = backById s key := by simp only [backById, setShelf_pool]
@[simp] theorem backById_setSlot (s : State) (i k : Nat) (l : Slot) (key : Nat) : backById (setSlot s i k l) key = backById s key := by simp only [backById, setSlot_pool]
@[simp] theorem backById_setDrawer (s : State) (i : Nat) (d : Drawer) (key : Nat) : backById (setDrawer s i d) key = backById s key := by simp only [backById, setDrawer_pool]
@[simp] theorem backById_setBack (s : State) (i : Nat) (b : Back) : backById (setBack s i b) i = some b := by simp [backById, setBack]

@[simp] theorem extentById_emit (s : State) (e : Emit) (key : Nat) : extentById (emit s e) key = extentById s key := by simp only [extentById, emit_pool]
@[simp] theorem extentById_regSet (s : State) (a : Nat) (v : Word) (key : Nat) : extentById (regSet s a v) key = extentById s key := by simp only [extentById, regSet_pool]
@[simp] theorem extentById_setFld (s : State) (a lo len v : Nat) (key : Nat) : extentById (setFld s a lo len v) key = extentById s key := by simp only [extentById, setFld_pool]
@[simp] theorem extentById_setBit (s : State) (a b : Nat) (key : Nat) : extentById (setBit s a b) key = extentById s key := by simp only [extentById, setBit_pool]
@[simp] theorem extentById_bumpBy (s : State) (a n : Nat) (key : Nat) : extentById (bumpBy s a n) key = extentById s key := by simp only [extentById, bumpBy_pool]
@[simp] theorem extentById_bump (s : State) (a : Nat) (key : Nat) : extentById (bump s a) key = extentById s key := by simp only [extentById, bump_pool]
@[simp] theorem extentById_setRing (s : State) (n : Nat) (r : Ring) (key : Nat) : extentById (setRing s n r) key = extentById s key := by simp only [extentById, setRing_pool]
@[simp] theorem extentById_setHandle (s : State) (h : Nat) (r : HandleRec) (key : Nat) : extentById (setHandle s h r) key = extentById s key := by simp only [extentById, setHandle_pool]
@[simp] theorem extentById_dropHandle (s : State) (h : Nat) (key : Nat) : extentById (dropHandle s h) key = extentById s key := by simp only [extentById, dropHandle_pool]
@[simp] theorem extentById_setProgress (s : State) (h n : Nat) (key : Nat) : extentById (setProgress s h n) key = extentById s key := by simp only [extentById, setProgress_pool]
@[simp] theorem extentById_engineDone (s : State) (h : Nat) (st : Status) (r0 r1 : Word) (key : Nat) : extentById (engineDone s h st r0 r1) key = extentById s key := by simp only [extentById, engineDone_pool]
@[simp] theorem extentById_setDir (s : State) (l : Nat) (e : DirEntry) (key : Nat) : extentById (setDir s l e) key = extentById s key := by simp only [extentById, setDir_pool]
@[simp] theorem extentById_dropDir (s : State) (l : Nat) (key : Nat) : extentById (dropDir s l) key = extentById s key := by simp only [extentById, dropDir_pool]
@[simp] theorem extentById_setTrans (s : State) (l : Nat) (t : Trans) (key : Nat) : extentById (setTrans s l t) key = extentById s key := by simp only [extentById, setTrans_pool]
@[simp] theorem extentById_dropTrans (s : State) (l : Nat) (key : Nat) : extentById (dropTrans s l) key = extentById s key := by simp only [extentById, dropTrans_pool]
@[simp] theorem extentById_setHot (s : State) (l : Nat) (h : Hot) (key : Nat) : extentById (setHot s l h) key = extentById s key := by simp only [extentById, setHot_pool]
@[simp] theorem extentById_setOut (s : State) (n : Nat) (f : Out → Out) (key : Nat) : extentById (setOut s n f) key = extentById s key := by simp only [extentById, setOut_pool]
@[simp] theorem extentById_modStat (s : State) (t : Nat) (f : RecallStat → RecallStat) (key : Nat) : extentById (modStat s t f) key = extentById s key := by simp only [extentById, modStat_pool]
@[simp] theorem extentById_dropStat (s : State) (t : Nat) (key : Nat) : extentById (dropStat s t) key = extentById s key := by simp only [extentById, dropStat_pool]
@[simp] theorem extentById_setOp (s : State) (i : Nat) (w : WOp) (key : Nat) : extentById (setOp s i w) key = extentById s key := by simp only [extentById, setOp_pool]
@[simp] theorem extentById_setStack (s : State) (i : Nat) (r : StackRec) (key : Nat) : extentById (setStack s i r) key = extentById s key := by simp only [extentById, setStack_pool]
@[simp] theorem extentById_setSettle (s : State) (x : SettleSt) (key : Nat) : extentById (setSettle s x) key = extentById s key := by simp only [extentById, setSettle_pool]
@[simp] theorem extentById_setLink (s : State) (p : Nat) (l : Link) (key : Nat) : extentById (setLink s p l) key = extentById s key := by simp only [extentById, setLink_pool]
@[simp] theorem extentById_setCxl (s : State) (p : Nat) (c : CxlPort) (key : Nat) : extentById (setCxl s p c) key = extentById s key := by simp only [extentById, setCxl_pool]
@[simp] theorem extentById_setUnit (s : State) (u : Nat) (x : TUnitSt) (key : Nat) : extentById (setUnit s u x) key = extentById s key := by simp only [extentById, setUnit_pool]
@[simp] theorem extentById_setShelf (s : State) (i : Nat) (x : Shelf) (key : Nat) : extentById (setShelf s i x) key = extentById s key := by simp only [extentById, setShelf_pool]
@[simp] theorem extentById_setSlot (s : State) (i k : Nat) (l : Slot) (key : Nat) : extentById (setSlot s i k l) key = extentById s key := by simp only [extentById, setSlot_pool]
@[simp] theorem extentById_setDrawer (s : State) (i : Nat) (d : Drawer) (key : Nat) : extentById (setDrawer s i d) key = extentById s key := by simp only [extentById, setDrawer_pool]

@[simp] theorem regGet_dropHandle (s : State) (h : Nat) (key : Nat) : regGet (dropHandle s h) key = regGet s key := by simp only [regGet, dropHandle_regs]
@[simp] theorem regGet_setProgress (s : State) (h n : Nat) (key : Nat) : regGet (setProgress s h n) key = regGet s key := by simp only [regGet, setProgress_regs]
@[simp] theorem regGet_engineDone (s : State) (h : Nat) (st : Status) (r0 r1 : Word) (key : Nat) : regGet (engineDone s h st r0 r1) key = regGet s key := by simp only [regGet, engineDone_regs]
@[simp] theorem regGet_setDir (s : State) (l : Nat) (e : DirEntry) (key : Nat) : regGet (setDir s l e) key = regGet s key := by simp only [regGet, setDir_regs]
@[simp] theorem regGet_dropDir (s : State) (l : Nat) (key : Nat) : regGet (dropDir s l) key = regGet s key := by simp only [regGet, dropDir_regs]
@[simp] theorem regGet_setTrans (s : State) (l : Nat) (t : Trans) (key : Nat) : regGet (setTrans s l t) key = regGet s key := by simp only [regGet, setTrans_regs]
@[simp] theorem regGet_dropTrans (s : State) (l : Nat) (key : Nat) : regGet (dropTrans s l) key = regGet s key := by simp only [regGet, dropTrans_regs]
@[simp] theorem regGet_setHot (s : State) (l : Nat) (h : Hot) (key : Nat) : regGet (setHot s l h) key = regGet s key := by simp only [regGet, setHot_regs]
@[simp] theorem regGet_setOut (s : State) (n : Nat) (f : Out → Out) (key : Nat) : regGet (setOut s n f) key = regGet s key := by simp only [regGet, setOut_regs]
@[simp] theorem regGet_modStat (s : State) (t : Nat) (f : RecallStat → RecallStat) (key : Nat) : regGet (modStat s t f) key = regGet s key := by simp only [regGet, modStat_regs]
@[simp] theorem regGet_dropStat (s : State) (t : Nat) (key : Nat) : regGet (dropStat s t) key = regGet s key := by simp only [regGet, dropStat_regs]
@[simp] theorem regGet_setOp (s : State) (i : Nat) (w : WOp) (key : Nat) : regGet (setOp s i w) key = regGet s key := by simp only [regGet, setOp_regs]
@[simp] theorem regGet_setStack (s : State) (i : Nat) (r : StackRec) (key : Nat) : regGet (setStack s i r) key = regGet s key := by simp only [regGet, setStack_regs]
@[simp] theorem regGet_setSettle (s : State) (x : SettleSt) (key : Nat) : regGet (setSettle s x) key = regGet s key := by simp only [regGet, setSettle_regs]
@[simp] theorem regGet_setLink (s : State) (p : Nat) (l : Link) (key : Nat) : regGet (setLink s p l) key = regGet s key := by simp only [regGet, setLink_regs]
@[simp] theorem regGet_setCxl (s : State) (p : Nat) (c : CxlPort) (key : Nat) : regGet (setCxl s p c) key = regGet s key := by simp only [regGet, setCxl_regs]
@[simp] theorem regGet_setUnit (s : State) (u : Nat) (x : TUnitSt) (key : Nat) : regGet (setUnit s u x) key = regGet s key := by simp only [regGet, setUnit_regs]
@[simp] theorem regGet_setBack (s : State) (i : Nat) (b : Back) (key : Nat) : regGet (setBack s i b) key = regGet s key := by simp only [regGet, setBack_regs]
@[simp] theorem regGet_setShelf (s : State) (i : Nat) (x : Shelf) (key : Nat) : regGet (setShelf s i x) key = regGet s key := by simp only [regGet, setShelf_regs]
@[simp] theorem regGet_setSlot (s : State) (i k : Nat) (l : Slot) (key : Nat) : regGet (setSlot s i k l) key = regGet s key := by simp only [regGet, setSlot_regs]
@[simp] theorem regGet_setDrawer (s : State) (i : Nat) (d : Drawer) (key : Nat) : regGet (setDrawer s i d) key = regGet s key := by simp only [regGet, setDrawer_regs]

@[simp] theorem farMode_emit (s : State) (e : Emit) (key : Nat) : farMode (emit s e) key = farMode s key := by simp only [farMode, hotAt, emit_atm]
@[simp] theorem farMode_regSet (s : State) (a : Nat) (v : Word) (key : Nat) : farMode (regSet s a v) key = farMode s key := by simp only [farMode, hotAt, regSet_atm]
@[simp] theorem farMode_setFld (s : State) (a lo len v : Nat) (key : Nat) : farMode (setFld s a lo len v) key = farMode s key := by simp only [farMode, hotAt, setFld_atm]
@[simp] theorem farMode_setBit (s : State) (a b : Nat) (key : Nat) : farMode (setBit s a b) key = farMode s key := by simp only [farMode, hotAt, setBit_atm]
@[simp] theorem farMode_bumpBy (s : State) (a n : Nat) (key : Nat) : farMode (bumpBy s a n) key = farMode s key := by simp only [farMode, hotAt, bumpBy_atm]
@[simp] theorem farMode_bump (s : State) (a : Nat) (key : Nat) : farMode (bump s a) key = farMode s key := by simp only [farMode, hotAt, bump_atm]
@[simp] theorem farMode_setRing (s : State) (n : Nat) (r : Ring) (key : Nat) : farMode (setRing s n r) key = farMode s key := by simp only [farMode, hotAt, setRing_atm]
@[simp] theorem farMode_setHandle (s : State) (h : Nat) (r : HandleRec) (key : Nat) : farMode (setHandle s h r) key = farMode s key := by simp only [farMode, hotAt, setHandle_atm]
@[simp] theorem farMode_dropHandle (s : State) (h : Nat) (key : Nat) : farMode (dropHandle s h) key = farMode s key := by simp only [farMode, hotAt, dropHandle_atm]
@[simp] theorem farMode_setProgress (s : State) (h n : Nat) (key : Nat) : farMode (setProgress s h n) key = farMode s key := by simp only [farMode, hotAt, setProgress_atm]
@[simp] theorem farMode_engineDone (s : State) (h : Nat) (st : Status) (r0 r1 : Word) (key : Nat) : farMode (engineDone s h st r0 r1) key = farMode s key := by simp only [farMode, hotAt, engineDone_atm]
@[simp] theorem farMode_setDir (s : State) (l : Nat) (e : DirEntry) (key : Nat) : farMode (setDir s l e) key = farMode s key := by simp only [farMode, hotAt, setDir_atm]
@[simp] theorem farMode_dropDir (s : State) (l : Nat) (key : Nat) : farMode (dropDir s l) key = farMode s key := by simp only [farMode, hotAt, dropDir_atm]
@[simp] theorem farMode_setTrans (s : State) (l : Nat) (t : Trans) (key : Nat) : farMode (setTrans s l t) key = farMode s key := by simp only [farMode, hotAt, setTrans_atm]
@[simp] theorem farMode_dropTrans (s : State) (l : Nat) (key : Nat) : farMode (dropTrans s l) key = farMode s key := by simp only [farMode, hotAt, dropTrans_atm]
@[simp] theorem farMode_setOut (s : State) (n : Nat) (f : Out → Out) (key : Nat) : farMode (setOut s n f) key = farMode s key := by simp only [farMode, hotAt, setOut_atm]
@[simp] theorem farMode_modStat (s : State) (t : Nat) (f : RecallStat → RecallStat) (key : Nat) : farMode (modStat s t f) key = farMode s key := by simp only [farMode, hotAt, modStat_atm]
@[simp] theorem farMode_dropStat (s : State) (t : Nat) (key : Nat) : farMode (dropStat s t) key = farMode s key := by simp only [farMode, hotAt, dropStat_atm]
@[simp] theorem farMode_setOp (s : State) (i : Nat) (w : WOp) (key : Nat) : farMode (setOp s i w) key = farMode s key := by simp only [farMode, hotAt, setOp_atm]
@[simp] theorem farMode_setStack (s : State) (i : Nat) (r : StackRec) (key : Nat) : farMode (setStack s i r) key = farMode s key := by simp only [farMode, hotAt, setStack_atm]
@[simp] theorem farMode_setSettle (s : State) (x : SettleSt) (key : Nat) : farMode (setSettle s x) key = farMode s key := by simp only [farMode, hotAt, setSettle_atm]
@[simp] theorem farMode_setLink (s : State) (p : Nat) (l : Link) (key : Nat) : farMode (setLink s p l) key = farMode s key := by simp only [farMode, hotAt, setLink_atm]
@[simp] theorem farMode_setCxl (s : State) (p : Nat) (c : CxlPort) (key : Nat) : farMode (setCxl s p c) key = farMode s key := by simp only [farMode, hotAt, setCxl_atm]
@[simp] theorem farMode_setUnit (s : State) (u : Nat) (x : TUnitSt) (key : Nat) : farMode (setUnit s u x) key = farMode s key := by simp only [farMode, hotAt, setUnit_atm]
@[simp] theorem farMode_setBack (s : State) (i : Nat) (b : Back) (key : Nat) : farMode (setBack s i b) key = farMode s key := by simp only [farMode, hotAt, setBack_atm]
@[simp] theorem farMode_setShelf (s : State) (i : Nat) (x : Shelf) (key : Nat) : farMode (setShelf s i x) key = farMode s key := by simp only [farMode, hotAt, setShelf_atm]
@[simp] theorem farMode_setSlot (s : State) (i k : Nat) (l : Slot) (key : Nat) : farMode (setSlot s i k l) key = farMode s key := by simp only [farMode, hotAt, setSlot_atm]
@[simp] theorem farMode_setDrawer (s : State) (i : Nat) (d : Drawer) (key : Nat) : farMode (setDrawer s i d) key = farMode s key := by simp only [farMode, hotAt, setDrawer_atm]

@[simp] theorem askMem_coh (s : State) (l k : Nat) (d : Option (Line × Bool)) : (askMem s l k d).coh = s.coh :=
  (askMem_same s l k d).part .coh (by decide)
@[simp] theorem dirAt_askMem (s : State) (l k : Nat) (d : Option (Line × Bool)) (key : Nat) : dirAt (askMem s l k d) key = dirAt s key := by simp only [dirAt, askMem_coh]
@[simp] theorem transAt_askMem (s : State) (l k : Nat) (d : Option (Line × Bool)) (key : Nat) : transAt (askMem s l k d) key = transAt s key := by simp only [transAt, askMem_coh]
@[simp] theorem dirAt_dropDir (s : State) (l : Nat) : dirAt (dropDir s l) l = none := by simp [dirAt, dropDir]
@[simp] theorem transAt_dropTrans (s : State) (l : Nat) : transAt (dropTrans s l) l = none := by simp [transAt, dropTrans]
@[simp] theorem handleOf_dropHandle (s : State) (h : Nat) : handleOf (dropHandle s h) h = none := by simp [handleOf, dropHandle]
@[simp] theorem epFenced_emit (s : State) (x : Emit) (p : Nat) (e : Endpoint) : epFenced (emit s x) p e = epFenced s p e := by simp only [epFenced, emit_coh]
@[simp] theorem epFenced_regSet (s : State) (a : Nat) (v : Word) (p : Nat) (e : Endpoint) : epFenced (regSet s a v) p e = epFenced s p e := by simp only [epFenced, regSet_coh]
@[simp] theorem epFenced_setFld (s : State) (a lo len v : Nat) (p : Nat) (e : Endpoint) : epFenced (setFld s a lo len v) p e = epFenced s p e := by simp only [epFenced, setFld_coh]
@[simp] theorem epFenced_setBit (s : State) (a b : Nat) (p : Nat) (e : Endpoint) : epFenced (setBit s a b) p e = epFenced s p e := by simp only [epFenced, setBit_coh]
@[simp] theorem epFenced_bumpBy (s : State) (a n : Nat) (p : Nat) (e : Endpoint) : epFenced (bumpBy s a n) p e = epFenced s p e := by simp only [epFenced, bumpBy_coh]
@[simp] theorem epFenced_bump (s : State) (a : Nat) (p : Nat) (e : Endpoint) : epFenced (bump s a) p e = epFenced s p e := by simp only [epFenced, bump_coh]
@[simp] theorem epFenced_setTrans (s : State) (l : Nat) (t : Trans) (p : Nat) (e : Endpoint) : epFenced (setTrans s l t) p e = epFenced s p e := rfl

end Sys2Proof.Machine
end

