-- ==== Sys2Proof/Laws/Frame.lean ====
section
/-! SUPPORT. What the shared operations leave alone: recalls, commits, records, logging and outputs. -/

namespace Sys2Proof.Machine

/-- A fold keeps what its step keeps. -/
theorem foldl_keeps {α β : Type} (f : State → β) (g : State → α → State) (h : ∀ s a, f (g s a) = f s) (l : List α) (s : State) : f (l.foldl g s) = f s := by
  induction l generalizing s with
  | nil => rfl
  | cons a l ih => rw [List.foldl_cons, ih, h]

@[simp] theorem queueRecall_now (s : State) (l : Nat) (k : RecallKind) (t : Nat) : (queueRecall s l k t).now = s.now := by rfl
@[simp] theorem queueRecall_draws (s : State) (l : Nat) (k : RecallKind) (t : Nat) : (queueRecall s l k t).draws = s.draws := by rfl
@[simp] theorem queueRecall_regs (s : State) (l : Nat) (k : RecallKind) (t : Nat) : (queueRecall s l k t).regs = s.regs := by rfl
@[simp] theorem queueRecall_out (s : State) (l : Nat) (k : RecallKind) (t : Nat) : (queueRecall s l k t).out = s.out := by rfl
@[simp] theorem queueRecall_pending (s : State) (l : Nat) (k : RecallKind) (t : Nat) : (queueRecall s l k t).pending = s.pending := by rfl
@[simp] theorem queueRecall_rings (s : State) (l : Nat) (k : RecallKind) (t : Nat) : (queueRecall s l k t).rings = s.rings := by rfl
@[simp] theorem queueRecall_pool (s : State) (l : Nat) (k : RecallKind) (t : Nat) : (queueRecall s l k t).pool = s.pool := by rfl
@[simp] theorem queueRecall_mgmt (s : State) (l : Nat) (k : RecallKind) (t : Nat) : (queueRecall s l k t).mgmt = s.mgmt := by rfl
@[simp] theorem queueRecall_ord (s : State) (l : Nat) (k : RecallKind) (t : Nat) : (queueRecall s l k t).ord = s.ord := by rfl
@[simp] theorem queueRecall_atm (s : State) (l : Nat) (k : RecallKind) (t : Nat) : (queueRecall s l k t).atm = s.atm := by rfl
@[simp] theorem queueRecall_obj (s : State) (l : Nat) (k : RecallKind) (t : Nat) : (queueRecall s l k t).obj = s.obj := by rfl
@[simp] theorem queueRecall_tier (s : State) (l : Nat) (k : RecallKind) (t : Nat) : (queueRecall s l k t).tier = s.tier := by rfl
@[simp] theorem queueRecall_cmp (s : State) (l : Nat) (k : RecallKind) (t : Nat) : (queueRecall s l k t).cmp = s.cmp := by rfl
@[simp] theorem queueRecall_stk (s : State) (l : Nat) (k : RecallKind) (t : Nat) : (queueRecall s l k t).stk = s.stk := by rfl
@[simp] theorem queueRecall_bau (s : State) (l : Nat) (k : RecallKind) (t : Nat) : (queueRecall s l k t).bau = s.bau := by rfl
@[simp] theorem queueRecall_trs (s : State) (l : Nat) (k : RecallKind) (t : Nat) : (queueRecall s l k t).trs = s.trs := by rfl
@[simp] theorem queueRecall_train (s : State) (l : Nat) (k : RecallKind) (t : Nat) : (queueRecall s l k t).train = s.train := by rfl
@[simp] theorem queueRecall_route (s : State) (l : Nat) (k : RecallKind) (t : Nat) : (queueRecall s l k t).route = s.route := by rfl
@[simp] theorem queueRecall_core (s : State) (l : Nat) (k : RecallKind) (t : Nat) : (queueRecall s l k t).core = s.core := by rfl
@[simp] theorem queueRecall_cong (s : State) (l : Nat) (k : RecallKind) (t : Nat) : (queueRecall s l k t).cong = s.cong := by rfl
@[simp] theorem queueRecall_link (s : State) (l : Nat) (k : RecallKind) (t : Nat) : (queueRecall s l k t).link = s.link := by rfl
@[simp] theorem queueRecall_ras (s : State) (l : Nat) (k : RecallKind) (t : Nat) : (queueRecall s l k t).ras = s.ras := by rfl
@[simp] theorem queueRecall_sys (s : State) (l : Nat) (k : RecallKind) (t : Nat) : (queueRecall s l k t).sys = s.sys := by rfl
@[simp] theorem queueRecall_settle (s : State) (l : Nat) (k : RecallKind) (t : Nat) : (queueRecall s l k t).settle = s.settle := by rfl
@[simp] theorem queueRecall_pwr (s : State) (l : Nat) (k : RecallKind) (t : Nat) : (queueRecall s l k t).pwr = s.pwr := by rfl

@[simp] theorem queueRecalls_now (s : State) (lo hi : Nat) (k : RecallKind) (t : Nat) (w : Nat → DirEntry → Bool) : (queueRecalls s lo hi k t w).now = s.now := by unfold queueRecalls; refine foldl_keeps (fun t : State => t.now) _ (fun _ _ => ?_) _ _; rfl
@[simp] theorem queueRecalls_draws (s : State) (lo hi : Nat) (k : RecallKind) (t : Nat) (w : Nat → DirEntry → Bool) : (queueRecalls s lo hi k t w).draws = s.draws := by unfold queueRecalls; refine foldl_keeps (fun t : State => t.draws) _ (fun _ _ => ?_) _ _; rfl
@[simp] theorem queueRecalls_regs (s : State) (lo hi : Nat) (k : RecallKind) (t : Nat) (w : Nat → DirEntry → Bool) : (queueRecalls s lo hi k t w).regs = s.regs := by unfold queueRecalls; refine foldl_keeps (fun t : State => t.regs) _ (fun _ _ => ?_) _ _; rfl
@[simp] theorem queueRecalls_out (s : State) (lo hi : Nat) (k : RecallKind) (t : Nat) (w : Nat → DirEntry → Bool) : (queueRecalls s lo hi k t w).out = s.out := by unfold queueRecalls; refine foldl_keeps (fun t : State => t.out) _ (fun _ _ => ?_) _ _; rfl
@[simp] theorem queueRecalls_pending (s : State) (lo hi : Nat) (k : RecallKind) (t : Nat) (w : Nat → DirEntry → Bool) : (queueRecalls s lo hi k t w).pending = s.pending := by unfold queueRecalls; refine foldl_keeps (fun t : State => t.pending) _ (fun _ _ => ?_) _ _; rfl
@[simp] theorem queueRecalls_rings (s : State) (lo hi : Nat) (k : RecallKind) (t : Nat) (w : Nat → DirEntry → Bool) : (queueRecalls s lo hi k t w).rings = s.rings := by unfold queueRecalls; refine foldl_keeps (fun t : State => t.rings) _ (fun _ _ => ?_) _ _; rfl
@[simp] theorem queueRecalls_pool (s : State) (lo hi : Nat) (k : RecallKind) (t : Nat) (w : Nat → DirEntry → Bool) : (queueRecalls s lo hi k t w).pool = s.pool := by unfold queueRecalls; refine foldl_keeps (fun t : State => t.pool) _ (fun _ _ => ?_) _ _; rfl
@[simp] theorem queueRecalls_mgmt (s : State) (lo hi : Nat) (k : RecallKind) (t : Nat) (w : Nat → DirEntry → Bool) : (queueRecalls s lo hi k t w).mgmt = s.mgmt := by unfold queueRecalls; refine foldl_keeps (fun t : State => t.mgmt) _ (fun _ _ => ?_) _ _; rfl
@[simp] theorem queueRecalls_ord (s : State) (lo hi : Nat) (k : RecallKind) (t : Nat) (w : Nat → DirEntry → Bool) : (queueRecalls s lo hi k t w).ord = s.ord := by unfold queueRecalls; refine foldl_keeps (fun t : State => t.ord) _ (fun _ _ => ?_) _ _; rfl
@[simp] theorem queueRecalls_atm (s : State) (lo hi : Nat) (k : RecallKind) (t : Nat) (w : Nat → DirEntry → Bool) : (queueRecalls s lo hi k t w).atm = s.atm := by unfold queueRecalls; refine foldl_keeps (fun t : State => t.atm) _ (fun _ _ => ?_) _ _; rfl
@[simp] theorem queueRecalls_obj (s : State) (lo hi : Nat) (k : RecallKind) (t : Nat) (w : Nat → DirEntry → Bool) : (queueRecalls s lo hi k t w).obj = s.obj := by unfold queueRecalls; refine foldl_keeps (fun t : State => t.obj) _ (fun _ _ => ?_) _ _; rfl
@[simp] theorem queueRecalls_tier (s : State) (lo hi : Nat) (k : RecallKind) (t : Nat) (w : Nat → DirEntry → Bool) : (queueRecalls s lo hi k t w).tier = s.tier := by unfold queueRecalls; refine foldl_keeps (fun t : State => t.tier) _ (fun _ _ => ?_) _ _; rfl
@[simp] theorem queueRecalls_cmp (s : State) (lo hi : Nat) (k : RecallKind) (t : Nat) (w : Nat → DirEntry → Bool) : (queueRecalls s lo hi k t w).cmp = s.cmp := by unfold queueRecalls; refine foldl_keeps (fun t : State => t.cmp) _ (fun _ _ => ?_) _ _; rfl
@[simp] theorem queueRecalls_stk (s : State) (lo hi : Nat) (k : RecallKind) (t : Nat) (w : Nat → DirEntry → Bool) : (queueRecalls s lo hi k t w).stk = s.stk := by unfold queueRecalls; refine foldl_keeps (fun t : State => t.stk) _ (fun _ _ => ?_) _ _; rfl
@[simp] theorem queueRecalls_bau (s : State) (lo hi : Nat) (k : RecallKind) (t : Nat) (w : Nat → DirEntry → Bool) : (queueRecalls s lo hi k t w).bau = s.bau := by unfold queueRecalls; refine foldl_keeps (fun t : State => t.bau) _ (fun _ _ => ?_) _ _; rfl
@[simp] theorem queueRecalls_trs (s : State) (lo hi : Nat) (k : RecallKind) (t : Nat) (w : Nat → DirEntry → Bool) : (queueRecalls s lo hi k t w).trs = s.trs := by unfold queueRecalls; refine foldl_keeps (fun t : State => t.trs) _ (fun _ _ => ?_) _ _; rfl
@[simp] theorem queueRecalls_train (s : State) (lo hi : Nat) (k : RecallKind) (t : Nat) (w : Nat → DirEntry → Bool) : (queueRecalls s lo hi k t w).train = s.train := by unfold queueRecalls; refine foldl_keeps (fun t : State => t.train) _ (fun _ _ => ?_) _ _; rfl
@[simp] theorem queueRecalls_route (s : State) (lo hi : Nat) (k : RecallKind) (t : Nat) (w : Nat → DirEntry → Bool) : (queueRecalls s lo hi k t w).route = s.route := by unfold queueRecalls; refine foldl_keeps (fun t : State => t.route) _ (fun _ _ => ?_) _ _; rfl
@[simp] theorem queueRecalls_core (s : State) (lo hi : Nat) (k : RecallKind) (t : Nat) (w : Nat → DirEntry → Bool) : (queueRecalls s lo hi k t w).core = s.core := by unfold queueRecalls; refine foldl_keeps (fun t : State => t.core) _ (fun _ _ => ?_) _ _; rfl
@[simp] theorem queueRecalls_cong (s : State) (lo hi : Nat) (k : RecallKind) (t : Nat) (w : Nat → DirEntry → Bool) : (queueRecalls s lo hi k t w).cong = s.cong := by unfold queueRecalls; refine foldl_keeps (fun t : State => t.cong) _ (fun _ _ => ?_) _ _; rfl
@[simp] theorem queueRecalls_link (s : State) (lo hi : Nat) (k : RecallKind) (t : Nat) (w : Nat → DirEntry → Bool) : (queueRecalls s lo hi k t w).link = s.link := by unfold queueRecalls; refine foldl_keeps (fun t : State => t.link) _ (fun _ _ => ?_) _ _; rfl
@[simp] theorem queueRecalls_ras (s : State) (lo hi : Nat) (k : RecallKind) (t : Nat) (w : Nat → DirEntry → Bool) : (queueRecalls s lo hi k t w).ras = s.ras := by unfold queueRecalls; refine foldl_keeps (fun t : State => t.ras) _ (fun _ _ => ?_) _ _; rfl
@[simp] theorem queueRecalls_sys (s : State) (lo hi : Nat) (k : RecallKind) (t : Nat) (w : Nat → DirEntry → Bool) : (queueRecalls s lo hi k t w).sys = s.sys := by unfold queueRecalls; refine foldl_keeps (fun t : State => t.sys) _ (fun _ _ => ?_) _ _; rfl
@[simp] theorem queueRecalls_settle (s : State) (lo hi : Nat) (k : RecallKind) (t : Nat) (w : Nat → DirEntry → Bool) : (queueRecalls s lo hi k t w).settle = s.settle := by unfold queueRecalls; refine foldl_keeps (fun t : State => t.settle) _ (fun _ _ => ?_) _ _; rfl
@[simp] theorem queueRecalls_pwr (s : State) (lo hi : Nat) (k : RecallKind) (t : Nat) (w : Nat → DirEntry → Bool) : (queueRecalls s lo hi k t w).pwr = s.pwr := by unfold queueRecalls; refine foldl_keeps (fun t : State => t.pwr) _ (fun _ _ => ?_) _ _; rfl

@[simp] theorem newTag_now (s : State) : (newTag s).2.now = s.now := rfl
@[simp] theorem newTag_draws (s : State) : (newTag s).2.draws = s.draws := rfl
@[simp] theorem newTag_regs (s : State) : (newTag s).2.regs = s.regs := rfl
@[simp] theorem newTag_out (s : State) : (newTag s).2.out = s.out := rfl
@[simp] theorem newTag_pending (s : State) : (newTag s).2.pending = s.pending := rfl
@[simp] theorem newTag_rings (s : State) : (newTag s).2.rings = s.rings := rfl
@[simp] theorem newTag_pool (s : State) : (newTag s).2.pool = s.pool := rfl
@[simp] theorem newTag_mgmt (s : State) : (newTag s).2.mgmt = s.mgmt := rfl
@[simp] theorem newTag_ord (s : State) : (newTag s).2.ord = s.ord := rfl
@[simp] theorem newTag_atm (s : State) : (newTag s).2.atm = s.atm := rfl
@[simp] theorem newTag_obj (s : State) : (newTag s).2.obj = s.obj := rfl
@[simp] theorem newTag_tier (s : State) : (newTag s).2.tier = s.tier := rfl
@[simp] theorem newTag_cmp (s : State) : (newTag s).2.cmp = s.cmp := rfl
@[simp] theorem newTag_stk (s : State) : (newTag s).2.stk = s.stk := rfl
@[simp] theorem newTag_bau (s : State) : (newTag s).2.bau = s.bau := rfl
@[simp] theorem newTag_trs (s : State) : (newTag s).2.trs = s.trs := rfl
@[simp] theorem newTag_train (s : State) : (newTag s).2.train = s.train := rfl
@[simp] theorem newTag_route (s : State) : (newTag s).2.route = s.route := rfl
@[simp] theorem newTag_core (s : State) : (newTag s).2.core = s.core := rfl
@[simp] theorem newTag_cong (s : State) : (newTag s).2.cong = s.cong := rfl
@[simp] theorem newTag_link (s : State) : (newTag s).2.link = s.link := rfl
@[simp] theorem newTag_ras (s : State) : (newTag s).2.ras = s.ras := rfl
@[simp] theorem newTag_sys (s : State) : (newTag s).2.sys = s.sys := rfl
@[simp] theorem newTag_settle (s : State) : (newTag s).2.settle = s.settle := rfl
@[simp] theorem newTag_pwr (s : State) : (newTag s).2.pwr = s.pwr := rfl

@[simp] theorem objChanged_now (s : State) : (objChanged s).now = s.now := by rfl
@[simp] theorem objChanged_draws (s : State) : (objChanged s).draws = s.draws := by rfl
@[simp] theorem objChanged_regs (s : State) : (objChanged s).regs = s.regs := by rfl
@[simp] theorem objChanged_out (s : State) : (objChanged s).out = s.out := by rfl
@[simp] theorem objChanged_pending (s : State) : (objChanged s).pending = s.pending := by rfl
@[simp] theorem objChanged_rings (s : State) : (objChanged s).rings = s.rings := by rfl
@[simp] theorem objChanged_pool (s : State) : (objChanged s).pool = s.pool := by rfl
@[simp] theorem objChanged_mgmt (s : State) : (objChanged s).mgmt = s.mgmt := by rfl
@[simp] theorem objChanged_coh (s : State) : (objChanged s).coh = s.coh := by rfl
@[simp] theorem objChanged_ord (s : State) : (objChanged s).ord = s.ord := by rfl
@[simp] theorem objChanged_atm (s : State) : (objChanged s).atm = s.atm := by rfl
@[simp] theorem objChanged_tier (s : State) : (objChanged s).tier = s.tier := by rfl
@[simp] theorem objChanged_cmp (s : State) : (objChanged s).cmp = s.cmp := by rfl
@[simp] theorem objChanged_stk (s : State) : (objChanged s).stk = s.stk := by rfl
@[simp] theorem objChanged_bau (s : State) : (objChanged s).bau = s.bau := by rfl
@[simp] theorem objChanged_trs (s : State) : (objChanged s).trs = s.trs := by rfl
@[simp] theorem objChanged_train (s : State) : (objChanged s).train = s.train := by rfl
@[simp] theorem objChanged_route (s : State) : (objChanged s).route = s.route := by rfl
@[simp] theorem objChanged_core (s : State) : (objChanged s).core = s.core := by rfl
@[simp] theorem objChanged_cong (s : State) : (objChanged s).cong = s.cong := by rfl
@[simp] theorem objChanged_link (s : State) : (objChanged s).link = s.link := by rfl
@[simp] theorem objChanged_ras (s : State) : (objChanged s).ras = s.ras := by rfl
@[simp] theorem objChanged_sys (s : State) : (objChanged s).sys = s.sys := by rfl
@[simp] theorem objChanged_settle (s : State) : (objChanged s).settle = s.settle := by rfl
@[simp] theorem objChanged_pwr (s : State) : (objChanged s).pwr = s.pwr := by rfl

@[simp] theorem dropCached_now (s : State) (p : Nat) : (dropCached s p).now = s.now := by rfl
@[simp] theorem dropCached_draws (s : State) (p : Nat) : (dropCached s p).draws = s.draws := by rfl
@[simp] theorem dropCached_regs (s : State) (p : Nat) : (dropCached s p).regs = s.regs := by rfl
@[simp] theorem dropCached_out (s : State) (p : Nat) : (dropCached s p).out = s.out := by rfl
@[simp] theorem dropCached_pending (s : State) (p : Nat) : (dropCached s p).pending = s.pending := by rfl
@[simp] theorem dropCached_rings (s : State) (p : Nat) : (dropCached s p).rings = s.rings := by rfl
@[simp] theorem dropCached_mgmt (s : State) (p : Nat) : (dropCached s p).mgmt = s.mgmt := by rfl
@[simp] theorem dropCached_coh (s : State) (p : Nat) : (dropCached s p).coh = s.coh := by rfl
@[simp] theorem dropCached_ord (s : State) (p : Nat) : (dropCached s p).ord = s.ord := by rfl
@[simp] theorem dropCached_atm (s : State) (p : Nat) : (dropCached s p).atm = s.atm := by rfl
@[simp] theorem dropCached_obj (s : State) (p : Nat) : (dropCached s p).obj = s.obj := by rfl
@[simp] theorem dropCached_tier (s : State) (p : Nat) : (dropCached s p).tier = s.tier := by rfl
@[simp] theorem dropCached_cmp (s : State) (p : Nat) : (dropCached s p).cmp = s.cmp := by rfl
@[simp] theorem dropCached_stk (s : State) (p : Nat) : (dropCached s p).stk = s.stk := by rfl
@[simp] theorem dropCached_bau (s : State) (p : Nat) : (dropCached s p).bau = s.bau := by rfl
@[simp] theorem dropCached_trs (s : State) (p : Nat) : (dropCached s p).trs = s.trs := by rfl
@[simp] theorem dropCached_train (s : State) (p : Nat) : (dropCached s p).train = s.train := by rfl
@[simp] theorem dropCached_route (s : State) (p : Nat) : (dropCached s p).route = s.route := by rfl
@[simp] theorem dropCached_core (s : State) (p : Nat) : (dropCached s p).core = s.core := by rfl
@[simp] theorem dropCached_cong (s : State) (p : Nat) : (dropCached s p).cong = s.cong := by rfl
@[simp] theorem dropCached_link (s : State) (p : Nat) : (dropCached s p).link = s.link := by rfl
@[simp] theorem dropCached_ras (s : State) (p : Nat) : (dropCached s p).ras = s.ras := by rfl
@[simp] theorem dropCached_sys (s : State) (p : Nat) : (dropCached s p).sys = s.sys := by rfl
@[simp] theorem dropCached_settle (s : State) (p : Nat) : (dropCached s p).settle = s.settle := by rfl
@[simp] theorem dropCached_pwr (s : State) (p : Nat) : (dropCached s p).pwr = s.pwr := by rfl

@[simp] theorem dropCachedRange_now (s : State) (lo hi : Nat) : (dropCachedRange s lo hi).now = s.now := by rfl
@[simp] theorem dropCachedRange_draws (s : State) (lo hi : Nat) : (dropCachedRange s lo hi).draws = s.draws := by rfl
@[simp] theorem dropCachedRange_regs (s : State) (lo hi : Nat) : (dropCachedRange s lo hi).regs = s.regs := by rfl
@[simp] theorem dropCachedRange_out (s : State) (lo hi : Nat) : (dropCachedRange s lo hi).out = s.out := by rfl
@[simp] theorem dropCachedRange_pending (s : State) (lo hi : Nat) : (dropCachedRange s lo hi).pending = s.pending := by rfl
@[simp] theorem dropCachedRange_rings (s : State) (lo hi : Nat) : (dropCachedRange s lo hi).rings = s.rings := by rfl
@[simp] theorem dropCachedRange_mgmt (s : State) (lo hi : Nat) : (dropCachedRange s lo hi).mgmt = s.mgmt := by rfl
@[simp] theorem dropCachedRange_coh (s : State) (lo hi : Nat) : (dropCachedRange s lo hi).coh = s.coh := by rfl
@[simp] theorem dropCachedRange_ord (s : State) (lo hi : Nat) : (dropCachedRange s lo hi).ord = s.ord := by rfl
@[simp] theorem dropCachedRange_atm (s : State) (lo hi : Nat) : (dropCachedRange s lo hi).atm = s.atm := by rfl
@[simp] theorem dropCachedRange_obj (s : State) (lo hi : Nat) : (dropCachedRange s lo hi).obj = s.obj := by rfl
@[simp] theorem dropCachedRange_tier (s : State) (lo hi : Nat) : (dropCachedRange s lo hi).tier = s.tier := by rfl
@[simp] theorem dropCachedRange_cmp (s : State) (lo hi : Nat) : (dropCachedRange s lo hi).cmp = s.cmp := by rfl
@[simp] theorem dropCachedRange_stk (s : State) (lo hi : Nat) : (dropCachedRange s lo hi).stk = s.stk := by rfl
@[simp] theorem dropCachedRange_bau (s : State) (lo hi : Nat) : (dropCachedRange s lo hi).bau = s.bau := by rfl
@[simp] theorem dropCachedRange_trs (s : State) (lo hi : Nat) : (dropCachedRange s lo hi).trs = s.trs := by rfl
@[simp] theorem dropCachedRange_train (s : State) (lo hi : Nat) : (dropCachedRange s lo hi).train = s.train := by rfl
@[simp] theorem dropCachedRange_route (s : State) (lo hi : Nat) : (dropCachedRange s lo hi).route = s.route := by rfl
@[simp] theorem dropCachedRange_core (s : State) (lo hi : Nat) : (dropCachedRange s lo hi).core = s.core := by rfl
@[simp] theorem dropCachedRange_cong (s : State) (lo hi : Nat) : (dropCachedRange s lo hi).cong = s.cong := by rfl
@[simp] theorem dropCachedRange_link (s : State) (lo hi : Nat) : (dropCachedRange s lo hi).link = s.link := by rfl
@[simp] theorem dropCachedRange_ras (s : State) (lo hi : Nat) : (dropCachedRange s lo hi).ras = s.ras := by rfl
@[simp] theorem dropCachedRange_sys (s : State) (lo hi : Nat) : (dropCachedRange s lo hi).sys = s.sys := by rfl
@[simp] theorem dropCachedRange_settle (s : State) (lo hi : Nat) : (dropCachedRange s lo hi).settle = s.settle := by rfl
@[simp] theorem dropCachedRange_pwr (s : State) (lo hi : Nat) : (dropCachedRange s lo hi).pwr = s.pwr := by rfl

@[simp] theorem leaveRange_now (s : State) (lo hi : Nat) : (leaveRange s lo hi).now = s.now := by rfl
@[simp] theorem leaveRange_draws (s : State) (lo hi : Nat) : (leaveRange s lo hi).draws = s.draws := by rfl
@[simp] theorem leaveRange_regs (s : State) (lo hi : Nat) : (leaveRange s lo hi).regs = s.regs := by rfl
@[simp] theorem leaveRange_out (s : State) (lo hi : Nat) : (leaveRange s lo hi).out = s.out := by rfl
@[simp] theorem leaveRange_pending (s : State) (lo hi : Nat) : (leaveRange s lo hi).pending = s.pending := by rfl
@[simp] theorem leaveRange_rings (s : State) (lo hi : Nat) : (leaveRange s lo hi).rings = s.rings := by rfl
@[simp] theorem leaveRange_pool (s : State) (lo hi : Nat) : (leaveRange s lo hi).pool = s.pool := by rfl
@[simp] theorem leaveRange_mgmt (s : State) (lo hi : Nat) : (leaveRange s lo hi).mgmt = s.mgmt := by rfl
@[simp] theorem leaveRange_coh (s : State) (lo hi : Nat) : (leaveRange s lo hi).coh = s.coh := by rfl
@[simp] theorem leaveRange_ord (s : State) (lo hi : Nat) : (leaveRange s lo hi).ord = s.ord := by rfl
@[simp] theorem leaveRange_obj (s : State) (lo hi : Nat) : (leaveRange s lo hi).obj = s.obj := by rfl
@[simp] theorem leaveRange_tier (s : State) (lo hi : Nat) : (leaveRange s lo hi).tier = s.tier := by rfl
@[simp] theorem leaveRange_cmp (s : State) (lo hi : Nat) : (leaveRange s lo hi).cmp = s.cmp := by rfl
@[simp] theorem leaveRange_stk (s : State) (lo hi : Nat) : (leaveRange s lo hi).stk = s.stk := by rfl
@[simp] theorem leaveRange_bau (s : State) (lo hi : Nat) : (leaveRange s lo hi).bau = s.bau := by rfl
@[simp] theorem leaveRange_trs (s : State) (lo hi : Nat) : (leaveRange s lo hi).trs = s.trs := by rfl
@[simp] theorem leaveRange_train (s : State) (lo hi : Nat) : (leaveRange s lo hi).train = s.train := by rfl
@[simp] theorem leaveRange_route (s : State) (lo hi : Nat) : (leaveRange s lo hi).route = s.route := by rfl
@[simp] theorem leaveRange_core (s : State) (lo hi : Nat) : (leaveRange s lo hi).core = s.core := by rfl
@[simp] theorem leaveRange_cong (s : State) (lo hi : Nat) : (leaveRange s lo hi).cong = s.cong := by rfl
@[simp] theorem leaveRange_link (s : State) (lo hi : Nat) : (leaveRange s lo hi).link = s.link := by rfl
@[simp] theorem leaveRange_ras (s : State) (lo hi : Nat) : (leaveRange s lo hi).ras = s.ras := by rfl
@[simp] theorem leaveRange_sys (s : State) (lo hi : Nat) : (leaveRange s lo hi).sys = s.sys := by rfl
@[simp] theorem leaveRange_settle (s : State) (lo hi : Nat) : (leaveRange s lo hi).settle = s.settle := by rfl
@[simp] theorem leaveRange_pwr (s : State) (lo hi : Nat) : (leaveRange s lo hi).pwr = s.pwr := by rfl

@[simp] theorem returnRemote_now (s : State) : (returnRemote s).now = s.now := by unfold returnRemote; refine foldl_keeps (fun t : State => t.now) _ (fun _ _ => ?_) _ _; (try dsimp only); (repeat' split); all_goals first | rfl | simp
@[simp] theorem returnRemote_draws (s : State) : (returnRemote s).draws = s.draws := by unfold returnRemote; refine foldl_keeps (fun t : State => t.draws) _ (fun _ _ => ?_) _ _; (try dsimp only); (repeat' split); all_goals first | rfl | simp
@[simp] theorem returnRemote_regs (s : State) : (returnRemote s).regs = s.regs := by unfold returnRemote; refine foldl_keeps (fun t : State => t.regs) _ (fun _ _ => ?_) _ _; (try dsimp only); (repeat' split); all_goals first | rfl | simp
@[simp] theorem returnRemote_pending (s : State) : (returnRemote s).pending = s.pending := by unfold returnRemote; refine foldl_keeps (fun t : State => t.pending) _ (fun _ _ => ?_) _ _; (try dsimp only); (repeat' split); all_goals first | rfl | simp
@[simp] theorem returnRemote_pool (s : State) : (returnRemote s).pool = s.pool := by unfold returnRemote; refine foldl_keeps (fun t : State => t.pool) _ (fun _ _ => ?_) _ _; (try dsimp only); (repeat' split); all_goals first | rfl | simp
@[simp] theorem returnRemote_mgmt (s : State) : (returnRemote s).mgmt = s.mgmt := by unfold returnRemote; refine foldl_keeps (fun t : State => t.mgmt) _ (fun _ _ => ?_) _ _; (try dsimp only); (repeat' split); all_goals first | rfl | simp
@[simp] theorem returnRemote_coh (s : State) : (returnRemote s).coh = s.coh := by unfold returnRemote; refine foldl_keeps (fun t : State => t.coh) _ (fun _ _ => ?_) _ _; (try dsimp only); (repeat' split); all_goals first | rfl | simp
@[simp] theorem returnRemote_ord (s : State) : (returnRemote s).ord = s.ord := by unfold returnRemote; refine foldl_keeps (fun t : State => t.ord) _ (fun _ _ => ?_) _ _; (try dsimp only); (repeat' split); all_goals first | rfl | simp
@[simp] theorem returnRemote_atm (s : State) : (returnRemote s).atm = s.atm := by unfold returnRemote; refine foldl_keeps (fun t : State => t.atm) _ (fun _ _ => ?_) _ _; (try dsimp only); (repeat' split); all_goals first | rfl | simp
@[simp] theorem returnRemote_obj (s : State) : (returnRemote s).obj = s.obj := by unfold returnRemote; refine foldl_keeps (fun t : State => t.obj) _ (fun _ _ => ?_) _ _; (try dsimp only); (repeat' split); all_goals first | rfl | simp
@[simp] theorem returnRemote_tier (s : State) : (returnRemote s).tier = s.tier := by unfold returnRemote; refine foldl_keeps (fun t : State => t.tier) _ (fun _ _ => ?_) _ _; (try dsimp only); (repeat' split); all_goals first | rfl | simp
@[simp] theorem returnRemote_cmp (s : State) : (returnRemote s).cmp = s.cmp := by unfold returnRemote; refine foldl_keeps (fun t : State => t.cmp) _ (fun _ _ => ?_) _ _; (try dsimp only); (repeat' split); all_goals first | rfl | simp
@[simp] theorem returnRemote_stk (s : State) : (returnRemote s).stk = s.stk := by unfold returnRemote; refine foldl_keeps (fun t : State => t.stk) _ (fun _ _ => ?_) _ _; (try dsimp only); (repeat' split); all_goals first | rfl | simp
@[simp] theorem returnRemote_bau (s : State) : (returnRemote s).bau = s.bau := by unfold returnRemote; refine foldl_keeps (fun t : State => t.bau) _ (fun _ _ => ?_) _ _; (try dsimp only); (repeat' split); all_goals first | rfl | simp
@[simp] theorem returnRemote_trs (s : State) : (returnRemote s).trs = s.trs := by unfold returnRemote; refine foldl_keeps (fun t : State => t.trs) _ (fun _ _ => ?_) _ _; (try dsimp only); (repeat' split); all_goals first | rfl | simp
@[simp] theorem returnRemote_train (s : State) : (returnRemote s).train = s.train := by unfold returnRemote; refine foldl_keeps (fun t : State => t.train) _ (fun _ _ => ?_) _ _; (try dsimp only); (repeat' split); all_goals first | rfl | simp
@[simp] theorem returnRemote_route (s : State) : (returnRemote s).route = s.route := by unfold returnRemote; refine foldl_keeps (fun t : State => t.route) _ (fun _ _ => ?_) _ _; (try dsimp only); (repeat' split); all_goals first | rfl | simp
@[simp] theorem returnRemote_core (s : State) : (returnRemote s).core = s.core := by unfold returnRemote; refine foldl_keeps (fun t : State => t.core) _ (fun _ _ => ?_) _ _; (try dsimp only); (repeat' split); all_goals first | rfl | simp
@[simp] theorem returnRemote_cong (s : State) : (returnRemote s).cong = s.cong := by unfold returnRemote; refine foldl_keeps (fun t : State => t.cong) _ (fun _ _ => ?_) _ _; (try dsimp only); (repeat' split); all_goals first | rfl | simp
@[simp] theorem returnRemote_link (s : State) : (returnRemote s).link = s.link := by unfold returnRemote; refine foldl_keeps (fun t : State => t.link) _ (fun _ _ => ?_) _ _; (try dsimp only); (repeat' split); all_goals first | rfl | simp
@[simp] theorem returnRemote_ras (s : State) : (returnRemote s).ras = s.ras := by unfold returnRemote; refine foldl_keeps (fun t : State => t.ras) _ (fun _ _ => ?_) _ _; (try dsimp only); (repeat' split); all_goals first | rfl | simp
@[simp] theorem returnRemote_sys (s : State) : (returnRemote s).sys = s.sys := by unfold returnRemote; refine foldl_keeps (fun t : State => t.sys) _ (fun _ _ => ?_) _ _; (try dsimp only); (repeat' split); all_goals first | rfl | simp
@[simp] theorem returnRemote_settle (s : State) : (returnRemote s).settle = s.settle := by unfold returnRemote; refine foldl_keeps (fun t : State => t.settle) _ (fun _ _ => ?_) _ _; (try dsimp only); (repeat' split); all_goals first | rfl | simp
@[simp] theorem returnRemote_pwr (s : State) : (returnRemote s).pwr = s.pwr := by unfold returnRemote; refine foldl_keeps (fun t : State => t.pwr) _ (fun _ _ => ?_) _ _; (try dsimp only); (repeat' split); all_goals first | rfl | simp

@[simp] theorem forwardReady_now (s : State) : (forwardReady s).now = s.now := by unfold forwardReady; refine foldl_keeps (fun t : State => t.now) _ (fun _ _ => ?_) _ _; (try dsimp only); (repeat' split); all_goals first | rfl | simp
@[simp] theorem forwardReady_draws (s : State) : (forwardReady s).draws = s.draws := by unfold forwardReady; refine foldl_keeps (fun t : State => t.draws) _ (fun _ _ => ?_) _ _; (try dsimp only); (repeat' split); all_goals first | rfl | simp
@[simp] theorem forwardReady_regs (s : State) : (forwardReady s).regs = s.regs := by unfold forwardReady; refine foldl_keeps (fun t : State => t.regs) _ (fun _ _ => ?_) _ _; (try dsimp only); (repeat' split); all_goals first | rfl | simp
@[simp] theorem forwardReady_pending (s : State) : (forwardReady s).pending = s.pending := by unfold forwardReady; refine foldl_keeps (fun t : State => t.pending) _ (fun _ _ => ?_) _ _; (try dsimp only); (repeat' split); all_goals first | rfl | simp
@[simp] theorem forwardReady_pool (s : State) : (forwardReady s).pool = s.pool := by unfold forwardReady; refine foldl_keeps (fun t : State => t.pool) _ (fun _ _ => ?_) _ _; (try dsimp only); (repeat' split); all_goals first | rfl | simp
@[simp] theorem forwardReady_mgmt (s : State) : (forwardReady s).mgmt = s.mgmt := by unfold forwardReady; refine foldl_keeps (fun t : State => t.mgmt) _ (fun _ _ => ?_) _ _; (try dsimp only); (repeat' split); all_goals first | rfl | simp
@[simp] theorem forwardReady_coh (s : State) : (forwardReady s).coh = s.coh := by unfold forwardReady; refine foldl_keeps (fun t : State => t.coh) _ (fun _ _ => ?_) _ _; (try dsimp only); (repeat' split); all_goals first | rfl | simp
@[simp] theorem forwardReady_ord (s : State) : (forwardReady s).ord = s.ord := by unfold forwardReady; refine foldl_keeps (fun t : State => t.ord) _ (fun _ _ => ?_) _ _; (try dsimp only); (repeat' split); all_goals first | rfl | simp
@[simp] theorem forwardReady_atm (s : State) : (forwardReady s).atm = s.atm := by unfold forwardReady; refine foldl_keeps (fun t : State => t.atm) _ (fun _ _ => ?_) _ _; (try dsimp only); (repeat' split); all_goals first | rfl | simp
@[simp] theorem forwardReady_obj (s : State) : (forwardReady s).obj = s.obj := by unfold forwardReady; refine foldl_keeps (fun t : State => t.obj) _ (fun _ _ => ?_) _ _; (try dsimp only); (repeat' split); all_goals first | rfl | simp
@[simp] theorem forwardReady_tier (s : State) : (forwardReady s).tier = s.tier := by unfold forwardReady; refine foldl_keeps (fun t : State => t.tier) _ (fun _ _ => ?_) _ _; (try dsimp only); (repeat' split); all_goals first | rfl | simp
@[simp] theorem forwardReady_cmp (s : State) : (forwardReady s).cmp = s.cmp := by unfold forwardReady; refine foldl_keeps (fun t : State => t.cmp) _ (fun _ _ => ?_) _ _; (try dsimp only); (repeat' split); all_goals first | rfl | simp
@[simp] theorem forwardReady_stk (s : State) : (forwardReady s).stk = s.stk := by unfold forwardReady; refine foldl_keeps (fun t : State => t.stk) _ (fun _ _ => ?_) _ _; (try dsimp only); (repeat' split); all_goals first | rfl | simp
@[simp] theorem forwardReady_bau (s : State) : (forwardReady s).bau = s.bau := by unfold forwardReady; refine foldl_keeps (fun t : State => t.bau) _ (fun _ _ => ?_) _ _; (try dsimp only); (repeat' split); all_goals first | rfl | simp
@[simp] theorem forwardReady_trs (s : State) : (forwardReady s).trs = s.trs := by unfold forwardReady; refine foldl_keeps (fun t : State => t.trs) _ (fun _ _ => ?_) _ _; (try dsimp only); (repeat' split); all_goals first | rfl | simp
@[simp] theorem forwardReady_train (s : State) : (forwardReady s).train = s.train := by unfold forwardReady; refine foldl_keeps (fun t : State => t.train) _ (fun _ _ => ?_) _ _; (try dsimp only); (repeat' split); all_goals first | rfl | simp
@[simp] theorem forwardReady_route (s : State) : (forwardReady s).route = s.route := by unfold forwardReady; refine foldl_keeps (fun t : State => t.route) _ (fun _ _ => ?_) _ _; (try dsimp only); (repeat' split); all_goals first | rfl | simp
@[simp] theorem forwardReady_core (s : State) : (forwardReady s).core = s.core := by unfold forwardReady; refine foldl_keeps (fun t : State => t.core) _ (fun _ _ => ?_) _ _; (try dsimp only); (repeat' split); all_goals first | rfl | simp
@[simp] theorem forwardReady_cong (s : State) : (forwardReady s).cong = s.cong := by unfold forwardReady; refine foldl_keeps (fun t : State => t.cong) _ (fun _ _ => ?_) _ _; (try dsimp only); (repeat' split); all_goals first | rfl | simp
@[simp] theorem forwardReady_link (s : State) : (forwardReady s).link = s.link := by unfold forwardReady; refine foldl_keeps (fun t : State => t.link) _ (fun _ _ => ?_) _ _; (try dsimp only); (repeat' split); all_goals first | rfl | simp
@[simp] theorem forwardReady_ras (s : State) : (forwardReady s).ras = s.ras := by unfold forwardReady; refine foldl_keeps (fun t : State => t.ras) _ (fun _ _ => ?_) _ _; (try dsimp only); (repeat' split); all_goals first | rfl | simp
@[simp] theorem forwardReady_sys (s : State) : (forwardReady s).sys = s.sys := by unfold forwardReady; refine foldl_keeps (fun t : State => t.sys) _ (fun _ _ => ?_) _ _; (try dsimp only); (repeat' split); all_goals first | rfl | simp
@[simp] theorem forwardReady_settle (s : State) : (forwardReady s).settle = s.settle := by unfold forwardReady; refine foldl_keeps (fun t : State => t.settle) _ (fun _ _ => ?_) _ _; (try dsimp only); (repeat' split); all_goals first | rfl | simp
@[simp] theorem forwardReady_pwr (s : State) : (forwardReady s).pwr = s.pwr := by unfold forwardReady; refine foldl_keeps (fun t : State => t.pwr) _ (fun _ _ => ?_) _ _; (try dsimp only); (repeat' split); all_goals first | rfl | simp

@[simp] theorem markStarted_now (s : State) (h : Nat) : (markStarted s h).now = s.now := by rw [markStarted, forwardReady_now]
@[simp] theorem markStarted_draws (s : State) (h : Nat) : (markStarted s h).draws = s.draws := by rw [markStarted, forwardReady_draws]
@[simp] theorem markStarted_regs (s : State) (h : Nat) : (markStarted s h).regs = s.regs := by rw [markStarted, forwardReady_regs]
@[simp] theorem markStarted_pending (s : State) (h : Nat) : (markStarted s h).pending = s.pending := by rw [markStarted, forwardReady_pending]
@[simp] theorem markStarted_pool (s : State) (h : Nat) : (markStarted s h).pool = s.pool := by rw [markStarted, forwardReady_pool]
@[simp] theorem markStarted_mgmt (s : State) (h : Nat) : (markStarted s h).mgmt = s.mgmt := by rw [markStarted, forwardReady_mgmt]
@[simp] theorem markStarted_coh (s : State) (h : Nat) : (markStarted s h).coh = s.coh := by rw [markStarted, forwardReady_coh]
@[simp] theorem markStarted_ord (s : State) (h : Nat) : (markStarted s h).ord = s.ord := by rw [markStarted, forwardReady_ord]
@[simp] theorem markStarted_atm (s : State) (h : Nat) : (markStarted s h).atm = s.atm := by rw [markStarted, forwardReady_atm]
@[simp] theorem markStarted_obj (s : State) (h : Nat) : (markStarted s h).obj = s.obj := by rw [markStarted, forwardReady_obj]
@[simp] theorem markStarted_tier (s : State) (h : Nat) : (markStarted s h).tier = s.tier := by rw [markStarted, forwardReady_tier]
@[simp] theorem markStarted_cmp (s : State) (h : Nat) : (markStarted s h).cmp = s.cmp := by rw [markStarted, forwardReady_cmp]
@[simp] theorem markStarted_stk (s : State) (h : Nat) : (markStarted s h).stk = s.stk := by rw [markStarted, forwardReady_stk]
@[simp] theorem markStarted_bau (s : State) (h : Nat) : (markStarted s h).bau = s.bau := by rw [markStarted, forwardReady_bau]
@[simp] theorem markStarted_trs (s : State) (h : Nat) : (markStarted s h).trs = s.trs := by rw [markStarted, forwardReady_trs]
@[simp] theorem markStarted_train (s : State) (h : Nat) : (markStarted s h).train = s.train := by rw [markStarted, forwardReady_train]
@[simp] theorem markStarted_route (s : State) (h : Nat) : (markStarted s h).route = s.route := by rw [markStarted, forwardReady_route]
@[simp] theorem markStarted_core (s : State) (h : Nat) : (markStarted s h).core = s.core := by rw [markStarted, forwardReady_core]
@[simp] theorem markStarted_cong (s : State) (h : Nat) : (markStarted s h).cong = s.cong := by rw [markStarted, forwardReady_cong]
@[simp] theorem markStarted_link (s : State) (h : Nat) : (markStarted s h).link = s.link := by rw [markStarted, forwardReady_link]
@[simp] theorem markStarted_ras (s : State) (h : Nat) : (markStarted s h).ras = s.ras := by rw [markStarted, forwardReady_ras]
@[simp] theorem markStarted_sys (s : State) (h : Nat) : (markStarted s h).sys = s.sys := by rw [markStarted, forwardReady_sys]
@[simp] theorem markStarted_settle (s : State) (h : Nat) : (markStarted s h).settle = s.settle := by rw [markStarted, forwardReady_settle]
@[simp] theorem markStarted_pwr (s : State) (h : Nat) : (markStarted s h).pwr = s.pwr := by rw [markStarted, forwardReady_pwr]

@[simp] theorem fillRecord_now (s : State) (h : Nat) (st : Status) (a b : Word) : (fillRecord s h st a b).now = s.now := by unfold fillRecord; cases handleOf s h <;> (try dsimp only) <;> (repeat' split) <;> first | rfl | (simp only [returnRemote_now]; rfl)
@[simp] theorem fillRecord_draws (s : State) (h : Nat) (st : Status) (a b : Word) : (fillRecord s h st a b).draws = s.draws := by unfold fillRecord; cases handleOf s h <;> (try dsimp only) <;> (repeat' split) <;> first | rfl | (simp only [returnRemote_draws]; rfl)
@[simp] theorem fillRecord_pending (s : State) (h : Nat) (st : Status) (a b : Word) : (fillRecord s h st a b).pending = s.pending := by unfold fillRecord; cases handleOf s h <;> (try dsimp only) <;> (repeat' split) <;> first | rfl | (simp only [returnRemote_pending]; rfl)
@[simp] theorem fillRecord_pool (s : State) (h : Nat) (st : Status) (a b : Word) : (fillRecord s h st a b).pool = s.pool := by unfold fillRecord; cases handleOf s h <;> (try dsimp only) <;> (repeat' split) <;> first | rfl | (simp only [returnRemote_pool]; rfl)
@[simp] theorem fillRecord_mgmt (s : State) (h : Nat) (st : Status) (a b : Word) : (fillRecord s h st a b).mgmt = s.mgmt := by unfold fillRecord; cases handleOf s h <;> (try dsimp only) <;> (repeat' split) <;> first | rfl | (simp only [returnRemote_mgmt]; rfl)
@[simp] theorem fillRecord_coh (s : State) (h : Nat) (st : Status) (a b : Word) : (fillRecord s h st a b).coh = s.coh := by unfold fillRecord; cases handleOf s h <;> (try dsimp only) <;> (repeat' split) <;> first | rfl | (simp only [returnRemote_coh]; rfl)
@[simp] theorem fillRecord_ord (s : State) (h : Nat) (st : Status) (a b : Word) : (fillRecord s h st a b).ord = s.ord := by unfold fillRecord; cases handleOf s h <;> (try dsimp only) <;> (repeat' split) <;> first | rfl | (simp only [returnRemote_ord]; rfl)
@[simp] theorem fillRecord_atm (s : State) (h : Nat) (st : Status) (a b : Word) : (fillRecord s h st a b).atm = s.atm := by unfold fillRecord; cases handleOf s h <;> (try dsimp only) <;> (repeat' split) <;> first | rfl | (simp only [returnRemote_atm]; rfl)
@[simp] theorem fillRecord_obj (s : State) (h : Nat) (st : Status) (a b : Word) : (fillRecord s h st a b).obj = s.obj := by unfold fillRecord; cases handleOf s h <;> (try dsimp only) <;> (repeat' split) <;> first | rfl | (simp only [returnRemote_obj]; rfl)
@[simp] theorem fillRecord_tier (s : State) (h : Nat) (st : Status) (a b : Word) : (fillRecord s h st a b).tier = s.tier := by unfold fillRecord; cases handleOf s h <;> (try dsimp only) <;> (repeat' split) <;> first | rfl | (simp only [returnRemote_tier]; rfl)
@[simp] theorem fillRecord_cmp (s : State) (h : Nat) (st : Status) (a b : Word) : (fillRecord s h st a b).cmp = s.cmp := by unfold fillRecord; cases handleOf s h <;> (try dsimp only) <;> (repeat' split) <;> first | rfl | (simp only [returnRemote_cmp]; rfl)
@[simp] theorem fillRecord_stk (s : State) (h : Nat) (st : Status) (a b : Word) : (fillRecord s h st a b).stk = s.stk := by unfold fillRecord; cases handleOf s h <;> (try dsimp only) <;> (repeat' split) <;> first | rfl | (simp only [returnRemote_stk]; rfl)
@[simp] theorem fillRecord_bau (s : State) (h : Nat) (st : Status) (a b : Word) : (fillRecord s h st a b).bau = s.bau := by unfold fillRecord; cases handleOf s h <;> (try dsimp only) <;> (repeat' split) <;> first | rfl | (simp only [returnRemote_bau]; rfl)
@[simp] theorem fillRecord_trs (s : State) (h : Nat) (st : Status) (a b : Word) : (fillRecord s h st a b).trs = s.trs := by unfold fillRecord; cases handleOf s h <;> (try dsimp only) <;> (repeat' split) <;> first | rfl | (simp only [returnRemote_trs]; rfl)
@[simp] theorem fillRecord_train (s : State) (h : Nat) (st : Status) (a b : Word) : (fillRecord s h st a b).train = s.train := by unfold fillRecord; cases handleOf s h <;> (try dsimp only) <;> (repeat' split) <;> first | rfl | (simp only [returnRemote_train]; rfl)
@[simp] theorem fillRecord_route (s : State) (h : Nat) (st : Status) (a b : Word) : (fillRecord s h st a b).route = s.route := by unfold fillRecord; cases handleOf s h <;> (try dsimp only) <;> (repeat' split) <;> first | rfl | (simp only [returnRemote_route]; rfl)
@[simp] theorem fillRecord_core (s : State) (h : Nat) (st : Status) (a b : Word) : (fillRecord s h st a b).core = s.core := by unfold fillRecord; cases handleOf s h <;> (try dsimp only) <;> (repeat' split) <;> first | rfl | (simp only [returnRemote_core]; rfl)
@[simp] theorem fillRecord_cong (s : State) (h : Nat) (st : Status) (a b : Word) : (fillRecord s h st a b).cong = s.cong := by unfold fillRecord; cases handleOf s h <;> (try dsimp only) <;> (repeat' split) <;> first | rfl | (simp only [returnRemote_cong]; rfl)
@[simp] theorem fillRecord_link (s : State) (h : Nat) (st : Status) (a b : Word) : (fillRecord s h st a b).link = s.link := by unfold fillRecord; cases handleOf s h <;> (try dsimp only) <;> (repeat' split) <;> first | rfl | (simp only [returnRemote_link]; rfl)
@[simp] theorem fillRecord_ras (s : State) (h : Nat) (st : Status) (a b : Word) : (fillRecord s h st a b).ras = s.ras := by unfold fillRecord; cases handleOf s h <;> (try dsimp only) <;> (repeat' split) <;> first | rfl | (simp only [returnRemote_ras]; rfl)
@[simp] theorem fillRecord_sys (s : State) (h : Nat) (st : Status) (a b : Word) : (fillRecord s h st a b).sys = s.sys := by unfold fillRecord; cases handleOf s h <;> (try dsimp only) <;> (repeat' split) <;> first | rfl | (simp only [returnRemote_sys]; rfl)
@[simp] theorem fillRecord_settle (s : State) (h : Nat) (st : Status) (a b : Word) : (fillRecord s h st a b).settle = s.settle := by unfold fillRecord; cases handleOf s h <;> (try dsimp only) <;> (repeat' split) <;> first | rfl | (simp only [returnRemote_settle]; rfl)
@[simp] theorem fillRecord_pwr (s : State) (h : Nat) (st : Status) (a b : Word) : (fillRecord s h st a b).pwr = s.pwr := by unfold fillRecord; cases handleOf s h <;> (try dsimp only) <;> (repeat' split) <;> first | rfl | (simp only [returnRemote_pwr]; rfl)

@[simp] theorem countDone_now (s : State) (r : HandleRec) : (countDone s r).now = s.now := by unfold countDone; dsimp only; (repeat' split) <;> first | rfl | simp
@[simp] theorem countDone_draws (s : State) (r : HandleRec) : (countDone s r).draws = s.draws := by unfold countDone; dsimp only; (repeat' split) <;> first | rfl | simp
@[simp] theorem countDone_pending (s : State) (r : HandleRec) : (countDone s r).pending = s.pending := by unfold countDone; dsimp only; (repeat' split) <;> first | rfl | simp
@[simp] theorem countDone_pool (s : State) (r : HandleRec) : (countDone s r).pool = s.pool := by unfold countDone; dsimp only; (repeat' split) <;> first | rfl | simp
@[simp] theorem countDone_mgmt (s : State) (r : HandleRec) : (countDone s r).mgmt = s.mgmt := by unfold countDone; dsimp only; (repeat' split) <;> first | rfl | simp
@[simp] theorem countDone_coh (s : State) (r : HandleRec) : (countDone s r).coh = s.coh := by unfold countDone; dsimp only; (repeat' split) <;> first | rfl | simp
@[simp] theorem countDone_ord (s : State) (r : HandleRec) : (countDone s r).ord = s.ord := by unfold countDone; dsimp only; (repeat' split) <;> first | rfl | simp
@[simp] theorem countDone_atm (s : State) (r : HandleRec) : (countDone s r).atm = s.atm := by unfold countDone; dsimp only; (repeat' split) <;> first | rfl | simp
@[simp] theorem countDone_obj (s : State) (r : HandleRec) : (countDone s r).obj = s.obj := by unfold countDone; dsimp only; (repeat' split) <;> first | rfl | simp
@[simp] theorem countDone_tier (s : State) (r : HandleRec) : (countDone s r).tier = s.tier := by unfold countDone; dsimp only; (repeat' split) <;> first | rfl | simp
@[simp] theorem countDone_cmp (s : State) (r : HandleRec) : (countDone s r).cmp = s.cmp := by unfold countDone; dsimp only; (repeat' split) <;> first | rfl | simp
@[simp] theorem countDone_stk (s : State) (r : HandleRec) : (countDone s r).stk = s.stk := by unfold countDone; dsimp only; (repeat' split) <;> first | rfl | simp
@[simp] theorem countDone_bau (s : State) (r : HandleRec) : (countDone s r).bau = s.bau := by unfold countDone; dsimp only; (repeat' split) <;> first | rfl | simp
@[simp] theorem countDone_trs (s : State) (r : HandleRec) : (countDone s r).trs = s.trs := by unfold countDone; dsimp only; (repeat' split) <;> first | rfl | simp
@[simp] theorem countDone_train (s : State) (r : HandleRec) : (countDone s r).train = s.train := by unfold countDone; dsimp only; (repeat' split) <;> first | rfl | simp
@[simp] theorem countDone_route (s : State) (r : HandleRec) : (countDone s r).route = s.route := by unfold countDone; dsimp only; (repeat' split) <;> first | rfl | simp
@[simp] theorem countDone_core (s : State) (r : HandleRec) : (countDone s r).core = s.core := by unfold countDone; dsimp only; (repeat' split) <;> first | rfl | simp
@[simp] theorem countDone_cong (s : State) (r : HandleRec) : (countDone s r).cong = s.cong := by unfold countDone; dsimp only; (repeat' split) <;> first | rfl | simp
@[simp] theorem countDone_link (s : State) (r : HandleRec) : (countDone s r).link = s.link := by unfold countDone; dsimp only; (repeat' split) <;> first | rfl | simp
@[simp] theorem countDone_ras (s : State) (r : HandleRec) : (countDone s r).ras = s.ras := by unfold countDone; dsimp only; (repeat' split) <;> first | rfl | simp
@[simp] theorem countDone_sys (s : State) (r : HandleRec) : (countDone s r).sys = s.sys := by unfold countDone; dsimp only; (repeat' split) <;> first | rfl | simp
@[simp] theorem countDone_settle (s : State) (r : HandleRec) : (countDone s r).settle = s.settle := by unfold countDone; dsimp only; (repeat' split) <;> first | rfl | simp
@[simp] theorem countDone_pwr (s : State) (r : HandleRec) : (countDone s r).pwr = s.pwr := by unfold countDone; dsimp only; (repeat' split) <;> first | rfl | simp

@[simp] theorem commitWith_now (s : State) (h : Nat) (r : Bool) (st : Status) (a b : Word) : (commitWith s h r st a b).now = s.now := by unfold commitWith; cases handleOf s h <;> (try dsimp only) <;> (repeat' split) <;> first | rfl | simp
@[simp] theorem commitWith_draws (s : State) (h : Nat) (r : Bool) (st : Status) (a b : Word) : (commitWith s h r st a b).draws = s.draws := by unfold commitWith; cases handleOf s h <;> (try dsimp only) <;> (repeat' split) <;> first | rfl | simp
@[simp] theorem commitWith_pending (s : State) (h : Nat) (r : Bool) (st : Status) (a b : Word) : (commitWith s h r st a b).pending = s.pending := by unfold commitWith; cases handleOf s h <;> (try dsimp only) <;> (repeat' split) <;> first | rfl | simp
@[simp] theorem commitWith_pool (s : State) (h : Nat) (r : Bool) (st : Status) (a b : Word) : (commitWith s h r st a b).pool = s.pool := by unfold commitWith; cases handleOf s h <;> (try dsimp only) <;> (repeat' split) <;> first | rfl | simp
@[simp] theorem commitWith_mgmt (s : State) (h : Nat) (r : Bool) (st : Status) (a b : Word) : (commitWith s h r st a b).mgmt = s.mgmt := by unfold commitWith; cases handleOf s h <;> (try dsimp only) <;> (repeat' split) <;> first | rfl | simp
@[simp] theorem commitWith_coh (s : State) (h : Nat) (r : Bool) (st : Status) (a b : Word) : (commitWith s h r st a b).coh = s.coh := by unfold commitWith; cases handleOf s h <;> (try dsimp only) <;> (repeat' split) <;> first | rfl | simp
@[simp] theorem commitWith_ord (s : State) (h : Nat) (r : Bool) (st : Status) (a b : Word) : (commitWith s h r st a b).ord = s.ord := by unfold commitWith; cases handleOf s h <;> (try dsimp only) <;> (repeat' split) <;> first | rfl | simp
@[simp] theorem commitWith_atm (s : State) (h : Nat) (r : Bool) (st : Status) (a b : Word) : (commitWith s h r st a b).atm = s.atm := by unfold commitWith; cases handleOf s h <;> (try dsimp only) <;> (repeat' split) <;> first | rfl | simp
@[simp] theorem commitWith_obj (s : State) (h : Nat) (r : Bool) (st : Status) (a b : Word) : (commitWith s h r st a b).obj = s.obj := by unfold commitWith; cases handleOf s h <;> (try dsimp only) <;> (repeat' split) <;> first | rfl | simp
@[simp] theorem commitWith_tier (s : State) (h : Nat) (r : Bool) (st : Status) (a b : Word) : (commitWith s h r st a b).tier = s.tier := by unfold commitWith; cases handleOf s h <;> (try dsimp only) <;> (repeat' split) <;> first | rfl | simp
@[simp] theorem commitWith_cmp (s : State) (h : Nat) (r : Bool) (st : Status) (a b : Word) : (commitWith s h r st a b).cmp = s.cmp := by unfold commitWith; cases handleOf s h <;> (try dsimp only) <;> (repeat' split) <;> first | rfl | simp
@[simp] theorem commitWith_stk (s : State) (h : Nat) (r : Bool) (st : Status) (a b : Word) : (commitWith s h r st a b).stk = s.stk := by unfold commitWith; cases handleOf s h <;> (try dsimp only) <;> (repeat' split) <;> first | rfl | simp
@[simp] theorem commitWith_bau (s : State) (h : Nat) (r : Bool) (st : Status) (a b : Word) : (commitWith s h r st a b).bau = s.bau := by unfold commitWith; cases handleOf s h <;> (try dsimp only) <;> (repeat' split) <;> first | rfl | simp
@[simp] theorem commitWith_trs (s : State) (h : Nat) (r : Bool) (st : Status) (a b : Word) : (commitWith s h r st a b).trs = s.trs := by unfold commitWith; cases handleOf s h <;> (try dsimp only) <;> (repeat' split) <;> first | rfl | simp
@[simp] theorem commitWith_train (s : State) (h : Nat) (r : Bool) (st : Status) (a b : Word) : (commitWith s h r st a b).train = s.train := by unfold commitWith; cases handleOf s h <;> (try dsimp only) <;> (repeat' split) <;> first | rfl | simp
@[simp] theorem commitWith_route (s : State) (h : Nat) (r : Bool) (st : Status) (a b : Word) : (commitWith s h r st a b).route = s.route := by unfold commitWith; cases handleOf s h <;> (try dsimp only) <;> (repeat' split) <;> first | rfl | simp
@[simp] theorem commitWith_core (s : State) (h : Nat) (r : Bool) (st : Status) (a b : Word) : (commitWith s h r st a b).core = s.core := by unfold commitWith; cases handleOf s h <;> (try dsimp only) <;> (repeat' split) <;> first | rfl | simp
@[simp] theorem commitWith_cong (s : State) (h : Nat) (r : Bool) (st : Status) (a b : Word) : (commitWith s h r st a b).cong = s.cong := by unfold commitWith; cases handleOf s h <;> (try dsimp only) <;> (repeat' split) <;> first | rfl | simp
@[simp] theorem commitWith_link (s : State) (h : Nat) (r : Bool) (st : Status) (a b : Word) : (commitWith s h r st a b).link = s.link := by unfold commitWith; cases handleOf s h <;> (try dsimp only) <;> (repeat' split) <;> first | rfl | simp
@[simp] theorem commitWith_ras (s : State) (h : Nat) (r : Bool) (st : Status) (a b : Word) : (commitWith s h r st a b).ras = s.ras := by unfold commitWith; cases handleOf s h <;> (try dsimp only) <;> (repeat' split) <;> first | rfl | simp
@[simp] theorem commitWith_sys (s : State) (h : Nat) (r : Bool) (st : Status) (a b : Word) : (commitWith s h r st a b).sys = s.sys := by unfold commitWith; cases handleOf s h <;> (try dsimp only) <;> (repeat' split) <;> first | rfl | simp
@[simp] theorem commitWith_settle (s : State) (h : Nat) (r : Bool) (st : Status) (a b : Word) : (commitWith s h r st a b).settle = s.settle := by unfold commitWith; cases handleOf s h <;> (try dsimp only) <;> (repeat' split) <;> first | rfl | simp
@[simp] theorem commitWith_pwr (s : State) (h : Nat) (r : Bool) (st : Status) (a b : Word) : (commitWith s h r st a b).pwr = s.pwr := by unfold commitWith; cases handleOf s h <;> (try dsimp only) <;> (repeat' split) <;> first | rfl | simp

@[simp] theorem commit_now (s : State) (h : Nat) (st : Status) (a b : Word) : (commit s h st a b).now = s.now := by exact commitWith_now ..
@[simp] theorem commit_draws (s : State) (h : Nat) (st : Status) (a b : Word) : (commit s h st a b).draws = s.draws := by exact commitWith_draws ..
@[simp] theorem commit_pending (s : State) (h : Nat) (st : Status) (a b : Word) : (commit s h st a b).pending = s.pending := by exact commitWith_pending ..
@[simp] theorem commit_pool (s : State) (h : Nat) (st : Status) (a b : Word) : (commit s h st a b).pool = s.pool := by exact commitWith_pool ..
@[simp] theorem commit_mgmt (s : State) (h : Nat) (st : Status) (a b : Word) : (commit s h st a b).mgmt = s.mgmt := by exact commitWith_mgmt ..
@[simp] theorem commit_coh (s : State) (h : Nat) (st : Status) (a b : Word) : (commit s h st a b).coh = s.coh := by exact commitWith_coh ..
@[simp] theorem commit_ord (s : State) (h : Nat) (st : Status) (a b : Word) : (commit s h st a b).ord = s.ord := by exact commitWith_ord ..
@[simp] theorem commit_atm (s : State) (h : Nat) (st : Status) (a b : Word) : (commit s h st a b).atm = s.atm := by exact commitWith_atm ..
@[simp] theorem commit_obj (s : State) (h : Nat) (st : Status) (a b : Word) : (commit s h st a b).obj = s.obj := by exact commitWith_obj ..
@[simp] theorem commit_tier (s : State) (h : Nat) (st : Status) (a b : Word) : (commit s h st a b).tier = s.tier := by exact commitWith_tier ..
@[simp] theorem commit_cmp (s : State) (h : Nat) (st : Status) (a b : Word) : (commit s h st a b).cmp = s.cmp := by exact commitWith_cmp ..
@[simp] theorem commit_stk (s : State) (h : Nat) (st : Status) (a b : Word) : (commit s h st a b).stk = s.stk := by exact commitWith_stk ..
@[simp] theorem commit_bau (s : State) (h : Nat) (st : Status) (a b : Word) : (commit s h st a b).bau = s.bau := by exact commitWith_bau ..
@[simp] theorem commit_trs (s : State) (h : Nat) (st : Status) (a b : Word) : (commit s h st a b).trs = s.trs := by exact commitWith_trs ..
@[simp] theorem commit_train (s : State) (h : Nat) (st : Status) (a b : Word) : (commit s h st a b).train = s.train := by exact commitWith_train ..
@[simp] theorem commit_route (s : State) (h : Nat) (st : Status) (a b : Word) : (commit s h st a b).route = s.route := by exact commitWith_route ..
@[simp] theorem commit_core (s : State) (h : Nat) (st : Status) (a b : Word) : (commit s h st a b).core = s.core := by exact commitWith_core ..
@[simp] theorem commit_cong (s : State) (h : Nat) (st : Status) (a b : Word) : (commit s h st a b).cong = s.cong := by exact commitWith_cong ..
@[simp] theorem commit_link (s : State) (h : Nat) (st : Status) (a b : Word) : (commit s h st a b).link = s.link := by exact commitWith_link ..
@[simp] theorem commit_ras (s : State) (h : Nat) (st : Status) (a b : Word) : (commit s h st a b).ras = s.ras := by exact commitWith_ras ..
@[simp] theorem commit_sys (s : State) (h : Nat) (st : Status) (a b : Word) : (commit s h st a b).sys = s.sys := by exact commitWith_sys ..
@[simp] theorem commit_settle (s : State) (h : Nat) (st : Status) (a b : Word) : (commit s h st a b).settle = s.settle := by exact commitWith_settle ..
@[simp] theorem commit_pwr (s : State) (h : Nat) (st : Status) (a b : Word) : (commit s h st a b).pwr = s.pwr := by exact commitWith_pwr ..

@[simp] theorem badDesc_now (s : State) (h o : Nat) : (badDesc s h o).now = s.now := by exact commit_now ..
@[simp] theorem badDesc_draws (s : State) (h o : Nat) : (badDesc s h o).draws = s.draws := by exact commit_draws ..
@[simp] theorem badDesc_pending (s : State) (h o : Nat) : (badDesc s h o).pending = s.pending := by exact commit_pending ..
@[simp] theorem badDesc_pool (s : State) (h o : Nat) : (badDesc s h o).pool = s.pool := by exact commit_pool ..
@[simp] theorem badDesc_mgmt (s : State) (h o : Nat) : (badDesc s h o).mgmt = s.mgmt := by exact commit_mgmt ..
@[simp] theorem badDesc_coh (s : State) (h o : Nat) : (badDesc s h o).coh = s.coh := by exact commit_coh ..
@[simp] theorem badDesc_ord (s : State) (h o : Nat) : (badDesc s h o).ord = s.ord := by exact commit_ord ..
@[simp] theorem badDesc_atm (s : State) (h o : Nat) : (badDesc s h o).atm = s.atm := by exact commit_atm ..
@[simp] theorem badDesc_obj (s : State) (h o : Nat) : (badDesc s h o).obj = s.obj := by exact commit_obj ..
@[simp] theorem badDesc_tier (s : State) (h o : Nat) : (badDesc s h o).tier = s.tier := by exact commit_tier ..
@[simp] theorem badDesc_cmp (s : State) (h o : Nat) : (badDesc s h o).cmp = s.cmp := by exact commit_cmp ..
@[simp] theorem badDesc_stk (s : State) (h o : Nat) : (badDesc s h o).stk = s.stk := by exact commit_stk ..
@[simp] theorem badDesc_bau (s : State) (h o : Nat) : (badDesc s h o).bau = s.bau := by exact commit_bau ..
@[simp] theorem badDesc_trs (s : State) (h o : Nat) : (badDesc s h o).trs = s.trs := by exact commit_trs ..
@[simp] theorem badDesc_train (s : State) (h o : Nat) : (badDesc s h o).train = s.train := by exact commit_train ..
@[simp] theorem badDesc_route (s : State) (h o : Nat) : (badDesc s h o).route = s.route := by exact commit_route ..
@[simp] theorem badDesc_core (s : State) (h o : Nat) : (badDesc s h o).core = s.core := by exact commit_core ..
@[simp] theorem badDesc_cong (s : State) (h o : Nat) : (badDesc s h o).cong = s.cong := by exact commit_cong ..
@[simp] theorem badDesc_link (s : State) (h o : Nat) : (badDesc s h o).link = s.link := by exact commit_link ..
@[simp] theorem badDesc_ras (s : State) (h o : Nat) : (badDesc s h o).ras = s.ras := by exact commit_ras ..
@[simp] theorem badDesc_sys (s : State) (h o : Nat) : (badDesc s h o).sys = s.sys := by exact commit_sys ..
@[simp] theorem badDesc_settle (s : State) (h o : Nat) : (badDesc s h o).settle = s.settle := by exact commit_settle ..
@[simp] theorem badDesc_pwr (s : State) (h o : Nat) : (badDesc s h o).pwr = s.pwr := by exact commit_pwr ..


@[simp] theorem haltRing_now (s : State) (n c : Nat) : (haltRing s n c).now = s.now := by unfold haltRing; (try dsimp only); split <;> rfl
@[simp] theorem haltRing_draws (s : State) (n c : Nat) : (haltRing s n c).draws = s.draws := by unfold haltRing; (try dsimp only); split <;> rfl
@[simp] theorem haltRing_regs (s : State) (n c : Nat) : (haltRing s n c).regs = s.regs := by unfold haltRing; (try dsimp only); split <;> rfl
@[simp] theorem haltRing_out (s : State) (n c : Nat) : (haltRing s n c).out = s.out := by unfold haltRing; (try dsimp only); split <;> rfl
@[simp] theorem haltRing_pending (s : State) (n c : Nat) : (haltRing s n c).pending = s.pending := by unfold haltRing; (try dsimp only); split <;> rfl
@[simp] theorem haltRing_pool (s : State) (n c : Nat) : (haltRing s n c).pool = s.pool := by unfold haltRing; (try dsimp only); split <;> rfl
@[simp] theorem haltRing_mgmt (s : State) (n c : Nat) : (haltRing s n c).mgmt = s.mgmt := by unfold haltRing; (try dsimp only); split <;> rfl
@[simp] theorem haltRing_coh (s : State) (n c : Nat) : (haltRing s n c).coh = s.coh := by unfold haltRing; (try dsimp only); split <;> rfl
@[simp] theorem haltRing_ord (s : State) (n c : Nat) : (haltRing s n c).ord = s.ord := by unfold haltRing; (try dsimp only); split <;> rfl
@[simp] theorem haltRing_atm (s : State) (n c : Nat) : (haltRing s n c).atm = s.atm := by unfold haltRing; (try dsimp only); split <;> rfl
@[simp] theorem haltRing_obj (s : State) (n c : Nat) : (haltRing s n c).obj = s.obj := by unfold haltRing; (try dsimp only); split <;> rfl
@[simp] theorem haltRing_tier (s : State) (n c : Nat) : (haltRing s n c).tier = s.tier := by unfold haltRing; (try dsimp only); split <;> rfl
@[simp] theorem haltRing_cmp (s : State) (n c : Nat) : (haltRing s n c).cmp = s.cmp := by unfold haltRing; (try dsimp only); split <;> rfl
@[simp] theorem haltRing_stk (s : State) (n c : Nat) : (haltRing s n c).stk = s.stk := by unfold haltRing; (try dsimp only); split <;> rfl
@[simp] theorem haltRing_bau (s : State) (n c : Nat) : (haltRing s n c).bau = s.bau := by unfold haltRing; (try dsimp only); split <;> rfl
@[simp] theorem haltRing_trs (s : State) (n c : Nat) : (haltRing s n c).trs = s.trs := by unfold haltRing; (try dsimp only); split <;> rfl
@[simp] theorem haltRing_train (s : State) (n c : Nat) : (haltRing s n c).train = s.train := by unfold haltRing; (try dsimp only); split <;> rfl
@[simp] theorem haltRing_route (s : State) (n c : Nat) : (haltRing s n c).route = s.route := by unfold haltRing; (try dsimp only); split <;> rfl
@[simp] theorem haltRing_core (s : State) (n c : Nat) : (haltRing s n c).core = s.core := by unfold haltRing; (try dsimp only); split <;> rfl
@[simp] theorem haltRing_cong (s : State) (n c : Nat) : (haltRing s n c).cong = s.cong := by unfold haltRing; (try dsimp only); split <;> rfl
@[simp] theorem haltRing_link (s : State) (n c : Nat) : (haltRing s n c).link = s.link := by unfold haltRing; (try dsimp only); split <;> rfl
@[simp] theorem haltRing_ras (s : State) (n c : Nat) : (haltRing s n c).ras = s.ras := by unfold haltRing; (try dsimp only); split <;> rfl
@[simp] theorem haltRing_sys (s : State) (n c : Nat) : (haltRing s n c).sys = s.sys := by unfold haltRing; (try dsimp only); split <;> rfl
@[simp] theorem haltRing_settle (s : State) (n c : Nat) : (haltRing s n c).settle = s.settle := by unfold haltRing; (try dsimp only); split <;> rfl
@[simp] theorem haltRing_pwr (s : State) (n c : Nat) : (haltRing s n c).pwr = s.pwr := by unfold haltRing; (try dsimp only); split <;> rfl

@[simp] theorem haltBound_now (s : State) (p : Option Nat) (c : Nat) : (haltBound s p c).now = s.now := by unfold haltBound; refine foldl_keeps (fun t : State => t.now) _ (fun _ _ => ?_) _ _; (try dsimp only); (repeat' split); all_goals first | rfl | simp
@[simp] theorem haltBound_draws (s : State) (p : Option Nat) (c : Nat) : (haltBound s p c).draws = s.draws := by unfold haltBound; refine foldl_keeps (fun t : State => t.draws) _ (fun _ _ => ?_) _ _; (try dsimp only); (repeat' split); all_goals first | rfl | simp
@[simp] theorem haltBound_regs (s : State) (p : Option Nat) (c : Nat) : (haltBound s p c).regs = s.regs := by unfold haltBound; refine foldl_keeps (fun t : State => t.regs) _ (fun _ _ => ?_) _ _; (try dsimp only); (repeat' split); all_goals first | rfl | simp
@[simp] theorem haltBound_out (s : State) (p : Option Nat) (c : Nat) : (haltBound s p c).out = s.out := by unfold haltBound; refine foldl_keeps (fun t : State => t.out) _ (fun _ _ => ?_) _ _; (try dsimp only); (repeat' split); all_goals first | rfl | simp
@[simp] theorem haltBound_pending (s : State) (p : Option Nat) (c : Nat) : (haltBound s p c).pending = s.pending := by unfold haltBound; refine foldl_keeps (fun t : State => t.pending) _ (fun _ _ => ?_) _ _; (try dsimp only); (repeat' split); all_goals first | rfl | simp
@[simp] theorem haltBound_pool (s : State) (p : Option Nat) (c : Nat) : (haltBound s p c).pool = s.pool := by unfold haltBound; refine foldl_keeps (fun t : State => t.pool) _ (fun _ _ => ?_) _ _; (try dsimp only); (repeat' split); all_goals first | rfl | simp
@[simp] theorem haltBound_mgmt (s : State) (p : Option Nat) (c : Nat) : (haltBound s p c).mgmt = s.mgmt := by unfold haltBound; refine foldl_keeps (fun t : State => t.mgmt) _ (fun _ _ => ?_) _ _; (try dsimp only); (repeat' split); all_goals first | rfl | simp
@[simp] theorem haltBound_coh (s : State) (p : Option Nat) (c : Nat) : (haltBound s p c).coh = s.coh := by unfold haltBound; refine foldl_keeps (fun t : State => t.coh) _ (fun _ _ => ?_) _ _; (try dsimp only); (repeat' split); all_goals first | rfl | simp
@[simp] theorem haltBound_ord (s : State) (p : Option Nat) (c : Nat) : (haltBound s p c).ord = s.ord := by unfold haltBound; refine foldl_keeps (fun t : State => t.ord) _ (fun _ _ => ?_) _ _; (try dsimp only); (repeat' split); all_goals first | rfl | simp
@[simp] theorem haltBound_atm (s : State) (p : Option Nat) (c : Nat) : (haltBound s p c).atm = s.atm := by unfold haltBound; refine foldl_keeps (fun t : State => t.atm) _ (fun _ _ => ?_) _ _; (try dsimp only); (repeat' split); all_goals first | rfl | simp
@[simp] theorem haltBound_obj (s : State) (p : Option Nat) (c : Nat) : (haltBound s p c).obj = s.obj := by unfold haltBound; refine foldl_keeps (fun t : State => t.obj) _ (fun _ _ => ?_) _ _; (try dsimp only); (repeat' split); all_goals first | rfl | simp
@[simp] theorem haltBound_tier (s : State) (p : Option Nat) (c : Nat) : (haltBound s p c).tier = s.tier := by unfold haltBound; refine foldl_keeps (fun t : State => t.tier) _ (fun _ _ => ?_) _ _; (try dsimp only); (repeat' split); all_goals first | rfl | simp
@[simp] theorem haltBound_cmp (s : State) (p : Option Nat) (c : Nat) : (haltBound s p c).cmp = s.cmp := by unfold haltBound; refine foldl_keeps (fun t : State => t.cmp) _ (fun _ _ => ?_) _ _; (try dsimp only); (repeat' split); all_goals first | rfl | simp
@[simp] theorem haltBound_stk (s : State) (p : Option Nat) (c : Nat) : (haltBound s p c).stk = s.stk := by unfold haltBound; refine foldl_keeps (fun t : State => t.stk) _ (fun _ _ => ?_) _ _; (try dsimp only); (repeat' split); all_goals first | rfl | simp
@[simp] theorem haltBound_bau (s : State) (p : Option Nat) (c : Nat) : (haltBound s p c).bau = s.bau := by unfold haltBound; refine foldl_keeps (fun t : State => t.bau) _ (fun _ _ => ?_) _ _; (try dsimp only); (repeat' split); all_goals first | rfl | simp
@[simp] theorem haltBound_trs (s : State) (p : Option Nat) (c : Nat) : (haltBound s p c).trs = s.trs := by unfold haltBound; refine foldl_keeps (fun t : State => t.trs) _ (fun _ _ => ?_) _ _; (try dsimp only); (repeat' split); all_goals first | rfl | simp
@[simp] theorem haltBound_train (s : State) (p : Option Nat) (c : Nat) : (haltBound s p c).train = s.train := by unfold haltBound; refine foldl_keeps (fun t : State => t.train) _ (fun _ _ => ?_) _ _; (try dsimp only); (repeat' split); all_goals first | rfl | simp
@[simp] theorem haltBound_route (s : State) (p : Option Nat) (c : Nat) : (haltBound s p c).route = s.route := by unfold haltBound; refine foldl_keeps (fun t : State => t.route) _ (fun _ _ => ?_) _ _; (try dsimp only); (repeat' split); all_goals first | rfl | simp
@[simp] theorem haltBound_core (s : State) (p : Option Nat) (c : Nat) : (haltBound s p c).core = s.core := by unfold haltBound; refine foldl_keeps (fun t : State => t.core) _ (fun _ _ => ?_) _ _; (try dsimp only); (repeat' split); all_goals first | rfl | simp
@[simp] theorem haltBound_cong (s : State) (p : Option Nat) (c : Nat) : (haltBound s p c).cong = s.cong := by unfold haltBound; refine foldl_keeps (fun t : State => t.cong) _ (fun _ _ => ?_) _ _; (try dsimp only); (repeat' split); all_goals first | rfl | simp
@[simp] theorem haltBound_link (s : State) (p : Option Nat) (c : Nat) : (haltBound s p c).link = s.link := by unfold haltBound; refine foldl_keeps (fun t : State => t.link) _ (fun _ _ => ?_) _ _; (try dsimp only); (repeat' split); all_goals first | rfl | simp
@[simp] theorem haltBound_ras (s : State) (p : Option Nat) (c : Nat) : (haltBound s p c).ras = s.ras := by unfold haltBound; refine foldl_keeps (fun t : State => t.ras) _ (fun _ _ => ?_) _ _; (try dsimp only); (repeat' split); all_goals first | rfl | simp
@[simp] theorem haltBound_sys (s : State) (p : Option Nat) (c : Nat) : (haltBound s p c).sys = s.sys := by unfold haltBound; refine foldl_keeps (fun t : State => t.sys) _ (fun _ _ => ?_) _ _; (try dsimp only); (repeat' split); all_goals first | rfl | simp
@[simp] theorem haltBound_settle (s : State) (p : Option Nat) (c : Nat) : (haltBound s p c).settle = s.settle := by unfold haltBound; refine foldl_keeps (fun t : State => t.settle) _ (fun _ _ => ?_) _ _; (try dsimp only); (repeat' split); all_goals first | rfl | simp
@[simp] theorem haltBound_pwr (s : State) (p : Option Nat) (c : Nat) : (haltBound s p c).pwr = s.pwr := by unfold haltBound; refine foldl_keeps (fun t : State => t.pwr) _ (fun _ _ => ?_) _ _; (try dsimp only); (repeat' split); all_goals first | rfl | simp

@[simp] theorem msix_now (s : State) (v : Nat) : (msix s v).now = s.now := by unfold msix; split <;> rfl
@[simp] theorem msix_draws (s : State) (v : Nat) : (msix s v).draws = s.draws := by unfold msix; split <;> rfl
@[simp] theorem msix_pending (s : State) (v : Nat) : (msix s v).pending = s.pending := by unfold msix; split <;> rfl
@[simp] theorem msix_rings (s : State) (v : Nat) : (msix s v).rings = s.rings := by unfold msix; split <;> rfl
@[simp] theorem msix_pool (s : State) (v : Nat) : (msix s v).pool = s.pool := by unfold msix; split <;> rfl
@[simp] theorem msix_mgmt (s : State) (v : Nat) : (msix s v).mgmt = s.mgmt := by unfold msix; split <;> rfl
@[simp] theorem msix_coh (s : State) (v : Nat) : (msix s v).coh = s.coh := by unfold msix; split <;> rfl
@[simp] theorem msix_ord (s : State) (v : Nat) : (msix s v).ord = s.ord := by unfold msix; split <;> rfl
@[simp] theorem msix_atm (s : State) (v : Nat) : (msix s v).atm = s.atm := by unfold msix; split <;> rfl
@[simp] theorem msix_obj (s : State) (v : Nat) : (msix s v).obj = s.obj := by unfold msix; split <;> rfl
@[simp] theorem msix_tier (s : State) (v : Nat) : (msix s v).tier = s.tier := by unfold msix; split <;> rfl
@[simp] theorem msix_cmp (s : State) (v : Nat) : (msix s v).cmp = s.cmp := by unfold msix; split <;> rfl
@[simp] theorem msix_stk (s : State) (v : Nat) : (msix s v).stk = s.stk := by unfold msix; split <;> rfl
@[simp] theorem msix_bau (s : State) (v : Nat) : (msix s v).bau = s.bau := by unfold msix; split <;> rfl
@[simp] theorem msix_trs (s : State) (v : Nat) : (msix s v).trs = s.trs := by unfold msix; split <;> rfl
@[simp] theorem msix_train (s : State) (v : Nat) : (msix s v).train = s.train := by unfold msix; split <;> rfl
@[simp] theorem msix_route (s : State) (v : Nat) : (msix s v).route = s.route := by unfold msix; split <;> rfl
@[simp] theorem msix_core (s : State) (v : Nat) : (msix s v).core = s.core := by unfold msix; split <;> rfl
@[simp] theorem msix_cong (s : State) (v : Nat) : (msix s v).cong = s.cong := by unfold msix; split <;> rfl
@[simp] theorem msix_link (s : State) (v : Nat) : (msix s v).link = s.link := by unfold msix; split <;> rfl
@[simp] theorem msix_ras (s : State) (v : Nat) : (msix s v).ras = s.ras := by unfold msix; split <;> rfl
@[simp] theorem msix_sys (s : State) (v : Nat) : (msix s v).sys = s.sys := by unfold msix; split <;> rfl
@[simp] theorem msix_settle (s : State) (v : Nat) : (msix s v).settle = s.settle := by unfold msix; split <;> rfl
@[simp] theorem msix_pwr (s : State) (v : Nat) : (msix s v).pwr = s.pwr := by unfold msix; split <;> rfl

@[simp] theorem pmEvent_now (s : State) (k : Key) (n : Nat) (v : Word) : (pmEvent s k n v).now = s.now := by unfold pmEvent; (try dsimp only); (repeat' split); all_goals first | rfl | simp
@[simp] theorem pmEvent_draws (s : State) (k : Key) (n : Nat) (v : Word) : (pmEvent s k n v).draws = s.draws := by unfold pmEvent; (try dsimp only); (repeat' split); all_goals first | rfl | simp
@[simp] theorem pmEvent_pending (s : State) (k : Key) (n : Nat) (v : Word) : (pmEvent s k n v).pending = s.pending := by unfold pmEvent; (try dsimp only); (repeat' split); all_goals first | rfl | simp
@[simp] theorem pmEvent_rings (s : State) (k : Key) (n : Nat) (v : Word) : (pmEvent s k n v).rings = s.rings := by unfold pmEvent; (try dsimp only); (repeat' split); all_goals first | rfl | simp
@[simp] theorem pmEvent_pool (s : State) (k : Key) (n : Nat) (v : Word) : (pmEvent s k n v).pool = s.pool := by unfold pmEvent; (try dsimp only); (repeat' split); all_goals first | rfl | simp
@[simp] theorem pmEvent_mgmt (s : State) (k : Key) (n : Nat) (v : Word) : (pmEvent s k n v).mgmt = s.mgmt := by unfold pmEvent; (try dsimp only); (repeat' split); all_goals first | rfl | simp
@[simp] theorem pmEvent_coh (s : State) (k : Key) (n : Nat) (v : Word) : (pmEvent s k n v).coh = s.coh := by unfold pmEvent; (try dsimp only); (repeat' split); all_goals first | rfl | simp
@[simp] theorem pmEvent_ord (s : State) (k : Key) (n : Nat) (v : Word) : (pmEvent s k n v).ord = s.ord := by unfold pmEvent; (try dsimp only); (repeat' split); all_goals first | rfl | simp
@[simp] theorem pmEvent_atm (s : State) (k : Key) (n : Nat) (v : Word) : (pmEvent s k n v).atm = s.atm := by unfold pmEvent; (try dsimp only); (repeat' split); all_goals first | rfl | simp
@[simp] theorem pmEvent_obj (s : State) (k : Key) (n : Nat) (v : Word) : (pmEvent s k n v).obj = s.obj := by unfold pmEvent; (try dsimp only); (repeat' split); all_goals first | rfl | simp
@[simp] theorem pmEvent_tier (s : State) (k : Key) (n : Nat) (v : Word) : (pmEvent s k n v).tier = s.tier := by unfold pmEvent; (try dsimp only); (repeat' split); all_goals first | rfl | simp
@[simp] theorem pmEvent_cmp (s : State) (k : Key) (n : Nat) (v : Word) : (pmEvent s k n v).cmp = s.cmp := by unfold pmEvent; (try dsimp only); (repeat' split); all_goals first | rfl | simp
@[simp] theorem pmEvent_stk (s : State) (k : Key) (n : Nat) (v : Word) : (pmEvent s k n v).stk = s.stk := by unfold pmEvent; (try dsimp only); (repeat' split); all_goals first | rfl | simp
@[simp] theorem pmEvent_bau (s : State) (k : Key) (n : Nat) (v : Word) : (pmEvent s k n v).bau = s.bau := by unfold pmEvent; (try dsimp only); (repeat' split); all_goals first | rfl | simp
@[simp] theorem pmEvent_trs (s : State) (k : Key) (n : Nat) (v : Word) : (pmEvent s k n v).trs = s.trs := by unfold pmEvent; (try dsimp only); (repeat' split); all_goals first | rfl | simp
@[simp] theorem pmEvent_train (s : State) (k : Key) (n : Nat) (v : Word) : (pmEvent s k n v).train = s.train := by unfold pmEvent; (try dsimp only); (repeat' split); all_goals first | rfl | simp
@[simp] theorem pmEvent_route (s : State) (k : Key) (n : Nat) (v : Word) : (pmEvent s k n v).route = s.route := by unfold pmEvent; (try dsimp only); (repeat' split); all_goals first | rfl | simp
@[simp] theorem pmEvent_core (s : State) (k : Key) (n : Nat) (v : Word) : (pmEvent s k n v).core = s.core := by unfold pmEvent; (try dsimp only); (repeat' split); all_goals first | rfl | simp
@[simp] theorem pmEvent_cong (s : State) (k : Key) (n : Nat) (v : Word) : (pmEvent s k n v).cong = s.cong := by unfold pmEvent; (try dsimp only); (repeat' split); all_goals first | rfl | simp
@[simp] theorem pmEvent_link (s : State) (k : Key) (n : Nat) (v : Word) : (pmEvent s k n v).link = s.link := by unfold pmEvent; (try dsimp only); (repeat' split); all_goals first | rfl | simp
@[simp] theorem pmEvent_ras (s : State) (k : Key) (n : Nat) (v : Word) : (pmEvent s k n v).ras = s.ras := by unfold pmEvent; (try dsimp only); (repeat' split); all_goals first | rfl | simp
@[simp] theorem pmEvent_sys (s : State) (k : Key) (n : Nat) (v : Word) : (pmEvent s k n v).sys = s.sys := by unfold pmEvent; (try dsimp only); (repeat' split); all_goals first | rfl | simp
@[simp] theorem pmEvent_pwr (s : State) (k : Key) (n : Nat) (v : Word) : (pmEvent s k n v).pwr = s.pwr := by unfold pmEvent; (try dsimp only); (repeat' split); all_goals first | rfl | simp
/-! ## A credit that goes back (R418) changes its link and the outputs only -/

@[simp] theorem creditBack_now (s : State) (p c : Nat) : (creditBack s p c).now = s.now := by unfold creditBack; (repeat' split) <;> rfl
@[simp] theorem creditBack_draws (s : State) (p c : Nat) : (creditBack s p c).draws = s.draws := by unfold creditBack; (repeat' split) <;> rfl
@[simp] theorem creditBack_regs (s : State) (p c : Nat) : (creditBack s p c).regs = s.regs := by unfold creditBack; (repeat' split) <;> rfl
@[simp] theorem creditBack_pending (s : State) (p c : Nat) : (creditBack s p c).pending = s.pending := by unfold creditBack; (repeat' split) <;> rfl
@[simp] theorem creditBack_rings (s : State) (p c : Nat) : (creditBack s p c).rings = s.rings := by unfold creditBack; (repeat' split) <;> rfl
@[simp] theorem creditBack_pool (s : State) (p c : Nat) : (creditBack s p c).pool = s.pool := by unfold creditBack; (repeat' split) <;> rfl
@[simp] theorem creditBack_mgmt (s : State) (p c : Nat) : (creditBack s p c).mgmt = s.mgmt := by unfold creditBack; (repeat' split) <;> rfl
@[simp] theorem creditBack_coh (s : State) (p c : Nat) : (creditBack s p c).coh = s.coh := by unfold creditBack; (repeat' split) <;> rfl
@[simp] theorem creditBack_ord (s : State) (p c : Nat) : (creditBack s p c).ord = s.ord := by unfold creditBack; (repeat' split) <;> rfl
@[simp] theorem creditBack_atm (s : State) (p c : Nat) : (creditBack s p c).atm = s.atm := by unfold creditBack; (repeat' split) <;> rfl
@[simp] theorem creditBack_obj (s : State) (p c : Nat) : (creditBack s p c).obj = s.obj := by unfold creditBack; (repeat' split) <;> rfl
@[simp] theorem creditBack_tier (s : State) (p c : Nat) : (creditBack s p c).tier = s.tier := by unfold creditBack; (repeat' split) <;> rfl
@[simp] theorem creditBack_cmp (s : State) (p c : Nat) : (creditBack s p c).cmp = s.cmp := by unfold creditBack; (repeat' split) <;> rfl
@[simp] theorem creditBack_stk (s : State) (p c : Nat) : (creditBack s p c).stk = s.stk := by unfold creditBack; (repeat' split) <;> rfl
@[simp] theorem creditBack_bau (s : State) (p c : Nat) : (creditBack s p c).bau = s.bau := by unfold creditBack; (repeat' split) <;> rfl
@[simp] theorem creditBack_trs (s : State) (p c : Nat) : (creditBack s p c).trs = s.trs := by unfold creditBack; (repeat' split) <;> rfl
@[simp] theorem creditBack_train (s : State) (p c : Nat) : (creditBack s p c).train = s.train := by unfold creditBack; (repeat' split) <;> rfl
@[simp] theorem creditBack_route (s : State) (p c : Nat) : (creditBack s p c).route = s.route := by unfold creditBack; (repeat' split) <;> rfl
@[simp] theorem creditBack_core (s : State) (p c : Nat) : (creditBack s p c).core = s.core := by unfold creditBack; (repeat' split) <;> rfl
@[simp] theorem creditBack_cong (s : State) (p c : Nat) : (creditBack s p c).cong = s.cong := by unfold creditBack; (repeat' split) <;> rfl
@[simp] theorem creditBack_ras (s : State) (p c : Nat) : (creditBack s p c).ras = s.ras := by unfold creditBack; (repeat' split) <;> rfl
@[simp] theorem creditBack_sys (s : State) (p c : Nat) : (creditBack s p c).sys = s.sys := by unfold creditBack; (repeat' split) <;> rfl
@[simp] theorem creditBack_settle (s : State) (p c : Nat) : (creditBack s p c).settle = s.settle := by unfold creditBack; (repeat' split) <;> rfl
@[simp] theorem creditBack_pwr (s : State) (p c : Nat) : (creditBack s p c).pwr = s.pwr := by unfold creditBack; (repeat' split) <;> rfl

/-! ## What only registers decide is the same in states of equal registers -/

theorem regGet_regs {s t : State} (h : t.regs = s.regs) : regGet t = regGet s := by funext a; simp [regGet, h]
theorem fld_regs {s t : State} (h : t.regs = s.regs) : fld t = fld s := by funext a l n; simp [fld, regGet_regs h]
theorem flag_regs {s t : State} (h : t.regs = s.regs) : flag t = flag s := by funext a b; simp [flag, fld_regs h]
theorem setupOpen_regs {s t : State} (h : t.regs = s.regs) : setupOpen t = setupOpen s := by funext p; simp [setupOpen, flag_regs h]
theorem cfgLegal_regs {s t : State} (h : t.regs = s.regs) : cfgLegal t = cfgLegal s := by
  funext p; simp [cfgLegal, cfgRole, cfgProto, bonded, fld_regs h, flag_regs h, setupOpen_regs h]
theorem portRole_regs {s t : State} (h : t.regs = s.regs) : portRole t = portRole s := by
  funext p; simp [portRole, cfgRole, fld_regs h, setupOpen_regs h, cfgLegal_regs h]
theorem bondOdd_regs {s t : State} (h : t.regs = s.regs) : bondOdd t = bondOdd s := by
  funext p; simp [bondOdd, flag_regs h, setupOpen_regs h]
theorem isHostPort_regs {s t : State} (h : t.regs = s.regs) : isHostPort t = isHostPort s := by
  funext p; simp [isHostPort, portRole_regs h, bondOdd_regs h]
theorem isTrunk_regs {s t : State} (h : t.regs = s.regs) : isTrunk t = isTrunk s := by
  funext p; simp [isTrunk, portRole_regs h, bondOdd_regs h]
theorem isTray_regs {s t : State} (h : t.regs = s.regs) : isTray t = isTray s := by
  funext p; simp [isTray, portRole_regs h, bondOdd_regs h]
theorem keyMatch_regs {s t : State} (h : t.regs = s.regs) : keyMatch t = keyMatch s := by
  funext p k; simp [keyMatch, fld_regs h, flag_regs h, isHostPort_regs h]
theorem ingressKey_regs {s t : State} (h : t.regs = s.regs) : ingressKey t = ingressKey s := by
  funext p k; simp [ingressKey, keyMatch_regs h, isHostPort_regs h, isTrunk_regs h, isTray_regs h]
theorem switchId_regs {s t : State} (h : t.regs = s.regs) : switchId t = switchId s := by simp [switchId, fld_regs h]
theorem hostReq_regs {s t : State} (h : t.regs = s.regs) : hostReq t = hostReq s := by funext r; simp [hostReq, isHostPort_regs h]


end Sys2Proof.Machine
end

