-- ==== Sys2Proof/Laws/Bau.lean ====
section
/-! SUPPORT. What the Bank Arithmetic Units' shared operations do: the instruction a row finds, ranges inside the sets, and the tiles of ATTN. -/

namespace Sys2Proof.Machine

/-- The instruction a row finds is of the operation code it looks for. -/
theorem nextIns_op {s : State} {st b op : Nat} {q : Seq} {w : Word} (h : nextIns s st b op = some (q, w)) : iOp w = op := by
  simp only [nextIns] at h
  split at h
  · cases h
  · split at h
    · cases h
    · split at h
      · rename_i hc
        cases h
        simp at hc
        exact hc.2
      · cases h

@[simp] theorem recentGrants_bumpBy (s : State) (i n st : Nat) : recentGrants (bumpBy s i n) st = recentGrants s st := by
  unfold recentGrants
  rw [bumpBy_bau]
  congr 1

/-- Every page that a range touches has one of the range's page points. -/
theorem pagePoints_page {lo len o : Nat} (h1 : lo ≤ o) (h2 : o < lo + len) : ∃ x ∈ pagePoints lo len, x / 65536 = o / 65536 := by
  by_cases h : lo / 65536 = o / 65536
  · exact ⟨lo, by simp [pagePoints], h⟩
  · refine ⟨(o / 65536) * 65536, ?_, by omega⟩
    simp only [pagePoints, List.mem_cons, List.mem_map, List.mem_range]
    exact .inr ⟨o / 65536 - lo / 65536 - 1, by omega, by congr 1; omega⟩

/-- Every page point of a range that is not empty lies in the range. -/
theorem pagePoints_inside {lo len x : Nat} (h : 0 < len) (hx : x ∈ pagePoints lo len) : lo ≤ x ∧ x < lo + len := by
  simp only [pagePoints, List.mem_cons, List.mem_map, List.mem_range] at hx
  rcases hx with rfl | ⟨i, hi, rfl⟩
  · omega
  · omega

/-- A part of a range that lies in the sets lies in the sets. -/
theorem outsideAt_part {rs : List (Nat × Nat)} {a n b m : Nat} (h : outsideAt rs a n = none) (h1 : a ≤ b) (h2 : b + m ≤ a + n) :
    outsideAt rs b m = none := by
  by_cases hm : m = 0
  · simp [outsideAt, hm]
  · have hn : n ≠ 0 := by omega
    simp only [outsideAt, hn, hm, if_false, List.find?_eq_none, Bool.not_eq_true', Bool.not_eq_false] at h ⊢
    intro x hx
    have hb := pagePoints_inside (by omega) hx
    obtain ⟨y, hy, e⟩ := pagePoints_page (lo := a) (len := n) (o := x) (by omega) (by omega)
    rw [← e]
    exact h y hy

theorem elemBytes_add (w : Word) (i j k : Nat) : elemBytes w (128 * (32 * k)) + elemBytes w (j * (32 * k)) = elemBytes w ((128 + j) * (32 * k)) ∧
    (i ≤ j → elemBytes w (i * (32 * k)) ≤ elemBytes w (j * (32 * k))) := by
  constructor
  · simp only [elemBytes]
    generalize fmtBits (iFmt w) = f
    have e1 : 128 * (32 * k) * f = (512 * (k * f)) * 8 := by
      rw [show 128 * (32 * k) * f = 128 * 32 * (k * f) by simp only [Nat.mul_assoc]]
      omega
    have e2 : j * (32 * k) * f = (4 * (j * (k * f))) * 8 := by
      rw [show j * (32 * k) * f = 32 * (j * (k * f)) by rw [← Nat.mul_assoc j 32 k, Nat.mul_comm j 32, Nat.mul_assoc, Nat.mul_assoc]]
      omega
    rw [Nat.add_mul, Nat.add_mul, e1, e2]
    omega
  · intro h
    simp only [elemBytes]
    exact Nat.div_le_div_right (Nat.mul_le_mul_right _ (Nat.mul_le_mul_right _ h))

/-- ATTN runs through all its tiles where its keys and its values lie in the sets. -/
theorem attnTiles_ok (q : Seq) (w : Word) (fuel : Nat) : ∀ (s : State) (ka va left cycle : Nat) (acc : RF),
    outsideAt (q.reads ++ q.locks) ka (elemBytes w (left * atD w)) = none →
    outsideAt (q.reads ++ q.locks) va (elemBytes w (left * atD w)) = none →
    ∃ k r g, attnTiles s q w fuel ka va left cycle acc = .ok { s with draws := s.draws + k } r g [] none := by
  induction fuel with
  | zero => intro s _ _ _ _ acc _ _; exact ⟨0, acc.1, acc.2, rfl⟩
  | succ f ih =>
    intro s ka va left cycle acc hk hv
    unfold attnTiles
    by_cases h0 : left = 0
    · rw [if_pos h0]; exact ⟨0, acc.1, acc.2, rfl⟩
    · rw [if_neg h0]
      have hle : Nat.min 128 left ≤ left := Nat.min_le_right _ _
      have hb : elemBytes w (Nat.min 128 left * atD w) ≤ elemBytes w (left * atD w) :=
        (elemBytes_add w (Nat.min 128 left) left _).2 hle
      have k1 := outsideAt_part hk (Nat.le_refl _) (m := elemBytes w (Nat.min 128 left * atD w)) (by omega)
      have v1 := outsideAt_part hv (Nat.le_refl _) (m := elemBytes w (Nat.min 128 left * atD w)) (by omega)
      have hs : elemBytes w (Nat.min 128 left * atD w) + elemBytes w ((left - Nat.min 128 left) * atD w) ≤ elemBytes w (left * atD w) := by
        by_cases hc : left ≤ 128
        · have : Nat.min 128 left = left := Nat.min_eq_right hc
          rw [this, Nat.sub_self, Nat.zero_mul]
          simp [elemBytes]
        · have e : Nat.min 128 left = 128 := Nat.min_eq_left (by omega)
          have := (elemBytes_add w 0 (left - 128) (iAt w 24 5)).1
          rw [show 128 + (left - 128) = left by omega] at this
          rw [e]
          exact Nat.le_of_eq this
      simp only [attnTile, withStream, k1, v1]
      obtain ⟨k, r, g, e⟩ := ih { s with draws := s.draws + 2 * 512 * 32 } (ka + elemBytes w (Nat.min 128 left * atD w)) (va + elemBytes w (Nat.min 128 left * atD w))
        (left - Nat.min 128 left) (cycle + 2 * 128 * atD w * fmtBits (iFmt w) / 512) _
        (outsideAt_part hk (by omega) (by omega)) (outsideAt_part hv (by omega) (by omega))
      exact ⟨2 * 512 * 32 + k, r, g, by rw [e]; simp only [Nat.add_assoc]⟩

end Sys2Proof.Machine
end

