-- ==== Sys2Proof/Laws/Home.lean ====
section
/-! SUPPORT. What leaving the arrival queue keeps (R89, R101): the directory, the open transactions, the reads that
wait for memory, and the registry. -/

namespace Sys2Proof.Machine

@[simp] theorem turnStep_dir (s : State) (r : Req) : (turnStep s r).coh.dir = s.coh.dir := by
  unfold turnStep; dsimp only; (repeat' split) <;> rfl
@[simp] theorem turnStep_trans (s : State) (r : Req) : (turnStep s r).coh.trans = s.coh.trans := by
  unfold turnStep; dsimp only; (repeat' split) <;> rfl
@[simp] theorem turnStep_reads (s : State) (r : Req) : (turnStep s r).coh.reads = s.coh.reads := by
  unfold turnStep; dsimp only; (repeat' split) <;> rfl
@[simp] theorem turnStep_registry (s : State) (r : Req) : (turnStep s r).coh.registry = s.coh.registry := by
  unfold turnStep; dsimp only; (repeat' split) <;> rfl
@[simp] theorem turnStep_pool (s : State) (r : Req) : (turnStep s r).pool = s.pool := by
  unfold turnStep; dsimp only; (repeat' split) <;> rfl

@[simp] theorem dropInbox_dir (s : State) (r : Req) : (dropInbox s r).coh.dir = s.coh.dir := by simp [dropInbox]
@[simp] theorem dropInbox_trans (s : State) (r : Req) : (dropInbox s r).coh.trans = s.coh.trans := by simp [dropInbox]
@[simp] theorem dropInbox_reads (s : State) (r : Req) : (dropInbox s r).coh.reads = s.coh.reads := by simp [dropInbox]
@[simp] theorem dropInbox_registry (s : State) (r : Req) : (dropInbox s r).coh.registry = s.coh.registry := by simp [dropInbox]
@[simp] theorem dropInbox_pool (s : State) (r : Req) : (dropInbox s r).pool = s.pool := by simp [dropInbox]

/-- A read that waits for memory joins the pending reads with its line's content. -/
@[simp] theorem pendRead_reads (s : State) (line : Nat) (r : Req) (c : CmpKind) : (pendRead s line r c).coh.reads =
    s.coh.reads ++ [⟨line, r, c, (currentLine s line).1, (currentLine s line).2⟩] := by simp [pendRead]
@[simp] theorem pendRead_dir (s : State) (line : Nat) (r : Req) (c : CmpKind) : (pendRead s line r c).coh.dir = s.coh.dir := by simp [pendRead]
@[simp] theorem pendRead_registry (s : State) (line : Nat) (r : Req) (c : CmpKind) : (pendRead s line r c).coh.registry = s.coh.registry := by
  simp [pendRead]

end Sys2Proof.Machine
end

