-- ==== Sys2Proof/Laws/Entered.lean ====
section
/-! SUPPORT. A request that its port admits comes in (R60, R65), from a Bromet port or as the translation of a CXL.mem request (R112). -/

namespace Sys2Proof.Machine

theorem execRequestIngress_entered (s : State) (r : Req) (h1 : takesRequests s r.port.val = true) (h2 : internal r = false)
    (h3 : r.badSlots = false) (h4 : r.tc = 6 ∨ r.tc = 5) (h5 : ingressKey s r.port.val r.key = true)
    (h6 : isHostPort s r.port.val = true ∨ ckeyBad r.key r.checked = false) :
    execRequestIngress r s = .next (Entered s r) := by
  have e : (creditBack s r.port.val r.tc.toNat).regs = s.regs := creditBack_regs ..
  have a1 : takesRequests (creditBack s r.port.val r.tc.toNat) r.port.val = true := by
    simpa [takesRequests, isHostPort_regs e, isTrunk_regs e] using h1
  have a3 : hostReq (creditBack s r.port.val r.tc.toNat) r = isHostPort s r.port.val := by simp [hostReq, isHostPort_regs e, h2]
  have a4 : ingressKey (creditBack s r.port.val r.tc.toNat) r.port.val r.key = true := by rw [ingressKey_regs e]; exact h5
  have a5 : ckeyBad r.key (if isHostPort s r.port.val = true then none else r.checked) = false := by
    split
    · rfl
    · rename_i h; exact h6.resolve_left h
  have a6 : ¬ (r.tc ≠ 6 ∧ r.tc ≠ 5) := by rcases h4 with h | h <;> simp [h]
  have e2 : (creditBack s r.port.val r.tc.toNat).ord = s.ord := creditBack_ord ..
  unfold execRequestIngress Entered
  rw [if_neg (c := internal r = true) (by rw [h2]; exact Bool.false_ne_true)]
  revert a1 a3 a4 e2
  generalize creditBack s r.port.val r.tc.toNat = t
  intro a1 a3 a4 e2
  dsimp only
  simp only [a3, e2]
  generalize hq : ({ r with num := s.ord.arrivals, ro := false, ext := none, checked := if isHostPort s r.port.val = true then none else r.checked } : Req) = q
  have q2 : internal q = false := by rw [← hq]; exact h2
  rw [if_neg (by simp [a1]), if_neg (by rw [q2]; simp), if_neg (by rw [h3]; simp), if_neg a6, if_neg (by rw [a4, a5]; simp)]

theorem cxlRequest_entered (s : State) (m : CxlReq) (k : ReqKind) (f : Req → Req) (off : Nat) (h : CxlTakes s m off)
    (hp : (f (cxlReq s m k off)).port = m.port) (ho : internal (f (cxlReq s m k off)) = false) (hb : (f (cxlReq s m k off)).badSlots = false)
    (ht : (f (cxlReq s m k off)).tc = 6) (hk : (f (cxlReq s m k off)).key = cxlKey s m.port.val) :
    cxlRequest s m k f = Entered s (f (cxlReq s m k off)) := by
  obtain ⟨h1, h2, h3, h4⟩ := h
  have s1 : s.sys.st = .serving ∧ isHostPort s m.port.val = true := by
    simp [cxlServes] at h1; exact ⟨h1.1.1.1.1, h1.1.1.1.2⟩
  have e := execRequestIngress_entered s (f (cxlReq s m k off)) (by simp [takesRequests, hp, s1]) ho hb (.inl ht)
    (by rw [hp, hk]; simp [cxlKeyOk] at h3; exact h3.2) (.inl (by rw [hp]; exact s1.2))
  simp [cxlRequest, h1, h2, h3, h4, e]

end Sys2Proof.Machine
end

