-- ==== Sys2Proof/Laws/KeepEgress.lean ====
section
/-! SUPPORT. What each operation of Machine/Egress.lean leaves alone: the parts it may write, as a number, and all else kept. -/

set_option linter.unusedVariables false

namespace Sys2Proof.Machine

set_option Elab.async false

theorem setChild_same (s : State) (k : Nat) (c : SChild) : Same 524288 s (setChild s k c) := by
  have h0 := Same.refl 524288 s
  unfold setChild
  refine Same.step (Same.set_cong ..) ?_
  exact Same.refl _ _

theorem leaveCore_same (s : State) (tuples : List Nat) (shares : List Nat) : Same 262144 s (leaveCore s tuples shares) := by
  have h0 := Same.refl 262144 s
  unfold leaveCore
  refine Same.step (Same.set_core ..) ?_
  exact Same.refl _ _

theorem takePkt_same (s : State) (e : EPkt) : Same 786432 s (takePkt s e) := by
  have h0 := Same.refl 786432 s
  unfold takePkt
  extract_lets +onlyGivenNames x_1
  extract_lets +onlyGivenNames x_2
  extract_lets +onlyGivenNames x_3
  have h_4 : Same 786432 s x_3 := by
    subst x_3
    refine Same.step (leaveCore_same ..) ?_
    refine Same.step (Same.set_cong ..) ?_
    exact Same.refl _ _
  clear_value x_3
  extract_lets +onlyGivenNames x_5
  extract_lets +onlyGivenNames x_6
  extract_lets +onlyGivenNames x_7
  subst x_7
  dsimp -zeta -zetaHave only
  extract_lets +onlyGivenNames x_8
  extract_lets +onlyGivenNames x_9
  have h_10 : Same 786432 s x_9 := by
    subst x_9
    refine Same.ite0 ?_ ?_
    · refine Same.step (setChild_same ..) ?_
      exact h_4
    · exact h_4
  clear_value x_9
  refine Same.ite0 ?_ ?_
  · refine Same.step (setChild_same ..) ?_
    exact h_10
  · exact h_10

theorem wake_same (s : State) (node : Nat) (k : Nat) : Same 524288 s (wake s node k) := by
  have h0 := Same.refl 524288 s
  unfold wake
  extract_lets +onlyGivenNames x_1
  refine Same.ite0 ?_ ?_
  · exact Same.refl _ _
  · refine Same.step (setChild_same ..) ?_
    exact Same.refl _ _

theorem pushEgress_same (s : State) (e : EPkt) (key : Key) (dataCmp : Bool) : Same 524292 s (pushEgress s e key dataCmp) := by
  have h0 := Same.refl 524292 s
  unfold pushEgress
  extract_lets +onlyGivenNames x_1
  extract_lets +onlyGivenNames x_2
  extract_lets +onlyGivenNames x_3
  extract_lets +onlyGivenNames x_4
  extract_lets +onlyGivenNames x_5
  extract_lets +onlyGivenNames x_6
  have h_7 : Same 524292 s x_6 := by
    subst x_6
    refine Same.ite0 ?_ ?_
    · refine Same.step (bump_same ..) ?_
      exact Same.refl _ _
    · exact Same.refl _ _
  clear_value x_6
  extract_lets +onlyGivenNames x_8
  have h_9 : Same 524292 s x_8 := by
    subst x_8
    refine Same.ite0 ?_ ?_
    · refine Same.step (bump_same ..) ?_
      exact h_7
    · exact h_7
  clear_value x_8
  extract_lets +onlyGivenNames x_10
  extract_lets +onlyGivenNames x_11
  extract_lets +onlyGivenNames x_12
  extract_lets +onlyGivenNames x_13
  extract_lets +onlyGivenNames x_14
  have h_15 : Same 524292 s x_14 := by
    subst x_14
    refine Same.ite0 ?_ ?_
    · refine Same.step (bump_same ..) ?_
      exact h_9
    · exact h_9
  clear_value x_14
  extract_lets +onlyGivenNames x_16
  extract_lets +onlyGivenNames x_17
  have h_18 : Same 524292 s x_17 := by
    subst x_17
    refine Same.ite0 ?_ ?_
    · refine Same.step (wake_same ..) ?_
      refine Same.step (wake_same ..) ?_
      exact h_15
    · exact h_15
  clear_value x_17
  extract_lets +onlyGivenNames x_19
  refine Same.step (Same.set_cong ..) ?_
  exact h_18

theorem passRseq_same (s : State) (r : Req) : Same 131084 s (passRseq s r) := by
  have h0 := Same.refl 131084 s
  unfold passRseq
  split
  · rename_i a_1 a_2 a_3
    extract_lets +onlyGivenNames x_4
    refine Same.step (sendFlow_same ..) ?_
    exact Same.refl _ _
  · rename_i a_5 a_6
    exact Same.refl _ _

theorem mergeInto_same (s : State) (p : Nat) (e : EPkt) (x : Req) (r : Req) (b : Word) : SameO 655884 s (mergeInto s p e x r b) := by
  have h0 := Same.refl 655884 s
  unfold mergeInto
  extract_lets +onlyGivenNames x_1
  extract_lets +onlyGivenNames x_2
  subst x_2
  dsimp -zeta -zetaHave only
  split
  · rename_i a_3 a_4 a_5
    extract_lets +onlyGivenNames x_6
    extract_lets +onlyGivenNames x_7
    have h_8 : Same 655884 s x_7 := by
      subst x_7
      refine Same.step (Same.set_atm ..) ?_
      exact Same.refl _ _
    clear_value x_7
    refine SameO.yes ?_
    refine Same.step (bumpBy_same ..) ?_
    refine Same.step (Same.set_cong ..) ?_
    refine Same.step (passRseq_same ..) ?_
    exact h_8
  · rename_i a_9 a_10
    split
    · rename_i a_11 a_12
      exact SameO.no
    · rename_i a_13 a_14 a_15
      extract_lets +onlyGivenNames x_16
      extract_lets +onlyGivenNames x_17
      extract_lets +onlyGivenNames x_18
      have h_19 : Same 655884 s x_18 := by
        subst x_18
        refine Same.step (Same.set_atm ..) ?_
        exact Same.refl _ _
      clear_value x_18
      extract_lets +onlyGivenNames x_20
      refine SameO.yes ?_
      refine Same.step (bumpBy_same ..) ?_
      refine Same.step (Same.set_cong ..) ?_
      refine Same.step (passRseq_same ..) ?_
      refine Same.step (passRseq_same ..) ?_
      exact h_19

theorem queueReq_same (s : State) (p : Nat) (b : Word) (r : Req) : Same 655884 s (queueReq s p b r) := by
  have h0 := Same.refl 655884 s
  unfold queueReq
  extract_lets +onlyGivenNames x_1
  refine Same.ite0 ?_ ?_
  · split
    · rename_i a_2 a_3 a_4 a_5
      refine SameO.getD ?_ ?_
      · refine SameO.pass (mergeInto_same ..) ?_
        exact Same.refl _ _
      · refine Same.step (bump_same ..) ?_
        refine Same.step (pushEgress_same ..) ?_
        exact Same.refl _ _
    · rename_i a_6 a_7
      refine Same.step (pushEgress_same ..) ?_
      exact Same.refl _ _
  · refine Same.step (pushEgress_same ..) ?_
    exact Same.refl _ _

theorem countDropped_same (s : State) (p : Nat) (c : Option (Nat × Option Nat)) (n : Nat) : Same 4 s (countDropped s p c n) := by
  have h0 := Same.refl 4 s
  unfold countDropped
  refine Same.step (bumpBy_same ..) ?_
  exact Same.refl _ _

theorem dropPkt_same (s : State) (e : EPkt) : Same 786436 s (dropPkt s e) := by
  have h0 := Same.refl 786436 s
  unfold dropPkt
  refine Same.step (countDropped_same ..) ?_
  refine Same.step (takePkt_same ..) ?_
  exact Same.refl _ _

theorem chargeCand_same (s : State) (node : Nat) (cap : Nat) (c : Cand) : Same 524288 s (chargeCand s node cap c) := by
  have h0 := Same.refl 524288 s
  unfold chargeCand
  extract_lets +onlyGivenNames x_1
  extract_lets +onlyGivenNames x_2
  extract_lets +onlyGivenNames x_3
  extract_lets +onlyGivenNames x_4
  have h_5 : Same 524288 s x_4 := by
    subst x_4
    refine Same.step (setChild_same ..) ?_
    exact Same.refl _ _
  clear_value x_4
  refine Same.step (Same.set_cong ..) ?_
  exact h_5

theorem noteStalls_same (s : State) (p : Nat) : Same 524292 s (noteStalls s p) := by
  have h0 := Same.refl 524292 s
  unfold noteStalls
  extract_lets +onlyGivenNames x_1
  extract_lets +onlyGivenNames x_2
  have h_3 : Same 524292 s x_2 := by
    subst x_2
    refine Same.step (bumpBy_same ..) ?_
    exact Same.refl _ _
  clear_value x_2
  refine Same.step (Same.set_cong ..) ?_
  exact h_3

theorem sendFlits_same (s : State) (e : EPkt) : Same 1048580 s (sendFlits s e) := by
  have h0 := Same.refl 1048580 s
  unfold sendFlits
  split
  · rename_i a_1 a_2
    exact Same.refl _ _
  · rename_i a_3 a_4 a_5
    extract_lets +onlyGivenNames x_6
    extract_lets +onlyGivenNames x_7
    extract_lets +onlyGivenNames x_8
    extract_lets +onlyGivenNames x_9
    have h_10 : Same 1048580 s x_9 := by
      subst x_9
      refine Same.step (bumpBy_same ..) ?_
      exact Same.refl _ _
    clear_value x_9
    extract_lets +onlyGivenNames x_11
    have h_12 : Same 1048580 s x_11 := by
      subst x_11
      refine Same.ite0 ?_ ?_
      · refine Same.step (setBit_same ..) ?_
        exact h_10
      · exact h_10
    clear_value x_11
    refine Same.step (Same.set_link ..) ?_
    exact h_12

theorem transmitPkt_same (s : State) (e : EPkt) : Same 1835020 s (transmitPkt s e) := by
  have h0 := Same.refl 1835020 s
  unfold transmitPkt
  extract_lets +onlyGivenNames x_1
  extract_lets +onlyGivenNames x_2
  extract_lets +onlyGivenNames x_3
  extract_lets +onlyGivenNames x_4
  have h_5 : Same 1835020 s x_4 := by
    subst x_4
    refine Same.step (sendFlits_same ..) ?_
    exact Same.refl _ _
  clear_value x_4
  extract_lets +onlyGivenNames x_6
  extract_lets +onlyGivenNames x_7
  have h_8 : Same 1835020 s x_7 := by
    subst x_7
    refine Same.step (takePkt_same ..) ?_
    refine Same.step (Same.set_cong ..) ?_
    exact h_5
  clear_value x_7
  extract_lets +onlyGivenNames x_9
  have h_10 : Same 1835020 s x_9 := by
    subst x_9
    refine Same.step (bumpBy_same ..) ?_
    exact h_8
  clear_value x_9
  split
  · rename_i a_11 a_12 a_13 a_14
    refine Same.step (emit_same ..) ?_
    exact h_10
  · rename_i a_15 a_16 a_17
    refine Same.step (emit_same ..) ?_
    exact h_10
  · rename_i a_18 a_19 a_20 a_21
    refine Same.step (emit_same ..) ?_
    exact h_10

theorem sendPkt_same (s : State) (e : EPkt) : Same 1835020 s (sendPkt s e) := by
  have h0 := Same.refl 1835020 s
  unfold sendPkt
  refine Same.ite0 ?_ ?_
  · refine Same.step (dropPkt_same ..) ?_
    exact Same.refl _ _
  · refine Same.step (transmitPkt_same ..) ?_
    exact Same.refl _ _

theorem keepAccrued_same (s : State) (cs : List Cand) : Same 524288 s (keepAccrued s cs) := by
  have h0 := Same.refl 524288 s
  unfold keepAccrued
  refine Same.foldl _ ?_ ?_
  · exact Same.refl _ _
  · intro a_1 a_2 a_3
    refine Same.step (setChild_same ..) ?_
    exact a_3

theorem scheduleNext_same (s : State) (p : Nat) : Same 1835020 s (scheduleNext s p) := by
  have h0 := Same.refl 1835020 s
  unfold scheduleNext
  split
  · rename_i a_1 a_2 a_3
    refine Same.ite0 ?_ ?_
    · refine Same.step (sendPkt_same ..) ?_
      exact Same.refl _ _
    · exact Same.refl _ _
  · rename_i a_4 a_5
    extract_lets +onlyGivenNames x_6
    extract_lets +onlyGivenNames x_7
    split
    · rename_i a_8 a_9
      exact Same.refl _ _
    · rename_i a_10 a_11 a_12
      split
      · rename_i a_13 a_14
        exact Same.refl _ _
      · rename_i a_15 a_16 a_17 a_18 a_19 a_20
        refine Same.ite0 ?_ ?_
        · exact Same.refl _ _
        · extract_lets +onlyGivenNames x_21
          have h_22 : Same 1835020 s x_21 := by
            subst x_21
            refine Same.step (chargeCand_same ..) ?_
            refine Same.step (keepAccrued_same ..) ?_
            exact Same.refl _ _
          clear_value x_21
          refine Same.step (sendPkt_same ..) ?_
          refine Same.step (chargeCand_same ..) ?_
          refine Same.step (keepAccrued_same ..) ?_
          exact h_22

theorem execEgressSchedule_same (p : PortId) (s : State) : SameO 1835020 s (outSt (execEgressSchedule p s)) := by
  have h0 := Same.refl 1835020 s
  unfold execEgressSchedule
  refine SameO.ite (f := outSt) ?_ ?_
  · refine SameO.out_next ?_
    refine Same.step (scheduleNext_same ..) ?_
    refine Same.step (noteStalls_same ..) ?_
    exact Same.refl _ _
  · refine SameO.out_next ?_
    exact Same.refl _ _

end Sys2Proof.Machine
end

