-- ==== Sys2Proof/Laws/KeepPages.lean ====
section
/-! SUPPORT. What each operation of Machine/Pages.lean leaves alone: the parts it may write, as a number, and all else kept. -/

set_option linter.unusedVariables false

namespace Sys2Proof.Machine

set_option Elab.async false

theorem noteEncoded_same (s : State) (hs : List BHdr) : Same 4 s (noteEncoded s hs) := by
  have h0 := Same.refl 4 s
  unfold noteEncoded
  extract_lets +onlyGivenNames x_1
  have h_2 : Same 4 s x_1 := by
    subst x_1
    refine Same.step (bumpBy_same ..) ?_
    exact Same.refl _ _
  clear_value x_1
  extract_lets +onlyGivenNames x_3
  have h_4 : Same 4 s x_3 := by
    subst x_3
    refine Same.step (bumpBy_same ..) ?_
    exact h_2
  clear_value x_3
  refine Same.step (bumpBy_same ..) ?_
  exact h_4

theorem freeLoc_same (s : State) (l : Loc) : Same 2048 s (freeLoc s l) := by
  have h0 := Same.refl 2048 s
  unfold freeLoc
  split
  · rename_i a_1 a_2 a_3 a_4 a_5
    refine Same.step (Same.set_tier ..) ?_
    exact Same.refl _ _
  · rename_i a_6 a_7 a_8 a_9
    refine Same.step (Same.set_tier ..) ?_
    exact Same.refl _ _
  · rename_i a_10 a_11 a_12
    refine Same.step (Same.set_tier ..) ?_
    exact Same.refl _ _

theorem takeUnits_same (s : State) (p : Nat) (n : Nat) : Same 2048 s (takeUnits s p n).2 := by
  have h0 := Same.refl 2048 s
  unfold takeUnits
  extract_lets +onlyGivenNames x_1
  refine Same.pair2 ?_
  refine Same.step (Same.set_tier ..) ?_
  exact Same.refl _ _

theorem t1Fit_same (s : State) (line : Nat) (d : Line) (poison : Bool) : SameO 34359740420 s (t1Fit s line d poison) := by
  have h0 := Same.refl 34359740420 s
  unfold t1Fit
  split
  · rename_i a_1 a_2
    refine SameO.yes ?_
    exact Same.refl _ _
  · rename_i a_3 a_4 a_5
    split
    · rename_i a_6 a_7
      refine SameO.yes ?_
      exact Same.refl _ _
    · rename_i a_8 a_9 a_10
      split
      · rename_i a_11 a_12 a_13 a_14 a_15
        refine SameO.ite0 ?_ ?_
        · refine SameO.yes ?_
          exact Same.refl _ _
        · extract_lets +onlyGivenNames x_16
          extract_lets +onlyGivenNames x_17
          extract_lets +onlyGivenNames x_18
          extract_lets +onlyGivenNames x_19
          extract_lets +onlyGivenNames x_20
          subst x_20
          dsimp -zeta -zetaHave only
          refine SameO.ite0 ?_ ?_
          · refine SameO.yes ?_
            refine Same.step (noteEncoded_same ..) ?_
            refine Same.ite0 ?_ ?_
            · exact Same.refl _ _
            · refine Same.step (bump_same ..) ?_
              exact Same.refl _ _
          · extract_lets +onlyGivenNames x_21
            clear_value x_21
            split
            · rename_i a_22
              exact SameO.no
            · rename_i a_23 a_24
              refine SameO.yes ?_
              refine Same.step (bump_same ..) ?_
              refine Same.step (noteEncoded_same ..) ?_
              refine Same.ite0 ?_ ?_
              · refine Same.step (freeLoc_same ..) ?_
                refine Same.step (setBack_same ..) ?_
                refine Same.step (takeUnits_same ..) ?_
                exact Same.refl _ _
              · refine Same.step (bump_same ..) ?_
                refine Same.step (freeLoc_same ..) ?_
                refine Same.step (setBack_same ..) ?_
                refine Same.step (takeUnits_same ..) ?_
                exact Same.refl _ _
      · rename_i a_25 a_26
        refine SameO.yes ?_
        exact Same.refl _ _

theorem t1Keep_same (s : State) (line : Nat) (d : Line) (poison : Bool) : Same 34359740420 s (t1Keep s line d poison).2 := by
  have h0 := Same.refl 34359740420 s
  unfold t1Keep
  split
  · rename_i a_1 a_2 a_3
    have h_4 : Same 34359740420 s a_2 := by
      refine SameO.some ?_ a_3
      refine SameO.pass (t1Fit_same ..) ?_
      exact Same.refl _ _
    refine Same.pair2 ?_
    exact h_4
  · rename_i a_5 a_6
    refine Same.pair2 ?_
    refine Same.step (bump_same ..) ?_
    exact Same.refl _ _

theorem touchAge_same (s : State) (off : Nat) : Same 34359738368 s (touchAge s off) := by
  have h0 := Same.refl 34359738368 s
  unfold touchAge
  split
  · rename_i a_1 a_2
    exact Same.refl _ _
  · rename_i a_3 a_4 a_5
    split
    · rename_i a_6 a_7 a_8
      refine Same.step (setBack_same ..) ?_
      exact Same.refl _ _
    · rename_i a_9 a_10
      exact Same.refl _ _

theorem takeT1_same (s : State) (mask : Nat) : SameO 2048 s (sndSt (takeT1 s mask)) := by
  have h0 := Same.refl 2048 s
  unfold takeT1
  split
  · rename_i a_1 a_2
    exact SameO.snd_none
  · rename_i a_3 a_4 a_5
    split
    · rename_i a_6 a_7 a_8 a_9
      have h_10 : Same 2048 s a_8 := by
        refine Same.of2 ?_ a_9
        refine Same.step (takeUnits_same ..) ?_
        exact Same.refl _ _
      refine SameO.snd_some ?_
      refine Same.step (Same.set_tier ..) ?_
      exact h_10

theorem useT0_same (s : State) (l : Loc) : Same 2048 s (useT0 s l) := by
  have h0 := Same.refl 2048 s
  unfold useT0
  refine Same.step (Same.set_tier ..) ?_
  exact Same.refl _ _

theorem takeFrame_same (s : State) (st : Nat) : SameO 2048 s (sndSt (takeFrame s st)) := by
  have h0 := Same.refl 2048 s
  unfold takeFrame
  split
  · rename_i a_1 a_2
    exact SameO.snd_none
  · rename_i a_3 a_4 a_5
    split
    · rename_i a_6 a_7
      exact SameO.snd_none
    · rename_i a_8 a_9 a_10
      extract_lets +onlyGivenNames x_11
      refine SameO.snd_some ?_
      refine Same.step (useT0_same ..) ?_
      refine Same.step (Same.set_tier ..) ?_
      exact Same.refl _ _

theorem takeOn_same (s : State) (among : List Nat) : SameO 2048 s (sndSt (takeOn s among)) := by
  have h0 := Same.refl 2048 s
  unfold takeOn
  split
  · rename_i a_1 a_2
    exact SameO.snd_none
  · rename_i a_3 a_4 a_5
    split
    · rename_i a_6 a_7 a_8 a_9
      have h_10 : Same 2048 s a_8 := by
        refine SameO.of (o := sndSt _) ?_ (congrArg sndSt a_9)
        refine SameO.pass (takeFrame_same ..) ?_
        exact Same.refl _ _
      refine SameO.snd_some ?_
      refine Same.step (Same.set_tier ..) ?_
      exact h_10
    · rename_i a_11 a_12
      exact SameO.snd_none

theorem takeT0_same (s : State) (mask : Nat) : SameO 2048 s (sndSt (takeT0 s mask)) := by
  have h0 := Same.refl 2048 s
  unfold takeT0
  refine SameO.pass (takeOn_same ..) ?_
  exact Same.refl _ _

theorem takeT2_same (s : State) : SameO 2048 s (sndSt (takeT2 s)) := by
  have h0 := Same.refl 2048 s
  unfold takeT2
  split
  · rename_i a_1 a_2 a_3
    refine SameO.snd_some ?_
    refine Same.step (Same.set_tier ..) ?_
    exact Same.refl _ _
  · rename_i a_4 a_5
    exact SameO.snd_none

theorem takeLoc_same (s : State) (t : Tier) (stackMask : Nat) (trayMask : Nat) : SameO 2048 s (sndSt (takeLoc s t stackMask trayMask)) := by
  have h0 := Same.refl 2048 s
  unfold takeLoc
  split
  · rename_i a_1
    refine SameO.pass (takeT0_same ..) ?_
    exact Same.refl _ _
  · rename_i a_2
    refine SameO.pass (takeT1_same ..) ?_
    exact Same.refl _ _
  · rename_i a_3
    refine SameO.pass (takeT2_same ..) ?_
    exact Same.refl _ _

theorem findLoc_same (s : State) (x : Extent) (page : Nat) (b3 : List Tier) : SameO 2048 s (sndSt (findLoc s x page b3)) := by
  induction b3 generalizing s x page
  · have h_1 := Same.refl 2048 s
    unfold findLoc
    exact SameO.snd_none
  · rename_i i_2 i_3 i_4
    have h_5 := Same.refl 2048 s
    unfold findLoc
    extract_lets +onlyGivenNames x_6
    refine SameO.ite (f := sndSt) ?_ ?_
    · split
      · rename_i a_7 a_8 a_9
        have h_10 : Same 2048 s a_8.2 := by
          refine SameO.of (o := sndSt _) ?_ (congrArg sndSt a_9)
          refine SameO.pass (takeLoc_same ..) ?_
          exact Same.refl _ _
        refine SameO.snd_some ?_
        exact h_10
      · rename_i a_11 a_12
        refine SameO.pass (i_4 ..) ?_
        exact Same.refl _ _
    · refine SameO.pass (i_4 ..) ?_
      exact Same.refl _ _

theorem fitUnits_same (s : State) (l : Loc) (n : Nat) : Same 2048 s (fitUnits s l n).2 := by
  have h0 := Same.refl 2048 s
  unfold fitUnits
  split
  · rename_i a_1 a_2 a_3 a_4
    refine Same.pair2 ?_
    refine Same.step (Same.set_tier ..) ?_
    exact Same.refl _ _
  · rename_i a_5 a_6
    refine Same.pair2 ?_
    exact Same.refl _ _

theorem trimPage_same (s : State) (id : Nat) : Same 34359740416 s (trimPage s id) := by
  have h0 := Same.refl 34359740416 s
  unfold trimPage
  split
  · rename_i a_1 a_2
    exact Same.refl _ _
  · rename_i a_3 a_4 a_5
    refine Same.ite0 ?_ ?_
    · split
      · rename_i a_6 a_7 a_8 a_9
        have h_10 : Same 34359740416 s a_8 := by
          refine Same.of2 ?_ a_9
          refine Same.step (fitUnits_same ..) ?_
          exact Same.refl _ _
        refine Same.step (setBack_same ..) ?_
        exact h_10
    · exact Same.refl _ _

theorem fitPage_same (s : State) (id : Nat) : Same 34359740420 s (fitPage s id) := by
  have h0 := Same.refl 34359740420 s
  unfold fitPage
  refine Same.ite0 ?_ ?_
  · refine Same.step (trimPage_same ..) ?_
    refine Same.step (noteEncoded_same ..) ?_
    exact Same.refl _ _
  · exact Same.refl _ _

theorem newBack_same (s : State) (loc : Loc) (charge : Key) (sectors : BitVec 16) : Same 103079215104 s (newBack s loc charge sectors).2 := by
  have h0 := Same.refl 103079215104 s
  unfold newBack
  extract_lets +onlyGivenNames x_1
  refine Same.pair2 ?_
  refine Same.step (Same.set_pool_backs_nextBack ..) ?_
  exact Same.refl _ _

theorem setPage_same (s : State) (page : Nat) (id : Nat) : Same 17179869184 s (setPage s page id) := by
  have h0 := Same.refl 17179869184 s
  unfold setPage
  refine Same.step (Same.set_pool_pages ..) ?_
  exact Same.refl _ _

theorem allocPage_same (s : State) (page : Nat) (x : Extent) : SameO 120259086340 s (allocPage s page x) := by
  have h0 := Same.refl 120259086340 s
  unfold allocPage
  split
  · rename_i a_1 a_2
    exact SameO.no
  · rename_i a_3 a_4 a_5 a_6
    have h_7 : Same 120259086340 s a_5 := by
      refine SameO.of (o := sndSt _) ?_ (congrArg sndSt a_6)
      refine SameO.pass (findLoc_same ..) ?_
      exact Same.refl _ _
    split
    · rename_i a_8 a_9 a_10 a_11
      have h_12 : Same 120259086340 s a_10 := by
        refine Same.of2 ?_ a_11
        refine Same.step (newBack_same ..) ?_
        exact h_7
      refine SameO.yes ?_
      refine Same.step (fitPage_same ..) ?_
      refine Same.step (setPage_same ..) ?_
      exact h_12

theorem revivePage_same (s : State) (page : Nat) (id : Nat) (b : Back) (x : Extent) : SameO 309237647364 s (revivePage s page id b x) := by
  have h0 := Same.refl 309237647364 s
  unfold revivePage
  split
  · rename_i a_1 a_2
    exact SameO.no
  · rename_i a_3 a_4 a_5 a_6
    have h_7 : Same 309237647364 s a_5 := by
      refine SameO.of (o := sndSt _) ?_ (congrArg sndSt a_6)
      refine SameO.pass (findLoc_same ..) ?_
      exact Same.refl _ _
    extract_lets +onlyGivenNames x_8
    have h_9 : Same 309237647364 s x_8 := by
      subst x_8
      refine Same.step (setBack_same ..) ?_
      exact h_7
    clear_value x_8
    extract_lets +onlyGivenNames x_10
    refine SameO.yes ?_
    refine Same.step (fitPage_same ..) ?_
    refine Same.step (Same.set_pool_poisonLines ..) ?_
    exact h_9

theorem ensureFor_same (s : State) (xs : List Extent) (off : Nat) : SameO 395136993284 s (ensureFor s xs off) := by
  have h0 := Same.refl 395136993284 s
  unfold ensureFor
  split
  · rename_i a_1 a_2 a_3 a_4 a_5 a_6
    refine SameO.ite0 ?_ ?_
    · refine SameO.bind ?_
      intro a_7 a_8
      refine SameO.pass (revivePage_same ..) ?_
      exact Same.refl _ _
    · refine SameO.yes ?_
      exact Same.refl _ _
  · rename_i a_9 a_10 a_11 a_12 a_13
    refine SameO.yes ?_
    exact Same.refl _ _
  · rename_i a_14 a_15 a_16 a_17 a_18
    refine SameO.pass (allocPage_same ..) ?_
    exact Same.refl _ _
  · rename_i a_19 a_20 a_21 a_22
    exact SameO.no

theorem loseBack_same (s : State) (id : Nat) : Same 309237645312 s (loseBack s id) := by
  have h0 := Same.refl 309237645312 s
  unfold loseBack
  split
  · rename_i a_1 a_2
    exact Same.refl _ _
  · rename_i a_3 a_4 a_5
    split
    · rename_i a_6 a_7 a_8
      extract_lets +onlyGivenNames x_9
      extract_lets +onlyGivenNames x_10
      have h_11 : Same 309237645312 s x_10 := by
        subst x_10
        refine Same.step (setBack_same ..) ?_
        exact Same.refl _ _
      clear_value x_10
      extract_lets +onlyGivenNames x_12
      refine Same.step (Same.set_pool_poisonLines ..) ?_
      exact h_11
    · rename_i a_13 a_14
      refine Same.step (setBack_same ..) ?_
      exact Same.refl _ _

theorem dropCopy_same (s : State) (id : Nat) : Same 34359740416 s (dropCopy s id) := by
  have h0 := Same.refl 34359740416 s
  unfold dropCopy
  split
  · rename_i a_1 a_2 a_3
    split
    · rename_i a_4 a_5 a_6
      refine Same.step (freeLoc_same ..) ?_
      refine Same.step (setBack_same ..) ?_
      exact Same.refl _ _
    · rename_i a_7 a_8
      exact Same.refl _ _
  · rename_i a_9 a_10
    exact Same.refl _ _

theorem fitCopy_same (s : State) (page : Nat) (id : Nat) (blks : List Nat) : SameO 34359740420 s (fitCopy s page id blks) := by
  have h0 := Same.refl 34359740420 s
  unfold fitCopy
  split
  · rename_i a_1 a_2
    refine SameO.yes ?_
    exact Same.refl _ _
  · rename_i a_3 a_4 a_5
    split
    · rename_i a_6 a_7 a_8 a_9 a_10
      extract_lets +onlyGivenNames x_11
      extract_lets +onlyGivenNames x_12
      extract_lets +onlyGivenNames x_13
      extract_lets +onlyGivenNames x_14
      have h_15 : Same 34359740420 s x_14 := by
        subst x_14
        refine Same.step (noteEncoded_same ..) ?_
        exact Same.refl _ _
      clear_value x_14
      extract_lets +onlyGivenNames x_16
      refine SameO.ite0 ?_ ?_
      · split
        · rename_i a_17 a_18 a_19 a_20
          have h_21 : Same 34359740420 s a_19 := by
            refine Same.of2 ?_ a_20
            refine Same.step (fitUnits_same ..) ?_
            exact h_15
          refine SameO.yes ?_
          refine Same.step (setBack_same ..) ?_
          exact h_21
      · extract_lets +onlyGivenNames x_22
        clear_value x_22
        split
        · rename_i a_23
          exact SameO.no
        · rename_i a_24 a_25
          split
          · rename_i a_26 a_27 a_28 a_29
            have h_30 : Same 34359740420 s a_28 := by
              refine Same.of2 ?_ a_29
              refine Same.step (takeUnits_same ..) ?_
              exact h_15
            refine SameO.yes ?_
            refine Same.step (bump_same ..) ?_
            refine Same.step (freeLoc_same ..) ?_
            refine Same.step (setBack_same ..) ?_
            exact h_30
    · rename_i a_31 a_32
      refine SameO.yes ?_
      exact Same.refl _ _

theorem noteDecoded_same (s : State) (id : Nat) (blks : List Nat) : Same 4 s (noteDecoded s id blks) := by
  have h0 := Same.refl 4 s
  unfold noteDecoded
  refine Same.step (bumpBy_same ..) ?_
  exact Same.refl _ _

theorem takeBank_same (s : State) (st : Nat) (bank : Nat) : SameO 2048 s (sndSt (takeBank s st bank)) := by
  have h0 := Same.refl 2048 s
  unfold takeBank
  split
  · rename_i a_1 a_2
    exact SameO.snd_none
  · rename_i a_3 a_4 a_5
    extract_lets +onlyGivenNames x_6
    refine SameO.snd_some ?_
    refine Same.step (useT0_same ..) ?_
    exact Same.refl _ _

theorem setStack_same (s : State) (st : Nat) (r : StackRec) : Same 8192 s (setStack s st r) := by
  have h0 := Same.refl 8192 s
  unfold setStack
  refine Same.step (Same.set_stk ..) ?_
  exact Same.refl _ _

theorem moveT0_same (s : State) (mask : Nat) : SameO 2048 s (sndSt (moveT0 s mask)) := by
  have h0 := Same.refl 2048 s
  unfold moveT0
  refine SameO.pass (takeOn_same ..) ?_
  exact Same.refl _ _

theorem moveLoc_same (s : State) (t : Tier) (stackMask : Nat) (trayMask : Nat) : SameO 2048 s (sndSt (moveLoc s t stackMask trayMask)) := by
  have h0 := Same.refl 2048 s
  unfold moveLoc
  split
  · rename_i a_1
    refine SameO.pass (moveT0_same ..) ?_
    exact Same.refl _ _
  · rename_i a_2
    refine SameO.pass (takeT1_same ..) ?_
    exact Same.refl _ _
  · rename_i a_3
    refine SameO.pass (takeT2_same ..) ?_
    exact Same.refl _ _

theorem dropPage_same (s : State) (page : Nat) : Same 17179869184 s (dropPage s page) := by
  have h0 := Same.refl 17179869184 s
  unfold dropPage
  refine Same.step (Same.set_pool_pages ..) ?_
  exact Same.refl _ _

theorem releaseBack_same (s : State) (id : Nat) : Same 1133871366144 s (releaseBack s id) := by
  have h0 := Same.refl 1133871366144 s
  unfold releaseBack
  refine Same.ite0 ?_ ?_
  · exact Same.refl _ _
  · split
    · rename_i a_1 a_2 a_3
      extract_lets +onlyGivenNames x_4
      have h_5 : Same 1133871366144 s x_4 := by
        subst x_4
        refine Same.step (setBack_same ..) ?_
        exact Same.refl _ _
      clear_value x_4
      refine Same.step (Same.set_pool_scrub ..) ?_
      exact h_5
    · rename_i a_6 a_7
      exact Same.refl _ _

end Sys2Proof.Machine
end

