-- ==== Sys2Proof/Laws/KeepObjOps.lean ====
section
/-! SUPPORT. What each operation of Machine/ObjOps.lean leaves alone: the parts it may write, as a number, and all else kept. -/

set_option linter.unusedVariables false

namespace Sys2Proof.Machine

set_option Elab.async false

theorem cowStart_same (s : State) (xs : List Extent) (off : Nat) (i : Nat) (k : Nat) (idx : Nat) (src : Nat) : SameO 103079218176 s (readySt (cowStart s xs off i k idx src)) := by
  have h0 := Same.refl 103079218176 s
  unfold cowStart
  refine SameO.ite (f := readySt) ?_ ?_
  · refine SameO.ready_wait ?_
    exact Same.refl _ _
  · split
    · rename_i a_1 a_2 a_3 a_4 a_5 a_6
      split
      · rename_i a_7 a_8
        exact SameO.ready_quota
      · rename_i a_9 a_10 a_11 a_12
        have h_13 : Same 103079218176 s a_11 := by
          refine SameO.of (o := sndSt _) ?_ (congrArg sndSt a_12)
          refine SameO.pass (findLoc_same ..) ?_
          exact Same.refl _ _
        split
        · rename_i a_14 a_15 a_16 a_17
          have h_18 : Same 103079218176 s a_16 := by
            refine Same.of2 ?_ a_17
            refine Same.step (newBack_same ..) ?_
            exact h_13
          refine SameO.ready_wait ?_
          refine Same.step (Same.set_obj ..) ?_
          exact h_18
    · rename_i a_19 a_20 a_21
      exact SameO.ready_quota

theorem setSlot_same (s : State) (i : Nat) (k : Nat) (l : Slot) : Same 1024 s (setSlot s i k l) := by
  have h0 := Same.refl 1024 s
  unfold setSlot
  refine Same.step (Same.set_obj ..) ?_
  exact Same.refl _ _

theorem readyForWrite_same (s : State) (xs : List Extent) (off : Nat) : SameO 395136994308 s (readySt (readyForWrite s xs off)) := by
  have h0 := Same.refl 395136994308 s
  unfold readyForWrite
  split
  · rename_i a_1 a_2 a_3 a_4 a_5
    extract_lets +onlyGivenNames x_6
    extract_lets +onlyGivenNames x_7
    split
    · rename_i a_8 a_9 a_10
      refine SameO.ite (f := readySt) ?_ ?_
      · split
        · rename_i a_11 a_12 a_13
          have h_14 : Same 395136994308 s a_12 := by
            refine SameO.some ?_ a_13
            refine SameO.pass (ensureFor_same ..) ?_
            exact Same.refl _ _
          refine SameO.ready_ok ?_
          exact h_14
        · rename_i a_15 a_16
          exact SameO.ready_quota
      · refine SameO.pass (cowStart_same ..) ?_
        exact Same.refl _ _
    · rename_i a_17 a_18
      split
      · rename_i a_19 a_20 a_21
        have h_22 : Same 395136994308 s a_20 := by
          refine SameO.some ?_ a_21
          refine SameO.pass (ensureFor_same ..) ?_
          exact Same.refl _ _
        split
        · rename_i a_23 a_24 a_25
          refine SameO.ready_ok ?_
          refine Same.step (setSlot_same ..) ?_
          exact h_22
        · rename_i a_26 a_27
          refine SameO.ready_ok ?_
          exact h_22
      · rename_i a_28 a_29
        exact SameO.ready_quota
  · rename_i a_30 a_31
    split
    · rename_i a_32 a_33 a_34
      have h_35 : Same 395136994308 s a_33 := by
        refine SameO.some ?_ a_34
        refine SameO.pass (ensureFor_same ..) ?_
        exact Same.refl _ _
      refine SameO.ready_ok ?_
      exact h_35
    · rename_i a_36 a_37
      exact SameO.ready_quota

theorem setShelf_same (s : State) (i : Nat) (x : Shelf) : Same 1024 s (setShelf s i x) := by
  have h0 := Same.refl 1024 s
  unfold setShelf
  refine Same.step (Same.set_obj ..) ?_
  exact Same.refl _ _

theorem touchLazy_same (s : State) (page : Nat) : Same 2052 s (touchLazy s page) := by
  have h0 := Same.refl 2052 s
  unfold touchLazy
  split
  · rename_i a_1 a_2 a_3
    refine Same.step (bump_same ..) ?_
    refine Same.step (Same.set_tier ..) ?_
    exact Same.refl _ _
  · rename_i a_4 a_5 a_6
    refine Same.step (bump_same ..) ?_
    exact Same.refl _ _
  · rename_i a_7 a_8
    exact Same.refl _ _

end Sys2Proof.Machine
end

