-- ==== Sys2Proof/Laws/KeepHome.lean ====
section
/-! SUPPORT. What each operation of Machine/Home.lean leaves alone: the parts it may write, as a number, and all else kept. -/

set_option linter.unusedVariables false

namespace Sys2Proof.Machine

set_option Elab.async false

theorem endTrans_same (s : State) (line : Nat) : Same 128 s (endTrans s line) := by
  have h0 := Same.refl 128 s
  unfold endTrans
  split
  · rename_i a_1 a_2
    exact Same.refl _ _
  · rename_i a_3 a_4 a_5
    refine Same.ite0 ?_ ?_
    · refine Same.step (dropTrans_same ..) ?_
      exact Same.refl _ _
    · exact Same.refl _ _

theorem settleOwner_same (s : State) (line : Nat) (t : Trans) : Same 128 s (settleOwner s line t) := by
  have h0 := Same.refl 128 s
  unfold settleOwner
  split
  · rename_i a_1 a_2 a_3
    refine Same.ite0 ?_ ?_
    · refine Same.step (dropDir_same ..) ?_
      exact Same.refl _ _
    · exact Same.refl _ _
  · rename_i a_4 a_5
    exact Same.refl _ _

theorem replyRead_same (s : State) (line : Nat) (t : Trans) (r : Req) (d : Line) (poison : Bool) : Same 140 s (replyRead s line t r d poison) := by
  have h0 := Same.refl 140 s
  unfold replyRead
  extract_lets +onlyGivenNames x_1
  extract_lets +onlyGivenNames x_2
  subst x_2
  dsimp -zeta -zetaHave only
  refine Same.ite0 ?_ ?_
  · extract_lets +onlyGivenNames x_3
    have h_4 : Same 140 s x_3 := by
      subst x_3
      refine Same.step (setTrans_same ..) ?_
      refine Same.step (settleOwner_same ..) ?_
      exact Same.refl _ _
    clear_value x_3
    refine Same.step (endTrans_same ..) ?_
    refine Same.step (completeReq_same ..) ?_
    exact h_4
  · refine Same.ite0 ?_ ?_
    · split
      · rename_i a_5 a_6
        extract_lets +onlyGivenNames x_7
        have h_8 : Same 140 s x_7 := by
          subst x_7
          refine Same.step (setTrans_same ..) ?_
          refine Same.step (dropDir_same ..) ?_
          exact Same.refl _ _
        clear_value x_7
        refine Same.step (endTrans_same ..) ?_
        refine Same.step (completeReq_same ..) ?_
        exact h_8
      · rename_i a_9 a_10 a_11 a_12
        extract_lets +onlyGivenNames x_13
        have h_14 : Same 140 s x_13 := by
          subst x_13
          refine Same.step (setTrans_same ..) ?_
          refine Same.step (newDir_same ..) ?_
          exact Same.refl _ _
        clear_value x_13
        refine Same.step (endTrans_same ..) ?_
        refine Same.step (completeReq_same ..) ?_
        exact h_14
    · split
      · rename_i a_15 a_16
        split
        · rename_i a_17 a_18 a_19
          refine Same.ite0 ?_ ?_
          · extract_lets +onlyGivenNames x_20
            have h_21 : Same 140 s x_20 := by
              subst x_20
              refine Same.step (setTrans_same ..) ?_
              refine Same.step (newDir_same ..) ?_
              exact Same.refl _ _
            clear_value x_20
            refine Same.step (endTrans_same ..) ?_
            refine Same.step (completeReq_same ..) ?_
            exact h_21
          · extract_lets +onlyGivenNames x_22
            extract_lets +onlyGivenNames x_23
            have h_24 : Same 140 s x_23 := by
              subst x_23
              refine Same.step (setTrans_same ..) ?_
              refine Same.step (newDir_same ..) ?_
              exact Same.refl _ _
            clear_value x_23
            refine Same.step (endTrans_same ..) ?_
            refine Same.step (completeReq_same ..) ?_
            exact h_24
        · rename_i a_25 a_26
          refine Same.ite0 ?_ ?_
          · extract_lets +onlyGivenNames x_27
            have h_28 : Same 140 s x_27 := by
              subst x_27
              refine Same.step (setTrans_same ..) ?_
              refine Same.step (newDir_same ..) ?_
              exact Same.refl _ _
            clear_value x_27
            refine Same.step (endTrans_same ..) ?_
            refine Same.step (completeReq_same ..) ?_
            exact h_28
          · extract_lets +onlyGivenNames x_29
            have h_30 : Same 140 s x_29 := by
              subst x_29
              refine Same.step (setTrans_same ..) ?_
              refine Same.step (newDir_same ..) ?_
              exact Same.refl _ _
            clear_value x_29
            refine Same.step (endTrans_same ..) ?_
            refine Same.step (completeReq_same ..) ?_
            exact h_30
      · rename_i a_31 a_32
        extract_lets +onlyGivenNames x_33
        have h_34 : Same 140 s x_33 := by
          subst x_33
          refine Same.step (setTrans_same ..) ?_
          refine Same.step (newDir_same ..) ?_
          exact Same.refl _ _
        clear_value x_33
        refine Same.step (endTrans_same ..) ?_
        refine Same.step (completeReq_same ..) ?_
        exact h_34

theorem telCount_same (s : State) (r : Req) (k : Nat) : Same 4 s (telCount s r k) := by
  have h0 := Same.refl 4 s
  unfold telCount
  refine Same.ite0 ?_ ?_
  · exact Same.refl _ _
  · refine Same.step (bump_same ..) ?_
    exact Same.refl _ _

theorem refuseQuota_same (s : State) (r : Req) : Same 140 s (refuseQuota s r) := by
  have h0 := Same.refl 140 s
  unfold refuseQuota
  refine Same.step (refuseHome_same ..) ?_
  refine Same.step (telCount_same ..) ?_
  exact Same.refl _ _

theorem refuseGrow_same (s : State) (line : Nat) (t : Trans) (r : Req) : Same 34360920204 s (refuseGrow s line t r) := by
  have h0 := Same.refl 34360920204 s
  unfold refuseGrow
  extract_lets +onlyGivenNames x_1
  have h_2 : Same 34360920204 s x_1 := by
    subst x_1
    refine Same.step (refuseQuota_same ..) ?_
    refine Same.step (bump_same ..) ?_
    exact Same.refl _ _
  clear_value x_1
  extract_lets +onlyGivenNames x_3
  split
  · rename_i a_4 a_5
    refine Same.step (endTrans_same ..) ?_
    refine Same.step (setTrans_same ..) ?_
    exact h_2
  · rename_i a_6 a_7 a_8
    split
    · rename_i a_9 a_10 a_11 a_12
      have h_13 : Same 34360920204 s a_11 := by
        refine Same.of2 ?_ a_12
        refine Same.step (t1Keep_same ..) ?_
        exact h_2
      refine Same.step (setTrans_same ..) ?_
      refine Same.step (askMem_same ..) ?_
      exact h_13

theorem startWrite_same (s : State) (line : Nat) (t : Trans) (r : Req) (w : HomeWrote) : Same 34360920204 s (startWrite s line t r w) := by
  have h0 := Same.refl 34360920204 s
  unfold startWrite
  extract_lets +onlyGivenNames x_1
  have h_2 : Same 34360920204 s x_1 := by
    subst x_1
    refine Same.step (dropDir_same ..) ?_
    exact Same.refl _ _
  clear_value x_1
  split
  · rename_i a_3 a_4
    refine Same.step (refuseGrow_same ..) ?_
    exact h_2
  · rename_i a_5 a_6 a_7
    have h_8 : Same 34360920204 s a_6 := by
      refine SameO.some ?_ a_7
      refine SameO.pass (t1Fit_same ..) ?_
      exact h_2
    refine Same.step (setTrans_same ..) ?_
    refine Same.step (askMem_same ..) ?_
    exact h_8

theorem recallDir_same (s : State) (line : Nat) (k : RecallKind) (t : Trans) : Same 128 s (recallDir s line k t) := by
  have h0 := Same.refl 128 s
  unfold recallDir
  split
  · rename_i a_1
    refine Same.step (dropDir_same ..) ?_
    exact Same.refl _ _
  · rename_i a_2
    refine Same.step (dropDir_same ..) ?_
    exact Same.refl _ _
  · rename_i a_3
    refine Same.step (settleOwner_same ..) ?_
    exact Same.refl _ _
  · rename_i a_4
    split
    · rename_i a_5 a_6
      exact Same.refl _ _
    · rename_i a_7 a_8 a_9
      refine Same.ite0 ?_ ?_
      · exact Same.refl _ _
      · split
        · rename_i a_10 a_11
          refine Same.step (dropDir_same ..) ?_
          exact Same.refl _ _
        · rename_i a_12 a_13 a_14 a_15
          refine Same.step (newDir_same ..) ?_
          exact Same.refl _ _

theorem progress_same (s : State) (line : Nat) : Same 34360920204 s (progress s line) := by
  have h0 := Same.refl 34360920204 s
  unfold progress
  split
  · rename_i a_1 a_2
    exact Same.refl _ _
  · rename_i a_3 a_4 a_5
    refine Same.ite0 ?_ ?_
    · exact Same.refl _ _
    · split
      · rename_i a_6 a_7 a_8 a_9
        refine Same.ite0 ?_ ?_
        · refine Same.step (endTrans_same ..) ?_
          exact Same.refl _ _
        · refine Same.step (endTrans_same ..) ?_
          refine Same.step (setTrans_same ..) ?_
          refine Same.step (recallDir_same ..) ?_
          exact Same.refl _ _
      · rename_i a_10 a_11 a_12
        refine Same.ite0 ?_ ?_
        · refine Same.ite0 ?_ ?_
          · refine Same.step (endTrans_same ..) ?_
            exact Same.refl _ _
          · extract_lets +onlyGivenNames x_13
            refine Same.step (startWrite_same ..) ?_
            exact Same.refl _ _
        · refine Same.ite0 ?_ ?_
          · refine Same.step (endTrans_same ..) ?_
            exact Same.refl _ _
          · split
            · rename_i a_14 a_15 a_16 a_17
              refine Same.step (replyRead_same ..) ?_
              exact Same.refl _ _
            · rename_i a_18 a_19
              exact Same.refl _ _

theorem acceptWb_same (s : State) (line : Nat) (src : Endpoint) (data : Line) (poison : Bool) : Same 34360920204 s (acceptWb s line src data poison) := by
  have h0 := Same.refl 34360920204 s
  unfold acceptWb
  extract_lets +onlyGivenNames x_1
  have h_2 : Same 34360920204 s x_1 := by
    subst x_1
    refine Same.step (touchAge_same ..) ?_
    refine Same.step (bump_same ..) ?_
    exact Same.refl _ _
  clear_value x_1
  extract_lets +onlyGivenNames x_3
  extract_lets +onlyGivenNames x_4
  have h_5 : Same 34360920204 s x_4 := by
    subst x_4
    refine Same.ite0 ?_ ?_
    · refine Same.step (dropDir_same ..) ?_
      exact h_2
    · exact h_2
  clear_value x_4
  extract_lets +onlyGivenNames x_6
  subst x_6
  dsimp -zeta -zetaHave only
  split
  · rename_i a_7 a_8
    extract_lets +onlyGivenNames x_9
    have h_10 : Same 34360920204 s x_9 := by
      subst x_9
      refine Same.step (askMem_same ..) ?_
      refine Same.step (t1Keep_same ..) ?_
      exact h_5
    clear_value x_9
    refine Same.step (markDirty_same ..) ?_
    refine Same.step (Same.set_coh ..) ?_
    exact h_10
  · rename_i a_11 a_12 a_13
    extract_lets +onlyGivenNames x_14
    split
    · rename_i a_15 a_16 a_17
      refine Same.step (progress_same ..) ?_
      refine Same.step (setTrans_same ..) ?_
      exact h_5
    · rename_i a_18 a_19 a_20
      extract_lets +onlyGivenNames x_21
      have h_22 : Same 34360920204 s x_21 := by
        subst x_21
        refine Same.step (modStat_same ..) ?_
        exact h_5
      clear_value x_21
      refine Same.step (progress_same ..) ?_
      extract_lets +onlyGivenNames x_23
      have h_24 : Same 34360920204 s x_23 := by
        subst x_23
        refine Same.step (askMem_same ..) ?_
        refine Same.step (t1Keep_same ..) ?_
        refine Same.step (setTrans_same ..) ?_
        exact h_22
      clear_value x_23
      refine Same.step (markDirty_same ..) ?_
      refine Same.step (Same.set_coh ..) ?_
      exact h_24
    · rename_i a_25 a_26 a_27 a_28 a_29 a_30
      extract_lets +onlyGivenNames x_31
      have h_32 : Same 34360920204 s x_31 := by
        subst x_31
        refine Same.step (modStat_same ..) ?_
        exact h_5
      clear_value x_31
      refine Same.step (progress_same ..) ?_
      extract_lets +onlyGivenNames x_33
      have h_34 : Same 34360920204 s x_33 := by
        subst x_33
        refine Same.step (askMem_same ..) ?_
        refine Same.step (t1Keep_same ..) ?_
        refine Same.step (setTrans_same ..) ?_
        exact h_32
      clear_value x_33
      refine Same.step (markDirty_same ..) ?_
      refine Same.step (Same.set_coh ..) ?_
      exact h_34
    · rename_i a_35 a_36 a_37
      refine Same.step (progress_same ..) ?_
      extract_lets +onlyGivenNames x_38
      have h_39 : Same 34360920204 s x_38 := by
        subst x_38
        refine Same.step (askMem_same ..) ?_
        refine Same.step (t1Keep_same ..) ?_
        refine Same.step (setTrans_same ..) ?_
        exact h_5
      clear_value x_38
      refine Same.step (markDirty_same ..) ?_
      refine Same.step (Same.set_coh ..) ?_
      exact h_39

theorem ackWb_same (s : State) (part : Nat) (port : Nat) (src : Endpoint) (tag : Nat) : Same 128 s (ackWb s part port src tag) := by
  have h0 := Same.refl 128 s
  unfold ackWb
  refine Same.step (Same.set_coh ..) ?_
  exact Same.refl _ _

theorem checkEnter_same (s : State) (line : Nat) : Same 644 s (checkEnter s line) := by
  have h0 := Same.refl 644 s
  unfold checkEnter
  split
  · rename_i a_1 a_2
    exact Same.refl _ _
  · rename_i a_3 a_4 a_5
    extract_lets +onlyGivenNames x_6
    refine Same.ite0 ?_ ?_
    · split
      · rename_i a_7 a_8 a_9 a_10
        have h_11 : Same 644 s a_9 := by
          refine Same.of2 ?_ a_10
          refine Same.step (newTag_same ..) ?_
          exact Same.refl _ _
        extract_lets +onlyGivenNames x_12
        have h_13 : Same 644 s x_12 := by
          subst x_12
          refine Same.step (bump_same ..) ?_
          refine Same.step (setHot_same ..) ?_
          exact h_11
        clear_value x_12
        refine Same.ite0 ?_ ?_
        · refine Same.step (queueRecall_same ..) ?_
          exact h_13
        · exact h_13
    · exact Same.refl _ _

theorem hotRoom_same (s : State) (line : Nat) : SameO 512 s (hotRoom s line) := by
  have h0 := Same.refl 512 s
  unfold hotRoom
  extract_lets +onlyGivenNames x_1
  refine SameO.ite0 ?_ ?_
  · refine SameO.yes ?_
    exact Same.refl _ _
  · extract_lets +onlyGivenNames x_2
    clear_value x_2
    split
    · rename_i a_3
      exact SameO.no
    · rename_i a_4 a_5 a_6
      extract_lets +onlyGivenNames x_7
      refine SameO.yes ?_
      refine Same.step (Same.set_atm ..) ?_
      exact Same.refl _ _

theorem noteTransfer_same (s : State) (line : Nat) : Same 644 s (noteTransfer s line) := by
  have h0 := Same.refl 644 s
  unfold noteTransfer
  split
  · rename_i a_1 a_2 a_3
    refine Same.step (checkEnter_same ..) ?_
    refine Same.step (setHot_same ..) ?_
    exact Same.refl _ _
  · rename_i a_4 a_5
    split
    · rename_i a_6 a_7 a_8
      have h_9 : Same 644 s a_7 := by
        refine SameO.some ?_ a_8
        refine SameO.pass (hotRoom_same ..) ?_
        exact Same.refl _ _
      refine Same.step (checkEnter_same ..) ?_
      refine Same.step (setHot_same ..) ?_
      exact h_9
    · rename_i a_10 a_11
      refine Same.step (bump_same ..) ?_
      exact Same.refl _ _

theorem storeSnoop_same (s : State) (line : Nat) (t : Trans) (d : Line × Bool) : Same 34360920204 s (storeSnoop s line t d) := by
  have h0 := Same.refl 34360920204 s
  unfold storeSnoop
  split
  · rename_i a_1 a_2 a_3 a_4
    have h_5 : Same 34360920204 s a_3 := by
      refine Same.of2 ?_ a_4
      refine Same.step (t1Keep_same ..) ?_
      exact Same.refl _ _
    extract_lets +onlyGivenNames x_6
    have h_7 : Same 34360920204 s x_6 := by
      subst x_6
      refine Same.step (askMem_same ..) ?_
      exact h_5
    clear_value x_6
    refine Same.step (progress_same ..) ?_
    refine Same.step (markDirty_same ..) ?_
    refine Same.step (setTrans_same ..) ?_
    exact h_7

theorem dropOwed_same (s : State) (line : Nat) (h : Holder) (tag : Nat) : Same 128 s (dropOwed s line h tag) := by
  have h0 := Same.refl 128 s
  unfold dropOwed
  split
  · rename_i a_1 a_2
    refine Same.step (Same.set_coh ..) ?_
    exact Same.refl _ _
  · rename_i a_3
    exact Same.refl _ _

theorem answerSnoop_same (s : State) (line : Nat) (h : Holder) (tag : Nat) (a : Ans) (data : Option (Line × Bool)) : Same 34371405996 s (answerSnoop s line h tag a data) := by
  have h0 := Same.refl 34371405996 s
  unfold answerSnoop
  split
  · rename_i a_1 a_2
    refine Same.step (dropOwed_same ..) ?_
    exact Same.refl _ _
  · rename_i a_3 a_4 a_5
    split
    · rename_i a_6 a_7
      refine Same.step (dropOwed_same ..) ?_
      exact Same.refl _ _
    · rename_i a_8 a_9 a_10
      refine Same.ite0 ?_ ?_
      · exact Same.refl _ _
      · extract_lets +onlyGivenNames x_11
        extract_lets +onlyGivenNames x_12
        extract_lets +onlyGivenNames x_13
        have h_14 : Same 34371405996 s x_13 := by
          subst x_13
          refine Same.ite0 ?_ ?_
          · refine Same.step (bump_same ..) ?_
            exact Same.refl _ _
          · exact Same.refl _ _
        clear_value x_13
        extract_lets +onlyGivenNames x_15
        extract_lets +onlyGivenNames x_16
        have h_17 : Same 34371405996 s x_16 := by
          subst x_16
          split
          · rename_i a_18 a_19 a_20 a_21
            extract_lets +onlyGivenNames x_22
            have h_23 : Same 34371405996 s x_22 := by
              subst x_22
              refine Same.step (Same.set_coh ..) ?_
              exact h_14
            clear_value x_22
            refine Same.step (logEvent_same ..) ?_
            exact h_23
          · rename_i a_24 a_25 a_26 a_27
            exact h_14
        clear_value x_16
        extract_lets +onlyGivenNames x_28
        extract_lets +onlyGivenNames x_29
        split
        · rename_i a_30
          refine Same.step (progress_same ..) ?_
          refine Same.step (setTrans_same ..) ?_
          exact h_17
        · rename_i a_31 a_32
          extract_lets +onlyGivenNames x_33
          split
          · rename_i a_34 a_35 a_36
            refine Same.ite0 ?_ ?_
            · refine Same.step (progress_same ..) ?_
              refine Same.step (setTrans_same ..) ?_
              exact h_17
            · refine Same.step (storeSnoop_same ..) ?_
              exact h_17
          · rename_i a_37 a_38 a_39 a_40
            split
            · rename_i a_41
              refine Same.step (progress_same ..) ?_
              refine Same.step (setTrans_same ..) ?_
              exact h_17
            · rename_i a_42
              extract_lets +onlyGivenNames x_43
              have h_44 : Same 34371405996 s x_43 := by
                subst x_43
                refine Same.step (modStat_same ..) ?_
                exact h_17
              clear_value x_43
              refine Same.ite0 ?_ ?_
              · refine Same.step (progress_same ..) ?_
                refine Same.step (setTrans_same ..) ?_
                exact h_44
              · refine Same.step (storeSnoop_same ..) ?_
                exact h_44
            · rename_i a_45 a_46 a_47
              extract_lets +onlyGivenNames x_48
              have h_49 : Same 34371405996 s x_48 := by
                subst x_48
                refine Same.step (modStat_same ..) ?_
                exact h_17
              clear_value x_48
              refine Same.step (storeSnoop_same ..) ?_
              exact h_49

theorem dropFlight_same (s : State) (src : Nat) (tag : Nat) : Same 2199023255552 s (dropFlight s src tag) := by
  have h0 := Same.refl 2199023255552 s
  unfold dropFlight
  refine Same.step (Same.set_pool_flights ..) ?_
  exact Same.refl _ _

theorem atomAnswer_same (s : State) (line : Nat) (r : Req) : SameO 2199023256204 s (atomAnswer s line r) := by
  have h0 := Same.refl 2199023256204 s
  unfold atomAnswer
  refine SameO.ite0 ?_ ?_
  · refine SameO.yes ?_
    refine Same.step (refuseHome_same ..) ?_
    exact Same.refl _ _
  · refine SameO.ite0 ?_ ?_
    · split
      · rename_i a_1 a_2 a_3 a_4
        split
        · rename_i a_5 a_6 a_7
          split
          · rename_i a_8 a_9 a_10 a_11
            extract_lets +onlyGivenNames x_12
            have h_13 : Same 2199023256204 s x_12 := by
              subst x_12
              refine Same.step (groupNote_same ..) ?_
              exact Same.refl _ _
            clear_value x_12
            refine SameO.yes ?_
            refine Same.step (Same.set_coh ..) ?_
            exact h_13
        · rename_i a_14 a_15
          refine SameO.ite0 ?_ ?_
          · exact SameO.no
          · refine SameO.yes ?_
            refine Same.step (dropFlight_same ..) ?_
            refine Same.step (bump_same ..) ?_
            exact Same.refl _ _
      · rename_i a_16 a_17
        exact SameO.no
    · exact SameO.no

theorem keyDrop_same (s : State) (p : Nat) : Same 4 s (keyDrop s p) := by
  have h0 := Same.refl 4 s
  unfold keyDrop
  refine Same.step (bump_same ..) ?_
  exact Same.refl _ _

theorem classDrop_same (s : State) (p : Nat) : Same 4 s (classDrop s p) := by
  have h0 := Same.refl 4 s
  unfold classDrop
  refine Same.step (bump_same ..) ?_
  exact Same.refl _ _

theorem leaveRange_same (s : State) (lo : Nat) (hi : Nat) : Same 512 s (leaveRange s lo hi) := by
  have h0 := Same.refl 512 s
  unfold leaveRange
  refine Same.step (Same.set_atm ..) ?_
  exact Same.refl _ _

theorem deliverRead_same (s : State) (line : Nat) (poison : Bool) : Same 34360920204 s (deliverRead s line poison) := by
  have h0 := Same.refl 34360920204 s
  unfold deliverRead
  split
  · rename_i a_1 a_2 a_3
    extract_lets +onlyGivenNames x_4
    extract_lets +onlyGivenNames x_5
    have h_6 : Same 34360920204 s x_5 := by
      subst x_5
      refine Same.step (Same.set_coh ..) ?_
      exact Same.refl _ _
    clear_value x_5
    refine Same.step (sendSnoops_same ..) ?_
    refine Same.step (completeReq_same ..) ?_
    exact h_6
  · rename_i a_7 a_8
    split
    · rename_i a_9 a_10 a_11
      refine Same.ite0 ?_ ?_
      · extract_lets +onlyGivenNames x_12
        refine Same.step (progress_same ..) ?_
        refine Same.step (setTrans_same ..) ?_
        exact Same.refl _ _
      · exact Same.refl _ _
    · rename_i a_13 a_14
      exact Same.refl _ _

theorem turnStep_same (s : State) (r : Req) : Same 128 s (turnStep s r) := by
  have h0 := Same.refl 128 s
  unfold turnStep
  extract_lets +onlyGivenNames x_1
  extract_lets +onlyGivenNames x_2
  extract_lets +onlyGivenNames x_3
  refine Same.ite0 ?_ ?_
  · refine Same.step (Same.set_coh ..) ?_
    exact Same.refl _ _
  · refine Same.step (Same.set_coh ..) ?_
    exact Same.refl _ _

theorem dropInbox_same (s : State) (r : Req) : Same 644 s (dropInbox s r) := by
  have h0 := Same.refl 644 s
  unfold dropInbox
  extract_lets +onlyGivenNames x_1
  have h_2 : Same 644 s x_1 := by
    subst x_1
    refine Same.step (turnStep_same ..) ?_
    refine Same.step (bump_same ..) ?_
    exact Same.refl _ _
  clear_value x_1
  extract_lets +onlyGivenNames x_3
  extract_lets +onlyGivenNames x_4
  extract_lets +onlyGivenNames x_5
  refine Same.step (Same.set_coh_atm ..) ?_
  exact h_2

theorem dropWait_same (s : State) (r : Req) : Same 128 s (dropWait s r) := by
  have h0 := Same.refl 128 s
  unfold dropWait
  refine Same.step (Same.set_coh ..) ?_
  exact Same.refl _ _

theorem pendRead_same (s : State) (line : Nat) (r : Req) (c : CmpKind) : Same 1179788 s (pendRead s line r c) := by
  have h0 := Same.refl 1179788 s
  unfold pendRead
  extract_lets +onlyGivenNames x_1
  extract_lets +onlyGivenNames x_2
  have h_3 : Same 1179788 s x_2 := by
    subst x_2
    refine Same.step (askMem_same ..) ?_
    exact Same.refl _ _
  clear_value x_2
  refine Same.step (Same.set_coh ..) ?_
  exact h_3

theorem registerFor_same (s : State) (r : Req) : Same 128 s (registerFor s r) := by
  have h0 := Same.refl 128 s
  unfold registerFor
  refine Same.ite0 ?_ ?_
  · exact Same.refl _ _
  · refine Same.step (register_same ..) ?_
    exact Same.refl _ _

theorem notePrev_same (s : State) (line : Nat) (h : Holder) : Same 512 s (notePrev s line h) := by
  have h0 := Same.refl 512 s
  unfold notePrev
  split
  · rename_i a_1 a_2 a_3
    refine Same.step (setHot_same ..) ?_
    exact Same.refl _ _
  · rename_i a_4 a_5
    exact Same.refl _ _

theorem openTrans_same (s : State) (line : Nat) (r : Req) (tracker : Bool) (mem : Bool) (ns : List Snoop) : Same 34360920204 s (openTrans s line r tracker mem ns) := by
  have h0 := Same.refl 34360920204 s
  unfold openTrans
  extract_lets +onlyGivenNames x_1
  refine Same.step (progress_same ..) ?_
  refine Same.step (sendSnoops_same ..) ?_
  refine Same.step (setTrans_same ..) ?_
  refine Same.ite0 ?_ ?_
  · refine Same.step (askMem_same ..) ?_
    exact Same.refl _ _
  · exact Same.refl _ _

theorem victimRecall_same (s : State) (line : Nat) : Same 132 s (victimRecall s line) := by
  have h0 := Same.refl 132 s
  unfold victimRecall
  extract_lets +onlyGivenNames x_1
  refine Same.ite0 ?_ ?_
  · exact Same.refl _ _
  · split
    · rename_i a_2 a_3
      exact Same.refl _ _
    · rename_i a_4 a_5 a_6 a_7
      extract_lets +onlyGivenNames x_8
      refine Same.step (bump_same ..) ?_
      refine Same.step (queueRecall_same ..) ?_
      exact Same.refl _ _

theorem orderSharedIdle_same (s : State) (line : Nat) (r : Req) : SameO 34360920716 s (takenSt (orderSharedIdle s line r)) := by
  have h0 := Same.refl 34360920716 s
  unfold orderSharedIdle
  extract_lets +onlyGivenNames x_1
  have h_2 : Same 34360920716 s x_1 := by
    subst x_1
    refine Same.step (registerFor_same ..) ?_
    exact Same.refl _ _
  clear_value x_1
  refine SameO.ite (f := takenSt) ?_ ?_
  · refine SameO.taken_wait ?_
    refine Same.step (victimRecall_same ..) ?_
    exact h_2
  · refine SameO.ite (f := takenSt) ?_ ?_
    · refine SameO.taken_done ?_
      refine Same.step (pendRead_same ..) ?_
      refine Same.step (newDir_same ..) ?_
      exact h_2
    · refine SameO.ite (f := takenSt) ?_ ?_
      · refine SameO.taken_starved ?_
        exact h_2
      · extract_lets +onlyGivenNames x_3
        extract_lets +onlyGivenNames x_4
        have h_5 : Same 34360920716 s x_4 := by
          subst x_4
          refine Same.step (openTrans_same ..) ?_
          exact h_2
        clear_value x_4
        refine SameO.taken_done ?_
        refine Same.step (notePrev_same ..) ?_
        refine Same.ite0 ?_ ?_
        · refine Same.step (noteTransfer_same ..) ?_
          exact h_5
        · exact h_5

theorem orderRdShared_same (s : State) (line : Nat) (r : Req) : SameO 34360920716 s (takenSt (orderRdShared s line r)) := by
  have h0 := Same.refl 34360920716 s
  unfold orderRdShared
  split
  · rename_i a_1 a_2
    refine SameO.pass (orderSharedIdle_same ..) ?_
    exact Same.refl _ _
  · rename_i a_3 a_4 a_5
    split
    · rename_i a_6 a_7
      extract_lets +onlyGivenNames x_8
      have h_9 : Same 34360920716 s x_8 := by
        subst x_8
        refine Same.step (registerFor_same ..) ?_
        exact Same.refl _ _
      clear_value x_8
      refine SameO.taken_done ?_
      refine Same.step (pendRead_same ..) ?_
      refine Same.step (setDir_same ..) ?_
      exact h_9
    · rename_i a_10 a_11 a_12
      refine SameO.ite (f := takenSt) ?_ ?_
      · refine SameO.pass (orderSharedIdle_same ..) ?_
        exact Same.refl _ _
      · refine SameO.ite (f := takenSt) ?_ ?_
        · refine SameO.taken_done ?_
          refine Same.step (openTrans_same ..) ?_
          refine Same.step (registerFor_same ..) ?_
          exact Same.refl _ _
        · refine SameO.taken_starved ?_
          exact Same.refl _ _

theorem orderHomeWrite_same (s : State) (line : Nat) (r : Req) : SameO 34360920716 s (takenSt (orderHomeWrite s line r)) := by
  have h0 := Same.refl 34360920716 s
  unfold orderHomeWrite
  extract_lets +onlyGivenNames x_1
  refine SameO.ite (f := takenSt) ?_ ?_
  · refine SameO.taken_starved ?_
    exact Same.refl _ _
  · refine SameO.taken_done ?_
    refine Same.step (noteTransfer_same ..) ?_
    refine Same.step (openTrans_same ..) ?_
    refine Same.step (markDirty_same ..) ?_
    exact Same.refl _ _

theorem orderRdOwn_same (s : State) (line : Nat) (r : Req) : SameO 34360920716 s (takenSt (orderRdOwn s line r)) := by
  have h0 := Same.refl 34360920716 s
  unfold orderRdOwn
  extract_lets +onlyGivenNames x_1
  have h_2 : Same 34360920716 s x_1 := by
    subst x_1
    refine Same.step (registerFor_same ..) ?_
    exact Same.refl _ _
  clear_value x_1
  refine SameO.ite (f := takenSt) ?_ ?_
  · refine SameO.taken_wait ?_
    refine Same.step (victimRecall_same ..) ?_
    exact h_2
  · refine SameO.ite (f := takenSt) ?_ ?_
    · refine SameO.taken_starved ?_
      exact h_2
    · extract_lets +onlyGivenNames x_3
      extract_lets +onlyGivenNames x_4
      extract_lets +onlyGivenNames x_5
      have h_6 : Same 34360920716 s x_5 := by
        subst x_5
        refine Same.step (openTrans_same ..) ?_
        exact h_2
      clear_value x_5
      refine SameO.taken_done ?_
      refine Same.step (notePrev_same ..) ?_
      refine Same.ite0 ?_ ?_
      · refine Same.step (noteTransfer_same ..) ?_
        exact h_6
      · exact h_6

theorem orderRdNC_same (s : State) (line : Nat) (r : Req) : SameO 34360920204 s (takenSt (orderRdNC s line r)) := by
  have h0 := Same.refl 34360920204 s
  unfold orderRdNC
  split
  · rename_i a_1 a_2 a_3
    split
    · rename_i a_4 a_5 a_6
      refine SameO.ite (f := takenSt) ?_ ?_
      · refine SameO.taken_done ?_
        refine Same.step (pendRead_same ..) ?_
        exact Same.refl _ _
      · refine SameO.ite (f := takenSt) ?_ ?_
        · refine SameO.taken_done ?_
          refine Same.step (openTrans_same ..) ?_
          exact Same.refl _ _
        · refine SameO.taken_starved ?_
          exact Same.refl _ _
    · rename_i a_7 a_8
      refine SameO.taken_done ?_
      refine Same.step (pendRead_same ..) ?_
      exact Same.refl _ _
  · rename_i a_9 a_10
    refine SameO.taken_done ?_
    refine Same.step (pendRead_same ..) ?_
    exact Same.refl _ _

theorem writeReady_same (s : State) (line : Nat) (r : Req) : SameO 395136994308 s (readySt (writeReady s line r)) := by
  have h0 := Same.refl 395136994308 s
  unfold writeReady
  refine SameO.pass (readyForWrite_same ..) ?_
  exact Same.refl _ _

theorem orderLine_same (s : State) (r : Req) : SameO 2594161430156 s (takenSt (orderLine s r)) := by
  have h0 := Same.refl 2594161430156 s
  unfold orderLine
  extract_lets +onlyGivenNames x_1
  refine SameO.ite (f := takenSt) ?_ ?_
  · refine SameO.taken_done ?_
    refine Same.step (refuseHome_same ..) ?_
    exact Same.refl _ _
  · split
    · rename_i a_2 a_3
      refine SameO.pass (orderRdNC_same ..) ?_
      exact Same.refl _ _
    · rename_i a_4 a_5
      refine SameO.pass (orderRdShared_same ..) ?_
      exact Same.refl _ _
    · rename_i a_6 a_7 a_8
      split
      · rename_i a_9 a_10 a_11
        have h_12 : Same 2594161430156 s a_10 := by
          refine SameO.some ?_ a_11
          refine SameO.ite0 ?_ ?_
          · refine SameO.pass (atomAnswer_same ..) ?_
            exact Same.refl _ _
          · exact SameO.no
        refine SameO.taken_done ?_
        exact h_12
      · rename_i a_13 a_14
        split
        · rename_i a_15 a_16
          refine SameO.taken_done ?_
          refine Same.step (refuseQuota_same ..) ?_
          exact Same.refl _ _
        · rename_i a_17 a_18 a_19
          have h_20 : Same 2594161430156 s a_18 := by
            refine SameO.of (o := readySt _) ?_ (congrArg readySt a_19)
            refine SameO.pass (writeReady_same ..) ?_
            exact Same.refl _ _
          refine SameO.taken_wait ?_
          exact h_20
        · rename_i a_21 a_22 a_23
          have h_24 : Same 2594161430156 s a_22 := by
            refine SameO.of (o := readySt _) ?_ (congrArg readySt a_23)
            refine SameO.pass (writeReady_same ..) ?_
            exact Same.refl _ _
          refine SameO.ite (f := takenSt) ?_ ?_
          · refine SameO.pass (orderHomeWrite_same ..) ?_
            exact h_24
          · refine SameO.pass (orderRdOwn_same ..) ?_
            exact h_24

theorem noteStarved_same (s : State) (r : Req) : Same 132 s (noteStarved s r) := by
  have h0 := Same.refl 132 s
  unfold noteStarved
  refine Same.ite0 ?_ ?_
  · exact Same.refl _ _
  · refine Same.step (bump_same ..) ?_
    refine Same.step (Same.set_coh ..) ?_
    exact Same.refl _ _

theorem takeUp_same (s : State) (line : Nat) : Same 2594161430156 s (takeUp s line) := by
  have h0 := Same.refl 2594161430156 s
  unfold takeUp
  split
  · rename_i a_1 a_2
    exact Same.refl _ _
  · rename_i a_3 a_4 a_5
    refine Same.ite0 ?_ ?_
    · exact Same.refl _ _
    · split
      · rename_i a_6 a_7 a_8
        have h_9 : Same 2594161430156 s a_7 := by
          refine SameO.of (o := takenSt _) ?_ (congrArg takenSt a_8)
          refine SameO.pass (orderLine_same ..) ?_
          exact Same.refl _ _
        refine Same.step (dropWait_same ..) ?_
        exact h_9
      · rename_i a_10 a_11 a_12
        have h_13 : Same 2594161430156 s a_11 := by
          refine SameO.of (o := takenSt _) ?_ (congrArg takenSt a_12)
          refine SameO.pass (orderLine_same ..) ?_
          exact Same.refl _ _
        exact h_13
      · rename_i a_14 a_15 a_16
        have h_17 : Same 2594161430156 s a_15 := by
          refine SameO.of (o := takenSt _) ?_ (congrArg takenSt a_16)
          refine SameO.pass (orderLine_same ..) ?_
          exact Same.refl _ _
        refine Same.step (noteStarved_same ..) ?_
        exact h_17

theorem leaveFar_same (s : State) (line : Nat) (cnt : Nat) : Same 516 s (leaveFar s line cnt) := by
  have h0 := Same.refl 516 s
  unfold leaveFar
  split
  · rename_i a_1 a_2 a_3
    refine Same.ite0 ?_ ?_
    · refine Same.step (bump_same ..) ?_
      refine Same.step (setHot_same ..) ?_
      exact Same.refl _ _
    · exact Same.refl _ _
  · rename_i a_4 a_5
    exact Same.refl _ _

theorem leaveForced_same (s : State) (lo : Nat) (hi : Nat) : Same 516 s (leaveForced s lo hi) := by
  have h0 := Same.refl 516 s
  unfold leaveForced
  refine Same.foldl _ ?_ ?_
  · exact Same.refl _ _
  · intro a_1 a_2 a_3
    refine Same.step (leaveFar_same ..) ?_
    exact a_3

theorem noteWait_same (s : State) (line : Nat) : Same 644 s (noteWait s line) := by
  have h0 := Same.refl 644 s
  unfold noteWait
  refine Same.ite0 ?_ ?_
  · split
    · rename_i a_1 a_2 a_3
      refine Same.step (checkEnter_same ..) ?_
      exact Same.refl _ _
    · rename_i a_4 a_5
      split
      · rename_i a_6 a_7 a_8
        have h_9 : Same 644 s a_7 := by
          refine SameO.some ?_ a_8
          refine SameO.pass (hotRoom_same ..) ?_
          exact Same.refl _ _
        refine Same.step (checkEnter_same ..) ?_
        refine Same.step (setHot_same ..) ?_
        exact h_9
      · rename_i a_10 a_11
        refine Same.step (bump_same ..) ?_
        exact Same.refl _ _
  · exact Same.refl _ _

theorem joinWait_same (s : State) (r : Req) (blocked : Bool) : Same 644 s (joinWait s r blocked) := by
  have h0 := Same.refl 644 s
  unfold joinWait
  extract_lets +onlyGivenNames x_1
  extract_lets +onlyGivenNames x_2
  extract_lets +onlyGivenNames x_3
  have h_4 : Same 644 s x_3 := by
    subst x_3
    refine Same.step (Same.set_coh ..) ?_
    exact Same.refl _ _
  clear_value x_3
  refine Same.ite0 ?_ ?_
  · refine Same.step (noteWait_same ..) ?_
    refine Same.step (bump_same ..) ?_
    exact h_4
  · exact h_4

theorem touchHot_same (s : State) (line : Nat) : Same 512 s (touchHot s line) := by
  have h0 := Same.refl 512 s
  unfold touchHot
  split
  · rename_i a_1 a_2 a_3
    refine Same.step (setHot_same ..) ?_
    exact Same.refl _ _
  · rename_i a_4 a_5
    exact Same.refl _ _

theorem takeInbox_same (s : State) (r : Req) : Same 2594161430156 s (takeInbox s r) := by
  have h0 := Same.refl 2594161430156 s
  unfold takeInbox
  extract_lets +onlyGivenNames x_1
  refine Same.ite0 ?_ ?_
  · refine Same.ite0 ?_ ?_
    · exact Same.refl _ _
    · refine Same.step (bump_same ..) ?_
      refine Same.step (Same.set_atm ..) ?_
      exact Same.refl _ _
  · refine Same.ite0 ?_ ?_
    · exact Same.refl _ _
    · extract_lets +onlyGivenNames x_2
      have h_3 : Same 2594161430156 s x_2 := by
        subst x_2
        refine Same.step (touchHot_same ..) ?_
        exact Same.refl _ _
      clear_value x_2
      refine Same.ite0 ?_ ?_
      · extract_lets +onlyGivenNames x_4
        have h_5 : Same 2594161430156 s x_4 := by
          subst x_4
          refine Same.step (joinWait_same ..) ?_
          refine Same.step (dropInbox_same ..) ?_
          exact h_3
        clear_value x_4
        refine Same.ite0 ?_ ?_
        · refine Same.step (leaveFar_same ..) ?_
          exact h_5
        · exact h_5
      · refine Same.ite0 ?_ ?_
        · refine Same.step (joinWait_same ..) ?_
          refine Same.step (dropInbox_same ..) ?_
          refine Same.step (touchLazy_same ..) ?_
          exact h_3
        · refine Same.ite0 ?_ ?_
          · refine Same.step (joinWait_same ..) ?_
            refine Same.step (dropInbox_same ..) ?_
            refine Same.step (touchLazy_same ..) ?_
            exact h_3
          · split
            · rename_i a_6 a_7 a_8
              have h_9 : Same 2594161430156 s a_7 := by
                refine SameO.of (o := takenSt _) ?_ (congrArg takenSt a_8)
                refine SameO.pass (orderLine_same ..) ?_
                exact h_3
              refine Same.step (dropInbox_same ..) ?_
              exact h_9
            · rename_i a_10 a_11 a_12
              have h_13 : Same 2594161430156 s a_11 := by
                refine SameO.of (o := takenSt _) ?_ (congrArg takenSt a_12)
                refine SameO.pass (orderLine_same ..) ?_
                exact h_3
              refine Same.step (joinWait_same ..) ?_
              refine Same.step (dropInbox_same ..) ?_
              exact h_13
            · rename_i a_14 a_15 a_16
              have h_17 : Same 2594161430156 s a_15 := by
                refine SameO.of (o := takenSt _) ?_ (congrArg takenSt a_16)
                refine SameO.pass (orderLine_same ..) ?_
                exact h_3
              refine Same.step (noteStarved_same ..) ?_
              exact h_17

theorem orderRow_same (kinds : List ReqKind) (src : Endpoint) (tag : BitVec 14) (s : State) : Same 2594161430156 s (orderRow kinds src tag s) := by
  have h0 := Same.refl 2594161430156 s
  unfold orderRow
  split
  · rename_i a_1 a_2 a_3
    refine Same.step (takeInbox_same ..) ?_
    exact Same.refl _ _
  · rename_i a_4 a_5
    exact Same.refl _ _

theorem execAtomfar_same (src : Endpoint) (tag : BitVec 14) (s : State) : SameO 2594161430156 s (outSt (execAtomfar src tag s)) := by
  have h0 := Same.refl 2594161430156 s
  unfold execAtomfar
  refine SameO.out_next ?_
  refine Same.step (orderRow_same ..) ?_
  exact Same.refl _ _

theorem execAtomnear_same (src : Endpoint) (tag : BitVec 14) (s : State) : SameO 2594161430156 s (outSt (execAtomnear src tag s)) := by
  have h0 := Same.refl 2594161430156 s
  unfold execAtomnear
  refine SameO.out_next ?_
  refine Same.step (orderRow_same ..) ?_
  exact Same.refl _ _

theorem noteWb_same (s : State) (port : Nat) (src : Endpoint) (tag : Nat) : Same 256 s (noteWb s port src tag) := by
  have h0 := Same.refl 256 s
  unfold noteWb
  refine Same.step (Same.set_ord ..) ?_
  exact Same.refl _ _

theorem strayWb_same (s : State) (line : Nat) (src : Endpoint) : Same 34360920204 s (strayWb s line src) := by
  have h0 := Same.refl 34360920204 s
  unfold strayWb
  split
  · rename_i a_1 a_2
    exact Same.refl _ _
  · rename_i a_3 a_4 a_5
    refine Same.ite0 ?_ ?_
    · refine Same.step (progress_same ..) ?_
      refine Same.step (setTrans_same ..) ?_
      exact Same.refl _ _
    · exact Same.refl _ _

theorem takeWb_same (s : State) (line : Nat) (port : Nat) (src : Endpoint) (key : Key) (tag : Nat) (data : Line) (poison : Bool) : Same 34360920204 s (takeWb s line port src key tag data poison) := by
  have h0 := Same.refl 34360920204 s
  unfold takeWb
  extract_lets +onlyGivenNames x_1
  refine Same.ite0 ?_ ?_
  · refine Same.step (ackWb_same ..) ?_
    refine Same.step (acceptWb_same ..) ?_
    exact Same.refl _ _
  · refine Same.step (ackWb_same ..) ?_
    refine Same.step (strayWb_same ..) ?_
    refine Same.step (bump_same ..) ?_
    refine Same.step (homeErr_same ..) ?_
    exact Same.refl _ _

theorem sendHome_same (s : State) (m : TcMsg) (home : Nat) (what : String) (fields : List Nat) : Same 131084 s (sendHome s m home what fields) := by
  have h0 := Same.refl 131084 s
  unfold sendHome
  refine Same.step (sendFlow_same ..) ?_
  exact Same.refl _ _

theorem execGntack_same (m : TcMsg) (s : State) : SameO 1179788 s (outSt (execGntack m s)) := by
  have h0 := Same.refl 1179788 s
  unfold execGntack
  extract_lets +onlyGivenNames x_1
  have h_2 : Same 1179788 s x_1 := by
    subst x_1
    refine Same.step (creditBack_same ..) ?_
    exact Same.refl _ _
  clear_value x_1
  refine SameO.ite (f := outSt) ?_ ?_
  · refine SameO.out_next ?_
    refine Same.step (classDrop_same ..) ?_
    exact h_2
  · refine SameO.ite (f := outSt) ?_ ?_
    · extract_lets +onlyGivenNames x_3
      split
      · rename_i a_4 a_5 a_6
        refine SameO.out_next ?_
        refine Same.step (sendHome_same ..) ?_
        exact h_2
      · rename_i a_7 a_8
        split
        · rename_i a_9 a_10 a_11
          refine SameO.ite (f := outSt) ?_ ?_
          · refine SameO.out_next ?_
            refine Same.step (endTrans_same ..) ?_
            refine Same.step (setTrans_same ..) ?_
            exact h_2
          · refine SameO.out_next ?_
            exact h_2
        · rename_i a_12 a_13
          refine SameO.out_next ?_
          exact h_2
    · refine SameO.out_next ?_
      refine Same.step (keyDrop_same ..) ?_
      exact h_2

theorem writeReached_same (s : State) (line : Nat) : SameO 446676599428 s (outSt (writeReached s line)) := by
  have h0 := Same.refl 446676599428 s
  unfold writeReached
  split
  · rename_i a_1 a_2 a_3
    extract_lets +onlyGivenNames x_4
    extract_lets +onlyGivenNames x_5
    have h_6 : Same 446676599428 s x_5 := by
      subst x_5
      refine Same.step (Same.set_coh ..) ?_
      exact Same.refl _ _
    clear_value x_5
    refine SameO.out_next ?_
    refine Same.step (endTrans_same ..) ?_
    refine Same.step (storeLine_same ..) ?_
    exact h_6
  · rename_i a_7 a_8
    split
    · rename_i a_9 a_10
      refine SameO.out_next ?_
      exact Same.refl _ _
    · rename_i a_11 a_12 a_13
      split
      · rename_i a_14 a_15
        refine SameO.out_next ?_
        exact Same.refl _ _
      · rename_i a_16 a_17 a_18 a_19
        extract_lets +onlyGivenNames x_20
        have h_21 : Same 446676599428 s x_20 := by
          subst x_20
          refine Same.step (storeLine_same ..) ?_
          exact Same.refl _ _
        clear_value x_20
        split
        · rename_i a_22 a_23 a_24
          refine SameO.ite (f := outSt) ?_ ?_
          · extract_lets +onlyGivenNames x_25
            extract_lets +onlyGivenNames x_26
            extract_lets +onlyGivenNames x_27
            have h_28 : Same 446676599428 s x_27 := by
              subst x_27
              refine Same.step (Same.set_coh_atm ..) ?_
              exact h_21
            clear_value x_27
            extract_lets +onlyGivenNames x_29
            have h_30 : Same 446676599428 s x_29 := by
              subst x_29
              refine Same.step (countAtoms_same ..) ?_
              exact h_28
            clear_value x_29
            refine SameO.out_next ?_
            refine Same.step (endTrans_same ..) ?_
            refine Same.step (setTrans_same ..) ?_
            exact h_30
          · refine SameO.out_next ?_
            refine Same.step (endTrans_same ..) ?_
            refine Same.step (setTrans_same ..) ?_
            exact h_21
        · rename_i a_31 a_32 a_33 a_34
          refine SameO.out_next ?_
          refine Same.step (endTrans_same ..) ?_
          refine Same.step (setTrans_same ..) ?_
          exact h_21

theorem execRdnc_same (src : Endpoint) (tag : BitVec 14) (s : State) : SameO 2594161430156 s (outSt (execRdnc src tag s)) := by
  have h0 := Same.refl 2594161430156 s
  unfold execRdnc
  refine SameO.out_next ?_
  refine Same.step (orderRow_same ..) ?_
  exact Same.refl _ _

theorem execRdown_same (src : Endpoint) (tag : BitVec 14) (s : State) : SameO 2594161430156 s (outSt (execRdown src tag s)) := by
  have h0 := Same.refl 2594161430156 s
  unfold execRdown
  refine SameO.out_next ?_
  refine Same.step (orderRow_same ..) ?_
  exact Same.refl _ _

theorem execRdshared_same (src : Endpoint) (tag : BitVec 14) (s : State) : SameO 2594161430156 s (outSt (execRdshared src tag s)) := by
  have h0 := Same.refl 2594161430156 s
  unfold execRdshared
  refine SameO.out_next ?_
  refine Same.step (orderRow_same ..) ?_
  exact Same.refl _ _

theorem sendRecallSnoop_same (s : State) (line : Nat) (t : Trans) : SameO 131212 s (sendRecallSnoop s line t) := by
  have h0 := Same.refl 131212 s
  unfold sendRecallSnoop
  split
  · rename_i a_1 a_2
    exact SameO.no
  · rename_i a_3 a_4 a_5
    extract_lets +onlyGivenNames x_6
    extract_lets +onlyGivenNames x_7
    have h_8 : Same 131212 s x_7 := by
      subst x_7
      refine Same.step (emitSnoop_same ..) ?_
      exact Same.refl _ _
    clear_value x_7
    extract_lets +onlyGivenNames x_9
    extract_lets +onlyGivenNames x_10
    have h_11 : Same 131212 s x_10 := by
      subst x_10
      refine Same.step (modStat_same ..) ?_
      exact h_8
    clear_value x_10
    refine SameO.yes ?_
    refine Same.step (setTrans_same ..) ?_
    exact h_11

theorem startRecall_same (s : State) (i : RecallItem) : Same 128 s (startRecall s i) := by
  have h0 := Same.refl 128 s
  unfold startRecall
  extract_lets +onlyGivenNames x_1
  extract_lets +onlyGivenNames x_2
  have h_3 : Same 128 s x_2 := by
    subst x_2
    refine Same.step (Same.set_coh ..) ?_
    exact Same.refl _ _
  clear_value x_2
  split
  · rename_i a_4 a_5
    exact h_3
  · rename_i a_6 a_7 a_8
    extract_lets +onlyGivenNames x_9
    extract_lets +onlyGivenNames x_10
    extract_lets +onlyGivenNames x_11
    refine Same.ite0 ?_ ?_
    · refine Same.ite0 ?_ ?_
      · refine Same.step (dropDir_same ..) ?_
        exact h_3
      · exact h_3
    · refine Same.step (setTrans_same ..) ?_
      exact h_3

theorem execRecallSnoopIssue_same (part : PartId) (s : State) : SameO 131212 s (outSt (execRecallSnoopIssue part s)) := by
  have h0 := Same.refl 131212 s
  unfold execRecallSnoopIssue
  extract_lets +onlyGivenNames x_1
  refine SameO.ite (f := outSt) ?_ ?_
  · refine SameO.out_next ?_
    exact Same.refl _ _
  · extract_lets +onlyGivenNames x_2
    subst x_2
    dsimp -zeta -zetaHave only
    extract_lets +onlyGivenNames x_3
    split
    · rename_i a_4 a_5
      clear_value x_3
      split
      · rename_i a_6 a_7 a_8
        split
        · rename_i a_9 a_10 a_11
          have h_12 : Same 131212 s a_10 := by
            refine SameO.some ?_ a_11
            refine SameO.pass (sendRecallSnoop_same ..) ?_
            exact Same.refl _ _
          refine SameO.out_next ?_
          refine Same.step (Same.set_coh ..) ?_
          exact h_12
        · rename_i a_13 a_14
          refine SameO.out_next ?_
          exact Same.refl _ _
      · rename_i a_15
        refine SameO.out_next ?_
        exact Same.refl _ _
    · rename_i a_16 a_17 a_18
      clear_value x_3
      split
      · rename_i a_19 a_20 a_21
        split
        · rename_i a_22 a_23 a_24
          have h_25 : Same 131212 s a_23 := by
            refine SameO.some ?_ a_24
            refine SameO.pass (sendRecallSnoop_same ..) ?_
            exact Same.refl _ _
          refine SameO.out_next ?_
          refine Same.step (Same.set_coh ..) ?_
          exact h_25
        · rename_i a_26 a_27
          refine SameO.out_next ?_
          exact Same.refl _ _
      · rename_i a_28
        refine SameO.ite (f := outSt) ?_ ?_
        · extract_lets +onlyGivenNames x_29
          have h_30 : Same 131212 s x_29 := by
            subst x_29
            refine Same.step (startRecall_same ..) ?_
            exact Same.refl _ _
          clear_value x_29
          split
          · rename_i a_31 a_32
            refine SameO.out_next ?_
            exact h_30
          · rename_i a_33 a_34 a_35
            split
            · rename_i a_36 a_37 a_38
              have h_39 : Same 131212 s a_37 := by
                refine SameO.some ?_ a_38
                refine SameO.pass (sendRecallSnoop_same ..) ?_
                exact h_30
              refine SameO.out_next ?_
              refine Same.step (Same.set_coh ..) ?_
              exact h_39
            · rename_i a_40 a_41
              refine SameO.out_next ?_
              exact h_30
        · refine SameO.out_next ?_
          exact Same.refl _ _

theorem snoopRow_same (m : TcMsg) (a : Ans) (data : Option (Line × Bool)) (s : State) : Same 34371405996 s (snoopRow m a data s) := by
  have h0 := Same.refl 34371405996 s
  unfold snoopRow
  extract_lets +onlyGivenNames x_1
  have h_2 : Same 34371405996 s x_1 := by
    subst x_1
    refine Same.step (creditBack_same ..) ?_
    exact Same.refl _ _
  clear_value x_1
  refine Same.ite0 ?_ ?_
  · refine Same.step (classDrop_same ..) ?_
    exact h_2
  · refine Same.ite0 ?_ ?_
    · split
      · rename_i a_3 a_4 a_5
        refine Same.step (sendHome_same ..) ?_
        exact h_2
      · rename_i a_6 a_7
        refine Same.step (answerSnoop_same ..) ?_
        exact h_2
    · refine Same.step (keyDrop_same ..) ?_
      exact h_2

theorem execRspcur_same (m : TcMsg) (s : State) : SameO 34371405996 s (outSt (execRspcur m s)) := by
  have h0 := Same.refl 34371405996 s
  unfold execRspcur
  refine SameO.out_next ?_
  refine Same.step (snoopRow_same ..) ?_
  exact Same.refl _ _

theorem execRspcurdata_same (m : TcMsg) (data : Line) (poison : Bool) (s : State) : SameO 34371405996 s (outSt (execRspcurdata m data poison s)) := by
  have h0 := Same.refl 34371405996 s
  unfold execRspcurdata
  refine SameO.out_next ?_
  refine Same.step (snoopRow_same ..) ?_
  exact Same.refl _ _

theorem execRspi_same (m : TcMsg) (s : State) : SameO 34371405996 s (outSt (execRspi m s)) := by
  have h0 := Same.refl 34371405996 s
  unfold execRspi
  refine SameO.out_next ?_
  refine Same.step (snoopRow_same ..) ?_
  exact Same.refl _ _

theorem execRspidata_same (m : TcMsg) (data : Line) (poison : Bool) (s : State) : SameO 34371405996 s (outSt (execRspidata m data poison s)) := by
  have h0 := Same.refl 34371405996 s
  unfold execRspidata
  refine SameO.out_next ?_
  refine Same.step (snoopRow_same ..) ?_
  exact Same.refl _ _

theorem execRspiwb_same (m : TcMsg) (s : State) : SameO 34371405996 s (outSt (execRspiwb m s)) := by
  have h0 := Same.refl 34371405996 s
  unfold execRspiwb
  refine SameO.out_next ?_
  refine Same.step (snoopRow_same ..) ?_
  exact Same.refl _ _

theorem execRsps_same (m : TcMsg) (s : State) : SameO 34371405996 s (outSt (execRsps m s)) := by
  have h0 := Same.refl 34371405996 s
  unfold execRsps
  refine SameO.out_next ?_
  refine Same.step (snoopRow_same ..) ?_
  exact Same.refl _ _

theorem execRspsdata_same (m : TcMsg) (data : Line) (poison : Bool) (s : State) : SameO 34371405996 s (outSt (execRspsdata m data poison s)) := by
  have h0 := Same.refl 34371405996 s
  unfold execRspsdata
  refine SameO.out_next ?_
  refine Same.step (snoopRow_same ..) ?_
  exact Same.refl _ _

theorem execSnoopRetry_same (off : PoolOff) (dst : Endpoint) (s : State) : SameO 131212 s (outSt (execSnoopRetry off dst s)) := by
  have h0 := Same.refl 131212 s
  unfold execSnoopRetry
  extract_lets +onlyGivenNames x_1
  extract_lets +onlyGivenNames x_2
  split
  · rename_i a_3 a_4
    refine SameO.out_next ?_
    exact Same.refl _ _
  · rename_i a_5 a_6 a_7
    split
    · rename_i a_8 a_9
      refine SameO.out_next ?_
      exact Same.refl _ _
    · rename_i a_10 a_11 a_12
      split
      · rename_i a_13 a_14
        refine SameO.out_next ?_
        exact Same.refl _ _
      · rename_i a_15 a_16 a_17
        refine SameO.ite (f := outSt) ?_ ?_
        · extract_lets +onlyGivenNames x_18
          have h_19 : Same 131212 s x_18 := by
            subst x_18
            refine Same.step (bump_same ..) ?_
            refine Same.step (bump_same ..) ?_
            refine Same.step (homeErr_same ..) ?_
            exact Same.refl _ _
          clear_value x_18
          extract_lets +onlyGivenNames x_20
          have h_21 : Same 131212 s x_20 := by
            subst x_20
            refine Same.step (sendTc7_same ..) ?_
            exact h_19
          clear_value x_20
          refine SameO.out_next ?_
          refine Same.step (setTrans_same ..) ?_
          exact h_21
        · refine SameO.out_next ?_
          exact Same.refl _ _

theorem execTrackerFree_same (part : PartId) (s : State) : SameO 2594161430156 s (outSt (execTrackerFree part s)) := by
  have h0 := Same.refl 2594161430156 s
  unfold execTrackerFree
  refine SameO.ite (f := outSt) ?_ ?_
  · split
    · rename_i a_1 a_2
      refine SameO.out_next ?_
      exact Same.refl _ _
    · rename_i a_3 a_4 a_5
      refine SameO.ite (f := outSt) ?_ ?_
      · refine SameO.out_next ?_
        refine Same.step (takeInbox_same ..) ?_
        refine Same.step (Same.set_coh ..) ?_
        exact Same.refl _ _
      · refine SameO.out_next ?_
        refine Same.step (takeUp_same ..) ?_
        exact Same.refl _ _
  · refine SameO.out_next ?_
    exact Same.refl _ _

theorem execWaitQueueTakeUp_same (off : PoolOff) (s : State) : SameO 2594161430156 s (outSt (execWaitQueueTakeUp off s)) := by
  have h0 := Same.refl 2594161430156 s
  unfold execWaitQueueTakeUp
  refine SameO.out_next ?_
  refine Same.step (takeUp_same ..) ?_
  exact Same.refl _ _

theorem execWbdirty_same (m : TcMsg) (tag : BitVec 14) (data : Line) (poison : Bool) (s : State) : SameO 34360920460 s (outSt (execWbdirty m tag data poison s)) := by
  have h0 := Same.refl 34360920460 s
  unfold execWbdirty
  extract_lets +onlyGivenNames x_1
  extract_lets +onlyGivenNames x_2
  have h_3 : Same 34360920460 s x_2 := by
    subst x_2
    refine Same.step (creditBack_same ..) ?_
    exact Same.refl _ _
  clear_value x_2
  refine SameO.ite (f := outSt) ?_ ?_
  · refine SameO.out_next ?_
    refine Same.step (classDrop_same ..) ?_
    exact h_3
  · refine SameO.ite (f := outSt) ?_ ?_
    · split
      · rename_i a_4 a_5 a_6
        refine SameO.out_next ?_
        refine Same.step (sendHome_same ..) ?_
        refine Same.step (noteWb_same ..) ?_
        exact h_3
      · rename_i a_7 a_8
        refine SameO.ite (f := outSt) ?_ ?_
        · refine SameO.out_next ?_
          refine Same.step (takeWb_same ..) ?_
          refine Same.step (noteWb_same ..) ?_
          exact h_3
        · refine SameO.out_next ?_
          exact Same.refl _ _
    · refine SameO.out_next ?_
      refine Same.step (keyDrop_same ..) ?_
      exact h_3

theorem execWrline_same (src : Endpoint) (tag : BitVec 14) (s : State) : SameO 2594161430156 s (outSt (execWrline src tag s)) := by
  have h0 := Same.refl 2594161430156 s
  unfold execWrline
  refine SameO.out_next ?_
  refine Same.step (orderRow_same ..) ?_
  exact Same.refl _ _

theorem execWrptl_same (src : Endpoint) (tag : BitVec 14) (s : State) : SameO 2594161430156 s (outSt (execWrptl src tag s)) := by
  have h0 := Same.refl 2594161430156 s
  unfold execWrptl
  refine SameO.out_next ?_
  refine Same.step (orderRow_same ..) ?_
  exact Same.refl _ _

end Sys2Proof.Machine
end

