-- ==== Sys2Proof/Laws/KeepAccess.lean ====
section
/-! SUPPORT. What each operation of Machine/Access.lean leaves alone: the parts it may write, as a number, and all else kept. -/

set_option linter.unusedVariables false

namespace Sys2Proof.Machine

set_option Elab.async false

theorem rangeReady_same (xs : List Extent) (b1 : List Nat) (b2 : State) : SameO 395136994308 b2 (readySt (rangeReady xs b1 b2)) := by
  induction b1 generalizing xs b2
  · have h_1 := Same.refl 395136994308 b2
    unfold rangeReady
    refine SameO.ready_ok ?_
    exact Same.refl _ _
  · rename_i i_2 i_3 i_4
    have h_5 := Same.refl 395136994308 b2
    unfold rangeReady
    split
    · rename_i a_6 a_7 a_8
      have h_9 : Same 395136994308 b2 a_7 := by
        refine SameO.of (o := readySt _) ?_ (congrArg readySt a_8)
        refine SameO.pass (readyForWrite_same ..) ?_
        exact Same.refl _ _
      refine SameO.pass (i_4 ..) ?_
      refine Same.step (touchAge_same ..) ?_
      exact h_9
    · rename_i a_10 a_11 a_12
      have h_13 : Same 395136994308 b2 a_11 := by
        refine SameO.of (o := readySt _) ?_ (congrArg readySt a_12)
        refine SameO.pass (readyForWrite_same ..) ?_
        exact Same.refl _ _
      refine SameO.ready_wait ?_
      exact h_13
    · rename_i a_14 a_15
      exact SameO.ready_quota

theorem placeLine_same (s : State) (line : Nat) (d : Line) (poison : Bool) : Same 446676599300 s (placeLine s line d poison) := by
  have h0 := Same.refl 446676599300 s
  unfold placeLine
  extract_lets +onlyGivenNames x_1
  have h_2 : Same 446676599300 s x_1 := by
    subst x_1
    refine Same.step (markDirty_same ..) ?_
    exact Same.refl _ _
  clear_value x_1
  split
  · rename_i a_3 a_4 a_5
    refine Same.ite0 ?_ ?_
    · refine Same.step (bump_same ..) ?_
      refine Same.step (setHot_same ..) ?_
      exact h_2
    · refine Same.step (storeLine_same ..) ?_
      exact h_2
  · rename_i a_6 a_7
    refine Same.step (storeLine_same ..) ?_
    exact h_2

theorem engineWriteLine_same (s : State) (line : Nat) (d : Line) (poison : Bool) : Same 446676599428 s (engineWriteLine s line d poison) := by
  have h0 := Same.refl 446676599428 s
  unfold engineWriteLine
  extract_lets +onlyGivenNames x_1
  extract_lets +onlyGivenNames x_2
  have h_3 : Same 446676599428 s x_2 := by
    subst x_2
    refine Same.step (placeLine_same ..) ?_
    exact Same.refl _ _
  clear_value x_2
  refine Same.ite0 ?_ ?_
  · exact h_3
  · refine Same.step (noteTransfer_same ..) ?_
    exact h_3

theorem writeLines_same (b0 : State) (b1 : Nat) (b2 : List (Line × Bool)) : Same 446676601476 b0 (writeLines b0 b1 b2).1 := by
  induction b2 generalizing b0 b1
  · have h_1 := Same.refl 446676601476 b0
    unfold writeLines
    refine Same.pair1 ?_
    exact Same.refl _ _
  · rename_i i_2 i_3 i_4
    have h_5 := Same.refl 446676601476 b0
    unfold writeLines
    split
    · rename_i a_6 a_7
      refine Same.pair1 ?_
      refine Same.step (bump_same ..) ?_
      exact Same.refl _ _
    · rename_i a_8 a_9 a_10
      have h_11 : Same 446676601476 b0 a_9 := by
        refine SameO.some ?_ a_10
        refine SameO.pass (t1Fit_same ..) ?_
        exact Same.refl _ _
      refine Same.step (i_4 ..) ?_
      refine Same.step (engineWriteLine_same ..) ?_
      exact h_11

theorem engineWrite_same (s : State) (xs : List Extent) (line : Nat) (ds : List (Line × Bool)) : SameO 532575948420 s (ewSt (engineWrite s xs line ds)) := by
  have h0 := Same.refl 532575948420 s
  unfold engineWrite
  extract_lets +onlyGivenNames x_1
  split
  · rename_i a_2 a_3
    refine SameO.ew_quota ?_
    exact Same.refl _ _
  · rename_i a_4 a_5 a_6
    have h_7 : Same 532575948420 s a_5 := by
      refine SameO.of (o := readySt _) ?_ (congrArg readySt a_6)
      refine SameO.pass (rangeReady_same ..) ?_
      exact Same.refl _ _
    refine SameO.ew_wait ?_
    exact h_7
  · rename_i a_8 a_9 a_10
    have h_11 : Same 532575948420 s a_9 := by
      refine SameO.of (o := readySt _) ?_ (congrArg readySt a_10)
      refine SameO.pass (rangeReady_same ..) ?_
      exact Same.refl _ _
    split
    · rename_i a_12 a_13 a_14 a_15
      have h_16 : Same 532575948420 s a_13 := by
        refine Same.of1 ?_ a_15
        refine Same.step (writeLines_same ..) ?_
        exact h_11
      refine SameO.ite (f := ewSt) ?_ ?_
      · refine SameO.ew_done ?_
        exact h_16
      · refine SameO.ew_quota ?_
        exact h_16

theorem askWrite_same (s : State) (lo : Nat) (len : Nat) (tag : Nat) : Same 128 s (askWrite s lo len tag) := by
  have h0 := Same.refl 128 s
  unfold askWrite
  refine Same.step (queueRecalls_same ..) ?_
  exact Same.refl _ _

theorem dropDirs_same (s : State) (lo : Nat) (hi : Nat) : Same 128 s (dropDirs s lo hi) := by
  have h0 := Same.refl 128 s
  unfold dropDirs
  refine Same.step (Same.set_coh ..) ?_
  exact Same.refl _ _

theorem sendEngine_same (s : State) (a : Nat) (what : String) (fields : List Nat) : Same 131084 s (sendEngine s a what fields) := by
  have h0 := Same.refl 131084 s
  unfold sendEngine
  refine Same.step (sendFlow_same ..) ?_
  exact Same.refl _ _

theorem engineWriteBytes_same (s : State) (lo : Nat) (bytes : List Byte) (poison : Bool) : SameO 532575948420 s (ewSt (engineWriteBytes s lo bytes poison)) := by
  have h0 := Same.refl 532575948420 s
  unfold engineWriteBytes
  refine SameO.ite (f := ewSt) ?_ ?_
  · refine SameO.ew_done ?_
    exact Same.refl _ _
  · refine SameO.pass (engineWrite_same ..) ?_
    exact Same.refl _ _

theorem forwardReq_same (s : State) (r : Req) : Same 656012 s (forwardReq s r) := by
  have h0 := Same.refl 656012 s
  unfold forwardReq
  extract_lets +onlyGivenNames x_1
  extract_lets +onlyGivenNames x_2
  split
  · rename_i a_3 a_4 a_5
    refine Same.step (bump_same ..) ?_
    refine Same.step (Same.set_route ..) ?_
    exact Same.refl _ _
  · rename_i a_6 a_7
    split
    · rename_i a_8 a_9 a_10
      refine Same.step (queueReq_same ..) ?_
      exact Same.refl _ _
    · rename_i a_11 a_12
      refine Same.step (refuseReq_same ..) ?_
      refine Same.step (bump_same ..) ?_
      exact Same.refl _ _

theorem askRead_same (s : State) (lo : Nat) (len : Nat) (tag : Nat) : Same 128 s (askRead s lo len tag) := by
  have h0 := Same.refl 128 s
  unfold askRead
  refine Same.step (queueRecalls_same ..) ?_
  exact Same.refl _ _

theorem dropCached_same (s : State) (page : Nat) : Same 8796093022208 s (dropCached s page) := by
  have h0 := Same.refl 8796093022208 s
  unfold dropCached
  refine Same.step (Same.set_pool_xlate ..) ?_
  exact Same.refl _ _

theorem noteEngineRead_same (s : State) (lo : Nat) (len : Nat) : Same 34359869452 s (noteEngineRead s lo len) := by
  have h0 := Same.refl 34359869452 s
  unfold noteEngineRead
  extract_lets +onlyGivenNames x_1
  extract_lets +onlyGivenNames x_2
  have h_3 : Same 34359869452 s x_2 := by
    subst x_2
    refine Same.foldl _ ?_ ?_
    · exact Same.refl _ _
    · intro a_4 a_5 a_6
      refine Same.step (bump_same ..) ?_
      exact a_6
  clear_value x_2
  extract_lets +onlyGivenNames x_7
  have h_8 : Same 34359869452 s x_7 := by
    subst x_7
    refine Same.foldl _ ?_ ?_
    · exact h_3
    · intro a_9 a_10 a_11
      split
      · rename_i a_12 a_13 a_14 a_15 a_16 a_17
        refine Same.ite0 ?_ ?_
        · refine Same.step (noteDecoded_same ..) ?_
          exact a_11
        · exact a_11
      · rename_i a_18 a_19 a_20
        exact a_11
  clear_value x_7
  refine Same.foldl _ ?_ ?_
  · exact h_8
  · intro a_21 a_22 a_23
    extract_lets +onlyGivenNames x_24
    have h_25 : Same 34359869452 s x_24 := by
      subst x_24
      refine Same.step (touchAge_same ..) ?_
      exact a_23
    clear_value x_24
    split
    · rename_i a_26 a_27 a_28 a_29
      refine Same.step (askDonor_same ..) ?_
      exact h_25
    · rename_i a_30 a_31
      exact h_25

end Sys2Proof.Machine
end

