-- ==== Sys2Proof/Laws/KeepCmpOps.lean ====
section
/-! SUPPORT. What each operation of Machine/CmpOps.lean leaves alone: the parts it may write, as a number, and all else kept. -/

set_option linter.unusedVariables false

namespace Sys2Proof.Machine

set_option Elab.async false

theorem setCslot_same (s : State) (i : Nat) (c : CSlot) : Same 4096 s (setCslot s i c) := by
  have h0 := Same.refl 4096 s
  unfold setCslot
  refine Same.step (Same.set_cmp ..) ?_
  exact Same.refl _ _

theorem addRef_same (s : State) (slot : Nat) (gen : Nat) : Same 4096 s (addRef s slot gen) := by
  have h0 := Same.refl 4096 s
  unfold addRef
  extract_lets +onlyGivenNames x_1
  refine Same.step (setCslot_same ..) ?_
  exact Same.refl _ _

theorem pruneGens_same (s : State) (slot : Nat) : Same 4096 s (pruneGens s slot) := by
  have h0 := Same.refl 4096 s
  unfold pruneGens
  extract_lets +onlyGivenNames x_1
  extract_lets +onlyGivenNames x_2
  refine Same.ite0 ?_ ?_
  · refine Same.step (Same.set_cmp ..) ?_
    exact Same.refl _ _
  · refine Same.step (setCslot_same ..) ?_
    exact Same.refl _ _

theorem dropRef_same (s : State) (slot : Nat) (gen : Nat) : Same 4096 s (dropRef s slot gen) := by
  have h0 := Same.refl 4096 s
  unfold dropRef
  extract_lets +onlyGivenNames x_1
  refine Same.step (pruneGens_same ..) ?_
  refine Same.step (setCslot_same ..) ?_
  exact Same.refl _ _

theorem installGen_same (s : State) (slot : Nat) (k : Key) (cxa : Bool) (width : Nat) (lengths : List Nat) : Same 4096 s (installGen s slot k cxa width lengths) := by
  have h0 := Same.refl 4096 s
  unfold installGen
  extract_lets +onlyGivenNames x_1
  extract_lets +onlyGivenNames x_2
  refine Same.step (pruneGens_same ..) ?_
  refine Same.step (setCslot_same ..) ?_
  exact Same.refl _ _

end Sys2Proof.Machine
end

