-- ==== Sys2Proof/Laws/KeepWinchOps.lean ====
section
/-! SUPPORT. What each operation of Machine/WinchOps.lean leaves alone: the parts it may write, as a number, and all else kept. -/

set_option linter.unusedVariables false

namespace Sys2Proof.Machine

set_option Elab.async false

theorem assignEngines_same (s : State) : Same 2048 s (assignEngines s) := by
  have h0 := Same.refl 2048 s
  unfold assignEngines
  refine Same.foldl _ ?_ ?_
  · exact Same.refl _ _
  · intro a_1 a_2 a_3
    split
    · rename_i a_4 a_5 a_6
      refine Same.ite0 ?_ ?_
      · split
        · rename_i a_7 a_8 a_9
          refine Same.step (Same.set_tier ..) ?_
          exact a_3
        · rename_i a_10 a_11
          exact a_3
      · exact a_3
    · rename_i a_12 a_13
      exact a_3

theorem addOp_same (s : State) (w : WOp) : Same 2048 s (addOp s w).2 := by
  have h0 := Same.refl 2048 s
  unfold addOp
  extract_lets +onlyGivenNames x_1
  refine Same.pair2 ?_
  refine Same.step (assignEngines_same ..) ?_
  refine Same.step (Same.set_tier ..) ?_
  exact Same.refl _ _

theorem pinRange_same (s : State) (lo : Nat) (hi : Nat) (want : Pin → Bool) (p : Pin) : Same 34359738368 s (pinRange s lo hi want p) := by
  have h0 := Same.refl 34359738368 s
  unfold pinRange
  refine Same.foldl _ ?_ ?_
  · exact Same.refl _ _
  · intro a_1 a_2 a_3
    split
    · rename_i a_4 a_5 a_6
      refine Same.ite0 ?_ ?_
      · refine Same.step (setBack_same ..) ?_
        exact a_3
      · exact a_3
    · rename_i a_7 a_8
      exact a_3

theorem setOp_same (s : State) (id : Nat) (w : WOp) : Same 2048 s (setOp s id w) := by
  have h0 := Same.refl 2048 s
  unfold setOp
  refine Same.step (Same.set_tier ..) ?_
  exact Same.refl _ _

theorem touchPromote_same (s : State) (off : Nat) : Same 2048 s (touchPromote s off) := by
  have h0 := Same.refl 2048 s
  unfold touchPromote
  extract_lets +onlyGivenNames x_1
  split
  · rename_i a_2 a_3 a_4 a_5 a_6 a_7
    refine Same.ite0 ?_ ?_
    · refine Same.step (addOp_same ..) ?_
      exact Same.refl _ _
    · exact Same.refl _ _
  · rename_i a_8 a_9 a_10
    exact Same.refl _ _

theorem dropOp_same (s : State) (id : Nat) : Same 2048 s (dropOp s id) := by
  have h0 := Same.refl 2048 s
  unfold dropOp
  refine Same.step (assignEngines_same ..) ?_
  refine Same.step (Same.set_tier ..) ?_
  exact Same.refl _ _

theorem unplaceRange_same (s : State) (lo : Nat) (hi : Nat) : Same 2048 s (unplaceRange s lo hi) := by
  have h0 := Same.refl 2048 s
  unfold unplaceRange
  extract_lets +onlyGivenNames x_1
  refine Same.ite0 ?_ ?_
  · exact Same.refl _ _
  · refine Same.step (addOp_same ..) ?_
    exact Same.refl _ _

theorem erasePlacement_same (s : State) (i : Nat) (x : Placement) : Same 34359760896 s (erasePlacement s i x) := by
  have h0 := Same.refl 34359760896 s
  unfold erasePlacement
  extract_lets +onlyGivenNames x_1
  extract_lets +onlyGivenNames x_2
  have h_3 : Same 34359760896 s x_2 := by
    subst x_2
    refine Same.step (Same.set_bau ..) ?_
    exact Same.refl _ _
  clear_value x_2
  extract_lets +onlyGivenNames x_4
  have h_5 : Same 34359760896 s x_4 := by
    subst x_4
    refine Same.step (pinRange_same ..) ?_
    exact h_3
  clear_value x_4
  extract_lets +onlyGivenNames x_6
  have h_7 : Same 34359760896 s x_6 := by
    subst x_6
    split
    · rename_i a_8 a_9 a_10 a_11
      refine Same.step (dropRef_same ..) ?_
      exact h_5
    · rename_i a_12 a_13
      exact h_5
  clear_value x_6
  refine Same.step (unplaceRange_same ..) ?_
  exact h_7

theorem dropPlacement_same (s : State) (i : Nat) (x : Placement) : Same 34359760928 s (dropPlacement s i x) := by
  have h0 := Same.refl 34359760928 s
  unfold dropPlacement
  refine Same.foldl _ ?_ ?_
  · refine Same.step (erasePlacement_same ..) ?_
    exact Same.refl _ _
  · intro a_1 a_2 a_3
    refine Same.step (engineDone_same ..) ?_
    exact a_3

theorem settlePlaces_same (s : State) : Same 34359760928 s (settlePlaces s) := by
  have h0 := Same.refl 34359760928 s
  unfold settlePlaces
  refine Same.foldl _ ?_ ?_
  · exact Same.refl _ _
  · intro a_1 a_2 a_3
    refine Same.ite0 ?_ ?_
    · refine Same.step (dropPlacement_same ..) ?_
      exact a_3
    · exact a_3

theorem releasePlaces_same (s : State) (lo : Nat) (hi : Nat) : Same 34359760928 s (releasePlaces s lo hi) := by
  have h0 := Same.refl 34359760928 s
  unfold releasePlaces
  refine Same.step (settlePlaces_same ..) ?_
  refine Same.step (Same.set_bau ..) ?_
  exact Same.refl _ _

theorem coldDemotes_same (s : State) : Same 2048 s (coldDemotes s) := by
  have h0 := Same.refl 2048 s
  unfold coldDemotes
  refine Same.foldl _ ?_ ?_
  · exact Same.refl _ _
  · intro a_1 a_2 a_3
    extract_lets +onlyGivenNames x_4
    split
    · rename_i a_5 a_6 a_7 a_8 a_9 a_10
      refine Same.ite0 ?_ ?_
      · refine Same.step (addOp_same ..) ?_
        exact a_3
      · exact a_3
    · rename_i a_11 a_12 a_13
      exact a_3

theorem setPlacement_same (s : State) (i : Nat) (x : Placement) : Same 16384 s (setPlacement s i x) := by
  have h0 := Same.refl 16384 s
  unfold setPlacement
  refine Same.step (Same.set_bau ..) ?_
  exact Same.refl _ _

end Sys2Proof.Machine
end

