-- ==== Sys2Proof/Laws/KeepComposition.lean ====
section
/-! SUPPORT. What each operation of Machine/Composition.lean leaves alone: the parts it may write, as a number, and all else kept. -/

set_option linter.unusedVariables false

namespace Sys2Proof.Machine

set_option Elab.async false

theorem changeRecalls_same (s : State) (c : Change) : Same 128 s (changeRecalls s c) := by
  have h0 := Same.refl 128 s
  unfold changeRecalls
  refine Same.foldl _ ?_ ?_
  · exact Same.refl _ _
  · intro a_1 a_2 a_3
    refine Same.step (queueRecalls_same ..) ?_
    exact a_3

theorem dropOrder_same (s : State) (h : Nat) : Same 2147483648 s (dropOrder s h) := by
  have h0 := Same.refl 2147483648 s
  unfold dropOrder
  refine Same.step (Same.set_pool_compOrder ..) ?_
  exact Same.refl _ _

theorem compEnd_same (s : State) (h : Nat) (st : Status) (r0 : Word) (r1 : Word) : SameO 2147483688 s (outSt (compEnd s h st r0 r1)) := by
  have h0 := Same.refl 2147483688 s
  unfold compEnd
  refine SameO.out_next ?_
  refine Same.step (engineDone_same ..) ?_
  refine Same.step (markStarted_same ..) ?_
  refine Same.step (dropOrder_same ..) ?_
  exact Same.refl _ _

theorem startFree_same (s : State) (h : Option Nat) (pages : List Nat) : Same 141321603930656 s (startFree s h pages) := by
  have h0 := Same.refl 141321603930656 s
  unfold startFree
  refine Same.foldl _ ?_ ?_
  · exact Same.refl _ _
  · intro a_1 a_2 a_3
    split
    · rename_i a_4 a_5
      exact a_3
    · rename_i a_6 a_7 a_8
      extract_lets +onlyGivenNames x_9
      have h_10 : Same 141321603930656 s x_9 := by
        subst x_9
        split
        · rename_i a_11 a_12 a_13
          extract_lets +onlyGivenNames x_14
          extract_lets +onlyGivenNames x_15
          have h_16 : Same 141321603930656 s x_15 := by
            subst x_15
            refine Same.step (setBack_same ..) ?_
            exact a_3
          clear_value x_15
          refine Same.step (Same.set_pool_freeing ..) ?_
          exact h_16
        · rename_i a_17 a_18
          exact a_3
      clear_value x_9
      extract_lets +onlyGivenNames x_19
      have h_20 : Same 141321603930656 s x_19 := by
        subst x_19
        refine Same.step (releasePlaces_same ..) ?_
        exact h_10
      clear_value x_19
      refine Same.step (leaveRange_same ..) ?_
      refine Same.step (Same.set_pool_toFree ..) ?_
      exact h_20

theorem zeroSectors_same (s : State) (xs : List Extent) (page : Nat) (lo : Nat) : Same 446676601472 s (zeroSectors s xs page lo) := by
  have h0 := Same.refl 446676601472 s
  unfold zeroSectors
  split
  · rename_i a_1 a_2
    exact Same.refl _ _
  · rename_i a_3 a_4 a_5
    split
    · rename_i a_6 a_7
      exact Same.refl _ _
    · rename_i a_8 a_9 a_10
      extract_lets +onlyGivenNames x_11
      extract_lets +onlyGivenNames x_12
      extract_lets +onlyGivenNames x_13
      have h_14 : Same 446676601472 s x_13 := by
        subst x_13
        refine Same.step (clearSectors_same ..) ?_
        exact Same.refl _ _
      clear_value x_13
      extract_lets +onlyGivenNames x_15
      subst x_15
      dsimp -zeta -zetaHave only
      extract_lets +onlyGivenNames x_16
      extract_lets +onlyGivenNames x_17
      extract_lets +onlyGivenNames x_18
      have h_19 : Same 446676601472 s x_18 := by
        subst x_18
        refine Same.step (Same.set_coh_atm ..) ?_
        exact h_14
      clear_value x_18
      extract_lets +onlyGivenNames x_20
      have h_21 : Same 446676601472 s x_20 := by
        subst x_20
        refine Same.foldl _ ?_ ?_
        · exact h_19
        · intro a_22 a_23 a_24
          refine Same.step (endTrans_same ..) ?_
          exact a_24
      clear_value x_20
      refine Same.step (trimPage_same ..) ?_
      refine Same.step (setBack_same ..) ?_
      exact h_21

theorem zeroCut_same (s : State) (c : Change) : Same 446676601472 s (zeroCut s c) := by
  have h0 := Same.refl 446676601472 s
  unfold zeroCut
  refine Same.foldl _ ?_ ?_
  · exact Same.refl _ _
  · intro a_1 a_2 a_3
    extract_lets +onlyGivenNames x_4
    have h_5 : Same 446676601472 s x_4 := by
      subst x_4
      refine Same.ite0 ?_ ?_
      · exact a_3
      · refine Same.step (zeroSectors_same ..) ?_
        exact a_3
    clear_value x_4
    refine Same.ite0 ?_ ?_
    · exact h_5
    · refine Same.step (zeroSectors_same ..) ?_
      exact h_5

theorem recharge_same (s : State) (c : Change) : Same 34359738368 s (recharge s c) := by
  have h0 := Same.refl 34359738368 s
  unfold recharge
  refine Same.foldl _ ?_ ?_
  · exact Same.refl _ _
  · intro a_1 a_2 a_3
    refine Same.ite0 ?_ ?_
    · split
      · rename_i a_4 a_5 a_6 a_7 a_8 a_9
        refine Same.step (setBack_same ..) ?_
        exact a_3
      · rename_i a_10 a_11 a_12
        exact a_3
    · exact a_3

theorem completeChange_same (s : State) (c : Change) : Same 141742510725804 s (completeChange s c) := by
  have h0 := Same.refl 141742510725804 s
  unfold completeChange
  extract_lets +onlyGivenNames x_1
  extract_lets +onlyGivenNames x_2
  extract_lets +onlyGivenNames x_3
  subst x_3
  extract_lets +onlyGivenNames x_4
  have h_5 : Same 141742510725804 s x_4 := by
    subst x_4
    refine Same.step (Same.set_pool_open ..) ?_
    exact Same.refl _ _
  clear_value x_4
  extract_lets +onlyGivenNames x_6
  have h_7 : Same 141742510725804 s x_6 := by
    subst x_6
    refine Same.step (startFree_same ..) ?_
    refine Same.step (recharge_same ..) ?_
    refine Same.step (zeroCut_same ..) ?_
    exact h_5
  clear_value x_6
  extract_lets +onlyGivenNames x_8
  have h_9 : Same 141742510725804 s x_8 := by
    subst x_8
    refine Same.step (dropStat_same ..) ?_
    exact h_7
  clear_value x_8
  split
  · rename_i a_10 a_11
    exact h_9
  · rename_i a_12 a_13 a_14
    refine Same.ite0 ?_ ?_
    · refine Same.step (fillRecord_same ..) ?_
      exact h_9
    · refine Same.step (engineDone_same ..) ?_
      exact h_9

theorem moreRecalls_same (s : State) (c : Change) : Same 128 s (moreRecalls s c) := by
  have h0 := Same.refl 128 s
  unfold moreRecalls
  refine Same.step (changeRecalls_same ..) ?_
  exact Same.refl _ _

theorem execCompositionComplete_same (gen : BitVec 32) (s : State) : SameO 141742510725804 s (outSt (execCompositionComplete gen s)) := by
  have h0 := Same.refl 141742510725804 s
  unfold execCompositionComplete
  split
  · rename_i a_1 a_2
    refine SameO.out_next ?_
    exact Same.refl _ _
  · rename_i a_3 a_4 a_5
    extract_lets +onlyGivenNames x_6
    refine SameO.ite (f := outSt) ?_ ?_
    · refine SameO.out_next ?_
      exact Same.refl _ _
    · extract_lets +onlyGivenNames x_7
      have h_8 : Same 141742510725804 s x_7 := by
        subst x_7
        refine Same.step (moreRecalls_same ..) ?_
        exact Same.refl _ _
      clear_value x_7
      refine SameO.ite (f := outSt) ?_ ?_
      · refine SameO.out_next ?_
        refine Same.step (completeChange_same ..) ?_
        exact Same.refl _ _
      · refine SameO.out_next ?_
        exact h_8

theorem reserveFrom_same (x : Extent) (b1 : Nat) (b2 : State) (b3 : Nat) : SameO 120259086340 b2 (reserveFrom x b1 b2 b3) := by
  induction b1 generalizing x b2 b3
  · have h_1 := Same.refl 120259086340 b2
    unfold reserveFrom
    refine SameO.yes ?_
    exact Same.refl _ _
  · rename_i i_2 i_3
    have h_4 := Same.refl 120259086340 b2
    unfold reserveFrom
    refine SameO.ite0 ?_ ?_
    · refine SameO.pass (i_3 ..) ?_
      exact Same.refl _ _
    · split
      · rename_i a_5 a_6 a_7
        have h_8 : Same 120259086340 b2 a_6 := by
          refine SameO.some ?_ a_7
          refine SameO.pass (allocPage_same ..) ?_
          exact Same.refl _ _
        refine SameO.pass (i_3 ..) ?_
        exact h_8
      · rename_i a_9 a_10
        exact SameO.no

theorem reserveExtent_same (s : State) (x : Extent) : SameO 120259086340 s (reserveExtent s x) := by
  have h0 := Same.refl 120259086340 s
  unfold reserveExtent
  refine SameO.pass (reserveFrom_same ..) ?_
  exact Same.refl _ _

theorem reserveAll_same (c : Change) (b1 : List (Nat × Nat)) (b2 : State) : SameO 120259086340 b2 (exSt (reserveAll c b1 b2)) := by
  induction b1 generalizing c b2
  · have h_1 := Same.refl 120259086340 b2
    unfold reserveAll
    refine SameO.ex_ok ?_
    exact Same.refl _ _
  · rename_i i_2 i_3 i_4
    have h_5 := Same.refl 120259086340 b2
    unfold reserveAll
    split
    · rename_i a_6 a_7
      refine SameO.pass (i_4 ..) ?_
      exact Same.refl _ _
    · rename_i a_8 a_9 a_10
      split
      · rename_i a_11 a_12 a_13
        have h_14 : Same 120259086340 b2 a_12 := by
          refine SameO.some ?_ a_13
          refine SameO.pass (reserveExtent_same ..) ?_
          exact Same.refl _ _
        refine SameO.pass (i_4 ..) ?_
        exact h_14
      · rename_i a_15 a_16
        exact SameO.ex_error

theorem runSingle_same (s : State) (h : Nat) (e : MapEntry) (discard : Bool) (same : Word) : SameO 126701537324 s (outSt (runSingle s h e discard same)) := by
  have h0 := Same.refl 126701537324 s
  unfold runSingle
  split
  · rename_i a_1 a_2 a_3
    refine SameO.pass (compEnd_same ..) ?_
    exact Same.refl _ _
  · rename_i a_4 a_5 a_6
    refine SameO.pass (compEnd_same ..) ?_
    exact Same.refl _ _
  · rename_i a_7 a_8
    refine SameO.pass (compEnd_same ..) ?_
    exact Same.refl _ _
  · rename_i a_9 a_10 a_11
    split
    · rename_i a_12 a_13 a_14
      refine SameO.pass (compEnd_same ..) ?_
      exact Same.refl _ _
    · rename_i a_15 a_16 a_17
      have h_18 : Same 126701537324 s a_16 := by
        refine SameO.of (o := exSt _) ?_ (congrArg exSt a_17)
        refine SameO.pass (reserveAll_same ..) ?_
        exact Same.refl _ _
      refine SameO.out_next ?_
      refine Same.step (markStarted_same ..) ?_
      refine Same.step (Same.set_pool_ready ..) ?_
      exact Same.refl _ _

theorem waitTurn_same (s : State) (h : Nat) (opcode : Nat) : SameO 40 s (outSt (waitTurn s h opcode)) := by
  have h0 := Same.refl 40 s
  unfold waitTurn
  split
  · rename_i a_1 a_2 a_3
    refine SameO.out_next ?_
    refine Same.step (markStarted_same ..) ?_
    exact Same.refl _ _
  · rename_i a_4 a_5
    refine SameO.out_next ?_
    exact Same.refl _ _

theorem execExtentCreate_same (h : Handle) (s : State) : SameO 126701537324 s (outSt (execExtentCreate h s)) := by
  have h0 := Same.refl 126701537324 s
  unfold execExtentCreate
  split
  · rename_i a_1 a_2
    refine SameO.pass (waitTurn_same ..) ?_
    exact Same.refl _ _
  · rename_i a_3 a_4 a_5
    extract_lets +onlyGivenNames x_6
    refine SameO.ite (f := outSt) ?_ ?_
    · refine SameO.out_next ?_
      exact Same.refl _ _
    · refine SameO.pass (runSingle_same ..) ?_
      exact Same.refl _ _

theorem execExtentGrant_same (h : Handle) (s : State) : SameO 126701537324 s (outSt (execExtentGrant h s)) := by
  have h0 := Same.refl 126701537324 s
  unfold execExtentGrant
  split
  · rename_i a_1 a_2
    refine SameO.pass (waitTurn_same ..) ?_
    exact Same.refl _ _
  · rename_i a_3 a_4 a_5
    extract_lets +onlyGivenNames x_6
    refine SameO.ite (f := outSt) ?_ ?_
    · refine SameO.out_next ?_
      exact Same.refl _ _
    · refine SameO.ite (f := outSt) ?_ ?_
      · refine SameO.pass (compEnd_same ..) ?_
        exact Same.refl _ _
      · refine SameO.pass (runSingle_same ..) ?_
        exact Same.refl _ _

theorem execExtentResize_same (h : Handle) (s : State) : SameO 126701537324 s (outSt (execExtentResize h s)) := by
  have h0 := Same.refl 126701537324 s
  unfold execExtentResize
  split
  · rename_i a_1 a_2
    refine SameO.pass (waitTurn_same ..) ?_
    exact Same.refl _ _
  · rename_i a_3 a_4 a_5
    extract_lets +onlyGivenNames x_6
    refine SameO.pass (runSingle_same ..) ?_
    exact Same.refl _ _

theorem execExtentRevoke_same (h : Handle) (s : State) : SameO 126701537324 s (outSt (execExtentRevoke h s)) := by
  have h0 := Same.refl 126701537324 s
  unfold execExtentRevoke
  split
  · rename_i a_1 a_2
    refine SameO.pass (waitTurn_same ..) ?_
    exact Same.refl _ _
  · rename_i a_3 a_4 a_5
    extract_lets +onlyGivenNames x_6
    refine SameO.pass (runSingle_same ..) ?_
    exact Same.refl _ _

theorem execGenerationDrained_same (gen : BitVec 32) (s : State) : SameO 805306368 s (outSt (execGenerationDrained gen s)) := by
  have h0 := Same.refl 805306368 s
  unfold execGenerationDrained
  split
  · rename_i a_1 a_2
    refine SameO.out_next ?_
    exact Same.refl _ _
  · rename_i a_3 a_4 a_5
    refine SameO.ite (f := outSt) ?_ ?_
    · refine SameO.out_next ?_
      exact Same.refl _ _
    · extract_lets +onlyGivenNames x_6
      refine SameO.out_next ?_
      refine Same.step (Same.set_pool_undrained_affected ..) ?_
      exact Same.refl _ _

theorem execMapCommit_same (h : Handle) (s : State) : SameO 126701537324 s (outSt (execMapCommit h s)) := by
  have h0 := Same.refl 126701537324 s
  unfold execMapCommit
  split
  · rename_i a_1 a_2
    refine SameO.pass (waitTurn_same ..) ?_
    exact Same.refl _ _
  · rename_i a_3 a_4 a_5
    extract_lets +onlyGivenNames x_6
    extract_lets +onlyGivenNames x_7
    refine SameO.ite (f := outSt) ?_ ?_
    · refine SameO.pass (compEnd_same ..) ?_
      exact Same.refl _ _
    · refine SameO.ite (f := outSt) ?_ ?_
      · refine SameO.pass (compEnd_same ..) ?_
        exact Same.refl _ _
      · refine SameO.ite (f := outSt) ?_ ?_
        · refine SameO.pass (compEnd_same ..) ?_
          exact Same.refl _ _
        · split
          · rename_i a_8 a_9
            refine SameO.out_next ?_
            exact Same.refl _ _
          · rename_i a_10 a_11 a_12
            refine SameO.ite (f := outSt) ?_ ?_
            · refine SameO.pass (compEnd_same ..) ?_
              exact Same.refl _ _
            · refine SameO.ite (f := outSt) ?_ ?_
              · refine SameO.pass (compEnd_same ..) ?_
                exact Same.refl _ _
              · split
                · rename_i a_13 a_14 a_15 a_16 a_17
                  refine SameO.pass (compEnd_same ..) ?_
                  exact Same.refl _ _
                · rename_i a_18 a_19 a_20
                  refine SameO.out_next ?_
                  refine Same.step (markStarted_same ..) ?_
                  refine Same.step (Same.set_pool_ready ..) ?_
                  exact Same.refl _ _

theorem newGeneration_same (s : State) (ranges : List (Nat × Nat)) : Same 939524096 s (newGeneration s ranges) := by
  have h0 := Same.refl 939524096 s
  unfold newGeneration
  extract_lets +onlyGivenNames x_1
  extract_lets +onlyGivenNames x_2
  refine Same.step (Same.set_pool_gen_undrained_affected ..) ?_
  exact Same.refl _ _

theorem fencePublished_same (s : State) (mark : Nat) : Same 2097196 s (fencePublished s mark) := by
  have h0 := Same.refl 2097196 s
  unfold fencePublished
  extract_lets +onlyGivenNames x_1
  extract_lets +onlyGivenNames x_2
  extract_lets +onlyGivenNames x_3
  have h_4 : Same 2097196 s x_3 := by
    subst x_3
    refine Same.step (Same.set_ras ..) ?_
    exact Same.refl _ _
  clear_value x_3
  refine Same.foldl _ ?_ ?_
  · exact h_4
  · intro a_5 a_6 a_7
    refine Same.step (fillRecord_same ..) ?_
    exact a_7

theorem publishChange_same (s : State) (c : Change) : Same 51472498860 s (publishChange s c) := by
  have h0 := Same.refl 51472498860 s
  unfold publishChange
  extract_lets +onlyGivenNames x_1
  have h_2 : Same 51472498860 s x_1 := by
    subst x_1
    refine Same.step (newGeneration_same ..) ?_
    exact Same.refl _ _
  clear_value x_1
  extract_lets +onlyGivenNames x_3
  split
  · rename_i a_4 a_5 a_6 a_7
    have h_8 : Same 51472498860 s a_6 := by
      refine Same.of2 ?_ a_7
      refine Same.step (newTag_same ..) ?_
      exact h_2
    extract_lets +onlyGivenNames x_9
    extract_lets +onlyGivenNames x_10
    extract_lets +onlyGivenNames x_11
    subst x_11
    extract_lets +onlyGivenNames x_12
    have h_13 : Same 51472498860 s x_12 := by
      subst x_12
      refine Same.step (Same.set_pool_extents_history_ready ..) ?_
      exact h_8
    clear_value x_12
    extract_lets +onlyGivenNames x_14
    have h_15 : Same 51472498860 s x_14 := by
      subst x_14
      refine Same.step (recharge_same ..) ?_
      exact h_13
    clear_value x_14
    split
    · rename_i a_16 a_17
      exact h_15
    · rename_i a_18 a_19 a_20
      extract_lets +onlyGivenNames x_21
      have h_22 : Same 51472498860 s x_21 := by
        subst x_21
        refine Same.step (dropOrder_same ..) ?_
        exact h_15
      clear_value x_21
      refine Same.ite0 ?_ ?_
      · refine Same.step (engineDone_same ..) ?_
        refine Same.step (setProgress_same ..) ?_
        exact h_22
      · extract_lets +onlyGivenNames x_23
        have h_24 : Same 51472498860 s x_23 := by
          subst x_23
          refine Same.ite0 ?_ ?_
          · refine Same.step (commitWith_same ..) ?_
            exact h_22
          · refine Same.step (setProgress_same ..) ?_
            exact h_22
        clear_value x_23
        refine Same.step (changeRecalls_same ..) ?_
        refine Same.step (Same.set_pool_open ..) ?_
        exact h_24

theorem execMapGenPublish_same (s : State) : SameO 137373943980 s (outSt (execMapGenPublish s)) := by
  have h0 := Same.refl 137373943980 s
  unfold execMapGenPublish
  split
  · rename_i a_1 a_2 a_3
    refine SameO.ite (f := outSt) ?_ ?_
    · refine SameO.out_next ?_
      refine Same.step (Same.set_pool_ready ..) ?_
      exact Same.refl _ _
    · refine SameO.ite (f := outSt) ?_ ?_
      · refine SameO.out_next ?_
        exact Same.refl _ _
      · split
        · rename_i a_4 a_5 a_6
          have h_7 : Same 137373943980 s a_5 := by
            refine SameO.of (o := exSt _) ?_ (congrArg exSt a_6)
            refine SameO.pass (reserveAll_same ..) ?_
            exact Same.refl _ _
          refine SameO.out_next ?_
          refine Same.step (publishChange_same ..) ?_
          exact h_7
        · rename_i a_8 a_9 a_10
          split
          · rename_i a_11 a_12 a_13
            refine SameO.out_next ?_
            refine Same.step (engineDone_same ..) ?_
            extract_lets +onlyGivenNames x_14
            have h_15 : Same 137373943980 s x_14 := by
              subst x_14
              refine Same.step (dropOrder_same ..) ?_
              exact Same.refl _ _
            refine Same.step (Same.set_pool_ready ..) ?_
            exact h_15
          · rename_i a_16 a_17
            refine SameO.out_next ?_
            exact Same.refl _ _
  · rename_i a_18 a_19
    split
    · rename_i a_20 a_21 a_22
      refine SameO.ite (f := outSt) ?_ ?_
      · refine SameO.out_next ?_
        refine Same.step (fencePublished_same ..) ?_
        refine Same.step (newGeneration_same ..) ?_
        refine Same.step (dropOrder_same ..) ?_
        exact Same.refl _ _
      · refine SameO.out_next ?_
        exact Same.refl _ _
    · rename_i a_23 a_24
      refine SameO.out_next ?_
      exact Same.refl _ _

theorem execPageFreeScrub_same (back : BitVec 48) (s : State) : SameO 2113123911680 s (outSt (execPageFreeScrub back s)) := by
  have h0 := Same.refl 2113123911680 s
  unfold execPageFreeScrub
  extract_lets +onlyGivenNames x_1
  extract_lets +onlyGivenNames x_2
  refine SameO.ite (f := outSt) ?_ ?_
  · refine SameO.out_next ?_
    exact Same.refl _ _
  · extract_lets +onlyGivenNames x_3
    have h_4 : Same 2113123911680 s x_3 := by
      subst x_3
      refine Same.foldl _ ?_ ?_
      · exact Same.refl _ _
      · intro a_5 a_6 a_7
        refine Same.step (releaseBack_same ..) ?_
        extract_lets +onlyGivenNames x_8
        have h_9 : Same 2113123911680 s x_8 := by
          subst x_8
          refine Same.step (dropPage_same ..) ?_
          exact a_7
        refine Same.step (Same.set_pool_toFree ..) ?_
        exact h_9
    clear_value x_3
    refine SameO.ite (f := outSt) ?_ ?_
    · split
      · rename_i a_10 a_11
        refine SameO.out_next ?_
        refine Same.step (Same.set_pool_scrub ..) ?_
        exact h_4
      · rename_i a_12 a_13 a_14
        refine SameO.ite (f := outSt) ?_ ?_
        · refine SameO.out_next ?_
          exact h_4
        · extract_lets +onlyGivenNames x_15
          have h_16 : Same 2113123911680 s x_15 := by
            subst x_15
            refine Same.step (clearBack_same ..) ?_
            exact h_4
          clear_value x_15
          extract_lets +onlyGivenNames x_17
          have h_18 : Same 2113123911680 s x_17 := by
            subst x_17
            refine Same.ite0 ?_ ?_
            · exact h_16
            · refine Same.step (freeLoc_same ..) ?_
              exact h_16
          clear_value x_17
          extract_lets +onlyGivenNames x_19
          have h_20 : Same 2113123911680 s x_19 := by
            subst x_19
            split
            · rename_i a_21 a_22 a_23
              refine Same.step (freeLoc_same ..) ?_
              exact h_18
            · rename_i a_24 a_25
              exact h_18
          clear_value x_19
          refine SameO.out_next ?_
          refine Same.step (Same.set_pool_backs_scrub ..) ?_
          exact h_20
    · refine SameO.out_next ?_
      exact h_4

theorem execQuotaDemotionEnd_same (h : Handle) (s : State) : SameO 4398046513184 s (outSt (execQuotaDemotionEnd h s)) := by
  have h0 := Same.refl 4398046513184 s
  unfold execQuotaDemotionEnd
  split
  · rename_i a_1 a_2
    refine SameO.out_next ?_
    exact Same.refl _ _
  · rename_i a_3 a_4 a_5
    extract_lets +onlyGivenNames x_6
    extract_lets +onlyGivenNames x_7
    extract_lets +onlyGivenNames x_8
    refine SameO.ite (f := outSt) ?_ ?_
    · refine SameO.out_next ?_
      exact Same.refl _ _
    · extract_lets +onlyGivenNames x_9
      subst x_9
      extract_lets +onlyGivenNames x_10
      have h_11 : Same 4398046513184 s x_10 := by
        subst x_10
        refine Same.step (Same.set_pool_quotaOps ..) ?_
        exact Same.refl _ _
      clear_value x_10
      extract_lets +onlyGivenNames x_12
      have h_13 : Same 4398046513184 s x_12 := by
        subst x_12
        refine Same.foldl _ ?_ ?_
        · exact h_11
        · intro a_14 a_15 a_16
          refine Same.step (dropOp_same ..) ?_
          exact a_16
      clear_value x_12
      refine SameO.out_next ?_
      refine Same.step (engineDone_same ..) ?_
      exact h_13

theorem execQuotaSet_same (h : Handle) (s : State) : SameO 4398080067628 s (outSt (execQuotaSet h s)) := by
  have h0 := Same.refl 4398080067628 s
  unfold execQuotaSet
  split
  · rename_i a_1 a_2
    refine SameO.out_next ?_
    exact Same.refl _ _
  · rename_i a_3 a_4 a_5
    extract_lets +onlyGivenNames x_6
    extract_lets +onlyGivenNames x_7
    extract_lets +onlyGivenNames x_8
    clear_value x_8
    split
    · rename_i a_9 a_10
      refine SameO.out_next ?_
      refine Same.step (badDesc_same ..) ?_
      exact Same.refl _ _
    · rename_i a_11
      refine SameO.ite (f := outSt) ?_ ?_
      · refine SameO.out_next ?_
        refine Same.step (commit_same ..) ?_
        exact Same.refl _ _
      · refine SameO.ite (f := outSt) ?_ ?_
        · refine SameO.out_next ?_
          refine Same.step (commit_same ..) ?_
          exact Same.refl _ _
        · extract_lets +onlyGivenNames x_12
          extract_lets +onlyGivenNames x_13
          subst x_13
          extract_lets +onlyGivenNames x_14
          have h_15 : Same 4398080067628 s x_14 := by
            subst x_14
            refine Same.step (markStarted_same ..) ?_
            refine Same.step (Same.set_pool_tenants ..) ?_
            exact Same.refl _ _
          clear_value x_14
          refine SameO.ite (f := outSt) ?_ ?_
          · extract_lets +onlyGivenNames x_16
            extract_lets +onlyGivenNames x_17
            subst x_17
            extract_lets +onlyGivenNames x_18
            have h_19 : Same 4398080067628 s x_18 := by
              subst x_18
              refine Same.step (Same.set_pool_quotaOps ..) ?_
              exact h_15
            clear_value x_18
            refine SameO.out_next ?_
            refine Same.step (addOp_same ..) ?_
            exact h_19
          · refine SameO.out_next ?_
            refine Same.step (engineDone_same ..) ?_
            exact h_15

end Sys2Proof.Machine
end

