-- ==== Sys2Proof/Laws/KeepMoves.lean ====
section
/-! SUPPORT. What each operation of Machine/Moves.lean leaves alone: the parts it may write, as a number, and all else kept. -/

set_option linter.unusedVariables false

namespace Sys2Proof.Machine

set_option Elab.async false

theorem undoChunk_same (s : State) (c : Chunk) : Same 34359740416 s (undoChunk s c) := by
  have h0 := Same.refl 34359740416 s
  unfold undoChunk
  extract_lets +onlyGivenNames x_1
  extract_lets +onlyGivenNames x_2
  have h_3 : Same 34359740416 s x_2 := by
    subst x_2
    refine Same.step (Same.set_tier ..) ?_
    exact Same.refl _ _
  clear_value x_2
  refine Same.foldl _ ?_ ?_
  · exact h_3
  · intro a_4 a_5 a_6
    split
    · rename_i a_7 a_8
      refine Same.step (freeLoc_same ..) ?_
      exact a_6
    · rename_i a_9 a_10 a_11
      extract_lets +onlyGivenNames x_12
      have h_13 : Same 34359740416 s x_12 := by
        subst x_12
        refine Same.step (setBack_same ..) ?_
        exact a_6
      clear_value x_12
      refine Same.ite0 ?_ ?_
      · exact h_13
      · refine Same.step (freeLoc_same ..) ?_
        exact h_13

theorem undoRefused_same (s : State) (id : Nat) (w : WWork) : Same 34359740416 s (undoRefused s id w) := by
  have h0 := Same.refl 34359740416 s
  unfold undoRefused
  refine Same.foldl _ ?_ ?_
  · exact Same.refl _ _
  · intro a_1 a_2 a_3
    refine Same.step (undoChunk_same ..) ?_
    exact a_3

theorem tierMove_same (s : State) (b : Back) (t : Tier) (stackMask : Nat) (trayMask : Nat) : SameO 2048 s (destSt (tierMove s b t stackMask trayMask)) := by
  have h0 := Same.refl 2048 s
  unfold tierMove
  refine SameO.ite (f := destSt) ?_ ?_
  · exact SameO.dest_stay
  · refine SameO.ite (f := destSt) ?_ ?_
    · split
      · rename_i a_1 a_2 a_3
        refine SameO.dest_go ?_
        exact Same.refl _ _
      · rename_i a_4 a_5
        exact SameO.dest_skip
    · refine SameO.ite (f := destSt) ?_ ?_
      · exact SameO.dest_skip
      · split
        · rename_i a_6 a_7 a_8 a_9
          have h_10 : Same 2048 s a_8 := by
            refine SameO.of (o := sndSt _) ?_ (congrArg sndSt a_9)
            refine SameO.pass (moveLoc_same ..) ?_
            exact Same.refl _ _
          refine SameO.dest_go ?_
          exact h_10
        · rename_i a_11 a_12
          exact SameO.dest_skip

theorem evacDest_same (s : State) (page : Nat) (b : Back) (st : Nat) (order : Nat) : SameO 18432 s (destSt (evacDest s page b st order)) := by
  have h0 := Same.refl 18432 s
  unfold evacDest
  extract_lets +onlyGivenNames x_1
  split
  · rename_i a_2 a_3 a_4
    split
    · rename_i a_5 a_6
      exact SameO.dest_skip
    · rename_i a_7 a_8 a_9
      extract_lets +onlyGivenNames x_10
      clear_value x_10
      split
      · rename_i a_11
        exact SameO.dest_skip
      · rename_i a_12 a_13
        split
        · rename_i a_14 a_15 a_16 a_17
          have h_18 : Same 18432 s a_16 := by
            refine SameO.of (o := sndSt _) ?_ (congrArg sndSt a_17)
            refine SameO.pass (takeBank_same ..) ?_
            refine Same.step (setPlacement_same ..) ?_
            exact Same.refl _ _
          refine SameO.dest_go ?_
          exact h_18
        · rename_i a_19 a_20
          exact SameO.dest_skip
  · rename_i a_21 a_22 a_23
    split
    · rename_i a_24 a_25 a_26 a_27
      have h_28 : Same 18432 s a_26 := by
        refine SameO.of (o := sndSt _) ?_ (congrArg sndSt a_27)
        refine SameO.pass (moveT0_same ..) ?_
        exact Same.refl _ _
      refine SameO.dest_go ?_
      exact h_28
    · rename_i a_29 a_30
      exact SameO.dest_skip
  · rename_i a_31 a_32
    extract_lets +onlyGivenNames x_33
    subst x_33
    split
    · rename_i a_34 a_35 a_36 a_37
      have h_38 : Same 18432 s a_36 := by
        refine SameO.of (o := sndSt _) ?_ (congrArg sndSt a_37)
        split
        · rename_i a_39 a_40 a_41
          refine SameO.pass (moveT0_same ..) ?_
          exact Same.refl _ _
        · rename_i a_42 a_43
          exact SameO.snd_none
      refine SameO.dest_go ?_
      exact h_38
    · rename_i a_44 a_45
      refine SameO.ite (f := destSt) ?_ ?_
      · refine SameO.pass (tierMove_same ..) ?_
        exact Same.refl _ _
      · exact SameO.dest_skip

theorem firstTier_same (s : State) (b : Back) (stackMask : Nat) (trayMask : Nat) (b4 : List Tier) : SameO 2048 s (destSt (firstTier s b stackMask trayMask b4)) := by
  induction b4 generalizing s b stackMask trayMask
  · have h_1 := Same.refl 2048 s
    unfold firstTier
    exact SameO.dest_skip
  · rename_i i_2 i_3 i_4
    have h_5 := Same.refl 2048 s
    unfold firstTier
    split
    · rename_i a_6 a_7 a_8 a_9
      have h_10 : Same 2048 s a_8 := by
        refine SameO.of (o := destSt _) ?_ (congrArg destSt a_9)
        refine SameO.pass (tierMove_same ..) ?_
        exact Same.refl _ _
      refine SameO.dest_go ?_
      exact h_10
    · rename_i a_11 a_12
      refine SameO.pass (i_4 ..) ?_
      exact Same.refl _ _

theorem destOf_same (s : State) (o : WOp) (w : WWork) (page : Nat) (b : Back) : SameO 18432 s (destSt (destOf s o w page b)) := by
  have h0 := Same.refl 18432 s
  unfold destOf
  extract_lets +onlyGivenNames x_1
  refine SameO.ite (f := destSt) ?_ ?_
  · exact SameO.dest_gone
  · refine SameO.ite (f := destSt) ?_ ?_
    · exact SameO.dest_skip
    · split
      · rename_i a_2 a_3 a_4 a_5 a_6 a_7 a_8 a_9
        split
        · rename_i a_10 a_11 a_12 a_13
          refine SameO.ite (f := destSt) ?_ ?_
          · refine SameO.pass (evacDest_same ..) ?_
            exact Same.refl _ _
          · exact SameO.dest_stay
        · rename_i a_14 a_15
          exact SameO.dest_stay
      · rename_i a_16 a_17 a_18 a_19 a_20 a_21
        refine SameO.ite (f := destSt) ?_ ?_
        · exact SameO.dest_stay
        · refine SameO.ite (f := destSt) ?_ ?_
          · exact SameO.dest_skip
          · split
            · rename_i a_22 a_23 a_24 a_25
              have h_26 : Same 18432 s a_24 := by
                refine SameO.of (o := sndSt _) ?_ (congrArg sndSt a_25)
                refine SameO.ite (f := sndSt) ?_ ?_
                · exact SameO.snd_none
                · refine SameO.pass (takeBank_same ..) ?_
                  exact Same.refl _ _
              refine SameO.dest_go ?_
              exact h_26
            · rename_i a_27 a_28
              exact SameO.dest_skip
      · rename_i a_29 a_30 a_31 a_32
        split
        · rename_i a_33 a_34
          exact SameO.dest_gone
        · rename_i a_35 a_36 a_37 a_38
          refine SameO.ite (f := destSt) ?_ ?_
          · exact SameO.dest_gone
          · split
            · rename_i a_39 a_40 a_41 a_42
              have h_43 : Same 18432 s a_41 := by
                refine SameO.of (o := sndSt _) ?_ (congrArg sndSt a_42)
                refine SameO.ite (f := sndSt) ?_ ?_
                · exact SameO.snd_none
                · refine SameO.pass (takeFrame_same ..) ?_
                  exact Same.refl _ _
              refine SameO.dest_go ?_
              exact h_43
            · rename_i a_44 a_45
              split
              · rename_i a_46 a_47 a_48 a_49
                have h_50 : Same 18432 s a_48 := by
                  refine SameO.of (o := sndSt _) ?_ (congrArg sndSt a_49)
                  refine SameO.pass (moveT0_same ..) ?_
                  exact Same.refl _ _
                refine SameO.dest_go ?_
                exact h_50
              · rename_i a_51 a_52
                exact SameO.dest_skip
      · rename_i a_53 a_54 a_55 a_56 a_57 a_58
        refine SameO.ite (f := destSt) ?_ ?_
        · exact SameO.dest_skip
        · split
          · rename_i a_59 a_60 a_61 a_62 a_63 a_64
            refine SameO.pass (tierMove_same ..) ?_
            exact Same.refl _ _
          · rename_i a_65 a_66 a_67 a_68 a_69 a_70
            refine SameO.pass (tierMove_same ..) ?_
            exact Same.refl _ _
          · rename_i a_71 a_72
            refine SameO.ite (f := destSt) ?_ ?_
            · refine SameO.pass (tierMove_same ..) ?_
              exact Same.refl _ _
            · exact SameO.dest_gone
          · rename_i a_73 a_74
            split
            · rename_i a_75 a_76 a_77
              refine SameO.ite (f := destSt) ?_ ?_
              · split
                · rename_i a_78 a_79 a_80
                  refine SameO.pass (tierMove_same ..) ?_
                  exact Same.refl _ _
                · rename_i a_81 a_82
                  exact SameO.dest_gone
              · exact SameO.dest_gone
            · rename_i a_83 a_84
              exact SameO.dest_gone
          · rename_i a_85 a_86 a_87
            split
            · rename_i a_88 a_89 a_90
              refine SameO.pass (firstTier_same ..) ?_
              exact Same.refl _ _
            · rename_i a_91 a_92
              exact SameO.dest_skip
          · rename_i a_93 a_94 a_95 a_96 a_97 a_98
            exact SameO.dest_gone

theorem undoChunks_same (s : State) (id : Nat) : Same 34359740416 s (undoChunks s id) := by
  have h0 := Same.refl 34359740416 s
  unfold undoChunks
  refine Same.foldl _ ?_ ?_
  · exact Same.refl _ _
  · intro a_1 a_2 a_3
    refine Same.step (undoChunk_same ..) ?_
    exact a_3

theorem endChunk_same (s : State) (c : Chunk) : Same 34359740416 s (endChunk s c) := by
  have h0 := Same.refl 34359740416 s
  unfold endChunk
  extract_lets +onlyGivenNames x_1
  extract_lets +onlyGivenNames x_2
  have h_3 : Same 34359740416 s x_2 := by
    subst x_2
    refine Same.step (Same.set_tier ..) ?_
    exact Same.refl _ _
  clear_value x_2
  refine Same.foldl _ ?_ ?_
  · exact h_3
  · intro a_4 a_5 a_6
    split
    · rename_i a_7 a_8
      refine Same.step (freeLoc_same ..) ?_
      exact a_6
    · rename_i a_9 a_10 a_11
      extract_lets +onlyGivenNames x_12
      have h_13 : Same 34359740416 s x_12 := by
        subst x_12
        refine Same.step (setBack_same ..) ?_
        exact a_6
      clear_value x_12
      refine Same.ite0 ?_ ?_
      · exact h_13
      · refine Same.step (freeLoc_same ..) ?_
        exact h_13

theorem placeMoved_same (s : State) : Same 16384 s (placeMoved s) := by
  have h0 := Same.refl 16384 s
  unfold placeMoved
  refine Same.step (Same.set_bau ..) ?_
  exact Same.refl _ _

theorem switchPage_same (s : State) (o : WOp) (m : MPage) : Same 13228499273764 s (switchPage s o m) := by
  have h0 := Same.refl 13228499273764 s
  unfold switchPage
  split
  · rename_i a_1 a_2
    exact Same.refl _ _
  · rename_i a_3 a_4 a_5
    extract_lets +onlyGivenNames x_6
    extract_lets +onlyGivenNames x_7
    extract_lets +onlyGivenNames x_8
    extract_lets +onlyGivenNames x_9
    extract_lets +onlyGivenNames x_10
    have h_11 : Same 13228499273764 s x_10 := by
      subst x_10
      split
      · rename_i a_12 a_13 a_14
        refine Same.ite0 ?_ ?_
        · exact Same.refl _ _
        · refine Same.step (freeLoc_same ..) ?_
          exact Same.refl _ _
      · rename_i a_15 a_16
        exact Same.refl _ _
    clear_value x_10
    extract_lets +onlyGivenNames x_17
    extract_lets +onlyGivenNames x_18
    have h_19 : Same 13228499273764 s x_18 := by
      subst x_18
      refine Same.step (setBack_same ..) ?_
      exact h_11
    clear_value x_18
    extract_lets +onlyGivenNames x_20
    have h_21 : Same 13228499273764 s x_20 := by
      subst x_20
      refine Same.ite0 ?_ ?_
      · refine Same.step (trimPage_same ..) ?_
        refine Same.ite0 ?_ ?_
        · refine Same.step (noteEncoded_same ..) ?_
          exact h_19
        · exact h_19
      · refine Same.step (fitPage_same ..) ?_
        exact h_19
    clear_value x_20
    extract_lets +onlyGivenNames x_22
    extract_lets +onlyGivenNames x_23
    have h_24 : Same 13228499273764 s x_23 := by
      subst x_23
      refine Same.foldl _ ?_ ?_
      · exact h_21
      · intro a_25 a_26 a_27
        refine Same.step (dropCached_same ..) ?_
        exact a_27
    clear_value x_23
    split
    · rename_i a_28 a_29
      refine Same.step (bump_same ..) ?_
      exact h_24
    · rename_i a_30 a_31
      refine Same.step (bump_same ..) ?_
      exact h_24
    · rename_i a_32 a_33 a_34
      extract_lets +onlyGivenNames x_35
      subst x_35
      extract_lets +onlyGivenNames x_36
      have h_37 : Same 13228499273764 s x_36 := by
        subst x_36
        refine Same.step (Same.set_pool_quotaOps ..) ?_
        exact h_24
      clear_value x_36
      extract_lets +onlyGivenNames x_38
      have h_39 : Same 13228499273764 s x_38 := by
        subst x_38
        split
        · rename_i a_40 a_41 a_42
          refine Same.step (addProgress_same ..) ?_
          exact h_37
        · rename_i a_43 a_44
          exact h_37
      clear_value x_38
      refine Same.step (bump_same ..) ?_
      exact h_39
    · rename_i a_45 a_46 a_47 a_48 a_49 a_50
      refine Same.step (bump_same ..) ?_
      refine Same.step (bump_same ..) ?_
      exact h_24
    · rename_i a_51 a_52 a_53 a_54 a_55
      exact h_24

theorem skipPage_same (s : State) (o : WOp) : Same 4 s (skipPage s o).1 := by
  have h0 := Same.refl 4 s
  unfold skipPage
  refine Same.pair1 ?_
  refine Same.step (bump_same ..) ?_
  exact Same.refl _ _

theorem pinPlaced_same (s : State) (o : WOp) (id : Nat) (b : Back) : Same 34359738368 s (pinPlaced s o id b) := by
  have h0 := Same.refl 34359738368 s
  unfold pinPlaced
  split
  · rename_i a_1 a_2 a_3
    refine Same.step (setBack_same ..) ?_
    exact Same.refl _ _
  · rename_i a_4 a_5
    exact Same.refl _ _

theorem issueChunk_same (s : State) (id : Nat) (o : WOp) (range : Nat) : Same 34359756804 s (issueChunk s id o range) := by
  have h0 := Same.refl 34359756804 s
  unfold issueChunk
  extract_lets +onlyGivenNames x_1
  extract_lets +onlyGivenNames x_2
  split
  · rename_i a_3 a_4 a_5 a_6 a_7
    have h_8 : Same 34359756804 s a_4 := by
      refine Same.of1 ?_ a_7
      refine Same.foldl1 _ ?_ ?_
      · refine Same.pair1 ?_
        exact Same.refl _ _
      · intro a_9 a_10 a_11
        unfold chunkStep
        split
        · rename_i a_12 a_13 a_14 a_15
          split
          · rename_i a_16 a_17
            exact a_11
          · rename_i a_18 a_19 a_20
            split
            · rename_i a_21 a_22
              exact a_11
            · rename_i a_23 a_24 a_25
              split
              · rename_i a_26 a_27
                exact a_11
              · rename_i a_28 a_29 a_30
                refine Same.ite (f := Prod.fst) ?_ ?_
                · refine Same.pair1 ?_
                  exact a_11
                · split
                  · rename_i a_31 a_32
                    refine Same.pair1 ?_
                    refine Same.step (pinPlaced_same ..) ?_
                    exact a_11
                  · rename_i a_33 a_34
                    exact a_11
                  · rename_i a_35 a_36
                    split
                    · rename_i a_37 a_38 a_39 a_40
                      have h_41 : Same 34359756804 s a_38 := by
                        refine Same.of1 ?_ a_40
                        refine Same.step (skipPage_same ..) ?_
                        exact a_11
                      refine Same.pair1 ?_
                      exact h_41
                  · rename_i a_42 a_43 a_44 a_45
                    have h_46 : Same 34359756804 s a_44 := by
                      refine SameO.of (o := destSt _) ?_ (congrArg destSt a_45)
                      refine SameO.pass (destOf_same ..) ?_
                      exact a_11
                    refine Same.pair1 ?_
                    refine Same.step (setBack_same ..) ?_
                    exact h_46
    extract_lets +onlyGivenNames x_47
    have h_48 : Same 34359756804 s x_47 := by
      subst x_47
      refine Same.step (setOp_same ..) ?_
      exact h_8
    clear_value x_47
    refine Same.ite0 ?_ ?_
    · exact h_48
    · refine Same.step (Same.set_tier ..) ?_
      exact h_48

end Sys2Proof.Machine
end

