-- ==== Sys2Proof/Laws/KeepWinchWork.lean ====
section
/-! SUPPORT. What each operation of Machine/WinchWork.lean leaves alone: the parts it may write, as a number, and all else kept. -/

set_option linter.unusedVariables false

namespace Sys2Proof.Machine

set_option Elab.async false

theorem setBuild_same (s : State) (b : CBuild) : Same 4096 s (setBuild s b) := by
  have h0 := Same.refl 4096 s
  unfold setBuild
  refine Same.step (Same.set_cmp ..) ?_
  exact Same.refl _ _

theorem sendDonor_same (s : State) (id : Nat) (secs : List Nat) (b3 : Loc) : Same 131084 s (sendDonor s id secs b3) := by
  have h0 := Same.refl 131084 s
  unfold sendDonor
  split
  · rename_i a_1 a_2 a_3
    refine Same.foldl _ ?_ ?_
    · exact Same.refl _ _
    · intro a_4 a_5 a_6
      refine Same.step (askDonor_same ..) ?_
      exact a_6
  · rename_i a_7 a_8
    exact Same.refl _ _

theorem sendCopy_same (s : State) (id : Nat) (b : Back) (secs : List Nat) : Same 131084 s (sendCopy s id b secs) := by
  have h0 := Same.refl 131084 s
  unfold sendCopy
  split
  · rename_i a_1 a_2 a_3
    refine Same.step (sendDonor_same ..) ?_
    exact Same.refl _ _
  · rename_i a_4 a_5
    exact Same.refl _ _

theorem compBackup_same (s : State) (o : WOp) (page : Nat) : Same 34359871500 s (compBackup s o page).s := by
  have h0 := Same.refl 34359871500 s
  unfold compBackup
  split
  · rename_i a_1 a_2
    refine Same.comp ?_
    exact Same.refl _ _
  · rename_i a_3 a_4 a_5
    split
    · rename_i a_6 a_7
      refine Same.comp ?_
      exact Same.refl _ _
    · rename_i a_8 a_9 a_10
      extract_lets +onlyGivenNames x_11
      have h_12 : Same 34359871500 s x_11 := by
        subst x_11
        refine SameO.getD ?_ ?_
        · refine SameO.pass (fitCopy_same ..) ?_
          refine Same.step (setBack_same ..) ?_
          exact Same.refl _ _
        · exact Same.refl _ _
      clear_value x_11
      refine Same.comp ?_
      refine Same.step (sendCopy_same ..) ?_
      exact h_12

theorem compEncode_same (s : State) (o : WOp) (op : Nat) (tag : Nat) (src : Nat) (len : Nat) (sup : Supply) : Same 4100 s (compEncode s o op tag src len sup).s := by
  have h0 := Same.refl 4100 s
  unfold compEncode
  split
  · rename_i a_1 a_2
    refine Same.comp ?_
    exact Same.refl _ _
  · rename_i a_3 a_4 a_5
    split
    · rename_i a_6 a_7 a_8 a_9
      extract_lets +onlyGivenNames x_10
      extract_lets +onlyGivenNames x_11
      extract_lets +onlyGivenNames x_12
      extract_lets +onlyGivenNames x_13
      refine Same.comp ?_
      refine Same.step (setBuild_same ..) ?_
      refine Same.step (noteEncoded_same ..) ?_
      exact Same.refl _ _

theorem noteBlocks_same (s : State) (o : WOp) (d : Decoded) (fresh : List Nat) (obj : Nat) (addr : Nat) : Same 10485804 s (noteBlocks s o d fresh obj addr) := by
  have h0 := Same.refl 10485804 s
  unfold noteBlocks
  extract_lets +onlyGivenNames x_1
  have h_2 : Same 10485804 s x_1 := by
    subst x_1
    refine Same.step (bumpBy_same ..) ?_
    exact Same.refl _ _
  clear_value x_1
  extract_lets +onlyGivenNames x_3
  have h_4 : Same 10485804 s x_3 := by
    subst x_3
    refine Same.step (bumpBy_same ..) ?_
    exact h_2
  clear_value x_3
  refine Same.foldl _ ?_ ?_
  · exact h_4
  · intro a_5 a_6 a_7
    refine Same.step (logEvent_same ..) ?_
    refine Same.step (bump_same ..) ?_
    exact a_7

theorem compExpand_same (s : State) (o : WOp) (tag : Nat) (obj : Nat) (off : Nat) (len : Nat) (dst : Nat) (sup : Supply) : Same 10489900 s (compExpand s o tag obj off len dst sup).s := by
  have h0 := Same.refl 10489900 s
  unfold compExpand
  split
  · rename_i a_1 a_2
    refine Same.comp ?_
    exact Same.refl _ _
  · rename_i a_3 a_4 a_5
    extract_lets +onlyGivenNames x_6
    split
    · rename_i a_7 a_8 a_9 a_10 a_11 a_12
      extract_lets +onlyGivenNames x_13
      extract_lets +onlyGivenNames x_14
      extract_lets +onlyGivenNames x_15
      extract_lets +onlyGivenNames x_16
      extract_lets +onlyGivenNames x_17
      have h_18 : Same 10489900 s x_17 := by
        subst x_17
        refine Same.step (noteBlocks_same ..) ?_
        exact Same.refl _ _
      clear_value x_17
      extract_lets +onlyGivenNames x_19
      extract_lets +onlyGivenNames x_20
      have h_21 : Same 10489900 s x_20 := by
        subst x_20
        refine Same.step (Same.set_cmp ..) ?_
        exact h_18
      clear_value x_20
      extract_lets +onlyGivenNames x_22
      refine Same.comp ?_
      exact h_21

theorem setLayer_same (s : State) (win : Nat) (layer : Nat) (l : Layer) : Same 2048 s (setLayer s win layer l) := by
  have h0 := Same.refl 2048 s
  unfold setLayer
  refine Same.step (Same.set_tier ..) ?_
  exact Same.refl _ _

theorem takeLayerRef_same (s : State) (k : Key) (win : Nat) (layer : Nat) (w : Window) (head : List Byte) : Same 6144 s (takeLayerRef s k win layer w head) := by
  have h0 := Same.refl 6144 s
  unfold takeLayerRef
  extract_lets +onlyGivenNames x_1
  refine Same.ite0 ?_ ?_
  · exact Same.refl _ _
  · refine Same.step (addRef_same ..) ?_
    refine Same.step (Same.set_tier ..) ?_
    exact Same.refl _ _

theorem compLayer_same (s : State) (o : WOp) (op : Nat) (tag : Nat) (win : Nat) (layer : Nat) (off : Nat) (len : Nat) (sup : Supply) : Same 10491948 s (compLayer s o op tag win layer off len sup).s := by
  have h0 := Same.refl 10491948 s
  unfold compLayer
  split
  · rename_i a_1 a_2
    refine Same.comp ?_
    exact Same.refl _ _
  · rename_i a_3 a_4 a_5 a_6
    extract_lets +onlyGivenNames x_7
    extract_lets +onlyGivenNames x_8
    extract_lets +onlyGivenNames x_9
    subst x_9
    dsimp -zeta -zetaHave only
    extract_lets +onlyGivenNames x_10
    extract_lets +onlyGivenNames x_11
    have h_12 : Same 10491948 s x_11 := by
      subst x_11
      refine Same.ite0 ?_ ?_
      · refine Same.step (bump_same ..) ?_
        exact Same.refl _ _
      · exact Same.refl _ _
    clear_value x_11
    refine Same.ite (f := Comp.s) ?_ ?_
    · refine Same.comp ?_
      exact h_12
    · refine Same.ite (f := Comp.s) ?_ ?_
      · refine Same.comp ?_
        exact h_12
      · refine Same.ite (f := Comp.s) ?_ ?_
        · extract_lets +onlyGivenNames x_13
          extract_lets +onlyGivenNames x_14
          refine Same.comp ?_
          exact h_12
        · extract_lets +onlyGivenNames x_15
          extract_lets +onlyGivenNames x_16
          have h_17 : Same 10491948 s x_16 := by
            subst x_16
            refine Same.ite0 ?_ ?_
            · exact h_12
            · refine Same.step (takeLayerRef_same ..) ?_
              exact h_12
          clear_value x_16
          extract_lets +onlyGivenNames x_18
          extract_lets +onlyGivenNames x_19
          extract_lets +onlyGivenNames x_20
          extract_lets +onlyGivenNames x_21
          extract_lets +onlyGivenNames x_22
          have h_23 : Same 10491948 s x_22 := by
            subst x_22
            refine Same.step (noteBlocks_same ..) ?_
            exact h_17
          clear_value x_22
          extract_lets +onlyGivenNames x_24
          have h_25 : Same 10491948 s x_24 := by
            subst x_24
            refine Same.ite0 ?_ ?_
            · exact h_23
            · refine Same.step (setLayer_same ..) ?_
              exact h_23
          clear_value x_24
          extract_lets +onlyGivenNames x_26
          extract_lets +onlyGivenNames x_27
          refine Same.comp ?_
          exact h_25

theorem compMove_same (s : State) (o : WOp) (op : Nat) (page : Nat) : Same 131084 s (compMove s o op page).s := by
  have h0 := Same.refl 131084 s
  unfold compMove
  split
  · rename_i a_1 a_2
    refine Same.comp ?_
    exact Same.refl _ _
  · rename_i a_3 a_4 a_5
    extract_lets +onlyGivenNames x_6
    extract_lets +onlyGivenNames x_7
    have h_8 : Same 131084 s x_7 := by
      subst x_7
      refine Same.ite0 ?_ ?_
      · refine Same.step (noteDecoded_same ..) ?_
        exact Same.refl _ _
      · exact Same.refl _ _
    clear_value x_7
    refine Same.comp ?_
    refine Same.step (sendDonor_same ..) ?_
    exact h_8

theorem compRecode_same (s : State) (o : WOp) (op : Nat) (tag : Nat) (obj : Nat) (sup : Supply) : Same 10489900 s (compRecode s o op tag obj sup).s := by
  have h0 := Same.refl 10489900 s
  unfold compRecode
  split
  · rename_i a_1 a_2 a_3 a_4 a_5 a_6
    split
    · rename_i a_7 a_8
      refine Same.comp ?_
      exact Same.refl _ _
    · rename_i a_9 a_10 a_11
      extract_lets +onlyGivenNames x_12
      split
      · rename_i a_13 a_14 a_15 a_16 a_17 a_18
        extract_lets +onlyGivenNames x_19
        extract_lets +onlyGivenNames x_20
        extract_lets +onlyGivenNames x_21
        have h_22 : Same 10489900 s x_21 := by
          subst x_21
          refine Same.step (noteBlocks_same ..) ?_
          exact Same.refl _ _
        clear_value x_21
        extract_lets +onlyGivenNames x_23
        extract_lets +onlyGivenNames x_24
        extract_lets +onlyGivenNames x_25
        have h_26 : Same 10489900 s x_25 := by
          subst x_25
          refine Same.step (addRef_same ..) ?_
          exact h_22
        clear_value x_25
        extract_lets +onlyGivenNames x_27
        extract_lets +onlyGivenNames x_28
        extract_lets +onlyGivenNames x_29
        have h_30 : Same 10489900 s x_29 := by
          subst x_29
          refine Same.step (Same.set_cmp ..) ?_
          exact h_26
        clear_value x_29
        extract_lets +onlyGivenNames x_31
        have h_32 : Same 10489900 s x_31 := by
          subst x_31
          refine Same.step (dropRef_same ..) ?_
          refine Same.step (bump_same ..) ?_
          refine Same.step (noteEncoded_same ..) ?_
          exact h_30
        clear_value x_31
        refine Same.comp ?_
        refine Same.step (setBuild_same ..) ?_
        exact h_32
  · rename_i a_33 a_34 a_35
    refine Same.comp ?_
    exact Same.refl _ _

theorem compWriteback_same (s : State) (o : WOp) (page : Nat) (lo : Nat) (hi : Nat) : Same 34359871500 s (compWriteback s o page lo hi).s := by
  have h0 := Same.refl 34359871500 s
  unfold compWriteback
  split
  · rename_i a_1 a_2
    refine Same.comp ?_
    exact Same.refl _ _
  · rename_i a_3 a_4 a_5
    split
    · rename_i a_6 a_7
      refine Same.comp ?_
      exact Same.refl _ _
    · rename_i a_8 a_9 a_10
      extract_lets +onlyGivenNames x_11
      split
      · rename_i a_12 a_13
        refine Same.comp ?_
        exact Same.refl _ _
      · rename_i a_14 a_15 a_16
        have h_17 : Same 34359871500 s a_15 := by
          refine SameO.some ?_ a_16
          refine SameO.pass (fitCopy_same ..) ?_
          refine Same.step (setBack_same ..) ?_
          exact Same.refl _ _
        refine Same.comp ?_
        refine Same.step (bumpBy_same ..) ?_
        refine Same.step (sendCopy_same ..) ?_
        exact h_17

theorem compUnit_same (s : State) (o : WOp) (op : Nat) (tag : Nat) (w : WWork) (sup : Supply) : Same 34370361388 s (compUnit s o op tag w sup).s := by
  have h0 := Same.refl 34370361388 s
  unfold compUnit
  split
  · rename_i a_1 a_2 a_3 a_4
    split
    · rename_i a_5 a_6 a_7 a_8
      refine Same.comp ?_
      exact Same.refl _ _
  · rename_i a_9 a_10 a_11 a_12
    refine Same.comp ?_
    exact Same.refl _ _
  · rename_i a_13 a_14 a_15 a_16
    extract_lets +onlyGivenNames x_17
    refine Same.comp ?_
    exact Same.refl _ _
  · rename_i a_18 a_19 a_20 a_21
    refine Same.step (compWriteback_same ..) ?_
    exact Same.refl _ _
  · rename_i a_22 a_23
    refine Same.step (compBackup_same ..) ?_
    exact Same.refl _ _
  · rename_i a_24 a_25 a_26 a_27 a_28
    refine Same.step (compLayer_same ..) ?_
    exact Same.refl _ _
  · rename_i a_29 a_30 a_31
    split
    · rename_i a_32 a_33
      refine Same.comp ?_
      exact Same.refl _ _
    · rename_i a_34 a_35 a_36
      split
      · rename_i a_37 a_38 a_39 a_40
        refine Same.comp ?_
        refine Same.step (setBuild_same ..) ?_
        exact Same.refl _ _
  · rename_i a_41 a_42 a_43 a_44
    refine Same.step (compEncode_same ..) ?_
    exact Same.refl _ _
  · rename_i a_45
    split
    · rename_i a_46 a_47
      refine Same.comp ?_
      exact Same.refl _ _
    · rename_i a_48 a_49 a_50
      extract_lets +onlyGivenNames x_51
      refine Same.comp ?_
      exact Same.refl _ _
  · rename_i a_52 a_53 a_54 a_55 a_56
    refine Same.step (compExpand_same ..) ?_
    exact Same.refl _ _
  · rename_i a_57 a_58
    refine Same.step (compRecode_same ..) ?_
    exact Same.refl _ _
  · rename_i a_59 a_60
    refine Same.step (compMove_same ..) ?_
    exact Same.refl _ _
  · rename_i a_61 a_62 a_63 a_64
    refine Same.comp ?_
    exact Same.refl _ _
  · rename_i a_65 a_66
    refine Same.comp ?_
    exact Same.refl _ _

end Sys2Proof.Machine
end

