-- ==== Sys2Proof/Laws/KeepWinch.lean ====
section
/-! SUPPORT. What each operation of Machine/Winch.lean leaves alone: the parts it may write, as a number, and all else kept. -/

set_option linter.unusedVariables false

namespace Sys2Proof.Machine

set_option Elab.async false

theorem sendWrites_same (s : State) (k : Key) (a : Nat) (ls : List (Line × Bool)) : Same 131084 s (sendWrites s k a ls) := by
  have h0 := Same.refl 131084 s
  unfold sendWrites
  refine Same.foldl _ ?_ ?_
  · exact Same.refl _ _
  · intro a_1 a_2 a_3
    extract_lets +onlyGivenNames x_4
    refine Same.step (sendEngine_same ..) ?_
    exact a_3

theorem dropWindow_same (s : State) (i : Nat) : Same 34359744544 s (dropWindow s i) := by
  have h0 := Same.refl 34359744544 s
  unfold dropWindow
  split
  · rename_i a_1 a_2
    exact Same.refl _ _
  · rename_i a_3 a_4 a_5
    extract_lets +onlyGivenNames x_6
    have h_7 : Same 34359744544 s x_6 := by
      subst x_6
      refine Same.step (pinRange_same ..) ?_
      exact Same.refl _ _
    clear_value x_6
    extract_lets +onlyGivenNames x_8
    have h_9 : Same 34359744544 s x_8 := by
      subst x_8
      refine Same.foldl _ ?_ ?_
      · exact h_7
      · intro a_10 a_11 a_12
        refine Same.step (dropRef_same ..) ?_
        exact a_12
    clear_value x_8
    extract_lets +onlyGivenNames x_13
    extract_lets +onlyGivenNames x_14
    have h_15 : Same 34359744544 s x_14 := by
      subst x_14
      refine Same.step (Same.set_tier ..) ?_
      exact h_9
    clear_value x_14
    split
    · rename_i a_16 a_17 a_18
      refine Same.step (engineDone_same ..) ?_
      exact h_15
    · rename_i a_19 a_20
      exact h_15

theorem advanceEnd_same (s : State) (i : Nat) : Same 34359744544 s (advanceEnd s i) := by
  have h0 := Same.refl 34359744544 s
  unfold advanceEnd
  split
  · rename_i a_1 a_2
    exact Same.refl _ _
  · rename_i a_3 a_4 a_5
    extract_lets +onlyGivenNames x_6
    extract_lets +onlyGivenNames x_7
    have h_8 : Same 34359744544 s x_7 := by
      subst x_7
      refine Same.step (Same.set_tier ..) ?_
      exact Same.refl _ _
    clear_value x_7
    refine Same.ite0 ?_ ?_
    · refine Same.step (dropWindow_same ..) ?_
      exact h_8
    · exact h_8

theorem dropBuild_same (s : State) (op : Nat) : Same 4096 s (dropBuild s op) := by
  have h0 := Same.refl 4096 s
  unfold dropBuild
  refine Same.step (Same.set_cmp ..) ?_
  exact Same.refl _ _

theorem buildFail_same (s : State) (b : CBuild) (id : Nat) (o : WOp) : Same 6176 s (buildFail s b id o) := by
  have h0 := Same.refl 6176 s
  unfold buildFail
  refine Same.step (pruneGens_same ..) ?_
  refine Same.step (engineDone_same ..) ?_
  refine Same.step (dropOp_same ..) ?_
  refine Same.step (dropBuild_same ..) ?_
  exact Same.refl _ _

theorem registerObject_same (s : State) (b : CBuild) (o : WOp) : Same 4128 s (registerObject s b o) := by
  have h0 := Same.refl 4128 s
  unfold registerObject
  extract_lets +onlyGivenNames x_1
  extract_lets +onlyGivenNames x_2
  extract_lets +onlyGivenNames x_3
  have h_4 : Same 4128 s x_3 := by
    subst x_3
    refine Same.step (addRef_same ..) ?_
    exact Same.refl _ _
  clear_value x_3
  extract_lets +onlyGivenNames x_5
  extract_lets +onlyGivenNames x_6
  have h_7 : Same 4128 s x_6 := by
    subst x_6
    refine Same.step (Same.set_cmp ..) ?_
    exact h_4
  clear_value x_6
  split
  · rename_i a_8 a_9 a_10
    refine Same.step (engineDone_same ..) ?_
    exact h_7
  · rename_i a_11 a_12
    exact h_7

theorem buildNext_same (s : State) (b : CBuild) (id : Nat) (o : WOp) : Same 6176 s (buildNext s b id o) := by
  have h0 := Same.refl 6176 s
  unfold buildNext
  refine Same.ite0 ?_ ?_
  · extract_lets +onlyGivenNames x_1
    have h_2 : Same 6176 s x_1 := by
      subst x_1
      refine Same.step (registerObject_same ..) ?_
      exact Same.refl _ _
    clear_value x_1
    refine Same.step (pruneGens_same ..) ?_
    refine Same.step (dropOp_same ..) ?_
    refine Same.step (dropBuild_same ..) ?_
    exact h_2
  · extract_lets +onlyGivenNames x_3
    extract_lets +onlyGivenNames x_4
    have h_5 : Same 6176 s x_4 := by
      subst x_4
      refine Same.step (installGen_same ..) ?_
      exact Same.refl _ _
    clear_value x_4
    extract_lets +onlyGivenNames x_6
    refine Same.ite0 ?_ ?_
    · extract_lets +onlyGivenNames x_7
      have h_8 : Same 6176 s x_7 := by
        subst x_7
        refine Same.step (engineDone_same ..) ?_
        exact h_5
      clear_value x_7
      refine Same.step (dropOp_same ..) ?_
      refine Same.step (dropBuild_same ..) ?_
      exact h_8
    · refine Same.step (setOp_same ..) ?_
      refine Same.step (setBuild_same ..) ?_
      exact h_5

theorem startReplace_same (s : State) (st : Nat) (bank : Nat) : SameO 8196 s (startReplace s st bank) := by
  have h0 := Same.refl 8196 s
  unfold startReplace
  extract_lets +onlyGivenNames x_1
  refine SameO.ite0 ?_ ?_
  · refine SameO.yes ?_
    exact Same.refl _ _
  · split
    · rename_i a_2 a_3
      exact SameO.no
    · rename_i a_4 a_5 a_6
      refine SameO.yes ?_
      refine Same.step (setBit_same ..) ?_
      refine Same.step (setStack_same ..) ?_
      exact Same.refl _ _

theorem spareBanks_same (st : Nat) (b1 : List Nat) (b2 : State) : Same 8196 b2 (spareBanks st b1 b2) := by
  induction b1 generalizing st b2
  · have h_1 := Same.refl 8196 b2
    unfold spareBanks
    exact Same.refl _ _
  · rename_i i_2 i_3 i_4
    have h_5 := Same.refl 8196 b2
    unfold spareBanks
    split
    · rename_i a_6 a_7 a_8
      have h_9 : Same 8196 b2 a_7 := by
        refine SameO.some ?_ a_8
        refine SameO.pass (startReplace_same ..) ?_
        exact Same.refl _ _
      refine Same.step (i_4 ..) ?_
      exact h_9
    · rename_i a_10 a_11
      exact Same.refl _ _

theorem dropGens_same (s : State) (slot : Nat) (gens : List Nat) : Same 4096 s (dropGens s slot gens) := by
  have h0 := Same.refl 4096 s
  unfold dropGens
  extract_lets +onlyGivenNames x_1
  extract_lets +onlyGivenNames x_2
  extract_lets +onlyGivenNames x_3
  refine Same.ite0 ?_ ?_
  · refine Same.step (Same.set_cmp ..) ?_
    exact Same.refl _ _
  · refine Same.step (setCslot_same ..) ?_
    exact Same.refl _ _

theorem retireEnd_same (s : State) (b : CBuild) (id : Nat) (o : WOp) : Same 6176 s (retireEnd s b id o) := by
  have h0 := Same.refl 6176 s
  unfold retireEnd
  extract_lets +onlyGivenNames x_1
  extract_lets +onlyGivenNames x_2
  refine Same.ite0 ?_ ?_
  · exact Same.refl _ _
  · extract_lets +onlyGivenNames x_3
    extract_lets +onlyGivenNames x_4
    have h_5 : Same 6176 s x_4 := by
      subst x_4
      refine Same.step (dropOp_same ..) ?_
      refine Same.step (dropBuild_same ..) ?_
      exact Same.refl _ _
    clear_value x_4
    extract_lets +onlyGivenNames x_6
    split
    · rename_i a_7 a_8 a_9
      refine Same.step (pruneGens_same ..) ?_
      refine Same.step (engineDone_same ..) ?_
      exact h_5
    · rename_i a_10 a_11
      refine Same.ite0 ?_ ?_
      · refine Same.step (pruneGens_same ..) ?_
        refine Same.step (engineDone_same ..) ?_
        exact h_5
      · refine Same.step (engineDone_same ..) ?_
        refine Same.step (dropGens_same ..) ?_
        exact h_5

theorem evacEnd_same (s : State) (st : Nat) (banks : List Nat) : Same 8192 s (evacEnd s st banks) := by
  have h0 := Same.refl 8192 s
  unfold evacEnd
  extract_lets +onlyGivenNames x_1
  refine Same.ite0 ?_ ?_
  · extract_lets +onlyGivenNames x_2
    refine Same.ite0 ?_ ?_
    · exact Same.refl _ _
    · extract_lets +onlyGivenNames x_3
      have h_4 : Same 8192 s x_3 := by
        subst x_3
        refine Same.step (setStack_same ..) ?_
        exact Same.refl _ _
      clear_value x_3
      extract_lets +onlyGivenNames x_5
      refine Same.step (setStack_same ..) ?_
      exact h_4
  · exact Same.refl _ _

theorem finishEvac_same (s : State) (id : Nat) (o : WOp) (st : Nat) (banks : List Nat) : Same 10272 s (finishEvac s id o st banks) := by
  have h0 := Same.refl 10272 s
  unfold finishEvac
  extract_lets +onlyGivenNames x_1
  clear_value x_1
  split
  · rename_i a_2 a_3 a_4
    refine Same.step (dropOp_same ..) ?_
    refine Same.step (setOp_same ..) ?_
    exact Same.refl _ _
  · rename_i a_5
    refine Same.ite0 ?_ ?_
    · exact Same.refl _ _
    · extract_lets +onlyGivenNames x_6
      have h_7 : Same 10272 s x_6 := by
        subst x_6
        refine Same.step (evacEnd_same ..) ?_
        refine Same.step (dropOp_same ..) ?_
        exact Same.refl _ _
      clear_value x_6
      split
      · rename_i a_8 a_9 a_10
        refine Same.step (engineDone_same ..) ?_
        exact h_7
      · rename_i a_11 a_12
        exact h_7

theorem finishOp_same (s : State) (id : Nat) : Same 34359769120 s (finishOp s id) := by
  have h0 := Same.refl 34359769120 s
  unfold finishOp
  split
  · rename_i a_1 a_2
    exact Same.refl _ _
  · rename_i a_3 a_4 a_5
    extract_lets +onlyGivenNames x_6
    have h_7 : Same 34359769120 s x_6 := by
      subst x_6
      refine Same.ite0 ?_ ?_
      · refine Same.step (undoRefused_same ..) ?_
        exact Same.refl _ _
      · exact Same.refl _ _
    clear_value x_6
    refine Same.ite0 ?_ ?_
    · exact h_7
    · extract_lets +onlyGivenNames x_8
      extract_lets +onlyGivenNames x_9
      subst x_9
      dsimp -zeta -zetaHave only
      split
      · rename_i a_10 a_11 a_12 a_13 a_14 a_15
        split
        · rename_i a_16 a_17 a_18
          refine Same.step (engineDone_same ..) ?_
          refine Same.step (dropOp_same ..) ?_
          exact h_7
        · rename_i a_19 a_20
          refine Same.step (engineDone_same ..) ?_
          refine Same.step (dropOp_same ..) ?_
          exact h_7
      · rename_i a_21 a_22 a_23 a_24 a_25 a_26
        split
        · rename_i a_27 a_28 a_29
          refine Same.step (engineDone_same ..) ?_
          refine Same.step (dropOp_same ..) ?_
          exact h_7
        · rename_i a_30 a_31
          refine Same.step (engineDone_same ..) ?_
          refine Same.step (dropOp_same ..) ?_
          exact h_7
      · rename_i a_32 a_33 a_34 a_35 a_36 a_37
        refine Same.step (finishEvac_same ..) ?_
        exact h_7
      · rename_i a_38 a_39
        split
        · rename_i a_40 a_41 a_42
          refine Same.step (engineDone_same ..) ?_
          refine Same.step (dropOp_same ..) ?_
          exact h_7
        · rename_i a_43 a_44
          refine Same.step (engineDone_same ..) ?_
          refine Same.step (dropOp_same ..) ?_
          exact h_7
      · rename_i a_45 a_46
        split
        · rename_i a_47 a_48 a_49
          refine Same.step (engineDone_same ..) ?_
          refine Same.step (dropOp_same ..) ?_
          exact h_7
        · rename_i a_50 a_51
          refine Same.step (engineDone_same ..) ?_
          refine Same.step (dropOp_same ..) ?_
          exact h_7
      · rename_i a_52 a_53 a_54 a_55
        refine Same.ite0 ?_ ?_
        · exact h_7
        · split
          · rename_i a_56 a_57 a_58
            refine Same.step (engineDone_same ..) ?_
            refine Same.step (dropOp_same ..) ?_
            exact h_7
          · rename_i a_59 a_60
            refine Same.step (engineDone_same ..) ?_
            refine Same.step (dropOp_same ..) ?_
            exact h_7
      · rename_i a_61 a_62
        split
        · rename_i a_63 a_64 a_65
          refine Same.step (engineDone_same ..) ?_
          refine Same.step (dropOp_same ..) ?_
          exact h_7
        · rename_i a_66 a_67
          refine Same.step (engineDone_same ..) ?_
          refine Same.step (dropOp_same ..) ?_
          exact h_7
      · rename_i a_68 a_69 a_70
        split
        · rename_i a_71 a_72 a_73
          refine Same.step (engineDone_same ..) ?_
          refine Same.step (dropWindow_same ..) ?_
          refine Same.step (dropOp_same ..) ?_
          exact h_7
        · rename_i a_74 a_75
          refine Same.step (engineDone_same ..) ?_
          refine Same.step (dropOp_same ..) ?_
          exact h_7
      · rename_i a_76 a_77 a_78
        extract_lets +onlyGivenNames x_79
        have h_80 : Same 34359769120 s x_79 := by
          subst x_79
          split
          · rename_i a_81 a_82 a_83 a_84
            split
            · rename_i a_85 a_86 a_87
              refine Same.step (engineDone_same ..) ?_
              refine Same.step (dropOp_same ..) ?_
              exact h_7
            · rename_i a_88 a_89
              refine Same.step (engineDone_same ..) ?_
              refine Same.step (dropOp_same ..) ?_
              exact h_7
          · rename_i a_90 a_91
            split
            · rename_i a_92 a_93 a_94
              refine Same.step (engineDone_same ..) ?_
              refine Same.step (dropOp_same ..) ?_
              exact h_7
            · rename_i a_95 a_96
              refine Same.step (engineDone_same ..) ?_
              refine Same.step (dropOp_same ..) ?_
              exact h_7
        clear_value x_79
        refine Same.step (advanceEnd_same ..) ?_
        exact h_80
      · rename_i a_97 a_98 a_99 a_100
        split
        · rename_i a_101 a_102
          refine Same.step (dropOp_same ..) ?_
          exact h_7
        · rename_i a_103 a_104 a_105
          refine Same.ite0 ?_ ?_
          · refine Same.step (buildFail_same ..) ?_
            exact h_7
          · refine Same.step (buildNext_same ..) ?_
            exact h_7
      · rename_i a_106 a_107 a_108
        split
        · rename_i a_109 a_110 a_111 a_112
          split
          · rename_i a_113 a_114 a_115
            refine Same.step (engineDone_same ..) ?_
            refine Same.step (dropOp_same ..) ?_
            exact h_7
          · rename_i a_116 a_117
            refine Same.step (engineDone_same ..) ?_
            refine Same.step (dropOp_same ..) ?_
            exact h_7
        · rename_i a_118 a_119
          split
          · rename_i a_120 a_121 a_122
            refine Same.step (engineDone_same ..) ?_
            refine Same.step (dropOp_same ..) ?_
            exact h_7
          · rename_i a_123 a_124
            refine Same.step (engineDone_same ..) ?_
            refine Same.step (dropOp_same ..) ?_
            exact h_7
      · rename_i a_125 a_126 a_127
        split
        · rename_i a_128 a_129
          refine Same.step (dropOp_same ..) ?_
          exact h_7
        · rename_i a_130 a_131 a_132
          refine Same.step (retireEnd_same ..) ?_
          exact h_7
      · rename_i a_133 a_134 a_135
        split
        · rename_i a_136 a_137
          refine Same.step (dropOp_same ..) ?_
          exact h_7
        · rename_i a_138 a_139 a_140
          refine Same.ite0 ?_ ?_
          · refine Same.step (erasePlacement_same ..) ?_
            refine Same.step (engineDone_same ..) ?_
            refine Same.step (dropOp_same ..) ?_
            exact h_7
          · extract_lets +onlyGivenNames x_141
            have h_142 : Same 34359769120 s x_141 := by
              subst x_141
              refine Same.step (setPlacement_same ..) ?_
              exact h_7
            clear_value x_141
            refine Same.step (settlePlaces_same ..) ?_
            refine Same.step (engineDone_same ..) ?_
            refine Same.step (dropOp_same ..) ?_
            exact h_142
      · rename_i a_143 a_144 a_145
        exact h_7
      · rename_i a_146 a_147 a_148 a_149 a_150 a_151 a_152 a_153 a_154 a_155 a_156 a_157 a_158 a_159 a_160
        refine Same.step (dropOp_same ..) ?_
        exact h_7

theorem pagesOver_same (s : State) (st : Nat) (banks : List Nat) : Same 8192 s (pagesOver s st banks) := by
  have h0 := Same.refl 8192 s
  unfold pagesOver
  extract_lets +onlyGivenNames x_1
  extract_lets +onlyGivenNames x_2
  subst x_2
  dsimp -zeta -zetaHave only
  refine Same.step (setStack_same ..) ?_
  exact Same.refl _ _

theorem startEvac_same (s : State) (h : Option Nat) (key : Key) (st : Nat) (order : Nat) (banks : List Nat) : Same 34359769124 s (startEvac s h key st order banks) := by
  have h0 := Same.refl 34359769124 s
  unfold startEvac
  extract_lets +onlyGivenNames x_1
  extract_lets +onlyGivenNames x_2
  extract_lets +onlyGivenNames x_3
  extract_lets +onlyGivenNames x_4
  have h_5 : Same 34359769124 s x_4 := by
    subst x_4
    refine Same.step (setStack_same ..) ?_
    exact Same.refl _ _
  clear_value x_4
  extract_lets +onlyGivenNames x_6
  have h_7 : Same 34359769124 s x_6 := by
    subst x_6
    refine Same.step (setBit_same ..) ?_
    exact h_5
  clear_value x_6
  extract_lets +onlyGivenNames x_8
  have h_9 : Same 34359769124 s x_8 := by
    subst x_8
    refine Same.ite0 ?_ ?_
    · refine Same.step (pagesOver_same ..) ?_
      refine Same.step (spareBanks_same ..) ?_
      exact h_7
    · exact h_7
  clear_value x_8
  extract_lets +onlyGivenNames x_10
  extract_lets +onlyGivenNames x_11
  subst x_11
  dsimp -zeta -zetaHave only
  extract_lets +onlyGivenNames x_12
  refine Same.foldl _ ?_ ?_
  · refine Same.foldl1 _ ?_ ?_
    · refine Same.pair1 ?_
      exact h_9
    · intro a_13 a_14 a_15
      refine Same.pair1 ?_
      refine Same.step (addOp_same ..) ?_
      exact a_15
  · intro a_16 a_17 a_18
    refine Same.step (finishOp_same ..) ?_
    exact a_18

theorem zeroAwaiting_same (s : State) (ps : List Nat) : Same 2731600383628 s (zeroAwaiting s ps) := by
  have h0 := Same.refl 2731600383628 s
  unfold zeroAwaiting
  refine Same.foldl _ ?_ ?_
  · exact Same.refl _ _
  · intro a_1 a_2 a_3
    extract_lets +onlyGivenNames x_4
    extract_lets +onlyGivenNames x_5
    have h_6 : Same 2731600383628 s x_5 := by
      subst x_5
      refine Same.step (queueRecalls_same ..) ?_
      refine Same.step (Same.set_tier ..) ?_
      exact a_3
    clear_value x_5
    extract_lets +onlyGivenNames x_7
    have h_8 : Same 2731600383628 s x_7 := by
      subst x_7
      refine Same.step (zeroSectors_same ..) ?_
      exact h_6
    clear_value x_7
    refine Same.foldl _ ?_ ?_
    · exact h_8
    · intro a_9 a_10 a_11
      refine Same.step (takeUp_same ..) ?_
      exact a_11

theorem endUnit_same (s : State) (u : WIssued) : Same 2199023255680 s (endUnit s u) := by
  have h0 := Same.refl 2199023255680 s
  unfold endUnit
  refine Same.step (dropStat_same ..) ?_
  refine Same.step (dropFlight_same ..) ?_
  exact Same.refl _ _

theorem startOp_same (s : State) (o : WOp) : Same 34359769120 s (startOp s o) := by
  have h0 := Same.refl 34359769120 s
  unfold startOp
  split
  · rename_i a_1 a_2 a_3 a_4
    have h_5 : Same 34359769120 s a_3 := by
      refine Same.of2 ?_ a_4
      refine Same.step (addOp_same ..) ?_
      exact Same.refl _ _
    refine Same.step (finishOp_same ..) ?_
    exact h_5

theorem execChunkCopied_same (op : BitVec 32) (range : BitVec 32) (s : State) : SameO 13228499302436 s (outSt (execChunkCopied op range s)) := by
  have h0 := Same.refl 13228499302436 s
  unfold execChunkCopied
  split
  · rename_i a_1 a_2
    refine SameO.out_next ?_
    exact Same.refl _ _
  · rename_i a_3 a_4 a_5
    split
    · rename_i a_6 a_7
      refine SameO.out_next ?_
      refine Same.step (undoChunk_same ..) ?_
      exact Same.refl _ _
    · rename_i a_8 a_9 a_10
      refine SameO.ite (f := outSt) ?_ ?_
      · refine SameO.out_next ?_
        exact Same.refl _ _
      · extract_lets +onlyGivenNames x_11
        extract_lets +onlyGivenNames x_12
        have h_13 : Same 13228499302436 s x_12 := by
          subst x_12
          refine Same.foldl _ ?_ ?_
          · exact Same.refl _ _
          · intro a_14 a_15 a_16
            refine Same.step (switchPage_same ..) ?_
            exact a_16
        clear_value x_12
        extract_lets +onlyGivenNames x_17
        extract_lets +onlyGivenNames x_18
        extract_lets +onlyGivenNames x_19
        extract_lets +onlyGivenNames x_20
        extract_lets +onlyGivenNames x_21
        extract_lets +onlyGivenNames x_22
        have h_23 : Same 13228499302436 s x_22 := by
          subst x_22
          refine Same.step (placeMoved_same ..) ?_
          refine Same.step (Same.set_tier ..) ?_
          exact h_13
        clear_value x_22
        extract_lets +onlyGivenNames x_24
        have h_25 : Same 13228499302436 s x_24 := by
          subst x_24
          refine Same.step (setOp_same ..) ?_
          refine Same.step (bump_same ..) ?_
          exact h_23
        clear_value x_24
        extract_lets +onlyGivenNames x_26
        have h_27 : Same 13228499302436 s x_26 := by
          subst x_26
          split
          · rename_i a_28 a_29 a_30
            refine Same.step (addProgress_same ..) ?_
            exact h_25
          · rename_i a_31 a_32
            exact h_25
        clear_value x_26
        refine SameO.out_next ?_
        refine Same.step (finishOp_same ..) ?_
        exact h_27

theorem execChunkDrained_same (op : BitVec 32) (range : BitVec 32) (s : State) : SameO 34359740416 s (outSt (execChunkDrained op range s)) := by
  have h0 := Same.refl 34359740416 s
  unfold execChunkDrained
  split
  · rename_i a_1 a_2
    refine SameO.out_next ?_
    exact Same.refl _ _
  · rename_i a_3 a_4 a_5
    refine SameO.ite (f := outSt) ?_ ?_
    · refine SameO.out_next ?_
      exact Same.refl _ _
    · refine SameO.out_next ?_
      refine Same.step (endChunk_same ..) ?_
      exact Same.refl _ _

theorem execCopy_same (h : Handle) (s : State) : SameO 34359769132 s (outSt (execCopy h s)) := by
  have h0 := Same.refl 34359769132 s
  unfold execCopy
  split
  · rename_i a_1 a_2
    refine SameO.out_next ?_
    exact Same.refl _ _
  · rename_i a_3 a_4 a_5
    extract_lets +onlyGivenNames x_6
    extract_lets +onlyGivenNames x_7
    extract_lets +onlyGivenNames x_8
    extract_lets +onlyGivenNames x_9
    refine SameO.ite (f := outSt) ?_ ?_
    · refine SameO.out_next ?_
      refine Same.step (badDesc_same ..) ?_
      exact Same.refl _ _
    · refine SameO.ite (f := outSt) ?_ ?_
      · refine SameO.out_next ?_
        refine Same.step (badDesc_same ..) ?_
        exact Same.refl _ _
      · refine SameO.ite (f := outSt) ?_ ?_
        · refine SameO.out_next ?_
          refine Same.step (badDesc_same ..) ?_
          exact Same.refl _ _
        · refine SameO.ite (f := outSt) ?_ ?_
          · refine SameO.out_next ?_
            refine Same.step (badDesc_same ..) ?_
            exact Same.refl _ _
          · refine SameO.out_next ?_
            refine Same.step (startOp_same ..) ?_
            refine Same.step (markStarted_same ..) ?_
            exact Same.refl _ _

theorem execFill_same (h : Handle) (s : State) : SameO 34359769132 s (outSt (execFill h s)) := by
  have h0 := Same.refl 34359769132 s
  unfold execFill
  split
  · rename_i a_1 a_2
    refine SameO.out_next ?_
    exact Same.refl _ _
  · rename_i a_3 a_4 a_5
    refine SameO.ite (f := outSt) ?_ ?_
    · refine SameO.out_next ?_
      exact Same.refl _ _
    · split
      · rename_i a_6 a_7 a_8
        refine SameO.out_next ?_
        refine Same.step (badDesc_same ..) ?_
        exact Same.refl _ _
      · rename_i a_9 a_10
        refine SameO.out_next ?_
        refine Same.step (startOp_same ..) ?_
        refine Same.step (markStarted_same ..) ?_
        exact Same.refl _ _

theorem execFillLazy_same (h : Handle) (s : State) : SameO 34359769132 s (outSt (execFillLazy h s)) := by
  have h0 := Same.refl 34359769132 s
  unfold execFillLazy
  split
  · rename_i a_1 a_2
    refine SameO.out_next ?_
    exact Same.refl _ _
  · rename_i a_3 a_4 a_5
    extract_lets +onlyGivenNames x_6
    extract_lets +onlyGivenNames x_7
    extract_lets +onlyGivenNames x_8
    refine SameO.ite (f := outSt) ?_ ?_
    · refine SameO.out_next ?_
      exact Same.refl _ _
    · split
      · rename_i a_9 a_10 a_11
        refine SameO.out_next ?_
        refine Same.step (badDesc_same ..) ?_
        exact Same.refl _ _
      · rename_i a_12 a_13
        refine SameO.ite (f := outSt) ?_ ?_
        · refine SameO.out_next ?_
          refine Same.step (badDesc_same ..) ?_
          exact Same.refl _ _
        · refine SameO.ite (f := outSt) ?_ ?_
          · refine SameO.out_next ?_
            refine Same.step (badDesc_same ..) ?_
            exact Same.refl _ _
          · split
            · rename_i a_14 a_15
              refine SameO.out_next ?_
              refine Same.step (badDesc_same ..) ?_
              exact Same.refl _ _
            · rename_i a_16 a_17 a_18
              extract_lets +onlyGivenNames x_19
              refine SameO.ite (f := outSt) ?_ ?_
              · refine SameO.out_next ?_
                refine Same.step (commit_same ..) ?_
                exact Same.refl _ _
              · refine SameO.ite (f := outSt) ?_ ?_
                · refine SameO.out_next ?_
                  refine Same.step (commit_same ..) ?_
                  exact Same.refl _ _
                · split
                  · rename_i a_20 a_21 a_22 a_23
                    have h_24 : Same 34359769132 s a_22 := by
                      refine Same.of2 ?_ a_23
                      refine Same.step (addOp_same ..) ?_
                      refine Same.step (markStarted_same ..) ?_
                      exact Same.refl _ _
                    extract_lets +onlyGivenNames x_25
                    have h_26 : Same 34359769132 s x_25 := by
                      subst x_25
                      refine Same.foldl _ ?_ ?_
                      · exact h_24
                      · intro a_27 a_28 a_29
                        refine Same.step (Same.set_tier ..) ?_
                        exact a_29
                    clear_value x_25
                    refine SameO.out_next ?_
                    refine Same.step (finishOp_same ..) ?_
                    exact h_26

theorem execFlush_same (h : Handle) (s : State) : SameO 34359769132 s (outSt (execFlush h s)) := by
  have h0 := Same.refl 34359769132 s
  unfold execFlush
  split
  · rename_i a_1 a_2
    refine SameO.out_next ?_
    exact Same.refl _ _
  · rename_i a_3 a_4 a_5
    extract_lets +onlyGivenNames x_6
    extract_lets +onlyGivenNames x_7
    refine SameO.ite (f := outSt) ?_ ?_
    · refine SameO.out_next ?_
      refine Same.step (badDesc_same ..) ?_
      exact Same.refl _ _
    · refine SameO.ite (f := outSt) ?_ ?_
      · refine SameO.out_next ?_
        refine Same.step (badDesc_same ..) ?_
        exact Same.refl _ _
      · refine SameO.ite (f := outSt) ?_ ?_
        · extract_lets +onlyGivenNames x_8
          extract_lets +onlyGivenNames x_9
          refine SameO.out_next ?_
          refine Same.step (startOp_same ..) ?_
          refine Same.step (markStarted_same ..) ?_
          exact Same.refl _ _
        · refine SameO.out_next ?_
          refine Same.step (commit_same ..) ?_
          exact Same.refl _ _

theorem execJournalProgress_same (op : BitVec 32) (s : State) : SameO 2048 s (outSt (execJournalProgress op s)) := by
  have h0 := Same.refl 2048 s
  unfold execJournalProgress
  split
  · rename_i a_1 a_2
    refine SameO.out_next ?_
    exact Same.refl _ _
  · rename_i a_3 a_4 a_5
    refine SameO.ite (f := outSt) ?_ ?_
    · refine SameO.out_next ?_
      refine Same.step (setOp_same ..) ?_
      exact Same.refl _ _
    · refine SameO.out_next ?_
      exact Same.refl _ _

theorem runUnit_same (s : State) (op : Nat) (o : WOp) (u : WIssued) (sup : Supply) : SameO 532586569388 s (unitSt (runUnit s op o u sup)) := by
  have h0 := Same.refl 532586569388 s
  unfold runUnit
  extract_lets +onlyGivenNames x_1
  extract_lets +onlyGivenNames x_2
  extract_lets +onlyGivenNames x_3
  extract_lets +onlyGivenNames x_4
  extract_lets +onlyGivenNames x_5
  extract_lets +onlyGivenNames x_6
  subst x_6
  refine SameO.ite (f := unitSt) ?_ ?_
  · refine SameO.unit_wait ?_
    exact Same.refl _ _
  · refine SameO.ite (f := unitSt) ?_ ?_
    · refine SameO.unit_wait ?_
      refine Same.foldl _ ?_ ?_
      · exact Same.refl _ _
      · intro a_7 a_8 a_9
        refine Same.step (askRead_same ..) ?_
        exact a_9
    · refine SameO.ite (f := unitSt) ?_ ?_
      · refine SameO.unit_wait ?_
        clear_value x_3
        split
        · rename_i a_10 a_11
          refine Same.step (askWrite_same ..) ?_
          exact Same.refl _ _
        · rename_i a_12
          exact Same.refl _ _
      · split
        · rename_i a_13 a_14 a_15
          have h_16 : Same 532586569388 s a_14 := by
            refine SameO.some ?_ a_15
            refine SameO.bind ?_
            intro a_17 a_18
            split
            · rename_i a_19 a_20 a_21
              have h_22 : Same 532586569388 s a_20 := by
                refine SameO.of (o := readySt _) ?_ (congrArg readySt a_21)
                refine SameO.pass (rangeReady_same ..) ?_
                exact Same.refl _ _
              refine SameO.yes ?_
              exact h_22
            · rename_i a_23 a_24
              exact SameO.no
          refine SameO.unit_wait ?_
          exact h_16
        · rename_i a_25 a_26
          extract_lets +onlyGivenNames x_27
          have h_28 : Same 532586569388 s x_27 := by
            subst x_27
            refine Same.foldl _ ?_ ?_
            · subst x_2
              refine Same.step (compUnit_same ..) ?_
              exact Same.refl _ _
            · intro a_29 a_30 a_31
              refine Same.step (noteEngineRead_same ..) ?_
              exact a_31
          clear_value x_27
          split
          · rename_i a_32 a_33
            refine SameO.unit_done ?_
            exact h_28
          · rename_i a_34 a_35 a_36 a_37
            refine SameO.ite (f := unitSt) ?_ ?_
            · split
              · rename_i a_38 a_39 a_40
                have h_41 : Same 532586569388 s a_39 := by
                  refine SameO.of (o := ewSt _) ?_ (congrArg ewSt a_40)
                  refine SameO.pass (engineWrite_same ..) ?_
                  exact h_28
                refine SameO.unit_done ?_
                exact h_41
              · rename_i a_42 a_43 a_44
                have h_45 : Same 532586569388 s a_43 := by
                  refine SameO.of (o := ewSt _) ?_ (congrArg ewSt a_44)
                  refine SameO.pass (engineWrite_same ..) ?_
                  exact h_28
                refine SameO.unit_wait ?_
                exact Same.refl _ _
              · rename_i a_46 a_47 a_48
                have h_49 : Same 532586569388 s a_47 := by
                  refine SameO.of (o := ewSt _) ?_ (congrArg ewSt a_48)
                  refine SameO.pass (engineWrite_same ..) ?_
                  exact h_28
                refine SameO.unit_refuse ?_
                exact h_49
            · refine SameO.ite (f := unitSt) ?_ ?_
              · refine SameO.unit_done ?_
                exact h_28
              · refine SameO.unit_away ?_
                refine Same.step (sendWrites_same ..) ?_
                exact h_28

theorem redone_same (s : State) (o : WOp) (w : WWork) : Same 10487852 s (redone s o w) := by
  have h0 := Same.refl 10487852 s
  unfold redone
  extract_lets +onlyGivenNames x_1
  extract_lets +onlyGivenNames x_2
  extract_lets +onlyGivenNames x_3
  have h_4 : Same 10487852 s x_3 := by
    subst x_3
    refine Same.foldl _ ?_ ?_
    · refine Same.step (Same.set_tier ..) ?_
      exact Same.refl _ _
    · intro a_5 a_6 a_7
      refine Same.step (logEvent_same ..) ?_
      exact a_7
  clear_value x_3
  refine Same.ite0 ?_ ?_
  · refine Same.foldl _ ?_ ?_
    · refine Same.step (Same.set_tier ..) ?_
      exact h_4
    · intro a_8 a_9 a_10
      refine Same.step (logEvent_same ..) ?_
      exact a_10
  · exact h_4

theorem pruneObjs_same (s : State) : Same 4096 s (pruneObjs s) := by
  have h0 := Same.refl 4096 s
  unfold pruneObjs
  refine Same.foldl _ ?_ ?_
  · exact Same.refl _ _
  · intro a_1 a_2 a_3
    refine Same.ite0 ?_ ?_
    · refine Same.step (pruneGens_same ..) ?_
      refine Same.step (Same.set_cmp ..) ?_
      exact a_3
    · exact a_3

theorem settleRetires_same (s : State) : Same 34359769120 s (settleRetires s) := by
  have h0 := Same.refl 34359769120 s
  unfold settleRetires
  extract_lets +onlyGivenNames x_1
  have h_2 : Same 34359769120 s x_1 := by
    subst x_1
    refine Same.step (pruneObjs_same ..) ?_
    exact Same.refl _ _
  clear_value x_1
  refine Same.foldl _ ?_ ?_
  · exact h_2
  · intro a_3 a_4 a_5
    refine Same.ite0 ?_ ?_
    · refine Same.step (finishOp_same ..) ?_
      exact a_5
    · exact a_5

theorem refuseOp_same (s : State) (id : Nat) (o : WOp) (st : Status) : Same 2731600383628 s (refuseOp s id o st) := by
  have h0 := Same.refl 2731600383628 s
  unfold refuseOp
  extract_lets +onlyGivenNames x_1
  extract_lets +onlyGivenNames x_2
  have h_3 : Same 2731600383628 s x_2 := by
    subst x_2
    refine Same.step (setOp_same ..) ?_
    exact Same.refl _ _
  clear_value x_2
  split
  · rename_i a_4 a_5 a_6 a_7
    refine Same.step (zeroAwaiting_same ..) ?_
    exact h_3
  · rename_i a_8 a_9
    exact h_3

theorem refuseUnit_same (s : State) (id : Nat) (o : WOp) (rest : List WIssued) (u : WIssued) (st : Status) : Same 2731610898092 s (refuseUnit s id o rest u st) := by
  have h0 := Same.refl 2731610898092 s
  unfold refuseUnit
  refine Same.step (settleRetires_same ..) ?_
  refine Same.step (finishOp_same ..) ?_
  refine Same.step (undoRefused_same ..) ?_
  refine Same.step (refuseOp_same ..) ?_
  refine Same.step (endUnit_same ..) ?_
  refine Same.step (redone_same ..) ?_
  exact Same.refl _ _

theorem pageFilled_same (s : State) (id : Nat) (p : Nat) (o : WOp) (u : WIssued) (n : Nat) : Same 2594161458860 s (pageFilled s id p o u n) := by
  have h0 := Same.refl 2594161458860 s
  unfold pageFilled
  extract_lets +onlyGivenNames x_1
  have h_2 : Same 2594161458860 s x_1 := by
    subst x_1
    refine Same.step (setOp_same ..) ?_
    refine Same.step (endUnit_same ..) ?_
    exact Same.refl _ _
  clear_value x_1
  extract_lets +onlyGivenNames x_3
  have h_4 : Same 2594161458860 s x_3 := by
    subst x_3
    split
    · rename_i a_5 a_6 a_7
      refine Same.step (addProgress_same ..) ?_
      exact h_2
    · rename_i a_8 a_9
      exact h_2
  clear_value x_3
  extract_lets +onlyGivenNames x_10
  extract_lets +onlyGivenNames x_11
  have h_12 : Same 2594161458860 s x_11 := by
    subst x_11
    refine Same.step (Same.set_tier ..) ?_
    exact h_4
  clear_value x_11
  extract_lets +onlyGivenNames x_13
  refine Same.step (finishOp_same ..) ?_
  refine Same.foldl _ ?_ ?_
  · exact h_12
  · intro a_14 a_15 a_16
    refine Same.step (takeUp_same ..) ?_
    exact a_16

theorem execLazyFillPageDone_same (page : BitVec 32) (r : HostRead) (s : State) : SameO 2731610898092 s (outSt (execLazyFillPageDone page r s)) := by
  have h0 := Same.refl 2731610898092 s
  unfold execLazyFillPageDone
  extract_lets +onlyGivenNames x_1
  split
  · rename_i a_2 a_3
    refine SameO.out_next ?_
    exact Same.refl _ _
  · rename_i a_4 a_5 a_6 a_7
    split
    · rename_i a_8 a_9
      refine SameO.out_next ?_
      exact Same.refl _ _
    · rename_i a_10 a_11 a_12
      split
      · rename_i a_13 a_14
        refine SameO.out_next ?_
        exact Same.refl _ _
      · rename_i a_15 a_16 a_17
        extract_lets +onlyGivenNames x_18
        extract_lets +onlyGivenNames x_19
        split
        · rename_i a_20 a_21 a_22
          refine SameO.out_next ?_
          refine Same.step (refuseUnit_same ..) ?_
          exact Same.refl _ _
        · rename_i a_23 a_24
          split
          · rename_i a_25 a_26 a_27
            have h_28 : Same 2731610898092 s a_26 := by
              refine SameO.of (o := unitSt _) ?_ (congrArg unitSt a_27)
              refine SameO.pass (runUnit_same ..) ?_
              exact Same.refl _ _
            refine SameO.out_next ?_
            exact h_28
          · rename_i a_29 a_30 a_31 a_32
            have h_33 : Same 2731610898092 s a_30 := by
              refine SameO.of (o := unitSt _) ?_ (congrArg unitSt a_32)
              refine SameO.pass (runUnit_same ..) ?_
              exact Same.refl _ _
            refine SameO.out_next ?_
            refine Same.step (refuseUnit_same ..) ?_
            exact h_33
          · rename_i a_34 a_35 a_36 a_37 a_38
            have h_39 : Same 2731610898092 s a_35 := by
              refine SameO.of (o := unitSt _) ?_ (congrArg unitSt a_38)
              refine SameO.pass (runUnit_same ..) ?_
              exact Same.refl _ _
            refine SameO.out_next ?_
            refine Same.step (pageFilled_same ..) ?_
            exact h_39
          · rename_i a_40 a_41 a_42 a_43 a_44
            have h_45 : Same 2731610898092 s a_41 := by
              refine SameO.of (o := unitSt _) ?_ (congrArg unitSt a_44)
              refine SameO.pass (runUnit_same ..) ?_
              exact Same.refl _ _
            refine SameO.out_next ?_
            refine Same.step (pageFilled_same ..) ?_
            exact h_45

theorem execMigrate_same (h : Handle) (s : State) : SameO 34359769132 s (outSt (execMigrate h s)) := by
  have h0 := Same.refl 34359769132 s
  unfold execMigrate
  split
  · rename_i a_1 a_2
    refine SameO.out_next ?_
    exact Same.refl _ _
  · rename_i a_3 a_4 a_5
    extract_lets +onlyGivenNames x_6
    extract_lets +onlyGivenNames x_7
    extract_lets +onlyGivenNames x_8
    refine SameO.ite (f := outSt) ?_ ?_
    · refine SameO.out_next ?_
      refine Same.step (badDesc_same ..) ?_
      exact Same.refl _ _
    · refine SameO.ite (f := outSt) ?_ ?_
      · refine SameO.out_next ?_
        refine Same.step (badDesc_same ..) ?_
        exact Same.refl _ _
      · refine SameO.ite (f := outSt) ?_ ?_
        · refine SameO.out_next ?_
          refine Same.step (badDesc_same ..) ?_
          exact Same.refl _ _
        · split
          · rename_i a_9 a_10
            refine SameO.out_next ?_
            refine Same.step (commit_same ..) ?_
            exact Same.refl _ _
          · rename_i a_11 a_12 a_13
            extract_lets +onlyGivenNames x_14
            refine SameO.ite (f := outSt) ?_ ?_
            · refine SameO.out_next ?_
              refine Same.step (badDesc_same ..) ?_
              exact Same.refl _ _
            · refine SameO.out_next ?_
              refine Same.step (startOp_same ..) ?_
              refine Same.step (markStarted_same ..) ?_
              exact Same.refl _ _

theorem execPlace_same (h : Handle) (s : State) : SameO 34359769132 s (outSt (execPlace h s)) := by
  have h0 := Same.refl 34359769132 s
  unfold execPlace
  split
  · rename_i a_1 a_2
    refine SameO.out_next ?_
    exact Same.refl _ _
  · rename_i a_3 a_4 a_5
    extract_lets +onlyGivenNames x_6
    extract_lets +onlyGivenNames x_7
    extract_lets +onlyGivenNames x_8
    extract_lets +onlyGivenNames x_9
    extract_lets +onlyGivenNames x_10
    refine SameO.ite (f := outSt) ?_ ?_
    · refine SameO.out_next ?_
      refine Same.step (badDesc_same ..) ?_
      exact Same.refl _ _
    · refine SameO.ite (f := outSt) ?_ ?_
      · refine SameO.out_next ?_
        refine Same.step (badDesc_same ..) ?_
        exact Same.refl _ _
      · refine SameO.ite (f := outSt) ?_ ?_
        · refine SameO.out_next ?_
          refine Same.step (badDesc_same ..) ?_
          exact Same.refl _ _
        · refine SameO.ite (f := outSt) ?_ ?_
          · refine SameO.out_next ?_
            refine Same.step (badDesc_same ..) ?_
            exact Same.refl _ _
          · refine SameO.ite (f := outSt) ?_ ?_
            · refine SameO.out_next ?_
              refine Same.step (badDesc_same ..) ?_
              exact Same.refl _ _
            · refine SameO.ite (f := outSt) ?_ ?_
              · refine SameO.out_next ?_
                refine Same.step (badDesc_same ..) ?_
                exact Same.refl _ _
              · split
                · rename_i a_11 a_12
                  refine SameO.out_next ?_
                  refine Same.step (commit_same ..) ?_
                  exact Same.refl _ _
                · rename_i a_13 a_14 a_15
                  extract_lets +onlyGivenNames x_16
                  refine SameO.ite (f := outSt) ?_ ?_
                  · refine SameO.out_next ?_
                    refine Same.step (badDesc_same ..) ?_
                    exact Same.refl _ _
                  · refine SameO.ite (f := outSt) ?_ ?_
                    · refine SameO.out_next ?_
                      refine Same.step (badDesc_same ..) ?_
                      exact Same.refl _ _
                    · extract_lets +onlyGivenNames x_17
                      extract_lets +onlyGivenNames x_18
                      refine SameO.ite (f := outSt) ?_ ?_
                      · refine SameO.out_next ?_
                        refine Same.step (commit_same ..) ?_
                        exact Same.refl _ _
                      · extract_lets +onlyGivenNames x_19
                        extract_lets +onlyGivenNames x_20
                        have h_21 : Same 34359769132 s x_20 := by
                          subst x_20
                          refine Same.step (Same.set_tier ..) ?_
                          exact Same.refl _ _
                        clear_value x_20
                        extract_lets +onlyGivenNames x_22
                        extract_lets +onlyGivenNames x_23
                        have h_24 : Same 34359769132 s x_23 := by
                          subst x_23
                          refine Same.foldl _ ?_ ?_
                          · exact h_21
                          · intro a_25 a_26 a_27
                            split
                            · rename_i a_28 a_29 a_30
                              refine Same.ite0 ?_ ?_
                              · refine Same.step (dropCopy_same ..) ?_
                                exact a_27
                              · exact a_27
                            · rename_i a_31 a_32
                              exact a_27
                        clear_value x_23
                        extract_lets +onlyGivenNames x_33
                        have h_34 : Same 34359769132 s x_33 := by
                          subst x_33
                          refine Same.step (markStarted_same ..) ?_
                          exact h_24
                        clear_value x_33
                        refine SameO.ite (f := outSt) ?_ ?_
                        · refine SameO.out_next ?_
                          refine Same.step (startOp_same ..) ?_
                          exact h_34
                        · refine SameO.out_next ?_
                          refine Same.step (engineDone_same ..) ?_
                          exact h_34

theorem execStackEvacuate_same (h : Handle) (s : State) : SameO 34359769132 s (outSt (execStackEvacuate h s)) := by
  have h0 := Same.refl 34359769132 s
  unfold execStackEvacuate
  split
  · rename_i a_1 a_2
    refine SameO.out_next ?_
    exact Same.refl _ _
  · rename_i a_3 a_4 a_5
    extract_lets +onlyGivenNames x_6
    extract_lets +onlyGivenNames x_7
    extract_lets +onlyGivenNames x_8
    refine SameO.ite (f := outSt) ?_ ?_
    · refine SameO.out_next ?_
      refine Same.step (badDesc_same ..) ?_
      exact Same.refl _ _
    · refine SameO.ite (f := outSt) ?_ ?_
      · refine SameO.out_next ?_
        refine Same.step (badDesc_same ..) ?_
        exact Same.refl _ _
      · refine SameO.ite (f := outSt) ?_ ?_
        · refine SameO.out_next ?_
          refine Same.step (badDesc_same ..) ?_
          exact Same.refl _ _
        · refine SameO.ite (f := outSt) ?_ ?_
          · refine SameO.out_next ?_
            refine Same.step (badDesc_same ..) ?_
            exact Same.refl _ _
          · refine SameO.out_next ?_
            refine Same.step (startEvac_same ..) ?_
            refine Same.step (markStarted_same ..) ?_
            exact Same.refl _ _

theorem execWinchAdvance_same (h : Handle) (s : State) : SameO 34359769132 s (outSt (execWinchAdvance h s)) := by
  have h0 := Same.refl 34359769132 s
  unfold execWinchAdvance
  split
  · rename_i a_1 a_2
    refine SameO.out_next ?_
    exact Same.refl _ _
  · rename_i a_3 a_4 a_5
    extract_lets +onlyGivenNames x_6
    extract_lets +onlyGivenNames x_7
    extract_lets +onlyGivenNames x_8
    extract_lets +onlyGivenNames x_9
    split
    · rename_i a_10 a_11
      refine SameO.out_next ?_
      refine Same.step (commit_same ..) ?_
      exact Same.refl _ _
    · rename_i a_12 a_13 a_14
      refine SameO.ite (f := outSt) ?_ ?_
      · refine SameO.out_next ?_
        refine Same.step (commit_same ..) ?_
        exact Same.refl _ _
      · refine SameO.ite (f := outSt) ?_ ?_
        · refine SameO.out_next ?_
          refine Same.step (commit_same ..) ?_
          exact Same.refl _ _
        · refine SameO.ite (f := outSt) ?_ ?_
          · refine SameO.out_next ?_
            refine Same.step (badDesc_same ..) ?_
            exact Same.refl _ _
          · refine SameO.ite (f := outSt) ?_ ?_
            · refine SameO.out_next ?_
              refine Same.step (badDesc_same ..) ?_
              exact Same.refl _ _
            · extract_lets +onlyGivenNames x_15
              extract_lets +onlyGivenNames x_16
              have h_17 : Same 34359769132 s x_16 := by
                subst x_16
                refine Same.step (Same.set_tier ..) ?_
                exact Same.refl _ _
              clear_value x_16
              extract_lets +onlyGivenNames x_18
              refine SameO.out_next ?_
              refine Same.step (startOp_same ..) ?_
              refine Same.step (markStarted_same ..) ?_
              exact h_17

theorem unitDone_same (s : State) (id : Nat) (o : WOp) (rest : List WIssued) (u : WIssued) (n : Nat) : Same 2233393510572 s (unitDone s id o rest u n) := by
  have h0 := Same.refl 2233393510572 s
  unfold unitDone
  extract_lets +onlyGivenNames x_1
  have h_2 : Same 2233393510572 s x_1 := by
    subst x_1
    refine Same.step (setOp_same ..) ?_
    refine Same.step (endUnit_same ..) ?_
    refine Same.step (redone_same ..) ?_
    exact Same.refl _ _
  clear_value x_1
  extract_lets +onlyGivenNames x_3
  have h_4 : Same 2233393510572 s x_3 := by
    subst x_3
    split
    · rename_i a_5 a_6 a_7
      refine Same.step (addProgress_same ..) ?_
      exact h_2
    · rename_i a_8 a_9
      exact h_2
  clear_value x_3
  refine Same.step (settleRetires_same ..) ?_
  refine Same.step (finishOp_same ..) ?_
  exact h_4

theorem execWinchUnitDone_same (op : BitVec 32) (r : UnitResult) (s : State) : SameO 2731610898092 s (outSt (execWinchUnitDone op r s)) := by
  have h0 := Same.refl 2731610898092 s
  unfold execWinchUnitDone
  extract_lets +onlyGivenNames x_1
  split
  · rename_i a_2 a_3
    refine SameO.out_next ?_
    exact Same.refl _ _
  · rename_i a_4 a_5 a_6
    split
    · rename_i a_7 a_8
      refine SameO.out_next ?_
      exact Same.refl _ _
    · rename_i a_9 a_10 a_11 a_12
      refine SameO.ite (f := outSt) ?_ ?_
      · refine SameO.out_next ?_
        exact Same.refl _ _
      · extract_lets +onlyGivenNames x_13
        split
        · rename_i a_14 a_15 a_16
          refine SameO.out_next ?_
          refine Same.step (refuseUnit_same ..) ?_
          exact Same.refl _ _
        · rename_i a_17 a_18
          refine SameO.ite (f := outSt) ?_ ?_
          · split
            · rename_i a_19 a_20
              refine SameO.out_next ?_
              refine Same.step (refuseUnit_same ..) ?_
              exact Same.refl _ _
            · rename_i a_21
              refine SameO.out_next ?_
              refine Same.step (unitDone_same ..) ?_
              exact Same.refl _ _
            · rename_i a_22 a_23 a_24
              refine SameO.out_next ?_
              exact Same.refl _ _
          · split
            · rename_i a_25 a_26
              refine SameO.out_next ?_
              exact Same.refl _ _
            · rename_i a_27 a_28 a_29
              refine SameO.out_next ?_
              refine Same.step (refuseUnit_same ..) ?_
              exact Same.refl _ _
            · rename_i a_30 a_31 a_32
              split
              · rename_i a_33 a_34 a_35
                have h_36 : Same 2731610898092 s a_34 := by
                  refine SameO.of (o := unitSt _) ?_ (congrArg unitSt a_35)
                  refine SameO.pass (runUnit_same ..) ?_
                  exact Same.refl _ _
                refine SameO.out_next ?_
                exact h_36
              · rename_i a_37 a_38 a_39 a_40
                have h_41 : Same 2731610898092 s a_38 := by
                  refine SameO.of (o := unitSt _) ?_ (congrArg unitSt a_40)
                  refine SameO.pass (runUnit_same ..) ?_
                  exact Same.refl _ _
                refine SameO.out_next ?_
                refine Same.step (refuseUnit_same ..) ?_
                exact h_41
              · rename_i a_42 a_43 a_44 a_45 a_46
                have h_47 : Same 2731610898092 s a_43 := by
                  refine SameO.of (o := unitSt _) ?_ (congrArg unitSt a_46)
                  refine SameO.pass (runUnit_same ..) ?_
                  exact Same.refl _ _
                refine SameO.out_next ?_
                refine Same.step (setOp_same ..) ?_
                exact h_47
              · rename_i a_48 a_49 a_50 a_51 a_52
                have h_53 : Same 2731610898092 s a_49 := by
                  refine SameO.of (o := unitSt _) ?_ (congrArg unitSt a_52)
                  refine SameO.pass (runUnit_same ..) ?_
                  exact Same.refl _ _
                refine SameO.out_next ?_
                refine Same.step (unitDone_same ..) ?_
                exact h_53

theorem seedBackups_same (s : State) : Same 2048 s (seedBackups s) := by
  have h0 := Same.refl 2048 s
  unfold seedBackups
  refine Same.foldl _ ?_ ?_
  · exact Same.refl _ _
  · intro a_1 a_2 a_3
    refine Same.step (addOp_same ..) ?_
    exact a_3

theorem placeBackup_same (s : State) (p : Nat) : Same 34359740416 s (placeBackup s p) := by
  have h0 := Same.refl 34359740416 s
  unfold placeBackup
  split
  · rename_i a_1 a_2 a_3 a_4 a_5 a_6
    split
    · rename_i a_7 a_8 a_9 a_10 a_11 a_12 a_13
      have h_14 : Same 34359740416 s a_11 := by
        refine SameO.of (o := sndSt _) ?_ (congrArg sndSt a_13)
        refine SameO.pass (takeLoc_same ..) ?_
        exact Same.refl _ _
      refine Same.step (setBack_same ..) ?_
      exact h_14
    · rename_i a_15 a_16 a_17
      exact Same.refl _ _
  · rename_i a_18 a_19 a_20
    exact Same.refl _ _

theorem issueUnit_same (s : State) (id : Nat) (o : WOp) (w : WWork) : Same 2233383127180 s (issueUnit s id o w) := by
  have h0 := Same.refl 2233383127180 s
  unfold issueUnit
  split
  · rename_i a_1 a_2 a_3 a_4
    have h_5 : Same 2233383127180 s a_3 := by
      refine Same.of2 ?_ a_4
      refine Same.step (newTag_same ..) ?_
      exact Same.refl _ _
    extract_lets +onlyGivenNames x_6
    extract_lets +onlyGivenNames x_7
    extract_lets +onlyGivenNames x_8
    extract_lets +onlyGivenNames x_9
    subst x_9
    dsimp -zeta -zetaHave only
    extract_lets +onlyGivenNames x_10
    extract_lets +onlyGivenNames x_11
    have h_12 : Same 2233383127180 s x_11 := by
      subst x_11
      refine Same.step (setOp_same ..) ?_
      exact h_5
    clear_value x_11
    refine Same.ite0 ?_ ?_
    · exact h_12
    · extract_lets +onlyGivenNames x_13
      subst x_13
      extract_lets +onlyGivenNames x_14
      have h_15 : Same 2233383127180 s x_14 := by
        subst x_14
        refine Same.step (Same.set_pool_flights ..) ?_
        exact h_12
      clear_value x_14
      extract_lets +onlyGivenNames x_16
      have h_17 : Same 2233383127180 s x_16 := by
        subst x_16
        refine Same.foldl _ ?_ ?_
        · exact h_15
        · intro a_18 a_19 a_20
          refine Same.step (askRead_same ..) ?_
          exact a_20
      clear_value x_16
      extract_lets +onlyGivenNames x_21
      have h_22 : Same 2233383127180 s x_21 := by
        subst x_21
        refine Same.foldl _ ?_ ?_
        · exact h_17
        · intro a_23 a_24 a_25
          split
          · rename_i a_26 a_27 a_28 a_29 a_30
            refine Same.step (queueRecalls_same ..) ?_
            exact a_25
          · rename_i a_31 a_32 a_33 a_34
            exact a_25
          · rename_i a_35 a_36 a_37
            refine Same.step (askWrite_same ..) ?_
            exact a_25
      clear_value x_21
      extract_lets +onlyGivenNames x_38
      have h_39 : Same 2233383127180 s x_38 := by
        subst x_38
        refine Same.foldl _ ?_ ?_
        · exact h_22
        · intro a_40 a_41 a_42
          refine Same.step (sendEngine_same ..) ?_
          exact a_42
      clear_value x_38
      split
      · rename_i a_43 a_44 a_45 a_46
        refine Same.step (readHost_same ..) ?_
        exact h_39
      · rename_i a_47 a_48
        refine Same.step (placeBackup_same ..) ?_
        exact h_39
      · rename_i a_49 a_50 a_51
        exact h_39

theorem issuePage_same (s : State) (id : Nat) : Same 2233383127180 s (issuePage s id) := by
  have h0 := Same.refl 2233383127180 s
  unfold issuePage
  split
  · rename_i a_1 a_2 a_3 a_4 a_5 a_6
    refine Same.step (issueUnit_same ..) ?_
    refine Same.step (Same.set_tier ..) ?_
    exact Same.refl _ _
  · rename_i a_7 a_8 a_9
    exact Same.refl _ _

theorem issueWork_same (s : State) (id : Nat) (o : WOp) (w : WWork) : Same 2233383155884 s (issueWork s id o w) := by
  have h0 := Same.refl 2233383155884 s
  unfold issueWork
  split
  · rename_i a_1 a_2
    refine Same.step (issueUnit_same ..) ?_
    exact Same.refl _ _
  · rename_i a_3 a_4 a_5
    refine Same.ite0 ?_ ?_
    · refine Same.step (issuePage_same ..) ?_
      exact Same.refl _ _
    · extract_lets +onlyGivenNames x_6
      refine Same.step (settleRetires_same ..) ?_
      refine Same.step (finishOp_same ..) ?_
      refine Same.step (issuePage_same ..) ?_
      refine Same.step (issueChunk_same ..) ?_
      exact Same.refl _ _

theorem issueAt_same (s : State) (e : Nat) (level : Nat) : Same 2233383155884 s (issueAt s e level) := by
  have h0 := Same.refl 2233383155884 s
  unfold issueAt
  split
  · rename_i a_1 a_2
    exact Same.refl _ _
  · rename_i a_3 a_4 a_5 a_6 a_7
    refine Same.step (issueWork_same ..) ?_
    refine Same.step (Same.set_tier ..) ?_
    exact Same.refl _ _

theorem execWinchUnitIssue_same (e : Fin 16) (s : State) : SameO 2233383155884 s (outSt (execWinchUnitIssue e s)) := by
  have h0 := Same.refl 2233383155884 s
  unfold execWinchUnitIssue
  extract_lets +onlyGivenNames x_1
  have h_2 : Same 2233383155884 s x_1 := by
    subst x_1
    refine Same.step (assignEngines_same ..) ?_
    refine Same.step (seedBackups_same ..) ?_
    exact Same.refl _ _
  clear_value x_1
  extract_lets +onlyGivenNames x_3
  refine SameO.ite (f := outSt) ?_ ?_
  · refine SameO.out_next ?_
    exact h_2
  · extract_lets +onlyGivenNames x_4
    extract_lets +onlyGivenNames x_5
    clear_value x_4
    split
    · rename_i a_6
      refine SameO.out_next ?_
      refine Same.step (issueAt_same ..) ?_
      exact h_2
    · rename_i a_7 a_8
      refine SameO.ite (f := outSt) ?_ ?_
      · extract_lets +onlyGivenNames x_9
        refine SameO.ite (f := outSt) ?_ ?_
        · refine SameO.out_next ?_
          refine Same.step (issueAt_same ..) ?_
          refine Same.step (Same.set_tier ..) ?_
          exact h_2
        · refine SameO.out_next ?_
          refine Same.step (issueAt_same ..) ?_
          refine Same.step (Same.set_tier ..) ?_
          exact h_2
      · refine SameO.out_next ?_
        refine Same.step (issueAt_same ..) ?_
        exact h_2

theorem windowPage_same (s : State) (x : Extent) (win : Nat) (page : Nat) : SameO 8916352108544 s (windowPage s x win page) := by
  have h0 := Same.refl 8916352108544 s
  unfold windowPage
  split
  · rename_i a_1 a_2
    refine SameO.ite0 ?_ ?_
    · split
      · rename_i a_3 a_4
        exact SameO.no
      · rename_i a_5 a_6 a_7 a_8
        have h_9 : Same 8916352108544 s a_7 := by
          refine SameO.of (o := sndSt _) ?_ (congrArg sndSt a_8)
          refine SameO.pass (takeT0_same ..) ?_
          exact Same.refl _ _
        split
        · rename_i a_10 a_11 a_12 a_13
          have h_14 : Same 8916352108544 s a_12 := by
            refine Same.of2 ?_ a_13
            refine Same.step (newBack_same ..) ?_
            exact h_9
          split
          · rename_i a_15 a_16 a_17
            refine SameO.yes ?_
            refine Same.step (setPage_same ..) ?_
            refine Same.step (setBack_same ..) ?_
            exact h_14
          · rename_i a_18 a_19
            exact SameO.no
    · exact SameO.no
  · rename_i a_20 a_21 a_22
    split
    · rename_i a_23 a_24
      exact SameO.no
    · rename_i a_25 a_26 a_27
      refine SameO.ite0 ?_ ?_
      · refine SameO.yes ?_
        refine Same.step (setBack_same ..) ?_
        exact Same.refl _ _
      · refine SameO.ite0 ?_ ?_
        · split
          · rename_i a_28 a_29
            exact SameO.no
          · rename_i a_30 a_31 a_32 a_33
            have h_34 : Same 8916352108544 s a_32 := by
              refine SameO.of (o := sndSt _) ?_ (congrArg sndSt a_33)
              refine SameO.pass (takeT0_same ..) ?_
              exact Same.refl _ _
            extract_lets +onlyGivenNames x_35
            have h_36 : Same 8916352108544 s x_35 := by
              subst x_35
              refine Same.ite0 ?_ ?_
              · exact h_34
              · refine Same.step (freeLoc_same ..) ?_
                exact h_34
            clear_value x_35
            refine SameO.yes ?_
            refine Same.step (dropCached_same ..) ?_
            refine Same.step (setBack_same ..) ?_
            exact h_36
        · exact SameO.no

theorem windowPages_same (x : Extent) (win : Nat) (b2 : List Nat) (b3 : State) : SameO 8916352108544 b3 (windowPages x win b2 b3) := by
  induction b2 generalizing x win b3
  · have h_1 := Same.refl 8916352108544 b3
    unfold windowPages
    refine SameO.yes ?_
    exact Same.refl _ _
  · rename_i i_2 i_3 i_4
    have h_5 := Same.refl 8916352108544 b3
    unfold windowPages
    split
    · rename_i a_6 a_7 a_8
      have h_9 : Same 8916352108544 b3 a_7 := by
        refine SameO.some ?_ a_8
        refine SameO.pass (windowPage_same ..) ?_
        exact Same.refl _ _
      refine SameO.pass (i_4 ..) ?_
      exact h_9
    · rename_i a_10 a_11
      exact SameO.no

theorem execWinchWindow_same (h : Handle) (s : State) : SameO 8916352137260 s (outSt (execWinchWindow h s)) := by
  have h0 := Same.refl 8916352137260 s
  unfold execWinchWindow
  split
  · rename_i a_1 a_2
    refine SameO.out_next ?_
    exact Same.refl _ _
  · rename_i a_3 a_4 a_5
    extract_lets +onlyGivenNames x_6
    extract_lets +onlyGivenNames x_7
    extract_lets +onlyGivenNames x_8
    extract_lets +onlyGivenNames x_9
    extract_lets +onlyGivenNames x_10
    extract_lets +onlyGivenNames x_11
    refine SameO.ite (f := outSt) ?_ ?_
    · refine SameO.out_next ?_
      exact Same.refl _ _
    · refine SameO.ite (f := outSt) ?_ ?_
      · refine SameO.out_next ?_
        refine Same.step (badDesc_same ..) ?_
        exact Same.refl _ _
      · refine SameO.ite (f := outSt) ?_ ?_
        · refine SameO.out_next ?_
          refine Same.step (badDesc_same ..) ?_
          exact Same.refl _ _
        · refine SameO.ite (f := outSt) ?_ ?_
          · refine SameO.out_next ?_
            refine Same.step (badDesc_same ..) ?_
            exact Same.refl _ _
          · refine SameO.ite (f := outSt) ?_ ?_
            · refine SameO.out_next ?_
              refine Same.step (badDesc_same ..) ?_
              exact Same.refl _ _
            · refine SameO.ite (f := outSt) ?_ ?_
              · refine SameO.out_next ?_
                refine Same.step (badDesc_same ..) ?_
                exact Same.refl _ _
              · refine SameO.ite (f := outSt) ?_ ?_
                · refine SameO.out_next ?_
                  refine Same.step (badDesc_same ..) ?_
                  exact Same.refl _ _
                · split
                  · rename_i a_12 a_13
                    refine SameO.out_next ?_
                    refine Same.step (commit_same ..) ?_
                    exact Same.refl _ _
                  · rename_i a_14 a_15 a_16
                    extract_lets +onlyGivenNames x_17
                    refine SameO.ite (f := outSt) ?_ ?_
                    · refine SameO.out_next ?_
                      refine Same.step (badDesc_same ..) ?_
                      exact Same.refl _ _
                    · refine SameO.ite (f := outSt) ?_ ?_
                      · refine SameO.out_next ?_
                        refine Same.step (commit_same ..) ?_
                        exact Same.refl _ _
                      · refine SameO.ite (f := outSt) ?_ ?_
                        · refine SameO.out_next ?_
                          refine Same.step (commit_same ..) ?_
                          exact Same.refl _ _
                        · split
                          · rename_i a_18 a_19
                            refine SameO.out_next ?_
                            exact Same.refl _ _
                          · rename_i a_20 a_21 a_22
                            split
                            · rename_i a_23 a_24
                              refine SameO.out_next ?_
                              refine Same.step (badDesc_same ..) ?_
                              exact Same.refl _ _
                            · rename_i a_25 a_26 a_27
                              split
                              · rename_i a_28 a_29
                                refine SameO.out_next ?_
                                refine Same.step (commit_same ..) ?_
                                exact Same.refl _ _
                              · rename_i a_30 a_31 a_32
                                have h_33 : Same 8916352137260 s a_31 := by
                                  refine SameO.some ?_ a_32
                                  refine SameO.pass (windowPages_same ..) ?_
                                  exact Same.refl _ _
                                extract_lets +onlyGivenNames x_34
                                extract_lets +onlyGivenNames x_35
                                have h_36 : Same 8916352137260 s x_35 := by
                                  subst x_35
                                  refine Same.foldl _ ?_ ?_
                                  · exact h_33
                                  · intro a_37 a_38 a_39
                                    refine Same.step (addRef_same ..) ?_
                                    exact a_39
                                clear_value x_35
                                extract_lets +onlyGivenNames x_40
                                extract_lets +onlyGivenNames x_41
                                extract_lets +onlyGivenNames x_42
                                extract_lets +onlyGivenNames x_43
                                have h_44 : Same 8916352137260 s x_43 := by
                                  subst x_43
                                  refine Same.step (Same.set_tier ..) ?_
                                  exact h_36
                                clear_value x_43
                                extract_lets +onlyGivenNames x_45
                                refine SameO.out_next ?_
                                refine Same.step (startOp_same ..) ?_
                                refine Same.step (markStarted_same ..) ?_
                                exact h_44

theorem execWinchWindowClose_same (h : Handle) (s : State) : SameO 34359744556 s (outSt (execWinchWindowClose h s)) := by
  have h0 := Same.refl 34359744556 s
  unfold execWinchWindowClose
  split
  · rename_i a_1 a_2
    refine SameO.out_next ?_
    exact Same.refl _ _
  · rename_i a_3 a_4 a_5
    refine SameO.ite (f := outSt) ?_ ?_
    · refine SameO.out_next ?_
      exact Same.refl _ _
    · extract_lets +onlyGivenNames x_6
      split
      · rename_i a_7 a_8
        refine SameO.out_next ?_
        refine Same.step (commit_same ..) ?_
        exact Same.refl _ _
      · rename_i a_9 a_10 a_11
        refine SameO.ite (f := outSt) ?_ ?_
        · refine SameO.out_next ?_
          refine Same.step (commit_same ..) ?_
          exact Same.refl _ _
        · refine SameO.ite (f := outSt) ?_ ?_
          · refine SameO.out_next ?_
            refine Same.step (commit_same ..) ?_
            exact Same.refl _ _
          · extract_lets +onlyGivenNames x_12
            extract_lets +onlyGivenNames x_13
            have h_14 : Same 34359744556 s x_13 := by
              subst x_13
              refine Same.step (markStarted_same ..) ?_
              refine Same.step (Same.set_tier ..) ?_
              exact Same.refl _ _
            clear_value x_13
            refine SameO.ite (f := outSt) ?_ ?_
            · refine SameO.out_next ?_
              refine Same.step (dropWindow_same ..) ?_
              exact h_14
            · refine SameO.out_next ?_
              exact h_14

theorem execWritebackAgeExpire_same (page : BitVec 32) (s : State) : SameO 2048 s (outSt (execWritebackAgeExpire page s)) := by
  have h0 := Same.refl 2048 s
  unfold execWritebackAgeExpire
  extract_lets +onlyGivenNames x_1
  split
  · rename_i a_2 a_3
    refine SameO.out_next ?_
    exact Same.refl _ _
  · rename_i a_4 a_5 a_6
    extract_lets +onlyGivenNames x_7
    refine SameO.ite (f := outSt) ?_ ?_
    · refine SameO.out_next ?_
      refine Same.step (addOp_same ..) ?_
      exact Same.refl _ _
    · refine SameO.out_next ?_
      exact Same.refl _ _

end Sys2Proof.Machine
end

