-- ==== Sys2Proof/Laws/KeepStackOps.lean ====
section
/-! SUPPORT. What each operation of Machine/StackOps.lean leaves alone: the parts it may write, as a number, and all else kept. -/

set_option linter.unusedVariables false

namespace Sys2Proof.Machine

set_option Elab.async false

theorem rasEvac_same (s : State) (st : Nat) (banks : List Nat) : Same 34359769124 s (rasEvac s st banks) := by
  have h0 := Same.refl 34359769124 s
  unfold rasEvac
  extract_lets +onlyGivenNames x_1
  refine Same.ite0 ?_ ?_
  · refine Same.step (startEvac_same ..) ?_
    exact Same.refl _ _
  · exact Same.refl _ _

theorem stackErr_same (s : State) (st : Nat) (bit : Nat) : Same 4 s (stackErr s st bit) := by
  have h0 := Same.refl 4 s
  unfold stackErr
  refine Same.step (setBit_same ..) ?_
  exact Same.refl _ _

theorem replaceBank_same (s : State) (st : Nat) (bank : Nat) (kind : Nat) (cause : Nat) (d0 : Nat) (d1 : Nat) : Same 34370254892 s (replaceBank s st bank kind cause d0 d1) := by
  have h0 := Same.refl 34370254892 s
  unfold replaceBank
  refine Same.ite0 ?_ ?_
  · exact Same.refl _ _
  · split
    · rename_i a_1 a_2 a_3
      have h_4 : Same 34370254892 s a_2 := by
        refine SameO.some ?_ a_3
        refine SameO.pass (startReplace_same ..) ?_
        exact Same.refl _ _
      extract_lets +onlyGivenNames x_5
      refine Same.step (errorRecord_same ..) ?_
      exact h_4
    · rename_i a_6 a_7
      extract_lets +onlyGivenNames x_8
      have h_9 : Same 34370254892 s x_8 := by
        subst x_8
        refine Same.step (logEvent_same ..) ?_
        refine Same.step (stackErr_same ..) ?_
        exact Same.refl _ _
      clear_value x_8
      refine Same.step (rasEvac_same ..) ?_
      exact h_9

theorem spareRow_same (s : State) (st : Nat) (bank : Nat) (d : Nat) (row : Nat) : Same 34370254892 s (spareRow s st bank d row).2 := by
  have h0 := Same.refl 34370254892 s
  unfold spareRow
  extract_lets +onlyGivenNames x_1
  refine Same.ite (f := Prod.snd) ?_ ?_
  · refine Same.pair2 ?_
    exact Same.refl _ _
  · refine Same.ite (f := Prod.snd) ?_ ?_
    · refine Same.pair2 ?_
      refine Same.step (setStack_same ..) ?_
      exact Same.refl _ _
    · refine Same.pair2 ?_
      refine Same.step (replaceBank_same ..) ?_
      exact Same.refl _ _

theorem corrected_same (s : State) (st : Nat) (bank : Nat) (d : Nat) (row : Nat) : Same 34370254892 s (corrected s st bank d row) := by
  have h0 := Same.refl 34370254892 s
  unfold corrected
  extract_lets +onlyGivenNames x_1
  extract_lets +onlyGivenNames x_2
  extract_lets +onlyGivenNames x_3
  extract_lets +onlyGivenNames x_4
  extract_lets +onlyGivenNames x_5
  extract_lets +onlyGivenNames x_6
  have h_7 : Same 34370254892 s x_6 := by
    subst x_6
    refine Same.step (setStack_same ..) ?_
    exact Same.refl _ _
  clear_value x_6
  extract_lets +onlyGivenNames x_8
  have h_9 : Same 34370254892 s x_8 := by
    subst x_8
    refine Same.step (bump_same ..) ?_
    exact h_7
  clear_value x_8
  extract_lets +onlyGivenNames x_10
  have h_11 : Same 34370254892 s x_10 := by
    subst x_10
    refine Same.ite0 ?_ ?_
    · split
      · rename_i a_12 a_13 a_14 a_15
        have h_16 : Same 34370254892 s a_14 := by
          refine Same.of2 ?_ a_15
          refine Same.step (spareRow_same ..) ?_
          exact h_9
        extract_lets +onlyGivenNames x_17
        extract_lets +onlyGivenNames x_18
        have h_19 : Same 34370254892 s x_18 := by
          subst x_18
          refine Same.step (setStack_same ..) ?_
          exact h_16
        clear_value x_18
        refine Same.ite0 ?_ ?_
        · refine Same.step (logEvent_same ..) ?_
          exact h_19
        · exact h_19
    · exact h_9
  clear_value x_10
  refine Same.ite0 ?_ ?_
  · extract_lets +onlyGivenNames x_20
    extract_lets +onlyGivenNames x_21
    have h_22 : Same 34370254892 s x_21 := by
      subst x_21
      refine Same.step (setStack_same ..) ?_
      exact h_11
    clear_value x_21
    refine Same.step (replaceBank_same ..) ?_
    refine Same.step (stackErr_same ..) ?_
    exact h_22
  · exact h_11

theorem noteCorrected_same (s : State) (line : Nat) : Same 34370254892 s (noteCorrected s line) := by
  have h0 := Same.refl 34370254892 s
  unfold noteCorrected
  split
  · rename_i a_1 a_2
    exact Same.refl _ _
  · rename_i a_3 a_4 a_5 a_6
    refine Same.step (corrected_same ..) ?_
    exact Same.refl _ _

end Sys2Proof.Machine
end

