-- ==== Sys2Proof/Laws/KeepBau.lean ====
section
/-! SUPPORT. What each operation of Machine/Bau.lean leaves alone: the parts it may write, as a number, and all else kept. -/

set_option linter.unusedVariables false

namespace Sys2Proof.Machine

set_option Elab.async false

theorem touchRange_same (s : State) (a : Nat) (n : Nat) : Same 34359738368 s (touchRange s a n) := by
  have h0 := Same.refl 34359738368 s
  unfold touchRange
  refine Same.ite0 ?_ ?_
  · exact Same.refl _ _
  · refine Same.foldl _ ?_ ?_
    · exact Same.refl _ _
    · intro a_1 a_2 a_3
      refine Same.step (touchAge_same ..) ?_
      exact a_3

theorem attnTile_same (s : State) (q : Seq) (w : Word) (ka : Nat) (va : Nat) (t : Nat) (cycle : Nat) (acc : RF) : SameO 34359738368 s (ranSt (attnTile s q w ka va t cycle acc)) := by
  have h0 := Same.refl 34359738368 s
  unfold attnTile
  extract_lets +onlyGivenNames x_1
  unfold withStream
  dsimp -zeta -zetaHave only
  split
  · rename_i a_2 a_3 a_4
    exact SameO.ran_fault
  · rename_i a_5 a_6
    split
    · rename_i a_7 a_8 a_9 a_10 a_11 a_12 a_13
      have h_14 : Same 34359738368 s a_8 := by
        refine SameO.of (o := ranSt _) ?_ (congrArg ranSt a_13)
        split
        · rename_i a_15 a_16 a_17
          exact SameO.ran_fault
        · rename_i a_18 a_19
          refine SameO.ran_ok ?_
          refine Same.step (touchRange_same ..) ?_
          exact Same.refl _ _
      refine SameO.ran_ok ?_
      refine Same.step (touchRange_same ..) ?_
      exact h_14
    · rename_i a_20 a_21
      split
      · rename_i a_22 a_23 a_24
        exact SameO.ran_fault
      · rename_i a_25 a_26
        refine SameO.ran_ok ?_
        refine Same.step (touchRange_same ..) ?_
        exact Same.refl _ _

theorem ranRF_same (s : State) (x : RF) : SameO 0 s (ranSt (ranRF s x)) := by
  have h0 := Same.refl 0 s
  unfold ranRF
  refine SameO.ran_ok ?_
  exact Same.refl _ _

theorem attnTiles_same (s : State) (q : Seq) (w : Word) (b3 : Nat) (b4 : Nat) (b5 : Nat) (b6 : Nat) (b7 : Nat) (b8 : RF) : SameO 34359738370 s (ranSt (attnTiles s q w b3 b4 b5 b6 b7 b8)) := by
  induction b3 generalizing s q w b4 b5 b6 b7 b8
  · have h_1 := Same.refl 34359738370 s
    unfold attnTiles
    refine SameO.pass (ranRF_same ..) ?_
    exact Same.refl _ _
  · rename_i i_2 i_3
    have h_4 := Same.refl 34359738370 s
    unfold attnTiles
    refine SameO.ite (f := ranSt) ?_ ?_
    · refine SameO.pass (ranRF_same ..) ?_
      exact Same.refl _ _
    · extract_lets +onlyGivenNames x_5
      extract_lets +onlyGivenNames x_6
      split
      · rename_i a_7 a_8 a_9 a_10 a_11 a_12 a_13
        have h_14 : Same 34359738370 s a_8 := by
          refine SameO.of (o := ranSt _) ?_ (congrArg ranSt a_13)
          refine SameO.pass (attnTile_same ..) ?_
          exact Same.refl _ _
        refine SameO.pass (i_3 ..) ?_
        refine Same.step (Same.set_draws ..) ?_
        exact Same.refl _ _
      · rename_i a_15 a_16
        refine SameO.pass (attnTile_same ..) ?_
        exact Same.refl _ _

theorem chargeGrant_same (s : State) (q : Seq) : Same 16384 s (chargeGrant s q) := by
  have h0 := Same.refl 16384 s
  unfold chargeGrant
  extract_lets +onlyGivenNames x_1
  extract_lets +onlyGivenNames x_2
  extract_lets +onlyGivenNames x_3
  refine Same.step (Same.set_bau ..) ?_
  exact Same.refl _ _

theorem copyLocks_same (q : Seq) (b1 : List CowCopy) (b2 : State) : Same 103079218176 b2 (copyLocks q b1 b2).1 := by
  induction b1 generalizing q b2
  · have h_1 := Same.refl 103079218176 b2
    unfold copyLocks
    refine Same.pair1 ?_
    exact Same.refl _ _
  · rename_i i_2 i_3 i_4
    have h_5 := Same.refl 103079218176 b2
    unfold copyLocks
    refine Same.ite (f := Prod.fst) ?_ ?_
    · refine Same.step (i_4 ..) ?_
      exact Same.refl _ _
    · split
      · rename_i a_6 a_7
        refine Same.step (i_4 ..) ?_
        exact Same.refl _ _
      · rename_i a_8 a_9 a_10
        refine Same.ite (f := Prod.fst) ?_ ?_
        · refine Same.pair1 ?_
          exact Same.refl _ _
        · split
          · rename_i a_11 a_12
            refine Same.pair1 ?_
            exact Same.refl _ _
          · rename_i a_13 a_14 a_15 a_16
            have h_17 : Same 103079218176 b2 a_15 := by
              refine SameO.of (o := sndSt _) ?_ (congrArg sndSt a_16)
              refine SameO.pass (takeBank_same ..) ?_
              exact Same.refl _ _
            split
            · rename_i a_18 a_19 a_20 a_21
              have h_22 : Same 103079218176 b2 a_20 := by
                refine Same.of2 ?_ a_21
                refine Same.step (newBack_same ..) ?_
                exact h_17
              extract_lets +onlyGivenNames x_23
              have h_24 : Same 103079218176 b2 x_23 := by
                subst x_23
                split
                · rename_i a_25 a_26 a_27
                  refine Same.step (setBack_same ..) ?_
                  exact h_22
                · rename_i a_28 a_29
                  exact h_22
              clear_value x_23
              refine Same.step (i_4 ..) ?_
              refine Same.step (Same.set_obj ..) ?_
              exact h_24

theorem drainWrites_same (s : State) (ws : List (Nat × Line × Bool)) : Same 446676599428 s (drainWrites s ws) := by
  have h0 := Same.refl 446676599428 s
  unfold drainWrites
  refine Same.foldl _ ?_ ?_
  · exact Same.refl _ _
  · intro a_1 a_2 a_3
    refine Same.step (engineWriteLine_same ..) ?_
    exact a_3

theorem dropSeq_same (s : State) (q : Seq) : Same 2233383016608 s (dropSeq s q) := by
  have h0 := Same.refl 2233383016608 s
  unfold dropSeq
  extract_lets +onlyGivenNames x_1
  extract_lets +onlyGivenNames x_2
  have h_3 : Same 2233383016608 s x_2 := by
    subst x_2
    refine Same.step (Same.set_bau ..) ?_
    exact Same.refl _ _
  clear_value x_2
  extract_lets +onlyGivenNames x_4
  extract_lets +onlyGivenNames x_5
  have h_6 : Same 2233383016608 s x_5 := by
    subst x_5
    refine Same.ite0 ?_ ?_
    · exact h_3
    · refine Same.step (Same.set_coh ..) ?_
      exact h_3
  clear_value x_5
  refine Same.step (settlePlaces_same ..) ?_
  refine Same.step (dropStat_same ..) ?_
  refine Same.step (dropFlight_same ..) ?_
  exact h_6

theorem setSeq_same (s : State) (q : Seq) : Same 16384 s (setSeq s q) := by
  have h0 := Same.refl 16384 s
  unfold setSeq
  refine Same.step (Same.set_bau ..) ?_
  exact Same.refl _ _

theorem installHolds_same (s : State) (q : Seq) : Same 17028 s (installHolds s q) := by
  have h0 := Same.refl 17028 s
  unfold installHolds
  split
  · rename_i a_1 a_2 a_3 a_4
    split
    · rename_i a_5 a_6 a_7 a_8
      have h_9 : Same 17028 s a_7 := by
        refine Same.of2 ?_ a_8
        refine Same.step (newTag_same ..) ?_
        exact Same.refl _ _
      extract_lets +onlyGivenNames x_10
      extract_lets +onlyGivenNames x_11
      extract_lets +onlyGivenNames x_12
      have h_13 : Same 17028 s x_12 := by
        subst x_12
        refine Same.step (Same.set_coh ..) ?_
        exact h_9
      clear_value x_12
      extract_lets +onlyGivenNames x_14
      have h_15 : Same 17028 s x_14 := by
        subst x_14
        refine Same.foldl _ ?_ ?_
        · exact h_13
        · intro a_16 a_17 a_18
          refine Same.step (leaveForced_same ..) ?_
          exact a_18
      clear_value x_14
      extract_lets +onlyGivenNames x_19
      have h_20 : Same 17028 s x_19 := by
        subst x_19
        refine Same.foldl _ ?_ ?_
        · exact h_15
        · intro a_21 a_22 a_23
          refine Same.step (queueRecalls_same ..) ?_
          exact a_23
      clear_value x_19
      extract_lets +onlyGivenNames x_24
      have h_25 : Same 17028 s x_24 := by
        subst x_24
        refine Same.foldl _ ?_ ?_
        · exact h_20
        · intro a_26 a_27 a_28
          refine Same.step (queueRecalls_same ..) ?_
          exact a_28
      clear_value x_24
      refine Same.step (setSeq_same ..) ?_
      exact h_25

theorem startHolds_same (b0 : Nat) (b1 : State) (b2 : Nat) (b3 : Nat) : Same 2233383017124 b1 (startHolds b0 b1 b2 b3) := by
  induction b0 generalizing b1 b2 b3
  · have h_1 := Same.refl 2233383017124 b1
    unfold startHolds
    exact Same.refl _ _
  · rename_i i_2 i_3
    have h_4 := Same.refl 2233383017124 b1
    unfold startHolds
    split
    · rename_i a_5 a_6
      exact Same.refl _ _
    · rename_i a_7 a_8 a_9 a_10
      extract_lets +onlyGivenNames x_11
      refine Same.ite0 ?_ ?_
      · exact Same.refl _ _
      · refine Same.ite0 ?_ ?_
        · exact Same.refl _ _
        · refine Same.ite0 ?_ ?_
          · refine Same.step (i_3 ..) ?_
            refine Same.step (engineDone_same ..) ?_
            refine Same.step (dropSeq_same ..) ?_
            exact Same.refl _ _
          · refine Same.ite0 ?_ ?_
            · refine Same.ite0 ?_ ?_
              · exact Same.refl _ _
              · refine Same.step (i_3 ..) ?_
                refine Same.step (engineDone_same ..) ?_
                refine Same.step (dropSeq_same ..) ?_
                exact Same.refl _ _
            · refine Same.step (installHolds_same ..) ?_
              exact Same.refl _ _

theorem nextLaunch_same (s : State) (st : Nat) (b : Nat) : Same 2233383017124 s (nextLaunch s st b) := by
  have h0 := Same.refl 2233383017124 s
  unfold nextLaunch
  refine Same.step (startHolds_same ..) ?_
  exact Same.refl _ _

theorem stopSeq_same (s : State) (q : Seq) (status : Status) (r0 : Word) (r1 : Word) : Same 2233383017124 s (stopSeq s q status r0 r1) := by
  have h0 := Same.refl 2233383017124 s
  unfold stopSeq
  extract_lets +onlyGivenNames x_1
  have h_2 : Same 2233383017124 s x_1 := by
    subst x_1
    refine Same.step (bump_same ..) ?_
    refine Same.step (dropSeq_same ..) ?_
    exact Same.refl _ _
  clear_value x_1
  refine Same.step (nextLaunch_same ..) ?_
  refine Same.step (engineDone_same ..) ?_
  exact h_2

theorem poisonLocks_same (s : State) (q : Seq) : Same 274877906944 s (poisonLocks s q) := by
  have h0 := Same.refl 274877906944 s
  unfold poisonLocks
  refine Same.foldl _ ?_ ?_
  · exact Same.refl _ _
  · intro a_1 a_2 a_3
    split
    · rename_i a_4 a_5 a_6
      refine Same.foldl _ ?_ ?_
      · exact a_3
      · intro a_7 a_8 a_9
        refine Same.step (setPoison_same ..) ?_
        exact a_9
    · rename_i a_10 a_11
      exact a_3

theorem loseCheckpoint_same (s : State) (q : Seq) : Same 2508260924068 s (loseCheckpoint s q) := by
  have h0 := Same.refl 2508260924068 s
  unfold loseCheckpoint
  refine Same.step (stopSeq_same ..) ?_
  refine Same.step (poisonLocks_same ..) ?_
  exact Same.refl _ _

theorem storeBytes_same (s : State) (q : Seq) (r : BauRegs) (g : Nat) (a : Nat) (n : Nat) (data : Nat) (bad : Nat → Bool) : SameO 34359738368 s (ranSt (storeBytes s q r g a n data bad)) := by
  have h0 := Same.refl 34359738368 s
  unfold storeBytes
  extract_lets +onlyGivenNames x_1
  split
  · rename_i a_2 a_3 a_4
    exact SameO.ran_fault
  · rename_i a_5 a_6
    refine SameO.ran_ok ?_
    refine Same.step (touchRange_same ..) ?_
    exact Same.refl _ _

theorem mvDec_same (s : State) (q : Seq) (w : Word) : SameO 34370240556 s (ranSt (mvDec s q w)) := by
  have h0 := Same.refl 34370240556 s
  unfold mvDec
  extract_lets +onlyGivenNames x_1
  extract_lets +onlyGivenNames x_2
  extract_lets +onlyGivenNames x_3
  extract_lets +onlyGivenNames x_4
  extract_lets +onlyGivenNames x_5
  split
  · rename_i a_6 a_7 a_8
    exact SameO.ran_fault
  · rename_i a_9 a_10
    extract_lets +onlyGivenNames x_11
    subst x_11
    dsimp -zeta -zetaHave only
    extract_lets +onlyGivenNames x_12
    extract_lets +onlyGivenNames x_13
    split
    · rename_i a_14 a_15 a_16
      exact SameO.ran_fault
    · rename_i a_17 a_18
      extract_lets +onlyGivenNames x_19
      extract_lets +onlyGivenNames x_20
      extract_lets +onlyGivenNames x_21
      extract_lets +onlyGivenNames x_22
      split
      · rename_i a_23 a_24 a_25
        exact SameO.ran_fault
      · rename_i a_26 a_27
        extract_lets +onlyGivenNames x_28
        extract_lets +onlyGivenNames x_29
        extract_lets +onlyGivenNames x_30
        extract_lets +onlyGivenNames x_31
        have h_32 : Same 34370240556 s x_31 := by
          subst x_31
          refine Same.step (bumpBy_same ..) ?_
          refine Same.step (bumpBy_same ..) ?_
          exact Same.refl _ _
        clear_value x_31
        extract_lets +onlyGivenNames x_33
        extract_lets +onlyGivenNames x_34
        have h_35 : Same 34370240556 s x_34 := by
          subst x_34
          refine Same.foldl _ ?_ ?_
          · exact h_32
          · intro a_36 a_37 a_38
            refine Same.step (logEvent_same ..) ?_
            refine Same.step (bump_same ..) ?_
            exact a_38
        clear_value x_34
        extract_lets +onlyGivenNames x_39
        have h_40 : Same 34370240556 s x_39 := by
          subst x_39
          split
          · rename_i a_41 a_42 a_43 a_44
            refine Same.ite0 ?_ ?_
            · exact h_35
            · refine Same.step (setPlacement_same ..) ?_
              exact h_35
          · rename_i a_45 a_46
            exact h_35
        clear_value x_39
        refine SameO.ran_ok ?_
        refine Same.step (touchRange_same ..) ?_
        refine Same.step (touchRange_same ..) ?_
        exact h_40

theorem insRun_same (s : State) (q : Seq) (w : Word) : SameO 34370240558 s (ranSt (insRun s q w)) := by
  have h0 := Same.refl 34370240558 s
  unfold insRun
  extract_lets +onlyGivenNames x_1
  extract_lets +onlyGivenNames x_2
  extract_lets +onlyGivenNames x_3
  subst x_3
  dsimp -zeta -zetaHave only
  split
  · rename_i a_4 a_5
    refine SameO.ran_ok ?_
    exact Same.refl _ _
  · rename_i a_6 a_7
    refine SameO.ran_ok ?_
    exact Same.refl _ _
  · rename_i a_8 a_9
    refine SameO.ran_ok ?_
    exact Same.refl _ _
  · rename_i a_10 a_11
    refine SameO.ran_ok ?_
    exact Same.refl _ _
  · rename_i a_12 a_13
    refine SameO.ran_ok ?_
    exact Same.refl _ _
  · rename_i a_14 a_15
    extract_lets +onlyGivenNames x_16
    unfold withStream
    dsimp -zeta -zetaHave only
    split
    · rename_i a_17 a_18 a_19
      exact SameO.ran_fault
    · rename_i a_20 a_21
      refine SameO.ran_ok ?_
      refine Same.step (touchRange_same ..) ?_
      exact Same.refl _ _
  · rename_i a_22 a_23
    refine SameO.ite (f := ranSt) ?_ ?_
    · refine SameO.pass (mvDec_same ..) ?_
      exact Same.refl _ _
    · extract_lets +onlyGivenNames x_24
      unfold withStream
      dsimp -zeta -zetaHave only
      split
      · rename_i a_25 a_26 a_27
        exact SameO.ran_fault
      · rename_i a_28 a_29
        refine SameO.ran_ok ?_
        refine Same.step (touchRange_same ..) ?_
        exact Same.refl _ _
  · rename_i a_30 a_31
    extract_lets +onlyGivenNames x_32
    unfold withStream
    dsimp -zeta -zetaHave only
    split
    · rename_i a_33 a_34 a_35
      exact SameO.ran_fault
    · rename_i a_36 a_37
      refine SameO.ran_ok ?_
      refine Same.step (touchRange_same ..) ?_
      exact Same.refl _ _
  · rename_i a_38 a_39
    refine SameO.pass (ranRF_same ..) ?_
    exact Same.refl _ _
  · rename_i a_40 a_41
    extract_lets +onlyGivenNames x_42
    unfold withStream
    dsimp -zeta -zetaHave only
    split
    · rename_i a_43 a_44 a_45
      exact SameO.ran_fault
    · rename_i a_46 a_47
      refine SameO.ran_ok ?_
      refine Same.step (touchRange_same ..) ?_
      exact Same.refl _ _
  · rename_i a_48 a_49
    extract_lets +onlyGivenNames x_50
    extract_lets +onlyGivenNames x_51
    split
    · rename_i a_52 a_53 a_54 a_55 a_56 a_57 a_58
      have h_59 : Same 34370240558 s a_53 := by
        refine SameO.of (o := ranSt _) ?_ (congrArg ranSt a_58)
        refine SameO.pass (attnTiles_same ..) ?_
        exact Same.refl _ _
      refine SameO.ran_ok ?_
      refine Same.step (touchRange_same ..) ?_
      refine Same.step (touchRange_same ..) ?_
      exact h_59
    · rename_i a_60 a_61
      refine SameO.pass (attnTiles_same ..) ?_
      exact Same.refl _ _
  · rename_i a_62 a_63
    refine SameO.ran_ok ?_
    exact Same.refl _ _
  · rename_i a_64 a_65
    refine SameO.pass (ranRF_same ..) ?_
    exact Same.refl _ _
  · rename_i a_66 a_67
    unfold withStream
    dsimp -zeta -zetaHave only
    split
    · rename_i a_68 a_69 a_70
      exact SameO.ran_fault
    · rename_i a_71 a_72
      split
      · rename_i a_73 a_74 a_75 a_76 a_77 a_78 a_79
        have h_80 : Same 34370240558 s a_74 := by
          refine SameO.of (o := ranSt _) ?_ (congrArg ranSt a_79)
          refine SameO.pass (ranRF_same ..) ?_
          exact Same.refl _ _
        refine SameO.ran_ok ?_
        refine Same.step (touchRange_same ..) ?_
        exact h_80
      · rename_i a_81 a_82
        refine SameO.pass (ranRF_same ..) ?_
        exact Same.refl _ _
  · rename_i a_83 a_84
    refine SameO.pass (ranRF_same ..) ?_
    exact Same.refl _ _
  · rename_i a_85 a_86
    extract_lets +onlyGivenNames x_87
    extract_lets +onlyGivenNames x_88
    refine SameO.pass (storeBytes_same ..) ?_
    exact Same.refl _ _
  · rename_i a_89 a_90
    extract_lets +onlyGivenNames x_91
    refine SameO.pass (storeBytes_same ..) ?_
    exact Same.refl _ _
  · rename_i a_92 a_93 a_94 a_95 a_96 a_97 a_98 a_99 a_100 a_101 a_102 a_103 a_104 a_105 a_106 a_107 a_108 a_109
    refine SameO.ran_ok ?_
    exact Same.refl _ _

theorem insRow_same (op : Nat) (st : StackId) (b : BankId) (s : State) : Same 2645710363310 s (insRow op st b s) := by
  have h0 := Same.refl 2645710363310 s
  unfold insRow
  split
  · rename_i a_1 a_2
    exact Same.refl _ _
  · rename_i a_3 a_4 a_5 a_6
    extract_lets +onlyGivenNames x_7
    split
    · rename_i a_8 a_9 a_10 a_11 a_12 a_13 a_14
      have h_15 : Same 2645710363310 s a_9 := by
        refine SameO.of (o := ranSt _) ?_ (congrArg ranSt a_14)
        refine SameO.pass (insRun_same ..) ?_
        exact Same.refl _ _
      extract_lets +onlyGivenNames x_16
      extract_lets +onlyGivenNames x_17
      have h_18 : Same 2645710363310 s x_17 := by
        subst x_17
        refine Same.ite0 ?_ ?_
        · refine Same.step (Same.set_draws ..) ?_
          exact h_15
        · exact h_15
      clear_value x_17
      refine Same.step (bumpBy_same ..) ?_
      refine Same.step (setProgress_same ..) ?_
      refine Same.step (setSeq_same ..) ?_
      exact h_18
    · rename_i a_19 a_20 a_21 a_22 a_23
      extract_lets +onlyGivenNames x_24
      have h_25 : Same 2645710363310 s x_24 := by
        subst x_24
        refine Same.step (bumpBy_same ..) ?_
        refine Same.step (drainWrites_same ..) ?_
        exact Same.refl _ _
      clear_value x_24
      refine Same.step (stopSeq_same ..) ?_
      refine Same.step (chargeGrant_same ..) ?_
      exact h_25

theorem execBauAddi_same (st : StackId) (b : BankId) (s : State) : SameO 2645710363310 s (outSt (execBauAddi st b s)) := by
  have h0 := Same.refl 2645710363310 s
  unfold execBauAddi
  refine SameO.out_next ?_
  refine Same.step (insRow_same ..) ?_
  exact Same.refl _ _

theorem execBauAttn_same (st : StackId) (b : BankId) (s : State) : SameO 2645710363310 s (outSt (execBauAttn st b s)) := by
  have h0 := Same.refl 2645710363310 s
  unfold execBauAttn
  refine SameO.out_next ?_
  refine Same.step (insRow_same ..) ?_
  exact Same.refl _ _

theorem serveRefresh_same (s : State) (st : Nat) (b : Nat) : Same 8196 s (serveRefresh s st b) := by
  have h0 := Same.refl 8196 s
  unfold serveRefresh
  extract_lets +onlyGivenNames x_1
  extract_lets +onlyGivenNames x_2
  refine Same.ite0 ?_ ?_
  · exact Same.refl _ _
  · refine Same.step (bumpBy_same ..) ?_
    refine Same.step (setStack_same ..) ?_
    exact Same.refl _ _

theorem quantumEnd_same (s : State) (q : Seq) : Same 446676615812 s (quantumEnd s q).1 := by
  have h0 := Same.refl 446676615812 s
  unfold quantumEnd
  extract_lets +onlyGivenNames x_1
  have h_2 : Same 446676615812 s x_1 := by
    subst x_1
    refine Same.step (chargeGrant_same ..) ?_
    refine Same.step (drainWrites_same ..) ?_
    exact Same.refl _ _
  clear_value x_1
  extract_lets +onlyGivenNames x_3
  extract_lets +onlyGivenNames x_4
  refine Same.pair1 ?_
  exact h_2

theorem execBauEnd_same (st : StackId) (b : BankId) (s : State) : SameO 446676624036 s (outSt (execBauEnd st b s)) := by
  have h0 := Same.refl 446676624036 s
  unfold execBauEnd
  split
  · rename_i a_1 a_2
    refine SameO.out_next ?_
    exact Same.refl _ _
  · rename_i a_3 a_4 a_5 a_6
    split
    · rename_i a_7 a_8 a_9 a_10
      have h_11 : Same 446676624036 s a_8 := by
        refine Same.of1 ?_ a_10
        refine Same.step (quantumEnd_same ..) ?_
        refine Same.step (bump_same ..) ?_
        exact Same.refl _ _
      split
      · rename_i a_12 a_13 a_14 a_15 a_16
        refine SameO.out_next ?_
        refine Same.step (engineDone_same ..) ?_
        refine Same.step (serveRefresh_same ..) ?_
        refine Same.step (setSeq_same ..) ?_
        exact h_11

theorem execBauHoldsInstalled_same (st : StackId) (b : BankId) (s : State) : SameO 2302102494884 s (outSt (execBauHoldsInstalled st b s)) := by
  have h0 := Same.refl 2302102494884 s
  unfold execBauHoldsInstalled
  extract_lets +onlyGivenNames x_1
  have h_2 : Same 2302102494884 s x_1 := by
    subst x_1
    refine Same.step (nextLaunch_same ..) ?_
    exact Same.refl _ _
  clear_value x_1
  split
  · rename_i a_3 a_4
    refine SameO.out_next ?_
    exact h_2
  · rename_i a_5 a_6 a_7
    refine SameO.ite (f := outSt) ?_ ?_
    · split
      · rename_i a_8 a_9
        refine SameO.out_next ?_
        refine Same.step (setSeq_same ..) ?_
        exact h_2
      · rename_i a_10 a_11
        split
        · rename_i a_12 a_13 a_14
          have h_15 : Same 2302102494884 s a_13 := by
            refine Same.of1 ?_ a_14
            refine Same.step (copyLocks_same ..) ?_
            exact h_2
          refine SameO.out_next ?_
          exact h_15
        · rename_i a_16 a_17 a_18 a_19
          have h_20 : Same 2302102494884 s a_17 := by
            refine Same.of1 ?_ a_19
            refine Same.step (copyLocks_same ..) ?_
            exact h_2
          refine SameO.out_next ?_
          refine Same.step (stopSeq_same ..) ?_
          exact h_20
    · refine SameO.ite (f := outSt) ?_ ?_
      · extract_lets +onlyGivenNames x_21
        have h_22 : Same 2302102494884 s x_21 := by
          subst x_21
          refine Same.foldl _ ?_ ?_
          · exact h_2
          · intro a_23 a_24 a_25
            refine Same.step (queueRecalls_same ..) ?_
            exact a_25
        clear_value x_21
        refine SameO.out_next ?_
        refine Same.foldl _ ?_ ?_
        · exact h_22
        · intro a_26 a_27 a_28
          refine Same.step (queueRecalls_same ..) ?_
          exact a_28
      · refine SameO.out_next ?_
        exact h_2

theorem launchWith_same (s : State) (h : Nat) (r : HandleRec) (off : Nat) (bytes : List Byte) : Same 2233393502892 s (launchWith s h r off bytes) := by
  have h0 := Same.refl 2233393502892 s
  unfold launchWith
  split
  · rename_i a_1 a_2 a_3 a_4 a_5 a_6 a_7
    refine Same.ite0 ?_ ?_
    · refine Same.step (badDesc_same ..) ?_
      exact Same.refl _ _
    · split
      · rename_i a_8 a_9 a_10
        refine Same.step (commit_same ..) ?_
        exact Same.refl _ _
      · rename_i a_11 a_12
        split
        · rename_i a_13 a_14 a_15
          refine Same.step (badDesc_same ..) ?_
          refine Same.step (logEvent_same ..) ?_
          exact Same.refl _ _
        · rename_i a_16 a_17
          extract_lets +onlyGivenNames x_18
          extract_lets +onlyGivenNames x_19
          extract_lets +onlyGivenNames x_20
          have h_21 : Same 2233393502892 s x_20 := by
            subst x_20
            refine Same.step (markStarted_same ..) ?_
            exact Same.refl _ _
          extract_lets +onlyGivenNames x_22
          extract_lets +onlyGivenNames x_23
          have h_24 : Same 2233393502892 s x_23 := by
            subst x_23
            refine Same.step (Same.set_bau ..) ?_
            exact h_21
          clear_value x_23
          extract_lets +onlyGivenNames x_25
          refine Same.step (nextLaunch_same ..) ?_
          refine Same.step (Same.set_pool_flights ..) ?_
          exact h_24
  · rename_i a_26 a_27 a_28
    refine Same.step (badDesc_same ..) ?_
    exact Same.refl _ _

theorem execBauLaunch_same (h : Handle) (s : State) : SameO 2233393633964 s (outSt (execBauLaunch h s)) := by
  have h0 := Same.refl 2233393633964 s
  unfold execBauLaunch
  split
  · rename_i a_1 a_2
    refine SameO.out_next ?_
    exact Same.refl _ _
  · rename_i a_3 a_4 a_5
    extract_lets +onlyGivenNames x_6
    extract_lets +onlyGivenNames x_7
    refine SameO.ite (f := outSt) ?_ ?_
    · refine SameO.out_next ?_
      refine Same.step (badDesc_same ..) ?_
      exact Same.refl _ _
    · split
      · rename_i a_8 a_9
        refine SameO.ite (f := outSt) ?_ ?_
        · refine SameO.out_next ?_
          refine Same.step (launchWith_same ..) ?_
          refine Same.step (noteEngineRead_same ..) ?_
          exact Same.refl _ _
        · split
          · rename_i a_10 a_11 a_12 a_13
            have h_14 : Same 2233393633964 s a_12 := by
              refine Same.of2 ?_ a_13
              refine Same.step (newTag_same ..) ?_
              exact Same.refl _ _
            refine SameO.out_next ?_
            refine Same.step (askRead_same ..) ?_
            refine Same.step (Same.set_bau ..) ?_
            exact h_14
      · rename_i a_15 a_16 a_17
        refine SameO.ite (f := outSt) ?_ ?_
        · extract_lets +onlyGivenNames x_18
          extract_lets +onlyGivenNames x_19
          extract_lets +onlyGivenNames x_20
          have h_21 : Same 2233393633964 s x_20 := by
            subst x_20
            refine Same.step (dropStat_same ..) ?_
            refine Same.step (Same.set_bau ..) ?_
            exact Same.refl _ _
          clear_value x_20
          refine SameO.out_next ?_
          refine Same.step (launchWith_same ..) ?_
          refine Same.step (noteEngineRead_same ..) ?_
          exact h_21
        · refine SameO.ite (f := outSt) ?_ ?_
          · refine SameO.out_next ?_
            refine Same.step (askRead_same ..) ?_
            exact Same.refl _ _
          · refine SameO.out_next ?_
            exact Same.refl _ _

theorem execBauLds_same (st : StackId) (b : BankId) (s : State) : SameO 2645710363310 s (outSt (execBauLds st b s)) := by
  have h0 := Same.refl 2645710363310 s
  unfold execBauLds
  refine SameO.out_next ?_
  refine Same.step (insRow_same ..) ?_
  exact Same.refl _ _

theorem execBauLi_same (st : StackId) (b : BankId) (s : State) : SameO 2645710363310 s (outSt (execBauLi st b s)) := by
  have h0 := Same.refl 2645710363310 s
  unfold execBauLi
  refine SameO.out_next ?_
  refine Same.step (insRow_same ..) ?_
  exact Same.refl _ _

theorem execBauLoop_same (st : StackId) (b : BankId) (s : State) : SameO 2645710363310 s (outSt (execBauLoop st b s)) := by
  have h0 := Same.refl 2645710363310 s
  unfold execBauLoop
  refine SameO.out_next ?_
  refine Same.step (insRow_same ..) ?_
  exact Same.refl _ _

theorem execBauMulf_same (st : StackId) (b : BankId) (s : State) : SameO 2645710363310 s (outSt (execBauMulf st b s)) := by
  have h0 := Same.refl 2645710363310 s
  unfold execBauMulf
  refine SameO.out_next ?_
  refine Same.step (insRow_same ..) ?_
  exact Same.refl _ _

theorem execBauMulv_same (st : StackId) (b : BankId) (s : State) : SameO 2645710363310 s (outSt (execBauMulv st b s)) := by
  have h0 := Same.refl 2645710363310 s
  unfold execBauMulv
  refine SameO.out_next ?_
  refine Same.step (insRow_same ..) ?_
  exact Same.refl _ _

theorem execBauMv_same (st : StackId) (b : BankId) (s : State) : SameO 2645710363310 s (outSt (execBauMv st b s)) := by
  have h0 := Same.refl 2645710363310 s
  unfold execBauMv
  refine SameO.out_next ?_
  refine Same.step (insRow_same ..) ?_
  exact Same.refl _ _

theorem execBauMvt_same (st : StackId) (b : BankId) (s : State) : SameO 2645710363310 s (outSt (execBauMvt st b s)) := by
  have h0 := Same.refl 2645710363310 s
  unfold execBauMvt
  refine SameO.out_next ?_
  refine Same.step (insRow_same ..) ?_
  exact Same.refl _ _

theorem execBauNorm_same (st : StackId) (b : BankId) (s : State) : SameO 2645710363310 s (outSt (execBauNorm st b s)) := by
  have h0 := Same.refl 2645710363310 s
  unfold execBauNorm
  refine SameO.out_next ?_
  refine Same.step (insRow_same ..) ?_
  exact Same.refl _ _

theorem placeNew_same (s : State) (k : Key) (id : Nat) (st : Nat) (b : Nat) (pages : List Nat) : Same 120259086336 s (placeNew s k id st b pages) := by
  have h0 := Same.refl 120259086336 s
  unfold placeNew
  refine Same.foldl _ ?_ ?_
  · exact Same.refl _ _
  · intro a_1 a_2 a_3
    refine Same.ite0 ?_ ?_
    · exact a_3
    · split
      · rename_i a_4 a_5
        exact a_3
      · rename_i a_6 a_7 a_8 a_9
        have h_10 : Same 120259086336 s a_8 := by
          refine SameO.of (o := sndSt _) ?_ (congrArg sndSt a_9)
          refine SameO.pass (takeBank_same ..) ?_
          exact a_3
        split
        · rename_i a_11 a_12 a_13 a_14
          have h_15 : Same 120259086336 s a_13 := by
            refine Same.of2 ?_ a_14
            refine Same.step (newBack_same ..) ?_
            exact h_10
          split
          · rename_i a_16 a_17 a_18
            refine Same.step (setPage_same ..) ?_
            refine Same.step (setBack_same ..) ?_
            exact h_15
          · rename_i a_19 a_20
            exact h_15

theorem execBauPlace_same (h : Handle) (s : State) : SameO 120259115052 s (outSt (execBauPlace h s)) := by
  have h0 := Same.refl 120259115052 s
  unfold execBauPlace
  split
  · rename_i a_1 a_2
    refine SameO.out_next ?_
    exact Same.refl _ _
  · rename_i a_3 a_4 a_5
    extract_lets +onlyGivenNames x_6
    extract_lets +onlyGivenNames x_7
    extract_lets +onlyGivenNames x_8
    extract_lets +onlyGivenNames x_9
    extract_lets +onlyGivenNames x_10
    refine SameO.ite (f := outSt) ?_ ?_
    · refine SameO.out_next ?_
      exact Same.refl _ _
    · refine SameO.ite (f := outSt) ?_ ?_
      · refine SameO.out_next ?_
        refine Same.step (badDesc_same ..) ?_
        exact Same.refl _ _
      · refine SameO.ite (f := outSt) ?_ ?_
        · refine SameO.out_next ?_
          refine Same.step (badDesc_same ..) ?_
          exact Same.refl _ _
        · refine SameO.ite (f := outSt) ?_ ?_
          · refine SameO.out_next ?_
            refine Same.step (badDesc_same ..) ?_
            exact Same.refl _ _
          · split
            · rename_i a_11 a_12
              refine SameO.out_next ?_
              refine Same.step (commit_same ..) ?_
              exact Same.refl _ _
            · rename_i a_13 a_14 a_15
              refine SameO.ite (f := outSt) ?_ ?_
              · refine SameO.out_next ?_
                refine Same.step (commit_same ..) ?_
                exact Same.refl _ _
              · refine SameO.ite (f := outSt) ?_ ?_
                · refine SameO.out_next ?_
                  refine Same.step (commit_same ..) ?_
                  exact Same.refl _ _
                · extract_lets +onlyGivenNames x_16
                  extract_lets +onlyGivenNames x_17
                  extract_lets +onlyGivenNames x_18
                  extract_lets +onlyGivenNames x_19
                  refine SameO.ite (f := outSt) ?_ ?_
                  · refine SameO.out_next ?_
                    refine Same.step (badDesc_same ..) ?_
                    exact Same.refl _ _
                  · refine SameO.ite (f := outSt) ?_ ?_
                    · refine SameO.out_next ?_
                      refine Same.step (commit_same ..) ?_
                      exact Same.refl _ _
                    · refine SameO.ite (f := outSt) ?_ ?_
                      · refine SameO.out_next ?_
                        refine Same.step (commit_same ..) ?_
                        exact Same.refl _ _
                      · split
                        · rename_i a_20 a_21
                          refine SameO.out_next ?_
                          refine Same.step (commit_same ..) ?_
                          exact Same.refl _ _
                        · rename_i a_22 a_23 a_24 a_25
                          extract_lets +onlyGivenNames x_26
                          extract_lets +onlyGivenNames x_27
                          have h_28 : Same 120259115052 s x_27 := by
                            subst x_27
                            clear_value x_26
                            split
                            · rename_i a_29 a_30
                              refine Same.step (addRef_same ..) ?_
                              exact Same.refl _ _
                            · rename_i a_31
                              exact Same.refl _ _
                          clear_value x_27
                          extract_lets +onlyGivenNames x_32
                          extract_lets +onlyGivenNames x_33
                          extract_lets +onlyGivenNames x_34
                          have h_35 : Same 120259115052 s x_34 := by
                            subst x_34
                            refine Same.step (placeNew_same ..) ?_
                            refine Same.step (setPlacement_same ..) ?_
                            refine Same.step (markStarted_same ..) ?_
                            exact h_28
                          clear_value x_34
                          refine SameO.out_next ?_
                          refine Same.step (startOp_same ..) ?_
                          exact h_35

theorem execBauPlaceRelease_same (h : Handle) (s : State) : SameO 34359760940 s (outSt (execBauPlaceRelease h s)) := by
  have h0 := Same.refl 34359760940 s
  unfold execBauPlaceRelease
  split
  · rename_i a_1 a_2
    refine SameO.out_next ?_
    exact Same.refl _ _
  · rename_i a_3 a_4 a_5
    extract_lets +onlyGivenNames x_6
    refine SameO.ite (f := outSt) ?_ ?_
    · refine SameO.out_next ?_
      exact Same.refl _ _
    · split
      · rename_i a_7 a_8
        refine SameO.out_next ?_
        refine Same.step (commit_same ..) ?_
        exact Same.refl _ _
      · rename_i a_9 a_10 a_11
        refine SameO.ite (f := outSt) ?_ ?_
        · refine SameO.out_next ?_
          refine Same.step (commit_same ..) ?_
          exact Same.refl _ _
        · refine SameO.out_next ?_
          refine Same.step (settlePlaces_same ..) ?_
          refine Same.step (setPlacement_same ..) ?_
          refine Same.step (markStarted_same ..) ?_
          exact Same.refl _ _

theorem execBauQuantumFault_same (st : StackId) (b : BankId) (good : Bool) (s : State) : SameO 2508271418028 s (outSt (execBauQuantumFault st b good s)) := by
  have h0 := Same.refl 2508271418028 s
  unfold execBauQuantumFault
  split
  · rename_i a_1 a_2
    refine SameO.out_next ?_
    exact Same.refl _ _
  · rename_i a_3 a_4 a_5
    refine SameO.ite (f := outSt) ?_ ?_
    · refine SameO.out_next ?_
      exact Same.refl _ _
    · extract_lets +onlyGivenNames x_6
      extract_lets +onlyGivenNames x_7
      have h_8 : Same 2508271418028 s x_7 := by
        subst x_7
        refine Same.step (setProgress_same ..) ?_
        exact Same.refl _ _
      clear_value x_7
      refine SameO.ite (f := outSt) ?_ ?_
      · refine SameO.out_next ?_
        refine Same.step (loseCheckpoint_same ..) ?_
        exact h_8
      · refine SameO.ite (f := outSt) ?_ ?_
        · refine SameO.out_next ?_
          refine Same.step (bump_same ..) ?_
          refine Same.step (setSeq_same ..) ?_
          exact h_8
        · extract_lets +onlyGivenNames x_9
          have h_10 : Same 2508271418028 s x_9 := by
            subst x_9
            refine Same.step (replaceBank_same ..) ?_
            refine Same.step (setSeq_same ..) ?_
            exact h_8
          clear_value x_9
          refine SameO.ite (f := outSt) ?_ ?_
          · refine SameO.out_next ?_
            exact h_10
          · refine SameO.out_next ?_
            refine Same.step (stopSeq_same ..) ?_
            exact h_10

theorem execBauQuantumGrant_same (st : StackId) (b : BankId) (s : State) : SameO 16388 s (outSt (execBauQuantumGrant st b s)) := by
  have h0 := Same.refl 16388 s
  unfold execBauQuantumGrant
  extract_lets +onlyGivenNames x_1
  extract_lets +onlyGivenNames x_2
  split
  · rename_i a_3 a_4
    refine SameO.out_next ?_
    exact Same.refl _ _
  · rename_i a_5 a_6 a_7
    refine SameO.ite (f := outSt) ?_ ?_
    · refine SameO.out_next ?_
      exact Same.refl _ _
    · refine SameO.ite (f := outSt) ?_ ?_
      · extract_lets +onlyGivenNames x_8
        extract_lets +onlyGivenNames x_9
        have h_10 : Same 16388 s x_9 := by
          subst x_9
          refine Same.step (bumpBy_same ..) ?_
          exact Same.refl _ _
        clear_value x_9
        extract_lets +onlyGivenNames x_11
        extract_lets +onlyGivenNames x_12
        have h_13 : Same 16388 s x_12 := by
          subst x_12
          refine Same.step (Same.set_bau ..) ?_
          exact h_10
        clear_value x_12
        refine SameO.out_next ?_
        refine Same.step (setSeq_same ..) ?_
        exact h_13
      · extract_lets +onlyGivenNames x_14
        extract_lets +onlyGivenNames x_15
        have h_16 : Same 16388 s x_15 := by
          subst x_15
          refine Same.step (Same.set_bau ..) ?_
          exact Same.refl _ _
        clear_value x_15
        refine SameO.out_next ?_
        refine Same.step (setSeq_same ..) ?_
        exact h_16

theorem execBauScore_same (st : StackId) (b : BankId) (s : State) : SameO 2645710363310 s (outSt (execBauScore st b s)) := by
  have h0 := Same.refl 2645710363310 s
  unfold execBauScore
  refine SameO.out_next ?_
  refine Same.step (insRow_same ..) ?_
  exact Same.refl _ _

theorem execBauSequenceEnd_same (st : StackId) (b : BankId) (s : State) : SameO 2233383017132 s (outSt (execBauSequenceEnd st b s)) := by
  have h0 := Same.refl 2233383017132 s
  unfold execBauSequenceEnd
  split
  · rename_i a_1 a_2
    refine SameO.out_next ?_
    exact Same.refl _ _
  · rename_i a_3 a_4 a_5
    split
    · rename_i a_6 a_7
      refine SameO.out_next ?_
      refine Same.step (nextLaunch_same ..) ?_
      refine Same.step (dropSeq_same ..) ?_
      exact Same.refl _ _
    · rename_i a_8 a_9 a_10
      refine SameO.ite (f := outSt) ?_ ?_
      · refine SameO.out_next ?_
        exact Same.refl _ _
      · extract_lets +onlyGivenNames x_11
        have h_12 : Same 2233383017132 s x_11 := by
          subst x_11
          refine Same.step (nextLaunch_same ..) ?_
          refine Same.step (dropSeq_same ..) ?_
          exact Same.refl _ _
        clear_value x_11
        refine SameO.out_next ?_
        refine Same.step (fillRecord_same ..) ?_
        exact h_12

theorem execBauSequenceStart_same (st : StackId) (b : BankId) (s : State) : SameO 2233393633964 s (outSt (execBauSequenceStart st b s)) := by
  have h0 := Same.refl 2233393633964 s
  unfold execBauSequenceStart
  extract_lets +onlyGivenNames x_1
  extract_lets +onlyGivenNames x_2
  split
  · rename_i a_3 a_4
    refine SameO.out_next ?_
    exact Same.refl _ _
  · rename_i a_5 a_6 a_7
    refine SameO.ite (f := outSt) ?_ ?_
    · refine SameO.out_next ?_
      exact Same.refl _ _
    · refine SameO.ite (f := outSt) ?_ ?_
      · refine SameO.ite (f := outSt) ?_ ?_
        · refine SameO.out_next ?_
          exact Same.refl _ _
        · refine SameO.out_next ?_
          refine Same.step (stopSeq_same ..) ?_
          exact Same.refl _ _
      · extract_lets +onlyGivenNames x_8
        extract_lets +onlyGivenNames x_9
        refine SameO.ite (f := outSt) ?_ ?_
        · refine SameO.ite (f := outSt) ?_ ?_
          · refine SameO.out_next ?_
            exact Same.refl _ _
          · refine SameO.out_next ?_
            refine Same.step (bump_same ..) ?_
            refine Same.step (setSeq_same ..) ?_
            exact Same.refl _ _
        · extract_lets +onlyGivenNames x_10
          extract_lets +onlyGivenNames x_11
          extract_lets +onlyGivenNames x_12
          have h_13 : Same 2233393633964 s x_12 := by
            subst x_12
            refine Same.step (noteEngineRead_same ..) ?_
            exact Same.refl _ _
          clear_value x_12
          extract_lets +onlyGivenNames x_14
          subst x_14
          dsimp -zeta -zetaHave only
          split
          · rename_i a_15 a_16
            refine SameO.out_next ?_
            refine Same.step (stopSeq_same ..) ?_
            refine Same.step (logEvent_same ..) ?_
            exact h_13
          · rename_i a_17 a_18 a_19
            split
            · rename_i a_20 a_21 a_22
              refine SameO.out_next ?_
              refine Same.step (stopSeq_same ..) ?_
              refine Same.step (logEvent_same ..) ?_
              exact h_13
            · rename_i a_23 a_24
              extract_lets +onlyGivenNames x_25
              extract_lets +onlyGivenNames x_26
              extract_lets +onlyGivenNames x_27
              extract_lets +onlyGivenNames x_28
              have h_29 : Same 2233393633964 s x_28 := by
                subst x_28
                refine Same.step (Same.set_bau ..) ?_
                exact h_13
              clear_value x_28
              refine SameO.out_next ?_
              refine Same.step (bump_same ..) ?_
              refine Same.step (setSeq_same ..) ?_
              exact h_29

theorem execBauSetc_same (st : StackId) (b : BankId) (s : State) : SameO 2645710363310 s (outSt (execBauSetc st b s)) := by
  have h0 := Same.refl 2645710363310 s
  unfold execBauSetc
  refine SameO.out_next ?_
  refine Same.step (insRow_same ..) ?_
  exact Same.refl _ _

theorem execBauSetf_same (st : StackId) (b : BankId) (s : State) : SameO 2645710363310 s (outSt (execBauSetf st b s)) := by
  have h0 := Same.refl 2645710363310 s
  unfold execBauSetf
  refine SameO.out_next ?_
  refine Same.step (insRow_same ..) ?_
  exact Same.refl _ _

theorem execBauSmx_same (st : StackId) (b : BankId) (s : State) : SameO 2645710363310 s (outSt (execBauSmx st b s)) := by
  have h0 := Same.refl 2645710363310 s
  unfold execBauSmx
  refine SameO.out_next ?_
  refine Same.step (insRow_same ..) ?_
  exact Same.refl _ _

theorem execBauSt_same (st : StackId) (b : BankId) (s : State) : SameO 2645710363310 s (outSt (execBauSt st b s)) := by
  have h0 := Same.refl 2645710363310 s
  unfold execBauSt
  refine SameO.out_next ?_
  refine Same.step (insRow_same ..) ?_
  exact Same.refl _ _

theorem execBauSts_same (st : StackId) (b : BankId) (s : State) : SameO 2645710363310 s (outSt (execBauSts st b s)) := by
  have h0 := Same.refl 2645710363310 s
  unfold execBauSts
  refine SameO.out_next ?_
  refine Same.step (insRow_same ..) ?_
  exact Same.refl _ _

theorem execBauZacc_same (st : StackId) (b : BankId) (s : State) : SameO 2645710363310 s (outSt (execBauZacc st b s)) := by
  have h0 := Same.refl 2645710363310 s
  unfold execBauZacc
  refine SameO.out_next ?_
  refine Same.step (insRow_same ..) ?_
  exact Same.refl _ _

theorem takeWindow_same (s : State) (line : Nat) : Same 16384 s (takeWindow s line) := by
  have h0 := Same.refl 16384 s
  unfold takeWindow
  split
  · rename_i a_1 a_2
    exact Same.refl _ _
  · rename_i a_3 a_4 a_5
    refine Same.step (setSeq_same ..) ?_
    exact Same.refl _ _

theorem execPreemptionPoint_same (st : StackId) (b : BankId) (s : State) : SameO 446687109804 s (outSt (execPreemptionPoint st b s)) := by
  have h0 := Same.refl 446687109804 s
  unfold execPreemptionPoint
  split
  · rename_i a_1 a_2
    refine SameO.out_next ?_
    exact Same.refl _ _
  · rename_i a_3 a_4 a_5
    refine SameO.ite (f := outSt) ?_ ?_
    · refine SameO.out_next ?_
      exact Same.refl _ _
    · extract_lets +onlyGivenNames x_6
      have h_7 : Same 446687109804 s x_6 := by
        subst x_6
        refine Same.ite0 ?_ ?_
        · refine Same.step (logEvent_same ..) ?_
          exact Same.refl _ _
        · exact Same.refl _ _
      clear_value x_6
      split
      · rename_i a_8 a_9 a_10 a_11
        have h_12 : Same 446687109804 s a_9 := by
          refine Same.of1 ?_ a_11
          refine Same.step (quantumEnd_same ..) ?_
          exact h_7
        extract_lets +onlyGivenNames x_13
        have h_14 : Same 446687109804 s x_13 := by
          subst x_13
          refine Same.step (serveRefresh_same ..) ?_
          exact h_12
        clear_value x_13
        extract_lets +onlyGivenNames x_15
        extract_lets +onlyGivenNames x_16
        have h_17 : Same 446687109804 s x_16 := by
          subst x_16
          refine Same.step (bumpBy_same ..) ?_
          exact h_14
        clear_value x_16
        refine SameO.out_next ?_
        refine Same.step (setSeq_same ..) ?_
        exact h_17

end Sys2Proof.Machine
end

