-- ==== Sys2Proof/Laws/KeepIngress.lean ====
section
/-! SUPPORT. What each operation of Machine/Ingress.lean leaves alone: the parts it may write, as a number, and all else kept. -/

set_option linter.unusedVariables false

namespace Sys2Proof.Machine

set_option Elab.async false

theorem advanceRseq_same (s : State) (src : Endpoint) (q : BitVec 16) : Same 512 s (advanceRseq s src q) := by
  have h0 := Same.refl 512 s
  unfold advanceRseq
  extract_lets +onlyGivenNames x_1
  refine Same.ite0 ?_ ?_
  · refine Same.step (Same.set_atm ..) ?_
    exact Same.refl _ _
  · exact Same.refl _ _

theorem ageSummaries_same (s : State) : Same 8388622 s (ageSummaries s) := by
  have h0 := Same.refl 8388622 s
  unfold ageSummaries
  refine Same.foldl _ ?_ ?_
  · exact Same.refl _ _
  · intro a_1 a_2 a_3
    split
    · rename_i a_4 a_5 a_6 a_7
      have h_8 : Same 8388622 s a_6 := by
        refine Same.of2 ?_ a_7
        refine Same.step (draw_same ..) ?_
        exact a_3
      refine Same.step (pmEvent_same ..) ?_
      exact h_8

theorem setOut_same (s : State) (num : Nat) (f : Out → Out) : Same 256 s (setOut s num f) := by
  have h0 := Same.refl 256 s
  unfold setOut
  refine Same.step (Same.set_ord ..) ?_
  exact Same.refl _ _

theorem setThrottle_same (s : State) (c : Throttle) : Same 524288 s (setThrottle s c) := by
  have h0 := Same.refl 524288 s
  unfold setThrottle
  refine Same.step (Same.set_cong ..) ?_
  exact Same.refl _ _

theorem homeMark_same (s : State) (r : Req) : Same 4 s (homeMark s r).1 := by
  have h0 := Same.refl 4 s
  unfold homeMark
  extract_lets +onlyGivenNames x_1
  extract_lets +onlyGivenNames x_2
  extract_lets +onlyGivenNames x_3
  refine Same.ite (f := Prod.fst) ?_ ?_
  · refine Same.pair1 ?_
    refine Same.step (bump_same ..) ?_
    exact Same.refl _ _
  · refine Same.pair1 ?_
    exact Same.refl _ _

theorem releaseReq_same (s : State) (r : Req) : Same 656012 s (releaseReq s r) := by
  have h0 := Same.refl 656012 s
  unfold releaseReq
  extract_lets +onlyGivenNames x_1
  subst x_1
  dsimp -zeta -zetaHave only
  extract_lets +onlyGivenNames x_2
  extract_lets +onlyGivenNames x_3
  have h_4 : Same 656012 s x_3 := by
    subst x_3
    refine Same.ite0 ?_ ?_
    · refine Same.step (Same.set_atm ..) ?_
      exact Same.refl _ _
    · exact Same.refl _ _
  clear_value x_3
  refine Same.ite0 ?_ ?_
  · refine Same.step (Same.set_coh ..) ?_
    refine Same.step (homeMark_same ..) ?_
    exact h_4
  · refine Same.step (forwardReq_same ..) ?_
    exact h_4

theorem tryRelease_same (s : State) (o : Out) : Same 656268 s (tryRelease s o) := by
  have h0 := Same.refl 656268 s
  unfold tryRelease
  refine Same.ite0 ?_ ?_
  · exact Same.refl _ _
  · extract_lets +onlyGivenNames x_1
    extract_lets +onlyGivenNames x_2
    have h_3 : Same 656268 s x_2 := by
      subst x_2
      refine Same.ite0 ?_ ?_
      · refine Same.step (setOut_same ..) ?_
        exact Same.refl _ _
      · refine Same.step (Same.set_ord ..) ?_
        exact Same.refl _ _
    clear_value x_2
    split
    · rename_i a_4 a_5 a_6
      refine Same.step (refuseReq_same ..) ?_
      exact h_3
    · rename_i a_7 a_8
      refine Same.step (releaseReq_same ..) ?_
      exact h_3

theorem refuseIn_same (s : State) (r : Req) (st : Status) : Same 656268 s (refuseIn s r st) := by
  have h0 := Same.refl 656268 s
  unfold refuseIn
  refine Same.ite0 ?_ ?_
  · extract_lets +onlyGivenNames x_1
    refine Same.step (tryRelease_same ..) ?_
    refine Same.step (setOut_same ..) ?_
    exact Same.refl _ _
  · refine Same.step (refuseReq_same ..) ?_
    exact Same.refl _ _

theorem noteFlight_same (s : State) (r : Req) : Same 2233382995968 s (noteFlight s r) := by
  have h0 := Same.refl 2233382995968 s
  unfold noteFlight
  extract_lets +onlyGivenNames x_1
  extract_lets +onlyGivenNames x_2
  have h_3 : Same 2233382995968 s x_2 := by
    subst x_2
    refine Same.step (touchPromote_same ..) ?_
    refine Same.step (touchAge_same ..) ?_
    exact Same.refl _ _
  clear_value x_2
  refine Same.step (Same.set_pool_flights ..) ?_
  exact h_3

theorem meter_same (s : State) (r : Req) : SameO 524288 s (meter s r) := by
  have h0 := Same.refl 524288 s
  unfold meter
  refine SameO.ite0 ?_ ?_
  · refine SameO.yes ?_
    exact Same.refl _ _
  · split
    · rename_i a_1 a_2
      refine SameO.yes ?_
      exact Same.refl _ _
    · rename_i a_3 a_4 a_5
      extract_lets +onlyGivenNames x_6
      refine SameO.ite0 ?_ ?_
      · refine SameO.yes ?_
        refine Same.step (setThrottle_same ..) ?_
        exact Same.refl _ _
      · exact SameO.no

theorem takeIn_same (s : State) (r : Req) : Same 656268 s (takeIn s r) := by
  have h0 := Same.refl 656268 s
  unfold takeIn
  refine Same.ite0 ?_ ?_
  · extract_lets +onlyGivenNames x_1
    split
    · rename_i a_2 a_3 a_4
      have h_5 : Same 656268 s a_3 := by
        refine SameO.some ?_ a_4
        refine SameO.pass (meter_same ..) ?_
        exact Same.refl _ _
      refine Same.step (tryRelease_same ..) ?_
      refine Same.step (setOut_same ..) ?_
      exact h_5
    · rename_i a_6 a_7
      extract_lets +onlyGivenNames x_8
      have h_9 : Same 656268 s x_8 := by
        subst x_8
        refine Same.ite0 ?_ ?_
        · refine Same.step (bump_same ..) ?_
          exact Same.refl _ _
        · exact Same.refl _ _
      clear_value x_8
      refine Same.step (bump_same ..) ?_
      refine Same.step (setOut_same ..) ?_
      exact h_9
  · refine Same.ite0 ?_ ?_
    · split
      · rename_i a_10 a_11 a_12
        have h_13 : Same 656268 s a_11 := by
          refine SameO.some ?_ a_12
          refine SameO.pass (meter_same ..) ?_
          exact Same.refl _ _
        refine Same.step (releaseReq_same ..) ?_
        exact h_13
      · rename_i a_14 a_15
        refine Same.step (Same.set_ord ..) ?_
        exact Same.refl _ _
    · refine Same.step (releaseReq_same ..) ?_
      exact Same.refl _ _

theorem homeChecks_same (s : State) (r : Req) : Same 2233383652236 s (homeChecks s r) := by
  have h0 := Same.refl 2233383652236 s
  unfold homeChecks
  extract_lets +onlyGivenNames x_1
  extract_lets +onlyGivenNames x_2
  split
  · rename_i a_3 a_4 a_5
    refine Same.step (refuseIn_same ..) ?_
    refine Same.step (telCount_same ..) ?_
    exact Same.refl _ _
  · rename_i a_6 a_7 a_8
    split
    · rename_i a_9 a_10 a_11
      refine Same.step (refuseIn_same ..) ?_
      refine Same.step (telCount_same ..) ?_
      exact Same.refl _ _
    · rename_i a_12 a_13
      refine Same.ite0 ?_ ?_
      · refine Same.step (refuseIn_same ..) ?_
        refine Same.step (telCount_same ..) ?_
        exact Same.refl _ _
      · refine Same.step (takeIn_same ..) ?_
        refine Same.step (noteFlight_same ..) ?_
        refine Same.step (telCount_same ..) ?_
        exact Same.refl _ _

theorem retireWindow_same (s : State) (src : Endpoint) (home : Nat) (q : BitVec 16) : Same 512 s (retireWindow s src home q) := by
  have h0 := Same.refl 512 s
  unfold retireWindow
  refine Same.step (Same.set_atm ..) ?_
  exact Same.refl _ _

theorem pastKey_same (s : State) (r : Req) : Same 37417755741068 s (pastKey s r) := by
  have h0 := Same.refl 37417755741068 s
  unfold pastKey
  extract_lets +onlyGivenNames x_1
  extract_lets +onlyGivenNames x_2
  have h_3 : Same 37417755741068 s x_2 := by
    subst x_2
    split
    · rename_i a_4 a_5 a_6
      extract_lets +onlyGivenNames x_7
      have h_8 : Same 37417755741068 s x_7 := by
        subst x_7
        refine Same.ite0 ?_ ?_
        · refine Same.step (retireWindow_same ..) ?_
          exact Same.refl _ _
        · exact Same.refl _ _
      clear_value x_7
      refine Same.ite0 ?_ ?_
      · refine Same.step (advanceRseq_same ..) ?_
        exact h_8
      · exact h_8
    · rename_i a_9 a_10
      exact Same.refl _ _
  clear_value x_2
  refine Same.ite0 ?_ ?_
  · refine Same.step (takeIn_same ..) ?_
    exact h_3
  · refine Same.ite0 ?_ ?_
    · refine Same.step (homeChecks_same ..) ?_
      exact h_3
    · refine Same.ite0 ?_ ?_
      · refine Same.step (homeChecks_same ..) ?_
        exact h_3
      · refine Same.step (Same.set_pool_xlateWait ..) ?_
        exact h_3

theorem noteOut_same (s : State) (r : Req) : Same 256 s (noteOut s r) := by
  have h0 := Same.refl 256 s
  unfold noteOut
  refine Same.ite0 ?_ ?_
  · refine Same.step (Same.set_ord ..) ?_
    exact Same.refl _ _
  · exact Same.refl _ _

theorem execRequestIngress_same (r : Req) (s : State) : SameO 37417756789644 s (outSt (execRequestIngress r s)) := by
  have h0 := Same.refl 37417756789644 s
  unfold execRequestIngress
  extract_lets +onlyGivenNames x_1
  have h_2 : Same 37417756789644 s x_1 := by
    subst x_1
    refine Same.ite0 ?_ ?_
    · exact Same.refl _ _
    · refine Same.step (creditBack_same ..) ?_
      exact Same.refl _ _
  clear_value x_1
  extract_lets +onlyGivenNames x_3
  extract_lets +onlyGivenNames x_4
  extract_lets +onlyGivenNames x_5
  have h_6 : Same 37417756789644 s x_5 := by
    subst x_5
    refine Same.step (Same.set_ord ..) ?_
    exact h_2
  clear_value x_5
  extract_lets +onlyGivenNames x_7
  refine SameO.ite (f := outSt) ?_ ?_
  · refine SameO.out_next ?_
    exact h_2
  · refine SameO.ite (f := outSt) ?_ ?_
    · refine SameO.out_next ?_
      refine Same.step (pastKey_same ..) ?_
      exact h_6
    · refine SameO.ite (f := outSt) ?_ ?_
      · refine SameO.out_next ?_
        refine Same.step (refuseReq_same ..) ?_
        exact h_6
      · refine SameO.ite (f := outSt) ?_ ?_
        · refine SameO.out_next ?_
          refine Same.step (refuseReq_same ..) ?_
          refine Same.step (classDrop_same ..) ?_
          exact h_6
        · refine SameO.ite (f := outSt) ?_ ?_
          · refine SameO.out_next ?_
            refine Same.step (refuseIn_same ..) ?_
            refine Same.step (bump_same ..) ?_
            refine Same.step (keyDrop_same ..) ?_
            refine Same.step (noteOut_same ..) ?_
            exact h_6
          · refine SameO.out_next ?_
            refine Same.step (pastKey_same ..) ?_
            refine Same.step (noteOut_same ..) ?_
            exact h_6

theorem execPageAgeTick_same (s : State) : SameO 70403112306702 s (outSt (execPageAgeTick s)) := by
  have h0 := Same.refl 70403112306702 s
  unfold execPageAgeTick
  refine SameO.ite (f := outSt) ?_ ?_
  · refine SameO.out_next ?_
    exact Same.refl _ _
  · extract_lets +onlyGivenNames x_1
    refine SameO.out_next ?_
    refine Same.step (ageSummaries_same ..) ?_
    refine Same.step (coldDemotes_same ..) ?_
    refine Same.step (Same.set_pool_backs_lastAgeTick ..) ?_
    exact Same.refl _ _

theorem execXlateCacheFill_same (p : PortId) (src : Endpoint) (tag : BitVec 14) (s : State) : SameO 63806034807692 s (outSt (execXlateCacheFill p src tag s)) := by
  have h0 := Same.refl 63806034807692 s
  unfold execXlateCacheFill
  split
  · rename_i a_1 a_2
    refine SameO.out_next ?_
    exact Same.refl _ _
  · rename_i a_3 a_4 a_5
    split
    · rename_i a_6 a_7
      refine SameO.out_next ?_
      exact Same.refl _ _
    · rename_i a_8 a_9 a_10
      refine SameO.ite (f := outSt) ?_ ?_
      · refine SameO.out_next ?_
        exact Same.refl _ _
      · extract_lets +onlyGivenNames x_11
        extract_lets +onlyGivenNames x_12
        extract_lets +onlyGivenNames x_13
        extract_lets +onlyGivenNames x_14
        have h_15 : Same 63806034807692 s x_14 := by
          subst x_14
          refine Same.ite0 ?_ ?_
          · exact Same.refl _ _
          · refine Same.step (bump_same ..) ?_
            exact Same.refl _ _
        clear_value x_14
        extract_lets +onlyGivenNames x_16
        extract_lets +onlyGivenNames x_17
        have h_18 : Same 63806034807692 s x_17 := by
          subst x_17
          refine Same.ite0 ?_ ?_
          · refine Same.step (bump_same ..) ?_
            exact h_15
          · exact h_15
        clear_value x_17
        extract_lets +onlyGivenNames x_19
        subst x_19
        extract_lets +onlyGivenNames x_20
        have h_21 : Same 63806034807692 s x_20 := by
          subst x_20
          refine Same.step (Same.set_pool_xlate_extCache_xlateWait ..) ?_
          exact h_18
        clear_value x_20
        refine SameO.out_next ?_
        refine Same.step (homeChecks_same ..) ?_
        exact h_21

end Sys2Proof.Machine
end

