-- ==== Sys2Proof/Laws/KeepTrainBase.lean ====
section
/-! SUPPORT. What each operation of Machine/TrainBase.lean leaves alone: the parts it may write, as a number, and all else kept. -/

set_option linter.unusedVariables false

namespace Sys2Proof.Machine

set_option Elab.async false

theorem releaseTrain_same (s : State) (id : Nat) (code : Nat) : Same 65540 s (releaseTrain s id code) := by
  have h0 := Same.refl 65540 s
  unfold releaseTrain
  extract_lets +onlyGivenNames x_1
  extract_lets +onlyGivenNames x_2
  extract_lets +onlyGivenNames x_3
  have h_4 : Same 65540 s x_3 := by
    subst x_3
    refine Same.step (Same.set_train ..) ?_
    exact Same.refl _ _
  clear_value x_3
  refine Same.step (bumpBy_same ..) ?_
  exact h_4

theorem endPost_same (s : State) (q : Post) (st : Status) (r0 : Word) (r1 : Word) : Same 32 s (endPost s q st r0 r1) := by
  have h0 := Same.refl 32 s
  unfold endPost
  refine Same.step (engineDone_same ..) ?_
  exact Same.refl _ _

theorem putInst_same (s : State) (i : Inst) : Same 65536 s (putInst s i) := by
  have h0 := Same.refl 65536 s
  unfold putInst
  refine Same.step (Same.set_train ..) ?_
  exact Same.refl _ _

theorem reportAdopted_same (s : State) (id : Nat) : Same 196620 s (reportAdopted s id) := by
  have h0 := Same.refl 196620 s
  unfold reportAdopted
  refine Same.ite0 ?_ ?_
  · exact Same.refl _ _
  · extract_lets +onlyGivenNames x_1
    refine Same.foldl _ ?_ ?_
    · refine Same.step (Same.set_train ..) ?_
      exact Same.refl _ _
    · intro a_2 a_3 a_4
      refine Same.step (sendSwitch_same ..) ?_
      exact a_4

theorem dropTrainOp_same (s : State) (o : TrainOp) : Same 65536 s (dropTrainOp s o) := by
  have h0 := Same.refl 65536 s
  unfold dropTrainOp
  refine Same.step (Same.set_train ..) ?_
  exact Same.refl _ _

theorem trainFinish_same (s : State) (o : TrainOp) : Same 65568 s (trainFinish s o) := by
  have h0 := Same.refl 65568 s
  unfold trainFinish
  refine Same.ite0 ?_ ?_
  · extract_lets +onlyGivenNames x_1
    extract_lets +onlyGivenNames x_2
    extract_lets +onlyGivenNames x_3
    extract_lets +onlyGivenNames x_4
    have h_5 : Same 65568 s x_4 := by
      subst x_4
      refine Same.ite0 ?_ ?_
      · refine Same.step (Same.set_train ..) ?_
        exact Same.refl _ _
      · exact Same.refl _ _
    clear_value x_4
    refine Same.step (engineDone_same ..) ?_
    refine Same.step (dropTrainOp_same ..) ?_
    exact h_5
  · exact Same.refl _ _

theorem trainLook_same (s : State) (id : Nat) : Same 196652 s (trainLook s id) := by
  have h0 := Same.refl 196652 s
  unfold trainLook
  refine Same.step (reportAdopted_same ..) ?_
  refine Same.foldl _ ?_ ?_
  · exact Same.refl _ _
  · intro a_1 a_2 a_3
    refine Same.step (trainFinish_same ..) ?_
    exact a_3

theorem dropInst_same (s : State) (i : Inst) : Same 196652 s (dropInst s i) := by
  have h0 := Same.refl 196652 s
  unfold dropInst
  refine Same.step (trainLook_same ..) ?_
  refine Same.step (Same.set_train ..) ?_
  exact Same.refl _ _

theorem rootReduced_same (s : State) (i : Inst) (came : Option Nat) : Same 196652 s (rootReduced s i came) := by
  have h0 := Same.refl 196652 s
  unfold rootReduced
  extract_lets +onlyGivenNames x_1
  have h_2 : Same 196652 s x_1 := by
    subst x_1
    refine Same.foldl _ ?_ ?_
    · exact Same.refl _ _
    · intro a_3 a_4 a_5
      refine Same.step (emit_same ..) ?_
      exact a_5
  clear_value x_1
  refine Same.step (dropInst_same ..) ?_
  refine Same.foldl _ ?_ ?_
  · exact h_2
  · intro a_6 a_7 a_8
    refine Same.step (endPost_same ..) ?_
    exact a_8

theorem reduceDone_same (s : State) (h : Nat) : Same 196652 s (reduceDone s h) := by
  have h0 := Same.refl 196652 s
  unfold reduceDone
  split
  · rename_i a_1 a_2
    exact Same.refl _ _
  · rename_i a_3 a_4 a_5
    refine Same.step (rootReduced_same ..) ?_
    exact Same.refl _ _

theorem setTrainOp_same (s : State) (o : TrainOp) : Same 65536 s (setTrainOp s o) := by
  have h0 := Same.refl 65536 s
  unfold setTrainOp
  refine Same.step (Same.set_train ..) ?_
  exact Same.refl _ _

end Sys2Proof.Machine
end

