-- ==== Sys2Proof/Laws/KeepRings.lean ====
section
/-! SUPPORT. What each operation of Machine/Rings.lean leaves alone: the parts it may write, as a number, and all else kept. -/

set_option linter.unusedVariables false

namespace Sys2Proof.Machine

set_option Elab.async false

theorem abortWins_same (s : State) (t : Nat) : Same 44 s (abortWins s t) := by
  have h0 := Same.refl 44 s
  unfold abortWins
  split
  · rename_i a_1 a_2
    exact Same.refl _ _
  · rename_i a_3 a_4 a_5
    extract_lets +onlyGivenNames x_6
    extract_lets +onlyGivenNames x_7
    have h_8 : Same 44 s x_7 := by
      subst x_7
      refine Same.step (setHandle_same ..) ?_
      exact Same.refl _ _
    clear_value x_7
    refine Same.step (commitWith_same ..) ?_
    exact h_8

theorem bauCommit_same (s : State) (h : Nat) (st : Status) (r0 : Word) (r1 : Word) : Same 172 s (bauCommit s h st r0 r1) := by
  have h0 := Same.refl 172 s
  unfold bauCommit
  extract_lets +onlyGivenNames x_1
  extract_lets +onlyGivenNames x_2
  have h_3 : Same 172 s x_2 := by
    subst x_2
    refine Same.foldl _ ?_ ?_
    · exact Same.refl _ _
    · intro a_4 a_5 a_6
      refine Same.step (bump_same ..) ?_
      exact a_6
  clear_value x_2
  extract_lets +onlyGivenNames x_7
  extract_lets +onlyGivenNames x_8
  have h_9 : Same 172 s x_8 := by
    subst x_8
    refine Same.step (Same.set_coh ..) ?_
    exact h_3
  clear_value x_8
  refine Same.step (commitWith_same ..) ?_
  exact h_9

theorem dbDrop_same (s : State) : Same 4 s (dbDrop s) := by
  have h0 := Same.refl 4 s
  unfold dbDrop
  refine Same.step (setFld_same ..) ?_
  exact Same.refl _ _

theorem descriptorChecks_same (s : State) (own : Key) (admin : Bool) (h : Nat) (r : HandleRec) (d : Line) : Same 2147483692 s (descriptorChecks s own admin h r d) := by
  have h0 := Same.refl 2147483692 s
  unfold descriptorChecks
  extract_lets +onlyGivenNames x_1
  extract_lets +onlyGivenNames x_2
  have h_3 : Same 2147483692 s x_2 := by
    subst x_2
    refine Same.step (setHandle_same ..) ?_
    exact Same.refl _ _
  clear_value x_2
  refine Same.ite0 ?_ ?_
  · refine Same.step (commit_same ..) ?_
    exact h_3
  · split
    · rename_i a_4 a_5
      refine Same.step (badDesc_same ..) ?_
      exact h_3
    · rename_i a_6 a_7 a_8
      refine Same.ite0 ?_ ?_
      · refine Same.step (commit_same ..) ?_
        exact h_3
      · split
        · rename_i a_9 a_10 a_11
          refine Same.step (badDesc_same ..) ?_
          exact h_3
        · rename_i a_12 a_13
          extract_lets +onlyGivenNames x_14
          clear_value x_14
          split
          · rename_i a_15 a_16
            refine Same.ite0 ?_ ?_
            · refine Same.step (forwardReady_same ..) ?_
              refine Same.step (setHandle_same ..) ?_
              exact h_3
            · refine Same.step (commit_same ..) ?_
              refine Same.step (bump_same ..) ?_
              exact h_3
          · rename_i a_17
            extract_lets +onlyGivenNames x_18
            subst x_18
            extract_lets +onlyGivenNames x_19
            have h_20 : Same 2147483692 s x_19 := by
              subst x_19
              refine Same.ite0 ?_ ?_
              · refine Same.step (Same.set_pool_compOrder ..) ?_
                exact h_3
              · exact h_3
            clear_value x_19
            split
            · rename_i a_21 a_22 a_23 a_24
              refine Same.step (readHost_same ..) ?_
              exact h_20
            · rename_i a_25 a_26
              exact h_20

theorem writeShadow_same (s : State) (n : Nat) : Same 40 s (writeShadow s n) := by
  have h0 := Same.refl 40 s
  unfold writeShadow
  extract_lets +onlyGivenNames x_1
  refine Same.step (emit_same ..) ?_
  refine Same.step (setRing_same ..) ?_
  exact Same.refl _ _

theorem doorbellAccept_same (s : State) (n : Nat) (tail : Nat) (head : Nat) : Same 40 s (doorbellAccept s n tail head) := by
  have h0 := Same.refl 40 s
  unfold doorbellAccept
  extract_lets +onlyGivenNames x_1
  extract_lets +onlyGivenNames x_2
  extract_lets +onlyGivenNames x_3
  have h_4 : Same 40 s x_3 := by
    subst x_3
    refine Same.ite0 ?_ ?_
    · exact Same.refl _ _
    · refine Same.ite0 ?_ ?_
      · refine Same.step (writeShadow_same ..) ?_
        refine Same.step (haltRing_same ..) ?_
        exact Same.refl _ _
      · refine Same.step (setRing_same ..) ?_
        exact Same.refl _ _
  clear_value x_3
  extract_lets +onlyGivenNames x_5
  extract_lets +onlyGivenNames x_6
  refine Same.ite0 ?_ ?_
  · exact h_4
  · refine Same.ite0 ?_ ?_
    · refine Same.ite0 ?_ ?_
      · refine Same.step (writeShadow_same ..) ?_
        refine Same.step (haltRing_same ..) ?_
        exact h_4
      · exact h_4
    · refine Same.step (setRing_same ..) ?_
      exact h_4

theorem doorbell_same (s : State) (via : Option Nat) (key : Key) (word : Word) : Same 44 s (doorbell s via key word) := by
  have h0 := Same.refl 44 s
  unfold doorbell
  refine Same.ite0 ?_ ?_
  · extract_lets +onlyGivenNames x_1
    extract_lets +onlyGivenNames x_2
    have h_3 : Same 44 s x_2 := by
      subst x_2
      split
      · rename_i a_4 a_5
        refine Same.step (bump_same ..) ?_
        exact Same.refl _ _
      · rename_i a_6
        exact Same.refl _ _
    clear_value x_2
    refine Same.step (doorbellAccept_same ..) ?_
    exact h_3
  · refine Same.step (dbDrop_same ..) ?_
    exact Same.refl _ _

theorem sendNaming_same (s : State) (h : Nat) (r : HandleRec) (sw : Nat) (wait : Option Nat) : Same 40 s (sendNaming s h r sw wait) := by
  have h0 := Same.refl 40 s
  unfold sendNaming
  refine Same.step (emit_same ..) ?_
  refine Same.step (setHandle_same ..) ?_
  exact Same.refl _ _

theorem execAbort_same (h : HRef) (s : State) : SameO 44 s (outSt (execAbort h s)) := by
  have h0 := Same.refl 44 s
  unfold execAbort
  split
  · rename_i a_1 a_2
    refine SameO.out_next ?_
    exact Same.refl _ _
  · rename_i a_3 a_4 a_5
    extract_lets +onlyGivenNames x_6
    extract_lets +onlyGivenNames x_7
    extract_lets +onlyGivenNames x_8
    subst x_8
    dsimp -zeta -zetaHave only
    refine SameO.ite (f := outSt) ?_ ?_
    · refine SameO.out_next ?_
      refine Same.step (commit_same ..) ?_
      refine Same.step (setHandle_same ..) ?_
      exact Same.refl _ _
    · split
      · rename_i a_9 a_10
        refine SameO.ite (f := outSt) ?_ ?_
        · refine SameO.out_next ?_
          refine Same.step (commit_same ..) ?_
          refine Same.step (setHandle_same ..) ?_
          exact Same.refl _ _
        · refine SameO.out_next ?_
          refine Same.step (commit_same ..) ?_
          refine Same.step (setHandle_same ..) ?_
          exact Same.refl _ _
      · rename_i a_11 a_12 a_13
        split
        · rename_i a_14 a_15
          refine SameO.out_next ?_
          exact Same.refl _ _
        · rename_i a_16 a_17
          refine SameO.out_next ?_
          refine Same.step (commit_same ..) ?_
          refine Same.step (setHandle_same ..) ?_
          exact Same.refl _ _
        · rename_i a_18 a_19
          split
          · rename_i a_20 a_21 a_22
            refine SameO.out_next ?_
            refine Same.step (sendNaming_same ..) ?_
            exact Same.refl _ _
          · rename_i a_23 a_24
            refine SameO.ite (f := outSt) ?_ ?_
            · refine SameO.out_next ?_
              refine Same.step (commit_same ..) ?_
              refine Same.step (setHandle_same ..) ?_
              exact Same.refl _ _
            · split
              · rename_i a_25 a_26 a_27 a_28 a_29
                refine SameO.out_next ?_
                refine Same.step (commit_same ..) ?_
                refine Same.step (setHandle_same ..) ?_
                refine Same.step (commit_same ..) ?_
                exact Same.refl _ _
              · rename_i a_30 a_31
                refine SameO.out_next ?_
                refine Same.step (commit_same ..) ?_
                refine Same.step (setHandle_same ..) ?_
                refine Same.step (abortWins_same ..) ?_
                exact Same.refl _ _

theorem writeRecord_same (s : State) (n : Nat) (h : Nat) : Same 8585260 s (writeRecord s n h) := by
  have h0 := Same.refl 8585260 s
  unfold writeRecord
  split
  · rename_i a_1 a_2
    exact Same.refl _ _
  · rename_i a_3 a_4 a_5
    extract_lets +onlyGivenNames x_6
    extract_lets +onlyGivenNames x_7
    have h_8 : Same 8585260 s x_7 := by
      subst x_7
      refine Same.step (emit_same ..) ?_
      exact Same.refl _ _
    clear_value x_7
    extract_lets +onlyGivenNames x_9
    have h_10 : Same 8585260 s x_9 := by
      subst x_9
      refine Same.step (setRing_same ..) ?_
      exact h_8
    clear_value x_9
    extract_lets +onlyGivenNames x_11
    have h_12 : Same 8585260 s x_11 := by
      subst x_11
      refine Same.step (returnRemote_same ..) ?_
      refine Same.step (pmEvent_same ..) ?_
      refine Same.step (dropHandle_same ..) ?_
      exact h_10
    clear_value x_11
    refine Same.ite0 ?_ ?_
    · refine Same.step (reduceDone_same ..) ?_
      exact h_12
    · exact h_12

theorem writeDue_same (b0 : Nat) (b1 : State) (b2 : Nat) : Same 8585260 b1 (writeDue b0 b1 b2) := by
  induction b0 generalizing b1 b2
  · have h_1 := Same.refl 8585260 b1
    unfold writeDue
    exact Same.refl _ _
  · rename_i i_2 i_3
    have h_4 := Same.refl 8585260 b1
    unfold writeDue
    split
    · rename_i a_5 a_6 a_7 a_8
      refine Same.ite0 ?_ ?_
      · refine Same.step (i_3 ..) ?_
        refine Same.step (writeRecord_same ..) ?_
        exact Same.refl _ _
      · exact Same.refl _ _
    · rename_i a_9 a_10
      exact Same.refl _ _

theorem writeOld_same (b0 : Nat) (b1 : State) (b2 : Nat) : Same 8585260 b1 (writeOld b0 b1 b2) := by
  induction b0 generalizing b1 b2
  · have h_1 := Same.refl 8585260 b1
    unfold writeOld
    exact Same.refl _ _
  · rename_i i_2 i_3
    have h_4 := Same.refl 8585260 b1
    unfold writeOld
    split
    · rename_i a_5 a_6 a_7 a_8
      refine Same.ite0 ?_ ?_
      · refine Same.step (i_3 ..) ?_
        refine Same.step (writeRecord_same ..) ?_
        exact Same.refl _ _
      · exact Same.refl _ _
    · rename_i a_9 a_10
      exact Same.refl _ _

theorem execCompletionRecordWrite_same (n : RingId) (ok : Bool) (s : State) : SameO 8585260 s (outSt (execCompletionRecordWrite n ok s)) := by
  have h0 := Same.refl 8585260 s
  unfold execCompletionRecordWrite
  extract_lets +onlyGivenNames x_1
  refine SameO.ite (f := outSt) ?_ ?_
  · refine SameO.out_next ?_
    exact Same.refl _ _
  · extract_lets +onlyGivenNames x_2
    refine SameO.ite (f := outSt) ?_ ?_
    · refine SameO.out_next ?_
      exact Same.refl _ _
    · refine SameO.ite (f := outSt) ?_ ?_
      · refine SameO.out_next ?_
        refine Same.step (haltRing_same ..) ?_
        exact Same.refl _ _
      · refine SameO.ite (f := outSt) ?_ ?_
        · refine SameO.out_next ?_
          refine Same.step (writeDue_same ..) ?_
          exact Same.refl _ _
        · refine SameO.out_next ?_
          refine Same.step (writeOld_same ..) ?_
          exact Same.refl _ _

theorem unfetch_same (s : State) (n : Nat) (q : Nat) : Same 32 s (unfetch s n q) := by
  have h0 := Same.refl 32 s
  unfold unfetch
  extract_lets +onlyGivenNames x_1
  extract_lets +onlyGivenNames x_2
  refine Same.step (setRing_same ..) ?_
  refine Same.step (Same.set_rings ..) ?_
  exact Same.refl _ _

theorem execDescriptorArrive_same (h : Handle) (d : Fetched) (s : State) : SameO 2147483692 s (outSt (execDescriptorArrive h d s)) := by
  have h0 := Same.refl 2147483692 s
  unfold execDescriptorArrive
  split
  · rename_i a_1 a_2
    refine SameO.out_next ?_
    exact Same.refl _ _
  · rename_i a_3 a_4 a_5
    extract_lets +onlyGivenNames x_6
    refine SameO.ite (f := outSt) ?_ ?_
    · refine SameO.out_next ?_
      exact Same.refl _ _
    · split
      · rename_i a_7
        refine SameO.out_next ?_
        refine Same.step (writeShadow_same ..) ?_
        refine Same.step (haltRing_same ..) ?_
        refine Same.step (unfetch_same ..) ?_
        exact Same.refl _ _
      · rename_i a_8
        refine SameO.out_next ?_
        refine Same.step (commit_same ..) ?_
        refine Same.step (setHandle_same ..) ?_
        exact Same.refl _ _
      · rename_i a_9 a_10
        refine SameO.out_next ?_
        refine Same.step (descriptorChecks_same ..) ?_
        exact Same.refl _ _

theorem shadowAfter_same (s : State) (n : Nat) (ok : Bool) : Same 40 s (shadowAfter s n ok) := by
  have h0 := Same.refl 40 s
  unfold shadowAfter
  refine Same.ite0 ?_ ?_
  · refine Same.step (writeShadow_same ..) ?_
    exact Same.refl _ _
  · refine Same.step (haltRing_same ..) ?_
    refine Same.step (writeShadow_same ..) ?_
    exact Same.refl _ _

theorem pauseAll_same (s : State) : Same 40 s (pauseAll s) := by
  have h0 := Same.refl 40 s
  unfold pauseAll
  refine Same.foldl _ ?_ ?_
  · exact Same.refl _ _
  · intro a_1 a_2 a_3
    refine Same.ite0 ?_ ?_
    · refine Same.step (writeShadow_same ..) ?_
      exact a_3
    · exact a_3

theorem execDescriptorFetch_same (ok : Bool) (s : State) : SameO 40 s (outSt (execDescriptorFetch ok s)) := by
  have h0 := Same.refl 40 s
  unfold execDescriptorFetch
  refine SameO.ite (f := outSt) ?_ ?_
  · refine SameO.out_next ?_
    exact Same.refl _ _
  · refine SameO.ite (f := outSt) ?_ ?_
    · refine SameO.out_next ?_
      refine Same.step (pauseAll_same ..) ?_
      exact Same.refl _ _
    · split
      · rename_i a_1 a_2
        refine SameO.out_next ?_
        exact Same.refl _ _
      · rename_i a_3 a_4 a_5
        extract_lets +onlyGivenNames x_6
        extract_lets +onlyGivenNames x_7
        extract_lets +onlyGivenNames x_8
        extract_lets +onlyGivenNames x_9
        have h_10 : Same 40 s x_9 := by
          subst x_9
          refine Same.step (emit_same ..) ?_
          exact Same.refl _ _
        clear_value x_9
        extract_lets +onlyGivenNames x_11
        have h_12 : Same 40 s x_11 := by
          subst x_11
          refine Same.step (setHandle_same ..) ?_
          exact h_10
        clear_value x_11
        extract_lets +onlyGivenNames x_13
        have h_14 : Same 40 s x_13 := by
          subst x_13
          refine Same.step (setRing_same ..) ?_
          exact h_12
        clear_value x_13
        extract_lets +onlyGivenNames x_15
        extract_lets +onlyGivenNames x_16
        have h_17 : Same 40 s x_16 := by
          subst x_16
          refine Same.step (Same.set_rings ..) ?_
          exact h_14
        clear_value x_16
        extract_lets +onlyGivenNames x_18
        have h_19 : Same 40 s x_18 := by
          subst x_18
          refine Same.ite0 ?_ ?_
          · refine Same.step (shadowAfter_same ..) ?_
            exact h_17
          · exact h_17
        clear_value x_18
        refine SameO.out_next ?_
        refine Same.ite0 ?_ ?_
        · refine Same.step (pauseAll_same ..) ?_
          exact h_19
        · exact h_19

theorem execHeldRecordDrop_same (n : RingId) (s : State) : SameO 44 s (outSt (execHeldRecordDrop n s)) := by
  have h0 := Same.refl 44 s
  unfold execHeldRecordDrop
  extract_lets +onlyGivenNames x_1
  split
  · rename_i a_2 a_3
    refine SameO.out_next ?_
    exact Same.refl _ _
  · rename_i a_4 a_5 a_6
    refine SameO.ite (f := outSt) ?_ ?_
    · extract_lets +onlyGivenNames x_7
      have h_8 : Same 44 s x_7 := by
        subst x_7
        refine Same.step (setRing_same ..) ?_
        exact Same.refl _ _
      clear_value x_7
      refine SameO.out_next ?_
      refine Same.step (returnRemote_same ..) ?_
      refine Same.foldl _ ?_ ?_
      · exact h_8
      · intro a_9 a_10 a_11
        refine Same.step (recDrop_same ..) ?_
        refine Same.step (dropHandle_same ..) ?_
        exact a_11
    · refine SameO.out_next ?_
      exact Same.refl _ _

theorem execHostImageReadDone_same (h : HRef) (d : HostRead) (s : State) : SameO 32 s (outSt (execHostImageReadDone h d s)) := by
  have h0 := Same.refl 32 s
  unfold execHostImageReadDone
  split
  · rename_i a_1 a_2
    refine SameO.out_next ?_
    exact Same.refl _ _
  · rename_i a_3 a_4 a_5
    refine SameO.ite (f := outSt) ?_ ?_
    · refine SameO.out_next ?_
      exact Same.refl _ _
    · split
      · rename_i a_6 a_7
        refine SameO.out_next ?_
        refine Same.step (setHandle_same ..) ?_
        exact Same.refl _ _
      · rename_i a_8
        refine SameO.out_next ?_
        refine Same.step (setHandle_same ..) ?_
        exact Same.refl _ _
      · rename_i a_9
        refine SameO.out_next ?_
        refine Same.step (setHandle_same ..) ?_
        exact Same.refl _ _

theorem latchNaming_same (s : State) (h : Nat) (r : HandleRec) (st : Status) (r0 : Word) (r1 : Word) : Same 44 s (latchNaming s h r st r0 r1) := by
  have h0 := Same.refl 44 s
  unfold latchNaming
  extract_lets +onlyGivenNames x_1
  split
  · rename_i a_2 a_3 a_4
    refine Same.ite0 ?_ ?_
    · refine Same.ite0 ?_ ?_
      · exact Same.refl _ _
      · refine Same.step (commit_same ..) ?_
        exact Same.refl _ _
    · refine Same.ite0 ?_ ?_
      · refine Same.step (commit_same ..) ?_
        exact Same.refl _ _
      · extract_lets +onlyGivenNames x_5
        refine Same.step (commit_same ..) ?_
        exact Same.refl _ _
  · rename_i a_6 a_7
    refine Same.ite0 ?_ ?_
    · refine Same.step (commit_same ..) ?_
      exact Same.refl _ _
    · extract_lets +onlyGivenNames x_8
      refine Same.step (commit_same ..) ?_
      exact Same.refl _ _

theorem execLatchSet_same (h : HRef) (ret : Option (Status × Word × Word)) (s : State) : SameO 196780 s (outSt (execLatchSet h ret s)) := by
  have h0 := Same.refl 196780 s
  unfold execLatchSet
  split
  · rename_i a_1 a_2
    refine SameO.out_next ?_
    exact Same.refl _ _
  · rename_i a_3 a_4 a_5
    split
    · rename_i a_6 a_7 a_8 a_9 a_10
      refine SameO.ite (f := outSt) ?_ ?_
      · refine SameO.out_next ?_
        refine Same.step (fillRecord_same ..) ?_
        exact Same.refl _ _
      · refine SameO.ite (f := outSt) ?_ ?_
        · refine SameO.out_next ?_
          refine Same.step (latchNaming_same ..) ?_
          exact Same.refl _ _
        · refine SameO.ite (f := outSt) ?_ ?_
          · refine SameO.out_next ?_
            refine Same.step (bauCommit_same ..) ?_
            exact Same.refl _ _
          · extract_lets +onlyGivenNames x_11
            have h_12 : Same 196780 s x_11 := by
              subst x_11
              refine Same.step (commit_same ..) ?_
              exact Same.refl _ _
            clear_value x_11
            refine SameO.out_next ?_
            refine Same.ite0 ?_ ?_
            · refine Same.step (reduceDone_same ..) ?_
              exact h_12
            · exact h_12
    · rename_i a_13 a_14
      refine SameO.out_next ?_
      exact Same.refl _ _

theorem execNop_same (h : Handle) (s : State) : SameO 44 s (outSt (execNop h s)) := by
  have h0 := Same.refl 44 s
  unfold execNop
  split
  · rename_i a_1 a_2 a_3
    refine SameO.out_next ?_
    refine Same.step (commit_same ..) ?_
    exact Same.refl _ _
  · rename_i a_4 a_5
    refine SameO.out_next ?_
    exact Same.refl _ _

theorem execNotification_same (n : RingId) (s : State) : SameO 44 s (outSt (execNotification n s)) := by
  have h0 := Same.refl 44 s
  unfold execNotification
  extract_lets +onlyGivenNames x_1
  extract_lets +onlyGivenNames x_2
  refine SameO.ite (f := outSt) ?_ ?_
  · extract_lets +onlyGivenNames x_3
    have h_4 : Same 44 s x_3 := by
      subst x_3
      refine Same.step (setRing_same ..) ?_
      exact Same.refl _ _
    clear_value x_3
    refine SameO.ite (f := outSt) ?_ ?_
    · refine SameO.out_next ?_
      refine Same.step (msix_same ..) ?_
      exact h_4
    · refine SameO.ite (f := outSt) ?_ ?_
      · refine SameO.out_next ?_
        refine Same.step (emit_same ..) ?_
        exact h_4
      · refine SameO.out_next ?_
        refine Same.step (emit_same ..) ?_
        exact h_4
  · refine SameO.out_next ?_
    exact Same.refl _ _

theorem execQueryHandle_same (h : Handle) (s : State) : SameO 44 s (outSt (execQueryHandle h s)) := by
  have h0 := Same.refl 44 s
  unfold execQueryHandle
  split
  · rename_i a_1 a_2
    refine SameO.out_next ?_
    exact Same.refl _ _
  · rename_i a_3 a_4 a_5
    extract_lets +onlyGivenNames x_6
    refine SameO.ite (f := outSt) ?_ ?_
    · split
      · rename_i a_7 a_8 a_9
        refine SameO.out_next ?_
        refine Same.step (sendNaming_same ..) ?_
        exact Same.refl _ _
      · rename_i a_10 a_11
        extract_lets +onlyGivenNames x_12
        refine SameO.out_next ?_
        refine Same.step (commit_same ..) ?_
        exact Same.refl _ _
    · refine SameO.out_next ?_
      refine Same.step (commit_same ..) ?_
      exact Same.refl _ _

theorem execResume_same (n : RingId) (s : State) : SameO 8585260 s (outSt (execResume n s)) := by
  have h0 := Same.refl 8585260 s
  unfold execResume
  extract_lets +onlyGivenNames x_1
  refine SameO.ite (f := outSt) ?_ ?_
  · refine SameO.out_next ?_
    refine Same.step (writeDue_same ..) ?_
    refine Same.step (setRing_same ..) ?_
    exact Same.refl _ _
  · refine SameO.out_next ?_
    exact Same.refl _ _

theorem execRingDisable_same (n : RingId) (s : State) : SameO 44 s (outSt (execRingDisable n s)) := by
  have h0 := Same.refl 44 s
  unfold execRingDisable
  extract_lets +onlyGivenNames x_1
  split
  · rename_i a_2 a_3
    refine SameO.out_next ?_
    refine Same.step (writeShadow_same ..) ?_
    refine Same.step (setRing_same ..) ?_
    exact Same.refl _ _
  · rename_i a_4 a_5
    extract_lets +onlyGivenNames x_6
    have h_7 : Same 44 s x_6 := by
      subst x_6
      refine Same.step (setRing_same ..) ?_
      exact Same.refl _ _
    clear_value x_6
    refine SameO.out_next ?_
    refine Same.step (returnRemote_same ..) ?_
    refine Same.foldl _ ?_ ?_
    · exact h_7
    · intro a_8 a_9 a_10
      refine Same.ite0 ?_ ?_
      · exact a_10
      · refine Same.step (recDrop_same ..) ?_
        refine Same.step (dropHandle_same ..) ?_
        exact a_10
  · rename_i a_11 a_12 a_13
    refine SameO.out_next ?_
    exact Same.refl _ _

theorem execRingDrained_same (n : RingId) (s : State) : SameO 32 s (outSt (execRingDrained n s)) := by
  have h0 := Same.refl 32 s
  unfold execRingDrained
  extract_lets +onlyGivenNames x_1
  refine SameO.ite (f := outSt) ?_ ?_
  · refine SameO.out_next ?_
    refine Same.step (setRing_same ..) ?_
    exact Same.refl _ _
  · refine SameO.out_next ?_
    exact Same.refl _ _

theorem execRingEnable_same (n : RingId) (s : State) : SameO 8585260 s (outSt (execRingEnable n s)) := by
  have h0 := Same.refl 8585260 s
  unfold execRingEnable
  extract_lets +onlyGivenNames x_1
  refine SameO.ite (f := outSt) ?_ ?_
  · refine SameO.out_next ?_
    exact Same.refl _ _
  · refine SameO.ite (f := outSt) ?_ ?_
    · extract_lets +onlyGivenNames x_2
      have h_3 : Same 8585260 s x_2 := by
        subst x_2
        refine Same.step (setRing_same ..) ?_
        exact Same.refl _ _
      clear_value x_2
      refine SameO.out_next ?_
      refine Same.step (writeOld_same ..) ?_
      exact h_3
    · refine SameO.out_next ?_
      refine Same.step (setBit_same ..) ?_
      exact Same.refl _ _

end Sys2Proof.Machine
end

