-- ==== Sys2Proof/Laws/KeepOrder.lean ====
section
/-! SUPPORT. What each operation of Machine/Order.lean leaves alone: the parts it may write, as a number, and all else kept. -/

set_option linter.unusedVariables false

namespace Sys2Proof.Machine

set_option Elab.async false

theorem noticeCtx_same (s : State) (p : Nat) (home : Nat) (bulk : Bool) : Same 524292 s (noticeCtx s p home bulk).1 := by
  have h0 := Same.refl 524292 s
  unfold noticeCtx
  split
  · rename_i a_1 a_2 a_3
    refine Same.pair1 ?_
    exact Same.refl _ _
  · rename_i a_4 a_5
    extract_lets +onlyGivenNames x_6
    extract_lets +onlyGivenNames x_7
    clear_value x_7
    split
    · rename_i a_8
      refine Same.pair1 ?_
      refine Same.step (Same.set_cong ..) ?_
      exact Same.refl _ _
    · rename_i a_9 a_10 a_11
      refine Same.ite (f := Prod.fst) ?_ ?_
      · refine Same.pair1 ?_
        refine Same.step (Same.set_cong ..) ?_
        exact Same.refl _ _
      · extract_lets +onlyGivenNames x_12
        refine Same.pair1 ?_
        refine Same.step (bump_same ..) ?_
        refine Same.step (Same.set_cong ..) ?_
        exact Same.refl _ _

theorem notice_same (s : State) (p : Nat) (home : Nat) (bulk : Bool) : Same 524292 s (notice s p home bulk) := by
  have h0 := Same.refl 524292 s
  unfold notice
  split
  · rename_i a_1 a_2 a_3 a_4
    have h_5 : Same 524292 s a_2 := by
      refine Same.of1 ?_ a_4
      refine Same.step (noticeCtx_same ..) ?_
      exact Same.refl _ _
    extract_lets +onlyGivenNames x_6
    have h_7 : Same 524292 s x_6 := by
      subst x_6
      refine Same.step (bump_same ..) ?_
      exact h_5
    clear_value x_6
    extract_lets +onlyGivenNames x_8
    extract_lets +onlyGivenNames x_9
    refine Same.ite0 ?_ ?_
    · extract_lets +onlyGivenNames x_10
      refine Same.step (bump_same ..) ?_
      refine Same.step (setThrottle_same ..) ?_
      exact h_7
    · refine Same.step (setThrottle_same ..) ?_
      exact h_7

theorem cxlInstalled_same (s : State) (d : Done) : Same 128 s (cxlInstalled s d) := by
  have h0 := Same.refl 128 s
  unfold cxlInstalled
  refine Same.ite0 ?_ ?_
  · split
    · rename_i a_1 a_2 a_3 a_4
      refine Same.step (endTrans_same ..) ?_
      refine Same.step (setTrans_same ..) ?_
      exact Same.refl _ _
    · rename_i a_5 a_6
      exact Same.refl _ _
  · exact Same.refl _ _

theorem dropOut_same (s : State) (o : Out) (echo : Bool) : Same 524548 s (dropOut s o echo) := by
  have h0 := Same.refl 524548 s
  unfold dropOut
  extract_lets +onlyGivenNames x_1
  extract_lets +onlyGivenNames x_2
  have h_3 : Same 524548 s x_2 := by
    subst x_2
    refine Same.step (Same.set_ord ..) ?_
    exact Same.refl _ _
  clear_value x_2
  refine Same.ite0 ?_ ?_
  · refine Same.step (notice_same ..) ?_
    exact h_3
  · exact h_3

theorem dropWbs_same (s : State) (port : Nat) (src : Endpoint) (tag : Nat) : Same 256 s (dropWbs s port src tag) := by
  have h0 := Same.refl 256 s
  unfold dropWbs
  refine Same.step (Same.set_ord ..) ?_
  exact Same.refl _ _

theorem echoOut_same (s : State) (d : Done) : Same 4 s (echoOut s d).2 := by
  have h0 := Same.refl 4 s
  unfold echoOut
  split
  · rename_i a_1 a_2 a_3
    split
    · rename_i a_4 a_5 a_6 a_7
      have h_8 : Same 4 s a_6 := by
        refine Same.of2 ?_ a_7
        refine Same.step (echoAt_same ..) ?_
        exact Same.refl _ _
      refine Same.pair2 ?_
      exact h_8
  · rename_i a_9 a_10
    refine Same.pair2 ?_
    exact Same.refl _ _

theorem releaseHeld_same (s : State) (src : Endpoint) (tag : Nat) : Same 656268 s (releaseHeld s src tag) := by
  have h0 := Same.refl 656268 s
  unfold releaseHeld
  split
  · rename_i a_1 a_2 a_3
    refine Same.ite0 ?_ ?_
    · exact Same.refl _ _
    · refine Same.step (tryRelease_same ..) ?_
      exact Same.refl _ _
  · rename_i a_4 a_5
    exact Same.refl _ _

theorem execAtomicWindowRelease_same (src : Endpoint) (tag : BitVec 14) (s : State) : SameO 656268 s (outSt (execAtomicWindowRelease src tag s)) := by
  have h0 := Same.refl 656268 s
  unfold execAtomicWindowRelease
  refine SameO.out_next ?_
  refine Same.step (releaseHeld_same ..) ?_
  exact Same.refl _ _

theorem execAtomretire_same (p : PortId) (src : Endpoint) (key : Key) (home : BitVec 12) (rseq : BitVec 16) (s : State) : SameO 1180172 s (outSt (execAtomretire p src key home rseq s)) := by
  have h0 := Same.refl 1180172 s
  unfold execAtomretire
  extract_lets +onlyGivenNames x_1
  have h_2 : Same 1180172 s x_1 := by
    subst x_1
    refine Same.step (creditBack_same ..) ?_
    exact Same.refl _ _
  clear_value x_1
  refine SameO.ite (f := outSt) ?_ ?_
  · refine SameO.out_next ?_
    refine Same.step (keyDrop_same ..) ?_
    exact h_2
  · extract_lets +onlyGivenNames x_3
    have h_4 : Same 1180172 s x_3 := by
      subst x_3
      refine Same.ite0 ?_ ?_
      · refine Same.step (retireWindow_same ..) ?_
        exact h_2
      · exact h_2
    clear_value x_3
    refine SameO.ite (f := outSt) ?_ ?_
    · refine SameO.out_next ?_
      refine Same.step (advanceRseq_same ..) ?_
      exact h_4
    · refine SameO.out_next ?_
      refine Same.step (sendFlow_same ..) ?_
      exact h_4

theorem releaseBiAcks_same (s : State) : Same 136 s (releaseBiAcks s) := by
  have h0 := Same.refl 136 s
  unfold releaseBiAcks
  refine Same.foldl _ ?_ ?_
  · exact Same.refl _ _
  · intro a_1 a_2 a_3
    refine Same.ite0 ?_ ?_
    · exact a_3
    · refine Same.step (emit_same ..) ?_
      refine Same.step (Same.set_coh ..) ?_
      exact a_3

theorem execDoorbell_same (via : Option PortId) (key : Key) (word : Word) (s : State) : SameO 1048876 s (outSt (execDoorbell via key word s)) := by
  have h0 := Same.refl 1048876 s
  unfold execDoorbell
  split
  · rename_i a_1
    refine SameO.out_next ?_
    refine Same.step (doorbell_same ..) ?_
    exact Same.refl _ _
  · rename_i a_2 a_3
    extract_lets +onlyGivenNames x_4
    have h_5 : Same 1048876 s x_4 := by
      subst x_4
      refine Same.step (creditBack_same ..) ?_
      exact Same.refl _ _
    clear_value x_4
    refine SameO.ite (f := outSt) ?_ ?_
    · refine SameO.out_next ?_
      refine Same.step (dbDrop_same ..) ?_
      exact h_5
    · refine SameO.ite (f := outSt) ?_ ?_
      · refine SameO.ite (f := outSt) ?_ ?_
        · refine SameO.out_next ?_
          refine Same.step (dbDrop_same ..) ?_
          exact h_5
        · refine SameO.out_next ?_
          refine Same.step (doorbell_same ..) ?_
          exact h_5
      · extract_lets +onlyGivenNames x_6
        extract_lets +onlyGivenNames x_7
        extract_lets +onlyGivenNames x_8
        have h_9 : Same 1048876 s x_8 := by
          subst x_8
          refine Same.step (Same.set_ord ..) ?_
          exact h_5
        clear_value x_8
        refine SameO.ite (f := outSt) ?_ ?_
        · refine SameO.out_next ?_
          refine Same.step (Same.set_rings ..) ?_
          exact h_9
        · refine SameO.out_next ?_
          refine Same.step (doorbell_same ..) ?_
          exact h_9

theorem releaseFences_same (s : State) : Same 264 s (releaseFences s) := by
  have h0 := Same.refl 264 s
  unfold releaseFences
  refine Same.foldl _ ?_ ?_
  · exact Same.refl _ _
  · intro a_1 a_2 a_3
    refine Same.ite0 ?_ ?_
    · extract_lets +onlyGivenNames x_4
      extract_lets +onlyGivenNames x_5
      have h_6 : Same 264 s x_5 := by
        subst x_5
        refine Same.step (Same.set_ord ..) ?_
        exact a_3
      clear_value x_5
      refine Same.ite0 ?_ ?_
      · refine Same.step (emit_same ..) ?_
        exact h_6
      · exact h_6
    · exact a_3

theorem fenceArrive_same (s : State) (p : Nat) (src : Endpoint) (k : FenceKind) : Same 264 s (fenceArrive s p src k) := by
  have h0 := Same.refl 264 s
  unfold fenceArrive
  refine Same.ite0 ?_ ?_
  · extract_lets +onlyGivenNames x_1
    refine Same.step (releaseFences_same ..) ?_
    refine Same.step (Same.set_ord ..) ?_
    exact Same.refl _ _
  · exact Same.refl _ _

theorem execFenceall_same (p : PortId) (src : Endpoint) (s : State) : SameO 264 s (outSt (execFenceall p src s)) := by
  have h0 := Same.refl 264 s
  unfold execFenceall
  refine SameO.out_next ?_
  refine Same.step (fenceArrive_same ..) ?_
  exact Same.refl _ _

theorem execFencesync_same (p : PortId) (src : Endpoint) (s : State) : SameO 264 s (outSt (execFencesync p src s)) := by
  have h0 := Same.refl 264 s
  unfold execFencesync
  refine SameO.out_next ?_
  refine Same.step (fenceArrive_same ..) ?_
  exact Same.refl _ _

theorem execFencewr_same (p : PortId) (src : Endpoint) (s : State) : SameO 264 s (outSt (execFencewr p src s)) := by
  have h0 := Same.refl 264 s
  unfold execFencewr
  refine SameO.out_next ?_
  refine Same.step (fenceArrive_same ..) ?_
  exact Same.refl _ _

theorem execHeldRequestRelease_same (src : Endpoint) (tag : BitVec 14) (s : State) : SameO 656268 s (outSt (execHeldRequestRelease src tag s)) := by
  have h0 := Same.refl 656268 s
  unfold execHeldRequestRelease
  refine SameO.out_next ?_
  refine Same.step (releaseHeld_same ..) ?_
  exact Same.refl _ _

theorem releaseDoorbells_same (s : State) : Same 44 s (releaseDoorbells s) := by
  have h0 := Same.refl 44 s
  unfold releaseDoorbells
  refine Same.foldl _ ?_ ?_
  · exact Same.refl _ _
  · intro a_1 a_2 a_3
    refine Same.ite0 ?_ ?_
    · exact a_3
    · refine Same.step (doorbell_same ..) ?_
      refine Same.step (Same.set_rings ..) ?_
      exact a_3

theorem snoopsAfter_same (s : State) (d : Done) : Same 131212 s (snoopsAfter s d) := by
  have h0 := Same.refl 131212 s
  unfold snoopsAfter
  refine Same.foldl _ ?_ ?_
  · exact Same.refl _ _
  · intro a_1 a_2 a_3
    refine Same.step (sendSnoops_same ..) ?_
    exact a_3

theorem sendDone_same (s : State) (d : Done) : Same 131084 s (sendDone s d) := by
  have h0 := Same.refl 131084 s
  unfold sendDone
  split
  · rename_i a_1 a_2 a_3 a_4
    have h_5 : Same 131084 s a_3 := by
      refine Same.of2 ?_ a_4
      refine Same.step (echoOut_same ..) ?_
      exact Same.refl _ _
    extract_lets +onlyGivenNames x_6
    split
    · rename_i a_7 a_8
      refine Same.step (sendTc7_same ..) ?_
      exact h_5
    · rename_i a_9 a_10
      extract_lets +onlyGivenNames x_11
      extract_lets +onlyGivenNames x_12
      subst x_12
      dsimp -zeta -zetaHave only
      refine Same.ite0 ?_ ?_
      · refine Same.step (sendTc7_same ..) ?_
        exact h_5
      · refine Same.step (emit_same ..) ?_
        exact h_5

theorem retire_same (s : State) (d : Done) : Same 2199023911340 s (retire s d) := by
  have h0 := Same.refl 2199023911340 s
  unfold retire
  extract_lets +onlyGivenNames x_1
  extract_lets +onlyGivenNames x_2
  have h_3 : Same 2199023911340 s x_2 := by
    subst x_2
    refine Same.step (Same.set_coh ..) ?_
    exact Same.refl _ _
  clear_value x_2
  extract_lets +onlyGivenNames x_4
  have h_5 : Same 2199023911340 s x_4 := by
    subst x_4
    refine Same.step (dropFlight_same ..) ?_
    exact h_3
  clear_value x_4
  extract_lets +onlyGivenNames x_6
  have h_7 : Same 2199023911340 s x_6 := by
    subst x_6
    refine Same.ite0 ?_ ?_
    · refine Same.step (sendDone_same ..) ?_
      refine Same.step (dropWbs_same ..) ?_
      exact h_3
    · split
      · rename_i a_8 a_9 a_10
        refine Same.step (sendDone_same ..) ?_
        refine Same.step (dropOut_same ..) ?_
        exact h_5
      · rename_i a_11 a_12
        refine Same.ite0 ?_ ?_
        · exact h_5
        · refine Same.step (sendDone_same ..) ?_
          exact h_5
  clear_value x_6
  refine Same.step (releaseBiAcks_same ..) ?_
  refine Same.step (releaseDoorbells_same ..) ?_
  refine Same.step (releaseFences_same ..) ?_
  refine Same.step (cxlInstalled_same ..) ?_
  refine Same.step (snoopsAfter_same ..) ?_
  exact h_7

theorem execRequestRetire_same (src : Endpoint) (tag : BitVec 14) (s : State) : SameO 2199023911340 s (outSt (execRequestRetire src tag s)) := by
  have h0 := Same.refl 2199023911340 s
  unfold execRequestRetire
  refine SameO.ite (f := outSt) ?_ ?_
  · refine SameO.out_next ?_
    exact Same.refl _ _
  · split
    · rename_i a_1 a_2 a_3
      refine SameO.out_next ?_
      refine Same.step (retire_same ..) ?_
      exact Same.refl _ _
    · rename_i a_4 a_5
      refine SameO.out_next ?_
      exact Same.refl _ _

theorem execThrottleIncreaseTick_same (s : State) : SameO 524288 s (outSt (execThrottleIncreaseTick s)) := by
  have h0 := Same.refl 524288 s
  unfold execThrottleIncreaseTick
  extract_lets +onlyGivenNames x_1
  refine SameO.ite (f := outSt) ?_ ?_
  · refine SameO.out_next ?_
    exact Same.refl _ _
  · extract_lets +onlyGivenNames x_2
    refine SameO.out_next ?_
    refine Same.step (Same.set_cong ..) ?_
    exact Same.refl _ _

theorem execThrottleRelease_same (src : Endpoint) (tag : BitVec 14) (s : State) : SameO 656268 s (outSt (execThrottleRelease src tag s)) := by
  have h0 := Same.refl 656268 s
  unfold execThrottleRelease
  split
  · rename_i a_1 a_2
    refine SameO.out_next ?_
    exact Same.refl _ _
  · rename_i a_3 a_4 a_5
    refine SameO.ite (f := outSt) ?_ ?_
    · split
      · rename_i a_6 a_7 a_8
        have h_9 : Same 656268 s a_7 := by
          refine SameO.some ?_ a_8
          refine SameO.pass (meter_same ..) ?_
          exact Same.refl _ _
        refine SameO.out_next ?_
        refine Same.step (tryRelease_same ..) ?_
        refine Same.step (setOut_same ..) ?_
        exact h_9
      · rename_i a_10 a_11
        refine SameO.out_next ?_
        exact Same.refl _ _
    · refine SameO.out_next ?_
      exact Same.refl _ _

theorem retireAway_same (s : State) (port : Nat) (m : CmpMsg) : Same 524588 s (retireAway s port m).1 := by
  have h0 := Same.refl 524588 s
  unfold retireAway
  refine Same.ite (f := Prod.fst) ?_ ?_
  · refine Same.pair1 ?_
    refine Same.step (releaseFences_same ..) ?_
    refine Same.step (dropWbs_same ..) ?_
    exact Same.refl _ _
  · split
    · rename_i a_1 a_2 a_3
      refine Same.pair1 ?_
      refine Same.step (releaseDoorbells_same ..) ?_
      refine Same.step (releaseFences_same ..) ?_
      refine Same.step (dropOut_same ..) ?_
      exact Same.refl _ _
    · rename_i a_4 a_5
      refine Same.pair1 ?_
      exact Same.refl _ _

end Sys2Proof.Machine
end

