-- ==== Sys2Proof/Laws/KeepTrestle.lean ====
section
/-! SUPPORT. What each operation of Machine/Trestle.lean leaves alone: the parts it may write, as a number, and all else kept. -/

set_option linter.unusedVariables false

namespace Sys2Proof.Machine

set_option Elab.async false

theorem unitAck_same (s : State) (src : Endpoint) (line : Nat) : Same 128 s (unitAck s src line) := by
  have h0 := Same.refl 128 s
  unfold unitAck
  split
  · rename_i a_1 a_2 a_3
    refine Same.ite0 ?_ ?_
    · refine Same.step (endTrans_same ..) ?_
      refine Same.step (setTrans_same ..) ?_
      exact Same.refl _ _
    · exact Same.refl _ _
  · rename_i a_4 a_5
    exact Same.refl _ _

theorem setUnit_same (s : State) (u : Nat) (x : TUnitSt) : Same 32768 s (setUnit s u x) := by
  have h0 := Same.refl 32768 s
  unfold setUnit
  refine Same.step (Same.set_trs ..) ?_
  exact Same.refl _ _

theorem cacheLine_same (s : State) (u : Nat) (key : Key) (line : Nat) (d : Line × Bool) : Same 32768 s (cacheLine s u key line d) := by
  have h0 := Same.refl 32768 s
  unfold cacheLine
  refine Same.ite0 ?_ ?_
  · refine Same.step (setUnit_same ..) ?_
    exact Same.refl _ _
  · exact Same.refl _ _

theorem retireAseq_same (s : State) (a : TAtom) : Same 32768 s (retireAseq s a) := by
  have h0 := Same.refl 32768 s
  unfold retireAseq
  extract_lets +onlyGivenNames x_1
  extract_lets +onlyGivenNames x_2
  refine Same.step (setUnit_same ..) ?_
  exact Same.refl _ _

theorem takeResp_same (s : State) (u : Nat) (x : Gang) (q : TReq) (v : TResp) : Same 32768 s (takeResp s u x q v).1 := by
  have h0 := Same.refl 32768 s
  unfold takeResp
  extract_lets +onlyGivenNames x_1
  split
  · rename_i a_2 a_3 a_4 a_5
    have h_6 : Same 32768 s a_3 := by
      refine Same.of1 ?_ a_5
      split
      · rename_i a_7 a_8 a_9
        refine Same.pair1 ?_
        refine Same.step (retireAseq_same ..) ?_
        exact Same.refl _ _
      · rename_i a_10 a_11
        refine Same.pair1 ?_
        exact Same.refl _ _
    refine Same.ite (f := Prod.fst) ?_ ?_
    · refine Same.pair1 ?_
      exact h_6
    · refine Same.ite (f := Prod.fst) ?_ ?_
      · refine Same.pair1 ?_
        exact h_6
      · extract_lets +onlyGivenNames x_12
        have h_13 : Same 32768 s x_12 := by
          subst x_12
          refine Same.ite0 ?_ ?_
          · refine Same.step (cacheLine_same ..) ?_
            exact h_6
          · exact h_6
        clear_value x_12
        extract_lets +onlyGivenNames x_14
        extract_lets +onlyGivenNames x_15
        refine Same.pair1 ?_
        exact h_13

theorem takeLocal_same (s : State) (u : Nat) (x : Gang) (b3 : List TReq) (b4 : Option (Status × Nat)) : Same 2199023812740 s (takeLocal s u x b3 b4).1 := by
  induction b3 generalizing s u x b4
  · have h_1 := Same.refl 2199023812740 s
    unfold takeLocal
    refine Same.pair1 ?_
    exact Same.refl _ _
  · rename_i i_2 i_3 i_4
    have h_5 := Same.refl 2199023812740 s
    unfold takeLocal
    extract_lets +onlyGivenNames x_6
    split
    · rename_i a_7 a_8
      refine Same.step (i_4 ..) ?_
      exact Same.refl _ _
    · rename_i a_9 a_10 a_11
      extract_lets +onlyGivenNames x_12
      extract_lets +onlyGivenNames x_13
      have h_14 : Same 2199023812740 s x_13 := by
        subst x_13
        refine Same.step (dropFlight_same ..) ?_
        refine Same.step (Same.set_coh ..) ?_
        exact Same.refl _ _
      clear_value x_13
      extract_lets +onlyGivenNames x_15
      have h_16 : Same 2199023812740 s x_15 := by
        subst x_15
        refine Same.ite0 ?_ ?_
        · refine Same.step (notice_same ..) ?_
          exact h_14
        · exact h_14
      clear_value x_15
      extract_lets +onlyGivenNames x_17
      have h_18 : Same 2199023812740 s x_17 := by
        subst x_17
        refine Same.step (unitAck_same ..) ?_
        exact h_16
      clear_value x_17
      split
      · rename_i a_19 a_20 a_21 a_22 a_23
        have h_24 : Same 2199023812740 s a_20 := by
          refine Same.of1 ?_ a_23
          refine Same.step (takeResp_same ..) ?_
          exact h_18
        refine Same.step (i_4 ..) ?_
        exact h_24

theorem takeRemote_same (s : State) (u : Nat) (x : Gang) (b3 : List (TReq × TResp)) (b4 : Option (Status × Nat)) : Same 32768 s (takeRemote s u x b3 b4).1 := by
  induction b3 generalizing s u x b4
  · have h_1 := Same.refl 32768 s
    unfold takeRemote
    refine Same.pair1 ?_
    exact Same.refl _ _
  · rename_i i_2 i_3 i_4
    have h_5 := Same.refl 32768 s
    unfold takeRemote
    split
    · rename_i a_6 a_7 a_8 a_9 a_10
      have h_11 : Same 32768 s a_7 := by
        refine Same.of1 ?_ a_10
        refine Same.step (takeResp_same ..) ?_
        exact Same.refl _ _
      refine Same.step (i_4 ..) ?_
      exact h_11

theorem arrive_same (s : State) (u : Nat) (x : Gang) (r : GangData) : Same 2199023812740 s (arrive s u x r).1 := by
  have h0 := Same.refl 2199023812740 s
  unfold arrive
  split
  · rename_i a_1 a_2 a_3 a_4 a_5
    have h_6 : Same 2199023812740 s a_2 := by
      refine Same.of1 ?_ a_5
      refine Same.step (takeLocal_same ..) ?_
      exact Same.refl _ _
    extract_lets +onlyGivenNames x_7
    split
    · rename_i a_8 a_9 a_10 a_11 a_12
      have h_13 : Same 2199023812740 s a_9 := by
        refine Same.of1 ?_ a_12
        refine Same.step (takeRemote_same ..) ?_
        exact h_6
      refine Same.pair1 ?_
      exact h_13

theorem unitSend_same (s : State) (u : Nat) (key : Key) (q : Req) : Same 37417755741068 s (unitSend s u key q) := by
  have h0 := Same.refl 37417755741068 s
  unfold unitSend
  extract_lets +onlyGivenNames x_1
  extract_lets +onlyGivenNames x_2
  extract_lets +onlyGivenNames x_3
  have h_4 : Same 37417755741068 s x_3 := by
    subst x_3
    refine Same.step (bump_same ..) ?_
    exact Same.refl _ _
  clear_value x_3
  refine Same.step (pastKey_same ..) ?_
  refine Same.step (Same.set_ord ..) ?_
  exact h_4

theorem sendStore_same (s : State) (u : Nat) (x : Gang) (e : TStore) (tag : Nat) : Same 37417755773836 s (sendStore s u x e tag).1 := by
  have h0 := Same.refl 37417755773836 s
  unfold sendStore
  extract_lets +onlyGivenNames x_1
  extract_lets +onlyGivenNames x_2
  have h_3 : Same 37417755773836 s x_2 := by
    subst x_2
    refine Same.step (unitSend_same ..) ?_
    exact Same.refl _ _
  clear_value x_2
  extract_lets +onlyGivenNames x_4
  extract_lets +onlyGivenNames x_5
  have h_6 : Same 37417755773836 s x_5 := by
    subst x_5
    refine Same.step (setUnit_same ..) ?_
    exact h_3
  clear_value x_5
  refine Same.pair1 ?_
  exact h_6

theorem sendStores_same (s : State) (u : Nat) (x : Gang) (b3 : List (TStore × Nat)) : Same 37417755773836 s (sendStores s u x b3).1 := by
  induction b3 generalizing s u x
  · have h_1 := Same.refl 37417755773836 s
    unfold sendStores
    refine Same.pair1 ?_
    exact Same.refl _ _
  · rename_i i_2 i_3 i_4
    have h_5 := Same.refl 37417755773836 s
    unfold sendStores
    split
    · rename_i a_6 a_7 a_8 a_9
      have h_10 : Same 37417755773836 s a_7 := by
        refine Same.of1 ?_ a_9
        refine Same.step (sendStore_same ..) ?_
        exact Same.refl _ _
      refine Same.step (i_4 ..) ?_
      exact h_10

theorem modLaunch_same (s : State) (h : Nat) (f : TLaunch → TLaunch) : Same 32768 s (modLaunch s h f) := by
  have h0 := Same.refl 32768 s
  unfold modLaunch
  refine Same.step (Same.set_trs ..) ?_
  exact Same.refl _ _

theorem rerunDone_same (s : State) (u : Nat) : Same 10485804 s (rerunDone s u) := by
  have h0 := Same.refl 10485804 s
  unfold rerunDone
  refine Same.ite0 ?_ ?_
  · exact Same.refl _ _
  · refine Same.step (logEvent_same ..) ?_
    exact Same.refl _ _

theorem setGang_same (s : State) (u : Nat) (g : Nat) (x : Gang) : Same 32768 s (setGang s u g x) := by
  have h0 := Same.refl 32768 s
  unfold setGang
  refine Same.step (setUnit_same ..) ?_
  exact Same.refl _ _

theorem boundary_same (s : State) (u : Nat) (g : Nat) (x : Gang) : SameO 37417766259628 s (fstSt (boundary s u g x)) := by
  have h0 := Same.refl 37417766259628 s
  unfold boundary
  extract_lets +onlyGivenNames x_1
  split
  · rename_i a_2 a_3
    exact SameO.fst_none
  · rename_i a_4 a_5 a_6
    split
    · rename_i a_7 a_8 a_9 a_10
      have h_11 : Same 37417766259628 s a_8 := by
        refine Same.of1 ?_ a_10
        refine Same.step (sendStores_same ..) ?_
        exact Same.refl _ _
      extract_lets +onlyGivenNames x_12
      extract_lets +onlyGivenNames x_13
      extract_lets +onlyGivenNames x_14
      have h_15 : Same 37417766259628 s x_14 := by
        subst x_14
        refine Same.foldl _ ?_ ?_
        · exact h_11
        · intro a_16 a_17 a_18
          refine Same.step (retireAseq_same ..) ?_
          exact a_18
      clear_value x_14
      extract_lets +onlyGivenNames x_19
      have h_20 : Same 37417766259628 s x_19 := by
        subst x_19
        refine Same.step (modLaunch_same ..) ?_
        refine Same.step (bump_same ..) ?_
        exact h_15
      clear_value x_19
      extract_lets +onlyGivenNames x_21
      extract_lets +onlyGivenNames x_22
      extract_lets +onlyGivenNames x_23
      have h_24 : Same 37417766259628 s x_23 := by
        subst x_23
        refine Same.ite0 ?_ ?_
        · refine Same.step (rerunDone_same ..) ?_
          refine Same.step (setGang_same ..) ?_
          exact h_20
        · exact h_20
      clear_value x_23
      refine SameO.fst_some ?_
      exact h_24

theorem settleGang_same (s : State) (u : Nat) (g : Nat) : Same 32768 s (settleGang s u g) := by
  have h0 := Same.refl 32768 s
  unfold settleGang
  split
  · rename_i a_1 a_2 a_3
    refine Same.ite0 ?_ ?_
    · refine Same.step (setUnit_same ..) ?_
      exact Same.refl _ _
    · exact Same.refl _ _
  · rename_i a_4 a_5
    exact Same.refl _ _

theorem keepGang_same (s : State) (u : Nat) (g : Nat) (x : Gang) : Same 32768 s (keepGang s u g x) := by
  have h0 := Same.refl 32768 s
  unfold keepGang
  refine Same.step (settleGang_same ..) ?_
  refine Same.step (setGang_same ..) ?_
  exact Same.refl _ _

theorem stopGang_same (s : State) (x : Gang) : Same 32768 s (stopGang s x).1 := by
  have h0 := Same.refl 32768 s
  unfold stopGang
  extract_lets +onlyGivenNames x_1
  extract_lets +onlyGivenNames x_2
  refine Same.pair1 ?_
  refine Same.foldl _ ?_ ?_
  · exact Same.refl _ _
  · intro a_3 a_4 a_5
    refine Same.step (retireAseq_same ..) ?_
    exact a_5

theorem gangFault_same (s : State) (u : Nat) (g : Nat) (x : Gang) (st : Status) (idx : Nat) : Same 32772 s (gangFault s u g x st idx) := by
  have h0 := Same.refl 32772 s
  unfold gangFault
  split
  · rename_i a_1 a_2 a_3 a_4
    have h_5 : Same 32772 s a_2 := by
      refine Same.of1 ?_ a_4
      refine Same.step (stopGang_same ..) ?_
      exact Same.refl _ _
    extract_lets +onlyGivenNames x_6
    have h_7 : Same 32772 s x_6 := by
      subst x_6
      refine Same.step (bump_same ..) ?_
      exact h_5
    clear_value x_6
    extract_lets +onlyGivenNames x_8
    have h_9 : Same 32772 s x_8 := by
      subst x_8
      refine Same.step (modLaunch_same ..) ?_
      exact h_7
    clear_value x_8
    refine Same.step (keepGang_same ..) ?_
    exact h_9

theorem dropUnitCopies_same (s : State) (line : Nat) : Same 32768 s (dropUnitCopies s line) := by
  have h0 := Same.refl 32768 s
  unfold dropUnitCopies
  extract_lets +onlyGivenNames x_1
  refine Same.step (Same.set_trs ..) ?_
  exact Same.refl _ _

theorem endGang_same (s : State) (u : Nat) (g : Nat) (x : Gang) : Same 32804 s (endGang s u g x) := by
  have h0 := Same.refl 32804 s
  unfold endGang
  extract_lets +onlyGivenNames x_1
  have h_2 : Same 32804 s x_1 := by
    subst x_1
    refine Same.step (modLaunch_same ..) ?_
    refine Same.step (bump_same ..) ?_
    exact Same.refl _ _
  clear_value x_1
  extract_lets +onlyGivenNames x_3
  have h_4 : Same 32804 s x_3 := by
    subst x_3
    refine Same.step (setProgress_same ..) ?_
    exact h_2
  clear_value x_3
  refine Same.step (keepGang_same ..) ?_
  exact h_4

theorem setLaunch_same (s : State) (h : Nat) (l : TLaunch) : Same 32768 s (setLaunch s h l) := by
  have h0 := Same.refl 32768 s
  unfold setLaunch
  refine Same.step (Same.set_trs ..) ?_
  exact Same.refl _ _

theorem sendReads_same (s : State) (u : Nat) (x : Gang) (cached : Bool) (op : Option Nat) (b5 : List (Nat × Nat)) : Same 37417755741068 s (sendReads s u x cached op b5).1 := by
  induction b5 generalizing s u x cached op
  · have h_1 := Same.refl 37417755741068 s
    unfold sendReads
    refine Same.pair1 ?_
    exact Same.refl _ _
  · rename_i i_2 i_3 i_4
    have h_5 := Same.refl 37417755741068 s
    unfold sendReads
    extract_lets +onlyGivenNames x_6
    have h_7 : Same 37417755741068 s x_6 := by
      subst x_6
      refine Same.step (unitSend_same ..) ?_
      exact Same.refl _ _
    clear_value x_6
    extract_lets +onlyGivenNames x_8
    refine Same.step (i_4 ..) ?_
    exact h_7

theorem execRingBroadcastResponse_same (off : PoolOff) (kept : Kept) (dirty : Option (Line × Bool)) (s : State) : SameO 34371438764 s (outSt (execRingBroadcastResponse off kept dirty s)) := by
  have h0 := Same.refl 34371438764 s
  unfold execRingBroadcastResponse
  extract_lets +onlyGivenNames x_1
  extract_lets +onlyGivenNames x_2
  split
  · rename_i a_3
    refine SameO.out_next ?_
    refine Same.step (dropUnitCopies_same ..) ?_
    refine Same.step (answerSnoop_same ..) ?_
    exact Same.refl _ _
  · rename_i a_4
    refine SameO.out_next ?_
    refine Same.step (answerSnoop_same ..) ?_
    exact Same.refl _ _
  · rename_i a_5
    refine SameO.out_next ?_
    refine Same.step (answerSnoop_same ..) ?_
    exact Same.refl _ _

end Sys2Proof.Machine
end

