-- ==== Sys2Proof/Laws/KeepTrInstr.lean ====
section
/-! SUPPORT. What each operation of Machine/TrInstr.lean leaves alone: the parts it may write, as a number, and all else kept. -/

set_option linter.unusedVariables false

namespace Sys2Proof.Machine

set_option Elab.async false

theorem chunkAtom_same (s : State) (u : Nat) (x : Gang) (home : Nat) (tag : Nat) : Same 32768 s (chunkAtom s u x home tag).1 := by
  have h0 := Same.refl 32768 s
  unfold chunkAtom
  split
  · rename_i a_1 a_2 a_3
    refine Same.pair1 ?_
    exact Same.refl _ _
  · rename_i a_4 a_5
    extract_lets +onlyGivenNames x_6
    extract_lets +onlyGivenNames x_7
    extract_lets +onlyGivenNames x_8
    extract_lets +onlyGivenNames x_9
    have h_10 : Same 32768 s x_9 := by
      subst x_9
      refine Same.step (setUnit_same ..) ?_
      exact Same.refl _ _
    clear_value x_9
    refine Same.pair1 ?_
    exact h_10

theorem issued_same (s : State) (u : Nat) (g : Nat) (x : Gang) (vec : Bool) : Same 37417766259628 s (issued s u g x vec) := by
  have h0 := Same.refl 37417766259628 s
  unfold issued
  extract_lets +onlyGivenNames x_1
  have h_2 : Same 37417766259628 s x_1 := by
    subst x_1
    refine Same.step (bump_same ..) ?_
    exact Same.refl _ _
  clear_value x_1
  extract_lets +onlyGivenNames x_3
  have h_4 : Same 37417766259628 s x_3 := by
    subst x_3
    refine Same.ite0 ?_ ?_
    · refine Same.step (bump_same ..) ?_
      exact h_2
    · exact h_2
  clear_value x_3
  extract_lets +onlyGivenNames x_5
  refine Same.ite0 ?_ ?_
  · split
    · rename_i a_6 a_7 a_8 a_9
      have h_10 : Same 37417766259628 s a_7 := by
        refine SameO.of (o := fstSt _) ?_ (congrArg fstSt a_9)
        refine SameO.pass (boundary_same ..) ?_
        exact h_4
      refine Same.step (keepGang_same ..) ?_
      exact h_10
    · rename_i a_11 a_12
      refine Same.step (setGang_same ..) ?_
      exact h_4
  · refine Same.step (setGang_same ..) ?_
    exact h_4

theorem compareRow_same (op : Nat) (u : TUnit) (g : GangId) (s : State) : Same 37417766259628 s (compareRow op u g s) := by
  have h0 := Same.refl 37417766259628 s
  unfold compareRow
  split
  · rename_i a_1 a_2
    exact Same.refl _ _
  · rename_i a_3 a_4 a_5 a_6
    extract_lets +onlyGivenNames x_7
    extract_lets +onlyGivenNames x_8
    subst x_8
    dsimp -zeta -zetaHave only
    extract_lets +onlyGivenNames x_9
    extract_lets +onlyGivenNames x_10
    extract_lets +onlyGivenNames x_11
    refine Same.step (issued_same ..) ?_
    exact Same.refl _ _

theorem controlRow_same (op : Nat) (f : TRegs → Word → TRegs ⊕ Status) (u : TUnit) (g : GangId) (s : State) : Same 37417766259628 s (controlRow op f u g s) := by
  have h0 := Same.refl 37417766259628 s
  unfold controlRow
  split
  · rename_i a_1 a_2
    exact Same.refl _ _
  · rename_i a_3 a_4 a_5 a_6
    split
    · rename_i a_7 a_8 a_9
      refine Same.step (issued_same ..) ?_
      exact Same.refl _ _
    · rename_i a_10 a_11 a_12
      refine Same.step (gangFault_same ..) ?_
      exact Same.refl _ _

theorem sendAtoms_same (s : State) (u : Nat) (x : Gang) (op : Option Nat) (b4 : List (Nat × AtomF × Bool × Nat)) (b5 : List Nat) : Same 37417755773836 s (sendAtoms s u x op b4 b5).1 := by
  induction b4 generalizing s u x op b5
  · have h_1 := Same.refl 37417755773836 s
    unfold sendAtoms
    refine Same.pair1 ?_
    exact Same.refl _ _
  · rename_i i_2 i_3 i_4
    have h_5 := Same.refl 37417755773836 s
    unfold sendAtoms
    extract_lets +onlyGivenNames x_6
    split
    · rename_i a_7 a_8 a_9 a_10 a_11 a_12
      have h_13 : Same 37417755773836 s a_8 := by
        refine Same.of1 ?_ a_12
        refine Same.step (chunkAtom_same ..) ?_
        exact Same.refl _ _
      extract_lets +onlyGivenNames x_14
      have h_15 : Same 37417755773836 s x_14 := by
        subst x_14
        refine Same.ite0 ?_ ?_
        · refine Same.step (bump_same ..) ?_
          exact h_13
        · exact h_13
      clear_value x_14
      extract_lets +onlyGivenNames x_16
      extract_lets +onlyGivenNames x_17
      have h_18 : Same 37417755773836 s x_17 := by
        subst x_17
        refine Same.step (unitSend_same ..) ?_
        exact h_15
      clear_value x_17
      extract_lets +onlyGivenNames x_19
      extract_lets +onlyGivenNames x_20
      have h_21 : Same 37417755773836 s x_20 := by
        subst x_20
        refine Same.step (setUnit_same ..) ?_
        exact h_18
      clear_value x_20
      extract_lets +onlyGivenNames x_22
      refine Same.step (i_4 ..) ?_
      exact h_21

theorem scalarRow_same (op : Nat) (u : TUnit) (g : GangId) (s : State) : Same 37417766259630 s (scalarRow op u g s) := by
  have h0 := Same.refl 37417766259630 s
  unfold scalarRow
  split
  · rename_i a_1 a_2
    exact Same.refl _ _
  · rename_i a_3 a_4 a_5 a_6
    extract_lets +onlyGivenNames x_7
    extract_lets +onlyGivenNames x_8
    extract_lets +onlyGivenNames x_9
    extract_lets +onlyGivenNames x_10
    extract_lets +onlyGivenNames x_11
    extract_lets +onlyGivenNames x_12
    have h_13 : Same 37417766259630 s x_12 := by
      subst x_12
      refine Same.ite0 ?_ ?_
      · refine Same.step (Same.set_draws ..) ?_
        exact Same.refl _ _
      · exact Same.refl _ _
    clear_value x_12
    refine Same.step (issued_same ..) ?_
    exact h_13

theorem execTrestleAdd_same (u : TUnit) (g : GangId) (s : State) : SameO 37417766259630 s (outSt (execTrestleAdd u g s)) := by
  have h0 := Same.refl 37417766259630 s
  unfold execTrestleAdd
  refine SameO.out_next ?_
  refine Same.step (scalarRow_same ..) ?_
  exact Same.refl _ _

theorem execTrestleAnd_same (u : TUnit) (g : GangId) (s : State) : SameO 37417766259630 s (outSt (execTrestleAnd u g s)) := by
  have h0 := Same.refl 37417766259630 s
  unfold execTrestleAnd
  refine SameO.out_next ?_
  refine Same.step (scalarRow_same ..) ?_
  exact Same.refl _ _

theorem ordReady_same (s : State) (u : Nat) (g : Nat) (x : Gang) (ord : Bool) : SameO 37417766259628 s (ordSt (ordReady s u g x ord)) := by
  have h0 := Same.refl 37417766259628 s
  unfold ordReady
  refine SameO.ite (f := ordSt) ?_ ?_
  · refine SameO.ord_inr ?_
    exact Same.refl _ _
  · extract_lets +onlyGivenNames x_1
    subst x_1
    split
    · rename_i a_2 a_3
      refine SameO.ord_inl ?_
      exact Same.refl _ _
    · rename_i a_4 a_5 a_6 a_7
      have h_8 : Same 37417766259628 s a_5 := by
        refine SameO.of (o := fstSt _) ?_ (congrArg fstSt a_7)
        refine SameO.ite (f := fstSt) ?_ ?_
        · refine SameO.fst_some ?_
          exact Same.refl _ _
        · refine SameO.pass (boundary_same ..) ?_
          exact Same.refl _ _
      refine SameO.ite (f := ordSt) ?_ ?_
      · refine SameO.ord_inl ?_
        refine Same.step (keepGang_same ..) ?_
        exact h_8
      · refine SameO.ord_inr ?_
        refine Same.step (setGang_same ..) ?_
        exact h_8

theorem storesFirst_same (s : State) (u : Nat) (g : Nat) (x : Gang) (lines : List Nat) : SameO 37417766259628 s (ordSt (storesFirst s u g x lines)) := by
  have h0 := Same.refl 37417766259628 s
  unfold storesFirst
  refine SameO.ite (f := ordSt) ?_ ?_
  · refine SameO.ord_inr ?_
    exact Same.refl _ _
  · split
    · rename_i a_1 a_2
      refine SameO.ord_inl ?_
      exact Same.refl _ _
    · rename_i a_3 a_4 a_5 a_6
      have h_7 : Same 37417766259628 s a_4 := by
        refine SameO.of (o := fstSt _) ?_ (congrArg fstSt a_6)
        refine SameO.pass (boundary_same ..) ?_
        exact Same.refl _ _
      refine SameO.ite (f := ordSt) ?_ ?_
      · refine SameO.ord_inl ?_
        refine Same.step (keepGang_same ..) ?_
        exact h_7
      · refine SameO.ord_inr ?_
        refine Same.step (setGang_same ..) ?_
        exact h_7

theorem execTrestleAtom_same (u : TUnit) (g : GangId) (s : State) : SameO 37417766259628 s (outSt (execTrestleAtom u g s)) := by
  have h0 := Same.refl 37417766259628 s
  unfold execTrestleAtom
  split
  · rename_i a_1 a_2
    refine SameO.out_next ?_
    exact Same.refl _ _
  · rename_i a_3 a_4 a_5 a_6
    split
    · rename_i a_7 a_8 a_9
      have h_10 : Same 37417766259628 s a_8 := by
        refine SameO.of (o := ordSt _) ?_ (congrArg ordSt a_9)
        refine SameO.pass (ordReady_same ..) ?_
        exact Same.refl _ _
      refine SameO.out_next ?_
      exact h_10
    · rename_i a_11 a_12 a_13 a_14
      have h_15 : Same 37417766259628 s a_12 := by
        refine SameO.of (o := ordSt _) ?_ (congrArg ordSt a_14)
        refine SameO.pass (ordReady_same ..) ?_
        exact Same.refl _ _
      extract_lets +onlyGivenNames x_16
      extract_lets +onlyGivenNames x_17
      extract_lets +onlyGivenNames x_18
      extract_lets +onlyGivenNames x_19
      subst x_19
      dsimp -zeta -zetaHave only
      extract_lets +onlyGivenNames x_20
      split
      · rename_i a_21 a_22 a_23
        refine SameO.out_next ?_
        refine Same.step (gangFault_same ..) ?_
        exact h_15
      · rename_i a_24 a_25
        refine SameO.ite (f := outSt) ?_ ?_
        · refine SameO.out_next ?_
          refine Same.step (gangFault_same ..) ?_
          exact h_15
        · extract_lets +onlyGivenNames x_26
          split
          · rename_i a_27 a_28 a_29
            have h_30 : Same 37417766259628 s a_28 := by
              refine SameO.of (o := ordSt _) ?_ (congrArg ordSt a_29)
              refine SameO.pass (storesFirst_same ..) ?_
              exact h_15
            refine SameO.out_next ?_
            exact h_30
          · rename_i a_31 a_32 a_33 a_34
            have h_35 : Same 37417766259628 s a_32 := by
              refine SameO.of (o := ordSt _) ?_ (congrArg ordSt a_34)
              refine SameO.pass (storesFirst_same ..) ?_
              exact h_15
            extract_lets +onlyGivenNames x_36
            split
            · rename_i a_37 a_38
              refine SameO.out_next ?_
              exact h_35
            · rename_i a_39 a_40 a_41
              refine SameO.ite (f := outSt) ?_ ?_
              · refine SameO.out_next ?_
                exact h_35
              · extract_lets +onlyGivenNames x_42
                extract_lets +onlyGivenNames x_43
                extract_lets +onlyGivenNames x_44
                extract_lets +onlyGivenNames x_45
                extract_lets +onlyGivenNames x_46
                extract_lets +onlyGivenNames x_47
                refine SameO.out_next ?_
                refine Same.step (issued_same ..) ?_
                refine Same.step (sendAtoms_same ..) ?_
                exact h_35

theorem execTrestleBr_same (u : TUnit) (g : GangId) (s : State) : SameO 37417766259628 s (outSt (execTrestleBr u g s)) := by
  have h0 := Same.refl 37417766259628 s
  unfold execTrestleBr
  refine SameO.out_next ?_
  refine Same.step (controlRow_same ..) ?_
  exact Same.refl _ _

theorem execTrestleChunk_same (u : TUnit) (g : GangId) (s : State) : SameO 37417766259628 s (outSt (execTrestleChunk u g s)) := by
  have h0 := Same.refl 37417766259628 s
  unfold execTrestleChunk
  refine SameO.out_next ?_
  unfold boundaryRow
  dsimp -zeta -zetaHave only
  split
  · rename_i a_1 a_2
    exact Same.refl _ _
  · rename_i a_3 a_4 a_5 a_6
    split
    · rename_i a_7 a_8
      exact Same.refl _ _
    · rename_i a_9 a_10 a_11 a_12
      have h_13 : Same 37417766259628 s a_10 := by
        refine SameO.of (o := fstSt _) ?_ (congrArg fstSt a_12)
        refine SameO.pass (boundary_same ..) ?_
        refine Same.step (bump_same ..) ?_
        exact Same.refl _ _
      refine Same.step (keepGang_same ..) ?_
      exact h_13

theorem execTrestleCmp_same (u : TUnit) (g : GangId) (s : State) : SameO 37417766259628 s (outSt (execTrestleCmp u g s)) := by
  have h0 := Same.refl 37417766259628 s
  unfold execTrestleCmp
  refine SameO.out_next ?_
  refine Same.step (compareRow_same ..) ?_
  exact Same.refl _ _

theorem execTrestleCvt_same (u : TUnit) (g : GangId) (s : State) : SameO 37417766259630 s (outSt (execTrestleCvt u g s)) := by
  have h0 := Same.refl 37417766259630 s
  unfold execTrestleCvt
  refine SameO.out_next ?_
  refine Same.step (scalarRow_same ..) ?_
  exact Same.refl _ _

theorem execTrestleDivu_same (u : TUnit) (g : GangId) (s : State) : SameO 37417766259628 s (outSt (execTrestleDivu u g s)) := by
  have h0 := Same.refl 37417766259628 s
  unfold execTrestleDivu
  split
  · rename_i a_1 a_2
    refine SameO.out_next ?_
    exact Same.refl _ _
  · rename_i a_3 a_4 a_5 a_6
    extract_lets +onlyGivenNames x_7
    extract_lets +onlyGivenNames x_8
    extract_lets +onlyGivenNames x_9
    extract_lets +onlyGivenNames x_10
    extract_lets +onlyGivenNames x_11
    refine SameO.out_next ?_
    refine Same.step (issued_same ..) ?_
    exact Same.refl _ _

theorem execTrestleElse_same (u : TUnit) (g : GangId) (s : State) : SameO 37417766259628 s (outSt (execTrestleElse u g s)) := by
  have h0 := Same.refl 37417766259628 s
  unfold execTrestleElse
  refine SameO.out_next ?_
  refine Same.step (controlRow_same ..) ?_
  exact Same.refl _ _

theorem execTrestleEnd_same (u : TUnit) (g : GangId) (s : State) : SameO 37417766259628 s (outSt (execTrestleEnd u g s)) := by
  have h0 := Same.refl 37417766259628 s
  unfold execTrestleEnd
  refine SameO.out_next ?_
  unfold boundaryRow
  dsimp -zeta -zetaHave only
  split
  · rename_i a_1 a_2
    exact Same.refl _ _
  · rename_i a_3 a_4 a_5 a_6
    split
    · rename_i a_7 a_8
      exact Same.refl _ _
    · rename_i a_9 a_10 a_11 a_12
      have h_13 : Same 37417766259628 s a_10 := by
        refine SameO.of (o := fstSt _) ?_ (congrArg fstSt a_12)
        refine SameO.pass (boundary_same ..) ?_
        refine Same.step (bump_same ..) ?_
        exact Same.refl _ _
      refine Same.step (endGang_same ..) ?_
      exact h_13

theorem execTrestleEndif_same (u : TUnit) (g : GangId) (s : State) : SameO 37417766259628 s (outSt (execTrestleEndif u g s)) := by
  have h0 := Same.refl 37417766259628 s
  unfold execTrestleEndif
  refine SameO.out_next ?_
  refine Same.step (controlRow_same ..) ?_
  exact Same.refl _ _

theorem execTrestleFadd_same (u : TUnit) (g : GangId) (s : State) : SameO 37417766259630 s (outSt (execTrestleFadd u g s)) := by
  have h0 := Same.refl 37417766259630 s
  unfold execTrestleFadd
  refine SameO.out_next ?_
  refine Same.step (scalarRow_same ..) ?_
  exact Same.refl _ _

theorem execTrestleFcmp_same (u : TUnit) (g : GangId) (s : State) : SameO 37417766259628 s (outSt (execTrestleFcmp u g s)) := by
  have h0 := Same.refl 37417766259628 s
  unfold execTrestleFcmp
  refine SameO.out_next ?_
  refine Same.step (compareRow_same ..) ?_
  exact Same.refl _ _

theorem execTrestleFence_same (u : TUnit) (g : GangId) (s : State) : SameO 37417766259628 s (outSt (execTrestleFence u g s)) := by
  have h0 := Same.refl 37417766259628 s
  unfold execTrestleFence
  refine SameO.out_next ?_
  unfold boundaryRow
  dsimp -zeta -zetaHave only
  split
  · rename_i a_1 a_2
    exact Same.refl _ _
  · rename_i a_3 a_4 a_5 a_6
    split
    · rename_i a_7 a_8
      exact Same.refl _ _
    · rename_i a_9 a_10 a_11 a_12
      have h_13 : Same 37417766259628 s a_10 := by
        refine SameO.of (o := fstSt _) ?_ (congrArg fstSt a_12)
        refine SameO.pass (boundary_same ..) ?_
        refine Same.step (bump_same ..) ?_
        exact Same.refl _ _
      refine Same.step (keepGang_same ..) ?_
      exact h_13

theorem execTrestleFfma_same (u : TUnit) (g : GangId) (s : State) : SameO 37417766259630 s (outSt (execTrestleFfma u g s)) := by
  have h0 := Same.refl 37417766259630 s
  unfold execTrestleFfma
  refine SameO.out_next ?_
  refine Same.step (scalarRow_same ..) ?_
  exact Same.refl _ _

theorem execTrestleFminmax_same (u : TUnit) (g : GangId) (s : State) : SameO 37417766259630 s (outSt (execTrestleFminmax u g s)) := by
  have h0 := Same.refl 37417766259630 s
  unfold execTrestleFminmax
  refine SameO.out_next ?_
  refine Same.step (scalarRow_same ..) ?_
  exact Same.refl _ _

theorem execTrestleFmul_same (u : TUnit) (g : GangId) (s : State) : SameO 37417766259630 s (outSt (execTrestleFmul u g s)) := by
  have h0 := Same.refl 37417766259630 s
  unfold execTrestleFmul
  refine SameO.out_next ?_
  refine Same.step (scalarRow_same ..) ?_
  exact Same.refl _ _

theorem execTrestleIf_same (u : TUnit) (g : GangId) (s : State) : SameO 37417766259628 s (outSt (execTrestleIf u g s)) := by
  have h0 := Same.refl 37417766259628 s
  unfold execTrestleIf
  refine SameO.out_next ?_
  refine Same.step (controlRow_same ..) ?_
  exact Same.refl _ _

theorem issueRead_same (s : State) (u : Nat) (g : Nat) (x : Gang) (o : TOp) (as : List Nat) (cached : Bool) : SameO 37417755741068 s (fstSt (issueRead s u g x o as cached)) := by
  have h0 := Same.refl 37417755741068 s
  unfold issueRead
  extract_lets +onlyGivenNames x_1
  extract_lets +onlyGivenNames x_2
  extract_lets +onlyGivenNames x_3
  subst x_3
  dsimp -zeta -zetaHave only
  extract_lets +onlyGivenNames x_4
  split
  · rename_i a_5 a_6
    exact SameO.fst_none
  · rename_i a_7 a_8 a_9
    extract_lets +onlyGivenNames x_10
    extract_lets +onlyGivenNames x_11
    refine SameO.fst_some ?_
    refine Same.step (sendReads_same ..) ?_
    exact Same.refl _ _

theorem execTrestleLd_same (u : TUnit) (g : GangId) (s : State) : SameO 37417766259628 s (outSt (execTrestleLd u g s)) := by
  have h0 := Same.refl 37417766259628 s
  unfold execTrestleLd
  split
  · rename_i a_1 a_2
    refine SameO.out_next ?_
    exact Same.refl _ _
  · rename_i a_3 a_4 a_5 a_6
    extract_lets +onlyGivenNames x_7
    extract_lets +onlyGivenNames x_8
    extract_lets +onlyGivenNames x_9
    extract_lets +onlyGivenNames x_10
    split
    · rename_i a_11 a_12 a_13
      refine SameO.out_next ?_
      refine Same.step (gangFault_same ..) ?_
      exact Same.refl _ _
    · rename_i a_14 a_15
      extract_lets +onlyGivenNames x_16
      extract_lets +onlyGivenNames x_17
      refine SameO.ite (f := outSt) ?_ ?_
      · refine SameO.out_next ?_
        refine Same.step (issued_same ..) ?_
        exact Same.refl _ _
      · split
        · rename_i a_18 a_19 a_20 a_21
          have h_22 : Same 37417766259628 s a_19 := by
            refine SameO.of (o := fstSt _) ?_ (congrArg fstSt a_21)
            refine SameO.pass (issueRead_same ..) ?_
            exact Same.refl _ _
          refine SameO.out_next ?_
          refine Same.step (issued_same ..) ?_
          exact h_22
        · rename_i a_23 a_24
          refine SameO.out_next ?_
          exact Same.refl _ _

theorem execTrestleLi_same (u : TUnit) (g : GangId) (s : State) : SameO 37417766259630 s (outSt (execTrestleLi u g s)) := by
  have h0 := Same.refl 37417766259630 s
  unfold execTrestleLi
  refine SameO.out_next ?_
  refine Same.step (scalarRow_same ..) ?_
  exact Same.refl _ _

theorem execTrestleLih_same (u : TUnit) (g : GangId) (s : State) : SameO 37417766259630 s (outSt (execTrestleLih u g s)) := by
  have h0 := Same.refl 37417766259630 s
  unfold execTrestleLih
  refine SameO.out_next ?_
  refine Same.step (scalarRow_same ..) ?_
  exact Same.refl _ _

theorem execTrestleMinmax_same (u : TUnit) (g : GangId) (s : State) : SameO 37417766259630 s (outSt (execTrestleMinmax u g s)) := by
  have h0 := Same.refl 37417766259630 s
  unfold execTrestleMinmax
  refine SameO.out_next ?_
  refine Same.step (scalarRow_same ..) ?_
  exact Same.refl _ _

theorem execTrestleMul_same (u : TUnit) (g : GangId) (s : State) : SameO 37417766259630 s (outSt (execTrestleMul u g s)) := by
  have h0 := Same.refl 37417766259630 s
  unfold execTrestleMul
  refine SameO.out_next ?_
  refine Same.step (scalarRow_same ..) ?_
  exact Same.refl _ _

theorem execTrestleOr_same (u : TUnit) (g : GangId) (s : State) : SameO 37417766259630 s (outSt (execTrestleOr u g s)) := by
  have h0 := Same.refl 37417766259630 s
  unfold execTrestleOr
  refine SameO.out_next ?_
  refine Same.step (scalarRow_same ..) ?_
  exact Same.refl _ _

theorem execTrestlePopc_same (u : TUnit) (g : GangId) (s : State) : SameO 37417766259630 s (outSt (execTrestlePopc u g s)) := by
  have h0 := Same.refl 37417766259630 s
  unfold execTrestlePopc
  refine SameO.out_next ?_
  refine Same.step (scalarRow_same ..) ?_
  exact Same.refl _ _

theorem execTrestleSel_same (u : TUnit) (g : GangId) (s : State) : SameO 37417766259630 s (outSt (execTrestleSel u g s)) := by
  have h0 := Same.refl 37417766259630 s
  unfold execTrestleSel
  refine SameO.out_next ?_
  refine Same.step (scalarRow_same ..) ?_
  exact Same.refl _ _

theorem execTrestleShl_same (u : TUnit) (g : GangId) (s : State) : SameO 37417766259630 s (outSt (execTrestleShl u g s)) := by
  have h0 := Same.refl 37417766259630 s
  unfold execTrestleShl
  refine SameO.out_next ?_
  refine Same.step (scalarRow_same ..) ?_
  exact Same.refl _ _

theorem execTrestleShr_same (u : TUnit) (g : GangId) (s : State) : SameO 37417766259630 s (outSt (execTrestleShr u g s)) := by
  have h0 := Same.refl 37417766259630 s
  unfold execTrestleShr
  refine SameO.out_next ?_
  refine Same.step (scalarRow_same ..) ?_
  exact Same.refl _ _

theorem execTrestleSpecial_same (u : TUnit) (g : GangId) (s : State) : SameO 37417766259630 s (outSt (execTrestleSpecial u g s)) := by
  have h0 := Same.refl 37417766259630 s
  unfold execTrestleSpecial
  refine SameO.out_next ?_
  refine Same.step (scalarRow_same ..) ?_
  exact Same.refl _ _

theorem storeInto_same (u : Nat) (g : Nat) (b2 : List (Nat × TStore)) (b3 : State) (b4 : Gang) : Same 37417766259628 b3 (storeInto u g b2 b3 b4) := by
  induction b2 generalizing u g b3 b4
  · have h_1 := Same.refl 37417766259628 b3
    unfold storeInto
    refine Same.step (issued_same ..) ?_
    exact Same.refl _ _
  · rename_i i_2 i_3 i_4
    have h_5 := Same.refl 37417766259628 b3
    unfold storeInto
    extract_lets +onlyGivenNames x_6
    subst x_6
    dsimp -zeta -zetaHave only
    refine Same.ite0 ?_ ?_
    · refine Same.step (i_4 ..) ?_
      exact Same.refl _ _
    · split
      · rename_i a_7 a_8
        refine Same.step (keepGang_same ..) ?_
        exact Same.refl _ _
      · rename_i a_9 a_10 a_11 a_12
        have h_13 : Same 37417766259628 b3 a_10 := by
          refine SameO.of (o := fstSt _) ?_ (congrArg fstSt a_12)
          refine SameO.pass (boundary_same ..) ?_
          exact Same.refl _ _
        refine Same.ite0 ?_ ?_
        · refine Same.step (keepGang_same ..) ?_
          exact h_13
        · refine Same.step (i_4 ..) ?_
          exact h_13

theorem execTrestleSt_same (u : TUnit) (g : GangId) (s : State) : SameO 37417766259628 s (outSt (execTrestleSt u g s)) := by
  have h0 := Same.refl 37417766259628 s
  unfold execTrestleSt
  split
  · rename_i a_1 a_2
    refine SameO.out_next ?_
    exact Same.refl _ _
  · rename_i a_3 a_4 a_5 a_6
    split
    · rename_i a_7 a_8 a_9
      have h_10 : Same 37417766259628 s a_8 := by
        refine SameO.of (o := ordSt _) ?_ (congrArg ordSt a_9)
        refine SameO.pass (ordReady_same ..) ?_
        exact Same.refl _ _
      refine SameO.out_next ?_
      exact h_10
    · rename_i a_11 a_12 a_13 a_14
      have h_15 : Same 37417766259628 s a_12 := by
        refine SameO.of (o := ordSt _) ?_ (congrArg ordSt a_14)
        refine SameO.pass (ordReady_same ..) ?_
        exact Same.refl _ _
      extract_lets +onlyGivenNames x_16
      extract_lets +onlyGivenNames x_17
      extract_lets +onlyGivenNames x_18
      extract_lets +onlyGivenNames x_19
      split
      · rename_i a_20 a_21 a_22
        refine SameO.out_next ?_
        refine Same.step (gangFault_same ..) ?_
        exact h_15
      · rename_i a_23 a_24
        extract_lets +onlyGivenNames x_25
        refine SameO.out_next ?_
        refine Same.step (storeInto_same ..) ?_
        exact h_15

theorem execTrestleSub_same (u : TUnit) (g : GangId) (s : State) : SameO 37417766259630 s (outSt (execTrestleSub u g s)) := by
  have h0 := Same.refl 37417766259630 s
  unfold execTrestleSub
  refine SameO.out_next ?_
  refine Same.step (scalarRow_same ..) ?_
  exact Same.refl _ _

theorem vectorRow_same (op : Nat) (f : State → Gang → Word → VReg × Nat) (u : TUnit) (g : GangId) (s : State) : Same 37417766259630 s (vectorRow op f u g s) := by
  have h0 := Same.refl 37417766259630 s
  unfold vectorRow
  split
  · rename_i a_1 a_2
    exact Same.refl _ _
  · rename_i a_3 a_4 a_5 a_6
    split
    · rename_i a_7 a_8 a_9 a_10
      extract_lets +onlyGivenNames x_11
      have h_12 : Same 37417766259630 s x_11 := by
        subst x_11
        refine Same.step (Same.set_draws ..) ?_
        exact Same.refl _ _
      clear_value x_11
      extract_lets +onlyGivenNames x_13
      refine Same.step (issued_same ..) ?_
      exact h_12

theorem execTrestleVadd_same (u : TUnit) (g : GangId) (s : State) : SameO 37417766259630 s (outSt (execTrestleVadd u g s)) := by
  have h0 := Same.refl 37417766259630 s
  unfold execTrestleVadd
  refine SameO.out_next ?_
  refine Same.step (vectorRow_same ..) ?_
  exact Same.refl _ _

theorem execTrestleVbcast_same (u : TUnit) (g : GangId) (s : State) : SameO 37417766259630 s (outSt (execTrestleVbcast u g s)) := by
  have h0 := Same.refl 37417766259630 s
  unfold execTrestleVbcast
  refine SameO.out_next ?_
  refine Same.step (vectorRow_same ..) ?_
  exact Same.refl _ _

theorem vectorToScalar_same (op : Nat) (f : Gang → Word → Nat → (Word × Bool) × Nat) (u : TUnit) (g : GangId) (s : State) : Same 37417766259628 s (vectorToScalar op f u g s) := by
  have h0 := Same.refl 37417766259628 s
  unfold vectorToScalar
  split
  · rename_i a_1 a_2
    exact Same.refl _ _
  · rename_i a_3 a_4 a_5 a_6
    extract_lets +onlyGivenNames x_7
    extract_lets +onlyGivenNames x_8
    extract_lets +onlyGivenNames x_9
    refine Same.step (issued_same ..) ?_
    exact Same.refl _ _

theorem execTrestleVcmp_same (u : TUnit) (g : GangId) (s : State) : SameO 37417766259628 s (outSt (execTrestleVcmp u g s)) := by
  have h0 := Same.refl 37417766259628 s
  unfold execTrestleVcmp
  refine SameO.out_next ?_
  refine Same.step (vectorToScalar_same ..) ?_
  exact Same.refl _ _

theorem execTrestleVcmprs_same (u : TUnit) (g : GangId) (s : State) : SameO 37417766259630 s (outSt (execTrestleVcmprs u g s)) := by
  have h0 := Same.refl 37417766259630 s
  unfold execTrestleVcmprs
  refine SameO.out_next ?_
  refine Same.step (vectorRow_same ..) ?_
  exact Same.refl _ _

theorem execTrestleVcvt_same (u : TUnit) (g : GangId) (s : State) : SameO 37417766259630 s (outSt (execTrestleVcvt u g s)) := by
  have h0 := Same.refl 37417766259630 s
  unfold execTrestleVcvt
  refine SameO.out_next ?_
  refine Same.step (vectorRow_same ..) ?_
  exact Same.refl _ _

theorem execTrestleVdot_same (u : TUnit) (g : GangId) (s : State) : SameO 37417766259630 s (outSt (execTrestleVdot u g s)) := by
  have h0 := Same.refl 37417766259630 s
  unfold execTrestleVdot
  refine SameO.out_next ?_
  refine Same.step (vectorRow_same ..) ?_
  exact Same.refl _ _

theorem execTrestleVfma_same (u : TUnit) (g : GangId) (s : State) : SameO 37417766259630 s (outSt (execTrestleVfma u g s)) := by
  have h0 := Same.refl 37417766259630 s
  unfold execTrestleVfma
  refine SameO.out_next ?_
  refine Same.step (vectorRow_same ..) ?_
  exact Same.refl _ _

theorem execTrestleVld_same (u : TUnit) (g : GangId) (s : State) : SameO 37417766259630 s (outSt (execTrestleVld u g s)) := by
  have h0 := Same.refl 37417766259630 s
  unfold execTrestleVld
  split
  · rename_i a_1 a_2
    refine SameO.out_next ?_
    exact Same.refl _ _
  · rename_i a_3 a_4 a_5 a_6
    split
    · rename_i a_7 a_8
      extract_lets +onlyGivenNames x_9
      extract_lets +onlyGivenNames x_10
      refine SameO.out_next ?_
      refine Same.step (issued_same ..) ?_
      refine Same.step (Same.set_draws ..) ?_
      exact Same.refl _ _
    · rename_i a_11 a_12 a_13 a_14
      extract_lets +onlyGivenNames x_15
      extract_lets +onlyGivenNames x_16
      split
      · rename_i a_17 a_18 a_19
        refine SameO.out_next ?_
        refine Same.step (gangFault_same ..) ?_
        exact Same.refl _ _
      · rename_i a_20 a_21
        extract_lets +onlyGivenNames x_22
        refine SameO.ite (f := outSt) ?_ ?_
        · refine SameO.out_next ?_
          refine Same.step (issued_same ..) ?_
          exact Same.refl _ _
        · split
          · rename_i a_23 a_24 a_25 a_26
            have h_27 : Same 37417766259630 s a_24 := by
              refine SameO.of (o := fstSt _) ?_ (congrArg fstSt a_26)
              refine SameO.pass (issueRead_same ..) ?_
              exact Same.refl _ _
            refine SameO.out_next ?_
            refine Same.step (issued_same ..) ?_
            exact h_27
          · rename_i a_28 a_29
            refine SameO.out_next ?_
            exact Same.refl _ _

theorem execTrestleVminmax_same (u : TUnit) (g : GangId) (s : State) : SameO 37417766259630 s (outSt (execTrestleVminmax u g s)) := by
  have h0 := Same.refl 37417766259630 s
  unfold execTrestleVminmax
  refine SameO.out_next ?_
  refine Same.step (vectorRow_same ..) ?_
  exact Same.refl _ _

theorem execTrestleVmul_same (u : TUnit) (g : GangId) (s : State) : SameO 37417766259630 s (outSt (execTrestleVmul u g s)) := by
  have h0 := Same.refl 37417766259630 s
  unfold execTrestleVmul
  refine SameO.out_next ?_
  refine Same.step (vectorRow_same ..) ?_
  exact Same.refl _ _

theorem execTrestleVpack_same (u : TUnit) (g : GangId) (s : State) : SameO 37417766259630 s (outSt (execTrestleVpack u g s)) := by
  have h0 := Same.refl 37417766259630 s
  unfold execTrestleVpack
  refine SameO.out_next ?_
  refine Same.step (vectorRow_same ..) ?_
  exact Same.refl _ _

theorem execTrestleVred_same (u : TUnit) (g : GangId) (s : State) : SameO 37417766259628 s (outSt (execTrestleVred u g s)) := by
  have h0 := Same.refl 37417766259628 s
  unfold execTrestleVred
  refine SameO.out_next ?_
  refine Same.step (vectorToScalar_same ..) ?_
  exact Same.refl _ _

theorem execTrestleVst_same (u : TUnit) (g : GangId) (s : State) : SameO 37417766259628 s (outSt (execTrestleVst u g s)) := by
  have h0 := Same.refl 37417766259628 s
  unfold execTrestleVst
  split
  · rename_i a_1 a_2
    refine SameO.out_next ?_
    exact Same.refl _ _
  · rename_i a_3 a_4 a_5 a_6
    split
    · rename_i a_7 a_8
      refine SameO.out_next ?_
      refine Same.step (issued_same ..) ?_
      exact Same.refl _ _
    · rename_i a_9 a_10 a_11 a_12
      extract_lets +onlyGivenNames x_13
      extract_lets +onlyGivenNames x_14
      split
      · rename_i a_15 a_16 a_17
        refine SameO.out_next ?_
        refine Same.step (gangFault_same ..) ?_
        exact Same.refl _ _
      · rename_i a_18 a_19
        extract_lets +onlyGivenNames x_20
        refine SameO.out_next ?_
        refine Same.step (storeInto_same ..) ?_
        exact Same.refl _ _

theorem execTrestleVunpack_same (u : TUnit) (g : GangId) (s : State) : SameO 37417766259628 s (outSt (execTrestleVunpack u g s)) := by
  have h0 := Same.refl 37417766259628 s
  unfold execTrestleVunpack
  refine SameO.out_next ?_
  refine Same.step (vectorToScalar_same ..) ?_
  exact Same.refl _ _

theorem execTrestleXor_same (u : TUnit) (g : GangId) (s : State) : SameO 37417766259630 s (outSt (execTrestleXor u g s)) := by
  have h0 := Same.refl 37417766259630 s
  unfold execTrestleXor
  refine SameO.out_next ?_
  refine Same.step (scalarRow_same ..) ?_
  exact Same.refl _ _

end Sys2Proof.Machine
end

