-- ==== Sys2Proof/Laws/KeepStdKernels.lean ====
section
/-! SUPPORT. What each operation of Machine/StdKernels.lean leaves alone: the parts it may write, as a number, and all else kept. -/

set_option linter.unusedVariables false

namespace Sys2Proof.Machine

set_option Elab.async false

theorem stdSend_same (s : State) (u : Nat) (g : Nat) (x : Gang) (z : StdGang) : Same 37417755773836 s (stdSend s u g x z).1 := by
  have h0 := Same.refl 37417755773836 s
  unfold stdSend
  extract_lets +onlyGivenNames x_1
  split
  · rename_i a_2 a_3
    refine Same.pair1 ?_
    exact Same.refl _ _
  · rename_i a_4 a_5 a_6
    split
    · rename_i a_7 a_8 a_9 a_10
      have h_11 : Same 37417755773836 s a_8 := by
        refine Same.of1 ?_ a_10
        refine Same.step (sendReads_same ..) ?_
        exact Same.refl _ _
      extract_lets +onlyGivenNames x_12
      split
      · rename_i a_13 a_14
        refine Same.pair1 ?_
        exact h_11
      · rename_i a_15 a_16 a_17
        split
        · rename_i a_18 a_19 a_20 a_21
          have h_22 : Same 37417755773836 s a_19 := by
            refine Same.of1 ?_ a_21
            refine Same.step (sendStores_same ..) ?_
            exact h_11
          extract_lets +onlyGivenNames x_23
          extract_lets +onlyGivenNames x_24
          refine Same.ite (f := Prod.fst) ?_ ?_
          · refine Same.pair1 ?_
            exact h_22
          · split
            · rename_i a_25 a_26
              refine Same.pair1 ?_
              exact h_22
            · rename_i a_27 a_28 a_29
              extract_lets +onlyGivenNames x_30
              split
              · rename_i a_31 a_32 a_33 a_34 a_35
                have h_36 : Same 37417755773836 s a_32 := by
                  refine Same.of1 ?_ a_35
                  refine Same.step (sendAtoms_same ..) ?_
                  exact h_22
                refine Same.pair1 ?_
                exact h_36

theorem stdRun_same (b0 : Nat) (b1 : State) (b2 : Nat) (b3 : Nat) (b4 : Gang) : Same 37417755773870 b1 (stdRun b0 b1 b2 b3 b4) := by
  induction b0 generalizing b1 b2 b3 b4
  · have h_1 := Same.refl 37417755773870 b1
    unfold stdRun
    refine Same.step (keepGang_same ..) ?_
    exact Same.refl _ _
  · rename_i i_2 i_3
    have h_4 := Same.refl 37417755773870 b1
    unfold stdRun
    split
    · rename_i a_5 a_6 a_7 a_8 a_9 a_10
      refine Same.ite0 ?_ ?_
      · split
        · rename_i a_11 a_12 a_13 a_14
          have h_15 : Same 37417755773870 b1 a_12 := by
            refine Same.of1 ?_ a_14
            refine Same.step (stdSend_same ..) ?_
            exact Same.refl _ _
          refine Same.step (keepGang_same ..) ?_
          exact h_15
      · refine Same.ite0 ?_ ?_
        · split
          · rename_i a_16 a_17 a_18 a_19
            have h_20 : Same 37417755773870 b1 a_17 := by
              refine Same.of1 ?_ a_19
              refine Same.step (stdSend_same ..) ?_
              exact Same.refl _ _
            refine Same.ite0 ?_ ?_
            · refine Same.step (keepGang_same ..) ?_
              exact h_20
            · refine Same.step (i_3 ..) ?_
              exact h_20
        · refine Same.ite0 ?_ ?_
          · extract_lets +onlyGivenNames x_21
            have h_22 : Same 37417755773870 b1 x_21 := by
              subst x_21
              refine Same.foldl _ ?_ ?_
              · exact Same.refl _ _
              · intro a_23 a_24 a_25
                refine Same.step (retireAseq_same ..) ?_
                exact a_25
            clear_value x_21
            extract_lets +onlyGivenNames x_26
            refine Same.step (i_3 ..) ?_
            refine Same.step (bump_same ..) ?_
            exact h_22
          · refine Same.ite0 ?_ ?_
            · extract_lets +onlyGivenNames x_27
              have h_28 : Same 37417755773870 b1 x_27 := by
                subst x_27
                refine Same.step (bump_same ..) ?_
                exact Same.refl _ _
              clear_value x_27
              refine Same.ite0 ?_ ?_
              · refine Same.step (keepGang_same ..) ?_
                exact h_28
              · refine Same.step (i_3 ..) ?_
                exact h_28
            · split
              · rename_i a_29 a_30 a_31
                refine Same.step (i_3 ..) ?_
                exact Same.refl _ _
              · rename_i a_32 a_33 a_34 a_35 a_36 a_37
                extract_lets +onlyGivenNames x_38
                have h_39 : Same 37417755773870 b1 x_38 := by
                  subst x_38
                  refine Same.step (modLaunch_same ..) ?_
                  exact Same.refl _ _
                clear_value x_38
                refine Same.step (i_3 ..) ?_
                exact h_39
              · rename_i a_40 a_41
                refine Same.step (endGang_same ..) ?_
                exact Same.refl _ _
              · rename_i a_42 a_43
                refine Same.step (keepGang_same ..) ?_
                exact Same.refl _ _
              · rename_i a_44 a_45 a_46
                extract_lets +onlyGivenNames x_47
                refine Same.step (gangFault_same ..) ?_
                refine Same.step (Same.set_draws ..) ?_
                exact Same.refl _ _
    · rename_i a_48 a_49 a_50
      refine Same.step (keepGang_same ..) ?_
      exact Same.refl _ _

end Sys2Proof.Machine
end

