-- ==== Sys2Proof/Laws/KeepKernels.lean ====
section
/-! SUPPORT. What each operation of Machine/Kernels.lean leaves alone: the parts it may write, as a number, and all else kept. -/

set_option linter.unusedVariables false

namespace Sys2Proof.Machine

set_option Elab.async false

theorem modHandle_same (s : State) (h : Nat) (f : HandleRec → HandleRec) : Same 32 s (modHandle s h f) := by
  have h0 := Same.refl 32 s
  unfold modHandle
  refine Same.step (Same.set_rings ..) ?_
  exact Same.refl _ _

theorem execChunkTimeLimit_same (u : TUnit) (g : GangId) (s : State) : SameO 37417766259628 s (outSt (execChunkTimeLimit u g s)) := by
  have h0 := Same.refl 37417766259628 s
  unfold execChunkTimeLimit
  split
  · rename_i a_1 a_2
    refine SameO.out_next ?_
    exact Same.refl _ _
  · rename_i a_3 a_4 a_5
    refine SameO.ite (f := outSt) ?_ ?_
    · refine SameO.out_next ?_
      exact Same.refl _ _
    · split
      · rename_i a_6 a_7 a_8 a_9
        have h_10 : Same 37417766259628 s a_7 := by
          refine SameO.of (o := fstSt _) ?_ (congrArg fstSt a_9)
          refine SameO.pass (boundary_same ..) ?_
          exact Same.refl _ _
        refine SameO.out_next ?_
        refine Same.step (keepGang_same ..) ?_
        exact h_10
      · rename_i a_11 a_12
        refine SameO.out_next ?_
        exact Same.refl _ _

theorem execGangDispatch_same (u : TUnit) (s : State) : SameO 37417755773870 s (outSt (execGangDispatch u s)) := by
  have h0 := Same.refl 37417755773870 s
  unfold execGangDispatch
  extract_lets +onlyGivenNames x_1
  refine SameO.ite (f := outSt) ?_ ?_
  · refine SameO.out_next ?_
    exact Same.refl _ _
  · split
    · rename_i a_2 a_3 a_4 a_5 a_6 a_7 a_8
      extract_lets +onlyGivenNames x_9
      extract_lets +onlyGivenNames x_10
      have h_11 : Same 37417755773870 s x_10 := by
        subst x_10
        refine Same.step (setUnit_same ..) ?_
        exact Same.refl _ _
      clear_value x_10
      split
      · rename_i a_12 a_13 a_14 a_15 a_16
        extract_lets +onlyGivenNames x_17
        extract_lets +onlyGivenNames x_18
        have h_19 : Same 37417755773870 s x_18 := by
          subst x_18
          refine Same.step (setUnit_same ..) ?_
          exact h_11
        clear_value x_18
        refine SameO.out_next ?_
        refine Same.step (setGang_same ..) ?_
        exact h_19
      · rename_i a_20 a_21
        extract_lets +onlyGivenNames x_22
        extract_lets +onlyGivenNames x_23
        have h_24 : Same 37417755773870 s x_23 := by
          subst x_23
          refine Same.step (setLaunch_same ..) ?_
          refine Same.step (Same.set_draws ..) ?_
          exact h_11
        clear_value x_23
        refine SameO.out_next ?_
        refine Same.ite0 ?_ ?_
        · refine Same.step (stdRun_same ..) ?_
          exact h_24
        · refine Same.step (setGang_same ..) ?_
          exact h_24
    · rename_i a_25 a_26 a_27
      refine SameO.out_next ?_
      exact Same.refl _ _

theorem execGangResultArrive_same (u : TUnit) (g : GangId) (r : GangData) (s : State) : SameO 37417755773870 s (outSt (execGangResultArrive u g r s)) := by
  have h0 := Same.refl 37417755773870 s
  unfold execGangResultArrive
  split
  · rename_i a_1 a_2
    refine SameO.out_next ?_
    exact Same.refl _ _
  · rename_i a_3 a_4 a_5
    split
    · rename_i a_6 a_7 a_8 a_9 a_10
      have h_11 : Same 37417755773870 s a_7 := by
        refine Same.of1 ?_ a_10
        refine Same.step (arrive_same ..) ?_
        exact Same.refl _ _
      split
      · rename_i a_12 a_13 a_14
        refine SameO.ite (f := outSt) ?_ ?_
        · refine SameO.out_next ?_
          refine Same.step (keepGang_same ..) ?_
          exact h_11
        · refine SameO.out_next ?_
          refine Same.step (gangFault_same ..) ?_
          exact h_11
      · rename_i a_15
        refine SameO.ite (f := outSt) ?_ ?_
        · refine SameO.out_next ?_
          refine Same.step (stdRun_same ..) ?_
          exact h_11
        · refine SameO.out_next ?_
          refine Same.step (keepGang_same ..) ?_
          exact h_11

theorem startLaunch_same (s : State) (h : Nat) (r : HandleRec) : Same 32808 s (startLaunch s h r) := by
  have h0 := Same.refl 32808 s
  unfold startLaunch
  extract_lets +onlyGivenNames x_1
  extract_lets +onlyGivenNames x_2
  extract_lets +onlyGivenNames x_3
  extract_lets +onlyGivenNames x_4
  refine Same.step (setLaunch_same ..) ?_
  refine Same.step (markStarted_same ..) ?_
  exact Same.refl _ _

theorem launchRow_same (mine : Nat → Bool) (h : Nat) (s : State) : Same 32812 s (launchRow mine h s) := by
  have h0 := Same.refl 32812 s
  unfold launchRow
  split
  · rename_i a_1 a_2
    exact Same.refl _ _
  · rename_i a_3 a_4 a_5
    extract_lets +onlyGivenNames x_6
    extract_lets +onlyGivenNames x_7
    refine Same.ite0 ?_ ?_
    · exact Same.refl _ _
    · refine Same.ite0 ?_ ?_
      · refine Same.step (badDesc_same ..) ?_
        exact Same.refl _ _
      · refine Same.ite0 ?_ ?_
        · refine Same.step (badDesc_same ..) ?_
          exact Same.refl _ _
        · refine Same.ite0 ?_ ?_
          · refine Same.step (commit_same ..) ?_
            exact Same.refl _ _
          · refine Same.ite0 ?_ ?_
            · exact Same.refl _ _
            · refine Same.step (startLaunch_same ..) ?_
              exact Same.refl _ _

theorem execKernelLaunch_same (h : Handle) (s : State) : SameO 32812 s (outSt (execKernelLaunch h s)) := by
  have h0 := Same.refl 32812 s
  unfold execKernelLaunch
  refine SameO.out_next ?_
  refine Same.step (launchRow_same ..) ?_
  exact Same.refl _ _

theorem execKernelLoad_same (h : Handle) (s : State) : SameO 10518572 s (outSt (execKernelLoad h s)) := by
  have h0 := Same.refl 10518572 s
  unfold execKernelLoad
  split
  · rename_i a_1 a_2
    refine SameO.out_next ?_
    exact Same.refl _ _
  · rename_i a_3 a_4 a_5
    extract_lets +onlyGivenNames x_6
    extract_lets +onlyGivenNames x_7
    refine SameO.ite (f := outSt) ?_ ?_
    · refine SameO.out_next ?_
      exact Same.refl _ _
    · refine SameO.ite (f := outSt) ?_ ?_
      · refine SameO.out_next ?_
        refine Same.step (badDesc_same ..) ?_
        exact Same.refl _ _
      · refine SameO.ite (f := outSt) ?_ ?_
        · refine SameO.out_next ?_
          refine Same.step (badDesc_same ..) ?_
          exact Same.refl _ _
        · split
          · rename_i a_8 a_9 a_10
            refine SameO.out_next ?_
            refine Same.step (commit_same ..) ?_
            exact Same.refl _ _
          · rename_i a_11 a_12
            refine SameO.ite (f := outSt) ?_ ?_
            · refine SameO.out_next ?_
              refine Same.step (commit_same ..) ?_
              exact Same.refl _ _
            · split
              · rename_i a_13 a_14
                refine SameO.out_next ?_
                refine Same.step (Same.set_trs ..) ?_
                exact Same.refl _ _
              · rename_i a_15 a_16 a_17
                extract_lets +onlyGivenNames x_18
                extract_lets +onlyGivenNames x_19
                have h_20 : Same 10518572 s x_19 := by
                  subst x_19
                  refine Same.step (Same.set_trs ..) ?_
                  exact Same.refl _ _
                clear_value x_19
                refine SameO.ite (f := outSt) ?_ ?_
                · refine SameO.out_next ?_
                  refine Same.step (badDesc_same ..) ?_
                  exact h_20
                · split
                  · rename_i a_21 a_22 a_23
                    refine SameO.out_next ?_
                    refine Same.step (badDesc_same ..) ?_
                    refine Same.step (logEvent_same ..) ?_
                    exact h_20
                  · rename_i a_24 a_25
                    extract_lets +onlyGivenNames x_26
                    extract_lets +onlyGivenNames x_27
                    extract_lets +onlyGivenNames x_28
                    have h_29 : Same 10518572 s x_28 := by
                      subst x_28
                      refine Same.step (Same.set_trs ..) ?_
                      exact h_20
                    clear_value x_28
                    refine SameO.out_next ?_
                    refine Same.step (commit_same ..) ?_
                    exact h_29

theorem execKernelUnload_same (h : Handle) (s : State) : SameO 32812 s (outSt (execKernelUnload h s)) := by
  have h0 := Same.refl 32812 s
  unfold execKernelUnload
  split
  · rename_i a_1 a_2
    refine SameO.out_next ?_
    exact Same.refl _ _
  · rename_i a_3 a_4 a_5
    extract_lets +onlyGivenNames x_6
    refine SameO.ite (f := outSt) ?_ ?_
    · refine SameO.out_next ?_
      exact Same.refl _ _
    · split
      · rename_i a_7 a_8 a_9
        refine SameO.out_next ?_
        refine Same.step (commit_same ..) ?_
        exact Same.refl _ _
      · rename_i a_10 a_11
        extract_lets +onlyGivenNames x_12
        extract_lets +onlyGivenNames x_13
        have h_14 : Same 32812 s x_13 := by
          subst x_13
          refine Same.step (Same.set_trs ..) ?_
          exact Same.refl _ _
        clear_value x_13
        refine SameO.out_next ?_
        refine Same.step (commit_same ..) ?_
        exact h_14

theorem execLaunchCommit_same (h : Handle) (s : State) : SameO 32812 s (outSt (execLaunchCommit h s)) := by
  have h0 := Same.refl 32812 s
  unfold execLaunchCommit
  extract_lets +onlyGivenNames x_1
  split
  · rename_i a_2 a_3
    refine SameO.out_next ?_
    exact Same.refl _ _
  · rename_i a_4 a_5 a_6
    extract_lets +onlyGivenNames x_7
    refine SameO.ite (f := outSt) ?_ ?_
    · refine SameO.out_next ?_
      exact Same.refl _ _
    · extract_lets +onlyGivenNames x_8
      extract_lets +onlyGivenNames x_9
      have h_10 : Same 32812 s x_9 := by
        subst x_9
        refine Same.step (Same.set_trs ..) ?_
        exact Same.refl _ _
      clear_value x_9
      refine SameO.ite (f := outSt) ?_ ?_
      · refine SameO.out_next ?_
        refine Same.step (fillRecord_same ..) ?_
        exact h_10
      · split
        · rename_i a_11 a_12 a_13 a_14
          refine SameO.out_next ?_
          refine Same.step (engineDone_same ..) ?_
          exact h_10
        · rename_i a_15 a_16
          refine SameO.out_next ?_
          refine Same.step (engineDone_same ..) ?_
          exact h_10

theorem execTrFilter_same (h : Handle) (s : State) : SameO 32812 s (outSt (execTrFilter h s)) := by
  have h0 := Same.refl 32812 s
  unfold execTrFilter
  refine SameO.out_next ?_
  refine Same.step (launchRow_same ..) ?_
  exact Same.refl _ _

theorem execTrGather_same (h : Handle) (s : State) : SameO 32812 s (outSt (execTrGather h s)) := by
  have h0 := Same.refl 32812 s
  unfold execTrGather
  refine SameO.out_next ?_
  refine Same.step (launchRow_same ..) ?_
  exact Same.refl _ _

theorem execTrReduce_same (h : Handle) (s : State) : SameO 32812 s (outSt (execTrReduce h s)) := by
  have h0 := Same.refl 32812 s
  unfold execTrReduce
  refine SameO.out_next ?_
  refine Same.step (launchRow_same ..) ?_
  exact Same.refl _ _

theorem execTrScatter_same (h : Handle) (s : State) : SameO 32812 s (outSt (execTrScatter h s)) := by
  have h0 := Same.refl 32812 s
  unfold execTrScatter
  refine SameO.out_next ?_
  refine Same.step (launchRow_same ..) ?_
  exact Same.refl _ _

theorem loseGang_same (u : Nat) (s : State) (g : Nat) : Same 32772 s (loseGang u s g) := by
  have h0 := Same.refl 32772 s
  unfold loseGang
  split
  · rename_i a_1 a_2 a_3
    refine Same.ite0 ?_ ?_
    · exact Same.refl _ _
    · refine Same.step (gangFault_same ..) ?_
      exact Same.refl _ _
  · rename_i a_4 a_5
    exact Same.refl _ _

theorem replaceUnit_same (s : State) (u : Nat) (p : Nat) : Same 10518572 s (replaceUnit s u p) := by
  have h0 := Same.refl 10518572 s
  unfold replaceUnit
  extract_lets +onlyGivenNames x_1
  extract_lets +onlyGivenNames x_2
  extract_lets +onlyGivenNames x_3
  have h_4 : Same 10518572 s x_3 := by
    subst x_3
    refine Same.step (setUnit_same ..) ?_
    exact Same.refl _ _
  clear_value x_3
  split
  · rename_i a_5 a_6 a_7
    extract_lets +onlyGivenNames x_8
    extract_lets +onlyGivenNames x_9
    have h_10 : Same 10518572 s x_9 := by
      subst x_9
      refine Same.step (Same.set_trs ..) ?_
      exact h_4
    clear_value x_9
    refine Same.step (bump_same ..) ?_
    refine Same.step (errorRecord_same ..) ?_
    exact h_10
  · rename_i a_11 a_12
    extract_lets +onlyGivenNames x_13
    extract_lets +onlyGivenNames x_14
    have h_15 : Same 10518572 s x_14 := by
      subst x_14
      refine Same.step (Same.set_trs ..) ?_
      exact h_4
    clear_value x_14
    extract_lets +onlyGivenNames x_16
    have h_17 : Same 10518572 s x_16 := by
      subst x_16
      refine Same.step (errorRecord_same ..) ?_
      exact h_15
    clear_value x_16
    refine Same.foldl _ ?_ ?_
    · exact h_17
    · intro a_18 a_19 a_20
      refine Same.step (modHandle_same ..) ?_
      exact a_20

theorem execTrestleFault_same (u : TUnit) (lost : List GangId) (s : State) : SameO 10518572 s (outSt (execTrestleFault u lost s)) := by
  have h0 := Same.refl 10518572 s
  unfold execTrestleFault
  extract_lets +onlyGivenNames x_1
  extract_lets +onlyGivenNames x_2
  have h_3 : Same 10518572 s x_2 := by
    subst x_2
    refine Same.ite0 ?_ ?_
    · exact Same.refl _ _
    · refine Same.foldl _ ?_ ?_
      · exact Same.refl _ _
      · intro a_4 a_5 a_6
        refine Same.step (loseGang_same ..) ?_
        exact a_6
  clear_value x_2
  split
  · rename_i a_7 a_8
    refine SameO.out_next ?_
    exact h_3
  · rename_i a_9 a_10 a_11
    extract_lets +onlyGivenNames x_12
    refine SameO.ite (f := outSt) ?_ ?_
    · refine SameO.out_next ?_
      refine Same.step (replaceUnit_same ..) ?_
      exact h_3
    · extract_lets +onlyGivenNames x_13
      extract_lets +onlyGivenNames x_14
      have h_15 : Same 10518572 s x_14 := by
        subst x_14
        refine Same.step (setUnit_same ..) ?_
        exact h_3
      clear_value x_14
      refine SameO.ite (f := outSt) ?_ ?_
      · refine SameO.out_next ?_
        refine Same.step (logEvent_same ..) ?_
        exact h_15
      · refine SameO.out_next ?_
        refine Same.step (bumpBy_same ..) ?_
        exact h_15

end Sys2Proof.Machine
end

