-- ==== Sys2Proof/Laws/KeepCollect.lean ====
section
/-! SUPPORT. What each operation of Machine/Collect.lean leaves alone: the parts it may write, as a number, and all else kept. -/

set_option linter.unusedVariables false

namespace Sys2Proof.Machine

set_option Elab.async false

theorem postWritten_same (s : State) (i : Inst) (k : Nat) (data : List (Nat × List (Line × Bool))) (q : Post) : Same 32 s (postWritten s i k data q).1 := by
  have h0 := Same.refl 32 s
  unfold postWritten
  extract_lets +onlyGivenNames x_1
  extract_lets +onlyGivenNames x_2
  extract_lets +onlyGivenNames x_3
  refine Same.pair1 ?_
  refine Same.step (setProgress_same ..) ?_
  exact Same.refl _ _

theorem bufWrite_same (s : State) (key : Key) (addr : Nat) (tag : Nat) (ls : List (Line × Bool)) : SameO 532576079500 s (wroteSt (bufWrite s key addr tag ls)) := by
  have h0 := Same.refl 532576079500 s
  unfold bufWrite
  unfold writeAt
  dsimp -zeta -zetaHave only
  refine SameO.ite (f := wroteSt) ?_ ?_
  · refine SameO.wrote_done ?_
    exact Same.refl _ _
  · refine SameO.ite (f := wroteSt) ?_ ?_
    · refine SameO.ite (f := wroteSt) ?_ ?_
      · refine SameO.wrote_away ?_
        refine Same.step (sendWrites_same ..) ?_
        exact Same.refl _ _
      · exact SameO.wrote_refused
    · extract_lets +onlyGivenNames x_1
      split
      · rename_i a_2 a_3 a_4
        exact SameO.wrote_refused
      · rename_i a_5 a_6
        refine SameO.ite (f := wroteSt) ?_ ?_
        · refine SameO.wrote_wait ?_
          exact Same.refl _ _
        · refine SameO.ite (f := wroteSt) ?_ ?_
          · refine SameO.wrote_wait ?_
            refine Same.step (askWrite_same ..) ?_
            exact Same.refl _ _
          · split
            · rename_i a_7 a_8 a_9
              have h_10 : Same 532576079500 s a_8 := by
                refine SameO.of (o := ewSt _) ?_ (congrArg ewSt a_9)
                refine SameO.pass (engineWrite_same ..) ?_
                exact Same.refl _ _
              refine SameO.wrote_done ?_
              refine Same.step (dropDirs_same ..) ?_
              exact h_10
            · rename_i a_11 a_12 a_13
              have h_14 : Same 532576079500 s a_12 := by
                refine SameO.of (o := ewSt _) ?_ (congrArg ewSt a_13)
                refine SameO.pass (engineWrite_same ..) ?_
                exact Same.refl _ _
              refine SameO.wrote_wait ?_
              exact h_14
            · rename_i a_15 a_16 a_17
              have h_18 : Same 532576079500 s a_16 := by
                refine SameO.of (o := ewSt _) ?_ (congrArg ewSt a_17)
                refine SameO.pass (engineWrite_same ..) ?_
                exact Same.refl _ _
              exact SameO.wrote_refused

theorem hostLines_same (s : State) (p : Nat) (addr : Nat) (ls : List (Line × Bool)) : Same 8 s (hostLines s p addr ls) := by
  have h0 := Same.refl 8 s
  unfold hostLines
  refine Same.ite0 ?_ ?_
  · exact Same.refl _ _
  · refine Same.step (emit_same ..) ?_
    exact Same.refl _ _

theorem deliverParts_same (s : State) (q : Post) (tag : Nat) (sent : Bool) (b4 : List (Nat × List (Line × Bool))) : SameO 532576079500 s (wroteSt (deliverParts s q tag sent b4)) := by
  induction b4 generalizing s q tag sent
  · have h_1 := Same.refl 532576079500 s
    unfold deliverParts
    refine SameO.ite (f := wroteSt) ?_ ?_
    · refine SameO.wrote_away ?_
      exact Same.refl _ _
    · refine SameO.wrote_done ?_
      exact Same.refl _ _
  · rename_i i_2 i_3 i_4
    have h_5 := Same.refl 532576079500 s
    unfold deliverParts
    refine SameO.ite (f := wroteSt) ?_ ?_
    · refine SameO.pass (i_4 ..) ?_
      refine Same.step (hostLines_same ..) ?_
      exact Same.refl _ _
    · split
      · rename_i a_6 a_7 a_8
        have h_9 : Same 532576079500 s a_7 := by
          refine SameO.of (o := wroteSt _) ?_ (congrArg wroteSt a_8)
          refine SameO.pass (bufWrite_same ..) ?_
          exact Same.refl _ _
        refine SameO.pass (i_4 ..) ?_
        exact h_9
      · rename_i a_10 a_11 a_12
        have h_13 : Same 532576079500 s a_11 := by
          refine SameO.of (o := wroteSt _) ?_ (congrArg wroteSt a_12)
          refine SameO.pass (bufWrite_same ..) ?_
          exact Same.refl _ _
        refine SameO.pass (i_4 ..) ?_
        exact h_13
      · rename_i a_14 a_15 a_16
        refine SameO.pass (bufWrite_same ..) ?_
        exact Same.refl _ _

theorem postRefused_same (s : State) (i : Inst) (st : Status) (q : Post) : Same 32 s (postRefused s i st q).1 := by
  have h0 := Same.refl 32 s
  unfold postRefused
  refine Same.pair1 ?_
  refine Same.step (endPost_same ..) ?_
  exact Same.refl _ _

theorem deliverPost_same (s : State) (i : Inst) (k : Nat) (data : List (Nat × List (Line × Bool))) (q : Post) : Same 532576079532 s (deliverPost s i k data q).1 := by
  have h0 := Same.refl 532576079532 s
  unfold deliverPost
  refine Same.ite (f := Prod.fst) ?_ ?_
  · refine Same.pair1 ?_
    exact Same.refl _ _
  · split
    · rename_i a_1 a_2 a_3 a_4
      have h_5 : Same 532576079532 s a_3 := by
        refine Same.of2 ?_ a_4
        split
        · rename_i a_6 a_7 a_8
          refine Same.pair2 ?_
          exact Same.refl _ _
        · rename_i a_9 a_10
          refine Same.step (newTag_same ..) ?_
          exact Same.refl _ _
      split
      · rename_i a_11 a_12 a_13
        have h_14 : Same 532576079532 s a_12 := by
          refine SameO.of (o := wroteSt _) ?_ (congrArg wroteSt a_13)
          refine SameO.pass (deliverParts_same ..) ?_
          exact h_5
        refine Same.pair1 ?_
        exact h_14
      · rename_i a_15 a_16 a_17
        have h_18 : Same 532576079532 s a_16 := by
          refine SameO.of (o := wroteSt _) ?_ (congrArg wroteSt a_17)
          refine SameO.pass (deliverParts_same ..) ?_
          exact h_5
        refine Same.pair1 ?_
        refine Same.step (dropStat_same ..) ?_
        exact h_18
      · rename_i a_19 a_20 a_21
        have h_22 : Same 532576079532 s a_20 := by
          refine SameO.of (o := wroteSt _) ?_ (congrArg wroteSt a_21)
          refine SameO.pass (deliverParts_same ..) ?_
          exact h_5
        refine Same.step (postWritten_same ..) ?_
        refine Same.step (dropStat_same ..) ?_
        exact h_22
      · rename_i a_23 a_24 a_25
        refine Same.step (postRefused_same ..) ?_
        refine Same.step (dropStat_same ..) ?_
        exact h_5

theorem deliverAll_same (k : Nat) (data : List (Nat × List (Line × Bool))) (s : State) (i : Inst) : Same 532576079532 s (deliverAll k data s i).1 := by
  have h0 := Same.refl 532576079532 s
  unfold deliverAll
  split
  · rename_i a_1 a_2 a_3 a_4
    have h_5 : Same 532576079532 s a_2 := by
      refine Same.of1 ?_ a_4
      refine Same.foldl1 _ ?_ ?_
      · refine Same.pair1 ?_
        exact Same.refl _ _
      · intro a_6 a_7 a_8
        split
        · rename_i a_9 a_10 a_11 a_12
          have h_13 : Same 532576079532 s a_10 := by
            refine Same.of1 ?_ a_12
            refine Same.step (deliverPost_same ..) ?_
            exact a_8
          refine Same.pair1 ?_
          exact h_13
    refine Same.pair1 ?_
    exact h_5

theorem landed_same (s : State) (k : Nat) (tag : Nat) (l : Landing) : Same 128 s (landed s k tag l).1 := by
  have h0 := Same.refl 128 s
  unfold landed
  refine Same.pair1 ?_
  refine Same.step (dropStat_same ..) ?_
  exact Same.refl _ _

theorem landFlag_same (s : State) (i : Inst) (k : Nat) (m : TrainMember) (tag : Nat) (l : Landing) : Same 532576079500 s (landFlag s i k m tag l).1 := by
  have h0 := Same.refl 532576079500 s
  unfold landFlag
  extract_lets +onlyGivenNames x_1
  refine Same.ite (f := Prod.fst) ?_ ?_
  · refine Same.step (landed_same ..) ?_
    exact Same.refl _ _
  · refine Same.ite (f := Prod.fst) ?_ ?_
    · refine Same.step (landed_same ..) ?_
      refine Same.step (emit_same ..) ?_
      exact Same.refl _ _
    · unfold landStep
      dsimp -zeta -zetaHave only
      split
      · rename_i a_2 a_3 a_4
        have h_5 : Same 532576079500 s a_3 := by
          refine SameO.of (o := wroteSt _) ?_ (congrArg wroteSt a_4)
          unfold writeAt
          dsimp -zeta -zetaHave only
          refine SameO.ite (f := wroteSt) ?_ ?_
          · refine SameO.wrote_done ?_
            exact Same.refl _ _
          · refine SameO.ite (f := wroteSt) ?_ ?_
            · refine SameO.ite (f := wroteSt) ?_ ?_
              · refine SameO.wrote_away ?_
                refine Same.step (sendEngine_same ..) ?_
                exact Same.refl _ _
              · exact SameO.wrote_refused
            · extract_lets +onlyGivenNames x_6
              split
              · rename_i a_7 a_8 a_9
                exact SameO.wrote_refused
              · rename_i a_10 a_11
                refine SameO.ite (f := wroteSt) ?_ ?_
                · refine SameO.wrote_wait ?_
                  exact Same.refl _ _
                · refine SameO.ite (f := wroteSt) ?_ ?_
                  · refine SameO.wrote_wait ?_
                    refine Same.step (askWrite_same ..) ?_
                    exact Same.refl _ _
                  · split
                    · rename_i a_12 a_13 a_14
                      have h_15 : Same 532576079500 s a_13 := by
                        refine SameO.of (o := ewSt _) ?_ (congrArg ewSt a_14)
                        refine SameO.pass (engineWriteBytes_same ..) ?_
                        exact Same.refl _ _
                      refine SameO.wrote_done ?_
                      refine Same.step (dropDirs_same ..) ?_
                      exact h_15
                    · rename_i a_16 a_17 a_18
                      have h_19 : Same 532576079500 s a_17 := by
                        refine SameO.of (o := ewSt _) ?_ (congrArg ewSt a_18)
                        refine SameO.pass (engineWriteBytes_same ..) ?_
                        exact Same.refl _ _
                      refine SameO.wrote_wait ?_
                      exact h_19
                    · rename_i a_20 a_21 a_22
                      have h_23 : Same 532576079500 s a_21 := by
                        refine SameO.of (o := ewSt _) ?_ (congrArg ewSt a_22)
                        refine SameO.pass (engineWriteBytes_same ..) ?_
                        exact Same.refl _ _
                      exact SameO.wrote_refused
        refine Same.pair1 ?_
        exact h_5
      · rename_i a_24 a_25 a_26
        have h_27 : Same 532576079500 s a_25 := by
          refine SameO.of (o := wroteSt _) ?_ (congrArg wroteSt a_26)
          unfold writeAt
          dsimp -zeta -zetaHave only
          refine SameO.ite (f := wroteSt) ?_ ?_
          · refine SameO.wrote_done ?_
            exact Same.refl _ _
          · refine SameO.ite (f := wroteSt) ?_ ?_
            · refine SameO.ite (f := wroteSt) ?_ ?_
              · refine SameO.wrote_away ?_
                refine Same.step (sendEngine_same ..) ?_
                exact Same.refl _ _
              · exact SameO.wrote_refused
            · extract_lets +onlyGivenNames x_28
              split
              · rename_i a_29 a_30 a_31
                exact SameO.wrote_refused
              · rename_i a_32 a_33
                refine SameO.ite (f := wroteSt) ?_ ?_
                · refine SameO.wrote_wait ?_
                  exact Same.refl _ _
                · refine SameO.ite (f := wroteSt) ?_ ?_
                  · refine SameO.wrote_wait ?_
                    refine Same.step (askWrite_same ..) ?_
                    exact Same.refl _ _
                  · split
                    · rename_i a_34 a_35 a_36
                      have h_37 : Same 532576079500 s a_35 := by
                        refine SameO.of (o := ewSt _) ?_ (congrArg ewSt a_36)
                        refine SameO.pass (engineWriteBytes_same ..) ?_
                        exact Same.refl _ _
                      refine SameO.wrote_done ?_
                      refine Same.step (dropDirs_same ..) ?_
                      exact h_37
                    · rename_i a_38 a_39 a_40
                      have h_41 : Same 532576079500 s a_39 := by
                        refine SameO.of (o := ewSt _) ?_ (congrArg ewSt a_40)
                        refine SameO.pass (engineWriteBytes_same ..) ?_
                        exact Same.refl _ _
                      refine SameO.wrote_wait ?_
                      exact h_41
                    · rename_i a_42 a_43 a_44
                      have h_45 : Same 532576079500 s a_43 := by
                        refine SameO.of (o := ewSt _) ?_ (congrArg ewSt a_44)
                        refine SameO.pass (engineWriteBytes_same ..) ?_
                        exact Same.refl _ _
                      exact SameO.wrote_refused
        refine Same.pair1 ?_
        refine Same.step (dropStat_same ..) ?_
        exact h_27
      · rename_i a_46 a_47 a_48
        refine Same.pair1 ?_
        refine Same.step (dropStat_same ..) ?_
        exact Same.refl _ _
      · rename_i a_49 a_50 a_51
        have h_52 : Same 532576079500 s a_50 := by
          refine SameO.of (o := wroteSt _) ?_ (congrArg wroteSt a_51)
          unfold writeAt
          dsimp -zeta -zetaHave only
          refine SameO.ite (f := wroteSt) ?_ ?_
          · refine SameO.wrote_done ?_
            exact Same.refl _ _
          · refine SameO.ite (f := wroteSt) ?_ ?_
            · refine SameO.ite (f := wroteSt) ?_ ?_
              · refine SameO.wrote_away ?_
                refine Same.step (sendEngine_same ..) ?_
                exact Same.refl _ _
              · exact SameO.wrote_refused
            · extract_lets +onlyGivenNames x_53
              split
              · rename_i a_54 a_55 a_56
                exact SameO.wrote_refused
              · rename_i a_57 a_58
                refine SameO.ite (f := wroteSt) ?_ ?_
                · refine SameO.wrote_wait ?_
                  exact Same.refl _ _
                · refine SameO.ite (f := wroteSt) ?_ ?_
                  · refine SameO.wrote_wait ?_
                    refine Same.step (askWrite_same ..) ?_
                    exact Same.refl _ _
                  · split
                    · rename_i a_59 a_60 a_61
                      have h_62 : Same 532576079500 s a_60 := by
                        refine SameO.of (o := ewSt _) ?_ (congrArg ewSt a_61)
                        refine SameO.pass (engineWriteBytes_same ..) ?_
                        exact Same.refl _ _
                      refine SameO.wrote_done ?_
                      refine Same.step (dropDirs_same ..) ?_
                      exact h_62
                    · rename_i a_63 a_64 a_65
                      have h_66 : Same 532576079500 s a_64 := by
                        refine SameO.of (o := ewSt _) ?_ (congrArg ewSt a_65)
                        refine SameO.pass (engineWriteBytes_same ..) ?_
                        exact Same.refl _ _
                      refine SameO.wrote_wait ?_
                      exact h_66
                    · rename_i a_67 a_68 a_69
                      have h_70 : Same 532576079500 s a_68 := by
                        refine SameO.of (o := ewSt _) ?_ (congrArg ewSt a_69)
                        refine SameO.pass (engineWriteBytes_same ..) ?_
                        exact Same.refl _ _
                      exact SameO.wrote_refused
        refine Same.step (landed_same ..) ?_
        exact h_52

theorem landOne_same (s : State) (i : Inst) (k : Nat) (ls : List (Line × Bool)) (m : TrainMember) (l : Landing) : Same 532576079500 s (landOne s i k ls m l).1 := by
  have h0 := Same.refl 532576079500 s
  unfold landOne
  split
  · rename_i a_1 a_2 a_3 a_4
    have h_5 : Same 532576079500 s a_3 := by
      refine Same.of2 ?_ a_4
      split
      · rename_i a_6 a_7 a_8
        refine Same.pair2 ?_
        exact Same.refl _ _
      · rename_i a_9 a_10
        refine Same.step (newTag_same ..) ?_
        exact Same.refl _ _
    extract_lets +onlyGivenNames x_11
    refine Same.ite (f := Prod.fst) ?_ ?_
    · refine Same.pair1 ?_
      exact h_5
    · refine Same.ite (f := Prod.fst) ?_ ?_
      · refine Same.step (landFlag_same ..) ?_
        exact h_5
      · refine Same.ite (f := Prod.fst) ?_ ?_
        · unfold landStep
          dsimp -zeta -zetaHave only
          split
          · rename_i a_12 a_13 a_14
            have h_15 : Same 532576079500 s a_13 := by
              refine SameO.of (o := wroteSt _) ?_ (congrArg wroteSt a_14)
              refine SameO.pass (bufWrite_same ..) ?_
              exact h_5
            refine Same.pair1 ?_
            exact h_15
          · rename_i a_16 a_17 a_18
            have h_19 : Same 532576079500 s a_17 := by
              refine SameO.of (o := wroteSt _) ?_ (congrArg wroteSt a_18)
              refine SameO.pass (bufWrite_same ..) ?_
              exact h_5
            refine Same.pair1 ?_
            refine Same.step (dropStat_same ..) ?_
            exact h_19
          · rename_i a_20 a_21 a_22
            refine Same.pair1 ?_
            refine Same.step (dropStat_same ..) ?_
            exact h_5
          · rename_i a_23 a_24 a_25
            have h_26 : Same 532576079500 s a_24 := by
              refine SameO.of (o := wroteSt _) ?_ (congrArg wroteSt a_25)
              refine SameO.pass (bufWrite_same ..) ?_
              exact h_5
            refine Same.step (landFlag_same ..) ?_
            exact h_26
        · refine Same.ite (f := Prod.fst) ?_ ?_
          · refine Same.step (landFlag_same ..) ?_
            refine Same.step (hostLines_same ..) ?_
            exact h_5
          · refine Same.step (landFlag_same ..) ?_
            exact h_5

theorem landAll_same (k : Nat) (ls : List (Line × Bool)) (s : State) (i : Inst) : Same 532576079500 s (landAll k ls s i).1 := by
  have h0 := Same.refl 532576079500 s
  unfold landAll
  split
  · rename_i a_1 a_2 a_3 a_4
    have h_5 : Same 532576079500 s a_2 := by
      refine Same.of1 ?_ a_4
      refine Same.foldl1 _ ?_ ?_
      · refine Same.pair1 ?_
        exact Same.refl _ _
      · intro a_6 a_7 a_8
        refine Same.ite (f := Prod.fst) ?_ ?_
        · exact a_8
        · split
          · rename_i a_9 a_10 a_11 a_12 a_13
            have h_14 : Same 532576079500 s a_10 := by
              refine Same.of1 ?_ a_13
              refine Same.step (landOne_same ..) ?_
              exact a_8
            refine Same.pair1 ?_
            exact h_14
    refine Same.pair1 ?_
    exact h_5

theorem deliverNext_same (b0 : Nat) (b1 : State) (b2 : Inst) : Same 532576079532 b1 (deliverNext b0 b1 b2).1 := by
  induction b0 generalizing b1 b2
  · have h_1 := Same.refl 532576079532 b1
    unfold deliverNext
    refine Same.pair1 ?_
    exact Same.refl _ _
  · rename_i i_2 i_3
    have h_4 := Same.refl 532576079532 b1
    unfold deliverNext
    split
    · rename_i a_5 a_6
      refine Same.pair1 ?_
      exact Same.refl _ _
    · rename_i a_7 a_8 a_9
      split
      · rename_i a_10 a_11 a_12 a_13 a_14
        have h_15 : Same 532576079532 b1 a_11 := by
          refine Same.of1 ?_ a_14
          refine Same.ite (f := Prod.fst) ?_ ?_
          · refine Same.step (landAll_same ..) ?_
            exact Same.refl _ _
          · refine Same.step (deliverAll_same ..) ?_
            exact Same.refl _ _
        refine Same.ite (f := Prod.fst) ?_ ?_
        · refine Same.step (i_3 ..) ?_
          exact h_15
        · refine Same.pair1 ?_
          exact h_15

theorem sendAck_same (s : State) (i : Inst) (ms : List Nat) (failed : List (Nat × Status)) : Same 131084 s (sendAck s i ms failed) := by
  have h0 := Same.refl 131084 s
  unfold sendAck
  extract_lets +onlyGivenNames x_1
  split
  · rename_i a_2 a_3 a_4
    refine Same.step (emit_same ..) ?_
    exact Same.refl _ _
  · rename_i a_5 a_6
    split
    · rename_i a_7 a_8 a_9
      refine Same.step (sendSwitch_same ..) ?_
      exact Same.refl _ _
    · rename_i a_10 a_11
      exact Same.refl _ _

theorem finishInst_same (s : State) (i : Inst) : Same 196652 s (finishInst s i) := by
  have h0 := Same.refl 196652 s
  unfold finishInst
  refine Same.ite0 ?_ ?_
  · extract_lets +onlyGivenNames x_1
    extract_lets +onlyGivenNames x_2
    split
    · rename_i a_3 a_4 a_5 a_6
      extract_lets +onlyGivenNames x_7
      extract_lets +onlyGivenNames x_8
      have h_9 : Same 196652 s x_8 := by
        subst x_8
        refine Same.step (setProgress_same ..) ?_
        exact Same.refl _ _
      clear_value x_8
      refine Same.ite0 ?_ ?_
      · refine Same.ite0 ?_ ?_
        · refine Same.step (dropInst_same ..) ?_
          exact h_9
        · refine Same.step (putInst_same ..) ?_
          exact h_9
      · split
        · rename_i a_10 a_11 a_12 a_13
          refine Same.step (dropInst_same ..) ?_
          refine Same.step (endPost_same ..) ?_
          refine Same.step (modHandle_same ..) ?_
          exact h_9
        · rename_i a_14 a_15
          refine Same.ite0 ?_ ?_
          · extract_lets +onlyGivenNames x_16
            refine Same.step (dropInst_same ..) ?_
            refine Same.step (endPost_same ..) ?_
            exact h_9
          · refine Same.step (putInst_same ..) ?_
            exact h_9
    · rename_i a_17 a_18
      refine Same.ite0 ?_ ?_
      · refine Same.step (dropInst_same ..) ?_
        refine Same.step (sendAck_same ..) ?_
        exact Same.refl _ _
      · refine Same.step (putInst_same ..) ?_
        exact Same.refl _ _
  · refine Same.ite0 ?_ ?_
    · extract_lets +onlyGivenNames x_19
      subst x_19
      dsimp -zeta -zetaHave only
      extract_lets +onlyGivenNames x_20
      have h_21 : Same 196652 s x_20 := by
        subst x_20
        refine Same.foldl _ ?_ ?_
        · exact Same.refl _ _
        · intro a_22 a_23 a_24
          refine Same.step (endPost_same ..) ?_
          exact a_24
      clear_value x_20
      refine Same.step (putInst_same ..) ?_
      exact h_21
    · refine Same.ite0 ?_ ?_
      · extract_lets +onlyGivenNames x_25
        have h_26 : Same 196652 s x_25 := by
          subst x_25
          refine Same.foldl _ ?_ ?_
          · exact Same.refl _ _
          · intro a_27 a_28 a_29
            split
            · rename_i a_30 a_31 a_32 a_33
              refine Same.step (endPost_same ..) ?_
              refine Same.step (modHandle_same ..) ?_
              exact a_29
            · rename_i a_34 a_35
              refine Same.step (endPost_same ..) ?_
              exact a_29
        clear_value x_25
        refine Same.step (dropInst_same ..) ?_
        exact h_26
      · refine Same.step (putInst_same ..) ?_
        exact Same.refl _ _

theorem sendDown_same (s : State) (i : Inst) (k : Nat) (count : Nat) (data : List (Nat × List (Line × Bool))) : Same 8 s (sendDown s i k count data) := by
  have h0 := Same.refl 8 s
  unfold sendDown
  refine Same.foldl _ ?_ ?_
  · exact Same.refl _ _
  · intro a_1 a_2 a_3
    refine Same.step (emit_same ..) ?_
    exact a_3

theorem combineNext_same (b0 : Nat) (b1 : State) (b2 : Inst) : Same 12 b1 (combineNext b0 b1 b2).1 := by
  induction b0 generalizing b1 b2
  · have h_1 := Same.refl 12 b1
    unfold combineNext
    refine Same.pair1 ?_
    exact Same.refl _ _
  · rename_i i_2 i_3
    have h_4 := Same.refl 12 b1
    unfold combineNext
    extract_lets +onlyGivenNames x_5
    refine Same.ite (f := Prod.fst) ?_ ?_
    · refine Same.pair1 ?_
      exact Same.refl _ _
    · extract_lets +onlyGivenNames x_6
      extract_lets +onlyGivenNames x_7
      extract_lets +onlyGivenNames x_8
      extract_lets +onlyGivenNames x_9
      have h_10 : Same 12 b1 x_9 := by
        subst x_9
        refine Same.step (bump_same ..) ?_
        exact Same.refl _ _
      clear_value x_9
      extract_lets +onlyGivenNames x_11
      split
      · rename_i a_12 a_13
        extract_lets +onlyGivenNames x_14
        have h_15 : Same 12 b1 x_14 := by
          subst x_14
          refine Same.step (sendDown_same ..) ?_
          exact h_10
        clear_value x_14
        refine Same.step (i_3 ..) ?_
        exact h_15
      · rename_i a_16 a_17 a_18
        refine Same.step (i_3 ..) ?_
        refine Same.step (emit_same ..) ?_
        exact h_10

theorem instRun_same (s : State) (i : Inst) : Same 532576145068 s (instRun s i) := by
  have h0 := Same.refl 532576145068 s
  unfold instRun
  split
  · rename_i a_1 a_2 a_3 a_4
    have h_5 : Same 532576145068 s a_2 := by
      refine Same.of1 ?_ a_4
      refine Same.ite (f := Prod.fst) ?_ ?_
      · refine Same.pair1 ?_
        exact Same.refl _ _
      · refine Same.step (combineNext_same ..) ?_
        exact Same.refl _ _
    split
    · rename_i a_6 a_7 a_8 a_9
      have h_10 : Same 532576145068 s a_7 := by
        refine Same.of1 ?_ a_9
        refine Same.step (deliverNext_same ..) ?_
        exact h_5
      refine Same.step (finishInst_same ..) ?_
      exact h_10

theorem loseInst_same (s : State) (i : Inst) : Same 196652 s (loseInst s i) := by
  have h0 := Same.refl 196652 s
  unfold loseInst
  split
  · rename_i a_1 a_2 a_3 a_4
    refine Same.step (dropInst_same ..) ?_
    refine Same.foldl _ ?_ ?_
    · exact Same.refl _ _
    · intro a_5 a_6 a_7
      extract_lets +onlyGivenNames x_8
      have h_9 : Same 196652 s x_8 := by
        subst x_8
        refine Same.step (modHandle_same ..) ?_
        exact a_7
      clear_value x_8
      refine Same.ite0 ?_ ?_
      · refine Same.step (endPost_same ..) ?_
        exact h_9
      · refine Same.step (endPost_same ..) ?_
        exact h_9

theorem askSegment_same (s : State) (i : Inst) (q : Post) : Same 131084 s (askSegment s i q) := by
  have h0 := Same.refl 131084 s
  unfold askSegment
  extract_lets +onlyGivenNames x_1
  extract_lets +onlyGivenNames x_2
  refine Same.ite0 ?_ ?_
  · exact Same.refl _ _
  · refine Same.ite0 ?_ ?_
    · refine Same.step (readHost_same ..) ?_
      exact Same.refl _ _
    · refine Same.ite0 ?_ ?_
      · exact Same.refl _ _
      · refine Same.step (sendEngine_same ..) ?_
        exact Same.refl _ _

theorem assignCount_same (s : State) (i : Inst) : Same 65536 s (assignCount s i).1 := by
  have h0 := Same.refl 65536 s
  unfold assignCount
  extract_lets +onlyGivenNames x_1
  split
  · rename_i a_2 a_3 a_4 a_5 a_6 a_7
    refine Same.ite (f := Prod.fst) ?_ ?_
    · refine Same.pair1 ?_
      exact Same.refl _ _
    · extract_lets +onlyGivenNames x_8
      extract_lets +onlyGivenNames x_9
      extract_lets +onlyGivenNames x_10
      have h_11 : Same 65536 s x_10 := by
        subst x_10
        refine Same.step (Same.set_train ..) ?_
        exact Same.refl _ _
      clear_value x_10
      refine Same.pair1 ?_
      exact h_11
  · rename_i a_12 a_13 a_14
    refine Same.pair1 ?_
    exact Same.refl _ _

theorem childSegment_same (s : State) (i : Inst) (p : Nat) (g : SegMsg) : Same 532576145068 s (childSegment s i p g) := by
  have h0 := Same.refl 532576145068 s
  unfold childSegment
  refine Same.ite0 ?_ ?_
  · exact Same.refl _ _
  · refine Same.ite0 ?_ ?_
    · split
      · rename_i a_1 a_2 a_3 a_4
        have h_5 : Same 532576145068 s a_2 := by
          refine Same.of1 ?_ a_4
          refine Same.ite (f := Prod.fst) ?_ ?_
          · refine Same.step (assignCount_same ..) ?_
            exact Same.refl _ _
          · refine Same.pair1 ?_
            exact Same.refl _ _
        split
        · rename_i a_6 a_7 a_8
          refine Same.step (instRun_same ..) ?_
          refine Same.step (emit_same ..) ?_
          exact h_5
        · rename_i a_9 a_10
          refine Same.step (instRun_same ..) ?_
          refine Same.step (sendDown_same ..) ?_
          exact h_5
    · refine Same.ite0 ?_ ?_
      · exact Same.refl _ _
      · refine Same.step (instRun_same ..) ?_
        exact Same.refl _ _

theorem mismatch_same (s : State) (i : Inst) (came : Option Nat) : Same 196652 s (mismatch s i came) := by
  have h0 := Same.refl 196652 s
  unfold mismatch
  extract_lets +onlyGivenNames x_1
  extract_lets +onlyGivenNames x_2
  have h_3 : Same 196652 s x_2 := by
    subst x_2
    refine Same.ite0 ?_ ?_
    · refine Same.step (bump_same ..) ?_
      exact Same.refl _ _
    · exact Same.refl _ _
  clear_value x_2
  extract_lets +onlyGivenNames x_4
  have h_5 : Same 196652 s x_4 := by
    subst x_4
    refine Same.foldl _ ?_ ?_
    · exact h_3
    · intro a_6 a_7 a_8
      refine Same.step (endPost_same ..) ?_
      exact a_8
  clear_value x_4
  extract_lets +onlyGivenNames x_9
  have h_10 : Same 196652 s x_9 := by
    subst x_9
    refine Same.foldl _ ?_ ?_
    · exact h_5
    · intro a_11 a_12 a_13
      refine Same.step (emit_same ..) ?_
      exact a_13
  clear_value x_9
  refine Same.step (dropInst_same ..) ?_
  refine Same.step (Same.set_train ..) ?_
  exact h_10

theorem postInto_same (s : State) (h : Nat) (r : HandleRec) (i : Inst) : Same 196652 s (postInto s h r i) := by
  have h0 := Same.refl 196652 s
  unfold postInto
  extract_lets +onlyGivenNames x_1
  extract_lets +onlyGivenNames x_2
  extract_lets +onlyGivenNames x_3
  have h_4 : Same 196652 s x_3 := by
    subst x_3
    refine Same.step (putInst_same ..) ?_
    refine Same.step (markStarted_same ..) ?_
    exact Same.refl _ _
  clear_value x_3
  refine Same.step (askSegment_same ..) ?_
  exact h_4

theorem collRow_same (kind : Nat) (h : Nat) (s : State) : Same 196652 s (collRow kind h s) := by
  have h0 := Same.refl 196652 s
  unfold collRow
  split
  · rename_i a_1 a_2
    exact Same.refl _ _
  · rename_i a_3 a_4 a_5
    extract_lets +onlyGivenNames x_6
    refine Same.ite0 ?_ ?_
    · exact Same.refl _ _
    · extract_lets +onlyGivenNames x_7
      extract_lets +onlyGivenNames x_8
      split
      · rename_i a_9 a_10 a_11
        refine Same.step (badDesc_same ..) ?_
        exact Same.refl _ _
      · rename_i a_12 a_13
        extract_lets +onlyGivenNames x_14
        subst x_14
        dsimp -zeta -zetaHave only
        clear_value x_8
        split
        · rename_i a_15
          refine Same.step (commit_same ..) ?_
          exact Same.refl _ _
        · rename_i a_16 a_17
          refine Same.ite0 ?_ ?_
          · refine Same.step (commit_same ..) ?_
            exact Same.refl _ _
          · refine Same.ite0 ?_ ?_
            · refine Same.step (commit_same ..) ?_
              exact Same.refl _ _
            · refine Same.ite0 ?_ ?_
              · refine Same.step (commit_same ..) ?_
                exact Same.refl _ _
              · split
                · rename_i a_18 a_19
                  refine Same.step (commit_same ..) ?_
                  exact Same.refl _ _
                · rename_i a_20 a_21 a_22
                  extract_lets +onlyGivenNames x_23
                  refine Same.ite0 ?_ ?_
                  · refine Same.ite0 ?_ ?_
                    · exact Same.refl _ _
                    · extract_lets +onlyGivenNames x_24
                      extract_lets +onlyGivenNames x_25
                      extract_lets +onlyGivenNames x_26
                      have h_27 : Same 196652 s x_26 := by
                        subst x_26
                        refine Same.step (Same.set_train ..) ?_
                        exact Same.refl _ _
                      clear_value x_26
                      refine Same.step (postInto_same ..) ?_
                      exact h_27
                  · split
                    · rename_i a_28 a_29 a_30
                      refine Same.ite0 ?_ ?_
                      · refine Same.step (commit_same ..) ?_
                        exact Same.refl _ _
                      · refine Same.ite0 ?_ ?_
                        · refine Same.step (mismatch_same ..) ?_
                          refine Same.step (postInto_same ..) ?_
                          exact Same.refl _ _
                        · refine Same.step (postInto_same ..) ?_
                          exact Same.refl _ _
                    · rename_i a_31 a_32
                      refine Same.ite0 ?_ ?_
                      · refine Same.step (badDesc_same ..) ?_
                        exact Same.refl _ _
                      · refine Same.ite0 ?_ ?_
                        · refine Same.step (postInto_same ..) ?_
                          exact Same.refl _ _
                        · exact Same.refl _ _

theorem execAllgather_same (h : Handle) (s : State) : SameO 196652 s (outSt (execAllgather h s)) := by
  have h0 := Same.refl 196652 s
  unfold execAllgather
  refine SameO.out_next ?_
  refine Same.step (collRow_same ..) ?_
  exact Same.refl _ _

theorem execAllreduce_same (h : Handle) (s : State) : SameO 196652 s (outSt (execAllreduce h s)) := by
  have h0 := Same.refl 196652 s
  unfold execAllreduce
  refine SameO.out_next ?_
  refine Same.step (collRow_same ..) ?_
  exact Same.refl _ _

theorem execBarrier_same (h : Handle) (s : State) : SameO 196652 s (outSt (execBarrier h s)) := by
  have h0 := Same.refl 196652 s
  unfold execBarrier
  refine SameO.out_next ?_
  refine Same.step (collRow_same ..) ?_
  exact Same.refl _ _

theorem execBcast_same (h : Handle) (s : State) : SameO 196652 s (outSt (execBcast h s)) := by
  have h0 := Same.refl 196652 s
  unfold execBcast
  refine SameO.out_next ?_
  refine Same.step (collRow_same ..) ?_
  exact Same.refl _ _

theorem execMcast_same (h : Handle) (s : State) : SameO 196652 s (outSt (execMcast h s)) := by
  have h0 := Same.refl 196652 s
  unfold execMcast
  refine SameO.out_next ?_
  refine Same.step (collRow_same ..) ?_
  exact Same.refl _ _

theorem execReduce_same (h : Handle) (s : State) : SameO 196652 s (outSt (execReduce h s)) := by
  have h0 := Same.refl 196652 s
  unfold execReduce
  refine SameO.out_next ?_
  refine Same.step (collRow_same ..) ?_
  exact Same.refl _ _

theorem execReduceScatter_same (h : Handle) (s : State) : SameO 196652 s (outSt (execReduceScatter h s)) := by
  have h0 := Same.refl 196652 s
  unfold execReduceScatter
  refine SameO.out_next ?_
  refine Same.step (collRow_same ..) ?_
  exact Same.refl _ _

theorem memberData_same (s : State) (i : Inst) (q : Post) (g : SegMsg) : Same 34359871628 s (memberData s i q g).1 := by
  have h0 := Same.refl 34359871628 s
  unfold memberData
  extract_lets +onlyGivenNames x_1
  refine Same.ite (f := Prod.fst) ?_ ?_
  · refine Same.pair1 ?_
    exact Same.refl _ _
  · extract_lets +onlyGivenNames x_2
    extract_lets +onlyGivenNames x_3
    refine Same.ite (f := Prod.fst) ?_ ?_
    · refine Same.ite (f := Prod.fst) ?_ ?_
      · refine Same.pair1 ?_
        exact Same.refl _ _
      · refine Same.pair1 ?_
        exact Same.refl _ _
    · extract_lets +onlyGivenNames x_4
      split
      · rename_i a_5 a_6 a_7
        refine Same.pair1 ?_
        exact Same.refl _ _
      · rename_i a_8 a_9
        split
        · rename_i a_10 a_11 a_12 a_13
          have h_14 : Same 34359871628 s a_12 := by
            refine Same.of2 ?_ a_13
            split
            · rename_i a_15 a_16 a_17
              refine Same.pair2 ?_
              exact Same.refl _ _
            · rename_i a_18 a_19
              split
              · rename_i a_20 a_21 a_22 a_23
                have h_24 : Same 34359871628 s a_22 := by
                  refine Same.of2 ?_ a_23
                  refine Same.step (newTag_same ..) ?_
                  exact Same.refl _ _
                refine Same.pair2 ?_
                refine Same.step (askRead_same ..) ?_
                exact h_24
          refine Same.ite (f := Prod.fst) ?_ ?_
          · refine Same.pair1 ?_
            exact h_14
          · refine Same.pair1 ?_
            refine Same.step (dropStat_same ..) ?_
            refine Same.step (noteEngineRead_same ..) ?_
            exact h_14

theorem memberSegment_same (s : State) (i : Inst) (m : Nat) (g : SegMsg) : Same 532576145068 s (memberSegment s i m g) := by
  have h0 := Same.refl 532576145068 s
  unfold memberSegment
  split
  · rename_i a_1 a_2
    exact Same.refl _ _
  · rename_i a_3 a_4 a_5
    extract_lets +onlyGivenNames x_6
    refine Same.ite0 ?_ ?_
    · exact Same.refl _ _
    · split
      · rename_i a_7 a_8 a_9 a_10
        have h_11 : Same 532576145068 s a_8 := by
          refine Same.of1 ?_ a_10
          refine Same.step (memberData_same ..) ?_
          exact Same.refl _ _
        refine Same.step (putInst_same ..) ?_
        exact h_11
      · rename_i a_12 a_13 a_14 a_15 a_16
        have h_17 : Same 532576145068 s a_13 := by
          refine Same.of1 ?_ a_16
          refine Same.step (memberData_same ..) ?_
          exact Same.refl _ _
        refine Same.step (putInst_same ..) ?_
        refine Same.step (endPost_same ..) ?_
        exact h_17
      · rename_i a_18 a_19 a_20 a_21 a_22
        have h_23 : Same 532576145068 s a_19 := by
          refine Same.of1 ?_ a_22
          refine Same.step (memberData_same ..) ?_
          exact Same.refl _ _
        extract_lets +onlyGivenNames x_24
        extract_lets +onlyGivenNames x_25
        extract_lets +onlyGivenNames x_26
        have h_27 : Same 532576145068 s x_26 := by
          subst x_26
          refine Same.step (askSegment_same ..) ?_
          exact h_23
        clear_value x_26
        refine Same.ite0 ?_ ?_
        · split
          · rename_i a_28 a_29 a_30 a_31
            have h_32 : Same 532576145068 s a_29 := by
              refine Same.of1 ?_ a_31
              refine Same.ite (f := Prod.fst) ?_ ?_
              · refine Same.step (assignCount_same ..) ?_
                exact h_27
              · refine Same.pair1 ?_
                exact h_27
            split
            · rename_i a_33 a_34 a_35
              refine Same.step (instRun_same ..) ?_
              refine Same.step (emit_same ..) ?_
              exact h_32
            · rename_i a_36 a_37
              refine Same.step (instRun_same ..) ?_
              refine Same.step (sendDown_same ..) ?_
              exact h_32
        · refine Same.step (instRun_same ..) ?_
          exact h_27

theorem segmentWrote_same (s : State) (i : Inst) (m : Nat) (st : Status) : Same 532576145068 s (segmentWrote s i m st) := by
  have h0 := Same.refl 532576145068 s
  unfold segmentWrote
  refine Same.ite0 ?_ ?_
  · extract_lets +onlyGivenNames x_1
    split
    · rename_i a_2 a_3
      exact Same.refl _ _
    · rename_i a_4 a_5 a_6
      refine Same.ite0 ?_ ?_
      · exact Same.refl _ _
      · split
        · rename_i a_7 a_8 a_9 a_10
          have h_11 : Same 532576145068 s a_9 := by
            refine Same.of2 ?_ a_10
            refine Same.step (newTag_same ..) ?_
            exact Same.refl _ _
          split
          · rename_i a_12 a_13 a_14 a_15 a_16
            have h_17 : Same 532576145068 s a_13 := by
              refine Same.of1 ?_ a_16
              refine Same.ite (f := Prod.fst) ?_ ?_
              · refine Same.pair1 ?_
                exact h_11
              · refine Same.ite (f := Prod.fst) ?_ ?_
                · refine Same.step (landed_same ..) ?_
                  exact h_11
                · refine Same.step (landFlag_same ..) ?_
                  exact h_11
            refine Same.step (instRun_same ..) ?_
            exact h_17
  · split
    · rename_i a_18 a_19 a_20 a_21 a_22 a_23
      split
      · rename_i a_24 a_25 a_26 a_27
        have h_28 : Same 532576145068 s a_25 := by
          refine Same.of1 ?_ a_27
          refine Same.ite (f := Prod.fst) ?_ ?_
          · refine Same.step (postWritten_same ..) ?_
            exact Same.refl _ _
          · refine Same.step (postRefused_same ..) ?_
            exact Same.refl _ _
        refine Same.step (instRun_same ..) ?_
        exact h_28
    · rename_i a_29 a_30 a_31
      exact Same.refl _ _

theorem execSegmentArrive_same (g : SegMsg) (s : State) : SameO 532577193644 s (outSt (execSegmentArrive g s)) := by
  have h0 := Same.refl 532577193644 s
  unfold execSegmentArrive
  split
  · rename_i a_1 a_2
    refine SameO.out_next ?_
    exact Same.refl _ _
  · rename_i a_3 a_4 a_5
    extract_lets +onlyGivenNames x_6
    extract_lets +onlyGivenNames x_7
    have h_8 : Same 532577193644 s x_7 := by
      subst x_7
      refine Same.foldl _ ?_ ?_
      · exact Same.refl _ _
      · intro a_9 a_10 a_11
        refine Same.step (creditBack_same ..) ?_
        exact a_11
    clear_value x_7
    refine SameO.ite (f := outSt) ?_ ?_
    · refine SameO.out_next ?_
      refine Same.step (bump_same ..) ?_
      exact h_8
    · refine SameO.ite (f := outSt) ?_ ?_
      · refine SameO.out_next ?_
        exact h_8
      · refine SameO.ite (f := outSt) ?_ ?_
        · refine SameO.out_next ?_
          refine Same.step (mismatch_same ..) ?_
          exact h_8
        · split
          · rename_i a_12 a_13 a_14
            refine SameO.out_next ?_
            refine Same.step (memberSegment_same ..) ?_
            exact h_8
          · rename_i a_15 a_16 a_17
            refine SameO.out_next ?_
            refine Same.step (childSegment_same ..) ?_
            exact h_8
          · rename_i a_18 a_19
            refine SameO.ite (f := outSt) ?_ ?_
            · refine SameO.out_next ?_
              refine Same.step (instRun_same ..) ?_
              exact h_8
            · extract_lets +onlyGivenNames x_20
              extract_lets +onlyGivenNames x_21
              refine SameO.ite (f := outSt) ?_ ?_
              · refine SameO.out_next ?_
                refine Same.step (instRun_same ..) ?_
                refine Same.step (sendDown_same ..) ?_
                exact h_8
              · refine SameO.out_next ?_
                refine Same.step (instRun_same ..) ?_
                exact h_8
          · rename_i a_22 a_23 a_24
            refine SameO.ite (f := outSt) ?_ ?_
            · refine SameO.out_next ?_
              refine Same.step (sendAck_same ..) ?_
              exact h_8
            · refine SameO.out_next ?_
              refine Same.step (instRun_same ..) ?_
              exact h_8
          · rename_i a_25 a_26 a_27
            refine SameO.out_next ?_
            refine Same.step (segmentWrote_same ..) ?_
            exact h_8
          · rename_i a_28 a_29 a_30
            refine SameO.out_next ?_
            refine Same.ite0 ?_ ?_
            · refine Same.step (rootReduced_same ..) ?_
              exact h_8
            · exact h_8
          · rename_i a_31 a_32 a_33
            refine SameO.out_next ?_
            refine Same.step (mismatch_same ..) ?_
            exact h_8

end Sys2Proof.Machine
end

