-- ==== Sys2Proof/Laws/KeepLink.lean ====
section
/-! SUPPORT. What each operation of Machine/Link.lean leaves alone: the parts it may write, as a number, and all else kept. -/

set_option linter.unusedVariables false

namespace Sys2Proof.Machine

set_option Elab.async false

theorem setLink_same (s : State) (p : Nat) (l : Link) : Same 1048576 s (setLink s p l) := by
  have h0 := Same.refl 1048576 s
  unfold setLink
  refine Same.step (Same.set_link ..) ?_
  exact Same.refl _ _

theorem acceptFlit_same (s : State) (p : Nat) (f : Flit) : Same 11534380 s (acceptFlit s p f) := by
  have h0 := Same.refl 11534380 s
  unfold acceptFlit
  extract_lets +onlyGivenNames x_1
  extract_lets +onlyGivenNames x_2
  extract_lets +onlyGivenNames x_3
  extract_lets +onlyGivenNames x_4
  have h_5 : Same 11534380 s x_4 := by
    subst x_4
    refine Same.step (setLink_same ..) ?_
    exact Same.refl _ _
  clear_value x_4
  extract_lets +onlyGivenNames x_6
  extract_lets +onlyGivenNames x_7
  have h_8 : Same 11534380 s x_7 := by
    subst x_7
    refine Same.ite0 ?_ ?_
    · refine Same.step (Same.set_link ..) ?_
      exact h_5
    · exact h_5
  clear_value x_7
  extract_lets +onlyGivenNames x_9
  have h_10 : Same 11534380 s x_9 := by
    subst x_9
    refine Same.step (bump_same ..) ?_
    exact h_8
  clear_value x_9
  refine Same.ite0 ?_ ?_
  · refine Same.step (logEvent_same ..) ?_
    refine Same.step (bump_same ..) ?_
    exact h_10
  · exact h_10

theorem sendCtl_same (s : State) (p : Nat) (what : String) (fields : List Nat) : Same 8 s (sendCtl s p what fields) := by
  have h0 := Same.refl 8 s
  unfold sendCtl
  refine Same.step (emit_same ..) ?_
  exact Same.refl _ _

theorem sendTraining_same (s : State) (p : Nat) : Same 8 s (sendTraining s p) := by
  have h0 := Same.refl 8 s
  unfold sendTraining
  split
  · rename_i a_1 a_2
    refine Same.step (sendCtl_same ..) ?_
    exact Same.refl _ _
  · rename_i a_3 a_4
    refine Same.step (sendCtl_same ..) ?_
    exact Same.refl _ _
  · rename_i a_5 a_6
    refine Same.step (sendCtl_same ..) ?_
    exact Same.refl _ _
  · rename_i a_7 a_8
    refine Same.step (sendCtl_same ..) ?_
    exact Same.refl _ _
  · rename_i a_9 a_10 a_11 a_12 a_13
    exact Same.refl _ _

theorem linkTo_same (s : State) (p : Nat) (st : LinkState) : Same 1048616 s (linkTo s p st) := by
  have h0 := Same.refl 1048616 s
  unfold linkTo
  extract_lets +onlyGivenNames x_1
  extract_lets +onlyGivenNames x_2
  have h_3 : Same 1048616 s x_2 := by
    subst x_2
    refine Same.step (setLink_same ..) ?_
    exact Same.refl _ _
  clear_value x_2
  refine Same.step (sendTraining_same ..) ?_
  refine Same.ite0 ?_ ?_
  · refine Same.step (haltBound_same ..) ?_
    exact h_3
  · exact h_3

theorem dropLink_same (s : State) (p : Nat) : Same 1048616 s (dropLink s p) := by
  have h0 := Same.refl 1048616 s
  unfold dropLink
  refine Same.step (linkTo_same ..) ?_
  exact Same.refl _ _

theorem startLink_same (s : State) (p : Nat) : Same 1048616 s (startLink s p) := by
  have h0 := Same.refl 1048616 s
  unfold startLink
  refine Same.ite0 ?_ ?_
  · refine Same.step (linkTo_same ..) ?_
    exact Same.refl _ _
  · exact Same.refl _ _

theorem startPort_same (s : State) (p : Nat) : Same 1048616 s (startPort s p) := by
  have h0 := Same.refl 1048616 s
  unfold startPort
  refine Same.ite0 ?_ ?_
  · refine Same.step (Same.set_link ..) ?_
    exact Same.refl _ _
  · refine Same.step (startLink_same ..) ?_
    exact Same.refl _ _

theorem modLink_same (s : State) (p : Nat) (f : Link → Link) : Same 1048576 s (modLink s p f) := by
  have h0 := Same.refl 1048576 s
  unfold modLink
  refine Same.step (setLink_same ..) ?_
  exact Same.refl _ _

theorem linkErr_same (s : State) (p : Nat) (bit : Nat) : Same 4 s (linkErr s p bit) := by
  have h0 := Same.refl 4 s
  unfold linkErr
  refine Same.step (setBit_same ..) ?_
  exact Same.refl _ _

theorem authFail_same (s : State) (p : Nat) : Same 11534380 s (authFail s p) := by
  have h0 := Same.refl 11534380 s
  unfold authFail
  refine Same.step (dropLink_same ..) ?_
  refine Same.step (modLink_same ..) ?_
  refine Same.step (logEvent_same ..) ?_
  refine Same.step (linkErr_same ..) ?_
  exact Same.refl _ _

theorem clearKeys_same (s : State) (p : Nat) : Same 1048580 s (clearKeys s p) := by
  have h0 := Same.refl 1048580 s
  unfold clearKeys
  refine Same.step (Same.set_regs_link ..) ?_
  exact Same.refl _ _

theorem police_same (s : State) (p : Nat) (i : Nat) (pre : Colour) (len : Nat) : Same 524288 s (police s p i pre len).2 := by
  have h0 := Same.refl 524288 s
  unfold police
  extract_lets +onlyGivenNames x_1
  extract_lets +onlyGivenNames x_2
  extract_lets +onlyGivenNames x_3
  extract_lets +onlyGivenNames x_4
  extract_lets +onlyGivenNames x_5
  extract_lets +onlyGivenNames x_6
  extract_lets +onlyGivenNames x_7
  extract_lets +onlyGivenNames x_8
  extract_lets +onlyGivenNames x_9
  extract_lets +onlyGivenNames x_10
  extract_lets +onlyGivenNames x_11
  subst x_11
  dsimp -zeta -zetaHave only
  refine Same.ite (f := Prod.snd) ?_ ?_
  · refine Same.pair2 ?_
    refine Same.step (Same.set_cong ..) ?_
    exact Same.refl _ _
  · refine Same.ite (f := Prod.snd) ?_ ?_
    · refine Same.pair2 ?_
      refine Same.step (Same.set_cong ..) ?_
      exact Same.refl _ _
    · refine Same.pair2 ?_
      refine Same.step (Same.set_cong ..) ?_
      exact Same.refl _ _

theorem colourOf_same (s : State) (p : Nat) (key : Key) (tc : Nat) (pre : Colour) (len : Nat) (tethered : Bool) : Same 524292 s (colourOf s p key tc pre len tethered).2 := by
  have h0 := Same.refl 524292 s
  unfold colourOf
  refine Same.ite (f := Prod.snd) ?_ ?_
  · refine Same.pair2 ?_
    exact Same.refl _ _
  · refine Same.ite (f := Prod.snd) ?_ ?_
    · refine Same.pair2 ?_
      exact Same.refl _ _
    · refine Same.ite (f := Prod.snd) ?_ ?_
      · refine Same.pair2 ?_
        exact Same.refl _ _
      · split
        · rename_i a_1 a_2
          refine Same.pair2 ?_
          exact Same.refl _ _
        · rename_i a_3 a_4 a_5
          split
          · rename_i a_6 a_7 a_8 a_9
            have h_10 : Same 524292 s a_8 := by
              refine Same.of2 ?_ a_9
              refine Same.step (police_same ..) ?_
              exact Same.refl _ _
            refine Same.pair2 ?_
            refine Same.step (bump_same ..) ?_
            exact h_10

theorem countCorr_same (s : State) (p : Nat) (corr : List (Fin 9 × Nat)) : Same 1048580 s (countCorr s p corr) := by
  have h0 := Same.refl 1048580 s
  unfold countCorr
  refine Same.ite0 ?_ ?_
  · exact Same.refl _ _
  · extract_lets +onlyGivenNames x_1
    have h_2 : Same 1048580 s x_1 := by
      subst x_1
      refine Same.foldl _ ?_ ?_
      · exact Same.refl _ _
      · intro a_3 a_4 a_5
        refine Same.step (bumpBy_same ..) ?_
        refine Same.step (bumpBy_same ..) ?_
        exact a_5
    clear_value x_1
    refine Same.step (modLink_same ..) ?_
    exact h_2

theorem resetSetup_same (s : State) (lo : Nat) (hi : Nat) : Same 68 s (resetSetup s lo hi) := by
  have h0 := Same.refl 68 s
  unfold resetSetup
  refine Same.foldl _ ?_ ?_
  · refine Same.step (Same.set_mgmt ..) ?_
    exact Same.refl _ _
  · intro a_1 a_2 a_3
    refine Same.ite0 ?_ ?_
    · split
      · rename_i a_4 a_5 a_6
        refine Same.step (regSet_same ..) ?_
        exact a_3
      · rename_i a_7 a_8
        exact a_3
    · exact a_3

theorem dropIsland_same (s : State) (p : Nat) : Same 37383395344672 s (dropIsland s p) := by
  have h0 := Same.refl 37383395344672 s
  unfold dropIsland
  extract_lets +onlyGivenNames x_1
  extract_lets +onlyGivenNames x_2
  have h_3 : Same 37383395344672 s x_2 := by
    subst x_2
    refine Same.foldl _ ?_ ?_
    · exact Same.refl _ _
    · intro a_4 a_5 a_6
      refine Same.step (dropFlight_same ..) ?_
      exact a_6
  clear_value x_2
  refine Same.step (Same.set_rings_ord_pool_xlateWait ..) ?_
  exact h_3

theorem portReset_same (s : State) (p : Nat) (byCtl : Bool) : Same 37383396393324 s (portReset s p byCtl) := by
  have h0 := Same.refl 37383396393324 s
  unfold portReset
  extract_lets +onlyGivenNames x_1
  extract_lets +onlyGivenNames x_2
  extract_lets +onlyGivenNames x_3
  extract_lets +onlyGivenNames x_4
  extract_lets +onlyGivenNames x_5
  have h_6 : Same 37383396393324 s x_5 := by
    subst x_5
    refine Same.step (clearKeys_same ..) ?_
    refine Same.step (setLink_same ..) ?_
    exact Same.refl _ _
  clear_value x_5
  extract_lets +onlyGivenNames x_7
  extract_lets +onlyGivenNames x_8
  have h_9 : Same 37383396393324 s x_8 := by
    subst x_8
    refine Same.step (Same.set_link ..) ?_
    exact h_6
  clear_value x_8
  extract_lets +onlyGivenNames x_10
  have h_11 : Same 37383396393324 s x_10 := by
    subst x_10
    refine Same.step (dropIsland_same ..) ?_
    exact h_9
  clear_value x_10
  extract_lets +onlyGivenNames x_12
  have h_13 : Same 37383396393324 s x_12 := by
    subst x_12
    refine Same.ite0 ?_ ?_
    · refine Same.step (haltBound_same ..) ?_
      exact h_11
    · exact h_11
  clear_value x_12
  refine Same.ite0 ?_ ?_
  · refine Same.step (setBit_same ..) ?_
    refine Same.step (resetSetup_same ..) ?_
    exact h_13
  · refine Same.step (startPort_same ..) ?_
    exact h_13

theorem cycleLink_same (s : State) (p : Nat) : Same 1048616 s (cycleLink s p) := by
  have h0 := Same.refl 1048616 s
  unfold cycleLink
  refine Same.step (startLink_same ..) ?_
  refine Same.step (dropLink_same ..) ?_
  exact Same.refl _ _

theorem detectLink_same (s : State) (p : Nat) : Same 1048616 s (detectLink s p) := by
  have h0 := Same.refl 1048616 s
  unfold detectLink
  refine Same.ite0 ?_ ?_
  · refine Same.step (linkTo_same ..) ?_
    exact Same.refl _ _
  · refine Same.step (linkTo_same ..) ?_
    exact Same.refl _ _

theorem sendIdle_same (s : State) (p : Nat) : Same 1048588 s (sendIdle s p) := by
  have h0 := Same.refl 1048588 s
  unfold sendIdle
  extract_lets +onlyGivenNames x_1
  refine Same.step (sendCtl_same ..) ?_
  refine Same.step (bump_same ..) ?_
  refine Same.step (setLink_same ..) ?_
  exact Same.refl _ _

theorem execAckTimer_same (p : PortId) (s : State) : SameO 1048588 s (outSt (execAckTimer p s)) := by
  have h0 := Same.refl 1048588 s
  unfold execAckTimer
  extract_lets +onlyGivenNames x_1
  refine SameO.ite (f := outSt) ?_ ?_
  · refine SameO.out_next ?_
    refine Same.step (sendIdle_same ..) ?_
    exact Same.refl _ _
  · refine SameO.out_next ?_
    exact Same.refl _ _

theorem trainFailed_same (s : State) (p : Nat) : Same 1048620 s (trainFailed s p) := by
  have h0 := Same.refl 1048620 s
  unfold trainFailed
  extract_lets +onlyGivenNames x_1
  extract_lets +onlyGivenNames x_2
  have h_3 : Same 1048620 s x_2 := by
    subst x_2
    refine Same.step (detectLink_same ..) ?_
    refine Same.step (modLink_same ..) ?_
    exact Same.refl _ _
  clear_value x_2
  refine Same.ite0 ?_ ?_
  · refine Same.step (linkErr_same ..) ?_
    refine Same.step (modLink_same ..) ?_
    exact h_3
  · exact h_3

theorem reportTrunk_same (s : State) (p : Nat) (peer : Nat) (peerPort : Nat) : Same 2228236 s (reportTrunk s p peer peerPort) := by
  have h0 := Same.refl 2228236 s
  unfold reportTrunk
  extract_lets +onlyGivenNames x_1
  extract_lets +onlyGivenNames x_2
  extract_lets +onlyGivenNames x_3
  have h_4 : Same 2228236 s x_3 := by
    subst x_3
    refine Same.step (Same.set_ras ..) ?_
    exact Same.refl _ _
  clear_value x_3
  refine Same.foldl _ ?_ ?_
  · exact h_4
  · intro a_5 a_6 a_7
    refine Same.step (sendSwitch_same ..) ?_
    exact a_7

theorem resendFrom_same (s : State) (p : Nat) (k : Nat) : Same 1048588 s (resendFrom s p k) := by
  have h0 := Same.refl 1048588 s
  unfold resendFrom
  extract_lets +onlyGivenNames x_1
  extract_lets +onlyGivenNames x_2
  extract_lets +onlyGivenNames x_3
  have h_4 : Same 1048588 s x_3 := by
    subst x_3
    refine Same.step (setLink_same ..) ?_
    exact Same.refl _ _
  clear_value x_3
  refine Same.step (sendCtl_same ..) ?_
  refine Same.step (bumpBy_same ..) ?_
  exact h_4

theorem linkActive_same (s : State) (p : Nat) (w : Nat) (enc : Bool) (c : ConfigMsg) : Same 37383398621484 s (linkActive s p w enc c) := by
  have h0 := Same.refl 37383398621484 s
  unfold linkActive
  extract_lets +onlyGivenNames x_1
  extract_lets +onlyGivenNames x_2
  extract_lets +onlyGivenNames x_3
  extract_lets +onlyGivenNames x_4
  extract_lets +onlyGivenNames x_5
  extract_lets +onlyGivenNames x_6
  extract_lets +onlyGivenNames x_7
  have h_8 : Same 37383398621484 s x_7 := by
    subst x_7
    refine Same.step (setLink_same ..) ?_
    exact Same.refl _ _
  clear_value x_7
  extract_lets +onlyGivenNames x_9
  have h_10 : Same 37383398621484 s x_9 := by
    subst x_9
    refine Same.ite0 ?_ ?_
    · refine Same.step (bump_same ..) ?_
      exact h_8
    · exact h_8
  clear_value x_9
  extract_lets +onlyGivenNames x_11
  have h_12 : Same 37383398621484 s x_11 := by
    subst x_11
    refine Same.step (dropIsland_same ..) ?_
    refine Same.step (linkErr_same ..) ?_
    exact h_10
  clear_value x_11
  extract_lets +onlyGivenNames x_13
  have h_14 : Same 37383398621484 s x_13 := by
    subst x_13
    refine Same.ite0 ?_ ?_
    · refine Same.ite0 ?_ ?_
      · refine Same.step (haltBound_same ..) ?_
        exact h_12
      · exact h_12
    · exact h_10
  clear_value x_13
  extract_lets +onlyGivenNames x_15
  have h_16 : Same 37383398621484 s x_15 := by
    subst x_15
    refine Same.step (sendCtl_same ..) ?_
    exact h_14
  clear_value x_15
  extract_lets +onlyGivenNames x_17
  have h_18 : Same 37383398621484 s x_17 := by
    subst x_17
    refine Same.ite0 ?_ ?_
    · refine Same.step (reportTrunk_same ..) ?_
      exact h_16
    · exact h_16
  clear_value x_17
  refine Same.ite0 ?_ ?_
  · exact h_18
  · refine Same.step (resendFrom_same ..) ?_
    exact h_18

theorem execConfig_same (p : PortId) (c : ConfigMsg) (s : State) : SameO 37383398621484 s (outSt (execConfig p c s)) := by
  have h0 := Same.refl 37383398621484 s
  unfold execConfig
  extract_lets +onlyGivenNames x_1
  refine SameO.ite (f := outSt) ?_ ?_
  · refine SameO.out_next ?_
    exact Same.refl _ _
  · extract_lets +onlyGivenNames x_2
    extract_lets +onlyGivenNames x_3
    extract_lets +onlyGivenNames x_4
    extract_lets +onlyGivenNames x_5
    extract_lets +onlyGivenNames x_6
    refine SameO.ite (f := outSt) ?_ ?_
    · refine SameO.out_next ?_
      refine Same.step (trainFailed_same ..) ?_
      refine Same.step (linkErr_same ..) ?_
      exact Same.refl _ _
    · split
      · rename_i a_7 a_8
        refine SameO.out_next ?_
        refine Same.step (trainFailed_same ..) ?_
        refine Same.step (linkErr_same ..) ?_
        exact Same.refl _ _
      · rename_i a_9 a_10 a_11
        refine SameO.ite (f := outSt) ?_ ?_
        · refine SameO.out_next ?_
          refine Same.step (trainFailed_same ..) ?_
          refine Same.step (linkErr_same ..) ?_
          exact Same.refl _ _
        · refine SameO.out_next ?_
          refine Same.step (linkActive_same ..) ?_
          exact Same.refl _ _

theorem leaveActive_same (s : State) (p : Nat) : Same 1048620 s (leaveActive s p) := by
  have h0 := Same.refl 1048620 s
  unfold leaveActive
  extract_lets +onlyGivenNames x_1
  have h_2 : Same 1048620 s x_1 := by
    subst x_1
    refine Same.step (linkErr_same ..) ?_
    exact Same.refl _ _
  clear_value x_1
  refine Same.ite0 ?_ ?_
  · refine Same.step (linkTo_same ..) ?_
    exact h_2
  · refine Same.step (bump_same ..) ?_
    refine Same.step (detectLink_same ..) ?_
    exact h_2

theorem retrainLink_same (s : State) (p : Nat) : Same 1048620 s (retrainLink s p) := by
  have h0 := Same.refl 1048620 s
  unfold retrainLink
  refine Same.ite0 ?_ ?_
  · refine Same.step (leaveActive_same ..) ?_
    refine Same.step (sendCtl_same ..) ?_
    exact Same.refl _ _
  · exact Same.refl _ _

theorem takeCredit_same (s : State) (p : Nat) (ch : Nat) (v : Nat) : Same 1048620 s (takeCredit s p ch v) := by
  have h0 := Same.refl 1048620 s
  unfold takeCredit
  extract_lets +onlyGivenNames x_1
  split
  · rename_i a_2 a_3
    refine Same.step (setLink_same ..) ?_
    exact Same.refl _ _
  · rename_i a_4 a_5 a_6
    extract_lets +onlyGivenNames x_7
    refine Same.ite0 ?_ ?_
    · refine Same.step (retrainLink_same ..) ?_
      refine Same.step (linkErr_same ..) ?_
      exact Same.refl _ _
    · refine Same.step (setLink_same ..) ?_
      exact Same.refl _ _

theorem execCredit_same (p : PortId) (ch : Fin 9) (value : BitVec 12) (s : State) : SameO 1048620 s (outSt (execCredit p ch value s)) := by
  have h0 := Same.refl 1048620 s
  unfold execCredit
  refine SameO.ite (f := outSt) ?_ ?_
  · refine SameO.out_next ?_
    refine Same.step (takeCredit_same ..) ?_
    exact Same.refl _ _
  · refine SameO.out_next ?_
    exact Same.refl _ _

theorem resetByCtl_same (s : State) (p : Nat) : Same 37383396393324 s (resetByCtl s p) := by
  have h0 := Same.refl 37383396393324 s
  unfold resetByCtl
  refine Same.ite0 ?_ ?_
  · refine Same.step (portReset_same ..) ?_
    refine Same.step (portReset_same ..) ?_
    exact Same.refl _ _
  · refine Same.step (portReset_same ..) ?_
    exact Same.refl _ _

theorem snapPort_same (s : State) (p : Nat) : Same 4 s (snapPort s p) := by
  have h0 := Same.refl 4 s
  unfold snapPort
  extract_lets +onlyGivenNames x_1
  refine Same.foldl _ ?_ ?_
  · exact Same.refl _ _
  · intro a_2 a_3 a_4
    refine Same.step (regSet_same ..) ?_
    exact a_4

theorem execEpmsg_same (p : PortId) (dst : Endpoint) (tc : Tc) (flow : BitVec 16) (key : Key) (colour : Colour) (data : Line) (s : State) : SameO 1572876 s (outSt (execEpmsg p dst tc flow key colour data s)) := by
  have h0 := Same.refl 1572876 s
  unfold execEpmsg
  extract_lets +onlyGivenNames x_1
  have h_2 : Same 1572876 s x_1 := by
    subst x_1
    refine Same.step (creditBack_same ..) ?_
    exact Same.refl _ _
  clear_value x_1
  refine SameO.ite (f := outSt) ?_ ?_
  · refine SameO.out_next ?_
    exact h_2
  · refine SameO.ite (f := outSt) ?_ ?_
    · refine SameO.out_next ?_
      refine Same.step (bump_same ..) ?_
      exact h_2
    · extract_lets +onlyGivenNames x_3
      extract_lets +onlyGivenNames x_4
      extract_lets +onlyGivenNames x_5
      split
      · rename_i a_6 a_7 a_8 a_9
        have h_10 : Same 1572876 s a_8 := by
          refine Same.of2 ?_ a_9
          refine Same.step (colourOf_same ..) ?_
          exact h_2
        extract_lets +onlyGivenNames x_11
        subst x_11
        dsimp -zeta -zetaHave only
        extract_lets +onlyGivenNames x_12
        subst x_12
        dsimp -zeta -zetaHave only
        split
        · rename_i a_13 a_14 a_15
          clear_value x_4
          split
          · rename_i a_16
            refine SameO.out_next ?_
            refine Same.step (bump_same ..) ?_
            exact h_10
          · rename_i a_17
            refine SameO.out_next ?_
            refine Same.ite0 ?_ ?_
            · refine Same.step (bump_same ..) ?_
              exact h_10
            · refine Same.ite0 ?_ ?_
              · refine Same.step (bump_same ..) ?_
                exact h_10
              · refine Same.step (pushEgress_same ..) ?_
                exact h_10
          · rename_i a_18 a_19
            split
            · rename_i a_20 a_21 a_22
              refine SameO.out_next ?_
              refine Same.ite0 ?_ ?_
              · refine Same.step (bump_same ..) ?_
                exact h_10
              · refine Same.ite0 ?_ ?_
                · refine Same.step (bump_same ..) ?_
                  exact h_10
                · refine Same.step (pushEgress_same ..) ?_
                  exact h_10
            · rename_i a_23 a_24
              refine SameO.out_next ?_
              refine Same.step (bump_same ..) ?_
              exact h_10
        · rename_i a_25 a_26
          clear_value x_4
          split
          · rename_i a_27
            refine SameO.out_next ?_
            refine Same.step (bump_same ..) ?_
            exact h_10
          · rename_i a_28
            refine SameO.out_next ?_
            exact h_10
          · rename_i a_29 a_30
            split
            · rename_i a_31 a_32 a_33
              refine SameO.out_next ?_
              refine Same.ite0 ?_ ?_
              · refine Same.step (bump_same ..) ?_
                exact h_10
              · refine Same.ite0 ?_ ?_
                · refine Same.step (bump_same ..) ?_
                  exact h_10
                · refine Same.step (pushEgress_same ..) ?_
                  exact h_10
            · rename_i a_34 a_35
              refine SameO.out_next ?_
              refine Same.step (bump_same ..) ?_
              exact h_10

theorem narrowLink_same (s : State) (p : Nat) (j : Nat) (why : Nat × Nat × Nat) : Same 11534380 s (narrowLink s p j why) := by
  have h0 := Same.refl 11534380 s
  unfold narrowLink
  extract_lets +onlyGivenNames x_1
  extract_lets +onlyGivenNames x_2
  have h_3 : Same 11534380 s x_2 := by
    subst x_2
    refine Same.step (logEvent_same ..) ?_
    refine Same.step (linkErr_same ..) ?_
    exact Same.refl _ _
  clear_value x_2
  refine Same.ite0 ?_ ?_
  · refine Same.step (cycleLink_same ..) ?_
    exact h_3
  · refine Same.step (retrainLink_same ..) ?_
    refine Same.step (modLink_same ..) ?_
    exact h_3

theorem laneFault_same (s : State) (p : Nat) (j : Nat) (why : Nat × Nat × Nat) : Same 11534380 s (laneFault s p j why) := by
  have h0 := Same.refl 11534380 s
  unfold laneFault
  refine Same.ite0 ?_ ?_
  · refine Same.step (sendCtl_same ..) ?_
    refine Same.step (modLink_same ..) ?_
    exact Same.refl _ _
  · refine Same.step (narrowLink_same ..) ?_
    exact Same.refl _ _

theorem serCheck_same (s : State) (p : Nat) : Same 11534380 s (serCheck s p) := by
  have h0 := Same.refl 11534380 s
  unfold serCheck
  extract_lets +onlyGivenNames x_1
  extract_lets +onlyGivenNames x_2
  split
  · rename_i a_3 a_4 a_5 a_6
    refine Same.ite0 ?_ ?_
    · refine Same.step (laneFault_same ..) ?_
      refine Same.step (modLink_same ..) ?_
      exact Same.refl _ _
    · exact Same.refl _ _
  · rename_i a_7 a_8
    exact Same.refl _ _

theorem rejectCtl_same (s : State) (p : Nat) (tag : Bool) : Same 11534380 s (rejectCtl s p tag) := by
  have h0 := Same.refl 11534380 s
  unfold rejectCtl
  refine Same.ite0 ?_ ?_
  · extract_lets +onlyGivenNames x_1
    have h_2 : Same 11534380 s x_1 := by
      subst x_1
      refine Same.step (modLink_same ..) ?_
      exact Same.refl _ _
    clear_value x_1
    refine Same.ite0 ?_ ?_
    · refine Same.step (authFail_same ..) ?_
      exact h_2
    · exact h_2
  · exact Same.refl _ _

theorem takeAck_same (s : State) (p : Nat) (a : Nat) : Same 1048576 s (takeAck s p a) := by
  have h0 := Same.refl 1048576 s
  unfold takeAck
  extract_lets +onlyGivenNames x_1
  split
  · rename_i a_2 a_3
    exact Same.refl _ _
  · rename_i a_4 a_5 a_6
    extract_lets +onlyGivenNames x_7
    refine Same.step (setLink_same ..) ?_
    exact Same.refl _ _

theorem takeHeader_same (s : State) (p : Nat) (f : Flit) : Same 1048620 s (takeHeader s p f) := by
  have h0 := Same.refl 1048620 s
  unfold takeHeader
  extract_lets +onlyGivenNames x_1
  have h_2 : Same 1048620 s x_1 := by
    subst x_1
    split
    · rename_i a_3 a_4 a_5
      refine Same.step (takeAck_same ..) ?_
      exact Same.refl _ _
    · rename_i a_6 a_7
      exact Same.refl _ _
  clear_value x_1
  split
  · rename_i a_8 a_9 a_10 a_11
    refine Same.step (takeCredit_same ..) ?_
    exact h_2
  · rename_i a_12 a_13
    exact h_2

theorem sendNak_same (s : State) (p : Nat) : Same 1048588 s (sendNak s p) := by
  have h0 := Same.refl 1048588 s
  unfold sendNak
  extract_lets +onlyGivenNames x_1
  refine Same.step (sendCtl_same ..) ?_
  refine Same.step (bump_same ..) ?_
  refine Same.step (setLink_same ..) ?_
  exact Same.refl _ _

theorem rejectFlit_same (s : State) (p : Nat) (lane : Option Nat) (tag : Bool) : Same 11534380 s (rejectFlit s p lane tag) := by
  have h0 := Same.refl 11534380 s
  unfold rejectFlit
  extract_lets +onlyGivenNames x_1
  extract_lets +onlyGivenNames x_2
  extract_lets +onlyGivenNames x_3
  extract_lets +onlyGivenNames x_4
  extract_lets +onlyGivenNames x_5
  have h_6 : Same 11534380 s x_5 := by
    subst x_5
    refine Same.step (sendNak_same ..) ?_
    refine Same.step (setLink_same ..) ?_
    exact Same.refl _ _
  clear_value x_5
  refine Same.ite0 ?_ ?_
  · refine Same.step (authFail_same ..) ?_
    exact h_6
  · refine Same.ite0 ?_ ?_
    · refine Same.step (cycleLink_same ..) ?_
      refine Same.step (logEvent_same ..) ?_
      exact h_6
    · refine Same.ite0 ?_ ?_
      · extract_lets +onlyGivenNames x_7
        have h_8 : Same 11534380 s x_7 := by
          subst x_7
          refine Same.step (linkErr_same ..) ?_
          refine Same.step (bump_same ..) ?_
          exact h_6
        clear_value x_7
        clear_value x_3
        split
        · rename_i a_9 a_10
          refine Same.step (laneFault_same ..) ?_
          exact h_8
        · rename_i a_11
          refine Same.step (retrainLink_same ..) ?_
          refine Same.step (logEvent_same ..) ?_
          exact h_8
      · exact h_6

theorem takeFlit_same (s : State) (q : Nat) (f : Flit) : Same 11534380 s (takeFlit s q f) := by
  have h0 := Same.refl 11534380 s
  unfold takeFlit
  extract_lets +onlyGivenNames x_1
  extract_lets +onlyGivenNames x_2
  extract_lets +onlyGivenNames x_3
  subst x_3
  dsimp -zeta -zetaHave only
  clear_value x_2
  split
  · rename_i a_4 a_5
    refine Same.ite0 ?_ ?_
    · refine Same.step (rejectCtl_same ..) ?_
      refine Same.step (bump_same ..) ?_
      exact Same.refl _ _
    · refine Same.ite0 ?_ ?_
      · refine Same.step (rejectFlit_same ..) ?_
        refine Same.step (bump_same ..) ?_
        exact Same.refl _ _
      · refine Same.step (bump_same ..) ?_
        exact Same.refl _ _
  · rename_i a_6
    refine Same.ite0 ?_ ?_
    · refine Same.step (rejectCtl_same ..) ?_
      refine Same.step (bump_same ..) ?_
      exact Same.refl _ _
    · refine Same.ite0 ?_ ?_
      · refine Same.step (rejectFlit_same ..) ?_
        refine Same.step (bump_same ..) ?_
        exact Same.refl _ _
      · refine Same.step (bump_same ..) ?_
        exact Same.refl _ _
  · rename_i a_7
    refine Same.ite0 ?_ ?_
    · refine Same.step (rejectCtl_same ..) ?_
      refine Same.step (bump_same ..) ?_
      exact Same.refl _ _
    · refine Same.ite0 ?_ ?_
      · refine Same.step (rejectFlit_same ..) ?_
        refine Same.step (bump_same ..) ?_
        exact Same.refl _ _
      · refine Same.step (bump_same ..) ?_
        exact Same.refl _ _
  · rename_i a_8
    refine Same.ite0 ?_ ?_
    · refine Same.step (rejectCtl_same ..) ?_
      refine Same.step (linkErr_same ..) ?_
      refine Same.step (bump_same ..) ?_
      exact Same.refl _ _
    · refine Same.ite0 ?_ ?_
      · refine Same.step (rejectFlit_same ..) ?_
        refine Same.step (linkErr_same ..) ?_
        refine Same.step (bump_same ..) ?_
        exact Same.refl _ _
      · refine Same.step (linkErr_same ..) ?_
        refine Same.step (bump_same ..) ?_
        exact Same.refl _ _
  · rename_i a_9
    refine Same.ite0 ?_ ?_
    · refine Same.ite0 ?_ ?_
      · exact Same.refl _ _
      · refine Same.step (takeHeader_same ..) ?_
        refine Same.step (setLink_same ..) ?_
        exact Same.refl _ _
    · refine Same.ite0 ?_ ?_
      · refine Same.step (takeHeader_same ..) ?_
        refine Same.step (acceptFlit_same ..) ?_
        exact Same.refl _ _
      · exact Same.refl _ _

theorem execFlitReceive_same (p : PortId) (f : Flit) (s : State) : SameO 11534380 s (outSt (execFlitReceive p f s)) := by
  have h0 := Same.refl 11534380 s
  unfold execFlitReceive
  refine SameO.ite (f := outSt) ?_ ?_
  · refine SameO.out_next ?_
    exact Same.refl _ _
  · refine SameO.out_next ?_
    refine Same.step (serCheck_same ..) ?_
    refine Same.step (takeFlit_same ..) ?_
    refine Same.step (countCorr_same ..) ?_
    exact Same.refl _ _

theorem execFullRetrain_same (p : PortId) (s : State) : SameO 1048620 s (outSt (execFullRetrain p s)) := by
  have h0 := Same.refl 1048620 s
  unfold execFullRetrain
  extract_lets +onlyGivenNames x_1
  refine SameO.ite (f := outSt) ?_ ?_
  · refine SameO.out_next ?_
    refine Same.step (startLink_same ..) ?_
    refine Same.step (setLink_same ..) ?_
    exact Same.refl _ _
  · refine SameO.ite (f := outSt) ?_ ?_
    · refine SameO.out_next ?_
      refine Same.step (bump_same ..) ?_
      refine Same.step (detectLink_same ..) ?_
      refine Same.step (setLink_same ..) ?_
      refine Same.step (linkErr_same ..) ?_
      exact Same.refl _ _
    · refine SameO.out_next ?_
      exact Same.refl _ _

theorem execIdle_same (p : PortId) (s : State) : SameO 1048588 s (outSt (execIdle p s)) := by
  have h0 := Same.refl 1048588 s
  unfold execIdle
  refine SameO.ite (f := outSt) ?_ ?_
  · refine SameO.out_next ?_
    refine Same.step (sendIdle_same ..) ?_
    exact Same.refl _ _
  · refine SameO.out_next ?_
    exact Same.refl _ _

theorem execLaneAck_same (p : PortId) (lane : Fin 8) (s : State) : SameO 1048576 s (outSt (execLaneAck p lane s)) := by
  have h0 := Same.refl 1048576 s
  unfold execLaneAck
  extract_lets +onlyGivenNames x_1
  refine SameO.ite (f := outSt) ?_ ?_
  · refine SameO.out_next ?_
    refine Same.step (setLink_same ..) ?_
    exact Same.refl _ _
  · refine SameO.out_next ?_
    exact Same.refl _ _

theorem execLaneReplaceTimeout_same (p : PortId) (s : State) : SameO 1048620 s (outSt (execLaneReplaceTimeout p s)) := by
  have h0 := Same.refl 1048620 s
  unfold execLaneReplaceTimeout
  extract_lets +onlyGivenNames x_1
  extract_lets +onlyGivenNames x_2
  refine SameO.ite (f := outSt) ?_ ?_
  · extract_lets +onlyGivenNames x_3
    have h_4 : Same 1048620 s x_3 := by
      subst x_3
      refine Same.step (sendCtl_same ..) ?_
      refine Same.step (setLink_same ..) ?_
      exact Same.refl _ _
    clear_value x_3
    refine SameO.out_next ?_
    refine Same.step (retrainLink_same ..) ?_
    exact h_4
  · refine SameO.out_next ?_
    exact Same.refl _ _

theorem execLaneReq_same (p : PortId) (lane : Fin 8) (op : LaneOp) (s : State) : SameO 1048620 s (outSt (execLaneReq p lane op s)) := by
  have h0 := Same.refl 1048620 s
  unfold execLaneReq
  extract_lets +onlyGivenNames x_1
  refine SameO.ite (f := outSt) ?_ ?_
  · refine SameO.out_next ?_
    exact Same.refl _ _
  · split
    · rename_i a_2
      refine SameO.ite (f := outSt) ?_ ?_
      · refine SameO.out_next ?_
        refine Same.step (sendCtl_same ..) ?_
        refine Same.step (setLink_same ..) ?_
        exact Same.refl _ _
      · refine SameO.out_next ?_
        exact Same.refl _ _
    · rename_i a_3
      refine SameO.out_next ?_
      refine Same.step (setLink_same ..) ?_
      exact Same.refl _ _
    · rename_i a_4
      refine SameO.out_next ?_
      refine Same.step (retrainLink_same ..) ?_
      refine Same.step (setLink_same ..) ?_
      exact Same.refl _ _

theorem execNak_same (p : PortId) (fseq : BitVec 12) (s : State) : SameO 1048588 s (outSt (execNak p fseq s)) := by
  have h0 := Same.refl 1048588 s
  unfold execNak
  extract_lets +onlyGivenNames x_1
  refine SameO.ite (f := outSt) ?_ ?_
  · refine SameO.out_next ?_
    exact Same.refl _ _
  · split
    · rename_i a_2 a_3 a_4
      refine SameO.out_next ?_
      refine Same.step (resendFrom_same ..) ?_
      exact Same.refl _ _
    · rename_i a_5 a_6
      refine SameO.out_next ?_
      exact Same.refl _ _

theorem execNakRepeat_same (p : PortId) (s : State) : SameO 1048588 s (outSt (execNakRepeat p s)) := by
  have h0 := Same.refl 1048588 s
  unfold execNakRepeat
  extract_lets +onlyGivenNames x_1
  refine SameO.ite (f := outSt) ?_ ?_
  · refine SameO.out_next ?_
    refine Same.step (sendNak_same ..) ?_
    exact Same.refl _ _
  · refine SameO.out_next ?_
    exact Same.refl _ _

theorem execPortReset_same (p : PortId) (s : State) : SameO 37383400587628 s (outSt (execPortReset p s)) := by
  have h0 := Same.refl 37383400587628 s
  unfold execPortReset
  refine SameO.ite (f := outSt) ?_ ?_
  · refine SameO.out_next ?_
    refine Same.step (Same.set_sys ..) ?_
    exact Same.refl _ _
  · refine SameO.out_next ?_
    refine Same.step (resetByCtl_same ..) ?_
    exact Same.refl _ _

theorem execPortTelSnap_same (p : PortId) (s : State) : SameO 4 s (outSt (execPortTelSnap p s)) := by
  have h0 := Same.refl 4 s
  unfold execPortTelSnap
  refine SameO.out_next ?_
  refine Same.step (setBit_same ..) ?_
  refine Same.step (snapPort_same ..) ?_
  exact Same.refl _ _

theorem execReplayTimeout_same (p : PortId) (s : State) : SameO 1048588 s (outSt (execReplayTimeout p s)) := by
  have h0 := Same.refl 1048588 s
  unfold execReplayTimeout
  extract_lets +onlyGivenNames x_1
  split
  · rename_i a_2 a_3
    refine SameO.out_next ?_
    exact Same.refl _ _
  · rename_i a_4 a_5 a_6 a_7
    refine SameO.ite (f := outSt) ?_ ?_
    · refine SameO.out_next ?_
      refine Same.step (bump_same ..) ?_
      refine Same.step (resendFrom_same ..) ?_
      exact Same.refl _ _
    · refine SameO.out_next ?_
      exact Same.refl _ _

theorem execRetrain_same (p : PortId) (s : State) : SameO 1048620 s (outSt (execRetrain p s)) := by
  have h0 := Same.refl 1048620 s
  unfold execRetrain
  extract_lets +onlyGivenNames x_1
  refine SameO.ite (f := outSt) ?_ ?_
  · refine SameO.out_next ?_
    refine Same.step (startLink_same ..) ?_
    refine Same.step (setLink_same ..) ?_
    exact Same.refl _ _
  · refine SameO.out_next ?_
    refine Same.step (retrainLink_same ..) ?_
    exact Same.refl _ _

theorem execRetrainReq_same (p : PortId) (s : State) : SameO 1048620 s (outSt (execRetrainReq p s)) := by
  have h0 := Same.refl 1048620 s
  unfold execRetrainReq
  refine SameO.ite (f := outSt) ?_ ?_
  · refine SameO.out_next ?_
    refine Same.step (leaveActive_same ..) ?_
    exact Same.refl _ _
  · refine SameO.out_next ?_
    exact Same.refl _ _

theorem execRoll_same (p : PortId) (s : State) : SameO 1048576 s (outSt (execRoll p s)) := by
  have h0 := Same.refl 1048576 s
  unfold execRoll
  extract_lets +onlyGivenNames x_1
  refine SameO.ite (f := outSt) ?_ ?_
  · refine SameO.out_next ?_
    exact Same.refl _ _
  · extract_lets +onlyGivenNames x_2
    refine SameO.out_next ?_
    refine Same.step (setLink_same ..) ?_
    exact Same.refl _ _

theorem retireOdd_same (s : State) (p : Nat) : Same 37383396393248 s (retireOdd s p) := by
  have h0 := Same.refl 37383396393248 s
  unfold retireOdd
  refine Same.ite0 ?_ ?_
  · refine Same.step (haltBound_same ..) ?_
    refine Same.step (dropIsland_same ..) ?_
    refine Same.step (Same.set_link ..) ?_
    exact Same.refl _ _
  · exact Same.refl _ _

theorem takeSpare_same (s : State) (p : Nat) (j : Nat) : Same 1048580 s (takeSpare s p j) := by
  have h0 := Same.refl 1048580 s
  unfold takeSpare
  extract_lets +onlyGivenNames x_1
  refine Same.ite0 ?_ ?_
  · exact Same.refl _ _
  · extract_lets +onlyGivenNames x_2
    have h_3 : Same 1048580 s x_2 := by
      subst x_2
      refine Same.step (linkErr_same ..) ?_
      refine Same.step (bump_same ..) ?_
      exact Same.refl _ _
    clear_value x_2
    refine Same.step (setFld_same ..) ?_
    refine Same.step (setFld_same ..) ?_
    refine Same.step (setLink_same ..) ?_
    exact h_3

theorem execSpareRxAdapted_same (p : PortId) (s : State) : SameO 11534380 s (outSt (execSpareRxAdapted p s)) := by
  have h0 := Same.refl 11534380 s
  unfold execSpareRxAdapted
  extract_lets +onlyGivenNames x_1
  split
  · rename_i a_2 a_3
    refine SameO.out_next ?_
    exact Same.refl _ _
  · rename_i a_4 a_5 a_6
    refine SameO.ite (f := outSt) ?_ ?_
    · refine SameO.out_next ?_
      exact Same.refl _ _
    · extract_lets +onlyGivenNames x_7
      extract_lets +onlyGivenNames x_8
      have h_9 : Same 11534380 s x_8 := by
        subst x_8
        refine Same.step (setLink_same ..) ?_
        exact Same.refl _ _
      clear_value x_8
      extract_lets +onlyGivenNames x_10
      have h_11 : Same 11534380 s x_10 := by
        subst x_10
        refine Same.step (sendCtl_same ..) ?_
        exact h_9
      clear_value x_10
      extract_lets +onlyGivenNames x_12
      have h_13 : Same 11534380 s x_12 := by
        subst x_12
        refine Same.step (errorRecord_same ..) ?_
        refine Same.step (takeSpare_same ..) ?_
        exact h_11
      clear_value x_12
      refine SameO.out_next ?_
      refine Same.step (sendCtl_same ..) ?_
      exact h_13

theorem execSuperframeMarker_same (p : PortId) (m : Marker17) (s : State) : SameO 1048620 s (outSt (execSuperframeMarker p m s)) := by
  have h0 := Same.refl 1048620 s
  unfold execSuperframeMarker
  extract_lets +onlyGivenNames x_1
  refine SameO.ite (f := outSt) ?_ ?_
  · refine SameO.out_next ?_
    exact Same.refl _ _
  · extract_lets +onlyGivenNames x_2
    extract_lets +onlyGivenNames x_3
    extract_lets +onlyGivenNames x_4
    extract_lets +onlyGivenNames x_5
    extract_lets +onlyGivenNames x_6
    have h_7 : Same 1048620 s x_6 := by
      subst x_6
      refine Same.step (setLink_same ..) ?_
      exact Same.refl _ _
    clear_value x_6
    extract_lets +onlyGivenNames x_8
    have h_9 : Same 1048620 s x_8 := by
      subst x_8
      refine Same.ite0 ?_ ?_
      · refine Same.step (sendCtl_same ..) ?_
        exact h_7
      · exact h_7
    clear_value x_8
    refine SameO.ite (f := outSt) ?_ ?_
    · refine SameO.out_next ?_
      refine Same.ite0 ?_ ?_
      · refine Same.step (retrainLink_same ..) ?_
        exact h_9
      · refine Same.step (setLink_same ..) ?_
        exact Same.refl _ _
    · refine SameO.ite (f := outSt) ?_ ?_
      · extract_lets +onlyGivenNames x_10
        have h_11 : Same 1048620 s x_10 := by
          subst x_10
          refine Same.step (setLink_same ..) ?_
          exact Same.refl _ _
        clear_value x_10
        split
        · rename_i a_12 a_13 a_14
          refine SameO.out_next ?_
          refine Same.ite0 ?_ ?_
          · refine Same.step (takeSpare_same ..) ?_
            exact h_11
          · exact h_11
        · rename_i a_15 a_16
          refine SameO.out_next ?_
          exact h_11
      · refine SameO.out_next ?_
        exact h_9

theorem sampleSet_same (s : State) (p : Nat) (set : Nat) (q : List EPkt) : Same 524288 s (sampleSet s p set q) := by
  have h0 := Same.refl 524288 s
  unfold sampleSet
  extract_lets +onlyGivenNames x_1
  extract_lets +onlyGivenNames x_2
  extract_lets +onlyGivenNames x_3
  refine Same.step (Same.set_cong ..) ?_
  exact Same.refl _ _

theorem execTelemetrySample_same (p : PortId) (s : State) : SameO 524288 s (outSt (execTelemetrySample p s)) := by
  have h0 := Same.refl 524288 s
  unfold execTelemetrySample
  extract_lets +onlyGivenNames x_1
  refine SameO.ite (f := outSt) ?_ ?_
  · refine SameO.out_next ?_
    exact Same.refl _ _
  · extract_lets +onlyGivenNames x_2
    extract_lets +onlyGivenNames x_3
    have h_4 : Same 524288 s x_3 := by
      subst x_3
      refine Same.step (Same.set_cong ..) ?_
      exact Same.refl _ _
    clear_value x_3
    extract_lets +onlyGivenNames x_5
    have h_6 : Same 524288 s x_5 := by
      subst x_5
      refine Same.foldl _ ?_ ?_
      · exact h_4
      · intro a_7 a_8 a_9
        refine Same.step (sampleSet_same ..) ?_
        exact a_9
    clear_value x_5
    refine SameO.out_next ?_
    refine Same.foldl _ ?_ ?_
    · exact h_6
    · intro a_10 a_11 a_12
      extract_lets +onlyGivenNames x_13
      refine Same.ite0 ?_ ?_
      · refine Same.step (sampleSet_same ..) ?_
        exact a_12
      · exact a_12

theorem execTrainRetryTimer_same (p : PortId) (s : State) : SameO 1048576 s (outSt (execTrainRetryTimer p s)) := by
  have h0 := Same.refl 1048576 s
  unfold execTrainRetryTimer
  extract_lets +onlyGivenNames x_1
  refine SameO.ite (f := outSt) ?_ ?_
  · refine SameO.out_next ?_
    refine Same.step (setLink_same ..) ?_
    exact Same.refl _ _
  · refine SameO.out_next ?_
    exact Same.refl _ _

theorem execTrainingTimeout_same (p : PortId) (s : State) : SameO 1048620 s (outSt (execTrainingTimeout p s)) := by
  have h0 := Same.refl 1048620 s
  unfold execTrainingTimeout
  extract_lets +onlyGivenNames x_1
  extract_lets +onlyGivenNames x_2
  clear_value x_2
  split
  · rename_i a_3
    refine SameO.out_next ?_
    exact Same.refl _ _
  · rename_i a_4 a_5
    refine SameO.ite (f := outSt) ?_ ?_
    · refine SameO.out_next ?_
      exact Same.refl _ _
    · refine SameO.ite (f := outSt) ?_ ?_
      · refine SameO.out_next ?_
        refine Same.step (bump_same ..) ?_
        refine Same.step (detectLink_same ..) ?_
        exact Same.refl _ _
      · extract_lets +onlyGivenNames x_6
        extract_lets +onlyGivenNames x_7
        have h_8 : Same 1048620 s x_7 := by
          subst x_7
          refine Same.step (trainFailed_same ..) ?_
          exact Same.refl _ _
        clear_value x_7
        refine SameO.out_next ?_
        refine Same.ite0 ?_ ?_
        · refine Same.step (modLink_same ..) ?_
          exact h_8
        · exact h_8

theorem execTs1_same (p : PortId) (b : TrainBlock) (s : State) : SameO 1048584 s (outSt (execTs1 p b s)) := by
  have h0 := Same.refl 1048584 s
  unfold execTs1
  extract_lets +onlyGivenNames x_1
  refine SameO.ite (f := outSt) ?_ ?_
  · refine SameO.out_next ?_
    exact Same.refl _ _
  · split
    · rename_i a_2 a_3
      refine SameO.ite (f := outSt) ?_ ?_
      · refine SameO.out_next ?_
        exact Same.refl _ _
      · extract_lets +onlyGivenNames x_4
        refine SameO.ite (f := outSt) ?_ ?_
        · refine SameO.out_next ?_
          refine Same.step (sendTraining_same ..) ?_
          refine Same.step (setLink_same ..) ?_
          exact Same.refl _ _
        · refine SameO.out_next ?_
          refine Same.step (setLink_same ..) ?_
          exact Same.refl _ _
    · rename_i a_5 a_6
      refine SameO.ite (f := outSt) ?_ ?_
      · refine SameO.out_next ?_
        exact Same.refl _ _
      · extract_lets +onlyGivenNames x_7
        refine SameO.ite (f := outSt) ?_ ?_
        · refine SameO.out_next ?_
          refine Same.step (sendTraining_same ..) ?_
          refine Same.step (setLink_same ..) ?_
          exact Same.refl _ _
        · refine SameO.out_next ?_
          refine Same.step (setLink_same ..) ?_
          exact Same.refl _ _
    · rename_i a_8 a_9 a_10
      refine SameO.out_next ?_
      exact Same.refl _ _

theorem execTs2_same (p : PortId) (b : TrainBlock) (s : State) : SameO 1048584 s (outSt (execTs2 p b s)) := by
  have h0 := Same.refl 1048584 s
  unfold execTs2
  extract_lets +onlyGivenNames x_1
  refine SameO.ite (f := outSt) ?_ ?_
  · refine SameO.out_next ?_
    exact Same.refl _ _
  · extract_lets +onlyGivenNames x_2
    refine SameO.ite (f := outSt) ?_ ?_
    · refine SameO.out_next ?_
      refine Same.step (sendTraining_same ..) ?_
      refine Same.step (setLink_same ..) ?_
      exact Same.refl _ _
    · refine SameO.out_next ?_
      refine Same.step (setLink_same ..) ?_
      exact Same.refl _ _

end Sys2Proof.Machine
end

