-- ==== Sys2Proof/Laws/KeepPaths.lean ====
section
/-! SUPPORT. What each operation of Machine/Paths.lean leaves alone: the parts it may write, as a number, and all else kept. -/

set_option linter.unusedVariables false

namespace Sys2Proof.Machine

set_option Elab.async false

theorem reserveUnits_same (s : State) (t : Tether) (add : Bool) : Same 131072 s (reserveUnits s t add) := by
  have h0 := Same.refl 131072 s
  unfold reserveUnits
  extract_lets +onlyGivenNames x_1
  subst x_1
  dsimp -zeta -zetaHave only
  refine Same.step (Same.set_route ..) ?_
  exact Same.refl _ _

theorem addTether_same (s : State) (t : Tether) : Same 131072 s (addTether s t) := by
  have h0 := Same.refl 131072 s
  unfold addTether
  refine Same.step (reserveUnits_same ..) ?_
  refine Same.step (Same.set_route ..) ?_
  exact Same.refl _ _

theorem pathDone_same (s : State) : Same 131104 s (pathDone s) := by
  have h0 := Same.refl 131104 s
  unfold pathDone
  split
  · rename_i a_1 a_2
    exact Same.refl _ _
  · rename_i a_3 a_4 a_5
    refine Same.ite0 ?_ ?_
    · exact Same.refl _ _
    · extract_lets +onlyGivenNames x_6
      extract_lets +onlyGivenNames x_7
      refine Same.step (engineDone_same ..) ?_
      refine Same.step (Same.set_route ..) ?_
      exact Same.refl _ _

theorem putTether_same (s : State) (t : Tether) : Same 131072 s (putTether s t) := by
  have h0 := Same.refl 131072 s
  unfold putTether
  refine Same.step (Same.set_route ..) ?_
  exact Same.refl _ _

theorem dropTether_same (s : State) (id : Nat) : Same 131072 s (dropTether s id) := by
  have h0 := Same.refl 131072 s
  unfold dropTether
  split
  · rename_i a_1 a_2
    exact Same.refl _ _
  · rename_i a_3 a_4 a_5
    extract_lets +onlyGivenNames x_6
    have h_7 : Same 131072 s x_6 := by
      subst x_6
      refine Same.ite0 ?_ ?_
      · exact Same.refl _ _
      · refine Same.step (reserveUnits_same ..) ?_
        exact Same.refl _ _
    clear_value x_6
    refine Same.step (Same.set_route ..) ?_
    exact h_7

theorem tetherStep_same (s : State) (id : Nat) : Same 131116 s (tetherStep s id) := by
  have h0 := Same.refl 131116 s
  unfold tetherStep
  split
  · rename_i a_1 a_2
    exact Same.refl _ _
  · rename_i a_3 a_4 a_5
    refine Same.ite0 ?_ ?_
    · exact Same.refl _ _
    · refine Same.ite0 ?_ ?_
      · extract_lets +onlyGivenNames x_6
        have h_7 : Same 131116 s x_6 := by
          subst x_6
          refine Same.step (bump_same ..) ?_
          refine Same.step (putTether_same ..) ?_
          exact Same.refl _ _
        clear_value x_6
        split
        · rename_i a_8 a_9 a_10
          refine Same.step (engineDone_same ..) ?_
          exact h_7
        · rename_i a_11 a_12
          exact h_7
      · extract_lets +onlyGivenNames x_13
        extract_lets +onlyGivenNames x_14
        have h_15 : Same 131116 s x_14 := by
          subst x_14
          refine Same.step (putTether_same ..) ?_
          exact Same.refl _ _
        clear_value x_14
        extract_lets +onlyGivenNames x_16
        have h_17 : Same 131116 s x_16 := by
          subst x_16
          refine Same.foldl _ ?_ ?_
          · exact h_15
          · intro a_18 a_19 a_20
            refine Same.step (sendSwitch_same ..) ?_
            exact a_20
        clear_value x_16
        refine Same.ite0 ?_ ?_
        · extract_lets +onlyGivenNames x_21
          have h_22 : Same 131116 s x_21 := by
            subst x_21
            refine Same.step (bump_same ..) ?_
            refine Same.step (dropTether_same ..) ?_
            exact h_17
          clear_value x_21
          split
          · rename_i a_23 a_24 a_25
            refine Same.step (engineDone_same ..) ?_
            exact h_22
          · rename_i a_26 a_27
            exact h_22
        · exact h_17

theorem releaseMoved_same (s : State) : Same 656012 s (releaseMoved s) := by
  have h0 := Same.refl 656012 s
  unfold releaseMoved
  extract_lets +onlyGivenNames x_1
  subst x_1
  dsimp -zeta -zetaHave only
  extract_lets +onlyGivenNames x_2
  extract_lets +onlyGivenNames x_3
  extract_lets +onlyGivenNames x_4
  extract_lets +onlyGivenNames x_5
  have h_6 : Same 656012 s x_5 := by
    subst x_5
    refine Same.step (Same.set_route ..) ?_
    exact Same.refl _ _
  clear_value x_5
  extract_lets +onlyGivenNames x_7
  have h_8 : Same 656012 s x_7 := by
    subst x_7
    refine Same.foldl _ ?_ ?_
    · exact h_6
    · intro a_9 a_10 a_11
      refine Same.step (forwardReq_same ..) ?_
      exact a_11
  clear_value x_7
  refine Same.foldl _ ?_ ?_
  · exact h_8
  · intro a_12 a_13 a_14
    refine Same.step (emit_same ..) ?_
    exact a_14

theorem afterMarkers_same (s : State) : Same 656044 s (afterMarkers s) := by
  have h0 := Same.refl 656044 s
  unfold afterMarkers
  refine Same.foldl _ ?_ ?_
  · refine Same.step (pathDone_same ..) ?_
    refine Same.step (releaseMoved_same ..) ?_
    exact Same.refl _ _
  · intro a_1 a_2 a_3
    refine Same.step (tetherStep_same ..) ?_
    exact a_3

theorem refuseTether_same (s : State) (t : Tether) (st : Status) (idx : Nat) : Same 131116 s (refuseTether s t st idx) := by
  have h0 := Same.refl 131116 s
  unfold refuseTether
  extract_lets +onlyGivenNames x_1
  have h_2 : Same 131116 s x_1 := by
    subst x_1
    refine Same.foldl _ ?_ ?_
    · refine Same.step (dropTether_same ..) ?_
      exact Same.refl _ _
    · intro a_3 a_4 a_5
      refine Same.step (sendSwitch_same ..) ?_
      exact a_5
  clear_value x_1
  split
  · rename_i a_6 a_7 a_8
    refine Same.step (engineDone_same ..) ?_
    exact h_2
  · rename_i a_9 a_10
    exact h_2

theorem answerDrop_same (s : State) (k : Packet) (st : Status) : Same 140 s (answerDrop s k st) := by
  have h0 := Same.refl 140 s
  unfold answerDrop
  split
  · rename_i a_1 a_2 a_3 a_4
    refine Same.ite0 ?_ ?_
    · refine Same.step (refuseReq_same ..) ?_
      exact Same.refl _ _
    · exact Same.refl _ _
  · rename_i a_5 a_6 a_7
    exact Same.refl _ _
  · rename_i a_8 a_9 a_10 a_11
    exact Same.refl _ _

theorem execMarkack_same (bridle : Word) (tc : Tc) (s : State) : SameO 656044 s (outSt (execMarkack bridle tc s)) := by
  have h0 := Same.refl 656044 s
  unfold execMarkack
  split
  · rename_i a_1 a_2
    refine SameO.out_next ?_
    exact Same.refl _ _
  · rename_i a_3 a_4 a_5
    refine SameO.out_next ?_
    refine Same.step (afterMarkers_same ..) ?_
    refine Same.step (Same.set_route ..) ?_
    exact Same.refl _ _

theorem sendMarker_same (s : State) (b : Word) (tc : Nat) (own : Nat) (isl : Nat) : Same 655364 s (sendMarker s b tc own isl) := by
  have h0 := Same.refl 655364 s
  unfold sendMarker
  extract_lets +onlyGivenNames x_1
  have h_2 : Same 655364 s x_1 := by
    subst x_1
    refine Same.step (pushEgress_same ..) ?_
    exact Same.refl _ _
  clear_value x_1
  refine Same.step (bump_same ..) ?_
  refine Same.step (Same.set_route ..) ?_
  exact h_2

theorem publishPaths_same (s : State) (h : Nat) (b : List Byte) : Same 655404 s (publishPaths s h b) := by
  have h0 := Same.refl 655404 s
  unfold publishPaths
  extract_lets +onlyGivenNames x_1
  extract_lets +onlyGivenNames x_2
  extract_lets +onlyGivenNames x_3
  extract_lets +onlyGivenNames x_4
  have h_5 : Same 655404 s x_4 := by
    subst x_4
    refine Same.step (Same.set_route ..) ?_
    exact Same.refl _ _
  clear_value x_4
  extract_lets +onlyGivenNames x_6
  have h_7 : Same 655404 s x_6 := by
    subst x_6
    refine Same.step (bump_same ..) ?_
    refine Same.step (markStarted_same ..) ?_
    exact h_5
  clear_value x_6
  refine Same.step (pathDone_same ..) ?_
  refine Same.foldl _ ?_ ?_
  · exact h_7
  · intro a_8 a_9 a_10
    refine Same.foldl _ ?_ ?_
    · exact a_10
    · intro a_11 a_12 a_13
      refine Same.foldl _ ?_ ?_
      · exact a_13
      · intro a_14 a_15 a_16
        refine Same.step (sendMarker_same ..) ?_
        exact a_16

theorem execPathUpdate_same (h : HRef) (s : State) : SameO 11141164 s (outSt (execPathUpdate h s)) := by
  have h0 := Same.refl 11141164 s
  unfold execPathUpdate
  extract_lets +onlyGivenNames x_1
  split
  · rename_i a_2 a_3
    refine SameO.out_next ?_
    exact Same.refl _ _
  · rename_i a_4 a_5 a_6
    extract_lets +onlyGivenNames x_7
    extract_lets +onlyGivenNames x_8
    refine SameO.ite (f := outSt) ?_ ?_
    · refine SameO.out_next ?_
      refine Same.step (badDesc_same ..) ?_
      exact Same.refl _ _
    · refine SameO.ite (f := outSt) ?_ ?_
      · refine SameO.out_next ?_
        refine Same.step (badDesc_same ..) ?_
        exact Same.refl _ _
      · refine SameO.ite (f := outSt) ?_ ?_
        · refine SameO.out_next ?_
          refine Same.step (commit_same ..) ?_
          exact Same.refl _ _
        · refine SameO.ite (f := outSt) ?_ ?_
          · refine SameO.out_next ?_
            refine Same.step (commit_same ..) ?_
            exact Same.refl _ _
          · split
            · rename_i a_9 a_10
              refine SameO.out_next ?_
              refine Same.step (Same.set_route ..) ?_
              exact Same.refl _ _
            · rename_i a_11 a_12 a_13
              refine SameO.ite (f := outSt) ?_ ?_
              · refine SameO.out_next ?_
                refine Same.step (badDesc_same ..) ?_
                exact Same.refl _ _
              · refine SameO.ite (f := outSt) ?_ ?_
                · refine SameO.out_next ?_
                  refine Same.step (commit_same ..) ?_
                  exact Same.refl _ _
                · refine SameO.ite (f := outSt) ?_ ?_
                  · refine SameO.out_next ?_
                    refine Same.step (badDesc_same ..) ?_
                    refine Same.step (logEvent_same ..) ?_
                    exact Same.refl _ _
                  · split
                    · rename_i a_14 a_15 a_16
                      refine SameO.out_next ?_
                      refine Same.step (badDesc_same ..) ?_
                      refine Same.step (logEvent_same ..) ?_
                      exact Same.refl _ _
                    · rename_i a_17 a_18
                      refine SameO.out_next ?_
                      refine Same.step (publishPaths_same ..) ?_
                      exact Same.refl _ _

theorem execPathmark_same (p : PortId) (bridle : Word) (tc : Tc) (src : BitVec 12) (s : State) : SameO 131084 s (outSt (execPathmark p bridle tc src s)) := by
  have h0 := Same.refl 131084 s
  unfold execPathmark
  refine SameO.ite (f := outSt) ?_ ?_
  · refine SameO.out_next ?_
    refine Same.step (sendSwitch_same ..) ?_
    refine Same.step (bump_same ..) ?_
    exact Same.refl _ _
  · refine SameO.out_next ?_
    exact Same.refl _ _

theorem switchTether_same (s : State) (t : Tether) : Same 655404 s (switchTether s t) := by
  have h0 := Same.refl 655404 s
  unfold switchTether
  extract_lets +onlyGivenNames x_1
  extract_lets +onlyGivenNames x_2
  extract_lets +onlyGivenNames x_3
  have h_4 : Same 655404 s x_3 := by
    subst x_3
    refine Same.step (putTether_same ..) ?_
    exact Same.refl _ _
  clear_value x_3
  refine Same.step (tetherStep_same ..) ?_
  refine Same.foldl _ ?_ ?_
  · exact h_4
  · intro a_5 a_6 a_7
    refine Same.step (sendMarker_same ..) ?_
    exact a_7

theorem execTetherClose_same (h : HRef) (s : State) : SameO 655404 s (outSt (execTetherClose h s)) := by
  have h0 := Same.refl 655404 s
  unfold execTetherClose
  extract_lets +onlyGivenNames x_1
  split
  · rename_i a_2 a_3
    refine SameO.out_next ?_
    exact Same.refl _ _
  · rename_i a_4 a_5 a_6
    split
    · rename_i a_7 a_8
      refine SameO.out_next ?_
      refine Same.step (commit_same ..) ?_
      exact Same.refl _ _
    · rename_i a_9 a_10 a_11
      split
      · rename_i a_12 a_13
        refine SameO.out_next ?_
        refine Same.step (commit_same ..) ?_
        exact Same.refl _ _
      · rename_i a_14 a_15
        refine SameO.out_next ?_
        refine Same.step (commit_same ..) ?_
        exact Same.refl _ _
      · rename_i a_16 a_17
        refine SameO.out_next ?_
        refine Same.step (commit_same ..) ?_
        refine Same.step (bump_same ..) ?_
        refine Same.step (dropTether_same ..) ?_
        exact Same.refl _ _
      · rename_i a_18 a_19
        refine SameO.ite (f := outSt) ?_ ?_
        · refine SameO.out_next ?_
          refine Same.step (commit_same ..) ?_
          exact Same.refl _ _
        · extract_lets +onlyGivenNames x_20
          refine SameO.out_next ?_
          refine Same.step (switchTether_same ..) ?_
          refine Same.step (putTether_same ..) ?_
          refine Same.step (markStarted_same ..) ?_
          exact Same.refl _ _

theorem startTether_same (s : State) (t : Tether) : Same 655404 s (startTether s t) := by
  have h0 := Same.refl 655404 s
  unfold startTether
  refine Same.ite0 ?_ ?_
  · refine Same.step (refuseTether_same ..) ?_
    exact Same.refl _ _
  · refine Same.step (switchTether_same ..) ?_
    exact Same.refl _ _

theorem tetherReply_same (s : State) (id : Nat) (sw : Nat) (r : TetherReply) : Same 655404 s (tetherReply s id sw r) := by
  have h0 := Same.refl 655404 s
  unfold tetherReply
  split
  · rename_i a_1 a_2
    exact Same.refl _ _
  · rename_i a_3 a_4 a_5
    extract_lets +onlyGivenNames x_6
    refine Same.ite0 ?_ ?_
    · exact Same.refl _ _
    · split
      · rename_i a_7
        extract_lets +onlyGivenNames x_8
        extract_lets +onlyGivenNames x_9
        have h_10 : Same 655404 s x_9 := by
          subst x_9
          refine Same.step (putTether_same ..) ?_
          exact Same.refl _ _
        clear_value x_9
        refine Same.ite0 ?_ ?_
        · refine Same.step (startTether_same ..) ?_
          exact h_10
        · exact h_10
      · rename_i a_11
        split
        · rename_i a_12 a_13 a_14
          refine Same.step (engineDone_same ..) ?_
          refine Same.foldl _ ?_ ?_
          · refine Same.step (dropTether_same ..) ?_
            exact Same.refl _ _
          · intro a_15 a_16 a_17
            refine Same.step (sendSwitch_same ..) ?_
            exact a_17
        · rename_i a_18 a_19
          exact Same.refl _ _
      · rename_i a_20
        refine Same.step (refuseTether_same ..) ?_
        exact Same.refl _ _
      · rename_i a_21
        refine Same.step (refuseTether_same ..) ?_
        exact Same.refl _ _
      · rename_i a_22
        refine Same.step (refuseTether_same ..) ?_
        exact Same.refl _ _

theorem tetherRemoved_same (s : State) (id : Nat) (sw : Nat) : Same 131108 s (tetherRemoved s id sw) := by
  have h0 := Same.refl 131108 s
  unfold tetherRemoved
  split
  · rename_i a_1 a_2
    exact Same.refl _ _
  · rename_i a_3 a_4 a_5
    refine Same.ite0 ?_ ?_
    · exact Same.refl _ _
    · extract_lets +onlyGivenNames x_6
      refine Same.ite0 ?_ ?_
      · extract_lets +onlyGivenNames x_7
        have h_8 : Same 131108 s x_7 := by
          subst x_7
          refine Same.step (bump_same ..) ?_
          refine Same.step (dropTether_same ..) ?_
          exact Same.refl _ _
        clear_value x_7
        split
        · rename_i a_9 a_10 a_11
          refine Same.step (engineDone_same ..) ?_
          exact h_8
        · rename_i a_12 a_13
          exact h_8
      · refine Same.step (putTether_same ..) ?_
        exact Same.refl _ _

theorem execTetherEntryInstall_same (e : TetherMsg) (s : State) : SameO 655404 s (outSt (execTetherEntryInstall e s)) := by
  have h0 := Same.refl 655404 s
  unfold execTetherEntryInstall
  split
  · rename_i a_1 a_2
    extract_lets +onlyGivenNames x_3
    refine SameO.ite (f := outSt) ?_ ?_
    · refine SameO.out_next ?_
      exact Same.refl _ _
    · extract_lets +onlyGivenNames x_4
      extract_lets +onlyGivenNames x_5
      have h_6 : Same 655404 s x_5 := by
        subst x_5
        refine Same.ite0 ?_ ?_
        · refine Same.step (addTether_same ..) ?_
          exact Same.refl _ _
        · exact Same.refl _ _
      clear_value x_5
      refine SameO.out_next ?_
      refine Same.step (sendSwitch_same ..) ?_
      exact h_6
  · rename_i a_7 a_8 a_9 a_10
    refine SameO.out_next ?_
    refine Same.step (tetherReply_same ..) ?_
    exact Same.refl _ _
  · rename_i a_11 a_12
    split
    · rename_i a_13 a_14 a_15
      refine SameO.ite (f := outSt) ?_ ?_
      · refine SameO.out_next ?_
        exact Same.refl _ _
      · refine SameO.out_next ?_
        refine Same.step (sendSwitch_same ..) ?_
        refine Same.step (dropTether_same ..) ?_
        exact Same.refl _ _
    · rename_i a_16 a_17
      refine SameO.out_next ?_
      refine Same.step (sendSwitch_same ..) ?_
      exact Same.refl _ _
  · rename_i a_18 a_19 a_20
    refine SameO.out_next ?_
    refine Same.step (tetherRemoved_same ..) ?_
    exact Same.refl _ _

theorem openTether_same (s : State) (h : Nat) (t : Tether) : Same 655404 s (openTether s h t) := by
  have h0 := Same.refl 655404 s
  unfold openTether
  split
  · rename_i a_1 a_2 a_3
    refine Same.step (commit_same ..) ?_
    exact Same.refl _ _
  · rename_i a_4 a_5
    refine Same.ite0 ?_ ?_
    · refine Same.step (commit_same ..) ?_
      exact Same.refl _ _
    · split
      · rename_i a_6 a_7
        refine Same.step (badDesc_same ..) ?_
        exact Same.refl _ _
      · rename_i a_8 a_9
        refine Same.step (commit_same ..) ?_
        exact Same.refl _ _
      · rename_i a_10 a_11
        refine Same.step (commit_same ..) ?_
        exact Same.refl _ _
      · rename_i a_12 a_13
        refine Same.step (commit_same ..) ?_
        exact Same.refl _ _
      · rename_i a_14 a_15
        extract_lets +onlyGivenNames x_16
        have h_17 : Same 655404 s x_16 := by
          subst x_16
          refine Same.step (addTether_same ..) ?_
          refine Same.step (markStarted_same ..) ?_
          exact Same.refl _ _
        clear_value x_16
        extract_lets +onlyGivenNames x_18
        have h_19 : Same 655404 s x_18 := by
          subst x_18
          refine Same.foldl _ ?_ ?_
          · exact h_17
          · intro a_20 a_21 a_22
            refine Same.ite0 ?_ ?_
            · exact a_22
            · refine Same.step (sendSwitch_same ..) ?_
              exact a_22
        clear_value x_18
        refine Same.ite0 ?_ ?_
        · refine Same.step (startTether_same ..) ?_
          exact h_19
        · exact h_19

theorem execTetherOpen_same (h : Handle) (s : State) : SameO 655404 s (outSt (execTetherOpen h s)) := by
  have h0 := Same.refl 655404 s
  unfold execTetherOpen
  extract_lets +onlyGivenNames x_1
  split
  · rename_i a_2 a_3
    refine SameO.out_next ?_
    exact Same.refl _ _
  · rename_i a_4 a_5 a_6
    extract_lets +onlyGivenNames x_7
    refine SameO.ite (f := outSt) ?_ ?_
    · refine SameO.out_next ?_
      refine Same.step (badDesc_same ..) ?_
      exact Same.refl _ _
    · refine SameO.ite (f := outSt) ?_ ?_
      · refine SameO.out_next ?_
        refine Same.step (commit_same ..) ?_
        exact Same.refl _ _
      · split
        · rename_i a_8 a_9
          refine SameO.out_next ?_
          exact Same.refl _ _
        · rename_i a_10 a_11 a_12
          refine SameO.ite (f := outSt) ?_ ?_
          · refine SameO.out_next ?_
            refine Same.step (badDesc_same ..) ?_
            exact Same.refl _ _
          · refine SameO.ite (f := outSt) ?_ ?_
            · refine SameO.out_next ?_
              refine Same.step (badDesc_same ..) ?_
              exact Same.refl _ _
            · refine SameO.ite (f := outSt) ?_ ?_
              · refine SameO.out_next ?_
                refine Same.step (commit_same ..) ?_
                exact Same.refl _ _
              · split
                · rename_i a_13 a_14
                  refine SameO.out_next ?_
                  refine Same.step (commit_same ..) ?_
                  exact Same.refl _ _
                · rename_i a_15 a_16 a_17
                  refine SameO.out_next ?_
                  refine Same.step (openTether_same ..) ?_
                  exact Same.refl _ _

theorem queueOther_same (s : State) (k : Packet) (e : Nat) (body : Body) (marker : Bool) (data : Bool) : Same 524292 s (queueOther s k e body marker data) := by
  have h0 := Same.refl 524292 s
  unfold queueOther
  refine Same.step (pushEgress_same ..) ?_
  exact Same.refl _ _

theorem queueCmp_same (s : State) (k : Packet) (e : Nat) (m : CmpMsg) : Same 524588 s (queueCmp s k e m) := by
  have h0 := Same.refl 524588 s
  unfold queueCmp
  refine Same.ite0 ?_ ?_
  · split
    · rename_i a_1 a_2 a_3 a_4
      have h_5 : Same 524588 s a_2 := by
        refine Same.of1 ?_ a_4
        refine Same.step (retireAway_same ..) ?_
        exact Same.refl _ _
      refine Same.ite0 ?_ ?_
      · refine Same.step (queueOther_same ..) ?_
        exact h_5
      · exact h_5
  · refine Same.step (queueOther_same ..) ?_
    exact Same.refl _ _

theorem hopOut_same (s : State) (k : Packet) (e : Nat) (b : Word) : Same 656172 s (hopOut s k e b) := by
  have h0 := Same.refl 656172 s
  unfold hopOut
  extract_lets +onlyGivenNames x_1
  refine Same.ite0 ?_ ?_
  · refine Same.step (bump_same ..) ?_
    exact Same.refl _ _
  · refine Same.ite0 ?_ ?_
    · refine Same.step (bumpBy_same ..) ?_
      exact Same.refl _ _
    · refine Same.ite0 ?_ ?_
      · refine Same.step (bumpBy_same ..) ?_
        exact Same.refl _ _
      · split
        · rename_i a_2 a_3 a_4 a_5
          refine Same.step (queueReq_same ..) ?_
          exact Same.refl _ _
        · rename_i a_6 a_7 a_8
          refine Same.step (queueCmp_same ..) ?_
          exact Same.refl _ _
        · rename_i a_9 a_10 a_11 a_12
          refine Same.step (queueOther_same ..) ?_
          exact Same.refl _ _

theorem hopDrop_same (s : State) (p : Nat) (k : Packet) (climb : Bool) : Same 10485932 s (hopDrop s p k climb) := by
  have h0 := Same.refl 10485932 s
  unfold hopDrop
  extract_lets +onlyGivenNames x_1
  have h_2 : Same 10485932 s x_1 := by
    subst x_1
    refine Same.step (bump_same ..) ?_
    exact Same.refl _ _
  clear_value x_1
  extract_lets +onlyGivenNames x_3
  have h_4 : Same 10485932 s x_3 := by
    subst x_3
    refine Same.step (logEvent_same ..) ?_
    exact h_2
  clear_value x_3
  refine Same.step (answerDrop_same ..) ?_
  exact h_4

theorem unitNotice_same (s : State) (m : CmpMsg) : Same 524292 s (unitNotice s m) := by
  have h0 := Same.refl 524292 s
  unfold unitNotice
  extract_lets +onlyGivenNames x_1
  split
  · rename_i a_2 a_3 a_4
    refine Same.step (notice_same ..) ?_
    exact Same.refl _ _
  · rename_i a_5 a_6
    exact Same.refl _ _

theorem hopDeliver_same (s : State) (p : PortId) (k : Packet) : Same 37417755741068 s (hopDeliver s p k) := by
  have h0 := Same.refl 37417755741068 s
  unfold hopDeliver
  split
  · rename_i a_1 a_2 a_3 a_4
    refine Same.step (pastKey_same ..) ?_
    refine Same.step (Same.set_ord ..) ?_
    exact Same.refl _ _
  · rename_i a_5 a_6 a_7
    refine Same.ite0 ?_ ?_
    · refine Same.step (unitNotice_same ..) ?_
      exact Same.refl _ _
    · exact Same.refl _ _
  · rename_i a_8 a_9 a_10 a_11
    split
    · rename_i a_12 a_13 a_14 a_15
      refine Same.ite0 ?_ ?_
      · refine Same.step (advanceRseq_same ..) ?_
        exact Same.refl _ _
      · exact Same.refl _ _
    · rename_i a_16 a_17
      exact Same.refl _ _

theorem execTransitHop_same (p : PortId) (k : Packet) (s : State) : SameO 37417767275436 s (outSt (execTransitHop p k s)) := by
  have h0 := Same.refl 37417767275436 s
  unfold execTransitHop
  extract_lets +onlyGivenNames x_1
  have h_2 : Same 37417767275436 s x_1 := by
    subst x_1
    refine Same.step (creditBack_same ..) ?_
    exact Same.refl _ _
  clear_value x_1
  refine SameO.ite (f := outSt) ?_ ?_
  · refine SameO.out_next ?_
    exact h_2
  · refine SameO.ite (f := outSt) ?_ ?_
    · refine SameO.out_next ?_
      refine Same.ite0 ?_ ?_
      · refine Same.step (hopDrop_same ..) ?_
        exact h_2
      · exact h_2
    · refine SameO.ite (f := outSt) ?_ ?_
      · refine SameO.out_next ?_
        exact h_2
      · refine SameO.ite (f := outSt) ?_ ?_
        · refine SameO.out_next ?_
          refine Same.step (answerDrop_same ..) ?_
          refine Same.step (bump_same ..) ?_
          exact h_2
        · refine SameO.ite (f := outSt) ?_ ?_
          · refine SameO.out_next ?_
            refine Same.step (answerDrop_same ..) ?_
            exact h_2
          · split
            · rename_i a_3 a_4 a_5
              refine SameO.out_next ?_
              refine Same.step (hopDrop_same ..) ?_
              exact h_2
            · rename_i a_6 a_7
              refine SameO.ite (f := outSt) ?_ ?_
              · refine SameO.out_next ?_
                refine Same.step (hopDeliver_same ..) ?_
                exact h_2
              · refine SameO.out_next ?_
                refine Same.step (hopOut_same ..) ?_
                exact h_2

theorem execTrunkActiveReport_same (sw : BitVec 12) (p : PortId) (peer : BitVec 12) (peerPort : PortId) (s : State) : SameO 2097152 s (outSt (execTrunkActiveReport sw p peer peerPort s)) := by
  have h0 := Same.refl 2097152 s
  unfold execTrunkActiveReport
  refine SameO.out_next ?_
  refine Same.step (Same.set_ras ..) ?_
  exact Same.refl _ _

end Sys2Proof.Machine
end

