-- ==== Sys2Proof/Laws/KeepTrainOps.lean ====
section
/-! SUPPORT. What each operation of Machine/TrainOps.lean leaves alone: the parts it may write, as a number, and all else kept. -/

set_option linter.unusedVariables false

namespace Sys2Proof.Machine

set_option Elab.async false

theorem runReleased_same (s : State) (id : Nat) : Same 532576145068 s (runReleased s id) := by
  have h0 := Same.refl 532576145068 s
  unfold runReleased
  refine Same.foldl _ ?_ ?_
  · exact Same.refl _ _
  · intro a_1 a_2 a_3
    refine Same.step (instRun_same ..) ?_
    exact a_3

theorem adoptEntry_same (s : State) (e : TrainEnt) : Same 532576145068 s (adoptEntry s e) := by
  have h0 := Same.refl 532576145068 s
  unfold adoptEntry
  extract_lets +onlyGivenNames x_1
  have h_2 : Same 532576145068 s x_1 := by
    subst x_1
    refine Same.step (releaseTrain_same ..) ?_
    exact Same.refl _ _
  clear_value x_1
  extract_lets +onlyGivenNames x_3
  extract_lets +onlyGivenNames x_4
  refine Same.step (runReleased_same ..) ?_
  refine Same.step (bump_same ..) ?_
  refine Same.step (Same.set_train ..) ?_
  exact h_2

theorem endPruned_same (s : State) (id : Nat) (code : Nat) (cut : List Nat) : Same 65568 s (endPruned s id code cut) := by
  have h0 := Same.refl 65568 s
  unfold endPruned
  refine Same.foldl _ ?_ ?_
  · exact Same.refl _ _
  · intro a_1 a_2 a_3
    extract_lets +onlyGivenNames x_4
    extract_lets +onlyGivenNames x_5
    have h_6 : Same 65568 s x_5 := by
      subst x_5
      refine Same.foldl _ ?_ ?_
      · exact a_3
      · intro a_7 a_8 a_9
        refine Same.step (endPost_same ..) ?_
        exact a_9
    clear_value x_5
    refine Same.step (Same.set_train ..) ?_
    exact h_6

theorem pruneEntry_same (s : State) (t : TrainRec) (gen : Nat) (cut : List Nat) (ports : List Nat) : Same 532576145068 s (pruneEntry s t gen cut ports) := by
  have h0 := Same.refl 532576145068 s
  unfold pruneEntry
  extract_lets +onlyGivenNames x_1
  extract_lets +onlyGivenNames x_2
  extract_lets +onlyGivenNames x_3
  subst x_3
  dsimp -zeta -zetaHave only
  extract_lets +onlyGivenNames x_4
  have h_5 : Same 532576145068 s x_4 := by
    subst x_4
    refine Same.step (endPruned_same ..) ?_
    refine Same.step (releaseTrain_same ..) ?_
    exact Same.refl _ _
  clear_value x_4
  extract_lets +onlyGivenNames x_6
  extract_lets +onlyGivenNames x_7
  extract_lets +onlyGivenNames x_8
  extract_lets +onlyGivenNames x_9
  have h_10 : Same 532576145068 s x_9 := by
    subst x_9
    refine Same.step (Same.set_train ..) ?_
    exact h_5
  clear_value x_9
  refine Same.foldl _ ?_ ?_
  · exact h_10
  · intro a_11 a_12 a_13
    refine Same.step (instRun_same ..) ?_
    exact a_13

theorem tellRaise_same (s : State) (t : TrainRec) (gen : Nat) (cut : List Nat) : Same 131084 s (tellRaise s t gen cut) := by
  have h0 := Same.refl 131084 s
  unfold tellRaise
  extract_lets +onlyGivenNames x_1
  extract_lets +onlyGivenNames x_2
  refine Same.foldl _ ?_ ?_
  · exact Same.refl _ _
  · intro a_3 a_4 a_5
    refine Same.step (sendSwitch_same ..) ?_
    exact a_5

theorem dropTrain_same (s : State) (id : Nat) : Same 532576145068 s (dropTrain s id) := by
  have h0 := Same.refl 532576145068 s
  unfold dropTrain
  extract_lets +onlyGivenNames x_1
  have h_2 : Same 532576145068 s x_1 := by
    subst x_1
    refine Same.step (releaseTrain_same ..) ?_
    exact Same.refl _ _
  clear_value x_1
  refine Same.step (runReleased_same ..) ?_
  refine Same.step (Same.set_train ..) ?_
  exact h_2

theorem installTrain_same (s : State) (o : TrainOp) : Same 532576145068 s (installTrain s o) := by
  have h0 := Same.refl 532576145068 s
  unfold installTrain
  extract_lets +onlyGivenNames x_1
  extract_lets +onlyGivenNames x_2
  extract_lets +onlyGivenNames x_3
  extract_lets +onlyGivenNames x_4
  have h_5 : Same 532576145068 s x_4 := by
    subst x_4
    refine Same.foldl _ ?_ ?_
    · exact Same.refl _ _
    · intro a_6 a_7 a_8
      refine Same.step (adoptEntry_same ..) ?_
      exact a_8
  clear_value x_4
  extract_lets +onlyGivenNames x_9
  extract_lets +onlyGivenNames x_10
  have h_11 : Same 532576145068 s x_10 := by
    subst x_10
    refine Same.step (Same.set_train ..) ?_
    exact h_5
  clear_value x_10
  extract_lets +onlyGivenNames x_12
  have h_13 : Same 532576145068 s x_12 := by
    subst x_12
    refine Same.foldl _ ?_ ?_
    · exact h_11
    · intro a_14 a_15 a_16
      refine Same.step (sendSwitch_same ..) ?_
      exact a_16
  clear_value x_12
  extract_lets +onlyGivenNames x_17
  extract_lets +onlyGivenNames x_18
  have h_19 : Same 532576145068 s x_18 := by
    subst x_18
    refine Same.foldl _ ?_ ?_
    · exact h_13
    · intro a_20 a_21 a_22
      refine Same.step (sendSwitch_same ..) ?_
      exact a_22
  clear_value x_18
  refine Same.step (setTrainOp_same ..) ?_
  exact h_19

theorem trainProgress_same (s : State) (o : TrainOp) : Same 532576145068 s (trainProgress s o) := by
  have h0 := Same.refl 532576145068 s
  unfold trainProgress
  refine Same.ite0 ?_ ?_
  · exact Same.refl _ _
  · split
    · rename_i a_1 a_2 a_3 a_4
      extract_lets +onlyGivenNames x_5
      have h_6 : Same 532576145068 s x_5 := by
        subst x_5
        refine Same.foldl _ ?_ ?_
        · exact Same.refl _ _
        · intro a_7 a_8 a_9
          refine Same.step (sendSwitch_same ..) ?_
          exact a_9
      clear_value x_5
      extract_lets +onlyGivenNames x_10
      extract_lets +onlyGivenNames x_11
      have h_12 : Same 532576145068 s x_11 := by
        subst x_11
        refine Same.step (Same.set_train ..) ?_
        exact h_6
      clear_value x_11
      extract_lets +onlyGivenNames x_13
      refine Same.step (engineDone_same ..) ?_
      refine Same.step (dropTrainOp_same ..) ?_
      exact h_12
    · rename_i a_14 a_15
      extract_lets +onlyGivenNames x_16
      have h_17 : Same 532576145068 s x_16 := by
        subst x_16
        refine Same.ite0 ?_ ?_
        · exact Same.refl _ _
        · refine Same.step (installTrain_same ..) ?_
          exact Same.refl _ _
      clear_value x_16
      split
      · rename_i a_18 a_19 a_20
        refine Same.step (trainFinish_same ..) ?_
        exact h_17
      · rename_i a_21 a_22
        exact h_17

theorem startTrain_same (s : State) (h : Nat) (mode : Nat) (id : Nat) (gen : Nat) (owner : Key) (img : List Byte) : Same 532576145068 s (startTrain s h mode id gen owner img) := by
  have h0 := Same.refl 532576145068 s
  unfold startTrain
  extract_lets +onlyGivenNames x_1
  extract_lets +onlyGivenNames x_2
  extract_lets +onlyGivenNames x_3
  extract_lets +onlyGivenNames x_4
  extract_lets +onlyGivenNames x_5
  extract_lets +onlyGivenNames x_6
  extract_lets +onlyGivenNames x_7
  extract_lets +onlyGivenNames x_8
  extract_lets +onlyGivenNames x_9
  have h_10 : Same 532576145068 s x_9 := by
    subst x_9
    refine Same.step (markStarted_same ..) ?_
    refine Same.step (Same.set_train ..) ?_
    exact Same.refl _ _
  clear_value x_9
  extract_lets +onlyGivenNames x_11
  have h_12 : Same 532576145068 s x_11 := by
    subst x_11
    refine Same.ite0 ?_ ?_
    · exact h_10
    · refine Same.foldl _ ?_ ?_
      · exact h_10
      · intro a_13 a_14 a_15
        refine Same.step (sendSwitch_same ..) ?_
        exact a_15
  clear_value x_11
  refine Same.step (trainProgress_same ..) ?_
  exact h_12

theorem execTrainCreate_same (h : Handle) (s : State) : SameO 532576145068 s (outSt (execTrainCreate h s)) := by
  have h0 := Same.refl 532576145068 s
  unfold execTrainCreate
  split
  · rename_i a_1 a_2
    refine SameO.out_next ?_
    exact Same.refl _ _
  · rename_i a_3 a_4 a_5
    extract_lets +onlyGivenNames x_6
    refine SameO.ite (f := outSt) ?_ ?_
    · refine SameO.out_next ?_
      refine Same.step (commit_same ..) ?_
      exact Same.refl _ _
    · refine SameO.out_next ?_
      unfold withTrainImage
      dsimp -zeta -zetaHave only
      extract_lets +onlyGivenNames x_7
      refine Same.ite0 ?_ ?_
      · refine Same.step (badDesc_same ..) ?_
        exact Same.refl _ _
      · refine Same.ite0 ?_ ?_
        · refine Same.step (badDesc_same ..) ?_
          exact Same.refl _ _
        · refine Same.ite0 ?_ ?_
          · refine Same.step (commit_same ..) ?_
            exact Same.refl _ _
          · split
            · rename_i a_8 a_9
              exact Same.refl _ _
            · rename_i a_10 a_11 a_12
              refine Same.ite0 ?_ ?_
              · refine Same.step (badDesc_same ..) ?_
                exact Same.refl _ _
              · refine Same.ite0 ?_ ?_
                · refine Same.step (badDesc_same ..) ?_
                  exact Same.refl _ _
                · split
                  · rename_i a_13 a_14 a_15
                    refine Same.step (commit_same ..) ?_
                    exact Same.refl _ _
                  · rename_i a_16 a_17
                    extract_lets +onlyGivenNames x_18
                    extract_lets +onlyGivenNames x_19
                    subst x_19
                    dsimp -zeta -zetaHave only
                    split
                    · rename_i a_20 a_21
                      refine Same.step (commit_same ..) ?_
                      exact Same.refl _ _
                    · rename_i a_22 a_23 a_24
                      refine Same.step (startTrain_same ..) ?_
                      exact Same.refl _ _

theorem execTrainDelete_same (h : Handle) (s : State) : SameO 532576145068 s (outSt (execTrainDelete h s)) := by
  have h0 := Same.refl 532576145068 s
  unfold execTrainDelete
  split
  · rename_i a_1 a_2
    refine SameO.out_next ?_
    exact Same.refl _ _
  · rename_i a_3 a_4 a_5
    refine SameO.ite (f := outSt) ?_ ?_
    · refine SameO.out_next ?_
      exact Same.refl _ _
    · split
      · rename_i a_6 a_7 a_8
        refine SameO.out_next ?_
        refine Same.step (commit_same ..) ?_
        exact Same.refl _ _
      · rename_i a_9 a_10
        extract_lets +onlyGivenNames x_11
        split
        · rename_i a_12 a_13
          refine SameO.out_next ?_
          exact Same.refl _ _
        · rename_i a_14 a_15 a_16
          extract_lets +onlyGivenNames x_17
          extract_lets +onlyGivenNames x_18
          extract_lets +onlyGivenNames x_19
          extract_lets +onlyGivenNames x_20
          have h_21 : Same 532576145068 s x_20 := by
            subst x_20
            refine Same.step (dropTrain_same ..) ?_
            refine Same.step (markStarted_same ..) ?_
            refine Same.step (Same.set_train ..) ?_
            exact Same.refl _ _
          clear_value x_20
          extract_lets +onlyGivenNames x_22
          have h_23 : Same 532576145068 s x_22 := by
            subst x_22
            refine Same.foldl _ ?_ ?_
            · exact h_21
            · intro a_24 a_25 a_26
              refine Same.step (sendSwitch_same ..) ?_
              exact a_26
          clear_value x_22
          refine SameO.out_next ?_
          refine Same.step (trainProgress_same ..) ?_
          exact h_23

theorem execTrainEdit_same (h : Handle) (s : State) : SameO 532576145068 s (outSt (execTrainEdit h s)) := by
  have h0 := Same.refl 532576145068 s
  unfold execTrainEdit
  split
  · rename_i a_1 a_2
    refine SameO.out_next ?_
    exact Same.refl _ _
  · rename_i a_3 a_4 a_5
    refine SameO.ite (f := outSt) ?_ ?_
    · refine SameO.out_next ?_
      exact Same.refl _ _
    · refine SameO.ite (f := outSt) ?_ ?_
      · refine SameO.out_next ?_
        refine Same.step (badDesc_same ..) ?_
        exact Same.refl _ _
      · split
        · rename_i a_6 a_7 a_8
          refine SameO.out_next ?_
          refine Same.step (commit_same ..) ?_
          exact Same.refl _ _
        · rename_i a_9 a_10
          extract_lets +onlyGivenNames x_11
          split
          · rename_i a_12 a_13 a_14 a_15 a_16 a_17
            extract_lets +onlyGivenNames x_18
            extract_lets +onlyGivenNames x_19
            have h_20 : Same 532576145068 s x_19 := by
              subst x_19
              refine Same.step (Same.set_train ..) ?_
              exact Same.refl _ _
            clear_value x_19
            refine SameO.out_next ?_
            unfold withTrainImage
            dsimp -zeta -zetaHave only
            extract_lets +onlyGivenNames x_21
            refine Same.ite0 ?_ ?_
            · refine Same.step (badDesc_same ..) ?_
              exact h_20
            · refine Same.ite0 ?_ ?_
              · refine Same.step (badDesc_same ..) ?_
                exact h_20
              · refine Same.ite0 ?_ ?_
                · refine Same.step (commit_same ..) ?_
                  exact h_20
                · split
                  · rename_i a_22 a_23
                    exact h_20
                  · rename_i a_24 a_25 a_26
                    refine Same.ite0 ?_ ?_
                    · refine Same.step (badDesc_same ..) ?_
                      exact h_20
                    · refine Same.ite0 ?_ ?_
                      · refine Same.step (badDesc_same ..) ?_
                        exact h_20
                      · split
                        · rename_i a_27 a_28 a_29
                          refine Same.step (commit_same ..) ?_
                          exact h_20
                        · rename_i a_30 a_31
                          refine Same.step (startTrain_same ..) ?_
                          exact h_20
          · rename_i a_32 a_33 a_34
            refine SameO.out_next ?_
            exact Same.refl _ _

theorem raiseTrain_same (s : State) (id : Nat) (gen : Nat) (cut : List Nat) : Same 532576145068 s (raiseTrain s id gen cut) := by
  have h0 := Same.refl 532576145068 s
  unfold raiseTrain
  split
  · rename_i a_1 a_2
    exact Same.refl _ _
  · rename_i a_3 a_4 a_5
    extract_lets +onlyGivenNames x_6
    refine Same.ite0 ?_ ?_
    · refine Same.ite0 ?_ ?_
      · exact Same.refl _ _
      · extract_lets +onlyGivenNames x_7
        refine Same.step (tellRaise_same ..) ?_
        refine Same.step (pruneEntry_same ..) ?_
        exact Same.refl _ _
    · refine Same.ite0 ?_ ?_
      · exact Same.refl _ _
      · refine Same.step (pruneEntry_same ..) ?_
        exact Same.refl _ _

theorem trainReply_same (s : State) (id : Nat) (gen : Nat) (sw : Nat) (r : TrainReply) : Same 532576145068 s (trainReply s id gen sw r) := by
  have h0 := Same.refl 532576145068 s
  unfold trainReply
  split
  · rename_i a_1 a_2
    exact Same.refl _ _
  · rename_i a_3 a_4 a_5
    extract_lets +onlyGivenNames x_6
    extract_lets +onlyGivenNames x_7
    subst x_7
    dsimp -zeta -zetaHave only
    extract_lets +onlyGivenNames x_8
    extract_lets +onlyGivenNames x_9
    refine Same.step (trainProgress_same ..) ?_
    refine Same.step (setTrainOp_same ..) ?_
    exact Same.refl _ _

theorem oweReport_same (s : State) (id : Nat) (gen : Nat) : Same 196620 s (oweReport s id gen) := by
  have h0 := Same.refl 196620 s
  unfold oweReport
  refine Same.step (reportAdopted_same ..) ?_
  refine Same.step (Same.set_train ..) ?_
  exact Same.refl _ _

theorem execTrainEntryDistribute_same (e : TrainMsg) (s : State) : SameO 532576145068 s (outSt (execTrainEntryDistribute e s)) := by
  have h0 := Same.refl 532576145068 s
  unfold execTrainEntryDistribute
  split
  · rename_i a_1 a_2
    extract_lets +onlyGivenNames x_3
    extract_lets +onlyGivenNames x_4
    extract_lets +onlyGivenNames x_5
    extract_lets +onlyGivenNames x_6
    extract_lets +onlyGivenNames x_7
    have h_8 : Same 532576145068 s x_7 := by
      subst x_7
      refine Same.ite0 ?_ ?_
      · refine Same.step (Same.set_train ..) ?_
        exact Same.refl _ _
      · exact Same.refl _ _
    clear_value x_7
    refine SameO.out_next ?_
    refine Same.step (sendSwitch_same ..) ?_
    exact h_8
  · rename_i a_9 a_10 a_11 a_12 a_13
    refine SameO.out_next ?_
    refine Same.step (trainReply_same ..) ?_
    exact Same.refl _ _
  · rename_i a_14 a_15 a_16
    split
    · rename_i a_17 a_18 a_19
      refine SameO.out_next ?_
      refine Same.step (oweReport_same ..) ?_
      refine Same.step (adoptEntry_same ..) ?_
      exact Same.refl _ _
    · rename_i a_20 a_21
      refine SameO.out_next ?_
      exact Same.refl _ _
  · rename_i a_22 a_23 a_24 a_25
    split
    · rename_i a_26 a_27 a_28
      extract_lets +onlyGivenNames x_29
      refine SameO.out_next ?_
      refine Same.step (trainProgress_same ..) ?_
      refine Same.step (setTrainOp_same ..) ?_
      exact Same.refl _ _
    · rename_i a_30 a_31
      refine SameO.out_next ?_
      exact Same.refl _ _
  · rename_i a_32 a_33 a_34
    refine SameO.out_next ?_
    refine Same.step (Same.set_train ..) ?_
    exact Same.refl _ _
  · rename_i a_35 a_36
    refine SameO.out_next ?_
    refine Same.step (oweReport_same ..) ?_
    refine Same.step (dropTrain_same ..) ?_
    exact Same.refl _ _
  · rename_i a_37 a_38 a_39 a_40
    refine SameO.out_next ?_
    refine Same.step (raiseTrain_same ..) ?_
    exact Same.refl _ _

end Sys2Proof.Machine
end

