-- ==== Sys2Proof/Laws/KeepFences.lean ====
section
/-! SUPPORT. What each operation of Machine/Fences.lean leaves alone: the parts it may write, as a number, and all else kept. -/

set_option linter.unusedVariables false

namespace Sys2Proof.Machine

set_option Elab.async false

theorem enterFence_same (s : State) (d : Nat) : Same 2097152 s (enterFence s d) := by
  have h0 := Same.refl 2097152 s
  unfold enterFence
  extract_lets +onlyGivenNames x_1
  extract_lets +onlyGivenNames x_2
  refine Same.step (Same.set_ras ..) ?_
  exact Same.refl _ _

theorem fenceChunks_same (s : State) (c : Cover) : Same 34359740420 s (fenceChunks s c) := by
  have h0 := Same.refl 34359740420 s
  unfold fenceChunks
  refine Same.foldl _ ?_ ?_
  · exact Same.refl _ _
  · intro a_1 a_2 a_3
    extract_lets +onlyGivenNames x_4
    have h_5 : Same 34359740420 s x_4 := by
      subst x_4
      refine Same.step (undoChunk_same ..) ?_
      exact a_3
    clear_value x_4
    split
    · rename_i a_6 a_7 a_8
      refine Same.step (bumpBy_same ..) ?_
      refine Same.step (setOp_same ..) ?_
      exact h_5
    · rename_i a_9 a_10
      exact h_5

theorem losePages_same (s : State) (c : Cover) : Same 309237647492 s (losePages s c).1 := by
  have h0 := Same.refl 309237647492 s
  unfold losePages
  extract_lets +onlyGivenNames x_1
  have h_2 : Same 309237647492 s x_1 := by
    subst x_1
    refine Same.step (fenceChunks_same ..) ?_
    exact Same.refl _ _
  clear_value x_1
  extract_lets +onlyGivenNames x_3
  extract_lets +onlyGivenNames x_4
  have h_5 : Same 309237647492 s x_4 := by
    subst x_4
    refine Same.foldl _ ?_ ?_
    · exact h_2
    · intro a_6 a_7 a_8
      extract_lets +onlyGivenNames x_9
      have h_10 : Same 309237647492 s x_9 := by
        subst x_9
        refine Same.step (loseBack_same ..) ?_
        exact a_8
      clear_value x_9
      split
      · rename_i a_11 a_12 a_13 a_14
        refine Same.step (freeLoc_same ..) ?_
        exact h_10
      · rename_i a_15 a_16
        exact h_10
  clear_value x_4
  extract_lets +onlyGivenNames x_17
  have h_18 : Same 309237647492 s x_17 := by
    subst x_17
    refine Same.foldl _ ?_ ?_
    · exact h_5
    · intro a_19 a_20 a_21
      refine Same.step (dropCopy_same ..) ?_
      exact a_21
  clear_value x_17
  extract_lets +onlyGivenNames x_22
  extract_lets +onlyGivenNames x_23
  have h_24 : Same 309237647492 s x_23 := by
    subst x_23
    refine Same.step (Same.set_coh ..) ?_
    exact h_18
  clear_value x_23
  extract_lets +onlyGivenNames x_25
  subst x_25
  dsimp -zeta -zetaHave only
  extract_lets +onlyGivenNames x_26
  extract_lets +onlyGivenNames x_27
  have h_28 : Same 309237647492 s x_27 := by
    subst x_27
    refine Same.step (Same.set_tier ..) ?_
    exact h_24
  clear_value x_27
  refine Same.pair1 ?_
  refine Same.step (bumpBy_same ..) ?_
  exact h_28

theorem dropOweds_same (s : State) (e : Endpoint) : Same 128 s (dropOweds s e) := by
  have h0 := Same.refl 128 s
  unfold dropOweds
  refine Same.step (Same.set_coh ..) ?_
  exact Same.refl _ _

theorem closeFor_same (s : State) (e : Endpoint) (line : Nat) : Same 34360920204 s (closeFor s e line) := by
  have h0 := Same.refl 34360920204 s
  unfold closeFor
  split
  · rename_i a_1 a_2
    exact Same.refl _ _
  · rename_i a_3 a_4 a_5
    extract_lets +onlyGivenNames x_6
    extract_lets +onlyGivenNames x_7
    refine Same.ite0 ?_ ?_
    · exact Same.refl _ _
    · extract_lets +onlyGivenNames x_8
      have h_9 : Same 34360920204 s x_8 := by
        subst x_8
        split
        · rename_i a_10 a_11 a_12 a_13
          refine Same.ite0 ?_ ?_
          · refine Same.step (modStat_same ..) ?_
            exact Same.refl _ _
          · exact Same.refl _ _
        · rename_i a_14 a_15 a_16
          exact Same.refl _ _
      clear_value x_8
      extract_lets +onlyGivenNames x_17
      refine Same.step (progress_same ..) ?_
      refine Same.step (setTrans_same ..) ?_
      exact h_9

theorem poisonOwned_same (s : State) (e : Endpoint) : Same 446676598916 s (poisonOwned s e).1 := by
  have h0 := Same.refl 446676598916 s
  unfold poisonOwned
  extract_lets +onlyGivenNames x_1
  extract_lets +onlyGivenNames x_2
  have h_3 : Same 446676598916 s x_2 := by
    subst x_2
    refine Same.foldl _ ?_ ?_
    · refine Same.foldl _ ?_ ?_
      · exact Same.refl _ _
      · intro a_4 a_5 a_6
        refine Same.step (markDirty_same ..) ?_
        exact a_6
    · intro a_7 a_8 a_9
      extract_lets +onlyGivenNames x_10
      have h_11 : Same 446676598916 s x_10 := by
        subst x_10
        refine Same.step (homeErr_same ..) ?_
        refine Same.step (dropDir_same ..) ?_
        refine Same.step (storeLine_same ..) ?_
        exact a_9
      clear_value x_10
      refine Same.step (Same.set_coh ..) ?_
      exact h_11
  clear_value x_2
  refine Same.pair1 ?_
  exact h_3

theorem fenceEndpoint_same (s : State) (e : Endpoint) : Same 446677781132 s (fenceEndpoint s e).1 := by
  have h0 := Same.refl 446677781132 s
  unfold fenceEndpoint
  split
  · rename_i a_1 a_2 a_3 a_4
    have h_5 : Same 446677781132 s a_2 := by
      refine Same.of1 ?_ a_4
      refine Same.step (poisonOwned_same ..) ?_
      refine Same.step (dropOweds_same ..) ?_
      exact Same.refl _ _
    extract_lets +onlyGivenNames x_6
    extract_lets +onlyGivenNames x_7
    have h_8 : Same 446677781132 s x_7 := by
      subst x_7
      refine Same.step (Same.set_coh ..) ?_
      exact h_5
    clear_value x_7
    extract_lets +onlyGivenNames x_9
    extract_lets +onlyGivenNames x_10
    have h_11 : Same 446677781132 s x_10 := by
      subst x_10
      refine Same.step (Same.set_atm ..) ?_
      exact h_8
    clear_value x_10
    refine Same.pair1 ?_
    refine Same.foldl _ ?_ ?_
    · exact h_11
    · intro a_12 a_13 a_14
      refine Same.step (closeFor_same ..) ?_
      exact a_14

theorem closedTether_same (s : State) (t : Tether) : Same 131108 s (closedTether s t) := by
  have h0 := Same.refl 131108 s
  unfold closedTether
  refine Same.ite0 ?_ ?_
  · extract_lets +onlyGivenNames x_1
    have h_2 : Same 131108 s x_1 := by
      subst x_1
      refine Same.step (bump_same ..) ?_
      refine Same.step (dropTether_same ..) ?_
      exact Same.refl _ _
    clear_value x_1
    split
    · rename_i a_3 a_4 a_5
      refine Same.step (engineDone_same ..) ?_
      exact h_2
    · rename_i a_6 a_7
      exact h_2
  · exact Same.refl _ _

theorem fenceTether_same (s : State) (cause : Nat) (t : Tether) : Same 10616876 s (fenceTether s cause t).1 := by
  have h0 := Same.refl 10616876 s
  unfold fenceTether
  refine Same.ite (f := Prod.fst) ?_ ?_
  · refine Same.pair1 ?_
    refine Same.step (dropTether_same ..) ?_
    exact Same.refl _ _
  · split
    · rename_i a_1 a_2
      extract_lets +onlyGivenNames x_3
      have h_4 : Same 10616876 s x_3 := by
        subst x_3
        refine Same.step (reserveUnits_same ..) ?_
        exact Same.refl _ _
      clear_value x_3
      extract_lets +onlyGivenNames x_5
      have h_6 : Same 10616876 s x_5 := by
        subst x_5
        refine Same.step (putTether_same ..) ?_
        exact h_4
      clear_value x_5
      extract_lets +onlyGivenNames x_7
      have h_8 : Same 10616876 s x_7 := by
        subst x_7
        refine Same.foldl _ ?_ ?_
        · exact h_6
        · intro a_9 a_10 a_11
          refine Same.step (sendSwitch_same ..) ?_
          exact a_11
      clear_value x_7
      refine Same.pair1 ?_
      refine Same.step (logEvent_same ..) ?_
      refine Same.step (bump_same ..) ?_
      exact h_8
    · rename_i a_12 a_13
      refine Same.pair1 ?_
      refine Same.step (refuseTether_same ..) ?_
      exact Same.refl _ _
    · rename_i a_14 a_15
      refine Same.pair1 ?_
      refine Same.step (closedTether_same ..) ?_
      exact Same.refl _ _
    · rename_i a_16 a_17
      refine Same.pair1 ?_
      exact Same.refl _ _

theorem fenceTethers_same (s : State) (c : Cover) (cause : Nat) : Same 10616876 s (fenceTethers s c cause).1 := by
  have h0 := Same.refl 10616876 s
  unfold fenceTethers
  refine Same.foldl1 _ ?_ ?_
  · refine Same.pair1 ?_
    exact Same.refl _ _
  · intro a_1 a_2 a_3
    split
    · rename_i a_4 a_5 a_6 a_7
      have h_8 : Same 10616876 s a_5 := by
        refine Same.of1 ?_ a_7
        refine Same.step (fenceTether_same ..) ?_
        exact a_3
      refine Same.pair1 ?_
      exact h_8

theorem cutStreams_same (s : State) (c : Cover) : Same 396 s (cutStreams s c) := by
  have h0 := Same.refl 396 s
  unfold cutStreams
  extract_lets +onlyGivenNames x_1
  refine Same.foldl _ ?_ ?_
  · exact Same.refl _ _
  · intro a_2 a_3 a_4
    refine Same.step (refuseReq_same ..) ?_
    refine Same.step (setOut_same ..) ?_
    exact a_4

theorem dropEgress_same (s : State) (p : Nat) : Same 786436 s (dropEgress s p) := by
  have h0 := Same.refl 786436 s
  unfold dropEgress
  refine Same.foldl _ ?_ ?_
  · exact Same.refl _ _
  · intro a_1 a_2 a_3
    refine Same.step (dropPkt_same ..) ?_
    exact a_3

theorem downPort_same (s : State) (p : Nat) : Same 1835052 s (downPort s p) := by
  have h0 := Same.refl 1835052 s
  unfold downPort
  extract_lets +onlyGivenNames x_1
  have h_2 : Same 1835052 s x_1 := by
    subst x_1
    refine Same.ite0 ?_ ?_
    · refine Same.step (haltBound_same ..) ?_
      exact Same.refl _ _
    · exact Same.refl _ _
  clear_value x_1
  extract_lets +onlyGivenNames x_3
  extract_lets +onlyGivenNames x_4
  have h_5 : Same 1835052 s x_4 := by
    subst x_4
    refine Same.ite0 ?_ ?_
    · refine Same.step (Same.set_link ..) ?_
      exact h_2
    · refine Same.step (dropLink_same ..) ?_
      exact h_2
  clear_value x_4
  refine Same.step (dropEgress_same ..) ?_
  exact h_5

theorem cutMarkers_same (s : State) (c : Cover) : Same 131072 s (cutMarkers s c) := by
  have h0 := Same.refl 131072 s
  unfold cutMarkers
  refine Same.step (Same.set_route ..) ?_
  exact Same.refl _ _

theorem sendNotices_same (s : State) (d : Nat) (unfence : Bool) : Same 2097160 s (sendNotices s d unfence) := by
  have h0 := Same.refl 2097160 s
  unfold sendNotices
  refine Same.foldl _ ?_ ?_
  · exact Same.refl _ _
  · intro a_1 a_2 a_3
    extract_lets +onlyGivenNames x_4
    extract_lets +onlyGivenNames x_5
    extract_lets +onlyGivenNames x_6
    have h_7 : Same 2097160 s x_6 := by
      subst x_6
      refine Same.step (Same.set_ras ..) ?_
      exact a_3
    clear_value x_6
    refine Same.foldl _ ?_ ?_
    · exact h_7
    · intro a_8 a_9 a_10
      refine Same.step (emit_same ..) ?_
      exact a_10

theorem pruneTrain_same (s : State) (c : Cover) (t : TrainRec) : Same 532576145068 s (pruneTrain s c t).1 := by
  have h0 := Same.refl 532576145068 s
  unfold pruneTrain
  extract_lets +onlyGivenNames x_1
  extract_lets +onlyGivenNames x_2
  extract_lets +onlyGivenNames x_3
  extract_lets +onlyGivenNames x_4
  extract_lets +onlyGivenNames x_5
  refine Same.ite (f := Prod.fst) ?_ ?_
  · extract_lets +onlyGivenNames x_6
    have h_7 : Same 532576145068 s x_6 := by
      subst x_6
      refine Same.step (releaseTrain_same ..) ?_
      exact Same.refl _ _
    clear_value x_6
    extract_lets +onlyGivenNames x_8
    have h_9 : Same 532576145068 s x_8 := by
      subst x_8
      refine Same.foldl _ ?_ ?_
      · exact h_7
      · intro a_10 a_11 a_12
        refine Same.step (loseInst_same ..) ?_
        exact a_12
    clear_value x_8
    refine Same.pair1 ?_
    refine Same.step (Same.set_train ..) ?_
    exact h_9
  · refine Same.ite (f := Prod.fst) ?_ ?_
    · refine Same.pair1 ?_
      exact Same.refl _ _
    · extract_lets +onlyGivenNames x_13
      extract_lets +onlyGivenNames x_14
      refine Same.pair1 ?_
      refine Same.step (tellRaise_same ..) ?_
      refine Same.step (pruneEntry_same ..) ?_
      exact Same.refl _ _

theorem fenceTrains_same (s : State) (c : Cover) : Same 532576145068 s (fenceTrains s c).1 := by
  have h0 := Same.refl 532576145068 s
  unfold fenceTrains
  refine Same.foldl1 _ ?_ ?_
  · refine Same.pair1 ?_
    exact Same.refl _ _
  · intro a_1 a_2 a_3
    split
    · rename_i a_4 a_5 a_6 a_7
      have h_8 : Same 532576145068 s a_5 := by
        refine Same.of1 ?_ a_7
        refine Same.step (pruneTrain_same ..) ?_
        exact a_3
      refine Same.pair1 ?_
      exact h_8

theorem fenceStep_same (s : State) (d0 : Nat) (cause : Nat) (tell : Bool) : Same 534735949740 s (fenceStep s d0 cause tell).1 := by
  have h0 := Same.refl 534735949740 s
  unfold fenceStep
  extract_lets +onlyGivenNames x_1
  extract_lets +onlyGivenNames x_2
  extract_lets +onlyGivenNames x_3
  extract_lets +onlyGivenNames x_4
  have h_5 : Same 534735949740 s x_4 := by
    subst x_4
    refine Same.step (bump_same ..) ?_
    refine Same.step (Same.set_ras ..) ?_
    exact Same.refl _ _
  clear_value x_4
  extract_lets +onlyGivenNames x_6
  have h_7 : Same 534735949740 s x_6 := by
    subst x_6
    refine Same.step (enterFence_same ..) ?_
    refine Same.ite0 ?_ ?_
    · refine Same.step (sendNotices_same ..) ?_
      exact h_5
    · exact h_5
  clear_value x_6
  extract_lets +onlyGivenNames x_8
  have h_9 : Same 534735949740 s x_8 := by
    subst x_8
    refine Same.foldl _ ?_ ?_
    · exact h_7
    · intro a_10 a_11 a_12
      refine Same.step (downPort_same ..) ?_
      exact a_12
  clear_value x_8
  extract_lets +onlyGivenNames x_13
  have h_14 : Same 534735949740 s x_13 := by
    subst x_13
    refine Same.step (cutStreams_same ..) ?_
    exact h_9
  clear_value x_13
  extract_lets +onlyGivenNames x_15
  extract_lets +onlyGivenNames x_16
  have h_17 : Same 534735949740 s x_16 := by
    subst x_16
    refine Same.step (Same.set_route ..) ?_
    exact h_14
  clear_value x_16
  split
  · rename_i a_18 a_19 a_20 a_21
    have h_22 : Same 534735949740 s a_19 := by
      refine Same.of1 ?_ a_21
      refine Same.step (fenceTethers_same ..) ?_
      refine Same.step (cutMarkers_same ..) ?_
      exact h_17
    extract_lets +onlyGivenNames x_23
    have h_24 : Same 534735949740 s x_23 := by
      subst x_23
      refine Same.step (afterMarkers_same ..) ?_
      exact h_22
    clear_value x_23
    split
    · rename_i a_25 a_26 a_27 a_28
      have h_29 : Same 534735949740 s a_26 := by
        refine Same.of1 ?_ a_28
        refine Same.step (fenceTrains_same ..) ?_
        exact h_24
      split
      · rename_i a_30 a_31 a_32 a_33
        have h_34 : Same 534735949740 s a_31 := by
          refine Same.of1 ?_ a_33
          refine Same.foldl1 _ ?_ ?_
          · refine Same.pair1 ?_
            exact h_29
          · intro a_35 a_36 a_37
            split
            · rename_i a_38 a_39 a_40 a_41
              have h_42 : Same 534735949740 s a_39 := by
                refine Same.of1 ?_ a_41
                refine Same.step (fenceEndpoint_same ..) ?_
                exact a_37
              refine Same.pair1 ?_
              exact h_42
        split
        · rename_i a_43 a_44 a_45 a_46
          have h_47 : Same 534735949740 s a_44 := by
            refine Same.of1 ?_ a_46
            refine Same.step (losePages_same ..) ?_
            exact h_34
          refine Same.pair1 ?_
          refine Same.step (Same.set_pool_compOrder ..) ?_
          exact h_47

theorem fenceFor_same (s : State) (d : Nat) (cause : Nat) (d0 : Nat) (d1 : FenceCount → Nat) : Same 534735949740 s (fenceFor s d cause d0 d1) := by
  have h0 := Same.refl 534735949740 s
  unfold fenceFor
  split
  · rename_i a_1 a_2 a_3 a_4
    have h_5 : Same 534735949740 s a_2 := by
      refine Same.of1 ?_ a_4
      refine Same.step (fenceStep_same ..) ?_
      exact Same.refl _ _
    refine Same.step (logEvent_same ..) ?_
    exact h_5

theorem alertFence_same (s : State) (i : Nat) : Same 534735949740 s (alertFence s i) := by
  have h0 := Same.refl 534735949740 s
  unfold alertFence
  extract_lets +onlyGivenNames x_1
  extract_lets +onlyGivenNames x_2
  refine Same.ite0 ?_ ?_
  · refine Same.step (bump_same ..) ?_
    exact Same.refl _ _
  · refine Same.ite0 ?_ ?_
    · refine Same.step (logEvent_same ..) ?_
      refine Same.step (bump_same ..) ?_
      exact Same.refl _ _
    · refine Same.ite0 ?_ ?_
      · refine Same.step (logEvent_same ..) ?_
        exact Same.refl _ _
      · refine Same.step (fenceFor_same ..) ?_
        exact Same.refl _ _

theorem sweepEnd_same (s : State) (e : Endpoint) : Same 128 s (sweepEnd s e) := by
  have h0 := Same.refl 128 s
  unfold sweepEnd
  refine Same.ite0 ?_ ?_
  · refine Same.step (Same.set_coh ..) ?_
    exact Same.refl _ _
  · exact Same.refl _ _

theorem restorePart_same (s : State) (c : Cover) : Same 1048744 s (restorePart s c) := by
  have h0 := Same.refl 1048744 s
  unfold restorePart
  extract_lets +onlyGivenNames x_1
  extract_lets +onlyGivenNames x_2
  extract_lets +onlyGivenNames x_3
  have h_4 : Same 1048744 s x_3 := by
    subst x_3
    refine Same.foldl _ ?_ ?_
    · exact Same.refl _ _
    · intro a_5 a_6 a_7
      refine Same.step (sweepEnd_same ..) ?_
      exact a_7
  clear_value x_3
  extract_lets +onlyGivenNames x_8
  extract_lets +onlyGivenNames x_9
  have h_10 : Same 1048744 s x_9 := by
    subst x_9
    refine Same.step (Same.set_coh ..) ?_
    exact h_4
  clear_value x_9
  refine Same.foldl _ ?_ ?_
  · exact h_10
  · intro a_11 a_12 a_13
    refine Same.step (startPort_same ..) ?_
    exact a_13

theorem unfenceStep_same (s : State) (d : Nat) (tell : Bool) : Same 3145900 s (unfenceStep s d tell) := by
  have h0 := Same.refl 3145900 s
  unfold unfenceStep
  extract_lets +onlyGivenNames x_1
  extract_lets +onlyGivenNames x_2
  extract_lets +onlyGivenNames x_3
  have h_4 : Same 3145900 s x_3 := by
    subst x_3
    refine Same.step (bump_same ..) ?_
    refine Same.step (Same.set_ras ..) ?_
    exact Same.refl _ _
  clear_value x_3
  refine Same.step (restorePart_same ..) ?_
  refine Same.ite0 ?_ ?_
  · refine Same.step (sendNotices_same ..) ?_
    exact h_4
  · exact h_4

theorem applyNotice_same (s : State) (m : Notice) : Same 534735949740 s (applyNotice s m) := by
  have h0 := Same.refl 534735949740 s
  unfold applyNotice
  refine Same.ite0 ?_ ?_
  · exact Same.refl _ _
  · refine Same.ite0 ?_ ?_
    · refine Same.ite0 ?_ ?_
      · refine Same.step (logEvent_same ..) ?_
        refine Same.step (unfenceStep_same ..) ?_
        exact Same.refl _ _
      · exact Same.refl _ _
    · refine Same.ite0 ?_ ?_
      · refine Same.step (logEvent_same ..) ?_
        exact Same.refl _ _
      · refine Same.step (fenceFor_same ..) ?_
        exact Same.refl _ _

theorem execCompressionEngineFault_same (i : StackId) (s : State) : SameO 10487852 s (outSt (execCompressionEngineFault i s)) := by
  have h0 := Same.refl 10487852 s
  unfold execCompressionEngineFault
  refine SameO.ite (f := outSt) ?_ ?_
  · refine SameO.out_next ?_
    exact Same.refl _ _
  · refine SameO.ite (f := outSt) ?_ ?_
    · refine SameO.out_next ?_
      refine Same.step (logEvent_same ..) ?_
      refine Same.step (Same.set_tier ..) ?_
      exact Same.refl _ _
    · refine SameO.out_next ?_
      refine Same.step (Same.set_tier ..) ?_
      exact Same.refl _ _

theorem snoopExpired_same (s : State) (dst : Endpoint) (line : Nat) : Same 534735949740 s (snoopExpired s dst line) := by
  have h0 := Same.refl 534735949740 s
  unfold snoopExpired
  extract_lets +onlyGivenNames x_1
  extract_lets +onlyGivenNames x_2
  have h_3 : Same 534735949740 s x_2 := by
    subst x_2
    refine Same.step (bump_same ..) ?_
    refine Same.step (homeErr_same ..) ?_
    exact Same.refl _ _
  clear_value x_2
  extract_lets +onlyGivenNames x_4
  have h_5 : Same 534735949740 s x_4 := by
    subst x_4
    refine Same.step (regSet_same ..) ?_
    exact h_3
  clear_value x_4
  split
  · rename_i a_6 a_7 a_8
    refine Same.ite0 ?_ ?_
    · refine Same.step (fenceEndpoint_same ..) ?_
      exact h_5
    · refine Same.step (fenceFor_same ..) ?_
      exact h_5
  · rename_i a_9 a_10
    extract_lets +onlyGivenNames x_11
    have h_12 : Same 534735949740 s x_11 := by
      subst x_11
      split
      · rename_i a_13 a_14 a_15
        refine Same.step (sendSwitch_same ..) ?_
        exact h_5
      · rename_i a_16 a_17
        exact h_5
    clear_value x_11
    split
    · rename_i a_18 a_19 a_20 a_21
      have h_22 : Same 534735949740 s a_19 := by
        refine Same.of1 ?_ a_21
        refine Same.step (fenceEndpoint_same ..) ?_
        exact h_12
      refine Same.step (logEvent_same ..) ?_
      exact h_22

theorem execDomAlert_same (i : Fin 16) (s : State) : SameO 534740144044 s (outSt (execDomAlert i s)) := by
  have h0 := Same.refl 534740144044 s
  unfold execDomAlert
  refine SameO.ite (f := outSt) ?_ ?_
  · refine SameO.out_next ?_
    exact Same.refl _ _
  · extract_lets +onlyGivenNames x_1
    extract_lets +onlyGivenNames x_2
    have h_3 : Same 534740144044 s x_2 := by
      subst x_2
      refine Same.step (Same.set_ras ..) ?_
      exact Same.refl _ _
    refine SameO.ite (f := outSt) ?_ ?_
    · refine SameO.out_next ?_
      refine Same.step (Same.set_sys ..) ?_
      exact h_3
    · refine SameO.ite (f := outSt) ?_ ?_
      · refine SameO.out_next ?_
        refine Same.step (alertFence_same ..) ?_
        exact h_3
      · refine SameO.out_next ?_
        exact h_3

theorem execDomAlertRelease_same (i : Fin 16) (s : State) : SameO 2097152 s (outSt (execDomAlertRelease i s)) := by
  have h0 := Same.refl 2097152 s
  unfold execDomAlertRelease
  refine SameO.out_next ?_
  refine Same.step (Same.set_ras ..) ?_
  exact Same.refl _ _

theorem execFenceDomain_same (h : Handle) (s : State) : SameO 534735949740 s (outSt (execFenceDomain h s)) := by
  have h0 := Same.refl 534735949740 s
  unfold execFenceDomain
  extract_lets +onlyGivenNames x_1
  split
  · rename_i a_2 a_3
    refine SameO.out_next ?_
    exact Same.refl _ _
  · rename_i a_4 a_5 a_6
    extract_lets +onlyGivenNames x_7
    refine SameO.ite (f := outSt) ?_ ?_
    · refine SameO.out_next ?_
      refine Same.step (badDesc_same ..) ?_
      exact Same.refl _ _
    · refine SameO.ite (f := outSt) ?_ ?_
      · refine SameO.out_next ?_
        refine Same.step (commit_same ..) ?_
        exact Same.refl _ _
      · split
        · rename_i a_8 a_9 a_10 a_11
          have h_12 : Same 534735949740 s a_9 := by
            refine Same.of1 ?_ a_11
            refine Same.step (fenceStep_same ..) ?_
            refine Same.step (markStarted_same ..) ?_
            exact Same.refl _ _
          extract_lets +onlyGivenNames x_13
          extract_lets +onlyGivenNames x_14
          have h_15 : Same 534735949740 s x_14 := by
            subst x_14
            refine Same.step (logEvent_same ..) ?_
            exact h_12
          clear_value x_14
          extract_lets +onlyGivenNames x_16
          extract_lets +onlyGivenNames x_17
          extract_lets +onlyGivenNames x_18
          have h_19 : Same 534735949740 s x_18 := by
            subst x_18
            refine Same.step (Same.set_ras ..) ?_
            exact h_15
          clear_value x_18
          refine SameO.out_next ?_
          refine Same.step (commitWith_same ..) ?_
          exact h_19

theorem forwardNotice_same (s : State) (m : Notice) : Same 2097160 s (forwardNotice s m) := by
  have h0 := Same.refl 2097160 s
  unfold forwardNotice
  extract_lets +onlyGivenNames x_1
  extract_lets +onlyGivenNames x_2
  have h_3 : Same 2097160 s x_2 := by
    subst x_2
    refine Same.step (Same.set_ras ..) ?_
    exact Same.refl _ _
  clear_value x_2
  refine Same.foldl _ ?_ ?_
  · exact h_3
  · intro a_4 a_5 a_6
    refine Same.step (emit_same ..) ?_
    exact a_6

theorem execFenceNotice_same (n : NoticeMsg) (s : State) : SameO 534735949740 s (outSt (execFenceNotice n s)) := by
  have h0 := Same.refl 534735949740 s
  unfold execFenceNotice
  extract_lets +onlyGivenNames x_1
  extract_lets +onlyGivenNames x_2
  have h_3 : Same 534735949740 s x_2 := by
    subst x_2
    refine Same.step (bump_same ..) ?_
    exact Same.refl _ _
  clear_value x_2
  refine SameO.ite (f := outSt) ?_ ?_
  · refine SameO.out_next ?_
    exact h_3
  · refine SameO.out_next ?_
    refine Same.step (applyNotice_same ..) ?_
    refine Same.step (forwardNotice_same ..) ?_
    exact h_3

theorem execFilterSweepEnd_same (dst : Endpoint) (s : State) : SameO 128 s (outSt (execFilterSweepEnd dst s)) := by
  have h0 := Same.refl 128 s
  unfold execFilterSweepEnd
  refine SameO.out_next ?_
  refine Same.step (sweepEnd_same ..) ?_
  exact Same.refl _ _

theorem execPortDownFenceTimeout_same (p : PortId) (s : State) : SameO 534735949740 s (outSt (execPortDownFenceTimeout p s)) := by
  have h0 := Same.refl 534735949740 s
  unfold execPortDownFenceTimeout
  refine SameO.ite (f := outSt) ?_ ?_
  · refine SameO.out_next ?_
    exact Same.refl _ _
  · split
    · rename_i a_1 a_2
      refine SameO.out_next ?_
      exact Same.refl _ _
    · rename_i a_3 a_4 a_5
      refine SameO.ite (f := outSt) ?_ ?_
      · refine SameO.out_next ?_
        exact Same.refl _ _
      · refine SameO.out_next ?_
        refine Same.step (fenceFor_same ..) ?_
        exact Same.refl _ _

theorem execSnoopTimeout_same (off : PoolOff) (dst : Endpoint) (s : State) : SameO 534735949740 s (outSt (execSnoopTimeout off dst s)) := by
  have h0 := Same.refl 534735949740 s
  unfold execSnoopTimeout
  extract_lets +onlyGivenNames x_1
  extract_lets +onlyGivenNames x_2
  split
  · rename_i a_3 a_4
    refine SameO.out_next ?_
    exact Same.refl _ _
  · rename_i a_5 a_6 a_7
    split
    · rename_i a_8 a_9
      refine SameO.out_next ?_
      exact Same.refl _ _
    · rename_i a_10 a_11 a_12
      refine SameO.ite (f := outSt) ?_ ?_
      · refine SameO.out_next ?_
        exact Same.refl _ _
      · refine SameO.out_next ?_
        refine Same.step (snoopExpired_same ..) ?_
        exact Same.refl _ _

theorem execSpareQuery_same (h : Handle) (s : State) : SameO 44 s (outSt (execSpareQuery h s)) := by
  have h0 := Same.refl 44 s
  unfold execSpareQuery
  extract_lets +onlyGivenNames x_1
  split
  · rename_i a_2 a_3
    refine SameO.out_next ?_
    exact Same.refl _ _
  · rename_i a_4 a_5 a_6
    extract_lets +onlyGivenNames x_7
    refine SameO.ite (f := outSt) ?_ ?_
    · refine SameO.out_next ?_
      refine Same.step (badDesc_same ..) ?_
      exact Same.refl _ _
    · refine SameO.ite (f := outSt) ?_ ?_
      · extract_lets +onlyGivenNames x_8
        refine SameO.ite (f := outSt) ?_ ?_
        · refine SameO.out_next ?_
          refine Same.step (badDesc_same ..) ?_
          exact Same.refl _ _
        · extract_lets +onlyGivenNames x_9
          refine SameO.out_next ?_
          refine Same.step (commit_same ..) ?_
          exact Same.refl _ _
      · extract_lets +onlyGivenNames x_10
        extract_lets +onlyGivenNames x_11
        extract_lets +onlyGivenNames x_12
        extract_lets +onlyGivenNames x_13
        extract_lets +onlyGivenNames x_14
        extract_lets +onlyGivenNames x_15
        extract_lets +onlyGivenNames x_16
        extract_lets +onlyGivenNames x_17
        extract_lets +onlyGivenNames x_18
        extract_lets +onlyGivenNames x_19
        refine SameO.out_next ?_
        refine Same.step (commit_same ..) ?_
        exact Same.refl _ _

theorem execUnfenceDomain_same (h : Handle) (s : State) : SameO 11534508 s (outSt (execUnfenceDomain h s)) := by
  have h0 := Same.refl 11534508 s
  unfold execUnfenceDomain
  extract_lets +onlyGivenNames x_1
  split
  · rename_i a_2 a_3
    refine SameO.out_next ?_
    exact Same.refl _ _
  · rename_i a_4 a_5 a_6
    extract_lets +onlyGivenNames x_7
    refine SameO.ite (f := outSt) ?_ ?_
    · refine SameO.out_next ?_
      refine Same.step (badDesc_same ..) ?_
      exact Same.refl _ _
    · refine SameO.ite (f := outSt) ?_ ?_
      · refine SameO.out_next ?_
        refine Same.step (commit_same ..) ?_
        exact Same.refl _ _
      · refine SameO.ite (f := outSt) ?_ ?_
        · refine SameO.out_next ?_
          refine Same.step (commit_same ..) ?_
          exact Same.refl _ _
        · extract_lets +onlyGivenNames x_8
          have h_9 : Same 11534508 s x_8 := by
            subst x_8
            refine Same.step (unfenceStep_same ..) ?_
            refine Same.step (markStarted_same ..) ?_
            exact Same.refl _ _
          clear_value x_8
          extract_lets +onlyGivenNames x_10
          have h_11 : Same 11534508 s x_10 := by
            subst x_10
            refine Same.step (logEvent_same ..) ?_
            exact h_9
          clear_value x_10
          refine SameO.out_next ?_
          refine Same.step (commit_same ..) ?_
          exact h_11

theorem execWinchEngineFault_same (e : Fin 16) (s : State) : SameO 10487852 s (outSt (execWinchEngineFault e s)) := by
  have h0 := Same.refl 10487852 s
  unfold execWinchEngineFault
  refine SameO.ite (f := outSt) ?_ ?_
  · refine SameO.out_next ?_
    exact Same.refl _ _
  · refine SameO.ite (f := outSt) ?_ ?_
    · refine SameO.out_next ?_
      refine Same.step (Same.set_tier ..) ?_
      exact Same.refl _ _
    · extract_lets +onlyGivenNames x_1
      extract_lets +onlyGivenNames x_2
      have h_3 : Same 10487852 s x_2 := by
        subst x_2
        refine Same.step (Same.set_tier ..) ?_
        exact Same.refl _ _
      refine SameO.ite (f := outSt) ?_ ?_
      · refine SameO.out_next ?_
        refine Same.step (errorRecord_same ..) ?_
        refine Same.step (Same.set_tier ..) ?_
        exact h_3
      · extract_lets +onlyGivenNames x_4
        extract_lets +onlyGivenNames x_5
        have h_6 : Same 10487852 s x_5 := by
          subst x_5
          refine Same.step (Same.set_tier ..) ?_
          exact h_3
        clear_value x_5
        refine SameO.out_next ?_
        refine Same.step (assignEngines_same ..) ?_
        refine Same.step (logEvent_same ..) ?_
        exact h_6

end Sys2Proof.Machine
end

