-- ==== Sys2Proof/Laws/KeepCxlMem.lean ====
section
/-! SUPPORT. What each operation of Machine/CxlMem.lean leaves alone: the parts it may write, as a number, and all else kept. -/

set_option linter.unusedVariables false

namespace Sys2Proof.Machine

set_option Elab.async false

theorem biRow_same (p : Nat) (off : Nat) (stag : Nat) (a : Ans) (s : State) : Same 34371405996 s (biRow p off stag a s) := by
  have h0 := Same.refl 34371405996 s
  unfold biRow
  refine Same.ite0 ?_ ?_
  · refine Same.step (keyDrop_same ..) ?_
    exact Same.refl _ _
  · refine Same.ite0 ?_ ?_
    · refine Same.step (answerSnoop_same ..) ?_
      exact Same.refl _ _
    · exact Same.refl _ _

theorem cxlCount_same (s : State) (p : Nat) (k : Nat) : Same 4 s (cxlCount s p k) := by
  have h0 := Same.refl 4 s
  unfold cxlCount
  refine Same.step (bump_same ..) ?_
  exact Same.refl _ _

theorem cxlRequest_same (s : State) (m : CxlReq) (k : ReqKind) (f : Req → Req) : Same 37417756789644 s (cxlRequest s m k f) := by
  have h0 := Same.refl 37417756789644 s
  unfold cxlRequest
  extract_lets +onlyGivenNames x_1
  refine Same.ite0 ?_ ?_
  · exact Same.refl _ _
  · split
    · rename_i a_2 a_3
      extract_lets +onlyGivenNames x_4
      refine Same.step (refusePort_same ..) ?_
      refine Same.step (cxlRefusalAt_same ..) ?_
      exact Same.refl _ _
    · rename_i a_5 a_6 a_7
      extract_lets +onlyGivenNames x_8
      refine Same.ite0 ?_ ?_
      · refine Same.step (refuseReq_same ..) ?_
        refine Same.step (setBit_same ..) ?_
        exact Same.refl _ _
      · refine Same.ite0 ?_ ?_
        · refine Same.step (refuseReq_same ..) ?_
          refine Same.step (setBit_same ..) ?_
          exact Same.refl _ _
        · split
          · rename_i a_9 a_10 a_11
            have h_12 : Same 37417756789644 s a_10 := by
              refine SameO.next ?_ a_11
              refine SameO.pass (execRequestIngress_same ..) ?_
              exact Same.refl _ _
            exact h_12
          · rename_i a_13 a_14
            exact Same.refl _ _

theorem setCxl_same (s : State) (p : Nat) (c : CxlPort) : Same 1048576 s (setCxl s p c) := by
  have h0 := Same.refl 1048576 s
  unfold setCxl
  refine Same.step (Same.set_link ..) ?_
  exact Same.refl _ _

theorem execBiconflict_same (p : PortId) (off : PoolOff) (s : State) : SameO 140 s (outSt (execBiconflict p off s)) := by
  have h0 := Same.refl 140 s
  unfold execBiconflict
  refine SameO.ite (f := outSt) ?_ ?_
  · extract_lets +onlyGivenNames x_1
    have h_2 : Same 140 s x_1 := by
      subst x_1
      refine Same.step (bump_same ..) ?_
      exact Same.refl _ _
    clear_value x_1
    refine SameO.out_next ?_
    refine Same.step (releaseBiAcks_same ..) ?_
    refine Same.step (Same.set_coh ..) ?_
    exact h_2
  · refine SameO.out_next ?_
    exact Same.refl _ _

theorem execBirspe_same (p : PortId) (off : PoolOff) (stag : BitVec 14) (s : State) : SameO 34371405996 s (outSt (execBirspe p off stag s)) := by
  have h0 := Same.refl 34371405996 s
  unfold execBirspe
  refine SameO.out_next ?_
  refine Same.step (biRow_same ..) ?_
  exact Same.refl _ _

theorem execBirspi_same (p : PortId) (off : PoolOff) (stag : BitVec 14) (s : State) : SameO 34371405996 s (outSt (execBirspi p off stag s)) := by
  have h0 := Same.refl 34371405996 s
  unfold execBirspi
  refine SameO.out_next ?_
  refine Same.step (biRow_same ..) ?_
  exact Same.refl _ _

theorem execBirsps_same (p : PortId) (off : PoolOff) (stag : BitVec 14) (s : State) : SameO 34371405996 s (outSt (execBirsps p off stag s)) := by
  have h0 := Same.refl 34371405996 s
  unfold execBirsps
  refine SameO.out_next ?_
  refine Same.step (biRow_same ..) ?_
  exact Same.refl _ _

theorem execCxlMemrd_same (m : CxlReq) (value : CxlMeta) (s : State) : SameO 37417756789644 s (outSt (execCxlMemrd m value s)) := by
  have h0 := Same.refl 37417756789644 s
  unfold execCxlMemrd
  extract_lets +onlyGivenNames x_1
  refine SameO.out_next ?_
  refine Same.step (cxlRequest_same ..) ?_
  refine Same.step (cxlCount_same ..) ?_
  exact Same.refl _ _

theorem execCxlMemrddata_same (m : CxlReq) (s : State) : SameO 37417756789644 s (outSt (execCxlMemrddata m s)) := by
  have h0 := Same.refl 37417756789644 s
  unfold execCxlMemrddata
  refine SameO.out_next ?_
  refine Same.step (cxlRequest_same ..) ?_
  refine Same.step (cxlCount_same ..) ?_
  exact Same.refl _ _

theorem execCxlMemwr_same (m : CxlReq) (data : Line) (poison : Bool) (s : State) : SameO 37417756789644 s (outSt (execCxlMemwr m data poison s)) := by
  have h0 := Same.refl 37417756789644 s
  unfold execCxlMemwr
  extract_lets +onlyGivenNames x_1
  extract_lets +onlyGivenNames x_2
  have h_3 : Same 37417756789644 s x_2 := by
    subst x_2
    refine Same.step (cxlCount_same ..) ?_
    exact Same.refl _ _
  clear_value x_2
  split
  · rename_i a_4 a_5 a_6
    extract_lets +onlyGivenNames x_7
    refine SameO.ite (f := outSt) ?_ ?_
    · refine SameO.ite (f := outSt) ?_ ?_
      · refine SameO.out_next ?_
        refine Same.step (takeWb_same ..) ?_
        refine Same.step (noteWb_same ..) ?_
        exact h_3
      · refine SameO.out_next ?_
        exact h_3
    · refine SameO.out_next ?_
      refine Same.step (cxlRequest_same ..) ?_
      exact h_3
  · rename_i a_8 a_9
    refine SameO.out_next ?_
    refine Same.step (cxlRequest_same ..) ?_
    exact h_3

theorem execCxlMemwrptl_same (m : CxlReq) (data : Line) (mask : BitVec 64) (poison : Bool) (s : State) : SameO 37417756789644 s (outSt (execCxlMemwrptl m data mask poison s)) := by
  have h0 := Same.refl 37417756789644 s
  unfold execCxlMemwrptl
  refine SameO.out_next ?_
  refine Same.step (cxlRequest_same ..) ?_
  refine Same.step (cxlCount_same ..) ?_
  exact Same.refl _ _

theorem execMemclnevct_same (m : CxlReq) (s : State) : SameO 132 s (outSt (execMemclnevct m s)) := by
  have h0 := Same.refl 132 s
  unfold execMemclnevct
  extract_lets +onlyGivenNames x_1
  extract_lets +onlyGivenNames x_2
  have h_3 : Same 132 s x_2 := by
    subst x_2
    refine Same.step (cxlCount_same ..) ?_
    exact Same.refl _ _
  clear_value x_2
  split
  · rename_i a_4 a_5
    refine SameO.out_next ?_
    exact h_3
  · rename_i a_6 a_7 a_8
    refine SameO.ite (f := outSt) ?_ ?_
    · refine SameO.out_next ?_
      refine Same.step (setBit_same ..) ?_
      exact h_3
    · split
      · rename_i a_9 a_10
        refine SameO.out_next ?_
        exact h_3
      · rename_i a_11 a_12 a_13
        split
        · rename_i a_14 a_15 a_16
          refine SameO.out_next ?_
          refine Same.step (setDir_same ..) ?_
          exact h_3
        · rename_i a_17 a_18
          refine SameO.out_next ?_
          refine Same.step (dropDir_same ..) ?_
          exact h_3

theorem execMeminv_same (m : CxlReq) (s : State) : SameO 12 s (outSt (execMeminv m s)) := by
  have h0 := Same.refl 12 s
  unfold execMeminv
  extract_lets +onlyGivenNames x_1
  extract_lets +onlyGivenNames x_2
  have h_3 : Same 12 s x_2 := by
    subst x_2
    refine Same.step (setBit_same ..) ?_
    refine Same.step (cxlCount_same ..) ?_
    refine Same.step (cxlCount_same ..) ?_
    exact Same.refl _ _
  clear_value x_2
  refine SameO.out_next ?_
  refine Same.step (emit_same ..) ?_
  exact h_3

theorem execMemspecrd_same (m : CxlReq) (s : State) : SameO 4 s (outSt (execMemspecrd m s)) := by
  have h0 := Same.refl 4 s
  unfold execMemspecrd
  refine SameO.out_next ?_
  refine Same.step (cxlCount_same ..) ?_
  exact Same.refl _ _

end Sys2Proof.Machine
end

