-- ==== Sys2Proof/Laws/KeepSwitchCore.lean ====
section
/-! SUPPORT. What each operation of Machine/SwitchCore.lean leaves alone: the parts it may write, as a number, and all else kept. -/

set_option linter.unusedVariables false

namespace Sys2Proof.Machine

set_option Elab.async false

theorem countNotice_same (s : State) (pos : Nat) : Same 4 s (countNotice s pos) := by
  have h0 := Same.refl 4 s
  unfold countNotice
  refine Same.step (bump_same ..) ?_
  exact Same.refl _ _

theorem pushMiddle_same (s : State) (pos : Nat) (tc : Nat) : SameO 262148 s (pushMiddle s pos tc) := by
  have h0 := Same.refl 262148 s
  unfold pushMiddle
  extract_lets +onlyGivenNames x_1
  subst x_1
  dsimp -zeta -zetaHave only
  extract_lets +onlyGivenNames x_2
  split
  · rename_i a_3 a_4
    exact SameO.no
  · rename_i a_5 a_6 a_7
    split
    · rename_i a_8 a_9
      exact SameO.no
    · rename_i a_10 a_11 a_12
      refine SameO.yes ?_
      refine Same.step (countNotice_same ..) ?_
      refine Same.step (Same.set_core ..) ?_
      exact Same.refl _ _

theorem pushOutHeld_same (s : State) (pos : Nat) (tc : Nat) (k : Nat) : SameO 262148 s (pushOutHeld s pos tc k) := by
  have h0 := Same.refl 262148 s
  unfold pushOutHeld
  extract_lets +onlyGivenNames x_1
  split
  · rename_i a_2 a_3
    exact SameO.no
  · rename_i a_4 a_5 a_6
    refine SameO.yes ?_
    refine Same.step (countNotice_same ..) ?_
    refine Same.step (Same.set_core ..) ?_
    exact Same.refl _ _

theorem pushOutQueue_same (s : State) (pos : Nat) (tc : Nat) (p : Nat) : SameO 786436 s (pushOutQueue s pos tc p) := by
  have h0 := Same.refl 786436 s
  unfold pushOutQueue
  split
  · rename_i a_1 a_2
    exact SameO.no
  · rename_i a_3 a_4 a_5
    refine SameO.yes ?_
    refine Same.step (bump_same ..) ?_
    refine Same.step (countNotice_same ..) ?_
    refine Same.step (takePkt_same ..) ?_
    exact Same.refl _ _

theorem pushOutEgress_same (s : State) (pos : Nat) (tc : Nat) : SameO 786436 s (pushOutEgress s pos tc) := by
  have h0 := Same.refl 786436 s
  unfold pushOutEgress
  extract_lets +onlyGivenNames x_1
  subst x_1
  extract_lets +onlyGivenNames x_2
  subst x_2
  dsimp -zeta -zetaHave only
  extract_lets +onlyGivenNames x_3
  extract_lets +onlyGivenNames x_4
  clear_value x_3
  cases x_3
  · split
    · rename_i a_5 a_6 a_7 a_8 a_9 a_10
      refine SameO.ite0 ?_ ?_
      · refine SameO.pass (pushOutQueue_same ..) ?_
        exact Same.refl _ _
      · refine SameO.pass (pushOutHeld_same ..) ?_
        exact Same.refl _ _
    · rename_i a_11 a_12 a_13 a_14 a_15
      refine SameO.pass (pushOutQueue_same ..) ?_
      exact Same.refl _ _
    · rename_i a_16 a_17 a_18 a_19 a_20
      refine SameO.pass (pushOutHeld_same ..) ?_
      exact Same.refl _ _
    · rename_i a_21 a_22 a_23 a_24
      exact SameO.no
  · rename_i c_25
    split
    · rename_i a_26 a_27 a_28 a_29 a_30 a_31
      refine SameO.ite0 ?_ ?_
      · refine SameO.pass (pushOutQueue_same ..) ?_
        exact Same.refl _ _
      · refine SameO.pass (pushOutHeld_same ..) ?_
        exact Same.refl _ _
    · rename_i a_32 a_33 a_34 a_35 a_36
      refine SameO.pass (pushOutQueue_same ..) ?_
      exact Same.refl _ _
    · rename_i a_37 a_38 a_39 a_40 a_41
      refine SameO.pass (pushOutHeld_same ..) ?_
      exact Same.refl _ _
    · rename_i a_42 a_43 a_44 a_45
      exact SameO.no

theorem pushOut_same (s : State) (pos : Nat) (classes : List Nat) : SameO 786436 s (pushOut s pos classes) := by
  have h0 := Same.refl 786436 s
  unfold pushOut
  split
  · rename_i a_1 a_2 a_3
    have h_4 : Same 786436 s a_2 := by
      refine SameO.some ?_ a_3
      refine SameO.findSome ?_
      intro a_5
      refine SameO.pass (pushMiddle_same ..) ?_
      exact Same.refl _ _
    refine SameO.yes ?_
    exact h_4
  · rename_i a_6 a_7
    refine SameO.findSome ?_
    intro a_8
    refine SameO.pass (pushOutEgress_same ..) ?_
    exact Same.refl _ _

theorem admitCell_same (s : State) (pos : Nat) (c : CoreCell) : SameO 786436 s (admitCell s pos c) := by
  have h0 := Same.refl 786436 s
  unfold admitCell
  extract_lets +onlyGivenNames x_1
  refine SameO.ite0 ?_ ?_
  · refine SameO.yes ?_
    exact Same.refl _ _
  · refine SameO.ite0 ?_ ?_
    · refine SameO.yes ?_
      split
      · rename_i a_2 a_3 a_4
        have h_5 : Same 786436 s a_3 := by
          refine SameO.some ?_ a_4
          refine SameO.pass (pushOut_same ..) ?_
          exact Same.refl _ _
        refine Same.step (bump_same ..) ?_
        exact h_5
      · rename_i a_6 a_7
        exact Same.refl _ _
    · refine SameO.map ?_
      intro a_8 a_9
      have h_10 : Same 786436 s a_8 := by
        refine SameO.some ?_ a_9
        refine SameO.pass (pushOut_same ..) ?_
        exact Same.refl _ _
      refine Same.step (bump_same ..) ?_
      exact h_10

theorem cellsLeave_same (s : State) (cs : List CoreCell) : Same 262144 s (cellsLeave s cs) := by
  have h0 := Same.refl 262144 s
  unfold cellsLeave
  refine Same.step (leaveCore_same ..) ?_
  exact Same.refl _ _

theorem deviceStop_same (s : State) (kind : Nat) (idx : Nat) (cause : Nat) : Same 15728684 s (deviceStop s kind idx cause) := by
  have h0 := Same.refl 15728684 s
  unfold deviceStop
  extract_lets +onlyGivenNames x_1
  have h_2 : Same 15728684 s x_1 := by
    subst x_1
    refine Same.step (logEvent_same ..) ?_
    exact Same.refl _ _
  clear_value x_1
  extract_lets +onlyGivenNames x_3
  extract_lets +onlyGivenNames x_4
  extract_lets +onlyGivenNames x_5
  have h_6 : Same 15728684 s x_5 := by
    subst x_5
    refine Same.foldl _ ?_ ?_
    · exact h_2
    · intro a_7 a_8 a_9
      refine Same.ite0 ?_ ?_
      · refine Same.step (haltBound_same ..) ?_
        refine Same.ite0 ?_ ?_
        · refine Same.step (emit_same ..) ?_
          exact a_9
        · exact a_9
      · exact a_9
  clear_value x_5
  refine Same.step (raiseAlert_same ..) ?_
  refine Same.step (Same.set_link_sys ..) ?_
  exact h_6

theorem putMiddle_same (s : State) (c : CoreCell) : Same 262148 s (putMiddle s c) := by
  have h0 := Same.refl 262148 s
  unfold putMiddle
  refine Same.step (bump_same ..) ?_
  refine Same.step (Same.set_core ..) ?_
  exact Same.refl _ _

theorem enterMiddle_same (s : State) (c : CoreCell) : Same 786436 s (enterMiddle s c) := by
  have h0 := Same.refl 786436 s
  unfold enterMiddle
  extract_lets +onlyGivenNames x_1
  extract_lets +onlyGivenNames x_2
  extract_lets +onlyGivenNames x_3
  split
  · rename_i a_4 a_5 a_6
    have h_7 : Same 786436 s a_5 := by
      refine SameO.some ?_ a_6
      refine SameO.ite0 ?_ ?_
      · exact SameO.no
      · refine SameO.pass (admitCell_same ..) ?_
        exact Same.refl _ _
    refine Same.step (putMiddle_same ..) ?_
    exact h_7
  · rename_i a_8 a_9
    refine Same.step (putMiddle_same ..) ?_
    refine Same.step (countNotice_same ..) ?_
    refine Same.step (bump_same ..) ?_
    exact Same.refl _ _

theorem enterShared_same (s : State) (c : CoreCell) (copies : List CoreCell) : Same 786436 s (enterShared s c copies) := by
  have h0 := Same.refl 786436 s
  unfold enterShared
  extract_lets +onlyGivenNames x_1
  have h_2 : Same 786436 s x_1 := by
    subst x_1
    refine SameO.getD ?_ ?_
    · refine SameO.pass (admitCell_same ..) ?_
      exact Same.refl _ _
    · exact Same.refl _ _
  clear_value x_1
  extract_lets +onlyGivenNames x_3
  subst x_3
  refine Same.foldl _ ?_ ?_
  · refine Same.step (Same.set_core ..) ?_
    exact h_2
  · intro a_4 a_5 a_6
    refine Same.step (putMiddle_same ..) ?_
    exact a_6

theorem failSlice_same (s : State) (k : Nat) (cause : Nat) : Same 15990828 s (failSlice s k cause) := by
  have h0 := Same.refl 15990828 s
  unfold failSlice
  extract_lets +onlyGivenNames x_1
  extract_lets +onlyGivenNames x_2
  have h_3 : Same 15990828 s x_2 := by
    subst x_2
    refine Same.step (Same.set_core ..) ?_
    exact Same.refl _ _
  clear_value x_2
  refine Same.ite0 ?_ ?_
  · refine Same.step (logEvent_same ..) ?_
    refine Same.step (Same.set_core ..) ?_
    exact h_3
  · split
    · rename_i a_4 a_5 a_6 a_7 a_8 a_9
      extract_lets +onlyGivenNames x_10
      have h_11 : Same 15990828 s x_10 := by
        subst x_10
        refine Same.step (errorRecord_same ..) ?_
        exact h_3
      clear_value x_10
      refine Same.step (Same.set_core ..) ?_
      exact h_11
    · rename_i a_12 a_13 a_14
      refine Same.step (deviceStop_same ..) ?_
      exact h_3

theorem poisonCell_same (s : State) (pos : Nat) : Same 262146 s (poisonCell s pos) := by
  have h0 := Same.refl 262146 s
  unfold poisonCell
  split
  · rename_i a_1 a_2 a_3 a_4
    have h_5 : Same 262146 s a_3 := by
      refine Same.of2 ?_ a_4
      refine Same.step (draw_same ..) ?_
      exact Same.refl _ _
    extract_lets +onlyGivenNames x_6
    split
    · rename_i a_7 a_8
      exact h_5
    · rename_i a_9 a_10 a_11
      extract_lets +onlyGivenNames x_12
      subst x_12
      refine Same.step (Same.set_core ..) ?_
      exact h_5

theorem execBufferRowFault_same (k : SliceId) (bad : Bool) (s : State) : SameO 15990830 s (outSt (execBufferRowFault k bad s)) := by
  have h0 := Same.refl 15990830 s
  unfold execBufferRowFault
  refine SameO.ite (f := outSt) ?_ ?_
  · refine SameO.out_next ?_
    exact Same.refl _ _
  · extract_lets +onlyGivenNames x_1
    extract_lets +onlyGivenNames x_2
    extract_lets +onlyGivenNames x_3
    subst x_3
    dsimp -zeta -zetaHave only
    extract_lets +onlyGivenNames x_4
    have h_5 : Same 15990830 s x_4 := by
      subst x_4
      refine Same.step (setBit_same ..) ?_
      refine Same.step (bump_same ..) ?_
      exact Same.refl _ _
    clear_value x_4
    extract_lets +onlyGivenNames x_6
    have h_7 : Same 15990830 s x_6 := by
      subst x_6
      refine Same.ite0 ?_ ?_
      · split
        · rename_i a_8 a_9 a_10
          refine Same.step (poisonCell_same ..) ?_
          exact h_5
        · rename_i a_11 a_12
          exact h_5
      · exact Same.refl _ _
    clear_value x_6
    refine SameO.ite (f := outSt) ?_ ?_
    · refine SameO.out_next ?_
      refine Same.step (setBit_same ..) ?_
      refine Same.step (logEvent_same ..) ?_
      refine Same.step (Same.set_core ..) ?_
      exact h_7
    · refine SameO.ite (f := outSt) ?_ ?_
      · refine SameO.out_next ?_
        refine Same.step (setBit_same ..) ?_
        refine Same.step (logEvent_same ..) ?_
        refine Same.step (Same.set_core ..) ?_
        exact h_7
      · refine SameO.out_next ?_
        refine Same.step (failSlice_same ..) ?_
        exact h_7

theorem meterTether_same (s : State) (pos : Nat) (t : Tether) : Same 262148 s (meterTether s pos t).1 := by
  have h0 := Same.refl 262148 s
  unfold meterTether
  extract_lets +onlyGivenNames x_1
  split
  · rename_i a_2 a_3 a_4 a_5
    extract_lets +onlyGivenNames x_6
    refine Same.ite (f := Prod.fst) ?_ ?_
    · refine Same.pair1 ?_
      refine Same.step (Same.set_core ..) ?_
      exact Same.refl _ _
    · refine Same.pair1 ?_
      refine Same.step (bump_same ..) ?_
      refine Same.step (Same.set_core ..) ?_
      exact Same.refl _ _

theorem leftIngress_same (s : State) (c : Cell) : Same 1048584 s (leftIngress s c) := by
  have h0 := Same.refl 1048584 s
  unfold leftIngress
  refine Same.ite0 ?_ ?_
  · refine Same.step (creditBack_same ..) ?_
    exact Same.refl _ _
  · exact Same.refl _ _

theorem trySpread_same (s : State) (c : CoreCell) (copies : List CoreCell) : SameO 1835020 s (trySpread s c copies) := by
  have h0 := Same.refl 1835020 s
  unfold trySpread
  refine SameO.ite0 ?_ ?_
  · refine SameO.yes ?_
    refine Same.step (enterMiddle_same ..) ?_
    refine Same.step (leftIngress_same ..) ?_
    exact Same.refl _ _
  · refine SameO.ite0 ?_ ?_
    · extract_lets +onlyGivenNames x_1
      extract_lets +onlyGivenNames x_2
      have h_3 : Same 1835020 s x_2 := by
        subst x_2
        refine Same.step (Same.set_core ..) ?_
        exact Same.refl _ _
      clear_value x_2
      extract_lets +onlyGivenNames x_4
      have h_5 : Same 1835020 s x_4 := by
        subst x_4
        refine Same.step (leftIngress_same ..) ?_
        exact h_3
      clear_value x_4
      refine SameO.yes ?_
      refine Same.ite0 ?_ ?_
      · refine Same.step (enterShared_same ..) ?_
        exact h_5
      · refine Same.step (enterMiddle_same ..) ?_
        exact h_5
    · exact SameO.no

theorem spreadCell_same (s : State) (c : CoreCell) (copies : List CoreCell) : Same 1835020 s (spreadCell s c copies) := by
  have h0 := Same.refl 1835020 s
  unfold spreadCell
  split
  · rename_i a_1 a_2 a_3
    have h_4 : Same 1835020 s a_2 := by
      refine SameO.some ?_ a_3
      refine SameO.pass (trySpread_same ..) ?_
      exact Same.refl _ _
    exact h_4
  · rename_i a_5 a_6
    refine Same.step (bump_same ..) ?_
    refine Same.step (Same.set_core ..) ?_
    exact Same.refl _ _

theorem nextPos_same (s : State) (key : Nat) : Same 262144 s (nextPos s key).2 := by
  have h0 := Same.refl 262144 s
  unfold nextPos
  extract_lets +onlyGivenNames x_1
  extract_lets +onlyGivenNames x_2
  refine Same.pair2 ?_
  refine Same.step (Same.set_core ..) ?_
  exact Same.refl _ _

theorem takeSeq_same (s : State) (key : Nat) : Same 262144 s (takeSeq s key).2 := by
  have h0 := Same.refl 262144 s
  unfold takeSeq
  extract_lets +onlyGivenNames x_1
  refine Same.pair2 ?_
  refine Same.step (Same.set_core ..) ?_
  exact Same.refl _ _

theorem trainIngress_same (s : State) (pos : Nat) (c : Cell) (id : Nat) : Same 1835020 s (trainIngress s pos c id) := by
  have h0 := Same.refl 1835020 s
  unfold trainIngress
  split
  · rename_i a_1 a_2
    exact Same.refl _ _
  · rename_i a_3 a_4
    exact Same.refl _ _
  · rename_i a_5 a_6 a_7 a_8
    split
    · rename_i a_9 a_10 a_11 a_12
      have h_13 : Same 1835020 s a_11 := by
        refine Same.of2 ?_ a_12
        refine Same.step (nextPos_same ..) ?_
        refine Same.step (bump_same ..) ?_
        exact Same.refl _ _
      extract_lets +onlyGivenNames x_14
      extract_lets +onlyGivenNames x_15
      extract_lets +onlyGivenNames x_16
      subst x_16
      dsimp -zeta -zetaHave only
      extract_lets +onlyGivenNames x_17
      extract_lets +onlyGivenNames x_18
      have h_19 : Same 1835020 s x_18 := by
        subst x_18
        refine Same.step (bumpBy_same ..) ?_
        refine Same.step (Same.set_core ..) ?_
        refine Same.foldl2 _ ?_ ?_
        · refine Same.pair2 ?_
          exact h_13
        · intro a_20 a_21 a_22
          refine Same.pair2 ?_
          refine Same.step (takeSeq_same ..) ?_
          exact a_22
      clear_value x_18
      split
      · rename_i a_23 a_24
        exact h_19
      · rename_i a_25 a_26 a_27 a_28
        extract_lets +onlyGivenNames x_29
        have h_30 : Same 1835020 s x_29 := by
          subst x_29
          refine SameO.getD ?_ ?_
          · refine SameO.pass (admitCell_same ..) ?_
            exact h_19
          · exact h_19
        clear_value x_29
        refine Same.step (spreadCell_same ..) ?_
        refine Same.step (Same.set_core ..) ?_
        exact h_30

theorem wredDrops_same (s : State) (c : Cell) : Same 6 s (wredDrops s c).2 := by
  have h0 := Same.refl 6 s
  unfold wredDrops
  extract_lets +onlyGivenNames x_1
  extract_lets +onlyGivenNames x_2
  extract_lets +onlyGivenNames x_3
  extract_lets +onlyGivenNames x_4
  extract_lets +onlyGivenNames x_5
  extract_lets +onlyGivenNames x_6
  subst x_6
  dsimp -zeta -zetaHave only
  refine Same.ite (f := Prod.snd) ?_ ?_
  · refine Same.pair2 ?_
    exact Same.refl _ _
  · refine Same.ite (f := Prod.snd) ?_ ?_
    · refine Same.pair2 ?_
      refine Same.step (bump_same ..) ?_
      exact Same.refl _ _
    · refine Same.ite (f := Prod.snd) ?_ ?_
      · refine Same.pair2 ?_
        refine Same.step (bump_same ..) ?_
        refine Same.step (draw_same ..) ?_
        exact Same.refl _ _
      · refine Same.pair2 ?_
        refine Same.step (draw_same ..) ?_
        exact Same.refl _ _

theorem execCellIngress_same (k : SliceId) (c : Cell) (s : State) : SameO 1835022 s (outSt (execCellIngress k c s)) := by
  have h0 := Same.refl 1835022 s
  unfold execCellIngress
  split
  · rename_i a_1 a_2
    refine SameO.out_next ?_
    exact Same.refl _ _
  · rename_i a_3 a_4 a_5
    refine SameO.ite (f := outSt) ?_ ?_
    · refine SameO.out_next ?_
      exact Same.refl _ _
    · refine SameO.ite (f := outSt) ?_ ?_
      · refine SameO.ite (f := outSt) ?_ ?_
        · refine SameO.out_next ?_
          refine Same.step (trainIngress_same ..) ?_
          exact Same.refl _ _
        · refine SameO.out_next ?_
          exact Same.refl _ _
      · refine SameO.ite (f := outSt) ?_ ?_
        · refine SameO.out_next ?_
          exact Same.refl _ _
        · extract_lets +onlyGivenNames x_6
          split
          · rename_i a_7 a_8 a_9 a_10
            have h_11 : Same 1835022 s a_9 := by
              refine Same.of2 ?_ a_10
              refine Same.step (takeSeq_same ..) ?_
              refine Same.step (bump_same ..) ?_
              exact Same.refl _ _
            split
            · rename_i a_12 a_13 a_14 a_15
              have h_16 : Same 1835022 s a_13 := by
                refine Same.of1 ?_ a_15
                split
                · rename_i a_17 a_18 a_19
                  refine Same.step (meterTether_same ..) ?_
                  exact h_11
                · rename_i a_20 a_21
                  refine Same.pair1 ?_
                  exact h_11
              split
              · rename_i a_22 a_23 a_24 a_25
                have h_26 : Same 1835022 s a_24 := by
                  refine Same.of2 ?_ a_25
                  refine Same.ite (f := Prod.snd) ?_ ?_
                  · refine Same.ite (f := Prod.snd) ?_ ?_
                    · refine Same.step (wredDrops_same ..) ?_
                      exact h_16
                    · refine Same.pair2 ?_
                      exact h_16
                  · refine Same.pair2 ?_
                    exact h_16
                extract_lets +onlyGivenNames x_27
                extract_lets +onlyGivenNames x_28
                extract_lets +onlyGivenNames x_29
                have h_30 : Same 1835022 s x_29 := by
                  subst x_29
                  refine Same.step (Same.set_core ..) ?_
                  exact h_26
                clear_value x_29
                split
                · rename_i a_31 a_32 a_33 a_34
                  have h_35 : Same 1835022 s a_33 := by
                    refine Same.of2 ?_ a_34
                    split
                    · rename_i a_36 a_37
                      refine Same.step (nextPos_same ..) ?_
                      exact h_30
                    · rename_i a_38
                      refine Same.step (nextPos_same ..) ?_
                      exact h_30
                  extract_lets +onlyGivenNames x_39
                  refine SameO.ite (f := outSt) ?_ ?_
                  · refine SameO.out_next ?_
                    refine Same.step (spreadCell_same ..) ?_
                    refine Same.step (countNotice_same ..) ?_
                    refine Same.step (bump_same ..) ?_
                    exact h_35
                  · split
                    · rename_i a_40 a_41 a_42
                      have h_43 : Same 1835022 s a_41 := by
                        refine SameO.some ?_ a_42
                        refine SameO.pass (admitCell_same ..) ?_
                        exact h_35
                      refine SameO.out_next ?_
                      refine Same.step (spreadCell_same ..) ?_
                      exact h_43
                    · rename_i a_44 a_45
                      refine SameO.out_next ?_
                      refine Same.step (spreadCell_same ..) ?_
                      refine Same.step (countNotice_same ..) ?_
                      refine Same.step (bump_same ..) ?_
                      exact h_35

theorem pullCell_same (s : State) (c : CoreCell) : Same 786436 s (pullCell s c) := by
  have h0 := Same.refl 786436 s
  unfold pullCell
  extract_lets +onlyGivenNames x_1
  extract_lets +onlyGivenNames x_2
  extract_lets +onlyGivenNames x_3
  have h_4 : Same 786436 s x_3 := by
    subst x_3
    refine Same.step (Same.set_core ..) ?_
    exact Same.refl _ _
  clear_value x_3
  split
  · rename_i a_5 a_6 a_7
    have h_8 : Same 786436 s a_6 := by
      refine SameO.some ?_ a_7
      refine SameO.pass (admitCell_same ..) ?_
      exact h_4
    refine Same.step (Same.set_core ..) ?_
    exact h_8
  · rename_i a_9 a_10
    extract_lets +onlyGivenNames x_11
    have h_12 : Same 786436 s x_11 := by
      subst x_11
      refine Same.step (countNotice_same ..) ?_
      refine Same.step (bump_same ..) ?_
      exact h_4
    clear_value x_11
    refine Same.step (Same.set_core ..) ?_
    exact h_12

theorem portPull_same (s : State) (m : Nat) (p : Nat) : SameO 786436 s (portPull s m p) := by
  have h0 := Same.refl 786436 s
  unfold portPull
  split
  · rename_i a_1 a_2 a_3 a_4
    extract_lets +onlyGivenNames x_5
    have h_6 : Same 786436 s x_5 := by
      subst x_5
      refine Same.step (bump_same ..) ?_
      refine Same.step (bump_same ..) ?_
      exact Same.refl _ _
    clear_value x_5
    refine SameO.yes ?_
    refine Same.step (pullCell_same ..) ?_
    refine Same.step (Same.set_core ..) ?_
    exact h_6
  · rename_i a_7 a_8
    refine SameO.map ?_
    intro a_9 a_10
    refine Same.step (pullCell_same ..) ?_
    refine Same.step (Same.set_core ..) ?_
    exact Same.refl _ _

theorem execMiddlePull_same (k : SliceId) (e : SliceId) (s : State) : SameO 786436 s (outSt (execMiddlePull k e s)) := by
  have h0 := Same.refl 786436 s
  unfold execMiddlePull
  split
  · rename_i a_1 a_2 a_3 a_4 a_5 a_6
    extract_lets +onlyGivenNames x_7
    extract_lets +onlyGivenNames x_8
    split
    · rename_i a_9 a_10
      refine SameO.out_next ?_
      exact Same.refl _ _
    · rename_i a_11 a_12 a_13
      split
      · rename_i a_14 a_15
        refine SameO.out_next ?_
        exact Same.refl _ _
      · rename_i a_16 a_17 a_18
        have h_19 : Same 786436 s a_17 := by
          refine SameO.some ?_ a_18
          refine SameO.pass (portPull_same ..) ?_
          exact Same.refl _ _
        refine SameO.out_next ?_
        refine Same.step (Same.set_core ..) ?_
        exact h_19
  · rename_i a_20 a_21 a_22
    refine SameO.out_next ?_
    exact Same.refl _ _

theorem finishPacket_same (s : State) (p : Nat) (tc : Nat) (cs : List CoreCell) : Same 786436 s (finishPacket s p tc cs) := by
  have h0 := Same.refl 786436 s
  unfold finishPacket
  extract_lets +onlyGivenNames x_1
  extract_lets +onlyGivenNames x_2
  extract_lets +onlyGivenNames x_3
  refine Same.ite0 ?_ ?_
  · refine Same.step (bump_same ..) ?_
    exact Same.refl _ _
  · refine Same.ite0 ?_ ?_
    · refine Same.step (countDropped_same ..) ?_
      refine Same.step (cellsLeave_same ..) ?_
      exact Same.refl _ _
    · refine Same.ite0 ?_ ?_
      · refine Same.step (bumpBy_same ..) ?_
        exact Same.refl _ _
      · extract_lets +onlyGivenNames x_4
        extract_lets +onlyGivenNames x_5
        refine Same.step (pushEgress_same ..) ?_
        exact Same.refl _ _

theorem releaseCell_same (s : State) (ctx : Nat) (c : CoreCell) : Same 786444 s (releaseCell s ctx c) := by
  have h0 := Same.refl 786444 s
  unfold releaseCell
  extract_lets +onlyGivenNames x_1
  split
  · rename_i a_2 a_3
    refine Same.step (cellsLeave_same ..) ?_
    refine Same.step (emit_same ..) ?_
    exact Same.refl _ _
  · rename_i a_4 a_5
    extract_lets +onlyGivenNames x_6
    have h_7 : Same 786444 s x_6 := by
      subst x_6
      refine Same.ite0 ?_ ?_
      · refine Same.step (bump_same ..) ?_
        exact Same.refl _ _
      · refine Same.step (bump_same ..) ?_
        exact Same.refl _ _
    clear_value x_6
    extract_lets +onlyGivenNames x_8
    extract_lets +onlyGivenNames x_9
    refine Same.ite0 ?_ ?_
    · refine Same.step (finishPacket_same ..) ?_
      refine Same.step (Same.set_core ..) ?_
      exact h_7
    · refine Same.step (Same.set_core ..) ?_
      exact h_7

theorem releaseNext_same (b0 : Nat) (b1 : State) (b2 : Nat) : Same 786444 b1 (releaseNext b0 b1 b2) := by
  induction b0 generalizing b1 b2
  · have h_1 := Same.refl 786444 b1
    unfold releaseNext
    exact Same.refl _ _
  · rename_i i_2 i_3
    have h_4 := Same.refl 786444 b1
    unfold releaseNext
    extract_lets +onlyGivenNames x_5
    split
    · rename_i a_6 a_7
      exact Same.refl _ _
    · rename_i a_8 a_9 a_10
      extract_lets +onlyGivenNames x_11
      refine Same.step (i_3 ..) ?_
      refine Same.step (releaseCell_same ..) ?_
      refine Same.step (Same.set_core ..) ?_
      exact Same.refl _ _

theorem execResequenceCell_same (p : PortId) (src : Fin 165) (tc : Tc) (seq : BitVec 16) (s : State) : SameO 786444 s (outSt (execResequenceCell p src tc seq s)) := by
  have h0 := Same.refl 786444 s
  unfold execResequenceCell
  split
  · rename_i a_1 a_2
    refine SameO.out_next ?_
    exact Same.refl _ _
  · rename_i a_3 a_4 a_5
    extract_lets +onlyGivenNames x_6
    extract_lets +onlyGivenNames x_7
    extract_lets +onlyGivenNames x_8
    extract_lets +onlyGivenNames x_9
    extract_lets +onlyGivenNames x_10
    have h_11 : Same 786444 s x_10 := by
      subst x_10
      refine Same.step (Same.set_core ..) ?_
      exact Same.refl _ _
    clear_value x_10
    extract_lets +onlyGivenNames x_12
    have h_13 : Same 786444 s x_12 := by
      subst x_12
      refine Same.ite0 ?_ ?_
      · refine Same.step (bump_same ..) ?_
        exact h_11
      · exact h_11
    clear_value x_12
    refine SameO.out_next ?_
    refine Same.step (releaseNext_same ..) ?_
    exact h_13

theorem execSliceFault_same (k : SliceId) (s : State) : SameO 15990828 s (outSt (execSliceFault k s)) := by
  have h0 := Same.refl 15990828 s
  unfold execSliceFault
  refine SameO.ite (f := outSt) ?_ ?_
  · refine SameO.out_next ?_
    refine Same.step (failSlice_same ..) ?_
    exact Same.refl _ _
  · refine SameO.out_next ?_
    exact Same.refl _ _

theorem retryCell_same (s : State) (c : CoreCell) : Same 1835020 s (retryCell s c) := by
  have h0 := Same.refl 1835020 s
  unfold retryCell
  refine Same.ite0 ?_ ?_
  · exact Same.refl _ _
  · extract_lets +onlyGivenNames x_1
    split
    · rename_i a_2 a_3 a_4
      have h_5 : Same 1835020 s a_3 := by
        refine SameO.some ?_ a_4
        refine SameO.pass (trySpread_same ..) ?_
        refine Same.step (Same.set_core ..) ?_
        exact Same.refl _ _
      exact h_5
    · rename_i a_6 a_7
      exact Same.refl _ _

theorem retryWaiting_same (s : State) : Same 1835020 s (retryWaiting s) := by
  have h0 := Same.refl 1835020 s
  unfold retryWaiting
  refine Same.foldl _ ?_ ?_
  · exact Same.refl _ _
  · intro a_1 a_2 a_3
    refine Same.step (retryCell_same ..) ?_
    exact a_3

theorem execSliceTakeoverDone_same (s : State) : SameO 1835020 s (outSt (execSliceTakeoverDone s)) := by
  have h0 := Same.refl 1835020 s
  unfold execSliceTakeoverDone
  split
  · rename_i a_1 a_2
    refine SameO.out_next ?_
    exact Same.refl _ _
  · rename_i a_3 a_4 a_5
    extract_lets +onlyGivenNames x_6
    have h_7 : Same 1835020 s x_6 := by
      subst x_6
      refine Same.step (setBit_same ..) ?_
      refine Same.step (setBit_same ..) ?_
      exact Same.refl _ _
    clear_value x_6
    extract_lets +onlyGivenNames x_8
    extract_lets +onlyGivenNames x_9
    refine SameO.out_next ?_
    refine Same.step (retryWaiting_same ..) ?_
    refine Same.step (Same.set_core ..) ?_
    exact h_7

theorem execStageCreditReturn_same (i : SliceId) (m : Fin 16) (e : SliceId) (tc : Tc) (s : State) : SameO 1835020 s (outSt (execStageCreditReturn i m e tc s)) := by
  have h0 := Same.refl 1835020 s
  unfold execStageCreditReturn
  split
  · rename_i a_1 a_2 a_3 a_4 a_5 a_6
    extract_lets +onlyGivenNames x_7
    refine SameO.ite (f := outSt) ?_ ?_
    · refine SameO.out_next ?_
      refine Same.step (retryWaiting_same ..) ?_
      refine Same.step (Same.set_core ..) ?_
      exact Same.refl _ _
    · refine SameO.out_next ?_
      exact Same.refl _ _
  · rename_i a_8 a_9 a_10
    refine SameO.out_next ?_
    exact Same.refl _ _

theorem execWredDepthPublish_same (k : SliceId) (s : State) : SameO 524288 s (outSt (execWredDepthPublish k s)) := by
  have h0 := Same.refl 524288 s
  unfold execWredDepthPublish
  split
  · rename_i a_1 a_2
    refine SameO.out_next ?_
    exact Same.refl _ _
  · rename_i a_3 a_4 a_5
    extract_lets +onlyGivenNames x_6
    refine SameO.ite (f := outSt) ?_ ?_
    · refine SameO.out_next ?_
      exact Same.refl _ _
    · extract_lets +onlyGivenNames x_7
      extract_lets +onlyGivenNames x_8
      extract_lets +onlyGivenNames x_9
      subst x_9
      refine SameO.out_next ?_
      refine Same.step (Same.set_cong ..) ?_
      exact Same.refl _ _

end Sys2Proof.Machine
end

