-- ==== Sys2Proof/Laws/KeepPorts.lean ====
section
/-! SUPPORT. What each operation of Machine/Ports.lean leaves alone: the parts it may write, as a number, and all else kept. -/

set_option linter.unusedVariables false

namespace Sys2Proof.Machine

set_option Elab.async false

theorem cxlErr_same (s : State) (p : Nat) (bit : Nat) : Same 4 s (cxlErr s p bit) := by
  have h0 := Same.refl 4 s
  unfold cxlErr
  refine Same.step (setBit_same ..) ?_
  exact Same.refl _ _

theorem cxlReset_same (s : State) (p : Nat) : Same 37830073125868 s (cxlReset s p) := by
  have h0 := Same.refl 37830073125868 s
  unfold cxlReset
  extract_lets +onlyGivenNames x_1
  have h_2 : Same 37830073125868 s x_1 := by
    subst x_1
    refine Same.step (portReset_same ..) ?_
    exact Same.refl _ _
  clear_value x_1
  refine Same.ite0 ?_ ?_
  · refine Same.step (fenceEndpoint_same ..) ?_
    exact h_2
  · exact h_2

theorem execBiEnable_same (p : PortId) (cap : CxlCap) (s : State) : SameO 1048576 s (outSt (execBiEnable p cap s)) := by
  have h0 := Same.refl 1048576 s
  unfold execBiEnable
  extract_lets +onlyGivenNames x_1
  refine SameO.ite (f := outSt) ?_ ?_
  · refine SameO.out_next ?_
    refine Same.step (setCxl_same ..) ?_
    exact Same.refl _ _
  · refine SameO.out_next ?_
    exact Same.refl _ _

theorem execCxlLinkDown_same (p : PortId) (s : State) : SameO 37918131294188 s (outSt (execCxlLinkDown p s)) := by
  have h0 := Same.refl 37918131294188 s
  unfold execCxlLinkDown
  extract_lets +onlyGivenNames x_1
  refine SameO.ite (f := outSt) ?_ ?_
  · refine SameO.out_next ?_
    exact Same.refl _ _
  · refine SameO.ite (f := outSt) ?_ ?_
    · refine SameO.out_next ?_
      refine Same.step (cxlReset_same ..) ?_
      exact Same.refl _ _
    · refine SameO.ite (f := outSt) ?_ ?_
      · refine SameO.out_next ?_
        refine Same.step (setCxl_same ..) ?_
        exact Same.refl _ _
      · refine SameO.out_next ?_
        refine Same.step (fenceFor_same ..) ?_
        refine Same.step (setCxl_same ..) ?_
        exact Same.refl _ _

theorem execCxlLinkTrained_same (p : PortId) (flit256 : Bool) (rate : BitVec 2) (lopt : Bool) (width : Fin 4) (s : State) : SameO 1048580 s (outSt (execCxlLinkTrained p flit256 rate lopt width s)) := by
  have h0 := Same.refl 1048580 s
  unfold execCxlLinkTrained
  extract_lets +onlyGivenNames x_1
  refine SameO.ite (f := outSt) ?_ ?_
  · refine SameO.out_next ?_
    exact Same.refl _ _
  · refine SameO.ite (f := outSt) ?_ ?_
    · refine SameO.out_next ?_
      refine Same.step (cxlErr_same ..) ?_
      refine Same.step (setCxl_same ..) ?_
      exact Same.refl _ _
    · refine SameO.ite (f := outSt) ?_ ?_
      · refine SameO.out_next ?_
        exact Same.refl _ _
      · extract_lets +onlyGivenNames x_2
        have h_3 : Same 1048580 s x_2 := by
          subst x_2
          refine Same.step (setCxl_same ..) ?_
          exact Same.refl _ _
        clear_value x_2
        refine SameO.out_next ?_
        refine Same.ite0 ?_ ?_
        · refine Same.step (cxlErr_same ..) ?_
          exact h_3
        · exact h_3

theorem execFunctionLevelReset_same (p : PortId) (s : State) : SameO 37830073125868 s (outSt (execFunctionLevelReset p s)) := by
  have h0 := Same.refl 37830073125868 s
  unfold execFunctionLevelReset
  refine SameO.ite (f := outSt) ?_ ?_
  · refine SameO.out_next ?_
    refine Same.step (cxlReset_same ..) ?_
    exact Same.refl _ _
  · refine SameO.out_next ?_
    exact Same.refl _ _

theorem execIdeEstablished_same (p : PortId) (s : State) : SameO 1048576 s (outSt (execIdeEstablished p s)) := by
  have h0 := Same.refl 1048576 s
  unfold execIdeEstablished
  refine SameO.ite (f := outSt) ?_ ?_
  · refine SameO.out_next ?_
    refine Same.step (setCxl_same ..) ?_
    exact Same.refl _ _
  · refine SameO.out_next ?_
    exact Same.refl _ _

theorem execIdeFail_same (p : PortId) (s : State) : SameO 1048580 s (outSt (execIdeFail p s)) := by
  have h0 := Same.refl 1048580 s
  unfold execIdeFail
  extract_lets +onlyGivenNames x_1
  refine SameO.ite (f := outSt) ?_ ?_
  · refine SameO.out_next ?_
    refine Same.step (cxlErr_same ..) ?_
    refine Same.step (setCxl_same ..) ?_
    exact Same.refl _ _
  · refine SameO.out_next ?_
    exact Same.refl _ _

theorem execLaneAdaptationLoss_same (p : PortId) (lane : Fin 8) (s : State) : SameO 11534380 s (outSt (execLaneAdaptationLoss p lane s)) := by
  have h0 := Same.refl 11534380 s
  unfold execLaneAdaptationLoss
  refine SameO.ite (f := outSt) ?_ ?_
  · refine SameO.out_next ?_
    refine Same.step (laneFault_same ..) ?_
    exact Same.refl _ _
  · refine SameO.out_next ?_
    exact Same.refl _ _

theorem execLinkEn_same (p : PortId) (on : Bool) (s : State) : SameO 37830073125868 s (outSt (execLinkEn p on s)) := by
  have h0 := Same.refl 37830073125868 s
  unfold execLinkEn
  extract_lets +onlyGivenNames x_1
  have h_2 : Same 37830073125868 s x_1 := by
    subst x_1
    refine Same.step (setFld_same ..) ?_
    exact Same.refl _ _
  clear_value x_1
  refine SameO.ite (f := outSt) ?_ ?_
  · refine SameO.out_next ?_
    refine Same.step (startPort_same ..) ?_
    exact h_2
  · refine SameO.ite (f := outSt) ?_ ?_
    · refine SameO.out_next ?_
      refine Same.ite0 ?_ ?_
      · exact h_2
      · refine Same.ite0 ?_ ?_
        · refine Same.step (cxlReset_same ..) ?_
          exact h_2
        · refine Same.step (setCxl_same ..) ?_
          exact h_2
    · refine SameO.out_next ?_
      refine Same.ite0 ?_ ?_
      · exact h_2
      · refine Same.step (dropLink_same ..) ?_
        exact h_2

theorem execMgmtIslandFault_same (s : State) : SameO 15728684 s (outSt (execMgmtIslandFault s)) := by
  have h0 := Same.refl 15728684 s
  unfold execMgmtIslandFault
  refine SameO.ite (f := outSt) ?_ ?_
  · refine SameO.out_next ?_
    exact Same.refl _ _
  · refine SameO.out_next ?_
    refine Same.step (deviceStop_same ..) ?_
    exact Same.refl _ _

theorem execPortIslandFault_same (p : PortId) (s : State) : SameO 534735949740 s (outSt (execPortIslandFault p s)) := by
  have h0 := Same.refl 534735949740 s
  unfold execPortIslandFault
  refine SameO.ite (f := outSt) ?_ ?_
  · refine SameO.out_next ?_
    exact Same.refl _ _
  · refine SameO.out_next ?_
    refine Same.step (fenceFor_same ..) ?_
    exact Same.refl _ _

theorem trayOut_same (s : State) (p : Nat) : Same 10485804 s (trayOut s p) := by
  have h0 := Same.refl 10485804 s
  unfold trayOut
  refine Same.step (logEvent_same ..) ?_
  exact Same.refl _ _

theorem execTrayBringup_same (p : PortId) (t : TrayInfo) (s : State) : SameO 11536428 s (outSt (execTrayBringup p t s)) := by
  have h0 := Same.refl 11536428 s
  unfold execTrayBringup
  extract_lets +onlyGivenNames x_1
  refine SameO.ite (f := outSt) ?_ ?_
  · refine SameO.out_next ?_
    exact Same.refl _ _
  · refine SameO.ite (f := outSt) ?_ ?_
    · refine SameO.out_next ?_
      refine Same.step (trayOut_same ..) ?_
      refine Same.step (cxlErr_same ..) ?_
      refine Same.step (setCxl_same ..) ?_
      exact Same.refl _ _
    · refine SameO.ite (f := outSt) ?_ ?_
      · refine SameO.out_next ?_
        refine Same.step (trayOut_same ..) ?_
        refine Same.step (setCxl_same ..) ?_
        exact Same.refl _ _
      · extract_lets +onlyGivenNames x_2
        extract_lets +onlyGivenNames x_3
        have h_4 : Same 11536428 s x_3 := by
          subst x_3
          refine Same.ite0 ?_ ?_
          · refine Same.step (cxlErr_same ..) ?_
            exact Same.refl _ _
          · exact Same.refl _ _
        clear_value x_3
        extract_lets +onlyGivenNames x_5
        have h_6 : Same 11536428 s x_5 := by
          subst x_5
          refine Same.step (setCxl_same ..) ?_
          exact h_4
        clear_value x_5
        refine SameO.out_next ?_
        refine Same.step (Same.set_tier ..) ?_
        exact h_6

theorem execTrayEventLogPoll_same (p : PortId) (events : List Word) (s : State) : SameO 11534380 s (outSt (execTrayEventLogPoll p events s)) := by
  have h0 := Same.refl 11534380 s
  unfold execTrayEventLogPoll
  extract_lets +onlyGivenNames x_1
  refine SameO.ite (f := outSt) ?_ ?_
  · refine SameO.out_next ?_
    exact Same.refl _ _
  · refine SameO.out_next ?_
    refine Same.foldl _ ?_ ?_
    · refine Same.step (setCxl_same ..) ?_
      exact Same.refl _ _
    · intro a_2 a_3 a_4
      refine Same.step (logEvent_same ..) ?_
      exact a_4

theorem trayRead_same (s : State) (p : Nat) (line : Nat) (poison : Bool) : Same 309249312940 s (trayRead s p line poison) := by
  have h0 := Same.refl 309249312940 s
  unfold trayRead
  extract_lets +onlyGivenNames x_1
  extract_lets +onlyGivenNames x_2
  extract_lets +onlyGivenNames x_3
  extract_lets +onlyGivenNames x_4
  subst x_4
  dsimp -zeta -zetaHave only
  refine Same.ite0 ?_ ?_
  · extract_lets +onlyGivenNames x_5
    have h_6 : Same 309249312940 s x_5 := by
      subst x_5
      refine Same.ite0 ?_ ?_
      · refine Same.step (logEvent_same ..) ?_
        exact Same.refl _ _
      · exact Same.refl _ _
    clear_value x_5
    refine Same.step (deliverRead_same ..) ?_
    refine Same.step (Same.set_link ..) ?_
    exact h_6
  · extract_lets +onlyGivenNames x_7
    have h_8 : Same 309249312940 s x_7 := by
      subst x_7
      refine Same.step (bump_same ..) ?_
      exact Same.refl _ _
    clear_value x_7
    refine Same.ite0 ?_ ?_
    · extract_lets +onlyGivenNames x_9
      extract_lets +onlyGivenNames x_10
      have h_11 : Same 309249312940 s x_10 := by
        subst x_10
        refine Same.step (logEvent_same ..) ?_
        refine Same.step (Same.set_link ..) ?_
        exact h_8
      clear_value x_10
      extract_lets +onlyGivenNames x_12
      have h_13 : Same 309249312940 s x_12 := by
        subst x_12
        split
        · rename_i a_14 a_15 a_16
          refine Same.step (setPoison_same ..) ?_
          exact h_11
        · rename_i a_17 a_18
          exact h_11
      clear_value x_12
      refine Same.step (deliverRead_same ..) ?_
      exact h_13
    · refine Same.step (bump_same ..) ?_
      refine Same.step (Same.set_link ..) ?_
      exact h_8

theorem execTrayResponse_same (p : PortId) (off : PoolOff) (r : TrayResp) (s : State) : SameO 446688266924 s (outSt (execTrayResponse p off r s)) := by
  have h0 := Same.refl 446688266924 s
  unfold execTrayResponse
  extract_lets +onlyGivenNames x_1
  refine SameO.ite (f := outSt) ?_ ?_
  · refine SameO.out_next ?_
    exact Same.refl _ _
  · extract_lets +onlyGivenNames x_2
    extract_lets +onlyGivenNames x_3
    have h_4 : Same 446688266924 s x_3 := by
      subst x_3
      refine Same.step (setCxl_same ..) ?_
      exact Same.refl _ _
    clear_value x_3
    refine SameO.ite (f := outSt) ?_ ?_
    · refine SameO.out_next ?_
      refine Same.step (trayRead_same ..) ?_
      exact h_4
    · refine SameO.ite (f := outSt) ?_ ?_
      · refine SameO.pass (writeReached_same ..) ?_
        refine Same.step (Same.set_link ..) ?_
        exact h_4
      · refine SameO.out_next ?_
        exact h_4

theorem execTrayResponseTimeout_same (p : PortId) (off : PoolOff) (s : State) : SameO 534735949740 s (outSt (execTrayResponseTimeout p off s)) := by
  have h0 := Same.refl 534735949740 s
  unfold execTrayResponseTimeout
  extract_lets +onlyGivenNames x_1
  extract_lets +onlyGivenNames x_2
  extract_lets +onlyGivenNames x_3
  refine SameO.ite (f := outSt) ?_ ?_
  · refine SameO.out_next ?_
    exact Same.refl _ _
  · refine SameO.ite (f := outSt) ?_ ?_
    · refine SameO.out_next ?_
      exact Same.refl _ _
    · refine SameO.ite (f := outSt) ?_ ?_
      · refine SameO.out_next ?_
        refine Same.step (bump_same ..) ?_
        refine Same.step (Same.set_link ..) ?_
        exact Same.refl _ _
      · refine SameO.ite (f := outSt) ?_ ?_
        · refine SameO.out_next ?_
          exact Same.refl _ _
        · extract_lets +onlyGivenNames x_4
          extract_lets +onlyGivenNames x_5
          have h_6 : Same 534735949740 s x_5 := by
            subst x_5
            refine Same.step (cxlErr_same ..) ?_
            refine Same.step (Same.set_link ..) ?_
            exact Same.refl _ _
          clear_value x_5
          refine SameO.out_next ?_
          refine Same.step (fenceFor_same ..) ?_
          exact h_6

end Sys2Proof.Machine
end

