-- ==== Sys2Proof/Laws/KeepStacks.lean ====
section
/-! SUPPORT. What each operation of Machine/Stacks.lean leaves alone: the parts it may write, as a number, and all else kept. -/

set_option linter.unusedVariables false

namespace Sys2Proof.Machine

set_option Elab.async false

theorem creditSpare_same (s : State) (st : Nat) (j : BankJob) : Same 2084 s (creditSpare s st j) := by
  have h0 := Same.refl 2084 s
  unfold creditSpare
  split
  · rename_i a_1 a_2
    exact Same.refl _ _
  · rename_i a_3 a_4 a_5 a_6
    extract_lets +onlyGivenNames x_7
    have h_8 : Same 2084 s x_7 := by
      subst x_7
      refine Same.step (setOp_same ..) ?_
      refine Same.step (bumpBy_same ..) ?_
      refine Same.step (bumpBy_same ..) ?_
      exact Same.refl _ _
    clear_value x_7
    split
    · rename_i a_9 a_10 a_11
      refine Same.step (addProgress_same ..) ?_
      exact h_8
    · rename_i a_12 a_13
      exact h_8

theorem dropChunksOf_same (s : State) (st : Nat) : Same 34359740416 s (dropChunksOf s st) := by
  have h0 := Same.refl 34359740416 s
  unfold dropChunksOf
  extract_lets +onlyGivenNames x_1
  subst x_1
  dsimp -zeta -zetaHave only
  refine Same.foldl _ ?_ ?_
  · exact Same.refl _ _
  · intro a_2 a_3 a_4
    extract_lets +onlyGivenNames x_5
    have h_6 : Same 34359740416 s x_5 := by
      subst x_5
      refine Same.step (undoChunk_same ..) ?_
      exact a_4
    clear_value x_5
    split
    · rename_i a_7 a_8 a_9
      refine Same.step (setOp_same ..) ?_
      exact h_6
    · rename_i a_10 a_11
      exact h_6

theorem endEvacs_same (s : State) (st : Nat) : Same 34359769120 s (endEvacs s st) := by
  have h0 := Same.refl 34359769120 s
  unfold endEvacs
  refine Same.foldl _ ?_ ?_
  · exact Same.refl _ _
  · intro a_1 a_2 a_3
    split
    · rename_i a_4 a_5 a_6 a_7 a_8 a_9
      refine Same.ite0 ?_ ?_
      · refine Same.step (finishOp_same ..) ?_
        exact a_3
      · exact a_3
    · rename_i a_10 a_11
      exact a_3

theorem execBankReplaceCopyDone_same (st : StackId) (b : BankId) (good : Bool) (s : State) : SameO 2508260932260 s (outSt (execBankReplaceCopyDone st b good s)) := by
  have h0 := Same.refl 2508260932260 s
  unfold execBankReplaceCopyDone
  extract_lets +onlyGivenNames x_1
  extract_lets +onlyGivenNames x_2
  split
  · rename_i a_3 a_4
    refine SameO.out_next ?_
    exact Same.refl _ _
  · rename_i a_5 a_6 a_7
    extract_lets +onlyGivenNames x_8
    extract_lets +onlyGivenNames x_9
    extract_lets +onlyGivenNames x_10
    have h_11 : Same 2508260932260 s x_10 := by
      subst x_10
      refine Same.step (setStack_same ..) ?_
      exact Same.refl _ _
    clear_value x_10
    extract_lets +onlyGivenNames x_12
    have h_13 : Same 2508260932260 s x_12 := by
      subst x_12
      refine Same.step (endEvacs_same ..) ?_
      refine Same.step (creditSpare_same ..) ?_
      refine Same.step (bump_same ..) ?_
      exact h_11
    clear_value x_12
    refine SameO.out_next ?_
    refine Same.step (nextLaunch_same ..) ?_
    split
    · rename_i a_14 a_15 a_16
      refine Same.ite0 ?_ ?_
      · exact h_13
      · refine Same.step (loseCheckpoint_same ..) ?_
        exact h_13
    · rename_i a_17 a_18
      exact h_13

theorem execDramReread_same (off : PoolOff) (good : Bool) (s : State) : SameO 309249341612 s (outSt (execDramReread off good s)) := by
  have h0 := Same.refl 309249341612 s
  unfold execDramReread
  extract_lets +onlyGivenNames x_1
  refine SameO.ite (f := outSt) ?_ ?_
  · refine SameO.out_next ?_
    exact Same.refl _ _
  · extract_lets +onlyGivenNames x_2
    extract_lets +onlyGivenNames x_3
    have h_4 : Same 309249341612 s x_3 := by
      subst x_3
      refine Same.step (Same.set_coh ..) ?_
      exact Same.refl _ _
    clear_value x_3
    split
    · rename_i a_5 a_6 a_7 a_8 a_9 a_10 a_11
      refine SameO.ite (f := outSt) ?_ ?_
      · refine SameO.out_next ?_
        refine Same.step (deliverRead_same ..) ?_
        refine Same.step (logEvent_same ..) ?_
        refine Same.step (bump_same ..) ?_
        exact h_4
      · extract_lets +onlyGivenNames x_12
        extract_lets +onlyGivenNames x_13
        extract_lets +onlyGivenNames x_14
        have h_15 : Same 309249341612 s x_14 := by
          subst x_14
          refine Same.step (bump_same ..) ?_
          exact h_4
        clear_value x_14
        split
        · rename_i a_16 a_17 a_18 a_19
          have h_20 : Same 309249341612 s a_18 := by
            refine Same.of2 ?_ a_19
            refine Same.step (spareRow_same ..) ?_
            exact h_15
          refine SameO.ite (f := outSt) ?_ ?_
          · refine SameO.out_next ?_
            refine Same.step (deliverRead_same ..) ?_
            refine Same.ite0 ?_ ?_
            · refine Same.step (logEvent_same ..) ?_
              exact h_20
            · exact h_20
          · extract_lets +onlyGivenNames x_21
            have h_22 : Same 309249341612 s x_21 := by
              subst x_21
              refine Same.step (setPoison_same ..) ?_
              refine Same.step (stackErr_same ..) ?_
              exact h_20
            clear_value x_21
            refine SameO.out_next ?_
            refine Same.step (deliverRead_same ..) ?_
            refine Same.step (logEvent_same ..) ?_
            exact h_22
    · rename_i a_23 a_24 a_25
      refine SameO.out_next ?_
      refine Same.step (deliverRead_same ..) ?_
      exact h_4

theorem noteFixed_same (s : State) (line : Nat) (n : Nat) : Same 34370254892 s (noteFixed s line n) := by
  have h0 := Same.refl 34370254892 s
  unfold noteFixed
  refine Same.foldl _ ?_ ?_
  · exact Same.refl _ _
  · intro a_1 a_2 a_3
    refine Same.step (noteCorrected_same ..) ?_
    exact a_3

theorem execMemoryReadDone_same (off : PoolOff) (c : LineChecks) (s : State) : SameO 34371434668 s (outSt (execMemoryReadDone off c s)) := by
  have h0 := Same.refl 34371434668 s
  unfold execMemoryReadDone
  extract_lets +onlyGivenNames x_1
  refine SameO.ite (f := outSt) ?_ ?_
  · refine SameO.out_next ?_
    exact Same.refl _ _
  · extract_lets +onlyGivenNames x_2
    have h_3 : Same 34371434668 s x_2 := by
      subst x_2
      refine Same.step (takeWindow_same ..) ?_
      exact Same.refl _ _
    clear_value x_2
    split
    · rename_i a_4 a_5
      refine SameO.ite (f := outSt) ?_ ?_
      · refine SameO.out_next ?_
        refine Same.step (Same.set_coh ..) ?_
        exact h_3
      · extract_lets +onlyGivenNames x_6
        have h_7 : Same 34371434668 s x_6 := by
          subst x_6
          split
          · rename_i a_8 a_9 a_10
            refine Same.step (noteDecoded_same ..) ?_
            exact h_3
          · rename_i a_11 a_12
            exact h_3
        clear_value x_6
        refine SameO.out_next ?_
        refine Same.step (deliverRead_same ..) ?_
        exact h_7
    · rename_i a_13 a_14
      refine SameO.out_next ?_
      refine Same.step (deliverRead_same ..) ?_
      exact h_3
    · rename_i a_15 a_16 a_17
      extract_lets +onlyGivenNames x_18
      have h_19 : Same 34371434668 s x_18 := by
        subst x_18
        refine Same.step (noteFixed_same ..) ?_
        exact h_3
      clear_value x_18
      refine SameO.ite (f := outSt) ?_ ?_
      · refine SameO.out_next ?_
        refine Same.step (Same.set_coh ..) ?_
        exact h_19
      · refine SameO.out_next ?_
        refine Same.step (deliverRead_same ..) ?_
        exact h_19

theorem execMemoryWriteDone_same (off : PoolOff) (s : State) : SameO 446676615812 s (outSt (execMemoryWriteDone off s)) := by
  have h0 := Same.refl 446676615812 s
  unfold execMemoryWriteDone
  refine SameO.ite (f := outSt) ?_ ?_
  · refine SameO.pass (writeReached_same ..) ?_
    refine Same.step (takeWindow_same ..) ?_
    exact Same.refl _ _
  · refine SameO.out_next ?_
    exact Same.refl _ _

theorem execPatrolScrub_same (st : StackId) (b : BankId) (d : Fin 64) (ecc : Ecc) (s : State) : SameO 309248161838 s (outSt (execPatrolScrub st b d ecc s)) := by
  have h0 := Same.refl 309248161838 s
  unfold execPatrolScrub
  extract_lets +onlyGivenNames x_1
  extract_lets +onlyGivenNames x_2
  refine SameO.ite (f := outSt) ?_ ?_
  · refine SameO.out_next ?_
    exact Same.refl _ _
  · extract_lets +onlyGivenNames x_3
    have h_4 : Same 309248161838 s x_3 := by
      subst x_3
      refine Same.step (bump_same ..) ?_
      exact Same.refl _ _
    clear_value x_3
    split
    · rename_i a_5
      refine SameO.out_next ?_
      exact h_4
    · rename_i a_6
      split
      · rename_i a_7 a_8 a_9 a_10
        have h_11 : Same 309248161838 s a_9 := by
          refine Same.of2 ?_ a_10
          refine Same.step (draw_same ..) ?_
          exact h_4
        refine SameO.out_next ?_
        refine Same.step (corrected_same ..) ?_
        exact h_11
    · rename_i a_12
      split
      · rename_i a_13 a_14 a_15 a_16
        have h_17 : Same 309248161838 s a_15 := by
          refine Same.of2 ?_ a_16
          refine Same.step (draw_same ..) ?_
          exact h_4
        split
        · rename_i a_18 a_19 a_20 a_21
          have h_22 : Same 309248161838 s a_20 := by
            refine Same.of2 ?_ a_21
            refine Same.step (spareRow_same ..) ?_
            refine Same.step (bump_same ..) ?_
            exact h_17
          extract_lets +onlyGivenNames x_23
          split
          · rename_i a_24 a_25
            refine SameO.out_next ?_
            refine Same.ite0 ?_ ?_
            · refine Same.step (logEvent_same ..) ?_
              exact h_22
            · exact h_22
          · rename_i a_26 a_27 a_28 a_29
            refine SameO.out_next ?_
            refine Same.step (setPoison_same ..) ?_
            refine Same.step (logEvent_same ..) ?_
            exact h_22

theorem startBringUp_same (s : State) : Same 20971520 s (startBringUp s) := by
  have h0 := Same.refl 20971520 s
  unfold startBringUp
  refine Same.step (Same.set_sys_pwr ..) ?_
  exact Same.refl _ _

theorem releaseTrip_same (s : State) : Same 20971528 s (releaseTrip s) := by
  have h0 := Same.refl 20971528 s
  unfold releaseTrip
  refine Same.ite0 ?_ ?_
  · extract_lets +onlyGivenNames x_1
    extract_lets +onlyGivenNames x_2
    have h_3 : Same 20971528 s x_2 := by
      subst x_2
      refine Same.step (emit_same ..) ?_
      refine Same.step (Same.set_pwr ..) ?_
      exact Same.refl _ _
    clear_value x_2
    refine Same.ite0 ?_ ?_
    · refine Same.step (startBringUp_same ..) ?_
      exact h_3
    · exact h_3
  · exact Same.refl _ _

theorem execRefreshDue_same (st : StackId) (b : BankId) (s : State) : SameO 8196 s (outSt (execRefreshDue st b s)) := by
  have h0 := Same.refl 8196 s
  unfold execRefreshDue
  refine SameO.ite (f := outSt) ?_ ?_
  · refine SameO.out_next ?_
    refine Same.step (serveRefresh_same ..) ?_
    exact Same.refl _ _
  · extract_lets +onlyGivenNames x_1
    extract_lets +onlyGivenNames x_2
    extract_lets +onlyGivenNames x_3
    have h_4 : Same 8196 s x_3 := by
      subst x_3
      refine Same.step (setStack_same ..) ?_
      exact Same.refl _ _
    clear_value x_3
    refine SameO.out_next ?_
    refine Same.ite0 ?_ ?_
    · refine Same.step (stackErr_same ..) ?_
      exact h_4
    · exact h_4

theorem execRowSpareCopyDone_same (st : StackId) (b : BankId) (d : Fin 64) (s : State) : SameO 8196 s (outSt (execRowSpareCopyDone st b d s)) := by
  have h0 := Same.refl 8196 s
  unfold execRowSpareCopyDone
  extract_lets +onlyGivenNames x_1
  extract_lets +onlyGivenNames x_2
  extract_lets +onlyGivenNames x_3
  split
  · rename_i a_4 a_5
    refine SameO.out_next ?_
    exact Same.refl _ _
  · rename_i a_6 a_7 a_8
    extract_lets +onlyGivenNames x_9
    have h_10 : Same 8196 s x_9 := by
      subst x_9
      refine Same.step (setStack_same ..) ?_
      exact Same.refl _ _
    clear_value x_9
    refine SameO.out_next ?_
    refine Same.step (bump_same ..) ?_
    refine Same.step (stackErr_same ..) ?_
    exact h_10

theorem execStackBaseLogicFault_same (st : StackId) (s : State) : SameO 34370254892 s (outSt (execStackBaseLogicFault st s)) := by
  have h0 := Same.refl 34370254892 s
  unfold execStackBaseLogicFault
  refine SameO.ite (f := outSt) ?_ ?_
  · refine SameO.out_next ?_
    exact Same.refl _ _
  · extract_lets +onlyGivenNames x_1
    have h_2 : Same 34370254892 s x_1 := by
      subst x_1
      refine Same.ite0 ?_ ?_
      · exact Same.refl _ _
      · refine Same.step (stackErr_same ..) ?_
        exact Same.refl _ _
    clear_value x_1
    refine SameO.out_next ?_
    refine Same.step (rasEvac_same ..) ?_
    refine Same.step (logEvent_same ..) ?_
    exact h_2

theorem loseStack_same (s : State) (st : Nat) : Same 2508271418028 s (loseStack s st) := by
  have h0 := Same.refl 2508271418028 s
  unfold loseStack
  extract_lets +onlyGivenNames x_1
  refine Same.ite0 ?_ ?_
  · exact Same.refl _ _
  · extract_lets +onlyGivenNames x_2
    have h_3 : Same 2508271418028 s x_2 := by
      subst x_2
      refine Same.step (setStack_same ..) ?_
      exact Same.refl _ _
    clear_value x_2
    extract_lets +onlyGivenNames x_4
    extract_lets +onlyGivenNames x_5
    extract_lets +onlyGivenNames x_6
    have h_7 : Same 2508271418028 s x_6 := by
      subst x_6
      refine Same.step (setStack_same ..) ?_
      exact h_3
    clear_value x_6
    extract_lets +onlyGivenNames x_8
    have h_9 : Same 2508271418028 s x_8 := by
      subst x_8
      refine Same.step (dropChunksOf_same ..) ?_
      exact h_7
    clear_value x_8
    extract_lets +onlyGivenNames x_10
    extract_lets +onlyGivenNames x_11
    have h_12 : Same 2508271418028 s x_11 := by
      subst x_11
      refine Same.foldl _ ?_ ?_
      · exact h_9
      · intro a_13 a_14 a_15
        refine Same.step (loseBack_same ..) ?_
        exact a_15
    clear_value x_11
    extract_lets +onlyGivenNames x_16
    extract_lets +onlyGivenNames x_17
    have h_18 : Same 2508271418028 s x_17 := by
      subst x_17
      refine Same.step (logEvent_same ..) ?_
      exact h_12
    clear_value x_17
    refine Same.foldl _ ?_ ?_
    · exact h_18
    · intro a_19 a_20 a_21
      refine Same.step (stopSeq_same ..) ?_
      exact a_21

theorem execStackUnreadable_same (st : StackId) (s : State) : SameO 2508271418028 s (outSt (execStackUnreadable st s)) := by
  have h0 := Same.refl 2508271418028 s
  unfold execStackUnreadable
  refine SameO.out_next ?_
  refine Same.step (endEvacs_same ..) ?_
  refine Same.step (loseStack_same ..) ?_
  exact Same.refl _ _

theorem thermalEvent_same (s : State) : Same 12 s (thermalEvent s) := by
  have h0 := Same.refl 12 s
  unfold thermalEvent
  refine Same.step (bump_same ..) ?_
  refine Same.step (raiseAlert_same ..) ?_
  exact Same.refl _ _

theorem execTempSample_same (st : StackId) (t : BitVec 8) (s : State) : SameO 20979724 s (outSt (execTempSample st t s)) := by
  have h0 := Same.refl 20979724 s
  unfold execTempSample
  extract_lets +onlyGivenNames x_1
  extract_lets +onlyGivenNames x_2
  extract_lets +onlyGivenNames x_3
  subst x_3
  dsimp -zeta -zetaHave only
  extract_lets +onlyGivenNames x_4
  extract_lets +onlyGivenNames x_5
  have h_6 : Same 20979724 s x_5 := by
    subst x_5
    refine Same.ite0 ?_ ?_
    · refine Same.step (bumpBy_same ..) ?_
      exact Same.refl _ _
    · exact Same.refl _ _
  clear_value x_5
  extract_lets +onlyGivenNames x_7
  have h_8 : Same 20979724 s x_7 := by
    subst x_7
    refine Same.ite0 ?_ ?_
    · refine Same.step (bumpBy_same ..) ?_
      exact h_6
    · exact h_6
  clear_value x_7
  extract_lets +onlyGivenNames x_9
  extract_lets +onlyGivenNames x_10
  extract_lets +onlyGivenNames x_11
  extract_lets +onlyGivenNames x_12
  have h_13 : Same 20979724 s x_12 := by
    subst x_12
    refine Same.step (setStack_same ..) ?_
    exact h_8
  clear_value x_12
  refine SameO.out_next ?_
  refine Same.step (releaseTrip_same ..) ?_
  refine Same.ite0 ?_ ?_
  · refine Same.step (thermalEvent_same ..) ?_
    refine Same.step (stackErr_same ..) ?_
    exact h_13
  · exact h_13

end Sys2Proof.Machine
end

