-- ==== Sys2Proof/Laws/KeepBringup.lean ====
section
/-! SUPPORT. What each operation of Machine/Bringup.lean leaves alone: the parts it may write, as a number, and all else kept. -/

set_option linter.unusedVariables false

namespace Sys2Proof.Machine

set_option Elab.async false

theorem execGlobalTimeSet_same (secs : Word) (s : State) : SameO 4194309 s (outSt (execGlobalTimeSet secs s)) := by
  have h0 := Same.refl 4194309 s
  unfold execGlobalTimeSet
  extract_lets +onlyGivenNames x_1
  refine SameO.ite (f := outSt) ?_ ?_
  · refine SameO.out_next ?_
    refine Same.step (setBit_same ..) ?_
    exact Same.refl _ _
  · refine SameO.ite (f := outSt) ?_ ?_
    · refine SameO.out_next ?_
      exact Same.refl _ _
    · refine SameO.ite (f := outSt) ?_ ?_
      · refine SameO.out_next ?_
        extract_lets +onlyGivenNames x_2
        have h_3 : Same 4194309 s x_2 := by
          subst x_2
          refine Same.ite0 ?_ ?_
          · refine Same.step (bump_same ..) ?_
            exact Same.refl _ _
          · exact Same.refl _ _
        clear_value x_2
        refine Same.step (Same.set_now ..) ?_
        exact h_3
      · refine SameO.out_next ?_
        refine Same.step (Same.set_sys ..) ?_
        exact Same.refl _ _

theorem execPerstN_same (level : Bool) (s : State) : SameO 16777316 s (outSt (execPerstN level s)) := by
  have h0 := Same.refl 16777316 s
  unfold execPerstN
  refine SameO.ite (f := outSt) ?_ ?_
  · refine SameO.ite (f := outSt) ?_ ?_
    · refine SameO.out_next ?_
      exact Same.refl _ _
    · refine SameO.out_next ?_
      refine Same.step (Same.set_regs_mgmt_pwr ..) ?_
      exact Same.refl _ _
  · refine SameO.out_next ?_
    refine Same.step (haltBound_same ..) ?_
    refine Same.step (Same.set_pwr ..) ?_
    exact Same.refl _ _

theorem execPorstN_same (level : Bool) (s : State) : SameO 281474976710637 s (outSt (execPorstN level s)) := by
  have h0 := Same.refl 281474976710637 s
  unfold execPorstN
  refine SameO.ite (f := outSt) ?_ ?_
  · refine SameO.out_next ?_
    refine Same.step (releaseTrip_same ..) ?_
    refine Same.step (powerOn_same ..) ?_
    exact Same.refl _ _
  · refine SameO.ite (f := outSt) ?_ ?_
    · refine SameO.out_next ?_
      exact Same.refl _ _
    · refine SameO.ite (f := outSt) ?_ ?_
      · refine SameO.out_next ?_
        refine Same.step (Same.set_pwr ..) ?_
        exact Same.refl _ _
      · refine SameO.out_next ?_
        refine Same.step (startBringUp_same ..) ?_
        exact Same.refl _ _

theorem steer_same (s : State) (off : Int) : Same 4194309 s (steer s off) := by
  have h0 := Same.refl 4194309 s
  unfold steer
  extract_lets +onlyGivenNames x_1
  extract_lets +onlyGivenNames x_2
  have h_3 : Same 4194309 s x_2 := by
    subst x_2
    refine Same.step (Same.set_sys ..) ?_
    exact Same.refl _ _
  clear_value x_2
  refine Same.ite0 ?_ ?_
  · refine Same.step (Same.set_sys ..) ?_
    exact h_3
  · refine Same.ite0 ?_ ?_
    · refine Same.step (bump_same ..) ?_
      refine Same.step (Same.set_now_sys ..) ?_
      exact h_3
    · refine Same.step (Same.set_sys ..) ?_
      exact h_3

theorem execPpsInEdge_same (s : State) : SameO 4194309 s (outSt (execPpsInEdge s)) := by
  have h0 := Same.refl 4194309 s
  unfold execPpsInEdge
  extract_lets +onlyGivenNames x_1
  extract_lets +onlyGivenNames x_2
  have h_3 : Same 4194309 s x_2 := by
    subst x_2
    refine Same.step (Same.set_sys ..) ?_
    exact Same.refl _ _
  clear_value x_2
  refine SameO.ite (f := outSt) ?_ ?_
  · refine SameO.out_next ?_
    exact h_3
  · extract_lets +onlyGivenNames x_4
    extract_lets +onlyGivenNames x_5
    extract_lets +onlyGivenNames x_6
    have h_7 : Same 4194309 s x_6 := by
      subst x_6
      refine Same.step (Same.set_sys ..) ?_
      exact h_3
    clear_value x_6
    refine SameO.out_next ?_
    refine Same.step (steer_same ..) ?_
    exact h_7

theorem execPpsOutSecond_same (s : State) : SameO 4194312 s (outSt (execPpsOutSecond s)) := by
  have h0 := Same.refl 4194312 s
  unfold execPpsOutSecond
  extract_lets +onlyGivenNames x_1
  refine SameO.ite (f := outSt) ?_ ?_
  · refine SameO.out_next ?_
    exact Same.refl _ _
  · refine SameO.out_next ?_
    refine Same.step (emit_same ..) ?_
    refine Same.step (Same.set_sys ..) ?_
    exact Same.refl _ _

theorem portLosesRef_same (s : State) (p : Nat) : Same 37918131294188 s (portLosesRef s p) := by
  have h0 := Same.refl 37918131294188 s
  unfold portLosesRef
  refine Same.ite0 ?_ ?_
  · refine Same.ite0 ?_ ?_
    · exact Same.refl _ _
    · refine Same.ite0 ?_ ?_
      · refine Same.step (Same.set_link ..) ?_
        exact Same.refl _ _
      · refine Same.step (fenceFor_same ..) ?_
        refine Same.step (Same.set_link ..) ?_
        exact Same.refl _ _
  · refine Same.ite0 ?_ ?_
    · split
      · rename_i a_1 a_2
        exact Same.refl _ _
      · rename_i a_3 a_4
        refine Same.step (Same.set_link ..) ?_
        exact Same.refl _ _
      · rename_i a_5 a_6 a_7
        refine Same.step (cxlReset_same ..) ?_
        exact Same.refl _ _
    · refine Same.ite0 ?_ ?_
      · exact Same.refl _ _
      · refine Same.step (dropLink_same ..) ?_
        exact Same.refl _ _

theorem execRefclkLost_same (r : RefId) (s : State) : SameO 37918135488492 s (outSt (execRefclkLost r s)) := by
  have h0 := Same.refl 37918135488492 s
  unfold execRefclkLost
  split
  · rename_i a_1
    refine SameO.out_next ?_
    refine Same.step (Same.set_sys ..) ?_
    exact Same.refl _ _
  · rename_i a_2
    refine SameO.out_next ?_
    refine Same.step (Same.set_sys ..) ?_
    exact Same.refl _ _
  · rename_i a_3 a_4
    refine SameO.ite (f := outSt) ?_ ?_
    · refine SameO.out_next ?_
      exact Same.refl _ _
    · extract_lets +onlyGivenNames x_5
      extract_lets +onlyGivenNames x_6
      extract_lets +onlyGivenNames x_7
      have h_8 : Same 37918135488492 s x_7 := by
        subst x_7
        refine Same.step (Same.set_sys ..) ?_
        exact Same.refl _ _
      clear_value x_7
      extract_lets +onlyGivenNames x_9
      have h_10 : Same 37918135488492 s x_9 := by
        subst x_9
        refine Same.foldl _ ?_ ?_
        · exact h_8
        · intro a_11 a_12 a_13
          refine Same.step (portLosesRef_same ..) ?_
          exact a_13
      clear_value x_9
      refine SameO.ite (f := outSt) ?_ ?_
      · refine SameO.out_next ?_
        refine Same.step (raiseAlert_same ..) ?_
        exact h_10
      · refine SameO.ite (f := outSt) ?_ ?_
        · refine SameO.out_next ?_
          exact h_10
        · split
          · rename_i a_14 a_15 a_16
            refine SameO.out_next ?_
            refine Same.step (bump_same ..) ?_
            refine Same.step (Same.set_sys ..) ?_
            exact h_10
          · rename_i a_17 a_18
            refine SameO.out_next ?_
            exact h_10

theorem execRefclkRestored_same (r : RefId) (s : State) : SameO 5242924 s (outSt (execRefclkRestored r s)) := by
  have h0 := Same.refl 5242924 s
  unfold execRefclkRestored
  split
  · rename_i a_1
    refine SameO.out_next ?_
    refine Same.step (Same.set_sys ..) ?_
    exact Same.refl _ _
  · rename_i a_2
    refine SameO.out_next ?_
    refine Same.step (Same.set_sys ..) ?_
    exact Same.refl _ _
  · rename_i a_3 a_4
    refine SameO.ite (f := outSt) ?_ ?_
    · refine SameO.out_next ?_
      exact Same.refl _ _
    · extract_lets +onlyGivenNames x_5
      extract_lets +onlyGivenNames x_6
      extract_lets +onlyGivenNames x_7
      have h_8 : Same 5242924 s x_7 := by
        subst x_7
        refine Same.step (Same.set_sys ..) ?_
        exact Same.refl _ _
      clear_value x_7
      extract_lets +onlyGivenNames x_9
      extract_lets +onlyGivenNames x_10
      have h_11 : Same 5242924 s x_10 := by
        subst x_10
        refine Same.ite0 ?_ ?_
        · refine Same.step (bump_same ..) ?_
          refine Same.step (Same.set_sys ..) ?_
          exact h_8
        · exact h_8
      clear_value x_10
      refine SameO.out_next ?_
      refine Same.foldl _ ?_ ?_
      · exact h_11
      · intro a_12 a_13 a_14
        refine Same.step (startPort_same ..) ?_
        exact a_14

theorem testWinch_same (s : State) (t : TestResult) : Same 2048 s (testWinch s t) := by
  have h0 := Same.refl 2048 s
  unfold testWinch
  extract_lets +onlyGivenNames x_1
  extract_lets +onlyGivenNames x_2
  refine Same.step (Same.set_tier ..) ?_
  exact Same.refl _ _

theorem startupFails_same (s : State) (kind : Nat) : Same 14680108 s (startupFails s kind) := by
  have h0 := Same.refl 14680108 s
  unfold startupFails
  extract_lets +onlyGivenNames x_1
  have h_2 : Same 14680108 s x_1 := by
    subst x_1
    refine Same.step (logEvent_same ..) ?_
    exact Same.refl _ _
  clear_value x_1
  refine Same.step (raiseAlert_same ..) ?_
  refine Same.step (Same.set_sys ..) ?_
  exact h_2

theorem testBank_same (s : State) (st : Nat) (bank : Nat) : Same 8196 s (testBank s st bank) := by
  have h0 := Same.refl 8196 s
  unfold testBank
  extract_lets +onlyGivenNames x_1
  split
  · rename_i a_2 a_3 a_4
    refine Same.step (bump_same ..) ?_
    refine Same.step (setStack_same ..) ?_
    exact Same.refl _ _
  · rename_i a_5 a_6
    refine Same.step (setStack_same ..) ?_
    exact Same.refl _ _

theorem testLine_same (s : State) (st : Nat) (link : Nat) : Same 8196 s (testLine s st link) := by
  have h0 := Same.refl 8196 s
  unfold testLine
  extract_lets +onlyGivenNames x_1
  refine Same.ite0 ?_ ?_
  · refine Same.step (bump_same ..) ?_
    refine Same.step (setStack_same ..) ?_
    exact Same.refl _ _
  · refine Same.foldl _ ?_ ?_
    · exact Same.refl _ _
    · intro a_2 a_3 a_4
      refine Same.ite0 ?_ ?_
      · refine Same.step (testBank_same ..) ?_
        exact a_4
      · exact a_4

theorem testStacks_same (s : State) (t : TestResult) : SameO 8196 s (testStacks s t) := by
  have h0 := Same.refl 8196 s
  unfold testStacks
  extract_lets +onlyGivenNames x_1
  have h_2 : Same 8196 s x_1 := by
    subst x_1
    refine Same.foldl _ ?_ ?_
    · exact Same.refl _ _
    · intro a_3 a_4 a_5
      refine Same.step (setStack_same ..) ?_
      exact a_5
  clear_value x_1
  extract_lets +onlyGivenNames x_6
  have h_7 : Same 8196 s x_6 := by
    subst x_6
    refine Same.foldl _ ?_ ?_
    · exact h_2
    · intro a_8 a_9 a_10
      refine Same.step (setStack_same ..) ?_
      refine Same.step (bump_same ..) ?_
      exact a_10
  clear_value x_6
  extract_lets +onlyGivenNames x_11
  have h_12 : Same 8196 s x_11 := by
    subst x_11
    refine Same.foldl _ ?_ ?_
    · exact h_7
    · intro a_13 a_14 a_15
      refine Same.step (testLine_same ..) ?_
      exact a_15
  clear_value x_11
  extract_lets +onlyGivenNames x_16
  have h_17 : Same 8196 s x_16 := by
    subst x_16
    refine Same.foldl _ ?_ ?_
    · exact h_12
    · intro a_18 a_19 a_20
      refine Same.step (testBank_same ..) ?_
      exact a_20
  clear_value x_16
  extract_lets +onlyGivenNames x_21
  have h_22 : Same 8196 s x_21 := by
    subst x_21
    refine Same.foldl _ ?_ ?_
    · exact h_17
    · intro a_23 a_24 a_25
      extract_lets +onlyGivenNames x_26
      extract_lets +onlyGivenNames x_27
      extract_lets +onlyGivenNames x_28
      have h_29 : Same 8196 s x_28 := by
        subst x_28
        refine Same.step (setStack_same ..) ?_
        exact a_25
      clear_value x_28
      refine Same.step (setStack_same ..) ?_
      exact h_29
  clear_value x_21
  refine SameO.ite0 ?_ ?_
  · refine SameO.yes ?_
    exact h_22
  · exact SameO.no

theorem testSlices_same (s : State) (t : TestResult) : SameO 262144 s (testSlices s t) := by
  have h0 := Same.refl 262144 s
  unfold testSlices
  extract_lets +onlyGivenNames x_1
  extract_lets +onlyGivenNames x_2
  clear_value x_1
  split
  · rename_i a_3
    refine SameO.yes ?_
    refine Same.step (Same.set_core ..) ?_
    exact Same.refl _ _
  · rename_i a_4 a_5
    refine SameO.yes ?_
    refine Same.step (Same.set_core ..) ?_
    exact Same.refl _ _
  · rename_i a_6 a_7 a_8
    exact SameO.no

theorem execStartupTestDone_same (t : TestResult) (s : State) : SameO 14985260 s (outSt (execStartupTestDone t s)) := by
  have h0 := Same.refl 14985260 s
  unfold execStartupTestDone
  refine SameO.ite (f := outSt) ?_ ?_
  · refine SameO.out_next ?_
    exact Same.refl _ _
  · split
    · rename_i a_1 a_2
      refine SameO.out_next ?_
      refine Same.step (startupFails_same ..) ?_
      exact Same.refl _ _
    · rename_i a_3 a_4 a_5
      have h_6 : Same 14985260 s a_4 := by
        refine SameO.some ?_ a_5
        refine SameO.pass (testSlices_same ..) ?_
        exact Same.refl _ _
      split
      · rename_i a_7 a_8
        refine SameO.out_next ?_
        refine Same.step (startupFails_same ..) ?_
        exact h_6
      · rename_i a_9 a_10 a_11
        have h_12 : Same 14985260 s a_10 := by
          refine SameO.some ?_ a_11
          refine SameO.pass (testStacks_same ..) ?_
          exact h_6
        extract_lets +onlyGivenNames x_13
        extract_lets +onlyGivenNames x_14
        extract_lets +onlyGivenNames x_15
        have h_16 : Same 14985260 s x_15 := by
          subst x_15
          refine Same.step (testWinch_same ..) ?_
          refine Same.step (Same.set_trs_settle ..) ?_
          exact h_12
        clear_value x_15
        refine SameO.ite (f := outSt) ?_ ?_
        · refine SameO.out_next ?_
          refine Same.step (startupFails_same ..) ?_
          exact h_16
        · refine SameO.ite (f := outSt) ?_ ?_
          · refine SameO.out_next ?_
            refine Same.step (startupFails_same ..) ?_
            exact h_16
          · refine SameO.ite (f := outSt) ?_ ?_
            · refine SameO.out_next ?_
              refine Same.step (startupFails_same ..) ?_
              exact h_16
            · refine SameO.out_next ?_
              refine Same.step (Same.set_sys ..) ?_
              exact h_16

theorem execTimeDistribute_same (elapsed : BitVec 32) (s : State) : SameO 4194313 s (outSt (execTimeDistribute elapsed s)) := by
  have h0 := Same.refl 4194313 s
  unfold execTimeDistribute
  extract_lets +onlyGivenNames x_1
  extract_lets +onlyGivenNames x_2
  extract_lets +onlyGivenNames x_3
  extract_lets +onlyGivenNames x_4
  extract_lets +onlyGivenNames x_5
  extract_lets +onlyGivenNames x_6
  extract_lets +onlyGivenNames x_7
  have h_8 : Same 4194313 s x_7 := by
    subst x_7
    refine Same.step (Same.set_now_sys ..) ?_
    exact Same.refl _ _
  refine SameO.ite (f := outSt) ?_ ?_
  · refine SameO.out_next ?_
    refine Same.step (emit_same ..) ?_
    refine Same.step (Same.set_sys ..) ?_
    exact h_8
  · refine SameO.out_next ?_
    exact h_8

end Sys2Proof.Machine
end

