-- ==== Sys2Proof/Laws/KeepCompression.lean ====
section
/-! SUPPORT. What each operation of Machine/Compression.lean leaves alone: the parts it may write, as a number, and all else kept. -/

set_option linter.unusedVariables false

namespace Sys2Proof.Machine

set_option Elab.async false

theorem claimSlot_same (s : State) (slot : Nat) (h : Nat) (retiring : Bool) : Same 4096 s (claimSlot s slot h retiring) := by
  have h0 := Same.refl 4096 s
  unfold claimSlot
  refine Same.step (setCslot_same ..) ?_
  exact Same.refl _ _

theorem endRefetch_same (s : State) (blk : Nat) : Same 128 s (endRefetch s blk) := by
  have h0 := Same.refl 128 s
  unfold endRefetch
  refine Same.step (Same.set_coh ..) ?_
  exact Same.refl _ _

theorem noteConsumers_same (s : State) (lo : Nat) : Same 2048 s (noteConsumers s lo) := by
  have h0 := Same.refl 2048 s
  unfold noteConsumers
  refine Same.step (Same.set_tier ..) ?_
  exact Same.refl _ _

theorem poisonBlock_same (s : State) (id : Nat) (blk : Nat) : Same 274877907072 s (poisonBlock s id blk) := by
  have h0 := Same.refl 274877907072 s
  unfold poisonBlock
  extract_lets +onlyGivenNames x_1
  extract_lets +onlyGivenNames x_2
  subst x_2
  extract_lets +onlyGivenNames x_3
  have h_4 : Same 274877907072 s x_3 := by
    subst x_3
    refine Same.step (Same.set_pool_poisonLines ..) ?_
    exact Same.refl _ _
  clear_value x_3
  refine Same.step (Same.set_coh ..) ?_
  exact h_4

theorem execBlockRefetch_same (off : PoolOff) (good : Bool) (s : State) : SameO 274888394924 s (outSt (execBlockRefetch off good s)) := by
  have h0 := Same.refl 274888394924 s
  unfold execBlockRefetch
  extract_lets +onlyGivenNames x_1
  extract_lets +onlyGivenNames x_2
  extract_lets +onlyGivenNames x_3
  split
  · rename_i a_4 a_5
    refine SameO.out_next ?_
    exact Same.refl _ _
  · rename_i a_6 a_7 a_8
    split
    · rename_i a_9 a_10
      refine SameO.out_next ?_
      exact Same.refl _ _
    · rename_i a_11 a_12 a_13
      refine SameO.ite (f := outSt) ?_ ?_
      · refine SameO.ite (f := outSt) ?_ ?_
        · refine SameO.out_next ?_
          exact Same.refl _ _
        · extract_lets +onlyGivenNames x_14
          have h_15 : Same 274888394924 s x_14 := by
            subst x_14
            refine Same.step (endRefetch_same ..) ?_
            exact Same.refl _ _
          clear_value x_14
          refine SameO.ite (f := outSt) ?_ ?_
          · refine SameO.out_next ?_
            refine Same.step (poisonBlock_same ..) ?_
            exact h_15
          · refine SameO.ite (f := outSt) ?_ ?_
            · refine SameO.out_next ?_
              refine Same.step (logEvent_same ..) ?_
              refine Same.step (bump_same ..) ?_
              exact h_15
            · extract_lets +onlyGivenNames x_16
              refine SameO.out_next ?_
              refine Same.step (noteConsumers_same ..) ?_
              refine Same.step (logEvent_same ..) ?_
              refine Same.step (bump_same ..) ?_
              refine Same.step (poisonBlock_same ..) ?_
              exact h_15
      · split
        · rename_i a_17 a_18 a_19 a_20 a_21
          refine SameO.out_next ?_
          refine Same.ite0 ?_ ?_
          · refine Same.step (logEvent_same ..) ?_
            refine Same.step (bump_same ..) ?_
            exact Same.refl _ _
          · exact Same.refl _ _
        · rename_i a_22 a_23
          split
          · rename_i a_24 a_25 a_26 a_27 a_28
            refine SameO.out_next ?_
            refine Same.ite0 ?_ ?_
            · refine Same.step (logEvent_same ..) ?_
              refine Same.step (bump_same ..) ?_
              exact Same.refl _ _
            · exact Same.refl _ _
          · rename_i a_29 a_30
            refine SameO.out_next ?_
            exact Same.refl _ _

theorem startBuild_same (s : State) (h : Nat) (k : Key) (d : Line) (mode : Nat) (b : CBuild) (works : List WWork) : Same 34359769128 s (startBuild s h k d mode b works) := by
  have h0 := Same.refl 34359769128 s
  unfold startBuild
  split
  · rename_i a_1 a_2 a_3 a_4
    have h_5 : Same 34359769128 s a_3 := by
      refine Same.of2 ?_ a_4
      refine Same.step (addOp_same ..) ?_
      refine Same.step (markStarted_same ..) ?_
      exact Same.refl _ _
    extract_lets +onlyGivenNames x_6
    refine Same.step (finishOp_same ..) ?_
    refine Same.step (Same.set_cmp ..) ?_
    exact h_5

theorem startCount_same (s : State) (h : Nat) (k : Key) (d : Line) (mode : Nat) : Same 34359769132 s (startCount s h k d mode) := by
  have h0 := Same.refl 34359769132 s
  unfold startCount
  extract_lets +onlyGivenNames x_1
  split
  · rename_i a_2 a_3 a_4
    refine Same.step (commit_same ..) ?_
    exact Same.refl _ _
  · rename_i a_5 a_6
    refine Same.ite0 ?_ ?_
    · refine Same.step (commit_same ..) ?_
      exact Same.refl _ _
    · extract_lets +onlyGivenNames x_7
      have h_8 : Same 34359769132 s x_7 := by
        subst x_7
        refine Same.step (claimSlot_same ..) ?_
        exact Same.refl _ _
      clear_value x_7
      refine Same.step (startBuild_same ..) ?_
      exact h_8

theorem execBuild_same (h : Handle) (s : State) : SameO 34359769132 s (outSt (execBuild h s)) := by
  have h0 := Same.refl 34359769132 s
  unfold execBuild
  unfold buildRow
  dsimp -zeta -zetaHave only
  split
  · rename_i a_1 a_2
    refine SameO.out_next ?_
    exact Same.refl _ _
  · rename_i a_3 a_4 a_5
    split
    · rename_i a_6 a_7 a_8
      refine SameO.out_next ?_
      refine Same.step (badDesc_same ..) ?_
      exact Same.refl _ _
    · rename_i a_9 a_10
      refine SameO.ite (f := outSt) ?_ ?_
      · refine SameO.out_next ?_
        refine Same.step (startCount_same ..) ?_
        exact Same.refl _ _
      · refine SameO.out_next ?_
        exact Same.refl _ _

theorem execBuildEncode_same (h : Handle) (s : State) : SameO 34359769132 s (outSt (execBuildEncode h s)) := by
  have h0 := Same.refl 34359769132 s
  unfold execBuildEncode
  unfold buildRow
  dsimp -zeta -zetaHave only
  split
  · rename_i a_1 a_2
    refine SameO.out_next ?_
    exact Same.refl _ _
  · rename_i a_3 a_4 a_5
    split
    · rename_i a_6 a_7 a_8
      refine SameO.out_next ?_
      refine Same.step (badDesc_same ..) ?_
      exact Same.refl _ _
    · rename_i a_9 a_10
      refine SameO.ite (f := outSt) ?_ ?_
      · refine SameO.out_next ?_
        refine Same.step (startCount_same ..) ?_
        exact Same.refl _ _
      · refine SameO.out_next ?_
        exact Same.refl _ _

theorem execCtableLoad_same (h : Handle) (s : State) : SameO 4140 s (outSt (execCtableLoad h s)) := by
  have h0 := Same.refl 4140 s
  unfold execCtableLoad
  split
  · rename_i a_1 a_2
    refine SameO.out_next ?_
    exact Same.refl _ _
  · rename_i a_3 a_4 a_5
    extract_lets +onlyGivenNames x_6
    extract_lets +onlyGivenNames x_7
    refine SameO.ite (f := outSt) ?_ ?_
    · refine SameO.out_next ?_
      refine Same.step (badDesc_same ..) ?_
      exact Same.refl _ _
    · refine SameO.ite (f := outSt) ?_ ?_
      · refine SameO.out_next ?_
        refine Same.step (badDesc_same ..) ?_
        exact Same.refl _ _
      · refine SameO.ite (f := outSt) ?_ ?_
        · refine SameO.out_next ?_
          refine Same.step (commit_same ..) ?_
          exact Same.refl _ _
        · split
          · rename_i a_8 a_9
            refine SameO.out_next ?_
            refine Same.ite0 ?_ ?_
            · exact Same.refl _ _
            · refine Same.step (claimSlot_same ..) ?_
              exact Same.refl _ _
          · rename_i a_10 a_11 a_12
            refine SameO.ite (f := outSt) ?_ ?_
            · refine SameO.out_next ?_
              refine Same.step (badDesc_same ..) ?_
              exact Same.refl _ _
            · split
              · rename_i a_13 a_14
                refine SameO.out_next ?_
                refine Same.step (badDesc_same ..) ?_
                exact Same.refl _ _
              · rename_i a_15 a_16 a_17
                split
                · rename_i a_18 a_19 a_20
                  refine SameO.out_next ?_
                  refine Same.step (commit_same ..) ?_
                  exact Same.refl _ _
                · rename_i a_21 a_22
                  extract_lets +onlyGivenNames x_23
                  have h_24 : Same 4140 s x_23 := by
                    subst x_23
                    refine Same.step (installGen_same ..) ?_
                    exact Same.refl _ _
                  clear_value x_23
                  extract_lets +onlyGivenNames x_25
                  refine SameO.out_next ?_
                  refine Same.step (commit_same ..) ?_
                  exact h_24

theorem execCtableRetire_same (h : Handle) (s : State) : SameO 4140 s (outSt (execCtableRetire h s)) := by
  have h0 := Same.refl 4140 s
  unfold execCtableRetire
  split
  · rename_i a_1 a_2
    refine SameO.out_next ?_
    exact Same.refl _ _
  · rename_i a_3 a_4 a_5
    extract_lets +onlyGivenNames x_6
    refine SameO.ite (f := outSt) ?_ ?_
    · refine SameO.out_next ?_
      exact Same.refl _ _
    · refine SameO.ite (f := outSt) ?_ ?_
      · refine SameO.out_next ?_
        refine Same.step (badDesc_same ..) ?_
        exact Same.refl _ _
      · refine SameO.ite (f := outSt) ?_ ?_
        · refine SameO.out_next ?_
          refine Same.step (commit_same ..) ?_
          exact Same.refl _ _
        · refine SameO.ite (f := outSt) ?_ ?_
          · refine SameO.out_next ?_
            refine Same.step (commit_same ..) ?_
            exact Same.refl _ _
          · extract_lets +onlyGivenNames x_7
            extract_lets +onlyGivenNames x_8
            refine SameO.ite (f := outSt) ?_ ?_
            · refine SameO.out_next ?_
              refine Same.step (commit_same ..) ?_
              exact Same.refl _ _
            · refine SameO.out_next ?_
              refine Same.step (engineDone_same ..) ?_
              refine Same.step (dropGens_same ..) ?_
              refine Same.step (markStarted_same ..) ?_
              exact Same.refl _ _

theorem execCtableRetireRecode_same (h : Handle) (s : State) : SameO 34359769132 s (outSt (execCtableRetireRecode h s)) := by
  have h0 := Same.refl 34359769132 s
  unfold execCtableRetireRecode
  split
  · rename_i a_1 a_2
    refine SameO.out_next ?_
    exact Same.refl _ _
  · rename_i a_3 a_4 a_5
    extract_lets +onlyGivenNames x_6
    extract_lets +onlyGivenNames x_7
    extract_lets +onlyGivenNames x_8
    refine SameO.ite (f := outSt) ?_ ?_
    · refine SameO.out_next ?_
      exact Same.refl _ _
    · refine SameO.ite (f := outSt) ?_ ?_
      · refine SameO.out_next ?_
        refine Same.step (badDesc_same ..) ?_
        exact Same.refl _ _
      · refine SameO.ite (f := outSt) ?_ ?_
        · refine SameO.out_next ?_
          refine Same.step (commit_same ..) ?_
          exact Same.refl _ _
        · refine SameO.ite (f := outSt) ?_ ?_
          · refine SameO.out_next ?_
            refine Same.step (commit_same ..) ?_
            exact Same.refl _ _
          · refine SameO.ite (f := outSt) ?_ ?_
            · refine SameO.out_next ?_
              refine Same.step (badDesc_same ..) ?_
              exact Same.refl _ _
            · extract_lets +onlyGivenNames x_9
              have h_10 : Same 34359769132 s x_9 := by
                subst x_9
                refine Same.step (claimSlot_same ..) ?_
                exact Same.refl _ _
              clear_value x_9
              extract_lets +onlyGivenNames x_11
              split
              · rename_i a_12 a_13 a_14 a_15
                have h_16 : Same 34359769132 s a_14 := by
                  refine Same.of2 ?_ a_15
                  refine Same.step (addOp_same ..) ?_
                  refine Same.step (markStarted_same ..) ?_
                  exact h_10
                extract_lets +onlyGivenNames x_17
                refine SameO.out_next ?_
                refine Same.step (finishOp_same ..) ?_
                refine Same.step (Same.set_cmp ..) ?_
                exact h_16

theorem execEncode_same (h : Handle) (s : State) : SameO 34359769132 s (outSt (execEncode h s)) := by
  have h0 := Same.refl 34359769132 s
  unfold execEncode
  unfold buildRow
  dsimp -zeta -zetaHave only
  split
  · rename_i a_1 a_2
    refine SameO.out_next ?_
    exact Same.refl _ _
  · rename_i a_3 a_4 a_5
    split
    · rename_i a_6 a_7 a_8
      refine SameO.out_next ?_
      refine Same.step (badDesc_same ..) ?_
      exact Same.refl _ _
    · rename_i a_9 a_10
      refine SameO.ite (f := outSt) ?_ ?_
      · refine SameO.out_next ?_
        extract_lets +onlyGivenNames x_11
        extract_lets +onlyGivenNames x_12
        extract_lets +onlyGivenNames x_13
        refine Same.ite0 ?_ ?_
        · refine Same.step (commit_same ..) ?_
          exact Same.refl _ _
        · refine Same.ite0 ?_ ?_
          · refine Same.step (commit_same ..) ?_
            exact Same.refl _ _
          · split
            · rename_i a_14 a_15
              refine Same.step (commit_same ..) ?_
              exact Same.refl _ _
            · rename_i a_16 a_17 a_18
              refine Same.ite0 ?_ ?_
              · refine Same.step (commit_same ..) ?_
                exact Same.refl _ _
              · extract_lets +onlyGivenNames x_19
                refine Same.step (startBuild_same ..) ?_
                exact Same.refl _ _
      · refine SameO.out_next ?_
        exact Same.refl _ _

theorem execExpand_same (h : Handle) (s : State) : SameO 34359769132 s (outSt (execExpand h s)) := by
  have h0 := Same.refl 34359769132 s
  unfold execExpand
  unfold buildRow
  dsimp -zeta -zetaHave only
  split
  · rename_i a_1 a_2
    refine SameO.out_next ?_
    exact Same.refl _ _
  · rename_i a_3 a_4 a_5
    split
    · rename_i a_6 a_7 a_8
      refine SameO.out_next ?_
      refine Same.step (badDesc_same ..) ?_
      exact Same.refl _ _
    · rename_i a_9 a_10
      refine SameO.ite (f := outSt) ?_ ?_
      · refine SameO.out_next ?_
        extract_lets +onlyGivenNames x_11
        extract_lets +onlyGivenNames x_12
        split
        · rename_i a_13 a_14
          refine Same.step (commit_same ..) ?_
          exact Same.refl _ _
        · rename_i a_15 a_16 a_17
          refine Same.ite0 ?_ ?_
          · refine Same.step (badDesc_same ..) ?_
            exact Same.refl _ _
          · extract_lets +onlyGivenNames x_18
            refine Same.step (startOp_same ..) ?_
            refine Same.step (markStarted_same ..) ?_
            exact Same.refl _ _
      · refine SameO.out_next ?_
        exact Same.refl _ _

theorem execRelease_same (h : Handle) (s : State) : SameO 4140 s (outSt (execRelease h s)) := by
  have h0 := Same.refl 4140 s
  unfold execRelease
  unfold buildRow
  dsimp -zeta -zetaHave only
  split
  · rename_i a_1 a_2
    refine SameO.out_next ?_
    exact Same.refl _ _
  · rename_i a_3 a_4 a_5
    split
    · rename_i a_6 a_7 a_8
      refine SameO.out_next ?_
      refine Same.step (badDesc_same ..) ?_
      exact Same.refl _ _
    · rename_i a_9 a_10
      refine SameO.ite (f := outSt) ?_ ?_
      · refine SameO.out_next ?_
        extract_lets +onlyGivenNames x_11
        split
        · rename_i a_12 a_13
          refine Same.step (commit_same ..) ?_
          exact Same.refl _ _
        · rename_i a_14 a_15 a_16
          extract_lets +onlyGivenNames x_17
          extract_lets +onlyGivenNames x_18
          have h_19 : Same 4140 s x_18 := by
            subst x_18
            refine Same.step (Same.set_cmp ..) ?_
            exact Same.refl _ _
          clear_value x_18
          refine Same.step (engineDone_same ..) ?_
          refine Same.step (pruneObjs_same ..) ?_
          refine Same.step (dropRef_same ..) ?_
          refine Same.step (markStarted_same ..) ?_
          exact h_19
      · refine SameO.out_next ?_
        exact Same.refl _ _

end Sys2Proof.Machine
end

