-- ==== Sys2Proof/Laws/KeepFar.lean ====
section
/-! SUPPORT. What each operation of Machine/Far.lean leaves alone: the parts it may write, as a number, and all else kept. -/

set_option linter.unusedVariables false

namespace Sys2Proof.Machine

set_option Elab.async false

theorem execAtomcomb_same (r : Req) (s : State) : SameO 37778534043532 s (outSt (execAtomcomb r s)) := by
  have h0 := Same.refl 37778534043532 s
  unfold execAtomcomb
  refine SameO.ite (f := outSt) ?_ ?_
  · refine SameO.out_next ?_
    exact Same.refl _ _
  · refine SameO.ite (f := outSt) ?_ ?_
    · refine SameO.out_next ?_
      refine Same.step (refuseReq_same ..) ?_
      exact Same.refl _ _
    · extract_lets +onlyGivenNames x_1
      subst x_1
      extract_lets +onlyGivenNames x_2
      have h_3 : Same 37778534043532 s x_2 := by
        subst x_2
        refine Same.ite0 ?_ ?_
        · exact Same.refl _ _
        · split
          · rename_i a_4 a_5 a_6
            have h_7 : Same 37778534043532 s a_5 := by
              refine SameO.next ?_ a_6
              refine SameO.pass (execRequestIngress_same ..) ?_
              exact Same.refl _ _
            exact h_7
          · rename_i a_8 a_9
            exact Same.refl _ _
      clear_value x_2
      refine SameO.out_next ?_
      refine Same.step (orderRow_same ..) ?_
      exact h_3

theorem execCmpcomb_same (p : PortId) (tag : BitVec 14) (results : List CombRes) (poison : Bool) (s : State) : SameO 640 s (outSt (execCmpcomb p tag results poison s)) := by
  have h0 := Same.refl 640 s
  unfold execCmpcomb
  split
  · rename_i a_1 a_2
    refine SameO.out_next ?_
    exact Same.refl _ _
  · rename_i a_3 a_4 a_5
    extract_lets +onlyGivenNames x_6
    refine SameO.out_next ?_
    refine Same.step (Same.set_coh_atm ..) ?_
    exact Same.refl _ _

theorem leaveBarred_same (s : State) (line : Nat) : Same 516 s (leaveBarred s line) := by
  have h0 := Same.refl 516 s
  unfold leaveBarred
  split
  · rename_i a_1 a_2
    refine Same.step (leaveFar_same ..) ?_
    exact Same.refl _ _
  · rename_i a_3 a_4
    refine Same.step (leaveRange_same ..) ?_
    exact Same.refl _ _
  · rename_i a_5 a_6
    exact Same.refl _ _

theorem execFarEnter_same (off : PoolOff) (s : State) : SameO 644 s (outSt (execFarEnter off s)) := by
  have h0 := Same.refl 644 s
  unfold execFarEnter
  extract_lets +onlyGivenNames x_1
  split
  · rename_i a_2 a_3
    refine SameO.out_next ?_
    exact Same.refl _ _
  · rename_i a_4 a_5 a_6
    refine SameO.ite (f := outSt) ?_ ?_
    · extract_lets +onlyGivenNames x_7
      refine SameO.out_next ?_
      refine Same.step (leaveBarred_same ..) ?_
      refine Same.step (dropStat_same ..) ?_
      refine Same.step (setHot_same ..) ?_
      refine Same.step (dropDir_same ..) ?_
      exact Same.refl _ _
    · refine SameO.out_next ?_
      exact Same.refl _ _

theorem execFarExitDone_same (off : PoolOff) (s : State) : SameO 446676599300 s (outSt (execFarExitDone off s)) := by
  have h0 := Same.refl 446676599300 s
  unfold execFarExitDone
  extract_lets +onlyGivenNames x_1
  split
  · rename_i a_2 a_3
    refine SameO.out_next ?_
    exact Same.refl _ _
  · rename_i a_4 a_5 a_6
    refine SameO.ite (f := outSt) ?_ ?_
    · refine SameO.out_next ?_
      refine Same.step (setHot_same ..) ?_
      refine Same.step (storeLine_same ..) ?_
      exact Same.refl _ _
    · refine SameO.out_next ?_
      exact Same.refl _ _

theorem farOp_same (s : State) (line : Nat) : Same 4 s (farOp s line) := by
  have h0 := Same.refl 4 s
  unfold farOp
  refine Same.step (bump_same ..) ?_
  exact Same.refl _ _

theorem farAtoms_same (s : State) (line : Nat) (h : Hot) (rs : List Req) : Same 34359741068 s (farAtoms s line h rs) := by
  have h0 := Same.refl 34359741068 s
  unfold farAtoms
  extract_lets +onlyGivenNames x_1
  split
  · rename_i a_2 a_3 a_4 a_5
    extract_lets +onlyGivenNames x_6
    split
    · rename_i a_7 a_8
      refine Same.foldl _ ?_ ?_
      · refine Same.step (bump_same ..) ?_
        exact Same.refl _ _
      · intro a_9 a_10 a_11
        refine Same.step (refuseQuota_same ..) ?_
        refine Same.step (dropWait_same ..) ?_
        exact a_11
    · rename_i a_12 a_13 a_14
      have h_15 : Same 34359741068 s a_13 := by
        refine SameO.some ?_ a_14
        refine SameO.pass (t1Fit_same ..) ?_
        exact Same.refl _ _
      extract_lets +onlyGivenNames x_16
      have h_17 : Same 34359741068 s x_16 := by
        subst x_16
        refine Same.step (groupNote_same ..) ?_
        refine Same.step (markDirty_same ..) ?_
        refine Same.step (setHot_same ..) ?_
        refine Same.step (farOp_same ..) ?_
        exact h_15
      clear_value x_16
      extract_lets +onlyGivenNames x_18
      have h_19 : Same 34359741068 s x_18 := by
        subst x_18
        refine Same.ite0 ?_ ?_
        · refine Same.step (bumpBy_same ..) ?_
          exact h_17
        · exact h_17
      clear_value x_18
      extract_lets +onlyGivenNames x_20
      have h_21 : Same 34359741068 s x_20 := by
        subst x_20
        refine Same.foldl _ ?_ ?_
        · exact h_19
        · intro a_22 a_23 a_24
          refine Same.step (dropWait_same ..) ?_
          exact a_24
      clear_value x_20
      refine Same.step (Same.set_coh ..) ?_
      exact h_21

theorem farRead_same (s : State) (line : Nat) (h : Hot) (r : Req) (c : CmpKind) : Same 140 s (farRead s line h r c) := by
  have h0 := Same.refl 140 s
  unfold farRead
  refine Same.step (completeReq_same ..) ?_
  refine Same.step (farOp_same ..) ?_
  refine Same.step (dropWait_same ..) ?_
  exact Same.refl _ _

theorem farGrant_same (s : State) (line : Nat) (h : Hot) (r : Req) : Same 652 s (farGrant s line h r) := by
  have h0 := Same.refl 652 s
  unfold farGrant
  refine Same.ite0 ?_ ?_
  · refine Same.step (leaveFar_same ..) ?_
    exact Same.refl _ _
  · refine Same.step (farRead_same ..) ?_
    exact Same.refl _ _

theorem farWrite_same (s : State) (line : Nat) (h : Hot) (r : Req) (d : Line) (poison : Bool) : Same 34359741068 s (farWrite s line h r d poison) := by
  have h0 := Same.refl 34359741068 s
  unfold farWrite
  split
  · rename_i a_1 a_2
    refine Same.step (refuseQuota_same ..) ?_
    refine Same.step (bump_same ..) ?_
    refine Same.step (dropWait_same ..) ?_
    exact Same.refl _ _
  · rename_i a_3 a_4 a_5
    have h_6 : Same 34359741068 s a_4 := by
      refine SameO.some ?_ a_5
      refine SameO.pass (t1Fit_same ..) ?_
      exact Same.refl _ _
    refine Same.step (completeReq_same ..) ?_
    refine Same.step (markDirty_same ..) ?_
    refine Same.step (setHot_same ..) ?_
    refine Same.step (farOp_same ..) ?_
    refine Same.step (dropWait_same ..) ?_
    exact h_6

theorem farServe_same (s : State) (line : Nat) (h : Hot) (r : Req) : Same 2594160250508 s (farServe s line h r) := by
  have h0 := Same.refl 2594160250508 s
  unfold farServe
  split
  · rename_i a_1 a_2
    refine Same.step (farRead_same ..) ?_
    exact Same.refl _ _
  · rename_i a_3 a_4
    refine Same.step (farGrant_same ..) ?_
    exact Same.refl _ _
  · rename_i a_5 a_6
    refine Same.step (farGrant_same ..) ?_
    exact Same.refl _ _
  · rename_i a_7 a_8
    unfold farChange
    dsimp -zeta -zetaHave only
    split
    · rename_i a_9 a_10
      refine Same.step (refuseQuota_same ..) ?_
      refine Same.step (dropWait_same ..) ?_
      exact Same.refl _ _
    · rename_i a_11 a_12 a_13
      have h_14 : Same 2594160250508 s a_12 := by
        refine SameO.of (o := readySt _) ?_ (congrArg readySt a_13)
        refine SameO.pass (writeReady_same ..) ?_
        exact Same.refl _ _
      exact h_14
    · rename_i a_15 a_16 a_17
      have h_18 : Same 2594160250508 s a_16 := by
        refine SameO.of (o := readySt _) ?_ (congrArg readySt a_17)
        refine SameO.pass (writeReady_same ..) ?_
        exact Same.refl _ _
      split
      · rename_i a_19 a_20 a_21
        refine Same.step (farWrite_same ..) ?_
        exact h_18
      · rename_i a_22 a_23
        exact h_18
  · rename_i a_24 a_25
    unfold farChange
    dsimp -zeta -zetaHave only
    split
    · rename_i a_26 a_27
      refine Same.step (refuseQuota_same ..) ?_
      refine Same.step (dropWait_same ..) ?_
      exact Same.refl _ _
    · rename_i a_28 a_29 a_30
      have h_31 : Same 2594160250508 s a_29 := by
        refine SameO.of (o := readySt _) ?_ (congrArg readySt a_30)
        refine SameO.pass (writeReady_same ..) ?_
        exact Same.refl _ _
      exact h_31
    · rename_i a_32 a_33 a_34
      have h_35 : Same 2594160250508 s a_33 := by
        refine SameO.of (o := readySt _) ?_ (congrArg readySt a_34)
        refine SameO.pass (writeReady_same ..) ?_
        exact Same.refl _ _
      split
      · rename_i a_36 a_37 a_38
        refine Same.step (farWrite_same ..) ?_
        exact h_35
      · rename_i a_39 a_40
        exact h_35
  · rename_i a_41 a_42 a_43 a_44 a_45 a_46
    split
    · rename_i a_47 a_48 a_49
      have h_50 : Same 2594160250508 s a_48 := by
        refine SameO.some ?_ a_49
        refine SameO.pass (atomAnswer_same ..) ?_
        exact Same.refl _ _
      refine Same.step (dropWait_same ..) ?_
      exact h_50
    · rename_i a_51 a_52
      unfold farChange
      dsimp -zeta -zetaHave only
      split
      · rename_i a_53 a_54
        refine Same.step (refuseQuota_same ..) ?_
        refine Same.step (dropWait_same ..) ?_
        exact Same.refl _ _
      · rename_i a_55 a_56 a_57
        have h_58 : Same 2594160250508 s a_56 := by
          refine SameO.of (o := readySt _) ?_ (congrArg readySt a_57)
          refine SameO.pass (writeReady_same ..) ?_
          exact Same.refl _ _
        exact h_58
      · rename_i a_59 a_60 a_61
        have h_62 : Same 2594160250508 s a_60 := by
          refine SameO.of (o := readySt _) ?_ (congrArg readySt a_61)
          refine SameO.pass (writeReady_same ..) ?_
          exact Same.refl _ _
        split
        · rename_i a_63 a_64 a_65
          refine Same.step (farAtoms_same ..) ?_
          exact h_62
        · rename_i a_66 a_67
          exact h_62

theorem execFarLineOp_same (off : PoolOff) (s : State) : SameO 2594160250508 s (outSt (execFarLineOp off s)) := by
  have h0 := Same.refl 2594160250508 s
  unfold execFarLineOp
  extract_lets +onlyGivenNames x_1
  split
  · rename_i a_2 a_3
    refine SameO.out_next ?_
    exact Same.refl _ _
  · rename_i a_4 a_5 a_6
    extract_lets +onlyGivenNames x_7
    clear_value x_7
    split
    · rename_i a_8
      refine SameO.out_next ?_
      exact Same.refl _ _
    · rename_i a_9 a_10 a_11
      refine SameO.ite (f := outSt) ?_ ?_
      · refine SameO.out_next ?_
        exact Same.refl _ _
      · extract_lets +onlyGivenNames x_12
        refine SameO.ite (f := outSt) ?_ ?_
        · refine SameO.out_next ?_
          unfold farChange
          dsimp -zeta -zetaHave only
          split
          · rename_i a_13 a_14
            refine Same.step (refuseQuota_same ..) ?_
            refine Same.step (dropWait_same ..) ?_
            exact Same.refl _ _
          · rename_i a_15 a_16 a_17
            have h_18 : Same 2594160250508 s a_16 := by
              refine SameO.of (o := readySt _) ?_ (congrArg readySt a_17)
              refine SameO.pass (writeReady_same ..) ?_
              exact Same.refl _ _
            exact h_18
          · rename_i a_19 a_20 a_21
            have h_22 : Same 2594160250508 s a_20 := by
              refine SameO.of (o := readySt _) ?_ (congrArg readySt a_21)
              refine SameO.pass (writeReady_same ..) ?_
              exact Same.refl _ _
            split
            · rename_i a_23 a_24 a_25
              refine Same.step (farAtoms_same ..) ?_
              exact h_22
            · rename_i a_26 a_27
              exact h_22
        · refine SameO.out_next ?_
          refine Same.step (farServe_same ..) ?_
          exact Same.refl _ _

theorem execFarQuietExpire_same (off : PoolOff) (s : State) : SameO 516 s (outSt (execFarQuietExpire off s)) := by
  have h0 := Same.refl 516 s
  unfold execFarQuietExpire
  extract_lets +onlyGivenNames x_1
  split
  · rename_i a_2 a_3
    refine SameO.out_next ?_
    exact Same.refl _ _
  · rename_i a_4 a_5 a_6
    refine SameO.ite (f := outSt) ?_ ?_
    · refine SameO.out_next ?_
      refine Same.step (leaveFar_same ..) ?_
      exact Same.refl _ _
    · refine SameO.out_next ?_
      exact Same.refl _ _

theorem execReplayEntryFree_same (part : PartId) (s : State) : SameO 2594161430156 s (outSt (execReplayEntryFree part s)) := by
  have h0 := Same.refl 2594161430156 s
  unfold execReplayEntryFree
  split
  · rename_i a_1 a_2
    refine SameO.out_next ?_
    exact Same.refl _ _
  · rename_i a_3 a_4 a_5
    refine SameO.ite (f := outSt) ?_ ?_
    · refine SameO.out_next ?_
      exact Same.refl _ _
    · refine SameO.out_next ?_
      refine Same.step (takeInbox_same ..) ?_
      refine Same.step (Same.set_atm ..) ?_
      exact Same.refl _ _

end Sys2Proof.Machine
end

