-- ==== Sys2Proof/Laws/KeepSettle.lean ====
section
/-! SUPPORT. What each operation of Machine/Settle.lean leaves alone: the parts it may write, as a number, and all else kept. -/

set_option linter.unusedVariables false

namespace Sys2Proof.Machine

set_option Elab.async false

theorem putWords_same (s : State) (b1 : Nat) (b2 : List Word) : Same 4 s (putWords s b1 b2) := by
  induction b2 generalizing s b1
  · have h_1 := Same.refl 4 s
    unfold putWords
    exact Same.refl _ _
  · rename_i i_2 i_3 i_4
    have h_5 := Same.refl 4 s
    unfold putWords
    refine Same.step (i_4 ..) ?_
    refine Same.step (regSet_same ..) ?_
    exact Same.refl _ _

theorem answer_same (s : State) (st : Status) (data : List Word) : Same 8388620 s (answer s st data) := by
  have h0 := Same.refl 8388620 s
  unfold answer
  extract_lets +onlyGivenNames x_1
  extract_lets +onlyGivenNames x_2
  extract_lets +onlyGivenNames x_3
  have h_4 : Same 8388620 s x_3 := by
    subst x_3
    refine Same.step (putWords_same ..) ?_
    exact Same.refl _ _
  clear_value x_3
  extract_lets +onlyGivenNames x_5
  extract_lets +onlyGivenNames x_6
  have h_7 : Same 8388620 s x_6 := by
    subst x_6
    refine Same.step (bump_same ..) ?_
    refine Same.step (setBit_same ..) ?_
    refine Same.step (Same.set_settle ..) ?_
    exact h_4
  clear_value x_6
  refine Same.ite0 ?_ ?_
  · refine Same.step (msix_same ..) ?_
    exact h_7
  · exact h_7

theorem settleErr_same (s : State) (bit : Nat) : Same 4 s (settleErr s bit) := by
  have h0 := Same.refl 4 s
  unfold settleErr
  refine Same.step (setBit_same ..) ?_
  exact Same.refl _ _

theorem putModule_same (s : State) (m : PModule) : Same 8388608 s (putModule s m) := by
  have h0 := Same.refl 8388608 s
  unfold putModule
  refine Same.step (Same.set_settle ..) ?_
  exact Same.refl _ _

theorem stopModule_same (s : State) (m : PModule) (fault : Nat) : Same 8388612 s (stopModule s m fault) := by
  have h0 := Same.refl 8388612 s
  unfold stopModule
  refine Same.step (bump_same ..) ?_
  refine Same.step (settleErr_same ..) ?_
  refine Same.step (putModule_same ..) ?_
  exact Same.refl _ _

theorem endQuantum_same (s : State) (slot : Nat) : Same 8388614 s (endQuantum s slot) := by
  have h0 := Same.refl 8388614 s
  unfold endQuantum
  split
  · rename_i a_1 a_2
    exact Same.refl _ _
  · rename_i a_3 a_4 a_5
    split
    · rename_i a_6 a_7 a_8 a_9
      have h_10 : Same 8388614 s a_8 := by
        refine Same.of2 ?_ a_9
        refine Same.step (draw_same ..) ?_
        exact Same.refl _ _
      extract_lets +onlyGivenNames x_11
      refine Same.ite0 ?_ ?_
      · exact h_10
      · refine Same.ite0 ?_ ?_
        · refine Same.step (stopModule_same ..) ?_
          exact h_10
        · refine Same.ite0 ?_ ?_
          · refine Same.step (stopModule_same ..) ?_
            exact h_10
          · refine Same.step (putModule_same ..) ?_
            exact h_10

theorem setSettle_same (s : State) (x : SettleSt) : Same 8388608 s (setSettle s x) := by
  have h0 := Same.refl 8388608 s
  unfold setSettle
  refine Same.step (Same.set_settle ..) ?_
  exact Same.refl _ _

theorem resetSettle_same (s : State) : Same 12582912 s (resetSettle s) := by
  have h0 := Same.refl 12582912 s
  unfold resetSettle
  extract_lets +onlyGivenNames x_1
  extract_lets +onlyGivenNames x_2
  have h_3 : Same 12582912 s x_2 := by
    subst x_2
    refine Same.ite0 ?_ ?_
    · refine Same.step (setSettle_same ..) ?_
      exact Same.refl _ _
    · exact Same.refl _ _
  clear_value x_2
  refine Same.step (Same.set_sys ..) ?_
  exact h_3

theorem execGetInfo_same (s : State) : SameO 8388620 s (outSt (execGetInfo s)) := by
  have h0 := Same.refl 8388620 s
  unfold execGetInfo
  unfold mailbox
  dsimp -zeta -zetaHave only
  refine SameO.out_next ?_
  refine Same.ite0 ?_ ?_
  · extract_lets +onlyGivenNames x_1
    refine Same.step (answer_same ..) ?_
    exact Same.refl _ _
  · exact Same.refl _ _

theorem execImageActivate_same (s : State) : SameO 8388620 s (outSt (execImageActivate s)) := by
  have h0 := Same.refl 8388620 s
  unfold execImageActivate
  unfold mailbox
  dsimp -zeta -zetaHave only
  refine SameO.out_next ?_
  refine Same.ite0 ?_ ?_
  · refine Same.ite0 ?_ ?_
    · refine Same.step (answer_same ..) ?_
      exact Same.refl _ _
    · refine Same.step (answer_same ..) ?_
      refine Same.step (Same.set_settle ..) ?_
      exact Same.refl _ _
  · exact Same.refl _ _

theorem imageRecord_same (s : State) (kind : Nat) (bit : Nat) (atStart : Bool) : Same 10485804 s (imageRecord s kind bit atStart) := by
  have h0 := Same.refl 10485804 s
  unfold imageRecord
  extract_lets +onlyGivenNames x_1
  have h_2 : Same 10485804 s x_1 := by
    subst x_1
    refine Same.ite0 ?_ ?_
    · exact Same.refl _ _
    · refine Same.step (settleErr_same ..) ?_
      exact Same.refl _ _
  clear_value x_1
  extract_lets +onlyGivenNames x_3
  extract_lets +onlyGivenNames x_4
  have h_5 : Same 10485804 s x_4 := by
    subst x_4
    refine Same.ite0 ?_ ?_
    · refine Same.step (settleErr_same ..) ?_
      refine Same.step (Same.set_settle ..) ?_
      exact h_2
    · exact h_2
  clear_value x_4
  extract_lets +onlyGivenNames x_6
  refine Same.step (logEvent_same ..) ?_
  exact h_5

theorem lateAlerts_same (s : State) : Same 534740144044 s (lateAlerts s) := by
  have h0 := Same.refl 534740144044 s
  unfold lateAlerts
  extract_lets +onlyGivenNames x_1
  refine Same.foldl _ ?_ ?_
  · refine Same.step (Same.set_sys ..) ?_
    exact Same.refl _ _
  · intro a_2 a_3 a_4
    refine Same.step (alertFence_same ..) ?_
    exact a_4

theorem startNimpa_same (s : State) (img : FwImage) : Same 534740176812 s (startNimpa s img) := by
  have h0 := Same.refl 534740176812 s
  unfold startNimpa
  extract_lets +onlyGivenNames x_1
  extract_lets +onlyGivenNames x_2
  extract_lets +onlyGivenNames x_3
  extract_lets +onlyGivenNames x_4
  have h_5 : Same 534740176812 s x_4 := by
    subst x_4
    refine Same.step (Same.set_trs_settle ..) ?_
    exact Same.refl _ _
  refine Same.ite0 ?_ ?_
  · refine Same.step (Same.set_sys ..) ?_
    exact h_5
  · refine Same.step (lateAlerts_same ..) ?_
    exact h_5

theorem execImageLoad_same (r : HostRead) (s : State) : SameO 534740176812 s (outSt (execImageLoad r s)) := by
  have h0 := Same.refl 534740176812 s
  unfold execImageLoad
  unfold mailbox
  dsimp -zeta -zetaHave only
  refine SameO.out_next ?_
  refine Same.ite0 ?_ ?_
  · extract_lets +onlyGivenNames x_1
    refine Same.ite0 ?_ ?_
    · exact Same.refl _ _
    · refine Same.ite0 ?_ ?_
      · refine Same.step (answer_same ..) ?_
        exact Same.refl _ _
      · split
        · rename_i a_2 a_3
          split
          · rename_i a_4 a_5 a_6 a_7
            refine Same.step (answer_same ..) ?_
            refine Same.step (imageRecord_same ..) ?_
            exact Same.refl _ _
          · rename_i a_8 a_9
            extract_lets +onlyGivenNames x_10
            refine Same.ite0 ?_ ?_
            · refine Same.step (answer_same ..) ?_
              refine Same.step (Same.set_settle ..) ?_
              exact Same.refl _ _
            · refine Same.step (answer_same ..) ?_
              refine Same.step (startNimpa_same ..) ?_
              exact Same.refl _ _
        · rename_i a_11 a_12
          refine Same.step (answer_same ..) ?_
          refine Same.ite0 ?_ ?_
          · exact Same.refl _ _
          · refine Same.step (settleErr_same ..) ?_
            refine Same.step (Same.set_settle ..) ?_
            exact Same.refl _ _
  · exact Same.refl _ _

theorem execPmKeySet_same (s : State) : SameO 8388620 s (outSt (execPmKeySet s)) := by
  have h0 := Same.refl 8388620 s
  unfold execPmKeySet
  unfold mailbox
  dsimp -zeta -zetaHave only
  refine SameO.out_next ?_
  refine Same.ite0 ?_ ?_
  · extract_lets +onlyGivenNames x_1
    extract_lets +onlyGivenNames x_2
    refine Same.ite0 ?_ ?_
    · refine Same.step (answer_same ..) ?_
      exact Same.refl _ _
    · refine Same.step (answer_same ..) ?_
      refine Same.step (Same.set_settle ..) ?_
      exact Same.refl _ _
  · exact Same.refl _ _

theorem execPmLoad_same (r : HostRead) (s : State) : SameO 10485804 s (outSt (execPmLoad r s)) := by
  have h0 := Same.refl 10485804 s
  unfold execPmLoad
  unfold mailbox
  dsimp -zeta -zetaHave only
  refine SameO.out_next ?_
  refine Same.ite0 ?_ ?_
  · extract_lets +onlyGivenNames x_1
    extract_lets +onlyGivenNames x_2
    split
    · rename_i a_3 a_4 a_5
      refine Same.step (answer_same ..) ?_
      exact Same.refl _ _
    · rename_i a_6 a_7
      split
      · rename_i a_8 a_9
        split
        · rename_i a_10 a_11 a_12 a_13
          refine Same.step (answer_same ..) ?_
          refine Same.step (imageRecord_same ..) ?_
          exact Same.refl _ _
        · rename_i a_14 a_15
          extract_lets +onlyGivenNames x_16
          extract_lets +onlyGivenNames x_17
          refine Same.step (answer_same ..) ?_
          refine Same.step (putModule_same ..) ?_
          exact Same.refl _ _
      · rename_i a_18 a_19
        refine Same.step (answer_same ..) ?_
        exact Same.refl _ _
  · exact Same.refl _ _

theorem execPmQuantumTick_same (core : Fin 36) (s : State) : SameO 8388614 s (outSt (execPmQuantumTick core s)) := by
  have h0 := Same.refl 8388614 s
  unfold execPmQuantumTick
  split
  · rename_i a_1 a_2 a_3
    refine SameO.ite (f := outSt) ?_ ?_
    · refine SameO.out_next ?_
      exact Same.refl _ _
    · extract_lets +onlyGivenNames x_4
      have h_5 : Same 8388614 s x_4 := by
        subst x_4
        split
        · rename_i a_6 a_7 a_8
          refine Same.step (endQuantum_same ..) ?_
          exact Same.refl _ _
        · rename_i a_9 a_10
          exact Same.refl _ _
      clear_value x_4
      split
      · rename_i a_11 a_12 a_13
        refine SameO.out_next ?_
        refine Same.step (Same.set_settle ..) ?_
        exact h_5
      · rename_i a_14 a_15
        refine SameO.out_next ?_
        refine Same.step (Same.set_settle ..) ?_
        exact h_5
  · rename_i a_16 a_17
    refine SameO.out_next ?_
    exact Same.refl _ _

theorem execPmQueueSubmit_same (key : Key) (desc : Line) (s : State) : SameO 2155872300 s (outSt (execPmQueueSubmit key desc s)) := by
  have h0 := Same.refl 2155872300 s
  unfold execPmQueueSubmit
  split
  · rename_i a_1 a_2
    refine SameO.out_next ?_
    exact Same.refl _ _
  · rename_i a_3 a_4 a_5
    refine SameO.ite (f := outSt) ?_ ?_
    · refine SameO.out_next ?_
      exact Same.refl _ _
    · extract_lets +onlyGivenNames x_6
      extract_lets +onlyGivenNames x_7
      have h_8 : Same 2155872300 s x_7 := by
        subst x_7
        refine Same.step (bump_same ..) ?_
        refine Same.step (putModule_same ..) ?_
        exact Same.refl _ _
      clear_value x_7
      extract_lets +onlyGivenNames x_9
      refine SameO.out_next ?_
      refine Same.step (descriptorChecks_same ..) ?_
      exact h_8

theorem execPmStatus_same (s : State) : SameO 8388620 s (outSt (execPmStatus s)) := by
  have h0 := Same.refl 8388620 s
  unfold execPmStatus
  unfold mailbox
  dsimp -zeta -zetaHave only
  refine SameO.out_next ?_
  refine Same.ite0 ?_ ?_
  · split
    · rename_i a_1 a_2
      refine Same.step (answer_same ..) ?_
      exact Same.refl _ _
    · rename_i a_3 a_4 a_5
      refine Same.step (answer_same ..) ?_
      exact Same.refl _ _
  · exact Same.refl _ _

theorem execPmUnload_same (s : State) : SameO 8388620 s (outSt (execPmUnload s)) := by
  have h0 := Same.refl 8388620 s
  unfold execPmUnload
  unfold mailbox
  dsimp -zeta -zetaHave only
  refine SameO.out_next ?_
  refine Same.ite0 ?_ ?_
  · extract_lets +onlyGivenNames x_1
    split
    · rename_i a_2 a_3
      refine Same.step (answer_same ..) ?_
      exact Same.refl _ _
    · rename_i a_4 a_5 a_6
      refine Same.ite0 ?_ ?_
      · refine Same.step (answer_same ..) ?_
        refine Same.step (Same.set_settle ..) ?_
        exact Same.refl _ _
      · refine Same.step (putModule_same ..) ?_
        exact Same.refl _ _
  · exact Same.refl _ _

theorem goMailbox_same (s : State) : Same 8388620 s (goMailbox s) := by
  have h0 := Same.refl 8388620 s
  unfold goMailbox
  refine Same.ite0 ?_ ?_
  · exact Same.refl _ _
  · extract_lets +onlyGivenNames x_1
    extract_lets +onlyGivenNames x_2
    extract_lets +onlyGivenNames x_3
    extract_lets +onlyGivenNames x_4
    have h_5 : Same 8388620 s x_4 := by
      subst x_4
      refine Same.step (Same.set_settle ..) ?_
      exact Same.refl _ _
    clear_value x_4
    refine Same.ite0 ?_ ?_
    · refine Same.step (answer_same ..) ?_
      exact h_5
    · refine Same.ite0 ?_ ?_
      · refine Same.step (answer_same ..) ?_
        exact h_5
      · refine Same.ite0 ?_ ?_
        · extract_lets +onlyGivenNames x_6
          extract_lets +onlyGivenNames x_7
          have h_8 : Same 8388620 s x_7 := by
            subst x_7
            refine Same.ite0 ?_ ?_
            · exact h_5
            · refine Same.step (Same.set_settle ..) ?_
              exact h_5
          clear_value x_7
          refine Same.step (emit_same ..) ?_
          exact h_8
        · refine Same.ite0 ?_ ?_
          · refine Same.step (emit_same ..) ?_
            exact h_5
          · exact h_5

theorem replaceCore_same (s : State) (p : Nat) (n : Nat) : Same 15728684 s (replaceCore s p n) := by
  have h0 := Same.refl 15728684 s
  unfold replaceCore
  extract_lets +onlyGivenNames x_1
  extract_lets +onlyGivenNames x_2
  have h_3 : Same 15728684 s x_2 := by
    subst x_2
    refine Same.step (setSettle_same ..) ?_
    exact Same.refl _ _
  clear_value x_2
  split
  · rename_i a_4 a_5 a_6 a_7
    extract_lets +onlyGivenNames x_8
    extract_lets +onlyGivenNames x_9
    have h_10 : Same 15728684 s x_9 := by
      subst x_9
      refine Same.step (setSettle_same ..) ?_
      exact h_3
    clear_value x_9
    refine Same.step (errorRecord_same ..) ?_
    refine Same.step (bump_same ..) ?_
    refine Same.step (settleErr_same ..) ?_
    exact h_10
  · rename_i a_11 a_12
    extract_lets +onlyGivenNames x_13
    extract_lets +onlyGivenNames x_14
    have h_15 : Same 15728684 s x_14 := by
      subst x_14
      refine Same.step (settleErr_same ..) ?_
      refine Same.step (setSettle_same ..) ?_
      exact h_3
    clear_value x_14
    extract_lets +onlyGivenNames x_16
    have h_17 : Same 15728684 s x_16 := by
      subst x_16
      refine Same.step (errorRecord_same ..) ?_
      exact h_15
    clear_value x_16
    refine Same.ite0 ?_ ?_
    · refine Same.step (deviceStop_same ..) ?_
      exact h_17
    · exact h_17

theorem retireCluster_same (s : State) (k : Nat) : Same 15728684 s (retireCluster s k) := by
  have h0 := Same.refl 15728684 s
  unfold retireCluster
  extract_lets +onlyGivenNames x_1
  extract_lets +onlyGivenNames x_2
  refine Same.ite0 ?_ ?_
  · exact Same.refl _ _
  · extract_lets +onlyGivenNames x_3
    have h_4 : Same 15728684 s x_3 := by
      subst x_3
      refine Same.step (setSettle_same ..) ?_
      exact Same.refl _ _
    clear_value x_3
    extract_lets +onlyGivenNames x_5
    have h_6 : Same 15728684 s x_5 := by
      subst x_5
      refine Same.foldl _ ?_ ?_
      · refine Same.step (settleErr_same ..) ?_
        exact h_4
      · intro a_7 a_8 a_9
        refine Same.step (errorRecord_same ..) ?_
        exact a_9
    clear_value x_5
    refine Same.ite0 ?_ ?_
    · refine Same.step (deviceStop_same ..) ?_
      exact h_6
    · exact h_6

theorem execSettleCoreFault_same (core : Fin 36) (l2 : Bool) (s : State) : SameO 15728684 s (outSt (execSettleCoreFault core l2 s)) := by
  have h0 := Same.refl 15728684 s
  unfold execSettleCoreFault
  refine SameO.ite (f := outSt) ?_ ?_
  · refine SameO.out_next ?_
    refine Same.step (retireCluster_same ..) ?_
    exact Same.refl _ _
  · split
    · rename_i a_1 a_2 a_3
      refine SameO.ite (f := outSt) ?_ ?_
      · refine SameO.out_next ?_
        refine Same.step (replaceCore_same ..) ?_
        exact Same.refl _ _
      · refine SameO.out_next ?_
        refine Same.step (bump_same ..) ?_
        refine Same.step (setSettle_same ..) ?_
        exact Same.refl _ _
    · rename_i a_4 a_5
      refine SameO.out_next ?_
      exact Same.refl _ _

theorem execSvnCommit_same (s : State) : SameO 8388620 s (outSt (execSvnCommit s)) := by
  have h0 := Same.refl 8388620 s
  unfold execSvnCommit
  unfold mailbox
  dsimp -zeta -zetaHave only
  refine SameO.out_next ?_
  refine Same.ite0 ?_ ?_
  · extract_lets +onlyGivenNames x_1
    refine Same.ite0 ?_ ?_
    · refine Same.step (answer_same ..) ?_
      refine Same.step (Same.set_settle ..) ?_
      exact Same.refl _ _
    · refine Same.step (answer_same ..) ?_
      exact Same.refl _ _
  · exact Same.refl _ _

theorem execWatchdogExpire_same (s : State) : SameO 14680108 s (outSt (execWatchdogExpire s)) := by
  have h0 := Same.refl 14680108 s
  unfold execWatchdogExpire
  refine SameO.ite (f := outSt) ?_ ?_
  · refine SameO.out_next ?_
    exact Same.refl _ _
  · extract_lets +onlyGivenNames x_1
    have h_2 : Same 14680108 s x_1 := by
      subst x_1
      refine Same.step (bump_same ..) ?_
      refine Same.step (settleErr_same ..) ?_
      exact Same.refl _ _
    clear_value x_1
    refine SameO.out_next ?_
    refine Same.step (resetSettle_same ..) ?_
    refine Same.step (logEvent_same ..) ?_
    exact h_2

theorem execWatchdogReport_same (s : State) : SameO 10485804 s (outSt (execWatchdogReport s)) := by
  have h0 := Same.refl 10485804 s
  unfold execWatchdogReport
  refine SameO.ite (f := outSt) ?_ ?_
  · refine SameO.out_next ?_
    exact Same.refl _ _
  · extract_lets +onlyGivenNames x_1
    have h_2 : Same 10485804 s x_1 := by
      subst x_1
      refine Same.foldl _ ?_ ?_
      · exact Same.refl _ _
      · intro a_3 a_4 a_5
        refine Same.step (logEvent_same ..) ?_
        exact a_5
    clear_value x_1
    refine SameO.out_next ?_
    refine Same.step (setSettle_same ..) ?_
    exact h_2

end Sys2Proof.Machine
end

