-- ==== Sys2Proof/Laws/KeepManagement.lean ====
section
/-! SUPPORT. What each operation of Machine/Management.lean leaves alone: the parts it may write, as a number, and all else kept. -/

set_option linter.unusedVariables false

namespace Sys2Proof.Machine

set_option Elab.async false

theorem accessError_same (s : State) (bit : Nat) (a : Nat) (write : Bool) : Same 4 s (accessError s bit a write) := by
  have h0 := Same.refl 4 s
  unfold accessError
  refine Same.step (regSet_same ..) ?_
  refine Same.step (setBit_same ..) ?_
  exact Same.refl _ _

theorem alertAfter_same (before : State) (s : State) : Same 8 s (alertAfter before s) := by
  have h0 := Same.refl 8 s
  unfold alertAfter
  refine Same.ite0 ?_ ?_
  · refine Same.step (emit_same ..) ?_
    exact Same.refl _ _
  · exact Same.refl _ _

theorem execBoardRead_same (off : BitVec 32) (s : State) : SameO 12 s (outSt (execBoardRead off s)) := by
  have h0 := Same.refl 12 s
  unfold execBoardRead
  extract_lets +onlyGivenNames x_1
  refine SameO.ite (f := outSt) ?_ ?_
  · refine SameO.out_next ?_
    exact Same.refl _ _
  · refine SameO.ite (f := outSt) ?_ ?_
    · refine SameO.out_next ?_
      refine Same.step (emit_same ..) ?_
      refine Same.step (bump_same ..) ?_
      exact Same.refl _ _
    · refine SameO.out_next ?_
      refine Same.step (emit_same ..) ?_
      refine Same.step (bump_same ..) ?_
      refine Same.step (bump_same ..) ?_
      exact Same.refl _ _

theorem unmask_same (s : State) (v : Nat) : Same 12 s (unmask s v) := by
  have h0 := Same.refl 12 s
  unfold unmask
  extract_lets +onlyGivenNames x_1
  have h_2 : Same 12 s x_1 := by
    subst x_1
    refine Same.step (setFld_same ..) ?_
    exact Same.refl _ _
  clear_value x_1
  extract_lets +onlyGivenNames x_3
  refine Same.ite0 ?_ ?_
  · refine Same.step (emit_same ..) ?_
    refine Same.step (setFld_same ..) ?_
    exact h_2
  · exact h_2

theorem maskCleared_same (before : State) (s : State) (a : Nat) : Same 12 s (maskCleared before s a) := by
  have h0 := Same.refl 12 s
  unfold maskCleared
  refine Same.ite0 ?_ ?_
  · refine Same.step (unmask_same ..) ?_
    exact Same.refl _ _
  · exact Same.refl _ _

theorem keyWritten_same (s : State) (a : Nat) : Same 1048576 s (keyWritten s a) := by
  have h0 := Same.refl 1048576 s
  unfold keyWritten
  extract_lets +onlyGivenNames x_1
  extract_lets +onlyGivenNames x_2
  refine Same.ite0 ?_ ?_
  · extract_lets +onlyGivenNames x_3
    refine Same.step (Same.set_link ..) ?_
    exact Same.refl _ _
  · exact Same.refl _ _

theorem sourceChanged_same (before : State) (s : State) (a : Nat) : Same 4194304 s (sourceChanged before s a) := by
  have h0 := Same.refl 4194304 s
  unfold sourceChanged
  refine Same.ite0 ?_ ?_
  · refine Same.step (Same.set_sys ..) ?_
    exact Same.refl _ _
  · exact Same.refl _ _

theorem noteOnce_same (s : State) (a : Nat) (i : RegInfo) (w : WData) : Same 64 s (noteOnce s a i w) := by
  have h0 := Same.refl 64 s
  unfold noteOnce
  extract_lets +onlyGivenNames x_1
  refine Same.step (Same.set_mgmt ..) ?_
  exact Same.refl _ _

theorem farDisabled_same (s : State) (a : Nat) : Same 516 s (farDisabled s a) := by
  have h0 := Same.refl 516 s
  unfold farDisabled
  split
  · rename_i a_1 a_2 a_3 a_4
    refine Same.ite0 ?_ ?_
    · refine Same.foldl _ ?_ ?_
      · exact Same.refl _ _
      · intro a_5 a_6 a_7
        refine Same.step (leaveFar_same ..) ?_
        exact a_7
    · exact Same.refl _ _
  · rename_i a_8 a_9
    exact Same.refl _ _

theorem watchChanged_same (before : State) (s : State) (a : Nat) : Same 524288 s (watchChanged before s a) := by
  have h0 := Same.refl 524288 s
  unfold watchChanged
  extract_lets +onlyGivenNames x_1
  extract_lets +onlyGivenNames x_2
  refine Same.ite0 ?_ ?_
  · extract_lets +onlyGivenNames x_3
    refine Same.step (Same.set_cong ..) ?_
    exact Same.refl _ _
  · exact Same.refl _ _

theorem writeReg_same (s : State) (a : Nat) (off : Nat) (w : WData) : Same 5767756 s (writeReg s a off w) := by
  have h0 := Same.refl 5767756 s
  unfold writeReg
  split
  · rename_i a_1 a_2
    exact Same.refl _ _
  · rename_i a_3 a_4 a_5
    refine Same.ite0 ?_ ?_
    · exact Same.refl _ _
    · extract_lets +onlyGivenNames x_6
      have h_7 : Same 5767756 s x_6 := by
        subst x_6
        refine Same.step (noteOnce_same ..) ?_
        refine Same.step (regSet_same ..) ?_
        exact Same.refl _ _
      clear_value x_6
      extract_lets +onlyGivenNames x_8
      have h_9 : Same 5767756 s x_8 := by
        subst x_8
        refine Same.step (alertAfter_same ..) ?_
        refine Same.step (maskCleared_same ..) ?_
        refine Same.step (sourceChanged_same ..) ?_
        refine Same.step (watchChanged_same ..) ?_
        refine Same.step (keyWritten_same ..) ?_
        refine Same.step (farDisabled_same ..) ?_
        exact h_7
      clear_value x_8
      refine Same.ite0 ?_ ?_
      · refine Same.step (accessError_same ..) ?_
        exact h_9
      · exact h_9

theorem execBoardWrite_same (off : BitVec 32) (data : Word) (s : State) : SameO 5767756 s (outSt (execBoardWrite off data s)) := by
  have h0 := Same.refl 5767756 s
  unfold execBoardWrite
  extract_lets +onlyGivenNames x_1
  refine SameO.ite (f := outSt) ?_ ?_
  · refine SameO.out_next ?_
    exact Same.refl _ _
  · extract_lets +onlyGivenNames x_2
    have h_3 : Same 5767756 s x_2 := by
      subst x_2
      refine Same.step (bump_same ..) ?_
      exact Same.refl _ _
    clear_value x_2
    refine SameO.ite (f := outSt) ?_ ?_
    · refine SameO.out_next ?_
      refine Same.step (writeReg_same ..) ?_
      exact h_3
    · refine SameO.ite (f := outSt) ?_ ?_
      · refine SameO.out_next ?_
        refine Same.step (writeReg_same ..) ?_
        exact h_3
      · refine SameO.out_next ?_
        refine Same.step (bump_same ..) ?_
        exact h_3

theorem execJtagInstruction_same (i : TapInstr) (s : State) : SameO 72 s (outSt (execJtagInstruction i s)) := by
  have h0 := Same.refl 72 s
  unfold execJtagInstruction
  extract_lets +onlyGivenNames x_1
  extract_lets +onlyGivenNames x_2
  extract_lets +onlyGivenNames x_3
  extract_lets +onlyGivenNames x_4
  have h_5 : Same 72 s x_4 := by
    subst x_4
    refine Same.step (Same.set_mgmt ..) ?_
    exact Same.refl _ _
  clear_value x_4
  refine SameO.out_next ?_
  refine Same.ite0 ?_ ?_
  · refine Same.step (emit_same ..) ?_
    exact h_5
  · exact h_5

theorem execLowWordRead_same (requester : BitVec 16) (off : BitVec 32) (s : State) : SameO 76 s (outSt (execLowWordRead requester off s)) := by
  have h0 := Same.refl 76 s
  unfold execLowWordRead
  extract_lets +onlyGivenNames x_1
  extract_lets +onlyGivenNames x_2
  extract_lets +onlyGivenNames x_3
  refine SameO.ite (f := outSt) ?_ ?_
  · exact SameO.out_fault
  · refine SameO.ite (f := outSt) ?_ ?_
    · refine SameO.out_next ?_
      exact Same.refl _ _
    · refine SameO.ite (f := outSt) ?_ ?_
      · refine SameO.out_next ?_
        refine Same.step (emit_same ..) ?_
        refine Same.step (accessError_same ..) ?_
        exact Same.refl _ _
      · refine SameO.ite (f := outSt) ?_ ?_
        · extract_lets +onlyGivenNames x_4
          extract_lets +onlyGivenNames x_5
          extract_lets +onlyGivenNames x_6
          have h_7 : Same 76 s x_6 := by
            subst x_6
            refine Same.step (Same.set_mgmt ..) ?_
            exact Same.refl _ _
          clear_value x_6
          refine SameO.out_next ?_
          refine Same.step (emit_same ..) ?_
          exact h_7
        · split
          · rename_i a_8 a_9 a_10 a_11
            refine SameO.out_next ?_
            refine Same.step (emit_same ..) ?_
            refine Same.step (Same.set_mgmt ..) ?_
            exact Same.refl _ _
          · rename_i a_12 a_13
            refine SameO.out_next ?_
            refine Same.step (emit_same ..) ?_
            exact Same.refl _ _

theorem execMsixUnmask_same (v : Fin 2048) (s : State) : SameO 12 s (outSt (execMsixUnmask v s)) := by
  have h0 := Same.refl 12 s
  unfold execMsixUnmask
  refine SameO.ite (f := outSt) ?_ ?_
  · refine SameO.out_next ?_
    refine Same.step (unmask_same ..) ?_
    exact Same.refl _ _
  · refine SameO.out_next ?_
    exact Same.refl _ _

theorem execPolicerWrite_same (p : PortId) (i : Fin 64) (w0 : Word) (w1 : Word) (s : State) : SameO 524292 s (outSt (execPolicerWrite p i w0 w1 s)) := by
  have h0 := Same.refl 524292 s
  unfold execPolicerWrite
  refine SameO.ite (f := outSt) ?_ ?_
  · refine SameO.out_next ?_
    exact Same.refl _ _
  · extract_lets +onlyGivenNames x_1
    extract_lets +onlyGivenNames x_2
    have h_3 : Same 524292 s x_2 := by
      subst x_2
      refine Same.step (regSet_same ..) ?_
      refine Same.step (regSet_same ..) ?_
      exact Same.refl _ _
    clear_value x_2
    refine SameO.out_next ?_
    refine Same.step (Same.set_cong ..) ?_
    exact h_3

theorem execPortKeyWrite_same (p : PortId) (e : Fin 64) (data : Word) (s : State) : SameO 4 s (outSt (execPortKeyWrite p e data s)) := by
  have h0 := Same.refl 4 s
  unfold execPortKeyWrite
  refine SameO.ite (f := outSt) ?_ ?_
  · refine SameO.out_next ?_
    exact Same.refl _ _
  · refine SameO.out_next ?_
    refine Same.step (regSet_same ..) ?_
    exact Same.refl _ _

theorem execRegisterWrite_same (off : BitVec 32) (bytes : Nat) (data : Word) (s : State) : SameO 14156364 s (outSt (execRegisterWrite off bytes data s)) := by
  have h0 := Same.refl 14156364 s
  unfold execRegisterWrite
  extract_lets +onlyGivenNames x_1
  refine SameO.ite (f := outSt) ?_ ?_
  · exact SameO.out_fault
  · refine SameO.ite (f := outSt) ?_ ?_
    · refine SameO.out_next ?_
      exact Same.refl _ _
    · refine SameO.ite (f := outSt) ?_ ?_
      · refine SameO.out_next ?_
        refine Same.step (accessError_same ..) ?_
        exact Same.refl _ _
      · extract_lets +onlyGivenNames x_2
        extract_lets +onlyGivenNames x_3
        have h_4 : Same 14156364 s x_3 := by
          subst x_3
          refine Same.step (writeReg_same ..) ?_
          exact Same.refl _ _
        clear_value x_3
        refine SameO.out_next ?_
        refine Same.ite0 ?_ ?_
        · refine Same.step (goMailbox_same ..) ?_
          exact h_4
        · exact h_4

theorem execServe_same (s : State) : SameO 534740144044 s (outSt (execServe s)) := by
  have h0 := Same.refl 534740144044 s
  unfold execServe
  refine SameO.ite (f := outSt) ?_ ?_
  · refine SameO.out_next ?_
    exact Same.refl _ _
  · refine SameO.ite (f := outSt) ?_ ?_
    · extract_lets +onlyGivenNames x_1
      extract_lets +onlyGivenNames x_2
      have h_3 : Same 534740144044 s x_2 := by
        subst x_2
        refine Same.foldl _ ?_ ?_
        · refine Same.step (Same.set_sys ..) ?_
          exact Same.refl _ _
        · intro a_4 a_5 a_6
          refine Same.step (alertFence_same ..) ?_
          exact a_6
      clear_value x_2
      refine SameO.out_next ?_
      refine Same.foldl _ ?_ ?_
      · exact h_3
      · intro a_7 a_8 a_9
        refine Same.step (startPort_same ..) ?_
        exact a_9
    · refine SameO.out_next ?_
      refine Same.step (setBit_same ..) ?_
      exact Same.refl _ _

theorem execSetupOpenClose_same (off : BitVec 32) (data : Word) (s : State) : SameO 37383401112428 s (outSt (execSetupOpenClose off data s)) := by
  have h0 := Same.refl 37383401112428 s
  unfold execSetupOpenClose
  extract_lets +onlyGivenNames x_1
  refine SameO.ite (f := outSt) ?_ ?_
  · exact SameO.out_fault
  · extract_lets +onlyGivenNames x_2
    split
    · rename_i a_3 a_4
      refine SameO.out_next ?_
      exact Same.refl _ _
    · rename_i a_5 a_6 a_7 a_8
      refine SameO.ite (f := outSt) ?_ ?_
      · refine SameO.out_next ?_
        exact Same.refl _ _
      · extract_lets +onlyGivenNames x_9
        have h_10 : Same 37383401112428 s x_9 := by
          subst x_9
          refine Same.step (setFld_same ..) ?_
          refine Same.step (writeReg_same ..) ?_
          exact Same.refl _ _
        clear_value x_9
        refine SameO.ite (f := outSt) ?_ ?_
        · extract_lets +onlyGivenNames x_11
          refine SameO.out_next ?_
          refine Same.step (startPort_same ..) ?_
          refine Same.step (startPort_same ..) ?_
          refine Same.step (retireOdd_same ..) ?_
          exact h_10
        · refine SameO.out_next ?_
          exact h_10

theorem execTenantCtlWrite_same (t : Fin 4096) (data : Word) (s : State) : SameO 33554432 s (outSt (execTenantCtlWrite t data s)) := by
  have h0 := Same.refl 33554432 s
  unfold execTenantCtlWrite
  refine SameO.ite (f := outSt) ?_ ?_
  · refine SameO.out_next ?_
    exact Same.refl _ _
  · refine SameO.out_next ?_
    refine Same.step (Same.set_pool_tenants ..) ?_
    exact Same.refl _ _

theorem execWredProfileWrite_same (map : Option PortId) (i : Fin 16) (data : Word) (s : State) : SameO 4 s (outSt (execWredProfileWrite map i data s)) := by
  have h0 := Same.refl 4 s
  unfold execWredProfileWrite
  refine SameO.ite (f := outSt) ?_ ?_
  · refine SameO.out_next ?_
    exact Same.refl _ _
  · split
    · rename_i a_1 a_2
      refine SameO.out_next ?_
      refine Same.step (regSet_same ..) ?_
      exact Same.refl _ _
    · rename_i a_3
      extract_lets +onlyGivenNames x_4
      extract_lets +onlyGivenNames x_5
      refine SameO.ite (f := outSt) ?_ ?_
      · refine SameO.out_next ?_
        refine Same.step (regSet_same ..) ?_
        exact Same.refl _ _
      · refine SameO.out_next ?_
        exact Same.refl _ _

end Sys2Proof.Machine
end

