-- ==== Sys2Proof/Laws/KeepObjects.lean ====
section
/-! SUPPORT. What each operation of Machine/Objects.lean leaves alone: the parts it may write, as a number, and all else kept. -/

set_option linter.unusedVariables false

namespace Sys2Proof.Machine

set_option Elab.async false

theorem objChanged_same (s : State) : Same 1024 s (objChanged s) := by
  have h0 := Same.refl 1024 s
  unfold objChanged
  refine Same.step (Same.set_obj ..) ?_
  exact Same.refl _ _

theorem setDrawer_same (s : State) (i : Nat) (d : Drawer) : Same 1024 s (setDrawer s i d) := by
  have h0 := Same.refl 1024 s
  unfold setDrawer
  refine Same.step (Same.set_obj ..) ?_
  exact Same.refl _ _

theorem staleAccepts_same (s : State) (i : Nat) : Same 1068 s (staleAccepts s i) := by
  have h0 := Same.refl 1068 s
  unfold staleAccepts
  extract_lets +onlyGivenNames x_1
  refine Same.foldl _ ?_ ?_
  · refine Same.step (setDrawer_same ..) ?_
    exact Same.refl _ _
  · intro a_2 a_3 a_4
    refine Same.ite0 ?_ ?_
    · refine Same.step (commit_same ..) ?_
      refine Same.step (bump_same ..) ?_
      exact a_4
    · exact a_4

theorem acceptDone_same (s : State) (i : Nat) (h : Nat) : Same 1068 s (acceptDone s i h) := by
  have h0 := Same.refl 1068 s
  unfold acceptDone
  extract_lets +onlyGivenNames x_1
  split
  · rename_i a_2 a_3
    exact Same.refl _ _
  · rename_i a_4 a_5 a_6
    extract_lets +onlyGivenNames x_7
    have h_8 : Same 1068 s x_7 := by
      subst x_7
      refine Same.step (objChanged_same ..) ?_
      refine Same.step (setDrawer_same ..) ?_
      exact Same.refl _ _
    clear_value x_7
    extract_lets +onlyGivenNames x_9
    have h_10 : Same 1068 s x_9 := by
      subst x_9
      refine Same.step (bump_same ..) ?_
      exact h_8
    clear_value x_9
    extract_lets +onlyGivenNames x_11
    have h_12 : Same 1068 s x_11 := by
      subst x_11
      refine Same.step (commit_same ..) ?_
      exact h_10
    clear_value x_11
    extract_lets +onlyGivenNames x_13
    have h_14 : Same 1068 s x_13 := by
      subst x_13
      split
      · rename_i a_15 a_16 a_17
        refine Same.step (commit_same ..) ?_
        exact h_12
      · rename_i a_18 a_19
        exact h_12
    clear_value x_13
    refine Same.step (staleAccepts_same ..) ?_
    exact h_14

theorem closeSlot_same (s : State) (i : Nat) (k : Nat) (x : Shelf) (l : Slot) (kind : RecallKind) : Same 34359762592 s (closeSlot s i k x l kind) := by
  have h0 := Same.refl 34359762592 s
  unfold closeSlot
  extract_lets +onlyGivenNames x_1
  have h_2 : Same 34359762592 s x_1 := by
    subst x_1
    refine Same.step (objChanged_same ..) ?_
    exact Same.refl _ _
  clear_value x_1
  split
  · rename_i a_3 a_4 a_5 a_6
    have h_7 : Same 34359762592 s a_5 := by
      refine Same.of2 ?_ a_6
      refine Same.step (newTag_same ..) ?_
      exact h_2
    extract_lets +onlyGivenNames x_8
    have h_9 : Same 34359762592 s x_8 := by
      subst x_8
      refine Same.step (setSlot_same ..) ?_
      exact h_7
    clear_value x_8
    extract_lets +onlyGivenNames x_10
    have h_11 : Same 34359762592 s x_10 := by
      subst x_10
      refine Same.step (queueRecalls_same ..) ?_
      exact h_9
    clear_value x_10
    refine Same.step (releasePlaces_same ..) ?_
    refine Same.step (leaveRange_same ..) ?_
    exact h_11

theorem dropCachedRange_same (s : State) (lo : Nat) (hi : Nat) : Same 8796093022208 s (dropCachedRange s lo hi) := by
  have h0 := Same.refl 8796093022208 s
  unfold dropCachedRange
  refine Same.step (Same.set_pool_xlate ..) ?_
  exact Same.refl _ _

theorem mapSlot_same (s : State) (x : Shelf) (k : Nat) (list : Tbl Nat) : Same 8813272891392 s (mapSlot s x k list) := by
  have h0 := Same.refl 8813272891392 s
  unfold mapSlot
  extract_lets +onlyGivenNames x_1
  have h_2 : Same 8813272891392 s x_1 := by
    subst x_1
    refine Same.foldl _ ?_ ?_
    · exact Same.refl _ _
    · intro a_3 a_4 a_5
      refine Same.step (setPage_same ..) ?_
      exact a_5
  clear_value x_1
  refine Same.step (dropCachedRange_same ..) ?_
  exact h_2

theorem commitPublish_same (s : State) (h : Nat) (i : Nat) (x : Shelf) (q : Publish) : Same 8813272892588 s (commitPublish s h i x q) := by
  have h0 := Same.refl 8813272892588 s
  unfold commitPublish
  extract_lets +onlyGivenNames x_1
  extract_lets +onlyGivenNames x_2
  extract_lets +onlyGivenNames x_3
  extract_lets +onlyGivenNames x_4
  extract_lets +onlyGivenNames x_5
  extract_lets +onlyGivenNames x_6
  have h_7 : Same 8813272892588 s x_6 := by
    subst x_6
    refine Same.step (mapSlot_same ..) ?_
    refine Same.step (objChanged_same ..) ?_
    refine Same.step (setShelf_same ..) ?_
    exact Same.refl _ _
  clear_value x_6
  extract_lets +onlyGivenNames x_8
  have h_9 : Same 8813272892588 s x_8 := by
    subst x_8
    refine Same.step (bump_same ..) ?_
    refine Same.step (dropStat_same ..) ?_
    exact h_7
  clear_value x_8
  extract_lets +onlyGivenNames x_10
  have h_11 : Same 8813272892588 s x_10 := by
    subst x_10
    refine Same.ite0 ?_ ?_
    · refine Same.step (bump_same ..) ?_
      exact h_9
    · exact h_9
  clear_value x_10
  refine Same.step (commit_same ..) ?_
  exact h_11

theorem drawerReturn_same (s : State) (i : Nat) : Same 1068 s (drawerReturn s i) := by
  have h0 := Same.refl 1068 s
  unfold drawerReturn
  extract_lets +onlyGivenNames x_1
  refine Same.step (staleAccepts_same ..) ?_
  refine Same.step (objChanged_same ..) ?_
  refine Same.step (setDrawer_same ..) ?_
  exact Same.refl _ _

theorem unpublish_same (s : State) (i : Nat) (x : Shelf) (q : Publish) : Same 1024 s (unpublish s i x q) := by
  have h0 := Same.refl 1024 s
  unfold unpublish
  refine Same.step (objChanged_same ..) ?_
  refine Same.step (setShelf_same ..) ?_
  exact Same.refl _ _

theorem passPin_same (s : State) (src : Nat) (dst : Nat) : Same 34359738368 s (passPin s src dst) := by
  have h0 := Same.refl 34359738368 s
  unfold passPin
  split
  · rename_i a_1 a_2 a_3 a_4 a_5 a_6
    refine Same.ite0 ?_ ?_
    · refine Same.step (setBack_same ..) ?_
      exact Same.refl _ _
    · exact Same.refl _ _
  · rename_i a_7 a_8 a_9
    exact Same.refl _ _

theorem execCowCopyDone_same (page : BitVec 32) (s : State) : SameO 11527693405836 s (outSt (execCowCopyDone page s)) := by
  have h0 := Same.refl 11527693405836 s
  unfold execCowCopyDone
  split
  · rename_i a_1 a_2
    refine SameO.out_next ?_
    exact Same.refl _ _
  · rename_i a_3 a_4 a_5
    extract_lets +onlyGivenNames x_6
    have h_7 : Same 11527693405836 s x_6 := by
      subst x_6
      split
      · rename_i a_8 a_9 a_10
        refine Same.step (copyBack_same ..) ?_
        exact Same.refl _ _
      · rename_i a_11 a_12
        exact Same.refl _ _
    clear_value x_6
    extract_lets +onlyGivenNames x_13
    extract_lets +onlyGivenNames x_14
    have h_15 : Same 11527693405836 s x_14 := by
      subst x_14
      refine Same.step (Same.set_obj ..) ?_
      exact h_7
    clear_value x_14
    extract_lets +onlyGivenNames x_16
    extract_lets +onlyGivenNames x_17
    have h_18 : Same 11527693405836 s x_17 := by
      subst x_17
      refine Same.step (Same.set_obj ..) ?_
      exact h_15
    clear_value x_17
    extract_lets +onlyGivenNames x_19
    have h_20 : Same 11527693405836 s x_19 := by
      subst x_19
      refine Same.step (fitPage_same ..) ?_
      refine Same.step (dropCached_same ..) ?_
      refine Same.step (setPage_same ..) ?_
      refine Same.step (bump_same ..) ?_
      exact h_18
    clear_value x_19
    extract_lets +onlyGivenNames x_21
    have h_22 : Same 11527693405836 s x_21 := by
      subst x_21
      split
      · rename_i a_23 a_24 a_25
        refine Same.step (passPin_same ..) ?_
        exact h_20
      · rename_i a_26 a_27
        exact h_20
    clear_value x_21
    extract_lets +onlyGivenNames x_28
    refine SameO.out_next ?_
    refine Same.foldl _ ?_ ?_
    · exact h_22
    · intro a_29 a_30 a_31
      refine Same.step (takeUp_same ..) ?_
      exact a_31

theorem openDone_same (s : State) (h : Nat) (x : Shelf) (k : Nat) (v : Nat) : SameO 44 s (outSt (openDone s h x k v)) := by
  have h0 := Same.refl 44 s
  unfold openDone
  refine SameO.out_next ?_
  refine Same.step (commit_same ..) ?_
  exact Same.refl _ _

theorem openFail_same (s : State) (h : Nat) (x : Shelf) (st : Status) : SameO 44 s (outSt (openFail s h x st)) := by
  have h0 := Same.refl 44 s
  unfold openFail
  refine SameO.out_next ?_
  refine Same.step (commit_same ..) ?_
  exact Same.refl _ _

theorem execDraftBegin_same (h : HRef) (s : State) : SameO 8813272892460 s (outSt (execDraftBegin h s)) := by
  have h0 := Same.refl 8813272892460 s
  unfold execDraftBegin
  split
  · rename_i a_1 a_2
    refine SameO.out_next ?_
    exact Same.refl _ _
  · rename_i a_3 a_4 a_5
    refine SameO.ite (f := outSt) ?_ ?_
    · refine SameO.out_next ?_
      refine Same.step (badDesc_same ..) ?_
      exact Same.refl _ _
    · split
      · rename_i a_6 a_7
        refine SameO.out_next ?_
        refine Same.step (commit_same ..) ?_
        exact Same.refl _ _
      · rename_i a_8 a_9 a_10 a_11
        refine SameO.ite (f := outSt) ?_ ?_
        · refine SameO.out_next ?_
          refine Same.step (commit_same ..) ?_
          exact Same.refl _ _
        · split
          · rename_i a_12 a_13 a_14
            refine SameO.pass (openFail_same ..) ?_
            exact Same.refl _ _
          · rename_i a_15 a_16 a_17
            split
            · rename_i a_18 a_19
              refine SameO.pass (openFail_same ..) ?_
              exact Same.refl _ _
            · rename_i a_20 a_21 a_22
              refine SameO.ite (f := outSt) ?_ ?_
              · extract_lets +onlyGivenNames x_23
                refine SameO.pass (openDone_same ..) ?_
                refine Same.step (mapSlot_same ..) ?_
                refine Same.step (objChanged_same ..) ?_
                refine Same.step (setSlot_same ..) ?_
                exact Same.refl _ _
              · refine SameO.pass (openFail_same ..) ?_
                exact Same.refl _ _

theorem failWith_same (s : State) (h : Nat) (e : EntryErr) : SameO 44 s (outSt (failWith s h e)) := by
  have h0 := Same.refl 44 s
  unfold failWith
  split
  · rename_i a_1 a_2
    refine SameO.out_next ?_
    refine Same.step (badDesc_same ..) ?_
    exact Same.refl _ _
  · rename_i a_3 a_4
    refine SameO.out_next ?_
    refine Same.step (commit_same ..) ?_
    exact Same.refl _ _

theorem execDraftDiscard_same (h : HRef) (s : State) : SameO 34359762604 s (outSt (execDraftDiscard h s)) := by
  have h0 := Same.refl 34359762604 s
  unfold execDraftDiscard
  split
  · rename_i a_1 a_2
    refine SameO.out_next ?_
    exact Same.refl _ _
  · rename_i a_3 a_4 a_5
    split
    · rename_i a_6 a_7 a_8
      refine SameO.pass (failWith_same ..) ?_
      exact Same.refl _ _
    · rename_i a_9 a_10 a_11 a_12 a_13 a_14
      refine SameO.out_next ?_
      refine Same.step (markStarted_same ..) ?_
      refine Same.step (closeSlot_same ..) ?_
      exact Same.refl _ _

theorem execDraftPublish_same (h : HRef) (s : State) : SameO 1196 s (outSt (execDraftPublish h s)) := by
  have h0 := Same.refl 1196 s
  unfold execDraftPublish
  split
  · rename_i a_1 a_2
    refine SameO.out_next ?_
    exact Same.refl _ _
  · rename_i a_3 a_4 a_5
    refine SameO.ite (f := outSt) ?_ ?_
    · refine SameO.out_next ?_
      refine Same.step (badDesc_same ..) ?_
      exact Same.refl _ _
    · split
      · rename_i a_6 a_7 a_8
        refine SameO.pass (failWith_same ..) ?_
        exact Same.refl _ _
      · rename_i a_9 a_10 a_11 a_12 a_13 a_14
        refine SameO.ite (f := outSt) ?_ ?_
        · refine SameO.out_next ?_
          refine Same.step (badDesc_same ..) ?_
          exact Same.refl _ _
        · refine SameO.ite (f := outSt) ?_ ?_
          · refine SameO.out_next ?_
            refine Same.step (commit_same ..) ?_
            exact Same.refl _ _
          · extract_lets +onlyGivenNames x_15
            have h_16 : Same 1196 s x_15 := by
              subst x_15
              refine Same.step (objChanged_same ..) ?_
              exact Same.refl _ _
            clear_value x_15
            split
            · rename_i a_17 a_18 a_19 a_20
              have h_21 : Same 1196 s a_19 := by
                refine Same.of2 ?_ a_20
                refine Same.step (newTag_same ..) ?_
                exact h_16
              extract_lets +onlyGivenNames x_22
              extract_lets +onlyGivenNames x_23
              extract_lets +onlyGivenNames x_24
              have h_25 : Same 1196 s x_24 := by
                subst x_24
                refine Same.step (queueRecalls_same ..) ?_
                refine Same.step (setShelf_same ..) ?_
                exact h_21
              clear_value x_24
              refine SameO.out_next ?_
              refine Same.step (markStarted_same ..) ?_
              exact h_25

theorem settleAbort_same (s : State) (i : Nat) : Same 1068 s (settleAbort s i) := by
  have h0 := Same.refl 1068 s
  unfold settleAbort
  extract_lets +onlyGivenNames x_1
  split
  · rename_i a_2 a_3 a_4 a_5 a_6
    refine Same.ite0 ?_ ?_
    · refine Same.step (fillRecord_same ..) ?_
      refine Same.step (drawerReturn_same ..) ?_
      exact Same.refl _ _
    · exact Same.refl _ _
  · rename_i a_7 a_8 a_9
    exact Same.refl _ _

theorem execDrawerAccept_same (h : HRef) (s : State) : SameO 1068 s (outSt (execDrawerAccept h s)) := by
  have h0 := Same.refl 1068 s
  unfold execDrawerAccept
  split
  · rename_i a_1 a_2
    refine SameO.out_next ?_
    exact Same.refl _ _
  · rename_i a_3 a_4 a_5
    split
    · rename_i a_6 a_7
      refine SameO.out_next ?_
      refine Same.step (commit_same ..) ?_
      exact Same.refl _ _
    · rename_i a_8 a_9 a_10 a_11
      extract_lets +onlyGivenNames x_12
      have h_13 : Same 1068 s x_12 := by
        subst x_12
        refine Same.step (settleAbort_same ..) ?_
        exact Same.refl _ _
      clear_value x_12
      extract_lets +onlyGivenNames x_14
      extract_lets +onlyGivenNames x_15
      refine SameO.ite (f := outSt) ?_ ?_
      · refine SameO.out_next ?_
        refine Same.step (commit_same ..) ?_
        exact h_13
      · refine SameO.ite (f := outSt) ?_ ?_
        · refine SameO.out_next ?_
          refine Same.step (commit_same ..) ?_
          refine Same.step (bump_same ..) ?_
          exact h_13
        · refine SameO.ite (f := outSt) ?_ ?_
          · refine SameO.out_next ?_
            refine Same.step (commit_same ..) ?_
            exact h_13
          · refine SameO.ite (f := outSt) ?_ ?_
            · refine SameO.out_next ?_
              refine Same.step (acceptDone_same ..) ?_
              exact h_13
            · refine SameO.out_next ?_
              refine Same.step (markStarted_same ..) ?_
              refine Same.step (setDrawer_same ..) ?_
              exact h_13

theorem execDrawerCreate_same (h : HRef) (s : State) : SameO 1068 s (outSt (execDrawerCreate h s)) := by
  have h0 := Same.refl 1068 s
  unfold execDrawerCreate
  split
  · rename_i a_1 a_2
    refine SameO.out_next ?_
    exact Same.refl _ _
  · rename_i a_3 a_4 a_5
    extract_lets +onlyGivenNames x_6
    extract_lets +onlyGivenNames x_7
    extract_lets +onlyGivenNames x_8
    refine SameO.ite (f := outSt) ?_ ?_
    · refine SameO.out_next ?_
      refine Same.step (badDesc_same ..) ?_
      exact Same.refl _ _
    · refine SameO.ite (f := outSt) ?_ ?_
      · refine SameO.out_next ?_
        refine Same.step (badDesc_same ..) ?_
        exact Same.refl _ _
      · split
        · rename_i a_9 a_10
          refine SameO.out_next ?_
          refine Same.step (commit_same ..) ?_
          exact Same.refl _ _
        · rename_i a_11 a_12 a_13
          extract_lets +onlyGivenNames x_14
          refine SameO.ite (f := outSt) ?_ ?_
          · refine SameO.out_next ?_
            refine Same.step (commit_same ..) ?_
            exact Same.refl _ _
          · refine SameO.ite (f := outSt) ?_ ?_
            · refine SameO.out_next ?_
              refine Same.step (badDesc_same ..) ?_
              exact Same.refl _ _
            · refine SameO.ite (f := outSt) ?_ ?_
              · refine SameO.out_next ?_
                refine Same.step (commit_same ..) ?_
                exact Same.refl _ _
              · extract_lets +onlyGivenNames x_15
                extract_lets +onlyGivenNames x_16
                refine SameO.out_next ?_
                refine Same.step (commit_same ..) ?_
                refine Same.step (objChanged_same ..) ?_
                refine Same.step (setDrawer_same ..) ?_
                exact Same.refl _ _

theorem leaseDone_same (s : State) (h : Nat) (i : Nat) : SameO 44 s (outSt (leaseDone s h i)) := by
  have h0 := Same.refl 44 s
  unfold leaseDone
  extract_lets +onlyGivenNames x_1
  extract_lets +onlyGivenNames x_2
  refine SameO.out_next ?_
  refine Same.step (commit_same ..) ?_
  exact Same.refl _ _

theorem ownedDrawer_same (s : State) (r : HandleRec) : SameO 1068 s (odSt (ownedDrawer s r)) := by
  have h0 := Same.refl 1068 s
  unfold ownedDrawer
  split
  · rename_i a_1 a_2
    exact SameO.od_inl
  · rename_i a_3 a_4 a_5 a_6
    extract_lets +onlyGivenNames x_7
    have h_8 : Same 1068 s x_7 := by
      subst x_7
      refine Same.step (settleAbort_same ..) ?_
      exact Same.refl _ _
    clear_value x_7
    extract_lets +onlyGivenNames x_9
    refine SameO.ite (f := odSt) ?_ ?_
    · exact SameO.od_inl
    · refine SameO.ite (f := odSt) ?_ ?_
      · exact SameO.od_inl
      · refine SameO.od_inr ?_
        exact h_8

theorem execDrawerLease_same (h : HRef) (s : State) : SameO 1068 s (outSt (execDrawerLease h s)) := by
  have h0 := Same.refl 1068 s
  unfold execDrawerLease
  split
  · rename_i a_1 a_2
    refine SameO.out_next ?_
    exact Same.refl _ _
  · rename_i a_3 a_4 a_5
    refine SameO.ite (f := outSt) ?_ ?_
    · refine SameO.out_next ?_
      exact Same.refl _ _
    · split
      · rename_i a_6 a_7 a_8
        refine SameO.out_next ?_
        refine Same.step (commit_same ..) ?_
        exact Same.refl _ _
      · rename_i a_9 a_10 a_11 a_12
        have h_13 : Same 1068 s a_11 := by
          refine SameO.of (o := odSt _) ?_ (congrArg odSt a_12)
          refine SameO.pass (ownedDrawer_same ..) ?_
          exact Same.refl _ _
        extract_lets +onlyGivenNames x_14
        refine SameO.pass (leaseDone_same ..) ?_
        refine Same.step (setDrawer_same ..) ?_
        exact h_13

theorem releaseStart_same (s : State) (i : Nat) (h : Option Nat) : Same 34359762592 s (releaseStart s i h) := by
  have h0 := Same.refl 34359762592 s
  unfold releaseStart
  extract_lets +onlyGivenNames x_1
  have h_2 : Same 34359762592 s x_1 := by
    subst x_1
    refine Same.step (objChanged_same ..) ?_
    exact Same.refl _ _
  clear_value x_1
  split
  · rename_i a_3 a_4 a_5 a_6
    have h_7 : Same 34359762592 s a_5 := by
      refine Same.of2 ?_ a_6
      refine Same.step (newTag_same ..) ?_
      exact h_2
    extract_lets +onlyGivenNames x_8
    extract_lets +onlyGivenNames x_9
    have h_10 : Same 34359762592 s x_9 := by
      subst x_9
      refine Same.step (setDrawer_same ..) ?_
      exact h_7
    clear_value x_9
    extract_lets +onlyGivenNames x_11
    have h_12 : Same 34359762592 s x_11 := by
      subst x_11
      refine Same.step (leaveRange_same ..) ?_
      refine Same.step (queueRecalls_same ..) ?_
      exact h_10
    clear_value x_11
    refine Same.step (releasePlaces_same ..) ?_
    exact h_12

theorem execDrawerLeaseExpiry_same (d : BitVec 24) (s : State) : SameO 34368151212 s (outSt (execDrawerLeaseExpiry d s)) := by
  have h0 := Same.refl 34368151212 s
  unfold execDrawerLeaseExpiry
  extract_lets +onlyGivenNames x_1
  extract_lets +onlyGivenNames x_2
  have h_3 : Same 34368151212 s x_2 := by
    subst x_2
    refine Same.step (settleAbort_same ..) ?_
    exact Same.refl _ _
  clear_value x_2
  extract_lets +onlyGivenNames x_4
  split
  · rename_i a_5 a_6
    refine SameO.out_next ?_
    exact h_3
  · rename_i a_7 a_8 a_9
    refine SameO.ite (f := outSt) ?_ ?_
    · refine SameO.out_next ?_
      refine Same.step (pmEvent_same ..) ?_
      refine Same.step (bump_same ..) ?_
      refine Same.step (releaseStart_same ..) ?_
      exact h_3
    · refine SameO.out_next ?_
      exact h_3

theorem execDrawerLeaseQuery_same (h : HRef) (s : State) : SameO 1068 s (outSt (execDrawerLeaseQuery h s)) := by
  have h0 := Same.refl 1068 s
  unfold execDrawerLeaseQuery
  split
  · rename_i a_1 a_2
    refine SameO.out_next ?_
    exact Same.refl _ _
  · rename_i a_3 a_4 a_5
    refine SameO.ite (f := outSt) ?_ ?_
    · refine SameO.out_next ?_
      exact Same.refl _ _
    · split
      · rename_i a_6 a_7
        refine SameO.out_next ?_
        refine Same.step (commit_same ..) ?_
        exact Same.refl _ _
      · rename_i a_8 a_9 a_10 a_11
        refine SameO.ite (f := outSt) ?_ ?_
        · refine SameO.out_next ?_
          refine Same.step (commit_same ..) ?_
          exact Same.refl _ _
        · refine SameO.pass (leaseDone_same ..) ?_
          refine Same.step (settleAbort_same ..) ?_
          exact Same.refl _ _

theorem execDrawerOffer_same (h : HRef) (s : State) : SameO 1196 s (outSt (execDrawerOffer h s)) := by
  have h0 := Same.refl 1196 s
  unfold execDrawerOffer
  split
  · rename_i a_1 a_2
    refine SameO.out_next ?_
    exact Same.refl _ _
  · rename_i a_3 a_4 a_5
    extract_lets +onlyGivenNames x_6
    extract_lets +onlyGivenNames x_7
    refine SameO.ite (f := outSt) ?_ ?_
    · refine SameO.out_next ?_
      refine Same.step (badDesc_same ..) ?_
      exact Same.refl _ _
    · refine SameO.ite (f := outSt) ?_ ?_
      · refine SameO.out_next ?_
        refine Same.step (badDesc_same ..) ?_
        exact Same.refl _ _
      · split
        · rename_i a_8 a_9
          refine SameO.out_next ?_
          refine Same.step (commit_same ..) ?_
          exact Same.refl _ _
        · rename_i a_10 a_11 a_12 a_13
          extract_lets +onlyGivenNames x_14
          have h_15 : Same 1196 s x_14 := by
            subst x_14
            refine Same.step (settleAbort_same ..) ?_
            exact Same.refl _ _
          clear_value x_14
          extract_lets +onlyGivenNames x_16
          extract_lets +onlyGivenNames x_17
          refine SameO.ite (f := outSt) ?_ ?_
          · refine SameO.out_next ?_
            refine Same.step (commit_same ..) ?_
            exact h_15
          · refine SameO.ite (f := outSt) ?_ ?_
            · refine SameO.out_next ?_
              refine Same.step (commit_same ..) ?_
              exact h_15
            · refine SameO.ite (f := outSt) ?_ ?_
              · refine SameO.out_next ?_
                refine Same.step (commit_same ..) ?_
                exact h_15
              · refine SameO.ite (f := outSt) ?_ ?_
                · refine SameO.out_next ?_
                  refine Same.step (commit_same ..) ?_
                  exact h_15
                · extract_lets +onlyGivenNames x_18
                  have h_19 : Same 1196 s x_18 := by
                    subst x_18
                    refine Same.step (objChanged_same ..) ?_
                    exact h_15
                  clear_value x_18
                  split
                  · rename_i a_20 a_21 a_22 a_23
                    have h_24 : Same 1196 s a_22 := by
                      refine Same.of2 ?_ a_23
                      refine Same.step (newTag_same ..) ?_
                      exact h_19
                    extract_lets +onlyGivenNames x_25
                    extract_lets +onlyGivenNames x_26
                    have h_27 : Same 1196 s x_26 := by
                      subst x_26
                      refine Same.step (setDrawer_same ..) ?_
                      exact h_24
                    clear_value x_26
                    extract_lets +onlyGivenNames x_28
                    have h_29 : Same 1196 s x_28 := by
                      subst x_28
                      refine Same.step (queueRecalls_same ..) ?_
                      exact h_27
                    clear_value x_28
                    refine SameO.out_next ?_
                    refine Same.step (markStarted_same ..) ?_
                    exact h_29

theorem execDrawerOfferDeadline_same (d : BitVec 24) (s : State) : SameO 1068 s (outSt (execDrawerOfferDeadline d s)) := by
  have h0 := Same.refl 1068 s
  unfold execDrawerOfferDeadline
  extract_lets +onlyGivenNames x_1
  extract_lets +onlyGivenNames x_2
  have h_3 : Same 1068 s x_2 := by
    subst x_2
    refine Same.step (settleAbort_same ..) ?_
    exact Same.refl _ _
  clear_value x_2
  extract_lets +onlyGivenNames x_4
  refine SameO.ite (f := outSt) ?_ ?_
  · extract_lets +onlyGivenNames x_5
    have h_6 : Same 1068 s x_5 := by
      subst x_5
      refine Same.step (drawerReturn_same ..) ?_
      refine Same.step (bump_same ..) ?_
      exact h_3
    clear_value x_5
    split
    · rename_i a_7 a_8 a_9
      refine SameO.out_next ?_
      refine Same.step (commit_same ..) ?_
      exact h_6
    · rename_i a_10 a_11
      refine SameO.out_next ?_
      exact h_6
  · refine SameO.out_next ?_
    exact h_3

theorem recallLeft_same (s : State) (lo : Nat) (hi : Nat) (kind : RecallKind) (tag : Nat) : SameO 128 s (recallLeft s lo hi kind tag) := by
  have h0 := Same.refl 128 s
  unfold recallLeft
  extract_lets +onlyGivenNames x_1
  subst x_1
  dsimp -zeta -zetaHave only
  refine SameO.ite0 ?_ ?_
  · refine SameO.yes ?_
    refine Same.step (queueRecalls_same ..) ?_
    exact Same.refl _ _
  · exact SameO.no

theorem execDrawerRecallEnd_same (d : BitVec 24) (s : State) : SameO 1196 s (outSt (execDrawerRecallEnd d s)) := by
  have h0 := Same.refl 1196 s
  unfold execDrawerRecallEnd
  extract_lets +onlyGivenNames x_1
  extract_lets +onlyGivenNames x_2
  have h_3 : Same 1196 s x_2 := by
    subst x_2
    refine Same.step (settleAbort_same ..) ?_
    exact Same.refl _ _
  clear_value x_2
  extract_lets +onlyGivenNames x_4
  refine SameO.ite (f := outSt) ?_ ?_
  · split
    · rename_i a_5 a_6 a_7
      have h_8 : Same 1196 s a_6 := by
        refine SameO.some ?_ a_7
        refine SameO.pass (recallLeft_same ..) ?_
        exact h_3
      refine SameO.out_next ?_
      exact h_8
    · rename_i a_9 a_10
      extract_lets +onlyGivenNames x_11
      have h_12 : Same 1196 s x_11 := by
        subst x_11
        refine Same.step (dropStat_same ..) ?_
        refine Same.step (setDrawer_same ..) ?_
        exact h_3
      clear_value x_11
      split
      · rename_i a_13 a_14 a_15
        refine SameO.out_next ?_
        refine Same.step (acceptDone_same ..) ?_
        exact h_12
      · rename_i a_16 a_17
        refine SameO.out_next ?_
        exact h_12
  · refine SameO.out_next ?_
    exact h_3

theorem execDrawerRelease_same (h : HRef) (s : State) : SameO 34359762604 s (outSt (execDrawerRelease h s)) := by
  have h0 := Same.refl 34359762604 s
  unfold execDrawerRelease
  split
  · rename_i a_1 a_2
    refine SameO.out_next ?_
    exact Same.refl _ _
  · rename_i a_3 a_4 a_5
    split
    · rename_i a_6 a_7 a_8
      refine SameO.out_next ?_
      refine Same.step (commit_same ..) ?_
      exact Same.refl _ _
    · rename_i a_9 a_10 a_11 a_12
      have h_13 : Same 34359762604 s a_11 := by
        refine SameO.of (o := odSt _) ?_ (congrArg odSt a_12)
        refine SameO.pass (ownedDrawer_same ..) ?_
        exact Same.refl _ _
      refine SameO.out_next ?_
      refine Same.step (markStarted_same ..) ?_
      refine Same.step (releaseStart_same ..) ?_
      exact h_13

theorem releaseBacks_same (s : State) (ids : List Nat) : Same 1133871366144 s (releaseBacks s ids) := by
  have h0 := Same.refl 1133871366144 s
  unfold releaseBacks
  refine Same.foldl _ ?_ ?_
  · exact Same.refl _ _
  · intro a_1 a_2 a_3
    refine Same.step (releaseBack_same ..) ?_
    exact a_3

theorem execDrawerReleaseDone_same (d : BitVec 24) (s : State) : SameO 9947144258720 s (outSt (execDrawerReleaseDone d s)) := by
  have h0 := Same.refl 9947144258720 s
  unfold execDrawerReleaseDone
  extract_lets +onlyGivenNames x_1
  extract_lets +onlyGivenNames x_2
  extract_lets +onlyGivenNames x_3
  extract_lets +onlyGivenNames x_4
  refine SameO.ite (f := outSt) ?_ ?_
  · split
    · rename_i a_5 a_6 a_7
      have h_8 : Same 9947144258720 s a_6 := by
        refine SameO.some ?_ a_7
        refine SameO.pass (recallLeft_same ..) ?_
        exact Same.refl _ _
      refine SameO.out_next ?_
      exact h_8
    · rename_i a_9 a_10
      extract_lets +onlyGivenNames x_11
      extract_lets +onlyGivenNames x_12
      subst x_12
      extract_lets +onlyGivenNames x_13
      have h_14 : Same 9947144258720 s x_13 := by
        subst x_13
        refine Same.step (Same.set_pool_pages ..) ?_
        exact Same.refl _ _
      clear_value x_13
      extract_lets +onlyGivenNames x_15
      have h_16 : Same 9947144258720 s x_15 := by
        subst x_15
        refine Same.step (releaseBacks_same ..) ?_
        refine Same.step (dropCachedRange_same ..) ?_
        exact h_14
      clear_value x_15
      extract_lets +onlyGivenNames x_17
      have h_18 : Same 9947144258720 s x_17 := by
        subst x_17
        refine Same.step (objChanged_same ..) ?_
        refine Same.step (setDrawer_same ..) ?_
        refine Same.step (dropStat_same ..) ?_
        exact h_16
      clear_value x_17
      split
      · rename_i a_19 a_20 a_21
        refine SameO.out_next ?_
        refine Same.step (engineDone_same ..) ?_
        exact h_18
      · rename_i a_22 a_23
        refine SameO.out_next ?_
        exact h_18
  · refine SameO.out_next ?_
    exact Same.refl _ _

theorem execForwardedDescriptor_same (sw : BitVec 12) (h : Handle) (key : Key) (desc : Line) (s : State) : SameO 44 s (outSt (execForwardedDescriptor sw h key desc s)) := by
  have h0 := Same.refl 44 s
  unfold execForwardedDescriptor
  extract_lets +onlyGivenNames x_1
  split
  · rename_i a_2 a_3 a_4
    refine SameO.out_next ?_
    refine Same.ite0 ?_ ?_
    · refine Same.step (abortWins_same ..) ?_
      exact Same.refl _ _
    · exact Same.refl _ _
  · rename_i a_5 a_6
    extract_lets +onlyGivenNames x_7
    extract_lets +onlyGivenNames x_8
    have h_9 : Same 44 s x_8 := by
      subst x_8
      refine Same.step (setHandle_same ..) ?_
      exact Same.refl _ _
    clear_value x_8
    split
    · rename_i a_10 a_11
      refine SameO.out_next ?_
      refine Same.step (badDesc_same ..) ?_
      exact h_9
    · rename_i a_12 a_13 a_14
      split
      · rename_i a_15 a_16 a_17
        refine SameO.out_next ?_
        refine Same.step (badDesc_same ..) ?_
        exact h_9
      · rename_i a_18 a_19
        split
        · rename_i a_20 a_21 a_22 a_23
          refine SameO.out_next ?_
          refine Same.step (readHost_same ..) ?_
          exact h_9
        · rename_i a_24 a_25
          refine SameO.out_next ?_
          exact h_9

theorem mergeLeft_same (s : State) (x : Shelf) (q : Publish) : SameO 128 s (mergeLeft s x q) := by
  have h0 := Same.refl 128 s
  unfold mergeLeft
  refine SameO.ite0 ?_ ?_
  · exact SameO.no
  · extract_lets +onlyGivenNames x_1
    refine SameO.findSome ?_
    intro a_2
    refine SameO.pass (recallLeft_same ..) ?_
    exact Same.refl _ _

theorem execPublishCommit_same (h : HRef) (s : State) : SameO 8813272892588 s (outSt (execPublishCommit h s)) := by
  have h0 := Same.refl 8813272892588 s
  unfold execPublishCommit
  split
  · rename_i a_1 a_2
    refine SameO.out_next ?_
    exact Same.refl _ _
  · rename_i a_3 a_4 a_5 a_6 a_7
    extract_lets +onlyGivenNames x_8
    refine SameO.ite (f := outSt) ?_ ?_
    · refine SameO.out_next ?_
      exact Same.refl _ _
    · split
      · rename_i a_9 a_10 a_11
        have h_12 : Same 8813272892588 s a_10 := by
          refine SameO.some ?_ a_11
          refine SameO.pass (mergeLeft_same ..) ?_
          exact Same.refl _ _
        refine SameO.out_next ?_
        exact h_12
      · rename_i a_13 a_14
        refine SameO.out_next ?_
        refine Same.step (commitPublish_same ..) ?_
        exact Same.refl _ _

theorem setPublish_same (s : State) (i : Nat) (x : Shelf) (q : Publish) : Same 1024 s (setPublish s i x q) := by
  have h0 := Same.refl 1024 s
  unfold setPublish
  refine Same.step (setShelf_same ..) ?_
  exact Same.refl _ _

theorem execPublishDecide_same (h : HRef) (s : State) : SameO 1188 s (outSt (execPublishDecide h s)) := by
  have h0 := Same.refl 1188 s
  unfold execPublishDecide
  split
  · rename_i a_1 a_2
    refine SameO.out_next ?_
    exact Same.refl _ _
  · rename_i a_3 a_4 a_5 a_6 a_7
    refine SameO.ite (f := outSt) ?_ ?_
    · refine SameO.out_next ?_
      exact Same.refl _ _
    · extract_lets +onlyGivenNames x_8
      extract_lets +onlyGivenNames x_9
      subst x_9
      dsimp -zeta -zetaHave only
      extract_lets +onlyGivenNames x_10
      extract_lets +onlyGivenNames x_11
      refine SameO.ite (f := outSt) ?_ ?_
      · refine SameO.out_next ?_
        refine Same.step (engineDone_same ..) ?_
        refine Same.step (unpublish_same ..) ?_
        exact Same.refl _ _
      · refine SameO.ite (f := outSt) ?_ ?_
        · refine SameO.out_next ?_
          refine Same.step (engineDone_same ..) ?_
          refine Same.step (unpublish_same ..) ?_
          exact Same.refl _ _
        · refine SameO.ite (f := outSt) ?_ ?_
          · refine SameO.out_next ?_
            refine Same.step (setPublish_same ..) ?_
            exact Same.refl _ _
          · refine SameO.ite (f := outSt) ?_ ?_
            · refine SameO.out_next ?_
              refine Same.step (engineDone_same ..) ?_
              refine Same.step (unpublish_same ..) ?_
              refine Same.step (bump_same ..) ?_
              exact Same.refl _ _
            · refine SameO.ite (f := outSt) ?_ ?_
              · refine SameO.out_next ?_
                refine Same.step (engineDone_same ..) ?_
                refine Same.step (unpublish_same ..) ?_
                refine Same.step (bump_same ..) ?_
                exact Same.refl _ _
              · extract_lets +onlyGivenNames x_12
                have h_13 : Same 1188 s x_12 := by
                  subst x_12
                  refine Same.step (setPublish_same ..) ?_
                  refine Same.step (newTag_same ..) ?_
                  exact Same.refl _ _
                clear_value x_12
                refine SameO.out_next ?_
                refine Same.foldl _ ?_ ?_
                · exact h_13
                · intro a_14 a_15 a_16
                  refine Same.step (queueRecalls_same ..) ?_
                  exact a_16

theorem syncFar_same (s : State) (lo : Nat) (hi : Nat) : Same 446676598788 s (syncFar s lo hi) := by
  have h0 := Same.refl 446676598788 s
  unfold syncFar
  refine Same.foldl _ ?_ ?_
  · exact Same.refl _ _
  · intro a_1 a_2 a_3
    refine Same.ite0 ?_ ?_
    · refine Same.step (storeLine_same ..) ?_
      exact a_3
    · exact a_3

theorem execPublishRecallEnd_same (h : HRef) (s : State) : SameO 446676599940 s (outSt (execPublishRecallEnd h s)) := by
  have h0 := Same.refl 446676599940 s
  unfold execPublishRecallEnd
  split
  · rename_i a_1 a_2
    refine SameO.out_next ?_
    exact Same.refl _ _
  · rename_i a_3 a_4 a_5 a_6 a_7
    extract_lets +onlyGivenNames x_8
    extract_lets +onlyGivenNames x_9
    refine SameO.ite (f := outSt) ?_ ?_
    · split
      · rename_i a_10 a_11 a_12
        have h_13 : Same 446676599940 s a_11 := by
          refine SameO.some ?_ a_12
          refine SameO.pass (recallLeft_same ..) ?_
          exact Same.refl _ _
        refine SameO.out_next ?_
        exact h_13
      · rename_i a_14 a_15
        extract_lets +onlyGivenNames x_16
        refine SameO.out_next ?_
        refine Same.step (dropStat_same ..) ?_
        refine Same.step (syncFar_same ..) ?_
        refine Same.step (setPublish_same ..) ?_
        exact Same.refl _ _
    · refine SameO.out_next ?_
      exact Same.refl _ _

theorem execShelfClose_same (h : HRef) (s : State) : SameO 34359762604 s (outSt (execShelfClose h s)) := by
  have h0 := Same.refl 34359762604 s
  unfold execShelfClose
  split
  · rename_i a_1 a_2
    refine SameO.out_next ?_
    exact Same.refl _ _
  · rename_i a_3 a_4 a_5
    split
    · rename_i a_6 a_7
      refine SameO.out_next ?_
      refine Same.step (commit_same ..) ?_
      exact Same.refl _ _
    · rename_i a_8 a_9 a_10 a_11
      extract_lets +onlyGivenNames x_12
      refine SameO.ite (f := outSt) ?_ ?_
      · refine SameO.out_next ?_
        refine Same.step (badDesc_same ..) ?_
        exact Same.refl _ _
      · extract_lets +onlyGivenNames x_13
        refine SameO.ite (f := outSt) ?_ ?_
        · extract_lets +onlyGivenNames x_14
          extract_lets +onlyGivenNames x_15
          extract_lets +onlyGivenNames x_16
          have h_17 : Same 34359762604 s x_16 := by
            subst x_16
            refine Same.ite0 ?_ ?_
            · refine Same.step (closeSlot_same ..) ?_
              exact Same.refl _ _
            · refine Same.step (setSlot_same ..) ?_
              exact Same.refl _ _
          clear_value x_16
          refine SameO.out_next ?_
          refine Same.step (commit_same ..) ?_
          exact h_17
        · refine SameO.out_next ?_
          refine Same.step (commit_same ..) ?_
          exact Same.refl _ _

theorem execShelfCreate_same (h : HRef) (s : State) : SameO 1068 s (outSt (execShelfCreate h s)) := by
  have h0 := Same.refl 1068 s
  unfold execShelfCreate
  split
  · rename_i a_1 a_2
    refine SameO.out_next ?_
    exact Same.refl _ _
  · rename_i a_3 a_4 a_5
    extract_lets +onlyGivenNames x_6
    extract_lets +onlyGivenNames x_7
    extract_lets +onlyGivenNames x_8
    extract_lets +onlyGivenNames x_9
    extract_lets +onlyGivenNames x_10
    extract_lets +onlyGivenNames x_11
    refine SameO.ite (f := outSt) ?_ ?_
    · refine SameO.out_next ?_
      refine Same.step (badDesc_same ..) ?_
      exact Same.refl _ _
    · refine SameO.ite (f := outSt) ?_ ?_
      · refine SameO.out_next ?_
        refine Same.step (badDesc_same ..) ?_
        exact Same.refl _ _
      · refine SameO.ite (f := outSt) ?_ ?_
        · refine SameO.out_next ?_
          refine Same.step (badDesc_same ..) ?_
          exact Same.refl _ _
        · split
          · rename_i a_12 a_13
            refine SameO.out_next ?_
            refine Same.step (commit_same ..) ?_
            exact Same.refl _ _
          · rename_i a_14 a_15 a_16
            refine SameO.ite (f := outSt) ?_ ?_
            · refine SameO.out_next ?_
              refine Same.step (commit_same ..) ?_
              exact Same.refl _ _
            · refine SameO.ite (f := outSt) ?_ ?_
              · refine SameO.out_next ?_
                refine Same.step (badDesc_same ..) ?_
                exact Same.refl _ _
              · refine SameO.ite (f := outSt) ?_ ?_
                · refine SameO.out_next ?_
                  refine Same.step (commit_same ..) ?_
                  exact Same.refl _ _
                · extract_lets +onlyGivenNames x_17
                  refine SameO.out_next ?_
                  refine Same.step (commit_same ..) ?_
                  refine Same.step (objChanged_same ..) ?_
                  refine Same.step (setShelf_same ..) ?_
                  exact Same.refl _ _

theorem execShelfOpen_same (h : HRef) (s : State) : SameO 8813272892460 s (outSt (execShelfOpen h s)) := by
  have h0 := Same.refl 8813272892460 s
  unfold execShelfOpen
  split
  · rename_i a_1 a_2
    refine SameO.out_next ?_
    exact Same.refl _ _
  · rename_i a_3 a_4 a_5
    refine SameO.ite (f := outSt) ?_ ?_
    · refine SameO.out_next ?_
      refine Same.step (badDesc_same ..) ?_
      exact Same.refl _ _
    · split
      · rename_i a_6 a_7
        refine SameO.out_next ?_
        refine Same.step (commit_same ..) ?_
        exact Same.refl _ _
      · rename_i a_8 a_9 a_10 a_11
        refine SameO.ite (f := outSt) ?_ ?_
        · refine SameO.out_next ?_
          refine Same.step (commit_same ..) ?_
          exact Same.refl _ _
        · split
          · rename_i a_12 a_13 a_14
            refine SameO.pass (openFail_same ..) ?_
            exact Same.refl _ _
          · rename_i a_15 a_16 a_17
            split
            · rename_i a_18 a_19 a_20 a_21
              split
              · rename_i a_22 a_23
                refine SameO.pass (openFail_same ..) ?_
                exact Same.refl _ _
              · rename_i a_24 a_25 a_26
                refine SameO.pass (openDone_same ..) ?_
                refine Same.step (setSlot_same ..) ?_
                exact Same.refl _ _
            · rename_i a_27 a_28
              split
              · rename_i a_29 a_30
                refine SameO.pass (openFail_same ..) ?_
                exact Same.refl _ _
              · rename_i a_31 a_32 a_33
                refine SameO.ite (f := outSt) ?_ ?_
                · extract_lets +onlyGivenNames x_34
                  refine SameO.pass (openDone_same ..) ?_
                  refine Same.step (mapSlot_same ..) ?_
                  refine Same.step (objChanged_same ..) ?_
                  refine Same.step (setSlot_same ..) ?_
                  exact Same.refl _ _
                · refine SameO.pass (openFail_same ..) ?_
                  exact Same.refl _ _

theorem unmapSlot_same (s : State) (x : Shelf) (k : Nat) : Same 8813272891392 s (unmapSlot s x k).2 := by
  have h0 := Same.refl 8813272891392 s
  unfold unmapSlot
  extract_lets +onlyGivenNames x_1
  subst x_1
  dsimp -zeta -zetaHave only
  extract_lets +onlyGivenNames x_2
  refine Same.pair2 ?_
  refine Same.step (dropCachedRange_same ..) ?_
  refine Same.step (Same.set_pool_pages ..) ?_
  exact Same.refl _ _

theorem execSlotFree_same (shelf : BitVec 16) (slot : BitVec 8) (s : State) : SameO 9947144258720 s (outSt (execSlotFree shelf slot s)) := by
  have h0 := Same.refl 9947144258720 s
  unfold execSlotFree
  split
  · rename_i a_1 a_2
    refine SameO.out_next ?_
    exact Same.refl _ _
  · rename_i a_3 a_4 a_5
    extract_lets +onlyGivenNames x_6
    extract_lets +onlyGivenNames x_7
    extract_lets +onlyGivenNames x_8
    extract_lets +onlyGivenNames x_9
    refine SameO.ite (f := outSt) ?_ ?_
    · split
      · rename_i a_10 a_11 a_12
        have h_13 : Same 9947144258720 s a_11 := by
          refine SameO.some ?_ a_12
          refine SameO.pass (recallLeft_same ..) ?_
          exact Same.refl _ _
        refine SameO.out_next ?_
        exact h_13
      · rename_i a_14 a_15
        extract_lets +onlyGivenNames x_16
        have h_17 : Same 9947144258720 s x_16 := by
          subst x_16
          refine Same.step (setSlot_same ..) ?_
          refine Same.step (dropStat_same ..) ?_
          exact Same.refl _ _
        clear_value x_16
        split
        · rename_i a_18 a_19 a_20 a_21
          have h_22 : Same 9947144258720 s a_20 := by
            refine Same.of2 ?_ a_21
            refine Same.step (unmapSlot_same ..) ?_
            refine Same.step (objChanged_same ..) ?_
            exact h_17
          extract_lets +onlyGivenNames x_23
          have h_24 : Same 9947144258720 s x_23 := by
            subst x_23
            refine Same.step (releaseBacks_same ..) ?_
            exact h_22
          clear_value x_23
          split
          · rename_i a_25 a_26
            refine SameO.out_next ?_
            exact h_24
          · rename_i a_27 a_28 a_29
            refine SameO.out_next ?_
            refine Same.step (engineDone_same ..) ?_
            exact h_24
    · refine SameO.out_next ?_
      exact Same.refl _ _

theorem execVersionReclaim_same (shelf : BitVec 16) (version : BitVec 32) (s : State) : SameO 1133871367168 s (outSt (execVersionReclaim shelf version s)) := by
  have h0 := Same.refl 1133871367168 s
  unfold execVersionReclaim
  split
  · rename_i a_1 a_2
    refine SameO.out_next ?_
    exact Same.refl _ _
  · rename_i a_3 a_4 a_5
    extract_lets +onlyGivenNames x_6
    split
    · rename_i a_7 a_8
      refine SameO.out_next ?_
      exact Same.refl _ _
    · rename_i a_9 a_10 a_11
      refine SameO.ite (f := outSt) ?_ ?_
      · refine SameO.out_next ?_
        exact Same.refl _ _
      · refine SameO.out_next ?_
        refine Same.step (releaseBacks_same ..) ?_
        refine Same.step (setShelf_same ..) ?_
        exact Same.refl _ _

end Sys2Proof.Machine
end

