-- ==== Sys2Proof/Laws/KeepPower.lean ====
section
/-! SUPPORT. What each operation of Machine/Power.lean leaves alone: the parts it may write, as a number, and all else kept. -/

set_option linter.unusedVariables false

namespace Sys2Proof.Machine

set_option Elab.async false

theorem ethSend_same (s : State) (what : String) (body : List Nat) : Same 8 s (ethSend s what body) := by
  have h0 := Same.refl 8 s
  unfold ethSend
  refine Same.step (emit_same ..) ?_
  exact Same.refl _ _

theorem execArpRequest_same (f : EthFrame) (s : State) : SameO 12 s (outSt (execArpRequest f s)) := by
  have h0 := Same.refl 12 s
  unfold execArpRequest
  refine SameO.ite (f := outSt) ?_ ?_
  · refine SameO.out_next ?_
    exact Same.refl _ _
  · refine SameO.ite (f := outSt) ?_ ?_
    · refine SameO.out_next ?_
      refine Same.step (bump_same ..) ?_
      exact Same.refl _ _
    · refine SameO.ite (f := outSt) ?_ ?_
      · refine SameO.out_next ?_
        refine Same.step (ethSend_same ..) ?_
        refine Same.step (bump_same ..) ?_
        refine Same.step (bump_same ..) ?_
        exact Same.refl _ _
      · refine SameO.out_next ?_
        refine Same.step (bump_same ..) ?_
        exact Same.refl _ _

theorem execAvsPoll_same (ma : List Nat) (s : State) : SameO 16777220 s (outSt (execAvsPoll ma s)) := by
  have h0 := Same.refl 16777220 s
  unfold execAvsPoll
  refine SameO.ite (f := outSt) ?_ ?_
  · refine SameO.out_next ?_
    exact Same.refl _ _
  · extract_lets +onlyGivenNames x_1
    extract_lets +onlyGivenNames x_2
    have h_3 : Same 16777220 s x_2 := by
      subst x_2
      refine Same.step (bumpBy_same ..) ?_
      exact Same.refl _ _
    clear_value x_2
    refine SameO.out_next ?_
    refine Same.step (bumpBy_same ..) ?_
    refine Same.step (Same.set_pwr ..) ?_
    exact h_3

theorem execAvsTargetStep_same (rail : Fin 3) (mv : BitVec 16) (ok : Bool) (s : State) : SameO 16777220 s (outSt (execAvsTargetStep rail mv ok s)) := by
  have h0 := Same.refl 16777220 s
  unfold execAvsTargetStep
  extract_lets +onlyGivenNames x_1
  extract_lets +onlyGivenNames x_2
  extract_lets +onlyGivenNames x_3
  extract_lets +onlyGivenNames x_4
  extract_lets +onlyGivenNames x_5
  refine SameO.ite (f := outSt) ?_ ?_
  · refine SameO.out_next ?_
    exact Same.refl _ _
  · refine SameO.ite (f := outSt) ?_ ?_
    · refine SameO.out_next ?_
      refine Same.step (bump_same ..) ?_
      exact Same.refl _ _
    · refine SameO.out_next ?_
      refine Same.step (Same.set_pwr ..) ?_
      exact Same.refl _ _

theorem execDeviceSnapshot_same (s : State) : SameO 76 s (outSt (execDeviceSnapshot s)) := by
  have h0 := Same.refl 76 s
  unfold execDeviceSnapshot
  extract_lets +onlyGivenNames x_1
  have h_2 : Same 76 s x_1 := by
    subst x_1
    refine Same.step (regSet_same ..) ?_
    exact Same.refl _ _
  clear_value x_1
  extract_lets +onlyGivenNames x_3
  extract_lets +onlyGivenNames x_4
  have h_5 : Same 76 s x_4 := by
    subst x_4
    refine Same.step (Same.set_mgmt ..) ?_
    exact h_2
  clear_value x_4
  extract_lets +onlyGivenNames x_6
  have h_7 : Same 76 s x_6 := by
    subst x_6
    refine Same.foldl _ ?_ ?_
    · exact h_5
    · intro a_8 a_9 a_10
      refine Same.step (snapPort_same ..) ?_
      exact a_10
  clear_value x_6
  extract_lets +onlyGivenNames x_11
  have h_12 : Same 76 s x_11 := by
    subst x_11
    refine Same.step (setBit_same ..) ?_
    refine Same.step (setBit_same ..) ?_
    exact h_7
  clear_value x_11
  refine SameO.out_next ?_
  refine Same.ite0 ?_ ?_
  · refine Same.step (msix_same ..) ?_
    exact h_12
  · exact h_12

theorem execPhyPoll_same (up : Bool) (sync : Bool) (s : State) : SameO 64 s (outSt (execPhyPoll up sync s)) := by
  have h0 := Same.refl 64 s
  unfold execPhyPoll
  refine SameO.ite (f := outSt) ?_ ?_
  · refine SameO.out_next ?_
    exact Same.refl _ _
  · refine SameO.out_next ?_
    refine Same.step (Same.set_mgmt ..) ?_
    exact Same.refl _ _

theorem execPtpMessage_same (domain : BitVec 8) (udp : Bool) (tagged : Bool) (secs : Word) (offset : Int) (s : State) : SameO 4194319 s (outSt (execPtpMessage domain udp tagged secs offset s)) := by
  have h0 := Same.refl 4194319 s
  unfold execPtpMessage
  refine SameO.ite (f := outSt) ?_ ?_
  · refine SameO.out_next ?_
    exact Same.refl _ _
  · refine SameO.ite (f := outSt) ?_ ?_
    · refine SameO.out_next ?_
      refine Same.step (bump_same ..) ?_
      exact Same.refl _ _
    · extract_lets +onlyGivenNames x_1
      have h_2 : Same 4194319 s x_1 := by
        subst x_1
        refine Same.step (bump_same ..) ?_
        refine Same.step (bump_same ..) ?_
        exact Same.refl _ _
      clear_value x_1
      refine SameO.ite (f := outSt) ?_ ?_
      · refine SameO.out_next ?_
        exact h_2
      · extract_lets +onlyGivenNames x_3
        extract_lets +onlyGivenNames x_4
        have h_5 : Same 4194319 s x_4 := by
          subst x_4
          refine Same.step (Same.set_sys ..) ?_
          exact h_2
        clear_value x_4
        extract_lets +onlyGivenNames x_6
        refine SameO.ite (f := outSt) ?_ ?_
        · refine SameO.out_next ?_
          exact h_5
        · split
          · rename_i a_7 a_8 a_9 a_10
            have h_11 : Same 4194319 s a_9 := by
              refine Same.of2 ?_ a_10
              refine Same.step (draw_same ..) ?_
              exact h_5
            extract_lets +onlyGivenNames x_12
            have h_13 : Same 4194319 s x_12 := by
              subst x_12
              refine Same.ite0 ?_ ?_
              · refine Same.step (ethSend_same ..) ?_
                refine Same.step (bump_same ..) ?_
                refine Same.step (bump_same ..) ?_
                exact h_11
              · exact h_11
            clear_value x_12
            refine SameO.ite (f := outSt) ?_ ?_
            · refine SameO.out_next ?_
              refine Same.step (steer_same ..) ?_
              exact h_13
            · refine SameO.out_next ?_
              refine Same.step (Same.set_sys ..) ?_
              exact h_13

theorem execRailExcursion_same (rail : Fin 9) (s : State) : SameO 16777228 s (outSt (execRailExcursion rail s)) := by
  have h0 := Same.refl 16777228 s
  unfold execRailExcursion
  refine SameO.ite (f := outSt) ?_ ?_
  · refine SameO.out_next ?_
    exact Same.refl _ _
  · extract_lets +onlyGivenNames x_1
    extract_lets +onlyGivenNames x_2
    have h_3 : Same 16777228 s x_2 := by
      subst x_2
      refine Same.step (Same.set_pwr ..) ?_
      exact Same.refl _ _
    clear_value x_2
    refine SameO.out_next ?_
    refine Same.step (raiseAlert_same ..) ?_
    refine Same.step (bump_same ..) ?_
    exact h_3

theorem execRailExcursionLimit_same (rail : Fin 9) (s : State) : SameO 15728684 s (outSt (execRailExcursionLimit rail s)) := by
  have h0 := Same.refl 15728684 s
  unfold execRailExcursionLimit
  refine SameO.ite (f := outSt) ?_ ?_
  · refine SameO.out_next ?_
    exact Same.refl _ _
  · refine SameO.out_next ?_
    refine Same.step (deviceStop_same ..) ?_
    exact Same.refl _ _

theorem execRailReturn_same (rail : Fin 9) (s : State) : SameO 16777216 s (outSt (execRailReturn rail s)) := by
  have h0 := Same.refl 16777216 s
  unfold execRailReturn
  refine SameO.out_next ?_
  refine Same.step (Same.set_pwr ..) ?_
  exact Same.refl _ _

theorem execSwAlertClear_same (s : State) : SameO 20971528 s (outSt (execSwAlertClear s)) := by
  have h0 := Same.refl 20971528 s
  unfold execSwAlertClear
  refine SameO.out_next ?_
  refine Same.step (releaseTrip_same ..) ?_
  refine Same.step (Same.set_pwr ..) ?_
  exact Same.refl _ _

theorem execSwThermalAlert_same (sensor : Fin 64) (t : BitVec 8) (s : State) : SameO 16777228 s (outSt (execSwThermalAlert sensor t s)) := by
  have h0 := Same.refl 16777228 s
  unfold execSwThermalAlert
  refine SameO.ite (f := outSt) ?_ ?_
  · refine SameO.out_next ?_
    exact Same.refl _ _
  · extract_lets +onlyGivenNames x_1
    extract_lets +onlyGivenNames x_2
    have h_3 : Same 16777228 s x_2 := by
      subst x_2
      refine Same.step (Same.set_pwr ..) ?_
      exact Same.refl _ _
    clear_value x_2
    refine SameO.out_next ?_
    refine Same.ite0 ?_ ?_
    · exact h_3
    · refine Same.step (thermalEvent_same ..) ?_
      exact h_3

theorem execThermtrip_same (s : State) : SameO 281474976710637 s (outSt (execThermtrip s)) := by
  have h0 := Same.refl 281474976710637 s
  unfold execThermtrip
  refine SameO.ite (f := outSt) ?_ ?_
  · refine SameO.out_next ?_
    exact Same.refl _ _
  · extract_lets +onlyGivenNames x_1
    extract_lets +onlyGivenNames x_2
    have h_3 : Same 281474976710637 s x_2 := by
      subst x_2
      refine Same.step (powerOn_same ..) ?_
      refine Same.step (emit_same ..) ?_
      refine Same.step (Same.set_pwr ..) ?_
      exact Same.refl _ _
    clear_value x_2
    refine SameO.out_next ?_
    refine Same.step (Same.set_sys ..) ?_
    exact h_3

theorem execVddAonLoss_same (s : State) : SameO 281474976710637 s (outSt (execVddAonLoss s)) := by
  have h0 := Same.refl 281474976710637 s
  unfold execVddAonLoss
  refine SameO.out_next ?_
  refine Same.step (releaseTrip_same ..) ?_
  refine Same.step (powerOn_same ..) ?_
  exact Same.refl _ _

end Sys2Proof.Machine
end

