-- ==== Sys2Proof/Laws/KeepStops.lean ====
section
/-! SUPPORT. What each operation of Machine/Stops.lean leaves alone: the parts it may write, as a number, and all else kept. -/

set_option linter.unusedVariables false

namespace Sys2Proof.Machine

set_option Elab.async false

theorem dropWinch_same (s : State) (id : Nat) (o : WOp) : Same 2731600404140 s (dropWinch s id o) := by
  have h0 := Same.refl 2731600404140 s
  unfold dropWinch
  extract_lets +onlyGivenNames x_1
  have h_2 : Same 2731600404140 s x_1 := by
    subst x_1
    refine Same.step (undoChunks_same ..) ?_
    exact Same.refl _ _
  clear_value x_1
  extract_lets +onlyGivenNames x_3
  have h_4 : Same 2731600404140 s x_3 := by
    subst x_3
    refine Same.step (zeroAwaiting_same ..) ?_
    exact h_2
  clear_value x_3
  extract_lets +onlyGivenNames x_5
  have h_6 : Same 2731600404140 s x_5 := by
    subst x_5
    split
    · rename_i a_7 a_8 a_9
      refine Same.step (pruneGens_same ..) ?_
      refine Same.step (dropBuild_same ..) ?_
      exact h_4
    · rename_i a_10 a_11
      exact h_4
  clear_value x_5
  extract_lets +onlyGivenNames x_12
  have h_13 : Same 2731600404140 s x_12 := by
    subst x_12
    refine Same.step (dropOp_same ..) ?_
    exact h_6
  clear_value x_12
  split
  · rename_i a_14 a_15 a_16
    refine Same.step (dropWindow_same ..) ?_
    exact h_13
  · rename_i a_17 a_18 a_19
    refine Same.step (advanceEnd_same ..) ?_
    exact h_13
  · rename_i a_20 a_21 a_22
    split
    · rename_i a_23 a_24 a_25
      refine Same.step (erasePlacement_same ..) ?_
      exact h_13
    · rename_i a_26 a_27
      exact h_13
  · rename_i a_28 a_29 a_30 a_31
    exact h_13

theorem stopComposition_same (s : State) (h : Nat) : Same 15032385536 s (stopComposition s h).s := by
  have h0 := Same.refl 15032385536 s
  unfold stopComposition
  extract_lets +onlyGivenNames x_1
  extract_lets +onlyGivenNames x_2
  subst x_2
  extract_lets +onlyGivenNames x_3
  have h_4 : Same 15032385536 s x_3 := by
    subst x_3
    refine Same.step (Same.set_pool_compOrder_ready_open ..) ?_
    exact Same.refl _ _
  clear_value x_3
  refine Same.stopped ?_
  exact h_4

theorem stopKernel_same (s : State) (h : Nat) : Same 32768 s (stopKernel s h).s := by
  have h0 := Same.refl 32768 s
  unfold stopKernel
  extract_lets +onlyGivenNames x_1
  refine Same.stopped ?_
  refine Same.step (Same.set_trs ..) ?_
  exact Same.refl _ _

theorem stopWinch_same (s : State) (h : Nat) : Same 2731600404140 s (stopWinch s h).s := by
  have h0 := Same.refl 2731600404140 s
  unfold stopWinch
  extract_lets +onlyGivenNames x_1
  extract_lets +onlyGivenNames x_2
  refine Same.stopped ?_
  refine Same.foldl _ ?_ ?_
  · exact Same.refl _ _
  · intro a_3 a_4 a_5
    refine Same.step (dropWinch_same ..) ?_
    exact a_5

theorem stopOffer_same (s : State) (h : Nat) : Same 1068 s (stopOffer s h).s := by
  have h0 := Same.refl 1068 s
  unfold stopOffer
  split
  · rename_i a_1 a_2 a_3 a_4
    refine Same.stopped ?_
    refine Same.step (drawerReturn_same ..) ?_
    exact Same.refl _ _
  · rename_i a_5 a_6
    split
    · rename_i a_7 a_8 a_9 a_10
      refine Same.stopped ?_
      exact Same.refl _ _
    · rename_i a_11 a_12
      refine Same.stopped ?_
      exact Same.refl _ _

theorem stopAccept_same (s : State) (h : Nat) : Same 1024 s (stopAccept s h).s := by
  have h0 := Same.refl 1024 s
  unfold stopAccept
  refine Same.stopped ?_
  refine Same.step (Same.set_obj ..) ?_
  exact Same.refl _ _

theorem stopLaunch_same (s : State) (h : Nat) (warm : Bool) : Same 2233383017124 s (stopLaunch s h warm).s := by
  have h0 := Same.refl 2233383017124 s
  unfold stopLaunch
  split
  · rename_i a_1 a_2
    refine Same.stopped ?_
    exact Same.refl _ _
  · rename_i a_3 a_4 a_5
    extract_lets +onlyGivenNames x_6
    have h_7 : Same 2233383017124 s x_6 := by
      subst x_6
      refine Same.step (bump_same ..) ?_
      refine Same.step (dropSeq_same ..) ?_
      exact Same.refl _ _
    clear_value x_6
    refine Same.stopped ?_
    refine Same.ite0 ?_ ?_
    · exact h_7
    · refine Same.step (nextLaunch_same ..) ?_
      exact h_7

theorem stopPlacement_same (s : State) (h : Nat) : Same 2731600404140 s (stopPlacement s h).s := by
  have h0 := Same.refl 2731600404140 s
  unfold stopPlacement
  refine Same.step (stopWinch_same ..) ?_
  refine Same.step (Same.set_bau ..) ?_
  exact Same.refl _ _

theorem stopPublish_same (s : State) (h : Nat) : Same 1024 s (stopPublish s h).s := by
  have h0 := Same.refl 1024 s
  unfold stopPublish
  split
  · rename_i a_1 a_2 a_3 a_4 a_5
    refine Same.stopped ?_
    refine Same.step (unpublish_same ..) ?_
    exact Same.refl _ _
  · rename_i a_6 a_7
    refine Same.stopped ?_
    exact Same.refl _ _

theorem stopQuota_same (s : State) (h : Nat) : Same 7129646915244 s (stopQuota s h).s := by
  have h0 := Same.refl 7129646915244 s
  unfold stopQuota
  extract_lets +onlyGivenNames x_1
  extract_lets +onlyGivenNames x_2
  refine Same.stopped ?_
  extract_lets +onlyGivenNames x_3
  have h_4 : Same 7129646915244 s x_3 := by
    subst x_3
    subst x_2
    refine Same.step (stopWinch_same ..) ?_
    exact Same.refl _ _
  refine Same.step (Same.set_pool_quotaOps ..) ?_
  exact h_4

theorem stopWindow_same (s : State) (h : Nat) : Same 2731600404140 s (stopWindow s h).s := by
  have h0 := Same.refl 2731600404140 s
  unfold stopWindow
  refine Same.step (stopWinch_same ..) ?_
  refine Same.step (Same.set_tier ..) ?_
  exact Same.refl _ _

theorem stopWork_same (s : State) (h : Nat) (r : HandleRec) (warm : Bool) : Same 7144679333548 s (stopWork s h r warm).s := by
  have h0 := Same.refl 7144679333548 s
  unfold stopWork
  split
  · rename_i a_1 a_2
    refine Same.step (stopComposition_same ..) ?_
    exact Same.refl _ _
  · rename_i a_3 a_4
    refine Same.step (stopComposition_same ..) ?_
    exact Same.refl _ _
  · rename_i a_5 a_6
    refine Same.step (stopComposition_same ..) ?_
    exact Same.refl _ _
  · rename_i a_7 a_8
    refine Same.step (stopQuota_same ..) ?_
    exact Same.refl _ _
  · rename_i a_9 a_10
    refine Same.step (stopComposition_same ..) ?_
    exact Same.refl _ _
  · rename_i a_11 a_12
    refine Same.step (stopPublish_same ..) ?_
    exact Same.refl _ _
  · rename_i a_13 a_14
    refine Same.step (stopOffer_same ..) ?_
    exact Same.refl _ _
  · rename_i a_15 a_16
    refine Same.step (stopAccept_same ..) ?_
    exact Same.refl _ _
  · rename_i a_17 a_18
    refine Same.step (stopWindow_same ..) ?_
    exact Same.refl _ _
  · rename_i a_19 a_20
    refine Same.step (stopLaunch_same ..) ?_
    exact Same.refl _ _
  · rename_i a_21 a_22
    refine Same.step (stopPlacement_same ..) ?_
    exact Same.refl _ _
  · rename_i a_23 a_24
    refine Same.step (stopKernel_same ..) ?_
    exact Same.refl _ _
  · rename_i a_25 a_26 a_27 a_28 a_29 a_30 a_31 a_32 a_33 a_34 a_35 a_36 a_37
    refine Same.step (stopWinch_same ..) ?_
    exact Same.refl _ _

theorem execAbortStopPoint_same (h : HRef) (s : State) : SameO 7144679333548 s (outSt (execAbortStopPoint h s)) := by
  have h0 := Same.refl 7144679333548 s
  unfold execAbortStopPoint
  split
  · rename_i a_1 a_2
    refine SameO.out_next ?_
    exact Same.refl _ _
  · rename_i a_3 a_4 a_5
    refine SameO.ite (f := outSt) ?_ ?_
    · refine SameO.out_next ?_
      exact Same.refl _ _
    · extract_lets +onlyGivenNames x_6
      refine SameO.out_next ?_
      refine Same.step (fillRecord_same ..) ?_
      subst x_6
      refine Same.step (stopWork_same ..) ?_
      exact Same.refl _ _

end Sys2Proof.Machine
end

