-- ==== Sys2Proof/Laws/KeepWarm.lean ====
section
/-! SUPPORT. What each operation of Machine/Warm.lean leaves alone: the parts it may write, as a number, and all else kept. -/

set_option linter.unusedVariables false

namespace Sys2Proof.Machine

set_option Elab.async false

theorem addIsland_same (s : State) (kind : Nat) (index : Nat) : Same 4194304 s (addIsland s kind index) := by
  have h0 := Same.refl 4194304 s
  unfold addIsland
  refine Same.step (Same.set_sys ..) ?_
  exact Same.refl _ _

theorem clearRingRegs_same (s : State) : Same 4 s (clearRingRegs s) := by
  have h0 := Same.refl 4 s
  unfold clearRingRegs
  refine Same.step (Same.set_regs ..) ?_
  exact Same.refl _ _

theorem dropAccepts_same (s : State) : Same 1024 s (dropAccepts s) := by
  have h0 := Same.refl 1024 s
  unfold dropAccepts
  refine Same.step (Same.set_obj ..) ?_
  exact Same.refl _ _

theorem dropAcks_same (s : State) : Same 34360920204 s (dropAcks s) := by
  have h0 := Same.refl 34360920204 s
  unfold dropAcks
  refine Same.foldl _ ?_ ?_
  · exact Same.refl _ _
  · intro a_1 a_2 a_3
    split
    · rename_i a_4 a_5 a_6
      refine Same.ite0 ?_ ?_
      · refine Same.step (progress_same ..) ?_
        refine Same.step (setTrans_same ..) ?_
        exact a_3
      · exact a_3
    · rename_i a_7 a_8
      exact a_3

theorem emptyCore_same (s : State) : Same 787264 s (emptyCore s) := by
  have h0 := Same.refl 787264 s
  unfold emptyCore
  refine Same.step (Same.set_mgmt_ord_atm_core_cong ..) ?_
  exact Same.refl _ _

theorem recallSlots_same (s : State) : Same 1152 s (recallSlots s) := by
  have h0 := Same.refl 1152 s
  unfold recallSlots
  refine Same.foldl _ ?_ ?_
  · exact Same.refl _ _
  · intro a_1 a_2 a_3
    refine Same.foldl _ ?_ ?_
    · exact a_3
    · intro a_4 a_5 a_6
      refine Same.ite0 ?_ ?_
      · split
        · rename_i a_7 a_8 a_9 a_10
          have h_11 : Same 1152 s a_9 := by
            refine Same.of2 ?_ a_10
            refine Same.step (newTag_same ..) ?_
            exact a_6
          refine Same.step (queueRecalls_same ..) ?_
          refine Same.step (setSlot_same ..) ?_
          exact h_11
      · exact a_6

theorem tenantHandle_same (s : State) (h : Nat) : Same 2147483692 s (tenantHandle s h) := by
  have h0 := Same.refl 2147483692 s
  unfold tenantHandle
  split
  · rename_i a_1 a_2
    exact Same.refl _ _
  · rename_i a_3 a_4 a_5
    split
    · rename_i a_6 a_7
      refine Same.ite0 ?_ ?_
      · refine Same.step (recDrop_same ..) ?_
        refine Same.step (dropHandle_same ..) ?_
        exact Same.refl _ _
      · exact Same.refl _ _
    · rename_i a_8 a_9
      refine Same.ite0 ?_ ?_
      · extract_lets +onlyGivenNames x_10
        subst x_10
        extract_lets +onlyGivenNames x_11
        have h_12 : Same 2147483692 s x_11 := by
          subst x_11
          refine Same.step (Same.set_pool_compOrder ..) ?_
          exact Same.refl _ _
        clear_value x_11
        refine Same.step (recDrop_same ..) ?_
        refine Same.step (dropHandle_same ..) ?_
        refine Same.step (countDone_same ..) ?_
        exact h_12
      · refine Same.ite0 ?_ ?_
        · extract_lets +onlyGivenNames x_13
          have h_14 : Same 2147483692 s x_13 := by
            subst x_13
            refine Same.step (setHandle_same ..) ?_
            exact Same.refl _ _
          clear_value x_13
          split
          · rename_i a_15 a_16 a_17
            refine Same.step (emit_same ..) ?_
            exact h_14
          · rename_i a_18 a_19
            exact h_14
        · exact Same.refl _ _

theorem tenantRing_same (s : State) (n : Nat) : Same 2147483692 s (tenantRing s n) := by
  have h0 := Same.refl 2147483692 s
  unfold tenantRing
  extract_lets +onlyGivenNames x_1
  extract_lets +onlyGivenNames x_2
  extract_lets +onlyGivenNames x_3
  have h_4 : Same 2147483692 s x_3 := by
    subst x_3
    refine Same.step (setRing_same ..) ?_
    exact Same.refl _ _
  clear_value x_3
  extract_lets +onlyGivenNames x_5
  have h_6 : Same 2147483692 s x_5 := by
    subst x_5
    refine Same.step (Same.set_regs ..) ?_
    exact h_4
  clear_value x_5
  refine Same.foldl _ ?_ ?_
  · exact h_6
  · intro a_7 a_8 a_9
    refine Same.step (tenantHandle_same ..) ?_
    exact a_9

theorem tenantReset_same (s : State) (key : Key) : Same 2160066604 s (tenantReset s key) := by
  have h0 := Same.refl 2160066604 s
  unfold tenantReset
  refine Same.ite0 ?_ ?_
  · exact Same.refl _ _
  · extract_lets +onlyGivenNames x_1
    extract_lets +onlyGivenNames x_2
    extract_lets +onlyGivenNames x_3
    have h_4 : Same 2160066604 s x_3 := by
      subst x_3
      refine Same.foldl _ ?_ ?_
      · refine Same.step (Same.set_sys ..) ?_
        exact Same.refl _ _
      · intro a_5 a_6 a_7
        refine Same.step (tenantRing_same ..) ?_
        exact a_7
    clear_value x_3
    split
    · rename_i a_8 a_9 a_10
      refine Same.step (putModule_same ..) ?_
      exact h_4
    · rename_i a_11 a_12
      exact h_4

theorem resetRefused_same (s : State) : Same 4 s (resetRefused s) := by
  have h0 := Same.refl 4 s
  unfold resetRefused
  refine Same.step (setBit_same ..) ?_
  exact Same.refl _ _

theorem resetCluster_same (s : State) (c : Nat) : Same 32768 s (resetCluster s c) := by
  have h0 := Same.refl 32768 s
  unfold resetCluster
  refine Same.foldl _ ?_ ?_
  · exact Same.refl _ _
  · intro a_1 a_2 a_3
    extract_lets +onlyGivenNames x_4
    refine Same.step (setUnit_same ..) ?_
    exact a_3

theorem resetSlice_same (s : State) (k : Nat) : Same 4456452 s (resetSlice s k) := by
  have h0 := Same.refl 4456452 s
  unfold resetSlice
  split
  · rename_i a_1 a_2
    refine Same.step (addIsland_same ..) ?_
    exact Same.refl _ _
  · rename_i a_3 a_4 a_5
    split
    · rename_i a_6 a_7 a_8 a_9 a_10
      refine Same.step (Same.set_core ..) ?_
      exact Same.refl _ _
    · rename_i a_11 a_12 a_13
      refine Same.step (resetRefused_same ..) ?_
      exact Same.refl _ _

theorem islandReset_same (s : State) (kind : Nat) (index : Nat) : Same 37383409271148 s (islandReset s kind index) := by
  have h0 := Same.refl 37383409271148 s
  unfold islandReset
  split
  · rename_i a_1
    refine Same.ite0 ?_ ?_
    · refine Same.step (addIsland_same ..) ?_
      refine Same.step (portReset_same ..) ?_
      exact Same.refl _ _
    · refine Same.step (resetRefused_same ..) ?_
      exact Same.refl _ _
  · rename_i a_2
    refine Same.ite0 ?_ ?_
    · refine Same.step (resetSlice_same ..) ?_
      exact Same.refl _ _
    · refine Same.step (resetRefused_same ..) ?_
      exact Same.refl _ _
  · rename_i a_3
    refine Same.ite0 ?_ ?_
    · refine Same.step (addIsland_same ..) ?_
      exact Same.refl _ _
    · refine Same.step (resetRefused_same ..) ?_
      exact Same.refl _ _
  · rename_i a_4
    refine Same.ite0 ?_ ?_
    · refine Same.step (addIsland_same ..) ?_
      refine Same.step (resetCluster_same ..) ?_
      exact Same.refl _ _
    · refine Same.step (resetRefused_same ..) ?_
      exact Same.refl _ _
  · rename_i a_5
    refine Same.ite0 ?_ ?_
    · refine Same.step (resetSettle_same ..) ?_
      exact Same.refl _ _
    · refine Same.step (resetRefused_same ..) ?_
      exact Same.refl _ _
  · rename_i a_6 a_7 a_8 a_9 a_10 a_11
    refine Same.step (resetRefused_same ..) ?_
    exact Same.refl _ _

theorem lateReset_same (s : State) (d : Nat × Nat) : Same 37385556754796 s (lateReset s d) := by
  have h0 := Same.refl 37385556754796 s
  unfold lateReset
  refine Same.ite0 ?_ ?_
  · refine Same.step (resetByCtl_same ..) ?_
    exact Same.refl _ _
  · refine Same.ite0 ?_ ?_
    · refine Same.step (tenantReset_same ..) ?_
      exact Same.refl _ _
    · refine Same.ite0 ?_ ?_
      · refine Same.step (islandReset_same ..) ?_
        exact Same.refl _ _
      · exact Same.refl _ _

theorem recallDrawers_same (s : State) : Same 1152 s (recallDrawers s) := by
  have h0 := Same.refl 1152 s
  unfold recallDrawers
  refine Same.foldl _ ?_ ?_
  · exact Same.refl _ _
  · intro a_1 a_2 a_3
    refine Same.ite0 ?_ ?_
    · split
      · rename_i a_4 a_5 a_6 a_7
        have h_8 : Same 1152 s a_6 := by
          refine Same.of2 ?_ a_7
          refine Same.step (newTag_same ..) ?_
          exact a_3
        refine Same.step (queueRecalls_same ..) ?_
        refine Same.step (setDrawer_same ..) ?_
        exact h_8
    · exact a_3

theorem execDeviceOpen_same (s : State) : SameO 37918135521260 s (outSt (execDeviceOpen s)) := by
  have h0 := Same.refl 37918135521260 s
  unfold execDeviceOpen
  split
  · rename_i a_1 a_2 a_3 a_4 a_5
    refine SameO.ite (f := outSt) ?_ ?_
    · refine SameO.out_next ?_
      exact Same.refl _ _
    · refine SameO.ite (f := outSt) ?_ ?_
      · refine SameO.out_next ?_
        exact Same.refl _ _
      · extract_lets +onlyGivenNames x_6
        have h_7 : Same 37918135521260 s x_6 := by
          subst x_6
          refine Same.foldl _ ?_ ?_
          · exact Same.refl _ _
          · intro a_8 a_9 a_10
            refine Same.step (snoopExpired_same ..) ?_
            exact a_10
        clear_value x_6
        refine SameO.ite (f := outSt) ?_ ?_
        · refine SameO.out_next ?_
          exact h_7
        · extract_lets +onlyGivenNames x_11
          extract_lets +onlyGivenNames x_12
          extract_lets +onlyGivenNames x_13
          extract_lets +onlyGivenNames x_14
          extract_lets +onlyGivenNames x_15
          extract_lets +onlyGivenNames x_16
          have h_17 : Same 37918135521260 s x_16 := by
            subst x_16
            refine Same.step (Same.set_rings_sys ..) ?_
            exact h_7
          clear_value x_16
          refine SameO.out_next ?_
          refine Same.foldl _ ?_ ?_
          · refine Same.step (recallDrawers_same ..) ?_
            refine Same.step (recallSlots_same ..) ?_
            refine Same.step (bump_same ..) ?_
            exact h_17
          · intro a_18 a_19 a_20
            refine Same.step (lateReset_same ..) ?_
            exact a_20
  · rename_i a_21 a_22 a_23
    refine SameO.out_next ?_
    exact Same.refl _ _

theorem execIsland_same (kind : BitVec 4) (index : BitVec 8) (s : State) : SameO 37383409271148 s (outSt (execIsland kind index s)) := by
  have h0 := Same.refl 37383409271148 s
  unfold execIsland
  refine SameO.ite (f := outSt) ?_ ?_
  · refine SameO.out_next ?_
    refine Same.step (Same.set_sys ..) ?_
    exact Same.refl _ _
  · refine SameO.out_next ?_
    refine Same.step (islandReset_same ..) ?_
    exact Same.refl _ _

theorem execIslandResetDone_same (s : State) : SameO 534740176812 s (outSt (execIslandResetDone s)) := by
  have h0 := Same.refl 534740176812 s
  unfold execIslandResetDone
  split
  · rename_i a_1 a_2
    refine SameO.out_next ?_
    exact Same.refl _ _
  · rename_i a_3 a_4 a_5 a_6
    extract_lets +onlyGivenNames x_7
    extract_lets +onlyGivenNames x_8
    have h_9 : Same 534740176812 s x_8 := by
      subst x_8
      refine Same.step (Same.set_sys ..) ?_
      exact Same.refl _ _
    clear_value x_8
    refine SameO.ite (f := outSt) ?_ ?_
    · refine SameO.out_next ?_
      exact h_9
    · split
      · rename_i a_10 a_11 a_12
        refine SameO.ite (f := outSt) ?_ ?_
        · refine SameO.out_next ?_
          refine Same.step (startNimpa_same ..) ?_
          exact h_9
        · refine SameO.out_next ?_
          refine Same.step (imageRecord_same ..) ?_
          exact h_9
      · rename_i a_13 a_14
        refine SameO.out_next ?_
        refine Same.step (imageRecord_same ..) ?_
        exact h_9

theorem interruptPost_same (s : State) (h : Nat) : Same 0 s (interruptPost s h).s := by
  have h0 := Same.refl 0 s
  unfold interruptPost
  split
  · rename_i a_1 a_2 a_3 a_4
    refine Same.stopped ?_
    exact Same.refl _ _
  · rename_i a_5 a_6
    refine Same.stopped ?_
    exact Same.refl _ _

theorem interruptTether_same (s : State) (h : Nat) (done : Bool) : Same 131072 s (interruptTether s h done).s := by
  have h0 := Same.refl 131072 s
  unfold interruptTether
  refine Same.stopped ?_
  refine Same.step (Same.set_route ..) ?_
  exact Same.refl _ _

theorem interruptTrain_same (s : State) (h : Nat) (done : Bool) : Same 196620 s (interruptTrain s h done).s := by
  have h0 := Same.refl 196620 s
  unfold interruptTrain
  split
  · rename_i a_1 a_2
    refine Same.stopped ?_
    exact Same.refl _ _
  · rename_i a_3 a_4 a_5
    extract_lets +onlyGivenNames x_6
    have h_7 : Same 196620 s x_6 := by
      subst x_6
      refine Same.step (dropTrainOp_same ..) ?_
      exact Same.refl _ _
    clear_value x_6
    refine Same.ite (f := Stopped.s) ?_ ?_
    · refine Same.stopped ?_
      refine Same.ite0 ?_ ?_
      · refine Same.step (Same.set_train ..) ?_
        exact h_7
      · exact h_7
    · refine Same.stopped ?_
      refine Same.foldl _ ?_ ?_
      · exact h_7
      · intro a_8 a_9 a_10
        refine Same.step (sendSwitch_same ..) ?_
        exact a_10

theorem interruptPath_same (s : State) (h : Nat) (done : Bool) : Same 131072 s (interruptPath s h done).s := by
  have h0 := Same.refl 131072 s
  unfold interruptPath
  extract_lets +onlyGivenNames x_1
  refine Same.stopped ?_
  refine Same.ite0 ?_ ?_
  · refine Same.step (Same.set_route ..) ?_
    exact Same.refl _ _
  · exact Same.refl _ _

theorem interruptWork_same (s : State) (h : Nat) (r : HandleRec) : Same 7144679399084 s (interruptWork s h r).s := by
  have h0 := Same.refl 7144679399084 s
  unfold interruptWork
  extract_lets +onlyGivenNames x_1
  split
  · rename_i a_2 a_3
    refine Same.stopped ?_
    refine Same.step (Same.set_obj ..) ?_
    exact Same.refl _ _
  · rename_i a_4 a_5
    refine Same.stopped ?_
    refine Same.step (Same.set_obj ..) ?_
    exact Same.refl _ _
  · rename_i a_6 a_7
    refine Same.step (interruptPost_same ..) ?_
    exact Same.refl _ _
  · rename_i a_8 a_9
    refine Same.step (interruptTrain_same ..) ?_
    exact Same.refl _ _
  · rename_i a_10 a_11
    refine Same.step (interruptTrain_same ..) ?_
    exact Same.refl _ _
  · rename_i a_12 a_13
    refine Same.step (interruptTether_same ..) ?_
    exact Same.refl _ _
  · rename_i a_14 a_15
    refine Same.step (interruptTether_same ..) ?_
    exact Same.refl _ _
  · rename_i a_16 a_17
    refine Same.step (interruptPath_same ..) ?_
    exact Same.refl _ _
  · rename_i a_18 a_19 a_20 a_21 a_22 a_23 a_24 a_25 a_26
    extract_lets +onlyGivenNames x_27
    extract_lets +onlyGivenNames x_28
    refine Same.ite (f := Stopped.s) ?_ ?_
    · subst x_28
      refine Same.step (stopWork_same ..) ?_
      exact Same.refl _ _
    · refine Same.stopped ?_
      subst x_28
      refine Same.step (stopWork_same ..) ?_
      exact Same.refl _ _

theorem saveHandle_same (s : State) (h : Nat) : Same 7144679399084 s (saveHandle s h) := by
  have h0 := Same.refl 7144679399084 s
  unfold saveHandle
  split
  · rename_i a_1 a_2
    exact Same.refl _ _
  · rename_i a_3 a_4 a_5
    split
    · rename_i a_6 a_7
      refine Same.ite0 ?_ ?_
      · exact Same.refl _ _
      · refine Same.ite0 ?_ ?_
        · extract_lets +onlyGivenNames x_8
          refine Same.step (fillRecord_same ..) ?_
          subst x_8
          refine Same.step (stopWork_same ..) ?_
          exact Same.refl _ _
        · refine Same.ite0 ?_ ?_
          · refine Same.step (fillRecord_same ..) ?_
            exact Same.refl _ _
          · split
            · rename_i a_9 a_10 a_11
              refine Same.step (fillRecord_same ..) ?_
              exact Same.refl _ _
            · rename_i a_12 a_13
              refine Same.step (fillRecord_same ..) ?_
              exact Same.refl _ _
    · rename_i a_14 a_15
      extract_lets +onlyGivenNames x_16
      extract_lets +onlyGivenNames x_17
      refine Same.step (returnRemote_same ..) ?_
      refine Same.step (setHandle_same ..) ?_
      refine Same.step (countDone_same ..) ?_
      subst x_17
      refine Same.ite (f := Stopped.s) ?_ ?_
      · refine Same.stopped ?_
        subst x_16
        refine Same.step (interruptWork_same ..) ?_
        exact Same.refl _ _
      · subst x_16
        refine Same.step (interruptWork_same ..) ?_
        exact Same.refl _ _

theorem saveRings_same (s : State) : Same 7144679399084 s (saveRings s) := by
  have h0 := Same.refl 7144679399084 s
  unfold saveRings
  extract_lets +onlyGivenNames x_1
  extract_lets +onlyGivenNames x_2
  have h_3 : Same 7144679399084 s x_2 := by
    subst x_2
    refine Same.step (dropAccepts_same ..) ?_
    exact Same.refl _ _
  clear_value x_2
  extract_lets +onlyGivenNames x_4
  have h_5 : Same 7144679399084 s x_4 := by
    subst x_4
    refine Same.foldl _ ?_ ?_
    · exact h_3
    · intro a_6 a_7 a_8
      refine Same.step (saveHandle_same ..) ?_
      exact a_8
  clear_value x_4
  extract_lets +onlyGivenNames x_9
  extract_lets +onlyGivenNames x_10
  refine Same.step (Same.set_rings ..) ?_
  exact h_5

theorem writeFar_same (s : State) : Same 446676599300 s (writeFar s) := by
  have h0 := Same.refl 446676599300 s
  unfold writeFar
  extract_lets +onlyGivenNames x_1
  have h_2 : Same 446676599300 s x_1 := by
    subst x_1
    refine Same.step (syncFar_same ..) ?_
    exact Same.refl _ _
  clear_value x_1
  refine Same.step (Same.set_atm ..) ?_
  exact h_2

theorem requeueChunks_same (s : State) : Same 34359740416 s (requeueChunks s) := by
  have h0 := Same.refl 34359740416 s
  unfold requeueChunks
  refine Same.foldl _ ?_ ?_
  · exact Same.refl _ _
  · intro a_1 a_2 a_3
    extract_lets +onlyGivenNames x_4
    have h_5 : Same 34359740416 s x_4 := by
      subst x_4
      refine Same.step (undoChunk_same ..) ?_
      exact a_3
    clear_value x_4
    split
    · rename_i a_6 a_7 a_8
      refine Same.step (setOp_same ..) ?_
      exact h_5
    · rename_i a_9 a_10
      exact h_5

theorem quiesce_same (s : State) : Same 68717334748844 s (quiesce s) := by
  have h0 := Same.refl 68717334748844 s
  unfold quiesce
  extract_lets +onlyGivenNames x_1
  have h_2 : Same 68717334748844 s x_1 := by
    subst x_1
    refine Same.step (requeueChunks_same ..) ?_
    refine Same.step (saveRings_same ..) ?_
    refine Same.step (bumpBy_same ..) ?_
    exact Same.refl _ _
  clear_value x_1
  extract_lets +onlyGivenNames x_3
  have h_4 : Same 68717334748844 s x_3 := by
    subst x_3
    refine Same.step (writeFar_same ..) ?_
    exact h_2
  clear_value x_3
  refine Same.step (Same.set_coh_cmp_bau_trs_train_route_sys_pool_flights_quotaOps_xlate_extCache_xlateWait ..) ?_
  exact h_4

theorem quiesceFence_same (s : State) (x : Endpoint × Nat) : Same 534735949740 s (quiesceFence s x) := by
  have h0 := Same.refl 534735949740 s
  unfold quiesceFence
  refine Same.step (snoopExpired_same ..) ?_
  refine Same.step (bump_same ..) ?_
  exact Same.refl _ _

theorem execQuiesceEnd_same (s : State) : SameO 68717346021292 s (outSt (execQuiesceEnd s)) := by
  have h0 := Same.refl 68717346021292 s
  unfold execQuiesceEnd
  refine SameO.ite (f := outSt) ?_ ?_
  · refine SameO.out_next ?_
    exact Same.refl _ _
  · refine SameO.ite (f := outSt) ?_ ?_
    · refine SameO.out_next ?_
      refine Same.step (quiesce_same ..) ?_
      exact Same.refl _ _
    · refine SameO.ite (f := outSt) ?_ ?_
      · refine SameO.out_next ?_
        exact Same.refl _ _
      · refine SameO.out_next ?_
        refine Same.step (dropAcks_same ..) ?_
        refine Same.foldl _ ?_ ?_
        · exact Same.refl _ _
        · intro a_1 a_2 a_3
          refine Same.step (quiesceFence_same ..) ?_
          exact a_3

theorem execTenant_same (key : Key) (s : State) : SameO 2160066604 s (outSt (execTenant key s)) := by
  have h0 := Same.refl 2160066604 s
  unfold execTenant
  refine SameO.ite (f := outSt) ?_ ?_
  · refine SameO.out_next ?_
    refine Same.step (Same.set_sys ..) ?_
    exact Same.refl _ _
  · refine SameO.out_next ?_
    refine Same.step (tenantReset_same ..) ?_
    exact Same.refl _ _

theorem warmTrigger_same (s : State) : Same 37383399538976 s (warmTrigger s) := by
  have h0 := Same.refl 37383399538976 s
  unfold warmTrigger
  split
  · rename_i a_1 a_2
    extract_lets +onlyGivenNames x_3
    have h_4 : Same 37383399538976 s x_3 := by
      subst x_3
      refine Same.foldl _ ?_ ?_
      · exact Same.refl _ _
      · intro a_5 a_6 a_7
        refine Same.step (dropIsland_same ..) ?_
        exact a_7
    clear_value x_3
    refine Same.step (Same.set_sys ..) ?_
    exact h_4
  · rename_i a_8 a_9
    refine Same.step (Same.set_sys ..) ?_
    exact Same.refl _ _
  · rename_i a_10 a_11 a_12
    exact Same.refl _ _

theorem execWarm_same (s : State) : SameO 37383399538976 s (outSt (execWarm s)) := by
  have h0 := Same.refl 37383399538976 s
  unfold execWarm
  refine SameO.out_next ?_
  refine Same.step (warmTrigger_same ..) ?_
  exact Same.refl _ _

theorem restartNimpa_same (s : State) : Same 534740176812 s (restartNimpa s) := by
  have h0 := Same.refl 534740176812 s
  unfold restartNimpa
  extract_lets +onlyGivenNames x_1
  extract_lets +onlyGivenNames x_2
  subst x_2
  extract_lets +onlyGivenNames x_3
  extract_lets +onlyGivenNames x_4
  have h_5 : Same 534740176812 s x_4 := by
    subst x_4
    refine Same.step (Same.set_settle ..) ?_
    exact Same.refl _ _
  clear_value x_4
  split
  · rename_i a_6 a_7 a_8
    refine Same.step (startNimpa_same ..) ?_
    exact h_5
  · rename_i a_9 a_10
    refine Same.step (imageRecord_same ..) ?_
    exact h_5

theorem settleTethers_same (s : State) : Same 131116 s (settleTethers s) := by
  have h0 := Same.refl 131116 s
  unfold settleTethers
  extract_lets +onlyGivenNames x_1
  have h_2 : Same 131116 s x_1 := by
    subst x_1
    refine Same.foldl _ ?_ ?_
    · exact Same.refl _ _
    · intro a_3 a_4 a_5
      refine Same.step (refuseTether_same ..) ?_
      exact a_5
  clear_value x_1
  refine Same.foldl _ ?_ ?_
  · exact h_2
  · intro a_6 a_7 a_8
    refine Same.step (tetherStep_same ..) ?_
    refine Same.step (putTether_same ..) ?_
    exact a_8

theorem returnDrawers_same (s : State) : Same 1068 s (returnDrawers s) := by
  have h0 := Same.refl 1068 s
  unfold returnDrawers
  refine Same.foldl _ ?_ ?_
  · exact Same.refl _ _
  · intro a_1 a_2 a_3
    refine Same.ite0 ?_ ?_
    · refine Same.step (drawerReturn_same ..) ?_
      exact a_3
    · exact a_3

theorem replayJournals_same (s : State) : Same 34359938092 s (replayJournals s) := by
  have h0 := Same.refl 34359938092 s
  unfold replayJournals
  extract_lets +onlyGivenNames x_1
  have h_2 : Same 34359938092 s x_1 := by
    subst x_1
    refine Same.foldl _ ?_ ?_
    · exact Same.refl _ _
    · intro a_3 a_4 a_5
      refine Same.step (bump_same ..) ?_
      refine Same.step (endChunk_same ..) ?_
      exact a_5
  clear_value x_1
  extract_lets +onlyGivenNames x_6
  extract_lets +onlyGivenNames x_7
  have h_8 : Same 34359938092 s x_7 := by
    subst x_7
    refine Same.step (settleTethers_same ..) ?_
    refine Same.step (Same.set_route ..) ?_
    exact h_2
  clear_value x_7
  refine Same.step (returnDrawers_same ..) ?_
  refine Same.foldl _ ?_ ?_
  · exact h_8
  · intro a_9 a_10 a_11
    refine Same.step (reportAdopted_same ..) ?_
    exact a_11

theorem resetPorts_same (s : State) : Same 37383396393324 s (resetPorts s) := by
  have h0 := Same.refl 37383396393324 s
  unfold resetPorts
  refine Same.foldl _ ?_ ?_
  · exact Same.refl _ _
  · intro a_1 a_2 a_3
    refine Same.step (portReset_same ..) ?_
    exact a_3

theorem execWarmRestart_same (s : State) : SameO 37918135521260 s (outSt (execWarmRestart s)) := by
  have h0 := Same.refl 37918135521260 s
  unfold execWarmRestart
  refine SameO.ite (f := outSt) ?_ ?_
  · refine SameO.out_next ?_
    exact Same.refl _ _
  · extract_lets +onlyGivenNames x_1
    have h_2 : Same 37918135521260 s x_1 := by
      subst x_1
      refine Same.step (setFld_same ..) ?_
      refine Same.step (setFld_same ..) ?_
      refine Same.step (emptyCore_same ..) ?_
      refine Same.step (clearRingRegs_same ..) ?_
      exact Same.refl _ _
    clear_value x_1
    extract_lets +onlyGivenNames x_3
    extract_lets +onlyGivenNames x_4
    have h_5 : Same 37918135521260 s x_4 := by
      subst x_4
      refine Same.step (resetPorts_same ..) ?_
      refine Same.step (Same.set_sys ..) ?_
      exact h_2
    clear_value x_4
    refine SameO.out_next ?_
    refine Same.step (restartNimpa_same ..) ?_
    refine Same.step (replayJournals_same ..) ?_
    exact h_5

theorem execWarmRstN_same (level : Bool) (s : State) : SameO 37383399538976 s (outSt (execWarmRstN level s)) := by
  have h0 := Same.refl 37383399538976 s
  unfold execWarmRstN
  extract_lets +onlyGivenNames x_1
  extract_lets +onlyGivenNames x_2
  have h_3 : Same 37383399538976 s x_2 := by
    subst x_2
    refine Same.step (Same.set_sys ..) ?_
    exact Same.refl _ _
  clear_value x_2
  refine SameO.out_next ?_
  refine Same.ite0 ?_ ?_
  · exact h_3
  · refine Same.step (warmTrigger_same ..) ?_
    exact h_3

end Sys2Proof.Machine
end

