-- ==== Sys2Proof/Laws/Rings.lean ====
section
/-! SUPPORT. What writing head shadows and pausing the fetch leave alone (R36, R37): every handle, every ring's
sequence, and all outputs before them. -/

namespace Sys2Proof.Machine

/-- The handles, each ring's sequence and the outputs of `s` stand in `t` too. -/
def FetchKept (s t : State) : Prop :=
  t.rings.handles = s.rings.handles ∧ (∀ n, (ringOf t n).seq = (ringOf s n).seq) ∧ (∀ e ∈ s.out, e ∈ t.out)

theorem FetchKept.refl (s : State) : FetchKept s s := ⟨rfl, fun _ => rfl, fun _ h => h⟩

theorem FetchKept.trans {s t u : State} (a : FetchKept s t) (b : FetchKept t u) : FetchKept s u :=
  ⟨b.1.trans a.1, fun n => (b.2.1 n).trans (a.2.1 n), fun e h => b.2.2 e (a.2.2 e h)⟩

/-- Putting back a ring with its sequence keeps every ring's sequence. -/
theorem setRing_kept (s : State) (n : Nat) (r : Ring) (h : r.seq = (ringOf s n).seq) : FetchKept s (setRing s n r) := by
  refine ⟨rfl, fun m => ?_, fun _ h => h⟩
  by_cases e : m = n
  · subst e; simp [ringOf, setRing, tblGet, h]
  · simp [ringOf, setRing, tblGet, tblFind_put_ne _ _ _ _ e]

theorem writeShadow_kept (s : State) (n : Nat) : FetchKept s (writeShadow s n) := by
  obtain ⟨a, b, c⟩ := setRing_kept s n { ringOf s n with lastShadow := (ringOf s n).seq } rfl
  exact ⟨a, b, fun e h => by simp [writeShadow, emit]; exact .inl (c e h)⟩

theorem haltRing_kept (s : State) (n c : Nat) : FetchKept s (haltRing s n c) := by
  unfold haltRing
  dsimp only
  split
  · exact setRing_kept _ _ _ rfl
  · exact .refl s

theorem shadowAfter_kept (s : State) (n : Nat) (ok : Bool) : FetchKept s (shadowAfter s n ok) := by
  unfold shadowAfter
  split
  · exact writeShadow_kept s n
  · exact (writeShadow_kept s n).trans (haltRing_kept _ _ _)

theorem pauseAll_kept (s : State) : FetchKept s (pauseAll s) := by
  unfold pauseAll
  generalize s.rings.rings = l
  induction l generalizing s with
  | nil => exact .refl s
  | cons a l ih =>
    rw [List.foldl_cons]
    refine .trans ?_ (ih _)
    split
    · exact writeShadow_kept s _
    · exact .refl s

end Sys2Proof.Machine
end

