-- ==== Sys2Proof/Laws/Trains.lean ====
section
/-! SUPPORT. What the shared operations on multicast trains do: the installation of a train whose own entry this switch accepts. -/

namespace Sys2Proof.Machine

/-- An installation whose own entry this switch accepts keeps its entries, sends every other switch its own and asks them all. -/
theorem startTrain_asks {s : State} {h mode id gen : Nat} {owner : Key} {img : List Byte}
    (ok : ∀ e ∈ (imgSwitches img).map (fun k => (k.sw, makeEntry s (imgMembers img) (imgSwitches img) id gen owner k)), e.1 = switchId s → entryCheck s e.2 = .accepted) :
    startTrain s h mode id gen owner img =
      let es := (imgSwitches img).map (fun k => (k.sw, makeEntry s (imgMembers img) (imgSwitches img) id gen owner k))
      let o : TrainOp := { handle := h, mode := mode, id := id, gen := gen, owner := owner, entries := es, members := (imgMembers img).zipIdx.map (fun e => (e.2, BitVec.ofNat 16 e.1.ep, e.1.edge)), asking := (es.map (·.1)).filter (· != switchId s) }
      trainProgress ((es.filter (fun e => e.1 != switchId s)).foldl (fun s e =>
        sendSwitch s e.1 "TrainEntry" [id, gen, owner.toNat, e.2.count, (e.2.parent.map (·.val)).getD 255, e.2.children.toNat])
        (markStarted { s with train := { s.train with ops := s.train.ops ++ [o] } } h)) o := by
  simp only [startTrain]
  generalize (imgSwitches img).map (fun k => (k.sw, makeEntry s (imgMembers img) (imgSwitches img) id gen owner k)) = es at ok ⊢
  rw [List.findSome?_eq_none_iff.mpr]
  · simp only [Option.isSome_none, Bool.false_eq_true, if_false, othersOf]
    have e : ∀ o : TrainOp, switchId (markStarted { s with train := { s.train with ops := s.train.ops ++ [o] } } h) = switchId s := fun o => switchId_regs (markStarted_regs ..)
    rw [e]
  · intro x hx
    simp only [List.mem_map, List.mem_filter] at hx
    obtain ⟨y, ⟨hy, hz⟩, rfl⟩ := hx
    rw [ok y hy (by simpa using hz)]

end Sys2Proof.Machine
end

