-- ==== Sys2Proof/Laws/Trestle.lean ====
section
/-! SUPPORT. What a Trestle unit's shared operations do: the instruction a row finds. -/

namespace Sys2Proof.Machine

/-- The instruction a row finds is of the operation code it looks for. -/
theorem nextInsn_op {s : State} {u g op : Nat} {x : Gang} {w : Word} (h : nextInsn s u g op = some (x, w)) : kOp w = op := by
  simp only [nextInsn] at h
  split at h
  · cases h
  · split at h
    · cases h
    · split at h
      · cases h
      · split at h
        · cases h
        · rename_i hc
          cases h
          simp at hc
          exact hc.1.1

/-- A scalar row, thread by thread. -/
theorem scalarRow_next {s : State} {u : TUnit} {g : GangId} {op : Nat} {x : Gang} {w : Word} (h : nextInsn s u.val g.val op = some (x, w)) (hc : op ≠ 0x16) :
    scalarRow op u g s = issued s u.val g.val { overwrite x false (kD w) x.r.active with r := { (lanesOf x.r.active).foldl (fun r t => sPut r t (kD w) ((scalarValue s u.val x w t).1, (scalarValue s u.val x w t).2.1)) x.r with pc := x.r.pc + 1 }, flags := (lanesOf x.r.active).foldl (fun f t => f ||| (scalarValue s u.val x w t).2.2) x.flags } false := by
  simp only [scalarRow, h, List.foldl_map]
  rw [if_neg hc]
  rfl

/-- A launch that R311 admits starts. -/
theorem launchRow_starts {mine : Nat → Bool} {s : State} {h : Nat} {r : HandleRec} (h0 : startable s h 0x49 = some r) (h1 : mine (d8 r.desc 8) = true)
    (h2 : d8 r.desc 10 ≤ 64) (h3 : 0 < d32 r.desc 12) (h4 : d32 r.desc 12 ≤ 16777216) (h5 : s.trs.launches.length < 1024) (h6 : unitsByLoad s ≠ [])
    (h7 : 4 ≤ d8 r.desc 8 → 16 ≤ d8 r.desc 8 ∧ ∃ k, kslotOf s (d8 r.desc 8) = some k ∧ k.owner = r.key) :
    launchRow mine h s = startLaunch s h r := by
  simp only [launchRow, h0, h1, Bool.not_true]
  rw [if_neg (by simp), if_neg (by omega), if_neg (by omega), if_neg, if_neg]
  · rintro (h | h)
    · omega
    · exact h6 h
  · rintro ⟨a, b⟩
    obtain ⟨c, k, e, f⟩ := h7 a
    rcases b with b | b
    · omega
    · simp [e, f] at b

/-- Buffering a store never makes the buffer shorter. -/
theorem bufferStore_length (b : List TStore) (e : TStore) : b.length ≤ (bufferStore b e).length := by
  unfold bufferStore
  split <;> simp

theorem bufferStores_length (es : List (Nat × TStore)) : ∀ b : List TStore, b.length ≤ (es.foldl (fun b e => bufferStore b e.2) b).length := by
  induction es with
  | nil => exact fun b => Nat.le_refl _
  | cons e es ih => exact fun b => Nat.le_trans (bufferStore_length b e.2) (ih _)

/-- Stores whose lines the buffer has room for all enter it, and the instruction is issued. -/
theorem storeInto_fits (u g : Nat) (es : List (Nat × TStore)) : ∀ (s : State) (x : Gang), (es.foldl (fun b e => bufferStore b e.2) x.buf).length ≤ 16 →
    storeInto u g es s x = issued s u g { x with buf := es.foldl (fun b e => bufferStore b e.2) x.buf, r := { x.r with pc := x.r.pc + 1, part := 0 } } false := by
  induction es with
  | nil => intro s x _; rfl
  | cons e es ih =>
    intro s x h
    have h1 := Nat.le_trans (bufferStores_length es (bufferStore x.buf e.2)) h
    simp only [storeInto, if_pos h1]
    rw [ih _ _ h]
    rfl

end Sys2Proof.Machine
end

