-- ==== Sys2Proof/Tests/Slice0.lean ====
section
/-! SUPPORT. Tests of the model: ill-formed commands are refused by WellFormed, a few numbers from the spec and published standards, and for the
hypotheses of each statement a state and operands that meet them all. -/

namespace Sys2Proof.Tests

open Sys2Proof Sys2Proof.Machine

set_option maxRecDepth 4000
set_option Elab.async false

/-! ## WellFormed -/

theorem test_wf_offset : (Instr.registerWrite 0x4000000 8 0).wf = false := by decide
theorem test_wf_read : (Instr.lowWordRead 0 0x4000000).wf = false := by decide
theorem test_wf_setup : (Instr.setupOpenClose 0x4000000 0).wf = false := by decide

/-! ## Witnesses: for the hypotheses of each claim, a state and operands that meet them all -/

theorem some_get {α : Type} [Inhabited α] {o : Option α} (h : o.isSome = true) : o = some o.get! := by
  cases o with
  | none => cases h
  | some a => rfl

def isOk : PageReady → Bool
  | .ok _ => true
  | _ => false
def okOf : PageReady → State
  | .ok s => s
  | _ => {}
theorem ok_get {r : PageReady} (h : isOk r = true) : r = .ok (okOf r) := by cases r <;> first | rfl | cases h

/-- A line of fields: byte place, bytes, value. -/
def ln (fs : List (Nat × Nat × Nat)) : Line := BitVec.ofNat 512 ((fs.map (fun f => (f.2.2 % 2 ^ (8 * f.2.1)) * 2 ^ (8 * f.1))).sum)
/-- Registers set in order. -/
def regs (s : State) (l : List (Nat × Nat)) : State := l.foldl (fun s e => regSet s e.1 (BitVec.ofNat 64 e.2)) s
/-- A port of a role (0 host, 1 tray, 2 trunk; 4 more for CXL), endpoint 100 and up, with keys 1 and 2. -/
def port (s : State) (p role : Nat) : State :=
  regs s [(portBase p, role + 16), (portBase p + 0x100, 100 + p), (portBase p + 0x200, 1 + 0xFFFF * 2 ^ 16 + 2 ^ 32), (portBase p + 0x208, 2 + 0xFFFF * 2 ^ 16 + 2 ^ 32)]
/-- A serving switch 5 with two tenants, keys 1 and 2, one ring of key 1, and an extent of 16 MiB of key 1. -/
def sv : State :=
  regs { sys := { st := .serving, porst := false, refOk := 15, mgmtRefOk := true }, settle := { boot := .running }, pwr := { rails := 0x1FF }
         rings := { rings := [(0, { st := .active, enable := true })] }
         pool := { tenants := [(0, { key := 1, valid := true, q0 := none, q1 := none, q2 := none }), (1, { key := 2, valid := true, q0 := none, q1 := none, q2 := none })]
                   extents := [{ id := 1, base := 0, len := 16777216, owner := 1, tiers := 7 }] } }
    [(0x33000, 5 + 9 * 2 ^ 16), (ringBase 0 + 0x18, 6 + 6 * 256 + 2 ^ 16 + 2 ^ 39 + 2 ^ 40)]
/-- Port 0 a host, port 1 a trunk, port 2 a CXL host, port 3 a tray. -/
def pt : State := port (port (port (port sv 0 0) 1 2) 2 4) 3 5
def hr (op : Nat) (d : Line) : HandleRec := { ring := 0, gen := 0, seq := 0, phase := .live, opcode := op, key := 1, desc := d }
/-- Handle 0 live with an opcode and a descriptor. -/
def lv (s : State) (op : Nat) (d : List (Nat × Nat × Nat)) : State := setHandle s 0 (hr op (ln d))
/-- The same with its composition turn. -/
def cp (s : State) (op : Nat) (d : List (Nat × Nat × Nat)) : State :=
  let t := lv s op d
  { t with pool := { t.pool with compOrder := [0] } }
def isOkC : Except EntryErr (Option Change) → Bool
  | .ok (some _) => true
  | _ => false
def okC : Except EntryErr (Option Change) → Change
  | .ok (some c) => c
  | _ => { handle := none }
theorem okC_get {x : Except EntryErr (Option Change)} (h : isOkC x = true) : x = .ok (some (okC x)) := by
  cases x with
  | error e => cases h
  | ok o => cases o with
    | none => cases h
    | some c => rfl
def isInr {α β : Type} : α ⊕ β → Bool
  | .inr _ => true
  | _ => false
def inrOf {α β : Type} (d : β) : α ⊕ β → β
  | .inr c => c
  | _ => d
theorem inr_get {α β : Type} {x : α ⊕ β} (d : β) (h : isInr x = true) : x = .inr (inrOf d x) := by
  cases x with
  | inl e => cases h
  | inr o => rfl
/-- The entries of EXTENT_GRANT with and without CREATE, EXTENT_REVOKE and EXTENT_RESIZE. -/
def entC (d : Line) : MapEntry := { kind := 1, access := d8 d 14, key := dKeyAt d 12, id := d32 d 8, base := d64 d 16, len := d64 d 24, tiers := d8 d 15, init := d8 d 32, reserve := dFlag d 3 }
def entG (d : Line) : MapEntry := { kind := 2, access := d8 d 14, key := dKeyAt d 12, id := d32 d 8, base := 0, len := 0, tiers := 0, init := 0, reserve := false }
def entR (d : Line) : MapEntry := { kind := 3, access := 0, key := dKeyAt d 12, id := d32 d 8, base := 0, len := 0, tiers := 0, init := 0, reserve := false }
def entS (d : Line) : MapEntry := { kind := 5, access := 0, key := 0, id := d32 d 8, base := 0, len := d64 d 16, tiers := 0, init := 0, reserve := false, anyKey := true }
def chg (s : State) (h : Nat) (e : MapEntry) : Change := okC (entryApply s (emptyChange s (some h)) e)
/-- A request of a port. -/
def rq (k : ReqKind) (off : Nat) : Req := { kind := k, src := 100, tag := 3, port := 0, addr := BitVec.ofNat 60 (5 * 2 ^ 48 + off), key := 1, checked := some 1 }
/-- A request at its ordering point; a message of endpoint 100; a CXL request; a transaction of line 1. -/
def inb (r : Req) : State := { pt with coh := { pt.coh with inbox := [r] } }
/-- The same with page 0 backed in T0. -/
def bkp : State := { pt with pool := { pt.pool with pages := [(0, 4)], backs := [(4, { loc := .t0 0 0 0 false })], nextBack := 5 } }
def inbk (r : Req) : State := { bkp with coh := { bkp.coh with inbox := [r] } }
def msg : TcMsg := { port := 0, src := 100, key := 1, off := 64 }
def tr (s : State) (t : Trans) : State := setTrans s 1 t
def sn (e : Endpoint) (k : SnpKind) : Snoop := { dest := .ep e, kind := k, sentAt := some 0 }
def snp (k : SnpKind) : Trans := { kind := .req (rq .rdOwn 64), snoops := [sn 100 k] }
/-- CXL port 2 serving, with one window of 256 MiB and a decoder. -/
def cx : State := regs (setCxl pt 2 { memEn := true, biEn := true, decoders := [⟨0, 0x10000000, 1, 256, 0, 0⟩] }) [(portBase 2 + 0x900, 1), (portBase 2 + 0x940, 2 ^ 63), (portBase 2 + 0x948, 0x10000000)]
def hot1 (s : State) (h : Hot) : State := setHot s 1 h
def doneOf : Taken → State
  | .done s => s
  | _ => {}
def isDone : Taken → Bool
  | .done _ => true
  | _ => false
theorem done_get {r : Taken} (h : isDone r = true) : r = .done (doneOf r) := by cases r <;> first | rfl | cases h
def outState : Host.Outcome State Fault Refusal → State
  | .next s => s
  | _ => {}
def isNext : Host.Outcome State Fault Refusal → Bool
  | .next _ => true
  | _ => false
theorem next_get {r : Host.Outcome State Fault Refusal} (h : isNext r = true) : r = .next (outState r) := by
  cases r <;> first | rfl | cases h
theorem someD_get {α : Type} {o : Option α} (d : α) (h : o.isSome = true) : o = some (o.getD d) := by
  cases o with
  | none => cases h
  | some a => rfl
/-- Shelf 0 of extent 1 at offset 1 MiB, four slots of 64 KiB, version 1 empty; with a slot 0; with a publish. -/
def shf (l : Slot) (q : List Publish) : Shelf :=
  { extent := 1, base := 0x100000, size := 65536, slotCount := 4, versions := [(1, [])], slots := if l = {} then [] else [(0, l)], queue := q }
def shs (l : Slot) (q : List Publish) : State := { sv with obj := { sv.obj with shelves := [(0, shf l q)] } }
def drf : Slot := { st := .draft, writer := 1, base := 1 }
def pubg : Slot := { st := .publishing, writer := 1, base := 1 }
def pub (st : PubStage) : Publish := { handle := 0, slot := 0, merge := false, tag := 1, chk := 0, stage := st }
/-- Drawer 0 at offset 2 MiB. -/
def dr0 : Drawer := { extent := 1, base := 0x200000, len := 65536, owner := 1, st := .owned }
def drs (w : Drawer) : State :=
  { sv with obj := { sv.obj with drawers := [(0, w)] }, pool := { sv.pool with extents := [{ id := 1, base := 0, len := 16777216, owner := 1, tiers := 7, grants := [(2, true)] }] } }
def doneU : UnitEnd → State × WOp × Nat
  | .done s o n => (s, o, n)
  | _ => ({}, { kind := .copy }, 0)
def isDoneU : UnitEnd → Bool
  | .done _ _ _ => true
  | _ => false
theorem doneU_get {r : UnitEnd} (h : isDoneU r = true) : r = .done (doneU r).1 (doneU r).2.1 (doneU r).2.2 := by cases r <;> first | rfl | cases h
def okP {α : Type} (d : α) {ε : Type} : Except ε α → α
  | .ok a => a
  | _ => d
/-- Operation 7, of key 1, and a backed page 0 in T1 with a copy in T0. -/
def wop (s : State) (o : WOp) : State := { s with tier := { s.tier with ops := [(7, o)], nextOp := 8 } }
def bk (b : Back) : State := { sv with pool := { sv.pool with pages := [(0, 4)], backs := [(4, b)], nextBack := 5 } }
/-- A running sequence with a granted quantum whose next instruction is `w`, its sets covering offset 0 to 1 MiB. -/
def sq (w : Word) : Seq :=
  { num := 0, handle := 0, key := 1, stack := 0, bank := 0, gen := 1, reads := [(0, 0x100000)], locks := [(0, 0x100000)], prog := [w, 6], granted := true, stage := .running
    regs := { a := List.replicate 16 0, c := List.replicate 4 2, f := List.replicate 4 0, m := { v := List.replicate 32 0 }, l := { v := List.replicate 32 0 } } }
def bs (q : Seq) : State := { sv with bau := { sv.bau with seqs := [q] } }
/-- An image of one END at offset 0. -/
def imgS (s : State) : State :=
  storeLine (storeLine { s with pool := { s.pool with pages := [(0, 4)], backs := [(4, { loc := .t0 0 0 0 false })], nextBack := 5 } } 0 (ln [(0, 2, 1)]) false) 1 (ln [(0, 8, 6)]) false
/-- Gang 0 of logical unit 0, whose kernel holds the instruction `w`. -/
def gg : Gang := { launch := 9, index := 0, r := { active := 3 } }
def tgs (w : Word) (x : Gang) : State :=
  { sv with trs := { phys := [(0, (0, 0))], units := [(0, { gangs := [(0, x)] })], slots := [(16, { owner := 1, prog := [w], scratch := 1 })], launches := [(9, { slot := 16, key := 1, gangs := 1, next := 1, units := [0], args := [] })] } }
def trs0 (s : State) : State := { s with trs := { phys := [(0, (0, 0))], slots := [(16, { owner := 1, prog := [0x26], scratch := 1 })] } }
/-- A kernel image of one END. -/
def kimg : List Byte := natBytes 4 1 ++ List.replicate 60 (0 : Byte) ++ natBytes 8 0x26
/-- The same ports with ring 0 bound to port 0; a train whose only member is endpoint 100 here; its image; a tether plan; a path image. -/
def ph : State := regs pt [(ringBase 0 + 0x18, 6 + 6 * 256 + 2 ^ 16 + 2 ^ 40)]
def trn : TrainEnt := { id := 81920, gen := 1, owner := 1, count := 1, root := true, parent := none, children := 1, locals := [{ idx := 0, ep := 100 }], lowest := [] }
def trnS (s : State) (ts : List TrainRec) : State :=
  { s with train := { s.train with trains := ts.map (fun t => (t.ent.id.toNat, t)), masters := ts.map (fun t => (t.ent.id.toNat, { gen := 1, switches := [5], members := [(0, 100, 5)] })) } }
def timg : List Byte :=
  natBytes 2 1 ++ natBytes 2 1 ++ List.replicate 60 (0 : Byte) ++ natBytes 2 100 ++ natBytes 2 5 ++ List.replicate 28 (0 : Byte) ++
  natBytes 2 5 ++ natBytes 2 0xFFFF ++ natBytes 1 0xFF ++ List.replicate 3 (0 : Byte) ++ natBytes 16 1 ++ List.replicate 8 (0 : Byte)
def plan : List Byte :=
  [(1 : Byte), 5, 1, 0, 1, 0, 100, 0, 102, 0, 5, 0, 0, 0, 0, 0] ++ natBytes 8 (2 + 128 + 2 ^ 59) ++ List.replicate 40 (0 : Byte) ++ natBytes 2 5 ++ [(0 : Byte), 2] ++ List.replicate 12 (0 : Byte)
/-- A plan with one switch more. -/
def plan2 : List Byte :=
  [(2 : Byte), 5, 1, 0, 1, 0, 100, 0, 102, 0, 6, 0, 0, 0, 0, 0] ++ natBytes 8 (1 + 130 * 256 + 2 ^ 60) ++ List.replicate 40 (0 : Byte) ++ natBytes 2 5 ++ [(0 : Byte), 1] ++ List.replicate 12 (0 : Byte) ++ natBytes 2 6 ++ [(9 : Byte), 2] ++ List.replicate 12 (0 : Byte)
def pimg : List Byte :=
  natBytes 4 1 ++ List.replicate 60 (0 : Byte) ++ [(1 : Byte), 0, 7, 0, 0, 0, 0, 1] ++ natBytes 8 (1 + 128 + 2 ^ 59) ++ List.replicate 64 (0 : Byte)
/-- A descriptor of a collective of a kind, and an instance that waits for it. -/
def cd (kind fmt send len : Nat) : Line := ln [(8, 4, 81920), (12, 2, 0), (14, 1, kind), (15, 1, fmt), (48, 8, len)]
def cst (kind fmt len : Nat) (is : List Inst) : State :=
  let s := trnS (setHandle ph 0 (hr 0x4A (cd kind fmt 0 len))) [{ ent := trn }]
  { s with train := { s.train with insts := is } }
def ins0 (kind fmt len : Nat) (ps : List Post) : Inst := { rcd := { ent := trn }, seq := 0, par := Claims.Par (hr 0x4A (cd kind fmt 0 len)) kind, posts := ps }
def pst : Post := { member := 0, handle := 1, port := 0, key := 1, sendHost := false, recvHost := false, send := 0, recv := 0 }
def cel (tc : BitVec 3) : Cell := { src := 0, port := 0, tc := tc, key := 1, start := true, fin := true, bytes := 16 }
def tet : Tether := { id := 40960, st := .active, tc := 5, units := 1, home := false, owner := 1, src := 100, dst := 102, dsw := 5, bridle := BitVec.ofNat 64 (2 + 128 + 2 ^ 59), inPort := 0, outPort := 2, master := true }
/-- Trunk port 1 with a link; CXL host port 2 up; tray port 3 ready with page 0, a read of line 1 awaited. -/
def lk (l : Link) : State := { pt with link := { pt.link with links := [(1, l)] } }
def cxu (c : CxlPort) : State := setCxl pt 2 c
def tra : State :=
  setCxl { pt with pool := { pt.pool with pages := [(0, 4)], backs := [(4, { loc := .t1 3 0 16 })], nextBack := 5 }, coh := { pt.coh with reads := [⟨1, rq .rdNC 64, .cmpI, 0, false⟩] } } 3 { st := .memReady }
def tblk : TrainBlock := { lane := 0, crcOk := true, widthCap := 15, spareCap := true, encReq := false, encCap := false, eqDone := true, locked := true, switchId := 0, port := 9, epoch := 1 }
/-- Images that the key of hash `rootH` signed (made outside with the published algorithms): Nimpa, version 7, SVN 3; a policy module. -/
def rootH : Nat := 0x654b811f19e108eab70600d86aa5f04bfad296f7d87d69500977a9c8d122aa9478e155e5cfb05280eb82b571b14d9da1
def img1 : List Byte := natBytes 512 0xaa0e70f86d9670f053502fae2a6dce6fbad57c19816e5d7168ac1d0efe7770d74228795d76e5abcfe0ecd6dfde1019d861df9552c7a9965bf8640ebe6ee8e04f9e6eb99fd107d251d634f4a659590289f0975bc545002669d9d2a37b0599d9085f0eea907c1d437a9d817e1dceb1600ac0b8f0b51331dae97c149a28bd1df4f829dc9292bf989e5d6f2c26964ade1736b70a7672385e543a6c2955bf5df20255382a5482e041f759989ba78b623b1d6e74ad20f31ec7b18e37058bbe22ca87aa5bb99848f1d21ad5fb656fe7bfde4e27dae1f663bfc70c4c4307be1411b7fd216ae3b1b17e32d94c3896ac51a760b038000000000000000000000003000000070000000141504d4e
def img2 : List Byte := natBytes 512 0xe3d9927f96afcecb14bbb01ee6fbc03b3a2feb80edde7d07287db4fe78b234c00a3c511b2c961fb5aa59eafe833d3861df9552c7a9965bf8640ebe6ee8e04f9e6eb99fd107d251d634f4a659590289f0975bc545002669d9d2a37b0599d9085f0eea907c1d437a9d817e1dceb1600ac0b8f0b51331dae97c149a28bd1df4f829dc9292bf989e5d6f2c26964ade1736b70a7672385e543a6c2955bf5df20255382a5482e041f759989ba78b623b1d6e74ad20f31ec7b18e37058bbe22ca87aa5bb99848f1d21ad5fb656fe7bfde4e27dae1f663bfc70c4c4307be1411b7fd216ae3b1b17e32d94c3896ac51a760b038000000000000000000000000000000070000000241504d4e
/-- A mailbox command in progress, with its request words. -/
def mb (s : State) (cmd : Nat) (ws : List Nat) : State :=
  let t := regs s ((List.range ws.length).zip ws |>.map (fun e => (settleBase + 0x1000 + 8 * e.1, e.2)))
  let u := { t with settle := { t.settle with mbox := some cmd, svn := some 2, keys := [(0, rootH)] } }
  { u with regs := (List.range 6).foldl (fun r k => tblPut r (settleBase + 0x600 + 8 * k) (BitVec.ofNat 64 (rootH / 2 ^ (64 * k)))) u.regs }
/-- Registers laid down as they are (where the reset value is not known). -/
def rawRegs (s : State) (l : List (Nat × Nat)) : State := { s with regs := l.foldl (fun r e => tblPut r e.1 (BitVec.ofNat 64 e.2)) s.regs }
/-- CXL port 2 up, with one packet of a class waiting to leave, and what its schedulers choose. -/
def egp (tc : Nat) : EPkt := { num := 0, port := 2, tc := tc, tq := none, len := 16, body := .msg "x" [] }
def egs (tc : Nat) : State := { cxu { st := .linkUp } with cong := { pt.cong with egress := [egp tc] } }
def egPicks : List (Nat × List Cand × Cand × EPkt) := [0, 1, 2, 3, 5, 6].filterMap (fun tc => (chooseQueue (noteStalls (egs 6) (2 : PortId).val) (2 : PortId).val tc).map (fun q => (tc, q)))
def egCs : List Cand := egPicks.map (fun x => candOf (noteStalls (egs 6) (2 : PortId).val) (2 : PortId).val (classKey (2 : PortId).val x.1) (classParams (noteStalls (egs 6) (2 : PortId).val) (2 : PortId).val x.1) x.2.2.2)
def egC : Cand := (chooseCand egCs).getD ⟨0, 0, {}, 0, 0⟩
def egX : Nat × List Cand × Cand × EPkt := (egPicks.find? (fun x => classKey (2 : PortId).val x.1 == egC.key)).getD (0, [], egC, egp 6)
/-- A train entry without a role at the port that it names as its parent; a segment; a port's state after it gave back a credit. -/
def trnD : TrainEnt := { trn with root := false, parent := some 1 }
def trn2 : TrainEnt := { trn with children := 2 }
def sgm (src : SegFrom) (seg : Nat) : SegMsg := { train := 81920, gen := 1, seq := 0, par := { kind := 2 }, src := src, seg := seg }
def pkt (b : Nat) (k : Key) : Packet := { bridle := BitVec.ofNat 64 b, tc := 6, key := k, src := 7, dst := none, body := .msg "x" [] }

/-! ## Small checks against numbers of the spec and of published standards -/

/-- CRC-32C of "123456789" (the check value of the polynomial). -/
theorem test_crc32c : crc32c ([0x31, 0x32, 0x33, 0x34, 0x35, 0x36, 0x37, 0x38, 0x39] : List Byte) = 0xE3069283 := by decide +kernel
/-- SHA-384 of "abc" (FIPS 180-4). -/
theorem test_sha384 : bytesNat (sha384 ([0x61, 0x62, 0x63] : List Byte)).reverse =
    0xcb00753f45a35e8bb5a03d699ac65007272c32ab0eded1631a8b605a43ff5bed8086072ba1e7cc2358baeca134c825a7 := by decide +kernel
/-- The handle of sequence 3 of generation 2 of ring 1 (R40). -/
theorem test_handle : handleId 1 2 3 = 0x0012000000000003 := by decide
/-- EXTENT_REVOKE is admin; 0x04 is no opcode (R46). -/
theorem test_opcodes : ((opRow 0x11).map (·.admin)) = some true ∧ (opRow 0x04).isNone = true ∧ ((opRow 0x01).map (·.admin)) = some false := by decide
/-- FADD: +0 and -0 give +0, infinities of opposite sign the canonical quiet NaN, a sum that overflows an infinity (R141). -/
theorem test_fadd : fAddBits fp32 0 0x80000000 = 0 ∧ fAddBits fp32 0x7F800000 0xFF800000 = 0x7FC00000 ∧ fAddBits fp32 0x7F7FFFFF 0x7F7FFFFF = 0x7F800000 ∧
    fAddBits fp32 0x3F800000 0x40000000 = 0x40400000 := by decide +kernel
/-- The atomic minimum is signed, and an 8 B ADD wraps (R139). -/
theorem test_atomics : atomValue { op := 1, size := 0, fmt := 0, comb := false, noret := false, aseq := 0, a := 0xFFFFFFFF, b := 0 } 1 0xFFFFFFFF 0 = 0xFFFFFFFF ∧
    atomValue { op := 0, size := 1, fmt := 0, comb := false, noret := false, aseq := 0, a := 1, b := 0 } 0xFFFFFFFFFFFFFFFF 1 0 = 0 := by decide +kernel
/-- A 4 B REGISTER_WRITE at an odd offset changes no register but the access error's (R543). -/
theorem test_misaligned : flag (outState (exec (.registerWrite 0x600002 4 0xFFFF) sv)) (mgmtBase + 8) 0 = true ∧
    regGet (outState (exec (.registerWrite 0x600002 4 0xFFFF) sv)) 0x600000 = regGet sv 0x600000 := by decide +kernel
/-- NOP completes OK with both results 0 (R46). -/
theorem test_nop : ((handleOf (outState (exec (.nop 0) (lv sv 0x01 []))) 0).map (fun r => (r.phase, r.status, r.r0, r.r1))) = some (.committed, .ok, 0, 0) := by decide +kernel

/-! ## Witnesses for the statements about every command, registers, counters, doorbells, descriptors, records and memory -/

theorem wit_EmptyQueueIdles : State.reset.pending = [] := rfl
theorem wit_CommandsLeaveQueue : ∃ (c : Instr) (s t : State), exec c s = .next t := ⟨.memspecrd ⟨0, 0, 0⟩, sv, _, rfl⟩
theorem wit_CommandsAnswer_beyond : Claims.BeyondBar0 (.registerWrite 0x4000000 8 0) := .inl ⟨_, _, _, rfl, by decide⟩
theorem wit_CommandsAnswer_within : ¬ Claims.BeyondBar0 (.registerWrite 0x3FFFFF8 8 0) := by
  rintro (⟨_, _, _, h, k⟩ | ⟨_, _, h, _⟩ | ⟨_, _, h, _⟩) <;> cases h
  revert k; decide
theorem wit_StepKeepsMemoryForm : ∃ s t : State, s.Inv ∧ step s = .next t := ⟨State.reset, State.reset, rfl, rfl⟩
theorem wit_CountersCount_home : Claims.CounterAt 0x3F8178 := ⟨16, 15, .inl ⟨by decide, by decide, rfl⟩⟩
theorem wit_CountersCount_port : Claims.CounterAt 0x17FF58 := ⟨127, 11, .inr (.inr (.inr (.inr (.inr (.inr (.inr (.inr (.inl ⟨by decide, by decide, rfl⟩))))))))⟩
theorem wit_CountersCount_ones : regGet (regs sv [(0x3F8178, 2 ^ 64 - 1)]) 0x3F8178 = 0xFFFFFFFFFFFFFFFF := by decide +kernel
theorem wit_CountersCount_cold : sv.sys.porst = false ∧ sv.pwr.tripped = false := by decide
theorem wit_RingRegistersHeld : bar0Open sv = true ∧ (0x67FF98#32).toNat = ringBase 4095 + 8 * 3 ∧ (ringOf sv 4095).st = .disabled ∧ (0x600018#32).toNat = ringBase 0 + 8 * 3 ∧
    (ringOf sv 0).st ≠ .disabled ∧ alignedAccess (0x60001C#32).toNat 4 = true ∧ ringBase 0 ≤ (0x60001C#32).toNat ∧ (0x60001C#32).toNat < ringBase 0 + 32 ∧
    (0x680008#32).toNat = ringGlobal + 8 := by decide +kernel
theorem wit_DoorbellsDiscarded_port : Claims.Discards sv (some 0) 1 0 := .inr (.inl ⟨_, rfl, .inl (by decide +kernel)⟩)
/-- Ring 1, bound to host port 0 with key 1. -/
def hostRing : State := regs { pt with rings := { rings := [(1, { st := .active, enable := true })] } } [(ringBase 1 + 0x18, 6 + 6 * 256 + 2 ^ 16)]
theorem wit_DoorbellsDiscarded_mgmt : Claims.Discards hostRing none 1 (1 <<< 36) := .inl ⟨rfl, by decide +kernel⟩
theorem wit_DoorbellsDiscarded_key : Claims.Discards hostRing (some 0) 2 (1 <<< 36) := .inr (.inr (.inl ⟨_, rfl, by decide +kernel, by decide +kernel⟩))
theorem wit_DoorbellsDiscarded_ring : Claims.Discards sv none 1 (4095 <<< 36) := .inl ⟨rfl, by decide +kernel⟩
theorem wit_DoorbellsDiscarded_gen : Claims.Discards sv none 1 (1 <<< 48) := .inr (.inr (.inr (.inr (.inl (by decide +kernel)))))
theorem wit_DoorbellsDiscarded_reserved : Claims.Discards sv none 1 (1 <<< 63) := .inr (.inr (.inr (.inr (.inr (.inr (by decide +kernel))))))
theorem wit_DoorbellsDiscarded_cxl : isCxl pt (2 : PortId).val = true ∧ Claims.Discards pt (some 2) 1 0 := ⟨by decide +kernel, .inr (.inl ⟨_, rfl, .inl (by decide +kernel)⟩)⟩
theorem wit_DoorbellsDiscarded_host : Claims.Discards pt (some 0) 1 0 ∧ isCxl pt (0 : PortId).val = false ∧ isHostPort pt (0 : PortId).val = true ∧ ingressKey pt (0 : PortId).val 1 = true ∧
    dblWaits { creditBack pt (0 : PortId).val 4 with ord := { pt.ord with arrivals := pt.ord.arrivals + 1 } } (0 : PortId).val pt.ord.arrivals = false :=
  ⟨.inr (.inl ⟨_, rfl, .inl (by decide +kernel)⟩), by decide +kernel⟩
/-- Handle 0 of ring 0 whose descriptor is on its way. -/
def fetching : State := setHandle sv 0 { hr 0 0 with phase := .fetching }
theorem wit_DescriptorChecksInOrder : handleOf fetching (0 : Handle).toNat = some { hr 0 0 with phase := .fetching } ∧
    fetching.rings.handles.any (fun e => e.2.ring == 0 && e.2.phase == .fetching && decide (e.2.seq < 0)) = false := by decide +kernel
theorem wit_DescriptorChecksInOrder_key : dKey (ln [(0, 1, 1), (2, 2, 2)]) ≠ ringKey sv 0 := by decide +kernel
theorem wit_DescriptorChecksInOrder_opcode : dKey (ln [(0, 1, 0xFF), (2, 2, 1)]) = ringKey sv 0 ∧ (opRow (dOp (ln [(0, 1, 0xFF), (2, 2, 1)]))).isNone = true := by decide +kernel
theorem wit_DescriptorChecksInOrder_admin : dKey (ln [(0, 1, 0x13), (2, 2, 1)]) = ringKey (regs sv [(ringBase 0 + 0x18, 6 + 6 * 256 + 2 ^ 16 + 2 ^ 39)]) 0 ∧
    ((opRow (dOp (ln [(0, 1, 0x13), (2, 2, 1)]))).map (·.admin)) = some true ∧ ringAdmin (regs sv [(ringBase 0 + 0x18, 6 + 6 * 256 + 2 ^ 16 + 2 ^ 39)]) 0 = false := by decide +kernel
theorem wit_DescriptorChecksInOrder_reserved : dKey (ln [(0, 1, 1), (1, 1, 128), (2, 2, 1)]) = ringKey sv 0 ∧
    ((opRow (dOp (ln [(0, 1, 1), (1, 1, 128), (2, 2, 1)]))).bind (reservedFault (ln [(0, 1, 1), (1, 1, 128), (2, 2, 1)]))).isSome = true := by decide +kernel
theorem wit_DescriptorsWait : (startable sv (7 : Handle).toNat 0x01).isNone = true ∧ (compTurn sv (7 : Handle).toNat 0x10).isNone = true := by decide +kernel
theorem wit_DescriptorsWait_started : (compTurn (lv sv 0x10 []) (0 : Handle).toNat 0x10).isNone = true ∧ startable (lv sv 0x10 []) (0 : Handle).toNat 0x10 = some (hr 0x10 (ln [])) := by
  decide +kernel
/-- CTABLE_RETIRE of slot 0 with one generation of `n` references. -/
def retiring (n : Nat) : State :=
  { lv sv 0x3A [(8, 1, 0), (9, 1, 0)] with cmp := { slots := [(0, { owner := 1, cur := 1, gens := [{ num := 1, cxa := true, width := 8, refs := n, lengths := List.replicate 268 9 }] })] } }
theorem wit_RetireWithoutRecode_busy : startable (retiring 1) (0 : Handle).toNat 0x3A = some (hr 0x3A (ln [(8, 1, 0), (9, 1, 0)])) ∧ dFlag (ln [(8, 1, 0), (9, 1, 0)]) 2 = false ∧
    slotForeign (retiring 1) 0 1 = false ∧ slotLive (retiring 1) 0 = false ∧ namedGens (retiring 1) 0 0 = [1] ∧ genRefs (retiring 1) 0 1 ≠ 0 := by decide +kernel
theorem wit_RetireWithoutRecode_ok : startable (retiring 0) (0 : Handle).toNat 0x3A = some (hr 0x3A (ln [(8, 1, 0), (9, 1, 0)])) ∧ namedGens (retiring 0) 0 0 = [1] ∧
    genRefs (retiring 0) 0 1 = 0 := by decide +kernel
theorem wit_TransientsLimited_full : fld sv rasBase 4 12 ≤ Claims.TransientsNow { sv with ras := { transients := [(65536, (0, 16))] } } (1 * 65536 + 0) := by decide +kernel
theorem wit_TransientsLimited_below : Claims.TransientsNow { sv with ras := { transients := [(65536, (0, 15))] } } (1 * 65536 + 0) < fld sv rasBase 4 12 := by decide +kernel
/-- A buffered write of line 1, whose page is backed by page 4 or by none. -/
def buffered (s : State) : State := { s with coh := { s.coh with wbBuf := [⟨1, 100, 5, false⟩] } }
theorem wit_MemoryWriteStoresOneLine : lineServed (buffered (bk { loc := .t1 0 0 16 })) ((64 : PoolOff).toNat / 64) = true ∧
    (buffered (bk { loc := .t1 0 0 16 })).coh.wbBuf.find? (fun w => w.line == (64 : PoolOff).toNat / 64) = some ⟨1, 100, 5, false⟩ ∧
    backIdOf (buffered (bk { loc := .t1 0 0 16 })) ((64 : PoolOff).toNat / 64 / 1024) = some 4 ∧ backById (buffered (bk { loc := .t1 0 0 16 })) 4 = some { loc := .t1 0 0 16 } ∧
    memRead (outState (execMemoryWriteDone 64 (buffered (bk { loc := .t1 0 0 16 })))).pool.cells (4 * 65536 + 64) = 5 := by decide +kernel
theorem wit_MemoryWriteStoresOneLine_unbacked : lineServed (buffered sv) ((64 : PoolOff).toNat / 64) = true ∧
    (buffered sv).coh.wbBuf.find? (fun w => w.line == (64 : PoolOff).toNat / 64) = some ⟨1, 100, 5, false⟩ ∧ (backIdOf (buffered sv) ((64 : PoolOff).toNat / 64 / 1024)).isNone = true := by
  decide +kernel
theorem wit_MalformedAtomicRefused : ∃ (s : State) (src : Endpoint) (tag : BitVec 14) (r : Req), inboxReq s [.atomFar] src tag = some r ∧ Claims.Clear s r ∧ r.kind = .atomFar ∧
    atomMalformed r.atom (r.addr.toNat % 64) = true :=
  ⟨inb { rq .atomFar 64 with atom := { (rq .atomFar 64).atom with op := 0xB } }, 100, 3, { rq .atomFar 64 with atom := { (rq .atomFar 64).atom with op := 0xB } },
    by refine ⟨?_, ?_, ?_, ?_⟩ <;> first | (unfold Claims.Clear; decide +kernel) | decide +kernel | rfl⟩

/-! ## Witnesses for the rows -/

theorem wit_registerWrite : ∃ (s : State) (off : BitVec 32) (data : Word), bar0Open s = true ∧ off.toNat < 67108864 ∧ off.toNat % 8 = 0 ∧ off.toNat ≠ settleBase + 0x400 :=
  ⟨sv, 0x33000, 1, by refine ⟨?_, ?_, ?_, ?_⟩ <;> decide +kernel⟩

theorem wit_lowWordRead : ∃ (s : State) (q : BitVec 16) (off : BitVec 32), bar0Open s = true ∧ off.toNat < 67108864 ∧ off.toNat % 8 = 0 :=
  ⟨sv, 0, 0x33000, by refine ⟨?_, ?_, ?_⟩ <;> decide +kernel⟩

theorem wit_setupOpenClose : ∃ (s : State) (off : BitVec 32) (data : Word) (bit : Nat), bar0Open s = true ∧ off.toNat < 0x4000000 ∧ (off.toNat < 0x100000 ∨ 0x180000 ≤ off.toNat) ∧ (regInfo (regHome s off.toNat)).bind (·.setupAt) = some (regHome s off.toNat, bit) ∧ data.getLsbD bit = true :=
  ⟨sv, 0x40000, 1, 0, by refine ⟨?_, ?_, ?_, ?_, ?_⟩ <;> decide +kernel⟩

theorem wit_serve : ∃ (s : State), bar0Open s = true ∧ canServe s = true :=
  ⟨regs { sv with sys := { sv.sys with st := .setup } } (serveLocks.map (fun a => (a, 0))), by refine ⟨?_, ?_⟩ <;> decide +kernel⟩

theorem wit_tenantCtlWrite : ∃ (s : State) (t : Fin 4096) (data : Word) (k : Key), bar0Open s = true ∧ (tblGet s.pool.tenants t.val {}).valid = false ∧ data.getLsbD 16 = true ∧ data.extractLsb' 0 16 = k ∧ tenantAllowed s t.val k = true :=
  ⟨sv, 7, 0x10003, 3, by refine ⟨?_, ?_, ?_, ?_, ?_⟩ <;> decide +kernel⟩

theorem wit_portKeyWrite : ∃ (s : State) (p : PortId) (e : Fin 64) (data : Word), bar0Open s = true :=
  ⟨sv, 127, 63, 0, by decide +kernel⟩

theorem wit_policerWrite : ∃ (s : State) (p : PortId) (i : Fin 64) (w0 : Word) (w1 : Word), bar0Open s = true :=
  ⟨sv, 127, 63, 0, 0, by decide +kernel⟩

theorem wit_wredProfileWrite : ∃ (s : State) (i : Fin 16) (data : Word), bar0Open s = true ∧ bitsOf data.toNat 0 16 < bitsOf data.toNat 16 16 :=
  ⟨sv, 15, 0x10000, by refine ⟨?_, ?_⟩ <;> decide +kernel⟩

theorem wit_boardRead : ∃ (s : State) (off : BitVec 32), boardAnswers s = true ∧ boardReadable off.toNat = true ∧ stackInReset s off.toNat = false :=
  ⟨sv, 0x40008, by refine ⟨?_, ?_, ?_⟩ <;> decide +kernel⟩

theorem wit_boardWrite_1 : ∃ (s : State) (data : Word), boardAnswers s = true ∧ data.toNat % 8 ≠ 0 :=
  ⟨sv, 7, by refine ⟨?_, ?_⟩ <;> decide +kernel⟩

theorem wit_boardWrite_2 : ∃ (s : State) (data : Word), boardAnswers s = true ∧ data.getLsbD 0 = true :=
  ⟨sv, 1, by refine ⟨?_, ?_⟩ <;> decide +kernel⟩

theorem wit_boardWrite_3 : ∃ (s : State) (data : Word) (off : BitVec 32), boardAnswers s = true ∧ off.toNat ≠ mgmtBase + 0x110 ∧ off.toNat ≠ rasBase + 8 :=
  ⟨sv, 0, 0, by refine ⟨?_, ?_, ?_⟩ <;> decide +kernel⟩

theorem wit_msixUnmask : ∃ (s : State) (v : Fin 2048), flag s (msixBase + 16 * v.val + 8) 32 = true :=
  ⟨sv, 2047, by decide +kernel⟩

theorem wit_ringEnable : ∃ (s : State) (n : RingId), (ringOf s n.val).st = .disabled ∧ enableValid s n.val = true ∧ (ringOf s n.val).old = [] :=
  ⟨regs { sv with rings := {} } [(ringBase 0, 0x100000), (ringBase 0 + 8, 0x180000), (ringBase 0 + 0x10, 0x1C0000)], 0, by refine ⟨?_, ?_, ?_⟩ <;> decide +kernel⟩

theorem wit_ringDisable : ∃ (s : State) (n : RingId), (ringOf s n.val).st = .active :=
  ⟨sv, 0, by decide +kernel⟩

theorem wit_resume : ∃ (s : State) (n : RingId), (ringOf s n.val).st = .halted ∧ (ringOf s n.val).closing = false :=
  ⟨{ sv with rings := { rings := [(0, { st := .halted, enable := true })] } }, 0, by refine ⟨?_, ?_⟩ <;> decide +kernel⟩

theorem wit_ringDrained : ∃ (s : State) (n : RingId), (ringOf s n.val).st = .draining ∧ liveCount s n.val = 0 ∧ (ringOf s n.val).commits = [] :=
  ⟨{ sv with rings := { rings := [(0, { st := .draining })] } }, 0, by refine ⟨?_, ?_, ?_⟩ <;> decide +kernel⟩

theorem wit_doorbell : ∃ (s : State) (key : Key) (w : Word), doorbellValid s none key w = true :=
  ⟨sv, 1, 1, by decide +kernel⟩

theorem wit_descriptorFetch : ∃ (s : State) (n : Nat), s.sys.st = .serving ∧ s.settle.boot = .running ∧ liveTotal s < 262144 ∧ nextRing s = some n :=
  ⟨{ sv with rings := { rings := [(0, { st := .active, enable := true, tail := 1 })] } }, 0, by refine ⟨?_, ?_, ?_, ?_⟩ <;> decide +kernel⟩

theorem wit_descriptorArrive : ∃ (s : State) (h : Handle) (r : HandleRec) (d : Line), handleOf s h.toNat = some r ∧ r.phase = .fetching ∧ s.rings.handles.any (fun e => e.2.ring == r.ring && e.2.phase == .fetching && decide (e.2.seq < r.seq)) = false :=
  ⟨setHandle sv 0 { hr 0 0 with phase := .fetching }, 0, { hr 0 0 with phase := .fetching }, 0, by refine ⟨?_, ?_, ?_⟩ <;> decide +kernel⟩

theorem wit_hostImageReadDone : ∃ (s : State) (h : HRef) (r : HandleRec) (b : List Byte), handleOf s h.toNat = some r ∧ r.phase = .live ∧ r.image = none ∧ r.imagePoison = false :=
  ⟨lv sv 0x14 [], 0, hr 0x14 (ln []), [], by refine ⟨?_, ?_, ?_, ?_⟩ <;> decide +kernel⟩

theorem wit_latchSet : ∃ (s : State) (h : HRef) (r : HandleRec) (st : Status) (a : Word) (b : Word), handleOf s h.toNat = some r ∧ r.sentTo = none ∧ r.fin = some (st, a, b) ∧ bauEnding s h.toNat = false ∧ r.opcode ≠ 0x4A :=
  ⟨setHandle sv 0 { hr 1 0 with fin := some (.ok, 7, 0) }, 0, { hr 1 0 with fin := some (.ok, 7, 0) }, .ok, 7, 0, by refine ⟨?_, ?_, ?_, ?_, ?_⟩ <;> decide +kernel⟩

theorem wit_completionRecordWrite : ∃ (s : State) (n : RingId) (h : Nat) (hs : List Nat), (ringOf s n.val).st = .active ∧ (ringOf s n.val).old = [] ∧ (ringOf s n.val).commits = h :: hs ∧ recordDue s h = true :=
  ⟨setHandle { sv with rings := { rings := [(0, { st := .active, enable := true, commits := [0] })] } } 0 { hr 1 0 with phase := .committed, ready := true }, 0, 0, [], by refine ⟨?_, ?_, ?_, ?_⟩ <;> decide +kernel⟩

theorem wit_notification : ∃ (s : State) (n : RingId), (ringOf s n.val).notifyPend = true ∧ (ringOf s n.val).lastNotify = none ∧ ringMgmt s n.val = true :=
  ⟨{ sv with rings := { rings := [(0, { st := .active, notifyPend := true })] } }, 0, by refine ⟨?_, ?_, ?_⟩ <;> decide +kernel⟩

theorem wit_abortStopPoint : ∃ (s : State) (h : HRef) (r : HandleRec), handleOf s h.toNat = some r ∧ r.abortWon = true ∧ r.phase = .committed ∧ r.ready = false ∧ atStop s h.toNat r = true :=
  ⟨setHandle sv 0 { hr 0x58 0 with phase := .committed, abortWon := true }, 0, { hr 0x58 0 with phase := .committed, abortWon := true }, by refine ⟨?_, ?_, ?_, ?_, ?_⟩ <;> decide +kernel⟩

theorem wit_heldRecordDrop : ∃ (s : State) (n : RingId) (t : Nat), (ringOf s n.val).oldDue = some t ∧ (ringOf s n.val).st = .disabled ∧ t ≤ s.now :=
  ⟨{ sv with rings := { rings := [(0, { old := [3], oldDue := some 5 })] }, now := 5 }, 0, 5, by refine ⟨?_, ?_, ?_⟩ <;> decide +kernel⟩

theorem wit_nop : ∃ (s : State) (h : Handle) (r : HandleRec), startable s h.toNat 0x01 = some r :=
  ⟨lv sv 1 [], 0, hr 1 (ln []), by decide +kernel⟩

theorem wit_abort : ∃ (s : State) (h : HRef) (r : HandleRec) (x : HandleRec) (row : OpRow), startable s h.toNat 0x02 = some r ∧ handleKeyOk s r.key (namedHandle r) = true ∧ handleOf s (namedHandle r) = some x ∧ x.phase = .live ∧ x.sentTo = none ∧ opRow x.opcode = some row ∧ row.abort = true ∧ x.fin = none :=
  ⟨setHandle (setHandle sv 0 { hr 0x58 0 with started := true }) 1 { hr 2 (ln [(8, 8, 0)]) with seq := 1 }, 1, { hr 2 (ln [(8, 8, 0)]) with seq := 1 }, { hr 0x58 0 with started := true }, ⟨0x58, true, true, false, false, 3⟩, by refine ⟨?_, ?_, ?_, ?_, ?_, ?_, ?_, ?_⟩ <;> decide +kernel⟩

theorem wit_queryHandle : ∃ (s : State) (h : Handle) (r : HandleRec) (x : HandleRec), startable s h.toNat 0x03 = some r ∧ handleKeyOk s r.key (namedHandle r) = true ∧ handleOf s (namedHandle r) = some x ∧ x.sentTo = none :=
  ⟨setHandle (setHandle sv 0 { hr 0x58 0 with started := true }) 1 { hr 3 (ln [(8, 8, 0)]) with seq := 1 }, 1, { hr 3 (ln [(8, 8, 0)]) with seq := 1 }, { hr 0x58 0 with started := true }, by refine ⟨?_, ?_, ?_, ?_⟩ <;> decide +kernel⟩

theorem wit_extentCreate : ∃ (s : State) (u : State) (h : Handle) (r : HandleRec) (e : MapEntry) (c : Change), compTurn s h.toNat 0x10 = some r ∧ dFlag r.desc 2 = true ∧ e = { kind := 1, access := d8 r.desc 14, key := dKeyAt r.desc 12, id := d32 r.desc 8, base := d64 r.desc 16, len := d64 r.desc 24, tiers := d8 r.desc 15, init := d8 r.desc 32, reserve := dFlag r.desc 3 } ∧ entryApply s (emptyChange s (some h.toNat)) e = .ok (some c) ∧ reserveAll c c.reserve s = .ok u :=
  ⟨cp sv 0x10 [(1, 1, 4), (8, 4, 2), (12, 2, 2), (14, 1, 1), (15, 1, 7), (16, 8, 0x1000000), (24, 8, 0x10000)], cp sv 0x10 [(1, 1, 4), (8, 4, 2), (12, 2, 2), (14, 1, 1), (15, 1, 7), (16, 8, 0x1000000), (24, 8, 0x10000)], 0, hr 0x10 (ln [(1, 1, 4), (8, 4, 2), (12, 2, 2), (14, 1, 1), (15, 1, 7), (16, 8, 0x1000000), (24, 8, 0x10000)]), entC (ln [(1, 1, 4), (8, 4, 2), (12, 2, 2), (14, 1, 1), (15, 1, 7), (16, 8, 0x1000000), (24, 8, 0x10000)]), chg (cp sv 0x10 [(1, 1, 4), (8, 4, 2), (12, 2, 2), (14, 1, 1), (15, 1, 7), (16, 8, 0x1000000), (24, 8, 0x10000)]) 0 (entC (ln [(1, 1, 4), (8, 4, 2), (12, 2, 2), (14, 1, 1), (15, 1, 7), (16, 8, 0x1000000), (24, 8, 0x10000)])), by refine ⟨?_, ?_, ?_, ?_, ?_⟩ <;> first | decide +kernel | rfl⟩

theorem wit_extentGrant : ∃ (s : State) (u : State) (h : Handle) (r : HandleRec) (e : MapEntry) (c : Change), compTurn s h.toNat 0x10 = some r ∧ dFlag r.desc 2 = false ∧ dFlag r.desc 3 = false ∧ e = { kind := 2, access := d8 r.desc 14, key := dKeyAt r.desc 12, id := d32 r.desc 8, base := 0, len := 0, tiers := 0, init := 0, reserve := false } ∧ entryApply s (emptyChange s (some h.toNat)) e = .ok (some c) ∧ reserveAll c c.reserve s = .ok u :=
  ⟨cp sv 0x10 [(8, 4, 1), (12, 2, 2), (14, 1, 1)], cp sv 0x10 [(8, 4, 1), (12, 2, 2), (14, 1, 1)], 0, hr 0x10 (ln [(8, 4, 1), (12, 2, 2), (14, 1, 1)]), entG (ln [(8, 4, 1), (12, 2, 2), (14, 1, 1)]), chg (cp sv 0x10 [(8, 4, 1), (12, 2, 2), (14, 1, 1)]) 0 (entG (ln [(8, 4, 1), (12, 2, 2), (14, 1, 1)])), by refine ⟨?_, ?_, ?_, ?_, ?_, ?_⟩ <;> first | decide +kernel | rfl⟩

theorem wit_extentRevoke : ∃ (s : State) (u : State) (h : Handle) (r : HandleRec) (e : MapEntry) (c : Change), compTurn s h.toNat 0x11 = some r ∧ e = { kind := 3, access := 0, key := dKeyAt r.desc 12, id := d32 r.desc 8, base := 0, len := 0, tiers := 0, init := 0, reserve := false } ∧ entryApply s (emptyChange s (some h.toNat)) e = .ok (some c) ∧ reserveAll c c.reserve s = .ok u :=
  ⟨cp sv 0x11 [(8, 4, 1), (12, 2, 1)], cp sv 0x11 [(8, 4, 1), (12, 2, 1)], 0, hr 0x11 (ln [(8, 4, 1), (12, 2, 1)]), entR (ln [(8, 4, 1), (12, 2, 1)]), chg (cp sv 0x11 [(8, 4, 1), (12, 2, 1)]) 0 (entR (ln [(8, 4, 1), (12, 2, 1)])), by refine ⟨?_, ?_, ?_, ?_⟩ <;> first | decide +kernel | rfl⟩

theorem wit_extentResize : ∃ (s : State) (u : State) (h : Handle) (r : HandleRec) (e : MapEntry) (c : Change), compTurn s h.toNat 0x12 = some r ∧ e = { kind := 5, access := 0, key := 0, id := d32 r.desc 8, base := 0, len := d64 r.desc 16, tiers := 0, init := 0, reserve := false, anyKey := true } ∧ entryApply s (emptyChange s (some h.toNat)) e = .ok (some c) ∧ reserveAll c c.reserve s = .ok u :=
  ⟨cp sv 0x12 [(8, 4, 1), (16, 8, 0x1000)], cp sv 0x12 [(8, 4, 1), (16, 8, 0x1000)], 0, hr 0x12 (ln [(8, 4, 1), (16, 8, 0x1000)]), entS (ln [(8, 4, 1), (16, 8, 0x1000)]), chg (cp sv 0x12 [(8, 4, 1), (16, 8, 0x1000)]) 0 (entS (ln [(8, 4, 1), (16, 8, 0x1000)])), by refine ⟨?_, ?_, ?_, ?_⟩ <;> first | decide +kernel | rfl⟩

theorem wit_quotaSet : ∃ (s : State) (t : State) (h : Handle) (r : HandleRec), startable s h.toNat 0x13 = some r ∧ [16, 24, 32].find? (fun o => d64 r.desc o != 0xFFFFFFFFFFFFFFFF && d64 r.desc o % 65536 != 0) = none ∧ isTenant s (dKeyAt r.desc 8) = true ∧ quotaLive s h.toNat (dKeyAt r.desc 8) = false ∧ t = markStarted { s with pool := { s.pool with tenants := s.pool.tenants.map (fun e => if e.2.valid ∧ e.2.key = dKeyAt r.desc 8 then (e.1, { e.2 with q0 := quotaVal (d64 r.desc 16), q1 := quotaVal (d64 r.desc 24), q2 := quotaVal (d64 r.desc 32) }) else e) } } h.toNat ∧ [Tier.t0, .t1, .t2].any (overQuota t (dKeyAt r.desc 8)) = false :=
  ⟨lv sv 0x13 [(8, 2, 1), (16, 8, 0x10000), (24, 8, 0xFFFFFFFFFFFFFFFF), (32, 8, 0)], markStarted { lv sv 0x13 [(8, 2, 1), (16, 8, 0x10000), (24, 8, 0xFFFFFFFFFFFFFFFF), (32, 8, 0)] with pool := { (lv sv 0x13 [(8, 2, 1), (16, 8, 0x10000), (24, 8, 0xFFFFFFFFFFFFFFFF), (32, 8, 0)]).pool with tenants := (lv sv 0x13 [(8, 2, 1), (16, 8, 0x10000), (24, 8, 0xFFFFFFFFFFFFFFFF), (32, 8, 0)]).pool.tenants.map (fun e => if e.2.valid ∧ e.2.key = dKeyAt (ln [(8, 2, 1), (16, 8, 0x10000), (24, 8, 0xFFFFFFFFFFFFFFFF), (32, 8, 0)]) 8 then (e.1, { e.2 with q0 := quotaVal (d64 (ln [(8, 2, 1), (16, 8, 0x10000), (24, 8, 0xFFFFFFFFFFFFFFFF), (32, 8, 0)]) 16), q1 := quotaVal (d64 (ln [(8, 2, 1), (16, 8, 0x10000), (24, 8, 0xFFFFFFFFFFFFFFFF), (32, 8, 0)]) 24), q2 := quotaVal (d64 (ln [(8, 2, 1), (16, 8, 0x10000), (24, 8, 0xFFFFFFFFFFFFFFFF), (32, 8, 0)]) 32) }) else e) } } 0, 0, hr 0x13 (ln [(8, 2, 1), (16, 8, 0x10000), (24, 8, 0xFFFFFFFFFFFFFFFF), (32, 8, 0)]), by refine ⟨?_, ?_, ?_, ?_, ?_, ?_⟩ <;> decide +kernel⟩

theorem wit_quotaDemotionEnd : ∃ (s : State) (t : State) (h : Handle) (q : QuotaOp), s.pool.quotaOps.find? (fun q => q.handle == h.toNat) = some q ∧ s.tier.ops = [] ∧ [Tier.t0, .t1, .t2].any (overQuota s q.key) = false ∧ t = { s with pool := { s.pool with quotaOps := s.pool.quotaOps.erase q } } ∧ s.tier.chunks = [] :=
  ⟨{ sv with pool := { sv.pool with quotaOps := [{ handle := 0, key := 1, rate := 16 }] } }, sv, 0, { handle := 0, key := 1, rate := 16 }, by refine ⟨?_, ?_, ?_, ?_, ?_⟩ <;> decide +kernel⟩

theorem wit_mapCommit : ∃ (s : State) (h : Handle) (r : HandleRec) (b : List Byte) (c : Change), compTurn s h.toNat 0x14 = some r ∧ d64 r.desc 8 % 64 = 0 ∧ d32 r.desc 16 % 32 = 0 ∧ 32 ≤ d32 r.desc 16 ∧ d32 r.desc 16 ≤ 131072 ∧ r.imagePoison = false ∧ r.image = some b ∧ crc32c (b.take (d32 r.desc 16)) = d32 r.desc 24 ∧ (d32 r.desc 20 = 0 ∨ d32 r.desc 20 = gen32 s.pool.gen) ∧ imageApply s b (List.range (d32 r.desc 16 / 32)) (emptyChange s (some h.toNat)) = .inr c :=
  ⟨setHandle (cp sv 0x14 []) 0 { hr 0x14 (ln [(16, 4, 32), (24, 4, crc32c ([(3 : Byte), 0, 1, 0] ++ natBytes 4 1 ++ List.replicate 24 (0 : Byte)))]) with image := some ([(3 : Byte), 0, 1, 0] ++ natBytes 4 1 ++ List.replicate 24 (0 : Byte)) }, 0, { hr 0x14 (ln [(16, 4, 32), (24, 4, crc32c ([(3 : Byte), 0, 1, 0] ++ natBytes 4 1 ++ List.replicate 24 (0 : Byte)))]) with image := some ([(3 : Byte), 0, 1, 0] ++ natBytes 4 1 ++ List.replicate 24 (0 : Byte)) }, ([(3 : Byte), 0, 1, 0] ++ natBytes 4 1 ++ List.replicate 24 (0 : Byte)), inrOf { handle := none } (imageApply (setHandle (cp sv 0x14 []) 0 { hr 0x14 (ln [(16, 4, 32), (24, 4, crc32c ([(3 : Byte), 0, 1, 0] ++ natBytes 4 1 ++ List.replicate 24 (0 : Byte)))]) with image := some ([(3 : Byte), 0, 1, 0] ++ natBytes 4 1 ++ List.replicate 24 (0 : Byte)) }) ([(3 : Byte), 0, 1, 0] ++ natBytes 4 1 ++ List.replicate 24 (0 : Byte)) (List.range (d32 ({ hr 0x14 (ln [(16, 4, 32), (24, 4, crc32c ([(3 : Byte), 0, 1, 0] ++ natBytes 4 1 ++ List.replicate 24 (0 : Byte)))]) with image := some ([(3 : Byte), 0, 1, 0] ++ natBytes 4 1 ++ List.replicate 24 (0 : Byte)) }).desc 16 / 32)) (emptyChange (setHandle (cp sv 0x14 []) 0 { hr 0x14 (ln [(16, 4, 32), (24, 4, crc32c ([(3 : Byte), 0, 1, 0] ++ natBytes 4 1 ++ List.replicate 24 (0 : Byte)))]) with image := some ([(3 : Byte), 0, 1, 0] ++ natBytes 4 1 ++ List.replicate 24 (0 : Byte)) }) (some (0 : Handle).toNat))), by refine ⟨?_, ?_, ?_, ?_, ?_, ?_, ?_, ?_, ?_, ?_⟩ <;> decide +kernel⟩

theorem wit_mapGenPublish : ∃ (s : State) (t : State) (c : Change) (h : Nat) (r : HandleRec), s.pool.ready = some c ∧ c.handle = some h ∧ handleOf s h = some r ∧ r.phase = .live ∧ (undrainedAfter s c.affected).length < 15 ∧ c.newRanges.any (meetsFreeing s) = false ∧ reserveAll c c.reserve s = .ok t :=
  ⟨setHandle { sv with pool := { sv.pool with ready := some { handle := some 0 } } } 0 (hr 0x10 0), setHandle { sv with pool := { sv.pool with ready := some { handle := some 0 } } } 0 (hr 0x10 0), { handle := some 0 }, 0, hr 0x10 0, by refine ⟨?_, ?_, ?_, ?_, ?_, ?_, ?_⟩ <;> first | decide +kernel | rfl⟩

theorem wit_generationDrained : ∃ (s : State) (g : BitVec 32) (n : Nat), s.pool.undrained.find? (fun n => gen32 n == g.toNat) = some n ∧ undrainedGen s s.pool.affected n = false :=
  ⟨{ sv with pool := { sv.pool with undrained := [1] } }, 1, 1, by refine ⟨?_, ?_⟩ <;> decide +kernel⟩

theorem wit_compositionComplete : ∃ (s : State) (g : BitVec 32) (c : Change), s.pool.open_.find? (fun c => gen32 c.gen == g.toNat) = some c ∧ s.pool.flights.any (fun f => f.gen < c.gen && c.removed.any (fun r => flightIn f (r.1, r.2.1))) = false ∧ recallDone s c.tag = true ∧ recallDone (moreRecalls s c) c.tag = true :=
  ⟨{ sv with pool := { sv.pool with open_ := [{ handle := some 0, gen := 2 }] } }, 2, { handle := some 0, gen := 2 }, by refine ⟨?_, ?_, ?_, ?_⟩ <;> decide +kernel⟩

theorem wit_pageFreeScrub : ∃ (s : State) (back : BitVec 48) (b : Back), s.pool.toFree = [] ∧ s.pool.scrub.contains back.toNat = true ∧ backById s back.toNat = some b ∧ b.moving = false ∧ b.lost = false ∧ b.copy = none :=
  ⟨{ sv with pool := { sv.pool with backs := [(4, { loc := .t0 0 0 0 false })], scrub := [4] } }, 4, { loc := .t0 0 0 0 false }, by refine ⟨?_, ?_, ?_, ?_, ?_, ?_⟩ <;> decide +kernel⟩

theorem wit_xlateCacheFill : ∃ (s : State) (p : PortId) (src : Endpoint) (tag : BitVec 14) (r : Req), s.pool.xlateWait.find? (fun r => r.port == p && r.src == src && r.tag == tag) = some r ∧ s.pool.xlateWait.find? (oneStream r) = some r :=
  ⟨{ sv with pool := { sv.pool with xlateWait := [rq .rdNC 64] } }, 0, 100, 3, rq .rdNC 64, by refine ⟨?_, ?_⟩ <;> decide +kernel⟩

theorem wit_pageAgeTick : ∃ (s : State), s.pool.lastAgeTick + 1000000 * fld s 0x7F08 0 16 ≤ s.now :=
  ⟨{ sv with now := 1000000000000 }, by decide +kernel⟩

theorem wit_requestIngress : ∃ (s : State) (r : Req), takesRequests s r.port.val = true ∧ internal r = false ∧ r.badSlots = false ∧ (r.tc = 6 ∨ r.tc = 5) ∧ ingressKey s r.port.val r.key = true ∧ (isHostPort s r.port.val = true ∨ ckeyBad r.key r.checked = false) :=
  ⟨pt, rq .rdNC 64, by refine ⟨?_, ?_, ?_, ?_, ?_, ?_⟩ <;> decide +kernel⟩

theorem wit_fenceall : ∃ (s : State) (p : PortId) (src : Endpoint), isHostPort s p.val = true ∧ isCxl s p.val = false ∧ portEp s p.val = src :=
  ⟨pt, 0, 100, by refine ⟨?_, ?_, ?_⟩ <;> decide +kernel⟩

theorem wit_fencewr : ∃ (s : State) (p : PortId) (src : Endpoint), isHostPort s p.val = true ∧ isCxl s p.val = false ∧ portEp s p.val = src :=
  ⟨pt, 0, 100, by refine ⟨?_, ?_, ?_⟩ <;> decide +kernel⟩

theorem wit_fencesync : ∃ (s : State) (p : PortId) (src : Endpoint), isHostPort s p.val = true ∧ isCxl s p.val = false ∧ portEp s p.val = src :=
  ⟨pt, 0, 100, by refine ⟨?_, ?_, ?_⟩ <;> decide +kernel⟩

theorem wit_requestRetire : ∃ (s : State) (src : Endpoint) (tag : BitVec 14) (d : Done), unitWaits s src tag.toNat = false ∧ s.coh.toRetire.find? (fun d => d.src == src && d.tag == tag.toNat) = some d :=
  ⟨{ sv with coh := { sv.coh with toRetire := [{ port := 0, src := 100, tag := 3, cmp := .cmpI }] } }, 100, 3, { port := 0, src := 100, tag := 3, cmp := .cmpI }, by refine ⟨?_, ?_⟩ <;> decide +kernel⟩

theorem wit_heldRequestRelease : ∃ (s : State) (src : Endpoint) (tag : BitVec 14) (o : Out), outOf s src tag.toNat = some o ∧ o.released = false ∧ o.throttled = false ∧ o.checked = true ∧ o.refused = none ∧ hostReq s o.req = true ∧ heldBack s o.req = false :=
  ⟨{ pt with ord := { pt.ord with outs := [{ req := rq .rdNC 64, released := false }] } }, 100, 3, { req := rq .rdNC 64, released := false }, by refine ⟨?_, ?_, ?_, ?_, ?_, ?_, ?_⟩ <;> decide +kernel⟩

theorem wit_atomicWindowRelease : ∃ (s : State) (src : Endpoint) (tag : BitVec 14) (o : Out), outOf s src tag.toNat = some o ∧ o.released = false ∧ o.throttled = false ∧ o.checked = true ∧ o.refused = none ∧ hostReq s o.req = true ∧ heldBack s o.req = false :=
  ⟨{ pt with ord := { pt.ord with outs := [{ req := rq .atomFar 64, released := false }] } }, 100, 3, { req := rq .atomFar 64, released := false }, by refine ⟨?_, ?_, ?_, ?_, ?_, ?_, ?_⟩ <;> decide +kernel⟩

theorem wit_atomretire : ∃ (s : State) (p : PortId) (src : Endpoint) (key : Key) (home : BitVec 12) (rseq : BitVec 16), ingressKey s p.val key = true ∧ isHostPort s p.val = false ∧ home.toNat = switchId s :=
  ⟨pt, 1, 7, 1, 5, 9, by refine ⟨?_, ?_, ?_⟩ <;> decide +kernel⟩

theorem wit_throttleIncreaseTick : ∃ (s : State), s.cong.lastInc + 1000 * fld s 0x34008 24 8 ≤ s.now :=
  ⟨{ sv with now := 1000000 }, by decide +kernel⟩

theorem wit_throttleRelease : ∃ (s : State) (u : State) (src : Endpoint) (tag : BitVec 14) (o : Out), outOf s src tag.toNat = some o ∧ o.throttled = true ∧ o.released = false ∧ meter s o.req = some u :=
  ⟨{ pt with ord := { pt.ord with outs := [{ req := rq .rdNC 64, released := false, throttled := true }] } }, { pt with ord := { pt.ord with outs := [{ req := rq .rdNC 64, released := false, throttled := true }] } }, 100, 3, { req := rq .rdNC 64, released := false, throttled := true }, by refine ⟨?_, ?_, ?_, ?_⟩ <;> decide +kernel⟩

theorem wit_rdnc : ∃ (s : State) (src : Endpoint) (tag : BitVec 14) (r : Req), inboxReq s [.rdNC] src tag = some r ∧ Claims.Clear s r ∧ r.kind = .rdNC ∧ (dirAt s (reqLine r) = none ∨ ∃ e, dirAt s (reqLine r) = some e ∧ ownerOf e = none) :=
  ⟨inb (rq .rdNC 64), 100, 3, rq .rdNC 64, by refine ⟨?_, ?_, ?_, ?_⟩ <;> first | decide +kernel | exact ok_get (by decide +kernel) | (unfold Claims.Clear; decide +kernel) | rfl⟩

theorem wit_rdshared : ∃ (s : State) (src : Endpoint) (tag : BitVec 14) (r : Req) (e : DirEntry), inboxReq s [.rdShared] src tag = some r ∧ Claims.Clear s r ∧ r.kind = .rdShared ∧ (epFenced s (linePart (reqLine r)) r.src = false ∨ internal r = true) ∧ dirAt s (reqLine r) = some e ∧ ownerOf e = none :=
  ⟨setDir (inb (rq .rdShared 64)) 1 { st := .s, precise := [102] }, 100, 3, rq .rdShared 64, { st := .s, precise := [102] }, by refine ⟨?_, ?_, ?_, ?_, ?_, ?_⟩ <;> first | decide +kernel | exact ok_get (by decide +kernel) | (unfold Claims.Clear; decide +kernel) | rfl⟩

theorem wit_rdown : ∃ (s : State) (src : Endpoint) (tag : BitVec 14) (r : Req), inboxReq s [.rdOwn] src tag = some r ∧ Claims.Clear s r ∧ r.kind = .rdOwn ∧ (epFenced s (linePart (reqLine r)) r.src = false ∨ internal r = true) ∧ Claims.Backed s r ∧ dirAt s (reqLine r) = none ∧ entryRoom (registerFor s r) (reqLine r) r = true ∧ trackerFor (registerFor s r) (reqLine r) r = true :=
  ⟨inbk (rq .rdOwn 64), 100, 3, rq .rdOwn 64, by refine ⟨?_, ?_, ?_, ?_, ?_, ?_, ?_, ?_⟩ <;> first | (unfold Claims.Clear; decide +kernel) | decide +kernel | exact ⟨by decide +kernel, _, _, some_get (by decide +kernel), by decide +kernel, some_get (by decide +kernel)⟩ | rfl⟩

theorem wit_atomnear : ∃ (s : State) (src : Endpoint) (tag : BitVec 14) (r : Req), inboxReq s [.atomNear] src tag = some r ∧ Claims.Clear s r ∧ r.kind = .atomNear ∧ (epFenced s (linePart (reqLine r)) r.src = false ∨ internal r = true) ∧ Claims.FreshAtom s r ∧ Claims.Backed s r ∧ dirAt s (reqLine r) = none ∧ entryRoom (registerFor s r) (reqLine r) r = true ∧ trackerFor (registerFor s r) (reqLine r) r = true :=
  ⟨inbk (rq .atomNear 64), 100, 3, rq .atomNear 64, by refine ⟨?_, ?_, ?_, ?_, ?_, ?_, ?_, ?_, ?_⟩ <;> first | (unfold Claims.Clear; decide +kernel) | decide +kernel | (unfold Claims.FreshAtom; decide +kernel) | exact ⟨by decide +kernel, _, _, some_get (by decide +kernel), by decide +kernel, some_get (by decide +kernel)⟩ | rfl⟩

theorem wit_wrline : ∃ (s : State) (src : Endpoint) (tag : BitVec 14) (r : Req), inboxReq s [.wrLine] src tag = some r ∧ Claims.Clear s r ∧ r.kind = .wrLine ∧ Claims.Backed s r ∧ dirAt s (reqLine r) = none :=
  ⟨inbk (rq .wrLine 64), 100, 3, rq .wrLine 64, by refine ⟨?_, ?_, ?_, ?_, ?_⟩ <;> first | (unfold Claims.Clear; decide +kernel) | decide +kernel | exact ⟨by decide +kernel, _, _, some_get (by decide +kernel), by decide +kernel, some_get (by decide +kernel)⟩ | rfl⟩

theorem wit_wrptl : ∃ (s : State) (src : Endpoint) (tag : BitVec 14) (r : Req), inboxReq s [.wrPtl] src tag = some r ∧ Claims.Clear s r ∧ r.kind = .wrPtl ∧ Claims.Backed s r ∧ dirAt s (reqLine r) = none :=
  ⟨inbk (rq .wrPtl 64), 100, 3, rq .wrPtl 64, by refine ⟨?_, ?_, ?_, ?_, ?_⟩ <;> first | (unfold Claims.Clear; decide +kernel) | decide +kernel | exact ⟨by decide +kernel, _, _, some_get (by decide +kernel), by decide +kernel, some_get (by decide +kernel)⟩ | rfl⟩

theorem wit_atomfar : ∃ (s : State) (src : Endpoint) (tag : BitVec 14) (r : Req), inboxReq s [.atomFar] src tag = some r ∧ Claims.Clear s r ∧ r.kind = .atomFar ∧ Claims.FreshAtom s r ∧ Claims.Backed s r ∧ dirAt s (reqLine r) = none :=
  ⟨inbk (rq .atomFar 64), 100, 3, rq .atomFar 64, by refine ⟨?_, ?_, ?_, ?_, ?_, ?_⟩ <;> first | (unfold Claims.Clear; decide +kernel) | decide +kernel | (unfold Claims.FreshAtom; decide +kernel) | exact ⟨by decide +kernel, _, _, some_get (by decide +kernel), by decide +kernel, some_get (by decide +kernel)⟩ | rfl⟩

theorem wit_wbdirty : ∃ (s : State) (m : TcMsg) (tag : BitVec 14) (d : Line) (p : Bool), m.tc = 7 ∧ m.wb = true ∧ m.away = none ∧ tcKeyOk s m = true ∧ wbRoom s (linePart (m.off.toNat / 64)) = true ∧ wbExpected (noteWb (creditBack s m.port.val (tcChannel m)) m.port.val m.src tag.toNat) (m.off.toNat / 64) m.src m.key = true :=
  ⟨setDir pt 1 { st := .m, precise := [100] }, { msg with wb := true }, 3, 0, false, by refine ⟨?_, ?_, ?_, ?_, ?_, ?_⟩ <;> decide +kernel⟩

theorem wit_rspi : ∃ (s : State) (u : State) (m : TcMsg) (t : Trans) (n : Snoop), Claims.Answered s m n t ∧ u = creditBack s m.port.val 7 :=
  ⟨tr pt (snp .inv), creditBack (tr pt (snp .inv)) 0 7, msg, snp .inv, sn 100 .inv, by refine ⟨?_, ?_⟩ <;> first | (unfold Claims.Answered; decide +kernel) | decide +kernel | rfl⟩

theorem wit_rspiwb : ∃ (s : State) (u : State) (m : TcMsg) (t : Trans) (n : Snoop), Claims.Answered s m n t ∧ u = creditBack s m.port.val 7 ∧ t.wbGot.contains m.src = false :=
  ⟨tr pt (snp .inv), creditBack (tr pt (snp .inv)) 0 7, msg, snp .inv, sn 100 .inv, by refine ⟨?_, ?_, ?_⟩ <;> first | (unfold Claims.Answered; decide +kernel) | decide +kernel | rfl⟩

theorem wit_rspidata : ∃ (s : State) (u : State) (m : TcMsg) (d : Line) (p : Bool) (t : Trans) (n : Snoop) (r : Req), Claims.Answered s m n t ∧ u = creditBack s m.port.val 7 ∧ t.kind = .req r ∧ isHomeWrite r.kind = false :=
  ⟨tr pt (snp .inv), creditBack (tr pt (snp .inv)) 0 7, msg, 0, false, snp .inv, sn 100 .inv, rq .rdOwn 64, by refine ⟨?_, ?_, ?_, ?_⟩ <;> first | (unfold Claims.Answered; decide +kernel) | decide +kernel | rfl⟩

theorem wit_rsps : ∃ (s : State) (u : State) (m : TcMsg) (t : Trans) (n : Snoop), Claims.Answered s m n t ∧ u = creditBack s m.port.val 7 ∧ n.kind ≠ .inv :=
  ⟨tr pt (snp .shr), creditBack (tr pt (snp .shr)) 0 7, msg, snp .shr, sn 100 .shr, by refine ⟨?_, ?_, ?_⟩ <;> first | (unfold Claims.Answered; decide +kernel) | decide +kernel | rfl⟩

theorem wit_rspsdata : ∃ (s : State) (u : State) (m : TcMsg) (d : Line) (p : Bool) (t : Trans) (n : Snoop) (r : Req), Claims.Answered s m n t ∧ u = creditBack s m.port.val 7 ∧ n.kind ≠ .inv ∧ t.kind = .req r ∧ isHomeWrite r.kind = false :=
  ⟨tr pt (snp .shr), creditBack (tr pt (snp .shr)) 0 7, msg, 0, true, snp .shr, sn 100 .shr, rq .rdOwn 64, by refine ⟨?_, ?_, ?_, ?_, ?_⟩ <;> first | (unfold Claims.Answered; decide +kernel) | decide +kernel | rfl⟩

theorem wit_rspcur : ∃ (s : State) (u : State) (m : TcMsg) (t : Trans) (n : Snoop), Claims.Answered s m n t ∧ u = creditBack s m.port.val 7 ∧ n.kind = .cur :=
  ⟨tr pt (snp .cur), creditBack (tr pt (snp .cur)) 0 7, msg, snp .cur, sn 100 .cur, by refine ⟨?_, ?_, ?_⟩ <;> first | (unfold Claims.Answered; decide +kernel) | decide +kernel | rfl⟩

theorem wit_rspcurdata : ∃ (s : State) (u : State) (m : TcMsg) (d : Line) (p : Bool) (t : Trans) (n : Snoop) (r : Req), Claims.Answered s m n t ∧ u = creditBack s m.port.val 7 ∧ n.kind = .cur ∧ t.kind = .req r :=
  ⟨tr pt (snp .cur), creditBack (tr pt (snp .cur)) 0 7, msg, 7, false, snp .cur, sn 100 .cur, rq .rdOwn 64, by refine ⟨?_, ?_, ?_, ?_⟩ <;> first | (unfold Claims.Answered; decide +kernel) | decide +kernel | rfl⟩

theorem wit_gntack : ∃ (s : State) (u : State) (m : TcMsg) (t : Trans), tcClassOk m = true ∧ m.away = none ∧ tcKeyOk s m = true ∧ u = creditBack s m.port.val 7 ∧ transAt s (m.off.toNat / 64) = some t ∧ t.ackFrom = some m.src :=
  ⟨tr pt ({ snp .inv with snoops := [], ackFrom := some 100, replied := true }), creditBack (tr pt ({ snp .inv with snoops := [], ackFrom := some 100, replied := true })) 0 7, msg, { snp .inv with snoops := [], ackFrom := some 100, replied := true }, by refine ⟨?_, ?_, ?_, ?_, ?_, ?_⟩ <;> decide +kernel⟩

theorem wit_trackerFree_1 : ∃ (s : State) (p : PartId) (r : Req), Machine.trackerFree s p.val = true ∧ oldestStarved s p.val = some r ∧ s.coh.inbox.any (fun x => x.num == r.num) = true :=
  ⟨{ inb (rq .rdOwn 64) with coh := { (inb (rq .rdOwn 64)).coh with starved := [0] } }, ⟨linePart 1, by decide⟩, rq .rdOwn 64, by refine ⟨?_, ?_, ?_⟩ <;> decide +kernel⟩

theorem wit_trackerFree_2 : ∃ (s : State) (p : PartId) (r : Req), Machine.trackerFree s p.val = true ∧ oldestStarved s p.val = some r ∧ s.coh.inbox.any (fun x => x.num == r.num) = false :=
  ⟨{ pt with coh := { pt.coh with waitQ := [rq .rdOwn 64], starved := [0] } }, ⟨linePart 1, by decide⟩, rq .rdOwn 64, by refine ⟨?_, ?_, ?_⟩ <;> decide +kernel⟩

theorem wit_waitQueueTakeUp_1 : ∃ (s : State) (off : PoolOff) (r : Req), s.coh.waitQ.find? (fun r => reqLine r == off.toNat / 64) = some r ∧ lineBlocked s (off.toNat / 64) = false ∧ farMode s (off.toNat / 64) ≠ .far ∧ lineHeld s (off.toNat / 64) (isWriteKind r.kind) = false ∧ dirAt s (off.toNat / 64) = none ∧ r.kind = .rdNC :=
  ⟨{ pt with coh := { pt.coh with waitQ := [rq .rdNC 64] } }, 64, rq .rdNC 64, by refine ⟨?_, ?_, ?_, ?_, ?_, ?_⟩ <;> decide +kernel⟩

theorem wit_waitQueueTakeUp_2 : ∃ (s : State) (off : PoolOff) (r : Req), s.coh.waitQ.find? (fun r => reqLine r == off.toNat / 64) = some r ∧ lineBlocked s (off.toNat / 64) = false ∧ farMode s (off.toNat / 64) ≠ .far ∧ lineHeld s (off.toNat / 64) (isWriteKind r.kind) = false ∧ dirAt s (off.toNat / 64) = none ∧ r.kind = .wrLine ∧ Claims.Backed s r :=
  ⟨{ bkp with coh := { bkp.coh with waitQ := [rq .wrLine 64] } }, 64, rq .wrLine 64, by refine ⟨?_, ?_, ?_, ?_, ?_, ?_, ?_⟩ <;> first | (unfold Claims.Clear; decide +kernel) | decide +kernel | exact ⟨by decide +kernel, _, _, some_get (by decide +kernel), by decide +kernel, some_get (by decide +kernel)⟩ | rfl⟩

theorem wit_recallSnoopIssue : ∃ (s : State) (u : State) (p : PartId) (line : Nat) (k : Nat) (t : Trans) (n : Snoop) (rk : RecallKind), ((tblGet s.coh.recallTimes p.val []).filter (fun t => s.now < t + 1000)).length < 256 ∧ s.coh.trans.find? (recallOpen s p.val) = some (line, t) ∧ t.kind = .recalls rk k ∧ t.snoops.find? (recallReady s line) = some n ∧ u = setTrans (modStat (emitSnoop s line { n with stag := freshStag s line n.dest }) k (fun x => { x with snoops := x.snoops + 1 })) line { t with snoops := t.snoops.map (fun m => if m.dest = n.dest then { m with sentAt := some s.now, stag := freshStag s line n.dest } else m) } :=
  ⟨tr pt { kind := .recalls .exclusive 1, snoops := [{ dest := .ep 100, kind := .inv }] }, setTrans (modStat (emitSnoop (tr pt { kind := .recalls .exclusive 1, snoops := [{ dest := .ep 100, kind := .inv }] }) 1 { ({ dest := .ep 100, kind := .inv } : Snoop) with stag := freshStag (tr pt { kind := .recalls .exclusive 1, snoops := [{ dest := .ep 100, kind := .inv }] }) 1 (.ep 100) }) 1 (fun x => { x with snoops := x.snoops + 1 })) 1 { ({ kind := .recalls .exclusive 1, snoops := [{ dest := .ep 100, kind := .inv }] } : Trans) with snoops := [{ ({ dest := .ep 100, kind := .inv } : Snoop) with sentAt := some 0, stag := freshStag (tr pt { kind := .recalls .exclusive 1, snoops := [{ dest := .ep 100, kind := .inv }] }) 1 (.ep 100) }] }, ⟨linePart 1, by decide⟩, 1, 1, { kind := .recalls .exclusive 1, snoops := [{ dest := .ep 100, kind := .inv }] }, { dest := .ep 100, kind := .inv }, .exclusive, by refine ⟨?_, ?_, ?_, ?_, ?_⟩ <;> decide +kernel⟩

theorem wit_memoryReadDone : ∃ (s : State) (off : PoolOff) (b : Back) (c : LineChecks), readAwaited s (off.toNat / 64) = true ∧ s.coh.rereads.contains (off.toNat / 64) = false ∧ s.coh.refetch.contains (off.toNat / 64) = false ∧ lineServed s (off.toNat / 64) = true ∧ backAt s (off.toNat / 64 / 1024) = some b ∧ locTier b.loc = .t0 ∧ checksBad c = false :=
  ⟨tr bkp { kind := .req (rq .rdOwn 64), memWait := true }, 64, { loc := .t0 0 0 0 false }, {}, by refine ⟨?_, ?_, ?_, ?_, ?_, ?_, ?_⟩ <;> decide +kernel⟩

theorem wit_memoryWriteDone : ∃ (s : State) (u : State) (off : PoolOff) (w : WbEntry), lineServed s (off.toNat / 64) = true ∧ s.coh.wbBuf.find? (fun w => w.line == off.toNat / 64) = some w ∧ u = takeWindow s (off.toNat / 64) :=
  ⟨{ pt with coh := { pt.coh with wbBuf := [⟨1, 100, 5, false⟩] } }, takeWindow ({ pt with coh := { pt.coh with wbBuf := [⟨1, 100, 5, false⟩] } }) 1, 64, ⟨1, 100, 5, false⟩, by refine ⟨?_, ?_, ?_⟩ <;> decide +kernel⟩

theorem wit_snoopRetry : ∃ (s : State) (off : PoolOff) (dst : Endpoint) (t : Trans) (n : Snoop) (t0 : Nat), transAt s (off.toNat / 64) = some t ∧ t.snoops.find? (fun n => n.dest == .ep dst) = some n ∧ n.sentAt = some t0 ∧ n.retried = false ∧ t0 + snpTimeout s (linePart (off.toNat / 64)) / 2 ≤ s.now :=
  ⟨{ tr pt (snp .inv) with now := snpTimeout pt (linePart 1) / 2 }, 64, 100, snp .inv, sn 100 .inv, 0, by refine ⟨?_, ?_, ?_, ?_, ?_⟩ <;> decide +kernel⟩

theorem wit_snoopTimeout : ∃ (s : State) (u : State) (off : PoolOff) (dst : Endpoint) (t : Trans) (n : Snoop) (t0 : Nat) (q : Nat), transAt s (off.toNat / 64) = some t ∧ t.snoops.find? (fun n => n.dest == .ep dst) = some n ∧ n.sentAt = some t0 ∧ t0 + snpTimeout s (linePart (off.toNat / 64)) ≤ s.now ∧ u = regSet (bump (homeErr s (linePart (off.toNat / 64)) 0) (homeCnt (linePart (off.toNat / 64)) 4)) (sliceBase (linePart (off.toNat / 64)) + 0x8018) (BitVec.ofNat 64 (dst.toNat + off.toNat / 64 % 2 ^ 42 * 2 ^ 16)) ∧ epPort u dst = some q ∧ localFenced u q = false :=
  ⟨{ tr pt (snp .inv) with now := snpTimeout pt (linePart 1) }, regSet (bump (homeErr ({ tr pt (snp .inv) with now := snpTimeout pt (linePart 1) }) (linePart 1) 0) (homeCnt (linePart 1) 4)) (sliceBase (linePart 1) + 0x8018) (BitVec.ofNat 64 (100 + 1 % 2 ^ 42 * 2 ^ 16)), 64, 100, snp .inv, sn 100 .inv, 0, 0, by refine ⟨?_, ?_, ?_, ?_, ?_, ?_, ?_⟩ <;> decide +kernel⟩

theorem wit_filterSweepEnd : ∃ (s : State) (dst : Endpoint), s.coh.sweeps.contains dst.toNat = true :=
  ⟨{ pt with coh := { pt.coh with sweeps := [100], dir := [(1, { st := .s, precise := [100, 102] })] } }, 100, by decide +kernel⟩

theorem wit_cxlMemwr_1 : ∃ (s : State) (u : State) (m : CxlReq) (d : Line) (p : Bool) (off : Nat), u = cxlCount s m.port.val 1 ∧ CxlTakes u m off ∧ wbExpected u (off / 64) (portEp u m.port.val) (cxlKey u m.port.val) = false :=
  ⟨cx, cxlCount cx 2 1, ⟨2, 3, 64⟩, 5, false, 64, by refine ⟨?_, ?_, ?_⟩ <;> first | decide +kernel | (unfold CxlTakes; decide +kernel) | rfl⟩

theorem wit_cxlMemwr_2 : ∃ (s : State) (u : State) (m : CxlReq) (d : Line) (p : Bool) (off : Nat), u = cxlCount s m.port.val 1 ∧ CxlTakes u m off ∧ wbExpected u (off / 64) (portEp u m.port.val) (cxlKey u m.port.val) = true ∧ wbRoom u (linePart (off / 64)) = true :=
  ⟨setDir cx 1 { st := .m, precise := [102] }, cxlCount (setDir cx 1 { st := .m, precise := [102] }) 2 1, ⟨2, 3, 64⟩, 5, false, 64, by refine ⟨?_, ?_, ?_, ?_⟩ <;> first | decide +kernel | (unfold CxlTakes; decide +kernel) | rfl⟩

theorem wit_memclnevct_1 : ∃ (s : State) (u : State) (m : CxlReq) (off : Nat) (e : DirEntry), u = cxlCount s m.port.val 0 ∧ CxlTakes u m off ∧ dirAt u (off / 64) = some e ∧ removeHolder e (portEp u m.port.val) = none :=
  ⟨setDir cx 1 { st := .e, precise := [102] }, cxlCount (setDir cx 1 { st := .e, precise := [102] }) 2 0, ⟨2, 3, 64⟩, 64, { st := .e, precise := [102] }, by refine ⟨?_, ?_, ?_, ?_⟩ <;> first | decide +kernel | (unfold CxlTakes; decide +kernel) | rfl⟩

theorem wit_memclnevct_2 : ∃ (s : State) (u : State) (m : CxlReq) (off : Nat) (e : DirEntry) (x : DirEntry), u = cxlCount s m.port.val 0 ∧ CxlTakes u m off ∧ dirAt u (off / 64) = some e ∧ removeHolder e (portEp u m.port.val) = some x :=
  ⟨setDir cx 1 { st := .s, precise := [102, 100] }, cxlCount (setDir cx 1 { st := .s, precise := [102, 100] }) 2 0, ⟨2, 3, 64⟩, 64, { st := .s, precise := [102, 100] }, { st := .s, precise := [100] }, by refine ⟨?_, ?_, ?_, ?_⟩ <;> first | decide +kernel | (unfold CxlTakes; decide +kernel) | rfl⟩

theorem wit_birspi : ∃ (s : State) (p : PortId) (off : PoolOff) (g : BitVec 14) (t : Trans) (n : Snoop), Claims.BiAnswered s p (off.toNat / 64) g.toNat n t ∧ t.wbGot.contains (portEp s p.val) = true :=
  ⟨tr cx ({ snp .inv with snoops := [sn 102 .inv], wbGot := [102] }), 2, 64, 0, { snp .inv with snoops := [sn 102 .inv], wbGot := [102] }, sn 102 .inv, by refine ⟨?_, ?_⟩ <;> first | decide +kernel | (unfold Claims.BiAnswered; decide +kernel) | rfl⟩

theorem wit_birsps : ∃ (s : State) (p : PortId) (off : PoolOff) (g : BitVec 14) (t : Trans) (n : Snoop), Claims.BiAnswered s p (off.toNat / 64) g.toNat n t ∧ n.kind ≠ .inv :=
  ⟨tr cx ({ snp .shr with snoops := [sn 102 .shr] }), 2, 64, 0, { snp .shr with snoops := [sn 102 .shr] }, sn 102 .shr, by refine ⟨?_, ?_⟩ <;> first | decide +kernel | (unfold Claims.BiAnswered; decide +kernel) | rfl⟩

theorem wit_birspe : ∃ (s : State) (p : PortId) (off : PoolOff) (g : BitVec 14) (t : Trans) (n : Snoop), Claims.BiAnswered s p (off.toNat / 64) g.toNat n t ∧ n.kind = .cur :=
  ⟨tr cx ({ snp .cur with snoops := [sn 102 .cur] }), 2, 64, 0, { snp .cur with snoops := [sn 102 .cur] }, sn 102 .cur, by refine ⟨?_, ?_⟩ <;> first | decide +kernel | (unfold Claims.BiAnswered; decide +kernel) | rfl⟩

theorem wit_biconflict : ∃ (s : State) (u : State) (p : PortId) (off : PoolOff), isHostPort s p.val = true ∧ isCxl s p.val = true ∧ u = bump s (homeCnt (linePart (off.toNat / 64)) 10) :=
  ⟨cx, bump cx (homeCnt (linePart 1) 10), 2, 64, by refine ⟨?_, ?_, ?_⟩ <;> decide +kernel⟩

theorem wit_atomcomb : ∃ (s : State) (r : Req) (q : Req), r.kind = .atomComb ∧ isHostPort s r.port.val = false ∧ s.coh.inbox.any (fun x => x.src == r.src && x.tag == r.tag && x.kind == .atomComb) = true ∧ inboxReq s [.atomComb] r.src r.tag = some q ∧ Claims.Clear s q ∧ q.kind = .atomComb ∧ atomMalformed q.atom (q.addr.toNat % 64) = false ∧ Claims.Backed s q ∧ dirAt s (reqLine q) = none :=
  ⟨inbk { rq .atomComb 64 with port := 1, recs := [{ ep := 100, tag := 3, aseq := 0, opnd := 1 }] }, { rq .atomComb 64 with port := 1, recs := [{ ep := 100, tag := 3, aseq := 0, opnd := 1 }] }, { rq .atomComb 64 with port := 1, recs := [{ ep := 100, tag := 3, aseq := 0, opnd := 1 }] }, by refine ⟨?_, ?_, ?_, ?_, ?_, ?_, ?_, ?_, ?_⟩ <;> first | (unfold Claims.Clear; decide +kernel) | decide +kernel | exact ⟨by decide +kernel, _, _, some_get (by decide +kernel), by decide +kernel, some_get (by decide +kernel)⟩ | rfl⟩

theorem wit_cmpcomb : ∃ (s : State) (p : PortId) (tag : BitVec 14) (vs : List CombRes) (b : Bool) (x : Split), s.atm.splits.find? (fun x => x.port == p.val && x.tag == tag) = some x :=
  ⟨{ pt with atm := { pt.atm with splits := [{ port := 1, tag := 3, recs := [{ ep := 100, tag := 3, aseq := 0, opnd := 1 }] }] } }, 1, 3, [⟨100, 3, 5⟩], false, { port := 1, tag := 3, recs := [{ ep := 100, tag := 3, aseq := 0, opnd := 1 }] }, by decide +kernel⟩

theorem wit_replayEntryFree : ∃ (s : State) (p : PartId) (r : Req), s.coh.inbox.find? (fun r => reqPart r == p.val && s.atm.replayWait.contains r.num) = some r ∧ replayHeld s r = false :=
  ⟨{ inb (rq .atomFar 64) with atm := { (inb (rq .atomFar 64)).atm with replayWait := [0] } }, ⟨linePart 1, by decide⟩, rq .atomFar 64, by refine ⟨?_, ?_⟩ <;> decide +kernel⟩

theorem wit_farEnter : ∃ (s : State) (off : PoolOff) (h : Hot), hotAt s (off.toNat / 64) = some h ∧ h.mode = .entering ∧ recallDone s h.tag = true ∧ transAt s (off.toNat / 64) = none ∧ s.coh.wbBuf.any (fun w => w.line == off.toNat / 64) = false ∧ farBarred s (off.toNat / 64) = none :=
  ⟨hot1 pt { mode := .entering, tag := 1 }, 64, { mode := .entering, tag := 1 }, by refine ⟨?_, ?_, ?_, ?_, ?_, ?_⟩ <;> decide +kernel⟩

theorem wit_farLineOp : ∃ (s : State) (off : PoolOff) (h : Hot) (r : Req) (q : List Req), hotAt s (off.toNat / 64) = some h ∧ h.mode = .far ∧ s.coh.waitQ.filter (fun r => reqLine r == off.toNat / 64) = r :: q ∧ r.kind = .rdShared ∧ r.origin ≠ .cxl ∧ lineHeld s (off.toNat / 64) false = false :=
  ⟨hot1 { pt with coh := { pt.coh with waitQ := [rq .rdShared 64] } } { mode := .far, buf := 9 }, 64, { mode := .far, buf := 9 }, rq .rdShared 64, [], by refine ⟨?_, ?_, ?_, ?_, ?_, ?_⟩ <;> decide +kernel⟩

theorem wit_farQuietExpire : ∃ (s : State) (off : PoolOff) (h : Hot), hotAt s (off.toNat / 64) = some h ∧ h.mode = .far ∧ h.lastReq + 1000 * farCfg s (linePart (off.toNat / 64)) 32 10 ≤ s.now ∧ s.coh.waitQ.any (fun r => reqLine r == off.toNat / 64) = false :=
  ⟨hot1 { pt with now := 1000 * farCfg pt (linePart 1) 32 10 } { mode := .far }, 64, { mode := .far }, by refine ⟨?_, ?_, ?_, ?_⟩ <;> decide +kernel⟩

theorem wit_farExitDone : ∃ (s : State) (off : PoolOff) (h : Hot), hotAt s (off.toNat / 64) = some h ∧ h.mode = .leaving :=
  ⟨hot1 pt { mode := .leaving, buf := 9 }, 64, { mode := .leaving, buf := 9 }, by refine ⟨?_, ?_⟩ <;> decide +kernel⟩

theorem wit_ringBroadcastResponse : ∃ (s : State) (off : PoolOff) (t : Trans) (n : Snoop), transAt s (off.toNat / 64) = some t ∧ t.snoops.find? (fun n => n.dest == .ring && n.sentAt.isSome) = some n :=
  ⟨tr pt { kind := .req (rq .rdOwn 64), snoops := [{ dest := .ring, kind := .inv, sentAt := some 0 }] }, 64, { kind := .req (rq .rdOwn 64), snoops := [{ dest := .ring, kind := .inv, sentAt := some 0 }] }, { dest := .ring, kind := .inv, sentAt := some 0 }, by refine ⟨?_, ?_⟩ <;> decide +kernel⟩

theorem wit_ringBroadcastResponse_2 : ∃ (s : State) (off : PoolOff) (t : Trans) (n : Snoop), transAt s (off.toNat / 64) = some t ∧ t.snoops.find? (fun n => n.dest == .ring && n.sentAt.isSome) = some n ∧ n.kind ≠ .inv :=
  ⟨tr pt { kind := .req (rq .rdOwn 64), snoops := [{ dest := .ring, kind := .shr, sentAt := some 0 }] }, 64, { kind := .req (rq .rdOwn 64), snoops := [{ dest := .ring, kind := .shr, sentAt := some 0 }] }, { dest := .ring, kind := .shr, sentAt := some 0 }, by refine ⟨?_, ?_, ?_⟩ <;> decide +kernel⟩

theorem wit_ringBroadcastResponse_3 : ∃ (s : State) (off : PoolOff) (t : Trans) (n : Snoop), transAt s (off.toNat / 64) = some t ∧ t.snoops.find? (fun n => n.dest == .ring && n.sentAt.isSome) = some n ∧ n.kind = .cur :=
  ⟨tr pt { kind := .req (rq .rdOwn 64), snoops := [{ dest := .ring, kind := .cur, sentAt := some 0 }] }, 64, { kind := .req (rq .rdOwn 64), snoops := [{ dest := .ring, kind := .cur, sentAt := some 0 }] }, { dest := .ring, kind := .cur, sentAt := some 0 }, by refine ⟨?_, ?_, ?_⟩ <;> decide +kernel⟩

theorem wit_cxlMemrd : ∃ (s : State) (u : State) (m : CxlReq) (off : Nat), u = cxlCount s m.port.val 0 ∧ CxlTakes u m off :=
  ⟨cx, cxlCount cx 2 0, ⟨2, 3, 64⟩, 64, by refine ⟨?_, ?_⟩ <;> first | decide +kernel | (unfold CxlTakes; decide +kernel) | rfl⟩

theorem wit_cxlMemrddata : ∃ (s : State) (u : State) (m : CxlReq) (off : Nat), u = cxlCount s m.port.val 0 ∧ CxlTakes u m off :=
  ⟨cx, cxlCount cx 2 0, ⟨2, 3, 64⟩, 64, by refine ⟨?_, ?_⟩ <;> first | decide +kernel | (unfold CxlTakes; decide +kernel) | rfl⟩

theorem wit_cxlMemwrptl : ∃ (s : State) (u : State) (m : CxlReq) (d : Line) (k : BitVec 64) (p : Bool) (off : Nat), u = cxlCount s m.port.val 1 ∧ CxlTakes u m off :=
  ⟨cx, cxlCount cx 2 1, ⟨2, 3, 64⟩, 5, 1, false, 64, by refine ⟨?_, ?_⟩ <;> first | decide +kernel | (unfold CxlTakes; decide +kernel) | rfl⟩

theorem wit_forwardedDescriptor : ∃ (s : State) (sw : BitVec 12) (h : Handle) (key : Key) (d : Line) (row : OpRow), handleOf s (remoteRef sw.toNat h.toNat) = none ∧ opRow (dOp d) = some row ∧ reservedFault d row = none ∧ imageOf d = none :=
  ⟨pt, 7, 0, 1, ln [(0, 1, 1), (2, 2, 1)], ⟨1, false, false, false, false, 3⟩, by refine ⟨?_, ?_, ?_, ?_⟩ <;> decide +kernel⟩

theorem wit_shelfCreate : ∃ (s : State) (h : HRef) (r : HandleRec) (x : Extent) (i : Nat), startable s h.toNat 0x20 = some r ∧ 2 ≤ d32 r.desc 12 ∧ d32 r.desc 12 ≤ 256 ∧ d64 r.desc 16 % 65536 = 0 ∧ d64 r.desc 24 % 65536 = 0 ∧ 65536 ≤ d64 r.desc 24 ∧ d64 r.desc 24 ≤ 1099511627776 ∧ extentById s (d32 r.desc 8) = some x ∧ x.owner = r.key ∧ x.base ≤ d64 r.desc 16 ∧ d64 r.desc 16 + d32 r.desc 12 * d64 r.desc 24 ≤ x.base + x.len ∧ objectOverlap s (d64 r.desc 16, d64 r.desc 16 + d32 r.desc 12 * d64 r.desc 24) = false ∧ anyAllocated s (d64 r.desc 16) (d64 r.desc 16 + d32 r.desc 12 * d64 r.desc 24) = false ∧ i = lowestFree (tblHas s.obj.shelves) 65536 0 ∧ i < 65536 :=
  ⟨lv sv 0x20 [(8, 4, 1), (12, 4, 2), (16, 8, 0x100000), (24, 8, 0x10000)], 0, hr 0x20 (ln [(8, 4, 1), (12, 4, 2), (16, 8, 0x100000), (24, 8, 0x10000)]), { id := 1, base := 0, len := 16777216, owner := 1, tiers := 7 }, 0, by refine ⟨?_, ?_, ?_, ?_, ?_, ?_, ?_, ?_, ?_, ?_, ?_, ?_, ?_, ?_, ?_⟩ <;> decide +kernel⟩

theorem wit_shelfOpen : ∃ (s : State) (h : HRef) (r : HandleRec) (i : Nat) (v : Nat) (k : Nat) (x : Shelf), startable s h.toNat 0x21 = some r ∧ d32 r.desc 12 ≠ 0 ∧ shelfOf s r.desc = some (i, x) ∧ (shelfAccess s x r.key).isSome = true ∧ versionOf x (d32 r.desc 12) = .inr v ∧ x.slots.find? (fun e => e.2.st == .view && e.2.version == v) = none ∧ freeSlot x = some k ∧ canPin x v = true :=
  ⟨lv (shs {} []) 0x21 [(8, 2, 0), (12, 4, 0xFFFFFFFF)], 0, hr 0x21 (ln [(8, 2, 0), (12, 4, 0xFFFFFFFF)]), 0, 1, 0, shf {} [], by refine ⟨?_, ?_, ?_, ?_, ?_, ?_, ?_, ?_⟩ <;> decide +kernel⟩

theorem wit_shelfClose : ∃ (s : State) (h : HRef) (r : HandleRec) (i : Nat) (x : Shelf) (l : Slot), startable s h.toNat 0x22 = some r ∧ shelfOf s r.desc = some (i, x) ∧ d8 r.desc 12 < x.slotCount ∧ slotOf x (d8 r.desc 12) = l ∧ l.st = .view ∧ l.opens = [(r.key, 1)] :=
  ⟨lv (shs { st := .view, version := 1, opens := [(1, 1)] } []) 0x22 [(8, 2, 0), (12, 1, 0)], 0, hr 0x22 (ln [(8, 2, 0), (12, 1, 0)]), 0, shf { st := .view, version := 1, opens := [(1, 1)] } [], { st := .view, version := 1, opens := [(1, 1)] }, by refine ⟨?_, ?_, ?_, ?_, ?_, ?_⟩ <;> decide +kernel⟩

theorem wit_draftBegin : ∃ (s : State) (h : HRef) (r : HandleRec) (i : Nat) (v : Nat) (k : Nat) (x : Shelf), startable s h.toNat 0x23 = some r ∧ d32 r.desc 12 ≠ 0 ∧ shelfOf s r.desc = some (i, x) ∧ shelfAccess s x r.key = some true ∧ versionOf x (d32 r.desc 12) = .inr v ∧ freeSlot x = some k ∧ canPin x v = true :=
  ⟨lv (shs {} []) 0x23 [(8, 2, 0), (12, 4, 1)], 0, hr 0x23 (ln [(8, 2, 0), (12, 4, 1)]), 0, 1, 0, shf {} [], by refine ⟨?_, ?_, ?_, ?_, ?_, ?_, ?_⟩ <;> decide +kernel⟩

theorem wit_draftPublish : ∃ (s : State) (h : HRef) (r : HandleRec) (i : Nat) (k : Nat) (x : Shelf) (l : Slot), startable s h.toNat 0x24 = some r ∧ d32 r.desc 16 ≠ 0 ∧ draftOf s r = .ok (i, x, k, l) ∧ (d32 r.desc 16 = l.base ∧ l.base ≠ 0xFFFFFFFF ∨ d32 r.desc 16 = 0xFFFFFFFF ∧ x.head = l.base) ∧ x.head ≠ 0xFFFFFFFE :=
  ⟨lv (shs drf []) 0x24 [(8, 2, 0), (12, 1, 0), (16, 4, 1)], 0, hr 0x24 (ln [(8, 2, 0), (12, 1, 0), (16, 4, 1)]), 0, 0, shf drf [], drf, by refine ⟨?_, ?_, ?_, ?_, ?_⟩ <;> first | decide +kernel | rfl⟩

theorem wit_draftDiscard : ∃ (s : State) (h : HRef) (r : HandleRec) (i : Nat) (k : Nat) (x : Shelf) (l : Slot), startable s h.toNat 0x25 = some r ∧ draftOf s r = .ok (i, x, k, l) :=
  ⟨lv (shs drf []) 0x25 [(8, 2, 0), (12, 1, 0)], 0, hr 0x25 (ln [(8, 2, 0), (12, 1, 0)]), 0, 0, shf drf [], drf, by refine ⟨?_, ?_⟩ <;> first | decide +kernel | rfl⟩

theorem wit_publishRecallEnd : ∃ (s : State) (h : HRef) (i : Nat) (x : Shelf) (q : Publish), publishOf s h.toNat = some (i, x, q) ∧ q.stage = .recalling ∧ recallDone s q.tag = true ∧ drainedBefore s q.chk (slotLo x q.slot) (slotHi x q.slot) = true ∧ s.obj.cows.any (fun c => c.shelf == i && c.slot == q.slot) = false ∧ recallLeft s (slotLo x q.slot) (slotHi x q.slot) .downgrade q.tag = none :=
  ⟨lv (shs pubg [pub .recalling]) 0x24 [], 0, 0, shf pubg [pub .recalling], pub .recalling, by refine ⟨?_, ?_, ?_, ?_, ?_, ?_⟩ <;> decide +kernel⟩

theorem wit_publishDecide : ∃ (s : State) (h : HRef) (i : Nat) (x : Shelf) (q : Publish), publishOf s h.toNat = some (i, x, q) ∧ q.stage = .recalled ∧ x.head ≠ 0xFFFFFFFE ∧ x.queue.head? = some q ∧ publishLive s h.toNat = true ∧ pinned x (some q.slot) x.head = false ∧ (slotOf x q.slot).base = x.head :=
  ⟨lv (shs pubg [pub .recalled]) 0x24 [], 0, 0, shf pubg [pub .recalled], pub .recalled, by refine ⟨?_, ?_, ?_, ?_, ?_, ?_, ?_⟩ <;> decide +kernel⟩

theorem wit_publishCommit : ∃ (s : State) (h : HRef) (i : Nat) (x : Shelf) (x' : Shelf) (q : Publish), publishOf s h.toNat = some (i, x, q) ∧ q.stage = .deciding ∧ publishLive s h.toNat = true ∧ q.fenced = false ∧ q.merged = false ∧ (statOf s q.tag).fenced = [] ∧ x' = { x with head := x.head + 1, versions := tblPut x.versions (x.head + 1) q.newPages, changes := (tblPut x.changes (x.head + 1) (listDiff (tblGet x.versions x.head []) q.newPages)).filter (fun e => x.head + 1 < e.1 + 64), slots := tblPut x.slots q.slot { st := .view, version := x.head + 1, opens := [((slotOf x q.slot).writer, 1)] }, queue := x.queue.filter (fun y => y.handle != q.handle) } :=
  ⟨lv (shs pubg [pub .deciding]) 0x24 [], 0, 0, shf pubg [pub .deciding], { shf { st := .view, version := 2, opens := [(1, 1)] } [] with head := 2, versions := [(1, []), (2, [])], changes := [(2, [])] }, pub .deciding, by refine ⟨?_, ?_, ?_, ?_, ?_, ?_, ?_⟩ <;> decide +kernel⟩

theorem wit_slotFree : ∃ (s : State) (u : State) (i : BitVec 16) (k : BitVec 8) (x : Shelf) (l : Slot), tblFind s.obj.shelves i.toNat = some x ∧ slotOf x k.toNat = l ∧ l.st = .closing ∧ l.discard = none ∧ recallDone s l.tag = true ∧ drainedBefore s l.chk (slotLo x k.toNat) (slotHi x k.toNat) = true ∧ rangeNear s (slotLo x k.toNat) (slotHi x k.toNat) = true ∧ placesGone s (slotLo x k.toNat) (slotHi x k.toNat) = true ∧ s.obj.cows.any (fun c => c.shelf == i.toNat && c.slot == k.toNat) = false ∧ recallLeft s (slotLo x k.toNat) (slotHi x k.toNat) (if l.disc then .discard else .exclusive) l.tag = none ∧ u = objChanged (setSlot (dropStat s l.tag) i.toNat k.toNat {}) :=
  ⟨shs { st := .closing, version := 1, tag := 1, chk := 0 } [], objChanged (setSlot (dropStat (shs { st := .closing, version := 1, tag := 1, chk := 0 } []) 1) 0 0 {}), 0, 0, shf { st := .closing, version := 1, tag := 1, chk := 0 } [], { st := .closing, version := 1, tag := 1, chk := 0 }, by refine ⟨?_, ?_, ?_, ?_, ?_, ?_, ?_, ?_, ?_, ?_, ?_⟩ <;> decide +kernel⟩

theorem wit_cowCopyDone : ∃ (s : State) (p : BitVec 32) (c : CowCopy), s.obj.cows.find? (fun c => c.page == p.toNat) = some c :=
  ⟨{ shs drf [] with obj := { (shs drf []).obj with cows := [{ page := 16, shelf := 0, slot := 0, idx := 0, src := some 4, dst := 5 }] } }, 16, { page := 16, shelf := 0, slot := 0, idx := 0, src := some 4, dst := 5 }, by decide +kernel⟩

theorem wit_versionReclaim : ∃ (s : State) (i : BitVec 16) (v : BitVec 32) (x : Shelf) (l : Tbl Nat), tblFind s.obj.shelves i.toNat = some x ∧ tblFind x.versions v.toNat = some l ∧ v.toNat ≠ x.head ∧ pinned x none v.toNat = false :=
  ⟨{ sv with obj := { sv.obj with shelves := [(0, { shf {} [] with head := 2, versions := [(1, []), (2, [])] })] } }, 0, 1, { shf {} [] with head := 2, versions := [(1, []), (2, [])] }, [], by refine ⟨?_, ?_, ?_, ?_⟩ <;> decide +kernel⟩

theorem wit_drawerCreate : ∃ (s : State) (h : HRef) (r : HandleRec) (x : Extent) (i : Nat) (w : Drawer), startable s h.toNat 0x28 = some r ∧ d64 r.desc 16 % 65536 = 0 ∧ d64 r.desc 24 % 65536 = 0 ∧ 65536 ≤ d64 r.desc 24 ∧ d64 r.desc 24 ≤ 1099511627776 ∧ extentById s (d32 r.desc 8) = some x ∧ accessOf x r.key = some true ∧ x.base ≤ d64 r.desc 16 ∧ d64 r.desc 16 + d64 r.desc 24 ≤ x.base + x.len ∧ objectOverlap s (d64 r.desc 16, d64 r.desc 16 + d64 r.desc 24) = false ∧ i = lowestFree (fun i => (drawerOf s i).st != .free) s.obj.drawers.length 0 ∧ i < 16777216 ∧ w = { reuse := if tblHas s.obj.drawers i then ((drawerOf s i).reuse + 1) % 2 ^ 28 else 0, extent := x.id, base := d64 r.desc 16, len := d64 r.desc 24, owner := r.key, st := .owned, lease := if d32 r.desc 12 = 0 then none else some (s.now + msNs (d32 r.desc 12)) } :=
  ⟨lv sv 0x28 [(8, 4, 1), (12, 4, 5), (16, 8, 0x200000), (24, 8, 0x10000)], 0, hr 0x28 (ln [(8, 4, 1), (12, 4, 5), (16, 8, 0x200000), (24, 8, 0x10000)]), { id := 1, base := 0, len := 16777216, owner := 1, tiers := 7 }, 0, { dr0 with lease := some 5000000 }, by refine ⟨?_, ?_, ?_, ?_, ?_, ?_, ?_, ?_, ?_, ?_, ?_, ?_, ?_⟩ <;> decide +kernel⟩

theorem wit_drawerOffer : ∃ (s : State) (h : HRef) (r : HandleRec) (i : Nat) (z : Drawer), startable s h.toNat 0x29 = some r ∧ dKeyAt r.desc 16 ≠ r.key ∧ d16 r.desc 18 ≤ 1000 ∧ drawerNamed s r.desc = some (i, z) ∧ (drawerOf s i).owner = r.key ∧ (drawerOf s i).st = .owned ∧ d32 r.desc 20 = (drawerOf s i).epoch ∧ isTenant s (dKeyAt r.desc 16) = true ∧ (extentById s (drawerOf s i).extent).bind (fun x => accessOf x (dKeyAt r.desc 16)) = some true :=
  ⟨lv (drs dr0) 0x29 [(8, 8, 0), (16, 2, 2), (18, 2, 1000), (20, 4, 0)], 0, hr 0x29 (ln [(8, 8, 0), (16, 2, 2), (18, 2, 1000), (20, 4, 0)]), 0, dr0, by refine ⟨?_, ?_, ?_, ?_, ?_, ?_, ?_, ?_, ?_⟩ <;> decide +kernel⟩

theorem wit_drawerAccept : ∃ (s : State) (h : HRef) (r : HandleRec) (i : Nat) (z : Drawer), startable s h.toNat 0x2A = some r ∧ drawerNamed s r.desc = some (i, z) ∧ (drawerOf s i).st = .inTransit ∧ (drawerOf s i).offerH = none ∧ (drawerOf s i).target = some r.key ∧ d32 r.desc 16 = (drawerOf s i).epoch ∧ (drawerOf s i).recalled = true :=
  ⟨lv (drs { dr0 with owner := 2, st := .inTransit, offerer := some 2, target := some 1, recalled := true }) 0x2A [(8, 8, 0), (16, 4, 0)], 0, hr 0x2A (ln [(8, 8, 0), (16, 4, 0)]), 0, { dr0 with owner := 2, st := .inTransit, offerer := some 2, target := some 1, recalled := true }, by refine ⟨?_, ?_, ?_, ?_, ?_, ?_, ?_⟩ <;> decide +kernel⟩

theorem wit_drawerRelease : ∃ (s : State) (h : HRef) (r : HandleRec) (i : Nat) (z : Drawer), startable s h.toNat 0x2B = some r ∧ drawerNamed s r.desc = some (i, z) ∧ (drawerOf s i).owner = r.key ∧ (drawerOf s i).st = .owned :=
  ⟨lv (drs dr0) 0x2B [(8, 8, 0)], 0, hr 0x2B (ln [(8, 8, 0)]), 0, dr0, by refine ⟨?_, ?_, ?_, ?_⟩ <;> decide +kernel⟩

theorem wit_drawerLease : ∃ (s : State) (u : State) (h : HRef) (r : HandleRec) (i : Nat) (z : Drawer), startable s h.toNat 0x2C = some r ∧ dFlag r.desc 2 = false ∧ drawerNamed s r.desc = some (i, z) ∧ (drawerOf s i).owner = r.key ∧ (drawerOf s i).st = .owned ∧ u = setDrawer s i { drawerOf s i with lease := if d32 r.desc 16 = 0 then none else some (s.now + msNs (d32 r.desc 16)) } :=
  ⟨lv (drs dr0) 0x2C [(8, 8, 0), (16, 4, 7)], setDrawer (lv (drs dr0) 0x2C [(8, 8, 0), (16, 4, 7)]) 0 { dr0 with lease := some (0 + msNs 7) }, 0, hr 0x2C (ln [(8, 8, 0), (16, 4, 7)]), 0, dr0, by refine ⟨?_, ?_, ?_, ?_, ?_, ?_⟩ <;> decide +kernel⟩

theorem wit_drawerLeaseQuery : ∃ (s : State) (h : HRef) (r : HandleRec) (i : Nat) (z : Drawer), startable s h.toNat 0x2C = some r ∧ dFlag r.desc 2 = true ∧ drawerNamed s r.desc = some (i, z) ∧ drawerOf s i = z ∧ z.st = .owned ∧ ((extentById s z.extent).bind (fun x => accessOf x r.key)).isSome = true :=
  ⟨lv (drs dr0) 0x2C [(1, 1, 4), (8, 8, 0)], 0, hr 0x2C (ln [(1, 1, 4), (8, 8, 0)]), 0, dr0, by refine ⟨?_, ?_, ?_, ?_, ?_, ?_⟩ <;> decide +kernel⟩

theorem wit_drawerRecallEnd_1 : ∃ (s : State) (u : State) (d : BitVec 24) (w : Drawer), drawerOf s d.toNat = w ∧ w.st = .inTransit ∧ w.offerH = none ∧ w.recalled = false ∧ recallDone s w.tag = true ∧ drainedBefore s w.chk w.base (w.base + w.len) = true ∧ recallLeft s w.base (w.base + w.len) .downgrade w.tag = none ∧ u = dropStat (setDrawer s d.toNat { w with recalled := true }) w.tag ∧ w.accepts.find? (publishLive u) = none :=
  ⟨drs { dr0 with st := .inTransit, target := some 2, tag := 1, recalled := false }, dropStat (setDrawer (drs { dr0 with st := .inTransit, target := some 2, tag := 1, recalled := false }) 0 { ({ dr0 with st := .inTransit, target := some 2, tag := 1, recalled := false } : Drawer) with recalled := true }) 1, 0, { dr0 with st := .inTransit, target := some 2, tag := 1, recalled := false }, by refine ⟨?_, ?_, ?_, ?_, ?_, ?_, ?_, ?_, ?_⟩ <;> decide +kernel⟩

theorem wit_drawerRecallEnd_2 : ∃ (s : State) (u : State) (d : BitVec 24) (w : Drawer) (h : Nat), drawerOf s d.toNat = w ∧ w.st = .inTransit ∧ w.offerH = none ∧ w.recalled = false ∧ recallDone s w.tag = true ∧ drainedBefore s w.chk w.base (w.base + w.len) = true ∧ recallLeft s w.base (w.base + w.len) .downgrade w.tag = none ∧ u = dropStat (setDrawer s d.toNat { w with recalled := true }) w.tag ∧ w.accepts.find? (publishLive u) = some h :=
  ⟨lv (drs { dr0 with st := .inTransit, target := some 2, tag := 1, recalled := false, accepts := [0] }) 0x2A [], dropStat (setDrawer (lv (drs { dr0 with st := .inTransit, target := some 2, tag := 1, recalled := false, accepts := [0] }) 0x2A []) 0 { ({ dr0 with st := .inTransit, target := some 2, tag := 1, recalled := false, accepts := [0] } : Drawer) with recalled := true }) 1, 0, { dr0 with st := .inTransit, target := some 2, tag := 1, recalled := false, accepts := [0] }, 0, by refine ⟨?_, ?_, ?_, ?_, ?_, ?_, ?_, ?_, ?_⟩ <;> decide +kernel⟩

theorem wit_drawerOfferDeadline : ∃ (s : State) (d : BitVec 24) (w : Drawer), drawerOf s d.toNat = w ∧ w.st = .inTransit ∧ w.offerH = none ∧ w.deadline ≤ s.now :=
  ⟨{ drs { dr0 with st := .inTransit, target := some 2, deadline := 5 } with now := 5 }, 0, { dr0 with st := .inTransit, target := some 2, deadline := 5 }, by refine ⟨?_, ?_, ?_, ?_⟩ <;> decide +kernel⟩

theorem wit_drawerLeaseExpiry : ∃ (s : State) (d : BitVec 24) (w : Drawer) (t : Nat), drawerOf s d.toNat = w ∧ w.st = .owned ∧ w.lease = some t ∧ t ≤ s.now :=
  ⟨{ drs { dr0 with lease := some 5 } with now := 5 }, 0, { dr0 with lease := some 5 }, 5, by refine ⟨?_, ?_, ?_, ?_⟩ <;> decide +kernel⟩

theorem wit_drawerReleaseDone : ∃ (s : State) (d : BitVec 24) (w : Drawer), drawerOf s d.toNat = w ∧ w.st = .releasing ∧ recallDone s w.tag = true ∧ drainedBefore s w.chk w.base (w.base + w.len) = true ∧ rangeNear s w.base (w.base + w.len) = true ∧ placesGone s w.base (w.base + w.len) = true ∧ recallLeft s w.base (w.base + w.len) .discard w.tag = none :=
  ⟨drs { dr0 with st := .releasing, tag := 1 }, 0, { dr0 with st := .releasing, tag := 1 }, by refine ⟨?_, ?_, ?_, ?_, ?_, ?_, ?_⟩ <;> decide +kernel⟩

theorem wit_place : ∃ (s : State) (h : Handle) (r : HandleRec) (x : Extent) (n : PlaceRec), startable s h.toNat 0x30 = some r ∧ d64 r.desc 8 % 65536 = 0 ∧ d64 r.desc 16 % 65536 = 0 ∧ d8 r.desc 24 = 1 ∧ bitsOf (d8 r.desc 25) 0 2 ≠ 3 ∧ d8 r.desc 26 = 0 ∧ bitsOf (d8 r.desc 25) 7 1 = 0 ∧ d64 r.desc 16 ≠ 0 ∧ ownedRange s r.key (d64 r.desc 8) (d64 r.desc 16) = some x ∧ tierAllowed x (tierOfNo (bitsOf (d8 r.desc 25) 0 2)) = true ∧ n = { base := d64 r.desc 8, len := d64 r.desc 16, policy := .preferT0, age := d8 r.desc 27, backing := none, stackMask := bitsOf (d16 r.desc 28) 0 12, trayMask := d32 r.desc 32 } ∧ placeCount s (putPlace s n) ≤ 65536 ∧ pagesIn s (d64 r.desc 8) (d64 r.desc 8 + d64 r.desc 16) = [] :=
  ⟨lv sv 0x30 [(8, 8, 0), (16, 8, 0x10000), (24, 1, 1), (27, 1, 9)], 0, hr 0x30 (ln [(8, 8, 0), (16, 8, 0x10000), (24, 1, 1), (27, 1, 9)]), { id := 1, base := 0, len := 16777216, owner := 1, tiers := 7 }, { base := 0, len := 65536, policy := .preferT0, age := 9, backing := none, stackMask := 0, trayMask := 0 }, by refine ⟨?_, ?_, ?_, ?_, ?_, ?_, ?_, ?_, ?_, ?_, ?_, ?_, ?_⟩ <;> decide +kernel⟩

theorem wit_migrate : ∃ (s : State) (h : Handle) (r : HandleRec) (x : Extent), startable s h.toNat 0x33 = some r ∧ d64 r.desc 8 % 65536 = 0 ∧ d64 r.desc 16 % 65536 = 0 ∧ d8 r.desc 24 ≤ 2 ∧ ownedRange s r.key (d64 r.desc 8) (d64 r.desc 16) = some x ∧ tierAllowed x (tierOfNo (d8 r.desc 24)) = true :=
  ⟨lv sv 0x33 [(8, 8, 0), (16, 8, 0x10000), (24, 1, 2)], 0, hr 0x33 (ln [(8, 8, 0), (16, 8, 0x10000), (24, 1, 2)]), { id := 1, base := 0, len := 16777216, owner := 1, tiers := 7 }, by refine ⟨?_, ?_, ?_, ?_, ?_, ?_⟩ <;> decide +kernel⟩

theorem wit_winchWindow : ∃ (s : State) (t : State) (u : State) (h : Handle) (r : HandleRec) (x : Extent) (b : List Byte) (ls : List Layer) (i : Nat), startable s h.toNat 0x31 = some r ∧ dFlag r.desc 2 = false ∧ d64 r.desc 8 % 65536 = 0 ∧ 0 < d32 r.desc 16 ∧ d32 r.desc 16 ≤ 262144 ∧ 2 ≤ d8 r.desc 20 ∧ d8 r.desc 20 ≤ 64 ∧ d64 r.desc 24 % 64 = 0 ∧ 0 < d32 r.desc 32 ∧ d32 r.desc 32 ≤ 65536 ∧ d32 r.desc 36 ≤ d8 r.desc 20 ∧ d32 r.desc 36 ≤ d32 r.desc 32 ∧ ownedRange s r.key (d64 r.desc 8) (d8 r.desc 20 * d32 r.desc 16 * 65536) = some x ∧ tierAllowed x .t0 = true ∧ i = lowestFree (tblHas s.tier.windows) 256 0 ∧ i < 256 ∧ (pagesIn s (d64 r.desc 8) (d64 r.desc 8 + d8 r.desc 20 * d32 r.desc 16 * 65536)).any (pageFixed s) = false ∧ r.imagePoison = false ∧ r.image = some b ∧ layerTable b (d32 r.desc 16 * 65536) (d32 r.desc 32) = some ls ∧ windowPages x i ((List.range (d8 r.desc 20 * d32 r.desc 16)).map (fun j => d64 r.desc 8 / 65536 + j)) s = some t ∧ u = (layerRefs t r.key ls).foldl (fun s e => addRef s e.2.1 e.2.2) t ∧ d16 r.desc 22 ≠ 0 :=
  ⟨setHandle sv 0 { hr 0x31 (ln [(8, 8, 0), (16, 4, 1), (20, 1, 2), (22, 2, 3), (24, 8, 0), (32, 4, 1), (36, 4, 1)]) with image := some (List.replicate 32 (0 : Byte)) }, (windowPages { id := 1, base := 0, len := 16777216, owner := 1, tiers := 7 } 0 [0, 1] (setHandle sv 0 { hr 0x31 (ln [(8, 8, 0), (16, 4, 1), (20, 1, 2), (22, 2, 3), (24, 8, 0), (32, 4, 1), (36, 4, 1)]) with image := some (List.replicate 32 (0 : Byte)) })).getD {}, (layerRefs ((windowPages { id := 1, base := 0, len := 16777216, owner := 1, tiers := 7 } 0 [0, 1] (setHandle sv 0 { hr 0x31 (ln [(8, 8, 0), (16, 4, 1), (20, 1, 2), (22, 2, 3), (24, 8, 0), (32, 4, 1), (36, 4, 1)]) with image := some (List.replicate 32 (0 : Byte)) })).getD {}) 1 [{ src := 0, stored := 0, raw := 0, cxw := false }]).foldl (fun s e => addRef s e.2.1 e.2.2) ((windowPages { id := 1, base := 0, len := 16777216, owner := 1, tiers := 7 } 0 [0, 1] (setHandle sv 0 { hr 0x31 (ln [(8, 8, 0), (16, 4, 1), (20, 1, 2), (22, 2, 3), (24, 8, 0), (32, 4, 1), (36, 4, 1)]) with image := some (List.replicate 32 (0 : Byte)) })).getD {}), 0, { hr 0x31 (ln [(8, 8, 0), (16, 4, 1), (20, 1, 2), (22, 2, 3), (24, 8, 0), (32, 4, 1), (36, 4, 1)]) with image := some (List.replicate 32 (0 : Byte)) }, { id := 1, base := 0, len := 16777216, owner := 1, tiers := 7 }, List.replicate 32 (0 : Byte), [{ src := 0, stored := 0, raw := 0, cxw := false }], 0, by
    refine ⟨by decide +kernel, by decide +kernel, by decide +kernel, by decide +kernel, by decide +kernel, by decide +kernel, by decide +kernel, by decide +kernel, by decide +kernel, by decide +kernel, by decide +kernel, by decide +kernel, by decide +kernel, by decide +kernel, by decide +kernel, by decide +kernel, by decide +kernel, by decide +kernel, by decide +kernel, by decide +kernel, (congrArg (windowPages _ _ · _) (show _ = [0, 1] by decide +kernel)).trans (someD_get _ (by decide +kernel)), by rfl, by decide +kernel⟩⟩

theorem wit_winchWindowClose : ∃ (s : State) (h : Handle) (r : HandleRec) (w : Window), startable s h.toNat 0x31 = some r ∧ dFlag r.desc 2 = true ∧ windowOf? s (d16 r.desc 40) = some w ∧ w.closing = none ∧ w.key = r.key ∧ w.live = 0 :=
  ⟨{ lv sv 0x31 [(1, 1, 4), (40, 2, 0)] with tier := { (lv sv 0x31 [(1, 1, 4), (40, 2, 0)]).tier with windows := [(0, { base := 0, slotPages := 1, slots := 2, engMask := 1, key := 1 })] } }, 0, hr 0x31 (ln [(1, 1, 4), (40, 2, 0)]), { base := 0, slotPages := 1, slots := 2, engMask := 1, key := 1 }, by refine ⟨?_, ?_, ?_, ?_, ?_, ?_⟩ <;> decide +kernel⟩

theorem wit_winchAdvance : ∃ (s : State) (h : Handle) (r : HandleRec) (w : Window), startable s h.toNat 0x32 = some r ∧ windowOf? s (d16 r.desc 8) = some w ∧ w.closing = none ∧ w.key = r.key ∧ d32 r.desc 12 < w.layers.length ∧ 0 < d32 r.desc 16 ∧ d32 r.desc 16 ≤ w.slots ∧ d32 r.desc 12 + d32 r.desc 16 ≤ w.layers.length :=
  ⟨{ lv sv 0x32 [(8, 2, 0), (12, 4, 0), (16, 4, 1)] with tier := { (lv sv 0x32 [(8, 2, 0), (12, 4, 0), (16, 4, 1)]).tier with windows := [(0, { base := 0, slotPages := 1, slots := 2, engMask := 1, key := 1, layers := [{ src := 0, stored := 0, raw := 0, cxw := false }] })] } }, 0, hr 0x32 (ln [(8, 2, 0), (12, 4, 0), (16, 4, 1)]), { base := 0, slotPages := 1, slots := 2, engMask := 1, key := 1, layers := [{ src := 0, stored := 0, raw := 0, cxw := false }] }, by refine ⟨?_, ?_, ?_, ?_, ?_, ?_, ?_, ?_⟩ <;> decide +kernel⟩

theorem wit_flush : ∃ (s : State) (h : Handle) (r : HandleRec) (m : List Nat) (b : List Nat), startable s h.toNat 0x34 = some r ∧ d64 r.desc 8 % 4096 = 0 ∧ (d64 r.desc 8 + d64 r.desc 16) % 4096 = 0 ∧ coveredRW s r.key s.pool.extents.length (d64 r.desc 8) (d64 r.desc 8 + d64 r.desc 16) = true ∧ m = pagesIn s (d64 r.desc 8 / 65536 * 65536) (d64 r.desc 8 + d64 r.desc 16) ∧ b = m.filter (fun p => (backAt s p).any (fun b => b.copy.isSome)) :=
  ⟨lv (bk { loc := .t1 0 0 16, copy := some (.t0 0 0 0 false) }) 0x34 [(8, 8, 0), (16, 8, 0x1000)], 0, hr 0x34 (ln [(8, 8, 0), (16, 8, 0x1000)]), [0], [0], by refine ⟨?_, ?_, ?_, ?_, ?_, ?_⟩ <;> decide +kernel⟩

theorem wit_copy : ∃ (s : State) (h : Handle) (r : HandleRec), startable s h.toNat 0x58 = some r ∧ d64 r.desc 8 % 64 = 0 ∧ d64 r.desc 8 < 2 ^ 60 ∧ d64 r.desc 16 % 64 = 0 ∧ d64 r.desc 16 < 2 ^ 60 ∧ d64 r.desc 24 % 64 = 0 ∧ d64 r.desc 24 ≤ 2 ^ 48 ∧ meets (d64 r.desc 8, d64 r.desc 8 + d64 r.desc 24) (d64 r.desc 16, d64 r.desc 16 + d64 r.desc 24) = false :=
  ⟨lv sv 0x58 [(8, 8, 0), (16, 8, 0x1000), (24, 8, 0x1000)], 0, hr 0x58 (ln [(8, 8, 0), (16, 8, 0x1000), (24, 8, 0x1000)]), by refine ⟨?_, ?_, ?_, ?_, ?_, ?_, ?_, ?_⟩ <;> decide +kernel⟩

theorem wit_fill : ∃ (s : State) (h : Handle) (r : HandleRec), startable s h.toNat 0x59 = some r ∧ dFlag r.desc 2 = false ∧ fillBad r.desc = none :=
  ⟨lv sv 0x59 [(8, 8, 0), (16, 8, 0x1000000000000), (24, 1, 2)], 0, hr 0x59 (ln [(8, 8, 0), (16, 8, 0x1000000000000), (24, 1, 2)]), by refine ⟨?_, ?_, ?_⟩ <;> decide +kernel⟩

theorem wit_fillLazy : ∃ (s : State) (h : Handle) (r : HandleRec) (x : Extent) (off : Nat) (n : Nat), startable s h.toNat 0x59 = some r ∧ dFlag r.desc 2 = true ∧ fillBad r.desc = none ∧ off = d64 r.desc 8 % 281474976710656 ∧ off % 65536 = 0 ∧ isLocal s (d64 r.desc 8) = true ∧ d64 r.desc 16 = n * 65536 ∧ extentOver s off (n * 65536) = some x ∧ accessOf x r.key = some true ∧ s.tier.ops.length < 16 :=
  ⟨lv sv 0x59 [(1, 1, 4), (8, 8, 0x5000000000000), (16, 8, 0x10000)], 0, hr 0x59 (ln [(1, 1, 4), (8, 8, 0x5000000000000), (16, 8, 0x10000)]), { id := 1, base := 0, len := 16777216, owner := 1, tiers := 7 }, 0, 1, by refine ⟨?_, ?_, ?_, ?_, ?_, ?_, ?_, ?_, ?_, ?_⟩ <;> decide +kernel⟩

theorem wit_winchUnitDone_1 : ∃ (s : State) (n : BitVec 32) (o : WOp) (u : WIssued) (us : List WIssued), opOf s n.toNat = some o ∧ o.issued = u :: us ∧ u.bad = none ∧ isLazy o = false ∧ u.sent = true :=
  ⟨wop sv { kind := .fill, key := 1, issued := [{ work := .pattern 0x5000000000040 64 5, gen := 1, tag := 1, sent := true }] }, 7, { kind := .fill, key := 1, issued := [{ work := .pattern 0x5000000000040 64 5, gen := 1, tag := 1, sent := true }] }, { work := .pattern 0x5000000000040 64 5, gen := 1, tag := 1, sent := true }, [], by refine ⟨?_, ?_, ?_, ?_, ?_⟩ <;> decide +kernel⟩

theorem wit_winchUnitDone_2 : ∃ (s : State) (n : BitVec 32) (o : WOp) (u : WIssued) (us : List WIssued) (r : UnitResult) (sup : Supply) (v : State) (q : WOp) (c : Nat), opOf s n.toNat = some o ∧ o.issued = u :: us ∧ u.bad = none ∧ isLazy o = false ∧ u.sent = false ∧ supplyOf u.work ((workReads s u.work ++ workWrites s n.toNat u.work).any (fun x => !isLocal s x.1)) r = some (.inr sup) ∧ runUnit s n.toNat o u sup = .done v q c :=
  ⟨wop { bkp with pool := { bkp.pool with extents := [{ id := 1, base := 0, len := 16777216, owner := 1, tiers := 7 }] } } { kind := .fill, key := 1, issued := [{ work := .pattern 0x5000000000040 64 5, gen := 1, tag := 1 }] }, 7, { kind := .fill, key := 1, issued := [{ work := .pattern 0x5000000000040 64 5, gen := 1, tag := 1 }] }, { work := .pattern 0x5000000000040 64 5, gen := 1, tag := 1 }, [], .done, {}, (doneU (runUnit (wop { bkp with pool := { bkp.pool with extents := [{ id := 1, base := 0, len := 16777216, owner := 1, tiers := 7 }] } } { kind := .fill, key := 1, issued := [{ work := .pattern 0x5000000000040 64 5, gen := 1, tag := 1 }] }) 7 { kind := .fill, key := 1, issued := [{ work := .pattern 0x5000000000040 64 5, gen := 1, tag := 1 }] } { work := .pattern 0x5000000000040 64 5, gen := 1, tag := 1 } {})).1, (doneU (runUnit (wop { bkp with pool := { bkp.pool with extents := [{ id := 1, base := 0, len := 16777216, owner := 1, tiers := 7 }] } } { kind := .fill, key := 1, issued := [{ work := .pattern 0x5000000000040 64 5, gen := 1, tag := 1 }] }) 7 { kind := .fill, key := 1, issued := [{ work := .pattern 0x5000000000040 64 5, gen := 1, tag := 1 }] } { work := .pattern 0x5000000000040 64 5, gen := 1, tag := 1 } {})).2.1, (doneU (runUnit (wop { bkp with pool := { bkp.pool with extents := [{ id := 1, base := 0, len := 16777216, owner := 1, tiers := 7 }] } } { kind := .fill, key := 1, issued := [{ work := .pattern 0x5000000000040 64 5, gen := 1, tag := 1 }] }) 7 { kind := .fill, key := 1, issued := [{ work := .pattern 0x5000000000040 64 5, gen := 1, tag := 1 }] } { work := .pattern 0x5000000000040 64 5, gen := 1, tag := 1 } {})).2.2, by refine ⟨?_, ?_, ?_, ?_, ?_, ?_, ?_⟩ <;> first | decide +kernel | rfl⟩

theorem wit_lazyFillPageDone : ∃ (s : State) (v : State) (p : BitVec 32) (i : Nat) (c : Nat) (w : Bool) (o : WOp) (q : WOp) (u : WIssued) (b : List Byte), tblFind s.tier.awaiting p.toNat = some (i, w) ∧ opOf s i = some o ∧ o.issued.find? (fun u => (workWrites s i u.work).any (fun x => x.1 % 2 ^ 48 / 65536 == p.toNat)) = some u ∧ u.bad = none ∧ (runUnit s i o u { bytes := b } = .done v q c ∨ runUnit s i o u { bytes := b } = .away v q c) :=
  ⟨{ wop bkp { kind := .lazy 0 1, key := 1, issued := [{ work := .host 0x5000000000040 64 0, gen := 1, tag := 1 }], tag := 1 } with tier := { (wop bkp { kind := .lazy 0 1, key := 1, issued := [{ work := .host 0x5000000000040 64 0, gen := 1, tag := 1 }], tag := 1 }).tier with awaiting := [(0, (7, true))] } }, (doneU (runUnit ({ wop bkp { kind := .lazy 0 1, key := 1, issued := [{ work := .host 0x5000000000040 64 0, gen := 1, tag := 1 }], tag := 1 } with tier := { (wop bkp { kind := .lazy 0 1, key := 1, issued := [{ work := .host 0x5000000000040 64 0, gen := 1, tag := 1 }], tag := 1 }).tier with awaiting := [(0, (7, true))] } }) 7 { kind := .lazy 0 1, key := 1, issued := [{ work := .host 0x5000000000040 64 0, gen := 1, tag := 1 }], tag := 1 } { work := .host 0x5000000000040 64 0, gen := 1, tag := 1 } { bytes := List.replicate 64 (1 : Byte) })).1, 0, 7, (doneU (runUnit ({ wop bkp { kind := .lazy 0 1, key := 1, issued := [{ work := .host 0x5000000000040 64 0, gen := 1, tag := 1 }], tag := 1 } with tier := { (wop bkp { kind := .lazy 0 1, key := 1, issued := [{ work := .host 0x5000000000040 64 0, gen := 1, tag := 1 }], tag := 1 }).tier with awaiting := [(0, (7, true))] } }) 7 { kind := .lazy 0 1, key := 1, issued := [{ work := .host 0x5000000000040 64 0, gen := 1, tag := 1 }], tag := 1 } { work := .host 0x5000000000040 64 0, gen := 1, tag := 1 } { bytes := List.replicate 64 (1 : Byte) })).2.2, true, { kind := .lazy 0 1, key := 1, issued := [{ work := .host 0x5000000000040 64 0, gen := 1, tag := 1 }], tag := 1 }, (doneU (runUnit ({ wop bkp { kind := .lazy 0 1, key := 1, issued := [{ work := .host 0x5000000000040 64 0, gen := 1, tag := 1 }], tag := 1 } with tier := { (wop bkp { kind := .lazy 0 1, key := 1, issued := [{ work := .host 0x5000000000040 64 0, gen := 1, tag := 1 }], tag := 1 }).tier with awaiting := [(0, (7, true))] } }) 7 { kind := .lazy 0 1, key := 1, issued := [{ work := .host 0x5000000000040 64 0, gen := 1, tag := 1 }], tag := 1 } { work := .host 0x5000000000040 64 0, gen := 1, tag := 1 } { bytes := List.replicate 64 (1 : Byte) })).2.1, { work := .host 0x5000000000040 64 0, gen := 1, tag := 1 }, List.replicate 64 (1 : Byte), by refine ⟨?_, ?_, ?_, ?_, ?_⟩ <;> first | decide +kernel | exact Or.inl (doneU_get (by decide +kernel)) | rfl⟩

theorem wit_winchUnitIssue : ∃ (s : State) (u : State) (e : Fin 16), u = assignEngines (seedBackups s) ∧ u.tier.deadEngines.contains e.val = false ∧ warming u = false ∧ (readyAt u e.val (· == 1)).isEmpty = false ∧ (readyAt u e.val (· == 5)).isEmpty = true :=
  ⟨wop sv { kind := .copy, level := 1, engine := some 0, todo := [.pattern 0x5000000000040 64 5] }, assignEngines (seedBackups (wop sv { kind := .copy, level := 1, engine := some 0, todo := [.pattern 0x5000000000040 64 5] })), 0, by refine ⟨?_, ?_, ?_, ?_, ?_⟩ <;> decide +kernel⟩

theorem wit_chunkCopied : ∃ (s : State) (n : BitVec 32) (g : BitVec 32) (c : Chunk) (o : WOp) (ms : List MPage), s.tier.chunks.find? (fun c => c.op == n.toNat && c.range == g.toNat && c.stage == .copying) = some c ∧ opOf s n.toNat = some o ∧ o.handle = none ∧ chunkDone s c = true ∧ ms = c.pages.map (fun m => { m with old := ((backById s m.id).map (·.loc)).getD m.old }) :=
  ⟨{ wop sv { kind := .coldDemote } with tier := { (wop sv { kind := .coldDemote }).tier with chunks := [{ op := 7, range := 0, pages := [] }] } }, 7, 0, { op := 7, range := 0, pages := [] }, { kind := .coldDemote }, [], by refine ⟨?_, ?_, ?_, ?_, ?_⟩ <;> decide +kernel⟩

theorem wit_chunkDrained : ∃ (s : State) (n : BitVec 32) (g : BitVec 32) (c : Chunk), s.tier.chunks.find? (fun c => c.op == n.toNat && c.range == g.toNat && c.stage == .switched) = some c ∧ s.pool.flights.any (fun f => c.carried.contains (f.src, f.tag)) = false :=
  ⟨{ sv with tier := { sv.tier with chunks := [{ op := 7, range := 0, pages := [], stage := .switched, carried := [(100, 3)] }] } }, 7, 0, { op := 7, range := 0, pages := [], stage := .switched, carried := [(100, 3)] }, by refine ⟨?_, ?_⟩ <;> decide +kernel⟩

theorem wit_writebackAgeExpire : ∃ (s : State) (p : BitVec 32) (b : Back), backAt s p.toNat = some b ∧ b.copy.isSome = true ∧ (dirtyIn s b p.toNat (p.toNat * 65536) (p.toNat * 65536 + 65536) true).isEmpty = false ∧ workQueued s (.writeback p.toNat (p.toNat * 65536) (p.toNat * 65536 + 65536)) = false :=
  ⟨{ bk { loc := .t1 0 0 16, copy := some (.t0 0 0 0 false), dirty := 1, dirtySince := [(0, 0)] } with now := msNs (fld (bk { loc := .t1 0 0 16, copy := some (.t0 0 0 0 false), dirty := 1, dirtySince := [(0, 0)] }) 0x30000 0 16) }, 0, { loc := .t1 0 0 16, copy := some (.t0 0 0 0 false), dirty := 1, dirtySince := [(0, 0)] }, by refine ⟨?_, ?_, ?_, ?_⟩ <;> decide +kernel⟩

theorem wit_journalProgress : ∃ (s : State) (n : BitVec 32) (o : WOp), opOf s n.toNat = some o ∧ journals o = true ∧ msNs 1 ≤ s.now - o.journalAt :=
  ⟨{ wop sv { kind := .copy, bytes := 5 } with now := msNs 1 }, 7, { kind := .copy, bytes := 5 }, by refine ⟨?_, ?_, ?_⟩ <;> decide +kernel⟩

theorem wit_stackEvacuate : ∃ (s : State) (h : Handle) (r : HandleRec), startable s h.toNat 0x35 = some r ∧ d8 r.desc 8 ≤ 11 ∧ d8 r.desc 9 ≤ 2 ∧ d16 r.desc 10 ≤ 255 ∧ 0 < d16 r.desc 12 ∧ d16 r.desc 10 + d16 r.desc 12 ≤ 256 :=
  ⟨lv sv 0x35 [(8, 1, 11), (9, 1, 2), (10, 2, 255), (12, 2, 1)], 0, hr 0x35 (ln [(8, 1, 11), (9, 1, 2), (10, 2, 255), (12, 2, 1)]), by refine ⟨?_, ?_, ?_, ?_, ?_, ?_⟩ <;> decide +kernel⟩

theorem wit_ctableLoad : ∃ (s : State) (t : State) (h : Handle) (r : HandleRec) (b : List Byte) (c : CodeTab), startable s h.toNat 0x38 = some r ∧ d64 r.desc 8 % 64 = 0 ∧ d8 r.desc 20 ≠ 255 ∧ r.imagePoison = false ∧ r.image = some b ∧ crc32c b = d32 r.desc 24 ∧ tableOf b = some c ∧ slotRefusal s (d8 r.desc 20) h.toNat r.key = none ∧ t = installGen s (d8 r.desc 20) r.key c.cxa c.width c.lengths :=
  ⟨setHandle sv 0 { hr 0x38 (ln [(8, 8, 0), (16, 4, 128), (20, 1, 0), (24, 4, crc32c ([(0 : Byte), 4, 16, 0] ++ List.replicate 60 (0 : Byte) ++ List.replicate 8 (0x44 : Byte) ++ List.replicate 56 (0 : Byte)))]) with image := some ([(0 : Byte), 4, 16, 0] ++ List.replicate 60 (0 : Byte) ++ List.replicate 8 (0x44 : Byte) ++ List.replicate 56 (0 : Byte)) }, installGen (setHandle sv 0 { hr 0x38 (ln [(8, 8, 0), (16, 4, 128), (20, 1, 0), (24, 4, crc32c ([(0 : Byte), 4, 16, 0] ++ List.replicate 60 (0 : Byte) ++ List.replicate 8 (0x44 : Byte) ++ List.replicate 56 (0 : Byte)))]) with image := some ([(0 : Byte), 4, 16, 0] ++ List.replicate 60 (0 : Byte) ++ List.replicate 8 (0x44 : Byte) ++ List.replicate 56 (0 : Byte)) }) 0 1 false 4 (List.replicate 16 4), 0, { hr 0x38 (ln [(8, 8, 0), (16, 4, 128), (20, 1, 0), (24, 4, crc32c ([(0 : Byte), 4, 16, 0] ++ List.replicate 60 (0 : Byte) ++ List.replicate 8 (0x44 : Byte) ++ List.replicate 56 (0 : Byte)))]) with image := some ([(0 : Byte), 4, 16, 0] ++ List.replicate 60 (0 : Byte) ++ List.replicate 8 (0x44 : Byte) ++ List.replicate 56 (0 : Byte)) }, ([(0 : Byte), 4, 16, 0] ++ List.replicate 60 (0 : Byte) ++ List.replicate 8 (0x44 : Byte) ++ List.replicate 56 (0 : Byte)), { cxa := false, width := 4, lengths := List.replicate 16 4 }, by refine ⟨?_, ?_, ?_, ?_, ?_, ?_, ?_, ?_, ?_⟩ <;> decide +kernel⟩

theorem wit_build : ∃ (s : State) (h : Handle) (r : HandleRec), startable s h.toNat 0x39 = some r ∧ buildBad r.desc = none ∧ d8 r.desc 41 = 0 ∧ slotRefusal s (d8 r.desc 40) h.toNat r.key = none :=
  ⟨lv sv 0x39 [(8, 8, 0x5000000000000), (16, 8, 0x1000), (40, 1, 0), (41, 1, 0)], 0, hr 0x39 (ln [(8, 8, 0x5000000000000), (16, 8, 0x1000), (40, 1, 0), (41, 1, 0)]), by refine ⟨?_, ?_, ?_, ?_⟩ <;> decide +kernel⟩

theorem wit_buildEncode : ∃ (s : State) (h : Handle) (r : HandleRec), startable s h.toNat 0x39 = some r ∧ buildBad r.desc = none ∧ d8 r.desc 41 = 1 ∧ slotRefusal s (d8 r.desc 40) h.toNat r.key = none ∧ objectsFull s = false :=
  ⟨lv sv 0x39 [(8, 8, 0x5000000000000), (16, 8, 0x1000), (24, 8, 0x5000000010000), (32, 8, 0x10000), (40, 1, 0), (41, 1, 1)], 0, hr 0x39 (ln [(8, 8, 0x5000000000000), (16, 8, 0x1000), (24, 8, 0x5000000010000), (32, 8, 0x10000), (40, 1, 0), (41, 1, 1)]), by refine ⟨?_, ?_, ?_, ?_, ?_⟩ <;> decide +kernel⟩

theorem wit_encode : ∃ (s : State) (h : Handle) (r : HandleRec) (g : CGen), startable s h.toNat 0x39 = some r ∧ buildBad r.desc = none ∧ d8 r.desc 41 = 2 ∧ slotForeign s (d8 r.desc 40) r.key = false ∧ slotRetiring s (d8 r.desc 40) = false ∧ cgenOf s (d8 r.desc 40) (cslotOf s (d8 r.desc 40)).cur = some g ∧ g.cxa = true ∧ objectsFull s = false :=
  ⟨{ lv sv 0x39 [(8, 8, 0x5000000000000), (16, 8, 0x1000), (24, 8, 0x5000000010000), (32, 8, 0x10000), (40, 1, 0), (41, 1, 2)] with cmp := { (lv sv 0x39 [(8, 8, 0x5000000000000), (16, 8, 0x1000), (24, 8, 0x5000000010000), (32, 8, 0x10000), (40, 1, 0), (41, 1, 2)]).cmp with slots := [(0, { owner := 1, cur := 1, gens := [{ num := 1, cxa := true, width := 8, lengths := List.replicate 268 9 }] })] } }, 0, hr 0x39 (ln [(8, 8, 0x5000000000000), (16, 8, 0x1000), (24, 8, 0x5000000010000), (32, 8, 0x10000), (40, 1, 0), (41, 1, 2)]), { num := 1, cxa := true, width := 8, lengths := List.replicate 268 9 }, by refine ⟨?_, ?_, ?_, ?_, ?_, ?_, ?_, ?_⟩ <;> decide +kernel⟩

theorem wit_expand : ∃ (s : State) (h : Handle) (r : HandleRec) (x : CObj), startable s h.toNat 0x39 = some r ∧ buildBad r.desc = none ∧ d8 r.desc 41 = 3 ∧ objectOf s r.key (d16 r.desc 42) = some x ∧ x.raw ≤ d64 r.desc 32 :=
  ⟨{ lv sv 0x39 [(24, 8, 0x5000000010000), (32, 8, 0x1000), (41, 1, 3)] with cmp := { (lv sv 0x39 [(24, 8, 0x5000000010000), (32, 8, 0x1000), (41, 1, 3)]).cmp with objs := [(0, { owner := 1, dst := 0x5000000020000, cap := 0x10000, raw := 0x1000, stored := 0x800, slot := 0, gen := 1 })] } }, 0, hr 0x39 (ln [(24, 8, 0x5000000010000), (32, 8, 0x1000), (41, 1, 3)]), { owner := 1, dst := 0x5000000020000, cap := 0x10000, raw := 0x1000, stored := 0x800, slot := 0, gen := 1 }, by refine ⟨?_, ?_, ?_, ?_, ?_⟩ <;> decide +kernel⟩

theorem wit_release : ∃ (s : State) (t : State) (h : Handle) (r : HandleRec) (x : CObj), startable s h.toNat 0x39 = some r ∧ buildBad r.desc = none ∧ d8 r.desc 41 = 4 ∧ objectOf s r.key (d16 r.desc 42) = some x ∧ t = { s with cmp := { s.cmp with objs := tblPut s.cmp.objs (d16 r.desc 42) { x with gone := true } } } :=
  ⟨{ lv sv 0x39 [(41, 1, 4)] with cmp := { (lv sv 0x39 [(41, 1, 4)]).cmp with objs := [(0, { owner := 1, dst := 0x5000000020000, cap := 0x10000, raw := 0x1000, stored := 0x800, slot := 0, gen := 1 })] } }, { lv sv 0x39 [(41, 1, 4)] with cmp := { (lv sv 0x39 [(41, 1, 4)]).cmp with objs := [(0, { ({ owner := 1, dst := 0x5000000020000, cap := 0x10000, raw := 0x1000, stored := 0x800, slot := 0, gen := 1 } : CObj) with gone := true })] } }, 0, hr 0x39 (ln [(41, 1, 4)]), { owner := 1, dst := 0x5000000020000, cap := 0x10000, raw := 0x1000, stored := 0x800, slot := 0, gen := 1 }, by refine ⟨?_, ?_, ?_, ?_, ?_⟩ <;> decide +kernel⟩

theorem wit_ctableRetire : ∃ (s : State) (h : Handle) (r : HandleRec) (gs : List Nat), startable s h.toNat 0x3A = some r ∧ dFlag r.desc 2 = false ∧ d8 r.desc 8 ≠ 255 ∧ slotForeign s (d8 r.desc 8) r.key = false ∧ slotLive s (d8 r.desc 8) = false ∧ gs = namedGens s (d8 r.desc 8) (d8 r.desc 9) ∧ (gs.map (genRefs s (d8 r.desc 8))).sum = 0 :=
  ⟨{ lv sv 0x3A [(8, 1, 0), (9, 1, 0)] with cmp := { (lv sv 0x3A [(8, 1, 0), (9, 1, 0)]).cmp with slots := [(0, { owner := 1, cur := 1, gens := [{ num := 1, cxa := true, width := 8, lengths := List.replicate 268 9 }] })] } }, 0, hr 0x3A (ln [(8, 1, 0), (9, 1, 0)]), [1], by refine ⟨?_, ?_, ?_, ?_, ?_, ?_, ?_⟩ <;> decide +kernel⟩

theorem wit_ctableRetireRecode : ∃ (s : State) (t : State) (h : Handle) (r : HandleRec) (gs : List Nat) (os : List Nat), startable s h.toNat 0x3A = some r ∧ dFlag r.desc 2 = true ∧ d8 r.desc 8 ≠ 255 ∧ slotForeign s (d8 r.desc 8) r.key = false ∧ slotLive s (d8 r.desc 8) = false ∧ gs = namedGens s (d8 r.desc 8) (d8 r.desc 9) ∧ recodeOk s r.key (d8 r.desc 8) (d8 r.desc 10) gs = true ∧ t = claimSlot s (d8 r.desc 8) h.toNat true ∧ os = (t.cmp.objs.filter (fun e => e.2.slot == d8 r.desc 8 && gs.contains e.2.gen && !e.2.gone)).map (·.1) :=
  ⟨{ lv sv 0x3A [(1, 1, 4), (8, 1, 0), (9, 1, 1), (10, 1, 2)] with cmp := { (lv sv 0x3A [(1, 1, 4), (8, 1, 0), (9, 1, 1), (10, 1, 2)]).cmp with slots := [(0, { owner := 1, cur := 1, gens := [{ num := 1, cxa := true, width := 8, lengths := List.replicate 268 9 }] }), (2, { owner := 1, cur := 1, gens := [{ num := 1, cxa := true, width := 8, lengths := List.replicate 268 9 }] })] } }, setCslot ({ lv sv 0x3A [(1, 1, 4), (8, 1, 0), (9, 1, 1), (10, 1, 2)] with cmp := { (lv sv 0x3A [(1, 1, 4), (8, 1, 0), (9, 1, 1), (10, 1, 2)]).cmp with slots := [(0, { owner := 1, cur := 1, gens := [{ num := 1, cxa := true, width := 8, lengths := List.replicate 268 9 }] }), (2, { owner := 1, cur := 1, gens := [{ num := 1, cxa := true, width := 8, lengths := List.replicate 268 9 }] })] } }) 0 { cslotOf ({ lv sv 0x3A [(1, 1, 4), (8, 1, 0), (9, 1, 1), (10, 1, 2)] with cmp := { (lv sv 0x3A [(1, 1, 4), (8, 1, 0), (9, 1, 1), (10, 1, 2)]).cmp with slots := [(0, { owner := 1, cur := 1, gens := [{ num := 1, cxa := true, width := 8, lengths := List.replicate 268 9 }] }), (2, { owner := 1, cur := 1, gens := [{ num := 1, cxa := true, width := 8, lengths := List.replicate 268 9 }] })] } }) 0 with retiring := true, live := some 0 }, 0, hr 0x3A (ln [(1, 1, 4), (8, 1, 0), (9, 1, 1), (10, 1, 2)]), [1], [], by refine ⟨?_, ?_, ?_, ?_, ?_, ?_, ?_, ?_, ?_⟩ <;> decide +kernel⟩

theorem wit_blockRefetch : ∃ (s : State) (u : State) (off : PoolOff) (i : Nat) (b : Back), backIdOf s (pageOf off.toNat) = some i ∧ backById s i = some b ∧ locTier b.loc = .t1 ∧ refetchDue s (off.toNat / 4096) = true ∧ u = endRefetch s (off.toNat / 4096) ∧ trayFenced u b.loc = false ∧ b.lost = false :=
  ⟨{ bk { loc := .t1 0 0 16 } with coh := { (bk { loc := .t1 0 0 16 }).coh with refetch := [1] } }, endRefetch ({ bk { loc := .t1 0 0 16 } with coh := { (bk { loc := .t1 0 0 16 }).coh with refetch := [1] } }) 0, 0, 4, { loc := .t1 0 0 16 }, by refine ⟨?_, ?_, ?_, ?_, ?_, ?_, ?_⟩ <;> decide +kernel⟩

theorem wit_refreshDue : ∃ (s : State) (st : StackId) (b : BankId) (n : Nat), bankYields s st.val b.val = true ∧ n = tblGet (stackOf s st.val).refDue b.val 0 ∧ n ≠ 0 :=
  ⟨setStack sv 11 { refDue := [(255, 2)] }, 11, 255, 2, by refine ⟨?_, ?_, ?_⟩ <;> decide +kernel⟩

theorem wit_preemptionPoint : ∃ (s : State) (u : State) (v : State) (st : StackId) (b : BankId) (q : Seq) (p : Seq), seqAt s st.val b.val .running = some q ∧ q.granted = true ∧ q.faulted = false ∧ quantumEnd s q = (u, p) ∧ v = serveRefresh u st.val b.val :=
  ⟨bs (sq 6), (quantumEnd (bs (sq 6)) (sq 6)).1, serveRefresh (quantumEnd (bs (sq 6)) (sq 6)).1 0 0, 0, 0, sq 6, (quantumEnd (bs (sq 6)) (sq 6)).2, by refine ⟨?_, ?_, ?_, ?_, ?_⟩ <;> decide +kernel⟩

theorem wit_tempSample : ∃ (s : State) (st : StackId) (t : BitVec 8), t.toNat ≤ fld s (stackBase st.val) 8 8 ∧ t.toNat < fld s (stackBase st.val) 0 8 ∧ t.toNat < fld s (stackBase st.val) 16 8 ∧ s.pwr.tripped = false :=
  ⟨sv, 0, 20, by refine ⟨?_, ?_, ?_, ?_⟩ <;> decide +kernel⟩

theorem wit_dramReread : ∃ (s : State) (u : State) (off : PoolOff) (st : Nat) (b : Nat) (i : Nat), s.coh.rereads.contains (off.toNat / 64) = true ∧ u = { s with coh := { s.coh with rereads := s.coh.rereads.erase (off.toNat / 64) } } ∧ bankOfLine u (off.toNat / 64) = some (st, b) ∧ backIdOf u (off.toNat / 64 / 1024) = some i :=
  ⟨{ bk { loc := .t0 0 0 0 false } with coh := { sv.coh with rereads := [1] } }, { { bk { loc := .t0 0 0 0 false } with coh := { sv.coh with rereads := [1] } } with coh := { ({ bk { loc := .t0 0 0 0 false } with coh := { sv.coh with rereads := [1] } }).coh with rereads := [] } }, 64, 0, 0, 4, by refine ⟨?_, ?_, ?_, ?_⟩ <;> decide +kernel⟩

theorem wit_rowSpareCopyDone : ∃ (s : State) (st : StackId) (b : BankId) (d : Fin 64) (j : Nat × Nat), (stackOf s st.val).rowJobs.find? (fun j => j.1 == b.val * 64 + d.val) = some j :=
  ⟨setStack sv 0 { rowJobs := [(0, 9)] }, 0, 0, 0, (0, 9), by decide +kernel⟩

theorem wit_bankReplaceCopyDone : ∃ (s : State) (u : State) (st : StackId) (b : BankId) (j : BankJob), (stackOf s st.val).jobs.find? (fun j => j.bank == b.val) = some j ∧ u = endEvacs (creditSpare (bump (setStack s st.val { stackOf s st.val with jobs := (stackOf s st.val).jobs.erase j, spares := tblPut ((stackOf s st.val).spares.map (fun e => if e.2.used && e.2.bank == b.val then (e.1, { e.2 with used := false, failed := true }) else e)) j.unit { bank := b.val, used := true }, rowUsed := (stackOf s st.val).rowUsed.filter (fun e => e.1 / 64 != b.val), rowJobs := (stackOf s st.val).rowJobs.filter (fun x => x.1 / 64 != b.val), corrected := tblErase (stackOf s st.val).corrected b.val, rowCorrected := (stackOf s st.val).rowCorrected.filter (fun x => x.1 / 2 ^ 32 / 64 != b.val) }) (stackCnt st.val 4)) st.val j) st.val ∧ seqAt u st.val b.val .running = none :=
  ⟨setStack sv 0 { jobs := [{ bank := 3, unit := 2 }] }, endEvacs (creditSpare (bump (setStack (setStack sv 0 { jobs := [{ bank := 3, unit := 2 }] }) 0 { stackOf (setStack sv 0 { jobs := [{ bank := 3, unit := 2 }] }) 0 with jobs := [], spares := [(2, { bank := 3, used := true })] }) (stackCnt 0 4)) 0 { bank := 3, unit := 2 }) 0, 0, 3, { bank := 3, unit := 2 }, by refine ⟨?_, ?_, ?_⟩ <;> decide +kernel⟩

theorem wit_patrolScrub : ∃ (s : State) (st : StackId) (b : BankId) (d : Fin 64), bankYields s st.val b.val = true ∧ bankWaits s st.val b.val = [] :=
  ⟨sv, 0, 0, 63, by refine ⟨?_, ?_⟩ <;> decide +kernel⟩

theorem wit_stackBaseLogicFault : ∃ (s : State) (st : StackId), (stackOf s st.val).mode = .online ∧ flag s (stackBase st.val) 48 = true :=
  ⟨regs sv [(stackBase 0, 2 ^ 48)], 0, by refine ⟨?_, ?_⟩ <;> decide +kernel⟩

theorem wit_bauPlace : ∃ (s : State) (h : Handle) (r : HandleRec) (x : Extent) (i : Nat) (st : Nat) (b : Nat) (ps : List Nat), startable s h.toNat 0x41 = some r ∧ dFlag r.desc 2 = false ∧ dFlag r.desc 3 = false ∧ dFlag r.desc 4 = false ∧ d64 r.desc 8 % 65536 = 0 ∧ d64 r.desc 16 % 65536 = 0 ∧ 0 < d64 r.desc 16 ∧ d64 r.desc 16 ≤ 260046848 ∧ d8 r.desc 24 ≤ 11 ∧ ownedRange s r.key (d64 r.desc 8) (d64 r.desc 16) = some x ∧ tierAllowed x .t0 = true ∧ ps = (List.range (d64 r.desc 16 / 65536)).map (fun i => d64 r.desc 8 / 65536 + i) ∧ ps.filter (fun g => (backIdOf s g).isSome) = [] ∧ quotaRoom s x.owner .t0 ps.length = true ∧ i = lowestFree (tblHas s.bau.places) 65536 0 ∧ i < 65536 ∧ ps.filter (fun p => !(backAt s p).any (fun b => decide (locTier b.loc = .t0) && !b.lost)) = ps ∧ ps.any (fun p => (backAt s p).any (fun b => b.pin != .none)) = false ∧ chooseBank s (d64 r.desc 8) (d64 r.desc 16 / 65536) none (d8 r.desc 24) (d8 r.desc 25) = some (st, b) :=
  ⟨lv sv 0x41 [(8, 8, 0), (16, 8, 0x10000), (24, 1, 11), (25, 1, 7)], 0, hr 0x41 (ln [(8, 8, 0), (16, 8, 0x10000), (24, 1, 11), (25, 1, 7)]), { id := 1, base := 0, len := 16777216, owner := 1, tiers := 7 }, 0, 11, 7, [0], by refine ⟨?_, ?_, ?_, ?_, ?_, ?_, ?_, ?_, ?_, ?_, ?_, ?_, ?_, ?_, ?_, ?_, ?_, ?_, ?_⟩ <;> decide +kernel⟩

theorem wit_bauPlaceRelease : ∃ (s : State) (h : Handle) (r : HandleRec) (p : Placement), startable s h.toNat 0x41 = some r ∧ dFlag r.desc 2 = true ∧ tblFind s.bau.places (d32 r.desc 28) = some p ∧ p.owner = r.key ∧ p.made = true ∧ placeClosing p = false :=
  ⟨{ lv sv 0x41 [(1, 1, 4), (28, 4, 0)] with bau := { (lv sv 0x41 [(1, 1, 4), (28, 4, 0)]).bau with places := [(0, { base := 0, len := 0x10000, stack := 0, bank := 0, owner := 1, made := true })] } }, 0, hr 0x41 (ln [(1, 1, 4), (28, 4, 0)]), { base := 0, len := 0x10000, stack := 0, bank := 0, owner := 1, made := true }, by refine ⟨?_, ?_, ?_, ?_, ?_, ?_⟩ <;> decide +kernel⟩

theorem wit_bauLaunch : ∃ (s : State) (h : Handle) (r : HandleRec) (n : Nat), startable s h.toNat 0x40 = some r ∧ d64 r.desc 8 % 64 = 0 ∧ d64 r.desc 8 < 281474976710656 ∧ tblFind s.bau.reading h.toNat = none ∧ n = imageBytes (lineBytes (currentLine s (d64 r.desc 8 / 64)).1) ∧ readReady s 0 (d64 r.desc 8) n = true ∧ rangeQuiet s (d64 r.desc 8) n false = true :=
  ⟨lv (imgS sv) 0x40 [(8, 8, 0)], 0, hr 0x40 (ln [(8, 8, 0)]), 72, by refine ⟨?_, ?_, ?_, ?_, ?_, ?_, ?_⟩ <;> decide +kernel⟩

theorem wit_bauHoldsInstalled : ∃ (s : State) (u : State) (st : StackId) (b : BankId) (q : Seq), u = nextLaunch s st.val b.val ∧ seqAt u st.val b.val .holding = some q ∧ holdsReady u q = true ∧ sharedLocks u q = [] :=
  ⟨bs { sq 6 with stage := .holding, granted := false, tag := 1 }, nextLaunch (bs { sq 6 with stage := .holding, granted := false, tag := 1 }) 0 0, 0, 0, { sq 6 with stage := .holding, granted := false, tag := 1 }, by refine ⟨?_, ?_, ?_, ?_⟩ <;> decide +kernel⟩

theorem wit_bauSequenceStart : ∃ (s : State) (u : State) (st : StackId) (b : BankId) (q : Seq) (im : SeqImage) (n : Nat), seqAt s st.val b.val .ready = some q ∧ warming s = false ∧ stackStarts s st.val = true ∧ bankJob s st.val b.val = false ∧ setMoving s (q.reads ++ q.locks) = false ∧ bankClosed s st.val b.val = false ∧ (recentStarts s st.val).length < fld s (stackBase st.val + 0x400) 21 7 ∧ s.bau.seqs.any (fun x => x.stack == st.val && x.stage == .ready && x.waited && decide (x.num < q.num)) = false ∧ n = imageBytes (lineBytes (currentLine s (q.image / 64)).1) ∧ parseImage (linesBytes ((linesIn q.image n).map (currentLine s))) = some im ∧ programFault im.prog = none ∧ u = noteEngineRead s q.image n :=
  ⟨imgS (bs { sq 6 with stage := .ready, granted := false }), noteEngineRead (imgS (bs { sq 6 with stage := .ready, granted := false })) 0 72, 0, 0, { sq 6 with stage := .ready, granted := false }, (parseImage (linesBytes ((linesIn 0 72).map (currentLine (imgS (bs { sq 6 with stage := .ready, granted := false })))))).getD ⟨[], [], [], 0⟩, 72, by refine ⟨?_, ?_, ?_, ?_, ?_, ?_, ?_, ?_, ?_, ?_, ?_, ?_⟩ <;> first | decide +kernel | rfl⟩

theorem wit_bauQuantumGrant : ∃ (s : State) (st : StackId) (b : BankId) (q : Seq), seqAt s st.val b.val .running = some q ∧ warming s = false ∧ q.granted = false ∧ q.waitFrom = none ∧ bankJob s st.val b.val = false ∧ abortedH s q.handle = false ∧ meterOf s st.val + 256 ≤ fld s (stackBase st.val + 0x400) 0 21 ∧ (grantTurn s st.val).all (fun x => x == b.val) = true :=
  ⟨bs { sq 6 with granted := false }, 0, 0, { sq 6 with granted := false }, by refine ⟨?_, ?_, ?_, ?_, ?_, ?_, ?_, ?_⟩ <;> decide +kernel⟩

theorem wit_bauQuantumFault : ∃ (s : State) (st : StackId) (b : BankId) (q : Seq), seqAt s st.val b.val .running = some q ∧ q.granted = true ∧ q.faulted = false :=
  ⟨bs (sq 6), 0, 0, sq 6, by refine ⟨?_, ?_, ?_⟩ <;> decide +kernel⟩

theorem wit_bauSequenceEnd : ∃ (s : State) (st : StackId) (b : BankId) (q : Seq) (r : HandleRec), seqAt s st.val b.val .committed = some q ∧ handleOf s q.handle = some r ∧ r.phase = .committed ∧ r.abortWon = false :=
  ⟨setHandle (bs { sq 6 with granted := false, stage := .committed }) 0 { hr 0x40 0 with phase := .committed }, 0, 0, { sq 6 with granted := false, stage := .committed }, { hr 0x40 0 with phase := .committed }, by refine ⟨?_, ?_, ?_, ?_⟩ <;> decide +kernel⟩

theorem wit_bauLi : ∃ (s : State) (st : StackId) (b : BankId) (q : Seq) (w : Word), nextIns s st.val b.val 0x01 = some (q, w) :=
  ⟨bs (sq (BitVec.ofNat 64 (1))), 0, 0, sq (BitVec.ofNat 64 (1)), BitVec.ofNat 64 (1), by decide +kernel⟩

theorem wit_bauAddi : ∃ (s : State) (st : StackId) (b : BankId) (q : Seq) (w : Word), nextIns s st.val b.val 0x02 = some (q, w) :=
  ⟨bs (sq (BitVec.ofNat 64 (2))), 0, 0, sq (BitVec.ofNat 64 (2)), BitVec.ofNat 64 (2), by decide +kernel⟩

theorem wit_bauSetc : ∃ (s : State) (st : StackId) (b : BankId) (q : Seq) (w : Word), nextIns s st.val b.val 0x03 = some (q, w) :=
  ⟨bs (sq (BitVec.ofNat 64 (3))), 0, 0, sq (BitVec.ofNat 64 (3)), BitVec.ofNat 64 (3), by decide +kernel⟩

theorem wit_bauLoop : ∃ (s : State) (st : StackId) (b : BankId) (q : Seq) (w : Word), nextIns s st.val b.val 0x04 = some (q, w) :=
  ⟨bs (sq (BitVec.ofNat 64 (4))), 0, 0, sq (BitVec.ofNat 64 (4)), BitVec.ofNat 64 (4), by decide +kernel⟩

theorem wit_bauSetf : ∃ (s : State) (st : StackId) (b : BankId) (q : Seq) (w : Word), nextIns s st.val b.val 0x05 = some (q, w) :=
  ⟨bs (sq (BitVec.ofNat 64 (5))), 0, 0, sq (BitVec.ofNat 64 (5)), BitVec.ofNat 64 (5), by decide +kernel⟩

theorem wit_bauEnd : ∃ (s : State) (u : State) (st : StackId) (b : BankId) (q : Seq) (p : Seq) (w : Word), nextIns s st.val b.val 0x06 = some (q, w) ∧ quantumEnd (bump s (bauCnt st.val 3)) { q with cycles := q.cycles + 1, used := q.used + 1 } = (u, p) :=
  ⟨bs (sq (BitVec.ofNat 64 (6))), (quantumEnd (bump (bs (sq (BitVec.ofNat 64 (6)))) (bauCnt 0 3)) { sq (BitVec.ofNat 64 (6)) with cycles := 1, used := 1 }).1, 0, 0, sq (BitVec.ofNat 64 (6)), (quantumEnd (bump (bs (sq (BitVec.ofNat 64 (6)))) (bauCnt 0 3)) { sq (BitVec.ofNat 64 (6)) with cycles := 1, used := 1 }).2, BitVec.ofNat 64 (6), by refine ⟨?_, ?_⟩ <;> decide +kernel⟩

theorem wit_bauLds : ∃ (s : State) (st : StackId) (b : BankId) (q : Seq) (w : Word), nextIns s st.val b.val 0x10 = some (q, w) ∧ Claims.BauInside q w (2048 * iAt w 24 7) :=
  ⟨bs (sq (BitVec.ofNat 64 (16 + 16 * 2 ^ 24))), 0, 0, sq (BitVec.ofNat 64 (16 + 16 * 2 ^ 24)), BitVec.ofNat 64 (16 + 16 * 2 ^ 24), by refine ⟨?_, ?_⟩ <;> first | decide +kernel | rfl⟩

theorem wit_bauMv : ∃ (s : State) (st : StackId) (b : BankId) (q : Seq) (w : Word) (n : Nat), nextIns s st.val b.val 0x11 = some (q, w) ∧ iDec w = false ∧ n = elemBytes w (mvN w * mvK w) ∧ Claims.BauInside q w n :=
  ⟨bs (sq (BitVec.ofNat 64 (17 + 3 * 2 ^ 33))), 0, 0, sq (BitVec.ofNat 64 (17 + 3 * 2 ^ 33)), BitVec.ofNat 64 (17 + 3 * 2 ^ 33), elemBytes (BitVec.ofNat 64 (17 + 3 * 2 ^ 33)) (mvN (BitVec.ofNat 64 (17 + 3 * 2 ^ 33)) * mvK (BitVec.ofNat 64 (17 + 3 * 2 ^ 33))), by refine ⟨?_, ?_, ?_, ?_⟩ <;> first | decide +kernel | rfl⟩

theorem wit_bauScore : ∃ (s : State) (st : StackId) (b : BankId) (q : Seq) (w : Word) (n : Nat), nextIns s st.val b.val 0x12 = some (q, w) ∧ n = elemBytes w (scT w * scD w) ∧ Claims.BauInside q w n :=
  ⟨bs (sq (BitVec.ofNat 64 (18))), 0, 0, sq (BitVec.ofNat 64 (18)), BitVec.ofNat 64 (18), elemBytes (BitVec.ofNat 64 (18)) (scT (BitVec.ofNat 64 (18)) * scD (BitVec.ofNat 64 (18))), by refine ⟨?_, ?_, ?_⟩ <;> first | decide +kernel | rfl⟩

theorem wit_bauSmx : ∃ (s : State) (st : StackId) (b : BankId) (q : Seq) (w : Word), nextIns s st.val b.val 0x13 = some (q, w) :=
  ⟨bs (sq (BitVec.ofNat 64 (19))), 0, 0, sq (BitVec.ofNat 64 (19)), BitVec.ofNat 64 (19), by decide +kernel⟩

theorem wit_bauMvt : ∃ (s : State) (st : StackId) (b : BankId) (q : Seq) (w : Word) (n : Nat), nextIns s st.val b.val 0x14 = some (q, w) ∧ n = elemBytes w (scT w * scD w) ∧ Claims.BauInside q w n :=
  ⟨bs (sq (BitVec.ofNat 64 (20))), 0, 0, sq (BitVec.ofNat 64 (20)), BitVec.ofNat 64 (20), elemBytes (BitVec.ofNat 64 (20)) (scT (BitVec.ofNat 64 (20)) * scD (BitVec.ofNat 64 (20))), by refine ⟨?_, ?_, ?_⟩ <;> first | decide +kernel | rfl⟩

theorem wit_bauAttn : ∃ (s : State) (st : StackId) (b : BankId) (q : Seq) (w : Word) (n : Nat), nextIns s st.val b.val 0x15 = some (q, w) ∧ n = elemBytes w (aReg q.regs (iC w) * atD w) ∧ Claims.BauInside q w n ∧ outsideAt (q.reads ++ q.locks) (aReg q.regs (iB w)) n = none :=
  ⟨bs (sq (BitVec.ofNat 64 (21))), 0, 0, sq (BitVec.ofNat 64 (21)), BitVec.ofNat 64 (21), elemBytes (BitVec.ofNat 64 (21)) (aReg (sq (BitVec.ofNat 64 (21))).regs (iC (BitVec.ofNat 64 (21))) * atD (BitVec.ofNat 64 (21))), by refine ⟨?_, ?_, ?_, ?_⟩ <;> first | decide +kernel | rfl⟩

theorem wit_bauZacc : ∃ (s : State) (st : StackId) (b : BankId) (q : Seq) (w : Word), nextIns s st.val b.val 0x16 = some (q, w) :=
  ⟨bs (sq (BitVec.ofNat 64 (22))), 0, 0, sq (BitVec.ofNat 64 (22)), BitVec.ofNat 64 (22), by decide +kernel⟩

theorem wit_bauMulf : ∃ (s : State) (st : StackId) (b : BankId) (q : Seq) (w : Word), nextIns s st.val b.val 0x17 = some (q, w) :=
  ⟨bs (sq (BitVec.ofNat 64 (23))), 0, 0, sq (BitVec.ofNat 64 (23)), BitVec.ofNat 64 (23), by decide +kernel⟩

theorem wit_bauMulv : ∃ (s : State) (st : StackId) (b : BankId) (q : Seq) (w : Word), nextIns s st.val b.val 0x18 = some (q, w) ∧ Claims.BauInside q w (4 * rowsOfI w) :=
  ⟨bs (sq (BitVec.ofNat 64 (24))), 0, 0, sq (BitVec.ofNat 64 (24)), BitVec.ofNat 64 (24), by refine ⟨?_, ?_⟩ <;> first | decide +kernel | rfl⟩

theorem wit_bauNorm : ∃ (s : State) (st : StackId) (b : BankId) (q : Seq) (w : Word), nextIns s st.val b.val 0x19 = some (q, w) :=
  ⟨bs (sq (BitVec.ofNat 64 (25))), 0, 0, sq (BitVec.ofNat 64 (25)), BitVec.ofNat 64 (25), by decide +kernel⟩

theorem wit_bauSt : ∃ (s : State) (st : StackId) (b : BankId) (q : Seq) (w : Word), nextIns s st.val b.val 0x1A = some (q, w) ∧ outsideAt q.locks (aReg q.regs (iA w)) (elemBytes w (32 * rowsOfI w)) = none :=
  ⟨bs (sq (BitVec.ofNat 64 (26))), 0, 0, sq (BitVec.ofNat 64 (26)), BitVec.ofNat 64 (26), by refine ⟨?_, ?_⟩ <;> decide +kernel⟩

theorem wit_bauSts : ∃ (s : State) (st : StackId) (b : BankId) (q : Seq) (w : Word), nextIns s st.val b.val 0x1B = some (q, w) ∧ outsideAt q.locks (aReg q.regs (iA w)) 256 = none :=
  ⟨bs (sq (BitVec.ofNat 64 (27))), 0, 0, sq (BitVec.ofNat 64 (27)), BitVec.ofNat 64 (27), by refine ⟨?_, ?_⟩ <;> decide +kernel⟩

theorem wit_stackUnreadable : ∃ (s : State) (u : State) (st : StackId) (ids : List Nat), (stackOf s st.val).mode ≠ .offline ∧ ids = backsOn u st.val ∧ u = dropChunksOf (setStack (setStack s st.val { stackOf s st.val with mode := .offline, jobs := [], rowJobs := [] }) ((st.val + 6) % 12) { stackOf (setStack s st.val { stackOf s st.val with mode := .offline, jobs := [], rowJobs := [] }) ((st.val + 6) % 12) with mirrorLost := true }) st.val :=
  ⟨sv, dropChunksOf (setStack (setStack sv 0 { stackOf sv 0 with mode := .offline, jobs := [], rowJobs := [] }) 6 { stackOf (setStack sv 0 { stackOf sv 0 with mode := .offline, jobs := [], rowJobs := [] }) 6 with mirrorLost := true }) 0, 0, [], by refine ⟨?_, ?_, ?_⟩ <;> decide +kernel⟩

theorem wit_kernelLoad : ∃ (s : State) (h : Handle) (r : HandleRec) (img : List Byte), startable s h.toNat 0x48 = some r ∧ dFlag r.desc 2 = false ∧ d64 r.desc 8 % 64 = 0 ∧ 72 ≤ d32 r.desc 16 ∧ d32 r.desc 16 ≤ 65536 ∧ kernelRefusal s h.toNat r = none ∧ r.imagePoison = false ∧ r.image = some img ∧ crc32c img = d32 r.desc 24 ∧ imageFault img (d32 r.desc 16) = none :=
  ⟨setHandle (regs sv [(trestleBase, 2 ^ 20)]) 0 { hr 0x48 (ln [(8, 8, 0), (16, 4, 72), (20, 1, 16), (24, 4, crc32c kimg)]) with image := some kimg }, 0, { hr 0x48 (ln [(8, 8, 0), (16, 4, 72), (20, 1, 16), (24, 4, crc32c kimg)]) with image := some kimg }, kimg, by refine ⟨?_, ?_, ?_, ?_, ?_, ?_, ?_, ?_, ?_, ?_⟩ <;> decide +kernel⟩

theorem wit_kernelUnload : ∃ (s : State) (h : Handle) (r : HandleRec), startable s h.toNat 0x48 = some r ∧ dFlag r.desc 2 = true ∧ kernelRefusal s h.toNat r = none :=
  ⟨lv (regs (trs0 sv) [(trestleBase, 2 ^ 20)]) 0x48 [(1, 1, 4), (20, 1, 16)], 0, hr 0x48 (ln [(1, 1, 4), (20, 1, 16)]), by refine ⟨?_, ?_, ?_⟩ <;> decide +kernel⟩

theorem wit_kernelLaunch : ∃ (s : State) (h : Handle) (r : HandleRec), Claims.Admitted s h.toNat r ∧ 4 ≤ d8 r.desc 8 :=
  ⟨lv (trs0 sv) 0x49 [(8, 1, 16), (10, 1, 1), (12, 4, 1)], 0, hr 0x49 (ln [(8, 1, 16), (10, 1, 1), (12, 4, 1)]), by refine ⟨?_, ?_⟩ <;> first | decide +kernel | exact some_get (by decide +kernel) | exact ok_get (by decide +kernel) | exact okC_get (by decide +kernel) | exact inr_get _ (by decide +kernel) | (unfold Claims.BauInside; decide +kernel) | exact ⟨by decide +kernel, by decide +kernel, by decide +kernel, by decide +kernel, by decide +kernel, by decide +kernel, fun h => absurd h (by decide +kernel)⟩ | exact ⟨by decide +kernel, by decide +kernel, by decide +kernel, by decide +kernel, by decide +kernel, by decide +kernel, fun _ => ⟨by decide +kernel, ⟨1, [0x26], 1⟩, by decide +kernel, by decide +kernel⟩⟩ | exact fun r h => by cases (show (none : Option HandleRec) = some r from h)| exact ⟨by decide +kernel, by decide +kernel, by decide +kernel, by decide +kernel, rfl, by decide +kernel, by decide +kernel, by decide +kernel⟩ | exact ⟨by decide +kernel, by decide +kernel, by decide +kernel, by decide +kernel, by decide +kernel, by decide +kernel, by decide +kernel, by decide +kernel⟩ | exact fun t h => by cases (show (none : Option Nat) = some t from h) | exact doneU_get (by decide +kernel) | exact Or.inl (doneU_get (by decide +kernel)) | exact done_get (by decide +kernel) | exact next_get (by decide +kernel) | (unfold Claims.Clear; decide +kernel) | (unfold Claims.FreshAtom; decide +kernel) | (unfold CxlTakes; decide +kernel) | (unfold Claims.BiAnswered; decide +kernel) | exact ⟨by decide +kernel, _, _, some_get (by decide +kernel), by decide +kernel, some_get (by decide +kernel)⟩ | (unfold Claims.Answered; decide +kernel) | exact ⟨by decide +kernel, by decide +kernel, by decide +kernel, sn 100 _, by decide +kernel, rfl⟩ | exact someD_get _ (by decide +kernel) | rfl⟩

theorem wit_trReduce : ∃ (s : State) (h : Handle) (r : HandleRec), Claims.Admitted s h.toNat r ∧ d8 r.desc 8 = 0 :=
  ⟨lv (trs0 sv) 0x49 [(8, 1, 0), (10, 1, 1), (12, 4, 1)], 0, hr 0x49 (ln [(8, 1, 0), (10, 1, 1), (12, 4, 1)]), by refine ⟨?_, ?_⟩ <;> first | decide +kernel | exact some_get (by decide +kernel) | exact ok_get (by decide +kernel) | exact okC_get (by decide +kernel) | exact inr_get _ (by decide +kernel) | (unfold Claims.BauInside; decide +kernel) | exact ⟨by decide +kernel, by decide +kernel, by decide +kernel, by decide +kernel, by decide +kernel, by decide +kernel, fun h => absurd h (by decide +kernel)⟩ | exact ⟨by decide +kernel, by decide +kernel, by decide +kernel, by decide +kernel, by decide +kernel, by decide +kernel, fun _ => ⟨by decide +kernel, ⟨1, [0x26], 1⟩, by decide +kernel, by decide +kernel⟩⟩ | exact fun r h => by cases (show (none : Option HandleRec) = some r from h)| exact ⟨by decide +kernel, by decide +kernel, by decide +kernel, by decide +kernel, rfl, by decide +kernel, by decide +kernel, by decide +kernel⟩ | exact ⟨by decide +kernel, by decide +kernel, by decide +kernel, by decide +kernel, by decide +kernel, by decide +kernel, by decide +kernel, by decide +kernel⟩ | exact fun t h => by cases (show (none : Option Nat) = some t from h) | exact doneU_get (by decide +kernel) | exact Or.inl (doneU_get (by decide +kernel)) | exact done_get (by decide +kernel) | exact next_get (by decide +kernel) | (unfold Claims.Clear; decide +kernel) | (unfold Claims.FreshAtom; decide +kernel) | (unfold CxlTakes; decide +kernel) | (unfold Claims.BiAnswered; decide +kernel) | exact ⟨by decide +kernel, _, _, some_get (by decide +kernel), by decide +kernel, some_get (by decide +kernel)⟩ | (unfold Claims.Answered; decide +kernel) | exact ⟨by decide +kernel, by decide +kernel, by decide +kernel, sn 100 _, by decide +kernel, rfl⟩ | exact someD_get _ (by decide +kernel) | rfl⟩

theorem wit_trGather : ∃ (s : State) (h : Handle) (r : HandleRec), Claims.Admitted s h.toNat r ∧ d8 r.desc 8 = 1 :=
  ⟨lv (trs0 sv) 0x49 [(8, 1, 1), (10, 1, 1), (12, 4, 1)], 0, hr 0x49 (ln [(8, 1, 1), (10, 1, 1), (12, 4, 1)]), by refine ⟨?_, ?_⟩ <;> first | decide +kernel | exact some_get (by decide +kernel) | exact ok_get (by decide +kernel) | exact okC_get (by decide +kernel) | exact inr_get _ (by decide +kernel) | (unfold Claims.BauInside; decide +kernel) | exact ⟨by decide +kernel, by decide +kernel, by decide +kernel, by decide +kernel, by decide +kernel, by decide +kernel, fun h => absurd h (by decide +kernel)⟩ | exact ⟨by decide +kernel, by decide +kernel, by decide +kernel, by decide +kernel, by decide +kernel, by decide +kernel, fun _ => ⟨by decide +kernel, ⟨1, [0x26], 1⟩, by decide +kernel, by decide +kernel⟩⟩ | exact fun r h => by cases (show (none : Option HandleRec) = some r from h)| exact ⟨by decide +kernel, by decide +kernel, by decide +kernel, by decide +kernel, rfl, by decide +kernel, by decide +kernel, by decide +kernel⟩ | exact ⟨by decide +kernel, by decide +kernel, by decide +kernel, by decide +kernel, by decide +kernel, by decide +kernel, by decide +kernel, by decide +kernel⟩ | exact fun t h => by cases (show (none : Option Nat) = some t from h) | exact doneU_get (by decide +kernel) | exact Or.inl (doneU_get (by decide +kernel)) | exact done_get (by decide +kernel) | exact next_get (by decide +kernel) | (unfold Claims.Clear; decide +kernel) | (unfold Claims.FreshAtom; decide +kernel) | (unfold CxlTakes; decide +kernel) | (unfold Claims.BiAnswered; decide +kernel) | exact ⟨by decide +kernel, _, _, some_get (by decide +kernel), by decide +kernel, some_get (by decide +kernel)⟩ | (unfold Claims.Answered; decide +kernel) | exact ⟨by decide +kernel, by decide +kernel, by decide +kernel, sn 100 _, by decide +kernel, rfl⟩ | exact someD_get _ (by decide +kernel) | rfl⟩

theorem wit_trScatter : ∃ (s : State) (h : Handle) (r : HandleRec), Claims.Admitted s h.toNat r ∧ d8 r.desc 8 = 2 :=
  ⟨lv (trs0 sv) 0x49 [(8, 1, 2), (10, 1, 1), (12, 4, 1)], 0, hr 0x49 (ln [(8, 1, 2), (10, 1, 1), (12, 4, 1)]), by refine ⟨?_, ?_⟩ <;> first | decide +kernel | exact some_get (by decide +kernel) | exact ok_get (by decide +kernel) | exact okC_get (by decide +kernel) | exact inr_get _ (by decide +kernel) | (unfold Claims.BauInside; decide +kernel) | exact ⟨by decide +kernel, by decide +kernel, by decide +kernel, by decide +kernel, by decide +kernel, by decide +kernel, fun h => absurd h (by decide +kernel)⟩ | exact ⟨by decide +kernel, by decide +kernel, by decide +kernel, by decide +kernel, by decide +kernel, by decide +kernel, fun _ => ⟨by decide +kernel, ⟨1, [0x26], 1⟩, by decide +kernel, by decide +kernel⟩⟩ | exact fun r h => by cases (show (none : Option HandleRec) = some r from h)| exact ⟨by decide +kernel, by decide +kernel, by decide +kernel, by decide +kernel, rfl, by decide +kernel, by decide +kernel, by decide +kernel⟩ | exact ⟨by decide +kernel, by decide +kernel, by decide +kernel, by decide +kernel, by decide +kernel, by decide +kernel, by decide +kernel, by decide +kernel⟩ | exact fun t h => by cases (show (none : Option Nat) = some t from h) | exact doneU_get (by decide +kernel) | exact Or.inl (doneU_get (by decide +kernel)) | exact done_get (by decide +kernel) | exact next_get (by decide +kernel) | (unfold Claims.Clear; decide +kernel) | (unfold Claims.FreshAtom; decide +kernel) | (unfold CxlTakes; decide +kernel) | (unfold Claims.BiAnswered; decide +kernel) | exact ⟨by decide +kernel, _, _, some_get (by decide +kernel), by decide +kernel, some_get (by decide +kernel)⟩ | (unfold Claims.Answered; decide +kernel) | exact ⟨by decide +kernel, by decide +kernel, by decide +kernel, sn 100 _, by decide +kernel, rfl⟩ | exact someD_get _ (by decide +kernel) | rfl⟩

theorem wit_trFilter : ∃ (s : State) (h : Handle) (r : HandleRec), Claims.Admitted s h.toNat r ∧ d8 r.desc 8 = 3 :=
  ⟨lv (trs0 sv) 0x49 [(8, 1, 3), (10, 1, 1), (12, 4, 1)], 0, hr 0x49 (ln [(8, 1, 3), (10, 1, 1), (12, 4, 1)]), by refine ⟨?_, ?_⟩ <;> first | decide +kernel | exact some_get (by decide +kernel) | exact ok_get (by decide +kernel) | exact okC_get (by decide +kernel) | exact inr_get _ (by decide +kernel) | (unfold Claims.BauInside; decide +kernel) | exact ⟨by decide +kernel, by decide +kernel, by decide +kernel, by decide +kernel, by decide +kernel, by decide +kernel, fun h => absurd h (by decide +kernel)⟩ | exact ⟨by decide +kernel, by decide +kernel, by decide +kernel, by decide +kernel, by decide +kernel, by decide +kernel, fun _ => ⟨by decide +kernel, ⟨1, [0x26], 1⟩, by decide +kernel, by decide +kernel⟩⟩ | exact fun r h => by cases (show (none : Option HandleRec) = some r from h)| exact ⟨by decide +kernel, by decide +kernel, by decide +kernel, by decide +kernel, rfl, by decide +kernel, by decide +kernel, by decide +kernel⟩ | exact ⟨by decide +kernel, by decide +kernel, by decide +kernel, by decide +kernel, by decide +kernel, by decide +kernel, by decide +kernel, by decide +kernel⟩ | exact fun t h => by cases (show (none : Option Nat) = some t from h) | exact doneU_get (by decide +kernel) | exact Or.inl (doneU_get (by decide +kernel)) | exact done_get (by decide +kernel) | exact next_get (by decide +kernel) | (unfold Claims.Clear; decide +kernel) | (unfold Claims.FreshAtom; decide +kernel) | (unfold CxlTakes; decide +kernel) | (unfold Claims.BiAnswered; decide +kernel) | exact ⟨by decide +kernel, _, _, some_get (by decide +kernel), by decide +kernel, some_get (by decide +kernel)⟩ | (unfold Claims.Answered; decide +kernel) | exact ⟨by decide +kernel, by decide +kernel, by decide +kernel, sn 100 _, by decide +kernel, rfl⟩ | exact someD_get _ (by decide +kernel) | rfl⟩

theorem wit_gangDispatch : ∃ (s : State) (u : TUnit) (h : Nat) (g : Nat) (l : TLaunch) (v : State), warming s = false ∧ unitActive s u.val = true ∧ gangsOn s u.val < 512 ∧ nextServed s u.val = some (h, l) ∧ (List.range 512).find? (fun g => (gangOf s u.val g).isNone) = some g ∧ 4 ≤ l.slot ∧ v = setUnit s u.val { unitOf s u.val with rot := h } ∧ strayGang v u.val h = none :=
  ⟨{ trs0 sv with trs := { (trs0 sv).trs with launches := [(9, { slot := 16, key := 1, gangs := 1, units := [0], args := [5] })] } }, 0, 9, 0, { slot := 16, key := 1, gangs := 1, units := [0], args := [5] }, setUnit ({ trs0 sv with trs := { (trs0 sv).trs with launches := [(9, { slot := 16, key := 1, gangs := 1, units := [0], args := [5] })] } }) 0 { unitOf ({ trs0 sv with trs := { (trs0 sv).trs with launches := [(9, { slot := 16, key := 1, gangs := 1, units := [0], args := [5] })] } }) 0 with rot := 9 }, by refine ⟨?_, ?_, ?_, ?_, ?_, ?_, ?_, ?_⟩ <;> decide +kernel⟩

theorem wit_gangResultArrive : ∃ (s : State) (v : State) (u : TUnit) (g : GangId) (r : GangData) (x : Gang) (y : Gang), gangOf s u.val g.val = some x ∧ arrive s u.val x r = (v, y, none) ∧ y.std = none :=
  ⟨tgs 0x26 gg, (arrive (tgs 0x26 gg) 0 gg (.lines [])).1, 0, 0, .lines [], gg, (arrive (tgs 0x26 gg) 0 gg (.lines [])).2.1, by refine ⟨?_, ?_, ?_⟩ <;> decide +kernel⟩

theorem wit_chunkTimeLimit : ∃ (s : State) (v : State) (u : TUnit) (g : GangId) (x : Gang) (y : Gang), gangOf s u.val g.val = some x ∧ x.ended = false ∧ x.std = none ∧ unitActive s u.val = true ∧ x.since + 1000 * fld s trestleBase 16 4 ≤ s.now ∧ boundary s u.val g.val x = some (v, y) :=
  ⟨{ tgs 0x26 gg with now := 1000 * fld (tgs 0x26 gg) trestleBase 16 4 }, ((boundary ({ tgs 0x26 gg with now := 1000 * fld (tgs 0x26 gg) trestleBase 16 4 }) 0 0 gg).getD ({}, gg)).1, 0, 0, gg, ((boundary ({ tgs 0x26 gg with now := 1000 * fld (tgs 0x26 gg) trestleBase 16 4 }) 0 0 gg).getD ({}, gg)).2, by refine ⟨?_, ?_, ?_, ?_, ?_, ?_⟩ <;> decide +kernel⟩

theorem wit_trestleFault : ∃ (s : State) (u : TUnit) (p : Nat), physOf s u.val = some p ∧ (unitOf s u.val).gangs.any (fun e => e.2.rerun && !e.2.ended) = false ∧ (unitOf s u.val).gangs.filter (fun e => !e.2.ended) ≠ [] :=
  ⟨tgs 0x26 gg, 0, 0, by refine ⟨?_, ?_, ?_⟩ <;> decide +kernel⟩

theorem wit_launchCommit : ∃ (s : State) (h : Handle) (l : TLaunch), launchOf s h.toNat = some l ∧ s.trs.units.any (fun e => e.2.gangs.any (fun y => y.2.launch == h.toNat)) = false ∧ l.gangs ≤ l.next ∧ l.stop = none ∧ (∀ r, handleOf s h.toNat = some r → r.abortWon = false) :=
  ⟨{ trs0 sv with trs := { (trs0 sv).trs with launches := [(9, { slot := 16, key := 1, gangs := 1, next := 1, units := [0], args := [5] })] } }, 9, { slot := 16, key := 1, gangs := 1, next := 1, units := [0], args := [5] }, by refine ⟨?_, ?_, ?_, ?_, ?_⟩ <;> decide +kernel⟩

theorem wit_trestleLi : ∃ (s : State) (u : TUnit) (g : GangId) (x : Gang) (w : Word), nextInsn s u.val g.val 0x01 = some (x, w) :=
  ⟨tgs 1 gg, 0, 0, gg, 1, by decide +kernel⟩

theorem wit_trestleLih : ∃ (s : State) (u : TUnit) (g : GangId) (x : Gang) (w : Word), nextInsn s u.val g.val 0x02 = some (x, w) :=
  ⟨tgs 2 gg, 0, 0, gg, 2, by decide +kernel⟩

theorem wit_trestleAdd : ∃ (s : State) (u : TUnit) (g : GangId) (x : Gang) (w : Word), nextInsn s u.val g.val 0x03 = some (x, w) :=
  ⟨tgs 3 gg, 0, 0, gg, 3, by decide +kernel⟩

theorem wit_trestleSub : ∃ (s : State) (u : TUnit) (g : GangId) (x : Gang) (w : Word), nextInsn s u.val g.val 0x04 = some (x, w) :=
  ⟨tgs 4 gg, 0, 0, gg, 4, by decide +kernel⟩

theorem wit_trestleMul : ∃ (s : State) (u : TUnit) (g : GangId) (x : Gang) (w : Word), nextInsn s u.val g.val 0x05 = some (x, w) :=
  ⟨tgs 5 gg, 0, 0, gg, 5, by decide +kernel⟩

theorem wit_trestleAnd : ∃ (s : State) (u : TUnit) (g : GangId) (x : Gang) (w : Word), nextInsn s u.val g.val 0x07 = some (x, w) :=
  ⟨tgs 7 gg, 0, 0, gg, 7, by decide +kernel⟩

theorem wit_trestleOr : ∃ (s : State) (u : TUnit) (g : GangId) (x : Gang) (w : Word), nextInsn s u.val g.val 0x08 = some (x, w) :=
  ⟨tgs 8 gg, 0, 0, gg, 8, by decide +kernel⟩

theorem wit_trestleXor : ∃ (s : State) (u : TUnit) (g : GangId) (x : Gang) (w : Word), nextInsn s u.val g.val 0x09 = some (x, w) :=
  ⟨tgs 9 gg, 0, 0, gg, 9, by decide +kernel⟩

theorem wit_trestleShl : ∃ (s : State) (u : TUnit) (g : GangId) (x : Gang) (w : Word), nextInsn s u.val g.val 0x0A = some (x, w) :=
  ⟨tgs 10 gg, 0, 0, gg, 10, by decide +kernel⟩

theorem wit_trestleShr : ∃ (s : State) (u : TUnit) (g : GangId) (x : Gang) (w : Word), nextInsn s u.val g.val 0x0B = some (x, w) :=
  ⟨tgs 11 gg, 0, 0, gg, 11, by decide +kernel⟩

theorem wit_trestleMinmax : ∃ (s : State) (u : TUnit) (g : GangId) (x : Gang) (w : Word), nextInsn s u.val g.val 0x0C = some (x, w) :=
  ⟨tgs 12 gg, 0, 0, gg, 12, by decide +kernel⟩

theorem wit_trestleSel : ∃ (s : State) (u : TUnit) (g : GangId) (x : Gang) (w : Word), nextInsn s u.val g.val 0x0E = some (x, w) :=
  ⟨tgs 14 gg, 0, 0, gg, 14, by decide +kernel⟩

theorem wit_trestlePopc : ∃ (s : State) (u : TUnit) (g : GangId) (x : Gang) (w : Word), nextInsn s u.val g.val 0x0F = some (x, w) :=
  ⟨tgs 15 gg, 0, 0, gg, 15, by decide +kernel⟩

theorem wit_trestleSpecial : ∃ (s : State) (u : TUnit) (g : GangId) (x : Gang) (w : Word), nextInsn s u.val g.val 0x10 = some (x, w) :=
  ⟨tgs 16 gg, 0, 0, gg, 16, by decide +kernel⟩

theorem wit_trestleFadd : ∃ (s : State) (u : TUnit) (g : GangId) (x : Gang) (w : Word), nextInsn s u.val g.val 0x11 = some (x, w) :=
  ⟨tgs 17 gg, 0, 0, gg, 17, by decide +kernel⟩

theorem wit_trestleFmul : ∃ (s : State) (u : TUnit) (g : GangId) (x : Gang) (w : Word), nextInsn s u.val g.val 0x12 = some (x, w) :=
  ⟨tgs 18 gg, 0, 0, gg, 18, by decide +kernel⟩

theorem wit_trestleFfma : ∃ (s : State) (u : TUnit) (g : GangId) (x : Gang) (w : Word), nextInsn s u.val g.val 0x13 = some (x, w) :=
  ⟨tgs 19 gg, 0, 0, gg, 19, by decide +kernel⟩

theorem wit_trestleFminmax : ∃ (s : State) (u : TUnit) (g : GangId) (x : Gang) (w : Word), nextInsn s u.val g.val 0x14 = some (x, w) :=
  ⟨tgs 20 gg, 0, 0, gg, 20, by decide +kernel⟩

theorem wit_trestleCvt : ∃ (s : State) (u : TUnit) (g : GangId) (x : Gang) (w : Word), nextInsn s u.val g.val 0x16 = some (x, w) :=
  ⟨tgs 22 gg, 0, 0, gg, 22, by decide +kernel⟩

theorem wit_trestleDivu : ∃ (s : State) (u : TUnit) (g : GangId) (x : Gang) (w : Word), nextInsn s u.val g.val 0x06 = some (x, w) :=
  ⟨tgs 6 gg, 0, 0, gg, 6, by decide +kernel⟩

theorem wit_trestleCmp : ∃ (s : State) (u : TUnit) (g : GangId) (x : Gang) (w : Word), nextInsn s u.val g.val 0x0D = some (x, w) :=
  ⟨tgs 13 gg, 0, 0, gg, 13, by decide +kernel⟩

theorem wit_trestleFcmp : ∃ (s : State) (u : TUnit) (g : GangId) (x : Gang) (w : Word), nextInsn s u.val g.val 0x15 = some (x, w) :=
  ⟨tgs 21 gg, 0, 0, gg, 21, by decide +kernel⟩

theorem wit_trestleVadd : ∃ (s : State) (u : TUnit) (g : GangId) (x : Gang) (w : Word), nextInsn s u.val g.val 0x40 = some (x, w) :=
  ⟨tgs 64 gg, 0, 0, gg, 64, by decide +kernel⟩

theorem wit_trestleVmul : ∃ (s : State) (u : TUnit) (g : GangId) (x : Gang) (w : Word), nextInsn s u.val g.val 0x41 = some (x, w) :=
  ⟨tgs 65 gg, 0, 0, gg, 65, by decide +kernel⟩

theorem wit_trestleVfma : ∃ (s : State) (u : TUnit) (g : GangId) (x : Gang) (w : Word), nextInsn s u.val g.val 0x42 = some (x, w) :=
  ⟨tgs 66 gg, 0, 0, gg, 66, by decide +kernel⟩

theorem wit_trestleVminmax : ∃ (s : State) (u : TUnit) (g : GangId) (x : Gang) (w : Word), nextInsn s u.val g.val 0x43 = some (x, w) :=
  ⟨tgs 67 gg, 0, 0, gg, 67, by decide +kernel⟩

theorem wit_trestleVdot : ∃ (s : State) (u : TUnit) (g : GangId) (x : Gang) (w : Word), nextInsn s u.val g.val 0x44 = some (x, w) :=
  ⟨tgs 68 gg, 0, 0, gg, 68, by decide +kernel⟩

theorem wit_trestleVcvt : ∃ (s : State) (u : TUnit) (g : GangId) (x : Gang) (w : Word), nextInsn s u.val g.val 0x45 = some (x, w) :=
  ⟨tgs 69 gg, 0, 0, gg, 69, by decide +kernel⟩

theorem wit_trestleVred : ∃ (s : State) (u : TUnit) (g : GangId) (x : Gang) (w : Word), nextInsn s u.val g.val 0x46 = some (x, w) :=
  ⟨tgs 70 gg, 0, 0, gg, 70, by decide +kernel⟩

theorem wit_trestleVcmp : ∃ (s : State) (u : TUnit) (g : GangId) (x : Gang) (w : Word), nextInsn s u.val g.val 0x47 = some (x, w) :=
  ⟨tgs 71 gg, 0, 0, gg, 71, by decide +kernel⟩

theorem wit_trestleVpack : ∃ (s : State) (u : TUnit) (g : GangId) (x : Gang) (w : Word), nextInsn s u.val g.val 0x4A = some (x, w) :=
  ⟨tgs 74 gg, 0, 0, gg, 74, by decide +kernel⟩

theorem wit_trestleVunpack : ∃ (s : State) (u : TUnit) (g : GangId) (x : Gang) (w : Word), nextInsn s u.val g.val 0x4B = some (x, w) :=
  ⟨tgs 75 gg, 0, 0, gg, 75, by decide +kernel⟩

theorem wit_trestleVcmprs : ∃ (s : State) (u : TUnit) (g : GangId) (x : Gang) (w : Word) (t : Nat) (ts : List Nat), nextInsn s u.val g.val 0x48 = some (x, w) ∧ lanesOf x.r.active = t :: ts :=
  ⟨tgs 72 gg, 0, 0, gg, 72, 0, [1], by refine ⟨?_, ?_⟩ <;> decide +kernel⟩

theorem wit_trestleVbcast : ∃ (s : State) (u : TUnit) (g : GangId) (x : Gang) (w : Word) (t : Nat) (ts : List Nat), nextInsn s u.val g.val 0x49 = some (x, w) ∧ lanesOf x.r.active = t :: ts :=
  ⟨tgs 73 gg, 0, 0, gg, 73, 0, [1], by refine ⟨?_, ?_⟩ <;> decide +kernel⟩

theorem wit_trestleBr_1 : ∃ (s : State) (u : TUnit) (g : GangId) (x : Gang) (w : Word), nextInsn s u.val g.val 0x20 = some (x, w) ∧ kMod w % 4 = 0 :=
  ⟨tgs (BitVec.ofNat 64 (0x20 + 0 * 2 ^ 24)) gg, 0, 0, gg, BitVec.ofNat 64 (0x20 + 0 * 2 ^ 24), by refine ⟨?_, ?_⟩ <;> decide +kernel⟩

theorem wit_trestleBr_2 : ∃ (s : State) (u : TUnit) (g : GangId) (x : Gang) (w : Word), nextInsn s u.val g.val 0x20 = some (x, w) ∧ kMod w % 4 ≠ 0 ∧ pPoisoned x.r = true :=
  ⟨tgs (BitVec.ofNat 64 (0x20 + 1 * 2 ^ 24)) { gg with r := { active := 3, pp := 1 } }, 0, 0, { gg with r := { active := 3, pp := 1 } }, BitVec.ofNat 64 (0x20 + 1 * 2 ^ 24), by refine ⟨?_, ?_, ?_⟩ <;> decide +kernel⟩

theorem wit_trestleBr_3 : ∃ (s : State) (u : TUnit) (g : GangId) (x : Gang) (w : Word), nextInsn s u.val g.val 0x20 = some (x, w) ∧ kMod w % 4 = 1 ∧ pPoisoned x.r = false :=
  ⟨tgs (BitVec.ofNat 64 (0x20 + 1 * 2 ^ 24)) gg, 0, 0, gg, BitVec.ofNat 64 (0x20 + 1 * 2 ^ 24), by refine ⟨?_, ?_, ?_⟩ <;> decide +kernel⟩

theorem wit_trestleBr_4 : ∃ (s : State) (u : TUnit) (g : GangId) (x : Gang) (w : Word), nextInsn s u.val g.val 0x20 = some (x, w) ∧ kMod w % 4 = 2 ∧ pPoisoned x.r = false :=
  ⟨tgs (BitVec.ofNat 64 (0x20 + 2 * 2 ^ 24)) gg, 0, 0, gg, BitVec.ofNat 64 (0x20 + 2 * 2 ^ 24), by refine ⟨?_, ?_, ?_⟩ <;> decide +kernel⟩

theorem wit_trestleBr_5 : ∃ (s : State) (u : TUnit) (g : GangId) (x : Gang) (w : Word), nextInsn s u.val g.val 0x20 = some (x, w) ∧ kMod w % 4 = 3 ∧ pPoisoned x.r = false :=
  ⟨tgs (BitVec.ofNat 64 (0x20 + 3 * 2 ^ 24)) gg, 0, 0, gg, BitVec.ofNat 64 (0x20 + 3 * 2 ^ 24), by refine ⟨?_, ?_, ?_⟩ <;> decide +kernel⟩

theorem wit_trestleIf_1 : ∃ (s : State) (u : TUnit) (g : GangId) (x : Gang) (w : Word), nextInsn s u.val g.val 0x21 = some (x, w) ∧ pPoisoned x.r = false ∧ x.r.stack.length < 8 :=
  ⟨tgs 0x21 { gg with r := { active := 3, stack := [1, 2, 3, 4, 5, 6, 7] } }, 0, 0, { gg with r := { active := 3, stack := [1, 2, 3, 4, 5, 6, 7] } }, 0x21, by refine ⟨?_, ?_, ?_⟩ <;> decide +kernel⟩

theorem wit_trestleIf_2 : ∃ (s : State) (u : TUnit) (g : GangId) (x : Gang) (w : Word), nextInsn s u.val g.val 0x21 = some (x, w) ∧ pPoisoned x.r = true :=
  ⟨tgs 0x21 { gg with r := { active := 3, pp := 1 } }, 0, 0, { gg with r := { active := 3, pp := 1 } }, 0x21, by refine ⟨?_, ?_⟩ <;> decide +kernel⟩

theorem wit_trestleElse_1 : ∃ (s : State) (u : TUnit) (g : GangId) (x : Gang) (w : Word) (m : BitVec 32) (ms : List (BitVec 32)), nextInsn s u.val g.val 0x22 = some (x, w) ∧ x.r.stack = m :: ms ∧ pPoisoned x.r = false :=
  ⟨tgs 0x22 { gg with r := { active := 1, stack := [3] } }, 0, 0, { gg with r := { active := 1, stack := [3] } }, 0x22, 3, [], by refine ⟨?_, ?_, ?_⟩ <;> decide +kernel⟩

theorem wit_trestleElse_2 : ∃ (s : State) (u : TUnit) (g : GangId) (x : Gang) (w : Word) (m : BitVec 32) (ms : List (BitVec 32)), nextInsn s u.val g.val 0x22 = some (x, w) ∧ x.r.stack = m :: ms ∧ pPoisoned x.r = true :=
  ⟨tgs 0x22 { gg with r := { active := 1, stack := [3], pp := 1 } }, 0, 0, { gg with r := { active := 1, stack := [3], pp := 1 } }, 0x22, 3, [], by refine ⟨?_, ?_, ?_⟩ <;> decide +kernel⟩

theorem wit_trestleEndif : ∃ (s : State) (u : TUnit) (g : GangId) (x : Gang) (w : Word) (m : BitVec 32) (ms : List (BitVec 32)), nextInsn s u.val g.val 0x23 = some (x, w) ∧ x.r.stack = m :: ms :=
  ⟨tgs 0x23 { gg with r := { active := 1, stack := [3] } }, 0, 0, { gg with r := { active := 1, stack := [3] } }, 0x23, 3, [], by refine ⟨?_, ?_⟩ <;> decide +kernel⟩

theorem wit_trestleChunk : ∃ (s : State) (v : State) (u : TUnit) (g : GangId) (x : Gang) (y : Gang) (w : Word), nextInsn s u.val g.val 0x24 = some (x, w) ∧ boundary (bump s (trestleCnt 2)) u.val g.val { x with r := { x.r with pc := x.r.pc + 1 } } = some (v, y) :=
  ⟨tgs 36 gg, ((boundary (bump (tgs 36 gg) (trestleCnt 2)) 0 0 { gg with r := { gg.r with pc := 1 } }).getD ({}, gg)).1, 0, 0, gg, ((boundary (bump (tgs 36 gg) (trestleCnt 2)) 0 0 { gg with r := { gg.r with pc := 1 } }).getD ({}, gg)).2, 36, by refine ⟨?_, ?_⟩ <;> decide +kernel⟩

theorem wit_trestleFence : ∃ (s : State) (v : State) (u : TUnit) (g : GangId) (x : Gang) (y : Gang) (w : Word), nextInsn s u.val g.val 0x25 = some (x, w) ∧ boundary (bump s (trestleCnt 2)) u.val g.val { x with r := { x.r with pc := x.r.pc + 1 } } = some (v, y) :=
  ⟨tgs 37 gg, ((boundary (bump (tgs 37 gg) (trestleCnt 2)) 0 0 { gg with r := { gg.r with pc := 1 } }).getD ({}, gg)).1, 0, 0, gg, ((boundary (bump (tgs 37 gg) (trestleCnt 2)) 0 0 { gg with r := { gg.r with pc := 1 } }).getD ({}, gg)).2, 37, by refine ⟨?_, ?_⟩ <;> decide +kernel⟩

theorem wit_trestleEnd : ∃ (s : State) (v : State) (u : TUnit) (g : GangId) (x : Gang) (y : Gang) (w : Word), nextInsn s u.val g.val 0x26 = some (x, w) ∧ boundary (bump s (trestleCnt 2)) u.val g.val { x with r := { x.r with pc := x.r.pc + 1 } } = some (v, y) :=
  ⟨tgs 38 gg, ((boundary (bump (tgs 38 gg) (trestleCnt 2)) 0 0 { gg with r := { gg.r with pc := 1 } }).getD ({}, gg)).1, 0, 0, gg, ((boundary (bump (tgs 38 gg) (trestleCnt 2)) 0 0 { gg with r := { gg.r with pc := 1 } }).getD ({}, gg)).2, 38, by refine ⟨?_, ?_⟩ <;> decide +kernel⟩

theorem wit_trestleLd_1 : ∃ (s : State) (v : State) (u : TUnit) (g : GangId) (x : Gang) (y : Gang) (w : Word) (st : Status), nextInsn s u.val g.val 0x30 = some (x, w) ∧ accessFault s x (kFmt w == 0) (Claims.Addrs x w) (2 ^ (kMod w % 4)) = none ∧ kFmt w ≠ 0 :=
  ⟨tgs (BitVec.ofNat 64 (0x30 + 2 ^ 20)) gg, {}, 0, 0, gg, gg, BitVec.ofNat 64 (0x30 + 2 ^ 20), .ok, by refine ⟨?_, ?_, ?_⟩ <;> decide +kernel⟩

theorem wit_trestleLd_2 : ∃ (s : State) (v : State) (u : TUnit) (g : GangId) (x : Gang) (y : Gang) (w : Word) (st : Status), nextInsn s u.val g.val 0x30 = some (x, w) ∧ accessFault s x true (Claims.Addrs x w) (2 ^ (kMod w % 4)) = none ∧ kFmt w = 0 ∧ issueRead s u.val g.val x (Claims.Load x w) ((Claims.Addrs x w).map (·.1.toNat)) (!(kImm w).testBit 33) = some (v, y) :=
  ⟨tgs 0x30 { gg with r := { active := 1, s := [(0, (0x5000000000040, false))] } }, ((issueRead (tgs 0x30 ({ gg with r := { active := 1, s := [(0, (0x5000000000040, false))] } })) 0 0 { gg with r := { active := 1, s := [(0, (0x5000000000040, false))] } } (Claims.Load { gg with r := { active := 1, s := [(0, (0x5000000000040, false))] } } 0x30) [0x5000000000040] true).getD ({}, gg)).1, 0, 0, { gg with r := { active := 1, s := [(0, (0x5000000000040, false))] } }, ((issueRead (tgs 0x30 ({ gg with r := { active := 1, s := [(0, (0x5000000000040, false))] } })) 0 0 { gg with r := { active := 1, s := [(0, (0x5000000000040, false))] } } (Claims.Load { gg with r := { active := 1, s := [(0, (0x5000000000040, false))] } } 0x30) [0x5000000000040] true).getD ({}, gg)).2, 0x30, .ok, by refine ⟨?_, ?_, ?_, ?_⟩ <;> decide +kernel⟩

theorem wit_trestleLd_3 : ∃ (s : State) (v : State) (u : TUnit) (g : GangId) (x : Gang) (y : Gang) (w : Word) (st : Status), nextInsn s u.val g.val 0x30 = some (x, w) ∧ accessFault s x (kFmt w == 0) (Claims.Addrs x w) (2 ^ (kMod w % 4)) = some st :=
  ⟨tgs (BitVec.ofNat 64 (0x30 + 3 * 2 ^ 24)) { gg with r := { active := 1, s := [(0, (0xF000000000000001, false))] } }, {}, 0, 0, { gg with r := { active := 1, s := [(0, (0xF000000000000001, false))] } }, gg, BitVec.ofNat 64 (0x30 + 3 * 2 ^ 24), .badDescriptor, by refine ⟨?_, ?_⟩ <;> decide +kernel⟩

theorem wit_trestleVld_1 : ∃ (s : State) (v : State) (u : TUnit) (g : GangId) (x : Gang) (y : Gang) (w : Word) (t : Nat) (ts : List Nat) (o : TOp), nextInsn s u.val g.val 0x33 = some (x, w) ∧ lanesOf x.r.active = t :: ts ∧ accessFault s x (kFmt w == 0) [memAddr x.r t (kA w) (kImm w)] 64 = none ∧ o = { id := x.nextOp, kind := .vld, d := kD w, items := [readItem x (!(kFmt w == 0)) t (memAddr x.r t (kA w) (kImm w)).1.toNat], live := 1, chunk := x.chunk, idx := x.r.pc } ∧ kFmt w ≠ 0 :=
  ⟨tgs (BitVec.ofNat 64 (0x33 + 2 ^ 20)) { gg with r := { active := 1 } }, {}, 0, 0, { gg with r := { active := 1 } }, gg, BitVec.ofNat 64 (0x33 + 2 ^ 20), 0, [], { id := 0, kind := .vld, d := 0, items := [readItem { gg with r := { active := 1 } } (!(kFmt (BitVec.ofNat 64 (0x33 + 2 ^ 20)) == 0)) 0 (memAddr ({ gg with r := { active := 1 } } : Gang).r 0 0 0).1.toNat], live := 1, chunk := 0, idx := 0 }, by refine ⟨?_, ?_, ?_, ?_, ?_⟩ <;> decide +kernel⟩

theorem wit_trestleVld_2 : ∃ (s : State) (v : State) (u : TUnit) (g : GangId) (x : Gang) (y : Gang) (w : Word) (t : Nat) (ts : List Nat) (o : TOp), nextInsn s u.val g.val 0x33 = some (x, w) ∧ lanesOf x.r.active = t :: ts ∧ accessFault s x (kFmt w == 0) [memAddr x.r t (kA w) (kImm w)] 64 = none ∧ o = { id := x.nextOp, kind := .vld, d := kD w, items := [readItem x (!(kFmt w == 0)) t (memAddr x.r t (kA w) (kImm w)).1.toNat], live := 1, chunk := x.chunk, idx := x.r.pc } ∧ kFmt w = 0 ∧ issueRead s u.val g.val x o [(memAddr x.r t (kA w) (kImm w)).1.toNat] true = some (v, y) :=
  ⟨tgs 0x33 { gg with r := { active := 1, s := [(0, (0x5000000000040, false))] } }, ((issueRead (tgs 0x33 ({ gg with r := { active := 1, s := [(0, (0x5000000000040, false))] } })) 0 0 { gg with r := { active := 1, s := [(0, (0x5000000000040, false))] } } { id := 0, kind := .vld, d := 0, items := [readItem { gg with r := { active := 1, s := [(0, (0x5000000000040, false))] } } (!(kFmt (0x33) == 0)) 0 (memAddr ({ gg with r := { active := 1, s := [(0, (0x5000000000040, false))] } } : Gang).r 0 0 0).1.toNat], live := 1, chunk := 0, idx := 0 } [0x5000000000040] true).getD ({}, gg)).1, 0, 0, { gg with r := { active := 1, s := [(0, (0x5000000000040, false))] } }, ((issueRead (tgs 0x33 ({ gg with r := { active := 1, s := [(0, (0x5000000000040, false))] } })) 0 0 { gg with r := { active := 1, s := [(0, (0x5000000000040, false))] } } { id := 0, kind := .vld, d := 0, items := [readItem { gg with r := { active := 1, s := [(0, (0x5000000000040, false))] } } (!(kFmt (0x33) == 0)) 0 (memAddr ({ gg with r := { active := 1, s := [(0, (0x5000000000040, false))] } } : Gang).r 0 0 0).1.toNat], live := 1, chunk := 0, idx := 0 } [0x5000000000040] true).getD ({}, gg)).2, 0x33, 0, [], { id := 0, kind := .vld, d := 0, items := [readItem { gg with r := { active := 1, s := [(0, (0x5000000000040, false))] } } (!(kFmt (0x33) == 0)) 0 (memAddr ({ gg with r := { active := 1, s := [(0, (0x5000000000040, false))] } } : Gang).r 0 0 0).1.toNat], live := 1, chunk := 0, idx := 0 }, by refine ⟨?_, ?_, ?_, ?_, ?_, ?_⟩ <;> decide +kernel⟩

theorem wit_trestleSt_1 : ∃ (s : State) (u : TUnit) (g : GangId) (x : Gang) (w : Word), nextInsn s u.val g.val 0x31 = some (x, w) ∧ (kImm w).testBit 32 = false ∧ accessFault s x (kFmt w == 0) (Claims.Addrs x w) (2 ^ (kMod w % 4)) = none ∧ ((Claims.Stores x w).foldl (fun b e => bufferStore b e.2) x.buf).length ≤ 16 :=
  ⟨tgs 0x31 { gg with r := { active := 1, s := [(0, (0x5000000000040, false))] } }, 0, 0, { gg with r := { active := 1, s := [(0, (0x5000000000040, false))] } }, 0x31, by refine ⟨?_, ?_, ?_, ?_⟩ <;> decide +kernel⟩

theorem wit_trestleVst_1 : ∃ (s : State) (u : TUnit) (g : GangId) (x : Gang) (w : Word) (t : Nat) (ts : List Nat) (e : TStore), nextInsn s u.val g.val 0x34 = some (x, w) ∧ lanesOf x.r.active = t :: ts ∧ accessFault s x (kFmt w == 0) [memAddr x.r t (kB w) (kImm w)] 64 = none ∧ e = storeEntry (!(kFmt w == 0)) (memAddr x.r t (kB w) (kImm w)).1.toNat 64 (vGet x.r (kA w)).1.toNat ((vGet x.r (kA w)).2 != 0) x.r.pc ∧ (bufferStore x.buf e).length ≤ 16 :=
  ⟨tgs 0x34 { gg with r := { active := 1, s := [(0, (0x5000000000040, false))] } }, 0, 0, { gg with r := { active := 1, s := [(0, (0x5000000000040, false))] } }, 0x34, 0, [], storeEntry false 0x5000000000040 64 0 false 0, by refine ⟨?_, ?_, ?_, ?_, ?_⟩ <;> decide +kernel⟩

theorem wit_trestleAtom : ∃ (s : State) (v : State) (u : TUnit) (g : GangId) (x : Gang) (y : Gang) (w : Word) (tags : List Nat) (used : List Nat), nextInsn s u.val g.val 0x32 = some (x, w) ∧ (kImm w).testBit 32 = false ∧ accessFault s x true ((lanesOf x.r.active).map (fun t => memAddr x.r t (kA w) 0)) (if kModBit w 0 then 8 else 4) = none ∧ (lanesOf x.r.active).any (fun t => atomMalformed (Claims.AtomOf x w t) 0) = false ∧ x.buf.any (fun e => !e.scratch && (linesOf ((lanesOf x.r.active).map (fun t => (memAddr x.r t (kA w) 0).1.toNat))).contains e.line) = false ∧ x.atoms.length = x.atomNext ∧ freeTags s u.val g.val x (lanesOf x.r.active).length = some tags ∧ atomRoom s u.val ((lanesOf x.r.active).map (fun t => (memAddr x.r t (kA w) 0).1.toNat)) = true ∧ sendAtoms s u.val x (some x.nextOp) (((lanesOf x.r.active).zip ((lanesOf x.r.active).map (fun t => (memAddr x.r t (kA w) 0).1.toNat))).zip tags |>.map (fun e => (e.1.2, Claims.AtomOf x w e.1.1, (Claims.B x w e.1.1).2 || (kImm w % 32 == 0xA && (Claims.D x w e.1.1).2), e.2))) [] = (v, y, used) :=
  ⟨tgs 0x32 { gg with r := { active := 1, s := [(0, (0x5000000000040, false))] } }, (sendAtoms (tgs 0x32 ({ gg with r := { active := 1, s := [(0, (0x5000000000040, false))] } })) 0 { gg with r := { active := 1, s := [(0, (0x5000000000040, false))] } } (some 0) [(0x5000000000040, Claims.AtomOf { gg with r := { active := 1, s := [(0, (0x5000000000040, false))] } } 0x32 0, false, 0)] []).1, 0, 0, { gg with r := { active := 1, s := [(0, (0x5000000000040, false))] } }, (sendAtoms (tgs 0x32 ({ gg with r := { active := 1, s := [(0, (0x5000000000040, false))] } })) 0 { gg with r := { active := 1, s := [(0, (0x5000000000040, false))] } } (some 0) [(0x5000000000040, Claims.AtomOf { gg with r := { active := 1, s := [(0, (0x5000000000040, false))] } } 0x32 0, false, 0)] []).2.1, 0x32, [0], (sendAtoms (tgs 0x32 ({ gg with r := { active := 1, s := [(0, (0x5000000000040, false))] } })) 0 { gg with r := { active := 1, s := [(0, (0x5000000000040, false))] } } (some 0) [(0x5000000000040, Claims.AtomOf { gg with r := { active := 1, s := [(0, (0x5000000000040, false))] } } 0x32 0, false, 0)] []).2.2, by
    refine ⟨by decide +kernel, by decide +kernel, by decide +kernel, by decide +kernel, by decide +kernel, by decide +kernel, by decide +kernel, by decide +kernel, (congrArg (sendAtoms _ _ _ _ · []) (show _ = [(0x5000000000040, Claims.AtomOf { gg with r := { active := 1, s := [(0, (0x5000000000040, false))] } } 0x32 0, false, 0)] by decide +kernel)).trans rfl⟩⟩

theorem wit_trainCreate : ∃ (s : State) (h : Handle) (r : HandleRec) (img : List Byte) (i : Nat), startable s h.toNat 0x4B = some r ∧ isTenant s (dKeyAt r.desc 12) = true ∧ Claims.TrainImage s r img ∧ (List.range 16384).find? (fun i => !(tblHas s.train.masters (switchId s * 2 ^ 14 + i) || s.train.ops.any (fun o => o.id == switchId s * 2 ^ 14 + i))) = some i ∧ (∀ e ∈ Claims.Entries s (switchId s * 2 ^ 14 + i) 1 (dKeyAt r.desc 12) img, e.1 = switchId s → entryCheck s e.2 = .accepted) :=
  ⟨setHandle pt 0 { hr 0x4B (ln [(12, 2, 1), (16, 8, 0), (24, 4, 128), (28, 4, crc32c timg)]) with image := some timg }, 0, { hr 0x4B (ln [(12, 2, 1), (16, 8, 0), (24, 4, 128), (28, 4, crc32c timg)]) with image := some timg }, timg, 0, by refine ⟨?_, ?_, ?_, ?_, ?_⟩ <;> first | decide +kernel | exact some_get (by decide +kernel) | exact ok_get (by decide +kernel) | exact okC_get (by decide +kernel) | exact inr_get _ (by decide +kernel) | (unfold Claims.BauInside; decide +kernel) | exact ⟨by decide +kernel, by decide +kernel, by decide +kernel, by decide +kernel, by decide +kernel, by decide +kernel, fun h => absurd h (by decide +kernel)⟩ | exact ⟨by decide +kernel, by decide +kernel, by decide +kernel, by decide +kernel, by decide +kernel, by decide +kernel, fun _ => ⟨by decide +kernel, ⟨1, [0x26], 1⟩, by decide +kernel, by decide +kernel⟩⟩ | exact fun r h => by cases (show (none : Option HandleRec) = some r from h)| exact ⟨by decide +kernel, by decide +kernel, by decide +kernel, by decide +kernel, rfl, by decide +kernel, by decide +kernel, by decide +kernel⟩ | exact ⟨by decide +kernel, by decide +kernel, by decide +kernel, by decide +kernel, by decide +kernel, by decide +kernel, by decide +kernel, by decide +kernel⟩ | exact fun t h => by cases (show (none : Option Nat) = some t from h) | exact doneU_get (by decide +kernel) | exact Or.inl (doneU_get (by decide +kernel)) | exact done_get (by decide +kernel) | exact next_get (by decide +kernel) | (unfold Claims.Clear; decide +kernel) | (unfold Claims.FreshAtom; decide +kernel) | (unfold CxlTakes; decide +kernel) | (unfold Claims.BiAnswered; decide +kernel) | exact ⟨by decide +kernel, _, _, some_get (by decide +kernel), by decide +kernel, some_get (by decide +kernel)⟩ | (unfold Claims.Answered; decide +kernel) | exact ⟨by decide +kernel, by decide +kernel, by decide +kernel, sn 100 _, by decide +kernel, rfl⟩ | exact someD_get _ (by decide +kernel) | rfl⟩

theorem wit_trainEdit : ∃ (s : State) (u : State) (h : Handle) (r : HandleRec) (img : List Byte) (m : TrainMaster) (t : TrainRec), startable s h.toNat 0x4C = some r ∧ d8 r.desc 14 = 0 ∧ editRefusal s h.toNat r = none ∧ tblFind s.train.masters (d32 r.desc 8) = some m ∧ tblFind s.train.trains (d32 r.desc 8) = some t ∧ u = { s with train := { s.train with claims := tblPut s.train.claims (d32 r.desc 8) h.toNat } } ∧ Claims.TrainImage u r img ∧ (∀ e ∈ Claims.Entries u (d32 r.desc 8) (nextTrainGen m.gen) t.ent.owner img, e.1 = switchId u → entryCheck u e.2 = .accepted) :=
  ⟨trnS (setHandle pt 0 { hr 0x4C (ln [(8, 4, 81920), (14, 1, 0), (16, 8, 0), (24, 4, 128), (28, 4, crc32c timg)]) with image := some timg }) [{ ent := trn }], { trnS (setHandle pt 0 { hr 0x4C (ln [(8, 4, 81920), (14, 1, 0), (16, 8, 0), (24, 4, 128), (28, 4, crc32c timg)]) with image := some timg }) [{ ent := trn }] with train := { (trnS (setHandle pt 0 { hr 0x4C (ln [(8, 4, 81920), (14, 1, 0), (16, 8, 0), (24, 4, 128), (28, 4, crc32c timg)]) with image := some timg }) [{ ent := trn }]).train with claims := tblPut (trnS (setHandle pt 0 { hr 0x4C (ln [(8, 4, 81920), (14, 1, 0), (16, 8, 0), (24, 4, 128), (28, 4, crc32c timg)]) with image := some timg }) [{ ent := trn }]).train.claims 81920 0 } }, 0, { hr 0x4C (ln [(8, 4, 81920), (14, 1, 0), (16, 8, 0), (24, 4, 128), (28, 4, crc32c timg)]) with image := some timg }, timg, { gen := 1, switches := [5], members := [(0, 100, 5)] }, { ent := trn }, by refine ⟨?_, ?_, ?_, ?_, ?_, ?_, ?_, ?_⟩ <;> first | decide +kernel | exact some_get (by decide +kernel) | exact ok_get (by decide +kernel) | exact okC_get (by decide +kernel) | exact inr_get _ (by decide +kernel) | (unfold Claims.BauInside; decide +kernel) | exact ⟨by decide +kernel, by decide +kernel, by decide +kernel, by decide +kernel, by decide +kernel, by decide +kernel, fun h => absurd h (by decide +kernel)⟩ | exact ⟨by decide +kernel, by decide +kernel, by decide +kernel, by decide +kernel, by decide +kernel, by decide +kernel, fun _ => ⟨by decide +kernel, ⟨1, [0x26], 1⟩, by decide +kernel, by decide +kernel⟩⟩ | exact fun r h => by cases (show (none : Option HandleRec) = some r from h)| exact ⟨by decide +kernel, by decide +kernel, by decide +kernel, by decide +kernel, rfl, by decide +kernel, by decide +kernel, by decide +kernel⟩ | exact ⟨by decide +kernel, by decide +kernel, by decide +kernel, by decide +kernel, by decide +kernel, by decide +kernel, by decide +kernel, by decide +kernel⟩ | exact fun t h => by cases (show (none : Option Nat) = some t from h) | exact doneU_get (by decide +kernel) | exact Or.inl (doneU_get (by decide +kernel)) | exact done_get (by decide +kernel) | exact next_get (by decide +kernel) | (unfold Claims.Clear; decide +kernel) | (unfold Claims.FreshAtom; decide +kernel) | (unfold CxlTakes; decide +kernel) | (unfold Claims.BiAnswered; decide +kernel) | exact ⟨by decide +kernel, _, _, some_get (by decide +kernel), by decide +kernel, some_get (by decide +kernel)⟩ | (unfold Claims.Answered; decide +kernel) | exact ⟨by decide +kernel, by decide +kernel, by decide +kernel, sn 100 _, by decide +kernel, rfl⟩ | exact someD_get _ (by decide +kernel) | rfl⟩

theorem wit_trainDelete : ∃ (s : State) (u : State) (h : Handle) (r : HandleRec) (m : TrainMaster) (o : TrainOp), startable s h.toNat 0x4C = some r ∧ d8 r.desc 14 = 1 ∧ editRefusal s h.toNat r = none ∧ tblFind s.train.masters (d32 r.desc 8) = some m ∧ o = { handle := h.toNat, mode := 2, id := d32 r.desc 8, gen := nextTrainGen m.gen, owner := 0, adopting := m.switches.filter (· != switchId s), installed := true } ∧ u = dropTrain (markStarted { s with train := { s.train with claims := tblPut s.train.claims (d32 r.desc 8) h.toNat, ops := s.train.ops ++ [o] } } h.toNat) (d32 r.desc 8) :=
  ⟨trnS (lv pt 0x4C [(8, 4, 81920), (14, 1, 1)]) [{ ent := trn }], dropTrain (markStarted { trnS (lv pt 0x4C [(8, 4, 81920), (14, 1, 1)]) [{ ent := trn }] with train := { (trnS (lv pt 0x4C [(8, 4, 81920), (14, 1, 1)]) [{ ent := trn }]).train with claims := tblPut (trnS (lv pt 0x4C [(8, 4, 81920), (14, 1, 1)]) [{ ent := trn }]).train.claims 81920 0, ops := [{ handle := 0, mode := 2, id := 81920, gen := 2, owner := 0, adopting := [], installed := true }] } } 0) 81920, 0, hr 0x4C (ln [(8, 4, 81920), (14, 1, 1)]), { gen := 1, switches := [5], members := [(0, 100, 5)] }, { handle := 0, mode := 2, id := 81920, gen := 2, owner := 0, adopting := [], installed := true }, by refine ⟨?_, ?_, ?_, ?_, ?_, ?_⟩ <;> decide +kernel⟩

theorem wit_trainEntryDistribute_1 : ∃ (s : State) (t : TrainEnt), entryCheck s t = .accepted :=
  ⟨pt, trn, by decide +kernel⟩

theorem wit_trainEntryDistribute_2 : ∃ (s : State) (t : TrainEnt), entryCheck s t = .noRole :=
  ⟨pt, { trn with children := 2 ^ 9 }, by decide +kernel⟩

theorem wit_trainEntryDistribute_3 : ∃ (s : State) (t : TrainEnt), entryCheck s t = .noRoom :=
  ⟨{ pt with train := { pt.train with trains := List.replicate 16384 (0, { ent := trn }) } }, trn, by decide +kernel⟩

theorem wit_trainEntryDistribute_4 : ∃ (s : State) (t : TrainEnt), entryCheck s t = .noKey :=
  ⟨pt, { trn with owner := 9 }, by decide +kernel⟩

theorem wit_trainEntryDistribute_5 : ∃ (s : State) (t : TrainEnt) (id : BitVec 32) (gen : BitVec 16), s.train.offered.find? (fun x => x.id == id && x.gen == gen) = some t :=
  ⟨{ pt with train := { pt.train with offered := [trn] } }, trn, 81920, 1, by decide +kernel⟩

theorem wit_trainEntryDistribute_6 : ∃ (s : State) (t : TrainEnt) (id : BitVec 32) (r : TrainRec), tblFind s.train.trains id.toNat = some r :=
  ⟨trnS pt [{ ent := trn }], trn, 81920, { ent := trn }, by decide +kernel⟩

theorem wit_barrier_1 : ∃ (s : State) (h : Handle) (r : HandleRec) (t : TrainRec) (m : TrainMember), Claims.Collective s h.toNat r t m 0 ∧ findInst s (d32 r.desc 8) t.ent.gen.toNat (d32 r.desc 16) none = none ∧ isDead s (d32 r.desc 8) t.ent.gen.toNat (d32 r.desc 16) = false ∧ instRoom s (d32 r.desc 8) = true :=
  ⟨cst 0 0 0 [], 0, hr 0x4A (cd 0 0 0 0), { ent := trn }, { idx := 0, ep := 100 }, by exact ⟨by decide +kernel, by decide +kernel, by decide +kernel, by decide +kernel, by decide +kernel, by decide +kernel, by decide +kernel, by decide +kernel⟩, by decide +kernel, by decide +kernel, by decide +kernel⟩

theorem wit_barrier_2 : ∃ (s : State) (h : Handle) (r : HandleRec) (t : TrainRec) (m : TrainMember) (i : Inst), Claims.Collective s h.toNat r t m 0 ∧ findInst s (d32 r.desc 8) t.ent.gen.toNat (d32 r.desc 16) none = some i ∧ i.posts.any (fun q => q.member == d16 r.desc 12) = false ∧ i.par = Claims.Par r 0 :=
  ⟨cst 0 0 0 [ins0 0 0 0 []], 0, hr 0x4A (cd 0 0 0 0), { ent := trn }, { idx := 0, ep := 100 }, ins0 0 0 0 [], by exact ⟨by decide +kernel, by decide +kernel, by decide +kernel, by decide +kernel, by decide +kernel, by decide +kernel, by decide +kernel, by decide +kernel⟩, by decide +kernel, by decide +kernel, by decide +kernel⟩

theorem wit_barrier_3 : ∃ (s : State) (h : Handle) (r : HandleRec) (t : TrainRec) (m : TrainMember) (i : Inst), Claims.Collective s h.toNat r t m 0 ∧ findInst s (d32 r.desc 8) t.ent.gen.toNat (d32 r.desc 16) none = some i ∧ i.posts.any (fun q => q.member == d16 r.desc 12) = true :=
  ⟨cst 0 0 0 [ins0 0 0 0 [pst]], 0, hr 0x4A (cd 0 0 0 0), { ent := trn }, { idx := 0, ep := 100 }, ins0 0 0 0 [pst], by exact ⟨by decide +kernel, by decide +kernel, by decide +kernel, by decide +kernel, by decide +kernel, by decide +kernel, by decide +kernel, by decide +kernel⟩, by decide +kernel, by decide +kernel⟩

theorem wit_bcast_1 : ∃ (s : State) (h : Handle) (r : HandleRec) (t : TrainRec) (m : TrainMember), Claims.Collective s h.toNat r t m 1 ∧ findInst s (d32 r.desc 8) t.ent.gen.toNat (d32 r.desc 16) none = none ∧ isDead s (d32 r.desc 8) t.ent.gen.toNat (d32 r.desc 16) = false ∧ instRoom s (d32 r.desc 8) = true :=
  ⟨cst 1 0 64 [], 0, hr 0x4A (cd 1 0 0 64), { ent := trn }, { idx := 0, ep := 100 }, by exact ⟨by decide +kernel, by decide +kernel, by decide +kernel, by decide +kernel, by decide +kernel, by decide +kernel, by decide +kernel, by decide +kernel⟩, by decide +kernel, by decide +kernel, by decide +kernel⟩

theorem wit_bcast_2 : ∃ (s : State) (h : Handle) (r : HandleRec) (t : TrainRec) (m : TrainMember) (i : Inst), Claims.Collective s h.toNat r t m 1 ∧ findInst s (d32 r.desc 8) t.ent.gen.toNat (d32 r.desc 16) none = some i ∧ i.posts.any (fun q => q.member == d16 r.desc 12) = false ∧ i.par = Claims.Par r 1 :=
  ⟨cst 1 0 64 [ins0 1 0 64 []], 0, hr 0x4A (cd 1 0 0 64), { ent := trn }, { idx := 0, ep := 100 }, ins0 1 0 64 [], by exact ⟨by decide +kernel, by decide +kernel, by decide +kernel, by decide +kernel, by decide +kernel, by decide +kernel, by decide +kernel, by decide +kernel⟩, by decide +kernel, by decide +kernel, by decide +kernel⟩

theorem wit_bcast_3 : ∃ (s : State) (h : Handle) (r : HandleRec) (t : TrainRec) (m : TrainMember) (i : Inst), Claims.Collective s h.toNat r t m 1 ∧ findInst s (d32 r.desc 8) t.ent.gen.toNat (d32 r.desc 16) none = some i ∧ i.posts.any (fun q => q.member == d16 r.desc 12) = true :=
  ⟨cst 1 0 64 [ins0 1 0 64 [pst]], 0, hr 0x4A (cd 1 0 0 64), { ent := trn }, { idx := 0, ep := 100 }, ins0 1 0 64 [pst], by exact ⟨by decide +kernel, by decide +kernel, by decide +kernel, by decide +kernel, by decide +kernel, by decide +kernel, by decide +kernel, by decide +kernel⟩, by decide +kernel, by decide +kernel⟩

theorem wit_reduce_1 : ∃ (s : State) (h : Handle) (r : HandleRec) (t : TrainRec) (m : TrainMember), Claims.Collective s h.toNat r t m 2 ∧ findInst s (d32 r.desc 8) t.ent.gen.toNat (d32 r.desc 16) none = none ∧ isDead s (d32 r.desc 8) t.ent.gen.toNat (d32 r.desc 16) = false ∧ instRoom s (d32 r.desc 8) = true :=
  ⟨cst 2 5 64 [], 0, hr 0x4A (cd 2 5 0 64), { ent := trn }, { idx := 0, ep := 100 }, by exact ⟨by decide +kernel, by decide +kernel, by decide +kernel, by decide +kernel, by decide +kernel, by decide +kernel, by decide +kernel, by decide +kernel⟩, by decide +kernel, by decide +kernel, by decide +kernel⟩

theorem wit_reduce_2 : ∃ (s : State) (h : Handle) (r : HandleRec) (t : TrainRec) (m : TrainMember) (i : Inst), Claims.Collective s h.toNat r t m 2 ∧ findInst s (d32 r.desc 8) t.ent.gen.toNat (d32 r.desc 16) none = some i ∧ i.posts.any (fun q => q.member == d16 r.desc 12) = false ∧ i.par = Claims.Par r 2 :=
  ⟨cst 2 5 64 [ins0 2 5 64 []], 0, hr 0x4A (cd 2 5 0 64), { ent := trn }, { idx := 0, ep := 100 }, ins0 2 5 64 [], by exact ⟨by decide +kernel, by decide +kernel, by decide +kernel, by decide +kernel, by decide +kernel, by decide +kernel, by decide +kernel, by decide +kernel⟩, by decide +kernel, by decide +kernel, by decide +kernel⟩

theorem wit_reduce_3 : ∃ (s : State) (h : Handle) (r : HandleRec) (t : TrainRec) (m : TrainMember) (i : Inst), Claims.Collective s h.toNat r t m 2 ∧ findInst s (d32 r.desc 8) t.ent.gen.toNat (d32 r.desc 16) none = some i ∧ i.posts.any (fun q => q.member == d16 r.desc 12) = true :=
  ⟨cst 2 5 64 [ins0 2 5 64 [pst]], 0, hr 0x4A (cd 2 5 0 64), { ent := trn }, { idx := 0, ep := 100 }, ins0 2 5 64 [pst], by exact ⟨by decide +kernel, by decide +kernel, by decide +kernel, by decide +kernel, by decide +kernel, by decide +kernel, by decide +kernel, by decide +kernel⟩, by decide +kernel, by decide +kernel⟩

theorem wit_allreduce_1 : ∃ (s : State) (h : Handle) (r : HandleRec) (t : TrainRec) (m : TrainMember), Claims.Collective s h.toNat r t m 3 ∧ findInst s (d32 r.desc 8) t.ent.gen.toNat (d32 r.desc 16) none = none ∧ isDead s (d32 r.desc 8) t.ent.gen.toNat (d32 r.desc 16) = false ∧ instRoom s (d32 r.desc 8) = true :=
  ⟨cst 3 42 64 [], 0, hr 0x4A (cd 3 42 0 64), { ent := trn }, { idx := 0, ep := 100 }, by exact ⟨by decide +kernel, by decide +kernel, by decide +kernel, by decide +kernel, by decide +kernel, by decide +kernel, by decide +kernel, by decide +kernel⟩, by decide +kernel, by decide +kernel, by decide +kernel⟩

theorem wit_allreduce_2 : ∃ (s : State) (h : Handle) (r : HandleRec) (t : TrainRec) (m : TrainMember) (i : Inst), Claims.Collective s h.toNat r t m 3 ∧ findInst s (d32 r.desc 8) t.ent.gen.toNat (d32 r.desc 16) none = some i ∧ i.posts.any (fun q => q.member == d16 r.desc 12) = false ∧ i.par = Claims.Par r 3 :=
  ⟨cst 3 42 64 [ins0 3 42 64 []], 0, hr 0x4A (cd 3 42 0 64), { ent := trn }, { idx := 0, ep := 100 }, ins0 3 42 64 [], by exact ⟨by decide +kernel, by decide +kernel, by decide +kernel, by decide +kernel, by decide +kernel, by decide +kernel, by decide +kernel, by decide +kernel⟩, by decide +kernel, by decide +kernel, by decide +kernel⟩

theorem wit_allreduce_3 : ∃ (s : State) (h : Handle) (r : HandleRec) (t : TrainRec) (m : TrainMember) (i : Inst), Claims.Collective s h.toNat r t m 3 ∧ findInst s (d32 r.desc 8) t.ent.gen.toNat (d32 r.desc 16) none = some i ∧ i.posts.any (fun q => q.member == d16 r.desc 12) = true :=
  ⟨cst 3 42 64 [ins0 3 42 64 [pst]], 0, hr 0x4A (cd 3 42 0 64), { ent := trn }, { idx := 0, ep := 100 }, ins0 3 42 64 [pst], by exact ⟨by decide +kernel, by decide +kernel, by decide +kernel, by decide +kernel, by decide +kernel, by decide +kernel, by decide +kernel, by decide +kernel⟩, by decide +kernel, by decide +kernel⟩

theorem wit_allgather_1 : ∃ (s : State) (h : Handle) (r : HandleRec) (t : TrainRec) (m : TrainMember), Claims.Collective s h.toNat r t m 4 ∧ findInst s (d32 r.desc 8) t.ent.gen.toNat (d32 r.desc 16) none = none ∧ isDead s (d32 r.desc 8) t.ent.gen.toNat (d32 r.desc 16) = false ∧ instRoom s (d32 r.desc 8) = true :=
  ⟨cst 4 0 64 [], 0, hr 0x4A (cd 4 0 0 64), { ent := trn }, { idx := 0, ep := 100 }, by exact ⟨by decide +kernel, by decide +kernel, by decide +kernel, by decide +kernel, by decide +kernel, by decide +kernel, by decide +kernel, by decide +kernel⟩, by decide +kernel, by decide +kernel, by decide +kernel⟩

theorem wit_allgather_2 : ∃ (s : State) (h : Handle) (r : HandleRec) (t : TrainRec) (m : TrainMember) (i : Inst), Claims.Collective s h.toNat r t m 4 ∧ findInst s (d32 r.desc 8) t.ent.gen.toNat (d32 r.desc 16) none = some i ∧ i.posts.any (fun q => q.member == d16 r.desc 12) = false ∧ i.par = Claims.Par r 4 :=
  ⟨cst 4 0 64 [ins0 4 0 64 []], 0, hr 0x4A (cd 4 0 0 64), { ent := trn }, { idx := 0, ep := 100 }, ins0 4 0 64 [], by exact ⟨by decide +kernel, by decide +kernel, by decide +kernel, by decide +kernel, by decide +kernel, by decide +kernel, by decide +kernel, by decide +kernel⟩, by decide +kernel, by decide +kernel, by decide +kernel⟩

theorem wit_allgather_3 : ∃ (s : State) (h : Handle) (r : HandleRec) (t : TrainRec) (m : TrainMember) (i : Inst), Claims.Collective s h.toNat r t m 4 ∧ findInst s (d32 r.desc 8) t.ent.gen.toNat (d32 r.desc 16) none = some i ∧ i.posts.any (fun q => q.member == d16 r.desc 12) = true :=
  ⟨cst 4 0 64 [ins0 4 0 64 [pst]], 0, hr 0x4A (cd 4 0 0 64), { ent := trn }, { idx := 0, ep := 100 }, ins0 4 0 64 [pst], by exact ⟨by decide +kernel, by decide +kernel, by decide +kernel, by decide +kernel, by decide +kernel, by decide +kernel, by decide +kernel, by decide +kernel⟩, by decide +kernel, by decide +kernel⟩

theorem wit_reduceScatter_1 : ∃ (s : State) (h : Handle) (r : HandleRec) (t : TrainRec) (m : TrainMember), Claims.Collective s h.toNat r t m 5 ∧ findInst s (d32 r.desc 8) t.ent.gen.toNat (d32 r.desc 16) none = none ∧ isDead s (d32 r.desc 8) t.ent.gen.toNat (d32 r.desc 16) = false ∧ instRoom s (d32 r.desc 8) = true :=
  ⟨cst 5 6 64 [], 0, hr 0x4A (cd 5 6 0 64), { ent := trn }, { idx := 0, ep := 100 }, by exact ⟨by decide +kernel, by decide +kernel, by decide +kernel, by decide +kernel, by decide +kernel, by decide +kernel, by decide +kernel, by decide +kernel⟩, by decide +kernel, by decide +kernel, by decide +kernel⟩

theorem wit_reduceScatter_2 : ∃ (s : State) (h : Handle) (r : HandleRec) (t : TrainRec) (m : TrainMember) (i : Inst), Claims.Collective s h.toNat r t m 5 ∧ findInst s (d32 r.desc 8) t.ent.gen.toNat (d32 r.desc 16) none = some i ∧ i.posts.any (fun q => q.member == d16 r.desc 12) = false ∧ i.par = Claims.Par r 5 :=
  ⟨cst 5 6 64 [ins0 5 6 64 []], 0, hr 0x4A (cd 5 6 0 64), { ent := trn }, { idx := 0, ep := 100 }, ins0 5 6 64 [], by exact ⟨by decide +kernel, by decide +kernel, by decide +kernel, by decide +kernel, by decide +kernel, by decide +kernel, by decide +kernel, by decide +kernel⟩, by decide +kernel, by decide +kernel, by decide +kernel⟩

theorem wit_reduceScatter_3 : ∃ (s : State) (h : Handle) (r : HandleRec) (t : TrainRec) (m : TrainMember) (i : Inst), Claims.Collective s h.toNat r t m 5 ∧ findInst s (d32 r.desc 8) t.ent.gen.toNat (d32 r.desc 16) none = some i ∧ i.posts.any (fun q => q.member == d16 r.desc 12) = true :=
  ⟨cst 5 6 64 [ins0 5 6 64 [pst]], 0, hr 0x4A (cd 5 6 0 64), { ent := trn }, { idx := 0, ep := 100 }, ins0 5 6 64 [pst], by exact ⟨by decide +kernel, by decide +kernel, by decide +kernel, by decide +kernel, by decide +kernel, by decide +kernel, by decide +kernel, by decide +kernel⟩, by decide +kernel, by decide +kernel⟩

theorem wit_mcast : ∃ (s : State) (h : Handle) (r : HandleRec) (t : TrainRec) (m : TrainMember), Claims.Collective s h.toNat r t m 6 ∧ instRoom s (d32 r.desc 8) = true :=
  ⟨cst 6 0 64 [], 0, hr 0x4A (cd 6 0 0 64), { ent := trn }, { idx := 0, ep := 100 }, by refine ⟨?_, ?_⟩ <;> first | decide +kernel | exact some_get (by decide +kernel) | exact ok_get (by decide +kernel) | exact okC_get (by decide +kernel) | exact inr_get _ (by decide +kernel) | (unfold Claims.BauInside; decide +kernel) | exact ⟨by decide +kernel, by decide +kernel, by decide +kernel, by decide +kernel, by decide +kernel, by decide +kernel, fun h => absurd h (by decide +kernel)⟩ | exact ⟨by decide +kernel, by decide +kernel, by decide +kernel, by decide +kernel, by decide +kernel, by decide +kernel, fun _ => ⟨by decide +kernel, ⟨1, [0x26], 1⟩, by decide +kernel, by decide +kernel⟩⟩ | exact fun r h => by cases (show (none : Option HandleRec) = some r from h)| exact ⟨by decide +kernel, by decide +kernel, by decide +kernel, by decide +kernel, rfl, by decide +kernel, by decide +kernel, by decide +kernel⟩ | exact ⟨by decide +kernel, by decide +kernel, by decide +kernel, by decide +kernel, by decide +kernel, by decide +kernel, by decide +kernel, by decide +kernel⟩ | exact fun t h => by cases (show (none : Option Nat) = some t from h) | exact doneU_get (by decide +kernel) | exact Or.inl (doneU_get (by decide +kernel)) | exact done_get (by decide +kernel) | exact next_get (by decide +kernel) | (unfold Claims.Clear; decide +kernel) | (unfold Claims.FreshAtom; decide +kernel) | (unfold CxlTakes; decide +kernel) | (unfold Claims.BiAnswered; decide +kernel) | exact ⟨by decide +kernel, _, _, some_get (by decide +kernel), by decide +kernel, some_get (by decide +kernel)⟩ | (unfold Claims.Answered; decide +kernel) | exact ⟨by decide +kernel, by decide +kernel, by decide +kernel, sn 100 _, by decide +kernel, rfl⟩ | exact someD_get _ (by decide +kernel) | rfl⟩

theorem wit_segmentArrive_1 : ∃ (s : State) (t : State) (g : SegMsg) (i : Inst) (p : Nat), msgInst s g = some i ∧ t = (segPort i g.src).toList.foldl (fun s p => creditBack s p 5) s ∧ segPort i g.src = some p ∧ ingressKey t p i.rcd.ent.owner = false :=
  ⟨trnS pt [{ ent := { trn2 with owner := 9 } }], creditBack (trnS pt [{ ent := { trn2 with owner := 9 } }]) 1 5, sgm (.child 1) 0, { rcd := { ent := { trn2 with owner := 9 } }, seq := 0, par := { kind := 2 } }, 1, by refine ⟨?_, ?_, ?_, ?_⟩ <;> decide +kernel⟩

theorem wit_segmentArrive_2 : ∃ (s : State) (t : State) (g : SegMsg) (i : Inst), msgInst s g = some i ∧ t = (segPort i g.src).toList.foldl (fun s p => creditBack s p 5) s ∧ (segPort i g.src).all (fun p => ingressKey t p i.rcd.ent.owner) = true ∧ isDead t g.train.toNat g.gen.toNat g.seq = false ∧ i.par ≠ g.par :=
  ⟨{ trnS pt [] with train := { pt.train with insts := [{ rcd := { ent := trn }, seq := 0, par := { kind := 3 } }] } }, { trnS pt [] with train := { pt.train with insts := [{ rcd := { ent := trn }, seq := 0, par := { kind := 3 } }] } }, sgm .down 0, { rcd := { ent := trn }, seq := 0, par := { kind := 3 } }, by refine ⟨?_, ?_, ?_, ?_, ?_⟩ <;> decide +kernel⟩

theorem wit_segmentArrive_3 : ∃ (s : State) (t : State) (g : SegMsg) (i : Inst) (p : PortId), msgInst s g = some i ∧ t = (segPort i g.src).toList.foldl (fun s p => creditBack s p 5) s ∧ (segPort i g.src).all (fun p => ingressKey t p i.rcd.ent.owner) = true ∧ isDead t g.train.toNat g.gen.toNat g.seq = false ∧ i.par = g.par ∧ g.src = .child p ∧ i.par.kind ≠ 6 ∧ (childTrunks t i).contains p.val = true ∧ g.seg < i.combined + 32 ∧ i.contribs.any (fun c => c.child && c.idx == p.val && c.seg == g.seg) = false :=
  ⟨trnS pt [{ ent := trn2 }], creditBack (trnS pt [{ ent := trn2 }]) 1 5, sgm (.child 1) 31, { rcd := { ent := trn2 }, seq := 0, par := { kind := 2 } }, 1, by refine ⟨?_, ?_, ?_, ?_, ?_, ?_, ?_, ?_, ?_, ?_⟩ <;> decide +kernel⟩

theorem wit_segmentArrive_4 : ∃ (s : State) (t : State) (g : SegMsg) (i : Inst), msgInst s g = some i ∧ t = (segPort i g.src).toList.foldl (fun s p => creditBack s p 5) s ∧ (segPort i g.src).all (fun p => ingressKey t p i.rcd.ent.owner) = true ∧ isDead t g.train.toNat g.gen.toNat g.seq = false ∧ i.par = g.par ∧ g.src = .down ∧ i.rcd.ent.root = false ∧ i.rel = none ∧ g.rel = none ∧ g.seg = i.sent :=
  ⟨trnS pt [{ ent := trnD }], creditBack (trnS pt [{ ent := trnD }]) 1 5, sgm .down 0, { rcd := { ent := trnD }, seq := 0, par := { kind := 2 } }, by refine ⟨?_, ?_, ?_, ?_, ?_, ?_, ?_, ?_, ?_, ?_⟩ <;> decide +kernel⟩

theorem wit_transitHop_1 : ∃ (s : State) (t : State) (p : PortId) (k : Packet), t = creditBack s p.val k.tc.toNat ∧ t.sys.st = .serving ∧ isHostPort t p.val = false ∧ isTrunk t p.val = true ∧ ingressKey t p.val k.key = true ∧ ckeyBad k.key k.ckey = false ∧ k.badSlots = false ∧ hopFault t k.bridle = none ∧ bNext k.bridle ≠ bCount k.bridle :=
  ⟨pt, creditBack pt 1 6, 1, pkt (128 + 2 ^ 59) 1, by refine ⟨?_, ?_, ?_, ?_, ?_, ?_, ?_, ?_, ?_⟩ <;> decide +kernel⟩

theorem wit_transitHop_2 : ∃ (s : State) (t : State) (p : PortId) (k : Packet), t = creditBack s p.val k.tc.toNat ∧ t.sys.st = .serving ∧ isHostPort t p.val = false ∧ isTrunk t p.val = true ∧ ingressKey t p.val k.key = true ∧ ckeyBad k.key k.ckey = false ∧ k.badSlots = false ∧ hopFault t k.bridle = none ∧ bNext k.bridle = bCount k.bridle :=
  ⟨pt, creditBack pt 1 6, 1, pkt (128 + 2 ^ 59 + 2 ^ 56) 1, by refine ⟨?_, ?_, ?_, ?_, ?_, ?_, ?_, ?_, ?_⟩ <;> decide +kernel⟩

theorem wit_transitHop_3 : ∃ (s : State) (t : State) (p : PortId) (k : Packet), t = creditBack s p.val k.tc.toNat ∧ t.sys.st = .serving ∧ isHostPort t p.val = false ∧ isTrunk t p.val = true ∧ ingressKey t p.val k.key = false :=
  ⟨pt, creditBack pt 1 6, 1, pkt 0 9, by refine ⟨?_, ?_, ?_, ?_, ?_⟩ <;> decide +kernel⟩

theorem wit_transitHop_4 : ∃ (s : State) (t : State) (p : PortId) (k : Packet) (c : Bool), t = creditBack s p.val k.tc.toNat ∧ t.sys.st = .serving ∧ isHostPort t p.val = false ∧ isTrunk t p.val = true ∧ ingressKey t p.val k.key = true ∧ ckeyBad k.key k.ckey = false ∧ k.badSlots = false ∧ hopFault t k.bridle = some c :=
  ⟨pt, creditBack pt 1 6, 1, pkt 0 1, false, by refine ⟨?_, ?_, ?_, ?_, ?_, ?_, ?_, ?_⟩ <;> decide +kernel⟩

theorem wit_transitHop_5 : ∃ (s : State) (t : State) (p : PortId) (k : Packet) (c : Bool), t = creditBack s p.val k.tc.toNat ∧ t.sys.st = .serving ∧ isHostPort t p.val = false ∧ isTrunk t p.val = true ∧ ingressKey t p.val k.key = true ∧ ckeyBad k.key k.ckey = false ∧ k.badSlots = false ∧ hopFault t k.bridle = some c :=
  ⟨regs pt [(portBase 1 + 0x100, 101)], creditBack (regs pt [(portBase 1 + 0x100, 101)]) 1 6, 1, pkt (1 + 128 + 2 ^ 59 + 2 ^ 62) 1, true, by refine ⟨?_, ?_, ?_, ?_, ?_, ?_, ?_, ?_⟩ <;> decide +kernel⟩

theorem wit_pathUpdate : ∃ (s : State) (h : HRef) (r : HandleRec) (b : List Byte), startable s h.toNat 0x52 = some r ∧ d64 r.desc 8 % 64 = 0 ∧ 144 ≤ d32 r.desc 16 ∧ d32 r.desc 16 ≤ 655424 ∧ (d32 r.desc 16 - 64) % 80 = 0 ∧ pathBusy s h.toNat = false ∧ r.imagePoison = false ∧ r.image = some b ∧ crc32c b = d32 r.desc 24 ∧ (d32 r.desc 20 = 0 ∨ d32 r.desc 20 = s.route.gen) ∧ b.length = d32 r.desc 16 ∧ imgNat b 0 4 = (d32 r.desc 16 - 64) / 80 ∧ imgNat b 4 60 = 0 ∧ (List.range (imgNat b 0 4)).find? (fun i => !pathEntryOk s b i) = none :=
  ⟨setHandle pt 0 { hr 0x52 (ln [(16, 4, 144), (24, 4, crc32c pimg)]) with image := some pimg }, 0, { hr 0x52 (ln [(16, 4, 144), (24, 4, crc32c pimg)]) with image := some pimg }, pimg, by refine ⟨?_, ?_, ?_, ?_, ?_, ?_, ?_, ?_, ?_, ?_, ?_, ?_, ?_, ?_⟩ <;> decide +kernel⟩

theorem wit_pathmark : ∃ (s : State) (p : PortId) (b : Word) (tc : Tc) (src : BitVec 12), (isHostPort s p.val || isTrunk s p.val) = true :=
  ⟨pt, 1, 0, 6, 7, by decide +kernel⟩

theorem wit_markack : ∃ (s : State) (b : Word) (tc : Tc) (m : Marker), s.route.markers.find? (fun m => m.bridle == b && m.tc == tc.toNat) = some m :=
  ⟨{ pt with route := { pt.route with markers := [⟨5, 6, 0, 0⟩] } }, 5, 6, ⟨5, 6, 0, 0⟩, by decide +kernel⟩

theorem wit_tetherOpen_1 : ∃ (s : State) (u : State) (h : Handle) (r : HandleRec) (b : List Byte) (i : Nat) (t : Tether), startable s h.toNat 0x50 = some r ∧ d64 r.desc 8 % 64 = 0 ∧ r.imagePoison = false ∧ r.image = some b ∧ crc32c b = d32 r.desc 20 ∧ planOk s b (d32 r.desc 16) = true ∧ isTenant s (BitVec.ofNat 16 (imgNat b 4 2)) = true ∧ freeTether s = some i ∧ t = planTether s b (switchId s * 8192 + i) h.toNat ∧ fencedHop s t = none ∧ tetherMatched s t = false ∧ tetherCheck s t true = .accepted ∧ u = t.route.foldl (fun u e => if e.1 = switchId u then u else sendSwitch u e.1 "TetherEntry" [t.id, e.2.1, e.2.2, t.tc, t.units, t.owner.toNat]) (addTether (markStarted s h.toNat) t) ∧ routeOthers u t = [] :=
  ⟨setHandle pt 0 { hr 0x50 (ln [(16, 4, 80), (20, 4, crc32c plan)]) with image := some plan }, addTether (markStarted (setHandle pt 0 { hr 0x50 (ln [(16, 4, 80), (20, 4, crc32c plan)]) with image := some plan }) 0) (planTether (setHandle pt 0 { hr 0x50 (ln [(16, 4, 80), (20, 4, crc32c plan)]) with image := some plan }) plan 40960 0), 0, { hr 0x50 (ln [(16, 4, 80), (20, 4, crc32c plan)]) with image := some plan }, plan, 0, planTether (setHandle pt 0 { hr 0x50 (ln [(16, 4, 80), (20, 4, crc32c plan)]) with image := some plan }) plan 40960 0, by refine ⟨?_, ?_, ?_, ?_, ?_, ?_, ?_, ?_, ?_, ?_, ?_, ?_, ?_, ?_⟩ <;> decide +kernel⟩

theorem wit_tetherOpen_2 : ∃ (s : State) (u : State) (h : Handle) (r : HandleRec) (b : List Byte) (i : Nat) (t : Tether), startable s h.toNat 0x50 = some r ∧ d64 r.desc 8 % 64 = 0 ∧ r.imagePoison = false ∧ r.image = some b ∧ crc32c b = d32 r.desc 20 ∧ planOk s b (d32 r.desc 16) = true ∧ isTenant s (BitVec.ofNat 16 (imgNat b 4 2)) = true ∧ freeTether s = some i ∧ t = planTether s b (switchId s * 8192 + i) h.toNat ∧ fencedHop s t = none ∧ tetherMatched s t = false ∧ tetherCheck s t true = .accepted ∧ u = t.route.foldl (fun u e => if e.1 = switchId u then u else sendSwitch u e.1 "TetherEntry" [t.id, e.2.1, e.2.2, t.tc, t.units, t.owner.toNat]) (addTether (markStarted s h.toNat) t) ∧ routeOthers u t ≠ [] :=
  ⟨setHandle pt 0 { hr 0x50 (ln [(16, 4, 96), (20, 4, crc32c plan2)]) with image := some plan2 }, ((planTether (setHandle pt 0 { hr 0x50 (ln [(16, 4, 96), (20, 4, crc32c plan2)]) with image := some plan2 }) plan2 40960 0).route.foldl (fun u e => if e.1 = 5 then u else sendSwitch u e.1 "TetherEntry" [40960, e.2.1, e.2.2, 5, 1, 1]) (addTether (markStarted (setHandle pt 0 { hr 0x50 (ln [(16, 4, 96), (20, 4, crc32c plan2)]) with image := some plan2 }) 0) (planTether (setHandle pt 0 { hr 0x50 (ln [(16, 4, 96), (20, 4, crc32c plan2)]) with image := some plan2 }) plan2 40960 0))), 0, { hr 0x50 (ln [(16, 4, 96), (20, 4, crc32c plan2)]) with image := some plan2 }, plan2, 0, planTether (setHandle pt 0 { hr 0x50 (ln [(16, 4, 96), (20, 4, crc32c plan2)]) with image := some plan2 }) plan2 40960 0, by refine ⟨?_, ?_, ?_, ?_, ?_, ?_, ?_, ?_, ?_, ?_, ?_, ?_, ?_, ?_⟩ <;> decide +kernel⟩

theorem wit_tetherClose_1 : ∃ (s : State) (h : HRef) (r : HandleRec) (t : Tether), startable s h.toNat 0x51 = some r ∧ s.route.tethers.find? (fun t => t.master && t.id == d32 r.desc 8) = some t ∧ t.st = .active ∧ (t.handle.bind (handleOf s)).any (fun y => decide (y.phase = .live)) = false :=
  ⟨{ lv pt 0x51 [(8, 4, 40960)] with route := { (lv pt 0x51 [(8, 4, 40960)]).route with tethers := [tet] } }, 0, hr 0x51 (ln [(8, 4, 40960)]), tet, by refine ⟨?_, ?_, ?_, ?_⟩ <;> decide +kernel⟩

theorem wit_tetherClose_2 : ∃ (s : State) (h : HRef) (r : HandleRec) (t : Tether), startable s h.toNat 0x51 = some r ∧ s.route.tethers.find? (fun t => t.master && t.id == d32 r.desc 8) = some t ∧ t.st = .broken :=
  ⟨{ lv pt 0x51 [(8, 4, 40960)] with route := { (lv pt 0x51 [(8, 4, 40960)]).route with tethers := [{ tet with st := .broken }] } }, 0, hr 0x51 (ln [(8, 4, 40960)]), { tet with st := .broken }, by refine ⟨?_, ?_, ?_⟩ <;> decide +kernel⟩

theorem wit_tetherClose_3 : ∃ (s : State) (h : HRef) (r : HandleRec) (t : Tether), startable s h.toNat 0x51 = some r ∧ s.route.tethers.find? (fun t => t.master && t.id == d32 r.desc 8) = some t ∧ (t.st = .opening ∨ t.st = .closing) :=
  ⟨{ lv pt 0x51 [(8, 4, 40960)] with route := { (lv pt 0x51 [(8, 4, 40960)]).route with tethers := [{ tet with st := .opening }] } }, 0, hr 0x51 (ln [(8, 4, 40960)]), { tet with st := .opening }, by refine ⟨?_, ?_, ?_⟩ <;> decide +kernel⟩

theorem wit_tetherEntryInstall_1 : ∃ (s : State) (x : TetherEnt) (t : Tether), t = { id := x.id.toNat, st := .active, tc := x.tc.toNat, units := x.units, home := x.home, owner := x.owner, src := x.src, dst := x.dst, dsw := x.dsw.toNat, bridle := x.bridle, inPort := x.inPort.val, outPort := (x.outPort.map (·.val)).getD 255 } ∧ tetherAt s x.id.toNat = none ∧ tetherCheck s t false = .accepted :=
  ⟨pt, { id := 57344, idx := 1, inPort := 1, outPort := some 2, tc := 5, units := 1, owner := 1, src := 9, dst := 102, dsw := 5, home := false, bridle := 0 }, { id := 57344, st := .active, tc := 5, units := 1, home := false, owner := 1, src := 9, dst := 102, dsw := 5, bridle := 0, inPort := 1, outPort := 2 }, by refine ⟨?_, ?_, ?_⟩ <;> decide +kernel⟩

theorem wit_tetherEntryInstall_2 : ∃ (s : State) (x : TetherEnt) (t : Tether), t = { id := x.id.toNat, st := .active, tc := x.tc.toNat, units := x.units, home := x.home, owner := x.owner, src := x.src, dst := x.dst, dsw := x.dsw.toNat, bridle := x.bridle, inPort := x.inPort.val, outPort := (x.outPort.map (·.val)).getD 255 } ∧ tetherAt s x.id.toNat = none ∧ tetherCheck s t false ≠ .accepted :=
  ⟨pt, { id := 57344, idx := 1, inPort := 1, outPort := some 0, tc := 5, units := 1, owner := 1, src := 9, dst := 102, dsw := 5, home := false, bridle := 0 }, { id := 57344, st := .active, tc := 5, units := 1, home := false, owner := 1, src := 9, dst := 102, dsw := 5, bridle := 0, inPort := 1, outPort := 0 }, by refine ⟨?_, ?_, ?_⟩ <;> decide +kernel⟩

theorem wit_tetherEntryInstall_3 : ∃ (s : State) (id : BitVec 32) (t : Tether), tetherAt s id.toNat = some t ∧ t.master = false :=
  ⟨{ pt with route := { pt.route with tethers := [{ id := 57344, st := .active, tc := 5, units := 1, home := false, owner := 1, src := 9, dst := 102, dsw := 5, bridle := 0, inPort := 1, outPort := 2 }] } }, 57344, { id := 57344, st := .active, tc := 5, units := 1, home := false, owner := 1, src := 9, dst := 102, dsw := 5, bridle := 0, inPort := 1, outPort := 2 }, by refine ⟨?_, ?_⟩ <;> decide +kernel⟩

theorem wit_cellIngress_1 : ∃ (s : State) (k : SliceId) (c : Cell) (pos : Nat) (m : Nat) (v : State), livePos s k.val = some pos ∧ s.sys.st = .serving ∧ (srcPos c.src.val).any (· != pos) = false ∧ c.train = none ∧ egressPort s c.port.val = true ∧ c.tether = none ∧ 4 ≤ c.tc.toNat ∧ nextPos (Claims.Dropping (Claims.Numbered s c pos) c false) (c.src.val * 8 + c.tc.toNat) = (m, v) ∧ 0 < freeCells v pos :=
  ⟨pt, 0, cel 6, 0, (nextPos (Claims.Dropping (Claims.Numbered pt (cel 6) 0) (cel 6) false) 6).1, (nextPos (Claims.Dropping (Claims.Numbered pt (cel 6) 0) (cel 6) false) 6).2, by refine ⟨?_, ?_, ?_, ?_, ?_, ?_, ?_, ?_, ?_⟩ <;> decide +kernel⟩

theorem wit_cellIngress_2 : ∃ (s : State) (k : SliceId) (c : Cell) (pos : Nat) (w : State) (m : Nat) (v : State), livePos s k.val = some pos ∧ s.sys.st = .serving ∧ (srcPos c.src.val).any (· != pos) = false ∧ c.train = none ∧ egressPort s c.port.val = true ∧ c.tether = none ∧ c.tc.toNat < 4 ∧ c.kind = .data ∧ c.start = true ∧ wredDrops (Claims.Numbered s c pos) c = (true, w) ∧ nextPos (Claims.Dropping w c (!c.fin)) (c.src.val * 8 + c.tc.toNat) = (m, v) :=
  ⟨{ regs pt [(0x34100, 1 + 2 * 65536), (portBase 0 + 0x610, 0)] with cong := { pt.cong with wred := [(0, 131072)] } }, 0, cel 0, 0, (wredDrops (Claims.Numbered ({ regs pt [(0x34100, 1 + 2 * 65536), (portBase 0 + 0x610, 0)] with cong := { pt.cong with wred := [(0, 131072)] } }) (cel 0) 0) (cel 0)).2, (nextPos (Claims.Dropping ((wredDrops (Claims.Numbered ({ regs pt [(0x34100, 1 + 2 * 65536), (portBase 0 + 0x610, 0)] with cong := { pt.cong with wred := [(0, 131072)] } }) (cel 0) 0) (cel 0)).2) (cel 0) false) 0).1, (nextPos (Claims.Dropping ((wredDrops (Claims.Numbered ({ regs pt [(0x34100, 1 + 2 * 65536), (portBase 0 + 0x610, 0)] with cong := { pt.cong with wred := [(0, 131072)] } }) (cel 0) 0) (cel 0)).2) (cel 0) false) 0).2, by refine ⟨?_, ?_, ?_, ?_, ?_, ?_, ?_, ?_, ?_, ?_, ?_⟩ <;> decide +kernel⟩

theorem wit_cellIngress_3 : ∃ (s : State) (k : SliceId) (c : Cell) (pos : Nat) (w : State) (m : Nat) (v : State), livePos s k.val = some pos ∧ s.sys.st = .serving ∧ (srcPos c.src.val).any (· != pos) = false ∧ c.train = none ∧ egressPort s c.port.val = true ∧ c.tether = none ∧ c.tc.toNat < 4 ∧ c.kind = .data ∧ c.start = true ∧ wredDrops (Claims.Numbered s c pos) c = (false, w) ∧ nextPos (Claims.Dropping w c false) (c.src.val * 8 + c.tc.toNat) = (m, v) ∧ 0 < freeCells v pos :=
  ⟨regs pt [(0x34100, 1 + 2 * 65536), (portBase 0 + 0x610, 0)], 0, cel 0, 0, (wredDrops (Claims.Numbered (regs pt [(0x34100, 1 + 2 * 65536), (portBase 0 + 0x610, 0)]) (cel 0) 0) (cel 0)).2, (nextPos (Claims.Dropping ((wredDrops (Claims.Numbered (regs pt [(0x34100, 1 + 2 * 65536), (portBase 0 + 0x610, 0)]) (cel 0) 0) (cel 0)).2) (cel 0) false) 0).1, (nextPos (Claims.Dropping ((wredDrops (Claims.Numbered (regs pt [(0x34100, 1 + 2 * 65536), (portBase 0 + 0x610, 0)]) (cel 0) 0) (cel 0)).2) (cel 0) false) 0).2, by refine ⟨?_, ?_, ?_, ?_, ?_, ?_, ?_, ?_, ?_, ?_, ?_, ?_⟩ <;> decide +kernel⟩

theorem wit_cellIngress_4 : ∃ (s : State) (k : SliceId) (c : Cell) (pos : Nat) (id : BitVec 32), livePos s k.val = some pos ∧ s.sys.st = .serving ∧ (srcPos c.src.val).any (· != pos) = false ∧ c.train = some id ∧ c.tc = 5 ∧ c.kind = .data :=
  ⟨trnS pt [{ ent := trn }], 0, { cel 5 with train := some 81920 }, 0, 81920, by refine ⟨?_, ?_, ?_, ?_, ?_, ?_⟩ <;> decide +kernel⟩

theorem wit_stageCreditReturn : ∃ (s : State) (i : SliceId) (e : SliceId) (m : Fin 16) (tc : Tc) (a : Nat) (b : Nat), posOf s i.val = some a ∧ posOf s e.val = some b ∧ s.core.leaving.contains (tupleKey a m.val b tc.toNat) = true :=
  ⟨{ pt with core := { pt.core with leaving := [tupleKey 0 15 0 6] } }, 0, 0, 15, 6, 0, 0, by refine ⟨?_, ?_, ?_⟩ <;> decide +kernel⟩

theorem wit_middlePull_1 : ∃ (s : State) (u : State) (v : State) (k : SliceId) (e : SliceId) (m : Nat) (dst : Nat) (j : Nat) (c : CoreCell) (w : State), livePos s k.val = some m ∧ livePos s e.val = some dst ∧ ((List.range 8).map (fun i => (tblGet s.core.portPtr (dst * 16 + m) 0 + i) % 8)).find? (fun j => (portPull s m (8 * dst + j)).isSome) = some j ∧ ((∃ g b, slotPull s m (8 * dst + j) = some (g, c) ∧ b = bump (bump s (coreCnt ((8 * dst + j) / 8) 8)) (portRouteCnt (8 * dst + j) 6) ∧ u = { b with core := { b.core with lastSlot := tblPut b.core.lastSlot (8 * dst + j) (slotNow b (8 * dst + j)), groupPtr := tblPut b.core.groupPtr ((8 * dst + j) * 4 + g) ((m + 1) % 16) } }) ∨ (slotPull s m (8 * dst + j) = none ∧ classPull s m (8 * dst + j) = some c ∧ u = { s with core := { s.core with classPtr := tblPut s.core.classPtr (8 * dst + j) ((c.cell.tc.toNat + 1) % 8) } })) ∧ v = { u with core := { u.core with middle := u.core.middle.erase c } } ∧ admitCell v (c.cell.port.val / 8) c = some w :=
  ⟨{ pt with core := { pt.core with middle := [{ cell := cel 6, seq := 0, islice := 0 }] } }, { { pt with core := { pt.core with middle := [{ cell := cel 6, seq := 0, islice := 0 }] } } with core := { ({ pt with core := { pt.core with middle := [{ cell := cel 6, seq := 0, islice := 0 }] } }).core with classPtr := [(0, 7)] } }, { { { pt with core := { pt.core with middle := [{ cell := cel 6, seq := 0, islice := 0 }] } } with core := { ({ pt with core := { pt.core with middle := [{ cell := cel 6, seq := 0, islice := 0 }] } }).core with classPtr := [(0, 7)] } } with core := { ({ { pt with core := { pt.core with middle := [{ cell := cel 6, seq := 0, islice := 0 }] } } with core := { ({ pt with core := { pt.core with middle := [{ cell := cel 6, seq := 0, islice := 0 }] } }).core with classPtr := [(0, 7)] } }).core with middle := [] } }, 0, 0, 0, 0, 0, { cell := cel 6, seq := 0, islice := 0 }, (admitCell ({ { { pt with core := { pt.core with middle := [{ cell := cel 6, seq := 0, islice := 0 }] } } with core := { ({ pt with core := { pt.core with middle := [{ cell := cel 6, seq := 0, islice := 0 }] } }).core with classPtr := [(0, 7)] } } with core := { ({ { pt with core := { pt.core with middle := [{ cell := cel 6, seq := 0, islice := 0 }] } } with core := { ({ pt with core := { pt.core with middle := [{ cell := cel 6, seq := 0, islice := 0 }] } }).core with classPtr := [(0, 7)] } }).core with middle := [] } }) 0 { cell := cel 6, seq := 0, islice := 0 }).getD {}, by refine ⟨?_, ?_, ?_, ?_, ?_, ?_⟩ <;> first | decide +kernel | exact Or.inr ⟨by decide +kernel, by decide +kernel, by decide +kernel⟩ | exact someD_get _ (by decide +kernel)⟩

theorem wit_middlePull_2 : ∃ (s : State) (u : State) (v : State) (k : SliceId) (e : SliceId) (m : Nat) (dst : Nat) (j : Nat) (c : CoreCell) (w : State), livePos s k.val = some m ∧ livePos s e.val = some dst ∧ ((List.range 8).map (fun i => (tblGet s.core.portPtr (dst * 16 + m) 0 + i) % 8)).find? (fun j => (portPull s m (8 * dst + j)).isSome) = some j ∧ ((∃ g b, slotPull s m (8 * dst + j) = some (g, c) ∧ b = bump (bump s (coreCnt ((8 * dst + j) / 8) 8)) (portRouteCnt (8 * dst + j) 6) ∧ u = { b with core := { b.core with lastSlot := tblPut b.core.lastSlot (8 * dst + j) (slotNow b (8 * dst + j)), groupPtr := tblPut b.core.groupPtr ((8 * dst + j) * 4 + g) ((m + 1) % 16) } }) ∨ (slotPull s m (8 * dst + j) = none ∧ classPull s m (8 * dst + j) = some c ∧ u = { s with core := { s.core with classPtr := tblPut s.core.classPtr (8 * dst + j) ((c.cell.tc.toNat + 1) % 8) } })) ∧ v = { u with core := { u.core with middle := u.core.middle.erase c } } ∧ admitCell v (c.cell.port.val / 8) c = none ∧ w = countNotice (bump v (coreCnt (c.cell.port.val / 8) 5)) (c.cell.port.val / 8) :=
  ⟨{ pt with core := { pt.core with middle := [{ cell := cel 0, seq := 0, islice := 0 }], rows := [(0, { retired := 1024 })] } }, { { pt with core := { pt.core with middle := [{ cell := cel 0, seq := 0, islice := 0 }], rows := [(0, { retired := 1024 })] } } with core := { ({ pt with core := { pt.core with middle := [{ cell := cel 0, seq := 0, islice := 0 }], rows := [(0, { retired := 1024 })] } }).core with classPtr := [(0, 1)] } }, { { { pt with core := { pt.core with middle := [{ cell := cel 0, seq := 0, islice := 0 }], rows := [(0, { retired := 1024 })] } } with core := { ({ pt with core := { pt.core with middle := [{ cell := cel 0, seq := 0, islice := 0 }], rows := [(0, { retired := 1024 })] } }).core with classPtr := [(0, 1)] } } with core := { ({ { pt with core := { pt.core with middle := [{ cell := cel 0, seq := 0, islice := 0 }], rows := [(0, { retired := 1024 })] } } with core := { ({ pt with core := { pt.core with middle := [{ cell := cel 0, seq := 0, islice := 0 }], rows := [(0, { retired := 1024 })] } }).core with classPtr := [(0, 1)] } }).core with middle := [] } }, 0, 0, 0, 0, 0, { cell := cel 0, seq := 0, islice := 0 }, countNotice (bump ({ { { pt with core := { pt.core with middle := [{ cell := cel 0, seq := 0, islice := 0 }], rows := [(0, { retired := 1024 })] } } with core := { ({ pt with core := { pt.core with middle := [{ cell := cel 0, seq := 0, islice := 0 }], rows := [(0, { retired := 1024 })] } }).core with classPtr := [(0, 1)] } } with core := { ({ { pt with core := { pt.core with middle := [{ cell := cel 0, seq := 0, islice := 0 }], rows := [(0, { retired := 1024 })] } } with core := { ({ pt with core := { pt.core with middle := [{ cell := cel 0, seq := 0, islice := 0 }], rows := [(0, { retired := 1024 })] } }).core with classPtr := [(0, 1)] } }).core with middle := [] } }) (coreCnt 0 5)) 0, by refine ⟨?_, ?_, ?_, ?_, ?_, ?_, ?_⟩ <;> first | decide +kernel | exact Or.inr ⟨by decide +kernel, by decide +kernel, by decide +kernel⟩ | rfl⟩

theorem wit_resequenceCell : ∃ (s : State) (p : PortId) (src : Fin 165) (tc : Tc) (seq : BitVec 16) (c : CoreCell) (r : Reorder), s.core.pulled.find? (fun c => c.cell.port == p && c.cell.src == src && c.cell.tc == tc && c.seq == seq.toNat) = some c ∧ r = tblGet s.core.reorder (streamKey p.val src.val tc.toNat) {} ∧ c.seq = r.expect :=
  ⟨{ pt with core := { pt.core with pulled := [{ cell := cel 6, seq := 0, islice := 0 }] } }, 0, 0, 6, 0, { cell := cel 6, seq := 0, islice := 0 }, {}, by refine ⟨?_, ?_, ?_⟩ <;> decide +kernel⟩

theorem wit_bufferRowFault : ∃ (s : State) (k : SliceId), sliceWorks s k.val = true ∧ (rowsOf s k.val).used < 16 :=
  ⟨{ pt with core := { pt.core with rows := [(0, { used := 15 })] } }, 0, by refine ⟨?_, ?_⟩ <;> decide +kernel⟩

theorem wit_sliceFault_1 : ∃ (s : State) (k : SliceId) (pos : Nat) (sp : Nat) (u : State), sliceWorks s k.val = true ∧ posOf s k.val = some pos ∧ s.core.spare = some sp ∧ sp ≠ k.val ∧ u = errorRecord { s with core := { s.core with failed := s.core.failed ++ [k.val] } } { kind := 2, cls := 2, idx := k.val, cause := 3, spareKind := 2, spareIdx := sp } :=
  ⟨pt, 15, 15, 16, errorRecord { pt with core := { pt.core with failed := [15] } } { kind := 2, cls := 2, idx := 15, cause := 3, spareKind := 2, spareIdx := 16 }, by refine ⟨?_, ?_, ?_, ?_, ?_⟩ <;> decide +kernel⟩

theorem wit_sliceFault_2 : ∃ (s : State) (k : SliceId) (pos : Nat), sliceWorks s k.val = true ∧ posOf s k.val = some pos ∧ s.core.spare = none :=
  ⟨{ pt with core := { pt.core with spare := none } }, 0, 0, by refine ⟨?_, ?_, ?_⟩ <;> decide +kernel⟩

theorem wit_sliceTakeoverDone : ∃ (s : State) (u : State) (pos : Nat), s.core.takeover = some pos ∧ s.core.failed.contains (holderOf s pos) = true ∧ u = setBit (setBit s (sliceBase pos + 0x18) 2) (sliceBase 16 + 0x18) 2 :=
  ⟨{ pt with core := { pt.core with takeover := some 0, failed := [0] } }, setBit (setBit ({ pt with core := { pt.core with takeover := some 0, failed := [0] } }) (sliceBase 0 + 0x18) 2) (sliceBase 16 + 0x18) 2, 0, by refine ⟨?_, ?_, ?_⟩ <;> decide +kernel⟩

theorem wit_wredDepthPublish : ∃ (s : State) (k : SliceId) (pos : Nat), posOf s k.val = some pos ∧ (∀ t, tblFind s.cong.lastPublish pos = some t → t + 64 ≤ s.now) :=
  ⟨pt, 15, 15, by decide +kernel, fun t h => by cases (show (none : Option Nat) = some t from h)⟩

theorem wit_egressSchedule_1 : ∃ (s : State) (u : State) (p : PortId) (e : EPkt), portUp s p.val = true ∧ u = noteStalls s p.val ∧ strictHead u p.val = some e ∧ shapeOk u e = true :=
  ⟨egs 7, noteStalls (egs 7) 2, 2, egp 7, by refine ⟨?_, ?_, ?_, ?_⟩ <;> decide +kernel⟩

theorem wit_egressSchedule_2 : ∃ (s u : State) (p : PortId) (picks : List (Nat × List Cand × Cand × EPkt)) (cs : List Cand) (c : Cand) (tc : Nat) (qs : List Cand) (q : Cand) (e : EPkt), portUp s p.val = true ∧ u = noteStalls s p.val ∧ strictHead u p.val = none ∧ picks = [0, 1, 2, 3, 5, 6].filterMap (fun tc => (chooseQueue u p.val tc).map (fun q => (tc, q))) ∧ cs = picks.map (fun x => candOf u p.val (classKey p.val x.1) (classParams u p.val x.1) x.2.2.2) ∧ chooseCand cs = some c ∧ picks.find? (fun x => classKey p.val x.1 == c.key) = some (tc, qs, q, e) ∧ shapeOk u e = true :=
  ⟨egs 6, noteStalls (egs 6) (2 : PortId).val, 2, egPicks, egCs, egC, egX.1, egX.2.1, egX.2.2.1, egX.2.2.2, by decide +kernel, rfl, by decide +kernel, rfl, rfl, someD_get (⟨0, 0, {}, 0, 0⟩ : Cand) (show (chooseCand egCs).isSome = true by decide +kernel), someD_get (0, [], egC, egp 6) (show (egPicks.find? (fun x => classKey (2 : PortId).val x.1 == egC.key)).isSome = true by decide +kernel), by decide +kernel⟩

theorem wit_flitReceive_1 : ∃ (s : State) (u : State) (p : PortId) (f : Flit), bondOdd s p.val = false ∧ (linkOf s p.val).st = .active ∧ u = countCorr s p.val f.corr ∧ f.ctl = false ∧ f.fseq.toNat = (linkOf u p.val).rxNext ∧ f.check = .good ∧ ((linkOf u p.val).encOn = false ∨ rxOpens u p.val f = true) :=
  ⟨lk { st := .active, rxNext := 5, encOn := false }, countCorr (lk { st := .active, rxNext := 5, encOn := false }) 1 [], 1, { ctl := false, fseq := 5, check := .good, enc := false }, by refine ⟨?_, ?_, ?_, ?_, ?_, ?_, ?_⟩ <;> decide +kernel⟩

theorem wit_flitReceive_2 : ∃ (s : State) (u : State) (p : PortId) (f : Flit), bondOdd s p.val = false ∧ (linkOf s p.val).st = .active ∧ u = countCorr s p.val f.corr ∧ f.ctl = false ∧ f.fseq.toNat = (linkOf u p.val).rxNext ∧ f.check = .good ∧ (linkOf u p.val).encOn = true ∧ rxOpens u p.val f = false :=
  ⟨lk { st := .active, rxNext := 5, encOn := true }, countCorr (lk { st := .active, rxNext := 5, encOn := true }) 1 [], 1, { ctl := false, fseq := 5, check := .good, enc := false }, by refine ⟨?_, ?_, ?_, ?_, ?_, ?_, ?_, ?_⟩ <;> decide +kernel⟩

theorem wit_flitReceive_3 : ∃ (s : State) (u : State) (p : PortId) (f : Flit), bondOdd s p.val = false ∧ (linkOf s p.val).st = .active ∧ u = countCorr s p.val f.corr ∧ f.ctl = false ∧ f.fseq.toNat = (linkOf u p.val).rxNext ∧ f.check = .crc :=
  ⟨lk { st := .active, rxNext := 5, encOn := true }, countCorr (lk { st := .active, rxNext := 5, encOn := true }) 1 [], 1, { ctl := false, fseq := 5, check := .crc, enc := true }, by refine ⟨?_, ?_, ?_, ?_, ?_, ?_⟩ <;> decide +kernel⟩

theorem wit_flitReceive_4 : ∃ (s : State) (u : State) (p : PortId) (f : Flit) (lane : Option (Fin 8)), bondOdd s p.val = false ∧ (linkOf s p.val).st = .active ∧ u = countCorr s p.val f.corr ∧ f.ctl = false ∧ f.fseq.toNat = (linkOf u p.val).rxNext ∧ f.check = .fec lane :=
  ⟨lk { st := .active, rxNext := 5, encOn := false }, countCorr (lk { st := .active, rxNext := 5, encOn := false }) 1 [], 1, { ctl := false, fseq := 5, check := (.fec (some 7)), enc := false }, some 7, by refine ⟨?_, ?_, ?_, ?_, ?_, ?_⟩ <;> decide +kernel⟩

theorem wit_superframeMarker : ∃ (s : State) (p : PortId) (m : Marker17), bondOdd s p.val = false ∧ (linkOf s p.val).st = .lock ∧ m.sync = 0x6C2D ∧ (linkOf s p.val).sfCount = none :=
  ⟨lk { st := .lock }, 1, ⟨0x6C2D, 5, 0⟩, by refine ⟨?_, ?_, ?_, ?_⟩ <;> decide +kernel⟩

theorem wit_idle : ∃ (s : State) (p : PortId), bondOdd s p.val = false ∧ (linkOf s p.val).st = .active :=
  ⟨lk { st := .active }, 1, by refine ⟨?_, ?_⟩ <;> decide +kernel⟩

theorem wit_nak : ∃ (s : State) (p : PortId) (q : BitVec 12) (i : Nat), bondOdd s p.val = false ∧ (linkOf s p.val).st = .active ∧ (linkOf s p.val).replay.findIdx? (fun e => e.1 == q.toNat) = some i :=
  ⟨lk { st := .active, replay := [(7, 0)] }, 1, 7, 0, by refine ⟨?_, ?_, ?_⟩ <;> decide +kernel⟩

theorem wit_credit_1 : ∃ (s : State) (p : PortId) (ch : Fin 9) (v : BitVec 12) (l : Link), bondOdd s p.val = false ∧ linkOf s p.val = l ∧ l.st = .active ∧ tblFind l.lastReport ch.val = none :=
  ⟨lk { st := .active }, 1, 8, 10, { st := .active }, by refine ⟨?_, ?_, ?_, ?_⟩ <;> decide +kernel⟩

theorem wit_credit_2 : ∃ (s : State) (p : PortId) (ch : Fin 9) (v : BitVec 12) (l : Link) (n : Nat) (h : Nat), bondOdd s p.val = false ∧ linkOf s p.val = l ∧ l.st = .active ∧ tblFind l.lastReport ch.val = some n ∧ h = tblGet l.credTx ch.val 0 + (v.toNat + 4096 - n) % 4096 ∧ h ≤ tblGet l.grant ch.val 0 :=
  ⟨lk { st := .active, lastReport := [(0, 4095)], grant := [(0, 10)], credTx := [(0, 9)] }, 1, 0, 0, { st := .active, lastReport := [(0, 4095)], grant := [(0, 10)], credTx := [(0, 9)] }, 4095, 10, by refine ⟨?_, ?_, ?_, ?_, ?_, ?_⟩ <;> decide +kernel⟩

theorem wit_credit_3 : ∃ (s : State) (p : PortId) (ch : Fin 9) (v : BitVec 12) (l : Link) (n : Nat), bondOdd s p.val = false ∧ linkOf s p.val = l ∧ l.st = .active ∧ tblFind l.lastReport ch.val = some n ∧ tblGet l.grant ch.val 0 < tblGet l.credTx ch.val 0 + (v.toNat + 4096 - n) % 4096 :=
  ⟨lk { st := .active, lastReport := [(0, 4095)], grant := [(0, 10)], credTx := [(0, 10)] }, 1, 0, 0, { st := .active, lastReport := [(0, 4095)], grant := [(0, 10)], credTx := [(0, 10)] }, 4095, by refine ⟨?_, ?_, ?_, ?_, ?_⟩ <;> decide +kernel⟩

theorem wit_config_1 : ∃ (s : State) (p : PortId) (c : ConfigMsg) (w : Nat), bondOdd s p.val = false ∧ (linkOf s p.val).st = .config ∧ (if isTrunk s p.val then c.switchId.toNat == fld s (portBase p.val + 0x100) 17 12 && c.switchId != 0xFFF else c.switchId == 0xFFF) = true ∧ agreedWidth s p.val c.widthCap = some w ∧ (((linkCfg s p.val 0 2 == 1) || c.encReq) && !(txKeys s p.val && c.encCap)) = false :=
  ⟨lk { st := .config, eqLanes := [0] }, 1, { widthCap := 15, spareCap := false, encReq := false, encCap := false, switchId := 0, epoch := 1 }, 1, by refine ⟨?_, ?_, ?_, ?_, ?_⟩ <;> decide +kernel⟩

theorem wit_config_2 : ∃ (s : State) (p : PortId) (c : ConfigMsg), bondOdd s p.val = false ∧ (linkOf s p.val).st = .config ∧ (if isTrunk s p.val then c.switchId.toNat == fld s (portBase p.val + 0x100) 17 12 && c.switchId != 0xFFF else c.switchId == 0xFFF) = false :=
  ⟨lk { st := .config, eqLanes := [0] }, 1, { widthCap := 15, spareCap := false, encReq := false, encCap := false, switchId := 0xFFF, epoch := 1 }, by refine ⟨?_, ?_, ?_⟩ <;> decide +kernel⟩

theorem wit_laneReq : ∃ (s : State) (p : PortId) (j : Fin 8), bondOdd s p.val = false ∧ (linkOf s p.val).st = .active ∧ spareServes s p.val j.val = true :=
  ⟨regs (lk { st := .active, width := 8, partner := some tblk }) [(portBase 1 + 8, 2 ^ 32), (portBase 1 + 0x10, 8)], 1, 7, by refine ⟨?_, ?_, ?_⟩ <;> decide +kernel⟩

theorem wit_laneAck : ∃ (s : State) (p : PortId) (j : Fin 8), bondOdd s p.val = false ∧ (linkOf s p.val).st = .active ∧ (linkOf s p.val).spareStage = some .asked ∧ (linkOf s p.val).spareLane = some j.val :=
  ⟨lk { st := .active, spareStage := some .asked, spareLane := some 7 }, 1, 7, by refine ⟨?_, ?_, ?_, ?_⟩ <;> decide +kernel⟩

theorem wit_retrainReq_1 : ∃ (s : State) (p : PortId), bondOdd s p.val = false ∧ (linkOf s p.val).st = .active ∧ flag (linkErr s p.val 3) (portBase p.val + 0x10) 2 = true :=
  ⟨regs (lk { st := .active }) [(portBase 1 + 0x10, 4)], 1, by refine ⟨?_, ?_, ?_⟩ <;> decide +kernel⟩

theorem wit_retrainReq_2 : ∃ (s : State) (p : PortId), bondOdd s p.val = false ∧ (linkOf s p.val).st = .active ∧ flag (linkErr s p.val 3) (portBase p.val + 0x10) 2 = false :=
  ⟨regs (lk { st := .active }) [(portBase 1 + 0x10, 0)], 1, by refine ⟨?_, ?_, ?_⟩ <;> decide +kernel⟩

theorem wit_ts1_1 : ∃ (s : State) (p : PortId) (b : TrainBlock) (l : Link), bondOdd s p.val = false ∧ linkOf s p.val = l ∧ b.crcOk = true ∧ b.lane.val < 8 ∧ allLanes (wantWidth s p.val) (addLane l.eqLanes b.lane.val) = true ∧ l.st = .detect ∧ l.retryAt = 0 :=
  ⟨lk { st := .detect, eqLanes := [0, 1, 2, 3, 4, 5, 6, 7] }, 1, tblk, { st := .detect, eqLanes := [0, 1, 2, 3, 4, 5, 6, 7] }, by refine ⟨?_, ?_, ?_, ?_, ?_, ?_, ?_⟩ <;> decide +kernel⟩

theorem wit_ts1_2 : ∃ (s : State) (p : PortId) (b : TrainBlock) (l : Link), bondOdd s p.val = false ∧ linkOf s p.val = l ∧ b.crcOk = true ∧ b.lane.val < 8 ∧ allLanes (wantWidth s p.val) (addLane l.eqLanes b.lane.val) = true ∧ l.st = .eq ∧ b.eqDone = true :=
  ⟨lk { st := .eq, eqLanes := [0, 1, 2, 3, 4, 5, 6, 7] }, 1, tblk, { st := .eq, eqLanes := [0, 1, 2, 3, 4, 5, 6, 7] }, by refine ⟨?_, ?_, ?_, ?_, ?_, ?_, ?_⟩ <;> decide +kernel⟩

theorem wit_ts2 : ∃ (s : State) (p : PortId) (b : TrainBlock) (l : Link), bondOdd s p.val = false ∧ linkOf s p.val = l ∧ b.crcOk = true ∧ b.lane.val < 8 ∧ l.st = .lock ∧ b.locked = true ∧ l.locked = true ∧ allLanes (wantWidth s p.val) (addLane l.lockLanes b.lane.val) = true :=
  ⟨lk { st := .lock, locked := true, lockLanes := [0, 1, 2, 3, 4, 5, 6, 7] }, 1, tblk, { st := .lock, locked := true, lockLanes := [0, 1, 2, 3, 4, 5, 6, 7] }, by refine ⟨?_, ?_, ?_, ?_, ?_, ?_, ?_, ?_⟩ <;> decide +kernel⟩

theorem wit_trainingTimeout_1 : ∃ (s : State) (p : PortId) (l : Link), bondOdd s p.val = false ∧ linkOf s p.val = l ∧ l.st = .lock ∧ l.since + 1000000 ≤ s.now :=
  ⟨{ lk { st := .lock } with now := 1000000 }, 1, { st := .lock }, by refine ⟨?_, ?_, ?_, ?_⟩ <;> decide +kernel⟩

theorem wit_trainingTimeout_2 : ∃ (s : State) (p : PortId) (l : Link), bondOdd s p.val = false ∧ linkOf s p.val = l ∧ l.st = .config ∧ l.since + 100000 ≤ s.now :=
  ⟨{ lk { st := .config } with now := 100000 }, 1, { st := .config }, by refine ⟨?_, ?_, ?_, ?_⟩ <;> decide +kernel⟩

theorem wit_trainingTimeout_3 : ∃ (s : State) (p : PortId) (l : Link), bondOdd s p.val = false ∧ linkOf s p.val = l ∧ l.st = .retrain ∧ l.since + 50000 ≤ s.now :=
  ⟨{ lk { st := .retrain } with now := 50000 }, 1, { st := .retrain }, by refine ⟨?_, ?_, ?_, ?_⟩ <;> decide +kernel⟩

theorem wit_trainingTimeout_4 : ∃ (s : State) (p : PortId) (l : Link), bondOdd s p.val = false ∧ linkOf s p.val = l ∧ l.st = .eq ∧ l.since + 10000000 ≤ s.now ∧ [4, 2, 1].find? (fun w => w < wantWidth s p.val && allLanes w l.eqLanes) = none :=
  ⟨{ lk { st := .eq } with now := 10000000 }, 1, { st := .eq }, by refine ⟨?_, ?_, ?_, ?_, ?_⟩ <;> decide +kernel⟩

theorem wit_trainingTimeout_5 : ∃ (s : State) (p : PortId) (l : Link) (w : Nat), bondOdd s p.val = false ∧ linkOf s p.val = l ∧ l.st = .eq ∧ l.since + 10000000 ≤ s.now ∧ [4, 2, 1].find? (fun w => w < wantWidth s p.val && allLanes w l.eqLanes) = some w :=
  ⟨{ lk { st := .eq, eqLanes := [0, 1] } with now := 10000000 }, 1, { st := .eq, eqLanes := [0, 1] }, 2, by refine ⟨?_, ?_, ?_, ?_, ?_⟩ <;> decide +kernel⟩

theorem wit_trainRetryTimer : ∃ (s : State) (p : PortId), bondOdd s p.val = false ∧ (linkOf s p.val).st = .detect ∧ (linkOf s p.val).retryAt ≠ 0 ∧ (linkOf s p.val).retryAt ≤ s.now :=
  ⟨{ lk { st := .detect, retryAt := 5 } with now := 5 }, 1, by refine ⟨?_, ?_, ?_, ?_⟩ <;> decide +kernel⟩

theorem wit_replayTimeout : ∃ (s : State) (p : PortId) (e : Nat × Nat) (es : List (Nat × Nat)), bondOdd s p.val = false ∧ (linkOf s p.val).replay = e :: es ∧ (linkOf s p.val).st = .active ∧ e.2 + 100 * linkCfg s p.val 22 10 ≤ s.now :=
  ⟨{ lk { st := .active, replay := [(7, 0)] } with now := 100 * linkCfg (lk { st := .active, replay := [(7, 0)] }) 1 22 10 }, 1, (7, 0), [], by refine ⟨?_, ?_, ?_, ?_⟩ <;> decide +kernel⟩

theorem wit_nakRepeat : ∃ (s : State) (p : PortId), bondOdd s p.val = false ∧ (linkOf s p.val).st = .active ∧ (linkOf s p.val).discarding = true ∧ (linkOf s p.val).nakAt + 500 ≤ s.now :=
  ⟨{ lk { st := .active, discarding := true } with now := 500 }, 1, by refine ⟨?_, ?_, ?_, ?_⟩ <;> decide +kernel⟩

theorem wit_ackTimer : ∃ (s : State) (p : PortId), bondOdd s p.val = false ∧ (linkOf s p.val).st = .active ∧ 0 < (linkOf s p.val).owed ∧ (linkCfg s p.val 48 8 ≤ (linkOf s p.val).owed ∨ (linkOf s p.val).ackAt + 500 ≤ s.now) :=
  ⟨{ lk { st := .active, owed := 1 } with now := 500 }, 1, by refine ⟨?_, ?_, ?_, ?_⟩ <;> decide +kernel⟩

theorem wit_spareRxAdapted : ∃ (s : State) (u : State) (p : PortId) (l : Link) (j : Nat), bondOdd s p.val = false ∧ linkOf s p.val = l ∧ l.spareLane = some j ∧ l.st = .active ∧ l.spareStage = some .copied ∧ s.now ≤ l.spareSince + 50000 ∧ u = sendCtl (setLink s p.val { l with spareStage := none, laneState := l.laneState ||| 2 ^ j }) p.val "Marker" [l.laneState ||| 2 ^ j] :=
  ⟨{ lk { st := .active, spareLane := some 2, spareStage := some .copied } with now := 50000 }, sendCtl (setLink ({ lk { st := .active, spareLane := some 2, spareStage := some .copied } with now := 50000 }) 1 { ({ st := .active, spareLane := some 2, spareStage := some .copied } : Link) with spareStage := none, laneState := 4 }) 1 "Marker" [4], 1, { st := .active, spareLane := some 2, spareStage := some .copied }, 2, by refine ⟨?_, ?_, ?_, ?_, ?_, ?_, ?_⟩ <;> decide +kernel⟩

theorem wit_laneReplaceTimeout : ∃ (s : State) (p : PortId) (l : Link), bondOdd s p.val = false ∧ linkOf s p.val = l ∧ l.spareStage = some .asked ∧ l.spareSince + 3000 ≤ s.now :=
  ⟨{ lk { st := .active, spareStage := some .asked } with now := 3000 }, 1, { st := .active, spareStage := some .asked }, by refine ⟨?_, ?_, ?_, ?_⟩ <;> decide +kernel⟩

theorem wit_laneAdaptationLoss_1 : ∃ (s : State) (p : PortId) (j : Fin 8), (linkOf s p.val).st = .active ∧ j.val < (linkOf s p.val).width ∧ spareFree s p.val = true :=
  ⟨regs (lk { st := .active, width := 8, partner := some tblk }) [(portBase 1 + 8, 2 ^ 32), (portBase 1 + 0x10, 8)], 1, 7, by refine ⟨?_, ?_, ?_⟩ <;> decide +kernel⟩

theorem wit_laneAdaptationLoss_2 : ∃ (s : State) (p : PortId) (j : Fin 8), (linkOf s p.val).st = .active ∧ j.val < (linkOf s p.val).width ∧ spareFree s p.val = false :=
  ⟨lk { st := .active, width := 8 }, 1, 7, by refine ⟨?_, ?_, ?_⟩ <;> decide +kernel⟩

theorem wit_linkEn_1 : ∃ (s : State) (u : State) (v : State) (p : PortId), u = setFld s (portBase p.val + 0x18) 0 1 1 ∧ v = setFld s (portBase p.val + 0x18) 0 1 0 ∧ cxlTrains u p.val = false ∧ (linkOf u p.val).st = .down ∧ canTrain u p.val = true :=
  ⟨lk {}, setFld (lk {}) (portBase 1 + 0x18) 0 1 1, setFld (lk {}) (portBase 1 + 0x18) 0 1 0, 1, by refine ⟨?_, ?_, ?_, ?_, ?_⟩ <;> decide +kernel⟩

theorem wit_linkEn_2 : ∃ (s : State) (u : State) (v : State) (p : PortId), u = setFld s (portBase p.val + 0x18) 0 1 1 ∧ v = setFld s (portBase p.val + 0x18) 0 1 0 ∧ cxlTrains u p.val = true ∧ (tblGet u.link.cxl p.val {}).st = .down :=
  ⟨cxu {}, setFld (cxu {}) (portBase 2 + 0x18) 0 1 1, setFld (cxu {}) (portBase 2 + 0x18) 0 1 0, 2, by refine ⟨?_, ?_, ?_, ?_⟩ <;> decide +kernel⟩

theorem wit_linkEn_3 : ∃ (s : State) (u : State) (v : State) (p : PortId), u = setFld s (portBase p.val + 0x18) 0 1 1 ∧ v = setFld s (portBase p.val + 0x18) 0 1 0 ∧ cxlPort v p.val = false ∧ (linkOf v p.val).st ≠ .down :=
  ⟨lk { st := .active }, setFld (lk { st := .active }) (portBase 1 + 0x18) 0 1 1, setFld (lk { st := .active }) (portBase 1 + 0x18) 0 1 0, 1, by refine ⟨?_, ?_, ?_, ?_⟩ <;> decide +kernel⟩

theorem wit_linkEn_4 : ∃ (s : State) (u : State) (v : State) (p : PortId), u = setFld s (portBase p.val + 0x18) 0 1 1 ∧ v = setFld s (portBase p.val + 0x18) 0 1 0 ∧ cxlPort v p.val = true ∧ isHostPort v p.val = false ∧ (cxlOf v p.val).st ≠ .down :=
  ⟨tra, setFld tra (portBase 3 + 0x18) 0 1 1, setFld tra (portBase 3 + 0x18) 0 1 0, 3, by refine ⟨?_, ?_, ?_, ?_, ?_⟩ <;> decide +kernel⟩

theorem wit_retrain_1 : ∃ (s : State) (u : State) (p : PortId), bondOdd s p.val = false ∧ u = setLink s p.val { linkOf s p.val with authDown := false } ∧ (linkOf s p.val).authDown = false ∧ (linkOf s p.val).st = .active :=
  ⟨lk { st := .active }, setLink (lk { st := .active }) 1 { st := .active }, 1, by refine ⟨?_, ?_, ?_, ?_⟩ <;> decide +kernel⟩

theorem wit_retrain_2 : ∃ (s : State) (u : State) (p : PortId), bondOdd s p.val = false ∧ u = setLink s p.val { linkOf s p.val with authDown := false } ∧ (linkOf s p.val).authDown = true ∧ (linkOf u p.val).st = .down ∧ canTrain u p.val = true :=
  ⟨regs (lk { authDown := true }) [(portBase 1 + 0x18, 1)], setLink (regs (lk { authDown := true }) [(portBase 1 + 0x18, 1)]) 1 {}, 1, by refine ⟨?_, ?_, ?_, ?_, ?_⟩ <;> decide +kernel⟩

theorem wit_fullRetrain : ∃ (s : State) (p : PortId), bondOdd s p.val = false ∧ (linkOf s p.val).authDown = false ∧ (linkOf s p.val).st = .active :=
  ⟨lk { st := .active }, 1, by refine ⟨?_, ?_, ?_⟩ <;> decide +kernel⟩

theorem wit_roll_1 : ∃ (s : State) (p : PortId) (l : Link), bondOdd s p.val = false ∧ linkOf s p.val = l ∧ l.rolling = none :=
  ⟨lk { st := .active }, 1, { st := .active }, by refine ⟨?_, ?_, ?_⟩ <;> decide +kernel⟩

theorem wit_roll_2 : ∃ (s : State) (p : PortId) (l : Link), bondOdd s p.val = false ∧ linkOf s p.val = l ∧ l.rolling ≠ none :=
  ⟨lk { st := .active, rolling := some 3 }, 1, { st := .active, rolling := some 3 }, by refine ⟨?_, ?_, ?_⟩ <;> decide +kernel⟩

theorem wit_portReset_1 : ∃ (s : State) (p : PortId), s.sys.st ≠ .quiesce ∧ s.sys.st ≠ .restart ∧ bondOdd s p.val = false :=
  ⟨lk { st := .active }, 1, by refine ⟨?_, ?_, ?_⟩ <;> decide +kernel⟩

theorem wit_portReset_2 : ∃ (s : State) (p : PortId), s.sys.st ≠ .quiesce ∧ s.sys.st ≠ .restart ∧ bondOdd s p.val = true :=
  ⟨regs pt [(portBase 0, 16 + 32)], 1, by refine ⟨?_, ?_, ?_⟩ <;> decide +kernel⟩

theorem wit_portReset_3 : ∃ (s : State) (p : PortId), (s.sys.st = .quiesce ∨ s.sys.st = .restart) :=
  ⟨{ lk { st := .active } with sys := { pt.sys with st := .restart } }, 1, by decide +kernel⟩

theorem wit_telemetrySample : ∃ (s : State) (u : State) (p : PortId), (∀ t, tblFind s.cong.lastSample p.val = some t → t + 1000 ≤ s.now) ∧ u = (List.range 8).foldl (fun s c => sampleSet s p.val c (queued s p.val c)) { s with cong := { s.cong with lastSample := tblPut s.cong.lastSample p.val s.now } } :=
  ⟨pt, (List.range 8).foldl (fun s c => sampleSet s 0 c (queued s 0 c)) { pt with cong := { pt.cong with lastSample := [(0, 0)] } }, 0, by refine ⟨?_, ?_⟩ <;> decide +kernel⟩

theorem wit_epmsg_1 : ∃ (s : State) (t : State) (p : PortId) (q : PortId) (dst : Endpoint) (tc : Tc) (flow : BitVec 16) (key : Key) (c : Colour) (d : Line), t = creditBack s p.val tc.toNat ∧ t.sys.st = .serving ∧ isHostPort t p.val = true ∧ tc.toNat < 4 ∧ ingressKey t p.val key = false :=
  ⟨pt, creditBack pt 0 3, 0, 1, 100, 3, 5, 9, .green, 0, by refine ⟨?_, ?_, ?_, ?_, ?_⟩ <;> decide +kernel⟩

theorem wit_epmsg_2 : ∃ (s : State) (t : State) (p : PortId) (q : PortId) (dst : Endpoint) (tc : Tc) (flow : BitVec 16) (key : Key) (c : Colour) (d : Line) (v : State) (k : Colour), t = creditBack s p.val tc.toNat ∧ t.sys.st = .serving ∧ isHostPort t p.val = true ∧ tc.toNat < 4 ∧ ingressKey t p.val key = true ∧ epWhere t dst = .here ∧ tetherFor t (portEp t p.val) tc.toNat (switchId t) (some dst) = none ∧ colourOf t p.val key tc.toNat c 80 false = (k, v) ∧ epPort v dst = some q.val ∧ isHostPort v q.val = true ∧ keyMatch v q.val key = true ∧ localFenced v q.val = false ∧ portUp v q.val = true :=
  ⟨{ pt with link := { pt.link with links := [(0, { st := .active })] } }, creditBack ({ pt with link := { pt.link with links := [(0, { st := .active })] } }) 0 3, 0, 0, 100, 3, 5, 1, .green, 0, (colourOf (creditBack ({ pt with link := { pt.link with links := [(0, { st := .active })] } }) 0 3) 0 1 3 .green 80 false).2, (colourOf (creditBack ({ pt with link := { pt.link with links := [(0, { st := .active })] } }) 0 3) 0 1 3 .green 80 false).1, by refine ⟨?_, ?_, ?_, ?_, ?_, ?_, ?_, ?_, ?_, ?_, ?_, ?_, ?_⟩ <;> decide +kernel⟩

theorem wit_epmsg_3 : ∃ (s : State) (t : State) (p : PortId) (q : PortId) (dst : Endpoint) (tc : Tc) (flow : BitVec 16) (key : Key) (c : Colour) (d : Line) (n : Colour) (v : State), t = creditBack s p.val tc.toNat ∧ t.sys.st = .serving ∧ isHostPort t p.val = true ∧ tc.toNat < 4 ∧ ingressKey t p.val key = true ∧ epWhere t dst = .nowhere ∧ colourOf t p.val key tc.toNat c 80 (tetherFor t (portEp t p.val) tc.toNat (switchId t) (some dst)).isSome = (n, v) :=
  ⟨pt, creditBack pt 0 3, 0, 0, 999, 3, 5, 1, .green, 0, (colourOf (creditBack pt 0 3) 0 1 3 .green 80 (tetherFor pt (portEp pt 0) 3 (switchId pt) (some 999)).isSome).1, (colourOf (creditBack pt 0 3) 0 1 3 .green 80 (tetherFor pt (portEp pt 0) 3 (switchId pt) (some 999)).isSome).2, by refine ⟨?_, ?_, ?_, ?_, ?_, ?_, ?_⟩ <;> decide +kernel⟩

theorem wit_cxlLinkTrained_1 : ∃ (s : State) (u : State) (p : PortId) (rate : BitVec 2) (lo : Bool) (w : Fin 4), cxlTrains s p.val = true ∧ ((cxlOf s p.val).st == .linkUp) = false ∧ ((cxlOf s p.val).st == .memReady) = false ∧ rate ≠ 3 ∧ fld s (portBase p.val + 0x900) 18 2 ≤ rate.toNat ∧ w.val ≤ fld s (portBase p.val) 3 2 ∧ u = setCxl s p.val { cxlOf s p.val with st := .linkUp, rate := rate.toNat, width := 2 ^ w.val, lopt := lo && flag s (portBase p.val + 0x900) 17 } ∧ (isHostPort u p.val && !cxlKeyOk u p.val) = false :=
  ⟨regs pt [(portBase 2 + 0x18, 1), (portBase 2 + 0x900, 1)], setCxl (regs pt [(portBase 2 + 0x18, 1), (portBase 2 + 0x900, 1)]) 2 { cxlOf (regs pt [(portBase 2 + 0x18, 1), (portBase 2 + 0x900, 1)]) 2 with st := .linkUp, rate := 2, width := 1, lopt := true && flag (regs pt [(portBase 2 + 0x18, 1), (portBase 2 + 0x900, 1)]) (portBase 2 + 0x900) 17 }, 2, 2, true, 0, by refine ⟨?_, ?_, ?_, ?_, ?_, ?_, ?_, ?_⟩ <;> decide +kernel⟩

theorem wit_cxlLinkTrained_2 : ∃ (s : State) (u : State) (p : PortId) (rate : BitVec 2) (lo : Bool) (w : Fin 4), cxlTrains s p.val = true ∧ ((cxlOf s p.val).st == .linkUp) = false ∧ ((cxlOf s p.val).st == .memReady) = false ∧ rate ≠ 3 ∧ fld s (portBase p.val + 0x900) 18 2 ≤ rate.toNat ∧ w.val ≤ fld s (portBase p.val) 3 2 ∧ u = setCxl s p.val { cxlOf s p.val with st := .linkUp, rate := rate.toNat, width := 2 ^ w.val, lopt := lo && flag s (portBase p.val + 0x900) 17 } ∧ (isHostPort u p.val && !cxlKeyOk u p.val) = true :=
  ⟨regs pt [(portBase 2 + 0x18, 1), (portBase 2 + 0x900, 9)], setCxl (regs pt [(portBase 2 + 0x18, 1), (portBase 2 + 0x900, 9)]) 2 { cxlOf (regs pt [(portBase 2 + 0x18, 1), (portBase 2 + 0x900, 9)]) 2 with st := .linkUp, rate := 2, width := 1, lopt := true && flag (regs pt [(portBase 2 + 0x18, 1), (portBase 2 + 0x900, 9)]) (portBase 2 + 0x900) 17 }, 2, 2, true, 0, by refine ⟨?_, ?_, ?_, ?_, ?_, ?_, ?_, ?_⟩ <;> decide +kernel⟩

theorem wit_cxlLinkTrained_3 : ∃ (s : State) (u : State) (p : PortId) (rate : BitVec 2) (lo : Bool) (w : Fin 4), cxlTrains s p.val = true ∧ ((cxlOf s p.val).st == .linkUp) = false ∧ ((cxlOf s p.val).st == .memReady) = false :=
  ⟨regs pt [(portBase 2 + 0x18, 1)], regs pt [(portBase 2 + 0x18, 1)], 2, 0, false, 0, by refine ⟨?_, ?_, ?_⟩ <;> decide +kernel⟩

theorem wit_cxlLinkDown_1 : ∃ (s : State) (p : PortId), (cxlOf s p.val).st ≠ .down ∧ (cxlOf s p.val).st ≠ .training ∧ cxlPort s p.val = true ∧ isHostPort s p.val = true :=
  ⟨cxu { st := .linkUp }, 2, by refine ⟨?_, ?_, ?_, ?_⟩ <;> decide +kernel⟩

theorem wit_cxlLinkDown_2 : ∃ (s : State) (p : PortId), (cxlOf s p.val).st ≠ .down ∧ (cxlOf s p.val).st ≠ .training ∧ cxlPort s p.val = true ∧ isHostPort s p.val = false ∧ localFenced s p.val = false :=
  ⟨tra, 3, by refine ⟨?_, ?_, ?_, ?_, ?_⟩ <;> decide +kernel⟩

theorem wit_functionLevelReset : ∃ (s : State) (p : PortId), isHostPort s p.val = true ∧ isCxl s p.val = true ∧ portUp s p.val = true :=
  ⟨cxu { st := .linkUp }, 2, by refine ⟨?_, ?_, ?_⟩ <;> decide +kernel⟩

theorem wit_biEnable : ∃ (s : State) (p : PortId) (c : CxlCap), isHostPort s p.val = true ∧ isCxl s p.val = true ∧ portUp s p.val = true :=
  ⟨cxu { st := .linkUp }, 2, ⟨true, true, []⟩, by refine ⟨?_, ?_, ?_⟩ <;> decide +kernel⟩

theorem wit_ideEstablished : ∃ (s : State) (p : PortId), isHostPort s p.val = true ∧ isCxl s p.val = true ∧ portUp s p.val = true :=
  ⟨cxu { st := .linkUp }, 2, by refine ⟨?_, ?_, ?_⟩ <;> decide +kernel⟩

theorem wit_ideFail : ∃ (s : State) (p : PortId), (cxlOf s p.val).ideOn = true :=
  ⟨cxu { st := .linkUp, ideOn := true }, 2, by decide +kernel⟩

theorem wit_trayBringup : ∃ (s : State) (u : State) (p : PortId) (t : TrayInfo), isTray s p.val = true ∧ isCxl s p.val = true ∧ (cxlOf s p.val).st = .linkUp ∧ (trays s).length < 32 ∧ t.type3 = true ∧ t.mediaReady = true ∧ t.capacity ≤ 2 ^ 41 ∧ u = setCxl s p.val { cxlOf s p.val with st := .memReady, memEn := true, trayCap := t.capacity / 65536, lastPoll := s.now } :=
  ⟨setCxl pt 3 { st := .linkUp }, setCxl (setCxl pt 3 { st := .linkUp }) 3 { cxlOf (setCxl pt 3 { st := .linkUp }) 3 with st := .memReady, memEn := true, trayCap := 2 ^ 25, lastPoll := 0 }, 3, ⟨true, true, 2 ^ 41⟩, by refine ⟨?_, ?_, ?_, ?_, ?_, ?_, ?_, ?_⟩ <;> decide +kernel⟩

theorem wit_trayResponse : ∃ (s : State) (u : State) (p : PortId) (off : PoolOff) (r : TrayResp), isTray s p.val = true ∧ (cxlOf s p.val).st = .memReady ∧ onTray s p.val (off.toNat / 64) = true ∧ u = setCxl s p.val { cxlOf s p.val with devLoad := r.devLoad.toNat } ∧ readAwaited u (off.toNat / 64) = true :=
  ⟨tra, setCxl tra 3 { cxlOf tra 3 with devLoad := 3 }, 3, 64, ⟨false, 3⟩, by refine ⟨?_, ?_, ?_, ?_, ?_⟩ <;> decide +kernel⟩

theorem wit_trayResponseTimeout_1 : ∃ (s : State) (p : PortId) (off : PoolOff), isTray s p.val = true ∧ (cxlOf s p.val).st = .memReady ∧ onTray s p.val (off.toNat / 64) = true ∧ readAwaited s (off.toNat / 64) = true ∧ (tblGet s.link.traySent (off.toNat / 64) (0, false)).1 + 1000 * fld s (portBase p.val + 0x900) 32 8 ≤ s.now ∧ (tblGet s.link.traySent (off.toNat / 64) (0, false)).2 = false :=
  ⟨{ tra with now := 100000 }, 3, 64, by refine ⟨?_, ?_, ?_, ?_, ?_, ?_⟩ <;> decide +kernel⟩

theorem wit_trayResponseTimeout_2 : ∃ (s : State) (p : PortId) (off : PoolOff) (u : State), isTray s p.val = true ∧ (cxlOf s p.val).st = .memReady ∧ onTray s p.val (off.toNat / 64) = true ∧ readAwaited s (off.toNat / 64) = true ∧ (tblGet s.link.traySent (off.toNat / 64) (0, false)).1 + 1000 * fld s (portBase p.val + 0x900) 32 8 ≤ s.now ∧ (tblGet s.link.traySent (off.toNat / 64) (0, false)).2 = true ∧ localFenced s p.val = false ∧ u = cxlErr { s with link := { s.link with traySent := tblErase s.link.traySent (off.toNat / 64) } } p.val 4 :=
  ⟨{ tra with now := 100000, link := { tra.link with traySent := [(1, (0, true))] } }, 3, 64, cxlErr { { tra with now := 100000, link := { tra.link with traySent := [(1, (0, true))] } } with link := { ({ tra with now := 100000, link := { tra.link with traySent := [(1, (0, true))] } }).link with traySent := [] } } 3 4, by refine ⟨?_, ?_, ?_, ?_, ?_, ?_, ?_, ?_⟩ <;> decide +kernel⟩

theorem wit_trayEventLogPoll : ∃ (s : State) (p : PortId) (es : List Word), isTray s p.val = true ∧ (cxlOf s p.val).st = .memReady ∧ (cxlOf s p.val).lastPoll + 100000000 ≤ s.now :=
  ⟨{ tra with now := 100000000 }, 3, [0], by refine ⟨?_, ?_, ?_⟩ <;> decide +kernel⟩

theorem wit_portIslandFault : ∃ (s : State) (p : PortId), bondOdd s p.val = false ∧ localFenced s p.val = false :=
  ⟨pt, 127, by refine ⟨?_, ?_⟩ <;> decide +kernel⟩

theorem wit_mgmtIslandFault : ∃ (s : State), s.sys.st ≠ .stopped :=
  ⟨pt, by decide +kernel⟩

theorem wit_getInfo : ∃ (s : State) (i : FwImage), s.settle.mbox = some 1 ∧ i = s.settle.image.getD { version := 0, svn := 0 } :=
  ⟨mb sv 1 [], { version := 0, svn := 0 }, by refine ⟨?_, ?_⟩ <;> decide +kernel⟩

theorem wit_imageLoad_1 : ∃ (s : State) (b : List Byte), s.settle.mbox = some 2 ∧ s.sys.st ≠ .test ∧ imageFails s b 1 (mboxBits s 16 4) = none ∧ s.settle.boot ≠ .running :=
  ⟨{ mb sv 2 [2, 0, 512] with settle := { (mb sv 2 [2, 0, 512]).settle with boot := .loading } }, img1, by refine ⟨?_, ?_, ?_, ?_⟩ <;> decide +kernel⟩

theorem wit_imageLoad_2 : ∃ (s : State) (b : List Byte), s.settle.mbox = some 2 ∧ s.sys.st ≠ .test ∧ imageFails s b 1 (mboxBits s 16 4) = none ∧ s.settle.boot = .running ∧ s.settle.activate = false :=
  ⟨mb sv 2 [2, 0, 512], img1, by refine ⟨?_, ?_, ?_, ?_, ?_⟩ <;> decide +kernel⟩

theorem wit_imageActivate_1 : ∃ (s : State), s.settle.mbox = some 3 ∧ s.settle.staged ≠ none :=
  ⟨{ sv with settle := { sv.settle with mbox := some 3, staged := some ⟨7, 3⟩ } }, by refine ⟨?_, ?_⟩ <;> decide +kernel⟩

theorem wit_imageActivate_2 : ∃ (s : State), s.settle.mbox = some 3 ∧ s.settle.staged = none :=
  ⟨mb sv 3 [], by refine ⟨?_, ?_⟩ <;> decide +kernel⟩

theorem wit_svnCommit_1 : ∃ (s : State), s.settle.mbox = some 4 ∧ fusedSvn s < mboxBits s 8 1 ∧ mboxBits s 8 1 ≤ (s.settle.image.map (·.svn)).getD 0 :=
  ⟨{ mb sv 4 [4, 3] with settle := { (mb sv 4 [4, 3]).settle with image := some ⟨7, 3⟩ } }, by refine ⟨?_, ?_, ?_⟩ <;> decide +kernel⟩

theorem wit_svnCommit_2 : ∃ (s : State), s.settle.mbox = some 4 ∧ mboxBits s 8 1 ≤ fusedSvn s :=
  ⟨{ mb sv 4 [4, 2] with settle := { (mb sv 4 [4, 2]).settle with image := some ⟨7, 3⟩ } }, by refine ⟨?_, ?_⟩ <;> decide +kernel⟩

theorem wit_pmKeySet : ∃ (s : State), s.settle.mbox = some 0x10 ∧ mboxBits s 8 1 ≤ 7 :=
  ⟨mb sv 0x10 [0x10, 7], by refine ⟨?_, ?_⟩ <;> decide +kernel⟩

theorem wit_pmLoad : ∃ (s : State) (b : List Byte) (i : Nat), s.settle.mbox = some 0x11 ∧ pmRefusal s (BitVec.ofNat 16 (mboxBits s 8 2)) (mboxBits s 10 1) = none ∧ imageFails s b 2 (mboxBits s 24 4) = none ∧ moduleOf s (BitVec.ofNat 16 (mboxBits s 8 2)) = none ∧ (List.range 64).find? (fun i => !s.settle.modules.any (fun m => m.slot == i)) = some i :=
  ⟨mb sv 0x11 [0x11, 1 + 16 * 2 ^ 16, 0, 512], img2, 0, by refine ⟨?_, ?_, ?_, ?_, ?_⟩ <;> decide +kernel⟩

theorem wit_pmUnload_1 : ∃ (s : State) (m : PModule), s.settle.mbox = some 0x12 ∧ moduleOf s (BitVec.ofNat 16 (mboxBits s 8 2)) = some m ∧ moduleLive s m.slot = 0 :=
  ⟨{ mb sv 0x12 [0x12, 1] with settle := { (mb sv 0x12 [0x12, 1]).settle with modules := [{ key := 1, slot := 63, mem := 1 }] } }, { key := 1, slot := 63, mem := 1 }, by refine ⟨?_, ?_, ?_⟩ <;> decide +kernel⟩

theorem wit_pmUnload_2 : ∃ (s : State) (m : PModule), s.settle.mbox = some 0x12 ∧ moduleOf s (BitVec.ofNat 16 (mboxBits s 8 2)) = some m ∧ moduleLive s m.slot ≠ 0 :=
  ⟨setHandle ({ mb sv 0x12 [0x12, 1] with settle := { (mb sv 0x12 [0x12, 1]).settle with modules := [{ key := 1, slot := 63, mem := 1 }] } }) 0 { hr 1 0 with viaModule := some 63 }, { key := 1, slot := 63, mem := 1 }, by refine ⟨?_, ?_, ?_⟩ <;> decide +kernel⟩

theorem wit_pmStatus : ∃ (s : State) (m : PModule), s.settle.mbox = some 0x13 ∧ moduleOf s (BitVec.ofNat 16 (mboxBits s 8 2)) = some m :=
  ⟨{ mb sv 0x13 [0x13, 1] with settle := { (mb sv 0x13 [0x13, 1]).settle with modules := [{ key := 1, slot := 63, mem := 1 }] } }, { key := 1, slot := 63, mem := 1 }, by refine ⟨?_, ?_⟩ <;> decide +kernel⟩

theorem wit_pmQuantumTick : ∃ (s : State) (c : Fin 36) (n : Nat) (i : Nat), coreRole s c.val = some (0, n) ∧ dutyOf s n = 2 ∧ s.settle.boot = .running ∧ tblFind s.settle.onCore c.val = none ∧ nextModule s c.val = some i :=
  ⟨{ regs sv [(settleBase, 4)] with settle := { sv.settle with cores := (List.range 32).map (fun p => (p, (0, p))), modules := [{ key := 1, slot := 63, mem := 1 }] } }, 27, 27, 63, by refine ⟨?_, ?_, ?_, ?_, ?_⟩ <;> decide +kernel⟩

theorem wit_pmQueueSubmit : ∃ (s : State) (k : Key) (d : Line) (m : PModule), moduleOf s k = some m ∧ m.running = true ∧ s.sys.st = .serving ∧ s.settle.boot = .running ∧ liveTotal s < 262144 ∧ moduleLive s m.slot < 256 :=
  ⟨{ sv with settle := { sv.settle with modules := [{ key := 1, slot := 63, mem := 1 }] } }, 1, 0, { key := 1, slot := 63, mem := 1 }, by refine ⟨?_, ?_, ?_, ?_, ?_, ?_⟩ <;> decide +kernel⟩

theorem wit_settleCoreFault_1 : ∃ (s : State) (c : Fin 36) (n : Nat), coreRole s c.val = some (0, n) ∧ s.settle.redo.contains c.val = false :=
  ⟨{ sv with settle := { sv.settle with cores := [(35, (0, 4))] } }, 35, 4, by refine ⟨?_, ?_⟩ <;> decide +kernel⟩

theorem wit_settleCoreFault_2 : ∃ (s : State) (c : Fin 36) (n : Nat), coreRole s c.val = some (0, n) ∧ s.settle.redo.contains c.val = true :=
  ⟨{ sv with settle := { sv.settle with cores := [(35, (0, 4))], redo := [35] } }, 35, 4, by refine ⟨?_, ?_⟩ <;> decide +kernel⟩

theorem wit_watchdogReport : ∃ (s : State) (u : State), s.settle.boot = .running ∧ u = s.settle.redo.foldl (fun s p => logEvent s 8 1 p 3 0 0 0 0 0) s :=
  ⟨{ sv with settle := { sv.settle with redo := [3] } }, logEvent ({ sv with settle := { sv.settle with redo := [3] } }) 8 1 3 3 0 0 0 0 0, by refine ⟨?_, ?_⟩ <;> decide +kernel⟩

theorem wit_watchdogExpire : ∃ (s : State), s.settle.boot = .running ∧ s.sys.islands.contains ⟨4, 0⟩ = false ∧ s.settle.lastReport + 1000000 * fld s settleBase 8 10 ≤ s.now :=
  ⟨{ sv with now := 1000000 * fld sv settleBase 8 10 }, by refine ⟨?_, ?_, ?_⟩ <;> decide +kernel⟩

theorem wit_fenceDomain_1 : ∃ (s : State) (u : State) (v : State) (h : Handle) (r : HandleRec) (n : FenceCount), startable s h.toNat 0x53 = some r ∧ domOk s (d32 r.desc 8) = true ∧ domFenced s (d32 r.desc 8) = false ∧ fenceStep (markStarted s h.toNat) (d32 r.desc 8) 0xB true = (u, n) ∧ v = logEvent u 0xF 5 (d32 r.desc 8 % 65536) 0xB r.key h.toNat 0 u.ras.fenceGen n.pages :=
  ⟨lv pt 0x53 [(8, 4, 2 ^ 28 + 5 * 2 ^ 16 + 127)], (fenceStep (markStarted (lv pt 0x53 [(8, 4, 2 ^ 28 + 5 * 2 ^ 16 + 127)]) 0) (2 ^ 28 + 5 * 2 ^ 16 + 127) 0xB true).1, logEvent (fenceStep (markStarted (lv pt 0x53 [(8, 4, 2 ^ 28 + 5 * 2 ^ 16 + 127)]) 0) (2 ^ 28 + 5 * 2 ^ 16 + 127) 0xB true).1 0xF 5 127 0xB 1 0 0 (fenceStep (markStarted (lv pt 0x53 [(8, 4, 2 ^ 28 + 5 * 2 ^ 16 + 127)]) 0) (2 ^ 28 + 5 * 2 ^ 16 + 127) 0xB true).1.ras.fenceGen (fenceStep (markStarted (lv pt 0x53 [(8, 4, 2 ^ 28 + 5 * 2 ^ 16 + 127)]) 0) (2 ^ 28 + 5 * 2 ^ 16 + 127) 0xB true).2.pages, 0, hr 0x53 (ln [(8, 4, 2 ^ 28 + 5 * 2 ^ 16 + 127)]), (fenceStep (markStarted (lv pt 0x53 [(8, 4, 2 ^ 28 + 5 * 2 ^ 16 + 127)]) 0) (2 ^ 28 + 5 * 2 ^ 16 + 127) 0xB true).2, by refine ⟨?_, ?_, ?_, ?_, ?_⟩ <;> first | decide +kernel | rfl⟩

theorem wit_fenceDomain_2 : ∃ (s : State) (u : State) (v : State) (h : Handle) (r : HandleRec) (n : FenceCount), startable s h.toNat 0x53 = some r ∧ domOk s (d32 r.desc 8) = true ∧ domFenced s (d32 r.desc 8) = true :=
  ⟨{ lv pt 0x53 [(8, 4, 2 ^ 28 + 5 * 2 ^ 16 + 127)] with ras := { pt.ras with fences := [2 ^ 28 + 5 * 2 ^ 16 + 127] } }, {}, {}, 0, hr 0x53 (ln [(8, 4, 2 ^ 28 + 5 * 2 ^ 16 + 127)]), (fenceStep (markStarted (lv pt 0x53 [(8, 4, 2 ^ 28 + 5 * 2 ^ 16 + 127)]) 0) (2 ^ 28 + 5 * 2 ^ 16 + 127) 0xB true).2, by refine ⟨?_, ?_, ?_⟩ <;> decide +kernel⟩

theorem wit_unfenceDomain_1 : ∃ (s : State) (u : State) (h : Handle) (r : HandleRec) (v : State), startable s h.toNat 0x54 = some r ∧ domOk s (d32 r.desc 8) = true ∧ s.ras.fences.contains (d32 r.desc 8) = true ∧ inputHolds s (d32 r.desc 8) = false ∧ u = unfenceStep (markStarted s h.toNat) (d32 r.desc 8) true ∧ v = logEvent u 0xF 6 (d32 r.desc 8 % 65536) 0xB r.key h.toNat 0 u.ras.fenceGen 0 :=
  ⟨{ lv pt 0x54 [(8, 4, 2 ^ 28 + 5 * 2 ^ 16 + 127)] with ras := { pt.ras with fences := [2 ^ 28 + 5 * 2 ^ 16 + 127] } }, (unfenceStep (markStarted ({ lv pt 0x54 [(8, 4, 2 ^ 28 + 5 * 2 ^ 16 + 127)] with ras := { pt.ras with fences := [2 ^ 28 + 5 * 2 ^ 16 + 127] } }) 0) (2 ^ 28 + 5 * 2 ^ 16 + 127) true), 0, hr 0x54 (ln [(8, 4, 2 ^ 28 + 5 * 2 ^ 16 + 127)]), logEvent (unfenceStep (markStarted ({ lv pt 0x54 [(8, 4, 2 ^ 28 + 5 * 2 ^ 16 + 127)] with ras := { pt.ras with fences := [2 ^ 28 + 5 * 2 ^ 16 + 127] } }) 0) (2 ^ 28 + 5 * 2 ^ 16 + 127) true) 0xF 6 127 0xB 1 0 0 (unfenceStep (markStarted ({ lv pt 0x54 [(8, 4, 2 ^ 28 + 5 * 2 ^ 16 + 127)] with ras := { pt.ras with fences := [2 ^ 28 + 5 * 2 ^ 16 + 127] } }) 0) (2 ^ 28 + 5 * 2 ^ 16 + 127) true).ras.fenceGen 0, by refine ⟨?_, ?_, ?_, ?_, ?_, ?_⟩ <;> decide +kernel⟩

theorem wit_unfenceDomain_2 : ∃ (s : State) (u : State) (h : Handle) (r : HandleRec), startable s h.toNat 0x54 = some r ∧ domOk s (d32 r.desc 8) = true ∧ s.ras.fences.contains (d32 r.desc 8) = true ∧ inputHolds s (d32 r.desc 8) = true :=
  ⟨{ regs (lv pt 0x54 [(8, 4, 2 ^ 28 + 5 * 2 ^ 16 + 127)]) [(rasBase + 0x100, 2 ^ 28 + 5 * 2 ^ 16 + 127 + 2 ^ 32)] with ras := { pt.ras with fences := [2 ^ 28 + 5 * 2 ^ 16 + 127], inputs := [0] } }, {}, 0, hr 0x54 (ln [(8, 4, 2 ^ 28 + 5 * 2 ^ 16 + 127)]), by refine ⟨?_, ?_, ?_, ?_⟩ <;> decide +kernel⟩

theorem wit_fenceNotice_1 : ∃ (s : State) (u : State) (n : NoticeMsg) (m : Notice), m = ⟨n.domain.toNat, n.unfence, n.origin.toNat, n.gen.toNat⟩ ∧ s.ras.seen.contains m = true :=
  ⟨{ pt with ras := { pt.ras with seen := [⟨2 ^ 28 + 9 * 2 ^ 16 + 3, false, 9, 4⟩] } }, {}, ⟨BitVec.ofNat 32 (2 ^ 28 + 9 * 2 ^ 16 + 3), false, 9, 4⟩, ⟨2 ^ 28 + 9 * 2 ^ 16 + 3, false, 9, 4⟩, by refine ⟨?_, ?_⟩ <;> decide +kernel⟩

theorem wit_fenceNotice_2 : ∃ (s : State) (u : State) (n : NoticeMsg) (m : Notice), m = ⟨n.domain.toNat, n.unfence, n.origin.toNat, n.gen.toNat⟩ ∧ s.ras.seen.contains m = false ∧ n.unfence = false ∧ domKind m.domain ≠ 3 ∧ u = forwardNotice (bump s (rasCnt 8)) m ∧ domOk u m.domain = true ∧ domFenced u m.domain = false :=
  ⟨pt, forwardNotice (bump pt (rasCnt 8)) ⟨2 ^ 28 + 9 * 2 ^ 16 + 3, false, 9, 4⟩, ⟨BitVec.ofNat 32 (2 ^ 28 + 9 * 2 ^ 16 + 3), false, 9, 4⟩, ⟨2 ^ 28 + 9 * 2 ^ 16 + 3, false, 9, 4⟩, by refine ⟨?_, ?_, ?_, ?_, ?_, ?_, ?_⟩ <;> decide +kernel⟩

theorem wit_domAlert_1 : ∃ (s : State) (i : Fin 16), s.ras.inputs.contains i.val = false ∧ s.sys.st = .serving :=
  ⟨pt, 15, by refine ⟨?_, ?_⟩ <;> decide +kernel⟩

theorem wit_domAlert_2 : ∃ (s : State) (i : Fin 16), s.ras.inputs.contains i.val = false ∧ s.sys.st = .restart :=
  ⟨{ pt with sys := { pt.sys with st := .restart } }, 15, by refine ⟨?_, ?_⟩ <;> decide +kernel⟩

theorem wit_portDownFenceTimeout : ∃ (s : State) (p : PortId) (t : Nat), isTrunk s p.val = true ∧ localFenced s p.val = false ∧ portUp s p.val = false ∧ (linkOf s p.val).downSince = some t ∧ t + 1000000 * fld s (portBase p.val + 0x100) 32 16 ≤ s.now :=
  ⟨{ lk { downSince := some 0 } with now := 1000000 * fld pt (portBase 1 + 0x100) 32 16 }, 1, 0, by refine ⟨?_, ?_, ?_, ?_, ?_⟩ <;> decide +kernel⟩

theorem wit_winchEngineFault_1 : ∃ (s : State) (e : Fin 16), s.tier.deadEngines.contains e.val = false ∧ s.tier.engRedo.contains e.val = false :=
  ⟨sv, 15, by refine ⟨?_, ?_⟩ <;> decide +kernel⟩

theorem wit_winchEngineFault_2 : ∃ (s : State) (e : Fin 16), s.tier.deadEngines.contains e.val = false ∧ s.tier.engRedo.contains e.val = true ∧ s.tier.sparedEngines.length < 4 :=
  ⟨{ sv with tier := { sv.tier with engRedo := [15], sparedEngines := [1, 2, 3] } }, 15, by refine ⟨?_, ?_, ?_⟩ <;> decide +kernel⟩

theorem wit_compressionEngineFault_1 : ∃ (s : State) (i : StackId), s.tier.deadCompr.contains i.val = false ∧ s.tier.comprRedo.contains i.val = false :=
  ⟨sv, 11, by refine ⟨?_, ?_⟩ <;> decide +kernel⟩

theorem wit_compressionEngineFault_2 : ∃ (s : State) (i : StackId), s.tier.deadCompr.contains i.val = false ∧ s.tier.comprRedo.contains i.val = true :=
  ⟨{ sv with tier := { sv.tier with comprRedo := [11] } }, 11, by refine ⟨?_, ?_⟩ <;> decide +kernel⟩

theorem wit_spareQuery_1 : ∃ (s : State) (h : Handle) (r : HandleRec) (m : Nat), startable s h.toNat 0x60 = some r ∧ d8 r.desc 8 = 1 ∧ d8 r.desc 9 ≤ 11 ∧ ((stackOf s (d8 r.desc 9)).mode = .online ∧ m = 0 ∨ (stackOf s (d8 r.desc 9)).mode = .evacuating ∧ m = 1 ∨ (stackOf s (d8 r.desc 9)).mode = .offline ∧ m = 2) :=
  ⟨setStack (lv sv 0x60 [(8, 1, 1), (9, 1, 11)]) 11 { mode := .offline }, 0, hr 0x60 (ln [(8, 1, 1), (9, 1, 11)]), 2, by refine ⟨?_, ?_, ?_, ?_⟩ <;> decide +kernel⟩

theorem wit_spareQuery_2 : ∃ (s : State) (h : Handle) (r : HandleRec) (m : Nat), startable s h.toNat 0x60 = some r ∧ d8 r.desc 8 = 0 :=
  ⟨lv sv 0x60 [], 0, hr 0x60 (ln []), 0, by refine ⟨?_, ?_⟩ <;> decide +kernel⟩

theorem wit_spareQuery_3 : ∃ (s : State) (h : Handle) (r : HandleRec) (m : Nat), startable s h.toNat 0x60 = some r ∧ 1 < d8 r.desc 8 :=
  ⟨lv sv 0x60 [(8, 1, 2)], 0, hr 0x60 (ln [(8, 1, 2)]), 0, by refine ⟨?_, ?_⟩ <;> decide +kernel⟩

theorem wit_porstN_1 : ∃ (s : State), s.pwr.tripped = false :=
  ⟨sv, by decide +kernel⟩

theorem wit_porstN_2 : ∃ (s : State), s.sys.porst = true ∧ s.pwr.tripped = false :=
  ⟨{}, by refine ⟨?_, ?_⟩ <;> decide +kernel⟩

theorem wit_cold : ∃ (s : State), s.sys.porst = false ∧ s.pwr.tripped = false :=
  ⟨sv, by refine ⟨?_, ?_⟩ <;> decide +kernel⟩

theorem wit_warm : ∃ (s : State) (u : State), s.sys.st = .serving ∧ u = (List.range 128).foldl dropIsland s :=
  ⟨sv, (List.range 128).foldl dropIsland sv, by refine ⟨?_, ?_⟩ <;> decide +kernel⟩

theorem wit_quiesceEnd_1 : ∃ (s : State), s.sys.st = .quiesce ∧ s.sys.quiesced = false ∧ quiet s = true :=
  ⟨{ sv with sys := { sv.sys with st := .quiesce, quiesceAt := 5 } }, by refine ⟨?_, ?_, ?_⟩ <;> decide +kernel⟩

theorem wit_quiesceEnd_2 : ∃ (s : State), s.sys.st = .quiesce ∧ s.sys.quiesced = false ∧ quiet s = false ∧ s.now < s.sys.quiesceAt + 30000 :=
  ⟨{ { ({ sv with sys := { sv.sys with st := .quiesce, quiesceAt := 5 } } : State) with coh := { sv.coh with inbox := [rq .rdNC 64] } } with now := 30004 }, by refine ⟨?_, ?_, ?_, ?_⟩ <;> decide +kernel⟩

theorem wit_quiesceEnd_3 : ∃ (s : State), s.sys.st = .quiesce ∧ s.sys.quiesced = false ∧ quiet s = false ∧ s.sys.quiesceAt + 30000 ≤ s.now :=
  ⟨{ { ({ sv with sys := { sv.sys with st := .quiesce, quiesceAt := 5 } } : State) with coh := { sv.coh with inbox := [rq .rdNC 64] } } with now := 30005 }, by refine ⟨?_, ?_, ?_, ?_⟩ <;> decide +kernel⟩

theorem wit_warmRestart : ∃ (s : State) (u : State), s.sys.st = .quiesce ∧ s.sys.quiesced = true ∧ s.sys.warmHeld = false ∧ u = setFld (setFld (emptyCore (clearRingRegs s)) (telemetryBase + 0xF0000) 2 1 0) (telemetryBase + 0xF0000) 4 1 0 :=
  ⟨{ sv with sys := { sv.sys with st := .quiesce, quiesced := true } }, setFld (setFld (emptyCore (clearRingRegs ({ sv with sys := { sv.sys with st := .quiesce, quiesced := true } }))) (telemetryBase + 0xF0000) 2 1 0) (telemetryBase + 0xF0000) 4 1 0, by refine ⟨?_, ?_, ?_, ?_⟩ <;> decide +kernel⟩

theorem wit_deviceOpen : ∃ (s : State) (t : Nat), s.sys.st = .restart ∧ s.sys.openAt = some t ∧ s.settle.boot = .running ∧ lateComers s = [] ∧ s.pool.open_.any (fun c => c.whole && !recallDone s c.tag) = false :=
  ⟨{ sv with sys := { sv.sys with st := .restart, openAt := some 5 } }, 5, by refine ⟨?_, ?_, ?_, ?_, ?_⟩ <;> decide +kernel⟩

theorem wit_tenant_1 : ∃ (s : State) (k : Key), s.sys.st = .serving :=
  ⟨sv, 1, by decide +kernel⟩

theorem wit_tenant_2 : ∃ (s : State) (k : Key), s.sys.st = .restart :=
  ⟨{ sv with sys := { sv.sys with st := .restart } }, 1, by decide +kernel⟩

theorem wit_island_1 : ∃ (s : State) (k : BitVec 4) (i : BitVec 8), s.sys.st = .serving :=
  ⟨sv, 15, 255, by decide +kernel⟩

theorem wit_island_2 : ∃ (s : State) (k : BitVec 4) (i : BitVec 8), s.sys.st = .restart :=
  ⟨{ sv with sys := { sv.sys with st := .restart } }, 15, 255, by decide +kernel⟩

theorem wit_islandResetDone_1 : ∃ (s : State) (j : IslandJob) (rest : List IslandJob), s.sys.islands = j :: rest ∧ j.kind ≠ 4 :=
  ⟨{ sv with sys := { sv.sys with islands := [⟨1, 0⟩] } }, ⟨1, 0⟩, [], by refine ⟨?_, ?_⟩ <;> decide +kernel⟩

theorem wit_islandResetDone_2 : ∃ (s : State) (j : IslandJob) (rest : List IslandJob) (i : FwImage), s.sys.islands = j :: rest ∧ j.kind = 4 ∧ s.settle.boot = .checking ∧ s.settle.image = some i ∧ fusedSvn s ≤ i.svn :=
  ⟨{ ({ sv with sys := { sv.sys with islands := [⟨4, 0⟩] } } : State) with settle := { sv.settle with boot := .checking, image := some ⟨7, 3⟩, svn := some 3 } }, ⟨4, 0⟩, [], ⟨7, 3⟩, by refine ⟨?_, ?_, ?_, ?_, ?_⟩ <;> decide +kernel⟩

theorem wit_startupTestDone_1 : ∃ (s : State) (u : State) (v : State) (w : State) (t : TestResult), s.sys.st = .test ∧ s.sys.porst = false ∧ testSlices s t = none :=
  ⟨{ sv with sys := { sv.sys with st := .test } }, {}, {}, {}, { slices := [0, 1] }, by refine ⟨?_, ?_, ?_⟩ <;> decide +kernel⟩

theorem wit_startupTestDone_2 : ∃ (s : State) (u : State) (v : State) (w : State) (t : TestResult), s.sys.st = .test ∧ s.sys.porst = false ∧ testSlices s t = some u ∧ testStacks u t = none :=
  ⟨{ sv with sys := { sv.sys with st := .test } }, ((testSlices ({ sv with sys := { sv.sys with st := .test } }) { stackRecs := [0, 1, 2, 3, 4, 5, 6, 7, 8, 9, 10, 11] }).getD {}), {}, {}, { stackRecs := [0, 1, 2, 3, 4, 5, 6, 7, 8, 9, 10, 11] }, by refine ⟨?_, ?_, ?_, ?_⟩ <;> decide +kernel⟩

theorem wit_startupTestDone_3 : ∃ (s : State) (u : State) (v : State) (w : State) (t : TestResult), s.sys.st = .test ∧ s.sys.porst = false ∧ testSlices s t = some u ∧ testStacks u t = some v ∧ w = testWinch { v with trs := { v.trs with phys := testTrestle t }, settle := { v.settle with cores := testCores t } } t ∧ 8 ≤ (w.trs.phys.filter (fun e => e.2.1 == 0)).length ∧ 12 ≤ (activeCores w).length ∧ w.tier.deadEngines.length ≤ 8 :=
  ⟨{ sv with sys := { sv.sys with st := .test } }, ((testSlices ({ sv with sys := { sv.sys with st := .test } }) { slices := [3], units := [0], cores := [1], winch := [2] }).getD {}), ((testStacks ((testSlices ({ sv with sys := { sv.sys with st := .test } }) { slices := [3], units := [0], cores := [1], winch := [2] }).getD {}) { slices := [3], units := [0], cores := [1], winch := [2] }).getD {}), (testWinch { ((testStacks ((testSlices ({ sv with sys := { sv.sys with st := .test } }) { slices := [3], units := [0], cores := [1], winch := [2] }).getD {}) { slices := [3], units := [0], cores := [1], winch := [2] }).getD {}) with trs := { (((testStacks ((testSlices ({ sv with sys := { sv.sys with st := .test } }) { slices := [3], units := [0], cores := [1], winch := [2] }).getD {}) { slices := [3], units := [0], cores := [1], winch := [2] }).getD {})).trs with phys := testTrestle { slices := [3], units := [0], cores := [1], winch := [2] } }, settle := { (((testStacks ((testSlices ({ sv with sys := { sv.sys with st := .test } }) { slices := [3], units := [0], cores := [1], winch := [2] }).getD {}) { slices := [3], units := [0], cores := [1], winch := [2] }).getD {})).settle with cores := testCores { slices := [3], units := [0], cores := [1], winch := [2] } } } { slices := [3], units := [0], cores := [1], winch := [2] }), { slices := [3], units := [0], cores := [1], winch := [2] }, by refine ⟨?_, ?_, ?_, ?_, ?_, ?_, ?_, ?_⟩ <;> decide +kernel⟩

theorem wit_perstN_2 : ∃ (s : State), s.pwr.perst = true :=
  ⟨{ sv with pwr := { sv.pwr with perst := true } }, by decide +kernel⟩

theorem wit_perstN_3 : ∃ (s : State), s.pwr.perst = false :=
  ⟨sv, by decide +kernel⟩

theorem wit_refclkLost_1 : ∃ (s : State) (u : State) (q : Fin 4), s.sys.refOk.getLsbD q.val = true ∧ u = (quadPorts { s with sys := { s.sys with refOk := s.sys.refOk &&& ~~~((1 : BitVec 4) <<< q.val) } } q.val).foldl portLosesRef { s with sys := { s.sys with refOk := s.sys.refOk &&& ~~~((1 : BitVec 4) <<< q.val) } } ∧ s.sys.refOk &&& ~~~((1 : BitVec 4) <<< q.val) = 0 :=
  ⟨{ sv with sys := { sv.sys with refOk := 8 } }, (quadPorts { ({ sv with sys := { sv.sys with refOk := 8 } } : State) with sys := { (({ sv with sys := { sv.sys with refOk := 8 } } : State)).sys with refOk := (({ sv with sys := { sv.sys with refOk := 8 } } : State)).sys.refOk &&& ~~~((1 : BitVec 4) <<< 3) } } 3).foldl portLosesRef { ({ sv with sys := { sv.sys with refOk := 8 } } : State) with sys := { (({ sv with sys := { sv.sys with refOk := 8 } } : State)).sys with refOk := (({ sv with sys := { sv.sys with refOk := 8 } } : State)).sys.refOk &&& ~~~((1 : BitVec 4) <<< 3) } }, 3, by refine ⟨?_, ?_, ?_⟩ <;> decide +kernel⟩

theorem wit_refclkLost_2 : ∃ (s : State) (u : State) (q : Fin 4) (n : Nat), s.sys.refOk.getLsbD q.val = true ∧ u = (quadPorts { s with sys := { s.sys with refOk := s.sys.refOk &&& ~~~((1 : BitVec 4) <<< q.val) } } q.val).foldl portLosesRef { s with sys := { s.sys with refOk := s.sys.refOk &&& ~~~((1 : BitVec 4) <<< q.val) } } ∧ s.sys.refOk &&& ~~~((1 : BitVec 4) <<< q.val) ≠ 0 ∧ u.sys.coreRef = q.val ∧ nextRef (s.sys.refOk &&& ~~~((1 : BitVec 4) <<< q.val)) q.val = some n :=
  ⟨sv, (quadPorts { sv with sys := { (sv).sys with refOk := (sv).sys.refOk &&& ~~~((1 : BitVec 4) <<< 0) } } 0).foldl portLosesRef { sv with sys := { (sv).sys with refOk := (sv).sys.refOk &&& ~~~((1 : BitVec 4) <<< 0) } }, 0, 1, by refine ⟨?_, ?_, ?_, ?_, ?_⟩ <;> decide +kernel⟩

theorem wit_refclkRestored : ∃ (s : State) (u : State) (q : Fin 4), s.sys.refOk.getLsbD q.val = false ∧ s.sys.refOk ≠ 0 ∧ u = { s with sys := { s.sys with refOk := s.sys.refOk ||| (1 : BitVec 4) <<< q.val } } :=
  ⟨{ sv with sys := { sv.sys with refOk := 8 } }, { ({ sv with sys := { sv.sys with refOk := 8 } } : State) with sys := { (({ sv with sys := { sv.sys with refOk := 8 } } : State)).sys with refOk := 12 } }, 2, by refine ⟨?_, ?_, ?_⟩ <;> decide +kernel⟩

theorem wit_timeDistribute_1 : ∃ (s : State) (e : BitVec 32), s.sys.slew = 0 ∧ s.sys.ppsOutUntil = 0 :=
  ⟨sv, 0xFFFFFFFF, by refine ⟨?_, ?_⟩ <;> decide +kernel⟩

theorem wit_timeDistribute_2 : ∃ (s : State) (e : BitVec 32), s.sys.slew = 0 ∧ s.sys.ppsOutUntil ≠ 0 ∧ s.sys.ppsOutUntil ≤ s.now + e.toNat :=
  ⟨{ sv with sys := { sv.sys with ppsOutUntil := 9 } }, 9, by refine ⟨?_, ?_, ?_⟩ <;> decide +kernel⟩

theorem wit_ppsInEdge_1 : ∃ (s : State), timeSrc s < 2 :=
  ⟨regs sv [(0x40100, 1 + 5 * 2 ^ 16)], by decide +kernel⟩

theorem wit_ppsInEdge_2 : ∃ (s : State), 2 ≤ timeSrc s :=
  ⟨regs sv [(0x40100, 2 + 5 * 2 ^ 16)], by decide +kernel⟩

theorem wit_ptpMessage_1 : ∃ (s : State) (d : BitVec 8) (udp : Bool) (tagged : Bool) (secs : Word) (off : Int), ethOn s = true ∧ ethTagOk s tagged = false :=
  ⟨rawRegs sv [(mgmtBase + 0x200, 2 ^ 61 + 2 ^ 60), (mgmtBase + 0x208, 77)], 0, false, false, 0, 0, by refine ⟨?_, ?_⟩ <;> decide +kernel⟩

theorem wit_ptpMessage_2 : ∃ (s : State) (d : BitVec 8) (udp : Bool) (tagged : Bool) (secs : Word) (off : Int) (u : State), ethOn s = true ∧ ethTagOk s tagged = true ∧ (udp && ethIp s == 0) = false ∧ u = bump (bump s (ethCnt 0)) (ethCnt 2) ∧ d.toNat ≠ fld u 0x40100 8 8 :=
  ⟨rawRegs sv [(mgmtBase + 0x200, 2 ^ 61 + 2 ^ 60), (mgmtBase + 0x208, 77)], 255, true, true, 0, 0, bump (bump (rawRegs sv [(mgmtBase + 0x200, 2 ^ 61 + 2 ^ 60), (mgmtBase + 0x208, 77)]) (ethCnt 0)) (ethCnt 2), by refine ⟨?_, ?_, ?_, ?_, ?_⟩ <;> decide +kernel⟩

theorem wit_ptpMessage_3 : ∃ (s : State) (d : BitVec 8) (udp : Bool) (tagged : Bool) (secs : Word) (off : Int) (u : State), ethOn s = true ∧ ethTagOk s tagged = true ∧ (udp && ethIp s == 0) = false ∧ u = bump (bump s (ethCnt 0)) (ethCnt 2) ∧ d.toNat = fld u 0x40100 8 8 ∧ timeSrc { u with sys := { u.sys with lastPtp := some u.now } } = 0 :=
  ⟨rawRegs sv [(mgmtBase + 0x200, 2 ^ 61 + 2 ^ 60), (mgmtBase + 0x208, 77)], 0, true, true, 0, 0, bump (bump (rawRegs sv [(mgmtBase + 0x200, 2 ^ 61 + 2 ^ 60), (mgmtBase + 0x208, 77)]) (ethCnt 0)) (ethCnt 2), by refine ⟨?_, ?_, ?_, ?_, ?_, ?_⟩ <;> decide +kernel⟩

theorem wit_globalTimeSet_1 : ∃ (s : State) (secs : Word), timeSrc s = 0 ∧ s.now ≤ secs.toNat * 1000000000 :=
  ⟨sv, 0, by refine ⟨?_, ?_⟩ <;> decide +kernel⟩

theorem wit_globalTimeSet_2 : ∃ (s : State) (secs : Word), timeSrc s = 2 ∧ s.now ≤ secs.toNat * 1000000000 :=
  ⟨regs sv [(0x40100, 2 + 5 * 2 ^ 16)], 9, by refine ⟨?_, ?_⟩ <;> decide +kernel⟩

theorem wit_globalTimeSet_3 : ∃ (s : State) (secs : Word), timeSrc s = 0 ∧ secs.toNat * 1000000000 < s.now :=
  ⟨{ sv with now := 1 }, 0, by refine ⟨?_, ?_⟩ <;> decide +kernel⟩

theorem wit_ppsOutSecond : ∃ (s : State), flag s 0x40100 2 = true ∧ s.sys.lastPpsOut = none :=
  ⟨regs sv [(0x40100, 4)], by refine ⟨?_, ?_⟩ <;> decide +kernel⟩

theorem wit_railExcursion : ∃ (s : State) (r : Fin 9), s.sys.porst = false ∧ s.pwr.rails.getLsbD r.val = true :=
  ⟨sv, 8, by refine ⟨?_, ?_⟩ <;> decide +kernel⟩

theorem wit_railExcursionLimit : ∃ (s : State) (r : Fin 9), s.pwr.rails.getLsbD r.val = false ∧ s.sys.porst = false ∧ s.sys.st ≠ .stopped :=
  ⟨{ sv with pwr := { sv.pwr with rails := 0 } }, 8, by refine ⟨?_, ?_, ?_⟩ <;> decide +kernel⟩

theorem wit_swThermalAlert_1 : ∃ (s : State) (i : Fin 64) (t : BitVec 8), fld s (mgmtBase + 0x100) 0 8 ≤ t.toNat ∧ tblHas s.pwr.hot i.val = false :=
  ⟨sv, 63, 255, by refine ⟨?_, ?_⟩ <;> decide +kernel⟩

theorem wit_swThermalAlert_2 : ∃ (s : State) (i : Fin 64) (t : BitVec 8), t.toNat < fld s (mgmtBase + 0x100) 0 8 :=
  ⟨sv, 63, 0, by decide +kernel⟩

theorem wit_thermtrip : ∃ (s : State), s.pwr.tripped = false :=
  ⟨sv, by decide +kernel⟩

theorem wit_avsPoll : ∃ (s u : State) (ma : List Nat) (n : Nat), (∀ t, s.pwr.lastAvs = some t → t + 1000000 ≤ s.now) ∧
    n = s.pwr.energy + (railMv s 0 * ma.getD 0 0 + (railMv s 1 * ma.getD 1 0 + railMv s 2 * ma.getD 2 0)) ∧ u = bumpBy s (pwrCnt 2) (3 - Nat.min 3 ma.length) :=
  ⟨sv, bumpBy sv (pwrCnt 2) 2, [100], _, (fun t h => by cases (show (none : Option Nat) = some t from h)), rfl, rfl⟩

theorem wit_avsTargetStep : ∃ (s : State) (r : Fin 3) (mv : BitVec 16), flag s (mgmtBase + 0x120) 0 = true ∧ avsLow r.val ≤ mv.toNat ∧ mv.toNat ≤ avsLow r.val + 60 ∧ mv.toNat ≤ railMv s r.val + 10 ∧ railMv s r.val ≤ mv.toNat + 10 ∧ (∀ t, tblFind s.pwr.stepped r.val = some t → t + 100000 ≤ s.now) :=
  ⟨regs sv [(mgmtBase + 0x120, 1)], 0, 760, by refine ⟨?_, ?_, ?_, ?_, ?_, ?_⟩ <;> decide +kernel⟩

theorem wit_deviceSnapshot : ∃ (s u v : State), u = { regSet s (telemetryBase + 0xF0008) (BitVec.ofNat 64 s.now) with mgmt := { s.mgmt with shadow := liveCounters s } } ∧
    v = setBit (setBit ((List.range 128).foldl snapPort u) (telemetryBase + 0xF0000) 3) (telemetryBase + 0xF0000) 4 := ⟨sv, _, _, rfl, rfl⟩

theorem wit_arpRequest_1 : ∃ (s : State) (f : EthFrame), ethOn s = true ∧ f.fcsOk = false :=
  ⟨rawRegs sv [(mgmtBase + 0x200, 2 ^ 61 + 2 ^ 60), (mgmtBase + 0x208, 77)], { arp := none, fcsOk := false }, by refine ⟨?_, ?_⟩ <;> decide +kernel⟩

theorem wit_arpRequest_2 : ∃ (s : State) (f : EthFrame) (a : BitVec 32), ethOn s = true ∧ f.fcsOk = true ∧ ethTagOk s f.tagged = true ∧ f.arp = some a ∧ a.toNat = ethIp s ∧ a ≠ 0 :=
  ⟨rawRegs sv [(mgmtBase + 0x200, 2 ^ 61 + 2 ^ 60), (mgmtBase + 0x208, 77)], { arp := some 77, tagged := true }, 77, by refine ⟨?_, ?_, ?_, ?_, ?_, ?_⟩ <;> decide +kernel⟩

theorem wit_arpRequest_3 : ∃ (s : State) (f : EthFrame), ethOn s = true ∧ f.fcsOk = true ∧ f.arp = none :=
  ⟨rawRegs sv [(mgmtBase + 0x200, 2 ^ 61 + 2 ^ 60), (mgmtBase + 0x208, 77)], { arp := none }, by refine ⟨?_, ?_, ?_⟩ <;> decide +kernel⟩

theorem wit_phyPoll : ∃ (s : State) (up : Bool) (sync : Bool), (∀ t, s.mgmt.lastPhyPoll = some t → t + 10000000 ≤ s.now) :=
  ⟨sv, true, true, by decide +kernel⟩

theorem wit_warmRstN_2 : ∃ (s : State) (u : State), s.sys.st = .serving ∧ u = (List.range 128).foldl dropIsland { s with sys := { s.sys with warmHeld := true } } :=
  ⟨sv, (List.range 128).foldl dropIsland { sv with sys := { sv.sys with warmHeld := true } }, by refine ⟨?_, ?_⟩ <;> decide +kernel⟩

theorem wit_vddAonLoss : ∃ (s : State), s.pwr.tripped = false :=
  ⟨sv, by decide +kernel⟩

theorem wit_swAlertClear_1 : ∃ (s : State) (u : State), u = { s with pwr := { s.pwr with hot := [] } } ∧ s.pwr.tripped = false :=
  ⟨sv, sv, by refine ⟨?_, ?_⟩ <;> decide +kernel⟩

theorem wit_swAlertClear_2 : ∃ (s : State) (u : State), u = { s with pwr := { s.pwr with hot := [] } } ∧ s.pwr.tripped = true ∧ s.sys.porst = true ∧ stillHot u = false ∧ s.pwr.porHigh = false :=
  ⟨{ pwr := { tripped := true, hot := [(3, 100)] } }, { ({ pwr := { tripped := true, hot := [(3, 100)] } } : State) with pwr := { ({ pwr := { tripped := true, hot := [(3, 100)] } } : State).pwr with hot := [] } }, by refine ⟨?_, ?_, ?_, ?_, ?_⟩ <;> decide +kernel⟩


end Sys2Proof.Tests
end

/-! The register commands of BAR0 (23): what each answers where it takes effect, and that every row of them does (O17). -/

namespace Sys2Proof.Machine

/-! ## The meaning of each register command -/

theorem exec_registerWrite (off : BitVec 32) (bytes : Nat) (data : Word) (s : State) :
    exec (.registerWrite off bytes data) s = execRegisterWrite off bytes data s := rfl

theorem exec_lowWordRead (q : BitVec 16) (off : BitVec 32) (s : State) :
    exec (.lowWordRead q off) s = execLowWordRead q off s := rfl

theorem exec_setupOpenClose (off : BitVec 32) (data : Word) (s : State) :
    exec (.setupOpenClose off data) s = execSetupOpenClose off data s := rfl

theorem exec_serve (s : State) : exec .serve s = execServe s := rfl

theorem exec_tenantCtlWrite (t : Fin 4096) (data : Word) (s : State) :
    exec (.tenantCtlWrite t data) s = execTenantCtlWrite t data s := rfl

theorem exec_portKeyWrite (p : PortId) (e : Fin 64) (data : Word) (s : State) :
    exec (.portKeyWrite p e data) s = execPortKeyWrite p e data s := rfl

theorem exec_policerWrite (p : PortId) (i : Fin 64) (w0 w1 : Word) (s : State) :
    exec (.policerWrite p i w0 w1) s = execPolicerWrite p i w0 w1 s := rfl

theorem exec_wredProfileWrite (map : Option PortId) (i : Fin 16) (data : Word) (s : State) :
    exec (.wredProfileWrite map i data) s = execWredProfileWrite map i data s := rfl

/-! ## Accesses, fields and entries -/

/-- An access of 8 B on an 8 B boundary is naturally aligned (R543). -/
theorem alignedAccess_eight {a : Nat} (h : a % 8 = 0) : alignedAccess a 8 = true := by
  simp [alignedAccess, h]

/-- Only a write of the mailbox's own register can set its GO (R469). -/
theorem goWritten_of_ne {a : Nat} (w : WData) (h : a ≠ settleBase + 0x400) : goWritten a w = false := by
  simp [goWritten, h]

/-- A one-bit field that is set to 0 reads as clear. -/
theorem flag_setFld_zero (s : State) (a : Nat) {bit : Nat} (h : bit < 64) : flag (setFld s a bit 1 0) a bit = false := by
  simp [flag, fld_setFld s a bit 1 0 (by omega)]

/-- A write of VALID with an allowed key to an entry that is not valid makes a tenant of that key without quota in any tier (R62). -/
theorem tenantWrite_creates (s : State) (t : Nat) (data : Word) (hfree : (tblGet s.pool.tenants t {}).valid = false)
    (hvalid : data.getLsbD 16 = true) (hkey : tenantAllowed s t (data.extractLsb' 0 16) = true) :
    ∃ err, tenantWrite s t data = { key := data.extractLsb' 0 16, valid := true, err := err } := by
  unfold tenantWrite
  cases data.getLsbD 17 <;>
    exact ⟨_, by simp only [hfree, hvalid, hkey, Bool.false_eq_true, Bool.not_true, if_true, if_false]; rfl⟩

/-! ## What each command answers -/

/-- R8, R543: the whole register is written, field by field. -/
theorem registerWrite_applies : Claims.registerWrite := by
  intro s off data hopen hoff hal hgo
  have hword : off.toNat / 8 * 8 = off.toNat := by omega
  simp [exec_registerWrite, execRegisterWrite, hopen, Nat.not_le.mpr hoff, alignedAccess_eight hal, hal, hword,
    goWritten_of_ne _ hgo]

/-- A 4 B read on an 8 B boundary answers the low word and leaves the high word in its requester's latch (R556). -/
theorem execLowWordRead_low (s : State) (q : BitVec 16) (off : BitVec 32) (hopen : bar0Open s = true) (hoff : off.toNat < 67108864)
    (hal : off.toNat % 8 = 0) :
    execLowWordRead q off s = .next (emit { s with mgmt := { s.mgmt with
        latch := tblPut s.mgmt.latch q.toNat (off.toNat, (readReg s off.toNat).extractLsb' 32 32) } }
      (.regData q.toNat off.toNat (readReg s off.toNat &&& 0xFFFFFFFF))) := by
  have hword : off.toNat / 8 * 8 = off.toNat := by omega
  have hal4 : off.toNat % 4 = 0 := by omega
  simp [execLowWordRead, hopen, Nat.not_le.mpr hoff, hal, hal4, hword]

/-- R556: the read's answer is the last output, and the latch finds the high word. -/
theorem lowWordRead_latches : Claims.lowWordRead := by
  intro s q off hopen hoff hal
  exact ⟨_, (exec_lowWordRead q off s).trans (execLowWordRead_low s q off hopen hoff hal), rfl, tblFind_put ..⟩

/-- R548, R549: outside the PORT blocks the write ends with SETUP_OPEN closed, and no port starts. -/
theorem setupOpenClose_closes : Claims.setupOpenClose := by
  intro s off data bit hopen hoff hblock hsetup hone
  have hport : ¬ (0x100000 ≤ off.toNat ∧ off.toNat < 0x180000) := by omega
  refine ⟨_, ?_, rfl, flag_setFld_zero _ _ (BitVec.lt_of_getLsbD hone)⟩
  simp [exec_setupOpenClose, execSetupOpenClose, hsetup, hopen, hone, Nat.not_le.mpr hoff, hport]

/-- R516, R518: fences of asserted inputs, then the training of every port. -/
theorem serve_starts : Claims.serve := by
  intro s hopen hserve
  simp [exec_serve, execServe, hopen, hserve]

/-- R62: the tenant that `tenantWrite` creates stands in its entry. -/
theorem tenantCtlWrite_creates : Claims.tenantCtlWrite := by
  rintro s t data k hopen hfree hvalid rfl hkey
  obtain ⟨err, hwrite⟩ := tenantWrite_creates s t.val data hfree hvalid hkey
  refine ⟨{ s with pool := { s.pool with tenants := tblPut s.pool.tenants t.val (tenantWrite s t.val data) } },
    by simp [exec_tenantCtlWrite, execTenantCtlWrite, hopen], _, tblFind_put .., ?_⟩
  simp [hwrite]

/-- R348: the entry's register takes the written bits. -/
theorem portKeyWrite_sets : Claims.portKeyWrite := by
  intro s p e data hopen
  exact ⟨_, by rw [exec_portKeyWrite, execPortKeyWrite, hopen]; rfl, regGet_regSet ..⟩

/-- R394: the policer's bucket entry is gone, and its second word is the written one. -/
theorem policerWrite_fills : Claims.policerWrite := by
  intro s p i w0 w1 hopen
  refine ⟨_, by rw [exec_policerWrite, execPolicerWrite, hopen]; rfl, ?_, ?_⟩
  · exact tblFind_erase ..
  · exact regGet_regSet ..

/-- R396: a minimum below the maximum makes the thresholds consistent. -/
theorem wredProfileWrite_sets : Claims.wredProfileWrite := by
  intro s i data hopen hth
  exact ⟨regSet s (0x34100 + 8 * i.val) (data &&& 0xFFFFFFFFFF), by simp [exec_wredProfileWrite, execWredProfileWrite, hopen, hth],
    regGet_regSet ..⟩

/-- Settles O17: each row by the lemma about its command. -/
theorem registerCommandsComplete : Obligations.RegisterCommandsComplete :=
  ⟨registerWrite_applies, lowWordRead_latches, setupOpenClose_closes, serve_starts, tenantCtlWrite_creates, portKeyWrite_sets,
    policerWrite_fills, wredProfileWrite_sets⟩

end Sys2Proof.Machine

/-! Ring configuration registers (02, 23): which writes the RINGSETUP block takes, and what they leave in a register (O9). -/

namespace Sys2Proof.Machine

/-! ## Whole-register writes, bit by bit -/

theorem testBit_withBits (x lo len v i : Nat) :
    (withBits x lo len v).testBit i = if lo ≤ i ∧ i < lo + len then v.testBit (i - lo) else x.testBit i := by
  simp only [withBits, Nat.testBit_or, Nat.testBit_shiftLeft, Nat.testBit_shiftRight, Nat.testBit_mod_two_pow]
  by_cases below : i < lo
  · simp [below, Nat.not_le.mpr below, Nat.not_le.mpr (Nat.lt_add_right len below)]
  · by_cases inside : i < lo + len
    · have : i - lo < len := by omega
      simp [below, inside, Nat.not_lt.mp below, Nat.not_le.mpr inside, this]
    · have : ¬ i - lo < len := by omega
      simp [below, inside, this, Nat.not_lt.mp inside]

/-- The bits of a field. -/
def Field.covers (f : Field) (i : Nat) : Bool := decide (f.lo ≤ i ∧ i < f.lo + f.len)

/-- A field of a 64-bit register that takes every value. -/
def Field.whole (f : Field) : Bool := decide (f.least = 0 ∧ f.most = 2 ^ f.len - 1 ∧ f.unit = 1 ∧ 0 < f.len ∧ f.lo + f.len ≤ 64)

/-- A write of 8 B. -/
def wholeWrite (data : Word) : WData := { data := data.toNat, lo := 0, len := 64 }

theorem wholeWrite_meets {f : Field} {data : Word} (h : f.whole = true) : (wholeWrite data).meets f = true := by
  simp [Field.whole] at h
  simp [WData.meets, wholeWrite]
  omega

theorem bitsOf_lt (x lo len : Nat) : bitsOf x lo len < 2 ^ len := Nat.mod_lt _ (Nat.two_pow_pos len)

theorem testBit_bitsOf (x lo len i : Nat) : (bitsOf x lo len).testBit i = (decide (i < len) && x.testBit (lo + i)) := by
  simp [bitsOf, Nat.testBit_mod_two_pow, Nat.testBit_shiftRight]

/-- A field that takes every value has the bits of a write of 8 B. -/
theorem testBit_setField_wholeWrite {f : Field} (h : f.whole = true) (data : Word) (v i : Nat) :
    (setField f (wholeWrite data) v).testBit i = if f.covers i then data.toNat.testBit i else v.testBit i := by
  simp only [Field.whole, decide_eq_true_eq] at h
  obtain ⟨least, most, unit, -, inside⟩ := h
  have ok : f.least ≤ bitsOf ((wholeWrite data).placed v) f.lo f.len ∧ bitsOf ((wholeWrite data).placed v) f.lo f.len ≤ f.most ∧
      bitsOf ((wholeWrite data).placed v) f.lo f.len % f.unit = 0 := by
    have := bitsOf_lt ((wholeWrite data).placed v) f.lo f.len
    rw [least, most, unit]
    omega
  simp only [setField]
  rw [if_pos ok, testBit_withBits]
  by_cases c : f.lo ≤ i ∧ i < f.lo + f.len
  · have : i < 64 := by omega
    simp [c, Field.covers, testBit_bitsOf, WData.placed, wholeWrite, testBit_withBits, this]
    omega
  · simp [c, Field.covers]

theorem writeField_rw {f : Field} (whole : f.whole = true) (acc : f.acc = .rw) (open_ : Bool) (once : List Nat) (data : Word) (v : Nat) :
    writeField open_ once (wholeWrite data) v f = setField f (wholeWrite data) v := by
  simp [writeField, wholeWrite_meets whole, acc]

theorem writeField_rwl {f : Field} (whole : f.whole = true) (acc : f.acc = .rwl) (open_ : Bool) (once : List Nat) (data : Word) (v : Nat) :
    writeField open_ once (wholeWrite data) v f = if open_ then setField f (wholeWrite data) v else v := by
  simp [writeField, wholeWrite_meets whole, acc]

/-- RW fields that take every value have the bits of a write of 8 B; the other bits of their register stay. -/
theorem testBit_writeFields (open_ : Bool) (once : List Nat) (data : Word) (i : Nat) (fs : List Field) : ∀ v : Nat,
    fs.all (fun f => f.whole && f.acc == .rw) = true →
    (fs.foldl (writeField open_ once (wholeWrite data)) v).testBit i =
      if fs.any (·.covers i) then data.toNat.testBit i else v.testBit i := by
  induction fs with
  | nil => intro v _; rfl
  | cons f fs ih =>
    intro v rw_
    simp only [List.all_cons, Bool.and_eq_true, beq_iff_eq] at rw_
    obtain ⟨⟨whole, acc⟩, rest⟩ := rw_
    rw [List.foldl_cons, ih _ rest, writeField_rw whole acc, testBit_setField_wholeWrite whole, List.any_cons]
    cases f.covers i <;> cases fs.any (·.covers i) <;> rfl

/-! ## The RINGSETUP block: what of a register write concerns other blocks only -/

/-- An offset of the RINGSETUP block (R547). -/
def InRings (a : Nat) : Prop := 0x600000 ≤ a ∧ a < 0x700000

section Block
variable {a : Nat} (block : InRings a)
include block

theorem regInfo_rings : regInfo a = (ringReg (a - 0x600000)).map (fun i => { i with setupAt := some (ringGlobal, 0) }) := by
  obtain ⟨lo, hi⟩ := block
  simp (disch := omega) only [regInfo, if_neg, if_pos]

theorem sliceAt_rings : sliceAt a = none := by
  obtain ⟨lo, hi⟩ := block
  simp (disch := omega) only [sliceAt, if_neg]

theorem regHome_rings (s : State) : regHome s a = a := by
  simp [regHome, sliceAt_rings block]

theorem keyHeld_rings (s : State) : keyHeld s a = false := by
  obtain ⟨lo, hi⟩ := block
  simp [keyHeld]
  omega

theorem cxlUnused_rings (s : State) : cxlUnused s a = false := by
  obtain ⟨lo, hi⟩ := block
  simp [cxlUnused]
  omega

theorem farDisabled_rings (s : State) : farDisabled s a = s := by
  simp [farDisabled, sliceAt_rings block]

theorem keyWritten_rings (s : State) : keyWritten s a = s := by
  obtain ⟨lo, hi⟩ := block
  simp [keyWritten]
  omega

theorem watchChanged_rings (s t : State) : watchChanged s t a = t := by
  obtain ⟨lo, hi⟩ := block
  simp [watchChanged]
  omega

theorem sourceChanged_rings (s t : State) : sourceChanged s t a = t := by
  obtain ⟨lo, hi⟩ := block
  simp [sourceChanged]
  omega

theorem maskCleared_rings (s t : State) : maskCleared s t a = t := by
  obtain ⟨lo, hi⟩ := block
  have out : ¬ (msixBase ≤ a ∧ a < msixBase + 0x8000) := by simp only [msixBase]; omega
  simp [maskCleared, out]

theorem writtenValue_rings (s : State) (i : RegInfo) (w : WData) :
    writtenValue s a i w = i.fields.foldl (writeField (unlocked s i) (onceOf s a) w) (regGet s a).toNat := by
  obtain ⟨lo, hi⟩ := block
  rw [writtenValue, if_neg (by simp; omega), if_neg (by simp; omega)]

end Block

theorem alertAfter_regs (s t : State) : (alertAfter s t).regs = t.regs := by
  unfold alertAfter
  split <;> rfl

theorem regGet_accessError {a : Nat} (s : State) (bit b : Nat) (write : Bool) (status : a ≠ mgmtBase + 0x8) (addr : a ≠ mgmtBase + 0x10) :
    regGet (accessError s bit b write) a = regGet s a := by
  rw [accessError, regGet_regSet_ne _ _ _ _ addr, setBit, setFld, regGet_regSet_ne _ _ _ _ status]

/-- A register of the block that takes writes ends with the value that the write leaves in it. -/
theorem regGet_writeReg_rings {a : Nat} (block : InRings a) (s : State) (i : RegInfo) (off : Nat) (w : WData) (info : regInfo a = some i)
    (free : ringHeld s a = false) (plain : i.counter = false) :
    regGet (writeReg s a off w) a = BitVec.ofNat 64 (writtenValue s a i w) := by
  have value : regGet (alertAfter s (noteOnce (regSet s a (BitVec.ofNat 64 (writtenValue s a i w))) a i w)) a =
      BitVec.ofNat 64 (writtenValue s a i w) := by
    rw [regGet_regs (alertAfter_regs ..)]
    exact regGet_regSet ..
  simp only [writeReg, info, free, keyHeld_rings block, cxlUnused_rings block, plain, Bool.or_self, Bool.false_eq_true, if_false,
    farDisabled_rings block, keyWritten_rings block, watchChanged_rings block, sourceChanged_rings block, maskCleared_rings block]
  split
  · obtain ⟨lo, hi⟩ := block
    rw [regGet_accessError _ _ _ _ (by simp [mgmtBase]; omega) (by simp [mgmtBase]; omega), value]
  · exact value

/-- An aligned write to the block is a write of its register. -/
theorem exec_registerWrite_rings (s : State) (off : BitVec 32) (bytes : Nat) (data : Word) (hopen : bar0Open s = true)
    (block : InRings off.toNat) (aligned : alignedAccess off.toNat bytes = true) :
    exec (.registerWrite off bytes data) s =
      .next (writeReg s (off.toNat / 8 * 8) off.toNat { data := data.toNat, lo := 8 * (off.toNat % 8), len := 8 * bytes }) := by
  have block' : InRings (off.toNat / 8 * 8) := by
    obtain ⟨lo, hi⟩ := block
    constructor <;> omega
  obtain ⟨lo, hi⟩ := block
  have small : off.toNat < 67108864 := by omega
  have go : off.toNat / 8 * 8 ≠ settleBase + 0x400 := by simp [settleBase]; omega
  simp [exec_registerWrite, execRegisterWrite, hopen, Nat.not_le.mpr small, aligned, regHome_rings block', goWritten_of_ne _ go]

/-- A write of 8 B to the block is one of the whole register. -/
theorem exec_registerWrite_rings_eight (s : State) (off : BitVec 32) (data : Word) (hopen : bar0Open s = true)
    (block : InRings off.toNat) (aligned : off.toNat % 8 = 0) :
    exec (.registerWrite off 8 data) s = .next (writeReg s off.toNat off.toNat (wholeWrite data)) := by
  have word : off.toNat / 8 * 8 = off.toNat := by omega
  rw [exec_registerWrite_rings s off 8 data hopen block (alignedAccess_eight aligned), word, aligned]
  rfl

/-! ## SQ_BASE, CQ_BASE, SHADOW_ADDR and RING_CFG (R29) -/

/-- The fields of the four registers of a ring that hold while it is not DISABLED. -/
def ringFields (i : Nat) : List Field :=
  [[fRW 12 52 0], [fRW 12 52 0], [fRW 6 58 0],
    [fRW 0 5 0, fRW 8 5 0, fRW 16 16 0, fRW 32 7 0, fRW 39 1 0, fRW 40 1 0, fRW 41 1 0, fRW 42 1 0]].getD i []

/-- One of the four registers of a ring. -/
def pairReg (i : Nat) : RegInfo := { bytes := 8, fields := ringFields i, counter := false, setupAt := some (ringGlobal, 0) }

theorem ringReg_pair {n i : Nat} (hn : n < 4096) (hi : i < 4) : ringReg (n * 0x80 + 8 * i) = some (reg8 (ringFields i)) := by
  have off : (n * 0x80 + 8 * i) % 0x80 = 8 * i := by omega
  simp (disch := omega) only [ringReg, if_neg, if_pos, off]
  match i, hi with
  | 0, _ => rfl
  | 1, _ => rfl
  | 2, _ => rfl
  | 3, _ => rfl

theorem regInfo_pair {n i : Nat} (hn : n < 4096) (hi : i < 4) : regInfo (ringBase n + 8 * i) = some (pairReg i) := by
  have off : ringBase n + 8 * i - 0x600000 = n * 0x80 + 8 * i := by simp only [ringBase]; omega
  rw [regInfo_rings (by simp only [InRings, ringBase]; omega), off, ringReg_pair hn hi]
  rfl

/-- The offsets of a ring's four registers hold exactly while its state is not DISABLED (R29). -/
theorem ringHeld_pair {n a : Nat} (s : State) (hn : n < 4096) (lo : ringBase n ≤ a) (hi : a < ringBase n + 32) :
    ringHeld s a = ((ringOf s n).st != .disabled) := by
  simp only [ringBase] at lo hi
  have ring : (a - 0x600000) / 0x80 = n := by omega
  have here : 0x600000 ≤ a ∧ a < 0x680000 ∧ a % 0x80 < 0x20 := by omega
  simp [ringHeld, ring, here]

theorem ringFields_rw {i : Nat} (hi : i < 4) : (ringFields i).all (fun f => f.whole && f.acc == .rw) = true := by
  have all : ∀ i < 4, (ringFields i).all (fun f => f.whole && f.acc == .rw) = true := by decide
  exact all i hi

theorem ringFields_cover {i b : Nat} (hi : i < 4) (hb : b < 64) (bit : (Claims.ringBits i).getLsbD b = true) :
    (ringFields i).any (·.covers b) = true := by
  have all : ∀ i < 4, ∀ b < 64, (Claims.ringBits i).getLsbD b = true → (ringFields i).any (·.covers b) = true := by decide
  exact all i hi b hb bit

/-- Registers of a ring that is not DISABLED ignore every write (R29). -/
theorem writeReg_held {a : Nat} (s : State) (off : Nat) (w : WData) (held : ringHeld s a = true) : writeReg s a off w = s := by
  unfold writeReg
  cases regInfo a with
  | none => rfl
  | some i => simp [held]

theorem registerWrite_pair_held (s : State) (off : BitVec 32) (bytes : Nat) (data : Word) (hopen : bar0Open s = true) {n : Nat} (hn : n < 4096)
    (aligned : alignedAccess off.toNat bytes = true) (lo : ringBase n ≤ off.toNat) (hi : off.toNat < ringBase n + 32)
    (enabled : (ringOf s n).st ≠ .disabled) : exec (.registerWrite off bytes data) s = .next s := by
  have block : InRings off.toNat := by simp only [InRings, ringBase] at lo hi ⊢; omega
  have held : ringHeld s (off.toNat / 8 * 8) = true := by
    rw [ringHeld_pair s hn (by simp only [ringBase] at lo ⊢; omega) (by omega)]
    simpa using enabled
  rw [exec_registerWrite_rings s off bytes data hopen block aligned, writeReg_held s _ _ held]

/-- A write of 8 B leaves its bits in the fields of one of the four registers. -/
theorem writtenValue_pair {a i : Nat} (block : InRings a) (s : State) (hi : i < 4) (data : Word) :
    BitVec.ofNat 64 (writtenValue s a (pairReg i) (wholeWrite data)) &&& Claims.ringBits i = data &&& Claims.ringBits i := by
  apply BitVec.eq_of_getLsbD_eq
  intro b hb
  rw [BitVec.getLsbD_and, BitVec.getLsbD_and, BitVec.getLsbD_ofNat]
  cases bit : (Claims.ringBits i).getLsbD b with
  | false => simp
  | true =>
    rw [writtenValue_rings block, pairReg, testBit_writeFields _ _ data b _ _ (ringFields_rw hi), ringFields_cover hi hb bit]
    simp [hb, BitVec.getLsbD]

/-- A write of 8 B to a register of a DISABLED ring sets its fields, whatever SETUP_OPEN is (R29). -/
theorem registerWrite_pair_disabled (s : State) (off : BitVec 32) (data : Word) (hopen : bar0Open s = true) {n i : Nat} (hn : n < 4096)
    (hi : i < 4) (at_ : off.toNat = ringBase n + 8 * i) (disabled : (ringOf s n).st = .disabled) :
    ∃ t, exec (.registerWrite off 8 data) s = .next t ∧ regGet t off.toNat &&& Claims.ringBits i = data &&& Claims.ringBits i := by
  have block : InRings off.toNat := by simp only [InRings, ringBase, at_]; omega
  have free : ringHeld s off.toNat = false := by
    rw [ringHeld_pair s hn (by omega) (by omega), disabled]
    rfl
  have info := regInfo_pair hn hi
  rw [← at_] at info
  refine ⟨_, exec_registerWrite_rings_eight s off data hopen block (by simp only [at_, ringBase]; omega), ?_⟩
  rw [regGet_writeReg_rings block s _ _ _ info free rfl, writtenValue_pair block s hi]

/-! ## The global register of the block -/

/-- RINGSETUP's global register is RWL: SETUP_OPEN decides whether its field takes the write (R29, R548). -/
theorem registerWrite_global (s : State) (off : BitVec 32) (data : Word) (hopen : bar0Open s = true) (at_ : off.toNat = ringGlobal + 8) :
    ∃ t, exec (.registerWrite off 8 data) s = .next t ∧
      fld t (ringGlobal + 8) 0 16 = if flag s ringGlobal 0 then bitsOf data.toNat 0 16 else fld s (ringGlobal + 8) 0 16 := by
  have block : InRings off.toNat := by simp only [InRings, ringGlobal, at_]; omega
  have info : regInfo off.toNat = some { reg4 [fRWL 0 16 4] with setupAt := some (ringGlobal, 0) } := by rw [at_]; rfl
  have free : ringHeld s off.toNat = false := by simp [ringHeld, at_, ringGlobal]
  refine ⟨_, exec_registerWrite_rings_eight s off data hopen block (by rw [at_]; rfl), ?_⟩
  rw [fld, ← at_, regGet_writeReg_rings block s _ _ _ info free rfl, writtenValue_rings block]
  have lock (i : RegInfo) : unlocked s { i with setupAt := some (ringGlobal, 0) } = flag s ringGlobal 0 := rfl
  rw [lock, reg4, List.foldl_cons, List.foldl_nil, writeField_rwl rfl rfl]
  split
  · apply Nat.eq_of_testBit_eq
    intro b
    rw [testBit_bitsOf, testBit_bitsOf, BitVec.toNat_ofNat, Nat.testBit_mod_two_pow, testBit_setField_wholeWrite rfl]
    by_cases hb : b < 16
    · have : b < 64 := by omega
      simp [hb, this, Field.covers, fRWL]
    · simp [hb]
  · rw [BitVec.ofNat_toNat, BitVec.setWidth_eq, fld]

/-- Settles O9: the four registers of a ring, held and free, and the global register. -/
theorem ringRegistersHeld : Obligations.RingRegistersHeld := by
  intro s off data hopen
  refine ⟨fun n i hn hi at_ => ⟨registerWrite_pair_disabled s off data hopen hn hi at_, fun enabled => ?_⟩,
    fun n bytes hn aligned lo hi enabled => registerWrite_pair_held s off bytes data hopen hn aligned lo hi enabled,
    registerWrite_global s off data hopen⟩
  have aligned : off.toNat % 8 = 0 := by simp only [at_, ringBase]; omega
  exact registerWrite_pair_held s off 8 data hopen hn (alignedAccess_eight aligned) (by omega) (by omega) enabled

end Sys2Proof.Machine

/-! Doorbells that R31 discards (02): each way of arrival ends in the count of RINGSETUP_DB_DROP and nothing else (O10). -/

namespace Sys2Proof.Machine

theorem exec_doorbell (via : Option PortId) (key : Key) (w : Word) (s : State) : exec (.doorbell via key w) s = execDoorbell via key w s := rfl

theorem bitsOf_toNat (w : Word) (lo len : Nat) : bitsOf w.toNat lo len = (w.extractLsb' lo len).toNat := by
  simp [bitsOf, BitVec.extractLsb'_toNat]

theorem dbDrop_eq_regSet (s : State) :
    dbDrop s = regSet s 0x680010 (BitVec.ofNat 64 (withBits (regGet s 0x680010).toNat 0 32 (fld s 0x680010 0 32 + 1))) := rfl

theorem isCxl_regs {s t : State} (h : t.regs = s.regs) : isCxl t = isCxl s := by
  funext p
  rw [isCxl, isCxl, cfgProto, cfgProto, fld_regs h]

/-- What takes a place in the order of arrivals at its port takes the next number (R127). -/
def takeNumber (s : State) : State := { s with ord := { s.ord with arrivals := s.ord.arrivals + 1 } }

@[simp] theorem takeNumber_regs (s : State) : (takeNumber s).regs = s.regs := rfl
@[simp] theorem takeNumber_rings (s : State) : (takeNumber s).rings = s.rings := rfl

section Discarded
variable {s : State} {via : Option PortId} {key : Key} {w : Word}

/-- What R31 asks of a doorbell that it takes, on the fields of the word. -/
theorem doorbellValid_iff : doorbellValid s (via.map (·.val)) key w = true ↔
    (match via with
      | some p => (ringMgmt s (w.extractLsb' 36 12).toNat = false ∧ ringPort s (w.extractLsb' 36 12).toNat = p.val) ∧
          (isCxl s p.val = true ∨ ringKey s (w.extractLsb' 36 12).toNat = key)
      | none => ringMgmt s (w.extractLsb' 36 12).toNat = true) ∧
    (ringOf s (w.extractLsb' 36 12).toNat).st = .active ∧ (ringOf s (w.extractLsb' 36 12).toNat).gen = (w.extractLsb' 48 4).toNat ∧
    w.extractLsb' 34 2 = 0 ∧ w.extractLsb' 52 12 = 0 := by
  cases via <;> simp [doorbellValid, bitsOf_toNat, and_assoc, ← BitVec.toNat_inj]

/-- In the cases of R31 no doorbell is taken. -/
theorem doorbellValid_of_discards (bad : Claims.Discards s via key w) : doorbellValid s (via.map (·.val)) key w = false := by
  rw [Bool.eq_false_iff]
  intro valid
  obtain ⟨arrival, active, gen, low, high⟩ := doorbellValid_iff.mp valid
  rcases bad with ⟨rfl, mgmt⟩ | ⟨p, rfl, bound⟩ | ⟨p, rfl, bromet, other⟩ | idle | old | low' | high'
  · exact Bool.noConfusion (mgmt.symm.trans arrival)
  · obtain ⟨⟨port, bus⟩, _⟩ := arrival
    exact bound.elim (fun h => Bool.noConfusion (port.symm.trans h)) (· bus)
  · exact arrival.2.elim (fun h => Bool.noConfusion (bromet.symm.trans h)) (fun h => other h.symm)
  · exact idle active
  · exact old gen
  · exact low' low
  · exact high' high

theorem doorbell_of_discards (bad : Claims.Discards s via key w) : doorbell s (via.map (·.val)) key w = dbDrop s := by
  simp [doorbell, doorbellValid_of_discards bad]

/-- R31 reads registers and rings only. -/
theorem discards_of_same {t : State} (regs : t.regs = s.regs) (rings : t.rings = s.rings) (bad : Claims.Discards s via key w) :
    Claims.Discards t via key w := by
  have ring : ringOf t = ringOf s := by funext n; rw [ringOf, ringOf, rings]
  simpa only [Claims.Discards, ringMgmt, ringPort, ringKey, isCxl_regs regs, ring, fld_regs regs, flag_regs regs] using bad

theorem exec_doorbell_mgmt_discards (bad : Claims.Discards s none key w) : exec (.doorbell none key w) s = .next (dbDrop s) := by
  rw [exec_doorbell, execDoorbell]
  exact congrArg Host.Outcome.next (doorbell_of_discards bad)

/-- Every way through a CXL port ends in the same discard: that of a port without the role, of a link without its IDE, of the word itself. -/
theorem exec_doorbell_cxl_discards {p : PortId} (bad : Claims.Discards s (some p) key w) (cxl : isCxl s p.val = true) :
    exec (.doorbell (some p) key w) s = .next (dbDrop (creditBack s p.val 4)) := by
  have drop : doorbell (creditBack s p.val 4) (some p.val) key w = dbDrop (creditBack s p.val 4) :=
    doorbell_of_discards (discards_of_same (by simp) (by simp) bad)
  simp only [exec_doorbell, execDoorbell, isCxl_regs (creditBack_regs ..), cxl, drop, Bool.not_true, Bool.false_and, Bool.or_false, if_true,
    ite_self]

/-- Past the key check of its port, and with no earlier request to wait for, a Bromet doorbell takes its number and is discarded. -/
theorem exec_doorbell_bromet_discards {p : PortId} {u : State} (bad : Claims.Discards s (some p) key w) (bromet : isCxl s p.val = false)
    (host : isHostPort s p.val = true) (keyed : ingressKey s p.val key = true) (numbered : u = takeNumber (creditBack s p.val 4))
    (first : dblWaits u p.val s.ord.arrivals = false) :
    exec (.doorbell (some p) key w) s = .next (dbDrop u) := by
  have regs : (creditBack s p.val 4).regs = s.regs := creditBack_regs ..
  have drop : doorbell u (some p.val) key w = dbDrop u :=
    doorbell_of_discards (discards_of_same (by simp [numbered]) (by simp [numbered]) bad)
  rw [numbered, ← creditBack_ord s p.val 4] at first
  rw [numbered] at drop
  simp only [exec_doorbell, execDoorbell, isHostPort_regs regs, ingressKey_regs regs, isCxl_regs regs, host, bromet, keyed, numbered,
    Bool.not_true, Bool.and_false, Bool.or_false, Bool.false_eq_true, if_false]
  exact (if_neg (fun waits => Bool.noConfusion (first.symm.trans waits))).trans (congrArg Host.Outcome.next drop)

end Discarded

/-- Settles O10: the discard by its way of arrival, and what `dbDrop` counts. -/
theorem doorbellsDiscarded : Obligations.DoorbellsDiscarded := by
  intro s via key w bad
  refine ⟨doorbell_of_discards bad, ?_, ?_, ?_, ⟨_, rfl⟩, fld_setFld s 0x680010 0 32 _ (by omega), fun a ne => regGet_regSet_ne s _ a _ ne⟩
  · rintro rfl
    exact exec_doorbell_mgmt_discards bad
  · rintro p rfl cxl
    exact exec_doorbell_cxl_discards bad cxl
  · rintro p u rfl bromet host keyed rfl first
    exact exec_doorbell_bromet_discards bad bromet host keyed (by simp [takeNumber]) first

end Sys2Proof.Machine

/-! The checks of a fetched descriptor come in the order of R38 (02). That a reserved byte is reported before a malformed operand is the model's
choice (assumption log, entry 98) (O11). -/

namespace Sys2Proof.Machine

/-- A descriptor before which none of its ring is still on its way is taken in as its data says. -/
theorem exec_descriptorArrive_data {s : State} {h : Handle} {r : HandleRec} {d : Line} (live : handleOf s h.toNat = some r)
    (fetching : r.phase = .fetching)
    (first : s.rings.handles.any (fun e => e.2.ring == r.ring && e.2.phase == .fetching && decide (e.2.seq < r.seq)) = false) :
    exec (.descriptorArrive h (.data d)) s = .next (descriptorChecks s (ringKey s r.ring) (ringAdmin s r.ring) h.toNat r d) := by
  change execDescriptorArrive h (.data d) s = _
  simp [execDescriptorArrive, live, fetching, first]

theorem exec_descriptorArrive_poisoned {s : State} {h : Handle} {r : HandleRec} (live : handleOf s h.toNat = some r)
    (fetching : r.phase = .fetching)
    (first : s.rings.handles.any (fun e => e.2.ring == r.ring && e.2.phase == .fetching && decide (e.2.seq < r.seq)) = false) :
    exec (.descriptorArrive h .poisoned) s = .next (commit (setHandle s h.toNat { r with phase := .live }) h.toNat .poisoned 0 0) := by
  change execDescriptorArrive h .poisoned s = _
  simp [execDescriptorArrive, live, fetching, first]

/-- The record of a handle whose descriptor has arrived. -/
def arrived (r : HandleRec) (d : Line) : HandleRec :=
  { r with phase := .live, opcode := dOp d, flags := dFlags d, key := dKey d, tag := dTag d, desc := d }

section Checks
variable {s : State} {own : Key} {admin : Bool} {h : Nat} {r : HandleRec} {d : Line} {row : OpRow}

theorem descriptorChecks_key (key : dKey d ≠ own) :
    descriptorChecks s own admin h r d = commit (setHandle s h (arrived r d)) h .keyReject 0 0 := by
  simp [descriptorChecks, key, arrived]

theorem descriptorChecks_opcode (key : dKey d = own) (op : opRow (dOp d) = none) :
    descriptorChecks s own admin h r d = badDesc (setHandle s h (arrived r d)) h 0 := by
  simp [descriptorChecks, key, op, arrived]

theorem descriptorChecks_admin (key : dKey d = own) (op : opRow (dOp d) = some row) (adm : row.admin = true) (no : admin = false) :
    descriptorChecks s own admin h r d = commit (setHandle s h (arrived r d)) h .keyReject 0 0 := by
  simp [descriptorChecks, key, op, adm, no, arrived]

theorem descriptorChecks_reserved {o : Nat} (key : dKey d = own) (op : opRow (dOp d) = some row)
    (adm : row.admin = true → admin = true) (bad : reservedFault d row = some o) :
    descriptorChecks s own admin h r d = badDesc (setHandle s h (arrived r d)) h o := by
  have pass : (row.admin && !admin) = false := by cases ha : row.admin <;> simp [ha] at adm ⊢; exact adm
  simp [descriptorChecks, key, op, pass, bad, arrived]

end Checks

/-- Settles O11: the arrival, then each check by its lemma about `descriptorChecks`. -/
theorem descriptorChecksInOrder : Obligations.DescriptorChecksInOrder := by
  rintro s h r x d live fetching first rfl
  refine ⟨exec_descriptorArrive_poisoned live fetching first, ?_⟩
  rw [exec_descriptorArrive_data live fetching first]
  refine ⟨fun key => ?_, fun key op => ?_, fun row key op adm no => ?_, fun row o key op adm bad => ?_⟩
  · rw [descriptorChecks_key key]; rfl
  · rw [descriptorChecks_opcode key op]; rfl
  · rw [descriptorChecks_admin key op adm no]; rfl
  · rw [descriptorChecks_reserved key op adm bad]; rfl

end Sys2Proof.Machine

/-! Descriptors whose turn has not come (02, 03): for every operation that a descriptor starts, the state stays where its handle may not start
it (R34), and a composition operation behind an open one is marked started (R68). That a command on a handle of another opcode changes nothing
is the model's choice (assumption log, entry 10) (O12). -/

namespace Sys2Proof.Machine

section Waiting
variable {s : State} {h : Handle}

/-! ### Descriptors of rings (02) -/

theorem nop_waits (w : startable s h.toNat 0x01 = none) : exec (.nop h) s = .next s := by
  change execNop h s = .next s
  rw [execNop, w]

theorem abort_waits (w : startable s h.toNat 0x02 = none) : exec (.abort h) s = .next s := by
  change execAbort h s = .next s
  rw [execAbort, w]

theorem queryHandle_waits (w : startable s h.toNat 0x03 = none) : exec (.queryHandle h) s = .next s := by
  change execQueryHandle h s = .next s
  rw [execQueryHandle, w]

/-! ### Descriptors of composition (03) -/

theorem quotaSet_waits (w : startable s h.toNat 0x13 = none) : exec (.quotaSet h) s = .next s := by
  change execQuotaSet h s = .next s
  rw [execQuotaSet, w]

/-! ### Descriptors of shelves and drawers (07) -/

theorem shelfCreate_waits (w : startable s h.toNat 0x20 = none) : exec (.shelfCreate h) s = .next s := by
  change execShelfCreate h s = .next s
  rw [execShelfCreate, w]

theorem shelfOpen_waits (w : startable s h.toNat 0x21 = none) : exec (.shelfOpen h) s = .next s := by
  change execShelfOpen h s = .next s
  rw [execShelfOpen, w]

theorem shelfClose_waits (w : startable s h.toNat 0x22 = none) : exec (.shelfClose h) s = .next s := by
  change execShelfClose h s = .next s
  rw [execShelfClose, w]

theorem draftBegin_waits (w : startable s h.toNat 0x23 = none) : exec (.draftBegin h) s = .next s := by
  change execDraftBegin h s = .next s
  rw [execDraftBegin, w]

theorem draftPublish_waits (w : startable s h.toNat 0x24 = none) : exec (.draftPublish h) s = .next s := by
  change execDraftPublish h s = .next s
  rw [execDraftPublish, w]

theorem draftDiscard_waits (w : startable s h.toNat 0x25 = none) : exec (.draftDiscard h) s = .next s := by
  change execDraftDiscard h s = .next s
  rw [execDraftDiscard, w]

theorem drawerCreate_waits (w : startable s h.toNat 0x28 = none) : exec (.drawerCreate h) s = .next s := by
  change execDrawerCreate h s = .next s
  rw [execDrawerCreate, w]

theorem drawerOffer_waits (w : startable s h.toNat 0x29 = none) : exec (.drawerOffer h) s = .next s := by
  change execDrawerOffer h s = .next s
  rw [execDrawerOffer, w]

theorem drawerAccept_waits (w : startable s h.toNat 0x2A = none) : exec (.drawerAccept h) s = .next s := by
  change execDrawerAccept h s = .next s
  rw [execDrawerAccept, w]

theorem drawerRelease_waits (w : startable s h.toNat 0x2B = none) : exec (.drawerRelease h) s = .next s := by
  change execDrawerRelease h s = .next s
  rw [execDrawerRelease, w]

theorem drawerLease_rows_wait (w : startable s h.toNat 0x2C = none) :
    exec (.drawerLease h) s = .next s ∧ exec (.drawerLeaseQuery h) s = .next s :=
  ⟨by change execDrawerLease h s = .next s; rw [execDrawerLease, w],
    by change execDrawerLeaseQuery h s = .next s; rw [execDrawerLeaseQuery, w]⟩

/-! ### Descriptors of tiers (08) -/

theorem place_waits (w : startable s h.toNat 0x30 = none) : exec (.place h) s = .next s := by
  change execPlace h s = .next s
  rw [execPlace, w]

theorem winchWindow_rows_wait (w : startable s h.toNat 0x31 = none) :
    exec (.winchWindow h) s = .next s ∧ exec (.winchWindowClose h) s = .next s :=
  ⟨by change execWinchWindow h s = .next s; rw [execWinchWindow, w],
    by change execWinchWindowClose h s = .next s; rw [execWinchWindowClose, w]⟩

theorem winchAdvance_waits (w : startable s h.toNat 0x32 = none) : exec (.winchAdvance h) s = .next s := by
  change execWinchAdvance h s = .next s
  rw [execWinchAdvance, w]

theorem migrate_waits (w : startable s h.toNat 0x33 = none) : exec (.migrate h) s = .next s := by
  change execMigrate h s = .next s
  rw [execMigrate, w]

theorem flush_waits (w : startable s h.toNat 0x34 = none) : exec (.flush h) s = .next s := by
  change execFlush h s = .next s
  rw [execFlush, w]

theorem stackEvacuate_waits (w : startable s h.toNat 0x35 = none) : exec (.stackEvacuate h) s = .next s := by
  change execStackEvacuate h s = .next s
  rw [execStackEvacuate, w]

theorem copy_waits (w : startable s h.toNat 0x58 = none) : exec (.copy h) s = .next s := by
  change execCopy h s = .next s
  rw [execCopy, w]

theorem fill_rows_wait (w : startable s h.toNat 0x59 = none) :
    exec (.fill h) s = .next s ∧ exec (.fillLazy h) s = .next s :=
  ⟨by change execFill h s = .next s; rw [execFill, w],
    by change execFillLazy h s = .next s; rw [execFillLazy, w]⟩

/-! ### Descriptors of compression (09) -/

theorem ctableLoad_waits (w : startable s h.toNat 0x38 = none) : exec (.ctableLoad h) s = .next s := by
  change execCtableLoad h s = .next s
  rw [execCtableLoad, w]

theorem buildRow_waits {mode : Nat} {run : HandleRec → State} (w : startable s h.toNat 0x39 = none) : buildRow h mode s run = .next s := by
  rw [buildRow, w]

theorem build_rows_wait (w : startable s h.toNat 0x39 = none) :
    exec (.build h) s = .next s ∧ exec (.buildEncode h) s = .next s ∧ exec (.encode h) s = .next s ∧ exec (.expand h) s = .next s ∧
    exec (.release h) s = .next s :=
  ⟨buildRow_waits w, buildRow_waits w, buildRow_waits w, buildRow_waits w, buildRow_waits w⟩

theorem ctableRetire_rows_wait (w : startable s h.toNat 0x3A = none) :
    exec (.ctableRetire h) s = .next s ∧ exec (.ctableRetireRecode h) s = .next s :=
  ⟨by change execCtableRetire h s = .next s; rw [execCtableRetire, w],
    by change execCtableRetireRecode h s = .next s; rw [execCtableRetireRecode, w]⟩

/-! ### Descriptors of bank arithmetic (11) -/

theorem bauLaunch_waits (w : startable s h.toNat 0x40 = none) : exec (.bauLaunch h) s = .next s := by
  change execBauLaunch h s = .next s
  rw [execBauLaunch, w]

theorem bauPlace_rows_wait (w : startable s h.toNat 0x41 = none) :
    exec (.bauPlace h) s = .next s ∧ exec (.bauPlaceRelease h) s = .next s :=
  ⟨by change execBauPlace h s = .next s; rw [execBauPlace, w],
    by change execBauPlaceRelease h s = .next s; rw [execBauPlaceRelease, w]⟩

/-! ### Descriptors of kernels (12) -/

theorem kernelLoad_rows_wait (w : startable s h.toNat 0x48 = none) :
    exec (.kernelLoad h) s = .next s ∧ exec (.kernelUnload h) s = .next s :=
  ⟨by change execKernelLoad h s = .next s; rw [execKernelLoad, w],
    by change execKernelUnload h s = .next s; rw [execKernelUnload, w]⟩

theorem launchRow_waits {mine : Nat → Bool} {h : Nat} (w : startable s h 0x49 = none) : launchRow mine h s = s := by
  rw [launchRow, w]

theorem launch_rows_wait (w : startable s h.toNat 0x49 = none) :
    exec (.kernelLaunch h) s = .next s ∧ exec (.trReduce h) s = .next s ∧ exec (.trGather h) s = .next s ∧ exec (.trScatter h) s = .next s ∧
    exec (.trFilter h) s = .next s :=
  have row {mine : Nat → Bool} : (.next (launchRow mine h.toNat s) : Out3) = .next s := congrArg _ (launchRow_waits w)
  ⟨row, row, row, row, row⟩

/-! ### Descriptors of trains (13) -/

theorem collRow_waits {kind h : Nat} (w : startable s h 0x4A = none) : collRow kind h s = s := by
  rw [collRow, w]

theorem collective_rows_wait (w : startable s h.toNat 0x4A = none) :
    exec (.barrier h) s = .next s ∧ exec (.bcast h) s = .next s ∧ exec (.reduce h) s = .next s ∧ exec (.allreduce h) s = .next s ∧
    exec (.allgather h) s = .next s ∧ exec (.reduceScatter h) s = .next s ∧ exec (.mcast h) s = .next s :=
  have row {kind : Nat} : (.next (collRow kind h.toNat s) : Out3) = .next s := congrArg _ (collRow_waits w)
  ⟨row, row, row, row, row, row, row⟩

theorem trainCreate_waits (w : startable s h.toNat 0x4B = none) : exec (.trainCreate h) s = .next s := by
  change execTrainCreate h s = .next s
  rw [execTrainCreate, w]

theorem trainEdit_rows_wait (w : startable s h.toNat 0x4C = none) :
    exec (.trainEdit h) s = .next s ∧ exec (.trainDelete h) s = .next s :=
  ⟨by change execTrainEdit h s = .next s; rw [execTrainEdit, w],
    by change execTrainDelete h s = .next s; rw [execTrainDelete, w]⟩

/-! ### Descriptors of paths and fences (14, 20) -/

theorem tetherOpen_waits (w : startable s h.toNat 0x50 = none) : exec (.tetherOpen h) s = .next s := by
  change execTetherOpen h s = .next s
  rw [execTetherOpen, w]

theorem tetherClose_waits (w : startable s h.toNat 0x51 = none) : exec (.tetherClose h) s = .next s := by
  change execTetherClose h s = .next s
  rw [execTetherClose, w]

theorem pathUpdate_waits (w : startable s h.toNat 0x52 = none) : exec (.pathUpdate h) s = .next s := by
  change execPathUpdate h s = .next s
  rw [execPathUpdate, w]

theorem fenceDomain_waits (w : startable s h.toNat 0x53 = none) : exec (.fenceDomain h) s = .next s := by
  change execFenceDomain h s = .next s
  rw [execFenceDomain, w]

theorem unfenceDomain_waits (w : startable s h.toNat 0x54 = none) : exec (.unfenceDomain h) s = .next s := by
  change execUnfenceDomain h s = .next s
  rw [execUnfenceDomain, w]

theorem spareQuery_waits (w : startable s h.toNat 0x60 = none) : exec (.spareQuery h) s = .next s := by
  change execSpareQuery h s = .next s
  rw [execSpareQuery, w]

/-! ### Descriptors of composition whose turn has not come (R68) -/

theorem waitTurn_of_not_startable {h op : Nat} (w : startable s h op = none) : waitTurn s h op = .next s := by
  rw [waitTurn, w]

theorem waitTurn_of_startable {h op : Nat} {r : HandleRec} (w : startable s h op = some r) :
    waitTurn s h op = .next (markStarted s h) := by
  rw [waitTurn, w]

theorem extentGrant_rows_take_turn (c : compTurn s h.toNat 0x10 = none) :
    exec (.extentCreate h) s = waitTurn s h.toNat 0x10 ∧ exec (.extentGrant h) s = waitTurn s h.toNat 0x10 :=
  ⟨by change execExtentCreate h s = _; rw [execExtentCreate, c],
    by change execExtentGrant h s = _; rw [execExtentGrant, c]⟩

theorem extentRevoke_takes_turn (c : compTurn s h.toNat 0x11 = none) :
    exec (.extentRevoke h) s = waitTurn s h.toNat 0x11 := by
  change execExtentRevoke h s = _
  rw [execExtentRevoke, c]

theorem extentResize_takes_turn (c : compTurn s h.toNat 0x12 = none) :
    exec (.extentResize h) s = waitTurn s h.toNat 0x12 := by
  change execExtentResize h s = _
  rw [execExtentResize, c]

theorem mapCommit_takes_turn (c : compTurn s h.toNat 0x14 = none) :
    exec (.mapCommit h) s = waitTurn s h.toNat 0x14 := by
  change execMapCommit h s = _
  rw [execMapCommit, c]

end Waiting

/-- Settles O12: each row by the lemma about its opcode; those of composition by what `waitTurn` does. -/
theorem descriptorsWait : Obligations.DescriptorsWait := by
  intro s h
  refine ⟨nop_waits, abort_waits, queryHandle_waits, quotaSet_waits, shelfCreate_waits, shelfOpen_waits, shelfClose_waits, draftBegin_waits,
    draftPublish_waits, draftDiscard_waits, drawerCreate_waits, drawerOffer_waits, drawerAccept_waits, drawerRelease_waits,
    drawerLease_rows_wait, place_waits, winchWindow_rows_wait, winchAdvance_waits, migrate_waits, flush_waits, stackEvacuate_waits,
    ctableLoad_waits, build_rows_wait, ctableRetire_rows_wait, bauLaunch_waits, bauPlace_rows_wait, kernelLoad_rows_wait,
    launch_rows_wait, collective_rows_wait, trainCreate_waits, trainEdit_rows_wait, tetherOpen_waits, tetherClose_waits,
    pathUpdate_waits, fenceDomain_waits, unfenceDomain_waits, copy_waits, fill_rows_wait, spareQuery_waits,
    ?_, ?_, ?_, ?_, ?_, ?_, ?_, ?_⟩
  · intro c w
    rw [(extentGrant_rows_take_turn c).1, (extentGrant_rows_take_turn c).2, waitTurn_of_not_startable w]
    exact ⟨rfl, rfl⟩
  · intro c w
    rw [extentRevoke_takes_turn c, waitTurn_of_not_startable w]
  · intro c w
    rw [extentResize_takes_turn c, waitTurn_of_not_startable w]
  · intro c w
    rw [mapCommit_takes_turn c, waitTurn_of_not_startable w]
  · intro r c w
    rw [(extentGrant_rows_take_turn c).1, (extentGrant_rows_take_turn c).2, waitTurn_of_startable w]
    exact ⟨rfl, rfl⟩
  · intro r c w
    rw [extentRevoke_takes_turn c, waitTurn_of_startable w]
  · intro r c w
    rw [extentResize_takes_turn c, waitTurn_of_startable w]
  · intro r c w
    rw [mapCommit_takes_turn c, waitTurn_of_startable w]

end Sys2Proof.Machine

/-! Ring states, doorbells and the fetch (02): each row where it takes effect (O19). -/

namespace Sys2Proof.Machine

/-! ## Ring states (R30) -/

/-- A ring with no records held is ACTIVE at once, at the start of its next generation. -/
theorem ringEnable_activates : Claims.ringEnable := by
  intro s n disabled valid noneHeld
  refine ⟨setRing s n.val { ringOf s n.val with
      st := .active, enable := true, closing := false, gen := ((ringOf s n.val).gen + 1) % 16, cause := 0, seq := 0, tail := 0, cons := 0,
      written := 0, lastShadow := 0, commits := [], oldDue := none, notifyPend := false, lastNotify := none }, ?_, by simp⟩
  change execRingEnable n s = _
  simp [execRingEnable, disabled, valid, noneHeld, writeOld]

/-- R30, R37. -/
theorem ringDisable_drains : Claims.ringDisable := by
  intro s n active
  change execRingDisable n s = _
  simp only [execRingDisable, active]

/-- R30. That the halt's cause goes is assumption log entry 17, and that a closing ring is left out entry 98. -/
theorem resume_activates : Claims.resume := by
  intro s n halted open_
  change execResume n s = _
  simp only [execResume, halted, open_, and_self, if_true]

/-- R30. -/
theorem ringDrained_disables : Claims.ringDrained := by
  intro s n draining idle written
  refine ⟨setRing s n.val { ringOf s n.val with st := .disabled, enable := false, closing := false, cause := 0 }, ?_, ?_⟩
  · change execRingDrained n s = _
    simp [execRingDrained, draining, idle, written]
  · simp

/-! ## Doorbells, fetch and arrival (R32, R35 to R40, R80) -/

/-- R32. -/
theorem doorbell_applies : Claims.doorbell := by
  intro s key w valid
  change execDoorbell none key w s = _
  simp [execDoorbell, doorbell, valid]

/-- Ring `n` asks its requester for its next descriptor, whose handle is then being fetched (R36, R40); `used` of its turn are taken. -/
def fetchNext (s : State) (n used : Nat) : State :=
  let r := ringOf s n
  let h := handleId n r.gen r.seq
  let t := setRing (setHandle (emit s (.hostRead (ringPath s n) h ((regGet s (ringBase n)).toNat + 64 * (r.seq % ringSqDepth s n)) 64)) h
    { ring := n, gen := r.gen, seq := r.seq }) n { r with seq := r.seq + 1 }
  { t with rings := { t.rings with rotRing := n, rotUsed := used } }

theorem handleOf_fetchNext (s : State) (n used : Nat) : handleOf (fetchNext s n used) (handleId n (ringOf s n).gen (ringOf s n).seq) =
    some { ring := n, gen := (ringOf s n).gen, seq := (ringOf s n).seq } :=
  tblFind_put ..

theorem ringOf_fetchNext (s : State) (n used : Nat) : ringOf (fetchNext s n used) n = { ringOf s n with seq := (ringOf s n).seq + 1 } :=
  tblGet_put ..

theorem fetchNext_out (s : State) (n used : Nat) : (fetchNext s n used).out = s.out ++ [.hostRead (ringPath s n)
    (handleId n (ringOf s n).gen (ringOf s n).seq) ((regGet s (ringBase n)).toNat + 64 * ((ringOf s n).seq % ringSqDepth s n)) 64] := rfl

/-- The head shadows that a fetch makes due on its ring, `since` fetches after the last, and on all rings at the limit (R36, R37). -/
def showHeads (since n : Nat) (ok : Bool) (s : State) : State :=
  let t := if 32 ≤ since ∨ fetchable s n = false then shadowAfter s n ok else s
  if 262144 ≤ liveTotal t then pauseAll t else t

theorem showHeads_kept (since n : Nat) (ok : Bool) (s : State) : FetchKept s (showHeads since n ok s) := by
  have shadow : FetchKept s (if 32 ≤ since ∨ fetchable s n = false then shadowAfter s n ok else s) := by
    split
    · exact shadowAfter_kept s n ok
    · exact .refl s
  have pause (t : State) : FetchKept t (if 262144 ≤ liveTotal t then pauseAll t else t) := by
    split
    · exact pauseAll_kept t
    · exact .refl t
  exact shadow.trans (pause _)

/-- Below the limit of R36 a fetch takes the next descriptor of the next ring, and shows the heads that are due. -/
theorem exec_descriptorFetch_next {s : State} {n : Nat} (ok : Bool) (serving : s.sys.st = .serving) (running : s.settle.boot = .running)
    (room : liveTotal s < 262144) (next : nextRing s = some n) :
    exec (.descriptorFetch ok) s = .next (showHeads ((ringOf s n).seq + 1 - (ringOf s n).lastShadow) n ok
      (fetchNext s n (if n = s.rings.rotRing ∧ s.rings.rotUsed < 8 then s.rings.rotUsed + 1 else 1))) := by
  change execDescriptorFetch ok s = _
  simp only [execDescriptorFetch, serving, running, next, ne_eq, not_true, or_self, if_false, Nat.not_le.mpr room]
  rfl

/-- R36, R40: the handle, the read and the sequence outlast the head shadows. -/
theorem descriptorFetch_fetches : Claims.descriptorFetch := by
  intro s n serving running room next
  refine ⟨_, exec_descriptorFetch_next true serving running room next, ?_⟩
  obtain ⟨handles, seq, out⟩ := showHeads_kept ((ringOf s n).seq + 1 - (ringOf s n).lastShadow) n true
    (fetchNext s n (if n = s.rings.rotRing ∧ s.rings.rotUsed < 8 then s.rings.rotUsed + 1 else 1))
  refine ⟨⟨{ ring := n, gen := (ringOf s n).gen, seq := (ringOf s n).seq }, ?_, rfl⟩, out _ ?_, ?_⟩
  · rw [handleOf, handles]
    exact handleOf_fetchNext ..
  · simp [fetchNext_out]
  · rw [seq, ringOf_fetchNext]

/-- R80: the first image of a live handle is kept. -/
theorem hostImageReadDone_keeps : Claims.hostImageReadDone := by
  intro s h r b handle live no_image clean
  change execHostImageReadDone h (.data b) s = _
  simp [execHostImageReadDone, handle, live, no_image, clean]

/-- Settles O19: each row by the lemma about its command. -/
theorem ringCommandsComplete : Obligations.RingCommandsComplete :=
  ⟨ringEnable_activates, ringDisable_drains, resume_activates, ringDrained_disables, doorbell_applies, descriptorFetch_fetches,
    fun _ _ _ _ live fetching first => exec_descriptorArrive_data live fetching first, hostImageReadDone_keeps⟩

end Sys2Proof.Machine

/-! Commit latch, records, notifications and the operations on handles (02): each row where it takes effect (O20). -/

namespace Sys2Proof.Machine

/-! ## Latch, records and notifications (R43 to R55) -/

/-- R49: the completion of an engine of this switch, for an operation that neither ends a sequence nor is a collective, is the commit. -/
theorem latchSet_commits : Claims.latchSet := by
  intro s h r st a b handle home fin ending op
  change execLatchSet h none s = _
  simp [execLatchSet, handle, home, fin, ending, op]

/-- R43, R44: one due record at the front of the commit order is written, and the write stops there. -/
theorem completionRecordWrite_writes : Claims.completionRecordWrite := by
  intro s n h hs active old commits due
  change execCompletionRecordWrite n true s = _
  simp [execCompletionRecordWrite, active, old, commits, due, writeDue]

/-- R45, R546. -/
theorem notification_raises : Claims.notification := by
  intro s n pend never mgmt
  change execNotification n s = _
  have mgmt' (r : Ring) : ringMgmt (setRing s n.val r) n.val = true := mgmt
  simp [execNotification, pend, never, mgmt']

/-- R52. -/
theorem abortStopPoint_fills : Claims.abortStopPoint := by
  intro s h r handle won committed waits stop
  change execAbortStopPoint h s = _
  simp [execAbortStopPoint, handle, won, committed, waits, stop]

/-- R55. -/
theorem heldRecordDrop_drops : Claims.heldRecordDrop := by
  intro s n t due disabled past
  change execHeldRecordDrop n s = _
  simp [execHeldRecordDrop, due, disabled, past]

/-! ## NOP, ABORT and QUERY_HANDLE (R46, R48, R50, R51) -/

/-- R46. -/
theorem nop_completes : Claims.nop := by
  intro s h r start
  change execNop h s = _
  rw [execNop, start]

/-- A target that was not forwarded runs at this switch (R165). -/
theorem targetAway_of_here {s : State} {t : Nat} {x : HandleRec} (handle : handleOf s t = some x) (here : x.sentTo = none) : targetAway s t = none := by
  simp [targetAway, handle, here]

/-- R50, R51. That the ABORT completes with result1 = 0 is assumption log entry 14. -/
theorem abort_wins : Claims.abort := by
  intro s h r x row start key target live here op abortable running
  change execAbort h s = _
  simp [execAbort, start, key, target, live, targetAway_of_here target here, op, abortable, running]

/-- R48. -/
theorem queryHandle_answers : Claims.queryHandle := by
  intro s h r x start key target here
  change execQueryHandle h s = _
  simp [execQueryHandle, start, key, targetAway_of_here target here, queryResults, target]

/-- Settles O20: each row by the lemma about its command. -/
theorem completionCommandsComplete : Obligations.CompletionCommandsComplete :=
  ⟨latchSet_commits, completionRecordWrite_writes, notification_raises, abortStopPoint_fills, heldRecordDrop_drops, nop_completes, abort_wins,
    queryHandle_answers⟩

end Sys2Proof.Machine

/-! Pool memory keeps its canonical form (O7): what the Keep laws say of each command, joined over the commands and taken to a step. -/

namespace Sys2Proof.Machine

/-- A next state that `r` answers has its memory in canonical form where `s` has it so. -/
def KeepsForm (s : State) (r : Out3) : Prop := ∀ t, r = .next t → s.Inv → t.Inv

theorem SameO.keepsForm {F : Nat} {s : State} {r : Out3} (h : SameO F s (outSt r)) : KeepsForm s r :=
  fun _ answer => (h.next answer).mem

/-- Every command keeps the form, by the law of its meaning. -/
theorem exec_keepsForm : ∀ (c : Instr) (s : State), KeepsForm s (exec c s)
  | .registerWrite .., _ => (execRegisterWrite_same ..).keepsForm
  | .lowWordRead .., _ => (execLowWordRead_same ..).keepsForm
  | .setupOpenClose .., _ => (execSetupOpenClose_same ..).keepsForm
  | .serve, _ => (execServe_same ..).keepsForm
  | .tenantCtlWrite .., _ => (execTenantCtlWrite_same ..).keepsForm
  | .portKeyWrite .., _ => (execPortKeyWrite_same ..).keepsForm
  | .policerWrite .., _ => (execPolicerWrite_same ..).keepsForm
  | .wredProfileWrite .., _ => (execWredProfileWrite_same ..).keepsForm
  | .boardRead .., _ => (execBoardRead_same ..).keepsForm
  | .boardWrite .., _ => (execBoardWrite_same ..).keepsForm
  | .msixUnmask .., _ => (execMsixUnmask_same ..).keepsForm
  | .jtagInstruction .., _ => (execJtagInstruction_same ..).keepsForm
  | .ringEnable .., _ => (execRingEnable_same ..).keepsForm
  | .ringDisable .., _ => (execRingDisable_same ..).keepsForm
  | .resume .., _ => (execResume_same ..).keepsForm
  | .ringDrained .., _ => (execRingDrained_same ..).keepsForm
  | .doorbell .., _ => (execDoorbell_same ..).keepsForm
  | .descriptorFetch .., _ => (execDescriptorFetch_same ..).keepsForm
  | .descriptorArrive .., _ => (execDescriptorArrive_same ..).keepsForm
  | .hostImageReadDone .., _ => (execHostImageReadDone_same ..).keepsForm
  | .latchSet .., _ => (execLatchSet_same ..).keepsForm
  | .completionRecordWrite .., _ => (execCompletionRecordWrite_same ..).keepsForm
  | .notification .., _ => (execNotification_same ..).keepsForm
  | .abortStopPoint .., _ => (execAbortStopPoint_same ..).keepsForm
  | .heldRecordDrop .., _ => (execHeldRecordDrop_same ..).keepsForm
  | .nop .., _ => (execNop_same ..).keepsForm
  | .abort .., _ => (execAbort_same ..).keepsForm
  | .queryHandle .., _ => (execQueryHandle_same ..).keepsForm
  | .extentCreate .., _ => (execExtentCreate_same ..).keepsForm
  | .extentGrant .., _ => (execExtentGrant_same ..).keepsForm
  | .extentRevoke .., _ => (execExtentRevoke_same ..).keepsForm
  | .extentResize .., _ => (execExtentResize_same ..).keepsForm
  | .quotaSet .., _ => (execQuotaSet_same ..).keepsForm
  | .quotaDemotionEnd .., _ => (execQuotaDemotionEnd_same ..).keepsForm
  | .mapCommit .., _ => (execMapCommit_same ..).keepsForm
  | .mapGenPublish, _ => (execMapGenPublish_same ..).keepsForm
  | .generationDrained .., _ => (execGenerationDrained_same ..).keepsForm
  | .compositionComplete .., _ => (execCompositionComplete_same ..).keepsForm
  | .pageFreeScrub .., _ => (execPageFreeScrub_same ..).keepsForm
  | .xlateCacheFill .., _ => (execXlateCacheFill_same ..).keepsForm
  | .pageAgeTick, _ => (execPageAgeTick_same ..).keepsForm
  | .requestIngress .., _ => (execRequestIngress_same ..).keepsForm
  | .rdnc .., _ => (execRdnc_same ..).keepsForm
  | .rdshared .., _ => (execRdshared_same ..).keepsForm
  | .rdown .., _ => (execRdown_same ..).keepsForm
  | .atomnear .., _ => (execAtomnear_same ..).keepsForm
  | .wrline .., _ => (execWrline_same ..).keepsForm
  | .wrptl .., _ => (execWrptl_same ..).keepsForm
  | .atomfar .., _ => (execAtomfar_same ..).keepsForm
  | .wbdirty .., _ => (execWbdirty_same ..).keepsForm
  | .rspi .., _ => (execRspi_same ..).keepsForm
  | .rspiwb .., _ => (execRspiwb_same ..).keepsForm
  | .rspidata .., _ => (execRspidata_same ..).keepsForm
  | .rsps .., _ => (execRsps_same ..).keepsForm
  | .rspsdata .., _ => (execRspsdata_same ..).keepsForm
  | .rspcur .., _ => (execRspcur_same ..).keepsForm
  | .rspcurdata .., _ => (execRspcurdata_same ..).keepsForm
  | .gntack .., _ => (execGntack_same ..).keepsForm
  | .trackerFree .., _ => (execTrackerFree_same ..).keepsForm
  | .waitQueueTakeUp .., _ => (execWaitQueueTakeUp_same ..).keepsForm
  | .recallSnoopIssue .., _ => (execRecallSnoopIssue_same ..).keepsForm
  | .memoryReadDone .., _ => (execMemoryReadDone_same ..).keepsForm
  | .memoryWriteDone .., _ => (execMemoryWriteDone_same ..).keepsForm
  | .ringBroadcastResponse .., _ => (execRingBroadcastResponse_same ..).keepsForm
  | .snoopRetry .., _ => (execSnoopRetry_same ..).keepsForm
  | .snoopTimeout .., _ => (execSnoopTimeout_same ..).keepsForm
  | .filterSweepEnd .., _ => (execFilterSweepEnd_same ..).keepsForm
  | .cxlMemrd .., _ => (execCxlMemrd_same ..).keepsForm
  | .cxlMemrddata .., _ => (execCxlMemrddata_same ..).keepsForm
  | .cxlMemwr .., _ => (execCxlMemwr_same ..).keepsForm
  | .cxlMemwrptl .., _ => (execCxlMemwrptl_same ..).keepsForm
  | .memclnevct .., _ => (execMemclnevct_same ..).keepsForm
  | .memspecrd .., _ => (execMemspecrd_same ..).keepsForm
  | .meminv .., _ => (execMeminv_same ..).keepsForm
  | .birspi .., _ => (execBirspi_same ..).keepsForm
  | .birsps .., _ => (execBirsps_same ..).keepsForm
  | .birspe .., _ => (execBirspe_same ..).keepsForm
  | .biconflict .., _ => (execBiconflict_same ..).keepsForm
  | .fenceall .., _ => (execFenceall_same ..).keepsForm
  | .fencewr .., _ => (execFencewr_same ..).keepsForm
  | .fencesync .., _ => (execFencesync_same ..).keepsForm
  | .requestRetire .., _ => (execRequestRetire_same ..).keepsForm
  | .heldRequestRelease .., _ => (execHeldRequestRelease_same ..).keepsForm
  | .atomcomb .., _ => (execAtomcomb_same ..).keepsForm
  | .cmpcomb .., _ => (execCmpcomb_same ..).keepsForm
  | .atomretire .., _ => (execAtomretire_same ..).keepsForm
  | .atomicWindowRelease .., _ => (execAtomicWindowRelease_same ..).keepsForm
  | .replayEntryFree .., _ => (execReplayEntryFree_same ..).keepsForm
  | .farEnter .., _ => (execFarEnter_same ..).keepsForm
  | .farLineOp .., _ => (execFarLineOp_same ..).keepsForm
  | .farQuietExpire .., _ => (execFarQuietExpire_same ..).keepsForm
  | .farExitDone .., _ => (execFarExitDone_same ..).keepsForm
  | .forwardedDescriptor .., _ => (execForwardedDescriptor_same ..).keepsForm
  | .shelfCreate .., _ => (execShelfCreate_same ..).keepsForm
  | .shelfOpen .., _ => (execShelfOpen_same ..).keepsForm
  | .shelfClose .., _ => (execShelfClose_same ..).keepsForm
  | .draftBegin .., _ => (execDraftBegin_same ..).keepsForm
  | .draftPublish .., _ => (execDraftPublish_same ..).keepsForm
  | .draftDiscard .., _ => (execDraftDiscard_same ..).keepsForm
  | .publishRecallEnd .., _ => (execPublishRecallEnd_same ..).keepsForm
  | .publishDecide .., _ => (execPublishDecide_same ..).keepsForm
  | .publishCommit .., _ => (execPublishCommit_same ..).keepsForm
  | .slotFree .., _ => (execSlotFree_same ..).keepsForm
  | .cowCopyDone .., _ => (execCowCopyDone_same ..).keepsForm
  | .versionReclaim .., _ => (execVersionReclaim_same ..).keepsForm
  | .drawerCreate .., _ => (execDrawerCreate_same ..).keepsForm
  | .drawerOffer .., _ => (execDrawerOffer_same ..).keepsForm
  | .drawerAccept .., _ => (execDrawerAccept_same ..).keepsForm
  | .drawerRelease .., _ => (execDrawerRelease_same ..).keepsForm
  | .drawerLease .., _ => (execDrawerLease_same ..).keepsForm
  | .drawerLeaseQuery .., _ => (execDrawerLeaseQuery_same ..).keepsForm
  | .drawerRecallEnd .., _ => (execDrawerRecallEnd_same ..).keepsForm
  | .drawerOfferDeadline .., _ => (execDrawerOfferDeadline_same ..).keepsForm
  | .drawerLeaseExpiry .., _ => (execDrawerLeaseExpiry_same ..).keepsForm
  | .drawerReleaseDone .., _ => (execDrawerReleaseDone_same ..).keepsForm
  | .place .., _ => (execPlace_same ..).keepsForm
  | .winchWindow .., _ => (execWinchWindow_same ..).keepsForm
  | .winchWindowClose .., _ => (execWinchWindowClose_same ..).keepsForm
  | .winchAdvance .., _ => (execWinchAdvance_same ..).keepsForm
  | .migrate .., _ => (execMigrate_same ..).keepsForm
  | .flush .., _ => (execFlush_same ..).keepsForm
  | .stackEvacuate .., _ => (execStackEvacuate_same ..).keepsForm
  | .copy .., _ => (execCopy_same ..).keepsForm
  | .fill .., _ => (execFill_same ..).keepsForm
  | .fillLazy .., _ => (execFillLazy_same ..).keepsForm
  | .lazyFillPageDone .., _ => (execLazyFillPageDone_same ..).keepsForm
  | .winchUnitIssue .., _ => (execWinchUnitIssue_same ..).keepsForm
  | .winchUnitDone .., _ => (execWinchUnitDone_same ..).keepsForm
  | .chunkCopied .., _ => (execChunkCopied_same ..).keepsForm
  | .chunkDrained .., _ => (execChunkDrained_same ..).keepsForm
  | .writebackAgeExpire .., _ => (execWritebackAgeExpire_same ..).keepsForm
  | .journalProgress .., _ => (execJournalProgress_same ..).keepsForm
  | .ctableLoad .., _ => (execCtableLoad_same ..).keepsForm
  | .build .., _ => (execBuild_same ..).keepsForm
  | .buildEncode .., _ => (execBuildEncode_same ..).keepsForm
  | .encode .., _ => (execEncode_same ..).keepsForm
  | .expand .., _ => (execExpand_same ..).keepsForm
  | .release .., _ => (execRelease_same ..).keepsForm
  | .ctableRetire .., _ => (execCtableRetire_same ..).keepsForm
  | .ctableRetireRecode .., _ => (execCtableRetireRecode_same ..).keepsForm
  | .blockRefetch .., _ => (execBlockRefetch_same ..).keepsForm
  | .refreshDue .., _ => (execRefreshDue_same ..).keepsForm
  | .preemptionPoint .., _ => (execPreemptionPoint_same ..).keepsForm
  | .tempSample .., _ => (execTempSample_same ..).keepsForm
  | .dramReread .., _ => (execDramReread_same ..).keepsForm
  | .rowSpareCopyDone .., _ => (execRowSpareCopyDone_same ..).keepsForm
  | .bankReplaceCopyDone .., _ => (execBankReplaceCopyDone_same ..).keepsForm
  | .patrolScrub .., _ => (execPatrolScrub_same ..).keepsForm
  | .stackUnreadable .., _ => (execStackUnreadable_same ..).keepsForm
  | .bauPlace .., _ => (execBauPlace_same ..).keepsForm
  | .bauPlaceRelease .., _ => (execBauPlaceRelease_same ..).keepsForm
  | .bauLaunch .., _ => (execBauLaunch_same ..).keepsForm
  | .bauHoldsInstalled .., _ => (execBauHoldsInstalled_same ..).keepsForm
  | .bauSequenceStart .., _ => (execBauSequenceStart_same ..).keepsForm
  | .bauQuantumGrant .., _ => (execBauQuantumGrant_same ..).keepsForm
  | .bauQuantumFault .., _ => (execBauQuantumFault_same ..).keepsForm
  | .bauSequenceEnd .., _ => (execBauSequenceEnd_same ..).keepsForm
  | .bauLi .., _ => (execBauLi_same ..).keepsForm
  | .bauAddi .., _ => (execBauAddi_same ..).keepsForm
  | .bauSetc .., _ => (execBauSetc_same ..).keepsForm
  | .bauLoop .., _ => (execBauLoop_same ..).keepsForm
  | .bauSetf .., _ => (execBauSetf_same ..).keepsForm
  | .bauEnd .., _ => (execBauEnd_same ..).keepsForm
  | .bauLds .., _ => (execBauLds_same ..).keepsForm
  | .bauMv .., _ => (execBauMv_same ..).keepsForm
  | .bauScore .., _ => (execBauScore_same ..).keepsForm
  | .bauSmx .., _ => (execBauSmx_same ..).keepsForm
  | .bauMvt .., _ => (execBauMvt_same ..).keepsForm
  | .bauAttn .., _ => (execBauAttn_same ..).keepsForm
  | .bauZacc .., _ => (execBauZacc_same ..).keepsForm
  | .bauMulf .., _ => (execBauMulf_same ..).keepsForm
  | .bauMulv .., _ => (execBauMulv_same ..).keepsForm
  | .bauNorm .., _ => (execBauNorm_same ..).keepsForm
  | .bauSt .., _ => (execBauSt_same ..).keepsForm
  | .bauSts .., _ => (execBauSts_same ..).keepsForm
  | .kernelLoad .., _ => (execKernelLoad_same ..).keepsForm
  | .kernelUnload .., _ => (execKernelUnload_same ..).keepsForm
  | .kernelLaunch .., _ => (execKernelLaunch_same ..).keepsForm
  | .trReduce .., _ => (execTrReduce_same ..).keepsForm
  | .trGather .., _ => (execTrGather_same ..).keepsForm
  | .trScatter .., _ => (execTrScatter_same ..).keepsForm
  | .trFilter .., _ => (execTrFilter_same ..).keepsForm
  | .gangDispatch .., _ => (execGangDispatch_same ..).keepsForm
  | .gangResultArrive .., _ => (execGangResultArrive_same ..).keepsForm
  | .chunkTimeLimit .., _ => (execChunkTimeLimit_same ..).keepsForm
  | .trestleFault .., _ => (execTrestleFault_same ..).keepsForm
  | .launchCommit .., _ => (execLaunchCommit_same ..).keepsForm
  | .trestleLi .., _ => (execTrestleLi_same ..).keepsForm
  | .trestleLih .., _ => (execTrestleLih_same ..).keepsForm
  | .trestleAdd .., _ => (execTrestleAdd_same ..).keepsForm
  | .trestleSub .., _ => (execTrestleSub_same ..).keepsForm
  | .trestleMul .., _ => (execTrestleMul_same ..).keepsForm
  | .trestleDivu .., _ => (execTrestleDivu_same ..).keepsForm
  | .trestleAnd .., _ => (execTrestleAnd_same ..).keepsForm
  | .trestleOr .., _ => (execTrestleOr_same ..).keepsForm
  | .trestleXor .., _ => (execTrestleXor_same ..).keepsForm
  | .trestleShl .., _ => (execTrestleShl_same ..).keepsForm
  | .trestleShr .., _ => (execTrestleShr_same ..).keepsForm
  | .trestleMinmax .., _ => (execTrestleMinmax_same ..).keepsForm
  | .trestleCmp .., _ => (execTrestleCmp_same ..).keepsForm
  | .trestleSel .., _ => (execTrestleSel_same ..).keepsForm
  | .trestlePopc .., _ => (execTrestlePopc_same ..).keepsForm
  | .trestleSpecial .., _ => (execTrestleSpecial_same ..).keepsForm
  | .trestleFadd .., _ => (execTrestleFadd_same ..).keepsForm
  | .trestleFmul .., _ => (execTrestleFmul_same ..).keepsForm
  | .trestleFfma .., _ => (execTrestleFfma_same ..).keepsForm
  | .trestleFminmax .., _ => (execTrestleFminmax_same ..).keepsForm
  | .trestleFcmp .., _ => (execTrestleFcmp_same ..).keepsForm
  | .trestleCvt .., _ => (execTrestleCvt_same ..).keepsForm
  | .trestleBr .., _ => (execTrestleBr_same ..).keepsForm
  | .trestleIf .., _ => (execTrestleIf_same ..).keepsForm
  | .trestleElse .., _ => (execTrestleElse_same ..).keepsForm
  | .trestleEndif .., _ => (execTrestleEndif_same ..).keepsForm
  | .trestleChunk .., _ => (execTrestleChunk_same ..).keepsForm
  | .trestleFence .., _ => (execTrestleFence_same ..).keepsForm
  | .trestleEnd .., _ => (execTrestleEnd_same ..).keepsForm
  | .trestleLd .., _ => (execTrestleLd_same ..).keepsForm
  | .trestleSt .., _ => (execTrestleSt_same ..).keepsForm
  | .trestleAtom .., _ => (execTrestleAtom_same ..).keepsForm
  | .trestleVld .., _ => (execTrestleVld_same ..).keepsForm
  | .trestleVst .., _ => (execTrestleVst_same ..).keepsForm
  | .trestleVadd .., _ => (execTrestleVadd_same ..).keepsForm
  | .trestleVmul .., _ => (execTrestleVmul_same ..).keepsForm
  | .trestleVfma .., _ => (execTrestleVfma_same ..).keepsForm
  | .trestleVminmax .., _ => (execTrestleVminmax_same ..).keepsForm
  | .trestleVdot .., _ => (execTrestleVdot_same ..).keepsForm
  | .trestleVcvt .., _ => (execTrestleVcvt_same ..).keepsForm
  | .trestleVred .., _ => (execTrestleVred_same ..).keepsForm
  | .trestleVcmp .., _ => (execTrestleVcmp_same ..).keepsForm
  | .trestleVcmprs .., _ => (execTrestleVcmprs_same ..).keepsForm
  | .trestleVbcast .., _ => (execTrestleVbcast_same ..).keepsForm
  | .trestleVpack .., _ => (execTrestleVpack_same ..).keepsForm
  | .trestleVunpack .., _ => (execTrestleVunpack_same ..).keepsForm
  | .trainCreate .., _ => (execTrainCreate_same ..).keepsForm
  | .trainEdit .., _ => (execTrainEdit_same ..).keepsForm
  | .trainDelete .., _ => (execTrainDelete_same ..).keepsForm
  | .trainEntryDistribute .., _ => (execTrainEntryDistribute_same ..).keepsForm
  | .barrier .., _ => (execBarrier_same ..).keepsForm
  | .bcast .., _ => (execBcast_same ..).keepsForm
  | .reduce .., _ => (execReduce_same ..).keepsForm
  | .allreduce .., _ => (execAllreduce_same ..).keepsForm
  | .allgather .., _ => (execAllgather_same ..).keepsForm
  | .reduceScatter .., _ => (execReduceScatter_same ..).keepsForm
  | .mcast .., _ => (execMcast_same ..).keepsForm
  | .segmentArrive .., _ => (execSegmentArrive_same ..).keepsForm
  | .transitHop .., _ => (execTransitHop_same ..).keepsForm
  | .pathUpdate .., _ => (execPathUpdate_same ..).keepsForm
  | .pathmark .., _ => (execPathmark_same ..).keepsForm
  | .markack .., _ => (execMarkack_same ..).keepsForm
  | .tetherOpen .., _ => (execTetherOpen_same ..).keepsForm
  | .tetherClose .., _ => (execTetherClose_same ..).keepsForm
  | .tetherEntryInstall .., _ => (execTetherEntryInstall_same ..).keepsForm
  | .portDownFenceTimeout .., _ => (execPortDownFenceTimeout_same ..).keepsForm
  | .trunkActiveReport .., _ => (execTrunkActiveReport_same ..).keepsForm
  | .cellIngress .., _ => (execCellIngress_same ..).keepsForm
  | .stageCreditReturn .., _ => (execStageCreditReturn_same ..).keepsForm
  | .middlePull .., _ => (execMiddlePull_same ..).keepsForm
  | .resequenceCell .., _ => (execResequenceCell_same ..).keepsForm
  | .bufferRowFault .., _ => (execBufferRowFault_same ..).keepsForm
  | .sliceFault .., _ => (execSliceFault_same ..).keepsForm
  | .sliceTakeoverDone, _ => (execSliceTakeoverDone_same ..).keepsForm
  | .throttleIncreaseTick, _ => (execThrottleIncreaseTick_same ..).keepsForm
  | .throttleRelease .., _ => (execThrottleRelease_same ..).keepsForm
  | .wredDepthPublish .., _ => (execWredDepthPublish_same ..).keepsForm
  | .egressSchedule .., _ => (execEgressSchedule_same ..).keepsForm
  | .telemetrySample .., _ => (execTelemetrySample_same ..).keepsForm
  | .portTelSnap .., _ => (execPortTelSnap_same ..).keepsForm
  | .flitReceive .., _ => (execFlitReceive_same ..).keepsForm
  | .superframeMarker .., _ => (execSuperframeMarker_same ..).keepsForm
  | .idle .., _ => (execIdle_same ..).keepsForm
  | .nak .., _ => (execNak_same ..).keepsForm
  | .credit .., _ => (execCredit_same ..).keepsForm
  | .config .., _ => (execConfig_same ..).keepsForm
  | .laneReq .., _ => (execLaneReq_same ..).keepsForm
  | .laneAck .., _ => (execLaneAck_same ..).keepsForm
  | .retrainReq .., _ => (execRetrainReq_same ..).keepsForm
  | .ts1 .., _ => (execTs1_same ..).keepsForm
  | .ts2 .., _ => (execTs2_same ..).keepsForm
  | .trainingTimeout .., _ => (execTrainingTimeout_same ..).keepsForm
  | .trainRetryTimer .., _ => (execTrainRetryTimer_same ..).keepsForm
  | .replayTimeout .., _ => (execReplayTimeout_same ..).keepsForm
  | .nakRepeat .., _ => (execNakRepeat_same ..).keepsForm
  | .ackTimer .., _ => (execAckTimer_same ..).keepsForm
  | .spareRxAdapted .., _ => (execSpareRxAdapted_same ..).keepsForm
  | .laneReplaceTimeout .., _ => (execLaneReplaceTimeout_same ..).keepsForm
  | .linkEn .., _ => (execLinkEn_same ..).keepsForm
  | .retrain .., _ => (execRetrain_same ..).keepsForm
  | .fullRetrain .., _ => (execFullRetrain_same ..).keepsForm
  | .roll .., _ => (execRoll_same ..).keepsForm
  | .portReset .., _ => (execPortReset_same ..).keepsForm
  | .epmsg .., _ => (execEpmsg_same ..).keepsForm
  | .cxlLinkTrained .., _ => (execCxlLinkTrained_same ..).keepsForm
  | .cxlLinkDown .., _ => (execCxlLinkDown_same ..).keepsForm
  | .functionLevelReset .., _ => (execFunctionLevelReset_same ..).keepsForm
  | .biEnable .., _ => (execBiEnable_same ..).keepsForm
  | .ideEstablished .., _ => (execIdeEstablished_same ..).keepsForm
  | .ideFail .., _ => (execIdeFail_same ..).keepsForm
  | .trayBringup .., _ => (execTrayBringup_same ..).keepsForm
  | .trayResponse .., _ => (execTrayResponse_same ..).keepsForm
  | .trayResponseTimeout .., _ => (execTrayResponseTimeout_same ..).keepsForm
  | .trayEventLogPoll .., _ => (execTrayEventLogPoll_same ..).keepsForm
  | .getInfo, _ => (execGetInfo_same ..).keepsForm
  | .imageLoad .., _ => (execImageLoad_same ..).keepsForm
  | .imageActivate, _ => (execImageActivate_same ..).keepsForm
  | .svnCommit, _ => (execSvnCommit_same ..).keepsForm
  | .pmKeySet, _ => (execPmKeySet_same ..).keepsForm
  | .pmLoad .., _ => (execPmLoad_same ..).keepsForm
  | .pmUnload, _ => (execPmUnload_same ..).keepsForm
  | .pmStatus, _ => (execPmStatus_same ..).keepsForm
  | .pmQuantumTick .., _ => (execPmQuantumTick_same ..).keepsForm
  | .pmQueueSubmit .., _ => (execPmQueueSubmit_same ..).keepsForm
  | .settleCoreFault .., _ => (execSettleCoreFault_same ..).keepsForm
  | .watchdogReport, _ => (execWatchdogReport_same ..).keepsForm
  | .watchdogExpire, _ => (execWatchdogExpire_same ..).keepsForm
  | .fenceDomain .., _ => (execFenceDomain_same ..).keepsForm
  | .unfenceDomain .., _ => (execUnfenceDomain_same ..).keepsForm
  | .spareQuery .., _ => (execSpareQuery_same ..).keepsForm
  | .fenceNotice .., _ => (execFenceNotice_same ..).keepsForm
  | .domAlert .., _ => (execDomAlert_same ..).keepsForm
  | .winchEngineFault .., _ => (execWinchEngineFault_same ..).keepsForm
  | .compressionEngineFault .., _ => (execCompressionEngineFault_same ..).keepsForm
  | .porstN .., _ => (execPorstN_same ..).keepsForm
  | .cold, _ => (execCold_same ..).keepsForm
  | .warmRstN .., _ => (execWarmRstN_same ..).keepsForm
  | .warm, _ => (execWarm_same ..).keepsForm
  | .tenant .., _ => (execTenant_same ..).keepsForm
  | .island .., _ => (execIsland_same ..).keepsForm
  | .quiesceEnd, _ => (execQuiesceEnd_same ..).keepsForm
  | .warmRestart, _ => (execWarmRestart_same ..).keepsForm
  | .deviceOpen, _ => (execDeviceOpen_same ..).keepsForm
  | .perstN .., _ => (execPerstN_same ..).keepsForm
  | .startupTestDone .., _ => (execStartupTestDone_same ..).keepsForm
  | .refclkLost .., _ => (execRefclkLost_same ..).keepsForm
  | .refclkRestored .., _ => (execRefclkRestored_same ..).keepsForm
  | .timeDistribute .., _ => (execTimeDistribute_same ..).keepsForm
  | .ppsInEdge, _ => (execPpsInEdge_same ..).keepsForm
  | .ptpMessage .., _ => (execPtpMessage_same ..).keepsForm
  | .globalTimeSet .., _ => (execGlobalTimeSet_same ..).keepsForm
  | .ppsOutSecond, _ => (execPpsOutSecond_same ..).keepsForm
  | .railExcursion .., _ => (execRailExcursion_same ..).keepsForm
  | .railExcursionLimit .., _ => (execRailExcursionLimit_same ..).keepsForm
  | .vddAonLoss, _ => (execVddAonLoss_same ..).keepsForm
  | .swThermalAlert .., _ => (execSwThermalAlert_same ..).keepsForm
  | .thermtrip, _ => (execThermtrip_same ..).keepsForm
  | .avsPoll .., _ => (execAvsPoll_same ..).keepsForm
  | .avsTargetStep .., _ => (execAvsTargetStep_same ..).keepsForm
  | .deviceSnapshot, _ => (execDeviceSnapshot_same ..).keepsForm
  | .arpRequest .., _ => (execArpRequest_same ..).keepsForm
  | .phyPoll .., _ => (execPhyPoll_same ..).keepsForm
  | .domAlertRelease .., _ => (execDomAlertRelease_same ..).keepsForm
  | .swAlertClear, _ => (execSwAlertClear_same ..).keepsForm
  | .railReturn .., _ => (execRailReturn_same ..).keepsForm
  | .islandResetDone, _ => (execIslandResetDone_same ..).keepsForm
  | .portIslandFault .., _ => (execPortIslandFault_same ..).keepsForm
  | .mgmtIslandFault, _ => (execMgmtIslandFault_same ..).keepsForm
  | .stackBaseLogicFault .., _ => (execStackBaseLogicFault_same ..).keepsForm
  | .laneAdaptationLoss .., _ => (execLaneAdaptationLoss_same ..).keepsForm

/-- Settles O7: an empty queue changes nothing, and else the command at its front keeps the form; the queue is no part of memory. -/
theorem stepKeepsMemoryForm : Obligations.StepKeepsMemoryForm := by
  intro s t form answer
  unfold step at answer
  split at answer
  · cases answer
    exact form
  · exact exec_keepsForm _ _ _ answer form

end Sys2Proof.Machine

/-! The write of a buffered line to memory (03, 04): the bytes it stores and those it leaves (O15). -/

namespace Sys2Proof.Machine

/-! ## The bytes of a line -/

theorem natBytes_length (n x : Nat) : (natBytes n x).length = n := by
  induction n generalizing x with
  | zero => rfl
  | succ n ih => simp [natBytes, ih]

theorem natBytes_getD {n i : Nat} (x : Nat) (hi : i < n) : (natBytes n x).getD i 0 = BitVec.ofNat 8 (x / 256 ^ i) := by
  induction n generalizing x i with
  | zero => omega
  | succ n ih =>
    cases i with
    | zero => simp [natBytes]
    | succ i =>
      have tail : (natBytes (n + 1) x).getD (i + 1) 0 = (natBytes n (x / 256)).getD i 0 := rfl
      rw [tail, ih _ (by omega), Nat.div_div_eq_div_mul, Nat.pow_succ']

/-- The bytes of a line in order are those that `lineByte` picks. -/
theorem lineBytes_getD {i : Nat} (d : Line) (hi : i < 64) : (lineBytes d).getD i 0 = lineByte d i := by
  rw [lineBytes, natBytes_getD _ hi, lineByte, BitVec.extractLsb', Nat.shiftRight_eq_div_pow, Nat.pow_mul]

/-! ## Memory after a line is written -/

theorem writeBackLine_cells {s : State} {id : Nat} {b : Back} (line : Nat) (d : Line) (poison : Bool) (back : backById s id = some b) :
    (writeBackLine s id line d poison).pool.cells = memWrites s.pool.cells (id * 65536 + line * 64) (lineBytes d) := by
  simp only [writeBackLine, back]
  split <;> rfl

theorem writeBackLine_unbacked {s : State} {id : Nat} (line : Nat) (d : Line) (poison : Bool) (back : backById s id = none) :
    writeBackLine s id line d poison = s := by
  simp only [writeBackLine, back]

/-- What poison adds to a stored line is an error record and no byte. -/
theorem storeLine_cells (s : State) (line : Nat) (d : Line) (poison : Bool) :
    (storeLine s line d poison).pool.cells = (memLineWrite s line d poison).pool.cells := by
  rw [storeLine]
  split
  · exact (homeErr_same ..).part .cells rfl
  · rfl

/-- A line whose page nothing backs stores nothing (R58, assumption log entry 24). -/
theorem storeLine_cells_unbacked {s : State} {line : Nat} (d : Line) (poison : Bool)
    (unbacked : ∀ id, backIdOf s (line / 1024) = some id → backById s id = none) :
    (storeLine s line d poison).pool.cells = s.pool.cells := by
  rw [storeLine_cells, memLineWrite]
  split
  next id page => rw [writeBackLine_unbacked _ _ _ (unbacked id page)]
  next => rfl

/-- A line of a backed page stores its 64 bytes at its place in that page and no other byte (R58). -/
theorem memRead_storeLine_backed {s : State} {line id : Nat} {b : Back} (d : Line) (poison : Bool)
    (page : backIdOf s (line / 1024) = some id) (back : backById s id = some b) (a : Nat) :
    memRead (storeLine s line d poison).pool.cells a =
      if id * 65536 + line % 1024 * 64 ≤ a ∧ a < id * 65536 + line % 1024 * 64 + 64
      then lineByte d (a - (id * 65536 + line % 1024 * 64)) else memRead s.pool.cells a := by
  have cells : (memLineWrite s line d poison).pool.cells = memWrites s.pool.cells (id * 65536 + line % 1024 * 64) (lineBytes d) := by
    simp only [memLineWrite, page]
    exact writeBackLine_cells _ _ _ back
  rw [storeLine_cells, cells, memRead_writes, lineBytes, natBytes_length]
  split
  next inside => exact lineBytes_getD d (by omega)
  next => rfl

/-! ## MEMORY_WRITE_DONE (R91, R98) -/

/-- `s` once the buffered write `w` of a line has left the buffer and taken its place in its bank's window. -/
def writeTaken (s : State) (line : Nat) (w : WbEntry) : State :=
  let u := takeWindow s line
  { u with coh := { u.coh with wbBuf := u.coh.wbBuf.erase w } }

theorem writeTaken_cells (s : State) (line : Nat) (w : WbEntry) : (writeTaken s line w).pool.cells = s.pool.cells :=
  (takeWindow_same s line).part .cells rfl

theorem backIdOf_writeTaken (s : State) (line : Nat) (w : WbEntry) (page : Nat) : backIdOf (writeTaken s line w) page = backIdOf s page := by
  have pages : (writeTaken s line w).pool.pages = s.pool.pages := (takeWindow_same s line).part .pages rfl
  rw [backIdOf, pages, backIdOf]

theorem backById_writeTaken (s : State) (line : Nat) (w : WbEntry) (id : Nat) : backById (writeTaken s line w) id = backById s id := by
  have backs : (writeTaken s line w).pool.backs = s.pool.backs := (takeWindow_same s line).part .backs rfl
  rw [backById, backs, backById]

/-- The oldest buffered write of a line that its bank serves leaves the buffer and is stored. -/
theorem exec_memoryWriteDone_buffered {s : State} {off : PoolOff} {w : WbEntry} (served : lineServed s (off.toNat / 64) = true)
    (oldest : s.coh.wbBuf.find? (fun w => w.line == off.toNat / 64) = some w) :
    exec (.memoryWriteDone off) s =
      .next (endTrans (storeLine (writeTaken s (off.toNat / 64) w) (off.toNat / 64) w.data w.poison) (off.toNat / 64)) := by
  have coh : (takeWindow s (off.toNat / 64)).coh = s.coh := (takeWindow_same ..).part .coh rfl
  change execMemoryWriteDone off s = _
  simp only [execMemoryWriteDone, served, if_true, writeReached, coh, oldest, writeTaken]

/-- Settles O15: the write is that of `storeLine`, before and after which memory stays. -/
theorem memoryWriteStoresOneLine : Obligations.MemoryWriteStoresOneLine := by
  intro s t off w served oldest answer
  have next := (exec_memoryWriteDone_buffered served oldest).symm.trans answer
  cases next
  have cells : (endTrans (storeLine (writeTaken s (off.toNat / 64) w) (off.toNat / 64) w.data w.poison) (off.toNat / 64)).pool.cells =
      (storeLine (writeTaken s (off.toNat / 64) w) (off.toNat / 64) w.data w.poison).pool.cells := (endTrans_same ..).part .cells rfl
  rw [cells]
  constructor
  · intro unbacked a
    rw [storeLine_cells_unbacked _ _ (by simpa only [backIdOf_writeTaken, backById_writeTaken] using unbacked), writeTaken_cells]
  · intro id b page back a
    rw [memRead_storeLine_backed _ _ (by rwa [backIdOf_writeTaken]) (by rwa [backById_writeTaken]) a, writeTaken_cells]

end Sys2Proof.Machine

/-! Changes of composition, from their descriptor to their end, and quotas (03): each row where it takes effect (O21). -/

namespace Sys2Proof.Machine

/-! ## Operations whose turn has come (R68, R72 to R80) -/

/-- A single operation whose entry can be applied, and whose reserved pages find their places, leaves its change for publication. -/
theorem runSingle_ready {s u : State} {h : Nat} {e : MapEntry} {c : Change} (discard : Bool) (same : Word)
    (applied : entryApply s (emptyChange s (some h)) e = .ok (some c)) (reserved : reserveAll c c.reserve s = .ok u) :
    runSingle s h e discard same =
      .next (markStarted { s with pool := { s.pool with ready := some { c with discard := discard } } } h) := by
  simp only [runSingle, applied, reserved]

/-- R68, R72. -/
theorem extentCreate_readies : Claims.extentCreate := by
  intro s u h r e c turn create entry applied reserved
  change execExtentCreate h s = _
  simp only [execExtentCreate, turn, create, Bool.not_true, Bool.false_eq_true, if_false]
  subst entry
  exact runSingle_ready _ _ applied reserved

/-- R72, R73. -/
theorem extentGrant_readies : Claims.extentGrant := by
  intro s u h r e c turn plain unreserved entry applied reserved
  change execExtentGrant h s = _
  simp only [execExtentGrant, turn, plain, unreserved, Bool.false_eq_true, if_false]
  subst entry
  exact runSingle_ready _ _ applied reserved

/-- R74. -/
theorem extentRevoke_readies : Claims.extentRevoke := by
  intro s u h r e c turn entry applied reserved
  change execExtentRevoke h s = _
  simp only [execExtentRevoke, turn]
  subst entry
  exact runSingle_ready _ _ applied reserved

/-- R74. -/
theorem extentResize_readies : Claims.extentResize := by
  intro s u h r e c turn entry applied reserved
  change execExtentResize h s = _
  simp only [execExtentResize, turn]
  subst entry
  exact runSingle_ready _ _ applied reserved

/-- R80: the image is aligned, whole, of the length and checksum that the descriptor gives, and of the current generation if it names one. -/
theorem mapCommit_readies : Claims.mapCommit := by
  intro s h r b c turn aligned entries nonempty bounded clean image sum current applied
  have length : ¬ (d32 r.desc 16 % 32 ≠ 0 ∨ d32 r.desc 16 < 32 ∨ 131072 < d32 r.desc 16) := by omega
  have fresh : ¬ (d32 r.desc 20 ≠ 0 ∧ d32 r.desc 20 ≠ gen32 s.pool.gen) := fun ⟨named, other⟩ => current.elim named other
  change execMapCommit h s = _
  simp [execMapCommit, turn, aligned, length, clean, image, sum, fresh, applied]

/-! ## Quotas (R85 to R87) -/

/-- R85, R87. -/
theorem quotaSet_completes : Claims.quotaSet := by
  intro s t h r start operands tenant alone set_ within
  change execQuotaSet h s = _
  simp only [execQuotaSet, start, operands, tenant, alone, Bool.not_true, Bool.false_eq_true, if_false, ← set_, within]

/-- R87: with no operation of the Winch left the tenant's demotion has no move left either. -/
theorem quotaDemotionEnd_completes : Claims.quotaDemotionEnd := by
  intro s t h q demotion no_ops within ended no_chunks
  change execQuotaDemotionEnd h s = _
  simp [execQuotaDemotionEnd, demotion, no_ops, no_chunks, within, ended]

/-! ## Publication, drain and completion (R69, R70, R76 to R79) -/

/-- R69, R70. -/
theorem mapGenPublish_publishes : Claims.mapGenPublish := by
  intro s t c h r ready mine handle live room apart reserved
  have open_ : ¬ 16 ≤ (undrainedAfter s c.affected).length + 1 := by omega
  change execMapGenPublish s = _
  simp [execMapGenPublish, ready, mine, handle, live, open_, apart, reserved]

/-- R70. -/
theorem generationDrained_drains : Claims.generationDrained := by
  intro s g n undrained quiet
  let left := s.pool.undrained.filter (· != n)
  refine ⟨{ s with pool := { s.pool with undrained := left, affected := if left.isEmpty then [] else s.pool.affected } }, ?_, rfl, rfl⟩
  change execGenerationDrained g s = _
  simp only [execGenerationDrained, undrained, quiet, Bool.false_eq_true, if_false, left]

/-- R76 to R79. -/
theorem compositionComplete_completes : Claims.compositionComplete := by
  intro s g c change drained answered none_left
  change execCompositionComplete g s = _
  simp only [execCompositionComplete, change, drained, answered, none_left, Bool.not_true, Bool.or_self, Bool.false_eq_true, if_false, if_true]

/-- Settles O21: each row by the lemma about its command. -/
theorem compositionCommandsComplete : Obligations.CompositionCommandsComplete :=
  ⟨extentCreate_readies, extentGrant_readies, extentRevoke_readies, extentResize_readies, quotaSet_completes, quotaDemotionEnd_completes,
    mapCommit_readies, mapGenPublish_publishes, generationDrained_drains, compositionComplete_completes⟩

end Sys2Proof.Machine

/-! Pages, translations, requests at their ingress, Fences and retirement (03, 05, 06): each row where it takes effect (O22). -/

namespace Sys2Proof.Machine

/-! ## Pages and translations (R59, R61, R79) -/

/-- R79: no page waits to leave the map, so the backing page that nothing names is cleared and its place freed at once. -/
theorem pageFreeScrub_frees : Claims.pageFreeScrub := by
  intro s back b none_waits unnamed at_ still kept uncopied
  change execPageFreeScrub back s = _
  unfold execPageFreeScrub
  extract_lets +onlyGivenNames id mine
  have none_mine : mine = [] := by
    change s.pool.toFree.filter _ = []
    rw [none_waits]
    rfl
  rw [none_mine, List.any_nil, if_neg Bool.false_ne_true]
  extract_lets +onlyGivenNames u
  have same : u = s := rfl
  clear_value u
  subst same
  simp -zeta only [id, unnamed, at_, still, kept, uncopied, if_true, if_false, Bool.false_eq_true]
  rfl

/-- The extents that a port island's cache holds once that of `off` has come, newest first (R59). -/
def extentsCached (s : State) (p off : Nat) : List Nat :=
  match extentAt s off with
  | some x => x.id :: (tblGet s.pool.extCache p []).filter (· != x.id)
  | none => tblGet s.pool.extCache p []

/-- `s` with the misses of a port island's caches at `off` counted (R59). -/
def missesCounted (s : State) (p off : Nat) : State :=
  let t := if (tblGet s.pool.xlate p []).contains (pageOf off) then s else bump s (portTelCnt p 10)
  if (extentAt t off).any (fun x => !(tblGet t.pool.extCache p []).contains x.id) then bump t (portTelCnt p 11) else t

theorem missesCounted_pool (s : State) (p off : Nat) : (missesCounted s p off).pool = s.pool := by
  unfold missesCounted
  extract_lets t
  have first : t.pool = s.pool := by
    unfold t
    rw [apply_ite State.pool, bump_pool, ite_self]
  rw [apply_ite State.pool, bump_pool, ite_self, first]

/-- `s` once the translation of the waiting request `r` has come into its port island's caches (R59). -/
def translated (s : State) (p : Nat) (r : Req) : State :=
  let off := r.addr.toNat % 2 ^ 48
  let t := missesCounted s p off
  { t with pool := { t.pool with
    xlateWait := t.pool.xlateWait.filter (fun x => x.num != r.num)
    xlate := tblPut t.pool.xlate p ((pageOf off :: (tblGet s.pool.xlate p []).filter (· != pageOf off)).take 16384)
    extCache := tblPut t.pool.extCache p ((extentsCached s p off).take 256) } }

theorem translated_xlateWait (s : State) (p : Nat) (r : Req) :
    (translated s p r).pool.xlateWait = s.pool.xlateWait.filter (fun x => x.num != r.num) := by
  rw [translated, missesCounted_pool]

/-- The page that came last is the first of the cache. -/
theorem translated_xlate_head (s : State) (p : Nat) (r : Req) :
    (tblGet (translated s p r).pool.xlate p []).head? = some (pageOf (r.addr.toNat % 2 ^ 48)) := by
  simp [translated]

/-- R59: the first of its stream to wait is the request that the fill is for. -/
theorem xlateCacheFill_proceeds : Claims.xlateCacheFill := by
  intro s p src tag r waits first
  refine ⟨homeChecks (translated s p.val r) r, ?_, translated s p.val r, translated_xlateWait .., translated_xlate_head .., rfl⟩
  change execXlateCacheFill p src tag s = _
  simp -zeta only [execXlateCacheFill, waits, first, ne_eq, not_true, if_false]
  rfl

/-- R61, R467. -/
theorem pageAgeTick_ages : Claims.pageAgeTick := by
  intro s due
  change execPageAgeTick s = _
  rw [execPageAgeTick, if_neg (Nat.not_lt.mpr due)]

/-! ## Requests and Fences at their ingress (R65, R126) -/

/-- R65, by the law of a request that its port admits. -/
theorem requestIngress_enters : Claims.requestIngress := fun s r takes outer slots cls key checked =>
  execRequestIngress_entered s r takes outer slots cls key checked

/-- A Fence of a port's own Bromet host takes its place in the order of arrivals (R126). -/
theorem fenceArrive_queues {s : State} {p : Nat} {src : Endpoint} (k : FenceKind) (host : isHostPort s p = true) (bromet : isCxl s p = false)
    (own : portEp s p = src) :
    fenceArrive s p src k = releaseFences { s with ord := { s.ord with
      fences := s.ord.fences ++ [⟨p, src, k, s.ord.arrivals⟩], arrivals := s.ord.arrivals + 1 } } := by
  simp [fenceArrive, host, bromet, own]

/-- R126. -/
theorem fenceall_queues : Claims.fenceall := fun _ _ _ host bromet own => congrArg _ (fenceArrive_queues .all host bromet own)

/-- R126. -/
theorem fencewr_queues : Claims.fencewr := fun _ _ _ host bromet own => congrArg _ (fenceArrive_queues .wr host bromet own)

/-- R126. -/
theorem fencesync_queues : Claims.fencesync := fun _ _ _ host bromet own => congrArg _ (fenceArrive_queues .sync host bromet own)

/-! ## Retirement and release (R118, R124, R125, R138, R157, R159) -/

/-- R118. -/
theorem requestRetire_retires : Claims.requestRetire := by
  intro s src tag d no_unit oldest
  change execRequestRetire src tag s = _
  simp only [execRequestRetire, no_unit, oldest, Bool.false_eq_true, if_false]

/-- A checked request of a host, which nothing holds back, is released (R125). -/
theorem releaseHeld_releases {s : State} {src : Endpoint} {tag : Nat} {o : Out} (out : outOf s src tag = some o) (held : o.released = false)
    (metered : o.throttled = false) (checked : o.checked = true) (admitted : o.refused = none) (host : hostReq s o.req = true)
    (free : heldBack s o.req = false) :
    releaseHeld s src tag = releaseReq (setOut s o.req.num (fun o => { o with released := true })) o.req := by
  simp [releaseHeld, out, held, metered, checked, tryRelease, free, host, admitted]

/-- R125. -/
theorem heldRequestRelease_releases : Claims.heldRequestRelease := fun _ _ _ _ out held metered checked admitted host free =>
  congrArg _ (releaseHeld_releases out held metered checked admitted host free)

/-- R159: room in the window is one of the conditions under which nothing holds the atomic back. -/
theorem atomicWindowRelease_releases : Claims.atomicWindowRelease := fun _ _ _ _ out held metered checked admitted host free =>
  congrArg _ (releaseHeld_releases out held metered checked admitted host free)

/-- R157. -/
theorem atomretire_frees : Claims.atomretire := by
  intro s p src key home rseq admitted trunk here
  have regs : (creditBack s p.val 6).regs = s.regs := creditBack_regs ..
  change execAtomretire p src key home rseq s = _
  simp [execAtomretire, ingressKey_regs regs, isHostPort_regs regs, switchId_regs regs, admitted, trunk, here]

/-- Settles O22: each row by the lemma about its command. -/
theorem ingressCommandsComplete : Obligations.IngressCommandsComplete :=
  ⟨pageFreeScrub_frees, xlateCacheFill_proceeds, pageAgeTick_ages, requestIngress_enters, fenceall_queues, fencewr_queues, fencesync_queues,
    requestRetire_retires, heldRequestRelease_releases, atomicWindowRelease_releases, atomretire_frees⟩

end Sys2Proof.Machine

/-! Units, chunks, write-back and journals of the Winch (08): each row where it takes effect (O32). -/

namespace Sys2Proof.Machine

/-! ## Issue (R198, R199) -/

/-- With work of level 1 at hand and none of level 5, level 1 is the highest and level 5 takes no share. -/
theorem winchUnitIssue_issues : Claims.winchUnitIssue := by
  intro s u e assigned alive cold urgent no_background
  have top : [1, 2, 3, 4].find? (fun l => !(readyAt u e.val (· == l)).isEmpty) = some 1 := by
    simp [urgent]
  change execWinchUnitIssue e s = _
  simp only [execWinchUnitIssue, ← assigned, alive, cold, top, no_background, Bool.or_self, Bool.not_true, Bool.false_eq_true, if_false]

/-! ## Units (R71, R199, R209) -/

/-- The oldest unit ends: the second event of one whose writes went to another switch, the first of one that is carried out here. -/
theorem winchUnitDone_ends : Claims.winchUnitDone := by
  intro s n o u us op oldest admitted eager
  constructor
  · intro sent
    change execWinchUnitDone n .done s = _
    simp only [execWinchUnitDone, op, oldest, eager, admitted, sent, Bool.false_eq_true, if_false, if_true]
  · intro r sup v q c unsent supplied carried_out
    change execWinchUnitDone n r s = _
    simp only [execWinchUnitDone, op, oldest, eager, admitted, unsent, supplied, carried_out, Bool.false_eq_true, if_false]

/-- R209. -/
theorem lazyFillPageDone_fills : Claims.lazyFillPageDone := by
  intro s v p i c w o q u b awaits op unit admitted ended
  change execLazyFillPageDone p (.data b) s = _
  rcases ended with here | away
  · simp only [execLazyFillPageDone, awaits, op, unit, admitted, here]
  · simp only [execLazyFillPageDone, awaits, op, unit, admitted, away]

/-! ## Chunks (R200) -/

/-- R200 steps 2 to 4, for an operation that no descriptor asked for. -/
theorem chunkCopied_switches : Claims.chunkCopied := by
  intro s n g c o ms copying op own done_ old
  refine ⟨_, ?_, _, _, rfl, rfl, rfl⟩
  change execChunkCopied n g s = _
  simp only [execChunkCopied, copying, op, own, done_, old, Option.bind_none, Option.any_none, Bool.not_true, Bool.or_self, Bool.false_eq_true,
    if_false]

/-- R200 step 5. -/
theorem chunkDrained_ends : Claims.chunkDrained := by
  intro s n g c switched drained
  change execChunkDrained n g s = _
  simp only [execChunkDrained, switched, drained, Bool.false_eq_true, if_false]

/-! ## Write-back and journals (R204, R211) -/

/-- R211. -/
theorem writebackAgeExpire_queues : Claims.writebackAgeExpire := by
  intro s p b back copy dirty unqueued
  change execWritebackAgeExpire p s = _
  simp only [execWritebackAgeExpire, back, copy, dirty, unqueued, Bool.not_false, Bool.and_self, if_true]

/-- R204: a millisecond has passed. -/
theorem journalProgress_journals : Claims.journalProgress := by
  intro s n o op journalling due
  change execJournalProgress n s = _
  simp only [execJournalProgress, op, journalling, due, or_true, and_self, if_true]

/-- Settles O32: each row by the lemma about its command. -/
theorem winchWorkCompletes : Obligations.WinchWorkCompletes :=
  ⟨winchUnitIssue_issues, winchUnitDone_ends, lazyFillPageDone_fills, chunkCopied_switches, chunkDrained_ends, writebackAgeExpire_queues,
    journalProgress_journals⟩

end Sys2Proof.Machine

/-! Event counters (04, 06, 10, 15 to 18, 23): where they lie, and how they count, wrap, stay and clear (O8). -/

namespace Sys2Proof.Machine

/-! ## Blocks of the register map (R547) -/

/-- A register of the map that counts: 64 bits, read only, 0 at reset (R557, R558). -/
def IsCounter (a : Nat) : Prop := ∃ setup, regInfo a = some { regCnt with setupAt := setup }

/-- The map of a block: the register at `a` is `r`, with the SETUP_OPEN of its block. -/
def BlockReg (a : Nat) (r : Option RegInfo) : Prop := ∃ setup, regInfo a = r.map (fun i => { i with setupAt := some setup })

theorem BlockReg.isCounter {a : Nat} {r : Option RegInfo} (block : BlockReg a r) (counts : r = some regCnt) : IsCounter a := by
  obtain ⟨setup, info⟩ := block
  exact ⟨some setup, by rw [info, counts]; rfl⟩

theorem blockReg_global {a : Nat} (h : a < 0x100000) : BlockReg a (globalReg a) :=
  ⟨(0x40000, 0), by simp only [regInfo, h, if_true]⟩

theorem blockReg_port {p o : Nat} (hp : p < 128) (ho : o < 0x1000) : BlockReg (portBase p + o) (portReg p o) := by
  have base : portBase p = 0x100000 + p * 0x1000 := rfl
  have block : (portBase p + o - 0x100000) / 0x1000 = p := by omega
  have off : (portBase p + o - 0x100000) % 0x1000 = o := by omega
  exact ⟨(portBase p, 8), by simp (disch := omega) only [regInfo, block, off, if_neg, if_pos]⟩

/-- The blocks of the working slices lie in a row; that of the spare slice stands apart. -/
theorem blockReg_slice {p o : Nat} (hp : p < 17) (ho : o < 0x10000) : BlockReg (sliceBase p + o) (sliceReg o) := by
  by_cases spare : p = 16
  · have base : sliceBase p = 0x3F0000 := if_pos spare
    have off : sliceBase p + o - 0x3F0000 = o := by omega
    exact ⟨(sliceBase 16 + 0xFF00, 0), by simp (disch := omega) only [regInfo, off, if_neg, if_pos]⟩
  · have base : sliceBase p = 0x200000 + p * 0x10000 := if_neg spare
    have off : (sliceBase p + o - 0x200000) % 0x10000 = o := by omega
    exact ⟨(sliceBase ((sliceBase p + o - 0x200000) / 0x10000) + 0xFF00, 0), by simp (disch := omega) only [regInfo, off, if_neg, if_pos]⟩

theorem blockReg_stack {p o : Nat} (hp : p < 12) (ho : o < 0x10000) : BlockReg (stackBase p + o) (stackReg o) := by
  have base : stackBase p = 0x300000 + p * 0x10000 := rfl
  have off : (stackBase p + o - 0x300000) % 0x10000 = o := by omega
  exact ⟨(stackBase ((stackBase p + o - 0x300000) / 0x10000) + 0xFF00, 0), by simp (disch := omega) only [regInfo, off, if_neg, if_pos]⟩

theorem blockReg_mgmt {o : Nat} (ho : o < 0x100000) : BlockReg (mgmtBase + o) (mgmtReg o) := by
  have base : mgmtBase = 0x900000 := rfl
  have off : mgmtBase + o - 0x900000 = o := by omega
  exact ⟨(mgmtBase + 0xFFF00, 0), by simp (disch := omega) only [regInfo, off, if_neg, if_pos]⟩

/-! ## Counters of a block -/

/-- Only the register of its lanes is another for each port. -/
theorem portReg_eq_zero (p : Nat) {o : Nat} (lanes : o ≠ 0x8) : portReg p o = portReg 0 o := by
  simp only [portReg, lanes, if_false]

theorem sliceReg_home : ∀ k < 16, sliceReg (0x8100 + 8 * k) = some regCnt := by decide
theorem sliceReg_far : ∀ k < 16, sliceReg (0x8300 + 8 * k) = some regCnt := by decide
theorem sliceReg_core : ∀ k < 12, sliceReg (0x100 + 8 * k) = some regCnt := by decide
theorem stackReg_counter : ∀ k < 16, stackReg (0x100 + 8 * k) = some regCnt := by decide
theorem globalReg_congestion : ∀ k < 4, globalReg (0x34400 + 8 * k) = some regCnt := by decide
theorem mgmtReg_ethernet : ∀ k < 6, mgmtReg (0x280 + 8 * k) = some regCnt := by decide
theorem mgmtReg_board : ∀ k < 2, mgmtReg (0x300 + 8 * k) = some regCnt := by decide
theorem portReg_core : ∀ k < 8, portReg 0 (0x580 + 8 * k) = some regCnt := by decide
theorem portReg_congestion : ∀ k < 12, portReg 0 (0x700 + 8 * k) = some regCnt := by decide
theorem portReg_link : ∀ k < 16, portReg 0 (0x800 + 8 * k) = some regCnt := by decide
theorem portReg_cxl : ∀ k < 12, portReg 0 (0xF00 + 8 * k) = some regCnt := by decide

theorem isCounter_port {p o : Nat} (hp : p < 128) (lo : 0x8 < o) (hi : o < 0x1000) (counts : portReg 0 o = some regCnt) : IsCounter (portBase p + o) :=
  (blockReg_port hp hi).isCounter ((portReg_eq_zero p (by omega)).trans counts)

theorem isCounter_slice {p o : Nat} (hp : p < 17) (hi : o < 0x10000) (counts : sliceReg o = some regCnt) : IsCounter (sliceBase p + o) :=
  (blockReg_slice hp hi).isCounter counts

/-- Each offset of the statement's table is a counter's. -/
theorem isCounter_of_counterAt {a : Nat} (h : Claims.CounterAt a) : IsCounter a := by
  obtain ⟨p, k, h⟩ := h
  simp only [Nat.add_assoc] at h
  rcases h with ⟨hp, hk, rfl⟩ | ⟨hp, hk, rfl⟩ | ⟨hp, hk, rfl⟩ | ⟨hp, hk, rfl⟩ | ⟨hp, hk, rfl⟩ | ⟨-, hk, rfl⟩ | ⟨hp, hk, rfl⟩ | ⟨hp, hk, rfl⟩ |
    ⟨hp, hk, rfl⟩ | ⟨-, hk, rfl⟩ | ⟨-, hk, rfl⟩
  · exact isCounter_slice hp (by omega) (sliceReg_home k hk)
  · exact isCounter_slice hp (by omega) (sliceReg_far k hk)
  · exact (blockReg_stack hp (by omega)).isCounter (stackReg_counter k hk)
  · exact isCounter_slice hp (by omega) (sliceReg_core k hk)
  · exact isCounter_port hp (by omega) (by omega) (portReg_core k hk)
  · exact (blockReg_global (by omega)).isCounter (globalReg_congestion k hk)
  · exact isCounter_port hp (by omega) (by omega) (portReg_congestion k hk)
  · exact isCounter_port hp (by omega) (by omega) (portReg_link k hk)
  · exact isCounter_port hp (by omega) (by omega) (portReg_cxl k hk)
  · exact (blockReg_mgmt (by omega)).isCounter (mgmtReg_ethernet k hk)
  · exact (blockReg_mgmt (by omega)).isCounter (mgmtReg_board k hk)

/-! ## How a counter behaves (R115, R507, R557) -/

/-- An event adds 1, modulo 2^64. -/
theorem regGet_bump (s : State) (a : Nat) : regGet (bump s a) a = regGet s a + 1 := by
  rw [bump, bumpBy, regGet_regSet]
  rfl

section Counter
variable {a : Nat} (counter : IsCounter a)
include counter

theorem regReset_counter : regReset a = 0 := by
  obtain ⟨setup, info⟩ := counter
  rw [regReset, info]
  rfl

theorem writeReg_counter (s : State) (off : Nat) (w : WData) : writeReg s a off w = s := by
  obtain ⟨setup, info⟩ := counter
  simp [writeReg, info, regCnt]

/-- GLOBAL_TIME_CFG, which a COLD keeps, is no counter. -/
theorem counter_ne_timeCfg : a ≠ 0x40100 := by
  rintro rfl
  obtain ⟨setup, info⟩ := counter
  have other : (regInfo 0x40100).map (·.counter) = some false := by decide
  rw [info] at other
  exact absurd other (by simp [regCnt])

/-- A COLD keeps one register, and so clears every counter. -/
theorem exec_cold_clears {s : State} (powered : s.sys.porst = false) (cool : s.pwr.tripped = false) :
    ∃ t, exec .cold s = .next t ∧ regGet t a = 0 := by
  have kept : tblFind (s.regs.filter (fun e => e.1 == 0x40100)) a = none :=
    tblFind_none _ _ (fun e he same => counter_ne_timeCfg counter (same.symm.trans (by simpa using (List.mem_filter.mp he).2)))
  refine ⟨_, by change execCold s = _; rw [execCold, powered, cool]; rfl, ?_⟩
  simp only [regGet, kept, Option.getD_none, regReset_counter counter]

end Counter

/-- Settles O8: each offset is a counter's, and every counter behaves so. -/
theorem countersCount : Obligations.CountersCount := by
  intro s a at_
  have counter := isCounter_of_counterAt at_
  refine ⟨regGet_bump s a, fun full => ?_, fun w off => writeReg_counter counter s off w, exec_cold_clears counter⟩
  rw [regGet_bump, full]
  rfl

end Sys2Proof.Machine

/-! Requests at their home (04, 06): each row where it orders its request (O23). -/

namespace Sys2Proof.Machine

/-! ## At the ordering point (R89, R97) -/

theorem farMode_cold {s : State} {line : Nat} (cold : hotAt s line = none) : farMode s line = .near := by
  rw [farMode, cold]; rfl

/-- A request whose line nothing holds back, and that is ordered, leaves the ordering point. -/
theorem takeInbox_done {s t : State} {r : Req} (clear : Claims.Clear s r) (ordered : orderLine s r = .done t) : takeInbox s r = dropInbox t r := by
  obtain ⟨cold, idle, alone, free, room, single⟩ := clear
  have near := farMode_cold cold
  have open_ : lineBlocked s (reqLine r) = false := by simp [lineBlocked, idle, near]
  simp [takeInbox, touchHot, cold, near, open_, alone, free, room, single, ordered]

/-- An ordering row orders the request that it names. -/
theorem orderRow_done {s t : State} {r : Req} {kinds : List ReqKind} {src : Endpoint} {tag : BitVec 14} (named : inboxReq s kinds src tag = some r)
    (clear : Claims.Clear s r) (ordered : orderLine s r = .done t) : orderRow kinds src tag s = dropInbox t r := by
  rw [orderRow, named]
  exact takeInbox_done clear ordered

/-! ## What a request meets before it is ordered (R58, R109, R142, R156) -/

theorem ensureFor_backed {s : State} {xs : List Extent} {off : Nat} {b : Back} {x : Extent} (back : backAt s (pageOf off) = some b)
    (live : b.lost = false) (ext : settingAt s xs off = some x) : ensureFor s xs off = some s := by
  simp only [ensureFor, back, ext, live, Bool.false_eq_true, if_false]

/-- A page that is there needs nothing for a write. -/
theorem writeReady_backed {s : State} {r : Req} (backed : Claims.Backed s r) : writeReady s (reqLine r) r = .ok s := by
  obtain ⟨plain, b, x, back, live, ext⟩ := backed
  simp only [writeReady, readyForWrite, plain, ensureFor_backed back live ext]

/-- No cacheable request of an endpoint that its home has not fenced, or of the device itself, is refused for a fence. -/
theorem unfenced_request {s : State} {r : Req} (unfenced : epFenced s (linePart (reqLine r)) r.src = false ∨ internal r = true) :
    (epFenced s (linePart (reqLine r)) r.src && !internal r) = false := by
  rcases unfenced with h | h <;> simp [h]

/-- A fresh atomic does not end before it is ordered. -/
theorem atomAnswer_fresh {s : State} {r : Req} (lone : r.kind ≠ .atomComb) (fresh : Claims.FreshAtom s r) : atomAnswer s (reqLine r) r = none := by
  obtain ⟨formed, unapplied, inside⟩ := fresh
  simp only [atomAnswer, atomRecs, formed, lone, unapplied, inside, Bool.false_eq_true, if_false, if_true, ite_self]

/-! ## Registration (R95) -/

/-- Registration changes the registry and nothing else. -/
theorem registerFor_eq (s : State) (r : Req) : ∃ reg, registerFor s r = { s with coh := { s.coh with registry := reg } } := by
  unfold registerFor register
  split
  · exact ⟨_, rfl⟩
  · split <;> exact ⟨_, rfl⟩

theorem dirAt_registerFor (s : State) (r : Req) (line : Nat) : dirAt (registerFor s r) line = dirAt s line := by
  obtain ⟨reg, eq⟩ := registerFor_eq s r
  rw [eq, dirAt, dirAt]

theorem hotAt_registerFor (s : State) (r : Req) (line : Nat) : hotAt (registerFor s r) line = hotAt s line := by
  obtain ⟨reg, eq⟩ := registerFor_eq s r
  rw [eq, hotAt, hotAt]

theorem registerFor_reads (s : State) (r : Req) : (registerFor s r).coh.reads = s.coh.reads := by
  obtain ⟨reg, eq⟩ := registerFor_eq s r
  rw [eq]

theorem registered_registerFor {s : State} {r : Req} (outer : internal r = false) (unfenced : epFenced s (reqPart r) r.src = false) :
    registered (registerFor s r) (reqPart r) r.src.toNat = true := by
  simp [registered, registerFor, register, outer, unfenced]

/-! ## Orders (R101, R143, R144) -/

/-- A line that nobody holds and that has no hot-line entry has had no owner. -/
theorem prevOwner_none {s : State} {line : Nat} (unheld : dirAt s line = none) (cold : hotAt s line = none) : prevOwner s line = none := by
  rw [prevOwner, unheld, cold]; rfl

/-- An ownership request of a line that nobody holds opens its transaction without a snoop, and is its line's first transfer. -/
theorem orderRdOwn_unheld {s : State} {line : Nat} {r : Req} (cold : hotAt s line = none) (unheld : dirAt s line = none)
    (room : entryRoom (registerFor s r) line r = true) (tracker : trackerFor (registerFor s r) line r = true) :
    orderRdOwn s line r =
      .done (notePrev (noteTransfer (openTrans (registerFor s r) line r true true []) line) line (asHolder r)) := by
  have unheld' : dirAt (registerFor s r) line = none := (dirAt_registerFor ..).trans unheld
  have first : prevOwner (registerFor s r) line = none := prevOwner_none unheld' ((hotAt_registerFor ..).trans cold)
  simp [orderRdOwn, room, tracker, unheld', first]

/-- A write of a line that nobody holds is issued at once. -/
theorem orderHomeWrite_unheld {s : State} {line : Nat} {r : Req} (unheld : dirAt s line = none) :
    orderHomeWrite s line r = .done (noteTransfer (openTrans (markDirty s line) line r false false []) line) := by
  simp [orderHomeWrite, unheld]

theorem orderRdNC_shared {s : State} {line : Nat} {r : Req} (unowned : dirAt s line = none ∨ ∃ e, dirAt s line = some e ∧ ownerOf e = none) :
    orderRdNC s line r = .done (pendRead s line r .cmpI) := by
  rcases unowned with none_ | ⟨e, entry, shared⟩
  · simp only [orderRdNC, none_]
  · simp only [orderRdNC, entry, shared]

theorem orderRdShared_shared {s : State} {line : Nat} {r : Req} {e : DirEntry} (entry : dirAt s line = some e) (shared : ownerOf e = none) :
    orderRdShared s line r = .done (pendRead (setDir (registerFor s r) line (addSharer e (asHolder r))) line r .cmpS) := by
  simp only [orderRdShared, entry, shared]

/-! ## Orders by kind -/

section Kinds
variable {s : State} {r : Req}

theorem orderLine_rdNC (kind : r.kind = .rdNC) : orderLine s r = orderRdNC s (reqLine r) r := by
  simp [orderLine, kind]

theorem orderLine_rdShared (kind : r.kind = .rdShared) (unfenced : epFenced s (linePart (reqLine r)) r.src = false ∨ internal r = true) :
    orderLine s r = orderRdShared s (reqLine r) r := by
  simp only [orderLine, Bool.and_assoc, unfenced_request unfenced, Bool.and_false, Bool.false_eq_true, if_false, kind]

/-- A RdOwn, or a fresh AtomNear. -/
theorem orderLine_ownership (kind : r.kind = .rdOwn ∨ r.kind = .atomNear ∧ Claims.FreshAtom s r)
    (unfenced : epFenced s (linePart (reqLine r)) r.src = false ∨ internal r = true) (backed : Claims.Backed s r) :
    orderLine s r = orderRdOwn s (reqLine r) r := by
  have admitted := unfenced_request unfenced
  rcases kind with kind | ⟨kind, fresh⟩
  · simp [orderLine, admitted, kind, loneAtom, isHomeWrite, writeReady_backed backed]
  · simp [orderLine, admitted, kind, isHomeWrite, writeReady_backed backed, atomAnswer_fresh (by rw [kind]; decide) fresh]

/-- A WrLine, a WrPtl, or a fresh AtomFar. -/
theorem orderLine_homeWrite (kind : r.kind = .wrLine ∨ r.kind = .wrPtl ∨ r.kind = .atomFar ∧ Claims.FreshAtom s r) (backed : Claims.Backed s r) :
    orderLine s r = orderHomeWrite s (reqLine r) r := by
  rcases kind with kind | kind | ⟨kind, fresh⟩
  · simp [orderLine, kind, loneAtom, isHomeWrite, writeReady_backed backed]
  · simp [orderLine, kind, loneAtom, isHomeWrite, writeReady_backed backed]
  · simp [orderLine, kind, isHomeWrite, writeReady_backed backed, atomAnswer_fresh (by rw [kind]; decide) fresh]

end Kinds

/-! ## Rows -/

/-- R101. -/
theorem rdnc_reads : Claims.rdnc := by
  intro s src tag r named clear kind unowned
  have ordered := (orderLine_rdNC kind).trans (orderRdNC_shared unowned)
  refine ⟨dropInbox (pendRead s (reqLine r) r .cmpI) r, congrArg Host.Outcome.next (orderRow_done named clear ordered), ?_, ?_⟩
  · rw [dropInbox_dir, pendRead_dir]
  · rw [dropInbox_reads, pendRead_reads]

/-- R94, R95, R101. -/
theorem rdshared_shares : Claims.rdshared := by
  intro s src tag r e named clear kind unfenced entry shared
  let u := setDir (registerFor s r) (reqLine r) (addSharer e (asHolder r))
  have ordered : orderLine s r = .done (pendRead u (reqLine r) r .cmpS) :=
    (orderLine_rdShared kind unfenced).trans (orderRdShared_shared entry shared)
  have reads : u.coh.reads = s.coh.reads := registerFor_reads s r
  refine ⟨dropInbox (pendRead u (reqLine r) r .cmpS) r, congrArg Host.Outcome.next (orderRow_done named clear ordered), ?_, fun outer => ?_,
    ⟨reqLine r, r, .cmpS, (currentLine u (reqLine r)).1, (currentLine u (reqLine r)).2⟩, ?_, rfl, rfl⟩
  · rw [dirAt, dropInbox_dir, pendRead_dir, ← dirAt, dirAt_setDir]
  · rw [registered, dropInbox_registry, pendRead_registry]
    exact registered_registerFor outer (unfenced.resolve_right (by simp [outer]))
  · rw [dropInbox_reads, pendRead_reads, reads]

section Row
variable {s : State} {kinds : List ReqKind} {src : Endpoint} {tag : BitVec 14} {r : Req} (named : inboxReq s kinds src tag = some r)
  (clear : Claims.Clear s r) (backed : Claims.Backed s r) (unheld : dirAt s (reqLine r) = none)
include named clear backed unheld

theorem orderRow_ownership (kind : r.kind = .rdOwn ∨ r.kind = .atomNear ∧ Claims.FreshAtom s r)
    (unfenced : epFenced s (linePart (reqLine r)) r.src = false ∨ internal r = true)
    (room : entryRoom (registerFor s r) (reqLine r) r = true) (tracker : trackerFor (registerFor s r) (reqLine r) r = true) :
    orderRow kinds src tag s = dropInbox (notePrev (noteTransfer (openTrans (registerFor s r) (reqLine r) r true true []) (reqLine r))
      (reqLine r) (asHolder r)) r := by
  have cold : hotAt s (reqLine r) = none := clear.1
  exact orderRow_done named clear ((orderLine_ownership kind unfenced backed).trans (orderRdOwn_unheld cold unheld room tracker))

theorem orderRow_homeWrite (kind : r.kind = .wrLine ∨ r.kind = .wrPtl ∨ r.kind = .atomFar ∧ Claims.FreshAtom s r) :
    orderRow kinds src tag s =
      dropInbox (noteTransfer (openTrans (markDirty s (reqLine r)) (reqLine r) r false false []) (reqLine r)) r :=
  orderRow_done named clear ((orderLine_homeWrite kind backed).trans (orderHomeWrite_unheld unheld))

end Row

/-- R101. -/
theorem rdown_opens : Claims.rdown := fun _ _ _ _ named clear kind unfenced backed unheld room tracker =>
  congrArg Host.Outcome.next (orderRow_ownership named clear backed unheld (.inl kind) unfenced room tracker)

/-- R143. -/
theorem atomnear_opens : Claims.atomnear := fun _ _ _ _ named clear kind unfenced fresh backed unheld room tracker =>
  congrArg Host.Outcome.next (orderRow_ownership named clear backed unheld (.inr ⟨kind, fresh⟩) unfenced room tracker)

/-- R101. -/
theorem wrline_issues : Claims.wrline := fun _ _ _ _ named clear kind backed unheld =>
  congrArg Host.Outcome.next (orderRow_homeWrite named clear backed unheld (.inl kind))

/-- R101. -/
theorem wrptl_issues : Claims.wrptl := fun _ _ _ _ named clear kind backed unheld =>
  congrArg Host.Outcome.next (orderRow_homeWrite named clear backed unheld (.inr (.inl kind)))

/-- R144, R156. -/
theorem atomfar_applies : Claims.atomfar := fun _ _ _ _ named clear kind fresh backed unheld =>
  congrArg Host.Outcome.next (orderRow_homeWrite named clear backed unheld (.inr (.inr ⟨kind, fresh⟩)))

/-- A message that names no other home has its home here (R56). -/
theorem awayOf_none (s : State) {m : TcMsg} (home : m.away = none) : awayOf s m = none := by
  rw [awayOf, home]; rfl

/-- R91, R101. -/
theorem wbdirty_accepted : Claims.wbdirty := by
  intro s m tag d p cls channel home key room expected
  change execWbdirty m tag d p s = _
  simp only [execWbdirty, cls, channel, key, awayOf_none _ home, room, takeWb, expected, ne_eq, not_true, Bool.true_eq_false, or_self,
    Bool.true_or, if_false, if_true]

/-- Settles O23: each row by the lemma about its command. -/
theorem homeRequestsComplete : Obligations.HomeRequestsComplete :=
  ⟨rdnc_reads, rdshared_shares, rdown_opens, atomnear_opens, wrline_issues, wrptl_issues, atomfar_applies, wbdirty_accepted⟩

end Sys2Proof.Machine

/-! Snoop answers and acknowledged grants (04): what an answer to an open snoop does, and each row that brings one (O24). -/

namespace Sys2Proof.Machine

/-! ## Closing a snoop (R96, R101, R108) -/

/-- `s` once the answer to the snoop `n` is noted: that of a snoop sent twice is a transient event, and a second answer is owed (R108, R422). -/
def answerNoted (s : State) (line : Nat) (e : Endpoint) (tag : Nat) (n : Snoop) : State :=
  if n.retried then
    logEvent { s with coh := { s.coh with owed := s.coh.owed ++ [(line, e, tag)] } } 3 1 (linePart line) 5 0 0 (switchId s * 2 ^ 48 + line * 64) e.toNat 0
  else s

/-- `t` with its snoop of an endpoint closed by an answer: an announced WbDirty that has not come is awaited, a copy kept is listed (R101). -/
def Trans.answered (t : Trans) (e : Endpoint) (a : Ans) : Trans :=
  let u := { t with snoops := t.snoops.filter (fun m => m.dest != .ep e) }
  match a with
  | .i => u
  | .iWb => if t.wbGot.contains e then u else { u with wbFrom := t.wbFrom ++ [e] }
  | .sh => { u with kept := t.kept ++ [.ep e] }
  | .cur => { u with kept := t.kept ++ [.ep e] }

section Answer
variable {s : State} {line tag : Nat} {e : Endpoint} {a : Ans} {t : Trans} {n : Snoop}

/-- An answer without data closes its snoop; RspI of a precise holder that wrote nothing back counts as stale (R96). -/
theorem answerSnoop_bare (opened : transAt s line = some t)
    (waits : t.snoops.find? (fun n => n.dest == .ep e && n.sentAt.isSome && n.stag == tag) = some n) (fits : ansFits n.kind a = true) :
    answerSnoop s line (.ep e) tag a none = progress (setTrans
      (answerNoted (if a = .i ∧ t.wbGot.contains e = false ∧ n.coarse = false then bump s (homeCnt (linePart line) 2) else s) line e tag n)
      line (t.answered e a)) line := by
  have stale : (decide (a = .i) && (none : Option (Line × Bool)).isNone && !t.wbGot.contains e && !n.coarse) =
      decide (a = .i ∧ t.wbGot.contains e = false ∧ n.coarse = false) := by simp [Bool.and_assoc]
  simp only [answerSnoop, opened, waits, fits, stale, answerNoted, Trans.answered, Bool.not_true, Bool.false_eq_true, if_false, decide_eq_true_eq]
  cases n.retried
  · cases a <;> rfl
  · cases a <;> rfl

/-- An answer with data, which no RspIWb is, supplies the transaction of a request. The home writes the data to memory as well, unless it
applies the request itself or the holder keeps its state (R101). -/
theorem answerSnoop_data {r : Req} (d : Line × Bool) (opened : transAt s line = some t)
    (waits : t.snoops.find? (fun n => n.dest == .ep e && n.sentAt.isSome && n.stag == tag) = some n) (fits : ansFits n.kind a = true)
    (carries : a ≠ .iWb) (request : t.kind = .req r) :
    answerSnoop s line (.ep e) tag a (some d) =
      if isHomeWrite r.kind || a == .cur then progress (setTrans (answerNoted s line e tag n) line { t.answered e a with dirty := some d }) line
      else storeSnoop (answerNoted s line e tag n) line { t.answered e a with dirty := some d } d := by
  simp only [answerSnoop, opened, waits, fits, answerNoted, Trans.answered, Option.isNone_some, Bool.and_false, Bool.false_and,
    Bool.not_true, Bool.false_eq_true, if_false]
  cases a
  case iWb => exact absurd rfl carries
  all_goals simp only [request]; cases n.retried <;> rfl

/-- An answer without data other than RspI counts nothing. -/
theorem answerSnoop_quiet (opened : transAt s line = some t)
    (waits : t.snoops.find? (fun n => n.dest == .ep e && n.sentAt.isSome && n.stag == tag) = some n) (fits : ansFits n.kind a = true) (other : a ≠ .i) :
    answerSnoop s line (.ep e) tag a none = progress (setTrans (answerNoted s line e tag n) line (t.answered e a)) line := by
  rw [answerSnoop_bare opened waits fits, if_neg (fun stale => other stale.1)]

end Answer

theorem ansFits_i (k : SnpKind) : ansFits k .i = true := by cases k <;> rfl
theorem ansFits_iWb (k : SnpKind) : ansFits k .iWb = true := by cases k <;> rfl
theorem ansFits_sh {k : SnpKind} (h : k ≠ .inv) : ansFits k .sh = true := by
  cases k
  case inv => exact absurd rfl h
  all_goals rfl

theorem ansFits_cur {k : SnpKind} (h : k = .cur) : ansFits k .cur = true := by rw [h]; rfl

/-! ## Snoop answers at their port (R92, R96, R101, R103) -/

theorem tcChannel_eq_seven {m : TcMsg} (cls : tcClassOk m = true) : tcChannel m = 7 := by
  simp only [tcClassOk, Bool.and_eq_true, beq_iff_eq, Bool.not_eq_true'] at cls
  simp [tcChannel, cls]

theorem tcKeyOk_creditBack (s : State) (m : TcMsg) (p c : Nat) : tcKeyOk (creditBack s p c) m = tcKeyOk s m := by
  rw [tcKeyOk, ingressKey_regs (creditBack_regs ..), tcKeyOk]

@[simp] theorem transAt_creditBack (s : State) (p c line : Nat) : transAt (creditBack s p c) line = transAt s line := by
  rw [transAt, creditBack_coh, transAt]

section Row
variable {s : State} {m : TcMsg} {a : Ans} {t : Trans} {n : Snoop} (answered : Claims.Answered s m n t)
include answered

/-- An answer of TC7 with the key of its port's table, at its line's home, returns its credit and goes to the snoop. -/
theorem snoopRow_answers (data : Option (Line × Bool)) :
    snoopRow m a data s = answerSnoop (creditBack s m.port.val 7) (m.off.toNat / 64) (.ep m.src) m.stag.toNat a data := by
  obtain ⟨cls, home, key, -, -⟩ := answered
  simp only [snoopRow, tcChannel_eq_seven cls, cls, tcKeyOk_creditBack, key, awayOf_none _ home, Bool.not_true, Bool.false_eq_true, if_false, if_true]

theorem snoopRow_quiet (fits : ansFits n.kind a = true) (other : a ≠ .i) :
    snoopRow m a none s = progress (setTrans (Claims.Noted (creditBack s m.port.val 7) m n) (m.off.toNat / 64) (t.answered m.src a)) (m.off.toNat / 64) := by
  rw [snoopRow_answers answered]
  obtain ⟨-, -, -, opened, waits⟩ := answered
  exact answerSnoop_quiet ((transAt_creditBack ..).trans opened) waits fits other

theorem snoopRow_data {r : Req} (d : Line × Bool) (fits : ansFits n.kind a = true) (carries : a ≠ .iWb) (request : t.kind = .req r) :
    snoopRow m a (some d) s =
      if isHomeWrite r.kind || a == .cur then
        progress (setTrans (Claims.Noted (creditBack s m.port.val 7) m n) (m.off.toNat / 64) { t.answered m.src a with dirty := some d }) (m.off.toNat / 64)
      else storeSnoop (Claims.Noted (creditBack s m.port.val 7) m n) (m.off.toNat / 64) { t.answered m.src a with dirty := some d } d := by
  rw [snoopRow_answers answered]
  obtain ⟨-, -, -, opened, waits⟩ := answered
  exact answerSnoop_data d ((transAt_creditBack ..).trans opened) waits fits carries request

end Row

/-- R96: only a holder recorded precisely can be stale. -/
theorem rspi_closes : Claims.rspi := by
  rintro s _ m t n answered rfl
  obtain ⟨-, -, -, opened, waits⟩ := id answered
  change Host.Outcome.next (snoopRow m .i none s) = _
  rw [snoopRow_answers answered, answerSnoop_bare ((transAt_creditBack ..).trans opened) waits (ansFits_i _)]
  simp only [true_and]
  rfl

/-- R101. -/
theorem rspiwb_closes : Claims.rspiwb := by
  rintro s _ m t n answered rfl awaited
  change Host.Outcome.next (snoopRow m .iWb none s) = _
  simp only [snoopRow_quiet answered (ansFits_iWb _) (by decide), Trans.answered, awaited, Bool.false_eq_true, if_false]

/-- R101. -/
theorem rspidata_stores : Claims.rspidata := by
  rintro s _ m d p t n r answered rfl request read
  change Host.Outcome.next (snoopRow m .i (some (d, p)) s) = _
  rw [snoopRow_data answered (d, p) (ansFits_i _) (by decide) request, read]
  rfl

/-- R101. -/
theorem rsps_closes : Claims.rsps := by
  rintro s _ m t n answered rfl kind
  exact congrArg _ (snoopRow_quiet answered (ansFits_sh kind) (by decide))

/-- R101. -/
theorem rspsdata_stores : Claims.rspsdata := by
  rintro s _ m d p t n r answered rfl kind request read
  change Host.Outcome.next (snoopRow m .sh (some (d, p)) s) = _
  rw [snoopRow_data answered (d, p) (ansFits_sh kind) (by decide) request, read]
  rfl

/-- R101. -/
theorem rspcur_closes : Claims.rspcur := by
  rintro s _ m t n answered rfl kind
  exact congrArg _ (snoopRow_quiet answered (ansFits_cur kind) (by decide))

/-- R101: whoever the request is of, current data is not written. -/
theorem rspcurdata_supplies : Claims.rspcurdata := by
  rintro s _ m d p t n r answered rfl kind request
  change Host.Outcome.next (snoopRow m .cur (some (d, p)) s) = _
  rw [snoopRow_data answered (d, p) (ansFits_cur kind) (by decide) request, if_pos (by simp)]
  rfl

/-- R98. -/
theorem gntack_acknowledges : Claims.gntack := by
  rintro s _ m t cls home key rfl opened awaited
  change execGntack m s = _
  simp only [execGntack, tcChannel_eq_seven cls, cls, tcKeyOk_creditBack, key, awayOf_none _ home, transAt_creditBack, opened, awaited,
    Bool.not_true, Bool.true_or, Bool.false_eq_true, if_false, if_true]

/-- Settles O24: each row by the lemma about its command. -/
theorem snoopAnswersComplete : Obligations.SnoopAnswersComplete :=
  ⟨rspi_closes, rspiwb_closes, rspidata_stores, rsps_closes, rspsdata_stores, rspcur_closes, rspcurdata_supplies, gntack_acknowledges⟩

end Sys2Proof.Machine

/-! CXL.mem requests and back-invalidate answers (04, 18): each row where it takes effect (O26). -/

namespace Sys2Proof.Machine

/-! ## Requests of CXL hosts (R112, R441, R442) -/

section Takes
variable {s : State} {m : CxlReq} {off : Nat} (takes : CxlTakes s m off)
include takes

/-- A read that its port takes comes in as a request of the kind it maps to. -/
theorem cxlRequest_read (k : ReqKind) : cxlRequest s m k id = Entered s (cxlReq s m k off) :=
  cxlRequest_entered s m k id off takes rfl rfl rfl rfl rfl

/-- A write that its port takes finds its pool offset. -/
theorem takes_offset : (if cxlServes s m.port.val && (cxlOf s m.port.val).biEn && cxlKeyOk s m.port.val then
    hpaToPool s m.port.val m.hpa.toNat else none) = some off := by
  obtain ⟨serves, bi, key, mapped⟩ := takes
  simp only [serves, bi, key, mapped, Bool.and_self, if_true]

end Takes

/-- R112. -/
theorem cxlMemrd_enters : Claims.cxlMemrd := by
  rintro s _ m off rfl takes
  exact ⟨congrArg _ (cxlRequest_read takes .rdNC), congrArg _ (cxlRequest_read takes .rdNC), congrArg _ (cxlRequest_read takes .rdShared),
    congrArg _ (cxlRequest_read takes .rdOwn)⟩

/-- R112. -/
theorem cxlMemrddata_enters : Claims.cxlMemrddata := by
  rintro s _ m off rfl takes
  exact congrArg _ (cxlRequest_read takes .rdShared)

/-- R112, R113: whether the host owns the line decides. -/
theorem cxlMemwr_writes : Claims.cxlMemwr := by
  rintro s _ m d p off rfl takes
  constructor
  · intro unowned
    change execCxlMemwr m d p s = _
    simp only [execCxlMemwr, takes_offset takes, unowned, Bool.false_eq_true, if_false]
    exact congrArg _ (cxlRequest_entered _ m .wrLine (fun r => { r with data := d, poison := p }) off takes rfl rfl rfl rfl rfl)
  · intro owned room
    change execCxlMemwr m d p s = _
    simp only [execCxlMemwr, takes_offset takes, owned, room, if_true]

/-- R112. -/
theorem cxlMemwrptl_enters : Claims.cxlMemwrptl := by
  rintro s _ m d k p off rfl takes
  exact congrArg _ (cxlRequest_entered _ m .wrPtl (fun r => { r with data := d, mask := k, poison := p }) off takes rfl rfl rfl rfl rfl)

/-- R112: the entry goes with its last holder. -/
theorem memclnevct_removes : Claims.memclnevct := by
  rintro s _ m off e rfl ⟨serves, bi, -, mapped⟩ entry
  constructor
  · intro last
    change execMemclnevct m s = _
    simp only [execMemclnevct, serves, bi, mapped, entry, last, Bool.not_true, Bool.false_eq_true, if_false, if_true]
  · intro x others
    change execMemclnevct m s = _
    simp only [execMemclnevct, serves, bi, mapped, entry, others, Bool.not_true, Bool.false_eq_true, if_false, if_true]

/-- R442. -/
theorem memspecrd_ignored : Claims.memspecrd := fun _ _ => rfl

/-- `s` with a MemInv of a port counted (R442). -/
def memInvCounted (s : State) (p : Nat) : State := setBit (cxlCount (cxlCount s p 0) p 5) (portBase p + 0x910) 5

theorem exec_meminv (s : State) (m : CxlReq) :
    exec (.meminv m) s = .next (emit (memInvCounted s m.port.val) (.send m.port.val "Cmp" [m.tag.toNat])) := by
  change execMeminv m s = _
  rw [execMeminv, memInvCounted]

/-- R442: what is counted before the answer goes out leaves all but the registers. -/
theorem meminv_completes : Claims.meminv := by
  intro s m
  refine ⟨_, exec_meminv s m, ?_, ?_, ?_, ?_⟩
  · simp [emit, memInvCounted, cxlCount]
  · simp [memInvCounted, cxlCount]
  · simp [memInvCounted, cxlCount]
  · rw [flag, fld_emit, ← flag, memInvCounted, flag_setBit _ _ _ (by decide)]

/-! ## Back-invalidate answers (R113) -/

section Back
variable {s : State} {p : PortId} {line tag : Nat} {n : Snoop} {t : Trans} (answered : Claims.BiAnswered s p line tag n t)
include answered

/-- The answer of a CXL host with its port's key goes to the snoop. -/
theorem biRow_answers {off : Nat} (at_ : off / 64 = line) (a : Ans) :
    biRow p.val off tag a s = answerSnoop s line (.ep (portEp s p.val)) tag a none := by
  obtain ⟨host, cxl, key, -⟩ := answered
  simp only [biRow, host, cxl, key, at_, Bool.and_self, Bool.not_true, Bool.and_false, Bool.false_eq_true, if_false, if_true]

theorem biRow_kept {off : Nat} (at_ : off / 64 = line) {a : Ans} (fits : ansFits n.kind a = true) (other : a ≠ .i) :
    biRow p.val off tag a s = progress (setTrans s line (t.answered (portEp s p.val) a)) line := by
  rw [biRow_answers answered at_]
  obtain ⟨-, -, -, opened, waits, once⟩ := answered
  rw [answerSnoop_quiet opened waits fits other, answerNoted, if_neg (by simp [once])]

end Back

/-- R113: its WbDirty has come, so the answer is not stale. -/
theorem birspi_closes : Claims.birspi := by
  intro s p off g t n answered wrote
  obtain ⟨-, -, -, opened, waits, once⟩ := id answered
  change Host.Outcome.next (biRow p.val off.toNat g.toNat .i s) = _
  rw [biRow_answers answered rfl, answerSnoop_bare opened waits (ansFits_i _), if_neg (by rw [wrote]; simp), answerNoted, if_neg (by simp [once])]
  rfl

/-- R113. -/
theorem birsps_closes : Claims.birsps := fun _ _ _ _ _ _ answered kind =>
  congrArg _ (biRow_kept answered rfl (ansFits_sh kind) (by decide))

/-- R113. -/
theorem birspe_closes : Claims.birspe := fun _ _ _ _ _ _ answered kind =>
  congrArg _ (biRow_kept answered rfl (ansFits_cur kind) (by decide))

/-- R113. -/
theorem biconflict_queues : Claims.biconflict := by
  rintro s _ p off host cxl rfl
  change execBiconflict p off s = _
  simp only [execBiconflict, host, cxl, Bool.and_self, if_true]

/-- Settles O26: each row by the lemma about its command. -/
theorem cxlMemoryCommandsComplete : Obligations.CxlMemoryCommandsComplete :=
  ⟨cxlMemrd_enters, cxlMemrddata_enters, cxlMemwr_writes, cxlMemwrptl_enters, memclnevct_removes, memspecrd_ignored, meminv_completes,
    birspi_closes, birsps_closes, birspe_closes, biconflict_queues⟩

end Sys2Proof.Machine

/-! Atomics and Far mode (06): what a malformed AtomFar is answered (O16), and each row of combined atomics, replay and Far mode where it
takes effect (O27). -/

namespace Sys2Proof.Machine

/-! ## A malformed AtomFar at its home (R142) -/

/-- A malformed AtomFar is answered before the replay table (log entry 28) and its page are looked at; its refusal carries no line. -/
theorem orderLine_malformed {s : State} {r : Req} (kind : r.kind = .atomFar) (malformed : atomMalformed r.atom (r.addr.toNat % 64) = true) :
    orderLine s r = .done (refuseReq s r .badDescriptor) := by
  have answer : atomAnswer s (reqLine r) r = some (refuseReq s r .badDescriptor) := by
    rw [atomAnswer, if_pos malformed, refuseHome, kind]; rfl
  simp [orderLine, kind, loneAtom, answer]

/-- A request refused at the ordering point changes registers, messages, the home and the replay waits at most. -/
theorem dropRefused_same (s : State) (r : Req) (st : Status) : Same 652 s (dropInbox (refuseReq s r st) r) :=
  (dropInbox_same ..).step ((refuseReq_same ..).widen (by decide))

/-- Settles O16: the refusal is the order, and neither it nor the leaving of the ordering point touches memory. -/
theorem malformedAtomicRefused : Obligations.MalformedAtomicRefused := by
  intro s src tag r named clear kind malformed
  have kept := (dropRefused_same s r .badDescriptor).part
  exact ⟨_, congrArg Host.Outcome.next (orderRow_done named clear (orderLine_malformed kind malformed)), rfl, kept .cells (by decide),
    kept .poisonLines (by decide)⟩

/-! ## Combined atomics and replay (R144, R153, R155) -/

/-- An AtomComb that is well-formed is ordered as a home write: its records are looked up when it is applied. -/
theorem orderLine_atomComb {s : State} {r : Req} (kind : r.kind = .atomComb) (formed : atomMalformed r.atom (r.addr.toNat % 64) = false)
    (backed : Claims.Backed s r) : orderLine s r = orderHomeWrite s (reqLine r) r := by
  have unanswered : atomAnswer s (reqLine r) r = none := by simp [atomAnswer, formed, kind, loneAtom]
  simp [orderLine, kind, loneAtom, isHomeWrite, unanswered, writeReady_backed backed]

/-- An AtomComb that has come in from no host port is not taken in again by the row that orders it (log entry 27). -/
theorem exec_atomcomb_known {s : State} {r : Req} (kind : r.kind = .atomComb) (inner : isHostPort s r.port.val = false)
    (known : s.coh.inbox.any (fun x => x.src == r.src && x.tag == r.tag && x.kind == .atomComb) = true) :
    exec (.atomcomb r) s = .next (orderRow [.atomComb] r.src r.tag s) := by
  change execAtomcomb r s = _
  simp [execAtomcomb, kind, inner, known]

/-- R153, R144. -/
theorem atomcomb_applies : Claims.atomcomb := by
  intro s r q kind inner known named clear comb formed backed unheld
  rw [exec_atomcomb_known kind inner known]
  exact congrArg _ (orderRow_done named clear ((orderLine_atomComb comb formed backed).trans (orderHomeWrite_unheld unheld)))

/-- R153, R424. -/
theorem cmpcomb_splits : Claims.cmpcomb := by
  intro s p tag vs b x split
  have ends : exec (.cmpcomb p tag vs b) s = .next { s with
      atm := { s.atm with splits := s.atm.splits.erase x },
      coh := { s.coh with toRetire := s.coh.toRetire ++ x.recs.filterMap (contributorDone s p.val b vs) } } := by
    change execCmpcomb p tag vs b s = _
    simp only [execCmpcomb, split]
  exact ⟨_, ends, rfl, rfl⟩

/-- R155. -/
theorem replayEntryFree_takes : Claims.replayEntryFree := by
  intro s p r oldest finds
  change execReplayEntryFree p s = _
  simp only [execReplayEntryFree, oldest, finds, Bool.false_eq_true, if_false]

/-! ## Into Far mode and out of it (R148) -/

/-- The hot-line entry of a line that goes Far now: its buffer holds the memory copy (R148). -/
def farHot (s : State) (line : Nat) (h : Hot) : Hot :=
  { h with mode := .far, buf := (memLine s line).1, poison := (memLine s line).2, lastReq := s.now }

/-- `s` with a line in Far mode, its filter entry and its recall's record gone (R148). -/
def farEntered (s : State) (line : Nat) (h : Hot) : State := dropStat (setHot (dropDir s line) line (farHot s line h)) h.tag

/-- What keeps a line out of Far mode is no part of what its entry changes. -/
theorem farBarred_farEntered (s : State) (line : Nat) (h : Hot) : farBarred (farEntered s line h) line = farBarred s line := rfl

/-- A line whose recall has ended and of which no write is on its way goes Far, and stays Far where nothing bars it. -/
theorem exec_farEnter_recalled {s : State} {off : PoolOff} {h : Hot} (hot : hotAt s (off.toNat / 64) = some h) (mode : h.mode = .entering)
    (recalled : recallDone s h.tag = true) (idle : transAt s (off.toNat / 64) = none)
    (drained : s.coh.wbBuf.any (fun w => w.line == off.toNat / 64) = false) (unbarred : farBarred s (off.toNat / 64) = none) :
    exec (.farEnter off) s = .next (farEntered s (off.toNat / 64) h) := by
  have stays : leaveBarred (farEntered s (off.toNat / 64) h) (off.toNat / 64) = farEntered s (off.toNat / 64) h := by
    rw [leaveBarred, farBarred_farEntered, unbarred]
  change execFarEnter off s = _
  simp only [execFarEnter, hot, mode, recalled, idle, drained, Option.isNone_none, and_self, if_true]
  exact congrArg _ stays

/-- R148. -/
theorem farEnter_enters : Claims.farEnter := fun s off h hot mode recalled idle drained unbarred =>
  ⟨farEntered s (off.toNat / 64) h, exec_farEnter_recalled hot mode recalled idle drained unbarred,
    (dirAt_setHot ..).trans (dirAt_dropDir ..), rfl, (hotAt_dropStat ..).trans (hotAt_setHot ..)⟩

/-- A Far line that is sent to LEAVING keeps its buffer, and its way out is counted. -/
theorem leaveFar_far {s : State} {line : Nat} {h : Hot} (cnt : Nat) (hot : hotAt s line = some h) (mode : h.mode = .far) :
    leaveFar s line cnt = bump (setHot s line { h with mode := .leaving }) (farCnt (linePart line) cnt) := by
  simp only [leaveFar, hot, mode, if_true]

/-- R148. -/
theorem farQuietExpire_leaves : Claims.farQuietExpire := by
  intro s off h hot mode quiet unasked
  refine ⟨leaveFar s (off.toNat / 64) 1, ?_, ?_, ?_⟩
  · change execFarQuietExpire off s = _
    simp only [execFarQuietExpire, hot, mode, quiet, unasked, and_self, if_true]
  · rw [leaveFar_far 1 hot mode, hotAt_bump, hotAt_setHot]
  · rw [leaveFar_far 1 hot mode, bump_pool, setHot_pool]

/-- R148. -/
theorem farExitDone_nears : Claims.farExitDone := by
  intro s off h hot mode
  change execFarExitDone off s = _
  simp only [execFarExitDone, hot, mode, if_true]

/-! ## A Far line's requests (R149) -/

/-- A RdShared at the head of a Far line's queue is served alone: it needs no replay entry and joins no group of atomics. -/
theorem exec_farLineOp_shared {s : State} {off : PoolOff} {h : Hot} {r : Req} {q : List Req} (hot : hotAt s (off.toNat / 64) = some h)
    (mode : h.mode = .far) (first : s.coh.waitQ.filter (fun r => reqLine r == off.toNat / 64) = r :: q) (kind : r.kind = .rdShared)
    (free : lineHeld s (off.toNat / 64) false = false) : exec (.farLineOp off) s = .next (farServe s (off.toNat / 64) h r) := by
  have fits : replayShort s r = false := by simp [replayShort, kind]
  have lone : farCombinable r = false := by simp [farCombinable, kind]
  change execFarLineOp off s = _
  simp [execFarLineOp, hot, first, mode, kind, isWriteKind, free, fits, lone]

/-- R149. -/
theorem farLineOp_reads : Claims.farLineOp := by
  intro s off h r q hot mode first kind device free
  rw [exec_farLineOp_shared hot mode first kind free, farServe, kind]
  simp only [farGrant, if_neg device]
  rfl

/-- Settles O27: each row by the lemma about its command. -/
theorem farModeCommandsComplete : Obligations.FarModeCommandsComplete :=
  ⟨atomcomb_applies, cmpcomb_splits, replayEntryFree_takes, farEnter_enters, farLineOp_reads, farQuietExpire_leaves, farExitDone_nears⟩

end Sys2Proof.Machine

/-! Forwarded descriptors, and the operations on shelves and drafts (07): each row where it takes effect (O28). -/

namespace Sys2Proof.Machine

/-! ## Forwarding (R165) -/

/-- A descriptor that comes to its home for the first time, passes the checks of R38 and names no image waits there and does nothing else. -/
theorem exec_forwardedDescriptor_new {s : State} {sw : BitVec 12} {h : Handle} {key : Key} {d : Line} {row : OpRow}
    (new : handleOf s (remoteRef sw.toNat h.toNat) = none) (op : opRow (dOp d) = some row) (clean : reservedFault d row = none)
    (no_image : imageOf d = none) : exec (.forwardedDescriptor sw h key d) s = .next (setHandle s (remoteRef sw.toNat h.toNat)
      { ring := h.toNat / 2 ^ 52, gen := h.toNat / 2 ^ 48 % 16, seq := h.toNat % 2 ^ 48, phase := .live, opcode := dOp d, flags := dFlags d,
        key := key, tag := dTag d, desc := d, remote := some sw.toNat }) := by
  change execForwardedDescriptor sw h key d s = _
  simp only [execForwardedDescriptor, new, op, clean, no_image]

/-- R165. -/
theorem forwardedDescriptor_waits : Claims.forwardedDescriptor := fun _ _ _ _ _ _ new op clean no_image =>
  ⟨_, exec_forwardedDescriptor_new new op clean no_image, _, handleOf_setHandle .., rfl, rfl, rfl, rfl, rfl⟩

/-! ## Shelves and their slots (R166, R169, R170, R178) -/

/-- R166, R170, R178: the operands are in their bounds and nothing lies in the region. -/
theorem shelfCreate_creates : Claims.shelfCreate := by
  intro s h r x i start two most base_aligned size_aligned page tera extent owner low high no_object no_page lowest index
  have slots : ¬ (d32 r.desc 12 < 2 ∨ 256 < d32 r.desc 12) := by omega
  have size : ¬ (d64 r.desc 24 % 65536 ≠ 0 ∨ d64 r.desc 24 < 65536 ∨ 2 ^ 40 < d64 r.desc 24) := by omega
  have inside : ¬ (d64 r.desc 16 < x.base ∨ x.base + x.len < d64 r.desc 16 + d32 r.desc 12 * d64 r.desc 24) := by omega
  change execShelfCreate h s = _
  simp only [execShelfCreate, start, slots, base_aligned, size, extent, owner, inside, no_object, no_page, ← lowest, Nat.not_le.mpr index,
    ne_eq, not_true, or_self, Bool.false_eq_true, if_false]

/-- R169, R170, R178: no slot shows the version, and it may be pinned. -/
theorem shelfOpen_opens : Claims.shelfOpen := by
  intro s h r i v k x start named shelf access version unshown free pin
  have readable : (shelfAccess s x r.key).isNone = false := Option.isNone_eq_false_iff.mpr access
  change execShelfOpen h s = _
  simp only [execShelfOpen, start, named, shelf, readable, version, unshown, free, pin, openDone, Bool.false_eq_true, if_false, if_true]

/-- R169: the key's one open is the slot's last. -/
theorem shelfClose_closes : Claims.shelfClose := by
  intro s h r i x l start shelf slot named view opens
  change execShelfClose h s = _
  simp [execShelfClose, start, shelf, Nat.not_le.mpr slot, named, view, opens, openCount]

/-! ## Drafts (R169, R170, R173, R175) -/

/-- R169, R170: RW access, a free slot, and a version that may be pinned. -/
theorem draftBegin_begins : Claims.draftBegin := by
  intro s h r i v k x start named shelf access version free pin
  change execDraftBegin h s = _
  simp only [execDraftBegin, start, named, shelf, access, version, free, pin, openDone, ne_eq, not_true, if_false, if_true]

/-- A descriptor names the draft's base by its number or, where the base is the head, by 0xFFFFFFFF (R170). -/
theorem publishBase_eq {x : Shelf} {v base : Nat} (named : v = base ∧ base ≠ 0xFFFFFFFF ∨ v = 0xFFFFFFFF ∧ x.head = base) :
    publishBase x v = base := by
  obtain ⟨rfl, number⟩ | ⟨rfl, head⟩ := named
  · exact if_neg number
  · exact head

/-- R173, R175 step 1. -/
theorem draftPublish_queues : Claims.draftPublish := by
  intro s h r i k x l start nonzero draft named room
  change execDraftPublish h s = _
  simp only [execDraftPublish, start, nonzero, draft, publishBase_eq named, room, slotLo, slotHi, ne_eq, not_true, if_false]

/-- R169. -/
theorem draftDiscard_closes : Claims.draftDiscard := by
  intro s h r i k x l start draft
  change execDraftDiscard h s = _
  simp only [execDraftDiscard, start, draft]

/-- Settles O28: each row by the lemma about its command. -/
theorem shelfCommandsComplete : Obligations.ShelfCommandsComplete :=
  ⟨forwardedDescriptor_waits, shelfCreate_creates, shelfOpen_opens, shelfClose_closes, draftBegin_begins, draftPublish_queues, draftDiscard_closes⟩

end Sys2Proof.Machine

/-! The steps of a publish, and what frees slots, pages and versions (07): each row where it takes effect (O29). -/

namespace Sys2Proof.Machine

/-! ## Publishing (R174 to R176) -/

/-- R175 step 2. That the Far lines of the slot are written to memory is assumption log entry 31. -/
theorem publishRecallEnd_recalls : Claims.publishRecallEnd := by
  intro s h i x q publish stage recalled drained no_copy none_left
  change execPublishRecallEnd h s = _
  simp only [execPublishRecallEnd, publish, stage, recalled, drained, no_copy, none_left, and_self, if_true]

/-- R175 steps 3 and 4: the version that the publish replaces needs no pin, so the limit of R170 does not stop it. That the
draft's own base is not counted as a pin is assumption log entry 29. -/
theorem publishDecide_decides : Claims.publishDecide := by
  intro s h i x q publish stage room first live unpinned base
  change execPublishDecide h s = _
  simp only [execPublishDecide, publish, stage, room, first, live, unpinned, base, ne_eq, not_true, Bool.true_eq_false, Bool.false_eq_true,
    false_and, or_self, if_false, if_true]

/-- A publish that merges nothing has no page to recall again at its commit. -/
theorem mergeLeft_of_deciding {x : Shelf} {q : Publish} (s : State) (stage : q.stage = .deciding) : mergeLeft s x q = none := by
  simp [mergeLeft, stage]

/-- R175 steps 4 to 6, R176: no answer was fenced and nothing was merged. -/
theorem publishCommit_commits : Claims.publishCommit := by
  intro s h i x x' q publish stage live unfenced unmerged none_fenced new
  subst new
  change execPublishCommit h s = _
  simp [execPublishCommit, publish, stage, live, mergeLeft_of_deciding s stage, commitPublish, unfenced, unmerged, none_fenced]

/-! ## Slots and versions (R169, R171) -/

/-- R169, R171: the slot is no draft's that was discarded, so no descriptor waits for its end. That its Far lines leave Far mode
first is assumption log entry 31. -/
theorem slotFree_frees : Claims.slotFree := by
  intro s u i k x l shelf slot closing kept recalled drained near unplaced no_copy none_left emptied
  subst emptied
  change execSlotFree i k s = _
  simp only [execSlotFree, shelf, slot, closing, kept, recalled, drained, near, unplaced, no_copy, none_left, and_self, if_true]

/-- R171. -/
theorem versionReclaim_reclaims : Claims.versionReclaim := by
  intro s i v x l shelf version old unpinned
  change execVersionReclaim i v s = _
  simp only [execVersionReclaim, shelf, version, old, unpinned, Bool.false_eq_true, or_self, if_false]

/-! ## Page copies (R172) -/

/-- `s` once the bytes of a page copy have reached its new backing page. -/
def cowCopied (s : State) (c : CowCopy) : State :=
  match c.src with
  | some a => copyBack s a c.dst
  | none => s

/-- `s` once the new page of a page copy has taken over the pin of its source. -/
def cowPinned (s : State) (c : CowCopy) : State :=
  match c.src with
  | some a => passPin s a c.dst
  | none => s

/-- `s` once a page copy is off the list and its new page is the draft's own. -/
def cowOwned (s : State) (c : CowCopy) : State :=
  { s with obj := { s.obj with
    cows := s.obj.cows.erase c
    shelves := tblUpd s.obj.shelves c.shelf (fun x =>
      { x with slots := tblUpd x.slots c.slot (fun l => { l with privs := tblPut l.privs c.idx c.dst }) }) } }

/-- `s` once a page copy has ended and the map shows its new page. -/
def cowLanded (s : State) (c : CowCopy) : State :=
  cowPinned (fitPage (dropCached (setPage (bump (cowOwned (cowCopied s c) c) (objCnt 3)) c.page c.dst) c.page) c.dst) c

theorem cowCopied_obj (s : State) (c : CowCopy) : (cowCopied s c).obj = s.obj := by
  unfold cowCopied
  split
  · exact (copyBack_same ..).part .obj rfl
  · rfl

theorem cowPinned_obj (s : State) (c : CowCopy) : (cowPinned s c).obj = s.obj := by
  unfold cowPinned
  split
  · exact (passPin_same ..).part .obj rfl
  · rfl

theorem cowPinned_pages (s : State) (c : CowCopy) : (cowPinned s c).pool.pages = s.pool.pages := by
  unfold cowPinned
  split
  · exact (passPin_same ..).part .pages rfl
  · rfl

/-- Neither the bytes that are copied nor the page's place changes what waits to be copied. -/
theorem cowLanded_cows (s : State) (c : CowCopy) : (cowLanded s c).obj.cows = s.obj.cows.erase c := by
  have fitted (t : State) : (fitPage t c.dst).obj = t.obj := (fitPage_same ..).part .obj rfl
  rw [cowLanded, cowPinned_obj, fitted, dropCached_obj, setPage_obj, bump_obj, cowOwned, cowCopied_obj]

/-- What comes after the page is set, a fit of its place in T1 and its pin, leaves the map alone. -/
theorem backIdOf_cowLanded (s : State) (c : CowCopy) : backIdOf (cowLanded s c) c.page = some c.dst := by
  have fitted (t : State) : (fitPage t c.dst).pool.pages = t.pool.pages := (fitPage_same ..).part .pages rfl
  rw [backIdOf, cowLanded, cowPinned_pages, fitted]
  exact tblFind_put ..

/-- A page copy that has ended lands, and the requests that waited on the page's lines go on. -/
theorem exec_cowCopyDone_found {s : State} {p : BitVec 32} {c : CowCopy} (found : s.obj.cows.find? (fun c => c.page == p.toNat) = some c) :
    exec (.cowCopyDone p) s = .next
      ((((cowLanded s c).coh.waitQ.filter (fun r => reqLine r / 1024 == c.page)).map reqLine).eraseDups.foldl takeUp (cowLanded s c)) := by
  change execCowCopyDone p s = _
  simp only [execCowCopyDone, found]
  rfl

/-- R172. -/
theorem cowCopyDone_lands : Claims.cowCopyDone := fun s _ c found =>
  ⟨_, exec_cowCopyDone_found found, cowLanded s c, rfl, cowLanded_cows s c, backIdOf_cowLanded s c⟩

/-- Settles O29: each row by the lemma about its command. -/
theorem publishStepsComplete : Obligations.PublishStepsComplete :=
  ⟨publishRecallEnd_recalls, publishDecide_decides, publishCommit_commits, slotFree_frees, cowCopyDone_lands, versionReclaim_reclaims⟩

end Sys2Proof.Machine

/-! The operations of the Winch on ranges, windows and banks (08): each row where it starts or completes (O31). -/

namespace Sys2Proof.Machine

/-! ## Placement and migration (R197, R213) -/

/-- The placement records are no part of the map of pages. -/
theorem pagesIn_places (s : State) (ps : List PlaceRec) (lo hi : Nat) :
    pagesIn { s with tier := { s.tier with places := ps } } lo hi = pagesIn s lo hi := rfl

/-- R197: no page of the range is allocated, so no copy in another backing tier is dropped. -/
theorem place_places : Claims.place := by
  intro s h r x n start base_aligned len_aligned policy tier backing stay nonempty owned allowed record room unallocated
  subst record
  change execPlace h s = _
  simp [execPlace, start, base_aligned, len_aligned, policy, tier, backing, stay, nonempty, owned, allowed, tierOpt, Nat.not_lt.mpr room,
    pagesIn_places, unallocated]

/-- R213. -/
theorem migrate_starts : Claims.migrate := by
  intro s h r x start base_aligned len_aligned tier owned allowed
  change execMigrate h s = _
  simp only [execMigrate, start, base_aligned, len_aligned, Nat.not_lt.mpr tier, owned, allowed, ne_eq, not_true, Bool.not_true,
    Bool.false_eq_true, if_false, Claims.Begins]

/-! ## Streaming windows (R205, R206, R228) -/

/-- R205, R228: the descriptor names its engines, so the device chooses none (log entry 106). -/
theorem winchWindow_opens : Claims.winchWindow := by
  intro s t u h r x b ls i start open_ base_aligned some_pages max_pages two_slots max_slots table_aligned some_layers max_layers
    preload_slots preload_layers owned allowed lowest index unfixed clean image table placed refs engines
  subst refs
  have pages : ¬ (d32 r.desc 16 = 0 ∨ 262144 < d32 r.desc 16) := by omega
  have slots : ¬ (d8 r.desc 20 < 2 ∨ 64 < d8 r.desc 20) := by omega
  have layers : ¬ (d32 r.desc 32 = 0 ∨ 65536 < d32 r.desc 32) := by omega
  have preload : ¬ (d8 r.desc 20 < d32 r.desc 36 ∨ d32 r.desc 32 < d32 r.desc 36) := by omega
  change execWinchWindow h s = _
  simp only [execWinchWindow, start, open_, base_aligned, pages, slots, table_aligned, layers, preload, owned, allowed, ← lowest,
    Nat.not_le.mpr index, unfixed, clean, image, table, placed, engines, ne_eq, not_true, or_self, Bool.not_true, Bool.false_eq_true,
    if_false, Claims.Begins]

/-- R205. -/
theorem winchWindowClose_drops : Claims.winchWindowClose := by
  intro s h r w start close window open_ key idle
  change execWinchWindowClose h s = _
  simp only [execWinchWindowClose, start, close, window, open_, key, idle, Option.isSome_none, ne_eq, not_true, Bool.not_true,
    Bool.false_eq_true, if_false, if_true]

/-- R206. -/
theorem winchAdvance_loads : Claims.winchAdvance := by
  intro s h r w start window open_ key first some_layers max_layers last
  have count : ¬ (d32 r.desc 16 = 0 ∨ w.slots < d32 r.desc 16 ∨ w.layers.length < d32 r.desc 12 + d32 r.desc 16) := by omega
  change execWinchAdvance h s = _
  simp only [execWinchAdvance, start, window, open_, key, Nat.not_le.mpr first, count, Option.isSome_none, ne_eq, not_true,
    Bool.false_eq_true, if_false, Claims.Begins]

/-! ## Write-back, copies and fills (R209, R212, R214) -/

/-- R212. -/
theorem flush_starts : Claims.flush := by
  intro s h r m b start base_aligned end_aligned writable mine backed
  subst backed mine
  change execFlush h s = _
  simp only [execFlush, start, base_aligned, end_aligned, writable, ne_eq, not_true, if_false, if_true, Claims.Begins]

/-- R199, R214. -/
theorem copy_starts : Claims.copy := by
  intro s h r start src_aligned src_high dst_aligned dst_high len_aligned max_len apart
  change execCopy h s = _
  simp only [execCopy, start, src_aligned, Nat.not_le.mpr src_high, dst_aligned, Nat.not_le.mpr dst_high, len_aligned,
    Nat.not_lt.mpr max_len, apart, ne_eq, not_true, or_self, Bool.false_eq_true, and_false, if_false, Claims.Begins]

/-- R209. -/
theorem fill_starts : Claims.fill := by
  intro s h r start eager formed
  change execFill h s = _
  simp only [execFill, start, eager, formed, Bool.false_eq_true, if_false, Claims.Begins]

/-- R209: fewer than 16 operations hold fewer than 16 lazy fills. -/
theorem fillLazy_awaits : Claims.fillLazy := by
  intro s h r x off n start lazy formed offset_eq aligned here size extent access few
  have room (p : Nat × WOp → Bool) : ¬ 16 ≤ (s.tier.ops.filter p).length := by
    have shorter := s.tier.ops.length_filter_le p
    omega
  have offset : d64 r.desc 8 % 2 ^ 48 = off := offset_eq.symm
  refine ⟨_, ?_, _, rfl, rfl⟩
  change execFillLazy h s = _
  simp only [execFillLazy, start, lazy, formed, offset, aligned, here, size, extent, access, room, Nat.mul_mod_left,
    Nat.mul_div_cancel _ (Nat.zero_lt_succ 65535), ne_eq, not_true, or_self, Bool.not_true, Bool.true_eq_false, Bool.false_eq_true, if_false]

/-! ## Evacuation (R215, R259) -/

/-- R215, R259. -/
theorem stackEvacuate_starts : Claims.stackEvacuate := by
  intro s h r start stack order first some_banks last
  have count : ¬ (d16 r.desc 12 = 0 ∨ 256 < d16 r.desc 10 + d16 r.desc 12) := by omega
  change execStackEvacuate h s = _
  simp only [execStackEvacuate, start, Nat.not_lt.mpr stack, Nat.not_lt.mpr order, Nat.not_lt.mpr first, count, if_false]

/-- Settles O31: each row by the lemma about its command. -/
theorem placementCommandsComplete : Obligations.PlacementCommandsComplete :=
  ⟨place_places, migrate_starts, winchWindow_opens, winchWindowClose_drops, winchAdvance_loads, flush_starts, copy_starts, fill_starts,
    fillLazy_awaits, stackEvacuate_starts⟩

end Sys2Proof.Machine

/-! Code tables and compression (09): CTABLE_RETIRE without RECODE in both its outcomes (O13), and each row of code tables and
compression where it takes effect (O33). -/

namespace Sys2Proof.Machine

/-! ## Loading a table (R230, R231) -/

/-- R230, R231. -/
theorem ctableLoad_installs : Claims.ctableLoad := by
  intro s t h r b c start aligned slot clean image crc table admitted installed
  subst installed
  change execCtableLoad h s = _
  simp only [execCtableLoad, start, aligned, slot, clean, image, crc, table, admitted, ne_eq, not_true, Bool.false_eq_true, if_false]

/-! ## The modes of CTABLE_BUILD (R232 to R234) -/

/-- A well-formed CTABLE_BUILD descriptor that may start runs as its mode. -/
theorem buildRow_runs {s : State} {h : Handle} {mode : Nat} {run : HandleRec → State} {r : HandleRec}
    (start : startable s h.toNat 0x39 = some r) (formed : buildBad r.desc = none) (mode_eq : d8 r.desc 41 = mode) :
    buildRow h mode s run = .next (run r) := by
  simp only [buildRow, start, formed, mode_eq, if_true]

/-- Pass 1 claims its slot and starts its count where the slot admits a generation and any object has room. -/
theorem startCount_starts {s : State} {h : Nat} {k : Key} {d : Line} {mode : Nat} (admitted : slotRefusal s (d8 d 40) h k = none)
    (room : ¬ (mode = 1 ∧ objectsFull s = true)) :
    startCount s h k d mode = startBuild (claimSlot s (d8 d 40) h false) h k d mode
      { handle := h, op := 0, mode := mode, slot := d8 d 40, counts := List.replicate 268 0 } (countWorks (d64 d 8) (d64 d 16)) := by
  simp only [startCount, admitted, if_neg room]

/-- R232, R238: BUILD registers no object, so it needs no room. -/
theorem build_counts : Claims.build := by
  intro s h r start formed mode admitted
  change execBuild h s = _
  rw [execBuild, buildRow_runs start formed mode, startCount_starts admitted (by simp)]

/-- R233. -/
theorem buildEncode_counts : Claims.buildEncode := by
  intro s h r start formed mode admitted room
  change execBuildEncode h s = _
  rw [execBuildEncode, buildRow_runs start formed mode, startCount_starts admitted (by simp [room])]

/-- R232, R233, R238. -/
theorem encode_starts : Claims.encode := by
  intro s h r g start formed mode owned kept current cxa room
  change execEncode h s = _
  rw [execEncode, buildRow_runs start formed mode]
  simp only [owned, kept, current, cxa, room, Bool.not_true, Bool.or_self, Bool.false_eq_true, if_false]

/-- R234. -/
theorem expand_starts : Claims.expand := by
  intro s h r x start formed mode object fits
  change execExpand h s = _
  rw [execExpand, buildRow_runs start formed mode]
  simp only [object, Nat.not_lt.mpr fits, if_false, Claims.Begins]

/-- R228, R234. -/
theorem release_drops : Claims.release := by
  intro s t h r x start formed mode object gone
  subst gone
  change execRelease h s = _
  rw [execRelease, buildRow_runs start formed mode]
  simp only [object]

/-! ## CTABLE_RETIRE (R235, R236) -/

/-- What CTABLE_RETIRE without RECODE does to an idle slot of its key is decided by the references to the named generations alone. -/
theorem exec_ctableRetire_idle {s : State} {h : Handle} {r : HandleRec} (start : startable s h.toNat 0x3A = some r)
    (drop : dFlag r.desc 2 = false) (slot : d8 r.desc 8 ≠ 255) (owned : slotForeign s (d8 r.desc 8) r.key = false)
    (idle : slotLive s (d8 r.desc 8) = false) {gs : List Nat} (named : gs = namedGens s (d8 r.desc 8) (d8 r.desc 9)) :
    exec (.ctableRetire h) s =
      if (gs.map (genRefs s (d8 r.desc 8))).sum ≠ 0 then
        .next (commit s h.toNat .busy 0 (word (gs.map (genRefs s (d8 r.desc 8))).sum))
      else .next (engineDone (dropGens (markStarted s h.toNat) (d8 r.desc 8) gs) h.toNat .ok 0 (word gs.length)) := by
  subst named
  change execCtableRetire h s = _
  simp only [execCtableRetire, start, drop, slot, owned, idle, Bool.false_eq_true, if_false]

/-- R235. -/
theorem ctableRetire_drops : Claims.ctableRetire := by
  intro s h r gs start drop slot owned idle named unreferenced
  rw [exec_ctableRetire_idle start drop slot owned idle named, if_neg (not_not_intro unreferenced)]

/-- R236. -/
theorem ctableRetireRecode_starts : Claims.ctableRetireRecode := by
  intro s t h r gs os start recode slot owned idle named dest claimed objects
  subst objects claimed named
  refine ⟨_, ?_, _, rfl, rfl⟩
  change execCtableRetireRecode h s = _
  simp only [execCtableRetireRecode, start, recode, slot, owned, idle, dest, Bool.not_true, Bool.false_eq_true, if_false]

/-- No generation of a slot is among those just dropped from it (R235), whether the slot keeps others or is erased. -/
theorem dropGens_gens (s : State) (slot : Nat) (gens : List Nat) :
    (cslotOf (dropGens s slot gens) slot).gens = (cslotOf s slot).gens.filter (fun g => !gens.contains g.num) := by
  unfold dropGens
  extract_lets c left cur
  split
  case isTrue none_left =>
    rw [cslotOf, tblGet, tblFind_erase]
    exact (List.isEmpty_iff.mp none_left).symm
  case isFalse => rw [cslotOf_setCslot]

/-- A generation dropped from a slot is no longer among its generations. -/
theorem not_mem_dropGens {s : State} {slot g : Nat} {gens : List Nat} (named : g ∈ gens) :
    g ∉ (cslotOf (dropGens s slot gens) slot).gens.map (·.num) := by
  rw [dropGens_gens]
  simp only [List.mem_map, List.mem_filter]
  rintro ⟨x, ⟨-, kept⟩, rfl⟩
  simp [named] at kept

/-- Settles O13: the references to the named generations add up to none exactly when each has none. -/
theorem retireWithoutRecode : Obligations.RetireWithoutRecode := by
  intro s h r gs start drop slot owned idle named
  have decided := exec_ctableRetire_idle start drop slot owned idle named
  have unreferenced : (gs.map (genRefs s (d8 r.desc 8))).sum = 0 ↔ ∀ g ∈ gs, genRefs s (d8 r.desc 8) g = 0 := by
    rw [List.sum_eq_zero_iff_forall_eq_nat, List.forall_mem_map]
  constructor
  · rintro ⟨g, mem, referenced⟩
    have some_refs : (gs.map (genRefs s (d8 r.desc 8))).sum ≠ 0 := fun none_left => referenced (unreferenced.mp none_left g mem)
    exact ⟨by rw [decided, if_pos some_refs], (commit_same ..).part .cmp rfl⟩
  · intro none_left
    refine ⟨ctableRetire_drops s h r gs start drop slot owned idle named (unreferenced.mpr none_left), fun g mem => ?_⟩
    rw [cslotOf_engineDone]
    exact not_mem_dropGens mem

/-! ## Refetch of a mismatched block (R237) -/

/-- R237. -/
theorem blockRefetch_notes : Claims.blockRefetch := by
  intro s u off i b page backed tier due ended unfenced kept
  subst ended
  change execBlockRefetch off true s = _
  simp only [execBlockRefetch, page, backed, tier, due, unfenced, kept, Bool.not_true, Bool.or_self, Bool.false_eq_true, if_false, if_true]

/-- Settles O33: each row by the lemma about its command. -/
theorem codeTableCommandsComplete : Obligations.CodeTableCommandsComplete :=
  ⟨ctableLoad_installs, build_counts, buildEncode_counts, encode_starts, expand_starts, release_drops, ctableRetire_drops,
    ctableRetireRecode_starts, blockRefetch_notes⟩

end Sys2Proof.Machine

/-! Events of the memory stacks (10): refresh and preemption points, temperature, errors and sparing, scrubs, and stacks that can no longer be
read (O34). -/

namespace Sys2Proof.Machine

/-! ## Refresh and preemption points (R249, R250, R277) -/

/-- Refreshes that are due at a bank are served together (R250). -/
theorem serveRefresh_due {s : State} {st b : Nat} (due : tblGet (stackOf s st).refDue b 0 ≠ 0) :
    serveRefresh s st b = bumpBy (setStack s st { stackOf s st with refDue := tblErase (stackOf s st).refDue b }) (stackCnt st 6)
      (tblGet (stackOf s st).refDue b 0) := if_neg due

/-- R249, R250. -/
theorem refreshDue_serves : Claims.refreshDue := by
  intro s st b n yields count due
  subst count
  change execRefreshDue st b s = _
  rw [execRefreshDue, if_pos yields, serveRefresh_due due]

/-- R250, R277, R289: no fault was found in the quantum, so none is recorded. -/
theorem preemptionPoint_checkpoints : Claims.preemptionPoint := by
  intro s u v st b q p running granted sound quantum refreshed
  subst refreshed
  change execPreemptionPoint st b s = _
  simp only [execPreemptionPoint, running, granted, sound, quantum, Bool.not_true, Bool.false_eq_true, if_false]

/-! ## Temperature (R251, R252) -/

/-- `s` once the time that a stack has been in extended refresh, and in HOT, since its last sample is counted. -/
def heatCounted (s : State) (st : Nat) : State :=
  let ms := s.now / 1000000 - (stackOf s st).sampledAt / 1000000
  let u := if (stackOf s st).ext then bumpBy s (stackCnt st 9) ms else s
  if (stackOf s st).hot then bumpBy u (stackCnt st 10) ms else u

/-- Both counts change registers only. -/
theorem heatCounted_eq (s : State) (st : Nat) : heatCounted s st = { s with regs := (heatCounted s st).regs } := by
  unfold heatCounted
  extract_lets ms u
  have warm : u = { s with regs := u.regs } := by
    subst u
    split <;> rfl
  split
  · exact congrArg (bumpBy · (stackCnt st 10) ms) warm
  · exact warm

theorem heatCounted_now (s : State) (st : Nat) : (heatCounted s st).now = s.now := by rw [heatCounted_eq]

theorem heatCounted_pwr (s : State) (st : Nat) : (heatCounted s st).pwr = s.pwr := by rw [heatCounted_eq]

theorem heatCounted_pool (s : State) (st : Nat) : (heatCounted s st).pool = s.pool := by rw [heatCounted_eq]

/-- Nothing is released where THERMTRIP_N is not asserted (R532). -/
theorem releaseTrip_of_untripped {s : State} (untripped : s.pwr.tripped = false) : releaseTrip s = s := by
  simp [releaseTrip, untripped]

/-- A sample below every threshold counts the time since the last one and leaves the stack neither in extended refresh nor HOT (R251, R252). -/
theorem exec_tempSample_cool {s : State} {st : StackId} {t : BitVec 8} (cool : t.toNat ≤ fld s (stackBase st.val) 8 8)
    (below_ext : t.toNat < fld s (stackBase st.val) 0 8) (below_hot : t.toNat < fld s (stackBase st.val) 16 8)
    (untripped : s.pwr.tripped = false) : exec (.tempSample st t) s = .next (setStack (heatCounted s st.val) st.val
      { stackOf s st.val with temp := t.toNat, ext := false, hot := false, sampledAt := s.now }) := by
  have still (r : StackRec) : releaseTrip (setStack (heatCounted s st.val) st.val r) = setStack (heatCounted s st.val) st.val r :=
    releaseTrip_of_untripped (by rw [setStack_pwr, heatCounted_pwr, untripped])
  rw [← still, ← heatCounted_now s st.val]
  change execTempSample st t s = _
  simp only [execTempSample, Nat.not_le.mpr below_ext, Nat.not_le.mpr below_hot, cool, decide_true, if_true, if_false, Bool.false_and,
    Bool.false_eq_true]
  rfl

/-- R251, R252. -/
theorem tempSample_cools : Claims.tempSample := by
  intro s st t cool below_ext below_hot untripped
  refine ⟨_, exec_tempSample_cool cool below_ext below_hot untripped, ?_⟩
  simp only [stackOf_setStack, setStack_pool, heatCounted_pool, and_self]

/-! ## Errors and sparing (R253 to R255) -/

/-- R253. -/
theorem dramReread_delivers : Claims.dramReread := by
  intro s u off st b i waiting ended bank page
  subst ended
  change execDramReread off true s = _
  simp only [execDramReread, waiting, bank, page, Bool.not_true, Bool.false_eq_true, if_false, if_true]

/-- R254. -/
theorem rowSpareCopyDone_remaps : Claims.rowSpareCopyDone := by
  intro s st b d j job
  change execRowSpareCopyDone st b d s = _
  simp only [execRowSpareCopyDone, job]

/-- R255, R215: no sequence stands on the bank, so no checkpoint is read. -/
theorem bankReplaceCopyDone_replaces : Claims.bankReplaceCopyDone := by
  intro s u st b j job replaced idle
  subst replaced
  change execBankReplaceCopyDone st b true s = _
  simp only [execBankReplaceCopyDone, job, idle]

/-! ## Scrubs, lost stacks and base logics (R257, R258, R263) -/

/-- R257. -/
theorem patrolScrub_counts : Claims.patrolScrub := by
  intro s st b d yields unwaited
  change execPatrolScrub st b d .clean s = _
  simp only [execPatrolScrub, yields, unwaited, List.isEmpty_nil, Bool.not_true, Bool.or_self, Bool.false_eq_true, if_false]

/-- R263. -/
theorem stackUnreadable_loses : Claims.stackUnreadable := by
  intro s u st ids readable pages gone
  subst gone pages
  refine ⟨_, ?_, _, rfl, rfl⟩
  change execStackUnreadable st s = _
  rw [execStackUnreadable, loseStack, if_neg readable]

/-- R258: AUTO_EVAC is set, so STACK_ERR takes no note of the fault. -/
theorem stackBaseLogicFault_evacuates : Claims.stackBaseLogicFault := by
  intro s st online auto
  have readable : (stackOf s st.val).mode ≠ .offline := by simp [online]
  change execStackBaseLogicFault st s = _
  simp only [execStackBaseLogicFault, readable, auto, if_false, if_true]

/-- Settles O34: each row by the lemma about its command. -/
theorem stackEventsComplete : Obligations.StackEventsComplete :=
  ⟨refreshDue_serves, preemptionPoint_checkpoints, tempSample_cools, dramReread_delivers, rowSpareCopyDone_remaps,
    bankReplaceCopyDone_replaces, patrolScrub_counts, stackUnreadable_loses, stackBaseLogicFault_evacuates⟩

end Sys2Proof.Machine

/-! Bank Arithmetic Units (11): placements, launches and quanta (O35), and the instructions that set registers, load the stationary buffer
and fill ACC (O36), each row where it takes effect. -/

namespace Sys2Proof.Machine

/-! ## Placements (R284 to R286) -/

/-- R284: no page of the range has a backing page yet, so none is left to move and no reference of an object is taken. -/
theorem bauPlace_reserves : Claims.bauPlace := by
  intro s h r x i st b ps start new no_mate no_object base_aligned len_aligned some_len max_len stack owned allowed pages unbacked quota
    lowest index unplaced unpinned bank
  have len : ¬ (d64 r.desc 16 % 65536 ≠ 0 ∨ d64 r.desc 16 = 0 ∨ 248 * 2 ^ 20 < d64 r.desc 16) := by omega
  refine ⟨_, ?_, _, rfl, rfl⟩
  change execBauPlace h s = _
  simp only [execBauPlace, start, new, no_mate, no_object, base_aligned, len, Nat.not_lt.mpr stack, owned, allowed, ← pages, unbacked, quota,
    ← lowest, Nat.not_le.mpr index, unplaced, unpinned, bank, ne_eq, not_true, false_and, and_false, or_self, Bool.not_true, Bool.false_and,
    Bool.true_eq_false, Bool.false_eq_true, if_false, List.map_nil]

/-- R286. -/
theorem bauPlaceRelease_closes : Claims.bauPlaceRelease := by
  intro s h r p start release placed owner made open_
  change execBauPlaceRelease h s = _
  simp only [execBauPlaceRelease, start, release, placed, owner, made, open_, ne_eq, not_true, Bool.not_true, Bool.true_eq_false,
    Bool.false_eq_true, or_self, if_false]

/-! ## Launches (R274, R280, R282, R283) -/

/-- R274, R283: no line of the image has an owner to recall, so the image is read at once. -/
theorem bauLaunch_begins : Claims.bauLaunch := by
  intro s h r n start aligned below unread size ready quiet
  subst size
  have address : ¬ (d64 r.desc 8 % 64 ≠ 0 ∨ 2 ^ 48 ≤ d64 r.desc 8) := by omega
  change execBauLaunch h s = _
  simp only [execBauLaunch, start, address, unread, ready, quiet, Bool.and_self, if_false, if_true]

/-- R280. -/
theorem bauHoldsInstalled_readies : Claims.bauHoldsInstalled := by
  intro s u st b q next holding ready unshared
  subst next
  change execBauHoldsInstalled st b s = _
  simp only [execBauHoldsInstalled, holding, ready, unshared, if_true]

/-- R274, R278. -/
theorem bauSequenceStart_starts : Claims.bauSequenceStart := by
  intro s u st b q im n ready warm starts no_job still open_ below first size image good read
  subst size read
  change execBauSequenceStart st b s = _
  simp only [execBauSequenceStart, ready, warm, starts, no_job, still, open_, Nat.not_le.mpr below, first, image, good, Bool.not_true,
    Bool.or_self, Bool.false_eq_true, or_self, if_false]

/-- R282. -/
theorem bauSequenceEnd_releases : Claims.bauSequenceEnd := by
  intro s st b q r ended record phase unaborted
  change execBauSequenceEnd st b s = _
  simp only [execBauSequenceEnd, ended, record, phase, unaborted, ne_eq, not_true, Bool.false_eq_true, or_self, if_false]

/-! ## Quanta (R278, R289) -/

/-- A quantum that is granted to a BAU whose turn it is, within the meter, is charged in full and begins now; a BAU that has not waited
adds nothing to the count of its waits (R278, R279). -/
theorem exec_bauQuantumGrant_turn {s : State} {st : StackId} {b : BankId} {q : Seq} (running : seqAt s st.val b.val .running = some q)
    (warm : warming s = false) (ungranted : q.granted = false) (unwaited : q.waitFrom = none) (no_job : bankJob s st.val b.val = false)
    (unaborted : abortedH s q.handle = false) (room : meterOf s st.val + 256 ≤ fld s (stackBase st.val + 0x400) 0 21)
    (turn : (grantTurn s st.val).all (fun x => x == b.val) = true) :
    exec (.bauQuantumGrant st b) s = .next (setSeq { bumpBy s (bauCnt st.val 4) 0 with bau := { s.bau with
      grants := tblPut s.bau.grants st.val ((s.now, 256) :: recentGrants s st.val), rotation := tblPut s.bau.rotation st.val b.val } }
      { q with granted := true, grantAt := s.now }) := by
  change execBauQuantumGrant st b s = _
  simp only [execBauQuantumGrant, running, warm, ungranted, unwaited, no_job, unaborted, room, turn, Option.getD_none, Nat.sub_self,
    Nat.zero_mul, Nat.zero_div, recentGrants_bumpBy, bumpBy_bau, bumpBy_now, Bool.or_self, Bool.false_eq_true, and_self, if_false, if_true]

/-- R278. -/
theorem bauQuantumGrant_grants : Claims.bauQuantumGrant := fun _ _ _ _ running warm ungranted unwaited no_job unaborted room turn =>
  ⟨_, exec_bauQuantumGrant_turn running warm ungranted unwaited no_job unaborted room turn, rfl, rfl,
    by simp only [setSeq_pool, bumpBy_pool]⟩

/-- R289. -/
theorem bauQuantumFault_returns : Claims.bauQuantumFault := by
  intro s st b q running granted sound
  change execBauQuantumFault st b true s = _
  simp only [execBauQuantumFault, running, granted, sound, Bool.not_true, Bool.not_false, Bool.and_false, Bool.false_eq_true, if_false, if_true]

/-- Settles O35: each row by the lemma about its command. -/
theorem bauCommandsComplete : Obligations.BauCommandsComplete :=
  ⟨bauPlace_reserves, bauPlaceRelease_closes, bauLaunch_begins, bauHoldsInstalled_readies, bauSequenceStart_starts, bauQuantumGrant_grants,
    bauQuantumFault_returns, bauSequenceEnd_releases⟩

/-! ## Instructions (R271, R273, R277, R288) -/

/-- An instruction that runs through leaves the state of `Claims.BauNext`, its free values drawn where its operation has some. -/
theorem insRow_ok {s t : State} {op g : Nat} {st : StackId} {b : BankId} {q : Seq} {w : Word} {r : BauRegs} {ws : List (Nat × Line × Bool)}
    {m : Option Nat} (found : nextIns s st.val b.val op = some (q, w)) (ran : insRun s q w = .ok t r g ws m) :
    insRow op st b s = Claims.BauNext
      (if op = 0x11 ∨ op = 0x13 ∨ op = 0x14 ∨ op = 0x15 ∨ op = 0x18 ∨ op = 0x19 then Claims.Drawn t else t) st q w r g ws m := by
  simp only [insRow, found, ran]
  rfl

/-- A stream whose every byte lies in the sequence's sets is read, and the pages it lies in are touched (R61, R288). -/
theorem withStream_inside {s t : State} {q : Seq} {w : Word} {n cycle g : Nat} {f : Stream → Ran} {r : BauRegs}
    {ws : List (Nat × Line × Bool)} {m : Option Nat} (inside : Claims.BauInside q w n) (ran : f (Claims.BauStream s q w n) = .ok t r g ws m) :
    withStream s q (aReg q.regs (iA w)) n cycle f = .ok (Claims.Streamed t q w n) r g ws m := by
  rw [Claims.BauInside] at inside
  rw [Claims.BauStream] at ran
  simp only [withStream, inside, ran, Claims.Streamed]

/-- R271. -/
theorem bauLi_sets : Claims.bauLi := fun _ _ _ _ _ found =>
  congrArg Host.Outcome.next (insRow_ok found (by simp only [insRun, nextIns_op found]))

/-- R271. -/
theorem bauAddi_adds : Claims.bauAddi := fun _ _ _ _ _ found =>
  congrArg Host.Outcome.next (insRow_ok found (by simp only [insRun, nextIns_op found]))

/-- R271. -/
theorem bauSetc_sets : Claims.bauSetc := fun _ _ _ _ _ found =>
  congrArg Host.Outcome.next (insRow_ok found (by simp only [insRun, nextIns_op found]))

/-- R271: where execution goes on is `nextPc`, part of `Claims.BauNext`. -/
theorem bauLoop_counts : Claims.bauLoop := fun _ _ _ _ _ found =>
  congrArg Host.Outcome.next (insRow_ok found (by simp only [insRun, nextIns_op found]))

/-- R271. -/
theorem bauSetf_sets : Claims.bauSetf := fun _ _ _ _ _ found =>
  congrArg Host.Outcome.next (insRow_ok found (by simp only [insRun, nextIns_op found]))

/-- R271. -/
theorem bauZacc_zeroes : Claims.bauZacc := fun _ _ _ _ _ found =>
  congrArg Host.Outcome.next (insRow_ok found (by simp only [insRun, nextIns_op found]))

/-- R282. -/
theorem bauEnd_commits : Claims.bauEnd := by
  intro s u st b q p w found quantum
  change execBauEnd st b s = _
  simp only [execBauEnd, found, quantum]

/-- R271, R288. -/
theorem bauLds_loads : Claims.bauLds := by
  intro s st b q w found inside
  refine congrArg Host.Outcome.next (insRow_ok found ?_)
  simp only [insRun, nextIns_op found]
  exact withStream_inside inside rfl

/-- R271, R273. -/
theorem bauMv_streams : Claims.bauMv := by
  intro s st b q w n found plain size inside
  subst size
  refine congrArg Host.Outcome.next (insRow_ok found ?_)
  simp only [insRun, nextIns_op found, plain, Bool.false_eq_true, if_false]
  exact withStream_inside inside rfl

/-- Settles O36: each row by the lemma about its instruction. -/
theorem bauSetupInstructionsComplete : Obligations.BauSetupInstructionsComplete :=
  ⟨bauLi_sets, bauAddi_adds, bauSetc_sets, bauLoop_counts, bauSetf_sets, bauEnd_commits, bauLds_loads, bauZacc_zeroes, bauMv_streams⟩

end Sys2Proof.Machine

/-! Trestle units (12): kernels, launches and gangs, each row where it takes effect (O38). -/

namespace Sys2Proof.Machine

/-! ## Kernels (R308 to R310) -/

/-- R308 to R310. -/
theorem kernelLoad_fills : Claims.kernelLoad := by
  intro s h r img start load aligned min_len max_len allowed sound image crc valid
  have len : ¬ (d32 r.desc 16 < 72 ∨ 65536 < d32 r.desc 16) := by omega
  change execKernelLoad h s = _
  simp only [execKernelLoad, start, load, aligned, len, allowed, sound, image, crc, valid, ne_eq, not_true, Bool.false_eq_true, if_false]

/-- R310. -/
theorem kernelUnload_empties : Claims.kernelUnload := by
  intro s h r start unload allowed
  change execKernelUnload h s = _
  simp only [execKernelUnload, start, unload, allowed, Bool.not_true, Bool.false_eq_true, if_false]

/-! ## Launches (R311 to R313) -/

/-- A launch that R311 admits starts in the row that covers its slot. -/
theorem launchRow_admitted {mine : Nat → Bool} {s : State} {h : Nat} {r : HandleRec} (admitted : Claims.Admitted s h r)
    (covered : mine (d8 r.desc 8) = true) : launchRow mine h s = Claims.Launched s h r := by
  obtain ⟨start, units, some_gangs, max_gangs, room, active, slot⟩ := admitted
  exact launchRow_starts start covered units some_gangs max_gangs room active slot

/-- R311. -/
theorem kernelLaunch_starts : Claims.kernelLaunch := fun _ _ _ admitted slot =>
  congrArg Host.Outcome.next (launchRow_admitted admitted (decide_eq_true slot))

/-- R313. -/
theorem trReduce_starts : Claims.trReduce := fun _ _ _ admitted slot =>
  congrArg Host.Outcome.next (launchRow_admitted admitted (beq_iff_eq.mpr slot))

/-- R313. -/
theorem trGather_starts : Claims.trGather := fun _ _ _ admitted slot =>
  congrArg Host.Outcome.next (launchRow_admitted admitted (beq_iff_eq.mpr slot))

/-- R313. -/
theorem trScatter_starts : Claims.trScatter := fun _ _ _ admitted slot =>
  congrArg Host.Outcome.next (launchRow_admitted admitted (beq_iff_eq.mpr slot))

/-- R313. -/
theorem trFilter_starts : Claims.trFilter := fun _ _ _ admitted slot =>
  congrArg Host.Outcome.next (launchRow_admitted admitted (beq_iff_eq.mpr slot))

/-- The state of the Trestle units holds no handle. -/
theorem handleOf_trs (s : State) (t : TrsSt) (h : Nat) : handleOf { s with trs := t } h = handleOf s h := rfl

/-- R312: the launch leaves its table, and its record tells how it ended. -/
theorem launchCommit_commits : Claims.launchCommit := by
  intro s h l live gone dispatched unstopped unaborted
  have no_abort : (handleOf s h.toNat).any (·.abortWon) = false := by
    cases found : handleOf s h.toNat with
    | none => rfl
    | some r => exact unaborted r found
  change execLaunchCommit h s = _
  simp only [execLaunchCommit, live, gone, Nat.not_lt.mpr dispatched, handleOf_trs, no_abort, unstopped, decide_false, Bool.false_and,
    Bool.or_self, Bool.false_eq_true, if_false]

/-! ## Gangs (R294, R299, R303, R305) -/

/-- A gang of a host's kernel, from slot 4 on, takes no steps of a standard kernel (R313). -/
theorem newGang_std {l : TLaunch} (slot : 4 ≤ l.slot) (s : State) (h : Nat) : (newGang s h l).std = none :=
  if_neg (Nat.not_lt.mpr slot)

/-- R294, R311. -/
theorem gangDispatch_takes : Claims.gangDispatch := by
  rintro s u h g l warm active room next free slot v rfl no_stray
  change execGangDispatch u s = _
  simp only [execGangDispatch, warm, active, Nat.not_le.mpr room, next, free, no_stray, newGang_std slot, decide_false, Bool.not_true,
    Bool.or_self, Option.isSome_none, Bool.false_eq_true, if_false]

/-- R299. -/
theorem gangResultArrive_keeps : Claims.gangResultArrive := by
  intro s v u g r x y resident arrived no_std
  change execGangResultArrive u g r s = _
  simp only [execGangResultArrive, resident, arrived, no_std, Option.isSome_none, Bool.false_and, Bool.false_eq_true, if_false]

/-- R303. -/
theorem chunkTimeLimit_commits : Claims.chunkTimeLimit := by
  intro s v u g x y resident runs no_std active due taken
  change execChunkTimeLimit u g s = _
  simp only [execChunkTimeLimit, resident, runs, no_std, active, Nat.not_lt.mpr due, taken, decide_false, Option.isSome_none, Bool.not_true,
    Bool.or_self, Bool.false_eq_true, if_false]

/-- R305. -/
theorem trestleFault_reruns : Claims.trestleFault := by
  intro s u p unit first_run live
  have some_live : ((unitOf s u.val).gangs.filter (fun e => !e.2.ended)).length ≠ 0 := fun none_ => live (List.length_eq_zero_iff.mp none_)
  change execTrestleFault u [] s = _
  simp only [execTrestleFault, unit, first_run, some_live, List.foldl_nil, Option.isNone_some, Bool.false_eq_true, if_false]

/-- Settles O38: each row by the lemma about its command. -/
theorem kernelCommandsComplete : Obligations.KernelCommandsComplete :=
  ⟨kernelLoad_fills, kernelUnload_empties, kernelLaunch_starts, trReduce_starts, trGather_starts, trScatter_starts, trFilter_starts,
    gangDispatch_takes, gangResultArrive_keeps, chunkTimeLimit_commits, trestleFault_reruns, launchCommit_commits⟩

end Sys2Proof.Machine

/-! Trestle integer instructions (12): what each gives a thread, and each row where it takes effect (O39). -/

namespace Sys2Proof.Machine

/-! ## What a scalar row leaves (R297) -/

section Scalar
variable {s : State} {u : TUnit} {g : GangId} {x : Gang} {w : Word} {op : Nat}

/-- A scalar row other than CVT writes what its instruction gives each thread. -/
theorem scalarRow_scalar {f : Nat → Word × Bool × Nat} (found : nextInsn s u.val g.val op = some (x, w)) (no_cvt : op ≠ 0x16)
    (value : ∀ t, scalarValue s u.val x w t = f t) : scalarRow op u g s = Claims.Scalar s u g x w f := by
  rw [← funext value]
  exact scalarRow_next found no_cvt

/-- An operation code from ADD to MINMAX gives a thread `intResult` of its two operands, poisoned where one of them is. -/
theorem scalarValue_integer (s : State) (u : Nat) (x : Gang) (t : Nat) (kind : kOp w = op) (first : 0x03 ≤ op) (last : op ≤ 0x0C) :
    scalarValue s u x w t = ((intResult w (Claims.A x w t).1 (Claims.O x w t).1).1, (Claims.A x w t).2 || (Claims.O x w t).2,
      (intResult w (Claims.A x w t).1 (Claims.O x w t).1).2) := by
  simp only [scalarValue, kind]
  split
  case h_7 => exact if_neg (by omega)
  all_goals omega

/-- A row whose integer instruction raises no flags writes its function of the two operands. -/
theorem scalarRow_two {f : Word → Word → Word} (found : nextInsn s u.val g.val op = some (x, w)) (first : 0x03 ≤ op) (last : op ≤ 0x0C)
    (result : ∀ a b, intResult w a b = (f a b, 0)) :
    scalarRow op u g s = Claims.Scalar s u g x w (fun t => Claims.Two (Claims.A x w t) (Claims.O x w t) f) :=
  scalarRow_scalar found (by omega) fun t => by
    rw [scalarValue_integer s u.val x t (nextInsn_op found) first last, result]
    rfl

end Scalar

/-! ## Rows -/

/-- R297. -/
theorem trestleLi_sets : Claims.trestleLi := fun _ _ _ _ _ found =>
  congrArg Host.Outcome.next (scalarRow_scalar found (by decide) fun _ => by simp only [scalarValue, nextInsn_op found])

/-- R297. -/
theorem trestleLih_sets : Claims.trestleLih := fun _ _ _ _ _ found =>
  congrArg Host.Outcome.next (scalarRow_scalar found (by decide) fun _ => by simp only [scalarValue, nextInsn_op found, Claims.D])

/-- R297. -/
theorem trestleAdd_adds : Claims.trestleAdd := fun _ _ _ _ _ found =>
  congrArg Host.Outcome.next (scalarRow_two found (by decide) (by decide) fun _ _ => by simp only [intResult, nextInsn_op found])

/-- R297. -/
theorem trestleSub_subtracts : Claims.trestleSub := fun _ _ _ _ _ found =>
  congrArg Host.Outcome.next (scalarRow_two found (by decide) (by decide) fun _ _ => by simp only [intResult, nextInsn_op found])

/-- R297. -/
theorem trestleMul_multiplies : Claims.trestleMul := fun _ _ _ _ _ found =>
  congrArg Host.Outcome.next (scalarRow_two found (by decide) (by decide) fun _ _ => by simp only [intResult, nextInsn_op found])

/-- R297. -/
theorem trestleAnd_ands : Claims.trestleAnd := fun _ _ _ _ _ found =>
  congrArg Host.Outcome.next (scalarRow_two found (by decide) (by decide) fun _ _ => by simp only [intResult, nextInsn_op found])

/-- R297. -/
theorem trestleOr_ors : Claims.trestleOr := fun _ _ _ _ _ found =>
  congrArg Host.Outcome.next (scalarRow_two found (by decide) (by decide) fun _ _ => by simp only [intResult, nextInsn_op found])

/-- R297. -/
theorem trestleXor_xors : Claims.trestleXor := fun _ _ _ _ _ found =>
  congrArg Host.Outcome.next (scalarRow_two found (by decide) (by decide) fun _ _ => by simp only [intResult, nextInsn_op found])

/-- R297. -/
theorem trestleShl_shifts : Claims.trestleShl := fun _ _ _ _ _ found =>
  congrArg Host.Outcome.next (scalarRow_two found (by decide) (by decide) fun _ _ => by simp only [intResult, nextInsn_op found])

/-- R297. -/
theorem trestleShr_shifts : Claims.trestleShr := fun _ _ _ _ _ found =>
  congrArg Host.Outcome.next (scalarRow_two found (by decide) (by decide) fun _ _ => by simp only [intResult, nextInsn_op found])

/-- R297. -/
theorem trestleMinmax_selects : Claims.trestleMinmax := fun _ _ _ _ _ found =>
  congrArg Host.Outcome.next (scalarRow_two found (by decide) (by decide) fun _ _ => by simp only [intResult, nextInsn_op found])

/-- R297, R298. -/
theorem trestleSel_selects : Claims.trestleSel := fun _ _ _ _ _ found =>
  congrArg Host.Outcome.next (scalarRow_scalar found (by decide) fun _ => by
    simp only [scalarValue, nextInsn_op found, Claims.A, Claims.B])

/-- R297. -/
theorem trestlePopc_counts : Claims.trestlePopc := fun _ _ _ _ _ found =>
  congrArg Host.Outcome.next (scalarRow_scalar found (by decide) fun _ => by simp only [scalarValue, nextInsn_op found, Claims.A])

/-- R297: what DIVU gives a thread. -/
theorem scalarValue_divu (s : State) (u : Nat) (x : Gang) (t : Nat) {w : Word} (kind : kOp w = 0x06) :
    scalarValue s u x w t = (if (Claims.O x w t).1 = 0 then BitVec.allOnes 64 else (Claims.A x w t).1 / (Claims.O x w t).1,
      (Claims.A x w t).2 || (Claims.O x w t).2, if (Claims.O x w t).1 = 0 then fInvalid else 0) := by
  rw [scalarValue_integer s u x t kind (by decide) (by decide)]
  simp only [intResult, kind]
  split <;> rfl

/-- R297, R299. -/
theorem trestleDivu_divides : Claims.trestleDivu := by
  intro s u g x w found
  change execTrestleDivu u g s = _
  simp only [execTrestleDivu, found, scalarValue_divu _ _ _ _ (nextInsn_op found), List.map_map, List.foldl_map, Function.comp_def]

/-- Settles O39: each row by the lemma about its instruction. -/
theorem trestleIntegersComplete : Obligations.TrestleIntegersComplete :=
  ⟨trestleLi_sets, trestleLih_sets, trestleAdd_adds, trestleSub_subtracts, trestleMul_multiplies, trestleDivu_divides, trestleAnd_ands,
    trestleOr_ors, trestleXor_xors, trestleShl_shifts, trestleShr_shifts, trestleMinmax_selects, trestleSel_selects, trestlePopc_counts⟩

end Sys2Proof.Machine

/-! Trestle floating-point, compare and special instructions (12): each row where it takes effect (O40). -/

namespace Sys2Proof.Machine

/-! ## Scalar results (R270, R297) -/

section Float
variable {s : State} {u : TUnit} {g : GangId} {x : Gang} {w : Word} {op : Nat}

/-- FADD, FMUL, FFMA and FMINMAX give a thread `floatResult`, poisoned where a register that they read is. -/
theorem scalarValue_float (s : State) (u : Nat) (x : Gang) (t : Nat) (kind : kOp w = op) (first : 0x11 ≤ op) (last : op ≤ 0x14) :
    scalarValue s u x w t = ((floatResult w (Claims.A x w t).1 (Claims.B x w t).1 (Claims.D x w t).1).1,
      (Claims.A x w t).2 || (Claims.B x w t).2 || (op == 0x13 && (Claims.D x w t).2),
      (floatResult w (Claims.A x w t).1 (Claims.B x w t).1 (Claims.D x w t).1).2) := by
  simp only [scalarValue, kind]
  split
  case h_7 => exact if_pos first
  all_goals omega

/-- A row whose floating-point instruction reads two registers writes its function `f` of the elements in them. -/
theorem scalarRow_float {f : Nat → Nat → Nat × Nat} (found : nextInsn s u.val g.val op = some (x, w)) (first : 0x11 ≤ op)
    (last : op ≤ 0x14) (two : op ≠ 0x13)
    (result : ∀ a b d, floatResult w a b d =
      (BitVec.ofNat 64 (f (a.toNat % 2 ^ tBits (kFmt w)) (b.toNat % 2 ^ tBits (kFmt w))).1,
        (f (a.toNat % 2 ^ tBits (kFmt w)) (b.toNat % 2 ^ tBits (kFmt w))).2)) :
    scalarRow op u g s = Claims.Scalar s u g x w (fun t =>
      (BitVec.ofNat 64 (f ((Claims.A x w t).1.toNat % 2 ^ tBits (kFmt w)) ((Claims.B x w t).1.toNat % 2 ^ tBits (kFmt w))).1,
        (Claims.A x w t).2 || (Claims.B x w t).2,
        (f ((Claims.A x w t).1.toNat % 2 ^ tBits (kFmt w)) ((Claims.B x w t).1.toNat % 2 ^ tBits (kFmt w))).2)) :=
  scalarRow_scalar found (by omega) fun t => by
    rw [scalarValue_float s u.val x t (nextInsn_op found) first last, result, beq_false_of_ne two, Bool.false_and, Bool.or_false]

end Float

/-- R295, R297. -/
theorem trestleSpecial_tells : Claims.trestleSpecial := fun _ _ _ _ _ found =>
  congrArg Host.Outcome.next (scalarRow_scalar found (by decide) fun _ => by simp only [scalarValue, nextInsn_op found])

/-- R270, R297. -/
theorem trestleFadd_adds : Claims.trestleFadd := fun _ _ _ _ w found =>
  congrArg Host.Outcome.next (scalarRow_float (f := tArith (kFmt w) false fAdd) found (by decide) (by decide) (by decide) fun _ _ _ => by
    simp only [floatResult, nextInsn_op found])

/-- R270, R297. -/
theorem trestleFmul_multiplies : Claims.trestleFmul := fun _ _ _ _ w found =>
  congrArg Host.Outcome.next (scalarRow_float (f := tArith (kFmt w) false fMul) found (by decide) (by decide) (by decide) fun _ _ _ => by
    simp only [floatResult, nextInsn_op found])

/-- R270, R297. -/
theorem trestleFminmax_selects : Claims.trestleFminmax := fun _ _ _ _ w found =>
  congrArg Host.Outcome.next (scalarRow_float (f := tMinMax (kFmt w) (kModBit w 2)) found (by decide) (by decide) (by decide) fun _ _ _ => by
    simp only [floatResult, nextInsn_op found])

/-- R270, R297: s[D] is the third operand, and its poison counts. -/
theorem trestleFfma_multipliesAdds : Claims.trestleFfma := fun s u _ x _ found =>
  have kind := nextInsn_op found
  congrArg Host.Outcome.next (scalarRow_scalar found (by decide) fun t => by
    simp only [scalarValue_float s u.val x t kind (by decide) (by decide), floatResult, kind, BEq.rfl, Bool.true_and])

/-- R270, R297: the free values above a narrow result are drawn, one for each thread that there can be. -/
theorem trestleCvt_converts : Claims.trestleCvt := by
  intro s u g x w found
  change Host.Outcome.next (scalarRow 0x16 u g s) = _
  simp only [scalarRow, found, scalarValue, nextInsn_op found, List.foldl_map, if_true]
  rfl

/-! ## Comparisons (R297) -/

/-- R297. -/
theorem trestleCmp_compares : Claims.trestleCmp := by
  intro s u g x w found
  change Host.Outcome.next (compareRow 0x0D u g s) = _
  simp only [compareRow, found, if_true]
  rfl

/-- R297. -/
theorem trestleFcmp_compares : Claims.trestleFcmp := by
  intro s u g x w found
  have float : ¬ (0x15 = 0x0D) := by decide
  change Host.Outcome.next (compareRow 0x15 u g s) = _
  simp only [compareRow, found, float, if_false]
  rfl

/-- Settles O40: each row by the lemma about its instruction. -/
theorem trestleFloatsComplete : Obligations.TrestleFloatsComplete :=
  ⟨trestleCmp_compares, trestleSpecial_tells, trestleFadd_adds, trestleFmul_multiplies, trestleFfma_multipliesAdds, trestleFminmax_selects,
    trestleFcmp_compares, trestleCvt_converts⟩

end Sys2Proof.Machine

/-! Trestle control instructions (12): branches, blocks and boundaries, each row where it takes effect (O41). -/

namespace Sys2Proof.Machine

section Control
variable {s : State} {u : TUnit} {g : GangId} {x : Gang} {w : Word} {op : Nat}

/-- A control instruction that meets no fault issues with the registers that its form gives. -/
theorem controlRow_regs {f : TRegs → Word → TRegs ⊕ Status} {r : TRegs} (found : nextInsn s u.val g.val op = some (x, w))
    (regs : f x.r w = .inl r) : controlRow op f u g s = issued s u.val g.val { x with r := r } false := by
  simp only [controlRow, found, regs]

/-- A control instruction that meets a fault stops its gang (R307). -/
theorem controlRow_fault {f : TRegs → Word → TRegs ⊕ Status} {st : Status} (found : nextInsn s u.val g.val op = some (x, w))
    (fault : f x.r w = .inr st) : controlRow op f u g s = gangFault s u.val g.val x st x.r.pc := by
  simp only [controlRow, found, fault]

/-- A row that takes its boundary goes on from the state and gang after it. -/
theorem boundaryRow_taken {after : State → Gang → State} {v : State} {y : Gang} (found : nextInsn s u.val g.val op = some (x, w))
    (taken : boundary (bump s (trestleCnt 2)) u.val g.val { x with r := { x.r with pc := x.r.pc + 1 } } = some (v, y)) :
    boundaryRow op after u g s = after v y := by
  simp only [boundaryRow, found, taken]

end Control

/-- Whether a conditional branch is taken: p is set in some, all or none of the active threads. -/
def brTaken (r : TRegs) (w : Word) : Bool :=
  if kMod w % 4 = 1 then r.p &&& r.active != 0 else if kMod w % 4 = 2 then r.p &&& r.active == r.active else r.p &&& r.active == 0

/-- A conditional branch that reads no poison goes where `brTaken` says. -/
theorem brRegs_conditional {r : TRegs} {w : Word} (clean : pPoisoned r = false) (conditional : kMod w % 4 ≠ 0) :
    brRegs r w = .inl { r with pc := if brTaken r w then kImm w % 8192 else r.pc + 1 } := by
  simp only [brRegs, clean, conditional, Bool.false_eq_true, and_false, if_false]
  rfl

/-- R295, R307. -/
theorem trestleBr_branches : Claims.trestleBr := by
  intro s u g x w found
  refine ⟨fun always => ?_, fun conditional poison => ?_, fun some_ clean => ?_, fun all clean => ?_, fun none_ clean => ?_⟩
  · refine congrArg Host.Outcome.next (controlRow_regs found ?_)
    simp only [brRegs, always, ne_eq, not_true, false_and, if_false, if_true]
  · refine congrArg Host.Outcome.next (controlRow_fault found ?_)
    simp only [brRegs, conditional, poison, ne_eq, not_false_eq_true, and_self, if_true]
  · refine congrArg Host.Outcome.next (controlRow_regs found ((brRegs_conditional clean (by omega)).trans ?_))
    simp only [brTaken, some_, if_true, bne_iff_ne]
  · refine congrArg Host.Outcome.next (controlRow_regs found ((brRegs_conditional clean (by omega)).trans ?_))
    simp only [brTaken, all, Nat.reduceEqDiff, if_false, if_true, beq_iff_eq]
  · refine congrArg Host.Outcome.next (controlRow_regs found ((brRegs_conditional clean (by omega)).trans ?_))
    simp only [brTaken, none_, Nat.reduceEqDiff, if_false, beq_iff_eq]

/-- R295, R307. -/
theorem trestleIf_pushes : Claims.trestleIf := by
  intro s u g x w found
  refine ⟨fun clean room => congrArg Host.Outcome.next (controlRow_regs found ?_),
    fun poison => congrArg Host.Outcome.next (controlRow_fault found ?_)⟩
  · simp only [ifRegs, clean, Nat.not_le.mpr room, Bool.false_eq_true, if_false]
  · simp only [ifRegs, poison, if_true]

/-- R293, R307. -/
theorem trestleElse_turns : Claims.trestleElse := by
  intro s u g x w m ms found stack
  refine ⟨fun clean => congrArg Host.Outcome.next (controlRow_regs found ?_),
    fun poison => congrArg Host.Outcome.next (controlRow_fault found ?_)⟩
  · simp only [elseRegs, stack, clean, Bool.false_eq_true, if_false]
  · simp only [elseRegs, stack, poison, if_true]

/-- R293. -/
theorem trestleEndif_pops : Claims.trestleEndif := fun _ _ _ _ _ _ _ found stack =>
  congrArg Host.Outcome.next (controlRow_regs found (by simp only [endifRegs, stack]))

/-- R303. -/
theorem trestleChunk_commits : Claims.trestleChunk := fun _ _ _ _ _ _ _ found taken =>
  congrArg Host.Outcome.next (boundaryRow_taken found taken)

/-- R302, R303. -/
theorem trestleFence_holds : Claims.trestleFence := fun _ _ _ _ _ _ _ found taken =>
  congrArg Host.Outcome.next (boundaryRow_taken found taken)

/-- R303. -/
theorem trestleEnd_ends : Claims.trestleEnd := fun _ _ _ _ _ _ _ found taken =>
  congrArg Host.Outcome.next (boundaryRow_taken found taken)

/-- Settles O41: each row by the lemma about its instruction. -/
theorem trestleControlCompletes : Obligations.TrestleControlCompletes :=
  ⟨trestleBr_branches, trestleIf_pushes, trestleElse_turns, trestleEndif_pops, trestleChunk_commits, trestleFence_holds, trestleEnd_ends⟩

end Sys2Proof.Machine

/-! Trestle memory instructions (12): the accesses that each issues (O42). That stores are split by thread at a seventeenth line, and that an
atomic waits for buffered stores to its lines, is the model's choice (assumption log, entry 108). -/

namespace Sys2Proof.Machine

/-! ## Addresses and what an access waits for (R300, R302) -/

/-- The addresses of the active threads are those of `Claims.Addrs`. -/
theorem map_memAddr (x : Gang) (w : Word) :
    (lanesOf x.r.active).map (fun t => memAddr x.r t (kA w) (kImm w % 2 ^ 32)) = Claims.Addrs x w := rfl

/-- A store or atomic without ORD waits for nothing. -/
theorem ordReady_unordered (s : State) (u g : Nat) (x : Gang) : ordReady s u g x false = .inr (s, x) := rfl

/-- An atomic to lines that the store buffer holds nothing of takes no boundary first. -/
theorem storesFirst_none {x : Gang} {lines : List Nat} (s : State) (u g : Nat)
    (unbuffered : x.buf.any (fun e => !e.scratch && lines.contains e.line) = false) : storesFirst s u g x lines = .inr (s, x) :=
  if_pos (congrArg (!·) unbuffered)

/-! ## Loads (R300, R302, R307) -/

/-- R300, R302, R307. -/
theorem trestleLd_reads : Claims.trestleLd := by
  intro s v u g x y w st found
  refine ⟨fun admitted scratch => ?_, fun admitted pool sent => ?_, fun fault => ?_⟩ <;> change execTrestleLd u g s = _
  · simp only [execTrestleLd, found, map_memAddr, admitted]
    exact if_pos (by rw [beq_false_of_ne scratch, Bool.not_false])
  · have admitted : accessFault s x (kFmt w == 0) (Claims.Addrs x w) (2 ^ (kMod w % 4)) = none := by rw [pool]; exact admitted
    rw [Claims.Load] at sent
    simp only [execTrestleLd, found, map_memAddr, admitted, sent]
    exact if_neg (by rw [pool]; decide)
  · simp only [execTrestleLd, found, map_memAddr, fault]

/-- R300, R302. -/
theorem trestleVld_reads : Claims.trestleVld := by
  intro s v u g x y w t ts o found first admitted load
  refine ⟨fun scratch => ?_, fun pool sent => ?_⟩ <;> change execTrestleVld u g s = _
  · simp only [execTrestleVld, found, first, admitted, ← load]
    exact if_pos (by rw [beq_false_of_ne scratch, Bool.not_false])
  · simp only [execTrestleVld, found, first, admitted, ← load, sent]
    exact if_neg (by rw [pool]; decide)

/-! ## Stores (R300, R303) -/

/-- R300, R303. -/
theorem trestleSt_buffers : Claims.trestleSt := by
  intro s u g x w found unordered admitted
  have issues : execTrestleSt u g s = .next (storeInto u.val g.val (Claims.Stores x w) s x) := by
    simp only [execTrestleSt, found, unordered, ordReady_unordered, map_memAddr, admitted]
    rfl
  exact ⟨fun fits => issues.trans (congrArg Host.Outcome.next (storeInto_fits u.val g.val (Claims.Stores x w) s x fits)), issues⟩

/-- R300, R303. -/
theorem trestleVst_buffers : Claims.trestleVst := by
  intro s u g x w t ts e found first admitted entry
  have issues : execTrestleVst u g s = .next (storeInto u.val g.val [(t, e)] s x) := by
    simp only [execTrestleVst, found, first, admitted, ← entry]
  exact ⟨fun fits => issues.trans (congrArg Host.Outcome.next (storeInto_fits u.val g.val [(t, e)] s x fits)), issues⟩

/-! ## Atomics (R302, R304) -/

/-- The gang `y` that has sent the atomics of its active threads under the tags `used`, with the operation that awaits their results. -/
def atomsAwaited (y : Gang) (w : Word) (id : Nat) (ts used : List Nat) : Gang :=
  let z := if kModBit w 3 then y else overwrite y false (kD w) y.r.active
  let o : TOp :=
    { id := id, kind := .atom (if kModBit w 0 then 8 else 4) (kModBit w 3), d := kD w
      items := (ts.zip used).map (fun e => ({ thread := e.1, key := e.2 } : TItem))
      live := if kModBit w 3 then 0 else y.r.active, chunk := y.chunk, idx := y.r.pc }
  { z with ops := z.ops ++ [o], nextOp := id + 1, r := { y.r with pc := y.r.pc + 1 } }

/-- Awaiting atomics leaves the gang's requests as they are. -/
theorem atomsAwaited_reqs (y : Gang) (w : Word) (id : Nat) (ts used : List Nat) : (atomsAwaited y w id ts used).reqs = y.reqs := by
  simp only [atomsAwaited]
  split <;> rfl

/-- Awaiting atomics leaves those recorded against the chunk as they are. -/
theorem atomsAwaited_atoms (y : Gang) (w : Word) (id : Nat) (ts used : List Nat) : (atomsAwaited y w id ts used).atoms = y.atoms := by
  simp only [atomsAwaited]
  split <;> rfl

/-- R302, R304: no atomic of the chunk is left from an earlier run, so each thread's is a new one. -/
theorem trestleAtom_sends : Claims.trestleAtom := by
  intro s v u g x y w tags used found unordered admitted formed unbuffered first_run free room sent
  have none_left : x.atoms.length - x.atomNext = 0 := by omega
  have runs : execTrestleAtom u g s = .next (issued v u.val g.val (atomsAwaited y w x.nextOp (lanesOf x.r.active) used) false) := by
    simp only [Claims.AtomOf, Claims.B, Claims.D] at formed sent
    simp only [execTrestleAtom, found, unordered, ordReady_unordered, admitted, formed, List.map_map, Function.comp_def,
      storesFirst_none s u.val g.val unbuffered, none_left, Nat.sub_zero, free, List.drop_zero, room, List.replicate_zero,
      List.nil_append, sent, Bool.not_true, Bool.false_eq_true, if_false]
    rfl
  exact ⟨_, runs, _, atomsAwaited_reqs .., atomsAwaited_atoms .., rfl, rfl, rfl⟩

/-- Settles O42: each row by the lemma about its instruction. -/
theorem trestleMemoryCompletes : Obligations.TrestleMemoryCompletes :=
  ⟨trestleLd_reads, trestleSt_buffers, trestleAtom_sends, trestleVld_reads, trestleVst_buffers⟩

end Sys2Proof.Machine

/-! Trestle vector instructions (12): each row where it takes effect (O43). -/

namespace Sys2Proof.Machine

section Vector
variable {s : State} {u : TUnit} {g : GangId} {x : Gang} {w : Word} {op : Nat}

/-- A vector row writes v[D] with what its instruction computes (R296). -/
theorem vectorRow_vector {f : State → Gang → Word → VReg × Nat} {v : VReg × Nat} (found : nextInsn s u.val g.val op = some (x, w))
    (value : f s x w = v) : vectorRow op f u g s = Claims.Vector s u g x w v := by
  subst value
  simp only [vectorRow, found]
  rfl

/-- A vector row that gives a scalar writes s[D] of every active thread (R297). -/
theorem vectorToScalar_lanes {f : Gang → Word → Nat → (Word × Bool) × Nat} (found : nextInsn s u.val g.val op = some (x, w)) :
    vectorToScalar op f u g s = Claims.Lanes s u g x w (f x w) := by
  simp only [vectorToScalar, found]
  rfl

/-- The lowest-numbered active thread is the first of them. -/
theorem firstLane_active {t : Nat} {ts : List Nat} (s : State) (i : Nat) (active : lanesOf x.r.active = t :: ts) :
    firstLane s x i = sGet x.r t i := by
  simp only [firstLane, active]

end Vector

/-! ## Rows that write a vector register (R296, R297) -/

/-- R296. -/
theorem trestleVadd_adds : Claims.trestleVadd := fun _ _ _ _ _ found => congrArg Host.Outcome.next (vectorRow_vector found rfl)

/-- R296. -/
theorem trestleVmul_multiplies : Claims.trestleVmul := fun _ _ _ _ _ found => congrArg Host.Outcome.next (vectorRow_vector found rfl)

/-- R296. -/
theorem trestleVfma_multipliesAdds : Claims.trestleVfma := fun _ _ _ _ _ found => congrArg Host.Outcome.next (vectorRow_vector found rfl)

/-- R296. -/
theorem trestleVminmax_selects : Claims.trestleVminmax := fun _ _ _ _ _ found => congrArg Host.Outcome.next (vectorRow_vector found rfl)

/-- R297. -/
theorem trestleVdot_accumulates : Claims.trestleVdot := fun _ _ _ _ _ found => congrArg Host.Outcome.next (vectorRow_vector found rfl)

/-- R296. -/
theorem trestleVcvt_converts : Claims.trestleVcvt := fun _ _ _ _ _ found => congrArg Host.Outcome.next (vectorRow_vector found rfl)

/-- R297. -/
theorem trestleVcmprs_packs : Claims.trestleVcmprs := fun _ _ _ _ _ _ _ found active =>
  congrArg Host.Outcome.next (vectorRow_vector found (by simp only [firstLane_active _ _ active, vA]))

/-- R296. -/
theorem trestleVbcast_broadcasts : Claims.trestleVbcast := fun _ _ _ _ _ _ _ found active =>
  congrArg Host.Outcome.next (vectorRow_vector found (by simp only [firstLane_active _ _ active]))

/-- R297. -/
theorem trestleVpack_packs : Claims.trestleVpack := fun _ _ _ _ _ found => congrArg Host.Outcome.next (vectorRow_vector found rfl)

/-! ## Rows that write scalar registers (R296, R297) -/

/-- R297. -/
theorem trestleVred_reduces : Claims.trestleVred := fun _ _ _ _ _ found => congrArg Host.Outcome.next (vectorToScalar_lanes found)

/-- R296. -/
theorem trestleVcmp_compares : Claims.trestleVcmp := fun _ _ _ _ _ found => congrArg Host.Outcome.next (vectorToScalar_lanes found)

/-- R296. -/
theorem trestleVunpack_reads : Claims.trestleVunpack := fun _ _ _ _ _ found => congrArg Host.Outcome.next (vectorToScalar_lanes found)

/-- Settles O43: each row by the lemma about its instruction. -/
theorem trestleVectorsComplete : Obligations.TrestleVectorsComplete :=
  ⟨trestleVadd_adds, trestleVmul_multiplies, trestleVfma_multipliesAdds, trestleVminmax_selects, trestleVdot_accumulates,
    trestleVcvt_converts, trestleVred_reduces, trestleVcmp_compares, trestleVcmprs_packs, trestleVbcast_broadcasts, trestleVpack_packs,
    trestleVunpack_reads⟩

end Sys2Proof.Machine

/-! One step of the queue (O1, O2), and the frame of every command: what the Keep laws say of each meaning, joined over the commands (O3, O5). -/

namespace Sys2Proof.Machine

/-! ## A set of parts as a number -/

theorem Part.idx_eq_ctorIdx (p : Part) : p.idx = p.ctorIdx := by cases p <;> rfl

theorem Part.idx_inj {p q : Part} (h : p.idx = q.idx) : p = q := by
  rw [Part.idx_eq_ctorIdx, Part.idx_eq_ctorIdx] at h
  rw [← Part.ofNat_ctorIdx p, h, Part.ofNat_ctorIdx]

/-- The number that stands for a set of parts. -/
def partBits : List Part → Nat
  | [] => 0
  | p :: ps => 2 ^ p.idx ||| partBits ps

theorem testBit_partBits {p : Part} {ps : List Part} (h : p ∉ ps) : (partBits ps).testBit p.idx = false := by
  induction ps with
  | nil => exact Nat.zero_testBit _
  | cons q qs ih =>
    obtain ⟨hq, hqs⟩ := not_or.mp (mt List.mem_cons.mpr h)
    have other : q.idx ≠ p.idx := fun e => hq (Part.idx_inj e).symm
    simp [partBits, Nat.testBit_or, other, ih hqs]

theorem Same.onlyParts {ps : List Part} {s t : State} (h : Same (partBits ps) s t) : OnlyParts ps s t :=
  fun p out => h.part p (testBit_partBits out)

/-! ## Every command -/

/-- Every command keeps the parts that `touches` does not list, by the law of its meaning. -/
theorem exec_same : ∀ (c : Instr) (s : State), SameO (partBits (touches c)) s (outSt (exec c s))
  | .registerWrite .., _ => execRegisterWrite_same ..
  | .lowWordRead .., _ => execLowWordRead_same ..
  | .setupOpenClose .., _ => execSetupOpenClose_same ..
  | .serve, _ => execServe_same ..
  | .tenantCtlWrite .., _ => execTenantCtlWrite_same ..
  | .portKeyWrite .., _ => execPortKeyWrite_same ..
  | .policerWrite .., _ => execPolicerWrite_same ..
  | .wredProfileWrite .., _ => execWredProfileWrite_same ..
  | .boardRead .., _ => execBoardRead_same ..
  | .boardWrite .., _ => execBoardWrite_same ..
  | .msixUnmask .., _ => execMsixUnmask_same ..
  | .jtagInstruction .., _ => execJtagInstruction_same ..
  | .ringEnable .., _ => execRingEnable_same ..
  | .ringDisable .., _ => execRingDisable_same ..
  | .resume .., _ => execResume_same ..
  | .ringDrained .., _ => execRingDrained_same ..
  | .doorbell .., _ => execDoorbell_same ..
  | .descriptorFetch .., _ => execDescriptorFetch_same ..
  | .descriptorArrive .., _ => execDescriptorArrive_same ..
  | .hostImageReadDone .., _ => execHostImageReadDone_same ..
  | .latchSet .., _ => execLatchSet_same ..
  | .completionRecordWrite .., _ => execCompletionRecordWrite_same ..
  | .notification .., _ => execNotification_same ..
  | .abortStopPoint .., _ => execAbortStopPoint_same ..
  | .heldRecordDrop .., _ => execHeldRecordDrop_same ..
  | .nop .., _ => execNop_same ..
  | .abort .., _ => execAbort_same ..
  | .queryHandle .., _ => execQueryHandle_same ..
  | .extentCreate .., _ => execExtentCreate_same ..
  | .extentGrant .., _ => execExtentGrant_same ..
  | .extentRevoke .., _ => execExtentRevoke_same ..
  | .extentResize .., _ => execExtentResize_same ..
  | .quotaSet .., _ => execQuotaSet_same ..
  | .quotaDemotionEnd .., _ => execQuotaDemotionEnd_same ..
  | .mapCommit .., _ => execMapCommit_same ..
  | .mapGenPublish, _ => execMapGenPublish_same ..
  | .generationDrained .., _ => execGenerationDrained_same ..
  | .compositionComplete .., _ => execCompositionComplete_same ..
  | .pageFreeScrub .., _ => execPageFreeScrub_same ..
  | .xlateCacheFill .., _ => execXlateCacheFill_same ..
  | .pageAgeTick, _ => execPageAgeTick_same ..
  | .requestIngress .., _ => execRequestIngress_same ..
  | .rdnc .., _ => execRdnc_same ..
  | .rdshared .., _ => execRdshared_same ..
  | .rdown .., _ => execRdown_same ..
  | .atomnear .., _ => execAtomnear_same ..
  | .wrline .., _ => execWrline_same ..
  | .wrptl .., _ => execWrptl_same ..
  | .atomfar .., _ => execAtomfar_same ..
  | .wbdirty .., _ => execWbdirty_same ..
  | .rspi .., _ => execRspi_same ..
  | .rspiwb .., _ => execRspiwb_same ..
  | .rspidata .., _ => execRspidata_same ..
  | .rsps .., _ => execRsps_same ..
  | .rspsdata .., _ => execRspsdata_same ..
  | .rspcur .., _ => execRspcur_same ..
  | .rspcurdata .., _ => execRspcurdata_same ..
  | .gntack .., _ => execGntack_same ..
  | .trackerFree .., _ => execTrackerFree_same ..
  | .waitQueueTakeUp .., _ => execWaitQueueTakeUp_same ..
  | .recallSnoopIssue .., _ => execRecallSnoopIssue_same ..
  | .memoryReadDone .., _ => execMemoryReadDone_same ..
  | .memoryWriteDone .., _ => execMemoryWriteDone_same ..
  | .ringBroadcastResponse .., _ => execRingBroadcastResponse_same ..
  | .snoopRetry .., _ => execSnoopRetry_same ..
  | .snoopTimeout .., _ => execSnoopTimeout_same ..
  | .filterSweepEnd .., _ => execFilterSweepEnd_same ..
  | .cxlMemrd .., _ => execCxlMemrd_same ..
  | .cxlMemrddata .., _ => execCxlMemrddata_same ..
  | .cxlMemwr .., _ => execCxlMemwr_same ..
  | .cxlMemwrptl .., _ => execCxlMemwrptl_same ..
  | .memclnevct .., _ => execMemclnevct_same ..
  | .memspecrd .., _ => execMemspecrd_same ..
  | .meminv .., _ => execMeminv_same ..
  | .birspi .., _ => execBirspi_same ..
  | .birsps .., _ => execBirsps_same ..
  | .birspe .., _ => execBirspe_same ..
  | .biconflict .., _ => execBiconflict_same ..
  | .fenceall .., _ => execFenceall_same ..
  | .fencewr .., _ => execFencewr_same ..
  | .fencesync .., _ => execFencesync_same ..
  | .requestRetire .., _ => execRequestRetire_same ..
  | .heldRequestRelease .., _ => execHeldRequestRelease_same ..
  | .atomcomb .., _ => execAtomcomb_same ..
  | .cmpcomb .., _ => execCmpcomb_same ..
  | .atomretire .., _ => execAtomretire_same ..
  | .atomicWindowRelease .., _ => execAtomicWindowRelease_same ..
  | .replayEntryFree .., _ => execReplayEntryFree_same ..
  | .farEnter .., _ => execFarEnter_same ..
  | .farLineOp .., _ => execFarLineOp_same ..
  | .farQuietExpire .., _ => execFarQuietExpire_same ..
  | .farExitDone .., _ => execFarExitDone_same ..
  | .forwardedDescriptor .., _ => execForwardedDescriptor_same ..
  | .shelfCreate .., _ => execShelfCreate_same ..
  | .shelfOpen .., _ => execShelfOpen_same ..
  | .shelfClose .., _ => execShelfClose_same ..
  | .draftBegin .., _ => execDraftBegin_same ..
  | .draftPublish .., _ => execDraftPublish_same ..
  | .draftDiscard .., _ => execDraftDiscard_same ..
  | .publishRecallEnd .., _ => execPublishRecallEnd_same ..
  | .publishDecide .., _ => execPublishDecide_same ..
  | .publishCommit .., _ => execPublishCommit_same ..
  | .slotFree .., _ => execSlotFree_same ..
  | .cowCopyDone .., _ => execCowCopyDone_same ..
  | .versionReclaim .., _ => execVersionReclaim_same ..
  | .drawerCreate .., _ => execDrawerCreate_same ..
  | .drawerOffer .., _ => execDrawerOffer_same ..
  | .drawerAccept .., _ => execDrawerAccept_same ..
  | .drawerRelease .., _ => execDrawerRelease_same ..
  | .drawerLease .., _ => execDrawerLease_same ..
  | .drawerLeaseQuery .., _ => execDrawerLeaseQuery_same ..
  | .drawerRecallEnd .., _ => execDrawerRecallEnd_same ..
  | .drawerOfferDeadline .., _ => execDrawerOfferDeadline_same ..
  | .drawerLeaseExpiry .., _ => execDrawerLeaseExpiry_same ..
  | .drawerReleaseDone .., _ => execDrawerReleaseDone_same ..
  | .place .., _ => execPlace_same ..
  | .winchWindow .., _ => execWinchWindow_same ..
  | .winchWindowClose .., _ => execWinchWindowClose_same ..
  | .winchAdvance .., _ => execWinchAdvance_same ..
  | .migrate .., _ => execMigrate_same ..
  | .flush .., _ => execFlush_same ..
  | .stackEvacuate .., _ => execStackEvacuate_same ..
  | .copy .., _ => execCopy_same ..
  | .fill .., _ => execFill_same ..
  | .fillLazy .., _ => execFillLazy_same ..
  | .lazyFillPageDone .., _ => execLazyFillPageDone_same ..
  | .winchUnitIssue .., _ => execWinchUnitIssue_same ..
  | .winchUnitDone .., _ => execWinchUnitDone_same ..
  | .chunkCopied .., _ => execChunkCopied_same ..
  | .chunkDrained .., _ => execChunkDrained_same ..
  | .writebackAgeExpire .., _ => execWritebackAgeExpire_same ..
  | .journalProgress .., _ => execJournalProgress_same ..
  | .ctableLoad .., _ => execCtableLoad_same ..
  | .build .., _ => execBuild_same ..
  | .buildEncode .., _ => execBuildEncode_same ..
  | .encode .., _ => execEncode_same ..
  | .expand .., _ => execExpand_same ..
  | .release .., _ => execRelease_same ..
  | .ctableRetire .., _ => execCtableRetire_same ..
  | .ctableRetireRecode .., _ => execCtableRetireRecode_same ..
  | .blockRefetch .., _ => execBlockRefetch_same ..
  | .refreshDue .., _ => execRefreshDue_same ..
  | .preemptionPoint .., _ => execPreemptionPoint_same ..
  | .tempSample .., _ => execTempSample_same ..
  | .dramReread .., _ => execDramReread_same ..
  | .rowSpareCopyDone .., _ => execRowSpareCopyDone_same ..
  | .bankReplaceCopyDone .., _ => execBankReplaceCopyDone_same ..
  | .patrolScrub .., _ => execPatrolScrub_same ..
  | .stackUnreadable .., _ => execStackUnreadable_same ..
  | .bauPlace .., _ => execBauPlace_same ..
  | .bauPlaceRelease .., _ => execBauPlaceRelease_same ..
  | .bauLaunch .., _ => execBauLaunch_same ..
  | .bauHoldsInstalled .., _ => execBauHoldsInstalled_same ..
  | .bauSequenceStart .., _ => execBauSequenceStart_same ..
  | .bauQuantumGrant .., _ => execBauQuantumGrant_same ..
  | .bauQuantumFault .., _ => execBauQuantumFault_same ..
  | .bauSequenceEnd .., _ => execBauSequenceEnd_same ..
  | .bauLi .., _ => execBauLi_same ..
  | .bauAddi .., _ => execBauAddi_same ..
  | .bauSetc .., _ => execBauSetc_same ..
  | .bauLoop .., _ => execBauLoop_same ..
  | .bauSetf .., _ => execBauSetf_same ..
  | .bauEnd .., _ => execBauEnd_same ..
  | .bauLds .., _ => execBauLds_same ..
  | .bauMv .., _ => execBauMv_same ..
  | .bauScore .., _ => execBauScore_same ..
  | .bauSmx .., _ => execBauSmx_same ..
  | .bauMvt .., _ => execBauMvt_same ..
  | .bauAttn .., _ => execBauAttn_same ..
  | .bauZacc .., _ => execBauZacc_same ..
  | .bauMulf .., _ => execBauMulf_same ..
  | .bauMulv .., _ => execBauMulv_same ..
  | .bauNorm .., _ => execBauNorm_same ..
  | .bauSt .., _ => execBauSt_same ..
  | .bauSts .., _ => execBauSts_same ..
  | .kernelLoad .., _ => execKernelLoad_same ..
  | .kernelUnload .., _ => execKernelUnload_same ..
  | .kernelLaunch .., _ => execKernelLaunch_same ..
  | .trReduce .., _ => execTrReduce_same ..
  | .trGather .., _ => execTrGather_same ..
  | .trScatter .., _ => execTrScatter_same ..
  | .trFilter .., _ => execTrFilter_same ..
  | .gangDispatch .., _ => execGangDispatch_same ..
  | .gangResultArrive .., _ => execGangResultArrive_same ..
  | .chunkTimeLimit .., _ => execChunkTimeLimit_same ..
  | .trestleFault .., _ => execTrestleFault_same ..
  | .launchCommit .., _ => execLaunchCommit_same ..
  | .trestleLi .., _ => execTrestleLi_same ..
  | .trestleLih .., _ => execTrestleLih_same ..
  | .trestleAdd .., _ => execTrestleAdd_same ..
  | .trestleSub .., _ => execTrestleSub_same ..
  | .trestleMul .., _ => execTrestleMul_same ..
  | .trestleDivu .., _ => execTrestleDivu_same ..
  | .trestleAnd .., _ => execTrestleAnd_same ..
  | .trestleOr .., _ => execTrestleOr_same ..
  | .trestleXor .., _ => execTrestleXor_same ..
  | .trestleShl .., _ => execTrestleShl_same ..
  | .trestleShr .., _ => execTrestleShr_same ..
  | .trestleMinmax .., _ => execTrestleMinmax_same ..
  | .trestleCmp .., _ => execTrestleCmp_same ..
  | .trestleSel .., _ => execTrestleSel_same ..
  | .trestlePopc .., _ => execTrestlePopc_same ..
  | .trestleSpecial .., _ => execTrestleSpecial_same ..
  | .trestleFadd .., _ => execTrestleFadd_same ..
  | .trestleFmul .., _ => execTrestleFmul_same ..
  | .trestleFfma .., _ => execTrestleFfma_same ..
  | .trestleFminmax .., _ => execTrestleFminmax_same ..
  | .trestleFcmp .., _ => execTrestleFcmp_same ..
  | .trestleCvt .., _ => execTrestleCvt_same ..
  | .trestleBr .., _ => execTrestleBr_same ..
  | .trestleIf .., _ => execTrestleIf_same ..
  | .trestleElse .., _ => execTrestleElse_same ..
  | .trestleEndif .., _ => execTrestleEndif_same ..
  | .trestleChunk .., _ => execTrestleChunk_same ..
  | .trestleFence .., _ => execTrestleFence_same ..
  | .trestleEnd .., _ => execTrestleEnd_same ..
  | .trestleLd .., _ => execTrestleLd_same ..
  | .trestleSt .., _ => execTrestleSt_same ..
  | .trestleAtom .., _ => execTrestleAtom_same ..
  | .trestleVld .., _ => execTrestleVld_same ..
  | .trestleVst .., _ => execTrestleVst_same ..
  | .trestleVadd .., _ => execTrestleVadd_same ..
  | .trestleVmul .., _ => execTrestleVmul_same ..
  | .trestleVfma .., _ => execTrestleVfma_same ..
  | .trestleVminmax .., _ => execTrestleVminmax_same ..
  | .trestleVdot .., _ => execTrestleVdot_same ..
  | .trestleVcvt .., _ => execTrestleVcvt_same ..
  | .trestleVred .., _ => execTrestleVred_same ..
  | .trestleVcmp .., _ => execTrestleVcmp_same ..
  | .trestleVcmprs .., _ => execTrestleVcmprs_same ..
  | .trestleVbcast .., _ => execTrestleVbcast_same ..
  | .trestleVpack .., _ => execTrestleVpack_same ..
  | .trestleVunpack .., _ => execTrestleVunpack_same ..
  | .trainCreate .., _ => execTrainCreate_same ..
  | .trainEdit .., _ => execTrainEdit_same ..
  | .trainDelete .., _ => execTrainDelete_same ..
  | .trainEntryDistribute .., _ => execTrainEntryDistribute_same ..
  | .barrier .., _ => execBarrier_same ..
  | .bcast .., _ => execBcast_same ..
  | .reduce .., _ => execReduce_same ..
  | .allreduce .., _ => execAllreduce_same ..
  | .allgather .., _ => execAllgather_same ..
  | .reduceScatter .., _ => execReduceScatter_same ..
  | .mcast .., _ => execMcast_same ..
  | .segmentArrive .., _ => execSegmentArrive_same ..
  | .transitHop .., _ => execTransitHop_same ..
  | .pathUpdate .., _ => execPathUpdate_same ..
  | .pathmark .., _ => execPathmark_same ..
  | .markack .., _ => execMarkack_same ..
  | .tetherOpen .., _ => execTetherOpen_same ..
  | .tetherClose .., _ => execTetherClose_same ..
  | .tetherEntryInstall .., _ => execTetherEntryInstall_same ..
  | .portDownFenceTimeout .., _ => execPortDownFenceTimeout_same ..
  | .trunkActiveReport .., _ => execTrunkActiveReport_same ..
  | .cellIngress .., _ => execCellIngress_same ..
  | .stageCreditReturn .., _ => execStageCreditReturn_same ..
  | .middlePull .., _ => execMiddlePull_same ..
  | .resequenceCell .., _ => execResequenceCell_same ..
  | .bufferRowFault .., _ => execBufferRowFault_same ..
  | .sliceFault .., _ => execSliceFault_same ..
  | .sliceTakeoverDone, _ => execSliceTakeoverDone_same ..
  | .throttleIncreaseTick, _ => execThrottleIncreaseTick_same ..
  | .throttleRelease .., _ => execThrottleRelease_same ..
  | .wredDepthPublish .., _ => execWredDepthPublish_same ..
  | .egressSchedule .., _ => execEgressSchedule_same ..
  | .telemetrySample .., _ => execTelemetrySample_same ..
  | .portTelSnap .., _ => execPortTelSnap_same ..
  | .flitReceive .., _ => execFlitReceive_same ..
  | .superframeMarker .., _ => execSuperframeMarker_same ..
  | .idle .., _ => execIdle_same ..
  | .nak .., _ => execNak_same ..
  | .credit .., _ => execCredit_same ..
  | .config .., _ => execConfig_same ..
  | .laneReq .., _ => execLaneReq_same ..
  | .laneAck .., _ => execLaneAck_same ..
  | .retrainReq .., _ => execRetrainReq_same ..
  | .ts1 .., _ => execTs1_same ..
  | .ts2 .., _ => execTs2_same ..
  | .trainingTimeout .., _ => execTrainingTimeout_same ..
  | .trainRetryTimer .., _ => execTrainRetryTimer_same ..
  | .replayTimeout .., _ => execReplayTimeout_same ..
  | .nakRepeat .., _ => execNakRepeat_same ..
  | .ackTimer .., _ => execAckTimer_same ..
  | .spareRxAdapted .., _ => execSpareRxAdapted_same ..
  | .laneReplaceTimeout .., _ => execLaneReplaceTimeout_same ..
  | .linkEn .., _ => execLinkEn_same ..
  | .retrain .., _ => execRetrain_same ..
  | .fullRetrain .., _ => execFullRetrain_same ..
  | .roll .., _ => execRoll_same ..
  | .portReset .., _ => execPortReset_same ..
  | .epmsg .., _ => execEpmsg_same ..
  | .cxlLinkTrained .., _ => execCxlLinkTrained_same ..
  | .cxlLinkDown .., _ => execCxlLinkDown_same ..
  | .functionLevelReset .., _ => execFunctionLevelReset_same ..
  | .biEnable .., _ => execBiEnable_same ..
  | .ideEstablished .., _ => execIdeEstablished_same ..
  | .ideFail .., _ => execIdeFail_same ..
  | .trayBringup .., _ => execTrayBringup_same ..
  | .trayResponse .., _ => execTrayResponse_same ..
  | .trayResponseTimeout .., _ => execTrayResponseTimeout_same ..
  | .trayEventLogPoll .., _ => execTrayEventLogPoll_same ..
  | .getInfo, _ => execGetInfo_same ..
  | .imageLoad .., _ => execImageLoad_same ..
  | .imageActivate, _ => execImageActivate_same ..
  | .svnCommit, _ => execSvnCommit_same ..
  | .pmKeySet, _ => execPmKeySet_same ..
  | .pmLoad .., _ => execPmLoad_same ..
  | .pmUnload, _ => execPmUnload_same ..
  | .pmStatus, _ => execPmStatus_same ..
  | .pmQuantumTick .., _ => execPmQuantumTick_same ..
  | .pmQueueSubmit .., _ => execPmQueueSubmit_same ..
  | .settleCoreFault .., _ => execSettleCoreFault_same ..
  | .watchdogReport, _ => execWatchdogReport_same ..
  | .watchdogExpire, _ => execWatchdogExpire_same ..
  | .fenceDomain .., _ => execFenceDomain_same ..
  | .unfenceDomain .., _ => execUnfenceDomain_same ..
  | .spareQuery .., _ => execSpareQuery_same ..
  | .fenceNotice .., _ => execFenceNotice_same ..
  | .domAlert .., _ => execDomAlert_same ..
  | .winchEngineFault .., _ => execWinchEngineFault_same ..
  | .compressionEngineFault .., _ => execCompressionEngineFault_same ..
  | .porstN .., _ => execPorstN_same ..
  | .cold, _ => execCold_same ..
  | .warmRstN .., _ => execWarmRstN_same ..
  | .warm, _ => execWarm_same ..
  | .tenant .., _ => execTenant_same ..
  | .island .., _ => execIsland_same ..
  | .quiesceEnd, _ => execQuiesceEnd_same ..
  | .warmRestart, _ => execWarmRestart_same ..
  | .deviceOpen, _ => execDeviceOpen_same ..
  | .perstN .., _ => execPerstN_same ..
  | .startupTestDone .., _ => execStartupTestDone_same ..
  | .refclkLost .., _ => execRefclkLost_same ..
  | .refclkRestored .., _ => execRefclkRestored_same ..
  | .timeDistribute .., _ => execTimeDistribute_same ..
  | .ppsInEdge, _ => execPpsInEdge_same ..
  | .ptpMessage .., _ => execPtpMessage_same ..
  | .globalTimeSet .., _ => execGlobalTimeSet_same ..
  | .ppsOutSecond, _ => execPpsOutSecond_same ..
  | .railExcursion .., _ => execRailExcursion_same ..
  | .railExcursionLimit .., _ => execRailExcursionLimit_same ..
  | .vddAonLoss, _ => execVddAonLoss_same ..
  | .swThermalAlert .., _ => execSwThermalAlert_same ..
  | .thermtrip, _ => execThermtrip_same ..
  | .avsPoll .., _ => execAvsPoll_same ..
  | .avsTargetStep .., _ => execAvsTargetStep_same ..
  | .deviceSnapshot, _ => execDeviceSnapshot_same ..
  | .arpRequest .., _ => execArpRequest_same ..
  | .phyPoll .., _ => execPhyPoll_same ..
  | .domAlertRelease .., _ => execDomAlertRelease_same ..
  | .swAlertClear, _ => execSwAlertClear_same ..
  | .railReturn .., _ => execRailReturn_same ..
  | .islandResetDone, _ => execIslandResetDone_same ..
  | .portIslandFault .., _ => execPortIslandFault_same ..
  | .mgmtIslandFault, _ => execMgmtIslandFault_same ..
  | .stackBaseLogicFault .., _ => execStackBaseLogicFault_same ..
  | .laneAdaptationLoss .., _ => execLaneAdaptationLoss_same ..

/-- Settles O5: the law of the command, whose set of parts is the one that `touches` lists. -/
theorem commandsTouchOnly : Obligations.CommandsTouchOnly :=
  fun c s _ answer => ((exec_same c s).next answer).onlyParts

theorem pending_notMem_touches (c : Instr) : Part.pending ∉ touches c := by
  have listed : (touches c).contains .pending = false := by cases c <;> rfl
  simpa using listed

/-- Settles O3: no command lists the queue among the parts that it may change. -/
theorem commandsLeaveQueue : Obligations.CommandsLeaveQueue :=
  fun c s t answer => commandsTouchOnly c s t answer .pending (pending_notMem_touches c)

/-- Settles O1: `step` takes the front of the queue. -/
theorem stepRunsFront : Obligations.StepRunsFront := fun _ _ _ => rfl

/-- Settles O2: the branch of `step` for the empty queue. -/
theorem emptyQueueIdles : Obligations.EmptyQueueIdles := by
  intro s empty
  rw [step, empty]

end Sys2Proof.Machine

/-! Every command answers a next state, but for a BAR0 access beyond BAR0 (O4): the branches of each meaning end in one. -/

namespace Sys2Proof.Machine

/-- A meaning answers a next state. -/
def Answers (r : Out3) : Prop := ∃ t, r = .next t

theorem answers_next (t : State) : Answers (.next t) := ⟨t, rfl⟩

theorem Answers.ite {c : Prop} [Decidable c] {a b : Out3} (ha : Answers a) (hb : Answers b) : Answers (if c then a else b) := by
  split
  · exact ha
  · exact hb

/-! ## The accesses of BAR0 (log 4) -/

theorem execRegisterWrite_beyond {off : BitVec 32} (n : Nat) (d : Word) (s : State) (h : 2 ^ 26 ≤ off.toNat) :
    execRegisterWrite off n d s = .fault .outsideBar0 := if_pos h

theorem execLowWordRead_beyond {off : BitVec 32} (q : BitVec 16) (s : State) (h : 2 ^ 26 ≤ off.toNat) :
    execLowWordRead q off s = .fault .outsideBar0 := if_pos h

theorem execSetupOpenClose_beyond {off : BitVec 32} (d : Word) (s : State) (h : 2 ^ 26 ≤ off.toNat) :
    execSetupOpenClose off d s = .fault .outsideBar0 := if_pos h

theorem execRegisterWrite_answers {off : BitVec 32} (n : Nat) (d : Word) (s : State) (h : ¬ 2 ^ 26 ≤ off.toNat) :
    Answers (execRegisterWrite off n d s) := by
  rw [execRegisterWrite, if_neg h]
  exact .ite (answers_next _) (.ite (answers_next _) (answers_next _))

theorem execLowWordRead_answers {off : BitVec 32} (q : BitVec 16) (s : State) (h : ¬ 2 ^ 26 ≤ off.toNat) :
    Answers (execLowWordRead q off s) := by
  rw [execLowWordRead, if_neg h]
  refine .ite (answers_next _) (.ite (answers_next _) (.ite (answers_next _) ?_))
  split
  · exact answers_next _
  · exact answers_next _

theorem execSetupOpenClose_answers {off : BitVec 32} (d : Word) (s : State) (h : ¬ 2 ^ 26 ≤ off.toNat) :
    Answers (execSetupOpenClose off d s) := by
  rw [execSetupOpenClose, if_neg h]
  dsimp only
  split
  · exact answers_next _
  · exact .ite (answers_next _) (.ite (answers_next _) (answers_next _))

/-! ## The longest meanings -/

theorem execPtpMessage_answers (domain : BitVec 8) (udp tagged : Bool) (secs : Word) (offset : Int) (s : State) :
    Answers (execPtpMessage domain udp tagged secs offset s) := by
  unfold execPtpMessage
  extract_lets +onlyGivenNames counted seen src
  exact .ite (answers_next _) (.ite (answers_next _) (.ite (answers_next _) (.ite (answers_next _) (.ite (answers_next _) (answers_next _)))))

theorem execStartupTestDone_answers (t : TestResult) (s : State) : Answers (execStartupTestDone t s) := by
  unfold execStartupTestDone
  refine .ite (answers_next _) ?_
  split
  · exact answers_next _
  · split
    · exact answers_next _
    · extract_lets +onlyGivenNames tested
      exact .ite (answers_next _) (.ite (answers_next _) (.ite (answers_next _) (answers_next _)))

theorem execSuperframeMarker_answers (p : PortId) (m : Marker17) (s : State) : Answers (execSuperframeMarker p m s) := by
  unfold execSuperframeMarker
  extract_lets +onlyGivenNames l syncOk good counted locked set1 answered moved
  refine .ite (answers_next _) (.ite (answers_next _) (.ite ?_ (answers_next _)))
  split
  · exact answers_next _
  · exact answers_next _

theorem execTrestleLd_answers (u : TUnit) (g : GangId) (s : State) : Answers (execTrestleLd u g s) := by
  unfold execTrestleLd
  split
  · exact answers_next _
  · extract_lets +onlyGivenNames ts n pool as
    split
    · exact answers_next _
    · extract_lets +onlyGivenNames ad o
      refine .ite (answers_next _) ?_
      split
      · exact answers_next _
      · exact answers_next _

theorem execTrestleAtom_answers (u : TUnit) (g : GangId) (s : State) : Answers (execTrestleAtom u g s) := by
  unfold execTrestleAtom
  split
  · exact answers_next _
  · split
    · exact answers_next _
    · extract_lets +onlyGivenNames ts n as f bad
      split
      · exact answers_next _
      · refine .ite (answers_next _) ?_
        extract_lets +onlyGivenNames ad
        split
        · exact answers_next _
        · extract_lets +onlyGivenNames left
          split
          · exact answers_next _
          · exact .ite (answers_next _) (answers_next _)

theorem execTetherOpen_answers (h : Handle) (s : State) : Answers (execTetherOpen h s) := by
  unfold execTetherOpen
  extract_lets +onlyGivenNames h'
  split
  · exact answers_next _
  · extract_lets +onlyGivenNames d
    refine .ite (answers_next _) (.ite (answers_next _) ?_)
    split
    · exact answers_next _
    · refine .ite (answers_next _) (.ite (answers_next _) (.ite (answers_next _) ?_))
      split
      · exact answers_next _
      · exact answers_next _

/-! ## Every command -/

/-- Each meaning is a tree of branches whose every leaf is a next state; the three accesses of BAR0 fault beyond it only. -/
theorem exec_answers (c : Instr) (s : State) (inside : ¬ Claims.BeyondBar0 c) : Answers (exec c s) := by
  cases c with
  | registerWrite off n d => exact execRegisterWrite_answers n d s fun beyond => inside (.inl ⟨off, n, d, rfl, beyond⟩)
  | lowWordRead q off => exact execLowWordRead_answers q s fun beyond => inside (.inr (.inl ⟨q, off, rfl, beyond⟩))
  | setupOpenClose off d => exact execSetupOpenClose_answers d s fun beyond => inside (.inr (.inr ⟨off, d, rfl, beyond⟩))
  | ptpMessage domain udp tagged secs offset => exact execPtpMessage_answers domain udp tagged secs offset s
  | startupTestDone t => exact execStartupTestDone_answers t s
  | superframeMarker p m => exact execSuperframeMarker_answers p m s
  | trestleLd u g => exact execTrestleLd_answers u g s
  | trestleAtom u g => exact execTrestleAtom_answers u g s
  | tetherOpen h => exact execTetherOpen_answers h s
  | _ =>
    clear inside
    dsimp only [exec, execTrackerFree, execGntack, execWbdirty, execRecallSnoopIssue, execSnoopRetry, execEgressSchedule, execRequestIngress,
      execXlateCacheFill, execPageAgeTick, execRingEnable, execRingDisable, execResume, execRingDrained, execDescriptorFetch,
      execDescriptorArrive, execHostImageReadDone, execLatchSet, execCompletionRecordWrite, execNotification, execHeldRecordDrop, execNop,
      execQueryHandle, execAbort, execThrottleIncreaseTick, execThrottleRelease, execDoorbell, execRequestRetire, execAtomretire,
      execAtomcomb, execCmpcomb, execReplayEntryFree, execFarEnter, execFarLineOp, execFarQuietExpire, execFarExitDone, execCxlMemrd,
      execCxlMemwr, execMemclnevct, execMeminv, execBiconflict, execExtentCreate, execExtentGrant, execExtentRevoke, execExtentResize,
      execMapCommit, execMapGenPublish, execGenerationDrained, execCompositionComplete, execPageFreeScrub, execQuotaSet,
      execQuotaDemotionEnd, execForwardedDescriptor, execShelfCreate, execShelfOpen, execShelfClose, execDraftBegin, execDraftPublish,
      execDraftDiscard, execPublishRecallEnd, execPublishDecide, execPublishCommit, execSlotFree, execCowCopyDone, execVersionReclaim,
      execDrawerCreate, execDrawerOffer, execDrawerAccept, execDrawerRelease, execDrawerLease, execDrawerLeaseQuery, execDrawerRecallEnd,
      execDrawerOfferDeadline, execDrawerLeaseExpiry, execDrawerReleaseDone, execPlace, execMigrate, execWinchWindow, execWinchWindowClose,
      execWinchAdvance, execFlush, execCopy, execFill, execFillLazy, execWinchUnitDone, execLazyFillPageDone, execWinchUnitIssue,
      execChunkCopied, execChunkDrained, execWritebackAgeExpire, execJournalProgress, execStackEvacuate, execCtableLoad, execBuild,
      execBuildEncode, execEncode, execExpand, execRelease, execCtableRetire, execCtableRetireRecode, execBlockRefetch, execBauPlace,
      execBauPlaceRelease, execBauLaunch, execBauHoldsInstalled, execBauSequenceStart, execBauQuantumGrant, execPreemptionPoint,
      execBauQuantumFault, execBauSequenceEnd, execBauEnd, execTransitHop, execPathUpdate, execPathmark, execTetherClose,
      execTetherEntryInstall, execMarkack, execCellIngress, execStageCreditReturn, execMiddlePull, execResequenceCell, execSliceFault,
      execSliceTakeoverDone, execBufferRowFault, execWredDepthPublish, execTs1, execTs2, execTrainingTimeout, execTrainRetryTimer,
      execConfig, execRetrainReq, execRetrain, execFullRetrain, execLaneReq, execLaneAck, execSpareRxAdapted, execLaneReplaceTimeout,
      execFlitReceive, execIdle, execNak, execCredit, execReplayTimeout, execNakRepeat, execAckTimer, execRoll, execPortReset,
      execTelemetrySample, execEpmsg, execMemoryReadDone, execMemoryWriteDone, execRefreshDue, execTempSample, execDramReread,
      execRowSpareCopyDone, execBankReplaceCopyDone, execPatrolScrub, execStackBaseLogicFault, execRingBroadcastResponse, execTrestleDivu,
      execTrestleVld, execTrestleSt, execTrestleVst, execKernelLoad, execKernelUnload, execGangDispatch, execGangResultArrive,
      execChunkTimeLimit, execLaunchCommit, execTrestleFault, execSegmentArrive, execTrainCreate, execTrainEdit, execTrainDelete,
      execTrainEntryDistribute, execFenceDomain, execUnfenceDomain, execFenceNotice, execDomAlert, execSnoopTimeout,
      execPortDownFenceTimeout, execWinchEngineFault, execCompressionEngineFault, execSpareQuery, execCxlLinkTrained, execLinkEn,
      execCxlLinkDown, execFunctionLevelReset, execBiEnable, execIdeEstablished, execIdeFail, execTrayBringup, execTrayResponse,
      execTrayResponseTimeout, execTrayEventLogPoll, execPortIslandFault, execMgmtIslandFault, execLaneAdaptationLoss, execGetInfo,
      execImageLoad, execImageActivate, execSvnCommit, execPmKeySet, execPmLoad, execPmUnload, execPmStatus, execPmQuantumTick,
      execPmQueueSubmit, execSettleCoreFault, execWatchdogReport, execWatchdogExpire, execAbortStopPoint, execWarmRstN, execQuiesceEnd,
      execWarmRestart, execTenant, execIsland, execIslandResetDone, execDeviceOpen, execPorstN, execCold, execPerstN, execRefclkLost,
      execRefclkRestored, execTimeDistribute, execPpsInEdge, execGlobalTimeSet, execPpsOutSecond, execRailExcursion, execRailExcursionLimit,
      execSwThermalAlert, execThermtrip, execAvsPoll, execAvsTargetStep, execDeviceSnapshot, execArpRequest, execPhyPoll, execMsixUnmask,
      execServe, execTenantCtlWrite, execPortKeyWrite, execPolicerWrite, execWredProfileWrite, execBoardRead, execBoardWrite,
      execJtagInstruction, waitTurn, compEnd, runSingle, failWith, buildRow, writeReached]
    repeat' (first | exact answers_next _ | apply Answers.ite | split)

/-- Settles O4: beyond BAR0 by the first branch of the three meanings, else by `exec_answers`. -/
theorem commandsAnswer : Obligations.CommandsAnswer := by
  refine fun c s => ⟨?_, exec_answers c s⟩
  rintro (⟨off, n, d, rfl, beyond⟩ | ⟨q, off, rfl, beyond⟩ | ⟨off, d, rfl, beyond⟩)
  · exact execRegisterWrite_beyond n d s beyond
  · exact execLowWordRead_beyond q s beyond
  · exact execSetupOpenClose_beyond d s beyond

end Sys2Proof.Machine

/-! TRANSIENT records are limited per unit and second (20, R486): what a record leaves in the log and in the counts of its unit (O14). -/

namespace Sys2Proof.Machine

/-- Delivering a record moves the ring's head at most. -/
theorem deliverRecord_ras (s : State) (r : ErrRec) : ∃ n, (deliverRecord s r).ras = { s.ras with ringHead := n } := by
  unfold deliverRecord
  extract_lets +onlyGivenNames depth entered old rung vector alert event gm
  have head : ∃ n, rung.ras = { s.ras with ringHead := n } := by
    subst rung
    split
    · split
      · exact ⟨_, rfl⟩
      · exact ⟨_, rfl⟩
    · exact ⟨_, rfl⟩
  have vectored : vector.ras = rung.ras := by
    subst vector
    split
    · exact msix_ras ..
    · rfl
  have alerted : alert.ras = vector.ras := by
    subst alert
    split
    · exact (driveAlert_same ..).part .ras rfl
    · rfl
  have told : event.ras = alert.ras := by
    subst event
    split
    · exact pmEvent_ras ..
    · rfl
  have sent : gm.ras = event.ras := by
    subst gm
    split
    · exact foldl_keeps (·.ras) _ (fun t p => by split <;> rfl) _ _
    · rfl
  have all : gm.ras = rung.ras := sent.trans (told.trans (alerted.trans vectored))
  split
  · exact all.symm ▸ head
  · exact all.symm ▸ head

/-- The state with a record's class counted (R486). -/
def classCounted (s : State) (c : Nat) : State :=
  match c with
  | 1 => bump s (rasCnt 3)
  | 2 => bump s (rasCnt 4)
  | 3 => bump s (rasCnt 5)
  | 4 => bump s (rasCnt 6)
  | _ => s

theorem classCounted_ras (s : State) (c : Nat) : (classCounted s c).ras = s.ras := by
  unfold classCounted
  split <;> rfl

theorem classCounted_now (s : State) (c : Nat) : (classCounted s c).now = s.now := by
  unfold classCounted
  split <;> rfl

theorem regGet_bump_ne (s : State) {a b : Nat} (h : b ≠ a) : regGet (bump s a) b = regGet s b := by
  rw [bump, bumpBy]
  exact regGet_regSet_ne _ _ _ _ h

/-- Counting a class leaves the register of the limit. -/
theorem fld_classCounted_limit (s : State) (c lo len : Nat) : fld (classCounted s c) rasBase lo len = fld s rasBase lo len := by
  have counter (k : Nat) : fld (bump s (rasCnt k)) rasBase lo len = fld s rasBase lo len := by
    rw [fld, regGet_bump_ne s (by unfold rasCnt; omega), fld]
  unfold classCounted
  split
  · exact counter 3
  · exact counter 4
  · exact counter 5
  · exact counter 6
  · rfl

/-- The count that `errorRecord` reads is that of this second. -/
theorem transients_read (s : State) (u : Nat) :
    (if (tblGet s.ras.transients u (s.now / 1000000000, 0)).1 = s.now / 1000000000
      then (tblGet s.ras.transients u (s.now / 1000000000, 0)).2 else 0) = Claims.TransientsNow s u := by
  unfold tblGet Claims.TransientsNow
  cases tblFind s.ras.transients u with
  | none => exact if_pos rfl
  | some p => rfl

/-- The record as the log keeps it (R485). -/
def stamped (s : State) (r : ErrRec) : ErrRec :=
  { r with time := s.now / 1000, seq := s.ras.seq,
           tag := if r.handle = 0 then 0 else (tblGet s.rings.handles r.handle { ring := 0, gen := 0, seq := 0 }).tag }

/-- The log and the counts with a record entered (R485, R486). -/
def logged (s : State) (r : ErrRec) : RasSt :=
  { s.ras with
    log := (stamped s r :: s.ras.log).take 4096
    seq := (s.ras.seq + 1) % 2 ^ 32
    transients := if r.cls = 1 then tblPut s.ras.transients (r.kind * 65536 + r.idx)
        (s.now / 1000000000, Claims.TransientsNow s (r.kind * 65536 + r.idx) + 1) else s.ras.transients }

theorem errorRecord_eq (s : State) (r : ErrRec) :
    errorRecord s r =
      if r.cls = 1 ∧ fld s rasBase 4 12 ≤ Claims.TransientsNow s (r.kind * 65536 + r.idx) then bump (classCounted s r.cls) (rasCnt 1)
      else deliverRecord (bump { classCounted s r.cls with ras := logged s r } (rasCnt 0)) (stamped s r) := by
  have rings : (classCounted s r.cls).rings = s.rings := by
    unfold classCounted
    split <;> rfl
  rw [← transients_read, ← fld_classCounted_limit s r.cls]
  simp only [logged, stamped, ← transients_read]
  rw [← classCounted_ras s r.cls, ← classCounted_now s r.cls, ← rings]
  rfl

/-- Settles O14: the three ways of `errorRecord`; delivery keeps the log and the counts. -/
theorem transientsLimited : Obligations.TransientsLimited := by
  intro s r
  have recorded (below : r.cls = 1 → Claims.TransientsNow s (r.kind * 65536 + r.idx) < fld s rasBase 4 12) :
      ∃ n, (errorRecord s r).ras = { logged s r with ringHead := n } := by
    rw [errorRecord_eq, if_neg fun full => Nat.not_lt.mpr full.2 (below full.1)]
    exact deliverRecord_ras ..
  refine ⟨fun transient full => ?_, fun transient below => ?_, fun below => ?_⟩
  · rw [errorRecord_eq, if_pos ⟨transient, full⟩, transient]
    rfl
  · obtain ⟨n, ras⟩ := recorded fun _ => below
    have now : (errorRecord s r).now = s.now := (errorRecord_same s r).part .now rfl
    rw [Claims.TransientsNow, ras, now]
    simp [logged, transient]
  · obtain ⟨n, ras⟩ := recorded below
    exact ⟨stamped s r, by rw [ras]; rfl, rfl, rfl, rfl, rfl, rfl, rfl⟩

end Sys2Proof.Machine

/-! Board, MSI-X, test port, snapshot and Ethernet commands (23): what each answers where it takes effect, and that every row of them does (O18). -/

namespace Sys2Proof.Machine

/-- R550: a permitted register is read as one access. -/
theorem boardRead_answers : Claims.boardRead := by
  intro s off answers readable running
  change execBoardRead off s = _
  simp [execBoardRead, answers, readable, running]

/-- R551: the board's two writable registers, and the count of any other write. -/
theorem boardWrite_clears : Claims.boardWrite := by
  intro s data answers
  refine ⟨fun some_ => ?_, fun pending => ?_, fun off alertStatus rasStatus => ?_⟩
  · change execBoardWrite _ data s = _
    simp [execBoardWrite, answers, some_, mgmtBase, bitsOf]
  · change execBoardWrite _ data s = _
    simp [execBoardWrite, answers, pending, mgmtBase, rasBase]
  · change execBoardWrite off data s = _
    simp [execBoardWrite, answers, alertStatus, rasStatus]

/-- R546: a masked vector is unmasked. -/
theorem msixUnmask_unmasks : Claims.msixUnmask := by
  intro s v masked
  change execMsixUnmask v s = _
  rw [execMsixUnmask, if_pos masked]

/-- R538: IDCODE is no instruction that waits for a free test port. -/
theorem jtagInstruction_idcode : Claims.jtagInstruction := fun _ => ⟨_, rfl, rfl, rfl⟩

/-- R558: the counters and every port's histograms at one device time. -/
theorem deviceSnapshot_copies : Claims.deviceSnapshot := by
  rintro s u v rfl rfl
  rfl

/-- R553: a frame whose checksum fails, a request for the device's address, and any other frame. -/
theorem arpRequest_answers : Claims.arpRequest := by
  intro s f on
  refine ⟨fun bad => ?_, fun a good tagged request mine real => ?_, fun good other => ?_⟩
  · change execArpRequest f s = _
    simp [execArpRequest, on, bad]
  · change execArpRequest f s = _
    have own : (a.toNat == ethIp s && a != 0) = true := by rw [mine, beq_self_eq_true, Bool.true_and, bne_iff_ne]; exact real
    simp only [execArpRequest, on, good, tagged, request, Option.any_some, own, Bool.not_true, Bool.and_self, Bool.false_eq_true, if_true, if_false]
  · change execArpRequest f s = _
    simp only [execArpRequest, on, good, other, Option.any_none, Bool.not_true, Bool.and_false, Bool.false_eq_true, if_false]

/-- R553: a poll 10 ms after the last one. -/
theorem phyPoll_reads : Claims.phyPoll := by
  intro s up sync due
  have ready : ¬ s.mgmt.lastPhyPoll.any (fun t => decide (s.now < t + 10000000)) = true := by
    rw [Option.any_eq_true]
    rintro ⟨t, last, early⟩
    exact Nat.not_lt.mpr (due t last) (of_decide_eq_true early)
  change execPhyPoll up sync s = _
  rw [execPhyPoll, if_neg ready]

/-- Settles O18: each row by the lemma about its command. -/
theorem managementCommandsComplete : Obligations.ManagementCommandsComplete :=
  ⟨boardRead_answers, boardWrite_clears, msixUnmask_unmasks, jtagInstruction_idcode, deviceSnapshot_copies, arpRequest_answers, phyPoll_reads⟩

end Sys2Proof.Machine

/-! Tenant, island and start-up commands (21, R509, R510, R517, R535): what each answers where it takes effect, and that every row of them does (O58). -/

namespace Sys2Proof.Machine

/-- R510, R511: at once while serving, deferred during a warm restart. -/
theorem tenant_resets : Claims.tenant := by
  intro s k
  refine ⟨fun serving => ?_, fun restarting => ?_⟩
  · change execTenant k s = _
    simp [execTenant, serving]
  · change execTenant k s = _
    simp [execTenant, restarting]

/-- R509, R511: at once while serving, deferred during a warm restart. -/
theorem island_resets : Claims.island := by
  intro s k i
  refine ⟨fun serving => ?_, fun restarting => ?_⟩
  · change execIsland k i s = _
    simp [execIsland, serving]
  · change execIsland k i s = _
    simp [execIsland, restarting]

/-- R472, R509: the Settle complex (kind 4) starts Nimpa again, any other island is done. -/
theorem islandResetDone_completes : Claims.islandResetDone := by
  intro s j rest oldest
  refine ⟨fun other => ?_, fun i settle checking image version => ?_⟩
  · change execIslandResetDone s = _
    simp [execIslandResetDone, oldest, other]
  · change execIslandResetDone s = _
    have version' : fusedSvn { s with sys := { s.sys with islands := rest } } ≤ i.svn := version
    simp [execIslandResetDone, oldest, settle, checking, image, version']

/-- R517: too few slices, too few stacks, and a test that finds enough of every unit. -/
theorem startupTestDone_assigns : Claims.startupTestDone := by
  intro s u v w t testing released
  have runs : ¬ (s.sys.st ≠ .test ∨ s.sys.porst = true) := by simp [testing, released]
  change _ ∧ _ ∧ _
  refine ⟨fun slices => ?_, fun slices stack => ?_, fun slices stack tested units cores engines => ?_⟩
  · change execStartupTestDone t s = _
    simp only [execStartupTestDone, if_neg runs, slices]
  · change execStartupTestDone t s = _
    simp only [execStartupTestDone, if_neg runs, slices, stack]
  · change execStartupTestDone t s = _
    simp only [execStartupTestDone, if_neg runs, slices, stack, ← tested, if_neg (Nat.not_lt.mpr units), if_neg (Nat.not_lt.mpr cores),
      if_neg (Nat.not_lt.mpr engines)]

/-- R535: low halts the rings, a release clears, a high level that was high changes nothing. -/
theorem perstN_halts : Claims.perstN := by
  refine fun s => ⟨rfl, fun low => ?_, fun high => ?_⟩
  · change execPerstN true s = _
    simp [execPerstN, low]
  · change execPerstN true s = _
    simp [execPerstN, high]

/-- Settles O58: each row by the lemma about its command. -/
theorem partialResetsComplete : Obligations.PartialResetsComplete :=
  ⟨tenant_resets, island_resets, islandResetDone_completes, startupTestDone_assigns, perstN_halts⟩

end Sys2Proof.Machine

/-! Policy module commands (19, R461 to R469): what each answers where it takes effect, and that every row of them does (O55). -/

namespace Sys2Proof.Machine

/-- A mailbox command that the mailbox holds runs (R469). -/
theorem mailbox_of_mbox {cmd : Nat} {s : State} (f : State → State) (held : s.settle.mbox = some cmd) : mailbox cmd s f = .next (f s) :=
  congrArg _ (if_pos held)

/-- R461: a slot of the eight takes the hash. -/
theorem pmKeySet_stores : Claims.pmKeySet := by
  intro s held slot
  change execPmKeySet s = _
  rw [execPmKeySet, mailbox_of_mbox _ held]
  exact congrArg _ (if_neg (Nat.not_lt.mpr slot))

/-- R465, R468: a module of a key without one takes the lowest free slot. -/
theorem pmLoad_loads : Claims.pmLoad := by
  intro s b i held room valid new free
  change execPmLoad (.data b) s = _
  rw [execPmLoad, mailbox_of_mbox _ held]
  simp [room, valid, new, free]

/-- R469: a module with nothing in flight leaves, one with a live command waits. -/
theorem pmUnload_unloads : Claims.pmUnload := by
  intro s m held found
  refine ⟨fun idle => ?_, fun busy => ?_⟩
  · change execPmUnload s = _
    rw [execPmUnload, mailbox_of_mbox _ held]
    simp [found, idle]
  · change execPmUnload s = _
    rw [execPmUnload, mailbox_of_mbox _ held]
    simp [found, busy]

/-- R469: state, fault cause and dropped events of a module. -/
theorem pmStatus_answers : Claims.pmStatus := by
  intro s m held found
  change execPmStatus s = _
  rw [execPmStatus, mailbox_of_mbox _ held]
  simp [found]

/-- R465: an idle core of the policy duty takes the next module. -/
theorem pmQuantumTick_rotates : Claims.pmQuantumTick := by
  intro s c n i role duty running idle next
  change execPmQuantumTick c s = _
  simp [execPmQuantumTick, role, duty, running, idle, next]

/-- R466: a descriptor of a running module, with room for its handle, is checked under the module's key. -/
theorem pmQueueSubmit_takes : Claims.pmQueueSubmit := by
  intro s k d m found running serving booted room own
  change execPmQueueSubmit k d s = _
  simp [execPmQueueSubmit, found, running, serving, booted, Nat.not_le.mpr room, Nat.not_le.mpr own]

/-- Settles O55: each row by the lemma about its command. -/
theorem policyModuleCommandsComplete : Obligations.PolicyModuleCommandsComplete :=
  ⟨pmKeySet_stores, pmLoad_loads, pmUnload_unloads, pmStatus_answers, pmQuantumTick_rotates, pmQueueSubmit_takes⟩

end Sys2Proof.Machine

/-! CXL port events (18, R440 to R450): what each answers where it takes effect, and that every row of them does (O52). -/

namespace Sys2Proof.Machine

/-- R440: a port that trains comes up with 256B Flit mode at an allowed rate and width, and says so where its key is no tenant's or the mode is missing. -/
theorem cxlLinkTrained_comesUp : Claims.cxlLinkTrained := by
  intro s u p rate lo w trains notUp notReady
  refine ⟨fun known fast narrow up => ?_, ?_⟩
  · have allowed : ¬ (rate = 3 ∨ rate.toNat < fld s (portBase p.val + 0x900) 18 2 ∨ fld s (portBase p.val) 3 2 < w.val) :=
      not_or.mpr ⟨known, not_or.mpr ⟨Nat.not_lt.mpr fast, Nat.not_lt.mpr narrow⟩⟩
    have trained : exec (.cxlLinkTrained p true rate lo w) s = .next (if isHostPort u p.val && !cxlKeyOk u p.val then cxlErr u p.val 2 else u) := by
      change execCxlLinkTrained p true rate lo w s = _
      simp only [execCxlLinkTrained, trains, notUp, notReady, if_neg allowed, ← up, Bool.not_true, Bool.or_self, Bool.false_eq_true, if_false]
    rw [trained]
    exact ⟨fun keyed => by rw [keyed]; rfl, fun unkeyed => by rw [unkeyed]; rfl⟩
  · change execCxlLinkTrained p false rate lo w s = _
    simp [execCxlLinkTrained, trains, notUp, notReady]

/-- R450, R454: a host port is reset, a tray is fenced. -/
theorem cxlLinkDown_loses : Claims.cxlLinkDown := by
  intro s p notDown notTraining cxl
  refine ⟨fun host => ?_, fun tray unfenced => ?_⟩
  · change execCxlLinkDown p s = _
    simp [execCxlLinkDown, notDown, notTraining, cxl, host]
  · change execCxlLinkDown p s = _
    simp [execCxlLinkDown, notDown, notTraining, cxl, tray, unfenced]

/-- R450: the reset of a host port that is up. -/
theorem functionLevelReset_resets : Claims.functionLevelReset := by
  intro s p host cxl up
  change execFunctionLevelReset p s = _
  simp [execFunctionLevelReset, host, cxl, up]

/-- R441, R446: the host's enables and decoders. -/
theorem biEnable_sets : Claims.biEnable := by
  intro s p c host cxl up
  change execBiEnable p c s = _
  simp [execBiEnable, host, cxl, up]

/-- R449: IDE of a host port that is up. -/
theorem ideEstablished_sets : Claims.ideEstablished := by
  intro s p host cxl up
  change execIdeEstablished p s = _
  simp [execIdeEstablished, host, cxl, up]

/-- R449: IDE that was on ends. -/
theorem ideFail_ends : Claims.ideFail := by
  intro s p on
  change execIdeFail p s = _
  simp [execIdeFail, on]

/-- Settles O52: each row by the lemma about its command. -/
theorem cxlPortEventsComplete : Obligations.CxlPortEventsComplete :=
  ⟨cxlLinkTrained_comesUp, cxlLinkDown_loses, functionLevelReset_resets, biEnable_sets, ideEstablished_sets, ideFail_ends⟩

end Sys2Proof.Machine

/-! Link training (17, R414 to R420, R435, R436, R508): what each command answers where it takes effect, and that every row of them does (O50). -/

namespace Sys2Proof.Machine

/-! ## The link of a port -/

/-- A port that is no odd half of a bond has its own link (R16). -/
theorem portLink_eq {s : State} {p : Nat} (own : bondOdd s p = false) : portLink s p = linkOf s p := by simp [portLink, own]

theorem startLink_detects {s : State} {p : Nat} (down : (linkOf s p).st = .down) (can : canTrain s p = true) :
    startLink s p = linkTo s p .detect := if_pos ⟨down, can⟩

theorem startPort_link {s : State} {p : Nat} (link : cxlTrains s p = false) : startPort s p = startLink s p := by simp [startPort, link]

theorem startPort_cxl {s : State} {p : Nat} (trains : cxlTrains s p = true) (down : (tblGet s.link.cxl p {}).st = .down) :
    startPort s p = { s with link := { s.link with cxl := tblPut s.link.cxl p { tblGet s.link.cxl p {} with st := .training } } } := by
  simp [startPort, trains, down]

theorem retrainLink_leaves {s : State} {p : Nat} (active : (linkOf s p).st = .active) :
    retrainLink s p = leaveActive (sendCtl s p "RetrainReq" []) p := if_pos active

/-! ## What each command answers -/

/-- R414, R440: set, a port that may train begins; cleared, the link goes down. -/
theorem linkEn_starts : Claims.linkEn := by
  intro s u v p set clear
  refine ⟨fun link down can => ?_, fun trains down => ?_, fun link up => ?_, fun cxl tray up => ?_⟩
  · change execLinkEn p true s = _
    simp only [execLinkEn, if_true, ← set, startPort_link link, startLink_detects down can]
  · change execLinkEn p true s = _
    simp only [execLinkEn, if_true, ← set, startPort_cxl trains down]
  · change execLinkEn p false s = _
    simp only [execLinkEn, Bool.false_eq_true, if_false, ← clear, link, if_neg up, dropLink]
  · change execLinkEn p false s = _
    simp only [execLinkEn, Bool.false_eq_true, if_false, ← clear, cxl, if_true, if_neg up, tray]

/-- R414: every lane seen in DETECT, and every lane adapted both ways in EQ. -/
theorem ts1_advances : Claims.ts1 := by
  rintro s p b _ own rfl good lane lanes
  have heard : ¬ (b.crcOk = false ∨ 8 ≤ b.lane.val) := by simp [good, lane]
  refine ⟨fun detect retry => ?_, fun eq done => ?_⟩
  · change execTs1 p b s = _
    simp [execTs1, portLink_eq own, if_neg heard, detect, retry, lanes]
  · change execTs1 p b s = _
    simp [execTs1, portLink_eq own, if_neg heard, eq, done, lanes]

/-- R414: every lane in lock both ways. -/
theorem ts2_advances : Claims.ts2 := by
  rintro s p b _ own rfl good lane lock theirs ours lanes
  have heard : ¬ (b.crcOk = false ∨ 8 ≤ b.lane.val ∨ (linkOf s p.val).st ≠ .lock ∨ b.locked = false) := by simp [good, lane, lock, theirs]
  change execTs2 p b s = _
  simp [execTs2, portLink_eq own, if_neg heard, lanes, ours]

/-- R414, R415, R420: each state has its bound. -/
theorem trainingTimeout_fails : Claims.trainingTimeout := by
  rintro s p _ own rfl
  refine ⟨fun eq due none_ => ?_, fun w eq due narrower => ?_, fun lock due => ?_, fun config due => ?_, fun retrain due => ?_⟩
  · change execTrainingTimeout p s = _
    simp only [execTrainingTimeout, portLink_eq own, eq, if_neg (Nat.not_lt.mpr due), none_]
    rfl
  · change execTrainingTimeout p s = _
    simp only [execTrainingTimeout, portLink_eq own, eq, if_neg (Nat.not_lt.mpr due), narrower]
    rfl
  · change execTrainingTimeout p s = _
    simp only [execTrainingTimeout, portLink_eq own, lock, if_neg (Nat.not_lt.mpr due)]
    rfl
  · change execTrainingTimeout p s = _
    simp only [execTrainingTimeout, portLink_eq own, config, if_neg (Nat.not_lt.mpr due)]
    rfl
  · change execTrainingTimeout p s = _
    simp only [execTrainingTimeout, portLink_eq own, retrain, if_neg (Nat.not_lt.mpr due)]
    rfl

/-- R416: a port whose wait is over tries again. -/
theorem trainRetryTimer_retries : Claims.trainRetryTimer := by
  intro s p own detect waiting due
  change execTrainRetryTimer p s = _
  simp only [execTrainRetryTimer, portLink_eq own, if_pos (And.intro detect (And.intro waiting due))]

/-- R415, R436: an ACTIVE link leaves ACTIVE, and an authentication failure's DOWN ends. -/
theorem retrain_leaves : Claims.retrain := by
  intro s u p own cleared
  refine ⟨fun auth active => ?_, fun auth down can => ?_⟩
  · change execRetrain p s = _
    simp only [execRetrain, portLink_eq own, auth, Bool.false_eq_true, if_false, retrainLink_leaves active]
  · change execRetrain p s = _
    simp only [execRetrain, portLink_eq own, auth, if_true, ← cleared, startLink_detects down can]

/-- R420: an ACTIVE link trains from DETECT. -/
theorem fullRetrain_detects : Claims.fullRetrain := by
  intro s p own auth active
  change execFullRetrain p s = _
  simp only [execFullRetrain, portLink_eq own, auth, Bool.false_eq_true, if_false, active, if_true]

/-- R435: the phase changes, unless a change is pending. -/
theorem roll_rolls : Claims.roll := by
  rintro s p _ own rfl
  refine ⟨fun idle => ?_, fun pending => ?_⟩
  · change execRoll p s = _
    simp [execRoll, portLink_eq own, idle]
  · change execRoll p s = _
    simp [execRoll, portLink_eq own, Option.isSome_iff_ne_none.mpr pending]

/-- R16, R508, R511: a port, a bond through its odd port, and a reset that waits for a warm reset. -/
theorem portReset_resets : Claims.portReset := by
  intro s p
  refine ⟨fun calm open_ own => ?_, fun calm open_ odd => ?_, fun warm => ?_⟩
  · change execPortReset p s = _
    simp [execPortReset, calm, open_, resetByCtl, own]
  · change execPortReset p s = _
    simp [execPortReset, calm, open_, resetByCtl, odd]
  · exact if_pos warm

/-- Settles O50: each row by the lemma about its command. -/
theorem linkTrainingCompletes : Obligations.LinkTrainingCompletes :=
  ⟨linkEn_starts, ts1_advances, ts2_advances, trainingTimeout_fails, trainRetryTimer_retries, retrain_leaves, fullRetrain_detects, roll_rolls,
    portReset_resets⟩

end Sys2Proof.Machine

/-! Lane replacement (17, R413, R415, R419): what each command answers where it takes effect, and that every row of them does (O51). -/

namespace Sys2Proof.Machine

/-- R419: a partner's replacement is acknowledged, forgotten at its end, and retrained for when it is abandoned. -/
theorem laneReq_serves : Claims.laneReq := by
  intro s p j own active
  refine ⟨fun free => ?_, ?_, ?_⟩
  · change execLaneReq p j .start s = _
    simp [execLaneReq, portLink_eq own, active, free]
  · change execLaneReq p j .done s = _
    simp [execLaneReq, portLink_eq own, active]
  · change execLaneReq p j .abandon s = _
    simp [execLaneReq, portLink_eq own, active]

/-- R419: the acknowledgement of the lane asked for. -/
theorem laneAck_copies : Claims.laneAck := by
  intro s p j own active asked lane
  change execLaneAck p j s = _
  simp [execLaneAck, portLink_eq own, active, asked, lane]

/-- R413, R415: to RETRAIN, or to DETECT where fast retraining is off. -/
theorem retrainReq_leaves : Claims.retrainReq := by
  intro s p own active
  have leaves : exec (.retrainReq p) s = .next (leaveActive s p.val) := by
    change execRetrainReq p s = _
    simp [execRetrainReq, portLink_eq own, active]
  rw [leaves, leaveActive]
  exact ⟨fun fast => by rw [fast]; rfl, fun slow => by rw [slow]; rfl⟩

/-- R419: the spare carries the lane, and the sparing is recorded. -/
theorem spareRxAdapted_spares : Claims.spareRxAdapted := by
  rintro s _ p _ j own rfl lane active copied inTime rfl
  have runs : ¬ ((linkOf s p.val).st ≠ .active ∨ (linkOf s p.val).spareStage ≠ some .copied ∨ s.now > (linkOf s p.val).spareSince + 50000) := by
    simp [active, copied, inTime]
  change execSpareRxAdapted p s = _
  simp only [execSpareRxAdapted, portLink_eq own, lane, if_neg runs]

/-- R419: a replacement that is not acknowledged in time. -/
theorem laneReplaceTimeout_abandons : Claims.laneReplaceTimeout := by
  rintro s p _ own rfl asked due
  change execLaneReplaceTimeout p s = _
  simp only [execLaneReplaceTimeout, portLink_eq own, asked, due, decide_true, if_true]

/-- R419, R420: a faulty lane is replaced where the spare is free, and is left out otherwise. -/
theorem laneAdaptationLoss_replaces : Claims.laneAdaptationLoss := by
  intro s p j active inWidth
  have faults : exec (.laneAdaptationLoss p j) s = .next (laneFault s p.val j.val (3, 0, 0)) := if_pos ⟨active, inWidth⟩
  rw [faults, laneFault]
  exact ⟨fun free => by rw [free]; rfl, fun taken => by rw [taken]; rfl⟩

/-- Settles O51: each row by the lemma about its command. -/
theorem laneSparingCompletes : Obligations.LaneSparingCompletes :=
  ⟨laneReq_serves, laneAck_copies, retrainReq_leaves, spareRxAdapted_spares, laneReplaceTimeout_abandons, laneAdaptationLoss_replaces⟩

end Sys2Proof.Machine

/-! Fences, notices, alerts, spares and engine faults (20, R344, R481 to R497): what each command answers where it takes effect, and that every row of them
does (O56). -/

namespace Sys2Proof.Machine

/-- R490: a notice of a known domain that is not fenced here fences it. -/
theorem applyNotice_fences {s : State} {m : Notice} (kind : domKind m.domain ≠ 3) (valid : domOk s m.domain = true) (fence : m.unfence = false)
    (free : domFenced s m.domain = false) : applyNotice s m = fenceFor s m.domain 0xC m.origin (fun _ => m.gen) := by
  simp [applyNotice, kind, valid, fence, free]

/-- R493: a domain that is not fenced is fenced in one step and its completion waits; one that is fenced is BUSY. -/
theorem fenceDomain_fences : Claims.fenceDomain := by
  intro s u v h r n start valid
  refine ⟨fun free fenced recorded => ?_, fun fenced => ?_⟩
  · change execFenceDomain h s = _
    simp only [execFenceDomain, start, valid, free, fenced, ← recorded, Bool.not_true, Bool.false_eq_true, if_false]
  · change execFenceDomain h s = _
    simp only [execFenceDomain, start, valid, fenced, Bool.not_true, Bool.false_eq_true, if_false, if_true]

/-- R494: an entry of its own leaves with a record, one that an input holds is BUSY. -/
theorem unfenceDomain_unfences : Claims.unfenceDomain := by
  intro s u h r start valid own
  refine ⟨fun free unfenced v recorded => ?_, fun held => ?_⟩
  · change execUnfenceDomain h s = _
    simp only [execUnfenceDomain, start, valid, own, free, ← unfenced, ← recorded, Bool.not_true, Bool.false_eq_true, if_false]
  · change execUnfenceDomain h s = _
    simp only [execUnfenceDomain, start, valid, own, held, Bool.not_true, Bool.false_eq_true, if_false, if_true]

/-- R490: a notice seen before is counted only; a new one is forwarded and fences. -/
theorem fenceNotice_forwards : Claims.fenceNotice := by
  rintro s u n m made
  refine ⟨fun seen => ?_, fun new fence kind forwarded valid free => ?_⟩
  · change execFenceNotice n s = _
    simp only [execFenceNotice, ← made, bump_ras, seen, if_true]
  · change execFenceNotice n s = _
    have kept : m.unfence = false := by rw [made, fence]
    simp only [execFenceNotice, ← made, bump_ras, new, Bool.false_eq_true, if_false, ← forwarded, applyNotice_fences kind valid kept free]

/-- R495: at once while serving, deferred during a warm restart. -/
theorem domAlert_fences : Claims.domAlert := by
  intro s i released
  refine ⟨fun serving => ?_, fun restarting => ?_⟩
  · change execDomAlert i s = _
    simp only [execDomAlert, released, serving, Bool.false_eq_true, reduceCtorEq, or_self, if_false, if_true]
  · change execDomAlert i s = _
    simp only [execDomAlert, released, restarting, Bool.false_eq_true, or_true, if_false, if_true]

/-- R344: a trunk that is down for its time. -/
theorem portDownFenceTimeout_fences : Claims.portDownFenceTimeout := by
  intro s p t trunk unfenced down since due
  change execPortDownFenceTimeout p s = _
  simp only [execPortDownFenceTimeout, trunk, unfenced, down, since, if_neg (Nat.not_lt.mpr due), Bool.not_true, Bool.or_self, Bool.false_eq_true, if_false]

/-- R481: done again after a first failure, moved to a spare engine after a second. -/
theorem winchEngineFault_moves : Claims.winchEngineFault := by
  intro s e alive
  refine ⟨fun first => ?_, fun second spare => ?_⟩
  · change execWinchEngineFault e s = _
    simp only [execWinchEngineFault, alive, first, Bool.not_false, Bool.false_eq_true, if_false, if_true]
  · change execWinchEngineFault e s = _
    simp only [execWinchEngineFault, alive, second, spare, Bool.not_true, Bool.false_eq_true, if_false, if_true]

/-- R481: done again after a first fault, out for good after a second. -/
theorem compressionEngineFault_ends : Claims.compressionEngineFault := by
  intro s i alive
  refine ⟨fun first => ?_, fun second => ?_⟩
  · change execCompressionEngineFault i s = _
    simp only [execCompressionEngineFault, alive, first, Bool.false_eq_true, if_false]
  · change execCompressionEngineFault i s = _
    simp only [execCompressionEngineFault, alive, second, Bool.false_eq_true, if_false, if_true]

/-- R497: of a stack, of the device, and a malformed query. -/
theorem spareQuery_answers : Claims.spareQuery := by
  intro s h r m start
  refine ⟨fun stack known mode => ?_, fun device => ?_, fun bad => ?_⟩
  · change execSpareQuery h s = _
    obtain ⟨st, rfl⟩ | ⟨st, rfl⟩ | ⟨st, rfl⟩ := mode
    all_goals simp only [execSpareQuery, start, stack, Nat.lt_irrefl, if_false, if_true, if_neg (Nat.not_lt.mpr known), st]
  · change execSpareQuery h s = _
    simp only [execSpareQuery, start, device, Nat.not_lt_zero, if_false, Nat.zero_ne_one]
    rfl
  · change execSpareQuery h s = _
    simp only [execSpareQuery, start, bad, if_true]

/-- Settles O56: each row by the lemma about its command; a release has one branch only. -/
theorem fenceCommandsComplete : Obligations.FenceCommandsComplete :=
  ⟨fenceDomain_fences, unfenceDomain_unfences, fenceNotice_forwards, domAlert_fences, fun _ _ => rfl, portDownFenceTimeout_fences,
    winchEngineFault_moves, compressionEngineFault_ends, spareQuery_answers⟩

end Sys2Proof.Machine

/-! Trains and collectives (13, R317 to R334): what each command answers where it takes effect, and that every row of them does (O44, O45). -/

namespace Sys2Proof.Machine

/-! ## Train images -/

/-- An image that passes the checks of both opcodes is used (R319, R320). -/
theorem withTrainImage_used {s : State} {r : HandleRec} {img : List Byte} (h : Nat) (f : List Byte → State) (image : Claims.TrainImage s r img) :
    withTrainImage s h r f = f img := by
  obtain ⟨aligned, least, most, clean, fetched, crc, ok, unfenced⟩ := image
  have length : ¬ (d32 r.desc 24 < 128 ∨ 163904 < d32 r.desc 24) := not_or.mpr ⟨Nat.not_lt.mpr least, Nat.not_lt.mpr most⟩
  simp only [withTrainImage, aligned, if_neg length, clean, fetched, crc, ok, unfenced, ne_eq, not_true_eq_false, Bool.not_true, Bool.false_eq_true,
    if_false]

/-- An installation that this switch accepts asks every switch of the image. -/
theorem startTrain_asked {s : State} {h mode id gen : Nat} {owner : Key} {img : List Byte}
    (accepted : ∀ e ∈ Claims.Entries s id gen owner img, e.1 = switchId s → entryCheck s e.2 = .accepted) :
    startTrain s h mode id gen owner img = Claims.Asked s h id gen owner (Claims.AskOp s h mode id gen owner img) :=
  startTrain_asks accepted

/-! ## Train operations -/

/-- R317, R320: the lowest free train of this device. -/
theorem trainCreate_asks : Claims.trainCreate := by
  intro s h r img i start tenant image free accepted
  change execTrainCreate h s = _
  simp only [execTrainCreate, start, tenant, withTrainImage_used _ _ image, free, startTrain_asked accepted, Bool.not_true, Bool.false_eq_true, if_false]

/-- R321: the next generation of the train, which the command claims. -/
theorem trainEdit_asks : Claims.trainEdit := by
  intro s u h r img m t start replace free master entry claimed image accepted
  change execTrainEdit h s = _
  simp only [execTrainEdit, start, replace, free, master, entry, ← claimed, withTrainImage_used _ _ image, startTrain_asked accepted, Nat.zero_ne_one,
    ne_eq, not_true_eq_false, if_false]

/-- R321, R334: the entry here is dropped and the other switches are told. -/
theorem trainDelete_drops : Claims.trainDelete := by
  rintro s _ h r m _ start delete free master rfl rfl
  change execTrainDelete h s = _
  simp only [execTrainDelete, start, delete, free, master, ne_eq, not_true_eq_false, if_false]

/-- R320, R321: each message to a switch of the tree. -/
theorem trainEntryDistribute_answers : Claims.trainEntryDistribute := by
  intro s t
  refine ⟨fun check => ?_, fun check => ?_, fun check => ?_, fun check => ?_, fun id gen offered => ?_, fun id r known => ?_, fun _ _ => rfl⟩
  · change execTrainEntryDistribute (.entry t) s = _
    simp only [execTrainEntryDistribute, check, if_true]
  · change execTrainEntryDistribute (.entry t) s = _
    simp only [execTrainEntryDistribute, check, reduceCtorEq, if_false]
  · change execTrainEntryDistribute (.entry t) s = _
    simp only [execTrainEntryDistribute, check, reduceCtorEq, if_false]
  · change execTrainEntryDistribute (.entry t) s = _
    simp only [execTrainEntryDistribute, check, reduceCtorEq, if_false]
  · change execTrainEntryDistribute (.adopt id gen) s = _
    simp only [execTrainEntryDistribute, offered]
  · change execTrainEntryDistribute (.remove id) s = _
    simp only [execTrainEntryDistribute, known, Option.map_some, Option.getD_some]

/-! ## Segments -/

/-- R325: a new partial of a child within the window joins its instance. -/
theorem childSegment_joins {s : State} {i : Inst} {p : Nat} {g : SegMsg} (kind : i.par.kind ≠ 6) (child : (childTrunks s i).contains p = true)
    (window : g.seg < i.combined + 32) (new : i.contribs.any (fun c => c.child && c.idx == p && c.seg == g.seg) = false) :
    childSegment s i p g = instRun s { i with contribs := i.contribs ++ [{ seg := g.seg, child := true, idx := p, data := g.data, count := g.count }] } := by
  have fresh : ¬ (i.combined + 32 ≤ g.seg ∨ i.contribs.any (fun c => c.child && c.idx == p && c.seg == g.seg) = true) := by
    rw [new]
    exact not_or.mpr ⟨Nat.not_le.mpr window, Bool.false_ne_true⟩
  simp only [childSegment, child, if_neg kind, if_neg fresh, Bool.not_true, Bool.false_eq_true, if_false]

/-- R325 to R328: a segment of a foreign key, one with other parameters, a partial of a child and a result that comes down. -/
theorem segmentArrive_joins : Claims.segmentArrive := by
  rintro s _ g i found rfl
  refine ⟨fun p port foreign => ?_, fun keyed alive => ?_⟩
  · change execSegmentArrive g s = _
    simp only [execSegmentArrive, found, port] at foreign ⊢
    simp only [Option.any_some, foreign, Bool.not_false, if_true, Option.getD_some]
  · have native : (segPort i g.src).any (fun p => !ingressKey ((segPort i g.src).toList.foldl (fun s p => creditBack s p 5) s) p i.rcd.ent.owner) = false := by
      revert keyed
      cases segPort i g.src with
      | none => exact fun _ => rfl
      | some p => exact fun keyed => by simpa using keyed
    refine ⟨fun differs => ?_, fun p same child kind trunk window new => ?_, fun same down below released given next => ?_⟩
    · change execSegmentArrive g s = _
      simp only [execSegmentArrive, found, native, alive, differs, Bool.false_eq_true, false_and, if_false, ne_eq, not_false_eq_true, if_true]
    · change execSegmentArrive g s = _
      simp only [execSegmentArrive, found, native, alive, if_neg (not_not_intro same), Bool.false_eq_true, false_and, if_false]
      rw [child] at trunk ⊢
      exact congrArg _ (childSegment_joins kind trunk window new)
    · change execSegmentArrive g s = _
      simp only [execSegmentArrive, found, native, alive, if_neg (not_not_intro same), Bool.false_eq_true, false_and, if_false]
      rw [down]
      simp only [below, released, given, if_pos next, Bool.false_eq_true, if_false]

/-- Settles O44: each row by the lemma about its command. -/
theorem trainCommandsComplete : Obligations.TrainCommandsComplete :=
  ⟨trainCreate_asks, trainEdit_asks, trainDelete_drops, trainEntryDistribute_answers, segmentArrive_joins⟩

/-! ## Collectives -/

/-- What a descriptor of a member that passes R322 and R324 does: an MCAST is an instance of its own, the other kinds join one by their number. -/
theorem collRow_of_collective {kind : Nat} {s : State} {h : Nat} {r : HandleRec} {t : TrainRec} {m : TrainMember}
    (passes : Claims.Collective s h r t m kind) :
    collRow kind h s =
      if kind = 6 then
        if !instRoom s (d32 r.desc 8) then s
        else postInto { s with train := { s.train with nextMcast := s.train.nextMcast + 1 } } h r
          { rcd := t, seq := s.train.nextMcast, poster := some (d16 r.desc 12), par := Claims.Par r kind }
      else match findInst s (d32 r.desc 8) t.ent.gen.toNat (d32 r.desc 16) none with
        | some i =>
          if i.posts.any (fun q => q.member == d16 r.desc 12) then commit s h .busy 0 0
          else if i.par ≠ Claims.Par r kind then
            mismatch (postInto s h r i) ((findInst (postInto s h r i) (d32 r.desc 8) t.ent.gen.toNat (d32 r.desc 16) none).getD i) none
          else postInto s h r i
        | none =>
          if isDead s (d32 r.desc 8) t.ent.gen.toNat (d32 r.desc 16) then badDesc s h 14
          else if instRoom s (d32 r.desc 8) then postInto s h r { rcd := t, seq := d32 r.desc 16, par := Claims.Par r kind } else s := by
  obtain ⟨start, row, train, good, owner, gen, live, poster⟩ := passes
  have kindly : ¬ (d8 r.desc 14 ≠ kind ∧ ¬ (kind = 0 ∧ 6 < d8 r.desc 14)) := fun other => other.1 row
  have current : ¬ (d16 r.desc 20 ≠ 0 ∧ d16 r.desc 20 ≠ t.ent.gen.toNat) := fun stale => gen.elim stale.1 stale.2
  simp only [collRow, start, if_neg kindly, train, Option.map_some, Option.getD_some, Option.bind_some, good, if_neg (not_not_intro owner), if_neg current,
    live, poster, Bool.false_eq_true, if_false]
  rfl

/-- R324, R330: a first post opens its instance, a further one joins it, a second of the same member is BUSY. -/
theorem collective_joins {kind : Nat} (known : kind ≠ 6) {row : Handle → Instr} (runs : ∀ h s, exec (row h) s = .next (collRow kind h.toNat s)) :
    Claims.Joins kind row := by
  intro s h r t m passes
  rw [runs, collRow_of_collective passes, if_neg known]
  refine ⟨fun first alive room => ?_, fun i joined once same => ?_, fun i joined twice => ?_⟩
  · simp only [first, alive, room, Bool.false_eq_true, if_false, if_true]
  · simp only [joined, once, same, Bool.false_eq_true, if_false, ne_eq, not_true_eq_false]
  · simp only [joined, twice, if_true]

/-- R330, R335: an instance of its poster, under a number of its own. -/
theorem mcast_opens : Claims.mcast := by
  intro s h r t m passes room
  change Host.Outcome.next (collRow 6 h.toNat s) = _
  rw [collRow_of_collective passes, room]
  rfl

/-- Settles O45: the six kinds that join an instance by one lemma, MCAST by its own. -/
theorem collectivesComplete : Obligations.CollectivesComplete :=
  ⟨collective_joins (by decide) fun _ _ => rfl, collective_joins (by decide) fun _ _ => rfl, collective_joins (by decide) fun _ _ => rfl,
    collective_joins (by decide) fun _ _ => rfl, collective_joins (by decide) fun _ _ => rfl, collective_joins (by decide) fun _ _ => rfl, mcast_opens⟩

end Sys2Proof.Machine

/-! Paths, markers and tethers (14, R342 to R360, R490): what each command answers where it takes effect, and that every row of them does (O46). -/

namespace Sys2Proof.Machine

/-- R342, R343: to the next port, to this switch past the last hop, and the two ways of a discard. -/
theorem transitHop_hops : Claims.transitHop := by
  rintro s _ p k rfl serving notHost trunk
  refine ⟨fun keyed ckey slots => ⟨fun valid more => ?_, fun valid last => ?_, fun c invalid => ?_⟩, fun foreign => ?_⟩
  · change execTransitHop p k s = _
    simp only [execTransitHop, serving, notHost, trunk, keyed, ckey, slots, valid, if_neg more, Bool.not_true, Bool.or_self, Bool.false_eq_true, ne_eq,
      not_true_eq_false, if_false]
  · change execTransitHop p k s = _
    simp only [execTransitHop, serving, notHost, trunk, keyed, ckey, slots, valid, if_pos last, Bool.not_true, Bool.or_self, Bool.false_eq_true, ne_eq,
      not_true_eq_false, if_false]
  · change execTransitHop p k s = _
    simp only [execTransitHop, serving, notHost, trunk, keyed, ckey, slots, invalid, Bool.not_true, Bool.or_self, Bool.false_eq_true, ne_eq,
      not_true_eq_false, if_false]
  · change execTransitHop p k s = _
    simp only [execTransitHop, serving, notHost, trunk, foreign, Bool.not_true, Bool.not_false, Bool.true_or, Bool.false_eq_true, ne_eq,
      not_true_eq_false, if_false, if_true]

/-- R351, R353: an image that passes every check becomes the next generation. -/
theorem pathUpdate_publishes : Claims.pathUpdate := by
  intro s h r b start aligned least most whole idle clean fetched crc gen length count reserved entries
  have size : ¬ (d32 r.desc 16 < 144 ∨ 64 + 80 * 8192 < d32 r.desc 16 ∨ (d32 r.desc 16 - 64) % 80 ≠ 0) :=
    not_or.mpr ⟨Nat.not_lt.mpr least, not_or.mpr ⟨Nat.not_lt.mpr most, not_not_intro whole⟩⟩
  have current : ¬ (d32 r.desc 20 ≠ 0 ∧ d32 r.desc 20 ≠ s.route.gen) := fun stale => gen.elim stale.1 stale.2
  have header : ¬ (b.length ≠ d32 r.desc 16 ∨ imgNat b 0 4 ≠ (d32 r.desc 16 - 64) / 80 ∨ imgNat b 4 60 ≠ 0) :=
    not_or.mpr ⟨not_not_intro length, not_or.mpr ⟨not_not_intro count, not_not_intro reserved⟩⟩
  change execPathUpdate h s = _
  simp only [execPathUpdate, start, if_neg (not_not_intro aligned), if_neg size, idle, clean, fetched, if_neg (not_not_intro crc), if_neg current,
    if_neg header, entries, Bool.false_eq_true, if_false]

/-- R353: at a port where bridles end. -/
theorem pathmark_acknowledges : Claims.pathmark := fun _ _ _ _ _ ends => if_pos ends

/-- R353: the marker that the acknowledgement names. -/
theorem markack_releases : Claims.markack := by
  intro s b tc m waiting
  change execMarkack b tc s = _
  simp only [execMarkack, waiting]

/-- R357: a tether whose own entry is accepted asks the other switches of its route, and starts where there are none. -/
theorem openTether_opens {s : State} {h : Nat} {t : Tether} (unfenced : fencedHop s t = none) (single : tetherMatched s t = false)
    (accepted : tetherCheck s t true = .accepted) :
    openTether s h t =
      let u := t.route.foldl (fun u e => if e.1 = switchId u then u else sendSwitch u e.1 "TetherEntry" [t.id, e.2.1, e.2.2, t.tc, t.units, t.owner.toNat])
        (addTether (markStarted s h) t)
      if (routeOthers u t).isEmpty then startTether u t else u := by
  simp only [openTether, unfenced, single, accepted, Bool.false_eq_true, if_false]

/-- R356, R357: the lowest free tether of this device. -/
theorem tetherOpen_opens : Claims.tetherOpen := by
  rintro s u h r b i t start aligned clean fetched crc plan tenant free planned unfenced single accepted asked
  have opens : exec (.tetherOpen h) s = .next (if (routeOthers u t).isEmpty then startTether u t else u) := by
    change execTetherOpen h s = _
    simp only [execTetherOpen, start, if_neg (not_not_intro aligned), clean, fetched, if_neg (not_not_intro crc), plan, tenant, free, Nat.reducePow,
      ← planned, openTether_opens unfenced single accepted, ← asked, Bool.not_true, Bool.false_eq_true, if_false]
  rw [opens]
  exact ⟨fun others => by rw [if_neg (mt List.isEmpty_iff.mp others)], fun alone => by rw [alone]; rfl⟩

/-- R359, R360: by the state of the tether. -/
theorem tetherClose_closes : Claims.tetherClose := by
  intro s h r t start found
  refine ⟨fun active idle => ?_, fun broken => ?_, fun moving => ?_⟩
  · change execTetherClose h s = _
    simp only [execTetherClose, start, found, active, idle, Bool.false_eq_true, if_false]
  · change execTetherClose h s = _
    simp only [execTetherClose, start, found, broken]
  · change execTetherClose h s = _
    obtain opening | closing := moving
    · simp only [execTetherClose, start, found, opening]
    · simp only [execTetherClose, start, found, closing]

/-- R357, R360: an entry that can be admitted is kept, any other is answered, and one of another source is removed when told. -/
theorem tetherEntryInstall_answers : Claims.tetherEntryInstall := by
  intro s
  refine ⟨?_, fun id t found other => ?_⟩
  · rintro x _ rfl new
    refine ⟨fun accepted => ?_, fun refused => ?_⟩
    · change execTetherEntryInstall (.entry x) s = _
      simp only [execTetherEntryInstall, new, accepted, tetherCode, Nat.reducePow, Option.isSome_none, Bool.false_eq_true, if_false, if_true]
    · change execTetherEntryInstall (.entry x) s = _
      simp only [execTetherEntryInstall, new, if_neg refused, Nat.reducePow, Option.isSome_none, Bool.false_eq_true, if_false]
  · change execTetherEntryInstall (.remove id) s = _
    simp only [execTetherEntryInstall, found, other, Nat.reducePow, Bool.false_eq_true, if_false]

/-- Settles O46: each row by the lemma about its command; a report has one branch only. -/
theorem pathCommandsComplete : Obligations.PathCommandsComplete :=
  ⟨transitHop_hops, pathUpdate_publishes, pathmark_acknowledges, markack_releases, tetherOpen_opens, tetherClose_closes, tetherEntryInstall_answers,
    fun _ _ _ _ _ => rfl⟩

end Sys2Proof.Machine

/-! Cells and faults of the switch core (15, R366 to R383): what each command answers where it takes effect, and that every row of them does (O47). -/

namespace Sys2Proof.Machine

/-! ## Ingress -/

/-- Whether a cell of a stream without a tether is discarded, and the state after the decision (R395): a lossless cell never, a first cell by the
average depth, a later one with its packet. -/
def discards (s : State) (c : Cell) (pos : Nat) : Bool × State :=
  if c.tc.toNat < 4 ∧ c.kind = .data then
    if c.start then wredDrops (Claims.Numbered s c pos) c
    else ((Claims.Numbered s c pos).core.dropping.contains (streamKey c.port.val c.src.val c.tc.toNat), Claims.Numbered s c pos)
  else (false, Claims.Numbered s c pos)

section Ingress
variable {s : State} {k : SliceId} {c : Cell} {pos : Nat} (live : livePos s k.val = some pos) (serving : s.sys.st = .serving)
  (here : (srcPos c.src.val).any (· != pos) = false)
include live serving here

/-- A train's data cell is copied (R379). -/
theorem execCellIngress_train {id : BitVec 32} (train : c.train = some id) (data : c.tc = 5 ∧ c.kind = .data) :
    execCellIngress k c s = .next (trainIngress s pos c id.toNat) := by
  simp only [execCellIngress, live, serving, here, train, if_pos data, Option.isSome_some, Option.getD_some, ne_eq, not_true_eq_false,
    Bool.false_eq_true, or_self, if_false, if_true]

/-- A cell without train and tether is numbered, takes its middle position and is spread, or leaves its notice (R367 to R369, R374, R395). -/
theorem execCellIngress_plain (train : c.train = none) (port : egressPort s c.port.val = true) (tether : c.tether = none) {d : Bool} {w v : State}
    {m : Nat} (decided : discards s c pos = (d, w)) (next : nextPos (Claims.Dropping w c (d && !c.fin)) (c.src.val * 8 + c.tc.toNat) = (m, v)) :
    execCellIngress k c s =
      if d then .next (spreadCell (countNotice (bump v (coreCnt pos 5)) pos) (asNotice (Claims.InCore s v c pos m)) [])
      else match admitCell v pos (Claims.InCore s v c pos m) with
        | some u => .next (spreadCell u (Claims.InCore s v c pos m) [])
        | none => .next (spreadCell (countNotice (bump v (coreCnt pos 5)) pos) (asNotice (Claims.InCore s v c pos m)) []) := by
  have away : ¬ (s.sys.st ≠ .serving ∨ (srcPos c.src.val).any (· != pos) = true) := by simp [serving, here]
  simp only [discards, Claims.Numbered] at decided
  simp only [Claims.Dropping] at next
  simp only [execCellIngress, live, if_neg away, train, port, tether, Option.isSome_none, Option.isNone_none, Option.bind_none, Bool.false_eq_true,
    Bool.true_eq_false, if_false, true_and, decided, next]
  rfl

end Ingress

/-- A cell finds a free cell of its role (R365). -/
theorem admitCell_free {s : State} {pos : Nat} (c : CoreCell) (free : 0 < freeCells s pos) : admitCell s pos c = some s := by
  simp [admitCell, free]

/-- R366 to R369, R374, R379, R395: a lossless cell, a lossy packet with and without a discard, and a train's cell. -/
theorem cellIngress_spreads : Claims.cellIngress := by
  intro s k c pos live serving here
  refine ⟨fun train port tether => ⟨fun lossless m v next free => ?_, fun lossy data start w m v drop next => ?_,
    fun lossy data start w m v keep next free => ?_⟩, fun id train tc data => execCellIngress_train live serving here train ⟨tc, data⟩⟩
  · have decided : discards s c pos = (false, Claims.Numbered s c pos) := if_neg fun h => Nat.not_lt.mpr lossless h.1
    refine (execCellIngress_plain live serving here train port tether decided next).trans ?_
    rw [admitCell_free _ free]
    rfl
  · have decided : discards s c pos = (true, w) := by rw [discards, if_pos ⟨lossy, data⟩, if_pos start, drop]
    exact execCellIngress_plain live serving here train port tether decided next
  · have decided : discards s c pos = (false, w) := by rw [discards, if_pos ⟨lossy, data⟩, if_pos start, keep]
    refine (execCellIngress_plain live serving here train port tether decided next).trans ?_
    rw [admitCell_free _ free]
    rfl

/-! ## Pulls -/

theorem pullCell_admitted {u w : State} {c : CoreCell}
    (room : admitCell { u with core := { u.core with middle := u.core.middle.erase c } } (c.cell.port.val / 8) c = some w) :
    pullCell u c = { w with core := { w.core with pulled := w.core.pulled ++ [c] } } := by
  simp only [pullCell, room]

theorem pullCell_noticed {u v w : State} {c : CoreCell} (taken : v = { u with core := { u.core with middle := u.core.middle.erase c } })
    (full : admitCell v (c.cell.port.val / 8) c = none)
    (noticed : w = countNotice (bump v (coreCnt (c.cell.port.val / 8) 5)) (c.cell.port.val / 8)) :
    pullCell u c = { w with core := { w.core with pulled := w.core.pulled ++ [asNotice c] } } := by
  subst taken noticed
  simp only [pullCell, full]

/-- R370 to R372: a pull that a port's slot or class gives moves the rotation of its link. -/
theorem execMiddlePull_pulls {s t : State} {k e : SliceId} {m dst j : Nat} (live : livePos s k.val = some m) (egress : livePos s e.val = some dst)
    (first : ((List.range 8).map (fun i => (tblGet s.core.portPtr (dst * 16 + m) 0 + i) % 8)).find? (fun j => (portPull s m (8 * dst + j)).isSome) = some j)
    (pull : portPull s m (8 * dst + j) = some t) :
    execMiddlePull k e s = .next { t with core := { t.core with portPtr := tblPut t.core.portPtr (dst * 16 + m) ((j + 1) % 8) } } := by
  simp only [execMiddlePull, live, egress, first, pull]

/-- R370 to R374: the cell of the slot, else of the next class, or its notice. -/
theorem middlePull_pulls : Claims.middlePull := by
  rintro s u _ k e m dst j c live egress first source rfl
  have pull : portPull s m (8 * dst + j) = some (pullCell u c) := by
    obtain ⟨g, _, slot, rfl, rfl⟩ | ⟨noSlot, cls, rfl⟩ := source
    · simp only [portPull, slot]
    · simp only [portPull, noSlot, cls, Option.map_some]
  refine ⟨fun w room => ?_, fun w full noticed => ?_⟩
  · refine (execMiddlePull_pulls live egress first pull).trans ?_
    rw [pullCell_admitted room]
  · refine (execMiddlePull_pulls live egress first pull).trans ?_
    rw [pullCell_noticed rfl full noticed]

/-! ## Credits, resequencing and faults -/

/-- R366: a credit that has left returns to its tuple. -/
theorem stageCreditReturn_returns : Claims.stageCreditReturn := by
  intro s i e m tc a b ingress egress left
  change execStageCreditReturn i m e tc s = _
  simp only [execStageCreditReturn, ingress, egress, left, if_true]

/-- R375, R376: a cell that has become next is counted as no cell ahead. -/
theorem resequenceCell_releases : Claims.resequenceCell := by
  rintro s p src tc seq c _ pulled rfl next
  change execResequenceCell p src tc seq s = _
  simp only [execResequenceCell, pulled, if_neg (not_not_intro next)]

/-- R381: a spare row of the slice. -/
theorem bufferRowFault_spares : Claims.bufferRowFault := by
  intro s k works spare
  change execBufferRowFault k false s = _
  simp only [execBufferRowFault, works, spare, Bool.true_eq_false, Bool.false_eq_true, if_false, if_true]

/-- R382, R383: the spare slice takes over, or the device stops. -/
theorem sliceFault_takesOver : Claims.sliceFault := by
  intro s k pos works held
  have fails : exec (.sliceFault k) s = .next (failSlice s k.val 3) := if_pos works
  rw [fails]
  refine ⟨?_, fun none_ => ?_⟩
  · rintro sp _ spare other rfl
    have kept : ¬ s.core.spare = some k.val := by simpa [spare] using other
    simp only [failSlice, if_neg kept, held]
    rw [spare]
  · simp only [failSlice, none_, reduceCtorEq, if_false]

/-- R382: the spare holds the position, and none is left. -/
theorem sliceTakeoverDone_holds : Claims.sliceTakeoverDone := by
  rintro s _ pos taking failed rfl
  have lost : (setBit (setBit s (sliceBase pos + 0x18) 2) (sliceBase 16 + 0x18) 2).core.failed.contains
      (holderOf (setBit (setBit s (sliceBase pos + 0x18) 2) (sliceBase 16 + 0x18) 2) pos) = true := failed
  change execSliceTakeoverDone s = _
  simp only [execSliceTakeoverDone, taking, lost, if_true]

/-- Settles O47: each row by the lemma about its command. -/
theorem coreEventsComplete : Obligations.CoreEventsComplete :=
  ⟨cellIngress_spreads, stageCreditReturn_returns, middlePull_pulls, resequenceCell_releases, bufferRowFault_spares, sliceFault_takesOver,
    sliceTakeoverDone_holds⟩

end Sys2Proof.Machine
